-- ==== Sys2Proof/Word.lean ====
section
/-! DEFINITION. The word and byte types of the device and the sparse table that every indexed store of the model is. -/

namespace Sys2Proof

/-- A 32-bit word of a packet, a register or a memory (02 R67). -/
abbrev Word := BitVec 32

/-- A byte of device or host memory. -/
abbrev Byte := BitVec 8

/-- A sparse table: the entries of an indexed store that differ from what an unlisted index reads as,
in strictly rising order of index (`Tab.wf` in Machine/Table.lean states the form). -/
abbrev Tab (α : Type) := List (Nat × α)

end Sys2Proof
end

