-- ==== Sys2Proof/Machine/Units/Acq.lean ====
section
/-! DEFINITION. The state of the acquisition engine (chapter 09). -/

namespace Sys2Proof.Machine

/-- A publication (09 R308): entry, time stamp in ns, value as the raw bits of its type. -/
structure Publication where
  entry : Nat
  stamp : Nat
  value : Nat
  /-- Device time has been set since: the stamp is of the time base before (R321). -/
  old : Bool := false
  deriving DecidableEq, Repr

/-- One entry of the signal index (R308, R310, R313). -/
structure IndexEntry where
  value : Nat := 0
  stamp : Nat := 0
  published : Bool := false
  /-- REDUCE: bit 0 MIN, 1 MAX, 2 MEAN, 3 LAST, 4 SUM, 5 RMS, 6 COUNT. -/
  reduce : Nat := 8
  /-- TYPE of a user entry. -/
  userType : Nat := 2
  deriving DecidableEq, Repr

/-- A record queued in a capture's region (R320, R322). Its words lie in capture memory. -/
structure QueuedRecord where
  /-- First slot of the region that it occupies, and the slots it occupies. -/
  slot : Nat
  slots : Nat
  nwords : Nat
  rseq : Nat
  time : Nat
  lengthNs : Nat
  log2 : Nat
  deriving DecidableEq, Repr

/-- Records lost since the last GAP record (R339). -/
structure Lost where
  rseq : Nat
  time : Nat
  lengthNs : Nat
  count : Nat
  log2 : Nat
  cause : Nat
  deriving DecidableEq, Repr

/-- An event of a trigger unit that a capture has yet to write down (R331, R332), or an ACQ_MARK (R333). -/
structure TrigEvent where
  unit : Nat
  stamp : Nat
  kind : Nat
  value : Nat
  /-- Written by ACQ_MARK, which marks no TRIG_MASK. -/
  mark : Bool := false
  deriving DecidableEq, Repr

/-- The states of a window buffer (R324). -/
inductive BufState where
  | free | filling | complete | sending
  deriving DecidableEq, Repr

/-- BUFFERS of ACQ.STATUS. -/
def BufState.num : BufState → Nat
  | .free => 0 | .filling => 1 | .complete => 2 | .sending => 3

/-- One window buffer (R324): its state, and once sending the records still to copy, each with its address and length
in words. -/
structure WinBuffer where
  state : BufState := .free
  toSend : List (Nat × Nat) := []
  deriving DecidableEq, Repr

/-- A window in progress (R325, R326). -/
structure Window where
  cause : Nat
  coinc : List Nat
  stamp : Nat
  /-- The end in µs of the window's last interval. -/
  endB : Nat
  /-- The ordinal of the trigger record in the buffer, and its RSEQ. -/
  trigOrd : Nat
  rseq : Nat
  deadNs : Nat
  ignoredPre : Nat
  ignoredPost : Nat := 0
  /-- Events ignored between the end of the window and its completion: they fall in the next dead time (R328). -/
  ignoredAfter : Nat := 0
  spilled : Nat := 0
  deriving DecidableEq, Repr

/-- One capture (R316, R349, R353). -/
structure Capture where
  configured : Bool := false
  windowClass : Bool := false
  recordUs : Nat := 0
  decMin : Nat := 0
  /-- 0 AUTO, 1 REDUCE, 2 GAP. -/
  overload : Nat := 0
  ring : Nat := 0
  regionBase : Nat := 0
  regionSize : Nat := 0
  settle : Nat := 1000
  lateUs : Nat := 100
  configId : Nat := 0
  pre : Nat := 0
  post : Nat := 0
  nwin : Nat := 0
  spill : Bool := false
  autoSend : Bool := false
  rearm : Bool := false
  members : List Nat := []
  running : Bool := false
  /-- The boundary in µs at which a STOP takes effect. -/
  stopAt : Option Nat := none
  log2 : Nat := 0
  lowSince : Option Nat := none
  /-- Policy GAP is in force. -/
  gapPolicy : Bool := true
  /-- LOG2_DEC asked for by SET_RATE, and the µs of the command. -/
  hostRate : Option (Nat × Nat) := none
  /-- Start in µs of the first interval, and of the interval that closes next. -/
  startB : Nat := 0
  nextB : Nat := 0
  /-- GRAZE stopped the intervals at the boundary given (R321). -/
  pausedAt : Option Nat := none
  /-- Publications of intervals that have not closed. -/
  held : List Publication := []
  /-- The latest value of each member before the interval that closes next. -/
  lastVals : Tab Nat := []
  /-- The spans in ns of device time whose intervals have closed, newest first, and those before device time was last set: a
  publication stamped in one is late (R318). -/
  closed : List (Nat × Nat) := []
  closedOld : List (Nat × Nat) := []
  /-- Late publications since the previous DATA record (R318). -/
  late : Nat := 0
  trigs : List TrigEvent := []
  queue : List QueuedRecord := []
  /-- The next free slot of the region. -/
  slotNext : Nat := 0
  /-- Losses that a GAP record will cover, oldest first (R339). -/
  lost : List Lost := []
  armed : Bool := false
  bufs : Tab WinBuffer := []
  filling : Option Nat := none
  /-- The boundary in µs from which the FILLING buffer takes records on the present time base, and the ordinal in the
  buffer of the record that begins there. -/
  fillFrom : Nat := 0
  fillOrd : Nat := 0
  /-- Buffers in SENDING, in the order of their windows. -/
  sending : List Nat := []
  /-- The instant in ns from which dead time counts (R328), and ignored events since. -/
  deadFrom : Nat := 0
  deadIgnoredPre : Nat := 0
  window : Option Window := none
  records : Nat := 0
  gaps : Nat := 0
  lostCount : Nat := 0
  lateCount : Nat := 0
  lossRecords : Nat := 0
  windows : Nat := 0
  /-- Windows completed since START (R346). -/
  windowNo : Nat := 0
  ignoredPre : Nat := 0
  ignoredPost : Nat := 0
  ignoredFull : Nat := 0
  spilled : Nat := 0
  lastDeadNs : Nat := 0
  deriving DecidableEq, Repr

/-- One trigger unit (R329, R350). -/
structure TrigUnit where
  kind : Nat := 0
  source : Nat := 0
  /-- LEVEL and LEVEL2, REAL64. -/
  level : Nat := 0
  level2 : Nat := 0
  mask : Nat := 0
  matchW : Nat := 0
  targets : Nat := 0
  holdoffUs : Nat := 0
  /-- The condition has not held since arming or since the last event (R330); for kinds 3 and 4, the value has been
  beyond the hysteresis band. -/
  ready : Bool := false
  holdUntil : Nat := 0
  /-- The microseconds in which the unit fired, latest first. -/
  firedUs : List Nat := []
  /-- A kind CYCLE unit that fired. -/
  spent : Bool := false
  deriving DecidableEq, Repr

/-- A histogram engine (R334). -/
structure Hist where
  enable : Bool := false
  source : Nat := 0
  low : Nat := 0
  width : Nat := 0
  nan : Nat := 0
  deriving DecidableEq, Repr

/-- A persistence-map engine (R335). -/
structure Pmap where
  enable : Bool := false
  xy : Bool := false
  trig : Nat := 0
  ySource : Nat := 0
  xSource : Nat := 0
  yLow : Nat := 0
  yWidth : Nat := 0
  xLow : Nat := 0
  colUs : Nat := 0
  xWidth : Nat := 0
  decayMs : Nat := 0
  /-- The stamp of the trigger of the sweep that runs. -/
  sweep : Option Nat := none
  /-- The X publications since the engine was enabled, newest first, as stamp and REAL64 value. -/
  lastX : List (Nat × Nat) := []
  /-- The clock of the last decay, or of the configuration. -/
  decayFrom : Nat := 0
  points : Nat := 0
  deriving DecidableEq, Repr

/-- The acquisition engine (09). -/
structure AcqUnit where
  index : Tab IndexEntry := []
  /-- DROPPED of each entry (R310, R312). -/
  dropped : Tab Nat := []
  /-- The latest publication of each entry, as stamp in ns and value (06 R194). -/
  latest : Tab (Option (Nat × Nat)) := []
  /-- Publications made, and the number of the latest one of each entry (06 R192). -/
  pubCount : Nat := 0
  pubNo : Tab Nat := []
  captures : Tab Capture := []
  triggers : Tab TrigUnit := []
  hists : Tab Hist := []
  pmaps : Tab Pmap := []
  /-- The ingest queue (R312). -/
  ingest : List Publication := []
  /-- Publications dropped at a full queue, for the LOSS of the intervals they fall in (R312). -/
  lossOwed : List Publication := []
  /-- User publications of the present microsecond (R310). -/
  userUs : Nat := 0
  userCount : Nat := 0
  deriving DecidableEq, Repr

end Sys2Proof.Machine
end

