-- ==== Sys2Proof/Messages.lean ====
section
/-! DEFINITION. The messages that reach the device from outside: command packets, and the operands of the event rows. -/

namespace Sys2Proof

/-- The packet commands of the opcode index (02 R82), one constructor per row. -/
inductive Op where
  | devIdentify
  | devReset
  | devResume
  | devSetMode
  | devSafeAck
  | devStatus
  | devResumeConfig
  | devCycleConfig
  | devCycleStatus
  | devChangeover
  | memRead
  | memWrite
  | memFill
  | memDma
  | memScrubConfig
  | memErrStatus
  | memFaultQueue
  | pwrLatencySet
  | pwrState
  | pwrGrazeConfig
  | pwrMonitorConfig
  | pwrMonitorRead
  | pwrDomainRetry
  | graphLoad
  | graphVerify
  | graphArm
  | graphDisarm
  | graphControl
  | graphStep
  | graphForce
  | graphVarRead
  | graphVarWrite
  | graphRollback
  | graphStatus
  | schedConfig
  | schedCounters
  | schedClearCounters
  | schedStatus
  | loopChannelConfig
  | loopCoefWrite
  | loopBankArm
  | loopBankSwap
  | loopMode
  | loopStateRead
  | loopRepConfig
  | loopRepControl
  | loopLatency
  | axisConfig
  | axisTableWrite
  | axisStart
  | axisStop
  | axisStatus
  | axisSetPosition
  | axisStandstill
  | adcConfig
  | adcTableWrite
  | adcGroupConfig
  | adcUrgent
  | adcCalibrate
  | adcCalRead
  | adcCalWrite
  | adcStatus
  | acqSignalConfig
  | acqStreamConfig
  | acqWindowConfig
  | acqTriggerConfig
  | acqHistConfig
  | acqPmapConfig
  | acqControl
  | acqStatus
  | acqIndexRead
  | ringConfig
  | ringScheduleWrite
  | ringModeArm
  | ringStart
  | ringStatus
  | ringCounters
  | ringSyncConfig
  | ringTopology
  | canConfig
  | canFilterConfig
  | canBufferConfig
  | canTransmit
  | canCancel
  | canStatus
  | canRecover
  | canCounterConfig
  | timePortConfig
  | timePtpConfig
  | timeDomainSelect
  | timeRead
  | timeTsQueueRead
  | timeUdpConfig
  | timeStatus
  | safeParamLoad
  | safeSwitchRead
  | safeStatus
  | safeStop
  | safeReset
  | safeDiagRead
  | safeMemRead
  | pairConfig
  | pairStatus
  | pairHandover
  | pairCheckpointConfig
  | pairStandbyCheck
  | tallyConfig
  | tallyCursor
  | tallyRead
  | tallyClear
  | tallyStatus
  | dioInputConfig
  | dioOutputConfig
  | dioPwmConfig
  | dioEncConfig
  | dioRead
  | dioWrite
  | dioStatus
  | hostRingCreate
  | hostRingDestroy
  | hostEventRoute
  deriving DecidableEq, Repr

/-- The opcode of a command: unit number in [15:8], function in [7:0] (02 R67, R82). -/
def Op.code : Op → Nat
  | .devIdentify => 0x0001
  | .devReset => 0x0002
  | .devResume => 0x0003
  | .devSetMode => 0x0004
  | .devSafeAck => 0x0005
  | .devStatus => 0x0006
  | .devResumeConfig => 0x0007
  | .devCycleConfig => 0x0010
  | .devCycleStatus => 0x0011
  | .devChangeover => 0x0012
  | .memRead => 0x0101
  | .memWrite => 0x0102
  | .memFill => 0x0103
  | .memDma => 0x0104
  | .memScrubConfig => 0x0105
  | .memErrStatus => 0x0106
  | .memFaultQueue => 0x0107
  | .pwrLatencySet => 0x0201
  | .pwrState => 0x0202
  | .pwrGrazeConfig => 0x0203
  | .pwrMonitorConfig => 0x0204
  | .pwrMonitorRead => 0x0205
  | .pwrDomainRetry => 0x0206
  | .graphLoad => 0x0301
  | .graphVerify => 0x0302
  | .graphArm => 0x0303
  | .graphDisarm => 0x0304
  | .graphControl => 0x0305
  | .graphStep => 0x0306
  | .graphForce => 0x0307
  | .graphVarRead => 0x0308
  | .graphVarWrite => 0x0309
  | .graphRollback => 0x030A
  | .graphStatus => 0x030B
  | .schedConfig => 0x0401
  | .schedCounters => 0x0402
  | .schedClearCounters => 0x0403
  | .schedStatus => 0x0404
  | .loopChannelConfig => 0x0501
  | .loopCoefWrite => 0x0502
  | .loopBankArm => 0x0503
  | .loopBankSwap => 0x0504
  | .loopMode => 0x0505
  | .loopStateRead => 0x0506
  | .loopRepConfig => 0x0507
  | .loopRepControl => 0x0508
  | .loopLatency => 0x0509
  | .axisConfig => 0x0601
  | .axisTableWrite => 0x0602
  | .axisStart => 0x0603
  | .axisStop => 0x0604
  | .axisStatus => 0x0605
  | .axisSetPosition => 0x0606
  | .axisStandstill => 0x0607
  | .adcConfig => 0x0701
  | .adcTableWrite => 0x0702
  | .adcGroupConfig => 0x0703
  | .adcUrgent => 0x0704
  | .adcCalibrate => 0x0705
  | .adcCalRead => 0x0706
  | .adcCalWrite => 0x0707
  | .adcStatus => 0x0708
  | .acqSignalConfig => 0x0801
  | .acqStreamConfig => 0x0802
  | .acqWindowConfig => 0x0803
  | .acqTriggerConfig => 0x0804
  | .acqHistConfig => 0x0805
  | .acqPmapConfig => 0x0806
  | .acqControl => 0x0807
  | .acqStatus => 0x0808
  | .acqIndexRead => 0x0809
  | .ringConfig => 0x0901
  | .ringScheduleWrite => 0x0902
  | .ringModeArm => 0x0903
  | .ringStart => 0x0904
  | .ringStatus => 0x0905
  | .ringCounters => 0x0906
  | .ringSyncConfig => 0x0907
  | .ringTopology => 0x0908
  | .canConfig => 0x0A01
  | .canFilterConfig => 0x0A02
  | .canBufferConfig => 0x0A03
  | .canTransmit => 0x0A04
  | .canCancel => 0x0A05
  | .canStatus => 0x0A06
  | .canRecover => 0x0A07
  | .canCounterConfig => 0x0A08
  | .timePortConfig => 0x0B01
  | .timePtpConfig => 0x0B02
  | .timeDomainSelect => 0x0B03
  | .timeRead => 0x0B04
  | .timeTsQueueRead => 0x0B05
  | .timeUdpConfig => 0x0B06
  | .timeStatus => 0x0B07
  | .safeParamLoad => 0x0C01
  | .safeSwitchRead => 0x0C02
  | .safeStatus => 0x0C03
  | .safeStop => 0x0C04
  | .safeReset => 0x0C05
  | .safeDiagRead => 0x0C06
  | .safeMemRead => 0x0C07
  | .pairConfig => 0x0D01
  | .pairStatus => 0x0D02
  | .pairHandover => 0x0D03
  | .pairCheckpointConfig => 0x0D04
  | .pairStandbyCheck => 0x0D05
  | .tallyConfig => 0x0E01
  | .tallyCursor => 0x0E02
  | .tallyRead => 0x0E03
  | .tallyClear => 0x0E04
  | .tallyStatus => 0x0E05
  | .dioInputConfig => 0x0F01
  | .dioOutputConfig => 0x0F02
  | .dioPwmConfig => 0x0F03
  | .dioEncConfig => 0x0F04
  | .dioRead => 0x0F05
  | .dioWrite => 0x0F06
  | .dioStatus => 0x0F07
  | .hostRingCreate => 0x1001
  | .hostRingDestroy => 0x1002
  | .hostEventRoute => 0x1003

/-- Commands 0 to 10 of the opcode index. -/
def Op.part0 : List Op := [Op.devIdentify, Op.devReset, Op.devResume, Op.devSetMode, Op.devSafeAck, Op.devStatus, Op.devResumeConfig, Op.devCycleConfig, Op.devCycleStatus, Op.devChangeover, Op.memRead]

/-- Commands 11 to 21 of the opcode index. -/
def Op.part1 : List Op := [Op.memWrite, Op.memFill, Op.memDma, Op.memScrubConfig, Op.memErrStatus, Op.memFaultQueue, Op.pwrLatencySet, Op.pwrState, Op.pwrGrazeConfig, Op.pwrMonitorConfig, Op.pwrMonitorRead]

/-- Commands 22 to 32 of the opcode index. -/
def Op.part2 : List Op := [Op.pwrDomainRetry, Op.graphLoad, Op.graphVerify, Op.graphArm, Op.graphDisarm, Op.graphControl, Op.graphStep, Op.graphForce, Op.graphVarRead, Op.graphVarWrite, Op.graphRollback]

/-- Commands 33 to 43 of the opcode index. -/
def Op.part3 : List Op := [Op.graphStatus, Op.schedConfig, Op.schedCounters, Op.schedClearCounters, Op.schedStatus, Op.loopChannelConfig, Op.loopCoefWrite, Op.loopBankArm, Op.loopBankSwap, Op.loopMode, Op.loopStateRead]

/-- Commands 44 to 54 of the opcode index. -/
def Op.part4 : List Op := [Op.loopRepConfig, Op.loopRepControl, Op.loopLatency, Op.axisConfig, Op.axisTableWrite, Op.axisStart, Op.axisStop, Op.axisStatus, Op.axisSetPosition, Op.axisStandstill, Op.adcConfig]

/-- Commands 55 to 65 of the opcode index. -/
def Op.part5 : List Op := [Op.adcTableWrite, Op.adcGroupConfig, Op.adcUrgent, Op.adcCalibrate, Op.adcCalRead, Op.adcCalWrite, Op.adcStatus, Op.acqSignalConfig, Op.acqStreamConfig, Op.acqWindowConfig, Op.acqTriggerConfig]

/-- Commands 66 to 76 of the opcode index. -/
def Op.part6 : List Op := [Op.acqHistConfig, Op.acqPmapConfig, Op.acqControl, Op.acqStatus, Op.acqIndexRead, Op.ringConfig, Op.ringScheduleWrite, Op.ringModeArm, Op.ringStart, Op.ringStatus, Op.ringCounters]

/-- Commands 77 to 87 of the opcode index. -/
def Op.part7 : List Op := [Op.ringSyncConfig, Op.ringTopology, Op.canConfig, Op.canFilterConfig, Op.canBufferConfig, Op.canTransmit, Op.canCancel, Op.canStatus, Op.canRecover, Op.canCounterConfig, Op.timePortConfig]

/-- Commands 88 to 98 of the opcode index. -/
def Op.part8 : List Op := [Op.timePtpConfig, Op.timeDomainSelect, Op.timeRead, Op.timeTsQueueRead, Op.timeUdpConfig, Op.timeStatus, Op.safeParamLoad, Op.safeSwitchRead, Op.safeStatus, Op.safeStop, Op.safeReset]

/-- Commands 99 to 109 of the opcode index. -/
def Op.part9 : List Op := [Op.safeDiagRead, Op.safeMemRead, Op.pairConfig, Op.pairStatus, Op.pairHandover, Op.pairCheckpointConfig, Op.pairStandbyCheck, Op.tallyConfig, Op.tallyCursor, Op.tallyRead, Op.tallyClear]

/-- Commands 110 to 120 of the opcode index. -/
def Op.part10 : List Op := [Op.tallyStatus, Op.dioInputConfig, Op.dioOutputConfig, Op.dioPwmConfig, Op.dioEncConfig, Op.dioRead, Op.dioWrite, Op.dioStatus, Op.hostRingCreate, Op.hostRingDestroy, Op.hostEventRoute]

/-- Every command of the opcode index, in its order. -/
def Op.all : List Op :=
  List.flatten [Op.part0, Op.part1, Op.part2, Op.part3, Op.part4, Op.part5, Op.part6, Op.part7, Op.part8, Op.part9, Op.part10]

/-- The command an opcode names, or none (ST_BAD_OPCODE). -/
def Op.ofCode (c : Nat) : Option Op := Op.all.find? (fun o => o.code == c)
/-- Where a command packet came from, and so where its reply goes (02 R56, R76; 15 R537). -/
inductive Origin where
  /-- COMMAND ring `n` of the host interface. -/
  | ring (n : Nat)
  /-- A UDP datagram on UDP ring `n`, received by Ethernet port `via` from this IPv4 address and port. -/
  | udp (n via ip port : Nat)
  /-- A CMD frame from the manager above, with the manager's PKT_SEQ. -/
  | above
  /-- The active half of the pair: the reply is discarded. -/
  | mirror
  /-- A COMMAND ring that was destroyed since: the reply still goes to REPLY ring `m` (02 R85). -/
  | replyTo (m : Nat)
  /-- A ring of a host interface that was reset since: the reply is discarded and counted (02 R52). -/
  | lost
  deriving DecidableEq, Repr

/-- What an access found on the fabric or in the stored word (16 R557, R558, R559). -/
inductive MemErr where
  /-- No error. -/
  | clean
  /-- A single-bit error in the stored word. -/
  | single
  /-- A double error that the re-read does not find. -/
  | doubleTransient
  /-- A double error that the re-read finds too. -/
  | doubleLasting
  /-- Bad parity, and the replay is good. -/
  | parityTransient
  /-- Bad parity, and the replay is bad too. -/
  | parityLasting
  deriving DecidableEq, Repr

/-- A command packet (02 R67). The opcode is the row's own; the parameters follow the five header words. -/
structure Packet where
  origin : Origin := .ring 0
  /-- REPLY: always reply. -/
  reply : Bool := true
  /-- ORDERED: the fence of R70. -/
  ordered : Bool := false
  /-- AT_CYCLE with AT. -/
  atCycle : Option Nat := none
  /-- FORWARD_ALL. -/
  forwardAll : Bool := false
  tag : Word := 0
  /-- TARGET, 20 bits. -/
  target : Nat := 0
  /-- LOCAL: the device that owns the ring. -/
  isLocal : Bool := true
  params : List Word := []
  /-- What the accesses of MEM.READ and MEM.WRITE meet: address of a 64-bit word, error (16 R557–R559; log 79). -/
  errs : List (Nat × MemErr) := []
  deriving DecidableEq, Repr

/-- Parameter word `i` as a number; a missing word reads 0 (the length is checked first). -/
def Packet.w (p : Packet) (i : Nat) : Nat := (p.params.getD i 0).toNat

/-- What an access of the command to the 64-bit word at `a` meets. -/
def Packet.err (p : Packet) (a : Nat) : MemErr := match p.errs.find? fun e => e.1 == a with | some e => e.2 | none => .clean

/-- LENGTH of the packet. -/
def Packet.len (p : Packet) : Nat := p.params.length

/-- A changeover message (01 R41), as it travels in CMD packets of KIND 4 (10 R365). -/
inductive CoMsg where
  /-- PREPARE: CO_ID, X and what changes. -/
  | prepare (coId cycle : Nat) (graph loop ring : Bool)
  /-- A report: the participants that acknowledged, and the lowest-addressed refuser with its reason. -/
  | report (coId acked : Nat) (refusal : Option (Nat × Nat))
  /-- The outcome. -/
  | outcome (coId cycle : Nat) (commit : Bool)
  /-- Participants that have not learned the outcome by X − 1. -/
  | deferred (coId count : Nat)
  deriving DecidableEq, Repr

/-- How a host memory access of the device ended (02 R65): at once, on its one retry, or not at all. -/
inductive Dma where
  | ok | retried | failed
  deriving DecidableEq, Repr

/-- Who makes a memory access (16 R552, R553). -/
inductive Path where
  /-- A PCI Express access through BAR2. -/
  | bar2
  /-- The quad-SPI target port. -/
  | qspi
  /-- A unit of the device that is not the owner of checkpoint or Tally memory. -/
  | unit
  deriving DecidableEq, Repr

/-- A memory or window access of `size` bytes at a device address: a write of `data`, or a read (16 R552). -/
structure Access where
  path : Path := .bar2
  addr : Nat
  size : Nat := 4
  /-- The value written, or none for a read. -/
  data : Option Nat := none
  err : MemErr := .clean
  deriving DecidableEq, Repr

/-- A CAN frame on the bus (12 R428, R434). -/
structure CanFrame where
  id : Nat
  ide : Bool := false
  rtr : Bool := false
  dlc : Nat
  fdf : Bool := false
  brs : Bool := false
  esi : Bool := false
  /-- Data bytes as little-endian words. -/
  data : List Word := []
  deriving DecidableEq, Repr

/-- What a CAN controller meets on the bus, by the fault-confinement rules of ISO 11898-1 (12 R442). -/
inductive CanFault where
  /-- Buffer `b` lost arbitration. -/
  | arbitration (b : Nat)
  /-- A receiver detects an error: REC + 1. -/
  | receive
  /-- A receiver finds a dominant bit first after its error flag, errs within its flag, or sees a dominant run: REC + 8. -/
  | receiveMore
  /-- Buffer `b` as transmitter sends an error flag: TEC + 8, but for a stuff error in arbitration. -/
  | transmit (b : Nat) (stuffInArbitration : Bool)
  /-- No acknowledgement of buffer `b`; whether the passive error flag met a dominant bit. -/
  | noAck (b : Nat) (dominantSeen : Bool)
  /-- A transmitter errs within its flag, or sees a dominant run: TEC + 8. -/
  | transmitMore
  deriving DecidableEq, Repr

/-- An Announce message (13 R462, R470; IEEE 1588-2019). -/
structure Announcement where
  domain : Nat
  majorSdo : Nat := 0
  minorSdo : Nat := 0
  /-- sourcePortIdentity. -/
  source : Nat
  priority1 : Nat
  clockClass : Nat
  accuracy : Nat
  variance : Nat
  priority2 : Nat
  gmId : Nat
  stepsRemoved : Nat := 0
  /-- currentUtcOffsetValid, currentUtcOffset, leap61, leap59, ptpTimescale. -/
  utcValid : Bool := false
  utcOffset : Int := 0
  leap61 : Bool := false
  leap59 : Bool := false
  ptpTimescale : Bool := true
  deriving DecidableEq, Repr

/-- A Sync or Follow_Up message (13 R462, R463): its origin time stamp t1 and correctionField in ns. -/
structure SyncMsg where
  domain : Nat
  majorSdo : Nat := 0
  minorSdo : Nat := 0
  source : Nat
  seq : Nat
  twoStep : Bool := false
  t1 : Nat
  corr : Int := 0
  deriving DecidableEq, Repr

/-- The other PTP messages a port receives (13 R462). -/
inductive PtpMsg where
  | announce (a : Announcement)
  /-- Delay_Resp: the receive time stamp t4. -/
  | delayResp (domain source seq t4 : Nat) (corr : Int)
  | pdelayReq (domain seq : Nat)
  /-- Pdelay_Resp: t2, and for a one-step responder the turnaround lies in the correction. -/
  | pdelayResp (domain seq t2 : Nat) (corr : Int) (twoStep : Bool)
  | pdelayRespFollowUp (domain seq t3 : Nat) (corr : Int)
  /-- A message or frame that the device does not support. -/
  | other
  deriving DecidableEq, Repr

/-- A link of R360: at a port of a ring, or the pair lane (15 R519). -/
inductive LinkPort where
  | ring (down portB : Bool)
  | pair
  deriving DecidableEq, Repr

/-- How a ring frame's CRC arrives (10 R362, R369). -/
inductive FrameCrc where
  | good | wrong | stomped
  deriving DecidableEq, Repr

/-- A ring frame as a port receives it: the row gives its TYPE (10 R361). -/
structure Frame where
  /-- The down-ring interface received it; else the up-ring interface. -/
  down : Bool
  /-- It came in on port B (UB or DB). -/
  portB : Bool
  crc : FrameCrc := .good
  wrapped : Bool := false
  ver : Nat := 1
  src : Nat
  dst : Nat
  ringTag : Nat
  slot : Nat
  mode : Nat := 0
  cycle : Nat
  corr : Nat := 0
  hops : Nat := 0
  payload : List Word
  deriving DecidableEq, Repr

/-- A link beacon as a port receives it (10 R359). -/
structure Beacon where
  down : Bool
  portB : Bool
  /-- 0 STATUS, 1 DELAY_REQ, 2 DELAY_RESP. -/
  btype : Nat
  state : Nat := 0
  port : Nat := 0
  rxOk : Bool := true
  ringTag : Nat := 0
  looped : Bool := false
  seq : Nat := 0
  turn : Nat := 0
  deriving DecidableEq, Repr

end Sys2Proof
end

