-- ==== Sys2Proof/Machine/Units/Base.lean ====
section
/-! DEFINITION. The state of the device as a whole: power-up, modes, the control cycle, the host interface, memory
integrity, the fault manager and the Tally recorder (chapters 01, 02, 03, 16, 17). -/

namespace Sys2Proof.Machine

/-- The three variants (00 R1). -/
inductive Variant where
  | ubr1680 | ubr1670 | ubr1650
  deriving DecidableEq, Repr

/-- Where the device stands between power and CONFIGURE (03 R87, R94, R96). -/
inductive Phase where
  /-- VDD_AON is out of its range. -/
  | unpowered
  /-- VDD_AON is in range; t1 has not come. -/
  | beforeT1
  /-- t1 has come; the crystal starts. -/
  | crystal
  /-- The PLLs are locked and device time runs. -/
  | locked
  /-- The fuses are read. -/
  | fused
  /-- The service cores run and memory is cleared. -/
  | cleared
  /-- CONFIGURE was reached: commands execute. -/
  | running
  /-- RESET_N is low. -/
  | pinReset
  /-- RESET_N is high again, or a warm or watchdog reset began; the logic is released 2 µs later. -/
  | logicReset
  deriving DecidableEq, Repr

/-- The six modes (03 R105). -/
inductive Mode where
  | configure | ready | run | hold | safe | graze
  deriving DecidableEq, Repr

/-- DEV_STATE.MODE (02 R58). -/
def Mode.num : Mode → Nat
  | .configure => 0 | .ready => 1 | .run => 2 | .hold => 3 | .safe => 4 | .graze => 5

/-- The mode a MODE field names. -/
def Mode.ofNum : Nat → Option Mode
  | 0 => some .configure | 1 => some .ready | 2 => some .run | 3 => some .hold | 4 => some .safe
  | 5 => some .graze | _ => none

/-- Power-up and reset state (03). -/
structure BootUnit where
  /-- Which variant the device is (00 R1). -/
  variant : Variant := .ubr1680
  phase : Phase := .running
  /-- The instant of t1 (03 R87), and that from which the 2 µs before the release of the logic count (03 R96). -/
  t1At : Nat := 0
  releaseFrom : Nat := 0
  /-- The supplies of R626 that are out of range, by number (19 R627). -/
  lostSupplies : List Nat := []
  /-- RESET_N is high. -/
  resetPinHigh : Bool := true
  /-- PCIE_PERST_N is released (03 R88). -/
  perstReleased : Bool := true
  /-- Link training was enabled by t1 + 2.3 ms and the release of PCIE_PERST_N. -/
  pcieTraining : Bool := true
  /-- HOST_SEL as sampled at cold power-up (02 R48): 0 PCIe, 1 quad-SPI, 2 and 3 none. -/
  hostSel : Nat := 0
  fuseFault : Bool := false
  /-- DEV_STATE.RESET_CAUSE (02 R58). -/
  resetCause : Nat := 0
  /-- DEV_STATE.RESET_COUNT, saturates at 255 (02 R58). -/
  resetCount : Nat := 0
  /-- The instant of the resume window's opening while it is open (03 R100). -/
  windowOpened : Option Nat := none
  /-- Since the reset the configuration replay has run (03 R97). -/
  replayed : Bool := true
  /-- The configuration record passed the check of R97. -/
  recordGood : Bool := true
  /-- A resume or takeover restored an image in this cycle q; programs, loops and axes go on from q + 1 (03 R101). -/
  resumedAt : Option Nat := none
  /-- AUTO_SUPPRESSED (03 R103). -/
  autoSuppressed : Bool := false
  /-- The instant of the last automatic resume, none before the first (03 R103). -/
  autoAt : Option Nat := none
  /-- Outputs keep the image in force during the reset and the window, and the miss counter counts on (03 R95). -/
  holdingOutputs : Bool := false
  /-- NO_RESUME of the DEV.RESET that is scheduled (03 R110). -/
  noResume : Bool := false
  /-- The instant from which a reset that is due begins, and its RESET_CAUSE (03 R110, 15 R539). -/
  warmResetAt : Option Nat := none
  resetAs : Nat := 2
  /-- The reset waits until the reply of DEV.RESET has been written (03 R110). -/
  resetOnReply : Bool := false
  /-- Units absent on this variant whose first access was recorded since power-up (00 R6). -/
  absentMarked : List Nat := []
  deriving DecidableEq, Repr

/-- The mode machine (03). -/
structure DevUnit where
  mode : Mode := .configure
  /-- A transition requested by DEV.SET_MODE or DEV.SAFE_ACK, taken at the next cycle start (03 R106, R108). -/
  modeRequest : Option Mode := none
  /-- A fault of severity STOP takes the device to READY at the next cycle start (16 R566). -/
  stopPending : Bool := false
  /-- SAFE was entered and SAFE_ENTRY has not yet set the outputs (01 R34). -/
  safeEntryDue : Bool := false
  /-- SAFE_CAUSE of DEV.STATUS (03 R114). -/
  safeCause : Nat := 0
  /-- READY_MISSING as last computed (03 R107). -/
  readyMissing : Nat := 9
  autoResume : Bool := false
  resumeToReady : Bool := false
  maxGap : Nat := 0
  deriving DecidableEq, Repr

/-- The commit states (01 R26, R27). -/
inductive Commit where
  | committing | holding | substitute | latched
  deriving DecidableEq, Repr

/-- COMMIT_STATE of DEV_STATE (01 R47). -/
def Commit.num : Commit → Nat
  | .committing => 0 | .holding => 1 | .substitute => 2 | .latched => 3

/-- A changeover on a participant (01 R37–R44, R639). It is pending until the swap at X, or CANCEL. -/
structure Changeover where
  coId : Nat
  /-- X. -/
  cycle : Nat
  graph : Bool
  loop : Bool
  ring : Bool
  /-- This device is the target. -/
  target : Bool
  /-- The packet that the target answers, while it has not answered. -/
  packet : Option Packet := none
  /-- The cycle in which the command, or PREPARE, was received. -/
  prepared : Nat
  /-- D, the cycle at whose commit point the target decides, MIN_LEAD and s. -/
  decideAt : Nat := 0
  minLead : Nat := 0
  tiers : Nat := 0
  /-- The down-ring is an affected ring, it was announced, and the members that were INTEGRATED then (10 R376). -/
  affected : Bool := false
  announced : Bool := false
  voters : List Nat := []
  /-- MODE_RESP of the members that answered within their window: 1 ACK, 2 a refusal. -/
  votes : Tab Nat := []
  /-- Subordinate devices that were sent PREPARE, those from which no report has come, and the participants that each
  report counts. -/
  below : List Nat := []
  outstanding : List Nat := []
  counts : Tab Nat := []
  /-- The lowest-addressed refuser so far, and its reason (01 R44). -/
  refusal : Option (Nat × Nat) := none
  /-- The report was sent upward, and it was an acknowledgement (01 R639). -/
  reported : Bool := false
  acked : Bool := false
  /-- A transient fault was recovered on the way (01 R44). -/
  retried : Bool := false
  /-- The outcome: none not known, some true COMMIT, some false CANCEL. -/
  outcome : Option Bool := none
  /-- Participants that were CO_UNRESOLVED at X, as far as they are reported. -/
  deferred : Nat := 0
  /-- The swap was made. -/
  swapped : Bool := false
  /-- The boundary at which a participant that learned COMMIT late swaps (01 R42). -/
  catchUp : Option Nat := none
  deriving DecidableEq, Repr

/-- The control cycle and the commit (01). -/
structure CycUnit where
  /-- The device cycle, counted by device time, whose start, input instant, commit point and opening output instant were the
  latest to be carried out (01 R13, R18, R19): each comes once in a cycle. -/
  startOf : Option Nat := none
  inputOf : Option Nat := none
  commitOf : Option Nat := none
  outputOf : Option Nat := none
  /-- The number of the cycle at whose start RUN was entered last: the output instant at that start opens no image (01 R31). -/
  enteredAt : Option Nat := none
  /-- L_dev and L_base in µs of a device whose up-ring is enabled (01 R14–R16). -/
  upLdev : Nat := 0
  upLbase : Nat := 0
  /-- The input offset in µs learned from the up-ring (01 R18). -/
  upInOffset : Nat := 0
  /-- HOLD_BUDGET H and LATCH_SUBST (01 R46). -/
  holdBudget : Nat := 3
  latchSubst : Bool := false
  miss : Nat := 0
  commit : Commit := .committing
  /-- LATCH_SUBST of this stay in SUBSTITUTE (01 R46: applies from the next entry). -/
  latchInForce : Bool := false
  /-- The first image of this stay in RUN has been committed (01 R28). -/
  firstCommitted : Bool := false
  /-- The image of the cycle in progress was committed at its commit point (01 R23). -/
  committedNow : Bool := false
  /-- The commit in progress was made while already LATCHED, and its frame shows RELEASE (01 R27). -/
  releaseNow : Bool := false
  /-- LAST_APPLIED (01 R47). -/
  lastApplied : Nat := 0
  misses : Nat := 0
  lateOutputs : Nat := 0
  substEntries : Nat := 0
  /-- Device cycles since the last entry to RUN, resume or takeover (09 R336). -/
  settled : Nat := 0
  /-- The changeover pending on this device (01 R37). -/
  changeover : Option Changeover := none
  /-- CO_UNRESOLVED (01 R42). -/
  unresolved : Bool := false
  /-- The outcome that was learned or decided last: CO_ID, X and COMMIT. A member that integrates is told it again
  (01 R42, R639). -/
  lastOutcome : Option (Nat × Nat × Bool) := none
  deriving DecidableEq, Repr

/-- The states of a ring of the host interface (02 R59). -/
inductive RingState where
  | absent | disabled | active | fault
  deriving DecidableEq, Repr

/-- RING_STAT.STATE. -/
def RingState.num : RingState → Nat
  | .absent => 0 | .disabled => 1 | .active => 2 | .fault => 3

/-- One ring of the host interface (02 R59, R86). -/
structure Ring where
  /-- BASE and SHADOW, 64 bits. -/
  base : Nat := 0
  shadow : Nat := 0
  /-- 0 COMMAND, 1 REPLY, 2 EVENT, 3 STREAM. -/
  kind : Nat := 0
  log2 : Nat := 0
  /-- 0 PCIe, 1 quad-SPI, 2 UDP, 3 none. -/
  transport : Nat := 0
  paired : Nat := 0
  vector : Nat := 0
  irqEn : Bool := false
  /-- HOLDOFF in units of 4 µs. -/
  holdoff : Nat := 0
  prod : Nat := 0
  cons : Nat := 0
  state : RingState := .absent
  faultCause : Nat := 0
  stalled : Bool := false
  /-- Instant of the ring's previous interrupt (02 R63). -/
  lastIrq : Option Nat := none
  /-- An interrupt waits for HOLDOFF (02 R63). -/
  irqDelayed : Bool := false
  /-- A COMMAND ring that is being destroyed takes no more packets (02 R85). -/
  destroying : Bool := false
  /-- The EVENT filter (02 R86). -/
  evMinSev : Nat := 0
  evSubtree : Bool := false
  evEnable : Bool := false
  evMask : Nat := 0
  evSeq : Nat := 0
  evDropped : Nat := 0
  deriving DecidableEq, Repr

/-- One MSI-X table entry (02 R57). -/
structure MsixEntry where
  addr : Nat := 0
  data : Nat := 0
  masked : Bool := true
  deriving DecidableEq, Repr

/-- A packet or record that waits inside the device for room in its ring (02 R63, R64). -/
structure RingWrite where
  ring : Nat
  words : List Word
  /-- The ring that becomes ABSENT once this reply is written (02 R85). -/
  frees : Option Nat := none
  deriving DecidableEq, Repr

/-- A command that is taken and waits for its cycle (02 R72). -/
structure Timed where
  op : Op
  packet : Packet
  /-- AT. -/
  cycle : Nat
  deriving DecidableEq, Repr

/-- A command that was accepted and whose reply comes later (COMMAND_COMPLETE and the rows that end it). -/
structure Deferred where
  op : Op
  packet : Packet
  /-- What the command carries until its end: words already collected, counts, an item. -/
  data : List Nat := []
  deriving DecidableEq, Repr

/-- A kept UDP reply (02 R56). -/
structure KeptReply where
  ring : Nat
  ip : Nat
  port : Nat
  tag : Word
  /-- The replies sent so far: a FORWARD_ALL command has several. -/
  replies : List (List Word)
  deriving DecidableEq, Repr

/-- Replies packed into one datagram that has not gone out (02 R55). -/
structure UdpOut where
  via : Nat
  ip : Nat
  port : Nat
  words : List Word
  deriving DecidableEq, Repr

/-- The sender of the packet that begins at slot index `index` of a UDP COMMAND ring (02 R55). -/
structure UdpSlot where
  ring : Nat
  index : Nat
  /-- The Ethernet port on which the datagram arrived. -/
  via : Nat
  ip : Nat
  port : Nat
  deriving DecidableEq, Repr

/-- The host interface (02). -/
structure HostUnit where
  rings : Tab Ring := []
  /-- HOST_ERR: [0] SPI_WRITE_ERR, [1] BAR2_UR, [2] LINK_RESET (02 R57). -/
  hostErr : Nat := 0
  /-- DROPPED_REPLIES (02 R57). -/
  droppedReplies : Nat := 0
  msix : Tab MsixEntry := []
  /-- The pending-bit array. -/
  pending : List Nat := []
  /-- Replies, events and records waiting for room, oldest first. -/
  waiting : List RingWrite := []
  timed : List Timed := []
  deferred : List Deferred := []
  kept : List KeptReply := []
  senders : List UdpSlot := []
  udpOut : List UdpOut := []
  deriving DecidableEq, Repr

/-- The host interface after any reset (02 R66): rings 0 and 1 in state DISABLED, ring 0 a COMMAND ring paired with
ring 1, 256 slots each; `sel` is the boot transport (02 R59: 2 and 3 select none, which RING_CFG shows as 3). -/
def HostUnit.afterReset (sel : Nat) : HostUnit :=
  { rings :=
      [(0, { kind := 0, log2 := 8, transport := if sel < 2 then sel else 3, paired := 1, vector := 0, state := .disabled }),
       (1, { kind := 1, log2 := 8, transport := if sel < 2 then sel else 3, paired := 0, vector := 1, state := .disabled })] }

/-- The MEM unit (16): the memories and their integrity. -/
structure MemUnit where
  /-- Every on-chip memory by device address; an unlisted byte reads 0 (03 R87). -/
  store : Tab Byte := []
  /-- The poison list: 8-byte-aligned word addresses (16 R560). -/
  poison : List Nat := []
  parityReplays : Nat := 0
  parityLasting : Nat := 0
  ce : Nat := 0
  deTransient : Nat := 0
  deLasting : Nat := 0
  scrubPasses : Nat := 0
  lastErrAddr : Nat := 0
  /-- Corrections per system memory bank since power-up or CLEAR (16 R578). -/
  ceBank : Tab Nat := []
  /-- Corrections per bank in the present pass, keyed by area and bank, and banks reported in it (16 R561). -/
  cePass : Tab Nat := []
  ceReported : List Nat := []
  passS : Nat := 10
  /-- PASS_S of the pass in progress (16 R577). -/
  passSNow : Nat := 10
  ceThreshold : Nat := 16
  /-- The first pass after a warm reset runs at full rate (16 R561). -/
  fullRate : Bool := false
  deriving DecidableEq, Repr

/-- One fault in the fault manager (16 R567, R579). -/
structure Fault566 where
  unit : Nat
  code : Nat
  sev : Nat
  detail : Nat
  cycle : Nat
  cal : Nat
  count : Nat := 1
  preempted : Bool := false
  deriving DecidableEq, Repr

/-- The fault manager (16 R566–R572). -/
structure FaultUnit where
  inHand : Option Fault566 := none
  /-- Waiting faults in the order in which they will be taken up. -/
  waiting : List Fault566 := []
  /-- DROPPED (16 R578). -/
  dropped : Nat := 0
  /-- SAFE faults whose unit reports a continuing condition: unit, code and detail (16 R571). -/
  continuing : List (Nat × Nat × Nat) := []
  /-- Instants of the transient events of each unit within the last second (16 R564). -/
  transients : Tab (List Nat) := []
  /-- No further storm of a unit is reported before this instant (16 R564). -/
  stormUntil : Tab Nat := []
  deriving DecidableEq, Repr

/-- A record on its way to the Tally (17 R580, R582). -/
structure TallyRec where
  unit : Nat
  code : Nat
  sev : Nat
  transient : Bool := false
  fault : Bool := false
  detail : Nat := 0
  detail2 : Nat := 0
  /-- CYCLE and CAL_NS of the instant it was raised, for a record of the early buffer (17 R585). -/
  raised : Option (Nat × Nat) := none
  deriving DecidableEq, Repr

/-- A token bucket (17 R586). -/
structure Bucket where
  unit : Nat
  code : Nat
  tokens : Nat := 8
  /-- µs of device time of the last refill step. -/
  last : Nat
  suppressed : Nat := 0
  deriving DecidableEq, Repr

/-- One setting of TALLY.CONFIG (17 R592). -/
structure TallySetting where
  unit : Nat
  code : Nat
  exempt : Bool
  refillUs : Nat
  deriving DecidableEq, Repr

/-- The Tally recorder (17). Its records are words of Tally memory (R580). -/
structure TallyUnit where
  /-- The recorder has written RESTARTED (17 R584). -/
  started : Bool := false
  intake : List TallyRec := []
  /-- The instant at which the recorder took its latest record (17 R582). -/
  takenAt : Option Nat := none
  early : List TallyRec := []
  /-- Records lost since the last LOST record (17 R582). -/
  lostSince : Nat := 0
  /-- SEQ of the next record. -/
  seq : Nat := 0
  /-- KEPT_COUNT. -/
  kept : Nat := 0
  /-- The position, 0 to 12,287, of the next circulating record. -/
  circNext : Nat := 0
  /-- CURSOR and the record that WINDOW presents (17 R589, R590). -/
  cursor : Nat := 0
  windowLatch : List Word := []
  moved : Bool := false
  /-- The command cursor of TALLY.CURSOR, and whether it was moved. -/
  cmdCursor : Nat := 0
  cmdMoved : Bool := false
  buckets : List Bucket := []
  settings : List TallySetting := []
  defaultRefill : Nat := 10000
  suppressedTotal : Nat := 0
  lostRecords : Nat := 0
  untracked : Nat := 0
  cleared : Nat := 0
  deriving DecidableEq, Repr

end Sys2Proof.Machine
end

