-- ==== Sys2Proof/Machine/Units/Dio.lean ====
section
/-! DEFINITION. The state of the digital inputs and outputs, PWM outputs and encoder interfaces (chapter 08). -/

namespace Sys2Proof.Machine

/-- One digital input (08 R281–R283). -/
structure Din where
  activeLow : Bool := false
  /-- FILTER in 100 ns. -/
  filter : Nat := 0
  stuckMs : Nat := 0
  chatterMax : Nat := 0
  /-- The synchronised level and the instant of its last change. -/
  raw : Bool := false
  rawSince : Nat := 0
  /-- The filtered level. -/
  filtered : Bool := false
  rise : Nat := 0
  fall : Nat := 0
  /-- The instant since which the logical level is 1. -/
  oneSince : Nat := 0
  stuck : Bool := false
  chatter : Bool := false
  /-- Level and counters at the last input instant, and the counters at the one before. -/
  imgLevel : Bool := false
  imgRise : Nat := 0
  imgFall : Nat := 0
  deriving DecidableEq, Repr

/-- What an output stage drives (08 R285). -/
inductive Drive where
  | low | high | highZ
  deriving DecidableEq, Repr

/-- One digital output (08 R285–R287). -/
structure Dout where
  configured : Bool := false
  openDrain : Bool := false
  subst : Drive := .low
  /-- The substitute value that stands, or stood last: DIO.WRITE in RUN and HOLD does not change it (R286). -/
  substNow : Drive := .low
  /-- What it drives while no substitute value is called for: the value of the applied image, or the substitute value that stood
  before where the images give it none (log 80). -/
  value : Drive := .low
  drive : Drive := .highZ
  /-- The pin level last read back. -/
  readback : Bool := false
  /-- A first disagreement waits for its second check, 10 µs after this clock (R287). -/
  disagree : Option Nat := none
  fault : Bool := false
  deriving DecidableEq, Repr

/-- One PWM output (08 R288, R289). -/
structure Pwm where
  configured : Bool := false
  center : Bool := false
  dither : Bool := false
  activeLow : Bool := false
  periodClk : Nat := 0
  phaseClk : Nat := 0
  minClk : Nat := 0
  /-- SUBST_DUTY, REAL32. -/
  substDuty : Nat := 0
  /-- The value of the applied image, REAL32. -/
  value : Nat := 0
  shadow : Nat := 0
  duty : Nat := 0
  frac : Nat := 0
  /-- High time of the period in progress, in clocks, and the clock at which the period began. -/
  hi : Nat := 0
  startAt : Option Nat := none
  deriving DecidableEq, Repr

/-- One encoder interface (08 R290–R292). -/
structure Enc where
  configured : Bool := false
  /-- 0 QUAD4, 1 QUAD1, 2 STEP_DIR. -/
  mode : Nat := 0
  filter : Nat := 0
  latchSrc : Nat := 0
  latchDin : Nat := 0
  latchCont : Bool := false
  velWindowUs : Nat := 1
  /-- The filtered levels of A and B; the synchronised levels and the clocks of their last changes. -/
  a : Bool := false
  b : Bool := false
  rawA : Bool := false
  rawB : Bool := false
  sinceA : Nat := 0
  sinceB : Nat := 0
  count : Nat := 0
  /-- Instants and counts before each change inside the velocity window, oldest first. -/
  history : List (Nat × Nat) := []
  quadErr : Bool := false
  armed : Bool := false
  latched : Nat := 0
  latchedAt : Nat := 0
  /-- Count, velocity (REAL32) and latched count at the input instant. -/
  imgCount : Nat := 0
  imgVel : Nat := 0
  imgLatched : Nat := 0
  deriving DecidableEq, Repr

/-- The local digital I/O (08). -/
structure DioUnit where
  dins : Tab Din := []
  douts : Tab Dout := []
  pwms : Tab Pwm := []
  encs : Tab Enc := []
  /-- Substitute values stand at the outputs (01 R26, R32, R34; 03 R105). -/
  substitute : Bool := true
  deriving DecidableEq, Repr

end Sys2Proof.Machine
end

