-- ==== Sys2Proof/Machine/Units/Adc.lean ====
section
/-! DEFINITION. The state of the analog converters (chapter 08). -/

namespace Sys2Proof.Machine

/-- An urgent request (08 R276): its input, and the graph operation that made it, or the ADC.URGENT command. -/
structure Urgent where
  input : Nat
  /-- Slot and operation of AIN_URGENT; none for ADC.URGENT. -/
  byOp : Option (Nat × Nat)
  deriving DecidableEq, Repr

/-- Why a conversion runs (08 R275). -/
inductive ConvKind where
  | group (g : Nat)
  | urgent (u : Urgent)
  | calibration
  | table
  deriving DecidableEq, Repr

/-- A calibration step in progress on a converter (08 R280). -/
structure Calibration where
  input : Nat
  full : Bool
  /-- The applied voltage as REAL32. -/
  refV : Nat
  sum : Nat := 0
  count : Nat := 0
  deriving DecidableEq, Repr

/-- One converter (08 R268–R276, R300). -/
structure Conv where
  lowPower : Bool := false
  ovrFault : Bool := false
  /-- RANGES of ADC.CONFIG: two bits an input. -/
  ranges : Nat := 0
  /-- ADC.CONFIG was sent since the last reset. -/
  configured : Bool := false
  faulted : Bool := false
  table : List Nat := []
  /-- The entry in progress and the conversions of it already made (R273). -/
  entry : Nat := 0
  made : Nat := 0
  /-- A new table takes effect when the conversion in progress completes (R273). -/
  newTable : Bool := false
  /-- The converter is idle after an entry until this clock (R273). -/
  idleUntil : Nat := 0
  /-- The conversion in progress and its multiplexer position. -/
  busy : Option (ConvKind × Nat) := none
  /-- The clock of the trigger of a group conversion in progress (R274). -/
  triggeredAt : Option Nat := none
  /-- OFFSET and GAIN with which the conversion in progress began, where they have changed since (R280). -/
  oldCal : Option (Int × Nat) := none
  waitingUrgent : Option Urgent := none
  calibration : Option Calibration := none
  /-- Multiplexer positions whose last completion check failed (R272). -/
  retry : List Nat := []
  conversions : Nat := 0
  urgentDropped : Nat := 0
  groupOverruns : Nat := 0
  tableAborts : Nat := 0
  ovrCount : Nat := 0
  deriving DecidableEq, Repr

/-- A result register (08 R270). -/
structure AdcResult where
  code : Nat := 0
  ovr : Bool := false
  fault : Bool := false
  group : Bool := false
  urgent : Bool := false
  /-- Sample instant in ns, 64 bits. -/
  instant : Nat := 0
  deriving DecidableEq, Repr

/-- A simultaneous group (08 R274, R296). -/
structure AdcGroup where
  /-- 0 OFF, 1 INPUT, 2 GRID, 3 PIN. -/
  trig : Nat := 0
  pin : Nat := 0
  gridUs : Nat := 0
  convMask : Nat := 0
  /-- SEL, three bits a converter. -/
  sel : Nat := 0
  /-- The sample instant in ns that the conversions of the latest trigger share, once the first has completed (R274). -/
  sampledAt : Option Nat := none
  deriving DecidableEq, Repr

/-- The converters (08). -/
structure AdcUnit where
  convs : Tab Conv := []
  results : Tab AdcResult := []
  /-- The latest result of each input that a simultaneous group's conversion gave (06 R194). -/
  grouped : Tab AdcResult := []
  /-- The results of the input image of the cycle, open until the instant `imageUntil` (R271). -/
  image : Tab AdcResult := []
  imageUntil : Nat := 0
  /-- The word +4 latched for each initiator and input, at 128 · initiator + input, plus 1; 0 is none (R270): initiator 0 PCI
  Express, 1 quad-SPI, 2 the device's own units. -/
  latched : Tab Nat := []
  groups : Tab AdcGroup := []
  /-- The working calibration set, by input · 4 + range: OFFSET and GAIN; an unlisted entry holds the factory trim
  that the cold power-up copied (R279). -/
  calSet : Tab (Option (Int × Nat)) := []
  /-- The ZERO step of an input and range: mean raw code in Q24.8 and applied voltage (R280). -/
  zeroSteps : Tab (Option (Nat × Nat)) := []
  /-- AIN_URGENT operations whose conversion ended: slot, operation, dropped (R277). -/
  urgentDone : List (Nat × Nat × Bool) := []
  deriving DecidableEq, Repr

end Sys2Proof.Machine
end

