-- ==== Sys2Proof/Machine/Units/Axis.lean ====
section
/-! DEFINITION. The state of the motion generator (chapter 07). -/

namespace Sys2Proof.Machine

/-- STATE of a channel (07 R260). -/
inductive AxisState where
  | idle | running | stopping | ss1Stop | fault
  deriving DecidableEq, Repr

/-- STATE in the state word. -/
def AxisState.num : AxisState → Nat
  | .idle => 0 | .running => 1 | .stopping => 2 | .ss1Stop => 3 | .fault => 4

/-- A segment in progress (07 R235, R239, R242). -/
structure Seg where
  /-- Its start in whole µs of device time, and its duration. -/
  t0 : Int
  dur : Nat
  /-- Q40.24 counts and counts/s. -/
  p0 : Int
  v0 : Int
  p1 : Int
  v1 : Int
  /-- The entry, none for the internal segment of a stop. -/
  entry : Option Nat
  /-- The entry that follows, none after LAST or a stop. -/
  next : Option Nat
  rebase : Bool := false
  deriving DecidableEq, Repr

/-- What moves of a channel (07 R233, R236, R241). -/
structure Motion where
  state : AxisState := .idle
  /-- FAULT_CAUSE (07 R254). -/
  cause : Nat := 0
  /-- The profile position while no segment runs, and the table base: Q40.24. -/
  pos : Int := 0
  base : Int := 0
  seg : Option Seg := none
  /-- The entry already read (07 R238): none where it could not be read. -/
  ahead : Option (Nat × Option (List Word)) := none
  /-- DEC of the stop in progress, 0 none (07 R242). -/
  stopDec : Nat := 0
  /-- SEGMENT of the state word. -/
  segNo : Nat := 0
  /-- A start waits for ENA_DELAY_US: entry and µs of device time (07 R256). -/
  late : Option (Nat × Int) := none
  startLate : Bool := false
  deriving DecidableEq, Repr

/-- A local pulse axis (07 R245–R248). -/
structure Pulse where
  /-- The phase accumulator, Q32.32. -/
  acc : Nat := 0
  inc : Int := 0
  /-- The clock up to which `acc` has been carried. -/
  upTo : Nat := 0
  owed : Int := 0
  /-- DIR shows the positive direction; the clock of its last change. -/
  dirPos : Bool := true
  dirAt : Option Nat := none
  /-- The last rising edge of STEP. -/
  riseAt : Option Nat := none
  stepCount : Int := 0
  dirDelays : Nat := 0
  rateClamps : Nat := 0
  clamped : Bool := false
  deriving DecidableEq, Repr

/-- What a start changes of a channel, as it stood before it (07 R243). -/
structure BeforeStart where
  m : Motion
  standing : Bool
  restAt : Option Nat
  halt : Bool
  mark : Nat
  deriving DecidableEq, Repr

/-- A profile channel (07 R232, R233). -/
structure AxisCh where
  /-- 0 NONE, 1 VIRTUAL, 2 PULSE, 3 REMOTE. -/
  kind : Nat := 0
  /-- The words of AXIS.CONFIG; AXIS.STANDSTILL changes word 16. -/
  cfg : List Word := []
  m : Motion := {}
  /-- The instant of the latest requests, the channel before a start made then, and what acted then (07 R243). -/
  instAt : Nat := 0
  undo : Option BeforeStart := none
  instStart : Option (Nat × Bool) := none
  instStopped : Bool := false
  /-- The applied offset moves from one value to another since an instant in µs; none: it rests where it is (07 R252, R256). -/
  offFrom : Int := 0
  offTo : Int := 0
  offSince : Option Int := none
  /-- Where the last evaluation found the commanded position: 0 within the limits, 1 above POS_MAX, 2 below POS_MIN (07 R254). -/
  side : Nat := 0
  /-- FB_OFFSET, Q40.24 (log 48). -/
  fbOffset : Int := 0
  uncertain : Bool := false
  /-- The standstill is applied (07 R256), and the instant from which its delay counts. -/
  standing : Bool := false
  restAt : Option Nat := none
  mark : Nat := 0
  ss1Refused : Nat := 0
  /-- HALT and RELABEL of the record of a REMOTE channel (07 R250). -/
  halt : Bool := false
  relabel : Bool := false
  /-- POS of an armed LATCH relabel, and its shift once the event came (07 R253). -/
  latch : Option Int := none
  latchShift : Option Int := none
  pulse : Pulse := {}
  /-- Values latched at the input instant: position, feedback and velocity as REAL64, and the state word (07 R259). -/
  imgPos : Nat := 0
  imgFb : Nat := 0
  imgVel : Nat := 0
  imgState : Nat := 0
  deriving DecidableEq, Repr

/-- A request of the axis operations in an image (07 R259). -/
inductive AxisReq where
  | start (axis entry : Nat)
  | stop (axis kind : Nat)
  | offset (axis : Nat) (target : Int)
  | ref (axis : Nat) (pos : Int) (kind : Nat)
  deriving DecidableEq, Repr

/-- The motion generator (07). -/
structure AxisUnit where
  ch : Tab AxisCh := []
  /-- STO pairs on which SS1 began and that the island has not released (07 R257). -/
  ss1Held : Nat := 0
  deriving DecidableEq, Repr

end Sys2Proof.Machine
end

