-- ==== Sys2Proof/Machine/Units/Can.lean ====
section
/-! DEFINITION. The state of the CAN FD controllers (chapter 12). -/

namespace Sys2Proof.Machine

/-- The states of a buffer (12 R434). -/
inductive CanBufState where
  | off | empty | full | idle | pending | waitTime | sent | cancelled | sentDespite | failed
  deriving DecidableEq, Repr

/-- STATE of buffer word 1 (12 R434). -/
def CanBufState.num : CanBufState → Nat
  | .off => 0 | .empty => 1 | .full => 2 | .idle => 3 | .pending => 4 | .waitTime => 5 | .sent => 6 | .cancelled => 7
  | .sentDespite => 8 | .failed => 9

/-- One message buffer (12 R434, R435, R453). -/
structure CanBuf where
  /-- 0 OFF, 1 RX, 2 TX. -/
  kind : Nat := 0
  oneShot : Bool := false
  vector : Nat := 0
  vecEn : Bool := false
  /-- The match of a high-priority buffer. -/
  ide : Bool := false
  matchId : Nat := 0
  mask : Nat := 0
  state : CanBufState := .off
  /-- Word 0 and the frame bits [6:0] of word 1. -/
  idWord : Nat := 0
  frame : Nat := 0
  locked : Bool := false
  lockedAt : Nat := 0
  overrun : Bool := false
  filter : Nat := 0
  stamp : Nat := 0
  txTime : Nat := 0
  /-- Words 4 to 19. -/
  data : Tab Nat := []
  /-- The pending store of a locked buffer: frame, stamp, start of frame and filter (12 R436). -/
  store : Option (CanFrame × Nat × Nat × Nat) := none
  /-- A cancel waits for the end of a frame on the bus (12 R441). -/
  cancelling : Bool := false
  /-- Start of the frame in the buffer, in timing clocks (01 R21). -/
  sofAt : Nat := 0
  /-- A frame entered since the previous input instant, and the image's copy with NEW (12 R448). -/
  fresh : Bool := false
  image : List Word := []
  imageNew : Bool := false
  deriving DecidableEq, Repr

/-- One acceptance filter (12 R435, R452). -/
structure CanFilter where
  enable : Bool := false
  ide : Bool := false
  rtrAccept : Bool := false
  overwrite : Bool := false
  id : Nat := 0
  mask : Nat := 0
  first : Nat := 0
  last : Nat := 0
  deriving DecidableEq, Repr

/-- The states of a controller (12 R447). -/
inductive CanState where
  | off | integrating | errorActive | errorPassive | busOff | recovering
  deriving DecidableEq, Repr

/-- STATE of the status word (12 R447). -/
def CanState.num : CanState → Nat
  | .off => 0 | .integrating => 1 | .errorActive => 2 | .errorPassive => 3 | .busOff => 4 | .recovering => 5

/-- One controller (12 R447, R451, R456). -/
structure CanCtrl where
  /-- Words 0 to 2 of CAN.CONFIG, CTRL and ENABLE left out of the first. -/
  cfg0 : Nat := 0
  cfg1 : Nat := 0
  cfg2 : Nat := 0
  enabled : Bool := false
  /-- CAN*n*_TX is driven (12 R429). -/
  driven : Bool := false
  state : CanState := .off
  tec : Nat := 0
  recCount : Nat := 0
  noAck : Bool := false
  ackMisses : Nat := 0
  hpPending : Nat := 0
  /-- The counter follows device time (12 R438). -/
  slaved : Bool := false
  bufs : Tab CanBuf := []
  filters : Tab CanFilter := []
  rxFrames : Nat := 0
  txFrames : Nat := 0
  unmatched : Nat := 0
  overruns : Nat := 0
  lockTimeouts : Nat := 0
  busoffCount : Nat := 0
  txRefused : Nat := 0
  tdcMeas : Nat := 0
  deriving DecidableEq, Repr

/-- The CAN unit (12). -/
structure CanUnit where
  ctrls : Tab CanCtrl := []
  deriving DecidableEq, Repr

end Sys2Proof.Machine
end

