-- ==== Sys2Proof/Machine/Units/Drove.lean ====
section
/-! DEFINITION. The state of the Drove ring interfaces (chapters 10 and 11). -/

namespace Sys2Proof.Machine

/-- The states of a ring interface (10 R378). -/
inductive NodeState where
  | disabled | listen | coldstart | observe | joining | integrating | integrated | muted
  deriving DecidableEq, Repr

/-- RING.STATUS code of the state (10 R378). -/
def NodeState.num : NodeState → Nat
  | .disabled => 0 | .listen => 1 | .coldstart => 2 | .observe => 3 | .joining => 4 | .integrating => 5
  | .integrated => 6 | .muted => 7

/-- The configuration of RING.CONFIG (10 R398). -/
structure RingCfg where
  upEn : Bool := false
  downEn : Bool := false
  coldCap : Bool := false
  rank : Nat := 0
  upAccept : Nat := 200
  upGuard : Nat := 50
  cycleUs : Nat := 0
  mult : Nat := 0
  inOffsetUs : Nat := 0
  tag : Nat := 0
  downAccept : Nat := 200
  downGuard : Nat := 50
  /-- The member table: one serial number a member. -/
  serials : List Nat := []
  deriving DecidableEq, Repr

/-- The settings of RING.SYNC_CONFIG (11 R426). -/
structure SyncCfg where
  exclude : Nat := 0
  maxRatePpm : Nat := 150
  slewPpm : Nat := 50
  stepLimitUs : Nat := 1000
  deriving DecidableEq, Repr

/-- One link of an interface, at port A or B (10 R359, R360, R392). -/
structure Link where
  up : Bool := false
  looped : Bool := false
  /-- The receive lane is locked and valid, with STATUS beacons arriving. -/
  rxOk : Bool := false
  /-- RX_OK and LOOPED of the neighbour's beacons, and that they show a crossed link. -/
  peerOk : Bool := false
  peerLooped : Bool := false
  crossed : Bool := false
  /-- The instant at which a condition for DOWN last held. -/
  badAt : Nat := 0
  /-- The outgoing lane is occupied until this instant by a forwarded frame, or by an own one (10 R371). -/
  fwdUntil : Nat := 0
  ownUntil : Nat := 0
  /-- The last eight round-trip answers in ps, newest first, and the delay in ns. -/
  answers : List Nat := []
  delayNs : Nat := 0
  /-- The DELAY_REQ sent last: SEQ and instant, and that its answer is still to come. -/
  reqSeq : Nat := 0
  reqAt : Nat := 0
  reqOpen : Bool := false
  deriving DecidableEq, Repr

/-- A SYNC frame that a node remembers (10 R379). -/
structure SyncSeen where
  cycle : Nat
  mode : Nat
  epoch : Nat
  /-- Arrival in timing clocks, and CORR in ns. -/
  arrival : Nat
  corr : Nat
  deriving DecidableEq, Repr

/-- A switch of the schedule mode that was announced (10 R366, R376). -/
structure Announce where
  newMode : Nat
  newEpoch : Nat
  firstCycle : Nat
  coId : Nat
  /-- The ring cycle in which a member saw it first. -/
  seen : Nat := 0
  /-- CONFIRM was received, or on the manager the switch was confirmed. -/
  confirmed : Bool := false
  deriving DecidableEq, Repr

/-- One interface, up-ring or down-ring. -/
structure Iface where
  state : NodeState := .disabled
  mode : Nat := 0
  epoch : Nat := 0
  tag : Nat := 0
  healed : Bool := false
  breakLink : Nat := 127
  /-- RESTORE_CYCLE while it is announced (10 R394). -/
  restoreCycle : Option Nat := none
  timeSource : Bool := false
  sourceRank : Nat := 0
  linkA : Link := {}
  linkB : Link := {}
  /-- The counters of RING.COUNTERS by word number (10 R403). -/
  counters : Tab Nat := []
  /-- The latest frames taken: SRC, SLOT and CYCLE (10 R370). -/
  seen : List (Nat × Nat × Nat) := []
  lastSync : Option SyncSeen := none
  /-- The start of the ring cycle whose clock step was made (11 R407). -/
  stepOf : Option Nat := none
  /-- A SYNC frame was accepted in the present cycle. -/
  syncAccepted : Bool := false
  /-- Consecutive acceptance failures (10 R389). -/
  failures : Nat := 0
  /-- Consecutive cycles within GUARD_NS while MUTED (10 R390). -/
  guardGood : Nat := 0
  /-- The instant from which the listen time counts (10 R383), and that at which a back-off ends (10 R385). -/
  listenFrom : Nat := 0
  backoffUntil : Option Nat := none
  /-- Cycles sent in COLDSTART (10 R386). -/
  coldCycles : Nat := 0
  /-- A manager that sends TAKEOVER in this cycle, or a coldstart member that received it (10 R386). -/
  takeover : Bool := false
  announce : Option Announce := none
  /-- A member that answered ACK without a CONFIRM or CANCEL stays silent in this cycle (10 R377). -/
  silentCycle : Option Nat := none
  /-- The start of the ring cycle and the slot of the frame that the node sent last. -/
  lastSlot : Option (Nat × Nat) := none
  /-- CORR of the manager's returning SYNC plus the DB link delay, and its HOPS on the intact ring: the members on the ring. -/
  loopDelay : Nat := 0
  ringSize : Nat := 0
  /-- A manager announces no restoration before this instant (10 R394). -/
  restoreFrom : Nat := 0
  deriving DecidableEq, Repr

/-- A packet that travels in CMD frames (10 R365): KIND and words. -/
structure CmdPacket where
  kind : Nat
  words : List Word
  /-- The entry of the forwarding queue that a command packet carries: the model's own. -/
  ref : Nat := 0
  deriving DecidableEq, Repr

/-- A packet with its number that is not yet acknowledged. -/
structure SentPacket where
  seq : Nat
  packet : CmdPacket
  /-- Words already sent, and the next fragment number. -/
  sentWords : Nat := 0
  frag : Nat := 0
  /-- The cycle in which the last fragment was sent. -/
  sentCycle : Option Nat := none
  resent : Bool := false
  /-- Its command was answered with ST_TIMEOUT (02 R75). -/
  given : Bool := false
  deriving DecidableEq, Repr

/-- One end of the packet exchange with a neighbouring tier (10 R365). -/
structure Peer where
  /-- Packets not yet numbered, oldest first. -/
  out : List CmdPacket := []
  sendSeq : Nat := 0
  sent : List SentPacket := []
  /-- The PKT_SEQ expected next; anything was received. -/
  recvNext : Nat := 0
  recvAny : Bool := false
  /-- Fragments of a packet in progress: PKT_SEQ, next FRAG, KIND and words. -/
  inProgress : Option (Nat × Nat × Nat × List Word) := none
  /-- Packets received complete beyond a gap. -/
  later : List (Nat × CmdPacket) := []
  deriving DecidableEq, Repr

/-- What the manager of a down-ring knows of one member. -/
structure Member where
  integrated : Bool := false
  /-- Admitted by JOIN_GRANT or by its assignment. -/
  ubr : Bool := true
  part : Nat := 0
  hops : Nat := 0
  peer : Peer := {}
  /-- Modes whose schedule-mode packets the member acknowledged. -/
  held : Nat := 0
  /-- The status word of its latest valid input frame (10 R364), and its data words by offset. -/
  status : Nat := 0
  words : Tab Nat := []
  /-- The tag of the latest valid input frame, the DATA slots received with it, and the latest tag of which every DATA slot was
  received: the member's latest valid inputs (01 R22, R29). -/
  lastTag : Option Nat := none
  slots : List Nat := []
  inputsTag : Option Nat := none
  /-- A valid input frame was received since entry to RUN (01 R29). -/
  sinceRun : Bool := false
  /-- Consecutive ring cycles without a valid input frame. -/
  missing : Nat := 0
  deriving DecidableEq, Repr

/-- An output frame received from the manager above (10 R364). -/
structure OutFrame where
  slot : Nat
  tag : Nat
  inOk : Bool
  release : Bool
  words : List Word
  deriving DecidableEq, Repr

/-- A command packet that a manager forwards to one member (02 R75). -/
structure Forwarded where
  /-- Tells entries apart: the model's own. -/
  id : Nat := 0
  origin : Origin
  /-- The words of the packet as they go to the member. -/
  words : List Word
  member : Nat
  /-- The device cycle in which it was received. -/
  cycle : Nat
  /-- It was handed to the exchange with the member, and the member has acknowledged it. -/
  sent : Bool := false
  acked : Bool := false
  /-- It was sent once more. -/
  retried : Bool := false
  /-- A copy of a FORWARD_ALL packet that this device executes itself (02 R77). -/
  copy : Bool := false
  /-- The target has answered. -/
  answered : Bool := false
  /-- Devices of a FORWARD_ALL packet that have not answered. -/
  expect : List Nat := []
  deriving DecidableEq, Repr

/-- The clock corrections of a member (11 R404–R408, R413, R414). -/
structure ClockSync where
  /-- Deviations of the present cycle by SYNC slot number, in ps. -/
  meas : List (Nat × Int) := []
  /-- Deviations less the offset applied, at positions 0 and 7 of the rate block, by sender slot. -/
  first : List (Nat × Int) := []
  pos : Nat := 0
  ratePpb : Int := 0
  /-- The rate that slews a tier manager's held time, added to the former (11 R414). -/
  slewPpb : Int := 0
  pendingPs : Int := 0
  appliedPs : Int := 0
  lastPs : Int := 0
  maxPs : Nat := 0
  nMeas : Nat := 0
  discarded : Nat := 0
  /-- DEV_PS of the last cycle. -/
  lastMeas : List (Nat × Int) := []
  holdover : Bool := false
  slewing : Bool := false
  /-- Offset still to slew in ns. -/
  slewLeft : Int := 0
  deriving DecidableEq, Repr

/-- The corrections that device time runs with (11 R406): a rate spread evenly over time, and an offset of whole advances of
1.25 ns, one for every 16 timing clocks. -/
structure Steer where
  /-- The rate in force in ppb, the count from which it holds, and the part of an advance gained before, in 10^-9 advances. -/
  ratePpb : Int := 0
  since : Nat := 0
  carry : Int := 0
  /-- Advances still to be made at count `offFrom`; a negative number is skipped. -/
  offset : Int := 0
  offFrom : Nat := 0
  deriving DecidableEq, Repr

/-- Advances that the rate has made by timing clock `n`. -/
def Steer.byRate (k : Steer) (n : Nat) : Int := (k.carry + ((n : Int) - k.since) * k.ratePpb) / 1000000000

/-- Advances that the offset correction has made by timing clock `n`. -/
def Steer.byOffset (k : Steer) (n : Nat) : Int :=
  let m : Int := min k.offset.natAbs ((n - k.offFrom) / 16)
  if k.offset < 0 then -m else m

/-- The corrections counted from timing clock `n`, what they made before being counted elsewhere. -/
def Steer.from' (k : Steer) (n : Nat) : Steer :=
  { k with
    since := n, carry := (k.carry + ((n : Int) - k.since) * k.ratePpb) % 1000000000
    offset := k.offset - k.byOffset n, offFrom := k.offFrom + (n - k.offFrom) / 16 * 16 }

/-- An entry of the up-map or down-map (11 R419). -/
structure MapEntry where
  kind : Nat := 0
  high : Bool := false
  elem : Nat := 0
  ref : Nat := 0
  deriving DecidableEq, Repr

/-- An entry of the topology table (11 R424), by address. -/
structure TopoEntry where
  ubr : Bool := false
  integrated : Bool := false
  downRunning : Bool := false
  healed : Bool := false
  pair : Bool := false
  mode : Nat := 0
  part : Nat := 0
  commit : Nat := 0
  deriving DecidableEq, Repr

/-- The ring unit (10, 11). -/
structure DroveUnit where
  cfg : RingCfg := {}
  /-- The settings of RING.SYNC_CONFIG as commanded, and as the averaging uses them (11 R426). -/
  sync : SyncCfg := {}
  syncNow : SyncCfg := {}
  up : Iface := {}
  down : Iface := {}
  /-- The down-ring was started by RING.START and not stopped since (01 R17). -/
  downStarted : Bool := false
  /-- RING_BYPASS_N is high (10 R395), and the instant from which the transmit lanes of UA and UB have run. -/
  bypassHigh : Bool := false
  lanesFrom : Option Nat := none
  /-- The assignment of the up-ring (10 R381): member number. -/
  member : Option Nat := none
  /-- The assignment ends when the up-ring next leaves INTEGRATED or MUTED (10 R381). -/
  dropAssignment : Bool := false
  /-- A member number granted to a JOINING node. -/
  granted : Option Nat := none
  /-- A JOIN request was refused: cycles until the next one (10 R380). -/
  joinWait : Nat := 0
  /-- START_MT of the JOIN_REQ slot as learned from SYNC. -/
  joinMt : Nat := 0
  /-- HOPS of the manager's SYNC as received. -/
  hopsSeen : Nat := 0
  /-- WRITTEN of the latest schedule-mode packet. -/
  upWritten : Nat := 0
  /-- The copies of the up-ring's modes (10 R375). -/
  upModes : Tab (List Word) := []
  clock : ClockSync := {}
  /-- The modes of the down-ring on the manager, and which is ARMED and ACTIVE (10 R375). -/
  modes : Tab (List Word) := []
  armed : Option Nat := none
  active : Option Nat := none
  members : Tab Member := []
  /-- A join to be granted in the JOIN_GRANT slot of the cycle after: SERIAL, the member number (none refused), and the ring
  cycle of the request. -/
  grant : Option (Nat × Option Nat × Nat) := none
  /-- Packets to the manager above, oldest first, and the exchange with it. -/
  upOut : List CmdPacket := []
  above : Peer := {}
  /-- Packets that the manager above sends to all members: a numbering of its own (10 R365, R640). -/
  aboveAll : Peer := {}
  /-- Output frames of the cycle in progress. -/
  outFrames : List OutFrame := []
  /-- The data words of the last committed image from above, by offset (11 R420). -/
  downWords : Tab Nat := []
  /-- The input data words formed at the last input instant, and its tag (10 R374, 11 R420). -/
  upWords : List Word := []
  upTag : Nat := 0
  /-- Words of the output frames to members as written by units: key member · 1024 + offset (10 R374). -/
  outWords : Tab Nat := []
  /-- Members for which RELEASE is set (04 R136). -/
  release : List Nat := []
  fwd : List Forwarded := []
  /-- Numbers the entries of the queue: the model's own. -/
  fwdNext : Nat := 1
  /-- DEV_ADDR (11 R416). -/
  devAddr : Nat := 0
  upMap : Tab MapEntry := []
  downMap : Tab MapEntry := []
  topo : Tab TopoEntry := []
  generation : Nat := 0
  /-- Addresses whose entry changed since they were last reported upward. -/
  topoChanged : List Nat := []
  deriving DecidableEq, Repr

end Sys2Proof.Machine
end

