-- ==== Sys2Proof/Machine/Units/Graph.lean ====
section
/-! DEFINITION. The state of the graph programs: slots, banks, variables, forces and executions (chapter 04). -/

namespace Sys2Proof.Machine

/-- The states of a bank (04 R144). -/
inductive BankState where
  | empty | loaded | verified | armed | active | previous | armedBack
  deriving DecidableEq, Repr

/-- BANK_A and BANK_B of GRAPH.STATUS (04 R161). -/
def BankState.num : BankState → Nat
  | .empty => 0 | .loaded => 1 | .verified => 2 | .armed => 3 | .active => 4 | .previous => 5 | .armedBack => 6

/-- One pair of a carry plan that does not share its words (04 R146, R147). -/
structure Carry where
  /-- Word of the variable space, type and element count of the source and of the destination. -/
  src : Nat
  srcType : Nat
  srcCount : Nat
  dst : Nat
  dstType : Nat
  dstCount : Nat
  /-- The elements copied or converted at the moult, from the first on; the others take their initial values. -/
  copies : Nat
  deriving DecidableEq, Repr

/-- One bank of a slot (04 R117, R144–R152). Its words lie in system memory (R116). -/
structure Bank where
  state : BankState := .empty
  /-- One more than the highest image word written since the bank was last cleared (04 R145). -/
  length : Nat := 0
  /-- The first word in the variable space of each variable of the table, by index; empty before verification. -/
  bases : List Nat := []
  /-- The words of the variable space that it holds, as base and size: its variable block, and the variables that it shares in
  place with the other bank (04 R145, R146). -/
  words : List (Nat × Nat) := []
  plan : List Carry := []
  deriving DecidableEq, Repr

/-- A shared variable (04 R125). -/
structure Shared where
  id : Nat
  type : Nat
  count : Nat
  stateOp : Nat
  base : Nat
  deriving DecidableEq, Repr

/-- A force (04 R142): the slot is none for a shared variable; the value is its bit pattern. -/
structure Force where
  slot : Option Nat
  id : Nat
  elem : Nat
  value : Nat
  deriving DecidableEq, Repr

/-- What IMAGE operations write into the output image of their slot (04 R128). -/
inductive ImgKey where
  | dout (n : Nat)
  | pwm (n : Nat)
  | loopSp (ch : Nat)
  | loopFf (ch : Nat)
  | loopTrack (ch : Nat)
  | loopMode (ch : Nat)
  | loopRep (ch : Nat)
  /-- A data word of the output frame for a member (04 R136). -/
  | rout (member word : Nat)
  | release (member : Nat)
  /-- A word of the image's copy of a TX buffer (12 R448). -/
  | canWord (ctrl buffer word : Nat)
  deriving DecidableEq, Repr

/-- A request that acts once, at the output instant of its image (07 R259, 08 R292, 12 R448). -/
inductive ImgReq where
  | axis (r : AxisReq)
  | armLatch (n : Nat)
  | canSend (ctrl buffer : Nat)
  deriving DecidableEq, Repr

/-- Values and requests of an output image (04 R128). -/
structure ImageOut where
  values : List (ImgKey × Nat) := []
  reqs : List ImgReq := []
  deriving DecidableEq, Repr


/-- The input image tagged with a cycle, as an execution reads it (04 R129): the latched fields of the units' items. -/
structure Inputs where
  dins : Tab Din := []
  encs : Tab Enc := []
  convs : Tab Conv := []
  adc : Tab AdcResult := []
  axes : Tab AxisCh := []
  can : Tab CanCtrl := []
  /-- Data words of the members, and their station status words (01 R29). -/
  members : Tab Member := []
  stations : Tab Nat := []
  loops : Tab (List Word) := []
  /-- The down-ring exchanges data in this device cycle (04 R136). -/
  exchanges : Bool := false
  deriving DecidableEq, Repr

/-- An entry of a delay list (05 R175). -/
structure DelayEntry where
  op : Nat
  /-- Release tick in µs. -/
  tick : Nat
  deriving DecidableEq, Repr

/-- An execution in progress (04 R137, 05 R162). -/
structure Exec where
  /-- The cycle in which it began, the tag of its inputs, and the cycle in which it is due. -/
  tag : Nat
  due : Nat
  /-- INPUT_TIME in ns, and the instant of device time of the input-ready point of its first cycle. -/
  inputNs : Nat
  readyAt : Nat
  inputs : Inputs
  /-- The values of SYS_READ by PARAM (04 R127). -/
  sys : List Nat
  /-- Rising and falling counts of the inputs at the slot's previous execution, none before the first (04 R132). -/
  prevDins : Option (Tab Din)
  /-- INPUT_TIME of the slot's previous execution. -/
  prevNs : Nat
  /-- Tokens received by each operation. -/
  tokens : Tab Nat := []
  /-- Operations that have not completed. -/
  left : Nat
  /-- The source operations that wait for room on a ready list (05 R163, R168). -/
  sources : List Nat := []
  /-- The state variables whose step has already been paused in this execution, by their first word (04 R135). -/
  paused : List Nat := []
  /-- The delay list (05 R175), by release tick. -/
  delays : List DelayEntry := []
  out : ImageOut := {}
  /-- A memory access of an operation ended in a bus error (16 R553). -/
  failed : Bool := false
  /-- It overran (05 R181). -/
  late : Bool := false
  /-- Its source operations wait for this instant of device time, the input-ready point, which lies beyond the commit point of the
  cycle in which it began (01 R45). -/
  release : Option Nat := none
  deriving DecidableEq, Repr

/-- A GRAPH.STEP in progress (04 R141). -/
structure Stepping where
  period : Bool
  /-- Operations still to run, for KIND OPERATION, and operations run. -/
  left : Nat
  ran : Nat := 0
  deriving DecidableEq, Repr

/-- One program slot (04 R117, R137–R140). -/
structure GSlot where
  bankA : Bank := {}
  bankB : Bank := {}
  /-- Bank B is active. -/
  activeB : Bool := false
  enabled : Bool := false
  held : Bool := false
  /-- X of R137 while periods run. -/
  origin : Option Nat := none
  exec : Option Exec := none
  /-- The outputs of the latest completed execution, and those that wait for their due cycle (04 R128). -/
  last : List (ImgKey × Nat) := []
  ready : Option (Nat × ImageOut) := none
  /-- FIRST, MOULTED and RESUME_GAP of the next execution (04 R127). -/
  first : Bool := true
  moulted : Bool := false
  resumeGap : Nat := 0
  /-- EXECUTIONS of SYS_READ (04 R127). -/
  executions : Nat := 0
  /-- The overrun word of the present execution and of the next (05 R182). -/
  overrun : Nat := 0
  overrunNext : Nat := 0
  /-- Inputs and INPUT_TIME of the latest execution (04 R132, R135). -/
  lastDins : Option (Tab Din) := none
  lastNs : Nat := 0
  stepping : Option Stepping := none
  /-- The cycle of the last record of R131, and of R183. -/
  arithCycle : Option Nat := none
  budgetCycle : Option Nat := none
  abandoned : Nat := 0
  arithExc : Nat := 0
  forcesDropped : Nat := 0
  lastMoult : Nat := 0
  deriving DecidableEq, Repr

/-- The GRAPH unit (04). -/
structure GraphUnit where
  slots : Tab GSlot := []
  shared : List Shared := []
  forces : List Force := []
  /-- State variables that no operation has used since they were initialised, by their first word (04 R132, R134). -/
  freshVars : List Nat := []
  /-- The device cycle whose input-ready point has passed (04 R137, 05 R163). -/
  readyCycle : Option Nat := none
  /-- The output image of the cycle in progress, formed at its commit point (04 R128). -/
  image : ImageOut := {}
  /-- The values of the image in force, empty before the first committed image of a stay in RUN (01 R26, R28). -/
  inForce : List (ImgKey × Nat) := []
  deriving DecidableEq, Repr

end Sys2Proof.Machine
end

