-- ==== Sys2Proof/Machine/Units/Loop.lean ====
section
/-! DEFINITION. The state of the loop engine beyond loop memory, which holds configuration, banks, state words and tables
(chapter 06). -/

namespace Sys2Proof.Machine

/-- A released sample: what its channel latched at the sample instant (06 R189, R194, R218). -/
structure LoopSample where
  /-- The sample instant in µs of ring time. -/
  us : Nat
  /-- PV, SP, FF and TRACK sources: the latched value as REAL32, none where the source is bad at the instant; a WAIT or LOOP
  source is read when the evaluation starts. -/
  pv : Option Nat
  sp : Option Nat
  ff : Option Nat
  track : Option Nat
  /-- The mode in which the sample is evaluated (06 R200), and the channel's own mode (06 R199): 0 AUTO, 1 MANUAL, 2 HOLD, 3 TRACK. -/
  mode : Nat
  ownMode : Nat
  /-- MANUAL with OUT_SUBST (SUBST_ACTION 1). -/
  substManual : Bool
  /-- The commanded position of AXIS in whole counts, in INDEX_MODE AXIS (06 R212). -/
  axisPos : Int := 0
  deriving DecidableEq, Repr

/-- One loop channel (06). -/
structure LoopCh where
  released : Option LoopSample := none
  /-- The instant of the last sample tick, in µs. -/
  lastTick : Option Nat := none
  /-- The number of the last publication before that tick (06 R192). -/
  published : Nat := 0
  /-- The next good evaluation starts afresh (06 R201). -/
  fresh : Bool := false
  /-- The next evaluation is the first under a bank with BUMPLESS (06 R211). -/
  bumpless : Bool := false
  /-- A changeover swap is due at the next sample (06 R209), and an action of LOOP_REP (06 R202, R214). -/
  swapDue : Bool := false
  repDue : Option Nat := none
  /-- RESAMPLING: the old REP_N and the REP_STATE to return to (06 R215). -/
  resample : Option (Nat × Nat) := none
  /-- The device cycle of the last record of R217. -/
  skipCycle : Option Nat := none
  deriving DecidableEq, Repr

/-- The loop engine (06). -/
structure LoopUnit where
  ch : Tab LoopCh := []
  /-- What each channel shows to LOOP_READ since the last input instant (06 R202): pv, sp, e, u, I, r as REAL32, STATUS. -/
  images : Tab (List Word) := []
  deriving DecidableEq, Repr

end Sys2Proof.Machine
end

