-- ==== Sys2Proof/Machine/Units/Net.lean ====
section
/-! DEFINITION. The state of the TIME unit (chapter 13). -/

namespace Sys2Proof.Machine

/-- An entry of a transmit time-stamp queue (13 R472). -/
structure TsEntry where
  seq : Nat
  type : Nat
  domain : Nat
  egress : Nat
  deriving DecidableEq, Repr

/-- One Ethernet port (13 R474). -/
structure EthPort where
  enable : Bool := false
  autoneg : Bool := false
  tsqEn : Bool := false
  mac : Nat := 0
  vlan : Nat := 0
  pcp : Nat := 0
  ipv4 : Nat := 0
  prefixLen : Nat := 0
  gateway : Nat := 0
  ingressNs : Nat := 0
  egressNs : Nat := 0
  asymNs : Int := 0
  linkUp : Bool := false
  tsq : List TsEntry := []
  overflow : Bool := false
  tsqDropped : Nat := 0
  deriving DecidableEq, Repr

/-- TIME.STATUS code of a track's state (13 R464, R480). -/
inductive TrackState where
  | off | listening | uncalibrated | locked | holdover
  deriving DecidableEq, Repr

def TrackState.num : TrackState → Nat
  | .off => 0 | .listening => 1 | .uncalibrated => 2 | .locked => 3 | .holdover => 4

/-- A master heard on a track's ports (13 R462). -/
structure Foreign where
  port : Nat
  announce : Announcement
  /-- Announce messages received. -/
  count : Nat := 1
  heardAt : Nat
  deriving DecidableEq, Repr

/-- A two-step Sync that waits for its Follow_Up (13 R463). -/
structure WaitingSync where
  source : Nat
  seq : Nat
  corr : Int
  t2 : Int
  at' : Nat
  deriving DecidableEq, Repr

/-- One track (13 R464, R475). -/
structure Track where
  enable : Bool := false
  ports : Nat := 0
  udp : Bool := false
  p2p : Bool := false
  domain : Nat := 0
  majorSdo : Nat := 0
  minorSdo : Nat := 0
  logDelay : Int := 0
  announceTimeout : Nat := 2
  syncTimeoutMs : Nat := 1
  lockNs : Nat := 1
  state : TrackState := .off
  foreigns : List Foreign := []
  /-- The selected master: port and its latest Announce; and the grandmaster of the latest one selected. -/
  master : Option (Nat × Announcement) := none
  lastGm : Option Nat := none
  waiting : List WaitingSync := []
  /-- The estimate of R464: off, rate (binary64, ppb), ref, valid, good. -/
  off : Int := 0
  rate : Nat := 0
  ref : Int := 0
  valid : Bool := false
  good : Nat := 0
  err : Int := 0
  /-- The last measurements of the mean path delay by port, newest first. -/
  delays : Tab (List Int) := []
  /-- t2 − t1 − correction of the latest Sync, for the delay mechanism. -/
  msDelay : Option Int := none
  /-- The requests on the way: port, sequenceId and egress time, and for P2P the times known once Pdelay_Resp has come. -/
  requests : List (Nat × Nat × Int) := []
  pdelays : List (Nat × Int × Int) := []
  delaySeq : Nat := 0
  /-- The instant of the latest request. -/
  requestAt : Option Nat := none
  lastSyncAt : Nat := 0
  syncs : Nat := 0
  invalid : Nat := 0
  deriving DecidableEq, Repr

/-- The TIME unit (13). -/
structure NetUnit where
  ports : Tab EthPort := []
  tracks : Tab Track := []
  /-- SOURCE: 0 TRACK_A, 1 TRACK_B, 2 HOST, 3 RING (R476). -/
  source : Nat := 3
  autoSwitch : Bool := false
  steer : Bool := false
  stepEarly : Bool := false
  slewPpm : Nat := 10
  maxSteerPpm : Nat := 50
  stepUs : Nat := 1000
  /-- The target of M: off at device time ref, with a rate (binary64, ppb) or, from the ring, a slope. -/
  mapValid : Bool := false
  off : Int := 0
  ref : Int := 0
  rate : Nat := 0
  ring : Bool := false
  slopePpt : Int := 0
  /-- M less its target at device time diffAt (R465). -/
  diff : Int := 0
  diffAt : Int := 0
  utcOffset : Int := 0
  utcKnown : Bool := false
  leap61 : Bool := false
  leap59 : Bool := false
  /-- The end of the UTC day in which a leap second falls, in UTC ns, and whether it is inserted. -/
  leap : Option (Int × Bool) := none
  /-- After a reset, until the source locks again (R467). -/
  relocking : Bool := false
  /-- A step of device time to the source is due, in ns (R468), and has been made once. -/
  stepDue : Option Int := none
  stepped : Bool := false
  /-- Steering of the rate of device time in ppb (R468). -/
  steerPpb : Int := 0
  switches : Nat := 0
  taiSteps : Nat := 0
  framesDropped : Nat := 0
  /-- TIME_MAP is due before its period ends: a step, source change or leap announcement (R469); and the instant of the latest. -/
  mapDue : Bool := false
  mapAt : Option Nat := none
  /-- The UDP transport (R479). -/
  udpEnabled : Bool := false
  udpPort : Nat := 0
  udpPorts : Nat := 0
  dscp : Nat := 0
  allow : List (Nat × Nat) := []
  deriving DecidableEq, Repr

end Sys2Proof.Machine
end

