-- ==== Sys2Proof/Machine/Units/Pair.lean ====
section
/-! DEFINITION. The state of a pair half (chapter 15). -/

namespace Sys2Proof.Machine

/-- The role of a device in a pair (15 R518, R524). -/
inductive Role where
  | off | active | alone | syncing | standby
  deriving DecidableEq, Repr

/-- ROLE of PAIR.STATUS and of SIG:PAIR/role (15 R524). -/
def Role.num : Role → Nat
  | .off => 0 | .active => 1 | .alone => 2 | .syncing => 3 | .standby => 4

/-- The role holds the crook as a pair half (15 R524). -/
def Role.holds : Role → Bool
  | .active => true | .alone => true | _ => false

/-- A delta on its way to the peer (15 R532, R535): SEQ, c and the covered words written since the commit point before. -/
structure Outgoing where
  seq : Nat
  cycle : Nat
  words : List (Nat × Nat)
  deriving DecidableEq, Repr

/-- A give-up that is due at a commit point (15 R539, R547). -/
structure GiveUp where
  /-- The first cycle in which nothing is committed; none: the one in progress. -/
  cycle : Option Nat
  /-- PAIR.HANDOVER; else a warm reset with NO_RESUME follows. -/
  handover : Option Packet
  /-- RESET_CAUSE of that reset. -/
  cause : Nat := 2
  /-- DEV.RESET or the watchdog asked for it: without a STANDBY peer the device is reset all the same. -/
  reset : Bool := false
  deriving DecidableEq, Repr

/-- The pair unit (15). -/
structure PairUnit where
  role : Role := .off
  /-- HALF (R545): this is half 1. -/
  half1 : Bool := false
  /-- LEASE_MS (R545). -/
  leaseMs : Nat := 2
  /-- GIVEUP_SEV (R545). -/
  giveupSev : Nat := 2
  /-- The pair lane's link is UP (R519). -/
  laneUp : Bool := false
  /-- The level of CROOK_IN as read (R520). -/
  crookIn : Bool := false
  /-- PEER_LOST (R528). -/
  peerLost : Bool := false
  /-- The peer is STANDBY (R527), or is SYNCING and answers (R537). -/
  peerStandby : Bool := false
  peerSyncing : Bool := false
  /-- COPY_PERMILLE (R546), and the full copy is complete (R538). -/
  copyPermille : Nat := 0
  copyDone : Bool := false
  /-- SEQ of the last complete image, and of the next one (R533). -/
  seq : Nat := 0
  nextSeq : Nat := 0
  /-- The standby's last delta was discarded (R533): CURRENT is 0. -/
  current : Bool := false
  /-- The delta of the newest image, until DELTA_COMPLETE (R535). -/
  outgoing : Option Outgoing := none
  /-- sent_at of each SEQ, lease_end, last_renew (R527), on the half's own clock. -/
  sentAt : Tab Nat := []
  leaseEnd : Nat := 0
  lastRenew : Nat := 0
  /-- The latest ACK: its instant, and whether it shows that the peer holds (R529). -/
  lastAck : Option (Nat × Bool) := none
  /-- The instant since which this half has seen no holder (R530). -/
  alarmFrom : Nat := 0
  /-- The give-up that is due (R539). -/
  giveUp : Option GiveUp := none
  /-- The crook was taken, and the restoration is due at the start of the next cycle (R540): some true from the image as
  the peer's deltas left it, some false from an own image with its undo log (R530). -/
  takeDue : Option Bool := none
  /-- Device time in timing clocks at which the crook was taken: the half sends from the next cycle of each ring (R528). -/
  tookAt : Option Nat := none
  /-- Local outputs stay high-impedance across the gap of a takeover (R542). -/
  quiet : Bool := false
  /-- The PAIR.HANDOVER that the new holder answers in q (R547). -/
  answer : Option Packet := none
  /-- DELTA_MAX_BYTES, COCOON_OVERRUNS, TAKES, GIVE_UPS, LINE_FAULT, LANE_ERR (R546). -/
  deltaMax : Nat := 0
  overruns : Nat := 0
  takes : Nat := 0
  giveUps : Nat := 0
  lineFault : Nat := 0
  laneErr : Nat := 0
  /-- The ranges of PAIR.CHECKPOINT_CONFIG (R548): START and SIZE. -/
  ranges : List (Nat × Nat) := []
  deriving DecidableEq, Repr

end Sys2Proof.Machine
end

