-- ==== Sys2Proof/Machine/Units/Pwr.lean ====
section
/-! DEFINITION. The state of the power and health manager (chapter 18). -/

namespace Sys2Proof.Machine

/-- The power states of a domain (18 R598). -/
inductive PState where
  | on | gated | retain | off
  deriving DecidableEq, Repr

/-- The state's number in PWR.STATE (18 R617); deeper states have greater numbers. -/
def PState.num : PState → Nat
  | .on => 0 | .gated => 1 | .retain => 2 | .off => 3

/-- One power domain (18 R597–R604). -/
structure Domain where
  state : PState := .on
  /-- The target of the transition in progress, and the instant at which it began. -/
  going : Option PState := none
  since : Nat := 0
  /-- The queued target (R602). -/
  queued : Option PState := none
  /-- An access waits for the domain: a lowering it cut short is wasted (R602). -/
  cutShort : Bool := false
  tolUs : Nat := 0
  wakeTimeoutUs : Nat := 2000
  failed : Bool := false
  /-- The raising in progress is the one repeat of R603. -/
  retrying : Bool := false
  deriving DecidableEq, Repr

/-- The GRAZE configuration of PWR.GRAZE_CONFIG (18 R618). -/
structure GrazeConfig where
  periodMs : Nat
  monWake : Bool
  canWake : Nat
  maxS : Nat
  entries : List Nat
  deriving DecidableEq, Repr

/-- One health monitor (18 R612, R613): limits and value in the monitor's VALUE format. -/
structure Monitor where
  lowWarn : Int
  highWarn : Int
  lowAlarm : Int
  highAlarm : Int
  alarmSev : Nat
  hyst : Nat
  value : Int := 0
  crossLowWarn : Bool := false
  crossHighWarn : Bool := false
  crossLowAlarm : Bool := false
  crossHighAlarm : Bool := false
  /-- A sample waits for its publication at the next input instant. -/
  sampled : Bool := false
  deriving DecidableEq, Repr

/-- The temperature limits of R613: -40, +100, -45, +110 °C in 1/16 °C, hysteresis 2 °C. -/
def Monitor.temperature : Monitor :=
  { lowWarn := -640, highWarn := 1600, lowAlarm := -720, highAlarm := 1760, alarmSev := 2, hyst := 32 }

/-- The voltage limits of R613 about a nominal in mV: ±5 %, ±10 %, hysteresis 0.5 %. -/
def Monitor.voltage (nominal : Nat) : Monitor :=
  { lowWarn := nominal - nominal * 5 / 100, highWarn := nominal + nominal * 5 / 100
    lowAlarm := nominal - nominal * 10 / 100, highAlarm := nominal + nominal * 10 / 100
    alarmSev := 3, hyst := nominal * 5 / 1000 }

/-- The process limits of R613 in 0.01 %: ±20 %, ±30 %, hysteresis 1 %. -/
def Monitor.process : Monitor :=
  { lowWarn := -2000, highWarn := 2000, lowAlarm := -3000, highAlarm := 3000, alarmSev := 1, hyst := 100 }

/-- The 24 monitors after a cold power-up (R612, R613): eight temperatures, twelve supplies with the nominals of
19 R625, four process monitors. The I/O banks are taken at 3.3 V. DESIGN CHOICE: the level is sensed (log 14). -/
def Monitor.afterPowerUp : List Monitor :=
  List.replicate 8 Monitor.temperature ++
  [750, 800, 800, 900, 1200, 1800, 3300, 3300, 3300, 3300, 900, 3300].map Monitor.voltage ++
  List.replicate 4 Monitor.process

/-- The power and health manager (18). -/
structure PwrUnit where
  /-- Domains 0 to 11; an unlisted domain is ON with the defaults. -/
  domains : Tab Domain := []
  wakes : Nat := 0
  wasted : Nat := 0
  wakeRetries : Nat := 0
  /-- WAKE_CAUSE of PWR.STATE (R617). -/
  wakeCause : Nat := 0
  /-- The GRAZE configuration accepted since the last reset (R605). -/
  graze : Option GrazeConfig := none
  /-- The instant at which GRAZE was entered, and whether the entry is still running (R605, R611). -/
  grazeSince : Nat := 0
  /-- The instant of the next sample of GRAZE (R606). -/
  nextSample : Nat := 0
  entryRunning : Bool := false
  /-- An exit asked for during the entry, with its WAKE_CAUSE and DETAIL2 (R611). -/
  exitQueued : Option (Nat × Nat) := none
  /-- The device has woken and returns to READY once it is integrated (R610). -/
  waking : Bool := false
  /-- The device is in GRAZE, or has left it and its units are not yet back from it (R605, R610). -/
  inGraze : Bool := false
  /-- Levels and counts at the end of the entry (R607). -/
  entryLevels : Tab Bool := []
  entryCounts : Tab Nat := []
  /-- The masked compare entries and CAN_WAKE sources (R609). -/
  masked : List Nat := []
  canMasked : List Nat := []
  monitors : List Monitor := Monitor.afterPowerUp
  /-- The instant of the latest sample of the monitors (R612). -/
  monitoredAt : Option Nat := none
  /-- The instant at which TIMING reached RETAIN, and device time there (R599). -/
  timingLow : Option (Nat × Nat) := none
  /-- TEMP_MAX, none before the first sample, and TRIPS (R620). -/
  tempMax : Option Int := none
  trips : Nat := 0
  thermalTrip : Bool := false
  deriving DecidableEq, Repr

end Sys2Proof.Machine
end

