-- ==== Sys2Proof/Machine/Units/Sched.lean ====
section
/-! DEFINITION. The state of the dataflow scheduler (chapter 05). -/

namespace Sys2Proof.Machine

/-- An operation on a ready list (05 R164). -/
structure Ready where
  slot : Nat
  op : Nat
  prio : Nat
  /-- The clock at which it became ready. -/
  at' : Nat
  deriving DecidableEq, Repr

/-- A token on its way to an operation (05 R173): the clock since which it waits. -/
structure Token where
  slot : Nat
  op : Nat
  at' : Nat
  deriving DecidableEq, Repr

/-- The operation that a core runs (05 R165). -/
structure Running where
  slot : Nat
  op : Nat
  startedAt : Nat
  /-- GRAPH.STEP dispatched it (04 R141). -/
  stepped : Bool := false
  /-- Its execution was abandoned: no token leaves it (04 R140). -/
  dead : Bool := false
  /-- It waits for the conversion of AIN_URGENT (08 R277). -/
  urgent : Bool := false
  /-- The value of an ACQ_PUBLISH that waits for room, since a clock (09 R310). -/
  publishing : Option (Nat × Nat) := none
  deriving DecidableEq, Repr

/-- One graph core (05 R164, R171, R173, R186). -/
structure Core where
  /-- The ready lists, in the order in which operations became ready; a list of one priority is the part with that
  priority. -/
  lists : List Ready := []
  prefetch : List Ready := []
  /-- The operations that GRAPH.STEP commands dispatched to this core (05 R166), the first to start first. -/
  step : List Ready := []
  running : Option Running := none
  /-- The token queue, and the tokens of the completed operation that have not entered a queue, since a clock. -/
  queue : List Token := []
  stalled : List (Nat × Token) := []
  stalledAt : Nat := 0
  opsRun : Nat := 0
  busyNs : Nat := 0
  taken : Nat := 0
  given : Nat := 0
  displaced : Nat := 0
  misses : Nat := 0
  bpStallNs : Nat := 0
  spilled : Nat := 0
  readyHigh : Nat := 0
  deriving DecidableEq, Repr

/-- The settings and counters of one slot (05 R185, R186). -/
structure SlotSched where
  shedUs : Nat := 10
  abandonPolicy : Bool := false
  prio : Nat := 0
  prioOvr : Bool := false
  /-- CORE_LIMIT; bits of cores that the variant lacks do not count. -/
  coreLimit : Nat := 0xFFFF
  /-- Home cores by operation: core + 1; 0 is NONE (05 R167). -/
  homes : Tab Nat := []
  executions : Nat := 0
  overruns : Nat := 0
  skipped : Nat := 0
  cancelled : Nat := 0
  delayFull : Nat := 0
  lastExecNs : Nat := 0
  maxExecNs : Nat := 0
  budgetExceeded : Nat := 0
  deriving DecidableEq, Repr

/-- Settings of SCHED.CONFIG that take effect at the start of the next cycle (05 R185). -/
structure SchedChange where
  /-- None for SCOPE 0. -/
  slot : Option Nat
  w1 : Nat
  w2 : Nat
  deriving DecidableEq, Repr

/-- The scheduler (05). -/
structure SchedUnit where
  cores : Tab Core := []
  slots : Tab SlotSched := []
  stealMin : Nat := 2
  affWaitNs : Nat := 500
  spillNs : Nat := 2000
  changes : List SchedChange := []
  /-- Tokens in the spill area, each with the core of its queue, oldest first (05 R174). -/
  spill : List (Nat × Token) := []
  deriving DecidableEq, Repr

end Sys2Proof.Machine
end

