-- ==== Sys2Proof/Machine/Units/Keep.lean ====
section
/-! DEFINITION. What checkpoint memory holds: the configuration record, the fixed part of the cocoon image and the undo log
(03 R97, R99; 15 R531–R534). The spec gives no coding of the record and of the fixed part, so they are kept as data; the
bytes of checkpoint memory are free (log 64). -/

namespace Sys2Proof.Machine

/-- A slot in the image (15 R531). -/
structure SlotImage where
  slot : Nat
  enabled : Bool
  held : Bool
  activeB : Bool
  overrun : Nat
  deriving DecidableEq, Repr

/-- An axis in the image (15 R531): its channel after the last tick, with the commanded position, the velocity and the
feedback position at that tick in Q40.24. -/
structure AxisImage where
  axis : Nat
  ch : AxisCh
  us : Int
  pos : Int
  vel : Int
  fb : Int
  deriving DecidableEq, Repr

/-- The fixed part of the cocoon image tagged `cycle` (15 R531). -/
structure Cocoon where
  cycle : Nat
  mode : Mode
  commit : Commit
  miss : Nat
  /-- An image was committed in this stay in RUN, and LATCHED, the last applied tag and the output image. -/
  firstCommitted : Bool
  lastApplied : Nat
  image : ImageOut
  inForce : List (ImgKey × Nat)
  /-- The output image was committed and waits for its output instant. -/
  committed : Bool
  slots : List SlotImage
  forces : List Force
  axes : List AxisImage
  upMode : Nat
  upEpoch : Nat
  downMode : Nat
  downEpoch : Nat
  deriving DecidableEq, Repr

/-- The configuration record (03 R97): the configuration of every unit as it stood. -/
structure Record where
  dev : DevUnit
  holdBudget : Nat
  latchSubst : Bool
  passS : Nat
  ceThreshold : Nat
  tallySettings : List TallySetting
  defaultRefill : Nat
  monitors : List Monitor
  graze : Option GrazeConfig
  /-- The ranges of PAIR.CHECKPOINT_CONFIG (15 R548). -/
  ranges : List (Nat × Nat)
  graph : GraphUnit
  sched : SchedUnit
  axis : AxisUnit
  adc : AdcUnit
  dio : DioUnit
  acq : AcqUnit
  drove : DroveUnit
  can : CanUnit
  net : NetUnit
  deriving DecidableEq, Repr

/-- An incoming delta at END (15 R532, R533): the CRC is correct, SEQ, c, the records as address and words, and the fixed
part of the image. -/
structure Delta where
  good : Bool
  seq : Nat
  records : List (Nat × List Word)
  image : Cocoon
  deriving DecidableEq, Repr

/-- The full copy (15 R538): the configuration record, and memory as address and words. -/
structure FullCopy where
  record : Record
  records : List (Nat × List Word)
  deriving DecidableEq, Repr

/-- Checkpoint memory (03 R97, R99; 15 R534). The configuration record is the configuration that the units hold: it stays in
place through a reset (log 64). -/
structure KeepUnit where
  /-- The newest complete image, none: the device is not RESUMABLE. -/
  image : Option Cocoon := none
  /-- The undo log since that image (15 R532), one layer for each commit point since, the newest first: the old value of
  each covered word at its first write. -/
  undo : List (Tab (Option Nat)) := []
  /-- The image of the last commit point while its delta is on its way to the peer: it is complete at DELTA_COMPLETE
  (15 R535). -/
  next : Option Cocoon := none
  deriving DecidableEq, Repr

end Sys2Proof.Machine
end

