-- ==== Sys2Proof/Syntax.lean ====
section
/-! DEFINITION. The commands of the block: one constructor for each row of the opcode table. A packet row takes the command
packet as it reaches the executing device; an event row takes what it names and, last, its instant in timing clocks of the
model's own time line (log 33). -/

namespace Sys2Proof

open Machine

inductive Instr where
  /-- DEV_IDENTIFY (R109). Returns the presence bitmap, the capability words, the revision and the serial number. -/
  | devIdentify (p : Packet)
  /-- DEV_RESET (R110). Schedules a warm reset of the executing device, 10 µs after the reply or at cycle AT. -/
  | devReset (p : Packet)
  /-- DEV_RESUME (R111). Requests a resume from the checkpoint inside the resume window; the reply is written in cycle q. -/
  | devResume (p : Packet)
  /-- DEV_SET_MODE (R112). Requests a mode transition under R106, optionally at a named cycle. -/
  | devSetMode (p : Packet)
  /-- DEV_SAFE_ACK (R113). Takes the device from SAFE to READY when the conditions of R108 hold. -/
  | devSafeAck (p : Packet)
  /-- DEV_STATUS (R114). Returns DEV_STATE, READY_MISSING, resume state and SAFE_CAUSE. -/
  | devStatus (p : Packet)
  /-- DEV_RESUME_CONFIG (R115). Sets AUTO_RESUME, RESUME_TO and MAX_GAP. -/
  | devResumeConfig (p : Packet)
  /-- DEV_CYCLE_CONFIG (R46). Sets the hold budget and LATCH_SUBST, and ends LATCHED on a device without an up-ring. -/
  | devCycleConfig (p : Packet)
  /-- DEV_CYCLE_STATUS (R47). Returns the cycle state and the commit counters. -/
  | devCycleStatus (p : Packet)
  /-- DEV_CHANGEOVER (R44). Starts a coordinated changeover of banks and schedule modes at cycle X. -/
  | devChangeover (p : Packet)
  /-- MEM_READ (R574). Reads COUNT words of device memory or registers. -/
  | memRead (p : Packet)
  /-- MEM_WRITE (R574). Writes words to device memory or registers, clearing poison on whole aligned pairs. -/
  | memWrite (p : Packet)
  /-- MEM_FILL (R575). Fills a memory region with a pattern in BULK-class accesses. -/
  | memFill (p : Packet)
  /-- MEM_DMA (R576). Copies a region between host memory and device memory over PCI Express. -/
  | memDma (p : Packet)
  /-- MEM_SCRUB_CONFIG (R577). Sets the scrub pass time and the CE threshold. -/
  | memScrubConfig (p : Packet)
  /-- MEM_ERR_STATUS (R578). Returns the parity and SECDED counters, optionally clearing them. -/
  | memErrStatus (p : Packet)
  /-- MEM_FAULT_QUEUE (R579). Returns a snapshot of the fault in hand and the waiting faults. -/
  | memFaultQueue (p : Packet)
  /-- PWR_LATENCY_SET (R616). Sets the wake-latency tolerance and the wake timeout of the named domains. -/
  | pwrLatencySet (p : Packet)
  /-- PWR_STATE (R617). Returns the domain power states, the failed marks, the masks and the wake counters. -/
  | pwrState (p : Packet)
  /-- PWR_GRAZE_CONFIG (R618). Replaces the GRAZE configuration and clears the masks of the sources it rewrites. -/
  | pwrGrazeConfig (p : Packet)
  /-- PWR_MONITOR_CONFIG (R619). Sets the warn and alarm limits of one monitor. -/
  | pwrMonitorConfig (p : Packet)
  /-- PWR_MONITOR_READ (R620). Returns the monitor values and the crossed limits. -/
  | pwrMonitorRead (p : Packet)
  /-- PWR_DOMAIN_RETRY (R621). Raises a FAILED domain again under R604. -/
  | pwrDomainRetry (p : Packet)
  /-- GRAPH_LOAD (R154). Writes program image words into a bank, clearing it first with FIRST. -/
  | graphLoad (p : Packet)
  /-- GRAPH_VERIFY (R155). Verifies a bank under R145, allocates its variables and builds the carry plan. -/
  | graphVerify (p : Packet)
  /-- GRAPH_ARM (R156). Arms the verified standby bank of a slot for the moult. -/
  | graphArm (p : Packet)
  /-- GRAPH_DISARM (R156). Withdraws an armed or armed-back standby bank. -/
  | graphDisarm (p : Packet)
  /-- GRAPH_CONTROL (R157). Enables, disables, holds, continues or initialises a slot. -/
  | graphControl (p : Packet)
  /-- GRAPH_STEP (R158). Single-steps operations or a period of a held slot. -/
  | graphStep (p : Packet)
  /-- GRAPH_FORCE (R159). Sets, releases or lists forces on variable elements. -/
  | graphForce (p : Packet)
  /-- GRAPH_VAR_READ (R160). Reads variable elements at the first commit point at which the slot is idle. -/
  | graphVarRead (p : Packet)
  /-- GRAPH_VAR_WRITE (R160). Writes unforced variable values at the first input-ready point at which the slot is idle. -/
  | graphVarWrite (p : Packet)
  /-- GRAPH_ROLLBACK (R152). Arms the PREVIOUS bank with the reverse carry plan of the last moult. -/
  | graphRollback (p : Packet)
  /-- GRAPH_STATUS (R161). Returns slot, bank, generation and counter state. -/
  | graphStatus (p : Packet)
  /-- SCHED_CONFIG (R185). Sets the device-wide scheduler limits or one slot's scheduling settings. -/
  | schedConfig (p : Packet)
  /-- SCHED_COUNTERS (R186). Returns the counters of one core or one slot. -/
  | schedCounters (p : Packet)
  /-- SCHED_CLEAR_COUNTERS (R187). Clears the core or slot counters. -/
  | schedClearCounters (p : Packet)
  /-- SCHED_STATUS (R188). Returns back-pressure, idle, spill and overrun state. -/
  | schedStatus (p : Packet)
  /-- LOOP_CHANNEL_CONFIG (R223). Writes configuration words 0–11 of a loop channel and enables or disables it. -/
  | loopChannelConfig (p : Packet)
  /-- LOOP_COEF_WRITE (R224). Writes consecutive coefficient words of one bank of one channel. -/
  | loopCoefWrite (p : Packet)
  /-- LOOP_BANK_ARM (R225). Checks and arms, or disarms, the standby banks of a channel range. -/
  | loopBankArm (p : Packet)
  /-- LOOP_BANK_SWAP (R226). Swaps the armed banks of a channel range at their next samples. -/
  | loopBankSwap (p : Packet)
  /-- LOOP_MODE (R227). Sets the mode owner, the mode and MAN_OUT of a channel range. -/
  | loopMode (p : Packet)
  /-- LOOP_STATE_READ (R228). Returns state words 0–22 of a channel, taken between two evaluations. -/
  | loopStateRead (p : Packet)
  /-- LOOP_REP_CONFIG (R229). Assigns or releases a repetitive table and sets the index mode. -/
  | loopRepConfig (p : Packet)
  /-- LOOP_REP_CONTROL (R230). Applies OFF, START, FREEZE or RESET to the repetitive controllers of a range. -/
  | loopRepControl (p : Packet)
  /-- LOOP_LATENCY (R231). Returns the latency figures and the bound of one channel. -/
  | loopLatency (p : Packet)
  /-- AXIS_CONFIG (R262). Sets the kind, scaling, limits and substitute actions of a profile channel. -/
  | axisConfig (p : Packet)
  /-- AXIS_TABLE_WRITE (R263). Checks and writes consecutive segment entries, all or none. -/
  | axisTableWrite (p : Packet)
  /-- AXIS_START (R264). Starts a channel's table at a segment. -/
  | axisStart (p : Packet)
  /-- AXIS_STOP (R264). Requests a stop of one channel or of all channels. -/
  | axisStop (p : Packet)
  /-- AXIS_STATUS (R265). Returns position, velocity, state and counters of a channel. -/
  | axisStatus (p : Packet)
  /-- AXIS_SET_POSITION (R266). Relabels a channel's position by SET, FROM_FB or LATCH. -/
  | axisSetPosition (p : Packet)
  /-- AXIS_STANDSTILL (R267). Replaces a channel's standstill mode and delay, optionally waking it. -/
  | axisStandstill (p : Packet)
  /-- ADC_CONFIG (R294). Sets a converter's ranges and power mode and clears FAULTED. -/
  | adcConfig (p : Packet)
  /-- ADC_TABLE_WRITE (R295). Replaces one converter's channel table. -/
  | adcTableWrite (p : Packet)
  /-- ADC_GROUP_CONFIG (R296). Defines one simultaneous group and its trigger. -/
  | adcGroupConfig (p : Packet)
  /-- ADC_URGENT (R297). Makes an injected conversion of one input, or drops it. -/
  | adcUrgent (p : Packet)
  /-- ADC_CALIBRATE (R298). Performs the ZERO or FULL step of system calibration of one input. -/
  | adcCalibrate (p : Packet)
  /-- ADC_CAL_READ (R299). Reads OFFSET and GAIN pairs of the working calibration set. -/
  | adcCalRead (p : Packet)
  /-- ADC_CAL_WRITE (R299). Writes OFFSET and GAIN pairs into the working calibration set, all or none. -/
  | adcCalWrite (p : Packet)
  /-- ADC_STATUS (R300). Returns the state and counters of one converter. -/
  | adcStatus (p : Packet)
  /-- ACQ_SIGNAL_CONFIG (R348). Sets the reduction set, and for user entries the type, of a range of signal entries. -/
  | acqSignalConfig (p : Packet)
  /-- ACQ_STREAM_CONFIG (R349). Configures a stopped capture as continuous class. -/
  | acqStreamConfig (p : Packet)
  /-- ACQ_WINDOW_CONFIG (R349). Configures a stopped capture as window class. -/
  | acqWindowConfig (p : Packet)
  /-- ACQ_TRIGGER_CONFIG (R350). Sets and arms one trigger unit. -/
  | acqTriggerConfig (p : Packet)
  /-- ACQ_HIST_CONFIG (R351). Sets, clears or enables one histogram engine. -/
  | acqHistConfig (p : Packet)
  /-- ACQ_PMAP_CONFIG (R351). Sets, clears or enables one persistence-map engine. -/
  | acqPmapConfig (p : Packet)
  /-- ACQ_CONTROL (R352). Starts, stops, arms, releases a buffer of, or sets the rate of a capture. -/
  | acqControl (p : Packet)
  /-- ACQ_STATUS (R353). Returns the state and counters of a capture or of the engines. -/
  | acqStatus (p : Packet)
  /-- ACQ_INDEX_READ (R354). Returns consecutive signal index entries. -/
  | acqIndexRead (p : Packet)
  /-- RING_CONFIG (R398). Replaces the whole ring configuration of the device. -/
  | ringConfig (p : Packet)
  /-- RING_SCHEDULE_WRITE (R399). Checks and writes one schedule mode and distributes it to the members. -/
  | ringScheduleWrite (p : Packet)
  /-- RING_MODE_ARM (R400). Arms a written mode for changeover, or disarms the armed mode. -/
  | ringModeArm (p : Packet)
  /-- RING_START (R401). Starts or stops the up-ring or the down-ring interface. -/
  | ringStart (p : Packet)
  /-- RING_STATUS (R402). Returns a snapshot of one ring interface. -/
  | ringStatus (p : Packet)
  /-- RING_COUNTERS (R403). Returns the frame and healing counters of one ring, optionally clearing them. -/
  | ringCounters (p : Packet)
  /-- RING_SYNC_CONFIG (R426). Sets the synchronisation settings of the up-ring and returns its state. -/
  | ringSyncConfig (p : Packet)
  /-- RING_TOPOLOGY (R427). Returns entries of the topology table. -/
  | ringTopology (p : Packet)
  /-- CAN_CONFIG (R451). Sets the timing and modes of one CAN controller and enables or disables it. -/
  | canConfig (p : Packet)
  /-- CAN_FILTER_CONFIG (R452). Sets one acceptance filter. -/
  | canFilterConfig (p : Packet)
  /-- CAN_BUFFER_CONFIG (R453). Sets the kind of one message buffer. -/
  | canBufferConfig (p : Packet)
  /-- CAN_TRANSMIT (R454). Writes a frame into a TX buffer and queues it, optionally at a time. -/
  | canTransmit (p : Packet)
  /-- CAN_CANCEL (R455). Cancels a pending or waiting TX buffer and replies with its final state. -/
  | canCancel (p : Packet)
  /-- CAN_STATUS (R456). Returns the status word and counters of one controller. -/
  | canStatus (p : Packet)
  /-- CAN_RECOVER (R457). Starts bus-off recovery of a controller. -/
  | canRecover (p : Packet)
  /-- CAN_COUNTER_CONFIG (R458). Selects the time-stamp counter source of one or all controllers. -/
  | canCounterConfig (p : Packet)
  /-- TIME_PORT_CONFIG (R474). Sets one Ethernet port's addresses and time-stamp constants. -/
  | timePortConfig (p : Packet)
  /-- TIME_PTP_CONFIG (R475). Sets one PTP track and restarts it. -/
  | timePtpConfig (p : Packet)
  /-- TIME_DOMAIN_SELECT (R476). Selects the mapping source and its limits. -/
  | timeDomainSelect (p : Packet)
  /-- TIME_READ (R477). Returns device, TAI and calendar time and the mapping state. -/
  | timeRead (p : Packet)
  /-- TIME_TS_QUEUE_READ (R478). Removes entries from a port's transmit time-stamp queue. -/
  | timeTsQueueRead (p : Packet)
  /-- TIME_UDP_CONFIG (R479). Enables or disables the UDP command transport. -/
  | timeUdpConfig (p : Packet)
  /-- TIME_STATUS (R480). Returns the state and counters of one PTP track. -/
  | timeStatus (p : Packet)
  /-- SAFE_PARAM_LOAD (R511). Checks and loads a safety parameter set into the island. -/
  | safeParamLoad (p : Packet)
  /-- SAFE_SWITCH_READ (R512). Returns the switch word as read by both paths. -/
  | safeSwitchRead (p : Packet)
  /-- SAFE_STATUS (R513). Returns the island, pair, input and output state. -/
  | safeStatus (p : Packet)
  /-- SAFE_STOP (R514). Requests a stop of the named STO pairs. -/
  | safeStop (p : Packet)
  /-- SAFE_RESET (R515). Takes the named pairs from TORQUE_OFF to ENABLED and ends the stop. -/
  | safeReset (p : Packet)
  /-- SAFE_DIAG_READ (R516). Returns the island's diagnostic counters. -/
  | safeDiagRead (p : Packet)
  /-- SAFE_MEM_READ (R517). Reads words of the parameter set in force. -/
  | safeMemRead (p : Packet)
  /-- PAIR_CONFIG (R545). Sets the pair role, half, lease and give-up severity. -/
  | pairConfig (p : Packet)
  /-- PAIR_STATUS (R546). Returns the crook and cocoon state of a pair half. -/
  | pairStatus (p : Packet)
  /-- PAIR_HANDOVER (R547). Hands the crook over voluntarily to the standby. -/
  | pairHandover (p : Packet)
  /-- PAIR_CHECKPOINT_CONFIG (R548). Sets extra memory ranges covered by the image and the full copy. -/
  | pairCheckpointConfig (p : Packet)
  /-- PAIR_STANDBY_CHECK (R549). Compares the CRCs of configuration and armed banks of both halves. -/
  | pairStandbyCheck (p : Packet)
  /-- TALLY_CONFIG (R592). Sets, removes or defaults the rate limit of a unit and code. -/
  | tallyConfig (p : Packet)
  /-- TALLY_CURSOR (R593). Sets the command cursor. -/
  | tallyCursor (p : Packet)
  /-- TALLY_READ (R594). Returns records from the command cursor and advances it. -/
  | tallyRead (p : Packet)
  /-- TALLY_CLEAR (R595). Invalidates circulating records up to a SEQ and writes a CLEARED record. -/
  | tallyClear (p : Packet)
  /-- TALLY_STATUS (R596). Returns fill and suppression counts. -/
  | tallyStatus (p : Packet)
  /-- DIO_INPUT_CONFIG (R301). Sets filter, polarity, stuck and chatter detection of a range of inputs. -/
  | dioInputConfig (p : Packet)
  /-- DIO_OUTPUT_CONFIG (R301). Configures a range of digital outputs and their substitute values. -/
  | dioOutputConfig (p : Packet)
  /-- DIO_PWM_CONFIG (R302). Configures one PWM output and clears its dither fraction. -/
  | dioPwmConfig (p : Packet)
  /-- DIO_ENC_CONFIG (R303). Configures one encoder interface and sets its count to 0. -/
  | dioEncConfig (p : Packet)
  /-- DIO_READ (R304). Returns input levels, output read-backs and encoder counts. -/
  | dioRead (p : Packet)
  /-- DIO_WRITE (R305). Rewrites substitute values of outputs or the substitute duty of a PWM output. -/
  | dioWrite (p : Packet)
  /-- DIO_STATUS (R306). Returns stuck, chatter and output fault bits and clears QUAD_ERR. -/
  | dioStatus (p : Packet)
  /-- HOST_RING_CREATE (R84). Creates ring 2 to 63 in state ACTIVE. -/
  | hostRingCreate (p : Packet)
  /-- HOST_RING_DESTROY (R85). Destroys a ring after its taken packets complete. -/
  | hostRingDestroy (p : Packet)
  /-- HOST_EVENT_ROUTE (R86). Replaces the filter of an EVENT ring. -/
  | hostEventRoute (p : Packet)
  /-- PROD_DOORBELL (R60). Write of PROD of a COMMAND ring, publishing slots or faulting the ring on a bad index. -/
  | prodDoorbell (n v t : Nat)
  /-- CONS_DOORBELL (R60). Write of CONS of a REPLY, EVENT or STREAM ring, freeing slots or faulting the ring. -/
  | consDoorbell (n v t : Nat)
  /-- ENABLE (R59). Write of RING_CTRL.ENABLE of ring 0 or 1, zeroing the indices and making the ring ACTIVE or DISABLED. -/
  | enable (n : Nat) (en : Bool) (t : Nat)
  /-- RING_RESET (R59). Write of RING_CTRL.RING_RESET, zeroing the indices, discarding slots and leaving FAULT. -/
  | ringReset (n t : Nat)
  /-- HOST_ERR_CLEAR (R57). W1C write of HOST_ERR bits. -/
  | hostErrClear (mask t : Nat)
  /-- DROPPED_REPLIES_READ (R57). Read of DROPPED_REPLIES, returning the count and clearing it. -/
  | droppedRepliesRead (t : Nat)
  /-- HP_PENDING_CLEAR (R433). W1C write of a CAN controller's HP_PENDING bits. -/
  | hpPendingClear (c mask t : Nat)
  /-- BUFFER_LOCK (R436). Read of word 0 of a FULL CAN buffer, setting LOCKED. -/
  | bufferLock (c b t : Nat)
  /-- BUFFER_RELEASE (R436). Read of the last word of a locked CAN buffer, releasing it and taking in a pending frame. -/
  | bufferRelease (c b t : Nat)
  /-- RESULT_READ (R270). Read of an ADC result word, latching the sample-instant word for the same initiator. -/
  | resultRead (n initiator t : Nat)
  /-- CURSOR_WRITE (R589). Write of the TALLY CURSOR register, moving it to the next VALID record if needed. -/
  | cursorWrite (v t : Nat)
  /-- WINDOW_READ (R589). Read of the last WINDOW word, advancing CURSOR by 1. -/
  | windowRead (t : Nat)
  /-- BIT_SET_WRITE (R555). Write to the bit-set alias, OR-ing a mask into a system memory word atomically. -/
  | bitSetWrite (a n m t : Nat)
  /-- BIT_CLEAR_WRITE (R555). Write to the bit-clear alias, clearing mask bits of a system memory word atomically. -/
  | bitClearWrite (a n m t : Nat)
  /-- REGISTER_WRITE (R10). Write to a register field with no behaviour of its own, taking effect per its access code. -/
  | registerWrite (a x t : Nat)
  /-- MEMORY_ACCESS (R552). Access by an initiator to a memory area, with stalls, protection, parity and SECDED handling. -/
  | memoryAccess (x : Access) (t : Nat)
  /-- CONFIGURATION_REQUEST (R88). A PCIe configuration request is answered, with Retry Status before t1 + 4.0 ms. -/
  | configurationRequest (offset t : Nat)
  /-- QSPI_TRANSACTION (R53). A quad-SPI transaction reads or writes device addresses, or is ignored for an unknown instruction. -/
  | qspiTransaction (instr a : Nat) (ws : List Word) (count t : Nat)
  /-- UDP_DATAGRAM (R55). An IPv4 UDP datagram of command packets is accepted, filtered and deduplicated by TAG. -/
  | udpDatagram (n via ip port : Nat) (whole : Bool) (ws : List Word) (t : Nat)
  /-- ARP_REQUEST (R55). An ARP request for the device's address is answered. -/
  | arpRequest (via ip t : Nat)
  /-- HOST_INTERFACE_RESET (R52). A Function Level Reset, D3hot exit, hot reset or link down resets the host interface only. -/
  | hostInterfaceReset (t : Nat)
  /-- PACKET_TAKE (R69). The device takes a published command packet from a COMMAND ring and checks it. -/
  | packetTake (n : Nat) (given : List Word) (dma : Dma) (errs : List (Nat × MemErr)) (t : Nat)
  /-- REPLY_WRITE (R63). A reply, event or record is written to a ring once it fits, then PROD, SHADOW and the interrupt. -/
  | replyWrite (n : Nat) (dma : Dma) (t : Nat)
  /-- HOLDOFF_EXPIRY (R63). A delayed ring interrupt is sent when HOLDOFF has elapsed. -/
  | holdoffExpiry (n t : Nat)
  /-- TIMED_COMMAND (R72). A pending timed command executes at the start of its cycle. -/
  | timedCommand (t : Nat)
  /-- FORWARD (R75). A manager sends a queued command packet down in CMD frames. -/
  | forward (t : Nat)
  /-- COMMAND_RESEND (R75). A missing acknowledgement at the end of the next cycle makes the manager resend the packet once. -/
  | commandResend (t : Nat)
  /-- ST_TIMEOUT (R75). A second missing acknowledgement returns ST_TIMEOUT from the manager. -/
  | stTimeout (t : Nat)
  /-- COLD_POWER_UP (R87). VDD_AON enters range, starting the always-on domain with all outputs high-impedance. -/
  | coldPowerUp (t : Nat)
  /-- T1 (R87). Supplies in range and RESET_N released start the crystal and the cold power-up sequence. -/
  | t1 (t : Nat)
  /-- PLL_LOCK (R91). The PLLs lock at t1 + 2.2 ms and device time starts at 0. -/
  | pllLock (t : Nat)
  /-- FUSE_READ (R89). At t1 + 2.25 ms HOST_SEL is sampled and the fuses are read, checked, retried and copied. -/
  | fuseRead (sel : Nat) (first second : Bool) (t : Nat)
  /-- MEMORY_CLEARING (R87). Service cores start from ROM and memory clearing completes by t1 + 3.5 ms. -/
  | memoryClearing (t : Nat)
  /-- CONFIGURE_REACHED (R92). At t1 + 4.0 ms the device enters CONFIGURE with ring defaults and rings 0 and 1 DISABLED. -/
  | configureReached (t : Nat)
  /-- PCIE_PERST_RELEASE (R88). Release of PCIE_PERST_N allows link training to begin. -/
  | pciePerstRelease (t : Nat)
  /-- RESET_N_ASSERT (R94). RESET_N falls: outputs high-impedance, STO low, bypass low and logic held in reset. -/
  | resetNAssert (t : Nat)
  /-- RESET_N_RELEASE (R96). RESET_N rises, releasing the logic 2 µs later. -/
  | resetNRelease (t : Nat)
  /-- WATCHDOG_EXPIRY (R96). The service-core watchdog expires after 10 ms unserved and causes a watchdog reset. -/
  | watchdogExpiry (t : Nat)
  /-- WARM_RESET_START (R110). A warm reset by DEV.RESET begins, outputs holding the last applied image. -/
  | warmResetStart (t : Nat)
  /-- LOGIC_RELEASE (R96). The logic is released after a warm or watchdog reset and the resume window opens. -/
  | logicRelease (t : Nat)
  /-- CONFIGURATION_REPLAY (R97). Within 300 µs the configuration record and checkpoint are checked and replayed and ring ports re-enabled. -/
  | configurationReplay (record image : List (Nat × MemErr)) (t : Nat)
  /-- RESUME_WINDOW_CLOSE (R100). The 50 ms resume window closes without a resume and units return to reset configuration. -/
  | resumeWindowClose (t : Nat)
  /-- RESUME (R101). At the first integrated cycle with a resume requested, state is restored from image c. -/
  | resume (t : Nat)
  /-- SUPPLY_LOSS (R627). A supply below 85 % for 2 µs acts as RESET_N low, stops everything or stops the island. -/
  | supplyLoss (n t : Nat)
  /-- ISLAND_START (R487). VDD_SAFE and VIO_SAFE in range start the safety island's self-test. -/
  | islandStart (t : Nat)
  /-- SELF_TEST_DONE (R487). The island's self-test completes and it enters NO_PARAMS or keeps its parameters. -/
  | selfTestDone (a b t : Nat)
  /-- CYCLE_START (R13). A device cycle begins: mode transitions, changeover swaps and restorations take effect. -/
  | cycleStart (t : Nat)
  /-- INPUT_INSTANT (R21). Inputs are latched, tagged and published and the up-map input frame is formed. -/
  | inputInstant (t : Nat)
  /-- INPUT_READY (R163). At the input-ready point the scheduler releases the source operations of due slots. -/
  | inputReady (t : Nat)
  /-- COMMIT_POINT (R23). The device commits its output image if the conditions hold and writes the cocoon image. -/
  | commitPoint (t : Nat)
  /-- OUTPUT_INSTANT (R26). The committed image is applied or the miss counter advances into HOLDING or SUBSTITUTE. -/
  | outputInstant (t : Nat)
  /-- SAFE_ENTRY (R34). Entry to SAFE sets every output to its substitute value within 1 µs. -/
  | safeEntry (t : Nat)
  /-- CHANGEOVER_MESSAGE (R41). A PREPARE, report or outcome of a changeover arrives in a CMD frame and is checked or forwarded. -/
  | changeoverMessage (src : Option Nat) (m : CoMsg) (t : Nat)
  /-- CHANGEOVER_REPORT (R41). Once all members and subordinates have answered, the device reports ACK or refusal upward. -/
  | changeoverReport (t : Nat)
  /-- CHANGEOVER_DECIDE (R41). At the commit point of D the target decides COMMIT or CANCEL and distributes it. -/
  | changeoverDecide (t : Nat)
  /-- CO_UNRESOLVED (R42). A participant lacking the outcome at X − 1 stops committing and later catches up. -/
  | coUnresolved (t : Nat)
  /-- OPERATION_COMPLETE (R162). A graph operation completes and sends a completion token to each successor. -/
  | operationComplete (c t : Nat)
  /-- OPERATION_START (R165). A free core starts its next ready or prefetched operation. -/
  | operationStart (c : Nat) (miss : Bool) (t : Nat)
  /-- TAKE (R169). An idle core takes a runnable entry from another core's list. -/
  | take (c t : Nat)
  /-- TOKEN_SPILL (R174). A token that waited BP_SPILL_NS is written to the spill area. -/
  | tokenSpill (c t : Nat)
  /-- DELAY_RELEASE (R176). A DELAY or AT_OFFSET entry releases at its tick and its successors get tokens. -/
  | delayRelease (n t : Nat)
  /-- SHED (R177). At the shed tick remaining delay entries of the execution are cancelled. -/
  | shed (n t : Nat)
  /-- URGENT_COMPLETE (R277). An AIN_URGENT operation completes when its conversion completes or is dropped. -/
  | urgentComplete (c t : Nat)
  /-- SAMPLE_TICK (R218). A loop channel's sample is released, or the previous unstarted sample is dropped. -/
  | sampleTick (c t : Nat)
  /-- EVALUATION (R190). A loop processor evaluates a channel and writes its destination. -/
  | evaluation (p t : Nat)
  /-- RESAMPLING (R215). A repetitive table is resampled in idle processor time and the channel leaves RESAMPLING. -/
  | resampling (p t : Nat)
  /-- TICK (R245). At each microsecond of ring time the motion generator evaluates channels and loads pulse increments. -/
  | tick (t : Nat)
  /-- STEP_PULSE (R246). An owed step is emitted once STEP low time and DIR setup allow. -/
  | stepPulse (a t : Nat)
  /-- DIR_CHANGE (R247). DIR changes to the sign of inc once no step is owed and hold time has passed. -/
  | dirChange (a t : Nat)
  /-- STANDSTILL (R256). A standstill is applied STANDSTILL_DELAY_MS after the axis reaches velocity 0 in IDLE. -/
  | standstill (n t : Nat)
  /-- SS1_REQUEST (R257). An island SS1 request puts every channel of that pair into SS1_STOP. -/
  | ss1Request (pair t : Nat)
  /-- LATCH_EVENT (R292). A Z or DIN edge captures the encoder count for armed latch requests. -/
  | latchEvent (n t : Nat)
  /-- CONVERSION_COMPLETE (R271). A conversion completes, is checked and is published with its sample instant. -/
  | conversionComplete (c raw : Nat) (good : Bool) (instant t : Nat)
  /-- GROUP_TRIGGER (R274). A simultaneous group trigger starts conversions on every converter of the group. -/
  | groupTrigger (g t : Nat)
  /-- CALIBRATION_DONE (R280). The 1,024 conversions of a calibration step end and GAIN and OFFSET are computed. -/
  | calibrationDone (c t : Nat)
  /-- INPUT_EDGE (R282). A logical level change of a digital input advances its edge counter. -/
  | inputEdge (n : Nat) (level : Bool) (t : Nat)
  /-- STUCK (R283). An input held at 1 for STUCK_MS sets STUCK. -/
  | stuck (n t : Nat)
  /-- READBACK (R287). An output's pin level is read back 2 µs after a change and every 1 ms. -/
  | readback (n : Nat) (level : Bool) (t : Nat)
  /-- DOUT_FAULT (R287). A second readback disagreement 10 µs later switches the output off and raises a fault. -/
  | doutFault (n : Nat) (level : Bool) (t : Nat)
  /-- PWM_PERIOD_START (R289). A PWM period begins, loading the shadow duty and computing the high time. -/
  | pwmPeriodStart (n t : Nat)
  /-- ENCODER_COUNT (R290). An A or B edge changes an encoder count, or sets QUAD_ERR. -/
  | encoderCount (n : Nat) (a b : Bool) (t : Nat)
  /-- PUBLICATION (R308). A publication enters the signal index and its captures, engines and trigger units. -/
  | publication (t : Nat)
  /-- INTERVAL_CLOSE (R318). A record interval closes and its DATA record is formed and queued. -/
  | intervalClose (c : Nat) (dma : Dma) (t : Nat)
  /-- RECORD_COPY (R322). A queued record is copied whole to the STREAM ring when room appears. -/
  | recordCopy (c : Nat) (dma : Dma) (t : Nat)
  /-- TIME_SET (R321). Device time is set, closing intervals PARTIAL and writing a TIME_SET record. -/
  | timeSet (t : Nat)
  /-- DECAY (R335). Every DECAY_MS non-zero persistence-map cells are decremented. -/
  | decay (m t : Nat)
  /-- SYNC_FRAME (R379). A SYNC frame is received whole, validated, accepted and forwarded. -/
  | syncFrame (f : Frame) (t : Nat)
  /-- DATA_FRAME (R364). A DATA frame is received whole, validated and taken into inputs or outputs. -/
  | dataFrame (f : Frame) (t : Nat)
  /-- CMD_FRAME (R365). A CMD frame fragment is received, acknowledged and delivered in PKT_SEQ order. -/
  | cmdFrame (f : Frame) (t : Nat)
  /-- MODE_FRAME (R366). A MODE frame with ANNOUNCE, CONFIRM, CANCEL or TAKEOVER is received. -/
  | modeFrame (f : Frame) (t : Nat)
  /-- JOIN_FRAME (R380). A JOIN request or grant is received and answered or acted on. -/
  | joinFrame (f : Frame) (t : Nat)
  /-- SLOT_START (R371). A node sends its own frame at its slot start, or drops it after 40 ns. -/
  | slotStart (down : Bool) (i t : Nat)
  /-- BEACON (R359). A link beacon is received, updating link state or answering a delay request. -/
  | beacon (b : Beacon) (t : Nat)
  /-- DELAY_REQ (R359). Every 1 ms a node sends DELAY_REQ on each enabled port. -/
  | delayReq (t : Nat)
  /-- LINK_DOWN (R360). A port's link goes DOWN and the node loops at that port. -/
  | linkDown (port : LinkPort) (t : Nat)
  /-- LINK_UP (R360). A port's link becomes UP after 1 ms without a DOWN condition. -/
  | linkUp (port : LinkPort) (t : Nat)
  /-- SYNC_STEP (R407). 1 µs after the last SYNC slot a member computes its offset and rate corrections. -/
  | syncStep (t : Nat)
  /-- LISTEN_TIMEOUT (R383). The listen time expires on a coldstart-capable node, which enters COLDSTART. -/
  | listenTimeout (down : Bool) (t : Nat)
  /-- BACKOFF_END (R385). A coldstart back-off ends and the node resumes COLDSTART. -/
  | backoffEnd (down : Bool) (t : Nat)
  /-- BYPASS_INSERT (R395). After 10 µs of transmit on UA and UB the device drives RING_BYPASS_N high. -/
  | bypassInsert (t : Nat)
  /-- TIME_MAP (R469). Every 125 ms or after a change a manager sends TIME_MAP to its members. -/
  | timeMap (t : Nat)
  /-- CAN_RX_FRAME (R435). A valid received CAN frame is placed in a buffer, overwritten or dropped. -/
  | canRxFrame (c : Nat) (f : CanFrame) (sof t : Nat)
  /-- CAN_TX_COMPLETE (R440). A transmitted CAN frame ends, updating the buffer state. -/
  | canTxComplete (c b sof tdc t : Nat)
  /-- CAN_ERROR (R442). A bus error or lost arbitration updates TEC and REC and may enter BUS_OFF. -/
  | canError (c : Nat) (e : CanFault) (t : Nat)
  /-- TX_TIME (R440). A WAIT_TIME buffer becomes PENDING when the counter reaches TX_TIME. -/
  | txTime (c b t : Nat)
  /-- RECOVERING (R445). After 128 occurrences of 11 recessive bits the controller becomes ERROR_ACTIVE. -/
  | recovering (c t : Nat)
  /-- LOCK_TIMEOUTS (R436). A CAN buffer lock held for 1 ms is released by the controller. -/
  | lockTimeouts (c b t : Nat)
  /-- PTP_MESSAGE (R462). A PTP Announce, Delay_Resp or Pdelay message is received and processed. -/
  | ptpMessage (port : Nat) (m : PtpMsg) (stamp t : Nat)
  /-- SYNC_MESSAGE (R464). An accepted PTP Sync updates the track's estimate and lock state. -/
  | syncMessage (port : Nat) (m : SyncMsg) (stamp t : Nat)
  /-- FOLLOW_UP (R463). A Follow_Up completes a two-step Sync matched by sequenceId. -/
  | followUp (port : Nat) (m : SyncMsg) (t : Nat)
  /-- HOLDOVER (R464). No accepted Sync for SYNC_TIMEOUT_MS puts a track into HOLDOVER. -/
  | holdover (k t : Nat)
  /-- PORT_LINK_CHANGE (R460). An Ethernet port's link state changes and a Tally record is written. -/
  | portLinkChange (n : Nat) (up : Bool) (t : Nat)
  /-- DEMAND (R503). A safe input channel low beyond INPUT_FILTER_US is a demand of its pair. -/
  | demand (ch t : Nat)
  /-- TEST_PULSE (R502). A safe input test pulse is applied and the channel's response checked. -/
  | testPulse (ch : Nat) (good : Bool) (t : Nat)
  /-- DISCREPANCY (R503). Channels of a pair differing for DISCREPANCY_MS put the pair into input FAULT. -/
  | discrepancy (n t : Nat)
  /-- SS1_CHECK (R496). Every 1 ms of SS1-r the island checks the speed against the envelope. -/
  | ss1Check (p t : Nat)
  /-- T_SS1_MAX (R496). SS1-t time expires and STO_A goes low. -/
  | tSs1Max (p t : Nat)
  /-- T_HW (R498). The hard-wired stop timer expires and STO_B goes low. -/
  | tHw (p t : Nat)
  /-- SWITCH_WORD_READ (R491). Both paths read the switch word every 10 ms; a mismatch or change enters FAULT. -/
  | switchWordRead (a b t : Nat)
  /-- HEARTBEAT_LOST (R507). A heartbeat gap beyond HB_TIMEOUT_US is stop cause 4. -/
  | heartbeatLost (pulse : Option Nat) (t : Nat)
  /-- STO_READBACK (R485). An STO pin not following its path is rechecked and faults the island if still wrong. -/
  | stoReadback (pin : Nat) (good : Bool) (t : Nat)
  /-- FREQUENCY_MONITOR (R483). The island oscillator leaving ±10 % de-energises every STO output. -/
  | frequencyMonitor (t : Nat)
  /-- OUTPUT_TEST_PULSE (R505). A safe output test pulse is applied and its readback checked. -/
  | outputTestPulse (o : Nat) (good aborted : Bool) (t : Nat)
  /-- SBC_DELAY (R504). SBC_DELAY_MS after TORQUE_OFF the SBC output goes low. -/
  | sbcDelay (o t : Nat)
  /-- DELTA_COMPLETE (R527). The delta of image k is complete and RENEW is sent to the peer. -/
  | deltaComplete (bytes t : Nat)
  /-- RENEW (R527). The peer receives RENEW, applies the image and answers ACK. -/
  | renew (seq t : Nat)
  /-- ACK (R527). The holder receives ACK and extends its lease. -/
  | ack (seq : Nat) (current holds : Bool) (t : Nat)
  /-- LEASE_EXPIRY (R529). The holder's lease ends and it loses the crook. -/
  | leaseExpiry (t : Nat)
  /-- CROOK_TAKE (R528). The standby takes the crook after lease plus 25 % without renewal. -/
  | crookTake (t : Nat)
  /-- RELEASE (R527). The peer receives RELEASE, applies the image and takes the crook. -/
  | release (seq : Nat) (handover : Option Packet) (t : Nat)
  /-- CROOK_IN_HIGH (R529). CROOK_IN held high for 10 µs makes the holder lose or count LINE_FAULT. -/
  | crookInHigh (high : Bool) (t : Nat)
  /-- ELECTION (R530). With no holder, the halves elect a holder by lane contact or timeout. -/
  | election (peerNone : Bool) (t : Nat)
  /-- DELTA_RECEIVE (R533). A standby applies or discards an incoming delta at END. -/
  | deltaReceive (d : Delta) (t : Nat)
  /-- FULL_COPY_DONE (R538). The full copy ends and the half becomes STANDBY at the next complete image. -/
  | fullCopyDone (f : FullCopy) (t : Nat)
  /-- MIRRORED_COMMAND (R537). The standby executes a command mirrored by the active half. -/
  | mirroredCommand (ws : List Word) (t : Nat)
  /-- GIVE_UP (R539). At the next commit point the active half commits nothing, sends RELEASE and loses the crook. -/
  | giveUp (t : Nat)
  /-- SCRUB (R561). The scrubber reads stored words and handles errors, checking CE_THRESHOLD per pass. -/
  | scrub (a : Nat) (e : MemErr) (last : Bool) (t : Nat)
  /-- FAULT_REPORT (R566). A lasting fault is reported to the fault manager and queued, merged, pre-empts or is dropped. -/
  | faultReport (unit code sev detail : Nat) (continuing : Bool) (t : Nat)
  /-- FAULT_HANDLED (R568). Handling of the fault in hand ends and the next waiting fault is taken up. -/
  | faultHandled (t : Nat)
  /-- RECORD_WRITE (R582). The recorder takes a record from the intake queue, rate-limits and writes it. -/
  | recordWrite (t : Nat)
  /-- RESTARTED (R584). After a reset the recorder finds its positions and writes RESTARTED. -/
  | restarted (t : Nat)
  /-- TRANSITION_DONE (R602). A domain transition completes and any queued target starts. -/
  | transitionDone (d t : Nat)
  /-- WAKE_TIMEOUT (R603). A domain not ready within WAKE_TIMEOUT_US is retried once, then marked FAILED. -/
  | wakeTimeout (d t : Nat)
  /-- GRAZE_ENTRY (R605). The GRAZE entry completes with domains lowered and the period timer started. -/
  | grazeEntry (t : Nat)
  /-- GRAZE_SAMPLE (R606). Every PERIOD_MS the always-on domain evaluates compare entries and monitors. -/
  | grazeSample (ains : List (Nat × Nat)) (vs : List Int) (t : Nat)
  /-- MAX_S (R608). The GRAZE timer expires MAX_S seconds after entry and wakes the device. -/
  | maxS (t : Nat)
  /-- CAN_WAKE (R608). A dominant level of 5 µs on a CAN_WAKE receive pin wakes the device. -/
  | canWake (n t : Nat)
  /-- MONITOR_SAMPLE (R613). Every 1 ms the monitors are sampled and their limits checked. -/
  | monitorSample (vs : List Int) (t : Nat)
  /-- HARD_WIRED_RECOGNITION (R498). The hard-wired path recognises a demand on a safe input pair 970 µs to 1,030 µs after the channel falls and starts the T_HW timers of its group. -/
  | hardWiredRecognition (n t : Nat)
  /-- CHANNEL_ENERGISED (R503). A safe input channel returns high, ending the demand of its pair or a discrepancy between its channels. -/
  | channelEnergised (ch t : Nat)
  /-- ISLAND_INTERNAL_CHECK (R485). An internal check of either island path (memory, ROM, cross-comparison of input readings) runs and, failing twice, enters FAULT. -/
  | islandInternalCheck (failures t : Nat)
  /-- CAN_INTEGRATION (R449). A CAN controller in INTEGRATING sees 11 consecutive recessive bits and becomes ERROR_ACTIVE. -/
  | canIntegration (c t : Nat)
  /-- CAN_WAKE_RECESSIVE (R609). A recessive level of 5 µs on CAN_n_RX clears the mask of a CAN_WAKE source. -/
  | canWakeRecessive (n t : Nat)
  /-- PTP_DELAY_REQUEST (R475). At each delay interval a track sends Delay_Req or Pdelay_Req and enters its egress stamp in the time-stamp queue. -/
  | ptpDelayRequest (k t : Nat)
  /-- ANNOUNCE_RECEIPT_TIMEOUT (R475). No Announce from the selected master arrives within ANNOUNCE_TIMEOUT intervals and the best master is chosen again. -/
  | announceReceiptTimeout (k t : Nat)
  /-- COMMAND_COMPLETE (R145). A command that runs over time on the service cores or in the island (GRAPH.VERIFY, MEM.FILL, MEM.DMA, SAFE commands) finishes and its reply is written. -/
  | commandComplete (i : Nat) (dma : Dma) (passing t : Nat)
  /-- SCHEDULE_WRITE_TIMEOUT (R399). 100 ms after RING.SCHEDULE_WRITE without every integrated member holding the mode, the reply is written with HELD. -/
  | scheduleWriteTimeout (t : Nat)
  /-- SUPPLY_RESTORED (R627). A lost VDD_SERDES09, VDD_SERDES12, VDD_ANA or VDDIO supply returns to range, ending the RESET_N-like state with a warm reset of RESET_CAUSE 1. -/
  | supplyRestored (n t : Nat)
  deriving DecidableEq, Repr

end Sys2Proof
end

