-- ==== Sys2Proof/Config.lean ====
section
/-! DEFINITION. What the spec leaves to the implementation or to the outside: free values without a body (log 4). -/

namespace Sys2Proof.Config

/-- REVISION of DEV_ID and DEV.IDENTIFY, 8 bits (03 R109): a silicon revision, not stated. -/
opaque revision : BitVec 8

/-- ROM_BUILD of DEV.IDENTIFY (03 R109). -/
opaque romBuild : BitVec 32

/-- SERIAL, the unique device number from the fuses (03 R109). -/
opaque serial : BitVec 64

/-- OFFSET of the factory trim of converter input `input` in range `range`, two's complement (08 R278, R279). -/
opaque trimOffset : Nat → Nat → BitVec 32

/-- GAIN of the factory trim (08 R278, R279). -/
opaque trimGain : Nat → Nat → BitVec 32

/-- OFFSET and GAIN of the nominal trim loaded when the fuses fail (03 R89). -/
opaque nominalOffset : BitVec 32
opaque nominalGain : BitVec 32

/-- A byte of host memory at a bus address at the `n`-th free value taken. -/
opaque hostByte : Nat → Nat → BitVec 8

/-- The pattern of a quiet NaN that an operation produces, as a function of the operation and its operands:
sign and the lower 22 bits of the significand of binary32 (IEEE 754-2019 leaves both open). -/
opaque nan32 : Nat → BitVec 23

/-- The same for binary64: sign and the lower 51 bits. -/
opaque nan64 : Nat → BitVec 52

/-- A 32-bit value that the spec leaves open, at the `n`-th free value taken. -/
opaque freeWord : Nat → BitVec 32

/-- A result that the spec does not state for these operands, as a function of the operation and the operands. -/
opaque openValue : Nat → BitVec 64

/-- The CODE of an event of the Tally that the spec does not number, by the model's own number of the event (log 7). -/
opaque eventCode : Nat → BitVec 15

/-- A word of the PCI Express configuration space that the spec does not give, by offset (02 R49). -/
opaque configSpace : Nat → BitVec 32

end Sys2Proof.Config
end

