-- ==== Sys2Proof/Machine/Bits.lean ====
section
/-! DEFINITION. Bit fields, signed readings, byte order and the saturating counters, over natural numbers. -/

namespace Sys2Proof.Machine

/-- The `n` bits of `w` from bit `lo` upward. -/
def field (w lo n : Nat) : Nat := w / 2 ^ lo % 2 ^ n

/-- Bit `i` of `w`. -/
def bit (w i : Nat) : Bool := w / 2 ^ i % 2 == 1

/-- A flag as a bit of value 0 or 1. -/
def flag (b : Bool) : Nat := if b then 1 else 0

/-- Places `v` at bit `lo`. -/
def place (lo v : Nat) : Nat := v * 2 ^ lo

/-- The two's complement reading of the low `n` bits of `w`. -/
def signed (n w : Nat) : Int :=
  if w % 2 ^ n < 2 ^ (n - 1) then (w % 2 ^ n : Nat) else (w % 2 ^ n : Nat) - (2 ^ n : Nat)

/-- The low `n` bits of the two's complement form of `x`. -/
def enc (n : Nat) (x : Int) : Nat := (x % ((2 ^ n : Nat) : Int)).toNat

/-- Adds `k` to a counter of `n` bits that saturates. -/
def satAdd (n c k : Nat) : Nat := min (2 ^ n - 1) (c + k)

/-- Advances a 32-bit counter that saturates (04 R161, 16 R578 and the other counters). -/
def sat32 (c : Nat) : Nat := satAdd 32 c 1

/-- `x` limited to the interval from `lo` to `hi`. -/
def clampInt (lo hi x : Int) : Int := if x < lo then lo else if hi < x then hi else x

/-- Sets bit `i` of `w` to `b`. -/
def setBit (w i : Nat) (b : Bool) : Nat :=
  if bit w i = b then w else if b then w + 2 ^ i else w - 2 ^ i

/-- The numbers of the bits set in the low `n` bits of `w`, rising. -/
def bitsOf (n w : Nat) : List Nat := (List.range n).filter (bit w)

/-- The mask with exactly the bits of `l` set. -/
def maskOf (l : List Nat) : Nat := l.foldl (fun m i => setBit m i true) 0

/-- The number of bits set in the low `n` bits. -/
def popCount (n w : Nat) : Nat := (bitsOf n w).length

/-- A word from a natural number. -/
def wd (n : Nat) : Word := BitVec.ofNat 32 n

/-- The low and the high word of a 64-bit number, low first (00_scope, Notation). -/
def wd2 (n : Nat) : List Word := [wd (n % 2 ^ 32), wd (n / 2 ^ 32)]

/-- The four bytes of a word, least significant first. -/
def bytesOf (w : Word) : List Byte :=
  [w.extractLsb' 0 8, w.extractLsb' 8 8, w.extractLsb' 16 8, w.extractLsb' 24 8]

/-- The number that little-endian bytes spell. -/
def natOfBytes : List Byte → Nat
  | [] => 0
  | b :: r => b.toNat + 256 * natOfBytes r

/-- The little-endian bytes of a number, `k` of them. -/
def bytesOfNat : Nat → Nat → List Byte
  | 0, _ => []
  | k + 1, n => BitVec.ofNat 8 n :: bytesOfNat k (n / 256)

/-- round_div (07 R239): floor((2n + d) / (2d)) for a positive divisor. -/
def roundDiv (a : Int) (b : Nat) : Int := (2 * a + b).fdiv (2 * (b : Int))

/-- `a / b` to the nearest integer, ties to even, for a positive divisor. -/
def roundEven (a : Int) (b : Nat) : Int :=
  let q := a.fdiv (b : Int)
  let r := 2 * (a - q * b)
  if r < b then q else if r = b ∧ q % 2 = 0 then q else q + 1

/-- Floor of a quotient of an integer by a positive number. -/
def floorDiv (a : Int) (b : Nat) : Int := a.fdiv (b : Int)

/-- Signed 32-bit difference of cycle numbers (01 R35): positive when `a` is after `b`. -/
def cycDiff (a b : Nat) : Int := signed 32 (a % 2 ^ 32 + 2 ^ 32 - b % 2 ^ 32)

/-- Insertion into a list that rises. -/
def insertSorted (x : Int) : List Int → List Int
  | [] => [x]
  | y :: r => if x ≤ y then x :: y :: r else y :: insertSorted x r

/-- The list in rising order. -/
def sortInts : List Int → List Int
  | [] => []
  | x :: r => insertSorted x (sortInts r)

/-- Removes the first element that satisfies `f`, answering it and the rest. -/
def extractFirst {α : Type} (f : α → Bool) : List α → Option (α × List α)
  | [] => none
  | x :: r =>
    if f x then some (x, r)
    else match extractFirst f r with
      | some (y, r') => some (y, x :: r')
      | none => none

/-- Replaces the `i`-th element of a list. -/
def setAt {α : Type} : List α → Nat → α → List α
  | [], _, _ => []
  | _ :: r, 0, v => v :: r
  | x :: r, i + 1, v => x :: setAt r i v

/-- Cuts a list into pieces of `n`, with `fuel` pieces at most. -/
def chunks {α : Type} (n : Nat) : Nat → List α → List (List α)
  | 0, _ => []
  | fuel + 1, l => if l.isEmpty then [] else l.take n :: chunks n fuel (l.drop n)

end Sys2Proof.Machine
end

