-- ==== Sys2Proof/Machine/Float.lean ====
section
/-! DEFINITION. IEEE 754-2019 binary32 and binary64 arithmetic on bit patterns: round to nearest, ties to even, with
subnormals (04 R131, 06 R191). A NaN result is quiet; its sign and payload are free values (log 9). -/

namespace Sys2Proof.Machine

/-- A binary interchange format: bits of the exponent and of the stored significand. -/
structure Fmt where
  ebits : Nat
  mbits : Nat
  deriving DecidableEq, Repr

/-- binary32. -/
def Fmt.b32 : Fmt := { ebits := 8, mbits := 23 }
/-- binary64. -/
def Fmt.b64 : Fmt := { ebits := 11, mbits := 52 }

/-- The value of a pattern: not a number, an infinity, or ± m · 2^e. -/
inductive Fp where
  | nan
  | inf (neg : Bool)
  | fin (neg : Bool) (m : Nat) (e : Int)
  deriving DecidableEq, Repr

/-- Width of the format. -/
def Fmt.width (f : Fmt) : Nat := 1 + f.ebits + f.mbits

/-- Exponent of the least significant bit of a subnormal. -/
def Fmt.emin (f : Fmt) : Int := 2 - (2 ^ (f.ebits - 1) : Nat) - (f.mbits : Nat)

/-- The value a pattern stands for. -/
def Fmt.decode (f : Fmt) (w : Nat) : Fp :=
  let m := field w 0 f.mbits
  let e := field w f.mbits f.ebits
  let neg := bit w (f.mbits + f.ebits)
  if e = 2 ^ f.ebits - 1 then (if m = 0 then .inf neg else .nan)
  else if e = 0 then .fin neg m f.emin
  else .fin neg (2 ^ f.mbits + m) (f.emin + (e - 1 : Nat))

/-- The pattern of an infinity. -/
def Fmt.infinity (f : Fmt) (neg : Bool) : Nat :=
  place (f.mbits + f.ebits) (flag neg) + place f.mbits (2 ^ f.ebits - 1)

/-- The largest finite pattern of a sign. -/
def Fmt.largest (f : Fmt) (neg : Bool) : Nat := f.infinity neg - 1

/-- The pattern of a zero. -/
def Fmt.zero (f : Fmt) (neg : Bool) : Nat := place (f.mbits + f.ebits) (flag neg)

/-- A quiet NaN whose sign and payload are free: `key` stands for the operation and its operands. -/
def Fmt.quietNan (f : Fmt) (key : Nat) : Nat :=
  let free := if f.mbits = 23 then (Config.nan32 key).toNat else (Config.nan64 key).toNat
  place (f.mbits + f.ebits) (free / 2 ^ (f.mbits - 1) % 2) + place f.mbits (2 ^ f.ebits - 1) + 2 ^ (f.mbits - 1)
    + free % 2 ^ (f.mbits - 1)

/-- `m / 2^k` to the nearest integer, ties to even. -/
def rneShift (m k : Nat) : Nat :=
  let q := m / 2 ^ k
  let r := 2 * (m % 2 ^ k)
  if r < 2 ^ k then q else if r = 2 ^ k ∧ q % 2 = 0 then q else q + 1

/-- Rounds ± m · 2^e to the format. -/
def Fmt.round (f : Fmt) (neg : Bool) (m : Nat) (e : Int) : Nat :=
  if m = 0 then f.zero neg
  else
    let q : Int := max (e + (Nat.log2 m : Nat) - (f.mbits : Nat)) f.emin
    let r := if q ≤ e then m * 2 ^ (e - q).toNat else rneShift m (q - e).toNat
    -- a carry out of the significand moves into the exponent by itself
    let biased := if r < 2 ^ f.mbits then r else r - 2 ^ f.mbits + place f.mbits (q - f.emin + 1).toNat
    if place f.mbits (2 ^ f.ebits - 1) ≤ biased then f.infinity neg else f.zero neg + biased

/-- The pattern of a value; `key` names a NaN. -/
def Fmt.encode (f : Fmt) (key : Nat) : Fp → Nat
  | .nan => f.quietNan key
  | .inf n => f.infinity n
  | .fin n m e => f.round n m e

/-- Rounds a signed integer times 2^e; `negZero` is the sign of an exact zero. -/
def Fmt.roundInt (f : Fmt) (negZero : Bool) (x e : Int) : Nat :=
  if x = 0 then f.zero negZero else f.round (x < 0) x.natAbs e

/-- The signed significand. -/
def sgn (n : Bool) (m : Nat) : Int := if n then -(m : Nat) else m

/-- Exact sum of two finite values, as an integer times a power of two. -/
def exactSum (n1 : Bool) (m1 : Nat) (e1 : Int) (n2 : Bool) (m2 : Nat) (e2 : Int) : Int × Int :=
  let e := min e1 e2
  (sgn n1 m1 * ((2 ^ (e1 - e).toNat : Nat) : Int) + sgn n2 m2 * ((2 ^ (e2 - e).toNat : Nat) : Int), e)

/-- A key for the NaN of an operation on operand patterns. -/
def nanKey (op a b c : Nat) : Nat := op + 16 * (a + 2 ^ 64 * (b + 2 ^ 64 * c))

/-- Whether a pattern is a NaN, an infinity, or not finite. -/
def Fmt.isNan (f : Fmt) (a : Nat) : Bool := f.decode a == .nan
def Fmt.isFinite (f : Fmt) (a : Nat) : Bool := match f.decode a with | .fin _ _ _ => true | _ => false
def Fmt.signBit (f : Fmt) (a : Nat) : Bool := bit a (f.mbits + f.ebits)

/-- Fused multiply-add a · b + c with one rounding. -/
def Fmt.fma (f : Fmt) (a b c : Nat) : Nat :=
  let k := nanKey 0 a b c
  match f.decode a, f.decode b, f.decode c with
  | .nan, _, _ | _, .nan, _ | _, _, .nan => f.quietNan k
  | .inf n1, .inf n2, z =>
    (match z with | .inf n3 => if (n1 != n2) = n3 then f.infinity n3 else f.quietNan k | _ => f.infinity (n1 != n2))
  | .inf n1, .fin n2 m2 _, z | .fin n2 m2 _, .inf n1, z =>
    if m2 = 0 then f.quietNan k
    else (match z with | .inf n3 => if (n1 != n2) = n3 then f.infinity n3 else f.quietNan k | _ => f.infinity (n1 != n2))
  | .fin _ _ _, .fin _ _ _, .inf n3 => f.infinity n3
  | .fin n1 m1 e1, .fin n2 m2 e2, .fin n3 m3 e3 =>
    let n := n1 != n2
    let r := exactSum n (m1 * m2) (e1 + e2) n3 m3 e3
    if r.1 = 0 then f.zero (n && n3) else f.roundInt false r.1 r.2

/-- a + b. -/
def Fmt.add (f : Fmt) (a b : Nat) : Nat :=
  match f.decode a, f.decode b with
  | .nan, _ | _, .nan => f.quietNan (nanKey 1 a b 0)
  | .inf n1, .inf n2 => if n1 = n2 then f.infinity n1 else f.quietNan (nanKey 1 a b 0)
  | .inf n, _ | _, .inf n => f.infinity n
  | .fin n1 m1 e1, .fin n2 m2 e2 =>
    let r := exactSum n1 m1 e1 n2 m2 e2
    if r.1 = 0 then f.zero (n1 && n2) else f.roundInt false r.1 r.2

/-- −a. -/
def Fmt.neg (f : Fmt) (a : Nat) : Nat := setBit a (f.mbits + f.ebits) (!f.signBit a)

/-- |a|. -/
def Fmt.abs (f : Fmt) (a : Nat) : Nat := setBit a (f.mbits + f.ebits) false

/-- a − b. -/
def Fmt.sub (f : Fmt) (a b : Nat) : Nat := f.add a (f.neg b)

/-- a · b. -/
def Fmt.mul (f : Fmt) (a b : Nat) : Nat :=
  match f.decode a, f.decode b with
  | .nan, _ | _, .nan => f.quietNan (nanKey 2 a b 0)
  | .inf n1, .inf n2 => f.infinity (n1 != n2)
  | .inf n1, .fin n2 m _ | .fin n2 m _, .inf n1 => if m = 0 then f.quietNan (nanKey 2 a b 0) else f.infinity (n1 != n2)
  | .fin n1 m1 e1, .fin n2 m2 e2 => f.round (n1 != n2) (m1 * m2) (e1 + e2)

/-- a / b. -/
def Fmt.div (f : Fmt) (a b : Nat) : Nat :=
  match f.decode a, f.decode b with
  | .nan, _ | _, .nan | .inf _, .inf _ => f.quietNan (nanKey 3 a b 0)
  | .inf n1, .fin n2 _ _ => f.infinity (n1 != n2)
  | .fin n1 _ _, .inf n2 => f.zero (n1 != n2)
  | .fin n1 m1 e1, .fin n2 m2 e2 =>
    if m2 = 0 then (if m1 = 0 then f.quietNan (nanKey 3 a b 0) else f.infinity (n1 != n2))
    else
      let k := f.mbits + 3 + Nat.log2 m2
      let q := m1 * 2 ^ k / m2
      let sticky := if m1 * 2 ^ k % m2 = 0 then 0 else 1
      f.round (n1 != n2) (2 * q + sticky) (e1 - e2 - k - 1)

/-- The integer square root of `n` below 2^(k+1) times, by its bits from 2^k down. -/
def isqrtFrom : Nat → Nat → Nat → Nat
  | 0, n, r => if (r + 1) * (r + 1) ≤ n then r + 1 else r
  | k + 1, n, r => let c := r + 2 ^ (k + 1); isqrtFrom k n (if c * c ≤ n then c else r)

/-- The integer square root. -/
def isqrt (n : Nat) : Nat := isqrtFrom (Nat.log2 n / 2 + 1) n 0

/-- √a. -/
def Fmt.sqrt (f : Fmt) (a : Nat) : Nat :=
  match f.decode a with
  | .nan => f.quietNan (nanKey 4 a 0 0)
  | .inf n => if n then f.quietNan (nanKey 4 a 0 0) else a
  | .fin n m e =>
    if m = 0 then a else if n then f.quietNan (nanKey 4 a 0 0)
    else
      let k := 2 * f.mbits + 8 + (e % 2).toNat
      let s := m * 2 ^ k
      let r := isqrt s
      f.round false (2 * r + (if r * r = s then 0 else 1)) ((e - k) / 2 - 1)

/-- a < b, a ≤ b, a = b of numbers; false where either is a NaN. -/
def Fmt.compare (f : Fmt) (a b : Nat) : Option Ordering :=
  match f.decode a, f.decode b with
  | .nan, _ | _, .nan => none
  | .inf n1, .inf n2 => some (if n1 = n2 then .eq else if n1 then .lt else .gt)
  | .inf n, _ => some (if n then .lt else .gt)
  | _, .inf n => some (if n then .gt else .lt)
  | .fin n1 m1 e1, .fin n2 m2 e2 =>
    let d := (exactSum n1 m1 e1 (!n2) m2 e2).1
    some (if d < 0 then .lt else if d = 0 then .eq else .gt)

def Fmt.lt (f : Fmt) (a b : Nat) : Bool := f.compare a b == some .lt
def Fmt.le (f : Fmt) (a b : Nat) : Bool := f.compare a b == some .lt || f.compare a b == some .eq
def Fmt.eq (f : Fmt) (a b : Nat) : Bool := f.compare a b == some .eq

/-- An integer as a floating-point number. -/
def Fmt.ofInt (f : Fmt) (x : Int) : Nat := f.roundInt false x 0

/-- x · 2^e as a floating-point number. -/
def Fmt.ofScaled (f : Fmt) (x e : Int) : Nat := f.roundInt false x e

/-- n / d as a floating-point number, rounded once; d is positive. -/
def Fmt.ofRatio (f : Fmt) (n : Int) (d : Nat) : Nat :=
  if n = 0 then f.zero false
  else
    let k := f.mbits + 3 + Nat.log2 d
    let m := n.natAbs * 2 ^ k
    f.round (n < 0) (2 * (m / d) + (if m % d = 0 then 0 else 1)) (-(k : Int) - 1)

/-- Converts between formats, rounding once. -/
def convertFmt (f g : Fmt) (a : Nat) : Nat :=
  match f.decode a with
  | .nan => g.quietNan (nanKey 5 a 0 0)
  | v => g.encode 0 v

/-- binary32 to binary64, exact. -/
def f64of32 (a : Nat) : Nat := convertFmt .b32 .b64 a
/-- binary64 to binary32, rounded. -/
def f32of64 (a : Nat) : Nat := convertFmt .b64 .b32 a

/-- The value scaled by 2^k and rounded to the nearest integer, ties to even; none for NaN and infinities. -/
def Fmt.toIntEven (f : Fmt) (a k : Nat) : Option Int :=
  match f.decode a with
  | .fin n m e =>
    let e := e + k
    let r := if 0 ≤ e then m * 2 ^ e.toNat else rneShift m (-e).toNat
    some (sgn n r)
  | _ => none

/-- The value rounded toward zero. -/
def Fmt.toIntZero (f : Fmt) (a : Nat) : Option Int :=
  match f.decode a with
  | .fin n m e => some (sgn n (if 0 ≤ e then m * 2 ^ e.toNat else m / 2 ^ (-e).toNat))
  | _ => none

/-- The floor of the value. -/
def Fmt.toIntFloor (f : Fmt) (a : Nat) : Option Int :=
  match f.decode a with
  | .fin n m e => some (if 0 ≤ e then sgn n (m * 2 ^ e.toNat) else (sgn n m).fdiv ((2 ^ (-e).toNat : Nat) : Int))
  | _ => none

/-- The value rounded to a whole number, in the same format: ROUND and TRUNC (04 R131). -/
def Fmt.roundWhole (f : Fmt) (a : Nat) : Nat :=
  match f.toIntEven a 0 with
  | some x => f.roundInt (f.signBit a) x 0
  | none => if f.isNan a then f.quietNan (nanKey 6 a 0 0) else a

def Fmt.truncWhole (f : Fmt) (a : Nat) : Nat :=
  match f.toIntZero a with
  | some x => f.roundInt (f.signBit a) x 0
  | none => if f.isNan a then f.quietNan (nanKey 7 a 0 0) else a

/-- Clamps a real to an interval; a NaN passes. -/
def Fmt.clamp (f : Fmt) (lo hi x : Nat) : Nat := if f.lt x lo then lo else if f.lt hi x then hi else x

end Sys2Proof.Machine
end

