-- ==== Sys2Proof/Machine/Units/Out.lean ====
section
/-! DEFINITION. What leaves the device: the model's own log of it, oldest first (log 5); nothing reads it. -/

namespace Sys2Proof.Machine

/-- One thing that leaves the device. -/
inductive Out where
  /-- An MSI-X message of a vector: address and data of its table entry (02 R63). -/
  | msi (vector addr data : Nat)
  /-- A write to host memory (02 R62, R63; 16 R576). -/
  | hostWrite (addr : Nat) (words : List Word)
  /-- A read or configuration access that completes with data. -/
  | completion (data : Nat)
  /-- A PCI Express access that completes with Unsupported Request (02 R50). -/
  | unsupported
  /-- Configuration Request Retry Status (03 R88). -/
  | retryStatus
  /-- A quad-SPI read: status byte and data (02 R54). -/
  | qspiRead (status : Nat) (words : List Word)
  /-- A datagram to a sender, by an Ethernet port (02 R55, 13 R479). -/
  | datagram (via ip port : Nat) (words : List Word)
  /-- An ARP answer (02 R55). -/
  | arpReply (ip mac : Nat)
  /-- A ring frame of TYPE `type` on a port's outgoing lane (10 R361, R368, R371). -/
  | ringFrame (type : Nat) (frame : Frame)
  /-- A beacon on a port's outgoing lane (10 R359). -/
  | beacon (beacon : Beacon)
  /-- RING_BYPASS_N changes (10 R395). -/
  | bypass (high : Bool)
  /-- A PTP message of a messageType on an Ethernet port (13 R462). -/
  | ptp (port type domain seq : Nat)
  /-- CROOK_OUT changes (15 R520). -/
  | crook (high : Bool)
  /-- A heartbeat on SAFE_HB_OUT (15 R523). -/
  | heartbeat
  /-- Messages on the pair lane: the delta of an image, RENEW, ACK with CURRENT and the holding of the crook, RELEASE with
  the PAIR.HANDOVER that caused it, and a mirrored command as its packet words (15 R527, R532, R537, R547). -/
  | delta (seq cycle : Nat) (words : List (Nat × Nat))
  | renew (seq : Nat)
  | ack (seq : Nat) (current holds : Bool)
  | release (seq : Nat) (handover : Option Packet)
  | mirrored (words : List Word)
  deriving DecidableEq, Repr

end Sys2Proof.Machine
end

