-- ==== Sys2Proof/Machine/Units/Safe.lean ====
section
/-! DEFINITION. The state of the safety island (chapter 14). -/

namespace Sys2Proof.Machine

/-- The island's states (14 R486). -/
inductive IslandState where
  | start | noParams | ready | fault
  deriving DecidableEq, Repr

/-- ISLAND_STATE. -/
def IslandState.num : IslandState → Nat
  | .start => 0 | .noParams => 1 | .ready => 2 | .fault => 3

/-- The states of an STO pair (14 R486). -/
inductive PairState where
  | disabled | torqueOff | enabled | ss1
  deriving DecidableEq, Repr

/-- The state in PAIRS. -/
def PairState.num : PairState → Nat
  | .disabled => 0 | .torqueOff => 1 | .enabled => 2 | .ss1 => 3

/-- One STO pair (14 R486, R494–R498). -/
structure StoPair where
  state : PairState := .disabled
  /-- The pins STO_A and STO_B are high. -/
  stoA : Bool := false
  stoB : Bool := false
  /-- The cause of the entry to TORQUE_OFF and its instant. -/
  offCause : Nat := 0
  offAt : Nat := 0
  /-- The instant at which SS1 began, the checks made since, and v0 (14 R496). -/
  ss1At : Nat := 0
  checks : Nat := 0
  v0 : Nat := 0
  /-- The instant at which the hard-wired timer of T_HW began (14 R498). -/
  hwFrom : Option Nat := none
  deriving DecidableEq, Repr

/-- The island's own count of an encoder (14 R497). -/
structure IslandEnc where
  a : Bool := false
  b : Bool := false
  count : Int := 0
  /-- Instants and counts before each change within the longest speed window, oldest first. -/
  history : List (Nat × Int) := []
  deriving DecidableEq, Repr

/-- The safety island (14). -/
structure SafeUnit where
  /-- VDD_SAFE and VIO_SAFE are in range. -/
  powered : Bool := true
  state : IslandState := .start
  /-- The instant of the island's start, for ISLAND_MS. -/
  startedAt : Nat := 0
  /-- The switch word as read by the processor path and by the hard-wired path (14 R489). -/
  swA : Nat := 0
  swB : Nat := 0
  /-- The parameter set in force, 70 words; empty: none (14 R492). -/
  params : List Word := []
  pairs : Tab StoPair := []
  /-- IN_STOP and STOP_CAUSE (14 R488, R513). -/
  inStop : Bool := false
  stopCause : Nat := 0
  /-- Levels of the sixteen channels as the processor path takes them, 1 energised: a low beyond the filter is a demand (14 R503). -/
  levels : Nat := 0
  /-- The instant at which the level of each channel was taken anew (14 R503, R500). -/
  levelAt : Tab Nat := []
  inFault : Nat := 0
  inOverdue : Nat := 0
  /-- Channels that failed their latest test, and consecutive deferrals by channel (14 R502, R506). -/
  inFailed : Nat := 0
  inDeferred : Tab Nat := []
  /-- The instants of the latest test window of each channel and of each output (14 R502, R504). -/
  inTestAt : Tab (Option Nat) := []
  outTestAt : Tab (Option Nat) := []
  /-- SBC outputs held high until SBC_DELAY_MS has passed (14 R504). -/
  sbcHeld : Nat := 0
  outFault : Nat := 0
  outOverdue : Nat := 0
  outFailed : Nat := 0
  outDeferred : Tab Nat := []
  /-- The instant of the last heartbeat; its loss was recognised (14 R507). -/
  hbAt : Option Nat := none
  hbLost : Bool := false
  /-- SS1 requests on their way to the motion generator (14 R496, 07 R257). -/
  ss1Req : Nat := 0
  /-- The counters of SAFE.DIAG_READ by word. -/
  counters : Tab Nat := []
  encs : Tab IslandEnc := []
  deriving DecidableEq, Repr

end Sys2Proof.Machine
end

