-- ==== Sys2Proof/Machine/State.lean ====
section
/-! DEFINITION. The whole state of the device as plain data, the reasons a step can stop, and the state after reset. -/

namespace Sys2Proof.Machine

/-- Why a step ends in a fault. -/
inductive Fault where
  /-- Raised by no command: every command of the block answers a next state (log 11). Safe. -/
  | noSuchItem
  deriving DecidableEq, Repr

/-- Why a step is refused. -/
inductive Refusal where
  /-- Raised by an arm of `exec` whose command has no meaning yet. Safe: nothing is claimed of it. -/
  | notModelled (mnemonic : String)
  deriving DecidableEq, Repr

/-- The state of the device. -/
structure State where
  /-- Timing clocks of 1.25 ns counted since device time started (01 R11): 800 make a microsecond. -/
  now : Nat
  /-- Timing clocks by which settings of device time have moved it against that count (09 R321, 10 R379, 13 R468). -/
  timeStep : Int
  /-- The corrections that device time runs with beside that (11 R406). -/
  steer : Steer
  /-- The commands that wait, first in, first out: the model's own field (log 1). -/
  pending : List Instr
  /-- What has left the device, oldest first: the model's own field (log 5). -/
  outbox : List Out
  /-- Counts the free values taken: the model's own field (log 4). -/
  fresh : Nat
  /-- Power-up, resets and the resume window (03). -/
  boot : BootUnit
  /-- The modes (03). -/
  dev : DevUnit
  /-- The control cycle and the commit (01). -/
  cyc : CycUnit
  /-- The host interface (02). -/
  host : HostUnit
  /-- The memories and their integrity (16). -/
  mem : MemUnit
  /-- The fault manager (16). -/
  flt : FaultUnit
  /-- The Tally recorder (17). -/
  tally : TallyUnit
  /-- The power and health manager (18). -/
  pwr : PwrUnit
  /-- The graph programs (04). -/
  graph : GraphUnit
  /-- The dataflow scheduler (05). -/
  sched : SchedUnit
  /-- The loop engine (06). -/
  loop : LoopUnit
  /-- The motion generator (07). -/
  axis : AxisUnit
  /-- The analog converters (08). -/
  adc : AdcUnit
  /-- Digital inputs, outputs, PWM and encoders (08). -/
  dio : DioUnit
  /-- The acquisition engine (09). -/
  acq : AcqUnit
  /-- The Drove rings and the hierarchy (10, 11). -/
  drove : DroveUnit
  /-- The CAN FD controllers (12). -/
  can : CanUnit
  /-- The TIME unit (13). -/
  net : NetUnit
  /-- The safety island (14). -/
  isl : SafeUnit
  /-- The redundant pair (15). -/
  pair : PairUnit
  /-- The configuration record and the cocoon images (03, 15). -/
  keep : KeepUnit
  deriving DecidableEq, Repr

/-- Changes power-up, resets and the resume window (03). -/
def State.modBoot (s : State) (f : BootUnit → BootUnit) : State := { s with boot := f s.boot }

/-- Changes the modes (03). -/
def State.modDev (s : State) (f : DevUnit → DevUnit) : State := { s with dev := f s.dev }

/-- Changes the control cycle and the commit (01). -/
def State.modCyc (s : State) (f : CycUnit → CycUnit) : State := { s with cyc := f s.cyc }

/-- Changes the host interface (02). -/
def State.modHost (s : State) (f : HostUnit → HostUnit) : State := { s with host := f s.host }

/-- Changes the memories and their integrity (16). -/
def State.modMem (s : State) (f : MemUnit → MemUnit) : State := { s with mem := f s.mem }

/-- Changes the fault manager (16). -/
def State.modFlt (s : State) (f : FaultUnit → FaultUnit) : State := { s with flt := f s.flt }

/-- Changes the Tally recorder (17). -/
def State.modTally (s : State) (f : TallyUnit → TallyUnit) : State := { s with tally := f s.tally }

/-- Changes the power and health manager (18). -/
def State.modPwr (s : State) (f : PwrUnit → PwrUnit) : State := { s with pwr := f s.pwr }

/-- Changes the graph programs (04). -/
def State.modGraph (s : State) (f : GraphUnit → GraphUnit) : State := { s with graph := f s.graph }

/-- Changes the dataflow scheduler (05). -/
def State.modSched (s : State) (f : SchedUnit → SchedUnit) : State := { s with sched := f s.sched }

/-- Changes the loop engine (06). -/
def State.modLoop (s : State) (f : LoopUnit → LoopUnit) : State := { s with loop := f s.loop }

/-- Changes the motion generator (07). -/
def State.modAxis (s : State) (f : AxisUnit → AxisUnit) : State := { s with axis := f s.axis }

/-- Changes the analog converters (08). -/
def State.modAdc (s : State) (f : AdcUnit → AdcUnit) : State := { s with adc := f s.adc }

/-- Changes digital inputs, outputs, PWM and encoders (08). -/
def State.modDio (s : State) (f : DioUnit → DioUnit) : State := { s with dio := f s.dio }

/-- Changes the acquisition engine (09). -/
def State.modAcq (s : State) (f : AcqUnit → AcqUnit) : State := { s with acq := f s.acq }

/-- Changes the Drove rings and the hierarchy (10, 11). -/
def State.modDrove (s : State) (f : DroveUnit → DroveUnit) : State := { s with drove := f s.drove }

/-- Changes the CAN FD controllers (12). -/
def State.modCan (s : State) (f : CanUnit → CanUnit) : State := { s with can := f s.can }

/-- Changes the TIME unit (13). -/
def State.modNet (s : State) (f : NetUnit → NetUnit) : State := { s with net := f s.net }

/-- Changes the safety island (14). -/
def State.modIsl (s : State) (f : SafeUnit → SafeUnit) : State := { s with isl := f s.isl }

/-- Changes the redundant pair (15). -/
def State.modPair (s : State) (f : PairUnit → PairUnit) : State := { s with pair := f s.pair }

/-- Changes the configuration record and the cocoon images (03, 15). -/
def State.modKeep (s : State) (f : KeepUnit → KeepUnit) : State := { s with keep := f s.keep }

/-- Records something that leaves the device. -/
def State.emit (s : State) (o : Out) : State := { s with outbox := s.outbox ++ [o] }

/-- The device at CONFIGURE after a cold power-up, 4.0 ms after t1 (03 R87, R92): a UBR-1680 whose HOST_SEL pins
select PCI Express. DESIGN CHOICE: variant and pins (log 2). Device time started 1.8 ms earlier (03 R91). -/
def State.reset : State where
  now := 1440000
  timeStep := 0
  steer := {}
  pending := []
  outbox := []
  fresh := 0
  boot := {}
  dev := {}
  cyc := {}
  host := HostUnit.afterReset 0
  mem := {}
  flt := {}
  tally := {}
  pwr := {}
  graph := {}
  sched := {}
  loop := {}
  axis := {}
  adc := {}
  dio := {}
  acq := {}
  drove := {}
  can := {}
  net := {}
  isl := {}
  pair := {}
  keep := {}

end Sys2Proof.Machine
end

