-- ==== Sys2Proof/Machine/Status.lean ====
section
/-! DEFINITION. The status codes of replies: those shared by all units (02 R79) and those of each unit's block (02 R80). -/

namespace Sys2Proof.Machine

/-- ST_OK: done (02 R79). -/
abbrev stOk : Nat := 0x0000
/-- ST_OK_RETRIED: done exactly once after a recovered transient fault (02 R79). -/
abbrev stOkRetried : Nat := 0x0001
/-- ST_BAD_OPCODE: unit number or function not defined (02 R79). -/
abbrev stBadOpcode : Nat := 0x0010
/-- ST_BAD_LENGTH: LENGTH wrong for the command or transport (02 R79). -/
abbrev stBadLength : Nat := 0x0011
/-- ST_RANGE: parameter, reserved bit or item out of range (02 R79). -/
abbrev stRange : Nat := 0x0012
/-- ST_BAD_MODE: not allowed in the present mode (02 R79). -/
abbrev stBadMode : Nat := 0x0013
/-- ST_UNIT_ABSENT: unit not present on the executing device (02 R79). -/
abbrev stUnitAbsent : Nat := 0x0014
/-- ST_BUSY: resource or queue occupied (02 R79). -/
abbrev stBusy : Nat := 0x0015
/-- ST_NO_ROUTE: target unreachable (02 R79). -/
abbrev stNoRoute : Nat := 0x0016
/-- ST_TOO_LATE: AT cycle not in the future (02 R79). -/
abbrev stTooLate : Nat := 0x0017
/-- ST_LOCKED: resource locked by another function (02 R79). -/
abbrev stLocked : Nat := 0x0018
/-- ST_FAULT: lasting fault (02 R79). -/
abbrev stFault : Nat := 0x0020
/-- ST_TIMEOUT: no answer within the bound (02 R79). -/
abbrev stTimeout : Nat := 0x0021
/-- ST_NOT_READY: resource not yet ready (02 R79). -/
abbrev stNotReady : Nat := 0x0022
/-- ST_CO_LEAD. -/
abbrev stCoLead : Nat := 0x0030
/-- ST_CO_REFUSED. -/
abbrev stCoRefused : Nat := 0x0031
/-- ST_CO_DEFERRED. -/
abbrev stCoDeferred : Nat := 0x0032
/-- ST_NOT_CONFIGURED. -/
abbrev stNotConfigured : Nat := 0x0033
/-- ST_NO_CHECKPOINT. -/
abbrev stNoCheckpoint : Nat := 0x0034
/-- ST_WINDOW_CLOSED. -/
abbrev stWindowClosed : Nat := 0x0035
/-- ST_GAP_TOO_LONG. -/
abbrev stGapTooLong : Nat := 0x0036
/-- ST_SAFE_ACTIVE. -/
abbrev stSafeActive : Nat := 0x0037
/-- ST_MM_UNMAPPED. -/
abbrev stMmUnmapped : Nat := 0x0040
/-- ST_MM_POISONED. -/
abbrev stMmPoisoned : Nat := 0x0041
/-- ST_MM_ALIGN. -/
abbrev stMmAlign : Nat := 0x0042
/-- ST_MM_DMA. -/
abbrev stMmDma : Nat := 0x0043
/-- ST_MM_PROTECTED. -/
abbrev stMmProtected : Nat := 0x0044
/-- ST_PW_FAILED. -/
abbrev stPwFailed : Nat := 0x0050
/-- ST_PW_NOT_FAILED. -/
abbrev stPwNotFailed : Nat := 0x0051
/-- ST_PW_GRAZE_REF. -/
abbrev stPwGrazeRef : Nat := 0x0052
/-- ST_GR_CHECK. -/
abbrev stGrCheck : Nat := 0x0060
/-- ST_GR_FORMAT. -/
abbrev stGrFormat : Nat := 0x0061
/-- ST_GR_VARIANT. -/
abbrev stGrVariant : Nat := 0x0062
/-- ST_GR_BANK_BUSY. -/
abbrev stGrBankBusy : Nat := 0x0063
/-- ST_GR_NOT_VERIFIED. -/
abbrev stGrNotVerified : Nat := 0x0064
/-- ST_GR_GEN_OLD. -/
abbrev stGrGenOld : Nat := 0x0065
/-- ST_GR_VARSPACE. -/
abbrev stGrVarspace : Nat := 0x0066
/-- ST_GR_SHARED_TYPE. -/
abbrev stGrSharedType : Nat := 0x0067
/-- ST_GR_CARRY. -/
abbrev stGrCarry : Nat := 0x0068
/-- ST_GR_NO_VAR. -/
abbrev stGrNoVar : Nat := 0x0069
/-- ST_GR_FORCE_FULL. -/
abbrev stGrForceFull : Nat := 0x006A
/-- ST_GR_NO_PREVIOUS. -/
abbrev stGrNoPrevious : Nat := 0x006B
/-- ST_GR_NOT_HELD. -/
abbrev stGrNotHeld : Nat := 0x006C
/-- ST_GR_STATE_VAR. -/
abbrev stGrStateVar : Nat := 0x006D
/-- ST_SC_NO_CORE. -/
abbrev stScNoCore : Nat := 0x0070
/-- ST_LP_BUDGET. -/
abbrev stLpBudget : Nat := 0x0080
/-- ST_LP_ARMED. -/
abbrev stLpArmed : Nat := 0x0081
/-- ST_LP_COEF. -/
abbrev stLpCoef : Nat := 0x0082
/-- ST_LP_TABLE_USED. -/
abbrev stLpTableUsed : Nat := 0x0083
/-- ST_LP_ENABLED. -/
abbrev stLpEnabled : Nat := 0x0084
/-- ST_LP_DEST_USED. -/
abbrev stLpDestUsed : Nat := 0x0085
/-- ST_LP_NOT_ARMED. -/
abbrev stLpNotArmed : Nat := 0x0086
/-- ST_LP_REF. -/
abbrev stLpRef : Nat := 0x0087
/-- ST_LP_REP_ACTIVE. -/
abbrev stLpRepActive : Nat := 0x0088
/-- ST_AX_SEGMENT. -/
abbrev stAxSegment : Nat := 0x0090
/-- ST_AX_IN_USE. -/
abbrev stAxInUse : Nat := 0x0091
/-- ST_AX_STATE. -/
abbrev stAxState : Nat := 0x0092
/-- ST_AX_SS1. -/
abbrev stAxSs1 : Nat := 0x0093
/-- ST_AX_NOT_CONFIGURED. -/
abbrev stAxNotConfigured : Nat := 0x0094
/-- ST_AX_REF. -/
abbrev stAxRef : Nat := 0x0095
/-- ST_AD_CAL_RANGE. -/
abbrev stAdCalRange : Nat := 0x00A0
/-- ST_AD_GROUP_USED. -/
abbrev stAdGroupUsed : Nat := 0x00A1
/-- ST_AD_DROPPED. -/
abbrev stAdDropped : Nat := 0x00A2
/-- ST_AD_CAL_REF. -/
abbrev stAdCalRef : Nat := 0x00A3
/-- ST_AD_FAULTED. -/
abbrev stAdFaulted : Nat := 0x00A4
/-- ST_AQ_RUNNING. -/
abbrev stAqRunning : Nat := 0x00B0
/-- ST_AQ_REGION. -/
abbrev stAqRegion : Nat := 0x00B1
/-- ST_AQ_RING. -/
abbrev stAqRing : Nat := 0x00B2
/-- ST_AQ_MEMBERS. -/
abbrev stAqMembers : Nat := 0x00B3
/-- ST_AQ_NOT_CONFIGURED. -/
abbrev stAqNotConfigured : Nat := 0x00B4
/-- ST_AQ_STATE. -/
abbrev stAqState : Nat := 0x00B5
/-- ST_RG_SCHEDULE. -/
abbrev stRgSchedule : Nat := 0x00C0
/-- ST_RG_MODE_STATE. -/
abbrev stRgModeState : Nat := 0x00C1
/-- ST_RG_NOT_HELD. -/
abbrev stRgNotHeld : Nat := 0x00C2
/-- ST_RG_STATE. -/
abbrev stRgState : Nat := 0x00C3
/-- ST_RG_CYCLE. -/
abbrev stRgCycle : Nat := 0x00C4
/-- ST_RG_NO_MODE. -/
abbrev stRgNoMode : Nat := 0x00C5
/-- ST_RG_DEPTH. -/
abbrev stRgDepth : Nat := 0x00C6
/-- ST_CN_STATE. -/
abbrev stCnState : Nat := 0x00D0
/-- ST_CN_BUF_KIND. -/
abbrev stCnBufKind : Nat := 0x00D1
/-- ST_CN_BUSY. -/
abbrev stCnBusy : Nat := 0x00D2
/-- ST_CN_LISTEN. -/
abbrev stCnListen : Nat := 0x00D3
/-- ST_CN_TIMING. -/
abbrev stCnTiming : Nat := 0x00D4
/-- ST_CN_OVERLAP. -/
abbrev stCnOverlap : Nat := 0x00D5
/-- ST_TM_NO_ADDR. -/
abbrev stTmNoAddr : Nat := 0x00E0
/-- ST_TM_NOT_LOCKED. -/
abbrev stTmNotLocked : Nat := 0x00E1
/-- ST_TM_NO_STEER. -/
abbrev stTmNoSteer : Nat := 0x00E2
/-- ST_TM_UDP_IN_USE. -/
abbrev stTmUdpInUse : Nat := 0x00E3
/-- ST_TM_TRACK_CLASH. -/
abbrev stTmTrackClash : Nat := 0x00E4
/-- ST_SF_CHECK. -/
abbrev stSfCheck : Nat := 0x00F0
/-- ST_SF_SWITCH. -/
abbrev stSfSwitch : Nat := 0x00F1
/-- ST_SF_PARAM. -/
abbrev stSfParam : Nat := 0x00F2
/-- ST_SF_TORQUE. -/
abbrev stSfTorque : Nat := 0x00F3
/-- ST_SF_DEMAND. -/
abbrev stSfDemand : Nat := 0x00F4
/-- ST_SF_FAULT. -/
abbrev stSfFault : Nat := 0x00F5
/-- ST_SF_NO_PARAMS. -/
abbrev stSfNoParams : Nat := 0x00F6
/-- ST_SF_HB. -/
abbrev stSfHb : Nat := 0x00F7
/-- ST_SF_NO_ISLAND. -/
abbrev stSfNoIsland : Nat := 0x00F8
/-- ST_PR_ROLE. -/
abbrev stPrRole : Nat := 0x0100
/-- ST_PR_NO_PEER. -/
abbrev stPrNoPeer : Nat := 0x0101
/-- ST_PR_LEASE. -/
abbrev stPrLease : Nat := 0x0102
/-- ST_PR_MISMATCH. -/
abbrev stPrMismatch : Nat := 0x0103
/-- ST_TL_END. -/
abbrev stTlEnd : Nat := 0x0110
/-- ST_TL_TABLE_FULL. -/
abbrev stTlTableFull : Nat := 0x0111
/-- ST_DIO_OWNED. -/
abbrev stDioOwned : Nat := 0x0120
/-- ST_HDR_VERSION. -/
abbrev stHdrVersion : Nat := 0x0130
/-- ST_RING_EXISTS. -/
abbrev stRingExists : Nat := 0x0131
/-- ST_RING_IN_USE. -/
abbrev stRingInUse : Nat := 0x0132
/-- ST_NO_TRANSPORT. -/
abbrev stNoTransport : Nat := 0x0133
/-- ST_AT_FULL. -/
abbrev stAtFull : Nat := 0x0134
/-- ST_RING_ADDR. -/
abbrev stRingAddr : Nat := 0x0135

end Sys2Proof.Machine
end

