-- ==== Sys2Proof/Machine/Table.lean ====
section
/-! DEFINITION. Reading and writing the sparse tables in their one canonical form. -/

namespace Sys2Proof.Machine

/-- The entry at index `k`, or `d`, what an unlisted index reads as. -/
def look {α : Type} (d : α) : Tab α → Nat → α
  | [], _ => d
  | (j, v) :: r, k => if j = k then v else look d r k

/-- Writes `v` at index `k`, keeping the canonical form: indices rise and no entry equals `d`. -/
def put {α : Type} [DecidableEq α] (d : α) : Tab α → Nat → α → Tab α
  | [], k, v => if v = d then [] else [(k, v)]
  | (j, w) :: r, k, v =>
    if k < j then (if v = d then (j, w) :: r else (k, v) :: (j, w) :: r)
    else if k = j then (if v = d then r else (k, v) :: r)
    else (j, w) :: put d r k v

/-- Changes the entry at index `k` by `f`. -/
def upd {α : Type} [DecidableEq α] (d : α) (t : Tab α) (k : Nat) (f : α → α) : Tab α :=
  put d t k (f (look d t k))

/-- Changes every entry with an index in `ks` by `f`. -/
def updAll {α : Type} [DecidableEq α] (d : α) (t : Tab α) (ks : List Nat) (f : Nat → α → α) : Tab α :=
  ks.foldl (fun t k => upd d t k (f k)) t

/-- Changes every listed entry by `f`. -/
def mapAll {α β : Type} [DecidableEq β] (d : β) (t : Tab α) (f : α → β) : Tab β :=
  t.foldl (fun r e => put d r e.1 (f e.2)) []

/-- Every index of the table is above `k`. -/
def above {α : Type} (k : Nat) : Tab α → Bool
  | [] => true
  | (j, _) :: _ => decide (k < j)

/-- The indices rise strictly. -/
def rising {α : Type} : Tab α → Bool
  | [] => true
  | (j, _) :: r => above j r && rising r

/-- The canonical form of a table whose unlisted indices read as `d`. -/
def Tab.wf {α : Type} [DecidableEq α] (d : α) : Tab α → Bool
  | [] => true
  | (j, v) :: r => above j r && decide (v ≠ d) && Tab.wf d r

end Sys2Proof.Machine
end

