-- ==== Sys2Proof/Machine/Ops.lean ====
section
/-! DEFINITION. The named operations over the state that every family shares: time, counts of the variant, memory,
the cycle numbering, Tally records, the fault manager, replies and the command wrapper. -/

namespace Sys2Proof.Machine

/-! ### Time -/

/-- At least `t` timing clocks have passed since device time started (the last operand of every event row, log 33). -/
def State.at (s : State) (t : Nat) : State := { s with now := max s.now t }

/-- Device time at timing clock `n`, in advances of 1.25 ns: a 64-bit count of ns, which wraps (01 R11, R12). -/
def State.clockAt (s : State) (n : Nat) : Nat :=
  ((n + s.timeStep + s.steer.byRate n + s.steer.byOffset n) * 5 % 2 ^ 66).toNat / 5

/-- Device time now, in advances of 1.25 ns (01 R11). -/
def State.clock (s : State) : Nat := s.clockAt s.now

/-- What the corrections have made so far becomes part of `timeStep`. -/
def State.settleTime (s : State) : State :=
  { s with
    timeStep := s.timeStep + s.steer.byRate s.now + s.steer.byOffset s.now, steer := s.steer.from' s.now
    drove := { s.drove with clock := { s.drove.clock with appliedPs := s.drove.clock.appliedPs + 1250 * s.steer.byOffset s.now } } }

/-- Device time runs on with an offset correction of `ps`, which replaces what is left of the previous one (11 R407). Whole
advances are made: a part of one is left out (log 127). -/
def State.startOffset (s : State) (ps : Int) : State :=
  let s := s.settleTime
  { s with
    steer := { s.steer with offset := ps.tdiv 1250, offFrom := s.now }
    drove := { s.drove with clock := { s.drove.clock with pendingPs := ps } } }

/-- Device time runs on with the rate of its ring, of slewing and of the TIME unit (11 R406, R414; 13 R468). -/
def State.applyRate (s : State) : State :=
  let s := s.settleTime
  { s with steer := { s.steer with
    ratePpb := s.drove.clock.ratePpb + s.drove.clock.slewPpb + (if s.drove.cfg.upEn then 0 else s.net.steerPpb) } }

/-- Device time in ns (01 R11): 1.25 ns a clock. -/
def nsOf (clocks : Nat) : Nat := clocks * 5 / 4

/-- Whole microseconds of device time. -/
def usOf (clocks : Nat) : Nat := clocks / 800

/-- Timing clocks of `us` microseconds. -/
def clocksOfUs (us : Nat) : Nat := us * 800

/-- Device time now, in ns. -/
def State.ns (s : State) : Nat := nsOf s.clock

/-- An event row: its effect at its instant. An operand that names an item which the device does not have brings nothing but
the instant (log 11): no pin, link or register is there for it to act on. -/
def event (exists' : Bool) (t : Nat) (f : State → State) (s : State) : Host.Outcome State Fault Refusal :=
  .next (if exists' then f (s.at t) else s.at t)

/-- A free 32-bit value, a new one at each call (log 4). -/
def State.takeFree (s : State) : Word × State := (Config.freeWord s.fresh, { s with fresh := s.fresh + 1 })

/-! ### The variant (00 R1, R7) -/

/-- The unit-presence bitmap (00 R1, R3). -/
def presence : Variant → Nat
  | .ubr1680 => 0x1FFFF | .ubr1670 => 0x1FF7F | .ubr1650 => 0x1DF7F

/-- PART of DEV_ID (02 R57). -/
def part : Variant → Nat
  | .ubr1680 => 0x1680 | .ubr1670 => 0x1670 | .ubr1650 => 0x1650

def State.present (s : State) (unit : Nat) : Bool := bit (presence s.boot.variant) unit

def graphCores (s : State) : Nat := match s.boot.variant with | .ubr1650 => 8 | _ => 16
def loopChannels (s : State) : Nat := match s.boot.variant with | .ubr1650 => 512 | _ => 1024
def repChannels (s : State) : Nat := match s.boot.variant with | .ubr1680 => 128 | _ => 0
def axes (s : State) : Nat := match s.boot.variant with | .ubr1650 => 128 | _ => 256
def canControllers (s : State) : Nat := match s.boot.variant with | .ubr1680 => 8 | _ => 4
def converters (s : State) : Nat := match s.boot.variant with | .ubr1680 => 16 | _ => 0

/-! ### Memory (16 R550–R556) -/

/-- The areas of the device address space (16 R550). -/
inductive Area where
  | system | setAlias | clearAlias | capture | loop | checkpoint | tally | window (unit : Nat)
  deriving DecidableEq, Repr

/-- The area that holds an address; none is unmapped (16 R550, R556). -/
def areaOf (a : Nat) : Option Area :=
  if a < 0x02000000 then some .system
  else if 0x10000000 ≤ a ∧ a < 0x12000000 then some .setAlias
  else if 0x20000000 ≤ a ∧ a < 0x22000000 then some .clearAlias
  else if 0x30000000 ≤ a ∧ a < 0x30800000 then some .capture
  else if 0x31000000 ≤ a ∧ a < 0x31400000 then some .loop
  else if 0x32000000 ≤ a ∧ a < 0x32200000 then some .checkpoint
  else if 0x33000000 ≤ a ∧ a < 0x33080000 then some .tally
  else if 0x40000000 ≤ a ∧ a < 0x41100000 then some (.window ((a - 0x40000000) / 0x100000))
  else none

/-- The byte at a device address; unlisted bytes read 0 (03 R87). -/
def readByte (s : State) (a : Nat) : Byte := look 0 s.mem.store a

/-- The number in the `n` bytes from `a`, little-endian. -/
def readNat (s : State) (a n : Nat) : Nat := natOfBytes ((List.range n).map fun i => readByte s (a + i))

/-- The 32-bit word at `a`, as a number. -/
def readWord (s : State) (a : Nat) : Nat := readNat s a 4

/-- `n` words from `a`. -/
def readWords (s : State) (a n : Nat) : List Word := (List.range n).map fun i => wd (readWord s (a + 4 * i))

/-- Stores bytes from `a` upward in a memory. -/
def storeBytes : Nat → List Byte → Tab Byte → Tab Byte
  | _, [], t => t
  | a, b :: r, t => storeBytes (a + 1) r (put 0 t a b)

/-- The cocoon image covers the word at `a`, a multiple of 4 (15 R531): variables of active banks, shared variables, loop
state words 0 to 15, repetitive points and the ranges of PAIR.CHECKPOINT_CONFIG. -/
def covered (s : State) (a : Nat) : Bool :=
  if 0x01800000 ≤ a ∧ a < 0x01C00000 then
    let i := (a - 0x01800000) / 4
    ((List.range 4).any fun n =>
      let k := look {} s.graph.slots n
      (if k.activeB then k.bankB else k.bankA).words.any fun w => w.1 ≤ i && i < w.1 + w.2) ||
    s.graph.shared.any fun v => v.base ≤ i && i < v.base + v.count * (if 4 ≤ v.type then 2 else 1)
  else if 0x31000000 ≤ a ∧ a < 0x31200000 then 0x280 ≤ (a - 0x31000000) % 0x800 && (a - 0x31000000) % 0x800 < 0x2C0
  else if 0x31200000 ≤ a ∧ a < 0x31400000 then true
  else s.pair.ranges.any fun r => r.1 ≤ a && a < r.1 + r.2

/-- The first write to a covered word since the last commit point keeps its old value in the undo log (15 R532). -/
def State.track (s : State) (a n : Nat) : State :=
  match s.keep.undo with
  | [] => s
  | l :: r =>
    let ws := (List.range ((a % 4 + n + 3) / 4)).map fun i => a / 4 * 4 + 4 * i
    s.modKeep fun k => { k with undo :=
      (ws.foldl (fun l w => if (look none l w).isNone && covered s w then put none l w (some (readWord s w)) else l) l) :: r }

/-- A 64-bit word of the range is in the poison list (16 R560). -/
def poisonedIn (s : State) (a n : Nat) : Option Nat := s.mem.poison.find? fun w => w < a + n ∧ a < w + 8

/-- An access that writes all 8 bytes of a poisoned word clears its poison (16 R560). -/
def State.coverPoison (s : State) (a n : Nat) : State :=
  if s.mem.poison.isEmpty then s else s.modMem fun m => { m with poison := m.poison.filter fun w => ¬ (a ≤ w ∧ w + 8 ≤ a + n) }

/-- Writes bytes from device address `a`. -/
def State.writeBytes (s : State) (a : Nat) (bs : List Byte) : State :=
  ((s.track a bs.length).coverPoison a bs.length).modMem fun m => { m with store := storeBytes a bs m.store }

/-- The `n` bytes from `a` read 0. -/
def State.zeroBytes (s : State) (a n : Nat) : State :=
  ((s.track a n).coverPoison a n).modMem fun m => { m with store := m.store.filter fun e => ¬ (a ≤ e.1 ∧ e.1 < a + n) }

/-- Writes the low `n` bytes of `v` at `a`. -/
def State.writeNat (s : State) (a n v : Nat) : State := s.writeBytes a (bytesOfNat n v)

/-- Writes the word `v` at `a`. -/
def State.writeWord (s : State) (a v : Nat) : State := s.writeNat a 4 v

/-- Writes words from `a`. -/
def State.writeWords (s : State) (a : Nat) (ws : List Word) : State := s.writeBytes a (ws.flatMap bytesOf)

/-- Removes the bytes of a range, which then read 0. -/
def clearRange (lo hi : Nat) (t : Tab Byte) : Tab Byte := t.filter fun e => ¬ (lo ≤ e.1 ∧ e.1 < hi)

/-! ### The control cycle (01 R13–R17, R638) -/

/-- DEV_STATE.INTEGRATED (01 R17, 10 R378). After a warm reset the unit registers hold no ring configuration until it is replayed
(02 R58, 03 R97). -/
def integrated (s : State) : Bool :=
  s.boot.replayed &&
  if s.drove.cfg.upEn then
    s.drove.up.state == .integrating || s.drove.up.state == .integrated || s.drove.up.state == .muted
  else s.drove.cfg.cycleUs ≠ 0 && (s.drove.down.state == .integrated || !s.drove.downStarted || !s.drove.cfg.downEn)

/-- NOT_INTEGRATED: the enabled up-ring or the started down-ring is not INTEGRATED, or the device has no cycle (R107). -/
def notIntegrated (s : State) : Bool :=
  (s.drove.cfg.upEn && s.drove.up.state ≠ .integrated) ||
  (s.drove.cfg.downEn && s.drove.downStarted && s.drove.down.state ≠ .integrated) ||
  (!s.drove.cfg.upEn && s.drove.cfg.cycleUs == 0)

/-- The device has a control cycle (01 R638). -/
def hasCycle (s : State) : Bool :=
  s.boot.replayed && if s.drove.cfg.upEn then integrated s && s.cyc.upLbase ≠ 0 else s.drove.cfg.cycleUs ≠ 0

/-- L_base in µs (01 R13, R17). -/
def lBase (s : State) : Nat := if s.drove.cfg.upEn then s.cyc.upLbase else s.drove.cfg.cycleUs

/-- L_dev in µs (01 R16, R17). -/
def lDev (s : State) : Nat := if s.drove.cfg.upEn then s.cyc.upLdev else s.drove.cfg.cycleUs

/-- The input offset of the device cycle in µs (01 R17, R18). -/
def inOffset (s : State) : Nat := if s.drove.cfg.upEn then s.cyc.upInOffset else s.drove.cfg.inOffsetUs

/-- L_dev / L_base (01 R638). -/
def cycleStep (s : State) : Nat := if lBase s = 0 then 1 else max 1 (lDev s / lBase s)

/-- The number of the base cycle at device time `t` clocks (01 R13); 0 without a control cycle (R638). -/
def baseCycleAt (s : State) (t : Nat) : Nat :=
  if hasCycle s then t / clocksOfUs (lBase s) % 2 ^ 32 else 0

/-- The number of the base cycle in progress. -/
def baseCycle (s : State) : Nat := baseCycleAt s s.clock

/-- The number of the device cycle in progress (01 R638): that of the base cycle that begins with it. -/
def devCycle (s : State) : Nat :=
  if hasCycle s then s.clock / clocksOfUs (lDev s) * clocksOfUs (lDev s) / clocksOfUs (lBase s) % 2 ^ 32 else 0

/-- The `n`-th device cycle after `k` (01 R638). -/
def cycleAfter (s : State) (k n : Nat) : Nat := (k + n * cycleStep s) % 2 ^ 32

/-- `x` is in the future of the base cycle in progress (01 R35, R36). -/
def cycFuture (s : State) (x : Nat) : Bool := 0 < cycDiff x (baseCycle s)

/-- Cycle q of a resume or takeover is in progress: programs, loops and axes go on from q + 1 (03 R101). -/
def resuming (s : State) : Bool := s.boot.resumedAt == some (devCycle s)

/-- A changeover is pending on the device (01 R37). -/
def changeoverPending (s : State) : Bool := match s.cyc.changeover with | some c => !c.swapped | none => false

/-- The device acts: it is no pair half, or the half that holds the crook (15 R524). -/
def State.acts (s : State) : Bool := s.pair.role == .off || s.pair.role.holds

/-! ### Calendar time (13 R465, R470, R471) -/

/-- x · rate / 10^9 as R464 computes it, in binary64 and cut to an integer. -/
def rateTerm (x : Int) (rate : Nat) : Int :=
  (Fmt.b64.toIntZero (Fmt.b64.div (Fmt.b64.mul (Fmt.b64.ofInt x) rate) (Fmt.b64.ofInt 1000000000))).getD 0

/-- What M moves toward, at device time `t` ns (13 R464, R465, R469). -/
def targetM (n : NetUnit) (t : Int) : Int :=
  if n.ring then n.off + (t - n.ref) * n.slopePpt / 1000000000000 else n.off + rateTerm (t - n.ref) n.rate

/-- M at device time `t` ns: the difference from the target shrinks at MAP_SLEW_PPM (13 R465). -/
def mapM (n : NetUnit) (t : Int) : Int :=
  let left := (n.diff.natAbs : Int) - (t - n.diffAt) * n.slewPpm / 1000000
  if left ≤ 0 then targetM n t else if n.diff < 0 then targetM n t - left else targetM n t + left

/-- TAI in ns at the present instant (13 R465). -/
def taiNs (s : State) : Int := s.ns + mapM s.net s.ns

/-- UTC_VALID (13 R470). -/
def utcValid (s : State) : Bool := s.net.mapValid && s.net.utcKnown

/-- Nanoseconds of UTC by the offset that the leap second, if any, has not yet changed. -/
def plainUtc (s : State) : Int := taiNs s - s.net.utcOffset * 1000000000

/-- Seconds that an announced leap second has added to UTC_OFFSET by now: an inserted second counts from its end, a
deleted one from its place (13 R471). -/
def leapShift (s : State) : Int :=
  match s.net.leap with
  | some (stop, true) => if stop + 1000000000 ≤ plainUtc s then 1 else 0
  | some (stop, false) => if stop - 1000000000 ≤ plainUtc s then -1 else 0
  | none => 0

/-- LEAP: an inserted second is running (13 R471). -/
def leapNow (s : State) : Bool :=
  match s.net.leap with
  | some (stop, true) => utcValid s && decide (stop ≤ plainUtc s) && decide (plainUtc s < stop + 1000000000)
  | _ => false

/-- UTC nanoseconds, or device time while UTC is not valid (13 R471), modulo 2^64. -/
def calNs (s : State) : Nat :=
  if utcValid s then enc 64 (plainUtc s - (if leapNow s then 1 else leapShift s) * 1000000000) else s.ns % 2 ^ 64

/-! ### Tally records (17 R582, R585) -/

/-- Delivers a record to the intake queue of 64, or before the recorder's first start to the early buffer of 8;
a record that finds no room is lost and counted. -/
def State.note (s : State) (r : TallyRec) : State :=
  if !s.tally.started && s.boot.resetCause == 0 then
    if s.tally.early.length < 8 then
      s.modTally fun t => { t with early := t.early ++ [{ r with raised := some (0, s.ns) }] }
    else s.modTally fun t => { t with lostRecords := sat32 t.lostRecords }
  else if s.tally.intake.length < 64 then s.modTally fun t => { t with intake := t.intake ++ [r] }
  else s.modTally fun t => { t with lostRecords := sat32 t.lostRecords, lostSince := t.lostSince + 1 }

/-- A record of severity INFO, DEGRADE, STOP or SAFE with its DETAIL. -/
def State.record (s : State) (unit code sev detail : Nat) (detail2 : Nat := 0) : State :=
  s.note { unit := unit, code := code, sev := sev, detail := detail, detail2 := detail2 }

/-- A TRANSIENT-class record (16 R562): SEVERITY 0. -/
def State.transient (s : State) (unit code detail : Nat) : State :=
  s.note { unit := unit, code := code, sev := 0, transient := true, detail := detail }

/-- A record whose CODE the spec does not number (log 7): event `ev` of the model's list, with its DETAIL. -/
def State.recordEv (s : State) (unit ev sev detail : Nat) (transient : Bool := false) : State :=
  s.note { unit := unit, code := (Config.eventCode ev).toNat, sev := sev, transient := transient, detail := detail }

/-- The same where the spec does not say what DETAIL holds: a free value (log 7). -/
def State.recordOpen (s : State) (unit ev sev : Nat) (transient : Bool := false) : State :=
  s.takeFree.2.recordEv unit ev sev s.takeFree.1.toNat transient

/-- The first access to a location that the variant lacks leaves, once since power-up, a Tally record of its unit (00 R6, R7). The
spec gives the record no severity: INFO is the model's choice (log 76). -/
def State.noteAbsent (s : State) (unit : Nat) : State :=
  if unit ∈ s.boot.absentMarked then s
  else (s.modBoot fun b => { b with absentMarked := b.absentMarked ++ [unit] }).recordOpen 0 50 0

/-! ### Interrupts and the mode -/

/-- Sends the MSI-X message of a vector, or sets its pending bit while it is masked (02 R57, R63). -/
def State.sendVector (s : State) (v : Nat) : State :=
  let e := look {} s.host.msix v
  if s.boot.hostSel ≠ 0 then s
  else if e.masked then
    if v ∈ s.host.pending then s else s.modHost fun h => { h with pending := h.pending ++ [v] }
  else s.emit (.msi v e.addr e.data)

/-- Changes DEV_STATE.MODE and sends vector 0 on a change (02 R63). SAFE_CAUSE keeps its value when SAFE is left, until a reset
(log 129). -/
def State.setMode (s : State) (m : Mode) : State :=
  if s.dev.mode = m then s else (s.modDev fun d => { d with mode := m }).sendVector 0

/-- Entry to SAFE (01 R34, 03 R106, R114): at once; SAFE_ENTRY then sets the outputs. -/
def State.enterSafe (s : State) (cause : Nat) : State :=
  if s.dev.mode = .safe then s
  else (s.modDev fun d => { d with modeRequest := none, stopPending := false, safeEntryDue := true, safeCause := cause }).setMode .safe

/-! ### The fault manager (16 R566–R572) -/

/-- The pair gives up for faults of this severity instead of their STOP reaction (16 R572, 15 R539). -/
def givesUp (s : State) (sev : Nat) : Bool := s.pair.role == .active && s.pair.peerStandby && s.pair.giveupSev ≤ sev

/-- The active half is to give up at the next commit point (15 R539): only while its peer is STANDBY. -/
def State.askGiveUp (s : State) (g : GiveUp) : State :=
  if s.pair.role == .active && s.pair.peerStandby then s.modPair fun p => { p with giveUp := p.giveUp.or (some g) } else s

/-- SAFE_CAUSE of a fault: 4 for the failure of an essential domain, 3 for QUEUE_OVERFLOW, else 2 (03 R114). -/
def safeCauseOf (f : Fault566) : Nat :=
  if f.unit = 2 ∧ f.code = 1 then 4 else if f.unit = 1 ∧ f.code = 6 then 3 else 2

/-- The reaction to the fault in hand (16 R566, R572). -/
def State.react (s : State) (f : Fault566) : State :=
  let s := if givesUp s f.sev then s.askGiveUp { cycle := none, handover := none } else s
  match f.sev with
  | 2 => if (s.dev.mode = .run ∨ s.dev.mode = .hold) ∧ ¬ givesUp s 2 then s.modDev fun d => { d with stopPending := true } else s
  | 3 => s.enterSafe (safeCauseOf f)
  | _ => s

/-- The handling of a fault of this severity ends in the event that takes it up: INFO, and STOP with nothing to stop. -/
def endsAtOnce (s : State) (f : Fault566) : Bool :=
  f.sev == 0 || (f.sev == 2 && !s.dev.stopPending)

/-- Takes up waiting faults until one whose handling lasts is in hand (16 R568). -/
def takeUp : Nat → State → State
  | 0, s => s
  | fuel + 1, s =>
    match s.flt.inHand with
    | some _ => s
    | none =>
      match s.flt.waiting with
      | [] => s
      | f :: r =>
        let s := (s.modFlt fun m => { m with inHand := some f, waiting := r }).react f
        if endsAtOnce s f then takeUp fuel (s.modFlt fun m => { m with inHand := none }) else s

/-- Inserts a fault before the waiting faults of lower severity; `head` puts it before those of its own too. -/
def insertFault (head : Bool) (f : Fault566) : List Fault566 → List Fault566
  | [] => [f]
  | g :: r => if g.sev < f.sev ∨ (head ∧ g.sev = f.sev) then f :: g :: r else g :: insertFault head f r

/-- Takes a new fault in hand, pre-empting the one there (16 R568). -/
def State.preempt (s : State) (f : Fault566) : State :=
  let s := match s.flt.inHand with
    | some g => s.modFlt fun m => { m with waiting := insertFault true { g with preempted := true } m.waiting }
    | none => s
  let s := (s.modFlt fun m => { m with inHand := some f }).react f
  if endsAtOnce s f then takeUp 18 (s.modFlt fun m => { m with inHand := none }) else s

/-- QUEUE_OVERFLOW (16 R570): severity SAFE, takes no queue entry. -/
def State.queueOverflow (s : State) : State :=
  let f : Fault566 := { unit := 1, code := 6, sev := 3, detail := 0, cycle := devCycle s, cal := calNs s }
  let s := s.note { unit := 1, code := 6, sev := 3, fault := true, detail := 0 }
  let s := match s.flt.inHand with
    | some g => if g.sev = 3 then s else s.preempt f
    | none => s.preempt f
  s.modDev fun d => { d with safeCause := 3 }

/-- A lasting fault is reported (16 R566–R571). `continuing`: its unit reports a condition that lasts. -/
def State.reportFault (s : State) (unit code sev detail : Nat) (continuing : Bool := false) : State :=
  let s := s.note { unit := unit, code := code, sev := sev, fault := true, detail := detail }
  let s := if continuing ∧ sev = 3 then
      s.modFlt fun m => { m with continuing := if (unit, code, detail) ∈ m.continuing then m.continuing else m.continuing ++ [(unit, code, detail)] }
    else s
  let f : Fault566 := { unit := unit, code := code, sev := sev, detail := detail, cycle := devCycle s, cal := calNs s }
  let same (g : Fault566) : Bool := g.unit == unit && g.code == code && g.detail == detail
  if s.flt.waiting.any same then
    s.modFlt fun m => { m with waiting := m.waiting.map fun g => if same g then { g with count := g.count + 1 } else g }
  else if 16 ≤ s.flt.waiting.length then
    (s.modFlt fun m => { m with dropped := sat32 m.dropped }).queueOverflow
  else match s.flt.inHand with
    | none => s.preempt f
    | some g => if g.sev < sev then s.preempt f else s.modFlt fun m => { m with waiting := insertFault false f m.waiting }

/-- A lasting fault whose CODE the spec does not number and whose DETAIL it does not state (log 7): both are free. -/
def State.reportOpen (s : State) (unit ev sev : Nat) (continuing : Bool := false) : State :=
  s.takeFree.2.reportFault unit (Config.eventCode ev).toNat sev s.takeFree.1.toNat continuing

/-- The unit reports a continuing condition cleared (16 R571). -/
def State.clearCondition (s : State) (unit code detail : Nat) : State :=
  s.modFlt fun m => { m with continuing := m.continuing.filter (· ≠ (unit, code, detail)) }

/-- A SAFE-severity fault is still active (16 R571). -/
def safeFaultActive (s : State) : Bool :=
  !s.flt.continuing.isEmpty || 16 ≤ s.flt.waiting.length || s.flt.waiting.any (·.sev == 3) ||
  (match s.flt.inHand with | some f => f.sev == 3 | none => false)

/-! ### Publications (09 R308, R312) -/

/-- A publication enters the ingest queue of 8,192, or is dropped and counted (09 R312). -/
def State.publishAt (s : State) (entry stamp value : Nat) : State :=
  let s := s.modAcq fun a => { a with
    latest := put none a.latest entry (some (stamp, value)), pubCount := a.pubCount + 1, pubNo := put 0 a.pubNo entry (a.pubCount + 1) }
  if s.acq.ingest.length < 8192 then s.modAcq fun a => { a with ingest := a.ingest ++ [{ entry := entry, stamp := stamp, value := value }] }
  else s.modAcq fun a => { a with
    dropped := upd 0 a.dropped entry (satAdd 32 · 1)
    lossOwed := a.lossOwed ++ [{ entry := entry, stamp := stamp, value := value }] }

/-- A publication stamped with the present instant. -/
def State.publish (s : State) (entry value : Nat) : State := s.publishAt entry s.ns value

/-! ### Power domains (18 R597, R603) -/

/-- The domain that holds a unit's items (18 R597). -/
def domainOf (unit : Nat) : Nat :=
  match unit with
  | 3 => 6 | 4 => 6 | 5 => 8 | 6 => 4 | 7 => 9 | 8 => 10 | 9 => 5 | 10 => 11 | 11 => 11 | 15 => 4 | 13 => 5 | _ => 0

def domainFailed (s : State) (d : Nat) : Bool := (look {} s.pwr.domains d).failed

def domain (s : State) (d : Nat) : Domain := look {} s.pwr.domains d

def State.modDomain (s : State) (d : Nat) (f : Domain → Domain) : State :=
  s.modPwr fun p => { p with domains := upd {} p.domains d f }

/-- A domain whose unit the variant lacks is always OFF (18 R597). -/
def domainAbsent (s : State) (d : Nat) : Bool :=
  (d == 7 && s.boot.variant == .ubr1650) || (d == 9 && s.boot.variant ≠ .ubr1680)

/-- Gives a domain a new target (18 R602): it starts at once, or replaces the queued one. -/
def retarget (d : Nat) (p : PState) (s : State) : State :=
  let m := domain s d
  if domainAbsent s d ∨ m.failed then s
  else match m.going with
    | some _ => s.modDomain d fun m => { m with queued := some p }
    | none => if m.state = p then s else s.modDomain d fun m => { m with going := some p, since := s.now }

/-- The domain needs no raising: it is ON and stays so, or is being raised. -/
def awake (s : State) (d : Nat) : Bool :=
  domainAbsent s d || ((domain s d).state == .on && (domain s d).going.isNone) || (domain s d).going == some .on

/-- An access to a domain that is not ON raises it (18 R601, R602). WAKES counts an access that raises it, not those that find it rising
or about to rise. -/
def wakeDomain (d : Nat) (s : State) : State :=
  let m := domain s d
  if awake s d ∨ m.queued = some .on then s
  else
    let s := s.modPwr fun p => { p with wakes := sat32 p.wakes }
    match m.going with
    | some _ => s.modDomain d fun m => { m with queued := some .on, cutShort := true }
    | none => retarget d .on s

/-- The domain runs: its clocks and supplies are on. -/
def domainOn (s : State) (d : Nat) : Bool := (domain s d).state == .on && ((domain s d).going.isNone || (domain s d).going == some .on)

/-! ### Packets, replies and the command wrapper (02 R67–R78) -/

/-- How a command's own part ends: answered at once with a status and reply words, or later by another row. -/
inductive Verdict where
  | done (status : Nat) (words : List Word)
  | waits
  deriving DecidableEq, Repr

/-- The words of a reply packet (02 R68). -/
def replyPacket (op : Op) (status : Nat) (p : Packet) (source cycle : Nat) (ws : List Word) : List Word :=
  [wd (op.code + place 16 status), p.tag, wd ws.length, wd source, wd cycle] ++ ws

/-- Puts a packet or record into the queue of a ring. -/
def State.toRing (s : State) (w : RingWrite) : State := s.modHost fun h => { h with waiting := h.waiting ++ [w] }

/-- A reply that no ring can take (02 R57, R76). -/
def State.dropReply (s : State) : State := s.modHost fun h => { h with droppedReplies := h.droppedReplies + 1 }

/-- A destroyed ring becomes ABSENT: replies that wait for it can go nowhere (02 R76, R85). -/
def State.freeRing (s : State) (n : Nat) : State :=
  s.modHost fun h => { h with
    rings := put {} h.rings n {}, waiting := h.waiting.filter (·.ring ≠ n)
    droppedReplies := h.droppedReplies + (if (look {} h.rings n).kind = 1 then (h.waiting.filter (·.ring == n)).length else 0) }

/-- The ring that a written reply frees, if any (02 R85). -/
def State.freed (s : State) (frees : Option Nat) : State := match frees with | some n => s.freeRing n | none => s

/-- Sends reply words to the REPLY ring `m`, or drops them where it no longer exists. -/
def State.replyOnRing (s : State) (m : Nat) (ws : List Word) (frees : Option Nat) : State :=
  let r := look {} s.host.rings m
  if r.state = .absent then s.dropReply.freed frees else s.toRing { ring := m, words := ws, frees := frees }

/-- The datagrams that wait go out (02 R55). -/
def State.flushUdp (s : State) : State :=
  (s.host.udpOut.foldl (fun s d => s.emit (.datagram d.via d.ip d.port d.words)) s).modHost fun h => { h with udpOut := [] }

/-- Packs a reply into the datagram of its receiver, of at most 1,472 bytes, which goes out when the next reply does not fit and at
each cycle start; a device without a control cycle sends at once (02 R55; log 87). A port without a MAC address sends nothing
(13 R460). -/
def State.sendUdp (s : State) (via ip port : Nat) (ws : List Word) : State :=
  if (look {} s.net.ports via).mac = 0 then s else
  let mine (d : UdpOut) : Bool := d.via == via && d.ip == ip && d.port == port
  let old := match s.host.udpOut.find? mine with | some d => d.words | none => []
  let full := 368 < old.length + ws.length
  let s := if full && !old.isEmpty then s.emit (.datagram via ip port old) else s
  let s := s.modHost fun h => { h with
    udpOut := h.udpOut.filter (fun d => !mine d) ++ [{ via := via, ip := ip, port := port, words := if full then ws else old ++ ws }] }
  if hasCycle s then s else s.flushUdp

/-- Sends reply words toward the origin of their command (02 R55, R56, R76; 15 R537). -/
def State.sendReply (s : State) (o : Origin) (tag : Word) (ws : List Word) (frees : Option Nat := none) : State :=
  match o with
  | .ring n => s.replyOnRing (look {} s.host.rings n).paired ws frees
  | .replyTo m => s.replyOnRing m ws frees
  | .udp n via ip port =>
    ((s.modHost fun h => { h with kept := h.kept.map fun k =>
      if k.ring = n ∧ k.ip = ip ∧ k.port = port ∧ k.tag = tag then { k with replies := k.replies ++ [ws] } else k }).sendUdp via ip port ws).freed frees
  | .above => (s.modDrove fun d => { d with upOut := d.upOut ++ [{ kind := 1, words := ws }] }).freed frees
  | .mirror => s.freed frees
  | .lost => s.dropReply.freed frees

/-- A reply is written: REPLY is set, or the status is neither ST_OK nor ST_OK_RETRIED (02 R67). -/
def repliesTo (p : Packet) (status : Nat) : Bool := p.reply || (status ≠ stOk && status ≠ stOkRetried)

/-- Answers a command with a status and reply words, EXEC_CYCLE being `cycle` (02 R67, R68). Upward, an unanswered
command leaves a completion notice (R77). -/
def State.answerAt (s : State) (op : Op) (p : Packet) (cycle status : Nat) (ws : List Word) (frees : Option Nat := none) : State :=
  if repliesTo p status then
    s.sendReply p.origin p.tag (replyPacket op status p s.drove.devAddr cycle ws) frees
  else
    let s := s.freed frees
    match p.origin with
    | .above => s.modDrove fun d => { d with upOut := d.upOut ++ [{ kind := 2, words := [wd (op.code + place 16 status), p.tag, 0, wd s.drove.devAddr, wd cycle] }] }
    | _ => s

/-- Answers a command in the cycle in progress. -/
def State.answer (s : State) (op : Op) (p : Packet) (status : Nat) (ws : List Word) : State :=
  s.answerAt op p (devCycle s) status ws

/-- Accepts a command whose reply another row writes. -/
def State.defer (s : State) (op : Op) (p : Packet) (data : List Nat := []) : State × Verdict :=
  (s.modHost fun h => { h with deferred := h.deferred ++ [{ op := op, packet := p, data := data }] }, .waits)

/-- Ends the deferred commands that `f` selects, in order of acceptance, each answered with the status and words that
`g` gives it. -/
def State.settle (s : State) (f : Deferred → Bool) (g : Deferred → Nat × List Word) : State :=
  let sel := s.host.deferred.filter f
  let s := s.modHost fun h => { h with deferred := h.deferred.filter fun d => !f d }
  sel.foldl (fun s d => s.answer d.op d.packet (g d).1 (g d).2) s

/-- The first failing check decides the status and the command has no effect (02 R69); else `k`. -/
def checked (cs : List (Bool × Nat)) (s : State) (k : State × Verdict) : State × Verdict :=
  match cs.find? (·.1) with
  | some (_, e) => (s, .done e [])
  | none => k

/-- The command accepts AT_CYCLE with these parameters (02 R637). -/
def acceptsAt (op : Op) (p : Packet) : Bool :=
  match op with
  | .devReset | .graphControl | .graphVarWrite | .loopBankSwap | .loopMode | .loopRepControl
  | .axisStart | .axisStop | .axisSetPosition | .pairHandover => true
  | .devSetMode => field (p.w 0) 0 3 ≠ 4
  | .acqControl => field (p.w 0) 4 3 ≤ 1
  | _ => false

/-- Steps 6 to 9 of R69 on the executing device: the status of the first that fails (02 R69, R637). -/
def screen (op : Op) (p : Packet) (s : State) : Option Nat :=
  if !s.present (op.code / 256) then some stUnitAbsent
  else match p.atCycle with
    | none => none
    | some x =>
      if !acceptsAt op p then some stRange
      else if !hasCycle s then some stNotReady
      else if !cycFuture s x then some stTooLate
      else if 256 ≤ s.host.timed.length then some stAtFull
      else none

/-- The command leaves the resume window open (03 R100). -/
def keepsWindow (op : Op) : Bool :=
  match op with
  | .devIdentify | .devStatus | .devCycleStatus | .devResumeConfig | .devResume | .devReset | .tallyCursor => true
  | .schedStatus | .graphStatus | .axisStatus | .adcStatus | .acqStatus | .ringStatus | .canStatus | .timeStatus
  | .safeStatus | .pairStatus | .tallyStatus | .dioStatus => true
  | .memRead | .timeRead | .tallyRead | .dioRead => true
  | .pwrMonitorRead | .graphVarRead | .loopStateRead | .adcCalRead | .acqIndexRead | .timeTsQueueRead
  | .safeSwitchRead | .safeDiagRead | .safeMemRead => true
  | .schedCounters | .ringCounters => true
  | _ => false

/-- A half in SYNCING or STANDBY executes the command from its own rings (15 R525). -/
def standbyExecutes (op : Op) : Bool :=
  match op with
  | .devResumeConfig | .devResume => false
  | .pairConfig | .pairHandover | .pairCheckpointConfig | .pairStandbyCheck => true
  | _ => keepsWindow op

/-- The half refuses the command with ST_LOCKED (15 R525). -/
def pairLocked (s : State) (op : Op) (p : Packet) : Bool :=
  (s.pair.role == .syncing || s.pair.role == .standby) && !standbyExecutes op &&
  (match p.origin with | .mirror | .above => false | _ => true)

end Sys2Proof.Machine
end

