-- ==== Sys2Proof/Machine/Reset.lean ====
section
/-! DEFINITION. What a reset leaves in each unit, and the end of the resume window (03 R94–R100). -/

namespace Sys2Proof.Machine

/-! ### The reset configuration of each unit: what runs from cold power-up stays -/

/-- A slot keeps its counters (04 R161). -/
def GSlot.cleared (k : GSlot) : GSlot := { abandoned := k.abandoned, arithExc := k.arithExc, forcesDropped := k.forcesDropped }

/-- After a reset that does not end in a resume every bank is EMPTY and no force is left (04 R117, R143, R144). -/
def GraphUnit.cleared (g : GraphUnit) : GraphUnit := { slots := mapAll {} g.slots GSlot.cleared }

/-- A core and a slot of the scheduler keep their counters (05 R184, R186). -/
def Core.cleared (c : Core) : Core :=
  { opsRun := c.opsRun, busyNs := c.busyNs, taken := c.taken, given := c.given, displaced := c.displaced, misses := c.misses
    bpStallNs := c.bpStallNs, spilled := c.spilled, readyHigh := c.readyHigh }

def SlotSched.cleared (k : SlotSched) : SlotSched :=
  { executions := k.executions, overruns := k.overruns, skipped := k.skipped, cancelled := k.cancelled, delayFull := k.delayFull
    lastExecNs := k.lastExecNs, maxExecNs := k.maxExecNs, budgetExceeded := k.budgetExceeded }

def SchedUnit.cleared (u : SchedUnit) : SchedUnit :=
  { cores := mapAll {} u.cores Core.cleared, slots := mapAll {} u.slots SlotSched.cleared }

/-- The motion generator: every channel is NONE (07 R234). -/
def AxisUnit.cleared (u : AxisUnit) : AxisUnit := { ss1Held := u.ss1Held }

/-- A converter keeps its counters, and the unit the working calibration set (08 R279, R300). -/
def Conv.cleared (c : Conv) : Conv :=
  { conversions := c.conversions, urgentDropped := c.urgentDropped, groupOverruns := c.groupOverruns
    tableAborts := c.tableAborts, ovrCount := c.ovrCount }

def AdcUnit.cleared (u : AdcUnit) : AdcUnit := { convs := mapAll {} u.convs Conv.cleared, calSet := u.calSet }

/-- The logical level of a digital input: the filtered level, inverted when ACTIVE_LOW is set (08 R281). -/
def Din.logical (d : Din) : Bool := d.filtered != d.activeLow

/-- A change of the logical level advances its edge counter (08 R282); both wrap modulo 2^32. -/
def Din.count (d : Din) (before : Bool) (now : Nat) : Din :=
  if d.logical = before then d
  else if d.logical then { d with rise := (d.rise + 1) % 2 ^ 32, oneSince := now }
  else { d with fall := (d.fall + 1) % 2 ^ 32 }

/-- An input keeps its level and edge counters, and a change of the logical level counts (08 R282); outputs, PWM and encoders are unconfigured. -/
def Din.cleared (now : Nat) (d : Din) : Din :=
  Din.count { raw := d.raw, rawSince := d.rawSince, filtered := d.raw, rise := d.rise, fall := d.fall, oneSince := d.oneSince
              imgLevel := d.imgLevel, imgRise := d.imgRise, imgFall := d.imgFall } d.logical now

def DioUnit.cleared (now : Nat) (u : DioUnit) : DioUnit :=
  { dins := mapAll {} u.dins (Din.cleared now)
    encs := mapAll {} u.encs fun e => { a := e.rawA, b := e.rawB, rawA := e.rawA, rawB := e.rawB } }

/-- A controller keeps its counters (12 R456). -/
def CanCtrl.cleared (c : CanCtrl) : CanCtrl :=
  { rxFrames := c.rxFrames, txFrames := c.txFrames, unmatched := c.unmatched, overruns := c.overruns
    lockTimeouts := c.lockTimeouts, busoffCount := c.busoffCount, txRefused := c.txRefused }

def CanUnit.cleared (u : CanUnit) : CanUnit := { ctrls := mapAll {} u.ctrls CanCtrl.cleared }

/-- The TIME unit keeps M and its counters (13 R467, R480); a top manager with SOURCE RING has no valid mapping (R476). -/
def NetUnit.cleared (n : NetUnit) (upEn : Bool) : NetUnit :=
  { ports := mapAll {} n.ports fun p => { linkUp := p.linkUp, tsqDropped := p.tsqDropped }
    tracks := mapAll {} n.tracks fun t => { syncs := t.syncs, invalid := t.invalid }
    mapValid := n.mapValid && upEn, off := n.off, ref := n.ref, rate := n.rate, ring := n.ring, slopePpt := n.slopePpt
    diff := n.diff, diffAt := n.diffAt, utcOffset := n.utcOffset, utcKnown := n.utcKnown, leap61 := n.leap61
    leap59 := n.leap59, leap := n.leap, switches := n.switches, taiSteps := n.taiSteps, framesDropped := n.framesDropped }

/-- Every domain is raised, tolerances and marks end (18 R600, R604); the counters run on (R617, R620). -/
def PwrUnit.cleared (u : PwrUnit) : PwrUnit :=
  { wakes := u.wakes, wasted := u.wasted, wakeRetries := u.wakeRetries, wakeCause := u.wakeCause, tempMax := u.tempMax, trips := u.trips }

/-- The pair unit without PAIR.CONFIG: its counters, and what the lane and the line show (15 R546). -/
def PairUnit.cleared (p : PairUnit) : PairUnit :=
  { laneUp := p.laneUp, crookIn := p.crookIn, deltaMax := p.deltaMax, overruns := p.overruns, takes := p.takes
    giveUps := p.giveUps, lineFault := p.lineFault, laneErr := p.laneErr, seq := p.seq, nextSeq := p.nextSeq }

/-- A half that lost the crook, was reset or was configured: SYNCING (15 R529, R538). -/
def PairUnit.syncing (p : PairUnit) (now : Nat) : PairUnit :=
  { p with role := .syncing, peerLost := false, peerStandby := false, peerSyncing := false, copyPermille := 0, copyDone := false
           current := false, outgoing := none, sentAt := [], lastAck := none, alarmFrom := now, lastRenew := now
           giveUp := none, takeDue := none, answer := none, tookAt := none, quiet := false }

/-- Loop memory and segment memory after a reset that does not end in a resume are zero (06 R203, 07 R234). -/
def MemUnit.unitsCleared (m : MemUnit) : MemUnit :=
  { m with
    store := clearRange 0x31000000 0x31400000 (clearRange 0x01C20000 0x01DA0000 m.store)
    passS := 10, ceThreshold := 16 }

/-- Every unit except RING and HOST returns to its reset configuration (R100, 01 R46). The calibration set, the counters
from cold power-up and DEV.RESUME_CONFIG stay. A configured pair half stays a half and comes up SYNCING in READY
(R104, 15 R538; log 65). -/
def State.unitsCleared (s : State) : State :=
  let s := { s with
    graph := s.graph.cleared, sched := s.sched.cleared, loop := {}, axis := s.axis.cleared, adc := s.adc.cleared
    dio := s.dio.cleared s.now, acq := {}, can := s.can.cleared, net := s.net.cleared s.drove.cfg.upEn, pwr := s.pwr.cleared }
  let s := s.modMem MemUnit.unitsCleared
  let s := s.modTally fun t => { t with settings := [], defaultRefill := 10000 }
  let s := s.modCyc fun c => { c with holdBudget := 3, latchSubst := false, miss := 0, commit := .committing, unresolved := false, changeover := none }
  let s := s.modKeep fun k => { k with image := none, next := none, undo := [] }
  if s.pair.role = .off then s.modPair PairUnit.cleared
  else (s.modPair fun p => p.syncing s.now).setMode .ready

/-- AUTO_RESUME acts, or DEV.RESUME has arrived (R101, R103). A pair half does not resume by itself (R104). -/
def autoRequested (s : State) : Bool := s.dev.autoResume && !s.boot.autoSuppressed
def resumeRequested (s : State) : Bool :=
  s.pair.role == .off && (autoRequested s || s.host.deferred.any fun d => d.op == .devResume)

/-- The resume window closes without a resume (R100): a waiting DEV.RESUME returns ST_WINDOW_CLOSED. -/
def closeWindow (s : State) : State :=
  if s.boot.windowOpened.isNone then s
  else
    let s := s.modBoot fun b => { b with windowOpened := none, holdingOutputs := false }
    s.unitsCleared.settle (fun d => d.op == .devResume) fun _ => (stWindowClosed, [])

/-- The same where a resume was requested, which is thereby refused: with a Tally record of severity DEGRADE (R102). -/
def endWindow (s : State) : State := closeWindow (if s.boot.windowOpened.isSome ∧ resumeRequested s then s.recordOpen 0 43 1 else s)

end Sys2Proof.Machine
end

