-- ==== Sys2Proof/Machine/Command.lean ====
section
/-! DEFINITION. The wrapper that every packet command runs in: the checks of 02 R69 on the executing device, the resume
window of 03 R100, the locks of 15 R525 and 18 R603, and the reply. -/

namespace Sys2Proof.Machine

/-- The command's unit stands in a FAILED domain (18 R603). -/
def unitFailed (s : State) (op : Op) : Bool := domainFailed s (domainOf (op.code / 256))

/-- Any command that does not leave the resume window open closes it before it executes (03 R100), also one that its own checks, step
10 of R69, then refuse (log 128). -/
def windowFor (op : Op) (s : State) : State :=
  if s.boot.windowOpened.isSome && !keepsWindow op then endWindow s else s

/-- The commands that the active half mirrors (15 R537): those that change configuration, a bank, a table or memory that the full
copy covers. -/
def mirrorsOp (op : Op) : Bool :=
  match op with
  | .devResumeConfig | .devCycleConfig | .memWrite | .memFill | .memDma | .memScrubConfig | .pwrGrazeConfig | .pwrMonitorConfig
  | .graphLoad | .graphVerify | .graphArm | .graphDisarm | .graphRollback | .schedConfig | .loopChannelConfig | .loopCoefWrite
  | .loopBankArm | .loopRepConfig | .axisConfig | .axisTableWrite | .axisStandstill | .adcConfig | .adcTableWrite | .adcGroupConfig
  | .acqSignalConfig | .acqStreamConfig | .acqWindowConfig | .acqTriggerConfig | .acqHistConfig | .acqPmapConfig
  | .ringConfig | .ringScheduleWrite | .ringModeArm | .ringSyncConfig | .canConfig | .canFilterConfig | .canBufferConfig
  | .canCounterConfig | .timePortConfig | .timePtpConfig | .timeDomainSelect | .timeUdpConfig | .pairCheckpointConfig
  | .tallyConfig | .dioInputConfig | .dioOutputConfig | .dioPwmConfig | .dioEncConfig => true
  | _ => false

/-- The active half sends a command that it executed to its STANDBY peer (15 R537). -/
def State.mirror (s : State) (op : Op) (p : Packet) (status : Nat) : State :=
  if s.pair.role == .active && s.pair.peerStandby && mirrorsOp op && (status == stOk || status == stOkRetried) then
    s.emit (.mirrored (wd op.code :: p.tag :: p.params))
  else s

/-- A configuration command that takes effect rewrites the configuration record (03 R97; 16 R565). -/
def State.recordConfig (s : State) (op : Op) (status : Nat) : State :=
  if mirrorsOp op && (status == stOk || status == stOkRetried) && !s.boot.recordGood then s.modBoot fun b => { b with recordGood := true } else s

/-- The end of a command that is answered at once: a configuration command that took effect enters the configuration record and goes
to the standby, and the reply goes toward the command's origin (02 R67). -/
def State.conclude (s : State) (op : Op) (p : Packet) (status : Nat) (ws : List Word) : State :=
  ((s.recordConfig op status).mirror op p status).answer op p status ws

/-- A command that executes raises the service cores and its unit's domain, where they are not ON; the time that it waits for them is
left out (18 R601, R608; log 77). -/
def wakeFor (op : Op) (s : State) : State := wakeDomain (domainOf (op.code / 256)) (wakeDomain 2 s)

/-- Executes a command that passed steps 1 to 9 of R69: step 10 is in its body. -/
def execute (op : Op) (body : Packet → State → State × Verdict) (p : Packet) (s : State) : State :=
  let s := windowFor op s
  if pairLocked s op p then s.answer op p stLocked []
  else if unitFailed s op then s.answer op p stFault []
  else match body p (wakeFor op s) with
    | (t, .done st ws) => t.conclude op p st ws
    | (t, .waits) => (t.recordConfig op stOk).mirror op p stOk

/-- A command packet that has reached the executing device (02 R69, steps 5 to 10; R72). -/
def runCommand (op : Op) (body : Packet → State → State × Verdict) (p : Packet) (s : State) : State :=
  match screen op p s with
  | some st => s.answer op p st []
  | none =>
    match p.atCycle with
    | some x => s.modHost fun h => { h with timed := h.timed ++ [{ op := op, packet := p, cycle := x }] }
    | none => execute op body p s

/-- Commands execute: the device is past CONFIGURE's start and not held in a reset, and its service cores have not failed (02 R72, 03 R87,
18 R603). -/
def servesCommands (s : State) : Bool := s.boot.phase == .running && !domainFailed s 2

/-- The meaning of a packet row. A device that is not past CONFIGURE's start, or held in reset, or without service cores, takes no
packet: nothing happens (02 R72, 03 R87, 18 R603; log 6). -/
def command (op : Op) (body : Packet → State → State × Verdict) (p : Packet) (s : State) :
    Host.Outcome State Fault Refusal :=
  if servesCommands s then .next (runCommand op body p s) else .next s

/-- Reserved bits of a parameter word: those of `mask` must be 0. -/
def reservedSet (w mask : Nat) : Bool := w &&& mask ≠ 0

end Sys2Proof.Machine
end

