-- ==== Sys2Proof/Machine/Host.lean ====
section
/-! DEFINITION. The HOST unit: rings, doorbells, interrupts and the host interface's own reset (02). -/

namespace Sys2Proof.Machine

/-- Ring `n` of the host interface. -/
def ringOf (s : State) (n : Nat) : Ring := look {} s.host.rings n

/-- Changes ring `n`. -/
def State.modRing (s : State) (n : Nat) (f : Ring → Ring) : State :=
  s.modHost fun h => { h with rings := upd {} h.rings n f }

/-- Slots of a ring. -/
def Ring.size (r : Ring) : Nat := 2 ^ r.log2

/-- Occupied slots: PROD − CONS, unsigned (02 R60). -/
def Ring.occupied (r : Ring) : Nat := (r.prod + 2 ^ 32 - r.cons) % 2 ^ 32

/-- Slots a packet of `w` words takes (02 R61). -/
def slotsOf (w : Nat) : Nat := (w + 15) / 16

/-- The ring enters FAULT with a cause, and vector 0 is sent (02 R59, R63). -/
def State.faultRing (s : State) (n cause : Nat) : State :=
  (s.modRing n fun r => { r with state := .fault, faultCause := cause }).sendVector 0

/-- A new index breaks R60: it moves backwards, or more slots than the ring has would be occupied. -/
def badIndex (old new occupied size : Nat) : Bool := cycDiff new old < 0 || size < occupied

/-- Slots that replies and records already waiting for ring `m` will take. -/
def owedSlots (s : State) (m : Nat) : Nat :=
  ((s.host.waiting.filter (·.ring == m)).map fun w => slotsOf w.words.length).sum

/-- REPLY ring `m` lacks room for another reply (02 R64). DEDUCED: room is one free slot beyond what waits (log 8). -/
def lacksRoom (s : State) (m : Nat) : Bool :=
  let r := ringOf s m
  r.state ≠ .active || r.size - r.occupied ≤ owedSlots s m

/-- STALLED of every COMMAND ring follows its REPLY ring (02 R64). -/
def State.restall (s : State) : State :=
  s.modHost fun h => { h with rings := h.rings.map fun e =>
    (e.1, if e.2.kind = 0 ∧ e.2.state = .active ∧ e.2.stalled then { e.2 with stalled := lacksRoom s e.2.paired } else e.2) }

/-- HOST_IRQ_N is low (02 R54): a ring with IRQ_EN, whatever its state, has a device producer index different from its consumer
index. -/
def hostIrqLow (s : State) : Bool :=
  s.host.rings.any fun e => e.2.irqEn && e.2.kind ≠ 0 && e.2.prod ≠ e.2.cons

/-! ### Doorbells and ring control -/

/-- PROD_DOORBELL (02 R60). -/
def prodDoorbell (n v : Nat) (s : State) : State :=
  let r := ringOf s n
  if r.kind ≠ 0 ∨ r.state ≠ .active then s
  else if badIndex r.prod v ((v + 2 ^ 32 - r.cons) % 2 ^ 32) r.size then s.faultRing n 1
  else s.modRing n fun r => { r with prod := v % 2 ^ 32 }

def execProdDoorbell (n v t : Nat) (s : State) : Host.Outcome State Fault Refusal :=
  event (n < 64) t (prodDoorbell n v) s

/-- CONS_DOORBELL (02 R60). -/
def consDoorbell (n v : Nat) (s : State) : State :=
  let r := ringOf s n
  if r.kind = 0 ∨ r.state ≠ .active then s
  else if badIndex r.cons v ((r.prod + 2 ^ 32 - v % 2 ^ 32) % 2 ^ 32) r.size then s.faultRing n 1
  else (s.modRing n fun r => { r with cons := v % 2 ^ 32 }).restall

def execConsDoorbell (n v t : Nat) (s : State) : Host.Outcome State Fault Refusal :=
  event (n < 64) t (consDoorbell n v) s

/-- ENABLE of ring 0 or 1 (02 R59, R60): RO on other rings, without effect where no transport was selected. FAULT_CAUSE keeps its value
when ENABLE 0 takes the ring from FAULT to DISABLED (log 128). -/
def enableRing (n : Nat) (en : Bool) (s : State) : State :=
  let r := ringOf s n
  if 1 < n ∨ r.transport = 3 then s
  else if en then
    if r.state = .disabled then (s.modRing n fun r => { r with prod := 0, cons := 0, state := .active }).restall else s
  else s.modRing n fun r => { r with state := .disabled, stalled := false }

def execEnable (n : Nat) (en : Bool) (t : Nat) (s : State) : Host.Outcome State Fault Refusal :=
  event (n < 64) t (enableRing n en) s

/-- RING_RESET (02 R59): indices 0, unconsumed slots discarded, FAULT left for ACTIVE. -/
def ringReset (n : Nat) (s : State) : State :=
  if (ringOf s n).state = .absent then s
  else ((s.modHost fun h => { h with senders := h.senders.filter (·.ring ≠ n) }).modRing n fun r => { r with
    prod := 0, cons := 0, faultCause := 0, stalled := false
    state := if r.state = .fault then .active else r.state }).restall

def execRingReset (n t : Nat) (s : State) : Host.Outcome State Fault Refusal :=
  event (n < 64) t (ringReset n) s

/-- HOST_ERR_CLEAR: W1C (02 R57). -/
def hostErrClear (mask : Nat) (s : State) : State :=
  s.modHost fun h => { h with hostErr := maskOf ((bitsOf 3 h.hostErr).filter fun i => !bit mask i) }

def execHostErrClear (mask t : Nat) (s : State) : Host.Outcome State Fault Refusal :=
  event true t (hostErrClear mask) s

/-- DROPPED_REPLIES_READ: RC, the count and then 0 (02 R57). -/
def droppedRepliesRead (s : State) : State :=
  (s.emit (.completion s.host.droppedReplies)).modHost fun h => { h with droppedReplies := 0 }

def execDroppedRepliesRead (t : Nat) (s : State) : Host.Outcome State Fault Refusal :=
  event true t droppedRepliesRead s

/-! ### Writing replies, events and records (02 R61–R65) -/

/-- The pieces of `n` slots from index `i` of a ring of `size` slots: address and words, wrapping (02 R61). -/
def slotPieces (base size i : Nat) (ws : List Word) : List (Nat × List Word) :=
  let room := (size - i % size) * 16
  if ws.length ≤ room then [(base + 64 * (i % size), ws)]
  else [(base + 64 * (i % size), ws.take room), (base, ws.drop room)]

/-- Writes words to a ring's memory: host memory over PCI Express, system memory otherwise (02 R54, R55). -/
def State.writeOut (s : State) (transport : Nat) (pieces : List (Nat × List Word)) : State :=
  pieces.foldl (fun s e => if transport = 0 then s.emit (.hostWrite e.1 e.2) else s.writeWords e.1 e.2) s

/-- Words of a packet padded to whole slots with zeros (02 R61). -/
def padSlots (ws : List Word) : List Word := ws ++ List.replicate (slotsOf ws.length * 16 - ws.length) 0

/-- The HOLDOFF of a ring has elapsed since its previous interrupt (02 R59, R63). -/
def holdoffOver (r : Ring) (now : Nat) : Bool :=
  match r.lastIrq with
  | none => true
  | some t => t + clocksOfUs (4 * r.holdoff) ≤ now

/-- The interrupt of a ring whose index advanced (02 R63). -/
def ringIrq (n : Nat) (s : State) : State :=
  let r := ringOf s n
  if !r.irqEn then s
  else if holdoffOver r s.now then
    (s.modRing n fun r => { r with lastIrq := some s.now, irqDelayed := false }).sendVector r.vector
  else s.modRing n fun r => { r with irqDelayed := true }

/-- Writes a whole packet or record to ring `n` if it fits: slots, PROD, SHADOW, interrupt (02 R63, R65); the flag tells
whether it was written. A host memory access that fails twice puts the ring into FAULT. -/
def ringPut (n : Nat) (ws : List Word) (dma : Dma) (s : State) : State × Bool :=
  let r := ringOf s n
  if r.state ≠ .active ∨ r.size - r.occupied < slotsOf ws.length then (s, false)
  else if dma = .failed ∧ r.transport = 0 then (s.faultRing n 3, false)
  else
    let s := if dma = .retried ∧ r.transport = 0 then s.recordOpen 16 0 0 true else s
    let s := s.writeOut r.transport (slotPieces r.base r.size r.prod (padSlots ws))
    let prod := (r.prod + slotsOf ws.length) % 2 ^ 32
    let s := s.modRing n fun r => { r with prod := prod }
    let s := if r.shadow = 0 then s else s.writeOut r.transport [(r.shadow, [wd prod])]
    (ringIrq n s, true)

/-- The reply of DEV.RESET has been written: the reset begins 10 µs later (03 R110). -/
def State.resetReply (s : State) (ws : List Word) : State :=
  if s.boot.resetOnReply ∧ s.boot.warmResetAt.isSome ∧ field (ws.headD 0).toNat 0 16 = Op.devReset.code then
    s.modBoot fun b => { b with warmResetAt := some (s.now + clocksOfUs 10) }
  else s

/-- REPLY_WRITE (02 R63, R65): the oldest packet or event waiting for ring `n`, if the whole of it fits. -/
def replyWrite (n : Nat) (dma : Dma) (s : State) : State :=
  match extractFirst (fun w => w.ring == n) s.host.waiting with
  | none => s
  | some (w, rest) =>
    match ringPut n w.words dma s with
    | (t, false) => t
    | (t, true) =>
      let t := t.modHost fun h => { h with waiting := rest }
      ((t.freed w.frees).restall).resetReply w.words

def execReplyWrite (n : Nat) (dma : Dma) (t : Nat) (s : State) : Host.Outcome State Fault Refusal :=
  event (n < 64) t (replyWrite n dma) s

/-- HOLDOFF_EXPIRY (02 R63). -/
def holdoffExpiry (n : Nat) (s : State) : State :=
  let r := ringOf s n
  if r.irqDelayed ∧ holdoffOver r s.now then
    (s.modRing n fun r => { r with lastIrq := some s.now, irqDelayed := false }).sendVector r.vector
  else s

def execHoldoffExpiry (n t : Nat) (s : State) : Host.Outcome State Fault Refusal :=
  event (n < 64) t (holdoffExpiry n) s

/-! ### The host interface's own reset and the configuration space -/

/-- Origins that are COMMAND rings lose their reply (02 R52). -/
def Origin.orphan : Origin → Origin
  | .ring _ => .lost
  | .replyTo _ => .lost
  | .udp _ _ _ _ => .lost
  | o => o

/-- Changes the origin of every command that is taken and not complete. -/
def State.mapOrigins (s : State) (f : Origin → Origin) : State :=
  let s := s.modHost fun h => { h with
    deferred := h.deferred.map fun d => { d with packet := { d.packet with origin := f d.packet.origin } }
    timed := h.timed.map fun d => { d with packet := { d.packet with origin := f d.packet.origin } } }
  let map' (p : Packet) : Packet := { p with origin := f p.origin }
  let s := s.modCyc fun c => { c with changeover := c.changeover.map fun c => { c with packet := c.packet.map map' } }
  let s := s.modPair fun p => { p with giveUp := p.giveUp.map fun g => { g with handover := g.handover.map map' } }
  s.modDrove fun d => { d with fwd := d.fwd.map fun e => { e with origin := f e.origin } }

/-- HOST_INTERFACE_RESET (02 R52). -/
def hostInterfaceReset (s : State) : State :=
  let replies := s.host.waiting.filter fun w => (ringOf s w.ring).kind == 1
  let s := s.flushUdp.mapOrigins Origin.orphan
  let s := s.modHost fun h => { HostUnit.afterReset s.boot.hostSel with
    hostErr := setBit h.hostErr 2 true
    droppedReplies := h.droppedReplies + replies.length
    timed := h.timed
    deferred := h.deferred }
  s.recordOpen 16 1 0

def execHostInterfaceReset (t : Nat) (s : State) : Host.Outcome State Fault Refusal :=
  event true t hostInterfaceReset s

/-- A word of the configuration space: identifiers and class code as R49 gives them, other words open. -/
def configWord (s : State) (offset : Nat) : Nat :=
  if offset = 0 then part s.boot.variant * 2 ^ 16 + 0x1E9B
  else if offset = 8 then 0x118000 * 2 ^ 8 + Config.revision.toNat
  else (Config.configSpace offset).toNat

/-- CONFIGURATION_REQUEST (03 R88): Retry Status before CONFIGURE is reached at t1 + 4.0 ms. -/
def configurationRequest (offset : Nat) (s : State) : State :=
  if !s.boot.pcieTraining then s
  else match s.boot.phase with
    | .running | .pinReset | .logicReset => s.emit (.completion (configWord s offset))
    | _ => s.emit .retryStatus

def execConfigurationRequest (offset t : Nat) (s : State) : Host.Outcome State Fault Refusal :=
  event true t (configurationRequest offset) s

/-! ### HOST commands (02 R83–R86) -/

/-- The transport of a new ring is enabled (02 R48, R84). -/
def transportEnabled (s : State) (tr : Nat) : Bool := if tr = 2 then s.net.udpEnabled else tr == s.boot.hostSel

/-- BASE of a new ring meets the alignment and placement of R84. -/
def baseOk (tr base log2 : Nat) : Bool :=
  if tr = 0 then base % 4096 == 0 else base % 64 == 0 && base + 64 * 2 ^ log2 ≤ 0x02000000

/-- PAIRED of a new ring is valid: a COMMAND ring names an existing REPLY ring of its transport, others name 0. -/
def pairedOk (s : State) (kind tr paired : Nat) : Bool :=
  if kind = 0 then (ringOf s paired).state ≠ .absent && (ringOf s paired).kind == 1 && (ringOf s paired).transport == tr
  else paired == 0

/-- HOST.RING_CREATE (02 R84). TRANSPORT 3, which names no transport, is out of range (log 128). -/
def cmdHostRingCreate (p : Packet) (s : State) : State × Verdict :=
  let w := p.w 0
  let n := field w 0 6; let kind := field w 6 2; let log2 := field w 8 4; let tr := field w 12 2
  let base := p.w 1 + place 32 (p.w 2); let shadow := p.w 3 + place 32 (p.w 4)
  checked
    [(p.len ≠ 6, stBadLength),
     (n < 2 || log2 < 4 || 12 < log2 || tr == 3 || !pairedOk s kind tr (field w 14 6) || (kind == 3 && tr == 2) ||
        reservedSet w 0xF8000000 || reservedSet (p.w 5) 0xFFFFFF00, stRange),
     ((ringOf s n).state ≠ .absent, stRingExists),
     (!baseOk tr base log2 || shadow % 4 ≠ 0, stRingAddr),
     (!transportEnabled s tr, stNoTransport)] s
    (s.modRing n (fun _ =>
        { base := base, shadow := shadow, kind := kind, log2 := log2, transport := tr, paired := field w 14 6
          vector := field w 20 6, irqEn := bit w 26, holdoff := field (p.w 5) 0 8, state := .active }), .done stOk [])

def execHostRingCreate (p : Packet) (s : State) : Host.Outcome State Fault Refusal :=
  command .hostRingCreate cmdHostRingCreate p s

/-- The capture has records for its ring: it runs, or it stopped and some are still to be copied (09 R323). -/
def Capture.streams (cap : Capture) : Bool := cap.running || !cap.queue.isEmpty || !cap.sending.isEmpty

/-- A capture streams to the ring (R85). -/
def streamsTo (s : State) (n : Nat) : Bool := s.acq.captures.any fun e => e.2.streams && e.2.ring == n

/-- HOST.RING_DESTROY (02 R85): the ring is ABSENT once the reply has been written; packets already taken answer
through its REPLY ring. -/
def cmdHostRingDestroy (p : Packet) (s : State) : State × Verdict :=
  let n := field (p.w 0) 0 6
  checked
    [(p.len ≠ 1, stBadLength),
     (n < 2 || (ringOf s n).state == .absent || reservedSet (p.w 0) 0xFFFFFFC0, stRange),
     (s.host.rings.any (fun e => e.2.kind == 0 && e.2.state ≠ .absent && e.2.paired == n) || streamsTo s n, stRingInUse)] s
    (let paired := (ringOf s n).paired
     let s := s.mapOrigins fun o => if o = .ring n then .replyTo paired else o
     let s := s.modRing n fun r => { r with destroying := true }
     (s.answerAt .hostRingDestroy p (devCycle s) stOk [] (some n), .waits))

def execHostRingDestroy (p : Packet) (s : State) : Host.Outcome State Fault Refusal :=
  command .hostRingDestroy cmdHostRingDestroy p s

/-- HOST.EVENT_ROUTE (02 R86). -/
def cmdHostEventRoute (p : Packet) (s : State) : State × Verdict :=
  let w := p.w 0
  let n := field w 0 6
  checked
    [(p.len ≠ 2, stBadLength),
     ((ringOf s n).state == .absent || (ringOf s n).kind ≠ 2 || reservedSet w 0xFFFFFC00 || reservedSet (p.w 1) 0xFFFE0000, stRange)] s
    (s.modRing n (fun r => { r with
        evMinSev := field w 6 2, evSubtree := bit w 8, evEnable := bit w 9, evMask := field (p.w 1) 0 17 }), .done stOk [])

def execHostEventRoute (p : Packet) (s : State) : Host.Outcome State Fault Refusal :=
  command .hostEventRoute cmdHostEventRoute p s

/-! ### Events (02 R86) -/

/-- The eight words of a record pass the filter of an EVENT ring. -/
def eventPasses (r : Ring) (unit sev : Nat) (below : Bool) : Bool :=
  r.kind == 2 && r.state ≠ .absent && r.evEnable && r.evMinSev ≤ sev && bit r.evMask unit && (!below || r.evSubtree)

/-- Copies a record of device `source` to EVENT ring `n`: written, or dropped and counted where the ring is full. -/
def eventTo (n source : Nat) (rec : List Word) (s : State) : State :=
  let r := ringOf s n
  let seq := (r.evSeq + 1) % 2 ^ 32
  if r.state = .active ∧ owedSlots s n < r.size - r.occupied then
    (s.modRing n fun r => { r with evSeq := seq, evDropped := 0 }).toRing
      { ring := n, words := rec ++ [wd source, wd r.evSeq, wd r.evDropped, 0, 0, 0, 0, 0] }
  else s.modRing n fun r => { r with evSeq := seq, evDropped := r.evDropped + 1 }

/-- Copies a Tally record to every EVENT ring whose filter it passes (02 R86). -/
def copyEvents (unit sev source : Nat) (below : Bool) (rec : List Word) (s : State) : State :=
  (s.host.rings.filter fun e => eventPasses e.2 unit sev below).foldl (fun s e => eventTo e.1 source rec s) s

end Sys2Proof.Machine
end

