-- ==== Sys2Proof/Machine/Acq.lean ====
section
/-! DEFINITION. The acquisition engine: the signal index, captures, trigger units, histograms and persistence maps (09). -/

namespace Sys2Proof.Machine

/-! ### The signal index (09 R307–R311) -/

/-- The type of an entry (09 R309, R310, R123): 0 BOOL, 1 INT32, 2 UINT32, 3 REAL32, 4 REAL64, 5 TIME64. -/
def entryType (s : State) (i : Nat) : Nat :=
  if 0x3000 ≤ i then (look {} s.acq.index i).userType
  else if 0x10 ≤ i ∧ i < 0x28 then 3
  else if 0x100 ≤ i ∧ i < 0x180 then 1
  else if 0x180 ≤ i ∧ i < 0x1C0 then 0
  else if 0x240 ≤ i ∧ i < 0x280 then 0
  else if 0x280 ≤ i ∧ i < 0x2A0 then 3
  else if 0x2A0 ≤ i ∧ i < 0x2B0 then 1
  else if 0x2B0 ≤ i ∧ i < 0x2C0 then 3
  else if 0x300 ≤ i ∧ i < 0x600 then 4
  else if 0x800 ≤ i ∧ i < 0x2000 then 3
  else 2

/-- PRESENT: the entry is assigned to an item that the variant has (09 R309, R311). -/
def entryPresent (s : State) (i : Nat) : Bool :=
  if 0x3000 ≤ i then i < 0x4000
  else if i < 3 then true
  else if i < 0x100 then 0x10 ≤ i && i < 0x28
  else if i < 0x180 then (i - 0x100) < 8 * converters s
  else if i < 0x2C0 then true
  else if i < 0x300 then false
  else if i < 0x800 then i % 256 < axes s
  else if i < 0x2000 then i % 1024 < loopChannels s
  else if i < 0x2100 then false
  else if i < 0x2200 then (i - 0x2100) < canControllers s
  else if i < 0x2300 then i < 0x2202
  else i == 0x2300 && s.present 13

/-- UNIT of the publisher (09 R354); user entries are published by graph operations. -/
def entryUnit (i : Nat) : Nat :=
  if 0x3000 ≤ i then 3
  else if i < 0x10 then 0
  else if i < 0x100 then 2
  else if i < 0x180 then 7
  else if i < 0x300 then 15
  else if i < 0x800 then 6
  else if i < 0x2000 then 5
  else if i < 0x2100 then 9
  else if i < 0x2200 then 10
  else if i < 0x2300 then 12
  else 13

/-- Words of a value of a type (04 R123). -/
def typeWords (ty : Nat) : Nat := if 4 ≤ ty then 2 else 1

/-- The words of a value. -/
def valueWords (ty v : Nat) : List Word := if 4 ≤ ty then wd2 (v % 2 ^ 64) else [wd v]

/-- A value converted to binary64 (09 R314). -/
def toReal64 (ty v : Nat) : Nat :=
  match ty with
  | 0 => Fmt.b64.ofInt (v % 2 : Nat)
  | 1 => Fmt.b64.ofInt (signed 32 v)
  | 2 => Fmt.b64.ofInt (v % 2 ^ 32 : Nat)
  | 3 => f64of32 v
  | 4 => v
  | _ => Fmt.b64.ofInt (signed 64 v)

/-- The value is a NaN. -/
def valueNan (ty v : Nat) : Bool := (ty == 3 && Fmt.b32.isNan v) || (ty == 4 && Fmt.b64.isNan v)

/-! ### Reductions (09 R313–R315) -/

/-- `a` comes before `b` in the order of MIN: −0 is smaller than +0. -/
def valueLess (ty a b : Nat) : Bool :=
  match ty with
  | 1 => signed 32 a < signed 32 b
  | 5 => signed 64 a < signed 64 b
  | 0 | 2 => a < b
  | 3 => Fmt.b32.lt a b || (Fmt.b32.eq a b && Fmt.b32.signBit a && !Fmt.b32.signBit b)
  | _ => Fmt.b64.lt a b || (Fmt.b64.eq a b && Fmt.b64.signBit a && !Fmt.b64.signBit b)

/-- MIN of an empty interval: the largest value of the type (09 R315). -/
def emptyMin (ty : Nat) : Nat :=
  match ty with
  | 0 => 1 | 1 => 2 ^ 31 - 1 | 2 => 2 ^ 32 - 1 | 3 => Fmt.b32.infinity false | 4 => Fmt.b64.infinity false | _ => 2 ^ 63 - 1

/-- MAX of an empty interval: the smallest value of the type (09 R315). -/
def emptyMax (ty : Nat) : Nat :=
  match ty with
  | 0 => 0 | 1 => 2 ^ 31 | 2 => 0 | 3 => Fmt.b32.infinity true | 4 => Fmt.b64.infinity true | _ => 2 ^ 63

/-- The words of one reduction over the publications `vs` of an interval, `before` being the latest value before it. -/
def reduction (ty : Nat) (vs : List Nat) (before : Nat) (r : Nat) : List Word :=
  let nums := vs.filter fun v => !valueNan ty v
  let reals := nums.map (toReal64 ty)
  let n := Fmt.b64.ofInt (nums.length : Nat)
  let sum := reals.foldl Fmt.b64.add 0
  match r with
  | 0 => valueWords ty (match nums with | [] => emptyMin ty | v :: l => l.foldl (fun a b => if valueLess ty b a then b else a) v)
  | 1 => valueWords ty (match nums with | [] => emptyMax ty | v :: l => l.foldl (fun a b => if valueLess ty a b then b else a) v)
  | 2 => wd2 (if nums.isEmpty then Fmt.b64.quietNan (nanKey 8 ty 0 0) else Fmt.b64.div sum n)
  | 3 => valueWords ty (vs.getLastD before)
  | 4 => wd2 sum
  | 5 => wd2 (if nums.isEmpty then Fmt.b64.quietNan (nanKey 9 ty 0 0)
      else Fmt.b64.sqrt (Fmt.b64.div ((reals.map fun x => Fmt.b64.mul x x).foldl Fmt.b64.add 0) n))
  | _ => [wd (min vs.length (2 ^ 32 - 1))]

/-- The value words of one member over an interval. -/
def memberWords (s : State) (cap : Capture) (ps : List Publication) (e : Nat) : List Word :=
  let ty := entryType s e
  let vs := (ps.filter (·.entry == e)).map (·.value)
  (bitsOf 7 (look {} s.acq.index e).reduce).flatMap (reduction ty vs (look 0 cap.lastVals e))

/-- Words that a member takes in a DATA record (09 R313, R314). -/
def memberSize (s : State) (e : Nat) : Nat :=
  let ty := entryType s e
  ((bitsOf 7 (look {} s.acq.index e).reduce).map fun r =>
    if r = 6 then 1 else if r = 0 ∨ r = 1 ∨ r = 3 then typeWords ty else 2).sum

/-! ### Captures: times and records (09 R316–R322, R340–R346) -/

/-- Capture `c`. -/
def capOf (s : State) (c : Nat) : Capture := look {} s.acq.captures c

/-- Changes capture `c`. -/
def State.modCap (s : State) (c : Nat) (f : Capture → Capture) : State :=
  s.modAcq fun a => { a with captures := upd {} a.captures c f }

/-- Lr in µs (09 R317). -/
def Capture.len (cap : Capture) : Nat := max 1 (cap.recordUs * 2 ^ cap.log2)

/-- RSEQ of the interval that contains a µs of device time (09 R317). -/
def Capture.rseqOf (cap : Capture) (us : Nat) : Nat := us / cap.len * cap.len / max 1 cap.recordUs % 2 ^ 32

/-- The first boundary at or after a time in µs. -/
def Capture.boundary (cap : Capture) (us : Nat) : Nat := (us + cap.len - 1) / cap.len * cap.len

/-- The first boundary after a time in µs. -/
def Capture.nextBoundary (cap : Capture) (us : Nat) : Nat := (us / cap.len + 1) * cap.len

/-- The four header words of a record of `n` words (09 R340). -/
def recordHead (s : State) (c : Nat) (cap : Capture) (type n rseq time : Nat) : List Word :=
  [wd (type + place 4 c + place 8 (flag (integrated s)) + place 9 (flag cap.windowClass) + place 16 n), wd rseq] ++ wd2 time

/-- Member lists packed into parts of at most 4,090 value words (09 R341). -/
def packParts : List (List Word) → List Word → List (List Word)
  | [], cur => [cur]
  | m :: r, cur => if cur.length + m.length ≤ 4090 then packParts r (cur ++ m) else cur :: packParts r m

/-- The parts of a DATA record (09 R341). -/
def dataRecord (s : State) (c : Nat) (cap : Capture) (b mask : Nat) (isPartial loss : Bool) (ps : List Publication) :
    List (List Word) :=
  let parts := packParts (cap.members.map (memberWords s cap ps)) []
  parts.zipIdx.map fun e =>
    recordHead s c cap 1 (6 + e.1.length) (cap.rseqOf b) (b * 1000) ++
      [wd mask, wd (cap.log2 + place 4 (flag isPartial) + place 5 (flag loss) +
        place 6 (flag (e.2 + 1 == parts.length)) + place 8 e.2 + place 16 (min cap.late 65535))] ++ e.1

/-- A GAP record (09 R342). -/
def gapRecord (s : State) (c : Nat) (cap : Capture) (l : Lost) : List Word :=
  recordHead s c cap 2 8 l.rseq l.time ++ wd2 l.lengthNs ++ [wd l.count, wd (l.cause + place 4 l.log2)]

/-- A TRIG record (09 R343). -/
def trigRecord (s : State) (c : Nat) (cap : Capture) (e : TrigEvent) (coinc : Nat) : List Word :=
  recordHead s c cap 3 8 (cap.rseqOf (e.stamp / 1000)) e.stamp ++
    [wd (e.unit + place 8 e.kind), wd coinc] ++ wd2 e.value

/-- A RATE record (09 R344). -/
def rateRecord (s : State) (c : Nat) (cap : Capture) (b old new reason fill : Nat) : List Word :=
  recordHead s c cap 4 6 (b / max 1 cap.recordUs % 2 ^ 32) (b * 1000) ++
    [wd (old + place 4 new + place 8 reason), wd fill]

/-- A STATE record (09 R345). -/
def stateRecord (s : State) (c : Nat) (cap : Capture) (ev time oldTime : Nat) : List Word :=
  recordHead s c cap 5 8 (cap.rseqOf (time / 1000)) time ++
    [wd (ev + place 4 (flag cap.gapPolicy)), wd cap.configId] ++ wd2 oldTime

/-- Stream ring fill in ‰ (09 R323, R337): 1,000 while no STREAM ring of the number exists. -/
def ringFill (s : State) (n : Nat) : Nat :=
  let r := ringOf s n
  if r.state = .absent ∨ r.kind ≠ 3 then 1000 else r.occupied * 1000 / r.size

/-! ### The region of a continuous capture (09 R320, R322, R339) -/

/-- Slots of the region. -/
def Capture.regionSlots (cap : Capture) : Nat := cap.regionSize / 64

/-- Slots that queued records occupy. -/
def Capture.usedSlots (cap : Capture) : Nat := (cap.queue.map (·.slots)).sum

/-- Writes a record's words to a region from slot `i`, wrapping. -/
def State.writeRegion (s : State) (cap : Capture) (i : Nat) (ws : List Word) : State :=
  (slotPieces (0x30000000 + cap.regionBase) cap.regionSlots i (padSlots ws)).foldl (fun s e => s.writeWords e.1 e.2) s

/-- Reads `n` words of a region from slot `i`, wrapping. -/
def readRegion (s : State) (cap : Capture) (i n : Nat) : List Word :=
  (List.range n).map fun k =>
    wd (readWord s (0x30000000 + cap.regionBase + (i * 64 + 4 * k) % max 64 (cap.regionSlots * 64)))

/-- Appends one record to the region's queue. -/
def State.enqueue (s : State) (c : Nat) (rseq time lengthNs : Nat) (ws : List Word) : State :=
  let cap := capOf s c
  let n := max 1 cap.regionSlots
  let q : QueuedRecord :=
    { slot := cap.slotNext % n, slots := slotsOf ws.length, nwords := ws.length, rseq := rseq, time := time
      lengthNs := lengthNs, log2 := cap.log2 }
  (s.writeRegion cap q.slot ws).modCap c fun k => { k with queue := k.queue ++ [q], slotNext := (q.slot + q.slots) % n }

/-- A loss joins the one before it if that has the same cause. -/
def addLoss (l : Lost) : List Lost → List Lost
  | [] => [l]
  | [g] => if g.cause = l.cause then [{ g with lengthNs := g.lengthNs + l.lengthNs, count := g.count + l.count }] else [g, l]
  | g :: r => g :: addLoss l r

/-- Counts records of a capture as lost (09 R339, R353). -/
def State.lose (s : State) (c : Nat) (l : Lost) : State :=
  s.modCap c fun k => { k with lost := addLoss l k.lost, lostCount := satAdd 32 k.lostCount l.count }

/-- The GAP records that a capture owes. -/
def State.enqueueGaps (s : State) (c : Nat) : State :=
  let cap := capOf s c
  let s := cap.lost.foldl (fun s l => s.enqueue c l.rseq l.time 0 (gapRecord s c cap l)) s
  s.modCap c fun k => { k with lost := [], gaps := satAdd 32 k.gaps cap.lost.length }

/-- Queues the parts of one record in the region, after the GAP records owed, or loses it (09 R339). -/
def State.queueRecord (s : State) (c rseq time lengthNs : Nat) (parts : List (List Word)) : State :=
  let cap := capOf s c
  let need := (parts.map fun p => slotsOf p.length).sum + cap.lost.length
  if need ≤ cap.regionSlots - cap.usedSlots then
    parts.foldl (fun s p => s.enqueue c rseq time lengthNs p) (s.enqueueGaps c)
  else s.lose c { rseq := rseq, time := time, lengthNs := lengthNs, count := 1, log2 := cap.log2, cause := 1 }

/-- Writes parts into the stream ring of a capture, while they go in. -/
def putParts (ring : Nat) (dma : Dma) : List (List Word) → State → State × Bool
  | [], s => (s, true)
  | p :: r, s => match ringPut ring p dma s with
    | (s, true) => putParts ring dma r s
    | (s, false) => (s, false)

/-- Writes a record of a window-class capture, in its parts, straight to its stream ring, after the GAP records owed, or loses it
(09 R327). STATE and GAP records of a window-class capture go the same way (log 20). -/
def State.streamRecord (s : State) (c rseq time lengthNs : Nat) (dma : Dma) (parts : List (List Word)) : State × Bool :=
  let cap := capOf s c
  let r := ringOf s cap.ring
  let lose (s : State) : State × Bool :=
    (s.lose c { rseq := rseq, time := time, lengthNs := lengthNs, count := 1, log2 := 0, cause := 1 }, false)
  if r.kind ≠ 3 ∨ r.size - r.occupied < (parts.map fun p => slotsOf p.length).sum + cap.lost.length then lose s
  else
    let s := cap.lost.foldl (fun s l => (ringPut cap.ring (gapRecord s c cap l) dma s).1) s
    let s := s.modCap c fun k => { k with lost := [], gaps := satAdd 32 k.gaps cap.lost.length }
    match putParts cap.ring dma parts s with
    | (s, true) => (s, true)
    | (s, false) => lose s

/-- Writes a STATE record. -/
def State.noteState (s : State) (c ev time oldTime : Nat) : State :=
  let cap := capOf s c
  let ws := stateRecord s c cap ev time oldTime
  if cap.windowClass then
    if cap.ring = 0 then s else (s.streamRecord c (cap.rseqOf (time / 1000)) time 0 .ok [ws]).1
  else s.queueRecord c (cap.rseqOf (time / 1000)) time 0 [ws]

/-! ### Window buffers (09 R324–R328) -/

/-- Value words of the parts of a DATA record, whole members only (09 R341). -/
def packSizes : List Nat → Nat → List Nat
  | [], cur => [cur]
  | m :: r, cur => if cur + m ≤ 4090 then packSizes r (cur + m) else cur :: packSizes r m

/-- The words of the parts of a DATA record of a capture. -/
def partWords (s : State) (cap : Capture) : List Nat := (packSizes (cap.members.map (memberSize s)) 0).map (6 + ·)

/-- Slots per DATA record of a capture (09 R324). -/
def recordSlots (s : State) (cap : Capture) : Nat := ((partWords s cap).map slotsOf).sum

/-- The parts of a DATA record that lies at an address, as address and words each (09 R320, R326). -/
def partsAt : Nat → List Nat → List (Nat × Nat)
  | _, [] => []
  | a, n :: r => (a, n) :: partsAt (a + 64 * slotsOf n) r

/-- BUF in bytes (09 R324). -/
def bufBytes (cap : Capture) : Nat := if cap.nwin = 0 then 0 else cap.regionSize / (64 * cap.nwin) * 64

/-- CAP (09 R324). -/
def capacity (s : State) (cap : Capture) : Nat := (bufBytes cap - 64) / (64 * recordSlots s cap)

/-- The device address of buffer `w`. -/
def bufAddr (cap : Capture) (w : Nat) : Nat := 0x30000000 + cap.regionBase + w * bufBytes cap

/-- The state of buffer `w`. -/
def bufOf (cap : Capture) (w : Nat) : WinBuffer := look {} cap.bufs w

/-- The lowest-numbered FREE buffer. -/
def freeBuffer (cap : Capture) : Option Nat := (List.range cap.nwin).find? fun w => (bufOf cap w).state == .free

/-- An armed capture without a buffer takes the lowest-numbered FREE one, filling it from boundary `b` (09 R325). -/
def State.beginFill (s : State) (c b : Nat) : State :=
  let cap := capOf s c
  if !cap.armed || cap.filling.isSome then s
  else match freeBuffer cap with
    | none => s
    | some w => s.modCap c fun k => { k with
        bufs := put {} k.bufs w { state := .filling }, filling := some w, fillFrom := b, fillOrd := 0 }

/-- A trigger event reaches a window-class capture (09 R325, R332). -/
def acceptTrigger (u stamp : Nat) (cap : Capture) : Capture :=
  let us := stamp / 1000
  let pre : Capture := { cap with ignoredPre := sat32 cap.ignoredPre, deadIgnoredPre := sat32 cap.deadIgnoredPre }
  match cap.window with
  | some w =>
    if w.stamp / 1000 = us then
      if u = w.cause ∨ u ∈ w.coinc then cap else
      { cap with window := some (if u < w.cause then { w with cause := u, coinc := w.coinc ++ [w.cause] }
          else { w with coinc := w.coinc ++ [u] }) }
    else if us < w.endB then
      { cap with ignoredPost := sat32 cap.ignoredPost, window := some { w with ignoredPost := sat32 w.ignoredPost } }
    else { cap with ignoredPre := sat32 cap.ignoredPre, window := some { w with ignoredAfter := sat32 w.ignoredAfter } }
  | none =>
    match cap.filling with
    | none => if cap.armed then { cap with ignoredFull := sat32 cap.ignoredFull } else pre
    | some _ =>
      let b := us / cap.len * cap.len
      if b < cap.fillFrom ∨ (b - cap.fillFrom) / cap.len < cap.pre then pre
      else
        let w : Window := { cause := u, coinc := [], stamp := stamp, endB := b + (cap.post + 1) * cap.len
                            trigOrd := cap.fillOrd + (b - cap.fillFrom) / cap.len, rseq := cap.rseqOf us
                            deadNs := (cap.fillFrom + cap.pre * cap.len) * 1000 - cap.deadFrom
                            ignoredPre := cap.deadIgnoredPre }
        { cap with window := some w }

/-- A running capture has stopped: STATE END and the reply of ACQ.CONTROL STOP (09 R352). -/
def State.endCapture (s : State) (c : Nat) : State :=
  let s := s.noteState c 1 s.ns 0
  let s := s.modCap c fun k => { k with
    running := false, stopAt := none, armed := false, filling := none, window := none, held := [], trigs := []
    bufs := match k.filling with | some w => put {} k.bufs w {} | none => k.bufs }
  s.settle (fun d => d.op == .acqControl && d.data == [c]) fun _ => (stOk, [])

/-- The window is complete: WIN_HEAD is written, the buffer is COMPLETE or SENDING (09 R326, R328, R346). -/
def State.completeWindow (s : State) (c w : Nat) (win : Window) : State :=
  let cap := capOf s c
  let rs := recordSlots s cap
  let k := capacity s cap
  let total := cap.pre + 1 + cap.post
  let first := (win.trigOrd - cap.pre) % max 1 k
  let inBuf := min k total
  let head := recordHead s c cap 6 16 win.rseq win.stamp ++
    [wd (win.cause + place 5 w), wd (cap.windowNo + 1), wd (maskOf win.coinc), wd cap.pre, wd cap.post, wd inBuf,
     wd win.spilled, wd (64 + 64 * rs * first)] ++ wd2 win.deadNs ++ [wd win.ignoredPre, wd win.ignoredPost]
  let addr (i : Nat) : Nat := bufAddr cap w + 64 + 64 * rs * ((first + i) % max 1 k)
  let todo := (bufAddr cap w, 16) :: (List.range inBuf).flatMap fun i => partsAt (addr i) (partWords s cap)
  let s := s.writeWords (bufAddr cap w) head
  let s := s.modCap c fun k => { k with
    windows := sat32 k.windows, windowNo := k.windowNo + 1, window := none, filling := none, armed := k.rearm
    deadFrom := win.endB * 1000, deadIgnoredPre := win.ignoredAfter, lastDeadNs := min win.deadNs (2 ^ 32 - 1)
    bufs := put {} k.bufs w (if k.autoSend then { state := .sending, toSend := todo } else { state := .complete })
    sending := if k.autoSend then k.sending ++ [w] else k.sending }
  s.beginFill c (cap.nextBoundary (usOf s.clock))

/-- A DATA record of a window-class capture goes to the FILLING buffer, or once the buffer holds its first CAP records
to the stream ring; the last of a window completes it (09 R325–R327). -/
def State.windowRecord (s : State) (c b : Nat) (dma : Dma) (parts : List (List Word)) : State :=
  let cap := capOf s c
  match cap.filling with
  | none => s
  | some w =>
    if b < cap.fillFrom then s
    else
      let ord := cap.fillOrd + (b - cap.fillFrom) / cap.len
      let k := capacity s cap
      let spill : Bool := match cap.window with
        | some win => cap.spill && k ≤ ord + cap.pre - win.trigOrd
        | none => false
      let s :=
        if spill then
          match s.streamRecord c (cap.rseqOf b) (b * 1000) (cap.len * 1000) dma parts with
          | (s, true) => s.modCap c fun k => { k with
              spilled := sat32 k.spilled, window := k.window.map fun v => { v with spilled := v.spilled + 1 } }
          | (s, false) => s
        else if k = 0 then s
        else s.writeWords (bufAddr cap w + 64 + 64 * recordSlots s cap * (ord % k)) (parts.flatMap padSlots)
      match (capOf s c).window with
      | some win => if win.trigOrd + cap.post ≤ ord then s.completeWindow c w win else s
      | none => s

/-! ### The end of an interval (09 R318, R331, R336–R339) -/

/-- The capture is in policy GAP (09 R336). -/
def policyGap (s : State) (cap : Capture) : Bool :=
  match cap.overload with
  | 1 => false
  | 2 => true
  | _ => !(s.dev.mode == .run && (s.cyc.commit == .committing || s.cyc.commit == .holding) && !s.cyc.unresolved &&
      cap.settle ≤ s.cyc.settled)

/-- Changes LOG2_DEC at boundary `b`, with a RATE record (09 R337, R338, R344). -/
def State.setRate (s : State) (c b new reason fill : Nat) : State :=
  let cap := capOf s c
  if cap.log2 = new then s
  else
    let s := s.queueRecord c (b / max 1 cap.recordUs % 2 ^ 32) (b * 1000) 0 [rateRecord s c cap b cap.log2 new reason fill]
    s.modCap c fun k => { k with log2 := new }

/-- rate_step (09 R337). -/
def rateStep (c b : Nat) (s : State) : State :=
  let cap := capOf s c
  let fill := ringFill s cap.ring
  if 750 < fill then
    let s := s.modCap c fun k => { k with lowSince := none }
    if cap.log2 < 10 ∧ b % (2 * cap.len) = 0 then s.setRate c b (cap.log2 + 1) 0 fill else s
  else if fill < 250 then
    match cap.lowSince with
    | none => s.modCap c fun k => { k with lowSince := some b }
    | some l =>
      if 1000000 ≤ b - l ∧ cap.decMin < cap.log2 then
        (s.setRate c b (cap.log2 - 1) 1 fill).modCap c fun k => { k with lowSince := some b }
      else s
  else s.modCap c fun k => { k with lowSince := none }

/-- What a continuous capture does at boundary `b` once the DATA record that ends there is queued (09 R336–R338). -/
def boundaryStep (c b : Nat) (s : State) : State :=
  let cap := capOf s c
  let gap := policyGap s cap
  let fill := ringFill s cap.ring
  let s :=
    if gap = cap.gapPolicy then s
    else
      let s := (s.modCap c fun k => { k with gapPolicy := gap, lowSince := none }).noteState c 2 (b * 1000) 0
      s.setRate c b cap.decMin 2 fill
  let s := match (capOf s c).hostRate with
    | some (n, us) =>
      if us < b ∧ b % (max 1 cap.recordUs * 2 ^ n) = 0 then
        (s.setRate c b n 3 fill).modCap c fun k => { k with hostRate := none }
      else s
    | none => s
  if gap then s else rateStep c b s

/-- Trigger events by microsecond: the lowest-numbered is CAUSE, the others are bits of COINC (09 R332). Each mark
stands alone. -/
def trigRecords (s : State) (c : Nat) (cap : Capture) : Nat → List TrigEvent → List (Nat × List Word)
  | 0, _ => []
  | _, [] => []
  | n + 1, e :: r =>
    if e.mark then (e.stamp, trigRecord s c cap e 0) :: trigRecords s c cap n r
    else
      let together (g : TrigEvent) : Bool := !g.mark && g.stamp / 1000 == e.stamp / 1000
      let grp := e :: r.filter together
      let low := grp.foldl (fun a g => if g.unit < a.unit then g else a) e
      let coinc := maskOf ((grp.map (·.unit)).filter (· ≠ low.unit))
      (e.stamp, trigRecord s c cap low coinc) :: trigRecords s c cap n (r.filter fun g => !together g)

/-- The spans closed, with one more. -/
def addSpan (lo hi : Nat) : List (Nat × Nat) → List (Nat × Nat)
  | (a, b) :: r => if b = lo then (a, hi) :: r else (lo, hi) :: (a, b) :: r
  | [] => [(lo, hi)]

/-- Forms the DATA record of the interval [b, b + Lr), cut at `cut` ns where that is given, and moves on. -/
def State.closeInterval (s : State) (c : Nat) (dma : Dma) (cut : Option Nat) : State :=
  let cap := capOf s c
  let b := cap.nextB
  let e := match cut with | some t => t | none => (b + cap.len) * 1000
  let inside (t : Nat) : Bool := b * 1000 ≤ t && t < e
  let ps := cap.held.filter fun p => inside p.stamp
  let evs := cap.trigs.filter fun g => g.stamp < e
  let mask := maskOf ((evs.filter fun g => !g.mark && inside g.stamp).map (·.unit))
  let loss := s.acq.lossOwed.any fun p => inside p.stamp && cap.members.contains p.entry
  let parts := dataRecord s c cap b mask cut.isSome loss ps
  let made := !cap.windowClass || (cap.filling.isSome && cap.fillFrom ≤ b)
  let s := s.modCap c fun k => { k with
    held := k.held.filter fun p => !inside p.stamp
    lastVals := ps.foldl (fun t p => put 0 t p.entry p.value) k.lastVals
    trigs := k.trigs.filter fun g => e ≤ g.stamp
    closed := addSpan (b * 1000) e k.closed
    late := if made then 0 else k.late
    records := if made then sat32 k.records else k.records
    lossRecords := if made ∧ loss then sat32 k.lossRecords else k.lossRecords
    nextB := b + k.len }
  if cap.windowClass then s.windowRecord c b dma parts
  else
    let s := s.queueRecord c (cap.rseqOf b) (b * 1000) (cap.len * 1000) parts
    (trigRecords s c cap evs.length evs).foldl
      (fun s r => s.queueRecord c (cap.rseqOf (r.1 / 1000)) r.1 0 [r.2]) s

/-- Dropped publications that no open interval still contains are forgotten. -/
def State.pruneLoss (s : State) : State :=
  let owed (a : AcqUnit) (p : Publication) : Bool :=
    a.captures.any fun e => e.2.running && e.2.members.contains p.entry && e.2.nextB * 1000 ≤ p.stamp
  s.modAcq fun a => { a with lossOwed := a.lossOwed.filter (owed a) }

/-- A stop that is due takes effect (09 R352): a window in progress completes first. -/
def State.stopIfDue (s : State) (c b : Nat) : State :=
  let cap := capOf s c
  match cap.stopAt with
  | some x => if cap.running ∧ x ≤ b ∧ cap.window.isNone then s.endCapture c else s
  | none => s

/-- INTERVAL_CLOSE (09 R318): the oldest open interval of capture `c` closes at B + Lr + LATE_US. -/
def intervalClose (c : Nat) (dma : Dma) (s : State) : State :=
  let cap := capOf s c
  if !cap.running then s
  else if cap.pausedAt.isSome then s.stopIfDue c (usOf s.clock)
  else
    let b := cap.nextB + cap.len
    if usOf s.clock < b + cap.lateUs then s
    else
      let s := (s.closeInterval c dma none).pruneLoss
      let s := if cap.windowClass then s else boundaryStep c b s
      s.stopIfDue c b

def execIntervalClose (c : Nat) (dma : Dma) (t : Nat) (s : State) : Host.Outcome State Fault Refusal :=
  event (c < 16) t (intervalClose c dma) s

/-- RECORD_COPY (09 R322, R326, R63): the oldest queued record, or the next of a SENDING buffer, goes whole into the
stream ring if it fits. -/
def recordCopy (c : Nat) (dma : Dma) (s : State) : State :=
  let cap := capOf s c
  if (ringOf s cap.ring).kind ≠ 3 then s
  else match cap.queue, cap.sending with
    | q :: _, _ =>
      (match ringPut cap.ring (readRegion s cap q.slot q.nwords) dma s with
      | (s, true) => s.modCap c fun k => { k with queue := k.queue.drop 1 }
      | (s, false) => s)
    | [], w :: _ =>
      (match (bufOf cap w).toSend with
      | [] => s
      | (a, n) :: rest =>
        match ringPut cap.ring (readWords s a n) dma s with
        | (s, false) => s
        | (s, true) =>
          if rest.isEmpty then
            (s.modCap c fun k => { k with bufs := put {} k.bufs w {}, sending := k.sending.drop 1 }).beginFill c
              (cap.nextBoundary (usOf s.clock))
          else s.modCap c fun k => { k with bufs := put {} k.bufs w { state := .sending, toSend := rest } })
    | [], [] => s

def execRecordCopy (c : Nat) (dma : Dma) (t : Nat) (s : State) : Host.Outcome State Fault Refusal :=
  event (c < 16) t (recordCopy c dma) s

/-! ### Trigger units (09 R329–R333) -/

/-- Trigger unit `u`. -/
def trigOf (s : State) (u : Nat) : TrigUnit := look {} s.acq.triggers u

/-- Changes trigger unit `u`. -/
def State.modTrig (s : State) (u : Nat) (f : TrigUnit → TrigUnit) : State :=
  s.modAcq fun a => { a with triggers := upd {} a.triggers u f }

/-- The event of a unit reaches a capture (09 R331). -/
def State.trigCapture (s : State) (u stamp value c : Nat) : State :=
  if (capOf s c).running then
    s.modCap c fun cap =>
      let cap : Capture := { cap with trigs := cap.trigs ++ [{ unit := u, stamp := stamp, kind := (trigOf s u).kind, value := value }] }
      if cap.windowClass then acceptTrigger u stamp cap else cap
  else s

/-- A sweep of a persistence map that runs at `stamp` (09 R335). -/
def Pmap.sweepAt (m : Pmap) (stamp : Nat) : Option Nat :=
  match m.sweep with
  | some t => if (stamp - t) / (max 1 m.colUs * 1000) ≤ 255 then some t else none
  | none => none

/-- Unit `u` fires: its targets, and sweeps of persistence maps (09 R330, R331, R335). -/
def State.fireUnit (s : State) (u stamp value : Nat) : State :=
  let s := s.modTrig u fun k => { k with
    firedUs := if k.firedUs.contains (stamp / 1000) then k.firedUs else stamp / 1000 :: k.firedUs, holdUntil := stamp + k.holdoffUs * 1000 }
  let s := (bitsOf 16 (trigOf s u).targets).foldl (fun s c => s.trigCapture u stamp value c) s
  s.modAcq fun a => { a with pmaps := a.pmaps.map fun e =>
    (e.1, if e.2.enable ∧ ¬ e.2.xy ∧ e.2.trig = u ∧ (e.2.sweepAt stamp).isNone then { e.2 with sweep := some stamp } else e.2) }

/-- The unit is not in its hold-off at `stamp` (09 R330). -/
def TrigUnit.open' (k : TrigUnit) (stamp : Nat) : Bool := k.holdUntil ≤ stamp

/-- Kinds 12 and 13 after a fire of another unit at `stamp` (09 R329, R330): at most one event per microsecond. -/
def State.combine (s : State) (stamp : Nat) : State :=
  (List.range 32).foldl (fun s u =>
    let k := trigOf s u
    let fired (v : Nat) : Bool := (trigOf s v).firedUs.contains (stamp / 1000)
    let members := bitsOf 32 k.mask
    let due := (k.kind == 12 && !members.isEmpty && members.all fired) || (k.kind == 13 && members.any fired)
    if due ∧ ¬ fired u ∧ k.open' stamp then s.fireUnit u stamp 0 else s) s

/-- A unit of kinds 0 to 11 fires. -/
def State.fire (s : State) (u stamp value : Nat) : State := (s.fireUnit u stamp value).combine stamp

/-- Whether a level condition holds for a value (09 R329): kinds 1, 2, 5, 6 and 7. -/
def levelHolds (k : TrigUnit) (real value : Nat) : Bool :=
  match k.kind with
  | 1 => Fmt.b64.lt k.level real
  | 2 => Fmt.b64.lt real k.level
  | 5 => Fmt.b64.le k.level real && Fmt.b64.le real k.level2
  | 6 => Fmt.b64.lt real k.level || Fmt.b64.lt k.level2 real
  | 7 => value % 2 ^ 32 &&& k.mask == k.matchW
  | _ => false

/-- One unit sees a publication of its source (09 R329, R330); `prev` is the entry's previous publication as REAL64.
The condition is followed during the hold-off, in which nothing fires (log 21). -/
def State.watch (s : State) (u stamp value real : Nat) (prev : Option Nat) : State :=
  let k := trigOf s u
  let setReady (b : Bool) (s : State) : State := s.modTrig u fun k => { k with ready := b }
  let edge (beyond reached : Bool) : State :=
    if k.ready ∧ reached then
      let s := setReady false s
      if k.open' stamp then s.fire u stamp value else s
    else if beyond then setReady true s else s
  match k.kind with
  | 1 | 2 | 5 | 6 | 7 =>
    if levelHolds k real value then
      let s := setReady false s
      if k.ready ∧ k.open' stamp then s.fire u stamp value else s
    else setReady true s
  | 3 => edge (Fmt.b64.le real (Fmt.b64.sub k.level k.level2)) (Fmt.b64.le k.level real)
  | 4 => edge (Fmt.b64.le (Fmt.b64.add k.level k.level2) real) (Fmt.b64.le real k.level)
  | 8 =>
    (match prev with
    | some p => if !Fmt.b64.eq p real && k.open' stamp then s.fire u stamp value else s
    | none => s)
  | _ => s

/-- A unit that needs no source fires (kinds 9, 10, 11). -/
def State.fireOpen (s : State) (u stamp : Nat) : State :=
  if (trigOf s u).open' stamp then s.fire u stamp 0 else s

/-- ACQ_TRIG with input 1 (09 R333). -/
def fireProgram (u : Nat) (s : State) : State := if (trigOf s u).kind = 9 then s.fireOpen u s.ns else s

/-- A Tally record is written: units of kind TALLY (09 R329). -/
def triggerTally (_unit code sev : Nat) (s : State) : State :=
  (List.range 32).foldl (fun s u =>
    let k := trigOf s u
    if k.kind = 10 ∧ k.mask % 4 ≤ sev ∧ (k.matchW % 2 ^ 16 = 0xFFFF ∨ k.matchW % 2 ^ 16 = code) then s.fireOpen u s.ns else s) s

/-- A cycle begins: units of kind CYCLE, each once (09 R329). -/
def triggerCycle (cycle : Nat) (s : State) : State :=
  (List.range 32).foldl (fun s u =>
    let k := trigOf s u
    if k.kind = 11 ∧ k.matchW = cycle ∧ ¬ k.spent then (s.modTrig u fun k => { k with spent := true }).fireOpen u s.ns else s) s

/-- ACQ_MARK (09 R333). -/
def acqMark (value : Nat) (s : State) : State :=
  s.modAcq fun a => { a with captures := a.captures.map fun e =>
    (e.1, if e.2.running ∧ ¬ e.2.windowClass then
      { e.2 with trigs := e.2.trigs ++ [{ unit := 0, stamp := s.ns, kind := 15, value := value, mark := true }] } else e.2) }

/-! ### Histograms and persistence maps (09 R334, R335) -/

/-- floor((v − low) / width) of finite binary64 numbers, exactly; an infinity lies beyond every bound. -/
def binOf (v low width : Nat) : Int :=
  match Fmt.b64.decode v, Fmt.b64.decode low, Fmt.b64.decode width with
  | .fin n m e, .fin nl ml el, .fin _ mw ew =>
    let d := exactSum n m e (!nl) ml el
    if ew ≤ d.2 then (d.1 * ((2 ^ (d.2 - ew).toNat : Nat) : Int)).fdiv (mw : Int)
    else d.1.fdiv ((mw * 2 ^ (ew - d.2).toNat : Nat) : Int)
  | .inf n, _, _ => if n then -1 else 2 ^ 32
  | _, _, _ => 0

/-- Adds one to a saturating counter of `n` bytes in capture memory. -/
def State.countAt (s : State) (addr n : Nat) : State := s.writeNat addr n (satAdd (8 * n) (readNat s addr n) 1)

/-- A publication reaches histogram `h` (09 R334). -/
def State.histCount (s : State) (h : Nat) (real : Nat) : State :=
  let e := look {} s.acq.hists h
  if Fmt.b64.isNan real then s.modAcq fun a => { a with hists := upd {} a.hists h fun e => { e with nan := sat32 e.nan } }
  else
    let i := binOf real e.low e.width
    let b := if i < 0 then 0 else if 1022 ≤ i then 1023 else 1 + i.toNat
    s.countAt (0x30700000 + 0x1000 * h + 4 * b) 4

/-- The cell of a map. -/
def cellAddr (m x y : Nat) : Nat := 0x30780000 + 0x20000 * m + 2 * (256 * y + x)

/-- A row or column clamped to 0–255. -/
def clamp255 (i : Int) : Nat := (clampInt 0 255 i).toNat

/-- A publication of Y_SOURCE or X_SOURCE reaches map `m` (09 R335). -/
def State.mapPoint (s : State) (m entry stamp real : Nat) : State :=
  let e := look {} s.acq.pmaps m
  let set (f : Pmap → Pmap) (s : State) : State := s.modAcq fun a => { a with pmaps := upd {} a.pmaps m f }
  let point (x : Nat) (s : State) : State :=
    (s.countAt (cellAddr m x (clamp255 (binOf real e.yLow e.yWidth))) 2) |> set fun e => { e with points := sat32 e.points }
  let s := if e.xy ∧ entry = e.xSource then set (fun e => { e with lastX := (stamp, real) :: e.lastX }) s else s
  if Fmt.b64.isNan real ∨ entry ≠ e.ySource then s
  else
    let e := look {} s.acq.pmaps m
    if e.xy then
      match e.lastX.find? fun x => x.1 ≤ stamp with
      | some x => if Fmt.b64.isNan x.2 then s else point (clamp255 (binOf x.2 e.xLow (f64of32 e.xWidth))) s
      | none => s
    else match e.sweep with
      | none => s
      | some t =>
        let col := (stamp - t) / (max 1 e.colUs * 1000)
        if stamp < t then s
        else if 255 < col then set (fun e => { e with sweep := none }) s
        else point col s

/-- DECAY (09 R335): every non-zero cell of map `m` is decremented, every DECAY_MS milliseconds. -/
def decay (m : Nat) (s : State) : State :=
  let e := look {} s.acq.pmaps m
  let due := e.decayFrom + clocksOfUs (e.decayMs * 1000)
  if e.decayMs = 0 ∨ s.now < due then s
  else
    let s := s.modAcq fun a => { a with pmaps := upd {} a.pmaps m fun e => { e with decayFrom := due } }
    let lo := 0x30780000 + 0x20000 * m
    let cells := ((s.mem.store.filter fun c => lo ≤ c.1 && c.1 < lo + 0x20000).map fun c => c.1 / 2 * 2).eraseDups
    cells.foldl (fun s a => s.writeNat a 2 (readNat s a 2 - 1)) s

def execDecay (m t : Nat) (s : State) : Host.Outcome State Fault Refusal := event (m < 4) t (decay m) s

/-! ### Publications (09 R308, R310, R312, R318) -/

/-- A publication reaches a capture: it is held for its interval, or it comes before that and counts as late where its interval has
closed (09 R315, R318). -/
def Capture.receive (cap : Capture) (p : Publication) : Capture :=
  if !cap.running || !cap.members.contains p.entry then cap
  else if !p.old && cap.pausedAt.isNone && cap.nextB * 1000 ≤ p.stamp then { cap with held := cap.held ++ [p] }
  else
    let cap : Capture := { cap with lastVals := put 0 cap.lastVals p.entry p.value }
    if (if p.old then cap.closedOld else cap.closed).any fun i => i.1 ≤ p.stamp && p.stamp < i.2 then
      { cap with late := cap.late + 1, lateCount := sat32 cap.lateCount }
    else cap

/-- A publication is delivered to the index, captures, engines and trigger units. -/
def deliver (p : Publication) (s : State) : State :=
  let ty := entryType s p.entry
  let old := look {} s.acq.index p.entry
  let real := toReal64 ty p.value
  let s := s.modAcq fun a => { a with
    index := upd {} a.index p.entry fun e => { e with value := p.value, stamp := p.stamp, published := true }
    captures := a.captures.map fun e => (e.1, e.2.receive p) }
  let s := s.acq.hists.foldl (fun s e => if e.2.enable ∧ e.2.source = p.entry then s.histCount e.1 real else s) s
  let prev := if old.published then some (toReal64 ty old.value) else none
  let s := if valueNan ty p.value then s
    else s.acq.triggers.foldl (fun s e =>
      if 1 ≤ e.2.kind ∧ e.2.kind ≤ 8 ∧ e.2.source = p.entry then s.watch e.1 p.stamp p.value real prev else s) s
  -- after the triggers: the publication that begins a sweep is a point of it, in column 0
  s.acq.pmaps.foldl (fun s e =>
    if e.2.enable ∧ (e.2.ySource = p.entry ∨ (e.2.xy ∧ e.2.xSource = p.entry)) then s.mapPoint e.1 p.entry p.stamp real else s) s

/-- PUBLICATION (09 R308, R310): the oldest publication in the ingest queue is delivered; one of a user entry waits
until its microsecond is over, since a second one in it would replace it. -/
def publication (s : State) : State :=
  match extractFirst (fun p => p.entry < 0x3000 || p.stamp / 1000 < usOf s.clock) s.acq.ingest with
  | none => s
  | some (p, rest) => deliver p (s.modAcq fun a => { a with ingest := rest })

def execPublication (t : Nat) (s : State) : Host.Outcome State Fault Refusal := event true t publication s

/-- The microsecond still has room for a user publication (09 R310). -/
def userRoom (s : State) : Bool := s.acq.userUs ≠ usOf s.clock || s.acq.userCount < 64

/-- A user publication at the present instant (09 R310): a second one to the entry in the microsecond replaces the first. -/
def publishUser (entry value : Nat) (s : State) : State :=
  let us := usOf s.clock
  let s := s.modAcq fun a => { a with userUs := us, userCount := if a.userUs = us then a.userCount + 1 else 1 }
  let same (p : Publication) : Bool := p.entry == entry && p.stamp / 1000 == us
  if s.acq.ingest.any same then
    s.modAcq fun a => { a with
      dropped := upd 0 a.dropped entry (satAdd 32 · 1)
      ingest := a.ingest.filter (fun p => !same p) ++ [{ entry := entry, stamp := s.ns, value := value }] }
  else s.publish entry value

/-! ### Time steps, GRAZE and resets (09 R321) -/

/-- Closes every interval of a capture that ends by `us`, with `fuel` at most. -/
def State.closeUntil : Nat → Nat → Nat → State → State
  | 0, _, _, s => s
  | fuel + 1, c, us, s =>
    let cap := capOf s c
    if cap.running ∧ cap.nextB + cap.len ≤ us then closeUntil fuel c us (s.closeInterval c .ok none) else s

/-- The interval in progress of a running capture is written with PARTIAL set, at device time `ns`. -/
def State.cutInterval (s : State) (c ns : Nat) : State :=
  let cap := capOf s c
  let s := State.closeUntil ((ns / 1000 - cap.nextB) / cap.len + 1) c (ns / 1000) s
  if (capOf s c).nextB * 1000 < ns then s.closeInterval c .ok (some ns) else s

/-- The numbers of the running captures. -/
def runningCaptures (s : State) : List Nat := (s.acq.captures.filter fun e => e.2.running && e.2.pausedAt.isNone).map (·.1)

/-- Publications that wait for later intervals come before the interval at `b`, where their stamps do (09 R315). -/
def Capture.pass (cap : Capture) (b : Nat) : Capture :=
  let early := cap.held.filter fun p => p.stamp < b * 1000
  { cap with
    held := cap.held.filter fun p => b * 1000 ≤ p.stamp
    lastVals := early.foldl (fun t p => put 0 t p.entry p.value) cap.lastVals }

/-- The intervals of a capture from `nextB` up to `until` ns are lost, with this cause (09 R321, R342): a window-class capture without
a ring has nowhere to write a GAP record. -/
def Capture.gap (cap : Capture) (until' cause : Nat) : Capture :=
  if cap.nextB * 1000 < until' ∧ ¬ (cap.windowClass ∧ cap.ring = 0) then
    let l : Lost := { rseq := cap.rseqOf cap.nextB, time := cap.nextB * 1000, lengthNs := until' - cap.nextB * 1000
                      count := (until' / 1000 - cap.nextB) / cap.len, log2 := cap.log2, cause := cause }
    { cap with lost := addLoss l cap.lost }
  else cap

/-- Device time is set while GRAZE keeps the captures from running: the gap so far, TIME_SET, new boundaries. -/
def State.setPaused (old : Nat) (s : State) (c : Nat) : State :=
  let s := (s.modCap c fun k => k.gap old 3).noteState c 3 s.ns old
  let b := (capOf s c).nextBoundary (usOf s.clock)
  s.modCap c fun k => { k with nextB := b, startB := b, fillFrom := b, pausedAt := some b, closed := [], closedOld := k.closed, lowSince := none }

/-- Device time has been set from `old` ns to the present (09 R321): PARTIAL records, TIME_SET, new boundaries. -/
def acqTimeSet (old : Nat) (s : State) : State :=
  let paused := (s.acq.captures.filter fun e => e.2.running && e.2.pausedAt.isSome).map (·.1)
  let s := s.modAcq fun a => { a with ingest := a.ingest.map fun p => { p with old := true } }
  let s := paused.foldl (State.setPaused old) s
  (((runningCaptures s).filter fun c => !paused.contains c)).foldl (fun s c =>
    let cap := capOf s c
    let b := cap.nextBoundary (usOf s.clock)
    let s := (s.cutInterval c old).noteState c 3 s.ns old
    let cap := capOf s c
    let ord := cap.fillOrd + (if cap.nextB ≤ cap.fillFrom then 0 else (cap.nextB - cap.fillFrom) / cap.len)
    s.modCap c fun k => { k with
      nextB := b, startB := b, fillFrom := b, fillOrd := ord, lowSince := none, held := [], closed := [], closedOld := k.closed
      lastVals := k.held.foldl (fun t p => put 0 t p.entry p.value) k.lastVals
      window := k.window.map fun w => { w with endB := b + (w.trigOrd + k.post + 1 - ord) * k.len } }) s

/-- Entry to GRAZE: the interval in progress is written with PARTIAL set. -/
def acqPause (s : State) : State :=
  (runningCaptures s).foldl (fun s c =>
    let s := s.cutInterval c s.ns
    s.modCap c fun k => { k with
      pausedAt := some k.nextB, held := [], lastVals := k.held.foldl (fun t p => put 0 t p.entry p.value) k.lastVals }) s

/-- The GAP records that a window-class capture owes, where its ring has room (log 20). -/
def State.streamGaps (s : State) (c : Nat) : State :=
  let cap := capOf s c
  let r := ringOf s cap.ring
  if r.kind ≠ 3 ∨ r.size - r.occupied < cap.lost.length then s
  else
    let s := cap.lost.foldl (fun s l => (ringPut cap.ring (gapRecord s c cap l) .ok s).1) s
    s.modCap c fun k => { k with lost := [], gaps := satAdd 32 k.gaps cap.lost.length }

/-- Intervals from `nextB` on are lost up to the next boundary, with this cause (09 R321, R342). -/
def State.skipIntervals (s : State) (c cause : Nat) : State :=
  let cap := capOf s c
  let b := cap.nextBoundary (usOf s.clock)
  let s := s.modCap c fun k => { (k.gap (b * 1000) cause).pass b with
    nextB := b, startB := b, pausedAt := none
    fillOrd := k.fillOrd + (if k.nextB ≤ k.fillFrom then 0 else (k.nextB - k.fillFrom) / k.len), fillFrom := b
    window := k.window.map fun w => { w with endB := w.endB + (b - k.nextB) } }
  if cap.windowClass ∧ cap.ring ≠ 0 then s.streamGaps c else s

/-- Return from GRAZE: a GAP record of cause GRAZE will cover the intervals in between. -/
def acqUnpause (s : State) : State :=
  (s.acq.captures.filter fun e => e.2.pausedAt.isSome).foldl (fun s e => s.skipIntervals e.1 3) s

/-- A reset that ended in a resume: the first record is preceded by a GAP record of cause RESET. -/
def acqResumed (s : State) : State := (runningCaptures s).foldl (fun s c => s.skipIntervals c 2) s

/-- A lasting double error in capture memory (16 R565): the record that holds the word is lost, and a GAP record of
cause MEMORY takes its place in the queue (log 22). -/
def captureMemoryFault (addr : Nat) (s : State) : State :=
  s.acq.captures.foldl (fun s e =>
    let cap := e.2
    let lo := 0x30000000 + cap.regionBase
    let n := max 1 cap.regionSlots
    if addr < lo ∨ lo + cap.regionSize ≤ addr then s
    else
      let slot := (addr - lo) / 64
      let hit (q : QueuedRecord) : Bool := (slot + n - q.slot) % n < q.slots
      match cap.queue.find? hit with
      | none => s
      | some q =>
        let g := gapRecord s e.1 cap
          { rseq := q.rseq, time := q.time, lengthNs := q.lengthNs, count := 1, log2 := q.log2, cause := 4 }
        (s.writeRegion cap q.slot g).modCap e.1 fun k => { k with
          gaps := sat32 k.gaps, lostCount := sat32 k.lostCount
          queue := k.queue.map fun r => if hit r then { r with nwords := 8 } else r }) s

/-! ### Commands (09 R347–R354) -/

/-- ACQ.SIGNAL_CONFIG (09 R348). -/
def cmdAcqSignalConfig (p : Packet) (s : State) : State × Verdict :=
  let lo := field (p.w 0) 0 14; let hi := field (p.w 0) 16 14
  let red := field (p.w 1) 0 7; let ty := field (p.w 1) 8 3
  let inRange (e : Nat) : Bool := lo ≤ e && e ≤ hi
  let busy := s.acq.captures.any fun c => c.2.running && c.2.members.any inRange
  checked
    [(p.len ≠ 2, stBadLength),
     (hi < lo || popCount 7 red == 0 || 4 < popCount 7 red || reservedSet (p.w 0) 0xC000C000 ||
        reservedSet (p.w 1) 0xFFFFF880 || 5 < ty || (ty ≠ 0 && lo < 0x3000) ||
        !(List.range (hi + 1 - lo)).all fun i => entryPresent s (lo + i), stRange),
     (busy, stAqRunning)] s
    (let set (k : Nat) (e : IndexEntry) : IndexEntry :=
       if 0x3000 ≤ k then { e with reduce := red, userType := ty } else { e with reduce := red }
     (s.modAcq (fun a => { a with index := updAll {} a.index ((List.range (hi + 1 - lo)).map (lo + ·)) set }), .done stOk []))

def execAcqSignalConfig (p : Packet) (s : State) : Host.Outcome State Fault Refusal :=
  command .acqSignalConfig cmdAcqSignalConfig p s

/-- The region of `cap` keeps to R319 and holds two records. -/
def regionOk (s : State) (c : Nat) (cap : Capture) : Bool :=
  cap.regionBase % 64 == 0 && cap.regionSize % 64 == 0 && cap.regionBase + cap.regionSize ≤ 0x700000 &&
  2 * recordSlots s cap ≤ cap.regionSlots &&
  s.acq.captures.all fun e => e.1 == c || !e.2.configured ||
    cap.regionBase + cap.regionSize ≤ e.2.regionBase || e.2.regionBase + e.2.regionSize ≤ cap.regionBase

/-- RING names an existing STREAM ring that serves no other capture (09 R323, R347). -/
def captureRingOk (s : State) (c n : Nat) : Bool :=
  (ringOf s n).state ≠ .absent && (ringOf s n).kind == 3 &&
  !s.acq.captures.any fun e => e.1 ≠ c && e.2.streams && e.2.ring == n

/-- The member lists keep to R316. -/
def membersOk (s : State) (c : Nat) (cap : Capture) : Bool :=
  cap.members.eraseDups.length == cap.members.length &&
  ((s.acq.captures.filter fun e => e.1 ≠ c).map fun e => e.2.members.length).sum + cap.members.length ≤ 16384

/-- The window fits its buffer (09 R327). -/
def windowFits (s : State) (cap : Capture) : Bool :=
  !cap.windowClass || (cap.pre + 1 ≤ capacity s cap && (cap.spill || cap.pre + 1 + cap.post ≤ capacity s cap))

/-- ACQ.STREAM_CONFIG and ACQ.WINDOW_CONFIG (09 R349). -/
def captureConfig (win : Bool) (p : Packet) (s : State) : State × Verdict :=
  let fixed := if win then 10 else 7
  let w := p.w
  let c := field (w 0) 0 4
  let append := bit (w 0) 4
  let old := capOf s c
  let mems := (p.params.drop fixed).map (·.toNat)
  let new : Capture :=
    if append then { old with members := old.members ++ mems }
    else
      { configured := true, windowClass := win, recordUs := field (w 1) 0 16, decMin := field (w 1) 16 4
        overload := field (w 1) 20 2, ring := field (w 2) 0 6, regionBase := w 3, regionSize := w 4
        settle := field (w 5) 0 16, lateUs := field (w 5) 16 16, configId := w 6, log2 := field (w 1) 16 4
        pre := if win then w 7 else 0, post := if win then w 8 else 0, nwin := if win then field (w 9) 0 7 else 0
        spill := win && bit (w 9) 7, autoSend := win && bit (w 9) 8, rearm := win && bit (w 9) 9, members := mems }
  let badFields :=
    if append then ((p.params.take fixed).drop 1).any (· ≠ 0)
    else
      new.recordUs == 0 || 10 < new.decMin || 2 < new.overload || reservedSet (w 1) 0xFFC00000 ||
      reservedSet (w 2) 0xFFFFFFC0 || 20000 < new.lateUs || new.ring == 1 || (!win && new.ring == 0) ||
      (win && (new.overload ≠ 0 || new.decMin ≠ 0 || new.settle ≠ 0 || new.nwin == 0 || 64 < new.nwin || reservedSet (w 9) 0xFFFFFC00))
  checked
    [(p.len < fixed, stBadLength),
     (reservedSet (w 0) 0xFFFFFFE0 || badFields || mems.any (fun m => !entryPresent s m), stRange),
     (append && !(old.configured && old.windowClass == win), stAqNotConfigured),
     (old.running, stAqRunning),
     (!regionOk s c new, stAqRegion),
     ((new.ring ≠ 0 || new.spill) && !captureRingOk s c new.ring, stAqRing),
     (!membersOk s c new, stAqMembers),
     (!windowFits s new, stRange)] s
    (s.modCap c (fun _ => new), .done stOk [])

/-- ACQ.STREAM_CONFIG (09 R349). -/
def cmdAcqStreamConfig (p : Packet) (s : State) : State × Verdict := captureConfig false p s

def execAcqStreamConfig (p : Packet) (s : State) : Host.Outcome State Fault Refusal :=
  command .acqStreamConfig cmdAcqStreamConfig p s

/-- ACQ.WINDOW_CONFIG (09 R349). -/
def cmdAcqWindowConfig (p : Packet) (s : State) : State × Verdict := captureConfig true p s

def execAcqWindowConfig (p : Packet) (s : State) : Host.Outcome State Fault Refusal :=
  command .acqWindowConfig cmdAcqWindowConfig p s

/-- ACQ.TRIGGER_CONFIG (09 R350). -/
def cmdAcqTriggerConfig (p : Packet) (s : State) : State × Verdict :=
  let u := field (p.w 0) 0 5; let kind := field (p.w 0) 5 4
  let source := field (p.w 1) 0 14
  let level := p.w 2 + place 32 (p.w 3); let level2 := p.w 4 + place 32 (p.w 5)
  let compound := kind == 12 || kind == 13
  let isCompound (v : Nat) : Bool := (trigOf s v).kind == 12 || (trigOf s v).kind == 13
  let named := (List.range 32).any fun v => v ≠ u && isCompound v && bit (trigOf s v).mask u
  let nested := compound && (named || (bitsOf 32 (p.w 6)).any fun v => v == u || isCompound v)
  checked
    [(p.len ≠ 9, stBadLength),
     (13 < kind || reservedSet (p.w 0) 0xFFFFFE00 || reservedSet (p.w 1) 0xFFFFC000 || !Fmt.b64.isFinite level ||
        !Fmt.b64.isFinite level2 || ((kind == 3 || kind == 4) && Fmt.b64.lt level2 0) ||
        (1 ≤ kind && kind ≤ 8 && !entryPresent s source) || nested, stRange)] s
    (s.modTrig u (fun _ =>
        { kind := kind, source := source, level := level, level2 := level2, mask := p.w 6, matchW := p.w 7
          targets := field (p.w 8) 0 16, holdoffUs := field (p.w 8) 16 16, ready := kind ≠ 3 && kind ≠ 4 }), .done stOk [])

def execAcqTriggerConfig (p : Packet) (s : State) : Host.Outcome State Fault Refusal :=
  command .acqTriggerConfig cmdAcqTriggerConfig p s

/-- ACQ.HIST_CONFIG (09 R351). -/
def cmdAcqHistConfig (p : Packet) (s : State) : State × Verdict :=
  let h := field (p.w 0) 0 4; let en := bit (p.w 0) 4; let clear := bit (p.w 0) 5
  let source := field (p.w 1) 0 14
  let low := p.w 2 + place 32 (p.w 3); let width := p.w 4 + place 32 (p.w 5)
  let old := look {} s.acq.hists h
  let change := old.source ≠ source || old.low ≠ low || old.width ≠ width
  let base := 0x30700000 + 0x1000 * h
  checked
    [(p.len ≠ 6, stBadLength),
     (reservedSet (p.w 0) 0xFFFFFFC0 || reservedSet (p.w 1) 0xFFFFC000 || !entryPresent s source ||
        !Fmt.b64.isFinite low || !Fmt.b64.isFinite width || !Fmt.b64.lt 0 width, stRange),
     (old.enable && en && change, stAqRunning)] s
    (let s := if clear then s.modMem fun m => { m with store := clearRange base (base + 0x1000) m.store } else s
     let new : Hist := { enable := en, source := source, low := low, width := width, nan := if clear then 0 else old.nan }
     (s.modAcq fun a => { a with hists := put {} a.hists h new }, .done stOk []))

def execAcqHistConfig (p : Packet) (s : State) : Host.Outcome State Fault Refusal :=
  command .acqHistConfig cmdAcqHistConfig p s

/-- ACQ.PMAP_CONFIG (09 R351). -/
def cmdAcqPmapConfig (p : Packet) (s : State) : State × Verdict :=
  let m := field (p.w 0) 0 2; let en := bit (p.w 0) 2; let clear := bit (p.w 0) 3; let xy := bit (p.w 0) 4
  let old := look {} s.acq.pmaps m
  let new : Pmap :=
    { enable := en, xy := xy, trig := field (p.w 0) 5 5, ySource := field (p.w 1) 0 14, xSource := field (p.w 1) 16 14
      yLow := p.w 2 + place 32 (p.w 3), yWidth := p.w 4 + place 32 (p.w 5)
      xLow := if xy then p.w 6 + place 32 (p.w 7) else 0, colUs := if xy then 0 else p.w 6, xWidth := p.w 8
      decayMs := field (p.w 9) 0 16, points := if clear then 0 else old.points, decayFrom := s.now }
  let same : Pmap := { old with
    enable := new.enable, decayMs := new.decayMs, points := new.points, sweep := none, lastX := [], decayFrom := s.now }
  let base := 0x30780000 + 0x20000 * m
  let badX :=
    if xy then !entryPresent s new.xSource || !Fmt.b64.isFinite new.xLow || !Fmt.b32.isFinite new.xWidth || !Fmt.b32.lt 0 new.xWidth
    else new.xSource ≠ 0 || new.colUs == 0 || 65535 < new.colUs || p.w 7 ≠ 0 || new.xWidth ≠ 0
  checked
    [(p.len ≠ 10, stBadLength),
     (reservedSet (p.w 0) 0xFFFFFC00 || reservedSet (p.w 1) 0xC000C000 || reservedSet (p.w 9) 0xFFFF0000 ||
        !entryPresent s new.ySource || !Fmt.b64.isFinite new.yLow || !Fmt.b64.isFinite new.yWidth ||
        !Fmt.b64.lt 0 new.yWidth || badX, stRange),
     (old.enable && en && same ≠ new, stAqRunning)] s
    (let s := if clear then s.modMem fun k => { k with store := clearRange base (base + 0x20000) k.store } else s
     let new : Pmap := if same = new ∧ old.enable then { new with sweep := old.sweep, lastX := old.lastX } else new
     let new : Pmap := if old.decayMs = new.decayMs then { new with decayFrom := old.decayFrom } else new
     (s.modAcq fun a => { a with pmaps := put {} a.pmaps m new }, .done stOk []))

def execAcqPmapConfig (p : Packet) (s : State) : Host.Outcome State Fault Refusal :=
  command .acqPmapConfig cmdAcqPmapConfig p s

/-- The values of a capture's members before its first interval. -/
def startValues (s : State) (cap : Capture) : Tab Nat :=
  cap.members.foldl (fun t e => put 0 t e (look {} s.acq.index e).value) []

/-- START (09 R352). -/
def startCapture (c : Nat) (s : State) : State :=
  let cap := capOf s c
  let now := (s.clock + 799) / 800
  let cap : Capture := { cap with log2 := cap.decMin }
  let b := cap.boundary now
  let s := s.modCap c fun k => { k with
    running := true, log2 := k.decMin, startB := b, nextB := b, held := [], trigs := [], late := 0, lowSince := none
    hostRate := none, gapPolicy := policyGap s cap, lastVals := startValues s cap, stopAt := none, pausedAt := none
    closed := [], closedOld := []
    armed := k.windowClass, deadFrom := s.ns, deadIgnoredPre := 0, windowNo := 0 }
  (s.noteState c 0 s.ns 0).beginFill c b

/-- A refusal of an ACQ.CONTROL action, beyond its fields (09 R347, R352). -/
def acqActionBad (s : State) (c action buffer : Nat) : Bool :=
  let cap := capOf s c
  match action with
  | 0 => cap.running
  | 1 => !cap.running || cap.stopAt.isSome
  | 2 => !cap.running || !cap.windowClass || cap.armed
  | 3 => !cap.windowClass || (bufOf cap buffer).state ≠ .complete
  | _ => cap.windowClass || !cap.running

/-- ACQ.CONTROL (09 R352). -/
def cmdAcqControl (p : Packet) (s : State) : State × Verdict :=
  let w := p.w 0
  let c := field w 0 4; let action := field w 4 3; let buffer := field w 8 6; let rate := field w 14 4
  let cap := capOf s c
  let graze := s.dev.mode == .graze && (action == 0 || action == 2)
  checked
    [(p.len ≠ 1, stBadLength),
     (4 < action || reservedSet w 0xFFFC0080 ||
        (action == 4 && cap.configured && (rate < cap.decMin || 10 < rate)), stRange),
     (graze, stBadMode),
     (!cap.configured, stAqNotConfigured),
     (acqActionBad s c action buffer, stAqState),
     (action == 0 && (cap.ring ≠ 0 || !cap.windowClass) && s.acq.captures.any (fun e => e.1 ≠ c && e.2.streams && e.2.ring == cap.ring), stAqRing)] s
    (match action with
    | 0 => (startCapture c s, .done stOk [])
    | 1 =>
      let s := s.modCap c fun k => { k with
        stopAt := some (k.nextBoundary (usOf s.clock))
        filling := if k.window.isSome then k.filling else none
        armed := k.armed && k.window.isSome, rearm := k.rearm
        bufs := match k.filling with | some w => if k.window.isSome then k.bufs else put {} k.bufs w {} | none => k.bufs }
      s.defer .acqControl p [c]
    | 2 =>
      let s := s.modCap c fun k => { k with armed := true, deadFrom := s.ns, deadIgnoredPre := 0 }
      (s.beginFill c (cap.nextBoundary (usOf s.clock)), .done stOk [])
    | 3 =>
      let s := s.modCap c fun k => { k with bufs := put {} k.bufs buffer {} }
      (s.beginFill c (cap.nextBoundary (usOf s.clock)), .done stOk [])
    | _ => (s.modCap c fun k => { k with hostRate := some (rate, usOf s.clock) }, .done stOk []))

def execAcqControl (p : Packet) (s : State) : Host.Outcome State Fault Refusal :=
  command .acqControl cmdAcqControl p s

/-- The words of ACQ.STATUS for a capture (09 R353). -/
def captureStatus (s : State) (cap : Capture) : List Word :=
  let st := if !cap.configured then 0 else if cap.running then 2 else 1
  let w0 := st + place 2 (flag cap.windowClass) + place 3 (flag cap.gapPolicy) + place 4 cap.log2
    + place 8 (if cap.ring = 0 then 0 else ringFill s cap.ring) + place 18 (flag cap.armed)
  let bufWord (i : Nat) : Word := wd ((List.range 16).map fun k => place (2 * k) (bufOf cap (16 * i + k)).state.num).sum
  [wd w0, wd cap.records, wd cap.gaps, wd cap.lostCount, wd cap.lateCount, wd cap.lossRecords, wd cap.windows,
   wd cap.ignoredPre, wd cap.ignoredPost, wd cap.ignoredFull, wd cap.spilled, bufWord 0, bufWord 1, bufWord 2, bufWord 3,
   wd cap.lastDeadNs]

/-- ACQ.STATUS (09 R353). -/
def cmdAcqStatus (p : Packet) (s : State) : State × Verdict :=
  let w := p.w 0
  checked
    [(p.len ≠ 1, stBadLength), (reservedSet w 0xFFFFFFE0, stRange)] s
    (s, .done stOk (if bit w 0 then
        ((List.range 16).map fun h => wd (look {} s.acq.hists h).nan) ++ (List.range 4).map fun m => wd (look {} s.acq.pmaps m).points
      else captureStatus s (capOf s (field w 1 4))))

def execAcqStatus (p : Packet) (s : State) : Host.Outcome State Fault Refusal :=
  command .acqStatus cmdAcqStatus p s

/-- MEMBERSHIPS of an entry (09 R354). -/
def memberships (s : State) (e : Nat) : Nat :=
  (s.acq.captures.filter fun c => c.2.members.contains e).length +
  (s.acq.hists.filter fun h => h.2.enable && h.2.source == e).length +
  (s.acq.pmaps.filter fun m => m.2.enable && (m.2.ySource == e || (m.2.xy && m.2.xSource == e))).length

/-- The six words of an entry (09 R354). -/
def indexWords (s : State) (e : Nat) : List Word :=
  let k := look {} s.acq.index e
  let ty := entryType s e
  [wd (ty + place 3 (flag (entryPresent s e)) + place 4 (flag k.published) + place 8 k.reduce + place 16 (entryUnit e)),
   wd (min (memberships s e) 65535 + place 16 (min (look 0 s.acq.dropped e) 65535))] ++ wd2 k.stamp ++
  [wd k.value, if 4 ≤ ty then wd (k.value / 2 ^ 32) else 0]

/-- ACQ.INDEX_READ (09 R354). -/
def cmdAcqIndexRead (p : Packet) (s : State) : State × Verdict :=
  let w := p.w 0
  let first := field w 0 14; let count := field w 16 12
  checked
    [(p.len ≠ 1, stBadLength),
     (count == 0 || 682 < count || 16384 < first + count || reservedSet w 0xF000C000, stRange)] s
    (s, .done stOk ((List.range count).flatMap fun i => indexWords s (first + i)))

def execAcqIndexRead (p : Packet) (s : State) : Host.Outcome State Fault Refusal :=
  command .acqIndexRead cmdAcqIndexRead p s

end Sys2Proof.Machine
end

