-- ==== Sys2Proof/Machine/LoopBase.lean ====
section
/-! DEFINITION. Loop memory: configuration, banks, state words and repetitive tables (06 R203–R206). -/

namespace Sys2Proof.Machine

/-- The block of channel `c` (R203). -/
def loopAddr (c : Nat) : Nat := 0x31000000 + 0x800 * c

/-- Configuration word `i`, bank word `i` and state word `i` of a channel. -/
def cfgW (s : State) (c i : Nat) : Nat := readWord s (loopAddr c + 4 * i)
def bankBase (c : Nat) (b : Bool) : Nat := loopAddr c + (if b then 0x180 else 0x080)
def bankW (s : State) (c : Nat) (b : Bool) (i : Nat) : Nat := readWord s (bankBase c b + 4 * i)
def stW (s : State) (c i : Nat) : Nat := readWord s (loopAddr c + 0x280 + 4 * i)

/-- Writes state word `i`. -/
def State.setStW (s : State) (c i v : Nat) : State := s.writeWord (loopAddr c + 0x280 + 4 * i) v

/-- Fields of the configuration (R204). -/
def loopEnabled (s : State) (c : Nat) : Bool := bit (cfgW s c 0) 14
def loopPeriod (s : State) (c : Nat) : Nat := field (cfgW s c 0) 0 14
def loopProc (s : State) (c : Nat) : Nat := field (cfgW s c 0) 15 3
def loopPrio (s : State) (c : Nat) : Nat := field (cfgW s c 0) 19 2
def hasTable (s : State) (c : Nat) : Bool := bit (cfgW s c 12) 7
def tableOf (s : State) (c : Nat) : Nat := field (cfgW s c 12) 0 7

/-- Fields of state word 13 (R206). -/
def activeB (s : State) (c : Nat) : Bool := bit (stW s c 13) 3
def loopArmed (s : State) (c : Nat) : Bool := bit (stW s c 13) 4
def repState (s : State) (c : Nat) : Nat := field (stW s c 13) 10 3

/-- Replaces the `n` bits from `lo` of a word. -/
def withField (w lo n v : Nat) : Nat := w - place lo (field w lo n) + place lo (v % 2 ^ n)

/-- Replaces a field of state word 13. -/
def State.setStatus (s : State) (c lo n v : Nat) : State := s.setStW c 13 (withField (stW s c 13) lo n v)

/-- The address of a point of a repetitive table. -/
def pointAddr (t j : Nat) : Nat := 0x31200000 + 0x4000 * t + 4 * j

/-- The bits of the loop memory word at `a` that the maps list (R203–R206; 00 R7, R10): none of a block or table beyond the variant's
count, of a reserved word or of a reserved field. Reserved bits of bank words stand, for LOOP.BANK_ARM to check them (R208). -/
def loopBits (s : State) (a : Nat) : Nat :=
  let c := (a - 0x31000000) / 0x800
  let i := (a - 0x31000000) % 0x800 / 4
  if 0x31200000 ≤ a then (if repChannels s = 0 then 0 else 0xFFFFFFFF)
  else if loopChannels s ≤ c then 0
  else if i < 32 then (if i = 0 then 0xFF7FFFFF else if i = 12 then 0x1FFFF else if i < 14 then 0xFFFFFFFF else 0)
  else if i < 160 then (if (i - 32) % 64 < 30 then 0xFFFFFFFF else 0)
  else if i < 183 then (if i = 173 then 0x00FF1FFF else if i = 175 then 0x1FFF else 0xFFFFFFFF)
  else 0

/-- The same for `n` bytes from `a`. -/
def loopMask (s : State) (a n : Nat) : Nat :=
  natOfBytes ((List.range n).map fun j => ((loopBits s ((a + j) / 4 * 4) / 2 ^ (8 * ((a + j) % 4)) % 256 : Nat) : Byte))

/-- The location belongs to a channel or a table that the variant lacks (R203). -/
def loopAbsent (s : State) (a : Nat) : Bool :=
  if 0x31200000 ≤ a then repChannels s == 0 else loopChannels s ≤ (a - 0x31000000) / 0x800

/-- A first access to such a location leaves the unit's Tally record (00 R7). -/
def State.noteLoop (s : State) (a : Nat) : State := if loopAbsent s a then s.noteAbsent 5 else s

/-- The enabled channels. -/
def enabledLoops (s : State) : List Nat := (List.range (loopChannels s)).filter (loopEnabled s)

/-- An enabled channel drives PWM output `n` (R195). -/
def loopOwnsPwm (s : State) (n : Nat) : Bool :=
  (enabledLoops s).any fun c => field (cfgW s c 7) 0 4 == 1 && field (cfgW s c 7) 4 5 == n

def loopOf (s : State) (c : Nat) : LoopCh := look {} s.loop.ch c
def State.modLoopCh (s : State) (c : Nat) (f : LoopCh → LoopCh) : State := s.modLoop fun u => { u with ch := upd {} u.ch c f }

end Sys2Proof.Machine
end

