-- ==== Sys2Proof/Machine/Dio.lean ====
section
/-! DEFINITION. The DIO unit: digital inputs and outputs, PWM outputs, encoder interfaces (08 R281–R292, R301–R306). -/

namespace Sys2Proof.Machine

def dinOf (s : State) (n : Nat) : Din := look {} s.dio.dins n
def doutOf (s : State) (n : Nat) : Dout := look {} s.dio.douts n
def pwmOf (s : State) (n : Nat) : Pwm := look {} s.dio.pwms n

def State.modDin (s : State) (n : Nat) (f : Din → Din) : State := s.modDio fun d => { d with dins := upd {} d.dins n f }
def State.modDout (s : State) (n : Nat) (f : Dout → Dout) : State := s.modDio fun d => { d with douts := upd {} d.douts n f }
def State.modPwm (s : State) (n : Nat) (f : Pwm → Pwm) : State := s.modDio fun d => { d with pwms := upd {} d.pwms n f }

/-! ### Digital inputs (08 R281–R284) -/

/-- The synchronised logical level, without the filter (18 R607). -/
def rawLevel (s : State) (n : Nat) : Bool := (dinOf s n).raw != (dinOf s n).activeLow

/-- The filtered level follows once the synchronised level has held for FILTER × 100 ns (R281), at the instant at which it has. -/
def Din.settle (d : Din) (now : Nat) : Din :=
  let due := d.rawSince + d.filter * 80
  if d.filtered ≠ d.raw ∧ due ≤ now then Din.count { d with filtered := d.raw } d.logical due else d

/-- The synchronised level is `level` from now on. -/
def Din.sense (d : Din) (level : Bool) (now : Nat) : Din :=
  let d := d.settle now
  (if d.raw = level then d else { d with raw := level, rawSince := now }).settle now

/-- The level changes while TIMING, which holds the unit, is not ON: nothing is filtered or counted, and the level found on wake is taken
(18 R597–R599; log 15). -/
def Din.asleep (d : Din) (level : Bool) (now : Nat) : Din := { d with raw := level, rawSince := now }

/-- The level of input `n` changes. -/
def inputEdge (n : Nat) (level : Bool) (s : State) : State :=
  s.modDin n fun d => if domainOn s 4 then d.sense level s.now else d.asleep level s.now

/-- Every filter is carried to the present instant. -/
def settleDins (s : State) : State := s.modDio fun u => { u with dins := updAll {} u.dins (u.dins.map (·.1)) fun _ d => d.settle s.now }

/-- INPUT_EDGE (R281, R282): the synchronised level of input `n` is `level`. -/
def execInputEdge (n : Nat) (level : Bool) (t : Nat) (s : State) : Host.Outcome State Fault Refusal :=
  event (n < 64) t (inputEdge n level) s

/-- The level has been 1 for STUCK_MS without a break (R283). -/
def Din.isStuck (d : Din) (now : Nat) : Bool :=
  d.stuckMs ≠ 0 && d.logical && d.oneSince + clocksOfUs (d.stuckMs * 1000) ≤ now

/-- STUCK (R283): sets the bit and writes a record of severity INFO. -/
def stuck (n : Nat) (s : State) : State :=
  let s := settleDins s
  let d := dinOf s n
  if d.isStuck s.now ∧ !d.stuck then (s.modDin n fun d => { d with stuck := true }).recordOpen 15 3 0 else s

def execStuck (n t : Nat) (s : State) : Host.Outcome State Fault Refusal := event (n < 64) t (stuck n) s

/-- One input at the input instant (R282–R284): CHATTER, the end of STUCK, the image and the three signals. -/
def latchDin (s : State) (n : Nat) : State :=
  let d := dinOf s n
  let moved := (d.rise + 2 ^ 32 - d.imgRise) % 2 ^ 32 + (d.fall + 2 ^ 32 - d.imgFall) % 2 ^ 32
  let ch := d.chatterMax ≠ 0 && d.chatterMax < moved
  let s := if ch ∧ !d.chatter then s.recordOpen 15 4 0 else s
  let s := s.modDin n fun d => { d with
    chatter := ch, stuck := d.stuck && d.isStuck s.now, imgLevel := d.logical, imgRise := d.rise, imgFall := d.fall }
  ((s.publish (0x180 + n) (flag d.logical)).publish (0x1C0 + n) d.rise).publish (0x200 + n) d.fall

/-! ### Digital outputs (08 R285–R287) -/

/-- What an output drives for a value or for its substitute (R285). -/
def Dout.wanted (d : Dout) (substitute : Bool) : Drive :=
  if !d.configured || d.fault then .highZ
  else
    let v : Drive := if substitute then d.substNow else d.value
    if d.openDrain ∧ v = .high then .highZ else v

/-- The pins of DOUT, PWM, pulse axes and CAN transmit are high-impedance whatever their units hold: after RESET_N until
the configuration is replayed (19 R631, 03 R94), and on the half of a pair without the crook (15 R522). -/
def outputsHighZ (s : State) : Bool :=
  (s.boot.resetCause == 1 && !s.boot.replayed) || s.boot.phase == .pinReset || !s.acts || s.pair.quiet

/-- Every output takes the level its present state asks for; a new level starts a new read-back (R285, R287). -/
def driveDouts (s : State) : State :=
  let off := outputsHighZ s
  s.modDio fun u => { u with douts := updAll {} u.douts (u.douts.map (·.1)) fun _ d =>
    let w := if off then .highZ else d.wanted u.substitute
    if w = d.drive then d else { d with drive := w, disagree := none } }

/-- A read-back is judged: an open-drain output driven low or a push-pull output (R287). -/
def Dout.disagrees (d : Dout) (level : Bool) : Bool :=
  match d.drive with
  | .low => level
  | .high => !level
  | .highZ => false

/-- READBACK (R287). -/
def readback (n : Nat) (level : Bool) (s : State) : State :=
  s.modDout n fun d => { d with
    readback := level, disagree := if d.disagree.isNone && d.disagrees level then some s.now else d.disagree }

def execReadback (n : Nat) (level : Bool) (t : Nat) (s : State) : Host.Outcome State Fault Refusal :=
  event (n < 64) t (readback n level) s

/-- DOUT_FAULT (R287): the check 10 µs after a disagreement. -/
def doutFault (n : Nat) (level : Bool) (s : State) : State :=
  let d := doutOf s n
  if !(d.disagree.any fun t => decide (t + clocksOfUs 10 ≤ s.now)) then s
  else if d.disagrees level then
    ((s.modDout n fun d => { d with readback := level, disagree := none, fault := true, drive := .highZ }).takeFree.2).reportFault
      15 (Config.eventCode 5).toNat 1 s.takeFree.1.toNat
  else (s.modDout n fun d => { d with readback := level, disagree := none }).recordOpen 15 6 0 true

def execDoutFault (n : Nat) (level : Bool) (t : Nat) (s : State) : Host.Outcome State Fault Refusal :=
  event (n < 64) t (doutFault n level) s

/-! ### PWM outputs (08 R288, R289) -/

/-- The duty as loaded: NaN is 0, clamped to 0 to 1 (R289). -/
def clampDuty (d : Nat) : Nat := if Fmt.b32.isNan d then 0 else Fmt.b32.clamp 0 0x3F800000 d

/-- hi_clk of R289: high time and the new frac. -/
def Pwm.hiClk (p : Pwm) (duty : Nat) : Nat × Nat :=
  let x := Fmt.b64.mul (Fmt.b64.mul (f64of32 duty) (Fmt.b64.ofInt p.periodClk)) (Fmt.b64.ofInt 256)
  let q := match Fmt.b64.toIntEven x 0 with | some i => i.toNat | none => 0
  let (hi, frac) := if p.dither then ((q + p.frac) / 256, (q + p.frac) % 256) else ((q + 128) / 256, p.frac)
  let hi := if hi < p.minClk then 0 else hi
  (if p.periodClk - hi < p.minClk then p.periodClk else hi, frac)

/-- A period begins at this clock (R288): the device-time clocks less PHASE_CLK are a multiple of PERIOD_CLK. -/
def Pwm.startsNow (p : Pwm) (s : State) : Bool := s.clock % max 1 p.periodClk == p.phaseClk && p.startAt ≠ some s.now

/-- PWM_PERIOD_START (R288, R289): the shadow duty is loaded and the high time computed. -/
def pwmPeriodStart (n : Nat) (s : State) : State :=
  if !((pwmOf s n).configured && (pwmOf s n).startsNow s) then s
  else s.modPwm n fun p =>
    let d := clampDuty p.shadow
    let h := p.hiClk d
    { p with duty := d, hi := h.1, frac := h.2, startAt := some s.now }

/-- The level of a PWM output at a clock (R288, R302): the high time stands at the start of the period, or in its middle, and ACTIVE_LOW
inverts the pin. -/
def Pwm.level (p : Pwm) (now : Nat) : Bool :=
  let lead := if p.center then (p.periodClk - p.hi) / 2 else 0
  let high := match p.startAt with
    | some t => decide (t + lead ≤ now) && decide (now < t + lead + p.hi)
    | none => false
  high != p.activeLow

/-- The pin PWM`n`, none while it is high-impedance: until DIO.PWM_CONFIG, and where every output stage is (R288, 03 R94). -/
def pwmPin (s : State) (n : Nat) : Option Bool :=
  if (pwmOf s n).configured && !outputsHighZ s then some ((pwmOf s n).level s.now) else none

def execPwmPeriodStart (n t : Nat) (s : State) : Host.Outcome State Fault Refusal := event (n < 32) t (pwmPeriodStart n) s

/-! ### Encoder interfaces (08 R290–R292) -/

/-- The place of A and B in the quadrature sequence 00, 10, 11, 01. -/
def quadPhase (a b : Bool) : Nat := if a then (if b then 2 else 1) else (if b then 3 else 0)

/-- The change of the count for new levels of A and B, and whether QUAD_ERR is set (R290).
DEDUCED: A leading B counts up in QUAD4, as QUAD1's rule has it (log 16). -/
def Enc.delta (e : Enc) (a b : Bool) : Int × Bool :=
  if e.mode = 0 then
    match (quadPhase a b + 4 - quadPhase e.a e.b) % 4 with
    | 1 => (1, false) | 3 => (-1, false) | 2 => (0, true) | _ => (0, false)
  else if a ∧ !e.a then ((if e.mode = 1 then (if b then -1 else 1) else (if b then 1 else -1)), false)
  else (0, false)

/-- Drops the counts that lie wholly before the velocity window, keeping the one in force at its start. -/
def pruneHistory (from' : Nat) : List (Nat × Nat) → List (Nat × Nat)
  | a :: b :: r => if a.1 < from' ∧ b.1 < from' then pruneHistory from' (b :: r) else a :: b :: r
  | l => l

/-- New filtered levels of A and B (R290). -/
def Enc.step (e : Enc) (a b : Bool) (now : Nat) : Enc :=
  let d := e.delta a b
  let e := { e with a := a, b := b, quadErr := e.quadErr || (d.2 && e.configured) }
  if d.1 = 0 ∨ ¬ e.configured then e
  else { e with
    count := enc 32 ((e.count : Int) + d.1)
    history := pruneHistory (now - clocksOfUs e.velWindowUs) (e.history ++ [(now, e.count)]) }

/-- The clock at which a filtered level follows its synchronised level, none where they agree (R281, R290). -/
def Enc.due (e : Enc) (level raw : Bool) (since : Nat) : Option Nat := if level = raw then none else some (since + e.filter)

/-- The filters carried to a clock: A and B follow in the order of their instants, and together where these agree. -/
def Enc.settle (e : Enc) (now : Nat) : Enc :=
  let x := (e.due e.a e.rawA e.sinceA).filter (· ≤ now)
  let y := (e.due e.b e.rawB e.sinceB).filter (· ≤ now)
  match x, y with
  | none, none => e
  | some t, none => e.step e.rawA e.b t
  | none, some u => e.step e.a e.rawB u
  | some t, some u =>
    if t = u then e.step e.rawA e.rawB t
    else if t < u then (e.step e.rawA e.b t).step e.rawA e.rawB u
    else (e.step e.a e.rawB u).step e.rawA e.rawB t

/-- New synchronised levels. -/
def Enc.sense (e : Enc) (a b : Bool) (now : Nat) : Enc :=
  let e := e.settle now
  let e := if e.rawA = a then e else { e with rawA := a, sinceA := now }
  (if e.rawB = b then e else { e with rawB := b, sinceB := now }).settle now

/-- Interface `n`, its filters carried to the present clock. -/
def encOf (s : State) (n : Nat) : Enc := (look {} s.dio.encs n).settle s.now

def State.modEnc (s : State) (n : Nat) (f : Enc → Enc) : State :=
  s.modDio fun d => { d with encs := upd {} d.encs n fun e => f (e.settle s.now) }

/-- The count of interface `n`, INT32 as 32 bits. -/
def encoderCount (s : State) (n : Nat) : Nat := (encOf s n).count

/-- ENCODER_COUNT (R290): the synchronised levels of A and B. While TIMING is not ON nothing is counted (18 R597–R599; log 15). -/
def encoderCountEdge (n : Nat) (a b : Bool) (s : State) : State :=
  if domainOn s 4 then s.modEnc n fun e => e.sense a b s.now
  else s.modDio fun d => { d with encs := upd {} d.encs n fun e => { e with rawA := a, rawB := b, sinceA := s.now, sinceB := s.now } }

/-- The count at an instant: that before the first change after it. -/
def Enc.countAt (e : Enc) (t : Nat) : Nat :=
  match e.history.find? fun h => t < h.1 with
  | some h => h.2
  | none => e.count

/-- The velocity in counts/s over VEL_WINDOW_US, REAL32 (R291). -/
def Enc.velocity (e : Enc) (now : Nat) : Nat :=
  Fmt.b32.ofRatio (signed 32 (e.countAt now + 2 ^ 32 - e.countAt (now - clocksOfUs e.velWindowUs)) * 1000000) e.velWindowUs

/-- One interface at the input instant (R291). -/
def latchEnc (s : State) (n : Nat) : State :=
  let e := encOf s n
  let v := e.velocity s.now
  ((s.modEnc n fun e => { e with imgCount := e.count, imgVel := v, imgLatched := e.latched }).publish (0x2A0 + n) e.count).publish (0x2B0 + n) v

/-- Arms the latch of an interface (R292). -/
def armLatch (n : Nat) (s : State) : State := s.modEnc n fun e => { e with armed := true }

/-- The capture of a latch event (R292): one event serves every request armed; with LATCH_CONT every event arms. -/
def captureLatch (n : Nat) (s : State) : State :=
  s.modEnc n fun e =>
    let e := if e.armed then { e with latched := e.count, latchedAt := s.now } else e
    { e with armed := e.latchCont }

/-- A latch event of an interface whose source is a digital input comes with that edge of its logical level (R292). -/
def latchSourceFits (s : State) (n : Nat) : Bool :=
  let e := encOf s n
  let level := ((dinOf s e.latchDin).settle s.now).logical
  match e.latchSrc with
  | 1 => level
  | 2 => !level
  | _ => true

/-! ### Substitute values and images -/

/-- A loop channel goes on to write the PWM output whatever stands at the others (06 R200). -/
def loopDrives (s : State) (n : Nat) : Bool := (s.dev.mode == .ready || s.dev.mode == .run || s.dev.mode == .hold) && loopOwnsPwm s n

/-- Where substitute values stand, every digital output goes on from its own (log 80). -/
def keepSubstitutes (s : State) : State :=
  if s.dio.substitute then
    s.modDio fun u => { u with douts := updAll {} u.douts (u.douts.map (·.1)) fun _ d => { d with value := d.substNow } }
  else s

/-- Puts the substitute values at every output, or takes the applied image's (01 R26; 03 R105). -/
def setSubstitute (on : Bool) (s : State) : State :=
  let drives := loopDrives s
  let s := s.modDio fun u => { u with
    substitute := on
    douts := updAll {} u.douts (u.douts.map (·.1)) fun _ d => if on then { d with substNow := d.subst } else d
    pwms := updAll {} u.pwms (u.pwms.map (·.1)) fun n p => if on && !drives n then { p with shadow := p.substDuty } else p }
  driveDouts s

/-- The signals of the outputs at the output instant (R287, R289). -/
def publishOutputs (s : State) : State :=
  let s := (List.range 64).foldl (fun s n =>
    if (doutOf s n).configured then s.publish (0x240 + n) (flag ((doutOf s n).drive == .high)) else s) s
  (List.range 32).foldl (fun s n => if (pwmOf s n).configured then s.publish (0x280 + n) (pwmOf s n).duty else s) s

/-! ### Commands (08 R293, R301–R306) -/

/-- Configuration commands are accepted in CONFIGURE and READY only (R293). -/
def notConfiguring (s : State) : Bool := s.dev.mode ≠ .configure && s.dev.mode ≠ .ready

/-- A REAL32 from 0 to 1. -/
def inUnitInterval (d : Nat) : Bool := Fmt.b32.le 0 d && Fmt.b32.le d 0x3F800000

/-- The numbers FIRST to LAST. -/
def rangeOf (first last : Nat) : List Nat := (List.range (last + 1 - first)).map (first + ·)

/-- DIO.INPUT_CONFIG (R301). -/
def cmdDioInputConfig (p : Packet) (s : State) : State × Verdict :=
  let w := p.w 0
  let first := field w 0 6; let last := field w 8 6
  checked
    [(p.len ≠ 3, stBadLength),
     (last < first || reservedSet w 0xFFFF80C0 || reservedSet (p.w 1) 0xF000 || reservedSet (p.w 2) 0xFFFF0000, stRange),
     (notConfiguring s, stBadMode)] s
    ((rangeOf first last).foldl (fun s n => s.modDin n fun d =>
        Din.count { d with activeLow := bit w 14, filter := field (p.w 1) 0 12, stuckMs := field (p.w 1) 16 16,
                           chatterMax := field (p.w 2) 0 16 } d.logical s.now) (settleDins s), .done stOk [])

def execDioInputConfig (p : Packet) (s : State) : Host.Outcome State Fault Refusal := command .dioInputConfig cmdDioInputConfig p s

/-- SUBST of DIO.OUTPUT_CONFIG. -/
def Drive.ofNum : Nat → Drive
  | 0 => .low | 1 => .high | _ => .highZ

/-- DIO.OUTPUT_CONFIG (R285, R287, R301). -/
def cmdDioOutputConfig (p : Packet) (s : State) : State × Verdict :=
  let w := p.w 0
  let first := field w 0 6; let last := field w 8 6; let sub := field w 15 2
  checked
    [(p.len ≠ 1, stBadLength), (last < first || sub == 3 || reservedSet w 0xFFFE00C0, stRange), (notConfiguring s, stBadMode)] s
    (driveDouts ((rangeOf first last).foldl (fun s n => s.modDout n fun d =>
        { d with configured := true, openDrain := bit w 14, subst := Drive.ofNum sub, substNow := Drive.ofNum sub,
                 fault := false, disagree := none }) s), .done stOk [])

def execDioOutputConfig (p : Packet) (s : State) : Host.Outcome State Fault Refusal := command .dioOutputConfig cmdDioOutputConfig p s

/-- DIO.ENC_CONFIG (R303). -/
def cmdDioEncConfig (p : Packet) (s : State) : State × Verdict :=
  let w := p.w 0
  checked
    [(p.len ≠ 2, stBadLength),
     (field w 4 2 == 3 || field w 14 2 == 3 || reservedSet w 0xFF800000 || field (p.w 1) 0 16 == 0 || reservedSet (p.w 1) 0xFFFF0000, stRange),
     (notConfiguring s, stBadMode)] s
    (s.modEnc (field w 0 4) (fun e => { e with
        configured := true, mode := field w 4 2, filter := field w 6 8, latchSrc := field w 14 2, latchDin := field w 16 6,
        latchCont := bit w 22, velWindowUs := field (p.w 1) 0 16, count := 0, history := [] }), .done stOk [])

def execDioEncConfig (p : Packet) (s : State) : Host.Outcome State Fault Refusal := command .dioEncConfig cmdDioEncConfig p s

/-- 32 flags as a word. -/
def flagsWord (f : Nat → Bool) (from' : Nat) : Word := wd (maskOf ((List.range 32).filter fun i => f (from' + i)))

/-- DIO.READ (R304). -/
def cmdDioRead (p : Packet) (s : State) : State × Verdict :=
  let s := settleDins s
  let din (n : Nat) : Bool := (dinOf s n).logical
  let dout (n : Nat) : Bool := (doutOf s n).readback
  checked [(p.len ≠ 0, stBadLength)] s
    (s, .done stOk ([flagsWord din 0, flagsWord din 32, flagsWord dout 0, flagsWord dout 32]
      ++ (List.range 16).map fun n => wd (encoderCount s n)))

def execDioRead (p : Packet) (s : State) : Host.Outcome State Fault Refusal := command .dioRead cmdDioRead p s

/-- DIO.WRITE (R286, R305): in CONFIGURE and READY the pins follow at once, in RUN and HOLD when substitute values next apply. -/
def cmdDioWrite (p : Packet) (s : State) : State × Verdict :=
  let w := p.w 0
  let atOnce := !notConfiguring s && s.dio.substitute
  let pwm := bit w 0; let n := field w 1 5
  let sel (lo i : Nat) : Bool := bit (p.w (lo + i / 32)) (i % 32)
  checked
    [(p.len ≠ (if pwm then 2 else 5), stBadLength),
     (reservedSet w 0xFFFFFFC0 || (pwm && !inUnitInterval (p.w 1)) || (!pwm && n ≠ 0), stRange),
     (s.dev.mode == .safe || s.dev.mode == .graze, stBadMode)] s
    (if pwm then
       (let live := atOnce && !loopDrives s n
        s.modPwm n fun q => { q with substDuty := p.w 1, shadow := if live then p.w 1 else q.shadow }, .done stOk [])
     else
       (driveDouts ((List.range 64).foldl (fun s i => if sel 1 i then
          s.modDout i fun d =>
            let v : Drive := if sel 3 i then .high else .low
            { d with subst := v, substNow := if atOnce then v else d.substNow } else s) s), .done stOk []))

def execDioWrite (p : Packet) (s : State) : Host.Outcome State Fault Refusal := command .dioWrite cmdDioWrite p s

/-- DIO.STATUS (R306). -/
def cmdDioStatus (p : Packet) (s : State) : State × Verdict :=
  let s := settleDins s
  let i := field (p.w 0) 0 6
  let st (n : Nat) : Bool := (dinOf s n).stuck
  let ch (n : Nat) : Bool := (dinOf s n).chatter
  let fa (n : Nat) : Bool := (doutOf s n).fault
  checked [(p.len ≠ 1, stBadLength), (reservedSet (p.w 0) 0xFFFFFFC0, stRange)] s
    (s.modDio (fun u => { u with encs := updAll {} u.encs (u.encs.map (·.1)) fun _ e => { e.settle s.now with quadErr := false } }),
     .done stOk [flagsWord st 0, flagsWord st 32, flagsWord ch 0, flagsWord ch 32, flagsWord fa 0, flagsWord fa 32,
       wd (dinOf s i).rise, wd (dinOf s i).fall, wd (maskOf ((List.range 16).filter fun n => (encOf s n).quadErr))])

def execDioStatus (p : Packet) (s : State) : Host.Outcome State Fault Refusal := command .dioStatus cmdDioStatus p s

end Sys2Proof.Machine
end

