-- ==== Sys2Proof/Machine/Adc.lean ====
section
/-! DEFINITION. The ADC unit: converters, channel tables, groups, urgent requests and calibration (08 R268–R280, R293–R300). -/

namespace Sys2Proof.Machine

def convOf (s : State) (c : Nat) : Conv := look {} s.adc.convs c
def resultOf (s : State) (n : Nat) : AdcResult := look {} s.adc.results n
def State.modConv (s : State) (c : Nat) (f : Conv → Conv) : State := s.modAdc fun a => { a with convs := upd {} a.convs c f }

/-! ### Ranges and codes (08 R269, R278) -/

/-- RANGE of input `n` (R269, R294). -/
def rangeOfInput (s : State) (n : Nat) : Nat := field (convOf s (n / 8)).ranges (2 * (n % 8)) 2

/-- The span of a range in volts, and whether it is bipolar (R269). -/
def spanOf (r : Nat) : Nat := match r with | 0 => 20 | 1 => 10 | 2 => 10 | _ => 5
def bipolar (r : Nat) : Bool := r == 0 || r == 2

/-- The signed value of a code (R269). -/
def signedValue (r code : Nat) : Int := if bipolar r then (code : Int) - 32768 else code

/-- The signed value in volts, REAL32: value × LSB, rounded once (R269). -/
def voltsOf (r code : Nat) : Nat := Fmt.b32.ofRatio (signedValue r code * spanOf r) 65536

/-- OFFSET (Q24.8) and GAIN (Q2.30) of an input and range (R278, R279). -/
def calOf (s : State) (input range : Nat) : Int × Nat :=
  match look none s.adc.calSet (4 * input + range) with
  | some c => c
  | none =>
    if s.boot.fuseFault then (signed 32 Config.nominalOffset.toNat, Config.nominalGain.toNat)
    else (signed 32 (Config.trimOffset (input / 8) range).toNat, (Config.trimGain (input / 8) range).toNat)

/-- The corrected code of a raw code (R278). -/
def correct (cal : Int × Nat) (raw : Nat) : Nat :=
  (clampInt 0 65535 (roundEven (((raw : Int) * 256 + cal.1) * cal.2) (2 ^ 38))).toNat

/-- OFFSET and GAIN within R278. -/
def calInRange (offset : Int) (gain : Int) : Bool :=
  0x20000000 ≤ gain && gain ≤ 0x60000000 && -1048576 ≤ offset && offset ≤ 1048576

/-! ### Starting conversions (08 R273–R276) -/

/-- The multiplexer position of a table entry. -/
def entryInput (e : Nat) : Nat := field e 0 3

/-- A conversion starts. -/
def Conv.begin (c : Conv) (kind : ConvKind) (pos : Nat) : Conv := { c with busy := some (kind, pos), triggeredAt := none, oldCal := none }

/-- What an idle converter converts next (R275): an urgent request, one of the 1,024 conversions of a calibration step, its table,
unless that idles after an entry (R273). -/
def Conv.next (c : Conv) (now : Nat) : Conv :=
  if c.faulted ∨ c.busy.isSome then c
  else match c.waitingUrgent, c.calibration.filter (·.count < 1024), c.table[c.entry]? with
    | some u, _, _ => Conv.begin { c with waitingUrgent := none } (.urgent u) (u.input % 8)
    | none, some k, _ => c.begin .calibration (k.input % 8)
    | none, none, some e => if c.idleUntil ≤ now then c.begin .table (entryInput e) else c
    | none, none, none => c

/-- A new table begins at entry 0 when the conversion in progress has ended (R273). -/
def Conv.tableTaken (c : Conv) : Conv := if c.newTable then { c with entry := 0, made := 0, newTable := false, idleUntil := 0 } else c

/-- The table position after one of its conversions (R273): after the last of an entry the converter idles for DELAY of its clocks of
15.625 ns. -/
def Conv.advance (c : Conv) (now : Nat) : Conv :=
  if c.newTable then c.tableTaken
  else
    let e := c.table.getD c.entry 0
    if c.made < field e 8 8 then { c with made := c.made + 1 }
    else { c with
      made := 0, entry := if c.entry + 1 < c.table.length then c.entry + 1 else 0
      idleUntil := now + (field e 16 16 * 25 + 1) / 2 }

/-- An idle time that has ended is followed by the next conversion. -/
def State.wakeConv (s : State) (c : Nat) : State := s.modConv c fun k => k.next s.now

/-- An urgent request is dropped (R276, R277): the command is answered, the operation completes with its flag. -/
def dropUrgent (c : Nat) (u : Urgent) (s : State) : State :=
  let s := s.modConv c fun k => { k with urgentDropped := sat32 k.urgentDropped }
  match u.byOp with
  | some (slot, op) => s.modAdc fun a => { a with urgentDone := a.urgentDone ++ [(slot, op, true)] }
  | none => s.settle (fun d => d.op == .adcUrgent && d.data == [u.input]) fun _ => (stAdDropped, [])

/-- Makes an urgent request (R275, R276): dropped where the converter is busy with a group, or with another urgent
conversion in progress or waiting; else it starts, or waits for the table or calibration conversion in progress. -/
def requestUrgent (u : Urgent) (s : State) : State :=
  let c := u.input / 8
  let s := s.wakeConv c
  let k := convOf s c
  let clash := k.waitingUrgent.isSome || (match k.busy with | some (.group _, _) => true | some (.urgent _, _) => true | _ => false)
  if clash ∨ k.faulted then dropUrgent c u s
  else s.modConv c fun k => Conv.next { k with waitingUrgent := some u } s.now

/-- One converter at its group's trigger (R274, R275). DEDUCED: an urgent conversion in progress or waiting loses
to the group and is dropped (log 17). -/
def triggerConv (g c : Nat) (s : State) : State :=
  let s := s.wakeConv c
  let k := convOf s c
  let pos := field (look {} s.adc.groups g).sel (3 * c) 3
  if k.faulted then s
  else
    let s := match k.waitingUrgent with
      | some u => dropUrgent c u (s.modConv c fun k => { k with waitingUrgent := none })
      | none => s
    match k.busy with
    | some (.group _, _) => s.modConv c fun k => { k with groupOverruns := sat32 k.groupOverruns }
    | b =>
      let s := match b with | some (.urgent u, _) => dropUrgent c u s | _ => s
      s.modConv c fun k =>
        let k := match b with
          | some (.table, _) => { k.tableTaken with tableAborts := sat32 k.tableAborts }
          | some (.calibration, _) => { k with tableAborts := sat32 k.tableAborts }
          | _ => k
        { k.begin (.group g) pos with triggeredAt := some s.now }

/-- This is an instant at which the group is triggered (R274): the input instant, the grid, or an edge of the pin at any instant. -/
def groupDue (r : AdcGroup) (s : State) : Bool :=
  match r.trig with
  | 1 => hasCycle s && s.boot.phase == .running && s.dev.mode != .graze &&
      s.clock % clocksOfUs (max 1 (lDev s)) == clocksOfUs (inOffset s)
  | 2 => s.clock % clocksOfUs (max 1 r.gridUs) == 0
  | 3 => true
  | _ => false

/-- GROUP_TRIGGER (R274): every converter of the group starts. -/
def groupTrigger (g : Nat) (s : State) : State :=
  let r := look {} s.adc.groups g
  if !groupDue r s ∨ !domainOn s 9 then s
  else
    (bitsOf 16 r.convMask).foldl (fun s c => triggerConv g c s)
      (s.modAdc fun a => { a with groups := upd {} a.groups g fun r => { r with sampledAt := none } })

def execGroupTrigger (g t : Nat) (s : State) : Host.Outcome State Fault Refusal := event (g < 4) t (groupTrigger g) s

/-! ### Completing conversions (08 R270–R272, R277) -/

/-- The result word (R270). -/
def resultWord (r : AdcResult) : Nat :=
  r.code + place 16 (flag r.ovr) + place 17 (flag r.fault) + place 18 (flag r.group) + place 19 (flag r.urgent)

/-- Writes the result of a conversion of input `n`, a calibration conversion's as well (R270, R271), with the OFFSET and GAIN in force
when it began (R280). -/
def writeResult (n raw : Nat) (kind : ConvKind) (instant : Nat) (s : State) : State :=
  let k := convOf s (n / 8)
  let ovr := raw == 0 || raw == 65535
  let r : AdcResult :=
    { code := correct (k.oldCal.getD (calOf s n (rangeOfInput s n))) raw, ovr := ovr, fault := k.ovrFault && ovr
      group := match kind with | .group _ => true | _ => false
      urgent := match kind with | .urgent _ => true | _ => false
      instant := instant }
  let s := s.modAdc fun a => { a with
    results := put {} a.results n r
    grouped := if r.group then put {} a.grouped n r else a.grouped
    image := if s.now ≤ a.imageUntil then put {} a.image n r else a.image }
  let s := s.modConv (n / 8) fun k => { k with
    conversions := sat32 k.conversions, ovrCount := if ovr then sat32 k.ovrCount else k.ovrCount }
  s.publishAt (0x100 + n) instant (enc 32 (signedValue (rangeOfInput s n) r.code))

/-- The converter is FAULTED (R272): its inputs set FAULT and it stops until ADC.CONFIG. The urgent conversion of an operation has
completed with it, and a waiting one is dropped (R277). -/
def faultConv (c : Nat) (kind : ConvKind) (s : State) : State :=
  let s := match kind with
    | .urgent { byOp := some (slot, op), .. } => s.modAdc fun a => { a with urgentDone := a.urgentDone ++ [(slot, op, false)] }
    | _ => s
  let s := match (convOf s c).waitingUrgent with
    | some u => if u.byOp.isSome then dropUrgent c u s else s
    | none => s
  let s := s.modConv c fun k => { k with faulted := true, busy := none, retry := [], calibration := none, waitingUrgent := none }
  let s := (List.range 8).foldl (fun s i => s.modAdc fun a => { a with
    results := upd {} a.results (8 * c + i) fun r => { r with fault := true } }) s
  let s := s.settle (fun d => (d.op == .adcUrgent || d.op == .adcCalibrate) && d.data.headD 0 / 8 == c) fun _ => (stAdFaulted, [])
  s.takeFree.2.reportFault 7 (Config.eventCode 8).toNat 1 s.takeFree.1.toNat

/-- What a good conversion does beside its result: it ends the urgent request, adds to the calibration step, advances
the table (R273, R277, R280). -/
def finishConv (c raw : Nat) (kind : ConvKind) (s : State) : State :=
  match kind with
  | .group _ => s
  | .table => s.modConv c fun k => k.advance s.now
  | .calibration => s.modConv c fun k => { k with calibration := k.calibration.map fun b => { b with sum := b.sum + raw, count := b.count + 1 } }
  | .urgent u =>
    match u.byOp with
    | some (slot, op) => s.modAdc fun a => { a with urgentDone := a.urgentDone ++ [(slot, op, false)] }
    | none =>
      let r := resultOf s u.input
      s.settle (fun d => d.op == .adcUrgent && d.data == [u.input]) fun _ => (stOk, [wd (resultWord r), wd r.instant])

/-- `instant` ns can be the first converter clock of the conversion in progress: it lies the time of a conversion back (R268), and for a
group 31.25 ns to 46.875 ns after the trigger, the same for every converter (R274). -/
def sampleFits (k : Conv) (kind : ConvKind) (instant : Nat) (s : State) : Bool :=
  decide (instant + (if k.lowPower then 4000 else 500) ≤ s.ns) &&
  match kind, k.triggeredAt with
  | .group g, some t =>
    let trigger := nsOf (s.clock - (s.now - t))
    decide (trigger + 31 ≤ instant) && decide (instant ≤ trigger + 47) &&
      (look {} s.adc.groups g).sampledAt.all (· == instant)
  | _, _ => true

/-- CONVERSION_COMPLETE (R271, R272): converter `c` completes with raw code `raw`, its completion check good or not, its
first converter clock at `instant` ns. A failed check is retried on the next conversion of the same input. -/
def conversionComplete (c raw : Nat) (good : Bool) (instant : Nat) (s : State) : State :=
  let s := s.wakeConv c
  let k := convOf s c
  match k.busy.filter fun b => sampleFits k b.1 instant s && domainOn s 9 with
  | none => s
  | some (kind, pos) =>
    let s := s.modConv c fun k => { k with busy := none, triggeredAt := none }
    let s := match kind with
      | .group g => s.modAdc fun a => { a with groups := upd {} a.groups g fun r => { r with sampledAt := some instant } }
      | _ => s
    let n := 8 * c + pos
    let s :=
      if good then
        let s := if k.retry.contains pos then
            (s.modConv c fun k => { k with retry := k.retry.filter (· ≠ pos) }).recordOpen 7 9 0 true else s
        finishConv c raw kind (writeResult n raw kind instant s)
      else if k.retry.contains pos then faultConv c kind s
      else
        let s := s.modConv c fun k => { k with retry := k.retry ++ [pos] }
        -- the retry is the next conversion of the input; an urgent request is made again, so that it completes (log 131)
        match kind with
        | .urgent u => s.modConv c fun k => { k with waitingUrgent := some u }
        | .table => s.modConv c Conv.tableTaken
        | _ => s
    s.wakeConv c

def execConversionComplete (c raw : Nat) (good : Bool) (instant t : Nat) (s : State) : Host.Outcome State Fault Refusal :=
  event (c < converters s && raw < 65536) t (conversionComplete c raw good instant) s

/-- A read of word +0 latches the sample instant, plus 1, for the next read of word +4 by the same initiator (R270). -/
def State.latchInstant (s : State) (n initiator : Nat) : State :=
  s.modAdc fun a => { a with latched := put 0 a.latched (128 * initiator + n) ((resultOf s n).instant % 2 ^ 32 + 1) }

/-- RESULT_READ (R270): word +0, which latches word +4 for the same initiator. -/
def resultRead (n initiator : Nat) (s : State) : State :=
  if !s.present 7 then (s.noteAbsent 7).emit (.completion 0) else
  (s.latchInstant n initiator).emit (.completion (resultWord (resultOf s n)))

def execResultRead (n initiator t : Nat) (s : State) : Host.Outcome State Fault Refusal :=
  event (n < 128) t (resultRead n initiator) s

/-! ### Calibration (08 R280) -/

/-- A REAL32 as an integer multiple of 2^−149. -/
def exact149 (v : Nat) : Int :=
  match Fmt.b32.decode v with
  | .fin n m e => sgn n (m * 2 ^ (e + 149).toNat)
  | _ => 0

/-- REF_V lies within the range (R298). -/
def refInRange (r v : Nat) : Bool :=
  let x := exact149 v; let full : Int := spanOf r * 2 ^ 149
  Fmt.b32.isFinite v && (if bipolar r then -(full / 2) ≤ x && x ≤ full / 2 else 0 ≤ x && x ≤ full)

/-- GAIN (Q2.30) and OFFSET (Q24.8) of the two steps (R280), each rounded once: `m0`, `m1` in Q24.8. -/
def calibrate (r v0 v1 m0 m1 : Nat) : Int × Int :=
  let full : Nat := spanOf r * 2 ^ 149
  let dv := exact149 v1 - exact149 v0
  let dm : Int := (m1 : Int) - m0
  let c0 : Int := exact149 v0 * 65536 + (if bipolar r then 32768 * (full : Int) else 0)   -- ideal code times `full`
  if dm ≤ 0 ∨ dv ≤ 0 then (0, 0)
  else (roundEven (dv * 65536 * 256 * 2 ^ 30) (full * dm.toNat), roundEven (c0 * dm) (65536 * dv.toNat) - m0)

/-- Sets OFFSET and GAIN of an input and range: a conversion of the input in progress goes on with those before (R280). -/
def State.setCal (s : State) (n r : Nat) (v : Int × Nat) : State :=
  let old := calOf s n r
  let s := (s.wakeConv (n / 8)).modConv (n / 8) fun k =>
    if r = field k.ranges (2 * (n % 8)) 2 ∧ k.busy.any (·.2 == n % 8) ∧ k.oldCal.isNone then { k with oldCal := some old } else k
  s.modAdc fun a => { a with calSet := put none a.calSet (4 * n + r) (some v) }

/-- CALIBRATION_DONE (R280, R298): the 1,024 conversions of a step have ended. The mean is rounded to Q24.8 to nearest.
DESIGN CHOICE: the spec does not say how (log 18). -/
def calibrationDone (c : Nat) (s : State) : State :=
  match (convOf s c).calibration with
  | none => s
  | some k =>
    if k.count < 1024 then s
    else
      let s := s.modConv c fun k => { k with calibration := none }
      let r := rangeOfInput s k.input
      let key := 4 * k.input + r
      let m := (roundEven (k.sum : Int) 4).toNat
      let reply (st : Nat) (ws : List Word) (s : State) : State :=
        s.settle (fun d => d.op == .adcCalibrate && d.data.headD 0 == k.input) fun _ => (st, ws)
      if !k.full then
        reply stOk [wd m, 0, 0] (s.modAdc fun a => { a with zeroSteps := put none a.zeroSteps key (some (m, k.refV)) })
      else match look none s.adc.zeroSteps key with
        | none => reply stAdCalRef [] s
        | some (m0, v0) =>
          let (gain, offset) := calibrate r v0 k.refV m0 m
          if calInRange offset gain then
            reply stOk [wd m, wd gain.toNat, wd (enc 32 offset)] (s.setCal k.input r (offset, gain.toNat))
          else reply stAdCalRange [] s

def execCalibrationDone (c t : Nat) (s : State) : Host.Outcome State Fault Refusal :=
  event (c < converters s) t (calibrationDone c) s

/-! ### Commands (08 R293–R300) -/

/-- ADC.CONFIG (R294). -/
def cmdAdcConfig (p : Packet) (s : State) : State × Verdict :=
  let w := p.w 0
  checked
    [(p.len ≠ 2, stBadLength), (reservedSet w 0xFFFFFFC0 || reservedSet (p.w 1) 0xFFFF0000, stRange), (notConfiguring s, stBadMode)] s
    (let c := field w 0 4
     let s := if (convOf s c).faulted then (List.range 8).foldl (fun s i => s.modAdc fun a => { a with
        results := upd {} a.results (8 * c + i) fun r => { r with fault := false } }) s else s
     (s.modConv c (fun k => Conv.next { k with
        lowPower := bit w 4, ovrFault := bit w 5, ranges := field (p.w 1) 0 16, configured := true, faulted := false, retry := [] } s.now),
      .done stOk []))

def execAdcConfig (p : Packet) (s : State) : Host.Outcome State Fault Refusal := command .adcConfig cmdAdcConfig p s

/-- ADC.TABLE_WRITE (R273, R295). -/
def cmdAdcTableWrite (p : Packet) (s : State) : State × Verdict :=
  let w := p.w 0
  let c := field w 0 4; let len := field w 4 7; let es := (p.params.drop 1).map (·.toNat)
  checked
    [(p.len < 1 || p.len ≠ 1 + len, stBadLength),
     (64 < len || reservedSet w 0xFFFFF800 || es.any (fun e => reservedSet e 0xF8), stRange),
     ((convOf s c).faulted, stAdFaulted)] s
    ((s.wakeConv c).modConv c (fun k => Conv.next (match k.busy with
        | some (.table, _) => { k with table := es, newTable := true }
        | _ => Conv.tableTaken { k with table := es, newTable := true }) s.now), .done stOk [])

def execAdcTableWrite (p : Packet) (s : State) : Host.Outcome State Fault Refusal := command .adcTableWrite cmdAdcTableWrite p s

/-- ADC.GROUP_CONFIG (R274, R296). -/
def cmdAdcGroupConfig (p : Packet) (s : State) : State × Verdict :=
  let w := p.w 0
  let g := field w 0 2; let trig := field w 2 2; let grid := field w 6 14; let mask := field (p.w 1) 0 16
  let others := (List.range 4).filter (· ≠ g)
  checked
    [(p.len ≠ 4, stBadLength),
     (reservedSet w 0xFFF00000 || reservedSet (p.w 1) 0xFFFF0000 || reservedSet (p.w 2) 0xC0000000 || reservedSet (p.w 3) 0xFFFC0000 ||
        (if trig = 2 then grid < 10 || 10000 < grid else grid ≠ 0), stRange),
     (notConfiguring s, stBadMode),
     (others.any (fun o => (look {} s.adc.groups o).convMask &&& mask ≠ 0), stAdGroupUsed)] s
    (let new : AdcGroup := { trig := trig, pin := field w 4 2, gridUs := grid, convMask := mask,
                             sel := field (p.w 2) 0 30 + place 30 (field (p.w 3) 0 18) }
     (s.modAdc (fun a => { a with groups := put {} a.groups g new }), .done stOk []))

def execAdcGroupConfig (p : Packet) (s : State) : Host.Outcome State Fault Refusal := command .adcGroupConfig cmdAdcGroupConfig p s

/-- ADC.URGENT (R275, R276, R297): answered when the conversion completes or the request is dropped. -/
def cmdAdcUrgent (p : Packet) (s : State) : State × Verdict :=
  let n := field (p.w 0) 0 7
  checked
    [(p.len ≠ 1, stBadLength), (reservedSet (p.w 0) 0xFFFFFF80, stRange), ((convOf s (n / 8)).faulted, stAdFaulted)] s
    (let k := convOf s (n / 8)
     let clash := k.waitingUrgent.isSome || (match k.busy with | some (.group _, _) => true | some (.urgent _, _) => true | _ => false)
     if clash then (s.modConv (n / 8) fun k => { k with urgentDropped := sat32 k.urgentDropped }, .done stAdDropped [])
     else (requestUrgent { input := n, byOp := none } s).defer .adcUrgent p [n])

def execAdcUrgent (p : Packet) (s : State) : Host.Outcome State Fault Refusal := command .adcUrgent cmdAdcUrgent p s

/-- ADC.CALIBRATE (R280, R298). -/
def cmdAdcCalibrate (p : Packet) (s : State) : State × Verdict :=
  let n := field (p.w 0) 0 7; let full := bit (p.w 0) 7; let v := p.w 1
  let r := rangeOfInput s n
  let noRef := match look none s.adc.zeroSteps (4 * n + r) with
    | none => true
    | some (_, v0) => 2 * (exact149 v - exact149 v0) < spanOf r * 2 ^ 149
  checked
    [(p.len ≠ 2, stBadLength), (reservedSet (p.w 0) 0xFFFFFF00 || !refInRange r v, stRange), (notConfiguring s, stBadMode),
     ((convOf s (n / 8)).faulted, stAdFaulted), (full && noRef, stAdCalRef), ((convOf s (n / 8)).calibration.isSome, stBusy)] s
    (((s.wakeConv (n / 8)).modConv (n / 8) fun k => Conv.next { k with calibration := some { input := n, full := full, refV := v } } s.now).defer
      .adcCalibrate p [n])

def execAdcCalibrate (p : Packet) (s : State) : Host.Outcome State Fault Refusal := command .adcCalibrate cmdAdcCalibrate p s

/-- ADC.CAL_READ (R299). -/
def cmdAdcCalRead (p : Packet) (s : State) : State × Verdict :=
  let w := p.w 0
  let first := field w 0 7; let n := field w 7 8; let r := field w 15 2
  checked
    [(p.len ≠ 1, stBadLength), (n == 0 || 128 < n || 128 < first + n || reservedSet w 0xFFFE0000, stRange)] s
    (s, .done stOk ((List.range n).flatMap fun i => let c := calOf s (first + i) r; [wd (enc 32 c.1), wd c.2]))

def execAdcCalRead (p : Packet) (s : State) : Host.Outcome State Fault Refusal := command .adcCalRead cmdAdcCalRead p s

/-- ADC.CAL_WRITE (R299): every pair is checked against R278, and all are written or none. -/
def cmdAdcCalWrite (p : Packet) (s : State) : State × Verdict :=
  let w := p.w 0
  let first := field w 0 7; let n := field w 7 8; let r := field w 15 2
  let pair (i : Nat) : Int × Nat := (signed 32 (p.w (1 + 2 * i)), p.w (2 + 2 * i))
  checked
    [(p.len < 1 || p.len ≠ 1 + 2 * n, stBadLength), (n == 0 || 128 < n || 128 < first + n || reservedSet w 0xFFFE0000, stRange),
     (notConfiguring s, stBadMode), (!(List.range n).all (fun i => calInRange (pair i).1 (pair i).2), stAdCalRange)] s
    ((List.range n).foldl (fun s i => s.setCal (first + i) r (pair i)) s, .done stOk [])

def execAdcCalWrite (p : Packet) (s : State) : Host.Outcome State Fault Refusal := command .adcCalWrite cmdAdcCalWrite p s

/-- ADC.STATUS (R300). -/
def cmdAdcStatus (p : Packet) (s : State) : State × Verdict :=
  let k := (convOf s (field (p.w 0) 0 4)).next s.now
  checked [(p.len ≠ 1, stBadLength), (reservedSet (p.w 0) 0xFFFFFFF0, stRange)] s
    (s, .done stOk [wd (flag k.lowPower + place 1 (flag k.faulted) + place 2 k.entry), wd k.conversions, wd k.urgentDropped,
      wd k.groupOverruns, wd k.tableAborts, wd k.ovrCount])

def execAdcStatus (p : Packet) (s : State) : Host.Outcome State Fault Refusal := command .adcStatus cmdAdcStatus p s

end Sys2Proof.Machine
end

