-- ==== Sys2Proof/Machine/DeviceTime.lean ====
section
/-! DEFINITION. Setting device time: a step of the count that every stamp uses (01 R12, 09 R321, 10 R379, 13 R468). -/

namespace Sys2Proof.Machine

/-- A track's estimate after device time moved by `d` ns: the domain's time has not moved. -/
def Track.shift (t : Track) (d : Int) : Track :=
  { t with off := t.off - d, ref := t.ref + d, waiting := [], msDelay := none, requests := [], pdelays := [] }

/-- The TIME unit after device time moved by `d` ns; a mapping from the ring is in ring time already. -/
def NetUnit.shift (n : NetUnit) (d : Int) : NetUnit :=
  let n := { n with tracks := n.tracks.map fun e => (e.1, e.2.shift d), diffAt := n.diffAt + d }
  if n.ring then n else { n with off := n.off - d, ref := n.ref + d }

/-- Device time is set to `ns`: running captures close their intervals PARTIAL and write TIME_SET (09 R321). -/
def State.setDeviceTime (s : State) (ns : Int) : State :=
  let old := s.ns
  let s := s.startOffset 0
  let s := { s with timeStep := ns * 4 / 5 - s.now, steer := { s.steer with carry := 0 } }
  let s := s.modNet fun n => n.shift (s.ns - old)
  acqTimeSet old s

end Sys2Proof.Machine
end

