-- ==== Sys2Proof/Machine/RingBase.lean ====
section
/-! DEFINITION. The ring interfaces: schedules, time, frames on the lanes, validity and acceptance (10 R355–R374, R388;
11 R404–R408). -/

namespace Sys2Proof.Machine

/-! ### Interfaces -/

/-- The up-ring or the down-ring interface. -/
def ifaceOf (s : State) (down : Bool) : Iface := if down then s.drove.down else s.drove.up

/-- Changes an interface. -/
def State.modIface (s : State) (down : Bool) (f : Iface → Iface) : State :=
  s.modDrove fun d => if down then { d with down := f d.down } else { d with up := f d.up }

/-- Advances counter `i` of RING.COUNTERS (10 R403); 18 is RANK_CONFLICT and 19 WIRING. -/
def State.ringCount (s : State) (down : Bool) (i : Nat) : State :=
  s.modIface down fun k => { k with counters := upd 0 k.counters i sat32 }

/-- The link at a port. -/
def linkOf (k : Iface) (portB : Bool) : Link := if portB then k.linkB else k.linkA

/-- Changes the link at a port. -/
def State.modLink (s : State) (down portB : Bool) (f : Link → Link) : State :=
  s.modIface down fun k => if portB then { k with linkB := f k.linkB } else { k with linkA := f k.linkA }

/-- The sender number of the node on a ring: 0x80 as manager, else its member number. -/
def ownSrc (s : State) (down : Bool) : Option Nat := if down then some 0x80 else s.drove.member

/-- ACCEPT_NS and GUARD_NS of an interface (10 R388, R390). -/
def acceptNs (s : State) (down : Bool) : Nat := if down then s.drove.cfg.downAccept else s.drove.cfg.upAccept
def guardNs (s : State) (down : Bool) : Nat := if down then s.drove.cfg.downGuard else s.drove.cfg.upGuard

/-- The half of a pair without the crook sends no frame of its own (15 R521). -/
def silentHalf (s : State) : Bool := s.pair.role == .syncing || s.pair.role == .standby

/-! ### Schedules (10 R372) -/

/-- One slot of a mode (10 R372). -/
structure Slot where
  startMt : Nat
  /-- 0 FREE, 1 SYNC, 2 DATA, 3 CMD, 4 MODE, 5 JOIN_REQ, 6 JOIN_GRANT. -/
  kind : Nat
  lenW : Nat
  src : Nat
  dst : Nat
  deriving DecidableEq, Repr

/-- The words of mode `m` that the node holds on an interface. -/
def modeWords (s : State) (down : Bool) (m : Nat) : List Word := look [] (if down then s.drove.modes else s.drove.upModes) m

/-- Slot `i` of a mode's words. -/
def slotAt (ws : List Word) (i : Nat) : Slot :=
  let a := (ws.getD (2 + 2 * i) 0).toNat
  let b := (ws.getD (3 + 2 * i) 0).toNat
  { startMt := field a 0 19, kind := field a 19 3, lenW := field a 22 9, src := field b 0 8, dst := field b 8 8 }

/-- N_SLOTS of a mode. -/
def nSlots (ws : List Word) : Nat := min (field (ws.getD 0 0).toNat 0 10) ((ws.length - 2) / 2)

/-- The slots of a mode. -/
def slotsOfMode (ws : List Word) : List Slot := (List.range (nSlots ws)).map (slotAt ws)

/-- The mode in force on an interface. -/
def modeInForce (s : State) (down : Bool) : List Word := modeWords s down (ifaceOf s down).mode

/-- INPUT_READY_MT of the down-ring's mode in force, in µs rounded up to timing clocks: 20 ns are 16 clocks (01 R45). -/
def inputReadyClocks (ws : List Word) : Nat := field (ws.getD 0 0).toNat 10 19 * 16

/-- WIRE(P) in timing clocks, rounded up (10 R358). -/
def wireClocks (bytes : Nat) : Nat := (6400 * ((bytes + 14 + 7) / 8 + 2) + 1249) / 1250

/-! ### Ring time -/

/-- The ring cycle length in µs of an interface. -/
def ringCycleUs (s : State) (down : Bool) : Nat := if down then s.drove.cfg.cycleUs else s.cyc.upLdev

/-- The start of the ring cycle in progress, in timing clocks of ring time. -/
def ringCycleStart (s : State) (down : Bool) : Nat :=
  let l := clocksOfUs (max 1 (ringCycleUs s down))
  s.clock / l * l

/-- L_base in µs as the interface knows it. -/
def ringBaseUs (s : State) (_down : Bool) : Nat := if s.drove.cfg.upEn then s.cyc.upLbase else s.drove.cfg.cycleUs

/-- The half took the crook in the ring cycle in progress: it sends from the next one (15 R528). -/
def justTook (s : State) (down : Bool) : Bool := match s.pair.tookAt with | some t => ringCycleStart s down < t | none => false

/-- The base number of the ring cycle in progress (01 R15). -/
def ringCycleNo (s : State) (down : Bool) : Nat := ringCycleStart s down / clocksOfUs (max 1 (ringBaseUs s down)) % 2 ^ 32

/-- The number of the ring cycle `n` cycles after `k`. -/
def ringCycleAfter (s : State) (down : Bool) (k n : Nat) : Nat :=
  (k + n * (ringCycleUs s down / max 1 (ringBaseUs s down))) % 2 ^ 32

/-! ### Frames on the lanes (10 R368–R371, R392) -/

/-- The primary incoming port: UA on a member, DB on the manager. -/
def primaryIn (down : Bool) : Bool := down

/-- The port on which a frame leaves, and that it turns back: `portB` is that of its direction; at a looped port it goes out on
the other one, WRAPPED. Where that is looped too, it goes nowhere: a DOWN port carries beacons only (R392). -/
def outPort (k : Iface) (portB : Bool) : Option (Bool × Bool) :=
  if !(linkOf k portB).looped then some (portB, false)
  else if (linkOf k (!portB)).looped then none
  else some (!portB, true)

/-- The end of the forwarded frame on the lane of the node's own frames. -/
def laneBusy (k : Iface) (down : Bool) : Nat :=
  match outPort k (!primaryIn down) with
  | some (port, _) => (linkOf k port).fwdUntil
  | none => 0

/-- Sends an own frame at its slot start, after a forwarded frame that ends within 40 ns (10 R371, R390). -/
def State.sendFrame (s : State) (down : Bool) (type : Nat) (f : Frame) : State :=
  match outPort (ifaceOf s down) (!primaryIn down) with
  | none => s
  | some (port, wrapped) =>
    let s := s.modLink down port fun l => { l with ownUntil := max s.now l.fwdUntil + wireClocks (4 * f.payload.length) }
    (s.ringCount down 1).emit (.ringFrame type { f with portB := port, wrapped := wrapped })

/-- The link delay at the port where a frame came in, in ns. -/
def inDelay (s : State) (f : Frame) : Nat := (linkOf (ifaceOf s f.down) f.portB).delayNs

/-- Forwards a frame, 320 ns after it arrived (10 R368–R371). -/
def State.forwardFrame (s : State) (type : Nat) (f : Frame) (own : Bool) : State :=
  let k := ifaceOf s f.down
  let primary := f.portB == primaryIn f.down
  if (own && primary) || 160 ≤ f.hops || (k.tag ≠ 0 && k.tag ≠ f.ringTag) then s
  else match outPort k (!f.portB) with
    | none => s
    | some (port, wrapped) =>
      if s.now < (linkOf k port).ownUntil then s.ringCount f.down 7
      else
        let g : Frame := { f with
          portB := port, hops := f.hops + 1, corr := min (2 ^ 20 - 1) (f.corr + inDelay s f + 320)
          wrapped := f.wrapped || wrapped, crc := if f.crc = .good then .good else .stomped }
        (s.modLink f.down port fun l => { l with fwdUntil := s.now + 256 + wireClocks (4 * f.payload.length) }).emit (.ringFrame type g)

/-! ### Validity and acceptance (10 R362, R370, R388) -/

/-- The deviation of a frame in ps: its arrival less slot start + CORR + link delay, in steps of 1,250 ps. `slotNs` is
the slot's offset from the cycle start. -/
def deviation (s : State) (f : Frame) (slotNs : Nat) : Int :=
  let l : Int := (ringCycleUs s f.down * 1000000 : Nat)
  let arrival : Int := (s.clock * 1250 : Nat)
  let offset : Int := ((slotNs + f.corr + inDelay s f) * 1000 : Nat)
  let d := (arrival - offset) % max 1 l
  let d := if l < 2 * d then d - l else d
  d.fdiv 1250 * 1250

/-- The header and payload fit the slot that the frame names: its kind, its length, its sender. -/
def fitsSlot (type : Nat) (f : Frame) (sl : Slot) : Bool :=
  let kindOk := if type = 5 then sl.kind == 5 || sl.kind == 6 else sl.kind == type
  kindOk && sl.src == f.src && (if type = 3 then f.payload.length ≤ sl.lenW && 2 ≤ f.payload.length else f.payload.length == sl.lenW)

/-- A frame passes R362 for the node, or is counted; the second part is its deviation where it was accepted.
`loose`: by CRC, VER, TYPE and RING_TAG alone (R380). A slot of a mode that the node does not hold is known for a SYNC frame
alone, which tells the node of that mode (R377): it is not held to an instant. -/
def State.takeFrame (s : State) (type : Nat) (f : Frame) (loose : Bool) : State × Option Int :=
  let k := ifaceOf s f.down
  let ws := modeWords s f.down f.mode
  let sl := slotAt ws f.slot
  let known := f.slot < nSlots ws
  if f.crc = .stomped then (s.ringCount f.down 3, none)
  else if f.crc = .wrong then (s.ringCount f.down 2, none)
  else if f.ver ≠ 1 ∨ (k.tag ≠ 0 ∧ k.tag ≠ f.ringTag) ∨ 1024 < 4 * f.payload.length then (s.ringCount f.down 4, none)
  else if (f.src, f.slot, f.cycle) ∈ k.seen then (s, none)
  else if !loose && (if known then !fitsSlot type f sl else type ≠ 1 || !ws.isEmpty) then (s.ringCount f.down 4, none)
  else
    let d := if loose || !known then 0 else deviation s f (sl.startMt * 20)
    if (acceptNs s f.down * 1000 : Nat) < d.natAbs then (s.ringCount f.down 5, none)
    else
      let s := (s.modIface f.down fun k => { k with seen := (f.src, f.slot, f.cycle) :: k.seen.take 1023 }).ringCount f.down 0
      (s, some d)

/-! ### Clock corrections (11 R404–R408) -/

/-- Changes the clock corrections. -/
def State.modClock (s : State) (f : ClockSync → ClockSync) : State := s.modDrove fun d => { d with clock := f d.clock }

/-- Fault-tolerant average (11 R407): the k largest and k smallest are discarded. -/
def fta (vs : List Int) : Int :=
  let n := vs.length
  let k := if 7 ≤ n then 2 else if 4 ≤ n then 1 else 0
  roundDiv (((sortInts vs).drop k).take (n - 2 * k)).sum (n - 2 * k)

/-- The number of values that `fta` discards at each end. -/
def ftaK (n : Nat) : Nat := if 7 ≤ n then 2 else if 4 ≤ n then 1 else 0

/-- The SYNC slots of a mode with their number among the SYNC slots (11 R404). -/
def syncSlots (ws : List Word) : List (Nat × Slot) :=
  ((slotsOfMode ws).filter fun sl => sl.kind == 1).zipIdx.map fun e => (e.2, e.1)

/-- The measurement of a SYNC frame from slot `i` of the SYNC slots. -/
def State.measure (s : State) (i : Nat) (d : Int) : State :=
  if bit s.drove.syncNow.exclude i then s
  else s.modClock fun c => { c with meas := c.meas ++ [(i, d)] }

/-- The device follows the ring time of its down-ring: the half of a top pair without the crook (15 R526). -/
def followsDown (s : State) : Bool := silentHalf s && !s.drove.cfg.upEn

/-- The interface on which the device measures. -/
def syncIface (s : State) : Bool := followsDown s

/-- Clamp of rate_ppb (11 R407). -/
def clampRate (s : State) (r : Int) : Int :=
  let m : Int := s.drove.syncNow.maxRatePpm * 1000
  clampInt (-m) m r

/-- The part of SYNC_STEP that corrects the clock (11 R407): the measurements of the cycle, with an own 0 where `self` says that
the node measures itself (R404); an own 0 takes part in the rate where `eligible` says that it is a sync-eligible sender. The
second part is o. A new rate waits for the next cycle. -/
def State.correct (s : State) (down : Bool) (self eligible : Bool) : State × Int :=
  let c := s.drove.clock
  let l := max 1 (ringCycleUs s down)
  let ds := c.meas.map (·.2) ++ (if self then [0] else [])
  let o := -fta ds
  let s := s.startOffset o
  let us := c.meas.map fun e => (e.1, e.2 - s.drove.clock.appliedPs)
  let first := if c.pos = 0 then us else c.first
  let rs := us.filterMap fun e => (first.find? fun g => g.1 == e.1).map fun g => roundDiv ((e.2 - g.2) * 1000) (7 * l)
  let rs := rs ++ (if eligible then [0] else [])
  let rate := if c.pos = 7 ∧ ¬ rs.isEmpty then clampRate s (c.ratePpb - fta rs) else c.ratePpb
  (s.modClock fun c => { c with
    first := first, ratePpb := rate, pos := (c.pos + 1) % 8, meas := []
    lastMeas := c.meas, lastPs := o, maxPs := max c.maxPs o.natAbs, nMeas := ds.length, discarded := ftaK ds.length }, o)

end Sys2Proof.Machine
end

