-- ==== Sys2Proof/Machine/Ring.lean ====
section
/-! DEFINITION. The Drove ring: node states, frames received and sent, links, loopback and the clock step (10, 11). -/

namespace Sys2Proof.Machine

/-! ### The topology table (11 R416, R423, R424) -/

/-- The address of member `n` of this device (11 R416, 02 R74). -/
def memberAddr (s : State) (n : Nat) : Nat :=
  let a := s.drove.devAddr
  let d := field a 18 2
  a + 2 ^ 18 + place (if d = 0 then 12 else if d = 1 then 6 else 0) n

/-- The two words of an entry. -/
def topoWords (addr : Nat) (e : TopoEntry) : List Word :=
  [wd (addr + place 20 (flag e.ubr) + place 21 (flag e.integrated) + place 22 (flag e.downRunning) + place 23 (flag e.healed)
      + place 24 (flag e.pair) + place 25 e.mode), wd (e.part + place 16 e.commit)]

/-- The table as system memory holds it (11 R423). -/
def State.writeTopo (s : State) : State := s.writeWords 0x01DA0000 (s.drove.topo.flatMap fun e => topoWords e.1 e.2)

/-- Changes an entry; a change adds 1 to GENERATION and is reported upward. The default entry is no entry. -/
def State.setTopo (s : State) (addr : Nat) (f : TopoEntry → TopoEntry) : State :=
  let old := look {} s.drove.topo addr
  let new := f old
  if new = old then s
  else (s.modDrove fun d => { d with
    topo := put {} d.topo addr new, generation := (d.generation + 1) % 2 ^ 32
    topoChanged := d.topoChanged.filter (· ≠ addr) ++ [addr] }).writeTopo

/-- The device's own entry. INTEGRATED is 1 for the top manager. -/
def State.refreshTopo (s : State) : State :=
  s.setTopo s.drove.devAddr fun _ =>
    { ubr := true, integrated := !s.drove.cfg.upEn || integrated s, downRunning := s.drove.down.state == .integrated, healed := s.drove.down.healed
      pair := s.pair.role ≠ .off, mode := s.dev.mode.num, part := part s.boot.variant, commit := s.cyc.commit.num }

/-! ### Members as their manager sees them -/

/-- Member `m` of the down-ring. -/
def memberOf (s : State) (m : Nat) : Member := look {} s.drove.members m

/-- Changes member `m`. -/
def State.modMember (s : State) (m : Nat) (f : Member → Member) : State :=
  s.modDrove fun d => { d with members := upd {} d.members m f }

/-- The numbers of the members that are INTEGRATED. -/
def presentMembers (s : State) : List Nat := (s.drove.members.filter fun e => e.2.integrated).map (·.1)

/-- PRESENT (10 R363). -/
def presentMask (s : State) : Nat := maskOf (presentMembers s)

/-- Queues a packet for a member. -/
def State.toMember (s : State) (m : Nat) (p : CmdPacket) : State :=
  s.modMember m fun k => { k with peer := { k.peer with out := k.peer.out ++ [p] } }

/-- The modes that are WRITTEN, ARMED or ACTIVE. -/
def writtenMask (s : State) : Nat := maskOf (s.drove.modes.map (·.1))

/-- A schedule-mode packet (10 R640). -/
def modePacket (s : State) (m : Nat) : CmdPacket :=
  { kind := 5
    words := wd (m + place 4 (flag (s.drove.active == some m)) + place 8 (writtenMask s) + place 16 s.drove.down.epoch) ::
      modeWords s true m }

/-- Sends every written mode to a member (10 R375). -/
def State.sendModes (s : State) (m : Nat) : State :=
  s.drove.modes.foldl (fun s e => s.toMember m (modePacket s e.1)) s

/-- Mode `m` is on its way to a member. -/
def Peer.carriesMode (p : Peer) (m : Nat) : Bool :=
  (p.out ++ p.sent.map (·.packet)).any fun q => q.kind == 5 && field (q.words.getD 0 0).toNat 0 3 == m

/-- Sends the written modes that a member neither holds nor is being sent: it was away when they were written (10 R375). -/
def State.sendMissing (s : State) (n : Nat) : State :=
  s.drove.modes.foldl (fun s e =>
    let k := memberOf s n
    if bit k.held e.1 || k.peer.carriesMode e.1 then s else s.toMember n (modePacket s e.1)) s

/-- The words of a changeover message: MSG in [3:0], CO_ID in [31:16] of word 0. DESIGN CHOICE: the spec gives no coding of
KIND 4 (log 67). -/
def coMsgWords : CoMsg → List Word
  | .prepare id x g l r => [wd (1 + place 4 (flag g) + place 5 (flag l) + place 6 (flag r) + place 16 id), wd x]
  | .report id n none => [wd (2 + place 16 id), wd n, 0]
  | .report id n (some (who, why)) => [wd (2 + place 4 1 + place 16 id), wd n, wd (who + place 24 why)]
  | .outcome id x c => [wd (3 + place 4 (flag c) + place 16 id), wd x]
  | .deferred id n => [wd (4 + place 16 id), wd n]

/-- The changeover message that words spell. -/
def coMsgOf (ws : List Word) : Option CoMsg :=
  let w := (ws.getD 0 0).toNat; let w1 := (ws.getD 1 0).toNat; let w2 := (ws.getD 2 0).toNat
  match field w 0 4 with
  | 1 => some (.prepare (field w 16 16) w1 (bit w 4) (bit w 5) (bit w 6))
  | 2 => some (.report (field w 16 16) w1 (if bit w 4 then some (field w2 0 20, field w2 24 8) else none))
  | 3 => some (.outcome (field w 16 16) w1 (bit w 4))
  | 4 => some (.deferred (field w 16 16) w1)
  | _ => none

/-- Sends a changeover message down to a member, or up to the manager above. -/
def State.coDown (s : State) (m : Nat) (msg : CoMsg) : State := s.toMember m { kind := 4, words := coMsgWords msg }
def State.coUp (s : State) (msg : CoMsg) : State := s.modDrove fun d => { d with upOut := d.upOut ++ [{ kind := 4, words := coMsgWords msg }] }

/-- A member becomes INTEGRATED for the manager: its address follows (11 R417), the modes that it lacks (10 R375), and the
outcome of the latest changeover (01 R42, R639). -/
def State.memberIn (s : State) (m : Nat) : State :=
  if (memberOf s m).integrated then s
  else
    let s := s.modMember m fun k => { k with integrated := true, missing := 0 }
    let s := s.toMember m { kind := 7, words := [0, wd (memberAddr s m)] }
    let s := match s.cyc.lastOutcome with
      | some o => if (memberOf s m).ubr then s.coDown m (.outcome o.1 o.2.1 o.2.2) else s
      | none => s
    (s.sendMissing m).setTopo (memberAddr s m) fun e =>
      { e with ubr := (memberOf s m).ubr, integrated := true, part := (memberOf s m).part }

/-- A member is lost: three ring cycles without a valid input frame (log 39). -/
def State.memberOut (s : State) (m : Nat) : State :=
  if (memberOf s m).integrated then
    (s.modMember m fun k => { k with integrated := false }).setTopo (memberAddr s m) fun e => { e with integrated := false }
  else s

/-- The address `a` of the subtree of `old` as it is below `new`; none where it would lie deeper than 3 (11 R416). -/
def rebase (old new a : Nat) : Option Nat :=
  let d := field old 18 2; let e := field new 18 2; let n := field a 18 2 - d
  let tier (x i : Nat) : Nat := field x (18 - 6 * i) 6
  if 3 < e + n then none
  else some (new + place 18 n + ((List.range n).map fun i => place (18 - 6 * (e + i + 1)) (tier a (d + i + 1))).sum)

/-- The address of this device changes: every member learns its own (11 R417), and the table follows. -/
def State.setAddress (s : State) (a : Nat) : State :=
  if s.drove.devAddr = a then s
  else
    let old := s.drove.devAddr
    let s := (s.modDrove fun d => { d with
      devAddr := a, generation := (d.generation + 1) % 2 ^ 32
      topo := d.topo.filterMap fun e => (rebase old a e.1).map fun b => (b, e.2) }).writeTopo
    (presentMembers s).foldl (fun s m => s.toMember m { kind := 7, words := [0, wd (memberAddr s m)] }) s

/-- ADDRESS from the manager above, which this device has joined: its whole table is new to that manager (11 R417, R423). -/
def State.takeAddress (s : State) (a : Nat) : State :=
  (s.setAddress a).modDrove fun d => { d with topoChanged := d.topo.map (·.1) }

/-! ### State changes of an interface -/

/-- The assignment ends (10 R381), and with it the address that came with it (11 R417). -/
def State.dropAssigned (s : State) : State :=
  (s.setAddress 0).modDrove fun d => { d with
    dropAssignment := false, member := none, granted := none, upModes := [], upWritten := 0, up := { d.up with tag := 0 } }

/-- The up-ring leaves the state in which it is: from INTEGRATED or MUTED its time is held (11 R413, R414), and an assignment that
RING.CONFIG ended is dropped (10 R381). -/
def State.leaveUp (s : State) : State :=
  let live := s.drove.up.state == .integrated || s.drove.up.state == .muted
  let s := s.modClock fun c => { c with
    holdover := c.holdover || live, slewing := false, slewLeft := 0, meas := [], pos := 0, first := [] }
  if s.drove.dropAssignment then s.dropAssigned else s

/-- Enters LISTEN: the listen time counts anew (10 R378, R383). -/
def State.enterListen (s : State) (down : Bool) : State :=
  let s := if down then s else s.leaveUp
  s.modIface down fun k => { k with
    state := .listen, listenFrom := s.now, timeSource := false, coldCycles := 0, failures := 0, guardGood := 0, lastSync := none
    announce := none, silentCycle := none, takeover := false, restoreCycle := none, syncAccepted := false, backoffUntil := none }

/-- A node that declares itself unsynchronised (10 R389). -/
def State.rejoin (s : State) (down : Bool) : State :=
  let s := if down then s else s.askGiveUp { cycle := none, handover := none }
  ((s.enterListen down).ringCount down 13).recordOpen 9 18 1

/-- The assignment holds for the ring of a SYNC frame: same tag, and its mode is held (10 R381). -/
def assigned (s : State) (mode : Nat) : Bool := s.drove.member.isSome && !(modeWords s false mode).isEmpty

/-- The member holds every written mode (10 R640). -/
def holdsAll (s : State) : Bool :=
  s.drove.upWritten ≠ 0 && (bitsOf 8 s.drove.upWritten).all fun m => !(modeWords s false m).isEmpty

/-! ### SYNC frames (10 R363, R377–R379, R384–R387; 11 R408, R413–R415) -/

/-- The fields of a SYNC payload (10 R363). -/
structure SyncBody where
  cycleUs : Nat
  baseUs : Nat
  slotTime : Nat
  inOffset : Nat
  cold : Bool
  rank : Nat
  healed : Bool
  breakLink : Nat
  restore : Bool
  joinMt : Nat
  restoreCycle : Nat
  epoch : Nat
  deriving DecidableEq, Repr

/-- Reads a SYNC payload. -/
def syncBody (ws : List Word) : SyncBody :=
  let w (i : Nat) : Nat := (ws.getD i 0).toNat
  { cycleUs := field (w 0) 0 14, baseUs := field (w 0) 14 14, slotTime := w 1 + place 32 (w 2), inOffset := field (w 3) 0 14
    cold := bit (w 3) 14, rank := field (w 3) 15 2, healed := bit (w 3) 17, breakLink := field (w 3) 18 7, restore := bit (w 3) 25
    joinMt := field (w 5) 16 16 + place 16 (field (w 3) 26 3), restoreCycle := w 4, epoch := field (w 5) 0 16 }

/-- A SYNC payload has 8 words and cycle lengths within R14 and R15. -/
def syncBodyOk (ws : List Word) : Bool :=
  let b := syncBody ws
  ws.length == 8 && 25 ≤ b.cycleUs && b.cycleUs ≤ 10000 && 25 ≤ b.baseUs && b.cycleUs % b.baseUs == 0

/-- The sender of a SYNC frame counts as rank 0 when it is the manager past its coldstart (10 R384). -/
def rankOf (f : Frame) (b : SyncBody) : Nat := if f.src = 0x80 ∧ ¬ b.cold then 0 else b.rank

/-- What every member learns from a SYNC frame of its up-ring (01 R16, R18; 10 R380, R402). -/
def State.learnSync (s : State) (f : Frame) (b : SyncBody) : State :=
  if f.down then s.modIface true fun k => { k with sourceRank := rankOf f b }
  else
    let s := s.modCyc fun c => { c with upLdev := b.cycleUs, upLbase := b.baseUs, upInOffset := b.inOffset }
    let s := s.modDrove fun d => { d with joinMt := b.joinMt, hopsSeen := if f.src = 0x80 then f.hops else d.hopsSeen }
    s.modIface false fun k => { k with
      tag := if k.tag = 0 then f.ringTag else k.tag, sourceRank := rankOf f b
      healed := if f.src = 0x80 then b.healed else k.healed
      breakLink := if f.src = 0x80 then b.breakLink else k.breakLink
      restoreCycle := if f.src = 0x80 then (if b.restore then some b.restoreCycle else none) else k.restoreCycle }

/-- What a node remembers of a SYNC frame. -/
def syncSeen (s : State) (f : Frame) (b : SyncBody) : SyncSeen :=
  { cycle := f.cycle, mode := f.mode, epoch := b.epoch, arrival := s.now, corr := f.corr }

/-- Sets ring time at the first valid SYNC (10 R379, 11 R413): within ACCEPT_NS of the held time as an offset
correction, else by a step. A tier manager's down-ring does not set it. -/
def State.setRingTime (s : State) (f : Frame) (b : SyncBody) : State :=
  if f.down ∧ s.drove.cfg.upEn then s
  else
    let t : Int := (b.slotTime + f.corr + inDelay s f : Nat)
    let o := t - s.ns
    if s.drove.clock.holdover ∧ o.natAbs ≤ acceptNs s f.down then
      (s.startOffset (o * 1000)).modClock fun c => { c with holdover := false }
    else (s.setDeviceTime t).modClock fun c => { c with holdover := false }

/-- A node in OBSERVE remembers a SYNC frame that opens a cycle, the one of slot 0 (10 R379). -/
def State.remember (s : State) (f : Frame) (b : SyncBody) : State :=
  s.modIface f.down fun k => { k with
    lastSync := if f.slot = 0 then some (syncSeen s f b) else k.lastSync, mode := f.mode, epoch := b.epoch, syncAccepted := true }

/-- Enters OBSERVE at a valid SYNC (10 R378, R384, R387). -/
def State.observe (s : State) (f : Frame) (b : SyncBody) : State :=
  (s.modIface f.down fun k => { k with
    state := .observe, lastSync := none, timeSource := false, coldCycles := 0, failures := 0, backoffUntil := none }).remember f b

/-- The full valid cycle of R379 between a remembered SYNC and this one. -/
def fullCycle (s : State) (f : Frame) (b : SyncBody) (g : SyncSeen) : Bool :=
  let next := (g.cycle + b.cycleUs / b.baseUs) % 2 ^ 32
  let interval : Int := ((s.now - g.arrival) * 1250 : Nat)
  let expected : Int := ((b.cycleUs * 1000 + f.corr) * 1000 : Nat) - ((g.corr * 1000 : Nat) : Int)
  f.cycle == next && f.mode == g.mode && b.epoch == g.epoch &&
    decide ((interval - expected).natAbs ≤ acceptNs s f.down * 1000)

/-- rate_ppb from the full valid cycle (11 R408): the interval is measured in timing clocks, which no rate corrects (log 127). -/
def State.rateFrom (s : State) (f : Frame) (b : SyncBody) (g : SyncSeen) : State :=
  let delta : Int := ((s.now - g.arrival) * 1250 : Nat) - ((b.cycleUs * 1000 + f.corr) * 1000 : Nat) + (g.corr * 1000 : Nat)
  (s.modClock fun c => { c with ratePpb := clampRate s (-roundDiv (delta * 1000) (max 1 b.cycleUs)), pos := 0, first := [] }).applyRate

/-- The offset between the up-ring time of a SYNC frame and the held time, in ns (11 R414). -/
def heldOffset (s : State) (f : Frame) (b : SyncBody) : Int := ((b.slotTime + f.corr + inDelay s f : Nat) : Int) - s.ns

/-- A tier manager in holdover whose down-ring runs (11 R414). -/
def heldTier (s : State) : Bool := s.drove.clock.holdover && s.drove.downStarted && s.drove.cfg.upEn

/-- Enters INTEGRATING: a rate block begins (11 R407). -/
def State.integrate (s : State) : State :=
  (s.modIface false fun k => { k with state := .integrating, failures := 0 }).modClock fun c => { c with pos := 0, first := [], meas := [] }

/-- The end of OBSERVE on the up-ring: INTEGRATING with an assignment, else JOINING (10 R378, R381). The SYNC frame that opens the
cycle is its first measurement (11 R404). -/
def State.observed (s : State) (f : Frame) : State :=
  if assigned s f.mode then s.integrate.measure 0 (deviation s f 0)
  else s.modIface false fun k => { k with state := .joining }

/-- A tier manager takes up the offset O at a full valid cycle (11 R414): it slews and stays in OBSERVE while O is above
ACCEPT_NS, or steps where O is above STEP_LIMIT_US. -/
def State.holdoverEnds (s : State) (f : Frame) (b : SyncBody) : State :=
  let o := heldOffset s f b
  if acceptNs s false < o.natAbs ∧ o.natAbs ≤ s.drove.sync.stepLimitUs * 1000 then
    s.modClock fun c => { c with slewing := true, slewLeft := o }
  else
    let s := if acceptNs s false < o.natAbs then s.recordOpen 9 22 1 else s
    ((s.setRingTime f b).modClock fun c => { c with slewing := false, slewLeft := 0 }).observed f

/-- What a node in OBSERVE does at a full valid cycle (10 R378, R381, R387; 11 R408, R414, R415). While it slews, a tier manager
keeps its rate; its down-ring's time is that of its up-ring (R410). -/
def State.leaveObserve (s : State) (f : Frame) (b : SyncBody) (g : SyncSeen) : State :=
  let s := if s.drove.clock.slewing || (f.down && s.drove.cfg.upEn) then s else s.rateFrom f b g
  if f.down then
    -- the manager of a ring driven by a coldstart member takes it over in this cycle
    s.modIface true fun k => { k with state := .integrated, takeover := true, lastSync := none }
  else if heldTier s then (s.remember f b).holdoverEnds f b
  else s.observed f

/-- The first valid SYNC in LISTEN sets ring time (10 R379, 11 R413), but on a tier manager in holdover whose down-ring runs,
which waits for the full valid cycle (11 R414; log 127). -/
def State.leaveListen (s : State) (f : Frame) (b : SyncBody) : State :=
  let s := s.learnSync f b
  if ¬ f.down ∧ heldTier s then s.observe f b else (s.setRingTime f b).observe f b

/-- An integrated member accepts a SYNC frame (10 R377): a mode other than its own is adopted or missed. -/
def State.followMode (s : State) (f : Frame) (b : SyncBody) : State :=
  let k := s.drove.up
  if f.mode = k.mode then s.modIface false fun k => { k with epoch := b.epoch }
  else if (modeWords s false f.mode).isEmpty then ((s.enterListen false).ringCount false 16)
  else
    (s.modIface false fun k => { k with
      mode := f.mode, epoch := b.epoch, announce := none, silentCycle := some (ringCycleNo s false) }).ringCount false 14

/-- The EPOCH of a SYNC is 0 or, at FIRST_CYCLE, 1 ahead of the node's own (10 R377). -/
def epochOk (k : Iface) (f : Frame) (b : SyncBody) : Bool :=
  let d := signed 16 (b.epoch + 2 ^ 16 - k.epoch)
  d == 0 || (d == 1 && (match k.announce with | some a => a.firstCycle == f.cycle | none => true))

/-- A valid SYNC frame was accepted with deviation `d`. -/
def State.onSync (s : State) (f : Frame) (b : SyncBody) (d : Int) : State :=
  let k := ifaceOf s f.down
  let own := if f.down then 0 else s.drove.cfg.rank
  let i := (syncSlots (modeInForce s f.down)).find? fun e => e.2.src == f.src
  let measured (s : State) : State :=
    match i with
    | some e => if f.down == syncIface s then s.measure e.1 d else s
    | none => s
  match k.state with
  | .listen =>
    if silentHalf s ∧ f.down ∧ ¬ followsDown s then s.modIface true fun k => { k with listenFrom := s.now }
    else s.leaveListen f b
  | .coldstart =>
    if rankOf f b < own ∨ k.backoffUntil.isSome then ((s.learnSync f b).setRingTime f b).observe f b
    else if rankOf f b = own ∧ ¬ f.down then (((s.learnSync f b).setRingTime f b).observe f b).ringCount f.down 18
    else s
  | .observe =>
    let s := s.learnSync f b
    (match k.lastSync with
    | some g => if f.slot = 0 ∧ fullCycle s f b g then s.leaveObserve f b g else s.remember f b
    | none => s.remember f b)
  | .joining => (s.learnSync f b).modIface false fun k => { k with mode := f.mode, epoch := b.epoch, syncAccepted := true }
  | .integrating | .integrated | .muted =>
    if f.down then
      (measured s).modIface true fun k => { k with syncAccepted := true }
    else if !epochOk k f b then s
    else
      let s := ((s.learnSync f b).modIface false fun k => { k with syncAccepted := true })
      (measured s).followMode f b
  | .disabled => s

/-- The back-off time B in timing clocks (10 R385). -/
def backoffClocks (s : State) (down : Bool) : Nat :=
  let l := clocksOfUs (ringCycleUs s down)
  let rank := if down then 0 else s.drove.cfg.rank
  (2 * rank + 1) * l + Config.serial.toNat % 16 * l / 16

/-- A node in COLDSTART backs off (10 R385); one that does so already goes on. -/
def State.backOff (s : State) (down : Bool) : State :=
  if (ifaceOf s down).backoffUntil.isSome then s
  else (s.modIface down fun k => { k with
    backoffUntil := some (s.now + backoffClocks s down), timeSource := false, coldCycles := 0 }).ringCount down 7

/-- The frame is the node's own. -/
def isOwn (s : State) (type : Nat) (f : Frame) : Bool :=
  if type = 5 ∧ f.src = 0xFE then natOfBytes ((f.payload.take 2).flatMap bytesOf) == Config.serial.toNat
  else ownSrc s f.down == some f.src

/-- Receives a frame: forwards it, and answers whether the node looks at it (10 R368, R370). -/
def State.receive (s : State) (type : Nat) (f : Frame) : State × Bool :=
  let k := ifaceOf s f.down
  if k.state = .disabled then (s, false)
  else
    let own := isOwn s type f
    let s := s.forwardFrame type f own
    let s := if own ∧ type = 1 ∧ f.down then s.modIface true fun k => { k with
        loopDelay := f.corr + k.linkB.delayNs, ringSize := if f.wrapped ∨ k.healed then k.ringSize else f.hops } else s
    (s, !own)

/-- SYNC_FRAME (10 R363, R379, R384–R387). -/
def syncFrame (f : Frame) (s : State) : State :=
  match s.receive 1 f with
  | (s, false) => s
  | (s, true) =>
    let k := ifaceOf s f.down
    let s := if k.state = .coldstart ∧ f.crc ≠ .good then s.backOff f.down else s
    let loose := k.state == .listen || k.state == .coldstart || k.state == .observe || k.state == .joining
    match s.takeFrame 1 f loose with
    | (s, none) => s
    | (s, some d) => if syncBodyOk f.payload then s.onSync f (syncBody f.payload) d else s.ringCount f.down 4

def execSyncFrame (f : Frame) (t : Nat) (s : State) : Host.Outcome State Fault Refusal := event true t (syncFrame f) s

/-! ### DATA frames (10 R364, R374, 01 R22, R25, R29) -/

/-- The data-word offset of a DATA slot in the concatenation of its direction (10 R374). -/
def dataOffset (ws : List Word) (i : Nat) : Nat :=
  let sl := slotAt ws i
  (((List.range i).map (slotAt ws)).filter fun o => o.kind == 2 && o.src == sl.src && o.dst == sl.dst).map (fun o => o.lenW - 1) |>.sum

/-- The DATA slots of a mode from `src` to `dst`. -/
def dataSlots (ws : List Word) (src dst : Nat) : List Nat :=
  (List.range (nSlots ws)).filter fun i =>
    let sl := slotAt ws i
    sl.kind == 2 && sl.src == src && sl.dst == dst

/-- The device cycle in progress has passed its commit point (01 R19). -/
def pastCommitPoint (s : State) : Bool :=
  let l := clocksOfUs (max 1 (lDev s))
  l ≤ s.clock % l + 1600

/-- An output frame reaches a member (01 R22, R25): a wrong tag or one past the commit point is discarded. -/
def State.outputFrame (s : State) (f : Frame) : State :=
  if f.cycle ≠ devCycle s ∨ pastCommitPoint s then
    s.modCyc fun c => { c with lateOutputs := sat32 c.lateOutputs }
  else
    let st := (f.payload.getD 0 0).toNat
    let o : OutFrame := { slot := f.slot, tag := f.cycle, inOk := bit st 0, release := bit st 16, words := f.payload.drop 1 }
    s.modDrove fun d => { d with outFrames := d.outFrames.filter (fun g => g.slot ≠ f.slot && g.tag == f.cycle) ++ [o] }

/-- The answers of the members to an announced switch (10 R376): the first one that a member gives within its window counts,
until two ring cycles before FIRST_CYCLE. -/
def State.takeVote (s : State) (m : Nat) : State :=
  let v := field (memberOf s m).status 17 2
  match s.cyc.changeover, s.drove.down.announce with
  | some c, some a =>
    if v = 0 ∨ ¬ c.announced ∨ ¬ c.voters.contains m ∨ look 0 c.votes m ≠ 0 ∨
        0 ≤ cycDiff (ringCycleAfter s true (ringCycleNo s true) 2) a.firstCycle then s
    else s.modCyc fun y => { y with changeover := some { c with votes := put 0 c.votes m v } }
  | _, _ => s

/-- The position of the sender of an input frame (10 R393): the nodes that it passed on the intact ring are those behind it. -/
def positionOf (s : State) (f : Frame) : Nat :=
  let k := s.drove.down
  if f.wrapped ∨ k.healed ∨ k.ringSize ≤ f.hops then (memberOf s f.src).hops else k.ringSize - 1 - f.hops

/-- An input frame reaches the manager (01 R29, 10 R374). -/
def State.inputFrame (s : State) (f : Frame) : State :=
  let ws := modeInForce s true
  let m := f.src
  let off := dataOffset ws f.slot
  if f.cycle ≠ ringCycleNo s true then s
  else
    let s := s.modMember m fun k =>
      let slots := if k.lastTag = some f.cycle then k.slots ++ [f.slot] else [f.slot]
      { k with
        status := (f.payload.getD 0 0).toNat, lastTag := some f.cycle, slots := slots, sinceRun := true, missing := 0
        hops := positionOf s f
        inputsTag := if (dataSlots ws m 0x80).all slots.contains then some f.cycle else k.inputsTag
        words := (f.payload.drop 1).zipIdx.foldl (fun t e => put 0 t (off + e.2) e.1.toNat) k.words }
    (s.memberIn m).takeVote m

/-- Every input frame of member `m` tagged `cycle` arrived valid: IN_OK (01 R22). -/
def inputsComplete (s : State) (m cycle : Nat) : Bool :=
  let k := memberOf s m
  let need := dataSlots (modeInForce s true) m 0x80
  k.lastTag == some cycle && !need.isEmpty && need.all k.slots.contains

/-- DATA_FRAME (10 R364). -/
def dataFrame (f : Frame) (s : State) : State :=
  match s.receive 2 f with
  | (s, false) => s
  | (s, true) =>
    let st := (ifaceOf s f.down).state
    match s.takeFrame 2 f false with
    | (s, none) => s
    | (s, some _) =>
      if f.down then (if st = .integrated ∧ f.dst = 0x80 ∧ f.src < 64 then s.inputFrame f else s)
      else if (st = .integrating ∨ st = .integrated ∨ st = .muted) ∧ s.drove.member = some f.dst ∧ f.src = 0x80 then
        s.outputFrame f
      else s

def execDataFrame (f : Frame) (t : Nat) (s : State) : Host.Outcome State Fault Refusal := event true t (dataFrame f) s

/-! ### MODE and JOIN frames (10 R366, R367, R376, R380, R386) -/

/-- A MODE frame reaches a member. -/
def State.onMode (s : State) (f : Frame) : State :=
  let w (i : Nat) : Nat := (f.payload.getD i 0).toNat
  let a : Announce := { newMode := field (w 0) 4 3, newEpoch := field (w 0) 16 16, firstCycle := w 1, coId := field (w 2) 0 16 }
  match field (w 0) 0 4, s.drove.up.announce with
  | 1, some o =>
    if o.firstCycle = a.firstCycle ∧ o.newMode = a.newMode then s
    else s.modIface false fun k => { k with announce := some { a with seen := ringCycleNo s false } }
  | 1, none => s.modIface false fun k => { k with announce := some { a with seen := ringCycleNo s false } }
  | 2, _ => s.modIface false fun k => { k with announce := some { a with confirmed := true, seen := ringCycleNo s false } }
  | 3, some _ => (s.modIface false fun k => { k with announce := none }).ringCount false 15
  | 4, _ => s.modIface false fun k => { k with takeover := k.state == .coldstart }
  | _, _ => s

/-- MODE_FRAME. -/
def modeFrame (f : Frame) (s : State) : State :=
  match s.receive 4 f with
  | (s, false) => s
  | (s, true) =>
    match s.takeFrame 4 f false with
    | (s, none) => s
    | (s, some _) =>
      let st := (ifaceOf s f.down).state
      if f.down ∨ f.src ≠ 0x80 ∨ f.payload.length ≠ 3 then s
      else if st = .integrating ∨ st = .integrated ∨ st = .muted ∨ st = .coldstart then s.onMode f
      else s

def execModeFrame (f : Frame) (t : Nat) (s : State) : Host.Outcome State Fault Refusal := event true t (modeFrame f) s

/-- SERIAL of a JOIN payload. -/
def joinSerial (f : Frame) : Nat := (f.payload.getD 0 0).toNat + place 32 (f.payload.getD 1 0).toNat

/-- The member number for a joining node (10 R380): by SERIAL, else by position, which a HEALED ring does not grant. -/
def joinNumber (s : State) (serial hops : Nat) : Option Nat :=
  match s.drove.cfg.serials.findIdx? (· == serial) with
  | some n => some n
  | none => if s.drove.cfg.serials.getD hops 1 = 0 ∧ ¬ s.drove.down.healed then some hops else none

/-- A JOIN request reaches the manager (10 R380), which answers in the cycle after: none is granted while a mode switch is
announced (R376). -/
def State.joinRequest (s : State) (f : Frame) : State :=
  let w := (f.payload.getD 2 0).toNat
  let serial := joinSerial f
  if s.drove.down.announce.isSome then s
  else match joinNumber s serial (field w 8 8) with
    | none => s.modDrove fun d => { d with grant := some (serial, none, ringCycleNo s true) }
    | some n =>
      let s := s.modDrove fun d => { d with grant := some (serial, some n, ringCycleNo s true) }
      -- the station word and the data words keep the last valid values (01 R29)
      ((s.memberOut n).modMember n fun k => { k with
        ubr := bit w 16, part := field (f.payload.getD 3 0).toNat 0 16, hops := field w 8 8, peer := {}, held := 0, slots := [] }).sendModes n

/-- A JOIN grant with the node's SERIAL (10 R380, R381). -/
def State.joinGrant (s : State) (f : Frame) : State :=
  let w := (f.payload.getD 2 0).toNat
  let n := field w 2 6
  if joinSerial f ≠ Config.serial.toNat ∨ s.drove.up.state ≠ .joining then s
  else if bit w 1 then (s.modDrove fun d => { d with joinWait := 64 }).ringCount false 17
  else
    let s := s.modDrove fun d => { d with granted := some n, above := {}, aboveAll := {}, upOut := [] }
    if s.drove.member = some n then s else s.modDrove fun d => { d with member := some n, upModes := [], upWritten := 0 }

/-- JOIN_FRAME. -/
def joinFrame (f : Frame) (s : State) : State :=
  match s.receive 5 f with
  | (s, false) => s
  | (s, true) =>
    let st := (ifaceOf s f.down).state
    match s.takeFrame 5 f (st == .joining && f.src == 0x80 && joinSerial f == Config.serial.toNat) with
    | (s, none) => s
    | (s, some _) =>
      if f.payload.length ≠ 4 then s
      else if f.down then (if st = .integrated ∧ f.src = 0xFE then s.joinRequest f else s)
      else if f.src = 0x80 then s.joinGrant f else s

def execJoinFrame (f : Frame) (t : Nat) (s : State) : Host.Outcome State Fault Refusal := event true t (joinFrame f) s

/-! ### CMD frames: fragments, acknowledgement and order (10 R365) -/

/-- `a` is at or before `b` by signed 16-bit difference. -/
def seqLe (a b : Nat) : Bool := signed 16 (a + 2 ^ 16 - b) ≤ 0

/-- Packets acknowledged by ACK_SEQ leave the list. -/
def Peer.acked (p : Peer) (ack : Nat) : Peer × List CmdPacket :=
  let done := p.sent.filter fun e => e.sentCycle.isSome && seqLe e.seq ack
  ({ p with sent := p.sent.filter fun e => !(e.sentCycle.isSome && seqLe e.seq ack) }, done.map (·.packet))

/-- Packets that follow without a gap are delivered. -/
def Peer.drain : Nat → Peer → List CmdPacket → Peer × List CmdPacket
  | 0, p, l => (p, l)
  | n + 1, p, l =>
    match p.later.find? fun e => e.1 == p.recvNext with
    | some e => Peer.drain n { p with recvNext := (p.recvNext + 1) % 2 ^ 16, later := p.later.filter fun g => g.1 ≠ e.1 } (l ++ [e.2])
    | none => (p, l)

/-- A fragment arrives: the peer, and the packets that are delivered in PKT_SEQ order. -/
def Peer.fragment (p : Peer) (w0 : Nat) (ws : List Word) : Peer × List CmdPacket :=
  let seq := field w0 0 16; let frag := field w0 16 8; let last := bit w0 24; let kind := field w0 25 3
  if kind = 6 ∨ (p.recvAny ∧ seqLe seq ((p.recvNext + 2 ^ 16 - 1) % 2 ^ 16)) ∨ p.later.any (fun e => e.1 == seq) then (p, [])
  else
    let got : Option (List Word) :=
      if frag = 0 then some ws
      else match p.inProgress with
        | some (q, n, _, l) => if q = seq ∧ n = frag then some (l ++ ws) else none
        | none => none
    match got with
    | none => (p, [])
    | some l =>
      if !last then ({ p with inProgress := some (seq, frag + 1, kind, l) }, [])
      else
        let p := { p with inProgress := none, recvAny := true, later := p.later ++ [(seq, { kind := kind, words := l })] }
        Peer.drain (p.later.length) p []

/-- The next CMD payload for a peer (10 R365): `most` words fit; `cycle` is the cycle in progress and `overdue` says of a
cycle of sending that its acknowledgement is missing. Packets other than commands are sent again by themselves until they are
acknowledged, and so are commands given up with ST_TIMEOUT, without which the receiver would keep every later packet back (log 94). -/
def Peer.nextPayload (p : Peer) (most cycle : Nat) (overdue : Nat → Bool) : Peer × List Word :=
  let again (e : SentPacket) : Bool :=
    (e.packet.kind ≠ 0 || e.given) && (match e.sentCycle with | some c => overdue c | none => false)
  let sent := p.sent.map fun e => if again e then { e with sentWords := 0, frag := 0, sentCycle := none, resent := true } else e
  let (sent, out, seq) :=
    if sent.any (fun e => e.sentCycle.isNone) then (sent, p.out, p.sendSeq)
    else match p.out with
      | q :: r => (sent ++ [{ seq := p.sendSeq, packet := q }], r, (p.sendSeq + 1) % 2 ^ 16)
      | [] => (sent, [], p.sendSeq)
  let ackWord := if p.recvAny then wd ((p.recvNext + 2 ^ 16 - 1) % 2 ^ 16 + 2 ^ 16) else 0
  let p := { p with sent := sent, out := out, sendSeq := seq }
  match sent.find? fun e => e.sentCycle.isNone with
  | none => (p, [wd (place 24 1 + place 25 6), ackWord])
  | some e =>
    let ws := (e.packet.words.drop e.sentWords).take (min 254 (most - 2))
    let last := e.packet.words.length ≤ e.sentWords + ws.length
    let e' : SentPacket := { e with
      sentWords := e.sentWords + ws.length, frag := e.frag + 1, sentCycle := if last then some cycle else none }
    ({ p with sent := sent.map fun g => if g.seq = e.seq then e' else g },
     [wd (e.seq + place 16 (e.frag % 256) + place 24 (flag last) + place 25 e.packet.kind), ackWord] ++ ws)

/-- A changeover message is sent again, its acknowledgement missing: a transient fault on the way of the changeover (01 R44). -/
def Peer.resends (p : Peer) (overdue : Nat → Bool) : Bool :=
  p.sent.any fun e => e.packet.kind == 4 && (match e.sentCycle with | some c => overdue c | none => false)

/-- What the acknowledgement of packets to member `m` shows (10 R375, R399): a schedule mode is held. -/
def State.memberAcked (s : State) (m : Nat) (ps : List CmdPacket) : State :=
  ps.foldl (fun s p =>
    if p.kind = 5 then
      let mode := field (p.words.getD 0 0).toNat 0 3
      s.modMember m fun k => { k with held := setBit k.held mode (p.words.drop 1 == modeWords s true mode || bit k.held mode) }
    else s) s

/-- A CMD frame was received: the acknowledged command packets (as their words), the delivered packets, and the member
it came from, none for the manager above. -/
structure CmdTaken where
  src : Option Nat
  acked : List CmdPacket
  packets : List CmdPacket
  deriving DecidableEq, Repr

/-- Takes the payload of a CMD frame (10 R365). -/
def State.takeCmd (s : State) (f : Frame) : State × CmdTaken :=
  let w0 := (f.payload.getD 0 0).toNat
  let w1 := (f.payload.getD 1 0).toNat
  let step (p : Peer) : Peer × List CmdPacket × List CmdPacket :=
    let (p, done) := if bit w1 16 then p.acked (field w1 0 16) else (p, [])
    let (p, got) := p.fragment w0 (f.payload.drop 2)
    (p, done, got)
  if f.down then
    let (p, done, got) := step (memberOf s f.src).peer
    ((s.modMember f.src fun k => { k with peer := p }).memberAcked f.src done, { src := some f.src, acked := done, packets := got })
  else if f.dst = 0xFF then
    -- what goes to all members has a numbering of its own, which a member takes up at the first packet that it receives
    let p := s.drove.aboveAll
    let (p, got) := (if p.recvAny then p else { p with recvNext := field w0 0 16 }).fragment w0 (f.payload.drop 2)
    (s.modDrove fun d => { d with aboveAll := p }, { src := none, acked := [], packets := got })
  else
    let (p, done, got) := step s.drove.above
    (s.modDrove fun d => { d with above := p }, { src := none, acked := done, packets := got })

/-- CMD_FRAME up to the delivery of its packets: validity, then R365. -/
def State.cmdFrameIn (s : State) (f : Frame) : State × Option CmdTaken :=
  match s.receive 3 f with
  | (s, false) => (s, none)
  | (s, true) =>
    let st := (ifaceOf s f.down).state
    let forMe := if f.down then f.dst == 0x80 else s.drove.member == some f.dst || f.dst == 0xFF
    match s.takeFrame 3 f (st == .joining && s.drove.granted.isSome && forMe) with
    | (s, none) => (s, none)
    | (s, some _) =>
      let ready := if f.down then st == .integrated && f.src < 64
        else (st == .joining && s.drove.granted.isSome) || st == .integrating || st == .integrated || st == .muted
      if forMe ∧ ready ∧ 2 ≤ f.payload.length then
        let (s, c) := s.takeCmd f
        (s, some c)
      else (s, none)

/-- A schedule-mode packet reaches a member (10 R640). -/
def State.takeMode (s : State) (ws : List Word) : State :=
  let w := (ws.getD 0 0).toNat
  let m := field w 0 3
  s.modDrove fun d => { d with upModes := put [] d.upModes m (ws.drop 1), upWritten := field w 8 8 }

/-! ### Sending (10 R363, R364, R371, R376, R380, R390) -/

/-- The SYNC payload that the node sends (10 R363). -/
def syncPayload (s : State) (down : Bool) (i : Nat) : List Word :=
  let k := ifaceOf s down
  let sl := slotAt (modeInForce s down) i
  let join := ((slotsOfMode (modeInForce s down)).find? fun e => e.kind == 5).map (·.startMt)
  let mt := match join with | some m => m | none => s.drove.joinMt
  let cold := k.state == .coldstart
  let rank := if down then 0 else s.drove.cfg.rank
  let slotNs := nsOf (ringCycleStart s down) + sl.startMt * 20
  let inOff := if down then s.drove.cfg.inOffsetUs else s.cyc.upInOffset
  let rc := match k.restoreCycle with | some c => (1, c) | none => (0, 0)
  let present := if down then presentMask s else 0
  [wd (ringCycleUs s down + place 14 (ringBaseUs s down))] ++ wd2 slotNs ++
    [wd (inOff + place 14 (flag cold) + place 15 rank + place 17 (flag k.healed) + place 18 k.breakLink + place 25 rc.1
       + place 26 (mt / 2 ^ 16)), wd rc.2, wd (k.epoch + place 16 (mt % 2 ^ 16))] ++ wd2 present

/-- MODE_RESP of a member (10 R376): ACK if it holds the announced mode, from the cycle after that in which it saw ANNOUNCE up to
three cycles before FIRST_CYCLE. -/
def modeResp (s : State) : Nat :=
  match s.drove.up.announce with
  | some a =>
    let now := ringCycleNo s false
    if cycDiff now a.seen ≤ 0 ∨ 0 < cycDiff (ringCycleAfter s false now 3) a.firstCycle then 0
    else if (modeWords s false a.newMode).isEmpty then 2
    else 1
  | none => 0

/-- The status word of a member's input frames (10 R364). -/
def memberStatus (s : State) : Nat :=
  let k := s.drove.up
  let c := s.cyc
  place 1 (flag (c.commit == .holding)) + place 2 (flag (c.commit == .substitute)) + place 3 (flag (c.commit == .latched)) +
    place 4 (flag (c.firstCommitted && c.lastApplied == (devCycle s + 2 ^ 32 - cycleStep s) % 2 ^ 32)) + place 8 c.miss + place 17 (modeResp s) +
    place 19 (flag k.linkA.looped) + place 20 (flag k.linkB.looped) + place 21 (flag k.linkA.up) + place 22 (flag k.linkB.up)

/-- The payload of a DATA slot. -/
def dataPayload (s : State) (down : Bool) (i : Nat) : List Word :=
  let ws := modeInForce s down
  let sl := slotAt ws i
  let off := dataOffset ws i
  let n := sl.lenW - 1
  if down then
    let st := flag (inputsComplete s sl.dst (ringCycleNo s true)) + place 16 (flag (s.drove.release.contains sl.dst))
    wd st :: (List.range n).map fun j => wd (look 0 s.drove.outWords (sl.dst * 1024 + off + j))
  else wd (memberStatus s) :: (List.range n).map fun j => s.drove.upWords.getD (off + j) 0

/-- The MODE payload of the manager in this cycle, if it sends one (10 R376, R386): CONFIRM or CANCEL two cycles before
FIRST_CYCLE, ANNOUNCE before. -/
def modePayload (s : State) : Option (List Word) :=
  let k := s.drove.down
  let words (op : Nat) (a : Announce) : List Word :=
    [wd (op + place 4 a.newMode + place 16 a.newEpoch), wd a.firstCycle, wd a.coId]
  if k.takeover then some [wd (4 + place 4 k.mode + place 16 k.epoch), 0, 0]
  else match k.announce with
    | none => none
    | some a =>
      let now := ringCycleNo s true
      if ringCycleAfter s true now 2 = a.firstCycle then some (words (if a.confirmed then 2 else 3) a)
      else if ringCycleAfter s true now 1 = a.firstCycle then none
      else some (words 1 a)

/-- The start of slot `i` in the ring cycle in progress, in timing clocks from the cycle's start: that of the mode in force, of the
JOIN_REQ slot that SYNC names, or of slot 0 (10 R371, R380, R384). -/
def slotClocks (s : State) (down : Bool) (i : Nat) : Nat :=
  let k := ifaceOf s down
  if k.state = .joining then s.drove.joinMt * 16
  else if k.state = .coldstart then 0
  else (slotAt (modeInForce s down) i).startMt * 16

/-- The slot begins at the present clock, or began within the 40 ns in which the guardian lets a frame begin (10 R390), and the node
has not sent in it yet. -/
def slotOpen (s : State) (down : Bool) (i : Nat) : Bool :=
  let at' := ringCycleStart s down + slotClocks s down i
  decide (at' ≤ s.clock) && decide (s.clock ≤ at' + 32) && (ifaceOf s down).lastSlot ≠ some (ringCycleStart s down, i)

/-- The frame that the node sends in slot `i`, with its TYPE, and the state after. -/
def slotFrame (s : State) (down : Bool) (i : Nat) : State × Option (Nat × Frame) :=
  let k := ifaceOf s down
  let ws := modeInForce s down
  let sl := slotAt ws i
  let mk (src dst : Nat) (ws : List Word) : Frame :=
    { down := down, portB := false, src := src, dst := dst, ringTag := k.tag, slot := i, mode := k.mode, cycle := ringCycleNo s down
      payload := ws }
  let sends := k.state == .integrated
  let data := sends && (!down || !s.drove.cfg.upEn || integrated s) && !(down && s.dev.mode == .graze)
  if silentHalf s ∨ justTook s down then (s, none)
  else if k.state = .joining then
    -- a JOIN request goes out in the JOIN_REQ slot, which a node without a schedule knows from SYNC
    if down ∨ s.drove.granted.isSome ∨ s.drove.joinWait ≠ 0 then (s, none)
    else
      let hops := s.drove.hopsSeen
      let ser := Config.serial.toNat
      let c := s.drove.cfg
      (s, some (5, mk 0xFE 0x80 (wd2 ser ++ [wd (place 8 hops + place 16 1 + place 17 (flag c.coldCap) + place 18 c.rank),
        wd (part s.boot.variant)])))
  else if k.state = .coldstart then
    if i ≠ 0 ∨ k.backoffUntil.isSome then (s, none)
    else match ownSrc s down with
      | some src =>
        let s' := s.modIface down fun k => { k with coldCycles := k.coldCycles + 1, timeSource := true }
        (s', some (1, mk src 0xFF (syncPayload s down 0)))
      | none => (s, none)
  else if !sends || nSlots ws ≤ i || ownSrc s down ≠ some sl.src || k.silentCycle == some (ringCycleNo s down) then (s, none)
  else match sl.kind with
    | 1 => if down ∧ k.takeover then (s, none) else (s, some (1, mk sl.src sl.dst (syncPayload s down i)))
    | 2 => if data then (s, some (2, mk sl.src sl.dst (dataPayload s down i))) else (s, none)
    | 3 =>
      if !data then (s, none)
      else
        let now := ringCycleNo s down
        let overdue (c : Nat) : Bool := 0 < cycDiff now (ringCycleAfter s down c 1)
        if down then
          let dst := if sl.dst = 0xFF then
              (s.drove.members.find? fun e => !e.2.peer.out.isEmpty || e.2.peer.sent.any fun g => g.sentCycle.isNone).map (·.1)
            else some sl.dst
          match dst with
          | none => (s, none)
          | some m =>
            let old := (memberOf s m).peer
            let (p, ws) := old.nextPayload sl.lenW now overdue
            let s := if old.resends overdue then s.modCyc fun y => { y with changeover := y.changeover.map fun c => { c with retried := true } } else s
            (s.modMember m fun k => { k with peer := p }, some (3, mk sl.src m ws))
        else
          let above := { s.drove.above with out := s.drove.above.out ++ s.drove.upOut }
          let (p, ws) := above.nextPayload sl.lenW now overdue
          (s.modDrove fun d => { d with above := p, upOut := [] }, some (3, mk sl.src sl.dst ws))
    | 4 =>
      (match modePayload s with
      | some ws => (if field (ws.getD 0 0).toNat 0 4 = 3 then s.ringCount true 15 else s, some (4, mk sl.src sl.dst ws))
      | none => (s, none))
    | 6 =>
      (match s.drove.grant with
      | some (serial, n, asked) =>
        let w := 1 + place 1 (flag n.isNone) + place 2 (n.getD 0)
        if asked = ringCycleNo s true then (s, none)
        else (s.modDrove fun d => { d with grant := none }, some (5, mk sl.src sl.dst (wd2 serial ++ [wd w, 0])))
      | none => (s, none))
    | _ => (s, none)

/-- SLOT_START (10 R371, R385, R390): the own frame goes out at its slot start, or is dropped where a forwarded frame
occupies the lane for more than 40 ns. -/
def slotStart (down : Bool) (i : Nat) (s : State) : State :=
  let k := ifaceOf s down
  let at' := ringCycleStart s down + slotClocks s down i
  if k.state = .muted ∨ k.state = .disabled ∨ ¬ slotOpen s down i then s
  else match slotFrame s down i with
    | (s, none) => s
    | (t, some (type, f)) =>
      if at' + 32 < s.clock + (laneBusy k down - s.now) then
        let s := s.ringCount down 6
        if k.state = .coldstart then s.backOff down else s
      else (t.modIface down fun k => { k with lastSlot := some (ringCycleStart s down, i) }).sendFrame down type f

def execSlotStart (down : Bool) (i t : Nat) (s : State) : Host.Outcome State Fault Refusal :=
  event (i < 512) t (slotStart down i) s

/-! ### Links (10 R359, R360, R392, R394, R395) -/

/-- The ports of an interface are enabled: by DOWN_EN (10 R398), or while the up-ring is not DISABLED (R378, R401). -/
def portsOn (s : State) (down : Bool) : Bool := if down then s.drove.cfg.downEn else s.drove.up.state ≠ .disabled

/-- A neighbour's port that shows a crossed link: UA facing UA, or UB facing UB (10 R359). -/
def crossed (b : Beacon) : Bool := (!b.down && !b.portB && b.port == 0) || (!b.down && b.portB && b.port == 1)

/-- The STATUS beacon that a port sends (10 R359). -/
def statusBeacon (s : State) (down portB : Bool) : Beacon :=
  let k := ifaceOf s down
  let l := linkOf k portB
  { down := down, portB := portB, btype := 0, state := k.state.num, port := place 1 (flag down) + flag portB, rxOk := l.rxOk
    ringTag := k.tag, looped := l.looped }

/-- A port sends its STATUS beacon: one whose content has changed, or one of those that go out every µs (R359; log 133). -/
def State.sendStatus (s : State) (down portB : Bool) : State := s.emit (.beacon (statusBeacon s down portB))

/-- A condition of R360 for DOWN holds at a port: a link that was UP goes DOWN, and the node loops there (R392). -/
def State.linkLost (s : State) (down portB : Bool) : State :=
  let l := linkOf (ifaceOf s down) portB
  let s := s.modLink down portB fun l => { l with up := false, looped := true, badAt := s.now }
  let s := if l.up then s.ringCount down 9 else s
  let s := if l.looped ∨ down then s else s.ringCount down 10
  if l.looped then s else s.sendStatus down portB

/-- A port's link goes DOWN: its lane has lost lock, hi_ber is set, or no STATUS beacon has come for 4 µs (10 R360, R392). -/
def linkDown (down portB : Bool) (s : State) : State :=
  if !portsOn s down then s else (s.modLink down portB fun l => { l with rxOk := false }).linkLost down portB

/-- A port's link is UP after 1 ms without a DOWN condition (10 R360). The loop stays until it is restored (R394), but on
a node that is not integrated there is nothing to restore. -/
def linkUp (down portB : Bool) (s : State) : State :=
  let k := ifaceOf s down
  let l := linkOf k portB
  if !portsOn s down || l.up || !l.rxOk || !l.peerOk || l.crossed || s.now < l.badAt + clocksOfUs 1000 then s
  else
    let live := k.state == .integrated || k.state == .muted
    let s := s.modLink down portB fun l => { l with up := true, looped := l.looped && live }
    let s := if k.state = .listen ∧ !k.linkA.up ∧ !k.linkB.up then s.modIface down fun k => { k with listenFrom := s.now } else s
    s.sendStatus down portB

/-- The mean of up to eight answers in ps, in whole ns. -/
def meanDelay (l : List Nat) : Nat := (roundDiv (l.sum : Nat) (1000 * max 1 l.length)).toNat

/-- A STATUS beacon (10 R359, R360, R394): a crossed link counts once, when its beacons first show it. -/
def State.takeStatus (s : State) (b : Beacon) : State :=
  let l := linkOf (ifaceOf s b.down) b.portB
  let good := b.rxOk && !crossed b
  let s := s.modLink b.down b.portB fun l => { l with
    rxOk := true, peerOk := b.rxOk, peerLooped := b.looped, crossed := crossed b
    badAt := if good ∧ l.rxOk ∧ l.peerOk ∧ ¬ l.crossed then l.badAt else s.now }
  let s := if crossed b ∧ ¬ l.crossed then (s.ringCount b.down 19).recordOpen 9 21 1 else s
  let k := ifaceOf s b.down
  if !good then s.linkLost b.down b.portB
  -- a node that restored while its neighbour still loops, loops again at once
  else if b.looped ∧ l.up ∧ ¬ l.looped ∧ (k.state = .integrated ∨ k.state = .muted) then
    let s := s.modLink b.down b.portB fun l => { l with looped := true }
    (if b.down then s else s.ringCount b.down 10).sendStatus b.down b.portB
  else s

/-- A port that is DOWN and looped carries STATUS beacons only (10 R392). -/
def statusOnly (s : State) (down portB : Bool) : Bool :=
  let l := linkOf (ifaceOf s down) portB
  l.looped && !l.up

/-- BEACON (10 R359): link state, delay requests and their answers. -/
def beacon (b : Beacon) (s : State) : State :=
  if !portsOn s b.down then s
  else match b.btype with
    | 0 => s.takeStatus b
    | 1 => if statusOnly s b.down b.portB then s else s.emit (.beacon { b with btype := 2, turn := 0 })
    | 2 =>
      let l := linkOf (ifaceOf s b.down) b.portB
      if !l.reqOpen || b.seq ≠ l.reqSeq then s
      else
        let ps := ((s.now - l.reqAt) * 1250 - b.turn * 1250) / 2
        let answers := (ps :: l.answers).take 8
        s.modLink b.down b.portB fun l => { l with answers := answers, delayNs := meanDelay answers, reqOpen := false }
    | _ => s

def execBeacon (b : Beacon) (t : Nat) (s : State) : Host.Outcome State Fault Refusal := event true t (beacon b) s

/-- A port's DELAY_REQ is due: every 1 ms (10 R359). -/
def delayDue (s : State) (down portB : Bool) : Bool :=
  portsOn s down && !statusOnly s down portB && decide ((linkOf (ifaceOf s down) portB).reqAt + clocksOfUs 1000 ≤ s.now)

/-- A port sends its DELAY_REQ. -/
def State.sendDelayReq (s : State) (down portB : Bool) : State :=
  let seq := ((linkOf (ifaceOf s down) portB).reqSeq + 1) % 256
  (s.modLink down portB fun l => { l with reqSeq := seq, reqAt := s.now, reqOpen := true }).emit
    (.beacon { down := down, portB := portB, btype := 1, seq := seq })

/-- DELAY_REQ (10 R359): on each enabled port, every 1 ms; a STATUS beacon goes out on each enabled port too. -/
def delayReq (s : State) : State :=
  [(false, false), (false, true), (true, false), (true, true)].foldl (fun s e =>
    let s := if portsOn s e.1 then s.sendStatus e.1 e.2 else s
    if delayDue s e.1 e.2 then s.sendDelayReq e.1 e.2 else s) s

def execDelayReq (t : Nat) (s : State) : Host.Outcome State Fault Refusal := event true t delayReq s

/-- BYPASS_INSERT (10 R395): the transmit lanes of UA and UB have run for 10 µs. -/
def bypassInsert (s : State) : State :=
  match s.drove.lanesFrom with
  | some t =>
    if portsOn s false ∧ t + clocksOfUs 10 ≤ s.now ∧ ¬ s.drove.bypassHigh then
      (s.modDrove fun d => { d with bypassHigh := true }).emit (.bypass true)
    else s
  | none => s

def execBypassInsert (t : Nat) (s : State) : Host.Outcome State Fault Refusal := event true t bypassInsert s

/-- The device leaves the up-ring: RING_BYPASS_N goes low (10 R395). -/
def State.bypassOff (s : State) : State :=
  if s.drove.bypassHigh then (s.modDrove fun d => { d with bypassHigh := false }).emit (.bypass false) else s

/-! ### Coldstart (10 R382–R387) -/

/-- The node may coldstart: the manager always, a member with its assignment. -/
def coldCapable (s : State) (down : Bool) : Bool :=
  if down then s.drove.downStarted && !silentHalf s else s.drove.cfg.coldCap && s.drove.member.isSome

/-- The listen time T_L in timing clocks (10 R383). -/
def listenClocks (s : State) (down : Bool) : Nat :=
  let l := clocksOfUs (ringCycleUs s down)
  let rank := if down then 0 else s.drove.cfg.rank
  (2 + rank) * l + Config.serial.toNat % 16 * l / 16

/-- LISTEN_TIMEOUT (10 R383, R386, R387). A ring without members needs no link. -/
def listenTimeout (down : Bool) (s : State) : State :=
  let k := ifaceOf s down
  let linked := k.linkA.up || k.linkB.up || (down && s.drove.cfg.serials.isEmpty)
  if k.state = .listen ∧ coldCapable s down ∧ linked ∧ k.listenFrom + listenClocks s down ≤ s.now then
    s.modIface down fun k => { k with state := .coldstart, timeSource := true, sourceRank := if down then 0 else s.drove.cfg.rank, coldCycles := 0 }
  else s

def execListenTimeout (down : Bool) (t : Nat) (s : State) : Host.Outcome State Fault Refusal :=
  event true t (listenTimeout down) s

/-- BACKOFF_END (10 R385). -/
def backoffEnd (down : Bool) (s : State) : State :=
  match (ifaceOf s down).backoffUntil with
  | some t => if t ≤ s.now then s.modIface down fun k => { k with backoffUntil := none, timeSource := k.state == .coldstart } else s
  | none => s

def execBackoffEnd (down : Bool) (t : Nat) (s : State) : Host.Outcome State Fault Refusal :=
  event true t (backoffEnd down) s

/-! ### The clock step (10 R389, R390; 11 R407) -/

/-- MUTED and back (10 R390): after eight consecutive cycles within GUARD_NS. -/
def State.guardStep (s : State) (o : Int) : State :=
  let k := s.drove.up
  let beyond := guardNs s false * 1000 < o.natAbs
  if k.state = .integrated ∧ beyond then
    (s.modIface false fun k => { k with state := .muted, guardGood := 0 }).ringCount false 12
  else if k.state = .muted then
    if beyond then s.modIface false fun k => { k with guardGood := 0 }
    else if 7 ≤ k.guardGood then s.modIface false fun k => { k with state := .integrated, guardGood := 0 }
    else s.modIface false fun k => { k with guardGood := k.guardGood + 1 }
  else s

/-- The end of the last SYNC slot of the ring cycle, and 1 µs: the instant of SYNC_STEP in timing clocks from the cycle's start
(11 R407). A node that does not hold the mode knows slot 0 alone. -/
def stepClocks (s : State) (down : Bool) : Nat :=
  clocksOfUs 1 + ((syncSlots (modeInForce s down)).map fun e => e.2.startMt * 16).foldl max 0 + wireClocks 32

/-- SYNC_STEP (11 R407): 1 µs after the last SYNC slot, once in a ring cycle. A cycle in which no SYNC frame was accepted is an
acceptance failure (10 R389), also for a node that is itself a sync-eligible sender (log 38). -/
def syncStep (s : State) : State :=
  let down := syncIface s
  let k := ifaceOf s down
  let cycle := ringCycleStart s down
  let follows := k.state == .integrating || k.state == .integrated || k.state == .muted
  let live := follows || (!down && (k.state == .observe || k.state == .joining))
  if !live ∨ k.stepOf = some cycle ∨ s.clock < cycle + stepClocks s down then s
  else
    let s := s.modIface down fun k => { k with syncAccepted := false, stepOf := some cycle }
    if !k.syncAccepted then
      let s := s.modClock fun c => { c with meas := [], lastMeas := [], nMeas := 0, discarded := 0 }
      if 2 ≤ k.failures then s.rejoin down
      else s.modIface down fun k => { k with failures := k.failures + 1 }
    else
      let s := s.modIface down fun k => { k with failures := 0 }
      let eligible := !down &&
        (syncSlots (modeInForce s down)).any fun e => ownSrc s down == some e.2.src && !bit s.drove.syncNow.exclude e.1
      let self := eligible && k.state == .integrated
      if !follows ∨ (s.drove.clock.meas.isEmpty ∧ ¬ self) then s
      else
        let (s, o) := s.correct down self eligible
        if down then s else s.guardStep o

def execSyncStep (t : Nat) (s : State) : Host.Outcome State Fault Refusal := event true t syncStep s

/-! ### The start of a ring cycle (10 R376, R378, R380, R381, R387, R393, R394) -/

/-- The settings of RING.SYNC_CONFIG that take effect at the start of a ring cycle: EXCLUDE at once, the rate limits at that of a
rate block (11 R426). -/
def SyncCfg.taken (now set : SyncCfg) (block : Bool) : SyncCfg :=
  { set with maxRatePpm := if block then set.maxRatePpm else now.maxRatePpm, slewPpm := if block then set.slewPpm else now.slewPpm }

/-- The up-ring interface at the start of a ring cycle. -/
def upCycleStart (s : State) : State :=
  let k := s.drove.up
  let s := s.modDrove fun d => { d with
    joinWait := d.joinWait - 1, outFrames := [], syncNow := d.syncNow.taken d.sync (d.clock.pos == 0) }
  let now := ringCycleNo s false
  -- loops end at the start of RESTORE_CYCLE
  let s := if k.restoreCycle = some now then
      s.modIface false fun k => { k with linkA := { k.linkA with looped := k.linkA.looped && !k.linkA.up }
                                         linkB := { k.linkB with looped := k.linkB.looped && !k.linkB.up }, restoreCycle := none }
    else s
  let s := match k.announce with
    | some a =>
      if a.firstCycle ≠ now then s
      else if a.confirmed then
        (s.modIface false fun k => { k with mode := a.newMode, epoch := a.newEpoch, announce := none }).ringCount false 14
      else s.modIface false fun k => { k with
        announce := none, silentCycle := if (modeWords s false a.newMode).isEmpty then k.silentCycle else some now }
    | none => s
  match k.state with
  | .joining =>
    if s.drove.granted.isSome ∧ holdsAll s then (s.modDrove fun d => { d with granted := none }).integrate else s
  | .integrating => s.modIface false fun k => { k with state := .integrated }
  | .coldstart =>
    -- a coldstart member that the manager has relieved is an ordinary member from the cycle after TAKEOVER
    if k.takeover then s.modIface false fun k => { k with state := .integrated, timeSource := false, coldCycles := 0, takeover := false, failures := 0 }
    else s
  | _ => s

/-- The break that the members and the manager report (10 R393): the link number, and whether both looping nodes report their
port UP (R394). -/
def loopReport (s : State) : Option (Nat × Bool) :=
  let k := s.drove.down
  let present := s.drove.members.filter fun e => e.2.integrated
  let hopsOf (e : Nat × Member) : Nat := e.2.hops
  let ends : List (Nat × Bool) :=
    (if k.linkA.looped then [(0, k.linkA.up)] else []) ++
    present.flatMap (fun e =>
      (if bit e.2.status 20 then [(hopsOf e + 1, bit e.2.status 22)] else []) ++
      (if bit e.2.status 19 then [(hopsOf e, bit e.2.status 21)] else [])) ++
    (if k.linkB.looped then [(max present.length k.ringSize, k.linkB.up)] else [])
  match ends with
  | [] => none
  | e :: r => some (e.1, !r.isEmpty && ends.all (·.2))

/-- The manager's healing and restoration (10 R393, R394). -/
def State.healStep (s : State) : State :=
  let k := s.drove.down
  let now := ringCycleNo s true
  match k.restoreCycle with
  | some c =>
    if c ≠ now then s
    else
      let s := s.modIface true fun k => { k with
        linkA := { k.linkA with looped := k.linkA.looped && !k.linkA.up }, linkB := { k.linkB with looped := k.linkB.looped && !k.linkB.up }
        restoreCycle := none, healed := false, breakLink := 127 }
      (s.ringCount true 11).recordOpen 9 20 0
  | none =>
    match loopReport s with
    | none => s
    | some (link, allUp) =>
      -- a loop that comes back with its ports UP is one that a restoration left: its announcement is repeated 1 ms later
      let s := if k.healed then s
        else ((s.modIface true fun k => { k with
          healed := true, breakLink := link % 128, restoreFrom := if allUp then s.now + clocksOfUs 1000 else s.now }).ringCount true 10).recordOpen 9 19 1
      if allUp ∧ k.healed ∧ k.restoreFrom ≤ s.now then s.modIface true fun k => { k with restoreCycle := some (ringCycleAfter s true now 4) }
      else s

/-- The down-ring interface at the start of one of its cycles. -/
def downCycleStart (s : State) : State :=
  let k := s.drove.down
  let now := ringCycleNo s true
  let prev := (now + 2 ^ 32 - ringCycleAfter s true 0 1) % 2 ^ 32
  let s := s.modIface true fun k => { k with takeover := false, timeSource := k.timeSource || k.takeover }
  if k.state = .coldstart then
    if 4 ≤ k.coldCycles then s.modIface true fun k => { k with state := .integrated } else s
  else if k.state ≠ .integrated then s
  else
    -- members without valid inputs in the cycle that ended
    let s := s.drove.members.foldl (fun s e =>
      if e.2.integrated ∧ e.2.lastTag ≠ some prev then
        let s := s.modMember e.1 fun m => { m with missing := m.missing + 1 }
        if 2 ≤ e.2.missing then s.memberOut e.1 else s
      else s) s
    let s := match k.announce with
      | some a =>
        if a.firstCycle ≠ now then s
        else if a.confirmed then
          ((s.modIface true fun k => { k with mode := a.newMode, epoch := a.newEpoch, announce := none }).modDrove fun d =>
            { d with active := some a.newMode, armed := none }).ringCount true 14
        else s.modIface true fun k => { k with announce := none }
      | none => s
    s.healStep

/-- The rate by which a tier manager slews after holdover changes by at most 0.1 ppm per down-ring cycle, toward
SLEW_PPM and back to 0 in time (11 R412, R414): `slewLeft` is the offset left. -/
def slewStep (s : State) : State :=
  let c := s.drove.clock
  let most : Int := s.drove.syncNow.slewPpm * 1000
  let l := ringCycleUs s true
  let left : Int := if c.slewing then c.slewLeft - c.slewPpb * l / 1000000 else 0
  let ramp := c.slewPpb.natAbs * c.slewPpb.natAbs * l / 200000000
  let want : Int := if !c.slewing || left.natAbs ≤ ramp then 0 else if left < 0 then -most else most
  s.modClock fun c => { c with slewPpb := c.slewPpb + clampInt (-100) 100 (want - c.slewPpb), slewLeft := left }

/-- A down-ring cycle begins with this device cycle (01 R15). -/
def downCycleBegins (s : State) : Bool :=
  s.drove.downStarted && s.drove.cfg.cycleUs ≠ 0 && s.clock / 800 % s.drove.cfg.cycleUs == 0

/-- Changed topology entries go upward within a device cycle (11 R417, R423). -/
def sendTopology (s : State) : State :=
  let s := s.refreshTopo
  let ch := s.drove.topoChanged
  if ch.isEmpty ∨ ¬ s.drove.cfg.upEn ∨ ¬ integrated s then s
  else s.modDrove fun d => { d with
    topoChanged := ch.drop 126
    upOut := d.upOut ++ [{ kind := 7, words := 1 :: (ch.take 126).flatMap fun a => topoWords a (look {} d.topo a) }] }

/-- A TOPOLOGY message from a member (11 R417, R423). -/
def takeTopology (ws : List Word) (s : State) : State :=
  (chunks 2 ws.length (ws.drop 1)).foldl (fun s e =>
    let a := (e.getD 0 0).toNat
    let b := (e.getD 1 0).toNat
    let old := look {} s.drove.topo (field a 0 20)
    let new : TopoEntry :=
      { ubr := bit a 20, integrated := bit a 21, downRunning := bit a 22, healed := bit a 23, pair := bit a 24
        mode := field a 25 3, part := field b 0 16, commit := field b 16 2 }
    if old = new then s else s.setTopo (field a 0 20) fun _ => new) s

end Sys2Proof.Machine
end

