-- ==== Sys2Proof/Machine/RingCmd.lean ====
section
/-! DEFINITION. The RING commands (10 R397–R403, 11 R411, R425–R427). -/

namespace Sys2Proof.Machine

/-! ### RING.CONFIG (10 R398) -/

/-- The down-ring fields of the configuration. -/
def RingCfg.downPart (c : RingCfg) : RingCfg := { c with upEn := false, coldCap := false, rank := 0, upAccept := 0, upGuard := 0 }

/-- The configuration that the words give. -/
def ringCfgOf (p : Packet) : RingCfg :=
  let w := p.w
  { upEn := bit (w 0) 0, downEn := bit (w 0) 1, coldCap := bit (w 0) 2, rank := field (w 0) 3 2
    upAccept := field (w 1) 0 10, upGuard := field (w 1) 10 10, cycleUs := field (w 2) 0 14, mult := field (w 2) 14 5
    inOffsetUs := field (w 3) 0 14, tag := field (w 3) 14 8, downAccept := field (w 4) 0 10, downGuard := field (w 4) 10 10
    serials := (List.range (field (w 4) 20 7)).map fun n => w (5 + 2 * n) + place 32 (w (6 + 2 * n)) }

/-- A field is out of its range (R388, R390, R398). -/
def ringCfgRange (p : Packet) (c : RingCfg) : Bool :=
  reservedSet (p.w 0) 0xFFFFFFE0 || reservedSet (p.w 1) 0xFFF00000 || reservedSet (p.w 2) 0xFFF80000 ||
  reservedSet (p.w 3) 0xFFC00000 || reservedSet (p.w 4) 0xF8000000 || 64 < field (p.w 4) 20 7 || c.coldCap == (c.rank == 0) ||
  c.upAccept < 50 || 1000 < c.upAccept || c.downAccept < 50 || 1000 < c.downAccept ||
  c.upGuard < 20 || 1000 < c.upGuard || c.downGuard < 20 || 1000 < c.downGuard || (c.downEn && c.tag == 0)

/-- The cycle parameters break R14 to R18 or R398. -/
def ringCycleBad (c : RingCfg) : Bool :=
  (c.cycleUs ≠ 0 && (c.cycleUs < 25 || 10000 < c.cycleUs || c.mult == 0 || 16 < c.mult || (!c.upEn && c.mult ≠ 1))) ||
  (c.downEn && c.cycleUs == 0) || 16 < c.mult || c.cycleUs - 10 < c.inOffsetUs

/-- The up-ring ports are disabled: the interface is DISABLED and the bypass closes (10 R395, R401). -/
def State.upPortsOff (s : State) : State :=
  ((s.leaveUp.modIface false fun k => { counters := k.counters, tag := k.tag, mode := k.mode, epoch := k.epoch, breakLink := 127 }).modDrove fun d =>
    { d with lanesFrom := none }).bypassOff

/-- The up-ring enters LISTEN; its lanes begin to transmit where they did not (10 R378, R395). -/
def State.upListen (s : State) : State :=
  let s := if s.drove.lanesFrom.isNone then s.modDrove fun d => { d with lanesFrom := some s.now } else s
  s.enterListen false

/-- The new configuration takes effect. -/
def State.setRingCfg (s : State) (c : RingCfg) : State :=
  let old := s.drove.cfg
  let live := s.drove.up.state == .integrating || s.drove.up.state == .integrated || s.drove.up.state == .muted
  let params (c : RingCfg) : Bool × Nat × Nat := (c.upEn, c.cycleUs, c.inOffsetUs)
  let s := s.modDrove fun d => { d with cfg := c }
  let s := if params old ≠ params c ∧ ¬ (old.upEn ∧ c.upEn) then s.modCyc fun y => { y with startOf := none, inputOf := none, commitOf := none, outputOf := none } else s
  let s := if live ∧ c.upEn then s.modDrove fun d => { d with dropAssignment := true } else s.dropAssigned
  let s := if old.downEn ∧ ¬ c.downEn then s.modIface true fun k => { k with linkA := {}, linkB := {} } else s
  -- entries of nodes that have gone leave the table (11 R423)
  let s := if s.drove.topo.all (fun e => e.2.integrated || e.1 == s.drove.devAddr) then s
    else (s.modDrove fun d => { d with
      topo := d.topo.filter fun e => e.2.integrated || e.1 == d.devAddr, generation := (d.generation + 1) % 2 ^ 32 }).writeTopo
  if c.upEn ∧ ¬ old.upEn then s.upListen
  else if old.upEn ∧ ¬ c.upEn then (s.upPortsOff).setAddress 0
  else s

def cmdRingConfig (p : Packet) (s : State) : State × Verdict :=
  let c := ringCfgOf p
  checked
    [(p.len < 5 || p.len ≠ 5 + 2 * field (p.w 4) 20 7, stBadLength), (ringCfgRange p c, stRange),
     (s.dev.mode ≠ .configure, stBadMode), (ringCycleBad c, stRgCycle),
     ((p.origin == .above && s.drove.cfg.upEn && !c.upEn) ||
        (s.drove.down.state ≠ .disabled && c.downPart ≠ s.drove.cfg.downPart), stRgState)] s
    (s.setRingCfg c, .done stOk [])

/-- RING.CONFIG. -/
def execRingConfig (p : Packet) (s : State) : Host.Outcome State Fault Refusal := command .ringConfig cmdRingConfig p s

/-! ### RING.SCHEDULE_WRITE (10 R373, R399) -/

/-- What the rules of R373 remember of the entries before one. -/
structure ModeScan where
  /-- START_MT of the entry before, none at entry 0. -/
  last : Option Nat := none
  syncs : List Nat := []
  modeSlots : Nat := 0
  joinReqs : Nat := 0
  joinGrants : Nat := 0
  /-- Members named, members with a DATA and with a CMD slot to the manager, destinations of the manager's CMD slots. -/
  named : List Nat := []
  dataUp : List Nat := []
  cmdUp : List Nat := []
  cmdDown : List Nat := []
  /-- Data words so far by member, and 64 + member for the manager's direction. -/
  words : Tab Nat := []
  /-- The end in timing clocks of each sender's previous slot. -/
  busy : Tab Nat := []
  deriving DecidableEq, Repr

/-- An entry breaks a rule of R373; `us` is L, 0 where it is not known. -/
def entryBad (us : Nat) (a b : Nat) (sl : Slot) (m : ModeScan) : Bool :=
  let start := sl.startMt * 16
  let dest : Nat := if sl.src = 0x80 then sl.dst else sl.src
  let dir := if sl.src = 0x80 then 64 + dest else dest
  let rule1 := bit a 31 || 2 ^ 16 ≤ b || sl.kind == 7 || 256 < sl.lenW || 499999 < sl.startMt ||
    (match m.last with | some l => sl.startMt ≤ l | none => false)
  let rule2 := m.last.isNone && sl ≠ { startMt := 0, kind := 1, lenW := 8, src := 0x80, dst := 0xFF }
  let rule3 := sl.kind == 1 && (sl.dst ≠ 0xFF || sl.lenW ≠ 8 || m.syncs.contains sl.src || 8 ≤ m.syncs.length ||
    (64 ≤ sl.src && sl.src ≠ 0x80))
  let rule4 :=
    (sl.kind == 4 && (sl.src ≠ 0x80 || sl.dst ≠ 0xFF || sl.lenW ≠ 3 || m.modeSlots ≠ 0)) ||
    (sl.kind == 5 && (sl.src ≠ 0xFE || sl.dst ≠ 0x80 || sl.lenW ≠ 4 || m.joinReqs ≠ 0)) ||
    (sl.kind == 6 && (sl.src ≠ 0x80 || sl.dst ≠ 0xFF || sl.lenW ≠ 4 || m.joinGrants ≠ 0))
  let dataCmd := sl.kind == 2 || sl.kind == 3
  let rule5 := dataCmd && ((sl.src == 0x80) == (sl.dst == 0x80) || sl.lenW < (if sl.kind = 2 then 1 else 2) ||
    !(dest < 64 || (sl.kind == 3 && sl.src == 0x80 && dest == 0xFF)))
  let rule7 := sl.kind == 2 && 1024 < look 0 m.words dir + (sl.lenW - 1)
  let rule8 := sl.kind ≠ 0 && us ≠ 0 && clocksOfUs us < start + wireClocks (4 * sl.lenW) + 1600
  let rule9 := sl.kind ≠ 0 && start < look 0 m.busy sl.src
  rule1 || rule2 || rule3 || rule4 || rule5 || rule7 || rule8 || rule9

/-- The scan after an entry that keeps the rules. -/
def ModeScan.step (m : ModeScan) (sl : Slot) : ModeScan :=
  let member (l : List Nat) (x : Nat) : List Nat := if x < 64 ∧ ¬ l.contains x then l ++ [x] else l
  let down := sl.src == 0x80
  let other := if down then sl.dst else sl.src
  let data := sl.kind == 2
  let cmd := sl.kind == 3
  { last := some sl.startMt
    syncs := if sl.kind = 1 then m.syncs ++ [sl.src] else m.syncs
    modeSlots := m.modeSlots + flag (sl.kind == 4), joinReqs := m.joinReqs + flag (sl.kind == 5)
    joinGrants := m.joinGrants + flag (sl.kind == 6)
    named := if sl.kind = 1 ∨ data ∨ cmd then member m.named other else m.named
    dataUp := if data && !down then member m.dataUp other else m.dataUp
    cmdUp := if cmd && !down then member m.cmdUp other else m.cmdUp
    cmdDown := if cmd && down then m.cmdDown ++ [other] else m.cmdDown
    words := if data then upd 0 m.words (if down then 64 + other else other) (· + (sl.lenW - 1)) else m.words
    busy := if sl.kind = 0 then m.busy else put 0 m.busy sl.src (sl.startMt * 16 + wireClocks (4 * sl.lenW)) }

/-- The first entry, from entry `i` on, that breaks a rule, or 0xFFFFFFFF where the mode as a whole does (rules 4 and 6:
a slot is missing, which no entry shows). -/
def scanMode (us : Nat) : Nat → List Word → ModeScan → Option Nat
  | i, a :: b :: r, m =>
    let sl : Slot :=
      { startMt := field a.toNat 0 19, kind := field a.toNat 19 3, lenW := field a.toNat 22 9, src := field b.toNat 0 8
        dst := field b.toNat 8 8 }
    if entryBad us a.toNat b.toNat sl m then some i else scanMode us (i + 1) r (m.step sl)
  | _, _, m =>
    if m.modeSlots = 1 ∧ m.joinReqs = 1 ∧ m.joinGrants = 1 ∧
        m.named.all (fun n => m.dataUp.contains n && m.cmdUp.contains n && (m.cmdDown.contains n || m.cmdDown.contains 0xFF)) then none
    else some 0xFFFFFFFF

/-- The reply word 0 of ST_RG_SCHEDULE for a mode's words, or none where the mode meets R373. -/
def modeBad (us : Nat) (ws : List Word) : Option Nat :=
  let h := (ws.getD 0 0).toNat
  let n := field h 0 10
  if 2 ^ 29 ≤ h ∨ n = 0 ∨ 512 < n then some 0xFFFFFFFF else scanMode us 0 (ws.drop 2) {}

/-- The members that hold mode `m`. -/
def holders (s : State) (m : Nat) : Nat := maskOf ((s.drove.members.filter fun e => bit e.2.held m).map (·.1))

/-- Every integrated member holds mode `m`. -/
def heldByAll (s : State) (m : Nat) : Bool := (presentMembers s).all fun n => bit (memberOf s n).held m

/-- HELD of mode `m`. -/
def heldWords (s : State) (m : Nat) : List Word := wd2 (holders s m)

/-- Replies to the schedule writes whose mode every integrated member now holds (R399). -/
def State.pollSchedule (s : State) : State :=
  s.settle (fun d => d.op == .ringScheduleWrite && heldByAll s (field (d.packet.w 0) 0 3))
    fun d => (stOk, heldWords s (field (d.packet.w 0) 0 3))

/-- A mode is written, and sent at once to every integrated member (R375, R640). -/
def State.writeMode (s : State) (m : Nat) (ws : List Word) : State :=
  let s := s.modDrove fun d => { d with
    modes := put [] d.modes m ws, members := d.members.map fun e => (e.1, { e.2 with held := setBit e.2.held m false }) }
  (presentMembers s).foldl (fun s n => s.toMember n (modePacket s m)) s

def cmdRingScheduleWrite (p : Packet) (s : State) : State × Verdict :=
  let m := field (p.w 0) 0 3
  let ws := p.params.drop 1
  checked
    [(p.len < 3 || p.len ≠ 3 + 2 * field (p.w 1) 0 10, stBadLength), (reservedSet (p.w 0) 0xFFFFFFF8, stRange),
     (s.drove.armed == some m || s.drove.active == some m, stRgModeState)] s
    (match modeBad s.drove.cfg.cycleUs ws with
    | some i => (s, .done stRgSchedule [wd i])
    | none =>
      let (s, v) := (s.writeMode m ws).defer .ringScheduleWrite p [s.now]
      (s.pollSchedule, v))

/-- RING.SCHEDULE_WRITE. -/
def execRingScheduleWrite (p : Packet) (s : State) : Host.Outcome State Fault Refusal :=
  command .ringScheduleWrite cmdRingScheduleWrite p s

/-- SCHEDULE_WRITE_TIMEOUT (R399): 100 ms after the command, the reply shows which members hold the mode. -/
def scheduleWriteTimeout (s : State) : State :=
  s.settle (fun d => d.op == .ringScheduleWrite && d.data.getD 0 0 + clocksOfUs 100000 ≤ s.now)
    fun d => (stOk, heldWords s (field (d.packet.w 0) 0 3))

def execScheduleWriteTimeout (t : Nat) (s : State) : Host.Outcome State Fault Refusal := event true t scheduleWriteTimeout s

/-! ### RING.MODE_ARM and RING.START (10 R400, R401; 11 R411) -/

/-- The integrated members that lack mode `m`. -/
def lacking (s : State) (m : Nat) : Nat := maskOf ((presentMembers s).filter fun n => !bit (memberOf s n).held m)

/-- Mode `m` is WRITTEN: neither EMPTY, ARMED nor ACTIVE. -/
def modeWritten (s : State) (m : Nat) : Bool :=
  !(modeWords s true m).isEmpty && s.drove.armed ≠ some m && s.drove.active ≠ some m

def cmdRingModeArm (p : Packet) (s : State) : State × Verdict :=
  let m := field (p.w 0) 0 3
  let dis := bit (p.w 0) 3
  checked
    [(p.len ≠ 1, stBadLength), (reservedSet (p.w 0) 0xFFFFFFF0, stRange), (changeoverPending s, stBusy),
     (if dis then s.drove.armed ≠ some m else !modeWritten s m || s.drove.armed.isSome, stRgModeState)] s
    (if dis then (s.modDrove fun d => { d with armed := none }, .done stOk [0, 0])
    else if lacking s m ≠ 0 then (s, .done stRgNotHeld (wd2 (lacking s m)))
    else (s.modDrove fun d => { d with armed := some m }, .done stOk [0, 0]))

/-- RING.MODE_ARM. -/
def execRingModeArm (p : Packet) (s : State) : Host.Outcome State Fault Refusal := command .ringModeArm cmdRingModeArm p s

/-- A WRITTEN or ARMED mode breaks a rule of R373 under L. -/
def modesBreak (s : State) : Bool :=
  s.drove.modes.any fun e => s.drove.active ≠ some e.1 && (modeBad s.drove.cfg.cycleUs e.2).isSome

/-- The manager begins with mode `m` (R386, R387). -/
def State.startDown (s : State) (m : Nat) : State :=
  let s := s.modDrove fun d => { d with downStarted := true, active := some m }
  let s := s.modIface true fun k => { k with tag := s.drove.cfg.tag, mode := m, healed := false, breakLink := 127 }
  s.enterListen true

/-- The manager's frames end (R401): its members are lost to it. -/
def State.stopDown (s : State) : State :=
  let s := (presentMembers s).foldl (fun s n => s.memberOut n) s
  let s := s.modIface true fun k => { k with
    state := .disabled, timeSource := false, healed := false, breakLink := 127, restoreCycle := none, takeover := false
    announce := none, coldCycles := 0, lastSync := none, backoffUntil := none }
  s.modDrove fun d => { d with downStarted := false, active := none, grant := none }

def cmdRingStart (p : Packet) (s : State) : State × Verdict :=
  let down := bit (p.w 0) 0
  let stop := bit (p.w 0) 1
  let m := field (p.w 0) 2 3
  let c := s.drove.cfg
  let startDown := down && !stop
  checked
    [(p.len ≠ 1, stBadLength), (reservedSet (p.w 0) 0xFFFFFFE0 || (!startDown && m ≠ 0), stRange),
     (s.dev.mode ≠ .configure && (s.dev.mode ≠ .ready || (down && stop)), stBadMode),
     (startDown && field s.drove.devAddr 18 2 == 3, stRgDepth),
     (if down then !stop && (!c.downEn || s.drove.downStarted || (c.upEn && s.drove.up.state ≠ .integrated)) else !c.upEn, stRgState),
     (startDown && (c.cycleUs == 0 || ringCycleBad c || (c.upEn && c.cycleUs ≠ c.mult * s.cyc.upLdev)), stRgCycle),
     (startDown && !modeWritten s m, stRgNoMode), (startDown && modesBreak s, stRgCycle)] s
    ((match down, stop with
      | false, true => s.upPortsOff
      | false, false => s.upListen
      | true, true => if s.drove.downStarted then s.stopDown else s
      | true, false => s.startDown m), .done stOk [])

/-- RING.START. -/
def execRingStart (p : Packet) (s : State) : Host.Outcome State Fault Refusal := command .ringStart cmdRingStart p s

/-! ### RING.STATUS, RING.COUNTERS, RING.SYNC_CONFIG, RING.TOPOLOGY (10 R402, R403; 11 R426, R427) -/

/-- The words of RING.STATUS. -/
def ringStatusWords (s : State) (down : Bool) : List Word :=
  let k := ifaceOf s down
  let live := down || k.state == .integrated || k.state == .muted
  let tag := if down then (if s.drove.downStarted then k.tag else s.drove.cfg.tag) else k.tag
  let held := if down then writtenMask s else maskOf (s.drove.upModes.map (·.1))
  let arm := if down then s.drove.armed else none
  let present := if down then wd2 (presentMask s) else [0, 0]
  let w0 := k.state.num + place 3 k.mode + place 6 (flag (live && k.healed)) + place 7 (if live then k.breakLink else 127) +
    place 14 (flag k.timeSource) + place 15 k.sourceRank + place 17 (if down then 0 else s.drove.member.getD 0)
  let w1 := k.epoch + place 16 tag + (match arm with | some m => place 24 m + place 27 1 | none => 0)
  [wd w0, wd w1] ++ present ++
    [wd (if down then k.loopDelay else 0), wd (min 65535 k.linkA.delayNs + place 16 (min 65535 k.linkB.delayNs)),
     wd (flag k.linkA.up + place 1 (flag k.linkB.up) + place 2 (flag k.linkA.looped) + place 3 (flag k.linkB.looped) + place 4 held)]

def cmdRingStatus (p : Packet) (s : State) : State × Verdict :=
  checked [(p.len ≠ 1, stBadLength), (reservedSet (p.w 0) 0xFFFFFFFE, stRange)] s
    (s, .done stOk (ringStatusWords s (bit (p.w 0) 0)))

/-- RING.STATUS. -/
def execRingStatus (p : Packet) (s : State) : Host.Outcome State Fault Refusal := command .ringStatus cmdRingStatus p s

/-- The words of RING.COUNTERS. -/
def ringCounterWords (k : Iface) : List Word :=
  let c (i : Nat) : Nat := look 0 k.counters i
  (List.range 18).map (fun i => wd (c i)) ++ [wd (min 65535 (c 18) + place 16 (min 65535 (c 19)))]

def cmdRingCounters (p : Packet) (s : State) : State × Verdict :=
  let down := bit (p.w 0) 0
  checked [(p.len ≠ 1, stBadLength), (reservedSet (p.w 0) 0xFFFFFFFC, stRange)] s
    (if bit (p.w 0) 1 then s.modIface down fun k => { k with counters := [] } else s,
     .done stOk (ringCounterWords (ifaceOf s down)))

/-- RING.COUNTERS. -/
def execRingCounters (p : Packet) (s : State) : Host.Outcome State Fault Refusal := command .ringCounters cmdRingCounters p s

/-- The words of RING.SYNC_CONFIG. -/
def syncConfigWords (s : State) : List Word :=
  let c := s.drove.clock
  [wd (c.nMeas + place 4 c.discarded + place 6 (flag c.holdover) + place 7 (flag c.slewing)), wd (enc 32 c.lastPs),
   wd (enc 32 c.ratePpb), wd (min (2 ^ 32 - 1) c.maxPs), wd (enc 32 c.slewLeft)] ++
    (List.range 8).map fun i => match c.lastMeas.find? fun e => e.1 == i with
      | some e => wd (enc 32 e.2)
      | none => 0x80000000

def cmdRingSyncConfig (p : Packet) (s : State) : State × Verdict :=
  let w0 := p.w 0; let w1 := p.w 1
  let read := bit w0 8
  let y : SyncCfg := { exclude := field w0 0 8, maxRatePpm := field w1 0 8, slewPpm := field w1 8 8, stepLimitUs := field w1 16 16 }
  let bad := if read then w0 ≠ 256 || w1 ≠ 0
    else y.maxRatePpm == 0 || 200 < y.maxRatePpm || y.slewPpm == 0 || 100 < y.slewPpm
  checked [(p.len ≠ 2, stBadLength), (reservedSet w0 0xFFFFFE00 || bad, stRange), (!s.drove.cfg.upEn, stRgState)] s
    (let t := s.modClock fun c => { c with maxPs := 0 }
     (if read then t else t.modDrove fun d => { d with sync := y }, .done stOk (syncConfigWords s)))

/-- RING.SYNC_CONFIG. -/
def execRingSyncConfig (p : Packet) (s : State) : Host.Outcome State Fault Refusal :=
  command .ringSyncConfig cmdRingSyncConfig p s

def cmdRingTopology (p : Packet) (s : State) : State × Verdict :=
  let first := p.w 0
  let count := p.w 1
  let t := s.refreshTopo
  let es := t.drove.topo
  checked
    [(p.len ≠ 2, stBadLength),
     (reservedSet first 0xFFF80000 || reservedSet count 0xFFFFF000 || count == 0 || 2045 < count || es.length ≤ first, stRange)] s
    (t, .done stOk ([wd es.length, wd t.drove.generation] ++ ((es.drop first).take count).flatMap fun e => topoWords e.1 e.2))

/-- RING.TOPOLOGY. -/
def execRingTopology (p : Packet) (s : State) : Host.Outcome State Fault Refusal := command .ringTopology cmdRingTopology p s

end Sys2Proof.Machine
end

