-- ==== Sys2Proof/Machine/Axis.lean ====
section
/-! DEFINITION. The motion generator: segments, stops, pulse axes, remote axes, relabels, faults (07 R232–R260). -/

namespace Sys2Proof.Machine

/-! ### Numbers -/

/-- A position or velocity as a signed 64-bit number (07 R233). -/
def wrap64 (x : Int) : Int := signed 64 (enc 64 x)

/-- One count in Q40.24. -/
abbrev q24 : Int := 16777216

/-- Whole µs of device time, the grid of the profiles (07 R236). -/
def usNow (s : State) : Int := (usOf s.clock : Nat)

/-! ### The settings of a channel (07 R262) -/

/-- Word `i` of AXIS.CONFIG. -/
def AxisCh.w (c : AxisCh) (i : Nat) : Nat := (c.cfg.getD i 0).toNat

def AxisCh.pulseAxis (c : AxisCh) : Nat := field (c.w 0) 10 4
def AxisCh.ring (c : AxisCh) : Nat := field (c.w 1) 0 2
def AxisCh.member (c : AxisCh) : Nat := field (c.w 1) 2 6
def AxisCh.word (c : AxisCh) : Nat := field (c.w 1) 8 10
def AxisCh.fbKind (c : AxisCh) : Nat := field (c.w 2) 0 2
def AxisCh.enc (c : AxisCh) : Nat := field (c.w 2) 2 4
def AxisCh.fbMember (c : AxisCh) : Nat := field (c.w 2) 8 6
def AxisCh.fbWord (c : AxisCh) : Nat := field (c.w 2) 14 10
def AxisCh.pulseClk (c : AxisCh) : Nat := field (c.w 3) 0 8
def AxisCh.dirPosHigh (c : AxisCh) : Bool := bit (c.w 3) 8
def AxisCh.dirSetup (c : AxisCh) : Nat := field (c.w 3) 16 16
def AxisCh.dirHold (c : AxisCh) : Nat := field (c.w 4) 0 16
def AxisCh.enaDelay (c : AxisCh) : Nat := field (c.w 4) 16 16
def AxisCh.maxVel (c : AxisCh) : Nat := c.w 5
def AxisCh.startStop (c : AxisCh) : Nat := c.w 6
def AxisCh.decSs1 (c : AxisCh) : Nat := c.w 9
def AxisCh.lagMax (c : AxisCh) : Nat := c.w 10
def AxisCh.posMin (c : AxisCh) : Int := signed 64 (c.w 12 + place 32 (c.w 13))
def AxisCh.posMax (c : AxisCh) : Int := signed 64 (c.w 14 + place 32 (c.w 15))
def AxisCh.stoPairs (c : AxisCh) : Nat := field (c.w 16) 0 8
def AxisCh.substAction (c : AxisCh) : Nat := field (c.w 16) 8 2
def AxisCh.holdAction (c : AxisCh) : Bool := bit (c.w 16) 10
def AxisCh.standstill (c : AxisCh) : Nat := field (c.w 16) 11 2
def AxisCh.limitsEn (c : AxisCh) : Bool := bit (c.w 16) 13
def AxisCh.standDelayMs (c : AxisCh) : Nat := field (c.w 16) 16 16

/-- DEC of a stop kind: RAMP, QUICK, or 4 for SS1 (07 R242). -/
def AxisCh.dec (c : AxisCh) (kind : Nat) : Nat := max 1 (if kind = 0 then c.w 7 else if kind = 1 then c.w 8 else c.w 9)

/-- inc_max (07 R246). -/
def AxisCh.incMax (c : AxisCh) : Int := (2 ^ 32 / (2 * max 1 c.pulseClk) : Nat)

def axisOf (s : State) (n : Nat) : AxisCh := look {} s.axis.ch n

/-- Changes channel `n`. -/
def State.modCh (s : State) (n : Nat) (f : AxisCh → AxisCh) : State := s.modAxis fun a => { a with ch := upd {} a.ch n f }

/-- The channels that are not NONE. -/
def axisNumbers (s : State) : List Nat := (s.axis.ch.filter fun e => e.2.kind ≠ 0).map (·.1)

/-! ### Segments (07 R234–R239) -/

/-- Address of an entry (R234). -/
def segAddr (e : Nat) : Nat := 0x01C20000 + 24 * e

/-- The entry as segment memory holds it; none where a word of it is poisoned (16 R565). -/
def readEntry (s : State) (e : Nat) : Option (List Word) :=
  if 65535 < e ∨ (poisonedIn s (segAddr e) 24).isSome then none else some (readWords s (segAddr e) 6)

/-- Entry fields (R235). -/
def entryPos (ws : List Word) : Int := signed 64 ((ws.getD 2 0).toNat + place 32 (ws.getD 3 0).toNat)
def entryVel (ws : List Word) : Int := signed 64 ((ws.getD 4 0).toNat + place 32 (ws.getD 5 0).toNat)

/-- An entry fails R237. -/
def entryRefused (e : Nat) (ws : List Word) : Bool :=
  let dt := (ws.getD 0 0).toNat
  let f := (ws.getD 1 0).toNat
  let last := bit f 0; let jump := bit f 1; let linear := bit f 3
  dt == 0 || field f 6 10 ≠ 0 || (last && jump) || (last && entryVel ws ≠ 0 && !linear) ||
  2 ^ 55 < (entryVel ws).natAbs || (e == 65535 && !last && !jump)

/-- Loads an entry as the segment that begins at `t0` from `(p0, v0)`; none is a SEGMENT fault (R237, R254). -/
def loadSeg (e : Nat) (ws : Option (List Word)) (t0 p0 v0 base : Int) : Option Seg :=
  match ws with
  | none => none
  | some ws =>
    let dt := (ws.getD 0 0).toNat
    let f := (ws.getD 1 0).toNat
    let p1 := if bit f 2 then wrap64 (base + entryPos ws) else entryPos ws
    let d := wrap64 (p1 - p0)
    let slope := roundDiv (d * 1000000) (max 1 dt)
    if entryRefused e ws ∨ 2 ^ 62 ≤ d.natAbs then none
    else some
      { t0 := t0, dur := dt, p0 := p0, p1 := p1, entry := some e, rebase := bit f 5
        v0 := if bit f 3 then slope else v0, v1 := if bit f 3 then slope else entryVel ws
        next := if bit f 0 then none else if bit f 1 then some (field f 16 16) else some (e + 1) }

/-- seg_pos (R239). -/
def Seg.posAt (g : Seg) (tau : Nat) : Int :=
  let T : Int := (g.dur : Nat)
  let sv : Int := (tau * 2 ^ 32 / max 1 g.dur : Nat)
  let s2 := floorDiv (sv * sv) (2 ^ 32)
  let s3 := floorDiv (s2 * sv) (2 ^ 32)
  let d := wrap64 (g.p1 - g.p0)
  let num := (3 * s2 - 2 * s3) * d * 1000000 + ((s3 - 2 * s2 + sv) * g.v0 + (s3 - s2) * g.v1) * T
  wrap64 (g.p0 + roundDiv num (1000000 * 2 ^ 32))

/-- seg_vel (R239). -/
def Seg.velAt (g : Seg) (tau : Nat) : Int :=
  let T : Int := (g.dur : Nat)
  let sv : Int := (tau * 2 ^ 32 / max 1 g.dur : Nat)
  let s2 := floorDiv (sv * sv) (2 ^ 32)
  let d := wrap64 (g.p1 - g.p0)
  let num := (6 * sv - 6 * s2) * d * 1000000 + ((3 * s2 - 4 * sv + 4294967296) * g.v0 + (3 * s2 - 2 * sv) * g.v1) * T
  wrap64 (roundDiv num (max 1 g.dur * 2 ^ 32))

/-- The internal segment of a stop (R242). Its end position is rounded as R239 rounds. -/
def stopSeg (t0 p0 v0 : Int) (dec : Nat) : Seg :=
  let T := max 1 ((v0.natAbs * 1000000 + (dec * 2 ^ 24 - 1)) / (dec * 2 ^ 24))
  { t0 := t0, dur := T, p0 := p0, v0 := v0, p1 := wrap64 (p0 + roundDiv (v0 * (T : Nat)) 2000000), v1 := 0, entry := none, next := none }

/-- Profile position and velocity at `t` µs, which lies in the segment in progress. -/
def Motion.at (m : Motion) (t : Int) : Int × Int :=
  match m.seg with
  | none => (m.pos, 0)
  | some g =>
    let tau := min g.dur (t - g.t0).toNat
    (g.posAt tau, g.velAt tau)

/-- What advancing a motion met: instants (µs) of MARKs, a SEGMENT fault, the instant of its rest. -/
structure Advanced where
  m : Motion
  marks : List Int := []
  segFault : Bool := false
  rest : Option Int := none
  deriving DecidableEq, Repr

/-- Begins an entry as a segment, or at a SEGMENT fault the QUICK stop from its start (R238, R254). -/
def Motion.enter (m : Motion) (read : Nat → Option (List Word)) (dec e : Nat) (ws : Option (List Word)) (t0 p0 v0 : Int) : Advanced :=
  match loadSeg e ws t0 p0 v0 m.base with
  | none =>
    { m := { m with
        seg := some (stopSeg t0 p0 v0 dec), ahead := none, stopDec := dec, state := .fault
        cause := if m.state = .fault then m.cause else 3 }
      segFault := m.state ≠ .fault }
  | some g =>
    { m := { m with seg := some g, segNo := e, ahead := g.next.map fun n => (n, read n) }
      marks := match ws with
        | some l => if bit (l.getD 1 0).toNat 4 then [t0] else []
        | none => [] }

/-- The segment in progress has ended. -/
def Motion.segEnd (read : Nat → Option (List Word)) (dec : Nat) (m : Motion) (g : Seg) : Advanced :=
  let m := { m with pos := g.p1, base := if g.rebase then g.p1 else m.base }
  match g.next, m.ahead with
  | some _, some (n, ws) => Motion.enter { m with ahead := none } read dec n ws (g.t0 + g.dur) g.p1 g.v1
  | _, _ =>
    { m := { m with seg := none, ahead := none, stopDec := 0, state := if m.state = .fault then .fault else .idle }
      rest := some (g.t0 + g.dur) }

/-- The next change of a motion that is due by `t` µs: the begin of a start that waited, which blends from the motion
in progress at its instant (R241, R256), or the end of a segment. -/
def Motion.nextChange (read : Nat → Option (List Word)) (dec : Nat) (t : Int) (m : Motion) : Option Advanced :=
  match m.late, m.seg with
  | some (e, at'), g =>
    let ends := match g with | some g => g.t0 + g.dur | none => at'
    if at' ≤ ends ∧ at' ≤ t then
      let (p, v) := m.at at'
      some (Motion.enter { m with late := none, base := p, stopDec := 0 } read dec e (read e) at' p v)
    else match g with
      | some g => if ends ≤ t then some (m.segEnd read dec g) else none
      | none => none
  | none, some g => if g.t0 + g.dur ≤ t then some (m.segEnd read dec g) else none
  | none, none => none

/-- Advances a motion to `t` µs through every change on the way (R236). -/
def Motion.advance (read : Nat → Option (List Word)) (dec : Nat) : Nat → Int → Motion → Advanced
  | 0, _, m => { m := m }
  | fuel + 1, t, m =>
    match m.nextChange read dec t with
    | none => { m := m }
    | some a =>
      let b := Motion.advance read dec fuel t a.m
      { m := b.m, marks := a.marks ++ b.marks, segFault := a.segFault || b.segFault, rest := b.rest.or a.rest }

/-- A motion carried to `t` µs with the segment memory of the state. -/
def AxisCh.carried (c : AxisCh) (s : State) (t : Int) : Advanced :=
  let from' := match c.m.seg, c.m.late with
    | some g, _ => g.t0 | none, some (_, at') => at' | none, none => t
  c.m.advance (readEntry s) (c.dec 1) ((t - from').toNat + 3) t

/-! ### Offset, feedback and the commanded position (R233, R252, R253) -/

/-- The applied offset at `t` µs. -/
def AxisCh.offsetAt (c : AxisCh) (t : Int) : Int :=
  match c.offSince with
  | none => c.offFrom
  | some t0 =>
    let d := wrap64 (c.offTo - c.offFrom)
    let moved : Int := ((c.w 11 * 2 ^ 24 * (t - t0).toNat) / 1000000 : Nat)
    if c.w 11 = 0 ∨ (d.natAbs : Int) ≤ moved then c.offTo
    else wrap64 (if d < 0 then c.offFrom - moved else c.offFrom + moved)

/-- The offset rests at its value of `t` µs; it moves on from there once motion is allowed again (R256, log 130). -/
def AxisCh.offsetRests (c : AxisCh) (t : Int) : AxisCh := { c with offFrom := c.offsetAt t, offSince := none }

/-- The offset moves, from the value at which it rested. -/
def AxisCh.offsetMoves (c : AxisCh) (t : Int) : AxisCh := if c.offSince.isNone then { c with offSince := some t } else c

/-- Commanded position and velocity at `t` µs, the motion being carried there (R240). -/
def AxisCh.cmdAt (c : AxisCh) (s : State) (t : Int) : Int × Int :=
  let (p, v) := (c.carried s t).m.at t
  (wrap64 (p + c.offsetAt t), v)

/-- The word at an offset of a member's input data (10 R374). -/
def memberWord (s : State) (m w : Nat) : Nat := look 0 (memberOf s m).words w

/-- Raw feedback in counts (R262). -/
def feedback (s : State) (c : AxisCh) : Option Int :=
  match c.fbKind with
  | 1 => some (signed 32 (encoderCount s c.enc))
  | 2 => some (signed 32 (memberWord s c.fbMember c.fbWord))
  | _ => none

/-- Raw feedback + FB_OFFSET, Q40.24; 0 without feedback. -/
def fbPos (s : State) (c : AxisCh) : Int := match feedback s c with | some f => wrap64 (f * q24 + c.fbOffset) | none => 0

/-! ### Pulse axes (R245–R249) -/

/-- Carries and borrows out of bit 31 over `k` clocks. -/
def Pulse.crossings (p : Pulse) (k : Nat) : Int :=
  floorDiv ((p.acc : Int) + p.inc * k) (2 ^ 32) - floorDiv (p.acc : Int) (2 ^ 32)

/-- The accumulator carried to clock `now` (R245): a carry inside the setup time of DIR is a delayed step (R247). -/
def Pulse.run (p : Pulse) (setup now : Nat) : Pulse :=
  let k := now - p.upTo
  let late := match p.dirAt with
    | some t => (p.crossings (min now (t + setup) - p.upTo)).natAbs
    | none => 0
  { p with
    acc := enc 64 ((p.acc : Int) + p.inc * k), owed := p.owed + p.crossings k, upTo := max p.upTo now
    dirDelays := satAdd 32 p.dirDelays late }

/-- The increment for the next microsecond (R245, R248): `next` is the commanded position of the next tick. -/
def Pulse.tick (p : Pulse) (incMax : Int) (next : Int) : Pulse :=
  let err := signed 64 (enc 64 (next * 256 - (p.acc : Int)))
  let inc := roundDiv err 800
  let cl := decide (inc < -incMax) || decide (incMax < inc)
  { p with inc := clampInt (-incMax) incMax inc, clamped := cl, rateClamps := if cl then sat32 p.rateClamps else p.rateClamps }

/-- The position of the steps emitted, Q40.24, near a commanded position (R242, R249). -/
def Pulse.emitted (p : Pulse) (cmd : Int) : Int :=
  let whole := floorDiv cmd (2 ^ 24)
  let d := signed 32 (enc 32 ((p.acc / 2 ^ 32 : Nat) - p.owed - whole))
  wrap64 ((whole + d) * q24)

/-- inc is 0 at once and owed steps are discarded; the accumulator stands at the steps emitted (R249, log 50). -/
def Pulse.halt (p : Pulse) (pos : Int) : Pulse := { p with inc := 0, owed := 0, acc := enc 64 (pos * 256), clamped := false }

/-- An owed step can be emitted (R246). -/
def AxisCh.canStep (c : AxisCh) (now : Nat) : Bool :=
  let p := c.pulse
  p.owed ≠ 0 && p.dirPos == decide (0 < p.owed) &&
  (match p.riseAt with | some t => decide (t + 2 * c.pulseClk ≤ now) | none => true) &&
  (match p.dirAt with | some t => decide (t + c.dirSetup ≤ now) | none => true)

/-- DIR can change (R247). -/
def AxisCh.canTurn (c : AxisCh) (now : Nat) : Bool :=
  let p := c.pulse
  p.inc ≠ 0 && p.dirPos ≠ decide (0 < p.inc) && (p.owed == 0 || p.dirPos ≠ decide (0 < p.owed)) &&
  (match p.riseAt with | some t => decide (t + c.dirHold ≤ now) | none => true)

/-! ### Changing a channel -/

/-- Carries the accumulator of a channel to the present clock. -/
def State.runPulse (s : State) (n : Nat) : State :=
  if (axisOf s n).kind = 2 then s.modCh n fun c => { c with pulse := c.pulse.run c.dirSetup s.now } else s

/-- A fault of a channel (R254). -/
def State.axisFault (s : State) (n cause : Nat) : State :=
  if (axisOf s n).m.state = .fault then s
  else (s.modCh n fun c => { c with m := { c.m with state := .fault, cause := cause } }).reportOpen 6 23 1

/-- The commanded position that a channel has reached: for a PULSE channel that of the steps emitted (R242, R249). -/
def AxisCh.reached (c : AxisCh) (t : Int) : Int :=
  let cmd := wrap64 ((c.m.at t).1 + c.offsetAt t)
  if c.kind = 2 then c.pulse.emitted cmd else cmd

/-- A fault reaction or an IMMEDIATE stop on the pins: HALT of a remote record, and inc 0 without owed steps (R249, R250). -/
def AxisCh.halted (c : AxisCh) (t : Int) : AxisCh :=
  { c with halt := true, pulse := if c.kind = 2 then c.pulse.halt (c.reached t) else c.pulse }

/-- A SEGMENT fault was found where a segment was loaded (R254): the profile stops QUICK from the segment's start. -/
def State.segFaultNow (s : State) (n : Nat) : State :=
  let t := usNow s
  ((s.runPulse n).modCh n fun c => c.halted t).reportOpen 6 23 1

/-- Carries a channel to the present µs: segment ends, MARKs, a SEGMENT fault, rest (R236, R254, R256). -/
def State.axisAdvance (s : State) (n : Nat) : State :=
  let c := axisOf s n
  let a := c.carried s (usNow s)
  let rest := if a.m.seg.isNone ∧ c.m.seg.isSome then
      a.rest.map fun t => s.now - ((s.clock : Int) - t * 800).toNat
    else c.restAt
  let s := s.modCh n fun c => { c with m := a.m, restAt := if a.m.seg.isSome then none else rest }
  let s := a.marks.foldl (fun s t =>
    let s := s.modCh n fun c => { c with mark := (c.mark + 1) % 2 ^ 32 }
    s.publishAt (0x700 + n) (t * 1000).toNat (axisOf s n).mark) s
  if a.segFault then s.segFaultNow n else s

/-- IMMEDIATE at a velocity (R242, R249, R255): the velocity is 0, and the profile stands at the position reached, also where only
an offset moved or steps were owed. -/
def State.axisImmediateAt (s : State) (n : Nat) (v : Int) : State :=
  let s := s.runPulse n
  let t := usNow s
  s.modCh n fun c => { c.halted t with
    m := { c.m with
      pos := wrap64 (c.reached t - c.offsetAt t), seg := none, ahead := none, stopDec := 0, late := none
      state := if c.m.state = .fault then .fault else .idle }
    restAt := c.restAt.or (some s.now)
    uncertain := c.uncertain || (c.kind == 2 && decide (c.startStop * 2 ^ 24 < v.natAbs)) }

/-- IMMEDIATE at the velocity of the profile. -/
def State.axisImmediate (s : State) (n : Nat) : State := s.axisImmediateAt n ((axisOf s n).m.at (usNow s)).2

/-- The motion after a requested stop at DEC from `(p, v)` (R242), the kind naming its state. A faster one in progress stays, and
SS1 names the state all the same (R257). -/
def Motion.stopFrom (m : Motion) (t p v : Int) (dec : Nat) (st : AxisState) : Motion :=
  if m.stopDec ≠ 0 ∧ dec ≤ m.stopDec then
    { m with state := if m.state = .fault ∨ st ≠ .ss1Stop then m.state else st }
  else
    { m with
      seg := some (stopSeg t p v dec), ahead := none, stopDec := dec, late := none
      state := if m.state = .fault then .fault else st }

/-- The same from the present state of the profile. -/
def Motion.stop (m : Motion) (t : Int) (dec : Nat) (st : AxisState) : Motion :=
  m.stopFrom t (m.at t).1 (m.at t).2 dec st

/-- The channel as it is before a start. -/
def AxisCh.before (c : AxisCh) : BeforeStart := { m := c.m, standing := c.standing, restAt := c.restAt, halt := c.halt, mark := c.mark }

/-- The channel without the start of this instant (R243). -/
def AxisCh.undone (c : AxisCh) : AxisCh :=
  match c.undo with
  | some b => { c with m := b.m, standing := b.standing, restAt := b.restAt, halt := b.halt, mark := b.mark, undo := none }
  | none => c

/-- A stop discards the starts of its instant (R243). -/
def State.axisUndoStart (s : State) (n : Nat) : State :=
  s.modCh n fun c =>
    if c.instAt = s.now then { c.undone with instStart := none, instStopped := true }
    else { c with instAt := s.now, undo := none, instStart := none, instStopped := true }

/-- A stop of KIND 0 RAMP, 1 QUICK, 2 IMMEDIATE, 4 SS1 acts on a channel (R242). -/
def State.axisStop (s : State) (n kind : Nat) : State :=
  let s := (s.axisAdvance n).axisUndoStart n
  let m := (axisOf s n).m
  if kind = 2 then s.axisImmediate n
  else if m.seg.isNone ∧ kind ≠ 4 then
    s.modCh n fun c => { c with
      m := { c.m with late := none, state := if c.m.state = .running then .idle else c.m.state }, restAt := c.restAt.or (some s.now) }
  else s.modCh n fun c => { c with m := c.m.stop (usNow s) (c.dec kind) (if kind = 4 then .ss1Stop else .stopping), restAt := none }

/-- CLEAR leaves FAULT at velocity 0 (R254, R259); the second part says whether it acted. -/
def State.axisClear (s : State) (n : Nat) : State × Bool :=
  let s := s.axisAdvance n
  let c := axisOf s n
  if (c.m.at (usNow s)).2 ≠ 0 then (s, false)
  else if c.m.state = .fault then
    (s.modCh n fun c => { c with
      m := { c.m with state := .idle, cause := 0, seg := none, ahead := none, stopDec := 0, pos := (c.m.at (usNow s)).1 }
      halt := false, restAt := some s.now }, true)
  else (s, true)

/-- A fault and its reaction: IMMEDIATE or QUICK (R254), on a PULSE channel from the steps emitted (R249). -/
def State.axisFail (s : State) (n cause : Nat) (immediate : Bool) : State :=
  if (axisOf s n).m.state = .fault then s
  else
    let s := (s.axisFault n cause).runPulse n
    let t := usNow s
    if immediate then s.axisImmediate n
    else s.modCh n fun c =>
      let p := wrap64 (c.reached t - c.offsetAt t)
      { c.halted t with
        m := if c.m.seg.isSome then { c.m.stopFrom t p (c.m.at t).2 (c.dec 1) .stopping with state := .fault }
          else { c.m with pos := p, late := none } }

/-- Where a commanded position lies against the limits. -/
def AxisCh.sideOf (c : AxisCh) (pos : Int) : Nat :=
  let whole := floorDiv pos (2 ^ 24)
  if c.posMax < whole then 1 else if whole < c.posMin then 2 else 0

/-- The cause that an evaluation finds at a commanded position and velocity (R254): VEL, or LIMIT, where a limit is passed since
the last evaluation or the profile moves on outward beyond it (log 53). -/
def AxisCh.checkCause (c : AxisCh) (p v : Int) : Option Nat :=
  let side := c.sideOf p
  if c.maxVel * 2 ^ 24 < v.natAbs then some 6
  else if c.limitsEn ∧ side ≠ 0 ∧ (side ≠ c.side ∨ (side = 1 ∧ 0 < v) ∨ (side = 2 ∧ v < 0)) then some 2
  else none

/-- The checks of an evaluation (R254). A start of this instant comes after a fault that stands without it (R243). -/
def State.axisCheck (s : State) (n : Nat) : State :=
  let t := usNow s
  let c := axisOf s n
  let (p, v) := c.cmdAt s t
  let without := if c.instAt = s.now ∧ c.undo.isSome then
      let (p, v) := c.undone.cmdAt s t
      c.checkCause p v
    else none
  let s := match without, c.checkCause p v with
    | some k, _ => (s.axisUndoStart n).axisFail n k false
    | none, some k => s.axisFail n k false
    | none, none => s
  s.modCh n fun c => { c with side := c.sideOf p }

/-- LAG at the input instant (R254). -/
def State.axisLag (s : State) (n : Nat) : State :=
  let c := axisOf s n
  if c.lagMax = 0 ∨ (feedback s c).isNone then s
  else if c.lagMax * 2 ^ 24 < (wrap64 ((c.cmdAt s (usNow s)).1 - fbPos s c)).natAbs then
    if c.m.state = .fault then s else (s.axisUndoStart n).axisFail n 1 true
  else s

/-! ### Starts, offsets and relabels (R241, R252, R253) -/

/-- SS1 acts on the channel (R257). -/
def ss1Acts (s : State) (c : AxisCh) : Bool := c.stoPairs &&& s.axis.ss1Held ≠ 0

/-- No new request acts until the next committed image (R256, log 47). -/
def noNewRequests (s : State) : Bool := s.dev.mode == .run && (s.cyc.commit == .substitute || s.cyc.commit == .latched)

/-- The status with which a start is refused (R241, R256, R257, R264); none: it is accepted. -/
def startRefusal (s : State) (n : Nat) : Option Nat :=
  let c := axisOf s n
  if s.dev.mode ≠ .run ∧ s.dev.mode ≠ .hold then some stBadMode
  else if c.kind = 0 then some stAxNotConfigured
  else if c.m.state = .fault ∨ noNewRequests s then some stAxState
  else if ss1Acts s c then some stAxSs1
  else none

/-- A start begins, or waits for ENA_DELAY_US in a standstill of OFF or SHORT (R241, R256). -/
def State.axisBegin (s : State) (n e : Nat) : State :=
  let c := axisOf s n
  let t := usNow s
  let off := c.standing && c.standstill ≠ 0
  let m := { c.m with state := .running, startLate := off, stopDec := 0 }
  let a : Advanced :=
    if off then { m := { m with late := some (e, t + (c.enaDelay : Nat)) } }
    else
      let (p, v) := m.at t
      Motion.enter { m with base := p, late := none } (readEntry s) (c.dec 1) e (readEntry s e) t p v
  let s := s.modCh n fun c => { c with m := a.m, standing := false, restAt := none, halt := false }
  let s := a.marks.foldl (fun s t =>
    let s := s.modCh n fun c => { c with mark := (c.mark + 1) % 2 ^ 32 }
    s.publishAt (0x700 + n) (t * 1000).toNat (axisOf s n).mark) s
  if a.segFault then s.segFaultNow n else s

/-- A start that is accepted takes effect (R243): a stop at the same instant discards it, and of two starts that of
the command wins. -/
def State.axisStart (s : State) (n e : Nat) (command : Bool) : State :=
  let s := s.axisAdvance n
  let c := axisOf s n
  let same := decide (c.instAt = s.now)
  if same && c.instStopped then s
  else match (if same then c.instStart else none) with
    | some (_, true) => s
    | some (_, false) =>
      if command then
        ((s.modCh n fun c => { c.undone with undo := c.undo, instStart := some (e, true) }).axisBegin n e)
      else s
    | none =>
      (s.modCh n fun c => { c with instAt := s.now, instStopped := false, undo := some c.before, instStart := some (e, command) }).axisBegin n e

/-- AXIS_OFFSET (R252): a new target. -/
def State.axisOffset (s : State) (n : Nat) (target : Int) : State :=
  let t := usNow s
  s.modCh n fun c => { c with offFrom := c.offsetAt t, offTo := target, offSince := some t }

/-- Shifts the names of positions by Δ (R253). -/
def Motion.shift (m : Motion) (d : Int) : Motion :=
  { m with
    pos := wrap64 (m.pos + d), base := wrap64 (m.base + d)
    seg := m.seg.map fun g => { g with p0 := wrap64 (g.p0 + d), p1 := wrap64 (g.p1 + d) } }

/-- A relabel by Δ takes effect: no limit is passed by it. -/
def State.axisShift (s : State) (n : Nat) (d : Int) : State :=
  let t := usNow s
  (s.runPulse n).modCh n fun c => { c with
    m := c.m.shift d, undo := c.undo.map fun b => { b with m := b.m.shift d }, uncertain := false, relabel := true
    side := c.sideOf (wrap64 ((c.m.at t).1 + c.offsetAt t + d))
    pulse := { c.pulse with acc := enc 64 ((c.pulse.acc : Int) + d * 256) } }

/-- SET (kind 0) and FROM_FB (kind 1) require IDLE, FROM_FB and LATCH (kind 2) a feedback (R253); a start of the same
instant comes after the relabel (R243). The status, 0 where it acted or is armed. -/
def State.axisRelabel (s : State) (n kind : Nat) (pos : Int) : State × Nat :=
  let s := s.axisAdvance n
  let c := axisOf s n
  let redo := if c.instAt = s.now then c.instStart else none
  let s := if redo.isSome then s.modCh n fun c => { c.undone with instStart := none } else s
  let c := axisOf s n
  let cmd := (c.cmdAt s (usNow s)).1
  let idle := c.m.state == .idle && c.m.seg.isNone
  let r : State × Nat :=
    match kind with
    | 0 =>
      if !idle then (s, stAxState)
      else ((s.modCh n fun c => { c with fbOffset := wrap64 (pos - (feedback s c).getD 0 * q24) }).axisShift n (wrap64 (pos - cmd)), stOk)
    | 1 =>
      if !idle then (s, stAxState)
      else if (feedback s c).isNone then (s, stAxRef)
      else (s.axisShift n (wrap64 (fbPos s c - cmd)), stOk)
    | _ =>
      if c.fbKind ≠ 1 then (s, stAxRef)
      else (armLatch c.enc (s.modCh n fun c => { c with latch := some pos }), stOk)
  match redo with
  | some (e, command) => (r.1.axisStart n e command, r.2)
  | none => r

/-- A request of the applied image (R259); a refused start under SS1 counts in SS1_REFUSED (R257). -/
def State.axisRequest (s : State) (r : AxisReq) : State :=
  match r with
  | .start n e =>
    (match startRefusal s n with
    | none => if e < 65536 then s.axisStart n e false else s
    | some st => if st = stAxSs1 then s.modCh n fun c => { c with ss1Refused := sat32 c.ss1Refused } else s)
  | .stop n k =>
    if (axisOf s n).kind = 0 ∨ 3 < k then s else if k = 3 then (s.axisClear n).1 else s.axisStop n k
  | .offset n x => if (axisOf s n).kind = 0 then s else s.axisOffset n x
  | .ref n x k => if (axisOf s n).kind = 0 ∨ 2 < k then s else (s.axisRelabel n k x).1

/-- The requests of an image in the order of R243: stops, then relabels and offsets, then starts. -/
def State.axisRequests (s : State) (rs : List AxisReq) : State :=
  let isStop (r : AxisReq) : Bool := match r with | .stop _ _ => true | _ => false
  let isStart (r : AxisReq) : Bool := match r with | .start _ _ => true | _ => false
  let s := (rs.filter isStop).foldl State.axisRequest s
  let s := (rs.filter fun r => !isStop r && !isStart r).foldl State.axisRequest s
  (rs.filter isStart).foldl State.axisRequest s

end Sys2Proof.Machine
end

