-- ==== Sys2Proof/Machine/AxisCmd.lean ====
section
/-! DEFINITION. The motion generator's events, its part in modes and instants, and the AXIS commands (07 R240–R267; 08 R292). -/

namespace Sys2Proof.Machine

/-! ### Events -/

/-- The LATCH relabel of a channel acts at the first tick after the event (R253); its command is answered. -/
def State.latchShiftDue (s : State) (n : Nat) : State :=
  match (axisOf s n).latchShift with
  | none => s
  | some d =>
    let s := (s.axisShift n d).modCh n fun c => { c with latchShift := none }
    let pos := ((axisOf s n).cmdAt s (usNow s)).1
    s.settle (fun e => e.op == .axisSetPosition && e.data == [n]) fun _ => (stOk, wd2 (enc 64 pos))

/-- One channel at a tick (R240, R245). -/
def State.axisTick (s : State) (n : Nat) : State :=
  let s := ((s.runPulse n).axisAdvance n).latchShiftDue n
  if (axisOf s n).kind = 2 then
    let s := s.axisCheck n
    let next := ((axisOf s n).cmdAt s (usNow s + 1)).1
    s.modCh n fun c => { c with pulse := c.pulse.tick c.incMax next }
  else s

/-- The motion generator evaluates: not during a reset, nor while the outputs hold after one, nor in cycle q of a resume
(R95, R101, R256), nor on a half without the crook (15 R524). -/
def axisRuns (s : State) : Bool :=
  s.boot.phase == .running && s.boot.windowOpened.isNone && !s.boot.holdingOutputs && !resuming s && s.acts

/-- TICK (R245): at each whole microsecond of device time. -/
def tick (s : State) : State :=
  if axisRuns s ∧ s.clock % 800 = 0 then (axisNumbers s).foldl State.axisTick s else s

def execTick (t : Nat) (s : State) : Host.Outcome State Fault Refusal := event true t tick s

/-- The channel of a pulse axis. -/
def channelOfPulse (s : State) (a : Nat) : Option Nat :=
  (s.axis.ch.find? fun e => e.2.kind == 2 && e.2.pulseAxis == a).map (·.1)

/-- STEP_PULSE (R246): one owed step is emitted. -/
def stepPulse (a : Nat) (s : State) : State :=
  match channelOfPulse s a with
  | none => s
  | some n =>
    let s := s.runPulse n
    if (axisOf s n).canStep s.now then
      s.modCh n fun c =>
        let d : Int := if 0 < c.pulse.owed then 1 else -1
        { c with pulse := { c.pulse with owed := c.pulse.owed - d, stepCount := wrap64 (c.pulse.stepCount + d), riseAt := some s.now } }
    else s

def execStepPulse (a t : Nat) (s : State) : Host.Outcome State Fault Refusal := event (a < 16) t (stepPulse a) s

/-- DIR_CHANGE (R247). -/
def dirChange (a : Nat) (s : State) : State :=
  match channelOfPulse s a with
  | none => s
  | some n =>
    let s := s.runPulse n
    if (axisOf s n).canTurn s.now then
      s.modCh n fun c => { c with pulse := { c.pulse with dirPos := decide (0 < c.pulse.inc), dirAt := some s.now } }
    else s

def execDirChange (a t : Nat) (s : State) : Host.Outcome State Fault Refusal := event (a < 16) t (dirChange a) s

/-- STANDSTILL (R256): STANDSTILL_DELAY_MS after velocity 0 in IDLE. -/
def standstill (n : Nat) (s : State) : State :=
  let s := s.axisAdvance n
  let c := axisOf s n
  match c.restAt with
  | some t =>
    if c.kind ≠ 0 ∧ c.m.state = .idle ∧ c.m.seg.isNone ∧ t + clocksOfUs (c.standDelayMs * 1000) ≤ s.now then
      s.modCh n fun c => { c with standing := true }
    else s
  | none => s

def execStandstill (n t : Nat) (s : State) : Host.Outcome State Fault Refusal := event (n < axes s) t (standstill n) s

/-- ENA and SHORT of a PULSE channel (R244, R256). -/
def enaPin (c : AxisCh) : Bool := !c.standing || c.standstill == 0
def shortPin (c : AxisCh) : Bool := c.standing && c.standstill == 2

/-- The levels of STEP, DIR, ENA and SHORT of pulse axis `a`; none while the pins are high-impedance, until a channel drives it
(R244, R246): a STEP pulse is high for PULSE_CLK clocks. -/
def pulsePins (s : State) (a : Nat) : Option (Bool × Bool × Bool × Bool) :=
  (channelOfPulse s a).map fun n =>
    let c := axisOf s n
    let step := match c.pulse.riseAt with
      | some t => decide (s.now < t + c.pulseClk)
      | none => false
    (step, c.pulse.dirPos == c.dirPosHigh, enaPin c, shortPin c)

/-- SS1_REQUEST (R257): every channel with the pair's bit enters SS1_STOP. -/
def ss1Request (pair : Nat) (s : State) : State :=
  if !bit s.isl.ss1Req pair then s
  else
    let s := s.modIsl fun u => { u with ss1Req := setBit u.ss1Req pair false }
    let s := s.modAxis fun a => { a with ss1Held := setBit a.ss1Held pair true }
    ((axisNumbers s).filter fun n => bit (axisOf s n).stoPairs pair).foldl (fun s n => s.axisStop n 4) s

def execSs1Request (pair t : Nat) (s : State) : Host.Outcome State Fault Refusal := event (pair < 8) t (ss1Request pair) s

/-- The island releases pairs (R257). -/
def axisRelease (pairs : Nat) (s : State) : State :=
  s.modAxis fun a => { a with ss1Held := maskOf ((bitsOf 8 a.ss1Held).filter fun n => !bit pairs n) }

/-- LATCH_EVENT (08 R292): the capture serves every request armed, and the LATCH relabels of the interface (R253). -/
def latchEvent (n : Nat) (s : State) : State :=
  if !latchSourceFits s n then s
  else if !(encOf s n).armed then captureLatch n s
  else
    let s := captureLatch n s
    let count : Int := signed 32 (encOf s n).latched
    (axisNumbers s).foldl (fun s a =>
      match (axisOf s a).latch with
      | some pos =>
        if (axisOf s a).fbKind = 1 ∧ (axisOf s a).enc = n then
          s.modCh a fun c => { c with latch := none, latchShift := some (wrap64 (pos - (count * q24 + c.fbOffset))) }
        else s
      | none => s) s

def execLatchEvent (n t : Nat) (s : State) : Host.Outcome State Fault Refusal := event (n < 16) t (latchEvent n) s

/-! ### Instants and modes (R240, R250, R254, R256) -/

/-- The state word (R260). -/
def axisStateWord (s : State) (c : AxisCh) : Nat :=
  let t := usNow s
  let m := (c.carried s t).m
  m.state.num + place 3 (flag c.uncertain) + place 4 (flag (c.standing && c.standstill ≠ 0)) + place 5 (flag c.pulse.clamped) +
    place 6 (flag m.startLate) + place 7 (flag (c.offsetAt t ≠ c.offTo)) + place 8 m.cause + place 16 m.segNo

/-- A Q40.24 value as REAL64. -/
def realOfQ (x : Int) : Nat := Fmt.b64.ofRatio x (2 ^ 24)

/-- One channel at the input instant: checks, the latched values and the four signals (R240, R254, R260). -/
def State.axisInput (s : State) (n : Nat) : State :=
  let s := ((s.axisAdvance n).axisCheck n).axisLag n
  let c := axisOf s n
  let (p, v) := c.cmdAt s (usNow s)
  let w := axisStateWord s c
  let pos := realOfQ p; let vel := realOfQ v; let fb := realOfQ (fbPos s c)
  let s := s.modCh n fun c => { c with imgPos := pos, imgVel := vel, imgFb := fb, imgState := w }
  (((s.publish (0x300 + n) pos).publish (0x400 + n) vel).publish (0x500 + n) fb).publish (0x600 + n) w

/-- The input instant. -/
def axisInputs (s : State) : State := (axisNumbers s).foldl State.axisInput s

/-- The record of a REMOTE channel for the output instant of the frame's tag (R250, R251). -/
def State.axisRemote (s : State) (n : Nat) : State :=
  let s := (s.axisAdvance n).axisCheck n
  let c := axisOf s n
  let (p, v) := c.cmdAt s (usNow s + (ringCycleUs s true : Nat))
  let w4 := ringCycleNo s true % 256 + place 8 (flag (enaPin c)) + place 9 (flag (shortPin c)) +
    place 10 (flag (c.halt || s.dev.mode == .safe)) + place 11 (flag (v ≠ 0 || c.m.seg.isSome)) + place 12 (flag c.relabel)
  let key := c.member * 1024 + c.word
  let words := [enc 64 p % 2 ^ 32, enc 64 p / 2 ^ 32, enc 64 v % 2 ^ 32, enc 64 v / 2 ^ 32, w4]
  let s := s.modDrove fun d => { d with outWords := words.zipIdx.foldl (fun t e => put 0 t (key + e.2) e.1) d.outWords }
  s.modCh n fun c => { c with relabel := false }

/-- The start of a down-ring cycle: every REMOTE record is written (R250). -/
def axisRemotes (s : State) : State :=
  ((axisNumbers s).filter fun n => (axisOf s n).kind == 3).foldl State.axisRemote s

/-- Entry to SUBSTITUTE (R256). -/
def axisSubstitute (s : State) : State :=
  (axisNumbers s).foldl (fun s n => if (axisOf s n).substAction = 3 then s else s.axisStop n (axisOf s n).substAction) s

/-- RUN to READY (R256, 01 R32): CONTINUE is taken as RAMP, and no offset moves on in READY. -/
def axisToReady (s : State) : State :=
  (axisNumbers s).foldl (fun s n =>
    let s := s.axisStop n (if (axisOf s n).substAction = 3 then 0 else (axisOf s n).substAction)
    let t := usNow s
    s.modCh n fun c => c.offsetRests t) s

/-- Entry to RUN: motion is allowed again (R256). -/
def axisToRun (s : State) : State :=
  let t := usNow s
  (axisNumbers s).foldl (fun s n => s.modCh n fun c => c.offsetMoves t) s

/-- Entry to HOLD (R256). -/
def axisHoldEntry (s : State) : State :=
  (axisNumbers s).foldl (fun s n => if (axisOf s n).holdAction then s.axisStop n 0 else s) s

/-- Entry to SAFE (R254 cause 4, R256): IMMEDIATE and the standstill at once. -/
def axisSafeEntry (s : State) : State :=
  (axisNumbers s).foldl (fun s n =>
    let s := (s.axisAdvance n).axisUndoStart n
    let s := if ((axisOf s n).m.at (usNow s)).2 ≠ 0 then s.axisFault n 4 else s
    let t := usNow s
    (s.axisImmediate n).modCh n fun c => { c.offsetRests t with standing := true }) s

/-- STO is switched on pairs (R254 cause 5). -/
def axisSto (pairs : Nat) (s : State) : State :=
  (axisNumbers s).foldl (fun s n =>
    if (axisOf s n).stoPairs &&& pairs = 0 then s
    else
      let s := (s.axisAdvance n).axisUndoStart n
      if ((axisOf s n).m.at (usNow s)).2 ≠ 0 then s.axisFail n 5 true else s) s

/-- The velocity of a held increment, Q40.24 steps/s: 800 MHz clocks, Q32.32 steps (R245). -/
def Pulse.heldVel (p : Pulse) : Int := p.inc * 3125000

/-- The hold budget is spent in a reset (R256): pulse axes stop IMMEDIATE, from the velocity at which they were held. -/
def axisHoldEnd (s : State) : State :=
  (axisNumbers s).foldl (fun s n =>
    if (axisOf s n).kind = 2 then s.axisImmediateAt n (axisOf s n).pulse.heldVel else s) s

/-! ### Checks at the transition to READY (R250, R258, R262) -/

/-- The words of member output frames that REMOTE channels claim, as keys (R250). -/
def axisClaims (s : State) : List Nat :=
  (axisNumbers s).flatMap fun n =>
    let c := axisOf s n
    if c.kind = 3 then (List.range 5).map fun i => c.member * 1024 + c.word + i else []

/-- Time in µs that a stop from MAX_VEL at DEC_SS1 takes (R242). -/
def ss1StopUs (c : AxisCh) : Nat := max 1 ((c.maxVel * 1000000 + (c.dec 4 - 1)) / c.dec 4)

/-- SS1 time in µs of an STO pair (14 R499): 0.97 × T_SS1_MAX_MS of an enabled pair of MODE SS1-t or SS1-r, else 0. -/
def ss1TimeUs (s : State) (pair : Nat) : Nat :=
  let w := (s.isl.params.getD (5 + 6 * pair) 0).toNat
  if s.isl.state = .ready ∧ bit w 0 ∧ field w 1 2 ≠ 0 then field w 8 16 * 970 else 0

/-- A reference of a channel fails (R93, R250, R258, R262). -/
def axisRefBad (s : State) (n : Nat) : Bool :=
  let c := axisOf s n
  let needsMember := c.kind == 3
  let outWords (m : Nat) : Nat := ((dataSlots (modeInForce s true) 0x80 m).map fun i => (slotAt (modeInForce s true) i).lenW - 1).sum
  let inWords (m : Nat) : Nat := ((dataSlots (modeInForce s true) m 0x80).map fun i => (slotAt (modeInForce s true) i).lenW - 1).sum
  (needsMember && (c.ring ≠ 0 || outWords c.member < c.word + 5)) ||
  (c.fbKind == 1 && !(encOf s c.enc).configured) ||
  (c.fbKind == 2 && (field (c.w 2) 6 2 ≠ 0 || inWords c.fbMember ≤ c.fbWord)) ||
  (c.stoPairs ≠ 0 && c.maxVel ≠ 0 && (bitsOf 8 c.stoPairs).any fun p => ss1TimeUs s p < ss1StopUs c)

/-! ### Commands (R261–R267) -/

/-- A field of AXIS.CONFIG is out of range (R262). -/
def axisCfgRange (s : State) (c : AxisCh) (n kind : Nat) : Bool :=
  axes s ≤ n || reservedSet (c.w 0) 0xFFFFC000 || reservedSet (c.w 1) 0xFFFC0000 || reservedSet (c.w 2) 0xFF000000 ||
  reservedSet (c.w 3) 0xFE00 || reservedSet (c.w 16) 0xC000 || c.fbKind == 3 || c.standstill == 3 ||
  (kind == 2 && c.pulseClk < 16) || (kind ≠ 0 && (c.w 7 == 0 || c.w 8 == 0 || c.w 9 == 0)) || c.posMax < c.posMin ||
  (kind == 2 && 800000000 < c.maxVel * 2 * c.pulseClk)

/-- The channel after AXIS.CONFIG (log 51): positions stay, counters and the accumulator start anew. -/
def AxisCh.configured (c : AxisCh) (s : State) (kind : Nat) (ws : List Word) : AxisCh :=
  if kind = 0 then {}
  else
    let t := usNow s
    let pos := (c.cmdAt s t).1
    { c with
      kind := kind, cfg := ws, ss1Refused := 0, restAt := some s.now, offFrom := c.offsetAt t, offSince := none
      side := { c with cfg := ws }.sideOf pos
      pulse := { acc := Machine.enc 64 (pos * 256), upTo := s.now } }

def cmdAxisConfig (p : Packet) (s : State) : State × Verdict :=
  let w := p.w 0
  let n := field w 0 8; let kind := field w 8 2
  let c : AxisCh := { cfg := p.params }
  let taken := kind == 2 && s.axis.ch.any fun e => e.1 ≠ n && e.2.kind == 2 && e.2.pulseAxis == c.pulseAxis
  checked
    [(p.len ≠ 17, stBadLength), (axisCfgRange s c n kind, stRange), (notConfiguring s, stBadMode), (taken, stAxInUse)] s
    (s.modCh n (fun c => c.configured s kind p.params), .done stOk [])

/-- AXIS.CONFIG (R262). -/
def execAxisConfig (p : Packet) (s : State) : Host.Outcome State Fault Refusal := command .axisConfig cmdAxisConfig p s

/-- The entry is that of a segment in progress, or already read (R238). -/
def entryInUse (s : State) (first count : Nat) : Bool :=
  s.axis.ch.any fun e =>
    let m := (e.2.carried s (usNow s)).m
    let inside (i : Nat) : Bool := first ≤ i && i < first + count
    (match m.seg with | some g => (match g.entry with | some i => inside i | none => false) | none => false) ||
    (match m.ahead with | some (i, _) => inside i | none => false)

def cmdAxisTableWrite (p : Packet) (s : State) : State × Verdict :=
  let first := p.w 0
  let es := chunks 6 681 (p.params.drop 1)
  let n := es.length
  let bad := (es.zipIdx.find? fun e => entryRefused (first + e.2) e.1).map fun e => first + e.2
  checked
    [(p.len < 7 || (p.len - 1) % 6 ≠ 0 || 4087 < p.len, stBadLength),
     (reservedSet first 0xFFFF0000 || 65536 < first + n, stRange)] s
    (match bad with
    | some e => (s, .done stAxSegment [wd e])
    | none => if entryInUse s first n then (s, .done stAxInUse []) else (s.writeWords (segAddr first) (p.params.drop 1), .done stOk []))

/-- AXIS.TABLE_WRITE (R263). -/
def execAxisTableWrite (p : Packet) (s : State) : Host.Outcome State Fault Refusal :=
  command .axisTableWrite cmdAxisTableWrite p s

/-- What AXIS.START, AXIS.STOP and AXIS.SET_POSITION do at the start of their cycle (R261, R264, R266). -/
def axisStartNow (p : Packet) (s : State) : State × Verdict :=
  let n := field (p.w 0) 0 8
  match startRefusal s n with
  | some st => (s, .done st [])
  | none => (s.axisStart n (field (p.w 1) 0 16) true, .done stOk [])

/-- The channels that AXIS.STOP names. -/
def stopTargets (s : State) (w : Nat) : List Nat := if bit w 10 then axisNumbers s else [field w 0 8]

def axisStopNow (p : Packet) (s : State) : State × Verdict :=
  let w := p.w 0
  let kind := field w 8 2
  let ts := stopTargets s w
  let moving := kind == 3 && ts.any fun n => (((axisOf s n).carried s (usNow s)).m.at (usNow s)).2 ≠ 0
  if ts.any fun n => (axisOf s n).kind == 0 then (s, .done stAxNotConfigured [])
  else if moving then (s, .done stAxState [])
  else (ts.foldl (fun s n => if kind = 3 then (s.axisClear n).1 else s.axisStop n kind) s, .done stOk [])

def axisSetNow (p : Packet) (s : State) : State × Verdict :=
  let w := p.w 0
  let n := field w 0 8; let kind := field w 8 2
  let pos : Int := signed 64 (p.w 1 + place 32 (p.w 2))
  if s.dev.mode = .safe ∨ s.dev.mode = .graze then (s, .done stBadMode [])
  else if (axisOf s n).kind = 0 then (s, .done stAxNotConfigured [])
  else
    match s.axisRelabel n kind pos with
    | (t, st) =>
      if st ≠ stOk then (t, .done st [])
      else if kind = 2 then t.defer .axisSetPosition p [n]
      else (t, .done stOk (wd2 (enc 64 ((axisOf t n).cmdAt t (usNow t)).1)))

/-- A command that takes effect at the start of cycle AT, or without AT_CYCLE at the start of the next cycle (R261). -/
def atCycleStart (op : Op) (now : Packet → State → State × Verdict) (p : Packet) (s : State) : State × Verdict :=
  if p.atCycle.isSome then now p s else s.defer op p []

def cmdAxisStart (p : Packet) (s : State) : State × Verdict :=
  checked
    [(p.len ≠ 2, stBadLength),
     (reservedSet (p.w 0) 0xFFFFFF00 || reservedSet (p.w 1) 0xFFFF0000 || axes s ≤ field (p.w 0) 0 8, stRange),
     (s.dev.mode ≠ .run && s.dev.mode ≠ .hold, stBadMode)] s
    (atCycleStart .axisStart axisStartNow p s)

/-- AXIS.START (R264). -/
def execAxisStart (p : Packet) (s : State) : Host.Outcome State Fault Refusal := command .axisStart cmdAxisStart p s

def cmdAxisStop (p : Packet) (s : State) : State × Verdict :=
  let w := p.w 0
  checked
    [(p.len ≠ 1, stBadLength),
     (reservedSet w 0xFFFFF800 || axes s ≤ field w 0 8 || (bit w 10 && field w 0 8 ≠ 0), stRange)] s
    (atCycleStart .axisStop axisStopNow p s)

/-- AXIS.STOP (R264). -/
def execAxisStop (p : Packet) (s : State) : Host.Outcome State Fault Refusal := command .axisStop cmdAxisStop p s

def cmdAxisSetPosition (p : Packet) (s : State) : State × Verdict :=
  let w := p.w 0
  let kind := field w 8 2
  checked
    [(p.len ≠ 3, stBadLength),
     (reservedSet w 0xFFFFFC00 || axes s ≤ field w 0 8 || kind == 3 || (kind == 1 && (p.w 1 ≠ 0 || p.w 2 ≠ 0)), stRange),
     (s.dev.mode == .safe || s.dev.mode == .graze, stBadMode)] s
    (atCycleStart .axisSetPosition axisSetNow p s)

/-- AXIS.SET_POSITION (R266). -/
def execAxisSetPosition (p : Packet) (s : State) : Host.Outcome State Fault Refusal :=
  command .axisSetPosition cmdAxisSetPosition p s

/-- Runs the deferred commands of `op` that wait for a cycle start. -/
def State.runDeferred (s : State) (op : Op) (now : Packet → State → State × Verdict) : State :=
  let mine (d : Deferred) : Bool := d.op == op && d.data.isEmpty
  let due := s.host.deferred.filter mine
  let s := s.modHost fun h => { h with deferred := h.deferred.filter fun d => !mine d }
  due.foldl (fun s d => match now d.packet s with
    | (t, .done st ws) => t.answer op d.packet st ws
    | (t, .waits) => t) s

/-- The start of a device cycle: the commands that waited for it, in the order of R243. -/
def axisCycleStart (s : State) : State :=
  ((s.runDeferred .axisStop axisStopNow).runDeferred .axisSetPosition axisSetNow).runDeferred .axisStart axisStartNow

/-- The words of AXIS.STATUS (R265). -/
def axisStatusWords (s : State) (n : Nat) : List Word :=
  let c := axisOf (s.runPulse n) n
  let (p, v) := c.cmdAt s (usNow s)
  [wd (axisStateWord s c)] ++ wd2 (enc 64 p) ++ wd2 (enc 64 v) ++ wd2 (enc 64 (floorDiv (fbPos s c) (2 ^ 24))) ++
    wd2 (enc 64 (c.offsetAt (usNow s))) ++ wd2 (enc 64 c.pulse.stepCount) ++
    [wd c.pulse.dirDelays, wd c.pulse.rateClamps, wd c.ss1Refused]

/-- The checks of a one-word command that names a channel. -/
def axisChecks (p : Packet) (mask : Nat) (s : State) : List (Bool × Nat) :=
  [(p.len ≠ 1, stBadLength), (reservedSet (p.w 0) mask || axes s ≤ field (p.w 0) 0 8, stRange)]

def cmdAxisStatus (p : Packet) (s : State) : State × Verdict :=
  let n := field (p.w 0) 0 8
  checked (axisChecks p 0xFFFFFF00 s ++ [((axisOf s n).kind == 0, stAxNotConfigured)]) s (s, .done stOk (axisStatusWords s n))

/-- AXIS.STATUS (R265). -/
def execAxisStatus (p : Packet) (s : State) : Host.Outcome State Fault Refusal := command .axisStatus cmdAxisStatus p s

def cmdAxisStandstill (p : Packet) (s : State) : State × Verdict :=
  let w := p.w 0
  let n := field w 0 8
  let set (c : AxisCh) : AxisCh :=
    let w16 := c.w 16 % 2 ^ 11 + place 11 (field w 8 2) + place 13 (field (c.w 16) 13 3) + place 16 (field w 16 16)
    let c := { c with cfg := (List.range 17).map fun i => wd (if i = 16 then w16 else c.w i) }
    if bit w 10 ∧ c.m.state = .idle then { c with standing := false, restAt := some s.now } else c
  checked
    ([(p.len != 1, stBadLength), (reservedSet w 0xF800 || axes s ≤ n || field w 8 2 == 3, stRange)] ++
      [((axisOf s n).kind == 0, stAxNotConfigured)]) s
    ((s.axisAdvance n).modCh n set, .done stOk [])

/-- AXIS.STANDSTILL (R267). -/
def execAxisStandstill (p : Packet) (s : State) : Host.Outcome State Fault Refusal :=
  command .axisStandstill cmdAxisStandstill p s

end Sys2Proof.Machine
end

