-- ==== Sys2Proof/Machine/Can.lean ====
section
/-! DEFINITION. The CAN FD controllers (12). CAN.TRANSMIT stands in Machine/GraphCmd.lean. -/

namespace Sys2Proof.Machine

/-- Controller `c`. -/
def canOf (s : State) (c : Nat) : CanCtrl := look {} s.can.ctrls c

/-- Changes controller `c`. -/
def State.modCtrl (s : State) (c : Nat) (f : CanCtrl → CanCtrl) : State :=
  s.modCan fun u => { u with ctrls := upd {} u.ctrls c f }

/-- Buffer `b` of controller `c`. -/
def canBuf (s : State) (c b : Nat) : CanBuf := look {} (canOf s c).bufs b

/-- Changes buffer `b` of controller `c`. -/
def State.modBuf (s : State) (c b : Nat) (f : CanBuf → CanBuf) : State :=
  s.modCtrl c fun k => { k with bufs := upd {} k.bufs b f }

/-- The settings of CAN.CONFIG word 0 (12 R451). -/
def CanCtrl.fd (k : CanCtrl) : Bool := bit k.cfg0 4
def CanCtrl.listen (k : CanCtrl) : Bool := bit k.cfg0 5
def CanCtrl.autoRecover (k : CanCtrl) : Bool := bit k.cfg0 7
def CanCtrl.abortOnBusoff (k : CanCtrl) : Bool := bit k.cfg0 8

/-- The controllers take part in the bus traffic (12 R442, R445): not in GRAZE (R449). -/
def onBus (s : State) (c : Nat) : Bool :=
  ((canOf s c).state == .errorActive || (canOf s c).state == .errorPassive) && s.dev.mode ≠ .graze && domainOn s 11

/-- COUNTER when `t` timing clocks have passed: microseconds of the CAN clock, or of device time (12 R438; log 134). -/
def canCounter (s : State) (c t : Nat) : Nat :=
  if (canOf s c).slaved then usOf (s.clockAt t) % 2 ^ 32 else usOf t % 2 ^ 32

/-- The status word (12 R447). -/
def canStatusWord (k : CanCtrl) : Nat :=
  min k.tec 255 + place 8 (min k.recCount 255) + place 16 k.state.num + place 19 (flag k.noAck) + place 20 (flag k.listen)
    + place 21 (min k.ackMisses 31)

/-- Data bytes of a frame (12 R428, R434): a DLC and the FD flag. -/
def dataBytes (dlc : Nat) (fdf rtr : Bool) : Nat :=
  if rtr then 0
  else if dlc ≤ 8 then dlc
  else if !fdf then 8
  else match dlc with
    | 9 => 12 | 10 => 16 | 11 => 20 | 12 => 24 | 13 => 32 | 14 => 48 | _ => 64

/-- Word 1 of a buffer (12 R434). -/
def bufWord1 (k : CanBuf) : Nat :=
  k.frame % 128 + place 8 k.state.num + place 12 (flag k.locked) + place 13 (flag k.overrun) + place 14 k.filter

/-- Word `i` of a buffer (12 R434). -/
def bufWord (k : CanBuf) (i : Nat) : Nat :=
  match i with
  | 0 => k.idWord
  | 1 => bufWord1 k
  | 2 => k.stamp
  | 3 => if k.kind = 2 then k.txTime else 0
  | _ => look 0 k.data i

/-- The last word of the frame in a buffer (12 R436). -/
def lastWord (k : CanBuf) : Nat := 3 + (dataBytes (k.frame % 16) (bit k.frame 4) (bit k.idWord 30) + 3) / 4

/-! ### Reception (12 R435–R437, R439) -/

/-- A received frame's words in a buffer. -/
def CanBuf.fill (k : CanBuf) (f : CanFrame) (stamp sof filter : Nat) : CanBuf :=
  { k with
    idWord := f.id % 2 ^ 29 + place 29 (flag f.ide) + place 30 (flag f.rtr)
    frame := f.dlc % 16 + place 4 (flag f.fdf) + place 5 (flag f.brs) + place 6 (flag f.esi)
    stamp := stamp, sofAt := sof, filter := filter, state := .full, fresh := true
    data := (f.data.take 16).zipIdx.foldl (fun t e => put 0 t (4 + e.2) e.1.toNat) [] }

/-- The 29-bit identifier as compared: base identifiers lie in [28:18] (12 R434). -/
def idMatches (f : CanFrame) (id mask : Nat) (ide : Bool) : Bool := (f.id ^^^ id) &&& mask == 0 && f.ide == ide

/-- A frame has entered buffer `b`: a high-priority buffer shows it in HP_PENDING and sends its vector (12 R437). -/
def State.frameIn (s : State) (c b : Nat) : State :=
  let k := canBuf s c b
  if 4 ≤ b then s
  else
    let s := s.modCtrl c fun u => { u with hpPending := setBit u.hpPending b true }
    if k.vecEn then s.sendVector k.vector else s

/-- A frame directed to buffer `b`: into it, or into the pending store of a locked one, where a second one replaces the first
and is an overrun (12 R436). -/
def State.placeFrame (s : State) (c b stamp sof filter : Nat) (f : CanFrame) (overrun : Bool) : State :=
  let k := canBuf s c b
  let lost := k.locked && k.store.isSome
  let s := s.modCtrl c fun u => { u with
    rxFrames := sat32 u.rxFrames, overruns := if lost then sat32 u.overruns else u.overruns }
  if k.locked then s.modBuf c b fun k => { k with overrun := k.overrun || lost, store := some (f, stamp, sof, filter) }
  else (s.modBuf c b fun k => { (k.fill f stamp sof filter) with overrun := overrun || k.overrun }).frameIn c b

/-- The buffer with the oldest STAMP, by signed difference. -/
def oldestBuf (s : State) (c : Nat) (bs : List Nat) : Option Nat :=
  bs.foldl (fun o b => match o with
    | none => some b
    | some a => if cycDiff (canBuf s c b).stamp (canBuf s c a).stamp < 0 then some b else some a) none

/-- Where a frame goes (12 R435). A high-priority buffer that is FULL is overwritten (log 27). -/
def State.receiveCan (s : State) (c stamp sof : Nat) (f : CanFrame) : State :=
  let hp := (List.range 4).find? fun b =>
    let k := canBuf s c b
    k.kind == 1 && !f.rtr && idMatches f k.matchId k.mask k.ide
  match hp with
  | some b =>
    s.placeFrame c b stamp sof 63 f ((canBuf s c b).state == .full)
  | none =>
    let flt := (List.range 64).find? fun i =>
      let r := look {} (canOf s c).filters i
      r.enable && (!f.rtr || r.rtrAccept) && idMatches f r.id r.mask r.ide
    match flt with
    | none => s.modCtrl c fun u => { u with unmatched := sat32 u.unmatched }
    | some i =>
      let r := look {} (canOf s c).filters i
      let range := (List.range (r.last + 1 - r.first)).map (r.first + ·)
      match range.find? fun b => (canBuf s c b).state == .empty with
      | some b => s.placeFrame c b stamp sof i f false
      | none =>
        match if r.overwrite then oldestBuf s c range else none with
        | some b => s.placeFrame c b stamp sof i f true
        | none => s.modCtrl c fun u => { u with overruns := sat32 u.overruns }

/-- CAN.CANCEL of buffer `b` is answered with its final state (12 R455). -/
def State.settleCancel (s : State) (c b : Nat) : State :=
  s.settle (fun d => d.op == .canCancel && d.data == [c, b]) fun _ => (stOk, [wd (canBuf s c b).state.num])

/-- The frame on the bus ends without success: a buffer whose cancel met it is CANCELLED (12 R441). -/
def State.endCancels (s : State) (c : Nat) : State :=
  (List.range 128).foldl (fun s b =>
    if (canBuf s c b).cancelling then (s.modBuf c b fun k => { k with state := .cancelled, cancelling := false }).settleCancel c b else s) s

/-- The state that follows the error counters, with its records (12 R442, R445; ISO 11898-1). -/
def State.confine (s : State) (c : Nat) : State :=
  let k := canOf s c
  if k.state ≠ .errorActive ∧ k.state ≠ .errorPassive then s
  else if 256 ≤ k.tec then
    let s := (s.endCancels c).modCtrl c fun k => { k with
      state := if k.autoRecover then .recovering else .busOff, busoffCount := sat32 k.busoffCount
      bufs := if k.abortOnBusoff then
          k.bufs.map fun e => (e.1, if e.2.state = .pending then { e.2 with state := .failed } else e.2)
        else k.bufs }
    s.recordOpen 10 11 1
  else if 128 ≤ k.tec ∨ 128 ≤ k.recCount then
    if k.state = .errorPassive then s
    else (s.modCtrl c fun k => { k with state := .errorPassive }).recordOpen 10 10 0
  else s.modCtrl c fun k => { k with state := .errorActive }

/-- REC after a good reception (ISO 11898-1): above 127 it takes a value from 119 to 127 that the standard leaves open. -/
def State.goodReception (s : State) (c : Nat) : State :=
  let k := canOf s c
  if k.recCount = 0 then s
  else if k.recCount ≤ 127 then s.modCtrl c fun k => { k with recCount := k.recCount - 1 }
  else s.takeFree.2.modCtrl c fun k => { k with recCount := 119 + s.takeFree.1.toNat % 9 }

/-- CAN_RX_FRAME (12 R435): a frame valid on the bus, with the instant of its start-of-frame edge. -/
def canRxFrame (c : Nat) (f : CanFrame) (sof : Nat) (s : State) : State :=
  if !onBus s c || (f.fdf && !(canOf s c).fd) then s
  else
    let s := if (canOf s c).listen then s else (s.goodReception c).confine c
    s.receiveCan c (canCounter s c sof) sof f

def execCanRxFrame (c : Nat) (f : CanFrame) (sof t : Nat) (s : State) : Host.Outcome State Fault Refusal :=
  event (c < canControllers s) t (canRxFrame c f sof) s

/-! ### Transmission (12 R440–R445) -/

/-- The order of arbitration of two identifier words: base field, then base before extended, then the rest of an extended one. -/
def arbitrationKey (idWord : Nat) : Nat :=
  field idWord 18 11 * 2 ^ 19 + (if bit idWord 29 then 2 ^ 18 + field idWord 0 18 else 0)

/-- The buffer that the controller offers (12 R440). -/
def offered (s : State) (c : Nat) : Option Nat :=
  ((List.range 128).filter fun b => (canBuf s c b).state == .pending).foldl (fun o b => match o with
    | none => some b
    | some a => if arbitrationKey (canBuf s c b).idWord < arbitrationKey (canBuf s c a).idWord then some b else some a) none

/-- CAN_TX_COMPLETE (12 R439, R441, R443): the frame of buffer `b` was sent and acknowledged; `tdc` is the delay that a controller
with TDC measures in a data phase (R431). ESI of an FD frame is that of the sender (R434). -/
def canTxComplete (c b sof tdc : Nat) (s : State) : State :=
  if !onBus s c || (canOf s c).listen || (canBuf s c b).state ≠ .pending then s
  else
    let stamp := canCounter s c sof
    let passive := (canOf s c).state == .errorPassive
    let measured := bit (canOf s c).cfg2 18 && bit (canBuf s c b).frame 5
    let s := s.modBuf c b fun k => { k with
      stamp := stamp, cancelling := false, state := if k.cancelling then .sentDespite else .sent
      frame := setBit k.frame 6 (passive && bit k.frame 4) }
    let s := s.modCtrl c fun k => { k with
      tec := k.tec - 1, txFrames := sat32 k.txFrames, noAck := false, ackMisses := 0
      tdcMeas := if measured then tdc % 256 else k.tdcMeas }
    (s.confine c).settleCancel c b

def execCanTxComplete (c b sof tdc t : Nat) (s : State) : Host.Outcome State Fault Refusal :=
  event (c < canControllers s && b < 128) t (canTxComplete c b sof tdc) s

/-- The frame of buffer `b` failed: a cancelled or one-shot buffer ends, another stays PENDING (12 R440, R441, R444). -/
def State.txFailed (s : State) (c b : Nat) : State :=
  let s := s.modBuf c b fun k =>
    if k.state ≠ .pending then k
    else if k.cancelling then { k with state := .cancelled, cancelling := false }
    else if k.oneShot then { k with state := .failed } else k
  s.settleCancel c b

/-- TEC rises by 8. -/
def State.addTec (s : State) (c : Nat) : State := (s.modCtrl c fun k => { k with tec := k.tec + 8 }).confine c

/-- REC rises by `n`. -/
def State.addRec (s : State) (c n : Nat) : State := (s.modCtrl c fun k => { k with recCount := k.recCount + n }).confine c

/-- A missing acknowledgement is counted (12 R443). -/
def State.missAck (s : State) (c : Nat) : State :=
  let s := s.modCtrl c fun k => { k with ackMisses := k.ackMisses + 1 }
  if 16 ≤ (canOf s c).ackMisses ∧ ¬ (canOf s c).noAck then
    (s.modCtrl c fun k => { k with noAck := true }).recordOpen 10 12 1
  else s

/-- CAN_ERROR (12 R442; ISO 11898-1 fault confinement). In listen-only both counters stay 0 (R446). -/
def canError (c : Nat) (e : CanFault) (s : State) : State :=
  if !onBus s c then s
  else if (canOf s c).listen then s
  else match e with
    | .arbitration b => s.txFailed c b
    | .receive => s.addRec c 1
    | .receiveMore => s.addRec c 8
    | .transmit b stuff => let s := s.txFailed c b; if stuff then s else s.addTec c
    | .noAck b dominant =>
      let passive := (canOf s c).state == .errorPassive
      let s := (s.missAck c).txFailed c b
      if passive && !dominant then s else s.addTec c
    | .transmitMore => s.addTec c

def execCanError (c : Nat) (e : CanFault) (t : Nat) (s : State) : Host.Outcome State Fault Refusal :=
  event (c < canControllers s) t (canError c e) s

/-- A WAIT_TIME buffer has reached its time (12 R440). -/
def txTimeReached (s : State) (c b : Nat) : Bool := 0 ≤ cycDiff (canCounter s c s.now) (canBuf s c b).txTime

/-- TX_TIME (12 R440). -/
def txTime (c b : Nat) (s : State) : State :=
  if (canBuf s c b).state = .waitTime ∧ txTimeReached s c b then s.modBuf c b fun k => { k with state := .pending } else s

def execTxTime (c b t : Nat) (s : State) : Host.Outcome State Fault Refusal :=
  event (c < canControllers s && b < 128) t (txTime c b) s

/-- RECOVERING (12 R445): 128 occurrences of 11 recessive bits. -/
def recovering (c : Nat) (s : State) : State :=
  if (canOf s c).state = .recovering then s.modCtrl c fun k => { k with state := .errorActive, tec := 0, recCount := 0 } else s

def execRecovering (c t : Nat) (s : State) : Host.Outcome State Fault Refusal :=
  event (c < canControllers s) t (recovering c) s

/-- CAN_INTEGRATION (12 R449): 11 consecutive recessive bits. -/
def canIntegration (c : Nat) (s : State) : State :=
  if (canOf s c).state = .integrating ∧ s.dev.mode ≠ .graze then
    s.modCtrl c fun k => { k with state := .errorActive, tec := 0, recCount := 0 }
  else s

def execCanIntegration (c t : Nat) (s : State) : Host.Outcome State Fault Refusal :=
  event (c < canControllers s) t (canIntegration c) s

/-- A frame is queued in a TX buffer (12 R440): PENDING, or WAIT_TIME until its time. -/
def State.queueCan (s : State) (c b : Nat) (atTime : Bool) : State :=
  if atTime ∧ ¬ txTimeReached s c b then s.modBuf c b fun k => { k with state := .waitTime, cancelling := false }
  else s.modBuf c b fun k => { k with state := .pending, cancelling := false }

/-- A TX buffer can take a new frame (12 R454). -/
def txReady (k : CanBuf) : Bool := k.kind == 2 && k.state ≠ .pending && k.state ≠ .waitTime

/-- CAN_SEND with GO in a committed image (12 R446, R448): words of the buffer, then the queue request. -/
def imageSend (c b : Nat) (go : Bool) (ws : List (Nat × Nat)) (s : State) : State :=
  let k := canOf s c
  if k.listen then (if go then s.modCtrl c fun k => { k with txRefused := sat32 k.txRefused } else s)
  else if !txReady (canBuf s c b) then s
  else
    let s := s.modBuf c b fun k => ws.foldl (fun k w => match w.1 with
      | 0 => { k with idWord := w.2 % 2 ^ 31 }
      | 1 => { k with frame := w.2 % 128 }
      | 2 => { k with stamp := w.2 }
      | 3 => { k with txTime := w.2 }
      | i => { k with data := put 0 k.data i w.2 }) k
    if go && k.enabled then s.queueCan c b false else s

/-! ### Locks and registers (12 R433, R436, R437) -/

/-- HP_PENDING_CLEAR: W1C (12 R433). -/
def hpPendingClear (c mask : Nat) (s : State) : State :=
  if canControllers s ≤ c then s.noteAbsent 10 else
  s.modCtrl c fun k => { k with hpPending := maskOf ((bitsOf 4 k.hpPending).filter fun i => !bit mask i) }

def execHpPendingClear (c mask t : Nat) (s : State) : Host.Outcome State Fault Refusal :=
  event (c < 8) t (hpPendingClear c mask) s

/-- A read of word 0 of a FULL buffer sets LOCKED (12 R436). -/
def State.lockBuf (s : State) (c b : Nat) : State :=
  if (canBuf s c b).state = .full ∧ ¬ (canBuf s c b).locked then s.modBuf c b fun k => { k with locked := true, lockedAt := s.now } else s

/-- BUFFER_LOCK: word 0 of a FULL buffer is read (12 R436). -/
def bufferLock (c b : Nat) (s : State) : State :=
  if canControllers s ≤ c then (s.noteAbsent 10).emit (.completion 0) else (s.emit (.completion (canBuf s c b).idWord)).lockBuf c b

def execBufferLock (c b t : Nat) (s : State) : Host.Outcome State Fault Refusal :=
  event (c < 8 && b < 128) t (bufferLock c b) s

/-- A lock ends: the buffer is EMPTY, or takes the frame of its pending store and stays FULL (12 R436). -/
def State.unlockBuf (s : State) (c b : Nat) : State :=
  let t := s.modBuf c b fun k => { k with locked := false, overrun := false, store := none }
  match (canBuf s c b).store with
  | some (f, stamp, sof, filter) => (t.modBuf c b fun k => k.fill f stamp sof filter).frameIn c b
  | none => t.modBuf c b fun k => { k with state := .empty }

/-- BUFFER_RELEASE: the last word of a locked buffer is read (12 R436). -/
def bufferRelease (c b : Nat) (s : State) : State :=
  if canControllers s ≤ c then (s.noteAbsent 10).emit (.completion 0) else
  let k := canBuf s c b
  let s := s.emit (.completion (bufWord k (lastWord k)))
  if k.locked then s.unlockBuf c b else s

def execBufferRelease (c b t : Nat) (s : State) : Host.Outcome State Fault Refusal :=
  event (c < 8 && b < 128) t (bufferRelease c b) s

/-- LOCK_TIMEOUTS: a lock held for 1 ms is released by the controller, the frame staying in its buffer unless another
waits in the pending store (12 R436). -/
def lockTimeout (c b : Nat) (s : State) : State :=
  let k := canBuf s c b
  if k.locked ∧ k.lockedAt + clocksOfUs 1000 ≤ s.now then
    let s := if k.store.isSome then s.unlockBuf c b else s.modBuf c b fun k => { k with locked := false }
    (s.modCtrl c fun u => { u with lockTimeouts := sat32 u.lockTimeouts }).recordOpen 10 13 0
  else s

def execLockTimeouts (c b t : Nat) (s : State) : Host.Outcome State Fault Refusal :=
  event (c < canControllers s && b < 128) t (lockTimeout c b) s

/-! ### Images, modes and resets (12 R447–R449) -/

/-- The copy of a receive buffer that the image takes at an input instant (12 R448): a frame whose start of frame does not precede
it by 37.5 ns, 30 timing clocks, waits for the next one (01 R21). -/
def CanBuf.imaged (now : Nat) (k : CanBuf) : CanBuf :=
  if k.kind ≠ 1 then k
  else if k.fresh ∧ now < k.sofAt + 30 then { k with imageNew := false }
  else { k with image := (List.range 20).map fun i => wd (bufWord k i), imageNew := k.fresh, fresh := false }

/-- The CAN part of an input instant: status published, receive image taken. -/
def canInputInstant (s : State) : State :=
  let s := (List.range (canControllers s)).foldl (fun s c => s.publish (0x2100 + c) (canStatusWord (canOf s c))) s
  s.modCan fun u => { u with ctrls := u.ctrls.map fun e => (e.1, { e.2 with bufs := e.2.bufs.map fun b => (b.1, b.2.imaged s.now) }) }

/-- A buffer emptied (12 R449, 18 R598). -/
def CanBuf.emptied (k : CanBuf) : CanBuf :=
  { kind := k.kind, oneShot := k.oneShot, vector := k.vector, vecEn := k.vecEn, ide := k.ide, matchId := k.matchId
    mask := k.mask, state := if k.kind = 1 then .empty else if k.kind = 2 then .idle else .off }

/-- Every buffer empty; enabled controllers pass through INTEGRATING (12 R449). -/
def canRestart (s : State) : State :=
  s.modCan fun u => { u with ctrls := u.ctrls.map fun e =>
    (e.1, { e.2 with
      bufs := e.2.bufs.map fun b => (b.1, b.2.emptied), tec := 0, recCount := 0, noAck := false, ackMisses := 0, hpPending := 0
      driven := e.2.driven || e.2.enabled
      state := if e.2.enabled then .integrating else .off }) }

/-- Return from GRAZE: enabled controllers join the bus again. -/
def canUngraze (s : State) : State :=
  s.modCan fun u => { u with ctrls := u.ctrls.map fun e =>
    (e.1, if e.2.enabled ∧ e.2.state = .off then { e.2 with state := .integrating } else e.2) }

/-- Entry to GRAZE: the controllers are off (18 R600). -/
def canGraze (s : State) : State :=
  ((List.range 8).foldl (fun s c => s.endCancels c) s).modCan fun u => { u with ctrls := u.ctrls.map fun e => (e.1, { e.2 with state := .off }) }

/-! ### Commands (12 R450–R458) -/

/-- The checks that every CAN command shares: its length, the controller number and reserved bits, and GRAZE. -/
def canChecks (p : Packet) (len c : Nat) (bad : Bool) (s : State) : List (Bool × Nat) :=
  [(p.len ≠ len, stBadLength), (canControllers s ≤ c || bad, stRange), (s.dev.mode == .graze, stBadMode)]

/-- The timing of CAN.CONFIG keeps to R430 and R432; the data phase counts where FD is set (log 28). -/
def canTimingOk (w0 w1 w2 : Nat) : Bool :=
  let fd := bit w0 4
  let nq := (field w1 0 5 + 1) * (1 + (field w1 5 8 + 1) + (field w1 13 7 + 1))
  let dq := (field w2 0 5 + 1) * (1 + (field w2 5 5 + 1) + (field w2 10 4 + 1))
  field w1 5 8 ≠ 0 && field w1 13 7 ≠ 0 && field w1 20 7 ≤ field w1 13 7 && 80 ≤ nq &&
  (!fd || (field w2 14 4 ≤ field w2 10 4 && 10 ≤ dq && dq ≤ nq)) &&
  (!bit w0 6 || (!fd && 640 ≤ nq && 3 ≤ field w1 5 8))

/-- CAN.CONFIG (12 R451). -/
def cmdCanConfig (p : Packet) (s : State) : State × Verdict :=
  let w0 := p.w 0; let w1 := p.w 1; let w2 := p.w 2
  let c := field w0 0 3
  let en := bit w0 3
  let k := canOf s c
  let change := k.cfg1 ≠ w1 || k.cfg2 ≠ w2 || field k.cfg0 4 3 ≠ field w0 4 3
  checked (canChecks p 3 c (reservedSet w0 0xFFFFFC00 || reservedSet w1 0xF8000000 || reservedSet w2 0xFC000000) s ++
    [(k.enabled && en && change, stCnState), (!canTimingOk w0 w1 w2, stCnTiming)]) s
    ((if en then s else s.endCancels c).modCtrl c (fun k => { k with
        cfg0 := w0 - w0 % 16, cfg1 := w1, cfg2 := w2, enabled := en, driven := k.driven || en
        state := if !en then .off else if k.enabled then k.state else .integrating
        tec := if k.enabled && en then k.tec else 0, recCount := if k.enabled && en then k.recCount else 0 }), .done stOk [])

def execCanConfig (p : Packet) (s : State) : Host.Outcome State Fault Refusal := command .canConfig cmdCanConfig p s

/-- A buffer of the range lies in another enabled filter's range, or is one of 0 to 3 (12 R450). -/
def filterOverlap (s : State) (c i first last : Nat) : Bool :=
  first < 4 || (canOf s c).filters.any fun e => e.1 ≠ i && e.2.enable && first ≤ e.2.last && e.2.first ≤ last

/-- CAN.FILTER_CONFIG (12 R452). -/
def cmdCanFilterConfig (p : Packet) (s : State) : State × Verdict :=
  let w0 := p.w 0
  let c := field w0 0 3; let i := field w0 3 6; let en := bit w0 9
  let first := field (p.w 3) 0 7; let last := field (p.w 3) 8 7
  let range := (List.range (last + 1 - first)).map (first + ·)
  checked (canChecks p 4 c (reservedSet w0 0xFFFFE000 || reservedSet (p.w 1) 0xE0000000 || reservedSet (p.w 2) 0xE0000000 ||
      reservedSet (p.w 3) 0xFFFF8080 || last < first) s ++
    [(en && filterOverlap s c i first last, stCnOverlap),
     (en && range.any (fun b => (canBuf s c b).kind ≠ 1), stCnBufKind)]) s
    (let new : CanFilter := { enable := en, ide := bit w0 10, rtrAccept := bit w0 11, overwrite := bit w0 12, id := p.w 1
                              mask := p.w 2, first := first, last := last }
     (s.modCtrl c (fun k => { k with filters := put {} k.filters i new }), .done stOk []))

def execCanFilterConfig (p : Packet) (s : State) : Host.Outcome State Fault Refusal :=
  command .canFilterConfig cmdCanFilterConfig p s

/-- CAN.BUFFER_CONFIG (12 R453). A buffer of an enabled filter's range must stay RX (log 29). -/
def cmdCanBufferConfig (p : Packet) (s : State) : State × Verdict :=
  let w0 := p.w 0
  let c := field w0 0 3; let b := field w0 3 7; let kind := field w0 10 2
  let k := canBuf s c b
  let hp := kind == 1 && b < 4
  let new : CanBuf :=
    { kind := kind, oneShot := bit w0 12, vector := field w0 13 6, vecEn := bit w0 19, ide := bit w0 20
      matchId := p.w 1, mask := p.w 2 }
  checked (canChecks p 3 c (reservedSet w0 0xFFE00000 || 2 < kind || reservedSet (p.w 1) 0xE0000000 ||
      reservedSet (p.w 2) 0xE0000000 || (!hp && (p.w 1 ≠ 0 || p.w 2 ≠ 0))) s ++
    [(k.state == .pending || k.state == .waitTime || k.locked, stCnBusy),
     (kind ≠ 1 && (canOf s c).filters.any (fun e => e.2.enable && e.2.first ≤ b && b ≤ e.2.last), stCnOverlap)]) s
    (s.modBuf c b (fun _ => new.emptied), .done stOk [])

def execCanBufferConfig (p : Packet) (s : State) : Host.Outcome State Fault Refusal :=
  command .canBufferConfig cmdCanBufferConfig p s

/-- CAN.CANCEL (12 R441, R455). Whether the offered frame has begun is not shown by any row: a free value (log 30); a frame that
an earlier cancel met has. -/
def cmdCanCancel (p : Packet) (s : State) : State × Verdict :=
  let w := p.w 0
  let c := field w 0 3; let b := field w 3 7
  let k := canBuf s c b
  checked (canChecks p 1 c (reservedSet w 0xFFFFFC00) s ++ [(k.kind != 2, stCnBufKind)]) s
    (if k.state ≠ .pending ∧ k.state ≠ .waitTime then (s, .done stOk [wd k.state.num])
     else
       let mayHaveBegun := k.state == .pending && onBus s c && offered s c == some b && !k.cancelling
       let begun := k.cancelling || (mayHaveBegun && bit s.takeFree.1.toNat 0)
       let s := if mayHaveBegun then s.takeFree.2 else s
       if begun then
         let s := s.modBuf c b fun k => { k with cancelling := true }
         s.defer .canCancel p [c, b]
       else (s.modBuf c b (fun k => { k with state := .cancelled }), .done stOk [wd CanBufState.cancelled.num]))

def execCanCancel (p : Packet) (s : State) : Host.Outcome State Fault Refusal := command .canCancel cmdCanCancel p s

/-- CAN.STATUS (12 R456). -/
def cmdCanStatus (p : Packet) (s : State) : State × Verdict :=
  let c := field (p.w 0) 0 3
  let k := canOf s c
  checked (canChecks p 1 c (reservedSet (p.w 0) 0xFFFFFFF8) s) s
    (s, .done stOk [wd (canStatusWord k), wd k.rxFrames, wd k.txFrames, wd k.unmatched, wd k.overruns, wd k.lockTimeouts,
      wd k.busoffCount, wd k.txRefused, wd k.tdcMeas])

def execCanStatus (p : Packet) (s : State) : Host.Outcome State Fault Refusal := command .canStatus cmdCanStatus p s

/-- CAN.RECOVER (12 R457). -/
def cmdCanRecover (p : Packet) (s : State) : State × Verdict :=
  let c := field (p.w 0) 0 3
  checked (canChecks p 1 c (reservedSet (p.w 0) 0xFFFFFFF8) s ++ [((canOf s c).state != .busOff, stCnState)]) s
    (s.modCtrl c (fun k => { k with state := .recovering }), .done stOk [])

def execCanRecover (p : Packet) (s : State) : Host.Outcome State Fault Refusal := command .canRecover cmdCanRecover p s

/-- The source of one controller's counter changes: the counter jumps, and a record is written (12 R438). -/
def State.setSource (s : State) (c : Nat) (slaved : Bool) : State :=
  if (canOf s c).slaved = slaved then s
  else (s.modCtrl c fun k => { k with slaved := slaved }).recordOpen 10 14 0

/-- CAN.COUNTER_CONFIG (12 R458). -/
def cmdCanCounterConfig (p : Packet) (s : State) : State × Verdict :=
  let w := p.w 0
  let c := field w 0 3; let all := bit w 4
  checked (canChecks p 1 c (reservedSet w 0xFFFFFFE0 || (all && c ≠ 0)) s) s
    ((if all then (List.range (canControllers s)).foldl (fun s c => s.setSource c (bit w 3)) s
      else s.setSource c (bit w 3)), .done stOk [])

def execCanCounterConfig (p : Packet) (s : State) : Host.Outcome State Fault Refusal :=
  command .canCounterConfig cmdCanCounterConfig p s

end Sys2Proof.Machine
end

