-- ==== Sys2Proof/Machine/Crc.lean ====
section
/-! DEFINITION. The IEEE 802.3 frame check sequence over little-endian words (04 R122). -/

namespace Sys2Proof.Machine

/-- One bit of the reflected polynomial division. -/
def crcBit (c : Nat) : Nat := if c % 2 = 1 then (c / 2) ^^^ 0xEDB88320 else c / 2

/-- One byte. -/
def crcByte (c b : Nat) : Nat := crcBit (crcBit (crcBit (crcBit (crcBit (crcBit (crcBit (crcBit (c ^^^ b))))))))

/-- One word, least significant byte first. -/
def crcWord (c w : Nat) : Nat :=
  crcByte (crcByte (crcByte (crcByte c (w % 256)) (w / 256 % 256)) (w / 65536 % 256)) (w / 16777216 % 256)

/-- CRC-32 over words (R122). -/
def crc32 (ws : List Word) : Nat := (ws.foldl (fun c w => crcWord c w.toNat) 0xFFFFFFFF) ^^^ 0xFFFFFFFF

end Sys2Proof.Machine
end

