-- ==== Sys2Proof/Machine/GraphTable.lean ====
section
/-! DEFINITION. The operation set of the graph programs: codes, types, counts and operand types (04 R130, R643, R644). -/

namespace Sys2Proof.Machine

/-- The 96 operations, in the order of their codes (04 R130). -/
inductive GOp where
  | add | sub | mul | div | mod | neg | abs | min | max | limit | sqrt | muladd | scale | conv | round | trunc
  | and | or | xor | not | shl | shr | rol | ror | bitGet | bitPut | pack | unpack
  | eq | ne | lt | le | gt | ge
  | rise | fall | both | sr | rs | hyst
  | ton | tof | tp | tacc | ctu | ctd | ctud | since
  | sel | mux | demux | move | table | deadband
  | seqRun | seqGoto | seqPause | seqState | seqParam | ramp
  | loopSp | loopFf | loopMode | loopTrack | loopRep | loopRead
  | axisStart | axisStop | axisOffset | axisRef | axisReadPos | axisReadState
  | rin | rinStatus | rout | rmsgSend | rmsgRecv | rxchg
  | din | dinEdges | dout | ain | ainUrgent | pwmOut | encRead | encLatch | canRecv | canSend
  | acqTrig | acqMark | acqPublish | tallyRec
  | sysRead | assert | delay | atOffset
  deriving DecidableEq, Repr

/-- Codes 0x00 to 0x21. -/
def GOp.part0 : List GOp :=
  [.add, .sub, .mul, .div, .mod, .neg, .abs, .min, .max, .limit, .sqrt, .muladd, .scale, .conv, .round, .trunc,
   .and, .or, .xor, .not, .shl, .shr, .rol, .ror, .bitGet, .bitPut, .pack, .unpack, .eq, .ne, .lt, .le, .gt, .ge]

/-- Codes 0x22 to 0x41. -/
def GOp.part1 : List GOp :=
  [.rise, .fall, .both, .sr, .rs, .hyst, .ton, .tof, .tp, .tacc, .ctu, .ctd, .ctud, .since,
   .sel, .mux, .demux, .move, .table, .deadband, .seqRun, .seqGoto, .seqPause, .seqState, .seqParam, .ramp,
   .loopSp, .loopFf, .loopMode, .loopTrack, .loopRep, .loopRead]

/-- Codes 0x42 to 0x5F. -/
def GOp.part2 : List GOp :=
  [.axisStart, .axisStop, .axisOffset, .axisRef, .axisReadPos, .axisReadState, .rin, .rinStatus, .rout, .rmsgSend, .rmsgRecv,
   .rxchg, .din, .dinEdges, .dout, .ain, .ainUrgent, .pwmOut, .encRead, .encLatch, .canRecv, .canSend,
   .acqTrig, .acqMark, .acqPublish, .tallyRec, .sysRead, .assert, .delay, .atOffset]

/-- Every operation, in the order of the codes. -/
def GOp.all : List GOp := GOp.part0 ++ GOp.part1 ++ GOp.part2

/-- The operation a code names. -/
def GOp.ofCode (c : Nat) : Option GOp := GOp.all[c]?

/-- The code of an operation. -/
def GOp.code (o : GOp) : Nat := GOp.all.idxOf o

/-- The type of an operand (04 R644): TYPE, the type of PARAM [2:0], or a fixed type. -/
inductive Sig where
  | type | param | fixed (ty : Nat)
  deriving DecidableEq, Repr

/-- What R130 and R644 say of an operation. -/
structure OpSpec where
  /-- Bit `t` is set for each TYPE allowed. -/
  types : Nat
  /-- Bit `n` is set for each N_IN and N_OUT allowed. -/
  ins : Nat
  outs : Nat
  /-- Operand types; the last one stands for further operands. -/
  sigIn : List Sig
  sigOut : List Sig
  /-- Words of the state variable (R643); 0 for an operation without state. -/
  state : Nat := 0
  /-- It carries the state word of a SEQ_RUN (R643). -/
  companion : Bool := false
  deriving DecidableEq, Repr

/-- BOOL, INT32 and UINT32 operands. -/
abbrev sB : Sig := .fixed 0
abbrev sI : Sig := .fixed 1
abbrev sU : Sig := .fixed 2

/-- Operands of the operation's TYPE throughout. -/
def OpSpec.plain (types ins outs : Nat) : OpSpec := { types := types, ins := ins, outs := outs, sigIn := [.type], sigOut := [.type] }

/-- The operation set (04 R130, R644, R645, R133–R136; 06 R202, 07 R259, 08 R277, 12 R448, 17 R588). The input and output
counts and operand orders that no rule names are the model's (log 58). -/
def GOp.spec : GOp → OpSpec
  | .add | .min | .max => .plain 0x3E 0x1C 2
  | .mul => .plain 0x1E 0x1C 2
  | .sub => .plain 0x3E 4 2
  | .div => .plain 0x1E 4 2
  | .mod => .plain 0x06 4 2
  | .neg | .abs => .plain 0x3E 2 2
  | .limit => .plain 0x3E 8 2
  | .sqrt | .round | .trunc => .plain 0x18 2 2
  | .muladd => .plain 0x1E 8 2
  | .scale => .plain 0x1E 0x10 2
  | .conv => { types := 0x1E, ins := 2, outs := 2, sigIn := [.param], sigOut := [.type] }
  | .and | .or | .xor => .plain 0x05 0x1C 2
  | .not => .plain 0x05 2 2
  | .shl | .shr => .plain 0x06 4 2
  | .rol | .ror => .plain 0x04 4 2
  | .bitGet => { types := 4, ins := 4, outs := 2, sigIn := [.type], sigOut := [sB] }
  | .bitPut => { types := 4, ins := 8, outs := 2, sigIn := [.type, .type, sB], sigOut := [.type] }
  | .pack => { types := 4, ins := 4, outs := 2, sigIn := [.type], sigOut := [sU] }
  | .unpack => { types := 4, ins := 2, outs := 4, sigIn := [.type], sigOut := [sU] }
  | .eq | .ne => { types := 0x3F, ins := 4, outs := 2, sigIn := [.type], sigOut := [sB] }
  | .lt | .le | .gt | .ge => { types := 0x3E, ins := 4, outs := 2, sigIn := [.type], sigOut := [sB] }
  | .rise | .fall | .both => { types := 1, ins := 2, outs := 2, sigIn := [sB], sigOut := [sB], state := 1 }
  | .sr | .rs => { types := 1, ins := 4, outs := 2, sigIn := [sB], sigOut := [sB], state := 1 }
  | .hyst => { types := 0x18, ins := 8, outs := 2, sigIn := [.type], sigOut := [sB], state := 1 }
  | .ton | .tof | .tp => { types := 1, ins := 4, outs := 4, sigIn := [sB, sU], sigOut := [sB, sU], state := 4 }
  | .tacc => { types := 1, ins := 8, outs := 4, sigIn := [sB, sU, sB], sigOut := [sB, sU], state := 4 }
  | .ctu | .ctd => { types := 2, ins := 8, outs := 4, sigIn := [sB, sB, sI], sigOut := [sB, sI], state := 2 }
  | .ctud => { types := 2, ins := 0x10, outs := 4, sigIn := [sB], sigOut := [sB, sI], state := 2 }
  | .since => { types := 1, ins := 2, outs := 2, sigIn := [sB], sigOut := [sU], state := 3 }
  | .sel => .plain 0x3F 8 2
  | .mux => .plain 0x3F 0x1C 2
  | .demux => .plain 0x3F 4 6
  | .move => .plain 0x3F 2 2
  | .table => .plain 0x18 8 2
  | .deadband => .plain 0x3F 4 2
  | .seqRun => { types := 4, ins := 2, outs := 6, sigIn := [sB], sigOut := [sU, sB], state := 8 }
  | .seqGoto => { types := 4, ins := 2, outs := 1, sigIn := [sU], sigOut := [.type], companion := true }
  | .seqPause => { types := 1, ins := 2, outs := 1, sigIn := [sB], sigOut := [.type], companion := true }
  | .seqState => { types := 4, ins := 1, outs := 2, sigIn := [.type], sigOut := [sU], companion := true }
  | .seqParam => { types := 8, ins := 1, outs := 2, sigIn := [.type], sigOut := [.type], companion := true }
  | .ramp => { types := 8, ins := 0x1E, outs := 2, sigIn := [.type], sigOut := [.type], state := 4 }
  | .loopSp | .loopFf | .loopTrack => .plain 8 2 1
  | .loopMode => .plain 4 2 1
  | .loopRep => { types := 8, ins := 2, outs := 1, sigIn := [sU], sigOut := [.type] }
  | .loopRead => { types := 8, ins := 2, outs := 2, sigIn := [sU], sigOut := [.type] }
  | .axisStart | .axisStop => { types := 4, ins := 4, outs := 1, sigIn := [sU, sB], sigOut := [.type] }
  | .axisOffset => { types := 0x10, ins := 4, outs := 1, sigIn := [.type, sB], sigOut := [.type] }
  | .axisRef => { types := 0x10, ins := 8, outs := 1, sigIn := [.type, sU, sB], sigOut := [.type] }
  | .axisReadPos => { types := 0x10, ins := 2, outs := 2, sigIn := [sU], sigOut := [.type] }
  | .axisReadState => .plain 4 1 2
  | .rin => .plain 0x0E 1 2
  | .rinStatus => { types := 0x0E, ins := 1, outs := 2, sigIn := [.type], sigOut := [sU] }
  | .rout => { types := 0x0E, ins := 6, outs := 1, sigIn := [.type, sB], sigOut := [.type] }
  | .rmsgSend => .plain 0x0E 0x1F 7
  | .rmsgRecv => .plain 0x0E 0x1F 7
  | .rxchg => { types := 1, ins := 1, outs := 2, sigIn := [sB], sigOut := [sB] }
  | .din => .plain 0x05 1 2
  | .dinEdges => { types := 0x05, ins := 1, outs := 4, sigIn := [sU], sigOut := [sU] }
  | .dout => .plain 0x05 2 1
  | .ain => .plain 0x0A 1 2
  | .ainUrgent => { types := 0x0A, ins := 3, outs := 6, sigIn := [sU], sigOut := [.type, sB] }
  | .pwmOut => .plain 8 2 1
  | .encRead => .plain 0x0A 1 2
  | .encLatch => .plain 1 2 1
  | .canRecv => { types := 0x05, ins := 2, outs := 6, sigIn := [sU], sigOut := [sU, sB] }
  | .canSend => { types := 0x05, ins := 8, outs := 1, sigIn := [sU, sU, sB], sigOut := [.type] }
  | .acqTrig => { types := 0x3F, ins := 2, outs := 1, sigIn := [sB], sigOut := [.type] }
  | .acqMark => { types := 0x3F, ins := 2, outs := 1, sigIn := [sU], sigOut := [.type] }
  | .acqPublish => .plain 0x3F 2 1
  | .tallyRec => { types := 0x3F, ins := 6, outs := 1, sigIn := [sU, sB], sigOut := [.type] }
  | .sysRead => .plain 0x25 1 2
  | .assert => .plain 1 2 1
  | .delay | .atOffset => { types := 4, ins := 3, outs := 6, sigIn := [sU], sigOut := [sU, sB] }

/-- The operand type number `j` of a signature, for an operation of TYPE `ty` with PARAM `param`. -/
def sigAt (sg : List Sig) (ty param j : Nat) : Nat :=
  match sg.getD (min j (sg.length - 1)) .type with
  | .type => ty
  | .param => param % 8
  | .fixed t => t

/-- The unit an operation needs that variants lack (00 R1; 04 R130). -/
def GOp.needs : GOp → Option Nat
  | .ain | .ainUrgent => some 7
  | _ => none

end Sys2Proof.Machine
end

