-- ==== Sys2Proof/Machine/GraphOps.lean ====
section
/-! DEFINITION. The values of the graph operations on bit patterns of the types of 04 R123: arithmetic, logic, comparison,
edges, timers, counters and conversions (04 R131–R134, R645). -/

namespace Sys2Proof.Machine

/-- 32-bit words of a value of a type (04 R123). -/
def tyWords (ty : Nat) : Nat := if 4 ≤ ty then 2 else 1

/-- Bits of a value of a type; a BOOL has one. -/
def tyBits (ty : Nat) : Nat := if 4 ≤ ty then 64 else if ty = 0 then 1 else 32

def isReal (ty : Nat) : Bool := ty == 3 || ty == 4

/-- The format of a real type. -/
def fmtOf (ty : Nat) : Fmt := if ty = 4 then .b64 else .b32

/-- The integer that a pattern of a type that is not real stands for. -/
def intOf (ty v : Nat) : Int := if ty = 1 then signed 32 v else if ty = 5 then signed 64 v else (v : Int)

/-- The pattern of a result: TIME64 saturates, INT32 and UINT32 wrap (R131). -/
def ofIntTy (ty : Nat) (x : Int) : Nat :=
  if ty = 5 then enc 64 (clampInt (-9223372036854775808) 9223372036854775807 x) else enc 32 x

/-- `x` is a number of the type. -/
def fitsTy (ty : Nat) (x : Int) : Bool :=
  match ty with
  | 0 => decide (0 ≤ x ∧ x ≤ 1)
  | 1 => decide (-2147483648 ≤ x ∧ x ≤ 2147483647)
  | 5 => decide (-9223372036854775808 ≤ x ∧ x ≤ 9223372036854775807)
  | _ => decide (0 ≤ x ∧ x ≤ 4294967295)

/-- A result that the spec does not state for these operands: a free value of the type (log 59). -/
def unstated (o : GOp) (ty : Nat) (x : List Nat) : Nat :=
  (Config.openValue (x.foldl (fun k v => k * 2 ^ 64 + v) (ty * 128 + o.code))).toNat % 2 ^ tyBits ty

/-- Outputs, and how much ARITH_EXC advances (R131). -/
abbrev Result := List Nat × Nat

/-- A real result: a NaN or infinity from finite operands counts (R131). -/
def realRes (f : Fmt) (x : List Nat) (r : Nat) : Nat × Nat := (r, flag (x.all f.isFinite && !f.isFinite r))

/-- The least of two values of a type; where one is a NaN the spec states no result (log 59). −0 lies below +0. -/
def minTy (o : GOp) (ty a b : Nat) : Nat :=
  if isReal ty then
    if (fmtOf ty).isNan a || (fmtOf ty).isNan b then unstated o ty [a, b]
    else if (fmtOf ty).lt b a then b else if (fmtOf ty).lt a b then a else if (fmtOf ty).signBit b then b else a
  else if intOf ty b < intOf ty a then b else a

/-- The greatest of two values of a type. -/
def maxTy (o : GOp) (ty a b : Nat) : Nat :=
  if isReal ty then
    if (fmtOf ty).isNan a || (fmtOf ty).isNan b then unstated o ty [a, b]
    else if (fmtOf ty).lt a b then b else if (fmtOf ty).lt b a then a else if (fmtOf ty).signBit b then a else b
  else if intOf ty a < intOf ty b then b else a

/-- ADD, SUB and MUL of two values (R131). -/
def arith2 (o : GOp) (ty a b : Nat) : Nat × Nat :=
  let f := fmtOf ty
  if isReal ty then
    realRes f [a, b] (match o with | .add => f.add a b | .sub => f.sub a b | _ => f.mul a b)
  else
    let x := intOf ty a; let y := intOf ty b
    (ofIntTy ty (match o with | .add => x + y | .sub => x - y | _ => x * y), 0)

/-- A chain of a two-operand operation over further operands. -/
def chain (g : Nat → Nat → Nat × Nat) : List Nat → Nat × Nat
  | [] => (0, 0)
  | a :: r => r.foldl (fun acc b => let z := g acc.1 b; (z.1, acc.2 + z.2)) (a, 0)

/-- DIV and MOD of integers: toward zero, the sign of the dividend; by 0 gives 0 and counts (R131). -/
def intDiv (o : GOp) (ty a b : Nat) : Nat × Nat :=
  let x := intOf ty a; let y := intOf ty b
  if y = 0 then (0, 1) else (ofIntTy ty (if o = .div then x.tdiv y else x.tmod y), 0)

/-- NEG and ABS: real ones change the sign; a result outside an integer type is not stated (log 59), but TIME64
saturates (R131). -/
def negAbs (o : GOp) (ty a : Nat) : Nat :=
  if isReal ty then (if o = .neg then (fmtOf ty).neg a else (fmtOf ty).abs a)
  else
    let r : Int := if o = .neg then -intOf ty a else ((intOf ty a).natAbs : Int)
    if ty = 5 ∨ fitsTy ty r then ofIntTy ty r else unstated o ty [a]

/-- CONV from type `p` to type `ty` (R131). -/
def convTy (p ty a : Nat) : Nat × Nat :=
  if isReal ty then
    if isReal p then
      let r := if p = ty then a else convertFmt (fmtOf p) (fmtOf ty) a
      (r, flag ((fmtOf p).isFinite a && !(fmtOf ty).isFinite r))
    else ((fmtOf ty).ofInt (intOf p a), 0)
  else if isReal p then
    match (fmtOf p).toIntEven a 0 with
    | some x => if fitsTy ty x then (ofIntTy ty x, 0) else (ofIntTy ty (if ty = 1 then clampInt (-2147483648) 2147483647 x else clampInt 0 4294967295 x), 1)
    | none => if (fmtOf p).isNan a then (0, 1) else
        (if (fmtOf p).signBit a then (if ty = 1 then 0x80000000 else 0) else (if ty = 1 then 0x7FFFFFFF else 0xFFFFFFFF), 1)
  else if fitsTy ty (intOf p a) then (ofIntTy ty (intOf p a), 0)
  else (unstated .conv ty [p, a], 0)

/-- A shift; a count of 32 or more, or a negative one, has no stated result (log 59). SHR of INT32 is arithmetic (R130). -/
def shift (o : GOp) (ty a n : Nat) : Nat :=
  if 32 ≤ n then unstated o ty [a, n]
  else if o = .shl then a * 2 ^ n % 2 ^ 32
  else if ty = 1 then enc 32 ((signed 32 a).fdiv ((2 ^ n : Nat) : Int)) else a / 2 ^ n

/-- A rotation to the left by `n` mod 32. -/
def rotl (a n : Nat) : Nat := a * 2 ^ (n % 32) % 2 ^ 32 + a / 2 ^ (32 - n % 32)

/-- Comparison of two values of a type; a comparison with a NaN is false, but NE is true. -/
def compareTy (o : GOp) (ty a b : Nat) : Bool :=
  let f := fmtOf ty
  let lt := if isReal ty then f.lt a b else decide (intOf ty a < intOf ty b)
  let gt := if isReal ty then f.lt b a else decide (intOf ty b < intOf ty a)
  let eq := if isReal ty then f.eq a b else a == b
  match o with
  | .eq => eq | .ne => !eq | .lt => lt | .le => lt || eq | .gt => gt | _ => gt || eq

/-- A selector or index given in a type, where it is a whole number. -/
def indexOf (ty v : Nat) : Option Int :=
  if isReal ty then
    match (fmtOf ty).toIntZero v with
    | some x => if (fmtOf ty).eq ((fmtOf ty).ofInt x) v then some x else none
    | none => none
  else some (intOf ty v)

/-- The value is zero. -/
def isZero (ty v : Nat) : Bool := if isReal ty then (fmtOf ty).eq v 0 else v == 0

/-- MUX: the operand that the selector names; beyond the operands no result is stated (log 59). -/
def muxTy (ty : Nat) (x : List Nat) : Nat :=
  match indexOf ty (x.getD 0 0) with
  | some k => if 0 ≤ k ∧ k.toNat + 1 < x.length then x.getD (k.toNat + 1) 0 else unstated .mux ty x
  | none => unstated .mux ty x

/-- DEADBAND: 0 inside the band; outside it the spec states no result (log 59). -/
def deadband (ty a w : Nat) : Nat :=
  let inside := if isReal ty then (fmtOf ty).le ((fmtOf ty).abs a) w else decide (((intOf ty a).natAbs : Int) ≤ intOf ty w)
  if inside then 0 else unstated .deadband ty [a, w]

/-- The operations that depend on their inputs alone. -/
def compute (o : GOp) (ty param : Nat) (x : List Nat) : Result :=
  let a := x.getD 0 0; let b := x.getD 1 0; let c := x.getD 2 0; let d := x.getD 3 0
  let f := fmtOf ty
  let one (r : Nat × Nat) : Result := ([r.1], r.2)
  match o with
  | .add | .sub | .mul => one (chain (arith2 o ty) x)
  | .div => one (if isReal ty then realRes f [a, b] (f.div a b) else intDiv o ty a b)
  | .mod => one (intDiv o ty a b)
  | .neg | .abs => ([negAbs o ty a], 0)
  | .min => one (chain (fun p q => (minTy o ty p q, 0)) x)
  | .max => one (chain (fun p q => (maxTy o ty p q, 0)) x)
  | .limit => ([minTy o ty (maxTy o ty a b) c], 0)
  | .sqrt => one (realRes f [a] (f.sqrt a))
  | .muladd => one (if isReal ty then realRes f [a, b, c] (f.fma a b c) else (ofIntTy ty (intOf ty a * intOf ty b + intOf ty c), 0))
  | .scale =>
    if isReal ty then
      let e := realRes f [a, b] (f.sub a b)
      let r := realRes f [e.1, c, d] (f.fma e.1 c d)
      ([r.1], e.2 + r.2)
    else ([ofIntTy ty ((intOf ty a - intOf ty b) * intOf ty c + intOf ty d)], 0)
  | .conv => one (convTy (param % 8) ty a)
  | .round => if f.isNan a then ([0], 1) else ([f.roundWhole a], 0)
  | .trunc => ([f.truncWhole a], 0)
  | .and => one (chain (fun p q => (p &&& q, 0)) x)
  | .or => one (chain (fun p q => (p ||| q, 0)) x)
  | .xor => one (chain (fun p q => (p ^^^ q, 0)) x)
  | .not => ([if ty = 0 then 1 - a else 0xFFFFFFFF - a], 0)
  | .shl | .shr => ([shift o ty a b], 0)
  | .rol => ([rotl a b], 0)
  | .ror => ([rotl a (32 - b % 32)], 0)
  | .bitGet => ([flag (bit a (b % 32))], 0)
  | .bitPut => ([setBit a (b % 32) (c ≠ 0)], 0)
  | .pack => ([place 16 (b % 2 ^ 16) + a % 2 ^ 16], 0)
  | .unpack => ([a % 2 ^ 16, field a 16 16], 0)
  | .eq | .ne | .lt | .le | .gt | .ge => ([flag (compareTy o ty a b)], 0)
  | .sel => ([if isZero ty a then b else c], 0)
  | .mux => ([muxTy ty x], 0)
  | .move => ([a], 0)
  | .deadband => ([deadband ty a b], 0)
  | _ => ([], 0)

/-! ### Operations with state (04 R132–R134, R645) -/

/-- The TIME64 in two state words. -/
def time64 (st : List Nat) (i : Nat) : Int := signed 64 (st.getD i 0 + place 32 (st.getD (i + 1) 0))

/-- The two state words of a TIME64. -/
def time64Words (x : Int) : List Nat := [enc 64 x % 2 ^ 32, enc 64 x / 2 ^ 32]

/-- TON, TOF and TP (R133): outputs Q and ET, and the new state. -/
def timer (o : GOp) (now : Int) (inp : Bool) (pt : Nat) (st : List Nat) : List Nat × List Nat :=
  let start := time64 st 0
  let s2 := st.getD 2 0
  let q := st.getD 3 0 ≠ 0
  let limit : Int := pt * 1000
  let result (start : Int) (s2 : Nat) (q : Bool) (et : Nat) : List Nat × List Nat :=
    ([flag q, et], time64Words start ++ [s2, flag q])
  match o with
  | .ton =>
    if !inp then result start 0 false 0
    else
      let start := if s2 = 0 then now else start
      let d := now - start
      if limit ≤ d then result start 1 true pt else result start 1 false (enc 32 (d / 1000))
  | .tof =>
    if inp then result start 0 true 0
    else if q then
      let start := if s2 = 0 then now else start
      let d := now - start
      if limit ≤ d then result start 2 false pt else result start (if s2 = 0 then 1 else s2) true (enc 32 (d / 1000))
    else result start s2 false (if s2 = 2 then pt else 0)
  | _ =>
    let begins := inp && s2 == 0 && !q
    let start := if begins then now else start
    if q || begins then
      let d := now - start
      if limit ≤ d then result start (flag inp) false pt else result start (flag inp) true (enc 32 (d / 1000))
    else result start (flag inp) false (if inp then pt else 0)

/-- TACC (R133). -/
def accumulate (now : Int) (inp reset : Bool) (pt : Nat) (st : List Nat) : List Nat × List Nat :=
  let w := st.getD 2 0 + place 32 (st.getD 3 0)
  let seen := bit w 63
  let acc : Int := (w % 2 ^ 63 : Nat)
  let acc := if seen && inp then min (acc + (now - time64 st 0)) 0x7FFFFFFFFFFFFFFF else acc
  let acc := if reset then 0 else acc
  let stored := enc 64 acc % 2 ^ 63 + 2 ^ 63
  ([flag (decide (((pt * 1000 : Nat) : Int) ≤ acc)), (min (acc.toNat / 1000) 0xFFFFFFFF)],
   time64Words now ++ [stored % 2 ^ 32, stored / 2 ^ 32])

/-- SINCE (R133). -/
def sinceChange (now : Int) (inp : Nat) (st : List Nat) : List Nat × List Nat :=
  let changed := st.getD 2 0 = 0 ∨ st.getD 2 0 ≠ inp + 2
  let last := if changed then now else time64 st 0
  ([min ((now - last).toNat / 1000) 0xFFFFFFFF], time64Words last ++ [if changed then inp + 2 else st.getD 2 0])

/-- CTU, CTD and CTUD (R134); `isNew` where the state has been initialised and not used since: no edge counts. -/
def counter (o : GOp) (param : Nat) (isNew : Bool) (x st : List Nat) : List Nat × List Nat :=
  let b (i : Nat) : Bool := x.getD i 0 ≠ 0
  let cu := o != .ctd && b 0
  let cd := if o = .ctd then b 0 else o == .ctud && b 1
  let pv := if o = .ctud then signed 32 param else signed 32 (x.getD 2 0)
  let reset := if o = .ctu then b 1 else o == .ctud && b 2
  let load := if o = .ctd then b 1 else o == .ctud && b 3
  let up := cu && !isNew && !bit (st.getD 1 0) 0
  let down := cd && !isNew && !bit (st.getD 1 0) 1
  let cv := signed 32 (st.getD 0 0)
  let cv := if reset then 0 else if load then pv
    else clampInt (-2147483648) 2147483647 (cv + (if up && !down then 1 else if down && !up then -1 else 0))
  ([flag (if o = .ctd then decide (cv ≤ 0) else decide (pv ≤ cv)), enc 32 cv], [enc 32 cv, flag cu + 2 * flag cd])

/-- The operations whose result depends on their inputs, their state and INPUT_TIME: outputs and new state. -/
def computeState (o : GOp) (ty param : Nat) (now : Int) (isNew : Bool) (x st : List Nat) : List Nat × List Nat :=
  let a := x.getD 0 0; let b := x.getD 1 0; let c := x.getD 2 0
  let prev := st.getD 0 0 ≠ 0
  match o with
  | .rise => ([flag (!isNew && a ≠ 0 && !prev)], [a])
  | .fall => ([flag (!isNew && a == 0 && prev)], [a])
  | .both => ([flag (!isNew && (a ≠ 0) != prev)], [a])
  -- PRESUMED (IEC 61131-3): SR(S1, R) sets, RS(S, R1) resets when both inputs are 1 (log 58)
  | .sr => let q := a ≠ 0 || (b == 0 && prev); ([flag q], [flag q])
  | .rs => let q := b == 0 && (a ≠ 0 || prev); ([flag q], [flag q])
  | .hyst =>
    let q := (fmtOf ty).lt c a || (!(fmtOf ty).lt a b && prev)
    ([flag q], [flag q])
  | .ton | .tof | .tp => timer o now (a ≠ 0) b st
  | .tacc => accumulate now (a ≠ 0) (c ≠ 0) b st
  | .ctu | .ctd | .ctud => counter o param isNew x st
  | .since => sinceChange now (flag (a ≠ 0)) st
  | _ => ([], st)

/-! ### TABLE (04 R130) -/

/-- A finite value as a multiple of the format's least number. -/
def scaledInt (f : Fmt) (v : Nat) : Int :=
  match f.decode v with
  | .fin n m e => sgn n (m * 2 ^ (e - f.emin).toNat)
  | _ => 0

/-- The point between two table points: the exact value of the line, rounded once. DEDUCED from R131 (log 58). -/
def interpolate (f : Fmt) (x x0 x1 y0 y1 : Nat) : Nat :=
  let dx := scaledInt f x1 - scaledInt f x0
  f.ofRatio (scaledInt f y0 * dx + (scaledInt f x - scaledInt f x0) * (scaledInt f y1 - scaledInt f y0))
    (dx.toNat * 2 ^ (-f.emin).toNat)

/-- The value of a table at `x`; outside its points, or where a point is not finite, no result is stated (log 59). -/
def tableAt (ty x : Nat) : List (Nat × Nat) → Nat
  | p :: q :: r =>
    let f := fmtOf ty
    if f.eq x p.1 then p.2
    else if f.lt p.1 x && f.lt x q.1 && f.isFinite p.1 && f.isFinite q.1 && f.isFinite p.2 && f.isFinite q.2 then interpolate f x p.1 q.1 p.2 q.2
    else tableAt ty x (q :: r)
  | [p] => if (fmtOf ty).eq x p.1 then p.2 else unstated .table ty [x]
  | [] => unstated .table ty [x]

/-! ### Carry-over of one element (04 R147) -/

/-- The pair of types converts; any other pair is initialised. -/
def convertible (old new : Nat) : Bool := old == new || (old != 0 && old != 5 && new != 0 && new != 5)

/-- One element from the old type to the new, and whether it saturates or meets a NaN. -/
def carryValue (old new v : Nat) : Nat × Nat :=
  if old = new then (v, 0)
  else if isReal old || isReal new then
    if old = 4 ∧ new = 3 then
      let r := convertFmt .b64 .b32 v
      if Fmt.b64.isNan v then (r, 1)
      else if Fmt.b64.isFinite v && !Fmt.b32.isFinite r then (Fmt.b32.largest (Fmt.b64.signBit v), 1)
      else (r, 0)
    else if old = 3 ∧ new = 4 then (convertFmt .b32 .b64 v, flag (Fmt.b32.isNan v))
    else convTy old new v
  else if new = 2 then (if signed 32 v < 0 then (0, 1) else (v, 0))
  else (if 2 ^ 31 ≤ v then (0x7FFFFFFF, 1) else (v, 0))

end Sys2Proof.Machine
end

