-- ==== Sys2Proof/Machine/Image.lean ====
section
/-! DEFINITION. The program image in a bank and its verification, steps 1 to 6 (04 R116–R127, R145, R643, R644). -/

namespace Sys2Proof.Machine

/-- The address of a bank's area (04 R116). -/
def bankAddr (slot : Nat) (b : Bool) : Nat := 0x00800000 + (2 * slot + flag b) * 0x00200000

/-- The address of a word of the variable space (04 R116). -/
def varAddr (i : Nat) : Nat := 0x01800000 + 4 * i

/-- Words of the variable space. -/
def varSpace : Nat := 0x100000

/-- Image word `i` of the image at address `a`. -/
def imgW (s : State) (a i : Nat) : Nat := readWord s (a + 4 * i)

/-- Fields of the header (04 R119). -/
def imgGen (s : State) (a : Nat) : Nat := field (imgW s a 2) 0 16
def imgPeriod (s : State) (a : Nat) : Nat := field (imgW s a 3) 0 10
def imgPrio (s : State) (a : Nat) : Nat := field (imgW s a 3) 10 3
def imgCoreMask (s : State) (a : Nat) : Nat := field (imgW s a 4) 0 16
def imgOps (s : State) (a : Nat) : Nat := field (imgW s a 5) 0 17
def imgArgs (s : State) (a : Nat) : Nat := imgW s a 6
def imgSuccs (s : State) (a : Nat) : Nat := imgW s a 7
def imgVars (s : State) (a : Nat) : Nat := imgW s a 8
def imgVarWords (s : State) (a : Nat) : Nat := imgW s a 9
def imgConsts (s : State) (a : Nat) : Nat := imgW s a 10
def imgBudget (s : State) (a : Nat) : Nat := imgW s a 11
def imgTotal (s : State) (a : Nat) : Nat := imgW s a 12

/-- First words of the sections (04 R118). -/
def argsFrom (s : State) (a : Nat) : Nat := 16 + 4 * imgOps s a
def succsFrom (s : State) (a : Nat) : Nat := argsFrom s a + imgArgs s a
def varsFrom (s : State) (a : Nat) : Nat := succsFrom s a + imgSuccs s a
def constsFrom (s : State) (a : Nat) : Nat := varsFrom s a + 4 * imgVars s a
def sumTotal (s : State) (a : Nat) : Nat := constsFrom s a + imgConsts s a + 1

/-- An operation table entry (04 R120). -/
structure OpEntry where
  w0 : Nat
  w1 : Nat
  w2 : Nat
  param : Nat
  deriving DecidableEq, Repr

def OpEntry.code (e : OpEntry) : Nat := field e.w0 0 8
def OpEntry.type (e : OpEntry) : Nat := field e.w0 8 3
def OpEntry.nIn (e : OpEntry) : Nat := field e.w0 11 3
def OpEntry.nOut (e : OpEntry) : Nat := field e.w0 14 2
def OpEntry.argFirst (e : OpEntry) : Nat := field e.w1 0 20
def OpEntry.nPred (e : OpEntry) : Nat := field e.w1 20 12
def OpEntry.succFirst (e : OpEntry) : Nat := field e.w2 0 20
def OpEntry.nSucc (e : OpEntry) : Nat := field e.w2 20 12

/-- Operation `i` of an image. -/
def opEntry (s : State) (a i : Nat) : OpEntry :=
  { w0 := imgW s a (16 + 4 * i), w1 := imgW s a (17 + 4 * i), w2 := imgW s a (18 + 4 * i), param := imgW s a (19 + 4 * i) }

/-- A variable table entry (04 R124). -/
structure VarEntry where
  id : Nat
  w1 : Nat
  w2 : Nat
  init : Nat
  deriving DecidableEq, Repr

def VarEntry.isShared (v : VarEntry) : Bool := bit v.id 31
def VarEntry.type (v : VarEntry) : Nat := field v.w1 0 3
def VarEntry.carry (v : VarEntry) : Bool := bit v.w1 3
def VarEntry.stateOp (v : VarEntry) : Nat := field v.w1 8 8
def VarEntry.count (v : VarEntry) : Nat := field v.w1 16 11
def VarEntry.offset (v : VarEntry) : Nat := field v.w2 0 20
def VarEntry.isState (v : VarEntry) : Bool := v.stateOp != 0xFF
def VarEntry.size (v : VarEntry) : Nat := v.count * tyWords v.type

/-- Variable `i` of an image. -/
def varEntry (s : State) (a i : Nat) : VarEntry :=
  { id := imgW s a (varsFrom s a + 4 * i), w1 := imgW s a (varsFrom s a + 4 * i + 1)
    w2 := imgW s a (varsFrom s a + 4 * i + 2), init := imgW s a (varsFrom s a + 4 * i + 3) }

/-- The variable table. -/
def varTable (s : State) (a : Nat) : List VarEntry := (List.range (imgVars s a)).map (varEntry s a)

/-- The index of the variable with an identity. -/
def varIndex (s : State) (a id : Nat) : Option Nat := (List.range (imgVars s a)).find? fun i => (varEntry s a i).id == id

/-- An argument word (04 R121). -/
structure ArgRef where
  ref : Nat
  kind : Nat
  elem : Nat
  deriving DecidableEq, Repr

def argOf (w : Nat) : ArgRef := { ref := field w 0 20, kind := field w 20 2, elem := field w 22 10 }

/-- Argument `j` of an operation: inputs, then outputs, then the state word (04 R120, R643). -/
def opArg (s : State) (a : Nat) (e : OpEntry) (j : Nat) : ArgRef := argOf (imgW s a (argsFrom s a + e.argFirst + j))

/-- The successors of an operation. -/
def opSuccs (s : State) (a : Nat) (e : OpEntry) : List Nat :=
  (List.range e.nSucc).map fun j => field (imgW s a (succsFrom s a + e.succFirst + j)) 0 16

/-- The operation carries a state word (04 R643). -/
def OpSpec.hasState (k : OpSpec) : Bool := k.state ≠ 0 || k.companion

/-! ### Verification (04 R145) -/

/-- How a check ends: status and FAIL_INDEX. -/
abbrev Failure := Nat × Nat

/-- Step 1: the loaded length and the check word. -/
def verifyCrc (s : State) (a len : Nat) : Option Failure :=
  if len < 17 then some (stGrFormat, len)
  else
    let n := if 17 ≤ imgTotal s a ∧ imgTotal s a ≤ len then imgTotal s a else len
    if crc32 (readWords s a (n - 1)) = imgW s a (n - 1) then none else some (stGrCheck, n - 1)

/-- The variant bit of header word 1 (04 R119). -/
def variantBit : Variant → Nat
  | .ubr1680 => 8 | .ubr1670 => 9 | .ubr1650 => 10

/-- Steps 2 and 3: MAGIC, FORMAT, variant, limits, section sizes and reserved bits. -/
def verifyHeader (s : State) (a len : Nat) : Option Failure :=
  let w := imgW s a
  let bad : List (Bool × Failure) :=
    [(w 0 != 0x55424752, (stGrFormat, 0)),
     (field (w 1) 0 8 != 1, (stGrFormat, 1)),
     (!bit (w 1) (variantBit s.boot.variant), (stGrVariant, 0)),
     (field (w 1) 11 21 != 0, (stGrFormat, 1)),
     (field (w 2) 16 16 != 0, (stGrFormat, 2)),
     (imgPeriod s a == 0 || 1000 < imgPeriod s a || field (w 3) 13 19 != 0, (stGrFormat, 3)),
     (imgCoreMask s a == 0 || field (w 4) 16 16 != 0 || 2 ^ graphCores s ≤ imgCoreMask s a, (stGrFormat, 4)),
     (imgOps s a == 0 || 65536 < imgOps s a || field (w 5) 17 15 != 0, (stGrFormat, 5)),
     (imgTotal s a != len || imgTotal s a != sumTotal s a || 524288 < imgTotal s a, (stGrFormat, 12)),
     (w 15 != 0, (stGrFormat, 15))]
  (bad.find? (·.1)).map (·.2)

/-- PARAM holds only what R130 and R644 allow where they name reserved bits. -/
def paramOk (o : GOp) (ty p : Nat) : Bool :=
  match o with
  | .conv => decide (p < 6)
  | .encRead => p &&& 0xFFFFFCF0 == 0 && field p 8 2 != 3 && (ty == if field p 8 2 = 1 then 3 else 1)
  | .encLatch => p &&& 0xFFFFFFF0 == 0
  | _ => true

/-- One input or output of an operation: the argument word and its type (04 R121, R644). -/
def verifyArg (s : State) (a : Nat) (e : OpEntry) (sp : OpSpec) (j : Nat) : Option Failure :=
  let g := opArg s a e j
  let out := decide (e.nIn ≤ j)
  let ty := if out then sigAt sp.sigOut e.type e.param (j - e.nIn) else sigAt sp.sigIn e.type e.param j
  let good :=
    if g.kind = 0 then g.ref < imgVars s a && g.elem < (varEntry s a g.ref).count && (varEntry s a g.ref).type == ty
    else g.kind == 1 && !out && g.elem == 0 && g.ref + tyWords ty ≤ imgConsts s a
  if good then none else some (stGrFormat, argsFrom s a + e.argFirst + j)

/-- The operation needs a unit, or the repetitive channels, that the variant lacks (04 R130). -/
def opAbsent (s : State) (o : GOp) : Bool :=
  match o.needs with
  | some u => !s.present u
  | none => o == .loopRep && repChannels s == 0

/-- One operation (04 R145 step 4). -/
def verifyOp (s : State) (a i : Nat) : Option Failure :=
  let e := opEntry s a i
  let at' (k : Nat) : Option Failure := some (stGrFormat, 16 + 4 * i + k)
  match GOp.ofCode e.code with
  | none => at' 0
  | some o =>
    let sp := o.spec
    if e.w0 / 65536 ≠ 0 ∨ !bit sp.types e.type ∨ !bit sp.ins e.nIn ∨ !bit sp.outs e.nOut then at' 0
    else if opAbsent s o then
      some (stGrVariant, 0)
    else if !paramOk o e.type e.param then at' 3
    else if imgArgs s a < e.argFirst + e.nIn + e.nOut then at' 1
    else if imgSuccs s a < e.succFirst + e.nSucc then at' 2
    else (List.range (e.nIn + e.nOut)).findSome? (verifyArg s a e sp)

/-- One variable (04 R124): identity, type, count, reserved bits, place and initial values. -/
def verifyVar (s : State) (a i : Nat) : Option Failure :=
  let v := varEntry s a i
  let at' (k : Nat) : Option Failure := some (stGrFormat, varsFrom s a + 4 * i + k)
  if v.id = 0 ∨ (List.range i).any (fun j => (varEntry s a j).id == v.id) then at' 0
  else if 5 < v.type ∨ v.count = 0 ∨ 1024 < v.count ∨ field v.w1 4 4 ≠ 0 ∨ field v.w1 27 5 ≠ 0 then at' 1
  else if field v.w2 20 12 ≠ 0 ∨ (v.isShared ∧ v.offset ≠ 0) ∨ (!v.isShared ∧ imgVarWords s a < v.offset + v.size) then at' 2
  else if !v.isShared && (List.range i).any (fun j =>
      let u := varEntry s a j
      !u.isShared && u.offset < v.offset + v.size && v.offset < u.offset + u.size) then at' 2
  else if v.init ≠ 0xFFFFFFFF ∧ imgConsts s a < v.init + v.size then at' 3
  else none

/-- The operations that have a successor word naming one of `left`'s members drop out of `left` when none of `left`
precedes them. -/
def peel (s : State) (a : Nat) : Nat → List Nat → List Nat
  | 0, left => left
  | fuel + 1, left =>
    let named := left.flatMap fun i => opSuccs s a (opEntry s a i)
    let next := left.filter fun i => named.contains i
    if next.length = left.length then left else peel s a fuel next

/-- Step 5: successors, N_PRED and cycles. -/
def verifyEdges (s : State) (a : Nat) : Option Failure :=
  let n := imgOps s a
  let bad := (List.range (imgSuccs s a)).find? fun j =>
    let w := imgW s a (succsFrom s a + j)
    65536 ≤ w || n ≤ w
  match bad with
  | some j => some (stGrFormat, succsFrom s a + j)
  | none =>
    let named := (List.range (imgSuccs s a)).map fun j => imgW s a (succsFrom s a + j)
    match (List.range n).find? fun i => (opEntry s a i).nPred != named.count i with
    | some i => some (stGrFormat, 17 + 4 * i)
    | none => match peel s a n (List.range n) with
      | [] => none
      | i :: _ => some (stGrFormat, 18 + 4 * i)

/-- The state word of an operation (04 R643). -/
def verifyState (s : State) (a i : Nat) : Option Failure :=
  let e := opEntry s a i
  match GOp.ofCode e.code with
  | none => none
  | some o =>
    if !o.spec.hasState then none
    else if imgArgs s a < e.argFirst + e.nIn + e.nOut + 1 then some (stGrFormat, 17 + 4 * i)
    else
      let g := opArg s a e (e.nIn + e.nOut)
      let v := varEntry s a g.ref
      let owner := if o.spec.companion then GOp.seqRun.code else e.code
      let size := if o.spec.companion then 8 else o.spec.state
      let sameState (j : Nat) : Bool :=
        match GOp.ofCode (opEntry s a j).code with
        | some q => q.spec.state != 0 && (opArg s a (opEntry s a j) ((opEntry s a j).nIn + (opEntry s a j).nOut)).ref == g.ref
        | none => false
      if g.kind ≠ 0 ∨ g.elem ≠ 0 ∨ imgVars s a ≤ g.ref ∨ v.stateOp ≠ owner ∨ v.count ≠ size ∨ v.type ≠ 2
          ∨ (!o.spec.companion && (List.range i).any sameState) then
        some (stGrFormat, argsFrom s a + e.argFirst + e.nIn + e.nOut)
      else none

/-- The type of a value of SYS_READ (04 R127). -/
def sysType (p : Nat) : Nat := if p = 2 then 5 else if p = 3 ∨ p = 4 then 0 else 2

/-- Step 6: state variables and SYS_READ selectors. -/
def verifyStates (s : State) (a : Nat) : Option Failure :=
  let badVar := (List.range (imgVars s a)).find? fun i =>
    let v := varEntry s a i
    v.isState && !(match GOp.ofCode v.stateOp with | some o => o.spec.state != 0 && v.type == 2 && v.count == o.spec.state | none => false)
  match badVar with
  | some i => some (stGrFormat, varsFrom s a + 4 * i + 1)
  | none =>
    (((List.range (imgOps s a)).findSome? (verifyState s a)).or
      ((List.range (imgOps s a)).findSome? fun i =>
        let e := opEntry s a i
        if GOp.ofCode e.code = some .sysRead ∧ (11 < e.param ∨ sysType e.param ≠ e.type) then some (stGrFormat, 19 + 4 * i) else none))

/-- Steps 1 to 6 of R145, in their order. -/
def verifyImage (s : State) (a len : Nat) : Option Failure :=
  match verifyCrc s a len with
  | some f => some f
  | none => match verifyHeader s a len with
    | some f => some f
    | none => match (List.range (imgOps s a)).findSome? (verifyOp s a) with
      | some f => some f
      | none => match (List.range (imgVars s a)).findSome? (verifyVar s a) with
        | some f => some f
        | none => (verifyEdges s a).or (verifyStates s a)

end Sys2Proof.Machine
end

