-- ==== Sys2Proof/Machine/Graph.lean ====
section
/-! DEFINITION. Slots, banks, variables and forces of the graph programs, verification steps 7 to 9 and the moult
(04 R117, R125, R137–R152). -/

namespace Sys2Proof.Machine

def slotOf (s : State) (n : Nat) : GSlot := look {} s.graph.slots n
def State.modSlot (s : State) (n : Nat) (f : GSlot → GSlot) : State :=
  s.modGraph fun g => { g with slots := upd {} g.slots n f }

/-- Bank A or B of a slot. -/
def GSlot.bank (k : GSlot) (b : Bool) : Bank := if b then k.bankB else k.bankA
def State.modBank (s : State) (n : Nat) (b : Bool) (f : Bank → Bank) : State :=
  s.modSlot n fun k => if b then { k with bankB := f k.bankB } else { k with bankA := f k.bankA }

/-- The active and the standby bank. -/
def activeBank (s : State) (n : Nat) : Bank := (slotOf s n).bank (slotOf s n).activeB
def standbyBank (s : State) (n : Nat) : Bank := (slotOf s n).bank (!(slotOf s n).activeB)

/-- The address of the active bank's image. -/
def activeAddr (s : State) (n : Nat) : Nat := bankAddr n (slotOf s n).activeB

/-- The slot's active bank holds a program. -/
def hasProgram (s : State) (n : Nat) : Bool := (activeBank s n).state == .active

/-- The slot states of R138 as GRAPH.STATUS numbers them: 0 STOPPED, 1 RUNNING, 2 HELD. -/
def slotState (s : State) (n : Nat) : Nat :=
  let k := slotOf s n
  if !k.enabled || (s.dev.mode != .run && s.dev.mode != .hold) then 0
  else if k.held || s.dev.mode == .hold then 2 else 1

/-! ### Variables and forces (04 R123, R125, R142) -/

/-- Where a variable lies. -/
structure VarLoc where
  id : Nat
  type : Nat
  count : Nat
  stateOp : Nat
  /-- First word in the variable space. -/
  base : Nat
  /-- The slot that keys its forces; none for a shared variable. -/
  slot : Option Nat
  deriving DecidableEq, Repr

def VarLoc.isState (v : VarLoc) : Bool := v.stateOp != 0xFF

/-- The address of an element. -/
def VarLoc.addr (v : VarLoc) (elem : Nat) : Nat := varAddr (v.base + elem * tyWords v.type)

/-- Variable `i` of a bank. -/
def bankVar (s : State) (n : Nat) (b : Bool) (i : Nat) : VarLoc :=
  let v := varEntry s (bankAddr n b) i
  { id := v.id, type := v.type, count := v.count, stateOp := v.stateOp, base := ((slotOf s n).bank b).bases.getD i 0,
    slot := if v.isShared then none else some n }

/-- The variable of the active bank with an identity. -/
def findVar (s : State) (n id : Nat) : Option VarLoc :=
  if !hasProgram s n then none
  else (varIndex s (activeAddr s n) id).map fun i => bankVar s n (slotOf s n).activeB i

/-- The variable that a force names: a shared one whatever the slot (04 R142, R159). -/
def forceVar (s : State) (n id : Nat) : Option VarLoc :=
  if bit id 31 then (s.graph.shared.find? (·.id == id)).map fun v =>
    { id := v.id, type := v.type, count := v.count, stateOp := v.stateOp, base := v.base, slot := none }
  else findVar s n id

/-- The force on an element. -/
def forceOn (s : State) (v : VarLoc) (elem : Nat) : Option Force :=
  s.graph.forces.find? fun f => f.slot == v.slot && f.id == v.id && f.elem == elem

/-- The stored, unforced value of an element. -/
def storedValue (s : State) (v : VarLoc) (elem : Nat) : Nat := readNat s (v.addr elem) (4 * tyWords v.type)

/-- The value that operations read (R142). -/
def varValue (s : State) (v : VarLoc) (elem : Nat) : Nat :=
  match forceOn s v elem with
  | some f => f.value
  | none => storedValue s v elem

/-- Stores an element. A single access to all 8 bytes of a poisoned word clears its poison (16 R560). -/
def State.storeValue (s : State) (v : VarLoc) (elem value : Nat) : State :=
  let a := v.addr elem
  let s := if tyWords v.type = 2 ∧ a % 8 = 0 then s.modMem fun m => { m with poison := m.poison.filter (· ≠ a) } else s
  s.writeNat a (4 * tyWords v.type) value

/-- A read, and a write, of an element that ends in a bus error (16 R553, R560). -/
def readFails (s : State) (v : VarLoc) (elem : Nat) : Bool := (poisonedIn s (v.addr elem) (4 * tyWords v.type)).isSome
def writeFails (s : State) (v : VarLoc) (elem : Nat) : Bool :=
  readFails s v elem && !(tyWords v.type == 2 && v.addr elem % 8 == 0)

/-- The operations that take the inputs of their first execution as the previous ones (04 R132, R134). -/
def startsFresh (stateOp : Nat) : Bool :=
  match GOp.ofCode stateOp with
  | some .rise | some .fall | some .both | some .ctu | some .ctd | some .ctud => true
  | _ => false

/-- Initial values of the words of a variable from word `from'` on (04 R124). -/
def State.initVar (s : State) (n : Nat) (b : Bool) (i base from' : Nat) : State :=
  let a := bankAddr n b
  let v := varEntry s a i
  let ws := if v.init = 0xFFFFFFFF then List.replicate (v.size - from') (0 : Word)
    else readWords s (a + 4 * (constsFrom s a + v.init + from')) (v.size - from')
  let s := s.writeWords (varAddr (base + from')) ws
  if startsFresh v.stateOp ∧ from' = 0 then
    s.modGraph fun g => { g with freshVars := if base ∈ g.freshVars then g.freshVars else g.freshVars ++ [base] }
  else s

/-! ### Allocation (04 R125, R144–R146) -/

/-- Words in use, as base and size. -/
def usedSpace (s : State) : List (Nat × Nat) :=
  ((List.range 4).flatMap fun n => (slotOf s n).bankA.words ++ (slotOf s n).bankB.words) ++
    s.graph.shared.map fun v => (v.base, v.count * tyWords v.type)

/-- Free words of variable space; a variable shared in place lies in another bank's block, or is held by both banks. -/
def freeSpace (s : State) : Nat :=
  let used := (usedSpace s).eraseDups
  varSpace - ((used.filter fun u => !used.any fun v => v != u && v.1 ≤ u.1 && u.1 + u.2 ≤ v.1 + v.2).map (·.2)).sum

/-- The lowest place of `size` words free of `used`. DESIGN CHOICE: the spec gives no place (log 57). -/
def placeWords (used : List (Nat × Nat)) (size : Nat) : Option Nat :=
  let fits (p : Nat) : Bool := p + size ≤ varSpace && used.all fun u => u.1 + u.2 ≤ p || p + size ≤ u.1
  ((0 :: used.map fun u => u.1 + u.2).filter fits).foldl (fun m p => some (match m with | some q => min q p | none => p)) none

/-- A bank in a state that keeps the shared variables it declares (R125). -/
def keepsShared (k : Bank) : Bool := k.state != .empty && k.state != .loaded

/-- Some bank keeps the shared variable. -/
def sharedUsed (s : State) (id : Nat) : Bool :=
  (List.range 4).any fun n => [false, true].any fun b =>
    keepsShared ((slotOf s n).bank b) && (varIndex s (bankAddr n b) id).isSome

/-- Frees the shared variables that no bank keeps, and their forces (R125). -/
def State.freeShared (s : State) : State :=
  let keep := s.graph.shared.filter fun v => sharedUsed s v.id
  s.modGraph fun g => { g with
    shared := keep
    forces := g.forces.filter fun f => f.slot.isSome || keep.any (·.id == f.id) }

/-- The bank forgets its verification: it frees the words that the other bank does not share (R144). -/
def State.forgetBank (s : State) (n : Nat) (b : Bool) : State :=
  s.modBank n b fun k => { k with bases := [], words := [], plan := [] }

/-! ### Verification, steps 7 to 9, and allocation (04 R145–R149) -/

/-- The partner in the active bank of a variable of the new image (R146). -/
def partner (s : State) (n : Nat) (v : VarEntry) : Option (Nat × VarEntry) :=
  if !hasProgram s n || !v.carry || v.isShared then none
  else (varIndex s (activeAddr s n) v.id).map fun i => (i, varEntry s (activeAddr s n) i)

/-- The pair is shared in place (R146). -/
def inPlace (u v : VarEntry) : Bool := u.type == v.type && u.count == v.count && u.stateOp == v.stateOp

/-- The elements of a pair that are copied or converted (R147). -/
def carried (u v : VarEntry) : Nat :=
  if u.isState || v.isState || !convertible u.type v.type then 0 else min u.count v.count

/-- Where verification puts a variable of the new image (04 R145 steps 8 and 9). -/
structure Placed where
  base : Nat
  /-- It shares its words with its partner, or with other programs (R125, R146). -/
  inPlace : Bool := false
  shared : Bool := false
  /-- Its partner, where the pair does not share its words. -/
  pair : Option Carry := none
  deriving DecidableEq, Repr

/-- The elements that are copied or converted at the moult (R147). -/
def Placed.copies (z : Placed) : Nat := match z.pair with | some c => c.copies | none => 0

/-- Step 8: the shared variables that no verified bank has declared get words (R125); none where there is no room. -/
def placeShared : List VarEntry → List (Nat × Nat) → List Shared → Option (List Shared)
  | [], _, new => some new
  | v :: r, used, new =>
    match placeWords used v.size with
    | some p => placeShared r (used ++ [(p, v.size)])
        (new ++ [{ id := v.id, type := v.type, count := v.count, stateOp := v.stateOp, base := p }])
    | none => none

/-- Steps 8 and 9: a variable of the image whose block begins at `block`, against the active bank where `standby`
(R124, R146). -/
def placeVar (s : State) (n : Nat) (standby : Bool) (block : Nat) (v : VarEntry) : Placed :=
  if v.isShared then
    match s.graph.shared.find? (·.id == v.id) with
    | some w => { base := w.base, shared := true }
    | none => { base := 0, shared := true }
  else match if standby then partner s n v else none with
    | none => { base := block + v.offset }
    | some (j, u) =>
      let q := (activeBank s n).bases.getD j 0
      if inPlace u v then { base := q, inPlace := true }
      else
        let c : Carry := { src := q, srcType := u.type, srcCount := u.count, dst := block + v.offset, dstType := v.type, dstCount := v.count
                           copies := carried u v }
        { base := block + v.offset, pair := some c }

/-- The counts of R155: shared in place, converted, initialised. -/
structure Counts where
  inPlace : Nat := 0
  converted : Nat := 0
  initialised : Nat := 0
  deriving DecidableEq, Repr

/-- The counts of an image whose variables are placed; `new` shared variables take initial values too. -/
def countsOf (vars : List VarEntry) (zs : List Placed) (new : Nat) : Counts :=
  { inPlace := (zs.filter (·.inPlace)).length
    converted := (zs.map (·.copies)).sum
    initialised := ((vars.zip zs).filter fun e => !e.2.inPlace && !e.2.shared && e.2.copies < e.1.count).length + new }

/-- The initial values of the variables that get new words (R145): those of the image's own block, and the `new` shared ones. -/
def State.initNew (s : State) (n : Nat) (b : Bool) (zs : List Placed) (new : List Nat) : State :=
  zs.zipIdx.foldl (fun s e =>
    if e.1.inPlace ∨ (e.1.shared ∧ ¬ new.contains e.1.base) then s else s.initVar n b e.2 e.1.base 0) s

/-- Active-bank variables without a partner in the new image (R155). -/
def leftBehind (s : State) (n : Nat) (b : Bool) : Nat :=
  if !hasProgram s n then 0
  else ((varTable s (activeAddr s n)).filter fun u =>
    !u.isShared && !(varTable s (bankAddr n b)).any fun v => v.id == u.id && v.carry && !v.isShared).length

/-- Why a force does not follow into a bank (R149): 0 it does, 1 REMOVED, 2 TYPE, 3 SHAPE. -/
def forceDrop (s : State) (n : Nat) (b : Bool) (f : Force) : Nat :=
  match varIndex s (bankAddr n b) f.id with
  | none => 1
  | some i =>
    let v := varEntry s (bankAddr n b) i
    match findVar s n f.id with
    | some u => if u.type ≠ v.type then 2 else if v.count ≤ f.elem then 3 else 0
    | none => if v.count ≤ f.elem then 3 else 0

/-- Forces of the slot that a moult into the bank would drop. -/
def forcesToDrop (s : State) (n : Nat) (b : Bool) : Nat :=
  (s.graph.forces.filter fun f => f.slot == some n && forceDrop s n b f != 0).length

/-- The reply words of GRAPH.VERIFY (R155). -/
def verifyWords (s : State) (n : Nat) (b : Bool) (z : Counts) (left drops fail : Nat) : List Word :=
  [wd (imgGen s (bankAddr n b)), wd z.inPlace, wd z.converted, wd z.initialised, wd left, wd drops, wd (freeSpace s), wd fail]

/-- Verification failed: the bank is LOADED and holds no words (R144). -/
def State.failVerify (s : State) (n : Nat) (b : Bool) (status fail : Nat) : State × Nat × List Word :=
  let s := ((s.forgetBank n b).modBank n b fun k => { k with state := .loaded }).freeShared
  (s, status, verifyWords s n b {} 0 0 fail)

/-- Verification from step 8 on (R145): the space, the carry plan, and then the variable block, the initial values and the
plan of the bank. -/
def State.placeBank (s : State) (n : Nat) (b : Bool) : State × Nat × List Word :=
  let a := bankAddr n b
  let standby := b != (slotOf s n).activeB
  let vars := varTable s a
  let fresh := vars.filter fun v => v.isShared && !s.graph.shared.any (·.id == v.id)
  let size := imgVarWords s a
  match placeWords (usedSpace s) size with
  | none => s.failVerify n b stGrVarspace 0
  | some block => match placeShared fresh (usedSpace s ++ [(block, size)]) [] with
    | none => s.failVerify n b stGrVarspace 0
    | some new =>
      let t := s.modGraph fun g => { g with shared := g.shared ++ new }
      let zs := vars.map (placeVar t n standby block)
      let z := countsOf vars zs new.length
      if 1024 < z.converted then s.failVerify n b stGrCarry 0
      else
        let kept := ((vars.zip zs).filter fun e => e.2.inPlace).map fun e => (e.2.base, e.1.size)
        let t := t.modBank n b fun k => { k with
          state := if standby then .verified else .active, bases := zs.map (·.base), words := (block, size) :: kept
          plan := zs.filterMap (·.pair) }
        let t := t.initNew n b zs (new.map (·.base))
        let t := if standby then t else
          t.modSched fun u => { u with slots := upd {} u.slots n fun k => { k with homes := [] } }
        let left := if standby then leftBehind t n b else 0
        let drops := if standby then forcesToDrop t n b else 0
        (t, stOk, verifyWords t n b z left drops 0)

/-- GRAPH.VERIFY of a bank (R145, R150): the state, the status and the reply words. -/
def graphVerify (n : Nat) (b : Bool) (s : State) : State × Nat × List Word :=
  let k := (slotOf s n).bank b
  let a := bankAddr n b
  if k.state ≠ .loaded ∧ k.state ≠ .verified then (s, stRange, [])
  else if b ≠ (slotOf s n).activeB ∧ (activeBank s n).state = .loaded then (s, stGrNotVerified, [])
  else if (poisonedIn s a (4 * k.length)).isSome then (s, stFault, [])
  else match verifyImage s a k.length with
  | some f => s.failVerify n b f.1 f.2
  | none =>
    let clash (v : VarEntry) : Bool := v.isShared && s.graph.shared.any fun w => w.id == v.id && (w.type != v.type || w.count != v.count)
    if (varTable s a).any clash then s.failVerify n b stGrSharedType 0
    else (s.forgetBank n b).placeBank n b

/-! ### The moult (04 R144–R149, R152) -/

/-- Copies or converts one entry of the plan, counting saturations and NaNs. -/
def carryEntry (acc : State × Nat) (c : Carry) : State × Nat :=
  (List.range c.copies).foldl (fun acc i =>
    let src := varAddr (c.src + i * tyWords c.srcType)
    let dst := varAddr (c.dst + i * tyWords c.dstType)
    let r := carryValue c.srcType c.dstType (readNat acc.1 src (4 * tyWords c.srcType))
    (acc.1.writeNat dst (4 * tyWords c.dstType) r.1, acc.2 + r.2)) acc

/-- ARITH_EXC advances, with at most one record per slot and cycle (R131). -/
def State.countArith (s : State) (n k : Nat) : State :=
  if k = 0 then s
  else
    let first := (slotOf s n).arithCycle ≠ some (devCycle s)
    let s := s.modSlot n fun z => { z with arithExc := satAdd 32 z.arithExc k, arithCycle := some (devCycle s) }
    if first then s.recordOpen 3 29 0 else s

/-- Drops the forces that do not follow into the new bank, each with a record of its VAR_ID, element and reason (R149). Their
places in DETAIL and DETAIL2 are the model's (log 7). -/
def State.dropForces (s : State) (n : Nat) (b : Bool) : State :=
  let drop := s.graph.forces.filter fun f => f.slot == some n && forceDrop s n b f != 0
  let s := drop.foldl (fun s f => s.record 3 (Config.eventCode 33).toNat 0 f.id (f.elem + place 16 (forceDrop s n b f))) s
  (s.modGraph fun g => { g with forces := g.forces.filter fun f => !drop.contains f }).modSlot n fun k =>
    { k with forcesDropped := min 0xFFFF (k.forcesDropped + drop.length) }

/-- The reverse of a plan, for GRAPH.ROLLBACK (R152). -/
def Carry.reverse (c : Carry) : Carry :=
  { src := c.dst, srcType := c.dstType, srcCount := c.dstCount, dst := c.src, dstType := c.srcType, dstCount := c.srcCount
    copies := c.copies }

/-- The elements that a rollback does not copy take their initial values (R147, R152). -/
def State.initTails (s : State) (n : Nat) (b : Bool) (plan : List Carry) : State :=
  plan.foldl (fun s c =>
    if c.dstCount ≤ c.copies then s
    else match (List.range (imgVars s (bankAddr n b))).find? fun i => ((slotOf s n).bank b).bases.getD i 0 == c.dst with
      | some i => s.initVar n b i c.dst (c.copies * tyWords c.dstType)
      | none => s) s

/-- The banks of a slot can swap (R144): the standby is ARMED or ARMED_BACK beside an ACTIVE bank, or ARMED beside an
EMPTY one. -/
def moultable (k : GSlot) : Bool :=
  let here := (k.bank k.activeB).state; let other := (k.bank (!k.activeB)).state
  (here == .active && (other == .armed || other == .armedBack)) || (here == .empty && other == .armed)

/-- The slot's banks swap at cycle `x` (R144). -/
def State.moult (s : State) (n x : Nat) : State :=
  let k := slotOf s n
  let b := !k.activeB
  let target := k.bank b
  let was := (k.bank k.activeB).state
  if ¬ moultable k then s
  else
    let s := s.dropForces n b
    let s := if target.state = .armedBack then s.initTails n b target.plan else s
    let r := target.plan.foldl carryEntry (s, 0)
    let s := r.1.countArith n r.2
    let plan := target.plan.map Carry.reverse
    let s := s.modBank n b fun q => { q with state := .active, plan := [] }
    let s := s.modBank n (!b) fun q => if was = .active then { q with state := .previous, plan := plan } else q
    let s := s.modSched fun u => { u with slots := upd {} u.slots n fun q => { q with homes := [] } }
    (s.modSlot n fun q => { q with
      activeB := b, lastMoult := x, moulted := true, first := true
      origin := if q.enabled then some x else q.origin
      overrunNext := 0 }).freeShared

/-- The slots that a changeover with GRAPH set moults (01 R37, 04 R144). -/
def armedSlots (s : State) : List Nat :=
  (List.range 4).filter fun n => moultable (slotOf s n)

/-! ### Lasting memory errors in the graph area (16 R565) -/

/-- The severity of a lasting double error at an address of the graph area, and the state after the unit's reaction. -/
def graphMemoryFault (addr : Nat) (s : State) : State × Nat :=
  let running (n : Nat) (b : Bool) : Bool := b == (slotOf s n).activeB && slotState s n != 0
  let lose (banks : List (Nat × Bool)) (s : State) : State :=
    (banks.foldl (fun s k =>
      if keepsShared ((slotOf s k.1).bank k.2) then
        (s.forgetBank k.1 k.2).modBank k.1 k.2 fun q => { q with state := .loaded }
      else s) s).freeShared
  let all : List (Nat × Bool) := (List.range 4).flatMap fun n => [(n, false), (n, true)]
  if addr < 0x01800000 then
    let i := (addr - 0x00800000) / 0x00200000
    let n := i / 2; let b := i % 2 == 1
    if running n b then (s, 2)
    else if (addr - 0x00800000) % 0x00200000 / 4 < ((slotOf s n).bank b).length then (lose [(n, b)] s, 1)
    else (s, 1)
  else
    let hit (base size : Nat) : Bool := addr < varAddr (base + size) && varAddr base < addr + 8
    let shares := (s.graph.shared.filter fun v => hit v.base (v.count * tyWords v.type)).map (·.id)
    let touched := all.filter fun k => (((slotOf s k.1).bank k.2).words.any fun w => hit w.1 w.2) ||
      (keepsShared ((slotOf s k.1).bank k.2) && shares.any fun id => (varIndex s (bankAddr k.1 k.2) id).isSome)
    if touched.any fun k => running k.1 k.2 then (s, 2) else (lose touched s, 1)

end Sys2Proof.Machine
end

