-- ==== Sys2Proof/Machine/GraphRun.lean ====
section
/-! DEFINITION. What each of the 96 graph operations does when it runs (04 R126–R136, R644, R645; 06 R202, 07 R259, 08 R277,
R282, R291, 09 R310, R333, 12 R448, 17 R588). An operation reads its operands and writes its results when it starts
(DESIGN CHOICE, log 60); DELAY, AT_OFFSET and AIN_URGENT write theirs when they end. -/

namespace Sys2Proof.Machine

/-! ### The input image (04 R129) -/

/-- The station status word of a member in cycle `k` (01 R29). -/
def stationWord (m : Member) (k : Nat) : Nat :=
  if !m.sinceRun then 1 + place 16 0xFF
  else
    let kept := place 1 (field m.status 1 4) + place 8 (field m.status 8 5)
    if m.inputsTag = some k then kept
    else
      let age := match m.inputsTag with
        | some t => (clampInt 0 255 (max (cycDiff k t) m.missing)).toNat
        | none => 0xFF
      1 + kept + place 16 age

/-- The inputs tagged with cycle `k` as the units hold them (R129). -/
def inputsNow (s : State) (k : Nat) : Inputs :=
  { dins := s.dio.dins, encs := s.dio.encs, convs := s.adc.convs, adc := s.adc.image, axes := s.axis.ch, can := s.can.ctrls
    members := s.drove.members
    stations := s.drove.members.map fun e => (e.1, stationWord e.2 k)
    loops := s.loop.images
    exchanges := s.drove.cfg.downEn && s.drove.downStarted && ringCycleNo s true == k }

/-- INPUT_TIME: the ring time of the input instant of the device cycle in progress, in ns (R127). -/
def inputTime (s : State) : Nat :=
  let l := clocksOfUs (max 1 (lDev s))
  nsOf (s.clock / l * l + clocksOfUs (inOffset s))

/-- The values of SYS_READ for an execution that begins now (R127, 05 R182). -/
def sysValues (s : State) (n : Nat) : List Nat :=
  let k := slotOf s n
  [devCycle s, lDev s, inputTime s, flag k.first, flag k.moulted, k.resumeGap, imgGen s (activeAddr s n), s.cyc.commit.num,
   s.cyc.miss, k.executions, k.overrun, s.dev.mode.num]

/-! ### Operands -/

/-- The variable and element that an argument names in the active bank. -/
def argVar (s : State) (n : Nat) (r : ArgRef) : VarLoc × Nat := (bankVar s n (slotOf s n).activeB r.ref, r.elem)

/-- The value of an argument read in a type (R121, R142, R644), and whether its memory access fails (16 R553). -/
def operand (s : State) (n ty : Nat) (r : ArgRef) : Nat × Bool :=
  if r.kind = 1 then
    let a := activeAddr s n
    let at' := a + 4 * (constsFrom s a + r.ref)
    (readNat s at' (4 * tyWords ty), (poisonedIn s at' (4 * tyWords ty)).isSome)
  else
    let v := argVar s n r
    (varValue s v.1 v.2, readFails s v.1 v.2 && (forceOn s v.1 v.2).isNone)

/-- An operation in its slot. -/
structure OpAt where
  slot : Nat
  op : Nat
  o : GOp
  e : OpEntry
  deriving DecidableEq, Repr

/-- Operation `i` of the active bank of slot `n`. -/
def opAt (s : State) (n i : Nat) : OpAt :=
  let e := opEntry s (activeAddr s n) i
  { slot := n, op := i, o := (GOp.ofCode e.code).getD .move, e := e }

/-- Argument `j`. -/
def OpAt.arg (k : OpAt) (s : State) (j : Nat) : ArgRef := opArg s (activeAddr s k.slot) k.e j

/-- Input `j`. -/
def OpAt.input (k : OpAt) (s : State) (j : Nat) : Nat × Bool :=
  operand s k.slot (sigAt k.o.spec.sigIn k.e.type k.e.param j) (k.arg s j)

/-- Every input. -/
def OpAt.inputs (k : OpAt) (s : State) : List Nat := (List.range k.e.nIn).map fun j => (k.input s j).1

/-- The variable and element of output `j`. -/
def OpAt.output (k : OpAt) (s : State) (j : Nat) : VarLoc × Nat := argVar s k.slot (k.arg s (k.e.nIn + j))

/-- The state variable that the operation names (R643). -/
def OpAt.stateVar (k : OpAt) (s : State) : VarLoc := (argVar s k.slot (k.arg s (k.e.nIn + k.e.nOut))).1

/-- The words of a state variable. -/
def stateWords (s : State) (v : VarLoc) : List Nat := (readWords s (varAddr v.base) v.count).map (·.toNat)

/-- A memory access of the operation ends in a bus error (16 R553): its entry, its arguments, an operand or its state. -/
def OpAt.fails (k : OpAt) (s : State) : Bool :=
  let a := activeAddr s k.slot
  (poisonedIn s (a + 4 * (16 + 4 * k.op)) 16).isSome ||
  (poisonedIn s (a + 4 * (argsFrom s a + k.e.argFirst)) (4 * (k.e.nIn + k.e.nOut + flag k.o.spec.hasState))).isSome ||
  (List.range k.e.nIn).any (fun j => (k.input s j).2) ||
  (List.range k.e.nOut).any (fun j => let v := k.output s j; writeFails s v.1 v.2) ||
  (k.o.spec.hasState && (poisonedIn s (varAddr (k.stateVar s).base) (4 * (k.stateVar s).count)).isSome)

/-- Writes output `j`, if the operation has it (R142: the stored, unforced value). -/
def State.setOutput (s : State) (k : OpAt) (j value : Nat) : State :=
  if j < k.e.nOut then let v := k.output s j; s.storeValue v.1 v.2 value else s

/-- Writes the outputs in order. -/
def State.setOutputs (s : State) (k : OpAt) (vs : List Nat) : State := vs.zipIdx.foldl (fun s e => s.setOutput k e.2 e.1) s

/-- An output that the spec does not state (log 59): a free value of its type. -/
def State.freeOutput (s : State) (k : OpAt) (j : Nat) : State :=
  let ty := sigAt k.o.spec.sigOut k.e.type k.e.param j
  let lo := s.takeFree; let hi := lo.2.takeFree
  hi.2.setOutput k j ((lo.1.toNat + place 32 hi.1.toNat) % 2 ^ tyBits ty)

/-- Writes the words of a state variable. -/
def State.setState (s : State) (v : VarLoc) (ws : List Nat) : State :=
  (s.writeWords (varAddr v.base) (ws.map wd)).modGraph fun g => { g with freshVars := g.freshVars.filter (· ≠ v.base) }

/-! ### The execution's own output image (04 R128) -/

/-- Changes the execution of a slot. -/
def State.modExec (s : State) (n : Nat) (f : Exec → Exec) : State := s.modSlot n fun k => { k with exec := k.exec.map f }

/-- Sets a value of an image. -/
def setImg (l : List (ImgKey × Nat)) (key : ImgKey) (v : Nat) : List (ImgKey × Nat) :=
  if l.any (·.1 == key) then l.map fun e => if e.1 == key then (key, v) else e else l ++ [(key, v)]

/-- An IMAGE operation writes a value. -/
def State.imgWrite (s : State) (n : Nat) (key : ImgKey) (v : Nat) : State :=
  s.modExec n fun x => { x with out := { x.out with values := setImg x.out.values key v } }

/-- An IMAGE operation makes a request. -/
def State.imgRequest (s : State) (n : Nat) (r : ImgReq) : State :=
  s.modExec n fun x => { x with out := { x.out with reqs := x.out.reqs ++ [r] } }

/-! ### The sequencer (04 R135) -/

/-- Word `j` of step `i` of the step table whose first word is pool word `first` (log 58: PARAM of SEQ_RUN). -/
def stepWord (s : State) (n first i j : Nat) : Nat :=
  let a := activeAddr s n
  imgW s a (constsFrom s a + first + 8 * i + j)

/-- Elapsed whole µs of the step (R133, R135). -/
def seqElapsed (now : Int) (st : List Nat) : Nat := ((now - time64 st 1).toNat) / 1000

/-- Parameter `j` at elapsed time `us` of the step: constant, or on the line from its value at the start of the step
(R135). The exact value is rounded once (DEDUCED from R131, log 58). -/
def seqValue (s : State) (n first : Nat) (st : List Nat) (us j : Nat) : Nat :=
  let i := st.getD 0 0
  let target := stepWord s n first i (3 + j)
  let dur := stepWord s n first i 0 * 1000
  let from' := st.getD (4 + j) 0
  if !bit (stepWord s n first i 1) (14 + j) || dur ≤ us then target
  else if !Fmt.b32.isFinite from' || !Fmt.b32.isFinite target then
    (Config.openValue (place 64 (from' + place 32 target) + us)).toNat % 2 ^ 32
  else
    Fmt.b32.ofRatio (scaledInt .b32 from' * dur + (scaledInt .b32 target - scaledInt .b32 from') * us) (dur * 2 ^ (-Fmt.b32.emin).toNat)

/-- The state at the beginning of step `i`: the parameters keep the values that they have reached. -/
def seqBegin (s : State) (n first : Nat) (now : Int) (st : List Nat) (i : Nat) : List Nat :=
  let reached := if bit (st.getD 3 0) 0 then (List.range 4).map fun j => seqValue s n first st (seqElapsed now st) j
    else (List.range 4).map fun j => stepWord s n first i (3 + j)
  [i] ++ time64Words now ++ [1] ++ reached

/-- The pool word of the step table of the SEQ_RUN that owns a state variable (R643). -/
def seqTable (s : State) (n : Nat) (v : VarLoc) : Nat :=
  let a := activeAddr s n
  match (List.range (imgOps s a)).find? fun i => (opAt s n i).o == .seqRun && ((opAt s n i).stateVar s).base == v.base with
  | some i => (opEntry s a i).param
  | none => 0

/-- SEQ_RUN: the step advances when its time is over and its condition holds; outputs OUT_BITS and DONE. -/
def runSeq (s : State) (k : OpAt) (now : Int) (cond : Bool) : State :=
  let v := k.stateVar s
  let st := stateWords s v
  let first := k.e.param
  let st := if bit (st.getD 3 0) 0 then st else seqBegin s k.slot first now st (st.getD 0 0)
  let i := st.getD 0 0
  let w1 := stepWord s k.slot first i 1
  let dur := stepWord s k.slot first i 0
  let timeOver := dur * 1000 ≤ seqElapsed now st
  let waits := bit w1 12 || dur == 0
  let advances := decide (time64 st 1 < now) && decide timeOver && (!waits || cond)
  let st := if !advances then st
    else if bit w1 13 then st.set 3 3
    else seqBegin s k.slot first now st (field w1 0 12)
  (s.setState v st).setOutputs k [stepWord s k.slot first (st.getD 0 0) 2, flag (bit (st.getD 3 0) 1)]

/-- SEQ_GOTO, SEQ_PAUSE, SEQ_STATE and SEQ_PARAM. Several SEQ_PAUSE of one state variable (R643) pause its step once. -/
def runSeqCompanion (s : State) (k : OpAt) (now : Int) (prev : Int) (x : List Nat) : State :=
  let v := k.stateVar s
  let st := stateWords s v
  let first := seqTable s k.slot v
  match k.o with
  | .seqGoto => s.setState v (seqBegin s k.slot first now st (x.getD 0 0))
  | .seqPause =>
    let done : Bool := match (slotOf s k.slot).exec with | some e => e.paused.contains v.base | none => false
    if x.getD 0 0 = 0 ∨ ¬ bit (st.getD 3 0) 0 ∨ done then s
    else
      let start := time64 st 1 + (now - max prev (time64 st 1))
      (s.setState v (st.take 1 ++ time64Words start ++ st.drop 3)).modExec k.slot fun e => { e with paused := e.paused ++ [v.base] }
  | .seqState => s.setOutputs k [st.getD 0 0]
  | _ => s.setOutputs k [if bit (st.getD 3 0) 0 then seqValue s k.slot first st (seqElapsed now st) (k.e.param % 4) else 0]

/-! ### Operations on other units -/

/-- The result of an analog input in the TYPE of the operation (08 R269). -/
def ainValue (ty : Nat) (convs : Tab Conv) (n : Nat) (r : AdcResult) : Nat :=
  let range := field (look {} convs (n / 8)).ranges (2 * (n % 8)) 2
  if ty = 3 then voltsOf range r.code else enc 32 (signedValue range r.code)

/-- Fields of PARAM of the ring operations (R130): member and word offset. -/
def ringMember (param : Nat) : Nat := field param 2 6
def ringWord (param : Nat) : Nat := field param 8 10

/-- A position of the axis operations in Q40.24 (07 R259); none where it is not finite or beyond ±2^39 counts. -/
def axisPosition (v : Nat) : Option Int :=
  match Fmt.b64.toIntEven v 24 with
  | some p => if p.natAbs ≤ 2 ^ 63 then some (clampInt (-(2 ^ 63)) (2 ^ 63 - 1) p) else none
  | none => none

/-- AXIS_START, AXIS_STOP, AXIS_OFFSET and AXIS_REF (07 R259). -/
def axisOp (s : State) (k : OpAt) (x : List Nat) : State :=
  let a := k.e.param
  let n := k.slot
  let a0 := x.getD 0 0; let a1 := x.getD 1 0; let a2 := x.getD 2 0
  match k.o with
  | .axisStart => if a1 = 0 then s else s.imgRequest n (.axis (.start a a0))
  | .axisStop => if a1 = 0 ∨ 3 < a0 then s else s.imgRequest n (.axis (.stop a a0))
  | .axisOffset => if a1 = 0 then s else match axisPosition a0 with
    | some p => s.imgRequest n (.axis (.offset a p))
    | none => s.countArith n 1
  | _ => if a2 = 0 ∨ 2 < a1 then s else match axisPosition a0 with
    | some p => s.imgRequest n (.axis (.ref a p a1))
    | none => s.countArith n 1

/-- The operations that read the input image of the execution (R129). -/
def inputOp (s : State) (k : OpAt) (x : Exec) (ins : List Nat) : State :=
  let p := k.e.param
  let a0 := ins.getD 0 0
  match k.o with
  | .loopRead =>
    if a0 ≤ 6 then s.setOutputs k [((look [] x.inputs.loops p).getD a0 0).toNat] else s.freeOutput k 0
  | .axisReadPos =>
    let c := look {} x.inputs.axes p
    match a0 with
    | 0 => s.setOutputs k [c.imgPos]
    | 1 => s.setOutputs k [c.imgFb]
    | 2 => s.setOutputs k [c.imgVel]
    | _ => s.freeOutput k 0
  | .axisReadState => s.setOutputs k [(look {} x.inputs.axes p).imgState]
  | .rin => s.setOutputs k [look 0 (look {} x.inputs.members (ringMember p)).words (ringWord p)]
  | .rinStatus => s.setOutputs k [look (1 + place 16 0xFF) x.inputs.stations (ringMember p)]
  | .rxchg => s.setOutputs k [flag x.inputs.exchanges]
  | .din => s.setOutputs k [flag (look {} x.inputs.dins p).imgLevel]
  | .dinEdges =>
    match x.prevDins with
    | some before =>
      let d := look {} x.inputs.dins p; let b := look {} before p
      s.setOutputs k [enc 32 ((d.imgRise : Int) - b.imgRise), enc 32 ((d.imgFall : Int) - b.imgFall)]
    | none => (s.freeOutput k 0).freeOutput k 1
  | .ain => s.setOutputs k [ainValue k.e.type x.inputs.convs p (look {} x.inputs.adc p)]
  | .encRead =>
    let c := look {} x.inputs.encs (field p 0 4)
    s.setOutputs k [match field p 8 2 with | 0 => c.imgCount | 1 => c.imgVel | _ => c.imgLatched]
  | .canRecv =>
    let b := look {} (look {} x.inputs.can (field p 0 8)).bufs (field p 8 8)
    let s := if a0 < 20 then s.setOutput k 0 (b.image.getD a0 0).toNat else s.freeOutput k 0
    s.setOutput k 1 (flag b.imageNew)
  | _ => s

/-- The operations of class IMAGE (R128). -/
def imageOp (s : State) (k : OpAt) (ins : List Nat) : State :=
  let n := k.slot
  let p := k.e.param
  let a0 := ins.getD 0 0; let a1 := ins.getD 1 0; let a2 := ins.getD 2 0
  match k.o with
  | .loopSp => s.imgWrite n (.loopSp p) a0
  | .loopFf => s.imgWrite n (.loopFf p) a0
  | .loopTrack => s.imgWrite n (.loopTrack p) a0
  | .loopMode => s.imgWrite n (.loopMode p) (a0 % 4)
  | .loopRep => s.imgWrite n (.loopRep p) a0
  | .rout =>
    let s := s.imgWrite n (.rout (ringMember p) (ringWord p)) a0
    if k.e.nIn = 2 then s.imgWrite n (.release (ringMember p)) a1 else s
  | .dout => s.imgWrite n (.dout p) (flag (a0 ≠ 0))
  | .pwmOut => s.imgWrite n (.pwm p) a0
  | .encLatch => if a0 = 0 then s else s.imgRequest n (.armLatch (field p 0 4))
  | .canSend =>
    let s := if a0 < 20 then s.imgWrite n (.canWord (field p 0 8) (field p 8 8) a0) a1 else s
    if a2 = 0 then s else s.imgRequest n (.canSend (field p 0 8) (field p 8 8))
  | .axisStart | .axisStop | .axisOffset | .axisRef => axisOp s k ins
  | _ => s

/-- The IMMEDIATE operations other than AIN_URGENT and ACQ_PUBLISH (R128): ACQ_TRIG, ACQ_MARK, TALLY_REC and ASSERT.
ASSERT reports its fault when its input is 0 (PRESUMED, log 58). -/
def immediateOp (s : State) (k : OpAt) (ins : List Nat) : State :=
  let p := k.e.param
  let a0 := ins.getD 0 0; let a1 := ins.getD 1 0
  match k.o with
  | .acqTrig => if a0 = 0 then s else fireProgram p s
  | .acqMark => acqMark a0 s
  | .tallyRec => if k.e.nIn = 2 ∧ a1 = 0 then s else s.record 3 (0x8000 + p % 2 ^ 15) (p % 4) a0 k.slot
  | .assert => if a0 ≠ 0 then s else s.takeFree.2.reportFault 3 (p / 2 ^ 16) (p % 4) s.takeFree.1.toNat
  | _ => s

/-- TABLE: the points are the elements of the arrays of inputs 1 and 2 (log 58). -/
def runTable (s : State) (k : OpAt) (x : Nat) : State :=
  let xs := argVar s k.slot (k.arg s 1); let ys := argVar s k.slot (k.arg s 2)
  let n := min (xs.1.count - xs.2) (ys.1.count - ys.2)
  if (k.arg s 1).kind = 1 ∨ (k.arg s 2).kind = 1 then s.freeOutput k 0
  else s.setOutputs k [tableAt k.e.type x ((List.range n).map fun i => (varValue s xs.1 (xs.2 + i), varValue s ys.1 (ys.2 + i)))]

/-! ### Running an operation -/

/-- The operation reads its operands and acts (R128, R131–R136). AIN_URGENT, ACQ_PUBLISH, DELAY and AT_OFFSET do their
part in the scheduler. -/
def runOp (s : State) (k : OpAt) (x : Exec) : State :=
  let ins := k.inputs s
  let now : Int := x.inputNs
  match k.o with
  | .rise | .fall | .both | .sr | .rs | .hyst | .ton | .tof | .tp | .tacc | .ctu | .ctd | .ctud | .since =>
    let v := k.stateVar s
    let r := computeState k.o k.e.type k.e.param now (s.graph.freshVars.contains v.base) ins (stateWords s v)
    (s.setState v r.2).setOutputs k r.1
  | .seqRun => runSeq s k now (ins.getD 0 0 ≠ 0)
  | .seqGoto | .seqPause | .seqState | .seqParam => runSeqCompanion s k now x.prevNs ins
  | .ramp =>
    let v := k.stateVar s
    let r := (List.range v.count).foldl (fun (acc : State × List Nat) _ => (acc.1.takeFree.2, acc.2 ++ [acc.1.takeFree.1.toNat])) (s, [])
    (r.1.setState v r.2).freeOutput k 0
  | .table => runTable s k (ins.getD 0 0)
  | .demux =>
    (List.range k.e.nOut).foldl (fun (s : State) (j : Nat) =>
      if indexOf k.e.type (ins.getD 0 0) = some (j : Int) then s.setOutput k j (ins.getD 1 0) else s.freeOutput k j) s
  | .loopSp | .loopFf | .loopMode | .loopTrack | .loopRep | .axisStart | .axisStop | .axisOffset | .axisRef | .rout | .dout
  | .pwmOut | .encLatch | .canSend => imageOp s k ins
  | .loopRead | .axisReadPos | .axisReadState | .rin | .rinStatus | .rxchg | .din | .dinEdges | .ain | .encRead | .canRecv =>
    inputOp s k x ins
  -- the formats of messages over the ring are not in the spec (log 59)
  | .rmsgSend | .rmsgRecv => (List.range k.e.nOut).foldl (fun s j => s.freeOutput k j) s
  | .acqTrig | .acqMark | .tallyRec | .assert => immediateOp s k ins
  | .sysRead => s.setOutputs k [x.sys.getD k.e.param 0]
  | .ainUrgent | .acqPublish | .delay | .atOffset => s
  | _ =>
    let r := compute k.o k.e.type k.e.param ins
    (s.countArith k.slot r.2).setOutputs k r.1

end Sys2Proof.Machine
end

