-- ==== Sys2Proof/Machine/Sched.lean ====
section
/-! DEFINITION. The dataflow scheduler: ready lists, placement, prefetch, tokens, delays, late executions, and the rows of
running operations (05; 04 R137, R140, R141). -/

namespace Sys2Proof.Machine

def coreOf (s : State) (c : Nat) : Core := look {} s.sched.cores c
def State.modCore (s : State) (c : Nat) (f : Core → Core) : State := s.modSched fun u => { u with cores := upd {} u.cores c f }
def schedOf (s : State) (n : Nat) : SlotSched := look {} s.sched.slots n
def State.modSlotSched (s : State) (n : Nat) (f : SlotSched → SlotSched) : State :=
  s.modSched fun u => { u with slots := upd {} u.slots n f }

/-! ### Placement (R164, R167, R168) -/

/-- CORE_LIMIT leaves no core of CORE_MASK (R167). -/
def limitIgnored (s : State) (n : Nat) : Bool :=
  hasProgram s n && (imgCoreMask s (activeAddr s n) &&& (schedOf s n).coreLimit) % 2 ^ graphCores s == 0

/-- The allowed cores of a slot, rising (R167). -/
def allowedCores (s : State) (n : Nat) : List Nat :=
  let mask := imgCoreMask s (activeAddr s n)
  bitsOf (graphCores s) (if limitIgnored s n then mask else mask &&& (schedOf s n).coreLimit)

/-- The priority of a slot (R164). -/
def slotPrio (s : State) (n : Nat) : Nat :=
  if (schedOf s n).prioOvr then (schedOf s n).prio else imgPrio s (activeAddr s n)

/-- The core on which R168 places an operation while lists have room: its home, or the n-th allowed core. -/
def homeCore (s : State) (n op : Nat) : Nat :=
  let cores := allowedCores s n
  let h := look 0 (schedOf s n).homes op
  if h ≠ 0 ∧ h - 1 ∈ cores then h - 1 else cores.getD (op % max 1 cores.length) 0

/-- The ready lists of a core are full (R164). -/
def listsFull (s : State) (c : Nat) : Bool := 4096 ≤ (coreOf s c).lists.length

/-- The allowed core with most free entries, the lowest of equals. -/
def roomiest (s : State) (n : Nat) : Option Nat :=
  (allowedCores s n).foldl (fun best c => match best with
    | some b => if (coreOf s c).lists.length < (coreOf s b).lists.length then some c else some b
    | none => some c) none

/-- The slot is RUNNING, so dispatch and taking see its entries (R166). -/
def runnable (s : State) (r : Ready) : Bool := slotState s r.slot == 1

/-- The first runnable entry of the highest priority in a list. -/
def bestReady (s : State) (l : List Ready) : Option Ready :=
  l.foldl (fun best r => if !runnable s r then best else match best with
    | some b => if r.prio < b.prio then some r else some b
    | none => some r) none

/-- Fills one empty prefetch slot (R171). -/
def fillSlot (c : Nat) (s : State) : State :=
  let k := coreOf s c
  if 2 ≤ k.prefetch.length then s
  else match bestReady s k.lists with
    | some r => s.modCore c fun k => { k with prefetch := k.prefetch ++ [r], lists := k.lists.erase r }
    | none => s

/-- READY_HIGH follows the occupancy of the ready lists (R186). -/
def State.markHigh (s : State) (c : Nat) : State :=
  s.modCore c fun k => { k with readyHigh := max k.readyHigh (min 4096 k.lists.length) }

/-- The prefetch slots of a core: entries of slots that no longer run leave, and empty slots fill (R171). -/
def State.refill (s : State) (c : Nat) : State :=
  let s := s.modCore c fun k => { k with
    lists := (k.prefetch.filter fun r => !runnable s r) ++ k.lists
    prefetch := k.prefetch.filter (runnable s) }
  (fillSlot c (fillSlot c s)).markHigh c

/-- The prefetch slots of every core, after slots have become HELD, run again or lost their work (R171). -/
def State.refillAll (s : State) : State := (List.range (graphCores s)).foldl State.refill s

/-- A new entry of higher priority displaces the lowest-priority prefetched operation (R171). -/
def State.displace (s : State) (c : Nat) (r : Ready) : State :=
  let k := coreOf s c
  let worst := k.prefetch.foldl (fun w p => match w with
    | some (q : Ready) => if q.prio ≤ p.prio then some p else some q
    | none => some p) none
  match worst with
  | some w => if runnable s r ∧ 2 ≤ k.prefetch.length ∧ r.prio < w.prio then
      s.modCore c fun k => { k with prefetch := k.prefetch.erase w, lists := w :: k.lists, displaced := sat32 k.displaced }
    else s
  | none => s

/-- make_ready of R168; none where no list has room. -/
def makeReady (n op : Nat) (s : State) : Option State :=
  let h := homeCore s n op
  match if listsFull s h then roomiest s n else some h with
  | none => none
  | some c =>
    if listsFull s c then none
    else
      let r : Ready := { slot := n, op := op, prio := slotPrio s n, at' := s.now }
      let s := (s.modCore c fun k => { k with lists := k.lists ++ [r] }).markHigh c
      some ((s.displace c r).refill c)

/-! ### Tokens (R162, R173, R174) -/

/-- A token reaches its operation: counted, and the operation made ready with its last one; none where it must wait. -/
def acceptToken (k : Token) (s : State) : Option State :=
  match (slotOf s k.slot).exec with
  | none => some s
  | some x =>
    let got := look 0 x.tokens k.op + 1
    let s' := s.modExec k.slot fun x => { x with tokens := put 0 x.tokens k.op got }
    if got < (opEntry s (activeAddr s k.slot) k.op).nPred then some s' else makeReady k.slot k.op s'

/-- The waits of core `d` for room end when no token of its completed operation is left: counted in BP_STALL_NS (R173). -/
def State.endStall (s : State) (d : Nat) : State :=
  if (coreOf s d).stalled.isEmpty then
    s.modCore d fun q => { q with bpStallNs := satAdd 32 q.bpStallNs (nsOf (s.now - q.stalledAt)) }
  else s

/-- The source operations that wait for room become ready as far as there is room, in order (R163, R168). -/
def State.drainSources (s : State) (n : Nat) : State :=
  match (slotOf s n).exec with
  | none => s
  | some x =>
    x.sources.foldl (fun s i => match makeReady n i s with
      | some t => t.modExec n fun x => { x with sources := x.sources.erase i }
      | none => s) s

/-- One pass over the waiting source operations and the heads of the token queues; spilled and stalled tokens enter the room
that appears. -/
def drainPass (s : State) : State :=
  (List.range (graphCores s)).foldl (fun s c =>
    let s := match (coreOf s c).queue with
      | [] => s
      | k :: r => match acceptToken k s with
        | some t => t.modCore c fun q => { q with queue := r }
        | none => s
    if 256 ≤ (coreOf s c).queue.length then s
    else match s.sched.spill.find? (·.1 == c) with
      | some e => (s.modSched fun u => { u with spill := u.spill.erase e }).modCore c fun q => { q with queue := q.queue ++ [e.2] }
      | none =>
        match (List.range (graphCores s)).find? fun d => (coreOf s d).stalled.any (·.1 == c) with
        | some d =>
          match (coreOf s d).stalled.find? (·.1 == c) with
          | some e =>
            ((s.modCore d fun q => { q with stalled := q.stalled.erase e }).modCore c fun q => { q with queue := q.queue ++ [e.2] }).endStall d
          | none => s
        | none => s) ((List.range 4).foldl State.drainSources s)

/-- Tokens and source operations that wait anywhere. -/
def tokensWaiting (s : State) : Nat :=
  s.sched.spill.length + ((s.sched.cores.map fun e => e.2.queue.length + e.2.stalled.length).sum) +
    ((List.range 4).map fun n => match (slotOf s n).exec with | some x => x.sources.length | none => 0).sum

/-- Drains the token queues as far as the ready lists have room. -/
def drain : Nat → State → State
  | 0, s => s
  | fuel + 1, s => if tokensWaiting s = 0 then s else drain fuel (drainPass s)

def State.drainTokens (s : State) : State := drain (2 * tokensWaiting s) s

/-- A token for the queue of core `q` is written to the spill area (R174), unless it is full. The words are the device's own:
their format and place are free (log 4). -/
def State.spillToken (s : State) (q : Nat) (k : Token) : State :=
  let i := s.sched.spill.length
  let s := s.takeFree.2.writeWord (0x01C00000 + 4 * i) s.takeFree.1.toNat
  (s.modSched fun u => { u with spill := u.spill ++ [(q, k)] }).modCore q fun z => { z with spilled := sat32 z.spilled }

/-- The spill area is full: a fault of severity STOP (R174). -/
def State.spillFull (s : State) : State := s.reportOpen 4 34 2

/-- A token leaves a completed operation on core `c` for an operation of slot `n` (R173): behind the spilled tokens of its
queue, into the queue, or it waits on its core. -/
def State.sendToken (s : State) (c n op : Nat) : State :=
  let q := homeCore s n op
  let k : Token := { slot := n, op := op, at' := s.now }
  let wait (s : State) : State := s.modCore c fun z => { z with
    stalled := z.stalled ++ [(q, k)], stalledAt := if z.stalled.isEmpty then s.now else z.stalledAt }
  if s.sched.spill.any (·.1 == q) then
    if s.sched.spill.length < 32768 then s.spillToken q k else wait s.spillFull
  else if (coreOf s q).queue.length < 256 then s.modCore q fun z => { z with queue := z.queue ++ [k] }
  else wait s

/-- The tokens of operation `op` of slot `n` (R162), from core `c`. -/
def State.sendTokens (s : State) (c n op : Nat) : State :=
  let a := activeAddr s n
  ((opSuccs s a (opEntry s a op)).foldl (fun s j => s.sendToken c n j) s).drainTokens

/-! ### The end of an execution (R180–R183; 04 R128, R140) -/

/-- The output words for members take effect in the output frames at once (04 R136, 10 R374). -/
def routNow (values : List (ImgKey × Nat)) (s : State) : State :=
  values.foldl (fun s e => match e.1 with
    | .rout m w => s.modDrove fun d => { d with outWords := put 0 d.outWords (m * 1024 + w) e.2 }
    | .release m => s.modDrove fun d => { d with
        release := if e.2 ≠ 0 then (if m ∈ d.release then d.release else d.release ++ [m]) else d.release.filter (· ≠ m) }
    | _ => s) s

/-- Later values replace earlier ones. -/
def mergeImg (old new : List (ImgKey × Nat)) : List (ImgKey × Nat) := new.foldl (fun l e => setImg l e.1 e.2) old

/-- Answers a GRAPH.STEP that has finished (04 R158): NEXT_OP, RAN, CYCLE. -/
def State.endStep (s : State) (n next ran tag : Nat) : State :=
  (s.modSlot n fun k => { k with stepping := none }).settle (fun d => d.op == .graphStep && d.data.headD 9 == n)
    fun _ => (stOk, [wd next, wd ran, wd tag])

/-- Removes every token, ready entry and prefetch entry of a slot; its running operations send no token (R180). -/
def State.dropWork (s : State) (n : Nat) : State :=
  let stalls := (List.range (graphCores s)).filter fun c => !(coreOf s c).stalled.isEmpty
  let s := s.modSched fun u => { u with
    spill := u.spill.filter fun e => e.2.slot ≠ n
    cores := updAll {} u.cores (List.range (graphCores s)) fun _ k => { k with
      lists := k.lists.filter fun r => r.slot ≠ n
      prefetch := k.prefetch.filter fun r => r.slot ≠ n
      step := k.step.filter fun r => r.slot ≠ n
      queue := k.queue.filter fun r => r.slot ≠ n
      stalled := k.stalled.filter fun e => e.2.slot ≠ n
      running := k.running.map fun r => if r.slot = n then { r with dead := true } else r } }
  ((stalls.foldl State.endStall s).modExec n fun x => { x with sources := [] }).refillAll.drainTokens

/-- The execution of a slot is abandoned (04 R140, R180). -/
def State.abandon (s : State) (n : Nat) : State :=
  match (slotOf s n).exec with
  | none => s
  | some x =>
    let s := s.dropWork n
    let s := match (slotOf s n).stepping with
      | some st => s.endStep n 0xFFFFFFFF st.ran x.tag
      | none => s
    (s.modSlot n fun k => { k with
      exec := none, first := false, moulted := false, resumeGap := 0, abandoned := sat32 k.abandoned, overrunNext := setBit k.overrunNext 2 true
      lastDins := some x.inputs.dins, lastNs := x.inputNs }).recordOpen 3 30 0

/-- Whole device cycles from cycle `a` to cycle `b`. -/
def cyclesBetween (s : State) (a b : Nat) : Nat := (cycDiff b a).toNat / cycleStep s

/-- The last operation of the execution of slot `n` has completed (04 R128, R141; R181–R183). An execution that steps complete
outside RUN makes no request: its values become the slot's last outputs. -/
def State.endExec (s : State) (n : Nat) : State :=
  match (slotOf s n).exec with
  | none => s
  | some x =>
    let now := devCycle s
    let ns := nsOf (s.clock - x.readyAt)
    let longer := hasProgram s n && imgBudget s (activeAddr s n) < ns
    let s := s.modSlotSched n fun k => { k with
      executions := sat32 k.executions, lastExecNs := min ns 0xFFFFFFFF, maxExecNs := max k.maxExecNs (min ns 0xFFFFFFFF)
      budgetExceeded := satAdd 32 k.budgetExceeded (flag longer) }
    let s := if longer ∧ (slotOf s n).budgetCycle ≠ some now then (s.recordOpen 4 32 0).modSlot n fun k => { k with budgetCycle := some now } else s
    let stepped := (slotOf s n).stepping
    let due := if x.late ∨ slotState s n ≠ 1 ∨ cycDiff x.due now < 0 then now else x.due
    let late := if x.late then 1 + place 16 (min 0xFFFF (cyclesBetween s x.due now)) else 0
    let waiting : ImageOut := match (slotOf s n).ready with | some e => e.2 | none => {}
    let s := s.modSlot n fun k => { k with
      exec := none, lastDins := some x.inputs.dins, lastNs := x.inputNs, first := false, moulted := false, resumeGap := 0
      executions := sat32 k.executions, overrunNext := k.overrunNext + late }
    let s := s.modSlot n fun k =>
      if s.dev.mode = .run then
        { k with ready := some (due, { values := mergeImg waiting.values x.out.values, reqs := waiting.reqs ++ x.out.reqs }) }
      else { k with
        ready := k.ready.map fun e => (e.1, { e.2 with values := [] })
        last := mergeImg (mergeImg k.last waiting.values) x.out.values }
    let s := if s.dev.mode = .run ∧ due = now then routNow x.out.values s else s
    match stepped with
    | some st => s.endStep n 0xFFFFFFFF st.ran x.tag
    | none => s

/-- One operation of the execution has ended. -/
def State.countDown (s : State) (n : Nat) : State :=
  match (slotOf s n).exec with
  | none => s
  | some x => let s := s.modExec n fun x => { x with left := x.left - 1 }
              if x.left ≤ 1 then s.endExec n else s

/-! ### GRAPH.STEP (R166; 04 R141) -/

/-- The ready operations of a slot, wherever they stand. -/
def readyOps (s : State) (n : Nat) : List Nat :=
  s.sched.cores.flatMap fun e => ((e.2.lists ++ e.2.prefetch).filter fun r => r.slot == n).map (·.op)

/-- The ready operation with the lowest index. -/
def lowestReady (s : State) (n : Nat) : Option Nat :=
  (readyOps s n).foldl (fun m i => match m with | some j => some (min i j) | none => some i) none

/-- An operation of the slot runs, or waits for its core. -/
def slotBusy (s : State) (n : Nat) : Bool :=
  s.sched.cores.any fun e => (match e.2.running with | some r => r.slot == n && !r.dead | none => false) ||
    e.2.step.any fun r => r.slot == n

/-- The reply to a step whose execution goes on: NEXT_OP is the ready operation with the lowest index; where none is ready the
spec states none (log 4). -/
def State.pauseStep (s : State) (n ran tag : Nat) : State :=
  match lowestReady s n with
  | some i => s.endStep n i ran tag
  | none => s.takeFree.2.endStep n s.takeFree.1.toNat ran tag

/-- Dispatches the next operation of a step, on the core that placement would choose (R166, R168), or ends the step (04 R141). A
slot that is no longer HELD is not stepped any further, and the step is answered (DESIGN CHOICE, log 60). -/
def State.stepOn (s : State) (n : Nat) : State :=
  match (slotOf s n).stepping, (slotOf s n).exec with
  | some st, some x =>
    if slotState s n ≠ 2 then s.pauseStep n st.ran x.tag
    else if slotBusy s n then s
    else if !st.period && st.left == 0 then s.pauseStep n st.ran x.tag
    else match lowestReady s n with
      | none => s
      | some i =>
        let h := homeCore s n i
        let c := if listsFull s h then (roomiest s n).getD h else h
        let s := s.modSched fun u => { u with
          cores := updAll {} u.cores (List.range (graphCores s)) fun _ k => { k with
            lists := k.lists.filter fun r => !(r.slot == n && r.op == i)
            prefetch := k.prefetch.filter fun r => !(r.slot == n && r.op == i) } }
        (s.modCore c fun k => { k with step := k.step ++ [{ slot := n, op := i, prio := slotPrio s n, at' := s.now }] }).drainTokens
  | some st, none => if slotState s n ≠ 2 then s.endStep n 0xFFFFFFFF st.ran (devCycle s) else s
  | none, _ => s

/-- A stepped operation has run. -/
def State.stepDone (s : State) (n : Nat) : State :=
  (s.modSlot n fun k => { k with stepping := k.stepping.map fun st => { st with ran := st.ran + 1, left := st.left - 1 } })

/-! ### Delays (R175–R179) -/

/-- The delay of operation `op` of slot `n` ends: at its tick, or cancelled. Its successors then get their tokens. -/
def State.endDelay (s : State) (c n op tick : Nat) (cancelled : Bool) : State :=
  match (slotOf s n).exec with
  | none => s
  | some x =>
    let k := opAt s n op
    let s := s.modExec n fun x => { x with delays := x.delays.filter fun d => d.op ≠ op }
    if (List.range k.e.nOut).any fun j => (j ≠ 0 ∨ !cancelled) && (let v := k.output s j; writeFails s v.1 v.2) then
      s.modExec n fun x => { x with failed := true }
    else
      let s := if cancelled then
          ((s.setOutput k 1 1).modSlotSched n fun q => { q with cancelled := sat32 q.cancelled }).modSlot n fun q =>
            { q with overrunNext := setBit q.overrunNext 3 true }
        else (s.setOutput k 0 (enc 32 ((((tick * 1000 : Nat) : Int) - x.inputNs) / 1000))).setOutput k 1 0
      ((s.sendTokens c n op).countDown n).stepOn n

/-- Inserts by tick, behind the entries of the same tick (R175). -/
def insertDelay (d : DelayEntry) : List DelayEntry → List DelayEntry
  | [] => [d]
  | e :: r => if d.tick < e.tick then d :: e :: r else e :: insertDelay d r

/-- A held slot has no shed point (R179). -/
def sheds (s : State) (n : Nat) : Bool := slotState s n == 1

/-- The start of the device cycle in progress, in clocks. -/
def cycleStartClock (s : State) : Nat := let l := clocksOfUs (max 1 (lDev s)); s.clock / l * l

/-- The shed point of an execution of slot `n`, in µs of ring time: SHED_US, as it is now, before the commit point of the cycle in
which the execution is due (R177). -/
def shedTick (s : State) (n : Nat) (x : Exec) : Nat :=
  let away : Int := cycDiff x.due (devCycle s) / cycleStep s
  ((usOf (cycleStartClock s) : Int) + (away + 1) * lDev s - 2 - (schedOf s n).shedUs).toNat

/-- DELAY or AT_OFFSET has run on core `c` (R176–R178). -/
def startDelay (c n op : Nat) (s : State) : State :=
  match (slotOf s n).exec with
  | none => s
  | some x =>
    let k := opAt s n op
    let v := if k.e.nIn = 1 then (k.input s 0).1 else k.e.param
    let done := nsOf s.clock
    let tick := if k.o = .delay then (done + v * 1000 + 999) / 1000 else x.inputNs / 1000 + v
    if 1024 ≤ x.delays.length then
      (s.modSlotSched n fun q => { q with delayFull := sat32 q.delayFull }).endDelay c n op tick true
    else if sheds s n ∧ shedTick s n x < tick then s.endDelay c n op tick true
    else if tick * 1000 ≤ done then s.endDelay c n op tick (sheds s n && shedTick s n x ≤ tick)
    else s.modExec n fun x => { x with delays := insertDelay { op := op, tick := tick } x.delays }

/-- DELAY_RELEASE (R176, R178, R179): the entries whose tick has come. -/
def delayRelease (n : Nat) (s : State) : State :=
  match (slotOf s n).exec with
  | none => s
  | some x =>
    let us := usOf s.clock
    (x.delays.filter fun d => d.tick ≤ us).foldl (fun s d =>
      s.endDelay (homeCore s n d.op) n d.op d.tick (sheds s n && shedTick s n x ≤ d.tick)) s

def execDelayRelease (n t : Nat) (s : State) : Host.Outcome State Fault Refusal := event (n < 4) t (delayRelease n) s

/-- SHED (R177): at the shed tick every remaining entry is cancelled. -/
def shed (n : Nat) (s : State) : State :=
  match (slotOf s n).exec with
  | none => s
  | some x =>
    if ¬ sheds s n ∨ usOf s.clock < shedTick s n x then s
    else x.delays.foldl (fun s d => s.endDelay (homeCore s n d.op) n d.op d.tick true) s

def execShed (n t : Nat) (s : State) : Host.Outcome State Fault Refusal := event (n < 4) t (shed n) s

/-! ### Operations on cores (R165, R169, R171; 04 R128) -/

/-- An operation begins on core `c`. -/
def State.beginOp (s : State) (c : Nat) (r : Ready) (miss : Bool) (stepped : Bool := false) : State :=
  let s := s.modCore c fun k => { k with
    running := some { slot := r.slot, op := r.op, startedAt := s.now, stepped := stepped }, misses := satAdd 32 k.misses (flag miss) }
  let s := s.modSlotSched r.slot fun k => { k with homes := put 0 k.homes r.op (c + 1) }
  match (slotOf s r.slot).exec with
  | none => s
  | some x =>
    let k := opAt s r.slot r.op
    let setRun (s : State) (f : Running → Running) : State := s.modCore c fun q => { q with running := q.running.map f }
    if k.fails s then (setRun s fun q => { q with dead := true }).modExec r.slot fun x => { x with failed := true }
    else match k.o with
      | .ainUrgent =>
        let input := if k.e.nIn = 1 then (k.input s 0).1 else k.e.param
        let s := setRun s fun q => { q with urgent := true }
        if input < 128 then requestUrgent { input := input, byOp := some (r.slot, r.op) } s
        -- an input number that no converter has: the request has no conversion and counts as dropped (log 59)
        else s.modAdc fun a => { a with urgentDone := a.urgentDone ++ [(r.slot, r.op, true)] }
      | .acqPublish =>
        if userRoom s then publishUser k.e.param (k.input s 0).1 s
        else setRun s fun q => { q with publishing := some ((k.input s 0).1, s.now) }
      | _ => runOp s k x

/-- OPERATION_START: a free core starts the operation of a step, or its prefetch slot 0 (R165, R166, R171). -/
def operationStart (c : Nat) (miss : Bool) (s : State) : State :=
  let s := s.refill c
  let k := coreOf s c
  if k.running.isSome ∨ ¬ k.stalled.isEmpty then s
  else match k.step, k.prefetch with
    | r :: rest, _ => (s.modCore c fun k => { k with step := rest }).beginOp c r miss true
    | [], r :: rest => ((s.modCore c fun k => { k with prefetch := rest }).refill c).beginOp c r miss
    | [], [] => s

def execOperationStart (c : Nat) (miss : Bool) (t : Nat) (s : State) : Host.Outcome State Fault Refusal :=
  event (c < graphCores s) t (operationStart c miss) s

/-- The operation that core `c` runs has ended: its tokens leave (R162). -/
def State.endOp (s : State) (c : Nat) (r : Running) : State :=
  let s := s.modCore c fun k => { k with
    running := none, opsRun := sat32 k.opsRun, busyNs := satAdd 64 k.busyNs (nsOf (s.now - r.startedAt)) }
  if r.dead then (s.refill c).stepOn r.slot
  else
    let s := if r.stepped then s.stepDone r.slot else s
    let s := match (opAt s r.slot r.op).o with
      | .delay | .atOffset => startDelay c r.slot r.op s
      | _ => (s.sendTokens c r.slot r.op).countDown r.slot
    (s.refill c).stepOn r.slot

/-- OPERATION_COMPLETE (R162, R173): an ACQ_PUBLISH that waits for room completes when it appears (09 R310). -/
def operationComplete (c : Nat) (s : State) : State :=
  match (coreOf s c).running with
  | none => s
  | some r =>
    if r.urgent then s
    else match r.publishing with
      | some (v, since) =>
        if ¬ userRoom s then s
        else
          let s := if r.dead then s else publishUser (opAt s r.slot r.op).e.param v s
          (s.modCore c fun k => { k with bpStallNs := satAdd 32 k.bpStallNs (nsOf (s.now - since)) }).endOp c r
      | none => s.endOp c r

def execOperationComplete (c t : Nat) (s : State) : Host.Outcome State Fault Refusal :=
  event (c < graphCores s) t (operationComplete c) s

/-- URGENT_COMPLETE (08 R277): the conversion of the AIN_URGENT on core `c` has completed, or its request was dropped. -/
def urgentComplete (c : Nat) (s : State) : State :=
  match (coreOf s c).running with
  | none => s
  | some r =>
    match s.adc.urgentDone.find? fun d => d.1 == r.slot && d.2.1 == r.op with
    | none => s
    | some d =>
      if ¬ r.urgent then s
      else
        let s := s.modAdc fun a => { a with urgentDone := a.urgentDone.erase d }
        let k := opAt s r.slot r.op
        let input := if k.e.nIn = 1 then (k.input s 0).1 else k.e.param
        let s := if r.dead then s
          else if d.2.2 then s.setOutput k 1 1
          else (s.setOutput k 0 (ainValue k.e.type s.adc.convs input (resultOf s input))).setOutput k 1 0
        s.endOp c r

def execUrgentComplete (c t : Nat) (s : State) : Host.Outcome State Fault Refusal :=
  event (c < graphCores s) t (urgentComplete c) s

/-- The entry that core `c` may take from list (d, p) (R169). -/
def takeFrom (s : State) (c p d : Nat) : Option Ready :=
  let l := (coreOf s d).lists.filter fun r => r.prio == p
  match l.find? fun r => runnable s r && (allowedCores s r.slot).contains c with
  | some r => if s.sched.stealMin ≤ l.length ∨ s.sched.affWaitNs ≤ nsOf (s.now - r.at') then some r else none
  | none => none

/-- Inserts before the first entry of smaller load. -/
def insertLoad (load : Nat → Nat) (d : Nat) : List Nat → List Nat
  | [] => [d]
  | e :: r => if load e < load d then d :: e :: r else e :: insertLoad load d r

/-- The other cores by occupancy of their list of priority `p`, most occupied first, the lowest of equals first. -/
def coresByLoad (s : State) (c p : Nat) : List Nat :=
  let load (d : Nat) : Nat := ((coreOf s d).lists.filter fun r => r.prio == p).length
  ((List.range (graphCores s)).filter (· ≠ c)).foldl (fun l d => insertLoad load d l) []

/-- TAKE (R169): an idle core takes an entry of another core's list. -/
def take (c : Nat) (s : State) : State :=
  let s := s.refill c
  let k := coreOf s c
  if k.running.isSome ∨ ¬ k.step.isEmpty ∨ ¬ k.prefetch.isEmpty then s
  else
    let found := (List.range 8).findSome? fun p => (coresByLoad s c p).findSome? fun d => (takeFrom s c p d).map fun r => (d, r)
    match found with
    | none => s
    | some (d, r) =>
      let s := s.modCore d fun k => { k with lists := k.lists.erase r, given := sat32 k.given }
      let s := s.modCore c fun k => { k with prefetch := [r], taken := sat32 k.taken }
      (s.modSlotSched r.slot fun k => { k with homes := put 0 k.homes r.op (c + 1) }).drainTokens

def execTake (c t : Nat) (s : State) : Host.Outcome State Fault Refusal := event (c < graphCores s) t (take c) s

/-- TOKEN_SPILL (R174): a token that has waited BP_SPILL_NS for room in the queue of core `c` is written to the spill
area; the tokens behind it follow. -/
def tokenSpill (c : Nat) (s : State) : State :=
  let waits : List (Nat × Nat × Token) := (List.range (graphCores s)).flatMap fun d =>
    ((coreOf s d).stalled.filter fun e => e.1 == c).map fun e => (d, e)
  if ¬ waits.any fun e => s.sched.spillNs ≤ nsOf (s.now - e.2.2.at') then s
  else waits.foldl (fun s e =>
    if 32768 ≤ s.sched.spill.length then s.spillFull
    else ((s.spillToken c e.2.2).modCore e.1 fun k => { k with stalled := k.stalled.erase e.2 }).endStall e.1) s

def execTokenSpill (c t : Nat) (s : State) : Host.Outcome State Fault Refusal := event (c < graphCores s) t (tokenSpill c) s

/-! ### Periods (R163, R181; 04 R137) -/

/-- The input-ready point of the cycle in progress (01 R45): 2 µs after the input instant, and not before the schedule's
input-ready instant where the down-ring exchanges data in this cycle. -/
def inputReadyClock (s : State) : Nat :=
  let own := cycleStartClock s + clocksOfUs (inOffset s + 2)
  if s.drove.cfg.downEn ∧ s.drove.downStarted ∧ ringCycleNo s true = devCycle s then
    max own (cycleStartClock s + inputReadyClocks (modeInForce s true))
  else own

/-- An execution of slot `n` begins: its sources become ready (R163). -/
def State.beginExec (s : State) (n : Nat) : State :=
  let a := activeAddr s n
  let p := imgPeriod s a
  let k := devCycle s
  let s := s.modSlot n fun q => { q with overrun := q.overrunNext, overrunNext := 0 }
  let x : Exec := {
    tag := k, due := cycleAfter s k (p - 1), inputNs := inputTime s, readyAt := inputReadyClock s, inputs := inputsNow s k
    sys := sysValues s n, prevDins := (slotOf s n).lastDins, prevNs := (slotOf s n).lastNs, left := imgOps s a }
  s.modSlot n fun q => { q with exec := some x }

/-- The source operations of an execution are released (01 R45); those without room on a ready list wait for it. -/
def State.releaseSources (s : State) (n : Nat) : State :=
  let a := activeAddr s n
  (s.modExec n fun x => { x with
    release := none, sources := (List.range (imgOps s a)).filter fun i => (opEntry s a i).nPred == 0 }).drainSources n

/-- The executions whose input-ready point has come late (01 R45). -/
def releaseLate (s : State) : State :=
  ((List.range 4).filter fun n => match (slotOf s n).exec with
    | some x => (match x.release with | some t => decide (t ≤ s.clock) | none => false)
    | none => false).foldl State.releaseSources s

/-- A period of slot `n` is due in cycle `k` (04 R137). -/
def periodDue (s : State) (n k : Nat) : Bool :=
  slotState s n == 1 && hasProgram s n &&
  (match (slotOf s n).origin with
    | some x => 0 ≤ cycDiff k x && cyclesBetween s x k % max 1 (imgPeriod s (activeAddr s n)) == 0
    | none => false)

/-- The period of slot `n` that is due: its execution begins, or the period is skipped (R181). -/
def State.period (s : State) (n : Nat) : State :=
  if (slotOf s n).exec.isNone then (s.beginExec n).releaseSources n
  else
    (s.modSlotSched n fun k => { k with skipped := sat32 k.skipped }).modSlot n fun k =>
      let c := min 255 (field k.overrunNext 8 8 + 1)
      { k with overrunNext := setBit (k.overrunNext - place 8 (field k.overrunNext 8 8) + place 8 c) 1 true }

/-- The periods of cycle `k` whose input-ready point has not come by its commit point: their executions begin, their source
operations still waiting, and overrun (01 R45). -/
def beginLate (k : Nat) (s : State) : State :=
  if s.graph.readyCycle = some k then s
  else ((List.range 4).filter fun n => periodDue s n k).foldl (fun s n =>
    if (slotOf s n).exec.isSome then s.period n
    else (s.beginExec n).modExec n fun x => { x with release := some (inputReadyClock s) }) s

/-- The origin of a slot's periods moves on with each of them, so that it stays within reach of cyc_diff (04 R137, 01 R35). -/
def originsAtStart (k : Nat) (s : State) : State :=
  (List.range 4).foldl (fun s n => match (slotOf s n).origin with
    | some x =>
      if hasProgram s n ∧ 0 ≤ cycDiff k x ∧ cyclesBetween s x k % max 1 (imgPeriod s (activeAddr s n)) = 0 then
        s.modSlot n fun q => { q with origin := some k }
      else s
    | none => s) s

/-! ### The commit point (01 R23; R180, R181; 04 R128, R140) -/

/-- A program due to complete in cycle `k` has not completed (01 R23). -/
def programsLate (s : State) (k : Nat) : Bool :=
  (List.range 4).any fun n => slotState s n == 1 &&
    (match (slotOf s n).exec with | some x => decide (cycDiff x.due k ≤ 0) | none => false)

/-- The slot stops or moults at the next cycle start, as far as its commit point knows (04 R139, R140). -/
def stopsNext (s : State) (n : Nat) : Bool :=
  let x := cycleAfter s (devCycle s) 1
  let disables (p : Packet) : Bool := field (p.w 0) 0 2 == n && field (p.w 0) 2 3 == 1
  let leavesRun (p : Packet) : Bool := field (p.w 0) 0 3 != 2 && field (p.w 0) 0 3 != 3
  s.dev.stopPending ||
  (match s.dev.modeRequest with | some .run => false | some .hold => false | some _ => true | none => false) ||
  s.host.deferred.any (fun d => d.op == .graphControl && disables d.packet) ||
  s.host.timed.any (fun d => d.cycle == x && ((d.op == .graphControl && disables d.packet) || (d.op == .devSetMode && leavesRun d.packet))) ||
  (match s.cyc.changeover with
    | some c => c.catchUp.getD c.cycle == x && !c.swapped && c.graph && c.outcome == some true && (armedSlots s).contains n
    | none => false)

/-- Executions in progress at the commit point of cycle `k`: abandoned, or late. -/
def lateSlot (k : Nat) (s : State) (n : Nat) : State :=
  match (slotOf s n).exec with
  | none => s
  | some x =>
    let overruns := slotState s n == 1 && decide (cycDiff x.due k ≤ 0)
    let s := if overruns then (s.modSlotSched n fun q => { q with overruns := sat32 q.overruns }).recordOpen 4 31 0 else s
    if x.failed ∨ slotState s n = 0 ∨ stopsNext s n ∨ (overruns ∧ (schedOf s n).abandonPolicy) then s.abandon n
    else if overruns then s.modExec n fun x => { x with late := true }
    else s

/-- The executions that have not completed at the commit point of cycle `k`. -/
def schedCommit (k : Nat) (s : State) : State := (List.range 4).foldl (lateSlot k) s

/-- The output image of cycle `k`, formed at its commit point: the values of each slot's latest completed execution that is
due, and the requests of the executions due in `k` (04 R128). Slots follow in order, the later one standing (log 61). -/
def formImage (k : Nat) (s : State) : State :=
  let due (n : Nat) : Option ImageOut := match (slotOf s n).ready with
    | some (c, o) => if cycDiff c k ≤ 0 then some o else none
    | none => none
  let reqs := (List.range 4).flatMap fun n => match due n with | some o => o.reqs | none => []
  let s := (List.range 4).foldl (fun s n => match due n with
    | some o => s.modSlot n fun q => { q with ready := none, last := mergeImg q.last o.values }
    | none => s) s
  let values := (List.range 4).foldl (fun l n => mergeImg l (slotOf s n).last) []
  s.modGraph fun g => { g with image := { values := values, reqs := reqs } }

/-- The output words of executions that are due in the cycle that begins (04 R128, R136). -/
def routDue (k : Nat) (s : State) : State :=
  (List.range 4).foldl (fun s n => match (slotOf s n).ready with
    | some (c, o) => if c = k then routNow o.values s else s
    | none => s) s

end Sys2Proof.Machine
end

