-- ==== Sys2Proof/Machine/GraphCmd.lean ====
section
/-! DEFINITION. The GRAPH and SCHED commands (04 R153–R161, 05 R184–R188), what they leave to a cycle start, an
input-ready point or a commit point, and the reference check of programs (03 R93). -/

namespace Sys2Proof.Machine

/-- Parameter word 0 of the commands that name a slot and a bank. -/
def slotArg (p : Packet) : Nat := field (p.w 0) 0 2
def bankArg (p : Packet) : Bool := bit (p.w 0) 2

/-! ### Loading and arming (R144, R150–R156) -/

/-- The active bank of a slot is reloaded: its standby must be verified again (R144, R151). -/
def State.unverifyStandby (s : State) (n : Nat) : State :=
  let b := !(slotOf s n).activeB
  let st := (standbyBank s n).state
  if st = .verified ∨ st = .armed ∨ st = .previous then
    ((s.forgetBank n b).modBank n b fun k => { k with state := .loaded }).freeShared
  else s

/-- GRAPH.LOAD with FIRST clears the bank (R144): its words of variable space become free. -/
def State.clearBank (s : State) (n : Nat) (b : Bool) : State :=
  let a := bankAddr n b
  let s := ((s.forgetBank n b).modBank n b fun k => { k with state := .loaded, length := 0 }).freeShared
  s.modMem fun m => { m with store := clearRange a (a + 0x200000) m.store }

/-- GRAPH.LOAD (R144, R151, R154). -/
def cmdGraphLoad (p : Packet) (s : State) : State × Verdict :=
  let n := slotArg p; let b := bankArg p; let first := bit (p.w 0) 3
  let off := field (p.w 1) 0 19; let count := p.len - 2
  let k := (slotOf s n).bank b
  let active := b == (slotOf s n).activeB
  let needsFirst := k.state == .empty || k.state == .previous || k.state == .active
  let armed := k.state == .armed || k.state == .armedBack
  checked
    [(p.len < 3, stBadLength),
     (reservedSet (p.w 0) 0xFFFFFFF0 || reservedSet (p.w 1) 0xFFF80000 || 524288 < off + count || (needsFirst && !first), stRange),
     (armed || (active && slotState s n != 0), stGrBankBusy),
     (active && (notConfiguring s || changeoverPending s), stBadMode)] s
    (let s := if first then s.clearBank n b
       else if k.state = .verified then ((s.forgetBank n b).modBank n b fun k => { k with state := .loaded }).freeShared else s
     let s := if active then s.unverifyStandby n else s
     let a := bankAddr n b + 4 * off
     let s := s.writeWords a (p.params.drop 2)
     (s.modBank n b fun k => { k with length := max k.length (off + count) }, .done stOk []))

def execGraphLoad (p : Packet) (s : State) : Host.Outcome State Fault Refusal := command .graphLoad cmdGraphLoad p s

/-- GRAPH.VERIFY (R145, R155): it runs on the service cores and is answered at COMMAND_COMPLETE. -/
def cmdGraphVerify (p : Packet) (s : State) : State × Verdict :=
  let n := slotArg p; let b := bankArg p
  let k := (slotOf s n).bank b
  checked
    [(p.len ≠ 1, stBadLength), (reservedSet (p.w 0) 0xFFFFFFF8 || (k.state != .loaded && k.state != .verified), stRange),
     (b != (slotOf s n).activeB && (activeBank s n).state == .loaded, stGrNotVerified)] s
    (s.defer .graphVerify p)

def execGraphVerify (p : Packet) (s : State) : Host.Outcome State Fault Refusal := command .graphVerify cmdGraphVerify p s

/-- The end of a GRAPH.VERIFY (R145). -/
def verifyFinish (d : Deferred) (s : State) : State × Nat × List Word := graphVerify (slotArg d.packet) (bankArg d.packet) s

/-- The GEN of the standby image is newer than that of the active bank (R150). -/
def genNewer (s : State) (n : Nat) : Bool :=
  let b := (slotOf s n).activeB
  (activeBank s n).state == .empty || 0 < signed 16 (imgGen s (bankAddr n (!b)) + 2 ^ 16 - imgGen s (bankAddr n b))

/-- GRAPH.ARM (R150, R156). -/
def cmdGraphArm (p : Packet) (s : State) : State × Verdict :=
  let n := slotArg p
  checked
    [(p.len ≠ 1, stBadLength), (reservedSet (p.w 0) 0xFFFFFFFC, stRange), (changeoverPending s, stBusy),
     ((standbyBank s n).state != .verified, stGrNotVerified), (!genNewer s n, stGrGenOld)] s
    (s.modBank n (!(slotOf s n).activeB) fun k => { k with state := .armed }, .done stOk [])

def execGraphArm (p : Packet) (s : State) : Host.Outcome State Fault Refusal := command .graphArm cmdGraphArm p s

/-- GRAPH.DISARM (R144, R156). -/
def cmdGraphDisarm (p : Packet) (s : State) : State × Verdict :=
  let n := slotArg p; let st := (standbyBank s n).state
  checked
    [(p.len ≠ 1, stBadLength), (reservedSet (p.w 0) 0xFFFFFFFC, stRange), (changeoverPending s, stBusy),
     (st != .armed && st != .armedBack, stGrNoPrevious)] s
    (s.modBank n (!(slotOf s n).activeB) fun k => { k with state := if st = .armed then .verified else .previous }, .done stOk [])

def execGraphDisarm (p : Packet) (s : State) : Host.Outcome State Fault Refusal := command .graphDisarm cmdGraphDisarm p s

/-- The reply words of GRAPH.ROLLBACK: those of GRAPH.VERIFY for the reverse plan (R152, R156). -/
def rollbackWords (s : State) (n : Nat) : List Word :=
  let k := standbyBank s n
  let here := activeBank s n
  let a := bankAddr n (!(slotOf s n).activeB)
  let own (b : Nat) : Bool := !s.graph.shared.any (·.base == b)
  let same := (k.bases.filter fun b => own b && here.bases.contains b).length
  let left := (here.bases.filter fun b => own b && !k.bases.contains b && !k.plan.any (·.src == b)).length
  verifyWords s n (!(slotOf s n).activeB)
    { inPlace := same, converted := (k.plan.map (·.copies)).sum
      initialised := (k.plan.filter fun c => c.copies < c.dstCount).length }
    left (forcesToDrop s n (!(slotOf s n).activeB)) 0 |>.set 0 (wd (imgGen s a))

/-- GRAPH.ROLLBACK (R152, R156). -/
def cmdGraphRollback (p : Packet) (s : State) : State × Verdict :=
  let n := slotArg p
  checked
    [(p.len ≠ 1, stBadLength), (reservedSet (p.w 0) 0xFFFFFFFC, stRange), (changeoverPending s, stBusy),
     ((standbyBank s n).state != .previous, stGrNoPrevious),
     (1024 < ((standbyBank s n).plan.map (·.copies)).sum, stGrCarry)] s
    (s.modBank n (!(slotOf s n).activeB) fun k => { k with state := .armedBack }, .done stOk (rollbackWords s n))

def execGraphRollback (p : Packet) (s : State) : Host.Outcome State Fault Refusal := command .graphRollback cmdGraphRollback p s

/-! ### GRAPH.CONTROL (R137–R140, R157) -/

/-- An execution that goes on is due in the cycle in progress (05 R179). -/
def State.continueExec (s : State) (n : Nat) : State := s.modExec n fun x => { x with due := devCycle s }

/-- INIT: the variables of the active bank take their initial values, shared ones apart (R138). -/
def State.initVars (s : State) (n : Nat) : State :=
  if !hasProgram s n then s
  else (List.range (imgVars s (activeAddr s n))).foldl (fun s i =>
    if (varEntry s (activeAddr s n) i).isShared then s
    else s.initVar n (slotOf s n).activeB i ((activeBank s n).bases.getD i 0) 0) s

/-- The effect of an ACTION in cycle `k`, with its status. -/
def slotControl (n action k : Nat) (s : State) : State × Nat :=
  match action with
  | 0 =>
    if (activeBank s n).state ≠ .active then (s, stGrNotVerified)
    else if (slotOf s n).enabled then (s, stOk)
    else (s.modSlot n fun q => { q with enabled := true, first := true, origin := some k }, stOk)
  | 1 => (s.modSlot n fun q => { q with enabled := false, origin := none }, stOk)
  | 2 => ((s.modSlot n fun q => { q with held := true }).refillAll, stOk)
  | 3 =>
    if ¬ (slotOf s n).held then (s, stOk)
    else
      let t := s.modSlot n fun q => { q with held := false }
      (if slotState t n = 1 then ((t.continueExec n).refillAll.stepOn n, stOk) else (t, stOk))
  | _ => if slotState s n ≠ 0 then (s, stBadMode) else (s.initVars n, stOk)

/-- The reply word of GRAPH.CONTROL. -/
def controlWords (s : State) (n : Nat) : List Word := [wd (slotState s n + place 2 (flag (slotOf s n).enabled))]

/-- GRAPH.CONTROL (R157): at its cycle, or at the start of the next one. Without a control cycle it acts at once
(DESIGN CHOICE, log 60). -/
def cmdGraphControl (p : Packet) (s : State) : State × Verdict :=
  let n := slotArg p; let action := field (p.w 0) 2 3
  checked
    [(p.len ≠ 1, stBadLength), (reservedSet (p.w 0) 0xFFFFFFE0 || 4 < action, stRange),
     (action == 4 && slotState s n != 0, stBadMode), (action == 0 && (activeBank s n).state != .active, stGrNotVerified)] s
    (if p.atCycle.isNone ∧ hasCycle s then s.defer .graphControl p
     else
       let r := slotControl n action (devCycle s) s
       (r.1, .done r.2 (if r.2 = stOk then controlWords r.1 n else [])))

def execGraphControl (p : Packet) (s : State) : Host.Outcome State Fault Refusal := command .graphControl cmdGraphControl p s

/-- The GRAPH.CONTROL commands that take effect at the start of cycle `k`, in order of acceptance. -/
def controlsAtStart (k : Nat) (s : State) : State :=
  let sel := s.host.deferred.filter fun d => d.op == .graphControl
  let s := s.modHost fun h => { h with deferred := h.deferred.filter fun d => !(d.op == .graphControl) }
  sel.foldl (fun s d =>
    let n := slotArg d.packet
    let r := slotControl n (field (d.packet.w 0) 2 3) k s
    r.1.answer d.op d.packet r.2 (if r.2 = stOk then controlWords r.1 n else [])) s

/-! ### GRAPH.STEP (R141, R158) -/

/-- The inputs of the device cycle in progress are complete (01 R45). -/
def inputsReady (s : State) : Bool := s.graph.readyCycle == some (devCycle s)

/-- A step that finds no execution in progress begins one (R141). -/
def State.beginStep (s : State) (n : Nat) : State := ((s.beginExec n).releaseSources n).stepOn n

/-- GRAPH.STEP: a step that finds no execution begins one on the inputs of its cycle, at the earliest at the input-ready point
at which they are complete. A second step on a slot that is being stepped finds it busy (DESIGN CHOICE, log 60). -/
def cmdGraphStep (p : Packet) (s : State) : State × Verdict :=
  let n := slotArg p; let period := bit (p.w 0) 2; let count := field (p.w 1) 0 16
  checked
    [(p.len ≠ 2, stBadLength),
     (reservedSet (p.w 0) 0xFFFFFFF8 || reservedSet (p.w 1) 0xFFFF0000 || (count == 0) != period, stRange),
     (slotState s n != 2, stGrNotHeld), ((slotOf s n).stepping.isSome, stBusy)] s
    (let t := ((s.modSlot n fun k => { k with stepping := some { period := period, left := count } }).defer .graphStep p [n]).1
     (if (slotOf s n).exec.isSome then t.stepOn n
      else if ¬ hasProgram s n then t.endStep n 0xFFFFFFFF 0 (devCycle s)
      else if inputsReady s then t.beginStep n else t, .waits))

def execGraphStep (p : Packet) (s : State) : Host.Outcome State Fault Refusal := command .graphStep cmdGraphStep p s

/-! ### Forces and variables (R142, R159, R160) -/

/-- A value that a type admits, from its low and high words. -/
def valueBad (ty lo hi : Nat) : Bool := (ty == 0 && 1 < lo) || (ty < 4 && hi != 0)

/-- GRAPH.FORCE (R142, R159). -/
def cmdGraphForce (p : Packet) (s : State) : State × Verdict :=
  let action := field (p.w 0) 0 2; let n := field (p.w 0) 2 2
  let id := p.w 1; let elem := field (p.w 2) 0 10
  let len := match action with | 0 => 5 | 1 => 3 | _ => 1
  let var := forceVar s n id
  let v : VarLoc := var.getD { id := 0, type := 0, count := 0, stateOp := 0xFF, base := 0, slot := none }
  let named := action < 2
  let isThis (f : Force) : Bool := f.slot == v.slot && f.id == id && f.elem == elem
  checked
    [(p.len ≠ len, stBadLength),
     (reservedSet (p.w 0) 0xFFFFFFF0 || (named && reservedSet (p.w 2) 0xFFFFFC00), stRange),
     (named && var.isNone, stGrNoVar),
     ((named && v.count ≤ elem) || (action == 0 && valueBad v.type (p.w 3) (p.w 4)), stRange),
     (action == 0 && v.isState, stGrStateVar),
     (action == 0 && 256 ≤ s.graph.forces.length && !s.graph.forces.any isThis, stGrForceFull)] s
    (match action with
     | 0 =>
       let f : Force := { slot := v.slot, id := id, elem := elem, value := p.w 3 + (if 4 ≤ v.type then place 32 (p.w 4) else 0) }
       (s.modGraph fun g => { g with forces := g.forces.filter (fun e => !isThis e) ++ [f] }, .done stOk [])
     | 1 => (s.modGraph fun g => { g with forces := g.forces.filter fun e => !isThis e }, .done stOk [])
     | 2 => (s.modGraph fun g => { g with forces := g.forces.filter fun e => e.slot.isSome && e.slot != some n }, .done stOk [])
     | _ => (s, .done stOk (wd s.graph.forces.length :: s.graph.forces.flatMap fun f =>
         [wd (f.slot.getD 0 + place 16 f.elem), wd f.id] ++ wd2 f.value)))

def execGraphForce (p : Packet) (s : State) : Host.Outcome State Fault Refusal := command .graphForce cmdGraphForce p s

/-- FIRST and COUNT of a variable command. -/
def varFirst (p : Packet) : Nat := field (p.w 2) 0 10
def varCount (p : Packet) : Nat := field (p.w 2) 10 11

/-- The slot has no execution in progress; a stopped or held slot has none (R160). -/
def slotIdle (s : State) (n : Nat) : Bool := (slotOf s n).exec.isNone || slotState s n != 1

/-- The values that GRAPH.VAR_READ returns now, with its status. -/
def readVars (p : Packet) (s : State) : Nat × List Word :=
  match findVar s (slotArg p) (p.w 1) with
  | none => (stGrNoVar, [])
  | some v =>
    let raw := bit (p.w 0) 2
    let es := (List.range (varCount p)).map (varFirst p + ·)
    if v.count < varFirst p + varCount p then (stRange, [])
    else if es.any fun e => readFails s v e && (raw || (forceOn s v e).isNone) then (stFault, [])
    else
      let value (e : Nat) : Nat := if raw then storedValue s v e else varValue s v e
      (stOk, wd (v.type + place 3 (flag (es.any fun e => (forceOn s v e).isSome))) :: es.flatMap fun e => valueWords v.type (value e))

/-- GRAPH.VAR_READ (R160): answered at the first commit point at which the slot has no execution in progress. -/
def cmdGraphVarRead (p : Packet) (s : State) : State × Verdict :=
  let n := slotArg p
  let var := findVar s n (p.w 1)
  checked
    [(p.len ≠ 3, stBadLength),
     (reservedSet (p.w 0) 0xFFFFFFF8 || reservedSet (p.w 2) 0xFFE00000 || varCount p == 0 || 1024 < varCount p, stRange),
     (var.isNone, stGrNoVar),
     ((match var with | some v => decide (v.count < varFirst p + varCount p) | none => false), stRange)] s
    (if hasCycle s then s.defer .graphVarRead p else let r := readVars p s; (s, .done r.1 r.2))

def execGraphVarRead (p : Packet) (s : State) : Host.Outcome State Fault Refusal := command .graphVarRead cmdGraphVarRead p s

/-- The GRAPH.VAR_READ commands that are answered at this commit point. -/
def varReads (s : State) : State :=
  let now := s
  s.settle (fun d => d.op == .graphVarRead && slotIdle now (slotArg d.packet)) fun d => readVars d.packet now

/-- The value of element `i` of a GRAPH.VAR_WRITE. -/
def writtenValue (p : Packet) (ty i : Nat) : Nat :=
  if 4 ≤ ty then p.w (3 + 2 * i) + place 32 (p.w (4 + 2 * i)) else p.w (3 + i)

/-- Writes the unforced values now. -/
def writeVars (p : Packet) (s : State) : State × Nat :=
  match findVar s (slotArg p) (p.w 1) with
  | none => (s, stGrNoVar)
  | some v =>
    let is := List.range (varCount p)
    if v.isState then (s, stGrStateVar)
    else if v.count < varFirst p + varCount p then (s, stRange)
    else if is.any fun i => writeFails s v (varFirst p + i) then (s, stFault)
    else (is.foldl (fun s i => s.storeValue v (varFirst p + i) (writtenValue p v.type i)) s, stOk)

/-- GRAPH.VAR_WRITE (R160): at the first input-ready point, at or after its cycle, at which the slot has no execution in
progress. -/
def cmdGraphVarWrite (p : Packet) (s : State) : State × Verdict :=
  let var := findVar s (slotArg p) (p.w 1)
  let v : VarLoc := var.getD { id := 0, type := 0, count := 0, stateOp := 0xFF, base := 0, slot := none }
  checked
    [(p.len < 3, stBadLength),
     (reservedSet (p.w 0) 0xFFFFFFFC || reservedSet (p.w 2) 0xFFE00000 || varCount p == 0 || 1024 < varCount p, stRange),
     (var.isNone, stGrNoVar),
     (p.len ≠ 3 + varCount p * tyWords v.type, stBadLength),
     (decide (v.count < varFirst p + varCount p) || (v.type == 0 && (p.params.drop 3).any fun w => 1 < w.toNat), stRange),
     (v.isState, stGrStateVar)] s
    (if hasCycle s then s.defer .graphVarWrite p else let r := writeVars p s; (r.1, .done r.2 []))

def execGraphVarWrite (p : Packet) (s : State) : Host.Outcome State Fault Refusal := command .graphVarWrite cmdGraphVarWrite p s

/-- The GRAPH.VAR_WRITE commands that act at this input-ready point, in order. -/
def varWrites (s : State) : State :=
  let f (d : Deferred) : Bool := d.op == .graphVarWrite && slotIdle s (slotArg d.packet)
  let sel := s.host.deferred.filter f
  let s := s.modHost fun h => { h with deferred := h.deferred.filter fun d => !f d }
  sel.foldl (fun s d => let r := writeVars d.packet s; r.1.answer d.op d.packet r.2 []) s

/-- INPUT_READY (R137, R160, R163): once in each device cycle, from its input-ready point. -/
def inputReady (s : State) : State :=
  let k := devCycle s
  let s := releaseLate s
  if ¬ hasCycle s ∨ s.graph.readyCycle = some k ∨ s.clock < inputReadyClock s then s
  else
    let s := varWrites (s.modGraph fun g => { g with readyCycle := some k })
    let s := ((List.range 4).filter fun n => (slotOf s n).stepping.isSome && (slotOf s n).exec.isNone).foldl
      (fun s n => if slotState s n = 2 then s.beginStep n else s.stepOn n) s
    if s.cyc.commitOf = some (s.clock / clocksOfUs (max 1 (lDev s))) then s
    else ((List.range 4).filter fun n => periodDue s n k).foldl State.period s

def execInputReady (t : Nat) (s : State) : Host.Outcome State Fault Refusal := event true t inputReady s

/-- The cycle in which the next period of a running slot begins (R161). -/
def nextPeriod (s : State) (n : Nat) : Nat :=
  match (slotOf s n).origin with
  | none => 0
  | some x =>
    let p := max 1 (imgPeriod s (activeAddr s n))
    let k := devCycle s
    if cycDiff k x < 0 then x else cycleAfter s k (p - cyclesBetween s x k % p)

/-- GRAPH.STATUS (R161). NEXT_PERIOD has no stated value in a slot that is not RUNNING (log 4). -/
def cmdGraphStatus (p : Packet) (s : State) : State × Verdict :=
  let n := slotArg p; let k := slotOf s n
  let loaded (b : Bool) : Bool := (k.bank b).state != .empty
  let a := bankAddr n k.activeB; let st := slotState s n
  let act (v : Nat) : Nat := if loaded k.activeB then v else 0
  let sby := if loaded (!k.activeB) then imgGen s (bankAddr n (!k.activeB)) else 0
  let (s', next) := if st = 1 then (s, wd (nextPeriod s n)) else (s.takeFree.2, s.takeFree.1)
  let words : List Word := [
    wd (st + place 2 (flag k.enabled) + place 3 (flag k.activeB) + place 4 k.bankA.state.num + place 8 k.bankB.state.num),
    wd (act (imgGen s a) + place 16 sby), wd (act (imgPeriod s a + place 10 (imgPrio s a))), next, wd (act (imgW s a 14)),
    wd k.abandoned, wd k.arithExc, wd ((s.graph.forces.filter fun f => f.slot == some n).length + place 16 k.forcesDropped),
    wd k.lastMoult]
  checked [(p.len ≠ 1, stBadLength), (reservedSet (p.w 0) 0xFFFFFFFC, stRange)] s (s', .done stOk words)

def execGraphStatus (p : Packet) (s : State) : Host.Outcome State Fault Refusal := command .graphStatus cmdGraphStatus p s

/-! ### SCHED (05 R184–R188) -/

/-- Puts the settings of a SCHED.CONFIG into force. -/
def applySched (s : State) (c : SchedChange) : State :=
  match c.slot with
  | none => s.modSched fun u => { u with stealMin := field c.w1 0 4, affWaitNs := field c.w1 16 16, spillNs := field c.w2 0 16 }
  | some n => s.modSlotSched n fun k => { k with
      shedUs := field c.w1 0 10, abandonPolicy := bit c.w1 10, prio := field c.w1 16 3, prioOvr := bit c.w1 19, coreLimit := field c.w2 0 16 }

/-- The settings that take effect at a cycle start (R185). -/
def schedAtStart (s : State) : State := (s.sched.changes.foldl applySched s).modSched fun u => { u with changes := [] }

/-- SCHED.CONFIG (R185). -/
def cmdSchedConfig (p : Packet) (s : State) : State × Verdict :=
  let w := p.w 0; let w1 := p.w 1; let w2 := p.w 2
  let slot := bit w 0; let n := field w 1 2
  let badDev := n != 0 || reservedSet w1 0xFFF0 || field w1 0 4 == 0 || reservedSet w2 0xFFFF0000 || field w2 0 16 < 100
  let badSlot := reservedSet w1 0xFFF0F800 || 1000 < field w1 0 10 || reservedSet w2 0xFFFF0000 || 2 ^ graphCores s ≤ field w2 0 16
  let c : SchedChange := { slot := if slot then some n else none, w1 := w1, w2 := w2 }
  checked
    [(p.len ≠ 3, stBadLength), (reservedSet w 0xFFFFFFF8 || (if slot then badSlot else badDev), stRange),
     (slot && hasProgram s n && (field w2 0 16 &&& imgCoreMask s (activeAddr s n)) == 0, stScNoCore)] s
    (if hasCycle s then s.modSched fun u => { u with changes := u.changes ++ [c] } else applySched s c, .done stOk [])

def execSchedConfig (p : Packet) (s : State) : Host.Outcome State Fault Refusal := command .schedConfig cmdSchedConfig p s

/-- SCHED.COUNTERS (R186). -/
def cmdSchedCounters (p : Packet) (s : State) : State × Verdict :=
  let isSlot := bit (p.w 0) 0; let i := field (p.w 0) 1 4
  let c := coreOf s i; let k := schedOf s i
  let coreWords : List Word := [wd c.opsRun] ++ wd2 c.busyNs ++
    [wd c.taken, wd c.given, wd c.displaced, wd c.misses, wd c.bpStallNs, wd c.spilled, wd c.readyHigh]
  let slotWords : List Word := [wd k.executions, wd k.overruns, wd k.skipped, wd k.cancelled, wd k.delayFull, wd k.lastExecNs, wd k.maxExecNs,
    wd (if (activeBank s i).state = .empty then 0 else imgBudget s (activeAddr s i)), wd k.budgetExceeded]
  checked
    [(p.len ≠ 1, stBadLength), (reservedSet (p.w 0) 0xFFFFFFE0 || (if isSlot then 4 ≤ i else graphCores s ≤ i), stRange)] s
    (s, .done stOk (if isSlot then slotWords else coreWords))

def execSchedCounters (p : Packet) (s : State) : Host.Outcome State Fault Refusal := command .schedCounters cmdSchedCounters p s

/-- SCHED.CLEAR_COUNTERS (R187). -/
def cmdSchedClearCounters (p : Packet) (s : State) : State × Verdict :=
  let w := p.w 0
  checked [(p.len ≠ 1, stBadLength), (reservedSet w 0xFFFFFFFC || w == 0, stRange)] s
    (let s := if bit w 0 then s.modSched fun u => { u with cores := updAll {} u.cores (List.range 16) fun _ k => { k with
        opsRun := 0, busyNs := 0, taken := 0, given := 0, displaced := 0, misses := 0, bpStallNs := 0, spilled := 0, readyHigh := 0 } } else s
     let s := if bit w 1 then s.modSched fun u => { u with slots := updAll {} u.slots (List.range 4) fun _ k => { k with
        executions := 0, overruns := 0, skipped := 0, cancelled := 0, delayFull := 0, lastExecNs := 0, maxExecNs := 0, budgetExceeded := 0 } } else s
     (s, .done stOk []))

def execSchedClearCounters (p : Packet) (s : State) : Host.Outcome State Fault Refusal :=
  command .schedClearCounters cmdSchedClearCounters p s

/-- Core `c` has nothing to run or take (R188). -/
def coreIdle (s : State) (c : Nat) : Bool :=
  let k := coreOf s c
  k.running.isNone && k.step.isEmpty && k.stalled.isEmpty && !(k.lists ++ k.prefetch).any (runnable s) &&
  ((List.range 8).all fun p => (coresByLoad s c p).all fun d => (takeFrom s c p d).isNone)

/-- SCHED.STATUS (R188). -/
def cmdSchedStatus (p : Packet) (s : State) : State × Verdict :=
  let cores := List.range (graphCores s)
  let bp := maskOf (cores.filter fun c => !(coreOf s c).stalled.isEmpty ||
    (match (coreOf s c).running with | some r => r.publishing.isSome | none => false))
  let idle := maskOf (cores.filter (coreIdle s))
  checked [(p.len ≠ 0, stBadLength)] s
    (s, .done stOk ([wd (bp + place 16 idle),
      wd (s.sched.spill.length + place 16 (maskOf ((List.range 4).filter (limitIgnored s))))] ++
      (List.range 4).map fun n => wd (slotOf s n).overrun))

def execSchedStatus (p : Packet) (s : State) : Host.Outcome State Fault Refusal := command .schedStatus cmdSchedStatus p s

/-! ### The reference check (03 R93; 04 R130) -/

/-- Words of a member's frames in the ACTIVE mode (10 R374). -/
def frameWords (s : State) (src dst : Nat) : Nat :=
  ((dataSlots (modeInForce s true) src dst).map fun i => (slotAt (modeInForce s true) i).lenW - 1).sum

/-- The item that an operation names fails (R130; 08, 09 R310, 10 R356, 12 R448). -/
def opRefBad (s : State) (e : OpEntry) : Bool :=
  let p := e.param
  let m := field p 2 6; let w := field p 8 10
  match GOp.ofCode e.code with
  | some .loopSp | some .loopFf | some .loopMode | some .loopTrack | some .loopRead => loopChannels s ≤ p
  | some .loopRep => repChannels s == 0 || loopChannels s ≤ p
  | some .axisStart | some .axisStop | some .axisOffset | some .axisRef | some .axisReadPos | some .axisReadState =>
    axes s ≤ p || (axisOf s p).kind == 0
  | some .rin => field p 0 2 != 0 || p / 2 ^ 18 != 0 || frameWords s m 0x80 ≤ w
  | some .rinStatus | some .rxchg => field p 0 2 != 0 || p / 2 ^ 18 != 0
  | some .rout => field p 0 2 != 0 || p / 2 ^ 18 != 0 || frameWords s 0x80 m ≤ w
  | some .din | some .dinEdges => 64 ≤ p
  | some .dout => 64 ≤ p || !(doutOf s p).configured
  | some .pwmOut => 32 ≤ p || !(pwmOf s p).configured
  | some .ain => 128 ≤ p
  | some .ainUrgent => e.nIn == 0 && 128 ≤ p
  | some .encRead | some .encLatch => !(encOf s (field p 0 4)).configured
  | some .canRecv => canControllers s ≤ field p 0 8 || (canBuf s (field p 0 8) (field p 8 8)).kind != 1
  | some .canSend => canControllers s ≤ field p 0 8 || (canBuf s (field p 0 8) (field p 8 8)).kind != 2
  | some .acqTrig => 32 ≤ p
  | some .acqPublish => p < 0x3000 || 0x4000 ≤ p || entryType s p != e.type
  | _ => false

/-- A program of an enabled slot refers to an item that fails (R93). -/
def graphRefBad (s : State) : Bool :=
  (List.range 4).any fun n => hasProgram s n &&
    (List.range (imgOps s (activeAddr s n))).any fun i => opRefBad s (opEntry s (activeAddr s n) i)

/-- A slot configured to run has no verified active bank (03 R107). -/
def slotUnverified (s : State) : Bool := (List.range 4).any fun n => (slotOf s n).enabled && !hasProgram s n

/-! ### Mode changes (R127, R137) -/

/-- Entry to RUN in cycle `x`. -/
def graphEnterRun (x : Nat) (s : State) : State :=
  (List.range 4).foldl (fun s n => s.modSlot n fun k => { k with
    origin := if k.enabled then some x else none, first := true, executions := 0, overrunNext := 0, ready := none
    last := [] }) s

/-- The return from HOLD to RUN: executions that go on are due in the cycle in progress (05 R179), and outputs that a hold kept
back, the stepped ones among them, apply (R141). -/
def graphReturnToRun (s : State) : State :=
  (List.range 4).foldl (fun s n =>
    let s := if (slotOf s n).held then s else s.continueExec n
    let s := routNow (slotOf s n).last s
    match (slotOf s n).ready with
    | some (c, o) => if cycDiff c (devCycle s) < 0 then routNow o.values s else s
    | none => s) s

/-- What a new device mode means to the cores: prefetched operations of slots that are HELD now leave, and steps of slots that
are not end (R141, 05 R171). -/
def graphMode (s : State) : State := (List.range 4).foldl State.stepOn s.refillAll

/-! ### CAN buffers owned by the image (12 R448) -/

/-- A verified bank of some slot uses the buffer in CAN_SEND. -/
def canOwned (s : State) (c b : Nat) : Bool :=
  (List.range 4).any fun n => [false, true].any fun k =>
    keepsShared ((slotOf s n).bank k) && (List.range (imgOps s (bankAddr n k))).any fun i =>
      let e := opEntry s (bankAddr n k) i
      e.code == GOp.canSend.code && field e.param 0 8 == c && field e.param 8 8 == b

/-- Data bytes of CAN.TRANSMIT (12 R454). -/
def transmitBytes (id frame : Nat) : Nat := dataBytes (frame % 16) (bit frame 4) (bit id 30)

/-- CAN.TRANSMIT (12 R440, R454). There is no remote frame with FDF (R428; log 134). -/
def cmdCanTransmit (p : Packet) (s : State) : State × Verdict :=
  let w := p.w 0
  let c := field w 0 3; let b := field w 3 7; let atTime := bit w 10
  let id := p.w 1; let fr := p.w 2
  let k := canOf s c; let buf := canBuf s c b
  let n := transmitBytes id fr
  let bad := reservedSet w 0xFFFFF800 || bit id 31 || reservedSet fr 0xFFFFFF80 || bit fr 6 || (bit fr 4 && !k.fd) || (bit fr 5 && !bit fr 4) || (bit id 30 && bit fr 4) ||
    (!atTime && p.w 3 != 0)
  checked (canChecks p (4 + (n + 3) / 4) c bad s ++
    [(k.state == .off, stCnState), (buf.kind != 2, stCnBufKind), (k.listen, stCnListen), (canOwned s c b, stLocked),
     (buf.state == .pending || buf.state == .waitTime, stCnBusy)]) s
    (let s := s.modBuf c b fun q => { q with
        idWord := id, frame := fr % 64, txTime := p.w 3, data := (p.params.drop 4).zipIdx.foldl (fun t e => put 0 t (4 + e.2) e.1.toNat) [] }
     (s.queueCan c b atTime, .done stOk []))

def execCanTransmit (p : Packet) (s : State) : Host.Outcome State Fault Refusal := command .canTransmit cmdCanTransmit p s

end Sys2Proof.Machine
end

