-- ==== Sys2Proof/Machine/Cocoon.lean ====
section
/-! DEFINITION. The cocoon image: what it holds, when it is complete, and how it is restored (15 R531–R536; 03 R99, R101). -/

namespace Sys2Proof.Machine

/-! ### Forming the image -/

/-- A slot in the image. -/
def slotImage (s : State) (n : Nat) : SlotImage :=
  let k := slotOf s n
  { slot := n, enabled := k.enabled, held := k.held, activeB := k.activeB, overrun := k.overrunNext }

/-- An axis in the image, as its last tick left it. -/
def axisImage (s : State) (n : Nat) : AxisImage :=
  let c := axisOf s n
  let t := usNow s
  { axis := n, ch := c, us := t, pos := (c.cmdAt s t).1, vel := (c.cmdAt s t).2, fb := fbPos s c }

/-- The fixed part of the image tagged `k` (15 R531). -/
def cocoonOf (k : Nat) (s : State) : Cocoon :=
  { cycle := k, mode := s.dev.mode, commit := s.cyc.commit, miss := s.cyc.miss, firstCommitted := s.cyc.firstCommitted
    lastApplied := s.cyc.lastApplied, image := s.graph.image, inForce := s.graph.inForce, committed := s.cyc.committedNow
    slots := (List.range 4).map (slotImage s), forces := s.graph.forces, axes := (axisNumbers s).map (axisImage s)
    upMode := s.drove.up.mode, upEpoch := s.drove.up.epoch, downMode := s.drove.down.mode, downEpoch := s.drove.down.epoch }

/-- Words that the undo log holds at most between two images (15 R535). -/
def undoLimit : Nat := 245760

/-- An image is not complete (15 R535): it is counted, with a record; the log goes on from the previous image. -/
def State.cocoonOverrun (s : State) : State :=
  (s.modPair fun p => { p with overruns := sat32 p.overruns }).recordOpen 13 38 0

/-- The image `c` is complete: the device is RESUMABLE on it, and the undo log begins anew with the words written since. -/
def State.completeImage (s : State) (c : Cocoon) (seq : Nat) : State :=
  (s.modKeep fun k => { k with image := some c, next := none, undo := [k.undo.headD []] }).modPair fun p => { p with seq := seq }

/-- The half sends its images to the peer (15 R524): ACTIVE, or ALONE while the peer receives the full copy (R538). -/
def sendsDeltas (s : State) : Bool := s.pair.laneUp && s.pair.role.holds && (s.pair.peerStandby || s.pair.peerSyncing)

/-- The cocoon image is written at the commit point of cycle `k` (03 R99, 15 R535, R536). An image that is sent to the peer is
complete once its delta is. -/
def writeCocoon (k : Nat) (s : State) : State :=
  if ¬ s.acts ∨ (s.dev.mode ≠ .ready ∧ s.dev.mode ≠ .run ∧ s.dev.mode ≠ .hold) then s
  else
    let s := if s.pair.outgoing.isSome then (s.modPair fun p => { p with outgoing := none }).cocoonOverrun else s
    let layer : Tab (Option Nat) := s.keep.undo.headD []
    let words := layer.map fun e => (e.1, readWord s e.1)
    let seq := s.pair.nextSeq
    let s := s.modPair fun p => { p with nextSeq := (seq + 1) % 65536 }
    let s := s.modKeep fun q => { q with undo := [] :: q.undo }
    if undoLimit < layer.length then s.cocoonOverrun
    else if sendsDeltas s then
      let out : Outgoing := { seq := seq, cycle := k, words := words }
      (s.modKeep fun q => { q with next := some (cocoonOf k s) }).modPair fun p => { p with outgoing := some out }
    else s.completeImage (cocoonOf k s) seq

/-- *c* of the newest complete image; 0 without one. -/
def checkpointCycle (s : State) : Nat := match s.keep.image with | some c => c.cycle | none => 0

/-- RESUMABLE after a warm or watchdog reset (03 R99). -/
def resumable (s : State) : Bool := s.keep.image.isSome && s.boot.recordGood && s.boot.replayed

/-! ### Restoring the image -/

/-- Puts old values back into memory without noting them in the undo log. -/
def putWords (ws : List (Nat × Nat)) (s : State) : State :=
  s.modMem fun m => { m with store := ws.foldl (fun t e => storeBytes e.1 (bytesOfNat 4 e.2) t) m.store }

/-- The undo log is replayed backward (15 R532): the newest layer first. -/
def replayUndo (s : State) : State :=
  let s := s.keep.undo.foldl (fun s l => putWords (l.filterMap fun e => e.2.map fun v => (e.1, v)) s) s
  s.modKeep fun k => { k with undo := [[]], next := none }

/-- A slot takes its part of the image. The output image of *c* holds the values of every slot's last execution: slot 0 carries
them on, and what the slots give later stands over them. -/
def restoreSlot (q1 gap : Nat) (values : List (ImgKey × Nat)) (i : SlotImage) (s : State) : State :=
  s.modSlot i.slot fun k => { k with
    enabled := i.enabled, held := i.held, overrun := 0, overrunNext := 0
    origin := if i.enabled then some q1 else none
    exec := none, ready := none, stepping := none, first := true, moulted := false, resumeGap := gap
    last := if i.slot = 0 then values else [] }

/-- An axis takes its part of the image; POS_UNCERTAIN stays set (07 R255). -/
def restoreAxis (i : AxisImage) (s : State) : State :=
  s.modCh i.axis fun c => { c with
    m := i.ch.m, offFrom := i.ch.offFrom, offTo := i.ch.offTo, offSince := i.ch.offSince, fbOffset := i.ch.fbOffset
    uncertain := c.uncertain || i.ch.uncertain, standing := i.ch.standing, restAt := i.ch.restAt
    undo := none, instStart := none, instStopped := false }

/-- The swap of a changeover at X was made before the reset, and the image is that of X − 1: it is not made again (01 R639). -/
def swapKept (s : State) : Bool := match s.cyc.changeover with | some c => c.swapped | none => false

/-- The armed and active banks of the loop channels as `old` has them: state word 13, [3] and [4] (06 R206). -/
def keepLoopBanks (old s : State) : State :=
  (enabledLoops old).foldl (fun s c => s.setStatus c 3 2 (field (stW old c 13) 3 2)) s

/-- The bank in force of a slot follows the image of another device: the states of its banks change as at a moult. -/
def adoptActive (i : SlotImage) (s : State) : State :=
  let k := slotOf s i.slot
  if k.activeB = i.activeB then s
  else
    let s := s.modBank i.slot i.activeB fun q => { q with state := .active, plan := [] }
    let s := s.modBank i.slot (!i.activeB) fun q => if q.state = .active then { q with state := .previous } else q
    s.modSlot i.slot fun k => { k with activeB := i.activeB }

/-- The number of the device cycle after q, and the gap in device cycles (03 R101). -/
def resumeNext (s : State) : Nat := cycleAfter s (devCycle s) 1
def resumeGapOf (s : State) (c : Nat) : Int := cycDiff (resumeNext s) c / (cycleStep s : Nat)

/-- MAX_GAP is not 0 and the gap exceeds it (03 R102, 15 R540). -/
def gapTooLong (s : State) (c : Nat) : Bool := s.dev.maxGap ≠ 0 && decide ((s.dev.maxGap : Int) < resumeGapOf s c)

/-- The state takes the image `c` in cycle q (03 R101): slots, forces and axes; the time of a profile runs on through the gap,
since it is ring time. -/
def restoreImage (c : Cocoon) (s : State) : State :=
  let q1 := resumeNext s; let gap := (resumeGapOf s c.cycle).toNat
  let s := c.slots.foldl (fun s i => restoreSlot q1 gap c.image.values i s) s
  let s := s.modGraph fun g => { g with forces := c.forces, image := c.image }
  let s := c.axes.foldl (fun s i => restoreAxis i s) s
  let s := s.modCyc fun y => { y with settled := 0, committedNow := false }
  -- a channel goes on from the image and does not start afresh (06 R201)
  let s := s.modLoop fun u => { u with ch := updAll {} u.ch (u.ch.map (·.1)) fun _ k => { k with fresh := false } }
  s.modBoot fun b => { b with resumedAt := some (devCycle s) }

/-- Outputs and axes as a return to READY leaves them (01 R32, 07 R256). -/
def toReadyOutputs (s : State) : State :=
  axisToReady (setSubstitute true s)

end Sys2Proof.Machine
end

