-- ==== Sys2Proof/Machine/Loop.lean ====
section
/-! DEFINITION. The loop engine: sources, the evaluation of a channel, the repetitive term, destinations, modes, swaps, and
the rows SAMPLE_TICK, EVALUATION and RESAMPLING (06 R189–R221). -/

namespace Sys2Proof.Machine

/-! ### Arithmetic (R190, R191) -/

def fadd (a b : Nat) : Nat := Fmt.b32.add a b
def fsub (a b : Nat) : Nat := Fmt.b32.sub a b
def fmul (a b : Nat) : Nat := Fmt.b32.mul a b
/-- min and max of R190 on values that are not NaN; equal values give the first. -/
def Fmt.least (f : Fmt) (a b : Nat) : Nat := if f.lt b a then b else a
def Fmt.most (f : Fmt) (a b : Nat) : Nat := if f.lt a b then b else a
/-- limit of R190. -/
def flimit (v lim : Nat) : Nat := Fmt.b32.least (Fmt.b32.most v (Fmt.b32.neg lim)) lim

/-- The sum of R190: formed in binary64 in order, rounded once. -/
def total (p i d ff r : Nat) : Nat :=
  let a := Fmt.b64.add
  f32of64 (a (a (a (a (f64of32 p) i) (f64of32 d)) (f64of32 ff)) (f64of32 r))

/-- u − (p + D + ff + r) in binary64 (R198). -/
def tracked (u p d ff r : Nat) : Nat :=
  let a := Fmt.b64.add
  Fmt.b64.sub (f64of32 u) (a (a (a (f64of32 p) (f64of32 d)) (f64of32 ff)) (f64of32 r))

/-- A filter: its five words and its two states. -/
structure Biquad where
  b0 : Nat
  b1 : Nat
  b2 : Nat
  a1 : Nat
  a2 : Nat
  s1 : Nat
  s2 : Nat
  deriving DecidableEq, Repr

/-- One sample of a filter (R190). -/
def Biquad.run (f : Biquad) (x : Nat) : Nat × Biquad :=
  let y := fadd (fmul f.b0 x) f.s1
  (y, { f with
    s1 := fadd (fsub (fmul f.b1 x) (fmul f.a1 y)) f.s2
    s2 := fsub (fmul f.b2 x) (fmul f.a2 y) })

/-- The steady state of a filter at input `x`, and its output (R201). -/
def Biquad.steady (f : Biquad) (x : Nat) : Nat × Biquad :=
  let g := Fmt.b32.div (fadd (fadd f.b0 f.b1) f.b2) (fadd (fadd 0x3F800000 f.a1) f.a2)
  let y := fmul g x
  (y, { f with s1 := fsub y (fmul f.b0 x), s2 := fsub (fmul f.b2 x) (fmul f.a2 y) })

/-! ### Sources (R192–R194) -/

/-- A signal value as REAL32. -/
def signalReal (ty v : Nat) : Nat :=
  if ty = 3 then v else if ty = 4 then f32of64 v else Fmt.b32.ofInt (intOf ty v)

/-- The member's inputs are STALE at this instant (R192, 01 R29). -/
def memberStale (s : State) (m : Nat) : Bool :=
  let k := memberOf s m
  !k.sinceRun || k.missing ≠ 0 || (inputReadyClock s ≤ s.clock && k.inputsTag != some (ringCycleNo s true))

/-- The clock at an instant of device time, in µs, that has passed. -/
def rawClock (s : State) (us : Nat) : Nat := s.now - (s.clock - clocksOfUs us)

/-- The value of a source word at the sample instant, `us`; none where it is bad or not yet known (R192, R194). `since` is the number
of the last publication before the channel's last sample. -/
def sampleSource (s : State) (img : Option Nat) (w since us : Nat) : Option Nat :=
  match field w 0 4 with
  | 0 => some 0
  | 1 => img
  | 2 =>
    let n := field w 4 7
    if !s.present 7 || (convOf s (n / 8)).faulted || (resultOf s n).fault then none
    else some (Fmt.b32.ofInt (signedValue (rangeOfInput s n) (resultOf s n).code))
  | 3 =>
    let e := encOf s (field w 4 4)
    let t := rawClock s us
    match field w 8 2 with
    | 0 => some (Fmt.b32.ofInt (signed 32 (e.countAt t)))
    | 1 => some (e.velocity t)
    | _ => some (Fmt.b32.ofInt (signed 32 e.latched))
  | 5 =>
    let m := field w 6 6
    let v := look 0 (memberOf s m).words (field w 12 10)
    if memberStale s m then none
    else match field w 22 2 with
      | 0 => some (Fmt.b32.ofInt (signed 32 v))
      | 1 => some (Fmt.b32.ofInt v)
      | _ => some v
  | 6 =>
    match look none s.acq.latest (field w 4 14) with
    | some (_, v) => if since < look 0 s.acq.pubNo (field w 4 14) then some (signalReal (entryType s (field w 4 14)) v) else none
    | none => none
  | _ => none

/-- A source is read when the evaluation starts: ADC with WAIT, and LOOP (R194). -/
def readLate (w : Nat) : Bool := (field w 0 4 == 2 && bit w 11) || field w 0 4 == 4

/-- The value of such a source; none where it is bad (R192). With WAIT it is the group conversion that the sample at `us` started. -/
def lateSource (s : State) (w us : Nat) : Option Nat :=
  if field w 0 4 = 4 then
    let c := field w 4 10
    if !loopEnabled s c || bit (stW s c 13) 8 then none
    else some (stW s c (match field w 14 2 with | 0 => 7 | 1 => 2 | 2 => 4 | _ => 3))
  else
    let n := field w 4 7
    let r := look {} s.adc.grouped n
    if !s.present 7 || (convOf s (n / 8)).faulted || r.fault || r.instant / 1000 ≠ us then none
    else some (Fmt.b32.ofInt (signedValue (rangeOfInput s n) r.code))

/-! ### Modes (R198–R200) -/

/-- Loop channels are evaluated in this mode (R200), not in cycle q of a resume (01 R101), nor without the crook (15 R524). -/
def loopsRun (s : State) : Bool :=
  (s.dev.mode == .ready || s.dev.mode == .run || s.dev.mode == .hold) && !resuming s && s.acts

/-- The device stands as in READY for the loops: no image is in force (R200). -/
def loopsAsReady (s : State) (substAction : Bool) : Bool :=
  s.dev.mode == .ready || !s.cyc.firstCommitted ||
  ((s.cyc.commit == .substitute || s.cyc.commit == .latched) && !substAction)

/-- MANUAL with OUT_SUBST (R200). -/
def loopsSubst (s : State) (substAction : Bool) : Bool :=
  s.dev.mode != .ready && s.cyc.firstCommitted && (s.cyc.commit == .substitute || s.cyc.commit == .latched) && substAction

/-- The value of an image item in force. -/
def imgInForce (s : State) (key : ImgKey) : Option Nat := (s.graph.inForce.find? (·.1 == key)).map (·.2)

/-- A channel's own mode at a sample (R199; in READY the image's is ignored, R200). -/
def channelMode (s : State) (c : Nat) : Nat :=
  let st := stW s c 13
  if bit st 2 then field st 0 2
  else if loopsAsReady s (bit (cfgW s c 0) 22) then 0
  else match imgInForce s (.loopMode c) with | some m => m % 4 | none => 0

/-- The mode in which a sample is evaluated (R200). -/
def loopMode (s : State) (c : Nat) : Nat :=
  if s.dev.mode = .hold ∧ bit (cfgW s c 0) 21 then 2
  else if loopsSubst s (bit (cfgW s c 0) 22) then 1
  else channelMode s c

/-! ### Destinations (R195, R196) -/

/-- DEST_SCALE × u + DEST_OFFSET. -/
def destValue (s : State) (c u : Nat) : Nat := fadd (fmul (cfgW s c 8) u) (cfgW s c 9)

/-- Writes a value to the destination of a channel. -/
def State.writeDest (s : State) (c v : Nat) : State :=
  let w := cfgW s c 7
  match field w 0 4 with
  | 1 => s.modPwm (field w 4 5) fun p => { p with shadow := clampDuty v }
  | 2 =>
    let x := match field w 22 2 with
      | 0 => (convTy 3 1 v).1
      | 1 => (convTy 3 2 v).1
      | _ => v
    s.modDrove fun d => { d with outWords := put 0 d.outWords (field w 6 6 * 1024 + field w 12 10) x }
  | _ => s

/-! ### Swaps and pending requests (R209, R211, R214, R215) -/

/-- REP_N of a bank. -/
def repN (s : State) (c : Nat) (b : Bool) : Nat := field (bankW s c b 28) 0 13

/-- The standby bank of a channel is armed no more, and no changeover swaps it (R207, R209, R225). -/
def State.disarmLoop (s : State) (c : Nat) : State := (s.setStatus c 4 1 0).modLoopCh c fun k => { k with swapDue := false }

/-- Sets every point of a table to 0. -/
def State.clearTable (s : State) (t : Nat) : State :=
  let a := pointAddr t 0
  s.zeroBytes a 0x4000

/-- The armed standby bank of a channel becomes active (R209, R215). -/
def State.swapBank (s : State) (c : Nat) : State :=
  let b := activeB s c
  let n0 := repN s c b
  let n1 := repN s c (!b)
  let st := repState s c
  let s := (s.setStatus c 3 2 (flag (!b))).modLoopCh c fun k => { k with bumpless := bit (bankW s c (!b) 29) 0, swapDue := false }
  if ¬ hasTable s c ∨ n0 = n1 then s
  else if bit (bankW s c (!b) 28) 30 then
    let back := match (loopOf s c).resample with | some r => r | none => (n0, st)
    (s.setStatus c 10 3 4).modLoopCh c fun k => { k with resample := some back }
  else s.clearTable (tableOf s c)

/-- An action of R214 on a channel. In RESAMPLING the state to return to changes. -/
def State.repAction (s : State) (c action : Nat) : State :=
  let set (v : Nat) : State := match (loopOf s c).resample with
    | some r => s.modLoopCh c fun k => { k with resample := some (r.1, v) }
    | none => s.setStatus c 10 3 v
  if !hasTable s c then s
  else match action % 4 with
    | 0 => set 0
    | 1 => set 1
    | 2 => set 3
    | _ => s.clearTable (tableOf s c)

/-- What a LOOP.BANK_SWAP, LOOP.MODE or LOOP.REP_CONTROL does to one channel (R226, R227, R230). -/
def State.loopTake (s : State) (op : Op) (p : Packet) (c : Nat) : State :=
  match op with
  | .loopBankSwap => if loopArmed s c then s.swapBank c else s
  | .loopMode =>
    let s := s.setStW c 14 (p.w 1)
    let s := s.setStatus c 2 1 (field (p.w 0) 28 1)
    if bit (p.w 0) 28 then s.setStatus c 0 2 (field (p.w 0) 26 2) else s
  | _ => s.repAction c (field (p.w 0) 28 2)

/-- The three commands that wait for samples (R222). -/
def waitsForSample (op : Op) : Bool := op == .loopBankSwap || op == .loopMode || op == .loopRepControl

/-- The reply words of such a command: SWAPPED or COUNT. -/
def loopReply (op : Op) (count : Nat) : List Word := if op = .loopMode then [] else [wd count]

/-- The requests that take effect at a sample of channel `c` (R199, R209, R214): first those of the image and of a
changeover, then the commands in order. -/
def State.takeRequests (s : State) (c : Nat) : State :=
  let k := loopOf s c
  let s := if k.swapDue ∧ loopArmed s c then s.swapBank c else s
  let s := s.modLoopCh c fun k => { k with swapDue := false }
  let s := match k.repDue with
    | some a => (s.repAction c a).modLoopCh c fun k => { k with repDue := none }
    | none => s
  let mine (d : Deferred) : Bool := waitsForSample d.op && (d.data.drop 1).contains c
  let s := (s.host.deferred.filter mine).foldl (fun s d => s.loopTake d.op d.packet c) s
  let took (d : Deferred) : Deferred := if mine d then { d with data := d.data.take 1 ++ (d.data.drop 1).filter (· ≠ c) } else d
  let s := s.modHost fun h => { h with deferred := h.deferred.map took }
  s.settle (fun d => waitsForSample d.op && d.data.length == 1) fun d => (stOk, loopReply d.op (d.data.getD 0 0))

/-! ### SAMPLE_TICK (R189, R194, R217, R218) -/

/-- An image source that no program has written has no stated value: it is free (log 59). -/
def State.imgSource (s : State) (key : ImgKey) : Nat × State :=
  match imgInForce s key with
  | some v => (v, s)
  | none => (s.takeFree.1.toNat, s.takeFree.2)

/-- What the channel latches at instant `us`. -/
def latchSample (s : State) (c us since : Nat) : State × LoopSample :=
  let subst := bit (cfgW s c 0) 22
  let ready := loopsAsReady s subst || loopsSubst s subst
  let img (i : Nat) (key : ImgKey) (s : State) : Option Nat × State :=
    let w := cfgW s c i
    if field w 0 4 ≠ 1 then (sampleSource s none w since us, s)
    else if ready ∧ i = 2 then (some (cfgW s c 11), s)
    else if ready ∧ i = 3 then (some 0, s)
    else let r := s.imgSource key; (some r.1, r.2)
  let pv := sampleSource s none (cfgW s c 1) since us
  let (sp, s) := img 2 (.loopSp c) s
  let sp := if field (cfgW s c 2) 0 4 = 0 then some (cfgW s c 11) else sp
  let (ff, s) := img 3 (.loopFf c) s
  let (track, s) := img 4 (.loopTrack c) s
  let axis := if bit (cfgW s c 12) 8 then ((axisOf s (field (cfgW s c 12) 9 8)).cmdAt s us).1.fdiv q24 else 0
  (s, { us := us, pv := pv, sp := sp, ff := ff, track := track, mode := loopMode s c, ownMode := channelMode s c,
        substManual := loopsSubst s subst, axisPos := axis })

/-- SAMPLE_TICK: the sample of channel `c` at this microsecond is released; one that has not started is dropped (R217). -/
def sampleTick (c : Nat) (s : State) : State :=
  let us := usOf s.clock
  let p := loopPeriod s c
  if ¬ loopEnabled s c ∨ p = 0 ∨ us % max 1 p ≠ 0 ∨ (loopOf s c).lastTick = some us then s
  else
    let since := (loopOf s c).published
    let s := s.takeRequests c
    let s := s.modLoopCh c fun k => { k with lastTick := some us, published := s.acq.pubCount }
    if ¬ loopsRun s ∨ !domainOn s 8 then s.modLoopCh c fun k => { k with released := none }
    else
      let s := if (loopOf s c).released.isNone then s
        else
          let s := s.setStW c 19 (sat32 (stW s c 19))
          if (loopOf s c).skipCycle = some (devCycle s) then s
          else (s.recordOpen 5 36 0).modLoopCh c fun k => { k with skipCycle := some (devCycle s) }
      let (s, x) := latchSample s c us since
      s.modLoopCh c fun k => { k with released := some x }

def execSampleTick (c t : Nat) (s : State) : Host.Outcome State Fault Refusal := event (c < loopChannels s) t (sampleTick c) s

/-! ### Budget and latency (R217–R220) -/

/-- The key of a channel: (PRIO, P, number), as one number (R218). -/
def loopKey (s : State) (c : Nat) : Nat := (loopPrio s c * 2 ^ 14 + loopPeriod s c) * 2 ^ 10 + c

/-- The enabled channels of a processor. -/
def procLoops (s : State) (p : Nat) : List Nat := (enabledLoops s).filter fun c => loopProc s c == p

/-- Evaluations per second of a channel. -/
def loopRate (s : State) (c : Nat) : Nat := let p := max 1 (loopPeriod s c); (1000000 + p - 1) / p

/-- The load of a processor (R217). -/
def procLoad (s : State) (p : Nat) : Nat := ((procLoops s p).map (loopRate s)).sum

/-- The release offset in ns (R220): a WAIT source waits for its conversion. -/
def releaseNs (s : State) (c : Nat) : Nat :=
  let wait (i : Nat) : Bool := let w := cfgW s c i; field w 0 4 == 2 && bit w 11
  let low (i : Nat) : Bool := wait i && (convOf s (field (cfgW s c i) 4 7 / 8)).lowPower
  if [1, 2, 3, 4].any low then 4052 else if [1, 2, 3, 4].any wait then 552 else 7

def outNs (s : State) (c : Nat) : Nat := if field (cfgW s c 7) 0 4 = 1 then 4 else 0

/-- The response time of R219 by iteration from `r`; it ends when it no longer grows or passes the deadline. -/
def respFrom (deadline : Nat) (hp : List Nat) : Nat → Nat → Nat
  | 0, r => r
  | fuel + 1, r =>
    let next := 300 + ((hp.map fun ns => (r + ns - 1) / ns).sum) * 150
    if next = r ∨ deadline < next then next else respFrom deadline hp fuel next

/-- R of R219 for channel `c`. -/
def respNs (s : State) (c : Nat) : Nat :=
  let hp := ((procLoops s (loopProc s c)).filter fun d => loopKey s d < loopKey s c).map fun d => max 1 (loopPeriod s d) * 1000
  respFrom (loopPeriod s c * 1000 - releaseNs s c) hp (loopPeriod s c * 1000) 300

/-- bound of R219: 0 where the channel cannot finish before its next sample. -/
def boundNs (s : State) (c : Nat) : Nat :=
  let r := respNs s c
  if loopPeriod s c * 1000 < releaseNs s c + r then 0 else releaseNs s c + r + outNs s c

/-- A processor's load breaks R217, or a bound of one of its channels is 0. -/
def procOver (s : State) (p : Nat) : Bool := 6400000 < procLoad s p || (procLoops s p).any fun c => boundNs s c == 0

/-! ### The repetitive term (R212, R213) -/

/-- The index of a sample at `us`, with the axis' commanded position `x` (R212). -/
def repIndex (s : State) (c us n : Nat) (x : Int) : Nat :=
  let w := cfgW s c 12
  if bit w 8 then
    let rev := cfgW s c 13
    (x.emod (max 1 rev : Nat)).toNat * n / max 1 rev
  else us / max 1 (loopPeriod s c) % max 1 n

/-- A point of the table; a poisoned one reads as 0 (16 R565). -/
def pointAt (s : State) (t j : Nat) : Nat := if (poisonedIn s (pointAddr t j) 4).isSome then 0 else readWord s (pointAddr t j)

/-- What the repetitive term gives: r, the new REP_STATE, the index, and the point to write. -/
structure RepTerm where
  r : Nat := 0
  state : Nat
  index : Option Nat := none
  point : Option (Nat × Nat) := none
  deriving DecidableEq, Repr

/-- rep_term of R213. -/
def repTerm (s : State) (c us e : Nat) (x : Int) (auto : Bool) : RepTerm :=
  let st := repState s c
  if ¬ hasTable s c ∨ st = 0 ∨ st = 4 then { state := st }
  else
    let b := activeB s c
    let n := max 1 (repN s c b)
    let lead := field (bankW s c b 28) 16 13
    let t := tableOf s c
    let j := repIndex s c us n x
    let r := flimit (pointAt s t ((j + lead) % n)) (bankW s c b 27)
    let st := if st = 1 ∧ j < field (stW s c 15) 0 13 then 2 else st
    let sat := bit (stW s c 13) 5 || bit (stW s c 13) 6
    if st = 2 ∧ auto ∧ ¬ sat then
      let w := fadd (pointAt s t j) (fmul (bankW s c b 24) e)
      let m := fadd (fmul (bankW s c b 25) w) (fmul (bankW s c b 26) (fadd (pointAt s t ((j + n - 1) % n)) (pointAt s t ((j + 1) % n))))
      { r := r, state := st, index := some j, point := some (j, m) }
    else { r := r, state := st, index := some j }

/-! ### The evaluation (R190, R192, R198, R201, R211) -/

/-- The words of a channel that one evaluation computes. -/
structure LoopResult where
  i : Nat
  pv : Nat
  sp : Nat
  e : Nat
  d : Nat
  dv : Nat
  u : Nat
  f1 : Biquad
  f2 : Biquad
  rep : RepTerm
  frozen : Bool
  satHi : Bool
  satLo : Bool
  dest : Nat
  /-- Every value computed on the way is finite. -/
  finite : Bool
  deriving DecidableEq, Repr

/-- The filter words of the active bank and its states. -/
def loopFilter (s : State) (c first state : Nat) : Biquad :=
  let w (i : Nat) : Nat := bankW s c (activeB s c) (first + i)
  { b0 := w 0, b1 := w 1, b2 := w 2, a1 := w 3, a2 := w 4, s1 := stW s c state, s2 := stW s c (state + 1) }

/-- Evaluates the sample `z` of a channel on latched values (R190 to R211): `pv`, `sp`, `ff` and `track` as REAL32. A start and a
bumpless swap set the integrator so that this evaluation's unlimited sum, its increment included, is the output held before
(DEDUCED from R201's first output, log 62). -/
def evaluate (s : State) (c : Nat) (z : LoopSample) (fresh bumpless : Bool) (pvRaw spTarget ffRaw track : Nat) : LoopResult :=
  let mode := z.mode
  let b (i : Nat) : Nat := bankW s c (activeB s c) i
  let x := fadd (fmul pvRaw (cfgW s c 5)) (cfgW s c 6)
  let f1 := loopFilter s c 0 8
  let f2 := loopFilter s c 5 10
  let k1 := if fresh then f1.steady x else (0, f1)
  let k2 := if fresh then f2.steady k1.1 else (0, f2)
  let r1 := k1.2.run x
  let r2 := k2.2.run r1.1
  let pv := r2.1
  let spPrev := if fresh then spTarget else stW s c 3
  let sp := fadd spPrev (flimit (fsub spTarget spPrev) (b 23))
  let e := fsub sp pv
  let p := fmul (b 10) (fsub (fmul (b 14) sp) pv)
  let dv := fsub (fmul (b 15) sp) pv
  let dvPrev := if fresh then fsub (fmul (b 15) spTarget) k2.1 else stW s c 6
  let d := fadd (fmul (b 13) (if fresh then 0 else stW s c 5)) (fmul (b 12) (fsub dv dvPrev))
  let ff := fadd (fmul (b 16) sp) (fmul (b 17) ffRaw)
  let rep := repTerm s c z.us e z.axisPos (mode == 0)
  let uPrev := if fresh then cfgW s c 10 else stW s c 7
  let iLo := f64of32 (b 21); let iHi := f64of32 (b 22)
  let holdI (v : Nat) : Nat := Fmt.b64.least (Fmt.b64.most v iLo) iHi
  let inc := Fmt.b64.mul (f64of32 (b 11)) (f64of32 e)
  let iStart := Fmt.b64.sub (tracked uPrev p d ff rep.r) inc
  let iPrev := if fresh || bumpless then holdI iStart else stW s c 0 + place 32 (stW s c 1)
  let outLimit (v : Nat) : Nat :=
    let v := Fmt.b32.least (Fmt.b32.most v (b 18)) (b 19)
    Fmt.b32.least (Fmt.b32.most v (fsub uPrev (b 20))) (fadd uPrev (b 20))
  let it := holdI (Fmt.b64.add iPrev inc)
  let sum1 := total p it d ff rep.r
  let u1 := outLimit sum1
  let freeze := (Fmt.b32.lt u1 sum1 && Fmt.b64.lt 0 inc) || (Fmt.b32.lt sum1 u1 && Fmt.b64.lt inc 0)
  let sum2 := if freeze then total p iPrev d ff rep.r else sum1
  let manual := if mode = 1 then (if z.substManual then cfgW s c 10 else stW s c 14) else track
  let sum := if mode = 0 then sum2 else if mode = 2 then uPrev else manual
  let u := if mode = 2 then uPrev else outLimit sum
  let iTrack := tracked u p d ff rep.r
  let i := if mode = 0 then (if freeze then iPrev else it) else if mode = 2 then iPrev else holdI iTrack
  let dest := destValue s c u
  let fin := Fmt.b32.isFinite
  let point := match rep.point with | some q => fin q.2 | none => true
  { i := i, pv := pv, sp := sp, e := e, d := d, dv := dv, u := u, f1 := r1.2, f2 := r2.2, rep := rep
    frozen := mode == 0 && freeze, satHi := Fmt.b32.lt u sum, satLo := Fmt.b32.lt sum u, dest := dest
    finite := [x, r1.1, r1.2.s1, r1.2.s2, pv, r2.2.s1, r2.2.s2, fsub spTarget spPrev, sp, e, p, dv, d, ff, rep.r, sum1, sum, u, dest].all fin &&
      (!fin (b 20) || (fin (fsub uPrev (b 20)) && fin (fadd uPrev (b 20)))) &&
      [inc, Fmt.b64.add iPrev inc, i].all Fmt.b64.isFinite && (mode == 0 || mode == 2 || Fmt.b64.isFinite iTrack) &&
      (!(fresh || bumpless) || Fmt.b64.isFinite iStart) && point }

/-- Writes what an evaluation computed into the state block (R206). -/
def State.keepResult (s : State) (c : Nat) (z : LoopSample) (k : LoopResult) : State :=
  let a := loopAddr c + 0x280
  let old := stW s c 13
  let st := (if bit old 2 then field old 0 2 else z.ownMode) + place 2 (field old 2 3) + place 5 (flag k.satHi) + place 6 (flag k.satLo) + place 7 (flag k.frozen) + place 10 k.rep.state
  let ws := [k.i % 2 ^ 32, k.i / 2 ^ 32, k.pv, k.sp, k.e, k.d, k.dv, k.u, k.f1.s1, k.f1.s2, k.f2.s1, k.f2.s2, k.rep.r, st, stW s c 14,
    (match k.rep.index with | some j => j | none => stW s c 15), sat32 (stW s c 16), satAdd 32 (stW s c 17) (flag k.frozen)]
  let t := tableOf s c
  let s := s.writeWords a (ws.map wd)
  let s := match k.rep.point with
    | some q => (s.coverPoison (pointAddr t q.1 / 8 * 8) 8).writeWord (pointAddr t q.1) q.2
    | none => s
  s.setStW c 22 (z.us % 2 ^ 32)

/-- Publishes the signals of an evaluation (R197). -/
def State.publishLoop (s : State) (c us : Nat) : State :=
  let p (s : State) (entry v : Nat) : State := s.publishAt (entry + c) (us * 1000) v
  let i := f32of64 (stW s c 0 + place 32 (stW s c 1))
  p (p (p (p (p (p s 0x0800 (stW s c 2)) 0x0C00 (stW s c 3)) 0x1000 (stW s c 4)) 0x1400 (stW s c 7)) 0x1800 i) 0x1C00 (stW s c 12)

/-- A bad sample (R192): `nan` counts in NAN_COUNT. -/
def State.badSample (s : State) (c us : Nat) (nan : Bool) : State :=
  let s := if nan then s.setStW c 18 (sat32 (stW s c 18)) else s
  let n := min 255 (field (stW s c 13) 16 8 + 1)
  let s := (s.setStatus c 16 8 n).setStatus c 8 1 1
  let limit := field (cfgW s c 0) 24 8
  let s :=
    if bit (stW s c 13) 9 then s
    else if limit ≠ 0 ∧ limit ≤ n then
      ((s.writeDest c (destValue s c (cfgW s c 10))).setStatus c 9 1 1).recordOpen 5 35 1
    else s.writeDest c (destValue s c (stW s c 7))
  s.publishLoop c us

/-- The configuration, the active bank or the state of the channel holds a poisoned word (16 R565). -/
def loopPoisoned (s : State) (c : Nat) : Bool :=
  (poisonedIn s (loopAddr c) 56).isSome || (poisonedIn s (bankBase c (activeB s c)) 120).isSome || (poisonedIn s (loopAddr c + 0x280) 92).isSome

/-- Runs the released sample `x` of channel `c`. -/
def State.runSample (s : State) (c : Nat) (x : LoopSample) : State :=
  let src (i : Nat) (v : Option Nat) : Option Nat := if readLate (cfgW s c i) then lateSource s (cfgW s c i) x.us else v
  let s' := s.modLoopCh c fun k => { k with released := none }
  -- an image that holds no LOOP_TRACK value is no bad source outside TRACK
  let track := if field (cfgW s c 4) 0 4 = 1 ∧ x.mode ≠ 3 then some 0 else src 4 x.track
  if loopPoisoned s c then s'.badSample c x.us false
  else match src 1 x.pv, src 2 x.sp, src 3 x.ff, track with
    | some pv, some sp, some ff, some tr =>
      let scaled := fadd (fmul pv (cfgW s c 5)) (cfgW s c 6)
      if !([scaled, sp, ff, tr].all Fmt.b32.isFinite) then s'.badSample c x.us (Fmt.b32.isFinite pv && !Fmt.b32.isFinite scaled)
      else
        let fresh := (loopOf s c).fresh || bit (stW s c 13) 9
        let k := evaluate s c x fresh (loopOf s c).bumpless pv sp ff tr
        if !k.finite then s'.badSample c x.us true
        else
          let s := s'.modLoopCh c fun q => { q with fresh := false, bumpless := false }
          ((s.keepResult c x k).writeDest c k.dest).publishLoop c x.us
    | _, _, _, _ => s'.badSample c x.us false

/-- Notes the latency of an evaluation (R220). -/
def State.noteLatency (s : State) (c us : Nat) : State :=
  let ns := nsOf (s.clock - clocksOfUs us)
  let s := (s.setStW c 20 ns).setStW c 21 (max (stW s c 21) ns)
  if boundNs s c ≠ 0 ∧ boundNs s c < ns then s.recordOpen 5 37 1 else s

/-- The channel's sample is released: its release offset is over (R218, R220). -/
def sampleReleased (s : State) (c : Nat) : Bool :=
  match (loopOf s c).released with
  | some x => x.us * 1000 + releaseNs s c ≤ nsOf s.clock
  | none => false

/-- The released sample of the smallest key on a processor (R218). -/
def nextLoop (s : State) (p : Nat) : Option Nat :=
  ((procLoops s p).filter (sampleReleased s)).foldl (fun best c => match best with
    | some d => if loopKey s c < loopKey s d then some c else some d
    | none => some c) none

/-- EVALUATION: processor `p` evaluates its released sample of the smallest key (R190, R218). One row stands for the start and the
end of an evaluation (log 62). -/
def evaluation (p : Nat) (s : State) : State :=
  match nextLoop s p with
  | none => s
  | some c =>
    match (loopOf s c).released with
    | none => s
    | some x =>
      if ¬ loopsRun s ∨ !domainOn s 8 then s.modLoopCh c fun k => { k with released := none }
      else (s.runSample c x).noteLatency c x.us

def execEvaluation (p t : Nat) (s : State) : Host.Outcome State Fault Refusal := event (p < 8) t (evaluation p) s

/-! ### RESAMPLING (R215) -/

/-- Point `i` of the resampled table. -/
def resampled (old : List Nat) (n0 n1 i : Nat) : Nat :=
  let q := i * n0
  let k := q / n1
  let f := Fmt.b32.div (Fmt.b32.ofInt ((q % n1 : Nat) : Int)) (Fmt.b32.ofInt (n1 : Int))
  fadd (fmul (fsub 0x3F800000 f) (old.getD k 0)) (fmul f (old.getD ((k + 1) % max 1 n0) 0))

/-- RESAMPLING: processor `p` has resampled its first channel in RESAMPLING, which returns to its REP_STATE. -/
def resampling (p : Nat) (s : State) : State :=
  match (List.range (loopChannels s)).find? fun c => loopProc s c == p && (loopOf s c).resample.isSome with
  | none => s
  | some c =>
    match (loopOf s c).resample with
    | none => s
    | some (n0, st) =>
      let t := tableOf s c
      let n1 := max 1 (repN s c (activeB s c))
      let old := (List.range n0).map (pointAt s t)
      let new := (List.range n1).map (resampled old n0 n1)
      let s := s.writeWords (pointAddr t 0) (new.map wd)
      (s.setStatus c 10 3 st).modLoopCh c fun k => { k with resample := none }

def execResampling (p t : Nat) (s : State) : Host.Outcome State Fault Refusal := event (p < 8) t (resampling p) s

/-! ### Hooks of the control cycle -/

/-- Every enabled channel starts afresh (R201). -/
def loopsFresh (s : State) : State := (enabledLoops s).foldl (fun s c => s.modLoopCh c fun k => { k with fresh := true, released := none }) s

/-- What LOOP_READ shows from this input instant on (R202): the last evaluation of each channel that is, or has been, enabled. -/
def loopInputs (s : State) : State :=
  s.modLoop fun u => { u with images := (List.range (loopChannels s)).filter (fun c => loopEnabled s c || u.ch.any (·.1 == c)) |>.map fun c =>
    (c, [wd (stW s c 2), wd (stW s c 3), wd (stW s c 4), wd (stW s c 7), wd (f32of64 (stW s c 0 + place 32 (stW s c 1))), wd (stW s c 12),
         wd (stW s c 13)]) }

/-- The swap of a changeover at X (R209, 01 R43): at the next sample of each armed channel; a channel that takes no sample
swaps at once (DESIGN CHOICE, log 62). -/
def loopChangeover (s : State) : State :=
  ((List.range (loopChannels s)).filter (loopArmed s)).foldl (fun s c =>
    if loopEnabled s c then s.modLoopCh c fun k => { k with swapDue := true } else s.swapBank c) s

/-- The LOOP_REP values of a newly applied image act where they differ from the previous applied image's (R202). -/
def loopReps (new : List (ImgKey × Nat)) (s : State) : State :=
  new.foldl (fun s e => match e.1 with
    | .loopRep c => if imgInForce s (.loopRep c) = some e.2 then s else s.modLoopCh c fun k => { k with repDue := some (e.2 % 4) }
    | _ => s) s

end Sys2Proof.Machine
end

