-- ==== Sys2Proof/Machine/Changeover.lean ====
section
/-! DEFINITION. Coordinated changeover (01 R37–R44, R639; 10 R376). -/

namespace Sys2Proof.Machine

/-- Changes the changeover entry. -/
def State.modCo (s : State) (f : Changeover → Changeover) : State := s.modCyc fun c => { c with changeover := c.changeover.map f }

/-- The lower-addressed of two refusals (R44). -/
def lowerRefusal (a b : Option (Nat × Nat)) : Option (Nat × Nat) :=
  match a, b with
  | some x, some y => if y.1 < x.1 then some y else some x
  | some x, none => some x
  | none, y => y

/-- The length in base cycles of a ring `j` tiers below the target: 0 names the target's own device cycle, 1 its down-ring.
The lengths deeper down are learned at integration by a way that the spec does not state: they are free, a multiple 1 to 16
of the ring above within 10 ms (R15; log 68). -/
def ringSteps (s : State) : Nat → Nat
  | 0 => cycleStep s
  | 1 => max 1 (s.drove.cfg.cycleUs / max 1 (lBase s))
  | j + 2 =>
    let m := ringSteps s (j + 1)
    let k := m * (1 + (Config.openValue (2 ^ 200 + j)).toNat % 16)
    if k * lBase s ≤ 10000 then k else m

/-- M_1 + … + M_n of R41. -/
def ringStepSum (s : State) (n : Nat) : Nat := ((List.range n).map fun j => ringSteps s (j + 1)).sum

/-- The down-ring is an affected ring of a changeover with RING set (R37). -/
def ringAffected (s : State) (ring : Bool) : Bool := ring && s.drove.downStarted && s.drove.armed.isSome

/-- A ring below the deepest participants is an affected ring (R41). The target sees in its topology table whether such a ring
runs; whether a mode is ARMED on it is stated nowhere, so that is free (log 68). -/
def deepAffected (s : State) (tiers : Nat) (ring : Bool) : Bool :=
  let depth := field s.drove.devAddr 18 2 + tiers
  ring && (s.drove.topo.any fun e => field e.1 18 2 == depth && e.2.ubr && e.2.integrated && e.2.downRunning) &&
    (Config.openValue (2 ^ 201 + s.fresh)).toNat % 2 == 1

/-- M_max of R41: the device cycles of the participants, and the cycles of the affected rings. -/
def longestStep (s : State) (tiers : Nat) (ring : Bool) : Nat :=
  let below := if tiers = 0 then ringAffected s ring else deepAffected s tiers ring
  let n := if below then tiers + 2 else tiers + 1
  (List.range n).foldl (fun m j => max m (ringSteps s j)) 1

/-- MIN_LEAD of R41. -/
def minLead (s : State) (tiers : Nat) (ring : Bool) : Nat := 3 * ringStepSum s tiers + 6 * longestStep s tiers ring

/-- The UBR members that take part with FORWARD_ALL (R38). -/
def coMembers (s : State) : List Nat := (presentMembers s).filter fun m => (memberOf s m).ubr

/-- Tiers of UBR devices below this one (R41), by the topology table. -/
def tiersBelow (s : State) : Nat :=
  let own := field s.drove.devAddr 18 2
  s.drove.topo.foldl (fun n e => if e.2.ubr ∧ e.2.integrated ∧ own < field e.1 18 2 then max n (field e.1 18 2 - own) else n) 0

/-- The time in µs from the start of the base cycle in progress to that of base cycle `x`, and the clock of the former. -/
def coAligned (s : State) (x len : Nat) : Bool :=
  let base := s.clock / clocksOfUs (max 1 (lBase s)) * lBase s
  len == 0 || (base + (cycDiff x (baseCycle s)).toNat * lBase s) % len == 0

/-- Why this device refuses a changeover (R40), 0: it does not. Arming implies verification, so NOT_VERIFIED does not arise. ALIGN
counts every ring of the device that runs, affected or not. -/
def coRefusal (s : State) (x : Nat) (loop : Bool) : Nat :=
  if s.dev.mode == .configure || s.dev.mode == .safe || s.dev.mode == .graze then 2
  else if changeoverPending s || (loop && s.host.timed.any fun t => t.op == .loopBankSwap) then 3
  else if !coAligned s x (lDev s) || (s.drove.downStarted && !coAligned s x s.drove.cfg.cycleUs) then 4
  else if s.pair.role.holds && s.pair.peerSyncing then 7
  else 0

/-- A record of a participant with the CO_ID (R44; log 7). -/
def State.coRecord (s : State) (coId : Nat) : State := s.recordEv 0 49 0 coId

/-- The reply words of DEV.CHANGEOVER (R44). -/
def coWords (coId outcome acked deferred : Nat) (refusal : Option (Nat × Nat)) (lead : Nat) : List Word :=
  let r := refusal.getD (0, 0)
  [wd (coId + place 16 outcome), wd acked, wd deferred, wd (r.1 + place 24 r.2), wd (min lead 0xFFFF)]

/-- DEV.CHANGEOVER on the target (R44). The forwarding to the devices below is PREPARE's. -/
def cmdDevChangeover (p : Packet) (s : State) : State × Verdict :=
  let x := p.w 0; let w := p.w 1; let coId := field w 16 16; let ring := bit w 2
  let tiers := if p.forwardAll then tiersBelow s else 0
  let lead := minLead s tiers ring
  checked
    [(p.len ≠ 2, stBadLength), (reservedSet w 0xFFF8 || field w 0 3 == 0, stRange),
     (s.dev.mode == .configure || s.dev.mode == .safe || s.dev.mode == .graze, stBadMode),
     (!cycFuture s x, stTooLate),
     (changeoverPending s || (match s.cyc.changeover with | some c => c.packet.isSome | none => false), stBusy)] s
    (if cycDiff x (baseCycle s) < (lead : Int) then (s, .done stCoLead (coWords coId 1 0 0 none lead))
     else
       let why := coRefusal s x (bit w 1)
       let members := if p.forwardAll ∧ why = 0 then coMembers s else []
       let n := devCycle s
       let co : Changeover := {
         coId := coId, cycle := x, graph := bit w 0, loop := bit w 1, ring := ring, target := true, packet := some p, prepared := n
         decideAt := (n + 2 * ringStepSum s tiers + 3 * longestStep s tiers ring) % 2 ^ 32, minLead := lead, tiers := tiers
         affected := why == 0 && ringAffected s ring, below := members, outstanding := members
         refusal := if why = 0 then none else some (s.drove.devAddr, why) }
       let s := s.modCyc fun c => { c with changeover := some co }
       let s := members.foldl (fun s m => s.coDown m (.prepare coId x co.graph co.loop co.ring)) s
       (s, .waits))

def execDevChangeover (p : Packet) (s : State) : Host.Outcome State Fault Refusal := command .devChangeover cmdDevChangeover p s

/-- What the members of the affected ring have answered to ANNOUNCE within their window (10 R376): a refusal of the ring, and
whether every one has acknowledged. What becomes of a member's path after its answer changes nothing (R41). -/
def ringVotes (s : State) (c : Changeover) (final : Bool) : Option (Nat × Nat) × Bool :=
  if !c.affected then (none, true)
  else if !c.announced then (if final then some (s.drove.devAddr, 6) else none, false)
  else
    match c.voters.find? fun m => look 0 c.votes m == 2 with
    | some m => (some (memberAddr s m, 6), true)
    | none => match c.voters.find? fun m => look 0 c.votes m != 1 with
      | some m => (if final then some (memberAddr s m, 5) else none, false)
      | none => (none, true)

/-- The window in which members acknowledge is over (10 R376): from two ring cycles before FIRST_CYCLE. -/
def voteOver (s : State) (c : Changeover) : Bool := cycDiff (ringCycleAfter s true (ringCycleNo s true) 2) c.cycle ≥ 0

/-- Participants that acknowledged, this device included (R44). -/
def coAcked (c : Changeover) : Nat := 1 + (c.counts.map (·.2)).sum

/-- The refusal kept is this device's own. -/
def ownRefusal (s : State) (c : Changeover) : Bool := match c.refusal with | some r => r.1 == s.drove.devAddr | none => false

/-- CHANGEOVER_REPORT (R41): a participant that is not the target reports upward. -/
def changeoverReport (s : State) : State :=
  match s.cyc.changeover with
  | none => s
  | some c =>
    let v := ringVotes s c (voteOver s c)
    if c.target || c.reported || c.swapped || !c.outstanding.isEmpty || !(v.2 || v.1.isSome) ||
        cycDiff (devCycle s) (cycleAfter s c.prepared 3) < 0 then s
    else
      let r := lowerRefusal c.refusal v.1
      (s.modCo fun c => { c with reported := true, acked := r.isNone, refusal := r }).coUp (.report c.coId (coAcked c - flag (ownRefusal s c)) r)

def execChangeoverReport (t : Nat) (s : State) : Host.Outcome State Fault Refusal := event true t changeoverReport s

/-- The outcome goes to the subordinate devices that were sent PREPARE (R41). -/
def State.distribute (s : State) (c : Changeover) (commit : Bool) : State :=
  let s := s.modCyc fun y => { y with lastOutcome := some (c.coId, c.cycle, commit) }
  c.below.foldl (fun s m => s.coDown m (.outcome c.coId c.cycle commit)) s

/-- The target cancels: the ring's announcement ends in CANCEL (10 R376), the armed items stay armed. -/
def State.coCancel (s : State) (c : Changeover) (refusal : Option (Nat × Nat)) : State :=
  let s := (s.distribute c false).coRecord c.coId
  let s := match c.packet with
    | some p => s.answer .devChangeover p stCoRefused (coWords c.coId 1 (coAcked c - flag (ownRefusal s c)) 0 refusal c.minLead)
    | none => s
  s.modCyc fun y => { y with changeover := none }

/-- The commit point of D has come (R41): what reaches the target from then on has no effect. -/
def decideReached (s : State) (c : Changeover) : Bool :=
  0 < cycDiff (devCycle s) c.decideAt || (devCycle s == c.decideAt && pastCommitPoint s)

/-- CHANGEOVER_DECIDE (R39, R41): at the commit point of D. -/
def changeoverDecide (s : State) : State :=
  match s.cyc.changeover with
  | none => s
  | some c =>
    if !c.target || c.outcome.isSome || !decideReached s c then s
    else
      let v := (ringVotes s c true).1
      let missing := (c.outstanding.map fun m => (memberAddr s m, 5)).head?
      let r := lowerRefusal (lowerRefusal c.refusal v) missing
      if r.isSome then s.coCancel c r
      else ((s.modCo fun c => { c with outcome := some true }).distribute c true).coRecord c.coId

def execChangeoverDecide (t : Nat) (s : State) : Host.Outcome State Fault Refusal := event true t changeoverDecide s

/-- The commit point of X − 1 is past: a participant that learns COMMIT from then on does not swap at X (R42). -/
def swapMissed (s : State) (c : Changeover) : Bool :=
  0 ≤ cycDiff (devCycle s) c.cycle || (cycleAfter s (devCycle s) 1 == c.cycle && pastCommitPoint s)

/-- The earliest boundary at which a late swap can be made (R42): the next device cycle after X, or with an affected ring six of
its cycles on. -/
def catchUpCycle (s : State) (c : Changeover) : Nat :=
  if ringAffected s c.ring then ringCycleAfter s true (ringCycleNo s true) 6
  else cycleAfter s (devCycle s) (if cycleAfter s (devCycle s) 1 = c.cycle then 2 else 1)

/-- COMMIT is learned after X: the entry takes a new boundary, for which its own ring is announced again (R42). A swap that
was made before a reset is not made again (R639). -/
def State.coCatchUp (s : State) (c : Changeover) : State :=
  if c.swapped then s.modCyc fun y => { y with unresolved := false }
  else
    let at' := catchUpCycle s c
    let again := ringAffected s c.ring
    let n := devCycle s
    s.modCo fun c => { c with catchUp := some at', affected := again, announced := false, voters := [], votes := [], prepared := n }

/-- CHANGEOVER_MESSAGE (R41, R42, R639): a message from member `src`, or from the manager above. -/
def changeoverMessage (src : Option Nat) (msg : CoMsg) (s : State) : State :=
  match msg, src with
  | .prepare coId x g l r, none =>
    let why := coRefusal s x l
    if why ≠ 0 then s.coUp (.report coId 0 (some (s.drove.devAddr, why)))
    else
      let members := coMembers s
      let co : Changeover := {
        coId := coId, cycle := x, graph := g, loop := l, ring := r, target := false, prepared := devCycle s
        affected := ringAffected s r, below := members, outstanding := members }
      members.foldl (fun s m => s.coDown m msg) (s.modCyc fun c => { c with changeover := some co })
  | .report coId n refusal, some m =>
    (match s.cyc.changeover with
    | none => s
    | some c =>
      if c.coId ≠ coId ∨ c.outcome.isSome ∨ ¬ c.below.contains m ∨ (c.target ∧ decideReached s c) then s
      else
        let s := s.modCo fun c => { c with
          outstanding := c.outstanding.filter (· ≠ m), counts := put 0 c.counts m n, refusal := lowerRefusal c.refusal refusal }
        -- a refusal that comes after the report goes on toward the target (R639)
        if c.reported ∧ refusal.isSome then s.coUp (.report coId (coAcked { c with counts := put 0 c.counts m n }) refusal) else s)
  | .outcome coId x commit, none =>
    (match s.cyc.changeover with
    | none => s
    | some c =>
      if c.target ∨ c.coId ≠ coId ∨ c.cycle ≠ x ∨ c.outcome.isSome then s
      else
        let s := s.distribute c commit
        if commit then
          let s := s.modCo fun c => { c with outcome := some true }
          if swapMissed s c then s.coCatchUp c else s.modCyc fun y => { y with unresolved := false }
        else (s.coRecord coId).modCyc fun y => { y with changeover := none, unresolved := false })
  | .deferred coId n, some _ =>
    (match s.cyc.changeover with
    | none => s
    | some c =>
      if c.coId ≠ coId then s
      else if c.target then s.modCo fun c => { c with deferred := c.deferred + n }
      else s.coUp (.deferred coId n))
  | _, _ => s

/-- CHANGEOVER_MESSAGE: a message reaches this device from member `src`, or with none from the manager above. -/
def execChangeoverMessage (src : Option Nat) (m : CoMsg) (t : Nat) (s : State) : Host.Outcome State Fault Refusal :=
  event (match src with | some n => n < 64 | none => true) t (changeoverMessage src m) s

/-- Participants below that have not acknowledged the outcome: those that the reports of their branches counted. -/
def unlearned (s : State) (c : Changeover) : Nat :=
  let waits (m : Nat) : Bool :=
    let q := (memberOf s m).peer
    q.out.any (fun p => p == { kind := 4, words := coMsgWords (.outcome c.coId c.cycle true) }) ||
    q.sent.any (fun p => p.packet == { kind := 4, words := coMsgWords (.outcome c.coId c.cycle true) })
  ((c.below.filter waits).map fun m => look 0 c.counts m).sum

/-- CO_UNRESOLVED (R42): at the commit point of X − 1, a participant that has acknowledged and lacks the outcome; a manager
tells the target how many below it lack it. -/
def coUnresolved (s : State) : State :=
  match s.cyc.changeover with
  | none => s
  | some c =>
    if c.swapped ∨ cycleAfter s (devCycle s) 1 ≠ c.cycle ∨ ¬ pastCommitPoint s then s
    else match c.outcome with
      | none => if c.acked then s.modCyc fun y => { y with unresolved := true } else s
      | some true =>
        let n := unlearned s c
        if n = 0 then s else if c.target then s.modCo fun c => { c with deferred := c.deferred + n } else s.coUp (.deferred c.coId n)
      | some false => s

def execCoUnresolved (t : Nat) (s : State) : Host.Outcome State Fault Refusal := event true t coUnresolved s

/-- A device in CO_UNRESOLVED commits no image tagged X or later (R42). -/
def coBlocks (s : State) (k : Nat) : Bool :=
  s.cyc.unresolved && (match s.cyc.changeover with | some c => 0 ≤ cycDiff k c.cycle | none => true)

/-- The announcement of an affected ring begins in the cycle after PREPARE (R41, 10 R376): each switch adds 1 to the epoch. -/
def State.coAnnounce (s : State) : State :=
  match s.cyc.changeover, s.drove.armed with
  | some c, some m =>
    if !c.affected || c.announced || c.prepared == devCycle s || c.refusal.isSome then s
    else
      let first := c.catchUp.getD c.cycle
      let a : Announce := { newMode := m, newEpoch := (s.drove.down.epoch + 1) % 65536, firstCycle := first, coId := c.coId }
      let voters := presentMembers s
      (s.modIface true fun k => { k with announce := some a }).modCo fun c => { c with announced := true, voters := voters }
  | _, _ => s

/-- Two ring cycles before FIRST_CYCLE an announced switch is confirmed, if the changeover has committed (R41, 10 R376). -/
def State.coConfirm (s : State) : State :=
  match s.cyc.changeover with
  | some c =>
    if c.announced && c.outcome == some true && (ringVotes s c false).2 && (ringVotes s c false).1.isNone then
      s.modIface true fun k => { k with announce := k.announce.map fun a => if a.coId = c.coId then { a with confirmed := true } else a }
    else s
  | none => s

/-- The swap of R37: armed program slots moult, armed loop banks swap; the ring switches by its own announcement. -/
def State.coSwap (s : State) (c : Changeover) (x : Nat) : State :=
  let s := if c.graph then (armedSlots s).foldl (fun s n => s.moult n x) s else s
  let s := if c.loop then loopChangeover s else s
  let s := s.modCyc fun y => { y with unresolved := false }
  (s.modCo fun c => { c with swapped := true }).coRecord c.coId

/-- The target's reply once the swap is made, with EXEC_CYCLE X (R44): the counts from below take a cycle for each tier. -/
def State.coReply (s : State) : State :=
  match s.cyc.changeover with
  | some c =>
    (match c.packet with
    | some p =>
      if c.swapped ∧ 0 ≤ cycDiff (devCycle s) (cycleAfter s c.cycle c.tiers) then
        (s.modCo fun c => { c with packet := none }).answerAt .devChangeover p c.cycle
          (if c.deferred ≠ 0 then stCoDeferred else if c.retried then stOkRetried else stOk)
          (coWords c.coId (if c.deferred = 0 then 0 else 2) (coAcked c) c.deferred none c.minLead)
      else s
    | none => s)
  | none => s

/-- The changeover part of the start of cycle `k` (R37, R42, R43). A device that comes back from a reset with COMMIT known
and X gone by catches up. -/
def coAtStart (k : Nat) (s : State) : State :=
  let s := (s.coAnnounce).coConfirm
  let s := match s.cyc.changeover with
    | some c =>
      if c.outcome = some true ∧ ¬ c.swapped then
        if (c.cycle = k ∧ c.catchUp.isNone) ∨ c.catchUp = some k then s.coSwap c k
        else if 0 < cycDiff k c.cycle ∧ c.catchUp.isNone then s.coCatchUp c
        else s
      else s
    | none => s
  s.coReply

/-- The entry has done its work once an image of X or later is complete (R639). -/
def coForget (s : State) : State :=
  match s.cyc.changeover with
  | some c =>
    if c.swapped ∧ c.packet.isNone ∧ s.keep.image.any (fun i => 0 ≤ cycDiff i.cycle c.cycle) then
      s.modCyc fun y => { y with changeover := none }
    else s
  | none => s

/-- Entry to SAFE (R639): a target that has not decided cancels; a participant that has not learned the outcome sends a
refusal with reason MODE. -/
def coSafe (s : State) : State :=
  match s.cyc.changeover with
  | some c =>
    if c.outcome.isSome ∨ c.swapped then s
    else
      let r := some (s.drove.devAddr, 2)
      if c.target then s.coCancel c (lowerRefusal c.refusal r)
      else (s.modCo fun c => { c with reported := true, refusal := lowerRefusal c.refusal r }).coUp (.report c.coId (coAcked c - 1) r)
  | none => s

/-- A warm or watchdog reset begins (R639): a target that has not decided cancels, and tells it to the members when they
integrate again; an acknowledged participant keeps the entry. -/
def coReset (s : State) : State :=
  match s.cyc.changeover with
  | some c =>
    if c.target then
      if c.outcome.isNone then s.modCyc fun y => { y with changeover := none, lastOutcome := some (c.coId, c.cycle, false) }
      else s.modCo fun c => { c with packet := none }
    else if c.acked then s.modCo fun c => { c with outcome := none }
    else s.modCyc fun y => { y with changeover := none }
  | none => s

/-- A reset ended in a resume (R639): the participant is CO_UNRESOLVED until it has learned the outcome. -/
def coResumed (s : State) : State :=
  match s.cyc.changeover with
  | some c => if c.target ∧ c.swapped then s else s.modCyc fun y => { y with unresolved := true }
  | none => s

end Sys2Proof.Machine
end

