-- ==== Sys2Proof/Machine/LoopCmd.lean ====
section
/-! DEFINITION. The LOOP commands (06 R222–R231), DIO.PWM_CONFIG (08 R302) and the reference check of channels and of the
destinations that graph programs share with them (03 R93; 06 R193, R195). -/

namespace Sys2Proof.Machine

/-! ### Words of a configuration (R193, R195, R204) -/

/-- The bits that a source word of each KIND uses (R193). -/
def sourceBits (w : Nat) : Nat :=
  match field w 0 4 with
  | 2 => 0xFFF | 3 => 0x3FF | 4 => 0xFFFF | 5 => 0xFFFFFF | 6 => 0x3FFFF | _ => 0xF

/-- A source word is out of range: `pv` where IMAGE is not allowed. -/
def sourceRange (s : State) (pv : Bool) (w : Nat) : Bool :=
  let kind := field w 0 4
  6 < kind || (pv && kind == 1) || w - w % (sourceBits w + 1) != 0 ||
  (match kind with
   | 3 => field w 8 2 == 3
   | 4 => loopChannels s ≤ field w 4 10
   | 5 => field w 4 2 != 0 || field w 22 2 == 3
   | _ => false)

/-- A destination word is out of range. -/
def destRange (w : Nat) : Bool :=
  match field w 0 4 with
  | 0 => w != 0
  | 1 => w / 2 ^ 9 != 0
  | 2 => w / 2 ^ 24 != 0 || field w 4 2 != 0 || field w 22 2 == 3
  | _ => true

/-- A configuration is out of range (R204, R223). -/
def loopCfgRange (s : State) (w : Nat → Nat) : Bool :=
  let p := field (w 0) 0 14
  p < 10 || 10000 < p || bit (w 0) 23 || sourceRange s true (w 1) || sourceRange s false (w 2) || sourceRange s false (w 3) ||
  sourceRange s false (w 4) || destRange (w 7)

/-- A source refers to an item that fails (R193; 08 R271). -/
def sourceRefBad (s : State) (period w : Nat) : Bool :=
  match field w 0 4 with
  | 2 =>
    let n := field w 4 7
    let inGroup (g : Nat) : Bool :=
      let k := look {} s.adc.groups g
      k.trig == 2 && bit k.convMask (n / 8) && field k.sel (3 * (n / 8)) 3 == n % 8 && k.gridUs != 0 && period % max 1 k.gridUs == 0
    !s.present 7 || (bit w 11 && !(List.range 4).any inGroup)
  | 3 => !(encOf s (field w 4 4)).configured
  | 5 => frameWords s (field w 6 6) 0x80 ≤ field w 12 10
  | 6 => !entryPresent s (field w 4 14)
  | _ => false

/-- A destination refers to an item that fails (R195). -/
def destRefBad (s : State) (w : Nat) : Bool :=
  match field w 0 4 with
  | 1 => !(pwmOf s (field w 4 5)).configured
  | 2 => frameWords s 0x80 (field w 6 6) ≤ field w 12 10
  | _ => false

/-- A reference of a channel's configuration fails. -/
def loopRefBad (s : State) (w : Nat → Nat) : Bool :=
  [1, 2, 3, 4].any (fun i => sourceRefBad s (field (w 0) 0 14) (w i)) || destRefBad s (w 7)

/-- The same destination: format bits apart (R195). -/
def sameDest (a b : Nat) : Bool :=
  field a 0 4 == field b 0 4 && (match field a 0 4 with
    | 1 => field a 4 5 == field b 4 5
    | 2 => field a 4 18 == field b 4 18
    | _ => false)

/-- The processor that PROC_AUTO chooses: the lowest load after placement, the lowest number on a tie (R217). -/
def chooseProc (s : State) (c : Nat) : Nat :=
  let load (p : Nat) : Nat := (((procLoops s p).filter (· ≠ c)).map (loopRate s)).sum
  (List.range 8).foldl (fun best p => if load p < load best then p else best) 0

/-- A PWM output that destination `w` names is a channel's no more: where substitute values stand, it takes its own (08 R289;
03 R105). -/
def State.releasePwm (s : State) (w : Nat) : State :=
  let n := field w 4 5
  if field w 0 4 = 1 ∧ s.dio.substitute ∧ ¬ loopDrives s n then s.modPwm n fun q => { q with shadow := q.substDuty } else s

/-- LOOP.CHANNEL_CONFIG (R195, R201, R217, R219, R223). -/
def cmdLoopChannelConfig (p : Packet) (s : State) : State × Verdict :=
  let c := field (p.w 0) 0 10
  let w (i : Nat) : Nat := p.w (1 + i)
  let en := bit (w 0) 14; let was := loopEnabled s c
  let auto := bit (w 0) 18 && en
  let proc := chooseProc s c
  let w0 := if auto then withField (w 0) 15 3 proc else w 0
  let s1 := s.writeWords (loopAddr c) (wd w0 :: (p.params.drop 2).take 11)
  let live := s.dev.mode == .run || s.dev.mode == .hold
  let accepted := !notConfiguring s || (live && (!was || !en))
  let used := en && (enabledLoops s).any fun d => d != c && sameDest (cfgW s d 7) (w 7)
  checked
    [(p.len ≠ 13, stBadLength), (loopChannels s ≤ c || reservedSet (p.w 0) 0xFFFFFC00 || loopCfgRange s w, stRange), (!accepted, stBadMode),
     (en && procOver s1 (field w0 15 3), stLpBudget), (used, stLpDestUsed), (live && en && loopRefBad s w, stLpRef)] s
    (let s1 := if was && !en then (s.writeDest c (destValue s c (cfgW s c 10))).writeWords (loopAddr c) (wd w0 :: (p.params.drop 2).take 11) else s1
     let s1 := if was then s1.releasePwm (cfgW s c 7) else s1
     -- a channel that takes no more samples takes what waits for them at once (log 62)
     let s1 := if en then s1 else s1.takeRequests c
     (s1.modLoopCh c fun k => { k with fresh := en, released := none, bumpless := false },
      .done stOk (if bit (w 0) 18 then [wd (field w0 15 3)] else [])))

def execLoopChannelConfig (p : Packet) (s : State) : Host.Outcome State Fault Refusal :=
  command .loopChannelConfig cmdLoopChannelConfig p s

/-- LOOP.COEF_WRITE (R224). -/
def cmdLoopCoefWrite (p : Packet) (s : State) : State × Verdict :=
  let c := field (p.w 0) 0 10; let act := bit (p.w 0) 10; let first := field (p.w 0) 16 5
  let b := activeB s c != !act
  let a := bankBase c b + 4 * first
  checked
    [(p.len < 2 || 30 < first + (p.len - 1), stBadLength), (loopChannels s ≤ c || reservedSet (p.w 0) 0xFFE0F800, stRange),
     (!act && loopArmed s c, stLpArmed), (act && loopEnabled s c && s.dev.mode != .configure, stLpEnabled)] s
    (s.writeWords a (p.params.drop 1), .done stOk [])

def execLoopCoefWrite (p : Packet) (s : State) : Host.Outcome State Fault Refusal := command .loopCoefWrite cmdLoopCoefWrite p s

/-- The first word of a bank that fails R208. A rule over two words names the first of them (log 62). -/
def bankBad (s : State) (c : Nat) (b : Bool) : Option Nat :=
  let w (i : Nat) : Nat := bankW s c b i
  let f := Fmt.b32
  let finite (i : Nat) : Bool := f.isFinite (w i) || ((i == 20 || i == 23) && w i == 0x7F800000)
  let below (x y : Nat) : Bool := f.lt x y
  let filterA1 (k : Nat) : Bool := below (f.abs (w (k + 3))) (f.add 0x3F800000 (w (k + 4)))
  let filterA2 (k : Nat) : Bool := below (f.abs (w (k + 4))) 0x3F800000
  let good (i : Nat) : Bool :=
    if 28 ≤ i then
      if i = 28 then !reservedSet (w 28) 0xA000E000 &&
        (!hasTable s c || (8 ≤ field (w 28) 0 13 && field (w 28) 0 13 ≤ 4096 && field (w 28) 16 13 < field (w 28) 0 13))
      else w 29 < 2
    else finite i && (match i with
      | 3 => filterA1 0 | 4 => filterA2 0 | 8 => filterA1 5 | 9 => filterA2 5
      | 13 => f.le 0 (w 13) && below (w 13) 0x3F800000
      | 18 => f.le (w 18) (w 19)
      | 21 => f.le (w 21) (w 22)
      | 20 | 23 | 27 => f.le 0 (w i)
      | _ => true)
  (List.range 30).find? fun i => !good i

/-- The channels FIRST to LAST of a range command. -/
def loopRange (p : Packet) : List Nat := rangeOf (field (p.w 0) 0 10) (field (p.w 0) 16 10)

/-- A channel range or its reserved bits fail. -/
def loopRangeBad (s : State) (p : Packet) (mask : Nat) : Bool :=
  reservedSet (p.w 0) mask || field (p.w 0) 16 10 < field (p.w 0) 0 10 || loopChannels s ≤ field (p.w 0) 16 10

/-- LOOP.BANK_ARM (R208, R210, R225). -/
def cmdLoopBankArm (p : Packet) (s : State) : State × Verdict :=
  let disarm := bit (p.w 0) 31
  let cs := loopRange p
  checked
    [(p.len ≠ 1, stBadLength), (loopRangeBad s p 0x7C00FC00, stRange), (disarm && changeoverPending s, stBusy)] s
    (if disarm then
       let armed := cs.filter (loopArmed s)
       (armed.foldl State.disarmLoop s, .done stOk [wd armed.length, 0])
     else match cs.findSome? fun c => (bankBad s c (!activeB s c)).map fun i => (c, i) with
       | some (c, i) => (s, .done stLpCoef [0, wd (c + place 16 i)])
       | none => (cs.foldl (fun s c => s.setStatus c 4 1 1) s, .done stOk [wd cs.length, 0]))

def execLoopBankArm (p : Packet) (s : State) : Host.Outcome State Fault Refusal := command .loopBankArm cmdLoopBankArm p s

/-- A command that takes effect at each channel's next sample (R222): channels that take no samples, because they are
disabled, take it at once (DESIGN CHOICE, log 62). `now` are the channels that take it at execution in any case. -/
def loopDefer (op : Op) (p : Packet) (cs : List Nat) (atOnce : Bool) (s : State) : State × Verdict :=
  let later := if atOnce then [] else cs.filter (loopEnabled s)
  let t := (cs.filter fun c => !later.contains c).foldl (fun s c => s.loopTake op p c) s
  if later.isEmpty then (t, .done stOk (loopReply op cs.length)) else t.defer op p (cs.length :: later)

/-- LOOP.BANK_SWAP (R209, R210, R226). -/
def cmdLoopBankSwap (p : Packet) (s : State) : State × Verdict :=
  let cs := (loopRange p).filter (loopArmed s)
  checked
    [(p.len ≠ 1, stBadLength), (loopRangeBad s p 0xFC00FC00, stRange), (s.dev.mode == .safe || s.dev.mode == .graze, stBadMode),
     (changeoverPending s, stBusy), (cs.isEmpty, stLpNotArmed)] s
    (loopDefer .loopBankSwap p cs (s.dev.mode == .configure) s)

def execLoopBankSwap (p : Packet) (s : State) : Host.Outcome State Fault Refusal := command .loopBankSwap cmdLoopBankSwap p s

/-- LOOP.MODE (R198, R199, R227). -/
def cmdLoopMode (p : Packet) (s : State) : State × Verdict :=
  let host := bit (p.w 0) 28
  checked
    [(p.len ≠ 2, stBadLength),
     (loopRangeBad s p 0xE000FC00 || (!host && field (p.w 0) 26 2 != 0) || !Fmt.b32.isFinite (p.w 1), stRange)] s
    (loopDefer .loopMode p (loopRange p) false s)

def execLoopMode (p : Packet) (s : State) : Host.Outcome State Fault Refusal := command .loopMode cmdLoopMode p s

/-- LOOP.STATE_READ (R228). -/
def cmdLoopStateRead (p : Packet) (s : State) : State × Verdict :=
  let c := field (p.w 0) 0 10
  checked [(p.len ≠ 1, stBadLength), (loopChannels s ≤ c || reservedSet (p.w 0) 0xFFFFFC00, stRange)] s
    (s, .done stOk (readWords s (loopAddr c + 0x280) 23))

def execLoopStateRead (p : Packet) (s : State) : Host.Outcome State Fault Refusal := command .loopStateRead cmdLoopStateRead p s

/-- LOOP.REP_CONFIG (R203, R229). A release that names a table of another channel leaves that table as it is (DEDUCED, log 62). -/
def cmdLoopRepConfig (p : Packet) (s : State) : State × Verdict :=
  let w := p.w 0
  let c := field w 0 10; let t := field w 10 7; let assign := bit w 17; let axisMode := bit w 18; let ax := field w 19 8
  let used := (List.range (loopChannels s)).any fun d => d != c && hasTable s d && tableOf s d == t
  checked
    [(p.len ≠ 2, stBadLength),
     (repChannels s == 0 || loopChannels s ≤ c || reservedSet w 0xF8000000 ||
        (if axisMode then axes s ≤ ax || p.w 1 == 0 else ax != 0 || p.w 1 != 0), stRange),
     (assign && used, stLpTableUsed), (repState s c != 0, stLpRepActive),
     (axisMode && (axisOf s ax).kind == 0, stLpRef)] s
    (let s := if hasTable s c then s.clearTable (tableOf s c) else s
     let s := if used then s else s.clearTable t
     let w12 := t + place 7 (flag assign) + place 8 (flag axisMode) + place 9 ax
     (s.writeWords (loopAddr c + 48) [wd w12, wd (p.w 1)], .done stOk []))

def execLoopRepConfig (p : Packet) (s : State) : Host.Outcome State Fault Refusal := command .loopRepConfig cmdLoopRepConfig p s

/-- LOOP.REP_CONTROL (R214, R230). -/
def cmdLoopRepControl (p : Packet) (s : State) : State × Verdict :=
  checked
    [(p.len ≠ 1, stBadLength), (loopRangeBad s p 0xCC00FC00 || repChannels s == 0, stRange)] s
    (loopDefer .loopRepControl p ((loopRange p).filter (hasTable s)) false s)

def execLoopRepControl (p : Packet) (s : State) : Host.Outcome State Fault Refusal := command .loopRepControl cmdLoopRepControl p s

/-- The period of the PWM output a channel drives, in ns (R231). -/
def destPeriodNs (s : State) (c : Nat) : Nat :=
  let w := cfgW s c 7
  if field w 0 4 = 1 then nsOf (pwmOf s (field w 4 5)).periodClk else 0

/-- LOOP.LATENCY (R220, R231). -/
def cmdLoopLatency (p : Packet) (s : State) : State × Verdict :=
  let c := field (p.w 0) 0 10
  let words : List Word := [wd (loopProc s c), wd (releaseNs s c), wd (respNs s c), wd (outNs s c),
    wd (if loopEnabled s c then boundNs s c else 0), wd (stW s c 20), wd (stW s c 21), wd (procLoad s (loopProc s c)), wd (destPeriodNs s c)]
  checked [(p.len ≠ 1, stBadLength), (loopChannels s ≤ c || reservedSet (p.w 0) 0x7FFFFC00, stRange)] s
    (if bit (p.w 0) 31 then s.setStW c 21 0 else s, .done stOk words)

def execLoopLatency (p : Packet) (s : State) : Host.Outcome State Fault Refusal := command .loopLatency cmdLoopLatency p s

/-! ### DIO.PWM_CONFIG (08 R288, R293, R302) -/

/-- DIO.PWM_CONFIG: an output that a loop channel drives returns ST_DIO_OWNED (log 63). -/
def cmdDioPwmConfig (p : Packet) (s : State) : State × Verdict :=
  let n := field (p.w 0) 0 5
  let period := p.w 1; let phase := p.w 2; let minClk := p.w 3
  checked
    [(p.len ≠ 5, stBadLength),
     (reservedSet (p.w 0) 0xFFFFFF00 || period < 16 || 0xFFFFFF < period || period ≤ phase || 0xFFFF < minClk || period ≤ 2 * minClk ||
        !inUnitInterval (p.w 4), stRange),
     (notConfiguring s, stBadMode), (loopOwnsPwm s n, stDioOwned)] s
    (s.modPwm n fun q => { q with
        configured := true, center := bit (p.w 0) 5, dither := bit (p.w 0) 6, activeLow := bit (p.w 0) 7
        periodClk := period, phaseClk := phase, minClk := minClk, substDuty := p.w 4, frac := 0
        shadow := if s.dio.substitute then p.w 4 else q.shadow, hi := 0, startAt := none }, .done stOk [])

def execDioPwmConfig (p : Packet) (s : State) : Host.Outcome State Fault Refusal := command .dioPwmConfig cmdDioPwmConfig p s

/-! ### The checks of READY (03 R93, R107) -/

/-- A processor breaks R217 or R219 (LOOP_BUDGET). -/
def loopBudgetBad (s : State) : Bool := (List.range 8).any (procOver s)

/-- A source, destination or axis of an enabled channel fails, or two of them claim one destination. -/
def loopRefsBad (s : State) : Bool :=
  (enabledLoops s).any fun c => loopRefBad s (cfgW s c) ||
    (hasTable s c && bit (cfgW s c 12) 8 && (axisOf s (field (cfgW s c 12) 9 8)).kind == 0)

/-- A loop channel or a graph operation writes a destination word of a remote axis, or a graph operation that of a loop channel
(R195, 07 R250). -/
def destClaimed (s : State) : Bool :=
  let pwms := (enabledLoops s).filterMap fun c => if field (cfgW s c 7) 0 4 = 1 then some (field (cfgW s c 7) 4 5) else none
  let loops := (enabledLoops s).filterMap fun c =>
    if field (cfgW s c 7) 0 4 = 2 then some (field (cfgW s c 7) 6 6 * 1024 + field (cfgW s c 7) 12 10) else none
  let words := axisClaims s ++ loops
  let clash (e : OpEntry) : Bool := match GOp.ofCode e.code with
    | some .pwmOut => pwms.contains e.param
    | some .rout => words.contains (ringMember e.param * 1024 + ringWord e.param)
    | _ => false
  loops.any (axisClaims s).contains || (List.range 4).any fun n => hasProgram s n &&
    (List.range (imgOps s (activeAddr s n))).any fun i => clash (opEntry s (activeAddr s n) i)

end Sys2Proof.Machine
end

