-- ==== Sys2Proof/Machine/Maps.lean ====
section
/-! DEFINITION. The up-map and the down-map: data words of a member that is a device of a tier (11 R419, R420). -/

namespace Sys2Proof.Machine

/-- The shared variable that an entry names. -/
def mapVar (s : State) (e : MapEntry) : Option VarLoc := forceVar s 0 (2 ^ 31 + e.ref % 2 ^ 31)

/-- A reference of a map fails at the transition to READY (R420). -/
def mapEntryBad (s : State) (down : Bool) (e : MapEntry) : Bool :=
  match e.kind with
  | 1 => if down then e.ref < 0x3000 || 0x4000 ≤ e.ref || tyWords (entryType s e.ref) ≠ 1 else !entryPresent s e.ref
  | 2 => !bit e.ref 31 || (match mapVar s e with | some v => decide (v.count ≤ e.elem) | none => true)
  | _ => false

def mapRefBad (s : State) : Bool :=
  s.drove.upMap.any (fun e => mapEntryBad s false e.2) || s.drove.downMap.any fun e => mapEntryBad s true e.2

/-- The low or the high word of a value. -/
def halfWord (high : Bool) (v : Nat) : Nat := if high then v / 2 ^ 32 else v % 2 ^ 32

/-- The word of the input data at the input instant (R420). An element in a poisoned word ends in a bus error, and the word is
free. -/
def upWord (e : MapEntry) (s : State) : State × Word :=
  match e.kind with
  | 1 => match look none s.acq.latest e.ref with
    | some (_, v) => (s, wd (halfWord e.high v))
    | none => (s, 0)
  | 2 => match mapVar s e with
    | some v => if readFails s v e.elem then (s.takeFree.2, s.takeFree.1) else (s, wd (halfWord e.high (varValue s v e.elem)))
    | none => (s, 0)
  | _ => (s, 0)

/-- The words of entries `w` upward, `n` of them. -/
def upWordsFrom (w : Nat) : Nat → State → State × List Word
  | 0, s => (s, [])
  | n + 1, s =>
    let r := upWord (look {} s.drove.upMap w) s
    let q := upWordsFrom (w + 1) n r.1
    (q.1, r.2 :: q.2)

/-- Data words of the DATA slots of a mode from `src` to `dst` (10 R374). -/
def slotWords (ws : List Word) (src dst : Nat) : Nat := ((dataSlots ws src dst).map fun i => (slotAt ws i).lenW - 1).sum

/-- The device's input data is formed at its input instant. -/
def formUpWords (s : State) : State :=
  match s.drove.member with
  | none => s
  | some m =>
    let r := upWordsFrom 0 (slotWords (modeInForce s false) m 0x80) s
    r.1.modDrove fun d => { d with upWords := r.2 }

/-- One word of the output data is written to its mapping (R420): unforced, both words of a two-word value at the same instant. -/
def downWord (e : MapEntry) (x : Nat) (s : State) : State :=
  match e.kind with
  | 1 => if e.ref < 0x3000 ∨ 0x4000 ≤ e.ref then s else publishUser e.ref x s
  | 2 => match mapVar s e with
    | some v =>
      if v.count ≤ e.elem ∨ writeFails s v e.elem then s
      else
        let old := storedValue s v e.elem
        s.storeValue v e.elem (if tyWords v.type = 1 then x else if e.high then old % 2 ^ 32 + place 32 x else old / 2 ^ 32 * 2 ^ 32 + x)
    | none => s
  | _ => s

/-- The output data of a committed image, as its frames brought it (10 R374). -/
def keepOutputData (s : State) : State :=
  let ws := modeInForce s false
  let words := s.drove.outFrames.foldl (fun t f =>
    f.words.zipIdx.foldl (fun t e => put 0 t (dataOffset ws f.slot + e.2) e.1.toNat) t) s.drove.downWords
  s.modDrove fun d => { d with downWords := words }

/-- DOWN_MAP_WRITE (R420): the output data of the applied image. -/
def downMapWrite (s : State) : State :=
  match s.drove.member with
  | none => s
  | some m =>
    let n := slotWords (modeInForce s false) 0x80 m
    s.drove.downMap.foldl (fun s e => if e.1 < n then downWord e.2 (look 0 s.drove.downWords e.1) s else s) s

end Sys2Proof.Machine
end

