-- ==== Sys2Proof/Machine/Island.lean ====
section
/-! DEFINITION. The safety island: stops, timers, inputs and outputs, and the SAFE commands (14). Island times are taken
from events; a timer's event acts from 97 % of its nominal time on (R483; log 46). -/

namespace Sys2Proof.Machine

/-! ### The switch word and the parameters (R489–R493) -/

/-- T_HW in ms of a class (R490). -/
def tHwMs (cls : Nat) : Nat := ([0, 20, 50, 100, 200, 500, 1000, 2000] : List Nat).getD cls 0

def SafeUnit.tClass (u : SafeUnit) : Nat := field u.swA 0 3

/-- The pairs of the group of a pair (GROUPS, R489). -/
def SafeUnit.group (u : SafeUnit) (n : Nat) : Nat := if bit u.swA 3 then (if n < 4 then 0x0F else 0xF0) else 0xFF

/-- Word `i` of the set in force; 0 without one. -/
def SafeUnit.w (u : SafeUnit) (i : Nat) : Nat := (u.params.getD i 0).toNat

/-- MODE of a pair: 0 STO, 1 SS1-t, 2 SS1-r. -/
def SafeUnit.mode (u : SafeUnit) (p : Nat) : Nat := field (u.w (5 + 6 * p)) 1 2

def SafeUnit.ss1MaxMs (u : SafeUnit) (p : Nat) : Nat := field (u.w (5 + 6 * p)) 8 16
def SafeUnit.hbAction (u : SafeUnit) : Nat := field (u.w 3) 10 2
def SafeUnit.mainSafeAction (u : SafeUnit) : Nat := field (u.w 3) 12 2
def SafeUnit.hbTimeoutUs (u : SafeUnit) : Nat := field (u.w 4) 0 17
def SafeUnit.deferMax (u : SafeUnit) : Nat := field (u.w 2) 22 4

/-- FUNCTION, PAIR, TEST and SBC_DELAY_MS of a safe output. -/
def SafeUnit.outFunction (u : SafeUnit) (o : Nat) : Nat := field (u.w (53 + o)) 0 2
def SafeUnit.outPair (u : SafeUnit) (o : Nat) : Nat := field (u.w (53 + o)) 2 3
def SafeUnit.outTest (u : SafeUnit) (o : Nat) : Bool := bit (u.w (53 + o)) 5
def SafeUnit.sbcDelayMs (u : SafeUnit) (o : Nat) : Nat := field (u.w (53 + o)) 6 10

/-- Words 0 to 4 that break R492. -/
def headBad (w : Nat → Nat) : Option Nat :=
  let f := field (w 1) 0 10
  let tp := field (w 1) 10 10
  let ow := field (w 2) 0 10
  let op := field (w 2) 10 12
  if field (w 0) 0 16 ≠ 1 then some 0
  else if f < 200 ∨ 900 < f ∨ tp < 20 ∨ f < tp + 100 ∨ field (w 1) 20 12 < 10 ∨ 1000 < field (w 1) 20 12 then some 1
  else if ow < 20 ∨ 1000 < ow ∨ op < 10 ∨ 1000 < op ∨ op * 1000 < 16 * (ow + 40) ∨ field (w 2) 22 4 = 0 ∨ 2 ^ 26 ≤ w 2 then some 2
  else if field (w 3) 0 10 = 0 ∨ 1000 < field (w 3) 0 10 ∨ field (w 3) 10 2 = 3 ∨ field (w 3) 12 2 = 3 ∨ 2 ^ 14 ≤ w 3 then some 3
  else if w 4 < 100 ∨ 100000 < w 4 then some 4
  else none

/-- The first word of a pair that breaks R492 or R493 (log 54: of a pair not used, the reserved bits alone). -/
def pairBad (w : Nat → Nat) (tClass p : Nat) : Option Nat :=
  let a := 5 + 6 * p
  let en := bit (w a) 0; let mode := field (w a) 1 2; let t := field (w a) 8 16
  let win := field (w (a + 4)) 0 4
  let timeBad := if mode = 0 then t ≠ 0 else t = 0 ∨ tHwMs tClass ≤ t
  if bit (w a) 7 ∨ mode = 3 ∨ (en ∧ timeBad) then some a
  else if en ∧ mode = 2 ∧ w (a + 2) = 0 then some (a + 2)
  else if en ∧ mode = 2 ∧ win ≠ 0 ∧ w (a + 3) * win < 1000 then some (a + 3)
  else if (en ∧ mode = 2 ∧ win = 0) ∨ 16 ≤ w (a + 4) then some (a + 4)
  else if w (a + 5) ≠ 0 then some (a + 5)
  else none

/-- The first word of a set that breaks R492 or R493. -/
def paramBad (w : Nat → Nat) (tClass : Nat) : Option Nat :=
  match headBad w with
  | some i => some i
  | none =>
    match (List.range 8).filterMap (pairBad w tClass) with
    | i :: _ => some i
    | [] => ((List.range 16).find? fun o =>
        field (w (53 + o)) 0 2 == 3 || 2 ^ 16 ≤ w (53 + o) || 1000 < field (w (53 + o)) 6 10).map (53 + ·)

/-! ### Pairs, speed and outputs -/

def pairOf (s : State) (p : Nat) : StoPair := look {} s.isl.pairs p

def State.modPairSto (s : State) (p : Nat) (f : StoPair → StoPair) : State := s.modIsl fun u => { u with pairs := upd {} u.pairs p f }

/-- The pair is ENABLED or in SS1. -/
def pairLive (s : State) (p : Nat) : Bool := (pairOf s p).state == .enabled || (pairOf s p).state == .ss1

/-- Advances counter `i` of SAFE.DIAG_READ. -/
def State.islandCount (s : State) (i : Nat) : State := s.modIsl fun u => { u with counters := upd 0 u.counters i sat32 }

/-- The rest of the device can be told of an event. -/
def deviceHears (s : State) : Bool := s.boot.phase == .running

/-- A check that passed on its repeat counts in RETRIES and leaves a TRANSIENT record (R485, R502, R505; 16 R562). -/
def State.islandRetry (s : State) : State :=
  let s := s.islandCount 2
  if deviceHears s then s.recordOpen 12 27 0 true else s

/-- A lasting fault that the island reports (R506; 16 R562; severity of those that the chapter gives none: log 55). -/
def State.islandReport (s : State) (ev : Nat) : State := if deviceHears s then s.reportOpen 12 ev 1 else s

/-- The island's count of an encoder at an instant. -/
def IslandEnc.countAt (e : IslandEnc) (t : Nat) : Int :=
  match e.history.find? fun h => t < h.1 with
  | some h => h.2
  | none => e.count

/-- Counts before the longest window are dropped, but for the last. -/
def pruneCounts (from' : Nat) : List (Nat × Int) → List (Nat × Int)
  | a :: b :: r => if a.1 < from' ∧ b.1 < from' then pruneCounts from' (b :: r) else a :: b :: r
  | l => l

/-- New levels of A and B at the island's receivers: quadrature, four counts a cycle (R497; direction: log 16). -/
def IslandEnc.edge (e : IslandEnc) (a b : Bool) (now : Nat) : IslandEnc :=
  let q := (quadPhase a b + 4 - quadPhase e.a e.b) % 4
  let d : Int := if q = 1 then 1 else if q = 3 then -1 else 0
  let e := { e with a := a, b := b }
  if d = 0 then e
  else { e with count := e.count + d, history := pruneCounts (now - clocksOfUs 16000) (e.history ++ [(now, e.count)]) }

/-- The island's receivers see the lines of interface `n`. -/
def islandEncoder (n : Nat) (a b : Bool) (s : State) : State :=
  s.modIsl fun u => { u with encs := upd {} u.encs n fun e => e.edge a b s.now }

/-- ENCODER_COUNT at the DIO unit (08 R290) and at the island (14 R497). -/
def execEncoderCount (n : Nat) (a b : Bool) (t : Nat) (s : State) : Host.Outcome State Fault Refusal :=
  event (n < 16) t (fun s => encoderCountEdge n a b (if s.isl.powered then islandEncoder n a b s else s)) s

/-- |speed| of a pair over its last SPEED_WIN_MS in counts/s (R497). -/
def pairSpeed (s : State) (p : Nat) : Nat :=
  let e := look {} s.isl.encs (field (s.isl.w (5 + 6 * p)) 3 4)
  let win := max 1 (field (s.isl.w (9 + 6 * p)) 0 4)
  (e.count - e.countAt (s.now - clocksOfUs (win * 1000))).natAbs * 1000 / win

/-- The commanded state of a safe output (R504). -/
def outCommanded (s : State) (o : Nat) : Bool :=
  let u := s.isl
  let p := u.outPair o
  !u.params.isEmpty && !bit u.outFault o &&
  (match u.outFunction o with
  | 1 => pairLive s p || ((pairOf s p).state == .torqueOff && bit u.sbcHeld o)
  | 2 => (pairOf s p).state == .enabled
  | _ => false)

/-- What the pin STO_A (`b` false) or STO_B of a pair shows: high-impedance without VDD_SAFE, else its level (R494; 19 R631). -/
def stoPin (s : State) (p : Nat) (b : Bool) : Drive :=
  if 10 ∈ s.boot.lostSupplies then .highZ
  else if s.isl.powered ∧ (if b then (pairOf s p).stoB else (pairOf s p).stoA) then .high else .low

/-- What the pin of a safe output shows (R504; 19 R631). -/
def safeOutPin (s : State) (o : Nat) : Drive :=
  if 10 ∈ s.boot.lostSupplies then .highZ else if s.isl.powered ∧ outCommanded s o then .high else .low

/-- The outputs with FUNCTION SBC of a pair. -/
def sbcOutputs (s : State) (p : Nat) : List Nat :=
  (List.range 16).filter fun o => s.isl.outFunction o == 1 && s.isl.outPair o == p

/-! ### Stops (R488, R494–R498) -/

/-- STO of one pair: STO_A and, by the early request, STO_B go low (R496, R504). -/
def State.pairOff (s : State) (p cause : Nat) : State :=
  let s := s.modPairSto p fun k => { k with state := .torqueOff, stoA := false, stoB := false, offCause := cause, offAt := s.now }
  (sbcOutputs s p).foldl (fun s o => s.modIsl fun u =>
    { u with sbcHeld := setBit u.sbcHeld o (cause ≠ 8 && cause ≠ 9 && u.sbcDelayMs o ≠ 0) }) s

/-- STO was switched on pairs: the axes stop, and the device enters SAFE (R488, 07 R258). -/
def State.stoSwitched (s : State) (mask : Nat) : State :=
  if mask = 0 then s
  else
    let s := axisSto mask s
    if deviceHears s then s.enterSafe 1 else s

/-- SS1 of one pair begins; the hard-wired timer starts with it unless that path saw the demand itself (R495, R496, R498). -/
def State.pairSs1 (s : State) (p cause : Nat) : State :=
  let v := pairSpeed s p
  (s.modPairSto p fun k => { k with
    state := .ss1, ss1At := s.now, checks := 0, v0 := v, hwFrom := if cause = 1 then k.hwFrom else k.hwFrom.or (some s.now) }).modIsl fun u =>
    { u with ss1Req := setBit u.ss1Req p true }

/-- A stop of pairs with a cause (R495); `immediate`: STO, else each by its MODE. -/
def State.islandStop (s : State) (mask cause : Nat) (immediate : Bool) : State :=
  let live := (bitsOf 8 mask).filter (pairLive s)
  if s.isl.state ≠ .ready ∨ live.isEmpty then s
  else
    let off := live.filter fun p => immediate || s.isl.mode p == 0
    let ramp := live.filter fun p => !(immediate || s.isl.mode p == 0) && (pairOf s p).state == .enabled
    if off.isEmpty ∧ ramp.isEmpty then s
    else
      let s := if s.isl.inStop then s else s.islandCount 6
      let s := s.modIsl fun u => { u with inStop := true, stopCause := cause }
      let s := ramp.foldl (fun s p => s.pairSs1 p cause) s
      let s := off.foldl (fun s p => s.pairOff p cause) s
      s.stoSwitched (maskOf off)

/-- The island enters FAULT (R483, R485, R491): every STO output de-energised, cause 8 for each pair that had torque. -/
def State.islandFault (s : State) : State :=
  if s.isl.state = .fault then s
  else
    let s := s.islandStop 0xFF 8 true
    let s := s.modIsl fun u => { u with
      state := .fault
      pairs := u.pairs.map fun e => (e.1, { e.2 with stoA := false, stoB := false }) }
    s.islandReport 25

/-- RESET_N is low (R494, R508): cause 9 on every pair. -/
def islandResetPin (s : State) : State := s.islandStop 0xFF 9 true

/-- The device entered SAFE for a cause other than the island (R495 cause 5). -/
def islandMainSafe (s : State) : State :=
  match s.isl.mainSafeAction with
  | 1 => s.islandStop 0xFF 5 false
  | 2 => s.islandStop 0xFF 5 true
  | _ => s

/-- A heartbeat arrives (R507). -/
def islandHeartbeat (s : State) : State := s.modIsl fun u => { u with hbAt := some s.now, hbLost := false }

/-- INPUT_FILTER_US; with no set in force the channels are taken without one. -/
def SafeUnit.filterUs (u : SafeUnit) : Nat := field (u.w 1) 0 10

/-- The earliest instant at which a channel can have taken its present level: the processor path takes a low
INPUT_FILTER_US × 1.03 + 5 µs after it began at the latest (R500, R503). -/
def channelSince (s : State) (ch : Nat) : Nat :=
  let t := look 0 s.isl.levelAt ch
  if bit s.isl.levels ch then t else t - (clocksOfUs (s.isl.filterUs * 103) / 100 + clocksOfUs 5)

/-- A heartbeat arrived within HB_TIMEOUT_US. -/
def hbOk (s : State) : Bool :=
  match s.isl.hbAt with
  | some t => !s.isl.params.isEmpty && s.now ≤ t + clocksOfUs s.isl.hbTimeoutUs
  | none => false

/-- At least 97 % of `us` of island time have passed since `from'` (R483; log 46). -/
def islandElapsed (s : State) (from' us : Nat) : Bool := clocksOfUs us * 97 ≤ (s.now - from') * 100

/-- DEMAND (R503): a channel is low beyond INPUT_FILTER_US. -/
def demand (ch : Nat) (s : State) : State :=
  if !s.isl.powered then s
  else
    let s := s.modIsl fun u => { u with
      levels := setBit u.levels ch false
      levelAt := if bit u.levels ch then put 0 u.levelAt ch s.now else u.levelAt }
    s.islandStop (s.isl.group (ch / 2)) 1 false

def execDemand (ch t : Nat) (s : State) : Host.Outcome State Fault Refusal := event (ch < 16) t (demand ch) s

/-- CHANNEL_ENERGISED (R503). -/
def channelEnergised (ch : Nat) (s : State) : State :=
  if s.isl.powered then s.modIsl fun u => { u with
      levels := setBit u.levels ch true
      levelAt := if bit u.levels ch then u.levelAt else put 0 u.levelAt ch s.now }
  else s

def execChannelEnergised (ch t : Nat) (s : State) : Host.Outcome State Fault Refusal := event (ch < 16) t (channelEnergised ch) s

/-- A pair of inputs has a demand: a channel is low. -/
def inputDemand (s : State) (n : Nat) : Bool := !bit s.isl.levels (2 * n) || !bit s.isl.levels (2 * n + 1)

/-- An input pair enters FAULT: stop cause 2 (R502, R503). -/
def State.inputFault (s : State) (n : Nat) : State :=
  let s := s.modIsl fun u => { u with inFault := setBit u.inFault n true }
  (s.islandStop (s.isl.group n) 2 false).islandReport 26

/-- The channels of an input pair have differed for DISCREPANCY_MS of island time (R503). -/
def discrepant (s : State) (n : Nat) : Bool :=
  bit s.isl.levels (2 * n) != bit s.isl.levels (2 * n + 1) &&
  islandElapsed s (max (channelSince s (2 * n)) (channelSince s (2 * n + 1))) (field (s.isl.w 3) 0 10 * 1000)

/-- DISCREPANCY (R503). -/
def discrepancy (n : Nat) (s : State) : State :=
  if s.isl.state ≠ .ready ∨ bit s.isl.inFault n ∨ !discrepant s n then s
  else (s.islandCount 4).inputFault n

def execDiscrepancy (n t : Nat) (s : State) : Host.Outcome State Fault Refusal := event (n < 8) t (discrepancy n) s

/-- A test was deferred in one more window (R503, R506): `key` 0 to 15 an output, 16 to 31 an input channel. -/
def State.deferTest (s : State) (output : Bool) (i : Nat) : State :=
  let s := s.islandCount 3
  let n := look 0 (if output then s.isl.outDeferred else s.isl.inDeferred) i + 1
  let s := s.modIsl fun u => if output then { u with outDeferred := put 0 u.outDeferred i n } else { u with inDeferred := put 0 u.inDeferred i n }
  let set := if output then bit s.isl.outOverdue i else bit s.isl.inOverdue (i / 2)
  if s.isl.deferMax < n ∧ ¬ set then
    (s.modIsl fun u => if output then { u with outOverdue := setBit u.outOverdue i true }
      else { u with inOverdue := setBit u.inOverdue (i / 2) true }).islandReport 24
  else s

/-- A test window has come again: `us` of island time lie between two windows of one channel or output (R502, R504). -/
def windowDue (s : State) (last : Tab (Option Nat)) (i us : Nat) : Bool :=
  match look none last i with
  | some t => islandElapsed s t us
  | none => true

/-- The OVERDUE bit of an input pair once channel `ch` has completed a test: the other channel may still owe its own (R506). -/
def SafeUnit.stillOverdue (u : SafeUnit) (ch : Nat) : Bool :=
  bit u.inOverdue (ch / 2) && u.deferMax < look 0 u.inDeferred (2 * (ch / 2) + 1 - ch % 2)

/-- TEST_PULSE (R502): the pulse that feeds a channel, one in every TP_PERIOD_MS; `good`: its response is right. A channel
already low is not pulsed (R503). -/
def testPulse (ch : Nat) (good : Bool) (s : State) : State :=
  if s.isl.state ≠ .ready ∨ !windowDue s s.isl.inTestAt ch (field (s.isl.w 1) 20 12 * 1000) then s
  else
  let s := s.modIsl fun u => { u with inTestAt := put none u.inTestAt ch (some s.now) }
  if !bit s.isl.levels ch then s.deferTest false ch
  else
    let s' := s.modIsl fun u => { u with
      inDeferred := put 0 u.inDeferred ch 0, inOverdue := setBit u.inOverdue (ch / 2) (u.stillOverdue ch) }
    if good then
      if bit s.isl.inFailed ch then (s'.modIsl fun u => { u with inFailed := setBit u.inFailed ch false }).islandRetry else s'
    else if bit s.isl.inFailed ch then
      ((s'.modIsl fun u => { u with inFailed := setBit u.inFailed ch false }).islandCount 0).inputFault (ch / 2)
    else s'.modIsl fun u => { u with inFailed := setBit u.inFailed ch true }

def execTestPulse (ch : Nat) (good : Bool) (t : Nat) (s : State) : Host.Outcome State Fault Refusal :=
  event (ch < 16) t (testPulse ch good) s

/-- STO_B of a pair goes low at the end of its hard-wired timer; a pair with torque loses it (R484, R498). A pair still
ENABLED is stopped by the demand that the hard-wired path saw, cause 1; one in SS1 ends it with the cause of its stop. -/
def State.hardWiredOff (s : State) (p : Nat) : State :=
  let s := s.modPairSto p fun k => { k with stoB := false }
  match (pairOf s p).state with
  | .enabled => s.islandStop (2 ^ p) 1 true
  | .ss1 => (s.pairOff p s.isl.stopCause).stoSwitched (2 ^ p)
  | _ => s

/-- A channel of the input pair has been low for the fixed filter of the hard-wired path, 970 µs at the least (R498, R500). -/
def hardWiredDue (s : State) (n : Nat) : Bool :=
  [2 * n, 2 * n + 1].any fun ch => !bit s.isl.levels ch && channelSince s ch + clocksOfUs 970 ≤ s.now

/-- HARD_WIRED_RECOGNITION (R498, R500): the timers of the input pair's group start; with T_CLASS 0 STO_B goes low at
once. -/
def hardWiredRecognition (n : Nat) (s : State) : State :=
  if s.isl.state ≠ .ready ∨ !hardWiredDue s n then s
  else
    let ps := bitsOf 8 (s.isl.group n)
    let s := ps.foldl (fun s p => s.modPairSto p fun k =>
      if k.state = .disabled then k else { k with hwFrom := k.hwFrom.or (some s.now) }) s
    if s.isl.tClass = 0 then (s.islandStop (s.isl.group n) 1 true).modIsl fun u => { u with
        pairs := ps.foldl (fun m p => upd {} m p fun k => { k with stoB := false }) u.pairs }
    else s

def execHardWiredRecognition (n t : Nat) (s : State) : Host.Outcome State Fault Refusal :=
  event (n < 8) t (hardWiredRecognition n) s

/-- T_HW (R498): the timer of a pair expires. -/
def tHw (p : Nat) (s : State) : State :=
  match (pairOf s p).hwFrom with
  | some f =>
    if s.isl.state = .ready ∧ islandElapsed s f (tHwMs s.isl.tClass * 1000) then
      (s.hardWiredOff p).modPairSto p fun k => { k with hwFrom := none }
    else s
  | none => s

def execTHw (p t : Nat) (s : State) : Host.Outcome State Fault Refusal := event (p < 8) t (tHw p) s

/-- The end of SS1 on a pair (R496): STO with the cause of the stop, or 6 for the envelope. -/
def State.endSs1 (s : State) (p : Nat) (envelope : Bool) : State :=
  let s := if envelope then (s.modIsl fun u => { u with stopCause := 6 }).islandCount 7 else s
  (s.pairOff p s.isl.stopCause).stoSwitched (2 ^ p)

/-- The limit of ss1_check at `t` ms (R496). -/
def ss1Limit (s : State) (p t : Nat) : Int :=
  let u := s.isl
  let delay := field (u.w (5 + 6 * p)) 24 8
  let lim : Int := ((pairOf s p).v0 + u.w (6 + 6 * p) : Nat)
  let lim := if delay < t then lim - ((u.w (7 + 6 * p) * (t - delay) / 1000 : Nat) : Int) else lim
  max lim (u.w (8 + 6 * p) : Nat)

/-- SS1_CHECK (R496): every 1 ms of SS1-r. -/
def ss1Check (p : Nat) (s : State) : State :=
  let k := pairOf s p
  let t := k.checks + 1
  if s.isl.state ≠ .ready ∨ k.state ≠ .ss1 ∨ s.isl.mode p ≠ 2 ∨ !islandElapsed s k.ss1At (t * 1000) then s
  else
    let s := s.modPairSto p fun k => { k with checks := t }
    let v := pairSpeed s p
    if ss1Limit s p t < v then s.endSs1 p true
    else if v ≤ s.isl.w (8 + 6 * p) ∨ s.isl.ss1MaxMs p ≤ t then s.endSs1 p false
    else s

def execSs1Check (p t : Nat) (s : State) : Host.Outcome State Fault Refusal := event (p < 8) t (ss1Check p) s

/-- T_SS1_MAX (R496): the time of SS1-t ends. -/
def tSs1Max (p : Nat) (s : State) : State :=
  let k := pairOf s p
  if s.isl.state = .ready ∧ k.state = .ss1 ∧ s.isl.mode p = 1 ∧ islandElapsed s k.ss1At (s.isl.ss1MaxMs p * 1000) then
    s.endSs1 p false
  else s

def execTSs1Max (p t : Nat) (s : State) : Host.Outcome State Fault Refusal := event (p < 8) t (tSs1Max p) s

/-- HEARTBEAT_LOST (R507): stop cause 4 by HB_ACTION. On half 0 of a pair a pulse on SAFE_HB_IN counts like a heartbeat (15 R523);
`pulse` is the instant of the latest one (log 72). -/
def heartbeatLost (pulse : Option Nat) (s : State) : State :=
  let s := if s.pair.role ≠ .off ∧ ¬ s.pair.half1 then
      s.modIsl fun u => { u with hbAt := match pulse, u.hbAt with | some a, some b => some (max a b) | some a, none => some a | none, b => b }
    else s
  let u := s.isl
  let late : Bool := match u.hbAt with | some t => islandElapsed s t u.hbTimeoutUs | none => true
  if u.state ≠ .ready ∨ u.hbAction = 0 ∨ u.hbLost ∨ ¬ late ∨ !(List.range 8).any (pairLive s) then s
  else ((s.modIsl fun u => { u with hbLost := true }).islandCount 5).islandStop 0xFF 4 (u.hbAction == 2)

def execHeartbeatLost (pulse : Option Nat) (t : Nat) (s : State) : Host.Outcome State Fault Refusal :=
  event true t (heartbeatLost pulse) s

/-- SWITCH_WORD_READ (R489, R491): the readings of both paths. -/
def switchWordRead (a b : Nat) (s : State) : State :=
  let u := s.isl
  if !u.powered ∨ u.state = .start ∨ u.state = .fault then s
  else
    let a := a % 2 ^ 16; let b := b % 2 ^ 16
    let bad := a ≠ b ∨ (u.state = .ready ∧ a ≠ u.swA)
    if bad then (s.islandFault).modIsl fun u => { u with swA := a, swB := b }
    else s.modIsl fun u => { u with swA := a, swB := b }

def execSwitchWordRead (a b t : Nat) (s : State) : Host.Outcome State Fault Refusal := event true t (switchWordRead a b) s

/-- STO_READBACK (R485): the second check of a pin, 10 µs after a first disagreement. -/
def stoReadback (good : Bool) (s : State) : State :=
  if !s.isl.powered then s else if good then s.islandRetry else s.islandFault

def execStoReadback (pin : Nat) (good : Bool) (t : Nat) (s : State) : Host.Outcome State Fault Refusal :=
  event (pin < 16) t (stoReadback good) s

/-- FREQUENCY_MONITOR (R483). -/
def frequencyMonitor (s : State) : State := if s.isl.powered then s.islandFault else s

def execFrequencyMonitor (t : Nat) (s : State) : Host.Outcome State Fault Refusal := event true t frequencyMonitor s

/-- ISLAND_INTERNAL_CHECK (R485): a check that fails twice enters FAULT; one that passes on its repeat is transient (log 55). -/
def islandInternalCheck (failures : Nat) (s : State) : State :=
  if !s.isl.powered ∨ failures = 0 then s else if failures = 1 then s.islandRetry else s.islandFault

def execIslandInternalCheck (failures t : Nat) (s : State) : Host.Outcome State Fault Refusal :=
  event true t (islandInternalCheck failures) s

/-- An output enters FAULT (R505): an SBC output stops its pair, cause 7. -/
def State.outputFault (s : State) (o : Nat) : State :=
  let sbc := s.isl.outFunction o == 1
  let p := s.isl.outPair o
  let s := (s.modIsl fun u => { u with outFault := setBit u.outFault o true, outFailed := setBit u.outFailed o false }).islandCount 1
  let s := if sbc then s.islandStop (2 ^ p) 7 true else s
  s.islandReport 26

/-- OUTPUT_TEST_PULSE (R504–R506): the pulse of an energised output, one in every OUT_TP_PERIOD_MS, or the readback of a
de-energised one. `good`: the readback is right; `aborted`: the commanded state changed during the pulse. -/
def outputTestPulse (o : Nat) (good aborted : Bool) (s : State) : State :=
  let u := s.isl
  let high := outCommanded s o
  let pulse := u.outTest o && u.outFunction o != 0 && (high || aborted)
  if u.state ≠ .ready ∨ (high ∧ !pulse) ∨ bit u.outFault o ∨ (pulse ∧ !windowDue s u.outTestAt o (field (u.w 2) 10 12 * 1000)) then s
  else
  let s := if pulse then s.modIsl fun u => { u with outTestAt := put none u.outTestAt o (some s.now) } else s
  if pulse ∧ aborted then s.deferTest true o
  else
    let s' := if high then s.modIsl fun u => { u with
        outDeferred := put 0 u.outDeferred o 0, outOverdue := setBit u.outOverdue o false } else s
    if good then
      if bit u.outFailed o then (s'.modIsl fun u => { u with outFailed := setBit u.outFailed o false }).islandRetry else s'
    else if bit u.outFailed o then s'.outputFault o
    else s'.modIsl fun u => { u with outFailed := setBit u.outFailed o true }

def execOutputTestPulse (o : Nat) (good aborted : Bool) (t : Nat) (s : State) : Host.Outcome State Fault Refusal :=
  event (o < 16) t (outputTestPulse o good aborted) s

/-- SBC_DELAY (R504): SBC_DELAY_MS after the pair entered TORQUE_OFF. -/
def sbcDelay (o : Nat) (s : State) : State :=
  let k := pairOf s (s.isl.outPair o)
  if bit s.isl.sbcHeld o ∧ k.state = .torqueOff ∧ islandElapsed s k.offAt (s.isl.sbcDelayMs o * 1000) then
    s.modIsl fun u => { u with sbcHeld := setBit u.sbcHeld o false }
  else s

def execSbcDelay (o t : Nat) (s : State) : Host.Outcome State Fault Refusal := event (o < 16) t (sbcDelay o) s

/-! ### Start and supply (R481, R487) -/

/-- ISLAND_START (R487): VDD_SAFE and VIO_SAFE are in range. -/
def islandStart (s : State) : State :=
  if s.isl.powered then s
  else (s.modBoot fun b => { b with lostSupplies := b.lostSupplies.filter (· < 10) }).modIsl fun u =>
    { u with powered := true, state := .start, startedAt := s.now, counters := [] }

def execIslandStart (t : Nat) (s : State) : Host.Outcome State Fault Refusal := event true t islandStart s

/-- The set in force is one that the switch word admits (R493). -/
def paramsFit (u : SafeUnit) (sw : Nat) : Bool := !u.params.isEmpty && u.w 69 % 2 ^ 12 == sw / 16 && (paramBad u.w (field sw 0 3)).isNone

/-- SELF_TEST_DONE (R487, R489): both paths read the switch word. A set that was kept, VDD_SAFE having stayed in
range, is in force again where the switches still admit it (log 136). -/
def selfTestDone (a b : Nat) (s : State) : State :=
  if !s.isl.powered ∨ s.isl.state ≠ .start then s
  else
    let a := a % 2 ^ 16; let b := b % 2 ^ 16
    let s := s.modIsl fun u =>
      if paramsFit u a then { u with swA := a, swB := b, state := .ready }
      else { u with swA := a, swB := b, state := .noParams, params := [], pairs := [] }
    if a ≠ b then s.islandFault else s

def execSelfTestDone (a b t : Nat) (s : State) : Host.Outcome State Fault Refusal := event true t (selfTestDone a b) s

/-- VDD_SAFE or VIO_SAFE is out of range (R487, R494; 19 R627): the island stops with every STO output low; without
VDD_SAFE the parameters are lost. -/
def islandPowerLoss (vdd : Bool) (s : State) : State :=
  let live := (List.range 8).filter (pairLive s)
  let enabled (u : SafeUnit) (p : Nat) : Bool := !u.params.isEmpty && bit (u.w (5 + 6 * p)) 0
  let keep : SafeUnit := { powered := false, swA := s.isl.swA, swB := s.isl.swB, levels := s.isl.levels, encs := s.isl.encs }
  let kept : SafeUnit := if vdd then keep
    else
      { keep with
        params := s.isl.params
        inStop := s.isl.inStop || !live.isEmpty
        pairs := ((List.range 8).filter (enabled s.isl)).map fun p => (p, { state := .torqueOff, offCause := 0, offAt := s.now }) }
  axisSto (maskOf live) (s.modIsl fun _ => kept)

/-! ### Signals and status (R513) -/

/-- PAIRS. -/
def pairsWord (s : State) : Nat := ((List.range 8).map fun p => place (4 * p) (pairOf s p).state.num).sum

/-- INPUTS, IN_FAULT and DEMAND. -/
def inputsWord (s : State) : Nat :=
  s.isl.levels + place 16 s.isl.inFault + place 24 (maskOf ((List.range 8).filter (inputDemand s)))

/-- The signals at the input instant (R513). -/
def islandInputs (s : State) : State :=
  if s.isl.powered then (s.publish 0x2200 (pairsWord s)).publish 0x2201 (inputsWord s) else s

/-- The island accepts parameters (03 R107), and is in a stop (R488). -/
def islandReady (s : State) : Bool := s.isl.powered && s.isl.state == .ready

/-! ### Commands (R510–R517): the effect at once, the reply at COMMAND_COMPLETE -/

/-- The status that the island's state gives a command: `needReady` names FAULT and NO_PARAMS. -/
def islandRefusal (s : State) (fault params : Bool) : Option Nat :=
  let u := s.isl
  if !u.powered || u.state == .start then some stSfNoIsland
  else if fault && u.state == .fault then some stSfFault
  else if params && u.params.isEmpty then some stSfNoParams
  else none

/-- The command is carried to the island: its reply waits for COMMAND_COMPLETE with status and words. -/
def islandReply (op : Op) (p : Packet) (r : State × Nat × List Word) : State × Verdict :=
  r.1.defer op p (r.2.1 :: r.2.2.map BitVec.toNat)

/-- Runs a command of the island where its state allows. -/
def islandRun (op : Op) (p : Packet) (fault params : Bool) (s : State) (k : State × Nat × List Word) : State × Verdict :=
  islandReply op p (match islandRefusal s fault params with
    | some st => (s, st, [])
    | none => k)

/-- A set is accepted for the first time or in place of another (R487, R493): every enabled pair is in TORQUE_OFF; faults of
inputs and outputs last until SAFE.RESET clears them (R502, R505), OVERDUE bits until their test (R506). -/
def State.acceptParams (s : State) (ws : List Word) : State :=
  s.modIsl fun u => { u with
    params := ws, state := .ready, sbcHeld := 0, hbLost := false, inTestAt := [], outTestAt := []
    pairs := ((List.range 8).filter fun p => bit (ws.getD (5 + 6 * p) 0).toNat 0).map fun p =>
      (p, { state := .torqueOff, offAt := s.now }) }

/-- SAFE.PARAM_LOAD on the island (R493, R511). -/
def paramLoad (ws : List Word) (s : State) : State × Nat × List Word :=
  let crc := crc32 (ws.take 69)
  let w (i : Nat) : Nat := (ws.getD i 0).toNat
  let words (st fail : Nat) : State × Nat × List Word := (s, st, [wd crc, wd fail])
  if crc ≠ w 69 then words stSfCheck 69
  else if crc % 2 ^ 12 ≠ s.isl.swA / 16 ∨ crc % 2 ^ 12 ≠ s.isl.swB / 16 then words stSfSwitch 69
  else if ws = s.isl.params then words stOk 0xFFFF
  else match paramBad w (field s.isl.swA 0 3) with
    | some i => words stSfParam i
    | none =>
      if (List.range 8).any (pairLive s) then words stSfTorque 0xFFFF
      else (s.acceptParams ws, stOk, [wd crc, 0xFFFF])

def cmdSafeParamLoad (p : Packet) (s : State) : State × Verdict :=
  checked [(p.len ≠ 70, stBadLength)] s (islandRun .safeParamLoad p true false s (paramLoad p.params s))

/-- SAFE.PARAM_LOAD (R511). -/
def execSafeParamLoad (p : Packet) (s : State) : Host.Outcome State Fault Refusal := command .safeParamLoad cmdSafeParamLoad p s

def cmdSafeSwitchRead (p : Packet) (s : State) : State × Verdict :=
  checked [(p.len ≠ 0, stBadLength)] s
    (islandRun .safeSwitchRead p false false s (s, stOk, [wd (s.isl.swA + place 16 s.isl.swB)]))

/-- SAFE.SWITCH_READ (R512). -/
def execSafeSwitchRead (p : Packet) (s : State) : Host.Outcome State Fault Refusal := command .safeSwitchRead cmdSafeSwitchRead p s

/-- The words of SAFE.STATUS (R513). -/
def safeStatusWords (s : State) : List Word :=
  let u := s.isl
  [wd (u.state.num + place 2 (flag u.inStop) + place 3 (flag (hbOk s)) + place 4 u.stopCause + place 16 (field (u.w 0) 16 16)),
   wd (pairsWord s), wd (inputsWord s), wd (maskOf ((List.range 16).filter (outCommanded s)) + place 16 u.outFault),
   wd (u.outOverdue + place 16 u.inOverdue), wd (u.w 69)]

def cmdSafeStatus (p : Packet) (s : State) : State × Verdict :=
  checked [(p.len ≠ 0, stBadLength)] s (islandRun .safeStatus p false false s (s, stOk, safeStatusWords s))

/-- SAFE.STATUS (R513). -/
def execSafeStatus (p : Packet) (s : State) : Host.Outcome State Fault Refusal := command .safeStatus cmdSafeStatus p s

/-- SAFE.STOP on the island (R514): pairs not ENABLED are passed over; the hard-wired timers start (R495). -/
def safeStopNow (w : Nat) (s : State) : State :=
  let ps := (bitsOf 8 (field w 0 8)).filter fun p => (pairOf s p).state == .enabled
  let s := ps.foldl (fun s p => s.modPairSto p fun k => { k with hwFrom := k.hwFrom.or (some s.now) }) s
  s.islandStop (maskOf ps) 3 (bit w 8)

def cmdSafeStop (p : Packet) (s : State) : State × Verdict :=
  checked [(p.len ≠ 1, stBadLength), (reservedSet (p.w 0) 0xFFFFFE00, stRange)] s
    (islandRun .safeStop p true true s (safeStopNow (p.w 0) s, stOk, []))

/-- SAFE.STOP (R514). -/
def execSafeStop (p : Packet) (s : State) : Host.Outcome State Fault Refusal := command .safeStop cmdSafeStop p s

/-- SAFE.RESET after its tests (R515); `passing`: the input pairs that passed their next test. -/
def safeResetNow (w passing : Nat) (s : State) : State × Nat :=
  match islandRefusal s true true with
  | some st => (s, st)
  | none =>
    let s := if bit w 8 then s.modIsl fun u => { u with
        inFault := maskOf ((bitsOf 8 u.inFault).filter fun n => !bit passing n || inputDemand s n), outFault := 0, outFailed := 0 } else s
    let named := bitsOf 8 (field w 0 8)
    let groups := maskOf ((List.range 8).filter fun n => named.any fun p => bit (s.isl.group p) n)
    if (bitsOf 8 groups).any fun n => inputDemand s n || bit s.isl.inFault n then (s, stSfDemand)
    else if s.isl.hbAction ≠ 0 ∧ !hbOk s then (s, stSfHb)
    else
      let go := named.filter fun p => (pairOf s p).state == .torqueOff
      let s := go.foldl (fun s p => s.modPairSto p fun k => { k with state := .enabled, stoA := true, stoB := true, hwFrom := none }) s
      (axisRelease (maskOf go) (s.modIsl fun u => { u with
        inStop := false, ss1Req := maskOf ((bitsOf 8 u.ss1Req).filter fun p => !go.contains p), hbLost := false }), stOk)

def cmdSafeReset (p : Packet) (s : State) : State × Verdict :=
  checked [(p.len ≠ 1, stBadLength), (reservedSet (p.w 0) 0xFFFFFE00, stRange)] s (s.defer .safeReset p [])

/-- SAFE.RESET (R515): it acts and is answered after its tests, at COMMAND_COMPLETE. -/
def execSafeReset (p : Packet) (s : State) : Host.Outcome State Fault Refusal := command .safeReset cmdSafeReset p s

/-- ISLAND_MS (R516): ms of the island's own clock, within 3 % of the device's (R483), the deviation being free. -/
def islandMs (s : State) (free : Nat) : Nat := (s.now - s.isl.startedAt) * (9700 + free % 601) / 10000 / 800000

def cmdSafeDiagRead (p : Packet) (s : State) : State × Verdict :=
  let c (i : Nat) : Word := wd (look 0 s.isl.counters i)
  let s' := s.takeFree.2
  checked [(p.len ≠ 1, stBadLength), (reservedSet (p.w 0) 0xFFFFFFFE, stRange)] s
    (islandRun .safeDiagRead p false false s
      (if bit (p.w 0) 0 then s'.modIsl fun u => { u with counters := [] } else s', stOk,
        (List.range 8).map c ++ [wd (min (2 ^ 32 - 1) (islandMs s s.takeFree.1.toNat))]))

/-- SAFE.DIAG_READ (R516). -/
def execSafeDiagRead (p : Packet) (s : State) : Host.Outcome State Fault Refusal := command .safeDiagRead cmdSafeDiagRead p s

def cmdSafeMemRead (p : Packet) (s : State) : State × Verdict :=
  let first := field (p.w 0) 0 7; let count := field (p.w 0) 7 7
  checked
    [(p.len ≠ 1, stBadLength), (reservedSet (p.w 0) 0xFFFFC000 || 69 < first || count == 0 || 70 < first + count, stRange)] s
    (islandRun .safeMemRead p false true s (s, stOk, (s.isl.params.drop first).take count))

/-- SAFE.MEM_READ (R517). -/
def execSafeMemRead (p : Packet) (s : State) : Host.Outcome State Fault Refusal := command .safeMemRead cmdSafeMemRead p s

/-- A SAFE command ends (R510): status and words, over a link that is retried once (R481). -/
def safeFinish (d : Deferred) (passing : Nat) (link : Dma) (s : State) : State × Nat × List Word :=
  let (s, st, ws) : State × Nat × List Word :=
    match d.op, d.data with
    | .safeReset, _ =>
      let (s, st) := safeResetNow (d.packet.w 0) passing s
      (s, st, [])
    | _, st :: ws => (s, st, ws.map wd)
    | _, [] => (s, stOk, [])
  match link with
  | .ok => (s, st, ws)
  | .retried => (s.recordOpen 12 27 0 true, if st = stOk then stOkRetried else st, ws)
  | .failed => (s.reportOpen 12 28 1, stFault, [])

end Sys2Proof.Machine
end

