-- ==== Sys2Proof/Machine/Net.lean ====
section
/-! DEFINITION. The TIME unit: Ethernet ports, PTP tracks, the mapping to TAI and UTC (13). -/

namespace Sys2Proof.Machine

/-- Ethernet port `n`. -/
def portOf (s : State) (n : Nat) : EthPort := look {} s.net.ports n

def State.modPort (s : State) (n : Nat) (f : EthPort → EthPort) : State :=
  s.modNet fun u => { u with ports := upd {} u.ports n f }

/-- Track `k`: 0 A, 1 B. -/
def trackOf (s : State) (k : Nat) : Track := look {} s.net.tracks k

def State.modTrack (s : State) (k : Nat) (f : Track → Track) : State :=
  s.modNet fun u => { u with tracks := upd {} u.tracks k f }

/-! ### The mapping (13 R464–R466, R470) -/

/-- The track's estimate of domain time − device time at device time `t` (13 R464). -/
def estimate (k : Track) (t : Int) : Int := k.off + rateTerm (t - k.ref) k.rate

/-- A new line for M: it steps there when it is not valid or differs by more than STEP_US, else moves there at
MAP_SLEW_PPM (13 R465); HOST and RING set M at once. -/
def State.retarget (s : State) (atOnce : Bool) (f : NetUnit → NetUnit) : State :=
  let t : Int := s.ns
  let was := mapM s.net t
  let n := { f s.net with mapValid := true, diff := 0, diffAt := t }
  let d := was - targetM n t
  let far : Bool := !s.net.mapValid || decide ((n.stepUs : Int) * 1000 < d.natAbs)
  let s := s.modNet fun _ => if far || atOnce then n else { n with diff := d }
  if far then (s.modNet fun n => { n with taiSteps := n.taiSteps + 1, mapDue := true }).recordOpen 11 15 0 else s

/-- M follows a track's estimate (13 R465). -/
def State.followTrack (s : State) (k : Nat) : State :=
  let t := trackOf s k
  s.retarget false fun n => { n with ring := false, off := t.off, ref := t.ref, rate := t.rate }

/-- The leap second of the present UTC day, as an Announce or a command gives it. -/
def leapOf (s : State) (leap61 leap59 : Bool) : Option (Int × Bool) :=
  let day : Int := 86400000000000
  if leap61 ∨ leap59 then some ((plainUtc s).fdiv day * day + day, leap61) else none

/-- UTC_OFFSET and leap seconds of the source (13 R470). -/
def State.setUtc (s : State) (offset : Int) (known leap61 leap59 : Bool) : State :=
  let changed := s.net.leap61 ≠ leap61 ∨ s.net.leap59 ≠ leap59
  let s := s.modNet fun n => { n with
    utcOffset := offset, utcKnown := known, leap61 := leap61, leap59 := leap59
    leap := if n.utcOffset = offset then n.leap else none }
  if changed ∨ s.net.leap.isNone then
    s.modNet fun n => { n with leap := leapOf s leap61 leap59, mapDue := n.mapDue || decide changed }
  else s

/-- The calendar data of a track's grandmaster, where the track is the source (13 R470). -/
def State.utcOfTrack (s : State) (k : Nat) : State :=
  match (trackOf s k).master with
  | some (_, a) =>
    if s.net.source = k then
      if a.utcValid then s.setUtc a.utcOffset a.ptpTimescale a.leap61 a.leap59
      else s.modNet fun n => { n with utcKnown := false }
    else s
  | none => s

/-- STEER or STEP_EARLY applies: the up-ring is disabled (13 R468). -/
def steerAllowed (s : State) : Bool := !s.drove.cfg.upEn

/-- The selected track locks: it drives M, and with STEP_EARLY a step of device time falls due once (13 R465, R468). -/
def State.onLocked (s : State) (k : Nat) : State :=
  if s.net.source ≠ k then s
  else
    let s := ((s.modNet fun n => { n with relocking := false }).followTrack k).utcOfTrack k
    if s.net.stepEarly ∧ ¬ s.net.stepped ∧ steerAllowed s ∧ ¬ integrated s then
      s.modNet fun n => { n with stepDue := some (targetM n s.ns), stepped := true }
    else s

/-- The mean path delay on the port of the selected master: the mean of the last eight measurements (13 R464; log 36). -/
def Track.mpd (t : Track) : Int :=
  let l := look [] t.delays (match t.master with | some (p, _) => p | none => 0)
  if l.isEmpty then 0 else l.sum / l.length

/-- on_sync (13 R464). -/
def onSync (k : Nat) (t1 corr t2 : Int) (asym : Int) (s : State) : State :=
  let t := trackOf s k
  let sample := t1 + corr + t.mpd + asym - t2
  let s := s.modTrack k fun t => { t with syncs := sat32 t.syncs, lastSyncAt := s.now, msDelay := some (t2 - t1 - corr) }
  if !t.valid then
    s.modTrack k fun t => { t with off := sample, rate := 0, ref := t2, valid := true, good := 0 }
  else
    let pred := t.off + rateTerm (t2 - t.ref) t.rate
    let err := sample - pred
    let num := Fmt.b64.mul (Fmt.b64.ofInt err) (Fmt.b64.ofInt 1000000000)
    let den := Fmt.b64.mul (Fmt.b64.ofInt 16) (Fmt.b64.ofInt (t2 - t.ref))
    let good := if err.natAbs ≤ t.lockNs then t.good + 1 else 0
    let s := s.modTrack k fun t => { t with
      rate := Fmt.b64.add t.rate (Fmt.b64.div num den), off := pred + err.tdiv 4, ref := t2, good := good, err := err
      state := if 16 ≤ good then .locked else t.state }
    if (trackOf s k).state = .locked then s.onLocked k
    else if s.net.source = k ∧ t.state = .holdover then s.followTrack k else s

/-! ### Best master (13 R462; IEEE 1588-2019 data set comparison) -/

/-- The order of data sets: the lower is better. -/
def masterKey (a : Announcement) : Nat :=
  ((((((a.priority1 * 2 ^ 8 + a.clockClass) * 2 ^ 8 + a.accuracy) * 2 ^ 16 + a.variance) * 2 ^ 8 + a.priority2) * 2 ^ 64
    + a.gmId) * 2 ^ 16 + a.stepsRemoved) * 2 ^ 80 + a.source

/-- The best of the masters heard at least twice. -/
def bestForeign (fs : List Foreign) : Option Foreign :=
  (fs.filter fun f => 2 ≤ f.count).foldl (fun o f => match o with
    | none => some f
    | some g => if masterKey f.announce < masterKey g.announce then some f else some g) none

/-- The best master is chosen (13 R462, R464): a change of grandmaster clears valid. A track that has no master goes on with its
estimate until SYNC_TIMEOUT_MS has passed (log 135). -/
def State.chooseMaster (s : State) (k : Nat) : State :=
  let t := trackOf s k
  let best := (bestForeign t.foreigns).map fun f => (f.port, f.announce)
  let gm := best.map fun e => e.2.gmId
  let s := s.modTrack k fun t => { t with master := best, lastGm := if gm.isSome then gm else t.lastGm }
  let s :=
    if gm.isSome ∧ gm ≠ t.lastGm then
      s.modTrack k fun t => { t with
        valid := false, good := 0, waiting := [], msDelay := none, state := if t.state = .holdover then .holdover else .uncalibrated }
    else if t.state = .listening ∧ gm.isSome then s.modTrack k fun t => { t with state := .uncalibrated }
    else if t.state = .uncalibrated ∧ gm.isNone then s.modTrack k fun t => { t with state := .listening }
    else s
  s.utcOfTrack k

/-- The tracks that a message on a port belongs to. -/
def tracksFor (s : State) (port domain : Nat) : List Nat :=
  (List.range 2).filter fun k =>
    let t := trackOf s k
    t.enable && bit t.ports port && t.domain == domain

/-- The message's identification fits the track and its master. -/
def fromMaster (t : Track) (port source major minor : Nat) : Bool :=
  t.majorSdo == major && t.minorSdo == minor &&
  (match t.master with | some (p, a) => p == port && a.source == source | none => false)

/-- Frames are received on the port. -/
def portRuns (s : State) (n : Nat) : Bool :=
  s.boot.phase == .running && (portOf s n).enable && (portOf s n).linkUp && s.dev.mode ≠ .graze && domainOn s 11

/-- The port transmits: it has a MAC address too (13 R460). -/
def portSends (s : State) (n : Nat) : Bool := portRuns s n && (portOf s n).mac ≠ 0

/-- An event message leaves a port: its corrected egress time, at 8 ns resolution (13 R459, R461), which with TSQ_EN enters the
queue (R472). -/
def egressNow (s : State) (n : Nat) : Nat := s.ns / 8 * 8 + (portOf s n).egressNs

def State.tsq (s : State) (n : Nat) (e : TsEntry) : State :=
  if !(portOf s n).tsqEn then s
  else if (portOf s n).tsq.length < 16 then s.modPort n fun p => { p with tsq := p.tsq ++ [e] }
  else s.modPort n fun p => { p with overflow := true, tsqDropped := satAdd 16 p.tsqDropped 1 }

/-! ### Events -/

/-- The latest eight measurements of the mean path delay on a port (13 R464). -/
def State.addDelay (s : State) (k port : Nat) (d : Int) : State :=
  s.modTrack k fun t => { t with
    delays := upd [] t.delays port fun l => (d :: l).take 8
    requests := t.requests.filter (·.1 ≠ port), pdelays := t.pdelays.filter (·.1 ≠ port) }

/-- The request of a track on the way from a port: sequenceId and egress time. -/
def Track.requestOn (t : Track) (port : Nat) : Option (Nat × Int) := (t.requests.find? (·.1 == port)).map (·.2)

/-- PTP_MESSAGE (13 R462): `stamp` is the ingress time stamp in ns of device time. -/
def ptpMessage (port : Nat) (m : PtpMsg) (stamp : Nat) (s : State) : State :=
  if !portRuns s port then s
  else
    let t2 : Int := stamp - (portOf s port).ingressNs
    match m with
    | .announce a =>
      (tracksFor s port a.domain).foldl (fun s k =>
        let t := trackOf s k
        if t.majorSdo ≠ a.majorSdo ∨ t.minorSdo ≠ a.minorSdo then s
        else
          let same (f : Foreign) : Bool := f.port == port && f.announce.source == a.source
          let f : Foreign := match t.foreigns.find? same with
            | some f => { f with announce := a, count := f.count + 1, heardAt := s.now }
            | none => { port := port, announce := a, heardAt := s.now }
          (s.modTrack k fun t => { t with foreigns := t.foreigns.filter (fun g => !same g) ++ [f] }).chooseMaster k) s
    | .delayResp domain source seq t4 corr =>
      (tracksFor s port domain).foldl (fun s k =>
        let t := trackOf s k
        match t.requestOn port, t.msDelay with
        | some (q, t3), some ms =>
          if q = seq ∧ ¬ t.p2p ∧ (t.master.map fun e => e.2.source) = some source then
            s.addDelay k port ((ms + (t4 - corr - t3)) / 2)
          else s
        | _, _ => s) s
    | .pdelayReq domain seq =>
      (tracksFor s port domain).foldl (fun s k =>
        if !(trackOf s k).p2p || !portSends s port then s
        else
          let s := (s.emit (.ptp port 3 domain seq)).tsq port { seq := seq, type := 3, domain := domain, egress := egressNow s port }
          s.emit (.ptp port 10 domain seq)) s
    | .pdelayResp domain seq t2' corr twoStep =>
      (tracksFor s port domain).foldl (fun s k =>
        let t := trackOf s k
        match t.requestOn port with
        | some (q, t1) =>
          if q ≠ seq ∨ ¬ t.p2p then s
          else if twoStep then s.modTrack k fun t => { t with pdelays := t.pdelays.filter (·.1 ≠ port) ++ [(port, t2 - t1 - corr, (t2' : Int))] }
          else s.addDelay k port ((t2 - t1 - corr) / 2)
        | none => s) s
    | .pdelayRespFollowUp domain seq t3 corr =>
      (tracksFor s port domain).foldl (fun s k =>
        let t := trackOf s k
        match t.requestOn port, t.pdelays.find? (·.1 == port) with
        | some (q, _), some (_, total, t2') => if q = seq then s.addDelay k port ((total - (t3 - t2') - corr) / 2) else s
        | _, _ => s) s
    | .other => s.modNet fun n => { n with framesDropped := sat32 n.framesDropped }

def execPtpMessage (port : Nat) (m : PtpMsg) (stamp t : Nat) (s : State) : Host.Outcome State Fault Refusal :=
  event (port < 2) t (ptpMessage port m stamp) s

/-- The first seconds value that is rejected (13 R463), in ns. -/
def invalidFrom : Nat := 18446744073 * 1000000000

/-- SYNC_MESSAGE (13 R463, R464). -/
def syncMessage (port : Nat) (m : SyncMsg) (stamp : Nat) (s : State) : State :=
  if !portRuns s port then s
  else
    let p := portOf s port
    let t2 : Int := stamp - p.ingressNs
    (tracksFor s port m.domain).foldl (fun s k =>
      if !fromMaster (trackOf s k) port m.source m.majorSdo m.minorSdo then s
      else if m.twoStep then
        let w : WaitingSync := { source := m.source, seq := m.seq, corr := m.corr, t2 := t2, at' := s.now }
        s.modTrack k fun t => { t with waiting := (w :: t.waiting).take 8 }
      else if invalidFrom ≤ m.t1 then s.modTrack k fun t => { t with invalid := sat32 t.invalid }
      else onSync k m.t1 m.corr t2 p.asymNs s) s

def execSyncMessage (port : Nat) (m : SyncMsg) (stamp t : Nat) (s : State) : Host.Outcome State Fault Refusal :=
  event (port < 2) t (syncMessage port m stamp) s

/-- FOLLOW_UP (13 R463): within 250 ms of its Sync, matched by sequenceId. -/
def followUp (port : Nat) (m : SyncMsg) (s : State) : State :=
  if !portRuns s port then s
  else
    (tracksFor s port m.domain).foldl (fun s k =>
      let t := trackOf s k
      match t.waiting.find? fun w => w.seq == m.seq && w.source == m.source with
      | none => s
      | some w =>
        let s := s.modTrack k fun t => { t with waiting := t.waiting.filter (· ≠ w) }
        if w.at' + clocksOfUs 250000 < s.now then s
        else if invalidFrom ≤ m.t1 then s.modTrack k fun t => { t with invalid := sat32 t.invalid }
        else onSync k m.t1 (w.corr + m.corr) w.t2 (portOf s port).asymNs s) s

def execFollowUp (port : Nat) (m : SyncMsg) (t : Nat) (s : State) : Host.Outcome State Fault Refusal :=
  event (port < 2) t (followUp port m) s

/-- The source changes to track `k` (13 R466). -/
def State.switchTo (s : State) (k : Nat) : State :=
  let s := s.modNet fun n => { n with source := k, switches := n.switches + 1, mapDue := true }
  ((s.recordOpen 11 16 0).followTrack k).utcOfTrack k

/-- HOLDOVER (13 R464, R466): no accepted Sync for SYNC_TIMEOUT_MS. -/
def holdover (k : Nat) (s : State) : State :=
  let t := trackOf s k
  if t.state = .off ∨ t.state = .holdover ∨ ¬ t.valid ∨ s.now < t.lastSyncAt + clocksOfUs (t.syncTimeoutMs * 1000) then s
  else
    let s := s.modTrack k fun t => { t with state := .holdover, good := 0 }
    if s.net.autoSwitch ∧ s.net.source = k ∧ (trackOf s (1 - k)).state = .locked then s.switchTo (1 - k) else s

def execHoldover (k t : Nat) (s : State) : Host.Outcome State Fault Refusal := event (k < 2) t (holdover k) s

/-- PORT_LINK_CHANGE (13 R460). -/
def portLinkChange (n : Nat) (up : Bool) (s : State) : State :=
  if (portOf s n).linkUp = up then s else (s.modPort n fun p => { p with linkUp := up }).recordOpen 11 17 0

def execPortLinkChange (n : Nat) (up : Bool) (t : Nat) (s : State) : Host.Outcome State Fault Refusal :=
  event (n < 2) t (portLinkChange n up) s

/-- The delay interval of a track in timing clocks, 2^LOG_DELAY_INTERVAL s (13 R475). -/
def Track.delayClocks (t : Track) : Nat := clocksOfUs 1000000 * 2 ^ t.logDelay.toNat / 2 ^ (-t.logDelay).toNat

/-- A track's request is due: the delay interval has passed since the latest one. -/
def requestDue (s : State) (t : Track) : Bool :=
  t.enable && (match t.requestAt with | some at' => decide (at' + t.delayClocks ≤ s.now) | none => true)

/-- PTP_DELAY_REQUEST (13 R462, R472): Delay_Req to the master's port, or Pdelay_Req on each port of the track. -/
def ptpDelayRequest (k : Nat) (s : State) : State :=
  let t := trackOf s k
  let ports := if t.p2p then bitsOf 2 t.ports else match t.master with | some (p, _) => [p] | none => []
  if !requestDue s t then s
  else
    let seq := (t.delaySeq + 1) % 2 ^ 16
    ports.foldl (fun s n =>
      if !portSends s n then s
      else
        let egress := egressNow s n
        let type := if t.p2p then 2 else 1
        let s := s.modTrack k fun t => { t with
          requests := t.requests.filter (·.1 ≠ n) ++ [(n, seq, (egress : Int))], pdelays := t.pdelays.filter (·.1 ≠ n), delaySeq := seq
          requestAt := some s.now }
        (s.emit (.ptp n type t.domain seq)).tsq n { seq := seq, type := type, domain := t.domain, egress := egress }) s

def execPtpDelayRequest (k t : Nat) (s : State) : Host.Outcome State Fault Refusal :=
  event (k < 2) t (ptpDelayRequest k) s

/-- ANNOUNCE_RECEIPT_TIMEOUT (13 R462): the selected master is forgotten and the best master chosen again. -/
def announceReceiptTimeout (k : Nat) (s : State) : State :=
  match (trackOf s k).master with
  | none => s
  | some (p, a) =>
    (s.modTrack k fun t => { t with
      foreigns := t.foreigns.filter fun f => !(f.port == p && f.announce.source == a.source) }).chooseMaster k

def execAnnounceReceiptTimeout (k t : Nat) (s : State) : Host.Outcome State Fault Refusal :=
  event (k < 2) t (announceReceiptTimeout k) s

/-- TIME_SET (09 R321, 13 R468): the step of device time that is due is made. -/
def timeSet (s : State) : State :=
  match s.net.stepDue with
  | none => s
  | some d =>
    let s := s.modNet fun n => { n with stepDue := none, mapDue := true }
    if integrated s then s else s.setDeviceTime (s.ns + d)

def execTimeSet (t : Nat) (s : State) : Host.Outcome State Fault Refusal := event true t timeSet s

/-- Slope of M in parts per 10^12. -/
def slopePpt (s : State) : Int :=
  let n := s.net
  let base := if n.ring then n.slopePpt else (Fmt.b64.toIntZero (Fmt.b64.mul n.rate (Fmt.b64.ofInt 1000))).getD 0
  let left := (n.diff.natAbs : Int) - (s.ns - n.diffAt) * n.slewPpm / 1000000
  if left ≤ 1 then base else if n.diff < 0 then base + n.slewPpm * 1000000 else base - n.slewPpm * 1000000

/-- SLEWING (13 R465): the difference exceeds 1 ns. -/
def slewing (s : State) : Bool := 1 < (mapM s.net s.ns - targetM s.net s.ns).natAbs

/-- The words of TIME_MAP (13 R469): the mapping at the present instant, or the copy of a tier manager that has it from its ring. -/
def timeMapWords (s : State) : List Word :=
  let n := s.net
  let (t, a) := if n.ring && n.source == 3 then (n.ref, n.ref + n.off) else ((s.ns : Int), taiNs s)
  [wd (2 + place 4 (flag n.mapValid) + place 5 (flag (utcValid s)) + place 6 (flag n.leap61) +
      place 7 (flag n.leap59) + place 8 (enc 16 (n.utcOffset + leapShift s)))] ++
    wd2 (enc 64 t) ++ wd2 (enc 64 a) ++ [wd (enc 32 (slopePpt s))]

/-- TIME_MAP is due: every 125 ms, and after a step, a source change or a leap-second announcement (13 R469). -/
def mapIsDue (s : State) : Bool :=
  s.net.mapDue || (match s.net.mapAt with | some t => decide (t + clocksOfUs 125000 ≤ s.now) | none => true)

/-- TIME_MAP (13 R469): to each integrated member. -/
def timeMap (s : State) : State :=
  if !mapIsDue s then s
  else
    let ws := timeMapWords s
    (s.modDrove fun d => { d with members := d.members.map fun e =>
      (e.1, if e.2.integrated then
        { e.2 with peer := { e.2.peer with out := e.2.peer.out ++ [{ kind := 7, words := ws }] } } else e.2) }).modNet
      fun n => { n with mapDue := false, mapAt := some s.now }

def execTimeMap (t : Nat) (s : State) : Host.Outcome State Fault Refusal := event true t timeMap s

/-- A TIME_MAP message from the manager reaches a member (13 R469, R470): it counts where the source is RING. -/
def takeTimeMap (ws : List Word) (s : State) : State :=
  let w (i : Nat) : Nat := (ws.getD i 0).toNat
  if s.net.source ≠ 3 then s
  else if !bit (w 0) 4 then s.modNet fun n => { n with mapValid := false }
  else
    let tRef : Int := w 1 + place 32 (w 2)
    let aRef : Int := w 3 + place 32 (w 4)
    let s := s.retarget true fun n => { n with ring := true, off := aRef - tRef, ref := tRef, slopePpt := signed 32 (w 5) }
    s.setUtc (signed 16 (field (w 0) 8 16)) (bit (w 0) 5) (bit (w 0) 6) (bit (w 0) 7)

/-- A device cycle begins: with STEER, the rate of device time moves toward a slope of 0, and without it back to its own, by at
most 0.1 ppm each time (13 R468, 11 R412). -/
def netCycle (s : State) : State :=
  if s.net.steer ∧ steerAllowed s ∧ s.net.source < 2 ∧ (trackOf s s.net.source).state = .locked then
    let lim : Int := s.net.maxSteerPpm * 1000
    s.modNet fun n => { n with
      steerPpb := clampInt (-lim) lim (n.steerPpb + clampInt (-100) 100 (slopePpt s / 1000)) }
  else if ¬ s.net.steer then s.modNet fun n => { n with steerPpb := n.steerPpb - clampInt (-100) 100 n.steerPpb }
  else s

/-- A warm or watchdog reset (13 R467). -/
def netReset (s : State) : State :=
  s.modNet fun n => { n with
    relocking := true, stepDue := none
    tracks := n.tracks.map fun e => (e.1, { e.2 with
      state := if e.2.enable then .listening else .off, valid := false, good := 0, foreigns := [], master := none, lastGm := none
      waiting := [], delays := [], msDelay := none, requests := [], pdelays := [], requestAt := none }) }

/-! ### Commands (13 R473–R480) -/

/-- TIME.PORT_CONFIG, PTP_CONFIG and UDP_CONFIG: CONFIGURE and READY only (13 R473). -/
def timeModeBad (s : State) : Bool := s.dev.mode ≠ .configure && s.dev.mode ≠ .ready

/-- A UDP ring exists. -/
def udpRing (s : State) : Bool := s.host.rings.any fun e => e.2.transport == 2 && e.2.state ≠ .absent

/-- TIME.PORT_CONFIG (13 R474). -/
def cmdTimePortConfig (p : Packet) (s : State) : State × Verdict :=
  let n := field (p.w 0) 0 1
  let en := bit (p.w 0) 1
  let old := portOf s n
  checked
    [(p.len ≠ 8, stBadLength),
     (reservedSet (p.w 0) 0xFFFFFFF0 || reservedSet (p.w 2) 0x80000000 || reservedSet (p.w 4) 0xFFFFFFC0 || 32 < p.w 4, stRange),
     (timeModeBad s, stBadMode),
     (s.net.udpEnabled && bit s.net.udpPorts n && udpRing s && (!en || old.ipv4 ≠ p.w 3), stTmUdpInUse)] s
    (s.modPort n (fun o => { o with
        enable := en, autoneg := bit (p.w 0) 2, tsqEn := bit (p.w 0) 3, mac := p.w 1 + place 32 (field (p.w 2) 0 16)
        vlan := field (p.w 2) 16 12, pcp := field (p.w 2) 28 3, ipv4 := p.w 3, prefixLen := p.w 4, gateway := p.w 5
        ingressNs := field (p.w 6) 0 16, egressNs := field (p.w 6) 16 16, asymNs := signed 32 (p.w 7) }), .done stOk [])

def execTimePortConfig (p : Packet) (s : State) : Host.Outcome State Fault Refusal :=
  command .timePortConfig cmdTimePortConfig p s

/-- TIME.PTP_CONFIG (13 R475). -/
def cmdTimePtpConfig (p : Packet) (s : State) : State × Verdict :=
  let w := p.w 0
  let k := field w 0 1; let en := bit w 1; let ports := field w 2 2; let udp := bit w 4; let domain := field w 6 8
  let other := trackOf s (1 - k)
  let delay := signed 8 (field (p.w 1) 0 8)
  let timeout := field (p.w 1) 8 8
  let clash := en && other.enable && other.domain == domain && (other.ports &&& ports ≠ 0)
  checked
    [(p.len ≠ 3, stBadLength),
     (reservedSet w 0xFC000000 || reservedSet (p.w 2) 0xFFFF0000 || 239 < domain || (en && ports == 0) ||
        delay < -7 || 5 < delay || timeout < 2 || 10 < timeout || field (p.w 1) 16 16 == 0 || p.w 2 == 0, stRange),
     (timeModeBad s, stBadMode),
     (en && udp && (bitsOf 2 ports).any (fun n => (portOf s n).ipv4 == 0), stTmNoAddr),
     (clash, stTmTrackClash)] s
    (s.modTrack k (fun old =>
        { enable := en, ports := ports, udp := udp, p2p := bit w 5, domain := domain, majorSdo := field w 14 4
          minorSdo := field w 18 8, logDelay := delay, announceTimeout := timeout, syncTimeoutMs := field (p.w 1) 16 16
          lockNs := p.w 2, state := if en then .listening else .off, syncs := old.syncs, invalid := old.invalid }), .done stOk [])

def execTimePtpConfig (p : Packet) (s : State) : Host.Outcome State Fault Refusal :=
  command .timePtpConfig cmdTimePtpConfig p s

/-- TIME.DOMAIN_SELECT (13 R476). -/
def cmdTimeDomainSelect (p : Packet) (s : State) : State × Verdict :=
  let w := p.w 0
  let source := field w 0 2; let steer := bit w 3; let early := bit w 4
  let host := source == 2
  let slew := field (p.w 1) 0 8; let maxSteer := field (p.w 1) 8 8; let step := field (p.w 1) 16 16
  let bad := reservedSet w 0xFFFFFFE0 || slew == 0 || 100 < slew || maxSteer == 0 || 100 < maxSteer || step == 0 ||
    reservedSet (p.w 6) 0xFFF80000 || (!host && (p.params.drop 2).any (· ≠ 0)) || (source == 3 && !s.drove.cfg.upEn)
  let set (s : State) : State := s.modNet fun n => { n with
    source := source, autoSwitch := bit w 2, steer := steer, stepEarly := early, slewPpm := slew, maxSteerPpm := maxSteer
    stepUs := step, relocking := false, mapDue := true }
  checked
    [(p.len ≠ 7, stBadLength), (bad, stRange),
     (source < 2 && (trackOf s source).state ≠ .locked, stTmNotLocked),
     ((steer || early) && s.drove.cfg.upEn, stTmNoSteer)] s
    (let s := set s
     if host then
       let dev : Int := p.w 4 + place 32 (p.w 5)
       let tai : Int := p.w 2 + place 32 (p.w 3)
       let s := s.retarget true fun n => { n with ring := false, off := tai - dev, ref := dev, rate := 0 }
       (s.setUtc (signed 16 (field (p.w 6) 0 16)) (bit (p.w 6) 18) (bit (p.w 6) 16) (bit (p.w 6) 17), .done stOk [])
     else if source < 2 then (s.onLocked source, .done stOk [])
     else (s.modNet fun n => { n with mapValid := n.mapValid && n.ring }, .done stOk []))

def execTimeDomainSelect (p : Packet) (s : State) : Host.Outcome State Fault Refusal :=
  command .timeDomainSelect cmdTimeDomainSelect p s

/-- HOLDOVER of TIME.READ (13 R466, R467). -/
def holdoverShown (s : State) : Bool :=
  s.net.source < 2 && (s.net.relocking || (trackOf s s.net.source).state == .holdover)

/-- The words of a track's time; 0 when it is not valid. -/
def trackWords (s : State) (k : Nat) : List Word :=
  let t := trackOf s k
  wd2 (if t.valid then enc 64 (s.ns + estimate t s.ns) else 0)

/-- TIME.READ (13 R477). -/
def cmdTimeRead (p : Packet) (s : State) : State × Verdict :=
  let w6 := flag (integrated s) + place 1 (flag s.net.mapValid) + place 2 (flag (utcValid s)) + place 3 (flag (leapNow s))
    + place 4 s.net.source + place 6 (flag (holdoverShown s)) + place 7 (flag (slewing s))
    + place 8 (enc 16 (s.net.utcOffset + leapShift s))
  checked [(p.len ≠ 0, stBadLength)] s
    (s, .done stOk (wd2 (s.ns % 2 ^ 64) ++ wd2 (if s.net.mapValid then enc 64 (taiNs s) else 0) ++ wd2 (calNs s) ++
      [wd w6, wd (baseCycle s)] ++ trackWords s 0 ++ trackWords s 1))

def execTimeRead (p : Packet) (s : State) : Host.Outcome State Fault Refusal := command .timeRead cmdTimeRead p s

/-- TIME.TS_QUEUE_READ (13 R478). -/
def cmdTimeTsQueueRead (p : Packet) (s : State) : State × Verdict :=
  let w := p.w 0
  let n := field w 0 1; let most := field w 1 5
  let q := portOf s n
  let got := q.tsq.take most
  checked
    [(p.len ≠ 1, stBadLength), (reservedSet w 0xFFFFFFC0 || most == 0 || 16 < most, stRange)] s
    (s.modPort n (fun o => { o with tsq := o.tsq.drop most, overflow := false }),
     .done stOk (wd (got.length + place 5 (flag q.overflow)) ::
       got.flatMap fun e => wd (e.seq + place 16 e.type + place 20 e.domain) :: wd2 e.egress))

def execTimeTsQueueRead (p : Packet) (s : State) : Host.Outcome State Fault Refusal :=
  command .timeTsQueueRead cmdTimeTsQueueRead p s

/-- TIME.UDP_CONFIG (13 R479). -/
def cmdTimeUdpConfig (p : Packet) (s : State) : State × Verdict :=
  let w := p.w 0
  let port := field w 0 16; let en := bit w 16; let ports := field w 17 2
  let n := field (p.w 1) 0 4
  let allow := (List.range n).map fun i => (p.w (2 + 2 * i), p.w (3 + 2 * i))
  checked
    [(p.len < 2 || p.len ≠ 2 + 2 * n, stBadLength),
     (reservedSet w 0xFE000000 || port == 0 || port == 319 || port == 320 || n == 0 || 8 < n ||
        reservedSet (p.w 1) 0xFFFFFFF0 || allow.any (fun a => 32 < a.2), stRange),
     (timeModeBad s, stBadMode),
     (en && (bitsOf 2 ports).any (fun k => (portOf s k).ipv4 == 0), stTmNoAddr),
     (udpRing s && s.net.udpEnabled && (!en || (s.net.udpPorts &&& ports) ≠ s.net.udpPorts), stTmUdpInUse)] s
    (s.modNet (fun u => { u with
        udpEnabled := en, udpPort := port, udpPorts := ports, dscp := field w 19 6, allow := allow }), .done stOk [])

def execTimeUdpConfig (p : Packet) (s : State) : Host.Outcome State Fault Refusal :=
  command .timeUdpConfig cmdTimeUdpConfig p s

/-- TIME.STATUS (13 R480). -/
def cmdTimeStatus (p : Packet) (s : State) : State × Verdict :=
  let k := field (p.w 0) 0 1
  let t := trackOf s k
  let gm := match t.master with | some (_, a) => a.gmId | none => 0
  let port := match t.master with | some (n, _) => n | none => 0
  let ratePpt := (Fmt.b64.toIntZero (Fmt.b64.mul t.rate (Fmt.b64.ofInt 1000))).getD 0
  checked [(p.len ≠ 1, stBadLength), (reservedSet (p.w 0) 0xFFFFFFFE, stRange)] s
    (s, .done stOk ([wd (t.state.num + place 3 port + place 4 (flag (portOf s 0).linkUp) + place 5 (flag (portOf s 1).linkUp) +
        place 6 s.net.source + place 8 (flag (s.net.steer && steerAllowed s)))] ++ wd2 gm ++
      [wd (enc 32 t.err), wd (enc 32 ratePpt), wd (enc 32 t.mpd), wd t.syncs, wd t.invalid,
       wd ((portOf s 0).tsqDropped + place 16 (portOf s 1).tsqDropped),
       wd (min s.net.switches 65535 + place 16 (min s.net.taiSteps 65535)), wd s.net.framesDropped]))

def execTimeStatus (p : Packet) (s : State) : Host.Outcome State Fault Refusal := command .timeStatus cmdTimeStatus p s

end Sys2Proof.Machine
end

