-- ==== Sys2Proof/Machine/Idle.lean ====
section
/-! DEFINITION. The idle conditions of the power domains (18 R597), and what their loss of supply undoes (R598, R604). -/

namespace Sys2Proof.Machine

/-- Slot `n` is RUNNING or HELD (04 R138). -/
def slotLive (s : State) (n : Nat) : Bool :=
  (look {} s.graph.slots n).enabled && (s.dev.mode == .run || s.dev.mode == .hold)

/-- The cores a slot may use: CORE_MASK of its active bank and CORE_LIMIT (05 R167). -/
def slotCoreMask (s : State) (n : Nat) : Nat :=
  let b := if (look {} s.graph.slots n).activeB then 1 else 0
  field (readWord s (0x00800000 + (2 * n + b) * 0x00200000 + 16)) 0 16 &&& (look {} s.sched.slots n).coreLimit

/-- A timed command is due within `us` of now. -/
def timedWithin (s : State) (us : Nat) : Bool :=
  s.host.timed.any fun t => (cycDiff t.cycle (baseCycle s)) * (lBase s : Nat) ≤ (us + lBase s : Nat)

/-- The domain is idle (18 R597). DESIGN CHOICE: the state of the PCIe link is not seen, so HOSTLINK on PCIe is never idle
(log 66). -/
def domainIdle (s : State) (d : Nat) : Bool :=
  match d with
  | 1 => s.boot.hostSel ≠ 0
  | 2 => s.host.deferred.isEmpty && !timedWithin s 20 &&
      s.host.rings.all fun e => e.2.kind ≠ 0 || e.2.state ≠ .active || e.2.prod == e.2.cons
  | 3 => s.dev.mode == .graze
  | 4 => !s.drove.cfg.upEn && !s.drove.cfg.downEn && s.pair.role == .off &&
      (match s.pwr.graze with | some g => g.entries.all fun e => field e 0 3 ≠ 6 | none => true) &&
      s.dio.pwms.all fun e => e.2.substDuty == 0 || e.2.substDuty == 0x3F800000
  | 5 => !s.drove.cfg.upEn && !s.drove.cfg.downEn && s.pair.role == .off
  | 6 => (List.range 4).all fun n => !slotLive s n
  | 7 => (List.range 4).all fun n => !slotLive s n || slotCoreMask s n < 256
  | 8 => (enabledLoops s).isEmpty
  | 9 => s.adc.convs.all (fun e => e.2.table.isEmpty && e.2.waitingUrgent.isNone && e.2.calibration.isNone && e.2.busy.isNone) &&
      s.adc.groups.all fun e => e.2.trig == 0
  | 10 => s.acq.captures.all (fun e => !e.2.running) && s.acq.hists.all (fun e => !e.2.enable) &&
      s.acq.pmaps.all (fun e => !e.2.enable) && s.acq.triggers.all fun e => e.2.kind == 0
  | 11 => s.can.ctrls.all (fun e => !e.2.enabled) && s.net.ports.all fun e => !e.2.enable
  | _ => false

/-- The item a compare entry names is on the variant and configured (18 R607, R618). A digital input needs no
configuration. -/
def grazeRefOk (s : State) (kind index : Nat) : Bool :=
  match kind with
  | 4 | 5 => index / 8 < converters s && (look {} s.adc.convs (index / 8)).configured
  | 6 => (look {} s.dio.encs index).configured
  | _ => true

/-- Waking from OFF restores the registers; what lay in the domain's memories is lost: CAN buffers wake EMPTY (18 R598,
12 R449). Slot memories are written through (05 R170), and a converter's conversion was not in progress. -/
def wokenFromOff (d : Nat) (s : State) : State := if d = 11 then canRestart s else s

/-- OFF loses what a domain does (18 R598): the conversions in progress and the results of the converters. An urgent request is made again,
and a table begins anew (log 15). -/
def lostInOff (d : Nat) (s : State) : State :=
  if d ≠ 9 then s
  else s.modAdc fun a => { a with
    results := [], grouped := [], image := [], latched := []
    convs := updAll {} a.convs (a.convs.map (·.1)) fun _ c => { c with
      busy := none, triggeredAt := none, entry := 0, made := 0, idleUntil := 0, retry := []
      waitingUrgent := match c.busy with | some (.urgent u, _) => some u | _ => c.waitingUrgent } }

/-- DOMAIN_RETRY clears the memories of the domain to zero (18 R604). -/
def clearDomainMemory (d : Nat) (s : State) : State :=
  match d with
  | 3 => ((s.zeroBytes 0 0x02000000).zeroBytes 0x33000000 0x80000).modKeep fun k => { k with image := none, next := none, undo := [] }
  | 8 => s.zeroBytes 0x31000000 0x400000
  | 10 => s.zeroBytes 0x30000000 0x800000
  | 11 => canRestart s
  | _ => s

end Sys2Proof.Machine
end

