-- ==== Sys2Proof/Machine/Pwr.lean ====
section
/-! DEFINITION. The PWR unit: power domains, GRAZE and the health monitors (18). -/

namespace Sys2Proof.Machine

/-! ### Domains (18 R597–R604) -/

/-- The domain is essential (18 R597). -/
def essential (s : State) (d : Nat) : Bool :=
  match d with
  | 0 | 2 | 3 | 4 => true
  | 1 => s.boot.hostSel < 2
  | 5 => s.drove.cfg.upEn || s.drove.cfg.downEn
  | _ => false

/-- Wake latency in µs from a state; none where the domain has no such state (18 R597). -/
def wakeLatency (d : Nat) : PState → Option Nat
  | .on => some 0
  | .gated => if d = 0 then none else some 1
  | .retain =>
    match d with
    | 0 => none | 3 => some 40 | 4 => some 250 | 5 => some 300 | _ => some 20
  | .off =>
    match d with
    | 6 => some 50 | 7 => some 50 | 9 => some 100 | 11 => some 300 | _ => none

/-- The deepest state of a domain (18 R597). -/
def deepest (s : State) (d : Nat) : PState :=
  match d with
  | 0 => .on
  | 1 => if s.boot.hostSel = 0 then .gated else .retain
  | 6 | 7 | 9 | 11 => .off
  | _ => .retain

/-- The deepest state that meets R600 outside GRAZE. DEDUCED: "in GRAZE only" keeps FABRIC and TIMING ON (log 15). -/
def chosenState (s : State) (d : Nat) : PState :=
  if d = 0 ∨ d = 3 ∨ d = 4 ∨ (domain s d).tolUs = 0 then .on
  else if !domainIdle s d then .on
  else
    let ok (p : PState) : Bool := p.num ≤ (deepest s d).num &&
      (match wakeLatency d p with | some l => l ≤ (domain s d).tolUs | none => false)
    if ok .off then .off else if ok .retain then .retain else if ok .gated then .gated else .on

/-- The state a domain takes in GRAZE (18 R605). -/
def grazeState (s : State) (d : Nat) : PState :=
  match d with
  | 0 => .on
  | 2 | 3 => .retain
  | 4 | 5 => if domainIdle s d then .retain else .on
  | _ => deepest s d

/-- Every domain's choice is made again (18 R600), or in GRAZE the states of R605 hold. The device does so at each start of a cycle, at
each sample of its monitors, and where a tolerance, a transition or GRAZE changes (log 15). -/
def rechoose (s : State) : State :=
  (List.range 12).foldl (fun s d =>
    let p := if s.dev.mode = .graze ∧ !s.pwr.waking then grazeState s d
      else if s.pwr.thermalTrip ∧ !essential s d then deepest s d
      else chosenState s d
    if p = (domain s d).state ∧ (domain s d).going = none then s else retarget d p s) s

/-- WASTED_TRANSITION (18 R602, R611): how DETAIL packs its two values is not stated (log 7). -/
def wasted (s : State) : State :=
  (s.takeFree.2.record 2 0x10 0 s.takeFree.1.toNat).modPwr fun p => { p with wasted := sat32 p.wasted }

/-- Every domain stands ready. -/
def allReady (s : State) : Bool := (List.range 12).all fun d =>
  domainAbsent s d || (domain s d).failed || (domain s d).going.isNone

/-! ### GRAZE (18 R605–R611) -/

/-- The device returns to READY as soon as it is integrated (18 R610); the commands that asked for it are answered. -/
def finishWake (s : State) : State :=
  if s.pwr.waking ∧ s.dev.mode = .graze ∧ !notIntegrated s ∧ allReady s then
    ((s.modPwr fun p => { p with waking := false }).setMode .ready).settle (fun d => d.op == .devSetMode)
      fun _ => (stOk, [wd 1, wd s.dev.readyMissing])
  else if s.dev.mode ≠ .graze then s.modPwr fun p => { p with waking := false }
  else s

/-- The exit from GRAZE begins: every domain takes its state under R600 (18 R610). -/
def grazeExit (cause detail2 : Nat) (s : State) : State :=
  let s := (s.modPwr fun p => { p with wakeCause := cause, waking := true, exitQueued := none }).record 2 0x11 0 cause detail2
  finishWake (rechoose s)

/-- A wake event (18 R610, R611): during the entry it is held until the entry is complete. -/
def grazeWake (cause detail2 : Nat) (s : State) : State :=
  if s.dev.mode ≠ .graze ∨ s.pwr.waking then s
  else if s.pwr.entryRunning then s.modPwr fun p => { p with exitQueued := p.exitQueued.or (some (cause, detail2)) }
  else grazeExit cause detail2 s

/-- GRAZE is entered at a cycle start (18 R605). -/
def enterGraze (s : State) : State :=
  -- loop-driven PWM outputs take their own substitute values too (06 R200)
  let s := setSubstitute true s
  rechoose (s.modPwr fun p => { p with grazeSince := s.now, entryRunning := true, exitQueued := none, waking := false })

/-- The synchronised logical level of a digital input, without its filter (18 R607). -/
def dinLogical (s : State) (n : Nat) : Bool := rawLevel s n

/-- The first sample of GRAZE lies PERIOD_MS after the end of the entry, and each further one PERIOD_MS later (18 R606). -/
def grazePeriod (s : State) : Nat := match s.pwr.graze with | some g => clocksOfUs (g.periodMs * 1000) | none => 0

/-- GRAZE_ENTRY (18 R605, R611): the entry completes once every domain has been lowered; levels and counts at its end are kept (R607). A
device that entered SAFE meanwhile is raised as for a wake. -/
def grazeEntry (s : State) : State :=
  if !s.pwr.entryRunning ∨ !allReady s then s
  else
    let s := s.modPwr fun p => { p with
      entryRunning := false
      nextSample := s.now + grazePeriod s
      entryLevels := (List.range 64).foldl (fun t n => put false t n (dinLogical s n)) []
      entryCounts := (List.range 16).foldl (fun t n => put 0 t n (encoderCount s n)) [] }
    match s.pwr.exitQueued with
    | some (c, d) => wasted (grazeExit c d s)
    | none => if s.dev.mode = .safe then grazeExit 6 0 s else s

/-- SAFE was entered from GRAZE (18 R611): the domains are raised as for a wake, once an entry in progress is complete. -/
def grazeToSafe (s : State) : State := if s.pwr.inGraze ∧ !s.pwr.entryRunning then grazeExit 6 0 s else s

/-- A compare entry is true in this sample (18 R607); `ain` gives the corrected codes of the conversions made. -/
def compareTrue (s : State) (ain : Nat → Nat) (e : Nat) : Bool :=
  let i := field e 3 7; let v := field e 16 16
  match field e 0 3 with
  | 1 => dinLogical s i
  | 2 => !dinLogical s i
  | 3 => dinLogical s i ≠ look false s.pwr.entryLevels i
  | 4 => v < ain i
  | 5 => ain i < v
  | 6 => v ≤ (signed 32 (encoderCount s i + 2 ^ 32 - look 0 s.pwr.entryCounts i)).natAbs
  | _ => false

/-- The signals crossing of one limit with its hysteresis (18 R613): crossed now. -/
def limitCrossed (was : Bool) (beyond back : Bool) : Bool := beyond || (was && !back)

/-- A monitor after a sample of `v` (18 R613). -/
def Monitor.sample (m : Monitor) (v : Int) : Monitor :=
  { m with
    value := v, sampled := true
    crossLowWarn := limitCrossed m.crossLowWarn (v < m.lowWarn) (m.lowWarn + m.hyst ≤ v)
    crossHighWarn := limitCrossed m.crossHighWarn (m.highWarn < v) (v ≤ m.highWarn - m.hyst)
    crossLowAlarm := limitCrossed m.crossLowAlarm (v < m.lowAlarm) (m.lowAlarm + m.hyst ≤ v)
    crossHighAlarm := limitCrossed m.crossHighAlarm (m.highAlarm < v) (v ≤ m.highAlarm - m.hyst) }

/-- One monitor's sample: limits newly crossed are recorded, reported and may wake the device (18 R608, R613). -/
def monitorOne (i : Nat) (v : Int) (s : State) : State :=
  let m := s.pwr.monitors.getD i Monitor.temperature
  let n := m.sample v
  let s := s.modPwr fun p => { p with monitors := setAt p.monitors i n }
  let warn := (n.crossLowWarn && !m.crossLowWarn) || (n.crossHighWarn && !m.crossHighWarn)
  let alarm := (n.crossLowAlarm && !m.crossLowAlarm) || (n.crossHighAlarm && !m.crossHighAlarm)
  let s := if warn then s.takeFree.2.record 2 0x12 0 s.takeFree.1.toNat else s
  let s := if alarm then s.reportFault 2 2 n.alarmSev i else s
  let monWake := match s.pwr.graze with | some g => g.monWake | none => false
  if (warn || alarm) && s.dev.mode == .graze && monWake then grazeWake 4 0 s else s

/-- THERMAL_TRIP (18 R614) and TEMP_MAX (R620). -/
def thermal (s : State) : State :=
  let ts := (s.pwr.monitors.take 8).map (·.value)
  let hi := ts.foldl max (-(2 ^ 15))
  let s := s.modPwr fun p => { p with tempMax := some (match p.tempMax with | some m => max m hi | none => hi) }
  if 2000 ≤ hi ∧ !s.pwr.thermalTrip then
    let s := s.modPwr fun p => { p with thermalTrip := true, trips := satAdd 16 p.trips 1 }
    rechoose (s.takeFree.2.reportFault 2 3 3 s.takeFree.1.toNat true)
  else if hi < 1840 ∧ s.pwr.thermalTrip then
    rechoose ((s.modPwr fun p => { p with thermalTrip := false }).modFlt fun m =>
      { m with continuing := m.continuing.filter fun c => ¬ (c.1 = 2 ∧ c.2.1 = 3) })
  else s

/-- The monitors are sampled: `vs` are the corrected VALUEs of monitors 0 to 23 (18 R612). -/
def sampleMonitors (vs : List Int) (s : State) : State :=
  thermal (vs.zipIdx.foldl (fun s e => if e.2 < 24 then monitorOne e.2 e.1 s else s) (s.modPwr fun p => { p with monitoredAt := some s.now }))

/-- 1 ms has passed since the monitors were sampled (18 R612). -/
def monitorsDue (s : State) : Bool := match s.pwr.monitoredAt with | some t => t + clocksOfUs 1000 ≤ s.now | none => true

/-- MONITOR_SAMPLE (18 R613): every 1 ms. -/
def monitorSample (vs : List Int) (s : State) : State := if monitorsDue s then rechoose (sampleMonitors vs s) else s

def execMonitorSample (vs : List Int) (t : Nat) (s : State) : Host.Outcome State Fault Refusal :=
  event (vs.length == 24) t (monitorSample vs) s

/-- GRAZE_SAMPLE (18 R606, R609): TIMING and ADC, raised for the sample alone, show no transition (log 15). `ains` gives the corrected code of each AIN entry's conversion. -/
def grazeSample (ains : List (Nat × Nat)) (vs : List Int) (s : State) : State :=
  match s.pwr.graze with
  | none => s
  | some g =>
    if s.dev.mode ≠ .graze ∨ s.pwr.entryRunning ∨ s.pwr.waking ∨ s.now < s.pwr.nextSample then s
    else
      let s := s.modPwr fun p => { p with nextSample := p.nextSample + grazePeriod s }
      let ain (i : Nat) : Nat := match ains.find? (·.1 == i) with | some e => e.2 | none => 0
      let truth : List (Nat × Bool × Bool) :=
        g.entries.zipIdx.map fun e => (e.2, field e.1 0 3 ≠ 0 && compareTrue s ain e.1, decide (field e.1 0 3 ≠ 0))
      let inactive := (truth.filter fun e => e.2.2 && !e.2.1).map (·.1)
      let firing := (truth.filter fun e => e.2.1 && !s.pwr.masked.contains e.1).map (·.1)
      let s := sampleMonitors vs s
      let s := s.modPwr fun p => { p with masked := (p.masked.filter fun e => !inactive.contains e) ++ firing }
      match firing with
      | e :: _ => grazeWake 1 e s
      | [] => s

/-- MAX_S (18 R608): the GRAZE timer, MAX_S seconds after entry. -/
def maxS (s : State) : State :=
  match s.pwr.graze with
  | some g => if g.maxS ≠ 0 ∧ s.pwr.grazeSince + clocksOfUs (g.maxS * 1000000) ≤ s.now then grazeWake 2 0 s else s
  | none => s

/-- CAN_WAKE (18 R608, R609): a dominant level of 5 µs on a receive pin of a CAN_WAKE controller. -/
def canWake (n : Nat) (s : State) : State :=
  match s.pwr.graze with
  | some g =>
    if s.dev.mode = .graze ∧ bit g.canWake n ∧ n ∉ s.pwr.canMasked ∧ !s.pwr.waking ∧ s.pwr.exitQueued.isNone then
      grazeWake 3 0 (s.modPwr fun p => { p with canMasked := p.canMasked ++ [n] })
    else s
  | none => s

/-- CAN_WAKE_RECESSIVE (18 R609): the mask of the source clears. -/
def canWakeRecessive (n : Nat) (s : State) : State :=
  s.modPwr fun p => { p with canMasked := p.canMasked.filter (· ≠ n) }

def execCanWakeRecessive (n t : Nat) (s : State) : Host.Outcome State Fault Refusal :=
  event (n < canControllers s) t (canWakeRecessive n) s

/-! ### Transitions (18 R602–R604) -/

/-- A domain has been raised: its failure ends, PWR.DOMAIN_RETRY is answered (18 R603, R604, R621). -/
def raised (d : Nat) (m : Domain) (s : State) : State :=
  let s := if m.retrying then s.recordOpen 2 2 0 true else s
  let s := if m.state = .off then wokenFromOff d s else s
  let s := if m.failed then
      (clearDomainMemory d s).modFlt fun f => { f with continuing := f.continuing.filter (· ≠ (2, 1, d)) } else s
  (s.modDomain d fun m => { m with failed := false, retrying := false }).settle
    (fun e => e.op == .pwrDomainRetry && e.data == [d]) fun _ => (stOk, [])

/-- How long a transition of domain `d` to `p` lasts, in µs (18 R597, R598): a lowering its fixed time, a raising the wake latency of the
state left. -/
def transitionUs (d : Nat) (m : Domain) (p : PState) : Nat :=
  match p with
  | .on => (wakeLatency d m.state).getD 0
  | .gated => 1
  | .retain => 10
  | .off => 20

/-- Device time resumes when TIMING is ON again (18 R599): from its value at the lowering on, by the count of the 32.768 kHz crystal, whose
error is open within one period, 30.52 µs, and 100 ppm of the interval (19 R624), and never backwards. -/
def timeResumes (s : State) : State :=
  match s.pwr.timingLow with
  | none => s
  | some (at', time) =>
    let bound := 24416 + (s.now - at') / 10000
    let error : Int := (s.takeFree.1.toNat % (2 * bound + 1) : Nat) - (bound : Int)
    let resumed : Int := max (time : Int) ((s.clock : Int) + error)
    ({ s.takeFree.2 with timeStep := s.timeStep + (resumed - s.clock) }).modPwr fun p => { p with timingLow := none }

/-- What reaching a state does: TIMING in RETAIN leaves device time to the crystal (18 R599), and OFF loses what the domain does (R598). -/
def stateReached (d : Nat) (m : Domain) (p : PState) (s : State) : State :=
  match p with
  | .on => raised d m (if d = 4 then timeResumes s else s)
  | .off => lostInOff d s
  | _ => if d = 4 then s.modPwr fun q => { q with timingLow := some (s.now, s.clock) } else s

/-- TRANSITION_DONE (18 R602): the transition in progress of domain `d` ends, its time being over, and its queued target starts. -/
def transitionDone (d : Nat) (s : State) : State :=
  let m := domain s d
  match m.going.filter fun p => m.since + clocksOfUs (transitionUs d m p) ≤ s.now with
  | none => s
  | some p =>
    let s := s.modDomain d fun m => { m with state := p, going := none, queued := none, cutShort := false }
    let s := stateReached d m p s
    let s := if m.cutShort ∧ p ≠ .on then wasted s else s
    let s := match m.queued with
      | some q => retarget d q s
      | none => rechoose s
    finishWake s

/-- WAKE_TIMEOUT (18 R603): a raising that lasts WAKE_TIMEOUT_US is repeated once, and then the domain is FAILED. -/
def wakeTimeout (d : Nat) (s : State) : State :=
  let m := domain s d
  if m.going ≠ some .on ∨ s.now < m.since + clocksOfUs m.wakeTimeoutUs then s
  else if !m.retrying then
    (s.modDomain d fun m => { m with retrying := true, since := s.now }).modPwr fun p => { p with wakeRetries := sat32 p.wakeRetries }
  else
    let s := s.modDomain d fun m => { m with going := none, queued := none, cutShort := false, retrying := false, failed := true }
    let s := (s.reportFault 2 1 (if essential s d then 3 else 1) d (essential s d)).askGiveUp { cycle := none, handover := none }
    s.settle (fun e => e.op == .pwrDomainRetry && e.data == [d]) fun _ => (stPwFailed, [])

/-! ### Commands (18 R615–R621) -/

/-- PWR.LATENCY_SET (18 R616). -/
def cmdPwrLatencySet (p : Packet) (s : State) : State × Verdict :=
  let ds := bitsOf 12 (p.w 0); let limit := field (p.w 2) 0 16
  checked
    [(p.len ≠ 3, stBadLength),
     (bit (p.w 0) 0 || reservedSet (p.w 0) 0xFFFFF000 || ds.any (domainAbsent s) || 1000000 < p.w 1 ||
        (limit ≠ 0 && (limit < 100 || 50000 < limit)) || reservedSet (p.w 2) 0xFFFF0000, stRange)] s
    (rechoose (ds.foldl (fun s d => s.modDomain d fun m =>
        { m with tolUs := p.w 1, wakeTimeoutUs := if limit = 0 then m.wakeTimeoutUs else limit }) s), .done stOk [])

def execPwrLatencySet (p : Packet) (s : State) : Host.Outcome State Fault Refusal := command .pwrLatencySet cmdPwrLatencySet p s

/-- The words of PWR.STATE (18 R617). -/
def pwrStateWords (s : State) : List Word :=
  let ds := (List.range 12).map fun d => if domainAbsent s d then { domain s d with state := .off, going := none, failed := false } else domain s d
  [wd (ds.zipIdx.map fun e => place (2 * e.2) e.1.state.num).sum,
   wd (ds.zipIdx.map fun e => place e.2 (flag e.1.failed) + place (12 + e.2) (flag e.1.going.isSome)).sum,
   wd (maskOf s.pwr.masked + place 16 (maskOf s.pwr.canMasked)),
   wd s.pwr.wakeCause, wd s.pwr.wakes, wd s.pwr.wasted, wd s.pwr.wakeRetries] ++ (ds.drop 1).map fun m => wd m.tolUs

def cmdPwrState (p : Packet) (s : State) : State × Verdict :=
  checked [(p.len ≠ 0, stBadLength)] s (s, .done stOk (pwrStateWords s))

def execPwrState (p : Packet) (s : State) : Host.Outcome State Fault Refusal := command .pwrState cmdPwrState p s

/-- A compare entry breaks the field ranges of R607. -/
def compareBad (e : Nat) : Bool :=
  let k := field e 0 3; let i := field e 3 7; let v := field e 16 16
  k == 7 || reservedSet e 0xFC00 ||
  ((k == 1 || k == 2 || k == 3) && (63 < i || v ≠ 0)) || (k == 6 && (15 < i || v == 0))

/-- PWR.GRAZE_CONFIG (18 R618). -/
def cmdPwrGrazeConfig (p : Packet) (s : State) : State × Verdict :=
  let w := p.w 0
  let n := field w 14 5; let es := (p.params.drop 2).map (·.toNat)
  checked
    [(p.len < 2 || p.len ≠ 2 + n, stBadLength),
     (16 < n || field w 0 14 < 1 || 10000 < field w 0 14 || reservedSet w 0xF0000000 || reservedSet (p.w 1) 0xFFFF0000 ||
        es.any compareBad || (bitsOf 8 (field w 20 8)).any (fun c => canControllers s ≤ c), stRange),
     (s.dev.mode ≠ .configure && s.dev.mode ≠ .ready, stBadMode),
     (es.any (fun e => !grazeRefOk s (field e 0 3) (field e 3 7)), stPwGrazeRef)] s
    (s.modPwr (fun q => { q with
        graze := some { periodMs := field w 0 14, monWake := bit w 19, canWake := field w 20 8, maxS := p.w 1, entries := es }
        masked := [], canMasked := [] }), .done stOk [])

def execPwrGrazeConfig (p : Packet) (s : State) : Host.Outcome State Fault Refusal := command .pwrGrazeConfig cmdPwrGrazeConfig p s

/-- A limit of monitor `m` in its VALUE format: int16, or uint16 for the voltages (18 R612). -/
def monitorValue (m w : Nat) : Int := if 8 ≤ m ∧ m < 20 then (w % 2 ^ 16 : Nat) else signed 16 w

/-- PWR.MONITOR_CONFIG (18 R619). -/
def cmdPwrMonitorConfig (p : Packet) (s : State) : State × Verdict :=
  let m := field (p.w 0) 0 5
  let lw := monitorValue m (p.w 1); let hw := monitorValue m (p.w 1 / 2 ^ 16)
  let la := monitorValue m (p.w 2); let ha := monitorValue m (p.w 2 / 2 ^ 16)
  let new := { s.pwr.monitors.getD m Monitor.temperature with
    lowWarn := lw, highWarn := hw, lowAlarm := la, highAlarm := ha, alarmSev := field (p.w 0) 5 2, hyst := field (p.w 3) 0 16 }
  checked
    [(p.len ≠ 4, stBadLength),
     (23 < m || reservedSet (p.w 0) 0xFFFFFF80 || reservedSet (p.w 3) 0xFFFF0000 || lw < la || hw ≤ lw || ha < hw, stRange)] s
    (s.modPwr (fun q => { q with monitors := setAt q.monitors m new }), .done stOk [])

def execPwrMonitorConfig (p : Packet) (s : State) : Host.Outcome State Fault Refusal :=
  command .pwrMonitorConfig cmdPwrMonitorConfig p s

/-- The words of PWR.MONITOR_READ (18 R620). -/
def monitorWords (s : State) : List Word :=
  s.pwr.monitors.map (fun m => wd (enc 16 m.value + place 16 (flag m.crossLowWarn) + place 17 (flag m.crossHighWarn)
    + place 18 (flag m.crossLowAlarm) + place 19 (flag m.crossHighAlarm))) ++ [wd (enc 16 (s.pwr.tempMax.getD 0) + place 16 s.pwr.trips)]

def cmdPwrMonitorRead (p : Packet) (s : State) : State × Verdict :=
  checked [(p.len ≠ 0, stBadLength)] s (s, .done stOk (monitorWords s))

def execPwrMonitorRead (p : Packet) (s : State) : Host.Outcome State Fault Refusal := command .pwrMonitorRead cmdPwrMonitorRead p s

/-- PWR.DOMAIN_RETRY (18 R604, R621). -/
def cmdPwrDomainRetry (p : Packet) (s : State) : State × Verdict :=
  let d := field (p.w 0) 0 4
  checked
    [(p.len ≠ 1, stBadLength), (d == 0 || 11 < d || reservedSet (p.w 0) 0xFFFFFFF0 || domainAbsent s d, stRange),
     (s.dev.mode ≠ .configure && s.dev.mode ≠ .ready && s.dev.mode ≠ .safe, stBadMode),
     (!(domain s d).failed, stPwNotFailed)] s
    ((if (domain s d).going.isSome then s else s.modDomain d fun m => { m with going := some .on, since := s.now, retrying := false }).defer
      .pwrDomainRetry p [d])

def execPwrDomainRetry (p : Packet) (s : State) : Host.Outcome State Fault Refusal := command .pwrDomainRetry cmdPwrDomainRetry p s

end Sys2Proof.Machine
end

