-- ==== Sys2Proof/Machine/Startup.lean ====
section
/-! DEFINITION. Power-up, the resets, the configuration replay and the end of the resume window (03 R87–R100; 19 R627). -/

namespace Sys2Proof.Machine

/-! ### Cold power-up (R87–R92) -/

/-- What the pins show of a device that loses its supply or is reset: CROOK_OUT and RING_BYPASS_N low (10 R395, 15 R520). -/
def pinsOff (s : State) : State :=
  let s := if s.pair.role.holds then s.emit (.crook false) else s
  s.bypassOff

/-- Everything but the island, the variant and the pins starts anew (R87, R94): what waits before t1. -/
def coldState (s : State) (phase : Phase) (lost : List Nat) : State :=
  { State.reset with
    now := s.now, timeStep := -(s.now : Int), steer := {}, pending := s.pending, outbox := (pinsOff s).outbox, fresh := s.fresh, isl := s.isl
    boot := {
      variant := s.boot.variant, phase := phase, lostSupplies := lost, resetPinHigh := s.boot.resetPinHigh
      perstReleased := s.boot.perstReleased, pcieTraining := false } }

/-- COLD_POWER_UP (R87, R94): VDD_AON enters its range; the STO outputs are de-energised. PCIE_PERST_N is released later (R88). -/
def coldPowerUp (s : State) : State :=
  if s.boot.phase ≠ .unpowered then s
  else islandResetPin <| (coldState s .beforeT1 (s.boot.lostSupplies.filter (· ≠ 2))).modBoot fun b => { b with perstReleased := false }

def execColdPowerUp (t : Nat) (s : State) : Host.Outcome State Fault Refusal := event true t coldPowerUp s

/-- T1 (R87): every supply but those of the island is in range, and RESET_N is released. -/
def atT1 (s : State) : State :=
  if s.boot.phase = .beforeT1 ∧ s.boot.resetPinHigh then
    s.modBoot fun b => { b with phase := .crystal, t1At := s.now, lostSupplies := b.lostSupplies.filter (9 < ·) }
  else s

def execT1 (t : Nat) (s : State) : Host.Outcome State Fault Refusal := event true t atT1 s

/-- `us` µs have passed since t1 (R87). -/
def sinceT1 (s : State) (us : Nat) : Bool := s.boot.t1At + clocksOfUs us ≤ s.now

/-- PLL_LOCK (R91): device time starts at 0, 2.2 ms after t1. The count of timing clocks since the model's start goes on (log 33). -/
def pllLock (s : State) : State :=
  if s.boot.phase = .crystal ∧ sinceT1 s 2200 then { s with timeStep := -(s.now : Int), steer := {}, boot := { s.boot with phase := .locked } } else s

def execPllLock (t : Nat) (s : State) : Host.Outcome State Fault Refusal := event true t pllLock s

/-- FUSE_READ (R87, R89, R90): HOST_SEL is sampled, and the fuses are read, once more where the check fails. -/
def fuseRead (sel : Nat) (first second : Bool) (s : State) : State :=
  if s.boot.phase ≠ .locked ∨ ¬ sinceT1 s 2250 then s
  else
    let s := s.modBoot fun b => { b with phase := .fused, hostSel := sel, fuseFault := !first && !second }
    if first then s else if second then s.recordOpen 0 45 0 true else s.recordOpen 0 46 1

def execFuseRead (sel : Nat) (first second : Bool) (t : Nat) (s : State) : Host.Outcome State Fault Refusal :=
  event (sel < 4) t (fuseRead sel first second) s

/-- MEMORY_CLEARING (R87, R88): the service cores start, memory is cleared and link training is enabled. -/
def memoryClearing (s : State) : State :=
  if s.boot.phase ≠ .fused ∨ ¬ sinceT1 s 2300 then s
  else (s.modBoot fun b => { b with phase := .cleared, pcieTraining := b.perstReleased }).modMem fun _ => {}

def execMemoryClearing (t : Nat) (s : State) : Host.Outcome State Fault Refusal := event true t memoryClearing s

/-- The ring configuration of R92: without a boot transport the up-ring ports open in the join state. -/
def ringDefaults (s : State) : State :=
  let c : RingCfg := { upEn := decide (2 ≤ s.boot.hostSel) }
  let s := (s.upPortsOff.stopDown).modDrove fun d => { d with cfg := { c with upEn := false } }
  s.setRingCfg c

/-- CONFIGURE_REACHED (R87, R92). -/
def configureReached (s : State) : State :=
  if s.boot.phase ≠ .cleared ∨ ¬ sinceT1 s 4000 then s
  else
    let s := s.modBoot fun b => { b with phase := .running }
    ringDefaults (s.modHost fun _ => HostUnit.afterReset s.boot.hostSel)

def execConfigureReached (t : Nat) (s : State) : Host.Outcome State Fault Refusal := event true t configureReached s

/-- PCIE_PERST_RELEASE (R88). -/
def pciePerstRelease (s : State) : State :=
  s.modBoot fun b => { b with
    perstReleased := true
    pcieTraining := b.pcieTraining || b.phase == .cleared || b.phase == .running || b.phase == .pinReset || b.phase == .logicReset }

def execPciePerstRelease (t : Nat) (s : State) : Host.Outcome State Fault Refusal := event true t pciePerstRelease s

/-! ### Warm resets (R94–R96) -/

/-- The device units stop where they stand; their configuration stays in place (R94, R97; log 64). -/
def State.unitsStop (s : State) : State :=
  let s := s.modGraph fun g => { g with
    readyCycle := none
    slots := g.slots.map fun e => (e.1, { e.2 with exec := none, ready := none, stepping := none }) }
  let s := s.modSched fun u => { u with
    cores := mapAll {} u.cores Core.cleared, spill := [], changes := []
    slots := updAll {} u.slots (u.slots.map (·.1)) fun _ k => { k with homes := [] } }
  let s := s.modLoop fun u => { u with ch := updAll {} u.ch (u.ch.map (·.1)) fun _ c => { c with released := none } }
  let s := s.modAdc fun u => { u with
    convs := updAll {} u.convs (u.convs.map (·.1)) fun _ c => { c with
      busy := none, triggeredAt := none, oldCal := none, waitingUrgent := none, calibration := none, faulted := false, retry := [] }
    urgentDone := [] }
  let s := s.modAcq fun u => { u with
    ingest := [], captures := u.captures.map fun e => (e.1, { e.2 with pausedAt := none }) }
  netReset ((canGraze s).modCan fun u => { u with ctrls := u.ctrls.map fun e => (e.1, { e.2 with driven := false }) })

/-- The ring interfaces are off until the configuration is replayed (R94, R97): the schedule, the assignment and what was
started stay. -/
def State.ringsOff (s : State) : State :=
  let s := (presentMembers s).foldl (fun s m => s.memberOut m) s
  let s := s.upPortsOff
  let s := s.modIface true fun k => { k with
    state := .disabled, timeSource := false, linkA := {}, linkB := {}, restoreCycle := none, takeover := false, announce := none
    coldCycles := 0, lastSync := none, backoffUntil := none }
  s.modDrove fun d => { d with
    upOut := [], above := {}, aboveAll := {}, fwd := [], outFrames := [], grant := none
    members := updAll {} d.members (d.members.map (·.1)) fun _ m => { m with peer := {}, held := 0 } }

/-- A warm reset begins (R94, R95): `cause` is its RESET_CAUSE. After RESET_N the logic stays in reset with the pin. A DEV.RESUME that
waits is discarded without a reply, like the timed commands (R72; log 129). -/
def warmReset (cause : Nat) (s : State) : State :=
  let holds := cause ≠ 1 && s.pair.role == .off && (s.boot.holdingOutputs || s.dev.mode == .run || s.dev.mode == .hold)
  let soon := match s.boot.autoAt with
    | some t => decide (s.now < t + 1000 * clocksOfUs (lDev s))
    | none => false
  let left := s.dev.mode
  let s := coReset (pinsOff s)
  let s := { s with
    boot := { s.boot with
      phase := if cause = 1 then .pinReset else .logicReset
      resetCause := cause, resetCount := min 255 (s.boot.resetCount + 1), windowOpened := none, replayed := false, recordGood := true
      resumedAt := none, autoSuppressed := cause == 3 && soon, holdingOutputs := holds, warmResetAt := none, releaseFrom := s.now }
    dev := { s.dev with
      mode := .configure, modeRequest := none, stopPending := false, safeEntryDue := false, safeCause := 0, readyMissing := 9 }
    host := if left = Mode.configure then HostUnit.afterReset s.boot.hostSel
      else { HostUnit.afterReset s.boot.hostSel with pending := [0] }
    flt := { dropped := s.flt.dropped }
    pwr := { s.pwr.cleared with monitors := s.pwr.monitors }
    tally := { s.tally with started := false, intake := [], takenAt := none } }
  let s := s.modMem fun m => { m with poison := [] }
  let s := s.modCyc fun c => { c with
    startOf := none, inputOf := none, commitOf := none, enteredAt := none, commit := if holds then c.commit else .committing, miss := if holds then c.miss else 0, committedNow := false, releaseNow := false
    unresolved := false }
  let s := s.modKeep fun k => { k with next := none }
  let s := if s.pair.role = .off then s else s.modPair fun p => p.syncing s.now
  let s := (s.unitsStop).ringsOff
  let s := if cause = 1 then islandResetPin (setSubstitute true s) else s
  driveDouts s

/-- The phases from t1 to CONFIGURE, in which RESET_N stops the power-up (R87). -/
def poweringUp (p : Phase) : Bool := p == .crystal || p == .locked || p == .fused || p == .cleared

/-- RESET_N, or a supply whose loss acts like it, takes the device into reset (R87, R94; 19 R627). -/
def State.pinLow (s : State) : State :=
  if poweringUp s.boot.phase then islandResetPin (coldState s .beforeT1 s.boot.lostSupplies)
  else match s.boot.phase with
    | .running | .logicReset => warmReset 1 s
    | .unpowered => s
    | _ => islandResetPin s

/-- RESET_N_ASSERT (R94, R96): RESET_N has been low for 1 µs. -/
def resetNAssert (s : State) : State := (s.modBoot fun b => { b with resetPinHigh := false }).pinLow

def execResetNAssert (t : Nat) (s : State) : Host.Outcome State Fault Refusal := event true t resetNAssert s

/-- The logic leaves the reset of RESET_N once the pin is high and no supply that acts like it is missing (R96, 19 R627). -/
def State.pinHigh (s : State) : State :=
  if s.boot.phase = .pinReset ∧ s.boot.resetPinHigh ∧ s.boot.lostSupplies.all (9 < ·) then
    s.modBoot fun b => { b with phase := .logicReset, releaseFrom := s.now }
  else s

/-- RESET_N_RELEASE (R96). -/
def resetNRelease (s : State) : State := (s.modBoot fun b => { b with resetPinHigh := true }).pinHigh

def execResetNRelease (t : Nat) (s : State) : Host.Outcome State Fault Refusal := event true t resetNRelease s

/-- A reset of the running device, or the give-up of an active half whose peer is STANDBY, after which it follows (15 R539). -/
def State.resetOrGiveUp (s : State) (cause : Nat) : State :=
  if s.pair.role == .active && s.pair.peerStandby then
    (s.askGiveUp { cycle := none, handover := none, cause := cause, reset := true }).modBoot fun b => { b with warmResetAt := none }
  else warmReset cause s

/-- WATCHDOG_EXPIRY (R96): the firmware has not served the watchdog for 10 ms. -/
def watchdogExpiry (s : State) : State := if s.boot.phase = .running then s.resetOrGiveUp 3 else s

def execWatchdogExpiry (t : Nat) (s : State) : Host.Outcome State Fault Refusal := event true t watchdogExpiry s

/-- A reply of DEV.RESET waits to be written (R110). -/
def resetReplyWaits (s : State) : Bool := s.host.waiting.any fun w => field (w.words.headD 0).toNat 0 16 == Op.devReset.code

/-- WARM_RESET_START (R110): 10 µs after the reply was written, or at the start of AT. Where no reply is due, the 10 µs count from the
execution (log 129). -/
def warmResetStart (s : State) : State :=
  match s.boot.warmResetAt with
  | some at' =>
    if s.boot.phase ≠ .running ∨ s.now < at' ∨ (s.boot.resetOnReply ∧ resetReplyWaits s) then s else s.resetOrGiveUp s.boot.resetAs
  | none => s

def execWarmResetStart (t : Nat) (s : State) : Host.Outcome State Fault Refusal := event true t warmResetStart s

/-! ### Release, replay and the window (R96–R100) -/

/-- LOGIC_RELEASE (R96, R100, R110; 16 R561): 2 µs after the reset, or after RESET_N is high again. -/
def logicRelease (s : State) : State :=
  if s.boot.phase ≠ .logicReset ∨ s.now < s.boot.releaseFrom + clocksOfUs 2 then s
  else
    let s := (s.modBoot fun b => { b with phase := .running, windowOpened := some s.now }).modMem fun m => { m with fullRate := true }
    if s.boot.noResume then closeWindow (s.modBoot fun b => { b with noResume := false }) else s

def execLogicRelease (t : Nat) (s : State) : Host.Outcome State Fault Refusal := event true t logicRelease s

/-- The record failed its check (R98). -/
def recordFailed (s : State) : State :=
  let s := endWindow (s.modBoot fun b => { b with recordGood := false })
  let s := if s.pair.role = .off then s else (s.modPair PairUnit.cleared).setMode .configure
  (ringDefaults s.dropAssigned).recordOpen 0 44 1

/-- The ring ports come back with the configuration (R97): a manager restarts its down-ring. -/
def ringsBack (s : State) : State :=
  let s := if s.drove.cfg.upEn then s.upListen else s
  match s.drove.downStarted, s.drove.active with
  | true, some m => s.startDown m
  | _, _ => s

/-- RESUME_WINDOW_CLOSE (R100, R102): 50 ms after the release. -/
def resumeWindowClose (s : State) : State :=
  match s.boot.windowOpened with
  | some w =>
    if s.now < w + clocksOfUs 50000 then s
    else endWindow s
  | none => s

def execResumeWindowClose (t : Nat) (s : State) : Host.Outcome State Fault Refusal := event true t resumeWindowClose s

/-! ### Supplies (19 R625, R627) -/

/-- SUPPLY_LOSS: supply `n` in the order of R625, VDDIO0 to VDDIO3 being 6 to 9. -/
def supplyLoss (n : Nat) (s : State) : State :=
  let lost := if n ∈ s.boot.lostSupplies then s.boot.lostSupplies else s.boot.lostSupplies ++ [n]
  let s := s.modBoot fun b => { b with lostSupplies := lost }
  if n = 2 then islandResetPin (coldState s .unpowered lost)
  else if n < 2 then (if s.boot.phase = .unpowered then s else islandResetPin (coldState s .beforeT1 lost))
  else if n < 10 then s.pinLow
  else islandPowerLoss (n = 10) s

def execSupplyLoss (n t : Nat) (s : State) : Host.Outcome State Fault Refusal := event (n < 12) t (supplyLoss n) s

/-- SUPPLY_RESTORED: the warm reset of RESET_CAUSE 1 ends as with RESET_N. -/
def supplyRestored (n : Nat) (s : State) : State :=
  if n = 2 then s else (s.modBoot fun b => { b with lostSupplies := b.lostSupplies.filter (· ≠ n) }).pinHigh

def execSupplyRestored (n t : Nat) (s : State) : Host.Outcome State Fault Refusal := event (n < 12) t (supplyRestored n) s

end Sys2Proof.Machine
end

