-- ==== Sys2Proof/Machine/Mode.lean ====
section
/-! DEFINITION. The six modes, their transitions and the DEV commands of chapter 03 (R105–R115). -/

namespace Sys2Proof.Machine

/-! ### READY_MISSING (R107) -/

/-- The pair configuration of a half is incomplete (15 R521): the member table names a member by position, or fewer than two
SYNC slots of the mode in force have senders that are members. -/
def pairIncomplete (s : State) : Bool :=
  s.pair.role ≠ .off && s.drove.cfg.downEn &&
  (s.drove.cfg.serials.contains 0 ||
    decide (((slotsOfMode (modeInForce s true)).filter fun k => k.kind == 1 && k.src < 0x80).length < 2))

/-- READY_MISSING as computed now. -/
def readyMissing (s : State) : Nat :=
  maskOf (((([(0, notIntegrated s), (1, slotUnverified s),
    (2, graphRefBad s || mapRefBad s || loopRefsBad s || destClaimed s || (axisNumbers s).any (axisRefBad s)),
    (3, !islandReady s), (4, pairIncomplete s), (5, (List.range 12).any (domainFailed s)), (6, loopBudgetBad s)] :
    List (Nat × Bool)).filter (·.2)).map (·.1)))

/-- The device computes READY_MISSING on a request for READY. -/
def State.computeMissing (s : State) : State :=
  let m := readyMissing s
  s.modDev fun d => { d with readyMissing := m }

/-! ### Transitions (R105, R106; 01 R31–R33) -/

/-- The transitions that DEV.SET_MODE requests (R106). -/
def listed (from' to' : Mode) : Bool :=
  match from', to' with
  | _, .safe => true
  | .configure, .ready => true
  | .ready, .run => true
  | .ready, .graze => true
  | .ready, .configure => true
  | .run, .ready => true
  | .run, .hold => true
  | .hold, .run => true
  | .hold, .ready => true
  | .graze, .ready => true
  | .safe, .configure => true
  | _, _ => false

/-- Entry to RUN at cycle `x` (01 R28, R29, R31, R47). -/
def enterRun (x : Nat) (s : State) : State :=
  let s := s.modCyc fun c => { c with
    commit := .committing, miss := 0, firstCommitted := false, committedNow := false, releaseNow := false, misses := 0
    lateOutputs := 0, substEntries := 0, settled := 0, enteredAt := some x }
  let s := axisToRun ((graphEnterRun x s).modGraph fun g => { g with inForce := [], image := {} })
  s.modDrove fun d => { d with members := updAll {} d.members (d.members.map (·.1)) fun _ m => { m with sinceRun := false } }

/-- RUN or HOLD ends in READY (01 R32): the image that waits for its output instant is not applied. -/
def leaveRun (s : State) : State :=
  let s := s.modCyc fun c => { c with committedNow := false }
  toReadyOutputs (s.modGraph fun g => { g with inForce := [] })

/-- What a transition does besides the mode itself. -/
def transition (from' to' : Mode) (s : State) : State :=
  match from', to' with
  | .ready, .run => enterRun (devCycle s) s
  | .hold, .run =>
    let x := devCycle s
    graphReturnToRun (s.modCyc fun c => { c with committedNow := false, enteredAt := some x })
  | .run, .ready => leaveRun s
  | .hold, .ready => leaveRun s
  | .run, .hold => axisHoldEntry s
  | .configure, .ready => loopsFresh s
  | .safe, .ready => loopsFresh s
  | .ready, .graze => acqPause (canGraze (s.modPwr fun p => { p with inGraze := true }))
  | _, _ => s

/-- The device takes a mode: outputs and units follow, then DEV_STATE. -/
def State.goMode (s : State) (m : Mode) : State :=
  let old := s.dev.mode
  let s := graphMode ((transition old m s).setMode m)
  if m = .graze then enterGraze s else s

/-- The reply words of DEV.SET_MODE (R112). -/
def modeWords' (s : State) : List Word := [wd s.dev.mode.num, wd s.dev.readyMissing]

/-- A requested transition is taken now, or refused where it is not listed any more (R106). -/
def takeRequest (p : Packet) (s : State) : State × Verdict :=
  match Mode.ofNum (field (p.w 0) 0 3) with
  | none => (s, .done stRange [])
  | some m =>
    if !listed s.dev.mode m || (m == .graze && s.pwr.graze.isNone) then (s, .done stBadMode [])
    else
      -- what was missing at the request may have changed by the start of the cycle (R106)
      let s := if m = .ready then s.computeMissing else s
      if s.dev.mode = .configure ∧ m = .ready ∧ s.dev.readyMissing ≠ 0 then (s, .done stNotConfigured [])
      else
        let t := s.goMode m
        (t, .done stOk (modeWords' t))

/-- DEV.SET_MODE where the transition waits for the start of a cycle, or for the wake (R106). -/
def waitRequest (m : Mode) (p : Packet) (s : State) : State × Verdict :=
  let d := s.defer .devSetMode p
  if s.dev.mode = .graze then (grazeWake 5 0 d.1, .waits)
  else (d.1.modDev fun k => { k with modeRequest := some m }, .waits)

/-- DEV.SET_MODE (R106, R107, R112): every request for READY computes READY_MISSING, which refuses it in CONFIGURE. READY without a GRAZE configuration refuses GRAZE with ST_BAD_MODE (log 70). -/
def cmdDevSetMode (p : Packet) (s : State) : State × Verdict :=
  let m := (Mode.ofNum (field (p.w 0) 0 3)).getD .configure
  checked
    [(p.len ≠ 1, stBadLength), (reservedSet (p.w 0) 0xFFFFFFF8 || (Mode.ofNum (field (p.w 0) 0 3)).isNone, stRange),
     (!listed s.dev.mode m || (m == .graze && s.pwr.graze.isNone), stBadMode)] s
    (if m = .safe then
       let t := s.enterSafe 5
       (t, .done stOk (modeWords' t))
     else if s.dev.mode = .configure ∨ m = .configure ∨ p.atCycle.isSome ∧ s.dev.mode ≠ .graze then takeRequest p s
     else waitRequest m p (if m = .ready then s.computeMissing else s))

def execDevSetMode (p : Packet) (s : State) : Host.Outcome State Fault Refusal := command .devSetMode cmdDevSetMode p s

/-- The island is in a stop, or a SAFE-severity fault is still active (R108). -/
def safeStillActive (s : State) : Bool := s.isl.inStop || safeFaultActive s

/-- DEV.SAFE_ACK (R108, R113): READY follows at the start of the next cycle; the command is answered when its conditions
have been checked (log 71). -/
def cmdDevSafeAck (p : Packet) (s : State) : State × Verdict :=
  let t := s.computeMissing
  checked [(p.len ≠ 0, stBadLength), (s.dev.mode ≠ .safe, stBadMode)] s
    (checked [(safeStillActive t, stSafeActive), (t.dev.readyMissing ≠ 0, stNotConfigured)] t
      (t.modDev (fun d => { d with modeRequest := some .ready }), .done stOk []))

def execDevSafeAck (p : Packet) (s : State) : Host.Outcome State Fault Refusal := command .devSafeAck cmdDevSafeAck p s

/-! ### The mode part of the start of a cycle (R106, R108; 16 R566) -/

/-- A STOP takes the device from RUN or HOLD to READY. -/
def State.stopNow (s : State) : State :=
  if s.dev.stopPending then
    let s := s.modDev fun d => { d with stopPending := false }
    if s.dev.mode = .run ∨ s.dev.mode = .hold then s.goMode .ready else s
  else s

/-- DEV.SAFE_ACK takes effect where its conditions still hold. -/
def State.ackNow (s : State) : State :=
  if s.dev.mode = .safe ∧ s.dev.modeRequest = some .ready ∧ ¬ safeStillActive s ∧ readyMissing s = 0 then s.goMode .ready else s

/-- The transitions that take effect at the start of a cycle: a STOP, then the requests in the order of their commands. A
request to leave GRAZE waits for the wake. -/
def modesAtStart (s : State) : State :=
  let s := (s.stopNow).ackNow
  let mine (d : Deferred) : Bool := d.op == .devSetMode && (s.dev.mode ≠ .graze || field (d.packet.w 0) 0 3 ≠ 1)
  let sel := s.host.deferred.filter mine
  let s := s.modHost fun h => { h with deferred := h.deferred.filter fun d => !mine d }
  let s := s.modDev fun d => { d with modeRequest := none }
  sel.foldl (fun s d => match takeRequest d.packet s with
    | (t, .done st ws) => t.answer .devSetMode d.packet st ws
    | (t, .waits) => t) s

/-! ### GRAZE and its end (18 R605–R610) -/

/-- What GRAZE had switched off comes back once the device has left it (18 R605, R610). -/
def settleGraze (s : State) : State :=
  if s.pwr.inGraze ∧ s.dev.mode ≠ .graze then
    loopsFresh (acqUnpause (canUngraze (s.modPwr fun p => { p with inGraze := false })))
  else s

/-- GRAZE_ENTRY (18 R605, R611). -/
def execGrazeEntry (t : Nat) (s : State) : Host.Outcome State Fault Refusal := event true t (fun s => settleGraze (grazeEntry s)) s

/-- GRAZE_SAMPLE (18 R606, R609): the corrected codes of the AIN entries' conversions, and the monitors. -/
def execGrazeSample (ains : List (Nat × Nat)) (vs : List Int) (t : Nat) (s : State) : Host.Outcome State Fault Refusal :=
  event true t (fun s => settleGraze (grazeSample ains vs s)) s

/-- MAX_S (18 R608). -/
def execMaxS (t : Nat) (s : State) : Host.Outcome State Fault Refusal := event true t (fun s => settleGraze (maxS s)) s

/-- CAN_WAKE (18 R608, R609): a dominant level of 5 µs on a receive pin of a CAN_WAKE controller. -/
def execCanWake (n t : Nat) (s : State) : Host.Outcome State Fault Refusal :=
  event (n < canControllers s) t (fun s => settleGraze (canWake n s)) s

/-- TRANSITION_DONE (18 R602). -/
def execTransitionDone (d t : Nat) (s : State) : Host.Outcome State Fault Refusal :=
  event (d < 12) t (fun s => settleGraze (transitionDone d s)) s

/-- WAKE_TIMEOUT (18 R603). -/
def execWakeTimeout (d t : Nat) (s : State) : Host.Outcome State Fault Refusal :=
  event (d < 12) t (fun s => settleGraze (finishWake (wakeTimeout d s))) s

/-! ### The other DEV commands of this chapter -/

/-- DEV.IDENTIFY (R109). -/
def identifyWords (s : State) : List Word :=
  let conv := converters s
  [wd (part s.boot.variant + place 16 Config.revision.toNat), wd (presence s.boot.variant),
   wd (graphCores s + place 8 8 + place 16 (loopChannels s)), wd (repChannels s + place 8 (canControllers s) + place 16 (axes s)),
   wd (16 + place 8 conv + place 16 (if conv = 0 then 0 else 8)), wd (64 + place 8 64 + place 16 32 + place 24 16),
   Config.romBuild, wd (s.boot.hostSel + place 2 (flag s.boot.fuseFault) + place 3 (flag (s.present 13)))] ++ wd2 Config.serial.toNat

def cmdDevIdentify (p : Packet) (s : State) : State × Verdict :=
  checked [(p.len ≠ 0, stBadLength)] s (s, .done stOk (identifyWords s))

def execDevIdentify (p : Packet) (s : State) : Host.Outcome State Fault Refusal := command .devIdentify cmdDevIdentify p s

/-- DEV.RESET (R110). -/
def cmdDevReset (p : Packet) (s : State) : State × Verdict :=
  let at' := if p.atCycle.isSome then s.now else s.now + clocksOfUs 10
  checked [(p.len ≠ 1, stBadLength), (reservedSet (p.w 0) 0xFFFFFFFE, stRange)] s
    (s.modBoot (fun b => { b with warmResetAt := some at', resetOnReply := p.atCycle.isNone, noResume := bit (p.w 0) 0, resetAs := 2 }), .done stOk [])

def execDevReset (p : Packet) (s : State) : Host.Outcome State Fault Refusal := command .devReset cmdDevReset p s

/-- CHECK of DEV.RESUME fails (R111). -/
def checkFails (p : Packet) (s : State) : Bool := bit (p.w 0) 0 && checkpointCycle s ≠ p.w 1

/-- DEV.RESUME (R102, R111): it is answered in cycle q, or when the window ends. A closed window is found before a missing checkpoint
(log 129). -/
def cmdDevResume (p : Packet) (s : State) : State × Verdict :=
  checked
    [(p.len ≠ 2, stBadLength), (reservedSet (p.w 0) 0xFFFFFFFE || (!bit (p.w 0) 0 && p.w 1 ≠ 0), stRange),
     (s.boot.windowOpened.isNone, stWindowClosed)] s
    (if s.boot.replayed ∧ ¬ resumable s then (closeWindow (s.recordOpen 0 43 1), .done stNoCheckpoint [])
     else if s.boot.replayed ∧ checkFails p s then (s, .done stNoCheckpoint [])
     else s.defer .devResume p)

def execDevResume (p : Packet) (s : State) : Host.Outcome State Fault Refusal := command .devResume cmdDevResume p s

/-- DEV_STATE (02 R58). After a warm reset COMMIT_STATE reads 0 while outputs are held, and CROOK 1 until the pair configuration is
replayed. -/
def devStateWord (s : State) : Nat :=
  s.dev.mode.num + place 3 (if s.boot.holdingOutputs then 0 else s.cyc.commit.num) + place 5 (flag s.cyc.unresolved) + place 6 (flag (integrated s)) + place 7 (flag (s.acts || !s.boot.replayed)) +
  place 8 s.boot.resetCause + place 16 s.boot.resetCount + place 24 (min 31 s.flt.waiting.length) +
  place 29 (s.flt.waiting.foldl (fun m f => max m f.sev) 0)

/-- WINDOW_LEFT_MS (R114). -/
def windowLeftMs (s : State) : Nat :=
  match s.boot.windowOpened with
  | some w => (w + clocksOfUs 50000 - s.now) / clocksOfUs 1000
  | none => 0

/-- DEV.STATUS (R114). -/
def devStatusWords (s : State) : List Word :=
  [wd (devStateWord s),
   wd (s.dev.readyMissing + place 8 (flag (resumable s)) + place 9 (flag s.boot.windowOpened.isSome) + place 10 (flag s.boot.fuseFault) +
     place 11 (flag s.boot.autoSuppressed) + place 16 (windowLeftMs s)),
   wd (checkpointCycle s), wd s.dev.safeCause]

def cmdDevStatus (p : Packet) (s : State) : State × Verdict :=
  checked [(p.len ≠ 0, stBadLength)] s (s, .done stOk (devStatusWords s))

def execDevStatus (p : Packet) (s : State) : Host.Outcome State Fault Refusal := command .devStatus cmdDevStatus p s

/-- DEV.RESUME_CONFIG (R115). -/
def cmdDevResumeConfig (p : Packet) (s : State) : State × Verdict :=
  checked
    [(p.len ≠ 2, stBadLength), (reservedSet (p.w 0) 0xFFFFFFFC || reservedSet (p.w 1) 0xFFFF0000, stRange)] s
    (s.modDev (fun d => { d with autoResume := bit (p.w 0) 0, resumeToReady := bit (p.w 0) 1, maxGap := p.w 1 }), .done stOk [])

def execDevResumeConfig (p : Packet) (s : State) : Host.Outcome State Fault Refusal :=
  command .devResumeConfig cmdDevResumeConfig p s

end Sys2Proof.Machine
end

