-- ==== Sys2Proof/Machine/Tally.lean ====
section
/-! DEFINITION. The TALLY unit: the event recorder, its reading and its commands (17). -/

namespace Sys2Proof.Machine

/-! ### Records in Tally memory (17 R580, R581, R583) -/

/-- The address of record slot `n`. -/
def tallySlot (n : Nat) : Nat := 0x33000000 + 32 * n

/-- The record in slot `n` is VALID. -/
def slotValid (s : State) (n : Nat) : Bool := bit (readWord s (tallySlot n)) 7

/-- SEQ of the record in slot `n`. -/
def slotSeq (s : State) (n : Nat) : Nat := readWord s (tallySlot n + 4)

/-- NEWEST_SEQ; one before 0 while nothing is written (17 R589). -/
def newestSeq (s : State) : Nat := (s.tally.seq + 2 ^ 32 - 1) % 2 ^ 32

/-- The slot in which the circulating record `q` would lie, counted back from the newest. -/
def circSlot (s : State) (q : Nat) : Option Nat :=
  let back := (newestSeq s + 2 ^ 32 - q) % 2 ^ 32
  if back < 12288 then some (4096 + (s.tally.circNext + 12288 - 1 - back) % 12288) else none

/-- The slot of the VALID record with SEQ `q`. -/
def slotOfSeq (s : State) (q : Nat) : Option Nat :=
  if q < s.tally.kept then some q
  else match circSlot s q with
    | some n => if slotValid s n ∧ slotSeq s n = q then some n else none
    | none => none

/-- The circulating slots that hold VALID records. -/
def circValid (s : State) : List Nat := ((List.range 12288).map (4096 + ·)).filter (slotValid s)

/-- The first VALID record at or after SEQ `q`. -/
def nextValid (s : State) (q : Nat) : Option Nat :=
  if q < s.tally.kept then some q
  else if 0 ≤ cycDiff q s.tally.seq then none
  else
    let back := min ((newestSeq s + 2 ^ 32 - q) % 2 ^ 32) 12287
    ((List.range (back + 1)).reverse.map fun d => (newestSeq s + 2 ^ 32 - d) % 2 ^ 32).find? fun c => (slotOfSeq s c).isSome

/-- OLDEST_SEQ (17 R589). -/
def oldestSeq (s : State) : Nat :=
  match ((List.range 12288).reverse.map fun d => (newestSeq s + 2 ^ 32 - d) % 2 ^ 32).find? (fun c =>
      s.tally.kept ≤ c ∧ (slotOfSeq s c).isSome) with
  | some c => c
  | none => s.tally.seq

/-- A cursor set to `q`, moved to the next VALID record where `q` names one overwritten or cleared (17 R589). -/
def moveCursor (s : State) (q : Nat) : Nat × Bool :=
  if 0 ≤ cycDiff q s.tally.seq then (q, false)
  else match nextValid s q with
    | some c => (c, c ≠ q)
    | none => (s.tally.seq, true)

/-- The eight words of the VALID record with SEQ `q`. -/
def recordWords (s : State) (q : Nat) : List Word :=
  match slotOfSeq s q with
  | some n => readWords s (tallySlot n) 8
  | none => []

/-- Puts CURSOR at `q` and latches the record that WINDOW presents (17 R589, R590). -/
def State.setCursor (s : State) (q : Nat) : State :=
  let (c, m) := moveCursor s q
  s.modTally fun t => { t with cursor := c, moved := m, windowLatch := recordWords s c }

/-! ### Rate limits (17 R586) -/

/-- The setting of a unit and code: exempt, and its refill in µs. -/
def tallySetting (s : State) (unit code : Nat) : Bool × Nat :=
  match s.tally.settings.find? fun e => e.unit == unit && e.code == code with
  | some e => (e.exempt, e.refillUs)
  | none => (false, s.tally.defaultRefill)

/-- A bucket after the tokens that have returned by `now` µs. -/
def Bucket.refill (b : Bucket) (now refillUs : Nat) : Bucket :=
  let k := min (8 - b.tokens) ((now - b.last) / refillUs)
  let b := { b with tokens := b.tokens + k, last := b.last + k * refillUs }
  if b.tokens = 8 then { b with last := now } else b

/-- The bucket table with a bucket for the pair, if one is free: its index. -/
def findBucket (s : State) (unit code now : Nat) : List Bucket × Option Nat :=
  let bs := s.tally.buckets
  match bs.findIdx? fun b => b.unit == unit && b.code == code with
  | some i => (bs, some i)
  | none =>
    let b : Bucket := { unit := unit, code := code, last := now }
    if bs.length < 1024 then (bs ++ [b], some bs.length)
    else match bs.findIdx? fun b => (b.refill now (tallySetting s b.unit b.code).2).tokens == 8 && b.suppressed == 0 with
      | some i => (setAt bs i b, some i)
      | none => (bs, none)

/-- Admission: the SUPPRESSED count of an accepted record, or none where it is suppressed (17 R586). -/
def admitRecord (r : TallyRec) (s : State) : State × Option Nat :=
  let now := usOf s.clock
  let set := tallySetting s r.unit r.code
  match findBucket s r.unit r.code now with
  | (_, none) => (s.modTally fun t => { t with untracked := sat32 t.untracked }, some 0)
  | (bs, some i) =>
    let b := bs.getD i { unit := 0, code := 0, last := 0 }
    let put (b : Bucket) : State := s.modTally fun t => { t with buckets := setAt bs i b }
    if 2 ≤ r.sev ∨ set.1 then (put { b with suppressed := 0 }, some (min b.suppressed 65535))
    else
      let b := b.refill now set.2
      if b.tokens = 0 then
        ((put { b with suppressed := b.suppressed + 1 }).modTally fun t => { t with suppressedTotal := sat32 t.suppressedTotal }, none)
      else (put { b with tokens := b.tokens - 1, suppressed := 0 }, some (min b.suppressed 65535))

/-! ### Writing (17 R582–R585) -/

/-- The words of a record (17 R580). -/
def tallyWords (s : State) (r : TallyRec) (suppressed : Nat) : List Word :=
  let kept := s.tally.kept < 4096
  let calValid := r.raised.isNone && utcValid s
  let leap := r.raised.isNone && leapNow s
  let cal := match r.raised with | some (_, c) => c | none => calNs s
  let cyc := match r.raised with | some (c, _) => c | none => baseCycle s
  [wd (r.sev + place 2 (flag r.transient) + place 3 (flag r.fault) + place 4 (flag leap) + place 5 (flag calValid)
      + place 6 (flag kept) + place 7 1 + place 8 r.unit + place 16 r.code),
   wd s.tally.seq, wd cyc, wd (cal % 2 ^ 32), wd (cal / 2 ^ 32), wd r.detail, wd r.detail2,
   wd (suppressed + place 16 s.boot.resetCount)]

/-- Writes an accepted record: to the first-kept area until it is full, then circulating; copies it to EVENT rings and
upward, and offers it to the trigger units (17 R583, R587; 02 R86; 09 R329). -/
def State.writeRecord (s : State) (r : TallyRec) (suppressed : Nat) : State :=
  let ws := tallyWords s r suppressed
  let seq := s.tally.seq
  let slot := if s.tally.kept < 4096 then s.tally.kept else 4096 + s.tally.circNext
  let s := (s.writeWords (tallySlot slot) ws).modTally fun t =>
    { t with
      seq := (t.seq + 1) % 2 ^ 32
      kept := if t.kept < 4096 then t.kept + 1 else t.kept
      circNext := if t.kept < 4096 then t.circNext else (t.circNext + 1) % 12288
      windowLatch := if t.cursor = seq ∧ t.windowLatch.isEmpty then ws else t.windowLatch }
  let s := copyEvents r.unit r.sev s.drove.devAddr false ws s
  let s := if s.drove.cfg.upEn ∧ integrated s then
      s.modDrove fun d => { d with upOut := d.upOut ++ [{ kind := 3, words := ws ++ [wd d.devAddr] }] } else s
  triggerTally r.unit r.code r.sev s

/-- Counts a transient event of a unit and reports TRANSIENT_STORM (16 R564). -/
def countTransient (unit : Nat) (s : State) : State :=
  let ts := (look [] s.flt.transients unit).filter (fun t => s.clock < t + clocksOfUs 1000000) ++ [s.clock]
  let s := s.modFlt fun m => { m with transients := put [] m.transients unit ts }
  if 64 < ts.length ∧ look 0 s.flt.stormUntil unit ≤ s.clock then
    (s.modFlt fun m => { m with stormUntil := put 0 m.stormUntil unit (s.clock + clocksOfUs 60000000) }).reportFault 1 5 1 unit
  else s

/-- The recorder handles one record: storm count, rate limit, write. -/
def State.handleRecord (s : State) (r : TallyRec) : State :=
  let s := if r.transient then countTransient r.unit s else s
  match admitRecord r s with
  | (s, some n) => s.writeRecord r n
  | (s, none) => s

/-- The recorder can take a record: it has started, and 100 ns, 80 timing clocks, have passed since the one before (17 R582). -/
def recorderFree (s : State) : Bool :=
  s.tally.started && (match s.tally.takenAt with | some t => t + 80 ≤ s.now | none => true)

/-- RECORD_WRITE (17 R582): the oldest record of the intake queue; with room again, a LOST record for those lost. -/
def recordWrite (s : State) : State :=
  if !recorderFree s then s
  else match s.tally.intake with
    | [] => s
    | r :: rest =>
      let s := s.modTally fun t => { t with intake := rest, takenAt := some s.now }
      let s := if s.tally.lostSince = 0 then s else
        (s.modTally fun t => { t with lostSince := 0 }).note { unit := 14, code := 2, sev := 1, detail := s.tally.lostSince }
      s.handleRecord r

def execRecordWrite (t : Nat) (s : State) : Host.Outcome State Fault Refusal := event true t recordWrite s

/-- The service cores run and Tally memory can be written: after a warm reset from the release of the logic, at a cold power-up once
memory has been cleared (17 R584, R585; 03 R87). -/
def recorderUp (s : State) : Bool :=
  s.boot.phase == .running || (s.boot.phase == .cleared && decide (s.boot.t1At + clocksOfUs 3500 ≤ s.now))

/-- RESTARTED (17 R584, R585): the record of the reset, then those of the early buffer. The write positions are the
fields the recorder keeps; they are what VALID and SEQ of its memory show. -/
def restarted (s : State) : State :=
  if s.tally.started ∨ !recorderUp s then s
  else
    let s := s.modTally fun t => { t with started := true, intake := t.early ++ t.intake, early := [] }
    s.handleRecord { unit := 14, code := 3, sev := 0, detail := s.boot.resetCause }

def execRestarted (t : Nat) (s : State) : Host.Outcome State Fault Refusal := event true t restarted s

/-! ### Reading through the register window (17 R589, R590) -/

/-- WIN_STAT. -/
def winStat (s : State) : Nat :=
  flag (slotOfSeq s s.tally.cursor).isSome + place 1 (flag s.tally.moved) + place 2 (flag (0 ≤ cycDiff s.tally.cursor s.tally.seq))

def execCursorWrite (v t : Nat) (s : State) : Host.Outcome State Fault Refusal :=
  event true t (fun s => if s.boot.phase = .running then s.setCursor (v % 2 ^ 32) else s) s

/-- WINDOW_READ: the last word of WINDOW, and CURSOR advances by 1. -/
def windowRead (s : State) : State :=
  if s.boot.phase ≠ .running then s else
  (s.emit (.completion (s.tally.windowLatch.getD 7 0).toNat)).setCursor ((s.tally.cursor + 1) % 2 ^ 32)

def execWindowRead (t : Nat) (s : State) : Host.Outcome State Fault Refusal := event true t windowRead s

/-! ### Commands (17 R591–R596) -/

/-- TALLY.CONFIG (17 R592). -/
def cmdTallyConfig (p : Packet) (s : State) : State × Verdict :=
  let w := p.w 0
  let unit := field w 0 5; let dflt := bit w 5; let exempt := bit w 6; let remove := bit w 7; let code := field w 16 16
  let refill := p.w 1
  let rest := s.tally.settings.filter fun e => ¬ (e.unit = unit ∧ e.code = code)
  checked
    [(p.len ≠ 2, stBadLength),
     (0x10 < unit || reservedSet w 0xFF00 || (dflt && (exempt || remove || unit ≠ 0 || code ≠ 0)) ||
        (if remove then exempt || refill ≠ 0 else refill < 1 || 10000000 < refill), stRange),
     (!dflt && !remove && rest.length == s.tally.settings.length && 64 ≤ rest.length, stTlTableFull)] s
    (s.modTally (fun t =>
        if dflt then { t with defaultRefill := refill }
        else if remove then { t with settings := rest }
        else { t with settings := rest ++ [{ unit := unit, code := code, exempt := exempt, refillUs := refill }] }), .done stOk [])

def execTallyConfig (p : Packet) (s : State) : Host.Outcome State Fault Refusal := command .tallyConfig cmdTallyConfig p s

/-- TALLY.CURSOR (17 R593). -/
def cmdTallyCursor (p : Packet) (s : State) : State × Verdict :=
  let wh := field (p.w 0) 0 2
  let q := match wh with | 0 => p.w 1 | 1 => 0 | 2 => oldestSeq s | _ => s.tally.seq
  let (c, m) := moveCursor s q
  checked
    [(p.len ≠ 2, stBadLength), (reservedSet (p.w 0) 0xFFFFFFFC || (wh ≠ 0 && p.w 1 ≠ 0), stRange)] s
    (s.modTally (fun t => { t with cmdCursor := c, cmdMoved := m }), .done stOk [wd c])

def execTallyCursor (p : Packet) (s : State) : Host.Outcome State Fault Refusal := command .tallyCursor cmdTallyCursor p s

/-- Up to `n` VALID records from SEQ `q` on, and the cursor after them. -/
def takeRecords (s : State) : Nat → Nat → List (List Word) × Nat
  | 0, q => ([], q)
  | n + 1, q =>
    match nextValid s q with
    | some c => let r := takeRecords s n ((c + 1) % 2 ^ 32); (recordWords s c :: r.1, r.2)
    | none => ([], q)

/-- TALLY.READ (17 R594). -/
def cmdTallyRead (p : Packet) (s : State) : State × Verdict :=
  let mx := field (p.w 0) 0 9
  let q := s.tally.cmdCursor
  let moved := s.tally.cmdMoved || (moveCursor s q).2
  let r := takeRecords s mx q
  checked
    [(p.len ≠ 1, stBadLength), (mx == 0 || reservedSet (p.w 0) 0xFFFFFE00, stRange), ((nextValid s q).isNone, stTlEnd)] s
    (s.modTally (fun t => { t with cmdCursor := r.2, cmdMoved := false }),
     .done stOk ([wd (r.1.length + place 9 (flag moved)), wd r.2] ++ r.1.flatten))

def execTallyRead (p : Packet) (s : State) : Host.Outcome State Fault Refusal := command .tallyRead cmdTallyRead p s

/-- TALLY.CLEAR (17 R595). -/
def cmdTallyClear (p : Packet) (s : State) : State × Verdict :=
  let upTo := p.w 0
  let slots := (circValid s).filter fun n => cycDiff (slotSeq s n) upTo ≤ 0
  checked [(p.len ≠ 1, stBadLength)] s
    (let t := slots.foldl (fun s n => s.writeWord (tallySlot n) (setBit (readWord s (tallySlot n)) 7 false)) s
     ((t.modTally fun y => { y with cleared := satAdd 32 y.cleared slots.length }).record 14 1 0 upTo, .done stOk [wd slots.length]))

def execTallyClear (p : Packet) (s : State) : Host.Outcome State Fault Refusal := command .tallyClear cmdTallyClear p s

/-- TALLY.STATUS (17 R596). -/
def cmdTallyStatus (p : Packet) (s : State) : State × Verdict :=
  checked [(p.len ≠ 0, stBadLength)] s
    (s, .done stOk [wd (newestSeq s), wd (oldestSeq s), wd (s.tally.kept + place 16 (circValid s).length),
      wd s.tally.suppressedTotal, wd (min (2 ^ 32 - 1) ((s.tally.buckets.map (·.suppressed)).sum)), wd s.tally.lostRecords,
      wd s.tally.untracked, wd s.tally.cleared])

def execTallyStatus (p : Packet) (s : State) : Host.Outcome State Fault Refusal := command .tallyStatus cmdTallyStatus p s

end Sys2Proof.Machine
end

