-- ==== Sys2Proof/Machine/Memory.lean ====
section
/-! DEFINITION. Accesses to memory and to the register windows, the memory commands, scrubbing, and the rows of the fault
manager (16; 02 R49–R59; 00 R6, R7, R10). -/

namespace Sys2Proof.Machine

/-! ### Register windows (00 R10; 02 R57–R59; 08 R270; 11 R419; 12 R433–R436; 17 R589) -/

/-- RING_CFG of ring `n` (02 R59). -/
def ringCfgWord (r : Ring) : Nat :=
  r.kind + place 2 r.log2 + place 6 r.transport + place 8 r.paired + place 16 r.vector + place 22 (flag r.irqEn) + place 24 r.holdoff

/-- RING_STAT of a ring (02 R59). -/
def ringStatWord (r : Ring) : Nat := r.state.num + place 2 r.faultCause + place 6 (flag r.stalled)

/-- The register of a ring at `off` (02 R59). ENABLE reads 1 while the ring is ACTIVE or in FAULT, on every ring (log 128). -/
def ringReg (r : Ring) (off : Nat) : Nat :=
  match off with
  | 0x00 => r.base % 2 ^ 32 | 0x04 => r.base / 2 ^ 32
  | 0x08 => r.shadow % 2 ^ 32 | 0x0C => r.shadow / 2 ^ 32
  | 0x10 => ringCfgWord r
  | 0x14 => r.prod | 0x18 => r.cons
  | 0x1C => ringStatWord r
  | 0x20 => flag (r.state == .active || r.state == .fault)
  | _ => 0

/-- The word of an MSI-X table entry (02 R57). -/
def msixReg (e : MsixEntry) (i : Nat) : Nat :=
  match i with
  | 0 => e.addr % 2 ^ 32 | 1 => e.addr / 2 ^ 32 | 2 => e.data | _ => flag e.masked

/-- A read of the HOST window at `off` (02 R57, R58). -/
def hostReg (s : State) (off : Nat) : Nat :=
  if 0x8000 ≤ off ∧ off < 0x8400 then msixReg (look {} s.host.msix ((off - 0x8000) / 16)) (off / 4 % 4)
  else if off = 0x9000 then maskOf (s.host.pending.filter (· < 32))
  else if off = 0x9004 then maskOf ((s.host.pending.filter (32 ≤ ·)).map (· - 32))
  else if 0x1000 ≤ off ∧ off < 0x2000 then ringReg (ringOf s ((off - 0x1000) / 0x40)) (off % 0x40)
  else match off with
    | 0x00 => part s.boot.variant + place 16 Config.revision.toNat
    | 0x04 => presence s.boot.variant
    | 0x08 => devStateWord s
    | 0x0C => baseCycle s
    | 0x10 => s.drove.devAddr
    | 0x14 => s.host.hostErr
    | 0x18 => min (2 ^ 32 - 1) s.host.droppedReplies
    | _ => 0

/-- A read of the HOST window; DROPPED_REPLIES is read-clear (02 R57). -/
def hostRead (off : Nat) (s : State) : State × Nat :=
  (if off = 0x18 then s.modHost fun h => { h with droppedReplies := 0 } else s, hostReg s off)

/-- A write of the MSI-X table (02 R57). PRESUMED from PCI Express: clearing the mask of a pending vector sends it (log 75). -/
def msixWrite (v i x : Nat) (s : State) : State :=
  let s := s.modHost fun h => { h with msix := upd {} h.msix v fun e =>
    match i with
    | 0 => { e with addr := e.addr / 2 ^ 32 * 2 ^ 32 + x }
    | 1 => { e with addr := e.addr % 2 ^ 32 + place 32 x }
    | 2 => { e with data := x }
    | _ => { e with masked := bit x 0 } }
  if i = 3 ∧ ¬ bit x 0 ∧ v ∈ s.host.pending then
    (s.modHost fun h => { h with pending := h.pending.filter (· ≠ v) }).sendVector v
  else s

/-- A write of BASE, SHADOW or RING_CFG of ring 0 or 1 while it is DISABLED (02 R59). KIND, TRANSPORT and PAIRED are fixed,
PAIRED of ring 1 as well (log 128). -/
def ringSetup (n off x : Nat) (s : State) : State :=
  s.modRing n fun r =>
    match off with
    | 0x00 => { r with base := r.base / 2 ^ 32 * 2 ^ 32 + x }
    | 0x04 => { r with base := r.base % 2 ^ 32 + place 32 x }
    | 0x08 => { r with shadow := r.shadow / 2 ^ 32 * 2 ^ 32 + x }
    | 0x0C => { r with shadow := r.shadow % 2 ^ 32 + place 32 x }
    | 0x10 => if field x 2 4 < 4 ∨ 12 < field x 2 4 then r else
        { r with log2 := field x 2 4, vector := field x 16 6, irqEn := bit x 22, holdoff := field x 24 8 }
    | _ => r

/-- A write of the registers of ring `n` (02 R59, R60). -/
def ringRegWrite (n off x : Nat) (s : State) : State :=
  match off with
  | 0x14 => prodDoorbell n x s
  | 0x18 => consDoorbell n x s
  | 0x20 => enableRing n (bit x 0) (if bit x 1 then ringReset n s else s)
  | _ => if n < 2 ∧ (ringOf s n).state = .disabled then ringSetup n off x s else s

/-- A write of the HOST window (02 R57–R59). -/
def hostRegWrite (off x : Nat) (s : State) : State :=
  if 0x8000 ≤ off ∧ off < 0x8400 then msixWrite ((off - 0x8000) / 16) (off / 4 % 4) x s
  else if 0x1000 ≤ off ∧ off < 0x2000 then ringRegWrite ((off - 0x1000) / 0x40) (off % 0x40) x s
  else if off = 0x14 then hostErrClear x s
  else s

/-- A read of a result register (08 R270): word +0 latches word +4 for the next read by the same initiator. -/
def adcRead (off initiator : Nat) (s : State) : State × Nat :=
  let r := resultOf s (off / 8)
  if 0x400 ≤ off then (s, 0)
  else if off % 8 = 0 then (s.latchInstant (off / 8) initiator, resultWord r)
  else match look 0 s.adc.latched (128 * initiator + off / 8) with
    | 0 => (s, r.instant % 2 ^ 32)
    | v + 1 => (s.modAdc fun a => { a with latched := put 0 a.latched (128 * initiator + off / 8) 0 }, v)

/-- The map entry at an offset of the RING window (11 R419): the down-map, the entry, the word. -/
def mapEntryAt (off : Nat) : Option (Bool × Nat × Nat) :=
  if 0x10000 ≤ off ∧ off < 0x12000 then some (false, (off - 0x10000) / 8, off / 4 % 2)
  else if 0x12000 ≤ off ∧ off < 0x14000 then some (true, (off - 0x12000) / 8, off / 4 % 2)
  else none

/-- A word of a map entry (11 R419). -/
def mapWord (e : MapEntry) (i : Nat) : Nat :=
  if i = 0 then e.kind + place 2 (flag e.high) + place 3 e.elem else e.ref

def MapEntry.set (e : MapEntry) (i x : Nat) : MapEntry :=
  if i = 0 then { e with kind := field x 0 2, high := bit x 2, elem := field x 3 10 } else { e with ref := x }

def droveRead (off : Nat) (s : State) : Nat :=
  match mapEntryAt off with
  | some (down, w, i) => mapWord (look {} (if down then s.drove.downMap else s.drove.upMap) w) i
  | none => 0

def droveWrite (off x : Nat) (s : State) : State :=
  match mapEntryAt off with
  | some (true, w, i) => s.modDrove fun d => { d with downMap := upd {} d.downMap w fun e => e.set i x }
  | some (false, w, i) => s.modDrove fun d => { d with upMap := upd {} d.upMap w fun e => e.set i x }
  | none => s

/-- The buffer and the word at an offset of a controller's window (12 R433). -/
def bufAt (off : Nat) : Option (Nat × Nat) :=
  if 0x100 ≤ off ∧ off < 0x100 + 0x50 * 128 then some ((off - 0x100) / 0x50, (off - 0x100) % 0x50 / 4) else none

/-- A read of the window of controller `c` (12 R433, R436): word 0 of a FULL buffer locks it, its last word releases it. -/
def canRead (c off : Nat) (s : State) : State × Nat :=
  match bufAt off with
  | some (b, i) =>
    let k := canBuf s c b
    let v := bufWord k i
    if i = 0 then (s.lockBuf c b, v)
    else if k.locked && i == lastWord k then (s.unlockBuf c b, v)
    else (s, v)
  | none =>
    (s, match off with
      | 0x0 => canStatusWord (canOf s c)
      | 0x4 => (canOf s c).hpPending
      | 0x8 => canCounter s c s.now
      | _ => 0)

/-- A write of a word of a TX buffer (12 R434). -/
def CanBuf.write (k : CanBuf) (i x : Nat) : CanBuf :=
  if k.kind ≠ 2 then k
  else match i with
    | 0 => { k with idWord := x % 2 ^ 31 }
    | 1 => { k with frame := x % 128 }
    | 2 => { k with stamp := x }
    | 3 => { k with txTime := x }
    | _ => { k with data := put 0 k.data i x }

def canWrite (c off x : Nat) (s : State) : State :=
  match bufAt off with
  | some (b, i) => s.modBuf c b fun k => k.write i x
  | none => if off = 4 then hpPendingClear c x s else s

/-- A read of the TALLY window (17 R589): a read of the last word of WINDOW advances CURSOR. -/
def tallyRegRead (off : Nat) (s : State) : State × Nat :=
  if 0x20 ≤ off ∧ off < 0x40 then
    (if off = 0x3C then s.setCursor ((s.tally.cursor + 1) % 2 ^ 32) else s, (s.tally.windowLatch.getD ((off - 0x20) / 4) 0).toNat)
  else (s, match off with
    | 0x00 => s.tally.cursor | 0x04 => winStat s | 0x08 => newestSeq s | 0x0C => oldestSeq s | 0x10 => s.tally.kept
    | _ => 0)

/-- Who makes an access, as a number (08 R270). -/
def pathNumber : Path → Nat
  | .bar2 => 0 | .qspi => 1 | .unit => 2

/-- A location of a window that the variant does not have: its unit is absent, or the item is beyond the count (00 R6, R7). -/
def windowAbsent (s : State) (unit off : Nat) : Bool :=
  !s.present unit || (unit == 10 && canControllers s * 0x4000 ≤ off && off < 0x20000)

/-- One aligned 32-bit read of the window of `unit`, present or absent. -/
def regRead (by' : Path) (unit off : Nat) (s : State) : State × Nat :=
  if windowAbsent s unit off then (s.noteAbsent unit, 0)
  else match unit with
    | 7 => adcRead off (pathNumber by') s
    | 9 => (s, droveRead off s)
    | 10 => if off < 0x20000 then canRead (off / 0x4000) (off % 0x4000) s else (s, 0)
    | 14 => tallyRegRead off s
    | 16 => hostRead off s
    | _ => (s, 0)

/-- One aligned 32-bit write of the window of `unit`: reserved and RO locations ignore it (00 R10). -/
def regWrite (unit off x : Nat) (s : State) : State :=
  if windowAbsent s unit off then s.noteAbsent unit
  else match unit with
    | 9 => droveWrite off x s
    | 10 => if off < 0x20000 then canWrite (off / 0x4000) (off % 0x4000) x s else s
    | 14 => if off = 0 then s.setCursor x else s
    | 16 => hostRegWrite off x s
    | _ => s

/-- REGISTER_WRITE (00 R10): a write of a register at a device address of a window. -/
def registerWrite (a x : Nat) (s : State) : State :=
  match areaOf a with
  | some (.window u) => if s.boot.phase = .running then regWrite u (a % 0x100000) x s else s
  | _ => s

def execRegisterWrite (a x t : Nat) (s : State) : Host.Outcome State Fault Refusal :=
  event (0x40000000 ≤ a && a < 0x41100000 && a % 4 == 0 && x < 2 ^ 32) t (registerWrite a x) s

/-! ### Integrity (16 R557–R565) -/

/-- The power domain that holds an area (18 R597). -/
def areaDomain : Area → Nat
  | .system | .setAlias | .clearAlias | .checkpoint | .tally => 3
  | .capture => 10
  | .loop => 8
  | .window u => domainOf u

/-- The address where an area keeps its words: a set or clear area shows system memory (16 R555). -/
def storedAt (a : Nat) : Nat := if 0x10000000 ≤ a ∧ a < 0x12000000 ∨ 0x20000000 ≤ a ∧ a < 0x22000000 then a % 0x10000000 else a

/-- The bank of an address, and the area as a number (16 R554). -/
def bankOf (a : Nat) : Nat × Nat :=
  match areaOf a with
  | some .capture => (1, a / 64 % 8)
  | some .loop => (2, a / 64 % 8)
  | some .checkpoint => (3, a / 64 % 2)
  | some .tally => (4, 0)
  | _ => (0, a / 64 % 32)

/-- The severity of a lasting double error at an address, and the state after the reaction of the owning unit (16 R565). An
image that loses a word is not complete (15 R534, R535; log 76). -/
def areaReaction (a : Nat) (s : State) : State × Nat :=
  if 0x00800000 ≤ a ∧ a < 0x01C00000 then graphMemoryFault a s
  else if 0x01C00000 ≤ a ∧ a < 0x01C20000 then (s, 2)
  else if 0x01DA0000 ≤ a ∧ a < 0x02000000 then (s, 2)
  else if 0x30000000 ≤ a ∧ a < 0x30800000 then (captureMemoryFault a s, 1)
  else if 0x32000000 ≤ a ∧ a < 0x32010000 then (s.modBoot fun b => { b with recordGood := false }, 2)
  else if 0x32010000 ≤ a ∧ a < 0x32200000 then
    (if s.keep.next.isSome then (s.modKeep fun k => { k with next := none }).modPair fun p => { p with outgoing := none }
     else s.modKeep fun k => { k with image := none }, 1)
  else (s, 1)

/-- A correction counts in CE, for its bank and for the pass; CE_THRESHOLD is reported once a bank and pass (16 R558, R561). -/
def State.corrected (s : State) (a : Nat) : State :=
  let (area, bank) := bankOf a
  let key := 64 * area + bank
  let s := s.modMem fun m => { m with
    ce := sat32 m.ce
    ceBank := if area = 0 then upd 0 m.ceBank bank sat32 else m.ceBank
    cePass := upd 0 m.cePass key sat32 }
  if s.mem.ceThreshold < look 0 s.mem.cePass key ∧ key ∉ s.mem.ceReported then
    (s.modMem fun m => { m with ceReported := m.ceReported ++ [key] }).reportFault 1 4 1 bank
  else s

/-- A lasting double error of the stored word at `w` (16 R559, R560, R565). -/
def State.doubleError (s : State) (w : Nat) : State :=
  let s := s.modMem fun m => { m with deLasting := sat32 m.deLasting, lastErrAddr := w }
  let full := 64 ≤ s.mem.poison.length
  let s := if full then s else s.modMem fun m => { m with poison := m.poison ++ [w] }
  let r := areaReaction w s
  let s := r.1.reportFault 1 2 r.2 w
  if full then s.takeFree.2.reportFault 1 3 2 s.takeFree.1.toNat else s

/-- What a transfer meets on the fabric (16 R557): the flag tells that it fails. The CODE of a transient record is that of the
fault, its DETAIL open (log 7). -/
def State.fabric (s : State) (e : MemErr) : State × Bool :=
  match e with
  | .parityTransient =>
    ((s.takeFree.2.modMem fun m => { m with parityReplays := sat32 m.parityReplays }).transient 1 1 s.takeFree.1.toNat, false)
  | .parityLasting =>
    ((s.takeFree.2.modMem fun m => { m with parityLasting := sat32 m.parityLasting }).reportFault 1 1 2 s.takeFree.1.toNat, true)
  | _ => (s, false)

/-- What a read of the stored word at `w` finds (16 R558, R559): the flag tells that it ends in a bus error. -/
def State.stored (s : State) (w : Nat) (e : MemErr) : State × Bool :=
  match e with
  | .single => (s.corrected w, false)
  | .doubleTransient =>
    ((s.modMem fun m => { m with deTransient := sat32 m.deTransient, lastErrAddr := w }).transient 1 2 w, false)
  | .doubleLasting => (s.doubleError w, true)
  | _ => (s, false)

/-! ### Reading and writing memory (16 R552–R555, R642; 06 R207) -/

/-- A direct write of the standby bank of an armed channel disarms it (06 R207). -/
def disarmWritten (a n : Nat) (s : State) : State :=
  if a + n ≤ 0x31000000 ∨ 0x31200000 ≤ a then s
  else
    let first := (a - 0x31000000) / 0x800
    let cs := (List.range (n / 0x800 + 2)).map (first + ·)
    cs.foldl (fun s c =>
      let b := bankBase c (!activeB s c)
      if c < loopChannels s ∧ loopArmed s c ∧ a < b + 256 ∧ b < a + n then (s.disarmLoop c).recordOpen 5 51 0 else s) s

/-- A direct write that enables a channel makes it start afresh (06 R201, R207). -/
def enableWritten (before : State) (a n : Nat) (s : State) : State :=
  if a + n ≤ 0x31000000 ∨ 0x31200000 ≤ a then s
  else
    let first := (a - 0x31000000) / 0x800
    ((List.range (n / 0x800 + 2)).map (first + ·)).foldl (fun s c =>
      if c < loopChannels s ∧ loopEnabled s c ∧ ¬ loopEnabled before c then
        s.modLoopCh c fun k => { k with fresh := true, released := none, bumpless := false }
      else s) s

/-- A direct write of `n` bytes of loop memory (06 R203, R207). -/
def loopStore (a n v : Nat) (s : State) : State :=
  enableWritten s a n (((disarmWritten a n (s.noteLoop a)).writeNat a n (v &&& loopMask s a n)))

/-- Free bytes: the coding of checkpoint memory is not stated (log 64). -/
def freeBytes : Nat → State → State × List Byte
  | 0, s => (s, [])
  | n + 1, s =>
    let r := freeBytes n s.takeFree.2
    (r.1, (s.takeFree.1.setWidth 8 : Byte) :: r.2)

/-- The `n` bytes at a memory address. -/
def memBytes (a n : Nat) (s : State) : State × List Byte :=
  match areaOf a with
  | some .checkpoint => freeBytes n s
  | some .loop => (s.noteLoop a, (List.range n).map fun i => readByte s (a + i))
  | _ => (s, (List.range n).map fun i => readByte s (storedAt a + i))

/-- Stores the `n` low bytes of `v` at a memory address: a set or clear area sets or clears the bits of its mask (16 R555); checkpoint and
Tally memory keep their contents (R642). -/
def memStore (a n v : Nat) (s : State) : State :=
  let old := readNat s (storedAt a) n
  match areaOf a with
  | some .system | some .capture => s.writeNat a n v
  | some .loop => loopStore a n v s
  | some .setAlias => s.writeNat (storedAt a) n (old ||| v)
  | some .clearAlias => s.writeNat (storedAt a) n (old - (old &&& v))
  | _ => s

/-- The range lies wholly in one mapped area (16 R550, R573). -/
def spanArea (a n : Nat) : Option Area := if areaOf a = areaOf (a + (n - 1)) then areaOf a else none

/-- The write leaves a part of a poisoned word of the range as it is, or reads it (16 R560): the word's address. -/
def poisonBlocks (s : State) (a n : Nat) (whole : Bool) : Option Nat :=
  s.mem.poison.find? fun w => (w < storedAt a + n && storedAt a < w + 8) && !(whole && decide (a ≤ w ∧ w + 8 ≤ a + n))

/-- An access to the window of a unit: one aligned 32-bit read or write; another width ends in a bus error, but in an absent
window (16 R552, R553; 00 R6). -/
def windowAccess (x : Access) (unit : Nat) (s : State) : State × Option Nat :=
  let off := x.addr % 0x100000
  if windowAbsent s unit off then (s.noteAbsent unit, some 0)
  else if x.size ≠ 4 ∨ x.addr % 4 ≠ 0 then (s, none)
  else match x.data with
    | none => let r := regRead x.path unit off s; (r.1, some r.2)
    | some v => (regWrite unit off (v % 2 ^ 32) s, some 0)

/-- A form that memory accepts (16 R552): 1, 2, 4 or 8 bytes, naturally aligned, or a burst of whole 64-bit words within one 64-byte
line. -/
def formOk (a n : Nat) : Bool :=
  ((n == 1 || n == 2 || n == 4 || n == 8) && a % n == 0) || (0 < n && a % 8 == 0 && n % 8 == 0 && a % 64 + n ≤ 64)

/-- An access to memory whose transfer is good (16 R552, R555, R558–R560). -/
def storageAccess (x : Access) (area : Area) (s : State) : State × Option Nat :=
  let w := storedAt x.addr / 8 * 8
  match x.data with
  | none =>
    if (poisonBlocks s x.addr x.size false).isSome then (s, none)
    else
      let r := s.stored w x.err
      if r.2 then (r.1, none)
      else let q := memBytes x.addr x.size r.1; (q.1, some (natOfBytes q.2))
  | some v =>
    let whole := area ≠ .setAlias ∧ area ≠ .clearAlias ∧ x.addr % 8 = 0 ∧ x.size % 8 = 0
    if (poisonBlocks s x.addr x.size (area != .setAlias && area != .clearAlias)).isSome then (s, none)
    else
      let r := if whole then (s, false) else s.stored w x.err
      if r.2 then (r.1, none) else (memStore x.addr x.size v r.1, some 0)

/-- An access at a device address: its state, and the value, or none where it ends in a bus error. A domain that is not ON is
raised; the time that the access stalls is left out (18 R601; log 77). A form that memory does not accept ends in a bus error
(log 77). -/
def busAccess (x : Access) (s : State) : State × Option Nat :=
  match spanArea x.addr x.size with
  | none => (s, none)
  | some area =>
    let shut := x.data.isSome && (area == .checkpoint || area == .tally)
    let lacks := match area with | .window u => windowAbsent s u (x.addr % 0x100000) | _ => false
    let memory := match area with | .window _ => false | _ => true
    if memory && !formOk x.addr x.size then (s, none)
    else if shut then (s, some 0)
    else if lacks then windowAccess x ((x.addr - 0x40000000) / 0x100000) s
    else if domainFailed s (areaDomain area) then (s, none)
    else
      let r := (wakeDomain (areaDomain area) s).fabric x.err
      if r.2 then (r.1, none)
      else match area with
        | .window u => windowAccess x u r.1
        | _ => storageAccess x area r.1

/-- How the initiator sees the end of an access (16 R553; 02 R50, R54). -/
def endAccess (x : Access) (r : State × Option Nat) : State :=
  match r.2, x.path, x.data with
  | some v, .qspi, none => r.1.emit (.qspiRead 0x5A [wd v])
  | some v, _, none => r.1.emit (.completion v)
  | some _, _, some _ => r.1
  | none, .bar2, _ =>
    (if (spanArea x.addr x.size).isNone then r.1.modHost fun h => { h with hostErr := setBit h.hostErr 1 true } else r.1).emit .unsupported
  | none, .qspi, none => r.1.emit (.qspiRead 0xE1 [0])
  | none, .qspi, some _ => r.1.modHost fun h => { h with hostErr := setBit h.hostErr 0 true }
  | none, .unit, _ => r.1

/-- The initiator is there: the boot transport is the one whose path the access takes (02 R48). -/
def pathOpen (s : State) (p : Path) : Bool :=
  match p with | .bar2 => s.boot.hostSel == 0 | .qspi => s.boot.hostSel == 1 | .unit => s.boot.phase == .running

/-- MEMORY_ACCESS (16 R552). Before CONFIGURE a memory request ends as an Unsupported Request (03 R88). -/
def memoryAccess (x : Access) (s : State) : State :=
  if !pathOpen s x.path then s
  else if s.boot.phase ≠ .running then (if x.path = .bar2 ∧ s.boot.pcieTraining then s.emit .unsupported else s)
  else if x.path ≠ .unit ∧ domainFailed s 1 then s
  else endAccess x (busAccess x (if x.path = .unit then s else wakeDomain 1 s))

def execMemoryAccess (x : Access) (t : Nat) (s : State) : Host.Outcome State Fault Refusal :=
  event (0 < x.size && x.size ≤ 64) t (memoryAccess x) s

/-- BIT_SET_WRITE (16 R555): a write of mask `m`, `n` bytes, to the bit-set area of system address `a`. -/
def bitSetWrite (a n m : Nat) (s : State) : State :=
  if s.boot.phase = .running then (busAccess { path := .unit, addr := 0x10000000 + a, size := n, data := some m } s).1 else s

def execBitSetWrite (a n m t : Nat) (s : State) : Host.Outcome State Fault Refusal :=
  event (a + n ≤ 0x02000000 && (n == 1 || n == 2 || n == 4 || n == 8) && a % n == 0 && m < 2 ^ (8 * n)) t (bitSetWrite a n m) s

/-- BIT_CLEAR_WRITE (16 R555): the same at the bit-clear area. -/
def bitClearWrite (a n m : Nat) (s : State) : State :=
  if s.boot.phase = .running then (busAccess { path := .unit, addr := 0x20000000 + a, size := n, data := some m } s).1 else s

def execBitClearWrite (a n m t : Nat) (s : State) : Host.Outcome State Fault Refusal :=
  event (a + n ≤ 0x02000000 && (n == 1 || n == 2 || n == 4 || n == 8) && a % n == 0 && m < 2 ^ (8 * n)) t (bitClearWrite a n m) s

/-! ### The quad-SPI port (02 R53, R54) -/

/-- The words of a quad-SPI read, from `a` upward; none where an access ends in a bus error. -/
def qspiWords (a : Nat) : Nat → State → State × Option (List Word)
  | 0, s => (s, some [])
  | n + 1, s =>
    match busAccess { path := .qspi, addr := a } s with
    | (s, none) => (s, none)
    | (s, some v) =>
      match qspiWords (a + 4) n s with
      | (s, some r) => (s, some (wd v :: r))
      | (s, none) => (s, none)

/-- The words of a quad-SPI write, posted one after the other; a write that fails sets HOST_ERR.SPI_WRITE_ERR. -/
def qspiStore (a : Nat) : List Word → State → State
  | [], s => s
  | w :: r, s =>
    let q := busAccess { path := .qspi, addr := a, data := some w.toNat } s
    qspiStore (a + 4) r (if q.2.isNone then q.1.modHost fun h => { h with hostErr := setBit h.hostErr 0 true } else q.1)

/-- QSPI_TRANSACTION: instruction, address, and the words written, or for a read their number. -/
def qspiTransaction (instr a : Nat) (ws : List Word) (count : Nat) (s : State) : State :=
  if s.boot.hostSel ≠ 1 ∨ s.boot.phase ≠ .running ∨ domainFailed s 1 then s
  else if instr = 0x02 ∨ instr = 0x12 then
    (if 1 ≤ ws.length ∧ ws.length ≤ 1024 then qspiStore a ws (wakeDomain 1 s) else s)
  else if instr = 0x0B ∨ instr = 0xEB then
    (if 1 ≤ count ∧ count ≤ 1024 then
      match qspiWords a count (wakeDomain 1 s) with
      | (s, some r) => s.emit (.qspiRead 0x5A r)
      | (s, none) => s.emit (.qspiRead 0xE1 (List.replicate count 0))
    else s)
  else s

def execQspiTransaction (instr a : Nat) (ws : List Word) (count t : Nat) (s : State) : Host.Outcome State Fault Refusal :=
  event (instr < 256 && a < 2 ^ 32) t (qspiTransaction instr a ws count) s

/-! ### The scrubber (16 R561) -/

/-- The areas that the scrubber reads. -/
def scrubbed (a : Nat) : Bool :=
  match areaOf a with
  | some .system | some .capture | some .loop | some .checkpoint | some .tally => true
  | _ => false

/-! ### The check after a reset (03 R97, R98) -/

/-- What the check of checkpoint memory meets in the word at `a` (03 R97): a single error is corrected, a double error is re-read once,
and a lasting one spoils the record or the image that holds the word (R559, R565). -/
def checkWord (s : State) (e : Nat × MemErr) : State :=
  if 0x32000000 ≤ e.1 ∧ e.1 < 0x32200000 then (s.stored (e.1 / 8 * 8) e.2).1 else s

/-- CONFIGURATION_REPLAY (03 R97, R98): `record` and `image` are the errors that the complete check finds in the words of the
configuration record and in the rest of checkpoint memory. The 300 µs are the
device's own bound: the row comes when the check has ended (log 129). -/
def configurationReplay (record image : List (Nat × MemErr)) (s : State) : State :=
  if s.boot.phase ≠ .running ∨ s.boot.replayed then s
  else
    let s := ((record ++ image).foldl checkWord s).modBoot fun b => { b with replayed := true }
    let s := if s.keep.image.isSome then s else s.modKeep fun k => { k with undo := [] }
    if s.boot.recordGood then driveDouts (canRestart (ringsBack s)) else recordFailed s

def execConfigurationReplay (record image : List (Nat × MemErr)) (t : Nat) (s : State) : Host.Outcome State Fault Refusal :=
  event true t (configurationReplay record image) s

/-- SCRUB: the stored word at `a` is read and found so; `last` ends the pass, and PASS_S applies to the next (R577). -/
def scrub (a : Nat) (e : MemErr) (last : Bool) (s : State) : State :=
  if s.boot.phase ≠ .running then s
  else
    let w := a / 8 * 8
    let s := if (poisonBlocks s w 8 false).isSome then s
      else let r := s.fabric e; if r.2 then r.1 else (r.1.stored w e).1
    if last then
      s.modMem fun m => { m with scrubPasses := sat32 m.scrubPasses, cePass := [], ceReported := [], passSNow := m.passS, fullRate := false }
    else s

def execScrub (a : Nat) (e : MemErr) (last : Bool) (t : Nat) (s : State) : Host.Outcome State Fault Refusal :=
  event (scrubbed a) t (scrub a e last) s

/-! ### The fault manager (16 R566–R571) -/

/-- FAULT_REPORT: a unit reports a lasting fault. -/
def execFaultReport (unit code sev detail : Nat) (continuing : Bool) (t : Nat) (s : State) : Host.Outcome State Fault Refusal :=
  event (unit ≤ 0x10 && code < 65536 && sev < 4 && detail < 2 ^ 32) t (fun s => s.reportFault unit code sev detail continuing) s

/-- The fault in hand is handled, and the next waiting fault is taken up (R568). -/
def State.endFault (s : State) : State := takeUp 18 (s.modFlt fun m => { m with inHand := none })

/-- FAULT_HANDLED. A STOP that is to take the device to READY ends at that transition (R566). -/
def faultHandled (s : State) : State :=
  match s.flt.inHand with
  | none => s
  | some f => if f.sev = 2 ∧ s.dev.stopPending then s else s.endFault

def execFaultHandled (t : Nat) (s : State) : Host.Outcome State Fault Refusal := event true t faultHandled s

/-! ### Commands (16 R573–R579) -/

/-- The address lies in a window that the variant does not have: its reads give 0 and its writes are ignored (00 R6, R7). -/
def rangeAbsent (s : State) (a : Nat) : Bool := match areaOf a with | some (.window u) => windowAbsent s u (a % 0x100000) | _ => false

/-- The statuses of a range that the memory commands share (R573). `memory`: a memory area is required. -/
def rangeChecks (s : State) (a n : Nat) (memory write : Bool) : List (Bool × Nat) :=
  let area := spanArea a n
  let isMem := match area with | some .system | some .capture | some .loop | some .checkpoint | some .tally => true | _ => false
  [(area.isNone || (memory && !isMem), stMmUnmapped),
   (write && (area == some .checkpoint || area == some .tally), stMmProtected),
   (!rangeAbsent s a && area.any fun k => domainFailed s (areaDomain k), stFault)]

/-- Raises the domain of a range (18 R601). -/
def wakeRange (a n : Nat) (s : State) : State :=
  match spanArea a n with | some k => if rangeAbsent s a then s else wakeDomain (areaDomain k) s | none => s

/-- The words of a window, read one after the other; none where an access ends in a bus error. -/
def readWindow (a : Nat) : Nat → State → State × List Word
  | 0, s => (s, [])
  | n + 1, s =>
    match areaOf a with
    | some (.window u) =>
      let r := regRead .unit u (a % 0x100000) s
      let q := readWindow (a + 4) n r.1
      (q.1, wd r.2 :: q.2)
    | _ => (s, [])

def writeWindow (a : Nat) : List Word → State → State
  | [], s => s
  | w :: r, s =>
    match areaOf a with
    | some (.window u) => writeWindow (a + 4) r (regWrite u (a % 0x100000) w.toNat s)
    | _ => s

/-- The address lies in a register window. -/
def inWindow (a : Nat) : Bool := match areaOf a with | some (.window _) => true | _ => false

/-- The words that little-endian bytes spell. -/
def wordsOfBytes : List Byte → List Word
  | b0 :: b1 :: b2 :: b3 :: r => wd (natOfBytes [b0, b1, b2, b3]) :: wordsOfBytes r
  | _ => []

/-- One access of a command to the stored 64-bit word at `w`; `reads`: it reads the word. The flag tells that it fails (R557–R559). -/
def State.touch (s : State) (w : Nat) (reads : Bool) (e : MemErr) : State × Bool :=
  let r := s.fabric e
  if r.2 || !reads then r else r.1.stored w e

/-- A repeat that succeeded (R562). -/
def MemErr.retried (e : MemErr) : Bool := e == .parityTransient || e == .doubleTransient

/-- The status of a command whose accesses met `es` and did not fail (R562, R573). -/
def statusOf (es : List MemErr) : Nat := if es.any MemErr.retried then stOkRetried else stOk

/-- The 64-bit words of a range, their stored addresses rising. -/
def wordsIn (a n : Nat) : List Nat :=
  let first := storedAt a / 8; let last := (storedAt a + (n - 1)) / 8
  (List.range (last + 1 - first)).map fun i => 8 * (first + i)

/-- Reads words one after the other until an access fails (R574). -/
def touchAll (p : Packet) : List Nat → State → State × Bool
  | [], s => (s, false)
  | w :: r, s =>
    let q := s.touch w true (p.err w)
    if q.2 then q else touchAll p r q.1

/-- MEM.READ (R574). -/
def cmdMemRead (p : Packet) (s : State) : State × Verdict :=
  let a := p.w 0; let n := field (p.w 1) 0 12
  match checked
    ([(p.len != 2, stBadLength), (n == 0 || 4092 < n || reservedSet (p.w 1) 0xFFFFF000, stRange), (a % 4 != 0, stMmAlign)] ++
      rangeChecks s a (4 * n) false false) s (s, .waits) with
  | (s, .done st ws) => (s, .done st ws)
  | (s, .waits) =>
    if inWindow a then let r := readWindow a n (wakeRange a (4 * n) s); (r.1, .done stOk r.2)
    else match poisonBlocks s a (4 * n) false with
      | some w => (s, .done stMmPoisoned [wd w])
      | none =>
        let q := touchAll p (wordsIn a (4 * n)) (wakeRange a (4 * n) s)
        if q.2 then (q.1, .done stFault [])
        else let r := memBytes a (4 * n) q.1; (r.1, .done (statusOf ((wordsIn a (4 * n)).map p.err)) (wordsOfBytes r.2))

def execMemRead (p : Packet) (s : State) : Host.Outcome State Fault Refusal := command .memRead cmdMemRead p s

/-- The accesses of MEM.WRITE, each with its address, width and value: whole aligned pairs, and single words (R574). -/
def writeAccesses (a : Nat) : List Word → List (Nat × Nat × Nat)
  | [] => []
  | [w] => [(a, 4, w.toNat)]
  | w :: v :: r =>
    if a % 8 = 0 then (a, 8, w.toNat + place 32 v.toNat) :: writeAccesses (a + 8) r else (a, 4, w.toNat) :: writeAccesses (a + 4) (v :: r)

/-- Writes one access after the other until one fails: a whole pair reads nothing, but in a set or clear area (R574). -/
def storeAll (p : Packet) (masked : Bool) : List (Nat × Nat × Nat) → State → State × Bool
  | [], s => (s, false)
  | (a, n, v) :: r, s =>
    let w := storedAt a / 8 * 8
    let q := s.touch w (masked || n != 8) (p.err w)
    if q.2 then q else storeAll p masked r (memStore a n v q.1)

/-- What the accesses of a write meet: one that covers its 64-bit word reads nothing, and meets the fabric's errors alone. -/
def metBy (p : Packet) (masked : Bool) (xs : List (Nat × Nat × Nat)) : List MemErr :=
  xs.map fun x => let e := p.err (storedAt x.1 / 8 * 8); if masked || x.2.1 != 8 || e == .parityTransient then e else .clean

/-- MEM.WRITE (R574). A poisoned word that the range covers only in part, or any in a set or clear area, refuses it. -/
def cmdMemWrite (p : Packet) (s : State) : State × Verdict :=
  let a := p.w 0; let ws := p.params.drop 1; let n := ws.length
  let masked := spanArea a (4 * n) == some .setAlias || spanArea a (4 * n) == some .clearAlias
  match checked
    ([(p.len < 2 || p.len > 4092, stBadLength), (a % 4 != 0, stMmAlign)] ++ rangeChecks s a (4 * n) false true) s (s, .waits) with
  | (s, .done st ws) => (s, .done st ws)
  | (s, .waits) =>
    if inWindow a then (writeWindow a ws (wakeRange a (4 * n) s), .done stOk [])
    else match poisonBlocks s a (4 * n) (!masked) with
      | some w => (s, .done stMmPoisoned [wd w])
      | none =>
        let q := storeAll p masked (writeAccesses a ws) (wakeRange a (4 * n) s)
        (q.1, .done (if q.2 then stFault else statusOf (metBy p masked (writeAccesses a ws))) [])

def execMemWrite (p : Packet) (s : State) : Host.Outcome State Fault Refusal := command .memWrite cmdMemWrite p s

/-- MEM.FILL (R575): accepted; the fill is made when it completes. -/
def cmdMemFill (p : Packet) (s : State) : State × Verdict :=
  let a := p.w 0; let n := p.w 1
  checked
    ([(p.len != 3, stBadLength), (n < 8 || 33554432 < n, stRange), (a % 8 != 0 || n % 8 != 0, stMmAlign)] ++ rangeChecks s a n true true) s
    ((wakeRange a n s).defer .memFill p)

def execMemFill (p : Packet) (s : State) : Host.Outcome State Fault Refusal := command .memFill cmdMemFill p s

/-- MEM.DMA (R576). -/
def cmdMemDma (p : Packet) (s : State) : State × Verdict :=
  let toHost := bit (p.w 0) 0; let a := p.w 3; let n := p.w 4
  match checked
    ([(p.len != 5, stBadLength),
      (reservedSet (p.w 0) 0xFFFFFFFE || s.boot.hostSel != 0 || n < 64 || 16777216 < n, stRange),
      (p.w 1 % 64 != 0 || a % 64 != 0 || n % 64 != 0, stMmAlign)] ++ rangeChecks s a n true (!toHost)) s (s, .waits) with
  | (s, .done st ws) => (s, .done st ws)
  | (s, .waits) =>
    match poisonBlocks s a n (!toHost) with
    | some w => (s, .done stMmPoisoned [wd w])
    | none => (wakeRange a n s).defer .memDma p

def execMemDma (p : Packet) (s : State) : Host.Outcome State Fault Refusal := command .memDma cmdMemDma p s

/-- The accesses of MEM.FILL (R575). -/
def fillAccesses (p : Packet) : List (Nat × Nat × Nat) := writeAccesses (p.w 0) (List.replicate (p.w 1 / 4) (wd (p.w 2)))

/-- MEM.FILL ends (R575), or at the access that fails twice (R573). -/
def fillFinish (p : Packet) (s : State) : State × Nat :=
  let q := storeAll p false (fillAccesses p) s
  (q.1, if q.2 then stFault else statusOf (metBy p false (fillAccesses p)))

/-- Bytes of host memory as the device reads them: free (log 4). -/
def hostBytes (a n : Nat) (s : State) : State × List Byte :=
  ({ s with fresh := s.fresh + 1 }, (List.range n).map fun i => Config.hostByte (a + i) s.fresh)

/-- MEM.DMA copies `n` bytes: the state, the status of what its accesses to device memory met, and whether one failed. -/
def dmaCopy (p : Packet) (n : Nat) (s : State) : State × Nat × Bool :=
  let host := p.w 1 + place 32 (p.w 2)
  if n = 0 then (s, stOk, false)
  else if bit (p.w 0) 0 then
    let q := touchAll p (wordsIn (p.w 3) n) s
    if q.2 then (q.1, stFault, true)
    else
      let r := memBytes (p.w 3) n q.1
      (r.1.emit (.hostWrite host (wordsOfBytes r.2)), statusOf ((wordsIn (p.w 3) n).map p.err), false)
  else
    let r := hostBytes host n s
    let xs := writeAccesses (p.w 3) (wordsOfBytes r.2)
    let q := storeAll p false xs r.1
    (q.1, if q.2 then stFault else statusOf (metBy p false xs), q.2)

/-- MEM.DMA ends (R576): status and BYTES_DONE. How far a failed copy came is free (log 4). A word of the range that was poisoned since
the command was accepted ends it with ST_MM_POISONED (R573). -/
def dmaFinish (p : Packet) (dma : Dma) (s : State) : State × Nat × List Word :=
  match poisonBlocks s (p.w 3) (p.w 4) (!bit (p.w 0) 0) with
  | some w => (s, stMmPoisoned, [wd w])
  | none =>
    match dma with
    | .failed =>
      let n := 64 * (s.takeFree.1.toNat % (p.w 4 / 64))
      let q := dmaCopy p n s.takeFree.2
      if q.2.2 then (q.1, stFault, []) else (q.1, stMmDma, [wd n])
    | _ =>
      let q := dmaCopy p (p.w 4) (if dma = .retried then s.recordOpen 1 0 0 true else s)
      if q.2.2 then (q.1, stFault, []) else (q.1, if dma = .retried then stOkRetried else q.2.1, [wd (p.w 4)])

/-- MEM.SCRUB_CONFIG (R577). -/
def cmdMemScrubConfig (p : Packet) (s : State) : State × Verdict :=
  let pass := field (p.w 0) 0 12; let ce := field (p.w 1) 0 16
  checked
    [(p.len ≠ 2, stBadLength),
     (pass == 0 || 3600 < pass || ce == 0 || reservedSet (p.w 0) 0xFFFFF000 || reservedSet (p.w 1) 0xFFFF0000, stRange)] s
    (s.modMem (fun m => { m with passS := pass, ceThreshold := ce }), .done stOk [])

def execMemScrubConfig (p : Packet) (s : State) : Host.Outcome State Fault Refusal := command .memScrubConfig cmdMemScrubConfig p s

/-- The system memory bank with the most corrections, the lowest of several (R578). -/
def ceMaxBank (s : State) : Nat :=
  (List.range 32).foldl (fun m b => if look 0 s.mem.ceBank m < look 0 s.mem.ceBank b then b else m) 0

/-- The words of MEM.ERR_STATUS (R578). -/
def errStatusWords (s : State) : List Word :=
  [wd s.mem.parityReplays, wd s.mem.parityLasting, wd s.mem.ce, wd s.mem.deTransient, wd s.mem.deLasting,
   wd (s.mem.poison.length + place 7 (ceMaxBank s)), wd s.mem.scrubPasses, wd s.mem.lastErrAddr, wd s.flt.dropped]

/-- CLEAR of MEM.ERR_STATUS: the counters; LAST_ERR_ADDR is none (R578). -/
def State.clearErrors (s : State) : State :=
  (s.modMem fun m => { m with
    parityReplays := 0, parityLasting := 0, ce := 0, deTransient := 0, deLasting := 0, scrubPasses := 0, ceBank := [] }).modFlt
    fun f => { f with dropped := 0 }

/-- MEM.ERR_STATUS (R578). -/
def cmdMemErrStatus (p : Packet) (s : State) : State × Verdict :=
  checked [(p.len ≠ 1, stBadLength), (reservedSet (p.w 0) 0xFFFFFFFE, stRange)] s
    (if bit (p.w 0) 0 then s.clearErrors else s, .done stOk (errStatusWords s))

def execMemErrStatus (p : Packet) (s : State) : Host.Outcome State Fault Refusal := command .memErrStatus cmdMemErrStatus p s

/-- An entry of MEM.FAULT_QUEUE (R579). A fault in the queue or in hand is active (R571). -/
def faultWords (f : Fault566) : List Word :=
  [wd (f.code + place 16 f.unit + place 21 f.sev + place 23 1 + place 24 (flag f.preempted)), wd f.detail, wd f.cycle,
   wd (f.cal % 2 ^ 32), wd (f.cal / 2 ^ 32), wd f.count]

/-- MEM.FAULT_QUEUE (R579). -/
def cmdMemFaultQueue (p : Packet) (s : State) : State × Verdict :=
  checked [(p.len ≠ 0, stBadLength)] s
    (s, .done stOk (wd (s.flt.waiting.length + place 5 (flag s.flt.inHand.isSome)) ::
      (s.flt.inHand.toList ++ s.flt.waiting).flatMap faultWords))

def execMemFaultQueue (p : Packet) (s : State) : Host.Outcome State Fault Refusal := command .memFaultQueue cmdMemFaultQueue p s

end Sys2Proof.Machine
end

