-- ==== Sys2Proof/Machine/Pair.lean ====
section
/-! DEFINITION. The redundant pair: the crook, its lease, election and give-up, the copy of the state, and the restoration of an
image after a reset or a takeover (15; 03 R101–R104). -/

namespace Sys2Proof.Machine

/-! ### Holding the crook (R527–R530) -/

/-- The lease in timing clocks. -/
def leaseClocks (s : State) : Nat := clocksOfUs (s.pair.leaseMs * 1000)

/-- take() (R528): `due` says how the state is restored in cycle q (R540), none where the half keeps its mode (R530). -/
def State.takeCrook (s : State) (due : Option Bool) : State :=
  let s := s.modPair fun p => { p with
    role := .alone, peerLost := false, peerStandby := false, peerSyncing := false, outgoing := none, sentAt := []
    leaseEnd := s.now + leaseClocks s, lastAck := none, giveUp := none, takeDue := due, takes := sat32 p.takes
    tookAt := some s.clock, quiet := due.isSome }
  driveDouts ((s.emit (.crook true)).recordOpen 13 39 1)

/-- lose() (R529): the half is SYNCING in READY with its outputs high-impedance. Its waiting mode commands return ST_LOCKED. -/
def State.loseCrook (s : State) : State :=
  let s := (coReset s).emit (.crook false)
  let s := (s.modPair fun p => p.syncing s.now).modDev fun d => { d with modeRequest := none, stopPending := false }
  let s := s.modGraph fun g => { g with inForce := [] }
  let s := s.settle (fun d => d.op == .devSetMode) fun _ => (stLocked, [])
  driveDouts ((s.modDio fun u => { u with substitute := true }).setMode .ready)

/-- One device cycle in timing clocks. -/
def cycleClocks (s : State) : Nat := if hasCycle s then clocksOfUs (lDev s) else 0

/-- A holder with the lane UP sends RENEW once in every device cycle, after the image is complete (R527), or alone in a mode that
writes none (log 65). -/
def State.sendRenew (s : State) : State :=
  let q := s.pair.seq
  (s.modPair fun p => { p with sentAt := put 0 p.sentAt q s.now }).emit (.renew q)

/-- The RENEW of a cycle whose image needs no delta. -/
def renewAtCommit (s : State) : State :=
  if s.pair.role.holds ∧ s.pair.laneUp ∧ s.pair.outgoing.isNone then s.sendRenew else s

/-- DELTA_COMPLETE (R527, R535): `bytes` is the size of the delta (log 56). -/
def deltaComplete (bytes : Nat) (s : State) : State :=
  match s.pair.outgoing, s.keep.next with
  | some o, some c =>
    if ¬ s.pair.role.holds ∨ ¬ s.pair.laneUp then s
    else
      let s := s.completeImage c o.seq
      let s := s.modPair fun p => { p with outgoing := none, deltaMax := max p.deltaMax (min (2 ^ 32 - 1) bytes) }
      (s.emit (.delta o.seq o.cycle o.words)).sendRenew
  | _, _ => s

def execDeltaComplete (bytes t : Nat) (s : State) : Host.Outcome State Fault Refusal := event true t (deltaComplete bytes) s

/-- A STANDBY that is no longer equal (R533). -/
def State.fallBehind (s : State) : State :=
  s.modPair fun p => { p with role := .syncing, current := false, copyDone := false, copyPermille := 0 }

/-- RENEW (R527): the half without the crook answers it; a STANDBY that has not applied the image named falls behind first (R533).
With the first RENEW a half that was configured in CONFIGURE takes its mode READY (R524; log 65). -/
def renew (seq : Nat) (s : State) : State :=
  if silentHalf s then
    let s := if s.pair.role = .standby ∧ s.pair.seq ≠ seq then s.fallBehind else s
    let current := s.pair.role == .standby && s.pair.current
    let s := s.modPair fun p => { p with lastRenew := s.now, alarmFrom := s.now, peerLost := false }
    let s := if s.dev.mode = .configure ∧ s.boot.windowOpened.isNone then s.setMode .ready else s
    s.emit (.ack seq current false)
  else s

def execRenew (seq t : Nat) (s : State) : Host.Outcome State Fault Refusal := event (seq < 65536) t (renew seq) s

/-- The lane shows that the peer does not hold: it is UP, and the latest ACK, less than one device cycle old, says so (R529). -/
def laneShows (s : State) : Bool :=
  s.pair.laneUp && (match s.pair.lastAck with | some (t, holds) => !holds && s.now - t < cycleClocks s | none => false)

/-- A holder that reads CROOK_IN high loses the crook unless the lane shows that its peer does not hold (R529). -/
def State.checkCrook (s : State) : State :=
  if s.pair.role.holds ∧ s.pair.crookIn ∧ ¬ laneShows s then s.loseCrook else s

/-- ACK (R527, R529): the lease runs from the instant at which the RENEW was sent; CURRENT shows that the peer is STANDBY. -/
def ack (seq : Nat) (current holds : Bool) (s : State) : State :=
  if ¬ s.pair.role.holds then s
  else
    let at' := look 0 s.pair.sentAt seq
    State.checkCrook <| s.modPair fun p => { p with
      leaseEnd := if at' = 0 then p.leaseEnd else at' + leaseClocks s
      sentAt := p.sentAt.filter fun e => 0 < signed 16 (e.1 + 2 ^ 16 - seq)
      lastAck := some (s.now, holds), peerStandby := current, peerSyncing := !current && !holds
      role := if current then .active else .alone }

def execAck (seq : Nat) (current holds : Bool) (t : Nat) (s : State) : Host.Outcome State Fault Refusal :=
  event (seq < 65536) t (ack seq current holds) s

/-- LEASE_EXPIRY (R527): with the lane DOWN and no crook of the peer, the lease runs on. A CROOK_IN that stands high is judged
again, since the latest ACK may have grown old (R529). -/
def leaseExpiry (s : State) : State :=
  if ¬ s.pair.role.holds then s
  else if ¬ s.pair.laneUp ∧ ¬ s.pair.crookIn then s.modPair fun p => { p with leaseEnd := s.now + leaseClocks s }
  else if s.pair.leaseEnd ≤ s.now then s.loseCrook
  else s.checkCrook

def execLeaseExpiry (t : Nat) (s : State) : Host.Outcome State Fault Refusal := event true t leaseExpiry s

/-- CROOK_TAKE (R527, R528): 1.25 leases without a renewal. A half in SYNCING reports PEER_LOST. -/
def crookTake (s : State) : State :=
  if s.pair.crookIn ∨ s.now < s.pair.lastRenew + leaseClocks s * 5 / 4 then s
  else match s.pair.role with
    | .standby => s.takeCrook (some true)
    | .syncing => s.modPair fun p => { p with peerLost := true }
    | _ => s

def execCrookTake (t : Nat) (s : State) : Host.Outcome State Fault Refusal := event true t crookTake s

/-- RELEASE (R527, R547): the image `seq` is the last complete one. `handover` is the PAIR.HANDOVER that the new holder answers. -/
def release (seq : Nat) (handover : Option Packet) (s : State) : State :=
  if s.pair.role = .standby ∧ s.pair.seq = seq ∧ ¬ s.pair.crookIn then
    (s.takeCrook (some true)).modPair fun p => { p with answer := handover }
  else s

def execRelease (seq : Nat) (handover : Option Packet) (t : Nat) (s : State) : Host.Outcome State Fault Refusal :=
  event (seq < 65536) t (release seq handover) s

/-- CROOK_IN_HIGH (R520, R529): CROOK_IN has held its level for 10 µs; `high` is that level (log 73). -/
def crookInHigh (high : Bool) (s : State) : State :=
  let s := s.modPair fun p => { p with crookIn := high, alarmFrom := if high then p.alarmFrom else s.now }
  if ¬ high ∨ ¬ s.pair.role.holds then s
  else if laneShows s then (s.modPair fun p => { p with lineFault := satAdd 16 p.lineFault 1 }).recordOpen 13 40 1 else s.loseCrook

def execCrookInHigh (high : Bool) (t : Nat) (s : State) : Host.Outcome State Fault Refusal := event true t (crookInHigh high) s

/-- A half takes the crook by election (R530): inside the window a RESUMABLE one restores its own image. Otherwise its mode stays,
and a window that is open closes. -/
def State.takeElected (s : State) : State :=
  if s.boot.windowOpened.isSome ∧ resumable s then s.takeCrook (some false)
  else
    let t := closeWindow (s.modPair fun p => { p with role := .off })
    ({ t with pair := s.pair }).takeCrook none

/-- ELECTION (R530): `peerNone` says that the peer reports over the lane that it holds no crook. -/
def election (peerNone : Bool) (s : State) : State :=
  if ¬ silentHalf s then s
  else if s.pair.laneUp then (if peerNone ∧ ¬ s.pair.half1 then s.takeElected else s)
  else if ¬ s.pair.crookIn ∧ s.pair.alarmFrom + leaseClocks s * (if s.pair.half1 then 10 else 5) / 4 ≤ s.now then
    s.takeElected
  else s

def execElection (peerNone : Bool) (t : Nat) (s : State) : Host.Outcome State Fault Refusal := event true t (election peerNone) s

/-! ### The pair lane (R519) -/

/-- The lane is DOWN: the holder goes on ALONE, and an image whose delta was on its way is its own only. -/
def laneDown (s : State) : State :=
  let s := match s.pair.outgoing, s.keep.next with
    | some o, some c => s.completeImage c o.seq
    | _, _ => s
  State.checkCrook <| s.modPair fun p => { p with
    laneUp := false, outgoing := none, peerStandby := false, peerSyncing := false, alarmFrom := s.now
    role := if p.role = .active then .alone else p.role }

/-- The lane is UP: the lease of a holder that was ALONE by a lane DOWN runs from here (R527). -/
def laneIsUp (s : State) : State :=
  s.modPair fun p => { p with
    laneUp := true
    leaseEnd := if p.role.holds ∧ ¬ p.laneUp ∧ ¬ p.crookIn then s.now + leaseClocks s else p.leaseEnd }

/-- LINK_DOWN (10 R360, R392; 15 R519). -/
def execLinkDown (port : LinkPort) (t : Nat) (s : State) : Host.Outcome State Fault Refusal :=
  match port with
  | .ring down portB => event true t (linkDown down portB) s
  | .pair => event (s.present 13) t laneDown s

/-- LINK_UP (10 R360; 15 R519). -/
def execLinkUp (port : LinkPort) (t : Nat) (s : State) : Host.Outcome State Fault Refusal :=
  match port with
  | .ring down portB => event true t (linkUp down portB) s
  | .pair => event (s.present 13) t laneIsUp s

/-! ### Keeping the standby equal (R532, R533, R538) -/

/-- Words of a delta or copy enter memory. -/
def takeWords (records : List (Nat × List Word)) (s : State) : State :=
  putWords (records.flatMap fun r => r.2.zipIdx.map fun e => (r.1 + 4 * e.2, e.1.toNat)) s

/-- The complete image `d` of the peer becomes the newest one; banks and schedule modes follow it. -/
def adoptImage (d : Delta) (s : State) : State :=
  let s := takeWords d.records s
  let s := s.modKeep fun k => { k with image := some d.image, next := none, undo := [] }
  let s := d.image.slots.foldl (fun s i => adoptActive i s) s
  let s := s.modIface true fun k => { k with mode := d.image.downMode, epoch := d.image.downEpoch }
  s.modPair fun p => { p with role := .standby, seq := d.seq, nextSeq := (d.seq + 1) % 65536, current := true }

/-- DELTA_RECEIVE (R533, R538): END has come. While the full copy runs its words go to memory; the first complete image after
it makes the half STANDBY. A delta that fails in between leaves the copy to be made again. -/
def deltaReceive (d : Delta) (s : State) : State :=
  let s := if d.good then s else s.modPair fun p => { p with laneErr := satAdd 16 p.laneErr 1 }
  match s.pair.role with
  | .standby => if d.good ∧ d.seq = (s.pair.seq + 1) % 65536 then adoptImage d s else s.fallBehind
  | .syncing =>
    if ¬ d.good then s.fallBehind
    else if s.pair.copyDone then adoptImage d s
    else (takeWords d.records s).modPair fun p => { p with seq := d.seq }
  | _ => s

def execDeltaReceive (d : Delta) (t : Nat) (s : State) : Host.Outcome State Fault Refusal :=
  event (d.seq < 65536) t (deltaReceive d) s

/-- The settings of an input, output or encoder of the record, beside the half's own levels and counts. -/
def Din.configured (now : Nat) (own k : Din) : Din :=
  Din.count { own with activeLow := k.activeLow, filter := k.filter, stuckMs := k.stuckMs, chatterMax := k.chatterMax } own.logical now
def Dout.asConfigured (k : Dout) : Dout := { configured := k.configured, openDrain := k.openDrain, subst := k.subst, substNow := k.subst }
def Pwm.asConfigured (k : Pwm) : Pwm :=
  { k with value := 0, shadow := k.substDuty, duty := k.substDuty, frac := 0, hi := 0, startAt := none }
def Enc.withConfig (own k : Enc) : Enc :=
  { own with
    configured := k.configured, mode := k.mode, filter := k.filter, latchSrc := k.latchSrc, latchDin := k.latchDin
    latchCont := k.latchCont, velWindowUs := k.velWindowUs }

/-- The DIO unit takes the settings of the record. -/
def DioUnit.take (now : Nat) (own k : DioUnit) : DioUnit :=
  { dins := (List.range 64).foldl (fun t n => put {} t n ((look {} own.dins n).configured now (look {} k.dins n))) []
    douts := mapAll {} k.douts Dout.asConfigured
    pwms := mapAll {} k.pwms Pwm.asConfigured
    encs := (List.range 16).foldl (fun t n => put {} t n ((look {} own.encs n).withConfig (look {} k.encs n))) []
    substitute := true }

/-- A converter takes the settings of the record: its table starts anew. -/
def Conv.take (own k : Conv) : Conv :=
  { own with
    lowPower := k.lowPower, ovrFault := k.ovrFault, ranges := k.ranges, configured := k.configured, faulted := false
    table := k.table, entry := 0, made := 0, newTable := false, idleUntil := 0, busy := none, triggeredAt := none, oldCal := none
    waitingUrgent := none, calibration := none, retry := [] }

def AdcUnit.take (own k : AdcUnit) : AdcUnit :=
  { own with
    convs := (List.range 16).foldl (fun t n => put {} t n ((look {} own.convs n).take (look {} k.convs n))) []
    groups := k.groups }

/-- The ring unit holds the configuration, the schedule, the assignment and the topology of the active half (R521, R538). -/
def DroveUnit.take (own k : DroveUnit) : DroveUnit :=
  { own with
    cfg := k.cfg, sync := k.sync, modes := k.modes, armed := k.armed, active := k.active, downStarted := k.downStarted
    member := k.member, upWritten := k.upWritten, upModes := k.upModes, devAddr := k.devAddr, upMap := k.upMap, downMap := k.downMap
    topo := k.topo, generation := k.generation
    up := { own.up with tag := k.up.tag, mode := k.up.mode, epoch := k.up.epoch }
    down := { own.down with tag := k.down.tag, mode := k.down.mode, epoch := k.down.epoch } }

/-- The TIME unit takes the settings of the record, beside its own links, tracks in progress and M. -/
def EthPort.take (own k : EthPort) : EthPort :=
  { k with linkUp := own.linkUp, tsq := own.tsq, overflow := own.overflow, tsqDropped := own.tsqDropped }
def Track.take (own k : Track) : Track :=
  { own with
    enable := k.enable, ports := k.ports, udp := k.udp, p2p := k.p2p, domain := k.domain, majorSdo := k.majorSdo
    minorSdo := k.minorSdo, logDelay := k.logDelay, announceTimeout := k.announceTimeout, syncTimeoutMs := k.syncTimeoutMs
    lockNs := k.lockNs
    state := if !k.enable then .off else if own.state = .off then .listening else own.state }
def NetUnit.take (own k : NetUnit) : NetUnit :=
  { own with
    ports := (List.range 2).foldl (fun t n => put {} t n ((look {} own.ports n).take (look {} k.ports n))) []
    tracks := (List.range 2).foldl (fun t n => put {} t n ((look {} own.tracks n).take (look {} k.tracks n))) []
    source := k.source, autoSwitch := k.autoSwitch, steer := k.steer, stepEarly := k.stepEarly, slewPpm := k.slewPpm
    maxSteerPpm := k.maxSteerPpm, stepUs := k.stepUs, udpEnabled := k.udpEnabled, udpPort := k.udpPort, udpPorts := k.udpPorts
    dscp := k.dscp, allow := k.allow }

/-- The scheduler takes the settings of the record. -/
def SlotSched.take (own k : SlotSched) : SlotSched :=
  { own with
    shedUs := k.shedUs, abandonPolicy := k.abandonPolicy, prio := k.prio, prioOvr := k.prioOvr, coreLimit := k.coreLimit, homes := [] }
def SchedUnit.take (own k : SchedUnit) : SchedUnit :=
  { own with
    slots := (List.range 4).foldl (fun t n => put {} t n ((look {} own.slots n).take (look {} k.slots n))) []
    stealMin := k.stealMin, affWaitNs := k.affWaitNs, spillNs := k.spillNs, changes := k.changes }

/-- The configuration record of the active half takes effect (R538). Executions and publications of the peer are not part of it. -/
def Record.apply (r : Record) (s : State) : State :=
  let s := s.modDev fun d => { d with autoResume := r.dev.autoResume, resumeToReady := r.dev.resumeToReady, maxGap := r.dev.maxGap }
  let s := s.modCyc fun c => { c with holdBudget := r.holdBudget, latchSubst := r.latchSubst }
  let s := s.modMem fun m => { m with passS := r.passS, ceThreshold := r.ceThreshold }
  let s := s.modTally fun t => { t with settings := r.tallySettings, defaultRefill := r.defaultRefill }
  let s := s.modPwr fun p => { p with monitors := r.monitors, graze := r.graze }
  let s := s.modPair fun p => { p with ranges := r.ranges }
  let s := s.modGraph fun _ => { r.graph with
    slots := r.graph.slots.map (fun e => (e.1, { e.2 with exec := none, ready := none, stepping := none })), inForce := [], readyCycle := none }
  let s := s.modSched fun u => u.take r.sched
  let s := s.modAxis fun u => { r.axis with ss1Held := u.ss1Held }
  let s := s.modAdc fun u => u.take r.adc
  let s := s.modDio fun u => u.take s.now r.dio
  let s := s.modAcq fun u => { r.acq with ingest := u.ingest, lossOwed := [], latest := u.latest, pubCount := u.pubCount, pubNo := u.pubNo }
  let s := s.modDrove fun u => u.take r.drove
  let s := canRestart (s.modCan fun _ => r.can)
  let s := s.modNet fun u => u.take r.net
  let s := if s.drove.cfg.upEn ∧ s.drove.up.state = .disabled then s.upListen else s
  match s.drove.down.state, s.drove.downStarted, s.drove.active with
  | .disabled, true, some m => s.startDown m
  | _, _, _ => s

/-- FULL_COPY_DONE (R538): the half becomes STANDBY at the next complete image. -/
def fullCopyDone (f : FullCopy) (s : State) : State :=
  if s.pair.role ≠ .syncing then s
  else
    let s := takeWords f.records (f.record.apply (closeWindow s))
    driveDouts (s.modPair fun p => { p with copyDone := true, copyPermille := 1000 })

def execFullCopyDone (f : FullCopy) (t : Nat) (s : State) : Host.Outcome State Fault Refusal := event true t (fullCopyDone f) s

/-! ### Giving up control (R539, R541, R547) -/

/-- A give-up is due at the commit point of cycle `k`. -/
def giveUpDue (s : State) (k : Nat) : Bool :=
  match s.pair.giveUp with
  | some g => (match g.cycle with | some x => decide (0 ≤ cycDiff k x) | none => true)
  | none => false

/-- Nothing is committed at the commit point of a give-up (R539). -/
def givesUpAt (s : State) (k : Nat) : Bool := s.pair.role == .active && s.pair.peerStandby && giveUpDue s k

/-- GIVE_UP (R539): RELEASE with the last complete image, lose(), and after any cause but PAIR.HANDOVER a warm reset with
NO_RESUME. Without a STANDBY peer a single device's handling stands. -/
def giveUp (s : State) : State :=
  match s.pair.giveUp with
  | none => s
  | some g =>
    if ¬ giveUpDue s (devCycle s) then s
    else if s.pair.role == .active && s.pair.peerStandby then
      let s := ((s.emit (.release s.pair.seq g.handover)).loseCrook).modPair fun p => { p with giveUps := sat32 p.giveUps }
      if g.handover.isSome then s
      else s.modBoot fun b => { b with warmResetAt := some s.now, resetOnReply := false, noResume := true, resetAs := g.cause }
    else
      let s := s.modPair fun p => { p with giveUp := none }
      match g.handover with
      | some p => s.answer .pairHandover p stPrNoPeer []
      | none => if g.reset then warmReset g.cause s else s

def execGiveUp (t : Nat) (s : State) : Host.Outcome State Fault Refusal := event true t giveUp s

/-! ### Restoring the state in cycle q (03 R101–R103, R95; 15 R540) -/

/-- The commit state after a resume follows from the miss counter (01 R26), unless the device was LATCHED. -/
def resumedCommit (s : State) (c : Cocoon) (first : Bool) (miss : Nat) : Commit :=
  if c.commit = .latched then .latched
  else if miss = 0 then .committing
  else if miss ≤ s.cyc.holdBudget then (if first then .holding else .committing)
  else .substitute

/-- The mode of a restored device; outputs of a mode without committed images take their substitute values. -/
def State.resumeMode (s : State) (image m : Mode) : State :=
  let s := if m = .run ∨ m = .hold then s
    else if image = .run ∨ image = .hold then toReadyOutputs s
    else s
  s.setMode m

/-- A single device restores the image `c` in cycle q (R101). After RESET_N nothing is in force. -/
def restoreSingle (c : Cocoon) (s : State) : State :=
  let old := s
  let s := replayUndo s
  let s := if swapKept old then keepLoopBanks old s else s
  let held := s.boot.holdingOutputs
  let miss := if held then s.cyc.miss else 0
  let first := held && s.cyc.firstCommitted
  let s := restoreImage c s
  let q := devCycle s
  let s := s.modCyc fun y => { y with
    miss := miss, firstCommitted := first, commit := resumedCommit s c first miss, enteredAt := if held then none else some q }
  let s := if held then s else s.modGraph fun g => { g with inForce := [] }
  let auto := !s.host.deferred.any fun d => d.op == .devResume
  let s := s.modBoot fun b => { b with
    windowOpened := none, holdingOutputs := false, autoSuppressed := false, autoAt := if auto then some s.now else b.autoAt }
  let s := s.resumeMode c.mode (if s.dev.resumeToReady then .ready else c.mode)
  let first' := cycleAfter s q 2
  (acqResumed (coResumed s)).settle (fun d => d.op == .devResume) fun _ => (stOk, [wd c.cycle, wd first'])

/-- A resume is refused (R102): the window closes. -/
def State.refuseResume (s : State) (status : Nat) : State :=
  closeWindow ((s.settle (fun d => d.op == .devResume) fun _ => (status, [])).recordOpen 0 43 1)

/-- RESUME of a single device (R101–R103): at the start of a cycle, inside the window, integrated. -/
def resumeSingle (s : State) : State :=
  let s := if s.boot.replayed then
      let now := s
      s.settle (fun d => d.op == .devResume && resumable now && checkFails d.packet now) fun _ => (stNoCheckpoint, [])
    else s
  if s.boot.windowOpened.isNone ∨ ¬ s.boot.replayed ∨ ¬ resumeRequested s then s
  else match s.keep.image with
    | some c =>
      if ¬ resumable s then s.refuseResume stNoCheckpoint
      else if gapTooLong s c.cycle then s.refuseResume stGapTooLong
      else restoreSingle c s
    | none => s.refuseResume stNoCheckpoint

/-- The input instant of cycle `c` in ns of ring time. -/
def inputNsOf (s : State) (c : Nat) : Nat := ((inputTime s : Int) - cycDiff (devCycle s) c * ((lBase s * 1000 : Nat) : Int)).toNat

/-- An axis after a takeover (R540): the accumulator, FB_OFFSET and POS_UNCERTAIN. -/
def takeoverAxis (i : AxisImage) (s : State) : State :=
  let raw := feedback s (axisOf s i.axis)
  s.modCh i.axis fun c => { c with
    pulse := { c.pulse.halt i.pos with upTo := s.now }
    fbOffset := match raw with
      | some f => if c.fbKind = 1 then wrap64 (i.fb - f * q24) else c.fbOffset
      | none => c.fbOffset
    uncertain := c.uncertain || (c.kind == 2 && i.vel ≠ 0) }

/-- Running captures restart with STATE BEGIN, after a GAP record of cause RESET (R540). -/
def restartCaptures (s : State) : State :=
  (runningCaptures (acqResumed s)).foldl (fun s c => s.noteState c 0 s.ns 0) (acqResumed s)

/-- A half that took the crook restores the image `c` in cycle q (R540). -/
def restoreTaken (c : Cocoon) (own : Bool) (s : State) : State :=
  let s := if own then replayUndo s else s
  let s := c.slots.foldl (fun s i => adoptActive i s) s
  let s := restoreImage c s
  let s := c.axes.foldl (fun s i => takeoverAxis i s) s
  let ns := inputNsOf s c.cycle
  let s := (List.range 4).foldl (fun s n => s.modSlot n fun k => { k with lastDins := none, lastNs := ns }) s
  let miss := if c.committed then 0 else c.miss
  let s := s.modCyc fun y => { y with
    miss := miss, firstCommitted := c.firstCommitted || c.committed, lastApplied := if c.committed then c.cycle else c.lastApplied
    commit := if c.committed ∧ c.commit ≠ .latched then .committing else c.commit, enteredAt := some (devCycle s) }
  let s := s.modGraph fun g => { g with inForce := if c.committed then c.image.values else c.inForce }
  let s := (keepSubstitutes s).modDio fun u => { u with substitute := decide (c.mode ≠ .run ∧ c.mode ≠ .hold) }
  let s := s.modKeep fun k => { k with undo := [[]] }
  (restartCaptures s).setMode c.mode

/-- A takeover whose restoration is due (R540): in the first cycle whose start follows the take. The PAIR.HANDOVER that caused it is
answered (R547). -/
def resumeTaken (peer : Bool) (s : State) : State :=
  match s.keep.image with
  | none => s.modPair fun p => { p with takeDue := none, quiet := false }
  | some c =>
    let answer := s.pair.answer
    let s := (s.modPair fun p => { p with takeDue := none, answer := none }).modBoot fun b => { b with windowOpened := none, holdingOutputs := false }
    let s := if gapTooLong s c.cycle then
        ((toReadyOutputs (s.modPair fun p => { p with quiet := false })).setMode .ready).recordOpen 13 42 1
      else restoreTaken c (!peer) s
    match answer with
    | some p => s.answer .pairHandover p stOk []
    | none => s

/-- RESUME (03 R101; 15 R540): at the start of a cycle of an integrated device, and at no later instant of it. -/
def resume (s : State) : State :=
  if s.boot.phase ≠ .running ∨ ¬ hasCycle s ∨ s.clock % clocksOfUs (max 1 (lDev s)) ≠ 0 ∨ ¬ integrated s then s
  else match s.pair.takeDue with
    | some peer => resumeTaken peer s
    | none => resumeSingle s

def execResume (t : Nat) (s : State) : Host.Outcome State Fault Refusal := event true t resume s

/-! ### Commands (R544–R549) -/

/-- PAIR.CONFIG (R545). A half that holds the crook keeps it with a new lease (log 65). -/
def cmdPairConfig (p : Packet) (s : State) : State × Verdict :=
  let w := p.w 0
  let en := bit w 0; let half := bit w 1; let lease := field w 2 7
  let short := en && hasCycle s && lease * 1000 < 2 * lDev s
  let set (q : PairUnit) : PairUnit := { q with half1 := half, leaseMs := lease, giveupSev := field w 9 2 }
  checked
    [(p.len ≠ 1, stBadLength), (reservedSet w 0xFFFFF800 || lease < 1 || 100 < lease || field w 9 2 == 0, stRange),
     (s.dev.mode ≠ .configure, stBadMode), (short, stPrLease), (s.pair.role.holds && en && half ≠ s.pair.half1, stPrRole)] s
    (if ¬ en then
       let t := if s.pair.role.holds then s.emit (.crook false) else s
       (driveDouts (t.modPair fun q => set q.cleared), .done stOk [])
     else if s.pair.role.holds then
       (s.modPair fun q => { set q with leaseEnd := s.now + clocksOfUs (lease * 1000) }, .done stOk [])
     else (driveDouts (s.modPair fun q => set (q.syncing s.now)), .done stOk []))

def execPairConfig (p : Packet) (s : State) : Host.Outcome State Fault Refusal := command .pairConfig cmdPairConfig p s

/-- COPY_PERMILLE (R546): how far a copy in progress has come is not stated. -/
def copyPermille (s : State) (free : Nat) : Nat :=
  if s.pair.role ≠ .syncing then 0
  else if s.pair.copyDone then 1000
  else if s.pair.laneUp then free % 1000
  else 0

/-- The words of PAIR.STATUS (R546). -/
def pairWords (s : State) (free : Nat) : List Word :=
  let q := s.pair
  [wd (q.role.num + place 3 (flag q.half1) + place 4 (flag q.laneUp) + place 5 (flag q.crookIn) + place 6 (flag q.peerLost) +
     place 16 (copyPermille s free)),
   wd q.seq, wd (checkpointCycle s), wd q.deltaMax, wd q.overruns, wd q.takes, wd q.giveUps, wd (q.lineFault + place 16 q.laneErr)]

def cmdPairStatus (p : Packet) (s : State) : State × Verdict :=
  checked [(p.len ≠ 0, stBadLength)] s (s.takeFree.2, .done stOk (pairWords s s.takeFree.1.toNat))

def execPairStatus (p : Packet) (s : State) : Host.Outcome State Fault Refusal := command .pairStatus cmdPairStatus p s

/-- PAIR.HANDOVER (R541, R547): the holder commits nothing from AT on, or from the next cycle. -/
def cmdPairHandover (p : Packet) (s : State) : State × Verdict :=
  let k := if p.atCycle.isSome then devCycle s else cycleAfter s (devCycle s) 1
  checked
    [(p.len ≠ 0, stBadLength), (s.dev.mode ≠ .ready && s.dev.mode ≠ .run && s.dev.mode ≠ .hold, stBadMode),
     (!s.pair.role.holds, stPrRole), (s.pair.role ≠ .active || !s.pair.peerStandby, stPrNoPeer)] s
    (s.askGiveUp { cycle := some k, handover := some p }, .waits)

def execPairHandover (p : Packet) (s : State) : Host.Outcome State Fault Refusal := command .pairHandover cmdPairHandover p s

/-- The ranges of PAIR.CHECKPOINT_CONFIG. -/
def rangesOf (p : Packet) : List (Nat × Nat) := (List.range ((p.len - 1) / 2)).map fun i => (p.w (1 + 2 * i), p.w (2 + 2 * i))

/-- A range is aligned and lies in the free area of system memory (R548, 16 R551). -/
def rangeOk (r : Nat × Nat) : Bool := r.1 % 64 == 0 && r.2 % 64 == 0 && r.1 + r.2 ≤ 0x00800000

/-- PAIR.CHECKPOINT_CONFIG (R548). -/
def cmdPairCheckpointConfig (p : Packet) (s : State) : State × Verdict :=
  let n := field (p.w 0) 0 4
  checked
    [(p.len < 1 || p.len ≠ 1 + 2 * n, stBadLength), (reservedSet (p.w 0) 0xFFFFFFF0 || 8 < n || !(rangesOf p).all rangeOk, stRange),
     (s.dev.mode ≠ .configure && s.dev.mode ≠ .ready, stBadMode)] s
    (s.modPair (fun q => { q with ranges := rangesOf p }), .done stOk [])

def execPairCheckpointConfig (p : Packet) (s : State) : Host.Outcome State Fault Refusal :=
  command .pairCheckpointConfig cmdPairCheckpointConfig p s

/-- PAIR.STANDBY_CHECK (R549): what the peer holds is not in this device, so the comparison's result is a free value (log 74). -/
def cmdPairStandbyCheck (p : Packet) (s : State) : State × Verdict :=
  let diff := s.takeFree.1.toNat % 2 ^ 11
  checked [(p.len ≠ 0, stBadLength), (s.pair.role ≠ .active || !s.pair.peerStandby, stPrNoPeer)] s
    (s.takeFree.2, .done (if diff = 0 then stOk else stPrMismatch) [wd diff])

def execPairStandbyCheck (p : Packet) (s : State) : Host.Outcome State Fault Refusal :=
  command .pairStandbyCheck cmdPairStandbyCheck p s

end Sys2Proof.Machine
end

