-- ==== Sys2Proof/Machine/Cycle.lean ====
section
/-! DEFINITION. The control cycle: its start, the input instant, the commit point and the output instant, entry to SAFE, and the
DEV commands of chapter 01. -/

namespace Sys2Proof.Machine

/-- The device cycle in progress, counted by device time (01 R13). -/
def cycleTick (s : State) : Nat := s.clock / clocksOfUs (max 1 (lDev s))

/-- Clocks since the cycle in progress began. -/
def intoCycle (s : State) : Nat := s.clock % clocksOfUs (max 1 (lDev s))

/-! ### The start of a cycle (01 R13, R31–R33, R43) -/

/-- The ring parts of a cycle's start: the up-ring's cycle is the device's, a down-ring's begins with every mult-th (01 R15). -/
def ringsAtStart (s : State) : State :=
  let s := if s.drove.cfg.upEn then upCycleStart s else s
  let s := if downCycleBegins s then slewStep (downCycleStart s) else s
  s.applyRate

/-- A STOP whose transition was made is handled (16 R566). -/
def endStop (due : Bool) (s : State) : State :=
  match s.flt.inHand with
  | some f => if due ∧ f.sev = 2 then s.endFault else s
  | none => s

/-- The unit parts of the start of cycle `k`, outside GRAZE: the changeover first, then the modes (01 R43). -/
def unitsAtStart (k : Nat) (s : State) : State :=
  let due := s.dev.stopPending
  let s := coAtStart k s
  let s := endStop due (modesAtStart s)
  let s := graphMode (originsAtStart k (schedAtStart (controlsAtStart k s)))
  let s := axisCycleStart s
  let s := if downCycleBegins s then axisRemotes s else s
  routDue k (triggerCycle k (netCycle s))

/-- CYCLE_START. A device without a control cycle goes on with its ring cycles alone. -/
def cycleStart (s : State) : State :=
  let n := cycleTick s
  if s.boot.phase ≠ .running ∨ s.cyc.startOf = some n ∨ lDev s = 0 then s
  else
    let s := s.modCyc fun c => { c with startOf := some n }
    let s := (ringsAtStart s).pollSchedule
    if ¬ hasCycle s then s
    else
      let s := s.flushUdp.modCyc fun c => { c with settled := sat32 c.settled }
      let s := if s.dev.mode = .graze then s.runDeferred .axisStop axisStopNow else unitsAtStart (devCycle s) s
      rechoose (settleGraze (finishWake (sendTopology s)))

def execCycleStart (t : Nat) (s : State) : Host.Outcome State Fault Refusal := event true t cycleStart s

/-! ### The input instant (01 R18, R21, R22) -/

/-- A monitor's sample is published at the first input instant after it: °C, V or % (18 R612). -/
def publishMonitor (s : State) (i : Nat) : State :=
  let m := s.pwr.monitors.getD i Monitor.temperature
  if !m.sampled then s
  else
    let per := if i < 8 then 16 else if i < 20 then 1000 else 100
    (s.modPwr fun p => { p with monitors := setAt p.monitors i { m with sampled := false } }).publish (0x10 + i) (Fmt.b32.ofRatio m.value per)

/-- The converter results completed up to 2 µs after the input instant enter the image (08 R271). -/
def adcInputs (s : State) : State := s.modAdc fun a => { a with image := a.results, imageUntil := s.now + clocksOfUs 2 }

/-- The role of a pair half (15 R524). -/
def pairInputs (s : State) : State := if s.present 13 then s.publish 0x2300 s.pair.role.num else s

/-- What the device captures at its input instant. -/
def captureInputs (s : State) : State :=
  let s := (List.range 64).foldl latchDin (settleDins s)
  let s := ((List.range 16).filter fun n => (encOf s n).configured).foldl latchEnc s
  let s := axisInputs (loopInputs (canInputInstant (adcInputs s)))
  let s := pairInputs (islandInputs s)
  let s := (List.range 24).foldl publishMonitor s
  formUpWords s

/-- INPUT_INSTANT: once in each device cycle, its input offset after the start. In GRAZE the cycle's processing has stopped. -/
def inputInstant (s : State) : State :=
  let n := cycleTick s
  if s.boot.phase ≠ .running ∨ ¬ hasCycle s ∨ s.dev.mode = .graze ∨ s.cyc.inputOf = some n ∨ intoCycle s < clocksOfUs (inOffset s) then s
  else captureInputs (s.modCyc fun c => { c with inputOf := some n })

def execInputInstant (t : Nat) (s : State) : Host.Outcome State Fault Refusal := event true t inputInstant s

/-! ### The commit point (01 R23, R24, R27, R32, R42; 03 R99) -/

/-- The output frames of cycle `k` have all come with IN_OK (01 R23); without an up-ring nothing is waited for. -/
def outputsComplete (s : State) (k : Nat) : Bool :=
  !s.drove.cfg.upEn ||
  (match s.drove.member with
    | some m => (dataSlots (modeInForce s false) 0x80 m).all fun i => s.drove.outFrames.any fun f => f.slot == i && f.tag == k && f.inOk
    | none => false)

/-- The device leaves RUN for READY at the next cycle start, as far as its commit point knows (01 R32). -/
def leavesRun (s : State) : Bool :=
  let x := cycleAfter s (devCycle s) 1
  s.dev.stopPending || s.dev.modeRequest == some .ready ||
  s.host.timed.any fun d => d.cycle == x && d.op == .devSetMode && field (d.packet.w 0) 0 3 == 1

/-- The device commits its output image of cycle `k` (01 R23, R42; 03 R101; 15 R539). -/
def commits (s : State) (k : Nat) : Bool :=
  s.dev.mode == .run && s.acts && outputsComplete s k && !programsLate s k && !leavesRun s && !coBlocks s k &&
  s.boot.resumedAt != some k && !givesUpAt s k

/-- The image of cycle `k` is formed in RUN, and committed or not. -/
def formCommit (k : Nat) (s : State) : State :=
  let s := beginLate k s
  let ok := commits s k
  let release := s.cyc.commit == .latched && s.drove.outFrames.any (·.release)
  let s := schedCommit k s
  let s := if s.dev.mode = .run then formImage k s else s
  let s := if ok then keepOutputData s else s
  s.modCyc fun c => { c with committedNow := ok, releaseNow := ok && release }

/-- COMMIT_POINT: 2 µs before the end of the cycle. The cocoon image follows the commit. -/
def commitPoint (s : State) : State :=
  let n := cycleTick s
  let k := devCycle s
  if s.boot.phase ≠ .running ∨ ¬ hasCycle s ∨ s.cyc.commitOf = some n ∨ ¬ pastCommitPoint s ∨ s.dev.mode = .graze then s
  else
    let s := varReads (formCommit k (s.modCyc fun c => { c with commitOf := some n }))
    if givesUpAt s k then s else coForget (renewAtCommit (writeCocoon k s))

def execCommitPoint (t : Nat) (s : State) : Host.Outcome State Fault Refusal := event true t commitPoint s

/-! ### The output instant (01 R26–R28, R33, R45; 11 R420) -/

/-- The values of digital outputs and of PWM outputs that no loop owns; an output to which no image gives a value keeps what it
drives (log 80). -/
def applyValues (values : List (ImgKey × Nat)) (s : State) : State :=
  let owned := loopOwnsPwm s
  let s := keepSubstitutes s
  values.foldl (fun s e => match e.1 with
    | .dout n => s.modDout n fun d => { d with value := if e.2 = 0 then .low else .high }
    | .pwm n => if owned n then s else s.modPwm n fun p => { p with value := e.2, shadow := e.2 }
    | _ => s) s

/-- The TX buffers that the image writes or queues: controller and buffer. -/
def imageBuffers (i : ImageOut) : List (Nat × Nat) :=
  let keys := i.values.filterMap fun e => match e.1 with | .canWord c b _ => some (c, b) | _ => none
  let sends := i.reqs.filterMap fun r => match r with | .canSend c b => some (c, b) | _ => none
  (keys ++ sends).eraseDups

/-- The image's copies of TX buffers, and the frames it queues (12 R448). -/
def applyCan (i : ImageOut) (s : State) : State :=
  (imageBuffers i).foldl (fun s k =>
    let ws := i.values.filterMap fun e => match e.1 with | .canWord c b w => if (c, b) = k then some (w, e.2) else none | _ => none
    imageSend k.1 k.2 (i.reqs.any fun r => r == .canSend k.1 k.2) ws s) s

/-- The requests of an image: latches and axes (08 R292, 07 R259). -/
def applyRequests (i : ImageOut) (s : State) : State :=
  let s := i.reqs.foldl (fun s r => match r with | .armLatch n => armLatch n s | _ => s) s
  s.axisRequests (i.reqs.filterMap fun r => match r with | .axis a => some a | _ => none)

/-- The image tagged `k` is applied: the device is COMMITTING. -/
def applyImage (k : Nat) (s : State) : State :=
  let i := s.graph.image
  let s := s.modCyc fun c => { c with commit := .committing, firstCommitted := true, lastApplied := k }
  let s := loopReps i.values s
  let s := s.modGraph fun g => { g with inForce := i.values }
  let s := s.modPair fun p => { p with quiet := false }
  let s := setSubstitute false (applyValues i.values s)
  downMapWrite (applyRequests i (applyCan i s))

/-- A committed image at its output instant (01 R26, R27). -/
def committedInstant (k : Nat) (s : State) : State :=
  let release := s.cyc.releaseNow
  let s := s.modCyc fun c => { c with miss := 0, committedNow := false, releaseNow := false }
  match s.cyc.commit with
  | .substitute => if s.cyc.latchInForce then s.modCyc fun c => { c with commit := .latched } else applyImage k s
  | .latched => if release then applyImage k s else s
  | _ => applyImage k s

/-- The hold budget is spent (01 R26): substitute values, and `stop` acts on the axes. -/
def enterSubstitute (stop : State → State) (s : State) : State :=
  let s := s.modCyc fun c => { c with commit := .substitute, latchInForce := c.latchSubst, substEntries := sat32 c.substEntries }
  let s := s.modPair fun p => { p with quiet := false }
  stop (setSubstitute true (s.recordOpen 0 48 1))

/-- An output instant without a committed image (01 R26–R28): HOLDING is not entered before the first image of the stay in RUN has
been committed (R28), SUBSTITUTE is (R26; log 118). -/
def missedInstant (stop : State → State) (s : State) : State :=
  let s := s.modCyc fun c => { c with misses := sat32 c.misses, miss := min 31 (c.miss + 1) }
  match s.cyc.commit with
  | .latched => s
  | .substitute => s
  | c =>
    if s.cyc.holdBudget < s.cyc.miss then enterSubstitute stop s
    else if c = .holding ∨ ¬ s.cyc.firstCommitted then s
    else (s.modCyc fun c => { c with commit := .holding }).recordOpen 0 47 0

/-- A heartbeat goes to the island: from half 0 or a single device directly, from half 1 over SAFE_HB_OUT (14 R507; 15 R523). -/
def sendHeartbeat (s : State) : State :=
  if !s.acts then s
  else if s.pair.role ≠ .off ∧ s.pair.half1 then s.emit .heartbeat
  else islandHeartbeat s

/-- The signals of the device cycle, stamped with its start (09 R309; log 122). -/
def publishCycle (s : State) : State :=
  let at' := nsOf (s.clock - intoCycle s)
  ((s.publishAt 0 at' (devCycle s)).publishAt 1 at' s.cyc.commit.num).publishAt 2 at' s.cyc.miss

/-- The output instant of the device cycle before that in progress. In HOLD a miss does not count, and none counts at the start
of the cycle in which RUN was entered (01 R31, R33). -/
def outputStep (s : State) : State :=
  let k := devCycle s
  let prev := (k + 2 ^ 32 - cycleStep s) % 2 ^ 32
  let s :=
    if s.dev.mode ≠ .run ∧ s.dev.mode ≠ .hold then s.modCyc fun c => { c with committedNow := false, releaseNow := false }
    else if s.cyc.committedNow then committedInstant prev s
    else if s.dev.mode = .hold ∨ s.cyc.enteredAt = some k then s
    else missedInstant axisSubstitute s
  sendHeartbeat (publishOutputs (publishCycle s))

/-- OUTPUT_INSTANT. The output stages count on while the logic is in its reset or the window is open (03 R95, 07 R256). -/
def outputInstant (s : State) : State :=
  let n := cycleTick s
  if s.cyc.outputOf = some n ∨ lDev s = 0 then s
  else
    let s := s.modCyc fun c => { c with outputOf := some n }
    if s.boot.holdingOutputs then
      let s := missedInstant (fun s => s) s
      if s.cyc.holdBudget < s.cyc.miss then axisHoldEnd s else s
    else if s.boot.phase ≠ .running ∨ ¬ hasCycle s ∨ s.dev.mode = .graze then s
    else outputStep s

def execOutputInstant (t : Nat) (s : State) : Host.Outcome State Fault Refusal := event true t outputInstant s

/-! ### Entry to SAFE (01 R34; 03 R105; 07 R254; 14 R495) -/

/-- SAFE_ENTRY: every output takes its substitute value. -/
def safeEntry (s : State) : State :=
  if ¬ s.dev.safeEntryDue then s
  else
    let s := s.modDev fun d => { d with safeEntryDue := false }
    let s := s.modCyc fun c => { c with committedNow := false, releaseNow := false }
    let s := (s.modGraph fun g => { g with inForce := [] }).modPair fun p => { p with quiet := false }
    let s := axisSafeEntry (setSubstitute true s)
    settleGraze (grazeToSafe (coSafe (if s.dev.safeCause = 1 then s else islandMainSafe s)))

def execSafeEntry (t : Nat) (s : State) : Host.Outcome State Fault Refusal := event true t safeEntry s

/-! ### DEV.CYCLE_CONFIG and DEV.CYCLE_STATUS (01 R46, R47) -/

/-- LATCHED ends on a device without an up-ring: the next committed image is applied (01 R27, R46; log 78). -/
def endLatched (s : State) : State :=
  if s.cyc.commit = .latched ∧ ¬ s.drove.cfg.upEn then s.modCyc fun c => { c with commit := .substitute, latchInForce := false } else s

/-- DEV.CYCLE_CONFIG (01 R46). -/
def cmdDevCycleConfig (p : Packet) (s : State) : State × Verdict :=
  let h := field (p.w 0) 0 4
  checked
    [(p.len ≠ 1, stBadLength), (h == 0 || reservedSet (p.w 0) 0xFFFFFFE0, stRange),
     (s.dev.mode ≠ .configure && s.dev.mode ≠ .ready && h ≠ s.cyc.holdBudget, stBadMode)] s
    (endLatched (s.modCyc fun c => { c with holdBudget := h, latchSubst := bit (p.w 0) 4 }), .done stOk [])

def execDevCycleConfig (p : Packet) (s : State) : Host.Outcome State Fault Refusal := command .devCycleConfig cmdDevCycleConfig p s

/-- The words of DEV.CYCLE_STATUS (01 R47). -/
def cycleStatusWords (s : State) : List Word :=
  [wd (baseCycle s), wd ((if hasCycle s then lDev s else 0) + place 16 (if s.drove.cfg.downEn then s.drove.cfg.mult else 0)),
   wd (if hasCycle s then inOffset s else 0),
   wd ((if s.boot.holdingOutputs then 0 else s.cyc.commit.num) + place 2 (flag s.cyc.unresolved) + place 8 s.cyc.miss + place 16 s.cyc.holdBudget),
   wd s.cyc.lastApplied, wd s.cyc.misses, wd s.cyc.lateOutputs, wd s.cyc.substEntries]

/-- DEV.CYCLE_STATUS (01 R47). -/
def cmdDevCycleStatus (p : Packet) (s : State) : State × Verdict :=
  checked [(p.len ≠ 0, stBadLength)] s (s, .done stOk (cycleStatusWords s))

def execDevCycleStatus (p : Packet) (s : State) : Host.Outcome State Fault Refusal := command .devCycleStatus cmdDevCycleStatus p s

end Sys2Proof.Machine
end

