-- ==== Sys2Proof/Machine/Bodies.lean ====
section
/-! DEFINITION. The own part of every packet command, by its place in the opcode index (02 R82). -/

namespace Sys2Proof.Machine

/-- What a command does once steps 1 to 9 of R69 have passed. -/
def bodyOf : Op → Packet → State → State × Verdict
  | .devIdentify => cmdDevIdentify
  | .devReset => cmdDevReset
  | .devResume => cmdDevResume
  | .devSetMode => cmdDevSetMode
  | .devSafeAck => cmdDevSafeAck
  | .devStatus => cmdDevStatus
  | .devResumeConfig => cmdDevResumeConfig
  | .devCycleConfig => cmdDevCycleConfig
  | .devCycleStatus => cmdDevCycleStatus
  | .devChangeover => cmdDevChangeover
  | .memRead => cmdMemRead
  | .memWrite => cmdMemWrite
  | .memFill => cmdMemFill
  | .memDma => cmdMemDma
  | .memScrubConfig => cmdMemScrubConfig
  | .memErrStatus => cmdMemErrStatus
  | .memFaultQueue => cmdMemFaultQueue
  | .pwrLatencySet => cmdPwrLatencySet
  | .pwrState => cmdPwrState
  | .pwrGrazeConfig => cmdPwrGrazeConfig
  | .pwrMonitorConfig => cmdPwrMonitorConfig
  | .pwrMonitorRead => cmdPwrMonitorRead
  | .pwrDomainRetry => cmdPwrDomainRetry
  | .graphLoad => cmdGraphLoad
  | .graphVerify => cmdGraphVerify
  | .graphArm => cmdGraphArm
  | .graphDisarm => cmdGraphDisarm
  | .graphControl => cmdGraphControl
  | .graphStep => cmdGraphStep
  | .graphForce => cmdGraphForce
  | .graphVarRead => cmdGraphVarRead
  | .graphVarWrite => cmdGraphVarWrite
  | .graphRollback => cmdGraphRollback
  | .graphStatus => cmdGraphStatus
  | .schedConfig => cmdSchedConfig
  | .schedCounters => cmdSchedCounters
  | .schedClearCounters => cmdSchedClearCounters
  | .schedStatus => cmdSchedStatus
  | .loopChannelConfig => cmdLoopChannelConfig
  | .loopCoefWrite => cmdLoopCoefWrite
  | .loopBankArm => cmdLoopBankArm
  | .loopBankSwap => cmdLoopBankSwap
  | .loopMode => cmdLoopMode
  | .loopStateRead => cmdLoopStateRead
  | .loopRepConfig => cmdLoopRepConfig
  | .loopRepControl => cmdLoopRepControl
  | .loopLatency => cmdLoopLatency
  | .axisConfig => cmdAxisConfig
  | .axisTableWrite => cmdAxisTableWrite
  | .axisStart => cmdAxisStart
  | .axisStop => cmdAxisStop
  | .axisStatus => cmdAxisStatus
  | .axisSetPosition => cmdAxisSetPosition
  | .axisStandstill => cmdAxisStandstill
  | .adcConfig => cmdAdcConfig
  | .adcTableWrite => cmdAdcTableWrite
  | .adcGroupConfig => cmdAdcGroupConfig
  | .adcUrgent => cmdAdcUrgent
  | .adcCalibrate => cmdAdcCalibrate
  | .adcCalRead => cmdAdcCalRead
  | .adcCalWrite => cmdAdcCalWrite
  | .adcStatus => cmdAdcStatus
  | .acqSignalConfig => cmdAcqSignalConfig
  | .acqStreamConfig => cmdAcqStreamConfig
  | .acqWindowConfig => cmdAcqWindowConfig
  | .acqTriggerConfig => cmdAcqTriggerConfig
  | .acqHistConfig => cmdAcqHistConfig
  | .acqPmapConfig => cmdAcqPmapConfig
  | .acqControl => cmdAcqControl
  | .acqStatus => cmdAcqStatus
  | .acqIndexRead => cmdAcqIndexRead
  | .ringConfig => cmdRingConfig
  | .ringScheduleWrite => cmdRingScheduleWrite
  | .ringModeArm => cmdRingModeArm
  | .ringStart => cmdRingStart
  | .ringStatus => cmdRingStatus
  | .ringCounters => cmdRingCounters
  | .ringSyncConfig => cmdRingSyncConfig
  | .ringTopology => cmdRingTopology
  | .canConfig => cmdCanConfig
  | .canFilterConfig => cmdCanFilterConfig
  | .canBufferConfig => cmdCanBufferConfig
  | .canTransmit => cmdCanTransmit
  | .canCancel => cmdCanCancel
  | .canStatus => cmdCanStatus
  | .canRecover => cmdCanRecover
  | .canCounterConfig => cmdCanCounterConfig
  | .timePortConfig => cmdTimePortConfig
  | .timePtpConfig => cmdTimePtpConfig
  | .timeDomainSelect => cmdTimeDomainSelect
  | .timeRead => cmdTimeRead
  | .timeTsQueueRead => cmdTimeTsQueueRead
  | .timeUdpConfig => cmdTimeUdpConfig
  | .timeStatus => cmdTimeStatus
  | .safeParamLoad => cmdSafeParamLoad
  | .safeSwitchRead => cmdSafeSwitchRead
  | .safeStatus => cmdSafeStatus
  | .safeStop => cmdSafeStop
  | .safeReset => cmdSafeReset
  | .safeDiagRead => cmdSafeDiagRead
  | .safeMemRead => cmdSafeMemRead
  | .pairConfig => cmdPairConfig
  | .pairStatus => cmdPairStatus
  | .pairHandover => cmdPairHandover
  | .pairCheckpointConfig => cmdPairCheckpointConfig
  | .pairStandbyCheck => cmdPairStandbyCheck
  | .tallyConfig => cmdTallyConfig
  | .tallyCursor => cmdTallyCursor
  | .tallyRead => cmdTallyRead
  | .tallyClear => cmdTallyClear
  | .tallyStatus => cmdTallyStatus
  | .dioInputConfig => cmdDioInputConfig
  | .dioOutputConfig => cmdDioOutputConfig
  | .dioPwmConfig => cmdDioPwmConfig
  | .dioEncConfig => cmdDioEncConfig
  | .dioRead => cmdDioRead
  | .dioWrite => cmdDioWrite
  | .dioStatus => cmdDioStatus
  | .hostRingCreate => cmdHostRingCreate
  | .hostRingDestroy => cmdHostRingDestroy
  | .hostEventRoute => cmdHostEventRoute

end Sys2Proof.Machine
end

