-- ==== Sys2Proof/Machine/Commands.lean ====
section
/-! DEFINITION. Packets on their way: taking them from rings, datagrams and CMD frames, the checks of the receiving device,
forwarding, timed and mirrored commands, and the end of the commands that run over time (02 R55–R77; 10 R365; 15 R537). -/

namespace Sys2Proof.Machine

/-! ### The packet as words (02 R67) -/

/-- Header word `i` of a packet, as a number. -/
def headWord (ws : List Word) (i : Nat) : Nat := (ws.getD i 0).toNat

/-- OPCODE. -/
def opcodeOf (ws : List Word) : Nat := field (headWord ws 0) 0 16

/-- LENGTH. -/
def lengthOf (ws : List Word) : Nat := field (headWord ws 2) 0 16

/-- HDR_VER is 0x01. -/
def versionOk (ws : List Word) : Bool := field (headWord ws 0) 24 8 == 1

/-- TARGET. -/
def targetOf (ws : List Word) : Nat := field (headWord ws 3) 0 20

/-- ORDERED. -/
def orderedBit (ws : List Word) : Bool := bit (headWord ws 0) 17

/-- FORWARD_ALL. -/
def forwardBit (ws : List Word) : Bool := bit (headWord ws 0) 19

/-- The packet that words spell. -/
def packetOf (o : Origin) (ws : List Word) (errs : List (Nat × MemErr)) : Packet :=
  { origin := o, errs := errs, reply := bit (headWord ws 0) 16, ordered := orderedBit ws
    atCycle := if bit (headWord ws 0) 18 then some (headWord ws 4) else none
    forwardAll := forwardBit ws, tag := ws.getD 1 0, target := targetOf ws, isLocal := bit (headWord ws 3) 31
    params := (List.range (lengthOf ws)).map fun i => ws.getD (5 + i) 0 }

/-- Step 3 of R69 fails: a reserved header bit, AT without AT_CYCLE, or TARGET with LOCAL. -/
def headerBad (ws : List Word) : Bool :=
  field (headWord ws 0) 20 4 != 0 || field (headWord ws 2) 16 16 != 0 || field (headWord ws 3) 20 11 != 0 ||
  (!bit (headWord ws 0) 18 && headWord ws 4 != 0) || (bit (headWord ws 3) 31 && targetOf ws != 0)

/-- The reply of a device that turns a packet away before its command is known (02 R68, R69; log 69). -/
def State.turnAway (s : State) (o : Origin) (ws : List Word) (status : Nat) : State :=
  s.sendReply o (ws.getD 1 0) [wd (opcodeOf ws + place 16 status), ws.getD 1 0, 0, wd s.drove.devAddr, wd (devCycle s)]

/-! ### Routing (02 R74–R77) -/

/-- The member field of tier `i`, 1 to 3. -/
def tierField (a i : Nat) : Nat := field a (18 - 6 * i) 6

/-- The member of this device on the path to target `t`, which lies below it; none where it does not (02 R74). -/
def hopTo (s : State) (t : Nat) : Option Nat :=
  let a := s.drove.devAddr
  let d := field a 18 2; let td := field t 18 2
  if td ≤ d then none
  else if ([1, 2, 3].all fun i => if i ≤ d then tierField t i == tierField a i else i ≤ td || tierField t i == 0)
  then some (tierField t (d + 1)) else none

/-- Member `m` can be sent commands: the down-ring is integrated, and so is the member, a UBR device (02 R74, 11 R418). -/
def reaches (s : State) (m : Nat) : Bool :=
  s.drove.cfg.downEn && s.drove.down.state == .integrated && (memberOf s m).integrated && (memberOf s m).ubr

/-- Command packets in the forwarding queue: those that no member has acknowledged (02 R75). -/
def queuedForward (s : State) : Nat := (s.drove.fwd.filter fun e => !e.acked).length

/-- The address `a` is `t` or lies below it (02 R74). -/
def underAddr (t a : Nat) : Bool :=
  let d := field t 18 2
  d ≤ field a 18 2 && [1, 2, 3].all fun i => d < i || tierField t i == tierField a i

/-- The devices at and below address `t`, as the topology table shows them (11 R423): those that answer a FORWARD_ALL packet. -/
def branchOf (s : State) (t : Nat) : List Nat :=
  (s.drove.topo.filter fun e => e.2.ubr && e.2.integrated && underAddr t e.1).map (·.1)

/-- Puts a packet for member `m` into the forwarding queue, or returns ST_BUSY (02 R75). -/
def State.forwardTo (s : State) (o : Origin) (ws : List Word) (m : Nat) (copy : Bool) : State :=
  if 64 ≤ queuedForward s then s.turnAway o ws stBusy
  else s.modDrove fun d => { d with
    fwdNext := d.fwdNext + 1
    fwd := d.fwd ++ [{ id := d.fwdNext, origin := o, words := ws, member := m, cycle := devCycle s, copy := copy
                       expect := if forwardBit ws then branchOf s (targetOf ws) else [] }] }

/-- The packet of a FORWARD_ALL command as it goes to member `m`: addressed to it. -/
def copyFor (s : State) (ws : List Word) (m : Nat) : List Word := setAt ws 3 (wd (memberAddr s m))

/-- The copies of a FORWARD_ALL packet to the members (02 R77). DEV.CHANGEOVER spreads by messages of its own (01 R41). -/
def State.forwardCopies (s : State) (o : Origin) (ws : List Word) : State :=
  if !forwardBit ws || opcodeOf ws == Op.code .devChangeover || silentHalf s then s
  else ((presentMembers s).filter (reaches s)).foldl (fun s m => s.forwardTo o (copyFor s ws m) m true) s

/-- Steps 5 to 10 of R69 on the executing device. -/
def State.deliver (s : State) (o : Origin) (ws : List Word) (errs : List (Nat × MemErr) := []) : State :=
  match Op.ofCode (opcodeOf ws) with
  | none => s.turnAway o ws stBadOpcode
  | some op => runCommand op (bodyOf op) (packetOf o ws errs) s

/-- Step 4 of R69: to the device itself, or down (02 R69, R74, R75). A half without the crook forwards nothing (15 R525). -/
def State.route (s : State) (o : Origin) (ws : List Word) (errs : List (Nat × MemErr) := []) : State :=
  if bit (headWord ws 3) 31 || targetOf ws == s.drove.devAddr then (s.forwardCopies o ws).deliver o ws errs
  else match (hopTo s (targetOf ws)).filter (reaches s) with
    | none => s.turnAway o ws stNoRoute
    | some m => if silentHalf s then s.turnAway o ws stLocked else s.forwardTo o ws m false

/-- A packet whose words have been taken whole: steps 1, 3 and 4 of R69. -/
def State.takePacket (s : State) (o : Origin) (ws : List Word) (errs : List (Nat × MemErr) := []) : State :=
  if !servesCommands s then s
  else if !versionOk ws then s.turnAway o ws stHdrVersion
  else if headerBad ws then s.turnAway o ws stRange
  else s.route o ws errs

/-! ### COMMAND rings (02 R60–R65, R70) -/

/-- The command came through COMMAND ring `n`. -/
def fromRing (o : Origin) (n : Nat) : Bool :=
  match o with
  | .ring m => m == n
  | .udp m _ _ _ => m == n
  | _ => false

/-- The packets of a DEV.CHANGEOVER and of a PAIR.HANDOVER that have not been answered. -/
def standing (s : State) : List Packet :=
  (match s.cyc.changeover with | some c => c.packet.toList | none => []) ++
  (match s.pair.giveUp with | some g => g.handover.toList | none => [])

/-- ORDERED of each command of ring `n` that is taken and not complete (02 R70). -/
def outstanding (s : State) (n : Nat) : List Bool :=
  ((s.host.deferred.filter fun d => fromRing d.packet.origin n).map fun d => d.packet.ordered) ++
  ((s.host.timed.filter fun d => fromRing d.packet.origin n).map fun d => d.packet.ordered) ++
  ((s.drove.fwd.filter fun e => fromRing e.origin n && !e.copy && !e.answered).map fun e => orderedBit e.words) ++
  ((standing s).filter fun p => fromRing p.origin n).map (·.ordered)

/-- The fence of R70 holds the next packet of ring `n` back. -/
def fenced (s : State) (n : Nat) (ordered : Bool) : Bool := (outstanding s n).any id || (ordered && !(outstanding s n).isEmpty)

/-- Word `i` of the packet at CONS of a ring in system memory. -/
def slotWord (s : State) (r : Ring) (i : Nat) : Word :=
  wd (readWord s (r.base + 4 * ((r.cons % r.size * 16 + i) % (r.size * 16))))

/-- The words of the packet at CONS: read from host memory over PCI Express, which the row carries, or from system memory. -/
def ringPacket (s : State) (r : Ring) (given : List Word) : List Word :=
  let len := if r.transport = 0 then lengthOf given else field (slotWord s r 2).toNat 0 16
  (List.range (5 + len)).map fun i => if r.transport = 0 then given.getD i 0 else slotWord s r i

/-- Where the packet at CONS came from. -/
def ringOrigin (s : State) (n : Nat) (r : Ring) : Origin :=
  match s.host.senders.find? fun e => e.ring == n && e.index == r.cons with
  | some e => .udp n e.via e.ip e.port
  | none => .ring n

/-- CONS moves past the packet and goes to SHADOW; the interrupt follows (02 R62, R63). -/
def consume (n slots : Nat) (s : State) : State :=
  let r := ringOf s n
  let cons := (r.cons + slots) % 2 ^ 32
  let s := s.modHost fun h => { h with senders := h.senders.filter fun e => !(e.ring == n && e.index == r.cons) }
  let s := s.modRing n fun r => { r with cons := cons }
  let s := if r.shadow = 0 then s else s.writeOut r.transport [(r.shadow, [wd cons])]
  ringIrq n s

/-- PACKET_TAKE (02 R62, R64, R65, R69, R70) from ring `n`: `given` are the words at CONS where they lie in host memory,
`errs` what the memory accesses of the command meet. -/
def packetTake (n : Nat) (given : List Word) (dma : Dma) (errs : List (Nat × MemErr)) (s : State) : State :=
  let r := ringOf s n
  if !servesCommands s ∨ r.kind ≠ 0 ∨ r.state ≠ .active ∨ r.destroying ∨ r.prod = r.cons then s
  else if lacksRoom s r.paired then s.modRing n fun r => { r with stalled := true }
  else
    let s := s.modRing n fun r => { r with stalled := false }
    let ws := ringPacket s r given
    let o := ringOrigin s n r
    let slots := slotsOf ws.length
    if dma = .failed ∧ r.transport = 0 then s.faultRing n 3
    else
      let s := if dma = .retried ∧ r.transport = 0 then s.recordOpen 16 0 0 true else s
      if 4092 < lengthOf ws ∨ r.size < slots then
        (s.faultRing n 2).turnAway o ws (if versionOk ws then stBadLength else stHdrVersion)
      else if r.occupied < slots ∨ fenced s n (orderedBit ws) then s
      else (consume n slots s).takePacket o ws errs

def execPacketTake (n : Nat) (given : List Word) (dma : Dma) (errs : List (Nat × MemErr)) (t : Nat) (s : State) :
    Host.Outcome State Fault Refusal :=
  event (n < 64) t (packetTake n given dma errs) s

/-! ### UDP (02 R55, R56; 13 R479) -/

/-- The words that the reply of a command can have, from its own parameters, where they can exceed 363 (02 R56). -/
def replyMost (ws : List Word) : Nat :=
  let w (i : Nat) : Nat := headWord ws (5 + i)
  match Op.ofCode (opcodeOf ws) with
  | some .memRead => field (w 1) 0 12
  | some .graphForce => if field (w 0) 0 2 = 3 then 1025 else 0
  | some .graphVarRead => 1 + 2 * field (w 2) 10 11
  | some .acqIndexRead => 6 * field (w 0) 16 12
  | some .ringTopology => 2 + 2 * field (w 1) 0 12
  | some .tallyRead => 2 + 8 * field (w 0) 0 9
  | _ => 0

/-- An address matches an allowed entry in its first PREFIX bits (13 R479). -/
def allowedSource (s : State) (ip : Nat) : Bool :=
  s.net.allow.any fun e => ip / 2 ^ (32 - e.2) == e.1 / 2 ^ (32 - e.2)

/-- Keeps the TAG of a packet: the last 64 of its ring (02 R56). -/
def State.keepTag (s : State) (k : KeptReply) : State :=
  s.modHost fun h =>
    let others := h.kept.filter (·.ring ≠ k.ring)
    let own := h.kept.filter (·.ring == k.ring) ++ [k]
    { h with kept := others ++ own.drop (own.length - 64) }

/-- Puts a packet into a UDP ring. -/
def State.intoRing (s : State) (n via ip port : Nat) (ws : List Word) : State :=
  let r := ringOf s n
  let s := s.writeOut 2 (slotPieces r.base r.size r.prod (padSlots ws))
  let s := s.modHost fun h => { h with senders := h.senders ++ [{ ring := n, index := r.prod, via := via, ip := ip, port := port }] }
  s.modRing n fun r => { r with prod := (r.prod + slotsOf ws.length) % 2 ^ 32 }

/-- One packet of a datagram (02 R56): a duplicate is answered again from the kept replies; a packet for which the ring has no
room is lost and counted nowhere (log 89). -/
def udpPacket (n via ip port : Nat) (ws : List Word) (s : State) : State :=
  let r := ringOf s n
  let tag := ws.getD 1 0
  match s.host.kept.find? fun k => k.ring == n && k.ip == ip && k.port == port && k.tag == tag with
  | some k => k.replies.foldl (fun s ws => s.sendUdp via ip port ws) s
  | none =>
    let kept := s.keepTag { ring := n, ip := ip, port := port, tag := tag, replies := [] }
    if versionOk ws ∧ 363 < replyMost ws then kept.turnAway (.udp n via ip port) ws stBadLength
    else if r.size - r.occupied < slotsOf ws.length then s
    else kept.intoRing n via ip port ws

/-- The packets of a payload in order; one that overruns its end returns ST_BAD_LENGTH, whatever its
HDR_VER (log 128), and the rest is discarded (02 R55). -/
def udpPayload (n via ip port : Nat) : Nat → List Word → State → State
  | 0, _, s => s
  | fuel + 1, ws, s =>
    if ws.isEmpty then s
    else if ws.length < 5 ∨ ws.length < 5 + lengthOf ws then s.turnAway (.udp n via ip port) ws stBadLength
    else udpPayload n via ip port fuel (ws.drop (5 + lengthOf ws)) (udpPacket n via ip port (ws.take (5 + lengthOf ws)) s)

/-- UDP_DATAGRAM (02 R55): a datagram for UDP ring `n` arrives at Ethernet port `via`; `whole`: not fragmented. -/
def udpDatagram (n via ip port : Nat) (whole : Bool) (ws : List Word) (s : State) : State :=
  let r := ringOf s n
  if s.boot.phase ≠ .running ∨ ¬ (portOf s via).enable ∨ ¬ (portOf s via).linkUp then s
  else if !whole || 368 < ws.length || !s.net.udpEnabled || !bit s.net.udpPorts via || !allowedSource s ip then
    s.modNet fun u => { u with framesDropped := sat32 u.framesDropped }
  else if r.kind ≠ 0 ∨ r.transport ≠ 2 ∨ r.state ≠ .active then s
  else udpPayload n via ip port ws.length ws s

def execUdpDatagram (n via ip port : Nat) (whole : Bool) (ws : List Word) (t : Nat) (s : State) : Host.Outcome State Fault Refusal :=
  event (n < 64 && via < 2) t (udpDatagram n via ip port whole ws) s

/-- ARP_REQUEST (02 R55, 13 R460): the device answers for its own address. -/
def arpRequest (via ip : Nat) (s : State) : State :=
  let e := portOf s via
  if s.boot.phase = .running ∧ e.enable ∧ e.linkUp ∧ e.mac ≠ 0 ∧ e.ipv4 ≠ 0 ∧ e.ipv4 = ip then s.emit (.arpReply ip e.mac) else s

def execArpRequest (via ip t : Nat) (s : State) : Host.Outcome State Fault Refusal := event (via < 2) t (arpRequest via ip) s

/-! ### Timed commands (02 R72, R73) -/

/-- A timed command is due: its cycle is that of the device cycle in progress, or between this and the one before. -/
def timedDue (s : State) (d : Timed) : Bool := 0 ≤ cycDiff (devCycle s) d.cycle

/-- Executes the timed commands of a list in order of receipt. -/
def runTimed (l : List Timed) (s : State) : State := l.foldl (fun s d => execute d.op (bodyOf d.op) d.packet s) s

/-- TIMED_COMMAND (02 R72, R73): at the start of a device cycle, after its changeover. -/
def timedCommand (s : State) : State :=
  if !servesCommands s ∨ ¬ hasCycle s ∨ s.cyc.startOf ≠ some (cycleTick s) then s
  else
    let due := s.host.timed.filter (timedDue s)
    runTimed due (s.modHost fun h => { h with timed := h.timed.filter fun d => !timedDue s d })

def execTimedCommand (t : Nat) (s : State) : Host.Outcome State Fault Refusal := event true t timedCommand s

/-! ### Forwarding (02 R75–R77) -/

/-- FORWARD (02 R75): the oldest packet of the queue that was received in an earlier cycle goes into CMD frames. -/
def forward (s : State) : State :=
  if silentHalf s then s
  else match extractFirst (fun e => !e.sent && 0 < cycDiff (devCycle s) e.cycle) s.drove.fwd with
    | none => s
    | some (e, _) =>
      (s.modDrove fun d => { d with fwd := d.fwd.map fun g => if g.id = e.id then { g with sent := true } else g }).toMember
        e.member { kind := 0, words := e.words, ref := e.id }

def execForward (t : Nat) (s : State) : Host.Outcome State Fault Refusal := event true t forward s

/-- The acknowledgement of a packet that was sent whole in ring cycle `c` is missing (02 R75): the cycle after it has ended. -/
def ackMissing (s : State) (c : Nat) : Bool := 0 < cycDiff (ringCycleNo s true) (ringCycleAfter s true c 1)

/-- A command packet sent to a member and not acknowledged in time; `again` tells whether it had been sent once more. -/
def unanswered (s : State) (again : Bool) (e : SentPacket) : Bool :=
  e.packet.kind == 0 && !e.given && e.resent == again && (match e.sentCycle with | some c => ackMissing s c | none => false)

/-- The forwarded packet that a sent packet carries. -/
def Forwarded.carried (m : Nat) (e : SentPacket) (g : Forwarded) : Bool := g.member == m && g.sent && !g.acked && g.id == e.packet.ref

/-- Sends the packets to member `m` again from the first whose acknowledgement is missing (02 R75, 10 R365). -/
def resendTo (s : State) (m : Nat) : State :=
  match (memberOf s m).peer.sent.find? (unanswered s false) with
  | none => s
  | some e =>
    let again (g : SentPacket) : Bool := g.sentCycle.isSome && !g.resent && seqLe e.seq g.seq
    let sent := (memberOf s m).peer.sent
    let s := s.modMember m fun k => { k with peer := { k.peer with
      sent := k.peer.sent.map fun g => if again g then { g with sentWords := 0, frag := 0, sentCycle := none, resent := true } else g } }
    s.modDrove fun d => { d with
      fwd := d.fwd.map fun g => if sent.any (fun e => again e && g.carried m e) then { g with retried := true } else g }

/-- COMMAND_RESEND (02 R75). -/
def commandResend (s : State) : State := (s.drove.members.map (·.1)).foldl resendTo s

def execCommandResend (t : Nat) (s : State) : Host.Outcome State Fault Refusal := event true t commandResend s

/-- Gives up the packets to member `m` that were sent twice (02 R75): the manager answers ST_TIMEOUT. The exchange with the member
goes on (10 R365; log 94). -/
def giveUpTo (s : State) (m : Nat) : State :=
  let lost := (memberOf s m).peer.sent.filter (unanswered s true)
  let ends (g : Forwarded) : Bool := lost.any fun e => g.carried m e
  let out := s.drove.fwd.filter ends
  let s := s.modMember m fun k => { k with peer := { k.peer with
    sent := k.peer.sent.map fun e => if lost.contains e then { e with given := true } else e } }
  let s := s.modDrove fun d => { d with fwd := d.fwd.filter fun g => !ends g }
  out.foldl (fun s g => s.turnAway g.origin g.words stTimeout) s

/-- ST_TIMEOUT (02 R75). -/
def stTimeoutEvent (s : State) : State := (s.drove.members.map (·.1)).foldl giveUpTo s

def execStTimeout (t : Nat) (s : State) : Host.Outcome State Fault Refusal := event true t stTimeoutEvent s

/-- A member acknowledged a forwarded packet; one sent once more was a transient fault (02 R75, 16 R562). -/
def ackForward (m : Nat) (p : CmdPacket) (s : State) : State :=
  match s.drove.fwd.find? fun g => g.member == m && g.sent && !g.acked && g.id == p.ref with
  | none => s
  | some e =>
    let s := s.modDrove fun d => { d with fwd := d.fwd.map fun g => if g.id = e.id then { g with acked := true } else g }
    if e.retried then s.recordOpen 9 52 0 true else s

/-- The forwarded packet that a reply or notice from member `m` answers: the oldest of its opcode and TAG that expects an answer of
its source. -/
def Forwarded.answeredBy (m : Nat) (ws : List Word) (g : Forwarded) : Bool :=
  let source := field (headWord ws 3) 0 20
  g.member == m && g.sent && opcodeOf g.words == opcodeOf ws && g.words.getD 1 0 == ws.getD 1 0 &&
  (if forwardBit g.words then g.expect.contains source || (targetOf g.words == source && !g.answered) else targetOf g.words == source)

/-- A reply (KIND 1) or completion notice (KIND 2) from member `m` goes on toward the origin of its command (02 R75–R77). An
entry of a FORWARD_ALL packet stays until every device of the branch has answered. -/
def relay (m : Nat) (kind : Nat) (ws : List Word) (s : State) : State :=
  match s.drove.fwd.find? (Forwarded.answeredBy m ws) with
  | none => s
  | some e =>
    let ws' := if e.retried ∧ field (headWord ws 0) 16 16 = stOk then setAt ws 0 (wd (opcodeOf ws + place 16 stOkRetried)) else ws
    let source := field (headWord ws 3) 0 20
    let left : Forwarded := { e with answered := e.answered || targetOf e.words == source, expect := e.expect.filter (· ≠ source) }
    let done := left.expect.isEmpty && left.answered
    let s := s.modDrove fun d => { d with
      fwd := if done then d.fwd.filter (·.id ≠ e.id) else d.fwd.map fun g => if g.id = e.id then left else g }
    if kind = 1 then s.sendReply e.origin (ws.getD 1 0) ws'
    else match e.origin with
      | .above => s.modDrove fun d => { d with upOut := d.upOut ++ [{ kind := 2, words := ws' }] }
      | _ => s

/-! ### CMD frames (10 R365) -/

/-- An event from below: to the EVENT rings that take the subtree's, and further up (02 R86). -/
def relayEvent (ws : List Word) (s : State) : State :=
  let s := copyEvents (field (headWord ws 0) 8 5) (field (headWord ws 0) 0 2) (headWord ws 8) true (ws.take 8) s
  if s.drove.cfg.upEn ∧ integrated s then s.modDrove fun d => { d with upOut := d.upOut ++ [{ kind := 3, words := ws }] } else s

/-- A packet that CMD frames have delivered, from the manager above (`none`) or a member. -/
def cmdPacket (src : Option Nat) (p : CmdPacket) (s : State) : State :=
  match p.kind, src with
  | 0, none =>
    if silentHalf s then s
    else if p.words.length < 5 ∨ p.words.length ≠ 5 + lengthOf p.words then s.turnAway .above p.words stBadLength
    else s.takePacket .above p.words
  | 1, some m => relay m 1 p.words s
  | 2, some m => relay m 2 p.words s
  | 3, some _ => relayEvent p.words s
  | 4, _ => (match coMsgOf p.words with | some msg => changeoverMessage src msg s | none => s)
  | 5, none => s.takeMode p.words
  | 7, none =>
    (match field (headWord p.words 0) 0 4 with
    | 0 => s.takeAddress (field (headWord p.words 1) 0 20)
    | 2 => takeTimeMap p.words s
    | _ => s)
  | 7, some _ => if field (headWord p.words 0) 0 4 = 1 then takeTopology p.words s else s
  | _, _ => s

/-- CMD_FRAME (10 R365): acknowledgements, then the packets in PKT_SEQ order. -/
def cmdFrame (f : Frame) (s : State) : State :=
  match s.cmdFrameIn f with
  | (s, none) => s
  | (s, some c) =>
    let s := match c.src with
      | some m => (c.acked.filter (·.kind == 0)).foldl (fun s p => ackForward m p s) s
      | none => s
    (c.packets.foldl (fun s p => cmdPacket c.src p s) s).pollSchedule

def execCmdFrame (f : Frame) (t : Nat) (s : State) : Host.Outcome State Fault Refusal := event true t (cmdFrame f) s

/-! ### Mirrored commands (15 R537) -/

/-- The standby refused a mirrored command: it enters SYNCING, with a Tally record of severity DEGRADE. -/
def mirrorRefused (s : State) : State := s.fallBehind.recordOpen 13 41 1

/-- A mirrored command on the standby: refused or executed. -/
def executeMirrored (op : Op) (p : Packet) (s : State) : State :=
  if unitFailed s op then mirrorRefused s
  else match bodyOf op p s with
    | (t, .done st _) => if st = stOk ∨ st = stOkRetried then t.recordConfig op st else mirrorRefused s
    | (t, .waits) => t.recordConfig op stOk

/-- MIRRORED_COMMAND: `ws` as the active half sent them, opcode, TAG and parameters. -/
def mirroredCommand (ws : List Word) (s : State) : State :=
  if s.boot.phase ≠ .running ∨ s.pair.role ≠ .standby then s
  else match Op.ofCode (headWord ws 0) with
    | some op => executeMirrored op { origin := .mirror, tag := ws.getD 1 0, params := ws.drop 2 } s
    | none => mirrorRefused s

def execMirroredCommand (ws : List Word) (t : Nat) (s : State) : Host.Outcome State Fault Refusal :=
  event true t (mirroredCommand ws) s

/-! ### Commands that run over time (04 R145, 14 R510, 16 R575, R576) -/

/-- How a command that runs over time ends: state, status and words; none where another row ends it. -/
def finish (d : Deferred) (dma : Dma) (passing : Nat) (s : State) : Option (State × Nat × List Word) :=
  match d.op with
  | .graphVerify => some (verifyFinish d s)
  | .memFill => let q := fillFinish d.packet s; some (q.1, q.2, [])
  | .memDma => some (dmaFinish d.packet dma s)
  | .safeParamLoad | .safeSwitchRead | .safeStatus | .safeStop | .safeReset | .safeDiagRead | .safeMemRead => some (safeFinish d passing dma s)
  | _ => none

/-- COMMAND_COMPLETE: the `i`-th command that was accepted and not answered finishes, and its reply goes out. -/
def commandComplete (i : Nat) (dma : Dma) (passing : Nat) (s : State) : State :=
  match s.host.deferred[i]? with
  | none => s
  | some d =>
    match finish d dma passing s with
    | none => s
    | some (t, st, ws) => (t.modHost fun h => { h with deferred := h.deferred.eraseIdx i }).answer d.op d.packet st ws

def execCommandComplete (i : Nat) (dma : Dma) (passing t : Nat) (s : State) : Host.Outcome State Fault Refusal :=
  event true t (commandComplete i dma passing) s

end Sys2Proof.Machine
end

