-- ==== Sys2Proof/Machine/Dispatch.lean ====
section
/-! DEFINITION. What each command does to everything but the queue: one arm for each constructor. -/

namespace Sys2Proof.Machine

def exec (i : Instr) (s : State) : Host.Outcome State Fault Refusal :=
  match i with
  | .devIdentify p => Sys2Proof.Machine.execDevIdentify p s
  | .devReset p => Sys2Proof.Machine.execDevReset p s
  | .devResume p => Sys2Proof.Machine.execDevResume p s
  | .devSetMode p => Sys2Proof.Machine.execDevSetMode p s
  | .devSafeAck p => Sys2Proof.Machine.execDevSafeAck p s
  | .devStatus p => Sys2Proof.Machine.execDevStatus p s
  | .devResumeConfig p => Sys2Proof.Machine.execDevResumeConfig p s
  | .devCycleConfig p => Sys2Proof.Machine.execDevCycleConfig p s
  | .devCycleStatus p => Sys2Proof.Machine.execDevCycleStatus p s
  | .devChangeover p => Sys2Proof.Machine.execDevChangeover p s
  | .memRead p => Sys2Proof.Machine.execMemRead p s
  | .memWrite p => Sys2Proof.Machine.execMemWrite p s
  | .memFill p => Sys2Proof.Machine.execMemFill p s
  | .memDma p => Sys2Proof.Machine.execMemDma p s
  | .memScrubConfig p => Sys2Proof.Machine.execMemScrubConfig p s
  | .memErrStatus p => Sys2Proof.Machine.execMemErrStatus p s
  | .memFaultQueue p => Sys2Proof.Machine.execMemFaultQueue p s
  | .pwrLatencySet p => Sys2Proof.Machine.execPwrLatencySet p s
  | .pwrState p => Sys2Proof.Machine.execPwrState p s
  | .pwrGrazeConfig p => Sys2Proof.Machine.execPwrGrazeConfig p s
  | .pwrMonitorConfig p => Sys2Proof.Machine.execPwrMonitorConfig p s
  | .pwrMonitorRead p => Sys2Proof.Machine.execPwrMonitorRead p s
  | .pwrDomainRetry p => Sys2Proof.Machine.execPwrDomainRetry p s
  | .graphLoad p => Sys2Proof.Machine.execGraphLoad p s
  | .graphVerify p => Sys2Proof.Machine.execGraphVerify p s
  | .graphArm p => Sys2Proof.Machine.execGraphArm p s
  | .graphDisarm p => Sys2Proof.Machine.execGraphDisarm p s
  | .graphControl p => Sys2Proof.Machine.execGraphControl p s
  | .graphStep p => Sys2Proof.Machine.execGraphStep p s
  | .graphForce p => Sys2Proof.Machine.execGraphForce p s
  | .graphVarRead p => Sys2Proof.Machine.execGraphVarRead p s
  | .graphVarWrite p => Sys2Proof.Machine.execGraphVarWrite p s
  | .graphRollback p => Sys2Proof.Machine.execGraphRollback p s
  | .graphStatus p => Sys2Proof.Machine.execGraphStatus p s
  | .schedConfig p => Sys2Proof.Machine.execSchedConfig p s
  | .schedCounters p => Sys2Proof.Machine.execSchedCounters p s
  | .schedClearCounters p => Sys2Proof.Machine.execSchedClearCounters p s
  | .schedStatus p => Sys2Proof.Machine.execSchedStatus p s
  | .loopChannelConfig p => Sys2Proof.Machine.execLoopChannelConfig p s
  | .loopCoefWrite p => Sys2Proof.Machine.execLoopCoefWrite p s
  | .loopBankArm p => Sys2Proof.Machine.execLoopBankArm p s
  | .loopBankSwap p => Sys2Proof.Machine.execLoopBankSwap p s
  | .loopMode p => Sys2Proof.Machine.execLoopMode p s
  | .loopStateRead p => Sys2Proof.Machine.execLoopStateRead p s
  | .loopRepConfig p => Sys2Proof.Machine.execLoopRepConfig p s
  | .loopRepControl p => Sys2Proof.Machine.execLoopRepControl p s
  | .loopLatency p => Sys2Proof.Machine.execLoopLatency p s
  | .axisConfig p => Sys2Proof.Machine.execAxisConfig p s
  | .axisTableWrite p => Sys2Proof.Machine.execAxisTableWrite p s
  | .axisStart p => Sys2Proof.Machine.execAxisStart p s
  | .axisStop p => Sys2Proof.Machine.execAxisStop p s
  | .axisStatus p => Sys2Proof.Machine.execAxisStatus p s
  | .axisSetPosition p => Sys2Proof.Machine.execAxisSetPosition p s
  | .axisStandstill p => Sys2Proof.Machine.execAxisStandstill p s
  | .adcConfig p => Sys2Proof.Machine.execAdcConfig p s
  | .adcTableWrite p => Sys2Proof.Machine.execAdcTableWrite p s
  | .adcGroupConfig p => Sys2Proof.Machine.execAdcGroupConfig p s
  | .adcUrgent p => Sys2Proof.Machine.execAdcUrgent p s
  | .adcCalibrate p => Sys2Proof.Machine.execAdcCalibrate p s
  | .adcCalRead p => Sys2Proof.Machine.execAdcCalRead p s
  | .adcCalWrite p => Sys2Proof.Machine.execAdcCalWrite p s
  | .adcStatus p => Sys2Proof.Machine.execAdcStatus p s
  | .acqSignalConfig p => Sys2Proof.Machine.execAcqSignalConfig p s
  | .acqStreamConfig p => Sys2Proof.Machine.execAcqStreamConfig p s
  | .acqWindowConfig p => Sys2Proof.Machine.execAcqWindowConfig p s
  | .acqTriggerConfig p => Sys2Proof.Machine.execAcqTriggerConfig p s
  | .acqHistConfig p => Sys2Proof.Machine.execAcqHistConfig p s
  | .acqPmapConfig p => Sys2Proof.Machine.execAcqPmapConfig p s
  | .acqControl p => Sys2Proof.Machine.execAcqControl p s
  | .acqStatus p => Sys2Proof.Machine.execAcqStatus p s
  | .acqIndexRead p => Sys2Proof.Machine.execAcqIndexRead p s
  | .ringConfig p => Sys2Proof.Machine.execRingConfig p s
  | .ringScheduleWrite p => Sys2Proof.Machine.execRingScheduleWrite p s
  | .ringModeArm p => Sys2Proof.Machine.execRingModeArm p s
  | .ringStart p => Sys2Proof.Machine.execRingStart p s
  | .ringStatus p => Sys2Proof.Machine.execRingStatus p s
  | .ringCounters p => Sys2Proof.Machine.execRingCounters p s
  | .ringSyncConfig p => Sys2Proof.Machine.execRingSyncConfig p s
  | .ringTopology p => Sys2Proof.Machine.execRingTopology p s
  | .canConfig p => Sys2Proof.Machine.execCanConfig p s
  | .canFilterConfig p => Sys2Proof.Machine.execCanFilterConfig p s
  | .canBufferConfig p => Sys2Proof.Machine.execCanBufferConfig p s
  | .canTransmit p => Sys2Proof.Machine.execCanTransmit p s
  | .canCancel p => Sys2Proof.Machine.execCanCancel p s
  | .canStatus p => Sys2Proof.Machine.execCanStatus p s
  | .canRecover p => Sys2Proof.Machine.execCanRecover p s
  | .canCounterConfig p => Sys2Proof.Machine.execCanCounterConfig p s
  | .timePortConfig p => Sys2Proof.Machine.execTimePortConfig p s
  | .timePtpConfig p => Sys2Proof.Machine.execTimePtpConfig p s
  | .timeDomainSelect p => Sys2Proof.Machine.execTimeDomainSelect p s
  | .timeRead p => Sys2Proof.Machine.execTimeRead p s
  | .timeTsQueueRead p => Sys2Proof.Machine.execTimeTsQueueRead p s
  | .timeUdpConfig p => Sys2Proof.Machine.execTimeUdpConfig p s
  | .timeStatus p => Sys2Proof.Machine.execTimeStatus p s
  | .safeParamLoad p => Sys2Proof.Machine.execSafeParamLoad p s
  | .safeSwitchRead p => Sys2Proof.Machine.execSafeSwitchRead p s
  | .safeStatus p => Sys2Proof.Machine.execSafeStatus p s
  | .safeStop p => Sys2Proof.Machine.execSafeStop p s
  | .safeReset p => Sys2Proof.Machine.execSafeReset p s
  | .safeDiagRead p => Sys2Proof.Machine.execSafeDiagRead p s
  | .safeMemRead p => Sys2Proof.Machine.execSafeMemRead p s
  | .pairConfig p => Sys2Proof.Machine.execPairConfig p s
  | .pairStatus p => Sys2Proof.Machine.execPairStatus p s
  | .pairHandover p => Sys2Proof.Machine.execPairHandover p s
  | .pairCheckpointConfig p => Sys2Proof.Machine.execPairCheckpointConfig p s
  | .pairStandbyCheck p => Sys2Proof.Machine.execPairStandbyCheck p s
  | .tallyConfig p => Sys2Proof.Machine.execTallyConfig p s
  | .tallyCursor p => Sys2Proof.Machine.execTallyCursor p s
  | .tallyRead p => Sys2Proof.Machine.execTallyRead p s
  | .tallyClear p => Sys2Proof.Machine.execTallyClear p s
  | .tallyStatus p => Sys2Proof.Machine.execTallyStatus p s
  | .dioInputConfig p => Sys2Proof.Machine.execDioInputConfig p s
  | .dioOutputConfig p => Sys2Proof.Machine.execDioOutputConfig p s
  | .dioPwmConfig p => Sys2Proof.Machine.execDioPwmConfig p s
  | .dioEncConfig p => Sys2Proof.Machine.execDioEncConfig p s
  | .dioRead p => Sys2Proof.Machine.execDioRead p s
  | .dioWrite p => Sys2Proof.Machine.execDioWrite p s
  | .dioStatus p => Sys2Proof.Machine.execDioStatus p s
  | .hostRingCreate p => Sys2Proof.Machine.execHostRingCreate p s
  | .hostRingDestroy p => Sys2Proof.Machine.execHostRingDestroy p s
  | .hostEventRoute p => Sys2Proof.Machine.execHostEventRoute p s
  | .prodDoorbell n v t => Sys2Proof.Machine.execProdDoorbell n v t s
  | .consDoorbell n v t => Sys2Proof.Machine.execConsDoorbell n v t s
  | .enable n en t => Sys2Proof.Machine.execEnable n en t s
  | .ringReset n t => Sys2Proof.Machine.execRingReset n t s
  | .hostErrClear mask t => Sys2Proof.Machine.execHostErrClear mask t s
  | .droppedRepliesRead t => Sys2Proof.Machine.execDroppedRepliesRead t s
  | .hpPendingClear c mask t => Sys2Proof.Machine.execHpPendingClear c mask t s
  | .bufferLock c b t => Sys2Proof.Machine.execBufferLock c b t s
  | .bufferRelease c b t => Sys2Proof.Machine.execBufferRelease c b t s
  | .resultRead n initiator t => Sys2Proof.Machine.execResultRead n initiator t s
  | .cursorWrite v t => Sys2Proof.Machine.execCursorWrite v t s
  | .windowRead t => Sys2Proof.Machine.execWindowRead t s
  | .bitSetWrite a n m t => Sys2Proof.Machine.execBitSetWrite a n m t s
  | .bitClearWrite a n m t => Sys2Proof.Machine.execBitClearWrite a n m t s
  | .registerWrite a x t => Sys2Proof.Machine.execRegisterWrite a x t s
  | .memoryAccess x t => Sys2Proof.Machine.execMemoryAccess x t s
  | .configurationRequest offset t => Sys2Proof.Machine.execConfigurationRequest offset t s
  | .qspiTransaction instr a ws count t => Sys2Proof.Machine.execQspiTransaction instr a ws count t s
  | .udpDatagram n via ip port whole ws t => Sys2Proof.Machine.execUdpDatagram n via ip port whole ws t s
  | .arpRequest via ip t => Sys2Proof.Machine.execArpRequest via ip t s
  | .hostInterfaceReset t => Sys2Proof.Machine.execHostInterfaceReset t s
  | .packetTake n given dma errs t => Sys2Proof.Machine.execPacketTake n given dma errs t s
  | .replyWrite n dma t => Sys2Proof.Machine.execReplyWrite n dma t s
  | .holdoffExpiry n t => Sys2Proof.Machine.execHoldoffExpiry n t s
  | .timedCommand t => Sys2Proof.Machine.execTimedCommand t s
  | .forward t => Sys2Proof.Machine.execForward t s
  | .commandResend t => Sys2Proof.Machine.execCommandResend t s
  | .stTimeout t => Sys2Proof.Machine.execStTimeout t s
  | .coldPowerUp t => Sys2Proof.Machine.execColdPowerUp t s
  | .t1 t => Sys2Proof.Machine.execT1 t s
  | .pllLock t => Sys2Proof.Machine.execPllLock t s
  | .fuseRead sel first second t => Sys2Proof.Machine.execFuseRead sel first second t s
  | .memoryClearing t => Sys2Proof.Machine.execMemoryClearing t s
  | .configureReached t => Sys2Proof.Machine.execConfigureReached t s
  | .pciePerstRelease t => Sys2Proof.Machine.execPciePerstRelease t s
  | .resetNAssert t => Sys2Proof.Machine.execResetNAssert t s
  | .resetNRelease t => Sys2Proof.Machine.execResetNRelease t s
  | .watchdogExpiry t => Sys2Proof.Machine.execWatchdogExpiry t s
  | .warmResetStart t => Sys2Proof.Machine.execWarmResetStart t s
  | .logicRelease t => Sys2Proof.Machine.execLogicRelease t s
  | .configurationReplay record image t => Sys2Proof.Machine.execConfigurationReplay record image t s
  | .resumeWindowClose t => Sys2Proof.Machine.execResumeWindowClose t s
  | .resume t => Sys2Proof.Machine.execResume t s
  | .supplyLoss n t => Sys2Proof.Machine.execSupplyLoss n t s
  | .islandStart t => Sys2Proof.Machine.execIslandStart t s
  | .selfTestDone a b t => Sys2Proof.Machine.execSelfTestDone a b t s
  | .cycleStart t => Sys2Proof.Machine.execCycleStart t s
  | .inputInstant t => Sys2Proof.Machine.execInputInstant t s
  | .inputReady t => Sys2Proof.Machine.execInputReady t s
  | .commitPoint t => Sys2Proof.Machine.execCommitPoint t s
  | .outputInstant t => Sys2Proof.Machine.execOutputInstant t s
  | .safeEntry t => Sys2Proof.Machine.execSafeEntry t s
  | .changeoverMessage src m t => Sys2Proof.Machine.execChangeoverMessage src m t s
  | .changeoverReport t => Sys2Proof.Machine.execChangeoverReport t s
  | .changeoverDecide t => Sys2Proof.Machine.execChangeoverDecide t s
  | .coUnresolved t => Sys2Proof.Machine.execCoUnresolved t s
  | .operationComplete c t => Sys2Proof.Machine.execOperationComplete c t s
  | .operationStart c miss t => Sys2Proof.Machine.execOperationStart c miss t s
  | .take c t => Sys2Proof.Machine.execTake c t s
  | .tokenSpill c t => Sys2Proof.Machine.execTokenSpill c t s
  | .delayRelease n t => Sys2Proof.Machine.execDelayRelease n t s
  | .shed n t => Sys2Proof.Machine.execShed n t s
  | .urgentComplete c t => Sys2Proof.Machine.execUrgentComplete c t s
  | .sampleTick c t => Sys2Proof.Machine.execSampleTick c t s
  | .evaluation p t => Sys2Proof.Machine.execEvaluation p t s
  | .resampling p t => Sys2Proof.Machine.execResampling p t s
  | .tick t => Sys2Proof.Machine.execTick t s
  | .stepPulse a t => Sys2Proof.Machine.execStepPulse a t s
  | .dirChange a t => Sys2Proof.Machine.execDirChange a t s
  | .standstill n t => Sys2Proof.Machine.execStandstill n t s
  | .ss1Request pair t => Sys2Proof.Machine.execSs1Request pair t s
  | .latchEvent n t => Sys2Proof.Machine.execLatchEvent n t s
  | .conversionComplete c raw good instant t => Sys2Proof.Machine.execConversionComplete c raw good instant t s
  | .groupTrigger g t => Sys2Proof.Machine.execGroupTrigger g t s
  | .calibrationDone c t => Sys2Proof.Machine.execCalibrationDone c t s
  | .inputEdge n level t => Sys2Proof.Machine.execInputEdge n level t s
  | .stuck n t => Sys2Proof.Machine.execStuck n t s
  | .readback n level t => Sys2Proof.Machine.execReadback n level t s
  | .doutFault n level t => Sys2Proof.Machine.execDoutFault n level t s
  | .pwmPeriodStart n t => Sys2Proof.Machine.execPwmPeriodStart n t s
  | .encoderCount n a b t => Sys2Proof.Machine.execEncoderCount n a b t s
  | .publication t => Sys2Proof.Machine.execPublication t s
  | .intervalClose c dma t => Sys2Proof.Machine.execIntervalClose c dma t s
  | .recordCopy c dma t => Sys2Proof.Machine.execRecordCopy c dma t s
  | .timeSet t => Sys2Proof.Machine.execTimeSet t s
  | .decay m t => Sys2Proof.Machine.execDecay m t s
  | .syncFrame f t => Sys2Proof.Machine.execSyncFrame f t s
  | .dataFrame f t => Sys2Proof.Machine.execDataFrame f t s
  | .cmdFrame f t => Sys2Proof.Machine.execCmdFrame f t s
  | .modeFrame f t => Sys2Proof.Machine.execModeFrame f t s
  | .joinFrame f t => Sys2Proof.Machine.execJoinFrame f t s
  | .slotStart down k t => Sys2Proof.Machine.execSlotStart down k t s
  | .beacon b t => Sys2Proof.Machine.execBeacon b t s
  | .delayReq t => Sys2Proof.Machine.execDelayReq t s
  | .linkDown port t => Sys2Proof.Machine.execLinkDown port t s
  | .linkUp port t => Sys2Proof.Machine.execLinkUp port t s
  | .syncStep t => Sys2Proof.Machine.execSyncStep t s
  | .listenTimeout down t => Sys2Proof.Machine.execListenTimeout down t s
  | .backoffEnd down t => Sys2Proof.Machine.execBackoffEnd down t s
  | .bypassInsert t => Sys2Proof.Machine.execBypassInsert t s
  | .timeMap t => Sys2Proof.Machine.execTimeMap t s
  | .canRxFrame c f sof t => Sys2Proof.Machine.execCanRxFrame c f sof t s
  | .canTxComplete c b sof tdc t => Sys2Proof.Machine.execCanTxComplete c b sof tdc t s
  | .canError c e t => Sys2Proof.Machine.execCanError c e t s
  | .txTime c b t => Sys2Proof.Machine.execTxTime c b t s
  | .recovering c t => Sys2Proof.Machine.execRecovering c t s
  | .lockTimeouts c b t => Sys2Proof.Machine.execLockTimeouts c b t s
  | .ptpMessage port m stamp t => Sys2Proof.Machine.execPtpMessage port m stamp t s
  | .syncMessage port m stamp t => Sys2Proof.Machine.execSyncMessage port m stamp t s
  | .followUp port m t => Sys2Proof.Machine.execFollowUp port m t s
  | .holdover k t => Sys2Proof.Machine.execHoldover k t s
  | .portLinkChange n up t => Sys2Proof.Machine.execPortLinkChange n up t s
  | .demand ch t => Sys2Proof.Machine.execDemand ch t s
  | .testPulse ch good t => Sys2Proof.Machine.execTestPulse ch good t s
  | .discrepancy n t => Sys2Proof.Machine.execDiscrepancy n t s
  | .ss1Check p t => Sys2Proof.Machine.execSs1Check p t s
  | .tSs1Max p t => Sys2Proof.Machine.execTSs1Max p t s
  | .tHw p t => Sys2Proof.Machine.execTHw p t s
  | .switchWordRead a b t => Sys2Proof.Machine.execSwitchWordRead a b t s
  | .heartbeatLost pulse t => Sys2Proof.Machine.execHeartbeatLost pulse t s
  | .stoReadback pin good t => Sys2Proof.Machine.execStoReadback pin good t s
  | .frequencyMonitor t => Sys2Proof.Machine.execFrequencyMonitor t s
  | .outputTestPulse o good aborted t => Sys2Proof.Machine.execOutputTestPulse o good aborted t s
  | .sbcDelay o t => Sys2Proof.Machine.execSbcDelay o t s
  | .deltaComplete bytes t => Sys2Proof.Machine.execDeltaComplete bytes t s
  | .renew seq t => Sys2Proof.Machine.execRenew seq t s
  | .ack seq current holds t => Sys2Proof.Machine.execAck seq current holds t s
  | .leaseExpiry t => Sys2Proof.Machine.execLeaseExpiry t s
  | .crookTake t => Sys2Proof.Machine.execCrookTake t s
  | .release seq handover t => Sys2Proof.Machine.execRelease seq handover t s
  | .crookInHigh high t => Sys2Proof.Machine.execCrookInHigh high t s
  | .election peerNone t => Sys2Proof.Machine.execElection peerNone t s
  | .deltaReceive d t => Sys2Proof.Machine.execDeltaReceive d t s
  | .fullCopyDone f t => Sys2Proof.Machine.execFullCopyDone f t s
  | .mirroredCommand ws t => Sys2Proof.Machine.execMirroredCommand ws t s
  | .giveUp t => Sys2Proof.Machine.execGiveUp t s
  | .scrub a e last t => Sys2Proof.Machine.execScrub a e last t s
  | .faultReport unit code sev detail continuing t => Sys2Proof.Machine.execFaultReport unit code sev detail continuing t s
  | .faultHandled t => Sys2Proof.Machine.execFaultHandled t s
  | .recordWrite t => Sys2Proof.Machine.execRecordWrite t s
  | .restarted t => Sys2Proof.Machine.execRestarted t s
  | .transitionDone d t => Sys2Proof.Machine.execTransitionDone d t s
  | .wakeTimeout d t => Sys2Proof.Machine.execWakeTimeout d t s
  | .grazeEntry t => Sys2Proof.Machine.execGrazeEntry t s
  | .grazeSample ains vs t => Sys2Proof.Machine.execGrazeSample ains vs t s
  | .maxS t => Sys2Proof.Machine.execMaxS t s
  | .canWake n t => Sys2Proof.Machine.execCanWake n t s
  | .monitorSample vs t => Sys2Proof.Machine.execMonitorSample vs t s
  | .hardWiredRecognition n t => Sys2Proof.Machine.execHardWiredRecognition n t s
  | .channelEnergised ch t => Sys2Proof.Machine.execChannelEnergised ch t s
  | .islandInternalCheck failures t => Sys2Proof.Machine.execIslandInternalCheck failures t s
  | .canIntegration c t => Sys2Proof.Machine.execCanIntegration c t s
  | .canWakeRecessive n t => Sys2Proof.Machine.execCanWakeRecessive n t s
  | .ptpDelayRequest k t => Sys2Proof.Machine.execPtpDelayRequest k t s
  | .announceReceiptTimeout k t => Sys2Proof.Machine.execAnnounceReceiptTimeout k t s
  | .commandComplete k dma passing t => Sys2Proof.Machine.execCommandComplete k dma passing t s
  | .scheduleWriteTimeout t => Sys2Proof.Machine.execScheduleWriteTimeout t s
  | .supplyRestored n t => Sys2Proof.Machine.execSupplyRestored n t s

end Sys2Proof.Machine
end

