-- ==== Sys2Proof/Safety.lean ====
section
/-! DEFINITION. What the statements say of a run: the canonical memory, and when a command reaches its own part. -/

namespace Sys2Proof

open Machine

/-- The memory has its canonical form: addresses rise, and no byte listed reads as an unlisted one (16 R550, 03 R87). -/
abbrev Memory.wf (t : Tab Byte) : Prop := Tab.wf 0 t

/-- The memories of the device keep their canonical form. -/
abbrev Canonical (s : State) : Prop := Memory.wf s.mem.store

/-- A command packet without AT_CYCLE has passed steps 1 to 9 of R69 on the executing device: the device is past CONFIGURE's start
(02 R72) and has its service cores, the unit is present (R69), the command leaves the resume window as it is (03 R100), neither the pair
(15 R525) nor a FAILED domain (18 R603) turns it away, and the domains that it needs are ON (18 R601). Step 10, the command's own part,
follows. -/
abbrev Reached (op : Op) (p : Packet) (s : State) : Prop :=
  servesCommands s = true ∧ screen op p s = none ∧ p.atCycle = none ∧ (s.boot.windowOpened = none ∨ keepsWindow op = true) ∧
  pairLocked s op p = false ∧ unitFailed s op = false ∧ awake s 2 = true ∧ awake s (domainOf (op.code / 256)) = true

/-- The command `i` is answered ST_OK with the words `ws`; the device is otherwise `u`. -/
abbrev Answers (i : Instr) (op : Op) (p : Packet) (s u : State) (ws : List Word) : Prop :=
  exec i s = .next (u.conclude op p stOk ws)

/-- The command `i` is turned away with `status`: without any effect but its reply (02 R69). -/
abbrev Refuses (i : Instr) (op : Op) (p : Packet) (s : State) (status : Nat) : Prop :=
  exec i s = .next (s.conclude op p status [])

/-- The command `i` is accepted and answered later; the device is otherwise `u`, and `data` stay with the command. -/
abbrev Defers (i : Instr) (op : Op) (p : Packet) (s u : State) (data : List Nat) : Prop :=
  exec i s = .next (((u.defer op p data).1.recordConfig op stOk).mirror op p stOk)

/-- The frame `f` of this type is looked at by the node in state `u` (10 R359, R360), and the checks of R362 let it pass; `v` is the state then. -/
abbrev Passes (type : Nat) (f : Frame) (loose : Bool) (u v : State) : Prop :=
  (u.receive type f).2 = true ∧ ∃ d, (u.receive type f).1.takeFrame type f loose = (v, some d)

end Sys2Proof
end

