-- ==== Sys2Proof/Certificates/Slice0/Obligations.lean ====
section
/-! DEFINITION. The statements for the provers. -/

open Sys2Proof Sys2Proof.Machine


/-! ### The commands in general (02 R69, R72; 03 R100; 15 R525; 18 R603) -/

/-- One step on a waiting command is `exec` of it with the rest of the queue. -/
def Obligations.StepRunsFront : Prop := ∀ (i : Instr) (r : List Instr) (s : State), s.pending = i :: r → step s = exec i { s with pending := r }

/-- With no command waiting the block idles; the model's own convention (log 1). A device that is not past the start of CONFIGURE, is held in a reset, or whose service cores are lost with their domain, takes no
packet: the model's choice (log 6). -/
def Obligations.NothingToTake : Prop :=
  (∀ s : State, s.pending = [] → step s = .next s) ∧
  (∀ (op : Op) (p : Packet) (s : State), s.boot.phase ≠ .running ∨ domainFailed s 2 = true →
  command op (bodyOf op) p s = .next s)

/-- Each packet row runs the command whose opcode it is, by the shared wrapper. -/
def Obligations.PacketRowsRunTheirCommand : Prop := ∀ (p : Packet) (s : State),
  exec (.devIdentify p) s = command .devIdentify (bodyOf .devIdentify) p s ∧
  exec (.devReset p) s = command .devReset (bodyOf .devReset) p s ∧
  exec (.devResume p) s = command .devResume (bodyOf .devResume) p s ∧
  exec (.devSetMode p) s = command .devSetMode (bodyOf .devSetMode) p s ∧
  exec (.devSafeAck p) s = command .devSafeAck (bodyOf .devSafeAck) p s ∧
  exec (.devStatus p) s = command .devStatus (bodyOf .devStatus) p s ∧
  exec (.devResumeConfig p) s = command .devResumeConfig (bodyOf .devResumeConfig) p s ∧
  exec (.devCycleConfig p) s = command .devCycleConfig (bodyOf .devCycleConfig) p s ∧
  exec (.devCycleStatus p) s = command .devCycleStatus (bodyOf .devCycleStatus) p s ∧
  exec (.devChangeover p) s = command .devChangeover (bodyOf .devChangeover) p s ∧
  exec (.memRead p) s = command .memRead (bodyOf .memRead) p s ∧
  exec (.memWrite p) s = command .memWrite (bodyOf .memWrite) p s ∧
  exec (.memFill p) s = command .memFill (bodyOf .memFill) p s ∧
  exec (.memDma p) s = command .memDma (bodyOf .memDma) p s ∧
  exec (.memScrubConfig p) s = command .memScrubConfig (bodyOf .memScrubConfig) p s ∧
  exec (.memErrStatus p) s = command .memErrStatus (bodyOf .memErrStatus) p s ∧
  exec (.memFaultQueue p) s = command .memFaultQueue (bodyOf .memFaultQueue) p s ∧
  exec (.pwrLatencySet p) s = command .pwrLatencySet (bodyOf .pwrLatencySet) p s ∧
  exec (.pwrState p) s = command .pwrState (bodyOf .pwrState) p s ∧
  exec (.pwrGrazeConfig p) s = command .pwrGrazeConfig (bodyOf .pwrGrazeConfig) p s ∧
  exec (.pwrMonitorConfig p) s = command .pwrMonitorConfig (bodyOf .pwrMonitorConfig) p s ∧
  exec (.pwrMonitorRead p) s = command .pwrMonitorRead (bodyOf .pwrMonitorRead) p s ∧
  exec (.pwrDomainRetry p) s = command .pwrDomainRetry (bodyOf .pwrDomainRetry) p s ∧
  exec (.graphLoad p) s = command .graphLoad (bodyOf .graphLoad) p s ∧
  exec (.graphVerify p) s = command .graphVerify (bodyOf .graphVerify) p s ∧
  exec (.graphArm p) s = command .graphArm (bodyOf .graphArm) p s ∧
  exec (.graphDisarm p) s = command .graphDisarm (bodyOf .graphDisarm) p s ∧
  exec (.graphControl p) s = command .graphControl (bodyOf .graphControl) p s ∧
  exec (.graphStep p) s = command .graphStep (bodyOf .graphStep) p s ∧
  exec (.graphForce p) s = command .graphForce (bodyOf .graphForce) p s ∧
  exec (.graphVarRead p) s = command .graphVarRead (bodyOf .graphVarRead) p s ∧
  exec (.graphVarWrite p) s = command .graphVarWrite (bodyOf .graphVarWrite) p s ∧
  exec (.graphRollback p) s = command .graphRollback (bodyOf .graphRollback) p s ∧
  exec (.graphStatus p) s = command .graphStatus (bodyOf .graphStatus) p s ∧
  exec (.schedConfig p) s = command .schedConfig (bodyOf .schedConfig) p s ∧
  exec (.schedCounters p) s = command .schedCounters (bodyOf .schedCounters) p s ∧
  exec (.schedClearCounters p) s = command .schedClearCounters (bodyOf .schedClearCounters) p s ∧
  exec (.schedStatus p) s = command .schedStatus (bodyOf .schedStatus) p s ∧
  exec (.loopChannelConfig p) s = command .loopChannelConfig (bodyOf .loopChannelConfig) p s ∧
  exec (.loopCoefWrite p) s = command .loopCoefWrite (bodyOf .loopCoefWrite) p s ∧
  exec (.loopBankArm p) s = command .loopBankArm (bodyOf .loopBankArm) p s ∧
  exec (.loopBankSwap p) s = command .loopBankSwap (bodyOf .loopBankSwap) p s ∧
  exec (.loopMode p) s = command .loopMode (bodyOf .loopMode) p s ∧
  exec (.loopStateRead p) s = command .loopStateRead (bodyOf .loopStateRead) p s ∧
  exec (.loopRepConfig p) s = command .loopRepConfig (bodyOf .loopRepConfig) p s ∧
  exec (.loopRepControl p) s = command .loopRepControl (bodyOf .loopRepControl) p s ∧
  exec (.loopLatency p) s = command .loopLatency (bodyOf .loopLatency) p s ∧
  exec (.axisConfig p) s = command .axisConfig (bodyOf .axisConfig) p s ∧
  exec (.axisTableWrite p) s = command .axisTableWrite (bodyOf .axisTableWrite) p s ∧
  exec (.axisStart p) s = command .axisStart (bodyOf .axisStart) p s ∧
  exec (.axisStop p) s = command .axisStop (bodyOf .axisStop) p s ∧
  exec (.axisStatus p) s = command .axisStatus (bodyOf .axisStatus) p s ∧
  exec (.axisSetPosition p) s = command .axisSetPosition (bodyOf .axisSetPosition) p s ∧
  exec (.axisStandstill p) s = command .axisStandstill (bodyOf .axisStandstill) p s ∧
  exec (.adcConfig p) s = command .adcConfig (bodyOf .adcConfig) p s ∧
  exec (.adcTableWrite p) s = command .adcTableWrite (bodyOf .adcTableWrite) p s ∧
  exec (.adcGroupConfig p) s = command .adcGroupConfig (bodyOf .adcGroupConfig) p s ∧
  exec (.adcUrgent p) s = command .adcUrgent (bodyOf .adcUrgent) p s ∧
  exec (.adcCalibrate p) s = command .adcCalibrate (bodyOf .adcCalibrate) p s ∧
  exec (.adcCalRead p) s = command .adcCalRead (bodyOf .adcCalRead) p s ∧
  exec (.adcCalWrite p) s = command .adcCalWrite (bodyOf .adcCalWrite) p s ∧
  exec (.adcStatus p) s = command .adcStatus (bodyOf .adcStatus) p s ∧
  exec (.acqSignalConfig p) s = command .acqSignalConfig (bodyOf .acqSignalConfig) p s ∧
  exec (.acqStreamConfig p) s = command .acqStreamConfig (bodyOf .acqStreamConfig) p s ∧
  exec (.acqWindowConfig p) s = command .acqWindowConfig (bodyOf .acqWindowConfig) p s ∧
  exec (.acqTriggerConfig p) s = command .acqTriggerConfig (bodyOf .acqTriggerConfig) p s ∧
  exec (.acqHistConfig p) s = command .acqHistConfig (bodyOf .acqHistConfig) p s ∧
  exec (.acqPmapConfig p) s = command .acqPmapConfig (bodyOf .acqPmapConfig) p s ∧
  exec (.acqControl p) s = command .acqControl (bodyOf .acqControl) p s ∧
  exec (.acqStatus p) s = command .acqStatus (bodyOf .acqStatus) p s ∧
  exec (.acqIndexRead p) s = command .acqIndexRead (bodyOf .acqIndexRead) p s ∧
  exec (.ringConfig p) s = command .ringConfig (bodyOf .ringConfig) p s ∧
  exec (.ringScheduleWrite p) s = command .ringScheduleWrite (bodyOf .ringScheduleWrite) p s ∧
  exec (.ringModeArm p) s = command .ringModeArm (bodyOf .ringModeArm) p s ∧
  exec (.ringStart p) s = command .ringStart (bodyOf .ringStart) p s ∧
  exec (.ringStatus p) s = command .ringStatus (bodyOf .ringStatus) p s ∧
  exec (.ringCounters p) s = command .ringCounters (bodyOf .ringCounters) p s ∧
  exec (.ringSyncConfig p) s = command .ringSyncConfig (bodyOf .ringSyncConfig) p s ∧
  exec (.ringTopology p) s = command .ringTopology (bodyOf .ringTopology) p s ∧
  exec (.canConfig p) s = command .canConfig (bodyOf .canConfig) p s ∧
  exec (.canFilterConfig p) s = command .canFilterConfig (bodyOf .canFilterConfig) p s ∧
  exec (.canBufferConfig p) s = command .canBufferConfig (bodyOf .canBufferConfig) p s ∧
  exec (.canTransmit p) s = command .canTransmit (bodyOf .canTransmit) p s ∧
  exec (.canCancel p) s = command .canCancel (bodyOf .canCancel) p s ∧
  exec (.canStatus p) s = command .canStatus (bodyOf .canStatus) p s ∧
  exec (.canRecover p) s = command .canRecover (bodyOf .canRecover) p s ∧
  exec (.canCounterConfig p) s = command .canCounterConfig (bodyOf .canCounterConfig) p s ∧
  exec (.timePortConfig p) s = command .timePortConfig (bodyOf .timePortConfig) p s ∧
  exec (.timePtpConfig p) s = command .timePtpConfig (bodyOf .timePtpConfig) p s ∧
  exec (.timeDomainSelect p) s = command .timeDomainSelect (bodyOf .timeDomainSelect) p s ∧
  exec (.timeRead p) s = command .timeRead (bodyOf .timeRead) p s ∧
  exec (.timeTsQueueRead p) s = command .timeTsQueueRead (bodyOf .timeTsQueueRead) p s ∧
  exec (.timeUdpConfig p) s = command .timeUdpConfig (bodyOf .timeUdpConfig) p s ∧
  exec (.timeStatus p) s = command .timeStatus (bodyOf .timeStatus) p s ∧
  exec (.safeParamLoad p) s = command .safeParamLoad (bodyOf .safeParamLoad) p s ∧
  exec (.safeSwitchRead p) s = command .safeSwitchRead (bodyOf .safeSwitchRead) p s ∧
  exec (.safeStatus p) s = command .safeStatus (bodyOf .safeStatus) p s ∧
  exec (.safeStop p) s = command .safeStop (bodyOf .safeStop) p s ∧
  exec (.safeReset p) s = command .safeReset (bodyOf .safeReset) p s ∧
  exec (.safeDiagRead p) s = command .safeDiagRead (bodyOf .safeDiagRead) p s ∧
  exec (.safeMemRead p) s = command .safeMemRead (bodyOf .safeMemRead) p s ∧
  exec (.pairConfig p) s = command .pairConfig (bodyOf .pairConfig) p s ∧
  exec (.pairStatus p) s = command .pairStatus (bodyOf .pairStatus) p s ∧
  exec (.pairHandover p) s = command .pairHandover (bodyOf .pairHandover) p s ∧
  exec (.pairCheckpointConfig p) s = command .pairCheckpointConfig (bodyOf .pairCheckpointConfig) p s ∧
  exec (.pairStandbyCheck p) s = command .pairStandbyCheck (bodyOf .pairStandbyCheck) p s ∧
  exec (.tallyConfig p) s = command .tallyConfig (bodyOf .tallyConfig) p s ∧
  exec (.tallyCursor p) s = command .tallyCursor (bodyOf .tallyCursor) p s ∧
  exec (.tallyRead p) s = command .tallyRead (bodyOf .tallyRead) p s ∧
  exec (.tallyClear p) s = command .tallyClear (bodyOf .tallyClear) p s ∧
  exec (.tallyStatus p) s = command .tallyStatus (bodyOf .tallyStatus) p s ∧
  exec (.dioInputConfig p) s = command .dioInputConfig (bodyOf .dioInputConfig) p s ∧
  exec (.dioOutputConfig p) s = command .dioOutputConfig (bodyOf .dioOutputConfig) p s ∧
  exec (.dioPwmConfig p) s = command .dioPwmConfig (bodyOf .dioPwmConfig) p s ∧
  exec (.dioEncConfig p) s = command .dioEncConfig (bodyOf .dioEncConfig) p s ∧
  exec (.dioRead p) s = command .dioRead (bodyOf .dioRead) p s ∧
  exec (.dioWrite p) s = command .dioWrite (bodyOf .dioWrite) p s ∧
  exec (.dioStatus p) s = command .dioStatus (bodyOf .dioStatus) p s ∧
  exec (.hostRingCreate p) s = command .hostRingCreate (bodyOf .hostRingCreate) p s ∧
  exec (.hostRingDestroy p) s = command .hostRingDestroy (bodyOf .hostRingDestroy) p s ∧
  exec (.hostEventRoute p) s = command .hostEventRoute (bodyOf .hostEventRoute) p s

/-- R69, steps 6 to 9: on a running device the first check that fails decides the status, and the command has no effect but its
reply; a command that passes with AT_CYCLE waits for its cycle (R72). -/
def Obligations.ScreeningDecides : Prop := ∀ (op : Op) (p : Packet) (s : State), servesCommands s = true →
  (s.present (op.code / 256) = false → command op (bodyOf op) p s = .next (s.answer op p stUnitAbsent [])) ∧
  (s.present (op.code / 256) = true → ∀ x, p.atCycle = some x →
    (acceptsAt op p = false → command op (bodyOf op) p s = .next (s.answer op p stRange [])) ∧
    (acceptsAt op p = true →
      (hasCycle s = false → command op (bodyOf op) p s = .next (s.answer op p stNotReady [])) ∧
      (hasCycle s = true →
        (cycDiff x (baseCycle s) ≤ 0 → command op (bodyOf op) p s = .next (s.answer op p stTooLate [])) ∧
        (0 < cycDiff x (baseCycle s) →
          (256 ≤ s.host.timed.length → command op (bodyOf op) p s = .next (s.answer op p stAtFull [])) ∧
          (s.host.timed.length < 256 → command op (bodyOf op) p s =
            .next (s.modHost fun h => { h with timed := h.timed ++ [{ op := op, packet := p, cycle := x }] }))))))

/-- A half in SYNCING or STANDBY answers ST_LOCKED to every command from its own rings but those that R525 lists. R603: while a domain is FAILED, commands to its units return ST_FAULT. -/
def Obligations.PairAndDomainsTurnAway : Prop :=
  (∀ (op : Op) (p : Packet) (s : State) (n : Nat),
  servesCommands s = true → s.present (op.code / 256) = true → p.atCycle = none → s.boot.windowOpened = none →
  p.origin = .ring n → s.pair.role = .syncing ∨ s.pair.role = .standby →
  (standbyExecutes op = false → command op (bodyOf op) p s = .next (s.answer op p stLocked [])) ∧
  (standbyExecutes op = true ↔
    op ∈ [.devIdentify, .devStatus, .devCycleStatus, .devReset, .schedStatus, .graphStatus, .axisStatus, .adcStatus, .acqStatus,
      .ringStatus, .canStatus, .timeStatus, .safeStatus, .pairStatus, .tallyStatus, .dioStatus, .memRead, .timeRead, .tallyRead,
      .dioRead, .pwrMonitorRead, .graphVarRead, .loopStateRead, .adcCalRead, .acqIndexRead, .timeTsQueueRead, .safeSwitchRead,
      .safeDiagRead, .safeMemRead, .schedCounters, .ringCounters, .tallyCursor, .pairConfig, .pairHandover, .pairCheckpointConfig,
      .pairStandbyCheck])) ∧
  (∀ (op : Op) (p : Packet) (s : State),
  servesCommands s = true → screen op p s = none → p.atCycle = none → s.boot.windowOpened = none → pairLocked s op p = false →
  (look {} s.pwr.domains (domainOf (op.code / 256))).failed = true →
  command op (bodyOf op) p s = .next (s.answer op p stFault []))

/-- R100, R102: a command that does not leave the resume window open closes it before it executes; a resume that had been asked for is
then refused with its record. The loop engine, the acquisition engine, the programs, the converters and the digital I/O return to their
reset configuration, the checkpoint is used no more, and the ring configuration and the rings of the host interface stay. -/
def Obligations.WindowCloses : Prop := ∀ (op : Op) (p : Packet) (s : State),
  servesCommands s = true → screen op p s = none → p.atCycle = none → keepsWindow op = false → s.boot.windowOpened ≠ none →
  command op (bodyOf op) p s = command op (bodyOf op) p (endWindow s) ∧
  (resumeRequested s = true → endWindow s = closeWindow (s.recordOpen 0 43 1)) ∧
  (resumeRequested s = false → endWindow s = closeWindow s) ∧
  (closeWindow s).boot.windowOpened = none ∧ (closeWindow s).boot.holdingOutputs = false ∧
  (closeWindow s).loop = {} ∧ (closeWindow s).acq = {} ∧ (closeWindow s).graph = s.graph.cleared ∧ (closeWindow s).adc = s.adc.cleared ∧
  (closeWindow s).dio = s.dio.cleared s.now ∧ (closeWindow s).keep.image = none ∧
  (closeWindow s).drove.cfg = s.drove.cfg ∧ (closeWindow s).host.rings = s.host.rings

/-! ### DEV (03 R109–R115; 01 R44, R46, R47) -/

/-- DEV.SET_MODE (R106, R107, R112): a transition that R106 does not list returns ST_BAD_MODE; SAFE is entered at once; READY from
CONFIGURE needs READY_MISSING 0 and is taken on execution, as is CONFIGURE; out of GRAZE the device wakes; the others wait for the start
of the next cycle. READY_MISSING is determined at every request for READY. DEV.SAFE_ACK (R108, R113): in SAFE, with the island not in a stop, no SAFE-severity fault active and READY_MISSING 0, READY
follows at the start of the next cycle; in another mode it returns ST_BAD_MODE. That its reply is written at once is the model's
reading (log 71). -/
def Obligations.ModeRequests : Prop :=
  (∀ (p : Packet) (s : State) (m : Mode),
  Reached .devSetMode p s → p.len = 1 → p.w 0 = m.num →
  ((s.dev.mode, m) ∉ [(.configure, .ready), (.ready, .run), (.ready, .graze), (.ready, .configure), (.run, .ready), (.run, .hold),
      (.hold, .run), (.hold, .ready), (.graze, .ready), (.safe, .configure)] → m ≠ .safe →
    Refuses (.devSetMode p) .devSetMode p s stBadMode) ∧
  (m = .safe → Answers (.devSetMode p) .devSetMode p s (s.enterSafe 5) [4, wd s.dev.readyMissing] ∧ (s.enterSafe 5).dev.mode = .safe) ∧
  (s.dev.mode = .configure → m = .ready →
    (readyMissing s = 0 →
      Answers (.devSetMode p) .devSetMode p s ((s.modDev fun d => { d with readyMissing := 0 }).goMode .ready) [1, 0]) ∧
    (readyMissing s ≠ 0 → exec (.devSetMode p) s =
      .next ((s.modDev fun d => { d with readyMissing := readyMissing s }).conclude .devSetMode p stNotConfigured []))) ∧
  (s.dev.mode = .ready ∨ s.dev.mode = .safe → m = .configure →
    Answers (.devSetMode p) .devSetMode p s (s.setMode .configure) [0, wd s.dev.readyMissing]) ∧
  ((s.dev.mode, m) ∈ [(.ready, .run), (.run, .hold), (.hold, .run)] →
    Defers (.devSetMode p) .devSetMode p s (s.modDev fun d => { d with modeRequest := some m }) []) ∧
  ((s.dev.mode, m) ∈ [(.run, .ready), (.hold, .ready)] →
    Defers (.devSetMode p) .devSetMode p s (s.modDev fun d => { d with readyMissing := readyMissing s, modeRequest := some m }) []) ∧
  (s.dev.mode = .graze → m = .ready →
    exec (.devSetMode p) s = .next (((grazeWake 5 0 (s.computeMissing.defer .devSetMode p).1).recordConfig .devSetMode stOk).mirror
      .devSetMode p stOk)) ∧
  (s.dev.mode = .ready → m = .graze → s.pwr.graze ≠ none →
    Defers (.devSetMode p) .devSetMode p s (s.modDev fun d => { d with modeRequest := some m }) [])) ∧
  (∀ (p : Packet) (s : State), Reached .devSafeAck p s → p.len = 0 →
  (s.dev.mode ≠ .safe → Refuses (.devSafeAck p) .devSafeAck p s stBadMode) ∧
  (s.dev.mode = .safe → s.isl.inStop = false → safeFaultActive s = false → readyMissing s = 0 →
    Answers (.devSafeAck p) .devSafeAck p s (s.modDev fun d => { d with readyMissing := 0, modeRequest := some .ready }) []))

/-- DEV.RESET (R110): the warm reset is due 10 µs after the reply is written, with RESET_CAUSE 2 and its NO_RESUME; until the reply is
written it stands at 10 µs after the command. DEV.RESUME (R102, R111): outside the window it returns ST_WINDOW_CLOSED; while the record and the checkpoint are being checked
it waits; where no checkpoint can be resumed the window closes with ST_NO_CHECKPOINT; else it waits for cycle q. DEV.RESUME_CONFIG and DEV.CYCLE_CONFIG (R115; 01 R46): the settings are stored. A hold budget of another size is taken only in
CONFIGURE and READY. LATCHED ends on a device without an up-ring. -/
def Obligations.ResetAndResumeRequests : Prop :=
  (∀ (p : Packet) (s : State), Reached .devReset p s → p.len = 1 → p.w 0 < 2 →
  Answers (.devReset p) .devReset p s
    (s.modBoot fun b => { b with warmResetAt := some (s.now + 8000), resetOnReply := true, noResume := decide (p.w 0 = 1), resetAs := 2 }) []) ∧
  (∀ (p : Packet) (s : State), Reached .devResume p s → p.len = 2 →
  p.w 0 = 1 ∨ (p.w 0 = 0 ∧ p.w 1 = 0) →
  (s.boot.windowOpened = none → Refuses (.devResume p) .devResume p s stWindowClosed) ∧
  (s.boot.windowOpened ≠ none →
    (s.boot.replayed = false → Defers (.devResume p) .devResume p s s []) ∧
    (s.boot.replayed = true → resumable s = true → (p.w 0 = 1 → p.w 1 = checkpointCycle s) →
      Defers (.devResume p) .devResume p s s []) ∧
    (s.boot.replayed = true → resumable s = true → p.w 0 = 1 → p.w 1 ≠ checkpointCycle s →
      Refuses (.devResume p) .devResume p s stNoCheckpoint) ∧
    (s.boot.replayed = true → resumable s = false → exec (.devResume p) s =
      .next ((closeWindow (s.recordOpen 0 43 1)).conclude .devResume p stNoCheckpoint [])))) ∧
  (∀ (p : Packet) (s : State),
  (Reached .devResumeConfig p s → p.len = 2 → p.w 0 < 4 → p.w 1 < 2 ^ 16 →
    Answers (.devResumeConfig p) .devResumeConfig p s
      (s.modDev fun d => { d with autoResume := decide (p.w 0 % 2 = 1), resumeToReady := decide (2 ≤ p.w 0), maxGap := p.w 1 }) []) ∧
  (Reached .devCycleConfig p s → p.len = 1 → ∀ (h : Nat) (latch : Bool), 1 ≤ h → h ≤ 15 → p.w 0 = h + 16 * latch.toNat →
    (s.dev.mode = .configure ∨ s.dev.mode = .ready ∨ h = s.cyc.holdBudget →
      Answers (.devCycleConfig p) .devCycleConfig p s
        (if s.cyc.commit = .latched ∧ s.drove.cfg.upEn = false
         then s.modCyc fun c => { c with holdBudget := h, latchSubst := latch, commit := .substitute, latchInForce := false }
         else s.modCyc fun c => { c with holdBudget := h, latchSubst := latch }) []) ∧
    (s.dev.mode ≠ .configure → s.dev.mode ≠ .ready → h ≠ s.cyc.holdBudget →
      Refuses (.devCycleConfig p) .devCycleConfig p s stBadMode)))

/-- DEV.CHANGEOVER (01 R37, R40, R41, R44): with a cycle at least MIN_LEAD away in READY, RUN or HOLD and no changeover pending, the
device is the target of a pending changeover, whose refusal is its own; a nearer cycle returns ST_CO_LEAD. -/
def Obligations.ChangeoverBecomesPending : Prop := ∀ (p : Packet) (s : State), Reached .devChangeover p s → p.len = 2 →
  field (p.w 1) 0 3 ≠ 0 → field (p.w 1) 3 13 = 0 → s.dev.mode = .ready ∨ s.dev.mode = .run ∨ s.dev.mode = .hold →
  s.cyc.changeover = none → 0 < cycDiff (p.w 0) (baseCycle s) →
  ∀ lead, lead = minLead s (if p.forwardAll then tiersBelow s else 0) (bit (p.w 1) 2) →
  (cycDiff (p.w 0) (baseCycle s) < lead →
    exec (.devChangeover p) s = .next (s.conclude .devChangeover p stCoLead (coWords (field (p.w 1) 16 16) 1 0 0 none lead))) ∧
  (lead ≤ cycDiff (p.w 0) (baseCycle s) → ∃ t c, exec (.devChangeover p) s = .next t ∧
    t.cyc = { s.cyc with changeover := some c } ∧ c.coId = field (p.w 1) 16 16 ∧ c.cycle = p.w 0 ∧ c.graph = bit (p.w 1) 0 ∧
    c.loop = bit (p.w 1) 1 ∧ c.ring = bit (p.w 1) 2 ∧ c.target = true ∧ c.packet = some p ∧ c.minLead = lead ∧ c.swapped = false ∧
    c.outcome = none ∧
    (c.refusal = none ↔ coRefusal s (p.w 0) (bit (p.w 1) 1) = 0) ∧
    t.dev = s.dev ∧ t.graph = s.graph ∧ t.loop = s.loop ∧ t.mem = s.mem ∧ t.dio = s.dio ∧ t.axis = s.axis)

/-! ### Commands that only read (02 R69; the STATUS, READ and COUNTERS commands of every unit) -/

/-- The commands without parameters that report: each is answered with its words and changes nothing but what its reply needs. R7, R69: a report about an item or with a reserved bit is turned away where its check fails, and answered with the item's words
else; nothing changes but what the reply needs. -/
def Obligations.Reports : Prop :=
  (∀ (p : Packet) (s : State), p.len = 0 →
  (Reached .devIdentify p s → Answers (.devIdentify p) .devIdentify p s s (identifyWords s)) ∧
  (Reached .devStatus p s → Answers (.devStatus p) .devStatus p s s (devStatusWords s)) ∧
  (Reached .devCycleStatus p s → Answers (.devCycleStatus p) .devCycleStatus p s s (cycleStatusWords s)) ∧
  (Reached .memFaultQueue p s → Answers (.memFaultQueue p) .memFaultQueue p s s
    (wd (s.flt.waiting.length + 32 * flag s.flt.inHand.isSome) :: (s.flt.inHand.toList ++ s.flt.waiting).flatMap faultWords)) ∧
  (Reached .pwrState p s → Answers (.pwrState p) .pwrState p s s (pwrStateWords s)) ∧
  (Reached .pwrMonitorRead p s → Answers (.pwrMonitorRead p) .pwrMonitorRead p s s (monitorWords s)) ∧
  (Reached .schedStatus p s → ∃ ws, Answers (.schedStatus p) .schedStatus p s s ws ∧ ws.length = 6 ∧
    ws.drop 2 = (List.range 4).map fun n => wd (slotOf s n).overrun) ∧
  (Reached .timeRead p s → ∃ ws, Answers (.timeRead p) .timeRead p s s ws ∧
    ws.take 6 = wd2 (s.ns % 2 ^ 64) ++ wd2 (if s.net.mapValid then enc 64 (taiNs s) else 0) ++ wd2 (calNs s) ∧
    ws.getD 7 0 = wd (baseCycle s)) ∧
  (Reached .pairStatus p s → Answers (.pairStatus p) .pairStatus p s s.takeFree.2 (pairWords s s.takeFree.1.toNat)) ∧
  (Reached .tallyStatus p s → ∃ ws, Answers (.tallyStatus p) .tallyStatus p s s ws ∧ ws.length = 8 ∧
    ws.take 2 = [wd (newestSeq s), wd (oldestSeq s)] ∧ ws.drop 5 = [wd s.tally.lostRecords, wd s.tally.untracked, wd s.tally.cleared])) ∧
  (∀ (p : Packet) (s : State), p.len = 1 →
  (Reached .schedCounters p s → reservedSet (p.w 0) 0xFFFFFFE0 = false →
    (bit (p.w 0) 0 = false → field (p.w 0) 1 4 < graphCores s → ∃ ws, Answers (.schedCounters p) .schedCounters p s s ws ∧
      ws.length = 10 ∧ ws.getD 0 0 = wd (coreOf s (field (p.w 0) 1 4)).opsRun) ∧
    (bit (p.w 0) 0 = true → field (p.w 0) 1 4 < 4 → ∃ ws, Answers (.schedCounters p) .schedCounters p s s ws ∧
      ws.length = 9 ∧ ws.getD 0 0 = wd (schedOf s (field (p.w 0) 1 4)).executions ∧
      ws.getD 1 0 = wd (schedOf s (field (p.w 0) 1 4)).overruns)) ∧
  (Reached .loopStateRead p s →
    (reservedSet (p.w 0) 0xFFFFFC00 = true ∨ loopChannels s ≤ field (p.w 0) 0 10 → Refuses (.loopStateRead p) .loopStateRead p s stRange) ∧
    (reservedSet (p.w 0) 0xFFFFFC00 = false → field (p.w 0) 0 10 < loopChannels s →
      Answers (.loopStateRead p) .loopStateRead p s s ((List.range 23).map fun i => BitVec.ofNat 32 (stW s (field (p.w 0) 0 10) i)))) ∧
  (Reached .axisStatus p s → reservedSet (p.w 0) 0xFFFFFF00 = false → field (p.w 0) 0 8 < axes s →
    (axisOf s (field (p.w 0) 0 8)).kind ≠ 0 →
    Answers (.axisStatus p) .axisStatus p s s (axisStatusWords s (field (p.w 0) 0 8))) ∧
  (Reached .adcCalRead p s → reservedSet (p.w 0) 0xFFFE0000 = false → 1 ≤ field (p.w 0) 7 8 → field (p.w 0) 7 8 ≤ 128 →
    field (p.w 0) 0 7 + field (p.w 0) 7 8 ≤ 128 → Answers (.adcCalRead p) .adcCalRead p s s
      ((List.range (field (p.w 0) 7 8)).flatMap fun i =>
        [wd (enc 32 (calOf s (field (p.w 0) 0 7 + i) (field (p.w 0) 15 2)).1), wd (calOf s (field (p.w 0) 0 7 + i) (field (p.w 0) 15 2)).2])) ∧
  (Reached .adcStatus p s → reservedSet (p.w 0) 0xFFFFFFF0 = false → ∀ k, k = (convOf s (field (p.w 0) 0 4)).next s.now →
    Answers (.adcStatus p) .adcStatus p s s [wd (flag k.lowPower + 2 * flag k.faulted + 4 * k.entry), wd k.conversions,
      wd k.urgentDropped, wd k.groupOverruns, wd k.tableAborts, wd k.ovrCount]) ∧
  (Reached .acqStatus p s → reservedSet (p.w 0) 0xFFFFFFE0 = false →
    (bit (p.w 0) 0 = false → Answers (.acqStatus p) .acqStatus p s s (captureStatus s (capOf s (field (p.w 0) 1 4)))) ∧
    (bit (p.w 0) 0 = true → Answers (.acqStatus p) .acqStatus p s s
      (((List.range 16).map fun h => wd (look {} s.acq.hists h).nan) ++ (List.range 4).map fun m => wd (look {} s.acq.pmaps m).points))) ∧
  (Reached .acqIndexRead p s → reservedSet (p.w 0) 0xF000C000 = false → 1 ≤ field (p.w 0) 16 12 → field (p.w 0) 16 12 ≤ 682 →
    field (p.w 0) 0 14 + field (p.w 0) 16 12 ≤ 16384 → Answers (.acqIndexRead p) .acqIndexRead p s s
      ((List.range (field (p.w 0) 16 12)).flatMap fun i => indexWords s (field (p.w 0) 0 14 + i))) ∧
  (Reached .ringStatus p s → reservedSet (p.w 0) 0xFFFFFFFE = false →
    Answers (.ringStatus p) .ringStatus p s s (ringStatusWords s (bit (p.w 0) 0))) ∧
  (Reached .timeStatus p s → reservedSet (p.w 0) 0xFFFFFFFE = false → ∃ ws, Answers (.timeStatus p) .timeStatus p s s ws ∧
    ws.length = 11 ∧ ws.getD 10 0 = wd s.net.framesDropped) ∧
  (Reached .graphStatus p s → reservedSet (p.w 0) 0xFFFFFFFC = false → ∃ u ws, Answers (.graphStatus p) .graphStatus p s u ws ∧
    ws.length = 9 ∧ (u = s ∨ u = s.takeFree.2) ∧ ws.getD 5 0 = wd (slotOf s (field (p.w 0) 0 2)).abandoned) ∧
  (Reached .canStatus p s → reservedSet (p.w 0) 0xFFFFFFF8 = false → field (p.w 0) 0 3 < canControllers s → s.dev.mode ≠ .graze →
    ∀ k, k = canOf s (field (p.w 0) 0 3) → Answers (.canStatus p) .canStatus p s s [wd (canStatusWord k), wd k.rxFrames, wd k.txFrames,
      wd k.unmatched, wd k.overruns, wd k.lockTimeouts, wd k.busoffCount, wd k.txRefused, wd k.tdcMeas])) ∧
  (∀ (p : Packet) (s : State), Reached .loopStateRead p s → p.len ≠ 1 → Refuses (.loopStateRead p) .loopStateRead p s stBadLength)

/-! ### MEM and PWR commands (16 R573–R579; 18 R616–R621) -/

/-- MEM.READ (16 R573, R574): words of ordinary memory in the order of their addresses, nothing else changing but the domain that the
access raises and the record of a loop channel or profile table that the device does not have (00 R7); a poisoned word of the range ends the command with its address, and an unmapped or misaligned range turns it away. MEM.WRITE (16 R573, R574) of system or capture memory without a poisoned word or an error on the way: every byte of the words is
stored at its address, little-endian, and every other byte reads as before; a poisoned word that the range covers only in part turns the command away with its address. -/
def Obligations.MemoryReadsAndWrites : Prop :=
  (∀ (p : Packet) (s : State) (a n : Nat) (k : Area),
  Reached .memRead p s → p.len = 2 → p.w 0 = a → p.w 1 = n → 1 ≤ n → n ≤ 4092 →
  (a % 4 ≠ 0 → Refuses (.memRead p) .memRead p s stMmAlign) ∧
  (a % 4 = 0 →
    (spanArea a (4 * n) = none → Refuses (.memRead p) .memRead p s stMmUnmapped) ∧
    (spanArea a (4 * n) = some k → k = .system ∨ k = .setAlias ∨ k = .clearAlias ∨ k = .capture ∨ k = .loop ∨ k = .tally →
      (domainFailed s (areaDomain k) = true → Refuses (.memRead p) .memRead p s stFault) ∧
      (domainFailed s (areaDomain k) = false →
        (∀ w, poisonBlocks s a (4 * n) false = some w → exec (.memRead p) s = .next (s.conclude .memRead p stMmPoisoned [wd w])) ∧
        (poisonBlocks s a (4 * n) false = none → p.errs = [] →
          Answers (.memRead p) .memRead p s
            (if k = .loop then (wakeDomain (areaDomain k) s).noteLoop a else wakeDomain (areaDomain k) s)
            ((List.range n).map fun i => wd (readWord s (storedAt a + 4 * i)))))))) ∧
  (∀ (p : Packet) (s : State) (a : Nat) (ws : List Word) (k : Area),
  Reached .memWrite p s → Canonical s → p.params = BitVec.ofNat 32 a :: ws → p.w 0 = a → 1 ≤ ws.length → ws.length ≤ 4091 → a % 4 = 0 →
  spanArea a (4 * ws.length) = some k → k = .system ∨ k = .capture → domainFailed s (areaDomain k) = false →
  (∀ w, poisonBlocks s a (4 * ws.length) true = some w → exec (.memWrite p) s = .next (s.conclude .memWrite p stMmPoisoned [wd w])) ∧
  (poisonBlocks s a (4 * ws.length) true = none → p.errs = [] → ∃ u, Answers (.memWrite p) .memWrite p s u [] ∧
    (∀ i < 4 * ws.length, readByte u (a + i) = (ws.flatMap bytesOf).getD i 0) ∧
    (∀ x, x < a ∨ a + 4 * ws.length ≤ x → readByte u x = readByte s x) ∧
    u.loop = s.loop ∧ u.axis = s.axis ∧ u.dio = s.dio ∧ u.adc = s.adc ∧ u.graph = s.graph ∧ u.can = s.can ∧ u.dev = s.dev ∧ u.cyc = s.cyc))

/-- MEM.FILL and MEM.DMA (16 R573, R575, R576): a permitted range of a domain that stands is taken, and the command waits for its end. MEM.SCRUB_CONFIG and MEM.ERR_STATUS (16 R577, R578): the pass time and the threshold; the counters as they stood, and with CLEAR
they become 0 while the address of the last error stays. -/
def Obligations.MemoryService : Prop :=
  (∀ (p : Packet) (s : State) (a n : Nat) (k : Area),
  (Reached .memFill p s → p.len = 3 → p.w 0 = a → p.w 1 = n → 8 ≤ n → n ≤ 33554432 → a % 8 = 0 → n % 8 = 0 → spanArea a n = some k →
    domainFailed s (areaDomain k) = false →
    (k = .system ∨ k = .capture ∨ k = .loop → Defers (.memFill p) .memFill p s (wakeDomain (areaDomain k) s) []) ∧
    (k = .checkpoint ∨ k = .tally → Refuses (.memFill p) .memFill p s stMmProtected) ∧
    (k = .setAlias ∨ k = .clearAlias → Refuses (.memFill p) .memFill p s stMmUnmapped)) ∧
  (Reached .memDma p s → p.len = 5 → p.w 0 < 2 → s.boot.hostSel = 0 → p.w 1 % 64 = 0 → p.w 3 = a → p.w 4 = n → 64 ≤ n → n ≤ 16777216 →
    a % 64 = 0 → n % 64 = 0 → spanArea a n = some k → domainFailed s (areaDomain k) = false → s.mem.poison = [] →
    (k = .system ∨ k = .capture ∨ k = .loop ∨ (p.w 0 = 1 ∧ (k = .checkpoint ∨ k = .tally)) →
      Defers (.memDma p) .memDma p s (wakeDomain (areaDomain k) s) []) ∧
    (p.w 0 = 0 → k = .checkpoint ∨ k = .tally → Refuses (.memDma p) .memDma p s stMmProtected))) ∧
  (∀ (p : Packet) (s : State),
  (Reached .memScrubConfig p s → p.len = 2 → 1 ≤ p.w 0 → p.w 0 ≤ 3600 → 1 ≤ p.w 1 → p.w 1 < 2 ^ 16 →
    Answers (.memScrubConfig p) .memScrubConfig p s (s.modMem fun m => { m with passS := p.w 0, ceThreshold := p.w 1 }) []) ∧
  (Reached .memErrStatus p s → p.len = 1 →
    (p.w 0 = 0 → Answers (.memErrStatus p) .memErrStatus p s s (errStatusWords s)) ∧
    (p.w 0 = 1 → ∃ u, Answers (.memErrStatus p) .memErrStatus p s u (errStatusWords s) ∧
      (errStatusWords u).map BitVec.toNat = [0, 0, 0, 0, 0, s.mem.poison.length % 2 ^ 32, 0,
        s.mem.lastErrAddr % 2 ^ 32, 0] ∧ u.mem.store = s.mem.store ∧ u.mem.poison = s.mem.poison)))

/-- PWR.LATENCY_SET, PWR.GRAZE_CONFIG, PWR.MONITOR_CONFIG and PWR.DOMAIN_RETRY (18 R616, R618, R619, R621). -/
def Obligations.PowerSettings : Prop := ∀ (p : Packet) (s : State),
  (Reached .pwrLatencySet p s → p.len = 3 → p.w 0 < 2 ^ 12 → bit (p.w 0) 0 = false → (bitsOf 12 (p.w 0)).any (domainAbsent s) = false →
    p.w 1 ≤ 1000000 → p.w 2 = 0 ∨ (100 ≤ p.w 2 ∧ p.w 2 ≤ 50000) →
    Answers (.pwrLatencySet p) .pwrLatencySet p s (rechoose ((bitsOf 12 (p.w 0)).foldl (fun s d => s.modDomain d fun m =>
      { m with tolUs := p.w 1, wakeTimeoutUs := if p.w 2 = 0 then m.wakeTimeoutUs else p.w 2 }) s)) []) ∧
  (Reached .pwrGrazeConfig p s → ∀ n es, n = field (p.w 0) 14 5 → es = (p.params.drop 2).map (·.toNat) → p.len = 2 + n → n ≤ 16 →
    1 ≤ field (p.w 0) 0 14 → field (p.w 0) 0 14 ≤ 10000 → reservedSet (p.w 0) 0xF0000000 = false → p.w 1 < 2 ^ 16 →
    es.any compareBad = false → (bitsOf 8 (field (p.w 0) 20 8)).any (fun c => canControllers s ≤ c) = false →
    (s.dev.mode = .configure ∨ s.dev.mode = .ready →
      (es.all (fun e => grazeRefOk s (field e 0 3) (field e 3 7)) = true →
        Answers (.pwrGrazeConfig p) .pwrGrazeConfig p s (s.modPwr fun q => { q with
          graze := some { periodMs := field (p.w 0) 0 14, monWake := bit (p.w 0) 19, canWake := field (p.w 0) 20 8, maxS := p.w 1, entries := es }
          masked := [], canMasked := [] }) []) ∧
      (es.all (fun e => grazeRefOk s (field e 0 3) (field e 3 7)) = false →
        Refuses (.pwrGrazeConfig p) .pwrGrazeConfig p s stPwGrazeRef)) ∧
    (s.dev.mode ≠ .configure → s.dev.mode ≠ .ready → Refuses (.pwrGrazeConfig p) .pwrGrazeConfig p s stBadMode)) ∧
  (Reached .pwrMonitorConfig p s → p.len = 4 → ∀ m sev, m ≤ 23 → sev ≤ 3 → p.w 0 = m + 32 * sev → p.w 3 < 2 ^ 16 →
    ∀ lw hw la ha, lw = monitorValue m (p.w 1) → hw = monitorValue m (p.w 1 / 2 ^ 16) → la = monitorValue m (p.w 2) →
    ha = monitorValue m (p.w 2 / 2 ^ 16) →
    (la ≤ lw → lw < hw → hw ≤ ha → ∃ u, Answers (.pwrMonitorConfig p) .pwrMonitorConfig p s u [] ∧
      u = s.modPwr (fun q => { q with monitors := u.pwr.monitors }) ∧
      u.pwr.monitors = setAt s.pwr.monitors m { s.pwr.monitors.getD m Monitor.temperature with
        lowWarn := lw, highWarn := hw, lowAlarm := la, highAlarm := ha, alarmSev := sev, hyst := p.w 3 }) ∧
    (lw < la ∨ hw ≤ lw ∨ ha < hw → Refuses (.pwrMonitorConfig p) .pwrMonitorConfig p s stRange)) ∧
  (Reached .pwrDomainRetry p s → p.len = 1 → ∀ d, p.w 0 = d → 1 ≤ d → d ≤ 11 → domainAbsent s d = false →
    s.dev.mode = .configure ∨ s.dev.mode = .ready ∨ s.dev.mode = .safe →
    ((domain s d).failed = true → (domain s d).going = none → Defers (.pwrDomainRetry p) .pwrDomainRetry p s
      (s.modDomain d fun m => { m with going := some .on, since := s.now, retrying := false }) [d]) ∧
    ((domain s d).failed = true → (domain s d).going ≠ none → Defers (.pwrDomainRetry p) .pwrDomainRetry p s s [d]) ∧
    ((domain s d).failed = false → Refuses (.pwrDomainRetry p) .pwrDomainRetry p s stPwNotFailed))

/-! ### GRAPH and SCHED commands (04 R152–R161; 05 R185–R187) -/

/-- GRAPH.LOAD (04 R144, R154): the words enter GRAPH memory at their offset in the bank, the bank is LOADED, and its length grows;
FIRST clears the bank before, and the rest of memory stays as it is. An armed bank, or the active bank of a slot that is not STOPPED,
returns ST_GR_BANK_BUSY; the active bank takes words only in CONFIGURE and READY with no changeover pending; a bank that needs FIRST
returns ST_RANGE without it. GRAPH.ARM, GRAPH.DISARM and GRAPH.ROLLBACK (04 R144, R150, R152, R156) move the standby bank of a slot between its states, while no
changeover is pending. -/
def Obligations.GraphLoads : Prop :=
  (∀ (p : Packet) (s : State) (n : Nat) (b : Bool) (off : Nat) (k : Bank),
  Reached .graphLoad p s → Canonical s → 3 ≤ p.len → reservedSet (p.w 0) 0xFFFFFFF0 = false → reservedSet (p.w 1) 0xFFF80000 = false →
  n = field (p.w 0) 0 2 → b = bit (p.w 0) 2 → off = field (p.w 1) 0 19 → off + (p.len - 2) ≤ 524288 → k = (slotOf s n).bank b →
  (bit (p.w 0) 3 = false → k.state = .empty ∨ k.state = .previous ∨ k.state = .active → Refuses (.graphLoad p) .graphLoad p s stRange) ∧
  (k.state = .armed ∨ k.state = .armedBack → Refuses (.graphLoad p) .graphLoad p s stGrBankBusy) ∧
  (bit (p.w 0) 3 = true ∨ k.state = .loaded ∨ k.state = .verified → k.state ≠ .armed → k.state ≠ .armedBack → b = (slotOf s n).activeB →
    (slotState s n ≠ 0 → Refuses (.graphLoad p) .graphLoad p s stGrBankBusy) ∧
    (slotState s n = 0 → notConfiguring s = true ∨ changeoverPending s = true → Refuses (.graphLoad p) .graphLoad p s stBadMode)) ∧
  (bit (p.w 0) 3 = true ∨ k.state = .loaded ∨ k.state = .verified → k.state ≠ .armed → k.state ≠ .armedBack →
    b ≠ (slotOf s n).activeB ∨ (slotState s n = 0 ∧ notConfiguring s = false ∧ changeoverPending s = false) →
    ∃ u, exec (.graphLoad p) s = .next (u.conclude .graphLoad p stOk []) ∧ ((slotOf u n).bank b).state = .loaded ∧
      ((slotOf u n).bank b).length = max (if bit (p.w 0) 3 then 0 else k.length) (off + (p.len - 2)) ∧
      (∀ i < 4 * (p.len - 2), readByte u (bankAddr n b + 4 * off + i) = ((p.params.drop 2).flatMap bytesOf).getD i 0) ∧
      (∀ x, x < bankAddr n b + 4 * off ∨ bankAddr n b + 4 * off + 4 * (p.len - 2) ≤ x →
        readByte u x = if bit (p.w 0) 3 = true ∧ bankAddr n b ≤ x ∧ x < bankAddr n b + 2097152 then 0 else readByte s x) ∧
      u.loop = s.loop ∧ u.axis = s.axis ∧ u.dev = s.dev ∧ u.dio = s.dio)) ∧
  (∀ (p : Packet) (s : State) (n : Nat), p.len = 1 → p.w 0 = n → n < 4 →
  changeoverPending s = false → ∀ (st : BankState), (standbyBank s n).state = st →
  (Reached .graphArm p s →
    (st = .verified → genNewer s n = true → exec (.graphArm p) s =
      .next ((s.modBank n (!(slotOf s n).activeB) fun k => { k with state := .armed }).conclude .graphArm p stOk [])) ∧
    (st ≠ .verified → Refuses (.graphArm p) .graphArm p s stGrNotVerified) ∧
    (st = .verified → genNewer s n = false → Refuses (.graphArm p) .graphArm p s stGrGenOld)) ∧
  (Reached .graphDisarm p s →
    (st = .armed → exec (.graphDisarm p) s =
      .next ((s.modBank n (!(slotOf s n).activeB) fun k => { k with state := .verified }).conclude .graphDisarm p stOk [])) ∧
    (st = .armedBack → exec (.graphDisarm p) s =
      .next ((s.modBank n (!(slotOf s n).activeB) fun k => { k with state := .previous }).conclude .graphDisarm p stOk [])) ∧
    (st ≠ .armed → st ≠ .armedBack → Refuses (.graphDisarm p) .graphDisarm p s stGrNoPrevious)) ∧
  (Reached .graphRollback p s →
    (st ≠ .previous → Refuses (.graphRollback p) .graphRollback p s stGrNoPrevious) ∧
    (st = .previous → 1024 < ((standbyBank s n).plan.map (·.copies)).sum → Refuses (.graphRollback p) .graphRollback p s stGrCarry) ∧
    (st = .previous → ((standbyBank s n).plan.map (·.copies)).sum ≤ 1024 → exec (.graphRollback p) s =
      .next ((s.modBank n (!(slotOf s n).activeB) fun k => { k with state := .armedBack }).conclude .graphRollback p stOk
        (rollbackWords s n)))))

/-- GRAPH.VERIFY, GRAPH.CONTROL, GRAPH.STEP, GRAPH.VAR_READ and GRAPH.VAR_WRITE on a device with a control cycle (04 R145, R155,
R157, R158, R160): accepted, they wait for the service cores, for a cycle start, for the executions of the step, for a commit
point, for an input-ready point. -/
def Obligations.ProgramCommandsWait : Prop := ∀ (p : Packet) (s : State) (n : Nat), n = field (p.w 0) 0 2 → hasCycle s = true →
  (Reached .graphVerify p s → p.len = 1 → reservedSet (p.w 0) 0xFFFFFFF8 = false → ∀ k, k = (slotOf s n).bank (bit (p.w 0) 2) →
    (k.state ≠ .loaded → k.state ≠ .verified → Refuses (.graphVerify p) .graphVerify p s stRange) ∧
    (k.state = .loaded ∨ k.state = .verified → bit (p.w 0) 2 ≠ (slotOf s n).activeB → (activeBank s n).state = .loaded →
      Refuses (.graphVerify p) .graphVerify p s stGrNotVerified) ∧
    (k.state = .loaded ∨ k.state = .verified → bit (p.w 0) 2 = (slotOf s n).activeB ∨ (activeBank s n).state ≠ .loaded →
      Defers (.graphVerify p) .graphVerify p s s [])) ∧
  (Reached .graphControl p s → p.len = 1 → reservedSet (p.w 0) 0xFFFFFFE0 = false →
    (field (p.w 0) 2 3 = 0 → (activeBank s n).state ≠ .active → Refuses (.graphControl p) .graphControl p s stGrNotVerified) ∧
    (field (p.w 0) 2 3 = 4 → slotState s n ≠ 0 → Refuses (.graphControl p) .graphControl p s stBadMode) ∧
    ((field (p.w 0) 2 3 = 0 ∧ (activeBank s n).state = .active) ∨ field (p.w 0) 2 3 = 1 ∨ field (p.w 0) 2 3 = 2 ∨ field (p.w 0) 2 3 = 3 ∨
      (field (p.w 0) 2 3 = 4 ∧ slotState s n = 0) → Defers (.graphControl p) .graphControl p s s [])) ∧
  (Reached .graphStep p s → p.len = 2 → reservedSet (p.w 0) 0xFFFFFFF8 = false → reservedSet (p.w 1) 0xFFFF0000 = false →
    (field (p.w 1) 0 16 = 0 ↔ bit (p.w 0) 2 = true) →
    (slotState s n ≠ 2 → Refuses (.graphStep p) .graphStep p s stGrNotHeld) ∧
    (slotState s n = 2 → (slotOf s n).stepping ≠ none → Refuses (.graphStep p) .graphStep p s stBusy) ∧
    (∀ x i, slotState s n = 2 → (slotOf s n).stepping = none → (slotOf s n).exec = some x → slotBusy s n = false →
      lowestReady s n = some i → listsFull s (homeCore s n i) = false → ∃ t, exec (.graphStep p) s = .next t ∧
      (coreOf t (homeCore s n i)).step = (coreOf s (homeCore s n i)).step ++ [{ slot := n, op := i, prio := slotPrio s n, at' := s.now }] ∧
      (slotOf t n).stepping = some { period := bit (p.w 0) 2, left := field (p.w 1) 0 16 } ∧
      t.host.deferred = s.host.deferred ++ [{ op := .graphStep, packet := p, data := [n] }] ∧
      t.mem = s.mem ∧ t.loop = s.loop ∧ t.dev = s.dev ∧ t.cyc = s.cyc) ∧
    (slotState s n = 2 → (slotOf s n).stepping = none → (slotOf s n).exec = none → hasProgram s n = true → inputsReady s = false →
      Defers (.graphStep p) .graphStep p s
        (s.modSlot n fun k => { k with stepping := some { period := bit (p.w 0) 2, left := field (p.w 1) 0 16 } }) [n])) ∧
  (Reached .graphVarRead p s → p.len = 3 → reservedSet (p.w 0) 0xFFFFFFF8 = false → reservedSet (p.w 2) 0xFFE00000 = false →
    1 ≤ field (p.w 2) 10 11 → field (p.w 2) 10 11 ≤ 1024 →
    (findVar s n (p.w 1) = none → Refuses (.graphVarRead p) .graphVarRead p s stGrNoVar) ∧
    (∀ v, findVar s n (p.w 1) = some v → field (p.w 2) 0 10 + field (p.w 2) 10 11 ≤ v.count →
      Defers (.graphVarRead p) .graphVarRead p s s [])) ∧
  (Reached .graphVarWrite p s → reservedSet (p.w 0) 0xFFFFFFFC = false → reservedSet (p.w 2) 0xFFE00000 = false →
    1 ≤ field (p.w 2) 10 11 → field (p.w 2) 10 11 ≤ 1024 → ∀ v, findVar s n (p.w 1) = some v →
    p.len = 3 + field (p.w 2) 10 11 * tyWords v.type → field (p.w 2) 0 10 + field (p.w 2) 10 11 ≤ v.count → v.type ≠ 0 →
    (v.isState = true → Refuses (.graphVarWrite p) .graphVarWrite p s stGrStateVar) ∧
    (v.isState = false → Defers (.graphVarWrite p) .graphVarWrite p s s []))

/-- GRAPH.FORCE (04 R142, R159): a force of an existing element that is no state variable is entered or replaced, a release removes it,
RELEASE_ALL removes those of the slot, and LIST reports them; a full table returns ST_GR_FORCE_FULL. SCHED.CONFIG and SCHED.CLEAR_COUNTERS (05 R185, R187): the settings take effect at the next cycle start, at once without a control
cycle (the model's choice, log 60); the counters named become 0. -/
def Obligations.ForcesAndScheduler : Prop :=
  (∀ (p : Packet) (s : State) (n : Nat), Reached .graphForce p s →
  reservedSet (p.w 0) 0xFFFFFFF0 = false → n = field (p.w 0) 2 2 →
  (∀ v elem, forceVar s n (p.w 1) = some v → p.w 2 = elem → elem < v.count → elem < 1024 →
    ∀ isThis : Force → Bool, (∀ f, isThis f = (f.slot == v.slot && f.id == p.w 1 && f.elem == elem)) →
    (field (p.w 0) 0 2 = 0 → p.len = 5 → valueBad v.type (p.w 3) (p.w 4) = false →
      (v.isState = true → Refuses (.graphForce p) .graphForce p s stGrStateVar) ∧
      (v.isState = false → s.graph.forces.length < 256 ∨ s.graph.forces.any isThis = true →
        Answers (.graphForce p) .graphForce p s (s.modGraph fun g => { g with forces := g.forces.filter (fun e => !isThis e) ++
          [{ slot := v.slot, id := p.w 1, elem := elem, value := p.w 3 + (if 4 ≤ v.type then 2 ^ 32 * p.w 4 else 0) }] }) []) ∧
      (v.isState = false → 256 ≤ s.graph.forces.length → s.graph.forces.any isThis = false →
        Refuses (.graphForce p) .graphForce p s stGrForceFull)) ∧
    (field (p.w 0) 0 2 = 1 → p.len = 3 →
      Answers (.graphForce p) .graphForce p s (s.modGraph fun g => { g with forces := g.forces.filter fun e => !isThis e }) [])) ∧
  (field (p.w 0) 0 2 = 2 → p.len = 1 → Answers (.graphForce p) .graphForce p s
    (s.modGraph fun g => { g with forces := g.forces.filter fun e => e.slot.isSome && e.slot != some n }) []) ∧
  (field (p.w 0) 0 2 = 3 → p.len = 1 → ∃ ws, Answers (.graphForce p) .graphForce p s s ws ∧ ws.length = 1 + 4 * s.graph.forces.length ∧
    ws.getD 0 0 = wd s.graph.forces.length)) ∧
  (∀ (p : Packet) (s : State),
  (Reached .schedConfig p s → p.len = 3 → reservedSet (p.w 0) 0xFFFFFFF8 = false → ∀ c : SchedChange, c.w1 = p.w 1 → c.w2 = p.w 2 →
    (bit (p.w 0) 0 = true → reservedSet (p.w 1) 0xFFF0F800 = false → field (p.w 1) 0 10 ≤ 1000 → reservedSet (p.w 2) 0xFFFF0000 = false →
      field (p.w 2) 0 16 < 2 ^ graphCores s → c.slot = some (field (p.w 0) 1 2) →
      hasProgram s (field (p.w 0) 1 2) = false ∨
        field (p.w 2) 0 16 &&& imgCoreMask s (activeAddr s (field (p.w 0) 1 2)) ≠ 0 →
      Answers (.schedConfig p) .schedConfig p s
        (if hasCycle s then s.modSched fun u => { u with changes := u.changes ++ [c] } else applySched s c) []) ∧
    (bit (p.w 0) 0 = false → field (p.w 0) 1 2 = 0 → reservedSet (p.w 1) 0xFFF0 = false → field (p.w 1) 0 4 ≠ 0 →
      reservedSet (p.w 2) 0xFFFF0000 = false → 100 ≤ field (p.w 2) 0 16 → c.slot = none →
      Answers (.schedConfig p) .schedConfig p s
        (if hasCycle s then s.modSched fun u => { u with changes := u.changes ++ [c] } else applySched s c) [])) ∧
  (Reached .schedClearCounters p s →
    (p.len ≠ 1 → Refuses (.schedClearCounters p) .schedClearCounters p s stBadLength) ∧
    (p.len = 1 → reservedSet (p.w 0) 0xFFFFFFFC = true ∨ p.w 0 = 0 → Refuses (.schedClearCounters p) .schedClearCounters p s stRange) ∧
    (p.len = 1 → reservedSet (p.w 0) 0xFFFFFFFC = false → p.w 0 ≠ 0 → Tab.wf {} s.sched.cores → Tab.wf {} s.sched.slots → ∃ u,
      Answers (.schedClearCounters p) .schedClearCounters p s u [] ∧ u = s.modSched (fun _ => u.sched) ∧
      (∀ i, i < 16 → coreOf u i = if bit (p.w 0) 0 then
        { coreOf s i with opsRun := 0, busyNs := 0, taken := 0, given := 0, displaced := 0, misses := 0, bpStallNs := 0, spilled := 0, readyHigh := 0 }
        else coreOf s i) ∧
      (∀ n, n < 4 → schedOf u n = if bit (p.w 0) 1 then
        { schedOf s n with executions := 0, overruns := 0, skipped := 0, cancelled := 0, delayFull := 0, lastExecNs := 0, maxExecNs := 0, budgetExceeded := 0 }
        else schedOf s n))))

/-! ### LOOP commands (06 R222–R231) -/

/-- LOOP.CHANNEL_CONFIG (06 R195, R217, R223): words 0 to 11 enter the channel's block and stand there as written, with the processor
that PROC_AUTO chose; other modes, a loaded processor, a destination in use and, in RUN and HOLD, a reference to what is not there turn it
away; a channel being disabled writes OUT_SUBST and takes the requests that wait for its samples (log 62). -/
def Obligations.LoopChannels : Prop := ∀ (p : Packet) (s s1 : State) (c w0 : Nat) (w : Nat → Nat),
  Reached .loopChannelConfig p s → Canonical s → p.len = 13 → c = field (p.w 0) 0 10 → c < loopChannels s →
  reservedSet (p.w 0) 0xFFFFFC00 = false → (w = fun i => p.w (1 + i)) → loopCfgRange s w = false →
  w0 = (if bit (w 0) 18 && bit (w 0) 14 then withField (w 0) 15 3 (chooseProc s c) else w 0) →
  s1 = s.writeWords (loopAddr c) (wd w0 :: (p.params.drop 2).take 11) →
  ((s.dev.mode = .safe ∨ s.dev.mode = .graze ∨ (s.dev.mode = .run ∨ s.dev.mode = .hold) ∧ loopEnabled s c = true ∧ bit (w 0) 14 = true) →
    Refuses (.loopChannelConfig p) .loopChannelConfig p s stBadMode) ∧
  (bit (w 0) 14 = true → s.dev.mode = .configure ∨ s.dev.mode = .ready ∨ (s.dev.mode = .run ∨ s.dev.mode = .hold) ∧ loopEnabled s c = false →
    (procOver s1 (field w0 15 3) = true → Refuses (.loopChannelConfig p) .loopChannelConfig p s stLpBudget) ∧
    (procOver s1 (field w0 15 3) = false → (∃ d ∈ enabledLoops s, d ≠ c ∧ sameDest (cfgW s d 7) (w 7) = true) →
      Refuses (.loopChannelConfig p) .loopChannelConfig p s stLpDestUsed) ∧
    (procOver s1 (field w0 15 3) = false → (∀ d ∈ enabledLoops s, d ≠ c → sameDest (cfgW s d 7) (w 7) = false) →
      (s.dev.mode = .run ∨ s.dev.mode = .hold → loopRefBad s w = true → Refuses (.loopChannelConfig p) .loopChannelConfig p s stLpRef) ∧
      (s.dev.mode = .configure ∨ s.dev.mode = .ready ∨ loopRefBad s w = false →
        ∃ u, Answers (.loopChannelConfig p) .loopChannelConfig p s u (if bit (w 0) 18 then [wd (field w0 15 3)] else []) ∧
        cfgW u c 0 = w0 % 2 ^ 32 ∧ (∀ i, 1 ≤ i → i < 12 → cfgW u c i = w i) ∧ cfgW u c 12 = cfgW s c 12 ∧ cfgW u c 13 = cfgW s c 13 ∧
        (loopOf u c).fresh = true ∧ (∀ d < loopChannels s, d ≠ c → ∀ i < 14, cfgW u d i = cfgW s d i) ∧
        (loopEnabled s c = false → u.dio = s.dio) ∧ u.drove = s.drove ∧ u.dev = s.dev ∧ u.axis = s.axis ∧ u.graph = s.graph))) ∧
  (s.dev.mode ≠ .safe → s.dev.mode ≠ .graze → bit (w 0) 14 = false →
    ∃ u, Answers (.loopChannelConfig p) .loopChannelConfig p s u (if bit (w 0) 18 then [wd (field (w 0) 15 3)] else []) ∧
    (∀ i < 12, cfgW u c i = w i) ∧ (∀ d < loopChannels s, d ≠ c → ∀ i < 14, cfgW u d i = cfgW s d i) ∧ u.dev = s.dev ∧ u.axis = s.axis ∧
    (loopEnabled s c = false → u.dio = s.dio ∧ u.drove.outWords = s.drove.outWords) ∧
    (loopEnabled s c = true → field (cfgW s c 7) 0 4 = 1 → s.dio.substitute = false →
      u.dio = (s.modPwm (field (cfgW s c 7) 4 5) fun q => { q with shadow := clampDuty (destValue s c (cfgW s c 10)) }).dio))

/-- LOOP.COEF_WRITE, LOOP.BANK_ARM and LOOP.REP_CONFIG (06 R203, R208, R210, R224, R225, R229): bank words stand where they are written;
a range is armed whole or not at all; a table assigned reads 0. -/
def Obligations.LoopBanks : Prop := ∀ (p : Packet) (s : State), Canonical s →
  (Reached .loopCoefWrite p s → 2 ≤ p.len → ∀ c first act b, c = field (p.w 0) 0 10 → act = bit (p.w 0) 10 → first = field (p.w 0) 16 5 →
    first + (p.len - 1) ≤ 30 → c < loopChannels s → reservedSet (p.w 0) 0xFFE0F800 = false → b = (activeB s c != !act) →
    (act = false → loopArmed s c = true → Refuses (.loopCoefWrite p) .loopCoefWrite p s stLpArmed) ∧
    (act = true → loopEnabled s c = true → s.dev.mode ≠ .configure → Refuses (.loopCoefWrite p) .loopCoefWrite p s stLpEnabled) ∧
    ((act = false ∧ loopArmed s c = false) ∨ (act = true ∧ (loopEnabled s c = false ∨ s.dev.mode = .configure)) →
      ∃ u, Answers (.loopCoefWrite p) .loopCoefWrite p s u [] ∧
      (∀ i < p.len - 1, bankW u c b (first + i) = p.w (1 + i)) ∧
      (∀ i < 30, i < first ∨ first + (p.len - 1) ≤ i → bankW u c b i = bankW s c b i) ∧
      (∀ i < 30, bankW u c (!b) i = bankW s c (!b) i) ∧ (∀ i < 23, stW u c i = stW s c i) ∧
      u.loop = s.loop ∧ u.dev = s.dev ∧ u.dio = s.dio ∧ u.axis = s.axis)) ∧
  (Reached .loopBankArm p s → p.len = 1 → ∀ lo hi, lo = field (p.w 0) 0 10 → hi = field (p.w 0) 16 10 → lo ≤ hi → hi < loopChannels s →
    reservedSet (p.w 0) 0x7C00FC00 = false →
    (bit (p.w 0) 31 = true → changeoverPending s = true → Refuses (.loopBankArm p) .loopBankArm p s stBusy) ∧
    (bit (p.w 0) 31 = true → changeoverPending s = false → lo = hi → ∃ u,
      Answers (.loopBankArm p) .loopBankArm p s u [wd (flag (loopArmed s lo)), 0] ∧ loopArmed u lo = false ∧
      (∀ i < 30, ∀ b, bankW u lo b i = bankW s lo b i) ∧ (∀ d, d ≠ lo → loopOf u d = loopOf s d) ∧
      (loopArmed s lo = true → (loopOf u lo).swapDue = false)) ∧
    (bit (p.w 0) 31 = false → (∀ c, lo ≤ c → c ≤ hi → bankBad s c (!activeB s c) = none) → ∃ u,
      Answers (.loopBankArm p) .loopBankArm p s u [wd (hi - lo + 1), 0] ∧ (∀ c, lo ≤ c → c ≤ hi → loopArmed u c = true) ∧
      (∀ c b i, i < 30 → bankW u c b i = bankW s c b i) ∧ (∀ c, activeB u c = activeB s c) ∧ u.loop = s.loop ∧ u.dio = s.dio) ∧
    (bit (p.w 0) 31 = false → ∀ c i, lo ≤ c → c ≤ hi → (∀ d, lo ≤ d → d < c → bankBad s d (!activeB s d) = none) →
      bankBad s c (!activeB s c) = some i →
      exec (.loopBankArm p) s = .next (s.conclude .loopBankArm p stLpCoef [0, wd (c + place 16 i)]))) ∧
  (Reached .loopRepConfig p s → p.len = 2 → repChannels s ≠ 0 → ∀ c t, c = field (p.w 0) 0 10 → t = field (p.w 0) 10 7 →
    c < loopChannels s → reservedSet (p.w 0) 0xF8000000 = false → bit (p.w 0) 18 = false → field (p.w 0) 19 8 = 0 → p.w 1 = 0 →
    (repState s c ≠ 0 → (∀ d < loopChannels s, d ≠ c → hasTable s d = true → tableOf s d ≠ t) →
      Refuses (.loopRepConfig p) .loopRepConfig p s stLpRepActive) ∧
    (bit (p.w 0) 17 = true → (∃ d < loopChannels s, d ≠ c ∧ hasTable s d = true ∧ tableOf s d = t) →
      Refuses (.loopRepConfig p) .loopRepConfig p s stLpTableUsed) ∧
    (repState s c = 0 → bit (p.w 0) 17 = false ∨ (∀ d < loopChannels s, d ≠ c → hasTable s d = true → tableOf s d ≠ t) →
      ∃ u, Answers (.loopRepConfig p) .loopRepConfig p s u [] ∧ hasTable u c = bit (p.w 0) 17 ∧ tableOf u c = t ∧
      ((∀ d < loopChannels s, d ≠ c → hasTable s d = true → tableOf s d ≠ t) → ∀ j < 4096, readWord u (pointAddr t j) = 0) ∧
      (hasTable s c = true → ∀ j < 4096, readWord u (pointAddr (tableOf s c) j) = 0) ∧ (∀ i < 12, cfgW u c i = cfgW s c i) ∧ u.loop = s.loop ∧ u.axis = s.axis))

/-- LOOP.BANK_SWAP, LOOP.MODE and LOOP.REP_CONTROL (06 R198, R209, R214, R222, R226, R227, R230): a channel that takes samples takes the
command at its next one, the reply waiting for all of them; a disabled channel takes it at once (the model's choice, log 62). LOOP.LATENCY (06 R220, R231): the nine figures of the channel; CLEAR_MAX sets LAT_MAX_NS to 0 after it is read. -/
def Obligations.LoopSampleCommands : Prop :=
  (∀ (p : Packet) (s : State) (lo hi : Nat), lo = field (p.w 0) 0 10 → hi = field (p.w 0) 16 10 →
  lo ≤ hi → hi < loopChannels s →
  (Reached .loopMode p s → p.len = 2 → reservedSet (p.w 0) 0xE000FC00 = false → (bit (p.w 0) 28 = true ∨ field (p.w 0) 26 2 = 0) →
    Fmt.b32.isFinite (p.w 1) = true →
    ((∀ c, lo ≤ c → c ≤ hi → loopEnabled s c = true) →
      Defers (.loopMode p) .loopMode p s s ((hi - lo + 1) :: rangeOf lo hi)) ∧
    (Canonical s → lo = hi → loopEnabled s lo = false → ∃ u, Answers (.loopMode p) .loopMode p s u [] ∧
      stW u lo 14 = p.w 1 ∧ bit (stW u lo 13) 2 = bit (p.w 0) 28 ∧ (bit (p.w 0) 28 = true → field (stW u lo 13) 0 2 = field (p.w 0) 26 2) ∧
      (bit (p.w 0) 28 = false → field (stW u lo 13) 0 2 = field (stW s lo 13) 0 2) ∧ activeB u lo = activeB s lo ∧
      loopArmed u lo = loopArmed s lo ∧ (∀ i < 13, stW u lo i = stW s lo i) ∧ u.loop = s.loop ∧ u.dio = s.dio)) ∧
  (Reached .loopBankSwap p s → p.len = 1 → reservedSet (p.w 0) 0xFC00FC00 = false →
    (s.dev.mode = .safe ∨ s.dev.mode = .graze → Refuses (.loopBankSwap p) .loopBankSwap p s stBadMode) ∧
    (s.dev.mode ≠ .safe → s.dev.mode ≠ .graze →
      (changeoverPending s = true → Refuses (.loopBankSwap p) .loopBankSwap p s stBusy) ∧
      (changeoverPending s = false → (∀ c, lo ≤ c → c ≤ hi → loopArmed s c = false) →
        Refuses (.loopBankSwap p) .loopBankSwap p s stLpNotArmed) ∧
      (changeoverPending s = false → s.dev.mode ≠ .configure → (∀ c, lo ≤ c → c ≤ hi → loopEnabled s c = true ∧ loopArmed s c = true) →
        Defers (.loopBankSwap p) .loopBankSwap p s s ((hi - lo + 1) :: rangeOf lo hi)) ∧
      (changeoverPending s = false → s.dev.mode = .configure → Canonical s → lo = hi → loopArmed s lo = true → hasTable s lo = false →
        ∃ u, Answers (.loopBankSwap p) .loopBankSwap p s u [wd 1] ∧ activeB u lo = !activeB s lo ∧ loopArmed u lo = false ∧
        (∀ b i, i < 30 → bankW u lo b i = bankW s lo b i) ∧ u.dio = s.dio ∧ u.dev = s.dev))) ∧
  (Reached .loopRepControl p s → p.len = 1 → reservedSet (p.w 0) 0xCC00FC00 = false →
    (repChannels s = 0 → Refuses (.loopRepControl p) .loopRepControl p s stRange) ∧
    (repChannels s ≠ 0 → (∀ c, lo ≤ c → c ≤ hi → hasTable s c = false) → Answers (.loopRepControl p) .loopRepControl p s s [wd 0]) ∧
    (repChannels s ≠ 0 → (∀ c, lo ≤ c → c ≤ hi → hasTable s c = true ∧ loopEnabled s c = true) →
      Defers (.loopRepControl p) .loopRepControl p s s ((hi - lo + 1) :: rangeOf lo hi)))) ∧
  (∀ (p : Packet) (s : State) (c : Nat), Reached .loopLatency p s → p.len = 1 →
  c = field (p.w 0) 0 10 → reservedSet (p.w 0) 0x7FFFFC00 = false →
  (loopChannels s ≤ c → Refuses (.loopLatency p) .loopLatency p s stRange) ∧
  (c < loopChannels s → ∃ ws, ws = [wd (loopProc s c), wd (releaseNs s c), wd (respNs s c), wd (outNs s c),
      wd (if loopEnabled s c then boundNs s c else 0), wd (stW s c 20), wd (stW s c 21), wd (procLoad s (loopProc s c)), wd (destPeriodNs s c)] ∧
    (bit (p.w 0) 31 = false → Answers (.loopLatency p) .loopLatency p s s ws) ∧
    (bit (p.w 0) 31 = true → Canonical s → ∃ u, Answers (.loopLatency p) .loopLatency p s u ws ∧ stW u c 21 = 0 ∧
      (∀ i < 21, stW u c i = stW s c i) ∧ (∀ i < 14, cfgW u c i = cfgW s c i) ∧ u.loop = s.loop ∧ u.dio = s.dio)))

/-! ### AXIS commands (07 R261–R267) -/

/-- AXIS.CONFIG, AXIS.TABLE_WRITE and AXIS.STANDSTILL (07 R234, R237, R262, R263, R267). AXIS.START, AXIS.STOP and AXIS.SET_POSITION (07 R261, R264, R266): a start needs RUN or HOLD, and SAFE and GRAZE take no position;
without AT_CYCLE they wait for the start of the next cycle, where each is answered; what they do there is in AcceptedCommandsFinish. -/
def Obligations.AxisCommands : Prop :=
  (∀ (p : Packet) (s : State), Tab.wf {} s.axis.ch →
  (Reached .axisConfig p s → p.len = 17 → ∀ n kind c, n = field (p.w 0) 0 8 → kind = field (p.w 0) 8 2 → c = ({ cfg := p.params } : AxisCh) →
    axisCfgRange s c n kind = false →
    (s.dev.mode ≠ .configure → s.dev.mode ≠ .ready → Refuses (.axisConfig p) .axisConfig p s stBadMode) ∧
    (s.dev.mode = .configure ∨ s.dev.mode = .ready →
      (kind = 2 → (∃ d, d ≠ n ∧ (axisOf s d).kind = 2 ∧ (axisOf s d).pulseAxis = c.pulseAxis) →
        Refuses (.axisConfig p) .axisConfig p s stAxInUse) ∧
      (kind ≠ 2 ∨ (∀ d, d ≠ n → (axisOf s d).kind = 2 → (axisOf s d).pulseAxis ≠ c.pulseAxis) →
        ∃ u, Answers (.axisConfig p) .axisConfig p s u [] ∧ u = s.modAxis (fun _ => u.axis) ∧ (axisOf u n).kind = kind ∧
        (kind ≠ 0 → (axisOf u n).cfg = p.params ∧ (axisOf u n).m = (axisOf s n).m ∧ (axisOf u n).ss1Refused = 0 ∧
          (axisOf u n).pulse.stepCount = 0 ∧ (axisOf u n).pulse.rateClamps = 0 ∧ (axisOf u n).pulse.dirDelays = 0) ∧
        (kind = 0 → axisOf u n = {}) ∧ (∀ d, d ≠ n → axisOf u d = axisOf s d)))) ∧
  (Reached .axisTableWrite p s → Canonical s → ∀ first k, first = p.w 0 → p.len = 1 + 6 * k → 1 ≤ k → k ≤ 681 → first + k ≤ 65536 →
    ∀ entry : Nat → List Word, (∀ i, entry i = (p.params.drop (1 + 6 * i)).take 6) →
    (∀ i < k, entryRefused (first + i) (entry i) = true → (∀ j < i, entryRefused (first + j) (entry j) = false) →
      exec (.axisTableWrite p) s = .next (s.conclude .axisTableWrite p stAxSegment [wd (first + i)])) ∧
    ((∀ i < k, entryRefused (first + i) (entry i) = false) → entryInUse s first k = true →
      Refuses (.axisTableWrite p) .axisTableWrite p s stAxInUse) ∧
    ((∀ i < k, entryRefused (first + i) (entry i) = false) → entryInUse s first k = false →
      ∃ u, Answers (.axisTableWrite p) .axisTableWrite p s u [] ∧
      (∀ i < k, readWords u (segAddr (first + i)) 6 = entry i) ∧
      (∀ x, x < segAddr first ∨ segAddr (first + k) ≤ x → readByte u x = readByte s x) ∧
      u.axis = s.axis ∧ u.loop = s.loop ∧ u.graph = s.graph ∧ u.dev = s.dev)) ∧
  (Reached .axisStandstill p s → p.len = 1 → ∀ n, n = field (p.w 0) 0 8 → n < axes s → reservedSet (p.w 0) 0xF800 = false →
    field (p.w 0) 8 2 ≠ 3 →
    ((axisOf s n).kind = 0 → Refuses (.axisStandstill p) .axisStandstill p s stAxNotConfigured) ∧
    ((axisOf s n).kind ≠ 0 → ∃ u, Answers (.axisStandstill p) .axisStandstill p s u [] ∧
      (axisOf u n).standstill = field (p.w 0) 8 2 ∧ (axisOf u n).standDelayMs = field (p.w 0) 16 16 ∧
      (((axisOf s n).carried s (usNow s)).segFault = false →
        (∀ i < 16, (axisOf u n).w i = (axisOf s n).w i) ∧ (axisOf u n).m = ((axisOf s n).carried s (usNow s)).m ∧
        (bit (p.w 0) 10 = true → (axisOf u n).m.state = .idle → (axisOf u n).standing = false) ∧
        (bit (p.w 0) 10 = false → (axisOf u n).standing = (axisOf s n).standing) ∧ (∀ d, d ≠ n → axisOf u d = axisOf s d))))) ∧
  (∀ (p : Packet) (s : State),
  (Reached .axisStart p s → p.len = 2 → reservedSet (p.w 0) 0xFFFFFF00 = false → reservedSet (p.w 1) 0xFFFF0000 = false →
    (axes s ≤ field (p.w 0) 0 8 → Refuses (.axisStart p) .axisStart p s stRange) ∧
    (field (p.w 0) 0 8 < axes s → s.dev.mode ≠ .run → s.dev.mode ≠ .hold → Refuses (.axisStart p) .axisStart p s stBadMode) ∧
    (field (p.w 0) 0 8 < axes s → s.dev.mode = .run ∨ s.dev.mode = .hold → Defers (.axisStart p) .axisStart p s s [])) ∧
  (Reached .axisStop p s → p.len = 1 → reservedSet (p.w 0) 0xFFFFF800 = false → field (p.w 0) 0 8 < axes s →
    (bit (p.w 0) 10 = true → field (p.w 0) 0 8 ≠ 0 → Refuses (.axisStop p) .axisStop p s stRange) ∧
    (bit (p.w 0) 10 = false ∨ field (p.w 0) 0 8 = 0 → Defers (.axisStop p) .axisStop p s s [])) ∧
  (Reached .axisSetPosition p s → p.len = 3 → reservedSet (p.w 0) 0xFFFFFC00 = false → field (p.w 0) 0 8 < axes s →
    (field (p.w 0) 8 2 = 3 ∨ field (p.w 0) 8 2 = 1 ∧ (p.w 1 ≠ 0 ∨ p.w 2 ≠ 0) → Refuses (.axisSetPosition p) .axisSetPosition p s stRange) ∧
    (field (p.w 0) 8 2 = 0 ∨ field (p.w 0) 8 2 = 2 ∨ field (p.w 0) 8 2 = 1 ∧ p.w 1 = 0 ∧ p.w 2 = 0 →
      (s.dev.mode = .safe ∨ s.dev.mode = .graze → Refuses (.axisSetPosition p) .axisSetPosition p s stBadMode) ∧
      (s.dev.mode ≠ .safe → s.dev.mode ≠ .graze → Defers (.axisSetPosition p) .axisSetPosition p s s []))))

/-! ### ADC commands (08 R293–R300) -/

/-- ADC.CONFIG, ADC.TABLE_WRITE, ADC.GROUP_CONFIG and ADC.CAL_WRITE (08 R273, R274, R278, R294, R295, R296, R299): the settings written
stand in the converter, the group and the working calibration set; what each names and nothing else changes. -/
def Obligations.ConverterSettings : Prop := ∀ (p : Packet) (s : State), Tab.wf {} s.adc.convs → Tab.wf none s.adc.calSet →
  (Reached .adcConfig p s → p.len = 2 → reservedSet (p.w 0) 0xFFFFFFC0 = false → reservedSet (p.w 1) 0xFFFF0000 = false →
    ∀ c, c = field (p.w 0) 0 4 →
    (s.dev.mode ≠ .configure → s.dev.mode ≠ .ready → Refuses (.adcConfig p) .adcConfig p s stBadMode) ∧
    (s.dev.mode = .configure ∨ s.dev.mode = .ready → ∃ u, Answers (.adcConfig p) .adcConfig p s u [] ∧ u = s.modAdc (fun _ => u.adc) ∧
      (convOf u c).lowPower = bit (p.w 0) 4 ∧ (convOf u c).ovrFault = bit (p.w 0) 5 ∧ (convOf u c).ranges = p.w 1 ∧
      (convOf u c).faulted = false ∧ (convOf u c).configured = true ∧ (convOf u c).table = (convOf s c).table ∧
      (convOf u c).conversions = (convOf s c).conversions ∧ (∀ d, d ≠ c → convOf u d = convOf s d) ∧
      u.adc.groups = s.adc.groups ∧ u.adc.calSet = s.adc.calSet)) ∧
  (Reached .adcTableWrite p s → ∀ c len, c = field (p.w 0) 0 4 → len = field (p.w 0) 4 7 → p.len = 1 + len → len ≤ 64 →
    reservedSet (p.w 0) 0xFFFFF800 = false → (∀ i < len, reservedSet (p.w (1 + i)) 0xF8 = false) →
    ((convOf s c).faulted = true → Refuses (.adcTableWrite p) .adcTableWrite p s stAdFaulted) ∧
    ((convOf s c).faulted = false → ∃ u, Answers (.adcTableWrite p) .adcTableWrite p s u [] ∧ u = s.modAdc (fun _ => u.adc) ∧
      (convOf u c).table = (List.range len).map (fun i => p.w (1 + i)) ∧
      (∀ k, k = (convOf s c).next s.now →
        ((∃ pos, k.busy = some (.table, pos)) → (convOf u c).busy = k.busy ∧ (convOf u c).newTable = true) ∧
        (k.busy = none → k.calibration = none → 1 ≤ len →
          (convOf u c).busy = some (.table, entryInput (p.w 1)) ∧ (convOf u c).entry = 0)) ∧
      (∀ d, d ≠ c → convOf u d = convOf s d) ∧ u.adc.groups = s.adc.groups ∧ u.adc.results = s.adc.results)) ∧
  (Reached .adcGroupConfig p s → p.len = 4 → reservedSet (p.w 0) 0xFFF00000 = false → reservedSet (p.w 1) 0xFFFF0000 = false →
    reservedSet (p.w 2) 0xC0000000 = false → reservedSet (p.w 3) 0xFFFC0000 = false → ∀ g, g = field (p.w 0) 0 2 →
    (field (p.w 0) 2 2 = 2 → 10 ≤ field (p.w 0) 6 14 ∧ field (p.w 0) 6 14 ≤ 10000) → (field (p.w 0) 2 2 ≠ 2 → field (p.w 0) 6 14 = 0) →
    s.dev.mode = .configure ∨ s.dev.mode = .ready → Tab.wf {} s.adc.groups →
    ((∃ o < 4, o ≠ g ∧ (look {} s.adc.groups o).convMask &&& p.w 1 ≠ 0) → Refuses (.adcGroupConfig p) .adcGroupConfig p s stAdGroupUsed) ∧
    ((∀ o < 4, o ≠ g → (look {} s.adc.groups o).convMask &&& p.w 1 = 0) → ∃ u, Answers (.adcGroupConfig p) .adcGroupConfig p s u [] ∧
      u = s.modAdc (fun a => { a with groups := u.adc.groups }) ∧ look {} u.adc.groups g =
        ({ trig := field (p.w 0) 2 2, pin := field (p.w 0) 4 2, gridUs := field (p.w 0) 6 14, convMask := p.w 1,
           sel := p.w 2 + place 30 (p.w 3) } : AdcGroup) ∧
      (∀ o, o ≠ g → look {} u.adc.groups o = look {} s.adc.groups o))) ∧
  (Reached .adcCalWrite p s → ∀ first n r, first = field (p.w 0) 0 7 → n = field (p.w 0) 7 8 → r = field (p.w 0) 15 2 → p.len = 1 + 2 * n →
    1 ≤ n → first + n ≤ 128 → reservedSet (p.w 0) 0xFFFE0000 = false → s.dev.mode = .configure ∨ s.dev.mode = .ready →
    ((∃ i < n, calInRange (signed 32 (p.w (1 + 2 * i))) (p.w (2 + 2 * i)) = false) → Refuses (.adcCalWrite p) .adcCalWrite p s stAdCalRange) ∧
    ((∀ i < n, calInRange (signed 32 (p.w (1 + 2 * i))) (p.w (2 + 2 * i)) = true) → ∃ u, Answers (.adcCalWrite p) .adcCalWrite p s u [] ∧
      u = s.modAdc (fun a => { a with calSet := u.adc.calSet }) ∧
      (∀ i < n, calOf u (first + i) r = (signed 32 (p.w (1 + 2 * i)), p.w (2 + 2 * i))) ∧
      (∀ k q, q < 4 → q ≠ r ∨ k < first ∨ first + n ≤ k → calOf u k q = calOf s k q)))

/-- ADC.URGENT and ADC.CALIBRATE (08 R275, R276, R280, R297, R298): a request that meets a group or an urgent conversion is dropped and
counted; else the converter converts, and the answer follows at the completion. DIO.READ, DIO.WRITE and DIO.STATUS (08 R286, R289, R304, R305, R306): levels and counts; substitute values; status, the read of
which clears QUAD_ERR. -/
def Obligations.ConversionsAndIo : Prop :=
  (∀ (p : Packet) (s : State) (n : Nat) (k j : Conv), Tab.wf {} s.adc.convs →
  n = field (p.w 0) 0 7 → k = convOf s (n / 8) → j = k.next s.now →
  (Reached .adcUrgent p s → p.len = 1 → reservedSet (p.w 0) 0xFFFFFF80 = false →
    (k.faulted = true → Refuses (.adcUrgent p) .adcUrgent p s stAdFaulted) ∧
    (k.faulted = false → (k.waitingUrgent ≠ none ∨ (∃ g pos, k.busy = some (.group g, pos)) ∨ ∃ v pos, k.busy = some (.urgent v, pos)) →
      ∃ u, exec (.adcUrgent p) s = .next (u.conclude .adcUrgent p stAdDropped []) ∧ u = s.modAdc (fun a => { a with convs := u.adc.convs }) ∧
      convOf u (n / 8) = { k with urgentDropped := sat32 k.urgentDropped } ∧ ∀ d, d ≠ n / 8 → convOf u d = convOf s d) ∧
    (k.faulted = false → k.waitingUrgent = none → j.busy = none → ∃ u, Defers (.adcUrgent p) .adcUrgent p s u [n] ∧
      u = s.modAdc (fun a => { a with convs := u.adc.convs }) ∧
      convOf u (n / 8) = k.begin (.urgent { input := n, byOp := none }) (n % 8) ∧ ∀ d, d ≠ n / 8 → convOf u d = convOf s d) ∧
    (k.faulted = false → k.waitingUrgent = none → ((∃ pos, j.busy = some (.calibration, pos)) ∨ ∃ pos, j.busy = some (.table, pos)) →
      ∃ u, Defers (.adcUrgent p) .adcUrgent p s u [n] ∧ convOf u (n / 8) = { j with waitingUrgent := some { input := n, byOp := none } })) ∧
  (Reached .adcCalibrate p s → p.len = 2 → reservedSet (p.w 0) 0xFFFFFF00 = false → refInRange (rangeOfInput s n) (p.w 1) = true →
    (s.dev.mode ≠ .configure → s.dev.mode ≠ .ready → Refuses (.adcCalibrate p) .adcCalibrate p s stBadMode) ∧
    (s.dev.mode = .configure ∨ s.dev.mode = .ready →
      (k.faulted = false → bit (p.w 0) 7 = true → look none s.adc.zeroSteps (4 * n + rangeOfInput s n) = none →
        Refuses (.adcCalibrate p) .adcCalibrate p s stAdCalRef) ∧
      (k.faulted = false → bit (p.w 0) 7 = false → k.calibration ≠ none → Refuses (.adcCalibrate p) .adcCalibrate p s stBusy) ∧
      (k.faulted = false → bit (p.w 0) 7 = false ∨ (∃ m v, look none s.adc.zeroSteps (4 * n + rangeOfInput s n) = some (m, v) ∧
          (spanOf (rangeOfInput s n) * 2 ^ 149 : Int) ≤ 2 * (exact149 (p.w 1) - exact149 v)) → k.calibration = none →
        ∃ u, Defers (.adcCalibrate p) .adcCalibrate p s u [n] ∧ u = s.modAdc (fun a => { a with convs := u.adc.convs }) ∧
        (convOf u (n / 8)).calibration = some { input := n, full := bit (p.w 0) 7, refV := p.w 1 } ∧
        (j.busy = none → (convOf u (n / 8)).busy = some (.calibration, n % 8)) ∧ (j.busy ≠ none → (convOf u (n / 8)).busy = j.busy) ∧
        (∀ d, d ≠ n / 8 → convOf u d = convOf s d))))) ∧
  (∀ (p : Packet) (s : State), Tab.wf {} s.dio.douts → Tab.wf {} s.dio.pwms → Tab.wf {} s.dio.encs →
  (Reached .dioRead p s → p.len = 0 → ∃ u ws, Answers (.dioRead p) .dioRead p s u ws ∧ u = settleDins s ∧ ws.length = 20 ∧
    (∀ k < 2, ∀ i < 32, bit (ws.getD k 0).toNat i = (dinOf u (32 * k + i)).logical) ∧
    (∀ k < 2, ∀ i < 32, bit (ws.getD (2 + k) 0).toNat i = (doutOf s (32 * k + i)).readback) ∧
    (∀ n < 16, ws.getD (4 + n) 0 = wd (encoderCount s n))) ∧
  (Reached .dioWrite p s → reservedSet (p.w 0) 0xFFFFFFC0 = false →
    (bit (p.w 0) 0 = true → p.len = 2 → inUnitInterval (p.w 1) = true → ∀ n, n = field (p.w 0) 1 5 →
      (s.dev.mode = .safe ∨ s.dev.mode = .graze → Refuses (.dioWrite p) .dioWrite p s stBadMode) ∧
      (s.dev.mode ≠ .safe → s.dev.mode ≠ .graze → ∃ u, Answers (.dioWrite p) .dioWrite p s u [] ∧
        u = s.modDio (fun d => { d with pwms := u.dio.pwms }) ∧ (pwmOf u n).substDuty = p.w 1 ∧ (∀ m, m ≠ n → pwmOf u m = pwmOf s m) ∧
        (pwmOf u n).shadow = (if !notConfiguring s && s.dio.substitute && !loopDrives s n then p.w 1 else (pwmOf s n).shadow))) ∧
    (bit (p.w 0) 0 = false → p.len = 5 → field (p.w 0) 1 5 = 0 →
      (s.dev.mode = .safe ∨ s.dev.mode = .graze → Refuses (.dioWrite p) .dioWrite p s stBadMode) ∧
      (s.dev.mode ≠ .safe → s.dev.mode ≠ .graze → ∃ u, Answers (.dioWrite p) .dioWrite p s u [] ∧
        u = s.modDio (fun d => { d with douts := u.dio.douts }) ∧ ∀ k < 2, ∀ i < 32,
          (doutOf u (32 * k + i)).subst =
            (if bit (p.w (1 + k)) i then (if bit (p.w (3 + k)) i then .high else .low) else (doutOf s (32 * k + i)).subst) ∧
          (notConfiguring s = true ∨ s.dio.substitute = false ∨ bit (p.w (1 + k)) i = false →
            (doutOf u (32 * k + i)).substNow = (doutOf s (32 * k + i)).substNow)))) ∧
  (Reached .dioStatus p s → p.len = 1 → reservedSet (p.w 0) 0xFFFFFFC0 = false → ∃ u ws, Answers (.dioStatus p) .dioStatus p s u ws ∧
    ws.length = 9 ∧ (∀ k < 2, ∀ i < 32, bit (ws.getD k 0).toNat i = (dinOf (settleDins s) (32 * k + i)).stuck) ∧
    (∀ k < 2, ∀ i < 32, bit (ws.getD (4 + k) 0).toNat i = (doutOf s (32 * k + i)).fault) ∧
    (∀ n < 16, bit (ws.getD 8 0).toNat n = (encOf s n).quadErr) ∧ (∀ n, (encOf u n).quadErr = false) ∧
    (∀ n, (encOf u n).count = (encOf s n).count) ∧ u.dio.douts = s.dio.douts ∧ u.dio.pwms = s.dio.pwms ∧ u.dio.dins = (settleDins s).dio.dins))

/-! ### DIO commands (08 R301–R306) -/

/-- DIO.INPUT_CONFIG, DIO.OUTPUT_CONFIG, DIO.PWM_CONFIG and DIO.ENC_CONFIG (08 R281, R285, R288, R290, R301, R302, R303) set up what they
name in CONFIGURE and READY, and nothing else. -/
def Obligations.IoSettings : Prop := ∀ (p : Packet) (s : State),
  Tab.wf {} s.dio.dins → Tab.wf {} s.dio.douts → Tab.wf {} s.dio.pwms → Tab.wf {} s.dio.encs →
  (s.dev.mode ≠ .configure → s.dev.mode ≠ .ready → ∀ op i, (op = .dioInputConfig ∧ i = .dioInputConfig p ∧ p.len = 3 ∧
      field (p.w 0) 0 6 ≤ field (p.w 0) 8 6 ∧ reservedSet (p.w 0) 0xFFFF80C0 = false ∧ reservedSet (p.w 1) 0xF000 = false ∧
      reservedSet (p.w 2) 0xFFFF0000 = false) ∨
    (op = .dioOutputConfig ∧ i = .dioOutputConfig p ∧ p.len = 1 ∧ field (p.w 0) 0 6 ≤ field (p.w 0) 8 6 ∧ field (p.w 0) 15 2 ≠ 3 ∧
      reservedSet (p.w 0) 0xFFFE00C0 = false) → Reached op p s → Refuses i op p s stBadMode) ∧
  (s.dev.mode = .configure ∨ s.dev.mode = .ready →
    (Reached .dioInputConfig p s → p.len = 3 → field (p.w 0) 0 6 ≤ field (p.w 0) 8 6 → reservedSet (p.w 0) 0xFFFF80C0 = false →
      reservedSet (p.w 1) 0xF000 = false → reservedSet (p.w 2) 0xFFFF0000 = false → ∃ u,
      Answers (.dioInputConfig p) .dioInputConfig p s u [] ∧ u = s.modDio (fun d => { d with dins := u.dio.dins }) ∧
      ∀ n, (field (p.w 0) 0 6 ≤ n ∧ n ≤ field (p.w 0) 8 6 → (dinOf u n).activeLow = bit (p.w 0) 14 ∧ (dinOf u n).filter = field (p.w 1) 0 12 ∧
          (dinOf u n).stuckMs = field (p.w 1) 16 16 ∧ (dinOf u n).chatterMax = p.w 2 ∧ (dinOf u n).raw = (dinOf s n).raw) ∧
        (n < field (p.w 0) 0 6 ∨ field (p.w 0) 8 6 < n → dinOf u n = (dinOf s n).settle s.now)) ∧
    (Reached .dioOutputConfig p s → p.len = 1 → field (p.w 0) 0 6 ≤ field (p.w 0) 8 6 → field (p.w 0) 15 2 ≠ 3 →
      reservedSet (p.w 0) 0xFFFE00C0 = false → ∃ u, Answers (.dioOutputConfig p) .dioOutputConfig p s u [] ∧
      u = s.modDio (fun d => { d with douts := u.dio.douts }) ∧
      ∀ n, (field (p.w 0) 0 6 ≤ n ∧ n ≤ field (p.w 0) 8 6 → (doutOf u n).configured = true ∧ (doutOf u n).openDrain = bit (p.w 0) 14 ∧
          (doutOf u n).subst = Drive.ofNum (field (p.w 0) 15 2) ∧ (doutOf u n).fault = false) ∧
        (n < field (p.w 0) 0 6 ∨ field (p.w 0) 8 6 < n → (doutOf u n).configured = (doutOf s n).configured ∧
          (doutOf u n).subst = (doutOf s n).subst ∧ (doutOf u n).fault = (doutOf s n).fault)) ∧
    (Reached .dioPwmConfig p s → p.len = 5 → reservedSet (p.w 0) 0xFFFFFF00 = false → 16 ≤ p.w 1 → p.w 1 ≤ 0xFFFFFF → p.w 2 < p.w 1 →
      p.w 3 ≤ 0xFFFF → 2 * p.w 3 < p.w 1 → inUnitInterval (p.w 4) = true → ∀ n, n = field (p.w 0) 0 5 →
      (loopOwnsPwm s n = true → Refuses (.dioPwmConfig p) .dioPwmConfig p s stDioOwned) ∧
      (loopOwnsPwm s n = false → ∃ u, Answers (.dioPwmConfig p) .dioPwmConfig p s u [] ∧
        u = s.modDio (fun d => { d with pwms := u.dio.pwms }) ∧ (pwmOf u n).configured = true ∧ (pwmOf u n).center = bit (p.w 0) 5 ∧
        (pwmOf u n).dither = bit (p.w 0) 6 ∧ (pwmOf u n).activeLow = bit (p.w 0) 7 ∧ (pwmOf u n).periodClk = p.w 1 ∧
        (pwmOf u n).phaseClk = p.w 2 ∧ (pwmOf u n).minClk = p.w 3 ∧ (pwmOf u n).substDuty = p.w 4 ∧
        (pwmOf u n).shadow = (if s.dio.substitute then p.w 4 else (pwmOf s n).shadow) ∧ ∀ m, m ≠ n → pwmOf u m = pwmOf s m)) ∧
    (Reached .dioEncConfig p s → p.len = 2 → field (p.w 0) 4 2 ≠ 3 → field (p.w 0) 14 2 ≠ 3 → reservedSet (p.w 0) 0xFF800000 = false →
      1 ≤ p.w 1 → p.w 1 < 65536 → ∀ n, n = field (p.w 0) 0 4 → ∃ u, Answers (.dioEncConfig p) .dioEncConfig p s u [] ∧
      u = s.modDio (fun d => { d with encs := u.dio.encs }) ∧ (encOf u n).configured = true ∧ (encOf u n).mode = field (p.w 0) 4 2 ∧
      (encOf u n).filter = field (p.w 0) 6 8 ∧ (encOf u n).latchSrc = field (p.w 0) 14 2 ∧ (encOf u n).latchDin = field (p.w 0) 16 6 ∧
      (encOf u n).latchCont = bit (p.w 0) 22 ∧ (encOf u n).velWindowUs = p.w 1 ∧ (look {} u.dio.encs n).count = 0 ∧
      ∀ m, m ≠ n → encOf u m = encOf s m))

/-! ### ACQ commands (09 R347–R354) and TALLY commands (17 R592–R595) -/

/-- ACQ.SIGNAL_CONFIG, ACQ.STREAM_CONFIG, ACQ.WINDOW_CONFIG and ACQ.TRIGGER_CONFIG (09 R347, R348, R349, R350): the entries, the capture and
the trigger unit take what is written, whole or as further members; an entry of an item that the device does not have returns ST_RANGE;
a running capture is left alone. -/
def Obligations.CaptureSettings : Prop := ∀ (p : Packet) (s : State),
  (Reached .acqSignalConfig p s → Tab.wf {} s.acq.index → p.len = 2 → ∀ lo hi, lo = field (p.w 0) 0 14 → hi = field (p.w 0) 16 14 → lo ≤ hi →
    1 ≤ popCount 7 (field (p.w 1) 0 7) → popCount 7 (field (p.w 1) 0 7) ≤ 4 → reservedSet (p.w 0) 0xC000C000 = false →
    reservedSet (p.w 1) 0xFFFFF880 = false → field (p.w 1) 8 3 ≤ 5 → (field (p.w 1) 8 3 = 0 ∨ 0x3000 ≤ lo) →
    ((∃ k, lo ≤ k ∧ k ≤ hi ∧ entryPresent s k = false) → Refuses (.acqSignalConfig p) .acqSignalConfig p s stRange) ∧
    ((∀ k, lo ≤ k → k ≤ hi → entryPresent s k = true) → (∃ e ∈ s.acq.captures, e.2.running = true ∧ ∃ m ∈ e.2.members, lo ≤ m ∧ m ≤ hi) →
      Refuses (.acqSignalConfig p) .acqSignalConfig p s stAqRunning) ∧
    ((∀ k, lo ≤ k → k ≤ hi → entryPresent s k = true) →
      (∀ e ∈ s.acq.captures, e.2.running = true → ∀ m ∈ e.2.members, m < lo ∨ hi < m) → ∃ u,
      exec (.acqSignalConfig p) s = .next (u.conclude .acqSignalConfig p stOk []) ∧ u = s.modAcq (fun a => { a with index := u.acq.index }) ∧
      (∀ k, lo ≤ k → k ≤ hi → (look {} u.acq.index k).reduce = field (p.w 1) 0 7 ∧
        (look {} u.acq.index k).value = (look {} s.acq.index k).value ∧ (look {} u.acq.index k).stamp = (look {} s.acq.index k).stamp ∧
        (0x3000 ≤ k → (look {} u.acq.index k).userType = field (p.w 1) 8 3)) ∧
      (∀ k, k < lo ∨ hi < k → look {} u.acq.index k = look {} s.acq.index k))) ∧
  (∀ (win : Bool) op i fixed c, (win = false ∧ op = .acqStreamConfig ∧ i = .acqStreamConfig p ∧ fixed = 7) ∨
      (win = true ∧ op = .acqWindowConfig ∧ i = .acqWindowConfig p ∧ fixed = 10) →
    Reached op p s → Tab.wf {} s.acq.captures → fixed ≤ p.len → c = field (p.w 0) 0 4 → reservedSet (p.w 0) 0xFFFFFFE0 = false →
    bit (p.w 0) 4 = true → (∀ k, 1 ≤ k → k < fixed → p.w k = 0) → (∀ k, fixed ≤ k → k < p.len → entryPresent s (p.w k) = true) →
    ((capOf s c).configured = false ∨ (capOf s c).windowClass ≠ win → Refuses i op p s stAqNotConfigured) ∧
    ((capOf s c).configured = true → (capOf s c).windowClass = win →
      ((capOf s c).running = true → Refuses i op p s stAqRunning) ∧
      (∀ new, new = { capOf s c with members := (capOf s c).members ++ (p.params.drop fixed).map (·.toNat) } →
        (capOf s c).running = false → regionOk s c new = true →
        (new.ring = 0 ∧ new.spill = false ∨ captureRingOk s c new.ring = true) → membersOk s c new = true → windowFits s new = true →
        ∃ u, (win = false → exec (.acqStreamConfig p) s = .next (u.conclude .acqStreamConfig p stOk [])) ∧
        (win = true → exec (.acqWindowConfig p) s = .next (u.conclude .acqWindowConfig p stOk [])) ∧ u = s.modAcq (fun a => { a with captures := u.acq.captures }) ∧ capOf u c = new ∧
        ∀ d, d ≠ c → capOf u d = capOf s d))) ∧
  (∀ (win : Bool) op i fixed c, (win = false ∧ op = .acqStreamConfig ∧ i = .acqStreamConfig p ∧ fixed = 7) ∨
      (win = true ∧ op = .acqWindowConfig ∧ i = .acqWindowConfig p ∧ fixed = 10) →
    Reached op p s → Tab.wf {} s.acq.captures → fixed ≤ p.len → c = field (p.w 0) 0 4 → reservedSet (p.w 0) 0xFFFFFFE0 = false →
    bit (p.w 0) 4 = false → 1 ≤ field (p.w 1) 0 16 → field (p.w 1) 16 4 ≤ 10 → field (p.w 1) 20 2 ≤ 2 → reservedSet (p.w 1) 0xFFC00000 = false →
    reservedSet (p.w 2) 0xFFFFFFC0 = false → field (p.w 5) 16 16 ≤ 20000 → field (p.w 2) 0 6 ≠ 1 → (win = false → field (p.w 2) 0 6 ≠ 0) →
    (win = true → field (p.w 1) 16 6 = 0 ∧ field (p.w 5) 0 16 = 0 ∧ 1 ≤ field (p.w 9) 0 7 ∧ field (p.w 9) 0 7 ≤ 64 ∧
      reservedSet (p.w 9) 0xFFFFFC00 = false) →
    (∀ k, fixed ≤ k → k < p.len → entryPresent s (p.w k) = true) → (capOf s c).running = false →
    ∀ new, new =
      ({ configured := true, windowClass := win, recordUs := field (p.w 1) 0 16, decMin := field (p.w 1) 16 4, overload := field (p.w 1) 20 2,
         ring := field (p.w 2) 0 6, regionBase := p.w 3, regionSize := p.w 4, settle := field (p.w 5) 0 16,
         lateUs := field (p.w 5) 16 16, configId := p.w 6, log2 := field (p.w 1) 16 4,
         pre := if win then p.w 7 else 0, post := if win then p.w 8 else 0, nwin := if win then field (p.w 9) 0 7 else 0,
         spill := win && bit (p.w 9) 7, autoSend := win && bit (p.w 9) 8, rearm := win && bit (p.w 9) 9,
         members := (p.params.drop fixed).map (·.toNat) } : Capture) →
    (regionOk s c new = false → Refuses i op p s stAqRegion) ∧
    (regionOk s c new = true → new.ring ≠ 0 ∨ new.spill = true → captureRingOk s c new.ring = false → Refuses i op p s stAqRing) ∧
    (regionOk s c new = true → (new.ring = 0 ∧ new.spill = false ∨ captureRingOk s c new.ring = true) →
      (membersOk s c new = false → Refuses i op p s stAqMembers) ∧
      (membersOk s c new = true → windowFits s new = false → Refuses i op p s stRange) ∧
      (membersOk s c new = true → windowFits s new = true → ∃ u,
        (win = false → exec (.acqStreamConfig p) s = .next (u.conclude .acqStreamConfig p stOk [])) ∧
        (win = true → exec (.acqWindowConfig p) s = .next (u.conclude .acqWindowConfig p stOk [])) ∧ u = s.modAcq (fun a => { a with captures := u.acq.captures }) ∧ capOf u c = new ∧ ∀ d, d ≠ c → capOf u d = capOf s d))) ∧
  (Reached .acqTriggerConfig p s → Tab.wf {} s.acq.triggers → p.len = 9 → ∀ v kind, v = field (p.w 0) 0 5 → kind = field (p.w 0) 5 4 →
    kind ≤ 13 → (kind = 12 ∨ kind = 13 → ∀ q < 32, bit (p.w 6) q = true → q ≠ v ∧ (trigOf s q).kind ≠ 12 ∧ (trigOf s q).kind ≠ 13) →
    (kind = 12 ∨ kind = 13 → ∀ q < 32, q ≠ v → (trigOf s q).kind = 12 ∨ (trigOf s q).kind = 13 → bit (trigOf s q).mask v = false) →
    reservedSet (p.w 0) 0xFFFFFE00 = false → reservedSet (p.w 1) 0xFFFFC000 = false →
    Fmt.b64.isFinite (p.w 2 + place 32 (p.w 3)) = true → Fmt.b64.isFinite (p.w 4 + place 32 (p.w 5)) = true →
    (kind = 3 ∨ kind = 4 → Fmt.b64.lt (p.w 4 + place 32 (p.w 5)) 0 = false) →
    (1 ≤ kind → kind ≤ 8 → entryPresent s (p.w 1) = true) → ∃ u,
    exec (.acqTriggerConfig p) s = .next (u.conclude .acqTriggerConfig p stOk []) ∧
    u = s.modAcq (fun a => { a with triggers := u.acq.triggers }) ∧ (trigOf u v).kind = kind ∧ (trigOf u v).source = p.w 1 ∧
    (trigOf u v).level = p.w 2 + place 32 (p.w 3) ∧ (trigOf u v).level2 = p.w 4 + place 32 (p.w 5) ∧ (trigOf u v).mask = p.w 6 ∧
    (trigOf u v).matchW = p.w 7 ∧ (trigOf u v).targets = field (p.w 8) 0 16 ∧ (trigOf u v).holdoffUs = field (p.w 8) 16 16 ∧
    ∀ d, d ≠ v → trigOf u d = trigOf s d)

/-- ACQ.HIST_CONFIG, ACQ.PMAP_CONFIG and ACQ.CONTROL (09 R347, R351, R352): CLEAR zeroes the engine's memory; a capture starts, stops at an
interval's end, arms, sends a complete buffer's place again, and takes a rate. -/
def Obligations.EngineSettings : Prop := ∀ (p : Packet) (s : State), Canonical s →
  (Reached .acqHistConfig p s → Tab.wf {} s.acq.hists → p.len = 6 → ∀ h source low width base, h = field (p.w 0) 0 4 → source = p.w 1 →
    low = p.w 2 + place 32 (p.w 3) → width = p.w 4 + place 32 (p.w 5) → base = 0x30700000 + 0x1000 * h →
    reservedSet (p.w 0) 0xFFFFFFC0 = false → reservedSet (p.w 1) 0xFFFFC000 = false → entryPresent s source = true →
    Fmt.b64.isFinite low = true → Fmt.b64.isFinite width = true → Fmt.b64.lt 0 width = true →
    ∀ old, old = look {} s.acq.hists h →
    (old.enable = true → bit (p.w 0) 4 = true → (old.source ≠ source ∨ old.low ≠ low ∨ old.width ≠ width) →
      Refuses (.acqHistConfig p) .acqHistConfig p s stAqRunning) ∧
    (old.enable = false ∨ bit (p.w 0) 4 = false ∨ (old.source = source ∧ old.low = low ∧ old.width = width) → ∃ u,
      Answers (.acqHistConfig p) .acqHistConfig p s u [] ∧ look {} u.acq.hists h =
        ({ enable := bit (p.w 0) 4, source := source, low := low, width := width, nan := if bit (p.w 0) 5 then 0 else old.nan } : Hist) ∧
      (∀ g, g ≠ h → look {} u.acq.hists g = look {} s.acq.hists g) ∧
      (∀ x, readByte u x = if bit (p.w 0) 5 ∧ base ≤ x ∧ x < base + 0x1000 then 0 else readByte s x) ∧
      u.acq.captures = s.acq.captures ∧ u.acq.pmaps = s.acq.pmaps)) ∧
  (Reached .acqPmapConfig p s → Tab.wf {} s.acq.pmaps → p.len = 10 → reservedSet (p.w 0) 0xFFFFFC00 = false →
    reservedSet (p.w 1) 0xC000C000 = false → reservedSet (p.w 9) 0xFFFF0000 = false → entryPresent s (field (p.w 1) 0 14) = true →
    Fmt.b64.isFinite (p.w 2 + place 32 (p.w 3)) = true → Fmt.b64.isFinite (p.w 4 + place 32 (p.w 5)) = true →
    Fmt.b64.lt 0 (p.w 4 + place 32 (p.w 5)) = true → ∀ m, m = field (p.w 0) 0 2 → ∀ base, base = 0x30780000 + 0x20000 * m →
    (bit (p.w 0) 4 = false ∧ field (p.w 1) 16 14 = 0 ∧ 1 ≤ p.w 6 ∧ p.w 6 ≤ 65535 ∧ p.w 7 = 0 ∧ p.w 8 = 0) ∨
      (bit (p.w 0) 4 = true ∧ entryPresent s (field (p.w 1) 16 14) = true ∧ Fmt.b64.isFinite (p.w 6 + place 32 (p.w 7)) = true ∧
        Fmt.b32.isFinite (p.w 8) = true ∧ Fmt.b32.lt 0 (p.w 8) = true) →
    (look {} s.acq.pmaps m).enable = false ∨ bit (p.w 0) 2 = false → ∃ u, Answers (.acqPmapConfig p) .acqPmapConfig p s u [] ∧
    (look {} u.acq.pmaps m).enable = bit (p.w 0) 2 ∧ (look {} u.acq.pmaps m).xy = bit (p.w 0) 4 ∧
    (look {} u.acq.pmaps m).trig = field (p.w 0) 5 5 ∧ (look {} u.acq.pmaps m).ySource = field (p.w 1) 0 14 ∧
    (look {} u.acq.pmaps m).decayMs = p.w 9 ∧ (look {} u.acq.pmaps m).points = (if bit (p.w 0) 3 then 0 else (look {} s.acq.pmaps m).points) ∧
    (∀ k, k ≠ m → look {} u.acq.pmaps k = look {} s.acq.pmaps k) ∧
    (∀ x, readByte u x = if bit (p.w 0) 3 ∧ base ≤ x ∧ x < base + 0x20000 then 0 else readByte s x) ∧ u.acq.hists = s.acq.hists) ∧
  (Reached .acqControl p s → Tab.wf {} s.acq.captures → p.len = 1 → reservedSet (p.w 0) 0xFFFC0080 = false →
    ∀ c cap action, c = field (p.w 0) 0 4 → cap = capOf s c → action = field (p.w 0) 4 3 →
    (4 < action → Refuses (.acqControl p) .acqControl p s stRange) ∧
    (action = 0 ∨ action = 2 → s.dev.mode = .graze → Refuses (.acqControl p) .acqControl p s stBadMode) ∧
    (action ≤ 3 → s.dev.mode ≠ .graze → cap.configured = false → Refuses (.acqControl p) .acqControl p s stAqNotConfigured) ∧
    (cap.configured = true →
      (action = 0 → s.dev.mode ≠ .graze → cap.running = true → Refuses (.acqControl p) .acqControl p s stAqState) ∧
      (action = 0 → s.dev.mode ≠ .graze → cap.running = false →
        (∀ e ∈ s.acq.captures, e.1 ≠ c → e.2.streams = true → e.2.ring ≠ cap.ring) ∨ cap.ring = 0 ∧ cap.windowClass = true →
        ∃ u, Answers (.acqControl p) .acqControl p s u [] ∧ (capOf u c).running = true ∧ (capOf u c).log2 = cap.decMin ∧
        (capOf u c).startB = Capture.boundary { cap with log2 := cap.decMin } ((s.clock + 799) / 800) ∧
        (capOf u c).armed = cap.windowClass ∧ (∀ d, d ≠ c → capOf u d = capOf s d) ∧ u.dev = s.dev ∧ u.loop = s.loop) ∧
      (action = 1 → cap.running = true → cap.stopAt = none → ∃ u, Defers (.acqControl p) .acqControl p s u [c] ∧
        (capOf u c).stopAt = some (cap.nextBoundary (usOf s.clock)) ∧ (capOf u c).running = true ∧ (∀ d, d ≠ c → capOf u d = capOf s d)) ∧
      (action = 2 → s.dev.mode ≠ .graze → cap.running = true → cap.windowClass = true → cap.armed = false → ∃ u,
        Answers (.acqControl p) .acqControl p s u [] ∧ (capOf u c).armed = true ∧ (capOf u c).deadFrom = s.ns ∧
        (∀ d, d ≠ c → capOf u d = capOf s d)) ∧
      (action = 3 → Tab.wf {} cap.bufs → cap.windowClass = true → (bufOf cap (field (p.w 0) 8 6)).state = .complete → ∃ u,
        Answers (.acqControl p) .acqControl p s u [] ∧ (bufOf (capOf u c) (field (p.w 0) 8 6)).state ≠ .complete ∧
        (∀ d, d ≠ c → capOf u d = capOf s d)) ∧
      (action = 4 → cap.windowClass = false → cap.running = true → cap.decMin ≤ field (p.w 0) 14 4 → field (p.w 0) 14 4 ≤ 10 →
        Answers (.acqControl p) .acqControl p s (s.modCap c fun k => { k with hostRate := some (field (p.w 0) 14 4, usOf s.clock) }) [])))

/-- TALLY.CONFIG, TALLY.CURSOR, TALLY.READ and TALLY.CLEAR (17 R592–R595): the settings table of 64 entries, the cursor, reading from it,
and clearing, which itself writes a record. -/
def Obligations.TallyCommands : Prop := ∀ (p : Packet) (s : State),
  (Reached .tallyConfig p s → p.len = 2 → reservedSet (p.w 0) 0xFF00 = false → ∀ unit code rest, unit = field (p.w 0) 0 5 →
    code = field (p.w 0) 16 16 → unit ≤ 16 → rest = s.tally.settings.filter (fun e => ¬ (e.unit = unit ∧ e.code = code)) →
    (bit (p.w 0) 5 = true → bit (p.w 0) 6 = false → bit (p.w 0) 7 = false → unit = 0 → code = 0 → 1 ≤ p.w 1 → p.w 1 ≤ 10000000 →
      Answers (.tallyConfig p) .tallyConfig p s (s.modTally fun t => { t with defaultRefill := p.w 1 }) []) ∧
    (bit (p.w 0) 5 = false → bit (p.w 0) 7 = true → bit (p.w 0) 6 = false → p.w 1 = 0 →
      Answers (.tallyConfig p) .tallyConfig p s (s.modTally fun t => { t with settings := rest }) []) ∧
    (bit (p.w 0) 5 = false → bit (p.w 0) 7 = false → 1 ≤ p.w 1 → p.w 1 ≤ 10000000 →
      (rest = s.tally.settings → 64 ≤ rest.length → Refuses (.tallyConfig p) .tallyConfig p s stTlTableFull) ∧
      (rest.length < s.tally.settings.length ∨ rest.length < 64 → Answers (.tallyConfig p) .tallyConfig p s (s.modTally fun t =>
        { t with settings := rest ++ [{ unit := unit, code := code, exempt := bit (p.w 0) 6, refillUs := p.w 1 }] }) []))) ∧
  (Reached .tallyCursor p s → p.len = 2 → reservedSet (p.w 0) 0xFFFFFFFC = false → ∀ q, (p.w 0 = 0 ∧ q = p.w 1) ∨
      (p.w 0 = 1 ∧ p.w 1 = 0 ∧ q = 0) ∨ (p.w 0 = 2 ∧ p.w 1 = 0 ∧ q = oldestSeq s) ∨ (p.w 0 = 3 ∧ p.w 1 = 0 ∧ q = s.tally.seq) →
    Answers (.tallyCursor p) .tallyCursor p s (s.modTally fun t => { t with cmdCursor := (moveCursor s q).1, cmdMoved := (moveCursor s q).2 })
      [wd (moveCursor s q).1]) ∧
  (Reached .tallyRead p s → p.len = 1 → 1 ≤ p.w 0 → p.w 0 ≤ 511 →
    (nextValid s s.tally.cmdCursor = none → Refuses (.tallyRead p) .tallyRead p s stTlEnd) ∧
    (∀ c, nextValid s s.tally.cmdCursor = some c → ∃ u ws, Answers (.tallyRead p) .tallyRead p s u ws ∧
      u = s.modTally (fun t => { t with cmdCursor := u.tally.cmdCursor, cmdMoved := false }) ∧ (ws.drop 2).take 8 = recordWords s c ∧
      1 ≤ field (ws.getD 0 0).toNat 0 9 ∧ field (ws.getD 0 0).toNat 0 9 ≤ p.w 0)) ∧
  (Reached .tallyClear p s → Canonical s → p.len = 1 → ∃ u ws, Answers (.tallyClear p) .tallyClear p s u ws ∧ ws.length = 1 ∧
    u.tally.cleared = satAdd 32 s.tally.cleared (ws.getD 0 0).toNat ∧
    (∀ n, 4096 ≤ n → n < 16384 → slotValid s n = true → cycDiff (slotSeq s n) (p.w 0) ≤ 0 → slotValid u n = false) ∧
    (∀ n, n < 4096 ∨ ¬ cycDiff (slotSeq s n) (p.w 0) ≤ 0 → slotValid u n = slotValid s n) ∧ u.acq = s.acq ∧ u.loop = s.loop)

/-! ### RING commands (10 R397–R403; 11 R411, R427) -/

/-- RING.CONFIG and RING.START (10 R386, R387, R395, R398, R401): the configuration takes effect in CONFIGURE alone; a ring starts in
LISTEN, the manager's in the mode given, and stopping it disables it; of memory only the topology table follows. -/
def Obligations.RingStartsAndStops : Prop := ∀ (p : Packet) (s : State),
  (Reached .ringConfig p s → ∀ c, c = ringCfgOf p → 5 ≤ p.len → p.len = 5 + 2 * field (p.w 4) 20 7 → ringCfgRange p c = false →
    (s.dev.mode ≠ .configure → Refuses (.ringConfig p) .ringConfig p s stBadMode) ∧
    (s.dev.mode = .configure → ringCycleBad c = true → Refuses (.ringConfig p) .ringConfig p s stRgCycle) ∧
    (s.dev.mode = .configure → ringCycleBad c = false →
      (s.drove.down.state ≠ .disabled → c.downPart ≠ s.drove.cfg.downPart → Refuses (.ringConfig p) .ringConfig p s stRgState) ∧
      (p.origin = .above → s.drove.cfg.upEn = true → c.upEn = false → Refuses (.ringConfig p) .ringConfig p s stRgState) ∧
      (p.origin ≠ .above ∨ s.drove.cfg.upEn = false ∨ c.upEn = true → s.drove.down.state = .disabled ∨ c.downPart = s.drove.cfg.downPart →
        ∃ u, Answers (.ringConfig p) .ringConfig p s u [] ∧ u.drove.cfg = c ∧ u.drove.modes = s.drove.modes ∧
        (c.upEn = true → s.drove.cfg.upEn = false → u.drove.up.state = .listen) ∧
        (c.upEn = false → s.drove.cfg.upEn = true → u.drove.up.state = .disabled ∧ u.drove.member = none ∧ u.drove.devAddr = 0) ∧
        u.drove.down.state = s.drove.down.state ∧ (∀ x < 0x01DA0000, readByte u x = readByte s x) ∧ u.loop = s.loop ∧ u.dev = s.dev))) ∧
  (Reached .ringStart p s → p.len = 1 → reservedSet (p.w 0) 0xFFFFFFE0 = false → s.dev.mode = .configure ∨ s.dev.mode = .ready →
    (bit (p.w 0) 0 = false → p.w 0 / 4 = 0 → s.drove.cfg.upEn = false → Refuses (.ringStart p) .ringStart p s stRgState) ∧
    (p.w 0 = 0 → s.drove.cfg.upEn = true → ∃ u, Answers (.ringStart p) .ringStart p s u [] ∧ u.drove.up.state = .listen ∧
      u.drove.up.listenFrom = s.now ∧ u.drove.lanesFrom ≠ none ∧ u.drove.down = s.drove.down ∧ presentMembers u = presentMembers s ∧
      ∀ x < 0x01DA0000, readByte u x = readByte s x) ∧
    (p.w 0 = 2 → s.drove.cfg.upEn = true → ∃ u, Answers (.ringStart p) .ringStart p s u [] ∧ u.drove.up.state = .disabled ∧
      u.drove.lanesFrom = none ∧ u.drove.bypassHigh = false ∧ u.drove.up.counters = s.drove.up.counters ∧ u.drove.down = s.drove.down) ∧
    (p.w 0 = 3 → s.dev.mode = .ready → Refuses (.ringStart p) .ringStart p s stBadMode) ∧
    (p.w 0 = 3 → s.dev.mode = .configure → Tab.wf {} s.drove.members → ∃ u, Answers (.ringStart p) .ringStart p s u [] ∧
      (s.drove.downStarted = true → u.drove.down.state = .disabled ∧ u.drove.downStarted = false ∧ u.drove.active = none ∧
        presentMembers u = []) ∧ (s.drove.downStarted = false → u = s) ∧ u.drove.up = s.drove.up) ∧
    (∀ m, p.w 0 = 1 + 4 * m → m < 8 → field s.drove.devAddr 18 2 ≠ 3 →
      (s.drove.cfg.downEn = false ∨ s.drove.downStarted = true ∨ (s.drove.cfg.upEn = true ∧ s.drove.up.state ≠ .integrated) →
        Refuses (.ringStart p) .ringStart p s stRgState) ∧
      (s.drove.cfg.downEn = true → s.drove.downStarted = false → (s.drove.cfg.upEn = true → s.drove.up.state = .integrated) →
        s.drove.cfg.cycleUs ≠ 0 → ringCycleBad s.drove.cfg = false →
        (s.drove.cfg.upEn = true → s.drove.cfg.cycleUs = s.drove.cfg.mult * s.cyc.upLdev) →
        (modeWritten s m = false → Refuses (.ringStart p) .ringStart p s stRgNoMode) ∧
        (modeWritten s m = true → modesBreak s = true → Refuses (.ringStart p) .ringStart p s stRgCycle) ∧
        (modeWritten s m = true → modesBreak s = false → ∃ u, Answers (.ringStart p) .ringStart p s u [] ∧
          u.drove.down.state = .listen ∧ u.drove.downStarted = true ∧ u.drove.active = some m ∧ u.drove.down.mode = m ∧
          u.drove.down.tag = s.drove.cfg.tag ∧ u.drove.up = s.drove.up ∧ u.drove.modes = s.drove.modes ∧ u.mem = s.mem))))

/-- RING.SCHEDULE_WRITE, RING.MODE_ARM, RING.COUNTERS, RING.SYNC_CONFIG and RING.TOPOLOGY (10 R373, R399, R400, R403; 11 R411, R427). -/
def Obligations.RingSchedules : Prop := ∀ (p : Packet) (s : State),
  (Reached .ringScheduleWrite p s → Tab.wf [] s.drove.modes → 3 ≤ p.len → p.len = 3 + 2 * field (p.w 1) 0 10 → ∀ m, p.w 0 = m → m < 8 →
    (s.drove.armed = some m ∨ s.drove.active = some m → Refuses (.ringScheduleWrite p) .ringScheduleWrite p s stRgModeState) ∧
    (s.drove.armed ≠ some m → s.drove.active ≠ some m →
      (∀ i, modeBad s.drove.cfg.cycleUs (p.params.drop 1) = some i →
        exec (.ringScheduleWrite p) s = .next (s.conclude .ringScheduleWrite p stRgSchedule [wd i])) ∧
      (modeBad s.drove.cfg.cycleUs (p.params.drop 1) = none → ∃ t, exec (.ringScheduleWrite p) s = .next t ∧
        look [] t.drove.modes m = p.params.drop 1 ∧ (∀ k, k ≠ m → look [] t.drove.modes k = look [] s.drove.modes k) ∧
        t.drove.armed = s.drove.armed ∧ t.drove.active = s.drove.active ∧ t.drove.cfg = s.drove.cfg ∧
        (presentMembers s ≠ [] → ∃ d ∈ t.host.deferred, d.op = .ringScheduleWrite ∧ d.packet = p) ∧ t.mem = s.mem ∧ t.loop = s.loop))) ∧
  (Reached .ringModeArm p s → p.len = 1 → reservedSet (p.w 0) 0xFFFFFFF0 = false → ∀ m, m = field (p.w 0) 0 3 →
    (changeoverPending s = true → Refuses (.ringModeArm p) .ringModeArm p s stBusy) ∧
    (changeoverPending s = false → bit (p.w 0) 3 = true →
      (s.drove.armed ≠ some m → Refuses (.ringModeArm p) .ringModeArm p s stRgModeState) ∧
      (s.drove.armed = some m → Answers (.ringModeArm p) .ringModeArm p s (s.modDrove fun d => { d with armed := none }) [0, 0])) ∧
    (changeoverPending s = false → bit (p.w 0) 3 = false →
      (modeWritten s m = false ∨ s.drove.armed ≠ none → Refuses (.ringModeArm p) .ringModeArm p s stRgModeState) ∧
      (modeWritten s m = true → s.drove.armed = none → (∃ n ∈ presentMembers s, bit (memberOf s n).held m = false) →
        exec (.ringModeArm p) s = .next (s.conclude .ringModeArm p stRgNotHeld (wd2 (lacking s m)))) ∧
      (modeWritten s m = true → s.drove.armed = none → (∀ n ∈ presentMembers s, bit (memberOf s n).held m = true) →
        Answers (.ringModeArm p) .ringModeArm p s (s.modDrove fun d => { d with armed := some m }) [0, 0]))) ∧
  (Reached .ringCounters p s → p.len = 1 → reservedSet (p.w 0) 0xFFFFFFFC = false →
    Answers (.ringCounters p) .ringCounters p s
      (if bit (p.w 0) 1 then s.modIface (bit (p.w 0) 0) fun k => { k with counters := [] } else s)
      (ringCounterWords (ifaceOf s (bit (p.w 0) 0)))) ∧
  (Reached .ringSyncConfig p s → p.len = 2 →
    (s.drove.cfg.upEn = false → p.w 0 = 256 → p.w 1 = 0 → Refuses (.ringSyncConfig p) .ringSyncConfig p s stRgState) ∧
    (s.drove.cfg.upEn = true →
      (p.w 0 = 256 → p.w 1 = 0 → Answers (.ringSyncConfig p) .ringSyncConfig p s (s.modClock fun c => { c with maxPs := 0 }) (syncConfigWords s)) ∧
      (p.w 0 < 256 → 1 ≤ field (p.w 1) 0 8 → field (p.w 1) 0 8 ≤ 200 → 1 ≤ field (p.w 1) 8 8 → field (p.w 1) 8 8 ≤ 100 → ∃ u,
        Answers (.ringSyncConfig p) .ringSyncConfig p s u (syncConfigWords s) ∧ u.drove.sync =
          ({ exclude := p.w 0, maxRatePpm := field (p.w 1) 0 8, slewPpm := field (p.w 1) 8 8, stepLimitUs := field (p.w 1) 16 16 } : SyncCfg) ∧
        u.drove.syncNow = s.drove.syncNow ∧ u.drove.clock.maxPs = 0 ∧ u.drove.cfg = s.drove.cfg ∧ u.drove.up = s.drove.up))) ∧
  (Reached .ringTopology p s → p.len = 2 → ∀ t, t = s.refreshTopo → reservedSet (p.w 0) 0xFFF80000 = false → 1 ≤ p.w 1 → p.w 1 ≤ 2045 →
    (t.drove.topo.length ≤ p.w 0 → Refuses (.ringTopology p) .ringTopology p s stRange) ∧
    (p.w 0 < t.drove.topo.length → Answers (.ringTopology p) .ringTopology p s t
      ([wd t.drove.topo.length, wd t.drove.generation] ++ ((t.drove.topo.drop (p.w 0)).take (p.w 1)).flatMap fun e => topoWords e.1 e.2)))

/-! ### CAN commands (12 R450–R458) -/

/-- CAN.CONFIG, CAN.FILTER_CONFIG and CAN.BUFFER_CONFIG (12 R430, R449, R451, R452, R453): a controller that is enabled joins in INTEGRATING,
one that is disabled is OFF; filters and buffers are as written and a buffer configured is empty. -/
def Obligations.CanSettings : Prop := ∀ (p : Packet) (s : State) (c : Nat) (k : CanCtrl), Tab.wf {} s.can.ctrls → Tab.wf {} k.bufs →
  Tab.wf {} k.filters → c = field (p.w 0) 0 3 → k = canOf s c → c < canControllers s →
  (∀ op i len, (op = .canConfig ∧ i = .canConfig p ∧ len = 3 ∧ reservedSet (p.w 0) 0xFFFFFC00 = false ∧ reservedSet (p.w 1) 0xF8000000 = false ∧
      reservedSet (p.w 2) 0xFC000000 = false) ∨ (op = .canRecover ∧ i = .canRecover p ∧ len = 1 ∧ reservedSet (p.w 0) 0xFFFFFFF8 = false) →
    Reached op p s → p.len = len → s.dev.mode = .graze → Refuses i op p s stBadMode) ∧
  (s.dev.mode ≠ .graze →
    (Reached .canConfig p s → p.len = 3 → reservedSet (p.w 0) 0xFFFFFC00 = false → reservedSet (p.w 1) 0xF8000000 = false →
      reservedSet (p.w 2) 0xFC000000 = false →
      (k.enabled = true → bit (p.w 0) 3 = true → (k.cfg1 ≠ p.w 1 ∨ k.cfg2 ≠ p.w 2 ∨ field k.cfg0 4 3 ≠ field (p.w 0) 4 3) →
        Refuses (.canConfig p) .canConfig p s stCnState) ∧
      (k.enabled = false ∨ bit (p.w 0) 3 = false → canTimingOk (p.w 0) (p.w 1) (p.w 2) = false →
        Refuses (.canConfig p) .canConfig p s stCnTiming) ∧
      (k.enabled = false ∨ bit (p.w 0) 3 = false ∨ (k.cfg1 = p.w 1 ∧ k.cfg2 = p.w 2 ∧ field k.cfg0 4 3 = field (p.w 0) 4 3) →
        canTimingOk (p.w 0) (p.w 1) (p.w 2) = true → ∃ u, Answers (.canConfig p) .canConfig p s u [] ∧
        (bit (p.w 0) 3 = true ∨ (∀ b, (canBuf s c b).cancelling = false) → u = s.modCan (fun _ => u.can) ∧ (canOf u c).bufs = k.bufs) ∧
        (canOf u c).enabled = bit (p.w 0) 3 ∧ (canOf u c).cfg0 = p.w 0 / 16 * 16 ∧ (canOf u c).cfg1 = p.w 1 ∧ (canOf u c).cfg2 = p.w 2 ∧
        (bit (p.w 0) 3 = false → (canOf u c).state = .off) ∧
        (bit (p.w 0) 3 = true → k.enabled = false → (canOf u c).state = .integrating ∧ (canOf u c).tec = 0 ∧ (canOf u c).recCount = 0) ∧
        (bit (p.w 0) 3 = true → k.enabled = true → (canOf u c).state = k.state ∧ (canOf u c).tec = k.tec) ∧
        (canOf u c).filters = k.filters ∧ u.mem = s.mem ∧ ∀ d, d ≠ c → canOf u d = canOf s d)) ∧
    (Reached .canFilterConfig p s → p.len = 4 → reservedSet (p.w 0) 0xFFFFE000 = false → reservedSet (p.w 1) 0xE0000000 = false →
      reservedSet (p.w 2) 0xE0000000 = false → reservedSet (p.w 3) 0xFFFF8080 = false → ∀ i first last, i = field (p.w 0) 3 6 →
      first = field (p.w 3) 0 7 → last = field (p.w 3) 8 7 → first ≤ last →
      (bit (p.w 0) 9 = true → (first < 4 ∨ ∃ e ∈ k.filters, e.1 ≠ i ∧ e.2.enable = true ∧ first ≤ e.2.last ∧ e.2.first ≤ last) →
        Refuses (.canFilterConfig p) .canFilterConfig p s stCnOverlap) ∧
      (bit (p.w 0) 9 = true → filterOverlap s c i first last = false → (∃ b, first ≤ b ∧ b ≤ last ∧ (canBuf s c b).kind ≠ 1) →
        Refuses (.canFilterConfig p) .canFilterConfig p s stCnBufKind) ∧
      (bit (p.w 0) 9 = false ∨ (filterOverlap s c i first last = false ∧ ∀ b, first ≤ b → b ≤ last → (canBuf s c b).kind = 1) → ∃ u,
        Answers (.canFilterConfig p) .canFilterConfig p s u [] ∧ u = s.modCan (fun _ => u.can) ∧ look {} (canOf u c).filters i =
          ({ enable := bit (p.w 0) 9, ide := bit (p.w 0) 10, rtrAccept := bit (p.w 0) 11, overwrite := bit (p.w 0) 12, id := p.w 1,
             mask := p.w 2, first := first, last := last } : CanFilter) ∧
        (∀ j, j ≠ i → look {} (canOf u c).filters j = look {} k.filters j) ∧ (canOf u c).bufs = k.bufs ∧
        ∀ d, d ≠ c → canOf u d = canOf s d)) ∧
    (Reached .canBufferConfig p s → p.len = 3 → reservedSet (p.w 0) 0xFFE00000 = false → field (p.w 0) 10 2 ≤ 2 →
      reservedSet (p.w 1) 0xE0000000 = false → reservedSet (p.w 2) 0xE0000000 = false → ∀ b, b = field (p.w 0) 3 7 →
      (field (p.w 0) 10 2 = 1 ∧ b < 4) ∨ (p.w 1 = 0 ∧ p.w 2 = 0) →
      ((canBuf s c b).state = .pending ∨ (canBuf s c b).state = .waitTime ∨ (canBuf s c b).locked = true →
        Refuses (.canBufferConfig p) .canBufferConfig p s stCnBusy) ∧
      ((canBuf s c b).state ≠ .pending → (canBuf s c b).state ≠ .waitTime → (canBuf s c b).locked = false →
        field (p.w 0) 10 2 = 1 ∨ (∀ e ∈ k.filters, e.2.enable = true → b < e.2.first ∨ e.2.last < b) → ∃ u,
        Answers (.canBufferConfig p) .canBufferConfig p s u [] ∧ u = s.modCan (fun _ => u.can) ∧
        (canBuf u c b).kind = field (p.w 0) 10 2 ∧ (canBuf u c b).oneShot = bit (p.w 0) 12 ∧ (canBuf u c b).vector = field (p.w 0) 13 6 ∧
        (canBuf u c b).vecEn = bit (p.w 0) 19 ∧ (canBuf u c b).matchId = p.w 1 ∧ (canBuf u c b).mask = p.w 2 ∧
        (canBuf u c b).state = (if field (p.w 0) 10 2 = 1 then .empty else if field (p.w 0) 10 2 = 2 then .idle else .off) ∧
        (∀ d, d ≠ b → canBuf u c d = canBuf s c d) ∧ (canOf u c).filters = k.filters ∧ ∀ d, d ≠ c → canOf u d = canOf s d)))

/-- CAN.TRANSMIT, CAN.CANCEL, CAN.RECOVER and CAN.COUNTER_CONFIG (12 R438, R440, R441, R445, R454, R455, R457, R458). Whether the frame
that CAN.CANCEL meets has begun is the model's free value (log 30). -/
def Obligations.CanTraffic : Prop := ∀ (p : Packet) (s : State) (c : Nat) (k : CanCtrl), Tab.wf {} s.can.ctrls → Tab.wf {} k.bufs →
  c = field (p.w 0) 0 3 → k = canOf s c → c < canControllers s → s.dev.mode ≠ .graze →
  (Reached .canTransmit p s → ∀ b q, b = field (p.w 0) 3 7 → q = canBuf s c b → p.len = 4 + (transmitBytes (p.w 1) (p.w 2) + 3) / 4 →
    reservedSet (p.w 0) 0xFFFFF800 = false → reservedSet (p.w 2) 0xFFFFFF80 = false → bit (p.w 2) 6 = false → bit (p.w 1) 31 = false →
    (bit (p.w 1) 30 = true → bit (p.w 2) 4 = false) →
    (bit (p.w 2) 4 = true → k.fd = true) → (bit (p.w 2) 5 = true → bit (p.w 2) 4 = true) → (bit (p.w 0) 10 = false → p.w 3 = 0) →
    (k.state = .off → Refuses (.canTransmit p) .canTransmit p s stCnState) ∧
    (k.state ≠ .off →
      (q.kind ≠ 2 → Refuses (.canTransmit p) .canTransmit p s stCnBufKind) ∧
      (q.kind = 2 → k.listen = true → Refuses (.canTransmit p) .canTransmit p s stCnListen) ∧
      (q.kind = 2 → k.listen = false → canOwned s c b = true → Refuses (.canTransmit p) .canTransmit p s stLocked) ∧
      (q.kind = 2 → k.listen = false → canOwned s c b = false → q.state = .pending ∨ q.state = .waitTime →
        Refuses (.canTransmit p) .canTransmit p s stCnBusy) ∧
      (q.kind = 2 → k.listen = false → canOwned s c b = false → q.state ≠ .pending → q.state ≠ .waitTime → ∃ u,
        Answers (.canTransmit p) .canTransmit p s u [] ∧ u = s.modCan (fun _ => u.can) ∧ (canBuf u c b).idWord = p.w 1 ∧
        (canBuf u c b).frame = p.w 2 ∧ (canBuf u c b).txTime = p.w 3 ∧
        (∀ i < p.len - 4, look 0 (canBuf u c b).data (4 + i) = p.w (4 + i)) ∧ (canBuf u c b).cancelling = false ∧
        (bit (p.w 0) 10 = false → (canBuf u c b).state = .pending) ∧
        ((canBuf u c b).state = .pending ∨ (canBuf u c b).state = .waitTime) ∧ (∀ d, d ≠ b → canBuf u c d = canBuf s c d) ∧
        ∀ d, d ≠ c → canOf u d = canOf s d))) ∧
  (Reached .canCancel p s → p.len = 1 → reservedSet (p.w 0) 0xFFFFFC00 = false → ∀ b q, b = field (p.w 0) 3 7 → q = canBuf s c b →
    (q.kind ≠ 2 → Refuses (.canCancel p) .canCancel p s stCnBufKind) ∧
    (q.kind = 2 → q.state ≠ .pending → q.state ≠ .waitTime → Answers (.canCancel p) .canCancel p s s [wd q.state.num]) ∧
    (q.kind = 2 → q.cancelling = true → q.state = .waitTime ∨ q.state = .pending →
      Defers (.canCancel p) .canCancel p s (s.modBuf c b fun k => { k with cancelling := true }) [c, b]) ∧
    (q.kind = 2 → q.cancelling = false → q.state = .waitTime ∨ (q.state = .pending ∧ (offered s c ≠ some b ∨ onBus s c = false)) → ∃ u,
      Answers (.canCancel p) .canCancel p s u [wd CanBufState.cancelled.num] ∧ u = s.modBuf c b fun k => { k with state := .cancelled }) ∧
    (q.kind = 2 → q.cancelling = false → q.state = .pending → onBus s c = true → offered s c = some b →
      Answers (.canCancel p) .canCancel p s (s.takeFree.2.modBuf c b fun k => { k with state := .cancelled }) [wd CanBufState.cancelled.num] ∨
      Defers (.canCancel p) .canCancel p s (s.takeFree.2.modBuf c b fun k => { k with cancelling := true }) [c, b])) ∧
  (Reached .canRecover p s → p.len = 1 → reservedSet (p.w 0) 0xFFFFFFF8 = false →
    (k.state ≠ .busOff → Refuses (.canRecover p) .canRecover p s stCnState) ∧
    (k.state = .busOff → Answers (.canRecover p) .canRecover p s (s.modCtrl c fun k => { k with state := .recovering }) [])) ∧
  (Reached .canCounterConfig p s → p.len = 1 → reservedSet (p.w 0) 0xFFFFFFE0 = false → (bit (p.w 0) 4 = true → c = 0) → ∃ u,
    Answers (.canCounterConfig p) .canCounterConfig p s u [] ∧ (bit (p.w 0) 4 = false → (canOf u c).slaved = bit (p.w 0) 3) ∧
    (bit (p.w 0) 4 = true → ∀ d < canControllers s, (canOf u d).slaved = bit (p.w 0) 3) ∧
    (∀ d, (canOf u d).bufs = (canOf s d).bufs ∧ (canOf u d).state = (canOf s d).state) ∧ u.mem = s.mem ∧ u.acq = s.acq)

/-! ### TIME commands (13 R473–R480) -/

/-- TIME.PORT_CONFIG, TIME.PTP_CONFIG and TIME.UDP_CONFIG (13 R474, R475, R479): the settings stand as written; an enabled track is
LISTENING. TIME.DOMAIN_SELECT and TIME.TS_QUEUE_READ (13 R465, R470, R476, R478): HOST sets the mapping to the line written at once, NONE and RING
leave it; a read takes entries from the front of the queue. -/
def Obligations.TimeCommands : Prop :=
  (∀ (p : Packet) (s : State), Tab.wf {} s.net.ports → Tab.wf {} s.net.tracks →
  (Reached .timePortConfig p s → p.len = 8 → reservedSet (p.w 0) 0xFFFFFFF0 = false → reservedSet (p.w 2) 0x80000000 = false →
    p.w 4 ≤ 32 → ∀ n, n = field (p.w 0) 0 1 →
    (s.dev.mode ≠ .configure → s.dev.mode ≠ .ready → Refuses (.timePortConfig p) .timePortConfig p s stBadMode) ∧
    (s.dev.mode = .configure ∨ s.dev.mode = .ready →
      (s.net.udpEnabled = true → bit s.net.udpPorts n = true → udpRing s = true → bit (p.w 0) 1 = false ∨ (portOf s n).ipv4 ≠ p.w 3 →
        Refuses (.timePortConfig p) .timePortConfig p s stTmUdpInUse) ∧
      (s.net.udpEnabled = false ∨ bit s.net.udpPorts n = false ∨ udpRing s = false ∨ (bit (p.w 0) 1 = true ∧ (portOf s n).ipv4 = p.w 3) →
        ∃ u, Answers (.timePortConfig p) .timePortConfig p s u [] ∧ u = s.modNet (fun _ => u.net) ∧ (portOf u n).enable = bit (p.w 0) 1 ∧
        (portOf u n).autoneg = bit (p.w 0) 2 ∧ (portOf u n).tsqEn = bit (p.w 0) 3 ∧ (portOf u n).mac = p.w 1 + 2 ^ 32 * field (p.w 2) 0 16 ∧
        (portOf u n).vlan = field (p.w 2) 16 12 ∧ (portOf u n).pcp = field (p.w 2) 28 3 ∧ (portOf u n).ipv4 = p.w 3 ∧
        (portOf u n).prefixLen = p.w 4 ∧ (portOf u n).gateway = p.w 5 ∧ (portOf u n).ingressNs = field (p.w 6) 0 16 ∧
        (portOf u n).egressNs = field (p.w 6) 16 16 ∧ (portOf u n).asymNs = signed 32 (p.w 7) ∧ (portOf u n).tsq = (portOf s n).tsq ∧
        (∀ m, m ≠ n → portOf u m = portOf s m) ∧ u.net.tracks = s.net.tracks))) ∧
  (Reached .timePtpConfig p s → p.len = 3 → reservedSet (p.w 0) 0xFC000000 = false → 1 ≤ p.w 2 → p.w 2 < 65536 → field (p.w 0) 6 8 ≤ 239 →
    -7 ≤ signed 8 (field (p.w 1) 0 8) → signed 8 (field (p.w 1) 0 8) ≤ 5 → 2 ≤ field (p.w 1) 8 8 → field (p.w 1) 8 8 ≤ 10 →
    1 ≤ field (p.w 1) 16 16 → (bit (p.w 0) 1 = true → field (p.w 0) 2 2 ≠ 0) → s.dev.mode = .configure ∨ s.dev.mode = .ready →
    ∀ k o, k = field (p.w 0) 0 1 → o = trackOf s (1 - k) →
    (bit (p.w 0) 1 = true → bit (p.w 0) 4 = true → (∃ n < 2, bit (field (p.w 0) 2 2) n = true ∧ (portOf s n).ipv4 = 0) →
      Refuses (.timePtpConfig p) .timePtpConfig p s stTmNoAddr) ∧
    (bit (p.w 0) 1 = true → bit (p.w 0) 4 = false → o.enable = true → o.domain = field (p.w 0) 6 8 → o.ports &&& field (p.w 0) 2 2 ≠ 0 →
      Refuses (.timePtpConfig p) .timePtpConfig p s stTmTrackClash) ∧
    (bit (p.w 0) 1 = false ∨ ((bit (p.w 0) 4 = true → ∀ n < 2, bit (field (p.w 0) 2 2) n = true → (portOf s n).ipv4 ≠ 0) ∧
        (o.enable = false ∨ o.domain ≠ field (p.w 0) 6 8 ∨ o.ports &&& field (p.w 0) 2 2 = 0)) → ∃ u,
      Answers (.timePtpConfig p) .timePtpConfig p s u [] ∧ u = s.modNet (fun _ => u.net) ∧ (trackOf u k).enable = bit (p.w 0) 1 ∧
      (trackOf u k).ports = field (p.w 0) 2 2 ∧ (trackOf u k).udp = bit (p.w 0) 4 ∧ (trackOf u k).p2p = bit (p.w 0) 5 ∧
      (trackOf u k).domain = field (p.w 0) 6 8 ∧ (trackOf u k).lockNs = p.w 2 ∧ (trackOf u k).announceTimeout = field (p.w 1) 8 8 ∧
      (trackOf u k).state = (if bit (p.w 0) 1 then .listening else .off) ∧ (trackOf u k).syncs = (trackOf s k).syncs ∧
      (∀ j, j ≠ k → trackOf u j = trackOf s j) ∧ u.net.ports = s.net.ports)) ∧
  (Reached .timeUdpConfig p s → ∀ n, p.w 1 = n → 1 ≤ n → n ≤ 8 → p.len = 2 + 2 * n → reservedSet (p.w 0) 0xFE000000 = false →
    field (p.w 0) 0 16 ≠ 0 → field (p.w 0) 0 16 ≠ 319 → field (p.w 0) 0 16 ≠ 320 → (∀ i < n, p.w (3 + 2 * i) ≤ 32) →
    s.dev.mode = .configure ∨ s.dev.mode = .ready →
    (bit (p.w 0) 16 = true → (∃ m < 2, bit (field (p.w 0) 17 2) m = true ∧ (portOf s m).ipv4 = 0) →
      Refuses (.timeUdpConfig p) .timeUdpConfig p s stTmNoAddr) ∧
    (bit (p.w 0) 16 = false → udpRing s = true → s.net.udpEnabled = true → Refuses (.timeUdpConfig p) .timeUdpConfig p s stTmUdpInUse) ∧
    ((bit (p.w 0) 16 = true → ∀ m < 2, bit (field (p.w 0) 17 2) m = true → (portOf s m).ipv4 ≠ 0) →
      udpRing s = false ∨ s.net.udpEnabled = false ∨ (bit (p.w 0) 16 = true ∧ s.net.udpPorts &&& field (p.w 0) 17 2 = s.net.udpPorts) →
      Answers (.timeUdpConfig p) .timeUdpConfig p s (s.modNet fun u =>
        { u with udpEnabled := bit (p.w 0) 16, udpPort := field (p.w 0) 0 16, udpPorts := field (p.w 0) 17 2, dscp := field (p.w 0) 19 6,
                 allow := (List.range n).map fun i => (p.w (2 + 2 * i), p.w (3 + 2 * i)) }) []))) ∧
  (∀ (p : Packet) (s : State),
  (Reached .timeDomainSelect p s → p.len = 7 → reservedSet (p.w 0) 0xFFFFFFE0 = false → reservedSet (p.w 6) 0xFFF80000 = false →
    1 ≤ field (p.w 1) 0 8 → field (p.w 1) 0 8 ≤ 100 → 1 ≤ field (p.w 1) 8 8 → field (p.w 1) 8 8 ≤ 100 → 1 ≤ field (p.w 1) 16 16 →
    ∀ source, source = field (p.w 0) 0 2 →
    (source = 3 → s.drove.cfg.upEn = false → Refuses (.timeDomainSelect p) .timeDomainSelect p s stRange) ∧
    (source < 2 → (∀ i, 2 ≤ i → i < 7 → p.w i = 0) → (trackOf s source).state ≠ .locked →
      Refuses (.timeDomainSelect p) .timeDomainSelect p s stTmNotLocked) ∧
    (source = 2 → bit (p.w 0) 3 = true ∨ bit (p.w 0) 4 = true → s.drove.cfg.upEn = true →
      Refuses (.timeDomainSelect p) .timeDomainSelect p s stTmNoSteer) ∧
    ((bit (p.w 0) 3 = false ∧ bit (p.w 0) 4 = false) ∨ s.drove.cfg.upEn = false →
      (source = 2 ∨ (source < 2 ∧ (∀ i, 2 ≤ i → i < 7 → p.w i = 0) ∧ (trackOf s source).state = .locked) ∨
        (source = 3 ∧ (∀ i, 2 ≤ i → i < 7 → p.w i = 0) ∧ s.drove.cfg.upEn = true)) → ∃ u,
      Answers (.timeDomainSelect p) .timeDomainSelect p s u [] ∧ u.net.source = source ∧ u.net.autoSwitch = bit (p.w 0) 2 ∧
      u.net.steer = bit (p.w 0) 3 ∧ u.net.stepEarly = bit (p.w 0) 4 ∧ u.net.slewPpm = field (p.w 1) 0 8 ∧
      u.net.maxSteerPpm = field (p.w 1) 8 8 ∧ u.net.stepUs = field (p.w 1) 16 16 ∧ u.net.ports = s.net.ports ∧
      (source = 2 → u.net.mapValid = true ∧ u.net.off = (p.w 2 + place 32 (p.w 3) : Int) - (p.w 4 + place 32 (p.w 5) : Int) ∧
        u.net.ref = (p.w 4 + place 32 (p.w 5) : Int) ∧ u.net.rate = 0 ∧ u.net.diff = 0 ∧ u.net.ring = false ∧
        u.net.utcOffset = signed 16 (field (p.w 6) 0 16) ∧ u.net.utcKnown = bit (p.w 6) 18) ∧
      (source = 3 → u.net.mapValid = (s.net.mapValid && s.net.ring)) ∧ u.mem = s.mem ∧ u.dev = s.dev)) ∧
  (Reached .timeTsQueueRead p s → p.len = 1 → reservedSet (p.w 0) 0xFFFFFFC0 = false → ∀ n most q, n = field (p.w 0) 0 1 →
    most = field (p.w 0) 1 5 → q = portOf s n →
    (most = 0 ∨ 16 < most → Refuses (.timeTsQueueRead p) .timeTsQueueRead p s stRange) ∧
    (1 ≤ most → most ≤ 16 → ∃ ws, Answers (.timeTsQueueRead p) .timeTsQueueRead p s
        (s.modPort n fun o => { o with tsq := o.tsq.drop most, overflow := false }) ws ∧
      ws.getD 0 0 = wd (min most q.tsq.length + place 5 (flag q.overflow)) ∧ ws.length = 1 + 3 * min most q.tsq.length)))

/-! ### SAFE commands (14 R510–R517), PAIR commands (15 R545–R549) and HOST commands (02 R84–R86) -/

/-- The SAFE commands travel to the island: their effect is in the island at once and their answer waits for COMMAND_COMPLETE (14 R486,
R493, R510, R511–R516). An island that is not powered or still starts answers ST_SF_NO_ISLAND. -/
def Obligations.IslandCommands : Prop := ∀ (p : Packet) (s : State),
  (s.isl.powered = false ∨ s.isl.state = .start →
    (Reached .safeParamLoad p s → p.len = 70 → Defers (.safeParamLoad p) .safeParamLoad p s s [stSfNoIsland]) ∧
    (Reached .safeStatus p s → p.len = 0 → Defers (.safeStatus p) .safeStatus p s s [stSfNoIsland]) ∧
    (Reached .safeStop p s → p.len = 1 → reservedSet (p.w 0) 0xFFFFFE00 = false → Defers (.safeStop p) .safeStop p s s [stSfNoIsland])) ∧
  (Reached .safeReset p s → p.len = 1 → reservedSet (p.w 0) 0xFFFFFE00 = false → Defers (.safeReset p) .safeReset p s s []) ∧
  (s.isl.powered = true → s.isl.state ≠ .start →
    (Reached .safeSwitchRead p s → p.len = 0 → Defers (.safeSwitchRead p) .safeSwitchRead p s s
      [stOk, (wd (s.isl.swA + place 16 s.isl.swB)).toNat]) ∧
    (Reached .safeStatus p s → p.len = 0 → Defers (.safeStatus p) .safeStatus p s s (stOk :: (safeStatusWords s).map BitVec.toNat)) ∧
    (Reached .safeDiagRead p s → p.len = 1 → reservedSet (p.w 0) 0xFFFFFFFE = false → ∃ ms, Defers (.safeDiagRead p) .safeDiagRead p s
      (if bit (p.w 0) 0 then s.takeFree.2.modIsl fun u => { u with counters := [] } else s.takeFree.2)
      (stOk :: ((List.range 8).map fun i => (wd (look 0 s.isl.counters i)).toNat) ++ [ms])) ∧
    (Reached .safeMemRead p s → p.len = 1 → reservedSet (p.w 0) 0xFFFFC000 = false → ∀ first count, first = field (p.w 0) 0 7 →
      count = field (p.w 0) 7 7 → 1 ≤ count → first + count ≤ 70 →
      (s.isl.params = [] → Defers (.safeMemRead p) .safeMemRead p s s [stSfNoParams]) ∧
      (s.isl.params ≠ [] → Defers (.safeMemRead p) .safeMemRead p s s (stOk :: ((s.isl.params.drop first).take count).map BitVec.toNat))) ∧
    (Reached .safeStop p s → p.len = 1 → reservedSet (p.w 0) 0xFFFFFE00 = false → s.isl.state = .ready → s.isl.params ≠ [] →
      ∀ pairs, pairs = (bitsOf 8 (field (p.w 0) 0 8)).filter (fun n => (pairOf s n).state == .enabled) → Tab.wf {} s.isl.pairs →
      (pairs = [] → Defers (.safeStop p) .safeStop p s s [stOk]) ∧
      (∀ n ∈ pairs, bit (p.w 0) 8 = true ∨ s.isl.mode n = 0 → ∃ u, Defers (.safeStop p) .safeStop p s u [stOk] ∧
        (pairOf u n).state = .torqueOff ∧ (pairOf u n).stoA = false ∧ (pairOf u n).stoB = false ∧ (pairOf u n).offCause = 3 ∧
        u.isl.inStop = true ∧ u.isl.stopCause = 3 ∧ u.dev.mode = .safe ∧
        ∀ m, m < 8 → m ∉ pairs → (pairOf u m).state = (pairOf s m).state) ∧
      (∀ n ∈ pairs, bit (p.w 0) 8 = false → s.isl.mode n ≠ 0 → ∃ u, Defers (.safeStop p) .safeStop p s u [stOk] ∧
        (pairOf u n).state = .ss1 ∧ (pairOf u n).stoA = (pairOf s n).stoA ∧ (pairOf u n).stoB = (pairOf s n).stoB ∧ (pairOf u n).ss1At = s.now ∧
        bit u.isl.ss1Req n = true ∧ u.isl.inStop = true ∧ u.isl.stopCause = 3)) ∧
    (Reached .safeParamLoad p s → p.len = 70 → s.isl.state ≠ .fault → ∀ crc, crc = crc32 (p.params.take 69) →
      (crc ≠ p.w 69 → Defers (.safeParamLoad p) .safeParamLoad p s s [stSfCheck, (wd crc).toNat, 69]) ∧
      (crc = p.w 69 → (crc % 2 ^ 12 ≠ s.isl.swA / 16 ∨ crc % 2 ^ 12 ≠ s.isl.swB / 16) →
        Defers (.safeParamLoad p) .safeParamLoad p s s [stSfSwitch, (wd crc).toNat, 69]) ∧
      (crc = p.w 69 → crc % 2 ^ 12 = s.isl.swA / 16 → crc % 2 ^ 12 = s.isl.swB / 16 → p.params = s.isl.params →
        Defers (.safeParamLoad p) .safeParamLoad p s s [stOk, (wd crc).toNat, 0xFFFF]) ∧
      (crc = p.w 69 → crc % 2 ^ 12 = s.isl.swA / 16 → crc % 2 ^ 12 = s.isl.swB / 16 → p.params ≠ s.isl.params →
        (∀ i, paramBad p.w (field s.isl.swA 0 3) = some i → Defers (.safeParamLoad p) .safeParamLoad p s s [stSfParam, (wd crc).toNat, (wd i).toNat]) ∧
        (paramBad p.w (field s.isl.swA 0 3) = none → (∃ n < 8, (pairOf s n).state = .enabled ∨ (pairOf s n).state = .ss1) →
          Defers (.safeParamLoad p) .safeParamLoad p s s [stSfTorque, (wd crc).toNat, 0xFFFF]) ∧
        (paramBad p.w (field s.isl.swA 0 3) = none → (∀ n < 8, (pairOf s n).state ≠ .enabled ∧ (pairOf s n).state ≠ .ss1) → ∃ u,
          Defers (.safeParamLoad p) .safeParamLoad p s u [stOk, (wd crc).toNat, 0xFFFF] ∧ u = s.modIsl (fun _ => u.isl) ∧
          u.isl.params = p.params ∧ u.isl.state = .ready ∧
          ∀ n < 8, bit (p.w (5 + 6 * n)) 0 = true → (pairOf u n).state = .torqueOff))))

/-- PAIR.CONFIG, PAIR.HANDOVER, PAIR.CHECKPOINT_CONFIG and PAIR.STANDBY_CHECK (15 R529, R541, R545, R547, R548, R549). What the peer holds is
not in the device: STANDBY_CHECK's result is the model's free value (log 74). -/
def Obligations.PairCommands : Prop := ∀ (p : Packet) (s : State),
  (Reached .pairConfig p s → p.len = 1 → reservedSet (p.w 0) 0xFFFFF800 = false → ∀ lease, lease = field (p.w 0) 2 7 → 1 ≤ lease → lease ≤ 100 →
    field (p.w 0) 9 2 ≠ 0 →
    (s.dev.mode ≠ .configure → Refuses (.pairConfig p) .pairConfig p s stBadMode) ∧
    (s.dev.mode = .configure →
      (bit (p.w 0) 0 = true → hasCycle s = true → lease * 1000 < 2 * lDev s → Refuses (.pairConfig p) .pairConfig p s stPrLease) ∧
      (bit (p.w 0) 0 = true → (hasCycle s = false ∨ 2 * lDev s ≤ lease * 1000) → s.pair.role.holds = true → bit (p.w 0) 1 ≠ s.pair.half1 →
        Refuses (.pairConfig p) .pairConfig p s stPrRole) ∧
      (bit (p.w 0) 0 = false → ∃ u, Answers (.pairConfig p) .pairConfig p s u [] ∧ u.pair.role = .off ∧ u.pair.leaseMs = lease ∧
        u.pair.half1 = bit (p.w 0) 1 ∧ u.mem = s.mem ∧ u.loop = s.loop) ∧
      (bit (p.w 0) 0 = true → (hasCycle s = false ∨ 2 * lDev s ≤ lease * 1000) → s.pair.role.holds = false → ∃ u,
        Answers (.pairConfig p) .pairConfig p s u [] ∧ u.pair.role = .syncing ∧ u.pair.leaseMs = lease ∧ u.pair.half1 = bit (p.w 0) 1 ∧
        u.pair.giveupSev = field (p.w 0) 9 2 ∧ u.mem = s.mem ∧ u.loop = s.loop) ∧
      (bit (p.w 0) 0 = true → (hasCycle s = false ∨ 2 * lDev s ≤ lease * 1000) → s.pair.role.holds = true → bit (p.w 0) 1 = s.pair.half1 →
        Answers (.pairConfig p) .pairConfig p s (s.modPair fun q => { q with
          half1 := bit (p.w 0) 1, leaseMs := lease, giveupSev := field (p.w 0) 9 2, leaseEnd := s.now + 800 * (lease * 1000) }) []))) ∧
  (Reached .pairHandover p s → p.len = 0 →
    (s.dev.mode = .configure ∨ s.dev.mode = .safe ∨ s.dev.mode = .graze → Refuses (.pairHandover p) .pairHandover p s stBadMode) ∧
    (s.dev.mode = .ready ∨ s.dev.mode = .run ∨ s.dev.mode = .hold →
      (s.pair.role.holds = false → Refuses (.pairHandover p) .pairHandover p s stPrRole) ∧
      (s.pair.role.holds = true → s.pair.role ≠ .active ∨ s.pair.peerStandby = false → Refuses (.pairHandover p) .pairHandover p s stPrNoPeer) ∧
      (s.pair.role = .active → s.pair.peerStandby = true → s.pair.giveUp = none → ∃ t, exec (.pairHandover p) s = .next t ∧
        t.pair.giveUp = some { cycle := some (cycleAfter s (devCycle s) 1), handover := some p } ∧ t.pair.role = .active ∧
        t.mem = s.mem ∧ t.dev = s.dev ∧ t.loop = s.loop))) ∧
  (Reached .pairCheckpointConfig p s → ∀ n, p.w 0 = n → n ≤ 8 → p.len = 1 + 2 * n →
    ((∃ r ∈ rangesOf p, rangeOk r = false) → Refuses (.pairCheckpointConfig p) .pairCheckpointConfig p s stRange) ∧
    ((∀ r ∈ rangesOf p, rangeOk r = true) → s.dev.mode ≠ .configure → s.dev.mode ≠ .ready →
      Refuses (.pairCheckpointConfig p) .pairCheckpointConfig p s stBadMode) ∧
    ((∀ r ∈ rangesOf p, rangeOk r = true) → s.dev.mode = .configure ∨ s.dev.mode = .ready →
      Answers (.pairCheckpointConfig p) .pairCheckpointConfig p s (s.modPair fun q => { q with ranges := rangesOf p }) [])) ∧
  (Reached .pairStandbyCheck p s → p.len = 0 →
    (s.pair.role ≠ .active ∨ s.pair.peerStandby = false → Refuses (.pairStandbyCheck p) .pairStandbyCheck p s stPrNoPeer) ∧
    (s.pair.role = .active → s.pair.peerStandby = true →
      Answers (.pairStandbyCheck p) .pairStandbyCheck p s s.takeFree.2 [0] ∨
      ∃ diff, diff ≠ 0 ∧ exec (.pairStandbyCheck p) s = .next (s.takeFree.2.conclude .pairStandbyCheck p stPrMismatch [wd diff])))

/-- HOST.RING_CREATE, HOST.RING_DESTROY and HOST.EVENT_ROUTE (02 R56, R84, R85, R86): a ring that is ABSENT is created ACTIVE and empty;
one that is destroyed no longer takes packets once the reply is written. -/
def Obligations.HostRings : Prop := ∀ (p : Packet) (s : State) (n : Nat), Tab.wf {} s.host.rings → n = field (p.w 0) 0 6 →
  (Reached .hostRingCreate p s → p.len = 6 → 2 ≤ n → ∀ kind log2 tr base shadow, kind = field (p.w 0) 6 2 → log2 = field (p.w 0) 8 4 →
    tr = field (p.w 0) 12 2 → base = p.w 1 + place 32 (p.w 2) → shadow = p.w 3 + place 32 (p.w 4) → 4 ≤ log2 → log2 ≤ 12 → tr ≠ 3 →
    pairedOk s kind tr (field (p.w 0) 14 6) = true → (kind = 3 → tr ≠ 2) → reservedSet (p.w 0) 0xF8000000 = false → p.w 5 < 256 →
    ((ringOf s n).state ≠ .absent → Refuses (.hostRingCreate p) .hostRingCreate p s stRingExists) ∧
    ((ringOf s n).state = .absent →
      (baseOk tr base log2 = false ∨ shadow % 4 ≠ 0 → Refuses (.hostRingCreate p) .hostRingCreate p s stRingAddr) ∧
      (baseOk tr base log2 = true → shadow % 4 = 0 → transportEnabled s tr = false → Refuses (.hostRingCreate p) .hostRingCreate p s stNoTransport) ∧
      (baseOk tr base log2 = true → shadow % 4 = 0 → transportEnabled s tr = true → ∃ u, Answers (.hostRingCreate p) .hostRingCreate p s u [] ∧
        u = s.modHost (fun _ => u.host) ∧ (∀ m, m ≠ n → ringOf u m = ringOf s m) ∧ (ringOf u n).state = .active ∧ (ringOf u n).base = base ∧
        (ringOf u n).shadow = shadow ∧ (ringOf u n).kind = kind ∧ (ringOf u n).log2 = log2 ∧ (ringOf u n).transport = tr ∧
        (ringOf u n).paired = field (p.w 0) 14 6 ∧ (ringOf u n).vector = field (p.w 0) 20 6 ∧ (ringOf u n).irqEn = bit (p.w 0) 26 ∧
        (ringOf u n).holdoff = p.w 5 ∧ (ringOf u n).occupied = 0))) ∧
  (Reached .hostRingDestroy p s → p.len = 1 → p.w 0 = n →
    (n < 2 ∨ (ringOf s n).state = .absent → n < 64 → Refuses (.hostRingDestroy p) .hostRingDestroy p s stRange) ∧
    (2 ≤ n → n < 64 → (ringOf s n).state ≠ .absent →
      ((∃ e ∈ s.host.rings, e.2.kind = 0 ∧ e.2.state ≠ .absent ∧ e.2.paired = n) ∨ streamsTo s n = true →
        Refuses (.hostRingDestroy p) .hostRingDestroy p s stRingInUse) ∧
      ((∀ e ∈ s.host.rings, e.2.kind = 0 → e.2.state ≠ .absent → e.2.paired ≠ n) → streamsTo s n = false → ∃ t,
        exec (.hostRingDestroy p) s = .next t ∧ ((ringOf t n).destroying = true ∨ (ringOf t n).state = .absent) ∧ (∀ m, m ≠ n → (ringOf t m).destroying = (ringOf s m).destroying) ∧
        t.mem = s.mem ∧ t.dev = s.dev ∧ t.loop = s.loop))) ∧
  (Reached .hostEventRoute p s → p.len = 2 → reservedSet (p.w 0) 0xFFFFFC00 = false → reservedSet (p.w 1) 0xFFFE0000 = false →
    ((ringOf s n).state = .absent ∨ (ringOf s n).kind ≠ 2 → Refuses (.hostEventRoute p) .hostEventRoute p s stRange) ∧
    ((ringOf s n).state ≠ .absent → (ringOf s n).kind = 2 → Answers (.hostEventRoute p) .hostEventRoute p s (s.modRing n fun r =>
      { r with evMinSev := field (p.w 0) 6 2, evSubtree := bit (p.w 0) 8, evEnable := bit (p.w 0) 9, evMask := p.w 1 }) []))

/-! ### The host path (02 R52–R77; 15 R537) -/

/-- The indices, the enable and reset of rings, the error registers, replies and the interface's own reset (02 R52, R54, R57, R59, R60, R63,
R65; 03 R88): indices move within R60 or put the ring into FAULT with vector 0. -/
def Obligations.HostRegisters : Prop := ∀ (n v t : Nat) (s u : State), u = s.at t →
  (n < 64 → (ringOf u n).state = .active →
    ((ringOf u n).kind = 0 →
      (cycDiff v (ringOf u n).prod < 0 ∨ 2 ^ (ringOf u n).log2 < (v + 2 ^ 32 - (ringOf u n).cons) % 2 ^ 32 →
        exec (.prodDoorbell n v t) s = .next ((u.modRing n fun r => { r with state := .fault, faultCause := 1 }).sendVector 0)) ∧
      (0 ≤ cycDiff v (ringOf u n).prod → (v + 2 ^ 32 - (ringOf u n).cons) % 2 ^ 32 ≤ 2 ^ (ringOf u n).log2 →
        exec (.prodDoorbell n v t) s = .next (u.modRing n fun r => { r with prod := v % 2 ^ 32 })) ∧
      exec (.consDoorbell n v t) s = .next u) ∧
    ((ringOf u n).kind ≠ 0 → Tab.wf {} u.host.rings →
      (cycDiff v (ringOf u n).cons < 0 ∨ 2 ^ (ringOf u n).log2 < ((ringOf u n).prod + 2 ^ 32 - v % 2 ^ 32) % 2 ^ 32 →
        exec (.consDoorbell n v t) s = .next ((u.modRing n fun r => { r with state := .fault, faultCause := 1 }).sendVector 0)) ∧
      (0 ≤ cycDiff v (ringOf u n).cons → ((ringOf u n).prod + 2 ^ 32 - v % 2 ^ 32) % 2 ^ 32 ≤ 2 ^ (ringOf u n).log2 → ∃ w,
        exec (.consDoorbell n v t) s = .next w ∧ w = u.modHost (fun _ => w.host) ∧ (ringOf w n).cons = v % 2 ^ 32 ∧
        (∀ m, (ringOf w m).prod = (ringOf u m).prod ∧ (ringOf w m).state = (ringOf u m).state) ∧
        (∀ m, m ≠ n → (ringOf w m).cons = (ringOf u m).cons)) ∧
      exec (.prodDoorbell n v t) s = .next u)) ∧
  (n < 2 → (ringOf u n).transport ≠ 3 →
    ((ringOf u n).state = .disabled → exec (.enable n true t) s =
      .next (u.modRing n fun r => { r with prod := 0, cons := 0, state := .active }).restall) ∧
    exec (.enable n false t) s = .next (u.modRing n fun r => { r with state := .disabled, stalled := false })) ∧
  (2 ≤ n → n < 64 → exec (.enable n true t) s = .next u) ∧
  (n < 64 → Tab.wf {} u.host.rings → (ringOf u n).state ≠ .absent → ∃ w, exec (.ringReset n t) s = .next w ∧ w = u.modHost (fun _ => w.host) ∧
    (ringOf w n).prod = 0 ∧ (ringOf w n).cons = 0 ∧ (ringOf w n).faultCause = 0 ∧
    (ringOf w n).state = (if (ringOf u n).state = .fault then .active else (ringOf u n).state) ∧
    (∀ m, m ≠ n → { ringOf w m with stalled := false } = { ringOf u m with stalled := false })) ∧
  (∃ w, exec (.hostErrClear v t) s = .next w ∧ w = u.modHost (fun h => { h with hostErr := w.host.hostErr }) ∧
    ∀ i < 3, bit w.host.hostErr i = (bit u.host.hostErr i && !bit v i)) ∧
  exec (.droppedRepliesRead t) s =
    .next ((u.emit (.completion u.host.droppedReplies)).modHost fun h => { h with droppedReplies := 0 }) ∧
  (n < 64 → (ringOf u n).irqDelayed = true → holdoffOver (ringOf u n) u.now = true → exec (.holdoffExpiry n t) s =
    .next ((u.modRing n fun r => { r with lastIrq := some u.now, irqDelayed := false }).sendVector (ringOf u n).vector)) ∧
  (n < 64 → (ringOf u n).irqDelayed = false → exec (.holdoffExpiry n t) s = .next u) ∧
  (n < 64 → Tab.wf {} u.host.rings → (∀ w ∈ u.host.waiting, w.ring ≠ n) → exec (.replyWrite n .ok t) s = .next u) ∧
  (n < 64 → Tab.wf {} u.host.rings → ∀ w rest, u.host.waiting = w :: rest → w.ring = n → w.frees = none → (ringOf u n).state = .active →
    (ringOf u n).kind ≠ 0 → slotsOf w.words.length ≤ 2 ^ (ringOf u n).log2 - (ringOf u n).occupied → ∃ x, exec (.replyWrite n .ok t) s = .next x ∧
    x.host.waiting = rest ∧ (ringOf x n).prod = ((ringOf u n).prod + slotsOf w.words.length) % 2 ^ 32 ∧ (ringOf x n).cons = (ringOf u n).cons) ∧
  (∃ w, exec (.hostInterfaceReset t) s = .next w ∧ w.host.rings = (HostUnit.afterReset u.boot.hostSel).rings ∧ bit w.host.hostErr 2 = true ∧
    w.host.waiting = (HostUnit.afterReset u.boot.hostSel).waiting ∧ w.host.timed.length = u.host.timed.length ∧
    w.host.deferred.length = u.host.deferred.length ∧ w.mem = u.mem ∧ w.dev = u.dev ∧ w.loop = u.loop) ∧
  (u.boot.pcieTraining = true →
    (u.boot.phase = .running ∨ u.boot.phase = .pinReset ∨ u.boot.phase = .logicReset →
      exec (.configurationRequest v t) s = .next (u.emit (.completion (configWord u v)))) ∧
    (u.boot.phase ≠ .running → u.boot.phase ≠ .pinReset → u.boot.phase ≠ .logicReset →
      exec (.configurationRequest v t) s = .next (u.emit .retryStatus)))

/-- PACKET_TAKE and UDP_DATAGRAM, ARP_REQUEST, TIMED_COMMAND, FORWARD, COMMAND_RESEND, ST_TIMEOUT, MIRRORED_COMMAND and COMMAND_COMPLETE
(02 R55, R62, R64, R69, R70, R72, R75; 13 R460; 15 R537): how packets come in, go on and end. -/
def Obligations.PacketsOnTheirWay : Prop := ∀ (n t : Nat) (s u : State), u = s.at t → servesCommands u = true →
  (∀ given errs r, n < 64 → r = ringOf u n → r.kind = 0 → r.state = .active → r.destroying = false → r.prod ≠ r.cons →
    (lacksRoom u r.paired = true → exec (.packetTake n given .ok errs t) s = .next (u.modRing n fun r => { r with stalled := true })) ∧
    (lacksRoom u r.paired = false → ∀ x ws, x = u.modRing n (fun r => { r with stalled := false }) → ws = ringPacket x r given →
      (4092 < lengthOf ws ∨ 2 ^ r.log2 < slotsOf ws.length → exec (.packetTake n given .ok errs t) s =
        .next ((x.faultRing n 2).turnAway (ringOrigin x n r) ws (if versionOk ws then stBadLength else stHdrVersion))) ∧
      (lengthOf ws ≤ 4092 → slotsOf ws.length ≤ 2 ^ r.log2 →
        (fenced x n (orderedBit ws) = true → exec (.packetTake n given .ok errs t) s = .next x) ∧
        (slotsOf ws.length ≤ r.occupied → fenced x n (orderedBit ws) = false → ∀ y, y = consume n (slotsOf ws.length) x →
          (versionOk ws = false → exec (.packetTake n given .ok errs t) s = .next (y.turnAway (ringOrigin x n r) ws stHdrVersion)) ∧
          (versionOk ws = true → headerBad ws = true → exec (.packetTake n given .ok errs t) s = .next (y.turnAway (ringOrigin x n r) ws stRange)) ∧
          (versionOk ws = true → headerBad ws = false → forwardBit ws = false → targetOf ws = y.drove.devAddr →
            (∀ op, Op.ofCode (opcodeOf ws) = some op → exec (.packetTake n given .ok errs t) s =
              .next (runCommand op (bodyOf op) (packetOf (ringOrigin x n r) ws errs) y)) ∧
            (Op.ofCode (opcodeOf ws) = none → exec (.packetTake n given .ok errs t) s = .next (y.turnAway (ringOrigin x n r) ws stBadOpcode))))))) ∧
  (∀ via ip port ws, n < 64 → via < 2 → (portOf u via).enable = true → (portOf u via).linkUp = true →
    (ws.length ≤ 368 → u.net.udpEnabled = true → bit u.net.udpPorts via = true → allowedSource u ip = false →
      exec (.udpDatagram n via ip port true ws t) s = .next (u.modNet fun k => { k with framesDropped := sat32 k.framesDropped })) ∧
    (ws.length ≤ 368 → u.net.udpEnabled = true → bit u.net.udpPorts via = true → allowedSource u ip = true → (ringOf u n).kind = 0 →
      (ringOf u n).transport = 2 → (ringOf u n).state = .active → 5 ≤ ws.length → ws.length = 5 + lengthOf ws → replyMost ws ≤ 363 →
      (∀ k ∈ u.host.kept, k.ring = n → k.ip = ip → k.port = port → k.tag ≠ ws.getD 1 0) →
      slotsOf ws.length ≤ 2 ^ (ringOf u n).log2 - (ringOf u n).occupied → Tab.wf {} u.host.rings → ∃ x,
      exec (.udpDatagram n via ip port true ws t) s = .next x ∧ (ringOf x n).prod = ((ringOf u n).prod + slotsOf ws.length) % 2 ^ 32 ∧
      x.host.senders = u.host.senders ++ [{ ring := n, index := (ringOf u n).prod, via := via, ip := ip, port := port }] ∧
      (∀ m, m ≠ n → ringOf x m = ringOf u m) ∧ x.dev = u.dev ∧ x.loop = u.loop) ∧
    ((portOf u via).ipv4 ≠ 0 → (portOf u via).mac ≠ 0 → exec (.arpRequest via (portOf u via).ipv4 t) s = .next (u.emit (.arpReply (portOf u via).ipv4 (portOf u via).mac))) ∧
    ((portOf u via).ipv4 ≠ ip → exec (.arpRequest via ip t) s = .next u)) ∧
  (hasCycle u = true → u.cyc.startOf = some (cycleTick u) → exec (.timedCommand t) s = .next ((u.host.timed.filter (timedDue u)).foldl
    (fun x d => execute d.op (bodyOf d.op) d.packet x) (u.modHost fun h => { h with timed := h.timed.filter fun d => !timedDue u d }))) ∧
  (hasCycle u = false → exec (.timedCommand t) s = .next u) ∧
  (silentHalf u = true → exec (.forward t) s = .next u) ∧
  (silentHalf u = false → Tab.wf {} u.drove.members → ∀ e rest, u.drove.fwd = e :: rest → e.sent = false → 0 < cycDiff (devCycle u) e.cycle → ∃ x,
    exec (.forward t) s = .next x ∧ x = u.modDrove (fun _ => x.drove) ∧
    (memberOf x e.member).peer.out = (memberOf u e.member).peer.out ++ [{ kind := 0, words := e.words, ref := e.id }] ∧
    (∀ m, m ≠ e.member → memberOf x m = memberOf u m) ∧ { e with sent := true } ∈ x.drove.fwd) ∧
  ((∀ m, ∀ e ∈ (memberOf u m).peer.sent, unanswered u false e = false) → exec (.commandResend t) s = .next u) ∧
  (∀ m e, u.drove.members.map (·.1) = [m] → Tab.wf {} u.drove.members → (memberOf u m).peer.sent = [e] → unanswered u false e = true → ∃ x,
    exec (.commandResend t) s = .next x ∧ x = u.modDrove (fun _ => x.drove) ∧
    (memberOf x m).peer.sent = [{ e with sentWords := 0, frag := 0, sentCycle := none, resent := true }]) ∧
  (∀ m e g, u.drove.members.map (·.1) = [m] → Tab.wf {} u.drove.members → (memberOf u m).peer.sent = [e] → unanswered u true e = true →
    u.drove.fwd = [g] → g.carried m e = true → ∃ x, exec (.stTimeout t) s = .next (x.turnAway g.origin g.words stTimeout) ∧
    x = u.modDrove (fun _ => x.drove) ∧ x.drove.fwd = [] ∧ (memberOf x m).peer.sent = [{ e with given := true }]) ∧
  (∀ ws, u.pair.role ≠ .standby → exec (.mirroredCommand ws t) s = .next u) ∧
  (∀ ws op, u.pair.role = .standby → Op.ofCode (headWord ws 0) = some op → exec (.mirroredCommand ws t) s =
    .next (executeMirrored op { origin := .mirror, tag := ws.getD 1 0, params := ws.drop 2 } u)) ∧
  (∀ ws op x, u.pair.role = .standby → Op.ofCode (headWord ws 0) = some op → unitFailed u op = false →
    bodyOf op { origin := .mirror, tag := ws.getD 1 0, params := ws.drop 2 } u = (x, .done stOk []) →
    exec (.mirroredCommand ws t) s = .next (x.recordConfig op stOk)) ∧
  (∀ i d, u.host.deferred[i]? = some d → d.op = .memFill → exec (.commandComplete i .ok 0 t) s =
    .next (((fillFinish d.packet u).1.modHost fun h => { h with deferred := h.deferred.eraseIdx i }).answer .memFill d.packet
      (fillFinish d.packet u).2 [])) ∧
  (∀ i, u.host.deferred.length ≤ i → exec (.commandComplete i .ok 0 t) s = .next u)

/-! ### Memory accesses, faults and records (16 R552–R571; 17 R582–R590) -/

/-- Accesses to memory (16 R550, R552, R553, R555, R556, R558, R561): a clean write stores its bytes and no others, a set or clear area sets or
clears the bits of the mask in system memory, a read answers the bytes, an unmapped address ends as an Unsupported Request, as does an
access of another form (log 77), and the scrubber counts what it corrects. QSPI_TRANSACTION (02 R53, R54): on the quad-SPI port a write stores its words and a read returns them; other instructions are ignored. -/
def Obligations.MemoryAndSerialAccesses : Prop :=
  (∀ (t : Nat) (s u : State), u = s.at t → Canonical u → u.boot.phase = .running → u.boot.hostSel = 0 →
  domainFailed u 1 = false → domainFailed u 3 = false →
  (∀ a n v, 1 ≤ n → n ≤ 64 → a + n ≤ 0x02000000 → formOk a n = true → poisonBlocks u a n true = none → ∃ w : State,
    exec (.memoryAccess { path := .bar2, addr := a, size := n, data := some v } t) s = .next w ∧
    readNat w a n = v % 256 ^ n ∧ (∀ x, x < a ∨ a + n ≤ x → readByte w x = readByte u x) ∧ w.host = u.host ∧ w.dev = u.dev ∧ w.flt = u.flt) ∧
  (∀ a n, 1 ≤ n → n ≤ 64 → a + n ≤ 0x02000000 → formOk a n = false →
    exec (.memoryAccess { path := .bar2, addr := a, size := n } t) s = .next ((wakeDomain 1 u).emit .unsupported)) ∧
  (∀ a n, 1 ≤ n → n ≤ 64 → a + n ≤ 0x02000000 → formOk a n = true → poisonBlocks u a n false = none → ∃ w : State,
    exec (.memoryAccess { path := .bar2, addr := a, size := n } t) s = .next (w.emit (.completion (readNat u a n))) ∧ w.mem = u.mem ∧ w.dev = u.dev) ∧
  (∀ a, 0x02000000 ≤ a → a + 4 ≤ 0x10000000 → exec (.memoryAccess { path := .bar2, addr := a } t) s =
    .next (((wakeDomain 1 u).modHost fun h => { h with hostErr := setBit h.hostErr 1 true }).emit .unsupported)) ∧
  (∀ a n m, a + n ≤ 0x02000000 → n = 1 ∨ n = 2 ∨ n = 4 ∨ n = 8 → a % n = 0 → m < 2 ^ (8 * n) → poisonBlocks u (0x10000000 + a) n false = none →
    ∃ w : State, exec (.bitSetWrite a n m t) s = .next w ∧ readNat w a n = readNat u a n ||| m ∧
    (∀ x, x < a ∨ a + n ≤ x → readByte w x = readByte u x) ∧ w.host = u.host ∧ w.dev = u.dev) ∧
  (∀ a n m, a + n ≤ 0x02000000 → n = 1 ∨ n = 2 ∨ n = 4 ∨ n = 8 → a % n = 0 → m < 2 ^ (8 * n) → poisonBlocks u (0x20000000 + a) n false = none →
    ∃ w : State, exec (.bitClearWrite a n m t) s = .next w ∧ readNat w a n = readNat u a n - (readNat u a n &&& m) ∧
    (∀ x, x < a ∨ a + n ≤ x → readByte w x = readByte u x) ∧ w.host = u.host ∧ w.dev = u.dev) ∧
  (∀ x, x < 2 ^ 32 → exec (.registerWrite 0x40E00000 x t) s = .next (u.setCursor x)) ∧
  (∀ a last, a < 0x02000000 → poisonBlocks u (a / 8 * 8) 8 false = none → Tab.wf 0 u.mem.cePass →
    look 0 u.mem.cePass (a / 64 % 32) < u.mem.ceThreshold → ∃ w : State,
    exec (.scrub a .single last t) s = .next w ∧ w.mem.ce = sat32 u.mem.ce ∧ w.mem.store = u.mem.store ∧ w.mem.deLasting = u.mem.deLasting ∧
    w.mem.scrubPasses = (if last then sat32 u.mem.scrubPasses else u.mem.scrubPasses) ∧ w.dev = u.dev) ∧
  (∀ a, a < 0x02000000 → poisonBlocks u (a / 8 * 8) 8 false = none → u.mem.poison.length < 64 → ∃ w : State,
    exec (.scrub a .doubleLasting false t) s = .next w ∧ a / 8 * 8 ∈ w.mem.poison ∧ w.mem.lastErrAddr = a / 8 * 8 ∧
    w.mem.deLasting = sat32 u.mem.deLasting)) ∧
  (∀ (t : Nat) (s u : State), u = s.at t → Canonical u → u.boot.phase = .running → u.boot.hostSel = 1 →
  domainFailed u 1 = false → domainFailed u 3 = false → Tab.wf {} u.pwr.domains →
  (∀ a instr ws, instr = 0x02 ∨ instr = 0x12 → 1 ≤ ws.length → ws.length ≤ 1024 → a + 4 * ws.length ≤ 0x02000000 → a % 4 = 0 →
    u.mem.poison = [] → ∃ w : State, exec (.qspiTransaction instr a ws 0 t) s = .next w ∧
    (∀ i < ws.length, readWord w (a + 4 * i) = (ws.getD i 0).toNat) ∧ (∀ x, x < a ∨ a + 4 * ws.length ≤ x → readByte w x = readByte u x) ∧
    w.host = u.host ∧ w.dev = u.dev) ∧
  (∀ a instr n, instr = 0x0B ∨ instr = 0xEB → 1 ≤ n → n ≤ 1024 → a + 4 * n ≤ 0x02000000 → a % 4 = 0 → u.mem.poison = [] → ∃ w : State,
    exec (.qspiTransaction instr a [] n t) s = .next (w.emit (.qspiRead 0x5A (readWords u a n))) ∧ w.mem = u.mem ∧ w.host = u.host) ∧
  (∀ a instr ws n, instr < 256 → a < 2 ^ 32 → instr ≠ 0x02 → instr ≠ 0x12 → instr ≠ 0x0B → instr ≠ 0xEB →
    exec (.qspiTransaction instr a ws n t) s = .next u))

/-- The fault manager and the recorder (16 R566–R568, R571; 17 R582–R590): a fault is taken in hand at once where none is, waits in the queue
else, and the next is taken up when it is handled; a record goes from the intake queue to its slot with its SEQ; WINDOW follows CURSOR. -/
def Obligations.FaultsAndRecords : Prop := ∀ (t : Nat) (s u : State), u = s.at t →
  (∀ unit code detail, unit ≤ 16 → code < 65536 → detail < 2 ^ 32 → u.flt.inHand = none → u.flt.waiting = [] →
    u.pair.role = .off → ∃ w : State, exec (.faultReport unit code 1 detail false t) s = .next w ∧
    (∃ f, w.flt.inHand = some f ∧ f.unit = unit ∧ f.code = code ∧ f.sev = 1 ∧ f.detail = detail) ∧ w.dev = u.dev ∧ w.mem = u.mem ∧
    w.loop = u.loop) ∧
  (∀ unit code detail, unit ≤ 16 → code < 65536 → detail < 2 ^ 32 → u.flt.inHand = none → u.flt.waiting = [] → u.pair.role = .off → ∃ w : State,
    exec (.faultReport unit code 3 detail false t) s = .next w ∧ w.dev.mode = .safe) ∧
  (u.flt.inHand = none → exec (.faultHandled t) s = .next u) ∧
  (∀ f, u.flt.inHand = some f → f.sev = 1 → u.flt.waiting = [] → ∃ w : State, exec (.faultHandled t) s = .next w ∧ w.flt.inHand = none ∧
    w.flt.waiting = [] ∧ w.dev = u.dev ∧ w.mem = u.mem) ∧
  (recorderFree u = false ∨ u.tally.intake = [] → exec (.recordWrite t) s = .next u) ∧
  (∀ r rest, recorderFree u = true → u.tally.intake = r :: rest → Canonical u → r.transient = false → r.sev = 3 → u.tally.lostSince = 0 →
    u.tally.kept < 4096 → u.tally.seq < 2 ^ 32 → (∀ v, (trigOf u v).kind ≠ 10) → ∃ w : State, exec (.recordWrite t) s = .next w ∧ w.tally.intake = rest ∧ w.tally.seq = (u.tally.seq + 1) % 2 ^ 32 ∧
    w.tally.kept = u.tally.kept + 1 ∧ w.tally.circNext = u.tally.circNext ∧ slotValid w u.tally.kept = true ∧
    slotSeq w u.tally.kept = u.tally.seq ∧ readWord w (tallySlot u.tally.kept + 20) = r.detail % 2 ^ 32 ∧
    (∀ n, n ≠ u.tally.kept → n < 16384 → slotValid w n = slotValid u n ∧ slotSeq w n = slotSeq u n) ∧ w.dev = u.dev) ∧
  (u.tally.started = true ∨ recorderUp u = false → exec (.restarted t) s = .next u) ∧
  (u.tally.started = false → recorderUp u = true → ∃ w : State, exec (.restarted t) s = .next w ∧ w.tally.started = true ∧ w.tally.early = []) ∧
  (u.boot.phase ≠ .running → (∀ v, exec (.cursorWrite v t) s = .next u) ∧ exec (.windowRead t) s = .next u) ∧
  (∀ v c m, u.boot.phase = .running → moveCursor u (v % 2 ^ 32) = (c, m) → ∃ w : State, exec (.cursorWrite v t) s = .next w ∧ w.tally.cursor = c ∧ w.tally.moved = m ∧
    w.tally.windowLatch = recordWords u c ∧ w.mem = u.mem) ∧
  (u.boot.phase = .running → exec (.windowRead t) s = .next ((u.emit (.completion (u.tally.windowLatch.getD 7 0).toNat)).setCursor ((u.tally.cursor + 1) % 2 ^ 32)))

/-! ### Power-up, resets and the cycle (01; 03) -/

/-- The order of a cold power-up (03 R87–R92): COLD_POWER_UP leaves the reset state with no STO pair energised, T1 starts the crystal, PLL_LOCK
starts device time at 0, FUSE_READ samples HOST_SEL, MEMORY_CLEARING zeroes every memory, and CONFIGURE is reached with the up-ring open where
no boot transport is chosen, each at its instant after t1. PCIE_PERST_RELEASE enables link training. The resets and what follows them (03 R94–R101; 19 R627): a warm reset takes a single device to CONFIGURE with its RESET_CAUSE and one more
RESET_COUNT; the cocoon image and the records of TALLY stay; the logic is released into the resume window, not before 2 µs; the configuration
is checked and replayed once, and a lasting error of its record leaves the reset configuration; a supply whose loss acts like RESET_N does the same as the pin; and RESUME restores the image where AUTO_RESUME asks for it. -/
def Obligations.PowerUpAndResets : Prop :=
  (∀ (t : Nat) (s u : State), u = s.at t →
  (u.boot.phase = .unpowered → ∃ w : State, exec (.coldPowerUp t) s = .next w ∧ w.boot.phase = .beforeT1 ∧ w.dev = State.reset.dev ∧
    w.cyc = State.reset.cyc ∧ w.mem = State.reset.mem ∧ w.graph = State.reset.graph ∧ w.boot.perstReleased = false ∧
    w.boot.variant = u.boot.variant ∧ w.now = u.now ∧ w.pending = u.pending ∧
    (u.isl.state = .ready → ∀ p, p < 8 → pairLive w p = false)) ∧
  (u.boot.phase = .beforeT1 → u.boot.resetPinHigh = true → exec (.t1 t) s = .next (u.modBoot fun b =>
    { b with phase := .crystal, t1At := u.now, lostSupplies := b.lostSupplies.filter (9 < ·) })) ∧
  (u.boot.phase = .crystal → u.boot.t1At + clocksOfUs 2200 ≤ u.now → ∃ w : State, exec (.pllLock t) s = .next w ∧ w.clock = 0 ∧ w.boot = { u.boot with phase := .locked } ∧
    w.now = u.now ∧ w.mem = u.mem ∧ w.dev = u.dev) ∧
  (∀ sel first second, sel < 4 → u.boot.phase = .locked → u.boot.t1At + clocksOfUs 2250 ≤ u.now → ∃ w : State, exec (.fuseRead sel first second t) s = .next w ∧
    w.boot.phase = .fused ∧ w.boot.hostSel = sel ∧ w.boot.fuseFault = (!first && !second) ∧ w.dev = u.dev ∧ w.mem = u.mem) ∧
  (u.boot.phase = .fused → u.boot.t1At + clocksOfUs 2300 ≤ u.now → ∃ w : State, exec (.memoryClearing t) s = .next w ∧ w.boot.phase = .cleared ∧ (∀ a, readByte w a = 0) ∧
    w.mem.poison = [] ∧ w.boot.pcieTraining = u.boot.perstReleased ∧ w.dev = u.dev ∧ w.pair = u.pair) ∧
  (u.boot.phase = .cleared → u.boot.t1At + clocksOfUs 4000 ≤ u.now → ∃ w : State, exec (.configureReached t) s = .next w ∧ w.boot.phase = .running ∧
    w.host = HostUnit.afterReset u.boot.hostSel ∧ w.drove.cfg.upEn = decide (2 ≤ u.boot.hostSel) ∧ w.drove.cfg.downEn = false ∧
    w.dev = u.dev) ∧
  (∃ w : State, exec (.pciePerstRelease t) s = .next w ∧ w.boot.perstReleased = true ∧ (u.boot.phase = .cleared ∨ u.boot.phase = .running →
    w.boot.pcieTraining = true) ∧ w.boot.phase = u.boot.phase ∧ w.dev = u.dev ∧ w.mem = u.mem ∧ w.host = u.host)) ∧
  (∀ (t : Nat) (s u : State), u = s.at t →
  (u.boot.phase = .running → ∃ w : State, exec (.resetNAssert t) s = .next w ∧ w.boot.phase = .pinReset ∧ w.boot.resetCause = 1 ∧
    w.boot.resetCount = min 255 (u.boot.resetCount + 1) ∧ w.boot.resetPinHigh = false ∧ w.boot.windowOpened = none ∧
    w.boot.replayed = false ∧ w.keep.image = u.keep.image ∧ w.tally.kept = u.tally.kept ∧ w.tally.seq = u.tally.seq ∧ w.mem.poison = []) ∧
  (u.boot.phase = .pinReset → u.boot.lostSupplies.all (9 < ·) = true → exec (.resetNRelease t) s = .next (u.modBoot fun b =>
    { b with resetPinHigh := true, phase := .logicReset, releaseFrom := u.now })) ∧
  (u.boot.phase = .running → u.pair.role = .off → ∃ w : State, exec (.watchdogExpiry t) s = .next w ∧ w.boot.phase = .logicReset ∧
    w.boot.resetCause = 3 ∧ w.boot.resetCount = min 255 (u.boot.resetCount + 1) ∧ w.dev.mode = .configure ∧
    w.dev.autoResume = u.dev.autoResume ∧ w.dev.maxGap = u.dev.maxGap ∧ w.flt.inHand = none ∧ w.flt.waiting = [] ∧
    w.host = { HostUnit.afterReset u.boot.hostSel with pending := if u.dev.mode = .configure then [] else [0] } ∧
    w.keep.image = u.keep.image ∧ w.tally.kept = u.tally.kept) ∧
  (∀ from', u.boot.phase = .running → u.pair.role = .off → u.boot.warmResetAt = some from' → from' ≤ u.now → (u.boot.resetOnReply && resetReplyWaits u) = false → u.boot.resetAs ≠ 1 →
    ∃ w : State, exec (.warmResetStart t) s = .next w ∧ w.boot.phase = .logicReset ∧ w.boot.resetCause = u.boot.resetAs ∧
    w.boot.warmResetAt = none ∧ w.dev.mode = .configure ∧ w.boot.holdingOutputs = (u.boot.holdingOutputs ||
    u.dev.mode == .run || u.dev.mode == .hold)) ∧
  (u.boot.phase = .logicReset → u.now < u.boot.releaseFrom + clocksOfUs 2 → exec (.logicRelease t) s = .next u) ∧
  (u.boot.phase = .logicReset → u.boot.releaseFrom + clocksOfUs 2 ≤ u.now → u.boot.noResume = false → ∃ w : State, exec (.logicRelease t) s = .next w ∧ w.boot.phase = .running ∧
    w.boot.windowOpened = some u.now ∧ w.mem.fullRate = true ∧ w.mem.store = u.mem.store ∧ w.dev = u.dev ∧ w.keep = u.keep) ∧
  (∀ record image : List (Nat × MemErr), u.boot.phase = .running → u.boot.replayed = false → u.boot.recordGood = true →
    (record ++ image).all (·.2 == .clean) = true → ∃ w : State, exec (.configurationReplay record image t) s = .next w ∧
    w.boot.replayed = true ∧ w.keep.image = u.keep.image ∧ w.mem = u.mem ∧ w.dev = u.dev ∧ w.loop = u.loop ∧ w.graph = u.graph) ∧
  (∀ a, u.boot.phase = .running → u.boot.replayed = false → u.boot.recordGood = true → 0x32000000 ≤ a → a < 0x32200000 → ∃ w : State,
    exec (.configurationReplay [(a, .doubleTransient)] [] t) s = .next w ∧ w.boot.replayed = true ∧ w.keep.image = u.keep.image ∧
    w.mem = { u.mem with deTransient := sat32 u.mem.deTransient, lastErrAddr := a / 8 * 8 } ∧ w.loop = u.loop ∧ w.graph = u.graph) ∧
  (∀ (record image : List (Nat × MemErr)) (a : Nat), u.boot.phase = .running → u.boot.replayed = false → u.boot.windowOpened.isSome = true → 0x32000000 ≤ a →
    a < 0x32010000 → (a, .doubleLasting) ∈ record → ∃ w : State,
    exec (.configurationReplay record image t) s = .next w ∧ w.boot.windowOpened = none ∧ w.boot.recordGood = false ∧ w.keep.image = none ∧
    w.graph.forces = [] ∧ w.loop = {}) ∧
  (u.boot.phase = .running → ∀ n, 2 < n → n < 10 → ∃ w : State, exec (.supplyLoss n t) s = .next w ∧ w.boot.phase = .pinReset ∧
    w.boot.resetCause = 1 ∧ n ∈ w.boot.lostSupplies ∧ w.keep.image = u.keep.image) ∧
  (∃ w : State, exec (.supplyLoss 2 t) s = .next w ∧ w.boot.phase = .unpowered ∧ (∀ a, readByte w a = 0) ∧ w.dev = State.reset.dev ∧
    (u.isl.state = .ready → ∀ p, p < 8 → pairLive w p = false)) ∧
  (∀ n, n < 12 → n ≠ 2 → ∃ w : State, exec (.supplyRestored n t) s = .next w ∧ n ∉ w.boot.lostSupplies ∧ w.dev = u.dev ∧ w.mem = u.mem ∧
    w.keep = u.keep) ∧
  (∀ c, u.boot.phase = .running → hasCycle u = true → u.clock % clocksOfUs (max 1 (lDev u)) = 0 → integrated u = true → u.pair.takeDue = none →
    u.pair.role = .off → u.boot.windowOpened.isSome = true → u.boot.replayed = true → u.boot.recordGood = true → u.keep.image = some c →
    u.host.deferred = [] → u.dev.autoResume = true → u.boot.autoSuppressed = false → u.dev.resumeToReady = false →
    gapTooLong u c.cycle = false → ∃ w : State, exec (.resume t) s = .next w ∧ w.dev.mode = c.mode ∧ w.boot.windowOpened = none ∧
    w.boot.resumedAt = some (devCycle u) ∧ w.graph.forces = c.forces ∧ w.keep.image = some c)) ∧
  (∀ (t : Nat) (s u : State), u = s.at t →
  (u.boot.windowOpened = none → exec (.resumeWindowClose t) s = .next u) ∧
  (∀ o, u.boot.windowOpened = some o → u.now < o + clocksOfUs 50000 → exec (.resumeWindowClose t) s = .next u) ∧
  (∀ o, u.boot.windowOpened = some o → o + clocksOfUs 50000 ≤ u.now → resumeRequested u = false → ∃ w : State,
    exec (.resumeWindowClose t) s = .next w ∧ w = closeWindow u ∧ w.boot.windowOpened = none ∧ w.keep.image = none ∧ w.loop = {}))

/-- Power domains and GRAZE (18 R602, R603, R605–R613): a transition ends in its state once its time is over, a raising that fails is repeated
once and then the domain is FAILED, the entry to GRAZE keeps the levels, a compare entry, the timer and a CAN level wake the device with their
cause, and the monitors take the sampled values. -/
def Obligations.PowerAndGraze : Prop := ∀ (t : Nat) (s u : State), u = s.at t → Tab.wf {} u.pwr.domains →
  (∀ d p, d < 12 → (domain u d).going = some p → (domain u d).since + clocksOfUs (transitionUs d (domain u d) p) ≤ u.now → ∃ w : State, exec (.transitionDone d t) s = .next w ∧ (domain w d).state = p ∧
    (p = .on → (domain w d).failed = false) ∧ w.cyc = u.cyc ∧ w.graph = u.graph ∧ w.axis = u.axis) ∧
  (∀ d p, d < 12 → (domain u d).going = some p → u.now < (domain u d).since + clocksOfUs (transitionUs d (domain u d) p) →
    exec (.transitionDone d t) s = .next (settleGraze u)) ∧
  (∀ d, d < 12 → (domain u d).going = some .on → (domain u d).since + clocksOfUs (domain u d).wakeTimeoutUs ≤ u.now →
    (domain u d).retrying = false → ∃ w : State, exec (.wakeTimeout d t) s = .next w ∧
    (domain w d).retrying = true ∧ (domain w d).going = some .on ∧ w.pwr.wakeRetries = sat32 u.pwr.wakeRetries ∧ w.graph = u.graph ∧
    (∀ a < 0x30000000, readByte w a = readByte u a)) ∧
  (∀ d, d < 12 → (domain u d).going = some .on → (domain u d).since + clocksOfUs (domain u d).wakeTimeoutUs ≤ u.now →
    (domain u d).retrying = true → ∃ w : State, exec (.wakeTimeout d t) s = .next w ∧
    (domain w d).failed = true ∧ (domain w d).going = none ∧ w.graph = u.graph ∧ (∀ a < 0x30000000, readByte w a = readByte u a) ∧
    (essential u d = true → u.flt.inHand = none → u.flt.waiting = [] → w.dev.mode = .safe)) ∧
  (u.dev.mode = .graze → u.pwr.entryRunning = true → u.pwr.exitQueued = none → allReady u = true → ∃ w : State, exec (.grazeEntry t) s = .next w ∧
    w.pwr.entryRunning = false ∧ w.pwr.nextSample = u.now + grazePeriod u ∧ (∀ n < 64, look false w.pwr.entryLevels n = dinLogical u n) ∧ w.dev = u.dev ∧ w.mem = u.mem) ∧
  (∀ g ains vs, u.dev.mode = .graze → u.pwr.graze = some g → u.pwr.entryRunning = false → u.pwr.waking = false → u.pwr.nextSample ≤ u.now →
    vs.length = 24 → u.pwr.monitors.length = 24 →
    ∃ w : State, exec (.grazeSample ains vs t) s = .next w ∧ (∀ i < 24, (w.pwr.monitors.getD i Monitor.temperature).value = vs.getD i 0) ∧
    w.graph = u.graph ∧ (∀ a < 0x30000000, readByte w a = readByte u a)) ∧
  (∀ g ains vs e v, u.dev.mode = .graze → u.pwr.graze = some g → u.pwr.entryRunning = false → u.pwr.waking = false →
    u.pwr.nextSample ≤ u.now → u.pwr.masked = [] → g.entries = [e] → field e 0 3 = 1 → dinLogical u (field e 3 7) = true →
    v = sampleMonitors vs (u.modPwr fun p => { p with nextSample := p.nextSample + grazePeriod u }) → v.dev.mode = .graze →
    v.pwr.waking = false →
    ∃ w : State, exec (.grazeSample ains vs t) s = .next w ∧ w.pwr.wakeCause = 1 ∧ w.pwr.masked = [0]) ∧
  (∀ vs, vs.length = 24 → u.pwr.monitors.length = 24 → monitorsDue u = true → ∃ w : State, exec (.monitorSample vs t) s = .next w ∧
    (∀ i < 24, (w.pwr.monitors.getD i Monitor.temperature).value = vs.getD i 0 ∧
      (w.pwr.monitors.getD i Monitor.temperature).sampled = true) ∧ w.graph = u.graph ∧ w.mem = u.mem) ∧
  (∀ g, u.dev.mode = .graze → u.pwr.graze = some g → u.pwr.entryRunning = false → u.pwr.waking = false → g.maxS ≠ 0 →
    u.pwr.grazeSince + clocksOfUs (g.maxS * 1000000) ≤ u.now → ∃ w : State, exec (.maxS t) s = .next w ∧ w.pwr.wakeCause = 2 ∧
    w.graph = u.graph ∧ (∀ a < 0x30000000, readByte w a = readByte u a)) ∧
  (∀ g, u.dev.mode = .graze → u.pwr.graze = some g → u.now < u.pwr.grazeSince + clocksOfUs (g.maxS * 1000000) →
    exec (.maxS t) s = .next u) ∧
  (∀ g n, n < canControllers u → u.dev.mode = .graze → u.pwr.graze = some g → u.pwr.entryRunning = false → u.pwr.waking = false →
    u.pwr.exitQueued = none → bit g.canWake n = true → n ∉ u.pwr.canMasked → ∃ w : State, exec (.canWake n t) s = .next w ∧ w.pwr.wakeCause = 3 ∧
    n ∈ w.pwr.canMasked ∧ w.graph = u.graph ∧ (∀ a < 0x30000000, readByte w a = readByte u a)) ∧
  (∀ n, n < canControllers u → ∃ w : State, exec (.canWakeRecessive n t) s = .next w ∧
    (∀ m, m ∈ w.pwr.canMasked ↔ m ∈ u.pwr.canMasked ∧ m ≠ n) ∧ w.dev = u.dev ∧ w.mem = u.mem ∧ w.can = u.can)

/-- The control cycle (01 R13, R18, R22–R34, R47; 03 R99, R106): the start of a cycle takes the transition asked for, the input instant captures
once, the commit point of a RUN device whose programs are in time commits and completes the cocoon image, the output instant applies what was
committed or counts the miss against the hold budget (before the first image of a stay in RUN too, log 118), and entry to SAFE drives the substitute values. -/
def Obligations.ControlCycle : Prop :=
  (∀ (t : Nat) (s u : State), u = s.at t →
  (u.boot.phase = .running → u.cyc.startOf ≠ some (cycleTick u) → lDev u ≠ 0 → ∃ w : State, exec (.cycleStart t) s = .next w ∧
    w.cyc.startOf = some (cycleTick u) ∧ w.boot = u.boot ∧ w.isl = u.isl ∧ w.now = u.now) ∧
  (u.cyc.startOf = some (cycleTick u) → exec (.cycleStart t) s = .next u) ∧
  (∀ d, u.boot.phase = .running → u.cyc.startOf ≠ some (cycleTick u) → lDev u ≠ 0 → u.drove.cfg.upEn = false → u.drove.downStarted = false →
    hasCycle u = true → u.cyc.changeover = none → u.dev.mode = .ready → u.dev.stopPending = false → u.host.deferred = [d] → d.op = .devSetMode →
    (d.packet.w 0) % 8 = 2 → ∃ w : State, exec (.cycleStart t) s = .next w ∧ w.dev.mode = .run ∧ w.dev.modeRequest = none ∧
    w.cyc.commit = .committing ∧ w.cyc.miss = 0 ∧ w.cyc.misses = 0 ∧ w.cyc.firstCommitted = false) ∧
  (∀ n, u.boot.phase = .running → hasCycle u = true → u.dev.mode ≠ .graze → n = cycleTick u → u.cyc.inputOf ≠ some n →
    clocksOfUs (inOffset u) ≤ intoCycle u → ∃ w : State, exec (.inputInstant t) s = .next w ∧ w.cyc.inputOf = some n ∧
    w.adc.image = u.adc.results ∧ w.adc.imageUntil = u.now + clocksOfUs 2 ∧ w.graph = u.graph ∧ w.mem = u.mem) ∧
  (u.cyc.inputOf = some (cycleTick u) → exec (.inputInstant t) s = .next u) ∧
  (∀ n k, u.boot.phase = .running → hasCycle u = true → u.dev.mode = .run → n = cycleTick u → k = devCycle u → u.cyc.commitOf ≠ some n →
    pastCommitPoint u = true → u.drove.cfg.upEn = false → u.pair.role = .off → programsLate u k = false →
    u.graph.readyCycle = some k ∨ (∀ n, n < 4 → periodDue u n k = false) → leavesRun u = false →
    u.cyc.unresolved = false → u.boot.resumedAt = none → u.pair.outgoing = none → (u.keep.undo.headD []).length ≤ undoLimit →
    ∃ w : State, exec (.commitPoint t) s = .next w ∧ w.cyc.commitOf = some n ∧ w.cyc.committedNow = true ∧ w.dev = u.dev ∧ w.axis = u.axis ∧
    ∃ c, w.keep.image = some c ∧ c.cycle = k ∧ c.committed = true ∧ c.mode = .run) ∧
  (∀ n, u.boot.phase = .running → hasCycle u = true → u.dev.mode = .ready → n = cycleTick u → u.cyc.commitOf ≠ some n → pastCommitPoint u = true →
    ∃ w : State, exec (.commitPoint t) s = .next w ∧ w.cyc.commitOf = some n ∧ w.cyc.committedNow = false ∧ w.dev = u.dev) ∧
  (u.boot.phase = .running → hasCycle u = true → lDev u ≠ 0 → u.dev.mode = .run → u.cyc.outputOf ≠ some (cycleTick u) →
    u.boot.holdingOutputs = false → u.cyc.committedNow = true → u.cyc.commit = .committing ∨ u.cyc.commit = .holding →
    ∃ w : State, exec (.outputInstant t) s = .next w ∧ w.cyc.commit = .committing ∧ w.cyc.miss = 0 ∧ w.cyc.committedNow = false ∧
    w.cyc.firstCommitted = true ∧ w.graph.inForce = u.graph.image.values ∧ w.cyc.misses = u.cyc.misses) ∧
  (u.boot.phase = .running → hasCycle u = true → lDev u ≠ 0 → u.dev.mode = .run → u.cyc.outputOf ≠ some (cycleTick u) →
    u.boot.holdingOutputs = false → u.cyc.committedNow = false → u.cyc.enteredAt ≠ some (devCycle u) →
    u.cyc.commit = .committing → u.cyc.miss + 1 ≤ u.cyc.holdBudget → ∃ w : State, exec (.outputInstant t) s = .next w ∧
    w.cyc.commit = (if u.cyc.firstCommitted then .holding else .committing) ∧ w.cyc.miss = min 31 (u.cyc.miss + 1) ∧ w.cyc.misses = sat32 u.cyc.misses ∧
    w.graph.inForce = u.graph.inForce ∧ w.dio = u.dio ∧ w.dev = u.dev) ∧
  (u.boot.phase = .running → hasCycle u = true → lDev u ≠ 0 → u.dev.mode = .run → u.cyc.outputOf ≠ some (cycleTick u) →
    u.boot.holdingOutputs = false → u.cyc.committedNow = false → u.cyc.enteredAt ≠ some (devCycle u) →
    u.cyc.commit = .committing ∨ u.cyc.commit = .holding → u.cyc.holdBudget ≤ u.cyc.miss → u.cyc.holdBudget < 31 → ∃ w : State, exec (.outputInstant t) s = .next w ∧
    w.cyc.commit = .substitute ∧ w.cyc.substEntries = sat32 u.cyc.substEntries ∧ w.dio.substitute = true) ∧
  (u.dev.safeEntryDue = false → exec (.safeEntry t) s = .next u) ∧
  (u.dev.safeEntryDue = true → u.dev.mode = .safe → ∃ w : State, exec (.safeEntry t) s = .next w ∧ w.dev.safeEntryDue = false ∧
    w.dev.mode = .safe ∧ w.dio.substitute = true ∧ w.cyc.committedNow = false ∧ w.graph.inForce = [] ∧ (u.pwr.inGraze = false → w.mem = u.mem))) ∧
  (∀ (t : Nat) (s u : State), u = s.at t → (∀ n, n < 4 → (slotOf u n).stepping = none) →
  (∀ n x r, n < 4 → (slotOf u n).exec = some x → x.release = some r → u.clock < r) →
  (hasCycle u = false ∨ u.graph.readyCycle = some (devCycle u) ∨ u.clock < inputReadyClock u → exec (.inputReady t) s = .next u) ∧
  (hasCycle u = true → u.graph.readyCycle ≠ some (devCycle u) → inputReadyClock u ≤ u.clock → u.host.deferred = [] → ∃ w : State,
    exec (.inputReady t) s = .next w ∧ w.graph.readyCycle = some (devCycle u) ∧ w.dev = u.dev ∧ w.cyc = u.cyc ∧
    (∀ n, n < 4 → periodDue (u.modGraph fun g => { g with readyCycle := some (devCycle u) }) n (devCycle u) = false ∨
      u.cyc.commitOf = some (u.clock / clocksOfUs (max 1 (lDev u))) → slotOf w n = slotOf u n) ∧
    (∀ n, n < 4 → Tab.wf {} u.graph.slots → periodDue (u.modGraph fun g => { g with readyCycle := some (devCycle u) }) n (devCycle u) = true →
      u.cyc.commitOf ≠ some (u.clock / clocksOfUs (max 1 (lDev u))) → (slotOf u n).exec = none →
      ∃ x, (slotOf w n).exec = some x ∧ x.tag = devCycle u) ∧
    ((∀ n, n < 4 → periodDue (u.modGraph fun g => { g with readyCycle := some (devCycle u) }) n (devCycle u) = false) → w.mem = u.mem)))

/-- The changeover (01 R39–R44, R639): a participant takes PREPARE and reports, the target decides at the commit point of its cycle D, COMMIT
where nobody refuses and CANCEL where somebody does, the outcome goes on, a participant that lacks it at the commit point of X − 1 is
CO_UNRESOLVED, and one that learns COMMIT from then on swaps at the next boundary it can meet. -/
def Obligations.ChangeoverRuns : Prop := ∀ (t : Nat) (s u : State), u = s.at t →
  (∀ coId x g l r, coRefusal u x l ≠ 0 → exec (.changeoverMessage none (.prepare coId x g l r) t) s =
    .next (u.coUp (.report coId 0 (some (u.drove.devAddr, coRefusal u x l))))) ∧
  (∀ coId x g l r, coRefusal u x l = 0 → ∃ w : State, exec (.changeoverMessage none (.prepare coId x g l r) t) s = .next w ∧
    (∃ c, w.cyc.changeover = some c ∧ c.coId = coId ∧ c.cycle = x ∧ c.graph = g ∧ c.loop = l ∧ c.ring = r ∧ c.target = false ∧
      c.reported = false ∧ c.outcome = none) ∧ w.graph = u.graph ∧ w.loop = u.loop ∧ w.dev = u.dev) ∧
  (∀ c, u.cyc.changeover = some c → c.target = false → c.reported = false → c.swapped = false → c.outstanding = [] → c.affected = false →
    c.refusal = none → 0 ≤ cycDiff (devCycle u) (cycleAfter u c.prepared 3) →
    ∃ w : State, exec (.changeoverReport t) s = .next w ∧ w.cyc.changeover = some { c with reported := true, acked := true } ∧ w.graph = u.graph ∧
    w.loop = u.loop ∧ w.dev = u.dev) ∧
  (∀ c, u.cyc.changeover = some c → c.target = true → c.outcome = none → c.outstanding = [] → c.affected = false → c.refusal = none →
    decideReached u c = true → ∃ w : State, exec (.changeoverDecide t) s = .next w ∧
    w.cyc.changeover = some { c with outcome := some true } ∧ w.cyc.lastOutcome = some (c.coId, c.cycle, true) ∧ w.graph = u.graph ∧
    w.loop = u.loop ∧ w.dev = u.dev) ∧
  (∀ c r, u.cyc.changeover = some c → c.target = true → c.outcome = none → c.refusal = some r → decideReached u c = true →
    ∃ w : State, exec (.changeoverDecide t) s = .next w ∧ w.cyc.changeover = none ∧ w.cyc.lastOutcome = some (c.coId, c.cycle, false) ∧
    w.graph = u.graph ∧ w.loop = u.loop ∧ w.dev = u.dev) ∧
  (∀ c, u.cyc.changeover = some c → decideReached u c = false → exec (.changeoverDecide t) s = .next u) ∧
  (∀ c, u.cyc.changeover = some c → c.target = false → c.outcome = none → swapMissed u c = true → c.swapped = false →
    ringAffected u c.ring = false → ∃ w : State, exec (.changeoverMessage none (.outcome c.coId c.cycle true) t) s = .next w ∧
    w.cyc.unresolved = u.cyc.unresolved ∧ w.cyc.changeover = some { c with
      outcome := some true, catchUp := some (catchUpCycle u c), affected := false, announced := false, voters := [], votes := []
      prepared := devCycle u } ∧ w.graph = u.graph ∧ w.loop = u.loop) ∧
  (∀ c, u.cyc.changeover = some c → c.target = false → c.outcome = none → swapMissed u c = false → ∃ w : State,
    exec (.changeoverMessage none (.outcome c.coId c.cycle true) t) s = .next w ∧ w.cyc.unresolved = false ∧
    w.cyc.changeover = some { c with outcome := some true } ∧ w.graph = u.graph ∧ w.loop = u.loop) ∧
  (∀ c, u.cyc.changeover = some c → c.target = false → c.outcome = none → ∃ w : State,
    exec (.changeoverMessage none (.outcome c.coId c.cycle false) t) s = .next w ∧ w.cyc.unresolved = false ∧ w.cyc.changeover = none ∧
    w.graph = u.graph ∧ w.loop = u.loop) ∧
  (∀ c, u.cyc.changeover = some c → c.swapped = false → c.outcome = none → c.acked = true →
    cycleAfter u (devCycle u) 1 = c.cycle → pastCommitPoint u = true → exec (.coUnresolved t) s = .next (u.modCyc fun y => { y with unresolved := true })) ∧
  (u.cyc.changeover = none → exec (.coUnresolved t) s = .next u ∧ exec (.changeoverReport t) s = .next u ∧
    exec (.changeoverDecide t) s = .next u)

/-! ### Programs, loops and axes: what runs by itself (05; 06; 07) -/

/-- The scheduler's events (05 R162–R179; 08 R277): a core starts the operation at the head of its prefetch, ends the one that runs, takes one from
another core, spills a token that has waited, and delays end at their tick or are shed. The loop engine's events (06 R190, R192, R215–R218): a sample is released at its microsecond, the processor evaluates the released sample of
the smallest key, a sample over poisoned words counts as bad, and a resampled table replaces the old one. -/
def Obligations.SchedulerAndLoopsRun : Prop :=
  (∀ (t : Nat) (s u : State), u = s.at t → Tab.wf {} u.sched.cores → Tab.wf {} u.graph.slots →
  (∀ c miss r, c < graphCores u → (coreOf u c).running = none → (coreOf u c).stalled = [] → (coreOf u c).step = [] →
    (coreOf u c).prefetch = [r] → (coreOf u c).lists = [] → runnable u r = true → ∃ w : State, exec (.operationStart c miss t) s = .next w ∧
    (∃ q, (coreOf w c).running = some q ∧ q.slot = r.slot ∧ q.op = r.op ∧ q.startedAt = u.now) ∧ (coreOf w c).prefetch = [] ∧
    (coreOf w c).misses = satAdd 32 (coreOf u c).misses (flag miss) ∧ w.cyc = u.cyc ∧ w.axis = u.axis) ∧
  (∀ c r, c < graphCores u → (coreOf u c).running = some r → r.urgent = false → r.publishing = none → ∃ w : State,
    exec (.operationComplete c t) s = .next w ∧ (coreOf w c).running = none ∧ (coreOf w c).opsRun = sat32 (coreOf u c).opsRun ∧
    (u.sched.spill = [] → w.dev = u.dev) ∧ w.cyc = u.cyc ∧ w.axis = u.axis) ∧
  (∀ c, c < graphCores u → (coreOf u c).running = none → exec (.operationComplete c t) s = .next u ∧ exec (.urgentComplete c t) s = .next u) ∧
  (∀ c r d, c < graphCores u → (coreOf u c).running = some r → r.urgent = true →
    (u.adc.urgentDone.find? fun d => d.1 == r.slot && d.2.1 == r.op) = some d → ∃ w : State, exec (.urgentComplete c t) s = .next w ∧
    (coreOf w c).running = none ∧ w.adc.urgentDone = u.adc.urgentDone.erase d ∧ (u.sched.spill = [] → w.dev = u.dev) ∧ w.cyc = u.cyc) ∧
  (∀ c d r, c < graphCores u → d < graphCores u → c ≠ d → tokensWaiting u = 0 → (coreOf u c).running = none → (coreOf u c).step = [] →
    (coreOf u c).prefetch = [] → (coreOf u d).lists = [r] → (∀ e, e ≠ d → (coreOf u e).lists = []) → r.prio < 8 → runnable u r = true →
    c ∈ allowedCores u r.slot → u.sched.stealMin ≤ 1 → ∃ w : State, exec (.take c t) s = .next w ∧ (coreOf w c).prefetch = [r] ∧
    (coreOf w d).lists = [] ∧ (coreOf w c).taken = sat32 (coreOf u c).taken ∧ (coreOf w d).given = sat32 (coreOf u d).given ∧
    w.mem = u.mem ∧ w.dev = u.dev) ∧
  (∀ c d k, c < graphCores u → d < graphCores u → (coreOf u d).stalled = [(c, k)] → (∀ e, e ≠ d → (coreOf u e).stalled = []) →
    u.sched.spill = [] → u.sched.spillNs ≤ nsOf (u.now - k.at') → ∃ w : State, exec (.tokenSpill c t) s = .next w ∧
    w.sched.spill = [(c, k)] ∧ (coreOf w d).stalled = [] ∧ (coreOf w c).spilled = sat32 (coreOf u c).spilled ∧ w.dev = u.dev ∧
    w.graph = u.graph) ∧
  (∀ c, c < graphCores u → (∀ e, (coreOf u e).stalled = []) → exec (.tokenSpill c t) s = .next u) ∧
  (∀ n x, n < 4 → (slotOf u n).exec = some x → (∀ d ∈ x.delays, d.tick ≤ usOf u.clock) → ∃ w : State,
    exec (.delayRelease n t) s = .next w ∧ (∀ y, (slotOf w n).exec = some y → y.delays = []) ∧
    (u.sched.spill = [] → w.dev = u.dev) ∧ w.cyc = u.cyc) ∧
  (∀ n x, n < 4 → (slotOf u n).exec = some x → slotState u n = 1 → shedTick u n x ≤ usOf u.clock → ∃ w : State,
    exec (.shed n t) s = .next w ∧ (∀ y, (slotOf w n).exec = some y → y.delays = []) ∧
    (u.sched.spill = [] → w.dev = u.dev) ∧ w.cyc = u.cyc) ∧
  (∀ n x, n < 4 → (slotOf u n).exec = some x → slotState u n = 2 → exec (.shed n t) s = .next u) ∧
  (∀ n, n < 4 → (slotOf u n).exec = none → exec (.delayRelease n t) s = .next u ∧ exec (.shed n t) s = .next u)) ∧
  (∀ (t : Nat) (s u : State), u = s.at t → Tab.wf {} u.loop.ch → Canonical u →
  (∀ c, c < loopChannels u → loopEnabled u c = true → loopPeriod u c ≠ 0 → usOf u.clock % loopPeriod u c = 0 →
    (loopOf u c).lastTick ≠ some (usOf u.clock) → ∃ w : State, exec (.sampleTick c t) s = .next w ∧
    (loopOf w c).lastTick = some (usOf u.clock) ∧
    (loopsRun u = true → domainOn u 8 = true → ∃ x, (loopOf w c).released = some x ∧ x.us = usOf u.clock) ∧
    (loopsRun u = false ∨ domainOn u 8 = false → (loopOf w c).released = none) ∧ w.dev = u.dev ∧ w.graph = u.graph ∧ w.axis = u.axis) ∧
  (∀ c, c < loopChannels u → loopEnabled u c = false → exec (.sampleTick c t) s = .next u) ∧
  (∀ p, p < 8 → nextLoop u p = none → exec (.evaluation p t) s = .next u) ∧
  (∀ p c, p < 8 → nextLoop u p = some c → ∃ w : State, exec (.evaluation p t) s = .next w ∧ (loopOf w c).released = none ∧
    (∀ d, d ≠ c → loopOf w d = loopOf u d) ∧ w.dev = u.dev ∧ w.graph = u.graph ∧ w.axis = u.axis) ∧
  (∀ p c, p < 8 → c < 1024 → nextLoop u p = some c → loopsRun u = true → domainOn u 8 = true → loopPoisoned u c = true → ∃ w : State,
    exec (.evaluation p t) s = .next w ∧ field (stW w c 13) 16 8 = min 255 (field (stW u c 13) 16 8 + 1) ∧ bit (stW w c 13) 8 = true ∧
    stW w c 16 = stW u c 16) ∧
  (∀ p, p < 8 → (∀ c, c < loopChannels u → loopProc u c = p → (loopOf u c).resample = none) → exec (.resampling p t) s = .next u) ∧
  (∀ p c n0 st, p < 8 → c < loopChannels u → loopProc u c = p → (loopOf u c).resample = some (n0, st) →
    (∀ d, d < c → loopProc u d = p → (loopOf u d).resample = none) → ∃ w : State, exec (.resampling p t) s = .next w ∧
    (loopOf w c).resample = none ∧ field (stW w c 13) 10 3 = st % 8 ∧
    (∀ j, j < max 1 (repN u c (activeB u c)) → readWord w (pointAddr (tableOf u c) j) =
      (wd (resampled ((List.range n0).map (pointAt u (tableOf u c))) n0 (max 1 (repN u c (activeB u c))) j)).toNat) ∧
    w.dev = u.dev ∧ w.graph = u.graph))

/-- The motion generator's events (07 R245–R247, R253, R256, R257; 08 R292): the tick sets the increment of a pulse axis at rest from the next
commanded position, an owed step and a change of DIR act where they may, a channel at rest stands, SS1 stops the channels of its pair, and a
latch event captures the count. -/
def Obligations.AxesRun : Prop := ∀ (t : Nat) (s u : State), u = s.at t → Tab.wf {} u.axis.ch → Tab.wf {} u.dio.encs →
  (u.clock % 800 ≠ 0 → exec (.tick t) s = .next u) ∧
  (∀ n c, axisRuns u = true → u.clock % 800 = 0 → u.axis.ch = [(n, c)] → c.kind = 2 → c.m.seg = none → c.m.late = none →
    c.latchShift = none → c.undo = none → c.limitsEn = false ∨ c.sideOf (c.cmdAt u (usNow u)).1 = c.side → ∃ w : State, exec (.tick t) s = .next w ∧
    (axisOf w n).pulse = (c.pulse.run c.dirSetup u.now).tick c.incMax (c.cmdAt u (usNow u + 1)).1 ∧ (axisOf w n).m = c.m ∧
    w.dev = u.dev ∧ w.mem = u.mem ∧ w.dio = u.dio) ∧
  (∀ a n, a < 16 → channelOfPulse u a = some n → (axisOf (u.runPulse n) n).canStep u.now = true → ∃ w : State,
    exec (.stepPulse a t) s = .next w ∧
    (axisOf w n).pulse.owed.natAbs + 1 = (axisOf (u.runPulse n) n).pulse.owed.natAbs ∧ (axisOf w n).pulse.riseAt = some u.now ∧
    w.dev = u.dev ∧ w.mem = u.mem ∧ w.dio = u.dio) ∧
  (∀ a n, a < 16 → channelOfPulse u a = some n → (axisOf (u.runPulse n) n).canStep u.now = false →
    exec (.stepPulse a t) s = .next (u.runPulse n)) ∧
  (∀ a n, a < 16 → channelOfPulse u a = some n → (axisOf (u.runPulse n) n).canTurn u.now = true → ∃ w : State,
    exec (.dirChange a t) s = .next w ∧ (axisOf w n).pulse.dirPos = decide (0 < (axisOf (u.runPulse n) n).pulse.inc) ∧
    (axisOf w n).pulse.dirAt = some u.now ∧ w.dev = u.dev ∧ w.mem = u.mem ∧ w.dio = u.dio) ∧
  (∀ a, a < 16 → channelOfPulse u a = none → exec (.stepPulse a t) s = .next u ∧ exec (.dirChange a t) s = .next u) ∧
  (∀ n r, n < axes u → (axisOf u n).kind ≠ 0 → (axisOf u n).m.state = .idle → (axisOf u n).m.seg = none → (axisOf u n).m.late = none →
    (axisOf u n).restAt = some r → ∃ w : State, exec (.standstill n t) s = .next w ∧
    (axisOf w n).standing = ((axisOf u n).standing || decide (r + clocksOfUs ((axisOf u n).standDelayMs * 1000) ≤ u.now)) ∧
    (axisOf w n).m = (axisOf u n).m ∧ w.dev = u.dev ∧ w.mem = u.mem ∧ w.dio = u.dio) ∧
  (∀ pair, pair < 8 → bit u.isl.ss1Req pair = false → exec (.ss1Request pair t) s = .next u) ∧
  (∀ pair n c, pair < 8 → bit u.isl.ss1Req pair = true → u.axis.ch = [(n, c)] → c.kind ≠ 0 → bit c.stoPairs pair = true → c.m.seg = none →
    c.m.late = none → c.m.stopDec = 0 → c.m.state = .idle → c.undo = none → ∃ w : State, exec (.ss1Request pair t) s = .next w ∧
    bit w.axis.ss1Held pair = true ∧ bit w.isl.ss1Req pair = false ∧ (axisOf w n).m.state = .ss1Stop ∧ w.dev = u.dev ∧ w.mem = u.mem) ∧
  (∀ n, n < 16 → latchSourceFits u n = false → exec (.latchEvent n t) s = .next u) ∧
  (∀ n, n < 16 → latchSourceFits u n = true → ∃ w : State, exec (.latchEvent n t) s = .next w ∧
    (encOf w n).latched = (if (encOf u n).armed then (encOf u n).count else (encOf u n).latched) ∧
    (encOf w n).latchedAt = (if (encOf u n).armed then u.now else (encOf u n).latchedAt) ∧ (encOf w n).armed = (encOf u n).latchCont ∧ (∀ m, m ≠ n → encOf w m = encOf u m) ∧ w.dev = u.dev ∧
    w.mem = u.mem)

/-! ### Converters, inputs and outputs, captures: what happens by itself (08; 09) -/

/-- The converters' events (08 R270–R280): a completed conversion writes its result, corrected as when it began, a failed check is retried and
then the converter is FAULTED, a group's trigger starts its converters, a calibration step ends with its mean, and a read of a result latches
its instant. -/
def Obligations.ConvertersRun : Prop := ∀ (t : Nat) (s u : State), u = s.at t → Tab.wf {} u.adc.convs → Tab.wf {} u.adc.results →
  (∀ c raw pos instant, c < converters u → raw < 65536 → pos < 8 → (convOf u c).busy = some (.table, pos) → (convOf u c).retry = [] →
    sampleFits (convOf u c) .table instant u = true → domainOn u 9 = true → ∃ w : State, exec (.conversionComplete c raw true instant t) s = .next w ∧
    (resultOf w (8 * c + pos)).code =
      correct ((convOf u c).oldCal.getD (calOf u (8 * c + pos) (rangeOfInput u (8 * c + pos)))) raw ∧
    (resultOf w (8 * c + pos)).ovr = (raw == 0 || raw == 65535) ∧ (resultOf w (8 * c + pos)).instant = instant ∧
    (∀ n, n ≠ 8 * c + pos → resultOf w n = resultOf u n) ∧ (convOf w c).conversions = sat32 (convOf u c).conversions ∧
    w.dev = u.dev ∧ w.mem = u.mem ∧ w.dio = u.dio) ∧
  (∀ c raw pos instant, c < converters u → raw < 65536 → (convOf u c).busy = some (.table, pos) → (convOf u c).retry = [] →
    sampleFits (convOf u c) .table instant u = true → domainOn u 9 = true → ∃ w : State,
    exec (.conversionComplete c raw false instant t) s = .next w ∧ (convOf w c).retry = [pos] ∧ w.adc.results = u.adc.results ∧
    w.dev = u.dev ∧ w.mem = u.mem) ∧
  (∀ c raw pos instant, c < converters u → raw < 65536 → (convOf u c).busy = some (.table, pos) → pos ∈ (convOf u c).retry →
    sampleFits (convOf u c) .table instant u = true → domainOn u 9 = true → ∃ w : State,
    exec (.conversionComplete c raw false instant t) s = .next w ∧ (convOf w c).faulted = true ∧ (convOf w c).busy = none ∧
    (∀ i < 8, (resultOf w (8 * c + i)).fault = true) ∧ w.mem = u.mem) ∧
  (∀ c raw good pos kind instant, c < converters u → raw < 65536 → (convOf u c).busy = some (kind, pos) →
    sampleFits (convOf u c) kind instant u = false ∨ domainOn u 9 = false → ∃ w : State,
    exec (.conversionComplete c raw good instant t) s = .next w ∧ w.adc.results = u.adc.results ∧ convOf w c = convOf u c) ∧
  (∀ g, g < 4 → groupDue (look {} u.adc.groups g) u = false → exec (.groupTrigger g t) s = .next u) ∧
  (∀ g, g < 4 → groupDue (look {} u.adc.groups g) u = true → domainOn u 9 = true → (∀ c ∈ bitsOf 16 (look {} u.adc.groups g).convMask, (convOf u c).faulted = false ∧
      (convOf u c).busy = none ∧ (convOf u c).waitingUrgent = none) → ∃ w : State, exec (.groupTrigger g t) s = .next w ∧
    (∀ c ∈ bitsOf 16 (look {} u.adc.groups g).convMask, (convOf w c).busy = some (.group g, field (look {} u.adc.groups g).sel (3 * c) 3)) ∧
    (∀ c, c ∉ bitsOf 16 (look {} u.adc.groups g).convMask → convOf w c = convOf u c) ∧ w.adc.results = u.adc.results ∧ w.dev = u.dev) ∧
  (∀ c k, c < converters u → (convOf u c).calibration = some k → k.count < 1024 → exec (.calibrationDone c t) s = .next u) ∧
  (∀ c k, c < converters u → (convOf u c).calibration = some k → 1024 ≤ k.count → k.full = false → ∃ w : State,
    exec (.calibrationDone c t) s = .next w ∧ (convOf w c).calibration = none ∧
    look none w.adc.zeroSteps (4 * k.input + rangeOfInput u k.input) = some ((roundEven (k.sum : Int) 4).toNat, k.refV) ∧
    w.adc.calSet = u.adc.calSet ∧ w.adc.results = u.adc.results ∧ w.dev = u.dev) ∧
  (∀ n i, n < 128 → u.present 7 = false → exec (.resultRead n i t) s = .next ((u.noteAbsent 7).emit (.completion 0))) ∧
  (∀ n i, n < 128 → u.present 7 = true → ∃ w : State, exec (.resultRead n i t) s = .next (w.emit (.completion (resultWord (resultOf u n)))) ∧
    look 0 w.adc.latched (128 * i + n) = (resultOf u n).instant % 2 ^ 32 + 1 ∧ w.adc.results = u.adc.results ∧ w.dev = u.dev ∧ w.mem = u.mem)

/-- The events of inputs, outputs, PWM and encoders (08 R281–R292): a level passes its filter, a level that stays sets STUCK, a read-back that
disagrees twice faults its output, a PWM period loads its duty, and the encoder counts. -/
def Obligations.InputsAndOutputsMove : Prop := ∀ (t : Nat) (s u : State), u = s.at t → Tab.wf {} u.dio.dins → Tab.wf {} u.dio.douts →
  Tab.wf {} u.dio.pwms → Tab.wf {} u.dio.encs →
  (∀ n level, n < 64 → domainOn u 4 = false → ∃ w : State, exec (.inputEdge n level t) s = .next w ∧ (dinOf w n).raw = level ∧
    (dinOf w n).filtered = (dinOf u n).filtered ∧ (dinOf w n).rise = (dinOf u n).rise ∧ (dinOf w n).fall = (dinOf u n).fall) ∧
  (∀ n level, n < 64 → domainOn u 4 = true → ∃ w : State, exec (.inputEdge n level t) s = .next w ∧ (dinOf w n).raw = level ∧
    ((dinOf u n).filter = 0 → (dinOf u n).rawSince ≤ u.now → (dinOf w n).filtered = level) ∧ (∀ m, m ≠ n → dinOf w m = dinOf u m) ∧ w.dio.douts = u.dio.douts ∧
    w.dev = u.dev ∧ w.mem = u.mem) ∧
  (∀ n, n < 64 → domainOn u 4 = true → (dinOf u n).filter = 0 → (dinOf u n).activeLow = false → (dinOf u n).raw = false → (dinOf u n).filtered = false →
    ∃ w : State, exec (.inputEdge n true t) s = .next w ∧ (dinOf w n).rise = ((dinOf u n).rise + 1) % 2 ^ 32 ∧
    (dinOf w n).fall = (dinOf u n).fall) ∧
  (∀ n, n < 64 → (dinOf (settleDins u) n).isStuck u.now = false → exec (.stuck n t) s = .next (settleDins u)) ∧
  (∀ n, n < 64 → (dinOf (settleDins u) n).isStuck u.now = true → ∃ w : State, exec (.stuck n t) s = .next w ∧ (dinOf w n).stuck = true ∧
    (∀ m, m ≠ n → dinOf w m = dinOf (settleDins u) m) ∧ w.dev = u.dev ∧ w.mem = u.mem) ∧
  (∀ n level, n < 64 → ∃ w : State, exec (.readback n level t) s = .next w ∧ (doutOf w n).readback = level ∧
    (doutOf w n).drive = (doutOf u n).drive ∧ (doutOf w n).fault = (doutOf u n).fault ∧ (∀ m, m ≠ n → doutOf w m = doutOf u m) ∧
    ((doutOf u n).drive = .high → level = false →
      (doutOf w n).disagree = (doutOf u n).disagree.or (some u.now)) ∧ w.dev = u.dev ∧ w.mem = u.mem) ∧
  (∀ n level, n < 64 → (doutOf u n).disagree = none → exec (.doutFault n level t) s = .next u) ∧
  (∀ n level d, n < 64 → (doutOf u n).disagree = some d → u.now < d + clocksOfUs 10 → exec (.doutFault n level t) s = .next u) ∧
  (∀ n level d, n < 64 → (doutOf u n).disagree = some d → d + clocksOfUs 10 ≤ u.now → (doutOf u n).disagrees level = true → ∃ w : State,
    exec (.doutFault n level t) s = .next w ∧ (doutOf w n).fault = true ∧ (doutOf w n).drive = .highZ ∧
    (∀ m, m ≠ n → doutOf w m = doutOf u m) ∧ w.mem = u.mem) ∧
  (∀ n level d, n < 64 → (doutOf u n).disagree = some d → d + clocksOfUs 10 ≤ u.now → (doutOf u n).disagrees level = false → ∃ w : State,
    exec (.doutFault n level t) s = .next w ∧ (doutOf w n).fault = (doutOf u n).fault ∧ (doutOf w n).drive = (doutOf u n).drive ∧
    (doutOf w n).disagree = none ∧ w.dev = u.dev ∧ w.mem = u.mem) ∧
  (∀ n, n < 32 → (pwmOf u n).configured = false ∨ (pwmOf u n).startsNow u = false → exec (.pwmPeriodStart n t) s = .next u) ∧
  (∀ n, n < 32 → (pwmOf u n).configured = true → (pwmOf u n).startsNow u = true → ∃ w : State, exec (.pwmPeriodStart n t) s = .next w ∧
    (pwmOf w n).duty = clampDuty (pwmOf u n).shadow ∧ (pwmOf w n).hi = ((pwmOf u n).hiClk (clampDuty (pwmOf u n).shadow)).1 ∧
    (∀ m, m ≠ n → pwmOf w m = pwmOf u m) ∧ w.dev = u.dev ∧ w.mem = u.mem) ∧
  (∀ n a b, n < 16 → domainOn u 4 = true → (encOf u n).configured = true → (encOf u n).mode = 0 → (encOf u n).filter = 0 →
    (encOf u n).rawA = (encOf u n).a → (encOf u n).rawB = (encOf u n).b →
    (quadPhase a b + 4 - quadPhase (encOf u n).a (encOf u n).b) % 4 = 1 → ∃ w : State, exec (.encoderCount n a b t) s = .next w ∧
    (encOf w n).count = enc 32 (((encOf u n).count : Int) + 1) ∧ (encOf w n).a = a ∧ (encOf w n).b = b ∧
    (∀ m, m ≠ n → encOf w m = encOf u m) ∧ w.dev = u.dev ∧ w.mem = u.mem)

/-- The acquisition engine's events (09 R308–R335): a publication reaches the index and the histograms of its entry, an interval that is due
closes, a queued record goes to its ring, and a map decays. -/
def Obligations.CapturesRun : Prop := ∀ (t : Nat) (s u : State), u = s.at t → Canonical u → Tab.wf {} u.acq.captures →
  (u.acq.ingest = [] → exec (.publication t) s = .next u) ∧
  (∀ p rest, u.acq.ingest = p :: rest → p.entry < 0x3000 → ∃ w : State, exec (.publication t) s = .next w ∧ w.acq.ingest = rest ∧
    (look {} w.acq.index p.entry).value = p.value ∧ (look {} w.acq.index p.entry).stamp = p.stamp ∧
    (look {} w.acq.index p.entry).published = true ∧ (∀ e, e ≠ p.entry → look {} w.acq.index e = look {} u.acq.index e) ∧
    w.dev = u.dev ∧ w.graph = u.graph ∧ w.loop = u.loop) ∧
  (∀ p h e, u.acq.ingest = [p] → p.entry < 0x3000 → u.acq.hists = [(h, e)] → h < 16 → e.enable = true → e.source = p.entry →
    u.acq.pmaps = [] → u.acq.triggers = [] → Fmt.b64.isNan (toReal64 (entryType u p.entry) p.value) = false →
    0 ≤ binOf (toReal64 (entryType u p.entry) p.value) e.low e.width → binOf (toReal64 (entryType u p.entry) p.value) e.low e.width < 1022 →
    ∃ w : State, exec (.publication t) s = .next w ∧
    readNat w (0x30700000 + 0x1000 * h + 4 * (1 + (binOf (toReal64 (entryType u p.entry) p.value) e.low e.width).toNat)) 4 =
      sat32 (readNat u (0x30700000 + 0x1000 * h + 4 * (1 + (binOf (toReal64 (entryType u p.entry) p.value) e.low e.width).toNat)) 4) ∧
    (∀ a, a < 0x30700000 → readByte w a = readByte u a)) ∧
  (∀ c dma, c < 16 → (capOf u c).running = false → exec (.intervalClose c dma t) s = .next u) ∧
  (∀ c dma, c < 16 → (capOf u c).running = true → (capOf u c).pausedAt = none → usOf u.clock < (capOf u c).nextB + (capOf u c).len + (capOf u c).lateUs →
    exec (.intervalClose c dma t) s = .next u) ∧
  (∀ c dma, c < 16 → (capOf u c).running = true → (capOf u c).pausedAt = none → (capOf u c).windowClass = false → (capOf u c).stopAt = none →
    (capOf u c).nextB + (capOf u c).len + (capOf u c).lateUs ≤ usOf u.clock → ∃ w : State, exec (.intervalClose c dma t) s = .next w ∧
    (capOf w c).nextB = (capOf u c).nextB + (capOf u c).len ∧ (capOf w c).records = sat32 (capOf u c).records ∧
    (capOf w c).running = true ∧ w.dev = u.dev ∧ w.graph = u.graph ∧ w.loop = u.loop) ∧
  (∀ c dma, c < 16 → (capOf u c).queue = [] → (capOf u c).sending = [] → exec (.recordCopy c dma t) s = .next u) ∧
  (∀ c dma q rest, c < 16 → (capOf u c).queue = q :: rest → (ringOf u (capOf u c).ring).kind = 3 →
    (ringPut (capOf u c).ring (readRegion u (capOf u c) q.slot q.nwords) dma u).2 = true → ∃ w : State,
    exec (.recordCopy c dma t) s = .next w ∧ (capOf w c).queue = rest ∧ w.dev = u.dev ∧ w.graph = u.graph ∧ w.loop = u.loop) ∧
  (∀ m, m < 4 → (look {} u.acq.pmaps m).decayMs = 0 ∨
    u.now < (look {} u.acq.pmaps m).decayFrom + clocksOfUs ((look {} u.acq.pmaps m).decayMs * 1000) → exec (.decay m t) s = .next u) ∧
  (∀ m due, m < 4 → (look {} u.acq.pmaps m).decayMs ≠ 0 →
    due = (look {} u.acq.pmaps m).decayFrom + clocksOfUs ((look {} u.acq.pmaps m).decayMs * 1000) → due ≤ u.now → ∃ w : State, exec (.decay m t) s = .next w ∧
    (∀ x y, x < 256 → y < 256 → readNat w (cellAddr m x y) 2 = readNat u (cellAddr m x y) 2 - 1) ∧
    (∀ a, a < 0x30780000 → readByte w a = readByte u a) ∧
    w.acq = { u.acq with pmaps := upd {} u.acq.pmaps m fun e => { e with decayFrom := due } } ∧ w.dev = u.dev)

/-! ### The rings and the pair: what arrives and what times out (10; 11; 15) -/

/-- The ring's events (10 R359–R395; 11 R407): a node that is DISABLED takes no frame; the first valid SYNC takes a listening member to OBSERVE,
an output frame of its cycle enters the member's image and any other is counted late, MODE and JOIN frames announce and grant, CMD frames deliver
their packet and are acknowledged in order, an integrated manager sends its SYNC in its slot, and links, loops, time-outs and the clock step act
as stated. -/
def Obligations.RingRuns : Prop := ∀ (t : Nat) (s u : State), u = s.at t →
  (∀ f : Frame, (ifaceOf u f.down).state = .disabled → exec (.syncFrame f t) s = .next u ∧ exec (.dataFrame f t) s = .next u ∧
    exec (.modeFrame f t) s = .next u ∧ exec (.joinFrame f t) s = .next u ∧ exec (.cmdFrame f t) s = .next u) ∧
  (∀ (f : Frame) (v : State), f.down = false → u.drove.up.state = .listen → Passes 1 f true u v → syncBodyOk f.payload = true → ∃ w : State,
    exec (.syncFrame f t) s = .next w ∧ w.drove.up.state = .observe ∧ w.drove.up.mode = f.mode ∧
    w.drove.up.epoch = (syncBody f.payload).epoch ∧ w.cyc.upLdev = (syncBody f.payload).cycleUs ∧
    w.cyc.upLbase = (syncBody f.payload).baseUs ∧ w.dev = u.dev ∧ w.graph = u.graph ∧ w.loop = u.loop) ∧
  (∀ (f : Frame) (v : State), f.down = false → u.drove.up.state = .integrated → u.drove.member = some f.dst → f.src = 0x80 → Passes 2 f false u v →
    f.cycle = devCycle u → pastCommitPoint u = false → ∃ w : State, exec (.dataFrame f t) s = .next w ∧
    (∃ o, o ∈ w.drove.outFrames ∧ o.slot = f.slot ∧ o.tag = f.cycle ∧ o.words = f.payload.drop 1) ∧ w.cyc = u.cyc ∧ w.dev = u.dev ∧
    w.mem = u.mem) ∧
  (∀ (f : Frame) (v : State), f.down = false → u.drove.up.state = .integrated → u.drove.member = some f.dst → f.src = 0x80 → Passes 2 f false u v →
    f.cycle ≠ devCycle u → ∃ w : State, exec (.dataFrame f t) s = .next w ∧ w.cyc.lateOutputs = sat32 u.cyc.lateOutputs ∧
    w.drove.outFrames = u.drove.outFrames ∧ w.dev = u.dev ∧ w.mem = u.mem) ∧
  (∀ (f : Frame) (v : State), f.down = false → u.drove.up.state = .integrated → f.src = 0x80 → f.payload.length = 3 → Passes 4 f false u v →
    u.drove.up.announce = none → (f.payload.getD 0 0).toNat % 16 = 1 → ∃ w : State, exec (.modeFrame f t) s = .next w ∧
    (∃ a, w.drove.up.announce = some a ∧ a.newMode = field (f.payload.getD 0 0).toNat 4 3 ∧
      a.newEpoch = field (f.payload.getD 0 0).toNat 16 16 ∧ a.firstCycle = (f.payload.getD 1 0).toNat) ∧ w.dev = u.dev ∧ w.mem = u.mem) ∧
  (∀ (f : Frame) (v : State) n, f.down = false → u.drove.up.state = .joining → f.src = 0x80 → f.payload.length = 4 → Passes 5 f true u v →
    joinSerial f = Config.serial.toNat → bit (f.payload.getD 2 0).toNat 1 = false → n = field (f.payload.getD 2 0).toNat 2 6 → ∃ w : State,
    exec (.joinFrame f t) s = .next w ∧ w.drove.granted = some n ∧ w.drove.member = some n ∧ w.dev = u.dev ∧ w.cyc = u.cyc) ∧
  (∀ (f : Frame) (v : State) ws, f.down = false → u.drove.up.state = .integrated → u.drove.member = some f.dst → u.drove.above = {} →
    Passes 3 f false u v → f.payload = [0x0B000000, 0] ++ ws → 2 ≤ ws.length → ∃ w : State, exec (.cmdFrame f t) s = .next w ∧
    modeWords w false (field (ws.getD 0 0).toNat 0 3) = ws.drop 1 ∧ w.drove.upWritten = field (ws.getD 0 0).toNat 8 8 ∧
    w.drove.above.recvNext = 1 ∧ w.drove.above.recvAny = true ∧ w.dev = u.dev ∧ w.cyc = u.cyc ∧ w.mem = u.mem) ∧
  (∀ down i, i < 512 → (ifaceOf u down).state = .muted ∨ slotOpen u down i = false → exec (.slotStart down i t) s = .next u) ∧
  (∀ i, i < 512 → u.drove.down.state = .integrated → u.drove.down.takeover = false → u.drove.down.silentCycle = none → u.pair.role = .off →
    u.pair.tookAt = none → i < nSlots (modeInForce u true) → (slotAt (modeInForce u true) i).kind = 1 →
    (slotAt (modeInForce u true) i).src = 0x80 → slotOpen u true i = true →
    u.drove.down.linkA.looped = false ∨ u.drove.down.linkB.looped = false →
    u.clock + (laneBusy u.drove.down true - u.now) ≤ ringCycleStart u true + slotClocks u true i + 32 → ∃ w : State, exec (.slotStart true i t) s = .next w ∧
    (∃ f : Frame, w.outbox = u.outbox ++ [.ringFrame 1 f] ∧ f.src = 0x80 ∧ f.slot = i ∧ f.payload = syncPayload u true i ∧
      f.cycle = ringCycleNo u true) ∧ w.dev = u.dev ∧ w.cyc = u.cyc) ∧
  (∀ b : Beacon, portsOn u b.down = false → exec (.beacon b t) s = .next u) ∧
  (∀ b : Beacon, portsOn u b.down = true → b.btype = 1 → statusOnly u b.down b.portB = false →
    exec (.beacon b t) s = .next (u.emit (.beacon { b with btype := 2, turn := 0 }))) ∧
  (∀ b : Beacon, b.btype = 1 → statusOnly u b.down b.portB = true → exec (.beacon b t) s = .next u) ∧
  (portsOn u false = false → portsOn u true = false → exec (.delayReq t) s = .next u) ∧
  (∃ w : State, exec (.delayReq t) s = .next w ∧
    (∀ b, delayDue u false b = true → (linkOf w.drove.up b).reqAt = u.now ∧
      (linkOf w.drove.up b).reqSeq = ((linkOf u.drove.up b).reqSeq + 1) % 256) ∧
    (∀ b, delayDue u false b = false → linkOf w.drove.up b = linkOf u.drove.up b) ∧
    w.dev = u.dev ∧ w.cyc = u.cyc) ∧
  (∀ b, portsOn u false = true → (linkOf u.drove.up b).up = true → ∃ w : State, exec (.linkDown (.ring false b) t) s = .next w ∧
    (linkOf w.drove.up b).up = false ∧ (linkOf w.drove.up b).looped = true ∧ linkOf w.drove.up (!b) = linkOf u.drove.up (!b) ∧
    w.drove.down = u.drove.down ∧ w.dev = u.dev ∧ w.cyc = u.cyc) ∧
  (∀ b, portsOn u false = true → (linkOf u.drove.up b).up = false → (linkOf u.drove.up b).rxOk = true → (linkOf u.drove.up b).peerOk = true →
    (linkOf u.drove.up b).crossed = false → (linkOf u.drove.up b).badAt + clocksOfUs 1000 ≤ u.now → ∃ w : State,
    exec (.linkUp (.ring false b) t) s = .next w ∧ (linkOf w.drove.up b).up = true ∧
    linkOf w.drove.up (!b) = linkOf u.drove.up (!b) ∧ w.drove.down = u.drove.down ∧ w.dev = u.dev ∧ w.cyc = u.cyc) ∧
  (∀ f, u.drove.lanesFrom = some f → portsOn u false = true → u.drove.bypassHigh = false → f + clocksOfUs 10 ≤ u.now → ∃ w : State,
    exec (.bypassInsert t) s = .next w ∧ w.drove.bypassHigh = true ∧ w.outbox = u.outbox ++ [.bypass true] ∧ w.dev = u.dev) ∧
  (u.drove.lanesFrom = none → exec (.bypassInsert t) s = .next u) ∧
  (∀ down, (ifaceOf u down).state = .listen → coldCapable u down = true → (ifaceOf u down).linkA.up = true →
    (ifaceOf u down).listenFrom + listenClocks u down ≤ u.now → ∃ w : State, exec (.listenTimeout down t) s = .next w ∧
    (ifaceOf w down).state = .coldstart ∧ ifaceOf w (!down) = ifaceOf u (!down) ∧ w.dev = u.dev ∧ w.cyc = u.cyc) ∧
  (∀ down, (ifaceOf u down).state ≠ .listen → exec (.listenTimeout down t) s = .next u) ∧
  (∀ down b, (ifaceOf u down).backoffUntil = some b → b ≤ u.now → ∃ w : State, exec (.backoffEnd down t) s = .next w ∧
    (ifaceOf w down).backoffUntil = none ∧ (ifaceOf w down).state = (ifaceOf u down).state ∧ w.dev = u.dev ∧ w.cyc = u.cyc) ∧
  (∀ down, (ifaceOf u down).backoffUntil = none → exec (.backoffEnd down t) s = .next u) ∧
  (u.drove.up.stepOf = some (ringCycleStart u false) ∨ u.clock < ringCycleStart u false + stepClocks u false → u.pair.role = .off →
    exec (.syncStep t) s = .next u) ∧
  (u.pair.role = .off → u.drove.up.state = .integrated → u.drove.up.stepOf ≠ some (ringCycleStart u false) →
    ringCycleStart u false + stepClocks u false ≤ u.clock → u.drove.up.syncAccepted = false → u.drove.up.failures < 2 → ∃ w : State,
    exec (.syncStep t) s = .next w ∧ w.drove.up.state = .integrated ∧ w.drove.up.failures = u.drove.up.failures + 1 ∧ w.dev = u.dev ∧
    w.cyc = u.cyc) ∧
  (u.pair.role = .off → u.drove.up.state = .integrated → u.drove.up.stepOf ≠ some (ringCycleStart u false) →
    ringCycleStart u false + stepClocks u false ≤ u.clock → u.drove.up.syncAccepted = false → 2 ≤ u.drove.up.failures → ∃ w : State,
    exec (.syncStep t) s = .next w ∧ w.drove.up.state = .listen ∧ w.dev = u.dev ∧ w.cyc = u.cyc) ∧
  (u.host.deferred = [] → exec (.scheduleWriteTimeout t) s = .next u) ∧
  (∀ d, u.host.deferred = [d] → d.op = .ringScheduleWrite → d.data.getD 0 0 + clocksOfUs 100000 ≤ u.now → ∃ w : State,
    exec (.scheduleWriteTimeout t) s = .next w ∧ w.host.deferred = [] ∧ w.dev = u.dev ∧ w.mem = u.mem)

/-- The pair's events (15 R519, R520, R527–R547): the lease is renewed and answered, it expires, the crook is taken, released, elected and lost,
the delta is sent and taken, and a half that gives up goes through a warm reset. -/
def Obligations.PairRuns : Prop := ∀ (t : Nat) (s u : State), u = s.at t →
  (∀ n, u.pair.outgoing = none → exec (.deltaComplete n t) s = .next u) ∧
  (∀ n o c, u.pair.outgoing = some o → u.keep.next = some c → u.pair.role.holds = true → u.pair.laneUp = true → ∃ w : State,
    exec (.deltaComplete n t) s = .next w ∧ w.keep.image = some c ∧ w.keep.next = none ∧ w.pair.outgoing = none ∧ w.pair.seq = o.seq ∧
    w.pair.deltaMax = max u.pair.deltaMax (min (2 ^ 32 - 1) n) ∧ w.dev = u.dev ∧ w.mem = u.mem) ∧
  (∀ q, q < 65536 → silentHalf u = false → exec (.renew q t) s = .next u) ∧
  (∀ q, q < 65536 → silentHalf u = true → u.dev.mode ≠ .configure → u.pair.role = .syncing ∨ u.pair.seq = q → ∃ w : State,
    exec (.renew q t) s = .next w ∧ w.pair.lastRenew = u.now ∧ w.pair.peerLost = false ∧ w.pair.role = u.pair.role ∧ w.dev = u.dev ∧
    w.mem = u.mem ∧ w.outbox = u.outbox ++ [.ack q (u.pair.role == .standby && u.pair.current) false]) ∧
  (∀ q, q < 65536 → u.pair.role = .standby → u.dev.mode ≠ .configure → u.pair.seq ≠ q → ∃ w : State, exec (.renew q t) s = .next w ∧
    w.pair.lastRenew = u.now ∧ w.pair.role = .syncing ∧ w.pair.copyDone = false ∧ w.dev = u.dev ∧ w.mem = u.mem ∧
    w.outbox = u.outbox ++ [.ack q false false]) ∧
  (∀ q c h, q < 65536 → u.pair.role.holds = false → exec (.ack q c h t) s = .next u) ∧
  (∀ q c h, q < 65536 → u.pair.role.holds = true → u.pair.crookIn = false → look 0 u.pair.sentAt q ≠ 0 → ∃ w : State, exec (.ack q c h t) s = .next w ∧
    w.pair.leaseEnd = look 0 u.pair.sentAt q + leaseClocks u ∧ w.pair.role = (if c then .active else .alone) ∧ w.pair.peerStandby = c ∧
    w.dev = u.dev ∧ w.mem = u.mem ∧ w.keep = u.keep) ∧
  (u.pair.role.holds = false → exec (.leaseExpiry t) s = .next u) ∧
  (u.pair.role.holds = true → u.pair.laneUp = false → u.pair.crookIn = false → ∃ w : State, exec (.leaseExpiry t) s = .next w ∧
    w.pair.leaseEnd = u.now + leaseClocks u ∧ w.pair.role = u.pair.role ∧ w.dev = u.dev) ∧
  (u.pair.role.holds = true → u.pair.laneUp = true → u.pair.leaseEnd ≤ u.now → ∃ w : State, exec (.leaseExpiry t) s = .next w ∧
    w.pair.role = .syncing ∧ w.dev.mode = .ready ∧ w.graph.inForce = [] ∧ w.dio.substitute = true ∧ w.mem = u.mem) ∧
  (u.pair.role.holds = true → u.pair.laneUp = true → u.now < u.pair.leaseEnd → u.pair.crookIn = false →
    exec (.leaseExpiry t) s = .next u) ∧
  (u.pair.role.holds = true → u.now < u.pair.leaseEnd → u.pair.crookIn = true → laneShows u = false → ∃ w : State,
    exec (.leaseExpiry t) s = .next w ∧ w.pair.role = .syncing ∧ w.dev.mode = .ready ∧ w.dio.substitute = true ∧ w.mem = u.mem) ∧
  (u.pair.crookIn = true → exec (.crookTake t) s = .next u) ∧
  (u.pair.crookIn = false → u.pair.lastRenew + leaseClocks u * 5 / 4 ≤ u.now → u.pair.role = .standby → ∃ w : State,
    exec (.crookTake t) s = .next w ∧ w.pair.role = .alone ∧ w.pair.takeDue = some true ∧ w.pair.takes = sat32 u.pair.takes ∧
    w.pair.leaseEnd = u.now + leaseClocks u ∧ w.dev = u.dev ∧ w.mem = u.mem ∧ w.keep = u.keep) ∧
  (u.pair.crookIn = false → u.pair.lastRenew + leaseClocks u * 5 / 4 ≤ u.now → u.pair.role = .syncing → ∃ w : State,
    exec (.crookTake t) s = .next w ∧ w.pair.peerLost = true ∧ w.pair.role = .syncing ∧ w.dev = u.dev) ∧
  (∀ q h, q < 65536 → u.pair.role = .standby → u.pair.seq = q → u.pair.crookIn = false → ∃ w : State, exec (.release q h t) s = .next w ∧
    w.pair.role = .alone ∧ w.pair.answer = h ∧ w.pair.takeDue = some true ∧ w.dev = u.dev ∧ w.mem = u.mem) ∧
  (∀ q h, q < 65536 → u.pair.role ≠ .standby → exec (.release q h t) s = .next u) ∧
  (∃ w : State, exec (.crookInHigh false t) s = .next w ∧ w.pair.crookIn = false ∧ w.pair.role = u.pair.role ∧ w.dev = u.dev) ∧
  (u.pair.role.holds = true → u.pair.laneUp = false → ∃ w : State, exec (.crookInHigh true t) s = .next w ∧ w.pair.crookIn = true ∧
    w.pair.role = .syncing ∧ w.dev.mode = .ready) ∧
  (∀ none', silentHalf u = false → exec (.election none' t) s = .next u) ∧
  (∀ none', silentHalf u = true → u.pair.laneUp = false → u.pair.crookIn = false → u.boot.windowOpened = none →
    u.pair.alarmFrom + leaseClocks u * (if u.pair.half1 then 10 else 5) / 4 ≤ u.now → ∃ w : State, exec (.election none' t) s = .next w ∧
    w.pair.role = .alone ∧ w.pair.takeDue = none ∧ w.pair.takes = sat32 u.pair.takes ∧ w.dev = u.dev ∧ w.mem = u.mem) ∧
  (∀ d : Delta, d.seq < 65536 → d.good = true → u.pair.role = .standby → d.seq = (u.pair.seq + 1) % 65536 → ∃ w : State,
    exec (.deltaReceive d t) s = .next w ∧ w.keep.image = some d.image ∧ w.pair.seq = d.seq ∧ w.pair.role = .standby ∧ w.dev = u.dev) ∧
  (∀ d : Delta, d.seq < 65536 → d.good = false → u.pair.role = .standby → ∃ w : State, exec (.deltaReceive d t) s = .next w ∧
    w.pair.role = .syncing ∧ w.pair.laneErr = satAdd 16 u.pair.laneErr 1 ∧ w.keep = u.keep ∧ w.mem = u.mem ∧ w.dev = u.dev) ∧
  (∀ f : FullCopy, u.pair.role ≠ .syncing → exec (.fullCopyDone f t) s = .next u) ∧
  (∀ f : FullCopy, u.pair.role = .syncing → ∃ w : State, exec (.fullCopyDone f t) s = .next w ∧ w.pair.copyDone = true ∧
    w.pair.copyPermille = 1000 ∧ w.dev.autoResume = f.record.dev.autoResume ∧ w.dev.maxGap = f.record.dev.maxGap) ∧
  (u.pair.giveUp = none → exec (.giveUp t) s = .next u) ∧
  (∀ g, u.pair.giveUp = some g → g.cycle = none → g.handover = none → u.pair.role = .active → u.pair.peerStandby = true → ∃ w : State,
    exec (.giveUp t) s = .next w ∧ w.pair.role = .syncing ∧ w.pair.giveUps = sat32 u.pair.giveUps ∧ w.boot.warmResetAt = some u.now ∧
    w.boot.noResume = true ∧ w.boot.resetAs = g.cause ∧ w.mem = u.mem) ∧
  (u.present 13 = true → u.pair.role.holds = false ∨ u.pair.crookIn = false → ∃ w : State, exec (.linkDown .pair t) s = .next w ∧
    w.pair.laneUp = false ∧ w.pair.outgoing = none ∧ w.pair.role = (if u.pair.role = .active then .alone else u.pair.role) ∧
    w.pair.alarmFrom = u.now ∧ w.dev = u.dev ∧ w.mem = u.mem) ∧
  (u.present 13 = true → u.pair.role.holds = true → u.pair.crookIn = true → ∃ w : State, exec (.linkDown .pair t) s = .next w ∧
    w.pair.laneUp = false ∧ w.pair.role = .syncing ∧ w.dev.mode = .ready ∧ w.mem = u.mem) ∧
  (u.present 13 = true → exec (.linkUp .pair t) s = .next (u.modPair fun p => { p with
    laneUp := true
    leaseEnd := if p.role.holds ∧ ¬ p.laneUp ∧ ¬ p.crookIn then u.now + leaseClocks u else p.leaseEnd }))

/-! ### The safety island: its inputs, timers and checks (14) -/

/-- The island's events (14 R481–R508). A demand stops the ENABLED pairs of its group: STO at once, or SS1 by the pair's MODE; the device enters
SAFE with the STO. Channels that disagree, test pulses, the hard-wired path, the end of SS1, the heartbeat, the readbacks and the island's own
checks act as stated; a lasting failure of the island switches every STO output off. -/
def Obligations.IslandRuns : Prop := ∀ (t : Nat) (s u : State), u = s.at t → Tab.wf {} u.isl.pairs → Tab.wf 0 u.isl.counters →
  (∀ ch, ch < 16 → u.isl.powered = false → exec (.demand ch t) s = .next u ∧ exec (.channelEnergised ch t) s = .next u) ∧
  (∀ ch p, ch < 16 → p < 8 → u.isl.powered = true → u.isl.state = .ready → bit (u.isl.group (ch / 2)) p = true → u.isl.mode p = 0 →
    pairLive u p = true → ∃ w : State, exec (.demand ch t) s = .next w ∧ bit w.isl.levels ch = false ∧ (pairOf w p).state = .torqueOff ∧
    (pairOf w p).stoA = false ∧ (pairOf w p).stoB = false ∧ (pairOf w p).offCause = 1 ∧ w.isl.inStop = true ∧ w.isl.stopCause = 1 ∧
    (u.boot.phase = .running → w.dev.mode = .safe) ∧ (∀ q, q < 8 → bit (u.isl.group (ch / 2)) q = false → pairOf w q = pairOf u q) ∧
    w.mem = u.mem ∧ w.graph = u.graph ∧ w.loop = u.loop ∧ w.dio = u.dio) ∧
  (∀ ch p, ch < 16 → p < 8 → u.isl.powered = true → u.isl.state = .ready → bit (u.isl.group (ch / 2)) p = true → u.isl.mode p ≠ 0 →
    (pairOf u p).state = .enabled → ∃ w : State, exec (.demand ch t) s = .next w ∧ (pairOf w p).state = .ss1 ∧ (pairOf w p).ss1At = u.now ∧
    (pairOf w p).v0 = pairSpeed u p ∧ (pairOf w p).stoA = (pairOf u p).stoA ∧ (pairOf w p).stoB = (pairOf u p).stoB ∧ w.isl.stopCause = 1) ∧
  (∀ ch, ch < 16 → u.isl.powered = true → ∃ w : State, exec (.channelEnergised ch t) s = .next w ∧ bit w.isl.levels ch = true ∧
    (∀ c, c ≠ ch → bit w.isl.levels c = bit u.isl.levels c) ∧ w.isl.pairs = u.isl.pairs ∧ w.isl.inFault = u.isl.inFault ∧ w.dev = u.dev) ∧
  (∀ n, n < 8 → u.isl.state ≠ .ready ∨ bit u.isl.inFault n = true ∨ discrepant u n = false → exec (.discrepancy n t) s = .next u) ∧
  (∀ n, n < 8 → u.isl.state = .ready → bit u.isl.inFault n = false → discrepant u n = true → ∃ w : State,
    exec (.discrepancy n t) s = .next w ∧ bit w.isl.inFault n = true ∧ look 0 w.isl.counters 4 = sat32 (look 0 u.isl.counters 4) ∧
    (∀ m, m ≠ n → bit w.isl.inFault m = bit u.isl.inFault m) ∧ w.isl.levels = u.isl.levels ∧ w.mem = u.mem) ∧
  (∀ ch good, ch < 16 → u.isl.state ≠ .ready ∨ windowDue u u.isl.inTestAt ch (field (u.isl.w 1) 20 12 * 1000) = false →
    exec (.testPulse ch good t) s = .next u) ∧
  (∀ ch good, ch < 16 → u.isl.state = .ready → windowDue u u.isl.inTestAt ch (field (u.isl.w 1) 20 12 * 1000) = true →
    bit u.isl.levels ch = false → Tab.wf 0 u.isl.inDeferred → ∃ w : State, exec (.testPulse ch good t) s = .next w ∧
    look 0 w.isl.counters 3 = sat32 (look 0 u.isl.counters 3) ∧ look 0 w.isl.inDeferred ch = look 0 u.isl.inDeferred ch + 1 ∧
    (u.isl.deferMax < look 0 u.isl.inDeferred ch + 1 → bit w.isl.inOverdue (ch / 2) = true) ∧ w.isl.inFailed = u.isl.inFailed ∧
    w.isl.inFault = u.isl.inFault ∧ w.isl.pairs = u.isl.pairs ∧ w.mem = u.mem) ∧
  (∀ ch, ch < 16 → u.isl.state = .ready → windowDue u u.isl.inTestAt ch (field (u.isl.w 1) 20 12 * 1000) = true →
    bit u.isl.levels ch = true → bit u.isl.inFailed ch = false → ∃ w : State,
    exec (.testPulse ch false t) s = .next w ∧ bit w.isl.inFailed ch = true ∧ w.isl.inFault = u.isl.inFault ∧ w.isl.pairs = u.isl.pairs ∧
    w.dev = u.dev) ∧
  (∀ ch, ch < 16 → u.isl.state = .ready → windowDue u u.isl.inTestAt ch (field (u.isl.w 1) 20 12 * 1000) = true →
    bit u.isl.levels ch = true → bit u.isl.inFailed ch = true → ∃ w : State, exec (.testPulse ch false t) s = .next w ∧ bit w.isl.inFault (ch / 2) = true ∧ bit w.isl.inFailed ch = false ∧
    look 0 w.isl.counters 0 = sat32 (look 0 u.isl.counters 0)) ∧
  (∀ ch, ch < 16 → u.isl.state = .ready → windowDue u u.isl.inTestAt ch (field (u.isl.w 1) 20 12 * 1000) = true →
    bit u.isl.levels ch = true → bit u.isl.inFailed ch = true → ∃ w : State, exec (.testPulse ch true t) s = .next w ∧ bit w.isl.inFailed ch = false ∧ look 0 w.isl.counters 2 = sat32 (look 0 u.isl.counters 2) ∧
    w.isl.inFault = u.isl.inFault ∧ w.isl.pairs = u.isl.pairs ∧ w.dev = u.dev) ∧
  (∀ n, n < 8 → u.isl.state ≠ .ready ∨ hardWiredDue u n = false → exec (.hardWiredRecognition n t) s = .next u) ∧
  (∀ n p, n < 8 → p < 8 → u.isl.state = .ready → hardWiredDue u n = true → bit (u.isl.group n) p = true → (pairOf u p).state ≠ .disabled →
    u.isl.tClass ≠ 0 → ∃ w : State,
    exec (.hardWiredRecognition n t) s = .next w ∧ (pairOf w p).hwFrom = (pairOf u p).hwFrom.or (some u.now) ∧
    (pairOf w p).stoB = (pairOf u p).stoB ∧ w.dev = u.dev) ∧
  (∀ n p, n < 8 → p < 8 → u.isl.state = .ready → hardWiredDue u n = true → bit (u.isl.group n) p = true → u.isl.tClass = 0 → ∃ w : State,
    exec (.hardWiredRecognition n t) s = .next w ∧ (pairOf w p).stoB = false ∧
    (pairLive u p = true → (pairOf w p).state = .torqueOff ∧ (u.boot.phase = .running → w.dev.mode = .safe)) ∧ w.mem = u.mem) ∧
  (∀ p f, p < 8 → (pairOf u p).hwFrom = some f → u.isl.state = .ready → islandElapsed u f (tHwMs u.isl.tClass * 1000) = true → ∃ w : State,
    exec (.tHw p t) s = .next w ∧ (pairOf w p).stoB = false ∧ (pairOf w p).hwFrom = none ∧
    (pairLive u p = true → (pairOf w p).state = .torqueOff ∧ (u.boot.phase = .running → w.dev.mode = .safe)) ∧
    ((pairOf u p).state = .enabled → (pairOf w p).offCause = 1) ∧ ((pairOf u p).state = .ss1 → (pairOf w p).offCause = u.isl.stopCause) ∧
    (∀ q, q ≠ p → pairOf w q = pairOf u q) ∧ w.mem = u.mem) ∧
  (∀ p, p < 8 → (pairOf u p).hwFrom = none → exec (.tHw p t) s = .next u) ∧
  (∀ p, p < 8 → u.isl.state = .ready → (pairOf u p).state = .ss1 → u.isl.mode p = 2 →
    islandElapsed u (pairOf u p).ss1At (((pairOf u p).checks + 1) * 1000) = true → ss1Limit u p ((pairOf u p).checks + 1) < pairSpeed u p →
    ∃ w : State, exec (.ss1Check p t) s = .next w ∧ (pairOf w p).state = .torqueOff ∧ (pairOf w p).stoA = false ∧
    (pairOf w p).stoB = false ∧ (pairOf w p).offCause = 6 ∧ look 0 w.isl.counters 7 = sat32 (look 0 u.isl.counters 7) ∧
    (u.boot.phase = .running → w.dev.mode = .safe) ∧ (∀ q, q ≠ p → pairOf w q = pairOf u q) ∧ w.mem = u.mem) ∧
  (∀ p, p < 8 → u.isl.state = .ready → (pairOf u p).state = .ss1 → u.isl.mode p = 1 →
    islandElapsed u (pairOf u p).ss1At (u.isl.ss1MaxMs p * 1000) = true → ∃ w : State, exec (.tSs1Max p t) s = .next w ∧
    (pairOf w p).state = .torqueOff ∧ (pairOf w p).stoA = false ∧ (pairOf w p).stoB = false ∧ (pairOf w p).offCause = u.isl.stopCause ∧
    (u.boot.phase = .running → w.dev.mode = .safe) ∧ (∀ q, q ≠ p → pairOf w q = pairOf u q) ∧ w.mem = u.mem) ∧
  (∀ p, p < 8 → (pairOf u p).state ≠ .ss1 → exec (.ss1Check p t) s = .next u ∧ exec (.tSs1Max p t) s = .next u) ∧
  (∀ pulse, u.pair.role = .off → u.isl.hbAction = 0 → exec (.heartbeatLost pulse t) s = .next u) ∧
  (∀ pulse p, p < 8 → u.pair.role = .off → u.isl.hbAction = 2 → u.isl.state = .ready → u.isl.hbLost = false → pairLive u p = true →
    (∀ h, u.isl.hbAt = some h → islandElapsed u h u.isl.hbTimeoutUs = true) → ∃ w : State, exec (.heartbeatLost pulse t) s = .next w ∧
    w.isl.hbLost = true ∧ w.isl.stopCause = 4 ∧ look 0 w.isl.counters 5 = sat32 (look 0 u.isl.counters 5) ∧
    (pairOf w p).state = .torqueOff ∧ (pairOf w p).offCause = 4 ∧ (u.boot.phase = .running → w.dev.mode = .safe) ∧ w.mem = u.mem) ∧
  (∀ a b, u.isl.powered = true → u.isl.state ≠ .start → u.isl.state ≠ .fault → a % 65536 ≠ b % 65536 → ∃ w : State,
    exec (.switchWordRead a b t) s = .next w ∧ w.isl.state = .fault ∧ w.isl.swA = a % 65536 ∧ w.isl.swB = b % 65536 ∧
    (∀ p, (pairOf w p).stoA = false ∧ (pairOf w p).stoB = false) ∧ w.mem = u.mem) ∧
  (∀ a, u.isl.powered = true → u.isl.state ≠ .start → u.isl.state ≠ .fault → (u.isl.state = .ready → a % 65536 = u.isl.swA) → ∃ w : State,
    exec (.switchWordRead a a t) s = .next w ∧ w.isl.state = u.isl.state ∧ w.isl.swA = a % 65536 ∧ w.isl.pairs = u.isl.pairs ∧ w.dev = u.dev) ∧
  (∀ pin, pin < 16 → u.isl.powered = true → ∃ w : State, exec (.stoReadback pin true t) s = .next w ∧
    look 0 w.isl.counters 2 = sat32 (look 0 u.isl.counters 2) ∧ w.isl.pairs = u.isl.pairs ∧ w.isl.state = u.isl.state ∧ w.dev = u.dev) ∧
  (∀ pin, pin < 16 → u.isl.powered = true → u.isl.state ≠ .fault → ∃ w : State,
    exec (.stoReadback pin false t) s = .next w ∧ w.isl.state = .fault ∧ (∀ p, (pairOf w p).stoA = false ∧ (pairOf w p).stoB = false) ∧
    w.mem = u.mem) ∧
  (u.isl.powered = true → u.isl.state ≠ .fault → ∃ w : State, exec (.frequencyMonitor t) s = .next w ∧ w.isl.state = .fault ∧
    (∀ p, (pairOf w p).stoA = false ∧ (pairOf w p).stoB = false) ∧ w.mem = u.mem) ∧
  (exec (.islandInternalCheck 0 t) s = .next u) ∧
  (u.isl.powered = true → ∃ w : State, exec (.islandInternalCheck 1 t) s = .next w ∧
    look 0 w.isl.counters 2 = sat32 (look 0 u.isl.counters 2) ∧ w.isl.state = u.isl.state ∧ w.isl.pairs = u.isl.pairs ∧ w.dev = u.dev) ∧
  (∀ n, 2 ≤ n → u.isl.powered = true → u.isl.state ≠ .fault → ∃ w : State, exec (.islandInternalCheck n t) s = .next w ∧
    w.isl.state = .fault ∧ (∀ p, (pairOf w p).stoA = false ∧ (pairOf w p).stoB = false) ∧ w.mem = u.mem) ∧
  (∀ o good aborted, o < 16 → u.isl.state ≠ .ready → exec (.outputTestPulse o good aborted t) s = .next u) ∧
  (∀ o good aborted, o < 16 → u.isl.outTest o = true → windowDue u u.isl.outTestAt o (field (u.isl.w 2) 10 12 * 1000) = false →
    outCommanded u o = true → exec (.outputTestPulse o good aborted t) s = .next u) ∧
  (∀ o good, o < 16 → u.isl.state = .ready → bit u.isl.outFault o = false → u.isl.outTest o = true → u.isl.outFunction o ≠ 0 →
    windowDue u u.isl.outTestAt o (field (u.isl.w 2) 10 12 * 1000) = true → Tab.wf 0 u.isl.outDeferred → ∃ w : State,
    exec (.outputTestPulse o good true t) s = .next w ∧ look 0 w.isl.counters 3 = sat32 (look 0 u.isl.counters 3) ∧
    look 0 w.isl.outDeferred o = look 0 u.isl.outDeferred o + 1 ∧
    (u.isl.deferMax < look 0 u.isl.outDeferred o + 1 → bit w.isl.outOverdue o = true) ∧ w.isl.outFault = u.isl.outFault ∧
    w.isl.outFailed = u.isl.outFailed ∧ w.isl.pairs = u.isl.pairs ∧ w.mem = u.mem) ∧
  (∀ o, o < 16 → u.isl.state = .ready → outCommanded u o = false → bit u.isl.outFault o = false → bit u.isl.outFailed o = false →
    exec (.outputTestPulse o true false t) s = .next u ∧ ∃ w : State, exec (.outputTestPulse o false false t) s = .next w ∧
    bit w.isl.outFailed o = true ∧ w.isl.outFault = u.isl.outFault ∧ w.isl.pairs = u.isl.pairs ∧ w.dev = u.dev) ∧
  (∀ o, o < 16 → u.isl.state = .ready → outCommanded u o = false → bit u.isl.outFault o = false → bit u.isl.outFailed o = true →
    ∃ w : State, exec (.outputTestPulse o false false t) s = .next w ∧ bit w.isl.outFault o = true ∧ bit w.isl.outFailed o = false ∧
    look 0 w.isl.counters 1 = sat32 (look 0 u.isl.counters 1) ∧ w.mem = u.mem) ∧
  (∀ o, o < 16 → bit u.isl.sbcHeld o = false → exec (.sbcDelay o t) s = .next u) ∧
  (∀ o, o < 16 → bit u.isl.sbcHeld o = true → (pairOf u (u.isl.outPair o)).state = .torqueOff →
    islandElapsed u (pairOf u (u.isl.outPair o)).offAt (u.isl.sbcDelayMs o * 1000) = true → ∃ w : State, exec (.sbcDelay o t) s = .next w ∧
    bit w.isl.sbcHeld o = false ∧ (u.isl.outFunction o = 1 → outCommanded w o = false) ∧ w.isl.pairs = u.isl.pairs ∧ w.dev = u.dev) ∧
  (u.isl.powered = true → exec (.islandStart t) s = .next u) ∧
  (u.isl.powered = false → ∃ w : State, exec (.islandStart t) s = .next w ∧ w.isl.powered = true ∧ w.isl.state = .start ∧
    w.isl.counters = [] ∧ w.isl.params = u.isl.params ∧ (∀ x, x ∈ w.boot.lostSupplies ↔ x ∈ u.boot.lostSupplies ∧ x < 10) ∧ w.dev = u.dev) ∧
  (∀ a, u.isl.powered = true → u.isl.state = .start → ∃ w : State, exec (.selfTestDone a a t) s = .next w ∧ w.isl.swA = a % 65536 ∧
    w.isl.state = (if paramsFit u.isl (a % 65536) then .ready else .noParams) ∧
    w.isl.pairs = (if paramsFit u.isl (a % 65536) then u.isl.pairs else []) ∧
    w.isl.params = (if paramsFit u.isl (a % 65536) then u.isl.params else []) ∧ w.dev = u.dev) ∧
  (∀ a b, u.isl.powered = true → u.isl.state = .start → a % 65536 ≠ b % 65536 → ∃ w : State, exec (.selfTestDone a b t) s = .next w ∧
    w.isl.state = .fault ∧ (∀ p, (pairOf w p).stoA = false ∧ (pairOf w p).stoB = false) ∧ w.mem = u.mem) ∧
  (∀ a b, u.isl.powered = false → exec (.selfTestDone a b t) s = .next u)

/-! ### CAN and time: what the buses and ports bring (12; 13) -/

/-- The events of the CAN controllers (12 R435–R449): a frame goes to the first filter's first EMPTY buffer with its stamp, an acknowledged frame
leaves its buffer SENT, errors move the counters and the state, a waiting buffer reaches its time, a controller recovers and integrates, and
locks are set, released and time out. -/
def Obligations.CanRuns : Prop := ∀ (c t : Nat) (s u : State), u = s.at t → c < canControllers u → Tab.wf {} u.can.ctrls → Tab.wf {} (canOf u c).bufs →
  (∀ f sof, onBus u c = false → exec (.canRxFrame c f sof t) s = .next u) ∧
  (∀ (f : CanFrame) sof i b, (canOf u c).state = .errorActive → onBus u c = true → (canOf u c).recCount = 0 → (canOf u c).tec < 128 →
    (f.fdf = true → (canOf u c).fd = true) → f.rtr = false → (∀ h, h < 4 → (canBuf u c h).kind ≠ 1) → i < 64 →
    (∀ j, j < i → (look {} (canOf u c).filters j).enable = false) → (look {} (canOf u c).filters i).enable = true →
    idMatches f (look {} (canOf u c).filters i).id (look {} (canOf u c).filters i).mask (look {} (canOf u c).filters i).ide = true →
    (look {} (canOf u c).filters i).first ≤ b → b ≤ (look {} (canOf u c).filters i).last → (canBuf u c b).state = .empty →
    (canBuf u c b).locked = false → (∀ e, (look {} (canOf u c).filters i).first ≤ e → e < b → (canBuf u c e).state ≠ .empty) → ∃ w : State,
    exec (.canRxFrame c f sof t) s = .next w ∧ (canBuf w c b).state = .full ∧ (canBuf w c b).stamp = canCounter u c sof ∧
    (canBuf w c b).filter = i ∧ (canBuf w c b).idWord = f.id % 2 ^ 29 + place 29 (flag f.ide) ∧
    (canBuf w c b).frame = f.dlc % 16 + place 4 (flag f.fdf) + place 5 (flag f.brs) + place 6 (flag f.esi) ∧ (∀ e, e ≠ b → canBuf w c e = canBuf u c e) ∧
    (canOf w c).rxFrames = sat32 (canOf u c).rxFrames ∧ (∀ d, d ≠ c → canOf w d = canOf u d) ∧ w.dev = u.dev ∧ w.mem = u.mem) ∧
  (∀ (f : CanFrame) sof, (canOf u c).state = .errorActive → onBus u c = true → (canOf u c).recCount = 0 → (canOf u c).tec < 128 →
    (f.fdf = true → (canOf u c).fd = true) → (∀ h, h < 4 → (canBuf u c h).kind ≠ 1) →
    (∀ j, j < 64 → (look {} (canOf u c).filters j).enable = false) → ∃ w : State, exec (.canRxFrame c f sof t) s = .next w ∧
    (canOf w c).unmatched = sat32 (canOf u c).unmatched ∧ (canOf w c).bufs = (canOf u c).bufs ∧ w.dev = u.dev ∧ w.mem = u.mem) ∧
  (∀ b sof tdc, b < 128 → (canBuf u c b).state ≠ .pending → exec (.canTxComplete c b sof tdc t) s = .next u) ∧
  (∀ b sof tdc, b < 128 → (canOf u c).state = .errorActive → onBus u c = true → (canOf u c).listen = false → (canOf u c).tec < 128 →
    (canOf u c).recCount < 128 → (canBuf u c b).state = .pending → ∃ w : State, exec (.canTxComplete c b sof tdc t) s = .next w ∧
    (canBuf w c b).state = (if (canBuf u c b).cancelling then .sentDespite else .sent) ∧ (canBuf w c b).stamp = canCounter u c sof ∧
    (canOf w c).tec = (canOf u c).tec - 1 ∧ (canOf w c).txFrames = sat32 (canOf u c).txFrames ∧ (canOf w c).noAck = false ∧
    (∀ e, e ≠ b → canBuf w c e = canBuf u c e) ∧ (∀ d, d ≠ c → canOf w d = canOf u d) ∧ w.dev = u.dev ∧ w.mem = u.mem) ∧
  (∀ e, onBus u c = true → (canOf u c).listen = true → exec (.canError c e t) s = .next u) ∧
  ((canOf u c).state = .errorActive → onBus u c = true → (canOf u c).listen = false → (canOf u c).tec < 128 → (canOf u c).recCount < 127 →
    ∃ w : State, exec (.canError c .receive t) s = .next w ∧ (canOf w c).recCount = (canOf u c).recCount + 1 ∧ (canOf w c).tec = (canOf u c).tec ∧
    (canOf w c).state = .errorActive ∧ (canOf w c).bufs = (canOf u c).bufs ∧ w.dev = u.dev ∧ w.mem = u.mem) ∧
  ((canOf u c).state = .errorActive → onBus u c = true → (canOf u c).listen = false → (canOf u c).recCount < 128 → ∃ w : State,
    exec (.canError c .transmitMore t) s = .next w ∧ (canOf w c).tec = (canOf u c).tec + 8 ∧
    (canOf w c).state = (if (canOf u c).tec + 8 < 128 then .errorActive else if (canOf u c).tec + 8 < 256 then .errorPassive
      else if (canOf u c).autoRecover then .recovering else .busOff) ∧ (canOf w c).recCount = (canOf u c).recCount ∧ w.dev = u.dev ∧
    w.mem = u.mem) ∧
  (∀ b, b < 128 → (canBuf u c b).state = .waitTime → txTimeReached u c b = true → ∃ w : State, exec (.txTime c b t) s = .next w ∧
    (canBuf w c b).state = .pending ∧ (∀ e, e ≠ b → canBuf w c e = canBuf u c e) ∧ w.dev = u.dev ∧ w.mem = u.mem) ∧
  (∀ b, b < 128 → txTimeReached u c b = false → exec (.txTime c b t) s = .next u) ∧
  ((canOf u c).state = .recovering → ∃ w : State, exec (.recovering c t) s = .next w ∧ (canOf w c).state = .errorActive ∧
    (canOf w c).tec = 0 ∧ (canOf w c).recCount = 0 ∧ (canOf w c).bufs = (canOf u c).bufs ∧ (∀ d, d ≠ c → canOf w d = canOf u d) ∧
    w.dev = u.dev) ∧
  ((canOf u c).state ≠ .recovering → exec (.recovering c t) s = .next u) ∧
  ((canOf u c).state = .integrating → u.dev.mode ≠ .graze → ∃ w : State, exec (.canIntegration c t) s = .next w ∧
    (canOf w c).state = .errorActive ∧ (canOf w c).tec = 0 ∧ (canOf w c).recCount = 0 ∧ (canOf w c).bufs = (canOf u c).bufs ∧ w.dev = u.dev) ∧
  ((canOf u c).state ≠ .integrating → exec (.canIntegration c t) s = .next u) ∧
  (∀ mask, ∃ w : State, exec (.hpPendingClear c mask t) s = .next w ∧
    (∀ h, h < 4 → bit (canOf w c).hpPending h = (bit (canOf u c).hpPending h && !bit mask h)) ∧ (canOf w c).bufs = (canOf u c).bufs ∧
    (∀ d, d ≠ c → canOf w d = canOf u d) ∧ w.dev = u.dev) ∧
  (∀ b, b < 128 → (canBuf u c b).state = .full → (canBuf u c b).locked = false → ∃ w : State, exec (.bufferLock c b t) s = .next w ∧
    (canBuf w c b).locked = true ∧ (canBuf w c b).lockedAt = u.now ∧ (canBuf w c b).state = .full ∧
    w.outbox = u.outbox ++ [.completion (canBuf u c b).idWord] ∧ (∀ e, e ≠ b → canBuf w c e = canBuf u c e) ∧ w.dev = u.dev) ∧
  (∀ b, b < 128 → (canBuf u c b).state ≠ .full → exec (.bufferLock c b t) s = .next (u.emit (.completion (canBuf u c b).idWord))) ∧
  (∀ b, b < 128 → (canBuf u c b).locked = true → (canBuf u c b).store = none → ∃ w : State, exec (.bufferRelease c b t) s = .next w ∧
    (canBuf w c b).locked = false ∧ (canBuf w c b).state = .empty ∧ (canBuf w c b).overrun = false ∧
    (∀ e, e ≠ b → canBuf w c e = canBuf u c e) ∧ w.dev = u.dev) ∧
  (∀ b f stamp sof filter, b < 128 → (canBuf u c b).locked = true → (canBuf u c b).store = some (f, stamp, sof, filter) → ∃ w : State,
    exec (.bufferRelease c b t) s = .next w ∧ (canBuf w c b).locked = false ∧ (canBuf w c b).state = .full ∧ (canBuf w c b).stamp = stamp ∧
    (canBuf w c b).store = none ∧ w.dev = u.dev) ∧
  (∀ b, b < 128 → (canBuf u c b).locked = true → (canBuf u c b).store = none → (canBuf u c b).lockedAt + clocksOfUs 1000 ≤ u.now → ∃ w : State,
    exec (.lockTimeouts c b t) s = .next w ∧ (canBuf w c b).locked = false ∧ (canBuf w c b).state = (canBuf u c b).state ∧
    (canOf w c).lockTimeouts = sat32 (canOf u c).lockTimeouts ∧ (∀ e, e ≠ b → canBuf w c e = canBuf u c e) ∧ w.dev = u.dev) ∧
  (∀ b, b < 128 → (canBuf u c b).locked = false → exec (.lockTimeouts c b t) s = .next u)

/-- The events of the TIME unit (13 R460–R469): messages are taken only on a running port, a Sync of the master sets the estimate of a track that
had none and waits for its Follow_Up where it is two-step, a time in the rejected range is counted and dropped, a LOCKED track goes to HOLDOVER
and may hand over, a Delay_Req asks, and a due step sets device time. -/
def Obligations.TimeRuns : Prop := ∀ (t : Nat) (s u : State), u = s.at t → Tab.wf {} u.net.tracks → Tab.wf {} u.net.ports →
  (∀ n m stamp, n < 2 → portRuns u n = false → exec (.ptpMessage n m stamp t) s = .next u) ∧
  (∀ n m stamp, n < 2 → portRuns u n = false → exec (.syncMessage n m stamp t) s = .next u ∧ exec (.followUp n m t) s = .next u) ∧
  (∀ n stamp, n < 2 → portRuns u n = true → ∃ w : State, exec (.ptpMessage n .other stamp t) s = .next w ∧
    w.net.framesDropped = sat32 u.net.framesDropped ∧ w.net.tracks = u.net.tracks ∧ w.dev = u.dev ∧ w.mem = u.mem) ∧
  (∀ n k a stamp (f : Foreign), n < 2 → k < 2 → portRuns u n = true → tracksFor u n a.domain = [k] → a.majorSdo = (trackOf u k).majorSdo →
    a.minorSdo = (trackOf u k).minorSdo → (trackOf u k).foreigns = [f] → f.port = n → f.announce.source = a.source → 1 ≤ f.count →
    (trackOf u k).master = none → (trackOf u k).lastGm ≠ some a.gmId → (trackOf u k).state ≠ .holdover → ∃ w : State,
    exec (.ptpMessage n (.announce a) stamp t) s = .next w ∧
    (trackOf w k).master = some (n, a) ∧ (trackOf w k).state = .uncalibrated ∧ (trackOf w k).valid = false ∧
    trackOf w (1 - k) = trackOf u (1 - k) ∧ w.dev = u.dev ∧ w.mem = u.mem) ∧
  (∀ n k domain source seq t4 corr stamp q t3 ms a, n < 2 → k < 2 → portRuns u n = true → tracksFor u n domain = [k] →
    (trackOf u k).requestOn n = some (q, t3) → Tab.wf [] (trackOf u k).delays → (trackOf u k).msDelay = some ms → q = seq → (trackOf u k).p2p = false →
    (trackOf u k).master = some (n, a) → a.source = source → ∃ w : State,
    exec (.ptpMessage n (.delayResp domain source seq t4 corr) stamp t) s = .next w ∧
    look [] (trackOf w k).delays n = ((ms + (t4 - corr - t3)) / 2 :: look [] (trackOf u k).delays n).take 8 ∧
    look [] (trackOf w k).delays (1 - n) = look [] (trackOf u k).delays (1 - n) ∧ (trackOf w k).requestOn n = none ∧
    (trackOf w k).off = (trackOf u k).off ∧ trackOf w (1 - k) = trackOf u (1 - k) ∧ w.dev = u.dev ∧ w.mem = u.mem) ∧
  (∀ n k (m : SyncMsg) stamp, n < 2 → k < 2 → portRuns u n = true → tracksFor u n m.domain = [k] →
    fromMaster (trackOf u k) n m.source m.majorSdo m.minorSdo = true → m.twoStep = true → ∃ w : State,
    exec (.syncMessage n m stamp t) s = .next w ∧ (trackOf w k).off = (trackOf u k).off ∧ (trackOf w k).valid = (trackOf u k).valid ∧
    (∃ x, x ∈ (trackOf w k).waiting ∧ x.seq = m.seq ∧ x.source = m.source ∧ x.t2 = stamp - (portOf u n).ingressNs ∧ x.at' = u.now) ∧
    w.dev = u.dev ∧ w.mem = u.mem) ∧
  (∀ n k (m : SyncMsg) stamp, n < 2 → k < 2 → portRuns u n = true → tracksFor u n m.domain = [k] →
    fromMaster (trackOf u k) n m.source m.majorSdo m.minorSdo = true → m.twoStep = false → m.t1 < invalidFrom → (trackOf u k).valid = false →
    (trackOf u k).delays = [] → ∃ w : State, exec (.syncMessage n m stamp t) s = .next w ∧
    (trackOf w k).off = m.t1 + m.corr + (portOf u n).asymNs - (stamp - (portOf u n).ingressNs) ∧ (trackOf w k).valid = true ∧
    (trackOf w k).ref = stamp - (portOf u n).ingressNs ∧ (trackOf w k).syncs = sat32 (trackOf u k).syncs ∧
    (trackOf w k).state = (trackOf u k).state ∧ w.timeStep = u.timeStep ∧ w.dev = u.dev ∧ w.mem = u.mem) ∧
  (∀ n k (m : SyncMsg) stamp, n < 2 → k < 2 → portRuns u n = true → tracksFor u n m.domain = [k] →
    fromMaster (trackOf u k) n m.source m.majorSdo m.minorSdo = true → m.twoStep = false → invalidFrom ≤ m.t1 → ∃ w : State,
    exec (.syncMessage n m stamp t) s = .next w ∧ (trackOf w k).invalid = sat32 (trackOf u k).invalid ∧
    (trackOf w k).off = (trackOf u k).off ∧ (trackOf w k).syncs = (trackOf u k).syncs ∧ w.dev = u.dev ∧ w.mem = u.mem) ∧
  (∀ n k (m : SyncMsg), n < 2 → portRuns u n = true → tracksFor u n m.domain = [k] → (trackOf u k).waiting = [] →
    exec (.followUp n m t) s = .next u) ∧
  (∀ n k (m : SyncMsg) x, n < 2 → k < 2 → portRuns u n = true → tracksFor u n m.domain = [k] → (trackOf u k).waiting = [x] → x.seq = m.seq →
    x.source = m.source → u.now ≤ x.at' + clocksOfUs 250000 → m.t1 < invalidFrom → (trackOf u k).valid = false → (trackOf u k).delays = [] →
    ∃ w : State, exec (.followUp n m t) s = .next w ∧ (trackOf w k).off = m.t1 + (x.corr + m.corr) + (portOf u n).asymNs - x.t2 ∧
    (trackOf w k).valid = true ∧ (trackOf w k).waiting = [] ∧ w.dev = u.dev ∧ w.mem = u.mem) ∧
  (∀ k, k < 2 → (trackOf u k).state = .off ∨ (trackOf u k).state = .holdover ∨ (trackOf u k).valid = false ∨
    u.now < (trackOf u k).lastSyncAt + clocksOfUs ((trackOf u k).syncTimeoutMs * 1000) → exec (.holdover k t) s = .next u) ∧
  (∀ k, k < 2 → (trackOf u k).state ≠ .off → (trackOf u k).state ≠ .holdover → (trackOf u k).valid = true → (trackOf u k).lastSyncAt + clocksOfUs ((trackOf u k).syncTimeoutMs * 1000) ≤ u.now → ∃ w : State,
    exec (.holdover k t) s = .next w ∧ (trackOf w k).state = .holdover ∧ (trackOf w k).good = 0 ∧
    w.net.source = (if u.net.autoSwitch && u.net.source == k && (trackOf u (1 - k)).state == .locked then 1 - k else u.net.source) ∧
    trackOf w (1 - k) = trackOf u (1 - k) ∧ w.dev = u.dev ∧ w.mem = u.mem) ∧
  (∀ n, n < 2 → exec (.portLinkChange n (portOf u n).linkUp t) s = .next u) ∧
  (∀ n, n < 2 → ∃ w : State, exec (.portLinkChange n (!(portOf u n).linkUp) t) s = .next w ∧ (portOf w n).linkUp = !(portOf u n).linkUp ∧
    portOf w (1 - n) = portOf u (1 - n) ∧ w.net.tracks = u.net.tracks ∧ w.dev = u.dev ∧ w.mem = u.mem) ∧
  (mapIsDue u = false → exec (.timeMap t) s = .next u) ∧
  (mapIsDue u = true → ∃ w : State, exec (.timeMap t) s = .next w ∧ w.net.mapDue = false ∧ w.net.mapAt = some u.now ∧ (∀ m, (look {} u.drove.members m).integrated = true →
    (look {} u.drove.members m).ubr = true → (look {} w.drove.members m).peer.out = (look {} u.drove.members m).peer.out ++
      [{ kind := 7, words := timeMapWords u }]) ∧
    (∀ m, (look {} u.drove.members m).integrated = false → look {} w.drove.members m = look {} u.drove.members m) ∧ w.dev = u.dev ∧
    w.mem = u.mem ∧ w.net.tracks = u.net.tracks) ∧
  (∀ k, k < 2 → requestDue u (trackOf u k) = false → exec (.ptpDelayRequest k t) s = .next u) ∧
  (∀ k n a, k < 2 → requestDue u (trackOf u k) = true → (trackOf u k).p2p = false → (trackOf u k).master = some (n, a) →
    portSends u n = true → ∃ w : State, exec (.ptpDelayRequest k t) s = .next w ∧
    w.outbox = u.outbox ++ [.ptp n 1 (trackOf u k).domain (((trackOf u k).delaySeq + 1) % 65536)] ∧
    (trackOf w k).requestOn n = some (((trackOf u k).delaySeq + 1) % 65536, (egressNow u n : Int)) ∧
    (trackOf w k).requestAt = some u.now ∧ w.dev = u.dev ∧ w.mem = u.mem) ∧
  (∀ k, k < 2 → (trackOf u k).master = none → exec (.announceReceiptTimeout k t) s = .next u) ∧
  (∀ k n a f, k < 2 → (trackOf u k).master = some (n, a) → (trackOf u k).foreigns = [f] → f.port = n → f.announce.source = a.source →
    ∃ w : State, exec (.announceReceiptTimeout k t) s = .next w ∧ (trackOf w k).master = none ∧ (trackOf w k).foreigns = [] ∧
    (trackOf w k).state = (if (trackOf u k).state = .uncalibrated then .listening else (trackOf u k).state) ∧
    (trackOf w k).valid = (trackOf u k).valid ∧ w.dev = u.dev ∧ w.mem = u.mem) ∧
  (u.net.stepDue = none → exec (.timeSet t) s = .next u) ∧
  (∀ d, u.net.stepDue = some d → integrated u = true → ∃ w : State, exec (.timeSet t) s = .next w ∧ w.net.stepDue = none ∧
    w.timeStep = u.timeStep ∧ w.dev = u.dev ∧ w.mem = u.mem) ∧
  (∀ d : Int, u.net.stepDue = some d → integrated u = false → ∃ w : State, exec (.timeSet t) s = .next w ∧ w.net.stepDue = none ∧
    w.net.mapDue = true ∧ w.timeStep = (u.ns + d) * 4 / 5 - u.now ∧ w.dev = u.dev ∧ w.graph = u.graph ∧ w.loop = u.loop)

/-! ### Rules of their own -/

/-- R25: an output frame that arrives after the commit point of its cycle, or whose tag is not the cycle in progress, is discarded and counted in
LATE_OUTPUTS. -/
def Obligations.LateOutputsAreDiscarded : Prop := ∀ (t : Nat) (f : Frame) (s u v : State), u = s.at t → f.down = false → f.src = 0x80 →
  u.drove.member = some f.dst → u.drove.up.state = .integrating ∨ u.drove.up.state = .integrated ∨ u.drove.up.state = .muted →
  Passes 2 f false u v → (f.cycle = devCycle u ∧ pastCommitPoint u = true) ∨ f.cycle ≠ devCycle u →
  ∃ w : State, exec (.dataFrame f t) s = .next w ∧ w.cyc.lateOutputs = sat32 u.cyc.lateOutputs ∧ w.drove.outFrames = u.drove.outFrames ∧
    w.cyc = { u.cyc with lateOutputs := w.cyc.lateOutputs } ∧ w.dev = u.dev ∧ w.dio = u.dio ∧ w.can = u.can ∧ w.axis = u.axis ∧ w.mem = u.mem

/-- R569: a fault with the UNIT, CODE and DETAIL of a waiting fault takes no queue entry and adds 1 to that entry's COUNT. -/
def Obligations.EqualFaultsAreCounted : Prop := ∀ (s : State) (unit code sev detail : Nat) (continuing : Bool),
  (∃ g, g ∈ s.flt.waiting ∧ g.unit = unit ∧ g.code = code ∧ g.detail = detail) →
  (s.reportFault unit code sev detail continuing).flt.waiting = s.flt.waiting.map (fun g =>
    if g.unit = unit ∧ g.code = code ∧ g.detail = detail then { g with count := g.count + 1 } else g) ∧
  (s.reportFault unit code sev detail continuing).flt.inHand = s.flt.inHand ∧
  (s.reportFault unit code sev detail continuing).flt.dropped = s.flt.dropped ∧
  (s.reportFault unit code sev detail continuing).dev = s.dev ∧ (s.reportFault unit code sev detail continuing).mem = s.mem

/-- R444: a TX buffer with ONE_SHOT set is offered once: after a lost arbitration or an error it is FAILED and offered no more. -/
def Obligations.OneShotBuffersFail : Prop := ∀ (c b t : Nat) (e : CanFault) (s u : State), u = s.at t → c < canControllers u →
  Tab.wf {} u.can.ctrls → Tab.wf {} (canOf u c).bufs → onBus u c = true → (canOf u c).listen = false → (canBuf u c b).state = .pending →
  (canBuf u c b).oneShot = true → (canBuf u c b).cancelling = false →
  e = .arbitration b ∨ (∃ stuff, e = .transmit b stuff) ∨ (∃ dominant, e = .noAck b dominant) →
  ∃ w : State, exec (.canError c e t) s = .next w ∧ (canBuf w c b).state = .failed ∧ offered w c ≠ some b ∧ w.dev = u.dev ∧ w.mem = u.mem

/-! ### After reset, and what every step keeps -/

/-- State.reset holds the values the spec gives for reset: DEV_STATE (02 R58), the rings of R66, memory of zeros (03 R87), 1.8 ms of device time at
t1 + 4.0 ms (03 R91), empty banks and no forces (04 R117, R143), the hold budget of 01 R46, the settings of 11 R426 and 13 R476, the refill of
17 R592 and the scrub period of 16 R561. -/
def Obligations.ResetValues : Prop := devStateWord State.reset = 0x80 ∧ State.reset.dev.mode = .configure ∧ State.reset.clock = 1440000 ∧
  ((ringOf State.reset 0).kind = 0 ∧ (ringOf State.reset 0).state = .disabled ∧ (ringOf State.reset 0).paired = 1 ∧
    (ringOf State.reset 0).log2 = 8) ∧
  ((ringOf State.reset 1).kind = 1 ∧ (ringOf State.reset 1).state = .disabled ∧ (ringOf State.reset 1).paired = 0 ∧
    (ringOf State.reset 1).log2 = 8) ∧
  (∀ n, 2 ≤ n → (ringOf State.reset n).state = .absent) ∧ (∀ a, readByte State.reset a = 0) ∧
  (∀ n, n < 4 → hasProgram State.reset n = false) ∧ State.reset.graph.forces = [] ∧ (∀ c, loopEnabled State.reset c = false) ∧
  (∀ n, (axisOf State.reset n).kind = 0) ∧ State.reset.cyc.holdBudget = 3 ∧ State.reset.cyc.latchSubst = false ∧
  State.reset.drove.sync = { exclude := 0, maxRatePpm := 150, slewPpm := 50, stepLimitUs := 1000 } ∧
  State.reset.net.source = 3 ∧ State.reset.net.slewPpm = 10 ∧ State.reset.net.maxSteerPpm = 50 ∧ State.reset.net.stepUs = 1000 ∧
  State.reset.tally.settings = [] ∧ State.reset.tally.defaultRefill = 10000 ∧ State.reset.mem.passS = 10 ∧
  (∀ p, (pairOf State.reset p).stoA = false ∧ (pairOf State.reset p).stoB = false) ∧ State.reset.pair.role = .off

/-- The memory of the reset state has its canonical form. -/
def Obligations.CanonicalAtReset : Prop := Canonical State.reset

/-- Every step keeps the canonical form of the memory: addresses rise and no listed byte is 0, the value of an unlisted one (03 R87, 16 R550). -/
def Obligations.CanonicalKept : Prop := ∀ s s' : State, Canonical s → step s = .next s' → Canonical s'

/-- R515, R494, R484: torque comes back in one way only. A step that takes a STO output of a pair from low to high is the completion of a
SAFE.RESET that names the pair, and the pair was in TORQUE_OFF. -/
def Obligations.TorqueReturnsOnlyBySafeReset : Prop := ∀ (s s' : State) (p : Nat), p < 8 → Tab.wf {} s.isl.pairs → step s = .next s' →
  ((pairOf s p).stoA = false ∧ (pairOf s' p).stoA = true) ∨ ((pairOf s p).stoB = false ∧ (pairOf s' p).stoB = true) →
  ∃ k dma passing t rest d, s.pending = .commandComplete k dma passing t :: rest ∧ s.host.deferred[k]? = some d ∧ d.op = .safeReset ∧
    bit (d.packet.w 0) p = true ∧ (pairOf s p).state = .torqueOff

/-! ### Commands that end later -/

/-- How the commands end that are accepted and answered later (04 R145, R155, R157, R160; 07 R261, R264; 14 R510, R515; 16 R575, R576; 18 R621):
COMMAND_COMPLETE ends those of the service cores and of the island, SAFE.RESET enabling every named pair or none; AXIS commands act at the cycle
start; PWR.DOMAIN_RETRY is answered when the domain is raised. GRAPH.CONTROL, GRAPH.VAR_READ and GRAPH.VAR_WRITE act at once on a device without a
control cycle (the model's choice, log 60). -/
def Obligations.AcceptedCommandsFinish : Prop := ∀ (t : Nat) (s u : State), u = s.at t →
  (∀ k d dma passing v st ws, u.host.deferred[k]? = some d → finish d dma passing u = some (v, st, ws) →
    exec (.commandComplete k dma passing t) s =
      .next ((v.modHost fun h => { h with deferred := h.deferred.eraseIdx k }).answer d.op d.packet st ws)) ∧
  (∀ k d dma passing, u.host.deferred[k]? = some d → finish d dma passing u = none → exec (.commandComplete k dma passing t) s = .next u) ∧
  (∀ (d : Deferred) dma passing a, d.op = .memDma → poisonBlocks u (d.packet.w 3) (d.packet.w 4) (!bit (d.packet.w 0) 0) = some a →
    finish d dma passing u = some (u, stMmPoisoned, [wd a])) ∧
  (∀ (d : Deferred) passing, d.op = .memDma → poisonBlocks u (d.packet.w 3) (d.packet.w 4) (!bit (d.packet.w 0) 0) = none →
    (dmaCopy d.packet (d.packet.w 4) u).2.2 = false →
    finish d .ok passing u = some ((dmaCopy d.packet (d.packet.w 4) u).1, (dmaCopy d.packet (d.packet.w 4) u).2.1, [wd (d.packet.w 4)])) ∧
  (∀ (d : Deferred) passing, d.op = .memDma → poisonBlocks u (d.packet.w 3) (d.packet.w 4) (!bit (d.packet.w 0) 0) = none →
    ∃ n, n % 64 = 0 ∧ (64 ≤ d.packet.w 4 → n < d.packet.w 4) ∧ ((dmaCopy d.packet n u.takeFree.2).2.2 = false →
      finish d .failed passing u = some ((dmaCopy d.packet n u.takeFree.2).1, stMmDma, [wd n]))) ∧
  (∀ d : Deferred, d.op = .graphVerify → ∃ v st ws, finish d .ok 0 u = some (v, st, ws) ∧
    (((slotOf u (slotArg d.packet)).bank (bankArg d.packet)).state ≠ .loaded →
      ((slotOf u (slotArg d.packet)).bank (bankArg d.packet)).state ≠ .verified → v = u ∧ st = stRange)) ∧
  (∀ d : Deferred, d.op = .graphVerify → Tab.wf {} u.graph.slots → ((slotOf u (slotArg d.packet)).bank (bankArg d.packet)).state = .loaded →
    bankArg d.packet = (slotOf u (slotArg d.packet)).activeB →
    poisonedIn u (bankAddr (slotArg d.packet) (bankArg d.packet)) (4 * ((slotOf u (slotArg d.packet)).bank (bankArg d.packet)).length) = none →
    verifyImage u (bankAddr (slotArg d.packet) (bankArg d.packet)) ((slotOf u (slotArg d.packet)).bank (bankArg d.packet)).length = none →
    imgVars u (bankAddr (slotArg d.packet) (bankArg d.packet)) = 0 →
    imgVarWords u (bankAddr (slotArg d.packet) (bankArg d.packet)) = 0 → ∃ v ws, finish d .ok 0 u = some (v, stOk, ws) ∧
    ((slotOf v (slotArg d.packet)).bank (bankArg d.packet)).state = .active ∧ v.mem = u.mem ∧ v.dev = u.dev ∧ v.loop = u.loop) ∧
  (∀ (d : Deferred) st ws passing, d.op = .safeParamLoad ∨ d.op = .safeSwitchRead ∨ d.op = .safeStatus ∨ d.op = .safeStop ∨
    d.op = .safeDiagRead ∨ d.op = .safeMemRead → d.data = st :: ws → finish d .ok passing u = some (u, st, ws.map wd)) ∧
  (∀ (d : Deferred) passing, d.op = .safeReset → Tab.wf {} u.isl.pairs → u.isl.powered = true → u.isl.state = .ready → u.isl.params ≠ [] →
    bit (d.packet.w 0) 8 = false → (u.isl.hbAction ≠ 0 → hbOk u = true) → (∀ n, n < 8 → inputDemand u n = false ∧ bit u.isl.inFault n = false) →
    ∃ v : State, finish d .ok passing u = some (v, stOk, []) ∧ v.isl.inStop = false ∧ v.dev = u.dev ∧ v.mem = u.mem ∧
    (∀ p, p < 8 → bit (d.packet.w 0) p = true → (pairOf u p).state = .torqueOff →
      (pairOf v p).state = .enabled ∧ (pairOf v p).stoA = true ∧ (pairOf v p).stoB = true) ∧
    (∀ p, p < 8 → bit (d.packet.w 0) p = false ∨ (pairOf u p).state ≠ .torqueOff → pairOf v p = pairOf u p)) ∧
  (∀ (d : Deferred) passing p n, d.op = .safeReset → u.isl.powered = true → u.isl.state = .ready → u.isl.params ≠ [] →
    bit (d.packet.w 0) 8 = false → p < 8 → n < 8 → bit (d.packet.w 0) p = true → bit (u.isl.group p) n = true →
    inputDemand u n = true ∨ bit u.isl.inFault n = true → finish d .ok passing u = some (u, stSfDemand, [])) ∧
  (∀ (d : Deferred) passing, d.op = .safeReset → u.isl.state = .fault → u.isl.powered = true →
    finish d .ok passing u = some (u, stSfFault, [])) ∧
  (∀ (d : Deferred) n st, u.host.deferred = [d] → d.op = .axisStart → d.data = [] → n = field (d.packet.w 0) 0 8 → startRefusal u n = some st →
    axisCycleStart u = (u.modHost fun h => { h with deferred := [] }).answer .axisStart d.packet st []) ∧
  (∀ (d : Deferred) n, u.host.deferred = [d] → d.op = .axisStart → d.data = [] → n = field (d.packet.w 0) 0 8 → startRefusal u n = none →
    axisCycleStart u = ((u.modHost fun h => { h with deferred := [] }).axisStart n (field (d.packet.w 1) 0 16) true).answer
      .axisStart d.packet stOk []) ∧
  (∀ (d : Deferred) n, u.host.deferred = [d] → d.op = .axisStop → d.data = [] → n = field (d.packet.w 0) 0 8 → bit (d.packet.w 0) 10 = false →
    ((axisOf u n).kind = 0 → axisCycleStart u = (u.modHost fun h => { h with deferred := [] }).answer .axisStop d.packet stAxNotConfigured []) ∧
    ((axisOf u n).kind ≠ 0 → field (d.packet.w 0) 8 2 ≠ 3 → axisCycleStart u =
      ((u.modHost fun h => { h with deferred := [] }).axisStop n (field (d.packet.w 0) 8 2)).answer .axisStop d.packet stOk [])) ∧
  (∀ (d : Deferred), u.host.deferred = [d] → d.op = .axisSetPosition → d.data = [] → u.dev.mode = .safe ∨ u.dev.mode = .graze →
    axisCycleStart u = (u.modHost fun h => { h with deferred := [] }).answer .axisSetPosition d.packet stBadMode []) ∧
  (∀ (d : Deferred) k, k < 12 → Tab.wf {} u.pwr.domains → u.host.deferred = [d] → d.op = .pwrDomainRetry → d.data = [k] →
    (domain u k).going = some .on → (domain u k).since + clocksOfUs (transitionUs k (domain u k) .on) ≤ u.now → ∃ w : State, exec (.transitionDone k t) s = .next w ∧ (domain w k).failed = false ∧
    (domain w k).state = .on ∧ w.host.deferred = []) ∧
  (∀ (p : Packet) n a, Reached .graphControl p u → hasCycle u = false → Tab.wf {} u.graph.slots → p.len = 1 →
    reservedSet (p.w 0) 0xFFFFFFE0 = false → n = field (p.w 0) 0 2 → a = field (p.w 0) 2 3 →
    (a = 0 → (activeBank u n).state = .active → ∃ v : State, Answers (.graphControl p) .graphControl p u v (controlWords v n) ∧
      (slotOf v n).enabled = true ∧ (∀ m, m ≠ n → slotOf v m = slotOf u m) ∧ v.mem = u.mem ∧ v.dev = u.dev) ∧
    (a = 1 → ∃ v : State, Answers (.graphControl p) .graphControl p u v (controlWords v n) ∧ (slotOf v n).enabled = false ∧
      (slotOf v n).origin = none ∧ (∀ m, m ≠ n → slotOf v m = slotOf u m) ∧ v.mem = u.mem ∧ v.dev = u.dev) ∧
    (a = 2 ∨ a = 3 → ∃ v : State, Answers (.graphControl p) .graphControl p u v (controlWords v n) ∧ (slotOf v n).held = decide (a = 2) ∧
      (∀ m, m ≠ n → slotOf v m = slotOf u m) ∧ v.mem = u.mem ∧ v.dev = u.dev)) ∧
  (∀ (p : Packet) v, Reached .graphVarRead p u → hasCycle u = false → p.len = 3 → reservedSet (p.w 0) 0xFFFFFFF8 = false →
    reservedSet (p.w 2) 0xFFE00000 = false → 1 ≤ varCount p → varCount p ≤ 1024 → findVar u (field (p.w 0) 0 2) (p.w 1) = some v →
    varFirst p + varCount p ≤ v.count → (∀ e, readFails u v e = false) → Answers (.graphVarRead p) .graphVarRead p u u
      (wd (v.type + place 3 (flag (((List.range (varCount p)).map (varFirst p + ·)).any fun e => (forceOn u v e).isSome))) ::
        ((List.range (varCount p)).map (varFirst p + ·)).flatMap fun e =>
          valueWords v.type (if bit (p.w 0) 2 then storedValue u v e else varValue u v e))) ∧
  (∀ (p : Packet) v, Reached .graphVarWrite p u → hasCycle u = false → reservedSet (p.w 0) 0xFFFFFFFC = false →
    reservedSet (p.w 2) 0xFFE00000 = false → 1 ≤ varCount p → varCount p ≤ 1024 → findVar u (field (p.w 0) 0 2) (p.w 1) = some v →
    p.len = 3 + varCount p * tyWords v.type → varFirst p + varCount p ≤ v.count → v.type ≠ 0 → v.isState = false →
    (∀ e, writeFails u v e = false) → Answers (.graphVarWrite p) .graphVarWrite p u ((List.range (varCount p)).foldl
      (fun x k => x.storeValue v (varFirst p + k) (writtenValue p v.type k)) u) [])
end

