-- ==== Sys2Proof/Laws/State.lean ====
section
/-! SUPPORT. What each update of the state leaves and what it sets, one lemma a field. -/

namespace Sys2Proof.Machine

@[simp] theorem State.modBoot_now (s : State) (f : BootUnit → BootUnit) : (s.modBoot f).now = s.now := rfl
@[simp] theorem State.modBoot_timeStep (s : State) (f : BootUnit → BootUnit) : (s.modBoot f).timeStep = s.timeStep := rfl
@[simp] theorem State.modBoot_steer (s : State) (f : BootUnit → BootUnit) : (s.modBoot f).steer = s.steer := rfl
@[simp] theorem State.modBoot_pending (s : State) (f : BootUnit → BootUnit) : (s.modBoot f).pending = s.pending := rfl
@[simp] theorem State.modBoot_outbox (s : State) (f : BootUnit → BootUnit) : (s.modBoot f).outbox = s.outbox := rfl
@[simp] theorem State.modBoot_fresh (s : State) (f : BootUnit → BootUnit) : (s.modBoot f).fresh = s.fresh := rfl
@[simp] theorem State.modBoot_boot (s : State) (f : BootUnit → BootUnit) : (s.modBoot f).boot = f s.boot := rfl
@[simp] theorem State.modBoot_dev (s : State) (f : BootUnit → BootUnit) : (s.modBoot f).dev = s.dev := rfl
@[simp] theorem State.modBoot_cyc (s : State) (f : BootUnit → BootUnit) : (s.modBoot f).cyc = s.cyc := rfl
@[simp] theorem State.modBoot_host (s : State) (f : BootUnit → BootUnit) : (s.modBoot f).host = s.host := rfl
@[simp] theorem State.modBoot_mem (s : State) (f : BootUnit → BootUnit) : (s.modBoot f).mem = s.mem := rfl
@[simp] theorem State.modBoot_flt (s : State) (f : BootUnit → BootUnit) : (s.modBoot f).flt = s.flt := rfl
@[simp] theorem State.modBoot_tally (s : State) (f : BootUnit → BootUnit) : (s.modBoot f).tally = s.tally := rfl
@[simp] theorem State.modBoot_pwr (s : State) (f : BootUnit → BootUnit) : (s.modBoot f).pwr = s.pwr := rfl
@[simp] theorem State.modBoot_graph (s : State) (f : BootUnit → BootUnit) : (s.modBoot f).graph = s.graph := rfl
@[simp] theorem State.modBoot_sched (s : State) (f : BootUnit → BootUnit) : (s.modBoot f).sched = s.sched := rfl
@[simp] theorem State.modBoot_loop (s : State) (f : BootUnit → BootUnit) : (s.modBoot f).loop = s.loop := rfl
@[simp] theorem State.modBoot_axis (s : State) (f : BootUnit → BootUnit) : (s.modBoot f).axis = s.axis := rfl
@[simp] theorem State.modBoot_adc (s : State) (f : BootUnit → BootUnit) : (s.modBoot f).adc = s.adc := rfl
@[simp] theorem State.modBoot_dio (s : State) (f : BootUnit → BootUnit) : (s.modBoot f).dio = s.dio := rfl
@[simp] theorem State.modBoot_acq (s : State) (f : BootUnit → BootUnit) : (s.modBoot f).acq = s.acq := rfl
@[simp] theorem State.modBoot_drove (s : State) (f : BootUnit → BootUnit) : (s.modBoot f).drove = s.drove := rfl
@[simp] theorem State.modBoot_can (s : State) (f : BootUnit → BootUnit) : (s.modBoot f).can = s.can := rfl
@[simp] theorem State.modBoot_net (s : State) (f : BootUnit → BootUnit) : (s.modBoot f).net = s.net := rfl
@[simp] theorem State.modBoot_isl (s : State) (f : BootUnit → BootUnit) : (s.modBoot f).isl = s.isl := rfl
@[simp] theorem State.modBoot_pair (s : State) (f : BootUnit → BootUnit) : (s.modBoot f).pair = s.pair := rfl
@[simp] theorem State.modBoot_keep (s : State) (f : BootUnit → BootUnit) : (s.modBoot f).keep = s.keep := rfl
@[simp] theorem State.modDev_now (s : State) (f : DevUnit → DevUnit) : (s.modDev f).now = s.now := rfl
@[simp] theorem State.modDev_timeStep (s : State) (f : DevUnit → DevUnit) : (s.modDev f).timeStep = s.timeStep := rfl
@[simp] theorem State.modDev_steer (s : State) (f : DevUnit → DevUnit) : (s.modDev f).steer = s.steer := rfl
@[simp] theorem State.modDev_pending (s : State) (f : DevUnit → DevUnit) : (s.modDev f).pending = s.pending := rfl
@[simp] theorem State.modDev_outbox (s : State) (f : DevUnit → DevUnit) : (s.modDev f).outbox = s.outbox := rfl
@[simp] theorem State.modDev_fresh (s : State) (f : DevUnit → DevUnit) : (s.modDev f).fresh = s.fresh := rfl
@[simp] theorem State.modDev_boot (s : State) (f : DevUnit → DevUnit) : (s.modDev f).boot = s.boot := rfl
@[simp] theorem State.modDev_dev (s : State) (f : DevUnit → DevUnit) : (s.modDev f).dev = f s.dev := rfl
@[simp] theorem State.modDev_cyc (s : State) (f : DevUnit → DevUnit) : (s.modDev f).cyc = s.cyc := rfl
@[simp] theorem State.modDev_host (s : State) (f : DevUnit → DevUnit) : (s.modDev f).host = s.host := rfl
@[simp] theorem State.modDev_mem (s : State) (f : DevUnit → DevUnit) : (s.modDev f).mem = s.mem := rfl
@[simp] theorem State.modDev_flt (s : State) (f : DevUnit → DevUnit) : (s.modDev f).flt = s.flt := rfl
@[simp] theorem State.modDev_tally (s : State) (f : DevUnit → DevUnit) : (s.modDev f).tally = s.tally := rfl
@[simp] theorem State.modDev_pwr (s : State) (f : DevUnit → DevUnit) : (s.modDev f).pwr = s.pwr := rfl
@[simp] theorem State.modDev_graph (s : State) (f : DevUnit → DevUnit) : (s.modDev f).graph = s.graph := rfl
@[simp] theorem State.modDev_sched (s : State) (f : DevUnit → DevUnit) : (s.modDev f).sched = s.sched := rfl
@[simp] theorem State.modDev_loop (s : State) (f : DevUnit → DevUnit) : (s.modDev f).loop = s.loop := rfl
@[simp] theorem State.modDev_axis (s : State) (f : DevUnit → DevUnit) : (s.modDev f).axis = s.axis := rfl
@[simp] theorem State.modDev_adc (s : State) (f : DevUnit → DevUnit) : (s.modDev f).adc = s.adc := rfl
@[simp] theorem State.modDev_dio (s : State) (f : DevUnit → DevUnit) : (s.modDev f).dio = s.dio := rfl
@[simp] theorem State.modDev_acq (s : State) (f : DevUnit → DevUnit) : (s.modDev f).acq = s.acq := rfl
@[simp] theorem State.modDev_drove (s : State) (f : DevUnit → DevUnit) : (s.modDev f).drove = s.drove := rfl
@[simp] theorem State.modDev_can (s : State) (f : DevUnit → DevUnit) : (s.modDev f).can = s.can := rfl
@[simp] theorem State.modDev_net (s : State) (f : DevUnit → DevUnit) : (s.modDev f).net = s.net := rfl
@[simp] theorem State.modDev_isl (s : State) (f : DevUnit → DevUnit) : (s.modDev f).isl = s.isl := rfl
@[simp] theorem State.modDev_pair (s : State) (f : DevUnit → DevUnit) : (s.modDev f).pair = s.pair := rfl
@[simp] theorem State.modDev_keep (s : State) (f : DevUnit → DevUnit) : (s.modDev f).keep = s.keep := rfl
@[simp] theorem State.modCyc_now (s : State) (f : CycUnit → CycUnit) : (s.modCyc f).now = s.now := rfl
@[simp] theorem State.modCyc_timeStep (s : State) (f : CycUnit → CycUnit) : (s.modCyc f).timeStep = s.timeStep := rfl
@[simp] theorem State.modCyc_steer (s : State) (f : CycUnit → CycUnit) : (s.modCyc f).steer = s.steer := rfl
@[simp] theorem State.modCyc_pending (s : State) (f : CycUnit → CycUnit) : (s.modCyc f).pending = s.pending := rfl
@[simp] theorem State.modCyc_outbox (s : State) (f : CycUnit → CycUnit) : (s.modCyc f).outbox = s.outbox := rfl
@[simp] theorem State.modCyc_fresh (s : State) (f : CycUnit → CycUnit) : (s.modCyc f).fresh = s.fresh := rfl
@[simp] theorem State.modCyc_boot (s : State) (f : CycUnit → CycUnit) : (s.modCyc f).boot = s.boot := rfl
@[simp] theorem State.modCyc_dev (s : State) (f : CycUnit → CycUnit) : (s.modCyc f).dev = s.dev := rfl
@[simp] theorem State.modCyc_cyc (s : State) (f : CycUnit → CycUnit) : (s.modCyc f).cyc = f s.cyc := rfl
@[simp] theorem State.modCyc_host (s : State) (f : CycUnit → CycUnit) : (s.modCyc f).host = s.host := rfl
@[simp] theorem State.modCyc_mem (s : State) (f : CycUnit → CycUnit) : (s.modCyc f).mem = s.mem := rfl
@[simp] theorem State.modCyc_flt (s : State) (f : CycUnit → CycUnit) : (s.modCyc f).flt = s.flt := rfl
@[simp] theorem State.modCyc_tally (s : State) (f : CycUnit → CycUnit) : (s.modCyc f).tally = s.tally := rfl
@[simp] theorem State.modCyc_pwr (s : State) (f : CycUnit → CycUnit) : (s.modCyc f).pwr = s.pwr := rfl
@[simp] theorem State.modCyc_graph (s : State) (f : CycUnit → CycUnit) : (s.modCyc f).graph = s.graph := rfl
@[simp] theorem State.modCyc_sched (s : State) (f : CycUnit → CycUnit) : (s.modCyc f).sched = s.sched := rfl
@[simp] theorem State.modCyc_loop (s : State) (f : CycUnit → CycUnit) : (s.modCyc f).loop = s.loop := rfl
@[simp] theorem State.modCyc_axis (s : State) (f : CycUnit → CycUnit) : (s.modCyc f).axis = s.axis := rfl
@[simp] theorem State.modCyc_adc (s : State) (f : CycUnit → CycUnit) : (s.modCyc f).adc = s.adc := rfl
@[simp] theorem State.modCyc_dio (s : State) (f : CycUnit → CycUnit) : (s.modCyc f).dio = s.dio := rfl
@[simp] theorem State.modCyc_acq (s : State) (f : CycUnit → CycUnit) : (s.modCyc f).acq = s.acq := rfl
@[simp] theorem State.modCyc_drove (s : State) (f : CycUnit → CycUnit) : (s.modCyc f).drove = s.drove := rfl
@[simp] theorem State.modCyc_can (s : State) (f : CycUnit → CycUnit) : (s.modCyc f).can = s.can := rfl
@[simp] theorem State.modCyc_net (s : State) (f : CycUnit → CycUnit) : (s.modCyc f).net = s.net := rfl
@[simp] theorem State.modCyc_isl (s : State) (f : CycUnit → CycUnit) : (s.modCyc f).isl = s.isl := rfl
@[simp] theorem State.modCyc_pair (s : State) (f : CycUnit → CycUnit) : (s.modCyc f).pair = s.pair := rfl
@[simp] theorem State.modCyc_keep (s : State) (f : CycUnit → CycUnit) : (s.modCyc f).keep = s.keep := rfl
@[simp] theorem State.modHost_now (s : State) (f : HostUnit → HostUnit) : (s.modHost f).now = s.now := rfl
@[simp] theorem State.modHost_timeStep (s : State) (f : HostUnit → HostUnit) : (s.modHost f).timeStep = s.timeStep := rfl
@[simp] theorem State.modHost_steer (s : State) (f : HostUnit → HostUnit) : (s.modHost f).steer = s.steer := rfl
@[simp] theorem State.modHost_pending (s : State) (f : HostUnit → HostUnit) : (s.modHost f).pending = s.pending := rfl
@[simp] theorem State.modHost_outbox (s : State) (f : HostUnit → HostUnit) : (s.modHost f).outbox = s.outbox := rfl
@[simp] theorem State.modHost_fresh (s : State) (f : HostUnit → HostUnit) : (s.modHost f).fresh = s.fresh := rfl
@[simp] theorem State.modHost_boot (s : State) (f : HostUnit → HostUnit) : (s.modHost f).boot = s.boot := rfl
@[simp] theorem State.modHost_dev (s : State) (f : HostUnit → HostUnit) : (s.modHost f).dev = s.dev := rfl
@[simp] theorem State.modHost_cyc (s : State) (f : HostUnit → HostUnit) : (s.modHost f).cyc = s.cyc := rfl
@[simp] theorem State.modHost_host (s : State) (f : HostUnit → HostUnit) : (s.modHost f).host = f s.host := rfl
@[simp] theorem State.modHost_mem (s : State) (f : HostUnit → HostUnit) : (s.modHost f).mem = s.mem := rfl
@[simp] theorem State.modHost_flt (s : State) (f : HostUnit → HostUnit) : (s.modHost f).flt = s.flt := rfl
@[simp] theorem State.modHost_tally (s : State) (f : HostUnit → HostUnit) : (s.modHost f).tally = s.tally := rfl
@[simp] theorem State.modHost_pwr (s : State) (f : HostUnit → HostUnit) : (s.modHost f).pwr = s.pwr := rfl
@[simp] theorem State.modHost_graph (s : State) (f : HostUnit → HostUnit) : (s.modHost f).graph = s.graph := rfl
@[simp] theorem State.modHost_sched (s : State) (f : HostUnit → HostUnit) : (s.modHost f).sched = s.sched := rfl
@[simp] theorem State.modHost_loop (s : State) (f : HostUnit → HostUnit) : (s.modHost f).loop = s.loop := rfl
@[simp] theorem State.modHost_axis (s : State) (f : HostUnit → HostUnit) : (s.modHost f).axis = s.axis := rfl
@[simp] theorem State.modHost_adc (s : State) (f : HostUnit → HostUnit) : (s.modHost f).adc = s.adc := rfl
@[simp] theorem State.modHost_dio (s : State) (f : HostUnit → HostUnit) : (s.modHost f).dio = s.dio := rfl
@[simp] theorem State.modHost_acq (s : State) (f : HostUnit → HostUnit) : (s.modHost f).acq = s.acq := rfl
@[simp] theorem State.modHost_drove (s : State) (f : HostUnit → HostUnit) : (s.modHost f).drove = s.drove := rfl
@[simp] theorem State.modHost_can (s : State) (f : HostUnit → HostUnit) : (s.modHost f).can = s.can := rfl
@[simp] theorem State.modHost_net (s : State) (f : HostUnit → HostUnit) : (s.modHost f).net = s.net := rfl
@[simp] theorem State.modHost_isl (s : State) (f : HostUnit → HostUnit) : (s.modHost f).isl = s.isl := rfl
@[simp] theorem State.modHost_pair (s : State) (f : HostUnit → HostUnit) : (s.modHost f).pair = s.pair := rfl
@[simp] theorem State.modHost_keep (s : State) (f : HostUnit → HostUnit) : (s.modHost f).keep = s.keep := rfl
@[simp] theorem State.modMem_now (s : State) (f : MemUnit → MemUnit) : (s.modMem f).now = s.now := rfl
@[simp] theorem State.modMem_timeStep (s : State) (f : MemUnit → MemUnit) : (s.modMem f).timeStep = s.timeStep := rfl
@[simp] theorem State.modMem_steer (s : State) (f : MemUnit → MemUnit) : (s.modMem f).steer = s.steer := rfl
@[simp] theorem State.modMem_pending (s : State) (f : MemUnit → MemUnit) : (s.modMem f).pending = s.pending := rfl
@[simp] theorem State.modMem_outbox (s : State) (f : MemUnit → MemUnit) : (s.modMem f).outbox = s.outbox := rfl
@[simp] theorem State.modMem_fresh (s : State) (f : MemUnit → MemUnit) : (s.modMem f).fresh = s.fresh := rfl
@[simp] theorem State.modMem_boot (s : State) (f : MemUnit → MemUnit) : (s.modMem f).boot = s.boot := rfl
@[simp] theorem State.modMem_dev (s : State) (f : MemUnit → MemUnit) : (s.modMem f).dev = s.dev := rfl
@[simp] theorem State.modMem_cyc (s : State) (f : MemUnit → MemUnit) : (s.modMem f).cyc = s.cyc := rfl
@[simp] theorem State.modMem_host (s : State) (f : MemUnit → MemUnit) : (s.modMem f).host = s.host := rfl
@[simp] theorem State.modMem_mem (s : State) (f : MemUnit → MemUnit) : (s.modMem f).mem = f s.mem := rfl
@[simp] theorem State.modMem_flt (s : State) (f : MemUnit → MemUnit) : (s.modMem f).flt = s.flt := rfl
@[simp] theorem State.modMem_tally (s : State) (f : MemUnit → MemUnit) : (s.modMem f).tally = s.tally := rfl
@[simp] theorem State.modMem_pwr (s : State) (f : MemUnit → MemUnit) : (s.modMem f).pwr = s.pwr := rfl
@[simp] theorem State.modMem_graph (s : State) (f : MemUnit → MemUnit) : (s.modMem f).graph = s.graph := rfl
@[simp] theorem State.modMem_sched (s : State) (f : MemUnit → MemUnit) : (s.modMem f).sched = s.sched := rfl
@[simp] theorem State.modMem_loop (s : State) (f : MemUnit → MemUnit) : (s.modMem f).loop = s.loop := rfl
@[simp] theorem State.modMem_axis (s : State) (f : MemUnit → MemUnit) : (s.modMem f).axis = s.axis := rfl
@[simp] theorem State.modMem_adc (s : State) (f : MemUnit → MemUnit) : (s.modMem f).adc = s.adc := rfl
@[simp] theorem State.modMem_dio (s : State) (f : MemUnit → MemUnit) : (s.modMem f).dio = s.dio := rfl
@[simp] theorem State.modMem_acq (s : State) (f : MemUnit → MemUnit) : (s.modMem f).acq = s.acq := rfl
@[simp] theorem State.modMem_drove (s : State) (f : MemUnit → MemUnit) : (s.modMem f).drove = s.drove := rfl
@[simp] theorem State.modMem_can (s : State) (f : MemUnit → MemUnit) : (s.modMem f).can = s.can := rfl
@[simp] theorem State.modMem_net (s : State) (f : MemUnit → MemUnit) : (s.modMem f).net = s.net := rfl
@[simp] theorem State.modMem_isl (s : State) (f : MemUnit → MemUnit) : (s.modMem f).isl = s.isl := rfl
@[simp] theorem State.modMem_pair (s : State) (f : MemUnit → MemUnit) : (s.modMem f).pair = s.pair := rfl
@[simp] theorem State.modMem_keep (s : State) (f : MemUnit → MemUnit) : (s.modMem f).keep = s.keep := rfl
@[simp] theorem State.modFlt_now (s : State) (f : FaultUnit → FaultUnit) : (s.modFlt f).now = s.now := rfl
@[simp] theorem State.modFlt_timeStep (s : State) (f : FaultUnit → FaultUnit) : (s.modFlt f).timeStep = s.timeStep := rfl
@[simp] theorem State.modFlt_steer (s : State) (f : FaultUnit → FaultUnit) : (s.modFlt f).steer = s.steer := rfl
@[simp] theorem State.modFlt_pending (s : State) (f : FaultUnit → FaultUnit) : (s.modFlt f).pending = s.pending := rfl
@[simp] theorem State.modFlt_outbox (s : State) (f : FaultUnit → FaultUnit) : (s.modFlt f).outbox = s.outbox := rfl
@[simp] theorem State.modFlt_fresh (s : State) (f : FaultUnit → FaultUnit) : (s.modFlt f).fresh = s.fresh := rfl
@[simp] theorem State.modFlt_boot (s : State) (f : FaultUnit → FaultUnit) : (s.modFlt f).boot = s.boot := rfl
@[simp] theorem State.modFlt_dev (s : State) (f : FaultUnit → FaultUnit) : (s.modFlt f).dev = s.dev := rfl
@[simp] theorem State.modFlt_cyc (s : State) (f : FaultUnit → FaultUnit) : (s.modFlt f).cyc = s.cyc := rfl
@[simp] theorem State.modFlt_host (s : State) (f : FaultUnit → FaultUnit) : (s.modFlt f).host = s.host := rfl
@[simp] theorem State.modFlt_mem (s : State) (f : FaultUnit → FaultUnit) : (s.modFlt f).mem = s.mem := rfl
@[simp] theorem State.modFlt_flt (s : State) (f : FaultUnit → FaultUnit) : (s.modFlt f).flt = f s.flt := rfl
@[simp] theorem State.modFlt_tally (s : State) (f : FaultUnit → FaultUnit) : (s.modFlt f).tally = s.tally := rfl
@[simp] theorem State.modFlt_pwr (s : State) (f : FaultUnit → FaultUnit) : (s.modFlt f).pwr = s.pwr := rfl
@[simp] theorem State.modFlt_graph (s : State) (f : FaultUnit → FaultUnit) : (s.modFlt f).graph = s.graph := rfl
@[simp] theorem State.modFlt_sched (s : State) (f : FaultUnit → FaultUnit) : (s.modFlt f).sched = s.sched := rfl
@[simp] theorem State.modFlt_loop (s : State) (f : FaultUnit → FaultUnit) : (s.modFlt f).loop = s.loop := rfl
@[simp] theorem State.modFlt_axis (s : State) (f : FaultUnit → FaultUnit) : (s.modFlt f).axis = s.axis := rfl
@[simp] theorem State.modFlt_adc (s : State) (f : FaultUnit → FaultUnit) : (s.modFlt f).adc = s.adc := rfl
@[simp] theorem State.modFlt_dio (s : State) (f : FaultUnit → FaultUnit) : (s.modFlt f).dio = s.dio := rfl
@[simp] theorem State.modFlt_acq (s : State) (f : FaultUnit → FaultUnit) : (s.modFlt f).acq = s.acq := rfl
@[simp] theorem State.modFlt_drove (s : State) (f : FaultUnit → FaultUnit) : (s.modFlt f).drove = s.drove := rfl
@[simp] theorem State.modFlt_can (s : State) (f : FaultUnit → FaultUnit) : (s.modFlt f).can = s.can := rfl
@[simp] theorem State.modFlt_net (s : State) (f : FaultUnit → FaultUnit) : (s.modFlt f).net = s.net := rfl
@[simp] theorem State.modFlt_isl (s : State) (f : FaultUnit → FaultUnit) : (s.modFlt f).isl = s.isl := rfl
@[simp] theorem State.modFlt_pair (s : State) (f : FaultUnit → FaultUnit) : (s.modFlt f).pair = s.pair := rfl
@[simp] theorem State.modFlt_keep (s : State) (f : FaultUnit → FaultUnit) : (s.modFlt f).keep = s.keep := rfl
@[simp] theorem State.modTally_now (s : State) (f : TallyUnit → TallyUnit) : (s.modTally f).now = s.now := rfl
@[simp] theorem State.modTally_timeStep (s : State) (f : TallyUnit → TallyUnit) : (s.modTally f).timeStep = s.timeStep := rfl
@[simp] theorem State.modTally_steer (s : State) (f : TallyUnit → TallyUnit) : (s.modTally f).steer = s.steer := rfl
@[simp] theorem State.modTally_pending (s : State) (f : TallyUnit → TallyUnit) : (s.modTally f).pending = s.pending := rfl
@[simp] theorem State.modTally_outbox (s : State) (f : TallyUnit → TallyUnit) : (s.modTally f).outbox = s.outbox := rfl
@[simp] theorem State.modTally_fresh (s : State) (f : TallyUnit → TallyUnit) : (s.modTally f).fresh = s.fresh := rfl
@[simp] theorem State.modTally_boot (s : State) (f : TallyUnit → TallyUnit) : (s.modTally f).boot = s.boot := rfl
@[simp] theorem State.modTally_dev (s : State) (f : TallyUnit → TallyUnit) : (s.modTally f).dev = s.dev := rfl
@[simp] theorem State.modTally_cyc (s : State) (f : TallyUnit → TallyUnit) : (s.modTally f).cyc = s.cyc := rfl
@[simp] theorem State.modTally_host (s : State) (f : TallyUnit → TallyUnit) : (s.modTally f).host = s.host := rfl
@[simp] theorem State.modTally_mem (s : State) (f : TallyUnit → TallyUnit) : (s.modTally f).mem = s.mem := rfl
@[simp] theorem State.modTally_flt (s : State) (f : TallyUnit → TallyUnit) : (s.modTally f).flt = s.flt := rfl
@[simp] theorem State.modTally_tally (s : State) (f : TallyUnit → TallyUnit) : (s.modTally f).tally = f s.tally := rfl
@[simp] theorem State.modTally_pwr (s : State) (f : TallyUnit → TallyUnit) : (s.modTally f).pwr = s.pwr := rfl
@[simp] theorem State.modTally_graph (s : State) (f : TallyUnit → TallyUnit) : (s.modTally f).graph = s.graph := rfl
@[simp] theorem State.modTally_sched (s : State) (f : TallyUnit → TallyUnit) : (s.modTally f).sched = s.sched := rfl
@[simp] theorem State.modTally_loop (s : State) (f : TallyUnit → TallyUnit) : (s.modTally f).loop = s.loop := rfl
@[simp] theorem State.modTally_axis (s : State) (f : TallyUnit → TallyUnit) : (s.modTally f).axis = s.axis := rfl
@[simp] theorem State.modTally_adc (s : State) (f : TallyUnit → TallyUnit) : (s.modTally f).adc = s.adc := rfl
@[simp] theorem State.modTally_dio (s : State) (f : TallyUnit → TallyUnit) : (s.modTally f).dio = s.dio := rfl
@[simp] theorem State.modTally_acq (s : State) (f : TallyUnit → TallyUnit) : (s.modTally f).acq = s.acq := rfl
@[simp] theorem State.modTally_drove (s : State) (f : TallyUnit → TallyUnit) : (s.modTally f).drove = s.drove := rfl
@[simp] theorem State.modTally_can (s : State) (f : TallyUnit → TallyUnit) : (s.modTally f).can = s.can := rfl
@[simp] theorem State.modTally_net (s : State) (f : TallyUnit → TallyUnit) : (s.modTally f).net = s.net := rfl
@[simp] theorem State.modTally_isl (s : State) (f : TallyUnit → TallyUnit) : (s.modTally f).isl = s.isl := rfl
@[simp] theorem State.modTally_pair (s : State) (f : TallyUnit → TallyUnit) : (s.modTally f).pair = s.pair := rfl
@[simp] theorem State.modTally_keep (s : State) (f : TallyUnit → TallyUnit) : (s.modTally f).keep = s.keep := rfl
@[simp] theorem State.modPwr_now (s : State) (f : PwrUnit → PwrUnit) : (s.modPwr f).now = s.now := rfl
@[simp] theorem State.modPwr_timeStep (s : State) (f : PwrUnit → PwrUnit) : (s.modPwr f).timeStep = s.timeStep := rfl
@[simp] theorem State.modPwr_steer (s : State) (f : PwrUnit → PwrUnit) : (s.modPwr f).steer = s.steer := rfl
@[simp] theorem State.modPwr_pending (s : State) (f : PwrUnit → PwrUnit) : (s.modPwr f).pending = s.pending := rfl
@[simp] theorem State.modPwr_outbox (s : State) (f : PwrUnit → PwrUnit) : (s.modPwr f).outbox = s.outbox := rfl
@[simp] theorem State.modPwr_fresh (s : State) (f : PwrUnit → PwrUnit) : (s.modPwr f).fresh = s.fresh := rfl
@[simp] theorem State.modPwr_boot (s : State) (f : PwrUnit → PwrUnit) : (s.modPwr f).boot = s.boot := rfl
@[simp] theorem State.modPwr_dev (s : State) (f : PwrUnit → PwrUnit) : (s.modPwr f).dev = s.dev := rfl
@[simp] theorem State.modPwr_cyc (s : State) (f : PwrUnit → PwrUnit) : (s.modPwr f).cyc = s.cyc := rfl
@[simp] theorem State.modPwr_host (s : State) (f : PwrUnit → PwrUnit) : (s.modPwr f).host = s.host := rfl
@[simp] theorem State.modPwr_mem (s : State) (f : PwrUnit → PwrUnit) : (s.modPwr f).mem = s.mem := rfl
@[simp] theorem State.modPwr_flt (s : State) (f : PwrUnit → PwrUnit) : (s.modPwr f).flt = s.flt := rfl
@[simp] theorem State.modPwr_tally (s : State) (f : PwrUnit → PwrUnit) : (s.modPwr f).tally = s.tally := rfl
@[simp] theorem State.modPwr_pwr (s : State) (f : PwrUnit → PwrUnit) : (s.modPwr f).pwr = f s.pwr := rfl
@[simp] theorem State.modPwr_graph (s : State) (f : PwrUnit → PwrUnit) : (s.modPwr f).graph = s.graph := rfl
@[simp] theorem State.modPwr_sched (s : State) (f : PwrUnit → PwrUnit) : (s.modPwr f).sched = s.sched := rfl
@[simp] theorem State.modPwr_loop (s : State) (f : PwrUnit → PwrUnit) : (s.modPwr f).loop = s.loop := rfl
@[simp] theorem State.modPwr_axis (s : State) (f : PwrUnit → PwrUnit) : (s.modPwr f).axis = s.axis := rfl
@[simp] theorem State.modPwr_adc (s : State) (f : PwrUnit → PwrUnit) : (s.modPwr f).adc = s.adc := rfl
@[simp] theorem State.modPwr_dio (s : State) (f : PwrUnit → PwrUnit) : (s.modPwr f).dio = s.dio := rfl
@[simp] theorem State.modPwr_acq (s : State) (f : PwrUnit → PwrUnit) : (s.modPwr f).acq = s.acq := rfl
@[simp] theorem State.modPwr_drove (s : State) (f : PwrUnit → PwrUnit) : (s.modPwr f).drove = s.drove := rfl
@[simp] theorem State.modPwr_can (s : State) (f : PwrUnit → PwrUnit) : (s.modPwr f).can = s.can := rfl
@[simp] theorem State.modPwr_net (s : State) (f : PwrUnit → PwrUnit) : (s.modPwr f).net = s.net := rfl
@[simp] theorem State.modPwr_isl (s : State) (f : PwrUnit → PwrUnit) : (s.modPwr f).isl = s.isl := rfl
@[simp] theorem State.modPwr_pair (s : State) (f : PwrUnit → PwrUnit) : (s.modPwr f).pair = s.pair := rfl
@[simp] theorem State.modPwr_keep (s : State) (f : PwrUnit → PwrUnit) : (s.modPwr f).keep = s.keep := rfl
@[simp] theorem State.modGraph_now (s : State) (f : GraphUnit → GraphUnit) : (s.modGraph f).now = s.now := rfl
@[simp] theorem State.modGraph_timeStep (s : State) (f : GraphUnit → GraphUnit) : (s.modGraph f).timeStep = s.timeStep := rfl
@[simp] theorem State.modGraph_steer (s : State) (f : GraphUnit → GraphUnit) : (s.modGraph f).steer = s.steer := rfl
@[simp] theorem State.modGraph_pending (s : State) (f : GraphUnit → GraphUnit) : (s.modGraph f).pending = s.pending := rfl
@[simp] theorem State.modGraph_outbox (s : State) (f : GraphUnit → GraphUnit) : (s.modGraph f).outbox = s.outbox := rfl
@[simp] theorem State.modGraph_fresh (s : State) (f : GraphUnit → GraphUnit) : (s.modGraph f).fresh = s.fresh := rfl
@[simp] theorem State.modGraph_boot (s : State) (f : GraphUnit → GraphUnit) : (s.modGraph f).boot = s.boot := rfl
@[simp] theorem State.modGraph_dev (s : State) (f : GraphUnit → GraphUnit) : (s.modGraph f).dev = s.dev := rfl
@[simp] theorem State.modGraph_cyc (s : State) (f : GraphUnit → GraphUnit) : (s.modGraph f).cyc = s.cyc := rfl
@[simp] theorem State.modGraph_host (s : State) (f : GraphUnit → GraphUnit) : (s.modGraph f).host = s.host := rfl
@[simp] theorem State.modGraph_mem (s : State) (f : GraphUnit → GraphUnit) : (s.modGraph f).mem = s.mem := rfl
@[simp] theorem State.modGraph_flt (s : State) (f : GraphUnit → GraphUnit) : (s.modGraph f).flt = s.flt := rfl
@[simp] theorem State.modGraph_tally (s : State) (f : GraphUnit → GraphUnit) : (s.modGraph f).tally = s.tally := rfl
@[simp] theorem State.modGraph_pwr (s : State) (f : GraphUnit → GraphUnit) : (s.modGraph f).pwr = s.pwr := rfl
@[simp] theorem State.modGraph_graph (s : State) (f : GraphUnit → GraphUnit) : (s.modGraph f).graph = f s.graph := rfl
@[simp] theorem State.modGraph_sched (s : State) (f : GraphUnit → GraphUnit) : (s.modGraph f).sched = s.sched := rfl
@[simp] theorem State.modGraph_loop (s : State) (f : GraphUnit → GraphUnit) : (s.modGraph f).loop = s.loop := rfl
@[simp] theorem State.modGraph_axis (s : State) (f : GraphUnit → GraphUnit) : (s.modGraph f).axis = s.axis := rfl
@[simp] theorem State.modGraph_adc (s : State) (f : GraphUnit → GraphUnit) : (s.modGraph f).adc = s.adc := rfl
@[simp] theorem State.modGraph_dio (s : State) (f : GraphUnit → GraphUnit) : (s.modGraph f).dio = s.dio := rfl
@[simp] theorem State.modGraph_acq (s : State) (f : GraphUnit → GraphUnit) : (s.modGraph f).acq = s.acq := rfl
@[simp] theorem State.modGraph_drove (s : State) (f : GraphUnit → GraphUnit) : (s.modGraph f).drove = s.drove := rfl
@[simp] theorem State.modGraph_can (s : State) (f : GraphUnit → GraphUnit) : (s.modGraph f).can = s.can := rfl
@[simp] theorem State.modGraph_net (s : State) (f : GraphUnit → GraphUnit) : (s.modGraph f).net = s.net := rfl
@[simp] theorem State.modGraph_isl (s : State) (f : GraphUnit → GraphUnit) : (s.modGraph f).isl = s.isl := rfl
@[simp] theorem State.modGraph_pair (s : State) (f : GraphUnit → GraphUnit) : (s.modGraph f).pair = s.pair := rfl
@[simp] theorem State.modGraph_keep (s : State) (f : GraphUnit → GraphUnit) : (s.modGraph f).keep = s.keep := rfl
@[simp] theorem State.modSched_now (s : State) (f : SchedUnit → SchedUnit) : (s.modSched f).now = s.now := rfl
@[simp] theorem State.modSched_timeStep (s : State) (f : SchedUnit → SchedUnit) : (s.modSched f).timeStep = s.timeStep := rfl
@[simp] theorem State.modSched_steer (s : State) (f : SchedUnit → SchedUnit) : (s.modSched f).steer = s.steer := rfl
@[simp] theorem State.modSched_pending (s : State) (f : SchedUnit → SchedUnit) : (s.modSched f).pending = s.pending := rfl
@[simp] theorem State.modSched_outbox (s : State) (f : SchedUnit → SchedUnit) : (s.modSched f).outbox = s.outbox := rfl
@[simp] theorem State.modSched_fresh (s : State) (f : SchedUnit → SchedUnit) : (s.modSched f).fresh = s.fresh := rfl
@[simp] theorem State.modSched_boot (s : State) (f : SchedUnit → SchedUnit) : (s.modSched f).boot = s.boot := rfl
@[simp] theorem State.modSched_dev (s : State) (f : SchedUnit → SchedUnit) : (s.modSched f).dev = s.dev := rfl
@[simp] theorem State.modSched_cyc (s : State) (f : SchedUnit → SchedUnit) : (s.modSched f).cyc = s.cyc := rfl
@[simp] theorem State.modSched_host (s : State) (f : SchedUnit → SchedUnit) : (s.modSched f).host = s.host := rfl
@[simp] theorem State.modSched_mem (s : State) (f : SchedUnit → SchedUnit) : (s.modSched f).mem = s.mem := rfl
@[simp] theorem State.modSched_flt (s : State) (f : SchedUnit → SchedUnit) : (s.modSched f).flt = s.flt := rfl
@[simp] theorem State.modSched_tally (s : State) (f : SchedUnit → SchedUnit) : (s.modSched f).tally = s.tally := rfl
@[simp] theorem State.modSched_pwr (s : State) (f : SchedUnit → SchedUnit) : (s.modSched f).pwr = s.pwr := rfl
@[simp] theorem State.modSched_graph (s : State) (f : SchedUnit → SchedUnit) : (s.modSched f).graph = s.graph := rfl
@[simp] theorem State.modSched_sched (s : State) (f : SchedUnit → SchedUnit) : (s.modSched f).sched = f s.sched := rfl
@[simp] theorem State.modSched_loop (s : State) (f : SchedUnit → SchedUnit) : (s.modSched f).loop = s.loop := rfl
@[simp] theorem State.modSched_axis (s : State) (f : SchedUnit → SchedUnit) : (s.modSched f).axis = s.axis := rfl
@[simp] theorem State.modSched_adc (s : State) (f : SchedUnit → SchedUnit) : (s.modSched f).adc = s.adc := rfl
@[simp] theorem State.modSched_dio (s : State) (f : SchedUnit → SchedUnit) : (s.modSched f).dio = s.dio := rfl
@[simp] theorem State.modSched_acq (s : State) (f : SchedUnit → SchedUnit) : (s.modSched f).acq = s.acq := rfl
@[simp] theorem State.modSched_drove (s : State) (f : SchedUnit → SchedUnit) : (s.modSched f).drove = s.drove := rfl
@[simp] theorem State.modSched_can (s : State) (f : SchedUnit → SchedUnit) : (s.modSched f).can = s.can := rfl
@[simp] theorem State.modSched_net (s : State) (f : SchedUnit → SchedUnit) : (s.modSched f).net = s.net := rfl
@[simp] theorem State.modSched_isl (s : State) (f : SchedUnit → SchedUnit) : (s.modSched f).isl = s.isl := rfl
@[simp] theorem State.modSched_pair (s : State) (f : SchedUnit → SchedUnit) : (s.modSched f).pair = s.pair := rfl
@[simp] theorem State.modSched_keep (s : State) (f : SchedUnit → SchedUnit) : (s.modSched f).keep = s.keep := rfl
@[simp] theorem State.modLoop_now (s : State) (f : LoopUnit → LoopUnit) : (s.modLoop f).now = s.now := rfl
@[simp] theorem State.modLoop_timeStep (s : State) (f : LoopUnit → LoopUnit) : (s.modLoop f).timeStep = s.timeStep := rfl
@[simp] theorem State.modLoop_steer (s : State) (f : LoopUnit → LoopUnit) : (s.modLoop f).steer = s.steer := rfl
@[simp] theorem State.modLoop_pending (s : State) (f : LoopUnit → LoopUnit) : (s.modLoop f).pending = s.pending := rfl
@[simp] theorem State.modLoop_outbox (s : State) (f : LoopUnit → LoopUnit) : (s.modLoop f).outbox = s.outbox := rfl
@[simp] theorem State.modLoop_fresh (s : State) (f : LoopUnit → LoopUnit) : (s.modLoop f).fresh = s.fresh := rfl
@[simp] theorem State.modLoop_boot (s : State) (f : LoopUnit → LoopUnit) : (s.modLoop f).boot = s.boot := rfl
@[simp] theorem State.modLoop_dev (s : State) (f : LoopUnit → LoopUnit) : (s.modLoop f).dev = s.dev := rfl
@[simp] theorem State.modLoop_cyc (s : State) (f : LoopUnit → LoopUnit) : (s.modLoop f).cyc = s.cyc := rfl
@[simp] theorem State.modLoop_host (s : State) (f : LoopUnit → LoopUnit) : (s.modLoop f).host = s.host := rfl
@[simp] theorem State.modLoop_mem (s : State) (f : LoopUnit → LoopUnit) : (s.modLoop f).mem = s.mem := rfl
@[simp] theorem State.modLoop_flt (s : State) (f : LoopUnit → LoopUnit) : (s.modLoop f).flt = s.flt := rfl
@[simp] theorem State.modLoop_tally (s : State) (f : LoopUnit → LoopUnit) : (s.modLoop f).tally = s.tally := rfl
@[simp] theorem State.modLoop_pwr (s : State) (f : LoopUnit → LoopUnit) : (s.modLoop f).pwr = s.pwr := rfl
@[simp] theorem State.modLoop_graph (s : State) (f : LoopUnit → LoopUnit) : (s.modLoop f).graph = s.graph := rfl
@[simp] theorem State.modLoop_sched (s : State) (f : LoopUnit → LoopUnit) : (s.modLoop f).sched = s.sched := rfl
@[simp] theorem State.modLoop_loop (s : State) (f : LoopUnit → LoopUnit) : (s.modLoop f).loop = f s.loop := rfl
@[simp] theorem State.modLoop_axis (s : State) (f : LoopUnit → LoopUnit) : (s.modLoop f).axis = s.axis := rfl
@[simp] theorem State.modLoop_adc (s : State) (f : LoopUnit → LoopUnit) : (s.modLoop f).adc = s.adc := rfl
@[simp] theorem State.modLoop_dio (s : State) (f : LoopUnit → LoopUnit) : (s.modLoop f).dio = s.dio := rfl
@[simp] theorem State.modLoop_acq (s : State) (f : LoopUnit → LoopUnit) : (s.modLoop f).acq = s.acq := rfl
@[simp] theorem State.modLoop_drove (s : State) (f : LoopUnit → LoopUnit) : (s.modLoop f).drove = s.drove := rfl
@[simp] theorem State.modLoop_can (s : State) (f : LoopUnit → LoopUnit) : (s.modLoop f).can = s.can := rfl
@[simp] theorem State.modLoop_net (s : State) (f : LoopUnit → LoopUnit) : (s.modLoop f).net = s.net := rfl
@[simp] theorem State.modLoop_isl (s : State) (f : LoopUnit → LoopUnit) : (s.modLoop f).isl = s.isl := rfl
@[simp] theorem State.modLoop_pair (s : State) (f : LoopUnit → LoopUnit) : (s.modLoop f).pair = s.pair := rfl
@[simp] theorem State.modLoop_keep (s : State) (f : LoopUnit → LoopUnit) : (s.modLoop f).keep = s.keep := rfl
@[simp] theorem State.modAxis_now (s : State) (f : AxisUnit → AxisUnit) : (s.modAxis f).now = s.now := rfl
@[simp] theorem State.modAxis_timeStep (s : State) (f : AxisUnit → AxisUnit) : (s.modAxis f).timeStep = s.timeStep := rfl
@[simp] theorem State.modAxis_steer (s : State) (f : AxisUnit → AxisUnit) : (s.modAxis f).steer = s.steer := rfl
@[simp] theorem State.modAxis_pending (s : State) (f : AxisUnit → AxisUnit) : (s.modAxis f).pending = s.pending := rfl
@[simp] theorem State.modAxis_outbox (s : State) (f : AxisUnit → AxisUnit) : (s.modAxis f).outbox = s.outbox := rfl
@[simp] theorem State.modAxis_fresh (s : State) (f : AxisUnit → AxisUnit) : (s.modAxis f).fresh = s.fresh := rfl
@[simp] theorem State.modAxis_boot (s : State) (f : AxisUnit → AxisUnit) : (s.modAxis f).boot = s.boot := rfl
@[simp] theorem State.modAxis_dev (s : State) (f : AxisUnit → AxisUnit) : (s.modAxis f).dev = s.dev := rfl
@[simp] theorem State.modAxis_cyc (s : State) (f : AxisUnit → AxisUnit) : (s.modAxis f).cyc = s.cyc := rfl
@[simp] theorem State.modAxis_host (s : State) (f : AxisUnit → AxisUnit) : (s.modAxis f).host = s.host := rfl
@[simp] theorem State.modAxis_mem (s : State) (f : AxisUnit → AxisUnit) : (s.modAxis f).mem = s.mem := rfl
@[simp] theorem State.modAxis_flt (s : State) (f : AxisUnit → AxisUnit) : (s.modAxis f).flt = s.flt := rfl
@[simp] theorem State.modAxis_tally (s : State) (f : AxisUnit → AxisUnit) : (s.modAxis f).tally = s.tally := rfl
@[simp] theorem State.modAxis_pwr (s : State) (f : AxisUnit → AxisUnit) : (s.modAxis f).pwr = s.pwr := rfl
@[simp] theorem State.modAxis_graph (s : State) (f : AxisUnit → AxisUnit) : (s.modAxis f).graph = s.graph := rfl
@[simp] theorem State.modAxis_sched (s : State) (f : AxisUnit → AxisUnit) : (s.modAxis f).sched = s.sched := rfl
@[simp] theorem State.modAxis_loop (s : State) (f : AxisUnit → AxisUnit) : (s.modAxis f).loop = s.loop := rfl
@[simp] theorem State.modAxis_axis (s : State) (f : AxisUnit → AxisUnit) : (s.modAxis f).axis = f s.axis := rfl
@[simp] theorem State.modAxis_adc (s : State) (f : AxisUnit → AxisUnit) : (s.modAxis f).adc = s.adc := rfl
@[simp] theorem State.modAxis_dio (s : State) (f : AxisUnit → AxisUnit) : (s.modAxis f).dio = s.dio := rfl
@[simp] theorem State.modAxis_acq (s : State) (f : AxisUnit → AxisUnit) : (s.modAxis f).acq = s.acq := rfl
@[simp] theorem State.modAxis_drove (s : State) (f : AxisUnit → AxisUnit) : (s.modAxis f).drove = s.drove := rfl
@[simp] theorem State.modAxis_can (s : State) (f : AxisUnit → AxisUnit) : (s.modAxis f).can = s.can := rfl
@[simp] theorem State.modAxis_net (s : State) (f : AxisUnit → AxisUnit) : (s.modAxis f).net = s.net := rfl
@[simp] theorem State.modAxis_isl (s : State) (f : AxisUnit → AxisUnit) : (s.modAxis f).isl = s.isl := rfl
@[simp] theorem State.modAxis_pair (s : State) (f : AxisUnit → AxisUnit) : (s.modAxis f).pair = s.pair := rfl
@[simp] theorem State.modAxis_keep (s : State) (f : AxisUnit → AxisUnit) : (s.modAxis f).keep = s.keep := rfl
@[simp] theorem State.modAdc_now (s : State) (f : AdcUnit → AdcUnit) : (s.modAdc f).now = s.now := rfl
@[simp] theorem State.modAdc_timeStep (s : State) (f : AdcUnit → AdcUnit) : (s.modAdc f).timeStep = s.timeStep := rfl
@[simp] theorem State.modAdc_steer (s : State) (f : AdcUnit → AdcUnit) : (s.modAdc f).steer = s.steer := rfl
@[simp] theorem State.modAdc_pending (s : State) (f : AdcUnit → AdcUnit) : (s.modAdc f).pending = s.pending := rfl
@[simp] theorem State.modAdc_outbox (s : State) (f : AdcUnit → AdcUnit) : (s.modAdc f).outbox = s.outbox := rfl
@[simp] theorem State.modAdc_fresh (s : State) (f : AdcUnit → AdcUnit) : (s.modAdc f).fresh = s.fresh := rfl
@[simp] theorem State.modAdc_boot (s : State) (f : AdcUnit → AdcUnit) : (s.modAdc f).boot = s.boot := rfl
@[simp] theorem State.modAdc_dev (s : State) (f : AdcUnit → AdcUnit) : (s.modAdc f).dev = s.dev := rfl
@[simp] theorem State.modAdc_cyc (s : State) (f : AdcUnit → AdcUnit) : (s.modAdc f).cyc = s.cyc := rfl
@[simp] theorem State.modAdc_host (s : State) (f : AdcUnit → AdcUnit) : (s.modAdc f).host = s.host := rfl
@[simp] theorem State.modAdc_mem (s : State) (f : AdcUnit → AdcUnit) : (s.modAdc f).mem = s.mem := rfl
@[simp] theorem State.modAdc_flt (s : State) (f : AdcUnit → AdcUnit) : (s.modAdc f).flt = s.flt := rfl
@[simp] theorem State.modAdc_tally (s : State) (f : AdcUnit → AdcUnit) : (s.modAdc f).tally = s.tally := rfl
@[simp] theorem State.modAdc_pwr (s : State) (f : AdcUnit → AdcUnit) : (s.modAdc f).pwr = s.pwr := rfl
@[simp] theorem State.modAdc_graph (s : State) (f : AdcUnit → AdcUnit) : (s.modAdc f).graph = s.graph := rfl
@[simp] theorem State.modAdc_sched (s : State) (f : AdcUnit → AdcUnit) : (s.modAdc f).sched = s.sched := rfl
@[simp] theorem State.modAdc_loop (s : State) (f : AdcUnit → AdcUnit) : (s.modAdc f).loop = s.loop := rfl
@[simp] theorem State.modAdc_axis (s : State) (f : AdcUnit → AdcUnit) : (s.modAdc f).axis = s.axis := rfl
@[simp] theorem State.modAdc_adc (s : State) (f : AdcUnit → AdcUnit) : (s.modAdc f).adc = f s.adc := rfl
@[simp] theorem State.modAdc_dio (s : State) (f : AdcUnit → AdcUnit) : (s.modAdc f).dio = s.dio := rfl
@[simp] theorem State.modAdc_acq (s : State) (f : AdcUnit → AdcUnit) : (s.modAdc f).acq = s.acq := rfl
@[simp] theorem State.modAdc_drove (s : State) (f : AdcUnit → AdcUnit) : (s.modAdc f).drove = s.drove := rfl
@[simp] theorem State.modAdc_can (s : State) (f : AdcUnit → AdcUnit) : (s.modAdc f).can = s.can := rfl
@[simp] theorem State.modAdc_net (s : State) (f : AdcUnit → AdcUnit) : (s.modAdc f).net = s.net := rfl
@[simp] theorem State.modAdc_isl (s : State) (f : AdcUnit → AdcUnit) : (s.modAdc f).isl = s.isl := rfl
@[simp] theorem State.modAdc_pair (s : State) (f : AdcUnit → AdcUnit) : (s.modAdc f).pair = s.pair := rfl
@[simp] theorem State.modAdc_keep (s : State) (f : AdcUnit → AdcUnit) : (s.modAdc f).keep = s.keep := rfl
@[simp] theorem State.modDio_now (s : State) (f : DioUnit → DioUnit) : (s.modDio f).now = s.now := rfl
@[simp] theorem State.modDio_timeStep (s : State) (f : DioUnit → DioUnit) : (s.modDio f).timeStep = s.timeStep := rfl
@[simp] theorem State.modDio_steer (s : State) (f : DioUnit → DioUnit) : (s.modDio f).steer = s.steer := rfl
@[simp] theorem State.modDio_pending (s : State) (f : DioUnit → DioUnit) : (s.modDio f).pending = s.pending := rfl
@[simp] theorem State.modDio_outbox (s : State) (f : DioUnit → DioUnit) : (s.modDio f).outbox = s.outbox := rfl
@[simp] theorem State.modDio_fresh (s : State) (f : DioUnit → DioUnit) : (s.modDio f).fresh = s.fresh := rfl
@[simp] theorem State.modDio_boot (s : State) (f : DioUnit → DioUnit) : (s.modDio f).boot = s.boot := rfl
@[simp] theorem State.modDio_dev (s : State) (f : DioUnit → DioUnit) : (s.modDio f).dev = s.dev := rfl
@[simp] theorem State.modDio_cyc (s : State) (f : DioUnit → DioUnit) : (s.modDio f).cyc = s.cyc := rfl
@[simp] theorem State.modDio_host (s : State) (f : DioUnit → DioUnit) : (s.modDio f).host = s.host := rfl
@[simp] theorem State.modDio_mem (s : State) (f : DioUnit → DioUnit) : (s.modDio f).mem = s.mem := rfl
@[simp] theorem State.modDio_flt (s : State) (f : DioUnit → DioUnit) : (s.modDio f).flt = s.flt := rfl
@[simp] theorem State.modDio_tally (s : State) (f : DioUnit → DioUnit) : (s.modDio f).tally = s.tally := rfl
@[simp] theorem State.modDio_pwr (s : State) (f : DioUnit → DioUnit) : (s.modDio f).pwr = s.pwr := rfl
@[simp] theorem State.modDio_graph (s : State) (f : DioUnit → DioUnit) : (s.modDio f).graph = s.graph := rfl
@[simp] theorem State.modDio_sched (s : State) (f : DioUnit → DioUnit) : (s.modDio f).sched = s.sched := rfl
@[simp] theorem State.modDio_loop (s : State) (f : DioUnit → DioUnit) : (s.modDio f).loop = s.loop := rfl
@[simp] theorem State.modDio_axis (s : State) (f : DioUnit → DioUnit) : (s.modDio f).axis = s.axis := rfl
@[simp] theorem State.modDio_adc (s : State) (f : DioUnit → DioUnit) : (s.modDio f).adc = s.adc := rfl
@[simp] theorem State.modDio_dio (s : State) (f : DioUnit → DioUnit) : (s.modDio f).dio = f s.dio := rfl
@[simp] theorem State.modDio_acq (s : State) (f : DioUnit → DioUnit) : (s.modDio f).acq = s.acq := rfl
@[simp] theorem State.modDio_drove (s : State) (f : DioUnit → DioUnit) : (s.modDio f).drove = s.drove := rfl
@[simp] theorem State.modDio_can (s : State) (f : DioUnit → DioUnit) : (s.modDio f).can = s.can := rfl
@[simp] theorem State.modDio_net (s : State) (f : DioUnit → DioUnit) : (s.modDio f).net = s.net := rfl
@[simp] theorem State.modDio_isl (s : State) (f : DioUnit → DioUnit) : (s.modDio f).isl = s.isl := rfl
@[simp] theorem State.modDio_pair (s : State) (f : DioUnit → DioUnit) : (s.modDio f).pair = s.pair := rfl
@[simp] theorem State.modDio_keep (s : State) (f : DioUnit → DioUnit) : (s.modDio f).keep = s.keep := rfl
@[simp] theorem State.modAcq_now (s : State) (f : AcqUnit → AcqUnit) : (s.modAcq f).now = s.now := rfl
@[simp] theorem State.modAcq_timeStep (s : State) (f : AcqUnit → AcqUnit) : (s.modAcq f).timeStep = s.timeStep := rfl
@[simp] theorem State.modAcq_steer (s : State) (f : AcqUnit → AcqUnit) : (s.modAcq f).steer = s.steer := rfl
@[simp] theorem State.modAcq_pending (s : State) (f : AcqUnit → AcqUnit) : (s.modAcq f).pending = s.pending := rfl
@[simp] theorem State.modAcq_outbox (s : State) (f : AcqUnit → AcqUnit) : (s.modAcq f).outbox = s.outbox := rfl
@[simp] theorem State.modAcq_fresh (s : State) (f : AcqUnit → AcqUnit) : (s.modAcq f).fresh = s.fresh := rfl
@[simp] theorem State.modAcq_boot (s : State) (f : AcqUnit → AcqUnit) : (s.modAcq f).boot = s.boot := rfl
@[simp] theorem State.modAcq_dev (s : State) (f : AcqUnit → AcqUnit) : (s.modAcq f).dev = s.dev := rfl
@[simp] theorem State.modAcq_cyc (s : State) (f : AcqUnit → AcqUnit) : (s.modAcq f).cyc = s.cyc := rfl
@[simp] theorem State.modAcq_host (s : State) (f : AcqUnit → AcqUnit) : (s.modAcq f).host = s.host := rfl
@[simp] theorem State.modAcq_mem (s : State) (f : AcqUnit → AcqUnit) : (s.modAcq f).mem = s.mem := rfl
@[simp] theorem State.modAcq_flt (s : State) (f : AcqUnit → AcqUnit) : (s.modAcq f).flt = s.flt := rfl
@[simp] theorem State.modAcq_tally (s : State) (f : AcqUnit → AcqUnit) : (s.modAcq f).tally = s.tally := rfl
@[simp] theorem State.modAcq_pwr (s : State) (f : AcqUnit → AcqUnit) : (s.modAcq f).pwr = s.pwr := rfl
@[simp] theorem State.modAcq_graph (s : State) (f : AcqUnit → AcqUnit) : (s.modAcq f).graph = s.graph := rfl
@[simp] theorem State.modAcq_sched (s : State) (f : AcqUnit → AcqUnit) : (s.modAcq f).sched = s.sched := rfl
@[simp] theorem State.modAcq_loop (s : State) (f : AcqUnit → AcqUnit) : (s.modAcq f).loop = s.loop := rfl
@[simp] theorem State.modAcq_axis (s : State) (f : AcqUnit → AcqUnit) : (s.modAcq f).axis = s.axis := rfl
@[simp] theorem State.modAcq_adc (s : State) (f : AcqUnit → AcqUnit) : (s.modAcq f).adc = s.adc := rfl
@[simp] theorem State.modAcq_dio (s : State) (f : AcqUnit → AcqUnit) : (s.modAcq f).dio = s.dio := rfl
@[simp] theorem State.modAcq_acq (s : State) (f : AcqUnit → AcqUnit) : (s.modAcq f).acq = f s.acq := rfl
@[simp] theorem State.modAcq_drove (s : State) (f : AcqUnit → AcqUnit) : (s.modAcq f).drove = s.drove := rfl
@[simp] theorem State.modAcq_can (s : State) (f : AcqUnit → AcqUnit) : (s.modAcq f).can = s.can := rfl
@[simp] theorem State.modAcq_net (s : State) (f : AcqUnit → AcqUnit) : (s.modAcq f).net = s.net := rfl
@[simp] theorem State.modAcq_isl (s : State) (f : AcqUnit → AcqUnit) : (s.modAcq f).isl = s.isl := rfl
@[simp] theorem State.modAcq_pair (s : State) (f : AcqUnit → AcqUnit) : (s.modAcq f).pair = s.pair := rfl
@[simp] theorem State.modAcq_keep (s : State) (f : AcqUnit → AcqUnit) : (s.modAcq f).keep = s.keep := rfl
@[simp] theorem State.modDrove_now (s : State) (f : DroveUnit → DroveUnit) : (s.modDrove f).now = s.now := rfl
@[simp] theorem State.modDrove_timeStep (s : State) (f : DroveUnit → DroveUnit) : (s.modDrove f).timeStep = s.timeStep := rfl
@[simp] theorem State.modDrove_steer (s : State) (f : DroveUnit → DroveUnit) : (s.modDrove f).steer = s.steer := rfl
@[simp] theorem State.modDrove_pending (s : State) (f : DroveUnit → DroveUnit) : (s.modDrove f).pending = s.pending := rfl
@[simp] theorem State.modDrove_outbox (s : State) (f : DroveUnit → DroveUnit) : (s.modDrove f).outbox = s.outbox := rfl
@[simp] theorem State.modDrove_fresh (s : State) (f : DroveUnit → DroveUnit) : (s.modDrove f).fresh = s.fresh := rfl
@[simp] theorem State.modDrove_boot (s : State) (f : DroveUnit → DroveUnit) : (s.modDrove f).boot = s.boot := rfl
@[simp] theorem State.modDrove_dev (s : State) (f : DroveUnit → DroveUnit) : (s.modDrove f).dev = s.dev := rfl
@[simp] theorem State.modDrove_cyc (s : State) (f : DroveUnit → DroveUnit) : (s.modDrove f).cyc = s.cyc := rfl
@[simp] theorem State.modDrove_host (s : State) (f : DroveUnit → DroveUnit) : (s.modDrove f).host = s.host := rfl
@[simp] theorem State.modDrove_mem (s : State) (f : DroveUnit → DroveUnit) : (s.modDrove f).mem = s.mem := rfl
@[simp] theorem State.modDrove_flt (s : State) (f : DroveUnit → DroveUnit) : (s.modDrove f).flt = s.flt := rfl
@[simp] theorem State.modDrove_tally (s : State) (f : DroveUnit → DroveUnit) : (s.modDrove f).tally = s.tally := rfl
@[simp] theorem State.modDrove_pwr (s : State) (f : DroveUnit → DroveUnit) : (s.modDrove f).pwr = s.pwr := rfl
@[simp] theorem State.modDrove_graph (s : State) (f : DroveUnit → DroveUnit) : (s.modDrove f).graph = s.graph := rfl
@[simp] theorem State.modDrove_sched (s : State) (f : DroveUnit → DroveUnit) : (s.modDrove f).sched = s.sched := rfl
@[simp] theorem State.modDrove_loop (s : State) (f : DroveUnit → DroveUnit) : (s.modDrove f).loop = s.loop := rfl
@[simp] theorem State.modDrove_axis (s : State) (f : DroveUnit → DroveUnit) : (s.modDrove f).axis = s.axis := rfl
@[simp] theorem State.modDrove_adc (s : State) (f : DroveUnit → DroveUnit) : (s.modDrove f).adc = s.adc := rfl
@[simp] theorem State.modDrove_dio (s : State) (f : DroveUnit → DroveUnit) : (s.modDrove f).dio = s.dio := rfl
@[simp] theorem State.modDrove_acq (s : State) (f : DroveUnit → DroveUnit) : (s.modDrove f).acq = s.acq := rfl
@[simp] theorem State.modDrove_drove (s : State) (f : DroveUnit → DroveUnit) : (s.modDrove f).drove = f s.drove := rfl
@[simp] theorem State.modDrove_can (s : State) (f : DroveUnit → DroveUnit) : (s.modDrove f).can = s.can := rfl
@[simp] theorem State.modDrove_net (s : State) (f : DroveUnit → DroveUnit) : (s.modDrove f).net = s.net := rfl
@[simp] theorem State.modDrove_isl (s : State) (f : DroveUnit → DroveUnit) : (s.modDrove f).isl = s.isl := rfl
@[simp] theorem State.modDrove_pair (s : State) (f : DroveUnit → DroveUnit) : (s.modDrove f).pair = s.pair := rfl
@[simp] theorem State.modDrove_keep (s : State) (f : DroveUnit → DroveUnit) : (s.modDrove f).keep = s.keep := rfl
@[simp] theorem State.modCan_now (s : State) (f : CanUnit → CanUnit) : (s.modCan f).now = s.now := rfl
@[simp] theorem State.modCan_timeStep (s : State) (f : CanUnit → CanUnit) : (s.modCan f).timeStep = s.timeStep := rfl
@[simp] theorem State.modCan_steer (s : State) (f : CanUnit → CanUnit) : (s.modCan f).steer = s.steer := rfl
@[simp] theorem State.modCan_pending (s : State) (f : CanUnit → CanUnit) : (s.modCan f).pending = s.pending := rfl
@[simp] theorem State.modCan_outbox (s : State) (f : CanUnit → CanUnit) : (s.modCan f).outbox = s.outbox := rfl
@[simp] theorem State.modCan_fresh (s : State) (f : CanUnit → CanUnit) : (s.modCan f).fresh = s.fresh := rfl
@[simp] theorem State.modCan_boot (s : State) (f : CanUnit → CanUnit) : (s.modCan f).boot = s.boot := rfl
@[simp] theorem State.modCan_dev (s : State) (f : CanUnit → CanUnit) : (s.modCan f).dev = s.dev := rfl
@[simp] theorem State.modCan_cyc (s : State) (f : CanUnit → CanUnit) : (s.modCan f).cyc = s.cyc := rfl
@[simp] theorem State.modCan_host (s : State) (f : CanUnit → CanUnit) : (s.modCan f).host = s.host := rfl
@[simp] theorem State.modCan_mem (s : State) (f : CanUnit → CanUnit) : (s.modCan f).mem = s.mem := rfl
@[simp] theorem State.modCan_flt (s : State) (f : CanUnit → CanUnit) : (s.modCan f).flt = s.flt := rfl
@[simp] theorem State.modCan_tally (s : State) (f : CanUnit → CanUnit) : (s.modCan f).tally = s.tally := rfl
@[simp] theorem State.modCan_pwr (s : State) (f : CanUnit → CanUnit) : (s.modCan f).pwr = s.pwr := rfl
@[simp] theorem State.modCan_graph (s : State) (f : CanUnit → CanUnit) : (s.modCan f).graph = s.graph := rfl
@[simp] theorem State.modCan_sched (s : State) (f : CanUnit → CanUnit) : (s.modCan f).sched = s.sched := rfl
@[simp] theorem State.modCan_loop (s : State) (f : CanUnit → CanUnit) : (s.modCan f).loop = s.loop := rfl
@[simp] theorem State.modCan_axis (s : State) (f : CanUnit → CanUnit) : (s.modCan f).axis = s.axis := rfl
@[simp] theorem State.modCan_adc (s : State) (f : CanUnit → CanUnit) : (s.modCan f).adc = s.adc := rfl
@[simp] theorem State.modCan_dio (s : State) (f : CanUnit → CanUnit) : (s.modCan f).dio = s.dio := rfl
@[simp] theorem State.modCan_acq (s : State) (f : CanUnit → CanUnit) : (s.modCan f).acq = s.acq := rfl
@[simp] theorem State.modCan_drove (s : State) (f : CanUnit → CanUnit) : (s.modCan f).drove = s.drove := rfl
@[simp] theorem State.modCan_can (s : State) (f : CanUnit → CanUnit) : (s.modCan f).can = f s.can := rfl
@[simp] theorem State.modCan_net (s : State) (f : CanUnit → CanUnit) : (s.modCan f).net = s.net := rfl
@[simp] theorem State.modCan_isl (s : State) (f : CanUnit → CanUnit) : (s.modCan f).isl = s.isl := rfl
@[simp] theorem State.modCan_pair (s : State) (f : CanUnit → CanUnit) : (s.modCan f).pair = s.pair := rfl
@[simp] theorem State.modCan_keep (s : State) (f : CanUnit → CanUnit) : (s.modCan f).keep = s.keep := rfl
@[simp] theorem State.modNet_now (s : State) (f : NetUnit → NetUnit) : (s.modNet f).now = s.now := rfl
@[simp] theorem State.modNet_timeStep (s : State) (f : NetUnit → NetUnit) : (s.modNet f).timeStep = s.timeStep := rfl
@[simp] theorem State.modNet_steer (s : State) (f : NetUnit → NetUnit) : (s.modNet f).steer = s.steer := rfl
@[simp] theorem State.modNet_pending (s : State) (f : NetUnit → NetUnit) : (s.modNet f).pending = s.pending := rfl
@[simp] theorem State.modNet_outbox (s : State) (f : NetUnit → NetUnit) : (s.modNet f).outbox = s.outbox := rfl
@[simp] theorem State.modNet_fresh (s : State) (f : NetUnit → NetUnit) : (s.modNet f).fresh = s.fresh := rfl
@[simp] theorem State.modNet_boot (s : State) (f : NetUnit → NetUnit) : (s.modNet f).boot = s.boot := rfl
@[simp] theorem State.modNet_dev (s : State) (f : NetUnit → NetUnit) : (s.modNet f).dev = s.dev := rfl
@[simp] theorem State.modNet_cyc (s : State) (f : NetUnit → NetUnit) : (s.modNet f).cyc = s.cyc := rfl
@[simp] theorem State.modNet_host (s : State) (f : NetUnit → NetUnit) : (s.modNet f).host = s.host := rfl
@[simp] theorem State.modNet_mem (s : State) (f : NetUnit → NetUnit) : (s.modNet f).mem = s.mem := rfl
@[simp] theorem State.modNet_flt (s : State) (f : NetUnit → NetUnit) : (s.modNet f).flt = s.flt := rfl
@[simp] theorem State.modNet_tally (s : State) (f : NetUnit → NetUnit) : (s.modNet f).tally = s.tally := rfl
@[simp] theorem State.modNet_pwr (s : State) (f : NetUnit → NetUnit) : (s.modNet f).pwr = s.pwr := rfl
@[simp] theorem State.modNet_graph (s : State) (f : NetUnit → NetUnit) : (s.modNet f).graph = s.graph := rfl
@[simp] theorem State.modNet_sched (s : State) (f : NetUnit → NetUnit) : (s.modNet f).sched = s.sched := rfl
@[simp] theorem State.modNet_loop (s : State) (f : NetUnit → NetUnit) : (s.modNet f).loop = s.loop := rfl
@[simp] theorem State.modNet_axis (s : State) (f : NetUnit → NetUnit) : (s.modNet f).axis = s.axis := rfl
@[simp] theorem State.modNet_adc (s : State) (f : NetUnit → NetUnit) : (s.modNet f).adc = s.adc := rfl
@[simp] theorem State.modNet_dio (s : State) (f : NetUnit → NetUnit) : (s.modNet f).dio = s.dio := rfl
@[simp] theorem State.modNet_acq (s : State) (f : NetUnit → NetUnit) : (s.modNet f).acq = s.acq := rfl
@[simp] theorem State.modNet_drove (s : State) (f : NetUnit → NetUnit) : (s.modNet f).drove = s.drove := rfl
@[simp] theorem State.modNet_can (s : State) (f : NetUnit → NetUnit) : (s.modNet f).can = s.can := rfl
@[simp] theorem State.modNet_net (s : State) (f : NetUnit → NetUnit) : (s.modNet f).net = f s.net := rfl
@[simp] theorem State.modNet_isl (s : State) (f : NetUnit → NetUnit) : (s.modNet f).isl = s.isl := rfl
@[simp] theorem State.modNet_pair (s : State) (f : NetUnit → NetUnit) : (s.modNet f).pair = s.pair := rfl
@[simp] theorem State.modNet_keep (s : State) (f : NetUnit → NetUnit) : (s.modNet f).keep = s.keep := rfl
@[simp] theorem State.modIsl_now (s : State) (f : SafeUnit → SafeUnit) : (s.modIsl f).now = s.now := rfl
@[simp] theorem State.modIsl_timeStep (s : State) (f : SafeUnit → SafeUnit) : (s.modIsl f).timeStep = s.timeStep := rfl
@[simp] theorem State.modIsl_steer (s : State) (f : SafeUnit → SafeUnit) : (s.modIsl f).steer = s.steer := rfl
@[simp] theorem State.modIsl_pending (s : State) (f : SafeUnit → SafeUnit) : (s.modIsl f).pending = s.pending := rfl
@[simp] theorem State.modIsl_outbox (s : State) (f : SafeUnit → SafeUnit) : (s.modIsl f).outbox = s.outbox := rfl
@[simp] theorem State.modIsl_fresh (s : State) (f : SafeUnit → SafeUnit) : (s.modIsl f).fresh = s.fresh := rfl
@[simp] theorem State.modIsl_boot (s : State) (f : SafeUnit → SafeUnit) : (s.modIsl f).boot = s.boot := rfl
@[simp] theorem State.modIsl_dev (s : State) (f : SafeUnit → SafeUnit) : (s.modIsl f).dev = s.dev := rfl
@[simp] theorem State.modIsl_cyc (s : State) (f : SafeUnit → SafeUnit) : (s.modIsl f).cyc = s.cyc := rfl
@[simp] theorem State.modIsl_host (s : State) (f : SafeUnit → SafeUnit) : (s.modIsl f).host = s.host := rfl
@[simp] theorem State.modIsl_mem (s : State) (f : SafeUnit → SafeUnit) : (s.modIsl f).mem = s.mem := rfl
@[simp] theorem State.modIsl_flt (s : State) (f : SafeUnit → SafeUnit) : (s.modIsl f).flt = s.flt := rfl
@[simp] theorem State.modIsl_tally (s : State) (f : SafeUnit → SafeUnit) : (s.modIsl f).tally = s.tally := rfl
@[simp] theorem State.modIsl_pwr (s : State) (f : SafeUnit → SafeUnit) : (s.modIsl f).pwr = s.pwr := rfl
@[simp] theorem State.modIsl_graph (s : State) (f : SafeUnit → SafeUnit) : (s.modIsl f).graph = s.graph := rfl
@[simp] theorem State.modIsl_sched (s : State) (f : SafeUnit → SafeUnit) : (s.modIsl f).sched = s.sched := rfl
@[simp] theorem State.modIsl_loop (s : State) (f : SafeUnit → SafeUnit) : (s.modIsl f).loop = s.loop := rfl
@[simp] theorem State.modIsl_axis (s : State) (f : SafeUnit → SafeUnit) : (s.modIsl f).axis = s.axis := rfl
@[simp] theorem State.modIsl_adc (s : State) (f : SafeUnit → SafeUnit) : (s.modIsl f).adc = s.adc := rfl
@[simp] theorem State.modIsl_dio (s : State) (f : SafeUnit → SafeUnit) : (s.modIsl f).dio = s.dio := rfl
@[simp] theorem State.modIsl_acq (s : State) (f : SafeUnit → SafeUnit) : (s.modIsl f).acq = s.acq := rfl
@[simp] theorem State.modIsl_drove (s : State) (f : SafeUnit → SafeUnit) : (s.modIsl f).drove = s.drove := rfl
@[simp] theorem State.modIsl_can (s : State) (f : SafeUnit → SafeUnit) : (s.modIsl f).can = s.can := rfl
@[simp] theorem State.modIsl_net (s : State) (f : SafeUnit → SafeUnit) : (s.modIsl f).net = s.net := rfl
@[simp] theorem State.modIsl_isl (s : State) (f : SafeUnit → SafeUnit) : (s.modIsl f).isl = f s.isl := rfl
@[simp] theorem State.modIsl_pair (s : State) (f : SafeUnit → SafeUnit) : (s.modIsl f).pair = s.pair := rfl
@[simp] theorem State.modIsl_keep (s : State) (f : SafeUnit → SafeUnit) : (s.modIsl f).keep = s.keep := rfl
@[simp] theorem State.modPair_now (s : State) (f : PairUnit → PairUnit) : (s.modPair f).now = s.now := rfl
@[simp] theorem State.modPair_timeStep (s : State) (f : PairUnit → PairUnit) : (s.modPair f).timeStep = s.timeStep := rfl
@[simp] theorem State.modPair_steer (s : State) (f : PairUnit → PairUnit) : (s.modPair f).steer = s.steer := rfl
@[simp] theorem State.modPair_pending (s : State) (f : PairUnit → PairUnit) : (s.modPair f).pending = s.pending := rfl
@[simp] theorem State.modPair_outbox (s : State) (f : PairUnit → PairUnit) : (s.modPair f).outbox = s.outbox := rfl
@[simp] theorem State.modPair_fresh (s : State) (f : PairUnit → PairUnit) : (s.modPair f).fresh = s.fresh := rfl
@[simp] theorem State.modPair_boot (s : State) (f : PairUnit → PairUnit) : (s.modPair f).boot = s.boot := rfl
@[simp] theorem State.modPair_dev (s : State) (f : PairUnit → PairUnit) : (s.modPair f).dev = s.dev := rfl
@[simp] theorem State.modPair_cyc (s : State) (f : PairUnit → PairUnit) : (s.modPair f).cyc = s.cyc := rfl
@[simp] theorem State.modPair_host (s : State) (f : PairUnit → PairUnit) : (s.modPair f).host = s.host := rfl
@[simp] theorem State.modPair_mem (s : State) (f : PairUnit → PairUnit) : (s.modPair f).mem = s.mem := rfl
@[simp] theorem State.modPair_flt (s : State) (f : PairUnit → PairUnit) : (s.modPair f).flt = s.flt := rfl
@[simp] theorem State.modPair_tally (s : State) (f : PairUnit → PairUnit) : (s.modPair f).tally = s.tally := rfl
@[simp] theorem State.modPair_pwr (s : State) (f : PairUnit → PairUnit) : (s.modPair f).pwr = s.pwr := rfl
@[simp] theorem State.modPair_graph (s : State) (f : PairUnit → PairUnit) : (s.modPair f).graph = s.graph := rfl
@[simp] theorem State.modPair_sched (s : State) (f : PairUnit → PairUnit) : (s.modPair f).sched = s.sched := rfl
@[simp] theorem State.modPair_loop (s : State) (f : PairUnit → PairUnit) : (s.modPair f).loop = s.loop := rfl
@[simp] theorem State.modPair_axis (s : State) (f : PairUnit → PairUnit) : (s.modPair f).axis = s.axis := rfl
@[simp] theorem State.modPair_adc (s : State) (f : PairUnit → PairUnit) : (s.modPair f).adc = s.adc := rfl
@[simp] theorem State.modPair_dio (s : State) (f : PairUnit → PairUnit) : (s.modPair f).dio = s.dio := rfl
@[simp] theorem State.modPair_acq (s : State) (f : PairUnit → PairUnit) : (s.modPair f).acq = s.acq := rfl
@[simp] theorem State.modPair_drove (s : State) (f : PairUnit → PairUnit) : (s.modPair f).drove = s.drove := rfl
@[simp] theorem State.modPair_can (s : State) (f : PairUnit → PairUnit) : (s.modPair f).can = s.can := rfl
@[simp] theorem State.modPair_net (s : State) (f : PairUnit → PairUnit) : (s.modPair f).net = s.net := rfl
@[simp] theorem State.modPair_isl (s : State) (f : PairUnit → PairUnit) : (s.modPair f).isl = s.isl := rfl
@[simp] theorem State.modPair_pair (s : State) (f : PairUnit → PairUnit) : (s.modPair f).pair = f s.pair := rfl
@[simp] theorem State.modPair_keep (s : State) (f : PairUnit → PairUnit) : (s.modPair f).keep = s.keep := rfl
@[simp] theorem State.modKeep_now (s : State) (f : KeepUnit → KeepUnit) : (s.modKeep f).now = s.now := rfl
@[simp] theorem State.modKeep_timeStep (s : State) (f : KeepUnit → KeepUnit) : (s.modKeep f).timeStep = s.timeStep := rfl
@[simp] theorem State.modKeep_steer (s : State) (f : KeepUnit → KeepUnit) : (s.modKeep f).steer = s.steer := rfl
@[simp] theorem State.modKeep_pending (s : State) (f : KeepUnit → KeepUnit) : (s.modKeep f).pending = s.pending := rfl
@[simp] theorem State.modKeep_outbox (s : State) (f : KeepUnit → KeepUnit) : (s.modKeep f).outbox = s.outbox := rfl
@[simp] theorem State.modKeep_fresh (s : State) (f : KeepUnit → KeepUnit) : (s.modKeep f).fresh = s.fresh := rfl
@[simp] theorem State.modKeep_boot (s : State) (f : KeepUnit → KeepUnit) : (s.modKeep f).boot = s.boot := rfl
@[simp] theorem State.modKeep_dev (s : State) (f : KeepUnit → KeepUnit) : (s.modKeep f).dev = s.dev := rfl
@[simp] theorem State.modKeep_cyc (s : State) (f : KeepUnit → KeepUnit) : (s.modKeep f).cyc = s.cyc := rfl
@[simp] theorem State.modKeep_host (s : State) (f : KeepUnit → KeepUnit) : (s.modKeep f).host = s.host := rfl
@[simp] theorem State.modKeep_mem (s : State) (f : KeepUnit → KeepUnit) : (s.modKeep f).mem = s.mem := rfl
@[simp] theorem State.modKeep_flt (s : State) (f : KeepUnit → KeepUnit) : (s.modKeep f).flt = s.flt := rfl
@[simp] theorem State.modKeep_tally (s : State) (f : KeepUnit → KeepUnit) : (s.modKeep f).tally = s.tally := rfl
@[simp] theorem State.modKeep_pwr (s : State) (f : KeepUnit → KeepUnit) : (s.modKeep f).pwr = s.pwr := rfl
@[simp] theorem State.modKeep_graph (s : State) (f : KeepUnit → KeepUnit) : (s.modKeep f).graph = s.graph := rfl
@[simp] theorem State.modKeep_sched (s : State) (f : KeepUnit → KeepUnit) : (s.modKeep f).sched = s.sched := rfl
@[simp] theorem State.modKeep_loop (s : State) (f : KeepUnit → KeepUnit) : (s.modKeep f).loop = s.loop := rfl
@[simp] theorem State.modKeep_axis (s : State) (f : KeepUnit → KeepUnit) : (s.modKeep f).axis = s.axis := rfl
@[simp] theorem State.modKeep_adc (s : State) (f : KeepUnit → KeepUnit) : (s.modKeep f).adc = s.adc := rfl
@[simp] theorem State.modKeep_dio (s : State) (f : KeepUnit → KeepUnit) : (s.modKeep f).dio = s.dio := rfl
@[simp] theorem State.modKeep_acq (s : State) (f : KeepUnit → KeepUnit) : (s.modKeep f).acq = s.acq := rfl
@[simp] theorem State.modKeep_drove (s : State) (f : KeepUnit → KeepUnit) : (s.modKeep f).drove = s.drove := rfl
@[simp] theorem State.modKeep_can (s : State) (f : KeepUnit → KeepUnit) : (s.modKeep f).can = s.can := rfl
@[simp] theorem State.modKeep_net (s : State) (f : KeepUnit → KeepUnit) : (s.modKeep f).net = s.net := rfl
@[simp] theorem State.modKeep_isl (s : State) (f : KeepUnit → KeepUnit) : (s.modKeep f).isl = s.isl := rfl
@[simp] theorem State.modKeep_pair (s : State) (f : KeepUnit → KeepUnit) : (s.modKeep f).pair = s.pair := rfl
@[simp] theorem State.modKeep_keep (s : State) (f : KeepUnit → KeepUnit) : (s.modKeep f).keep = f s.keep := rfl
@[simp] theorem State.emit_now (s : State) (o : Out) : (s.emit o).now = s.now := rfl
@[simp] theorem State.emit_timeStep (s : State) (o : Out) : (s.emit o).timeStep = s.timeStep := rfl
@[simp] theorem State.emit_steer (s : State) (o : Out) : (s.emit o).steer = s.steer := rfl
@[simp] theorem State.emit_pending (s : State) (o : Out) : (s.emit o).pending = s.pending := rfl
@[simp] theorem State.emit_outbox (s : State) (o : Out) : (s.emit o).outbox = s.outbox ++ [o] := rfl
@[simp] theorem State.emit_fresh (s : State) (o : Out) : (s.emit o).fresh = s.fresh := rfl
@[simp] theorem State.emit_boot (s : State) (o : Out) : (s.emit o).boot = s.boot := rfl
@[simp] theorem State.emit_dev (s : State) (o : Out) : (s.emit o).dev = s.dev := rfl
@[simp] theorem State.emit_cyc (s : State) (o : Out) : (s.emit o).cyc = s.cyc := rfl
@[simp] theorem State.emit_host (s : State) (o : Out) : (s.emit o).host = s.host := rfl
@[simp] theorem State.emit_mem (s : State) (o : Out) : (s.emit o).mem = s.mem := rfl
@[simp] theorem State.emit_flt (s : State) (o : Out) : (s.emit o).flt = s.flt := rfl
@[simp] theorem State.emit_tally (s : State) (o : Out) : (s.emit o).tally = s.tally := rfl
@[simp] theorem State.emit_pwr (s : State) (o : Out) : (s.emit o).pwr = s.pwr := rfl
@[simp] theorem State.emit_graph (s : State) (o : Out) : (s.emit o).graph = s.graph := rfl
@[simp] theorem State.emit_sched (s : State) (o : Out) : (s.emit o).sched = s.sched := rfl
@[simp] theorem State.emit_loop (s : State) (o : Out) : (s.emit o).loop = s.loop := rfl
@[simp] theorem State.emit_axis (s : State) (o : Out) : (s.emit o).axis = s.axis := rfl
@[simp] theorem State.emit_adc (s : State) (o : Out) : (s.emit o).adc = s.adc := rfl
@[simp] theorem State.emit_dio (s : State) (o : Out) : (s.emit o).dio = s.dio := rfl
@[simp] theorem State.emit_acq (s : State) (o : Out) : (s.emit o).acq = s.acq := rfl
@[simp] theorem State.emit_drove (s : State) (o : Out) : (s.emit o).drove = s.drove := rfl
@[simp] theorem State.emit_can (s : State) (o : Out) : (s.emit o).can = s.can := rfl
@[simp] theorem State.emit_net (s : State) (o : Out) : (s.emit o).net = s.net := rfl
@[simp] theorem State.emit_isl (s : State) (o : Out) : (s.emit o).isl = s.isl := rfl
@[simp] theorem State.emit_pair (s : State) (o : Out) : (s.emit o).pair = s.pair := rfl
@[simp] theorem State.emit_keep (s : State) (o : Out) : (s.emit o).keep = s.keep := rfl

end Sys2Proof.Machine
end

