-- ==== Sys2Proof/Laws/Command.lean ====
section
/-! SUPPORT. What the shared parts of every command do: the wrapper of the packet rows, the checks, the event rows. -/

namespace Sys2Proof.Machine

/-- A command that reached its own part answers as that part says. -/
theorem command_reached {op : Op} {p : Packet} {s : State} (body : Packet → State → State × Verdict) (h : Reached op p s) :
    command op body p s = .next (match body p s with
      | (t, .done st ws) => t.conclude op p st ws
      | (t, .waits) => (t.recordConfig op stOk).mirror op p stOk) := by
  obtain ⟨h1, h2, h3, h4, h5, h6, h7, h8⟩ := h
  have hw : windowFor op s = s := by
    unfold windowFor
    rcases h4 with h4 | h4 <;> simp [h4]
  have hk : wakeFor op s = s := by
    have h2 : wakeDomain 2 s = s := by simp [wakeDomain, h7]
    rw [wakeFor, h2]
    simp [wakeDomain, h8]
  simp only [command, if_pos h1, runCommand, h2, h3, execute, hw, hk, h5, h6]
  rfl

/-- The same where the command is answered at once. -/
theorem command_done {op : Op} {p : Packet} {s t : State} {st : Nat} {ws : List Word} {body : Packet → State → State × Verdict}
    (h : Reached op p s) (hb : body p s = (t, .done st ws)) : command op body p s = .next (t.conclude op p st ws) := by
  rw [command_reached body h, hb]

/-- The same where its answer comes later. -/
theorem command_waits {op : Op} {p : Packet} {s t : State} {body : Packet → State → State × Verdict}
    (h : Reached op p s) (hb : body p s = (t, .waits)) :
    command op body p s = .next ((t.recordConfig op stOk).mirror op p stOk) := by
  rw [command_reached body h, hb]

/-- No check fails: the command goes on. -/
@[simp] theorem checked_nil (s : State) (k : State × Verdict) : checked [] s k = k := rfl

/-- The first check decides. -/
@[simp] theorem checked_cons_true (e : Nat) (cs : List (Bool × Nat)) (s : State) (k : State × Verdict) :
    checked ((true, e) :: cs) s k = (s, .done e []) := rfl

/-- A check that does not fail is passed. -/
@[simp] theorem checked_cons_false (e : Nat) (cs : List (Bool × Nat)) (s : State) (k : State × Verdict) :
    checked ((false, e) :: cs) s k = checked cs s k := rfl

/-- An event of an item that the device has happens at its instant. -/
theorem event_of {b : Bool} (h : b = true) (t : Nat) (f : State → State) (s : State) : event b t f s = .next (f (s.at t)) := by
  simp [event, h]

/-- An event of an item that the device does not have lets time pass and nothing else. -/
theorem event_absent {b : Bool} (h : b = false) (t : Nat) (f : State → State) (s : State) : event b t f s = .next (s.at t) := by
  simp [event, h]

end Sys2Proof.Machine
end

