-- ==== Sys2Proof/Laws/Reply.lean ====
section
/-! SUPPORT. What a reply and the end of a deferred command can change: the host interface, what has left the device, and what goes
to the manager above (`State.Replied`). Every other field stays; the rings and the ring configuration stay too. -/

namespace Sys2Proof.Machine

/-- `t` is `s` but for the host interface, what has left the device and what goes to the manager above. -/
def State.Replied (s t : State) : Prop := ∃ h o d, t = { s with host := h, outbox := o, drove := { s.drove with upOut := d } }

theorem State.Replied.refl (s : State) : s.Replied s := ⟨_, _, _, rfl⟩

theorem State.Replied.trans {s t u : State} (h : s.Replied t) (k : t.Replied u) : s.Replied u := by
  obtain ⟨_, _, _, rfl⟩ := h
  obtain ⟨_, _, _, rfl⟩ := k
  exact ⟨_, _, _, rfl⟩

theorem State.modHost_replied (s : State) (f : HostUnit → HostUnit) : s.Replied (s.modHost f) := ⟨_, _, _, rfl⟩

theorem State.emit_replied (s : State) (o : Out) : s.Replied (s.emit o) := ⟨_, _, _, rfl⟩

theorem State.freed_replied (s : State) (k : Option Nat) : s.Replied (s.freed k) := by
  cases k with
  | none => exact .refl s
  | some n => exact ⟨_, _, _, rfl⟩

theorem State.replyOnRing_replied (s : State) (m : Nat) (ws : List Word) (k : Option Nat) : s.Replied (s.replyOnRing m ws k) := by
  unfold State.replyOnRing; dsimp only; split
  · exact (s.modHost_replied _).trans (State.freed_replied _ k)
  · exact s.modHost_replied _

theorem flushUdp_replied (l : List UdpOut) : ∀ s : State,
    s.Replied (l.foldl (fun s d => s.emit (.datagram d.via d.ip d.port d.words)) s) := by
  induction l with
  | nil => exact State.Replied.refl
  | cons d l ih => exact fun s => (s.emit_replied _).trans (ih _)

theorem State.flushUdp_replied (s : State) : s.Replied s.flushUdp :=
  (Sys2Proof.Machine.flushUdp_replied s.host.udpOut s).trans (State.modHost_replied _ _)

theorem State.sendUdp_replied (s : State) (v i p : Nat) (ws : List Word) : s.Replied (s.sendUdp v i p ws) := by
  have h (u : State) (f : HostUnit → HostUnit) : u.Replied (if hasCycle (u.modHost f) then u.modHost f else (u.modHost f).flushUdp) := by
    split
    · exact u.modHost_replied f
    · exact (u.modHost_replied f).trans (State.flushUdp_replied _)
  unfold State.sendUdp; dsimp only; split
  · exact .refl s
  · refine State.Replied.trans ?_ (h _ _)
    repeat' split
    all_goals first | exact s.emit_replied _ | exact .refl s

theorem State.sendReply_replied (s : State) (o : Origin) (g : Word) (ws : List Word) (k : Option Nat) :
    s.Replied (s.sendReply o g ws k) := by
  cases o with
  | ring n => exact s.replyOnRing_replied _ _ _
  | replyTo m => exact s.replyOnRing_replied _ _ _
  | udp n v i p => exact ((s.modHost_replied _).trans (State.sendUdp_replied _ _ _ _ _)).trans (State.freed_replied _ k)
  | above =>
    have h : s.Replied (s.modDrove fun d => { d with upOut := d.upOut ++ [{ kind := 1, words := ws }] }) := ⟨_, _, _, rfl⟩
    exact h.trans (State.freed_replied _ k)
  | mirror => exact s.freed_replied k
  | lost => exact (s.modHost_replied _).trans (State.freed_replied _ k)

theorem State.answerAt_replied (s : State) (op : Op) (p : Packet) (c st : Nat) (ws : List Word) (k : Option Nat) :
    s.Replied (s.answerAt op p c st ws k) := by
  unfold State.answerAt; split
  · exact s.sendReply_replied _ _ _ _
  · dsimp only; split
    · exact (s.freed_replied k).trans ⟨_, _, _, rfl⟩
    · exact s.freed_replied k

theorem State.answer_replied (s : State) (op : Op) (p : Packet) (st : Nat) (ws : List Word) : s.Replied (s.answer op p st ws) :=
  s.answerAt_replied _ _ _ _ _ _

theorem answerAll_replied (g : Deferred → Nat × List Word) (l : List Deferred) : ∀ s : State,
    s.Replied (l.foldl (fun s d => s.answer d.op d.packet (g d).1 (g d).2) s) := by
  induction l with
  | nil => exact State.Replied.refl
  | cons d l ih => exact fun s => (s.answer_replied _ _ _ _).trans (ih _)

theorem State.settle_replied (s : State) (f : Deferred → Bool) (g : Deferred → Nat × List Word) : s.Replied (s.settle f g) :=
  (s.modHost_replied _).trans (answerAll_replied g _ _)

theorem State.mirror_replied (s : State) (op : Op) (p : Packet) (st : Nat) : s.Replied (s.mirror op p st) := by
  unfold State.mirror; split
  · exact s.emit_replied _
  · exact .refl s

/-- A device configuration that a command changes is one the record holds: `recordConfig` changes that alone. -/
theorem State.recordConfig_eq (s : State) (op : Op) (st : Nat) : ∃ b, s.recordConfig op st = { s with boot := b } := by
  unfold State.recordConfig; split <;> exact ⟨_, rfl⟩

/-- A command that is answered: the rest of it (`recordConfig`, `mirror`, the reply). -/
theorem State.conclude_eq (s : State) (op : Op) (p : Packet) (st : Nat) (ws : List Word) :
    ∃ b, State.Replied { s with boot := b } (s.conclude op p st ws) := by
  obtain ⟨b, h⟩ := s.recordConfig_eq op st
  refine ⟨b, ?_⟩
  rw [State.conclude, h]
  exact (State.mirror_replied _ _ _ _).trans (State.answer_replied _ _ _ _ _)

/-! Field by field. -/

theorem State.Replied.now {s t : State} (h : s.Replied t) : t.now = s.now := by obtain ⟨_, _, _, rfl⟩ := h; rfl
theorem State.Replied.timeStep {s t : State} (h : s.Replied t) : t.timeStep = s.timeStep := by obtain ⟨_, _, _, rfl⟩ := h; rfl
theorem State.Replied.steer {s t : State} (h : s.Replied t) : t.steer = s.steer := by obtain ⟨_, _, _, rfl⟩ := h; rfl
theorem State.Replied.pending {s t : State} (h : s.Replied t) : t.pending = s.pending := by obtain ⟨_, _, _, rfl⟩ := h; rfl
theorem State.Replied.fresh {s t : State} (h : s.Replied t) : t.fresh = s.fresh := by obtain ⟨_, _, _, rfl⟩ := h; rfl
theorem State.Replied.boot {s t : State} (h : s.Replied t) : t.boot = s.boot := by obtain ⟨_, _, _, rfl⟩ := h; rfl
theorem State.Replied.dev {s t : State} (h : s.Replied t) : t.dev = s.dev := by obtain ⟨_, _, _, rfl⟩ := h; rfl
theorem State.Replied.cyc {s t : State} (h : s.Replied t) : t.cyc = s.cyc := by obtain ⟨_, _, _, rfl⟩ := h; rfl
theorem State.Replied.mem {s t : State} (h : s.Replied t) : t.mem = s.mem := by obtain ⟨_, _, _, rfl⟩ := h; rfl
theorem State.Replied.flt {s t : State} (h : s.Replied t) : t.flt = s.flt := by obtain ⟨_, _, _, rfl⟩ := h; rfl
theorem State.Replied.tally {s t : State} (h : s.Replied t) : t.tally = s.tally := by obtain ⟨_, _, _, rfl⟩ := h; rfl
theorem State.Replied.pwr {s t : State} (h : s.Replied t) : t.pwr = s.pwr := by obtain ⟨_, _, _, rfl⟩ := h; rfl
theorem State.Replied.graph {s t : State} (h : s.Replied t) : t.graph = s.graph := by obtain ⟨_, _, _, rfl⟩ := h; rfl
theorem State.Replied.sched {s t : State} (h : s.Replied t) : t.sched = s.sched := by obtain ⟨_, _, _, rfl⟩ := h; rfl
theorem State.Replied.loop {s t : State} (h : s.Replied t) : t.loop = s.loop := by obtain ⟨_, _, _, rfl⟩ := h; rfl
theorem State.Replied.axis {s t : State} (h : s.Replied t) : t.axis = s.axis := by obtain ⟨_, _, _, rfl⟩ := h; rfl
theorem State.Replied.adc {s t : State} (h : s.Replied t) : t.adc = s.adc := by obtain ⟨_, _, _, rfl⟩ := h; rfl
theorem State.Replied.dio {s t : State} (h : s.Replied t) : t.dio = s.dio := by obtain ⟨_, _, _, rfl⟩ := h; rfl
theorem State.Replied.acq {s t : State} (h : s.Replied t) : t.acq = s.acq := by obtain ⟨_, _, _, rfl⟩ := h; rfl
theorem State.Replied.can {s t : State} (h : s.Replied t) : t.can = s.can := by obtain ⟨_, _, _, rfl⟩ := h; rfl
theorem State.Replied.net {s t : State} (h : s.Replied t) : t.net = s.net := by obtain ⟨_, _, _, rfl⟩ := h; rfl
theorem State.Replied.isl {s t : State} (h : s.Replied t) : t.isl = s.isl := by obtain ⟨_, _, _, rfl⟩ := h; rfl
theorem State.Replied.pair {s t : State} (h : s.Replied t) : t.pair = s.pair := by obtain ⟨_, _, _, rfl⟩ := h; rfl
theorem State.Replied.keep {s t : State} (h : s.Replied t) : t.keep = s.keep := by obtain ⟨_, _, _, rfl⟩ := h; rfl

theorem State.Replied.droveCfg {s t : State} (h : s.Replied t) : t.drove.cfg = s.drove.cfg := by obtain ⟨_, _, _, rfl⟩ := h; rfl

@[simp] theorem State.sendReply_now (s : State) (o : Origin) (g : Word) (ws : List Word) (k : Option Nat) : (s.sendReply o g ws k).now = s.now := (s.sendReply_replied o g ws k).now
@[simp] theorem State.sendReply_timeStep (s : State) (o : Origin) (g : Word) (ws : List Word) (k : Option Nat) : (s.sendReply o g ws k).timeStep = s.timeStep := (s.sendReply_replied o g ws k).timeStep
@[simp] theorem State.sendReply_steer (s : State) (o : Origin) (g : Word) (ws : List Word) (k : Option Nat) : (s.sendReply o g ws k).steer = s.steer := (s.sendReply_replied o g ws k).steer
@[simp] theorem State.sendReply_pending (s : State) (o : Origin) (g : Word) (ws : List Word) (k : Option Nat) : (s.sendReply o g ws k).pending = s.pending := (s.sendReply_replied o g ws k).pending
@[simp] theorem State.sendReply_fresh (s : State) (o : Origin) (g : Word) (ws : List Word) (k : Option Nat) : (s.sendReply o g ws k).fresh = s.fresh := (s.sendReply_replied o g ws k).fresh
@[simp] theorem State.sendReply_boot (s : State) (o : Origin) (g : Word) (ws : List Word) (k : Option Nat) : (s.sendReply o g ws k).boot = s.boot := (s.sendReply_replied o g ws k).boot
@[simp] theorem State.sendReply_dev (s : State) (o : Origin) (g : Word) (ws : List Word) (k : Option Nat) : (s.sendReply o g ws k).dev = s.dev := (s.sendReply_replied o g ws k).dev
@[simp] theorem State.sendReply_cyc (s : State) (o : Origin) (g : Word) (ws : List Word) (k : Option Nat) : (s.sendReply o g ws k).cyc = s.cyc := (s.sendReply_replied o g ws k).cyc
@[simp] theorem State.sendReply_mem (s : State) (o : Origin) (g : Word) (ws : List Word) (k : Option Nat) : (s.sendReply o g ws k).mem = s.mem := (s.sendReply_replied o g ws k).mem
@[simp] theorem State.sendReply_flt (s : State) (o : Origin) (g : Word) (ws : List Word) (k : Option Nat) : (s.sendReply o g ws k).flt = s.flt := (s.sendReply_replied o g ws k).flt
@[simp] theorem State.sendReply_tally (s : State) (o : Origin) (g : Word) (ws : List Word) (k : Option Nat) : (s.sendReply o g ws k).tally = s.tally := (s.sendReply_replied o g ws k).tally
@[simp] theorem State.sendReply_pwr (s : State) (o : Origin) (g : Word) (ws : List Word) (k : Option Nat) : (s.sendReply o g ws k).pwr = s.pwr := (s.sendReply_replied o g ws k).pwr
@[simp] theorem State.sendReply_graph (s : State) (o : Origin) (g : Word) (ws : List Word) (k : Option Nat) : (s.sendReply o g ws k).graph = s.graph := (s.sendReply_replied o g ws k).graph
@[simp] theorem State.sendReply_sched (s : State) (o : Origin) (g : Word) (ws : List Word) (k : Option Nat) : (s.sendReply o g ws k).sched = s.sched := (s.sendReply_replied o g ws k).sched
@[simp] theorem State.sendReply_loop (s : State) (o : Origin) (g : Word) (ws : List Word) (k : Option Nat) : (s.sendReply o g ws k).loop = s.loop := (s.sendReply_replied o g ws k).loop
@[simp] theorem State.sendReply_axis (s : State) (o : Origin) (g : Word) (ws : List Word) (k : Option Nat) : (s.sendReply o g ws k).axis = s.axis := (s.sendReply_replied o g ws k).axis
@[simp] theorem State.sendReply_adc (s : State) (o : Origin) (g : Word) (ws : List Word) (k : Option Nat) : (s.sendReply o g ws k).adc = s.adc := (s.sendReply_replied o g ws k).adc
@[simp] theorem State.sendReply_dio (s : State) (o : Origin) (g : Word) (ws : List Word) (k : Option Nat) : (s.sendReply o g ws k).dio = s.dio := (s.sendReply_replied o g ws k).dio
@[simp] theorem State.sendReply_acq (s : State) (o : Origin) (g : Word) (ws : List Word) (k : Option Nat) : (s.sendReply o g ws k).acq = s.acq := (s.sendReply_replied o g ws k).acq
@[simp] theorem State.sendReply_can (s : State) (o : Origin) (g : Word) (ws : List Word) (k : Option Nat) : (s.sendReply o g ws k).can = s.can := (s.sendReply_replied o g ws k).can
@[simp] theorem State.sendReply_net (s : State) (o : Origin) (g : Word) (ws : List Word) (k : Option Nat) : (s.sendReply o g ws k).net = s.net := (s.sendReply_replied o g ws k).net
@[simp] theorem State.sendReply_isl (s : State) (o : Origin) (g : Word) (ws : List Word) (k : Option Nat) : (s.sendReply o g ws k).isl = s.isl := (s.sendReply_replied o g ws k).isl
@[simp] theorem State.sendReply_pair (s : State) (o : Origin) (g : Word) (ws : List Word) (k : Option Nat) : (s.sendReply o g ws k).pair = s.pair := (s.sendReply_replied o g ws k).pair
@[simp] theorem State.sendReply_keep (s : State) (o : Origin) (g : Word) (ws : List Word) (k : Option Nat) : (s.sendReply o g ws k).keep = s.keep := (s.sendReply_replied o g ws k).keep

@[simp] theorem State.answerAt_now (s : State) (op : Op) (p : Packet) (c st : Nat) (ws : List Word) (k : Option Nat) : (s.answerAt op p c st ws k).now = s.now := (s.answerAt_replied op p c st ws k).now
@[simp] theorem State.answerAt_timeStep (s : State) (op : Op) (p : Packet) (c st : Nat) (ws : List Word) (k : Option Nat) : (s.answerAt op p c st ws k).timeStep = s.timeStep := (s.answerAt_replied op p c st ws k).timeStep
@[simp] theorem State.answerAt_steer (s : State) (op : Op) (p : Packet) (c st : Nat) (ws : List Word) (k : Option Nat) : (s.answerAt op p c st ws k).steer = s.steer := (s.answerAt_replied op p c st ws k).steer
@[simp] theorem State.answerAt_pending (s : State) (op : Op) (p : Packet) (c st : Nat) (ws : List Word) (k : Option Nat) : (s.answerAt op p c st ws k).pending = s.pending := (s.answerAt_replied op p c st ws k).pending
@[simp] theorem State.answerAt_fresh (s : State) (op : Op) (p : Packet) (c st : Nat) (ws : List Word) (k : Option Nat) : (s.answerAt op p c st ws k).fresh = s.fresh := (s.answerAt_replied op p c st ws k).fresh
@[simp] theorem State.answerAt_boot (s : State) (op : Op) (p : Packet) (c st : Nat) (ws : List Word) (k : Option Nat) : (s.answerAt op p c st ws k).boot = s.boot := (s.answerAt_replied op p c st ws k).boot
@[simp] theorem State.answerAt_dev (s : State) (op : Op) (p : Packet) (c st : Nat) (ws : List Word) (k : Option Nat) : (s.answerAt op p c st ws k).dev = s.dev := (s.answerAt_replied op p c st ws k).dev
@[simp] theorem State.answerAt_cyc (s : State) (op : Op) (p : Packet) (c st : Nat) (ws : List Word) (k : Option Nat) : (s.answerAt op p c st ws k).cyc = s.cyc := (s.answerAt_replied op p c st ws k).cyc
@[simp] theorem State.answerAt_mem (s : State) (op : Op) (p : Packet) (c st : Nat) (ws : List Word) (k : Option Nat) : (s.answerAt op p c st ws k).mem = s.mem := (s.answerAt_replied op p c st ws k).mem
@[simp] theorem State.answerAt_flt (s : State) (op : Op) (p : Packet) (c st : Nat) (ws : List Word) (k : Option Nat) : (s.answerAt op p c st ws k).flt = s.flt := (s.answerAt_replied op p c st ws k).flt
@[simp] theorem State.answerAt_tally (s : State) (op : Op) (p : Packet) (c st : Nat) (ws : List Word) (k : Option Nat) : (s.answerAt op p c st ws k).tally = s.tally := (s.answerAt_replied op p c st ws k).tally
@[simp] theorem State.answerAt_pwr (s : State) (op : Op) (p : Packet) (c st : Nat) (ws : List Word) (k : Option Nat) : (s.answerAt op p c st ws k).pwr = s.pwr := (s.answerAt_replied op p c st ws k).pwr
@[simp] theorem State.answerAt_graph (s : State) (op : Op) (p : Packet) (c st : Nat) (ws : List Word) (k : Option Nat) : (s.answerAt op p c st ws k).graph = s.graph := (s.answerAt_replied op p c st ws k).graph
@[simp] theorem State.answerAt_sched (s : State) (op : Op) (p : Packet) (c st : Nat) (ws : List Word) (k : Option Nat) : (s.answerAt op p c st ws k).sched = s.sched := (s.answerAt_replied op p c st ws k).sched
@[simp] theorem State.answerAt_loop (s : State) (op : Op) (p : Packet) (c st : Nat) (ws : List Word) (k : Option Nat) : (s.answerAt op p c st ws k).loop = s.loop := (s.answerAt_replied op p c st ws k).loop
@[simp] theorem State.answerAt_axis (s : State) (op : Op) (p : Packet) (c st : Nat) (ws : List Word) (k : Option Nat) : (s.answerAt op p c st ws k).axis = s.axis := (s.answerAt_replied op p c st ws k).axis
@[simp] theorem State.answerAt_adc (s : State) (op : Op) (p : Packet) (c st : Nat) (ws : List Word) (k : Option Nat) : (s.answerAt op p c st ws k).adc = s.adc := (s.answerAt_replied op p c st ws k).adc
@[simp] theorem State.answerAt_dio (s : State) (op : Op) (p : Packet) (c st : Nat) (ws : List Word) (k : Option Nat) : (s.answerAt op p c st ws k).dio = s.dio := (s.answerAt_replied op p c st ws k).dio
@[simp] theorem State.answerAt_acq (s : State) (op : Op) (p : Packet) (c st : Nat) (ws : List Word) (k : Option Nat) : (s.answerAt op p c st ws k).acq = s.acq := (s.answerAt_replied op p c st ws k).acq
@[simp] theorem State.answerAt_can (s : State) (op : Op) (p : Packet) (c st : Nat) (ws : List Word) (k : Option Nat) : (s.answerAt op p c st ws k).can = s.can := (s.answerAt_replied op p c st ws k).can
@[simp] theorem State.answerAt_net (s : State) (op : Op) (p : Packet) (c st : Nat) (ws : List Word) (k : Option Nat) : (s.answerAt op p c st ws k).net = s.net := (s.answerAt_replied op p c st ws k).net
@[simp] theorem State.answerAt_isl (s : State) (op : Op) (p : Packet) (c st : Nat) (ws : List Word) (k : Option Nat) : (s.answerAt op p c st ws k).isl = s.isl := (s.answerAt_replied op p c st ws k).isl
@[simp] theorem State.answerAt_pair (s : State) (op : Op) (p : Packet) (c st : Nat) (ws : List Word) (k : Option Nat) : (s.answerAt op p c st ws k).pair = s.pair := (s.answerAt_replied op p c st ws k).pair
@[simp] theorem State.answerAt_keep (s : State) (op : Op) (p : Packet) (c st : Nat) (ws : List Word) (k : Option Nat) : (s.answerAt op p c st ws k).keep = s.keep := (s.answerAt_replied op p c st ws k).keep

@[simp] theorem State.answer_now (s : State) (op : Op) (p : Packet) (st : Nat) (ws : List Word) : (s.answer op p st ws).now = s.now := (s.answer_replied op p st ws).now
@[simp] theorem State.answer_timeStep (s : State) (op : Op) (p : Packet) (st : Nat) (ws : List Word) : (s.answer op p st ws).timeStep = s.timeStep := (s.answer_replied op p st ws).timeStep
@[simp] theorem State.answer_steer (s : State) (op : Op) (p : Packet) (st : Nat) (ws : List Word) : (s.answer op p st ws).steer = s.steer := (s.answer_replied op p st ws).steer
@[simp] theorem State.answer_pending (s : State) (op : Op) (p : Packet) (st : Nat) (ws : List Word) : (s.answer op p st ws).pending = s.pending := (s.answer_replied op p st ws).pending
@[simp] theorem State.answer_fresh (s : State) (op : Op) (p : Packet) (st : Nat) (ws : List Word) : (s.answer op p st ws).fresh = s.fresh := (s.answer_replied op p st ws).fresh
@[simp] theorem State.answer_boot (s : State) (op : Op) (p : Packet) (st : Nat) (ws : List Word) : (s.answer op p st ws).boot = s.boot := (s.answer_replied op p st ws).boot
@[simp] theorem State.answer_dev (s : State) (op : Op) (p : Packet) (st : Nat) (ws : List Word) : (s.answer op p st ws).dev = s.dev := (s.answer_replied op p st ws).dev
@[simp] theorem State.answer_cyc (s : State) (op : Op) (p : Packet) (st : Nat) (ws : List Word) : (s.answer op p st ws).cyc = s.cyc := (s.answer_replied op p st ws).cyc
@[simp] theorem State.answer_mem (s : State) (op : Op) (p : Packet) (st : Nat) (ws : List Word) : (s.answer op p st ws).mem = s.mem := (s.answer_replied op p st ws).mem
@[simp] theorem State.answer_flt (s : State) (op : Op) (p : Packet) (st : Nat) (ws : List Word) : (s.answer op p st ws).flt = s.flt := (s.answer_replied op p st ws).flt
@[simp] theorem State.answer_tally (s : State) (op : Op) (p : Packet) (st : Nat) (ws : List Word) : (s.answer op p st ws).tally = s.tally := (s.answer_replied op p st ws).tally
@[simp] theorem State.answer_pwr (s : State) (op : Op) (p : Packet) (st : Nat) (ws : List Word) : (s.answer op p st ws).pwr = s.pwr := (s.answer_replied op p st ws).pwr
@[simp] theorem State.answer_graph (s : State) (op : Op) (p : Packet) (st : Nat) (ws : List Word) : (s.answer op p st ws).graph = s.graph := (s.answer_replied op p st ws).graph
@[simp] theorem State.answer_sched (s : State) (op : Op) (p : Packet) (st : Nat) (ws : List Word) : (s.answer op p st ws).sched = s.sched := (s.answer_replied op p st ws).sched
@[simp] theorem State.answer_loop (s : State) (op : Op) (p : Packet) (st : Nat) (ws : List Word) : (s.answer op p st ws).loop = s.loop := (s.answer_replied op p st ws).loop
@[simp] theorem State.answer_axis (s : State) (op : Op) (p : Packet) (st : Nat) (ws : List Word) : (s.answer op p st ws).axis = s.axis := (s.answer_replied op p st ws).axis
@[simp] theorem State.answer_adc (s : State) (op : Op) (p : Packet) (st : Nat) (ws : List Word) : (s.answer op p st ws).adc = s.adc := (s.answer_replied op p st ws).adc
@[simp] theorem State.answer_dio (s : State) (op : Op) (p : Packet) (st : Nat) (ws : List Word) : (s.answer op p st ws).dio = s.dio := (s.answer_replied op p st ws).dio
@[simp] theorem State.answer_acq (s : State) (op : Op) (p : Packet) (st : Nat) (ws : List Word) : (s.answer op p st ws).acq = s.acq := (s.answer_replied op p st ws).acq
@[simp] theorem State.answer_can (s : State) (op : Op) (p : Packet) (st : Nat) (ws : List Word) : (s.answer op p st ws).can = s.can := (s.answer_replied op p st ws).can
@[simp] theorem State.answer_net (s : State) (op : Op) (p : Packet) (st : Nat) (ws : List Word) : (s.answer op p st ws).net = s.net := (s.answer_replied op p st ws).net
@[simp] theorem State.answer_isl (s : State) (op : Op) (p : Packet) (st : Nat) (ws : List Word) : (s.answer op p st ws).isl = s.isl := (s.answer_replied op p st ws).isl
@[simp] theorem State.answer_pair (s : State) (op : Op) (p : Packet) (st : Nat) (ws : List Word) : (s.answer op p st ws).pair = s.pair := (s.answer_replied op p st ws).pair
@[simp] theorem State.answer_keep (s : State) (op : Op) (p : Packet) (st : Nat) (ws : List Word) : (s.answer op p st ws).keep = s.keep := (s.answer_replied op p st ws).keep

@[simp] theorem State.settle_now (s : State) (f : Deferred → Bool) (g : Deferred → Nat × List Word) : (s.settle f g).now = s.now := (s.settle_replied f g).now
@[simp] theorem State.settle_timeStep (s : State) (f : Deferred → Bool) (g : Deferred → Nat × List Word) : (s.settle f g).timeStep = s.timeStep := (s.settle_replied f g).timeStep
@[simp] theorem State.settle_steer (s : State) (f : Deferred → Bool) (g : Deferred → Nat × List Word) : (s.settle f g).steer = s.steer := (s.settle_replied f g).steer
@[simp] theorem State.settle_pending (s : State) (f : Deferred → Bool) (g : Deferred → Nat × List Word) : (s.settle f g).pending = s.pending := (s.settle_replied f g).pending
@[simp] theorem State.settle_fresh (s : State) (f : Deferred → Bool) (g : Deferred → Nat × List Word) : (s.settle f g).fresh = s.fresh := (s.settle_replied f g).fresh
@[simp] theorem State.settle_boot (s : State) (f : Deferred → Bool) (g : Deferred → Nat × List Word) : (s.settle f g).boot = s.boot := (s.settle_replied f g).boot
@[simp] theorem State.settle_dev (s : State) (f : Deferred → Bool) (g : Deferred → Nat × List Word) : (s.settle f g).dev = s.dev := (s.settle_replied f g).dev
@[simp] theorem State.settle_cyc (s : State) (f : Deferred → Bool) (g : Deferred → Nat × List Word) : (s.settle f g).cyc = s.cyc := (s.settle_replied f g).cyc
@[simp] theorem State.settle_mem (s : State) (f : Deferred → Bool) (g : Deferred → Nat × List Word) : (s.settle f g).mem = s.mem := (s.settle_replied f g).mem
@[simp] theorem State.settle_flt (s : State) (f : Deferred → Bool) (g : Deferred → Nat × List Word) : (s.settle f g).flt = s.flt := (s.settle_replied f g).flt
@[simp] theorem State.settle_tally (s : State) (f : Deferred → Bool) (g : Deferred → Nat × List Word) : (s.settle f g).tally = s.tally := (s.settle_replied f g).tally
@[simp] theorem State.settle_pwr (s : State) (f : Deferred → Bool) (g : Deferred → Nat × List Word) : (s.settle f g).pwr = s.pwr := (s.settle_replied f g).pwr
@[simp] theorem State.settle_graph (s : State) (f : Deferred → Bool) (g : Deferred → Nat × List Word) : (s.settle f g).graph = s.graph := (s.settle_replied f g).graph
@[simp] theorem State.settle_sched (s : State) (f : Deferred → Bool) (g : Deferred → Nat × List Word) : (s.settle f g).sched = s.sched := (s.settle_replied f g).sched
@[simp] theorem State.settle_loop (s : State) (f : Deferred → Bool) (g : Deferred → Nat × List Word) : (s.settle f g).loop = s.loop := (s.settle_replied f g).loop
@[simp] theorem State.settle_axis (s : State) (f : Deferred → Bool) (g : Deferred → Nat × List Word) : (s.settle f g).axis = s.axis := (s.settle_replied f g).axis
@[simp] theorem State.settle_adc (s : State) (f : Deferred → Bool) (g : Deferred → Nat × List Word) : (s.settle f g).adc = s.adc := (s.settle_replied f g).adc
@[simp] theorem State.settle_dio (s : State) (f : Deferred → Bool) (g : Deferred → Nat × List Word) : (s.settle f g).dio = s.dio := (s.settle_replied f g).dio
@[simp] theorem State.settle_acq (s : State) (f : Deferred → Bool) (g : Deferred → Nat × List Word) : (s.settle f g).acq = s.acq := (s.settle_replied f g).acq
@[simp] theorem State.settle_can (s : State) (f : Deferred → Bool) (g : Deferred → Nat × List Word) : (s.settle f g).can = s.can := (s.settle_replied f g).can
@[simp] theorem State.settle_net (s : State) (f : Deferred → Bool) (g : Deferred → Nat × List Word) : (s.settle f g).net = s.net := (s.settle_replied f g).net
@[simp] theorem State.settle_isl (s : State) (f : Deferred → Bool) (g : Deferred → Nat × List Word) : (s.settle f g).isl = s.isl := (s.settle_replied f g).isl
@[simp] theorem State.settle_pair (s : State) (f : Deferred → Bool) (g : Deferred → Nat × List Word) : (s.settle f g).pair = s.pair := (s.settle_replied f g).pair
@[simp] theorem State.settle_keep (s : State) (f : Deferred → Bool) (g : Deferred → Nat × List Word) : (s.settle f g).keep = s.keep := (s.settle_replied f g).keep

@[simp] theorem State.mirror_now (s : State) (op : Op) (p : Packet) (st : Nat) : (s.mirror op p st).now = s.now := (s.mirror_replied op p st).now
@[simp] theorem State.mirror_timeStep (s : State) (op : Op) (p : Packet) (st : Nat) : (s.mirror op p st).timeStep = s.timeStep := (s.mirror_replied op p st).timeStep
@[simp] theorem State.mirror_steer (s : State) (op : Op) (p : Packet) (st : Nat) : (s.mirror op p st).steer = s.steer := (s.mirror_replied op p st).steer
@[simp] theorem State.mirror_pending (s : State) (op : Op) (p : Packet) (st : Nat) : (s.mirror op p st).pending = s.pending := (s.mirror_replied op p st).pending
@[simp] theorem State.mirror_fresh (s : State) (op : Op) (p : Packet) (st : Nat) : (s.mirror op p st).fresh = s.fresh := (s.mirror_replied op p st).fresh
@[simp] theorem State.mirror_boot (s : State) (op : Op) (p : Packet) (st : Nat) : (s.mirror op p st).boot = s.boot := (s.mirror_replied op p st).boot
@[simp] theorem State.mirror_dev (s : State) (op : Op) (p : Packet) (st : Nat) : (s.mirror op p st).dev = s.dev := (s.mirror_replied op p st).dev
@[simp] theorem State.mirror_cyc (s : State) (op : Op) (p : Packet) (st : Nat) : (s.mirror op p st).cyc = s.cyc := (s.mirror_replied op p st).cyc
@[simp] theorem State.mirror_mem (s : State) (op : Op) (p : Packet) (st : Nat) : (s.mirror op p st).mem = s.mem := (s.mirror_replied op p st).mem
@[simp] theorem State.mirror_flt (s : State) (op : Op) (p : Packet) (st : Nat) : (s.mirror op p st).flt = s.flt := (s.mirror_replied op p st).flt
@[simp] theorem State.mirror_tally (s : State) (op : Op) (p : Packet) (st : Nat) : (s.mirror op p st).tally = s.tally := (s.mirror_replied op p st).tally
@[simp] theorem State.mirror_pwr (s : State) (op : Op) (p : Packet) (st : Nat) : (s.mirror op p st).pwr = s.pwr := (s.mirror_replied op p st).pwr
@[simp] theorem State.mirror_graph (s : State) (op : Op) (p : Packet) (st : Nat) : (s.mirror op p st).graph = s.graph := (s.mirror_replied op p st).graph
@[simp] theorem State.mirror_sched (s : State) (op : Op) (p : Packet) (st : Nat) : (s.mirror op p st).sched = s.sched := (s.mirror_replied op p st).sched
@[simp] theorem State.mirror_loop (s : State) (op : Op) (p : Packet) (st : Nat) : (s.mirror op p st).loop = s.loop := (s.mirror_replied op p st).loop
@[simp] theorem State.mirror_axis (s : State) (op : Op) (p : Packet) (st : Nat) : (s.mirror op p st).axis = s.axis := (s.mirror_replied op p st).axis
@[simp] theorem State.mirror_adc (s : State) (op : Op) (p : Packet) (st : Nat) : (s.mirror op p st).adc = s.adc := (s.mirror_replied op p st).adc
@[simp] theorem State.mirror_dio (s : State) (op : Op) (p : Packet) (st : Nat) : (s.mirror op p st).dio = s.dio := (s.mirror_replied op p st).dio
@[simp] theorem State.mirror_acq (s : State) (op : Op) (p : Packet) (st : Nat) : (s.mirror op p st).acq = s.acq := (s.mirror_replied op p st).acq
@[simp] theorem State.mirror_can (s : State) (op : Op) (p : Packet) (st : Nat) : (s.mirror op p st).can = s.can := (s.mirror_replied op p st).can
@[simp] theorem State.mirror_net (s : State) (op : Op) (p : Packet) (st : Nat) : (s.mirror op p st).net = s.net := (s.mirror_replied op p st).net
@[simp] theorem State.mirror_isl (s : State) (op : Op) (p : Packet) (st : Nat) : (s.mirror op p st).isl = s.isl := (s.mirror_replied op p st).isl
@[simp] theorem State.mirror_pair (s : State) (op : Op) (p : Packet) (st : Nat) : (s.mirror op p st).pair = s.pair := (s.mirror_replied op p st).pair
@[simp] theorem State.mirror_keep (s : State) (op : Op) (p : Packet) (st : Nat) : (s.mirror op p st).keep = s.keep := (s.mirror_replied op p st).keep

@[simp] theorem State.answer_droveCfg (s : State) (op : Op) (p : Packet) (st : Nat) (ws : List Word) : (s.answer op p st ws).drove.cfg = s.drove.cfg := (s.answer_replied op p st ws).droveCfg
@[simp] theorem State.settle_droveCfg (s : State) (f : Deferred → Bool) (g : Deferred → Nat × List Word) : (s.settle f g).drove.cfg = s.drove.cfg := (s.settle_replied f g).droveCfg

@[simp] theorem State.recordConfig_now (s : State) (op : Op) (st : Nat) : (s.recordConfig op st).now = s.now := by
  obtain ⟨_, h⟩ := s.recordConfig_eq op st; rw [h]
@[simp] theorem State.recordConfig_timeStep (s : State) (op : Op) (st : Nat) : (s.recordConfig op st).timeStep = s.timeStep := by
  obtain ⟨_, h⟩ := s.recordConfig_eq op st; rw [h]
@[simp] theorem State.recordConfig_steer (s : State) (op : Op) (st : Nat) : (s.recordConfig op st).steer = s.steer := by
  obtain ⟨_, h⟩ := s.recordConfig_eq op st; rw [h]
@[simp] theorem State.recordConfig_pending (s : State) (op : Op) (st : Nat) : (s.recordConfig op st).pending = s.pending := by
  obtain ⟨_, h⟩ := s.recordConfig_eq op st; rw [h]
@[simp] theorem State.recordConfig_fresh (s : State) (op : Op) (st : Nat) : (s.recordConfig op st).fresh = s.fresh := by
  obtain ⟨_, h⟩ := s.recordConfig_eq op st; rw [h]
@[simp] theorem State.recordConfig_dev (s : State) (op : Op) (st : Nat) : (s.recordConfig op st).dev = s.dev := by
  obtain ⟨_, h⟩ := s.recordConfig_eq op st; rw [h]
@[simp] theorem State.recordConfig_cyc (s : State) (op : Op) (st : Nat) : (s.recordConfig op st).cyc = s.cyc := by
  obtain ⟨_, h⟩ := s.recordConfig_eq op st; rw [h]
@[simp] theorem State.recordConfig_mem (s : State) (op : Op) (st : Nat) : (s.recordConfig op st).mem = s.mem := by
  obtain ⟨_, h⟩ := s.recordConfig_eq op st; rw [h]
@[simp] theorem State.recordConfig_flt (s : State) (op : Op) (st : Nat) : (s.recordConfig op st).flt = s.flt := by
  obtain ⟨_, h⟩ := s.recordConfig_eq op st; rw [h]
@[simp] theorem State.recordConfig_tally (s : State) (op : Op) (st : Nat) : (s.recordConfig op st).tally = s.tally := by
  obtain ⟨_, h⟩ := s.recordConfig_eq op st; rw [h]
@[simp] theorem State.recordConfig_pwr (s : State) (op : Op) (st : Nat) : (s.recordConfig op st).pwr = s.pwr := by
  obtain ⟨_, h⟩ := s.recordConfig_eq op st; rw [h]
@[simp] theorem State.recordConfig_graph (s : State) (op : Op) (st : Nat) : (s.recordConfig op st).graph = s.graph := by
  obtain ⟨_, h⟩ := s.recordConfig_eq op st; rw [h]
@[simp] theorem State.recordConfig_sched (s : State) (op : Op) (st : Nat) : (s.recordConfig op st).sched = s.sched := by
  obtain ⟨_, h⟩ := s.recordConfig_eq op st; rw [h]
@[simp] theorem State.recordConfig_loop (s : State) (op : Op) (st : Nat) : (s.recordConfig op st).loop = s.loop := by
  obtain ⟨_, h⟩ := s.recordConfig_eq op st; rw [h]
@[simp] theorem State.recordConfig_axis (s : State) (op : Op) (st : Nat) : (s.recordConfig op st).axis = s.axis := by
  obtain ⟨_, h⟩ := s.recordConfig_eq op st; rw [h]
@[simp] theorem State.recordConfig_adc (s : State) (op : Op) (st : Nat) : (s.recordConfig op st).adc = s.adc := by
  obtain ⟨_, h⟩ := s.recordConfig_eq op st; rw [h]
@[simp] theorem State.recordConfig_dio (s : State) (op : Op) (st : Nat) : (s.recordConfig op st).dio = s.dio := by
  obtain ⟨_, h⟩ := s.recordConfig_eq op st; rw [h]
@[simp] theorem State.recordConfig_acq (s : State) (op : Op) (st : Nat) : (s.recordConfig op st).acq = s.acq := by
  obtain ⟨_, h⟩ := s.recordConfig_eq op st; rw [h]
@[simp] theorem State.recordConfig_can (s : State) (op : Op) (st : Nat) : (s.recordConfig op st).can = s.can := by
  obtain ⟨_, h⟩ := s.recordConfig_eq op st; rw [h]
@[simp] theorem State.recordConfig_net (s : State) (op : Op) (st : Nat) : (s.recordConfig op st).net = s.net := by
  obtain ⟨_, h⟩ := s.recordConfig_eq op st; rw [h]
@[simp] theorem State.recordConfig_isl (s : State) (op : Op) (st : Nat) : (s.recordConfig op st).isl = s.isl := by
  obtain ⟨_, h⟩ := s.recordConfig_eq op st; rw [h]
@[simp] theorem State.recordConfig_pair (s : State) (op : Op) (st : Nat) : (s.recordConfig op st).pair = s.pair := by
  obtain ⟨_, h⟩ := s.recordConfig_eq op st; rw [h]
@[simp] theorem State.recordConfig_keep (s : State) (op : Op) (st : Nat) : (s.recordConfig op st).keep = s.keep := by
  obtain ⟨_, h⟩ := s.recordConfig_eq op st; rw [h]
@[simp] theorem State.conclude_now (s : State) (op : Op) (p : Packet) (st : Nat) (ws : List Word) : (s.conclude op p st ws).now = s.now :=
  (s.conclude_eq op p st ws).choose_spec.now
@[simp] theorem State.conclude_timeStep (s : State) (op : Op) (p : Packet) (st : Nat) (ws : List Word) : (s.conclude op p st ws).timeStep = s.timeStep :=
  (s.conclude_eq op p st ws).choose_spec.timeStep
@[simp] theorem State.conclude_steer (s : State) (op : Op) (p : Packet) (st : Nat) (ws : List Word) : (s.conclude op p st ws).steer = s.steer :=
  (s.conclude_eq op p st ws).choose_spec.steer
@[simp] theorem State.conclude_pending (s : State) (op : Op) (p : Packet) (st : Nat) (ws : List Word) : (s.conclude op p st ws).pending = s.pending :=
  (s.conclude_eq op p st ws).choose_spec.pending
@[simp] theorem State.conclude_fresh (s : State) (op : Op) (p : Packet) (st : Nat) (ws : List Word) : (s.conclude op p st ws).fresh = s.fresh :=
  (s.conclude_eq op p st ws).choose_spec.fresh
@[simp] theorem State.conclude_dev (s : State) (op : Op) (p : Packet) (st : Nat) (ws : List Word) : (s.conclude op p st ws).dev = s.dev :=
  (s.conclude_eq op p st ws).choose_spec.dev
@[simp] theorem State.conclude_cyc (s : State) (op : Op) (p : Packet) (st : Nat) (ws : List Word) : (s.conclude op p st ws).cyc = s.cyc :=
  (s.conclude_eq op p st ws).choose_spec.cyc
@[simp] theorem State.conclude_mem (s : State) (op : Op) (p : Packet) (st : Nat) (ws : List Word) : (s.conclude op p st ws).mem = s.mem :=
  (s.conclude_eq op p st ws).choose_spec.mem
@[simp] theorem State.conclude_flt (s : State) (op : Op) (p : Packet) (st : Nat) (ws : List Word) : (s.conclude op p st ws).flt = s.flt :=
  (s.conclude_eq op p st ws).choose_spec.flt
@[simp] theorem State.conclude_tally (s : State) (op : Op) (p : Packet) (st : Nat) (ws : List Word) : (s.conclude op p st ws).tally = s.tally :=
  (s.conclude_eq op p st ws).choose_spec.tally
@[simp] theorem State.conclude_pwr (s : State) (op : Op) (p : Packet) (st : Nat) (ws : List Word) : (s.conclude op p st ws).pwr = s.pwr :=
  (s.conclude_eq op p st ws).choose_spec.pwr
@[simp] theorem State.conclude_graph (s : State) (op : Op) (p : Packet) (st : Nat) (ws : List Word) : (s.conclude op p st ws).graph = s.graph :=
  (s.conclude_eq op p st ws).choose_spec.graph
@[simp] theorem State.conclude_sched (s : State) (op : Op) (p : Packet) (st : Nat) (ws : List Word) : (s.conclude op p st ws).sched = s.sched :=
  (s.conclude_eq op p st ws).choose_spec.sched
@[simp] theorem State.conclude_loop (s : State) (op : Op) (p : Packet) (st : Nat) (ws : List Word) : (s.conclude op p st ws).loop = s.loop :=
  (s.conclude_eq op p st ws).choose_spec.loop
@[simp] theorem State.conclude_axis (s : State) (op : Op) (p : Packet) (st : Nat) (ws : List Word) : (s.conclude op p st ws).axis = s.axis :=
  (s.conclude_eq op p st ws).choose_spec.axis
@[simp] theorem State.conclude_adc (s : State) (op : Op) (p : Packet) (st : Nat) (ws : List Word) : (s.conclude op p st ws).adc = s.adc :=
  (s.conclude_eq op p st ws).choose_spec.adc
@[simp] theorem State.conclude_dio (s : State) (op : Op) (p : Packet) (st : Nat) (ws : List Word) : (s.conclude op p st ws).dio = s.dio :=
  (s.conclude_eq op p st ws).choose_spec.dio
@[simp] theorem State.conclude_acq (s : State) (op : Op) (p : Packet) (st : Nat) (ws : List Word) : (s.conclude op p st ws).acq = s.acq :=
  (s.conclude_eq op p st ws).choose_spec.acq
@[simp] theorem State.conclude_can (s : State) (op : Op) (p : Packet) (st : Nat) (ws : List Word) : (s.conclude op p st ws).can = s.can :=
  (s.conclude_eq op p st ws).choose_spec.can
@[simp] theorem State.conclude_net (s : State) (op : Op) (p : Packet) (st : Nat) (ws : List Word) : (s.conclude op p st ws).net = s.net :=
  (s.conclude_eq op p st ws).choose_spec.net
@[simp] theorem State.conclude_isl (s : State) (op : Op) (p : Packet) (st : Nat) (ws : List Word) : (s.conclude op p st ws).isl = s.isl :=
  (s.conclude_eq op p st ws).choose_spec.isl
@[simp] theorem State.conclude_pair (s : State) (op : Op) (p : Packet) (st : Nat) (ws : List Word) : (s.conclude op p st ws).pair = s.pair :=
  (s.conclude_eq op p st ws).choose_spec.pair
@[simp] theorem State.conclude_keep (s : State) (op : Op) (p : Packet) (st : Nat) (ws : List Word) : (s.conclude op p st ws).keep = s.keep :=
  (s.conclude_eq op p st ws).choose_spec.keep

/-! The rings themselves stay too. -/

theorem flushUdp_rings (l : List UdpOut) : ∀ s : State,
    (l.foldl (fun s d => s.emit (.datagram d.via d.ip d.port d.words)) s).host.rings = s.host.rings := by
  induction l with
  | nil => exact fun _ => rfl
  | cons d l ih => exact fun s => ih _

@[simp] theorem State.sendUdp_rings (s : State) (v i p : Nat) (ws : List Word) : (s.sendUdp v i p ws).host.rings = s.host.rings := by
  have h (u : State) (f : HostUnit → HostUnit) (hf : (f u.host).rings = u.host.rings) :
      (if hasCycle (u.modHost f) then u.modHost f else (u.modHost f).flushUdp).host.rings = u.host.rings := by
    split
    · exact hf
    · exact (flushUdp_rings _ _).trans hf
  unfold State.sendUdp; dsimp only; split
  · rfl
  · refine (h _ _ rfl).trans ?_
    repeat' split
    all_goals rfl

@[simp] theorem State.replyOnRing_rings (s : State) (m : Nat) (ws : List Word) : (s.replyOnRing m ws none).host.rings = s.host.rings := by
  unfold State.replyOnRing; dsimp only; split <;> rfl

@[simp] theorem State.sendReply_rings (s : State) (o : Origin) (g : Word) (ws : List Word) :
    (s.sendReply o g ws).host.rings = s.host.rings := by
  cases o with
  | ring n => exact s.replyOnRing_rings _ _
  | replyTo m => exact s.replyOnRing_rings _ _
  | udp n v i p => exact State.sendUdp_rings _ _ _ _ _
  | above => rfl
  | mirror => rfl
  | lost => rfl

@[simp] theorem State.answer_rings (s : State) (op : Op) (p : Packet) (st : Nat) (ws : List Word) :
    (s.answer op p st ws).host.rings = s.host.rings := by
  unfold State.answer State.answerAt; split
  · exact State.sendReply_rings _ _ _ _
  · dsimp only; split <;> rfl

theorem answerAll_rings (g : Deferred → Nat × List Word) (l : List Deferred) : ∀ s : State,
    (l.foldl (fun s d => s.answer d.op d.packet (g d).1 (g d).2) s).host.rings = s.host.rings := by
  induction l with
  | nil => exact fun _ => rfl
  | cons d l ih => exact fun s => (ih _).trans (s.answer_rings _ _ _ _)

@[simp] theorem State.settle_rings (s : State) (f : Deferred → Bool) (g : Deferred → Nat × List Word) :
    (s.settle f g).host.rings = s.host.rings := (answerAll_rings g _ _).trans rfl

end Sys2Proof.Machine
end

