-- ==== Sys2Proof/Laws/Frames.lean ====
section
/-! SUPPORT. What the operations that every unit shares leave alone: records, interrupts, the mode, faults and publications
touch no byte of memory, and the clock moves by events alone. -/

namespace Sys2Proof.Machine

@[simp] theorem State.note_mem (s : State) (r : TallyRec) : (s.note r).mem = s.mem := by
  unfold State.note; split <;> split <;> rfl

@[simp] theorem State.note_now (s : State) (r : TallyRec) : (s.note r).now = s.now := by
  unfold State.note; split <;> split <;> rfl

@[simp] theorem State.note_isl (s : State) (r : TallyRec) : (s.note r).isl = s.isl := by
  unfold State.note; split <;> split <;> rfl

@[simp] theorem State.record_mem (s : State) (u c v d e : Nat) : (s.record u c v d e).mem = s.mem := State.note_mem _ _
@[simp] theorem State.record_now (s : State) (u c v d e : Nat) : (s.record u c v d e).now = s.now := State.note_now _ _
@[simp] theorem State.record_isl (s : State) (u c v d e : Nat) : (s.record u c v d e).isl = s.isl := State.note_isl _ _

@[simp] theorem State.transient_mem (s : State) (u c d : Nat) : (s.transient u c d).mem = s.mem := State.note_mem _ _
@[simp] theorem State.transient_now (s : State) (u c d : Nat) : (s.transient u c d).now = s.now := State.note_now _ _
@[simp] theorem State.transient_isl (s : State) (u c d : Nat) : (s.transient u c d).isl = s.isl := State.note_isl _ _

@[simp] theorem State.recordEv_mem (s : State) (u c v d : Nat) (t : Bool) : (s.recordEv u c v d t).mem = s.mem := State.note_mem _ _
@[simp] theorem State.recordEv_now (s : State) (u c v d : Nat) (t : Bool) : (s.recordEv u c v d t).now = s.now := State.note_now _ _
@[simp] theorem State.recordEv_isl (s : State) (u c v d : Nat) (t : Bool) : (s.recordEv u c v d t).isl = s.isl := State.note_isl _ _

@[simp] theorem State.recordOpen_mem (s : State) (u c v : Nat) (t : Bool) : (s.recordOpen u c v t).mem = s.mem := by
  unfold State.recordOpen; rw [State.recordEv_mem]; rfl
@[simp] theorem State.recordOpen_now (s : State) (u c v : Nat) (t : Bool) : (s.recordOpen u c v t).now = s.now := by
  unfold State.recordOpen; rw [State.recordEv_now]; rfl
@[simp] theorem State.recordOpen_isl (s : State) (u c v : Nat) (t : Bool) : (s.recordOpen u c v t).isl = s.isl := by
  unfold State.recordOpen; rw [State.recordEv_isl]; rfl

@[simp] theorem State.sendVector_mem (s : State) (v : Nat) : (s.sendVector v).mem = s.mem := by
  unfold State.sendVector; dsimp only; repeat' split
  all_goals rfl

@[simp] theorem State.sendVector_now (s : State) (v : Nat) : (s.sendVector v).now = s.now := by
  unfold State.sendVector; dsimp only; repeat' split
  all_goals rfl

@[simp] theorem State.sendVector_isl (s : State) (v : Nat) : (s.sendVector v).isl = s.isl := by
  unfold State.sendVector; dsimp only; repeat' split
  all_goals rfl

@[simp] theorem State.setMode_mem (s : State) (m : Mode) : (s.setMode m).mem = s.mem := by
  unfold State.setMode; split <;> simp
@[simp] theorem State.setMode_now (s : State) (m : Mode) : (s.setMode m).now = s.now := by
  unfold State.setMode; split <;> simp
@[simp] theorem State.setMode_isl (s : State) (m : Mode) : (s.setMode m).isl = s.isl := by
  unfold State.setMode; split <;> simp

@[simp] theorem State.enterSafe_mem (s : State) (c : Nat) : (s.enterSafe c).mem = s.mem := by
  unfold State.enterSafe; split <;> simp
@[simp] theorem State.enterSafe_now (s : State) (c : Nat) : (s.enterSafe c).now = s.now := by
  unfold State.enterSafe; split <;> simp
@[simp] theorem State.enterSafe_isl (s : State) (c : Nat) : (s.enterSafe c).isl = s.isl := by
  unfold State.enterSafe; split <;> simp

@[simp] theorem State.askGiveUp_mem (s : State) (g : GiveUp) : (s.askGiveUp g).mem = s.mem := by
  unfold State.askGiveUp; split <;> simp
@[simp] theorem State.askGiveUp_now (s : State) (g : GiveUp) : (s.askGiveUp g).now = s.now := by
  unfold State.askGiveUp; split <;> simp
@[simp] theorem State.askGiveUp_isl (s : State) (g : GiveUp) : (s.askGiveUp g).isl = s.isl := by
  unfold State.askGiveUp; split <;> simp

@[simp] theorem State.react_mem (s : State) (f : Fault566) : (s.react f).mem = s.mem := by
  unfold State.react; dsimp only; repeat' split
  all_goals simp
@[simp] theorem State.react_now (s : State) (f : Fault566) : (s.react f).now = s.now := by
  unfold State.react; dsimp only; repeat' split
  all_goals simp
@[simp] theorem State.react_isl (s : State) (f : Fault566) : (s.react f).isl = s.isl := by
  unfold State.react; dsimp only; repeat' split
  all_goals simp

/-- Taking up faults changes neither memory, nor the clock, nor the island. -/
theorem takeUp_keeps : ∀ (n : Nat) (s : State), (takeUp n s).mem = s.mem ∧ (takeUp n s).now = s.now ∧ (takeUp n s).isl = s.isl
  | 0, _ => ⟨rfl, rfl, rfl⟩
  | n + 1, s => by
    unfold takeUp; dsimp only
    split
    · exact ⟨rfl, rfl, rfl⟩
    · split
      · exact ⟨rfl, rfl, rfl⟩
      · split
        · obtain ⟨a, b, c⟩ := takeUp_keeps n _
          exact ⟨a.trans (by simp), b.trans (by simp), c.trans (by simp)⟩
        · simp

@[simp] theorem takeUp_mem (n : Nat) (s : State) : (takeUp n s).mem = s.mem := (takeUp_keeps n s).1
@[simp] theorem takeUp_now (n : Nat) (s : State) : (takeUp n s).now = s.now := (takeUp_keeps n s).2.1
@[simp] theorem takeUp_isl (n : Nat) (s : State) : (takeUp n s).isl = s.isl := (takeUp_keeps n s).2.2

@[simp] theorem State.preempt_mem (s : State) (f : Fault566) : (s.preempt f).mem = s.mem := by
  unfold State.preempt; dsimp only; repeat' split
  all_goals simp
@[simp] theorem State.preempt_now (s : State) (f : Fault566) : (s.preempt f).now = s.now := by
  unfold State.preempt; dsimp only; repeat' split
  all_goals simp
@[simp] theorem State.preempt_isl (s : State) (f : Fault566) : (s.preempt f).isl = s.isl := by
  unfold State.preempt; dsimp only; repeat' split
  all_goals simp

@[simp] theorem State.queueOverflow_mem (s : State) : s.queueOverflow.mem = s.mem := by
  unfold State.queueOverflow; dsimp only; repeat' split
  all_goals simp
@[simp] theorem State.queueOverflow_now (s : State) : s.queueOverflow.now = s.now := by
  unfold State.queueOverflow; dsimp only; repeat' split
  all_goals simp
@[simp] theorem State.queueOverflow_isl (s : State) : s.queueOverflow.isl = s.isl := by
  unfold State.queueOverflow; dsimp only; repeat' split
  all_goals simp

@[simp] theorem State.reportFault_mem (s : State) (u c v d : Nat) (k : Bool) : (s.reportFault u c v d k).mem = s.mem := by
  unfold State.reportFault; dsimp only; repeat' split
  all_goals simp
@[simp] theorem State.reportFault_now (s : State) (u c v d : Nat) (k : Bool) : (s.reportFault u c v d k).now = s.now := by
  unfold State.reportFault; dsimp only; repeat' split
  all_goals simp
@[simp] theorem State.reportFault_isl (s : State) (u c v d : Nat) (k : Bool) : (s.reportFault u c v d k).isl = s.isl := by
  unfold State.reportFault; dsimp only; repeat' split
  all_goals simp

@[simp] theorem State.reportOpen_mem (s : State) (u c v : Nat) (k : Bool) : (s.reportOpen u c v k).mem = s.mem := by
  unfold State.reportOpen; rw [State.reportFault_mem]; rfl
@[simp] theorem State.reportOpen_now (s : State) (u c v : Nat) (k : Bool) : (s.reportOpen u c v k).now = s.now := by
  unfold State.reportOpen; rw [State.reportFault_now]; rfl
@[simp] theorem State.reportOpen_isl (s : State) (u c v : Nat) (k : Bool) : (s.reportOpen u c v k).isl = s.isl := by
  unfold State.reportOpen; rw [State.reportFault_isl]; rfl

@[simp] theorem State.publishAt_mem (s : State) (e t v : Nat) : (s.publishAt e t v).mem = s.mem := by
  unfold State.publishAt; dsimp only; split <;> rfl
@[simp] theorem State.publishAt_now (s : State) (e t v : Nat) : (s.publishAt e t v).now = s.now := by
  unfold State.publishAt; dsimp only; split <;> rfl
@[simp] theorem State.publishAt_isl (s : State) (e t v : Nat) : (s.publishAt e t v).isl = s.isl := by
  unfold State.publishAt; dsimp only; split <;> rfl
@[simp] theorem State.publish_mem (s : State) (e v : Nat) : (s.publish e v).mem = s.mem := State.publishAt_mem _ _ _ _
@[simp] theorem State.publish_now (s : State) (e v : Nat) : (s.publish e v).now = s.now := State.publishAt_now _ _ _ _
@[simp] theorem State.publish_isl (s : State) (e v : Nat) : (s.publish e v).isl = s.isl := State.publishAt_isl _ _ _ _

/-- An operation of the shared ones keeps the canonical form of memory, as it touches no byte. -/
theorem canonical_of_mem {s t : State} (h : Canonical s) (e : t.mem = s.mem) : Canonical t := by
  unfold Canonical; rw [e]; exact h

end Sys2Proof.Machine
end

