-- ==== Sys2Proof/Laws/Table.lean ====
section
/-! SUPPORT. Reading after writing in a table of canonical form, and that every table operation keeps that form. -/

namespace Sys2Proof.Machine

variable {α : Type} [DecidableEq α] {d : α}

omit [DecidableEq α] in
/-- A lower bound of the first index is a lower bound of a table of canonical form. -/
theorem above_mono {k m : Nat} (h : m ≤ k) : ∀ {t : Tab α}, above k t = true → above m t = true
  | [], _ => rfl
  | (j, _) :: _, ha => by simp only [above, decide_eq_true_eq] at ha ⊢; omega

/-- The parts of the canonical form. -/
theorem wf_cons {j : Nat} {v : α} {r : Tab α} :
    Tab.wf d ((j, v) :: r) = true ↔ above j r = true ∧ v ≠ d ∧ Tab.wf d r = true := by
  simp only [Tab.wf, Bool.and_eq_true, decide_eq_true_eq, and_assoc]

/-- An index below every listed one reads as unlisted. -/
theorem look_of_above : ∀ {t : Tab α} {k : Nat}, Tab.wf d t = true → above k t = true → look d t k = d
  | [], _, _, _ => rfl
  | (j, v) :: r, k, hw, ha => by
    obtain ⟨h1, _, h3⟩ := wf_cons.1 hw
    simp only [above, decide_eq_true_eq] at ha
    have hj : j ≠ k := by omega
    simp only [look, if_neg hj]
    exact look_of_above h3 (above_mono (Nat.le_of_lt ha) h1)

/-- Writing keeps a bound below the index written. -/
theorem above_put {m : Nat} : ∀ {t : Tab α} {k : Nat} {v : α}, Tab.wf d t = true → above m t = true → m < k → above m (put d t k v) = true
  | [], k, v, _, _, hm => by unfold put; split <;> simp [above, hm]
  | (j, w) :: r, k, v, hw, ha, hm => by
    obtain ⟨h1, _, _⟩ := wf_cons.1 hw
    simp only [above, decide_eq_true_eq] at ha
    unfold put
    split
    · split <;> simp [above, ha, hm]
    · split
      · split
        · exact above_mono (Nat.le_of_lt ha) h1
        · simp [above, hm]
      · simp [above, ha]

/-- Writing keeps the canonical form. -/
theorem put_wf : ∀ {t : Tab α} (k : Nat) (v : α), Tab.wf d t = true → Tab.wf d (put d t k v) = true
  | [], k, v, _ => by unfold put; split <;> simp_all [Tab.wf, above]
  | (j, w) :: r, k, v, hw => by
    obtain ⟨h1, h2, h3⟩ := wf_cons.1 hw
    unfold put
    split
    · rename_i hk
      split
      · exact hw
      · rename_i hv; exact wf_cons.2 ⟨by simp [above, hk], hv, hw⟩
    · split
      · rename_i hk
        split
        · exact h3
        · rename_i hv; exact wf_cons.2 ⟨hk ▸ h1, hv, h3⟩
      · rename_i hk hj
        exact wf_cons.2 ⟨above_put h3 h1 (by omega), h2, put_wf k v h3⟩

/-- Reading the index that was written. -/
theorem look_put_same : ∀ {t : Tab α} (k : Nat) (v : α), Tab.wf d t = true → look d (put d t k v) k = v
  | [], k, v, _ => by unfold put; split <;> simp_all [look]
  | (j, w) :: r, k, v, hw => by
    obtain ⟨h1, _, h3⟩ := wf_cons.1 hw
    unfold put
    split
    · rename_i hk
      split
      · rename_i hv; rw [hv]; exact look_of_above hw (by simp [above, hk])
      · simp [look]
    · split
      · rename_i hk
        split
        · rename_i hv; rw [hv]; exact look_of_above h3 (hk ▸ h1)
        · simp [look]
      · rename_i hk hj
        have : j ≠ k := fun h => hj h.symm
        simp only [look, if_neg this]; exact look_put_same k v h3

/-- Reading the index that was written, whatever the table, where the value is not that of an unlisted index. -/
theorem look_put_of_ne : ∀ (t : Tab α) (k : Nat) (v : α), v ≠ d → look d (put d t k v) k = v
  | [], k, v, hv => by unfold put; rw [if_neg hv]; simp [look]
  | (j, w) :: r, k, v, hv => by
    unfold put
    rw [if_neg hv, if_neg hv]
    split
    · simp [look]
    · split
      · simp [look]
      · rename_i hj
        have : j ≠ k := fun h => hj h.symm
        simp only [look, if_neg this]; exact look_put_of_ne r k v hv

/-- Reading another index, whatever the table. -/
theorem look_put_other : ∀ (t : Tab α) {k m : Nat} (v : α), m ≠ k → look d (put d t k v) m = look d t m
  | [], k, m, v, hm => by unfold put; split <;> simp [look, Ne.symm hm]
  | (j, w) :: r, k, m, v, hm => by
    unfold put
    split
    · split
      · rfl
      · simp [look, Ne.symm hm]
    · split
      · rename_i hk
        split
        · simp [look, hk ▸ Ne.symm hm]
        · simp [look, Ne.symm hm, hk ▸ Ne.symm hm]
      · by_cases hj : j = m
        · simp [look, hj]
        · simp only [look, if_neg hj]; exact look_put_other r v hm

/-- Leaving entries out keeps a lower bound. -/
theorem above_filter (f : Nat × α → Bool) {m : Nat} : ∀ {t : Tab α}, Tab.wf d t = true → above m t = true → above m (t.filter f) = true
  | [], _, _ => rfl
  | (j, v) :: r, hw, ha => by
    obtain ⟨h1, _, h3⟩ := wf_cons.1 hw
    simp only [above, decide_eq_true_eq] at ha
    rw [List.filter_cons]
    split
    · simp [above, ha]
    · exact above_filter f h3 (above_mono (Nat.le_of_lt ha) h1)

/-- Leaving entries out keeps the canonical form. -/
theorem filter_wf (f : Nat × α → Bool) : ∀ {t : Tab α}, Tab.wf d t = true → Tab.wf d (t.filter f) = true
  | [], _ => rfl
  | (j, v) :: r, hw => by
    obtain ⟨h1, h2, h3⟩ := wf_cons.1 hw
    rw [List.filter_cons]
    split
    · exact wf_cons.2 ⟨above_filter f h3 h1, h2, filter_wf f h3⟩
    · exact filter_wf f h3

/-- What is read of a table that keeps the entries of some indices only. -/
theorem look_filter (f : Nat → Bool) : ∀ {t : Tab α} (k : Nat), Tab.wf d t = true →
    look d (t.filter fun e => f e.1) k = if f k then look d t k else d
  | [], k, _ => by simp [look]
  | (j, v) :: r, k, hw => by
    obtain ⟨h1, _, h3⟩ := wf_cons.1 hw
    have ih := look_filter f k h3
    rw [List.filter_cons]
    by_cases hj : j = k
    · subst hj
      by_cases hf : f j = true
      · simp [hf, look]
      · simp only [hf, Bool.false_eq_true, ↓reduceIte] at ih ⊢; exact ih
    · split
      · simp only [look, if_neg hj]; exact ih
      · simp only [look, if_neg hj]; exact ih

/-- Changing one entry keeps the canonical form. -/
theorem upd_wf {t : Tab α} (k : Nat) (f : α → α) (h : Tab.wf d t = true) : Tab.wf d (upd d t k f) = true := put_wf _ _ h

end Sys2Proof.Machine
end

