-- ==== Sys2Proof/Laws/Memory.lean ====
section
/-! SUPPORT. Memory: what is read after a write, and that each operation on the memories keeps their canonical form. -/

namespace Sys2Proof.Machine

theorem storeBytes_wf : ∀ (bs : List Byte) (a : Nat) {t : Tab Byte}, Memory.wf t → Memory.wf (storeBytes a bs t)
  | [], _, _, h => h
  | b :: r, a, _, h => storeBytes_wf r (a + 1) (put_wf a b h)

theorem clearRange_wf (lo hi : Nat) {t : Tab Byte} (h : Memory.wf t) : Memory.wf (clearRange lo hi t) := filter_wf _ h

/-- Addresses below the bytes stored keep theirs. -/
theorem look_storeBytes_below : ∀ (bs : List Byte) (a x : Nat) {t : Tab Byte}, Memory.wf t → x < a →
    look 0 (storeBytes a bs t) x = look 0 t x
  | [], _, _, _, _, _ => rfl
  | b :: r, a, x, t, h, hx => by
    have h1 := look_storeBytes_below r (a + 1) x (put_wf a b h) (by omega)
    have h2 := look_put_other (d := (0 : Byte)) t b (show x ≠ a by omega)
    simp only [storeBytes]; rw [h1, h2]

/-- Addresses above the bytes stored keep theirs. -/
theorem look_storeBytes_above : ∀ (bs : List Byte) (a x : Nat) {t : Tab Byte}, Memory.wf t → a + bs.length ≤ x →
    look 0 (storeBytes a bs t) x = look 0 t x
  | [], _, _, _, _, _ => rfl
  | b :: r, a, x, t, h, hx => by
    simp only [List.length_cons] at hx
    have h1 := look_storeBytes_above r (a + 1) x (put_wf a b h) (by omega)
    have h2 := look_put_other (d := (0 : Byte)) t b (show x ≠ a by omega)
    simp only [storeBytes]; rw [h1, h2]

/-- The bytes stored. -/
theorem look_storeBytes_at : ∀ (bs : List Byte) (a i : Nat) {t : Tab Byte}, Memory.wf t → i < bs.length →
    look 0 (storeBytes a bs t) (a + i) = bs.getD i 0
  | b :: r, a, 0, t, h, _ => by
    have h1 := look_storeBytes_below r (a + 1) a (put_wf a b h) (by omega)
    have h2 := look_put_same a b h
    simp only [storeBytes, Nat.add_zero]; rw [h1, h2]; rfl
  | b :: r, a, i + 1, t, h, hi => by
    simp only [List.length_cons] at hi
    have h1 := look_storeBytes_at r (a + 1) i (put_wf a b h) (by omega)
    simp only [storeBytes]; rw [show a + (i + 1) = a + 1 + i by omega, h1]; rfl

@[simp] theorem State.track_mem (s : State) (a n : Nat) : (s.track a n).mem = s.mem := by
  unfold State.track; split <;> rfl

@[simp] theorem State.coverPoison_store (s : State) (a n : Nat) : (s.coverPoison a n).mem.store = s.mem.store := by
  unfold State.coverPoison; split <;> rfl

@[simp] theorem State.writeBytes_store (s : State) (a : Nat) (bs : List Byte) :
    (s.writeBytes a bs).mem.store = storeBytes a bs s.mem.store := by simp [State.writeBytes]

@[simp] theorem State.zeroBytes_store (s : State) (a n : Nat) :
    (s.zeroBytes a n).mem.store = clearRange a (a + n) s.mem.store := by simp [State.zeroBytes, clearRange]

theorem State.writeBytes_canonical {s : State} (a : Nat) (bs : List Byte) (h : Canonical s) : Canonical (s.writeBytes a bs) := by
  simp only [Canonical, State.writeBytes_store]; exact storeBytes_wf bs a h

theorem State.zeroBytes_canonical {s : State} (a n : Nat) (h : Canonical s) : Canonical (s.zeroBytes a n) := by
  simp only [Canonical, State.zeroBytes_store]; exact clearRange_wf _ _ h

theorem State.writeNat_canonical {s : State} (a n v : Nat) (h : Canonical s) : Canonical (s.writeNat a n v) :=
  s.writeBytes_canonical a _ h

theorem State.writeWord_canonical {s : State} (a v : Nat) (h : Canonical s) : Canonical (s.writeWord a v) :=
  s.writeBytes_canonical a _ h

theorem State.writeWords_canonical {s : State} (a : Nat) (ws : List Word) (h : Canonical s) : Canonical (s.writeWords a ws) :=
  s.writeBytes_canonical a _ h

theorem State.coverPoison_canonical {s : State} (a n : Nat) (h : Canonical s) : Canonical (s.coverPoison a n) := by
  simp only [Canonical, State.coverPoison_store]; exact h

/-- Reading outside the bytes written. -/
theorem readByte_writeBytes_other {s : State} {a x : Nat} {bs : List Byte} (h : Canonical s) (hx : x < a ∨ a + bs.length ≤ x) :
    readByte (s.writeBytes a bs) x = readByte s x := by
  simp only [readByte, State.writeBytes_store]
  rcases hx with hx | hx
  · exact look_storeBytes_below bs a x h hx
  · exact look_storeBytes_above bs a x h hx

/-- Reading the bytes written. -/
theorem readByte_writeBytes_at {s : State} {a i : Nat} {bs : List Byte} (h : Canonical s) (hi : i < bs.length) :
    readByte (s.writeBytes a bs) (a + i) = bs.getD i 0 := by
  simp only [readByte, State.writeBytes_store]
  exact look_storeBytes_at bs a i h hi

/-! ### Words -/

theorem natOfBytes_lt : ∀ bs : List Byte, natOfBytes bs < 256 ^ bs.length
  | [] => by simp [natOfBytes]
  | b :: r => by
    have h := natOfBytes_lt r
    have hb : b.toNat < 256 := b.isLt
    simp only [natOfBytes, List.length_cons, pow_succ]
    omega

theorem bytesOfNat_length : ∀ (k n : Nat), (bytesOfNat k n).length = k
  | 0, _ => rfl
  | k + 1, n => by simp [bytesOfNat, bytesOfNat_length k]

theorem natOfBytes_bytesOfNat : ∀ (k n : Nat), natOfBytes (bytesOfNat k n) = n % 256 ^ k
  | 0, n => by simp [bytesOfNat, natOfBytes, Nat.mod_one]
  | k + 1, n => by
    simp only [bytesOfNat, natOfBytes, natOfBytes_bytesOfNat k, BitVec.toNat_ofNat]
    have e : n % 256 ^ (k + 1) = n % 256 + 256 * (n / 256 % 256 ^ k) := by
      rw [show 256 ^ (k + 1) = 256 * 256 ^ k by ring, Nat.mod_mul]
    exact e.symm

/-- The bytes of a word spell its number. -/
theorem natOfBytes_bytesOf (w : Word) : natOfBytes (bytesOf w) = w.toNat := by
  have h := w.isLt
  simp [bytesOf, natOfBytes, Nat.shiftRight_eq_div_pow]
  omega

/-- Reading depends on the bytes in the range alone. -/
theorem readNat_congr {s u : State} {a n : Nat} (h : ∀ i < n, readByte u (a + i) = readByte s (a + i)) :
    readNat u a n = readNat s a n := by
  unfold readNat
  congr 1
  exact List.map_congr_left fun i hi => h i (List.mem_range.mp hi)

/-- The number in a range that was written as one. -/
theorem readNat_of_bytes {u : State} {a : Nat} {bs : List Byte} (h : ∀ i < bs.length, readByte u (a + i) = bs.getD i 0) :
    readNat u a bs.length = natOfBytes bs := by
  unfold readNat
  congr 1
  apply List.ext_getElem
  · simp
  · intro i h1 h2
    simp only [List.getElem_map, List.getElem_range]
    rw [h i h2]; simp [h2]

theorem readWord_writeWord_same {s : State} {a v : Nat} (h : Canonical s) : readWord (s.writeWord a v) a = v % 2 ^ 32 := by
  have hl : (bytesOfNat 4 v).length = 4 := bytesOfNat_length 4 v
  have := readNat_of_bytes (u := s.writeWord a v) (a := a) (bs := bytesOfNat 4 v) (fun i hi => readByte_writeBytes_at h hi)
  rw [hl, natOfBytes_bytesOfNat] at this
  simpa [readWord] using this

theorem readNat_writeBytes_other {s : State} {a x n : Nat} {bs : List Byte} (h : Canonical s) (hx : x + n ≤ a ∨ a + bs.length ≤ x) :
    readNat (s.writeBytes a bs) x n = readNat s x n :=
  readNat_congr fun i hi => readByte_writeBytes_other h (by omega)

theorem readWord_writeWord_other {s : State} {a x v : Nat} (h : Canonical s) (hx : x + 4 ≤ a ∨ a + 4 ≤ x) :
    readWord (s.writeWord a v) x = readWord s x :=
  readNat_writeBytes_other h (by simpa [bytesOfNat_length] using hx)

theorem flatMap_bytesOf_length : ∀ ws : List Word, (ws.flatMap bytesOf).length = 4 * ws.length
  | [] => rfl
  | w :: r => by simp [List.flatMap_cons, flatMap_bytesOf_length r, bytesOf]; omega

theorem readWord_writeWords_other {s : State} {a x : Nat} {ws : List Word} (h : Canonical s)
    (hx : x + 4 ≤ a ∨ a + 4 * ws.length ≤ x) : readWord (s.writeWords a ws) x = readWord s x :=
  readNat_writeBytes_other h (by rw [flatMap_bytesOf_length]; exact hx)

theorem getD_flatMap_bytesOf : ∀ (ws : List Word) (i j : Nat), j < 4 → i < ws.length →
    (ws.flatMap bytesOf).getD (4 * i + j) 0 = (bytesOf (ws.getD i 0)).getD j 0
  | [], i, j, _, hi => by simp at hi
  | w :: r, 0, j, hj, _ => by
    have hl : (bytesOf w).length = 4 := rfl
    simp only [List.flatMap_cons, List.getD_eq_getElem?_getD]
    rw [List.getElem?_append_left (by omega)]; simp
  | w :: r, i + 1, j, hj, hi => by
    have hl : (bytesOf w).length = 4 := rfl
    simp only [List.length_cons] at hi
    have := getD_flatMap_bytesOf r i j hj (by omega)
    simp only [List.flatMap_cons, List.getD_eq_getElem?_getD] at this ⊢
    rw [List.getElem?_append_right (by omega), show 4 * (i + 1) + j - (bytesOf w).length = 4 * i + j by omega, this]
    simp

theorem readWord_writeWords_at {s : State} {a i : Nat} {ws : List Word} (h : Canonical s) (hi : i < ws.length) :
    readWord (s.writeWords a ws) (a + 4 * i) = (ws.getD i 0).toNat := by
  have hb : ∀ j < (bytesOf (ws.getD i 0)).length, readByte (s.writeWords a ws) (a + 4 * i + j) = (bytesOf (ws.getD i 0)).getD j 0 := by
    intro j hj
    have hj4 : j < 4 := hj
    have h1 := readByte_writeBytes_at (s := s) (a := a) (i := 4 * i + j) (bs := ws.flatMap bytesOf) h
      (by rw [flatMap_bytesOf_length]; omega)
    rw [getD_flatMap_bytesOf ws i j hj4 hi] at h1
    rw [← h1, State.writeWords, Nat.add_assoc]
  have := readNat_of_bytes hb
  rw [natOfBytes_bytesOf] at this
  exact this

/-- Poison apart, covering it reads and keeps every byte. -/
@[simp] theorem State.coverPoison_readWord (s : State) (a n x : Nat) : readWord (s.coverPoison a n) x = readWord s x :=
  readNat_congr fun i _ => by simp [readByte]

end Sys2Proof.Machine
end

