-- ==== Sys2Proof/WellFormed.lean ====
section
/-! DEFINITION. Which commands are well formed: every operand within the width that the spec gives its field, every number
naming an item that some variant has (00 R1, R7). -/

namespace Sys2Proof

/-- The fields of a command packet fit the header of 02 R67. -/
def Packet.wellFormed (p : Packet) : Bool :=
  p.params.length ≤ 4092 && p.target < 2 ^ 20 && (!p.isLocal || p.target == 0) &&
  (match p.atCycle with | some x => x < 2 ^ 32 | none => true)

/-- An access of 1 to 64 bytes at a device address (16 R552). -/
def Access.wellFormed (x : Access) : Bool :=
  0 < x.size && x.size ≤ 64 && x.addr < 2 ^ 32 && (match x.data with | some v => v < 2 ^ (8 * x.size) | none => true)

/-- The header fields of a ring frame (10 R361). -/
def Frame.wellFormed (f : Frame) : Bool :=
  f.src < 256 && f.dst < 256 && f.ringTag < 65536 && f.slot < 512 && f.mode < 8 && f.cycle < 2 ^ 32 && f.corr < 2 ^ 20 &&
  f.hops < 256 && f.payload.length ≤ 256

/-- The fields of a beacon (10 R359). -/
def Beacon.wellFormed (b : Beacon) : Bool :=
  b.btype < 3 && b.state < 8 && b.port < 4 && b.ringTag < 65536 && b.seq < 65536 && b.turn < 2 ^ 32

/-- The fields of a CAN frame (12 R428). -/
def CanFrame.wellFormed (f : CanFrame) : Bool :=
  f.dlc < 16 && (if f.ide then f.id < 2 ^ 29 else f.id < 2 ^ 11) && f.data.length ≤ 16

/-- A command is well formed. -/
def Instr.wellFormed : Instr → Bool
  | .devIdentify p => p.wellFormed
  | .devReset p => p.wellFormed
  | .devResume p => p.wellFormed
  | .devSetMode p => p.wellFormed
  | .devSafeAck p => p.wellFormed
  | .devStatus p => p.wellFormed
  | .devResumeConfig p => p.wellFormed
  | .devCycleConfig p => p.wellFormed
  | .devCycleStatus p => p.wellFormed
  | .devChangeover p => p.wellFormed
  | .memRead p => p.wellFormed
  | .memWrite p => p.wellFormed
  | .memFill p => p.wellFormed
  | .memDma p => p.wellFormed
  | .memScrubConfig p => p.wellFormed
  | .memErrStatus p => p.wellFormed
  | .memFaultQueue p => p.wellFormed
  | .pwrLatencySet p => p.wellFormed
  | .pwrState p => p.wellFormed
  | .pwrGrazeConfig p => p.wellFormed
  | .pwrMonitorConfig p => p.wellFormed
  | .pwrMonitorRead p => p.wellFormed
  | .pwrDomainRetry p => p.wellFormed
  | .graphLoad p => p.wellFormed
  | .graphVerify p => p.wellFormed
  | .graphArm p => p.wellFormed
  | .graphDisarm p => p.wellFormed
  | .graphControl p => p.wellFormed
  | .graphStep p => p.wellFormed
  | .graphForce p => p.wellFormed
  | .graphVarRead p => p.wellFormed
  | .graphVarWrite p => p.wellFormed
  | .graphRollback p => p.wellFormed
  | .graphStatus p => p.wellFormed
  | .schedConfig p => p.wellFormed
  | .schedCounters p => p.wellFormed
  | .schedClearCounters p => p.wellFormed
  | .schedStatus p => p.wellFormed
  | .loopChannelConfig p => p.wellFormed
  | .loopCoefWrite p => p.wellFormed
  | .loopBankArm p => p.wellFormed
  | .loopBankSwap p => p.wellFormed
  | .loopMode p => p.wellFormed
  | .loopStateRead p => p.wellFormed
  | .loopRepConfig p => p.wellFormed
  | .loopRepControl p => p.wellFormed
  | .loopLatency p => p.wellFormed
  | .axisConfig p => p.wellFormed
  | .axisTableWrite p => p.wellFormed
  | .axisStart p => p.wellFormed
  | .axisStop p => p.wellFormed
  | .axisStatus p => p.wellFormed
  | .axisSetPosition p => p.wellFormed
  | .axisStandstill p => p.wellFormed
  | .adcConfig p => p.wellFormed
  | .adcTableWrite p => p.wellFormed
  | .adcGroupConfig p => p.wellFormed
  | .adcUrgent p => p.wellFormed
  | .adcCalibrate p => p.wellFormed
  | .adcCalRead p => p.wellFormed
  | .adcCalWrite p => p.wellFormed
  | .adcStatus p => p.wellFormed
  | .acqSignalConfig p => p.wellFormed
  | .acqStreamConfig p => p.wellFormed
  | .acqWindowConfig p => p.wellFormed
  | .acqTriggerConfig p => p.wellFormed
  | .acqHistConfig p => p.wellFormed
  | .acqPmapConfig p => p.wellFormed
  | .acqControl p => p.wellFormed
  | .acqStatus p => p.wellFormed
  | .acqIndexRead p => p.wellFormed
  | .ringConfig p => p.wellFormed
  | .ringScheduleWrite p => p.wellFormed
  | .ringModeArm p => p.wellFormed
  | .ringStart p => p.wellFormed
  | .ringStatus p => p.wellFormed
  | .ringCounters p => p.wellFormed
  | .ringSyncConfig p => p.wellFormed
  | .ringTopology p => p.wellFormed
  | .canConfig p => p.wellFormed
  | .canFilterConfig p => p.wellFormed
  | .canBufferConfig p => p.wellFormed
  | .canTransmit p => p.wellFormed
  | .canCancel p => p.wellFormed
  | .canStatus p => p.wellFormed
  | .canRecover p => p.wellFormed
  | .canCounterConfig p => p.wellFormed
  | .timePortConfig p => p.wellFormed
  | .timePtpConfig p => p.wellFormed
  | .timeDomainSelect p => p.wellFormed
  | .timeRead p => p.wellFormed
  | .timeTsQueueRead p => p.wellFormed
  | .timeUdpConfig p => p.wellFormed
  | .timeStatus p => p.wellFormed
  | .safeParamLoad p => p.wellFormed
  | .safeSwitchRead p => p.wellFormed
  | .safeStatus p => p.wellFormed
  | .safeStop p => p.wellFormed
  | .safeReset p => p.wellFormed
  | .safeDiagRead p => p.wellFormed
  | .safeMemRead p => p.wellFormed
  | .pairConfig p => p.wellFormed
  | .pairStatus p => p.wellFormed
  | .pairHandover p => p.wellFormed
  | .pairCheckpointConfig p => p.wellFormed
  | .pairStandbyCheck p => p.wellFormed
  | .tallyConfig p => p.wellFormed
  | .tallyCursor p => p.wellFormed
  | .tallyRead p => p.wellFormed
  | .tallyClear p => p.wellFormed
  | .tallyStatus p => p.wellFormed
  | .dioInputConfig p => p.wellFormed
  | .dioOutputConfig p => p.wellFormed
  | .dioPwmConfig p => p.wellFormed
  | .dioEncConfig p => p.wellFormed
  | .dioRead p => p.wellFormed
  | .dioWrite p => p.wellFormed
  | .dioStatus p => p.wellFormed
  | .hostRingCreate p => p.wellFormed
  | .hostRingDestroy p => p.wellFormed
  | .hostEventRoute p => p.wellFormed
  | .prodDoorbell n _ _ => n < 64
  | .consDoorbell n _ _ => n < 64
  | .enable n _ _ => n < 64
  | .ringReset n _ => n < 64
  | .hostErrClear _ _ => true
  | .droppedRepliesRead _ => true
  | .hpPendingClear c _ _ => c < 8
  | .bufferLock c b _ => c < 8 && b < 128
  | .bufferRelease c b _ => c < 8 && b < 128
  | .resultRead n _ _ => n < 128
  | .cursorWrite _ _ => true
  | .windowRead _ => true
  | .bitSetWrite a n m _ => a + n ≤ 0x02000000 && (n == 1 || n == 2 || n == 4 || n == 8) && a % n == 0 && m < 2 ^ (8 * n)
  | .bitClearWrite a n m _ => a + n ≤ 0x02000000 && (n == 1 || n == 2 || n == 4 || n == 8) && a % n == 0 && m < 2 ^ (8 * n)
  | .registerWrite a x _ => 0x40000000 ≤ a && a < 0x41100000 && a % 4 == 0 && x < 2 ^ 32
  | .memoryAccess x _ => x.wellFormed
  | .configurationRequest _ _ => true
  | .qspiTransaction instr a _ _ _ => instr < 256 && a < 2 ^ 32
  | .udpDatagram n via _ _ _ _ _ => n < 64 && via < 2
  | .arpRequest via _ _ => via < 2
  | .hostInterfaceReset _ => true
  | .packetTake n _ _ _ _ => n < 64
  | .replyWrite n _ _ => n < 64
  | .holdoffExpiry n _ => n < 64
  | .timedCommand _ => true
  | .forward _ => true
  | .commandResend _ => true
  | .stTimeout _ => true
  | .coldPowerUp _ => true
  | .t1 _ => true
  | .pllLock _ => true
  | .fuseRead sel _ _ _ => sel < 4
  | .memoryClearing _ => true
  | .configureReached _ => true
  | .pciePerstRelease _ => true
  | .resetNAssert _ => true
  | .resetNRelease _ => true
  | .watchdogExpiry _ => true
  | .warmResetStart _ => true
  | .logicRelease _ => true
  | .configurationReplay _ _ _ => true
  | .resumeWindowClose _ => true
  | .resume _ => true
  | .supplyLoss n _ => n < 12
  | .islandStart _ => true
  | .selfTestDone _ _ _ => true
  | .cycleStart _ => true
  | .inputInstant _ => true
  | .inputReady _ => true
  | .commitPoint _ => true
  | .outputInstant _ => true
  | .safeEntry _ => true
  | .changeoverMessage src _ _ => (match src with | some n => n < 64 | none => true)
  | .changeoverReport _ => true
  | .changeoverDecide _ => true
  | .coUnresolved _ => true
  | .operationComplete c _ => c < 16
  | .operationStart c _ _ => c < 16
  | .take c _ => c < 16
  | .tokenSpill c _ => c < 16
  | .delayRelease n _ => n < 4
  | .shed n _ => n < 4
  | .urgentComplete c _ => c < 16
  | .sampleTick c _ => c < 1024
  | .evaluation p _ => p < 8
  | .resampling p _ => p < 8
  | .tick _ => true
  | .stepPulse a _ => a < 16
  | .dirChange a _ => a < 16
  | .standstill n _ => n < 256
  | .ss1Request pair _ => pair < 8
  | .latchEvent n _ => n < 16
  | .conversionComplete c raw _ _ _ => c < 16 && raw < 65536
  | .groupTrigger g _ => g < 4
  | .calibrationDone c _ => c < 16
  | .inputEdge n _ _ => n < 64
  | .stuck n _ => n < 64
  | .readback n _ _ => n < 64
  | .doutFault n _ _ => n < 64
  | .pwmPeriodStart n _ => n < 32
  | .encoderCount n _ _ _ => n < 16
  | .publication _ => true
  | .intervalClose c _ _ => c < 16
  | .recordCopy c _ _ => c < 16
  | .timeSet _ => true
  | .decay m _ => m < 4
  | .syncFrame f _ => f.wellFormed
  | .dataFrame f _ => f.wellFormed
  | .cmdFrame f _ => f.wellFormed
  | .modeFrame f _ => f.wellFormed
  | .joinFrame f _ => f.wellFormed
  | .slotStart _ i _ => i < 512
  | .beacon b _ => b.wellFormed
  | .delayReq _ => true
  | .linkDown _ _ => true
  | .linkUp _ _ => true
  | .syncStep _ => true
  | .listenTimeout _ _ => true
  | .backoffEnd _ _ => true
  | .bypassInsert _ => true
  | .timeMap _ => true
  | .canRxFrame c f _ _ => c < 8 && f.wellFormed
  | .canTxComplete c b _ _ _ => c < 8 && b < 128
  | .canError c _ _ => c < 8
  | .txTime c b _ => c < 8 && b < 128
  | .recovering c _ => c < 8
  | .lockTimeouts c b _ => c < 8 && b < 128
  | .ptpMessage port _ _ _ => port < 2
  | .syncMessage port _ _ _ => port < 2
  | .followUp port _ _ => port < 2
  | .holdover k _ => k < 2
  | .portLinkChange n _ _ => n < 2
  | .demand ch _ => ch < 16
  | .testPulse ch _ _ => ch < 16
  | .discrepancy n _ => n < 8
  | .ss1Check p _ => p < 8
  | .tSs1Max p _ => p < 8
  | .tHw p _ => p < 8
  | .switchWordRead _ _ _ => true
  | .heartbeatLost _ _ => true
  | .stoReadback pin _ _ => pin < 16
  | .frequencyMonitor _ => true
  | .outputTestPulse o _ _ _ => o < 16
  | .sbcDelay o _ => o < 16
  | .deltaComplete _ _ => true
  | .renew seq _ => seq < 65536
  | .ack seq _ _ _ => seq < 65536
  | .leaseExpiry _ => true
  | .crookTake _ => true
  | .release seq handover _ => seq < 65536 && (match handover with | some p => p.wellFormed | none => true)
  | .crookInHigh _ _ => true
  | .election _ _ => true
  | .deltaReceive d _ => d.seq < 65536
  | .fullCopyDone _ _ => true
  | .mirroredCommand _ _ => true
  | .giveUp _ => true
  | .scrub a _ _ _ => a < 2 ^ 32
  | .faultReport unit code sev detail _ _ => unit ≤ 0x10 && code < 65536 && sev < 4 && detail < 2 ^ 32
  | .faultHandled _ => true
  | .recordWrite _ => true
  | .restarted _ => true
  | .transitionDone d _ => d < 12
  | .wakeTimeout d _ => d < 12
  | .grazeEntry _ => true
  | .grazeSample _ _ _ => true
  | .maxS _ => true
  | .canWake n _ => n < 8
  | .monitorSample vs _ => vs.length == 24
  | .hardWiredRecognition n _ => n < 8
  | .channelEnergised ch _ => ch < 16
  | .islandInternalCheck _ _ => true
  | .canIntegration c _ => c < 8
  | .canWakeRecessive n _ => n < 8
  | .ptpDelayRequest k _ => k < 2
  | .announceReceiptTimeout k _ => k < 2
  | .commandComplete _ _ _ _ => true
  | .scheduleWriteTimeout _ => true
  | .supplyRestored n _ => n < 12

end Sys2Proof
end

