-- ==== Sys2Proof/Tests/Slice0.lean ====
section
/-! SUPPORT. The model's own tests: ill-formed terms that the check refuses, a few single commands, and for every statement
that has hypotheses one theorem, witness_<its name>, with operands and a state that meet the hypotheses of each clause. -/

namespace Sys2Proof.Tests

open Sys2Proof.Machine

set_option Elab.async false
set_option maxRecDepth 4000

/-- A command packet with these parameter words. -/
def pk (ws : List Nat) : Packet := { params := ws.map (BitVec.ofNat 32) }

/-- The reset state in a mode. -/
def inMode (m : Mode) : State := State.reset.modDev fun d => { d with mode := m }

/-- A device with a control cycle of 100 µs of its own, in a mode. -/
def cyclic (m : Mode) : State := (inMode m).modDrove fun d => { d with cfg := { d.cfg with cycleUs := 100, mult := 1 } }

/-- A device whose READY_MISSING is 0, in a mode. -/
def ready (m : Mode) : State := (cyclic m).modIsl fun u => { u with powered := true, state := .ready }

/-- A cocoon image of cycle 7, taken in a mode. -/
def cocoon (m : Mode) : Cocoon :=
  { cycle := 7, mode := m, commit := .committing, miss := 0, firstCommitted := true, lastApplied := 6, image := {}, inForce := [], committed := true
    slots := [], forces := [], axes := [], upMode := 0, upEpoch := 0, downMode := 0, downEpoch := 0 }

/-- The device in the resume window, with an image. -/
def window : State :=
  ((inMode .configure).modBoot fun b => { b with windowOpened := some 1440000, replayed := true }).modKeep fun k =>
    { k with image := some (cocoon .run) }

/-- A bank of slot 3 in a state. -/
def bankIn (b : Bool) (st : BankState) (s : State) : State := s.modBank 3 b fun k => { k with state := st }

/-- Slot 3 runs a program with core mask 1 and one REAL32 variable of 1024 elements, identity 7 (state variable or not). -/
def program (isState : Bool) (s : State) : State :=
  (bankIn false .active s).writeWords (bankAddr 3 false)
    ((List.range 16).map (fun i => wd (if i = 4 then 1 else if i = 8 then 1 else 0)) ++
      [wd 7, wd (4 + 1024 * 2 ^ 16 + (if isState then 1 else 255) * 2 ^ 8), wd 0, wd 0xFFFFFFFF])

/-- An execution of slot 3 that has one operation left. -/
def run3 : Exec :=
  { tag := 7, due := 8, inputNs := 0, readyAt := 0, inputs := {}, sys := [], prevDins := none, prevNs := 0, left := 1 }


/-- A change-over pending for cycle 60000. -/
def pending (s : State) : State :=
  s.modCyc fun c => { c with changeover := some { coId := 1, cycle := 60000, graph := true, loop := false, ring := false, target := true, prepared := 0 } }

/-- Seven enabled loop channels on processor 0 of an UBR1650, whose period word of 0 counts as 1 µs. -/
def manyLoops : State :=
  (State.reset.modBoot fun b => { b with variant := .ubr1650 }).modMem fun m =>
    { m with store := (List.range 7).map fun c => (0x31000001 + 0x800 * c, 0x40#8) }

/-- A mode of the manager alone: SYNC, MODE, JOIN request and JOIN grant slots. -/
def lone : List Nat :=
  [4, 0, 2 ^ 19 + 8 * 2 ^ 22, 0xFF80, 1000 + 4 * 2 ^ 19 + 3 * 2 ^ 22, 0xFF80, 2000 + 5 * 2 ^ 19 + 4 * 2 ^ 22, 0x80FE,
   3000 + 6 * 2 ^ 19 + 4 * 2 ^ 22, 0xFF80]

/-- A down-ring manager with a cycle of 100 µs, in a mode, not started. -/
def manager (m : Mode) : State := (cyclic m).modDrove fun d => { d with cfg := { d.cfg with downEn := true, tag := 1 } }

/-- A member of an up-ring, in a mode. -/
def underRing (m : Mode) : State := (inMode m).modDrove fun d => { d with cfg := { d.cfg with upEn := true, coldCap := true, rank := 1 } }

/-- The head of a parameter set that keeps to the rules of R490, and eight words of zeros. -/
def islandHead : List Word := [1, 200 + 20 * 2 ^ 10 + 10 * 2 ^ 20, 20 + 10 * 2 ^ 10 + 2 ^ 22, 1, 100]
def zeros8 : List Word := [0, 0, 0, 0, 0, 0, 0, 0]

/-- One word of the CRC. -/
@[irreducible] def crcOn (c : Nat) (w : Word) : Nat := crcWord c w.toNat
theorem crc_head : islandHead.foldl crcOn 0xFFFFFFFF = 2168878854 := by decide +kernel
theorem crc_zeros0 : zeros8.foldl crcOn 2168878854 = 2566143048 := by decide +kernel
theorem crc_zeros1 : zeros8.foldl crcOn 2566143048 = 3214941369 := by decide +kernel
theorem crc_zeros2 : zeros8.foldl crcOn 3214941369 = 1285237048 := by decide +kernel
theorem crc_zeros3 : zeros8.foldl crcOn 1285237048 = 135284602 := by decide +kernel
theorem crc_zeros4 : zeros8.foldl crcOn 135284602 = 1891658379 := by decide +kernel
theorem crc_zeros5 : zeros8.foldl crcOn 1891658379 = 2910801256 := by decide +kernel
theorem crc_zeros6 : zeros8.foldl crcOn 2910801256 = 1141538105 := by decide +kernel
theorem crc_zeros7 : zeros8.foldl crcOn 1141538105 = 4041253500 := by decide +kernel
theorem crc_last : [0, 0, 0, 0, 0, 0, 0, (3 : Word)].foldl crcOn 1141538105 = 3797224850 := by decide +kernel

/-- The words of the set before its CRC, and of one whose last output word breaks R491. -/
def islandWords : List Word := islandHead ++ (zeros8 ++ (zeros8 ++ (zeros8 ++ (zeros8 ++ (zeros8 ++ (zeros8 ++ (zeros8 ++ zeros8)))))))
def islandWrong : List Word := islandHead ++ (zeros8 ++ (zeros8 ++ (zeros8 ++ (zeros8 ++ (zeros8 ++ (zeros8 ++ (zeros8 ++ [0, 0, 0, 0, 0, 0, 0, 3])))))))

theorem crc32_eq (ws : List Word) : crc32 ws = (ws.foldl crcOn 0xFFFFFFFF) ^^^ 0xFFFFFFFF := by
  unfold crc32 crcOn; rfl

theorem crc_then {xs ys : List Word} {c d e : Nat} (h : xs.foldl crcOn c = d) (h' : ys.foldl crcOn d = e) :
    (xs ++ ys).foldl crcOn c = e := by rw [List.foldl_append, h, h']

theorem fold_islandWords : islandWords.foldl crcOn 0xFFFFFFFF = 4041253500 := by
  unfold islandWords; exact crc_then crc_head (crc_then crc_zeros0 (crc_then crc_zeros1
    (crc_then crc_zeros2 (crc_then crc_zeros3 (crc_then crc_zeros4 (crc_then crc_zeros5 (crc_then crc_zeros6 crc_zeros7)))))))
theorem crc_islandWords : crc32 islandWords = 253713795 := by rw [crc32_eq, fold_islandWords]; rfl

theorem fold_islandWrong : islandWrong.foldl crcOn 0xFFFFFFFF = 3797224850 := by
  unfold islandWrong; exact crc_then crc_head (crc_then crc_zeros0 (crc_then crc_zeros1
    (crc_then crc_zeros2 (crc_then crc_zeros3 (crc_then crc_zeros4 (crc_then crc_zeros5 (crc_then crc_zeros6 crc_last)))))))
theorem crc_islandWrong : crc32 islandWrong = 497742445 := by rw [crc32_eq, fold_islandWrong]; rfl

/-- The set with its CRC; SAFE.PARAM_LOAD of it and of the wrong one. -/
def islandSet : List Word := islandWords ++ [253713795]
def islandLoad : Packet := { params := islandSet }
def islandBad : Packet := { params := islandWrong ++ [497742445] }

/-- The island runs, with the switches of a packet's CRC. -/
def island (p : Packet) : State :=
  State.reset.modIsl fun u => { u with powered := true, state := .ready, swA := 16 * (p.w 69 % 2 ^ 12), swB := 16 * (p.w 69 % 2 ^ 12) }

/-- Ring `n` in a state. -/
def ringIn (n : Nat) (r : Ring) (s : State) : State := s.modHost fun h => { h with rings := put {} h.rings n r }

/-- COMMAND ring 63 holds one packet; its replies go to REPLY ring 62. -/
def queued (log2 : Nat) : State :=
  ringIn 63 { kind := 0, state := .active, log2 := log2, paired := 62, prod := 1 } (ringIn 62 { kind := 1, state := .active, log2 := 4 } State.reset)

/-- UDP on Ethernet port 1 with COMMAND ring 63 on it, for every source. -/
def onUdp (ip : Nat) : State :=
  (ringIn 63 { kind := 0, state := .active, log2 := 4, transport := 2 } State.reset).modNet fun u =>
    { u with udpEnabled := true, udpPorts := 2, allow := [(0, 0)], ports := [(1, { enable := true, linkUp := true, ipv4 := ip, mac := 1 })] }

/-- A packet sent to member 63 in cycle 0, once or twice. -/
def sentTo (again : Bool) : SentPacket :=
  { seq := 0, packet := { kind := 0, words := [2 ^ 24] }, sentCycle := some 0, resent := again }

/-- The manager with that packet on its way. -/
def sending (again : Bool) : State :=
  (manager .run).modDrove fun d => { d with members := [(63, { integrated := true, peer := { sent := [sentTo again] } })] }

/-- GRAZE entered at the start of device time. -/
def grazing (g : GrazeConfig) : State := (inMode .graze).modPwr fun p => { p with graze := some g }

/-- No packet of a table without members. -/
theorem none_sent {m : Nat} {e : SentPacket} (h : e ∈ (memberOf (State.reset.at 0) m).peer.sent) : False := by
  have : e ∈ ([] : List SentPacket) := h
  exact absurd this List.not_mem_nil

/-- A table with one entry reads as unlisted elsewhere. -/
theorem look_one {α : Type} {d v : α} {k e : Nat} (h : e ≠ k) : look d [(k, v)] e = d := by
  simp [look, Ne.symm h]

/-- Without an entry for a slot no execution waits for a release. -/
theorem none_runs {s : State} (h : s.graph.slots = []) (n : Nat) (x : Exec) (r : Nat) (_ : n < 4) (e : (slotOf s n).exec = some x) :
    x.release = some r → s.clock < r := by simp [slotOf, h, look] at e

/-- Enabled loop channel 511 of an UBR1650 on processor 7, with a period of 50 µs. -/
def loop511 : State :=
  ((inMode .run).modBoot fun b => { b with variant := .ubr1650 }).writeWords (loopAddr 511) [wd (50 + 2 ^ 14 + 7 * 2 ^ 15)]

/-- That channel with a sample released and an error in its block. -/
def loopHeld : State :=
  (loop511.modLoop fun u => { u with ch := [(511, { released := some { us := 1800, pv := none, sp := none, ff := none, track := none, mode := 0, substManual := false, ownMode := 0 } })] }).modMem fun m => { m with poison := [loopAddr 511] }

/-- The checks of R362 let a frame pass. -/
theorem passes {type : Nat} {f : Frame} {loose : Bool} {u : State} (h : (u.receive type f).2 = true)
    (h' : ((u.receive type f).1.takeFrame type f loose).2.isSome = true) :
    Passes type f loose u ((u.receive type f).1.takeFrame type f loose).1 :=
  ⟨h, (Option.isSome_iff_exists.1 h').imp fun _ e => Prod.ext rfl e⟩

/-- The state after those checks. -/
def after (type : Nat) (f : Frame) (loose : Bool) (u : State) : State := ((u.receive type f).1.takeFrame type f loose).1

/-- A mode above: DATA, MODE and CMD slots of the manager at 0, and a DATA slot 98 µs into the cycle. -/
def above5 : List Nat :=
  [4, 0, 2 * 2 ^ 19 + 2 ^ 22, 0xFF80, 4 * 2 ^ 19 + 3 * 2 ^ 22, 0xFF80, 3 * 2 ^ 19 + 4 * 2 ^ 22, 0x0580,
   4900 + 2 * 2 ^ 19 + 2 ^ 22, 0xFF80]

/-- An integrated member 5 of an up-ring with a cycle of 100 µs. -/
def upMember (n : NodeState) : State :=
  ((underRing .run).modDrove fun d =>
    { d with member := some 5, upModes := [(0, above5.map (BitVec.ofNat 32))], up := { d.up with state := n } }).modCyc fun c =>
    { c with upLdev := 100, upLbase := 100 }

/-- A frame of the manager above to member 5. -/
def fromAbove (slot cycle : Nat) (ws : List Word) : Frame :=
  { down := false, portB := false, src := 0x80, dst := 5, ringTag := 0, slot := slot, cycle := cycle, payload := ws }

/-- A JOIN grant for this device. -/
def granted : Frame := fromAbove 511 0 [Config.serial.setWidth 32, (Config.serial >>> 32).setWidth 32, BitVec.ofNat 32 (63 * 4), 0]

theorem halves (x : BitVec 64) : (x.setWidth 32).toNat + place 32 ((x >>> 32).setWidth 32).toNat = x.toNat := by
  have h : x.toNat < 18446744073709551616 := x.isLt
  have p : place 32 ((x >>> 32).setWidth 32).toNat = x.toNat / 4294967296 * 4294967296 := by
    have e : ((x >>> 32).setWidth 32).toNat = x.toNat / 4294967296 := by
      simp only [BitVec.toNat_setWidth, BitVec.toNat_ushiftRight, Nat.shiftRight_eq_div_pow, Nat.reducePow]
      omega
    rw [e]; simp only [place, Nat.reducePow]
  have q : (x.setWidth 32).toNat = x.toNat % 4294967296 := by simp only [BitVec.toNat_setWidth, Nat.reducePow]
  rw [p, q]
  omega

theorem granted_serial : joinSerial granted = Config.serial.toNat := halves Config.serial

/-- The manager with the mode of its own slots in force. -/
def managing : State :=
  (manager .run).modDrove fun d => { d with downStarted := true, modes := [(0, lone.map (BitVec.ofNat 32))], down := { d.down with state := .integrated } }

/-- The manager listens on link A. -/
def listening : State :=
  (manager .run).modDrove fun d => { d with downStarted := true, down := { d.down with state := .listen, linkA := { up := true } } }

theorem listened : (ifaceOf (listening.at 4000000) true).listenFrom + listenClocks (listening.at 4000000) true ≤ (listening.at 4000000).now := by
  have a : (ifaceOf (listening.at 4000000) true).listenFrom = 0 := by decide +kernel
  have b : clocksOfUs (ringCycleUs (listening.at 4000000) true) = 80000 := by decide +kernel
  have c : (listening.at 4000000).now = 4000000 := by decide +kernel
  simp only [listenClocks, a, b, c, if_pos]
  omega

/-- A program image with one RMSG_SEND operation, with its CRC. -/
def smallImage : List Nat := [0x55424752, 1 + 2 ^ 8, 1, 1, 1, 1, 0, 0, 0, 0, 0, 0, 21, 0, 0, 0, 75 + 256, 0, 0, 0, 3983846310]

/-- Bank A of slot 3 holds it. -/
def imageLoaded : State :=
  (State.reset.modBank 3 false fun k => { k with state := .loaded, length := 21 }).writeWords (bankAddr 3 false) (smallImage.map (BitVec.ofNat 32))

theorem image_crc : crc32 (readWords (imageLoaded.at 0) (bankAddr 3 false) 20) = 3983846310 := by decide +kernel

/-- The state of a step's outcome. -/
def nextOf (o : Host.Outcome State Fault Refusal) (s : State) : State := match o with | .next t => t | _ => s

/-- A SAFE.RESET of pair 7 that the island completes next: its set is in force and every input reads high. -/
noncomputable def resetting : State :=
  { State.reset with pending := [.commandComplete 0 .ok 0 0] }.modIsl (fun u =>
    { u with powered := true, state := .ready, params := islandSet, levels := 65535, pairs := [(7, { state := .torqueOff })] })
    |>.modHost fun h => { h with deferred := [{ op := .safeReset, packet := pk [128] }] }

/-- A memory write of one word waits. -/
def writing : State := { State.reset with pending := [.memWrite (pk [0x01FFFFF8, 5])] }

/-- An announcement of clock 7, and PTP track 1 on Ethernet port 1 with that master or none. -/
def clock7 : Announcement :=
  { domain := 0, source := 7, priority1 := 0, clockClass := 6, accuracy := 0, variance := 0, priority2 := 0, gmId := 7 }

def tracking (f : Track → Track) : State :=
  State.reset.modNet fun u =>
    { u with ports := [(1, { enable := true, linkUp := true, mac := 1 })], tracks := [(1, f { enable := true, ports := 2 })] }

/-- The one REAL32 variable of the program of slot 3. -/
def var7 : VarLoc := { id := 7, type := 4, count := 1024, stateOp := 255, base := 0, slot := some 3 }

theorem var_reads (e : Nat) : readFails ((program false State.reset).at 0) var7 e = false := by
  have h : ((program false State.reset).at 0).mem.poison = [] := by decide +kernel
  simp [readFails, poisonedIn, h]

theorem var_writes (e : Nat) : writeFails ((program false State.reset).at 0) var7 e = false := by
  simp [writeFails, var_reads]

theorem witness_StepRunsFront :
    (∃ (i : Instr), ∃ (r : List Instr), ∃ (s : State), s.pending = i :: r) :=
  ⟨Instr.devStatus (pk []), [], { State.reset with pending := [.devStatus (pk [])] }, rfl⟩

theorem witness_NothingToTake :
    (∃ (s : State), s.pending = []) ∧
    (∃ (s : State), (s.boot.phase ≠ .running ∨ domainFailed s 2 = true)) :=
  ⟨⟨State.reset, by decide +kernel⟩,
   ⟨State.reset.modBoot fun b => { b with phase := .pinReset }, by decide +kernel⟩⟩


theorem witness_ScreeningDecides :
    (∃ (op : Op), ∃ (s : State), servesCommands s = true ∧ s.present (op.code / 256) = false) ∧
    (∃ (op : Op), ∃ (p : Packet), ∃ (s : State), ∃ x, servesCommands s = true ∧ s.present (op.code / 256) = true ∧ p.atCycle = some x ∧ acceptsAt op p = false) ∧
    (∃ (op : Op), ∃ (p : Packet), ∃ (s : State), ∃ x, servesCommands s = true ∧ s.present (op.code / 256) = true ∧ p.atCycle = some x ∧ acceptsAt op p = true ∧ hasCycle s = false) ∧
    (∃ (op : Op), ∃ (p : Packet), ∃ (s : State), ∃ x, servesCommands s = true ∧ s.present (op.code / 256) = true ∧ p.atCycle = some x ∧ acceptsAt op p = true ∧ hasCycle s = true ∧ cycDiff x (baseCycle s) ≤ 0) ∧
    (∃ (op : Op), ∃ (p : Packet), ∃ (s : State), ∃ x, servesCommands s = true ∧ s.present (op.code / 256) = true ∧ p.atCycle = some x ∧ acceptsAt op p = true ∧ hasCycle s = true ∧ 0 < cycDiff x (baseCycle s) ∧ 256 ≤ s.host.timed.length) ∧
    (∃ (op : Op), ∃ (p : Packet), ∃ (s : State), ∃ x, servesCommands s = true ∧ s.present (op.code / 256) = true ∧ p.atCycle = some x ∧ acceptsAt op p = true ∧ hasCycle s = true ∧ 0 < cycDiff x (baseCycle s) ∧ s.host.timed.length < 256) :=
  ⟨⟨.pairStatus, State.reset.modBoot fun b => { b with variant := .ubr1650 }, by decide +kernel⟩,
   ⟨.devStatus, ({ pk [] with atCycle := some 20 } : Packet), State.reset, 20, by decide +kernel⟩,
   ⟨.devReset, ({ pk [] with atCycle := some 20 } : Packet), State.reset, 20, by decide +kernel⟩,
   ⟨.devReset, ({ pk [] with atCycle := some 18 } : Packet), cyclic .ready, 18, by decide +kernel⟩,
   ⟨.devReset, ({ pk [] with atCycle := some 19 } : Packet), (cyclic .ready).modHost fun h => { h with timed := List.replicate 256 { op := .devReset, packet := pk [0], cycle := 30 } }, 19, by decide +kernel⟩,
   ⟨.devReset, ({ pk [] with atCycle := some 19 } : Packet), cyclic .ready, 19, by decide +kernel⟩⟩

theorem witness_PairAndDomainsTurnAway :
    (∃ (op : Op), ∃ (p : Packet), ∃ (s : State), ∃ (n : Nat), servesCommands s = true ∧ s.present (op.code / 256) = true ∧ p.atCycle = none ∧ s.boot.windowOpened = none ∧ p.origin = .ring n ∧ (s.pair.role = .syncing ∨ s.pair.role = .standby) ∧ standbyExecutes op = false) ∧
    (∃ (op : Op), ∃ (p : Packet), ∃ (s : State), servesCommands s = true ∧ screen op p s = none ∧ p.atCycle = none ∧ s.boot.windowOpened = none ∧ pairLocked s op p = false ∧ (look {} s.pwr.domains (domainOf (op.code / 256))).failed = true) :=
  ⟨⟨.devSetMode, pk [1], State.reset.modPair fun p => { p with role := .standby }, 0, by decide +kernel⟩,
   ⟨.loopMode, pk [], State.reset.modPwr fun p => { p with domains := [(domainOf (Op.code .loopMode / 256), { failed := true })] }, by decide +kernel⟩⟩

theorem witness_WindowCloses :
    (∃ (op : Op), ∃ (p : Packet), ∃ (s : State), servesCommands s = true ∧ screen op p s = none ∧ p.atCycle = none ∧ keepsWindow op = false ∧ s.boot.windowOpened ≠ none ∧ resumeRequested s = true) ∧
    (∃ (op : Op), ∃ (p : Packet), ∃ (s : State), servesCommands s = true ∧ screen op p s = none ∧ p.atCycle = none ∧ keepsWindow op = false ∧ s.boot.windowOpened ≠ none ∧ resumeRequested s = false) :=
  ⟨⟨.devSetMode, pk [1], window.modHost fun h => { h with deferred := [{ op := .devResume, packet := {} }] }, by decide +kernel⟩,
   ⟨.devSetMode, pk [1], window, by decide +kernel⟩⟩

theorem witness_ModeRequests :
    (∃ (p : Packet), ∃ (s : State), ∃ (m : Mode), Reached .devSetMode p s ∧ p.len = 1 ∧ p.w 0 = m.num ∧ (s.dev.mode, m) ∉ [(.configure, .ready), (.ready, .run), (.ready, .graze), (.ready, .configure), (.run, .ready), (.run, .hold), (.hold, .run), (.hold, .ready), (.graze, .ready), (.safe, .configure)] ∧ m ≠ .safe) ∧
    (∃ (p : Packet), ∃ (s : State), ∃ (m : Mode), m = .safe ∧ Reached .devSetMode p s ∧ p.len = 1 ∧ p.w 0 = m.num) ∧
    (∃ (p : Packet), ∃ (s : State), ∃ (m : Mode), m = .ready ∧ Reached .devSetMode p s ∧ p.len = 1 ∧ p.w 0 = m.num ∧ s.dev.mode = .configure ∧ readyMissing s = 0) ∧
    (∃ (p : Packet), ∃ (s : State), ∃ (m : Mode), m = .ready ∧ Reached .devSetMode p s ∧ p.len = 1 ∧ p.w 0 = m.num ∧ s.dev.mode = .configure ∧ readyMissing s ≠ 0) ∧
    (∃ (p : Packet), ∃ (s : State), ∃ (m : Mode), m = .configure ∧ Reached .devSetMode p s ∧ p.len = 1 ∧ p.w 0 = m.num ∧ (s.dev.mode = .ready ∨ s.dev.mode = .safe)) ∧
    (∃ (p : Packet), ∃ (s : State), ∃ (m : Mode), Reached .devSetMode p s ∧ p.len = 1 ∧ p.w 0 = m.num ∧ (s.dev.mode, m) ∈ [(.ready, .run), (.run, .hold), (.hold, .run)]) ∧
    (∃ (p : Packet), ∃ (s : State), ∃ (m : Mode), Reached .devSetMode p s ∧ p.len = 1 ∧ p.w 0 = m.num ∧ (s.dev.mode, m) ∈ [(.run, .ready), (.hold, .ready)]) ∧
    (∃ (p : Packet), ∃ (s : State), ∃ (m : Mode), m = .ready ∧ Reached .devSetMode p s ∧ p.len = 1 ∧ p.w 0 = m.num ∧ s.dev.mode = .graze) ∧
    (∃ (p : Packet), ∃ (s : State), ∃ (m : Mode), m = .graze ∧ Reached .devSetMode p s ∧ p.len = 1 ∧ p.w 0 = m.num ∧ s.dev.mode = .ready ∧ s.pwr.graze ≠ none) ∧
    (∃ (p : Packet), ∃ (s : State), Reached .devSafeAck p s ∧ p.len = 0 ∧ s.dev.mode ≠ .safe) ∧
    (∃ (p : Packet), ∃ (s : State), Reached .devSafeAck p s ∧ p.len = 0 ∧ s.dev.mode = .safe ∧ s.isl.inStop = false ∧ safeFaultActive s = false ∧ readyMissing s = 0) :=
  ⟨⟨pk [2], inMode .configure, .run, by decide +kernel⟩,
   ⟨pk [4], inMode .run, .safe, rfl, by decide +kernel⟩,
   ⟨pk [1], ready .configure, .ready, rfl, by decide +kernel⟩,
   ⟨pk [1], inMode .configure, .ready, rfl, by decide +kernel⟩,
   ⟨pk [0], inMode .safe, .configure, rfl, by decide +kernel⟩,
   ⟨pk [2], cyclic .ready, .run, by decide +kernel⟩,
   ⟨pk [1], inMode .run, .ready, by decide +kernel⟩,
   ⟨pk [1], inMode .graze, .ready, rfl, by decide +kernel⟩,
   ⟨pk [5], (inMode .ready).modPwr fun p => { p with graze := some { maxS := 0, entries := [], canWake := 0, monWake := false, periodMs := 1 } }, .graze, rfl, by decide +kernel⟩,
   ⟨pk [], inMode .run, by decide +kernel⟩,
   ⟨pk [], ready .safe, by decide +kernel⟩⟩

theorem witness_ResetAndResumeRequests :
    (∃ (p : Packet), ∃ (s : State), Reached .devReset p s ∧ p.len = 1 ∧ p.w 0 < 2) ∧
    (∃ (p : Packet), ∃ (s : State), Reached .devResume p s ∧ p.len = 2 ∧ (p.w 0 = 1 ∨ (p.w 0 = 0 ∧ p.w 1 = 0)) ∧ s.boot.windowOpened = none) ∧
    (∃ (p : Packet), ∃ (s : State), Reached .devResume p s ∧ p.len = 2 ∧ (p.w 0 = 1 ∨ (p.w 0 = 0 ∧ p.w 1 = 0)) ∧ s.boot.windowOpened ≠ none ∧ s.boot.replayed = false) ∧
    (∃ (p : Packet), ∃ (s : State), ((p.w 0 = 1 → p.w 1 = checkpointCycle s)) ∧ Reached .devResume p s ∧ p.len = 2 ∧ (p.w 0 = 1 ∨ (p.w 0 = 0 ∧ p.w 1 = 0)) ∧ s.boot.windowOpened ≠ none ∧ s.boot.replayed = true ∧ resumable s = true) ∧
    (∃ (p : Packet), ∃ (s : State), Reached .devResume p s ∧ p.len = 2 ∧ (p.w 0 = 1 ∨ (p.w 0 = 0 ∧ p.w 1 = 0)) ∧ s.boot.windowOpened ≠ none ∧ s.boot.replayed = true ∧ resumable s = true ∧ p.w 0 = 1 ∧ p.w 1 ≠ checkpointCycle s) ∧
    (∃ (p : Packet), ∃ (s : State), Reached .devResume p s ∧ p.len = 2 ∧ (p.w 0 = 1 ∨ (p.w 0 = 0 ∧ p.w 1 = 0)) ∧ s.boot.windowOpened ≠ none ∧ s.boot.replayed = true ∧ resumable s = false) ∧
    (∃ (p : Packet), ∃ (s : State), Reached .devResumeConfig p s ∧ p.len = 2 ∧ p.w 0 < 4 ∧ p.w 1 < 2 ^ 16) ∧
    (∃ (p : Packet), ∃ (s : State), ∃ (h : Nat), ∃ (latch : Bool), Reached .devCycleConfig p s ∧ p.len = 1 ∧ 1 ≤ h ∧ h ≤ 15 ∧ p.w 0 = h + 16 * latch.toNat ∧ (s.dev.mode = .configure ∨ s.dev.mode = .ready ∨ h = s.cyc.holdBudget)) ∧
    (∃ (p : Packet), ∃ (s : State), ∃ (h : Nat), ∃ (latch : Bool), Reached .devCycleConfig p s ∧ p.len = 1 ∧ 1 ≤ h ∧ h ≤ 15 ∧ p.w 0 = h + 16 * latch.toNat ∧ s.dev.mode ≠ .configure ∧ s.dev.mode ≠ .ready ∧ h ≠ s.cyc.holdBudget) :=
  ⟨⟨pk [1], inMode .run, by decide +kernel⟩,
   ⟨pk [0, 0], inMode .configure, by decide +kernel⟩,
   ⟨pk [1, 7], window.modBoot fun b => { b with replayed := false }, by decide +kernel⟩,
   ⟨pk [1, 7], window, fun _ => by decide +kernel, by decide +kernel⟩,
   ⟨pk [1, 8], window, by decide +kernel⟩,
   ⟨pk [1, 7], window.modKeep fun k => { k with image := none }, by decide +kernel⟩,
   ⟨pk [3, 65535], inMode .run, by decide +kernel⟩,
   ⟨pk [31], inMode .ready, 15, true, by decide +kernel⟩,
   ⟨pk [1], inMode .run, 1, false, by decide +kernel⟩⟩

theorem witness_ChangeoverBecomesPending :
    (∃ (p : Packet), ∃ (s : State), ∃ lead, lead = minLead s (if p.forwardAll then tiersBelow s else 0) (bit (p.w 1) 2) ∧ Reached .devChangeover p s ∧ p.len = 2 ∧ field (p.w 1) 0 3 ≠ 0 ∧ field (p.w 1) 3 13 = 0 ∧ (s.dev.mode = .ready ∨ s.dev.mode = .run ∨ s.dev.mode = .hold) ∧ s.cyc.changeover = none ∧ 0 < cycDiff (p.w 0) (baseCycle s) ∧ cycDiff (p.w 0) (baseCycle s) < lead) ∧
    (∃ (p : Packet), ∃ (s : State), ∃ lead, lead = minLead s (if p.forwardAll then tiersBelow s else 0) (bit (p.w 1) 2) ∧ Reached .devChangeover p s ∧ p.len = 2 ∧ field (p.w 1) 0 3 ≠ 0 ∧ field (p.w 1) 3 13 = 0 ∧ (s.dev.mode = .ready ∨ s.dev.mode = .run ∨ s.dev.mode = .hold) ∧ s.cyc.changeover = none ∧ 0 < cycDiff (p.w 0) (baseCycle s) ∧ lead ≤ cycDiff (p.w 0) (baseCycle s)) :=
  ⟨⟨pk [19, 1], cyclic .run, _, rfl, by decide +kernel⟩,
   ⟨pk [0x7FFFFFFF, 1], cyclic .run, _, rfl, by decide +kernel⟩⟩

theorem witness_Reports :
    (∃ (p : Packet), ∃ (s : State), p.len = 0 ∧ Reached .devIdentify p s) ∧
    (∃ (p : Packet), ∃ (s : State), p.len = 0 ∧ Reached .devStatus p s) ∧
    (∃ (p : Packet), ∃ (s : State), p.len = 0 ∧ Reached .devCycleStatus p s) ∧
    (∃ (p : Packet), ∃ (s : State), p.len = 0 ∧ Reached .memFaultQueue p s) ∧
    (∃ (p : Packet), ∃ (s : State), p.len = 0 ∧ Reached .pwrState p s) ∧
    (∃ (p : Packet), ∃ (s : State), p.len = 0 ∧ Reached .pwrMonitorRead p s) ∧
    (∃ (p : Packet), ∃ (s : State), p.len = 0 ∧ Reached .schedStatus p s) ∧
    (∃ (p : Packet), ∃ (s : State), p.len = 0 ∧ Reached .timeRead p s) ∧
    (∃ (p : Packet), ∃ (s : State), p.len = 0 ∧ Reached .pairStatus p s) ∧
    (∃ (p : Packet), ∃ (s : State), p.len = 0 ∧ Reached .tallyStatus p s) ∧
    (∃ (p : Packet), ∃ (s : State), p.len = 1 ∧ Reached .schedCounters p s ∧ reservedSet (p.w 0) 0xFFFFFFE0 = false ∧ bit (p.w 0) 0 = false ∧ field (p.w 0) 1 4 < graphCores s) ∧
    (∃ (p : Packet), ∃ (s : State), p.len = 1 ∧ Reached .schedCounters p s ∧ reservedSet (p.w 0) 0xFFFFFFE0 = false ∧ bit (p.w 0) 0 = true ∧ field (p.w 0) 1 4 < 4) ∧
    (∃ (p : Packet), ∃ (s : State), p.len = 1 ∧ Reached .loopStateRead p s ∧ (reservedSet (p.w 0) 0xFFFFFC00 = true ∨ loopChannels s ≤ field (p.w 0) 0 10)) ∧
    (∃ (p : Packet), ∃ (s : State), p.len = 1 ∧ Reached .loopStateRead p s ∧ reservedSet (p.w 0) 0xFFFFFC00 = false ∧ field (p.w 0) 0 10 < loopChannels s) ∧
    (∃ (p : Packet), ∃ (s : State), p.len = 1 ∧ Reached .axisStatus p s ∧ reservedSet (p.w 0) 0xFFFFFF00 = false ∧ field (p.w 0) 0 8 < axes s ∧ (axisOf s (field (p.w 0) 0 8)).kind ≠ 0) ∧
    (∃ (p : Packet), ∃ (s : State), p.len = 1 ∧ Reached .adcCalRead p s ∧ reservedSet (p.w 0) 0xFFFE0000 = false ∧ 1 ≤ field (p.w 0) 7 8 ∧ field (p.w 0) 7 8 ≤ 128 ∧ field (p.w 0) 0 7 + field (p.w 0) 7 8 ≤ 128) ∧
    (∃ (p : Packet), ∃ (s : State), ∃ k, k = (convOf s (field (p.w 0) 0 4)).next s.now ∧ p.len = 1 ∧ Reached .adcStatus p s ∧ reservedSet (p.w 0) 0xFFFFFFF0 = false) ∧
    (∃ (p : Packet), ∃ (s : State), p.len = 1 ∧ Reached .acqStatus p s ∧ reservedSet (p.w 0) 0xFFFFFFE0 = false ∧ bit (p.w 0) 0 = false) ∧
    (∃ (p : Packet), ∃ (s : State), p.len = 1 ∧ Reached .acqStatus p s ∧ reservedSet (p.w 0) 0xFFFFFFE0 = false ∧ bit (p.w 0) 0 = true) ∧
    (∃ (p : Packet), ∃ (s : State), p.len = 1 ∧ Reached .acqIndexRead p s ∧ reservedSet (p.w 0) 0xF000C000 = false ∧ 1 ≤ field (p.w 0) 16 12 ∧ field (p.w 0) 16 12 ≤ 682 ∧ field (p.w 0) 0 14 + field (p.w 0) 16 12 ≤ 16384) ∧
    (∃ (p : Packet), ∃ (s : State), p.len = 1 ∧ Reached .ringStatus p s ∧ reservedSet (p.w 0) 0xFFFFFFFE = false) ∧
    (∃ (p : Packet), ∃ (s : State), p.len = 1 ∧ Reached .timeStatus p s ∧ reservedSet (p.w 0) 0xFFFFFFFE = false) ∧
    (∃ (p : Packet), ∃ (s : State), p.len = 1 ∧ Reached .graphStatus p s ∧ reservedSet (p.w 0) 0xFFFFFFFC = false) ∧
    (∃ (p : Packet), ∃ (s : State), ∃ k, k = canOf s (field (p.w 0) 0 3) ∧ p.len = 1 ∧ Reached .canStatus p s ∧ reservedSet (p.w 0) 0xFFFFFFF8 = false ∧ field (p.w 0) 0 3 < canControllers s ∧ s.dev.mode ≠ .graze) ∧
    (∃ (p : Packet), ∃ (s : State), Reached .loopStateRead p s ∧ p.len ≠ 1) :=
  ⟨⟨pk [], State.reset, by decide +kernel⟩,
   ⟨pk [], inMode .run, by decide +kernel⟩,
   ⟨pk [], inMode .safe, by decide +kernel⟩,
   ⟨pk [], State.reset, by decide +kernel⟩,
   ⟨pk [], inMode .graze, by decide +kernel⟩,
   ⟨pk [], cyclic .ready, by decide +kernel⟩,
   ⟨pk [], cyclic .run, by decide +kernel⟩,
   ⟨pk [], inMode .hold, by decide +kernel⟩,
   ⟨pk [], State.reset, by decide +kernel⟩,
   ⟨pk [], cyclic .safe, by decide +kernel⟩,
   ⟨pk [30], State.reset, by decide +kernel⟩,
   ⟨pk [7], State.reset, by decide +kernel⟩,
   ⟨pk [0x400], State.reset, by decide +kernel⟩,
   ⟨pk [1023], State.reset, by decide +kernel⟩,
   ⟨pk [255], State.reset.modAxis fun a => { a with ch := [(255, { kind := 1 })] }, by decide +kernel⟩,
   ⟨pk [127 + 2 ^ 7], State.reset, by decide +kernel⟩,
   ⟨pk [15], State.reset, _, rfl, by decide +kernel⟩,
   ⟨pk [30], State.reset, by decide +kernel⟩,
   ⟨pk [1], State.reset, by decide +kernel⟩,
   ⟨pk [16383 + 2 ^ 16], State.reset, by decide +kernel⟩,
   ⟨pk [1], State.reset, by decide +kernel⟩,
   ⟨pk [1], State.reset, by decide +kernel⟩,
   ⟨pk [3], State.reset, by decide +kernel⟩,
   ⟨pk [7], State.reset, _, rfl, by decide +kernel⟩,
   ⟨pk [0, 0], State.reset, by decide +kernel⟩⟩

theorem witness_MemoryReadsAndWrites :
    (∃ (p : Packet), ∃ (s : State), ∃ (a : Nat), ∃ (n : Nat), Reached .memRead p s ∧ p.len = 2 ∧ p.w 0 = a ∧ p.w 1 = n ∧ 1 ≤ n ∧ n ≤ 4092 ∧ a % 4 ≠ 0) ∧
    (∃ (p : Packet), ∃ (s : State), ∃ (a : Nat), ∃ (n : Nat), Reached .memRead p s ∧ p.len = 2 ∧ p.w 0 = a ∧ p.w 1 = n ∧ 1 ≤ n ∧ n ≤ 4092 ∧ a % 4 = 0 ∧ spanArea a (4 * n) = none) ∧
    (∃ (p : Packet), ∃ (s : State), ∃ (a : Nat), ∃ (n : Nat), ∃ (k : Area), Reached .memRead p s ∧ p.len = 2 ∧ p.w 0 = a ∧ p.w 1 = n ∧ 1 ≤ n ∧ n ≤ 4092 ∧ a % 4 = 0 ∧ spanArea a (4 * n) = some k ∧ (k = .system ∨ k = .setAlias ∨ k = .clearAlias ∨ k = .capture ∨ k = .loop ∨ k = .tally) ∧ domainFailed s (areaDomain k) = true) ∧
    (∃ (p : Packet), ∃ (s : State), ∃ (a : Nat), ∃ (n : Nat), ∃ (k : Area), ∃ w, Reached .memRead p s ∧ p.len = 2 ∧ p.w 0 = a ∧ p.w 1 = n ∧ 1 ≤ n ∧ n ≤ 4092 ∧ a % 4 = 0 ∧ spanArea a (4 * n) = some k ∧ (k = .system ∨ k = .setAlias ∨ k = .clearAlias ∨ k = .capture ∨ k = .loop ∨ k = .tally) ∧ domainFailed s (areaDomain k) = false ∧ poisonBlocks s a (4 * n) false = some w) ∧
    (∃ (p : Packet), ∃ (s : State), ∃ (a : Nat), ∃ (n : Nat), ∃ (k : Area), Reached .memRead p s ∧ p.len = 2 ∧ p.w 0 = a ∧ p.w 1 = n ∧ 1 ≤ n ∧ n ≤ 4092 ∧ a % 4 = 0 ∧ spanArea a (4 * n) = some k ∧ (k = .system ∨ k = .setAlias ∨ k = .clearAlias ∨ k = .capture ∨ k = .loop ∨ k = .tally) ∧ domainFailed s (areaDomain k) = false ∧ poisonBlocks s a (4 * n) false = none ∧ p.errs = []) ∧
    (∃ (p : Packet), ∃ (s : State), ∃ (a : Nat), ∃ (ws : List Word), ∃ (k : Area), ∃ w, p.params = BitVec.ofNat 32 a :: ws ∧ Reached .memWrite p s ∧ Canonical s ∧ p.w 0 = a ∧ 1 ≤ ws.length ∧ ws.length ≤ 4091 ∧ a % 4 = 0 ∧ spanArea a (4 * ws.length) = some k ∧ (k = .system ∨ k = .capture) ∧ domainFailed s (areaDomain k) = false ∧ poisonBlocks s a (4 * ws.length) true = some w) ∧
    (∃ (p : Packet), ∃ (s : State), ∃ (a : Nat), ∃ (ws : List Word), ∃ (k : Area), p.params = BitVec.ofNat 32 a :: ws ∧ Reached .memWrite p s ∧ Canonical s ∧ p.w 0 = a ∧ 1 ≤ ws.length ∧ ws.length ≤ 4091 ∧ a % 4 = 0 ∧ spanArea a (4 * ws.length) = some k ∧ (k = .system ∨ k = .capture) ∧ domainFailed s (areaDomain k) = false ∧ poisonBlocks s a (4 * ws.length) true = none ∧ p.errs = []) :=
  ⟨⟨pk [2, 1], State.reset, 2, 1, by decide +kernel⟩,
   ⟨pk [0x02000000, 1], State.reset, 0x02000000, 1, by decide +kernel⟩,
   ⟨pk [0, 1], State.reset.modPwr fun p => { p with domains := [(areaDomain .system, { failed := true })] }, 0, 1, .system, by decide +kernel⟩,
   ⟨pk [0x01FFFFFC, 1], State.reset.modMem fun m => { m with poison := [0x01FFFFF8] }, 0x01FFFFFC, 1, .system, 0x01FFFFF8, by decide +kernel⟩,
   ⟨pk [0x31000000, 4092], State.reset, 0x31000000, 4092, .loop, by decide +kernel⟩,
   ⟨pk [0, 5], State.reset.modMem fun m => { m with poison := [0] }, 0, [5#32], .system, 0, rfl, by decide +kernel⟩,
   ⟨pk [0x30000000, 5], State.reset, 0x30000000, [5#32], .capture, rfl, by decide +kernel⟩⟩

theorem witness_MemoryService :
    (∃ (p : Packet), ∃ (s : State), ∃ (a : Nat), ∃ (n : Nat), ∃ (k : Area), Reached .memFill p s ∧ p.len = 3 ∧ p.w 0 = a ∧ p.w 1 = n ∧ 8 ≤ n ∧ n ≤ 33554432 ∧ a % 8 = 0 ∧ n % 8 = 0 ∧ spanArea a n = some k ∧ domainFailed s (areaDomain k) = false ∧ (k = .system ∨ k = .capture ∨ k = .loop)) ∧
    (∃ (p : Packet), ∃ (s : State), ∃ (a : Nat), ∃ (n : Nat), ∃ (k : Area), Reached .memFill p s ∧ p.len = 3 ∧ p.w 0 = a ∧ p.w 1 = n ∧ 8 ≤ n ∧ n ≤ 33554432 ∧ a % 8 = 0 ∧ n % 8 = 0 ∧ spanArea a n = some k ∧ domainFailed s (areaDomain k) = false ∧ (k = .checkpoint ∨ k = .tally)) ∧
    (∃ (p : Packet), ∃ (s : State), ∃ (a : Nat), ∃ (n : Nat), ∃ (k : Area), Reached .memFill p s ∧ p.len = 3 ∧ p.w 0 = a ∧ p.w 1 = n ∧ 8 ≤ n ∧ n ≤ 33554432 ∧ a % 8 = 0 ∧ n % 8 = 0 ∧ spanArea a n = some k ∧ domainFailed s (areaDomain k) = false ∧ (k = .setAlias ∨ k = .clearAlias)) ∧
    (∃ (p : Packet), ∃ (s : State), ∃ (a : Nat), ∃ (n : Nat), ∃ (k : Area), Reached .memDma p s ∧ p.len = 5 ∧ p.w 0 < 2 ∧ s.boot.hostSel = 0 ∧ p.w 1 % 64 = 0 ∧ p.w 3 = a ∧ p.w 4 = n ∧ 64 ≤ n ∧ n ≤ 16777216 ∧ a % 64 = 0 ∧ n % 64 = 0 ∧ spanArea a n = some k ∧ domainFailed s (areaDomain k) = false ∧ s.mem.poison = [] ∧ (k = .system ∨ k = .capture ∨ k = .loop ∨ (p.w 0 = 1 ∧ (k = .checkpoint ∨ k = .tally)))) ∧
    (∃ (p : Packet), ∃ (s : State), ∃ (a : Nat), ∃ (n : Nat), ∃ (k : Area), Reached .memDma p s ∧ p.len = 5 ∧ p.w 0 < 2 ∧ s.boot.hostSel = 0 ∧ p.w 1 % 64 = 0 ∧ p.w 3 = a ∧ p.w 4 = n ∧ 64 ≤ n ∧ n ≤ 16777216 ∧ a % 64 = 0 ∧ n % 64 = 0 ∧ spanArea a n = some k ∧ domainFailed s (areaDomain k) = false ∧ s.mem.poison = [] ∧ p.w 0 = 0 ∧ (k = .checkpoint ∨ k = .tally)) ∧
    (∃ (p : Packet), ∃ (s : State), Reached .memScrubConfig p s ∧ p.len = 2 ∧ 1 ≤ p.w 0 ∧ p.w 0 ≤ 3600 ∧ 1 ≤ p.w 1 ∧ p.w 1 < 2 ^ 16) ∧
    (∃ (p : Packet), ∃ (s : State), Reached .memErrStatus p s ∧ p.len = 1 ∧ p.w 0 = 0) ∧
    (∃ (p : Packet), ∃ (s : State), Reached .memErrStatus p s ∧ p.len = 1 ∧ p.w 0 = 1) :=
  ⟨⟨pk [0, 33554432, 0], State.reset, 0, 33554432, .system, by decide +kernel⟩,
   ⟨pk [0x32000000, 8, 0], State.reset, 0x32000000, 8, .checkpoint, by decide +kernel⟩,
   ⟨pk [0x10000000, 8, 0], State.reset, 0x10000000, 8, .setAlias, by decide +kernel⟩,
   ⟨pk [1, 64, 0, 0x33000000, 64], State.reset, 0x33000000, 64, .tally, by decide +kernel⟩,
   ⟨pk [0, 64, 0, 0x32000000, 64], State.reset, 0x32000000, 64, .checkpoint, by decide +kernel⟩,
   ⟨pk [3600, 65535], State.reset, by decide +kernel⟩,
   ⟨pk [0], State.reset, by decide +kernel⟩,
   ⟨pk [1], State.reset, by decide +kernel⟩⟩

theorem witness_PowerSettings :
    (∃ (p : Packet), ∃ (s : State), Reached .pwrLatencySet p s ∧ p.len = 3 ∧ p.w 0 < 2 ^ 12 ∧ bit (p.w 0) 0 = false ∧ (bitsOf 12 (p.w 0)).any (domainAbsent s) = false ∧ p.w 1 ≤ 1000000 ∧ (p.w 2 = 0 ∨ (100 ≤ p.w 2 ∧ p.w 2 ≤ 50000))) ∧
    (∃ (p : Packet), ∃ (s : State), ∃ n, ∃ es, n = field (p.w 0) 14 5 ∧ es = (p.params.drop 2).map (·.toNat) ∧ Reached .pwrGrazeConfig p s ∧ p.len = 2 + n ∧ n ≤ 16 ∧ 1 ≤ field (p.w 0) 0 14 ∧ field (p.w 0) 0 14 ≤ 10000 ∧ reservedSet (p.w 0) 0xF0000000 = false ∧ p.w 1 < 2 ^ 16 ∧ es.any compareBad = false ∧ (bitsOf 8 (field (p.w 0) 20 8)).any (fun c => canControllers s ≤ c) = false ∧ (s.dev.mode = .configure ∨ s.dev.mode = .ready) ∧ es.all (fun e => grazeRefOk s (field e 0 3) (field e 3 7)) = true) ∧
    (∃ (p : Packet), ∃ (s : State), ∃ n, ∃ es, n = field (p.w 0) 14 5 ∧ es = (p.params.drop 2).map (·.toNat) ∧ Reached .pwrGrazeConfig p s ∧ p.len = 2 + n ∧ n ≤ 16 ∧ 1 ≤ field (p.w 0) 0 14 ∧ field (p.w 0) 0 14 ≤ 10000 ∧ reservedSet (p.w 0) 0xF0000000 = false ∧ p.w 1 < 2 ^ 16 ∧ es.any compareBad = false ∧ (bitsOf 8 (field (p.w 0) 20 8)).any (fun c => canControllers s ≤ c) = false ∧ (s.dev.mode = .configure ∨ s.dev.mode = .ready) ∧ es.all (fun e => grazeRefOk s (field e 0 3) (field e 3 7)) = false) ∧
    (∃ (p : Packet), ∃ (s : State), ∃ n, ∃ es, n = field (p.w 0) 14 5 ∧ es = (p.params.drop 2).map (·.toNat) ∧ Reached .pwrGrazeConfig p s ∧ p.len = 2 + n ∧ n ≤ 16 ∧ 1 ≤ field (p.w 0) 0 14 ∧ field (p.w 0) 0 14 ≤ 10000 ∧ reservedSet (p.w 0) 0xF0000000 = false ∧ p.w 1 < 2 ^ 16 ∧ es.any compareBad = false ∧ (bitsOf 8 (field (p.w 0) 20 8)).any (fun c => canControllers s ≤ c) = false ∧ s.dev.mode ≠ .configure ∧ s.dev.mode ≠ .ready) ∧
    (∃ (p : Packet), ∃ (s : State), ∃ m, ∃ sev, ∃ lw, ∃ hw, ∃ la, ∃ ha, lw = monitorValue m (p.w 1) ∧ hw = monitorValue m (p.w 1 / 2 ^ 16) ∧ la = monitorValue m (p.w 2) ∧ ha = monitorValue m (p.w 2 / 2 ^ 16) ∧ Reached .pwrMonitorConfig p s ∧ p.len = 4 ∧ m ≤ 23 ∧ sev ≤ 3 ∧ p.w 0 = m + 32 * sev ∧ p.w 3 < 2 ^ 16 ∧ la ≤ lw ∧ lw < hw ∧ hw ≤ ha) ∧
    (∃ (p : Packet), ∃ (s : State), ∃ m, ∃ sev, ∃ lw, ∃ hw, ∃ la, ∃ ha, lw = monitorValue m (p.w 1) ∧ hw = monitorValue m (p.w 1 / 2 ^ 16) ∧ la = monitorValue m (p.w 2) ∧ ha = monitorValue m (p.w 2 / 2 ^ 16) ∧ Reached .pwrMonitorConfig p s ∧ p.len = 4 ∧ m ≤ 23 ∧ sev ≤ 3 ∧ p.w 0 = m + 32 * sev ∧ p.w 3 < 2 ^ 16 ∧ (lw < la ∨ hw ≤ lw ∨ ha < hw)) ∧
    (∃ (p : Packet), ∃ (s : State), ∃ d, Reached .pwrDomainRetry p s ∧ p.len = 1 ∧ p.w 0 = d ∧ 1 ≤ d ∧ d ≤ 11 ∧ domainAbsent s d = false ∧ (s.dev.mode = .configure ∨ s.dev.mode = .ready ∨ s.dev.mode = .safe) ∧ (domain s d).failed = true ∧ (domain s d).going = none) ∧
    (∃ (p : Packet), ∃ (s : State), ∃ d, Reached .pwrDomainRetry p s ∧ p.len = 1 ∧ p.w 0 = d ∧ 1 ≤ d ∧ d ≤ 11 ∧ domainAbsent s d = false ∧ (s.dev.mode = .configure ∨ s.dev.mode = .ready ∨ s.dev.mode = .safe) ∧ (domain s d).failed = true ∧ (domain s d).going ≠ none) ∧
    (∃ (p : Packet), ∃ (s : State), ∃ d, Reached .pwrDomainRetry p s ∧ p.len = 1 ∧ p.w 0 = d ∧ 1 ≤ d ∧ d ≤ 11 ∧ domainAbsent s d = false ∧ (s.dev.mode = .configure ∨ s.dev.mode = .ready ∨ s.dev.mode = .safe) ∧ (domain s d).failed = false) :=
  ⟨⟨pk [0xFFE, 1000000, 50000], State.reset, by decide +kernel⟩,
   ⟨pk [1, 65535], inMode .ready, _, _, rfl, rfl, by decide +kernel⟩,
   ⟨pk [1 + 2 ^ 14, 0, 6 + 8 * 15 + 2 ^ 16], inMode .ready, _, _, rfl, rfl, by decide +kernel⟩,
   ⟨pk [1, 0], inMode .run, _, _, rfl, rfl, by decide +kernel⟩,
   ⟨pk [23 + 32 * 3, 0x00020001, 0x00020001, 0], State.reset, 23, 3, _, _, _, _, rfl, rfl, rfl, rfl, by decide +kernel⟩,
   ⟨pk [0, 0x00010002, 0, 0], State.reset, 0, 0, _, _, _, _, rfl, rfl, rfl, rfl, by decide +kernel⟩,
   ⟨pk [11], State.reset.modPwr fun p => { p with domains := [(11, { failed := true })] }, 11, by decide +kernel⟩,
   ⟨pk [11], State.reset.modPwr fun p => { p with domains := [(11, { failed := true, going := some .on })] }, 11, by decide +kernel⟩,
   ⟨pk [1], State.reset, 1, by decide +kernel⟩⟩

theorem witness_GraphLoads :
    (∃ (p : Packet), ∃ (s : State), ∃ (n : Nat), ∃ (b : Bool), ∃ (off : Nat), ∃ (k : Bank), n = field (p.w 0) 0 2 ∧ b = bit (p.w 0) 2 ∧ off = field (p.w 1) 0 19 ∧ k = (slotOf s n).bank b ∧ Reached .graphLoad p s ∧ Canonical s ∧ 3 ≤ p.len ∧ reservedSet (p.w 0) 0xFFFFFFF0 = false ∧ reservedSet (p.w 1) 0xFFF80000 = false ∧ off + (p.len - 2) ≤ 524288 ∧ bit (p.w 0) 3 = false ∧ (k.state = .empty ∨ k.state = .previous ∨ k.state = .active)) ∧
    (∃ (p : Packet), ∃ (s : State), ∃ (n : Nat), ∃ (b : Bool), ∃ (off : Nat), ∃ (k : Bank), n = field (p.w 0) 0 2 ∧ b = bit (p.w 0) 2 ∧ off = field (p.w 1) 0 19 ∧ k = (slotOf s n).bank b ∧ Reached .graphLoad p s ∧ Canonical s ∧ 3 ≤ p.len ∧ reservedSet (p.w 0) 0xFFFFFFF0 = false ∧ reservedSet (p.w 1) 0xFFF80000 = false ∧ off + (p.len - 2) ≤ 524288 ∧ (k.state = .armed ∨ k.state = .armedBack)) ∧
    (∃ (p : Packet), ∃ (s : State), ∃ (n : Nat), ∃ (b : Bool), ∃ (off : Nat), ∃ (k : Bank), n = field (p.w 0) 0 2 ∧ off = field (p.w 1) 0 19 ∧ k = (slotOf s n).bank b ∧ b = (slotOf s n).activeB ∧ Reached .graphLoad p s ∧ Canonical s ∧ 3 ≤ p.len ∧ reservedSet (p.w 0) 0xFFFFFFF0 = false ∧ reservedSet (p.w 1) 0xFFF80000 = false ∧ b = bit (p.w 0) 2 ∧ off + (p.len - 2) ≤ 524288 ∧ (bit (p.w 0) 3 = true ∨ k.state = .loaded ∨ k.state = .verified) ∧ k.state ≠ .armed ∧ k.state ≠ .armedBack ∧ slotState s n ≠ 0) ∧
    (∃ (p : Packet), ∃ (s : State), ∃ (n : Nat), ∃ (b : Bool), ∃ (off : Nat), ∃ (k : Bank), n = field (p.w 0) 0 2 ∧ off = field (p.w 1) 0 19 ∧ k = (slotOf s n).bank b ∧ b = (slotOf s n).activeB ∧ Reached .graphLoad p s ∧ Canonical s ∧ 3 ≤ p.len ∧ reservedSet (p.w 0) 0xFFFFFFF0 = false ∧ reservedSet (p.w 1) 0xFFF80000 = false ∧ b = bit (p.w 0) 2 ∧ off + (p.len - 2) ≤ 524288 ∧ (bit (p.w 0) 3 = true ∨ k.state = .loaded ∨ k.state = .verified) ∧ k.state ≠ .armed ∧ k.state ≠ .armedBack ∧ slotState s n = 0 ∧ (notConfiguring s = true ∨ changeoverPending s = true)) ∧
    (∃ (p : Packet), ∃ (s : State), ∃ (n : Nat), ∃ (b : Bool), ∃ (off : Nat), ∃ (k : Bank), n = field (p.w 0) 0 2 ∧ b = bit (p.w 0) 2 ∧ off = field (p.w 1) 0 19 ∧ k = (slotOf s n).bank b ∧ Reached .graphLoad p s ∧ Canonical s ∧ 3 ≤ p.len ∧ reservedSet (p.w 0) 0xFFFFFFF0 = false ∧ reservedSet (p.w 1) 0xFFF80000 = false ∧ off + (p.len - 2) ≤ 524288 ∧ (bit (p.w 0) 3 = true ∨ k.state = .loaded ∨ k.state = .verified) ∧ k.state ≠ .armed ∧ k.state ≠ .armedBack ∧ (b ≠ (slotOf s n).activeB ∨ (slotState s n = 0 ∧ notConfiguring s = false ∧ changeoverPending s = false))) ∧
    (∃ (p : Packet), ∃ (s : State), ∃ (n : Nat), ∃ (st : BankState), st = .verified ∧ p.len = 1 ∧ p.w 0 = n ∧ n < 4 ∧ changeoverPending s = false ∧ (standbyBank s n).state = st ∧ Reached .graphArm p s ∧ genNewer s n = true) ∧
    (∃ (p : Packet), ∃ (s : State), ∃ (n : Nat), ∃ (st : BankState), p.len = 1 ∧ p.w 0 = n ∧ n < 4 ∧ changeoverPending s = false ∧ (standbyBank s n).state = st ∧ Reached .graphArm p s ∧ st ≠ .verified) ∧
    (∃ (p : Packet), ∃ (s : State), ∃ (n : Nat), ∃ (st : BankState), st = .verified ∧ p.len = 1 ∧ p.w 0 = n ∧ n < 4 ∧ changeoverPending s = false ∧ (standbyBank s n).state = st ∧ Reached .graphArm p s ∧ genNewer s n = false) ∧
    (∃ (p : Packet), ∃ (s : State), ∃ (n : Nat), ∃ (st : BankState), st = .armed ∧ p.len = 1 ∧ p.w 0 = n ∧ n < 4 ∧ changeoverPending s = false ∧ (standbyBank s n).state = st ∧ Reached .graphDisarm p s) ∧
    (∃ (p : Packet), ∃ (s : State), ∃ (n : Nat), ∃ (st : BankState), st = .armedBack ∧ p.len = 1 ∧ p.w 0 = n ∧ n < 4 ∧ changeoverPending s = false ∧ (standbyBank s n).state = st ∧ Reached .graphDisarm p s) ∧
    (∃ (p : Packet), ∃ (s : State), ∃ (n : Nat), ∃ (st : BankState), p.len = 1 ∧ p.w 0 = n ∧ n < 4 ∧ changeoverPending s = false ∧ (standbyBank s n).state = st ∧ Reached .graphDisarm p s ∧ st ≠ .armed ∧ st ≠ .armedBack) ∧
    (∃ (p : Packet), ∃ (s : State), ∃ (n : Nat), ∃ (st : BankState), p.len = 1 ∧ p.w 0 = n ∧ n < 4 ∧ changeoverPending s = false ∧ (standbyBank s n).state = st ∧ Reached .graphRollback p s ∧ st ≠ .previous) ∧
    (∃ (p : Packet), ∃ (s : State), ∃ (n : Nat), ∃ (st : BankState), st = .previous ∧ p.len = 1 ∧ p.w 0 = n ∧ n < 4 ∧ changeoverPending s = false ∧ (standbyBank s n).state = st ∧ Reached .graphRollback p s ∧ 1024 < ((standbyBank s n).plan.map (·.copies)).sum) ∧
    (∃ (p : Packet), ∃ (s : State), ∃ (n : Nat), ∃ (st : BankState), st = .previous ∧ p.len = 1 ∧ p.w 0 = n ∧ n < 4 ∧ changeoverPending s = false ∧ (standbyBank s n).state = st ∧ Reached .graphRollback p s ∧ ((standbyBank s n).plan.map (·.copies)).sum ≤ 1024) :=
  ⟨⟨pk [3, 524287, 7], State.reset, _, _, _, _, rfl, rfl, rfl, rfl, by decide +kernel⟩,
   ⟨pk [3, 0, 7], bankIn false .armed State.reset, _, _, _, _, rfl, rfl, rfl, rfl, by decide +kernel⟩,
   ⟨pk [3, 524286, 7, 8], (bankIn false .loaded (inMode .run)).modSlot 3 fun k => { k with enabled := true }, _, _, _, _, rfl, rfl, rfl, rfl, by decide +kernel⟩,
   ⟨pk [3, 524286, 7, 8], bankIn false .loaded (inMode .run), _, _, _, _, rfl, rfl, rfl, rfl, by decide +kernel⟩,
   ⟨pk [15, 524287, 7], State.reset, _, _, _, _, rfl, rfl, rfl, rfl, by decide +kernel⟩,
   ⟨pk [3], bankIn true .verified State.reset, 3, .verified, rfl, by decide +kernel⟩,
   ⟨pk [3], State.reset, 3, .empty, by decide +kernel⟩,
   ⟨pk [3], bankIn false .active (bankIn true .verified State.reset), 3, .verified, rfl, by decide +kernel⟩,
   ⟨pk [3], bankIn true .armed State.reset, 3, .armed, rfl, by decide +kernel⟩,
   ⟨pk [3], bankIn true .armedBack State.reset, 3, .armedBack, rfl, by decide +kernel⟩,
   ⟨pk [3], bankIn true .previous State.reset, 3, .previous, by decide +kernel⟩,
   ⟨pk [3], bankIn true .loaded State.reset, 3, .loaded, by decide +kernel⟩,
   ⟨pk [3], (bankIn true .previous State.reset).modBank 3 true fun k => { k with plan := [{ src := 0, srcType := 4, srcCount := 1025, dst := 0, dstType := 1, dstCount := 1025, copies := 1025 }] }, 3, .previous, rfl, by decide +kernel⟩,
   ⟨pk [3], bankIn true .previous State.reset, 3, .previous, rfl, by decide +kernel⟩⟩

theorem witness_ProgramCommandsWait :
    (∃ (p : Packet), ∃ (s : State), ∃ (n : Nat), ∃ k, n = field (p.w 0) 0 2 ∧ k = (slotOf s n).bank (bit (p.w 0) 2) ∧ hasCycle s = true ∧ Reached .graphVerify p s ∧ p.len = 1 ∧ reservedSet (p.w 0) 0xFFFFFFF8 = false ∧ k.state ≠ .loaded ∧ k.state ≠ .verified) ∧
    (∃ (p : Packet), ∃ (s : State), ∃ (n : Nat), ∃ k, n = field (p.w 0) 0 2 ∧ k = (slotOf s n).bank (bit (p.w 0) 2) ∧ hasCycle s = true ∧ Reached .graphVerify p s ∧ p.len = 1 ∧ reservedSet (p.w 0) 0xFFFFFFF8 = false ∧ (k.state = .loaded ∨ k.state = .verified) ∧ bit (p.w 0) 2 ≠ (slotOf s n).activeB ∧ (activeBank s n).state = .loaded) ∧
    (∃ (p : Packet), ∃ (s : State), ∃ (n : Nat), ∃ k, n = field (p.w 0) 0 2 ∧ k = (slotOf s n).bank (bit (p.w 0) 2) ∧ hasCycle s = true ∧ Reached .graphVerify p s ∧ p.len = 1 ∧ reservedSet (p.w 0) 0xFFFFFFF8 = false ∧ (k.state = .loaded ∨ k.state = .verified) ∧ (bit (p.w 0) 2 = (slotOf s n).activeB ∨ (activeBank s n).state ≠ .loaded)) ∧
    (∃ (p : Packet), ∃ (s : State), ∃ (n : Nat), n = field (p.w 0) 0 2 ∧ hasCycle s = true ∧ Reached .graphControl p s ∧ p.len = 1 ∧ reservedSet (p.w 0) 0xFFFFFFE0 = false ∧ field (p.w 0) 2 3 = 0 ∧ (activeBank s n).state ≠ .active) ∧
    (∃ (p : Packet), ∃ (s : State), ∃ (n : Nat), n = field (p.w 0) 0 2 ∧ hasCycle s = true ∧ Reached .graphControl p s ∧ p.len = 1 ∧ reservedSet (p.w 0) 0xFFFFFFE0 = false ∧ field (p.w 0) 2 3 = 4 ∧ slotState s n ≠ 0) ∧
    (∃ (p : Packet), ∃ (s : State), ∃ (n : Nat), n = field (p.w 0) 0 2 ∧ hasCycle s = true ∧ Reached .graphControl p s ∧ p.len = 1 ∧ reservedSet (p.w 0) 0xFFFFFFE0 = false ∧ ((field (p.w 0) 2 3 = 0 ∧ (activeBank s n).state = .active) ∨ field (p.w 0) 2 3 = 1 ∨ field (p.w 0) 2 3 = 2 ∨ field (p.w 0) 2 3 = 3 ∨ (field (p.w 0) 2 3 = 4 ∧ slotState s n = 0))) ∧
    (∃ (p : Packet), ∃ (s : State), ∃ (n : Nat), n = field (p.w 0) 0 2 ∧ hasCycle s = true ∧ Reached .graphStep p s ∧ p.len = 2 ∧ reservedSet (p.w 0) 0xFFFFFFF8 = false ∧ reservedSet (p.w 1) 0xFFFF0000 = false ∧ ((field (p.w 1) 0 16 = 0 ↔ bit (p.w 0) 2 = true)) ∧ slotState s n ≠ 2) ∧
    (∃ (p : Packet), ∃ (s : State), ∃ (n : Nat), n = field (p.w 0) 0 2 ∧ hasCycle s = true ∧ Reached .graphStep p s ∧ p.len = 2 ∧ reservedSet (p.w 0) 0xFFFFFFF8 = false ∧ reservedSet (p.w 1) 0xFFFF0000 = false ∧ ((field (p.w 1) 0 16 = 0 ↔ bit (p.w 0) 2 = true)) ∧ slotState s n = 2 ∧ (slotOf s n).stepping ≠ none) ∧
    (∃ (p : Packet), ∃ (s : State), ∃ (n : Nat), ∃ x, ∃ i, n = field (p.w 0) 0 2 ∧ hasCycle s = true ∧ Reached .graphStep p s ∧ p.len = 2 ∧ reservedSet (p.w 0) 0xFFFFFFF8 = false ∧ reservedSet (p.w 1) 0xFFFF0000 = false ∧ ((field (p.w 1) 0 16 = 0 ↔ bit (p.w 0) 2 = true)) ∧ slotState s n = 2 ∧ (slotOf s n).stepping = none ∧ (slotOf s n).exec = some x ∧ slotBusy s n = false ∧ lowestReady s n = some i ∧ listsFull s (homeCore s n i) = false) ∧
    (∃ (p : Packet), ∃ (s : State), ∃ (n : Nat), n = field (p.w 0) 0 2 ∧ hasCycle s = true ∧ Reached .graphStep p s ∧ p.len = 2 ∧ reservedSet (p.w 0) 0xFFFFFFF8 = false ∧ reservedSet (p.w 1) 0xFFFF0000 = false ∧ ((field (p.w 1) 0 16 = 0 ↔ bit (p.w 0) 2 = true)) ∧ slotState s n = 2 ∧ (slotOf s n).stepping = none ∧ (slotOf s n).exec = none ∧ hasProgram s n = true ∧ inputsReady s = false) ∧
    (∃ (p : Packet), ∃ (s : State), ∃ (n : Nat), n = field (p.w 0) 0 2 ∧ hasCycle s = true ∧ Reached .graphVarRead p s ∧ p.len = 3 ∧ reservedSet (p.w 0) 0xFFFFFFF8 = false ∧ reservedSet (p.w 2) 0xFFE00000 = false ∧ 1 ≤ field (p.w 2) 10 11 ∧ field (p.w 2) 10 11 ≤ 1024 ∧ findVar s n (p.w 1) = none) ∧
    (∃ (p : Packet), ∃ (s : State), ∃ (n : Nat), ∃ v, n = field (p.w 0) 0 2 ∧ hasCycle s = true ∧ Reached .graphVarRead p s ∧ p.len = 3 ∧ reservedSet (p.w 0) 0xFFFFFFF8 = false ∧ reservedSet (p.w 2) 0xFFE00000 = false ∧ 1 ≤ field (p.w 2) 10 11 ∧ field (p.w 2) 10 11 ≤ 1024 ∧ findVar s n (p.w 1) = some v ∧ field (p.w 2) 0 10 + field (p.w 2) 10 11 ≤ v.count) ∧
    (∃ (p : Packet), ∃ (s : State), ∃ (n : Nat), ∃ v, n = field (p.w 0) 0 2 ∧ hasCycle s = true ∧ Reached .graphVarWrite p s ∧ reservedSet (p.w 0) 0xFFFFFFFC = false ∧ reservedSet (p.w 2) 0xFFE00000 = false ∧ 1 ≤ field (p.w 2) 10 11 ∧ field (p.w 2) 10 11 ≤ 1024 ∧ findVar s n (p.w 1) = some v ∧ p.len = 3 + field (p.w 2) 10 11 * tyWords v.type ∧ field (p.w 2) 0 10 + field (p.w 2) 10 11 ≤ v.count ∧ v.type ≠ 0 ∧ v.isState = true) ∧
    (∃ (p : Packet), ∃ (s : State), ∃ (n : Nat), ∃ v, n = field (p.w 0) 0 2 ∧ hasCycle s = true ∧ Reached .graphVarWrite p s ∧ reservedSet (p.w 0) 0xFFFFFFFC = false ∧ reservedSet (p.w 2) 0xFFE00000 = false ∧ 1 ≤ field (p.w 2) 10 11 ∧ field (p.w 2) 10 11 ≤ 1024 ∧ findVar s n (p.w 1) = some v ∧ p.len = 3 + field (p.w 2) 10 11 * tyWords v.type ∧ field (p.w 2) 0 10 + field (p.w 2) 10 11 ≤ v.count ∧ v.type ≠ 0 ∧ v.isState = false) :=
  ⟨⟨pk [3], cyclic .run, _, _, rfl, rfl, by decide +kernel⟩,
   ⟨pk [7], bankIn false .loaded (bankIn true .loaded (cyclic .run)), _, _, rfl, rfl, by decide +kernel⟩,
   ⟨pk [3], bankIn false .loaded (cyclic .run), _, _, rfl, rfl, by decide +kernel⟩,
   ⟨pk [3], cyclic .run, _, rfl, by decide +kernel⟩,
   ⟨pk [3 + 4 * 4], (cyclic .run).modSlot 3 fun k => { k with enabled := true }, _, rfl, by decide +kernel⟩,
   ⟨pk [3 + 4 * 4], cyclic .run, _, rfl, by decide +kernel⟩,
   ⟨pk [3, 65535], cyclic .run, _, rfl, by decide +kernel⟩,
   ⟨pk [7, 0], (cyclic .run).modSlot 3 fun k => { k with enabled := true, held := true, stepping := some { period := true, left := 0 } }, _, rfl, by decide +kernel⟩,
   ⟨pk [3, 1], ((program false (cyclic .run)).modSlot 3 fun k => { k with enabled := true, held := true, exec := some run3 }).modCore 0 fun c => { c with lists := [{ slot := 3, op := 0, prio := 0, at' := 0 }] }, _, run3, 0, rfl, by decide +kernel⟩,
   ⟨pk [3, 1], (program false (cyclic .run)).modSlot 3 fun k => { k with enabled := true, held := true }, _, rfl, by decide +kernel⟩,
   ⟨pk [3, 7, 2 ^ 10], cyclic .run, _, rfl, by decide +kernel⟩,
   ⟨pk [3, 7, 1023 + 2 ^ 10], program false (cyclic .run), _, { id := 7, type := 4, count := 1024, stateOp := 255, base := 0, slot := some 3 }, rfl, by decide +kernel⟩,
   ⟨pk [3, 7, 1023 + 2 ^ 10, 0, 0], program true (cyclic .run), _, { id := 7, type := 4, count := 1024, stateOp := 1, base := 0, slot := some 3 }, rfl, by decide +kernel⟩,
   ⟨pk [3, 7, 1023 + 2 ^ 10, 0, 0], program false (cyclic .run), _, { id := 7, type := 4, count := 1024, stateOp := 255, base := 0, slot := some 3 }, rfl, by decide +kernel⟩⟩

theorem witness_ForcesAndScheduler :
    (∃ (p : Packet), ∃ (s : State), ∃ (n : Nat), ∃ v, ∃ elem, ∃ (isThis : Force → Bool), n = field (p.w 0) 2 2 ∧ ((∀ f, isThis f = (f.slot == v.slot && f.id == p.w 1 && f.elem == elem))) ∧ Reached .graphForce p s ∧ reservedSet (p.w 0) 0xFFFFFFF0 = false ∧ forceVar s n (p.w 1) = some v ∧ p.w 2 = elem ∧ elem < v.count ∧ elem < 1024 ∧ field (p.w 0) 0 2 = 0 ∧ p.len = 5 ∧ valueBad v.type (p.w 3) (p.w 4) = false ∧ v.isState = true) ∧
    (∃ (p : Packet), ∃ (s : State), ∃ (n : Nat), ∃ v, ∃ elem, ∃ (isThis : Force → Bool), n = field (p.w 0) 2 2 ∧ ((∀ f, isThis f = (f.slot == v.slot && f.id == p.w 1 && f.elem == elem))) ∧ Reached .graphForce p s ∧ reservedSet (p.w 0) 0xFFFFFFF0 = false ∧ forceVar s n (p.w 1) = some v ∧ p.w 2 = elem ∧ elem < v.count ∧ elem < 1024 ∧ field (p.w 0) 0 2 = 0 ∧ p.len = 5 ∧ valueBad v.type (p.w 3) (p.w 4) = false ∧ v.isState = false ∧ (s.graph.forces.length < 256 ∨ s.graph.forces.any isThis = true)) ∧
    (∃ (p : Packet), ∃ (s : State), ∃ (n : Nat), ∃ v, ∃ elem, ∃ (isThis : Force → Bool), n = field (p.w 0) 2 2 ∧ ((∀ f, isThis f = (f.slot == v.slot && f.id == p.w 1 && f.elem == elem))) ∧ Reached .graphForce p s ∧ reservedSet (p.w 0) 0xFFFFFFF0 = false ∧ forceVar s n (p.w 1) = some v ∧ p.w 2 = elem ∧ elem < v.count ∧ elem < 1024 ∧ field (p.w 0) 0 2 = 0 ∧ p.len = 5 ∧ valueBad v.type (p.w 3) (p.w 4) = false ∧ v.isState = false ∧ 256 ≤ s.graph.forces.length ∧ s.graph.forces.any isThis = false) ∧
    (∃ (p : Packet), ∃ (s : State), ∃ (n : Nat), ∃ v, ∃ elem, ∃ (isThis : Force → Bool), n = field (p.w 0) 2 2 ∧ ((∀ f, isThis f = (f.slot == v.slot && f.id == p.w 1 && f.elem == elem))) ∧ Reached .graphForce p s ∧ reservedSet (p.w 0) 0xFFFFFFF0 = false ∧ forceVar s n (p.w 1) = some v ∧ p.w 2 = elem ∧ elem < v.count ∧ elem < 1024 ∧ field (p.w 0) 0 2 = 1 ∧ p.len = 3) ∧
    (∃ (p : Packet), ∃ (s : State), ∃ (n : Nat), n = field (p.w 0) 2 2 ∧ Reached .graphForce p s ∧ reservedSet (p.w 0) 0xFFFFFFF0 = false ∧ field (p.w 0) 0 2 = 2 ∧ p.len = 1) ∧
    (∃ (p : Packet), ∃ (s : State), ∃ (n : Nat), n = field (p.w 0) 2 2 ∧ Reached .graphForce p s ∧ reservedSet (p.w 0) 0xFFFFFFF0 = false ∧ field (p.w 0) 0 2 = 3 ∧ p.len = 1) ∧
    (∃ (p : Packet), ∃ (s : State), ∃ (c : SchedChange), Reached .schedConfig p s ∧ p.len = 3 ∧ reservedSet (p.w 0) 0xFFFFFFF8 = false ∧ c.w1 = p.w 1 ∧ c.w2 = p.w 2 ∧ bit (p.w 0) 0 = true ∧ reservedSet (p.w 1) 0xFFF0F800 = false ∧ field (p.w 1) 0 10 ≤ 1000 ∧ reservedSet (p.w 2) 0xFFFF0000 = false ∧ field (p.w 2) 0 16 < 2 ^ graphCores s ∧ c.slot = some (field (p.w 0) 1 2) ∧ (hasProgram s (field (p.w 0) 1 2) = false ∨ field (p.w 2) 0 16 &&& imgCoreMask s (activeAddr s (field (p.w 0) 1 2)) ≠ 0)) ∧
    (∃ (p : Packet), ∃ (s : State), ∃ (c : SchedChange), Reached .schedConfig p s ∧ p.len = 3 ∧ reservedSet (p.w 0) 0xFFFFFFF8 = false ∧ c.w1 = p.w 1 ∧ c.w2 = p.w 2 ∧ bit (p.w 0) 0 = false ∧ field (p.w 0) 1 2 = 0 ∧ reservedSet (p.w 1) 0xFFF0 = false ∧ field (p.w 1) 0 4 ≠ 0 ∧ reservedSet (p.w 2) 0xFFFF0000 = false ∧ 100 ≤ field (p.w 2) 0 16 ∧ c.slot = none) ∧
    (∃ (p : Packet), ∃ (s : State), Reached .schedClearCounters p s ∧ p.len ≠ 1) ∧
    (∃ (p : Packet), ∃ (s : State), Reached .schedClearCounters p s ∧ p.len = 1 ∧ (reservedSet (p.w 0) 0xFFFFFFFC = true ∨ p.w 0 = 0)) ∧
    (∃ (p : Packet), ∃ (s : State), Reached .schedClearCounters p s ∧ p.len = 1 ∧ reservedSet (p.w 0) 0xFFFFFFFC = false ∧ p.w 0 ≠ 0 ∧ Tab.wf {} s.sched.cores ∧ Tab.wf {} s.sched.slots) :=
  ⟨⟨pk [12, 7, 1023, 5, 6], program true (cyclic .run), _, { id := 7, type := 4, count := 1024, stateOp := 1, base := 0, slot := some 3 }, 1023, fun f => f.slot == some 3 && f.id == 7 && f.elem == 1023, rfl, fun _ => rfl, by decide +kernel⟩,
   ⟨pk [12, 7, 1023, 5, 6], program false (cyclic .run), _, { id := 7, type := 4, count := 1024, stateOp := 255, base := 0, slot := some 3 }, 1023, fun f => f.slot == some 3 && f.id == 7 && f.elem == 1023, rfl, fun _ => rfl, by decide +kernel⟩,
   ⟨pk [12, 7, 1023, 5, 6], (program false (cyclic .run)).modGraph fun g => { g with forces := (List.replicate 256 { slot := none, id := 1, elem := 0, value := 0 }) }, _, { id := 7, type := 4, count := 1024, stateOp := 255, base := 0, slot := some 3 }, 1023, fun f => f.slot == some 3 && f.id == 7 && f.elem == 1023, rfl, fun _ => rfl, by decide +kernel⟩,
   ⟨pk [13, 7, 1023], program false (cyclic .run), _, { id := 7, type := 4, count := 1024, stateOp := 255, base := 0, slot := some 3 }, 1023, fun f => f.slot == some 3 && f.id == 7 && f.elem == 1023, rfl, fun _ => rfl, by decide +kernel⟩,
   ⟨pk [14], State.reset, _, rfl, by decide +kernel⟩,
   ⟨pk [15], State.reset, _, rfl, by decide +kernel⟩,
   ⟨pk [7, 1000, 65535], State.reset, { slot := some 3, w1 := 1000, w2 := 65535 }, by decide +kernel⟩,
   ⟨pk [0, 15, 65535], State.reset, { slot := none, w1 := 15, w2 := 65535 }, by decide +kernel⟩,
   ⟨pk [], State.reset, by decide +kernel⟩,
   ⟨pk [0], State.reset, by decide +kernel⟩,
   ⟨pk [3], State.reset, by decide +kernel⟩⟩

theorem witness_LoopChannels :
    (∃ (p : Packet), ∃ (s : State), ∃ (s1 : State), ∃ (c : Nat), ∃ (w0 : Nat), ∃ (w : Nat → Nat), c = field (p.w 0) 0 10 ∧ (w = fun i => p.w (1 + i)) ∧ w0 = (if bit (w 0) 18 && bit (w 0) 14 then withField (w 0) 15 3 (chooseProc s c) else w 0) ∧ s1 = s.writeWords (loopAddr c) (wd w0 :: (p.params.drop 2).take 11) ∧ Reached .loopChannelConfig p s ∧ Canonical s ∧ p.len = 13 ∧ c < loopChannels s ∧ reservedSet (p.w 0) 0xFFFFFC00 = false ∧ loopCfgRange s w = false ∧ ((s.dev.mode = .safe ∨ s.dev.mode = .graze ∨ (s.dev.mode = .run ∨ s.dev.mode = .hold) ∧ loopEnabled s c = true ∧ bit (w 0) 14 = true))) ∧
    (∃ (p : Packet), ∃ (s : State), ∃ (s1 : State), ∃ (c : Nat), ∃ (w0 : Nat), ∃ (w : Nat → Nat), c = field (p.w 0) 0 10 ∧ (w = fun i => p.w (1 + i)) ∧ w0 = (if bit (w 0) 18 && bit (w 0) 14 then withField (w 0) 15 3 (chooseProc s c) else w 0) ∧ s1 = s.writeWords (loopAddr c) (wd w0 :: (p.params.drop 2).take 11) ∧ Reached .loopChannelConfig p s ∧ Canonical s ∧ p.len = 13 ∧ c < loopChannels s ∧ reservedSet (p.w 0) 0xFFFFFC00 = false ∧ loopCfgRange s w = false ∧ bit (w 0) 14 = true ∧ (s.dev.mode = .configure ∨ s.dev.mode = .ready ∨ (s.dev.mode = .run ∨ s.dev.mode = .hold) ∧ loopEnabled s c = false) ∧ procOver s1 (field w0 15 3) = true) ∧
    (∃ (p : Packet), ∃ (s : State), ∃ (s1 : State), ∃ (c : Nat), ∃ (w0 : Nat), ∃ (w : Nat → Nat), c = field (p.w 0) 0 10 ∧ (w = fun i => p.w (1 + i)) ∧ w0 = (if bit (w 0) 18 && bit (w 0) 14 then withField (w 0) 15 3 (chooseProc s c) else w 0) ∧ s1 = s.writeWords (loopAddr c) (wd w0 :: (p.params.drop 2).take 11) ∧ Reached .loopChannelConfig p s ∧ Canonical s ∧ p.len = 13 ∧ c < loopChannels s ∧ reservedSet (p.w 0) 0xFFFFFC00 = false ∧ loopCfgRange s w = false ∧ bit (w 0) 14 = true ∧ (s.dev.mode = .configure ∨ s.dev.mode = .ready ∨ (s.dev.mode = .run ∨ s.dev.mode = .hold) ∧ loopEnabled s c = false) ∧ procOver s1 (field w0 15 3) = false ∧ ((∃ d ∈ enabledLoops s, d ≠ c ∧ sameDest (cfgW s d 7) (w 7) = true))) ∧
    (∃ (p : Packet), ∃ (s : State), ∃ (s1 : State), ∃ (c : Nat), ∃ (w0 : Nat), ∃ (w : Nat → Nat), c = field (p.w 0) 0 10 ∧ (w = fun i => p.w (1 + i)) ∧ w0 = (if bit (w 0) 18 && bit (w 0) 14 then withField (w 0) 15 3 (chooseProc s c) else w 0) ∧ s1 = s.writeWords (loopAddr c) (wd w0 :: (p.params.drop 2).take 11) ∧ Reached .loopChannelConfig p s ∧ Canonical s ∧ p.len = 13 ∧ c < loopChannels s ∧ reservedSet (p.w 0) 0xFFFFFC00 = false ∧ loopCfgRange s w = false ∧ bit (w 0) 14 = true ∧ (s.dev.mode = .configure ∨ s.dev.mode = .ready ∨ (s.dev.mode = .run ∨ s.dev.mode = .hold) ∧ loopEnabled s c = false) ∧ procOver s1 (field w0 15 3) = false ∧ ((∀ d ∈ enabledLoops s, d ≠ c → sameDest (cfgW s d 7) (w 7) = false)) ∧ (s.dev.mode = .run ∨ s.dev.mode = .hold) ∧ loopRefBad s w = true) ∧
    (∃ (p : Packet), ∃ (s : State), ∃ (s1 : State), ∃ (c : Nat), ∃ (w0 : Nat), ∃ (w : Nat → Nat), c = field (p.w 0) 0 10 ∧ (w = fun i => p.w (1 + i)) ∧ w0 = (if bit (w 0) 18 && bit (w 0) 14 then withField (w 0) 15 3 (chooseProc s c) else w 0) ∧ s1 = s.writeWords (loopAddr c) (wd w0 :: (p.params.drop 2).take 11) ∧ Reached .loopChannelConfig p s ∧ Canonical s ∧ p.len = 13 ∧ c < loopChannels s ∧ reservedSet (p.w 0) 0xFFFFFC00 = false ∧ loopCfgRange s w = false ∧ bit (w 0) 14 = true ∧ (s.dev.mode = .configure ∨ s.dev.mode = .ready ∨ (s.dev.mode = .run ∨ s.dev.mode = .hold) ∧ loopEnabled s c = false) ∧ procOver s1 (field w0 15 3) = false ∧ ((∀ d ∈ enabledLoops s, d ≠ c → sameDest (cfgW s d 7) (w 7) = false)) ∧ (s.dev.mode = .configure ∨ s.dev.mode = .ready ∨ loopRefBad s w = false)) ∧
    (∃ (p : Packet), ∃ (s : State), ∃ (s1 : State), ∃ (c : Nat), ∃ (w0 : Nat), ∃ (w : Nat → Nat), c = field (p.w 0) 0 10 ∧ (w = fun i => p.w (1 + i)) ∧ w0 = (if bit (w 0) 18 && bit (w 0) 14 then withField (w 0) 15 3 (chooseProc s c) else w 0) ∧ s1 = s.writeWords (loopAddr c) (wd w0 :: (p.params.drop 2).take 11) ∧ Reached .loopChannelConfig p s ∧ Canonical s ∧ p.len = 13 ∧ c < loopChannels s ∧ reservedSet (p.w 0) 0xFFFFFC00 = false ∧ loopCfgRange s w = false ∧ s.dev.mode ≠ .safe ∧ s.dev.mode ≠ .graze ∧ bit (w 0) 14 = false) :=
  ⟨⟨(pk [1023, 10 + 2 ^ 14, 0, 0, 0, 0, 0, 0, 0, 0, 0, 0, 0]), inMode .safe, _, _, _, _, rfl, rfl, rfl, rfl, by decide +kernel⟩,
   ⟨(pk [511, 10 + 2 ^ 14, 0, 0, 0, 0, 0, 0, 0, 0, 0, 0, 0]), manyLoops, _, _, _, _, rfl, rfl, rfl, rfl, by decide +kernel⟩,
   ⟨(pk [1023, 10 + 2 ^ 14, 0, 0, 0, 0, 0, 0, 1, 0, 0, 0, 0]), (State.reset).writeWords (loopAddr 0) [wd (50 + 2 ^ 14), 0, 0, 0, 0, 0, 0, wd (1)], _, _, _, _, rfl, rfl, rfl, rfl, by decide +kernel⟩,
   ⟨(pk [1023, 10 + 2 ^ 14, 3, 0, 0, 0, 0, 0, 0, 0, 0, 0, 0]), inMode .run, _, _, _, _, rfl, rfl, rfl, rfl, by decide +kernel⟩,
   ⟨(pk [1023, 10000 + 2 ^ 14, 0, 0, 0, 0, 0, 0, 0, 0, 0, 0, 0]), inMode .ready, _, _, _, _, rfl, rfl, rfl, rfl, by decide +kernel⟩,
   ⟨(pk [1023, 10, 0, 0, 0, 0, 0, 0, 0, 0, 0, 0, 0]), inMode .run, _, _, _, _, rfl, rfl, rfl, rfl, by decide +kernel⟩⟩

theorem witness_LoopBanks :
    (∃ (p : Packet), ∃ (s : State), ∃ c, ∃ first, ∃ act, ∃ b, c = field (p.w 0) 0 10 ∧ act = bit (p.w 0) 10 ∧ first = field (p.w 0) 16 5 ∧ b = (activeB s c != !act) ∧ Canonical s ∧ Reached .loopCoefWrite p s ∧ 2 ≤ p.len ∧ first + (p.len - 1) ≤ 30 ∧ c < loopChannels s ∧ reservedSet (p.w 0) 0xFFE0F800 = false ∧ act = false ∧ loopArmed s c = true) ∧
    (∃ (p : Packet), ∃ (s : State), ∃ c, ∃ first, ∃ act, ∃ b, c = field (p.w 0) 0 10 ∧ act = bit (p.w 0) 10 ∧ first = field (p.w 0) 16 5 ∧ b = (activeB s c != !act) ∧ Canonical s ∧ Reached .loopCoefWrite p s ∧ 2 ≤ p.len ∧ first + (p.len - 1) ≤ 30 ∧ c < loopChannels s ∧ reservedSet (p.w 0) 0xFFE0F800 = false ∧ act = true ∧ loopEnabled s c = true ∧ s.dev.mode ≠ .configure) ∧
    (∃ (p : Packet), ∃ (s : State), ∃ c, ∃ first, ∃ act, ∃ b, c = field (p.w 0) 0 10 ∧ act = bit (p.w 0) 10 ∧ first = field (p.w 0) 16 5 ∧ b = (activeB s c != !act) ∧ Canonical s ∧ Reached .loopCoefWrite p s ∧ 2 ≤ p.len ∧ first + (p.len - 1) ≤ 30 ∧ c < loopChannels s ∧ reservedSet (p.w 0) 0xFFE0F800 = false ∧ ((act = false ∧ loopArmed s c = false) ∨ (act = true ∧ (loopEnabled s c = false ∨ s.dev.mode = .configure)))) ∧
    (∃ (p : Packet), ∃ (s : State), ∃ lo, ∃ hi, lo = field (p.w 0) 0 10 ∧ hi = field (p.w 0) 16 10 ∧ Canonical s ∧ Reached .loopBankArm p s ∧ p.len = 1 ∧ lo ≤ hi ∧ hi < loopChannels s ∧ reservedSet (p.w 0) 0x7C00FC00 = false ∧ bit (p.w 0) 31 = true ∧ changeoverPending s = true) ∧
    (∃ (p : Packet), ∃ (s : State), ∃ lo, ∃ hi, hi = field (p.w 0) 16 10 ∧ lo = hi ∧ Canonical s ∧ Reached .loopBankArm p s ∧ p.len = 1 ∧ lo = field (p.w 0) 0 10 ∧ lo ≤ hi ∧ hi < loopChannels s ∧ reservedSet (p.w 0) 0x7C00FC00 = false ∧ bit (p.w 0) 31 = true ∧ changeoverPending s = false) ∧
    (∃ (p : Packet), ∃ (s : State), ∃ lo, ∃ hi, lo = field (p.w 0) 0 10 ∧ hi = field (p.w 0) 16 10 ∧ Canonical s ∧ Reached .loopBankArm p s ∧ p.len = 1 ∧ lo ≤ hi ∧ hi < loopChannels s ∧ reservedSet (p.w 0) 0x7C00FC00 = false ∧ bit (p.w 0) 31 = false ∧ ((∀ c, lo ≤ c → c ≤ hi → bankBad s c (!activeB s c) = none))) ∧
    (∃ (p : Packet), ∃ (s : State), ∃ lo, ∃ hi, ∃ c, ∃ i, lo = field (p.w 0) 0 10 ∧ hi = field (p.w 0) 16 10 ∧ Canonical s ∧ Reached .loopBankArm p s ∧ p.len = 1 ∧ lo ≤ hi ∧ hi < loopChannels s ∧ reservedSet (p.w 0) 0x7C00FC00 = false ∧ bit (p.w 0) 31 = false ∧ lo ≤ c ∧ c ≤ hi ∧ ((∀ d, lo ≤ d → d < c → bankBad s d (!activeB s d) = none)) ∧ bankBad s c (!activeB s c) = some i) ∧
    (∃ (p : Packet), ∃ (s : State), ∃ c, ∃ t, c = field (p.w 0) 0 10 ∧ t = field (p.w 0) 10 7 ∧ Canonical s ∧ Reached .loopRepConfig p s ∧ p.len = 2 ∧ repChannels s ≠ 0 ∧ c < loopChannels s ∧ reservedSet (p.w 0) 0xF8000000 = false ∧ bit (p.w 0) 18 = false ∧ field (p.w 0) 19 8 = 0 ∧ p.w 1 = 0 ∧ repState s c ≠ 0 ∧ ((∀ d < loopChannels s, d ≠ c → hasTable s d = true → tableOf s d ≠ t))) ∧
    (∃ (p : Packet), ∃ (s : State), ∃ c, ∃ t, c = field (p.w 0) 0 10 ∧ t = field (p.w 0) 10 7 ∧ Canonical s ∧ Reached .loopRepConfig p s ∧ p.len = 2 ∧ repChannels s ≠ 0 ∧ c < loopChannels s ∧ reservedSet (p.w 0) 0xF8000000 = false ∧ bit (p.w 0) 18 = false ∧ field (p.w 0) 19 8 = 0 ∧ p.w 1 = 0 ∧ bit (p.w 0) 17 = true ∧ ((∃ d < loopChannels s, d ≠ c ∧ hasTable s d = true ∧ tableOf s d = t))) ∧
    (∃ (p : Packet), ∃ (s : State), ∃ c, ∃ t, c = field (p.w 0) 0 10 ∧ t = field (p.w 0) 10 7 ∧ Canonical s ∧ Reached .loopRepConfig p s ∧ p.len = 2 ∧ repChannels s ≠ 0 ∧ c < loopChannels s ∧ reservedSet (p.w 0) 0xF8000000 = false ∧ bit (p.w 0) 18 = false ∧ field (p.w 0) 19 8 = 0 ∧ p.w 1 = 0 ∧ repState s c = 0 ∧ (bit (p.w 0) 17 = false ∨ (∀ d < loopChannels s, d ≠ c → hasTable s d = true → tableOf s d ≠ t))) :=
  ⟨⟨pk [1023 + 28 * 2 ^ 16, 1, 1], (State.reset).writeWords (loopAddr 1023 + 0x280 + 4 * 13) [wd (16)], _, _, _, _, rfl, rfl, rfl, rfl, by decide +kernel⟩,
   ⟨pk [1023 + 2 ^ 10, 1], (inMode .run).writeWords (loopAddr 1023) [wd (50 + 2 ^ 14), 0, 0, 0, 0, 0, 0, wd (0)], _, _, _, _, rfl, rfl, rfl, rfl, by decide +kernel⟩,
   ⟨pk [1023 + 29 * 2 ^ 16, 1], State.reset, _, _, _, _, rfl, rfl, rfl, rfl, by decide +kernel⟩,
   ⟨pk [1023 + 1023 * 2 ^ 16 + 2 ^ 31], pending (cyclic .run), _, _, rfl, rfl, by decide +kernel⟩,
   ⟨pk [1023 + 1023 * 2 ^ 16 + 2 ^ 31], (State.reset).writeWords (loopAddr 1023 + 0x280 + 4 * 13) [wd (16)], _, _, rfl, rfl, by decide +kernel⟩,
   ⟨pk [1022 + 1023 * 2 ^ 16], State.reset, _, _, rfl, rfl, by decide +kernel⟩,
   ⟨pk [1022 + 1023 * 2 ^ 16], State.reset.writeWords (bankBase 1023 true + 12) [0x3F800000], _, _, 1023, 3, rfl, rfl, by decide +kernel⟩,
   ⟨pk [1023 + 127 * 2 ^ 10, 0], (State.reset).writeWords (loopAddr 1023 + 0x280 + 4 * 13) [wd (2 ^ 10)], _, _, rfl, rfl, by decide +kernel⟩,
   ⟨pk [1023 + 127 * 2 ^ 10 + 2 ^ 17, 0], (State.reset).writeWords (loopAddr 0 + 4 * 12) [wd (255)], _, _, rfl, rfl, by decide +kernel⟩,
   ⟨pk [1023 + 127 * 2 ^ 10 + 2 ^ 17, 0], State.reset, _, _, rfl, rfl, by decide +kernel⟩⟩

theorem witness_LoopSampleCommands :
    (∃ (p : Packet), ∃ (s : State), ∃ (lo : Nat), ∃ (hi : Nat), lo = field (p.w 0) 0 10 ∧ hi = field (p.w 0) 16 10 ∧ lo ≤ hi ∧ hi < loopChannels s ∧ Reached .loopMode p s ∧ p.len = 2 ∧ reservedSet (p.w 0) 0xE000FC00 = false ∧ ((bit (p.w 0) 28 = true ∨ field (p.w 0) 26 2 = 0)) ∧ Fmt.b32.isFinite (p.w 1) = true ∧ ((∀ c, lo ≤ c → c ≤ hi → loopEnabled s c = true))) ∧
    (∃ (p : Packet), ∃ (s : State), ∃ (lo : Nat), ∃ (hi : Nat), hi = field (p.w 0) 16 10 ∧ lo = hi ∧ lo = field (p.w 0) 0 10 ∧ lo ≤ hi ∧ hi < loopChannels s ∧ Reached .loopMode p s ∧ p.len = 2 ∧ reservedSet (p.w 0) 0xE000FC00 = false ∧ ((bit (p.w 0) 28 = true ∨ field (p.w 0) 26 2 = 0)) ∧ Fmt.b32.isFinite (p.w 1) = true ∧ Canonical s ∧ loopEnabled s lo = false) ∧
    (∃ (p : Packet), ∃ (s : State), ∃ (lo : Nat), ∃ (hi : Nat), lo = field (p.w 0) 0 10 ∧ hi = field (p.w 0) 16 10 ∧ lo ≤ hi ∧ hi < loopChannels s ∧ Reached .loopBankSwap p s ∧ p.len = 1 ∧ reservedSet (p.w 0) 0xFC00FC00 = false ∧ (s.dev.mode = .safe ∨ s.dev.mode = .graze)) ∧
    (∃ (p : Packet), ∃ (s : State), ∃ (lo : Nat), ∃ (hi : Nat), lo = field (p.w 0) 0 10 ∧ hi = field (p.w 0) 16 10 ∧ lo ≤ hi ∧ hi < loopChannels s ∧ Reached .loopBankSwap p s ∧ p.len = 1 ∧ reservedSet (p.w 0) 0xFC00FC00 = false ∧ s.dev.mode ≠ .safe ∧ s.dev.mode ≠ .graze ∧ changeoverPending s = true) ∧
    (∃ (p : Packet), ∃ (s : State), ∃ (lo : Nat), ∃ (hi : Nat), lo = field (p.w 0) 0 10 ∧ hi = field (p.w 0) 16 10 ∧ lo ≤ hi ∧ hi < loopChannels s ∧ Reached .loopBankSwap p s ∧ p.len = 1 ∧ reservedSet (p.w 0) 0xFC00FC00 = false ∧ s.dev.mode ≠ .safe ∧ s.dev.mode ≠ .graze ∧ changeoverPending s = false ∧ ((∀ c, lo ≤ c → c ≤ hi → loopArmed s c = false))) ∧
    (∃ (p : Packet), ∃ (s : State), ∃ (lo : Nat), ∃ (hi : Nat), lo = field (p.w 0) 0 10 ∧ hi = field (p.w 0) 16 10 ∧ lo ≤ hi ∧ hi < loopChannels s ∧ Reached .loopBankSwap p s ∧ p.len = 1 ∧ reservedSet (p.w 0) 0xFC00FC00 = false ∧ s.dev.mode ≠ .safe ∧ s.dev.mode ≠ .graze ∧ changeoverPending s = false ∧ s.dev.mode ≠ .configure ∧ ((∀ c, lo ≤ c → c ≤ hi → loopEnabled s c = true ∧ loopArmed s c = true))) ∧
    (∃ (p : Packet), ∃ (s : State), ∃ (lo : Nat), ∃ (hi : Nat), hi = field (p.w 0) 16 10 ∧ lo = hi ∧ lo = field (p.w 0) 0 10 ∧ lo ≤ hi ∧ hi < loopChannels s ∧ Reached .loopBankSwap p s ∧ p.len = 1 ∧ reservedSet (p.w 0) 0xFC00FC00 = false ∧ s.dev.mode ≠ .safe ∧ s.dev.mode ≠ .graze ∧ changeoverPending s = false ∧ s.dev.mode = .configure ∧ Canonical s ∧ loopArmed s lo = true ∧ hasTable s lo = false) ∧
    (∃ (p : Packet), ∃ (s : State), ∃ (lo : Nat), ∃ (hi : Nat), lo = field (p.w 0) 0 10 ∧ hi = field (p.w 0) 16 10 ∧ lo ≤ hi ∧ hi < loopChannels s ∧ Reached .loopRepControl p s ∧ p.len = 1 ∧ reservedSet (p.w 0) 0xCC00FC00 = false ∧ repChannels s = 0) ∧
    (∃ (p : Packet), ∃ (s : State), ∃ (lo : Nat), ∃ (hi : Nat), lo = field (p.w 0) 0 10 ∧ hi = field (p.w 0) 16 10 ∧ lo ≤ hi ∧ hi < loopChannels s ∧ Reached .loopRepControl p s ∧ p.len = 1 ∧ reservedSet (p.w 0) 0xCC00FC00 = false ∧ repChannels s ≠ 0 ∧ ((∀ c, lo ≤ c → c ≤ hi → hasTable s c = false))) ∧
    (∃ (p : Packet), ∃ (s : State), ∃ (lo : Nat), ∃ (hi : Nat), lo = field (p.w 0) 0 10 ∧ hi = field (p.w 0) 16 10 ∧ lo ≤ hi ∧ hi < loopChannels s ∧ Reached .loopRepControl p s ∧ p.len = 1 ∧ reservedSet (p.w 0) 0xCC00FC00 = false ∧ repChannels s ≠ 0 ∧ ((∀ c, lo ≤ c → c ≤ hi → hasTable s c = true ∧ loopEnabled s c = true))) ∧
    (∃ (p : Packet), ∃ (s : State), ∃ (c : Nat), c = field (p.w 0) 0 10 ∧ Reached .loopLatency p s ∧ p.len = 1 ∧ reservedSet (p.w 0) 0x7FFFFC00 = false ∧ loopChannels s ≤ c) ∧
    (∃ (p : Packet), ∃ (s : State), ∃ (c : Nat), c = field (p.w 0) 0 10 ∧ Reached .loopLatency p s ∧ p.len = 1 ∧ reservedSet (p.w 0) 0x7FFFFC00 = false ∧ c < loopChannels s) :=
  ⟨⟨pk [1023 + 1023 * 2 ^ 16 + 7 * 2 ^ 26, 0], (cyclic .run).writeWords (loopAddr 1023) [wd (50 + 2 ^ 14), 0, 0, 0, 0, 0, 0, wd (0)], _, _, rfl, rfl, by decide +kernel⟩,
   ⟨pk [1023 + 1023 * 2 ^ 16 + 7 * 2 ^ 26, 0], cyclic .run, _, _, rfl, rfl, by decide +kernel⟩,
   ⟨pk [1023 + 1023 * 2 ^ 16], cyclic .safe, _, _, rfl, rfl, by decide +kernel⟩,
   ⟨pk [1023 + 1023 * 2 ^ 16], pending (cyclic .run), _, _, rfl, rfl, by decide +kernel⟩,
   ⟨pk [1022 + 1023 * 2 ^ 16], cyclic .run, _, _, rfl, rfl, by decide +kernel⟩,
   ⟨pk [1023 + 1023 * 2 ^ 16], ((cyclic .run).writeWords (loopAddr 1023) [wd (50 + 2 ^ 14), 0, 0, 0, 0, 0, 0, wd (0)]).writeWords (loopAddr 1023 + 0x280 + 4 * 13) [wd (16)], _, _, rfl, rfl, by decide +kernel⟩,
   ⟨pk [1023 + 1023 * 2 ^ 16], (State.reset).writeWords (loopAddr 1023 + 0x280 + 4 * 13) [wd (16)], _, _, rfl, rfl, by decide +kernel⟩,
   ⟨pk [510 + 511 * 2 ^ 16], State.reset.modBoot fun b => { b with variant := .ubr1650 }, _, _, rfl, rfl, by decide +kernel⟩,
   ⟨pk [1022 + 1023 * 2 ^ 16], State.reset, _, _, rfl, rfl, by decide +kernel⟩,
   ⟨pk [1023 + 1023 * 2 ^ 16], ((cyclic .run).writeWords (loopAddr 1023) [wd (50 + 2 ^ 14), 0, 0, 0, 0, 0, 0, wd (0)]).writeWords (loopAddr 1023 + 4 * 12) [wd (255)], _, _, rfl, rfl, by decide +kernel⟩,
   ⟨pk [512], State.reset.modBoot fun b => { b with variant := .ubr1650 }, _, rfl, by decide +kernel⟩,
   ⟨pk [1023 + 2 ^ 31], State.reset, _, rfl, by decide +kernel⟩⟩

theorem witness_AxisCommands :
    (∃ (p : Packet), ∃ (s : State), ∃ n, ∃ kind, ∃ c, n = field (p.w 0) 0 8 ∧ kind = field (p.w 0) 8 2 ∧ c = ({ cfg := p.params } : AxisCh) ∧ Tab.wf {} s.axis.ch ∧ Reached .axisConfig p s ∧ p.len = 17 ∧ axisCfgRange s c n kind = false ∧ s.dev.mode ≠ .configure ∧ s.dev.mode ≠ .ready) ∧
    (∃ (p : Packet), ∃ (s : State), ∃ n, ∃ kind, ∃ c, n = field (p.w 0) 0 8 ∧ c = ({ cfg := p.params } : AxisCh) ∧ kind = 2 ∧ ((∃ d, d ≠ n ∧ (axisOf s d).kind = 2 ∧ (axisOf s d).pulseAxis = c.pulseAxis)) ∧ Tab.wf {} s.axis.ch ∧ Reached .axisConfig p s ∧ p.len = 17 ∧ kind = field (p.w 0) 8 2 ∧ axisCfgRange s c n kind = false ∧ (s.dev.mode = .configure ∨ s.dev.mode = .ready)) ∧
    (∃ (p : Packet), ∃ (s : State), ∃ n, ∃ kind, ∃ c, n = field (p.w 0) 0 8 ∧ kind = field (p.w 0) 8 2 ∧ c = ({ cfg := p.params } : AxisCh) ∧ (kind ≠ 2 ∨ (∀ d, d ≠ n → (axisOf s d).kind = 2 → (axisOf s d).pulseAxis ≠ c.pulseAxis)) ∧ Tab.wf {} s.axis.ch ∧ Reached .axisConfig p s ∧ p.len = 17 ∧ axisCfgRange s c n kind = false ∧ (s.dev.mode = .configure ∨ s.dev.mode = .ready)) ∧
    (∃ (p : Packet), ∃ (s : State), ∃ first, ∃ k, ∃ (entry : Nat → List Word), ∃ i, first = p.w 0 ∧ ((∀ i, entry i = (p.params.drop (1 + 6 * i)).take 6)) ∧ Tab.wf {} s.axis.ch ∧ Reached .axisTableWrite p s ∧ Canonical s ∧ p.len = 1 + 6 * k ∧ 1 ≤ k ∧ k ≤ 681 ∧ first + k ≤ 65536 ∧ i < k ∧ entryRefused (first + i) (entry i) = true ∧ ((∀ j < i, entryRefused (first + j) (entry j) = false))) ∧
    (∃ (p : Packet), ∃ (s : State), ∃ first, ∃ k, ∃ (entry : Nat → List Word), first = p.w 0 ∧ ((∀ i, entry i = (p.params.drop (1 + 6 * i)).take 6)) ∧ Tab.wf {} s.axis.ch ∧ Reached .axisTableWrite p s ∧ Canonical s ∧ p.len = 1 + 6 * k ∧ 1 ≤ k ∧ k ≤ 681 ∧ first + k ≤ 65536 ∧ ((∀ i < k, entryRefused (first + i) (entry i) = false)) ∧ entryInUse s first k = true) ∧
    (∃ (p : Packet), ∃ (s : State), ∃ first, ∃ k, ∃ (entry : Nat → List Word), first = p.w 0 ∧ ((∀ i, entry i = (p.params.drop (1 + 6 * i)).take 6)) ∧ Tab.wf {} s.axis.ch ∧ Reached .axisTableWrite p s ∧ Canonical s ∧ p.len = 1 + 6 * k ∧ 1 ≤ k ∧ k ≤ 681 ∧ first + k ≤ 65536 ∧ ((∀ i < k, entryRefused (first + i) (entry i) = false)) ∧ entryInUse s first k = false) ∧
    (∃ (p : Packet), ∃ (s : State), ∃ n, n = field (p.w 0) 0 8 ∧ Tab.wf {} s.axis.ch ∧ Reached .axisStandstill p s ∧ p.len = 1 ∧ n < axes s ∧ reservedSet (p.w 0) 0xF800 = false ∧ field (p.w 0) 8 2 ≠ 3 ∧ (axisOf s n).kind = 0) ∧
    (∃ (p : Packet), ∃ (s : State), ∃ n, n = field (p.w 0) 0 8 ∧ Tab.wf {} s.axis.ch ∧ Reached .axisStandstill p s ∧ p.len = 1 ∧ n < axes s ∧ reservedSet (p.w 0) 0xF800 = false ∧ field (p.w 0) 8 2 ≠ 3 ∧ (axisOf s n).kind ≠ 0) ∧
    (∃ (p : Packet), ∃ (s : State), Reached .axisStart p s ∧ p.len = 2 ∧ reservedSet (p.w 0) 0xFFFFFF00 = false ∧ reservedSet (p.w 1) 0xFFFF0000 = false ∧ axes s ≤ field (p.w 0) 0 8) ∧
    (∃ (p : Packet), ∃ (s : State), Reached .axisStart p s ∧ p.len = 2 ∧ reservedSet (p.w 0) 0xFFFFFF00 = false ∧ reservedSet (p.w 1) 0xFFFF0000 = false ∧ field (p.w 0) 0 8 < axes s ∧ s.dev.mode ≠ .run ∧ s.dev.mode ≠ .hold) ∧
    (∃ (p : Packet), ∃ (s : State), Reached .axisStart p s ∧ p.len = 2 ∧ reservedSet (p.w 0) 0xFFFFFF00 = false ∧ reservedSet (p.w 1) 0xFFFF0000 = false ∧ field (p.w 0) 0 8 < axes s ∧ (s.dev.mode = .run ∨ s.dev.mode = .hold)) ∧
    (∃ (p : Packet), ∃ (s : State), Reached .axisStop p s ∧ p.len = 1 ∧ reservedSet (p.w 0) 0xFFFFF800 = false ∧ field (p.w 0) 0 8 < axes s ∧ bit (p.w 0) 10 = true ∧ field (p.w 0) 0 8 ≠ 0) ∧
    (∃ (p : Packet), ∃ (s : State), Reached .axisStop p s ∧ p.len = 1 ∧ reservedSet (p.w 0) 0xFFFFF800 = false ∧ field (p.w 0) 0 8 < axes s ∧ (bit (p.w 0) 10 = false ∨ field (p.w 0) 0 8 = 0)) ∧
    (∃ (p : Packet), ∃ (s : State), Reached .axisSetPosition p s ∧ p.len = 3 ∧ reservedSet (p.w 0) 0xFFFFFC00 = false ∧ field (p.w 0) 0 8 < axes s ∧ (field (p.w 0) 8 2 = 3 ∨ field (p.w 0) 8 2 = 1 ∧ (p.w 1 ≠ 0 ∨ p.w 2 ≠ 0))) ∧
    (∃ (p : Packet), ∃ (s : State), Reached .axisSetPosition p s ∧ p.len = 3 ∧ reservedSet (p.w 0) 0xFFFFFC00 = false ∧ field (p.w 0) 0 8 < axes s ∧ (field (p.w 0) 8 2 = 0 ∨ field (p.w 0) 8 2 = 2 ∨ field (p.w 0) 8 2 = 1 ∧ p.w 1 = 0 ∧ p.w 2 = 0) ∧ (s.dev.mode = .safe ∨ s.dev.mode = .graze)) ∧
    (∃ (p : Packet), ∃ (s : State), Reached .axisSetPosition p s ∧ p.len = 3 ∧ reservedSet (p.w 0) 0xFFFFFC00 = false ∧ field (p.w 0) 0 8 < axes s ∧ (field (p.w 0) 8 2 = 0 ∨ field (p.w 0) 8 2 = 2 ∨ field (p.w 0) 8 2 = 1 ∧ p.w 1 = 0 ∧ p.w 2 = 0) ∧ s.dev.mode ≠ .safe ∧ s.dev.mode ≠ .graze) :=
  ⟨⟨(pk [255 + 1 * 2 ^ 8 + 0 * 2 ^ 10, 0, 0, 16, 0, 0, 0, 1, 1, 1, 0, 0, 0, 0, 0xFFFFFFFF, 0x7FFFFFFF, 0]), cyclic .run, _, _, _, rfl, rfl, rfl, by decide +kernel⟩,
   ⟨(pk [255 + 2 * 2 ^ 8 + 15 * 2 ^ 10, 0, 0, 16, 0, 0, 0, 1, 1, 1, 0, 0, 0, 0, 0xFFFFFFFF, 0x7FFFFFFF, 0]), State.reset.modAxis fun a => { a with ch := [(0, { kind := 2, cfg := [wd (15 * 2 ^ 10)] })] }, _, _, _, rfl, rfl, rfl, ⟨0, by decide +kernel⟩, by decide +kernel⟩,
   ⟨(pk [255 + 1 * 2 ^ 8 + 0 * 2 ^ 10, 0, 0, 16, 0, 0, 0, 1, 1, 1, 0, 0, 0, 0, 0xFFFFFFFF, 0x7FFFFFFF, 0]), State.reset, _, _, _, rfl, rfl, rfl, .inl (by decide +kernel), by decide +kernel⟩,
   ⟨pk [65534, 1, 0, 0, 0, 0, 0, 1, 0, 0, 0, 0, 0], State.reset, _, 2, fun i => ((pk [65534, 1, 0, 0, 0, 0, 0, 1, 0, 0, 0, 0, 0]).params.drop (1 + 6 * i)).take 6, 1, rfl, fun _ => rfl, by decide +kernel⟩,
   ⟨pk [65535, 1, 1, 0, 0, 0, 0], State.reset.modAxis fun a => { a with ch := [(255, { kind := 1, m := { ahead := some (65535, none) } })] }, _, 1, fun i => ((pk [65535, 1, 1, 0, 0, 0, 0]).params.drop (1 + 6 * i)).take 6, rfl, fun _ => rfl, by decide +kernel⟩,
   ⟨pk [65535, 1, 1, 0, 0, 0, 0], State.reset, _, 1, fun i => ((pk [65535, 1, 1, 0, 0, 0, 0]).params.drop (1 + 6 * i)).take 6, rfl, fun _ => rfl, by decide +kernel⟩,
   ⟨pk [255 + 2 * 2 ^ 8 + 65535 * 2 ^ 16], State.reset, _, rfl, by decide +kernel⟩,
   ⟨pk [255 + 2 * 2 ^ 8 + 65535 * 2 ^ 16], State.reset.modAxis fun a => { a with ch := [(255, { kind := 1 })] }, _, rfl, by decide +kernel⟩,
   ⟨pk [128, 65535], State.reset.modBoot fun b => { b with variant := .ubr1650 }, by decide +kernel⟩,
   ⟨pk [255, 65535], cyclic .ready, by decide +kernel⟩,
   ⟨pk [255, 65535], cyclic .run, by decide +kernel⟩,
   ⟨pk [255 + 2 ^ 10], cyclic .run, by decide +kernel⟩,
   ⟨pk [2 ^ 10], cyclic .run, by decide +kernel⟩,
   ⟨pk [255 + 2 ^ 8, 0, 1], cyclic .run, by decide +kernel⟩,
   ⟨pk [255 + 2 ^ 9, 0, 1], inMode .safe, by decide +kernel⟩,
   ⟨pk [255 + 2 ^ 9, 0, 1], cyclic .run, by decide +kernel⟩⟩

theorem witness_ConverterSettings :
    (∃ (p : Packet), ∃ (s : State), ∃ c, c = field (p.w 0) 0 4 ∧ Tab.wf {} s.adc.convs ∧ Tab.wf none s.adc.calSet ∧ Reached .adcConfig p s ∧ p.len = 2 ∧ reservedSet (p.w 0) 0xFFFFFFC0 = false ∧ reservedSet (p.w 1) 0xFFFF0000 = false ∧ s.dev.mode ≠ .configure ∧ s.dev.mode ≠ .ready) ∧
    (∃ (p : Packet), ∃ (s : State), ∃ c, c = field (p.w 0) 0 4 ∧ Tab.wf {} s.adc.convs ∧ Tab.wf none s.adc.calSet ∧ Reached .adcConfig p s ∧ p.len = 2 ∧ reservedSet (p.w 0) 0xFFFFFFC0 = false ∧ reservedSet (p.w 1) 0xFFFF0000 = false ∧ (s.dev.mode = .configure ∨ s.dev.mode = .ready)) ∧
    (∃ (p : Packet), ∃ (s : State), ∃ c, ∃ len, c = field (p.w 0) 0 4 ∧ len = field (p.w 0) 4 7 ∧ Tab.wf {} s.adc.convs ∧ Tab.wf none s.adc.calSet ∧ Reached .adcTableWrite p s ∧ p.len = 1 + len ∧ len ≤ 64 ∧ reservedSet (p.w 0) 0xFFFFF800 = false ∧ ((∀ i < len, reservedSet (p.w (1 + i)) 0xF8 = false)) ∧ (convOf s c).faulted = true) ∧
    (∃ (p : Packet), ∃ (s : State), ∃ c, ∃ len, c = field (p.w 0) 0 4 ∧ len = field (p.w 0) 4 7 ∧ Tab.wf {} s.adc.convs ∧ Tab.wf none s.adc.calSet ∧ Reached .adcTableWrite p s ∧ p.len = 1 + len ∧ len ≤ 64 ∧ reservedSet (p.w 0) 0xFFFFF800 = false ∧ ((∀ i < len, reservedSet (p.w (1 + i)) 0xF8 = false)) ∧ (convOf s c).faulted = false) ∧
    (∃ (p : Packet), ∃ (s : State), ∃ g, g = field (p.w 0) 0 2 ∧ Tab.wf {} s.adc.convs ∧ Tab.wf none s.adc.calSet ∧ Reached .adcGroupConfig p s ∧ p.len = 4 ∧ reservedSet (p.w 0) 0xFFF00000 = false ∧ reservedSet (p.w 1) 0xFFFF0000 = false ∧ reservedSet (p.w 2) 0xC0000000 = false ∧ reservedSet (p.w 3) 0xFFFC0000 = false ∧ ((field (p.w 0) 2 2 = 2 → 10 ≤ field (p.w 0) 6 14 ∧ field (p.w 0) 6 14 ≤ 10000)) ∧ ((field (p.w 0) 2 2 ≠ 2 → field (p.w 0) 6 14 = 0)) ∧ (s.dev.mode = .configure ∨ s.dev.mode = .ready) ∧ Tab.wf {} s.adc.groups ∧ ((∃ o < 4, o ≠ g ∧ (look {} s.adc.groups o).convMask &&& p.w 1 ≠ 0))) ∧
    (∃ (p : Packet), ∃ (s : State), ∃ g, g = field (p.w 0) 0 2 ∧ Tab.wf {} s.adc.convs ∧ Tab.wf none s.adc.calSet ∧ Reached .adcGroupConfig p s ∧ p.len = 4 ∧ reservedSet (p.w 0) 0xFFF00000 = false ∧ reservedSet (p.w 1) 0xFFFF0000 = false ∧ reservedSet (p.w 2) 0xC0000000 = false ∧ reservedSet (p.w 3) 0xFFFC0000 = false ∧ ((field (p.w 0) 2 2 = 2 → 10 ≤ field (p.w 0) 6 14 ∧ field (p.w 0) 6 14 ≤ 10000)) ∧ ((field (p.w 0) 2 2 ≠ 2 → field (p.w 0) 6 14 = 0)) ∧ (s.dev.mode = .configure ∨ s.dev.mode = .ready) ∧ Tab.wf {} s.adc.groups ∧ ((∀ o < 4, o ≠ g → (look {} s.adc.groups o).convMask &&& p.w 1 = 0))) ∧
    (∃ (p : Packet), ∃ (s : State), ∃ first, ∃ n, ∃ r, first = field (p.w 0) 0 7 ∧ n = field (p.w 0) 7 8 ∧ r = field (p.w 0) 15 2 ∧ Tab.wf {} s.adc.convs ∧ Tab.wf none s.adc.calSet ∧ Reached .adcCalWrite p s ∧ p.len = 1 + 2 * n ∧ 1 ≤ n ∧ first + n ≤ 128 ∧ reservedSet (p.w 0) 0xFFFE0000 = false ∧ (s.dev.mode = .configure ∨ s.dev.mode = .ready) ∧ ((∃ i < n, calInRange (signed 32 (p.w (1 + 2 * i))) (p.w (2 + 2 * i)) = false))) ∧
    (∃ (p : Packet), ∃ (s : State), ∃ first, ∃ n, ∃ r, first = field (p.w 0) 0 7 ∧ n = field (p.w 0) 7 8 ∧ r = field (p.w 0) 15 2 ∧ Tab.wf {} s.adc.convs ∧ Tab.wf none s.adc.calSet ∧ Reached .adcCalWrite p s ∧ p.len = 1 + 2 * n ∧ 1 ≤ n ∧ first + n ≤ 128 ∧ reservedSet (p.w 0) 0xFFFE0000 = false ∧ (s.dev.mode = .configure ∨ s.dev.mode = .ready) ∧ ((∀ i < n, calInRange (signed 32 (p.w (1 + 2 * i))) (p.w (2 + 2 * i)) = true))) :=
  ⟨⟨pk [63, 65535], inMode .run, _, rfl, by decide +kernel⟩,
   ⟨pk [63, 65535], inMode .ready, _, rfl, by decide +kernel⟩,
   ⟨pk [15 + 2 ^ 4, 7], (State.reset).modAdc fun a => { a with convs := [(15, { faulted := true })] }, _, _, rfl, rfl, by decide +kernel⟩,
   ⟨pk ((15 + 64 * 2 ^ 4) :: List.replicate 64 0xFFFFFF07), State.reset, _, _, rfl, rfl, by decide +kernel⟩,
   ⟨pk [3 + 2 * 2 ^ 2 + 10000 * 2 ^ 6, 0x8000, 0, 0], State.reset.modAdc fun a => { a with groups := [(0, { convMask := 0x8000 })] }, _, rfl, by decide +kernel⟩,
   ⟨pk [3 + 2 * 2 ^ 2 + 10 * 2 ^ 6, 0xFFFF, 0, 0], State.reset, _, rfl, by decide +kernel⟩,
   ⟨pk [127 + 2 ^ 7 + 3 * 2 ^ 15, 0, 0x60000001], State.reset, _, _, _, rfl, rfl, rfl, by decide +kernel⟩,
   ⟨pk [126 + 2 * 2 ^ 7 + 3 * 2 ^ 15, 0xFFF00000, 0x20000000, 0x00100000, 0x60000000], State.reset, _, _, _, rfl, rfl, rfl, by decide +kernel⟩⟩

theorem witness_ConversionsAndIo :
    (∃ (p : Packet), ∃ (s : State), ∃ (n : Nat), ∃ (k : Conv), ∃ (j : Conv), n = field (p.w 0) 0 7 ∧ k = convOf s (n / 8) ∧ j = k.next s.now ∧ Tab.wf {} s.adc.convs ∧ Reached .adcUrgent p s ∧ p.len = 1 ∧ reservedSet (p.w 0) 0xFFFFFF80 = false ∧ k.faulted = true) ∧
    (∃ (p : Packet), ∃ (s : State), ∃ (n : Nat), ∃ (k : Conv), ∃ (j : Conv), n = field (p.w 0) 0 7 ∧ k = convOf s (n / 8) ∧ j = k.next s.now ∧ ((k.waitingUrgent ≠ none ∨ (∃ g pos, k.busy = some (.group g, pos)) ∨ ∃ v pos, k.busy = some (.urgent v, pos))) ∧ Tab.wf {} s.adc.convs ∧ Reached .adcUrgent p s ∧ p.len = 1 ∧ reservedSet (p.w 0) 0xFFFFFF80 = false ∧ k.faulted = false) ∧
    (∃ (p : Packet), ∃ (s : State), ∃ (n : Nat), ∃ (k : Conv), ∃ (j : Conv), n = field (p.w 0) 0 7 ∧ k = convOf s (n / 8) ∧ j = k.next s.now ∧ Tab.wf {} s.adc.convs ∧ Reached .adcUrgent p s ∧ p.len = 1 ∧ reservedSet (p.w 0) 0xFFFFFF80 = false ∧ k.faulted = false ∧ k.waitingUrgent = none ∧ j.busy = none) ∧
    (∃ (p : Packet), ∃ (s : State), ∃ (n : Nat), ∃ (k : Conv), ∃ (j : Conv), n = field (p.w 0) 0 7 ∧ k = convOf s (n / 8) ∧ j = k.next s.now ∧ (((∃ pos, j.busy = some (.calibration, pos)) ∨ ∃ pos, j.busy = some (.table, pos))) ∧ Tab.wf {} s.adc.convs ∧ Reached .adcUrgent p s ∧ p.len = 1 ∧ reservedSet (p.w 0) 0xFFFFFF80 = false ∧ k.faulted = false ∧ k.waitingUrgent = none) ∧
    (∃ (p : Packet), ∃ (s : State), ∃ (n : Nat), ∃ (k : Conv), ∃ (j : Conv), n = field (p.w 0) 0 7 ∧ k = convOf s (n / 8) ∧ j = k.next s.now ∧ Tab.wf {} s.adc.convs ∧ Reached .adcCalibrate p s ∧ p.len = 2 ∧ reservedSet (p.w 0) 0xFFFFFF00 = false ∧ refInRange (rangeOfInput s n) (p.w 1) = true ∧ s.dev.mode ≠ .configure ∧ s.dev.mode ≠ .ready) ∧
    (∃ (p : Packet), ∃ (s : State), ∃ (n : Nat), ∃ (k : Conv), ∃ (j : Conv), n = field (p.w 0) 0 7 ∧ k = convOf s (n / 8) ∧ j = k.next s.now ∧ Tab.wf {} s.adc.convs ∧ Reached .adcCalibrate p s ∧ p.len = 2 ∧ reservedSet (p.w 0) 0xFFFFFF00 = false ∧ refInRange (rangeOfInput s n) (p.w 1) = true ∧ (s.dev.mode = .configure ∨ s.dev.mode = .ready) ∧ k.faulted = false ∧ bit (p.w 0) 7 = true ∧ look none s.adc.zeroSteps (4 * n + rangeOfInput s n) = none) ∧
    (∃ (p : Packet), ∃ (s : State), ∃ (n : Nat), ∃ (k : Conv), ∃ (j : Conv), n = field (p.w 0) 0 7 ∧ k = convOf s (n / 8) ∧ j = k.next s.now ∧ Tab.wf {} s.adc.convs ∧ Reached .adcCalibrate p s ∧ p.len = 2 ∧ reservedSet (p.w 0) 0xFFFFFF00 = false ∧ refInRange (rangeOfInput s n) (p.w 1) = true ∧ (s.dev.mode = .configure ∨ s.dev.mode = .ready) ∧ k.faulted = false ∧ bit (p.w 0) 7 = false ∧ k.calibration ≠ none) ∧
    (∃ (p : Packet), ∃ (s : State), ∃ (n : Nat), ∃ (k : Conv), ∃ (j : Conv), n = field (p.w 0) 0 7 ∧ k = convOf s (n / 8) ∧ j = k.next s.now ∧ (bit (p.w 0) 7 = false ∨ (∃ m v, look none s.adc.zeroSteps (4 * n + rangeOfInput s n) = some (m, v) ∧ (spanOf (rangeOfInput s n) * 2 ^ 149 : Int) ≤ 2 * (exact149 (p.w 1) - exact149 v))) ∧ Tab.wf {} s.adc.convs ∧ Reached .adcCalibrate p s ∧ p.len = 2 ∧ reservedSet (p.w 0) 0xFFFFFF00 = false ∧ refInRange (rangeOfInput s n) (p.w 1) = true ∧ (s.dev.mode = .configure ∨ s.dev.mode = .ready) ∧ k.faulted = false ∧ k.calibration = none) ∧
    (∃ (p : Packet), ∃ (s : State), Tab.wf {} s.dio.douts ∧ Tab.wf {} s.dio.pwms ∧ Tab.wf {} s.dio.encs ∧ Reached .dioRead p s ∧ p.len = 0) ∧
    (∃ (p : Packet), ∃ (s : State), ∃ n, n = field (p.w 0) 1 5 ∧ Tab.wf {} s.dio.douts ∧ Tab.wf {} s.dio.pwms ∧ Tab.wf {} s.dio.encs ∧ Reached .dioWrite p s ∧ reservedSet (p.w 0) 0xFFFFFFC0 = false ∧ bit (p.w 0) 0 = true ∧ p.len = 2 ∧ inUnitInterval (p.w 1) = true ∧ (s.dev.mode = .safe ∨ s.dev.mode = .graze)) ∧
    (∃ (p : Packet), ∃ (s : State), ∃ n, n = field (p.w 0) 1 5 ∧ Tab.wf {} s.dio.douts ∧ Tab.wf {} s.dio.pwms ∧ Tab.wf {} s.dio.encs ∧ Reached .dioWrite p s ∧ reservedSet (p.w 0) 0xFFFFFFC0 = false ∧ bit (p.w 0) 0 = true ∧ p.len = 2 ∧ inUnitInterval (p.w 1) = true ∧ s.dev.mode ≠ .safe ∧ s.dev.mode ≠ .graze) ∧
    (∃ (p : Packet), ∃ (s : State), Tab.wf {} s.dio.douts ∧ Tab.wf {} s.dio.pwms ∧ Tab.wf {} s.dio.encs ∧ Reached .dioWrite p s ∧ reservedSet (p.w 0) 0xFFFFFFC0 = false ∧ bit (p.w 0) 0 = false ∧ p.len = 5 ∧ field (p.w 0) 1 5 = 0 ∧ (s.dev.mode = .safe ∨ s.dev.mode = .graze)) ∧
    (∃ (p : Packet), ∃ (s : State), Tab.wf {} s.dio.douts ∧ Tab.wf {} s.dio.pwms ∧ Tab.wf {} s.dio.encs ∧ Reached .dioWrite p s ∧ reservedSet (p.w 0) 0xFFFFFFC0 = false ∧ bit (p.w 0) 0 = false ∧ p.len = 5 ∧ field (p.w 0) 1 5 = 0 ∧ s.dev.mode ≠ .safe ∧ s.dev.mode ≠ .graze) ∧
    (∃ (p : Packet), ∃ (s : State), Tab.wf {} s.dio.douts ∧ Tab.wf {} s.dio.pwms ∧ Tab.wf {} s.dio.encs ∧ Reached .dioStatus p s ∧ p.len = 1 ∧ reservedSet (p.w 0) 0xFFFFFFC0 = false) :=
  ⟨⟨pk [127], (State.reset).modAdc fun a => { a with convs := [(15, { faulted := true })] }, _, _, _, rfl, rfl, rfl, by decide +kernel⟩,
   ⟨pk [127], (State.reset).modAdc fun a => { a with convs := [(15, { busy := some (.group 3, 7) })] }, _, _, _, rfl, rfl, rfl, .inr (.inl ⟨3, 7, by decide +kernel⟩), by decide +kernel⟩,
   ⟨pk [127], State.reset, _, _, _, rfl, rfl, rfl, by decide +kernel⟩,
   ⟨pk [127], (State.reset).modAdc fun a => { a with convs := [(15, { busy := some (.table, 7) })] }, _, _, _, rfl, rfl, rfl, .inr ⟨7, by decide +kernel⟩, by decide +kernel⟩,
   ⟨pk [127, 0], inMode .run, _, _, _, rfl, rfl, rfl, by decide +kernel⟩,
   ⟨pk [255, 0], State.reset, _, _, _, rfl, rfl, rfl, by decide +kernel⟩,
   ⟨pk [127, 0], (State.reset).modAdc fun a => { a with convs := [(15, { calibration := some { input := 0, full := false, refV := 0 } })] }, _, _, _, rfl, rfl, rfl, by decide +kernel⟩,
   ⟨pk [127, 0], State.reset, _, _, _, rfl, rfl, rfl, .inl (by decide +kernel), by decide +kernel⟩,
   ⟨pk [], State.reset, by decide +kernel⟩,
   ⟨pk [63, 0x3F800000], inMode .safe, _, rfl, by decide +kernel⟩,
   ⟨pk [63, 0x3F800000], inMode .run, _, rfl, by decide +kernel⟩,
   ⟨pk [0, 0xFFFFFFFF, 0xFFFFFFFF, 0xFFFFFFFF, 0xFFFFFFFF], inMode .graze, by decide +kernel⟩,
   ⟨pk [0, 0xFFFFFFFF, 0xFFFFFFFF, 0xFFFFFFFF, 0xFFFFFFFF], inMode .run, by decide +kernel⟩,
   ⟨pk [63], State.reset, by decide +kernel⟩⟩

theorem witness_IoSettings :
    (∃ (p : Packet), ∃ (s : State), ∃ (op : Op), ∃ (i : Instr), Tab.wf {} s.dio.dins ∧ Tab.wf {} s.dio.douts ∧ Tab.wf {} s.dio.pwms ∧ Tab.wf {} s.dio.encs ∧ s.dev.mode ≠ .configure ∧ s.dev.mode ≠ .ready ∧ ((op = .dioInputConfig ∧ i = .dioInputConfig p ∧ p.len = 3 ∧ field (p.w 0) 0 6 ≤ field (p.w 0) 8 6 ∧ reservedSet (p.w 0) 0xFFFF80C0 = false ∧ reservedSet (p.w 1) 0xF000 = false ∧ reservedSet (p.w 2) 0xFFFF0000 = false) ∨ (op = .dioOutputConfig ∧ i = .dioOutputConfig p ∧ p.len = 1 ∧ field (p.w 0) 0 6 ≤ field (p.w 0) 8 6 ∧ field (p.w 0) 15 2 ≠ 3 ∧ reservedSet (p.w 0) 0xFFFE00C0 = false)) ∧ Reached op p s) ∧
    (∃ (p : Packet), ∃ (s : State), Tab.wf {} s.dio.dins ∧ Tab.wf {} s.dio.douts ∧ Tab.wf {} s.dio.pwms ∧ Tab.wf {} s.dio.encs ∧ (s.dev.mode = .configure ∨ s.dev.mode = .ready) ∧ Reached .dioInputConfig p s ∧ p.len = 3 ∧ field (p.w 0) 0 6 ≤ field (p.w 0) 8 6 ∧ reservedSet (p.w 0) 0xFFFF80C0 = false ∧ reservedSet (p.w 1) 0xF000 = false ∧ reservedSet (p.w 2) 0xFFFF0000 = false) ∧
    (∃ (p : Packet), ∃ (s : State), Tab.wf {} s.dio.dins ∧ Tab.wf {} s.dio.douts ∧ Tab.wf {} s.dio.pwms ∧ Tab.wf {} s.dio.encs ∧ (s.dev.mode = .configure ∨ s.dev.mode = .ready) ∧ Reached .dioOutputConfig p s ∧ p.len = 1 ∧ field (p.w 0) 0 6 ≤ field (p.w 0) 8 6 ∧ field (p.w 0) 15 2 ≠ 3 ∧ reservedSet (p.w 0) 0xFFFE00C0 = false) ∧
    (∃ (p : Packet), ∃ (s : State), ∃ n, n = field (p.w 0) 0 5 ∧ Tab.wf {} s.dio.dins ∧ Tab.wf {} s.dio.douts ∧ Tab.wf {} s.dio.pwms ∧ Tab.wf {} s.dio.encs ∧ (s.dev.mode = .configure ∨ s.dev.mode = .ready) ∧ Reached .dioPwmConfig p s ∧ p.len = 5 ∧ reservedSet (p.w 0) 0xFFFFFF00 = false ∧ 16 ≤ p.w 1 ∧ p.w 1 ≤ 0xFFFFFF ∧ p.w 2 < p.w 1 ∧ p.w 3 ≤ 0xFFFF ∧ 2 * p.w 3 < p.w 1 ∧ inUnitInterval (p.w 4) = true ∧ loopOwnsPwm s n = true) ∧
    (∃ (p : Packet), ∃ (s : State), ∃ n, n = field (p.w 0) 0 5 ∧ Tab.wf {} s.dio.dins ∧ Tab.wf {} s.dio.douts ∧ Tab.wf {} s.dio.pwms ∧ Tab.wf {} s.dio.encs ∧ (s.dev.mode = .configure ∨ s.dev.mode = .ready) ∧ Reached .dioPwmConfig p s ∧ p.len = 5 ∧ reservedSet (p.w 0) 0xFFFFFF00 = false ∧ 16 ≤ p.w 1 ∧ p.w 1 ≤ 0xFFFFFF ∧ p.w 2 < p.w 1 ∧ p.w 3 ≤ 0xFFFF ∧ 2 * p.w 3 < p.w 1 ∧ inUnitInterval (p.w 4) = true ∧ loopOwnsPwm s n = false) ∧
    (∃ (p : Packet), ∃ (s : State), ∃ n, n = field (p.w 0) 0 4 ∧ Tab.wf {} s.dio.dins ∧ Tab.wf {} s.dio.douts ∧ Tab.wf {} s.dio.pwms ∧ Tab.wf {} s.dio.encs ∧ (s.dev.mode = .configure ∨ s.dev.mode = .ready) ∧ Reached .dioEncConfig p s ∧ p.len = 2 ∧ field (p.w 0) 4 2 ≠ 3 ∧ field (p.w 0) 14 2 ≠ 3 ∧ reservedSet (p.w 0) 0xFF800000 = false ∧ 1 ≤ p.w 1 ∧ p.w 1 < 65536) :=
  ⟨⟨pk [63 + 63 * 2 ^ 8, 0, 0], inMode .run, .dioInputConfig, .dioInputConfig (pk [63 + 63 * 2 ^ 8, 0, 0]), by decide +kernel⟩,
   ⟨pk [63 * 2 ^ 8, 0xFFFF0FFF, 0xFFFF], inMode .ready, by decide +kernel⟩,
   ⟨pk [63 * 2 ^ 8 + 2 * 2 ^ 15], State.reset, by decide +kernel⟩,
   ⟨pk [31, 16, 15, 7, 0], (State.reset).writeWords (loopAddr 1023) [wd (50 + 2 ^ 14), 0, 0, 0, 0, 0, 0, wd (1 + 31 * 2 ^ 4)], _, rfl, by decide +kernel⟩,
   ⟨pk [255, 0xFFFFFF, 0xFFFFFE, 0xFFFF, 0x3F800000], State.reset, _, rfl, by decide +kernel⟩,
   ⟨pk [15 + 2 * 2 ^ 4, 65535], State.reset, _, rfl, by decide +kernel⟩⟩

theorem witness_CaptureSettings :
    (∃ (p : Packet), ∃ (s : State), ∃ lo, ∃ hi, lo = field (p.w 0) 0 14 ∧ hi = field (p.w 0) 16 14 ∧ ((∃ k, lo ≤ k ∧ k ≤ hi ∧ entryPresent s k = false)) ∧ Reached .acqSignalConfig p s ∧ Tab.wf {} s.acq.index ∧ p.len = 2 ∧ lo ≤ hi ∧ 1 ≤ popCount 7 (field (p.w 1) 0 7) ∧ popCount 7 (field (p.w 1) 0 7) ≤ 4 ∧ reservedSet (p.w 0) 0xC000C000 = false ∧ reservedSet (p.w 1) 0xFFFFF880 = false ∧ field (p.w 1) 8 3 ≤ 5 ∧ ((field (p.w 1) 8 3 = 0 ∨ 0x3000 ≤ lo))) ∧
    (∃ (p : Packet), ∃ (s : State), ∃ lo, ∃ hi, lo = field (p.w 0) 0 14 ∧ hi = field (p.w 0) 16 14 ∧ Reached .acqSignalConfig p s ∧ Tab.wf {} s.acq.index ∧ p.len = 2 ∧ lo ≤ hi ∧ 1 ≤ popCount 7 (field (p.w 1) 0 7) ∧ popCount 7 (field (p.w 1) 0 7) ≤ 4 ∧ reservedSet (p.w 0) 0xC000C000 = false ∧ reservedSet (p.w 1) 0xFFFFF880 = false ∧ field (p.w 1) 8 3 ≤ 5 ∧ ((field (p.w 1) 8 3 = 0 ∨ 0x3000 ≤ lo)) ∧ ((∀ k, lo ≤ k → k ≤ hi → entryPresent s k = true)) ∧ ((∃ e ∈ s.acq.captures, e.2.running = true ∧ ∃ m ∈ e.2.members, lo ≤ m ∧ m ≤ hi))) ∧
    (∃ (p : Packet), ∃ (s : State), ∃ lo, ∃ hi, lo = field (p.w 0) 0 14 ∧ hi = field (p.w 0) 16 14 ∧ Reached .acqSignalConfig p s ∧ Tab.wf {} s.acq.index ∧ p.len = 2 ∧ lo ≤ hi ∧ 1 ≤ popCount 7 (field (p.w 1) 0 7) ∧ popCount 7 (field (p.w 1) 0 7) ≤ 4 ∧ reservedSet (p.w 0) 0xC000C000 = false ∧ reservedSet (p.w 1) 0xFFFFF880 = false ∧ field (p.w 1) 8 3 ≤ 5 ∧ ((field (p.w 1) 8 3 = 0 ∨ 0x3000 ≤ lo)) ∧ ((∀ k, lo ≤ k → k ≤ hi → entryPresent s k = true)) ∧ ((∀ e ∈ s.acq.captures, e.2.running = true → ∀ m ∈ e.2.members, m < lo ∨ hi < m))) ∧
    (∃ (p : Packet), ∃ (s : State), ∃ (win : Bool), ∃ (op : Op), ∃ (i : Instr), ∃ fixed, ∃ c, c = field (p.w 0) 0 4 ∧ ((win = false ∧ op = .acqStreamConfig ∧ i = .acqStreamConfig p ∧ fixed = 7) ∨ (win = true ∧ op = .acqWindowConfig ∧ i = .acqWindowConfig p ∧ fixed = 10)) ∧ Reached op p s ∧ Tab.wf {} s.acq.captures ∧ fixed ≤ p.len ∧ reservedSet (p.w 0) 0xFFFFFFE0 = false ∧ bit (p.w 0) 4 = true ∧ ((∀ k, 1 ≤ k → k < fixed → p.w k = 0)) ∧ ((∀ k, fixed ≤ k → k < p.len → entryPresent s (p.w k) = true)) ∧ ((capOf s c).configured = false ∨ (capOf s c).windowClass ≠ win)) ∧
    (∃ (p : Packet), ∃ (s : State), ∃ (win : Bool), ∃ (op : Op), ∃ (i : Instr), ∃ fixed, ∃ c, c = field (p.w 0) 0 4 ∧ ((win = false ∧ op = .acqStreamConfig ∧ i = .acqStreamConfig p ∧ fixed = 7) ∨ (win = true ∧ op = .acqWindowConfig ∧ i = .acqWindowConfig p ∧ fixed = 10)) ∧ Reached op p s ∧ Tab.wf {} s.acq.captures ∧ fixed ≤ p.len ∧ reservedSet (p.w 0) 0xFFFFFFE0 = false ∧ bit (p.w 0) 4 = true ∧ ((∀ k, 1 ≤ k → k < fixed → p.w k = 0)) ∧ ((∀ k, fixed ≤ k → k < p.len → entryPresent s (p.w k) = true)) ∧ (capOf s c).configured = true ∧ (capOf s c).windowClass = win ∧ (capOf s c).running = true) ∧
    (∃ (p : Packet), ∃ (s : State), ∃ (win : Bool), ∃ (op : Op), ∃ (i : Instr), ∃ fixed, ∃ c, ∃ new, c = field (p.w 0) 0 4 ∧ new = { capOf s c with members := (capOf s c).members ++ (p.params.drop fixed).map (·.toNat) } ∧ ((win = false ∧ op = .acqStreamConfig ∧ i = .acqStreamConfig p ∧ fixed = 7) ∨ (win = true ∧ op = .acqWindowConfig ∧ i = .acqWindowConfig p ∧ fixed = 10)) ∧ Reached op p s ∧ Tab.wf {} s.acq.captures ∧ fixed ≤ p.len ∧ reservedSet (p.w 0) 0xFFFFFFE0 = false ∧ bit (p.w 0) 4 = true ∧ ((∀ k, 1 ≤ k → k < fixed → p.w k = 0)) ∧ ((∀ k, fixed ≤ k → k < p.len → entryPresent s (p.w k) = true)) ∧ (capOf s c).configured = true ∧ (capOf s c).windowClass = win ∧ (capOf s c).running = false ∧ regionOk s c new = true ∧ ((new.ring = 0 ∧ new.spill = false ∨ captureRingOk s c new.ring = true)) ∧ membersOk s c new = true ∧ windowFits s new = true) ∧
    (∃ (p : Packet), ∃ (s : State), ∃ (win : Bool), ∃ (op : Op), ∃ (i : Instr), ∃ fixed, ∃ c, ∃ new, c = field (p.w 0) 0 4 ∧ new = ({ configured := true, windowClass := win, recordUs := field (p.w 1) 0 16, decMin := field (p.w 1) 16 4, overload := field (p.w 1) 20 2, ring := field (p.w 2) 0 6, regionBase := p.w 3, regionSize := p.w 4, settle := field (p.w 5) 0 16, lateUs := field (p.w 5) 16 16, configId := p.w 6, log2 := field (p.w 1) 16 4, pre := if win then p.w 7 else 0, post := if win then p.w 8 else 0, nwin := if win then field (p.w 9) 0 7 else 0, spill := win && bit (p.w 9) 7, autoSend := win && bit (p.w 9) 8, rearm := win && bit (p.w 9) 9, members := (p.params.drop fixed).map (·.toNat) } : Capture) ∧ ((win = false ∧ op = .acqStreamConfig ∧ i = .acqStreamConfig p ∧ fixed = 7) ∨ (win = true ∧ op = .acqWindowConfig ∧ i = .acqWindowConfig p ∧ fixed = 10)) ∧ Reached op p s ∧ Tab.wf {} s.acq.captures ∧ fixed ≤ p.len ∧ reservedSet (p.w 0) 0xFFFFFFE0 = false ∧ bit (p.w 0) 4 = false ∧ 1 ≤ field (p.w 1) 0 16 ∧ field (p.w 1) 16 4 ≤ 10 ∧ field (p.w 1) 20 2 ≤ 2 ∧ reservedSet (p.w 1) 0xFFC00000 = false ∧ reservedSet (p.w 2) 0xFFFFFFC0 = false ∧ field (p.w 5) 16 16 ≤ 20000 ∧ field (p.w 2) 0 6 ≠ 1 ∧ ((win = false → field (p.w 2) 0 6 ≠ 0)) ∧ ((win = true → field (p.w 1) 16 6 = 0 ∧ field (p.w 5) 0 16 = 0 ∧ 1 ≤ field (p.w 9) 0 7 ∧ field (p.w 9) 0 7 ≤ 64 ∧ reservedSet (p.w 9) 0xFFFFFC00 = false)) ∧ ((∀ k, fixed ≤ k → k < p.len → entryPresent s (p.w k) = true)) ∧ (capOf s c).running = false ∧ regionOk s c new = false) ∧
    (∃ (p : Packet), ∃ (s : State), ∃ (win : Bool), ∃ (op : Op), ∃ (i : Instr), ∃ fixed, ∃ c, ∃ new, c = field (p.w 0) 0 4 ∧ new = ({ configured := true, windowClass := win, recordUs := field (p.w 1) 0 16, decMin := field (p.w 1) 16 4, overload := field (p.w 1) 20 2, ring := field (p.w 2) 0 6, regionBase := p.w 3, regionSize := p.w 4, settle := field (p.w 5) 0 16, lateUs := field (p.w 5) 16 16, configId := p.w 6, log2 := field (p.w 1) 16 4, pre := if win then p.w 7 else 0, post := if win then p.w 8 else 0, nwin := if win then field (p.w 9) 0 7 else 0, spill := win && bit (p.w 9) 7, autoSend := win && bit (p.w 9) 8, rearm := win && bit (p.w 9) 9, members := (p.params.drop fixed).map (·.toNat) } : Capture) ∧ ((win = false ∧ op = .acqStreamConfig ∧ i = .acqStreamConfig p ∧ fixed = 7) ∨ (win = true ∧ op = .acqWindowConfig ∧ i = .acqWindowConfig p ∧ fixed = 10)) ∧ Reached op p s ∧ Tab.wf {} s.acq.captures ∧ fixed ≤ p.len ∧ reservedSet (p.w 0) 0xFFFFFFE0 = false ∧ bit (p.w 0) 4 = false ∧ 1 ≤ field (p.w 1) 0 16 ∧ field (p.w 1) 16 4 ≤ 10 ∧ field (p.w 1) 20 2 ≤ 2 ∧ reservedSet (p.w 1) 0xFFC00000 = false ∧ reservedSet (p.w 2) 0xFFFFFFC0 = false ∧ field (p.w 5) 16 16 ≤ 20000 ∧ field (p.w 2) 0 6 ≠ 1 ∧ ((win = false → field (p.w 2) 0 6 ≠ 0)) ∧ ((win = true → field (p.w 1) 16 6 = 0 ∧ field (p.w 5) 0 16 = 0 ∧ 1 ≤ field (p.w 9) 0 7 ∧ field (p.w 9) 0 7 ≤ 64 ∧ reservedSet (p.w 9) 0xFFFFFC00 = false)) ∧ ((∀ k, fixed ≤ k → k < p.len → entryPresent s (p.w k) = true)) ∧ (capOf s c).running = false ∧ regionOk s c new = true ∧ (new.ring ≠ 0 ∨ new.spill = true) ∧ captureRingOk s c new.ring = false) ∧
    (∃ (p : Packet), ∃ (s : State), ∃ (win : Bool), ∃ (op : Op), ∃ (i : Instr), ∃ fixed, ∃ c, ∃ new, c = field (p.w 0) 0 4 ∧ new = ({ configured := true, windowClass := win, recordUs := field (p.w 1) 0 16, decMin := field (p.w 1) 16 4, overload := field (p.w 1) 20 2, ring := field (p.w 2) 0 6, regionBase := p.w 3, regionSize := p.w 4, settle := field (p.w 5) 0 16, lateUs := field (p.w 5) 16 16, configId := p.w 6, log2 := field (p.w 1) 16 4, pre := if win then p.w 7 else 0, post := if win then p.w 8 else 0, nwin := if win then field (p.w 9) 0 7 else 0, spill := win && bit (p.w 9) 7, autoSend := win && bit (p.w 9) 8, rearm := win && bit (p.w 9) 9, members := (p.params.drop fixed).map (·.toNat) } : Capture) ∧ ((win = false ∧ op = .acqStreamConfig ∧ i = .acqStreamConfig p ∧ fixed = 7) ∨ (win = true ∧ op = .acqWindowConfig ∧ i = .acqWindowConfig p ∧ fixed = 10)) ∧ Reached op p s ∧ Tab.wf {} s.acq.captures ∧ fixed ≤ p.len ∧ reservedSet (p.w 0) 0xFFFFFFE0 = false ∧ bit (p.w 0) 4 = false ∧ 1 ≤ field (p.w 1) 0 16 ∧ field (p.w 1) 16 4 ≤ 10 ∧ field (p.w 1) 20 2 ≤ 2 ∧ reservedSet (p.w 1) 0xFFC00000 = false ∧ reservedSet (p.w 2) 0xFFFFFFC0 = false ∧ field (p.w 5) 16 16 ≤ 20000 ∧ field (p.w 2) 0 6 ≠ 1 ∧ ((win = false → field (p.w 2) 0 6 ≠ 0)) ∧ ((win = true → field (p.w 1) 16 6 = 0 ∧ field (p.w 5) 0 16 = 0 ∧ 1 ≤ field (p.w 9) 0 7 ∧ field (p.w 9) 0 7 ≤ 64 ∧ reservedSet (p.w 9) 0xFFFFFC00 = false)) ∧ ((∀ k, fixed ≤ k → k < p.len → entryPresent s (p.w k) = true)) ∧ (capOf s c).running = false ∧ regionOk s c new = true ∧ ((new.ring = 0 ∧ new.spill = false ∨ captureRingOk s c new.ring = true)) ∧ membersOk s c new = false) ∧
    (∃ (p : Packet), ∃ (s : State), ∃ (win : Bool), ∃ (op : Op), ∃ (i : Instr), ∃ fixed, ∃ c, ∃ new, c = field (p.w 0) 0 4 ∧ new = ({ configured := true, windowClass := win, recordUs := field (p.w 1) 0 16, decMin := field (p.w 1) 16 4, overload := field (p.w 1) 20 2, ring := field (p.w 2) 0 6, regionBase := p.w 3, regionSize := p.w 4, settle := field (p.w 5) 0 16, lateUs := field (p.w 5) 16 16, configId := p.w 6, log2 := field (p.w 1) 16 4, pre := if win then p.w 7 else 0, post := if win then p.w 8 else 0, nwin := if win then field (p.w 9) 0 7 else 0, spill := win && bit (p.w 9) 7, autoSend := win && bit (p.w 9) 8, rearm := win && bit (p.w 9) 9, members := (p.params.drop fixed).map (·.toNat) } : Capture) ∧ ((win = false ∧ op = .acqStreamConfig ∧ i = .acqStreamConfig p ∧ fixed = 7) ∨ (win = true ∧ op = .acqWindowConfig ∧ i = .acqWindowConfig p ∧ fixed = 10)) ∧ Reached op p s ∧ Tab.wf {} s.acq.captures ∧ fixed ≤ p.len ∧ reservedSet (p.w 0) 0xFFFFFFE0 = false ∧ bit (p.w 0) 4 = false ∧ 1 ≤ field (p.w 1) 0 16 ∧ field (p.w 1) 16 4 ≤ 10 ∧ field (p.w 1) 20 2 ≤ 2 ∧ reservedSet (p.w 1) 0xFFC00000 = false ∧ reservedSet (p.w 2) 0xFFFFFFC0 = false ∧ field (p.w 5) 16 16 ≤ 20000 ∧ field (p.w 2) 0 6 ≠ 1 ∧ ((win = false → field (p.w 2) 0 6 ≠ 0)) ∧ ((win = true → field (p.w 1) 16 6 = 0 ∧ field (p.w 5) 0 16 = 0 ∧ 1 ≤ field (p.w 9) 0 7 ∧ field (p.w 9) 0 7 ≤ 64 ∧ reservedSet (p.w 9) 0xFFFFFC00 = false)) ∧ ((∀ k, fixed ≤ k → k < p.len → entryPresent s (p.w k) = true)) ∧ (capOf s c).running = false ∧ regionOk s c new = true ∧ ((new.ring = 0 ∧ new.spill = false ∨ captureRingOk s c new.ring = true)) ∧ membersOk s c new = true ∧ windowFits s new = false) ∧
    (∃ (p : Packet), ∃ (s : State), ∃ (win : Bool), ∃ (op : Op), ∃ (i : Instr), ∃ fixed, ∃ c, ∃ new, c = field (p.w 0) 0 4 ∧ new = ({ configured := true, windowClass := win, recordUs := field (p.w 1) 0 16, decMin := field (p.w 1) 16 4, overload := field (p.w 1) 20 2, ring := field (p.w 2) 0 6, regionBase := p.w 3, regionSize := p.w 4, settle := field (p.w 5) 0 16, lateUs := field (p.w 5) 16 16, configId := p.w 6, log2 := field (p.w 1) 16 4, pre := if win then p.w 7 else 0, post := if win then p.w 8 else 0, nwin := if win then field (p.w 9) 0 7 else 0, spill := win && bit (p.w 9) 7, autoSend := win && bit (p.w 9) 8, rearm := win && bit (p.w 9) 9, members := (p.params.drop fixed).map (·.toNat) } : Capture) ∧ ((win = false ∧ op = .acqStreamConfig ∧ i = .acqStreamConfig p ∧ fixed = 7) ∨ (win = true ∧ op = .acqWindowConfig ∧ i = .acqWindowConfig p ∧ fixed = 10)) ∧ Reached op p s ∧ Tab.wf {} s.acq.captures ∧ fixed ≤ p.len ∧ reservedSet (p.w 0) 0xFFFFFFE0 = false ∧ bit (p.w 0) 4 = false ∧ 1 ≤ field (p.w 1) 0 16 ∧ field (p.w 1) 16 4 ≤ 10 ∧ field (p.w 1) 20 2 ≤ 2 ∧ reservedSet (p.w 1) 0xFFC00000 = false ∧ reservedSet (p.w 2) 0xFFFFFFC0 = false ∧ field (p.w 5) 16 16 ≤ 20000 ∧ field (p.w 2) 0 6 ≠ 1 ∧ ((win = false → field (p.w 2) 0 6 ≠ 0)) ∧ ((win = true → field (p.w 1) 16 6 = 0 ∧ field (p.w 5) 0 16 = 0 ∧ 1 ≤ field (p.w 9) 0 7 ∧ field (p.w 9) 0 7 ≤ 64 ∧ reservedSet (p.w 9) 0xFFFFFC00 = false)) ∧ ((∀ k, fixed ≤ k → k < p.len → entryPresent s (p.w k) = true)) ∧ (capOf s c).running = false ∧ regionOk s c new = true ∧ ((new.ring = 0 ∧ new.spill = false ∨ captureRingOk s c new.ring = true)) ∧ membersOk s c new = true ∧ windowFits s new = true) ∧
    (∃ (p : Packet), ∃ (s : State), ∃ v, ∃ kind, v = field (p.w 0) 0 5 ∧ kind = field (p.w 0) 5 4 ∧ ((kind = 12 ∨ kind = 13 → ∀ q < 32, bit (p.w 6) q = true → q ≠ v ∧ (trigOf s q).kind ≠ 12 ∧ (trigOf s q).kind ≠ 13)) ∧ ((kind = 12 ∨ kind = 13 → ∀ q < 32, q ≠ v → (trigOf s q).kind = 12 ∨ (trigOf s q).kind = 13 → bit (trigOf s q).mask v = false)) ∧ Reached .acqTriggerConfig p s ∧ Tab.wf {} s.acq.triggers ∧ p.len = 9 ∧ kind ≤ 13 ∧ reservedSet (p.w 0) 0xFFFFFE00 = false ∧ reservedSet (p.w 1) 0xFFFFC000 = false ∧ Fmt.b64.isFinite (p.w 2 + place 32 (p.w 3)) = true ∧ Fmt.b64.isFinite (p.w 4 + place 32 (p.w 5)) = true ∧ ((kind = 3 ∨ kind = 4 → Fmt.b64.lt (p.w 4 + place 32 (p.w 5)) 0 = false)) ∧ ((1 ≤ kind → kind ≤ 8 → entryPresent s (p.w 1) = true))) :=
  ⟨⟨pk [0x2107 + 0x2107 * 2 ^ 16, 1], State.reset.modBoot fun b => { b with variant := .ubr1650 }, _, _, rfl, rfl, ⟨0x2107, by decide +kernel⟩, by decide +kernel⟩,
   ⟨pk [0x3000 + 0x3FFF * 2 ^ 16, 15 + 5 * 2 ^ 8], (State.reset).modAcq fun a => { a with captures := [(15, { running := true, members := [0x3FFF] })] }, _, _, rfl, rfl, by decide +kernel⟩,
   ⟨pk [0x3000 + 0x3FFF * 2 ^ 16, 1], (State.reset).modAcq fun a => { a with captures := [(15, { running := false, members := [0x3FFF] })] }, _, _, rfl, rfl, by decide +kernel⟩,
   ⟨pk [31, 0, 0, 0, 0, 0, 0, 0x3FFF], State.reset, false, .acqStreamConfig, .acqStreamConfig (pk [31, 0, 0, 0, 0, 0, 0, 0x3FFF]), 7, _, rfl, by decide +kernel⟩,
   ⟨pk [31, 0, 0, 0, 0, 0, 0, 0x3FFF], (State.reset).modAcq fun a => { a with captures := [(15, { configured := true, running := true })] }, false, .acqStreamConfig, .acqStreamConfig (pk [31, 0, 0, 0, 0, 0, 0, 0x3FFF]), 7, _, rfl, by decide +kernel⟩,
   ⟨pk [31, 0, 0, 0, 0, 0, 0, 0, 0, 0, 0x3FFF], (State.reset).modAcq fun a => { a with captures := [(15, { configured := true, windowClass := true, regionSize := 512, nwin := 1, pre := 1 })] }, true, .acqWindowConfig, .acqWindowConfig (pk [31, 0, 0, 0, 0, 0, 0, 0, 0, 0, 0x3FFF]), 10, _, _, rfl, rfl, by decide +kernel⟩,
   ⟨pk [15, 65535 + 10 * 2 ^ 16 + 2 * 2 ^ 20, 63, 0x6FFF80, 64, 65535 + 20000 * 2 ^ 16, 0, 0x3FFF], State.reset, false, .acqStreamConfig, .acqStreamConfig (pk [15, 65535 + 10 * 2 ^ 16 + 2 * 2 ^ 20, 63, 0x6FFF80, 64, 65535 + 20000 * 2 ^ 16, 0, 0x3FFF]), 7, _, _, rfl, rfl, by decide +kernel⟩,
   ⟨pk [15, 65535 + 10 * 2 ^ 16 + 2 * 2 ^ 20, 63, 0x6FFF80, 128, 65535 + 20000 * 2 ^ 16, 0, 0x3FFF], State.reset, false, .acqStreamConfig, .acqStreamConfig (pk [15, 65535 + 10 * 2 ^ 16 + 2 * 2 ^ 20, 63, 0x6FFF80, 128, 65535 + 20000 * 2 ^ 16, 0, 0x3FFF]), 7, _, _, rfl, rfl, by decide +kernel⟩,
   ⟨pk [15, 65535 + 10 * 2 ^ 16 + 2 * 2 ^ 20, 63, 0x6FFF80, 128, 65535 + 20000 * 2 ^ 16, 0, 0x3FFF, 0x3FFF], (State.reset).modHost fun h => { h with rings := upd {} h.rings 63 fun r => { r with state := .active, kind := 3 } }, false, .acqStreamConfig, .acqStreamConfig (pk [15, 65535 + 10 * 2 ^ 16 + 2 * 2 ^ 20, 63, 0x6FFF80, 128, 65535 + 20000 * 2 ^ 16, 0, 0x3FFF, 0x3FFF]), 7, _, _, rfl, rfl, by decide +kernel⟩,
   ⟨pk [15, 1, 0, 0x6FFF80, 128, 0, 0, 1, 1, 64, 0x3FFF], State.reset, true, .acqWindowConfig, .acqWindowConfig (pk [15, 1, 0, 0x6FFF80, 128, 0, 0, 1, 1, 64, 0x3FFF]), 10, _, _, rfl, rfl, by decide +kernel⟩,
   ⟨pk [15, 65535 + 10 * 2 ^ 16 + 2 * 2 ^ 20, 63, 0x6FFF80, 128, 65535 + 20000 * 2 ^ 16, 0, 0x3FFF], (State.reset).modHost fun h => { h with rings := upd {} h.rings 63 fun r => { r with state := .active, kind := 3 } }, false, .acqStreamConfig, .acqStreamConfig (pk [15, 65535 + 10 * 2 ^ 16 + 2 * 2 ^ 20, 63, 0x6FFF80, 128, 65535 + 20000 * 2 ^ 16, 0, 0x3FFF]), 7, _, _, rfl, rfl, by decide +kernel⟩,
   ⟨pk [31 + 13 * 2 ^ 5, 0x3FFF, 0, 0, 0, 0, 0x40000000, 0, 0], State.reset, _, _, rfl, rfl, by decide +kernel, by decide +kernel, by decide +kernel⟩⟩

theorem witness_EngineSettings :
    (∃ (p : Packet), ∃ (s : State), ∃ h, ∃ source, ∃ low, ∃ width, ∃ base, ∃ old, h = field (p.w 0) 0 4 ∧ source = p.w 1 ∧ low = p.w 2 + place 32 (p.w 3) ∧ width = p.w 4 + place 32 (p.w 5) ∧ base = 0x30700000 + 0x1000 * h ∧ old = look {} s.acq.hists h ∧ Canonical s ∧ Reached .acqHistConfig p s ∧ Tab.wf {} s.acq.hists ∧ p.len = 6 ∧ reservedSet (p.w 0) 0xFFFFFFC0 = false ∧ reservedSet (p.w 1) 0xFFFFC000 = false ∧ entryPresent s source = true ∧ Fmt.b64.isFinite low = true ∧ Fmt.b64.isFinite width = true ∧ Fmt.b64.lt 0 width = true ∧ old.enable = true ∧ bit (p.w 0) 4 = true ∧ ((old.source ≠ source ∨ old.low ≠ low ∨ old.width ≠ width))) ∧
    (∃ (p : Packet), ∃ (s : State), ∃ h, ∃ source, ∃ low, ∃ width, ∃ base, ∃ old, h = field (p.w 0) 0 4 ∧ source = p.w 1 ∧ low = p.w 2 + place 32 (p.w 3) ∧ width = p.w 4 + place 32 (p.w 5) ∧ base = 0x30700000 + 0x1000 * h ∧ old = look {} s.acq.hists h ∧ Canonical s ∧ Reached .acqHistConfig p s ∧ Tab.wf {} s.acq.hists ∧ p.len = 6 ∧ reservedSet (p.w 0) 0xFFFFFFC0 = false ∧ reservedSet (p.w 1) 0xFFFFC000 = false ∧ entryPresent s source = true ∧ Fmt.b64.isFinite low = true ∧ Fmt.b64.isFinite width = true ∧ Fmt.b64.lt 0 width = true ∧ (old.enable = false ∨ bit (p.w 0) 4 = false ∨ (old.source = source ∧ old.low = low ∧ old.width = width))) ∧
    (∃ (p : Packet), ∃ (s : State), ∃ m, ∃ base, m = field (p.w 0) 0 2 ∧ base = 0x30780000 + 0x20000 * m ∧ Canonical s ∧ Reached .acqPmapConfig p s ∧ Tab.wf {} s.acq.pmaps ∧ p.len = 10 ∧ reservedSet (p.w 0) 0xFFFFFC00 = false ∧ reservedSet (p.w 1) 0xC000C000 = false ∧ reservedSet (p.w 9) 0xFFFF0000 = false ∧ entryPresent s (field (p.w 1) 0 14) = true ∧ Fmt.b64.isFinite (p.w 2 + place 32 (p.w 3)) = true ∧ Fmt.b64.isFinite (p.w 4 + place 32 (p.w 5)) = true ∧ Fmt.b64.lt 0 (p.w 4 + place 32 (p.w 5)) = true ∧ ((bit (p.w 0) 4 = false ∧ field (p.w 1) 16 14 = 0 ∧ 1 ≤ p.w 6 ∧ p.w 6 ≤ 65535 ∧ p.w 7 = 0 ∧ p.w 8 = 0) ∨ (bit (p.w 0) 4 = true ∧ entryPresent s (field (p.w 1) 16 14) = true ∧ Fmt.b64.isFinite (p.w 6 + place 32 (p.w 7)) = true ∧ Fmt.b32.isFinite (p.w 8) = true ∧ Fmt.b32.lt 0 (p.w 8) = true)) ∧ ((look {} s.acq.pmaps m).enable = false ∨ bit (p.w 0) 2 = false)) ∧
    (∃ (p : Packet), ∃ (s : State), ∃ c, ∃ cap, ∃ action, c = field (p.w 0) 0 4 ∧ cap = capOf s c ∧ action = field (p.w 0) 4 3 ∧ Canonical s ∧ Reached .acqControl p s ∧ Tab.wf {} s.acq.captures ∧ p.len = 1 ∧ reservedSet (p.w 0) 0xFFFC0080 = false ∧ 4 < action) ∧
    (∃ (p : Packet), ∃ (s : State), ∃ c, ∃ cap, ∃ action, c = field (p.w 0) 0 4 ∧ cap = capOf s c ∧ action = field (p.w 0) 4 3 ∧ Canonical s ∧ Reached .acqControl p s ∧ Tab.wf {} s.acq.captures ∧ p.len = 1 ∧ reservedSet (p.w 0) 0xFFFC0080 = false ∧ (action = 0 ∨ action = 2) ∧ s.dev.mode = .graze) ∧
    (∃ (p : Packet), ∃ (s : State), ∃ c, ∃ cap, ∃ action, c = field (p.w 0) 0 4 ∧ cap = capOf s c ∧ action = field (p.w 0) 4 3 ∧ Canonical s ∧ Reached .acqControl p s ∧ Tab.wf {} s.acq.captures ∧ p.len = 1 ∧ reservedSet (p.w 0) 0xFFFC0080 = false ∧ action ≤ 3 ∧ s.dev.mode ≠ .graze ∧ cap.configured = false) ∧
    (∃ (p : Packet), ∃ (s : State), ∃ c, ∃ cap, ∃ action, c = field (p.w 0) 0 4 ∧ cap = capOf s c ∧ action = 0 ∧ Canonical s ∧ Reached .acqControl p s ∧ Tab.wf {} s.acq.captures ∧ p.len = 1 ∧ reservedSet (p.w 0) 0xFFFC0080 = false ∧ action = field (p.w 0) 4 3 ∧ cap.configured = true ∧ s.dev.mode ≠ .graze ∧ cap.running = true) ∧
    (∃ (p : Packet), ∃ (s : State), ∃ c, ∃ cap, ∃ action, c = field (p.w 0) 0 4 ∧ cap = capOf s c ∧ action = 0 ∧ Canonical s ∧ Reached .acqControl p s ∧ Tab.wf {} s.acq.captures ∧ p.len = 1 ∧ reservedSet (p.w 0) 0xFFFC0080 = false ∧ action = field (p.w 0) 4 3 ∧ cap.configured = true ∧ s.dev.mode ≠ .graze ∧ cap.running = false ∧ ((∀ e ∈ s.acq.captures, e.1 ≠ c → e.2.streams = true → e.2.ring ≠ cap.ring) ∨ cap.ring = 0 ∧ cap.windowClass = true)) ∧
    (∃ (p : Packet), ∃ (s : State), ∃ c, ∃ cap, ∃ action, c = field (p.w 0) 0 4 ∧ cap = capOf s c ∧ action = 1 ∧ Canonical s ∧ Reached .acqControl p s ∧ Tab.wf {} s.acq.captures ∧ p.len = 1 ∧ reservedSet (p.w 0) 0xFFFC0080 = false ∧ action = field (p.w 0) 4 3 ∧ cap.configured = true ∧ cap.running = true ∧ cap.stopAt = none) ∧
    (∃ (p : Packet), ∃ (s : State), ∃ c, ∃ cap, ∃ action, c = field (p.w 0) 0 4 ∧ cap = capOf s c ∧ action = 2 ∧ Canonical s ∧ Reached .acqControl p s ∧ Tab.wf {} s.acq.captures ∧ p.len = 1 ∧ reservedSet (p.w 0) 0xFFFC0080 = false ∧ action = field (p.w 0) 4 3 ∧ cap.configured = true ∧ s.dev.mode ≠ .graze ∧ cap.running = true ∧ cap.windowClass = true ∧ cap.armed = false) ∧
    (∃ (p : Packet), ∃ (s : State), ∃ c, ∃ cap, ∃ action, c = field (p.w 0) 0 4 ∧ cap = capOf s c ∧ action = 3 ∧ Canonical s ∧ Reached .acqControl p s ∧ Tab.wf {} s.acq.captures ∧ p.len = 1 ∧ reservedSet (p.w 0) 0xFFFC0080 = false ∧ action = field (p.w 0) 4 3 ∧ cap.configured = true ∧ Tab.wf {} cap.bufs ∧ cap.windowClass = true ∧ (bufOf cap (field (p.w 0) 8 6)).state = .complete) ∧
    (∃ (p : Packet), ∃ (s : State), ∃ c, ∃ cap, ∃ action, c = field (p.w 0) 0 4 ∧ cap = capOf s c ∧ action = 4 ∧ Canonical s ∧ Reached .acqControl p s ∧ Tab.wf {} s.acq.captures ∧ p.len = 1 ∧ reservedSet (p.w 0) 0xFFFC0080 = false ∧ action = field (p.w 0) 4 3 ∧ cap.configured = true ∧ cap.windowClass = false ∧ cap.running = true ∧ cap.decMin ≤ field (p.w 0) 14 4 ∧ field (p.w 0) 14 4 ≤ 10) :=
  ⟨⟨pk [31, 0x3FFF, 0, 0, 0, 0x3FF00000], State.reset.modAcq fun a => { a with hists := [(15, { enable := true })] }, _, _, _, _, _, _, rfl, rfl, rfl, rfl, rfl, rfl, by decide +kernel⟩,
   ⟨pk [31, 0x3FFF, 0, 0, 0, 0x3FF00000], State.reset, _, _, _, _, _, _, rfl, rfl, rfl, rfl, rfl, rfl, by decide +kernel⟩,
   ⟨pk [7, 0x3FFF, 0, 0, 0, 0x3FF00000, 65535, 0, 0, 65535], State.reset, _, _, rfl, rfl, by decide +kernel⟩,
   ⟨pk [15 + 5 * 2 ^ 4], State.reset, _, _, _, rfl, rfl, rfl, by decide +kernel⟩,
   ⟨pk [15], inMode .graze, _, _, _, rfl, rfl, rfl, by decide +kernel⟩,
   ⟨pk [15], State.reset, _, _, _, rfl, rfl, rfl, by decide +kernel⟩,
   ⟨pk [15], (State.reset).modAcq fun a => { a with captures := [(15, { configured := true, running := true })] }, _, _, _, rfl, rfl, rfl, by decide +kernel⟩,
   ⟨pk [15], (State.reset).modAcq fun a => { a with captures := [(15, { configured := true })] }, _, _, _, rfl, rfl, rfl, by decide +kernel⟩,
   ⟨pk [15 + 2 ^ 4], (State.reset).modAcq fun a => { a with captures := [(15, { configured := true, running := true })] }, _, _, _, rfl, rfl, rfl, by decide +kernel⟩,
   ⟨pk [15 + 2 * 2 ^ 4], (State.reset).modAcq fun a => { a with captures := [(15, { configured := true, running := true, windowClass := true })] }, _, _, _, rfl, rfl, rfl, by decide +kernel⟩,
   ⟨pk [15 + 3 * 2 ^ 4 + 63 * 2 ^ 8], (State.reset).modAcq fun a => { a with captures := [(15, { configured := true, windowClass := true, bufs := [(63, { state := .complete })] })] }, _, _, _, rfl, rfl, rfl, by decide +kernel⟩,
   ⟨pk [15 + 4 * 2 ^ 4 + 10 * 2 ^ 14], (State.reset).modAcq fun a => { a with captures := [(15, { configured := true, running := true, decMin := 10 })] }, _, _, _, rfl, rfl, rfl, by decide +kernel⟩⟩

theorem witness_TallyCommands :
    (∃ (p : Packet), ∃ (s : State), ∃ unit, ∃ code, ∃ rest, rest = s.tally.settings.filter (fun e => ¬ (e.unit = unit ∧ e.code = code)) ∧ unit = 0 ∧ code = 0 ∧ Reached .tallyConfig p s ∧ p.len = 2 ∧ reservedSet (p.w 0) 0xFF00 = false ∧ unit = field (p.w 0) 0 5 ∧ code = field (p.w 0) 16 16 ∧ unit ≤ 16 ∧ bit (p.w 0) 5 = true ∧ bit (p.w 0) 6 = false ∧ bit (p.w 0) 7 = false ∧ 1 ≤ p.w 1 ∧ p.w 1 ≤ 10000000) ∧
    (∃ (p : Packet), ∃ (s : State), ∃ unit, ∃ code, ∃ rest, unit = field (p.w 0) 0 5 ∧ code = field (p.w 0) 16 16 ∧ rest = s.tally.settings.filter (fun e => ¬ (e.unit = unit ∧ e.code = code)) ∧ Reached .tallyConfig p s ∧ p.len = 2 ∧ reservedSet (p.w 0) 0xFF00 = false ∧ unit ≤ 16 ∧ bit (p.w 0) 5 = false ∧ bit (p.w 0) 7 = true ∧ bit (p.w 0) 6 = false ∧ p.w 1 = 0) ∧
    (∃ (p : Packet), ∃ (s : State), ∃ unit, ∃ code, ∃ rest, unit = field (p.w 0) 0 5 ∧ code = field (p.w 0) 16 16 ∧ rest = s.tally.settings ∧ Reached .tallyConfig p s ∧ p.len = 2 ∧ reservedSet (p.w 0) 0xFF00 = false ∧ unit ≤ 16 ∧ rest = s.tally.settings.filter (fun e => ¬ (e.unit = unit ∧ e.code = code)) ∧ bit (p.w 0) 5 = false ∧ bit (p.w 0) 7 = false ∧ 1 ≤ p.w 1 ∧ p.w 1 ≤ 10000000 ∧ 64 ≤ rest.length) ∧
    (∃ (p : Packet), ∃ (s : State), ∃ unit, ∃ code, ∃ rest, unit = field (p.w 0) 0 5 ∧ code = field (p.w 0) 16 16 ∧ rest = s.tally.settings.filter (fun e => ¬ (e.unit = unit ∧ e.code = code)) ∧ Reached .tallyConfig p s ∧ p.len = 2 ∧ reservedSet (p.w 0) 0xFF00 = false ∧ unit ≤ 16 ∧ bit (p.w 0) 5 = false ∧ bit (p.w 0) 7 = false ∧ 1 ≤ p.w 1 ∧ p.w 1 ≤ 10000000 ∧ (rest.length < s.tally.settings.length ∨ rest.length < 64)) ∧
    (∃ (p : Packet), ∃ (s : State), ∃ q, Reached .tallyCursor p s ∧ p.len = 2 ∧ reservedSet (p.w 0) 0xFFFFFFFC = false ∧ ((p.w 0 = 0 ∧ q = p.w 1) ∨ (p.w 0 = 1 ∧ p.w 1 = 0 ∧ q = 0) ∨ (p.w 0 = 2 ∧ p.w 1 = 0 ∧ q = oldestSeq s) ∨ (p.w 0 = 3 ∧ p.w 1 = 0 ∧ q = s.tally.seq))) ∧
    (∃ (p : Packet), ∃ (s : State), Reached .tallyRead p s ∧ p.len = 1 ∧ 1 ≤ p.w 0 ∧ p.w 0 ≤ 511 ∧ nextValid s s.tally.cmdCursor = none) ∧
    (∃ (p : Packet), ∃ (s : State), ∃ c, Reached .tallyRead p s ∧ p.len = 1 ∧ 1 ≤ p.w 0 ∧ p.w 0 ≤ 511 ∧ nextValid s s.tally.cmdCursor = some c) ∧
    (∃ (p : Packet), ∃ (s : State), Reached .tallyClear p s ∧ Canonical s ∧ p.len = 1) :=
  ⟨⟨pk [32, 10000000], State.reset, _, _, _, rfl, rfl, rfl, by decide +kernel⟩,
   ⟨pk [16 + 2 ^ 7 + 65535 * 2 ^ 16, 0], State.reset, _, _, _, rfl, rfl, rfl, by decide +kernel⟩,
   ⟨pk [16, 10000000], (State.reset).modTally fun t => { t with settings := List.replicate 64 { unit := 1, code := 1, exempt := false, refillUs := 1 } }, _, _, _, rfl, rfl, rfl, by decide +kernel⟩,
   ⟨pk [16 + 2 ^ 6, 1], (State.reset).modTally fun t => { t with settings := List.replicate 64 { unit := 16, code := 0, exempt := false, refillUs := 1 } }, _, _, _, rfl, rfl, rfl, by decide +kernel⟩,
   ⟨pk [0, 0xFFFFFFFF], State.reset, 0xFFFFFFFF, by decide +kernel⟩,
   ⟨pk [511], State.reset, by decide +kernel⟩,
   ⟨pk [511], (State.reset).modTally fun t => { t with kept := 1, seq := 1 }, 0, by decide +kernel⟩,
   ⟨pk [0], State.reset, by decide +kernel⟩⟩

theorem witness_RingStartsAndStops :
    (∃ (p : Packet), ∃ (s : State), ∃ c, c = ringCfgOf p ∧ Reached .ringConfig p s ∧ 5 ≤ p.len ∧ p.len = 5 + 2 * field (p.w 4) 20 7 ∧ ringCfgRange p c = false ∧ s.dev.mode ≠ .configure) ∧
    (∃ (p : Packet), ∃ (s : State), ∃ c, c = ringCfgOf p ∧ Reached .ringConfig p s ∧ 5 ≤ p.len ∧ p.len = 5 + 2 * field (p.w 4) 20 7 ∧ ringCfgRange p c = false ∧ s.dev.mode = .configure ∧ ringCycleBad c = true) ∧
    (∃ (p : Packet), ∃ (s : State), ∃ c, c = ringCfgOf p ∧ Reached .ringConfig p s ∧ 5 ≤ p.len ∧ p.len = 5 + 2 * field (p.w 4) 20 7 ∧ ringCfgRange p c = false ∧ s.dev.mode = .configure ∧ ringCycleBad c = false ∧ s.drove.down.state ≠ .disabled ∧ c.downPart ≠ s.drove.cfg.downPart) ∧
    (∃ (p : Packet), ∃ (s : State), ∃ c, c = ringCfgOf p ∧ Reached .ringConfig p s ∧ 5 ≤ p.len ∧ p.len = 5 + 2 * field (p.w 4) 20 7 ∧ ringCfgRange p c = false ∧ s.dev.mode = .configure ∧ ringCycleBad c = false ∧ p.origin = .above ∧ s.drove.cfg.upEn = true ∧ c.upEn = false) ∧
    (∃ (p : Packet), ∃ (s : State), ∃ c, c = ringCfgOf p ∧ Reached .ringConfig p s ∧ 5 ≤ p.len ∧ p.len = 5 + 2 * field (p.w 4) 20 7 ∧ ringCfgRange p c = false ∧ s.dev.mode = .configure ∧ ringCycleBad c = false ∧ (p.origin ≠ .above ∨ s.drove.cfg.upEn = false ∨ c.upEn = true) ∧ (s.drove.down.state = .disabled ∨ c.downPart = s.drove.cfg.downPart)) ∧
    (∃ (p : Packet), ∃ (s : State), Reached .ringStart p s ∧ p.len = 1 ∧ reservedSet (p.w 0) 0xFFFFFFE0 = false ∧ (s.dev.mode = .configure ∨ s.dev.mode = .ready) ∧ bit (p.w 0) 0 = false ∧ p.w 0 / 4 = 0 ∧ s.drove.cfg.upEn = false) ∧
    (∃ (p : Packet), ∃ (s : State), Reached .ringStart p s ∧ p.len = 1 ∧ reservedSet (p.w 0) 0xFFFFFFE0 = false ∧ (s.dev.mode = .configure ∨ s.dev.mode = .ready) ∧ p.w 0 = 0 ∧ s.drove.cfg.upEn = true) ∧
    (∃ (p : Packet), ∃ (s : State), Reached .ringStart p s ∧ p.len = 1 ∧ reservedSet (p.w 0) 0xFFFFFFE0 = false ∧ (s.dev.mode = .configure ∨ s.dev.mode = .ready) ∧ p.w 0 = 2 ∧ s.drove.cfg.upEn = true) ∧
    (∃ (p : Packet), ∃ (s : State), Reached .ringStart p s ∧ p.len = 1 ∧ reservedSet (p.w 0) 0xFFFFFFE0 = false ∧ (s.dev.mode = .configure ∨ s.dev.mode = .ready) ∧ p.w 0 = 3 ∧ s.dev.mode = .ready) ∧
    (∃ (p : Packet), ∃ (s : State), Reached .ringStart p s ∧ p.len = 1 ∧ reservedSet (p.w 0) 0xFFFFFFE0 = false ∧ (s.dev.mode = .configure ∨ s.dev.mode = .ready) ∧ p.w 0 = 3 ∧ s.dev.mode = .configure ∧ Tab.wf {} s.drove.members) ∧
    (∃ (p : Packet), ∃ (s : State), ∃ m, Reached .ringStart p s ∧ p.len = 1 ∧ reservedSet (p.w 0) 0xFFFFFFE0 = false ∧ (s.dev.mode = .configure ∨ s.dev.mode = .ready) ∧ p.w 0 = 1 + 4 * m ∧ m < 8 ∧ field s.drove.devAddr 18 2 ≠ 3 ∧ (s.drove.cfg.downEn = false ∨ s.drove.downStarted = true ∨ (s.drove.cfg.upEn = true ∧ s.drove.up.state ≠ .integrated))) ∧
    (∃ (p : Packet), ∃ (s : State), ∃ m, Reached .ringStart p s ∧ p.len = 1 ∧ reservedSet (p.w 0) 0xFFFFFFE0 = false ∧ (s.dev.mode = .configure ∨ s.dev.mode = .ready) ∧ p.w 0 = 1 + 4 * m ∧ m < 8 ∧ field s.drove.devAddr 18 2 ≠ 3 ∧ s.drove.cfg.downEn = true ∧ s.drove.downStarted = false ∧ ((s.drove.cfg.upEn = true → s.drove.up.state = .integrated)) ∧ s.drove.cfg.cycleUs ≠ 0 ∧ ringCycleBad s.drove.cfg = false ∧ ((s.drove.cfg.upEn = true → s.drove.cfg.cycleUs = s.drove.cfg.mult * s.cyc.upLdev)) ∧ modeWritten s m = false) ∧
    (∃ (p : Packet), ∃ (s : State), ∃ m, Reached .ringStart p s ∧ p.len = 1 ∧ reservedSet (p.w 0) 0xFFFFFFE0 = false ∧ (s.dev.mode = .configure ∨ s.dev.mode = .ready) ∧ p.w 0 = 1 + 4 * m ∧ m < 8 ∧ field s.drove.devAddr 18 2 ≠ 3 ∧ s.drove.cfg.downEn = true ∧ s.drove.downStarted = false ∧ ((s.drove.cfg.upEn = true → s.drove.up.state = .integrated)) ∧ s.drove.cfg.cycleUs ≠ 0 ∧ ringCycleBad s.drove.cfg = false ∧ ((s.drove.cfg.upEn = true → s.drove.cfg.cycleUs = s.drove.cfg.mult * s.cyc.upLdev)) ∧ modeWritten s m = true ∧ modesBreak s = true) ∧
    (∃ (p : Packet), ∃ (s : State), ∃ m, Reached .ringStart p s ∧ p.len = 1 ∧ reservedSet (p.w 0) 0xFFFFFFE0 = false ∧ (s.dev.mode = .configure ∨ s.dev.mode = .ready) ∧ p.w 0 = 1 + 4 * m ∧ m < 8 ∧ field s.drove.devAddr 18 2 ≠ 3 ∧ s.drove.cfg.downEn = true ∧ s.drove.downStarted = false ∧ ((s.drove.cfg.upEn = true → s.drove.up.state = .integrated)) ∧ s.drove.cfg.cycleUs ≠ 0 ∧ ringCycleBad s.drove.cfg = false ∧ ((s.drove.cfg.upEn = true → s.drove.cfg.cycleUs = s.drove.cfg.mult * s.cyc.upLdev)) ∧ modeWritten s m = true ∧ modesBreak s = false) :=
  ⟨⟨pk [31 - 8, 200 + 50 * 2 ^ 10, 100 + 2 ^ 14, 90 + 2 ^ 14, 200 + 50 * 2 ^ 10 + 0 * 2 ^ 20], inMode .ready, _, rfl, by decide +kernel⟩,
   ⟨pk [31, 200 + 50 * 2 ^ 10, 24 + 2 ^ 14, 2 ^ 14, 200 + 50 * 2 ^ 10 + 0 * 2 ^ 20], State.reset, _, rfl, by decide +kernel⟩,
   ⟨pk [31, 200 + 50 * 2 ^ 10, 100 + 2 ^ 14, 2 ^ 14, 200 + 50 * 2 ^ 10 + 1 * 2 ^ 20, 7, 0], (State.reset).modDrove fun d => { d with down := { d.down with state := .integrated } }, _, rfl, by decide +kernel⟩,
   ⟨{ pk [30, 200 + 50 * 2 ^ 10, 100 + 2 ^ 14, 90 + 2 ^ 14, 200 + 50 * 2 ^ 10] with origin := .above }, underRing .configure, _, rfl, by decide +kernel⟩,
   ⟨pk [31, 200 + 50 * 2 ^ 10, 10000 + 16 * 2 ^ 14, 9990 + 255 * 2 ^ 14, 200 + 50 * 2 ^ 10 + 64 * 2 ^ 20, 1, 1, 1, 1, 1, 1, 1, 1, 1, 1, 1, 1, 1, 1, 1, 1, 1, 1, 1, 1, 1, 1, 1, 1, 1, 1, 1, 1, 1, 1, 1, 1, 1, 1, 1, 1, 1, 1, 1, 1, 1, 1, 1, 1, 1, 1, 1, 1, 1, 1, 1, 1, 1, 1, 1, 1, 1, 1, 1, 1, 1, 1, 1, 1, 1, 1, 1, 1, 1, 1, 1, 1, 1, 1, 1, 1, 1, 1, 1, 1, 1, 1, 1, 1, 1, 1, 1, 1, 1, 1, 1, 1, 1, 1, 1, 1, 1, 1, 1, 1, 1, 1, 1, 1, 1, 1, 1, 1, 1, 1, 1, 1, 1, 1, 1, 1, 1, 1, 1, 1, 1, 1, 1, 1, 1, 1, 1, 1], State.reset, _, rfl, by decide +kernel⟩,
   ⟨pk [2], inMode .ready, by decide +kernel⟩,
   ⟨pk [0], underRing .ready, by decide +kernel⟩,
   ⟨pk [2], underRing .ready, by decide +kernel⟩,
   ⟨pk [3], inMode .ready, by decide +kernel⟩,
   ⟨pk [3], State.reset, by decide +kernel⟩,
   ⟨pk [29], State.reset, 7, by decide +kernel⟩,
   ⟨pk [29], manager .configure, 7, by decide +kernel⟩,
   ⟨pk [29], (manager .configure).modDrove fun d => { d with modes := [(7, lone.map (BitVec.ofNat 32)), (8, [1#32, 0#32])] }, 7, by decide +kernel⟩,
   ⟨pk [29], (manager .ready).modDrove fun d => { d with modes := [(7, lone.map (BitVec.ofNat 32))] }, 7, by decide +kernel⟩⟩

theorem witness_RingSchedules :
    (∃ (p : Packet), ∃ (s : State), ∃ m, Reached .ringScheduleWrite p s ∧ Tab.wf [] s.drove.modes ∧ 3 ≤ p.len ∧ p.len = 3 + 2 * field (p.w 1) 0 10 ∧ p.w 0 = m ∧ m < 8 ∧ (s.drove.armed = some m ∨ s.drove.active = some m)) ∧
    (∃ (p : Packet), ∃ (s : State), ∃ m, ∃ i, Reached .ringScheduleWrite p s ∧ Tab.wf [] s.drove.modes ∧ 3 ≤ p.len ∧ p.len = 3 + 2 * field (p.w 1) 0 10 ∧ p.w 0 = m ∧ m < 8 ∧ s.drove.armed ≠ some m ∧ s.drove.active ≠ some m ∧ modeBad s.drove.cfg.cycleUs (p.params.drop 1) = some i) ∧
    (∃ (p : Packet), ∃ (s : State), ∃ m, Reached .ringScheduleWrite p s ∧ Tab.wf [] s.drove.modes ∧ 3 ≤ p.len ∧ p.len = 3 + 2 * field (p.w 1) 0 10 ∧ p.w 0 = m ∧ m < 8 ∧ s.drove.armed ≠ some m ∧ s.drove.active ≠ some m ∧ modeBad s.drove.cfg.cycleUs (p.params.drop 1) = none) ∧
    (∃ (p : Packet), ∃ (s : State), ∃ m, m = field (p.w 0) 0 3 ∧ Reached .ringModeArm p s ∧ p.len = 1 ∧ reservedSet (p.w 0) 0xFFFFFFF0 = false ∧ changeoverPending s = true) ∧
    (∃ (p : Packet), ∃ (s : State), ∃ m, m = field (p.w 0) 0 3 ∧ Reached .ringModeArm p s ∧ p.len = 1 ∧ reservedSet (p.w 0) 0xFFFFFFF0 = false ∧ changeoverPending s = false ∧ bit (p.w 0) 3 = true ∧ s.drove.armed ≠ some m) ∧
    (∃ (p : Packet), ∃ (s : State), ∃ m, m = field (p.w 0) 0 3 ∧ Reached .ringModeArm p s ∧ p.len = 1 ∧ reservedSet (p.w 0) 0xFFFFFFF0 = false ∧ changeoverPending s = false ∧ bit (p.w 0) 3 = true ∧ s.drove.armed = some m) ∧
    (∃ (p : Packet), ∃ (s : State), ∃ m, m = field (p.w 0) 0 3 ∧ Reached .ringModeArm p s ∧ p.len = 1 ∧ reservedSet (p.w 0) 0xFFFFFFF0 = false ∧ changeoverPending s = false ∧ bit (p.w 0) 3 = false ∧ (modeWritten s m = false ∨ s.drove.armed ≠ none)) ∧
    (∃ (p : Packet), ∃ (s : State), ∃ m, m = field (p.w 0) 0 3 ∧ Reached .ringModeArm p s ∧ p.len = 1 ∧ reservedSet (p.w 0) 0xFFFFFFF0 = false ∧ changeoverPending s = false ∧ bit (p.w 0) 3 = false ∧ modeWritten s m = true ∧ s.drove.armed = none ∧ ((∃ n ∈ presentMembers s, bit (memberOf s n).held m = false))) ∧
    (∃ (p : Packet), ∃ (s : State), ∃ m, m = field (p.w 0) 0 3 ∧ Reached .ringModeArm p s ∧ p.len = 1 ∧ reservedSet (p.w 0) 0xFFFFFFF0 = false ∧ changeoverPending s = false ∧ bit (p.w 0) 3 = false ∧ modeWritten s m = true ∧ s.drove.armed = none ∧ ((∀ n ∈ presentMembers s, bit (memberOf s n).held m = true))) ∧
    (∃ (p : Packet), ∃ (s : State), Reached .ringCounters p s ∧ p.len = 1 ∧ reservedSet (p.w 0) 0xFFFFFFFC = false) ∧
    (∃ (p : Packet), ∃ (s : State), Reached .ringSyncConfig p s ∧ p.len = 2 ∧ s.drove.cfg.upEn = false ∧ p.w 0 = 256 ∧ p.w 1 = 0) ∧
    (∃ (p : Packet), ∃ (s : State), Reached .ringSyncConfig p s ∧ p.len = 2 ∧ s.drove.cfg.upEn = true ∧ p.w 0 = 256 ∧ p.w 1 = 0) ∧
    (∃ (p : Packet), ∃ (s : State), Reached .ringSyncConfig p s ∧ p.len = 2 ∧ s.drove.cfg.upEn = true ∧ p.w 0 < 256 ∧ 1 ≤ field (p.w 1) 0 8 ∧ field (p.w 1) 0 8 ≤ 200 ∧ 1 ≤ field (p.w 1) 8 8 ∧ field (p.w 1) 8 8 ≤ 100) ∧
    (∃ (p : Packet), ∃ (s : State), ∃ t, t = s.refreshTopo ∧ Reached .ringTopology p s ∧ p.len = 2 ∧ reservedSet (p.w 0) 0xFFF80000 = false ∧ 1 ≤ p.w 1 ∧ p.w 1 ≤ 2045 ∧ t.drove.topo.length ≤ p.w 0) ∧
    (∃ (p : Packet), ∃ (s : State), ∃ t, t = s.refreshTopo ∧ Reached .ringTopology p s ∧ p.len = 2 ∧ reservedSet (p.w 0) 0xFFF80000 = false ∧ 1 ≤ p.w 1 ∧ p.w 1 ≤ 2045 ∧ p.w 0 < t.drove.topo.length) :=
  ⟨⟨pk [7, 0, 0], (State.reset).modDrove fun d => { d with armed := some 7 }, 7, by decide +kernel⟩,
   ⟨pk [7, 1, 0, 2 ^ 19 + 7 * 2 ^ 22, 0xFF80], State.reset, 7, 0, by decide +kernel⟩,
   ⟨pk (7 :: lone), State.reset, 7, by decide +kernel⟩,
   ⟨pk [15], pending (cyclic .run), _, rfl, by decide +kernel⟩,
   ⟨pk [15], State.reset, _, rfl, by decide +kernel⟩,
   ⟨pk [15], (State.reset).modDrove fun d => { d with armed := some 7 }, _, rfl, by decide +kernel⟩,
   ⟨pk [7], State.reset, _, rfl, by decide +kernel⟩,
   ⟨pk [7], (State.reset).modDrove fun d => { d with modes := [(7, lone.map (BitVec.ofNat 32))], members := [(63, { integrated := true })] }, _, rfl, by decide +kernel⟩,
   ⟨pk [7], (State.reset).modDrove fun d => { d with modes := [(7, lone.map (BitVec.ofNat 32))], members := [(63, { integrated := true, held := 128 })] }, _, rfl, by decide +kernel⟩,
   ⟨pk [3], State.reset, by decide +kernel⟩,
   ⟨pk [256, 0], State.reset, by decide +kernel⟩,
   ⟨pk [256, 0], underRing .run, by decide +kernel⟩,
   ⟨pk [255, 200 + 100 * 2 ^ 8], underRing .run, by decide +kernel⟩,
   ⟨pk [2 ^ 19 - 1, 2045], State.reset, _, rfl, by decide +kernel⟩,
   ⟨pk [0, 1], State.reset, _, rfl, by decide +kernel⟩⟩

theorem witness_CanSettings :
    (∃ (p : Packet), ∃ (s : State), ∃ (c : Nat), ∃ (k : CanCtrl), ∃ (op : Op), ∃ (i : Instr), ∃ len, c = field (p.w 0) 0 3 ∧ k = canOf s c ∧ Tab.wf {} s.can.ctrls ∧ Tab.wf {} k.bufs ∧ Tab.wf {} k.filters ∧ c < canControllers s ∧ ((op = .canConfig ∧ i = .canConfig p ∧ len = 3 ∧ reservedSet (p.w 0) 0xFFFFFC00 = false ∧ reservedSet (p.w 1) 0xF8000000 = false ∧ reservedSet (p.w 2) 0xFC000000 = false) ∨ (op = .canRecover ∧ i = .canRecover p ∧ len = 1 ∧ reservedSet (p.w 0) 0xFFFFFFF8 = false)) ∧ Reached op p s ∧ p.len = len ∧ s.dev.mode = .graze) ∧
    (∃ (p : Packet), ∃ (s : State), ∃ (c : Nat), ∃ (k : CanCtrl), c = field (p.w 0) 0 3 ∧ k = canOf s c ∧ Tab.wf {} s.can.ctrls ∧ Tab.wf {} k.bufs ∧ Tab.wf {} k.filters ∧ c < canControllers s ∧ s.dev.mode ≠ .graze ∧ Reached .canConfig p s ∧ p.len = 3 ∧ reservedSet (p.w 0) 0xFFFFFC00 = false ∧ reservedSet (p.w 1) 0xF8000000 = false ∧ reservedSet (p.w 2) 0xFC000000 = false ∧ k.enabled = true ∧ bit (p.w 0) 3 = true ∧ ((k.cfg1 ≠ p.w 1 ∨ k.cfg2 ≠ p.w 2 ∨ field k.cfg0 4 3 ≠ field (p.w 0) 4 3))) ∧
    (∃ (p : Packet), ∃ (s : State), ∃ (c : Nat), ∃ (k : CanCtrl), c = field (p.w 0) 0 3 ∧ k = canOf s c ∧ Tab.wf {} s.can.ctrls ∧ Tab.wf {} k.bufs ∧ Tab.wf {} k.filters ∧ c < canControllers s ∧ s.dev.mode ≠ .graze ∧ Reached .canConfig p s ∧ p.len = 3 ∧ reservedSet (p.w 0) 0xFFFFFC00 = false ∧ reservedSet (p.w 1) 0xF8000000 = false ∧ reservedSet (p.w 2) 0xFC000000 = false ∧ (k.enabled = false ∨ bit (p.w 0) 3 = false) ∧ canTimingOk (p.w 0) (p.w 1) (p.w 2) = false) ∧
    (∃ (p : Packet), ∃ (s : State), ∃ (c : Nat), ∃ (k : CanCtrl), c = field (p.w 0) 0 3 ∧ k = canOf s c ∧ Tab.wf {} s.can.ctrls ∧ Tab.wf {} k.bufs ∧ Tab.wf {} k.filters ∧ c < canControllers s ∧ s.dev.mode ≠ .graze ∧ Reached .canConfig p s ∧ p.len = 3 ∧ reservedSet (p.w 0) 0xFFFFFC00 = false ∧ reservedSet (p.w 1) 0xF8000000 = false ∧ reservedSet (p.w 2) 0xFC000000 = false ∧ (k.enabled = false ∨ bit (p.w 0) 3 = false ∨ (k.cfg1 = p.w 1 ∧ k.cfg2 = p.w 2 ∧ field k.cfg0 4 3 = field (p.w 0) 4 3)) ∧ canTimingOk (p.w 0) (p.w 1) (p.w 2) = true) ∧
    (∃ (p : Packet), ∃ (s : State), ∃ (c : Nat), ∃ (k : CanCtrl), ∃ i, ∃ first, ∃ last, c = field (p.w 0) 0 3 ∧ k = canOf s c ∧ i = field (p.w 0) 3 6 ∧ first = field (p.w 3) 0 7 ∧ last = field (p.w 3) 8 7 ∧ ((first < 4 ∨ ∃ e ∈ k.filters, e.1 ≠ i ∧ e.2.enable = true ∧ first ≤ e.2.last ∧ e.2.first ≤ last)) ∧ Tab.wf {} s.can.ctrls ∧ Tab.wf {} k.bufs ∧ Tab.wf {} k.filters ∧ c < canControllers s ∧ s.dev.mode ≠ .graze ∧ Reached .canFilterConfig p s ∧ p.len = 4 ∧ reservedSet (p.w 0) 0xFFFFE000 = false ∧ reservedSet (p.w 1) 0xE0000000 = false ∧ reservedSet (p.w 2) 0xE0000000 = false ∧ reservedSet (p.w 3) 0xFFFF8080 = false ∧ first ≤ last ∧ bit (p.w 0) 9 = true) ∧
    (∃ (p : Packet), ∃ (s : State), ∃ (c : Nat), ∃ (k : CanCtrl), ∃ i, ∃ first, ∃ last, c = field (p.w 0) 0 3 ∧ k = canOf s c ∧ i = field (p.w 0) 3 6 ∧ first = field (p.w 3) 0 7 ∧ last = field (p.w 3) 8 7 ∧ ((∃ b, first ≤ b ∧ b ≤ last ∧ (canBuf s c b).kind ≠ 1)) ∧ Tab.wf {} s.can.ctrls ∧ Tab.wf {} k.bufs ∧ Tab.wf {} k.filters ∧ c < canControllers s ∧ s.dev.mode ≠ .graze ∧ Reached .canFilterConfig p s ∧ p.len = 4 ∧ reservedSet (p.w 0) 0xFFFFE000 = false ∧ reservedSet (p.w 1) 0xE0000000 = false ∧ reservedSet (p.w 2) 0xE0000000 = false ∧ reservedSet (p.w 3) 0xFFFF8080 = false ∧ first ≤ last ∧ bit (p.w 0) 9 = true ∧ filterOverlap s c i first last = false) ∧
    (∃ (p : Packet), ∃ (s : State), ∃ (c : Nat), ∃ (k : CanCtrl), ∃ i, ∃ first, ∃ last, c = field (p.w 0) 0 3 ∧ k = canOf s c ∧ i = field (p.w 0) 3 6 ∧ first = field (p.w 3) 0 7 ∧ last = field (p.w 3) 8 7 ∧ Tab.wf {} s.can.ctrls ∧ Tab.wf {} k.bufs ∧ Tab.wf {} k.filters ∧ c < canControllers s ∧ s.dev.mode ≠ .graze ∧ Reached .canFilterConfig p s ∧ p.len = 4 ∧ reservedSet (p.w 0) 0xFFFFE000 = false ∧ reservedSet (p.w 1) 0xE0000000 = false ∧ reservedSet (p.w 2) 0xE0000000 = false ∧ reservedSet (p.w 3) 0xFFFF8080 = false ∧ first ≤ last ∧ (bit (p.w 0) 9 = false ∨ (filterOverlap s c i first last = false ∧ ∀ b, first ≤ b → b ≤ last → (canBuf s c b).kind = 1))) ∧
    (∃ (p : Packet), ∃ (s : State), ∃ (c : Nat), ∃ (k : CanCtrl), ∃ b, c = field (p.w 0) 0 3 ∧ k = canOf s c ∧ b = field (p.w 0) 3 7 ∧ Tab.wf {} s.can.ctrls ∧ Tab.wf {} k.bufs ∧ Tab.wf {} k.filters ∧ c < canControllers s ∧ s.dev.mode ≠ .graze ∧ Reached .canBufferConfig p s ∧ p.len = 3 ∧ reservedSet (p.w 0) 0xFFE00000 = false ∧ field (p.w 0) 10 2 ≤ 2 ∧ reservedSet (p.w 1) 0xE0000000 = false ∧ reservedSet (p.w 2) 0xE0000000 = false ∧ ((field (p.w 0) 10 2 = 1 ∧ b < 4) ∨ (p.w 1 = 0 ∧ p.w 2 = 0)) ∧ ((canBuf s c b).state = .pending ∨ (canBuf s c b).state = .waitTime ∨ (canBuf s c b).locked = true)) ∧
    (∃ (p : Packet), ∃ (s : State), ∃ (c : Nat), ∃ (k : CanCtrl), ∃ b, c = field (p.w 0) 0 3 ∧ k = canOf s c ∧ b = field (p.w 0) 3 7 ∧ Tab.wf {} s.can.ctrls ∧ Tab.wf {} k.bufs ∧ Tab.wf {} k.filters ∧ c < canControllers s ∧ s.dev.mode ≠ .graze ∧ Reached .canBufferConfig p s ∧ p.len = 3 ∧ reservedSet (p.w 0) 0xFFE00000 = false ∧ field (p.w 0) 10 2 ≤ 2 ∧ reservedSet (p.w 1) 0xE0000000 = false ∧ reservedSet (p.w 2) 0xE0000000 = false ∧ ((field (p.w 0) 10 2 = 1 ∧ b < 4) ∨ (p.w 1 = 0 ∧ p.w 2 = 0)) ∧ (canBuf s c b).state ≠ .pending ∧ (canBuf s c b).state ≠ .waitTime ∧ (canBuf s c b).locked = false ∧ (field (p.w 0) 10 2 = 1 ∨ (∀ e ∈ k.filters, e.2.enable = true → b < e.2.first ∨ e.2.last < b))) :=
  ⟨⟨pk [7, 0, 0], inMode .graze, _, _, .canConfig, .canConfig (pk [7, 0, 0]), 3, rfl, rfl, by decide +kernel⟩,
   ⟨pk [15, 1, 0], (State.reset).modCan fun u => { u with ctrls := [(7, { enabled := true })] }, _, _, rfl, rfl, by decide +kernel⟩,
   ⟨pk [15, 0, 0], State.reset, _, _, rfl, rfl, by decide +kernel⟩,
   ⟨pk [15, 30 * 2 ^ 5 + 7 * 2 ^ 13 + 7 * 2 ^ 20 + 3, 0], State.reset, _, _, rfl, rfl, by decide +kernel⟩,
   ⟨pk [7 + 63 * 2 ^ 3 + 2 ^ 9, 0, 0, 3 + 127 * 2 ^ 8], State.reset, _, _, _, _, _, rfl, rfl, rfl, rfl, rfl, .inl (by decide +kernel), by decide +kernel⟩,
   ⟨pk [7 + 63 * 2 ^ 3 + 2 ^ 9, 0, 0, 127 + 127 * 2 ^ 8], State.reset, _, _, _, _, _, rfl, rfl, rfl, rfl, rfl, ⟨127, by decide +kernel⟩, by decide +kernel⟩,
   ⟨pk [7 + 63 * 2 ^ 3 + 2 ^ 9, 0, 0, 127 + 127 * 2 ^ 8], (State.reset).modCan fun u => { u with ctrls := [(7, { bufs := [(127, { kind := 1 })] })] }, _, _, _, _, _, rfl, rfl, rfl, rfl, rfl, by decide +kernel⟩,
   ⟨pk [7 + 127 * 2 ^ 3, 0, 0], (State.reset).modCan fun u => { u with ctrls := [(7, { bufs := [(127, { kind := 2, state := .pending })] })] }, _, _, _, rfl, rfl, rfl, by decide +kernel⟩,
   ⟨pk [7 + 127 * 2 ^ 3, 0, 0], State.reset, _, _, _, rfl, rfl, rfl, by decide +kernel⟩⟩

theorem witness_CanTraffic :
    (∃ (p : Packet), ∃ (s : State), ∃ (c : Nat), ∃ (k : CanCtrl), ∃ b, ∃ q, c = field (p.w 0) 0 3 ∧ k = canOf s c ∧ b = field (p.w 0) 3 7 ∧ q = canBuf s c b ∧ Tab.wf {} s.can.ctrls ∧ Tab.wf {} k.bufs ∧ c < canControllers s ∧ s.dev.mode ≠ .graze ∧ Reached .canTransmit p s ∧ p.len = 4 + (transmitBytes (p.w 1) (p.w 2) + 3) / 4 ∧ reservedSet (p.w 0) 0xFFFFF800 = false ∧ reservedSet (p.w 2) 0xFFFFFF80 = false ∧ bit (p.w 2) 6 = false ∧ bit (p.w 1) 31 = false ∧ ((bit (p.w 1) 30 = true → bit (p.w 2) 4 = false)) ∧ ((bit (p.w 2) 4 = true → k.fd = true)) ∧ ((bit (p.w 2) 5 = true → bit (p.w 2) 4 = true)) ∧ ((bit (p.w 0) 10 = false → p.w 3 = 0)) ∧ k.state = .off) ∧
    (∃ (p : Packet), ∃ (s : State), ∃ (c : Nat), ∃ (k : CanCtrl), ∃ b, ∃ q, c = field (p.w 0) 0 3 ∧ k = canOf s c ∧ b = field (p.w 0) 3 7 ∧ q = canBuf s c b ∧ Tab.wf {} s.can.ctrls ∧ Tab.wf {} k.bufs ∧ c < canControllers s ∧ s.dev.mode ≠ .graze ∧ Reached .canTransmit p s ∧ p.len = 4 + (transmitBytes (p.w 1) (p.w 2) + 3) / 4 ∧ reservedSet (p.w 0) 0xFFFFF800 = false ∧ reservedSet (p.w 2) 0xFFFFFF80 = false ∧ bit (p.w 2) 6 = false ∧ bit (p.w 1) 31 = false ∧ ((bit (p.w 1) 30 = true → bit (p.w 2) 4 = false)) ∧ ((bit (p.w 2) 4 = true → k.fd = true)) ∧ ((bit (p.w 2) 5 = true → bit (p.w 2) 4 = true)) ∧ ((bit (p.w 0) 10 = false → p.w 3 = 0)) ∧ k.state ≠ .off ∧ q.kind ≠ 2) ∧
    (∃ (p : Packet), ∃ (s : State), ∃ (c : Nat), ∃ (k : CanCtrl), ∃ b, ∃ q, c = field (p.w 0) 0 3 ∧ k = canOf s c ∧ b = field (p.w 0) 3 7 ∧ q = canBuf s c b ∧ Tab.wf {} s.can.ctrls ∧ Tab.wf {} k.bufs ∧ c < canControllers s ∧ s.dev.mode ≠ .graze ∧ Reached .canTransmit p s ∧ p.len = 4 + (transmitBytes (p.w 1) (p.w 2) + 3) / 4 ∧ reservedSet (p.w 0) 0xFFFFF800 = false ∧ reservedSet (p.w 2) 0xFFFFFF80 = false ∧ bit (p.w 2) 6 = false ∧ bit (p.w 1) 31 = false ∧ ((bit (p.w 1) 30 = true → bit (p.w 2) 4 = false)) ∧ ((bit (p.w 2) 4 = true → k.fd = true)) ∧ ((bit (p.w 2) 5 = true → bit (p.w 2) 4 = true)) ∧ ((bit (p.w 0) 10 = false → p.w 3 = 0)) ∧ k.state ≠ .off ∧ q.kind = 2 ∧ k.listen = true) ∧
    (∃ (p : Packet), ∃ (s : State), ∃ (c : Nat), ∃ (k : CanCtrl), ∃ b, ∃ q, c = field (p.w 0) 0 3 ∧ k = canOf s c ∧ b = field (p.w 0) 3 7 ∧ q = canBuf s c b ∧ Tab.wf {} s.can.ctrls ∧ Tab.wf {} k.bufs ∧ c < canControllers s ∧ s.dev.mode ≠ .graze ∧ Reached .canTransmit p s ∧ p.len = 4 + (transmitBytes (p.w 1) (p.w 2) + 3) / 4 ∧ reservedSet (p.w 0) 0xFFFFF800 = false ∧ reservedSet (p.w 2) 0xFFFFFF80 = false ∧ bit (p.w 2) 6 = false ∧ bit (p.w 1) 31 = false ∧ ((bit (p.w 1) 30 = true → bit (p.w 2) 4 = false)) ∧ ((bit (p.w 2) 4 = true → k.fd = true)) ∧ ((bit (p.w 2) 5 = true → bit (p.w 2) 4 = true)) ∧ ((bit (p.w 0) 10 = false → p.w 3 = 0)) ∧ k.state ≠ .off ∧ q.kind = 2 ∧ k.listen = false ∧ canOwned s c b = true) ∧
    (∃ (p : Packet), ∃ (s : State), ∃ (c : Nat), ∃ (k : CanCtrl), ∃ b, ∃ q, c = field (p.w 0) 0 3 ∧ k = canOf s c ∧ b = field (p.w 0) 3 7 ∧ q = canBuf s c b ∧ Tab.wf {} s.can.ctrls ∧ Tab.wf {} k.bufs ∧ c < canControllers s ∧ s.dev.mode ≠ .graze ∧ Reached .canTransmit p s ∧ p.len = 4 + (transmitBytes (p.w 1) (p.w 2) + 3) / 4 ∧ reservedSet (p.w 0) 0xFFFFF800 = false ∧ reservedSet (p.w 2) 0xFFFFFF80 = false ∧ bit (p.w 2) 6 = false ∧ bit (p.w 1) 31 = false ∧ ((bit (p.w 1) 30 = true → bit (p.w 2) 4 = false)) ∧ ((bit (p.w 2) 4 = true → k.fd = true)) ∧ ((bit (p.w 2) 5 = true → bit (p.w 2) 4 = true)) ∧ ((bit (p.w 0) 10 = false → p.w 3 = 0)) ∧ k.state ≠ .off ∧ q.kind = 2 ∧ k.listen = false ∧ canOwned s c b = false ∧ (q.state = .pending ∨ q.state = .waitTime)) ∧
    (∃ (p : Packet), ∃ (s : State), ∃ (c : Nat), ∃ (k : CanCtrl), ∃ b, ∃ q, c = field (p.w 0) 0 3 ∧ k = canOf s c ∧ b = field (p.w 0) 3 7 ∧ q = canBuf s c b ∧ Tab.wf {} s.can.ctrls ∧ Tab.wf {} k.bufs ∧ c < canControllers s ∧ s.dev.mode ≠ .graze ∧ Reached .canTransmit p s ∧ p.len = 4 + (transmitBytes (p.w 1) (p.w 2) + 3) / 4 ∧ reservedSet (p.w 0) 0xFFFFF800 = false ∧ reservedSet (p.w 2) 0xFFFFFF80 = false ∧ bit (p.w 2) 6 = false ∧ bit (p.w 1) 31 = false ∧ ((bit (p.w 1) 30 = true → bit (p.w 2) 4 = false)) ∧ ((bit (p.w 2) 4 = true → k.fd = true)) ∧ ((bit (p.w 2) 5 = true → bit (p.w 2) 4 = true)) ∧ ((bit (p.w 0) 10 = false → p.w 3 = 0)) ∧ k.state ≠ .off ∧ q.kind = 2 ∧ k.listen = false ∧ canOwned s c b = false ∧ q.state ≠ .pending ∧ q.state ≠ .waitTime) ∧
    (∃ (p : Packet), ∃ (s : State), ∃ (c : Nat), ∃ (k : CanCtrl), ∃ b, ∃ q, c = field (p.w 0) 0 3 ∧ k = canOf s c ∧ b = field (p.w 0) 3 7 ∧ q = canBuf s c b ∧ Tab.wf {} s.can.ctrls ∧ Tab.wf {} k.bufs ∧ c < canControllers s ∧ s.dev.mode ≠ .graze ∧ Reached .canCancel p s ∧ p.len = 1 ∧ reservedSet (p.w 0) 0xFFFFFC00 = false ∧ q.kind ≠ 2) ∧
    (∃ (p : Packet), ∃ (s : State), ∃ (c : Nat), ∃ (k : CanCtrl), ∃ b, ∃ q, c = field (p.w 0) 0 3 ∧ k = canOf s c ∧ b = field (p.w 0) 3 7 ∧ q = canBuf s c b ∧ Tab.wf {} s.can.ctrls ∧ Tab.wf {} k.bufs ∧ c < canControllers s ∧ s.dev.mode ≠ .graze ∧ Reached .canCancel p s ∧ p.len = 1 ∧ reservedSet (p.w 0) 0xFFFFFC00 = false ∧ q.kind = 2 ∧ q.state ≠ .pending ∧ q.state ≠ .waitTime) ∧
    (∃ (p : Packet), ∃ (s : State), ∃ (c : Nat), ∃ (k : CanCtrl), ∃ b, ∃ q, c = field (p.w 0) 0 3 ∧ k = canOf s c ∧ b = field (p.w 0) 3 7 ∧ q = canBuf s c b ∧ Tab.wf {} s.can.ctrls ∧ Tab.wf {} k.bufs ∧ c < canControllers s ∧ s.dev.mode ≠ .graze ∧ Reached .canCancel p s ∧ p.len = 1 ∧ reservedSet (p.w 0) 0xFFFFFC00 = false ∧ q.kind = 2 ∧ q.cancelling = true ∧ (q.state = .waitTime ∨ q.state = .pending)) ∧
    (∃ (p : Packet), ∃ (s : State), ∃ (c : Nat), ∃ (k : CanCtrl), ∃ b, ∃ q, c = field (p.w 0) 0 3 ∧ k = canOf s c ∧ b = field (p.w 0) 3 7 ∧ q = canBuf s c b ∧ Tab.wf {} s.can.ctrls ∧ Tab.wf {} k.bufs ∧ c < canControllers s ∧ s.dev.mode ≠ .graze ∧ Reached .canCancel p s ∧ p.len = 1 ∧ reservedSet (p.w 0) 0xFFFFFC00 = false ∧ q.kind = 2 ∧ q.cancelling = false ∧ (q.state = .waitTime ∨ (q.state = .pending ∧ (offered s c ≠ some b ∨ onBus s c = false)))) ∧
    (∃ (p : Packet), ∃ (s : State), ∃ (c : Nat), ∃ (k : CanCtrl), ∃ b, ∃ q, c = field (p.w 0) 0 3 ∧ k = canOf s c ∧ b = field (p.w 0) 3 7 ∧ q = canBuf s c b ∧ Tab.wf {} s.can.ctrls ∧ Tab.wf {} k.bufs ∧ c < canControllers s ∧ s.dev.mode ≠ .graze ∧ Reached .canCancel p s ∧ p.len = 1 ∧ reservedSet (p.w 0) 0xFFFFFC00 = false ∧ q.kind = 2 ∧ q.cancelling = false ∧ q.state = .pending ∧ onBus s c = true ∧ offered s c = some b) ∧
    (∃ (p : Packet), ∃ (s : State), ∃ (c : Nat), ∃ (k : CanCtrl), c = field (p.w 0) 0 3 ∧ k = canOf s c ∧ Tab.wf {} s.can.ctrls ∧ Tab.wf {} k.bufs ∧ c < canControllers s ∧ s.dev.mode ≠ .graze ∧ Reached .canRecover p s ∧ p.len = 1 ∧ reservedSet (p.w 0) 0xFFFFFFF8 = false ∧ k.state ≠ .busOff) ∧
    (∃ (p : Packet), ∃ (s : State), ∃ (c : Nat), ∃ (k : CanCtrl), c = field (p.w 0) 0 3 ∧ k = canOf s c ∧ Tab.wf {} s.can.ctrls ∧ Tab.wf {} k.bufs ∧ c < canControllers s ∧ s.dev.mode ≠ .graze ∧ Reached .canRecover p s ∧ p.len = 1 ∧ reservedSet (p.w 0) 0xFFFFFFF8 = false ∧ k.state = .busOff) ∧
    (∃ (p : Packet), ∃ (s : State), ∃ (c : Nat), ∃ (k : CanCtrl), c = field (p.w 0) 0 3 ∧ k = canOf s c ∧ Tab.wf {} s.can.ctrls ∧ Tab.wf {} k.bufs ∧ c < canControllers s ∧ s.dev.mode ≠ .graze ∧ Reached .canCounterConfig p s ∧ p.len = 1 ∧ reservedSet (p.w 0) 0xFFFFFFE0 = false ∧ ((bit (p.w 0) 4 = true → c = 0))) :=
  ⟨⟨pk [7 + 127 * 2 ^ 3, 0, 8, 0, 1, 2], State.reset, _, _, _, _, rfl, rfl, rfl, rfl, by decide +kernel⟩,
   ⟨pk [7 + 127 * 2 ^ 3, 0, 8, 0, 1, 2], (State.reset).modCan fun u => { u with ctrls := [(7, { state := .errorActive })] }, _, _, _, _, rfl, rfl, rfl, rfl, by decide +kernel⟩,
   ⟨pk [7 + 127 * 2 ^ 3, 0, 8, 0, 1, 2], (State.reset).modCan fun u => { u with ctrls := [(7, { state := .errorActive, cfg0 := 2 ^ 5, bufs := [(127, { kind := 2 })] })] }, _, _, _, _, rfl, rfl, rfl, rfl, by decide +kernel⟩,
   ⟨pk [7 + 127 * 2 ^ 3, 0, 8, 0, 1, 2], (((State.reset).modCan fun u => { u with ctrls := [(7, { state := .errorActive, cfg0 := 0, bufs := [(127, { kind := 2 })] })] }).modBank 3 true fun k => { k with state := .verified }).writeWords (bankAddr 3 true + 20) (wd 1 :: List.replicate 10 0 ++ [wd GOp.canSend.code, 0, 0, wd (7 + 127 * 2 ^ 8)]), _, _, _, _, rfl, rfl, rfl, rfl, by decide +kernel⟩,
   ⟨pk [7 + 127 * 2 ^ 3, 0, 8, 0, 1, 2], (State.reset).modCan fun u => { u with ctrls := [(7, { state := .errorActive, cfg0 := 0, bufs := [(127, { kind := 2, state := .pending })] })] }, _, _, _, _, rfl, rfl, rfl, rfl, by decide +kernel⟩,
   ⟨pk [7 + 127 * 2 ^ 3, 0, 8, 0, 1, 2], (State.reset).modCan fun u => { u with ctrls := [(7, { state := .errorActive, cfg0 := 0, bufs := [(127, { kind := 2 })] })] }, _, _, _, _, rfl, rfl, rfl, rfl, by decide +kernel⟩,
   ⟨pk [7 + 127 * 2 ^ 3], State.reset, _, _, _, _, rfl, rfl, rfl, rfl, by decide +kernel⟩,
   ⟨pk [7 + 127 * 2 ^ 3], (State.reset).modCan fun u => { u with ctrls := [(7, { state := .errorActive, cfg0 := 0, bufs := [(127, { kind := 2 })] })] }, _, _, _, _, rfl, rfl, rfl, rfl, by decide +kernel⟩,
   ⟨pk [7 + 127 * 2 ^ 3], (State.reset).modCan fun u => { u with ctrls := [(7, { state := .errorActive, cfg0 := 0, bufs := [(127, { kind := 2, state := .pending, cancelling := true })] })] }, _, _, _, _, rfl, rfl, rfl, rfl, by decide +kernel⟩,
   ⟨pk [7 + 127 * 2 ^ 3], (State.reset).modCan fun u => { u with ctrls := [(7, { state := .errorActive, cfg0 := 0, bufs := [(127, { kind := 2, state := .waitTime })] })] }, _, _, _, _, rfl, rfl, rfl, rfl, by decide +kernel⟩,
   ⟨pk [7 + 127 * 2 ^ 3], (State.reset).modCan fun u => { u with ctrls := [(7, { state := .errorActive, cfg0 := 0, bufs := [(127, { kind := 2, state := .pending })] })] }, _, _, _, _, rfl, rfl, rfl, rfl, by decide +kernel⟩,
   ⟨pk [7], State.reset, _, _, rfl, rfl, by decide +kernel⟩,
   ⟨pk [7], (State.reset).modCan fun u => { u with ctrls := [(7, { state := .busOff })] }, _, _, rfl, rfl, by decide +kernel⟩,
   ⟨pk [7 + 2 ^ 3], State.reset, _, _, rfl, rfl, by decide +kernel⟩⟩

theorem witness_TimeCommands :
    (∃ (p : Packet), ∃ (s : State), ∃ n, n = field (p.w 0) 0 1 ∧ Tab.wf {} s.net.ports ∧ Tab.wf {} s.net.tracks ∧ Reached .timePortConfig p s ∧ p.len = 8 ∧ reservedSet (p.w 0) 0xFFFFFFF0 = false ∧ reservedSet (p.w 2) 0x80000000 = false ∧ p.w 4 ≤ 32 ∧ s.dev.mode ≠ .configure ∧ s.dev.mode ≠ .ready) ∧
    (∃ (p : Packet), ∃ (s : State), ∃ n, n = field (p.w 0) 0 1 ∧ Tab.wf {} s.net.ports ∧ Tab.wf {} s.net.tracks ∧ Reached .timePortConfig p s ∧ p.len = 8 ∧ reservedSet (p.w 0) 0xFFFFFFF0 = false ∧ reservedSet (p.w 2) 0x80000000 = false ∧ p.w 4 ≤ 32 ∧ (s.dev.mode = .configure ∨ s.dev.mode = .ready) ∧ s.net.udpEnabled = true ∧ bit s.net.udpPorts n = true ∧ udpRing s = true ∧ (bit (p.w 0) 1 = false ∨ (portOf s n).ipv4 ≠ p.w 3)) ∧
    (∃ (p : Packet), ∃ (s : State), ∃ n, n = field (p.w 0) 0 1 ∧ Tab.wf {} s.net.ports ∧ Tab.wf {} s.net.tracks ∧ Reached .timePortConfig p s ∧ p.len = 8 ∧ reservedSet (p.w 0) 0xFFFFFFF0 = false ∧ reservedSet (p.w 2) 0x80000000 = false ∧ p.w 4 ≤ 32 ∧ (s.dev.mode = .configure ∨ s.dev.mode = .ready) ∧ (s.net.udpEnabled = false ∨ bit s.net.udpPorts n = false ∨ udpRing s = false ∨ (bit (p.w 0) 1 = true ∧ (portOf s n).ipv4 = p.w 3))) ∧
    (∃ (p : Packet), ∃ (s : State), ∃ k, ∃ o, k = field (p.w 0) 0 1 ∧ o = trackOf s (1 - k) ∧ Tab.wf {} s.net.ports ∧ Tab.wf {} s.net.tracks ∧ Reached .timePtpConfig p s ∧ p.len = 3 ∧ reservedSet (p.w 0) 0xFC000000 = false ∧ 1 ≤ p.w 2 ∧ p.w 2 < 65536 ∧ field (p.w 0) 6 8 ≤ 239 ∧ -7 ≤ signed 8 (field (p.w 1) 0 8) ∧ signed 8 (field (p.w 1) 0 8) ≤ 5 ∧ 2 ≤ field (p.w 1) 8 8 ∧ field (p.w 1) 8 8 ≤ 10 ∧ 1 ≤ field (p.w 1) 16 16 ∧ ((bit (p.w 0) 1 = true → field (p.w 0) 2 2 ≠ 0)) ∧ (s.dev.mode = .configure ∨ s.dev.mode = .ready) ∧ bit (p.w 0) 1 = true ∧ bit (p.w 0) 4 = true ∧ ((∃ n < 2, bit (field (p.w 0) 2 2) n = true ∧ (portOf s n).ipv4 = 0))) ∧
    (∃ (p : Packet), ∃ (s : State), ∃ k, ∃ o, k = field (p.w 0) 0 1 ∧ o = trackOf s (1 - k) ∧ Tab.wf {} s.net.ports ∧ Tab.wf {} s.net.tracks ∧ Reached .timePtpConfig p s ∧ p.len = 3 ∧ reservedSet (p.w 0) 0xFC000000 = false ∧ 1 ≤ p.w 2 ∧ p.w 2 < 65536 ∧ field (p.w 0) 6 8 ≤ 239 ∧ -7 ≤ signed 8 (field (p.w 1) 0 8) ∧ signed 8 (field (p.w 1) 0 8) ≤ 5 ∧ 2 ≤ field (p.w 1) 8 8 ∧ field (p.w 1) 8 8 ≤ 10 ∧ 1 ≤ field (p.w 1) 16 16 ∧ ((bit (p.w 0) 1 = true → field (p.w 0) 2 2 ≠ 0)) ∧ (s.dev.mode = .configure ∨ s.dev.mode = .ready) ∧ bit (p.w 0) 1 = true ∧ bit (p.w 0) 4 = false ∧ o.enable = true ∧ o.domain = field (p.w 0) 6 8 ∧ o.ports &&& field (p.w 0) 2 2 ≠ 0) ∧
    (∃ (p : Packet), ∃ (s : State), ∃ k, ∃ o, k = field (p.w 0) 0 1 ∧ o = trackOf s (1 - k) ∧ Tab.wf {} s.net.ports ∧ Tab.wf {} s.net.tracks ∧ Reached .timePtpConfig p s ∧ p.len = 3 ∧ reservedSet (p.w 0) 0xFC000000 = false ∧ 1 ≤ p.w 2 ∧ p.w 2 < 65536 ∧ field (p.w 0) 6 8 ≤ 239 ∧ -7 ≤ signed 8 (field (p.w 1) 0 8) ∧ signed 8 (field (p.w 1) 0 8) ≤ 5 ∧ 2 ≤ field (p.w 1) 8 8 ∧ field (p.w 1) 8 8 ≤ 10 ∧ 1 ≤ field (p.w 1) 16 16 ∧ ((bit (p.w 0) 1 = true → field (p.w 0) 2 2 ≠ 0)) ∧ (s.dev.mode = .configure ∨ s.dev.mode = .ready) ∧ (bit (p.w 0) 1 = false ∨ ((bit (p.w 0) 4 = true → ∀ n < 2, bit (field (p.w 0) 2 2) n = true → (portOf s n).ipv4 ≠ 0) ∧ (o.enable = false ∨ o.domain ≠ field (p.w 0) 6 8 ∨ o.ports &&& field (p.w 0) 2 2 = 0)))) ∧
    (∃ (p : Packet), ∃ (s : State), ∃ n, Tab.wf {} s.net.ports ∧ Tab.wf {} s.net.tracks ∧ Reached .timeUdpConfig p s ∧ p.w 1 = n ∧ 1 ≤ n ∧ n ≤ 8 ∧ p.len = 2 + 2 * n ∧ reservedSet (p.w 0) 0xFE000000 = false ∧ field (p.w 0) 0 16 ≠ 0 ∧ field (p.w 0) 0 16 ≠ 319 ∧ field (p.w 0) 0 16 ≠ 320 ∧ ((∀ i < n, p.w (3 + 2 * i) ≤ 32)) ∧ (s.dev.mode = .configure ∨ s.dev.mode = .ready) ∧ bit (p.w 0) 16 = true ∧ ((∃ m < 2, bit (field (p.w 0) 17 2) m = true ∧ (portOf s m).ipv4 = 0))) ∧
    (∃ (p : Packet), ∃ (s : State), ∃ n, Tab.wf {} s.net.ports ∧ Tab.wf {} s.net.tracks ∧ Reached .timeUdpConfig p s ∧ p.w 1 = n ∧ 1 ≤ n ∧ n ≤ 8 ∧ p.len = 2 + 2 * n ∧ reservedSet (p.w 0) 0xFE000000 = false ∧ field (p.w 0) 0 16 ≠ 0 ∧ field (p.w 0) 0 16 ≠ 319 ∧ field (p.w 0) 0 16 ≠ 320 ∧ ((∀ i < n, p.w (3 + 2 * i) ≤ 32)) ∧ (s.dev.mode = .configure ∨ s.dev.mode = .ready) ∧ bit (p.w 0) 16 = false ∧ udpRing s = true ∧ s.net.udpEnabled = true) ∧
    (∃ (p : Packet), ∃ (s : State), ∃ n, Tab.wf {} s.net.ports ∧ Tab.wf {} s.net.tracks ∧ Reached .timeUdpConfig p s ∧ p.w 1 = n ∧ 1 ≤ n ∧ n ≤ 8 ∧ p.len = 2 + 2 * n ∧ reservedSet (p.w 0) 0xFE000000 = false ∧ field (p.w 0) 0 16 ≠ 0 ∧ field (p.w 0) 0 16 ≠ 319 ∧ field (p.w 0) 0 16 ≠ 320 ∧ ((∀ i < n, p.w (3 + 2 * i) ≤ 32)) ∧ (s.dev.mode = .configure ∨ s.dev.mode = .ready) ∧ ((bit (p.w 0) 16 = true → ∀ m < 2, bit (field (p.w 0) 17 2) m = true → (portOf s m).ipv4 ≠ 0)) ∧ (udpRing s = false ∨ s.net.udpEnabled = false ∨ (bit (p.w 0) 16 = true ∧ s.net.udpPorts &&& field (p.w 0) 17 2 = s.net.udpPorts))) ∧
    (∃ (p : Packet), ∃ (s : State), ∃ source, source = 3 ∧ Reached .timeDomainSelect p s ∧ p.len = 7 ∧ reservedSet (p.w 0) 0xFFFFFFE0 = false ∧ reservedSet (p.w 6) 0xFFF80000 = false ∧ 1 ≤ field (p.w 1) 0 8 ∧ field (p.w 1) 0 8 ≤ 100 ∧ 1 ≤ field (p.w 1) 8 8 ∧ field (p.w 1) 8 8 ≤ 100 ∧ 1 ≤ field (p.w 1) 16 16 ∧ source = field (p.w 0) 0 2 ∧ s.drove.cfg.upEn = false) ∧
    (∃ (p : Packet), ∃ (s : State), ∃ source, source = field (p.w 0) 0 2 ∧ Reached .timeDomainSelect p s ∧ p.len = 7 ∧ reservedSet (p.w 0) 0xFFFFFFE0 = false ∧ reservedSet (p.w 6) 0xFFF80000 = false ∧ 1 ≤ field (p.w 1) 0 8 ∧ field (p.w 1) 0 8 ≤ 100 ∧ 1 ≤ field (p.w 1) 8 8 ∧ field (p.w 1) 8 8 ≤ 100 ∧ 1 ≤ field (p.w 1) 16 16 ∧ source < 2 ∧ ((∀ i, 2 ≤ i → i < 7 → p.w i = 0)) ∧ (trackOf s source).state ≠ .locked) ∧
    (∃ (p : Packet), ∃ (s : State), ∃ source, source = 2 ∧ Reached .timeDomainSelect p s ∧ p.len = 7 ∧ reservedSet (p.w 0) 0xFFFFFFE0 = false ∧ reservedSet (p.w 6) 0xFFF80000 = false ∧ 1 ≤ field (p.w 1) 0 8 ∧ field (p.w 1) 0 8 ≤ 100 ∧ 1 ≤ field (p.w 1) 8 8 ∧ field (p.w 1) 8 8 ≤ 100 ∧ 1 ≤ field (p.w 1) 16 16 ∧ source = field (p.w 0) 0 2 ∧ (bit (p.w 0) 3 = true ∨ bit (p.w 0) 4 = true) ∧ s.drove.cfg.upEn = true) ∧
    (∃ (p : Packet), ∃ (s : State), ∃ source, source = field (p.w 0) 0 2 ∧ Reached .timeDomainSelect p s ∧ p.len = 7 ∧ reservedSet (p.w 0) 0xFFFFFFE0 = false ∧ reservedSet (p.w 6) 0xFFF80000 = false ∧ 1 ≤ field (p.w 1) 0 8 ∧ field (p.w 1) 0 8 ≤ 100 ∧ 1 ≤ field (p.w 1) 8 8 ∧ field (p.w 1) 8 8 ≤ 100 ∧ 1 ≤ field (p.w 1) 16 16 ∧ ((bit (p.w 0) 3 = false ∧ bit (p.w 0) 4 = false) ∨ s.drove.cfg.upEn = false) ∧ ((source = 2 ∨ (source < 2 ∧ (∀ i, 2 ≤ i → i < 7 → p.w i = 0) ∧ (trackOf s source).state = .locked) ∨ (source = 3 ∧ (∀ i, 2 ≤ i → i < 7 → p.w i = 0) ∧ s.drove.cfg.upEn = true)))) ∧
    (∃ (p : Packet), ∃ (s : State), ∃ n, ∃ most, ∃ q, n = field (p.w 0) 0 1 ∧ most = field (p.w 0) 1 5 ∧ q = portOf s n ∧ Reached .timeTsQueueRead p s ∧ p.len = 1 ∧ reservedSet (p.w 0) 0xFFFFFFC0 = false ∧ (most = 0 ∨ 16 < most)) ∧
    (∃ (p : Packet), ∃ (s : State), ∃ n, ∃ most, ∃ q, n = field (p.w 0) 0 1 ∧ most = field (p.w 0) 1 5 ∧ q = portOf s n ∧ Reached .timeTsQueueRead p s ∧ p.len = 1 ∧ reservedSet (p.w 0) 0xFFFFFFC0 = false ∧ 1 ≤ most ∧ most ≤ 16) :=
  ⟨⟨pk [15, 0, 0, 5, 32, 0, 0, 0], inMode .run, _, rfl, by decide +kernel⟩,
   ⟨pk [3, 0, 0, 6, 32, 0, 0, 0], ringIn 63 { state := .active, transport := 2 } ((State.reset).modNet fun u => { u with udpEnabled := true, udpPorts := 2 }), _, rfl, by decide +kernel⟩,
   ⟨pk [15, 0, 0, 5, 32, 0, 0, 0], State.reset, _, rfl, by decide +kernel⟩,
   ⟨pk [1 + 2 + 3 * 4 + 1 * 16 + 239 * 2 ^ 6, 0xFFFF0AF9, 65535], State.reset, _, _, rfl, rfl, by decide +kernel⟩,
   ⟨pk [1 + 2 + 3 * 4 + 0 * 16 + 239 * 2 ^ 6, 0xFFFF0AF9, 65535], (State.reset).modNet fun u => { u with tracks := [(0, { enable := true, domain := 239, ports := 2 })] }, _, _, rfl, rfl, by decide +kernel⟩,
   ⟨pk [1 + 2 + 3 * 4 + 0 * 16 + 239 * 2 ^ 6, 0xFFFF0AF9, 65535], State.reset, _, _, rfl, rfl, by decide +kernel⟩,
   ⟨pk [65535 + 1 * 2 ^ 16 + 3 * 2 ^ 17, 8, 0, 32, 0, 32, 0, 32, 0, 32, 0, 32, 0, 32, 0, 32, 0, 32], State.reset, 8, by decide +kernel⟩,
   ⟨pk [65535 + 0 * 2 ^ 16 + 0 * 2 ^ 17, 8, 0, 32, 0, 32, 0, 32, 0, 32, 0, 32, 0, 32, 0, 32, 0, 32], ringIn 63 { state := .active, transport := 2 } ((State.reset).modNet fun u => { u with udpEnabled := true }), 8, by decide +kernel⟩,
   ⟨pk [65535 + 1 * 2 ^ 16 + 3 * 2 ^ 17, 8, 0, 32, 0, 32, 0, 32, 0, 32, 0, 32, 0, 32, 0, 32, 0, 32], (State.reset).modNet fun u => { u with ports := [(0, { ipv4 := 1 }), (1, { ipv4 := 1 })] }, 8, by decide +kernel⟩,
   ⟨pk [3, 100 + 100 * 2 ^ 8 + 65535 * 2 ^ 16, 0, 0, 0, 0, 0], State.reset, _, rfl, by decide +kernel⟩,
   ⟨pk [1, 100 + 100 * 2 ^ 8 + 65535 * 2 ^ 16, 0, 0, 0, 0, 0], State.reset, _, rfl, by decide +kernel⟩,
   ⟨pk [(2 + 8 + 16), 100 + 100 * 2 ^ 8 + 65535 * 2 ^ 16, 0, 0, 0, 0, 0], underRing .run, _, rfl, by decide +kernel⟩,
   ⟨pk [7, 100 + 100 * 2 ^ 8 + 65535 * 2 ^ 16, 0, 0, 0, 0, 0], underRing .run, _, rfl, by decide +kernel⟩,
   ⟨pk [1 + 17 * 2], State.reset, _, _, _, rfl, rfl, rfl, by decide +kernel⟩,
   ⟨pk [1 + 16 * 2], State.reset, _, _, _, rfl, rfl, rfl, by decide +kernel⟩⟩

theorem witness_IslandCommands :
    (∃ (p : Packet), ∃ (s : State), (s.isl.powered = false ∨ s.isl.state = .start) ∧ Reached .safeParamLoad p s ∧ p.len = 70) ∧
    (∃ (p : Packet), ∃ (s : State), (s.isl.powered = false ∨ s.isl.state = .start) ∧ Reached .safeStatus p s ∧ p.len = 0) ∧
    (∃ (p : Packet), ∃ (s : State), (s.isl.powered = false ∨ s.isl.state = .start) ∧ Reached .safeStop p s ∧ p.len = 1 ∧ reservedSet (p.w 0) 0xFFFFFE00 = false) ∧
    (∃ (p : Packet), ∃ (s : State), Reached .safeReset p s ∧ p.len = 1 ∧ reservedSet (p.w 0) 0xFFFFFE00 = false) ∧
    (∃ (p : Packet), ∃ (s : State), s.isl.powered = true ∧ s.isl.state ≠ .start ∧ Reached .safeSwitchRead p s ∧ p.len = 0) ∧
    (∃ (p : Packet), ∃ (s : State), s.isl.powered = true ∧ s.isl.state ≠ .start ∧ Reached .safeStatus p s ∧ p.len = 0) ∧
    (∃ (p : Packet), ∃ (s : State), s.isl.powered = true ∧ s.isl.state ≠ .start ∧ Reached .safeDiagRead p s ∧ p.len = 1 ∧ reservedSet (p.w 0) 0xFFFFFFFE = false) ∧
    (∃ (p : Packet), ∃ (s : State), ∃ first, ∃ count, first = field (p.w 0) 0 7 ∧ count = field (p.w 0) 7 7 ∧ s.isl.powered = true ∧ s.isl.state ≠ .start ∧ Reached .safeMemRead p s ∧ p.len = 1 ∧ reservedSet (p.w 0) 0xFFFFC000 = false ∧ 1 ≤ count ∧ first + count ≤ 70 ∧ s.isl.params = []) ∧
    (∃ (p : Packet), ∃ (s : State), ∃ first, ∃ count, first = field (p.w 0) 0 7 ∧ count = field (p.w 0) 7 7 ∧ s.isl.powered = true ∧ s.isl.state ≠ .start ∧ Reached .safeMemRead p s ∧ p.len = 1 ∧ reservedSet (p.w 0) 0xFFFFC000 = false ∧ 1 ≤ count ∧ first + count ≤ 70 ∧ s.isl.params ≠ []) ∧
    (∃ (p : Packet), ∃ (s : State), ∃ pairs, pairs = [] ∧ s.isl.powered = true ∧ s.isl.state ≠ .start ∧ Reached .safeStop p s ∧ p.len = 1 ∧ reservedSet (p.w 0) 0xFFFFFE00 = false ∧ s.isl.state = .ready ∧ s.isl.params ≠ [] ∧ pairs = (bitsOf 8 (field (p.w 0) 0 8)).filter (fun n => (pairOf s n).state == .enabled) ∧ Tab.wf {} s.isl.pairs) ∧
    (∃ (p : Packet), ∃ (s : State), ∃ pairs, ∃ n, pairs = (bitsOf 8 (field (p.w 0) 0 8)).filter (fun n => (pairOf s n).state == .enabled) ∧ s.isl.powered = true ∧ s.isl.state ≠ .start ∧ Reached .safeStop p s ∧ p.len = 1 ∧ reservedSet (p.w 0) 0xFFFFFE00 = false ∧ s.isl.state = .ready ∧ s.isl.params ≠ [] ∧ Tab.wf {} s.isl.pairs ∧ n ∈ pairs ∧ (bit (p.w 0) 8 = true ∨ s.isl.mode n = 0)) ∧
    (∃ (p : Packet), ∃ (s : State), ∃ pairs, ∃ n, pairs = (bitsOf 8 (field (p.w 0) 0 8)).filter (fun n => (pairOf s n).state == .enabled) ∧ s.isl.powered = true ∧ s.isl.state ≠ .start ∧ Reached .safeStop p s ∧ p.len = 1 ∧ reservedSet (p.w 0) 0xFFFFFE00 = false ∧ s.isl.state = .ready ∧ s.isl.params ≠ [] ∧ Tab.wf {} s.isl.pairs ∧ n ∈ pairs ∧ bit (p.w 0) 8 = false ∧ s.isl.mode n ≠ 0) ∧
    (∃ (p : Packet), ∃ (s : State), ∃ crc, crc = crc32 (p.params.take 69) ∧ s.isl.powered = true ∧ s.isl.state ≠ .start ∧ Reached .safeParamLoad p s ∧ p.len = 70 ∧ s.isl.state ≠ .fault ∧ crc ≠ p.w 69) ∧
    (∃ (p : Packet), ∃ (s : State), ∃ crc, crc = crc32 (p.params.take 69) ∧ crc = p.w 69 ∧ s.isl.powered = true ∧ s.isl.state ≠ .start ∧ Reached .safeParamLoad p s ∧ p.len = 70 ∧ s.isl.state ≠ .fault ∧ ((crc % 2 ^ 12 ≠ s.isl.swA / 16 ∨ crc % 2 ^ 12 ≠ s.isl.swB / 16))) ∧
    (∃ (p : Packet), ∃ (s : State), ∃ crc, crc = crc32 (p.params.take 69) ∧ crc = p.w 69 ∧ s.isl.powered = true ∧ s.isl.state ≠ .start ∧ Reached .safeParamLoad p s ∧ p.len = 70 ∧ s.isl.state ≠ .fault ∧ crc % 2 ^ 12 = s.isl.swA / 16 ∧ crc % 2 ^ 12 = s.isl.swB / 16 ∧ p.params = s.isl.params) ∧
    (∃ (p : Packet), ∃ (s : State), ∃ crc, ∃ i, crc = crc32 (p.params.take 69) ∧ crc = p.w 69 ∧ s.isl.powered = true ∧ s.isl.state ≠ .start ∧ Reached .safeParamLoad p s ∧ p.len = 70 ∧ s.isl.state ≠ .fault ∧ crc % 2 ^ 12 = s.isl.swA / 16 ∧ crc % 2 ^ 12 = s.isl.swB / 16 ∧ p.params ≠ s.isl.params ∧ paramBad p.w (field s.isl.swA 0 3) = some i) ∧
    (∃ (p : Packet), ∃ (s : State), ∃ crc, crc = crc32 (p.params.take 69) ∧ crc = p.w 69 ∧ s.isl.powered = true ∧ s.isl.state ≠ .start ∧ Reached .safeParamLoad p s ∧ p.len = 70 ∧ s.isl.state ≠ .fault ∧ crc % 2 ^ 12 = s.isl.swA / 16 ∧ crc % 2 ^ 12 = s.isl.swB / 16 ∧ p.params ≠ s.isl.params ∧ paramBad p.w (field s.isl.swA 0 3) = none ∧ ((∃ n < 8, (pairOf s n).state = .enabled ∨ (pairOf s n).state = .ss1))) ∧
    (∃ (p : Packet), ∃ (s : State), ∃ crc, crc = crc32 (p.params.take 69) ∧ crc = p.w 69 ∧ s.isl.powered = true ∧ s.isl.state ≠ .start ∧ Reached .safeParamLoad p s ∧ p.len = 70 ∧ s.isl.state ≠ .fault ∧ crc % 2 ^ 12 = s.isl.swA / 16 ∧ crc % 2 ^ 12 = s.isl.swB / 16 ∧ p.params ≠ s.isl.params ∧ paramBad p.w (field s.isl.swA 0 3) = none ∧ ((∀ n < 8, (pairOf s n).state ≠ .enabled ∧ (pairOf s n).state ≠ .ss1))) :=
  ⟨⟨islandLoad, (State.reset).modIsl fun u => { u with powered := false }, by decide +kernel⟩,
   ⟨pk [], State.reset, by decide +kernel⟩,
   ⟨pk [511], State.reset, by decide +kernel⟩,
   ⟨pk [511], State.reset, by decide +kernel⟩,
   ⟨pk [], (State.reset).modIsl fun u => { u with powered := true, state := .ready }, by decide +kernel⟩,
   ⟨pk [], (State.reset).modIsl fun u => { u with powered := true, state := .ready }, by decide +kernel⟩,
   ⟨pk [1], (State.reset).modIsl fun u => { u with powered := true, state := .ready }, by decide +kernel⟩,
   ⟨pk [69 + 2 ^ 7], (State.reset).modIsl fun u => { u with powered := true, state := .ready }, _, _, rfl, rfl, by decide +kernel⟩,
   ⟨pk [70 * 2 ^ 7], (State.reset).modIsl fun u => { u with powered := true, state := .ready, params := islandSet }, _, _, rfl, rfl, by decide +kernel⟩,
   ⟨pk [511], (State.reset).modIsl fun u => { u with powered := true, state := .ready, params := islandSet }, _, rfl, by decide +kernel⟩,
   ⟨pk [511], (State.reset).modIsl fun u => { u with powered := true, state := .ready, params := islandSet, pairs := [(7, { state := .enabled })] }, _, 7, rfl, by decide +kernel⟩,
   ⟨pk [255], (State.reset).modIsl fun u => { u with powered := true, state := .ready, params := List.replicate 47 0 ++ [2], pairs := [(7, { state := .enabled })] }, _, 7, rfl, by decide +kernel⟩,
   ⟨{ params := islandWords ++ [0] }, (State.reset).modIsl fun u => { u with powered := true, state := .ready }, 253713795, crc_islandWords.symm, by decide +kernel⟩,
   ⟨islandLoad, (State.reset).modIsl fun u => { u with powered := true, state := .ready }, 253713795, crc_islandWords.symm, rfl, by decide +kernel⟩,
   ⟨islandLoad, (island islandLoad).modIsl fun u => { u with params := islandSet }, 253713795, crc_islandWords.symm, rfl, by decide +kernel⟩,
   ⟨islandBad, island islandBad, 497742445, 68, crc_islandWrong.symm, rfl, by decide +kernel⟩,
   ⟨islandLoad, (island islandLoad).modIsl fun u => { u with pairs := [(7, { state := .ss1 })] }, 253713795, crc_islandWords.symm, rfl, by decide +kernel⟩,
   ⟨islandLoad, island islandLoad, 253713795, crc_islandWords.symm, rfl, by decide +kernel⟩⟩

theorem witness_PairCommands :
    (∃ (p : Packet), ∃ (s : State), ∃ lease, lease = field (p.w 0) 2 7 ∧ Reached .pairConfig p s ∧ p.len = 1 ∧ reservedSet (p.w 0) 0xFFFFF800 = false ∧ 1 ≤ lease ∧ lease ≤ 100 ∧ field (p.w 0) 9 2 ≠ 0 ∧ s.dev.mode ≠ .configure) ∧
    (∃ (p : Packet), ∃ (s : State), ∃ lease, lease = field (p.w 0) 2 7 ∧ Reached .pairConfig p s ∧ p.len = 1 ∧ reservedSet (p.w 0) 0xFFFFF800 = false ∧ 1 ≤ lease ∧ lease ≤ 100 ∧ field (p.w 0) 9 2 ≠ 0 ∧ s.dev.mode = .configure ∧ bit (p.w 0) 0 = true ∧ hasCycle s = true ∧ lease * 1000 < 2 * lDev s) ∧
    (∃ (p : Packet), ∃ (s : State), ∃ lease, lease = field (p.w 0) 2 7 ∧ Reached .pairConfig p s ∧ p.len = 1 ∧ reservedSet (p.w 0) 0xFFFFF800 = false ∧ 1 ≤ lease ∧ lease ≤ 100 ∧ field (p.w 0) 9 2 ≠ 0 ∧ s.dev.mode = .configure ∧ bit (p.w 0) 0 = true ∧ ((hasCycle s = false ∨ 2 * lDev s ≤ lease * 1000)) ∧ s.pair.role.holds = true ∧ bit (p.w 0) 1 ≠ s.pair.half1) ∧
    (∃ (p : Packet), ∃ (s : State), ∃ lease, lease = field (p.w 0) 2 7 ∧ Reached .pairConfig p s ∧ p.len = 1 ∧ reservedSet (p.w 0) 0xFFFFF800 = false ∧ 1 ≤ lease ∧ lease ≤ 100 ∧ field (p.w 0) 9 2 ≠ 0 ∧ s.dev.mode = .configure ∧ bit (p.w 0) 0 = false) ∧
    (∃ (p : Packet), ∃ (s : State), ∃ lease, lease = field (p.w 0) 2 7 ∧ Reached .pairConfig p s ∧ p.len = 1 ∧ reservedSet (p.w 0) 0xFFFFF800 = false ∧ 1 ≤ lease ∧ lease ≤ 100 ∧ field (p.w 0) 9 2 ≠ 0 ∧ s.dev.mode = .configure ∧ bit (p.w 0) 0 = true ∧ ((hasCycle s = false ∨ 2 * lDev s ≤ lease * 1000)) ∧ s.pair.role.holds = false) ∧
    (∃ (p : Packet), ∃ (s : State), ∃ lease, lease = field (p.w 0) 2 7 ∧ Reached .pairConfig p s ∧ p.len = 1 ∧ reservedSet (p.w 0) 0xFFFFF800 = false ∧ 1 ≤ lease ∧ lease ≤ 100 ∧ field (p.w 0) 9 2 ≠ 0 ∧ s.dev.mode = .configure ∧ bit (p.w 0) 0 = true ∧ ((hasCycle s = false ∨ 2 * lDev s ≤ lease * 1000)) ∧ s.pair.role.holds = true ∧ bit (p.w 0) 1 = s.pair.half1) ∧
    (∃ (p : Packet), ∃ (s : State), Reached .pairHandover p s ∧ p.len = 0 ∧ (s.dev.mode = .configure ∨ s.dev.mode = .safe ∨ s.dev.mode = .graze)) ∧
    (∃ (p : Packet), ∃ (s : State), Reached .pairHandover p s ∧ p.len = 0 ∧ (s.dev.mode = .ready ∨ s.dev.mode = .run ∨ s.dev.mode = .hold) ∧ s.pair.role.holds = false) ∧
    (∃ (p : Packet), ∃ (s : State), Reached .pairHandover p s ∧ p.len = 0 ∧ (s.dev.mode = .ready ∨ s.dev.mode = .run ∨ s.dev.mode = .hold) ∧ s.pair.role.holds = true ∧ (s.pair.role ≠ .active ∨ s.pair.peerStandby = false)) ∧
    (∃ (p : Packet), ∃ (s : State), Reached .pairHandover p s ∧ p.len = 0 ∧ (s.dev.mode = .ready ∨ s.dev.mode = .run ∨ s.dev.mode = .hold) ∧ s.pair.role = .active ∧ s.pair.peerStandby = true ∧ s.pair.giveUp = none) ∧
    (∃ (p : Packet), ∃ (s : State), ∃ n, Reached .pairCheckpointConfig p s ∧ p.w 0 = n ∧ n ≤ 8 ∧ p.len = 1 + 2 * n ∧ ((∃ r ∈ rangesOf p, rangeOk r = false))) ∧
    (∃ (p : Packet), ∃ (s : State), ∃ n, Reached .pairCheckpointConfig p s ∧ p.w 0 = n ∧ n ≤ 8 ∧ p.len = 1 + 2 * n ∧ ((∀ r ∈ rangesOf p, rangeOk r = true)) ∧ s.dev.mode ≠ .configure ∧ s.dev.mode ≠ .ready) ∧
    (∃ (p : Packet), ∃ (s : State), ∃ n, Reached .pairCheckpointConfig p s ∧ p.w 0 = n ∧ n ≤ 8 ∧ p.len = 1 + 2 * n ∧ ((∀ r ∈ rangesOf p, rangeOk r = true)) ∧ (s.dev.mode = .configure ∨ s.dev.mode = .ready)) ∧
    (∃ (p : Packet), ∃ (s : State), Reached .pairStandbyCheck p s ∧ p.len = 0 ∧ (s.pair.role ≠ .active ∨ s.pair.peerStandby = false)) ∧
    (∃ (p : Packet), ∃ (s : State), Reached .pairStandbyCheck p s ∧ p.len = 0 ∧ s.pair.role = .active ∧ s.pair.peerStandby = true) :=
  ⟨⟨pk [1 + 100 * 4 + 3 * 2 ^ 9], inMode .ready, _, rfl, by decide +kernel⟩,
   ⟨pk [1 + 4 + 2 ^ 9], (cyclic .configure).modDrove fun d => { d with cfg := { d.cfg with cycleUs := 501 } }, _, rfl, by decide +kernel⟩,
   ⟨pk [3 + 4 + 2 ^ 9], (State.reset).modPair fun u => { u with role := .alone }, _, rfl, by decide +kernel⟩,
   ⟨pk [4 + 2 ^ 9], State.reset, _, rfl, by decide +kernel⟩,
   ⟨pk [3 + 4 + 2 ^ 9], State.reset, _, rfl, by decide +kernel⟩,
   ⟨pk [1 + 100 * 4 + 2 ^ 9], (State.reset).modPair fun u => { u with role := .active }, _, rfl, by decide +kernel⟩,
   ⟨pk [], inMode .safe, by decide +kernel⟩,
   ⟨pk [], inMode .ready, by decide +kernel⟩,
   ⟨pk [], (inMode .run).modPair fun u => { u with role := .alone, peerStandby := true }, by decide +kernel⟩,
   ⟨pk [], (inMode .hold).modPair fun u => { u with role := .active, peerStandby := true }, by decide +kernel⟩,
   ⟨pk [8, 0x007FFFC0, 64, 0, 64, 0, 64, 0, 64, 0, 64, 0, 64, 0, 64, 8388545, 64], State.reset, 8, by decide +kernel⟩,
   ⟨pk [8, 0x007FFFC0, 64, 0, 64, 0, 64, 0, 64, 0, 64, 0, 64, 0, 64, 0, 64], inMode .run, 8, by decide +kernel⟩,
   ⟨pk [8, 0x007FFFC0, 64, 0, 64, 0, 64, 0, 64, 0, 64, 0, 64, 0, 64, 0, 64], State.reset, 8, by decide +kernel⟩,
   ⟨pk [], (State.reset).modPair fun u => { u with role := .alone, peerStandby := true }, by decide +kernel⟩,
   ⟨pk [], (State.reset).modPair fun u => { u with role := .active, peerStandby := true }, by decide +kernel⟩⟩

theorem witness_HostRings :
    (∃ (p : Packet), ∃ (s : State), ∃ (n : Nat), ∃ kind, ∃ log2, ∃ tr, ∃ base, ∃ shadow, n = field (p.w 0) 0 6 ∧ kind = field (p.w 0) 6 2 ∧ log2 = field (p.w 0) 8 4 ∧ tr = field (p.w 0) 12 2 ∧ base = p.w 1 + place 32 (p.w 2) ∧ shadow = p.w 3 + place 32 (p.w 4) ∧ Tab.wf {} s.host.rings ∧ Reached .hostRingCreate p s ∧ p.len = 6 ∧ 2 ≤ n ∧ 4 ≤ log2 ∧ log2 ≤ 12 ∧ tr ≠ 3 ∧ pairedOk s kind tr (field (p.w 0) 14 6) = true ∧ ((kind = 3 → tr ≠ 2)) ∧ reservedSet (p.w 0) 0xF8000000 = false ∧ p.w 5 < 256 ∧ (ringOf s n).state ≠ .absent) ∧
    (∃ (p : Packet), ∃ (s : State), ∃ (n : Nat), ∃ kind, ∃ log2, ∃ tr, ∃ base, ∃ shadow, n = field (p.w 0) 0 6 ∧ kind = field (p.w 0) 6 2 ∧ log2 = field (p.w 0) 8 4 ∧ tr = field (p.w 0) 12 2 ∧ base = p.w 1 + place 32 (p.w 2) ∧ shadow = p.w 3 + place 32 (p.w 4) ∧ Tab.wf {} s.host.rings ∧ Reached .hostRingCreate p s ∧ p.len = 6 ∧ 2 ≤ n ∧ 4 ≤ log2 ∧ log2 ≤ 12 ∧ tr ≠ 3 ∧ pairedOk s kind tr (field (p.w 0) 14 6) = true ∧ ((kind = 3 → tr ≠ 2)) ∧ reservedSet (p.w 0) 0xF8000000 = false ∧ p.w 5 < 256 ∧ (ringOf s n).state = .absent ∧ (baseOk tr base log2 = false ∨ shadow % 4 ≠ 0)) ∧
    (∃ (p : Packet), ∃ (s : State), ∃ (n : Nat), ∃ kind, ∃ log2, ∃ tr, ∃ base, ∃ shadow, n = field (p.w 0) 0 6 ∧ kind = field (p.w 0) 6 2 ∧ log2 = field (p.w 0) 8 4 ∧ tr = field (p.w 0) 12 2 ∧ base = p.w 1 + place 32 (p.w 2) ∧ shadow = p.w 3 + place 32 (p.w 4) ∧ Tab.wf {} s.host.rings ∧ Reached .hostRingCreate p s ∧ p.len = 6 ∧ 2 ≤ n ∧ 4 ≤ log2 ∧ log2 ≤ 12 ∧ tr ≠ 3 ∧ pairedOk s kind tr (field (p.w 0) 14 6) = true ∧ ((kind = 3 → tr ≠ 2)) ∧ reservedSet (p.w 0) 0xF8000000 = false ∧ p.w 5 < 256 ∧ (ringOf s n).state = .absent ∧ baseOk tr base log2 = true ∧ shadow % 4 = 0 ∧ transportEnabled s tr = false) ∧
    (∃ (p : Packet), ∃ (s : State), ∃ (n : Nat), ∃ kind, ∃ log2, ∃ tr, ∃ base, ∃ shadow, n = field (p.w 0) 0 6 ∧ kind = field (p.w 0) 6 2 ∧ log2 = field (p.w 0) 8 4 ∧ tr = field (p.w 0) 12 2 ∧ base = p.w 1 + place 32 (p.w 2) ∧ shadow = p.w 3 + place 32 (p.w 4) ∧ Tab.wf {} s.host.rings ∧ Reached .hostRingCreate p s ∧ p.len = 6 ∧ 2 ≤ n ∧ 4 ≤ log2 ∧ log2 ≤ 12 ∧ tr ≠ 3 ∧ pairedOk s kind tr (field (p.w 0) 14 6) = true ∧ ((kind = 3 → tr ≠ 2)) ∧ reservedSet (p.w 0) 0xF8000000 = false ∧ p.w 5 < 256 ∧ (ringOf s n).state = .absent ∧ baseOk tr base log2 = true ∧ shadow % 4 = 0 ∧ transportEnabled s tr = true) ∧
    (∃ (p : Packet), ∃ (s : State), ∃ (n : Nat), n = field (p.w 0) 0 6 ∧ Tab.wf {} s.host.rings ∧ Reached .hostRingDestroy p s ∧ p.len = 1 ∧ p.w 0 = n ∧ (n < 2 ∨ (ringOf s n).state = .absent) ∧ n < 64) ∧
    (∃ (p : Packet), ∃ (s : State), ∃ (n : Nat), n = field (p.w 0) 0 6 ∧ Tab.wf {} s.host.rings ∧ Reached .hostRingDestroy p s ∧ p.len = 1 ∧ p.w 0 = n ∧ 2 ≤ n ∧ n < 64 ∧ (ringOf s n).state ≠ .absent ∧ ((∃ e ∈ s.host.rings, e.2.kind = 0 ∧ e.2.state ≠ .absent ∧ e.2.paired = n) ∨ streamsTo s n = true)) ∧
    (∃ (p : Packet), ∃ (s : State), ∃ (n : Nat), n = field (p.w 0) 0 6 ∧ Tab.wf {} s.host.rings ∧ Reached .hostRingDestroy p s ∧ p.len = 1 ∧ p.w 0 = n ∧ 2 ≤ n ∧ n < 64 ∧ (ringOf s n).state ≠ .absent ∧ ((∀ e ∈ s.host.rings, e.2.kind = 0 → e.2.state ≠ .absent → e.2.paired ≠ n)) ∧ streamsTo s n = false) ∧
    (∃ (p : Packet), ∃ (s : State), ∃ (n : Nat), n = field (p.w 0) 0 6 ∧ Tab.wf {} s.host.rings ∧ Reached .hostEventRoute p s ∧ p.len = 2 ∧ reservedSet (p.w 0) 0xFFFFFC00 = false ∧ reservedSet (p.w 1) 0xFFFE0000 = false ∧ ((ringOf s n).state = .absent ∨ (ringOf s n).kind ≠ 2)) ∧
    (∃ (p : Packet), ∃ (s : State), ∃ (n : Nat), n = field (p.w 0) 0 6 ∧ Tab.wf {} s.host.rings ∧ Reached .hostEventRoute p s ∧ p.len = 2 ∧ reservedSet (p.w 0) 0xFFFFFC00 = false ∧ reservedSet (p.w 1) 0xFFFE0000 = false ∧ (ringOf s n).state ≠ .absent ∧ (ringOf s n).kind = 2) :=
  ⟨⟨pk [63 + 2 * 2 ^ 6 + 12 * 2 ^ 8 + 0 * 2 ^ 12, 0x1000, 0, 4, 0, 255], ringIn 63 { state := .disabled } (State.reset), _, _, _, _, _, _, rfl, rfl, rfl, rfl, rfl, rfl, by decide +kernel⟩,
   ⟨pk [63 + 2 * 2 ^ 6 + 12 * 2 ^ 8 + 0 * 2 ^ 12, 0x1000, 0, 2, 0, 255], State.reset, _, _, _, _, _, _, rfl, rfl, rfl, rfl, rfl, rfl, by decide +kernel⟩,
   ⟨pk [63 + 2 * 2 ^ 6 + 12 * 2 ^ 8 + 1 * 2 ^ 12, 0x1000, 0, 4, 0, 255], State.reset, _, _, _, _, _, _, rfl, rfl, rfl, rfl, rfl, rfl, by decide +kernel⟩,
   ⟨pk [63 + 2 * 2 ^ 6 + 4 * 2 ^ 8 + 0 * 2 ^ 12, 0x1000, 0, 4, 0, 255], State.reset, _, _, _, _, _, _, rfl, rfl, rfl, rfl, rfl, rfl, by decide +kernel⟩,
   ⟨pk [1], State.reset, _, rfl, by decide +kernel⟩,
   ⟨pk [63], ringIn 62 { kind := 0, state := .active, paired := 63 } (ringIn 63 { kind := 1, state := .active } (State.reset)), _, rfl, by decide +kernel⟩,
   ⟨pk [63], ringIn 63 { kind := 1, state := .active } (State.reset), _, rfl, by decide +kernel⟩,
   ⟨pk [63 + 3 * 2 ^ 6 + 2 ^ 8 + 2 ^ 9, 0x1FFFF], State.reset, _, rfl, by decide +kernel⟩,
   ⟨pk [63, 0x1FFFF], ringIn 63 { kind := 2, state := .active } (State.reset), _, rfl, by decide +kernel⟩⟩

theorem witness_HostRegisters :
    (∃ (n : Nat), ∃ (v : Nat), ∃ (t : Nat), ∃ (s : State), ∃ (u : State), u = s.at t ∧ n < 64 ∧ (ringOf u n).state = .active ∧ (ringOf u n).kind = 0 ∧ (cycDiff v (ringOf u n).prod < 0 ∨ 2 ^ (ringOf u n).log2 < (v + 2 ^ 32 - (ringOf u n).cons) % 2 ^ 32)) ∧
    (∃ (n : Nat), ∃ (v : Nat), ∃ (t : Nat), ∃ (s : State), ∃ (u : State), u = s.at t ∧ n < 64 ∧ (ringOf u n).state = .active ∧ (ringOf u n).kind = 0 ∧ 0 ≤ cycDiff v (ringOf u n).prod ∧ (v + 2 ^ 32 - (ringOf u n).cons) % 2 ^ 32 ≤ 2 ^ (ringOf u n).log2) ∧
    (∃ (n : Nat), ∃ (v : Nat), ∃ (t : Nat), ∃ (s : State), ∃ (u : State), u = s.at t ∧ n < 64 ∧ (ringOf u n).state = .active ∧ (ringOf u n).kind ≠ 0 ∧ Tab.wf {} u.host.rings ∧ (cycDiff v (ringOf u n).cons < 0 ∨ 2 ^ (ringOf u n).log2 < ((ringOf u n).prod + 2 ^ 32 - v % 2 ^ 32) % 2 ^ 32)) ∧
    (∃ (n : Nat), ∃ (v : Nat), ∃ (t : Nat), ∃ (s : State), ∃ (u : State), u = s.at t ∧ n < 64 ∧ (ringOf u n).state = .active ∧ (ringOf u n).kind ≠ 0 ∧ Tab.wf {} u.host.rings ∧ 0 ≤ cycDiff v (ringOf u n).cons ∧ ((ringOf u n).prod + 2 ^ 32 - v % 2 ^ 32) % 2 ^ 32 ≤ 2 ^ (ringOf u n).log2) ∧
    (∃ (n : Nat), ∃ (t : Nat), ∃ (s : State), ∃ (u : State), u = s.at t ∧ n < 2 ∧ (ringOf u n).transport ≠ 3 ∧ (ringOf u n).state = .disabled) ∧
    (∃ (n : Nat), ∃ (t : Nat), ∃ (s : State), ∃ (u : State), u = s.at t ∧ 2 ≤ n ∧ n < 64) ∧
    (∃ (n : Nat), ∃ (t : Nat), ∃ (s : State), ∃ (u : State), u = s.at t ∧ n < 64 ∧ Tab.wf {} u.host.rings ∧ (ringOf u n).state ≠ .absent) ∧
    (∃ (n : Nat), ∃ (t : Nat), ∃ (s : State), ∃ (u : State), u = s.at t ∧ n < 64 ∧ (ringOf u n).irqDelayed = true ∧ holdoffOver (ringOf u n) u.now = true) ∧
    (∃ (n : Nat), ∃ (t : Nat), ∃ (s : State), ∃ (u : State), u = s.at t ∧ n < 64 ∧ (ringOf u n).irqDelayed = false) ∧
    (∃ (n : Nat), ∃ (t : Nat), ∃ (s : State), ∃ (u : State), u = s.at t ∧ n < 64 ∧ Tab.wf {} u.host.rings ∧ ((∀ w ∈ u.host.waiting, w.ring ≠ n))) ∧
    (∃ (n : Nat), ∃ (t : Nat), ∃ (s : State), ∃ (u : State), ∃ w, ∃ rest, u = s.at t ∧ n < 64 ∧ Tab.wf {} u.host.rings ∧ u.host.waiting = w :: rest ∧ w.ring = n ∧ w.frees = none ∧ (ringOf u n).state = .active ∧ (ringOf u n).kind ≠ 0 ∧ slotsOf w.words.length ≤ 2 ^ (ringOf u n).log2 - (ringOf u n).occupied) ∧
    (∃ (t : Nat), ∃ (s : State), ∃ (u : State), u = s.at t ∧ u.boot.pcieTraining = true ∧ (u.boot.phase = .running ∨ u.boot.phase = .pinReset ∨ u.boot.phase = .logicReset)) ∧
    (∃ (t : Nat), ∃ (s : State), ∃ (u : State), u = s.at t ∧ u.boot.pcieTraining = true ∧ u.boot.phase ≠ .running ∧ u.boot.phase ≠ .pinReset ∧ u.boot.phase ≠ .logicReset) :=
  ⟨⟨63, 0xFFFFFFFF, 0, ringIn 63 { kind := 0, state := .active, log2 := 4 } (State.reset), _, rfl, by decide +kernel⟩,
   ⟨63, 16, 0, ringIn 63 { kind := 0, state := .active, log2 := 4 } (State.reset), _, rfl, by decide +kernel⟩,
   ⟨63, 1, 0, ringIn 63 { kind := 2, state := .active, log2 := 4, prod := 18 } (State.reset), _, rfl, by decide +kernel⟩,
   ⟨63, 16, 0, ringIn 63 { kind := 2, state := .active, log2 := 4, prod := 16 } (State.reset), _, rfl, by decide +kernel⟩,
   ⟨1, 0, State.reset, _, rfl, by decide +kernel⟩,
   ⟨2, 0, State.reset, _, rfl, by decide +kernel⟩,
   ⟨63, 0, ringIn 63 { state := .disabled } (State.reset), _, rfl, by decide +kernel⟩,
   ⟨63, 0, ringIn 63 { irqDelayed := true } (State.reset), _, rfl, by decide +kernel⟩,
   ⟨63, 0, State.reset, _, rfl, by decide +kernel⟩,
   ⟨63, 0, State.reset, _, rfl, by decide +kernel⟩,
   ⟨63, 0, (ringIn 63 { state := .active, kind := 3, log2 := 4 } (State.reset)).modHost fun h => { h with waiting := [{ ring := 63, words := [1] }] }, _, { ring := 63, words := [1] }, [], rfl, by decide +kernel⟩,
   ⟨0, State.reset.modBoot fun b => { b with pcieTraining := true }, _, rfl, by decide +kernel⟩,
   ⟨0, State.reset.modBoot fun b => { b with pcieTraining := true, phase := .cleared }, _, rfl, by decide +kernel⟩⟩

theorem witness_PacketsOnTheirWay :
    (∃ (n : Nat), ∃ (t : Nat), ∃ (s : State), ∃ (u : State), ∃ r, u = s.at t ∧ r = ringOf u n ∧ servesCommands u = true ∧ n < 64 ∧ r.kind = 0 ∧ r.state = .active ∧ r.destroying = false ∧ r.prod ≠ r.cons ∧ lacksRoom u r.paired = true) ∧
    (∃ (n : Nat), ∃ (t : Nat), ∃ (s : State), ∃ (u : State), ∃ given, ∃ r, ∃ x, ∃ (ws : List Word), u = s.at t ∧ r = ringOf u n ∧ x = u.modRing n (fun r => { r with stalled := false }) ∧ ws = ringPacket x r given ∧ servesCommands u = true ∧ n < 64 ∧ r.kind = 0 ∧ r.state = .active ∧ r.destroying = false ∧ r.prod ≠ r.cons ∧ lacksRoom u r.paired = false ∧ (4092 < lengthOf ws ∨ 2 ^ r.log2 < slotsOf ws.length)) ∧
    (∃ (n : Nat), ∃ (t : Nat), ∃ (s : State), ∃ (u : State), ∃ given, ∃ r, ∃ x, ∃ (ws : List Word), u = s.at t ∧ r = ringOf u n ∧ x = u.modRing n (fun r => { r with stalled := false }) ∧ ws = ringPacket x r given ∧ servesCommands u = true ∧ n < 64 ∧ r.kind = 0 ∧ r.state = .active ∧ r.destroying = false ∧ r.prod ≠ r.cons ∧ lacksRoom u r.paired = false ∧ lengthOf ws ≤ 4092 ∧ slotsOf ws.length ≤ 2 ^ r.log2 ∧ fenced x n (orderedBit ws) = true) ∧
    (∃ (n : Nat), ∃ (t : Nat), ∃ (s : State), ∃ (u : State), ∃ given, ∃ r, ∃ x, ∃ (ws : List Word), ∃ y, u = s.at t ∧ r = ringOf u n ∧ x = u.modRing n (fun r => { r with stalled := false }) ∧ ws = ringPacket x r given ∧ y = consume n (slotsOf ws.length) x ∧ servesCommands u = true ∧ n < 64 ∧ r.kind = 0 ∧ r.state = .active ∧ r.destroying = false ∧ r.prod ≠ r.cons ∧ lacksRoom u r.paired = false ∧ lengthOf ws ≤ 4092 ∧ slotsOf ws.length ≤ 2 ^ r.log2 ∧ slotsOf ws.length ≤ r.occupied ∧ fenced x n (orderedBit ws) = false ∧ versionOk ws = false) ∧
    (∃ (n : Nat), ∃ (t : Nat), ∃ (s : State), ∃ (u : State), ∃ given, ∃ r, ∃ x, ∃ (ws : List Word), ∃ y, u = s.at t ∧ r = ringOf u n ∧ x = u.modRing n (fun r => { r with stalled := false }) ∧ ws = ringPacket x r given ∧ y = consume n (slotsOf ws.length) x ∧ servesCommands u = true ∧ n < 64 ∧ r.kind = 0 ∧ r.state = .active ∧ r.destroying = false ∧ r.prod ≠ r.cons ∧ lacksRoom u r.paired = false ∧ lengthOf ws ≤ 4092 ∧ slotsOf ws.length ≤ 2 ^ r.log2 ∧ slotsOf ws.length ≤ r.occupied ∧ fenced x n (orderedBit ws) = false ∧ versionOk ws = true ∧ headerBad ws = true) ∧
    (∃ (n : Nat), ∃ (t : Nat), ∃ (s : State), ∃ (u : State), ∃ given, ∃ r, ∃ x, ∃ (ws : List Word), ∃ y, ∃ (op : Op), u = s.at t ∧ r = ringOf u n ∧ x = u.modRing n (fun r => { r with stalled := false }) ∧ ws = ringPacket x r given ∧ y = consume n (slotsOf ws.length) x ∧ servesCommands u = true ∧ n < 64 ∧ r.kind = 0 ∧ r.state = .active ∧ r.destroying = false ∧ r.prod ≠ r.cons ∧ lacksRoom u r.paired = false ∧ lengthOf ws ≤ 4092 ∧ slotsOf ws.length ≤ 2 ^ r.log2 ∧ slotsOf ws.length ≤ r.occupied ∧ fenced x n (orderedBit ws) = false ∧ versionOk ws = true ∧ headerBad ws = false ∧ forwardBit ws = false ∧ targetOf ws = y.drove.devAddr ∧ Op.ofCode (opcodeOf ws) = some op) ∧
    (∃ (n : Nat), ∃ (t : Nat), ∃ (s : State), ∃ (u : State), ∃ given, ∃ r, ∃ x, ∃ (ws : List Word), ∃ y, u = s.at t ∧ r = ringOf u n ∧ x = u.modRing n (fun r => { r with stalled := false }) ∧ ws = ringPacket x r given ∧ y = consume n (slotsOf ws.length) x ∧ servesCommands u = true ∧ n < 64 ∧ r.kind = 0 ∧ r.state = .active ∧ r.destroying = false ∧ r.prod ≠ r.cons ∧ lacksRoom u r.paired = false ∧ lengthOf ws ≤ 4092 ∧ slotsOf ws.length ≤ 2 ^ r.log2 ∧ slotsOf ws.length ≤ r.occupied ∧ fenced x n (orderedBit ws) = false ∧ versionOk ws = true ∧ headerBad ws = false ∧ forwardBit ws = false ∧ targetOf ws = y.drove.devAddr ∧ Op.ofCode (opcodeOf ws) = none) ∧
    (∃ (n : Nat), ∃ (t : Nat), ∃ (s : State), ∃ (u : State), ∃ via, ∃ ip, ∃ (ws : List Word), u = s.at t ∧ servesCommands u = true ∧ n < 64 ∧ via < 2 ∧ (portOf u via).enable = true ∧ (portOf u via).linkUp = true ∧ ws.length ≤ 368 ∧ u.net.udpEnabled = true ∧ bit u.net.udpPorts via = true ∧ allowedSource u ip = false) ∧
    (∃ (n : Nat), ∃ (t : Nat), ∃ (s : State), ∃ (u : State), ∃ via, ∃ ip, ∃ port, ∃ (ws : List Word), u = s.at t ∧ servesCommands u = true ∧ n < 64 ∧ via < 2 ∧ (portOf u via).enable = true ∧ (portOf u via).linkUp = true ∧ ws.length ≤ 368 ∧ u.net.udpEnabled = true ∧ bit u.net.udpPorts via = true ∧ allowedSource u ip = true ∧ (ringOf u n).kind = 0 ∧ (ringOf u n).transport = 2 ∧ (ringOf u n).state = .active ∧ 5 ≤ ws.length ∧ ws.length = 5 + lengthOf ws ∧ replyMost ws ≤ 363 ∧ ((∀ k ∈ u.host.kept, k.ring = n → k.ip = ip → k.port = port → k.tag ≠ ws.getD 1 0)) ∧ slotsOf ws.length ≤ 2 ^ (ringOf u n).log2 - (ringOf u n).occupied ∧ Tab.wf {} u.host.rings) ∧
    (∃ (n : Nat), ∃ (t : Nat), ∃ (s : State), ∃ (u : State), ∃ via, u = s.at t ∧ servesCommands u = true ∧ n < 64 ∧ via < 2 ∧ (portOf u via).enable = true ∧ (portOf u via).linkUp = true ∧ (portOf u via).ipv4 ≠ 0 ∧ (portOf u via).mac ≠ 0) ∧
    (∃ (n : Nat), ∃ (t : Nat), ∃ (s : State), ∃ (u : State), ∃ via, ∃ ip, u = s.at t ∧ servesCommands u = true ∧ n < 64 ∧ via < 2 ∧ (portOf u via).enable = true ∧ (portOf u via).linkUp = true ∧ (portOf u via).ipv4 ≠ ip) ∧
    (∃ (t : Nat), ∃ (s : State), ∃ (u : State), u = s.at t ∧ servesCommands u = true ∧ hasCycle u = true ∧ u.cyc.startOf = some (cycleTick u)) ∧
    (∃ (t : Nat), ∃ (s : State), ∃ (u : State), u = s.at t ∧ servesCommands u = true ∧ hasCycle u = false) ∧
    (∃ (t : Nat), ∃ (s : State), ∃ (u : State), u = s.at t ∧ servesCommands u = true ∧ silentHalf u = true) ∧
    (∃ (t : Nat), ∃ (s : State), ∃ (u : State), ∃ e, ∃ rest, u = s.at t ∧ servesCommands u = true ∧ silentHalf u = false ∧ Tab.wf {} u.drove.members ∧ u.drove.fwd = e :: rest ∧ e.sent = false ∧ 0 < cycDiff (devCycle u) e.cycle) ∧
    (∃ (t : Nat), ∃ (s : State), ∃ (u : State), u = s.at t ∧ ((∀ m, ∀ e ∈ (memberOf u m).peer.sent, unanswered u false e = false)) ∧ servesCommands u = true) ∧
    (∃ (t : Nat), ∃ (s : State), ∃ (u : State), ∃ m, ∃ e, u = s.at t ∧ servesCommands u = true ∧ u.drove.members.map (·.1) = [m] ∧ Tab.wf {} u.drove.members ∧ (memberOf u m).peer.sent = [e] ∧ unanswered u false e = true) ∧
    (∃ (t : Nat), ∃ (s : State), ∃ (u : State), ∃ m, ∃ e, ∃ g, u = s.at t ∧ servesCommands u = true ∧ u.drove.members.map (·.1) = [m] ∧ Tab.wf {} u.drove.members ∧ (memberOf u m).peer.sent = [e] ∧ unanswered u true e = true ∧ u.drove.fwd = [g] ∧ g.carried m e = true) ∧
    (∃ (t : Nat), ∃ (s : State), ∃ (u : State), u = s.at t ∧ servesCommands u = true ∧ u.pair.role ≠ .standby) ∧
    (∃ (t : Nat), ∃ (s : State), ∃ (u : State), ∃ (ws : List Word), ∃ (op : Op), ∃ x, u = s.at t ∧ bodyOf op { origin := .mirror, tag := ws.getD 1 0, params := ws.drop 2 } u = (x, .done stOk []) ∧ servesCommands u = true ∧ u.pair.role = .standby ∧ Op.ofCode (headWord ws 0) = some op ∧ unitFailed u op = false) ∧
    (∃ (t : Nat), ∃ (s : State), ∃ (u : State), ∃ (i : Nat), ∃ (d : Deferred), u = s.at t ∧ servesCommands u = true ∧ u.host.deferred[i]? = some d ∧ d.op = .memFill) ∧
    (∃ (t : Nat), ∃ (s : State), ∃ (u : State), ∃ (i : Nat), u = s.at t ∧ servesCommands u = true ∧ u.host.deferred.length ≤ i) :=
  ⟨⟨63, 0, ringIn 62 {} (queued 4), _, _, rfl, rfl, by decide +kernel⟩,
   ⟨63, 0, queued 0, _, [2 ^ 24, 0, 12], _, _, _, rfl, rfl, rfl, rfl, by decide +kernel⟩,
   ⟨63, 0, (queued 4).modHost fun u => { u with deferred := [{ op := .memFill, packet := { origin := .ring 63, ordered := true } }] }, _, [2 ^ 24, 0, 0], _, _, _, rfl, rfl, rfl, rfl, by decide +kernel⟩,
   ⟨63, 0, queued 4, _, [2 ^ 25, 0, 0], _, _, _, _, rfl, rfl, rfl, rfl, rfl, by decide +kernel⟩,
   ⟨63, 0, queued 4, _, [wd (2 ^ 24 + Op.devStatus.code), 0, 2 ^ 16], _, _, _, _, rfl, rfl, rfl, rfl, rfl, by decide +kernel⟩,
   ⟨63, 0, queued 4, _, [wd (2 ^ 24 + Op.devStatus.code), 0, 1, 0, 0, 7], _, _, _, _, .devStatus, rfl, rfl, rfl, rfl, rfl, by decide +kernel⟩,
   ⟨63, 0, queued 4, _, [2 ^ 24 + 65535, 0, 0], _, _, _, _, rfl, rfl, rfl, rfl, rfl, by decide +kernel⟩,
   ⟨63, 0, (onUdp 1).modNet fun u => { u with allow := [] }, _, 1, 0xFFFFFFFF, [], rfl, by decide +kernel⟩,
   ⟨63, 0, onUdp 1, _, 1, 0xFFFFFFFF, 7, [wd (2 ^ 24 + Op.devStatus.code), 0, 0, 0, 0], rfl, by decide +kernel⟩,
   ⟨63, 0, onUdp 1, _, 1, rfl, by decide +kernel⟩,
   ⟨63, 0, onUdp 1, _, 1, 2, rfl, by decide +kernel⟩,
   ⟨0, (cyclic .run).modCyc fun c => { c with startOf := some 18 }, _, rfl, by decide +kernel⟩,
   ⟨0, State.reset, _, rfl, by decide +kernel⟩,
   ⟨0, (State.reset).modPair fun u => { u with role := .standby }, _, rfl, by decide +kernel⟩,
   ⟨0, (cyclic .run).modDrove fun d => { d with fwd := [{ origin := .ring 0, words := [2 ^ 24], member := 63, cycle := 0 }] }, _, { origin := .ring 0, words := [2 ^ 24], member := 63, cycle := 0 }, [], rfl, by decide +kernel⟩,
   ⟨0, State.reset, _, rfl, fun _ _ h => (none_sent h).elim, by decide +kernel⟩,
   ⟨0, sending false, _, 63, sentTo false, rfl, by decide +kernel⟩,
   ⟨0, (sending true).modDrove fun d => { d with fwd := [{ origin := .ring 0, words := [2 ^ 24], member := 63, cycle := 0, sent := true }] }, _, 63, sentTo true, { origin := .ring 0, words := [2 ^ 24], member := 63, cycle := 0, sent := true }, rfl, by decide +kernel⟩,
   ⟨0, (State.reset).modPair fun u => { u with role := .active }, _, rfl, by decide +kernel⟩,
   ⟨0, (State.reset).modPair fun u => { u with role := .standby }, _, [wd Op.memScrubConfig.code, 0, 3600, 65535], .memScrubConfig, (bodyOf .memScrubConfig { origin := .mirror, tag := 0, params := [3600, 65535] } (((State.reset).modPair fun u => { u with role := .standby }).at 0)).1, rfl, Prod.ext (by decide +kernel) (by decide +kernel), by decide +kernel⟩,
   ⟨0, (State.reset).modHost fun u => { u with deferred := [{ op := .memFill, packet := {} }] }, _, 0, { op := .memFill, packet := {} }, rfl, by decide +kernel⟩,
   ⟨0, State.reset, _, 0, rfl, by decide +kernel⟩⟩

theorem witness_MemoryAndSerialAccesses :
    (∃ (t : Nat), ∃ (s : State), ∃ (u : State), ∃ a, ∃ n, u = s.at t ∧ Canonical u ∧ u.boot.phase = .running ∧ u.boot.hostSel = 0 ∧ domainFailed u 1 = false ∧ domainFailed u 3 = false ∧ 1 ≤ n ∧ n ≤ 64 ∧ a + n ≤ 0x02000000 ∧ formOk a n = true ∧ poisonBlocks u a n true = none) ∧
    (∃ (t : Nat), ∃ (s : State), ∃ (u : State), ∃ a, ∃ n, u = s.at t ∧ Canonical u ∧ u.boot.phase = .running ∧ u.boot.hostSel = 0 ∧ domainFailed u 1 = false ∧ domainFailed u 3 = false ∧ 1 ≤ n ∧ n ≤ 64 ∧ a + n ≤ 0x02000000 ∧ formOk a n = false) ∧
    (∃ (t : Nat), ∃ (s : State), ∃ (u : State), ∃ a, ∃ n, u = s.at t ∧ Canonical u ∧ u.boot.phase = .running ∧ u.boot.hostSel = 0 ∧ domainFailed u 1 = false ∧ domainFailed u 3 = false ∧ 1 ≤ n ∧ n ≤ 64 ∧ a + n ≤ 0x02000000 ∧ formOk a n = true ∧ poisonBlocks u a n false = none) ∧
    (∃ (t : Nat), ∃ (s : State), ∃ (u : State), ∃ a, u = s.at t ∧ Canonical u ∧ u.boot.phase = .running ∧ u.boot.hostSel = 0 ∧ domainFailed u 1 = false ∧ domainFailed u 3 = false ∧ 0x02000000 ≤ a ∧ a + 4 ≤ 0x10000000) ∧
    (∃ (t : Nat), ∃ (s : State), ∃ (u : State), ∃ a, ∃ n, ∃ m, u = s.at t ∧ Canonical u ∧ u.boot.phase = .running ∧ u.boot.hostSel = 0 ∧ domainFailed u 1 = false ∧ domainFailed u 3 = false ∧ a + n ≤ 0x02000000 ∧ (n = 1 ∨ n = 2 ∨ n = 4 ∨ n = 8) ∧ a % n = 0 ∧ m < 2 ^ (8 * n) ∧ poisonBlocks u (0x10000000 + a) n false = none) ∧
    (∃ (t : Nat), ∃ (s : State), ∃ (u : State), ∃ a, ∃ n, ∃ m, u = s.at t ∧ Canonical u ∧ u.boot.phase = .running ∧ u.boot.hostSel = 0 ∧ domainFailed u 1 = false ∧ domainFailed u 3 = false ∧ a + n ≤ 0x02000000 ∧ (n = 1 ∨ n = 2 ∨ n = 4 ∨ n = 8) ∧ a % n = 0 ∧ m < 2 ^ (8 * n) ∧ poisonBlocks u (0x20000000 + a) n false = none) ∧
    (∃ (t : Nat), ∃ (s : State), ∃ (u : State), ∃ x, u = s.at t ∧ Canonical u ∧ u.boot.phase = .running ∧ u.boot.hostSel = 0 ∧ domainFailed u 1 = false ∧ domainFailed u 3 = false ∧ x < 2 ^ 32) ∧
    (∃ (t : Nat), ∃ (s : State), ∃ (u : State), ∃ a, u = s.at t ∧ Canonical u ∧ u.boot.phase = .running ∧ u.boot.hostSel = 0 ∧ domainFailed u 1 = false ∧ domainFailed u 3 = false ∧ a < 0x02000000 ∧ poisonBlocks u (a / 8 * 8) 8 false = none ∧ Tab.wf 0 u.mem.cePass ∧ look 0 u.mem.cePass (a / 64 % 32) < u.mem.ceThreshold) ∧
    (∃ (t : Nat), ∃ (s : State), ∃ (u : State), ∃ a, u = s.at t ∧ Canonical u ∧ u.boot.phase = .running ∧ u.boot.hostSel = 0 ∧ domainFailed u 1 = false ∧ domainFailed u 3 = false ∧ a < 0x02000000 ∧ poisonBlocks u (a / 8 * 8) 8 false = none ∧ u.mem.poison.length < 64) ∧
    (∃ (t : Nat), ∃ (s : State), ∃ (u : State), ∃ a, ∃ instr, ∃ (ws : List Word), u = s.at t ∧ Canonical u ∧ u.boot.phase = .running ∧ u.boot.hostSel = 1 ∧ domainFailed u 1 = false ∧ domainFailed u 3 = false ∧ Tab.wf {} u.pwr.domains ∧ (instr = 0x02 ∨ instr = 0x12) ∧ 1 ≤ ws.length ∧ ws.length ≤ 1024 ∧ a + 4 * ws.length ≤ 0x02000000 ∧ a % 4 = 0 ∧ u.mem.poison = []) ∧
    (∃ (t : Nat), ∃ (s : State), ∃ (u : State), ∃ a, ∃ instr, ∃ n, u = s.at t ∧ Canonical u ∧ u.boot.phase = .running ∧ u.boot.hostSel = 1 ∧ domainFailed u 1 = false ∧ domainFailed u 3 = false ∧ Tab.wf {} u.pwr.domains ∧ (instr = 0x0B ∨ instr = 0xEB) ∧ 1 ≤ n ∧ n ≤ 1024 ∧ a + 4 * n ≤ 0x02000000 ∧ a % 4 = 0 ∧ u.mem.poison = []) ∧
    (∃ (t : Nat), ∃ (s : State), ∃ (u : State), ∃ a, ∃ instr, u = s.at t ∧ Canonical u ∧ u.boot.phase = .running ∧ u.boot.hostSel = 1 ∧ domainFailed u 1 = false ∧ domainFailed u 3 = false ∧ Tab.wf {} u.pwr.domains ∧ instr < 256 ∧ a < 2 ^ 32 ∧ instr ≠ 0x02 ∧ instr ≠ 0x12 ∧ instr ≠ 0x0B ∧ instr ≠ 0xEB) :=
  ⟨⟨0, State.reset, _, 0x01FFFFC0, 64, rfl, by decide +kernel⟩,
   ⟨0, State.reset, _, 1, 4, rfl, by decide +kernel⟩,
   ⟨0, State.reset, _, 0x01FFFFFF, 1, rfl, by decide +kernel⟩,
   ⟨0, State.reset, _, 0x0FFFFFFC, rfl, by decide +kernel⟩,
   ⟨0, State.reset, _, 0x01FFFFF8, 8, 2 ^ 64 - 1, rfl, by decide +kernel⟩,
   ⟨0, State.reset, _, 0x01FFFFFF, 1, 255, rfl, by decide +kernel⟩,
   ⟨0, State.reset, _, 2 ^ 32 - 1, rfl, by decide +kernel⟩,
   ⟨0, State.reset, _, 0x01FFFFFF, rfl, by decide +kernel⟩,
   ⟨0, State.reset, _, 0x01FFFFFF, rfl, by decide +kernel⟩,
   ⟨0, (State.reset).modBoot fun u => { u with hostSel := 1 }, _, 0x01FFFFFC, 0x12, [1], rfl, by decide +kernel⟩,
   ⟨0, (State.reset).modBoot fun u => { u with hostSel := 1 }, _, 0x01FFFFFC, 0xEB, 1, rfl, by decide +kernel⟩,
   ⟨0, (State.reset).modBoot fun u => { u with hostSel := 1 }, _, 0, 0, rfl, by decide +kernel⟩⟩

theorem witness_FaultsAndRecords :
    (∃ (t : Nat), ∃ (s : State), ∃ (u : State), ∃ unit, ∃ code, ∃ detail, u = s.at t ∧ unit ≤ 16 ∧ code < 65536 ∧ detail < 2 ^ 32 ∧ u.flt.inHand = none ∧ u.flt.waiting = [] ∧ u.pair.role = .off) ∧
    (∃ (t : Nat), ∃ (s : State), ∃ (u : State), ∃ f, u = s.at t ∧ u.flt.inHand = some f ∧ f.sev = 1 ∧ u.flt.waiting = []) ∧
    (∃ (t : Nat), ∃ (s : State), ∃ (u : State), u = s.at t ∧ (recorderFree u = false ∨ u.tally.intake = [])) ∧
    (∃ (t : Nat), ∃ (s : State), ∃ (u : State), ∃ r, ∃ rest, u = s.at t ∧ ((∀ v, (trigOf u v).kind ≠ 10)) ∧ recorderFree u = true ∧ u.tally.intake = r :: rest ∧ Canonical u ∧ r.transient = false ∧ r.sev = 3 ∧ u.tally.lostSince = 0 ∧ u.tally.kept < 4096 ∧ u.tally.seq < 2 ^ 32) ∧
    (∃ (t : Nat), ∃ (s : State), ∃ (u : State), u = s.at t ∧ (u.tally.started = true ∨ recorderUp u = false)) ∧
    (∃ (t : Nat), ∃ (s : State), ∃ (u : State), u = s.at t ∧ u.tally.started = false ∧ recorderUp u = true) ∧
    (∃ (t : Nat), ∃ (s : State), ∃ (u : State), u = s.at t ∧ u.boot.phase ≠ .running) ∧
    (∃ (t : Nat), ∃ (s : State), ∃ (u : State), ∃ v, ∃ c, ∃ m, u = s.at t ∧ u.boot.phase = .running ∧ moveCursor u (v % 2 ^ 32) = (c, m)) :=
  ⟨⟨0, State.reset, _, 16, 65535, 2 ^ 32 - 1, rfl, by decide +kernel⟩,
   ⟨0, (State.reset).modFlt fun u => { u with inHand := some { unit := 1, code := 1, sev := 1, detail := 0, cycle := 0, cal := 0 } }, _, { unit := 1, code := 1, sev := 1, detail := 0, cycle := 0, cal := 0 }, rfl, by decide +kernel⟩,
   ⟨0, (State.reset).modTally fun t => { t with started := false }, _, rfl, by decide +kernel⟩,
   ⟨0, (State.reset).modTally fun t => { t with started := true, intake := [{ unit := 1, code := 1, sev := 3 }], kept := 4095 }, _, { unit := 1, code := 1, sev := 3 }, [], rfl, fun _ => by show (0 : Nat) ≠ 10; decide, by decide +kernel⟩,
   ⟨0, (State.reset).modTally fun t => { t with started := true }, _, rfl, by decide +kernel⟩,
   ⟨0, (State.reset).modTally fun t => { t with started := false }, _, rfl, by decide +kernel⟩,
   ⟨0, (State.reset).modBoot fun u => { u with phase := .pinReset }, _, rfl, by decide +kernel⟩,
   ⟨0, State.reset, _, 5, 5, false, rfl, by decide +kernel⟩⟩

theorem witness_PowerUpAndResets :
    (∃ (t : Nat), ∃ (s : State), ∃ (u : State), u = s.at t ∧ u.boot.phase = .unpowered) ∧
    (∃ (t : Nat), ∃ (s : State), ∃ (u : State), u = s.at t ∧ u.boot.phase = .beforeT1 ∧ u.boot.resetPinHigh = true) ∧
    (∃ (t : Nat), ∃ (s : State), ∃ (u : State), u = s.at t ∧ u.boot.phase = .crystal ∧ u.boot.t1At + clocksOfUs 2200 ≤ u.now) ∧
    (∃ (t : Nat), ∃ (s : State), ∃ (u : State), ∃ sel, u = s.at t ∧ sel < 4 ∧ u.boot.phase = .locked ∧ u.boot.t1At + clocksOfUs 2250 ≤ u.now) ∧
    (∃ (t : Nat), ∃ (s : State), ∃ (u : State), u = s.at t ∧ u.boot.phase = .fused ∧ u.boot.t1At + clocksOfUs 2300 ≤ u.now) ∧
    (∃ (t : Nat), ∃ (s : State), ∃ (u : State), u = s.at t ∧ u.boot.phase = .cleared ∧ u.boot.t1At + clocksOfUs 4000 ≤ u.now) ∧
    (∃ (t : Nat), ∃ (s : State), ∃ (u : State), u = s.at t ∧ u.boot.phase = .pinReset ∧ u.boot.lostSupplies.all (9 < ·) = true) ∧
    (∃ (t : Nat), ∃ (s : State), ∃ (u : State), ∃ from', u = s.at t ∧ u.boot.phase = .running ∧ u.pair.role = .off ∧ u.boot.warmResetAt = some from' ∧ from' ≤ u.now ∧ (u.boot.resetOnReply && resetReplyWaits u) = false ∧ u.boot.resetAs ≠ 1) ∧
    (∃ (t : Nat), ∃ (s : State), ∃ (u : State), u = s.at t ∧ u.boot.phase = .logicReset ∧ u.now < u.boot.releaseFrom + clocksOfUs 2) ∧
    (∃ (t : Nat), ∃ (s : State), ∃ (u : State), u = s.at t ∧ u.boot.phase = .logicReset ∧ u.boot.releaseFrom + clocksOfUs 2 ≤ u.now ∧ u.boot.noResume = false) ∧
    (∃ (t : Nat), ∃ (s : State), ∃ (u : State), ∃ (record : List (Nat × MemErr)), ∃ (image : List (Nat × MemErr)), u = s.at t ∧ u.boot.phase = .running ∧ u.boot.replayed = false ∧ u.boot.recordGood = true ∧ (record ++ image).all (·.2 == .clean) = true) ∧
    (∃ (t : Nat), ∃ (s : State), ∃ (u : State), ∃ a, u = s.at t ∧ u.boot.phase = .running ∧ u.boot.replayed = false ∧ u.boot.recordGood = true ∧ 0x32000000 ≤ a ∧ a < 0x32200000) ∧
    (∃ (t : Nat), ∃ (s : State), ∃ (u : State), ∃ (record : List (Nat × MemErr)), ∃ (a : Nat), u = s.at t ∧ u.boot.phase = .running ∧ u.boot.replayed = false ∧ u.boot.windowOpened.isSome = true ∧ 0x32000000 ≤ a ∧ a < 0x32010000 ∧ (a, .doubleLasting) ∈ record) ∧
    (∃ (t : Nat), ∃ (s : State), ∃ (u : State), ∃ n, u = s.at t ∧ u.boot.phase = .running ∧ 2 < n ∧ n < 10) ∧
    (∃ (t : Nat), ∃ (s : State), ∃ (u : State), ∃ n, u = s.at t ∧ n < 12 ∧ n ≠ 2) ∧
    (∃ (t : Nat), ∃ (s : State), ∃ (u : State), ∃ c, u = s.at t ∧ u.boot.phase = .running ∧ hasCycle u = true ∧ u.clock % clocksOfUs (max 1 (lDev u)) = 0 ∧ integrated u = true ∧ u.pair.takeDue = none ∧ u.pair.role = .off ∧ u.boot.windowOpened.isSome = true ∧ u.boot.replayed = true ∧ u.boot.recordGood = true ∧ u.keep.image = some c ∧ u.host.deferred = [] ∧ u.dev.autoResume = true ∧ u.boot.autoSuppressed = false ∧ u.dev.resumeToReady = false ∧ gapTooLong u c.cycle = false) ∧
    (∃ (t : Nat), ∃ (s : State), ∃ (u : State), u = s.at t ∧ u.boot.windowOpened = none) ∧
    (∃ (t : Nat), ∃ (s : State), ∃ (u : State), ∃ o, u = s.at t ∧ u.boot.windowOpened = some o ∧ u.now < o + clocksOfUs 50000) ∧
    (∃ (t : Nat), ∃ (s : State), ∃ (u : State), ∃ o, u = s.at t ∧ u.boot.windowOpened = some o ∧ o + clocksOfUs 50000 ≤ u.now ∧ resumeRequested u = false) :=
  ⟨⟨0, (State.reset).modBoot fun u => { u with phase := .unpowered }, _, rfl, by decide +kernel⟩,
   ⟨0, (State.reset).modBoot fun u => { u with phase := .beforeT1 }, _, rfl, by decide +kernel⟩,
   ⟨1760000, (State.reset).modBoot fun u => { u with phase := .crystal }, _, rfl, by decide +kernel⟩,
   ⟨1800000, (State.reset).modBoot fun u => { u with phase := .locked }, _, 3, rfl, by decide +kernel⟩,
   ⟨1840000, (State.reset).modBoot fun u => { u with phase := .fused }, _, rfl, by decide +kernel⟩,
   ⟨3200000, (State.reset).modBoot fun u => { u with phase := .cleared }, _, rfl, by decide +kernel⟩,
   ⟨0, (State.reset).modBoot fun u => { u with phase := .pinReset, lostSupplies := [10] }, _, rfl, by decide +kernel⟩,
   ⟨0, (State.reset).modBoot fun u => { u with warmResetAt := some 1440000 }, _, 1440000, rfl, by decide +kernel⟩,
   ⟨0, (State.reset).modBoot fun u => { u with phase := .logicReset, releaseFrom := 1440000 }, _, rfl, by decide +kernel⟩,
   ⟨0, (State.reset).modBoot fun u => { u with phase := .logicReset }, _, rfl, by decide +kernel⟩,
   ⟨0, (State.reset).modBoot fun u => { u with replayed := false, windowOpened := some 1440000 }, _, [(0x32000000, .clean)], [], rfl, by decide +kernel⟩,
   ⟨0, (State.reset).modBoot fun u => { u with replayed := false }, _, 0x321FFFFF, rfl, by decide +kernel⟩,
   ⟨0, (State.reset).modBoot fun u => { u with replayed := false, windowOpened := some 1440000 }, _, [(0x3200FFFF, .doubleLasting)], 0x3200FFFF, rfl, by decide +kernel⟩,
   ⟨0, State.reset, _, 9, rfl, by decide +kernel⟩,
   ⟨0, State.reset, _, 11, rfl, by decide +kernel⟩,
   ⟨0, ((window.modDrove fun d => { d with cfg := { d.cfg with cycleUs := 100, mult := 1 } }).modDev fun d => { d with autoResume := true }), _, cocoon .run, rfl, by decide +kernel⟩,
   ⟨0, State.reset, _, rfl, by decide +kernel⟩,
   ⟨41439999, window, _, 1440000, rfl, by decide +kernel⟩,
   ⟨41440000, window, _, 1440000, rfl, by decide +kernel⟩⟩

theorem witness_PowerAndGraze :
    (∃ (t : Nat), ∃ (s : State), ∃ (u : State), ∃ d, ∃ p, u = s.at t ∧ Tab.wf {} u.pwr.domains ∧ d < 12 ∧ (domain u d).going = some p ∧ (domain u d).since + clocksOfUs (transitionUs d (domain u d) p) ≤ u.now) ∧
    (∃ (t : Nat), ∃ (s : State), ∃ (u : State), ∃ d, ∃ p, u = s.at t ∧ Tab.wf {} u.pwr.domains ∧ d < 12 ∧ (domain u d).going = some p ∧ u.now < (domain u d).since + clocksOfUs (transitionUs d (domain u d) p)) ∧
    (∃ (t : Nat), ∃ (s : State), ∃ (u : State), ∃ d, u = s.at t ∧ Tab.wf {} u.pwr.domains ∧ d < 12 ∧ (domain u d).going = some .on ∧ (domain u d).since + clocksOfUs (domain u d).wakeTimeoutUs ≤ u.now ∧ (domain u d).retrying = false) ∧
    (∃ (t : Nat), ∃ (s : State), ∃ (u : State), ∃ d, u = s.at t ∧ Tab.wf {} u.pwr.domains ∧ d < 12 ∧ (domain u d).going = some .on ∧ (domain u d).since + clocksOfUs (domain u d).wakeTimeoutUs ≤ u.now ∧ (domain u d).retrying = true) ∧
    (∃ (t : Nat), ∃ (s : State), ∃ (u : State), u = s.at t ∧ Tab.wf {} u.pwr.domains ∧ u.dev.mode = .graze ∧ u.pwr.entryRunning = true ∧ u.pwr.exitQueued = none ∧ allReady u = true) ∧
    (∃ (t : Nat), ∃ (s : State), ∃ (u : State), ∃ g, ∃ (vs : List Int), u = s.at t ∧ Tab.wf {} u.pwr.domains ∧ u.dev.mode = .graze ∧ u.pwr.graze = some g ∧ u.pwr.entryRunning = false ∧ u.pwr.waking = false ∧ u.pwr.nextSample ≤ u.now ∧ vs.length = 24 ∧ u.pwr.monitors.length = 24) ∧
    (∃ (t : Nat), ∃ (s : State), ∃ (u : State), ∃ g, ∃ (vs : List Int), ∃ e, ∃ v, u = s.at t ∧ v = sampleMonitors vs (u.modPwr fun p => { p with nextSample := p.nextSample + grazePeriod u }) ∧ Tab.wf {} u.pwr.domains ∧ u.dev.mode = .graze ∧ u.pwr.graze = some g ∧ u.pwr.entryRunning = false ∧ u.pwr.waking = false ∧ u.pwr.nextSample ≤ u.now ∧ u.pwr.masked = [] ∧ g.entries = [e] ∧ field e 0 3 = 1 ∧ dinLogical u (field e 3 7) = true ∧ v.dev.mode = .graze ∧ v.pwr.waking = false) ∧
    (∃ (t : Nat), ∃ (s : State), ∃ (u : State), ∃ (vs : List Int), u = s.at t ∧ Tab.wf {} u.pwr.domains ∧ vs.length = 24 ∧ u.pwr.monitors.length = 24 ∧ monitorsDue u = true) ∧
    (∃ (t : Nat), ∃ (s : State), ∃ (u : State), ∃ g, u = s.at t ∧ Tab.wf {} u.pwr.domains ∧ u.dev.mode = .graze ∧ u.pwr.graze = some g ∧ u.pwr.entryRunning = false ∧ u.pwr.waking = false ∧ g.maxS ≠ 0 ∧ u.pwr.grazeSince + clocksOfUs (g.maxS * 1000000) ≤ u.now) ∧
    (∃ (t : Nat), ∃ (s : State), ∃ (u : State), ∃ g, u = s.at t ∧ Tab.wf {} u.pwr.domains ∧ u.dev.mode = .graze ∧ u.pwr.graze = some g ∧ u.now < u.pwr.grazeSince + clocksOfUs (g.maxS * 1000000)) ∧
    (∃ (t : Nat), ∃ (s : State), ∃ (u : State), ∃ g, ∃ n, u = s.at t ∧ Tab.wf {} u.pwr.domains ∧ n < canControllers u ∧ u.dev.mode = .graze ∧ u.pwr.graze = some g ∧ u.pwr.entryRunning = false ∧ u.pwr.waking = false ∧ u.pwr.exitQueued = none ∧ bit g.canWake n = true ∧ n ∉ u.pwr.canMasked) :=
  ⟨⟨0, (State.reset).modPwr fun t => { t with domains := [(11, { going := some .retain })] }, _, 11, .retain, rfl, by decide +kernel⟩,
   ⟨0, (State.reset).modPwr fun t => { t with domains := [(11, { going := some .retain, since := 1440000 })] }, _, 11, .retain, rfl, by decide +kernel⟩,
   ⟨800000000, (State.reset).modPwr fun t => { t with domains := [(11, { going := some .on })] }, _, 11, rfl, by decide +kernel⟩,
   ⟨800000000, (State.reset).modPwr fun t => { t with domains := [(11, { going := some .on, retrying := true })] }, _, 11, rfl, by decide +kernel⟩,
   ⟨0, (inMode .graze).modPwr fun t => { t with entryRunning := true }, _, rfl, by decide +kernel⟩,
   ⟨0, grazing { periodMs := 1, monWake := false, canWake := 0, maxS := 0, entries := [] }, _, { periodMs := 1, monWake := false, canWake := 0, maxS := 0, entries := [] }, List.replicate 24 0, rfl, by decide +kernel⟩,
   ⟨0, (grazing { periodMs := 1, monWake := false, canWake := 0, maxS := 0, entries := [1 + 63 * 2 ^ 3] }).modDio fun d => { d with dins := [(63, { raw := true })] }, _, { periodMs := 1, monWake := false, canWake := 0, maxS := 0, entries := [1 + 63 * 2 ^ 3] }, (Monitor.afterPowerUp.map fun m => (m.lowWarn + m.highWarn) / 2), 1 + 63 * 2 ^ 3, _, rfl, rfl, by decide +kernel⟩,
   ⟨0, State.reset, _, List.replicate 24 0, rfl, by decide +kernel⟩,
   ⟨800000000, grazing { periodMs := 1, monWake := false, canWake := 0, maxS := 1, entries := [] }, _, { periodMs := 1, monWake := false, canWake := 0, maxS := 1, entries := [] }, rfl, by decide +kernel⟩,
   ⟨799999999, grazing { periodMs := 1, monWake := false, canWake := 0, maxS := 1, entries := [] }, _, { periodMs := 1, monWake := false, canWake := 0, maxS := 1, entries := [] }, rfl, by decide +kernel⟩,
   ⟨0, grazing { periodMs := 1, monWake := false, canWake := 128, maxS := 0, entries := [] }, _, { periodMs := 1, monWake := false, canWake := 128, maxS := 0, entries := [] }, 7, rfl, by decide +kernel⟩⟩

theorem witness_ControlCycle :
    (∃ (t : Nat), ∃ (s : State), ∃ (u : State), u = s.at t ∧ u.cyc.startOf = some (cycleTick u)) ∧
    (∃ (t : Nat), ∃ (s : State), ∃ (u : State), ∃ d, u = s.at t ∧ u.boot.phase = .running ∧ u.cyc.startOf ≠ some (cycleTick u) ∧ lDev u ≠ 0 ∧ u.drove.cfg.upEn = false ∧ u.drove.downStarted = false ∧ hasCycle u = true ∧ u.cyc.changeover = none ∧ u.dev.mode = .ready ∧ u.dev.stopPending = false ∧ u.host.deferred = [d] ∧ d.op = .devSetMode ∧ (d.packet.w 0) % 8 = 2) ∧
    (∃ (t : Nat), ∃ (s : State), ∃ (u : State), ∃ n, u = s.at t ∧ n = cycleTick u ∧ u.boot.phase = .running ∧ hasCycle u = true ∧ u.dev.mode ≠ .graze ∧ u.cyc.inputOf ≠ some n ∧ clocksOfUs (inOffset u) ≤ intoCycle u) ∧
    (∃ (t : Nat), ∃ (s : State), ∃ (u : State), u = s.at t ∧ u.cyc.inputOf = some (cycleTick u)) ∧
    (∃ (t : Nat), ∃ (s : State), ∃ (u : State), ∃ n, ∃ k, u = s.at t ∧ n = cycleTick u ∧ k = devCycle u ∧ u.boot.phase = .running ∧ hasCycle u = true ∧ u.dev.mode = .run ∧ u.cyc.commitOf ≠ some n ∧ pastCommitPoint u = true ∧ u.drove.cfg.upEn = false ∧ u.pair.role = .off ∧ programsLate u k = false ∧ (u.graph.readyCycle = some k ∨ (∀ n, n < 4 → periodDue u n k = false)) ∧ leavesRun u = false ∧ u.cyc.unresolved = false ∧ u.boot.resumedAt = none ∧ u.pair.outgoing = none ∧ (u.keep.undo.headD []).length ≤ undoLimit) ∧
    (∃ (t : Nat), ∃ (s : State), ∃ (u : State), ∃ n, u = s.at t ∧ n = cycleTick u ∧ u.boot.phase = .running ∧ hasCycle u = true ∧ u.dev.mode = .ready ∧ u.cyc.commitOf ≠ some n ∧ pastCommitPoint u = true) ∧
    (∃ (t : Nat), ∃ (s : State), ∃ (u : State), u = s.at t ∧ u.boot.phase = .running ∧ hasCycle u = true ∧ lDev u ≠ 0 ∧ u.dev.mode = .run ∧ u.cyc.outputOf ≠ some (cycleTick u) ∧ u.boot.holdingOutputs = false ∧ u.cyc.committedNow = true ∧ (u.cyc.commit = .committing ∨ u.cyc.commit = .holding)) ∧
    (∃ (t : Nat), ∃ (s : State), ∃ (u : State), u = s.at t ∧ u.boot.phase = .running ∧ hasCycle u = true ∧ lDev u ≠ 0 ∧ u.dev.mode = .run ∧ u.cyc.outputOf ≠ some (cycleTick u) ∧ u.boot.holdingOutputs = false ∧ u.cyc.committedNow = false ∧ u.cyc.enteredAt ≠ some (devCycle u) ∧ u.cyc.commit = .committing ∧ u.cyc.miss + 1 ≤ u.cyc.holdBudget) ∧
    (∃ (t : Nat), ∃ (s : State), ∃ (u : State), u = s.at t ∧ u.boot.phase = .running ∧ hasCycle u = true ∧ lDev u ≠ 0 ∧ u.dev.mode = .run ∧ u.cyc.outputOf ≠ some (cycleTick u) ∧ u.boot.holdingOutputs = false ∧ u.cyc.committedNow = false ∧ u.cyc.enteredAt ≠ some (devCycle u) ∧ (u.cyc.commit = .committing ∨ u.cyc.commit = .holding) ∧ u.cyc.holdBudget ≤ u.cyc.miss ∧ u.cyc.holdBudget < 31) ∧
    (∃ (t : Nat), ∃ (s : State), ∃ (u : State), u = s.at t ∧ u.dev.safeEntryDue = false) ∧
    (∃ (t : Nat), ∃ (s : State), ∃ (u : State), u = s.at t ∧ u.dev.safeEntryDue = true ∧ u.dev.mode = .safe) ∧
    (∃ (t : Nat), ∃ (s : State), ∃ (u : State), u = s.at t ∧ ((∀ n x r, n < 4 → (slotOf u n).exec = some x → x.release = some r → u.clock < r)) ∧ ((∀ n, n < 4 → (slotOf u n).stepping = none)) ∧ (hasCycle u = false ∨ u.graph.readyCycle = some (devCycle u) ∨ u.clock < inputReadyClock u)) ∧
    (∃ (t : Nat), ∃ (s : State), ∃ (u : State), u = s.at t ∧ ((∀ n x r, n < 4 → (slotOf u n).exec = some x → x.release = some r → u.clock < r)) ∧ ((∀ n, n < 4 → (slotOf u n).stepping = none)) ∧ hasCycle u = true ∧ u.graph.readyCycle ≠ some (devCycle u) ∧ inputReadyClock u ≤ u.clock ∧ u.host.deferred = []) :=
  ⟨⟨0, (cyclic .run).modCyc fun u => { u with startOf := some 18 }, _, rfl, by decide +kernel⟩,
   ⟨0, (cyclic .ready).modHost fun u => { u with deferred := [{ op := .devSetMode, packet := pk [2] }] }, _, { op := .devSetMode, packet := pk [2] }, rfl, by decide +kernel⟩,
   ⟨0, cyclic .run, _, _, rfl, rfl, by decide +kernel⟩,
   ⟨0, (cyclic .run).modCyc fun u => { u with inputOf := some 18 }, _, rfl, by decide +kernel⟩,
   ⟨1518400, cyclic .run, _, _, _, rfl, rfl, rfl, by decide +kernel⟩,
   ⟨1518400, cyclic .ready, _, _, rfl, rfl, by decide +kernel⟩,
   ⟨0, (cyclic .run).modCyc fun u => { u with committedNow := true, commit := .holding }, _, rfl, by decide +kernel⟩,
   ⟨0, (cyclic .run).modCyc fun u => { u with firstCommitted := true, miss := 2 }, _, rfl, by decide +kernel⟩,
   ⟨0, (cyclic .run).modCyc fun u => { u with firstCommitted := true, miss := 3, commit := .holding }, _, rfl, by decide +kernel⟩,
   ⟨0, State.reset, _, rfl, by decide +kernel⟩,
   ⟨0, (inMode .safe).modDev fun u => { u with safeEntryDue := true }, _, rfl, by decide +kernel⟩,
   ⟨0, State.reset, _, rfl, none_runs (by decide +kernel), by decide +kernel⟩,
   ⟨1441600, cyclic .run, _, rfl, none_runs (by decide +kernel), by decide +kernel⟩⟩

theorem witness_ChangeoverRuns :
    (∃ (t : Nat), ∃ (s : State), ∃ (u : State), ∃ x, ∃ l, u = s.at t ∧ coRefusal u x l ≠ 0) ∧
    (∃ (t : Nat), ∃ (s : State), ∃ (u : State), ∃ x, ∃ l, u = s.at t ∧ coRefusal u x l = 0) ∧
    (∃ (t : Nat), ∃ (s : State), ∃ (u : State), ∃ c, u = s.at t ∧ u.cyc.changeover = some c ∧ c.target = false ∧ c.reported = false ∧ c.swapped = false ∧ c.outstanding = [] ∧ c.affected = false ∧ c.refusal = none ∧ 0 ≤ cycDiff (devCycle u) (cycleAfter u c.prepared 3)) ∧
    (∃ (t : Nat), ∃ (s : State), ∃ (u : State), ∃ c, u = s.at t ∧ u.cyc.changeover = some c ∧ c.target = true ∧ c.outcome = none ∧ c.outstanding = [] ∧ c.affected = false ∧ c.refusal = none ∧ decideReached u c = true) ∧
    (∃ (t : Nat), ∃ (s : State), ∃ (u : State), ∃ c, ∃ r, u = s.at t ∧ u.cyc.changeover = some c ∧ c.target = true ∧ c.outcome = none ∧ c.refusal = some r ∧ decideReached u c = true) ∧
    (∃ (t : Nat), ∃ (s : State), ∃ (u : State), ∃ c, u = s.at t ∧ u.cyc.changeover = some c ∧ decideReached u c = false) ∧
    (∃ (t : Nat), ∃ (s : State), ∃ (u : State), ∃ c, u = s.at t ∧ u.cyc.changeover = some c ∧ c.target = false ∧ c.outcome = none ∧ swapMissed u c = true ∧ c.swapped = false ∧ ringAffected u c.ring = false) ∧
    (∃ (t : Nat), ∃ (s : State), ∃ (u : State), ∃ c, u = s.at t ∧ u.cyc.changeover = some c ∧ c.target = false ∧ c.outcome = none ∧ swapMissed u c = false) ∧
    (∃ (t : Nat), ∃ (s : State), ∃ (u : State), ∃ c, u = s.at t ∧ u.cyc.changeover = some c ∧ c.swapped = false ∧ c.outcome = none ∧ c.acked = true ∧ cycleAfter u (devCycle u) 1 = c.cycle ∧ pastCommitPoint u = true) ∧
    (∃ (t : Nat), ∃ (s : State), ∃ (u : State), u = s.at t ∧ u.cyc.changeover = none) :=
  ⟨⟨0, State.reset, _, 20, false, rfl, by decide +kernel⟩,
   ⟨0, cyclic .run, _, 30, false, rfl, by decide +kernel⟩,
   ⟨0, (cyclic .run).modCyc fun u => { u with changeover := some { coId := 1, cycle := 60, graph := true, loop := false, ring := false, target := false, prepared := 0 } }, _, { coId := 1, cycle := 60, graph := true, loop := false, ring := false, target := false, prepared := 0 }, rfl, by decide +kernel⟩,
   ⟨1518400, (cyclic .run).modCyc fun u => { u with changeover := some { coId := 1, cycle := 60, graph := true, loop := false, ring := false, target := true, prepared := 0, decideAt := 18 } }, _, { coId := 1, cycle := 60, graph := true, loop := false, ring := false, target := true, prepared := 0, decideAt := 18 }, rfl, by decide +kernel⟩,
   ⟨1518400, (cyclic .run).modCyc fun u => { u with changeover := some { coId := 1, cycle := 60, graph := true, loop := false, ring := false, target := true, prepared := 0, decideAt := 18, refusal := some (1, 2) } }, _, { coId := 1, cycle := 60, graph := true, loop := false, ring := false, target := true, prepared := 0, decideAt := 18, refusal := some (1, 2) }, (1, 2), rfl, by decide +kernel⟩,
   ⟨0, (cyclic .run).modCyc fun u => { u with changeover := some { coId := 1, cycle := 60, graph := true, loop := false, ring := false, target := true, prepared := 0, decideAt := 30 } }, _, { coId := 1, cycle := 60, graph := true, loop := false, ring := false, target := true, prepared := 0, decideAt := 30 }, rfl, by decide +kernel⟩,
   ⟨1518400, (cyclic .run).modCyc fun u => { u with changeover := some { coId := 1, cycle := 19, graph := true, loop := false, ring := false, target := false, prepared := 0 } }, _, { coId := 1, cycle := 19, graph := true, loop := false, ring := false, target := false, prepared := 0 }, rfl, by decide +kernel⟩,
   ⟨0, (cyclic .run).modCyc fun u => { u with changeover := some { coId := 1, cycle := 60, graph := true, loop := false, ring := false, target := false, prepared := 0 } }, _, { coId := 1, cycle := 60, graph := true, loop := false, ring := false, target := false, prepared := 0 }, rfl, by decide +kernel⟩,
   ⟨1518400, (cyclic .run).modCyc fun u => { u with changeover := some { coId := 1, cycle := 19, graph := true, loop := false, ring := false, target := false, prepared := 0, acked := true } }, _, { coId := 1, cycle := 19, graph := true, loop := false, ring := false, target := false, prepared := 0, acked := true }, rfl, by decide +kernel⟩,
   ⟨0, State.reset, _, rfl, by decide +kernel⟩⟩

theorem witness_SchedulerAndLoopsRun :
    (∃ (t : Nat), ∃ (s : State), ∃ (u : State), ∃ c, ∃ r, u = s.at t ∧ Tab.wf {} u.sched.cores ∧ Tab.wf {} u.graph.slots ∧ c < graphCores u ∧ (coreOf u c).running = none ∧ (coreOf u c).stalled = [] ∧ (coreOf u c).step = [] ∧ (coreOf u c).prefetch = [r] ∧ (coreOf u c).lists = [] ∧ runnable u r = true) ∧
    (∃ (t : Nat), ∃ (s : State), ∃ (u : State), ∃ c, ∃ r, u = s.at t ∧ Tab.wf {} u.sched.cores ∧ Tab.wf {} u.graph.slots ∧ c < graphCores u ∧ (coreOf u c).running = some r ∧ r.urgent = false ∧ r.publishing = none) ∧
    (∃ (t : Nat), ∃ (s : State), ∃ (u : State), ∃ c, ∃ r, ∃ d, u = s.at t ∧ Tab.wf {} u.sched.cores ∧ Tab.wf {} u.graph.slots ∧ c < graphCores u ∧ (coreOf u c).running = some r ∧ r.urgent = true ∧ (u.adc.urgentDone.find? fun d => d.1 == r.slot && d.2.1 == r.op) = some d) ∧
    (∃ (t : Nat), ∃ (s : State), ∃ (u : State), ∃ c, ∃ d, ∃ r, u = s.at t ∧ ((∀ e, e ≠ d → (coreOf u e).lists = [])) ∧ Tab.wf {} u.sched.cores ∧ Tab.wf {} u.graph.slots ∧ c < graphCores u ∧ d < graphCores u ∧ c ≠ d ∧ tokensWaiting u = 0 ∧ (coreOf u c).running = none ∧ (coreOf u c).step = [] ∧ (coreOf u c).prefetch = [] ∧ (coreOf u d).lists = [r] ∧ r.prio < 8 ∧ runnable u r = true ∧ c ∈ allowedCores u r.slot ∧ u.sched.stealMin ≤ 1) ∧
    (∃ (t : Nat), ∃ (s : State), ∃ (u : State), ∃ c, ∃ d, ∃ k, u = s.at t ∧ ((∀ e, e ≠ d → (coreOf u e).stalled = [])) ∧ Tab.wf {} u.sched.cores ∧ Tab.wf {} u.graph.slots ∧ c < graphCores u ∧ d < graphCores u ∧ (coreOf u d).stalled = [(c, k)] ∧ u.sched.spill = [] ∧ u.sched.spillNs ≤ nsOf (u.now - k.at')) ∧
    (∃ (t : Nat), ∃ (s : State), ∃ (u : State), ∃ c, u = s.at t ∧ ((∀ e, (coreOf u e).stalled = [])) ∧ Tab.wf {} u.sched.cores ∧ Tab.wf {} u.graph.slots ∧ c < graphCores u) ∧
    (∃ (t : Nat), ∃ (s : State), ∃ (u : State), ∃ n, ∃ x, u = s.at t ∧ Tab.wf {} u.sched.cores ∧ Tab.wf {} u.graph.slots ∧ n < 4 ∧ (slotOf u n).exec = some x ∧ ((∀ d ∈ x.delays, d.tick ≤ usOf u.clock))) ∧
    (∃ (t : Nat), ∃ (s : State), ∃ (u : State), ∃ n, ∃ x, u = s.at t ∧ Tab.wf {} u.sched.cores ∧ Tab.wf {} u.graph.slots ∧ n < 4 ∧ (slotOf u n).exec = some x ∧ slotState u n = 1 ∧ shedTick u n x ≤ usOf u.clock) ∧
    (∃ (t : Nat), ∃ (s : State), ∃ (u : State), ∃ n, ∃ x, u = s.at t ∧ Tab.wf {} u.sched.cores ∧ Tab.wf {} u.graph.slots ∧ n < 4 ∧ (slotOf u n).exec = some x ∧ slotState u n = 2) ∧
    (∃ (t : Nat), ∃ (s : State), ∃ (u : State), ∃ n, u = s.at t ∧ Tab.wf {} u.sched.cores ∧ Tab.wf {} u.graph.slots ∧ n < 4 ∧ (slotOf u n).exec = none) ∧
    (∃ (t : Nat), ∃ (s : State), ∃ (u : State), ∃ c, u = s.at t ∧ Tab.wf {} u.loop.ch ∧ Canonical u ∧ c < loopChannels u ∧ loopEnabled u c = true ∧ loopPeriod u c ≠ 0 ∧ usOf u.clock % loopPeriod u c = 0 ∧ (loopOf u c).lastTick ≠ some (usOf u.clock)) ∧
    (∃ (t : Nat), ∃ (s : State), ∃ (u : State), ∃ c, u = s.at t ∧ Tab.wf {} u.loop.ch ∧ Canonical u ∧ c < loopChannels u ∧ loopEnabled u c = false) ∧
    (∃ (t : Nat), ∃ (s : State), ∃ (u : State), ∃ p, u = s.at t ∧ Tab.wf {} u.loop.ch ∧ Canonical u ∧ p < 8 ∧ nextLoop u p = none) ∧
    (∃ (t : Nat), ∃ (s : State), ∃ (u : State), ∃ p, ∃ c, u = s.at t ∧ Tab.wf {} u.loop.ch ∧ Canonical u ∧ p < 8 ∧ c < 1024 ∧ nextLoop u p = some c ∧ loopsRun u = true ∧ domainOn u 8 = true ∧ loopPoisoned u c = true) ∧
    (∃ (t : Nat), ∃ (s : State), ∃ (u : State), ∃ p, u = s.at t ∧ ((∀ c, c < loopChannels u → loopProc u c = p → (loopOf u c).resample = none)) ∧ Tab.wf {} u.loop.ch ∧ Canonical u ∧ p < 8) ∧
    (∃ (t : Nat), ∃ (s : State), ∃ (u : State), ∃ p, ∃ c, ∃ n0, ∃ st, u = s.at t ∧ ((∀ d, d < c → loopProc u d = p → (loopOf u d).resample = none)) ∧ Tab.wf {} u.loop.ch ∧ Canonical u ∧ p < 8 ∧ c < loopChannels u ∧ loopProc u c = p ∧ (loopOf u c).resample = some (n0, st)) :=
  ⟨⟨0, (((program false (cyclic .run)).modSlot 3 fun k => { k with enabled := true })).modSched fun u => { u with cores := [(15, { prefetch := [{ slot := 3, op := 0, prio := 7, at' := 0 }] })] }, _, 15, { slot := 3, op := 0, prio := 7, at' := 0 }, rfl, by decide +kernel⟩,
   ⟨0, (State.reset).modSched fun u => { u with cores := [(15, { running := some { slot := 3, op := 0, startedAt := 0 } })] }, _, 15, { slot := 3, op := 0, startedAt := 0 }, rfl, by decide +kernel⟩,
   ⟨0, ((State.reset).modSched fun u => { u with cores := [(15, { running := some { slot := 3, op := 0, startedAt := 0, urgent := true } })] }).modAdc fun u => { u with urgentDone := [(3, 0, true)] }, _, 15, { slot := 3, op := 0, startedAt := 0, urgent := true }, (3, 0, true), rfl, by decide +kernel⟩,
   ⟨0, (((program false (cyclic .run)).modSlot 3 fun k => { k with enabled := true })).modSched fun u => { u with cores := [(15, { lists := [{ slot := 3, op := 0, prio := 7, at' := 0 }] })], stealMin := 1 }, _, 0, 15, { slot := 3, op := 0, prio := 7, at' := 0 }, rfl, fun _ h => congrArg Core.lists (look_one h), by decide +kernel⟩,
   ⟨0, (State.reset).modSched fun u => { u with cores := [(15, { stalled := [(14, { slot := 3, op := 0, at' := 0 })] })] }, _, 14, 15, { slot := 3, op := 0, at' := 0 }, rfl, fun _ h => congrArg Core.stalled (look_one h), by decide +kernel⟩,
   ⟨0, State.reset, _, 15, rfl, fun _ => rfl, by decide +kernel⟩,
   ⟨0, (State.reset).modSlot 3 fun k => { k with exec := some { run3 with delays := [{ op := 0, tick := 1800 }] } }, _, 3, { run3 with delays := [{ op := 0, tick := 1800 }] }, rfl, by decide +kernel⟩,
   ⟨0, (cyclic .run).modSlot 3 fun k => { k with enabled := true, exec := some run3 }, _, 3, run3, rfl, by decide +kernel⟩,
   ⟨0, (cyclic .run).modSlot 3 fun k => { k with enabled := true, held := true, exec := some run3 }, _, 3, run3, rfl, by decide +kernel⟩,
   ⟨0, State.reset, _, 3, rfl, by decide +kernel⟩,
   ⟨0, loop511, _, 511, rfl, by decide +kernel⟩,
   ⟨0, State.reset, _, 511, rfl, by decide +kernel⟩,
   ⟨0, (State.reset).modBoot fun u => { u with variant := .ubr1650 }, _, 7, rfl, by decide +kernel⟩,
   ⟨1440800, loopHeld, _, 7, 511, rfl, by decide +kernel⟩,
   ⟨0, loop511, _, 7, rfl, fun _ _ _ => rfl, by decide +kernel⟩,
   ⟨0, (loop511).modLoop fun u => { u with ch := [(511, { resample := some (8, 1) })] }, _, 7, 511, 8, 1, rfl, fun _ h _ => congrArg LoopCh.resample (look_one (Nat.ne_of_lt h)), by decide +kernel⟩⟩

theorem witness_AxesRun :
    (∃ (t : Nat), ∃ (s : State), ∃ (u : State), u = s.at t ∧ Tab.wf {} u.axis.ch ∧ Tab.wf {} u.dio.encs ∧ u.clock % 800 ≠ 0) ∧
    (∃ (t : Nat), ∃ (s : State), ∃ (u : State), ∃ n, ∃ c, u = s.at t ∧ Tab.wf {} u.axis.ch ∧ Tab.wf {} u.dio.encs ∧ axisRuns u = true ∧ u.clock % 800 = 0 ∧ u.axis.ch = [(n, c)] ∧ c.kind = 2 ∧ c.m.seg = none ∧ c.m.late = none ∧ c.latchShift = none ∧ c.undo = none ∧ (c.limitsEn = false ∨ c.sideOf (c.cmdAt u (usNow u)).1 = c.side)) ∧
    (∃ (t : Nat), ∃ (s : State), ∃ (u : State), ∃ a, ∃ n, u = s.at t ∧ Tab.wf {} u.axis.ch ∧ Tab.wf {} u.dio.encs ∧ a < 16 ∧ channelOfPulse u a = some n ∧ (axisOf (u.runPulse n) n).canStep u.now = true) ∧
    (∃ (t : Nat), ∃ (s : State), ∃ (u : State), ∃ a, ∃ n, u = s.at t ∧ Tab.wf {} u.axis.ch ∧ Tab.wf {} u.dio.encs ∧ a < 16 ∧ channelOfPulse u a = some n ∧ (axisOf (u.runPulse n) n).canStep u.now = false) ∧
    (∃ (t : Nat), ∃ (s : State), ∃ (u : State), ∃ a, ∃ n, u = s.at t ∧ Tab.wf {} u.axis.ch ∧ Tab.wf {} u.dio.encs ∧ a < 16 ∧ channelOfPulse u a = some n ∧ (axisOf (u.runPulse n) n).canTurn u.now = true) ∧
    (∃ (t : Nat), ∃ (s : State), ∃ (u : State), ∃ a, u = s.at t ∧ Tab.wf {} u.axis.ch ∧ Tab.wf {} u.dio.encs ∧ a < 16 ∧ channelOfPulse u a = none) ∧
    (∃ (t : Nat), ∃ (s : State), ∃ (u : State), ∃ n, ∃ r, u = s.at t ∧ Tab.wf {} u.axis.ch ∧ Tab.wf {} u.dio.encs ∧ n < axes u ∧ (axisOf u n).kind ≠ 0 ∧ (axisOf u n).m.state = .idle ∧ (axisOf u n).m.seg = none ∧ (axisOf u n).m.late = none ∧ (axisOf u n).restAt = some r) ∧
    (∃ (t : Nat), ∃ (s : State), ∃ (u : State), ∃ pair, u = s.at t ∧ Tab.wf {} u.axis.ch ∧ Tab.wf {} u.dio.encs ∧ pair < 8 ∧ bit u.isl.ss1Req pair = false) ∧
    (∃ (t : Nat), ∃ (s : State), ∃ (u : State), ∃ pair, ∃ n, ∃ c, u = s.at t ∧ Tab.wf {} u.axis.ch ∧ Tab.wf {} u.dio.encs ∧ pair < 8 ∧ bit u.isl.ss1Req pair = true ∧ u.axis.ch = [(n, c)] ∧ c.kind ≠ 0 ∧ bit c.stoPairs pair = true ∧ c.m.seg = none ∧ c.m.late = none ∧ c.m.stopDec = 0 ∧ c.m.state = .idle ∧ c.undo = none) ∧
    (∃ (t : Nat), ∃ (s : State), ∃ (u : State), ∃ n, u = s.at t ∧ Tab.wf {} u.axis.ch ∧ Tab.wf {} u.dio.encs ∧ n < 16 ∧ latchSourceFits u n = false) ∧
    (∃ (t : Nat), ∃ (s : State), ∃ (u : State), ∃ n, u = s.at t ∧ Tab.wf {} u.axis.ch ∧ Tab.wf {} u.dio.encs ∧ n < 16 ∧ latchSourceFits u n = true) :=
  ⟨⟨1440001, State.reset, _, rfl, by decide +kernel⟩,
   ⟨0, (cyclic .run).modAxis fun u => { u with ch := [(255, { kind := 2, cfg := [wd (15 * 2 ^ 10)] })] }, _, 255, { kind := 2, cfg := [wd (15 * 2 ^ 10)] }, rfl, by decide +kernel⟩,
   ⟨0, (State.reset).modAxis fun u => { u with ch := [(255, { kind := 2, cfg := [wd (15 * 2 ^ 10)], pulse := { upTo := 1440000, owed := 1 } })] }, _, 15, 255, rfl, by decide +kernel⟩,
   ⟨0, (State.reset).modAxis fun u => { u with ch := [(255, { kind := 2, cfg := [wd (15 * 2 ^ 10)], pulse := { upTo := 1440000, owed := 0 } })] }, _, 15, 255, rfl, by decide +kernel⟩,
   ⟨0, (State.reset).modAxis fun u => { u with ch := [(255, { kind := 2, cfg := [wd (15 * 2 ^ 10)], pulse := { upTo := 1440000, inc := -1 } })] }, _, 15, 255, rfl, by decide +kernel⟩,
   ⟨0, State.reset, _, 15, rfl, by decide +kernel⟩,
   ⟨0, (State.reset).modAxis fun u => { u with ch := [(255, { kind := 3, restAt := some 0 })] }, _, 255, 0, rfl, by decide +kernel⟩,
   ⟨0, State.reset, _, 7, rfl, by decide +kernel⟩,
   ⟨0, ((State.reset).modIsl fun u => { u with ss1Req := 128 }).modAxis fun u => { u with ch := [(255, { kind := 1, cfg := List.replicate 16 0 ++ [128] })] }, _, 7, 255, { kind := 1, cfg := List.replicate 16 0 ++ [128] }, rfl, by decide +kernel⟩,
   ⟨0, (State.reset).modDio fun u => { u with encs := [(15, { configured := true, latchSrc := 1 })] }, _, 15, rfl, by decide +kernel⟩,
   ⟨0, (State.reset).modDio fun u => { u with encs := [(15, { armed := true })] }, _, 15, rfl, by decide +kernel⟩⟩

theorem witness_ConvertersRun :
    (∃ (t : Nat), ∃ (s : State), ∃ (u : State), ∃ c, ∃ raw, ∃ pos, ∃ instant, u = s.at t ∧ Tab.wf {} u.adc.convs ∧ Tab.wf {} u.adc.results ∧ c < converters u ∧ raw < 65536 ∧ pos < 8 ∧ (convOf u c).busy = some (.table, pos) ∧ (convOf u c).retry = [] ∧ sampleFits (convOf u c) .table instant u = true ∧ domainOn u 9 = true) ∧
    (∃ (t : Nat), ∃ (s : State), ∃ (u : State), ∃ c, ∃ raw, ∃ pos, ∃ instant, u = s.at t ∧ Tab.wf {} u.adc.convs ∧ Tab.wf {} u.adc.results ∧ c < converters u ∧ raw < 65536 ∧ (convOf u c).busy = some (.table, pos) ∧ pos ∈ (convOf u c).retry ∧ sampleFits (convOf u c) .table instant u = true ∧ domainOn u 9 = true) ∧
    (∃ (t : Nat), ∃ (s : State), ∃ (u : State), ∃ c, ∃ raw, ∃ pos, ∃ (kind : ConvKind), ∃ instant, u = s.at t ∧ Tab.wf {} u.adc.convs ∧ Tab.wf {} u.adc.results ∧ c < converters u ∧ raw < 65536 ∧ (convOf u c).busy = some (kind, pos) ∧ (sampleFits (convOf u c) kind instant u = false ∨ domainOn u 9 = false)) ∧
    (∃ (t : Nat), ∃ (s : State), ∃ (u : State), ∃ g, u = s.at t ∧ Tab.wf {} u.adc.convs ∧ Tab.wf {} u.adc.results ∧ g < 4 ∧ groupDue (look {} u.adc.groups g) u = false) ∧
    (∃ (t : Nat), ∃ (s : State), ∃ (u : State), ∃ g, u = s.at t ∧ Tab.wf {} u.adc.convs ∧ Tab.wf {} u.adc.results ∧ g < 4 ∧ groupDue (look {} u.adc.groups g) u = true ∧ domainOn u 9 = true ∧ ((∀ c ∈ bitsOf 16 (look {} u.adc.groups g).convMask, (convOf u c).faulted = false ∧ (convOf u c).busy = none ∧ (convOf u c).waitingUrgent = none))) ∧
    (∃ (t : Nat), ∃ (s : State), ∃ (u : State), ∃ c, ∃ k, u = s.at t ∧ Tab.wf {} u.adc.convs ∧ Tab.wf {} u.adc.results ∧ c < converters u ∧ (convOf u c).calibration = some k ∧ k.count < 1024) ∧
    (∃ (t : Nat), ∃ (s : State), ∃ (u : State), ∃ c, ∃ k, u = s.at t ∧ Tab.wf {} u.adc.convs ∧ Tab.wf {} u.adc.results ∧ c < converters u ∧ (convOf u c).calibration = some k ∧ 1024 ≤ k.count ∧ k.full = false) ∧
    (∃ (t : Nat), ∃ (s : State), ∃ (u : State), ∃ n, u = s.at t ∧ Tab.wf {} u.adc.convs ∧ Tab.wf {} u.adc.results ∧ n < 128 ∧ u.present 7 = false) ∧
    (∃ (t : Nat), ∃ (s : State), ∃ (u : State), ∃ n, u = s.at t ∧ Tab.wf {} u.adc.convs ∧ Tab.wf {} u.adc.results ∧ n < 128 ∧ u.present 7 = true) :=
  ⟨⟨0, (State.reset).modAdc fun u => { u with convs := [(15, { busy := some (.table, 7) })] }, _, 15, 65535, 7, 0, rfl, by decide +kernel⟩,
   ⟨0, (State.reset).modAdc fun u => { u with convs := [(15, { busy := some (.table, 7), retry := [7] })] }, _, 15, 65535, 7, 0, rfl, by decide +kernel⟩,
   ⟨0, (State.reset).modAdc fun u => { u with convs := [(15, { busy := some (.table, 7) })] }, _, 15, 65535, 7, .table, 10 ^ 12, rfl, by decide +kernel⟩,
   ⟨0, State.reset, _, 3, rfl, by decide +kernel⟩,
   ⟨0, (State.reset).modAdc fun u => { u with groups := [(3, { trig := 2, convMask := 65535 })] }, _, 3, rfl, by decide +kernel⟩,
   ⟨0, (State.reset).modAdc fun u => { u with convs := [(15, { calibration := some { input := 127, full := false, refV := 0, count := 1023 } })] }, _, 15, { input := 127, full := false, refV := 0, count := 1023 }, rfl, by decide +kernel⟩,
   ⟨0, (State.reset).modAdc fun u => { u with convs := [(15, { calibration := some { input := 127, full := false, refV := 0, count := 1024 } })] }, _, 15, { input := 127, full := false, refV := 0, count := 1024 }, rfl, by decide +kernel⟩,
   ⟨0, (State.reset).modBoot fun u => { u with variant := .ubr1650 }, _, 127, rfl, by decide +kernel⟩,
   ⟨0, State.reset, _, 127, rfl, by decide +kernel⟩⟩

theorem witness_InputsAndOutputsMove :
    (∃ (t : Nat), ∃ (s : State), ∃ (u : State), ∃ n, u = s.at t ∧ Tab.wf {} u.dio.dins ∧ Tab.wf {} u.dio.douts ∧ Tab.wf {} u.dio.pwms ∧ Tab.wf {} u.dio.encs ∧ n < 64 ∧ domainOn u 4 = false) ∧
    (∃ (t : Nat), ∃ (s : State), ∃ (u : State), ∃ n, u = s.at t ∧ Tab.wf {} u.dio.dins ∧ Tab.wf {} u.dio.douts ∧ Tab.wf {} u.dio.pwms ∧ Tab.wf {} u.dio.encs ∧ n < 64 ∧ domainOn u 4 = true ∧ (dinOf u n).filter = 0 ∧ (dinOf u n).activeLow = false ∧ (dinOf u n).raw = false ∧ (dinOf u n).filtered = false) ∧
    (∃ (t : Nat), ∃ (s : State), ∃ (u : State), ∃ n, u = s.at t ∧ Tab.wf {} u.dio.dins ∧ Tab.wf {} u.dio.douts ∧ Tab.wf {} u.dio.pwms ∧ Tab.wf {} u.dio.encs ∧ n < 64 ∧ (dinOf (settleDins u) n).isStuck u.now = false) ∧
    (∃ (t : Nat), ∃ (s : State), ∃ (u : State), ∃ n, u = s.at t ∧ Tab.wf {} u.dio.dins ∧ Tab.wf {} u.dio.douts ∧ Tab.wf {} u.dio.pwms ∧ Tab.wf {} u.dio.encs ∧ n < 64 ∧ (dinOf (settleDins u) n).isStuck u.now = true) ∧
    (∃ (t : Nat), ∃ (s : State), ∃ (u : State), ∃ n, u = s.at t ∧ Tab.wf {} u.dio.dins ∧ Tab.wf {} u.dio.douts ∧ Tab.wf {} u.dio.pwms ∧ Tab.wf {} u.dio.encs ∧ n < 64 ∧ (doutOf u n).disagree = none) ∧
    (∃ (t : Nat), ∃ (s : State), ∃ (u : State), ∃ n, ∃ d, u = s.at t ∧ Tab.wf {} u.dio.dins ∧ Tab.wf {} u.dio.douts ∧ Tab.wf {} u.dio.pwms ∧ Tab.wf {} u.dio.encs ∧ n < 64 ∧ (doutOf u n).disagree = some d ∧ u.now < d + clocksOfUs 10) ∧
    (∃ (t : Nat), ∃ (s : State), ∃ (u : State), ∃ n, ∃ level, ∃ d, u = s.at t ∧ Tab.wf {} u.dio.dins ∧ Tab.wf {} u.dio.douts ∧ Tab.wf {} u.dio.pwms ∧ Tab.wf {} u.dio.encs ∧ n < 64 ∧ (doutOf u n).disagree = some d ∧ d + clocksOfUs 10 ≤ u.now ∧ (doutOf u n).disagrees level = true) ∧
    (∃ (t : Nat), ∃ (s : State), ∃ (u : State), ∃ n, ∃ level, ∃ d, u = s.at t ∧ Tab.wf {} u.dio.dins ∧ Tab.wf {} u.dio.douts ∧ Tab.wf {} u.dio.pwms ∧ Tab.wf {} u.dio.encs ∧ n < 64 ∧ (doutOf u n).disagree = some d ∧ d + clocksOfUs 10 ≤ u.now ∧ (doutOf u n).disagrees level = false) ∧
    (∃ (t : Nat), ∃ (s : State), ∃ (u : State), ∃ n, u = s.at t ∧ Tab.wf {} u.dio.dins ∧ Tab.wf {} u.dio.douts ∧ Tab.wf {} u.dio.pwms ∧ Tab.wf {} u.dio.encs ∧ n < 32 ∧ ((pwmOf u n).configured = false ∨ (pwmOf u n).startsNow u = false)) ∧
    (∃ (t : Nat), ∃ (s : State), ∃ (u : State), ∃ n, u = s.at t ∧ Tab.wf {} u.dio.dins ∧ Tab.wf {} u.dio.douts ∧ Tab.wf {} u.dio.pwms ∧ Tab.wf {} u.dio.encs ∧ n < 32 ∧ (pwmOf u n).configured = true ∧ (pwmOf u n).startsNow u = true) ∧
    (∃ (t : Nat), ∃ (s : State), ∃ (u : State), ∃ n, ∃ a, ∃ b, u = s.at t ∧ Tab.wf {} u.dio.dins ∧ Tab.wf {} u.dio.douts ∧ Tab.wf {} u.dio.pwms ∧ Tab.wf {} u.dio.encs ∧ n < 16 ∧ domainOn u 4 = true ∧ (encOf u n).configured = true ∧ (encOf u n).mode = 0 ∧ (encOf u n).filter = 0 ∧ (encOf u n).rawA = (encOf u n).a ∧ (encOf u n).rawB = (encOf u n).b ∧ (quadPhase a b + 4 - quadPhase (encOf u n).a (encOf u n).b) % 4 = 1) :=
  ⟨⟨0, (State.reset).modPwr fun t => { t with domains := [(4, { state := .retain })] }, _, 63, rfl, by decide +kernel⟩,
   ⟨0, State.reset, _, 63, rfl, by decide +kernel⟩,
   ⟨0, State.reset, _, 63, rfl, by decide +kernel⟩,
   ⟨0, (State.reset).modDio fun u => { u with dins := [(63, { raw := true, filtered := true, stuckMs := 1 })] }, _, 63, rfl, by decide +kernel⟩,
   ⟨0, State.reset, _, 63, rfl, by decide +kernel⟩,
   ⟨0, (State.reset).modDio fun u => { u with douts := [(63, { disagree := some 1440000 })] }, _, 63, 1440000, rfl, by decide +kernel⟩,
   ⟨0, (State.reset).modDio fun u => { u with douts := [(63, { disagree := some 0, drive := .low })] }, _, 63, true, 0, rfl, by decide +kernel⟩,
   ⟨0, (State.reset).modDio fun u => { u with douts := [(63, { disagree := some 0 })] }, _, 63, true, 0, rfl, by decide +kernel⟩,
   ⟨0, State.reset, _, 31, rfl, by decide +kernel⟩,
   ⟨0, (State.reset).modDio fun u => { u with pwms := [(31, { configured := true })] }, _, 31, rfl, by decide +kernel⟩,
   ⟨0, (State.reset).modDio fun u => { u with encs := [(15, { configured := true })] }, _, 15, true, false, rfl, by decide +kernel⟩⟩

theorem witness_CapturesRun :
    (∃ (t : Nat), ∃ (s : State), ∃ (u : State), u = s.at t ∧ Canonical u ∧ Tab.wf {} u.acq.captures ∧ u.acq.ingest = []) ∧
    (∃ (t : Nat), ∃ (s : State), ∃ (u : State), ∃ p, ∃ rest, u = s.at t ∧ Canonical u ∧ Tab.wf {} u.acq.captures ∧ u.acq.ingest = p :: rest ∧ p.entry < 0x3000) ∧
    (∃ (t : Nat), ∃ (s : State), ∃ (u : State), ∃ p, ∃ h, ∃ e, u = s.at t ∧ Canonical u ∧ Tab.wf {} u.acq.captures ∧ u.acq.ingest = [p] ∧ p.entry < 0x3000 ∧ u.acq.hists = [(h, e)] ∧ h < 16 ∧ e.enable = true ∧ e.source = p.entry ∧ u.acq.pmaps = [] ∧ u.acq.triggers = [] ∧ Fmt.b64.isNan (toReal64 (entryType u p.entry) p.value) = false ∧ 0 ≤ binOf (toReal64 (entryType u p.entry) p.value) e.low e.width ∧ binOf (toReal64 (entryType u p.entry) p.value) e.low e.width < 1022) ∧
    (∃ (t : Nat), ∃ (s : State), ∃ (u : State), ∃ c, u = s.at t ∧ Canonical u ∧ Tab.wf {} u.acq.captures ∧ c < 16 ∧ (capOf u c).running = false) ∧
    (∃ (t : Nat), ∃ (s : State), ∃ (u : State), ∃ c, u = s.at t ∧ Canonical u ∧ Tab.wf {} u.acq.captures ∧ c < 16 ∧ (capOf u c).running = true ∧ (capOf u c).pausedAt = none ∧ usOf u.clock < (capOf u c).nextB + (capOf u c).len + (capOf u c).lateUs) ∧
    (∃ (t : Nat), ∃ (s : State), ∃ (u : State), ∃ c, u = s.at t ∧ Canonical u ∧ Tab.wf {} u.acq.captures ∧ c < 16 ∧ (capOf u c).running = true ∧ (capOf u c).pausedAt = none ∧ (capOf u c).windowClass = false ∧ (capOf u c).stopAt = none ∧ (capOf u c).nextB + (capOf u c).len + (capOf u c).lateUs ≤ usOf u.clock) ∧
    (∃ (t : Nat), ∃ (s : State), ∃ (u : State), ∃ c, u = s.at t ∧ Canonical u ∧ Tab.wf {} u.acq.captures ∧ c < 16 ∧ (capOf u c).queue = [] ∧ (capOf u c).sending = []) ∧
    (∃ (t : Nat), ∃ (s : State), ∃ (u : State), ∃ c, ∃ dma, ∃ q, ∃ rest, u = s.at t ∧ Canonical u ∧ Tab.wf {} u.acq.captures ∧ c < 16 ∧ (capOf u c).queue = q :: rest ∧ (ringOf u (capOf u c).ring).kind = 3 ∧ (ringPut (capOf u c).ring (readRegion u (capOf u c) q.slot q.nwords) dma u).2 = true) ∧
    (∃ (t : Nat), ∃ (s : State), ∃ (u : State), ∃ m, u = s.at t ∧ Canonical u ∧ Tab.wf {} u.acq.captures ∧ m < 4 ∧ ((look {} u.acq.pmaps m).decayMs = 0 ∨ u.now < (look {} u.acq.pmaps m).decayFrom + clocksOfUs ((look {} u.acq.pmaps m).decayMs * 1000))) ∧
    (∃ (t : Nat), ∃ (s : State), ∃ (u : State), ∃ m, ∃ due, u = s.at t ∧ due = (look {} u.acq.pmaps m).decayFrom + clocksOfUs ((look {} u.acq.pmaps m).decayMs * 1000) ∧ Canonical u ∧ Tab.wf {} u.acq.captures ∧ m < 4 ∧ (look {} u.acq.pmaps m).decayMs ≠ 0 ∧ due ≤ u.now) :=
  ⟨⟨0, State.reset, _, rfl, by decide +kernel⟩,
   ⟨0, (State.reset).modAcq fun u => { u with ingest := [{ entry := 0, stamp := 0, value := 0 }] }, _, { entry := 0, stamp := 0, value := 0 }, [], rfl, by decide +kernel⟩,
   ⟨0, (State.reset).modAcq fun u => { u with ingest := [{ entry := 0, stamp := 0, value := 0 }], hists := [(15, { enable := true, width := 0x3FF0000000000000 })] }, _, { entry := 0, stamp := 0, value := 0 }, 15, { enable := true, width := 0x3FF0000000000000 }, rfl, by decide +kernel⟩,
   ⟨0, State.reset, _, 15, rfl, by decide +kernel⟩,
   ⟨0, (State.reset).modAcq fun u => { u with captures := [(15, { running := true, nextB := 1800 })] }, _, 15, rfl, by decide +kernel⟩,
   ⟨0, (State.reset).modAcq fun u => { u with captures := [(15, { running := true, nextB := 1699 })] }, _, 15, rfl, by decide +kernel⟩,
   ⟨0, State.reset, _, 15, rfl, by decide +kernel⟩,
   ⟨0, ringIn 63 { state := .active, kind := 3, log2 := 4 } ((State.reset).modAcq fun u => { u with captures := [(15, { running := true, ring := 63, regionSize := 128, queue := [{ slot := 0, slots := 1, nwords := 16, rseq := 0, time := 0, lengthNs := 0, log2 := 0 }] })] }), _, 15, .ok, { slot := 0, slots := 1, nwords := 16, rseq := 0, time := 0, lengthNs := 0, log2 := 0 }, [], rfl, by decide +kernel⟩,
   ⟨0, State.reset, _, 3, rfl, by decide +kernel⟩,
   ⟨0, (State.reset).modAcq fun u => { u with pmaps := [(3, { enable := true, decayMs := 1 })] }, _, 3, _, rfl, rfl, by decide +kernel⟩⟩

theorem witness_RingRuns :
    (∃ (t : Nat), ∃ (s : State), ∃ (u : State), ∃ (f : Frame), u = s.at t ∧ (ifaceOf u f.down).state = .disabled) ∧
    (∃ (t : Nat), ∃ (s : State), ∃ (u : State), ∃ (f : Frame), ∃ (v : State), u = s.at t ∧ Passes 1 f true u v ∧ f.down = false ∧ u.drove.up.state = .listen ∧ syncBodyOk f.payload = true) ∧
    (∃ (t : Nat), ∃ (s : State), ∃ (u : State), ∃ (f : Frame), ∃ (v : State), u = s.at t ∧ Passes 2 f false u v ∧ f.down = false ∧ u.drove.up.state = .integrated ∧ u.drove.member = some f.dst ∧ f.src = 0x80 ∧ f.cycle = devCycle u ∧ pastCommitPoint u = false) ∧
    (∃ (t : Nat), ∃ (s : State), ∃ (u : State), ∃ (f : Frame), ∃ (v : State), u = s.at t ∧ Passes 2 f false u v ∧ f.down = false ∧ u.drove.up.state = .integrated ∧ u.drove.member = some f.dst ∧ f.src = 0x80 ∧ f.cycle ≠ devCycle u) ∧
    (∃ (t : Nat), ∃ (s : State), ∃ (u : State), ∃ (f : Frame), ∃ (v : State), u = s.at t ∧ Passes 4 f false u v ∧ f.down = false ∧ u.drove.up.state = .integrated ∧ f.src = 0x80 ∧ f.payload.length = 3 ∧ u.drove.up.announce = none ∧ (f.payload.getD 0 0).toNat % 16 = 1) ∧
    (∃ (t : Nat), ∃ (s : State), ∃ (u : State), ∃ (f : Frame), ∃ (v : State), ∃ n, u = s.at t ∧ Passes 5 f true u v ∧ joinSerial f = Config.serial.toNat ∧ n = field (f.payload.getD 2 0).toNat 2 6 ∧ f.down = false ∧ u.drove.up.state = .joining ∧ f.src = 0x80 ∧ f.payload.length = 4 ∧ bit (f.payload.getD 2 0).toNat 1 = false) ∧
    (∃ (t : Nat), ∃ (s : State), ∃ (u : State), ∃ (f : Frame), ∃ (v : State), ∃ (ws : List Word), u = s.at t ∧ Passes 3 f false u v ∧ f.down = false ∧ u.drove.up.state = .integrated ∧ u.drove.member = some f.dst ∧ u.drove.above = {} ∧ f.payload = [0x0B000000, 0] ++ ws ∧ 2 ≤ ws.length) ∧
    (∃ (t : Nat), ∃ (s : State), ∃ (u : State), ∃ down, ∃ i, u = s.at t ∧ i < 512 ∧ ((ifaceOf u down).state = .muted ∨ slotOpen u down i = false)) ∧
    (∃ (t : Nat), ∃ (s : State), ∃ (u : State), ∃ i, u = s.at t ∧ i < 512 ∧ u.drove.down.state = .integrated ∧ u.drove.down.takeover = false ∧ u.drove.down.silentCycle = none ∧ u.pair.role = .off ∧ u.pair.tookAt = none ∧ i < nSlots (modeInForce u true) ∧ (slotAt (modeInForce u true) i).kind = 1 ∧ (slotAt (modeInForce u true) i).src = 0x80 ∧ slotOpen u true i = true ∧ (u.drove.down.linkA.looped = false ∨ u.drove.down.linkB.looped = false) ∧ u.clock + (laneBusy u.drove.down true - u.now) ≤ ringCycleStart u true + slotClocks u true i + 32) ∧
    (∃ (t : Nat), ∃ (s : State), ∃ (u : State), ∃ (b : Beacon), u = s.at t ∧ portsOn u b.down = false) ∧
    (∃ (t : Nat), ∃ (s : State), ∃ (u : State), ∃ (b : Beacon), u = s.at t ∧ portsOn u b.down = true ∧ b.btype = 1 ∧ statusOnly u b.down b.portB = false) ∧
    (∃ (t : Nat), ∃ (s : State), ∃ (u : State), ∃ (b : Beacon), u = s.at t ∧ b.btype = 1 ∧ statusOnly u b.down b.portB = true) ∧
    (∃ (t : Nat), ∃ (s : State), ∃ (u : State), u = s.at t ∧ portsOn u false = false ∧ portsOn u true = false) ∧
    (∃ (t : Nat), ∃ (s : State), ∃ (u : State), ∃ b, u = s.at t ∧ portsOn u false = true ∧ (linkOf u.drove.up b).up = true) ∧
    (∃ (t : Nat), ∃ (s : State), ∃ (u : State), ∃ b, u = s.at t ∧ portsOn u false = true ∧ (linkOf u.drove.up b).up = false ∧ (linkOf u.drove.up b).rxOk = true ∧ (linkOf u.drove.up b).peerOk = true ∧ (linkOf u.drove.up b).crossed = false ∧ (linkOf u.drove.up b).badAt + clocksOfUs 1000 ≤ u.now) ∧
    (∃ (t : Nat), ∃ (s : State), ∃ (u : State), ∃ f, u = s.at t ∧ u.drove.lanesFrom = some f ∧ portsOn u false = true ∧ u.drove.bypassHigh = false ∧ f + clocksOfUs 10 ≤ u.now) ∧
    (∃ (t : Nat), ∃ (s : State), ∃ (u : State), u = s.at t ∧ u.drove.lanesFrom = none) ∧
    (∃ (t : Nat), ∃ (s : State), ∃ (u : State), ∃ down, u = s.at t ∧ (ifaceOf u down).listenFrom + listenClocks u down ≤ u.now ∧ (ifaceOf u down).state = .listen ∧ coldCapable u down = true ∧ (ifaceOf u down).linkA.up = true) ∧
    (∃ (t : Nat), ∃ (s : State), ∃ (u : State), ∃ down, u = s.at t ∧ (ifaceOf u down).state ≠ .listen) ∧
    (∃ (t : Nat), ∃ (s : State), ∃ (u : State), ∃ down, ∃ b, u = s.at t ∧ (ifaceOf u down).backoffUntil = some b ∧ b ≤ u.now) ∧
    (∃ (t : Nat), ∃ (s : State), ∃ (u : State), ∃ down, u = s.at t ∧ (ifaceOf u down).backoffUntil = none) ∧
    (∃ (t : Nat), ∃ (s : State), ∃ (u : State), u = s.at t ∧ (u.drove.up.stepOf = some (ringCycleStart u false) ∨ u.clock < ringCycleStart u false + stepClocks u false) ∧ u.pair.role = .off) ∧
    (∃ (t : Nat), ∃ (s : State), ∃ (u : State), u = s.at t ∧ u.pair.role = .off ∧ u.drove.up.state = .integrated ∧ u.drove.up.stepOf ≠ some (ringCycleStart u false) ∧ ringCycleStart u false + stepClocks u false ≤ u.clock ∧ u.drove.up.syncAccepted = false ∧ u.drove.up.failures < 2) ∧
    (∃ (t : Nat), ∃ (s : State), ∃ (u : State), u = s.at t ∧ u.pair.role = .off ∧ u.drove.up.state = .integrated ∧ u.drove.up.stepOf ≠ some (ringCycleStart u false) ∧ ringCycleStart u false + stepClocks u false ≤ u.clock ∧ u.drove.up.syncAccepted = false ∧ 2 ≤ u.drove.up.failures) ∧
    (∃ (t : Nat), ∃ (s : State), ∃ (u : State), u = s.at t ∧ u.host.deferred = []) ∧
    (∃ (t : Nat), ∃ (s : State), ∃ (u : State), ∃ d, u = s.at t ∧ u.host.deferred = [d] ∧ d.op = .ringScheduleWrite ∧ d.data.getD 0 0 + clocksOfUs 100000 ≤ u.now) :=
  ⟨⟨0, State.reset, _, fromAbove 511 0 [], rfl, by decide +kernel⟩,
   ⟨0, upMember .listen, _, fromAbove 511 18 [100 + 100 * 2 ^ 14, 0, 0, 0, 0, 0, 0, 0], (after 1 (fromAbove 511 18 [100 + 100 * 2 ^ 14, 0, 0, 0, 0, 0, 0, 0]) true ((upMember .listen).at 0)), rfl, passes (by decide +kernel) (by decide +kernel), by decide +kernel⟩,
   ⟨0, upMember .integrated, _, fromAbove 0 18 [0], (after 2 (fromAbove 0 18 [0]) false ((upMember .integrated).at 0)), rfl, passes (by decide +kernel) (by decide +kernel), by decide +kernel⟩,
   ⟨0, upMember .integrated, _, fromAbove 0 17 [0], (after 2 (fromAbove 0 17 [0]) false ((upMember .integrated).at 0)), rfl, passes (by decide +kernel) (by decide +kernel), by decide +kernel⟩,
   ⟨0, upMember .integrated, _, fromAbove 1 18 [1, 0, 0], (after 4 (fromAbove 1 18 [1, 0, 0]) false ((upMember .integrated).at 0)), rfl, passes (by decide +kernel) (by decide +kernel), by decide +kernel⟩,
   ⟨0, upMember .joining, _, granted, (after 5 (granted) true ((upMember .joining).at 0)), _, rfl, passes (by decide +kernel) (by decide +kernel), granted_serial, rfl, by decide +kernel⟩,
   ⟨0, upMember .integrated, _, fromAbove 2 18 [0x0B000000, 0, 7, 8], (after 3 (fromAbove 2 18 [0x0B000000, 0, 7, 8]) false ((upMember .integrated).at 0)), [7, 8], rfl, passes (by decide +kernel) (by decide +kernel), by decide +kernel⟩,
   ⟨0, upMember .muted, _, false, 511, rfl, by decide +kernel⟩,
   ⟨0, managing, _, 0, rfl, by decide +kernel⟩,
   ⟨0, State.reset, _, { down := false, portB := true, btype := 2 }, rfl, by decide +kernel⟩,
   ⟨0, managing, _, { down := true, portB := true, btype := 1 }, rfl, by decide +kernel⟩,
   ⟨0, (managing).modDrove fun u => { u with down := { u.down with linkB := { looped := true } } }, _, { down := true, portB := true, btype := 1 }, rfl, by decide +kernel⟩,
   ⟨0, State.reset, _, rfl, by decide +kernel⟩,
   ⟨0, (upMember .listen).modDrove fun u => { u with up := { u.up with linkB := { up := true } } }, _, true, rfl, by decide +kernel⟩,
   ⟨80000, (upMember .listen).modDrove fun u => { u with up := { u.up with linkB := { up := false, rxOk := true, peerOk := true, badAt := 0 } } }, _, true, rfl, by decide +kernel⟩,
   ⟨0, (upMember .listen).modDrove fun u => { u with lanesFrom := some 0 }, _, 0, rfl, by decide +kernel⟩,
   ⟨0, State.reset, _, rfl, by decide +kernel⟩,
   ⟨4000000, listening, _, true, rfl, listened, by decide +kernel⟩,
   ⟨0, State.reset, _, false, rfl, by decide +kernel⟩,
   ⟨0, (State.reset).modDrove fun u => { u with up := { u.up with backoffUntil := some 1440000 } }, _, false, 1440000, rfl, by decide +kernel⟩,
   ⟨0, State.reset, _, true, rfl, by decide +kernel⟩,
   ⟨0, State.reset, _, rfl, by decide +kernel⟩,
   ⟨1450000, (upMember .integrated).modDrove fun u => { u with up := { u.up with failures := 1 } }, _, rfl, by decide +kernel⟩,
   ⟨1450000, (upMember .integrated).modDrove fun u => { u with up := { u.up with failures := 2 } }, _, rfl, by decide +kernel⟩,
   ⟨0, State.reset, _, rfl, by decide +kernel⟩,
   ⟨80000000, (State.reset).modHost fun u => { u with deferred := [{ op := .ringScheduleWrite, packet := {} }] }, _, { op := .ringScheduleWrite, packet := {} }, rfl, by decide +kernel⟩⟩

theorem witness_PairRuns :
    (∃ (t : Nat), ∃ (s : State), ∃ (u : State), u = s.at t ∧ u.pair.outgoing = none) ∧
    (∃ (t : Nat), ∃ (s : State), ∃ (u : State), ∃ o, ∃ c, u = s.at t ∧ u.pair.outgoing = some o ∧ u.keep.next = some c ∧ u.pair.role.holds = true ∧ u.pair.laneUp = true) ∧
    (∃ (t : Nat), ∃ (s : State), ∃ (u : State), ∃ q, u = s.at t ∧ q < 65536 ∧ silentHalf u = false) ∧
    (∃ (t : Nat), ∃ (s : State), ∃ (u : State), ∃ q, u = s.at t ∧ q < 65536 ∧ silentHalf u = true ∧ u.dev.mode ≠ .configure ∧ (u.pair.role = .syncing ∨ u.pair.seq = q)) ∧
    (∃ (t : Nat), ∃ (s : State), ∃ (u : State), ∃ q, u = s.at t ∧ q < 65536 ∧ u.pair.role = .standby ∧ u.dev.mode ≠ .configure ∧ u.pair.seq ≠ q) ∧
    (∃ (t : Nat), ∃ (s : State), ∃ (u : State), ∃ q, u = s.at t ∧ q < 65536 ∧ u.pair.role.holds = false) ∧
    (∃ (t : Nat), ∃ (s : State), ∃ (u : State), ∃ q, u = s.at t ∧ q < 65536 ∧ u.pair.role.holds = true ∧ u.pair.crookIn = false ∧ look 0 u.pair.sentAt q ≠ 0) ∧
    (∃ (t : Nat), ∃ (s : State), ∃ (u : State), u = s.at t ∧ u.pair.role.holds = true ∧ u.pair.laneUp = false ∧ u.pair.crookIn = false) ∧
    (∃ (t : Nat), ∃ (s : State), ∃ (u : State), u = s.at t ∧ u.pair.role.holds = true ∧ u.pair.laneUp = true ∧ u.pair.leaseEnd ≤ u.now) ∧
    (∃ (t : Nat), ∃ (s : State), ∃ (u : State), u = s.at t ∧ u.pair.role.holds = true ∧ u.pair.laneUp = true ∧ u.now < u.pair.leaseEnd ∧ u.pair.crookIn = false) ∧
    (∃ (t : Nat), ∃ (s : State), ∃ (u : State), u = s.at t ∧ u.pair.role.holds = true ∧ u.now < u.pair.leaseEnd ∧ u.pair.crookIn = true ∧ laneShows u = false) ∧
    (∃ (t : Nat), ∃ (s : State), ∃ (u : State), u = s.at t ∧ u.pair.crookIn = false ∧ u.pair.lastRenew + leaseClocks u * 5 / 4 ≤ u.now ∧ u.pair.role = .standby) ∧
    (∃ (t : Nat), ∃ (s : State), ∃ (u : State), u = s.at t ∧ u.pair.crookIn = false ∧ u.pair.lastRenew + leaseClocks u * 5 / 4 ≤ u.now ∧ u.pair.role = .syncing) ∧
    (∃ (t : Nat), ∃ (s : State), ∃ (u : State), ∃ q, u = s.at t ∧ q < 65536 ∧ u.pair.role = .standby ∧ u.pair.seq = q ∧ u.pair.crookIn = false) ∧
    (∃ (t : Nat), ∃ (s : State), ∃ (u : State), ∃ q, u = s.at t ∧ q < 65536 ∧ u.pair.role ≠ .standby) ∧
    (∃ (t : Nat), ∃ (s : State), ∃ (u : State), u = s.at t ∧ silentHalf u = true ∧ u.pair.laneUp = false ∧ u.pair.crookIn = false ∧ u.boot.windowOpened = none ∧ u.pair.alarmFrom + leaseClocks u * (if u.pair.half1 then 10 else 5) / 4 ≤ u.now) ∧
    (∃ (t : Nat), ∃ (s : State), ∃ (u : State), ∃ (d : Delta), u = s.at t ∧ d.seq < 65536 ∧ d.good = true ∧ u.pair.role = .standby ∧ d.seq = (u.pair.seq + 1) % 65536) ∧
    (∃ (t : Nat), ∃ (s : State), ∃ (u : State), ∃ (d : Delta), u = s.at t ∧ d.seq < 65536 ∧ d.good = false ∧ u.pair.role = .standby) ∧
    (∃ (t : Nat), ∃ (s : State), ∃ (u : State), u = s.at t ∧ u.pair.role ≠ .syncing) ∧
    (∃ (t : Nat), ∃ (s : State), ∃ (u : State), u = s.at t ∧ u.pair.giveUp = none) ∧
    (∃ (t : Nat), ∃ (s : State), ∃ (u : State), ∃ g, u = s.at t ∧ u.pair.giveUp = some g ∧ g.cycle = none ∧ g.handover = none ∧ u.pair.role = .active ∧ u.pair.peerStandby = true) ∧
    (∃ (t : Nat), ∃ (s : State), ∃ (u : State), u = s.at t ∧ u.present 13 = true ∧ (u.pair.role.holds = false ∨ u.pair.crookIn = false)) ∧
    (∃ (t : Nat), ∃ (s : State), ∃ (u : State), u = s.at t ∧ u.present 13 = true ∧ u.pair.role.holds = true ∧ u.pair.crookIn = true) :=
  ⟨⟨0, State.reset, _, rfl, by decide +kernel⟩,
   ⟨0, ((State.reset).modPair fun u => { u with role := .active, laneUp := true, outgoing := some { seq := 0, cycle := 0, words := [] } }).modKeep fun u => { u with next := some (cocoon .run) }, _, { seq := 0, cycle := 0, words := [] }, cocoon .run, rfl, by decide +kernel⟩,
   ⟨0, State.reset, _, 65535, rfl, by decide +kernel⟩,
   ⟨0, (inMode .run).modPair fun u => { u with role := .standby, seq := 65535 }, _, 65535, rfl, by decide +kernel⟩,
   ⟨0, (inMode .run).modPair fun u => { u with role := .standby, seq := 65534 }, _, 65535, rfl, by decide +kernel⟩,
   ⟨0, State.reset, _, 65535, rfl, by decide +kernel⟩,
   ⟨0, (State.reset).modPair fun u => { u with role := .active, sentAt := [(65535, 1)] }, _, 65535, rfl, by decide +kernel⟩,
   ⟨0, (State.reset).modPair fun u => { u with role := .alone }, _, rfl, by decide +kernel⟩,
   ⟨0, (State.reset).modPair fun u => { u with role := .active, laneUp := true, leaseEnd := 1440000 }, _, rfl, by decide +kernel⟩,
   ⟨0, (State.reset).modPair fun u => { u with role := .active, laneUp := true, leaseEnd := 1440001 }, _, rfl, by decide +kernel⟩,
   ⟨0, (State.reset).modPair fun u => { u with role := .active, laneUp := true, leaseEnd := 1440001, crookIn := true }, _, rfl, by decide +kernel⟩,
   ⟨2000000, (State.reset).modPair fun u => { u with role := .standby }, _, rfl, by decide +kernel⟩,
   ⟨2000000, (State.reset).modPair fun u => { u with role := .syncing }, _, rfl, by decide +kernel⟩,
   ⟨0, (State.reset).modPair fun u => { u with role := .standby, seq := 65535 }, _, 65535, rfl, by decide +kernel⟩,
   ⟨0, State.reset, _, 65535, rfl, by decide +kernel⟩,
   ⟨4000000, (State.reset).modPair fun u => { u with role := .standby, half1 := true }, _, rfl, by decide +kernel⟩,
   ⟨0, (State.reset).modPair fun u => { u with role := .standby, seq := 65535 }, _, { good := true, seq := 0, records := [], image := cocoon .run }, rfl, by decide +kernel⟩,
   ⟨0, (State.reset).modPair fun u => { u with role := .standby }, _, { good := false, seq := 65535, records := [], image := cocoon .run }, rfl, by decide +kernel⟩,
   ⟨0, State.reset, _, rfl, by decide +kernel⟩,
   ⟨0, State.reset, _, rfl, by decide +kernel⟩,
   ⟨0, (State.reset).modPair fun u => { u with role := .active, peerStandby := true, giveUp := some { cycle := none, handover := none } }, _, { cycle := none, handover := none }, rfl, by decide +kernel⟩,
   ⟨0, State.reset, _, rfl, by decide +kernel⟩,
   ⟨0, (State.reset).modPair fun u => { u with role := .active, laneUp := true, crookIn := true }, _, rfl, by decide +kernel⟩⟩

theorem witness_IslandRuns :
    (∃ (t : Nat), ∃ (s : State), ∃ (u : State), ∃ ch, u = s.at t ∧ Tab.wf {} u.isl.pairs ∧ Tab.wf 0 u.isl.counters ∧ ch < 16 ∧ u.isl.powered = false) ∧
    (∃ (t : Nat), ∃ (s : State), ∃ (u : State), ∃ ch, ∃ p, u = s.at t ∧ Tab.wf {} u.isl.pairs ∧ Tab.wf 0 u.isl.counters ∧ ch < 16 ∧ p < 8 ∧ u.isl.powered = true ∧ u.isl.state = .ready ∧ bit (u.isl.group (ch / 2)) p = true ∧ u.isl.mode p = 0 ∧ pairLive u p = true) ∧
    (∃ (t : Nat), ∃ (s : State), ∃ (u : State), ∃ ch, ∃ p, u = s.at t ∧ Tab.wf {} u.isl.pairs ∧ Tab.wf 0 u.isl.counters ∧ ch < 16 ∧ p < 8 ∧ u.isl.powered = true ∧ u.isl.state = .ready ∧ bit (u.isl.group (ch / 2)) p = true ∧ u.isl.mode p ≠ 0 ∧ (pairOf u p).state = .enabled) ∧
    (∃ (t : Nat), ∃ (s : State), ∃ (u : State), ∃ n, u = s.at t ∧ Tab.wf {} u.isl.pairs ∧ Tab.wf 0 u.isl.counters ∧ n < 8 ∧ (u.isl.state ≠ .ready ∨ bit u.isl.inFault n = true ∨ discrepant u n = false)) ∧
    (∃ (t : Nat), ∃ (s : State), ∃ (u : State), ∃ n, u = s.at t ∧ Tab.wf {} u.isl.pairs ∧ Tab.wf 0 u.isl.counters ∧ n < 8 ∧ u.isl.state = .ready ∧ bit u.isl.inFault n = false ∧ discrepant u n = true) ∧
    (∃ (t : Nat), ∃ (s : State), ∃ (u : State), ∃ ch, u = s.at t ∧ Tab.wf {} u.isl.pairs ∧ Tab.wf 0 u.isl.counters ∧ ch < 16 ∧ (u.isl.state ≠ .ready ∨ windowDue u u.isl.inTestAt ch (field (u.isl.w 1) 20 12 * 1000) = false)) ∧
    (∃ (t : Nat), ∃ (s : State), ∃ (u : State), ∃ ch, u = s.at t ∧ Tab.wf {} u.isl.pairs ∧ Tab.wf 0 u.isl.counters ∧ ch < 16 ∧ u.isl.state = .ready ∧ windowDue u u.isl.inTestAt ch (field (u.isl.w 1) 20 12 * 1000) = true ∧ bit u.isl.levels ch = false ∧ Tab.wf 0 u.isl.inDeferred) ∧
    (∃ (t : Nat), ∃ (s : State), ∃ (u : State), ∃ ch, u = s.at t ∧ Tab.wf {} u.isl.pairs ∧ Tab.wf 0 u.isl.counters ∧ ch < 16 ∧ u.isl.state = .ready ∧ windowDue u u.isl.inTestAt ch (field (u.isl.w 1) 20 12 * 1000) = true ∧ bit u.isl.levels ch = true ∧ bit u.isl.inFailed ch = false) ∧
    (∃ (t : Nat), ∃ (s : State), ∃ (u : State), ∃ ch, u = s.at t ∧ Tab.wf {} u.isl.pairs ∧ Tab.wf 0 u.isl.counters ∧ ch < 16 ∧ u.isl.state = .ready ∧ windowDue u u.isl.inTestAt ch (field (u.isl.w 1) 20 12 * 1000) = true ∧ bit u.isl.levels ch = true ∧ bit u.isl.inFailed ch = true) ∧
    (∃ (t : Nat), ∃ (s : State), ∃ (u : State), ∃ n, u = s.at t ∧ Tab.wf {} u.isl.pairs ∧ Tab.wf 0 u.isl.counters ∧ n < 8 ∧ (u.isl.state ≠ .ready ∨ hardWiredDue u n = false)) ∧
    (∃ (t : Nat), ∃ (s : State), ∃ (u : State), ∃ n, ∃ p, u = s.at t ∧ Tab.wf {} u.isl.pairs ∧ Tab.wf 0 u.isl.counters ∧ n < 8 ∧ p < 8 ∧ u.isl.state = .ready ∧ hardWiredDue u n = true ∧ bit (u.isl.group n) p = true ∧ (pairOf u p).state ≠ .disabled ∧ u.isl.tClass ≠ 0) ∧
    (∃ (t : Nat), ∃ (s : State), ∃ (u : State), ∃ n, ∃ p, u = s.at t ∧ Tab.wf {} u.isl.pairs ∧ Tab.wf 0 u.isl.counters ∧ n < 8 ∧ p < 8 ∧ u.isl.state = .ready ∧ hardWiredDue u n = true ∧ bit (u.isl.group n) p = true ∧ u.isl.tClass = 0) ∧
    (∃ (t : Nat), ∃ (s : State), ∃ (u : State), ∃ p, ∃ f, u = s.at t ∧ Tab.wf {} u.isl.pairs ∧ Tab.wf 0 u.isl.counters ∧ p < 8 ∧ (pairOf u p).hwFrom = some f ∧ u.isl.state = .ready ∧ islandElapsed u f (tHwMs u.isl.tClass * 1000) = true) ∧
    (∃ (t : Nat), ∃ (s : State), ∃ (u : State), ∃ p, u = s.at t ∧ Tab.wf {} u.isl.pairs ∧ Tab.wf 0 u.isl.counters ∧ p < 8 ∧ (pairOf u p).hwFrom = none) ∧
    (∃ (t : Nat), ∃ (s : State), ∃ (u : State), ∃ p, u = s.at t ∧ Tab.wf {} u.isl.pairs ∧ Tab.wf 0 u.isl.counters ∧ p < 8 ∧ u.isl.state = .ready ∧ (pairOf u p).state = .ss1 ∧ u.isl.mode p = 2 ∧ islandElapsed u (pairOf u p).ss1At (((pairOf u p).checks + 1) * 1000) = true ∧ ss1Limit u p ((pairOf u p).checks + 1) < pairSpeed u p) ∧
    (∃ (t : Nat), ∃ (s : State), ∃ (u : State), ∃ p, u = s.at t ∧ Tab.wf {} u.isl.pairs ∧ Tab.wf 0 u.isl.counters ∧ p < 8 ∧ u.isl.state = .ready ∧ (pairOf u p).state = .ss1 ∧ u.isl.mode p = 1 ∧ islandElapsed u (pairOf u p).ss1At (u.isl.ss1MaxMs p * 1000) = true) ∧
    (∃ (t : Nat), ∃ (s : State), ∃ (u : State), ∃ p, u = s.at t ∧ Tab.wf {} u.isl.pairs ∧ Tab.wf 0 u.isl.counters ∧ p < 8 ∧ (pairOf u p).state ≠ .ss1) ∧
    (∃ (t : Nat), ∃ (s : State), ∃ (u : State), u = s.at t ∧ Tab.wf {} u.isl.pairs ∧ Tab.wf 0 u.isl.counters ∧ u.pair.role = .off ∧ u.isl.hbAction = 0) ∧
    (∃ (t : Nat), ∃ (s : State), ∃ (u : State), ∃ p, u = s.at t ∧ ((∀ h, u.isl.hbAt = some h → islandElapsed u h u.isl.hbTimeoutUs = true)) ∧ Tab.wf {} u.isl.pairs ∧ Tab.wf 0 u.isl.counters ∧ p < 8 ∧ u.pair.role = .off ∧ u.isl.hbAction = 2 ∧ u.isl.state = .ready ∧ u.isl.hbLost = false ∧ pairLive u p = true) ∧
    (∃ (t : Nat), ∃ (s : State), ∃ (u : State), ∃ a, ∃ b, u = s.at t ∧ Tab.wf {} u.isl.pairs ∧ Tab.wf 0 u.isl.counters ∧ u.isl.powered = true ∧ u.isl.state ≠ .start ∧ u.isl.state ≠ .fault ∧ a % 65536 ≠ b % 65536) ∧
    (∃ (t : Nat), ∃ (s : State), ∃ (u : State), ∃ a, u = s.at t ∧ Tab.wf {} u.isl.pairs ∧ Tab.wf 0 u.isl.counters ∧ u.isl.powered = true ∧ u.isl.state ≠ .start ∧ u.isl.state ≠ .fault ∧ ((u.isl.state = .ready → a % 65536 = u.isl.swA))) ∧
    (∃ (t : Nat), ∃ (s : State), ∃ (u : State), ∃ pin, u = s.at t ∧ Tab.wf {} u.isl.pairs ∧ Tab.wf 0 u.isl.counters ∧ pin < 16 ∧ u.isl.powered = true ∧ u.isl.state ≠ .fault) ∧
    (∃ (t : Nat), ∃ (s : State), ∃ (u : State), ∃ n, u = s.at t ∧ Tab.wf {} u.isl.pairs ∧ Tab.wf 0 u.isl.counters ∧ 2 ≤ n ∧ u.isl.powered = true ∧ u.isl.state ≠ .fault) ∧
    (∃ (t : Nat), ∃ (s : State), ∃ (u : State), ∃ o, u = s.at t ∧ Tab.wf {} u.isl.pairs ∧ Tab.wf 0 u.isl.counters ∧ o < 16 ∧ u.isl.state ≠ .ready) ∧
    (∃ (t : Nat), ∃ (s : State), ∃ (u : State), ∃ o, u = s.at t ∧ Tab.wf {} u.isl.pairs ∧ Tab.wf 0 u.isl.counters ∧ o < 16 ∧ u.isl.outTest o = true ∧ windowDue u u.isl.outTestAt o (field (u.isl.w 2) 10 12 * 1000) = false ∧ outCommanded u o = true) ∧
    (∃ (t : Nat), ∃ (s : State), ∃ (u : State), ∃ o, u = s.at t ∧ Tab.wf {} u.isl.pairs ∧ Tab.wf 0 u.isl.counters ∧ o < 16 ∧ u.isl.state = .ready ∧ bit u.isl.outFault o = false ∧ u.isl.outTest o = true ∧ u.isl.outFunction o ≠ 0 ∧ windowDue u u.isl.outTestAt o (field (u.isl.w 2) 10 12 * 1000) = true ∧ Tab.wf 0 u.isl.outDeferred) ∧
    (∃ (t : Nat), ∃ (s : State), ∃ (u : State), ∃ o, u = s.at t ∧ Tab.wf {} u.isl.pairs ∧ Tab.wf 0 u.isl.counters ∧ o < 16 ∧ u.isl.state = .ready ∧ outCommanded u o = false ∧ bit u.isl.outFault o = false ∧ bit u.isl.outFailed o = false) ∧
    (∃ (t : Nat), ∃ (s : State), ∃ (u : State), ∃ o, u = s.at t ∧ Tab.wf {} u.isl.pairs ∧ Tab.wf 0 u.isl.counters ∧ o < 16 ∧ u.isl.state = .ready ∧ outCommanded u o = false ∧ bit u.isl.outFault o = false ∧ bit u.isl.outFailed o = true) ∧
    (∃ (t : Nat), ∃ (s : State), ∃ (u : State), ∃ o, u = s.at t ∧ Tab.wf {} u.isl.pairs ∧ Tab.wf 0 u.isl.counters ∧ o < 16 ∧ bit u.isl.sbcHeld o = false) ∧
    (∃ (t : Nat), ∃ (s : State), ∃ (u : State), ∃ o, u = s.at t ∧ Tab.wf {} u.isl.pairs ∧ Tab.wf 0 u.isl.counters ∧ o < 16 ∧ bit u.isl.sbcHeld o = true ∧ (pairOf u (u.isl.outPair o)).state = .torqueOff ∧ islandElapsed u (pairOf u (u.isl.outPair o)).offAt (u.isl.sbcDelayMs o * 1000) = true) ∧
    (∃ (t : Nat), ∃ (s : State), ∃ (u : State), ∃ a, ∃ b, u = s.at t ∧ Tab.wf {} u.isl.pairs ∧ Tab.wf 0 u.isl.counters ∧ u.isl.powered = true ∧ u.isl.state = .start ∧ a % 65536 ≠ b % 65536) :=
  ⟨⟨0, (State.reset).modIsl fun u => { u with powered := false }, _, 15, rfl, by decide +kernel⟩,
   ⟨0, (State.reset).modIsl fun u => { u with pairs := [(7, { state := .enabled })], powered := true, state := .ready, params := islandSet }, _, 15, 7, rfl, by decide +kernel⟩,
   ⟨0, (State.reset).modIsl fun u => { u with pairs := [(7, { state := .enabled })], powered := true, state := .ready, params := List.replicate 47 0 ++ [2] }, _, 15, 7, rfl, by decide +kernel⟩,
   ⟨0, State.reset, _, 7, rfl, by decide +kernel⟩,
   ⟨4000000, (State.reset).modIsl fun u => { u with powered := true, state := .ready, params := islandSet, levels := 2 ^ 15 }, _, 7, rfl, by decide +kernel⟩,
   ⟨0, State.reset, _, 15, rfl, by decide +kernel⟩,
   ⟨0, (State.reset).modIsl fun u => { u with powered := true, state := .ready }, _, 15, rfl, by decide +kernel⟩,
   ⟨0, (State.reset).modIsl fun u => { u with powered := true, state := .ready, levels := 2 ^ 15 }, _, 15, rfl, by decide +kernel⟩,
   ⟨0, (State.reset).modIsl fun u => { u with powered := true, state := .ready, levels := 2 ^ 15, inFailed := 2 ^ 15 }, _, 15, rfl, by decide +kernel⟩,
   ⟨0, State.reset, _, 7, rfl, by decide +kernel⟩,
   ⟨0, (State.reset).modIsl fun u => { u with pairs := [(7, { state := .enabled })], powered := true, state := .ready, swA := 9 }, _, 7, 7, rfl, by decide +kernel⟩,
   ⟨0, (State.reset).modIsl fun u => { u with pairs := [(7, { state := .enabled })], powered := true, state := .ready, swA := 8 }, _, 7, 7, rfl, by decide +kernel⟩,
   ⟨16000000, (State.reset).modIsl fun u => { u with pairs := [(7, { state := .enabled, hwFrom := some 0 })], powered := true, state := .ready, swA := 1 }, _, 7, 0, rfl, by decide +kernel⟩,
   ⟨0, State.reset, _, 7, rfl, by decide +kernel⟩,
   ⟨0, (State.reset).modIsl fun u => { u with pairs := [(7, { state := .ss1 })], powered := true, state := .ready, encs := [(0, { count := 5, history := [(1440000, 0)] })], params := List.replicate 47 0 ++ [4] }, _, 7, rfl, by decide +kernel⟩,
   ⟨0, (State.reset).modIsl fun u => { u with pairs := [(7, { state := .ss1 })], powered := true, state := .ready, params := List.replicate 47 0 ++ [2 + 2 ^ 8] }, _, 7, rfl, by decide +kernel⟩,
   ⟨0, State.reset, _, 7, rfl, by decide +kernel⟩,
   ⟨0, State.reset, _, rfl, by decide +kernel⟩,
   ⟨0, (State.reset).modIsl fun u => { u with pairs := [(7, { state := .enabled })], powered := true, state := .ready, hbAt := some 0, params := [0, 0, 0, 2048, 100] }, _, 7, rfl, fun h e => by cases e; decide +kernel, by decide +kernel⟩,
   ⟨0, (State.reset).modIsl fun u => { u with powered := true, state := .ready }, _, 0, 1, rfl, by decide +kernel⟩,
   ⟨0, (State.reset).modIsl fun u => { u with powered := true, state := .ready, swA := 5 }, _, 65541, rfl, by decide +kernel⟩,
   ⟨0, (State.reset).modIsl fun u => { u with powered := true, state := .ready }, _, 15, rfl, by decide +kernel⟩,
   ⟨0, (State.reset).modIsl fun u => { u with powered := true, state := .ready }, _, 2, rfl, by decide +kernel⟩,
   ⟨0, State.reset, _, 15, rfl, by decide +kernel⟩,
   ⟨0, (State.reset).modIsl fun u => { u with pairs := [(7, { state := .enabled })], powered := true, state := .ready, outTestAt := [(15, some 1440000)], params := [0, 0, 1024] ++ List.replicate 65 0 ++ [62] }, _, 15, rfl, by decide +kernel⟩,
   ⟨0, (State.reset).modIsl fun u => { u with pairs := [(7, { state := .enabled })], powered := true, state := .ready, params := [0, 0, 1024] ++ List.replicate 65 0 ++ [62] }, _, 15, rfl, by decide +kernel⟩,
   ⟨0, (State.reset).modIsl fun u => { u with powered := true, state := .ready }, _, 15, rfl, by decide +kernel⟩,
   ⟨0, (State.reset).modIsl fun u => { u with powered := true, state := .ready, outFailed := 2 ^ 15 }, _, 15, rfl, by decide +kernel⟩,
   ⟨0, State.reset, _, 15, rfl, by decide +kernel⟩,
   ⟨0, (State.reset).modIsl fun u => { u with pairs := [(0, { state := .torqueOff })], powered := true, state := .ready, params := islandSet, sbcHeld := 2 ^ 15 }, _, 15, rfl, by decide +kernel⟩,
   ⟨0, (State.reset).modIsl fun u => { u with powered := true, state := .start }, _, 0, 1, rfl, by decide +kernel⟩⟩

theorem witness_CanRuns :
    (∃ (c : Nat), ∃ (t : Nat), ∃ (s : State), ∃ (u : State), u = s.at t ∧ c < canControllers u ∧ Tab.wf {} u.can.ctrls ∧ Tab.wf {} (canOf u c).bufs ∧ onBus u c = false) ∧
    (∃ (c : Nat), ∃ (t : Nat), ∃ (s : State), ∃ (u : State), ∃ (f : CanFrame), ∃ i, ∃ b, u = s.at t ∧ c < canControllers u ∧ Tab.wf {} u.can.ctrls ∧ Tab.wf {} (canOf u c).bufs ∧ (canOf u c).state = .errorActive ∧ onBus u c = true ∧ (canOf u c).recCount = 0 ∧ (canOf u c).tec < 128 ∧ ((f.fdf = true → (canOf u c).fd = true)) ∧ f.rtr = false ∧ ((∀ h, h < 4 → (canBuf u c h).kind ≠ 1)) ∧ i < 64 ∧ ((∀ j, j < i → (look {} (canOf u c).filters j).enable = false)) ∧ (look {} (canOf u c).filters i).enable = true ∧ idMatches f (look {} (canOf u c).filters i).id (look {} (canOf u c).filters i).mask (look {} (canOf u c).filters i).ide = true ∧ (look {} (canOf u c).filters i).first ≤ b ∧ b ≤ (look {} (canOf u c).filters i).last ∧ (canBuf u c b).state = .empty ∧ (canBuf u c b).locked = false ∧ ((∀ e, (look {} (canOf u c).filters i).first ≤ e → e < b → (canBuf u c e).state ≠ .empty))) ∧
    (∃ (c : Nat), ∃ (t : Nat), ∃ (s : State), ∃ (u : State), ∃ (f : CanFrame), u = s.at t ∧ c < canControllers u ∧ Tab.wf {} u.can.ctrls ∧ Tab.wf {} (canOf u c).bufs ∧ (canOf u c).state = .errorActive ∧ onBus u c = true ∧ (canOf u c).recCount = 0 ∧ (canOf u c).tec < 128 ∧ ((f.fdf = true → (canOf u c).fd = true)) ∧ ((∀ h, h < 4 → (canBuf u c h).kind ≠ 1)) ∧ ((∀ j, j < 64 → (look {} (canOf u c).filters j).enable = false))) ∧
    (∃ (c : Nat), ∃ (t : Nat), ∃ (s : State), ∃ (u : State), ∃ b, u = s.at t ∧ c < canControllers u ∧ Tab.wf {} u.can.ctrls ∧ Tab.wf {} (canOf u c).bufs ∧ b < 128 ∧ (canBuf u c b).state ≠ .pending) ∧
    (∃ (c : Nat), ∃ (t : Nat), ∃ (s : State), ∃ (u : State), ∃ b, u = s.at t ∧ c < canControllers u ∧ Tab.wf {} u.can.ctrls ∧ Tab.wf {} (canOf u c).bufs ∧ b < 128 ∧ (canOf u c).state = .errorActive ∧ onBus u c = true ∧ (canOf u c).listen = false ∧ (canOf u c).tec < 128 ∧ (canOf u c).recCount < 128 ∧ (canBuf u c b).state = .pending) ∧
    (∃ (c : Nat), ∃ (t : Nat), ∃ (s : State), ∃ (u : State), u = s.at t ∧ c < canControllers u ∧ Tab.wf {} u.can.ctrls ∧ Tab.wf {} (canOf u c).bufs ∧ onBus u c = true ∧ (canOf u c).listen = true) ∧
    (∃ (c : Nat), ∃ (t : Nat), ∃ (s : State), ∃ (u : State), u = s.at t ∧ c < canControllers u ∧ Tab.wf {} u.can.ctrls ∧ Tab.wf {} (canOf u c).bufs ∧ (canOf u c).state = .errorActive ∧ onBus u c = true ∧ (canOf u c).listen = false ∧ (canOf u c).tec < 128 ∧ (canOf u c).recCount < 127) ∧
    (∃ (c : Nat), ∃ (t : Nat), ∃ (s : State), ∃ (u : State), ∃ b, u = s.at t ∧ c < canControllers u ∧ Tab.wf {} u.can.ctrls ∧ Tab.wf {} (canOf u c).bufs ∧ b < 128 ∧ (canBuf u c b).state = .waitTime ∧ txTimeReached u c b = true) ∧
    (∃ (c : Nat), ∃ (t : Nat), ∃ (s : State), ∃ (u : State), ∃ b, u = s.at t ∧ c < canControllers u ∧ Tab.wf {} u.can.ctrls ∧ Tab.wf {} (canOf u c).bufs ∧ b < 128 ∧ txTimeReached u c b = false) ∧
    (∃ (c : Nat), ∃ (t : Nat), ∃ (s : State), ∃ (u : State), u = s.at t ∧ c < canControllers u ∧ Tab.wf {} u.can.ctrls ∧ Tab.wf {} (canOf u c).bufs ∧ (canOf u c).state = .recovering) ∧
    (∃ (c : Nat), ∃ (t : Nat), ∃ (s : State), ∃ (u : State), u = s.at t ∧ c < canControllers u ∧ Tab.wf {} u.can.ctrls ∧ Tab.wf {} (canOf u c).bufs ∧ (canOf u c).state ≠ .recovering) ∧
    (∃ (c : Nat), ∃ (t : Nat), ∃ (s : State), ∃ (u : State), u = s.at t ∧ c < canControllers u ∧ Tab.wf {} u.can.ctrls ∧ Tab.wf {} (canOf u c).bufs ∧ (canOf u c).state = .integrating ∧ u.dev.mode ≠ .graze) ∧
    (∃ (c : Nat), ∃ (t : Nat), ∃ (s : State), ∃ (u : State), u = s.at t ∧ c < canControllers u ∧ Tab.wf {} u.can.ctrls ∧ Tab.wf {} (canOf u c).bufs ∧ (canOf u c).state ≠ .integrating) ∧
    (∃ (c : Nat), ∃ (t : Nat), ∃ (s : State), ∃ (u : State), ∃ b, u = s.at t ∧ c < canControllers u ∧ Tab.wf {} u.can.ctrls ∧ Tab.wf {} (canOf u c).bufs ∧ b < 128 ∧ (canBuf u c b).state = .full ∧ (canBuf u c b).locked = false) ∧
    (∃ (c : Nat), ∃ (t : Nat), ∃ (s : State), ∃ (u : State), ∃ b, u = s.at t ∧ c < canControllers u ∧ Tab.wf {} u.can.ctrls ∧ Tab.wf {} (canOf u c).bufs ∧ b < 128 ∧ (canBuf u c b).state ≠ .full) ∧
    (∃ (c : Nat), ∃ (t : Nat), ∃ (s : State), ∃ (u : State), ∃ b, ∃ f, ∃ stamp, ∃ sof, ∃ filter, u = s.at t ∧ c < canControllers u ∧ Tab.wf {} u.can.ctrls ∧ Tab.wf {} (canOf u c).bufs ∧ b < 128 ∧ (canBuf u c b).locked = true ∧ (canBuf u c b).store = some (f, stamp, sof, filter)) ∧
    (∃ (c : Nat), ∃ (t : Nat), ∃ (s : State), ∃ (u : State), ∃ b, u = s.at t ∧ c < canControllers u ∧ Tab.wf {} u.can.ctrls ∧ Tab.wf {} (canOf u c).bufs ∧ b < 128 ∧ (canBuf u c b).locked = true ∧ (canBuf u c b).store = none ∧ (canBuf u c b).lockedAt + clocksOfUs 1000 ≤ u.now) :=
  ⟨⟨7, 0, State.reset, _, rfl, by decide +kernel⟩,
   ⟨7, 0, (State.reset).modCan fun u => { u with ctrls := [(7, { state := .errorActive, bufs := [(127, { kind := 1, state := .empty })], filters := [(63, { enable := true, first := 127, last := 127 })] })] }, _, { id := 0, dlc := 0 }, 63, 127, rfl, by decide +kernel⟩,
   ⟨7, 0, (State.reset).modCan fun u => { u with ctrls := [(7, { state := .errorActive })] }, _, { id := 0, dlc := 0 }, rfl, by decide +kernel⟩,
   ⟨7, 0, State.reset, _, 127, rfl, by decide +kernel⟩,
   ⟨7, 0, (State.reset).modCan fun u => { u with ctrls := [(7, { state := .errorActive, bufs := [(127, { state := .pending })] })] }, _, 127, rfl, by decide +kernel⟩,
   ⟨7, 0, (State.reset).modCan fun u => { u with ctrls := [(7, { state := .errorActive, cfg0 := 32 })] }, _, rfl, by decide +kernel⟩,
   ⟨7, 0, (State.reset).modCan fun u => { u with ctrls := [(7, { state := .errorActive, recCount := 126 })] }, _, rfl, by decide +kernel⟩,
   ⟨7, 0, (State.reset).modCan fun u => { u with ctrls := [(7, { bufs := [(127, { state := .waitTime })] })] }, _, 127, rfl, by decide +kernel⟩,
   ⟨7, 0, (State.reset).modCan fun u => { u with ctrls := [(7, { bufs := [(127, { state := .waitTime, txTime := 1000000000 })] })] }, _, 127, rfl, by decide +kernel⟩,
   ⟨7, 0, (State.reset).modCan fun u => { u with ctrls := [(7, { state := .recovering })] }, _, rfl, by decide +kernel⟩,
   ⟨7, 0, State.reset, _, rfl, by decide +kernel⟩,
   ⟨7, 0, (State.reset).modCan fun u => { u with ctrls := [(7, { state := .integrating })] }, _, rfl, by decide +kernel⟩,
   ⟨7, 0, State.reset, _, rfl, by decide +kernel⟩,
   ⟨7, 0, (State.reset).modCan fun u => { u with ctrls := [(7, { bufs := [(127, { state := .full })] })] }, _, 127, rfl, by decide +kernel⟩,
   ⟨7, 0, State.reset, _, 127, rfl, by decide +kernel⟩,
   ⟨7, 0, (State.reset).modCan fun u => { u with ctrls := [(7, { bufs := [(127, { locked := true, store := some ({ id := 0, dlc := 0 }, 5, 6, 63) })] })] }, _, 127, { id := 0, dlc := 0 }, 5, 6, 63, rfl, by decide +kernel⟩,
   ⟨7, 0, (State.reset).modCan fun u => { u with ctrls := [(7, { bufs := [(127, { locked := true, lockedAt := 640000 })] })] }, _, 127, rfl, by decide +kernel⟩⟩

theorem witness_TimeRuns :
    (∃ (t : Nat), ∃ (s : State), ∃ (u : State), ∃ n, u = s.at t ∧ Tab.wf {} u.net.tracks ∧ Tab.wf {} u.net.ports ∧ n < 2 ∧ portRuns u n = false) ∧
    (∃ (t : Nat), ∃ (s : State), ∃ (u : State), ∃ n, ∃ k, ∃ (a : Announcement), ∃ (f : Foreign), u = s.at t ∧ Tab.wf {} u.net.tracks ∧ Tab.wf {} u.net.ports ∧ n < 2 ∧ k < 2 ∧ portRuns u n = true ∧ tracksFor u n a.domain = [k] ∧ a.majorSdo = (trackOf u k).majorSdo ∧ a.minorSdo = (trackOf u k).minorSdo ∧ (trackOf u k).foreigns = [f] ∧ f.port = n ∧ f.announce.source = a.source ∧ 1 ≤ f.count ∧ (trackOf u k).master = none ∧ (trackOf u k).lastGm ≠ some a.gmId ∧ (trackOf u k).state ≠ .holdover) ∧
    (∃ (t : Nat), ∃ (s : State), ∃ (u : State), ∃ n, ∃ k, ∃ domain, ∃ source, ∃ seq, ∃ q, ∃ t3, ∃ ms, ∃ (a : Announcement), u = s.at t ∧ q = seq ∧ Tab.wf {} u.net.tracks ∧ Tab.wf {} u.net.ports ∧ n < 2 ∧ k < 2 ∧ portRuns u n = true ∧ tracksFor u n domain = [k] ∧ (trackOf u k).requestOn n = some (q, t3) ∧ Tab.wf [] (trackOf u k).delays ∧ (trackOf u k).msDelay = some ms ∧ (trackOf u k).p2p = false ∧ (trackOf u k).master = some (n, a) ∧ a.source = source) ∧
    (∃ (t : Nat), ∃ (s : State), ∃ (u : State), ∃ n, ∃ k, ∃ (m : SyncMsg), u = s.at t ∧ Tab.wf {} u.net.tracks ∧ Tab.wf {} u.net.ports ∧ n < 2 ∧ k < 2 ∧ portRuns u n = true ∧ tracksFor u n m.domain = [k] ∧ fromMaster (trackOf u k) n m.source m.majorSdo m.minorSdo = true ∧ m.twoStep = true) ∧
    (∃ (t : Nat), ∃ (s : State), ∃ (u : State), ∃ n, ∃ k, ∃ (m : SyncMsg), u = s.at t ∧ Tab.wf {} u.net.tracks ∧ Tab.wf {} u.net.ports ∧ n < 2 ∧ k < 2 ∧ portRuns u n = true ∧ tracksFor u n m.domain = [k] ∧ fromMaster (trackOf u k) n m.source m.majorSdo m.minorSdo = true ∧ m.twoStep = false ∧ m.t1 < invalidFrom ∧ (trackOf u k).valid = false ∧ (trackOf u k).delays = []) ∧
    (∃ (t : Nat), ∃ (s : State), ∃ (u : State), ∃ n, ∃ k, ∃ (m : SyncMsg), u = s.at t ∧ Tab.wf {} u.net.tracks ∧ Tab.wf {} u.net.ports ∧ n < 2 ∧ k < 2 ∧ portRuns u n = true ∧ tracksFor u n m.domain = [k] ∧ fromMaster (trackOf u k) n m.source m.majorSdo m.minorSdo = true ∧ m.twoStep = false ∧ invalidFrom ≤ m.t1) ∧
    (∃ (t : Nat), ∃ (s : State), ∃ (u : State), ∃ n, ∃ k, ∃ (m : SyncMsg), u = s.at t ∧ Tab.wf {} u.net.tracks ∧ Tab.wf {} u.net.ports ∧ n < 2 ∧ portRuns u n = true ∧ tracksFor u n m.domain = [k] ∧ (trackOf u k).waiting = []) ∧
    (∃ (t : Nat), ∃ (s : State), ∃ (u : State), ∃ n, ∃ k, ∃ (m : SyncMsg), ∃ x, u = s.at t ∧ Tab.wf {} u.net.tracks ∧ Tab.wf {} u.net.ports ∧ n < 2 ∧ k < 2 ∧ portRuns u n = true ∧ tracksFor u n m.domain = [k] ∧ (trackOf u k).waiting = [x] ∧ x.seq = m.seq ∧ x.source = m.source ∧ u.now ≤ x.at' + clocksOfUs 250000 ∧ m.t1 < invalidFrom ∧ (trackOf u k).valid = false ∧ (trackOf u k).delays = []) ∧
    (∃ (t : Nat), ∃ (s : State), ∃ (u : State), ∃ k, u = s.at t ∧ Tab.wf {} u.net.tracks ∧ Tab.wf {} u.net.ports ∧ k < 2 ∧ ((trackOf u k).state = .off ∨ (trackOf u k).state = .holdover ∨ (trackOf u k).valid = false ∨ u.now < (trackOf u k).lastSyncAt + clocksOfUs ((trackOf u k).syncTimeoutMs * 1000))) ∧
    (∃ (t : Nat), ∃ (s : State), ∃ (u : State), ∃ k, u = s.at t ∧ Tab.wf {} u.net.tracks ∧ Tab.wf {} u.net.ports ∧ k < 2 ∧ (trackOf u k).state ≠ .off ∧ (trackOf u k).state ≠ .holdover ∧ (trackOf u k).valid = true ∧ (trackOf u k).lastSyncAt + clocksOfUs ((trackOf u k).syncTimeoutMs * 1000) ≤ u.now) ∧
    (∃ (t : Nat), ∃ (s : State), ∃ (u : State), u = s.at t ∧ Tab.wf {} u.net.tracks ∧ Tab.wf {} u.net.ports ∧ mapIsDue u = false) ∧
    (∃ (t : Nat), ∃ (s : State), ∃ (u : State), u = s.at t ∧ Tab.wf {} u.net.tracks ∧ Tab.wf {} u.net.ports ∧ mapIsDue u = true) ∧
    (∃ (t : Nat), ∃ (s : State), ∃ (u : State), ∃ k, u = s.at t ∧ Tab.wf {} u.net.tracks ∧ Tab.wf {} u.net.ports ∧ k < 2 ∧ requestDue u (trackOf u k) = false) ∧
    (∃ (t : Nat), ∃ (s : State), ∃ (u : State), ∃ k, ∃ n, ∃ (a : Announcement), u = s.at t ∧ Tab.wf {} u.net.tracks ∧ Tab.wf {} u.net.ports ∧ k < 2 ∧ requestDue u (trackOf u k) = true ∧ (trackOf u k).p2p = false ∧ (trackOf u k).master = some (n, a) ∧ portSends u n = true) ∧
    (∃ (t : Nat), ∃ (s : State), ∃ (u : State), ∃ k, ∃ n, ∃ (a : Announcement), ∃ f, u = s.at t ∧ Tab.wf {} u.net.tracks ∧ Tab.wf {} u.net.ports ∧ k < 2 ∧ (trackOf u k).master = some (n, a) ∧ (trackOf u k).foreigns = [f] ∧ f.port = n ∧ f.announce.source = a.source) ∧
    (∃ (t : Nat), ∃ (s : State), ∃ (u : State), u = s.at t ∧ Tab.wf {} u.net.tracks ∧ Tab.wf {} u.net.ports ∧ u.net.stepDue = none) ∧
    (∃ (t : Nat), ∃ (s : State), ∃ (u : State), ∃ d, u = s.at t ∧ Tab.wf {} u.net.tracks ∧ Tab.wf {} u.net.ports ∧ u.net.stepDue = some d ∧ integrated u = true) ∧
    (∃ (t : Nat), ∃ (s : State), ∃ (u : State), ∃ (d : Int), u = s.at t ∧ Tab.wf {} u.net.tracks ∧ Tab.wf {} u.net.ports ∧ u.net.stepDue = some d ∧ integrated u = false) :=
  ⟨⟨0, State.reset, _, 1, rfl, by decide +kernel⟩,
   ⟨0, (tracking fun k => { k with foreigns := [{ port := 1, announce := clock7, heardAt := 0 }] }), _, 1, 1, clock7, { port := 1, announce := clock7, heardAt := 0 }, rfl, by decide +kernel⟩,
   ⟨0, (tracking fun k => { k with requests := [(1, 9, 5)], msDelay := some 4, master := some (1, clock7) }), _, 1, 1, 0, 7, 9, _, 5, 4, clock7, rfl, rfl, by decide +kernel⟩,
   ⟨0, (tracking fun k => { k with master := some (1, clock7) }), _, 1, 1, { domain := 0, source := 7, seq := 0, twoStep := true, t1 := 0 }, rfl, by decide +kernel⟩,
   ⟨0, (tracking fun k => { k with master := some (1, clock7) }), _, 1, 1, { domain := 0, source := 7, seq := 0, t1 := 5 }, rfl, by decide +kernel⟩,
   ⟨0, (tracking fun k => { k with master := some (1, clock7) }), _, 1, 1, { domain := 0, source := 7, seq := 0, t1 := invalidFrom }, rfl, by decide +kernel⟩,
   ⟨0, (tracking fun k => { k with master := some (1, clock7) }), _, 1, 1, { domain := 0, source := 7, seq := 0, t1 := 5 }, rfl, by decide +kernel⟩,
   ⟨0, (tracking fun k => { k with waiting := [{ source := 7, seq := 0, corr := 0, t2 := 0, at' := 0 }], master := some (1, clock7) }), _, 1, 1, { domain := 0, source := 7, seq := 0, t1 := 5 }, { source := 7, seq := 0, corr := 0, t2 := 0, at' := 0 }, rfl, by decide +kernel⟩,
   ⟨0, State.reset, _, 1, rfl, by decide +kernel⟩,
   ⟨0, (tracking fun k => { k with state := .locked, valid := true, lastSyncAt := 640000 }), _, 1, rfl, by decide +kernel⟩,
   ⟨0, (State.reset).modNet fun u => { u with mapDue := false, mapAt := some 1440000 }, _, rfl, by decide +kernel⟩,
   ⟨0, State.reset, _, rfl, by decide +kernel⟩,
   ⟨0, State.reset, _, 1, rfl, by decide +kernel⟩,
   ⟨0, (tracking fun k => { k with master := some (1, clock7) }), _, 1, 1, clock7, rfl, by decide +kernel⟩,
   ⟨0, (tracking fun k => { k with foreigns := [{ port := 1, announce := clock7, heardAt := 0 }], master := some (1, clock7) }), _, 1, 1, clock7, { port := 1, announce := clock7, heardAt := 0 }, rfl, by decide +kernel⟩,
   ⟨0, State.reset, _, rfl, by decide +kernel⟩,
   ⟨0, (cyclic .run).modNet fun u => { u with stepDue := some 5 }, _, 5, rfl, by decide +kernel⟩,
   ⟨0, (State.reset).modNet fun u => { u with stepDue := some 5 }, _, 5, rfl, by decide +kernel⟩⟩

theorem witness_LateOutputsAreDiscarded :
    (∃ (t : Nat), ∃ (f : Frame), ∃ (s : State), ∃ (u : State), ∃ (v : State), u = s.at t ∧ Passes 2 f false u v ∧ f.down = false ∧ f.src = 0x80 ∧ u.drove.member = some f.dst ∧ (u.drove.up.state = .integrating ∨ u.drove.up.state = .integrated ∨ u.drove.up.state = .muted) ∧ ((f.cycle = devCycle u ∧ pastCommitPoint u = true) ∨ f.cycle ≠ devCycle u)) :=
  ⟨1518400, fromAbove 3 18 [0], upMember .integrated, _, after 2 (fromAbove 3 18 [0]) false ((upMember .integrated).at 1518400), rfl, passes (by decide +kernel) (by decide +kernel), by decide +kernel⟩

theorem witness_EqualFaultsAreCounted :
    (∃ (s : State), ∃ (unit : Nat), ∃ (code : Nat), ∃ (detail : Nat), ((∃ g, g ∈ s.flt.waiting ∧ g.unit = unit ∧ g.code = code ∧ g.detail = detail))) :=
  ⟨(State.reset).modFlt fun u => { u with waiting := [{ unit := 1, code := 2, sev := 3, detail := 4, cycle := 0, cal := 0 }] }, 1, 2, 4, ⟨_, List.mem_singleton_self _, by decide +kernel⟩⟩

theorem witness_OneShotBuffersFail :
    (∃ (c : Nat), ∃ (b : Nat), ∃ (t : Nat), ∃ (e : CanFault), ∃ (s : State), ∃ (u : State), u = s.at t ∧ (e = .arbitration b ∨ (∃ stuff, e = .transmit b stuff) ∨ (∃ dominant, e = .noAck b dominant)) ∧ c < canControllers u ∧ Tab.wf {} u.can.ctrls ∧ Tab.wf {} (canOf u c).bufs ∧ onBus u c = true ∧ (canOf u c).listen = false ∧ (canBuf u c b).state = .pending ∧ (canBuf u c b).oneShot = true ∧ (canBuf u c b).cancelling = false) :=
  ⟨7, 127, 0, .arbitration 127, (State.reset).modCan fun u => { u with ctrls := [(7, { state := .errorActive, bufs := [(127, { state := .pending, oneShot := true })] })] }, _, rfl, .inl rfl, by decide +kernel⟩

theorem witness_ResetValues :
    (∃ n, 2 ≤ n) ∧
    (∃ n, n < 4) :=
  ⟨⟨63, by decide +kernel⟩,
   ⟨3, by decide +kernel⟩⟩


theorem witness_CanonicalKept :
    (∃ (s : State), ∃ (s' : State), step s = .next s' ∧ Canonical s) :=
  ⟨writing, nextOf (step writing) writing, rfl, by decide +kernel⟩

theorem witness_TorqueReturnsOnlyBySafeReset :
    (∃ (s : State), ∃ (s' : State), ∃ (p : Nat), step s = .next s' ∧ p < 8 ∧ Tab.wf {} s.isl.pairs ∧ (((pairOf s p).stoA = false ∧ (pairOf s' p).stoA = true) ∨ ((pairOf s p).stoB = false ∧ (pairOf s' p).stoB = true))) :=
  ⟨resetting, nextOf (step resetting) resetting, 7, rfl, by decide +kernel⟩

theorem witness_AcceptedCommandsFinish :
    (∃ (t : Nat), ∃ (s : State), ∃ (u : State), ∃ (k : Nat), ∃ (d : Deferred), ∃ dma, ∃ passing, ∃ v, ∃ st, ∃ ws, u = s.at t ∧ finish d dma passing u = some (v, st, ws) ∧ u.host.deferred[k]? = some d) ∧
    (∃ (t : Nat), ∃ (s : State), ∃ (u : State), ∃ (k : Nat), ∃ (d : Deferred), ∃ dma, ∃ passing, u = s.at t ∧ finish d dma passing u = none ∧ u.host.deferred[k]? = some d) ∧
    (∃ (t : Nat), ∃ (s : State), ∃ (u : State), ∃ (d : Deferred), ∃ a, u = s.at t ∧ d.op = .memDma ∧ poisonBlocks u (d.packet.w 3) (d.packet.w 4) (!bit (d.packet.w 0) 0) = some a) ∧
    (∃ (t : Nat), ∃ (s : State), ∃ (u : State), ∃ (d : Deferred), u = s.at t ∧ d.op = .memDma ∧ poisonBlocks u (d.packet.w 3) (d.packet.w 4) (!bit (d.packet.w 0) 0) = none ∧ (dmaCopy d.packet (d.packet.w 4) u).2.2 = false) ∧
    (∃ (t : Nat), ∃ (s : State), ∃ (u : State), ∃ (d : Deferred), u = s.at t ∧ d.op = .graphVerify ∧ Tab.wf {} u.graph.slots ∧ ((slotOf u (slotArg d.packet)).bank (bankArg d.packet)).state = .loaded ∧ bankArg d.packet = (slotOf u (slotArg d.packet)).activeB ∧ poisonedIn u (bankAddr (slotArg d.packet) (bankArg d.packet)) (4 * ((slotOf u (slotArg d.packet)).bank (bankArg d.packet)).length) = none ∧ verifyImage u (bankAddr (slotArg d.packet) (bankArg d.packet)) ((slotOf u (slotArg d.packet)).bank (bankArg d.packet)).length = none ∧ imgVars u (bankAddr (slotArg d.packet) (bankArg d.packet)) = 0 ∧ imgVarWords u (bankAddr (slotArg d.packet) (bankArg d.packet)) = 0) ∧
    (∃ (t : Nat), ∃ (s : State), ∃ (u : State), ∃ (d : Deferred), ∃ st, ∃ ws, u = s.at t ∧ (d.op = .safeParamLoad ∨ d.op = .safeSwitchRead ∨ d.op = .safeStatus ∨ d.op = .safeStop ∨ d.op = .safeDiagRead ∨ d.op = .safeMemRead) ∧ d.data = st :: ws) ∧
    (∃ (t : Nat), ∃ (s : State), ∃ (u : State), ∃ (d : Deferred), u = s.at t ∧ d.op = .safeReset ∧ Tab.wf {} u.isl.pairs ∧ u.isl.powered = true ∧ u.isl.state = .ready ∧ u.isl.params ≠ [] ∧ bit (d.packet.w 0) 8 = false ∧ ((u.isl.hbAction ≠ 0 → hbOk u = true)) ∧ ((∀ n, n < 8 → inputDemand u n = false ∧ bit u.isl.inFault n = false))) ∧
    (∃ (t : Nat), ∃ (s : State), ∃ (u : State), ∃ (d : Deferred), ∃ p, ∃ n, u = s.at t ∧ d.op = .safeReset ∧ u.isl.powered = true ∧ u.isl.state = .ready ∧ u.isl.params ≠ [] ∧ bit (d.packet.w 0) 8 = false ∧ p < 8 ∧ n < 8 ∧ bit (d.packet.w 0) p = true ∧ bit (u.isl.group p) n = true ∧ (inputDemand u n = true ∨ bit u.isl.inFault n = true)) ∧
    (∃ (t : Nat), ∃ (s : State), ∃ (u : State), ∃ (d : Deferred), u = s.at t ∧ d.op = .safeReset ∧ u.isl.state = .fault ∧ u.isl.powered = true) ∧
    (∃ (t : Nat), ∃ (s : State), ∃ (u : State), ∃ (d : Deferred), ∃ n, ∃ st, u = s.at t ∧ n = field (d.packet.w 0) 0 8 ∧ u.host.deferred = [d] ∧ d.op = .axisStart ∧ d.data = [] ∧ startRefusal u n = some st) ∧
    (∃ (t : Nat), ∃ (s : State), ∃ (u : State), ∃ (d : Deferred), ∃ n, u = s.at t ∧ n = field (d.packet.w 0) 0 8 ∧ u.host.deferred = [d] ∧ d.op = .axisStart ∧ d.data = [] ∧ startRefusal u n = none) ∧
    (∃ (t : Nat), ∃ (s : State), ∃ (u : State), ∃ (d : Deferred), ∃ n, u = s.at t ∧ n = field (d.packet.w 0) 0 8 ∧ u.host.deferred = [d] ∧ d.op = .axisStop ∧ d.data = [] ∧ bit (d.packet.w 0) 10 = false ∧ (axisOf u n).kind = 0) ∧
    (∃ (t : Nat), ∃ (s : State), ∃ (u : State), ∃ (d : Deferred), ∃ n, u = s.at t ∧ n = field (d.packet.w 0) 0 8 ∧ u.host.deferred = [d] ∧ d.op = .axisStop ∧ d.data = [] ∧ bit (d.packet.w 0) 10 = false ∧ (axisOf u n).kind ≠ 0 ∧ field (d.packet.w 0) 8 2 ≠ 3) ∧
    (∃ (t : Nat), ∃ (s : State), ∃ (u : State), ∃ (d : Deferred), u = s.at t ∧ u.host.deferred = [d] ∧ d.op = .axisSetPosition ∧ d.data = [] ∧ (u.dev.mode = .safe ∨ u.dev.mode = .graze)) ∧
    (∃ (t : Nat), ∃ (s : State), ∃ (u : State), ∃ (d : Deferred), ∃ (k : Nat), u = s.at t ∧ k < 12 ∧ Tab.wf {} u.pwr.domains ∧ u.host.deferred = [d] ∧ d.op = .pwrDomainRetry ∧ d.data = [k] ∧ (domain u k).going = some .on ∧ (domain u k).since + clocksOfUs (transitionUs k (domain u k) .on) ≤ u.now) ∧
    (∃ (t : Nat), ∃ (s : State), ∃ (u : State), ∃ (p : Packet), ∃ n, ∃ a, u = s.at t ∧ n = field (p.w 0) 0 2 ∧ a = 0 ∧ Reached .graphControl p u ∧ hasCycle u = false ∧ Tab.wf {} u.graph.slots ∧ p.len = 1 ∧ reservedSet (p.w 0) 0xFFFFFFE0 = false ∧ a = field (p.w 0) 2 3 ∧ (activeBank u n).state = .active) ∧
    (∃ (t : Nat), ∃ (s : State), ∃ (u : State), ∃ (p : Packet), ∃ n, ∃ a, u = s.at t ∧ n = field (p.w 0) 0 2 ∧ a = 1 ∧ Reached .graphControl p u ∧ hasCycle u = false ∧ Tab.wf {} u.graph.slots ∧ p.len = 1 ∧ reservedSet (p.w 0) 0xFFFFFFE0 = false ∧ a = field (p.w 0) 2 3) ∧
    (∃ (t : Nat), ∃ (s : State), ∃ (u : State), ∃ (p : Packet), ∃ n, ∃ a, u = s.at t ∧ n = field (p.w 0) 0 2 ∧ a = field (p.w 0) 2 3 ∧ Reached .graphControl p u ∧ hasCycle u = false ∧ Tab.wf {} u.graph.slots ∧ p.len = 1 ∧ reservedSet (p.w 0) 0xFFFFFFE0 = false ∧ (a = 2 ∨ a = 3)) ∧
    (∃ (t : Nat), ∃ (s : State), ∃ (u : State), ∃ (p : Packet), ∃ v, u = s.at t ∧ ((∀ e, readFails u v e = false)) ∧ Reached .graphVarRead p u ∧ hasCycle u = false ∧ p.len = 3 ∧ reservedSet (p.w 0) 0xFFFFFFF8 = false ∧ reservedSet (p.w 2) 0xFFE00000 = false ∧ 1 ≤ varCount p ∧ varCount p ≤ 1024 ∧ findVar u (field (p.w 0) 0 2) (p.w 1) = some v ∧ varFirst p + varCount p ≤ v.count) ∧
    (∃ (t : Nat), ∃ (s : State), ∃ (u : State), ∃ (p : Packet), ∃ v, u = s.at t ∧ ((∀ e, writeFails u v e = false)) ∧ Reached .graphVarWrite p u ∧ hasCycle u = false ∧ reservedSet (p.w 0) 0xFFFFFFFC = false ∧ reservedSet (p.w 2) 0xFFE00000 = false ∧ 1 ≤ varCount p ∧ varCount p ≤ 1024 ∧ findVar u (field (p.w 0) 0 2) (p.w 1) = some v ∧ p.len = 3 + varCount p * tyWords v.type ∧ varFirst p + varCount p ≤ v.count ∧ v.type ≠ 0 ∧ v.isState = false) :=
  ⟨⟨0, (State.reset).modHost fun u => { u with deferred := [{ op := .memFill, packet := pk [0, 8, 0], data := [] }] }, _, 0, { op := .memFill, packet := pk [0, 8, 0], data := [] }, .ok, 0, (fillFinish (pk [0, 8, 0]) (((State.reset).modHost fun u => { u with deferred := [{ op := .memFill, packet := pk [0, 8, 0], data := [] }] }).at 0)).1, (fillFinish (pk [0, 8, 0]) (((State.reset).modHost fun u => { u with deferred := [{ op := .memFill, packet := pk [0, 8, 0], data := [] }] }).at 0)).2, [], rfl, rfl, by decide +kernel⟩,
   ⟨0, (State.reset).modHost fun u => { u with deferred := [{ op := .axisStart, packet := pk [0, 0], data := [] }] }, _, 0, { op := .axisStart, packet := pk [0, 0], data := [] }, .ok, 0, rfl, rfl, by decide +kernel⟩,
   ⟨0, State.reset.modMem fun m => { m with poison := [16] }, _, { op := .memDma, packet := pk [0, 0, 0, 12, 8], data := [] }, 16, rfl, by decide +kernel⟩,
   ⟨0, State.reset, _, { op := .memDma, packet := pk [0, 0, 0, 0, 8], data := [] }, rfl, by decide +kernel⟩,
   ⟨0, imageLoaded, _, { op := .graphVerify, packet := pk [3], data := [] }, rfl, by decide +kernel⟩,
   ⟨0, State.reset, _, { op := .safeMemRead, packet := pk [], data := [5, 6] }, 5, [6], rfl, by decide +kernel⟩,
   ⟨0, resetting, _, { op := .safeReset, packet := pk [128], data := [] }, rfl, by decide +kernel⟩,
   ⟨0, (State.reset).modIsl fun u => { u with powered := true, state := .ready, params := islandSet, levels := 2 ^ 16 - 2 ^ 14 }, _, { op := .safeReset, packet := pk [128], data := [] }, 7, 6, rfl, by decide +kernel⟩,
   ⟨0, (State.reset).modIsl fun u => { u with powered := true, state := .fault }, _, { op := .safeReset, packet := pk [128], data := [] }, rfl, by decide +kernel⟩,
   ⟨0, (State.reset).modHost fun u => { u with deferred := [{ op := .axisStart, packet := pk [255, 0], data := [] }] }, _, { op := .axisStart, packet := pk [255, 0], data := [] }, _, stBadMode, rfl, rfl, by decide +kernel⟩,
   ⟨0, ((inMode .run).modHost fun u => { u with deferred := [{ op := .axisStart, packet := pk [255, 0], data := [] }] }).modAxis fun u => { u with ch := [(255, { kind := 1 })] }, _, { op := .axisStart, packet := pk [255, 0], data := [] }, _, rfl, rfl, by decide +kernel⟩,
   ⟨0, (State.reset).modHost fun u => { u with deferred := [{ op := .axisStop, packet := pk [255], data := [] }] }, _, { op := .axisStop, packet := pk [255], data := [] }, _, rfl, rfl, by decide +kernel⟩,
   ⟨0, ((State.reset).modHost fun u => { u with deferred := [{ op := .axisStop, packet := pk [255 + 2 * 2 ^ 8], data := [] }] }).modAxis fun u => { u with ch := [(255, { kind := 1 })] }, _, { op := .axisStop, packet := pk [255 + 2 * 2 ^ 8], data := [] }, _, rfl, rfl, by decide +kernel⟩,
   ⟨0, (inMode .safe).modHost fun u => { u with deferred := [{ op := .axisSetPosition, packet := pk [255, 0, 0], data := [] }] }, _, { op := .axisSetPosition, packet := pk [255, 0, 0], data := [] }, rfl, by decide +kernel⟩,
   ⟨800000000, ((State.reset).modHost fun u => { u with deferred := [{ op := .pwrDomainRetry, packet := pk [11], data := [11] }] }).modPwr fun u => { u with domains := [(11, { going := some .on })] }, _, { op := .pwrDomainRetry, packet := pk [11], data := [11] }, 11, rfl, by decide +kernel⟩,
   ⟨0, bankIn false .active State.reset, _, pk [3], _, _, rfl, rfl, rfl, by decide +kernel⟩,
   ⟨0, State.reset, _, pk [7], _, _, rfl, rfl, rfl, by decide +kernel⟩,
   ⟨0, State.reset, _, pk [15], _, _, rfl, rfl, rfl, by decide +kernel⟩,
   ⟨0, program false State.reset, _, pk [3, 7, 1023 + 2 ^ 10], var7, rfl, var_reads, by decide +kernel⟩,
   ⟨0, program false State.reset, _, pk [3, 7, 1023 + 2 ^ 10, 0, 0], var7, rfl, var_writes, by decide +kernel⟩⟩
/-! One ill-formed term for each check of WellFormed.lean. -/

theorem test_wf_packet_target_not_own : Instr.wellFormed (.devIdentify { target := 5 }) = false := by decide
theorem test_wf_packet_length : Instr.wellFormed (.memWrite { params := List.replicate 4093 0 }) = false := by decide +kernel
theorem test_wf_packet_target : Instr.wellFormed (.devIdentify { target := 2 ^ 20, isLocal := false }) = false := by decide
theorem test_wf_packet_at_cycle : Instr.wellFormed (.devReset { atCycle := some (2 ^ 32) }) = false := by decide
theorem test_wf_access_size : Instr.wellFormed (.memoryAccess { addr := 0, size := 0 } 0) = false := by decide
theorem test_wf_access_data : Instr.wellFormed (.memoryAccess { addr := 0, size := 1, data := some 256 } 0) = false := by decide
theorem test_wf_access_addr : Instr.wellFormed (.memoryAccess { addr := 2 ^ 32, size := 4 } 0) = false := by decide
theorem test_wf_frame_src : Instr.wellFormed (.dataFrame { down := true, portB := false, src := 256, dst := 0, ringTag := 0, slot := 0, cycle := 0, payload := [] } 0) = false := by decide
theorem test_wf_frame_payload : Instr.wellFormed (.dataFrame { down := true, portB := false, src := 0, dst := 0, ringTag := 0, slot := 0, cycle := 0, payload := List.replicate 257 0 } 0) = false := by decide +kernel
theorem test_wf_can_standard_identifier : CanFrame.wellFormed { id := 2 ^ 11, ide := false, dlc := 0 } = false := by decide
theorem test_wf_can_extended_identifier : CanFrame.wellFormed { id := 2 ^ 29, ide := true, dlc := 0 } = false := by decide
theorem test_wf_ring_number : Instr.wellFormed (.prodDoorbell 64 0 0) = false := by decide
theorem test_wf_buffer_number : Instr.wellFormed (.bufferLock 0 128 0) = false := by decide
theorem test_wf_bit_area_alignment : Instr.wellFormed (.bitSetWrite 2 4 1 0) = false := by decide
theorem test_wf_bit_area_mask : Instr.wellFormed (.bitClearWrite 0 1 256 0) = false := by decide
theorem test_wf_register_address : Instr.wellFormed (.registerWrite 0x40000002 0 0) = false := by decide
theorem test_wf_raw_value : Instr.wellFormed (.conversionComplete 0 65536 false 0 0) = false := by decide
theorem test_wf_axis : Instr.wellFormed (.stepPulse 16 0) = false := by decide
theorem test_wf_loop_channel : Instr.wellFormed (.sampleTick 1024 0) = false := by decide
theorem test_wf_monitors : Instr.wellFormed (.monitorSample [0] 0) = false := by decide
theorem test_wf_fault_severity : Instr.wellFormed (.faultReport 1 1 4 0 false 0) = false := by decide
theorem test_wf_supply : Instr.wellFormed (.supplyLoss 12 0) = false := by decide
theorem test_wf_sequence : Instr.wellFormed (.renew 65536 0) = false := by decide

/-! Arithmetic against published values: the CRC-32 of "1234" and IEEE 754 sums, quotients and conversions. -/

theorem test_crc32 : crc32 [0x34333231] = 0x9BE3E0A3 := by decide +kernel
theorem test_add_single : Fmt.b32.add 0x3F800000 0x40000000 = 0x40400000 := by decide +kernel
theorem test_div_single : Fmt.b32.div 0x3F800000 0x40400000 = 0x3EAAAAAB := by decide +kernel
theorem test_sqrt_double : Fmt.b64.sqrt 0x4000000000000000 = 0x3FF6A09E667F3BCD := by decide +kernel
theorem test_fma_rounds_once : Fmt.b32.fma 0x3F800001 0x3F800001 0xBF800002 = 0x28800000 := by decide +kernel
theorem test_cycle_numbers_wrap : cycDiff 1 0xFFFFFFFF = 2 := by decide

/-! Single commands. -/

/-- R69: a wrong length ends the command before any other check. -/
theorem test_identify_length : (cmdDevIdentify (pk [0]) State.reset).2 = .done stBadLength [] := by decide +kernel
/-- R106: RUN is not entered from CONFIGURE. -/
theorem test_set_mode_from_configure : (cmdDevSetMode (pk [2]) State.reset).1.dev.mode = .configure := by decide +kernel
/-- R574: the two words at the top of system memory are written and read back. -/
theorem test_mem_write_read : (cmdMemRead (pk [0x01FFFFF8, 2]) (cmdMemWrite (pk [0x01FFFFF8, 5, 6]) State.reset).1).2 = .done stOk [5, 6] := by decide +kernel
/-- R574: an address that is no multiple of 4. -/
theorem test_mem_read_align : (cmdMemRead (pk [2, 1]) State.reset).2 = .done stMmAlign [] := by decide +kernel
/-- R577: a threshold of 0 is out of range. -/
theorem test_scrub_range : (cmdMemScrubConfig (pk [10, 0]) State.reset).2 = .done stRange [] := by decide +kernel
/-- R558: the set area raises the bits of the mask and no others. -/
theorem test_bit_set : readWord (nextOf (exec (.bitSetWrite 0 4 0x80000001 0) State.reset) State.reset) 0 = 0x80000001 := by decide +kernel
/-- A command in the queue is taken by a step, the queue's rest stays. -/
theorem test_step_takes_front :
    (nextOf (step { State.reset with pending := [.memWrite (pk [0, 7]), .devIdentify (pk [])] }) State.reset).pending = [.devIdentify (pk [])] := by decide +kernel
/-- An item that this unit does not have is no stop: nothing happens at it. -/
theorem test_absent_item : exec (.canWake 9 0) State.reset = .next (State.reset.at 0) := by rfl

end Sys2Proof.Tests
end

section
/-! The screening of a command packet on the executing device: steps 6 to 9 of 02 R69 and the wait for AT_CYCLE of 02 R72. -/

namespace Sys2Proof.Machine

section Screening

variable {op : Op} {p : Packet} {s : State} {x st : Nat}

/-- R35, R36: a cycle number lies in the future where its signed distance from the base cycle is positive. -/
theorem cycFuture_iff : cycFuture s x = true ↔ 0 < cycDiff x (baseCycle s) := by
  simp [cycFuture]

/-- R35, R36: else the cycle number has come too late. -/
theorem not_cycFuture_iff : cycFuture s x = false ↔ cycDiff x (baseCycle s) ≤ 0 := by
  simp [cycFuture]

theorem screen_of_absent (hu : s.present (op.code / 256) = false) : screen op p s = some stUnitAbsent := by
  simp [screen, hu]

/-- What is left of the screening for a present unit and a packet with AT_CYCLE: steps 7 to 9 as the list of checks that they are. -/
theorem screen_atCycle (hu : s.present (op.code / 256) = true) (hx : p.atCycle = some x) :
    screen op p s =
      if acceptsAt op p = false then some stRange
      else if hasCycle s = false then some stNotReady
      else if cycFuture s x = false then some stTooLate
      else if 256 ≤ s.host.timed.length then some stAtFull
      else none := by
  simp [screen, hu, hx]

/-- A status of the screening is all that the command does: it is answered, without words. -/
theorem command_of_screen_some (body : Packet → State → State × Verdict) (hs : servesCommands s = true)
    (hc : screen op p s = some st) : command op body p s = .next (s.answer op p st []) := by
  simp [command, hs, runCommand, hc]

/-- R72: a command with AT_CYCLE that passes the screening enters the list of the commands that wait. -/
theorem command_of_screen_none (body : Packet → State → State × Verdict) (hs : servesCommands s = true)
    (hc : screen op p s = none) (hx : p.atCycle = some x) :
    command op body p s =
      .next (s.modHost fun h => { h with timed := h.timed ++ [{ op := op, packet := p, cycle := x }] }) := by
  simp [command, hs, runCommand, hc, hx]

end Screening

/-- Settles O4: each clause gives the status of its first failing check, and the wrapper of the packet rows answers it; where none
fails, the command waits. -/
theorem screeningDecides : Obligations.ScreeningDecides := by
  intro op p s hs
  have answered {st : Nat} (hc : screen op p s = some st) : command op (bodyOf op) p s = .next (s.answer op p st []) :=
    command_of_screen_some _ hs hc
  refine ⟨fun hu => answered (screen_of_absent hu), fun hu x hx => ?_⟩
  have hc := screen_atCycle hu hx
  refine ⟨fun refused => ?_, fun accepted => ⟨fun noCycle => ?_, fun cyclic => ⟨fun late => ?_, fun future =>
    ⟨fun full => ?_, fun room => ?_⟩⟩⟩⟩
  · exact answered (by simp [hc, refused])
  · exact answered (by simp [hc, accepted, noCycle])
  · exact answered (by simp [hc, accepted, cyclic, not_cycFuture_iff.2 late])
  · exact answered (by simp [hc, accepted, cyclic, cycFuture_iff.2 future, full])
  · exact command_of_screen_none _ hs (by simp [hc, accepted, cyclic, cycFuture_iff.2 future, room]) hx

end Sys2Proof.Machine
end

section
/-! Output frames on a member (01 R22, R25): what a ring frame that passes the checks leaves of the device, and what a late or
mistagged one does. -/

namespace Sys2Proof.Machine

/-- The device `w` is `s` but for what is kept of the lanes of its ring interfaces (links, counters, frames seen) and what went out.
Neither interface changes its state. -/
def OnlyLanes (s w : State) : Prop :=
  ∃ up down out, up.state = s.drove.up.state ∧ down.state = s.drove.down.state ∧
    w = { s with outbox := out, drove := { s.drove with up := up, down := down } }

namespace OnlyLanes

variable {s w v : State}

theorem refl (s : State) : OnlyLanes s s := ⟨s.drove.up, s.drove.down, s.outbox, rfl, rfl, rfl⟩

theorem trans (h : OnlyLanes s w) (h' : OnlyLanes w v) : OnlyLanes s v := by
  obtain ⟨_, _, _, hup, hdown, rfl⟩ := h
  obtain ⟨up, down, out, hup', hdown', rfl⟩ := h'
  exact ⟨up, down, out, hup'.trans hup, hdown'.trans hdown, rfl⟩

/-! The lanes say nothing of the other units, of the member number and the output frames, or of the control cycle. -/

section Keeps

variable (h : OnlyLanes s w)
include h

theorem cyc_eq : w.cyc = s.cyc := by obtain ⟨_, _, _, _, _, rfl⟩ := h; rfl
theorem dev_eq : w.dev = s.dev := by obtain ⟨_, _, _, _, _, rfl⟩ := h; rfl
theorem dio_eq : w.dio = s.dio := by obtain ⟨_, _, _, _, _, rfl⟩ := h; rfl
theorem can_eq : w.can = s.can := by obtain ⟨_, _, _, _, _, rfl⟩ := h; rfl
theorem axis_eq : w.axis = s.axis := by obtain ⟨_, _, _, _, _, rfl⟩ := h; rfl
theorem mem_eq : w.mem = s.mem := by obtain ⟨_, _, _, _, _, rfl⟩ := h; rfl
theorem member_eq : w.drove.member = s.drove.member := by obtain ⟨_, _, _, _, _, rfl⟩ := h; rfl
theorem outFrames_eq : w.drove.outFrames = s.drove.outFrames := by obtain ⟨_, _, _, _, _, rfl⟩ := h; rfl
theorem upState_eq : w.drove.up.state = s.drove.up.state := by obtain ⟨_, _, _, hup, _, rfl⟩ := h; exact hup

theorem pastCommitPoint_eq : pastCommitPoint w = pastCommitPoint s := by obtain ⟨_, _, _, _, _, rfl⟩ := h; rfl

theorem devCycle_eq : devCycle w = devCycle s := by
  obtain ⟨_, _, _, hup, hdown, rfl⟩ := h
  simp only [devCycle, hasCycle, integrated, hup, hdown]
  rfl

end Keeps

theorem modIface (s : State) (down : Bool) {g : Iface → Iface} (hg : ∀ k, (g k).state = k.state) :
    OnlyLanes s (s.modIface down g) := by
  cases down with
  | false => exact ⟨g s.drove.up, s.drove.down, s.outbox, hg _, rfl, rfl⟩
  | true => exact ⟨s.drove.up, g s.drove.down, s.outbox, rfl, hg _, rfl⟩

theorem ringCount (s : State) (down : Bool) (i : Nat) : OnlyLanes s (s.ringCount down i) := modIface s down fun _ => rfl

theorem modLink (s : State) (down portB : Bool) (g : Link → Link) : OnlyLanes s (s.modLink down portB g) :=
  modIface s down fun _ => by cases portB <;> rfl

theorem emit (s : State) (o : Out) : OnlyLanes s (s.emit o) := ⟨s.drove.up, s.drove.down, _, rfl, rfl, rfl⟩

theorem forwardFrame (s : State) (type : Nat) (f : Frame) (own : Bool) : OnlyLanes s (s.forwardFrame type f own) := by
  unfold State.forwardFrame
  dsimp only
  split
  · exact refl s
  · split
    · exact refl s
    · split
      · exact ringCount s f.down 7
      · exact (modLink s f.down _ _).trans (emit _ _)

theorem fst_ite {α : Type} {c : Prop} [Decidable c] {a b : State × α} (ha : OnlyLanes s a.1) (hb : OnlyLanes s b.1) :
    OnlyLanes s (if c then a else b).1 := by
  split
  · exact ha
  · exact hb

theorem receive (s : State) (type : Nat) (f : Frame) : OnlyLanes s (s.receive type f).1 := by
  unfold State.receive
  refine fst_ite (refl s) ?_
  dsimp only
  split
  · exact (forwardFrame s type f _).trans (modIface _ true fun _ => by rfl)
  · exact forwardFrame s type f _

theorem takeFrame (s : State) (type : Nat) (f : Frame) (loose : Bool) : OnlyLanes s (s.takeFrame type f loose).1 := by
  have counted (i : Nat) : OnlyLanes s (s.ringCount f.down i) := ringCount s f.down i
  unfold State.takeFrame
  dsimp only
  exact fst_ite (counted 3) (fst_ite (counted 2) (fst_ite (counted 4) (fst_ite (refl s) (fst_ite (counted 4) (fst_ite (counted 5)
    ((modIface s f.down fun _ => by rfl).trans (ringCount _ f.down 0)))))))

end OnlyLanes

section OutputFrames

variable {f : Frame} {u v : State} {type : Nat} {loose : Bool}

/-- What a frame changes until the checks of 10 R362 have let it pass. -/
theorem onlyLanes_of_passes (h : Passes type f loose u v) : OnlyLanes u v := by
  obtain ⟨-, d, htake⟩ := h
  have hv : ((u.receive type f).1.takeFrame type f loose).1 = v := by rw [htake]
  exact hv ▸ (OnlyLanes.receive u type f).trans (OnlyLanes.takeFrame _ type f loose)

/-- R22: an output frame to the member that this node is reaches it, once the node integrates. -/
theorem dataFrame_eq_outputFrame_of_passes (h : Passes 2 f false u v) (hup : f.down = false) (hsrc : f.src = 0x80)
    (hdst : u.drove.member = some f.dst)
    (hst : u.drove.up.state = .integrating ∨ u.drove.up.state = .integrated ∨ u.drove.up.state = .muted) :
    dataFrame f u = v.outputFrame f := by
  have hmember : v.drove.member = some f.dst := (onlyLanes_of_passes h).member_eq.trans hdst
  obtain ⟨hlooked, d, htake⟩ := h
  have hreceive : u.receive 2 f = ((u.receive 2 f).1, true) := Prod.ext rfl hlooked
  have hstate : (ifaceOf (u.receive 2 f).1 false).state = u.drove.up.state := (OnlyLanes.receive u 2 f).upState_eq
  unfold dataFrame
  rw [hreceive]
  simp [htake, hup, hstate, hst, hmember, hsrc]

/-- R25: a late or mistagged output frame is counted, and that is all. -/
theorem outputFrame_of_late (hlate : f.cycle ≠ devCycle v ∨ pastCommitPoint v = true) :
    v.outputFrame f = v.modCyc fun c => { c with lateOutputs := sat32 c.lateOutputs } := by
  rw [State.outputFrame, if_pos hlate]

end OutputFrames

/-- Settles O53: the frame reaches the member with nothing changed but the lanes, on which neither the cycle in progress nor its
commit point depends; so it is late there too, and late frames are only counted. -/
theorem lateOutputsAreDiscarded : Obligations.LateOutputsAreDiscarded := by
  rintro t f s u v rfl hup hsrc hdst hst hpass hlate
  have hlanes : OnlyLanes (s.at t) v := onlyLanes_of_passes hpass
  have hlate' : f.cycle ≠ devCycle v ∨ pastCommitPoint v = true := by
    rw [hlanes.devCycle_eq, hlanes.pastCommitPoint_eq]
    exact hlate.elim (fun ⟨_, hpast⟩ => .inr hpast) .inl
  have hrun : exec (.dataFrame f t) s = .next (v.modCyc fun c => { c with lateOutputs := sat32 c.lateOutputs }) := by
    rw [← outputFrame_of_late hlate', ← dataFrame_eq_outputFrame_of_passes hpass hup hsrc hdst hst]
    rfl
  exact ⟨_, hrun, by simp [hlanes.cyc_eq], hlanes.outFrames_eq, by simp [hlanes.cyc_eq], hlanes.dev_eq, hlanes.dio_eq,
    hlanes.can_eq, hlanes.axis_eq, hlanes.mem_eq⟩

end Sys2Proof.Machine
end

section
/-! Tables read after a change of one entry or of several, and the reserved bits of a word that is short enough. -/

namespace Sys2Proof.Machine

section Updates

variable {α : Type} [DecidableEq α] {d : α} {t : Tab α}

/-- Reading after one entry was changed. -/
theorem look_upd (f : α → α) (k m : Nat) (h : Tab.wf d t = true) :
    look d (upd d t k f) m = if m = k then f (look d t m) else look d t m := by
  by_cases hm : m = k
  · subst hm
    simpa [upd] using look_put_same m _ h
  · simpa [upd, hm] using look_put_other t _ hm

/-- Reading after the entries of distinct indices were changed. -/
theorem look_updAll (f : Nat → α → α) (m : Nat) : ∀ {ks : List Nat} {t : Tab α}, ks.Nodup → Tab.wf d t = true →
    look d (updAll d t ks f) m = if m ∈ ks then f m (look d t m) else look d t m
  | [], _, _, _ => rfl
  | k :: ks, t, hks, h => by
    obtain ⟨hk, hnodup⟩ := List.nodup_cons.1 hks
    change look d (updAll d (upd d t k (f k)) ks f) m = _
    rw [look_updAll f m hnodup (upd_wf k (f k) h), look_upd _ _ _ h]
    by_cases hm : m = k
    · subst hm
      simp [hk]
    · simp [hm]

end Updates

/-- A word of `n` bits has no bit in a mask of higher bits. -/
theorem reservedSet_eq_false_of_lt {x n mask : Nat} (hx : x < 2 ^ n) (hmask : mask % 2 ^ n = 0) : reservedSet x mask = false := by
  have hand : x &&& mask = 0 := by
    rw [← Nat.mod_eq_of_lt (Nat.lt_of_le_of_lt Nat.and_le_left hx), Nat.and_mod_two_pow, hmask, Nat.and_zero]
  simp [reservedSet, hand]

/-- The field of all bits of a word. -/
theorem field_eq_self_of_lt {x n : Nat} (hx : x < 2 ^ n) : field x 0 n = x := by
  simpa [field] using Nat.mod_eq_of_lt hx

end Sys2Proof.Machine
end

section
/-! GRAPH.FORCE (04 R142, R159): what the command does with the table of forces, action by action. -/

namespace Sys2Proof.Machine

section Forces

variable {p : Packet} {s : State} {v : VarLoc}

/-- GRAPH.FORCE past the shared checks is answered as its own part says. -/
theorem exec_graphForce {t : State} {st : Nat} {ws : List Word} (h : Reached .graphForce p s)
    (hbody : cmdGraphForce p s = (t, .done st ws)) : exec (.graphForce p) s = .next (t.conclude .graphForce p st ws) :=
  command_done (body := cmdGraphForce) h hbody

/-- `f` is a force on element `elem` of the variable `v` with identity `id`. -/
def Force.names (v : VarLoc) (id elem : Nat) (f : Force) : Bool := f.slot == v.slot && f.id == id && f.elem == elem

theorem Force.names_eq (id elem : Nat) : Force.names v id elem = fun f => f.slot == v.slot && f.id == id && f.elem == elem := rfl

/-- The force that a packet asks for. -/
def forceOf (p : Packet) (v : VarLoc) (elem : Nat) : Force :=
  { slot := v.slot, id := p.w 1, elem := elem, value := p.w 3 + (if 4 ≤ v.type then 2 ^ 32 * p.w 4 else 0) }

/-- R159: the words of LIST. -/
def forceWords (s : State) : List Word :=
  wd s.graph.forces.length :: s.graph.forces.flatMap fun f => [wd (f.slot.getD 0 + place 16 f.elem), wd f.id] ++ wd2 f.value

theorem length_forceWords : (forceWords s).length = 1 + 4 * s.graph.forces.length := by
  simp [forceWords, wd2, List.length_flatMap, Nat.mul_comm, Nat.add_comm]

/-- R159: what is left of a SET of an existing element to a value that its type admits: the checks that the variable is no state
variable and that the table has room. -/
theorem cmdGraphForce_force (hres : reservedSet (p.w 0) 0xFFFFFFF0 = false) (hvar : forceVar s (field (p.w 0) 2 2) (p.w 1) = some v)
    (hcount : p.w 2 < v.count) (helem : p.w 2 < 1024) (hact : field (p.w 0) 0 2 = 0) (hlen : p.len = 5)
    (hval : valueBad v.type (p.w 3) (p.w 4) = false) :
    cmdGraphForce p s = checked
      [(v.isState, stGrStateVar),
       (256 ≤ s.graph.forces.length && !s.graph.forces.any (Force.names v (p.w 1) (p.w 2)), stGrForceFull)] s
      (s.modGraph fun g => { g with forces := g.forces.filter (fun e => !Force.names v (p.w 1) (p.w 2) e) ++ [forceOf p v (p.w 2)] },
        .done stOk []) := by
  have helem' : field (p.w 2) 0 10 = p.w 2 := field_eq_self_of_lt (n := 10) helem
  have hres2 : reservedSet (p.w 2) 0xFFFFFC00 = false := reservedSet_eq_false_of_lt (n := 10) helem (by decide)
  simp [cmdGraphForce, hact, hlen, hres, hres2, hvar, helem', hcount.not_ge, hval, Force.names_eq, forceOf, place, Nat.mul_comm]

/-- R159: a RELEASE of an existing element leaves out its force. -/
theorem cmdGraphForce_release (hres : reservedSet (p.w 0) 0xFFFFFFF0 = false) (hvar : forceVar s (field (p.w 0) 2 2) (p.w 1) = some v)
    (hcount : p.w 2 < v.count) (helem : p.w 2 < 1024) (hact : field (p.w 0) 0 2 = 1) (hlen : p.len = 3) :
    cmdGraphForce p s =
      (s.modGraph fun g => { g with forces := g.forces.filter fun e => !Force.names v (p.w 1) (p.w 2) e }, .done stOk []) := by
  have helem' : field (p.w 2) 0 10 = p.w 2 := field_eq_self_of_lt (n := 10) helem
  have hres2 : reservedSet (p.w 2) 0xFFFFFC00 = false := reservedSet_eq_false_of_lt (n := 10) helem (by decide)
  simp [cmdGraphForce, hact, hlen, hres, hres2, hvar, helem', hcount.not_ge, Force.names_eq]

/-- R159: RELEASE_ALL leaves out the forces on the variables of the slot, and those on shared ones. -/
theorem cmdGraphForce_releaseAll (hres : reservedSet (p.w 0) 0xFFFFFFF0 = false) (hact : field (p.w 0) 0 2 = 2) (hlen : p.len = 1) :
    cmdGraphForce p s =
      (s.modGraph fun g => { g with forces := g.forces.filter fun e => e.slot.isSome && e.slot != some (field (p.w 0) 2 2) },
        .done stOk []) := by
  simp [cmdGraphForce, hact, hlen, hres]

theorem cmdGraphForce_list (hres : reservedSet (p.w 0) 0xFFFFFFF0 = false) (hact : field (p.w 0) 0 2 = 3) (hlen : p.len = 1) :
    cmdGraphForce p s = (s, .done stOk (forceWords s)) := by
  simp [cmdGraphForce, hact, hlen, hres, forceWords]

end Forces

end Sys2Proof.Machine
end

section
/-! SCHED.CONFIG and SCHED.CLEAR_COUNTERS (05 R185, R187). -/

namespace Sys2Proof.Machine

section Scheduler

variable {p : Packet} {s : State} {c : SchedChange}

/-- A change of the scheduler leaves the rest of the device as it is. -/
theorem State.modSched_eq_const (s : State) (f : SchedUnit → SchedUnit) :
    s.modSched f = s.modSched fun _ => (s.modSched f).sched := rfl

/-- R185: when settings take effect, the next cycle start with a control cycle and at once without one (log 60). -/
def State.takeSettings (s : State) (c : SchedChange) : State :=
  if hasCycle s then s.modSched fun u => { u with changes := u.changes ++ [c] } else applySched s c

/-- The settings of one slot are taken: no core limit that leaves its program without a core. -/
theorem cmdSchedConfig_slot (hlen : p.len = 3) (hres : reservedSet (p.w 0) 0xFFFFFFF8 = false) (hw1 : c.w1 = p.w 1) (hw2 : c.w2 = p.w 2)
    (hscope : bit (p.w 0) 0 = true) (hres1 : reservedSet (p.w 1) 0xFFF0F800 = false) (hshed : field (p.w 1) 0 10 ≤ 1000)
    (hres2 : reservedSet (p.w 2) 0xFFFF0000 = false) (hlimit : field (p.w 2) 0 16 < 2 ^ graphCores s)
    (hslot : c.slot = some (field (p.w 0) 1 2))
    (hcore : hasProgram s (field (p.w 0) 1 2) = false ∨ field (p.w 2) 0 16 &&& imgCoreMask s (activeAddr s (field (p.w 0) 1 2)) ≠ 0) :
    cmdSchedConfig p s = (s.takeSettings c, .done stOk []) := by
  have hc : c = { slot := some (field (p.w 0) 1 2), w1 := p.w 1, w2 := p.w 2 } := by rw [← hslot, ← hw1, ← hw2]
  have hnocore : (hasProgram s (field (p.w 0) 1 2) &&
      (field (p.w 2) 0 16 &&& imgCoreMask s (activeAddr s (field (p.w 0) 1 2))) == 0) = false := by
    rcases hcore with h | h <;> simp [h]
  simp [cmdSchedConfig, hlen, hres, hscope, hres1, hshed.not_gt, hres2, hlimit.not_ge, hnocore, hc, State.takeSettings]

/-- The settings of the device are taken. -/
theorem cmdSchedConfig_device (hlen : p.len = 3) (hres : reservedSet (p.w 0) 0xFFFFFFF8 = false) (hw1 : c.w1 = p.w 1) (hw2 : c.w2 = p.w 2)
    (hscope : bit (p.w 0) 0 = false) (hn : field (p.w 0) 1 2 = 0) (hres1 : reservedSet (p.w 1) 0xFFF0 = false)
    (hsteal : field (p.w 1) 0 4 ≠ 0) (hres2 : reservedSet (p.w 2) 0xFFFF0000 = false) (hspill : 100 ≤ field (p.w 2) 0 16)
    (hslot : c.slot = none) : cmdSchedConfig p s = (s.takeSettings c, .done stOk []) := by
  have hc : c = { slot := none, w1 := p.w 1, w2 := p.w 2 } := by rw [← hslot, ← hw1, ← hw2]
  simp [cmdSchedConfig, hlen, hres, hscope, hn, hres1, beq_false_of_ne hsteal, hres2, hspill.not_gt, hc, State.takeSettings]

/-- The counters of a core at 0 (R187). -/
def Core.zeroCounters (k : Core) : Core :=
  { k with opsRun := 0, busyNs := 0, taken := 0, given := 0, displaced := 0, misses := 0, bpStallNs := 0, spilled := 0, readyHigh := 0 }

/-- The counters of a slot at 0 (R187). -/
def SlotSched.zeroCounters (k : SlotSched) : SlotSched :=
  { k with executions := 0, overruns := 0, skipped := 0, cancelled := 0, delayFull := 0, lastExecNs := 0, maxExecNs := 0, budgetExceeded := 0 }

/-- R187: the scheduler with the counters cleared that word 0 of SCHED.CLEAR_COUNTERS names. -/
def SchedUnit.zeroCounters (w : Nat) (u : SchedUnit) : SchedUnit :=
  { u with
    cores := if bit w 0 then updAll {} u.cores (List.range 16) fun _ k => k.zeroCounters else u.cores
    slots := if bit w 1 then updAll {} u.slots (List.range 4) fun _ k => k.zeroCounters else u.slots }

theorem cmdSchedClearCounters_of_len_ne (hlen : p.len ≠ 1) : cmdSchedClearCounters p s = (s, .done stBadLength []) := by
  simp [cmdSchedClearCounters, hlen]

theorem cmdSchedClearCounters_of_range (hlen : p.len = 1) (hrange : reservedSet (p.w 0) 0xFFFFFFFC = true ∨ p.w 0 = 0) :
    cmdSchedClearCounters p s = (s, .done stRange []) := by
  have hbad : (reservedSet (p.w 0) 0xFFFFFFFC || p.w 0 == 0) = true := by simpa using hrange
  simp [cmdSchedClearCounters, hlen, hbad]

theorem cmdSchedClearCounters_done (hlen : p.len = 1) (hres : reservedSet (p.w 0) 0xFFFFFFFC = false) (hne : p.w 0 ≠ 0) :
    cmdSchedClearCounters p s = (s.modSched (SchedUnit.zeroCounters (p.w 0)), .done stOk []) := by
  have hbad : (reservedSet (p.w 0) 0xFFFFFFFC || p.w 0 == 0) = false := by simp [hres, hne]
  cases hcores : bit (p.w 0) 0 <;> cases hslots : bit (p.w 0) 1 <;>
    simp [cmdSchedClearCounters, SchedUnit.zeroCounters, hcores, hslots, hlen, hbad, State.modSched, Core.zeroCounters,
      SlotSched.zeroCounters]

theorem coreOf_zeroCounters (w : Nat) {i : Nat} (hi : i < 16) (hwf : Tab.wf {} s.sched.cores = true) :
    coreOf (s.modSched (SchedUnit.zeroCounters w)) i = if bit w 0 then (coreOf s i).zeroCounters else coreOf s i := by
  have hlook := look_updAll (fun _ => Core.zeroCounters) i List.nodup_range hwf (ks := List.range 16)
  cases hbit : bit w 0
  · simp [coreOf, SchedUnit.zeroCounters, hbit]
  · simpa [coreOf, SchedUnit.zeroCounters, hbit, hi] using hlook

theorem schedOf_zeroCounters (w : Nat) {n : Nat} (hn : n < 4) (hwf : Tab.wf {} s.sched.slots = true) :
    schedOf (s.modSched (SchedUnit.zeroCounters w)) n = if bit w 1 then (schedOf s n).zeroCounters else schedOf s n := by
  have hlook := look_updAll (fun _ => SlotSched.zeroCounters) n List.nodup_range hwf (ks := List.range 4)
  cases hbit : bit w 1
  · simp [schedOf, SchedUnit.zeroCounters, hbit]
  · simpa [schedOf, SchedUnit.zeroCounters, hbit, hn] using hlook

end Scheduler

/-- Settles O16: each clause is what the command's own part does once its checks are passed, and the wrapper of the packet rows answers
it; the cleared counters are read back from the tables of the scheduler. -/
theorem forcesAndScheduler : Obligations.ForcesAndScheduler := by
  refine ⟨?force, fun p s => ⟨?config, ?clear⟩⟩
  case force =>
    rintro p s n h hres rfl
    refine ⟨?_, fun hact hlen => exec_graphForce h (cmdGraphForce_releaseAll hres hact hlen), fun hact hlen =>
      ⟨forceWords s, exec_graphForce h (cmdGraphForce_list hres hact hlen), length_forceWords, rfl⟩⟩
    rintro v _ hvar rfl hcount helem isThis hisThis
    obtain rfl : isThis = Force.names v (p.w 1) (p.w 2) := funext hisThis
    refine ⟨fun hact hlen hval => ?_, fun hact hlen =>
      exec_graphForce h (cmdGraphForce_release hres hvar hcount helem hact hlen)⟩
    have hforce := cmdGraphForce_force hres hvar hcount helem hact hlen hval
    refine ⟨fun hstate => ?_, fun hstate hroom => ?_, fun hstate hfull hnew => ?_⟩
    · exact exec_graphForce h (by simp [hforce, hstate])
    · have hroom' : (decide (256 ≤ s.graph.forces.length) && !s.graph.forces.any (Force.names v (p.w 1) (p.w 2))) = false := by
        rcases hroom with hlt | hold
        · simp [hlt]
        · simp [hold]
      exact exec_graphForce h (by simp only [hforce, hstate, hroom', checked_cons_false, checked_nil]; rfl)
    · have hfull' : (decide (256 ≤ s.graph.forces.length) && !s.graph.forces.any (Force.names v (p.w 1) (p.w 2))) = true := by
        rw [hnew, decide_eq_true hfull]
        rfl
      exact exec_graphForce h (by simp only [hforce, hstate, hfull', checked_cons_false, checked_cons_true])
  case config =>
    intro h hlen hres c hw1 hw2
    exact ⟨fun hscope hres1 hshed hres2 hlimit hslot hcore =>
        command_done (body := cmdSchedConfig) h (cmdSchedConfig_slot hlen hres hw1 hw2 hscope hres1 hshed hres2 hlimit hslot hcore),
      fun hscope hn hres1 hsteal hres2 hspill hslot =>
        command_done (body := cmdSchedConfig) h (cmdSchedConfig_device hlen hres hw1 hw2 hscope hn hres1 hsteal hres2 hspill hslot)⟩
  case clear =>
    intro h
    have answered {t : State} {st : Nat} (hbody : cmdSchedClearCounters p s = (t, .done st [])) :
        exec (.schedClearCounters p) s = .next (t.conclude .schedClearCounters p st []) :=
      command_done (body := cmdSchedClearCounters) h hbody
    refine ⟨fun hlen => answered (cmdSchedClearCounters_of_len_ne hlen),
      fun hlen hrange => answered (cmdSchedClearCounters_of_range hlen hrange), fun hlen hres hne hcores hslots => ?_⟩
    exact ⟨s.modSched (SchedUnit.zeroCounters (p.w 0)), answered (cmdSchedClearCounters_done hlen hres hne), s.modSched_eq_const _,
      fun i hi => coreOf_zeroCounters _ hi hcores, fun n hn => schedOf_zeroCounters _ hn hslots⟩

end Sys2Proof.Machine
end

section
/-! The commands that only report (01 R47; 02 R69; the STATUS, READ and COUNTERS commands of every unit): each passes its checks and is
answered with its words. -/

namespace Sys2Proof.Machine

section Reporting

variable {op : Op} {p : Packet} {s t : State} {ws : List Word} {body : Packet → State → State × Verdict} {bad : Bool}

/-- R69: where no check fails, the command goes on. -/
theorem checked_of_none_fails {cs : List (Bool × Nat)} (k : State × Verdict) (hcs : ∀ c ∈ cs, c.1 = false) : checked cs s k = k := by
  have hfind : cs.find? (·.1) = none := by simpa using hcs
  rw [checked, hfind]

/-- A report without parameters whose only check is that of the length is answered with its words. -/
theorem command_report_noParams (hbody : body p s = checked [(p.len ≠ 0, stBadLength)] s (t, .done stOk ws)) (h : Reached op p s)
    (hlen : p.len = 0) : command op body p s = .next (t.conclude op p stOk ws) :=
  command_done h (hbody.trans (checked_of_none_fails _ (by simp [hlen])))

/-- A report about what its one word names is answered with its words, where the word breaks no range. -/
theorem command_report_oneWord (hbody : body p s = checked [(p.len ≠ 1, stBadLength), (bad, stRange)] s (t, .done stOk ws))
    (h : Reached op p s) (hlen : p.len = 1) (hbad : bad = false) : command op body p s = .next (t.conclude op p stOk ws) :=
  command_done h (hbody.trans (checked_of_none_fails _ (by simp [hlen, hbad])))

/-- R579: the first word of MEM.FAULT_QUEUE holds the number of faults that wait, and in bit 5 whether one is in hand. -/
theorem cmdMemFaultQueue_eq : cmdMemFaultQueue p s = checked [(p.len ≠ 0, stBadLength)] s (s, .done stOk
    (wd (s.flt.waiting.length + 32 * flag s.flt.inHand.isSome) :: (s.flt.inHand.toList ++ s.flt.waiting).flatMap faultWords)) := by
  rw [Nat.mul_comm 32]
  rfl

/-- R300: the first word of ADC.STATUS packs the two flags and the entry of the converter. -/
theorem cmdAdcStatus_eq {k : Conv} (hk : k = (convOf s (field (p.w 0) 0 4)).next s.now) :
    cmdAdcStatus p s = checked [(p.len ≠ 1, stBadLength), (reservedSet (p.w 0) 0xFFFFFFF0, stRange)] s (s, .done stOk
      [wd (flag k.lowPower + 2 * flag k.faulted + 4 * k.entry), wd k.conversions, wd k.urgentDropped, wd k.groupOverruns,
        wd k.tableAborts, wd k.ovrCount]) := by
  subst hk
  rw [Nat.mul_comm 2, Nat.mul_comm 4]
  rfl

/-- R186: SCHED.COUNTERS of a core that the device has. -/
theorem cmdSchedCounters_core (hlen : p.len = 1) (hres : reservedSet (p.w 0) 0xFFFFFFE0 = false) (hscope : bit (p.w 0) 0 = false)
    (hcore : field (p.w 0) 1 4 < graphCores s) {k : Core} (hk : k = coreOf s (field (p.w 0) 1 4)) :
    cmdSchedCounters p s = (s, .done stOk ([wd k.opsRun] ++ wd2 k.busyNs ++
      [wd k.taken, wd k.given, wd k.displaced, wd k.misses, wd k.bpStallNs, wd k.spilled, wd k.readyHigh])) := by
  simp [cmdSchedCounters, hlen, hres, hscope, hcore.not_ge, hk]

/-- R186: SCHED.COUNTERS of a slot. -/
theorem cmdSchedCounters_slot (hlen : p.len = 1) (hres : reservedSet (p.w 0) 0xFFFFFFE0 = false) (hscope : bit (p.w 0) 0 = true)
    {n : Nat} (hn : n = field (p.w 0) 1 4) (hslot : n < 4) {k : SlotSched} (hk : k = schedOf s n) :
    cmdSchedCounters p s = (s, .done stOk [wd k.executions, wd k.overruns, wd k.skipped, wd k.cancelled, wd k.delayFull,
      wd k.lastExecNs, wd k.maxExecNs, wd (if (activeBank s n).state = .empty then 0 else imgBudget s (activeAddr s n)),
      wd k.budgetExceeded]) := by
  subst hn hk
  simp [cmdSchedCounters, hlen, hres, hscope, hslot.not_ge]

/-- R69, step 10: the length is checked before anything else. -/
theorem cmdLoopStateRead_of_len_ne (hlen : p.len ≠ 1) : cmdLoopStateRead p s = (s, .done stBadLength []) := by
  simp [cmdLoopStateRead, hlen]

/-- R228: a reserved bit, or a channel that the device does not have. -/
theorem cmdLoopStateRead_of_range (hlen : p.len = 1)
    (hrange : reservedSet (p.w 0) 0xFFFFFC00 = true ∨ loopChannels s ≤ field (p.w 0) 0 10) :
    cmdLoopStateRead p s = (s, .done stRange []) := by
  have hbad : (decide (loopChannels s ≤ field (p.w 0) 0 10) || reservedSet (p.w 0) 0xFFFFFC00) = true := by
    simpa [or_comm] using hrange
  simp [cmdLoopStateRead, hlen, hbad]

/-- R206, R228: the state words of a channel lie one after the other in its block. -/
theorem readWords_loopState (c n : Nat) :
    readWords s (loopAddr c + 0x280) n = (List.range n).map fun i => BitVec.ofNat 32 (stW s c i) := rfl

/-- R265: AXIS.STATUS of an axis that the device has and that is configured. -/
theorem cmdAxisStatus_configured {n : Nat} (hn : n = field (p.w 0) 0 8) (hlen : p.len = 1)
    (hres : reservedSet (p.w 0) 0xFFFFFF00 = false) (haxis : n < axes s) (hkind : (axisOf s n).kind ≠ 0) :
    cmdAxisStatus p s = (s, .done stOk (axisStatusWords s n)) := by
  subst hn
  simp [cmdAxisStatus, axisChecks, hlen, hres, haxis.not_ge, beq_false_of_ne hkind]

/-- R456: CAN.STATUS of a controller that the device has, outside GRAZE. -/
theorem cmdCanStatus_done {n : Nat} (hn : n = field (p.w 0) 0 3) (hlen : p.len = 1) (hres : reservedSet (p.w 0) 0xFFFFFFF8 = false)
    (hctrl : n < canControllers s) (hmode : s.dev.mode ≠ .graze) {k : CanCtrl} (hk : k = canOf s n) :
    cmdCanStatus p s = (s, .done stOk [wd (canStatusWord k), wd k.rxFrames, wd k.txFrames, wd k.unmatched, wd k.overruns,
      wd k.lockTimeouts, wd k.busoffCount, wd k.txRefused, wd k.tdcMeas]) := by
  subst hn hk
  simp [cmdCanStatus, canChecks, hlen, hres, hctrl.not_ge, beq_false_of_ne hmode]

/-- R353: ACQ.STATUS of one capture. -/
theorem cmdAcqStatus_capture (hlen : p.len = 1) (hres : reservedSet (p.w 0) 0xFFFFFFE0 = false) (hscope : bit (p.w 0) 0 = false) :
    cmdAcqStatus p s = (s, .done stOk (captureStatus s (capOf s (field (p.w 0) 1 4)))) := by
  simp [cmdAcqStatus, hlen, hres, hscope]

/-- R353: ACQ.STATUS of the histograms and the persistence maps. -/
theorem cmdAcqStatus_counts (hlen : p.len = 1) (hres : reservedSet (p.w 0) 0xFFFFFFE0 = false) (hscope : bit (p.w 0) 0 = true) :
    cmdAcqStatus p s = (s, .done stOk
      (((List.range 16).map fun h => wd (look {} s.acq.hists h).nan) ++ (List.range 4).map fun m => wd (look {} s.acq.pmaps m).points)) := by
  simp [cmdAcqStatus, hlen, hres, hscope]

/-- R161: NEXT_PERIOD as GRAPH.STATUS shows it, and the state that showing it leaves: a free value where the slot is not RUNNING
(log 4). -/
def shownNextPeriod (s : State) (n : Nat) : State × Word :=
  if slotState s n = 1 then (s, wd (nextPeriod s n)) else (s.takeFree.2, s.takeFree.1)

theorem shownNextPeriod_state (n : Nat) : (shownNextPeriod s n).1 = s ∨ (shownNextPeriod s n).1 = s.takeFree.2 := by
  unfold shownNextPeriod
  split
  · exact .inl rfl
  · exact .inr rfl

/-- R161: GRAPH.STATUS shows nine words, and leaves what showing NEXT_PERIOD leaves. -/
theorem cmdGraphStatus_done (hlen : p.len = 1) (hres : reservedSet (p.w 0) 0xFFFFFFFC = false) :
    ∃ ws, cmdGraphStatus p s = ((shownNextPeriod s (field (p.w 0) 0 2)).1, .done stOk ws) ∧ ws.length = 9 ∧
      ws.getD 5 0 = wd (slotOf s (field (p.w 0) 0 2)).abandoned :=
  ⟨_, checked_of_none_fails _ (by simp [hlen, hres]), rfl, rfl⟩

end Reporting

/-- Settles O10: each command's own part passes its checks under the clause's hypotheses and gives its words, and the wrapper of the
packet rows answers with them; LOOP.STATE_READ is turned away where its length or its word breaks a check. -/
theorem reports : Obligations.Reports := by
  refine ⟨fun p s hlen => ?noParams, fun p s hlen => ?oneWord, fun p s h hlen => ?length⟩
  case noParams =>
    refine ⟨fun h => ?identify, fun h => ?status, fun h => ?cycle, fun h => ?faults, fun h => ?power, fun h => ?monitors,
      fun h => ?sched, fun h => ?time, fun h => ?pair, fun h => ?tally⟩
    case identify => exact command_report_noParams (body := cmdDevIdentify) rfl h hlen
    case status => exact command_report_noParams (body := cmdDevStatus) rfl h hlen
    case cycle => exact command_report_noParams (body := cmdDevCycleStatus) rfl h hlen
    case faults => exact command_report_noParams cmdMemFaultQueue_eq h hlen
    case power => exact command_report_noParams (body := cmdPwrState) rfl h hlen
    case monitors => exact command_report_noParams (body := cmdPwrMonitorRead) rfl h hlen
    case sched => exact ⟨_, command_report_noParams (body := cmdSchedStatus) rfl h hlen, rfl, rfl⟩
    case time => exact ⟨_, command_report_noParams (body := cmdTimeRead) rfl h hlen, rfl, rfl⟩
    case pair => exact command_report_noParams (body := cmdPairStatus) rfl h hlen
    case tally => exact ⟨_, command_report_noParams (body := cmdTallyStatus) rfl h hlen, rfl, rfl, rfl⟩
  case oneWord =>
    refine ⟨fun h hres => ⟨fun hscope hcore => ?core, fun hscope hslot => ?slot⟩,
      fun h => ⟨fun hrange => ?loopRange, fun hres hchannel => ?loop⟩, fun h hres haxis hkind => ?axis,
      fun h hres hone hmost hend => ?calibration, fun h hres k hk => ?converter,
      fun h hres => ⟨fun hscope => ?capture, fun hscope => ?counts⟩, fun h hres hone hmost hend => ?index,
      fun h hres => ?ring, fun h hres => ?time, fun h hres => ?graph, fun h hres hctrl hmode k hk => ?can⟩
    case core => exact ⟨_, command_done h (cmdSchedCounters_core hlen hres hscope hcore rfl), rfl, rfl⟩
    case slot => exact ⟨_, command_done h (cmdSchedCounters_slot hlen hres hscope rfl hslot rfl), rfl, rfl, rfl⟩
    case loopRange => exact command_done h (cmdLoopStateRead_of_range hlen hrange)
    case loop =>
      rw [← readWords_loopState]
      exact command_report_oneWord (body := cmdLoopStateRead) rfl h hlen (by simp [hres, hchannel.not_ge])
    case axis => exact command_done h (cmdAxisStatus_configured rfl hlen hres haxis hkind)
    case calibration =>
      have hone' : field (p.w 0) 7 8 ≠ 0 := Nat.one_le_iff_ne_zero.1 hone
      exact command_report_oneWord (body := cmdAdcCalRead) rfl h hlen (by simp [hone', hmost.not_gt, hend.not_gt, hres])
    case converter => exact command_report_oneWord (cmdAdcStatus_eq hk) h hlen hres
    case capture => exact command_done h (cmdAcqStatus_capture hlen hres hscope)
    case counts => exact command_done h (cmdAcqStatus_counts hlen hres hscope)
    case index =>
      have hone' : field (p.w 0) 16 12 ≠ 0 := Nat.one_le_iff_ne_zero.1 hone
      exact command_report_oneWord (body := cmdAcqIndexRead) rfl h hlen (by simp [hone', hmost.not_gt, hend.not_gt, hres])
    case ring => exact command_report_oneWord (body := cmdRingStatus) rfl h hlen hres
    case time => exact ⟨_, command_report_oneWord (body := cmdTimeStatus) rfl h hlen hres, rfl, rfl⟩
    case graph =>
      obtain ⟨ws, hbody, hwords, habandoned⟩ := cmdGraphStatus_done (s := s) hlen hres
      exact ⟨_, ws, command_done h hbody, hwords, shownNextPeriod_state _, habandoned⟩
    case can => exact command_done h (cmdCanStatus_done rfl hlen hres hctrl hmode hk)
  case length => exact command_done h (cmdLoopStateRead_of_len_ne hlen)

end Sys2Proof.Machine
end

section
/-! Transmission of CAN frames (12 R440–R445): what the error handling of a controller leaves of one of its buffers. -/

namespace Sys2Proof.Machine

/-- A table whose entries were all changed by a function that fixes what an unlisted index reads as. -/
theorem look_map {α : Type} {d : α} (g : α → α) (hg : g d = d) (k : Nat) : ∀ t : Tab α,
    look d (t.map fun e => (e.1, g e.2)) k = g (look d t k)
  | [] => hg.symm
  | (j, v) :: r => by
    by_cases hj : j = k
    · simp [look, hj]
    · simpa [look, hj] using look_map g hg k r

/-- A record changes the recorder and the counter of free values only. -/
theorem State.recordOpen_eq (s : State) (unit ev sev : Nat) (transient : Bool) :
    ∃ n y, s.recordOpen unit ev sev transient = { s with fresh := n, tally := y } := by
  unfold State.recordOpen State.recordEv State.note
  split <;> split <;> exact ⟨_, _, rfl⟩

/-- R440: the controller offers PENDING buffers only. -/
theorem state_of_offered {s : State} {c b : Nat} (h : offered s c = some b) : (canBuf s c b).state = .pending := by
  have candidates : ∀ a, offered s c = some a → (canBuf s c a).state = .pending := by
    refine List.foldlRecOn (motive := fun o => ∀ a, o = some a → (canBuf s c a).state = .pending) _ _ nofun ?_
    intro o chosen b' hb'
    have pending : (canBuf s c b').state = .pending := by simpa using (List.mem_filter.1 hb').2
    cases o with
    | none => rintro _ ⟨rfl⟩; exact pending
    | some a =>
      dsimp only
      split
      · rintro _ ⟨rfl⟩; exact pending
      · exact chosen
  exact candidates b h

/-- The state `s` comes from `u` with device and memory as they were, and buffer `b` of controller `c` reads `k` in it. -/
structure BufStands (c b : Nat) (k : CanBuf) (u s : State) : Prop where
  wf : Tab.wf {} s.can.ctrls
  buf : canBuf s c b = k
  dev : s.dev = u.dev
  mem : s.mem = u.mem

namespace BufStands

variable {c b : Nat} {k : CanBuf} {u s : State}

section Keeps

variable (h : BufStands c b k u s)
include h

theorem recordOpen (unit ev sev : Nat) : BufStands c b k u (s.recordOpen unit ev sev) := by
  obtain ⟨n, y, hr⟩ := s.recordOpen_eq unit ev sev false
  rw [hr]
  exact ⟨h.wf, h.buf, h.dev, h.mem⟩

theorem settleCancel (b' : Nat) : BufStands c b k u (s.settleCancel c b') := by
  obtain ⟨_, _, _, hr⟩ := s.settle_replied (fun d => d.op == .canCancel && d.data == [c, b'])
    fun _ => (stOk, [wd (canBuf s c b').state.num])
  rw [State.settleCancel, hr]
  exact ⟨h.wf, h.buf, h.dev, h.mem⟩

/-- A change of the controller gives the buffer what it gives its entry. -/
theorem modCtrl {k' : CanBuf} {f : CanCtrl → CanCtrl} (hf : ∀ r : CanCtrl, look {} r.bufs b = k → look {} (f r).bufs b = k') :
    BufStands c b k' u (s.modCtrl c f) := by
  refine ⟨upd_wf c f h.wf, ?_, h.dev, h.mem⟩
  have ctrl : canOf (s.modCtrl c f) c = f (canOf s c) := (look_upd f c c h.wf).trans (if_pos rfl)
  rw [canBuf, ctrl]
  exact hf _ h.buf

theorem modCtrl_of_sameBufs {f : CanCtrl → CanCtrl} (hf : ∀ r, (f r).bufs = r.bufs) : BufStands c b k u (s.modCtrl c f) :=
  h.modCtrl fun r hr => (hf r).symm ▸ hr

/-- The buffer takes a value that is not that of an unlisted one. -/
theorem modBuf_same {k' : CanBuf} {f : CanBuf → CanBuf} (hf : f k = k') (hne : k' ≠ {}) :
    BufStands c b k' u (s.modBuf c b f) :=
  h.modCtrl fun r hr => by
    subst hr hf
    exact look_put_of_ne _ b _ hne

theorem modBuf_other {b' : Nat} (hb : b ≠ b') (f : CanBuf → CanBuf) : BufStands c b k u (s.modBuf c b' f) :=
  h.modCtrl fun r hr => (look_put_other r.bufs _ hb).trans hr

/-- R441: the end of the frame on the bus cancels other buffers only. -/
theorem endCancels (hcancel : k.cancelling = false) : BufStands c b k u (s.endCancels c) := by
  refine List.foldlRecOn (motive := BufStands c b k u) _ _ h fun v hv b' _ => ?_
  split
  next hb' =>
    have other : b ≠ b' := by
      rintro rfl
      simp [hv.buf, hcancel] at hb'
    exact (hv.modBuf_other other _).settleCancel b'
  next => exact hv

/-- R442, R445: the state that follows the error counters; ABORT_ON_BUSOFF ends PENDING buffers only. -/
theorem confine (hcancel : k.cancelling = false) (hstate : k.state ≠ .pending) : BufStands c b k u (s.confine c) := by
  unfold State.confine
  dsimp only
  split
  next => exact h
  next =>
    split
    next =>
      refine ((h.endCancels hcancel).modCtrl fun r hr => ?_).recordOpen 10 11 1
      dsimp only
      split
      next =>
        rw [look_map (fun v : CanBuf => if v.state = .pending then { v with state := .failed } else v) rfl, hr, if_neg hstate]
      next => exact hr
    next =>
      split
      next =>
        split
        next => exact h
        next => exact (h.modCtrl_of_sameBufs fun _ => by rfl).recordOpen 10 10 0
      next => exact h.modCtrl_of_sameBufs fun _ => by rfl

theorem addTec (hcancel : k.cancelling = false) (hstate : k.state ≠ .pending) : BufStands c b k u (s.addTec c) :=
  (h.modCtrl_of_sameBufs fun _ => by rfl).confine hcancel hstate

/-- R443: a missing acknowledgement is counted for the controller. -/
theorem missAck : BufStands c b k u (s.missAck c) := by
  have counted : BufStands c b k u (s.modCtrl c fun r => { r with ackMisses := r.ackMisses + 1 }) := h.modCtrl_of_sameBufs fun _ => by rfl
  unfold State.missAck
  dsimp only
  split
  next => exact (counted.modCtrl_of_sameBufs fun _ => by rfl).recordOpen 10 12 1
  next => exact counted

/-- R444: the failure of its frame ends a one-shot buffer. -/
theorem txFailed (hstate : k.state = .pending) (hshot : k.oneShot = true) (hcancel : k.cancelling = false) :
    BufStands c b { k with state := .failed } u (s.txFailed c b) := by
  have hne : { k with state := .failed } ≠ ({} : CanBuf) := fun h => nomatch congrArg CanBuf.state h
  exact (h.modBuf_same (by simp [hstate, hshot, hcancel]) hne).settleCancel b

end Keeps

/-- R442, R444: the frame of a one-shot buffer met a fault on the bus. -/
theorem canError {e : CanFault} (h : BufStands c b k u s) (hbus : onBus s c = true) (hlisten : (canOf s c).listen = false)
    (hstate : k.state = .pending) (hshot : k.oneShot = true) (hcancel : k.cancelling = false)
    (he : e = .arbitration b ∨ (∃ stuff, e = .transmit b stuff) ∨ ∃ dominant, e = .noAck b dominant) :
    BufStands c b { k with state := .failed } u (canError c e s) := by
  have failed {v : State} (hv : BufStands c b k u v) := hv.txFailed hstate hshot hcancel
  rcases he with rfl | ⟨stuff, rfl⟩ | ⟨dominant, rfl⟩ <;>
    simp only [Machine.canError, hbus, hlisten, Bool.not_true, Bool.false_eq_true, if_false]
  · exact failed h
  · split
    · exact failed h
    · exact (failed h).addTec hcancel nofun
  · split
    · exact failed h.missAck
    · exact (failed h.missAck).addTec hcancel nofun

end BufStands

/-- Settles O55: the failed frame ends the buffer, nothing that follows the error counters touches it again, and a buffer that is
not PENDING is not offered. -/
theorem oneShotBuffersFail : Obligations.OneShotBuffersFail := by
  rintro c b t e s u rfl hc hctrls - hbus hlisten hstate hshot hcancel he
  have start : BufStands c b (canBuf (s.at t) c b) (s.at t) (s.at t) := ⟨hctrls, rfl, rfl, rfl⟩
  have ended := start.canError hbus hlisten hstate hshot hcancel he
  have failed : (canBuf (canError c e (s.at t)) c b).state = .failed := by rw [ended.buf]
  have hrun : exec (.canError c e t) s = .next (canError c e (s.at t)) :=
    event_of (decide_eq_true hc) t (canError c e) s
  exact ⟨_, hrun, failed, fun ho => (nomatch failed.symm.trans (state_of_offered ho)), ended.dev, ended.mem⟩

end Sys2Proof.Machine
end

section
/-! The fault queue (16 R566–R570): a report that meets a waiting fault of the same UNIT, CODE and DETAIL. -/

namespace Sys2Proof.Machine

section EqualFault

variable {s : State} {unit code detail : Nat}

/-- A record on its way to the recorder changes the recorder only. -/
theorem State.note_eq (s : State) (r : TallyRec) : ∃ y, s.note r = { s with tally := y } := by
  unfold State.note
  split <;> split <;> exact ⟨_, rfl⟩

/-- R569: a report of this UNIT, CODE and DETAIL merges into the waiting fault. -/
def Fault566.merges (unit code detail : Nat) (g : Fault566) : Bool := g.unit == unit && g.code == code && g.detail == detail

theorem Fault566.merges_iff {g : Fault566} :
    g.merges unit code detail = true ↔ g.unit = unit ∧ g.code = code ∧ g.detail = detail := by
  simp [Fault566.merges, and_assoc]

/-- R569, R571: where an equal fault waits, the report is recorded, a lasting condition is kept, and the waiting fault counts it;
whether the queue is full and what is in hand play no part. -/
theorem State.reportFault_of_merges (sev : Nat) (continuing : Bool) (h : s.flt.waiting.any (Fault566.merges unit code detail) = true) :
    ∃ y l, s.reportFault unit code sev detail continuing =
      { s with tally := y, flt := { s.flt with
          continuing := l
          waiting := s.flt.waiting.map fun g => if g.merges unit code detail then { g with count := g.count + 1 } else g } } := by
  obtain ⟨y, noted⟩ := s.note_eq { unit := unit, code := code, sev := sev, fault := true, detail := detail }
  simp only [State.reportFault, noted]
  by_cases lasts : continuing = true ∧ sev = 3
  · simp only [if_pos lasts]
    exact ⟨y, _, if_pos h⟩
  · simp only [if_neg lasts]
    exact ⟨y, _, if_pos h⟩

end EqualFault

/-- Settles O54: such a report changes nothing but the recorder, the conditions that last and the counts of the equal waiting faults. -/
theorem equalFaultsAreCounted : Obligations.EqualFaultsAreCounted := by
  intro s unit code sev detail continuing h
  have waits : s.flt.waiting.any (Fault566.merges unit code detail) = true := by
    simpa only [List.any_eq_true, Fault566.merges_iff] using h
  obtain ⟨y, l, reported⟩ := State.reportFault_of_merges sev continuing waits
  rw [reported]
  exact ⟨by simp only [Fault566.merges_iff], rfl, rfl, rfl, rfl⟩

end Sys2Proof.Machine
end
section
/-! What every step keeps (03 R87, 16 R550; 14 R494, R515): the canonical form of memory, and that no STO output goes high. One lemma for
each operation of the model says that it keeps both; SAFE.RESET alone, which switches outputs on, keeps memory only. -/

namespace Sys2Proof.Machine

/-- Every STO output that is high in the pairs `b` is high in the pairs `a`. -/
def StoWithin (a b : Tab StoPair) : Prop :=
  ∀ e ∈ b, (e.2.stoA = true → ∃ k, (e.1, k) ∈ a ∧ k.stoA = true) ∧ (e.2.stoB = true → ∃ k, (e.1, k) ∈ a ∧ k.stoB = true)

/-- What each step but the completion of a SAFE.RESET does: memory stays canonical, and no STO output goes high. -/
structure Kept (u s : State) : Prop where
  mem : Canonical u → Canonical s
  sto : StoWithin u.isl.pairs s.isl.pairs

section

variable {u s : State}

theorem StoWithin.refl (a : Tab StoPair) : StoWithin a a := fun e he => ⟨fun h => ⟨e.2, he, h⟩, fun h => ⟨e.2, he, h⟩⟩

theorem StoWithin.trans {a b c : Tab StoPair} (h : StoWithin a b) (k : StoWithin b c) : StoWithin a c := fun e he =>
  ⟨fun hs => by obtain ⟨x, hx, hs⟩ := (k e he).1 hs; exact (h _ hx).1 hs,
   fun hs => by obtain ⟨x, hx, hs⟩ := (k e he).2 hs; exact (h _ hx).2 hs⟩

theorem StoWithin.of_low {a b : Tab StoPair} (h : ∀ e ∈ b, e.2.stoA = false ∧ e.2.stoB = false) : StoWithin a b := fun e he => by
  obtain ⟨h1, h2⟩ := h e he
  exact ⟨fun hs => by simp [h1] at hs, fun hs => by simp [h2] at hs⟩

theorem mem_put {α : Type} [DecidableEq α] {d : α} {k : Nat} {v : α} {e : Nat × α} : ∀ {t : Tab α}, e ∈ put d t k v → e ∈ t ∨ e = (k, v)
  | [], h => by unfold put at h; grind
  | (j, w) :: r, h => by
    unfold put at h
    have ih := @mem_put _ _ d k v e r
    grind

theorem mem_of_look_ne {α : Type} {d : α} {k : Nat} : ∀ {t : Tab α}, look d t k ≠ d → (k, look d t k) ∈ t
  | [], h => (h rfl).elim
  | (j, w) :: r, h => by
    have ih := @mem_of_look_ne _ d k r
    simp only [look] at h ⊢
    grind

/-- A change of a pair that switches none of its STO outputs on. -/
def Lowers (f : StoPair → StoPair) : Prop := ∀ k, ((f k).stoA = true → k.stoA = true) ∧ ((f k).stoB = true → k.stoB = true)

theorem StoWithin.upd {f : StoPair → StoPair} (hf : Lowers f) (t : Tab StoPair) (p : Nat) : StoWithin t (upd {} t p f) := by
  intro e he
  rcases mem_put he with he | rfl
  · exact StoWithin.refl t e he
  · obtain ⟨hA, hB⟩ := hf (look {} t p)
    refine ⟨fun hs => ⟨_, mem_of_look_ne fun hd => ?_, hA hs⟩, fun hs => ⟨_, mem_of_look_ne fun hd => ?_, hB hs⟩⟩
    · exact absurd (hA hs) (by rw [hd]; decide)
    · exact absurd (hB hs) (by rw [hd]; decide)

theorem StoWithin.foldl_upd {f : StoPair → StoPair} (hf : Lowers f) : ∀ (ps : List Nat) (t : Tab StoPair),
    StoWithin t (ps.foldl (fun m p => Machine.upd {} m p f) t)
  | [], t => .refl t
  | p :: ps, t => (StoWithin.upd hf t p).trans (StoWithin.foldl_upd hf ps _)

theorem Kept.refl (s : State) : Kept s s := ⟨id, .refl _⟩

theorem Kept.of_eq {t : State} (h : Kept u s) (hm : t.mem = s.mem) (hi : t.isl = s.isl) : Kept u t :=
  ⟨fun k => by rw [Canonical, hm]; exact h.mem k, by rw [hi]; exact h.sto⟩

theorem Kept.of_mem {t : State} (h : Kept u s) (hm : Canonical s → Canonical t) (hi : t.isl = s.isl) : Kept u t :=
  ⟨fun k => hm (h.mem k), by rw [hi]; exact h.sto⟩

theorem ite_kept {c : Prop} [Decidable c] {a b : State} (ha : Kept u a) (hb : Kept u b) : Kept u (if c then a else b) := by
  split
  · exact ha
  · exact hb

theorem foldl_kept {α : Type} {f : State → α → State} (hf : ∀ s a, Kept u s → Kept u (f s a)) :
    ∀ (l : List α) {s : State}, Kept u s → Kept u (l.foldl f s)
  | [], _, h => h
  | a :: l, _, h => foldl_kept hf l (hf _ a h)

/-- The same where the state travels with other things. -/
theorem foldl_fst_kept {α β : Type} {f : State × β → α → State × β} (hf : ∀ r a, Kept u r.1 → Kept u (f r a).1) :
    ∀ (l : List α) {r : State × β}, Kept u r.1 → Kept u (l.foldl f r).1
  | [], _, h => h
  | a :: l, _, h => foldl_fst_kept hf l (hf _ a h)

theorem State.modMem_kept {f} (h : Kept u s) (hf : (f s.mem).store = s.mem.store) : Kept u (s.modMem f) :=
  h.of_mem (fun k => by rw [Canonical, State.modMem_mem, hf]; exact k) rfl

theorem State.modMem_kept_of_wf {f} (h : Kept u s) (hf : Memory.wf s.mem.store → Memory.wf (f s.mem).store) : Kept u (s.modMem f) :=
  h.of_mem hf rfl

theorem State.modIsl_kept {f} (h : Kept u s) (hf : (f s.isl).pairs = s.isl.pairs) : Kept u (s.modIsl f) :=
  ⟨h.mem, by rw [State.modIsl_isl, hf]; exact h.sto⟩

theorem State.modIsl_kept_of_within {f} (h : Kept u s) (hf : StoWithin s.isl.pairs (f s.isl).pairs) : Kept u (s.modIsl f) :=
  ⟨h.mem, h.sto.trans hf⟩
theorem State.modBoot_kept (h : Kept u s) (f) : Kept u (s.modBoot f) := h.of_eq rfl rfl
theorem State.modDev_kept (h : Kept u s) (f) : Kept u (s.modDev f) := h.of_eq rfl rfl
theorem State.modCyc_kept (h : Kept u s) (f) : Kept u (s.modCyc f) := h.of_eq rfl rfl
theorem State.modHost_kept (h : Kept u s) (f) : Kept u (s.modHost f) := h.of_eq rfl rfl
theorem State.modFlt_kept (h : Kept u s) (f) : Kept u (s.modFlt f) := h.of_eq rfl rfl
theorem State.modTally_kept (h : Kept u s) (f) : Kept u (s.modTally f) := h.of_eq rfl rfl
theorem State.modPwr_kept (h : Kept u s) (f) : Kept u (s.modPwr f) := h.of_eq rfl rfl
theorem State.modGraph_kept (h : Kept u s) (f) : Kept u (s.modGraph f) := h.of_eq rfl rfl
theorem State.modSched_kept (h : Kept u s) (f) : Kept u (s.modSched f) := h.of_eq rfl rfl
theorem State.modLoop_kept (h : Kept u s) (f) : Kept u (s.modLoop f) := h.of_eq rfl rfl
theorem State.modAxis_kept (h : Kept u s) (f) : Kept u (s.modAxis f) := h.of_eq rfl rfl
theorem State.modAdc_kept (h : Kept u s) (f) : Kept u (s.modAdc f) := h.of_eq rfl rfl
theorem State.modDio_kept (h : Kept u s) (f) : Kept u (s.modDio f) := h.of_eq rfl rfl
theorem State.modAcq_kept (h : Kept u s) (f) : Kept u (s.modAcq f) := h.of_eq rfl rfl
theorem State.modDrove_kept (h : Kept u s) (f) : Kept u (s.modDrove f) := h.of_eq rfl rfl
theorem State.modCan_kept (h : Kept u s) (f) : Kept u (s.modCan f) := h.of_eq rfl rfl
theorem State.modNet_kept (h : Kept u s) (f) : Kept u (s.modNet f) := h.of_eq rfl rfl
theorem State.modPair_kept (h : Kept u s) (f) : Kept u (s.modPair f) := h.of_eq rfl rfl
theorem State.modKeep_kept (h : Kept u s) (f) : Kept u (s.modKeep f) := h.of_eq rfl rfl
theorem State.emit_kept (h : Kept u s) (o) : Kept u (s.emit o) := h.of_eq rfl rfl

end

end Sys2Proof.Machine
end

section
/-! What `Kept` says, by the operations of Machine/Ops. -/

namespace Sys2Proof.Machine

section

variable {u s : State}

theorem State.at_kept (h : Kept u s) (t) : Kept u (s.at t) := h.of_eq rfl rfl

theorem State.settleTime_kept (h : Kept u s) : Kept u (s.settleTime) := h.of_eq rfl rfl

theorem State.startOffset_kept (h : Kept u s) (ps) : Kept u (s.startOffset ps) := h.of_eq rfl rfl

theorem State.applyRate_kept (h : Kept u s) : Kept u (s.applyRate) := h.of_eq rfl rfl

theorem State.takeFree_kept (h : Kept u s) : Kept u s.takeFree.2 := h.of_eq rfl rfl

theorem State.track_kept (h : Kept u s) (a n) : Kept u (s.track a n) := by
  unfold State.track; grind only [foldl_kept, State.modKeep_kept]

theorem State.coverPoison_kept (h : Kept u s) (a n) : Kept u (s.coverPoison a n) := by
  unfold State.coverPoison; grind only [State.modMem_kept]

theorem State.writeBytes_kept (h : Kept u s) (a bs) : Kept u (s.writeBytes a bs) :=
  ⟨fun k => State.writeBytes_canonical a bs (h.mem k), fun k => by
    unfold State.writeBytes State.coverPoison State.track
    split <;> split <;> exact h.sto k⟩

theorem State.zeroBytes_kept (h : Kept u s) (a n) : Kept u (s.zeroBytes a n) :=
  ⟨fun k => State.zeroBytes_canonical a n (h.mem k), fun k => by
    unfold State.zeroBytes State.coverPoison State.track
    split <;> split <;> exact h.sto k⟩

theorem State.writeNat_kept (h : Kept u s) (a n v) : Kept u (s.writeNat a n v) := by
  unfold State.writeNat; grind only [State.writeBytes_kept]

theorem State.writeWord_kept (h : Kept u s) (a v) : Kept u (s.writeWord a v) := by
  unfold State.writeWord; grind only [State.writeNat_kept]

theorem State.writeWords_kept (h : Kept u s) (a ws) : Kept u (s.writeWords a ws) := by
  unfold State.writeWords; grind only [State.writeBytes_kept]

theorem State.note_kept (h : Kept u s) (r) : Kept u (s.note r) := by
  unfold State.note; grind only [State.modTally_kept]

theorem State.record_kept (h : Kept u s) (unit code sev detail detail2) : Kept u (s.record unit code sev detail detail2) := by
  unfold State.record; grind only [State.note_kept]

theorem State.transient_kept (h : Kept u s) (unit code detail) : Kept u (s.transient unit code detail) := by
  unfold State.transient; grind only [State.note_kept]

theorem State.recordEv_kept (h : Kept u s) (unit ev sev detail transient) : Kept u (s.recordEv unit ev sev detail transient) := by
  unfold State.recordEv; grind only [State.note_kept]

theorem State.recordOpen_kept (h : Kept u s) (unit ev sev transient) : Kept u (s.recordOpen unit ev sev transient) := by
  unfold State.recordOpen; grind only [State.recordEv_kept, State.takeFree_kept]

theorem State.noteAbsent_kept (h : Kept u s) (unit) : Kept u (s.noteAbsent unit) := by
  unfold State.noteAbsent; grind only [State.recordOpen_kept, State.modBoot_kept]

theorem State.sendVector_kept (h : Kept u s) (v) : Kept u (s.sendVector v) := by
  unfold State.sendVector; grind only [State.modHost_kept, State.emit_kept]

theorem State.setMode_kept (h : Kept u s) (m) : Kept u (s.setMode m) := by
  unfold State.setMode; grind only [State.sendVector_kept, State.modDev_kept]

theorem State.enterSafe_kept (h : Kept u s) (cause) : Kept u (s.enterSafe cause) := by
  unfold State.enterSafe; grind only [State.setMode_kept, State.modDev_kept]

theorem State.askGiveUp_kept (h : Kept u s) (g) : Kept u (s.askGiveUp g) := by
  unfold State.askGiveUp; grind only [State.modPair_kept]

theorem State.react_kept (h : Kept u s) (f) : Kept u (s.react f) := by
  unfold State.react; grind only [State.askGiveUp_kept, State.modDev_kept, State.enterSafe_kept]

theorem takeUp_kept : ∀ (n : Nat) {s : State}, Kept u s → Kept u (takeUp n s)
  | 0, _, h => h
  | n + 1, s, h => by
    unfold takeUp; grind only [State.modFlt_kept, State.react_kept, takeUp_kept n]

theorem State.preempt_kept (h : Kept u s) (f) : Kept u (s.preempt f) := by
  unfold State.preempt; grind only [State.modFlt_kept, State.react_kept, takeUp_kept]

theorem State.queueOverflow_kept (h : Kept u s) : Kept u (s.queueOverflow) := by
  unfold State.queueOverflow; grind only [State.note_kept, State.preempt_kept, State.modDev_kept]

theorem State.reportFault_kept (h : Kept u s) (unit code sev detail continuing) : Kept u (s.reportFault unit code sev detail continuing) := by
  unfold State.reportFault; grind only [State.note_kept, State.modFlt_kept, State.queueOverflow_kept, State.preempt_kept]

theorem State.reportOpen_kept (h : Kept u s) (unit ev sev continuing) : Kept u (s.reportOpen unit ev sev continuing) := by
  unfold State.reportOpen; grind only [State.reportFault_kept, State.takeFree_kept]

theorem State.clearCondition_kept (h : Kept u s) (unit code detail) : Kept u (s.clearCondition unit code detail) := h.of_eq rfl rfl

theorem State.publishAt_kept (h : Kept u s) (entry stamp value) : Kept u (s.publishAt entry stamp value) := by
  unfold State.publishAt; grind only [State.modAcq_kept]

theorem State.publish_kept (h : Kept u s) (entry value) : Kept u (s.publish entry value) := by
  unfold State.publish; grind only [State.publishAt_kept]

theorem State.modDomain_kept (h : Kept u s) (d f) : Kept u (s.modDomain d f) := h.of_eq rfl rfl

theorem retarget_kept (h : Kept u s) (d p) : Kept u (retarget d p s) := by
  unfold retarget; grind only [State.modDomain_kept]

theorem wakeDomain_kept (h : Kept u s) (d) : Kept u (wakeDomain d s) := by
  unfold wakeDomain; grind only [State.modPwr_kept, State.modDomain_kept, retarget_kept]

theorem State.toRing_kept (h : Kept u s) (w) : Kept u (s.toRing w) := h.of_eq rfl rfl

theorem State.dropReply_kept (h : Kept u s) : Kept u (s.dropReply) := h.of_eq rfl rfl

theorem State.freeRing_kept (h : Kept u s) (n) : Kept u (s.freeRing n) := h.of_eq rfl rfl

theorem State.freed_kept (h : Kept u s) (frees) : Kept u (s.freed frees) := by
  unfold State.freed; grind only [State.freeRing_kept]

theorem State.replyOnRing_kept (h : Kept u s) (m ws frees) : Kept u (s.replyOnRing m ws frees) := by
  unfold State.replyOnRing; grind only [State.freed_kept, State.dropReply_kept, State.toRing_kept]

theorem State.flushUdp_kept (h : Kept u s) : Kept u (s.flushUdp) := by
  unfold State.flushUdp; grind only [foldl_kept, State.modHost_kept, State.emit_kept]

theorem State.sendUdp_kept (h : Kept u s) (via ip port ws) : Kept u (s.sendUdp via ip port ws) := by
  unfold State.sendUdp; grind only [State.emit_kept, State.modHost_kept, State.flushUdp_kept]

theorem State.sendReply_kept (h : Kept u s) (o tag ws frees) : Kept u (s.sendReply o tag ws frees) := by
  unfold State.sendReply; grind only [State.replyOnRing_kept, State.freed_kept, State.sendUdp_kept, State.modHost_kept,
    State.modDrove_kept, State.dropReply_kept]

theorem State.answerAt_kept (h : Kept u s) (op p cycle status ws frees) : Kept u (s.answerAt op p cycle status ws frees) := by
  unfold State.answerAt; grind only [State.sendReply_kept, State.freed_kept, State.modDrove_kept]

theorem State.answer_kept (h : Kept u s) (op p status ws) : Kept u (s.answer op p status ws) := by
  unfold State.answer; grind only [State.answerAt_kept]

theorem State.defer_kept (h : Kept u s) (op p data) : Kept u (s.defer op p data).1 := by
  unfold State.defer; grind only [State.modHost_kept]

theorem State.settle_kept (h : Kept u s) (f g) : Kept u (s.settle f g) := by
  unfold State.settle; grind only [foldl_kept, State.modHost_kept, State.answer_kept]

theorem checked_kept (h : Kept u s) (cs) {k : State × Verdict} (hk : Kept u k.1) : Kept u (checked cs s k).1 := by
  unfold checked; split
  · exact h
  · exact hk

end

end Sys2Proof.Machine
end

section
/-! What `Kept` says, by the operations of Machine/Reset. -/

namespace Sys2Proof.Machine

section

variable {u s : State}

theorem State.unitsCleared_kept (h : Kept u s) : Kept u s.unitsCleared := by
  have memoryCleared {t : State} (ht : Kept u t) : Kept u (t.modMem MemUnit.unitsCleared) :=
    State.modMem_kept_of_wf ht fun k => clearRange_wf _ _ (clearRange_wf _ _ k)
  unfold State.unitsCleared
  extract_lets began memory tally cyc keep
  have begins : Kept u began := h.of_eq rfl rfl
  have kept : Kept u keep := State.modKeep_kept (State.modCyc_kept (State.modTally_kept (memoryCleared begins) _) _) _
  exact ite_kept (State.modPair_kept kept _) (State.setMode_kept (State.modPair_kept kept _) _)

theorem closeWindow_kept (h : Kept u s) : Kept u (closeWindow s) := by
  unfold closeWindow; grind only [State.modBoot_kept, State.settle_kept, State.unitsCleared_kept]

theorem endWindow_kept (h : Kept u s) : Kept u (endWindow s) := by
  unfold endWindow; grind only [closeWindow_kept, State.recordOpen_kept]

end

end Sys2Proof.Machine
end

section
/-! What `Kept` says, by the operations of Machine/Command. -/

namespace Sys2Proof.Machine

section

variable {u s : State}

theorem windowFor_kept (h : Kept u s) (op) : Kept u (windowFor op s) := by
  unfold windowFor; grind only [endWindow_kept]

theorem State.mirror_kept (h : Kept u s) (op p status) : Kept u (s.mirror op p status) := by
  unfold State.mirror; grind only [State.emit_kept]

theorem State.recordConfig_kept (h : Kept u s) (op status) : Kept u (s.recordConfig op status) := by
  unfold State.recordConfig; grind only [State.modBoot_kept]

theorem State.conclude_kept (h : Kept u s) (op p status ws) : Kept u (s.conclude op p status ws) := by
  unfold State.conclude; grind only [State.answer_kept, State.mirror_kept, State.recordConfig_kept]

theorem wakeFor_kept (h : Kept u s) (op) : Kept u (wakeFor op s) := by
  unfold wakeFor; grind only [wakeDomain_kept]

theorem execute_kept (h : Kept u s) (op) {body} (hb : ∀ p s, Kept u s → Kept u (body p s).1) (p) : Kept u (execute op body p s) := by
  unfold execute; grind only [windowFor_kept, wakeFor_kept, State.answer_kept, State.conclude_kept, State.recordConfig_kept,
    State.mirror_kept]

theorem runCommand_kept (h : Kept u s) (op) {body} (hb : ∀ p s, Kept u s → Kept u (body p s).1) (p) : Kept u (runCommand op body p s) := by
  unfold runCommand; grind only [State.answer_kept, State.modHost_kept, execute_kept]

end

end Sys2Proof.Machine
end

section
/-! What `Kept` says, by the operations of Machine/Host. -/

namespace Sys2Proof.Machine

section

variable {u s : State}

theorem State.modRing_kept (h : Kept u s) (n f) : Kept u (s.modRing n f) := h.of_eq rfl rfl

theorem State.faultRing_kept (h : Kept u s) (n cause) : Kept u (s.faultRing n cause) := by
  unfold State.faultRing; grind only [State.sendVector_kept, State.modRing_kept]

theorem State.restall_kept (h : Kept u s) : Kept u (s.restall) := h.of_eq rfl rfl

theorem prodDoorbell_kept (h : Kept u s) (n v) : Kept u (prodDoorbell n v s) := by
  unfold prodDoorbell; dsimp only; repeat' split
  all_goals apply_rules [foldl_kept, State.faultRing_kept, State.modRing_kept]

theorem consDoorbell_kept (h : Kept u s) (n v) : Kept u (consDoorbell n v s) := by
  unfold consDoorbell; dsimp only; repeat' split
  all_goals apply_rules [foldl_kept, State.faultRing_kept, State.restall_kept, State.modRing_kept]

theorem enableRing_kept (h : Kept u s) (n en) : Kept u (enableRing n en s) := by
  unfold enableRing; grind only [State.restall_kept, State.modRing_kept]

theorem ringReset_kept (h : Kept u s) (n) : Kept u (ringReset n s) := by
  unfold ringReset; grind only [State.restall_kept, State.modRing_kept, State.modHost_kept]

theorem hostErrClear_kept (h : Kept u s) (mask) : Kept u (hostErrClear mask s) := h.of_eq rfl rfl

theorem droppedRepliesRead_kept (h : Kept u s) : Kept u (droppedRepliesRead s) := h.of_eq rfl rfl

theorem State.writeOut_kept (h : Kept u s) (transport pieces) : Kept u (s.writeOut transport pieces) := by
  unfold State.writeOut; grind only [foldl_kept, State.emit_kept, State.writeWords_kept]

theorem ringIrq_kept (h : Kept u s) (n) : Kept u (ringIrq n s) := by
  unfold ringIrq; grind only [State.sendVector_kept, State.modRing_kept]

theorem ringPut_kept (h : Kept u s) (n ws dma) : Kept u (ringPut n ws dma s).1 := by
  unfold ringPut; grind only [State.faultRing_kept, State.recordOpen_kept, State.writeOut_kept, State.modRing_kept, ringIrq_kept]

theorem State.resetReply_kept (h : Kept u s) (ws) : Kept u (s.resetReply ws) := by
  unfold State.resetReply; grind only [State.modBoot_kept]

theorem replyWrite_kept (h : Kept u s) (n dma) : Kept u (replyWrite n dma s) := by
  unfold replyWrite; dsimp only; repeat' split
  all_goals grind only [ringPut_kept, State.modHost_kept, State.resetReply_kept, State.restall_kept, State.freed_kept]

theorem holdoffExpiry_kept (h : Kept u s) (n) : Kept u (holdoffExpiry n s) := by
  unfold holdoffExpiry; grind only [State.sendVector_kept, State.modRing_kept]

theorem State.mapOrigins_kept (h : Kept u s) (f) : Kept u (s.mapOrigins f) := h.of_eq rfl rfl

theorem hostInterfaceReset_kept (h : Kept u s) : Kept u (hostInterfaceReset s) := by
  unfold hostInterfaceReset; grind only [State.mapOrigins_kept, State.flushUdp_kept, State.modHost_kept, State.recordOpen_kept]

theorem configurationRequest_kept (h : Kept u s) (offset) : Kept u (configurationRequest offset s) := by
  unfold configurationRequest; grind only [State.emit_kept]

theorem cmdHostRingCreate_kept (h : Kept u s) (p) : Kept u (cmdHostRingCreate p s).1 := by
  unfold cmdHostRingCreate; dsimp only
  apply_rules [foldl_kept, checked_kept, State.modRing_kept]

theorem cmdHostRingDestroy_kept (h : Kept u s) (p) : Kept u (cmdHostRingDestroy p s).1 := by
  unfold cmdHostRingDestroy; grind only [checked_kept, State.mapOrigins_kept, State.modRing_kept, State.answerAt_kept]

theorem cmdHostEventRoute_kept (h : Kept u s) (p) : Kept u (cmdHostEventRoute p s).1 := by
  unfold cmdHostEventRoute; grind only [checked_kept, State.modRing_kept]

theorem eventTo_kept (h : Kept u s) (n source rec) : Kept u (eventTo n source rec s) := by
  unfold eventTo; grind only [State.toRing_kept, State.modRing_kept]

theorem copyEvents_kept (h : Kept u s) (unit sev source below rec) : Kept u (copyEvents unit sev source below rec s) := by
  unfold copyEvents; grind only [foldl_kept, eventTo_kept]

end

end Sys2Proof.Machine
end

section
/-! What `Kept` says, by the operations of Machine/Acq. -/

namespace Sys2Proof.Machine

section

variable {u s : State}

theorem State.modCap_kept (h : Kept u s) (c f) : Kept u (s.modCap c f) := h.of_eq rfl rfl

theorem State.writeRegion_kept (h : Kept u s) (cap i ws) : Kept u (s.writeRegion cap i ws) := by
  unfold State.writeRegion; grind only [foldl_kept, State.writeWords_kept]

theorem State.enqueue_kept (h : Kept u s) (c rseq time lengthNs ws) : Kept u (s.enqueue c rseq time lengthNs ws) := by
  unfold State.enqueue; grind only [State.modCap_kept, State.writeRegion_kept]

theorem State.lose_kept (h : Kept u s) (c l) : Kept u (s.lose c l) := h.of_eq rfl rfl

theorem State.enqueueGaps_kept (h : Kept u s) (c) : Kept u (s.enqueueGaps c) := by
  unfold State.enqueueGaps; grind only [foldl_kept, State.enqueue_kept, State.modCap_kept]

theorem State.queueRecord_kept (h : Kept u s) (c rseq time lengthNs parts) : Kept u (s.queueRecord c rseq time lengthNs parts) := by
  unfold State.queueRecord; grind only [foldl_kept, State.enqueue_kept, State.enqueueGaps_kept, State.lose_kept]

theorem putParts_kept (ring dma) : ∀ (l : List (List Word)) {s : State}, Kept u s → Kept u (putParts ring dma l s).1
  | [], _, h => h
  | p :: r, s, h => by
    have put := ringPut_kept h ring p dma
    have rest := putParts_kept ring dma r put
    unfold putParts
    split
    next hp => simpa [hp] using rest
    next hp => simpa [hp] using put

theorem State.streamRecord_kept (h : Kept u s) (c rseq time lengthNs dma parts) : Kept u (s.streamRecord c rseq time lengthNs dma parts).1 := by
  unfold State.streamRecord; grind only [foldl_kept, State.lose_kept, ringPut_kept, State.modCap_kept, putParts_kept]

theorem State.noteState_kept (h : Kept u s) (c ev time oldTime) : Kept u (s.noteState c ev time oldTime) := by
  unfold State.noteState; grind only [State.streamRecord_kept, State.queueRecord_kept]

theorem State.beginFill_kept (h : Kept u s) (c b) : Kept u (s.beginFill c b) := by
  unfold State.beginFill; grind only [State.modCap_kept]

theorem State.endCapture_kept (h : Kept u s) (c) : Kept u (s.endCapture c) := by
  unfold State.endCapture; grind only [State.noteState_kept, State.modCap_kept, State.settle_kept]

theorem State.completeWindow_kept (h : Kept u s) (c w win) : Kept u (s.completeWindow c w win) := by
  unfold State.completeWindow; grind only [State.writeWords_kept, State.modCap_kept, State.beginFill_kept]

theorem State.windowRecord_kept (h : Kept u s) (c b dma parts) : Kept u (s.windowRecord c b dma parts) := by
  unfold State.windowRecord; grind only [State.streamRecord_kept, State.modCap_kept, State.writeWords_kept, State.completeWindow_kept]

theorem State.setRate_kept (h : Kept u s) (c b new reason fill) : Kept u (s.setRate c b new reason fill) := by
  unfold State.setRate; grind only [State.queueRecord_kept, State.modCap_kept]

theorem rateStep_kept (h : Kept u s) (c b) : Kept u (rateStep c b s) := by
  unfold rateStep; grind only [State.modCap_kept, State.setRate_kept]

theorem boundaryStep_kept (h : Kept u s) (c b) : Kept u (boundaryStep c b s) := by
  unfold boundaryStep; grind only [State.noteState_kept, State.modCap_kept, State.setRate_kept, rateStep_kept]

theorem State.closeInterval_kept (h : Kept u s) (c dma cut) : Kept u (s.closeInterval c dma cut) := by
  unfold State.closeInterval; grind only [foldl_kept, State.modCap_kept, State.windowRecord_kept, State.queueRecord_kept]

theorem State.pruneLoss_kept (h : Kept u s) : Kept u (s.pruneLoss) := h.of_eq rfl rfl

theorem State.stopIfDue_kept (h : Kept u s) (c b) : Kept u (s.stopIfDue c b) := by
  unfold State.stopIfDue; grind only [State.endCapture_kept]

theorem intervalClose_kept (h : Kept u s) (c dma) : Kept u (intervalClose c dma s) := by
  unfold intervalClose; grind only [State.stopIfDue_kept, State.pruneLoss_kept, State.closeInterval_kept, boundaryStep_kept]

theorem recordCopy_kept (h : Kept u s) (c dma) : Kept u (recordCopy c dma s) := by
  unfold recordCopy; grind only [ringPut_kept, State.modCap_kept, State.beginFill_kept]

theorem State.modTrig_kept (h : Kept u s) (u1 f) : Kept u (s.modTrig u1 f) := h.of_eq rfl rfl

theorem State.trigCapture_kept (h : Kept u s) (u1 stamp value c) : Kept u (s.trigCapture u1 stamp value c) := by
  unfold State.trigCapture; grind only [State.modCap_kept]

theorem State.fireUnit_kept (h : Kept u s) (u1 stamp value) : Kept u (s.fireUnit u1 stamp value) := by
  unfold State.fireUnit; grind only [foldl_kept, State.modTrig_kept, State.trigCapture_kept, State.modAcq_kept]

theorem State.combine_kept (h : Kept u s) (stamp) : Kept u (s.combine stamp) := by
  unfold State.combine; grind only [foldl_kept, State.fireUnit_kept]

theorem State.fire_kept (h : Kept u s) (u1 stamp value) : Kept u (s.fire u1 stamp value) := by
  unfold State.fire; grind only [State.combine_kept, State.fireUnit_kept]

theorem State.watch_kept (h : Kept u s) (u1 stamp value real prev) : Kept u (s.watch u1 stamp value real prev) := by
  unfold State.watch; grind only [State.modTrig_kept, State.fire_kept]

theorem State.fireOpen_kept (h : Kept u s) (u1 stamp) : Kept u (s.fireOpen u1 stamp) := by
  unfold State.fireOpen; grind only [State.fire_kept]

theorem fireProgram_kept (h : Kept u s) (u1) : Kept u (fireProgram u1 s) := by
  unfold fireProgram; grind only [State.fireOpen_kept]

theorem triggerTally_kept (h : Kept u s) (_unit code sev) : Kept u (triggerTally _unit code sev s) := by
  unfold triggerTally; grind only [foldl_kept, State.fireOpen_kept]

theorem triggerCycle_kept (h : Kept u s) (cycle) : Kept u (triggerCycle cycle s) := by
  unfold triggerCycle; grind only [foldl_kept, State.fireOpen_kept, State.modTrig_kept]

theorem acqMark_kept (h : Kept u s) (value) : Kept u (acqMark value s) := h.of_eq rfl rfl

theorem State.countAt_kept (h : Kept u s) (addr n) : Kept u (s.countAt addr n) := by
  unfold State.countAt; grind only [State.writeNat_kept]

theorem State.histCount_kept (h : Kept u s) (h1 real) : Kept u (s.histCount h1 real) := by
  unfold State.histCount; grind only [State.modAcq_kept, State.countAt_kept]

theorem State.mapPoint_kept (h : Kept u s) (m entry stamp real) : Kept u (s.mapPoint m entry stamp real) := by
  unfold State.mapPoint; grind only [State.modAcq_kept, State.countAt_kept]

theorem decay_kept (h : Kept u s) (m) : Kept u (decay m s) := by
  unfold decay; grind only [foldl_kept, State.modAcq_kept, State.writeNat_kept]

theorem deliver_kept (h : Kept u s) (p) : Kept u (deliver p s) := by
  unfold deliver; grind only [foldl_kept, State.modAcq_kept, State.histCount_kept, State.watch_kept, State.mapPoint_kept]

theorem publication_kept (h : Kept u s) : Kept u (publication s) := by
  unfold publication; grind only [deliver_kept, State.modAcq_kept]

theorem publishUser_kept (h : Kept u s) (entry value) : Kept u (publishUser entry value s) := by
  unfold publishUser; grind only [State.modAcq_kept, State.publish_kept]

theorem State.closeUntil_kept : ∀ (n c us) {s : State}, Kept u s → Kept u (State.closeUntil n c us s)
  | 0, _, _, _, h => h
  | n + 1, c, us, s, h => by
    unfold State.closeUntil
    exact ite_kept (State.closeUntil_kept n c us (State.closeInterval_kept h _ _ _)) h

theorem State.cutInterval_kept (h : Kept u s) (c ns) : Kept u (s.cutInterval c ns) := by
  unfold State.cutInterval; grind only [State.closeUntil_kept, State.closeInterval_kept]

theorem State.setPaused_kept (h : Kept u s) (old c) : Kept u (State.setPaused old s c) := by
  unfold State.setPaused; grind only [State.noteState_kept, State.modCap_kept]

theorem acqTimeSet_kept (h : Kept u s) (old) : Kept u (acqTimeSet old s) := by
  unfold acqTimeSet; grind only [foldl_kept, State.modAcq_kept, State.setPaused_kept, State.noteState_kept, State.cutInterval_kept,
    State.modCap_kept]

theorem acqPause_kept (h : Kept u s) : Kept u (acqPause s) := by
  unfold acqPause; grind only [foldl_kept, State.cutInterval_kept, State.modCap_kept]

theorem State.streamGaps_kept (h : Kept u s) (c) : Kept u (s.streamGaps c) := by
  unfold State.streamGaps; grind only [foldl_kept, ringPut_kept, State.modCap_kept]

theorem State.skipIntervals_kept (h : Kept u s) (c cause) : Kept u (s.skipIntervals c cause) := by
  unfold State.skipIntervals; grind only [State.modCap_kept, State.streamGaps_kept]

theorem acqUnpause_kept (h : Kept u s) : Kept u (acqUnpause s) := by
  unfold acqUnpause; grind only [foldl_kept, State.skipIntervals_kept]

theorem acqResumed_kept (h : Kept u s) : Kept u (acqResumed s) := by
  unfold acqResumed; grind only [foldl_kept, State.skipIntervals_kept]

theorem captureMemoryFault_kept (h : Kept u s) (addr) : Kept u (captureMemoryFault addr s) := by
  unfold captureMemoryFault; grind only [foldl_kept, State.modCap_kept, State.writeRegion_kept]

theorem cmdAcqSignalConfig_kept (h : Kept u s) (p) : Kept u (cmdAcqSignalConfig p s).1 := by
  unfold cmdAcqSignalConfig; grind only [checked_kept, State.modAcq_kept]

theorem captureConfig_kept (h : Kept u s) (win p) : Kept u (captureConfig win p s).1 := by
  unfold captureConfig; grind only [checked_kept, State.modCap_kept]

theorem cmdAcqStreamConfig_kept (h : Kept u s) (p) : Kept u (cmdAcqStreamConfig p s).1 := by
  unfold cmdAcqStreamConfig; grind only [captureConfig_kept]

theorem cmdAcqWindowConfig_kept (h : Kept u s) (p) : Kept u (cmdAcqWindowConfig p s).1 := by
  unfold cmdAcqWindowConfig; grind only [captureConfig_kept]

theorem cmdAcqTriggerConfig_kept (h : Kept u s) (p) : Kept u (cmdAcqTriggerConfig p s).1 := by
  unfold cmdAcqTriggerConfig; grind only [checked_kept, State.modTrig_kept]

theorem cmdAcqHistConfig_kept (h : Kept u s) (p) : Kept u (cmdAcqHistConfig p s).1 := by
  unfold cmdAcqHistConfig
  refine checked_kept h _ ?_
  dsimp only
  exact State.modAcq_kept (ite_kept (State.modMem_kept_of_wf h fun k => clearRange_wf _ _ k) h) _

theorem cmdAcqPmapConfig_kept (h : Kept u s) (p) : Kept u (cmdAcqPmapConfig p s).1 := by
  unfold cmdAcqPmapConfig
  refine checked_kept h _ ?_
  dsimp only
  exact State.modAcq_kept (ite_kept (State.modMem_kept_of_wf h fun k => clearRange_wf _ _ k) h) _

theorem startCapture_kept (h : Kept u s) (c) : Kept u (startCapture c s) := by
  unfold startCapture; grind only [State.modCap_kept, State.beginFill_kept, State.noteState_kept]

theorem cmdAcqControl_kept (h : Kept u s) (p) : Kept u (cmdAcqControl p s).1 := by
  unfold cmdAcqControl; grind only [checked_kept, startCapture_kept, State.modCap_kept, State.defer_kept, State.beginFill_kept]

theorem cmdAcqStatus_kept (h : Kept u s) (p) : Kept u (cmdAcqStatus p s).1 := by
  unfold cmdAcqStatus; grind only [checked_kept]

theorem cmdAcqIndexRead_kept (h : Kept u s) (p) : Kept u (cmdAcqIndexRead p s).1 := by
  unfold cmdAcqIndexRead; grind only [checked_kept]

end

end Sys2Proof.Machine
end

section
/-! What `Kept` says, by the operations of Machine/LoopBase. -/

namespace Sys2Proof.Machine

section

variable {u s : State}

theorem State.setStW_kept (h : Kept u s) (c i v) : Kept u (s.setStW c i v) := by
  unfold State.setStW; grind only [State.writeWord_kept]

theorem State.setStatus_kept (h : Kept u s) (c lo n v) : Kept u (s.setStatus c lo n v) := by
  unfold State.setStatus; grind only [State.setStW_kept]

theorem State.noteLoop_kept (h : Kept u s) (a) : Kept u (s.noteLoop a) := by
  unfold State.noteLoop; grind only [State.noteAbsent_kept]

theorem State.modLoopCh_kept (h : Kept u s) (c f) : Kept u (s.modLoopCh c f) := h.of_eq rfl rfl

end

end Sys2Proof.Machine
end

section
/-! What `Kept` says, by the operations of Machine/Dio. -/

namespace Sys2Proof.Machine

section

variable {u s : State}

theorem State.modDin_kept (h : Kept u s) (n f) : Kept u (s.modDin n f) := h.of_eq rfl rfl

theorem State.modDout_kept (h : Kept u s) (n f) : Kept u (s.modDout n f) := h.of_eq rfl rfl

theorem State.modPwm_kept (h : Kept u s) (n f) : Kept u (s.modPwm n f) := h.of_eq rfl rfl

theorem inputEdge_kept (h : Kept u s) (n level) : Kept u (inputEdge n level s) := h.of_eq rfl rfl

theorem settleDins_kept (h : Kept u s) : Kept u (settleDins s) := h.of_eq rfl rfl

theorem stuck_kept (h : Kept u s) (n) : Kept u (stuck n s) := by
  unfold stuck; grind only [settleDins_kept, State.recordOpen_kept, State.modDin_kept]

theorem latchDin_kept (h : Kept u s) (n) : Kept u (latchDin s n) := by
  unfold latchDin; grind only [State.recordOpen_kept, State.modDin_kept, State.publish_kept]

theorem driveDouts_kept (h : Kept u s) : Kept u (driveDouts s) := h.of_eq rfl rfl

theorem readback_kept (h : Kept u s) (n level) : Kept u (readback n level s) := h.of_eq rfl rfl

theorem doutFault_kept (h : Kept u s) (n level) : Kept u (doutFault n level s) := by
  unfold doutFault; grind only [State.reportFault_kept, State.takeFree_kept, State.modDout_kept, State.recordOpen_kept]

theorem pwmPeriodStart_kept (h : Kept u s) (n) : Kept u (pwmPeriodStart n s) := by
  unfold pwmPeriodStart; grind only [State.modPwm_kept]

theorem State.modEnc_kept (h : Kept u s) (n f) : Kept u (s.modEnc n f) := h.of_eq rfl rfl

theorem encoderCountEdge_kept (h : Kept u s) (n a b) : Kept u (encoderCountEdge n a b s) := by
  unfold encoderCountEdge; grind only [State.modEnc_kept, State.modDio_kept]

theorem latchEnc_kept (h : Kept u s) (n) : Kept u (latchEnc s n) := by
  unfold latchEnc; grind only [State.publish_kept, State.modEnc_kept]

theorem armLatch_kept (h : Kept u s) (n) : Kept u (armLatch n s) := h.of_eq rfl rfl

theorem captureLatch_kept (h : Kept u s) (n) : Kept u (captureLatch n s) := h.of_eq rfl rfl

theorem keepSubstitutes_kept (h : Kept u s) : Kept u (keepSubstitutes s) := by
  unfold keepSubstitutes; grind only [State.modDio_kept]

theorem setSubstitute_kept (h : Kept u s) (on) : Kept u (setSubstitute on s) := h.of_eq rfl rfl

theorem publishOutputs_kept (h : Kept u s) : Kept u (publishOutputs s) := by
  unfold publishOutputs; grind only [foldl_kept, State.publish_kept]

theorem cmdDioInputConfig_kept (h : Kept u s) (p) : Kept u (cmdDioInputConfig p s).1 := by
  unfold cmdDioInputConfig; grind only [foldl_kept, checked_kept, State.modDin_kept, settleDins_kept]

theorem cmdDioOutputConfig_kept (h : Kept u s) (p) : Kept u (cmdDioOutputConfig p s).1 := by
  unfold cmdDioOutputConfig; grind only [foldl_kept, checked_kept, driveDouts_kept, State.modDout_kept]

theorem cmdDioEncConfig_kept (h : Kept u s) (p) : Kept u (cmdDioEncConfig p s).1 := by
  unfold cmdDioEncConfig; grind only [checked_kept, State.modEnc_kept]

theorem cmdDioRead_kept (h : Kept u s) (p) : Kept u (cmdDioRead p s).1 := by
  unfold cmdDioRead; grind only [settleDins_kept, checked_kept]

theorem cmdDioWrite_kept (h : Kept u s) (p) : Kept u (cmdDioWrite p s).1 := by
  unfold cmdDioWrite; grind only [foldl_kept, checked_kept, State.modPwm_kept, driveDouts_kept, State.modDout_kept]

theorem cmdDioStatus_kept (h : Kept u s) (p) : Kept u (cmdDioStatus p s).1 := by
  unfold cmdDioStatus; grind only [settleDins_kept, checked_kept, State.modDio_kept]

end

end Sys2Proof.Machine
end

section
/-! What `Kept` says, by the operations of Machine/Adc. -/

namespace Sys2Proof.Machine

section

variable {u s : State}

theorem State.modConv_kept (h : Kept u s) (c f) : Kept u (s.modConv c f) := h.of_eq rfl rfl

theorem State.wakeConv_kept (h : Kept u s) (c) : Kept u (s.wakeConv c) := h.of_eq rfl rfl

theorem dropUrgent_kept (h : Kept u s) (c u1) : Kept u (dropUrgent c u1 s) := by
  unfold dropUrgent; grind only [State.modConv_kept, State.modAdc_kept, State.settle_kept]

theorem requestUrgent_kept (h : Kept u s) (u1) : Kept u (requestUrgent u1 s) := by
  unfold requestUrgent; grind only [State.wakeConv_kept, dropUrgent_kept, State.modConv_kept]

theorem triggerConv_kept (h : Kept u s) (g c) : Kept u (triggerConv g c s) := by
  unfold triggerConv; grind only [State.wakeConv_kept, dropUrgent_kept, State.modConv_kept]

theorem groupTrigger_kept (h : Kept u s) (g) : Kept u (groupTrigger g s) := by
  unfold groupTrigger; grind only [foldl_kept, triggerConv_kept, State.modAdc_kept]

theorem writeResult_kept (h : Kept u s) (n raw kind instant) : Kept u (writeResult n raw kind instant s) := by
  unfold writeResult; grind only [State.modAdc_kept, State.modConv_kept, State.publishAt_kept]

theorem faultConv_kept (h : Kept u s) (c kind) : Kept u (faultConv c kind s) := by
  unfold faultConv; grind only [foldl_kept, State.modAdc_kept, dropUrgent_kept, State.modConv_kept, State.settle_kept,
    State.reportFault_kept, State.takeFree_kept]

theorem finishConv_kept (h : Kept u s) (c raw kind) : Kept u (finishConv c raw kind s) := by
  unfold finishConv; grind only [State.modConv_kept, State.modAdc_kept, State.settle_kept]

theorem conversionComplete_kept (h : Kept u s) (c raw good instant) : Kept u (conversionComplete c raw good instant s) := by
  have woken := State.wakeConv_kept h c
  unfold conversionComplete
  extract_lets v k freed
  split
  · exact woken
  next kind pos _ =>
    have frees : Kept u freed := State.modConv_kept woken c _
    extract_lets sampled n tried again last
    have sampleds : Kept u sampled := by
      dsimp only [sampled]
      split
      · exact State.modAdc_kept frees _
      · exact frees
    clear_value sampled
    have trieds : Kept u tried := ite_kept (State.recordOpen_kept (State.modConv_kept sampleds c _) _ _ _ _) sampleds
    have agains : Kept u again := State.modConv_kept sampleds c _
    refine State.wakeConv_kept ?_ c
    dsimp only [last]
    split
    · exact finishConv_kept (writeResult_kept trieds _ _ _ _) _ _ _
    · split
      · exact faultConv_kept sampleds _ _
      · split
        · exact State.modConv_kept agains c _
        · exact State.modConv_kept agains c _
        · exact agains

theorem State.latchInstant_kept (h : Kept u s) (n initiator) : Kept u (s.latchInstant n initiator) := h.of_eq rfl rfl

theorem resultRead_kept (h : Kept u s) (n initiator) : Kept u (resultRead n initiator s) := by
  unfold resultRead; grind only [State.emit_kept, State.noteAbsent_kept, State.latchInstant_kept]

theorem State.setCal_kept (h : Kept u s) (n r v) : Kept u (s.setCal n r v) := h.of_eq rfl rfl

theorem calibrationDone_kept (h : Kept u s) (c) : Kept u (calibrationDone c s) := by
  unfold calibrationDone; grind only [State.modConv_kept, State.settle_kept, State.modAdc_kept, State.setCal_kept]

theorem cmdAdcConfig_kept (h : Kept u s) (p) : Kept u (cmdAdcConfig p s).1 := by
  unfold cmdAdcConfig; grind only [foldl_kept, checked_kept, State.modAdc_kept, State.modConv_kept]

theorem cmdAdcTableWrite_kept (h : Kept u s) (p) : Kept u (cmdAdcTableWrite p s).1 := by
  unfold cmdAdcTableWrite; grind only [checked_kept, State.modConv_kept, State.wakeConv_kept]

theorem cmdAdcGroupConfig_kept (h : Kept u s) (p) : Kept u (cmdAdcGroupConfig p s).1 := by
  unfold cmdAdcGroupConfig; grind only [checked_kept, State.modAdc_kept]

theorem cmdAdcUrgent_kept (h : Kept u s) (p) : Kept u (cmdAdcUrgent p s).1 := by
  unfold cmdAdcUrgent; grind only [checked_kept, State.modConv_kept, State.defer_kept, requestUrgent_kept]

theorem cmdAdcCalibrate_kept (h : Kept u s) (p) : Kept u (cmdAdcCalibrate p s).1 := by
  unfold cmdAdcCalibrate; grind only [checked_kept, State.defer_kept, State.modConv_kept, State.wakeConv_kept]

theorem cmdAdcCalRead_kept (h : Kept u s) (p) : Kept u (cmdAdcCalRead p s).1 := by
  unfold cmdAdcCalRead; grind only [checked_kept]

theorem cmdAdcCalWrite_kept (h : Kept u s) (p) : Kept u (cmdAdcCalWrite p s).1 := by
  unfold cmdAdcCalWrite; grind only [foldl_kept, checked_kept, State.setCal_kept]

theorem cmdAdcStatus_kept (h : Kept u s) (p) : Kept u (cmdAdcStatus p s).1 := by
  unfold cmdAdcStatus; grind only [checked_kept]

end

end Sys2Proof.Machine
end

section
/-! What `Kept` says, by the operations of Machine/DeviceTime. -/

namespace Sys2Proof.Machine

section

variable {u s : State}

theorem State.setDeviceTime_kept (h : Kept u s) (ns) : Kept u (s.setDeviceTime ns) := by
  have moved {t : State} (ht : Kept u t) (n c) : Kept u { t with timeStep := n, steer := c } := ht.of_eq rfl rfl
  unfold State.setDeviceTime
  exact acqTimeSet_kept (State.modNet_kept (moved (State.startOffset_kept h _) _ _) _) _

end

end Sys2Proof.Machine
end

section
/-! What `Kept` says, by the operations of Machine/RingBase. -/

namespace Sys2Proof.Machine

section

variable {u s : State}

theorem State.modIface_kept (h : Kept u s) (down f) : Kept u (s.modIface down f) := h.of_eq rfl rfl

theorem State.ringCount_kept (h : Kept u s) (down i) : Kept u (s.ringCount down i) := h.of_eq rfl rfl

theorem State.modLink_kept (h : Kept u s) (down portB f) : Kept u (s.modLink down portB f) := h.of_eq rfl rfl

theorem State.sendFrame_kept (h : Kept u s) (down type f) : Kept u (s.sendFrame down type f) := by
  unfold State.sendFrame; grind only [State.modLink_kept, State.emit_kept, State.ringCount_kept]

theorem State.forwardFrame_kept (h : Kept u s) (type f own) : Kept u (s.forwardFrame type f own) := by
  unfold State.forwardFrame; grind only [State.ringCount_kept, State.emit_kept, State.modLink_kept]

theorem State.takeFrame_kept (h : Kept u s) (type f loose) : Kept u (s.takeFrame type f loose).1 := by
  unfold State.takeFrame; grind only [State.ringCount_kept, State.modIface_kept]

theorem State.modClock_kept (h : Kept u s) (f) : Kept u (s.modClock f) := h.of_eq rfl rfl

theorem State.measure_kept (h : Kept u s) (i d) : Kept u (s.measure i d) := by
  unfold State.measure; grind only [State.modClock_kept]

theorem State.correct_kept (h : Kept u s) (down self eligible) : Kept u (s.correct down self eligible).1 := by
  unfold State.correct; grind only [State.startOffset_kept, State.modClock_kept]

end

end Sys2Proof.Machine
end

section
/-! What `Kept` says, by the operations of Machine/Ring. -/

namespace Sys2Proof.Machine

section

variable {u s : State}

theorem State.writeTopo_kept (h : Kept u s) : Kept u (s.writeTopo) := by
  unfold State.writeTopo; grind only [State.writeWords_kept]

theorem State.setTopo_kept (h : Kept u s) (addr f) : Kept u (s.setTopo addr f) := by
  unfold State.setTopo; grind only [State.writeTopo_kept, State.modDrove_kept]

theorem State.refreshTopo_kept (h : Kept u s) : Kept u (s.refreshTopo) := by
  unfold State.refreshTopo; grind only [State.setTopo_kept]

theorem State.modMember_kept (h : Kept u s) (m f) : Kept u (s.modMember m f) := h.of_eq rfl rfl

theorem State.toMember_kept (h : Kept u s) (m p) : Kept u (s.toMember m p) := h.of_eq rfl rfl

theorem State.sendModes_kept (h : Kept u s) (m) : Kept u (s.sendModes m) := by
  unfold State.sendModes; grind only [foldl_kept, State.toMember_kept]

theorem State.sendMissing_kept (h : Kept u s) (n) : Kept u (s.sendMissing n) := by
  unfold State.sendMissing; grind only [foldl_kept, State.toMember_kept]

theorem State.coDown_kept (h : Kept u s) (m msg) : Kept u (s.coDown m msg) := h.of_eq rfl rfl

theorem State.coUp_kept (h : Kept u s) (msg) : Kept u (s.coUp msg) := h.of_eq rfl rfl

theorem State.memberIn_kept (h : Kept u s) (m) : Kept u (s.memberIn m) := by
  unfold State.memberIn; grind only [State.modMember_kept, State.toMember_kept, State.coDown_kept, State.setTopo_kept,
    State.sendMissing_kept]

theorem State.memberOut_kept (h : Kept u s) (m) : Kept u (s.memberOut m) := by
  unfold State.memberOut; grind only [State.setTopo_kept, State.modMember_kept]

theorem State.setAddress_kept (h : Kept u s) (a) : Kept u (s.setAddress a) := by
  unfold State.setAddress; grind only [foldl_kept, State.writeTopo_kept, State.modDrove_kept, State.toMember_kept]

theorem State.takeAddress_kept (h : Kept u s) (a) : Kept u (s.takeAddress a) := by
  unfold State.takeAddress; grind only [State.modDrove_kept, State.setAddress_kept]

theorem State.dropAssigned_kept (h : Kept u s) : Kept u (s.dropAssigned) := by
  unfold State.dropAssigned; grind only [State.modDrove_kept, State.setAddress_kept]

theorem State.leaveUp_kept (h : Kept u s) : Kept u (s.leaveUp) := by
  unfold State.leaveUp; grind only [State.modClock_kept, State.dropAssigned_kept]

theorem State.enterListen_kept (h : Kept u s) (down) : Kept u (s.enterListen down) := by
  unfold State.enterListen; grind only [State.leaveUp_kept, State.modIface_kept]

theorem State.rejoin_kept (h : Kept u s) (down) : Kept u (s.rejoin down) := by
  unfold State.rejoin; grind only [State.askGiveUp_kept, State.recordOpen_kept, State.ringCount_kept, State.enterListen_kept]

theorem State.learnSync_kept (h : Kept u s) (f b) : Kept u (s.learnSync f b) := by
  unfold State.learnSync; grind only [State.modIface_kept, State.modCyc_kept, State.modDrove_kept]

theorem State.setRingTime_kept (h : Kept u s) (f b) : Kept u (s.setRingTime f b) := by
  unfold State.setRingTime; grind only [State.modClock_kept, State.startOffset_kept, State.setDeviceTime_kept]

theorem State.remember_kept (h : Kept u s) (f b) : Kept u (s.remember f b) := h.of_eq rfl rfl

theorem State.observe_kept (h : Kept u s) (f b) : Kept u (s.observe f b) := h.of_eq rfl rfl

theorem State.rateFrom_kept (h : Kept u s) (f b g) : Kept u (s.rateFrom f b g) := h.of_eq rfl rfl

theorem State.integrate_kept (h : Kept u s) : Kept u (s.integrate) := h.of_eq rfl rfl

theorem State.observed_kept (h : Kept u s) (f) : Kept u (s.observed f) := by
  unfold State.observed; grind only [State.measure_kept, State.integrate_kept, State.modIface_kept]

theorem State.holdoverEnds_kept (h : Kept u s) (f b) : Kept u (s.holdoverEnds f b) := by
  unfold State.holdoverEnds; grind only [State.modClock_kept, State.recordOpen_kept, State.observed_kept, State.setRingTime_kept]

theorem State.leaveObserve_kept (h : Kept u s) (f b g) : Kept u (s.leaveObserve f b g) := by
  unfold State.leaveObserve; grind only [State.rateFrom_kept, State.modIface_kept, State.holdoverEnds_kept, State.remember_kept,
    State.observed_kept]

theorem State.leaveListen_kept (h : Kept u s) (f b) : Kept u (s.leaveListen f b) := by
  unfold State.leaveListen; grind only [State.learnSync_kept, State.observe_kept, State.setRingTime_kept]

theorem State.followMode_kept (h : Kept u s) (f b) : Kept u (s.followMode f b) := by
  unfold State.followMode; grind only [State.modIface_kept, State.ringCount_kept, State.enterListen_kept]

theorem State.onSync_kept (h : Kept u s) (f b d) : Kept u (s.onSync f b d) := by
  unfold State.onSync; grind only [State.measure_kept, State.modIface_kept, State.leaveListen_kept, State.observe_kept,
    State.setRingTime_kept, State.learnSync_kept, State.ringCount_kept, State.leaveObserve_kept, State.remember_kept,
    State.followMode_kept]

theorem State.backOff_kept (h : Kept u s) (down) : Kept u (s.backOff down) := by
  unfold State.backOff; grind only [State.ringCount_kept, State.modIface_kept]

theorem State.receive_kept (h : Kept u s) (type f) : Kept u (s.receive type f).1 := by
  unfold State.receive; grind only [State.forwardFrame_kept, State.modIface_kept]

theorem syncFrame_kept (h : Kept u s) (f) : Kept u (syncFrame f s) := by
  unfold syncFrame; grind only [State.receive_kept, State.backOff_kept, State.takeFrame_kept, State.onSync_kept, State.ringCount_kept]

theorem State.outputFrame_kept (h : Kept u s) (f) : Kept u (s.outputFrame f) := by
  unfold State.outputFrame; grind only [State.modCyc_kept, State.modDrove_kept]

theorem State.takeVote_kept (h : Kept u s) (m) : Kept u (s.takeVote m) := by
  unfold State.takeVote; grind only [State.modCyc_kept]

theorem State.inputFrame_kept (h : Kept u s) (f) : Kept u (s.inputFrame f) := by
  unfold State.inputFrame; grind only [foldl_kept, State.modMember_kept, State.takeVote_kept, State.memberIn_kept]

theorem dataFrame_kept (h : Kept u s) (f) : Kept u (dataFrame f s) := by
  unfold dataFrame; grind only [State.receive_kept, State.takeFrame_kept, State.inputFrame_kept, State.outputFrame_kept]

theorem State.onMode_kept (h : Kept u s) (f) : Kept u (s.onMode f) := by
  unfold State.onMode; grind only [State.modIface_kept, State.ringCount_kept]

theorem modeFrame_kept (h : Kept u s) (f) : Kept u (modeFrame f s) := by
  unfold modeFrame; grind only [State.receive_kept, State.takeFrame_kept, State.onMode_kept]

theorem State.joinRequest_kept (h : Kept u s) (f) : Kept u (s.joinRequest f) := by
  unfold State.joinRequest; grind only [State.modDrove_kept, State.sendModes_kept, State.modMember_kept, State.memberOut_kept]

theorem State.joinGrant_kept (h : Kept u s) (f) : Kept u (s.joinGrant f) := by
  unfold State.joinGrant; dsimp only; repeat' split
  all_goals apply_rules [foldl_kept, State.ringCount_kept, State.modDrove_kept]

theorem joinFrame_kept (h : Kept u s) (f) : Kept u (joinFrame f s) := by
  have received := State.receive_kept h 5 f
  unfold joinFrame
  split
  next hr => simpa [hr] using received
  next t hr =>
    have here : Kept u t := by simpa [hr] using received
    extract_lets st
    have passed := State.takeFrame_kept here 5 f (st == .joining && f.src == 0x80 && joinSerial f == Config.serial.toNat)
    split
    next ht => rwa [ht] at passed
    next ht =>
      rw [ht] at passed
      exact ite_kept passed (ite_kept (ite_kept (State.joinRequest_kept passed f) passed)
        (ite_kept (State.joinGrant_kept passed f) passed))

theorem State.memberAcked_kept (h : Kept u s) (m ps) : Kept u (s.memberAcked m ps) := by
  unfold State.memberAcked; grind only [foldl_kept, State.modMember_kept]

theorem State.takeCmd_kept (h : Kept u s) (f) : Kept u (s.takeCmd f).1 := by
  unfold State.takeCmd; grind only [State.memberAcked_kept, State.modMember_kept, State.modDrove_kept]

theorem State.cmdFrameIn_kept (h : Kept u s) (f) : Kept u (s.cmdFrameIn f).1 := by
  unfold State.cmdFrameIn; grind only [State.receive_kept, State.takeFrame_kept, State.takeCmd_kept]

theorem State.takeMode_kept (h : Kept u s) (ws) : Kept u (s.takeMode ws) := h.of_eq rfl rfl

theorem slotFrame_kept (h : Kept u s) (down i) : Kept u (slotFrame s down i).1 := by
  unfold slotFrame; grind only [State.modIface_kept, State.modCyc_kept, State.modMember_kept, State.modDrove_kept, State.ringCount_kept]

theorem slotStart_kept (h : Kept u s) (down i) : Kept u (slotStart down i s) := by
  unfold slotStart; grind only [slotFrame_kept, State.ringCount_kept, State.backOff_kept, State.sendFrame_kept, State.modIface_kept]

theorem State.sendStatus_kept (h : Kept u s) (down portB) : Kept u (s.sendStatus down portB) := h.of_eq rfl rfl

theorem State.linkLost_kept (h : Kept u s) (down portB) : Kept u (s.linkLost down portB) := by
  unfold State.linkLost; grind only [State.modLink_kept, State.ringCount_kept, State.sendStatus_kept]

theorem linkDown_kept (h : Kept u s) (down portB) : Kept u (linkDown down portB s) := by
  unfold linkDown; grind only [State.linkLost_kept, State.modLink_kept]

theorem linkUp_kept (h : Kept u s) (down portB) : Kept u (linkUp down portB s) := by
  unfold linkUp; grind only [State.modLink_kept, State.modIface_kept, State.sendStatus_kept]

theorem State.takeStatus_kept (h : Kept u s) (b) : Kept u (s.takeStatus b) := by
  unfold State.takeStatus; grind only [State.modLink_kept, State.recordOpen_kept, State.ringCount_kept, State.linkLost_kept,
    State.sendStatus_kept]

theorem beacon_kept (h : Kept u s) (b) : Kept u (beacon b s) := by
  unfold beacon; grind only [State.takeStatus_kept, State.emit_kept, State.modLink_kept]

theorem State.sendDelayReq_kept (h : Kept u s) (down portB) : Kept u (s.sendDelayReq down portB) := h.of_eq rfl rfl

theorem delayReq_kept (h : Kept u s) : Kept u (delayReq s) := by
  unfold delayReq; grind only [foldl_kept, State.sendStatus_kept, State.sendDelayReq_kept]

theorem bypassInsert_kept (h : Kept u s) : Kept u (bypassInsert s) := by
  unfold bypassInsert; grind only [State.emit_kept, State.modDrove_kept]

theorem State.bypassOff_kept (h : Kept u s) : Kept u (s.bypassOff) := by
  unfold State.bypassOff; grind only [State.emit_kept, State.modDrove_kept]

theorem listenTimeout_kept (h : Kept u s) (down) : Kept u (listenTimeout down s) := by
  unfold listenTimeout; grind only [State.modIface_kept]

theorem backoffEnd_kept (h : Kept u s) (down) : Kept u (backoffEnd down s) := by
  unfold backoffEnd; grind only [State.modIface_kept]

theorem State.guardStep_kept (h : Kept u s) (o) : Kept u (s.guardStep o) := by
  unfold State.guardStep; grind only [State.ringCount_kept, State.modIface_kept]

theorem syncStep_kept (h : Kept u s) : Kept u (syncStep s) := by
  unfold syncStep; grind only [State.modIface_kept, State.modClock_kept, State.rejoin_kept, State.correct_kept, State.guardStep_kept]

theorem upCycleStart_kept (h : Kept u s) : Kept u (upCycleStart s) := by
  unfold upCycleStart; grind only [State.modDrove_kept, State.modIface_kept, State.ringCount_kept, State.integrate_kept]

theorem State.healStep_kept (h : Kept u s) : Kept u (s.healStep) := by
  unfold State.healStep; grind only [State.modIface_kept, State.recordOpen_kept, State.ringCount_kept]

theorem downCycleStart_kept (h : Kept u s) : Kept u (downCycleStart s) := by
  unfold downCycleStart; grind only [foldl_kept, State.modIface_kept, State.modMember_kept, State.memberOut_kept, State.ringCount_kept,
    State.modDrove_kept, State.healStep_kept]

theorem slewStep_kept (h : Kept u s) : Kept u (slewStep s) := h.of_eq rfl rfl

theorem sendTopology_kept (h : Kept u s) : Kept u (sendTopology s) := by
  unfold sendTopology; grind only [State.refreshTopo_kept, State.modDrove_kept]

theorem takeTopology_kept (h : Kept u s) (ws) : Kept u (takeTopology ws s) := by
  unfold takeTopology; grind only [foldl_kept, State.setTopo_kept]

end

end Sys2Proof.Machine
end

section
/-! What `Kept` says, by the operations of Machine/RingCmd. -/

namespace Sys2Proof.Machine

section

variable {u s : State}

theorem State.upPortsOff_kept (h : Kept u s) : Kept u (s.upPortsOff) := by
  unfold State.upPortsOff; grind only [State.bypassOff_kept, State.modDrove_kept, State.modIface_kept, State.leaveUp_kept]

theorem State.upListen_kept (h : Kept u s) : Kept u (s.upListen) := by
  unfold State.upListen; grind only [State.modDrove_kept, State.enterListen_kept]

theorem State.setRingCfg_kept (h : Kept u s) (c) : Kept u (s.setRingCfg c) := by
  unfold State.setRingCfg; grind only [State.modDrove_kept, State.modCyc_kept, State.dropAssigned_kept, State.modIface_kept,
    State.writeTopo_kept, State.upListen_kept, State.setAddress_kept, State.upPortsOff_kept]

theorem cmdRingConfig_kept (h : Kept u s) (p) : Kept u (cmdRingConfig p s).1 := by
  unfold cmdRingConfig; grind only [checked_kept, State.setRingCfg_kept]

theorem State.pollSchedule_kept (h : Kept u s) : Kept u (s.pollSchedule) := by
  unfold State.pollSchedule; grind only [State.settle_kept]

theorem State.writeMode_kept (h : Kept u s) (m ws) : Kept u (s.writeMode m ws) := by
  unfold State.writeMode; grind only [foldl_kept, State.modDrove_kept, State.toMember_kept]

theorem cmdRingScheduleWrite_kept (h : Kept u s) (p) : Kept u (cmdRingScheduleWrite p s).1 := by
  unfold cmdRingScheduleWrite; grind only [checked_kept, State.defer_kept, State.writeMode_kept, State.pollSchedule_kept]

theorem scheduleWriteTimeout_kept (h : Kept u s) : Kept u (scheduleWriteTimeout s) := by
  unfold scheduleWriteTimeout; grind only [State.settle_kept]

theorem cmdRingModeArm_kept (h : Kept u s) (p) : Kept u (cmdRingModeArm p s).1 := by
  unfold cmdRingModeArm; grind only [checked_kept, State.modDrove_kept]

theorem State.startDown_kept (h : Kept u s) (m) : Kept u (s.startDown m) := h.of_eq rfl rfl

theorem State.stopDown_kept (h : Kept u s) : Kept u (s.stopDown) := by
  unfold State.stopDown; grind only [foldl_kept, State.memberOut_kept, State.modIface_kept, State.modDrove_kept]

theorem cmdRingStart_kept (h : Kept u s) (p) : Kept u (cmdRingStart p s).1 := by
  unfold cmdRingStart; grind only [checked_kept, State.upPortsOff_kept, State.upListen_kept, State.stopDown_kept, State.startDown_kept]

theorem cmdRingStatus_kept (h : Kept u s) (p) : Kept u (cmdRingStatus p s).1 := by
  unfold cmdRingStatus; grind only [checked_kept]

theorem cmdRingCounters_kept (h : Kept u s) (p) : Kept u (cmdRingCounters p s).1 := by
  unfold cmdRingCounters; grind only [checked_kept, State.modIface_kept]

theorem cmdRingSyncConfig_kept (h : Kept u s) (p) : Kept u (cmdRingSyncConfig p s).1 := by
  unfold cmdRingSyncConfig; grind only [checked_kept, State.modClock_kept, State.modDrove_kept]

theorem cmdRingTopology_kept (h : Kept u s) (p) : Kept u (cmdRingTopology p s).1 := by
  unfold cmdRingTopology; grind only [State.refreshTopo_kept, checked_kept]

end

end Sys2Proof.Machine
end

section
/-! What `Kept` says, by the operations of Machine/Axis. -/

namespace Sys2Proof.Machine

section

variable {u s : State}

theorem State.modCh_kept (h : Kept u s) (n f) : Kept u (s.modCh n f) := h.of_eq rfl rfl

theorem State.runPulse_kept (h : Kept u s) (n) : Kept u (s.runPulse n) := by
  unfold State.runPulse; grind only [State.modCh_kept]

theorem State.axisFault_kept (h : Kept u s) (n cause) : Kept u (s.axisFault n cause) := by
  unfold State.axisFault; grind only [State.reportOpen_kept, State.modCh_kept]

theorem State.segFaultNow_kept (h : Kept u s) (n) : Kept u (s.segFaultNow n) := by
  unfold State.segFaultNow; grind only [State.reportOpen_kept, State.modCh_kept, State.runPulse_kept]

theorem State.axisAdvance_kept (h : Kept u s) (n) : Kept u (s.axisAdvance n) := by
  unfold State.axisAdvance; grind only [foldl_kept, State.modCh_kept, State.publishAt_kept, State.segFaultNow_kept]

theorem State.axisImmediateAt_kept (h : Kept u s) (n v) : Kept u (s.axisImmediateAt n v) := by
  unfold State.axisImmediateAt; grind only [State.runPulse_kept, State.modCh_kept]

theorem State.axisImmediate_kept (h : Kept u s) (n) : Kept u (s.axisImmediate n) := by
  unfold State.axisImmediate; grind only [State.axisImmediateAt_kept]

theorem State.axisUndoStart_kept (h : Kept u s) (n) : Kept u (s.axisUndoStart n) := h.of_eq rfl rfl

theorem State.axisStop_kept (h : Kept u s) (n kind) : Kept u (s.axisStop n kind) := by
  unfold State.axisStop; grind only [State.axisUndoStart_kept, State.axisAdvance_kept, State.axisImmediate_kept, State.modCh_kept]

theorem State.axisClear_kept (h : Kept u s) (n) : Kept u (s.axisClear n).1 := by
  unfold State.axisClear; grind only [State.axisAdvance_kept, State.modCh_kept]

theorem State.axisFail_kept (h : Kept u s) (n cause immediate) : Kept u (s.axisFail n cause immediate) := by
  unfold State.axisFail; grind only [State.runPulse_kept, State.axisFault_kept, State.axisImmediate_kept, State.modCh_kept]

theorem State.axisCheck_kept (h : Kept u s) (n) : Kept u (s.axisCheck n) := by
  have failed (a b : Option Nat) : Kept u (match a, b with
      | some k, _ => (s.axisUndoStart n).axisFail n k false
      | none, some k => s.axisFail n k false
      | none, none => s) := by
    split
    · exact State.axisFail_kept (State.axisUndoStart_kept h n) n _ false
    · exact State.axisFail_kept h n _ false
    · exact h
  unfold State.axisCheck
  extract_lets t c
  split
  exact State.modCh_kept (failed _ _) n _

theorem State.axisLag_kept (h : Kept u s) (n) : Kept u (s.axisLag n) := by
  unfold State.axisLag; grind only [State.axisFail_kept, State.axisUndoStart_kept]

theorem State.axisBegin_kept (h : Kept u s) (n e) : Kept u (s.axisBegin n e) := by
  unfold State.axisBegin; grind only [foldl_kept, State.modCh_kept, State.publishAt_kept, State.segFaultNow_kept]

theorem State.axisStart_kept (h : Kept u s) (n e command) : Kept u (s.axisStart n e command) := by
  unfold State.axisStart; grind only [State.axisAdvance_kept, State.axisBegin_kept, State.modCh_kept]

theorem State.axisOffset_kept (h : Kept u s) (n target) : Kept u (s.axisOffset n target) := h.of_eq rfl rfl

theorem State.axisShift_kept (h : Kept u s) (n d) : Kept u (s.axisShift n d) := by
  unfold State.axisShift; grind only [State.modCh_kept, State.runPulse_kept]

theorem State.axisRelabel_kept (h : Kept u s) (n kind pos) : Kept u (s.axisRelabel n kind pos).1 := by
  unfold State.axisRelabel; grind only [State.axisAdvance_kept, State.modCh_kept, State.axisShift_kept, armLatch_kept, State.axisStart_kept]

theorem State.axisRequest_kept (h : Kept u s) (r) : Kept u (s.axisRequest r) := by
  unfold State.axisRequest; grind only [State.axisStart_kept, State.modCh_kept, State.axisClear_kept, State.axisStop_kept,
    State.axisOffset_kept, State.axisRelabel_kept]

theorem State.axisRequests_kept (h : Kept u s) (rs) : Kept u (s.axisRequests rs) := by
  unfold State.axisRequests; grind only [foldl_kept, State.axisRequest_kept]

end

end Sys2Proof.Machine
end

section
/-! What `Kept` says, by the operations of Machine/AxisCmd. -/

namespace Sys2Proof.Machine

section

variable {u s : State}

theorem State.latchShiftDue_kept (h : Kept u s) (n) : Kept u (s.latchShiftDue n) := by
  unfold State.latchShiftDue; grind only [State.modCh_kept, State.axisShift_kept, State.settle_kept]

theorem State.axisTick_kept (h : Kept u s) (n) : Kept u (s.axisTick n) := by
  unfold State.axisTick; grind only [State.latchShiftDue_kept, State.axisAdvance_kept, State.runPulse_kept, State.axisCheck_kept,
    State.modCh_kept]

theorem tick_kept (h : Kept u s) : Kept u (tick s) := by
  unfold tick; grind only [foldl_kept, State.axisTick_kept]

theorem stepPulse_kept (h : Kept u s) (a) : Kept u (stepPulse a s) := by
  unfold stepPulse; grind only [State.runPulse_kept, State.modCh_kept]

theorem dirChange_kept (h : Kept u s) (a) : Kept u (dirChange a s) := by
  unfold dirChange; grind only [State.runPulse_kept, State.modCh_kept]

theorem standstill_kept (h : Kept u s) (n) : Kept u (standstill n s) := by
  unfold standstill; grind only [State.axisAdvance_kept, State.modCh_kept]

theorem ss1Request_kept (h : Kept u s) (pair) : Kept u (ss1Request pair s) := by
  unfold ss1Request; grind only [foldl_kept, State.modIsl_kept, State.modAxis_kept, State.axisStop_kept]

theorem axisRelease_kept (h : Kept u s) (pairs) : Kept u (axisRelease pairs s) := h.of_eq rfl rfl

theorem latchEvent_kept (h : Kept u s) (n) : Kept u (latchEvent n s) := by
  unfold latchEvent; grind only [foldl_kept, captureLatch_kept, State.modCh_kept]

theorem State.axisInput_kept (h : Kept u s) (n) : Kept u (s.axisInput n) := by
  have looked := State.axisLag_kept (State.axisCheck_kept (State.axisAdvance_kept h n) n) n
  unfold State.axisInput
  exact State.publish_kept (State.publish_kept (State.publish_kept (State.publish_kept (State.modCh_kept looked n _) _ _) _ _) _ _) _ _

theorem axisInputs_kept (h : Kept u s) : Kept u (axisInputs s) := by
  unfold axisInputs; grind only [foldl_kept, State.axisInput_kept]

theorem State.axisRemote_kept (h : Kept u s) (n) : Kept u (s.axisRemote n) := by
  unfold State.axisRemote; grind only [foldl_kept, State.axisCheck_kept, State.axisAdvance_kept, State.modDrove_kept, State.modCh_kept]

theorem axisRemotes_kept (h : Kept u s) : Kept u (axisRemotes s) := by
  unfold axisRemotes; grind only [foldl_kept, State.axisRemote_kept]

theorem axisSubstitute_kept (h : Kept u s) : Kept u (axisSubstitute s) := by
  unfold axisSubstitute; grind only [foldl_kept, State.axisStop_kept]

theorem axisToReady_kept (h : Kept u s) : Kept u (axisToReady s) := by
  unfold axisToReady; grind only [foldl_kept, State.axisStop_kept, State.modCh_kept]

theorem axisToRun_kept (h : Kept u s) : Kept u (axisToRun s) := by
  unfold axisToRun; grind only [foldl_kept, State.modCh_kept]

theorem axisHoldEntry_kept (h : Kept u s) : Kept u (axisHoldEntry s) := by
  unfold axisHoldEntry; grind only [foldl_kept, State.axisStop_kept]

theorem axisSafeEntry_kept (h : Kept u s) : Kept u (axisSafeEntry s) := by
  unfold axisSafeEntry; grind only [foldl_kept, State.axisUndoStart_kept, State.axisAdvance_kept, State.axisFault_kept, State.modCh_kept,
    State.axisImmediate_kept]

theorem axisSto_kept (h : Kept u s) (pairs) : Kept u (axisSto pairs s) := by
  unfold axisSto; grind only [foldl_kept, State.axisUndoStart_kept, State.axisAdvance_kept, State.axisFail_kept]

theorem axisHoldEnd_kept (h : Kept u s) : Kept u (axisHoldEnd s) := by
  unfold axisHoldEnd; grind only [foldl_kept, State.axisImmediateAt_kept]

theorem cmdAxisConfig_kept (h : Kept u s) (p) : Kept u (cmdAxisConfig p s).1 := by
  unfold cmdAxisConfig; grind only [checked_kept, State.modCh_kept]

theorem cmdAxisTableWrite_kept (h : Kept u s) (p) : Kept u (cmdAxisTableWrite p s).1 := by
  unfold cmdAxisTableWrite; grind only [checked_kept, State.writeWords_kept]

theorem axisStartNow_kept (h : Kept u s) (p) : Kept u (axisStartNow p s).1 := by
  unfold axisStartNow; grind only [State.axisStart_kept]

theorem axisStopNow_kept (h : Kept u s) (p) : Kept u (axisStopNow p s).1 := by
  unfold axisStopNow; grind only [foldl_kept, State.axisClear_kept, State.axisStop_kept]

theorem axisSetNow_kept (h : Kept u s) (p) : Kept u (axisSetNow p s).1 := by
  unfold axisSetNow; grind only [State.axisRelabel_kept, State.defer_kept]

theorem atCycleStart_kept (h : Kept u s) (op) {now : Packet → State → State × Verdict} (hn : ∀ p s, Kept u s → Kept u (now p s).1) (p) :
    Kept u (atCycleStart op now p s).1 := by
  unfold atCycleStart
  split
  · exact hn p s h
  · exact State.defer_kept h _ _ _

theorem cmdAxisStart_kept (h : Kept u s) (p) : Kept u (cmdAxisStart p s).1 := by
  unfold cmdAxisStart; grind only [checked_kept, atCycleStart_kept, axisStartNow_kept]

theorem cmdAxisStop_kept (h : Kept u s) (p) : Kept u (cmdAxisStop p s).1 := by
  unfold cmdAxisStop; grind only [checked_kept, atCycleStart_kept, axisStopNow_kept]

theorem cmdAxisSetPosition_kept (h : Kept u s) (p) : Kept u (cmdAxisSetPosition p s).1 := by
  unfold cmdAxisSetPosition; grind only [checked_kept, atCycleStart_kept, axisSetNow_kept]

theorem State.runDeferred_kept (h : Kept u s) (op) {now : Packet → State → State × Verdict} (hn : ∀ p s, Kept u s → Kept u (now p s).1) :
    Kept u (s.runDeferred op now) := by
  unfold State.runDeferred
  refine foldl_kept (fun t d ht => ?_) _ (State.modHost_kept h _)
  have done := hn d.packet t ht
  split
  next hr => exact State.answer_kept (by simpa [hr] using done) _ _ _ _
  next hr => simpa [hr] using done

theorem axisCycleStart_kept (h : Kept u s) : Kept u (axisCycleStart s) := by
  unfold axisCycleStart; grind only [State.runDeferred_kept, axisStopNow_kept, axisSetNow_kept, axisStartNow_kept]

theorem cmdAxisStatus_kept (h : Kept u s) (p) : Kept u (cmdAxisStatus p s).1 := by
  unfold cmdAxisStatus; grind only [checked_kept]

theorem cmdAxisStandstill_kept (h : Kept u s) (p) : Kept u (cmdAxisStandstill p s).1 := by
  unfold cmdAxisStandstill; grind only [checked_kept, State.modCh_kept, State.axisAdvance_kept]

end

end Sys2Proof.Machine
end

section
/-! What `Kept` says, by the operations of Machine/Can. -/

namespace Sys2Proof.Machine

section

variable {u s : State}

theorem State.modCtrl_kept (h : Kept u s) (c f) : Kept u (s.modCtrl c f) := h.of_eq rfl rfl

theorem State.modBuf_kept (h : Kept u s) (c b f) : Kept u (s.modBuf c b f) := h.of_eq rfl rfl

theorem State.frameIn_kept (h : Kept u s) (c b) : Kept u (s.frameIn c b) := by
  unfold State.frameIn; grind only [State.modCtrl_kept, State.sendVector_kept]

theorem State.placeFrame_kept (h : Kept u s) (c b stamp sof filter f overrun) : Kept u (s.placeFrame c b stamp sof filter f overrun) := by
  unfold State.placeFrame; grind only [State.modCtrl_kept, State.modBuf_kept, State.frameIn_kept]

theorem State.receiveCan_kept (h : Kept u s) (c stamp sof f) : Kept u (s.receiveCan c stamp sof f) := by
  unfold State.receiveCan; grind only [State.placeFrame_kept, State.modCtrl_kept]

theorem State.settleCancel_kept (h : Kept u s) (c b) : Kept u (s.settleCancel c b) := by
  unfold State.settleCancel; grind only [State.settle_kept]

theorem State.endCancels_kept (h : Kept u s) (c) : Kept u (s.endCancels c) := by
  unfold State.endCancels; grind only [foldl_kept, State.settleCancel_kept, State.modBuf_kept]

theorem State.confine_kept (h : Kept u s) (c) : Kept u (s.confine c) := by
  unfold State.confine; grind only [State.modCtrl_kept, State.endCancels_kept, State.recordOpen_kept]

theorem State.goodReception_kept (h : Kept u s) (c) : Kept u (s.goodReception c) := by
  unfold State.goodReception; grind only [State.modCtrl_kept, State.takeFree_kept]

theorem canRxFrame_kept (h : Kept u s) (c f sof) : Kept u (canRxFrame c f sof s) := by
  unfold canRxFrame; grind only [State.confine_kept, State.goodReception_kept, State.receiveCan_kept]

theorem canTxComplete_kept (h : Kept u s) (c b sof tdc) : Kept u (canTxComplete c b sof tdc s) := by
  unfold canTxComplete; grind only [State.modBuf_kept, State.modCtrl_kept, State.settleCancel_kept, State.confine_kept]

theorem State.txFailed_kept (h : Kept u s) (c b) : Kept u (s.txFailed c b) := by
  unfold State.txFailed; grind only [State.modBuf_kept, State.settleCancel_kept]

theorem State.addTec_kept (h : Kept u s) (c) : Kept u (s.addTec c) := by
  unfold State.addTec; grind only [State.confine_kept, State.modCtrl_kept]

theorem State.addRec_kept (h : Kept u s) (c n) : Kept u (s.addRec c n) := by
  unfold State.addRec; grind only [State.confine_kept, State.modCtrl_kept]

theorem State.missAck_kept (h : Kept u s) (c) : Kept u (s.missAck c) := by
  unfold State.missAck; grind only [State.modCtrl_kept, State.recordOpen_kept]

theorem canError_kept (h : Kept u s) (c e) : Kept u (canError c e s) := by
  unfold canError; grind only [State.txFailed_kept, State.addRec_kept, State.addTec_kept, State.missAck_kept]

theorem txTime_kept (h : Kept u s) (c b) : Kept u (txTime c b s) := by
  unfold txTime; grind only [State.modBuf_kept]

theorem recovering_kept (h : Kept u s) (c) : Kept u (recovering c s) := by
  unfold recovering; grind only [State.modCtrl_kept]

theorem canIntegration_kept (h : Kept u s) (c) : Kept u (canIntegration c s) := by
  unfold canIntegration; grind only [State.modCtrl_kept]

theorem State.queueCan_kept (h : Kept u s) (c b atTime) : Kept u (s.queueCan c b atTime) := by
  unfold State.queueCan; grind only [State.modBuf_kept]

theorem imageSend_kept (h : Kept u s) (c b go ws) : Kept u (imageSend c b go ws s) := by
  unfold imageSend; grind only [foldl_kept, State.modCtrl_kept, State.modBuf_kept, State.queueCan_kept]

theorem hpPendingClear_kept (h : Kept u s) (c mask) : Kept u (hpPendingClear c mask s) := by
  unfold hpPendingClear; grind only [State.noteAbsent_kept, State.modCtrl_kept]

theorem State.lockBuf_kept (h : Kept u s) (c b) : Kept u (s.lockBuf c b) := by
  unfold State.lockBuf; grind only [State.modBuf_kept]

theorem bufferLock_kept (h : Kept u s) (c b) : Kept u (bufferLock c b s) := by
  unfold bufferLock; grind only [State.emit_kept, State.noteAbsent_kept, State.lockBuf_kept]

theorem State.unlockBuf_kept (h : Kept u s) (c b) : Kept u (s.unlockBuf c b) := by
  unfold State.unlockBuf; grind only [State.modBuf_kept, State.frameIn_kept]

theorem bufferRelease_kept (h : Kept u s) (c b) : Kept u (bufferRelease c b s) := by
  unfold bufferRelease; grind only [State.emit_kept, State.noteAbsent_kept, State.unlockBuf_kept]

theorem lockTimeout_kept (h : Kept u s) (c b) : Kept u (lockTimeout c b s) := by
  unfold lockTimeout; grind only [State.unlockBuf_kept, State.modBuf_kept, State.recordOpen_kept, State.modCtrl_kept]

theorem canInputInstant_kept (h : Kept u s) : Kept u (canInputInstant s) := by
  unfold canInputInstant; grind only [foldl_kept, State.publish_kept, State.modCan_kept]

theorem canRestart_kept (h : Kept u s) : Kept u (canRestart s) := h.of_eq rfl rfl

theorem canUngraze_kept (h : Kept u s) : Kept u (canUngraze s) := h.of_eq rfl rfl

theorem canGraze_kept (h : Kept u s) : Kept u (canGraze s) := by
  unfold canGraze; grind only [foldl_kept, State.modCan_kept, State.endCancels_kept]

theorem cmdCanConfig_kept (h : Kept u s) (p) : Kept u (cmdCanConfig p s).1 := by
  unfold cmdCanConfig; grind only [checked_kept, State.modCtrl_kept, State.endCancels_kept]

theorem cmdCanFilterConfig_kept (h : Kept u s) (p) : Kept u (cmdCanFilterConfig p s).1 := by
  unfold cmdCanFilterConfig; grind only [checked_kept, State.modCtrl_kept]

theorem cmdCanBufferConfig_kept (h : Kept u s) (p) : Kept u (cmdCanBufferConfig p s).1 := by
  unfold cmdCanBufferConfig; grind only [checked_kept, State.modBuf_kept]

theorem cmdCanCancel_kept (h : Kept u s) (p) : Kept u (cmdCanCancel p s).1 := by
  unfold cmdCanCancel; grind only [checked_kept, State.takeFree_kept, State.modBuf_kept, State.defer_kept]

theorem cmdCanStatus_kept (h : Kept u s) (p) : Kept u (cmdCanStatus p s).1 := by
  unfold cmdCanStatus; grind only [checked_kept]

theorem cmdCanRecover_kept (h : Kept u s) (p) : Kept u (cmdCanRecover p s).1 := by
  unfold cmdCanRecover; grind only [checked_kept, State.modCtrl_kept]

theorem State.setSource_kept (h : Kept u s) (c slaved) : Kept u (s.setSource c slaved) := by
  unfold State.setSource; grind only [State.recordOpen_kept, State.modCtrl_kept]

theorem cmdCanCounterConfig_kept (h : Kept u s) (p) : Kept u (cmdCanCounterConfig p s).1 := by
  unfold cmdCanCounterConfig; grind only [foldl_kept, checked_kept, State.setSource_kept]

end

end Sys2Proof.Machine
end

section
/-! What `Kept` says, by the operations of Machine/Graph. -/

namespace Sys2Proof.Machine

section

variable {u s : State}

theorem State.modSlot_kept (h : Kept u s) (n f) : Kept u (s.modSlot n f) := h.of_eq rfl rfl

theorem State.modBank_kept (h : Kept u s) (n b f) : Kept u (s.modBank n b f) := h.of_eq rfl rfl

theorem State.storeValue_kept (h : Kept u s) (v elem value) : Kept u (s.storeValue v elem value) := by
  unfold State.storeValue; grind only [State.modMem_kept, State.writeNat_kept]

theorem State.initVar_kept (h : Kept u s) (n b i base from') : Kept u (s.initVar n b i base from') := by
  unfold State.initVar; grind only [State.writeWords_kept, State.modGraph_kept]

theorem State.freeShared_kept (h : Kept u s) : Kept u (s.freeShared) := h.of_eq rfl rfl

theorem State.forgetBank_kept (h : Kept u s) (n b) : Kept u (s.forgetBank n b) := h.of_eq rfl rfl

theorem State.initNew_kept (h : Kept u s) (n b zs new) : Kept u (s.initNew n b zs new) := by
  unfold State.initNew; grind only [foldl_kept, State.initVar_kept]

theorem State.failVerify_kept (h : Kept u s) (n b status fail) : Kept u (s.failVerify n b status fail).1 := by
  unfold State.failVerify; grind only [State.freeShared_kept, State.modBank_kept, State.forgetBank_kept]

theorem State.placeBank_kept (h : Kept u s) (n b) : Kept u (s.placeBank n b).1 := by
  unfold State.placeBank; grind only [State.failVerify_kept, State.modGraph_kept, State.modBank_kept, State.initNew_kept,
    State.modSched_kept]

theorem graphVerify_kept (h : Kept u s) (n b) : Kept u (graphVerify n b s).1 := by
  unfold graphVerify; grind only [State.failVerify_kept, State.placeBank_kept, State.forgetBank_kept]

theorem carryEntry_kept {acc : State × Nat} (h : Kept u acc.1) (c) : Kept u (carryEntry acc c).1 :=
  foldl_fst_kept (fun _ _ hr => State.writeNat_kept hr _ _ _) _ h

theorem State.countArith_kept (h : Kept u s) (n k) : Kept u (s.countArith n k) := by
  unfold State.countArith; grind only [State.modSlot_kept, State.recordOpen_kept]

theorem State.dropForces_kept (h : Kept u s) (n b) : Kept u (s.dropForces n b) := by
  unfold State.dropForces; grind only [foldl_kept, State.record_kept, State.modSlot_kept, State.modGraph_kept]

theorem State.initTails_kept (h : Kept u s) (n b plan) : Kept u (s.initTails n b plan) := by
  unfold State.initTails; grind only [foldl_kept, State.initVar_kept]

theorem State.moult_kept (h : Kept u s) (n x) : Kept u (s.moult n x) := by
  have carried {t : State} (ht : Kept u t) (l : List Carry) : Kept u (l.foldl carryEntry (t, 0)).1 :=
    foldl_fst_kept (fun _ c hr => carryEntry_kept hr c) l ht
  have dropped := State.dropForces_kept h n (!(slotOf s n).activeB)
  unfold State.moult
  exact ite_kept h (State.freeShared_kept (State.modSlot_kept (State.modSched_kept (State.modBank_kept (State.modBank_kept
    (State.countArith_kept (carried (ite_kept (State.initTails_kept dropped _ _ _) dropped) _) _ _) _ _ _) _ _ _) _) _ _))

theorem graphMemoryFault_kept (h : Kept u s) (addr) : Kept u (graphMemoryFault addr s).1 := by
  have lost (l : List (Nat × Bool)) : Kept u ((l.foldl (fun s k =>
      if keepsShared ((slotOf s k.1).bank k.2) then
        (s.forgetBank k.1 k.2).modBank k.1 k.2 fun q => { q with state := .loaded }
      else s) s).freeShared) :=
    State.freeShared_kept (foldl_kept (fun t k ht => ite_kept (State.modBank_kept (State.forgetBank_kept ht _ _) _ _ _) ht) l h)
  unfold graphMemoryFault
  dsimp only
  split
  · split
    · exact h
    · split
      · exact lost _
      · exact h
  · split
    · exact h
    · exact lost _

end

end Sys2Proof.Machine
end

section
/-! What `Kept` says, by the operations of Machine/GraphRun. -/

namespace Sys2Proof.Machine

section

variable {u s : State}

theorem State.setOutput_kept (h : Kept u s) (k j value) : Kept u (s.setOutput k j value) := by
  unfold State.setOutput; grind only [State.storeValue_kept]

theorem State.setOutputs_kept (h : Kept u s) (k vs) : Kept u (s.setOutputs k vs) := by
  unfold State.setOutputs; grind only [foldl_kept, State.setOutput_kept]

theorem State.freeOutput_kept (h : Kept u s) (k j) : Kept u (s.freeOutput k j) := by
  unfold State.freeOutput; grind only [State.takeFree_kept, State.setOutput_kept]

theorem State.setState_kept (h : Kept u s) (v ws) : Kept u (s.setState v ws) := by
  unfold State.setState; grind only [State.modGraph_kept, State.writeWords_kept]

theorem State.modExec_kept (h : Kept u s) (n f) : Kept u (s.modExec n f) := h.of_eq rfl rfl

theorem State.imgWrite_kept (h : Kept u s) (n key v) : Kept u (s.imgWrite n key v) := h.of_eq rfl rfl

theorem State.imgRequest_kept (h : Kept u s) (n r) : Kept u (s.imgRequest n r) := h.of_eq rfl rfl

theorem runSeq_kept (h : Kept u s) (k now cond) : Kept u (runSeq s k now cond) := by
  unfold runSeq; grind only [State.setOutputs_kept, State.setState_kept]

theorem runSeqCompanion_kept (h : Kept u s) (k now prev x) : Kept u (runSeqCompanion s k now prev x) := by
  unfold runSeqCompanion; grind only [State.setState_kept, State.modExec_kept, State.setOutputs_kept]

theorem axisOp_kept (h : Kept u s) (k x) : Kept u (axisOp s k x) := by
  unfold axisOp; grind only [State.imgRequest_kept, State.countArith_kept]

theorem inputOp_kept (h : Kept u s) (k x ins) : Kept u (inputOp s k x ins) := by
  unfold inputOp; grind only [State.setOutputs_kept, State.freeOutput_kept, State.setOutput_kept]

theorem imageOp_kept (h : Kept u s) (k ins) : Kept u (imageOp s k ins) := by
  unfold imageOp; grind only [State.imgWrite_kept, State.imgRequest_kept, axisOp_kept]

theorem immediateOp_kept (h : Kept u s) (k ins) : Kept u (immediateOp s k ins) := by
  unfold immediateOp; grind only [fireProgram_kept, acqMark_kept, State.record_kept, State.reportFault_kept, State.takeFree_kept]

theorem runTable_kept (h : Kept u s) (k x) : Kept u (runTable s k x) := by
  unfold runTable; grind only [State.freeOutput_kept, State.setOutputs_kept]

theorem runOp_kept (h : Kept u s) (k x) : Kept u (runOp s k x) := by
  have random (n : Nat) : Kept u ((List.range n).foldl
      (fun (acc : State × List Nat) _ => (acc.1.takeFree.2, acc.2 ++ [acc.1.takeFree.1.toNat])) (s, [])).1 :=
    foldl_fst_kept (fun _ _ hr => State.takeFree_kept hr) _ h
  unfold runOp
  dsimp only
  split <;> grind only [foldl_kept, imageOp_kept, inputOp_kept, State.setOutputs_kept, State.countArith_kept, immediateOp_kept,
    State.setState_kept, runSeq_kept, runSeqCompanion_kept, runTable_kept, State.freeOutput_kept, State.setOutput_kept]

end

end Sys2Proof.Machine
end

section
/-! What `Kept` says, by the operations of Machine/Sched. -/

namespace Sys2Proof.Machine

section

variable {u s : State}

theorem State.modCore_kept (h : Kept u s) (c f) : Kept u (s.modCore c f) := h.of_eq rfl rfl

theorem State.modSlotSched_kept (h : Kept u s) (n f) : Kept u (s.modSlotSched n f) := h.of_eq rfl rfl

theorem fillSlot_kept (h : Kept u s) (c) : Kept u (fillSlot c s) := by
  unfold fillSlot; grind only [State.modCore_kept]

theorem State.markHigh_kept (h : Kept u s) (c) : Kept u (s.markHigh c) := h.of_eq rfl rfl

theorem State.refill_kept (h : Kept u s) (c) : Kept u (s.refill c) := by
  unfold State.refill; grind only [State.modCore_kept, State.markHigh_kept, fillSlot_kept]

theorem State.refillAll_kept (h : Kept u s) : Kept u (s.refillAll) := by
  unfold State.refillAll; grind only [foldl_kept, State.refill_kept]

theorem State.displace_kept (h : Kept u s) (c r) : Kept u (s.displace c r) := by
  unfold State.displace; grind only [foldl_kept, State.modCore_kept]

theorem makeReady_kept (h : Kept u s) (n op) {t} (ht : makeReady n op s = some t) : Kept u t := by
  unfold makeReady at ht
  grind only [State.refill_kept, State.displace_kept, State.markHigh_kept, State.modCore_kept]

theorem acceptToken_kept (h : Kept u s) (k) {t} (ht : acceptToken k s = some t) : Kept u t := by
  unfold acceptToken at ht
  dsimp only at ht
  split at ht
  · cases ht
    exact h
  · split at ht
    · cases ht
      exact State.modExec_kept h _ _
    · exact makeReady_kept (State.modExec_kept h _ _) _ _ ht

theorem State.endStall_kept (h : Kept u s) (d) : Kept u (s.endStall d) := by
  unfold State.endStall; grind only [State.modCore_kept]

theorem State.drainSources_kept (h : Kept u s) (n) : Kept u (s.drainSources n) := by
  unfold State.drainSources; grind only [foldl_kept, makeReady_kept, State.modExec_kept]

theorem drainPass_kept (h : Kept u s) : Kept u (drainPass s) := by
  unfold drainPass
  refine foldl_kept (fun t c ht => ?_) _ (foldl_kept (fun _ _ ht => State.drainSources_kept ht _) _ h)
  have accepted : Kept u (match (coreOf t c).queue with
      | [] => t
      | k :: r => match acceptToken k t with
        | some v => v.modCore c fun q => { q with queue := r }
        | none => t) := by
    split
    · exact ht
    · split
      next hv => exact State.modCore_kept (acceptToken_kept ht _ hv) _ _
      · exact ht
  extract_lets v
  split
  · exact accepted
  · split
    · exact State.modCore_kept (State.modSched_kept accepted _) _ _
    · split
      · split
        · exact State.endStall_kept (State.modCore_kept (State.modCore_kept accepted _ _) _ _) _
        · exact accepted
      · exact accepted

theorem drain_kept : ∀ (n : Nat) {s : State}, Kept u s → Kept u (drain n s)
  | 0, _, h => h
  | n + 1, s, h => by
    unfold drain
    exact ite_kept h (drain_kept n (drainPass_kept h))

theorem State.drainTokens_kept (h : Kept u s) : Kept u (s.drainTokens) := by
  unfold State.drainTokens; grind only [drain_kept]

theorem State.spillToken_kept (h : Kept u s) (q k) : Kept u (s.spillToken q k) := by
  unfold State.spillToken; grind only [State.writeWord_kept, State.takeFree_kept, State.modCore_kept, State.modSched_kept]

theorem State.spillFull_kept (h : Kept u s) : Kept u (s.spillFull) := by
  unfold State.spillFull; grind only [State.reportOpen_kept]

theorem State.sendToken_kept (h : Kept u s) (c n op) : Kept u (s.sendToken c n op) := by
  unfold State.sendToken; grind only [State.modCore_kept, State.spillToken_kept, State.spillFull_kept]

theorem State.sendTokens_kept (h : Kept u s) (c n op) : Kept u (s.sendTokens c n op) := by
  unfold State.sendTokens; grind only [foldl_kept, State.drainTokens_kept, State.sendToken_kept]

theorem routNow_kept (h : Kept u s) (values) : Kept u (routNow values s) := by
  unfold routNow; grind only [foldl_kept, State.modDrove_kept]

theorem State.endStep_kept (h : Kept u s) (n next ran tag) : Kept u (s.endStep n next ran tag) := by
  unfold State.endStep; grind only [State.settle_kept, State.modSlot_kept]

theorem State.dropWork_kept (h : Kept u s) (n) : Kept u (s.dropWork n) := by
  unfold State.dropWork; grind only [foldl_kept, State.modSched_kept, State.drainTokens_kept, State.refillAll_kept, State.modExec_kept,
    State.endStall_kept]

theorem State.abandon_kept (h : Kept u s) (n) : Kept u (s.abandon n) := by
  unfold State.abandon; grind only [State.dropWork_kept, State.endStep_kept, State.recordOpen_kept, State.modSlot_kept]

theorem State.endExec_kept (h : Kept u s) (n) : Kept u (s.endExec n) := by
  unfold State.endExec
  split
  · exact h
  · have counted (f) := State.modSlotSched_kept h n f
    have budgeted {c : Prop} [Decidable c] (f g) :
        Kept u (if c then ((s.modSlotSched n f).recordOpen 4 32 0).modSlot n g else s.modSlotSched n f) :=
      ite_kept (State.modSlot_kept (State.recordOpen_kept (counted f) 4 32 0 false) n _) (counted f)
    have ended {d : Prop} [Decidable d] {t : State} (ht : Kept u t) (f g values) :
        Kept u (if d then routNow values ((t.modSlot n f).modSlot n g) else (t.modSlot n f).modSlot n g) :=
      ite_kept (routNow_kept (State.modSlot_kept (State.modSlot_kept ht n _) n _) _) (State.modSlot_kept (State.modSlot_kept ht n _) n _)
    dsimp only
    split
    · exact State.endStep_kept (ended (budgeted _ _) _ _ _) _ _ _ _
    · exact ended (budgeted _ _) _ _ _

theorem State.countDown_kept (h : Kept u s) (n) : Kept u (s.countDown n) := by
  unfold State.countDown; grind only [State.modExec_kept, State.endExec_kept]

theorem State.pauseStep_kept (h : Kept u s) (n ran tag) : Kept u (s.pauseStep n ran tag) := by
  unfold State.pauseStep; grind only [State.endStep_kept, State.takeFree_kept]

theorem State.stepOn_kept (h : Kept u s) (n) : Kept u (s.stepOn n) := by
  unfold State.stepOn; grind only [State.pauseStep_kept, State.modSched_kept, State.drainTokens_kept, State.modCore_kept,
    State.endStep_kept]

theorem State.stepDone_kept (h : Kept u s) (n) : Kept u (s.stepDone n) := h.of_eq rfl rfl

theorem State.endDelay_kept (h : Kept u s) (c n op tick cancelled) : Kept u (s.endDelay c n op tick cancelled) := by
  unfold State.endDelay
  split
  · exact h
  · have taken (f) := State.modExec_kept h n f
    refine ite_kept (State.modExec_kept (taken _) _ _) (State.stepOn_kept (State.countDown_kept (State.sendTokens_kept (ite_kept ?_ ?_) _ _ _) _) _)
    · exact State.modSlot_kept (State.modSlotSched_kept (State.setOutput_kept (taken _) _ _ _) _ _) _ _
    · exact State.setOutput_kept (State.setOutput_kept (taken _) _ _ _) _ _ _

theorem startDelay_kept (h : Kept u s) (c n op) : Kept u (startDelay c n op s) := by
  unfold startDelay; dsimp only; repeat' split
  all_goals apply_rules [foldl_kept, State.endDelay_kept, State.modSlotSched_kept, State.modExec_kept]

theorem delayRelease_kept (h : Kept u s) (n) : Kept u (delayRelease n s) := by
  unfold delayRelease
  split
  · exact h
  · exact foldl_kept (fun t d ht => State.endDelay_kept ht _ _ _ _ _) _ h

theorem shed_kept (h : Kept u s) (n) : Kept u (shed n s) := by
  unfold shed; grind only [foldl_kept, State.endDelay_kept]

theorem State.beginOp_kept (h : Kept u s) (c r miss stepped) : Kept u (s.beginOp c r miss stepped) := by
  unfold State.beginOp; grind only [State.modCore_kept, State.modSlotSched_kept, State.modExec_kept, requestUrgent_kept,
    State.modAdc_kept, publishUser_kept, runOp_kept]

theorem operationStart_kept (h : Kept u s) (c miss) : Kept u (operationStart c miss s) := by
  unfold operationStart; grind only [State.refill_kept, State.beginOp_kept, State.modCore_kept]

theorem State.endOp_kept (h : Kept u s) (c r) : Kept u (s.endOp c r) := by
  unfold State.endOp; grind only [State.modCore_kept, State.stepOn_kept, State.refill_kept, State.stepDone_kept, startDelay_kept,
    State.countDown_kept, State.sendTokens_kept]

theorem operationComplete_kept (h : Kept u s) (c) : Kept u (operationComplete c s) := by
  unfold operationComplete; grind only [publishUser_kept, State.endOp_kept, State.modCore_kept]

theorem urgentComplete_kept (h : Kept u s) (c) : Kept u (urgentComplete c s) := by
  unfold urgentComplete; grind only [State.modAdc_kept, State.setOutput_kept, State.endOp_kept]

theorem take_kept (h : Kept u s) (c) : Kept u (take c s) := by
  unfold take; grind only [State.refill_kept, State.modCore_kept, State.drainTokens_kept, State.modSlotSched_kept]

theorem tokenSpill_kept (h : Kept u s) (c) : Kept u (tokenSpill c s) := by
  unfold tokenSpill; grind only [foldl_kept, State.spillFull_kept, State.endStall_kept, State.modCore_kept, State.spillToken_kept]

theorem State.beginExec_kept (h : Kept u s) (n) : Kept u (s.beginExec n) := h.of_eq rfl rfl

theorem State.releaseSources_kept (h : Kept u s) (n) : Kept u (s.releaseSources n) := by
  unfold State.releaseSources; grind only [State.drainSources_kept, State.modExec_kept]

theorem releaseLate_kept (h : Kept u s) : Kept u (releaseLate s) := by
  unfold releaseLate; grind only [foldl_kept, State.releaseSources_kept]

theorem State.period_kept (h : Kept u s) (n) : Kept u (s.period n) := by
  unfold State.period; grind only [State.releaseSources_kept, State.beginExec_kept, State.modSlot_kept, State.modSlotSched_kept]

theorem beginLate_kept (h : Kept u s) (k) : Kept u (beginLate k s) := by
  unfold beginLate; grind only [foldl_kept, State.period_kept, State.modExec_kept, State.beginExec_kept]

theorem originsAtStart_kept (h : Kept u s) (k) : Kept u (originsAtStart k s) := by
  unfold originsAtStart; grind only [foldl_kept, State.modSlot_kept]

theorem lateSlot_kept (h : Kept u s) (k n) : Kept u (lateSlot k s n) := by
  unfold lateSlot; grind only [State.recordOpen_kept, State.modSlotSched_kept, State.abandon_kept, State.modExec_kept]

theorem schedCommit_kept (h : Kept u s) (k) : Kept u (schedCommit k s) := by
  unfold schedCommit; grind only [foldl_kept, lateSlot_kept]

theorem formImage_kept (h : Kept u s) (k) : Kept u (formImage k s) := by
  unfold formImage; grind only [foldl_kept, State.modSlot_kept, State.modGraph_kept]

theorem routDue_kept (h : Kept u s) (k) : Kept u (routDue k s) := by
  unfold routDue; grind only [foldl_kept, routNow_kept]

end

end Sys2Proof.Machine
end

section
/-! What `Kept` says, by the operations of Machine/GraphCmd. -/

namespace Sys2Proof.Machine

section

variable {u s : State}

theorem State.unverifyStandby_kept (h : Kept u s) (n) : Kept u (s.unverifyStandby n) := by
  unfold State.unverifyStandby; grind only [State.freeShared_kept, State.modBank_kept, State.forgetBank_kept]

theorem State.clearBank_kept (h : Kept u s) (n b) : Kept u (s.clearBank n b) := by
  unfold State.clearBank
  exact State.modMem_kept_of_wf (State.freeShared_kept (State.modBank_kept (State.forgetBank_kept h _ _) _ _ _)) fun k => clearRange_wf _ _ k

theorem cmdGraphLoad_kept (h : Kept u s) (p) : Kept u (cmdGraphLoad p s).1 := by
  unfold cmdGraphLoad; grind only [checked_kept, State.clearBank_kept, State.freeShared_kept, State.modBank_kept, State.forgetBank_kept,
    State.unverifyStandby_kept, State.writeWords_kept]

theorem cmdGraphVerify_kept (h : Kept u s) (p) : Kept u (cmdGraphVerify p s).1 := by
  unfold cmdGraphVerify; grind only [checked_kept, State.defer_kept]

theorem verifyFinish_kept (h : Kept u s) (d) : Kept u (verifyFinish d s).1 := by
  unfold verifyFinish; grind only [graphVerify_kept]

theorem cmdGraphArm_kept (h : Kept u s) (p) : Kept u (cmdGraphArm p s).1 := by
  unfold cmdGraphArm; grind only [checked_kept, State.modBank_kept]

theorem cmdGraphDisarm_kept (h : Kept u s) (p) : Kept u (cmdGraphDisarm p s).1 := by
  unfold cmdGraphDisarm; grind only [checked_kept, State.modBank_kept]

theorem cmdGraphRollback_kept (h : Kept u s) (p) : Kept u (cmdGraphRollback p s).1 := by
  unfold cmdGraphRollback; grind only [checked_kept, State.modBank_kept]

theorem State.continueExec_kept (h : Kept u s) (n) : Kept u (s.continueExec n) := h.of_eq rfl rfl

theorem State.initVars_kept (h : Kept u s) (n) : Kept u (s.initVars n) := by
  unfold State.initVars; grind only [foldl_kept, State.initVar_kept]

theorem slotControl_kept (h : Kept u s) (n action k) : Kept u (slotControl n action k s).1 := by
  unfold slotControl; grind only [State.modSlot_kept, State.refillAll_kept, State.stepOn_kept, State.continueExec_kept, State.initVars_kept]

theorem cmdGraphControl_kept (h : Kept u s) (p) : Kept u (cmdGraphControl p s).1 := by
  unfold cmdGraphControl; grind only [checked_kept, State.defer_kept, slotControl_kept]

theorem controlsAtStart_kept (h : Kept u s) (k) : Kept u (controlsAtStart k s) := by
  unfold controlsAtStart; grind only [foldl_kept, State.modHost_kept, slotControl_kept, State.answer_kept]

theorem State.beginStep_kept (h : Kept u s) (n) : Kept u (s.beginStep n) := by
  unfold State.beginStep; grind only [State.stepOn_kept, State.releaseSources_kept, State.beginExec_kept]

theorem cmdGraphStep_kept (h : Kept u s) (p) : Kept u (cmdGraphStep p s).1 := by
  unfold cmdGraphStep; grind only [checked_kept, State.defer_kept, State.modSlot_kept, State.stepOn_kept, State.endStep_kept,
    State.beginStep_kept]

theorem cmdGraphForce_kept (h : Kept u s) (p) : Kept u (cmdGraphForce p s).1 := by
  unfold cmdGraphForce; grind only [checked_kept, State.modGraph_kept]

theorem cmdGraphVarRead_kept (h : Kept u s) (p) : Kept u (cmdGraphVarRead p s).1 := by
  unfold cmdGraphVarRead; grind only [checked_kept, State.defer_kept]

theorem varReads_kept (h : Kept u s) : Kept u (varReads s) := by
  unfold varReads; grind only [State.settle_kept]

theorem writeVars_kept (h : Kept u s) (p) : Kept u (writeVars p s).1 := by
  unfold writeVars; grind only [foldl_kept, State.storeValue_kept]

theorem cmdGraphVarWrite_kept (h : Kept u s) (p) : Kept u (cmdGraphVarWrite p s).1 := by
  unfold cmdGraphVarWrite; grind only [checked_kept, State.defer_kept, writeVars_kept]

theorem varWrites_kept (h : Kept u s) : Kept u (varWrites s) := by
  unfold varWrites; grind only [foldl_kept, State.modHost_kept, writeVars_kept, State.answer_kept]

theorem inputReady_kept (h : Kept u s) : Kept u (inputReady s) := by
  unfold inputReady; grind only [foldl_kept, releaseLate_kept, varWrites_kept, State.modGraph_kept, State.beginStep_kept,
    State.stepOn_kept, State.period_kept]

theorem cmdGraphStatus_kept (h : Kept u s) (p) : Kept u (cmdGraphStatus p s).1 := by
  unfold cmdGraphStatus; grind only [State.takeFree_kept, checked_kept]

theorem applySched_kept (h : Kept u s) (c) : Kept u (applySched s c) := by
  unfold applySched; grind only [State.modSched_kept, State.modSlotSched_kept]

theorem schedAtStart_kept (h : Kept u s) : Kept u (schedAtStart s) := by
  unfold schedAtStart; grind only [foldl_kept, State.modSched_kept, applySched_kept]

theorem cmdSchedConfig_kept (h : Kept u s) (p) : Kept u (cmdSchedConfig p s).1 := by
  unfold cmdSchedConfig; grind only [checked_kept, State.modSched_kept, applySched_kept]

theorem cmdSchedCounters_kept (h : Kept u s) (p) : Kept u (cmdSchedCounters p s).1 := by
  unfold cmdSchedCounters; grind only [checked_kept]

theorem cmdSchedClearCounters_kept (h : Kept u s) (p) : Kept u (cmdSchedClearCounters p s).1 := by
  unfold cmdSchedClearCounters; grind only [checked_kept, State.modSched_kept]

theorem cmdSchedStatus_kept (h : Kept u s) (p) : Kept u (cmdSchedStatus p s).1 := by
  unfold cmdSchedStatus; grind only [checked_kept]

theorem graphEnterRun_kept (h : Kept u s) (x) : Kept u (graphEnterRun x s) := by
  unfold graphEnterRun; grind only [foldl_kept, State.modSlot_kept]

theorem graphReturnToRun_kept (h : Kept u s) : Kept u (graphReturnToRun s) := by
  unfold graphReturnToRun
  refine foldl_kept (fun t n ht => ?_) _ h
  have shown := routNow_kept (ite_kept (c := (slotOf t n).held) ht (State.continueExec_kept ht n))
  dsimp only
  split
  · exact ite_kept (routNow_kept (shown _) _) (shown _)
  · exact shown _

theorem graphMode_kept (h : Kept u s) : Kept u (graphMode s) := by
  unfold graphMode; grind only [foldl_kept, State.stepOn_kept, State.refillAll_kept]

theorem cmdCanTransmit_kept (h : Kept u s) (p) : Kept u (cmdCanTransmit p s).1 := by
  unfold cmdCanTransmit; grind only [foldl_kept, checked_kept, State.modBuf_kept, State.queueCan_kept]

end

end Sys2Proof.Machine
end

section
/-! What `Kept` says, by the operations of Machine/Cocoon. -/

namespace Sys2Proof.Machine

section

variable {u s : State}

theorem State.cocoonOverrun_kept (h : Kept u s) : Kept u (s.cocoonOverrun) := by
  unfold State.cocoonOverrun; grind only [State.recordOpen_kept, State.modPair_kept]

theorem State.completeImage_kept (h : Kept u s) (c seq) : Kept u (s.completeImage c seq) := h.of_eq rfl rfl

theorem writeCocoon_kept (h : Kept u s) (k) : Kept u (writeCocoon k s) := by
  unfold writeCocoon; grind only [State.cocoonOverrun_kept, State.modPair_kept, State.modKeep_kept, State.completeImage_kept]

theorem putWords_kept (h : Kept u s) (ws) : Kept u (putWords ws s) :=
  State.modMem_kept_of_wf h fun k => by
    refine List.foldlRecOn (motive := fun t => Memory.wf t) ws _ k fun t ht e _ => ?_
    exact storeBytes_wf _ _ ht

theorem replayUndo_kept (h : Kept u s) : Kept u (replayUndo s) := by
  unfold replayUndo; grind only [foldl_kept, putWords_kept, State.modKeep_kept]

theorem restoreSlot_kept (h : Kept u s) (q1 gap values i) : Kept u (restoreSlot q1 gap values i s) := h.of_eq rfl rfl

theorem restoreAxis_kept (h : Kept u s) (i) : Kept u (restoreAxis i s) := h.of_eq rfl rfl

theorem keepLoopBanks_kept (h : Kept u s) (old) : Kept u (keepLoopBanks old s) :=
  foldl_kept (fun _ _ ht => State.setStatus_kept ht _ _ _ _) _ h

theorem adoptActive_kept (h : Kept u s) (i) : Kept u (adoptActive i s) := by
  unfold adoptActive; grind only [State.modBank_kept, State.modSlot_kept]

theorem restoreImage_kept (h : Kept u s) (c) : Kept u (restoreImage c s) := by
  unfold restoreImage; grind only [foldl_kept, restoreSlot_kept, State.modGraph_kept, restoreAxis_kept, State.modCyc_kept,
    State.modLoop_kept, State.modBoot_kept]

theorem toReadyOutputs_kept (h : Kept u s) : Kept u (toReadyOutputs s) := by
  unfold toReadyOutputs; grind only [axisToReady_kept, setSubstitute_kept]

end

end Sys2Proof.Machine
end

section
/-! What `Kept` says, by the operations of Machine/Loop. -/

namespace Sys2Proof.Machine

section

variable {u s : State}

theorem State.writeDest_kept (h : Kept u s) (c v) : Kept u (s.writeDest c v) := by
  unfold State.writeDest; grind only [State.modPwm_kept, State.modDrove_kept]

theorem State.disarmLoop_kept (h : Kept u s) (c) : Kept u (s.disarmLoop c) := by
  unfold State.disarmLoop; grind only [State.modLoopCh_kept, State.setStatus_kept]

theorem State.clearTable_kept (h : Kept u s) (t) : Kept u (s.clearTable t) := by
  unfold State.clearTable; grind only [State.zeroBytes_kept]

theorem State.swapBank_kept (h : Kept u s) (c) : Kept u (s.swapBank c) := by
  unfold State.swapBank; grind only [State.modLoopCh_kept, State.setStatus_kept, State.clearTable_kept]

theorem State.repAction_kept (h : Kept u s) (c action) : Kept u (s.repAction c action) := by
  unfold State.repAction; grind only [State.modLoopCh_kept, State.setStatus_kept, State.clearTable_kept]

theorem State.loopTake_kept (h : Kept u s) (op p c) : Kept u (s.loopTake op p c) := by
  unfold State.loopTake; grind only [State.swapBank_kept, State.setStW_kept, State.setStatus_kept, State.repAction_kept]

theorem State.takeRequests_kept (h : Kept u s) (c) : Kept u (s.takeRequests c) := by
  unfold State.takeRequests; grind only [foldl_kept, State.swapBank_kept, State.modLoopCh_kept, State.repAction_kept, State.loopTake_kept,
    State.modHost_kept, State.settle_kept]

theorem State.imgSource_kept (h : Kept u s) (key) : Kept u (s.imgSource key).2 := by
  unfold State.imgSource; grind only [State.takeFree_kept]

theorem latchSample_kept (h : Kept u s) (c us since) : Kept u (latchSample s c us since).1 := by
  unfold latchSample; grind only [State.imgSource_kept]

theorem sampleTick_kept (h : Kept u s) (c) : Kept u (sampleTick c s) := by
  unfold sampleTick; grind only [State.takeRequests_kept, State.modLoopCh_kept, State.setStW_kept, State.recordOpen_kept, latchSample_kept]

theorem State.keepResult_kept (h : Kept u s) (c z k) : Kept u (s.keepResult c z k) := by
  unfold State.keepResult; grind only [State.writeWords_kept, State.writeWord_kept, State.coverPoison_kept, State.setStW_kept]

theorem State.publishLoop_kept (h : Kept u s) (c us) : Kept u (s.publishLoop c us) := by
  unfold State.publishLoop
  dsimp only
  generalize stW s c = words
  exact State.publishAt_kept (State.publishAt_kept (State.publishAt_kept (State.publishAt_kept (State.publishAt_kept
    (State.publishAt_kept h _ _ _) _ _ _) _ _ _) _ _ _) _ _ _) _ _ _

theorem State.badSample_kept (h : Kept u s) (c us nan) : Kept u (s.badSample c us nan) := by
  unfold State.badSample; grind only [State.setStW_kept, State.setStatus_kept, State.recordOpen_kept, State.writeDest_kept,
    State.publishLoop_kept]

theorem State.runSample_kept (h : Kept u s) (c x) : Kept u (s.runSample c x) := by
  unfold State.runSample; grind only [State.modLoopCh_kept, State.badSample_kept, State.publishLoop_kept, State.writeDest_kept,
    State.keepResult_kept]

theorem State.noteLatency_kept (h : Kept u s) (c us) : Kept u (s.noteLatency c us) := by
  unfold State.noteLatency; grind only [State.setStW_kept, State.recordOpen_kept]

theorem evaluation_kept (h : Kept u s) (p) : Kept u (evaluation p s) := by
  unfold evaluation; grind only [State.modLoopCh_kept, State.noteLatency_kept, State.runSample_kept]

theorem resampling_kept (h : Kept u s) (p) : Kept u (resampling p s) := by
  unfold resampling; grind only [State.writeWords_kept, State.modLoopCh_kept, State.setStatus_kept]

theorem loopsFresh_kept (h : Kept u s) : Kept u (loopsFresh s) := by
  unfold loopsFresh; grind only [foldl_kept, State.modLoopCh_kept]

theorem loopInputs_kept (h : Kept u s) : Kept u (loopInputs s) := h.of_eq rfl rfl

theorem loopChangeover_kept (h : Kept u s) : Kept u (loopChangeover s) := by
  unfold loopChangeover; grind only [foldl_kept, State.modLoopCh_kept, State.swapBank_kept]

theorem loopReps_kept (h : Kept u s) (new) : Kept u (loopReps new s) := by
  unfold loopReps; grind only [foldl_kept, State.modLoopCh_kept]

end

end Sys2Proof.Machine
end

section
/-! What `Kept` says, by the operations of Machine/Changeover. -/

namespace Sys2Proof.Machine

section

variable {u s : State}

theorem State.modCo_kept (h : Kept u s) (f) : Kept u (s.modCo f) := h.of_eq rfl rfl

theorem State.coRecord_kept (h : Kept u s) (coId) : Kept u (s.coRecord coId) := by
  unfold State.coRecord; grind only [State.recordEv_kept]

theorem cmdDevChangeover_kept (h : Kept u s) (p) : Kept u (cmdDevChangeover p s).1 := by
  unfold cmdDevChangeover; dsimp only; repeat' split
  all_goals grind only [foldl_kept, checked_kept, State.modCyc_kept, State.coDown_kept]

theorem changeoverReport_kept (h : Kept u s) : Kept u (changeoverReport s) := by
  unfold changeoverReport; grind only [State.coUp_kept, State.modCo_kept]

theorem State.distribute_kept (h : Kept u s) (c commit) : Kept u (s.distribute c commit) := by
  unfold State.distribute; grind only [foldl_kept, State.modCyc_kept, State.coDown_kept]

theorem State.coCancel_kept (h : Kept u s) (c refusal) : Kept u (s.coCancel c refusal) := by
  unfold State.coCancel; grind only [State.coRecord_kept, State.distribute_kept, State.answer_kept, State.modCyc_kept]

theorem changeoverDecide_kept (h : Kept u s) : Kept u (changeoverDecide s) := by
  unfold changeoverDecide; grind only [State.coCancel_kept, State.coRecord_kept, State.distribute_kept, State.modCo_kept]

theorem State.coCatchUp_kept (h : Kept u s) (c) : Kept u (s.coCatchUp c) := by
  unfold State.coCatchUp; grind only [State.modCyc_kept, State.modCo_kept]

theorem changeoverMessage_kept (h : Kept u s) (src msg) : Kept u (changeoverMessage src msg s) := by
  unfold changeoverMessage; dsimp only; repeat' split
  all_goals grind only [foldl_kept, State.coUp_kept, State.coDown_kept, State.modCyc_kept, State.modCo_kept, State.distribute_kept,
    State.coCatchUp_kept, State.coRecord_kept]

theorem coUnresolved_kept (h : Kept u s) : Kept u (coUnresolved s) := by
  unfold coUnresolved; grind only [State.modCyc_kept, State.modCo_kept, State.coUp_kept]

theorem State.coAnnounce_kept (h : Kept u s) : Kept u (s.coAnnounce) := by
  unfold State.coAnnounce; grind only [State.modCo_kept, State.modIface_kept]

theorem State.coConfirm_kept (h : Kept u s) : Kept u (s.coConfirm) := by
  unfold State.coConfirm; grind only [State.modIface_kept]

theorem State.coSwap_kept (h : Kept u s) (c x) : Kept u (s.coSwap c x) := by
  unfold State.coSwap; grind only [foldl_kept, State.moult_kept, loopChangeover_kept, State.modCyc_kept, State.coRecord_kept,
    State.modCo_kept]

theorem State.coReply_kept (h : Kept u s) : Kept u (s.coReply) := by
  unfold State.coReply; grind only [State.answerAt_kept, State.modCo_kept]

theorem coAtStart_kept (h : Kept u s) (k) : Kept u (coAtStart k s) := by
  unfold coAtStart; dsimp only; repeat' split
  all_goals apply_rules [foldl_kept, State.coConfirm_kept, State.coAnnounce_kept, State.coSwap_kept, State.coCatchUp_kept,
    State.coReply_kept]

theorem coForget_kept (h : Kept u s) : Kept u (coForget s) := by
  unfold coForget; grind only [State.modCyc_kept]

theorem coSafe_kept (h : Kept u s) : Kept u (coSafe s) := by
  unfold coSafe; grind only [State.coCancel_kept, State.coUp_kept, State.modCo_kept]

theorem coReset_kept (h : Kept u s) : Kept u (coReset s) := by
  unfold coReset; grind only [State.modCyc_kept, State.modCo_kept]

theorem coResumed_kept (h : Kept u s) : Kept u (coResumed s) := by
  unfold coResumed; grind only [State.modCyc_kept]

end

end Sys2Proof.Machine
end

section
/-! What `Kept` says, by the operations of Machine/LoopCmd. -/

namespace Sys2Proof.Machine

section

variable {u s : State}

theorem State.releasePwm_kept (h : Kept u s) (w) : Kept u (s.releasePwm w) := by
  unfold State.releasePwm; grind only [State.modPwm_kept]

theorem cmdLoopChannelConfig_kept (h : Kept u s) (p) : Kept u (cmdLoopChannelConfig p s).1 := by
  unfold cmdLoopChannelConfig; grind only [State.writeWords_kept, checked_kept, State.writeDest_kept, State.releasePwm_kept,
    State.takeRequests_kept, State.modLoopCh_kept]

theorem cmdLoopCoefWrite_kept (h : Kept u s) (p) : Kept u (cmdLoopCoefWrite p s).1 := by
  unfold cmdLoopCoefWrite; grind only [checked_kept, State.writeWords_kept]

theorem cmdLoopBankArm_kept (h : Kept u s) (p) : Kept u (cmdLoopBankArm p s).1 := by
  unfold cmdLoopBankArm; grind only [foldl_kept, checked_kept, State.disarmLoop_kept, State.setStatus_kept]

theorem loopDefer_kept (h : Kept u s) (op p cs atOnce) : Kept u (loopDefer op p cs atOnce s).1 := by
  unfold loopDefer; grind only [foldl_kept, State.loopTake_kept, State.defer_kept]

theorem cmdLoopBankSwap_kept (h : Kept u s) (p) : Kept u (cmdLoopBankSwap p s).1 := by
  unfold cmdLoopBankSwap; grind only [checked_kept, loopDefer_kept]

theorem cmdLoopMode_kept (h : Kept u s) (p) : Kept u (cmdLoopMode p s).1 := by
  unfold cmdLoopMode; grind only [checked_kept, loopDefer_kept]

theorem cmdLoopStateRead_kept (h : Kept u s) (p) : Kept u (cmdLoopStateRead p s).1 := by
  unfold cmdLoopStateRead; grind only [checked_kept]

theorem cmdLoopRepConfig_kept (h : Kept u s) (p) : Kept u (cmdLoopRepConfig p s).1 := by
  unfold cmdLoopRepConfig; grind only [checked_kept, State.clearTable_kept, State.writeWords_kept]

theorem cmdLoopRepControl_kept (h : Kept u s) (p) : Kept u (cmdLoopRepControl p s).1 := by
  unfold cmdLoopRepControl; grind only [checked_kept, loopDefer_kept]

theorem cmdLoopLatency_kept (h : Kept u s) (p) : Kept u (cmdLoopLatency p s).1 := by
  unfold cmdLoopLatency; grind only [checked_kept, State.setStW_kept]

theorem cmdDioPwmConfig_kept (h : Kept u s) (p) : Kept u (cmdDioPwmConfig p s).1 := by
  unfold cmdDioPwmConfig; grind only [checked_kept, State.modPwm_kept]

end

end Sys2Proof.Machine
end

section
/-! What `Kept` says, by the operations of Machine/Maps. -/

namespace Sys2Proof.Machine

section

variable {u s : State}

theorem upWord_kept (h : Kept u s) (e) : Kept u (upWord e s).1 := by
  unfold upWord; grind only [State.takeFree_kept]

theorem upWordsFrom_kept : ∀ (w n) {s : State}, Kept u s → Kept u (upWordsFrom w n s).1
  | _, 0, _, h => h
  | w, n + 1, _, h => upWordsFrom_kept (w + 1) n (upWord_kept h _)

theorem formUpWords_kept (h : Kept u s) : Kept u (formUpWords s) := by
  unfold formUpWords; grind only [upWordsFrom_kept, State.modDrove_kept]

theorem downWord_kept (h : Kept u s) (e x) : Kept u (downWord e x s) := by
  unfold downWord; grind only [publishUser_kept, State.storeValue_kept]

theorem keepOutputData_kept (h : Kept u s) : Kept u (keepOutputData s) := h.of_eq rfl rfl

theorem downMapWrite_kept (h : Kept u s) : Kept u (downMapWrite s) := by
  unfold downMapWrite; grind only [foldl_kept, downWord_kept]

end

end Sys2Proof.Machine
end

section
/-! What `Kept` says, by the operations of Machine/Island. -/

namespace Sys2Proof.Machine

section

variable {u s : State}

theorem State.modPairSto_kept (h : Kept u s) (p) {f} (hf : Lowers f) : Kept u (s.modPairSto p f) :=
  State.modIsl_kept_of_within h (StoWithin.upd hf _ _)

theorem State.islandCount_kept (h : Kept u s) (i) : Kept u (s.islandCount i) := by
  unfold State.islandCount; grind only [State.modIsl_kept]

theorem State.islandRetry_kept (h : Kept u s) : Kept u (s.islandRetry) := by
  unfold State.islandRetry; grind only [State.islandCount_kept, State.recordOpen_kept]

theorem State.islandReport_kept (h : Kept u s) (ev) : Kept u (s.islandReport ev) := by
  unfold State.islandReport; grind only [State.reportOpen_kept]

theorem islandEncoder_kept (h : Kept u s) (n a b) : Kept u (islandEncoder n a b s) := by
  unfold islandEncoder; grind only [State.modIsl_kept]

theorem State.pairOff_kept (h : Kept u s) (p cause) : Kept u (s.pairOff p cause) := by
  unfold State.pairOff
  exact foldl_kept (fun _ _ ht => State.modIsl_kept ht rfl) _ (State.modPairSto_kept h p fun _ => ⟨nofun, nofun⟩)

theorem State.stoSwitched_kept (h : Kept u s) (mask) : Kept u (s.stoSwitched mask) := by
  unfold State.stoSwitched; grind only [axisSto_kept, State.enterSafe_kept]

theorem State.pairSs1_kept (h : Kept u s) (p cause) : Kept u (s.pairSs1 p cause) := by
  unfold State.pairSs1
  exact State.modIsl_kept (State.modPairSto_kept h p fun _ => ⟨id, id⟩) rfl

theorem State.islandStop_kept (h : Kept u s) (mask cause immediate) : Kept u (s.islandStop mask cause immediate) := by
  unfold State.islandStop; grind only [foldl_kept, State.islandCount_kept, State.modIsl_kept, State.pairSs1_kept, State.pairOff_kept,
    State.stoSwitched_kept]

theorem State.islandFault_kept (h : Kept u s) : Kept u s.islandFault := by
  have low (t : Tab StoPair) : StoWithin t (t.map fun e => (e.1, { e.2 with stoA := false, stoB := false })) :=
    .of_low fun e he => by
      obtain ⟨x, _, rfl⟩ := List.mem_map.1 he
      exact ⟨rfl, rfl⟩
  unfold State.islandFault
  exact ite_kept h (State.islandReport_kept (State.modIsl_kept_of_within (State.islandStop_kept h _ _ _) (low _)) _)

theorem islandResetPin_kept (h : Kept u s) : Kept u (islandResetPin s) := by
  unfold islandResetPin; grind only [State.islandStop_kept]

theorem islandMainSafe_kept (h : Kept u s) : Kept u (islandMainSafe s) := by
  unfold islandMainSafe; grind only [State.islandStop_kept]

theorem islandHeartbeat_kept (h : Kept u s) : Kept u (islandHeartbeat s) := by
  unfold islandHeartbeat; grind only [State.modIsl_kept]

theorem demand_kept (h : Kept u s) (ch) : Kept u (demand ch s) := by
  unfold demand; grind only [State.modIsl_kept, State.islandStop_kept]

theorem channelEnergised_kept (h : Kept u s) (ch) : Kept u (channelEnergised ch s) := by
  unfold channelEnergised; grind only [State.modIsl_kept]

theorem State.inputFault_kept (h : Kept u s) (n) : Kept u (s.inputFault n) := by
  unfold State.inputFault; grind only [State.modIsl_kept, State.islandReport_kept, State.islandStop_kept]

theorem discrepancy_kept (h : Kept u s) (n) : Kept u (discrepancy n s) := by
  unfold discrepancy; grind only [State.inputFault_kept, State.islandCount_kept]

theorem State.deferTest_kept (h : Kept u s) (output i) : Kept u (s.deferTest output i) := by
  unfold State.deferTest; grind only [State.islandCount_kept, State.modIsl_kept, State.islandReport_kept]

theorem testPulse_kept (h : Kept u s) (ch good) : Kept u (testPulse ch good s) := by
  unfold testPulse; grind only [State.modIsl_kept, State.deferTest_kept, State.islandRetry_kept, State.inputFault_kept,
    State.islandCount_kept]

theorem State.hardWiredOff_kept (h : Kept u s) (p) : Kept u (s.hardWiredOff p) := by
  have off := State.modPairSto_kept h p (f := fun k => { k with stoB := false }) fun _ => ⟨id, nofun⟩
  unfold State.hardWiredOff
  dsimp only
  split
  · exact State.islandStop_kept off _ _ _
  · exact State.stoSwitched_kept (State.pairOff_kept off _ _) _
  · exact off

theorem hardWiredRecognition_kept (h : Kept u s) (n) : Kept u (hardWiredRecognition n s) := by
  have low : Lowers fun k => { k with stoB := false } := fun _ => ⟨id, nofun⟩
  have timed (ps : List Nat) : Kept u (ps.foldl (fun s p => s.modPairSto p fun k =>
      if k.state = .disabled then k else { k with hwFrom := k.hwFrom.or (some s.now) }) s) :=
    foldl_kept (fun t p ht => State.modPairSto_kept ht p fun k => by split <;> exact ⟨id, id⟩) ps h
  unfold hardWiredRecognition
  exact ite_kept h (ite_kept
    (State.modIsl_kept_of_within (State.islandStop_kept (timed _) _ _ _) (StoWithin.foldl_upd low _ _)) (timed _))

theorem tHw_kept (h : Kept u s) (p) : Kept u (tHw p s) := by
  unfold tHw
  split
  · exact ite_kept (State.modPairSto_kept (State.hardWiredOff_kept h p) p fun _ => ⟨id, id⟩) h
  · exact h

theorem State.endSs1_kept (h : Kept u s) (p envelope) : Kept u (s.endSs1 p envelope) := by
  unfold State.endSs1; grind only [State.islandCount_kept, State.modIsl_kept, State.stoSwitched_kept, State.pairOff_kept]

theorem ss1Check_kept (h : Kept u s) (p) : Kept u (ss1Check p s) := by
  have checked (t) := State.modPairSto_kept h p (f := fun k => { k with checks := t }) fun _ => ⟨id, id⟩
  unfold ss1Check
  exact ite_kept h (ite_kept (State.endSs1_kept (checked _) _ _) (ite_kept (State.endSs1_kept (checked _) _ _) (checked _)))

theorem tSs1Max_kept (h : Kept u s) (p) : Kept u (tSs1Max p s) := by
  unfold tSs1Max; grind only [State.endSs1_kept]

theorem heartbeatLost_kept (h : Kept u s) (pulse) : Kept u (heartbeatLost pulse s) := by
  unfold heartbeatLost; grind only [State.modIsl_kept, State.islandStop_kept, State.islandCount_kept]

theorem switchWordRead_kept (h : Kept u s) (a b) : Kept u (switchWordRead a b s) := by
  unfold switchWordRead; grind only [State.modIsl_kept, State.islandFault_kept]

theorem stoReadback_kept (h : Kept u s) (good) : Kept u (stoReadback good s) := by
  unfold stoReadback; grind only [State.islandRetry_kept, State.islandFault_kept]

theorem frequencyMonitor_kept (h : Kept u s) : Kept u (frequencyMonitor s) := by
  unfold frequencyMonitor; grind only [State.islandFault_kept]

theorem islandInternalCheck_kept (h : Kept u s) (failures) : Kept u (islandInternalCheck failures s) := by
  unfold islandInternalCheck; grind only [State.islandRetry_kept, State.islandFault_kept]

theorem State.outputFault_kept (h : Kept u s) (o) : Kept u (s.outputFault o) := by
  unfold State.outputFault; grind only [State.islandCount_kept, State.modIsl_kept, State.islandStop_kept, State.islandReport_kept]

theorem outputTestPulse_kept (h : Kept u s) (o good aborted) : Kept u (outputTestPulse o good aborted s) := by
  unfold outputTestPulse; grind only [State.modIsl_kept, State.deferTest_kept, State.islandRetry_kept, State.outputFault_kept]

theorem sbcDelay_kept (h : Kept u s) (o) : Kept u (sbcDelay o s) := by
  unfold sbcDelay; grind only [State.modIsl_kept]

theorem islandStart_kept (h : Kept u s) : Kept u (islandStart s) := by
  unfold islandStart; grind only [State.modIsl_kept, State.modBoot_kept]

theorem selfTestDone_kept (h : Kept u s) (a b) : Kept u (selfTestDone a b s) := by
  have read (a b) : Kept u (s.modIsl fun v =>
      if paramsFit v a then { v with swA := a, swB := b, state := .ready }
      else { v with swA := a, swB := b, state := .noParams, params := [], pairs := [] }) :=
    State.modIsl_kept_of_within h (by split; exacts [.refl _, .of_low nofun])
  unfold selfTestDone
  exact ite_kept h (ite_kept (State.islandFault_kept (read _ _)) (read _ _))

theorem islandPowerLoss_kept (h : Kept u s) (vdd) : Kept u (islandPowerLoss vdd s) := by
  unfold islandPowerLoss
  refine axisSto_kept (State.modIsl_kept_of_within h (.of_low fun e he => ?_)) _
  dsimp only at he
  split at he
  · exact nomatch he
  · obtain ⟨p, _, rfl⟩ := List.mem_map.1 he
    exact ⟨rfl, rfl⟩

theorem islandInputs_kept (h : Kept u s) : Kept u (islandInputs s) := by
  unfold islandInputs; grind only [State.publish_kept]

theorem islandReply_kept {r : State × Nat × List Word} (h : Kept u r.1) (op p) : Kept u (islandReply op p r).1 := State.defer_kept h _ _ _

theorem islandRun_kept (h : Kept u s) (op p fault params) {k : State × Nat × List Word} (hk : Kept u k.1) :
    Kept u (islandRun op p fault params s k).1 := by
  unfold islandRun
  refine islandReply_kept ?_ op p
  split
  · exact h
  · exact hk

theorem State.acceptParams_kept (h : Kept u s) (ws) : Kept u (s.acceptParams ws) :=
  State.modIsl_kept_of_within h (.of_low fun e he => by
    obtain ⟨p, _, rfl⟩ := List.mem_map.1 he
    exact ⟨rfl, rfl⟩)

theorem paramLoad_kept (h : Kept u s) (ws) : Kept u (paramLoad ws s).1 := by
  unfold paramLoad; grind only [State.acceptParams_kept]

theorem cmdSafeParamLoad_kept (h : Kept u s) (p) : Kept u (cmdSafeParamLoad p s).1 := by
  unfold cmdSafeParamLoad; grind only [checked_kept, islandRun_kept, paramLoad_kept]

theorem cmdSafeSwitchRead_kept (h : Kept u s) (p) : Kept u (cmdSafeSwitchRead p s).1 := by
  unfold cmdSafeSwitchRead; grind only [checked_kept, islandRun_kept]

theorem cmdSafeStatus_kept (h : Kept u s) (p) : Kept u (cmdSafeStatus p s).1 := by
  unfold cmdSafeStatus; grind only [checked_kept, islandRun_kept]

theorem safeStopNow_kept (h : Kept u s) (w) : Kept u (safeStopNow w s) := by
  have timed (t : Nat) : Lowers fun k => { k with hwFrom := k.hwFrom.or (some t) } := fun _ => ⟨id, id⟩
  unfold safeStopNow
  exact State.islandStop_kept (foldl_kept (fun _ p ht => State.modPairSto_kept ht p (timed _)) _ h) _ _ _

theorem cmdSafeStop_kept (h : Kept u s) (p) : Kept u (cmdSafeStop p s).1 := by
  unfold cmdSafeStop; grind only [checked_kept, islandRun_kept, safeStopNow_kept]

theorem cmdSafeReset_kept (h : Kept u s) (p) : Kept u (cmdSafeReset p s).1 := by
  unfold cmdSafeReset; grind only [checked_kept, State.defer_kept]

theorem cmdSafeDiagRead_kept (h : Kept u s) (p) : Kept u (cmdSafeDiagRead p s).1 := by
  unfold cmdSafeDiagRead; grind only [State.takeFree_kept, checked_kept, islandRun_kept, State.modIsl_kept]

theorem cmdSafeMemRead_kept (h : Kept u s) (p) : Kept u (cmdSafeMemRead p s).1 := by
  unfold cmdSafeMemRead; grind only [checked_kept, islandRun_kept]

end

end Sys2Proof.Machine
end

section
/-! What `Kept` says, by the operations of Machine/Net. -/

namespace Sys2Proof.Machine

section

variable {u s : State}

theorem State.modPort_kept (h : Kept u s) (n f) : Kept u (s.modPort n f) := h.of_eq rfl rfl

theorem State.modTrack_kept (h : Kept u s) (k f) : Kept u (s.modTrack k f) := h.of_eq rfl rfl

theorem State.retarget_kept (h : Kept u s) (atOnce f) : Kept u (s.retarget atOnce f) := by
  unfold State.retarget; grind only [State.modNet_kept, State.recordOpen_kept]

theorem State.followTrack_kept (h : Kept u s) (k) : Kept u (s.followTrack k) := by
  unfold State.followTrack; grind only [State.retarget_kept]

theorem State.setUtc_kept (h : Kept u s) (offset known leap61 leap59) : Kept u (s.setUtc offset known leap61 leap59) := by
  unfold State.setUtc; grind only [State.modNet_kept]

theorem State.utcOfTrack_kept (h : Kept u s) (k) : Kept u (s.utcOfTrack k) := by
  unfold State.utcOfTrack; grind only [State.setUtc_kept, State.modNet_kept]

theorem State.onLocked_kept (h : Kept u s) (k) : Kept u (s.onLocked k) := by
  unfold State.onLocked; grind only [State.utcOfTrack_kept, State.followTrack_kept, State.modNet_kept]

theorem onSync_kept (h : Kept u s) (k t1 corr t2 asym) : Kept u (onSync k t1 corr t2 asym s) := by
  unfold onSync; grind only [State.modTrack_kept, State.onLocked_kept, State.followTrack_kept]

theorem State.chooseMaster_kept (h : Kept u s) (k) : Kept u (s.chooseMaster k) := by
  unfold State.chooseMaster; grind only [State.modTrack_kept, State.utcOfTrack_kept]

theorem State.tsq_kept (h : Kept u s) (n e) : Kept u (s.tsq n e) := by
  unfold State.tsq; grind only [State.modPort_kept]

theorem State.addDelay_kept (h : Kept u s) (k port d) : Kept u (s.addDelay k port d) := h.of_eq rfl rfl

theorem ptpMessage_kept (h : Kept u s) (port m stamp) : Kept u (ptpMessage port m stamp s) := by
  unfold ptpMessage; grind only [foldl_kept, State.chooseMaster_kept, State.modTrack_kept, State.addDelay_kept, State.tsq_kept,
    State.emit_kept, State.modNet_kept]

theorem syncMessage_kept (h : Kept u s) (port m stamp) : Kept u (syncMessage port m stamp s) := by
  unfold syncMessage; grind only [foldl_kept, State.modTrack_kept, onSync_kept]

theorem followUp_kept (h : Kept u s) (port m) : Kept u (followUp port m s) := by
  unfold followUp
  refine ite_kept h (foldl_kept (fun t k ht => ?_) _ h)
  have taken (f) := State.modTrack_kept ht k f
  dsimp only
  split
  · exact ht
  · exact ite_kept (taken _) (ite_kept (State.modTrack_kept (taken _) _ _) (onSync_kept (taken _) _ _ _ _ _))

theorem State.switchTo_kept (h : Kept u s) (k) : Kept u (s.switchTo k) := by
  unfold State.switchTo; grind only [State.modNet_kept, State.utcOfTrack_kept, State.followTrack_kept, State.recordOpen_kept]

theorem holdover_kept (h : Kept u s) (k) : Kept u (holdover k s) := by
  unfold holdover; grind only [State.modTrack_kept, State.switchTo_kept]

theorem portLinkChange_kept (h : Kept u s) (n up) : Kept u (portLinkChange n up s) := by
  unfold portLinkChange; grind only [State.recordOpen_kept, State.modPort_kept]

theorem ptpDelayRequest_kept (h : Kept u s) (k) : Kept u (ptpDelayRequest k s) := by
  unfold ptpDelayRequest; grind only [foldl_kept, State.modTrack_kept, State.tsq_kept, State.emit_kept]

theorem announceReceiptTimeout_kept (h : Kept u s) (k) : Kept u (announceReceiptTimeout k s) := by
  unfold announceReceiptTimeout; grind only [State.chooseMaster_kept, State.modTrack_kept]

theorem timeSet_kept (h : Kept u s) : Kept u (timeSet s) := by
  unfold timeSet; grind only [State.modNet_kept, State.setDeviceTime_kept]

theorem timeMap_kept (h : Kept u s) : Kept u (timeMap s) := by
  unfold timeMap; grind only [State.modNet_kept, State.modDrove_kept]

theorem takeTimeMap_kept (h : Kept u s) (ws) : Kept u (takeTimeMap ws s) := by
  unfold takeTimeMap; grind only [State.modNet_kept, State.retarget_kept, State.setUtc_kept]

theorem netCycle_kept (h : Kept u s) : Kept u (netCycle s) := by
  unfold netCycle; grind only [State.modNet_kept]

theorem netReset_kept (h : Kept u s) : Kept u (netReset s) := h.of_eq rfl rfl

theorem cmdTimePortConfig_kept (h : Kept u s) (p) : Kept u (cmdTimePortConfig p s).1 := by
  unfold cmdTimePortConfig; grind only [checked_kept, State.modPort_kept]

theorem cmdTimePtpConfig_kept (h : Kept u s) (p) : Kept u (cmdTimePtpConfig p s).1 := by
  unfold cmdTimePtpConfig; grind only [checked_kept, State.modTrack_kept]

theorem cmdTimeDomainSelect_kept (h : Kept u s) (p) : Kept u (cmdTimeDomainSelect p s).1 := by
  unfold cmdTimeDomainSelect; grind only [State.modNet_kept, checked_kept, State.retarget_kept, State.setUtc_kept, State.onLocked_kept]

theorem cmdTimeRead_kept (h : Kept u s) (p) : Kept u (cmdTimeRead p s).1 := by
  unfold cmdTimeRead; grind only [checked_kept]

theorem cmdTimeTsQueueRead_kept (h : Kept u s) (p) : Kept u (cmdTimeTsQueueRead p s).1 := by
  unfold cmdTimeTsQueueRead; grind only [checked_kept, State.modPort_kept]

theorem cmdTimeUdpConfig_kept (h : Kept u s) (p) : Kept u (cmdTimeUdpConfig p s).1 := by
  unfold cmdTimeUdpConfig; grind only [checked_kept, State.modNet_kept]

theorem cmdTimeStatus_kept (h : Kept u s) (p) : Kept u (cmdTimeStatus p s).1 := by
  unfold cmdTimeStatus; grind only [checked_kept]

end

end Sys2Proof.Machine
end

section
/-! What `Kept` says, by the operations of Machine/Idle. -/

namespace Sys2Proof.Machine

section

variable {u s : State}

theorem wokenFromOff_kept (h : Kept u s) (d) : Kept u (wokenFromOff d s) := by
  unfold wokenFromOff; grind only [canRestart_kept]

theorem lostInOff_kept (h : Kept u s) (d) : Kept u (lostInOff d s) := by
  unfold lostInOff; grind only [State.modAdc_kept]

theorem clearDomainMemory_kept (h : Kept u s) (d) : Kept u (clearDomainMemory d s) := by
  unfold clearDomainMemory; grind only [State.modKeep_kept, State.zeroBytes_kept, canRestart_kept]

end

end Sys2Proof.Machine
end

section
/-! What `Kept` says, by the operations of Machine/Pwr. -/

namespace Sys2Proof.Machine

section

variable {u s : State}

theorem rechoose_kept (h : Kept u s) : Kept u (rechoose s) := by
  unfold rechoose; grind only [foldl_kept, retarget_kept]

theorem wasted_kept (h : Kept u s) : Kept u (wasted s) := by
  unfold wasted; grind only [State.modPwr_kept, State.record_kept, State.takeFree_kept]

theorem finishWake_kept (h : Kept u s) : Kept u (finishWake s) := by
  unfold finishWake; grind only [State.settle_kept, State.setMode_kept, State.modPwr_kept]

theorem grazeExit_kept (h : Kept u s) (cause detail2) : Kept u (grazeExit cause detail2 s) := by
  unfold grazeExit; grind only [State.record_kept, State.modPwr_kept, finishWake_kept, rechoose_kept]

theorem grazeWake_kept (h : Kept u s) (cause detail2) : Kept u (grazeWake cause detail2 s) := by
  unfold grazeWake; grind only [State.modPwr_kept, grazeExit_kept]

theorem enterGraze_kept (h : Kept u s) : Kept u (enterGraze s) := by
  unfold enterGraze; grind only [setSubstitute_kept, rechoose_kept, State.modPwr_kept]

theorem grazeEntry_kept (h : Kept u s) : Kept u (grazeEntry s) := by
  unfold grazeEntry; grind only [foldl_kept, State.modPwr_kept, wasted_kept, grazeExit_kept]

theorem grazeToSafe_kept (h : Kept u s) : Kept u (grazeToSafe s) := by
  unfold grazeToSafe; grind only [grazeExit_kept]

theorem monitorOne_kept (h : Kept u s) (i v) : Kept u (monitorOne i v s) := by
  unfold monitorOne; grind only [State.modPwr_kept, State.record_kept, State.takeFree_kept, State.reportFault_kept, grazeWake_kept]

theorem thermal_kept (h : Kept u s) : Kept u (thermal s) := by
  unfold thermal; grind only [foldl_kept, State.modPwr_kept, rechoose_kept, State.reportFault_kept, State.takeFree_kept, State.modFlt_kept]

theorem sampleMonitors_kept (h : Kept u s) (vs) : Kept u (sampleMonitors vs s) := by
  unfold sampleMonitors; grind only [foldl_kept, thermal_kept, monitorOne_kept, State.modPwr_kept]

theorem monitorSample_kept (h : Kept u s) (vs) : Kept u (monitorSample vs s) := by
  unfold monitorSample; grind only [rechoose_kept, sampleMonitors_kept]

theorem grazeSample_kept (h : Kept u s) (ains vs) : Kept u (grazeSample ains vs s) := by
  unfold grazeSample; grind only [State.modPwr_kept, sampleMonitors_kept, grazeWake_kept]

theorem maxS_kept (h : Kept u s) : Kept u (maxS s) := by
  unfold maxS; grind only [grazeWake_kept]

theorem canWake_kept (h : Kept u s) (n) : Kept u (canWake n s) := by
  unfold canWake; grind only [grazeWake_kept, State.modPwr_kept]

theorem canWakeRecessive_kept (h : Kept u s) (n) : Kept u (canWakeRecessive n s) := h.of_eq rfl rfl

theorem raised_kept (h : Kept u s) (d m) : Kept u (raised d m s) := by
  unfold raised; grind only [State.recordOpen_kept, wokenFromOff_kept, State.modFlt_kept, clearDomainMemory_kept, State.settle_kept,
    State.modDomain_kept]

theorem timeResumes_kept (h : Kept u s) : Kept u (timeResumes s) := by
  have moved {t : State} (ht : Kept u t) (n) : Kept u { t with timeStep := n } := ht.of_eq rfl rfl
  unfold timeResumes
  split
  · exact h
  · exact State.modPwr_kept (moved (State.takeFree_kept h) _) _

theorem stateReached_kept (h : Kept u s) (d m p) : Kept u (stateReached d m p s) := by
  unfold stateReached; grind only [raised_kept, timeResumes_kept, lostInOff_kept, State.modPwr_kept]

theorem transitionDone_kept (h : Kept u s) (d) : Kept u (transitionDone d s) := by
  unfold transitionDone; grind only [State.modDomain_kept, stateReached_kept, wasted_kept, retarget_kept, rechoose_kept, finishWake_kept]

theorem wakeTimeout_kept (h : Kept u s) (d) : Kept u (wakeTimeout d s) := by
  unfold wakeTimeout; grind only [State.modPwr_kept, State.modDomain_kept, State.askGiveUp_kept, State.reportFault_kept, State.settle_kept]

theorem cmdPwrLatencySet_kept (h : Kept u s) (p) : Kept u (cmdPwrLatencySet p s).1 := by
  unfold cmdPwrLatencySet; grind only [foldl_kept, checked_kept, rechoose_kept, State.modDomain_kept]

theorem cmdPwrState_kept (h : Kept u s) (p) : Kept u (cmdPwrState p s).1 := by
  unfold cmdPwrState; grind only [checked_kept]

theorem cmdPwrGrazeConfig_kept (h : Kept u s) (p) : Kept u (cmdPwrGrazeConfig p s).1 := by
  unfold cmdPwrGrazeConfig; grind only [checked_kept, State.modPwr_kept]

theorem cmdPwrMonitorConfig_kept (h : Kept u s) (p) : Kept u (cmdPwrMonitorConfig p s).1 := by
  unfold cmdPwrMonitorConfig; grind only [checked_kept, State.modPwr_kept]

theorem cmdPwrMonitorRead_kept (h : Kept u s) (p) : Kept u (cmdPwrMonitorRead p s).1 := by
  unfold cmdPwrMonitorRead; grind only [checked_kept]

theorem cmdPwrDomainRetry_kept (h : Kept u s) (p) : Kept u (cmdPwrDomainRetry p s).1 := by
  unfold cmdPwrDomainRetry; grind only [checked_kept, State.defer_kept, State.modDomain_kept]

end

end Sys2Proof.Machine
end

section
/-! What `Kept` says, by the operations of Machine/Startup. -/

namespace Sys2Proof.Machine

section

variable {u s : State}

theorem pinsOff_kept (h : Kept u s) : Kept u (pinsOff s) := by
  unfold pinsOff; grind only [State.emit_kept, State.bypassOff_kept]

theorem coldState_kept (h : Kept u s) (phase lost) : Kept u (coldState s phase lost) :=
  h.of_mem (fun _ => show Memory.wf [] from rfl) rfl

theorem coldPowerUp_kept (h : Kept u s) : Kept u (coldPowerUp s) := by
  unfold coldPowerUp; grind only [islandResetPin_kept, State.modBoot_kept, coldState_kept]

theorem atT1_kept (h : Kept u s) : Kept u (atT1 s) := by
  unfold atT1; grind only [State.modBoot_kept]

theorem pllLock_kept (h : Kept u s) : Kept u (pllLock s) := ite_kept (h.of_eq rfl rfl) h

theorem fuseRead_kept (h : Kept u s) (sel first second) : Kept u (fuseRead sel first second s) := by
  unfold fuseRead; grind only [State.modBoot_kept, State.recordOpen_kept]

theorem memoryClearing_kept (h : Kept u s) : Kept u (memoryClearing s) :=
  ite_kept h (State.modMem_kept_of_wf (State.modBoot_kept h _) fun _ => show Memory.wf [] from rfl)

theorem ringDefaults_kept (h : Kept u s) : Kept u (ringDefaults s) := by
  unfold ringDefaults; grind only [State.modDrove_kept, State.stopDown_kept, State.upPortsOff_kept, State.setRingCfg_kept]

theorem configureReached_kept (h : Kept u s) : Kept u (configureReached s) := by
  unfold configureReached; grind only [State.modBoot_kept, ringDefaults_kept, State.modHost_kept]

theorem pciePerstRelease_kept (h : Kept u s) : Kept u (pciePerstRelease s) := h.of_eq rfl rfl

theorem State.unitsStop_kept (h : Kept u s) : Kept u s.unitsStop :=
  netReset_kept (State.modCan_kept (canGraze_kept (State.modAcq_kept (State.modAdc_kept (State.modLoop_kept (State.modSched_kept
    (State.modGraph_kept h _) _) _) _) _)) _)

theorem State.ringsOff_kept (h : Kept u s) : Kept u (s.ringsOff) := by
  unfold State.ringsOff; grind only [foldl_kept, State.memberOut_kept, State.upPortsOff_kept, State.modIface_kept, State.modDrove_kept]

theorem warmReset_kept (h : Kept u s) (cause) : Kept u (warmReset cause s) := by
  have left := coReset_kept (pinsOff_kept h)
  have unitsDown {t : State} (ht : Kept u t) (f g) :
      Kept u (((t.modMem fun m => { m with poison := [] }).modCyc f).modKeep g) :=
    State.modKeep_kept (State.modCyc_kept (State.modMem_kept ht rfl) _) _
  have begun (boot dev host flt pwr tally) := left.of_eq (t := { coReset (pinsOff s) with
    boot := boot, dev := dev, host := host, flt := flt, pwr := pwr, tally := tally }) rfl rfl
  unfold warmReset
  refine driveDouts_kept (ite_kept (islandResetPin_kept (setSubstitute_kept ?_ _)) ?_) <;>
    exact State.ringsOff_kept (State.unitsStop_kept (ite_kept (unitsDown (begun _ _ _ _ _ _) _ _)
      (State.modPair_kept (unitsDown (begun _ _ _ _ _ _) _ _) _)))

theorem State.pinLow_kept (h : Kept u s) : Kept u (s.pinLow) := by
  unfold State.pinLow; grind only [islandResetPin_kept, coldState_kept, warmReset_kept]

theorem resetNAssert_kept (h : Kept u s) : Kept u (resetNAssert s) := by
  unfold resetNAssert; grind only [State.pinLow_kept, State.modBoot_kept]

theorem State.pinHigh_kept (h : Kept u s) : Kept u (s.pinHigh) := by
  unfold State.pinHigh; grind only [State.modBoot_kept]

theorem resetNRelease_kept (h : Kept u s) : Kept u (resetNRelease s) := by
  unfold resetNRelease; grind only [State.pinHigh_kept, State.modBoot_kept]

theorem State.resetOrGiveUp_kept (h : Kept u s) (cause) : Kept u (s.resetOrGiveUp cause) := by
  unfold State.resetOrGiveUp; grind only [State.modBoot_kept, State.askGiveUp_kept, warmReset_kept]

theorem watchdogExpiry_kept (h : Kept u s) : Kept u (watchdogExpiry s) := by
  unfold watchdogExpiry; grind only [State.resetOrGiveUp_kept]

theorem warmResetStart_kept (h : Kept u s) : Kept u (warmResetStart s) := by
  unfold warmResetStart; grind only [State.resetOrGiveUp_kept]

theorem logicRelease_kept (h : Kept u s) : Kept u (logicRelease s) := by
  unfold logicRelease; grind only [State.modMem_kept, State.modBoot_kept, closeWindow_kept]

theorem recordFailed_kept (h : Kept u s) : Kept u (recordFailed s) := by
  unfold recordFailed; grind only [endWindow_kept, State.modBoot_kept, State.setMode_kept, State.modPair_kept, State.recordOpen_kept,
    ringDefaults_kept, State.dropAssigned_kept]

theorem ringsBack_kept (h : Kept u s) : Kept u (ringsBack s) := by
  unfold ringsBack; grind only [State.upListen_kept, State.startDown_kept]

theorem resumeWindowClose_kept (h : Kept u s) : Kept u (resumeWindowClose s) := by
  unfold resumeWindowClose
  split
  · exact ite_kept h (endWindow_kept h)
  · exact h

theorem supplyLoss_kept (h : Kept u s) (n) : Kept u (supplyLoss n s) := by
  unfold supplyLoss; grind only [State.modBoot_kept, islandResetPin_kept, coldState_kept, State.pinLow_kept, islandPowerLoss_kept]

theorem supplyRestored_kept (h : Kept u s) (n) : Kept u (supplyRestored n s) := by
  unfold supplyRestored; grind only [State.pinHigh_kept, State.modBoot_kept]

end

end Sys2Proof.Machine
end

section
/-! What `Kept` says, by the operations of Machine/Mode. -/

namespace Sys2Proof.Machine

section

variable {u s : State}

theorem State.computeMissing_kept (h : Kept u s) : Kept u (s.computeMissing) := h.of_eq rfl rfl

theorem enterRun_kept (h : Kept u s) (x) : Kept u (enterRun x s) := by
  unfold enterRun; grind only [State.modCyc_kept, axisToRun_kept, State.modGraph_kept, graphEnterRun_kept, State.modDrove_kept]

theorem leaveRun_kept (h : Kept u s) : Kept u (leaveRun s) := by
  unfold leaveRun; grind only [State.modCyc_kept, toReadyOutputs_kept, State.modGraph_kept]

theorem transition_kept (h : Kept u s) (from' to') : Kept u (transition from' to' s) := by
  unfold transition; grind only [enterRun_kept, graphReturnToRun_kept, State.modCyc_kept, leaveRun_kept, axisHoldEntry_kept,
    loopsFresh_kept, acqPause_kept, canGraze_kept, State.modPwr_kept]

theorem State.goMode_kept (h : Kept u s) (m) : Kept u (s.goMode m) := by
  unfold State.goMode; grind only [graphMode_kept, State.setMode_kept, transition_kept, enterGraze_kept]

theorem takeRequest_kept (h : Kept u s) (p) : Kept u (takeRequest p s).1 := by
  unfold takeRequest; grind only [State.computeMissing_kept, State.goMode_kept]

theorem waitRequest_kept (h : Kept u s) (m p) : Kept u (waitRequest m p s).1 := by
  unfold waitRequest; grind only [State.defer_kept, grazeWake_kept, State.modDev_kept]

theorem cmdDevSetMode_kept (h : Kept u s) (p) : Kept u (cmdDevSetMode p s).1 := by
  unfold cmdDevSetMode; grind only [checked_kept, State.enterSafe_kept, takeRequest_kept, waitRequest_kept, State.computeMissing_kept]

theorem cmdDevSafeAck_kept (h : Kept u s) (p) : Kept u (cmdDevSafeAck p s).1 := by
  unfold cmdDevSafeAck; grind only [State.computeMissing_kept, checked_kept, State.modDev_kept]

theorem State.stopNow_kept (h : Kept u s) : Kept u (s.stopNow) := by
  unfold State.stopNow; grind only [State.modDev_kept, State.goMode_kept]

theorem State.ackNow_kept (h : Kept u s) : Kept u (s.ackNow) := by
  unfold State.ackNow; grind only [State.goMode_kept]

theorem modesAtStart_kept (h : Kept u s) : Kept u (modesAtStart s) := by
  unfold modesAtStart; grind only [foldl_kept, State.ackNow_kept, State.stopNow_kept, State.modHost_kept, State.modDev_kept,
    takeRequest_kept, State.answer_kept]

theorem settleGraze_kept (h : Kept u s) : Kept u (settleGraze s) := by
  unfold settleGraze; grind only [loopsFresh_kept, acqUnpause_kept, canUngraze_kept, State.modPwr_kept]

theorem cmdDevIdentify_kept (h : Kept u s) (p) : Kept u (cmdDevIdentify p s).1 := by
  unfold cmdDevIdentify; grind only [checked_kept]

theorem cmdDevReset_kept (h : Kept u s) (p) : Kept u (cmdDevReset p s).1 := by
  unfold cmdDevReset; grind only [checked_kept, State.modBoot_kept]

theorem cmdDevResume_kept (h : Kept u s) (p) : Kept u (cmdDevResume p s).1 := by
  unfold cmdDevResume; grind only [checked_kept, closeWindow_kept, State.recordOpen_kept, State.defer_kept]

theorem cmdDevStatus_kept (h : Kept u s) (p) : Kept u (cmdDevStatus p s).1 := by
  unfold cmdDevStatus; grind only [checked_kept]

theorem cmdDevResumeConfig_kept (h : Kept u s) (p) : Kept u (cmdDevResumeConfig p s).1 := by
  unfold cmdDevResumeConfig; grind only [checked_kept, State.modDev_kept]

end

end Sys2Proof.Machine
end

section
/-! What `Kept` says, by the operations of Machine/Tally. -/

namespace Sys2Proof.Machine

section

variable {u s : State}

theorem State.setCursor_eq (s : State) (q : Nat) : s.setCursor q = s.modTally fun t => { t with
    cursor := (moveCursor s q).1, moved := (moveCursor s q).2, windowLatch := recordWords s (moveCursor s q).1 } := by
  have unfolded : @State.setCursor = @State.setCursor := rfl
  conv_rhs at unfolded => delta State.setCursor
  refine (congrFun (congrFun unfolded s) q).trans ?_
  clear unfolded
  generalize moveCursor s q = found
  obtain ⟨c, m⟩ := found
  rfl

theorem State.setCursor_kept (h : Kept u s) (q) : Kept u (s.setCursor q) := by
  rw [State.setCursor_eq]
  exact State.modTally_kept h _

theorem admitRecord_kept (h : Kept u s) (r) : Kept u (admitRecord r s).1 := by
  unfold admitRecord; grind only [State.modTally_kept]

theorem State.writeRecord_kept (h : Kept u s) (r suppressed) : Kept u (s.writeRecord r suppressed) := by
  unfold State.writeRecord; grind only [State.modTally_kept, State.writeWords_kept, copyEvents_kept, State.modDrove_kept, triggerTally_kept]

theorem countTransient_kept (h : Kept u s) (unit) : Kept u (countTransient unit s) := by
  unfold countTransient; grind only [State.modFlt_kept, State.reportFault_kept]

theorem State.handleRecord_kept (h : Kept u s) (r) : Kept u (s.handleRecord r) := by
  unfold State.handleRecord; grind only [countTransient_kept, admitRecord_kept, State.writeRecord_kept]

theorem recordWrite_kept (h : Kept u s) : Kept u (recordWrite s) := by
  unfold recordWrite; grind only [State.modTally_kept, State.note_kept, State.handleRecord_kept]

theorem restarted_kept (h : Kept u s) : Kept u (restarted s) := by
  unfold restarted; grind only [State.modTally_kept, State.handleRecord_kept]

theorem windowRead_kept (h : Kept u s) : Kept u (windowRead s) := by
  unfold windowRead; grind only [State.setCursor_kept, State.emit_kept]

theorem cmdTallyConfig_kept (h : Kept u s) (p) : Kept u (cmdTallyConfig p s).1 := by
  unfold cmdTallyConfig; grind only [checked_kept, State.modTally_kept]

def cursorTarget (s : State) (p : Packet) (wh : Nat) : Nat :=
  match wh with | 0 => p.w 1 | 1 => 0 | 2 => oldestSeq s | _ => s.tally.seq
def tallyCursorAt (s : State) (p : Packet) (wh : Nat) (found : Nat × Bool) : State × Verdict :=
  checked
    [(p.len ≠ 2, stBadLength), (reservedSet (p.w 0) 0xFFFFFFFC || (wh ≠ 0 && p.w 1 ≠ 0), stRange)] s
    (s.modTally (fun t => { t with cmdCursor := found.1, cmdMoved := found.2 }), .done stOk [wd found.1])
theorem cmdTallyCursor_eq (p : Packet) (s : State) :
   cmdTallyCursor p s = tallyCursorAt s p (field (p.w 0) 0 2) (moveCursor s (cursorTarget s p (field (p.w 0) 0 2))) := by
  have unfolded : @cmdTallyCursor = @cmdTallyCursor := rfl
  conv_rhs at unfolded => delta cmdTallyCursor
  refine (congrFun (congrFun unfolded p) s).trans ?_
  clear unfolded
  rcases field (p.w 0) 0 2 with _ | _ | _ | n
  all_goals
    extract_lets wh q
    change _ = tallyCursorAt s p wh (moveCursor s q)
    generalize moveCursor s q = found
    obtain ⟨c, m⟩ := found
    rfl
theorem fst_kept {t : State} {α : Type} {x : α} (h : Kept u t) : Kept u (t, x).1 := h
theorem cmdTallyCursor_kept (h : Kept u s) (p) : Kept u (cmdTallyCursor p s).1 := by
  rw [cmdTallyCursor_eq p s]
  generalize moveCursor s _ = found
  exact checked_kept h _ (fst_kept (State.modTally_kept h _))

theorem cmdTallyRead_kept (h : Kept u s) (p) : Kept u (cmdTallyRead p s).1 := by
  unfold cmdTallyRead; grind only [checked_kept, State.modTally_kept]

theorem cmdTallyClear_kept (h : Kept u s) (p) : Kept u (cmdTallyClear p s).1 := by
  unfold cmdTallyClear; grind only [foldl_kept, checked_kept, State.writeWord_kept, State.record_kept, State.modTally_kept]

theorem cmdTallyStatus_kept (h : Kept u s) (p) : Kept u (cmdTallyStatus p s).1 := by
  unfold cmdTallyStatus; grind only [checked_kept]

end

end Sys2Proof.Machine
end

section
/-! What `Kept` says, by the operations of Machine/Memory. -/

namespace Sys2Proof.Machine

section

variable {u s : State}

theorem hostRead_kept (h : Kept u s) (off) : Kept u (hostRead off s).1 := by
  unfold hostRead; grind only [State.modHost_kept]

theorem msixWrite_kept (h : Kept u s) (v i x) : Kept u (msixWrite v i x s) := by
  unfold msixWrite; grind only [State.modHost_kept, State.sendVector_kept]

theorem ringSetup_kept (h : Kept u s) (n off x) : Kept u (ringSetup n off x s) := h.of_eq rfl rfl

theorem ringRegWrite_kept (h : Kept u s) (n off x) : Kept u (ringRegWrite n off x s) := by
  unfold ringRegWrite; grind only [prodDoorbell_kept, consDoorbell_kept, enableRing_kept, ringReset_kept, ringSetup_kept]

theorem hostRegWrite_kept (h : Kept u s) (off x) : Kept u (hostRegWrite off x s) := by
  unfold hostRegWrite; grind only [msixWrite_kept, ringRegWrite_kept, hostErrClear_kept]

theorem adcRead_kept (h : Kept u s) (off initiator) : Kept u (adcRead off initiator s).1 := by
  unfold adcRead; grind only [State.latchInstant_kept, State.modAdc_kept]

theorem droveWrite_kept (h : Kept u s) (off x) : Kept u (droveWrite off x s) := by
  unfold droveWrite; grind only [State.modDrove_kept]

theorem canRead_kept (h : Kept u s) (c off) : Kept u (canRead c off s).1 := by
  unfold canRead; grind only [State.lockBuf_kept, State.unlockBuf_kept]

theorem canWrite_kept (h : Kept u s) (c off x) : Kept u (canWrite c off x s) := by
  unfold canWrite; grind only [State.modBuf_kept, hpPendingClear_kept]

theorem tallyRegRead_kept (h : Kept u s) (off) : Kept u (tallyRegRead off s).1 := by
  unfold tallyRegRead; grind only [State.setCursor_kept]

theorem regRead_kept (h : Kept u s) (by' unit off) : Kept u (regRead by' unit off s).1 := by
  unfold regRead; grind only [State.noteAbsent_kept, adcRead_kept, canRead_kept, tallyRegRead_kept, hostRead_kept]

theorem regWrite_kept (h : Kept u s) (unit off x) : Kept u (regWrite unit off x s) := by
  unfold regWrite; grind only [State.noteAbsent_kept, droveWrite_kept, canWrite_kept, State.setCursor_kept, hostRegWrite_kept]

theorem registerWrite_kept (h : Kept u s) (a x) : Kept u (registerWrite a x s) := by
  unfold registerWrite; grind only [regWrite_kept]

theorem areaReaction_kept (h : Kept u s) (a) : Kept u (areaReaction a s).1 := by
  unfold areaReaction; grind only [graphMemoryFault_kept, captureMemoryFault_kept, State.modBoot_kept, State.modPair_kept,
    State.modKeep_kept]

theorem State.corrected_kept (h : Kept u s) (a) : Kept u (s.corrected a) := by
  unfold State.corrected; grind only [State.modMem_kept, State.reportFault_kept]

theorem State.doubleError_kept (h : Kept u s) (w) : Kept u (s.doubleError w) := by
  unfold State.doubleError; grind only [State.modMem_kept, areaReaction_kept, State.reportFault_kept, State.takeFree_kept]

theorem State.fabric_kept (h : Kept u s) (e) : Kept u (s.fabric e).1 := by
  unfold State.fabric; grind only [State.transient_kept, State.modMem_kept, State.takeFree_kept, State.reportFault_kept]

theorem State.stored_kept (h : Kept u s) (w e) : Kept u (s.stored w e).1 := by
  unfold State.stored; grind only [State.corrected_kept, State.transient_kept, State.modMem_kept, State.doubleError_kept]

theorem disarmWritten_kept (h : Kept u s) (a n) : Kept u (disarmWritten a n s) := by
  unfold disarmWritten; grind only [foldl_kept, State.recordOpen_kept, State.disarmLoop_kept]

theorem enableWritten_kept (h : Kept u s) (before a n) : Kept u (enableWritten before a n s) :=
  ite_kept h (foldl_kept (fun _ _ ht => ite_kept (State.modLoopCh_kept ht _ _) ht) _ h)

theorem loopStore_kept (h : Kept u s) (a n v) : Kept u (loopStore a n v s) := by
  unfold loopStore; grind only [enableWritten_kept, State.writeNat_kept, disarmWritten_kept, State.noteLoop_kept]

theorem freeBytes_kept : ∀ (n : Nat) {s : State}, Kept u s → Kept u (freeBytes n s).1
  | 0, _, h => h
  | n + 1, _, h => freeBytes_kept n (State.takeFree_kept h)

theorem memBytes_kept (h : Kept u s) (a n) : Kept u (memBytes a n s).1 := by
  unfold memBytes; grind only [freeBytes_kept, State.noteLoop_kept]

theorem memStore_kept (h : Kept u s) (a n v) : Kept u (memStore a n v s) := by
  unfold memStore; grind only [State.writeNat_kept, loopStore_kept]

theorem windowAccess_kept (h : Kept u s) (x unit) : Kept u (windowAccess x unit s).1 := by
  unfold windowAccess; grind only [State.noteAbsent_kept, regRead_kept, regWrite_kept]

theorem storageAccess_kept (h : Kept u s) (x area) : Kept u (storageAccess x area s).1 := by
  unfold storageAccess; grind only [State.stored_kept, memBytes_kept, memStore_kept]

theorem busAccess_kept (h : Kept u s) (x) : Kept u (busAccess x s).1 := by
  unfold busAccess; grind only [windowAccess_kept, State.fabric_kept, wakeDomain_kept, storageAccess_kept]

theorem endAccess_kept (x) {r : State × Option Nat} (h : Kept u r.1) : Kept u (endAccess x r) := by
  unfold endAccess
  grind only [State.emit_kept, State.modHost_kept]

theorem memoryAccess_kept (h : Kept u s) (x) : Kept u (memoryAccess x s) := by
  unfold memoryAccess; grind only [State.emit_kept, endAccess_kept, busAccess_kept, wakeDomain_kept]

theorem bitSetWrite_kept (h : Kept u s) (a n m) : Kept u (bitSetWrite a n m s) := by
  unfold bitSetWrite; grind only [busAccess_kept]

theorem bitClearWrite_kept (h : Kept u s) (a n m) : Kept u (bitClearWrite a n m s) := by
  unfold bitClearWrite; grind only [busAccess_kept]

theorem qspiWords_kept : ∀ (a n) {s : State}, Kept u s → Kept u (qspiWords a n s).1
  | _, 0, _, h => h
  | a, n + 1, s, h => by
    have read := busAccess_kept h { path := .qspi, addr := a }
    have rest := qspiWords_kept (a + 4) n read
    unfold qspiWords
    grind only

theorem qspiStore_kept : ∀ (a) (ws : List Word) {s : State}, Kept u s → Kept u (qspiStore a ws s)
  | _, [], _, h => h
  | a, w :: r, s, h => by
    have stored := busAccess_kept h { path := .qspi, addr := a, data := some w.toNat }
    exact qspiStore_kept (a + 4) r (ite_kept (State.modHost_kept stored _) stored)

theorem qspiTransaction_kept (h : Kept u s) (instr a ws count) : Kept u (qspiTransaction instr a ws count s) := by
  unfold qspiTransaction; grind only [qspiStore_kept, wakeDomain_kept, qspiWords_kept, State.emit_kept]

theorem checkWord_kept (h : Kept u s) (e) : Kept u (checkWord s e) := by
  unfold checkWord; grind only [State.stored_kept]

theorem configurationReplay_kept (h : Kept u s) (record image) : Kept u (configurationReplay record image s) := by
  have checks := foldl_kept (fun t w ht => checkWord_kept ht w) (record ++ image) h
  have replayed {c : Prop} [Decidable c] (f g) : Kept u (if c then ((record ++ image).foldl checkWord s).modBoot f
      else (((record ++ image).foldl checkWord s).modBoot f).modKeep g) :=
    ite_kept (State.modBoot_kept checks f) (State.modKeep_kept (State.modBoot_kept checks f) g)
  unfold configurationReplay
  exact ite_kept h (ite_kept (driveDouts_kept (canRestart_kept (ringsBack_kept (replayed _ _)))) (recordFailed_kept (replayed _ _)))

theorem scrub_kept (h : Kept u s) (a e last) : Kept u (scrub a e last s) := by
  unfold scrub; grind only [State.fabric_kept, State.stored_kept, State.modMem_kept]

theorem State.endFault_kept (h : Kept u s) : Kept u (s.endFault) := by
  unfold State.endFault; grind only [takeUp_kept, State.modFlt_kept]

theorem faultHandled_kept (h : Kept u s) : Kept u (faultHandled s) := by
  unfold faultHandled; grind only [State.endFault_kept]

theorem wakeRange_kept (h : Kept u s) (a n) : Kept u (wakeRange a n s) := by
  unfold wakeRange; grind only [wakeDomain_kept]

theorem readWindow_kept : ∀ (a n) {s : State}, Kept u s → Kept u (readWindow a n s).1
  | _, 0, _, h => h
  | a, n + 1, s, h => by
    unfold readWindow
    split
    · exact readWindow_kept (a + 4) n (regRead_kept h _ _ _)
    · exact h

theorem writeWindow_kept : ∀ (a) (ws : List Word) {s : State}, Kept u s → Kept u (writeWindow a ws s)
  | _, [], _, h => h
  | a, w :: r, s, h => by
    unfold writeWindow
    split
    · exact writeWindow_kept (a + 4) r (regWrite_kept h _ _ _)
    · exact h

theorem State.touch_kept (h : Kept u s) (w reads e) : Kept u (s.touch w reads e).1 := by
  unfold State.touch; grind only [State.fabric_kept, State.stored_kept]

theorem touchAll_kept (p) : ∀ (ws : List Nat) {s : State}, Kept u s → Kept u (touchAll p ws s).1
  | [], _, h => h
  | w :: r, s, h => by
    have touched := State.touch_kept h w true (p.err w)
    unfold touchAll
    dsimp only
    split
    · exact touched
    · exact touchAll_kept p r touched

theorem cmdMemRead_kept (h : Kept u s) (p) : Kept u (cmdMemRead p s).1 := by
  unfold cmdMemRead; grind only [checked_kept, readWindow_kept, wakeRange_kept, touchAll_kept, memBytes_kept]

theorem storeAll_kept (p masked) : ∀ (xs : List (Nat × Nat × Nat)) {s : State}, Kept u s → Kept u (storeAll p masked xs s).1
  | [], _, h => h
  | (a, n, v) :: r, s, h => by
    have touched := State.touch_kept h (storedAt a / 8 * 8) (masked || n != 8) (p.err (storedAt a / 8 * 8))
    unfold storeAll
    dsimp only
    split
    · exact touched
    · exact storeAll_kept p masked r (memStore_kept touched a n v)

theorem cmdMemWrite_kept (h : Kept u s) (p) : Kept u (cmdMemWrite p s).1 := by
  unfold cmdMemWrite; grind only [checked_kept, writeWindow_kept, wakeRange_kept, storeAll_kept]

theorem cmdMemFill_kept (h : Kept u s) (p) : Kept u (cmdMemFill p s).1 := by
  unfold cmdMemFill; grind only [checked_kept, State.defer_kept, wakeRange_kept]

theorem cmdMemDma_kept (h : Kept u s) (p) : Kept u (cmdMemDma p s).1 := by
  unfold cmdMemDma; grind only [checked_kept, State.defer_kept, wakeRange_kept]

theorem fillFinish_kept (h : Kept u s) (p) : Kept u (fillFinish p s).1 := by
  unfold fillFinish; grind only [storeAll_kept]

theorem hostBytes_kept (h : Kept u s) (a n) : Kept u (hostBytes a n s).1 := h.of_eq rfl rfl

theorem dmaCopy_kept (h : Kept u s) (p n) : Kept u (dmaCopy p n s).1 := by
  unfold dmaCopy; grind only [touchAll_kept, memBytes_kept, State.emit_kept, hostBytes_kept, storeAll_kept]

theorem dmaFinish_kept (h : Kept u s) (p dma) : Kept u (dmaFinish p dma s).1 := by
  unfold dmaFinish; grind only [State.takeFree_kept, dmaCopy_kept, State.recordOpen_kept]

theorem cmdMemScrubConfig_kept (h : Kept u s) (p) : Kept u (cmdMemScrubConfig p s).1 := by
  unfold cmdMemScrubConfig; grind only [checked_kept, State.modMem_kept]

theorem State.clearErrors_kept (h : Kept u s) : Kept u (s.clearErrors) := by
  unfold State.clearErrors; grind only [State.modFlt_kept, State.modMem_kept]

theorem cmdMemErrStatus_kept (h : Kept u s) (p) : Kept u (cmdMemErrStatus p s).1 := by
  unfold cmdMemErrStatus; grind only [checked_kept, State.clearErrors_kept]

theorem cmdMemFaultQueue_kept (h : Kept u s) (p) : Kept u (cmdMemFaultQueue p s).1 := by
  unfold cmdMemFaultQueue; grind only [checked_kept]

end

end Sys2Proof.Machine
end

section
/-! What `Kept` says, by the operations of Machine/Pair. -/

namespace Sys2Proof.Machine

section

variable {u s : State}

theorem State.takeCrook_kept (h : Kept u s) (due) : Kept u (s.takeCrook due) := by
  unfold State.takeCrook; grind only [State.modPair_kept, driveDouts_kept, State.recordOpen_kept, State.emit_kept]

theorem State.loseCrook_kept (h : Kept u s) : Kept u s.loseCrook :=
  driveDouts_kept (State.setMode_kept (State.modDio_kept (State.settle_kept (State.modGraph_kept (State.modDev_kept (State.modPair_kept
    (State.emit_kept (coReset_kept h) _) _) _) _) _ _) _) _)

theorem State.sendRenew_kept (h : Kept u s) : Kept u (s.sendRenew) := h.of_eq rfl rfl

theorem renewAtCommit_kept (h : Kept u s) : Kept u (renewAtCommit s) := by
  unfold renewAtCommit; grind only [State.sendRenew_kept]

theorem deltaComplete_kept (h : Kept u s) (bytes) : Kept u (deltaComplete bytes s) := by
  unfold deltaComplete; grind only [State.completeImage_kept, State.modPair_kept, State.sendRenew_kept, State.emit_kept]

theorem State.fallBehind_kept (h : Kept u s) : Kept u (s.fallBehind) := h.of_eq rfl rfl

theorem renew_kept (h : Kept u s) (seq) : Kept u (renew seq s) := by
  unfold renew; grind only [State.fallBehind_kept, State.modPair_kept, State.setMode_kept, State.emit_kept]

theorem State.checkCrook_kept (h : Kept u s) : Kept u (s.checkCrook) := by
  unfold State.checkCrook; grind only [State.loseCrook_kept]

theorem ack_kept (h : Kept u s) (seq current holds) : Kept u (ack seq current holds s) := by
  unfold ack; grind only [State.checkCrook_kept, State.modPair_kept]

theorem leaseExpiry_kept (h : Kept u s) : Kept u (leaseExpiry s) := by
  unfold leaseExpiry; grind only [State.modPair_kept, State.loseCrook_kept, State.checkCrook_kept]

theorem crookTake_kept (h : Kept u s) : Kept u (crookTake s) := by
  unfold crookTake; grind only [State.takeCrook_kept, State.modPair_kept]

theorem release_kept (h : Kept u s) (seq handover) : Kept u (release seq handover s) := by
  unfold release; grind only [State.modPair_kept, State.takeCrook_kept]

theorem crookInHigh_kept (h : Kept u s) (high) : Kept u (crookInHigh high s) := by
  unfold crookInHigh; grind only [State.modPair_kept, State.recordOpen_kept, State.loseCrook_kept]

theorem State.takeElected_kept (h : Kept u s) : Kept u s.takeElected := by
  have asPair {t : State} (ht : Kept u t) (q) : Kept u { t with pair := q } := ht.of_eq rfl rfl
  exact ite_kept (State.takeCrook_kept h _) (State.takeCrook_kept (asPair (closeWindow_kept (State.modPair_kept h _)) _) _)

theorem election_kept (h : Kept u s) (peerNone) : Kept u (election peerNone s) := by
  unfold election; grind only [State.takeElected_kept]

theorem laneDown_kept (h : Kept u s) : Kept u (laneDown s) := by
  unfold laneDown; grind only [State.completeImage_kept, State.checkCrook_kept, State.modPair_kept]

theorem laneIsUp_kept (h : Kept u s) : Kept u (laneIsUp s) := h.of_eq rfl rfl

theorem takeWords_kept (h : Kept u s) (records) : Kept u (takeWords records s) := by
  unfold takeWords; grind only [putWords_kept]

theorem adoptImage_kept (h : Kept u s) (d) : Kept u (adoptImage d s) := by
  unfold adoptImage; grind only [foldl_kept, takeWords_kept, State.modKeep_kept, adoptActive_kept, State.modIface_kept, State.modPair_kept]

theorem deltaReceive_kept (h : Kept u s) (d) : Kept u (deltaReceive d s) := by
  unfold deltaReceive; grind only [State.modPair_kept, adoptImage_kept, State.fallBehind_kept, takeWords_kept]

theorem Record.apply_kept (h : Kept u s) (r : Record) : Kept u (r.apply s) := by
  have upListens {t : State} (ht : Kept u t) : Kept u (if t.drove.cfg.upEn ∧ t.drove.up.state = .disabled then t.upListen else t) :=
    ite_kept (State.upListen_kept ht) ht
  have downStarts {t : State} (ht : Kept u t) : Kept u (match t.drove.down.state, t.drove.downStarted, t.drove.active with
      | .disabled, true, some m => t.startDown m
      | _, _, _ => t) := by
    split
    · exact State.startDown_kept ht _
    · exact ht
  exact downStarts (upListens (State.modNet_kept (canRestart_kept (State.modCan_kept (State.modDrove_kept (State.modAcq_kept
    (State.modDio_kept (State.modAdc_kept (State.modAxis_kept (State.modSched_kept (State.modGraph_kept (State.modPair_kept
    (State.modPwr_kept (State.modTally_kept (State.modMem_kept (State.modCyc_kept (State.modDev_kept h _) _) rfl) _) _) _) _) _) _)
    _) _) _) _) _)) _))

theorem fullCopyDone_kept (h : Kept u s) (f) : Kept u (fullCopyDone f s) := by
  unfold fullCopyDone; grind only [takeWords_kept, Record.apply_kept, closeWindow_kept, driveDouts_kept, State.modPair_kept]

theorem giveUp_kept (h : Kept u s) : Kept u (giveUp s) := by
  unfold giveUp; grind only [State.modPair_kept, State.loseCrook_kept, State.emit_kept, State.modBoot_kept, State.answer_kept,
    warmReset_kept]

theorem State.resumeMode_kept (h : Kept u s) (image m) : Kept u (s.resumeMode image m) := by
  unfold State.resumeMode; grind only [toReadyOutputs_kept, State.setMode_kept]

theorem restoreSingle_kept (h : Kept u s) (c) : Kept u (restoreSingle c s) := by
  have undone := replayUndo_kept h
  have restored := restoreImage_kept (ite_kept (c := swapKept s = true) (keepLoopBanks_kept undone s) undone) c
  have counted (f) := State.modCyc_kept restored f
  unfold restoreSingle
  exact State.settle_kept (acqResumed_kept (coResumed_kept (State.resumeMode_kept (State.modBoot_kept
    (ite_kept (counted _) (State.modGraph_kept (counted _) _)) _) _ _))) _ _

theorem State.refuseResume_kept (h : Kept u s) (status) : Kept u (s.refuseResume status) := by
  unfold State.refuseResume; grind only [closeWindow_kept, State.recordOpen_kept, State.settle_kept]

theorem resumeSingle_kept (h : Kept u s) : Kept u (resumeSingle s) := by
  unfold resumeSingle; grind only [State.settle_kept, State.refuseResume_kept, restoreSingle_kept]

theorem takeoverAxis_kept (h : Kept u s) (i) : Kept u (takeoverAxis i s) := h.of_eq rfl rfl

theorem restartCaptures_kept (h : Kept u s) : Kept u (restartCaptures s) := by
  unfold restartCaptures; grind only [foldl_kept, State.noteState_kept, acqResumed_kept]

theorem restoreTaken_kept (h : Kept u s) (c own) : Kept u (restoreTaken c own s) := by
  unfold restoreTaken
  refine State.setMode_kept (restartCaptures_kept (State.modKeep_kept (State.modDio_kept (keepSubstitutes_kept (State.modGraph_kept
    (State.modCyc_kept (foldl_kept (fun _ _ ht => State.modSlot_kept ht _ _) _ (foldl_kept (fun _ _ ht => takeoverAxis_kept ht _) _
    (restoreImage_kept (foldl_kept (fun _ _ ht => adoptActive_kept ht _) _ ?_) _))) _) _)) _) _)) _
  exact ite_kept (replayUndo_kept h) h

theorem resumeTaken_kept (h : Kept u s) (peer) : Kept u (resumeTaken peer s) := by
  unfold resumeTaken; dsimp only; repeat' split
  all_goals grind only [State.modPair_kept, State.modBoot_kept, State.recordOpen_kept, State.setMode_kept, toReadyOutputs_kept,
    restoreTaken_kept, State.answer_kept]

theorem resume_kept (h : Kept u s) : Kept u (resume s) := by
  unfold resume; grind only [resumeTaken_kept, resumeSingle_kept]

theorem cmdPairConfig_kept (h : Kept u s) (p) : Kept u (cmdPairConfig p s).1 := by
  unfold cmdPairConfig; grind only [checked_kept, State.emit_kept, driveDouts_kept, State.modPair_kept]

theorem cmdPairStatus_kept (h : Kept u s) (p) : Kept u (cmdPairStatus p s).1 := by
  unfold cmdPairStatus; grind only [checked_kept, State.takeFree_kept]

theorem cmdPairHandover_kept (h : Kept u s) (p) : Kept u (cmdPairHandover p s).1 := by
  unfold cmdPairHandover; grind only [checked_kept, State.askGiveUp_kept]

theorem cmdPairCheckpointConfig_kept (h : Kept u s) (p) : Kept u (cmdPairCheckpointConfig p s).1 := by
  unfold cmdPairCheckpointConfig; grind only [checked_kept, State.modPair_kept]

theorem cmdPairStandbyCheck_kept (h : Kept u s) (p) : Kept u (cmdPairStandbyCheck p s).1 := by
  unfold cmdPairStandbyCheck; grind only [State.takeFree_kept, checked_kept]

end

end Sys2Proof.Machine
end

section
/-! What `Kept` says, by the operations of Machine/Cycle. -/

namespace Sys2Proof.Machine

section

variable {u s : State}

theorem ringsAtStart_kept (h : Kept u s) : Kept u (ringsAtStart s) := by
  unfold ringsAtStart; grind only [upCycleStart_kept, slewStep_kept, downCycleStart_kept, State.applyRate_kept]

theorem endStop_kept (h : Kept u s) (due) : Kept u (endStop due s) := by
  unfold endStop; grind only [State.endFault_kept]

theorem unitsAtStart_kept (h : Kept u s) (k) : Kept u (unitsAtStart k s) := by
  have programs := axisCycleStart_kept (graphMode_kept (originsAtStart_kept (schedAtStart_kept (controlsAtStart_kept
    (endStop_kept (modesAtStart_kept (coAtStart_kept h k)) s.dev.stopPending) k)) k))
  exact routDue_kept (triggerCycle_kept (netCycle_kept (ite_kept (axisRemotes_kept programs) programs)) k) k

theorem cycleStart_kept (h : Kept u s) : Kept u (cycleStart s) := by
  have begun (f) := State.pollSchedule_kept (ringsAtStart_kept (State.modCyc_kept h f))
  have settled (f g) := State.modCyc_kept (State.flushUdp_kept (begun f)) g
  unfold cycleStart
  exact ite_kept h (ite_kept (begun _) (rechoose_kept (settleGraze_kept (finishWake_kept (sendTopology_kept
    (ite_kept (State.runDeferred_kept (settled _ _) _ fun _ _ ht => axisStopNow_kept ht _) (unitsAtStart_kept (settled _ _) _)))))))

theorem publishMonitor_kept (h : Kept u s) (i) : Kept u (publishMonitor s i) := by
  unfold publishMonitor; grind only [State.publish_kept, State.modPwr_kept]

theorem adcInputs_kept (h : Kept u s) : Kept u (adcInputs s) := h.of_eq rfl rfl

theorem pairInputs_kept (h : Kept u s) : Kept u (pairInputs s) := by
  unfold pairInputs; grind only [State.publish_kept]

theorem captureInputs_kept (h : Kept u s) : Kept u (captureInputs s) := by
  have latched := foldl_kept (fun t n ht => latchDin_kept ht n) (List.range 64) (settleDins_kept h)
  unfold captureInputs
  extract_lets v w x y z
  have counted : Kept u w := foldl_kept (fun t n ht => latchEnc_kept ht n) _ latched
  have sampled : Kept u x := axisInputs_kept (loopInputs_kept (canInputInstant_kept (adcInputs_kept counted)))
  have paired : Kept u y := pairInputs_kept (islandInputs_kept sampled)
  exact formUpWords_kept (foldl_kept (fun t n ht => publishMonitor_kept ht n) _ paired)

theorem inputInstant_kept (h : Kept u s) : Kept u (inputInstant s) := by
  unfold inputInstant; grind only [captureInputs_kept, State.modCyc_kept]

theorem formCommit_kept (h : Kept u s) (k) : Kept u (formCommit k s) := by
  unfold formCommit; grind only [beginLate_kept, schedCommit_kept, formImage_kept, keepOutputData_kept, State.modCyc_kept]

theorem commitPoint_kept (h : Kept u s) : Kept u (commitPoint s) := by
  have formed (k f) := varReads_kept (formCommit_kept (State.modCyc_kept h f) k)
  exact ite_kept h (ite_kept (formed _ _) (coForget_kept (renewAtCommit_kept (writeCocoon_kept (formed _ _) _))))

theorem applyValues_kept (h : Kept u s) (values) : Kept u (applyValues values s) := by
  unfold applyValues; grind only [foldl_kept, keepSubstitutes_kept, State.modDout_kept, State.modPwm_kept]

theorem applyCan_kept (h : Kept u s) (i) : Kept u (applyCan i s) := by
  unfold applyCan; grind only [foldl_kept, imageSend_kept]

theorem applyRequests_kept (h : Kept u s) (i) : Kept u (applyRequests i s) := by
  unfold applyRequests; grind only [foldl_kept, armLatch_kept, State.axisRequests_kept]

theorem applyImage_kept (h : Kept u s) (k) : Kept u (applyImage k s) :=
  downMapWrite_kept (applyRequests_kept (applyCan_kept (setSubstitute_kept (applyValues_kept (State.modPair_kept (State.modGraph_kept
    (loopReps_kept (State.modCyc_kept h _) _) _) _) _) _) _) _)

theorem committedInstant_kept (h : Kept u s) (k) : Kept u (committedInstant k s) := by
  unfold committedInstant; grind only [State.modCyc_kept, applyImage_kept]

theorem enterSubstitute_kept (h : Kept u s) {stop : State → State} (hs : ∀ t, Kept u t → Kept u (stop t)) :
    Kept u (enterSubstitute stop s) :=
  hs _ (setSubstitute_kept (State.recordOpen_kept (State.modPair_kept (State.modCyc_kept h _) _) _ _ _ _) _)

theorem missedInstant_kept (h : Kept u s) {stop : State → State} (hs : ∀ t, Kept u t → Kept u (stop t)) :
    Kept u (missedInstant stop s) := by
  have missed (f) := State.modCyc_kept h f
  unfold missedInstant
  extract_lets t
  split
  · exact missed _
  · exact missed _
  · exact ite_kept (enterSubstitute_kept (missed _) hs) (ite_kept (missed _) (State.recordOpen_kept (State.modCyc_kept (missed _) _) _ _ _ _))

theorem sendHeartbeat_kept (h : Kept u s) : Kept u (sendHeartbeat s) := by
  unfold sendHeartbeat; grind only [State.emit_kept, islandHeartbeat_kept]

theorem publishCycle_kept (h : Kept u s) : Kept u (publishCycle s) := by
  unfold publishCycle; grind only [State.publishAt_kept]

theorem outputStep_kept (h : Kept u s) : Kept u (outputStep s) := by
  unfold outputStep; grind only [State.modCyc_kept, committedInstant_kept, missedInstant_kept, axisSubstitute_kept, sendHeartbeat_kept,
    publishOutputs_kept, publishCycle_kept]

theorem outputInstant_kept (h : Kept u s) : Kept u (outputInstant s) := by
  unfold outputInstant; grind only [State.modCyc_kept, missedInstant_kept, axisHoldEnd_kept, outputStep_kept]

theorem safeEntry_kept (h : Kept u s) : Kept u (safeEntry s) := by
  have entered (f g i j) := axisSafeEntry_kept (setSubstitute_kept (State.modPair_kept (State.modGraph_kept (State.modCyc_kept
    (State.modDev_kept h f) g) i) j) true)
  unfold safeEntry
  exact ite_kept h (settleGraze_kept (grazeToSafe_kept (coSafe_kept (ite_kept (entered _ _ _ _) (islandMainSafe_kept (entered _ _ _ _))))))

theorem endLatched_kept (h : Kept u s) : Kept u (endLatched s) := by
  unfold endLatched; grind only [State.modCyc_kept]

theorem cmdDevCycleConfig_kept (h : Kept u s) (p) : Kept u (cmdDevCycleConfig p s).1 := by
  unfold cmdDevCycleConfig; grind only [checked_kept, endLatched_kept, State.modCyc_kept]

theorem cmdDevCycleStatus_kept (h : Kept u s) (p) : Kept u (cmdDevCycleStatus p s).1 := by
  unfold cmdDevCycleStatus; grind only [checked_kept]

end

end Sys2Proof.Machine
end

section
/-! What `Kept` says, by the operations of Machine/Bodies. -/

namespace Sys2Proof.Machine

section

variable {u s : State}

/-- Each command of the table keeps what `Kept` says. -/
theorem bodyOf_kept (h : Kept u s) (p : Packet) : ∀ op, Kept u (bodyOf op p s).1
  | .devIdentify => cmdDevIdentify_kept h p
  | .devReset => cmdDevReset_kept h p
  | .devResume => cmdDevResume_kept h p
  | .devSetMode => cmdDevSetMode_kept h p
  | .devSafeAck => cmdDevSafeAck_kept h p
  | .devStatus => cmdDevStatus_kept h p
  | .devResumeConfig => cmdDevResumeConfig_kept h p
  | .devCycleConfig => cmdDevCycleConfig_kept h p
  | .devCycleStatus => cmdDevCycleStatus_kept h p
  | .devChangeover => cmdDevChangeover_kept h p
  | .memRead => cmdMemRead_kept h p
  | .memWrite => cmdMemWrite_kept h p
  | .memFill => cmdMemFill_kept h p
  | .memDma => cmdMemDma_kept h p
  | .memScrubConfig => cmdMemScrubConfig_kept h p
  | .memErrStatus => cmdMemErrStatus_kept h p
  | .memFaultQueue => cmdMemFaultQueue_kept h p
  | .pwrLatencySet => cmdPwrLatencySet_kept h p
  | .pwrState => cmdPwrState_kept h p
  | .pwrGrazeConfig => cmdPwrGrazeConfig_kept h p
  | .pwrMonitorConfig => cmdPwrMonitorConfig_kept h p
  | .pwrMonitorRead => cmdPwrMonitorRead_kept h p
  | .pwrDomainRetry => cmdPwrDomainRetry_kept h p
  | .graphLoad => cmdGraphLoad_kept h p
  | .graphVerify => cmdGraphVerify_kept h p
  | .graphArm => cmdGraphArm_kept h p
  | .graphDisarm => cmdGraphDisarm_kept h p
  | .graphControl => cmdGraphControl_kept h p
  | .graphStep => cmdGraphStep_kept h p
  | .graphForce => cmdGraphForce_kept h p
  | .graphVarRead => cmdGraphVarRead_kept h p
  | .graphVarWrite => cmdGraphVarWrite_kept h p
  | .graphRollback => cmdGraphRollback_kept h p
  | .graphStatus => cmdGraphStatus_kept h p
  | .schedConfig => cmdSchedConfig_kept h p
  | .schedCounters => cmdSchedCounters_kept h p
  | .schedClearCounters => cmdSchedClearCounters_kept h p
  | .schedStatus => cmdSchedStatus_kept h p
  | .loopChannelConfig => cmdLoopChannelConfig_kept h p
  | .loopCoefWrite => cmdLoopCoefWrite_kept h p
  | .loopBankArm => cmdLoopBankArm_kept h p
  | .loopBankSwap => cmdLoopBankSwap_kept h p
  | .loopMode => cmdLoopMode_kept h p
  | .loopStateRead => cmdLoopStateRead_kept h p
  | .loopRepConfig => cmdLoopRepConfig_kept h p
  | .loopRepControl => cmdLoopRepControl_kept h p
  | .loopLatency => cmdLoopLatency_kept h p
  | .axisConfig => cmdAxisConfig_kept h p
  | .axisTableWrite => cmdAxisTableWrite_kept h p
  | .axisStart => cmdAxisStart_kept h p
  | .axisStop => cmdAxisStop_kept h p
  | .axisStatus => cmdAxisStatus_kept h p
  | .axisSetPosition => cmdAxisSetPosition_kept h p
  | .axisStandstill => cmdAxisStandstill_kept h p
  | .adcConfig => cmdAdcConfig_kept h p
  | .adcTableWrite => cmdAdcTableWrite_kept h p
  | .adcGroupConfig => cmdAdcGroupConfig_kept h p
  | .adcUrgent => cmdAdcUrgent_kept h p
  | .adcCalibrate => cmdAdcCalibrate_kept h p
  | .adcCalRead => cmdAdcCalRead_kept h p
  | .adcCalWrite => cmdAdcCalWrite_kept h p
  | .adcStatus => cmdAdcStatus_kept h p
  | .acqSignalConfig => cmdAcqSignalConfig_kept h p
  | .acqStreamConfig => cmdAcqStreamConfig_kept h p
  | .acqWindowConfig => cmdAcqWindowConfig_kept h p
  | .acqTriggerConfig => cmdAcqTriggerConfig_kept h p
  | .acqHistConfig => cmdAcqHistConfig_kept h p
  | .acqPmapConfig => cmdAcqPmapConfig_kept h p
  | .acqControl => cmdAcqControl_kept h p
  | .acqStatus => cmdAcqStatus_kept h p
  | .acqIndexRead => cmdAcqIndexRead_kept h p
  | .ringConfig => cmdRingConfig_kept h p
  | .ringScheduleWrite => cmdRingScheduleWrite_kept h p
  | .ringModeArm => cmdRingModeArm_kept h p
  | .ringStart => cmdRingStart_kept h p
  | .ringStatus => cmdRingStatus_kept h p
  | .ringCounters => cmdRingCounters_kept h p
  | .ringSyncConfig => cmdRingSyncConfig_kept h p
  | .ringTopology => cmdRingTopology_kept h p
  | .canConfig => cmdCanConfig_kept h p
  | .canFilterConfig => cmdCanFilterConfig_kept h p
  | .canBufferConfig => cmdCanBufferConfig_kept h p
  | .canTransmit => cmdCanTransmit_kept h p
  | .canCancel => cmdCanCancel_kept h p
  | .canStatus => cmdCanStatus_kept h p
  | .canRecover => cmdCanRecover_kept h p
  | .canCounterConfig => cmdCanCounterConfig_kept h p
  | .timePortConfig => cmdTimePortConfig_kept h p
  | .timePtpConfig => cmdTimePtpConfig_kept h p
  | .timeDomainSelect => cmdTimeDomainSelect_kept h p
  | .timeRead => cmdTimeRead_kept h p
  | .timeTsQueueRead => cmdTimeTsQueueRead_kept h p
  | .timeUdpConfig => cmdTimeUdpConfig_kept h p
  | .timeStatus => cmdTimeStatus_kept h p
  | .safeParamLoad => cmdSafeParamLoad_kept h p
  | .safeSwitchRead => cmdSafeSwitchRead_kept h p
  | .safeStatus => cmdSafeStatus_kept h p
  | .safeStop => cmdSafeStop_kept h p
  | .safeReset => cmdSafeReset_kept h p
  | .safeDiagRead => cmdSafeDiagRead_kept h p
  | .safeMemRead => cmdSafeMemRead_kept h p
  | .pairConfig => cmdPairConfig_kept h p
  | .pairStatus => cmdPairStatus_kept h p
  | .pairHandover => cmdPairHandover_kept h p
  | .pairCheckpointConfig => cmdPairCheckpointConfig_kept h p
  | .pairStandbyCheck => cmdPairStandbyCheck_kept h p
  | .tallyConfig => cmdTallyConfig_kept h p
  | .tallyCursor => cmdTallyCursor_kept h p
  | .tallyRead => cmdTallyRead_kept h p
  | .tallyClear => cmdTallyClear_kept h p
  | .tallyStatus => cmdTallyStatus_kept h p
  | .dioInputConfig => cmdDioInputConfig_kept h p
  | .dioOutputConfig => cmdDioOutputConfig_kept h p
  | .dioPwmConfig => cmdDioPwmConfig_kept h p
  | .dioEncConfig => cmdDioEncConfig_kept h p
  | .dioRead => cmdDioRead_kept h p
  | .dioWrite => cmdDioWrite_kept h p
  | .dioStatus => cmdDioStatus_kept h p
  | .hostRingCreate => cmdHostRingCreate_kept h p
  | .hostRingDestroy => cmdHostRingDestroy_kept h p
  | .hostEventRoute => cmdHostEventRoute_kept h p

end

end Sys2Proof.Machine
end

section
/-! What `Kept` says, by the operations of Machine/Commands. -/

namespace Sys2Proof.Machine

section

variable {u s : State}

theorem State.turnAway_kept (h : Kept u s) (o ws status) : Kept u (s.turnAway o ws status) := by
  unfold State.turnAway; grind only [State.sendReply_kept]

theorem State.forwardTo_kept (h : Kept u s) (o ws m copy) : Kept u (s.forwardTo o ws m copy) := by
  unfold State.forwardTo; grind only [State.turnAway_kept, State.modDrove_kept]

theorem State.forwardCopies_kept (h : Kept u s) (o ws) : Kept u (s.forwardCopies o ws) := by
  unfold State.forwardCopies; grind only [foldl_kept, State.forwardTo_kept]

theorem State.deliver_kept (h : Kept u s) (o ws errs) : Kept u (s.deliver o ws errs) := by
  unfold State.deliver; grind only [State.turnAway_kept, runCommand_kept, bodyOf_kept]

theorem State.route_kept (h : Kept u s) (o ws errs) : Kept u (s.route o ws errs) := by
  unfold State.route; grind only [State.deliver_kept, State.forwardCopies_kept, State.turnAway_kept, State.forwardTo_kept]

theorem State.takePacket_kept (h : Kept u s) (o ws errs) : Kept u (s.takePacket o ws errs) := by
  unfold State.takePacket; grind only [State.turnAway_kept, State.route_kept]

theorem consume_kept (h : Kept u s) (n slots) : Kept u (consume n slots s) := by
  unfold consume; grind only [State.modHost_kept, State.modRing_kept, State.writeOut_kept, ringIrq_kept]

theorem packetTake_kept (h : Kept u s) (n given dma errs) : Kept u (packetTake n given dma errs s) := by
  unfold packetTake; dsimp only; repeat' split
  all_goals apply_rules [foldl_kept, State.modRing_kept, State.faultRing_kept, State.recordOpen_kept, State.turnAway_kept,
    State.takePacket_kept, consume_kept]

theorem State.keepTag_kept (h : Kept u s) (k) : Kept u (s.keepTag k) := h.of_eq rfl rfl

theorem State.intoRing_kept (h : Kept u s) (n via ip port ws) : Kept u (s.intoRing n via ip port ws) := by
  unfold State.intoRing; grind only [State.writeOut_kept, State.modHost_kept, State.modRing_kept]

theorem udpPacket_kept (h : Kept u s) (n via ip port ws) : Kept u (udpPacket n via ip port ws s) := by
  unfold udpPacket; dsimp only; repeat' split
  all_goals grind only [foldl_kept, State.sendUdp_kept, State.keepTag_kept, State.turnAway_kept, State.intoRing_kept]

theorem udpPayload_kept (n via ip port) : ∀ (fuel : Nat) (ws : List Word) {s : State}, Kept u s → Kept u (udpPayload n via ip port fuel ws s)
  | 0, _, _, h => h
  | fuel + 1, ws, s, h => by
    unfold udpPayload
    exact ite_kept h (ite_kept (State.turnAway_kept h _ _ _) (udpPayload_kept n via ip port fuel _ (udpPacket_kept h _ _ _ _ _)))

theorem udpDatagram_kept (h : Kept u s) (n via ip port whole ws) : Kept u (udpDatagram n via ip port whole ws s) := by
  unfold udpDatagram; grind only [State.modNet_kept, udpPayload_kept]

theorem arpRequest_kept (h : Kept u s) (via ip) : Kept u (arpRequest via ip s) := by
  unfold arpRequest; grind only [State.emit_kept]

theorem runTimed_kept (h : Kept u s) (l) : Kept u (runTimed l s) := by
  unfold runTimed; grind only [foldl_kept, execute_kept, bodyOf_kept]

theorem timedCommand_kept (h : Kept u s) : Kept u (timedCommand s) := by
  unfold timedCommand; grind only [runTimed_kept, State.modHost_kept]

theorem forward_kept (h : Kept u s) : Kept u (forward s) := by
  unfold forward; grind only [State.toMember_kept, State.modDrove_kept]

theorem resendTo_kept (h : Kept u s) (m) : Kept u (resendTo s m) := by
  unfold resendTo; grind only [State.modMember_kept, State.modDrove_kept]

theorem commandResend_kept (h : Kept u s) : Kept u (commandResend s) := by
  unfold commandResend; grind only [foldl_kept, resendTo_kept]

theorem giveUpTo_kept (h : Kept u s) (m) : Kept u (giveUpTo s m) := by
  unfold giveUpTo; grind only [foldl_kept, State.modMember_kept, State.modDrove_kept, State.turnAway_kept]

theorem stTimeoutEvent_kept (h : Kept u s) : Kept u (stTimeoutEvent s) := by
  unfold stTimeoutEvent; grind only [foldl_kept, giveUpTo_kept]

theorem ackForward_kept (h : Kept u s) (m p) : Kept u (ackForward m p s) := by
  unfold ackForward; grind only [State.modDrove_kept, State.recordOpen_kept]

theorem relay_kept (h : Kept u s) (m kind ws) : Kept u (relay m kind ws s) := by
  unfold relay; grind only [State.modDrove_kept, State.sendReply_kept]

theorem relayEvent_kept (h : Kept u s) (ws) : Kept u (relayEvent ws s) := by
  unfold relayEvent; grind only [copyEvents_kept, State.modDrove_kept]

theorem cmdPacket_kept (h : Kept u s) (src p) : Kept u (cmdPacket src p s) := by
  unfold cmdPacket; grind only [State.turnAway_kept, State.takePacket_kept, relay_kept, relayEvent_kept, changeoverMessage_kept,
    State.takeMode_kept, State.takeAddress_kept, takeTimeMap_kept, takeTopology_kept]

theorem cmdFrame_kept (h : Kept u s) (f) : Kept u (cmdFrame f s) := by
  unfold cmdFrame; grind only [foldl_kept, State.cmdFrameIn_kept, ackForward_kept, State.pollSchedule_kept, cmdPacket_kept]

theorem mirrorRefused_kept (h : Kept u s) : Kept u (mirrorRefused s) := by
  unfold mirrorRefused; grind only [State.recordOpen_kept, State.fallBehind_kept]

theorem executeMirrored_kept (h : Kept u s) (op p) : Kept u (executeMirrored op p s) := by
  unfold executeMirrored; grind only [mirrorRefused_kept, bodyOf_kept, State.recordConfig_kept]

theorem mirroredCommand_kept (h : Kept u s) (ws) : Kept u (mirroredCommand ws s) := by
  unfold mirroredCommand; grind only [executeMirrored_kept, mirrorRefused_kept]

end

end Sys2Proof.Machine
end

section
/-! What `Kept` says, by the operations of Machine/Step. -/

namespace Sys2Proof.Machine

section

variable {u s : State}

theorem State.withFetchWord_kept (h : Kept u s) (nbits w) : Kept u (s.withFetchWord nbits w) := h.of_eq rfl rfl

end

end Sys2Proof.Machine
end

section
/-! The rows, and the completion of a SAFE.RESET (14 R515). -/

namespace Sys2Proof.Machine

section

variable {u s : State}

/-! ### The rows -/

/-- The step comes to a state, if to any, in which what `Kept` says still holds. -/
def Stays (u : State) (o : Host.Outcome State Fault Refusal) : Prop := ∀ v, o = .next v → Kept u v

theorem stays_next {v : State} (h : Kept u v) : Stays u (.next v) := by
  rintro w ⟨rfl⟩
  exact h

theorem command_stays (h : Kept u s) {op : Op} {body : Packet → State → State × Verdict} (p : Packet)
    (hb : ∀ p s, Kept u s → Kept u (body p s).1) : Stays u (command op body p s) := by
  unfold command
  split
  · exact stays_next (runCommand_kept h op hb p)
  · exact stays_next h

theorem event_stays (h : Kept u s) {b : Bool} {t : Nat} {f : State → State} (hf : ∀ s, Kept u s → Kept u (f s)) :
    Stays u (event b t f s) :=
  stays_next (ite_kept (hf _ (State.at_kept h t)) (State.at_kept h t))

/-! ### SAFE.RESET -/

/-- A pair whose entry was not there before is one of those that were changed. -/
theorem mem_foldl_upd {f : StoPair → StoPair} {e : Nat × StoPair} : ∀ (ps : List Nat) (t : Tab StoPair),
    e ∈ ps.foldl (fun m p => upd {} m p f) t → e ∈ t ∨ e.1 ∈ ps
  | [], _, h => .inl h
  | p :: ps, t, h => by
    rcases mem_foldl_upd ps _ h with h | h
    · rcases mem_put (d := ({} : StoPair)) h with h | rfl
      · exact .inl h
      · exact .inr List.mem_cons_self
    · exact .inr (List.mem_cons_of_mem _ h)

theorem pairs_foldl_modPairSto (f : StoPair → StoPair) : ∀ (ps : List Nat) (s : State),
    ps.foldl (fun s p => s.modPairSto p f) s = s.modIsl fun v => { v with pairs := ps.foldl (fun m p => upd {} m p f) v.pairs }
  | [], _ => rfl
  | _ :: ps, _ => (pairs_foldl_modPairSto f ps _).trans rfl

/-- A SAFE.RESET that names the pairs of `w` may enable pair `p` of `u`. -/
def ResetsPair (w : Nat) (u : State) (p : Nat) : Prop := bit (field w 0 8) p = true ∧ (pairOf u p).state = .torqueOff

/-- R515: what SAFE.RESET does with memory and with the STO outputs: an entry of a pair in TORQUE_OFF that it names may be new. -/
structure KeptButReset (w : Nat) (u s : State) : Prop where
  mem : Canonical u → Canonical s
  sto : ∀ e ∈ s.isl.pairs, ResetsPair w u e.1 ∨
    ((e.2.stoA = true → ∃ k, (e.1, k) ∈ u.isl.pairs ∧ k.stoA = true) ∧ (e.2.stoB = true → ∃ k, (e.1, k) ∈ u.isl.pairs ∧ k.stoB = true))

theorem KeptButReset.of_kept {w : Nat} (h : Kept u s) : KeptButReset w u s := ⟨h.mem, fun e he => .inr (h.sto e he)⟩

theorem mem_bitsOf {n x p : Nat} (h : p ∈ bitsOf n x) : bit x p = true := by
  simp only [bitsOf, List.mem_filter] at h
  exact h.2

theorem KeptButReset.andKept {w : Nat} {v t : State} (h : KeptButReset w u v) (k : Kept v t) : KeptButReset w u t := by
  refine ⟨fun c => k.mem (h.mem c), fun e he => ?_⟩
  obtain ⟨hA, hB⟩ := k.sto e he
  by_cases hr : ResetsPair w u e.1
  · exact .inl hr
  · refine .inr ⟨fun hs => ?_, fun hs => ?_⟩
    · obtain ⟨x, hx, hs⟩ := hA hs
      exact ((h.sto _ hx).resolve_left hr).1 hs
    · obtain ⟨x, hx, hs⟩ := hB hs
      exact ((h.sto _ hx).resolve_left hr).2 hs

/-- Only named pairs in TORQUE_OFF are enabled. -/
theorem safeResetNow_keeps (w passing : Nat) (s : State) : KeptButReset w s (safeResetNow w passing s).1 := by
  unfold safeResetNow
  split
  · exact .of_kept (.refl s)
  extract_lets v named groups go enabled
  have hpairs : v.isl.pairs = s.isl.pairs := by dsimp only [v]; split <;> rfl
  have cleared : Kept s v := ite_kept (State.modIsl_kept (.refl s) rfl) (.refl s)
  clear_value v
  split
  · exact .of_kept cleared
  split
  · exact .of_kept cleared
  have enables : KeptButReset w s enabled := by
    dsimp only [enabled]
    rw [pairs_foldl_modPairSto]
    refine ⟨cleared.mem, fun e he => ?_⟩
    rcases mem_foldl_upd _ _ he with he | he
    · exact .inr (cleared.sto e he)
    · obtain ⟨hnamed, hoff⟩ := List.mem_filter.1 he
      exact .inl ⟨mem_bitsOf hnamed, by simpa [pairOf, hpairs] using hoff⟩
  exact enables.andKept (axisRelease_kept (State.modIsl_kept (.refl _) rfl) _)

/-- The end of a SAFE.RESET. -/
theorem safeFinish_keeps (d : Deferred) (hd : d.op = .safeReset) (passing : Nat) (link : Dma) (s : State) :
    KeptButReset (d.packet.w 0) s (safeFinish d passing link s).1 := by
  have reset := safeResetNow_keeps (d.packet.w 0) passing s
  unfold safeFinish
  rw [hd]
  dsimp only
  split
  · exact reset
  · exact reset.andKept (State.recordOpen_kept (.refl _) _ _ _ _)
  · exact reset.andKept (State.reportOpen_kept (.refl _) _ _ _ _)

/-- The end of another command of the safety island. -/
theorem safeFinish_kept (h : Kept u s) (d : Deferred) (hd : d.op ≠ .safeReset) (passing : Nat) (link : Dma) :
    Kept u (safeFinish d passing link s).1 := by
  have base {t : State} (ht : Kept u t) (st : Nat) (ws : List Word) : Kept u (match link with
      | .ok => (t, st, ws)
      | .retried => (t.recordOpen 12 27 0 true, if st = stOk then stOkRetried else st, ws)
      | .failed => (t.reportOpen 12 28 1, stFault, [])).1 := by
    split
    · exact ht
    · exact State.recordOpen_kept ht _ _ _ _
    · exact State.reportOpen_kept ht _ _ _ _
  unfold safeFinish
  split
  next t st ws hr =>
    suffices ht : t = s by
      subst ht
      exact base h st ws
    split at hr
    · exact (hd ‹d.op = .safeReset›).elim
    all_goals exact (congrArg Prod.fst hr).symm

theorem finish_kept (h : Kept u s) (d : Deferred) (hd : d.op ≠ .safeReset) (dma : Dma) (passing : Nat)
    {r : State × Nat × List Word} (hr : finish d dma passing s = some r) : Kept u r.1 := by
  unfold finish at hr
  split at hr
  · cases hr
    exact verifyFinish_kept h d
  · cases hr
    exact fillFinish_kept h _
  · cases hr
    exact dmaFinish_kept h _ _
  case h_11 => exact nomatch hr
  all_goals
    cases hr
    exact safeFinish_kept h d hd passing dma

/-- COMMAND_COMPLETE of any command but SAFE.RESET. -/
theorem commandComplete_kept (h : Kept u s) (i : Nat) (dma : Dma) (passing : Nat)
    (hd : ∀ d, s.host.deferred[i]? = some d → d.op ≠ .safeReset) : Kept u (commandComplete i dma passing s) := by
  unfold commandComplete
  split
  · exact h
  next d hi =>
    split
    · exact h
    next hr => exact State.answer_kept (State.modHost_kept (finish_kept h d (hd d hi) dma passing hr) _) _ _ _ _

theorem commandComplete_keeps (s : State) (i : Nat) (dma : Dma) (passing : Nat) {d : Deferred}
    (hi : s.host.deferred[i]? = some d) (hd : d.op = .safeReset) :
    KeptButReset (d.packet.w 0) s (commandComplete i dma passing s) := by
  have hfin : finish d dma passing s = some (safeFinish d passing dma s) := by simp [finish, hd]
  unfold commandComplete
  rw [hi]
  dsimp only
  rw [hfin]
  exact (safeFinish_keeps d hd passing dma s).andKept (State.answer_kept (State.modHost_kept (.refl _) _) _ _ _ _)

end

end Sys2Proof.Machine
end

section
/-! One step. -/

namespace Sys2Proof.Machine

section

variable {u s : State}

/-- R584: CURSOR is written while the device runs. -/
theorem cursorMoved_kept (h : Kept u s) (q : Nat) : Kept u (if s.boot.phase = .running then s.setCursor q else s) :=
  ite_kept (State.setCursor_kept h q) h

/-- Every row but the completion of an accepted command keeps what `Kept` says. -/
theorem exec_stays (h : Kept u s) : ∀ i : Instr, (∀ k dma passing t, i ≠ .commandComplete k dma passing t) → Stays u (exec i s)
  | .devIdentify _, _ => command_stays h _ fun p _ hs => cmdDevIdentify_kept hs p
  | .devReset _, _ => command_stays h _ fun p _ hs => cmdDevReset_kept hs p
  | .devResume _, _ => command_stays h _ fun p _ hs => cmdDevResume_kept hs p
  | .devSetMode _, _ => command_stays h _ fun p _ hs => cmdDevSetMode_kept hs p
  | .devSafeAck _, _ => command_stays h _ fun p _ hs => cmdDevSafeAck_kept hs p
  | .devStatus _, _ => command_stays h _ fun p _ hs => cmdDevStatus_kept hs p
  | .devResumeConfig _, _ => command_stays h _ fun p _ hs => cmdDevResumeConfig_kept hs p
  | .devCycleConfig _, _ => command_stays h _ fun p _ hs => cmdDevCycleConfig_kept hs p
  | .devCycleStatus _, _ => command_stays h _ fun p _ hs => cmdDevCycleStatus_kept hs p
  | .devChangeover _, _ => command_stays h _ fun p _ hs => cmdDevChangeover_kept hs p
  | .memRead _, _ => command_stays h _ fun p _ hs => cmdMemRead_kept hs p
  | .memWrite _, _ => command_stays h _ fun p _ hs => cmdMemWrite_kept hs p
  | .memFill _, _ => command_stays h _ fun p _ hs => cmdMemFill_kept hs p
  | .memDma _, _ => command_stays h _ fun p _ hs => cmdMemDma_kept hs p
  | .memScrubConfig _, _ => command_stays h _ fun p _ hs => cmdMemScrubConfig_kept hs p
  | .memErrStatus _, _ => command_stays h _ fun p _ hs => cmdMemErrStatus_kept hs p
  | .memFaultQueue _, _ => command_stays h _ fun p _ hs => cmdMemFaultQueue_kept hs p
  | .pwrLatencySet _, _ => command_stays h _ fun p _ hs => cmdPwrLatencySet_kept hs p
  | .pwrState _, _ => command_stays h _ fun p _ hs => cmdPwrState_kept hs p
  | .pwrGrazeConfig _, _ => command_stays h _ fun p _ hs => cmdPwrGrazeConfig_kept hs p
  | .pwrMonitorConfig _, _ => command_stays h _ fun p _ hs => cmdPwrMonitorConfig_kept hs p
  | .pwrMonitorRead _, _ => command_stays h _ fun p _ hs => cmdPwrMonitorRead_kept hs p
  | .pwrDomainRetry _, _ => command_stays h _ fun p _ hs => cmdPwrDomainRetry_kept hs p
  | .graphLoad _, _ => command_stays h _ fun p _ hs => cmdGraphLoad_kept hs p
  | .graphVerify _, _ => command_stays h _ fun p _ hs => cmdGraphVerify_kept hs p
  | .graphArm _, _ => command_stays h _ fun p _ hs => cmdGraphArm_kept hs p
  | .graphDisarm _, _ => command_stays h _ fun p _ hs => cmdGraphDisarm_kept hs p
  | .graphControl _, _ => command_stays h _ fun p _ hs => cmdGraphControl_kept hs p
  | .graphStep _, _ => command_stays h _ fun p _ hs => cmdGraphStep_kept hs p
  | .graphForce _, _ => command_stays h _ fun p _ hs => cmdGraphForce_kept hs p
  | .graphVarRead _, _ => command_stays h _ fun p _ hs => cmdGraphVarRead_kept hs p
  | .graphVarWrite _, _ => command_stays h _ fun p _ hs => cmdGraphVarWrite_kept hs p
  | .graphRollback _, _ => command_stays h _ fun p _ hs => cmdGraphRollback_kept hs p
  | .graphStatus _, _ => command_stays h _ fun p _ hs => cmdGraphStatus_kept hs p
  | .schedConfig _, _ => command_stays h _ fun p _ hs => cmdSchedConfig_kept hs p
  | .schedCounters _, _ => command_stays h _ fun p _ hs => cmdSchedCounters_kept hs p
  | .schedClearCounters _, _ => command_stays h _ fun p _ hs => cmdSchedClearCounters_kept hs p
  | .schedStatus _, _ => command_stays h _ fun p _ hs => cmdSchedStatus_kept hs p
  | .loopChannelConfig _, _ => command_stays h _ fun p _ hs => cmdLoopChannelConfig_kept hs p
  | .loopCoefWrite _, _ => command_stays h _ fun p _ hs => cmdLoopCoefWrite_kept hs p
  | .loopBankArm _, _ => command_stays h _ fun p _ hs => cmdLoopBankArm_kept hs p
  | .loopBankSwap _, _ => command_stays h _ fun p _ hs => cmdLoopBankSwap_kept hs p
  | .loopMode _, _ => command_stays h _ fun p _ hs => cmdLoopMode_kept hs p
  | .loopStateRead _, _ => command_stays h _ fun p _ hs => cmdLoopStateRead_kept hs p
  | .loopRepConfig _, _ => command_stays h _ fun p _ hs => cmdLoopRepConfig_kept hs p
  | .loopRepControl _, _ => command_stays h _ fun p _ hs => cmdLoopRepControl_kept hs p
  | .loopLatency _, _ => command_stays h _ fun p _ hs => cmdLoopLatency_kept hs p
  | .axisConfig _, _ => command_stays h _ fun p _ hs => cmdAxisConfig_kept hs p
  | .axisTableWrite _, _ => command_stays h _ fun p _ hs => cmdAxisTableWrite_kept hs p
  | .axisStart _, _ => command_stays h _ fun p _ hs => cmdAxisStart_kept hs p
  | .axisStop _, _ => command_stays h _ fun p _ hs => cmdAxisStop_kept hs p
  | .axisStatus _, _ => command_stays h _ fun p _ hs => cmdAxisStatus_kept hs p
  | .axisSetPosition _, _ => command_stays h _ fun p _ hs => cmdAxisSetPosition_kept hs p
  | .axisStandstill _, _ => command_stays h _ fun p _ hs => cmdAxisStandstill_kept hs p
  | .adcConfig _, _ => command_stays h _ fun p _ hs => cmdAdcConfig_kept hs p
  | .adcTableWrite _, _ => command_stays h _ fun p _ hs => cmdAdcTableWrite_kept hs p
  | .adcGroupConfig _, _ => command_stays h _ fun p _ hs => cmdAdcGroupConfig_kept hs p
  | .adcUrgent _, _ => command_stays h _ fun p _ hs => cmdAdcUrgent_kept hs p
  | .adcCalibrate _, _ => command_stays h _ fun p _ hs => cmdAdcCalibrate_kept hs p
  | .adcCalRead _, _ => command_stays h _ fun p _ hs => cmdAdcCalRead_kept hs p
  | .adcCalWrite _, _ => command_stays h _ fun p _ hs => cmdAdcCalWrite_kept hs p
  | .adcStatus _, _ => command_stays h _ fun p _ hs => cmdAdcStatus_kept hs p
  | .acqSignalConfig _, _ => command_stays h _ fun p _ hs => cmdAcqSignalConfig_kept hs p
  | .acqStreamConfig _, _ => command_stays h _ fun p _ hs => cmdAcqStreamConfig_kept hs p
  | .acqWindowConfig _, _ => command_stays h _ fun p _ hs => cmdAcqWindowConfig_kept hs p
  | .acqTriggerConfig _, _ => command_stays h _ fun p _ hs => cmdAcqTriggerConfig_kept hs p
  | .acqHistConfig _, _ => command_stays h _ fun p _ hs => cmdAcqHistConfig_kept hs p
  | .acqPmapConfig _, _ => command_stays h _ fun p _ hs => cmdAcqPmapConfig_kept hs p
  | .acqControl _, _ => command_stays h _ fun p _ hs => cmdAcqControl_kept hs p
  | .acqStatus _, _ => command_stays h _ fun p _ hs => cmdAcqStatus_kept hs p
  | .acqIndexRead _, _ => command_stays h _ fun p _ hs => cmdAcqIndexRead_kept hs p
  | .ringConfig _, _ => command_stays h _ fun p _ hs => cmdRingConfig_kept hs p
  | .ringScheduleWrite _, _ => command_stays h _ fun p _ hs => cmdRingScheduleWrite_kept hs p
  | .ringModeArm _, _ => command_stays h _ fun p _ hs => cmdRingModeArm_kept hs p
  | .ringStart _, _ => command_stays h _ fun p _ hs => cmdRingStart_kept hs p
  | .ringStatus _, _ => command_stays h _ fun p _ hs => cmdRingStatus_kept hs p
  | .ringCounters _, _ => command_stays h _ fun p _ hs => cmdRingCounters_kept hs p
  | .ringSyncConfig _, _ => command_stays h _ fun p _ hs => cmdRingSyncConfig_kept hs p
  | .ringTopology _, _ => command_stays h _ fun p _ hs => cmdRingTopology_kept hs p
  | .canConfig _, _ => command_stays h _ fun p _ hs => cmdCanConfig_kept hs p
  | .canFilterConfig _, _ => command_stays h _ fun p _ hs => cmdCanFilterConfig_kept hs p
  | .canBufferConfig _, _ => command_stays h _ fun p _ hs => cmdCanBufferConfig_kept hs p
  | .canTransmit _, _ => command_stays h _ fun p _ hs => cmdCanTransmit_kept hs p
  | .canCancel _, _ => command_stays h _ fun p _ hs => cmdCanCancel_kept hs p
  | .canStatus _, _ => command_stays h _ fun p _ hs => cmdCanStatus_kept hs p
  | .canRecover _, _ => command_stays h _ fun p _ hs => cmdCanRecover_kept hs p
  | .canCounterConfig _, _ => command_stays h _ fun p _ hs => cmdCanCounterConfig_kept hs p
  | .timePortConfig _, _ => command_stays h _ fun p _ hs => cmdTimePortConfig_kept hs p
  | .timePtpConfig _, _ => command_stays h _ fun p _ hs => cmdTimePtpConfig_kept hs p
  | .timeDomainSelect _, _ => command_stays h _ fun p _ hs => cmdTimeDomainSelect_kept hs p
  | .timeRead _, _ => command_stays h _ fun p _ hs => cmdTimeRead_kept hs p
  | .timeTsQueueRead _, _ => command_stays h _ fun p _ hs => cmdTimeTsQueueRead_kept hs p
  | .timeUdpConfig _, _ => command_stays h _ fun p _ hs => cmdTimeUdpConfig_kept hs p
  | .timeStatus _, _ => command_stays h _ fun p _ hs => cmdTimeStatus_kept hs p
  | .safeParamLoad _, _ => command_stays h _ fun p _ hs => cmdSafeParamLoad_kept hs p
  | .safeSwitchRead _, _ => command_stays h _ fun p _ hs => cmdSafeSwitchRead_kept hs p
  | .safeStatus _, _ => command_stays h _ fun p _ hs => cmdSafeStatus_kept hs p
  | .safeStop _, _ => command_stays h _ fun p _ hs => cmdSafeStop_kept hs p
  | .safeReset _, _ => command_stays h _ fun p _ hs => cmdSafeReset_kept hs p
  | .safeDiagRead _, _ => command_stays h _ fun p _ hs => cmdSafeDiagRead_kept hs p
  | .safeMemRead _, _ => command_stays h _ fun p _ hs => cmdSafeMemRead_kept hs p
  | .pairConfig _, _ => command_stays h _ fun p _ hs => cmdPairConfig_kept hs p
  | .pairStatus _, _ => command_stays h _ fun p _ hs => cmdPairStatus_kept hs p
  | .pairHandover _, _ => command_stays h _ fun p _ hs => cmdPairHandover_kept hs p
  | .pairCheckpointConfig _, _ => command_stays h _ fun p _ hs => cmdPairCheckpointConfig_kept hs p
  | .pairStandbyCheck _, _ => command_stays h _ fun p _ hs => cmdPairStandbyCheck_kept hs p
  | .tallyConfig _, _ => command_stays h _ fun p _ hs => cmdTallyConfig_kept hs p
  | .tallyCursor _, _ => command_stays h _ fun p _ hs => cmdTallyCursor_kept hs p
  | .tallyRead _, _ => command_stays h _ fun p _ hs => cmdTallyRead_kept hs p
  | .tallyClear _, _ => command_stays h _ fun p _ hs => cmdTallyClear_kept hs p
  | .tallyStatus _, _ => command_stays h _ fun p _ hs => cmdTallyStatus_kept hs p
  | .dioInputConfig _, _ => command_stays h _ fun p _ hs => cmdDioInputConfig_kept hs p
  | .dioOutputConfig _, _ => command_stays h _ fun p _ hs => cmdDioOutputConfig_kept hs p
  | .dioPwmConfig _, _ => command_stays h _ fun p _ hs => cmdDioPwmConfig_kept hs p
  | .dioEncConfig _, _ => command_stays h _ fun p _ hs => cmdDioEncConfig_kept hs p
  | .dioRead _, _ => command_stays h _ fun p _ hs => cmdDioRead_kept hs p
  | .dioWrite _, _ => command_stays h _ fun p _ hs => cmdDioWrite_kept hs p
  | .dioStatus _, _ => command_stays h _ fun p _ hs => cmdDioStatus_kept hs p
  | .hostRingCreate _, _ => command_stays h _ fun p _ hs => cmdHostRingCreate_kept hs p
  | .hostRingDestroy _, _ => command_stays h _ fun p _ hs => cmdHostRingDestroy_kept hs p
  | .hostEventRoute _, _ => command_stays h _ fun p _ hs => cmdHostEventRoute_kept hs p
  | .prodDoorbell _ _ _, _ => event_stays h fun _ hs => prodDoorbell_kept hs _ _
  | .consDoorbell _ _ _, _ => event_stays h fun _ hs => consDoorbell_kept hs _ _
  | .enable _ _ _, _ => event_stays h fun _ hs => enableRing_kept hs _ _
  | .ringReset _ _, _ => event_stays h fun _ hs => ringReset_kept hs _
  | .hostErrClear _ _, _ => event_stays h fun _ hs => hostErrClear_kept hs _
  | .droppedRepliesRead _, _ => event_stays h fun _ hs => droppedRepliesRead_kept hs
  | .hpPendingClear _ _ _, _ => event_stays h fun _ hs => hpPendingClear_kept hs _ _
  | .bufferLock _ _ _, _ => event_stays h fun _ hs => bufferLock_kept hs _ _
  | .bufferRelease _ _ _, _ => event_stays h fun _ hs => bufferRelease_kept hs _ _
  | .resultRead _ _ _, _ => event_stays h fun _ hs => resultRead_kept hs _ _
  | .cursorWrite v _, _ => event_stays (f := fun s => if s.boot.phase = .running then s.setCursor (v % 2 ^ 32) else s) h
      fun _ hs => cursorMoved_kept hs _
  | .windowRead _, _ => event_stays h fun _ hs => windowRead_kept hs
  | .bitSetWrite _ _ _ _, _ => event_stays h fun _ hs => bitSetWrite_kept hs _ _ _
  | .bitClearWrite _ _ _ _, _ => event_stays h fun _ hs => bitClearWrite_kept hs _ _ _
  | .registerWrite _ _ _, _ => event_stays h fun _ hs => registerWrite_kept hs _ _
  | .memoryAccess _ _, _ => event_stays h fun _ hs => memoryAccess_kept hs _
  | .configurationRequest _ _, _ => event_stays h fun _ hs => configurationRequest_kept hs _
  | .qspiTransaction _ _ _ _ _, _ => event_stays h fun _ hs => qspiTransaction_kept hs _ _ _ _
  | .udpDatagram _ _ _ _ _ _ _, _ => event_stays h fun _ hs => udpDatagram_kept hs _ _ _ _ _ _
  | .arpRequest _ _ _, _ => event_stays h fun _ hs => arpRequest_kept hs _ _
  | .hostInterfaceReset _, _ => event_stays h fun _ hs => hostInterfaceReset_kept hs
  | .packetTake _ _ _ _ _, _ => event_stays h fun _ hs => packetTake_kept hs _ _ _ _
  | .replyWrite _ _ _, _ => event_stays h fun _ hs => replyWrite_kept hs _ _
  | .holdoffExpiry _ _, _ => event_stays h fun _ hs => holdoffExpiry_kept hs _
  | .timedCommand _, _ => event_stays h fun _ hs => timedCommand_kept hs
  | .forward _, _ => event_stays h fun _ hs => forward_kept hs
  | .commandResend _, _ => event_stays h fun _ hs => commandResend_kept hs
  | .stTimeout _, _ => event_stays h fun _ hs => stTimeoutEvent_kept hs
  | .coldPowerUp _, _ => event_stays h fun _ hs => coldPowerUp_kept hs
  | .t1 _, _ => event_stays h fun _ hs => atT1_kept hs
  | .pllLock _, _ => event_stays h fun _ hs => pllLock_kept hs
  | .fuseRead _ _ _ _, _ => event_stays h fun _ hs => fuseRead_kept hs _ _ _
  | .memoryClearing _, _ => event_stays h fun _ hs => memoryClearing_kept hs
  | .configureReached _, _ => event_stays h fun _ hs => configureReached_kept hs
  | .pciePerstRelease _, _ => event_stays h fun _ hs => pciePerstRelease_kept hs
  | .resetNAssert _, _ => event_stays h fun _ hs => resetNAssert_kept hs
  | .resetNRelease _, _ => event_stays h fun _ hs => resetNRelease_kept hs
  | .watchdogExpiry _, _ => event_stays h fun _ hs => watchdogExpiry_kept hs
  | .warmResetStart _, _ => event_stays h fun _ hs => warmResetStart_kept hs
  | .logicRelease _, _ => event_stays h fun _ hs => logicRelease_kept hs
  | .configurationReplay _ _ _, _ => event_stays h fun _ hs => configurationReplay_kept hs _ _
  | .resumeWindowClose _, _ => event_stays h fun _ hs => resumeWindowClose_kept hs
  | .resume _, _ => event_stays h fun _ hs => resume_kept hs
  | .supplyLoss _ _, _ => event_stays h fun _ hs => supplyLoss_kept hs _
  | .islandStart _, _ => event_stays h fun _ hs => islandStart_kept hs
  | .selfTestDone _ _ _, _ => event_stays h fun _ hs => selfTestDone_kept hs _ _
  | .cycleStart _, _ => event_stays h fun _ hs => cycleStart_kept hs
  | .inputInstant _, _ => event_stays h fun _ hs => inputInstant_kept hs
  | .inputReady _, _ => event_stays h fun _ hs => inputReady_kept hs
  | .commitPoint _, _ => event_stays h fun _ hs => commitPoint_kept hs
  | .outputInstant _, _ => event_stays h fun _ hs => outputInstant_kept hs
  | .safeEntry _, _ => event_stays h fun _ hs => safeEntry_kept hs
  | .changeoverMessage _ _ _, _ => event_stays h fun _ hs => changeoverMessage_kept hs _ _
  | .changeoverReport _, _ => event_stays h fun _ hs => changeoverReport_kept hs
  | .changeoverDecide _, _ => event_stays h fun _ hs => changeoverDecide_kept hs
  | .coUnresolved _, _ => event_stays h fun _ hs => coUnresolved_kept hs
  | .operationComplete _ _, _ => event_stays h fun _ hs => operationComplete_kept hs _
  | .operationStart _ _ _, _ => event_stays h fun _ hs => operationStart_kept hs _ _
  | .take _ _, _ => event_stays h fun _ hs => take_kept hs _
  | .tokenSpill _ _, _ => event_stays h fun _ hs => tokenSpill_kept hs _
  | .delayRelease _ _, _ => event_stays h fun _ hs => delayRelease_kept hs _
  | .shed _ _, _ => event_stays h fun _ hs => shed_kept hs _
  | .urgentComplete _ _, _ => event_stays h fun _ hs => urgentComplete_kept hs _
  | .sampleTick _ _, _ => event_stays h fun _ hs => sampleTick_kept hs _
  | .evaluation _ _, _ => event_stays h fun _ hs => evaluation_kept hs _
  | .resampling _ _, _ => event_stays h fun _ hs => resampling_kept hs _
  | .tick _, _ => event_stays h fun _ hs => tick_kept hs
  | .stepPulse _ _, _ => event_stays h fun _ hs => stepPulse_kept hs _
  | .dirChange _ _, _ => event_stays h fun _ hs => dirChange_kept hs _
  | .standstill _ _, _ => event_stays h fun _ hs => standstill_kept hs _
  | .ss1Request _ _, _ => event_stays h fun _ hs => ss1Request_kept hs _
  | .latchEvent _ _, _ => event_stays h fun _ hs => latchEvent_kept hs _
  | .conversionComplete _ _ _ _ _, _ => event_stays h fun _ hs => conversionComplete_kept hs _ _ _ _
  | .groupTrigger _ _, _ => event_stays h fun _ hs => groupTrigger_kept hs _
  | .calibrationDone _ _, _ => event_stays h fun _ hs => calibrationDone_kept hs _
  | .inputEdge _ _ _, _ => event_stays h fun _ hs => inputEdge_kept hs _ _
  | .stuck _ _, _ => event_stays h fun _ hs => stuck_kept hs _
  | .readback _ _ _, _ => event_stays h fun _ hs => readback_kept hs _ _
  | .doutFault _ _ _, _ => event_stays h fun _ hs => doutFault_kept hs _ _
  | .pwmPeriodStart _ _, _ => event_stays h fun _ hs => pwmPeriodStart_kept hs _
  | .encoderCount _ _ _ _, _ => event_stays h fun _ hs => encoderCountEdge_kept (ite_kept (islandEncoder_kept hs _ _ _) hs) _ _ _
  | .publication _, _ => event_stays h fun _ hs => publication_kept hs
  | .intervalClose _ _ _, _ => event_stays h fun _ hs => intervalClose_kept hs _ _
  | .recordCopy _ _ _, _ => event_stays h fun _ hs => recordCopy_kept hs _ _
  | .timeSet _, _ => event_stays h fun _ hs => timeSet_kept hs
  | .decay _ _, _ => event_stays h fun _ hs => decay_kept hs _
  | .syncFrame _ _, _ => event_stays h fun _ hs => syncFrame_kept hs _
  | .dataFrame _ _, _ => event_stays h fun _ hs => dataFrame_kept hs _
  | .cmdFrame _ _, _ => event_stays h fun _ hs => cmdFrame_kept hs _
  | .modeFrame _ _, _ => event_stays h fun _ hs => modeFrame_kept hs _
  | .joinFrame _ _, _ => event_stays h fun _ hs => joinFrame_kept hs _
  | .slotStart _ _ _, _ => event_stays h fun _ hs => slotStart_kept hs _ _
  | .beacon _ _, _ => event_stays h fun _ hs => beacon_kept hs _
  | .delayReq _, _ => event_stays h fun _ hs => delayReq_kept hs
  | .linkDown (.ring _ _) _, _ => event_stays h fun _ hs => linkDown_kept hs _ _
  | .linkDown .pair _, _ => event_stays h fun _ hs => laneDown_kept hs
  | .linkUp (.ring _ _) _, _ => event_stays h fun _ hs => linkUp_kept hs _ _
  | .linkUp .pair _, _ => event_stays h fun _ hs => laneIsUp_kept hs
  | .syncStep _, _ => event_stays h fun _ hs => syncStep_kept hs
  | .listenTimeout _ _, _ => event_stays h fun _ hs => listenTimeout_kept hs _
  | .backoffEnd _ _, _ => event_stays h fun _ hs => backoffEnd_kept hs _
  | .bypassInsert _, _ => event_stays h fun _ hs => bypassInsert_kept hs
  | .timeMap _, _ => event_stays h fun _ hs => timeMap_kept hs
  | .canRxFrame _ _ _ _, _ => event_stays h fun _ hs => canRxFrame_kept hs _ _ _
  | .canTxComplete _ _ _ _ _, _ => event_stays h fun _ hs => canTxComplete_kept hs _ _ _ _
  | .canError _ _ _, _ => event_stays h fun _ hs => canError_kept hs _ _
  | .txTime _ _ _, _ => event_stays h fun _ hs => txTime_kept hs _ _
  | .recovering _ _, _ => event_stays h fun _ hs => recovering_kept hs _
  | .lockTimeouts _ _ _, _ => event_stays h fun _ hs => lockTimeout_kept hs _ _
  | .ptpMessage _ _ _ _, _ => event_stays h fun _ hs => ptpMessage_kept hs _ _ _
  | .syncMessage _ _ _ _, _ => event_stays h fun _ hs => syncMessage_kept hs _ _ _
  | .followUp _ _ _, _ => event_stays h fun _ hs => followUp_kept hs _ _
  | .holdover _ _, _ => event_stays h fun _ hs => holdover_kept hs _
  | .portLinkChange _ _ _, _ => event_stays h fun _ hs => portLinkChange_kept hs _ _
  | .demand _ _, _ => event_stays h fun _ hs => demand_kept hs _
  | .testPulse _ _ _, _ => event_stays h fun _ hs => testPulse_kept hs _ _
  | .discrepancy _ _, _ => event_stays h fun _ hs => discrepancy_kept hs _
  | .ss1Check _ _, _ => event_stays h fun _ hs => ss1Check_kept hs _
  | .tSs1Max _ _, _ => event_stays h fun _ hs => tSs1Max_kept hs _
  | .tHw _ _, _ => event_stays h fun _ hs => tHw_kept hs _
  | .switchWordRead _ _ _, _ => event_stays h fun _ hs => switchWordRead_kept hs _ _
  | .heartbeatLost _ _, _ => event_stays h fun _ hs => heartbeatLost_kept hs _
  | .stoReadback _ _ _, _ => event_stays h fun _ hs => stoReadback_kept hs _
  | .frequencyMonitor _, _ => event_stays h fun _ hs => frequencyMonitor_kept hs
  | .outputTestPulse _ _ _ _, _ => event_stays h fun _ hs => outputTestPulse_kept hs _ _ _
  | .sbcDelay _ _, _ => event_stays h fun _ hs => sbcDelay_kept hs _
  | .deltaComplete _ _, _ => event_stays h fun _ hs => deltaComplete_kept hs _
  | .renew _ _, _ => event_stays h fun _ hs => renew_kept hs _
  | .ack _ _ _ _, _ => event_stays h fun _ hs => ack_kept hs _ _ _
  | .leaseExpiry _, _ => event_stays h fun _ hs => leaseExpiry_kept hs
  | .crookTake _, _ => event_stays h fun _ hs => crookTake_kept hs
  | .release _ _ _, _ => event_stays h fun _ hs => release_kept hs _ _
  | .crookInHigh _ _, _ => event_stays h fun _ hs => crookInHigh_kept hs _
  | .election _ _, _ => event_stays h fun _ hs => election_kept hs _
  | .deltaReceive _ _, _ => event_stays h fun _ hs => deltaReceive_kept hs _
  | .fullCopyDone _ _, _ => event_stays h fun _ hs => fullCopyDone_kept hs _
  | .mirroredCommand _ _, _ => event_stays h fun _ hs => mirroredCommand_kept hs _
  | .giveUp _, _ => event_stays h fun _ hs => giveUp_kept hs
  | .scrub _ _ _ _, _ => event_stays h fun _ hs => scrub_kept hs _ _ _
  | .faultReport _ _ _ _ _ _, _ => event_stays h fun _ hs => State.reportFault_kept hs _ _ _ _ _
  | .faultHandled _, _ => event_stays h fun _ hs => faultHandled_kept hs
  | .recordWrite _, _ => event_stays h fun _ hs => recordWrite_kept hs
  | .restarted _, _ => event_stays h fun _ hs => restarted_kept hs
  | .transitionDone _ _, _ => event_stays h fun _ hs => settleGraze_kept (transitionDone_kept hs _)
  | .wakeTimeout _ _, _ => event_stays h fun _ hs => settleGraze_kept (finishWake_kept (wakeTimeout_kept hs _))
  | .grazeEntry _, _ => event_stays h fun _ hs => settleGraze_kept (grazeEntry_kept hs)
  | .grazeSample _ _ _, _ => event_stays h fun _ hs => settleGraze_kept (grazeSample_kept hs _ _)
  | .maxS _, _ => event_stays h fun _ hs => settleGraze_kept (maxS_kept hs)
  | .canWake _ _, _ => event_stays h fun _ hs => settleGraze_kept (canWake_kept hs _)
  | .monitorSample _ _, _ => event_stays h fun _ hs => monitorSample_kept hs _
  | .hardWiredRecognition _ _, _ => event_stays h fun _ hs => hardWiredRecognition_kept hs _
  | .channelEnergised _ _, _ => event_stays h fun _ hs => channelEnergised_kept hs _
  | .islandInternalCheck _ _, _ => event_stays h fun _ hs => islandInternalCheck_kept hs _
  | .canIntegration _ _, _ => event_stays h fun _ hs => canIntegration_kept hs _
  | .canWakeRecessive _ _, _ => event_stays h fun _ hs => canWakeRecessive_kept hs _
  | .ptpDelayRequest _ _, _ => event_stays h fun _ hs => ptpDelayRequest_kept hs _
  | .announceReceiptTimeout _ _, _ => event_stays h fun _ hs => announceReceiptTimeout_kept hs _
  | .commandComplete _ _ _ _, hi => (hi _ _ _ _ rfl).elim
  | .scheduleWriteTimeout _, _ => event_stays h fun _ hs => scheduleWriteTimeout_kept hs
  | .supplyRestored _ _, _ => event_stays h fun _ hs => supplyRestored_kept hs _

theorem exec_commandComplete (k : Nat) (dma : Dma) (passing t : Nat) (s : State) :
    exec (.commandComplete k dma passing t) s = .next (commandComplete k dma passing (s.at t)) := rfl

/-- Every step ends in a state that keeps what `Kept` says, or completes a SAFE.RESET. -/
theorem step_keeps {t : State} (ht : step s = .next t) : Kept s t ∨
    ∃ k dma passing i rest d, s.pending = .commandComplete k dma passing i :: rest ∧ s.host.deferred[k]? = some d ∧
      d.op = .safeReset ∧ KeptButReset (d.packet.w 0) s t := by
  unfold step at ht
  split at ht
  · cases ht
    exact .inl (.refl s)
  next i rest hpending =>
    have taken : Kept s { s with pending := rest } := (Kept.refl s).of_eq rfl rfl
    by_cases hi : ∃ k dma passing t, i = .commandComplete k dma passing t
    · obtain ⟨k, dma, passing, n, rfl⟩ := hi
      rw [exec_commandComplete] at ht
      cases ht
      by_cases hd : ∃ d, s.host.deferred[k]? = some d ∧ d.op = .safeReset
      · obtain ⟨d, hk, hop⟩ := hd
        refine .inr ⟨k, dma, passing, n, rest, d, hpending, hk, hop, ?_⟩
        obtain ⟨hmem, hsto⟩ := commandComplete_keeps (State.at { s with pending := rest } n) k dma passing hk hop
        exact ⟨hmem, hsto⟩
      · refine .inl (commandComplete_kept (State.at_kept taken n) k dma passing fun d hk hop => hd ⟨d, hk, hop⟩)
    · exact .inl (exec_stays taken i (fun k dma passing t h => hi ⟨k, dma, passing, t, h⟩) _ ht)

end

/-- Settles O58: every step keeps memory canonical, the completion of a SAFE.RESET too, since no row writes memory but by operations
that keep its form. -/
theorem canonicalKept : Obligations.CanonicalKept := by
  intro s t hs ht
  rcases step_keeps ht with h | ⟨_, _, _, _, _, _, _, _, _, h⟩
  · exact h.mem hs
  · exact h.mem hs

end Sys2Proof.Machine
end

section
/-! Torque (14 R484, R494, R515). -/

namespace Sys2Proof.Machine

section

variable {u s : State}

/-- In a table of canonical form, an entry is what its index reads as. -/
theorem look_of_mem {α : Type} [DecidableEq α] {d : α} {k : Nat} {v : α} : ∀ {t : Tab α}, Tab.wf d t = true → (k, v) ∈ t → look d t k = v
  | (j, w) :: r, hw, hm => by
    obtain ⟨hj, hne, hr⟩ := wf_cons.1 hw
    rcases List.mem_cons.1 hm with hm | hm
    · cases hm
      simp [look]
    · have ih := look_of_mem hr hm
      by_cases hk : j = k
      · subst hk
        have absent : look d r j = d := look_of_above hr hj
        obtain rfl : v = d := ih.symm.trans absent
        exact absurd rfl (ne_of_mem hr hm)
      · simpa [look, hk] using ih
where
  ne_of_mem {α : Type} [DecidableEq α] {d : α} {k : Nat} {v : α} : ∀ {t : Tab α}, Tab.wf d t = true → (k, v) ∈ t → v ≠ d
    | (j, w) :: r, hw, hm => by
      obtain ⟨_, hne, hr⟩ := wf_cons.1 hw
      rcases List.mem_cons.1 hm with hm | hm
      · cases hm
        exact hne
      · exact ne_of_mem hr hm

/-- An output that was low and is high now has a new entry. -/
theorem raised_of_wf {out : StoPair → Bool} (hout : out {} = false) {p : Nat} {t : State} (hwf : Tab.wf {} s.isl.pairs = true)
    (hlow : out (pairOf s p) = false) (hhigh : out (pairOf t p) = true) :
    ∃ e ∈ t.isl.pairs, e.1 = p ∧ out e.2 = true ∧ ¬ ∃ k, (e.1, k) ∈ s.isl.pairs ∧ out k = true := by
  refine ⟨(p, pairOf t p), mem_of_look_ne fun h => ?_, rfl, hhigh, ?_⟩
  · rw [show pairOf t p = {} from h, hout] at hhigh
    exact nomatch hhigh
  · rintro ⟨k, hk, hs⟩
    rw [show pairOf s p = k from look_of_mem hwf hk, hs] at hlow
    exact nomatch hlow

theorem bit_eq_testBit (w i : Nat) : bit w i = w.testBit i := by
  rw [Nat.testBit_eq_decide_div_mod_eq, bit]
  rfl

theorem bit_of_bit_field {w n p : Nat} (h : bit (field w 0 n) p = true) : bit w p = true := by
  rw [bit_eq_testBit, field, Nat.testBit_mod_two_pow] at h
  simpa [bit_eq_testBit] using (Bool.and_eq_true_iff.1 h).2

end

/-- Settles O59: an output that goes high has a new entry among the pairs, which only the completion of a SAFE.RESET makes, for the
pairs in TORQUE_OFF that it names. -/
theorem torqueReturnsOnlyBySafeReset : Obligations.TorqueReturnsOnlyBySafeReset := by
  intro s t p _ hwf ht hraised
  have raised : ∃ e ∈ t.isl.pairs, e.1 = p ∧
      ¬ ((e.2.stoA = true → ∃ k, (e.1, k) ∈ s.isl.pairs ∧ k.stoA = true) ∧
        (e.2.stoB = true → ∃ k, (e.1, k) ∈ s.isl.pairs ∧ k.stoB = true)) := by
    rcases hraised with ⟨hlow, hhigh⟩ | ⟨hlow, hhigh⟩
    · obtain ⟨e, he, hp, hs, hnew⟩ := raised_of_wf (out := StoPair.stoA) rfl hwf hlow hhigh
      exact ⟨e, he, hp, fun h => hnew (h.1 hs)⟩
    · obtain ⟨e, he, hp, hs, hnew⟩ := raised_of_wf (out := StoPair.stoB) rfl hwf hlow hhigh
      exact ⟨e, he, hp, fun h => hnew (h.2 hs)⟩
  obtain ⟨e, he, rfl, hnew⟩ := raised
  rcases step_keeps ht with h | ⟨k, dma, passing, i, rest, d, hpending, hk, hop, h⟩
  · exact absurd (h.sto e he) hnew
  · obtain ⟨hnamed, hoff⟩ := (h.sto e he).resolve_right hnew
    exact ⟨k, dma, passing, i, rest, d, hpending, hk, hop, bit_of_bit_field hnamed, hoff⟩

end Sys2Proof.Machine
end
section
/-! The queue, the rows of packets and the reset state (02 R69; 03 R87–R92). -/

namespace Sys2Proof.Machine

/-- Settles O1: taking the command at the front is what a step is. -/
theorem stepRunsFront : Obligations.StepRunsFront := by
  intro i r s h
  rw [step, h]

/-- Settles O2: nothing is taken from an empty queue; a device without its service cores serves no command. -/
theorem nothingToTake : Obligations.NothingToTake := by
  refine ⟨fun s h => by rw [step, h], fun op p s h => ?_⟩
  have serves : servesCommands s = false := by
    rcases h with h | h
    · simp [servesCommands, h]
    · simp [servesCommands, h]
  simp [command, serves]

/-- Settles O3: the row of each packet is the wrapper around the command's body by definition. -/
theorem packetRowsRunTheirCommand : Obligations.PacketRowsRunTheirCommand := by
  intro p s
  repeat' apply And.intro
  all_goals rfl

/-- Settles O57: no byte is listed at reset. -/
theorem canonicalAtReset : Obligations.CanonicalAtReset := rfl

/-- R66: rings 0 and 1 alone are there at reset. -/
theorem ringOf_reset_of_two_le {n : Nat} (hn : 2 ≤ n) : (ringOf State.reset n).state = .absent := by
  have zero : 0 ≠ n := by omega
  have one : 1 ≠ n := by omega
  simp [ringOf, look, State.reset, HostUnit.afterReset, zero, one]

/-- Settles O56: each field of the reset state reads as the rules give it. -/
theorem resetValues : Obligations.ResetValues := by
  refine ⟨by decide, rfl, by decide, by decide, by decide, fun n hn => ringOf_reset_of_two_le hn, fun _ => rfl, by decide, rfl,
    ?loops, fun _ => rfl, rfl, rfl, rfl, rfl, rfl, rfl, rfl, rfl, rfl, rfl, fun _ => ⟨rfl, rfl⟩, rfl⟩
  case loops =>
    intro c
    have zeros : readWord State.reset (loopAddr c) = 0 := rfl
    simp [loopEnabled, cfgW, zeros, bit]

end Sys2Proof.Machine
end
section
/-! Turning away and the resume window (03 R100, R102; 15 R525; 18 R603). -/

namespace Sys2Proof.Machine

section Turning

variable {op : Op} {p : Packet} {s : State} {body : Packet → State → State × Verdict}

/-- A command without AT_CYCLE that passes the screening is executed. -/
theorem command_of_screened (hserve : servesCommands s = true) (hscreen : screen op p s = none) (hat : p.atCycle = none) :
    command op body p s = .next (execute op body p s) := by
  simp [command, runCommand, hserve, hscreen, hat]

/-- R69: of a unit that is there, a command without AT_CYCLE passes the screening. -/
theorem screen_of_present (hthere : s.present (op.code / 256) = true) (hat : p.atCycle = none) : screen op p s = none := by
  simp [screen, hthere, hat]

/-- R525: what a standby half turns away. -/
theorem execute_of_pairLocked (hwindow : s.boot.windowOpened = none) (hlock : pairLocked s op p = true) :
    execute op body p s = s.answer op p stLocked [] := by
  have stands : windowFor op s = s := by simp [windowFor, hwindow]
  simp [execute, stands, hlock]

/-- R603: what a unit of a FAILED domain turns away. -/
theorem execute_of_unitFailed (hwindow : s.boot.windowOpened = none) (hlock : pairLocked s op p = false) (hfail : unitFailed s op = true) :
    execute op body p s = s.answer op p stFault [] := by
  have stands : windowFor op s = s := by simp [windowFor, hwindow]
  simp [execute, stands, hlock, hfail]

end Turning

/-- Settles O5: the lock of the pair stands before the check of the domain; R525's list is what `standbyExecutes` says. -/
theorem pairAndDomainsTurnAway : Obligations.PairAndDomainsTurnAway := by
  refine ⟨fun op p s n hserve hthere hat hwindow horigin hrole => ⟨fun hstandby => ?locked, ?list⟩,
    fun op p s hserve hscreen hat hwindow hlock hfailed => ?failed⟩
  case locked =>
    have hlock : pairLocked s op p = true := by
      rcases hrole with hrole | hrole
      · simp [pairLocked, hrole, hstandby, horigin]
      · simp [pairLocked, hrole, hstandby, horigin]
    rw [command_of_screened hserve (screen_of_present hthere hat) hat, execute_of_pairLocked hwindow hlock]
  case list => cases op <;> decide
  case failed =>
    have hunit : unitFailed s op = true := hfailed
    rw [command_of_screened hserve hscreen hat, execute_of_unitFailed hwindow hlock hunit]

/-- A vector goes out over the host interface (02 R65): nothing but the interface's pending vectors and what has left the device changes. -/
theorem State.sendVector_eq (s : State) (v : Nat) : ∃ q o, s.sendVector v = { s with host := { s.host with pending := q }, outbox := o } := by
  unfold State.sendVector
  extract_lets e
  by_cases udp : s.boot.hostSel ≠ 0
  · exact ⟨_, _, if_pos udp⟩
  · rw [if_neg udp]
    by_cases masked : e.masked = true
    · rw [if_pos masked]
      by_cases waits : v ∈ s.host.pending
      · exact ⟨_, _, if_pos waits⟩
      · exact ⟨_, _, if_neg waits⟩
    · exact ⟨_, _, if_neg masked⟩

/-- R106: DEV_STATE and vector 0 are what a change of mode touches. -/
theorem State.setMode_eq (s : State) (m : Mode) :
    ∃ q o, s.setMode m = { s with dev := { s.dev with mode := m }, host := { s.host with pending := q }, outbox := o } := by
  unfold State.setMode
  split
  next same => exact ⟨_, _, by rw [← same]⟩
  next =>
    obtain ⟨q, o, sent⟩ := (s.modDev fun d => { d with mode := m }).sendVector_eq 0
    exact ⟨q, o, sent⟩

/-- R102: what the end of the resume window leaves of a device: the units stand in their reset configuration. -/
structure WindowEnded (s t : State) : Prop where
  boot : t.boot = { s.boot with windowOpened := none, holdingOutputs := false }
  loop : t.loop = {}
  acq : t.acq = {}
  graph : t.graph = s.graph.cleared
  adc : t.adc = s.adc.cleared
  dio : t.dio = s.dio.cleared s.now
  image : t.keep.image = none
  pwr : t.pwr = s.pwr.cleared
  drove : t.drove.cfg = s.drove.cfg
  rings : t.host.rings = s.host.rings

/-- What the units forget when the window ends (R100); the settings of the ring and the interface stay. -/
theorem State.unitsCleared_windowEnded (s : State) :
    WindowEnded s ((s.modBoot fun b => { b with windowOpened := none, holdingOutputs := false }).unitsCleared) := by
  unfold State.unitsCleared
  extract_lets
  split
  · constructor <;> rfl
  next =>
    obtain ⟨q, o, readied⟩ := State.setMode_eq (State.modPair _ fun p => p.syncing (State.now _)) .ready
    rw [readied]
    constructor <;> rfl

/-- The answer to a DEV.RESUME that waited leaves the units as they are. -/
theorem closeWindow_windowEnded {s : State} (hopen : s.boot.windowOpened ≠ none) : WindowEnded s (closeWindow s) := by
  have shut : s.boot.windowOpened.isNone = false := Option.isNone_eq_false_iff.mpr (Option.isSome_iff_ne_none.mpr hopen)
  obtain ⟨hboot, hloop, hacq, hgraph, hadc, hdio, himage, hpwr, hdrove, hrings⟩ := s.unitsCleared_windowEnded
  simp only [closeWindow, shut, Bool.false_eq_true, if_false]
  constructor
  case boot => exact (State.settle_replied _ _ _).boot.trans hboot
  case loop => exact (State.settle_replied _ _ _).loop.trans hloop
  case acq => exact (State.settle_replied _ _ _).acq.trans hacq
  case graph => exact (State.settle_replied _ _ _).graph.trans hgraph
  case adc => exact (State.settle_replied _ _ _).adc.trans hadc
  case dio => exact (State.settle_replied _ _ _).dio.trans hdio
  case image => exact (congrArg KeepUnit.image (State.settle_replied _ _ _).keep).trans himage
  case pwr => exact (State.settle_replied _ _ _).pwr.trans hpwr
  case drove => exact (State.settle_replied _ _ _).droveCfg.trans hdrove
  case rings => exact (State.settle_rings _ _ _).trans hrings

/-- R102: the record of the resume that is refused comes before the window closes. -/
theorem endWindow_of_requested {s : State} (hopen : s.boot.windowOpened ≠ none) (hreq : resumeRequested s = true) :
    endWindow s = closeWindow (s.recordOpen 0 43 1) := by
  simp [endWindow, hreq, Option.isSome_iff_ne_none.mpr hopen]

theorem endWindow_of_not_requested {s : State} (hreq : resumeRequested s = false) : endWindow s = closeWindow s := by
  simp [endWindow, hreq]

/-- A record leaves the start of the device as it is. -/
@[simp] theorem State.recordOpen_boot (s : State) (unit ev sev : Nat) (transient : Bool) :
    (s.recordOpen unit ev sev transient).boot = s.boot := by
  obtain ⟨_, _, recorded⟩ := s.recordOpen_eq unit ev sev transient
  rw [recorded]

/-- A record leaves the power of the device as it is. -/
@[simp] theorem State.recordOpen_pwr (s : State) (unit ev sev : Nat) (transient : Bool) :
    (s.recordOpen unit ev sev transient).pwr = s.pwr := by
  obtain ⟨_, _, recorded⟩ := s.recordOpen_eq unit ev sev transient
  rw [recorded]

/-- R102: with a resume asked for or not, the window is closed and the power unit in its reset configuration. -/
theorem endWindow_boot_pwr {s : State} (hopen : s.boot.windowOpened ≠ none) :
    (endWindow s).boot = { s.boot with windowOpened := none, holdingOutputs := false } ∧ (endWindow s).pwr = s.pwr.cleared := by
  cases hreq : resumeRequested s with
  | false =>
    rw [endWindow_of_not_requested hreq]
    exact ⟨(closeWindow_windowEnded hopen).boot, (closeWindow_windowEnded hopen).pwr⟩
  | true =>
    have still : (s.recordOpen 0 43 1).boot.windowOpened ≠ none := by rwa [State.recordOpen_boot]
    have ended := closeWindow_windowEnded still
    rw [endWindow_of_requested hopen hreq, ended.boot, ended.pwr, State.recordOpen_boot, State.recordOpen_pwr]
    exact ⟨rfl, rfl⟩

/-- R100: the window is closed first, then the command is executed as on a device without it. -/
theorem execute_endWindow {op : Op} {p : Packet} {s : State} (body : Packet → State → State × Verdict) (hkeeps : keepsWindow op = false)
    (hopen : s.boot.windowOpened ≠ none) : execute op body p s = execute op body p (endWindow s) := by
  have closes : windowFor op s = endWindow s := by simp [windowFor, hkeeps, Option.isSome_iff_ne_none.mpr hopen]
  have closed : windowFor op (endWindow s) = endWindow s := by simp [windowFor, (endWindow_boot_pwr hopen).1]
  rw [execute, execute, closes, closed]

/-- Settles O6: the command is executed on the device whose window has ended, and what that leaves is `closeWindow_windowEnded`. -/
theorem windowCloses : Obligations.WindowCloses := by
  intro op p s hserve hscreen hat hkeeps hopen
  obtain ⟨hboot, hpwr⟩ := endWindow_boot_pwr hopen
  have hrunning : s.boot.phase = .running := by simp_all [servesCommands]
  have hserve' : servesCommands (endWindow s) = true := by simp [servesCommands, hboot, hpwr, hrunning, domainFailed, PwrUnit.cleared, look]
  have hthere : s.present (op.code / 256) = true := by
    by_contra hno
    simp [screen_of_absent (Bool.eq_false_iff.mpr hno)] at hscreen
  have hthere' : (endWindow s).present (op.code / 256) = true := by simpa [State.present, hboot] using hthere
  have ended := closeWindow_windowEnded hopen
  refine ⟨?_, endWindow_of_requested hopen, endWindow_of_not_requested, by rw [ended.boot], by rw [ended.boot], ended.loop, ended.acq,
    ended.graph, ended.adc, ended.dio, ended.image, ended.drove, ended.rings⟩
  rw [command_of_screened hserve hscreen hat, command_of_screened hserve' (screen_of_present hthere' hat) hat, execute_endWindow _ hkeeps hopen]

end Sys2Proof.Machine
end
section
/-! DEV.SET_MODE and DEV.SAFE_ACK (03 R106–R108, R112, R113). -/

namespace Sys2Proof.Machine

/-- A packet of the device's own ring 0 with these parameter words, for a counterexample. -/
def packetWith (ws : List Nat) : Packet := { params := ws.map (BitVec.ofNat 32) }

/-- The reset state in a mode, for a counterexample. -/
def resetIn (m : Mode) : State := State.reset.modDev fun d => { d with mode := m }

/-- A device in READY whose core 0 has prefetched a token of slot 0, which does not run. -/
def readyWithPrefetch : State :=
  (resetIn .ready).modSched fun u => { u with cores := [(0, { prefetch := [{ slot := 0, op := 0, prio := 0, at' := 0 }] })] }

/-- What core 0 has prefetched after an instruction. -/
def prefetchedAfter (o : Host.Outcome State Fault Refusal) : List Ready :=
  match o with
  | .next t => (coreOf t 0).prefetch
  | _ => []

/-- Refutes O7: on the way to CONFIGURE the lists of the cores are filled anew (05 R162), so the token that core 0 of `readyWithPrefetch` has
prefetched goes back to its list; the statement has nothing but DEV_STATE change. -/
theorem not_modeRequests : ¬ Obligations.ModeRequests := by
  intro h
  have claimed := (h.1 (packetWith [0]) readyWithPrefetch .configure (by decide +kernel) (by decide) (by decide)).2.2.2.1 (Or.inl rfl) rfl
  have stays := congrArg prefetchedAfter claimed
  exact absurd stays (by decide +kernel)

end Sys2Proof.Machine
end
section
/-! DEV.RESET, DEV.RESUME, DEV.RESUME_CONFIG and DEV.CYCLE_CONFIG (03 R102, R110, R111, R115; 01 R46). -/

namespace Sys2Proof.Machine

section Words

/-- The lowest bit of a word says whether it is odd. -/
theorem bit_zero_eq (x : Nat) : bit x 0 = decide (x % 2 = 1) := by
  rw [bit, Nat.pow_zero, Nat.div_one]
  rfl

/-- A flag is a word that 1 says. -/
theorem bit_zero_of_lt_two {x : Nat} (hx : x < 2) : bit x 0 = decide (x = 1) := by
  rw [bit_zero_eq, Nat.mod_eq_of_lt hx]

/-- Reserved bits that are `n` bits from bit `lo` on are clear exactly where their field reads 0. -/
theorem reservedSet_field (x lo n : Nat) : reservedSet x ((2 ^ n - 1) <<< lo) = decide (field x lo n ≠ 0) := by
  have hand : x &&& ((2 ^ n - 1) <<< lo) = field x lo n <<< lo := by
    refine Nat.eq_of_testBit_eq fun i => ?_
    simp only [field, Nat.testBit_and, Nat.testBit_shiftLeft, Nat.testBit_two_pow_sub_one, Nat.testBit_mod_two_pow, Nat.testBit_div_two_pow]
    grind
  have hiff : field x lo n <<< lo = 0 ↔ field x lo n = 0 := by simp [Nat.shiftLeft_eq]
  simp [reservedSet, hand, hiff]

end Words

section Requests

variable {p : Packet} {s : State}

theorem cmdDevReset_done (hat : p.atCycle = none) (hlen : p.len = 1) (hflag : p.w 0 < 2) :
    cmdDevReset p s = (s.modBoot fun b =>
      { b with warmResetAt := some (s.now + 8000), resetOnReply := true, noResume := decide (p.w 0 = 1), resetAs := 2 }, .done stOk []) := by
  have hres : reservedSet (p.w 0) 0xFFFFFFFE = false := reservedSet_eq_false_of_lt (n := 1) hflag (by decide)
  simp [cmdDevReset, hat, hlen, hres, bit_zero_of_lt_two hflag, clocksOfUs]

/-- R111: with a form that DEV.RESUME has, what is left of it is its own part. -/
theorem cmdDevResume_formed (hlen : p.len = 2) (hform : p.w 0 = 1 ∨ (p.w 0 = 0 ∧ p.w 1 = 0)) :
    cmdDevResume p s = checked [(s.boot.windowOpened.isNone, stWindowClosed)] s
      (if s.boot.replayed ∧ ¬ resumable s then (closeWindow (s.recordOpen 0 43 1), .done stNoCheckpoint [])
       else if s.boot.replayed ∧ checkFails p s then (s, .done stNoCheckpoint [])
       else s.defer .devResume p) := by
  rcases hform with one | ⟨zero, anyCycle⟩
  · simp [cmdDevResume, hlen, one, reservedSet, bit]
  · simp [cmdDevResume, hlen, zero, anyCycle, reservedSet, bit]

/-- R111: the cycle that DEV.RESUME names has to be the checkpoint's. -/
theorem checkFails_of_one (one : p.w 0 = 1) : checkFails p s = decide (checkpointCycle s ≠ p.w 1) := by
  simp [checkFails, one, bit]

/-- R111: DEV.RESUME that names no cycle takes any. -/
theorem checkFails_of_zero (zero : p.w 0 = 0) : checkFails p s = false := by
  simp [checkFails, zero, bit]

theorem cmdDevResumeConfig_done (hlen : p.len = 2) (hflags : p.w 0 < 4) (hgap : p.w 1 < 2 ^ 16) :
    cmdDevResumeConfig p s = (s.modDev fun d =>
      { d with autoResume := decide (p.w 0 % 2 = 1), resumeToReady := decide (2 ≤ p.w 0), maxGap := p.w 1 }, .done stOk []) := by
  have hres : reservedSet (p.w 0) 0xFFFFFFFC = false := reservedSet_eq_false_of_lt (n := 2) hflags (by decide)
  have hres1 : reservedSet (p.w 1) 0xFFFF0000 = false := reservedSet_eq_false_of_lt hgap (by decide)
  have hready : bit (p.w 0) 1 = decide (2 ≤ p.w 0) := by
    rw [bit, Bool.eq_iff_iff, beq_iff_eq, decide_eq_true_iff]
    omega
  simp [cmdDevResumeConfig, hlen, hres, hres1, bit_zero_eq, hready]

variable {budget : Nat} {latch : Bool}

/-- 01 R46: the checks of a word 0 that is a budget and the flag LATCH_SUBST. -/
theorem cmdDevCycleConfig_formed (hlen : p.len = 1) (hpos : 1 ≤ budget) (hmax : budget ≤ 15) (hw : p.w 0 = budget + 16 * latch.toNat) :
    cmdDevCycleConfig p s = checked [(s.dev.mode ≠ .configure && s.dev.mode ≠ .ready && budget ≠ s.cyc.holdBudget, stBadMode)] s
      (endLatched (s.modCyc fun c => { c with holdBudget := budget, latchSubst := latch }), .done stOk []) := by
  have hlatch : latch.toNat < 2 := Bool.toNat_lt latch
  have hres : reservedSet (p.w 0) 0xFFFFFFE0 = false := reservedSet_eq_false_of_lt (n := 5) (by omega) (by decide)
  have hbudget : field (p.w 0) 0 4 = budget := by rw [field]; omega
  have hbit : bit (p.w 0) 4 = latch := by
    rw [bit, hw]
    cases latch
    · simp; omega
    · simp; omega
  have hzero : (budget == 0) = false := by simp; omega
  simp [cmdDevCycleConfig, hlen, hres, hbudget, hbit, hzero]

/-- 01 R46: LATCHED ends on a device without an up-ring. -/
theorem endLatched_modCyc (s : State) (budget : Nat) (latch : Bool) :
    endLatched (s.modCyc fun c => { c with holdBudget := budget, latchSubst := latch }) =
      if s.cyc.commit = .latched ∧ s.drove.cfg.upEn = false
      then s.modCyc fun c => { c with holdBudget := budget, latchSubst := latch, commit := .substitute, latchInForce := false }
      else s.modCyc fun c => { c with holdBudget := budget, latchSubst := latch } := by
  simp only [endLatched, Bool.not_eq_true]
  rfl

end Requests

/-- Settles O8: each request is its own part of the command, past the checks of its form. -/
theorem resetAndResumeRequests : Obligations.ResetAndResumeRequests := by
  refine ⟨fun p s h hlen hflag => ?reset, fun p s h hlen hform => ?resume, fun p s => ⟨fun h hlen hflags hgap => ?config,
    fun h hlen budget latch hpos hmax hw => ?cycle⟩⟩
  case reset => exact command_done (body := cmdDevReset) h (cmdDevReset_done h.2.2.1 hlen hflag)
  case resume =>
    have formed := cmdDevResume_formed (s := s) hlen hform
    refine ⟨fun shut => ?_, fun hopen => ?_⟩
    · exact command_done (body := cmdDevResume) h (by simp [formed, shut])
    have opened : s.boot.windowOpened.isNone = false := Option.isNone_eq_false_iff.mpr (Option.isSome_iff_ne_none.mpr hopen)
    rw [opened, checked_cons_false, checked_nil] at formed
    refine ⟨fun hnot => ?_, fun hdone hcan hcycle => ?_, fun hdone hcan one hcycle => ?_, fun hdone hcannot => ?_⟩
    · exact command_waits (body := cmdDevResume) h (by simp [formed, hnot, State.defer])
    · have passes : checkFails p s = false := by
        rcases hform with one | ⟨zero, -⟩
        · simp [checkFails_of_one one, hcycle one]
        · exact checkFails_of_zero zero
      exact command_waits (body := cmdDevResume) h (by simp [formed, hcan, passes, State.defer])
    · have fails : checkFails p s = true := by simp [checkFails_of_one one, Ne.symm hcycle]
      exact command_done (body := cmdDevResume) h (by simp [formed, hdone, hcan, fails])
    · exact command_done (body := cmdDevResume) h (by simp [formed, hdone, hcannot])
  case config => exact command_done (body := cmdDevResumeConfig) h (cmdDevResumeConfig_done hlen hflags hgap)
  case cycle =>
    have formed := cmdDevCycleConfig_formed (s := s) hlen hpos hmax hw
    refine ⟨fun hmay => ?_, fun hconf hready hsize => ?_⟩
    · have may : (s.dev.mode ≠ .configure && s.dev.mode ≠ .ready && budget ≠ s.cyc.holdBudget) = false := by
        rcases hmay with hmay | hmay | hmay
        · simp [hmay]
        · simp [hmay]
        · simp [hmay]
      rw [may, checked_cons_false, checked_nil, endLatched_modCyc] at formed
      exact command_done (body := cmdDevCycleConfig) h formed
    · exact command_done (body := cmdDevCycleConfig) h (by simp [formed, hconf, hready, hsize])

section Changeovers

variable {p : Packet} {s : State} {lead : Nat}

/-- 01 R39: PREPARE goes into what the manager's ring carries to the members. -/
theorem foldl_coDown_eq (msg : CoMsg) (members : List Nat) : ∀ s : State,
    ∃ d, members.foldl (fun s m => s.coDown m msg) s = { s with drove := d } := by
  induction members with
  | nil => exact fun s => ⟨_, rfl⟩
  | cons m members ih => exact fun s => ih (s.coDown m msg)

/-- 01 R37: the changeover that a DEV.CHANGEOVER makes pending on its target. -/
def requestedChangeover (p : Packet) (s : State) : Changeover :=
  let tiers := if p.forwardAll then tiersBelow s else 0
  let ring := bit (p.w 1) 2
  let lead := minLead s tiers ring
  let why := coRefusal s (p.w 0) (bit (p.w 1) 1)
  let members := if p.forwardAll ∧ why = 0 then coMembers s else []
  let n := devCycle s
  { coId := field (p.w 1) 16 16, cycle := p.w 0, graph := bit (p.w 1) 0, loop := bit (p.w 1) 1, ring := ring, target := true, packet := some p
    prepared := n, decideAt := (n + 2 * ringStepSum s tiers + 3 * longestStep s tiers ring) % 2 ^ 32, minLead := lead, tiers := tiers
    affected := why == 0 && ringAffected s ring, below := members, outstanding := members
    refusal := if why = 0 then none else some (s.drove.devAddr, why) }

/-- 01 R37, R41: a request that has its form, on a device that may take it, turns on its lead. -/
theorem cmdDevChangeover_eq (hlen : p.len = 2) (hwhat : field (p.w 1) 0 3 ≠ 0) (hres : field (p.w 1) 3 13 = 0)
    (hmode : s.dev.mode = .ready ∨ s.dev.mode = .run ∨ s.dev.mode = .hold) (hnone : s.cyc.changeover = none)
    (hfuture : 0 < cycDiff (p.w 0) (baseCycle s)) (co : Changeover) (hco : co = requestedChangeover p s) :
    cmdDevChangeover p s =
      if cycDiff (p.w 0) (baseCycle s) < (co.minLead : Int) then (s, .done stCoLead (coWords co.coId 1 0 0 none co.minLead))
      else (co.below.foldl (fun s m => s.coDown m (.prepare co.coId co.cycle co.graph co.loop co.ring))
        (s.modCyc fun c => { c with changeover := some co }), .waits) := by
  subst hco
  have hclear : reservedSet (p.w 1) 0xFFF8 = false := by simpa [hres] using reservedSet_field (p.w 1) 3 13
  have hfree : (s.dev.mode == .configure || s.dev.mode == .safe || s.dev.mode == .graze) = false := by
    rcases hmode with hmode | hmode | hmode
    · simp [hmode]
    · simp [hmode]
    · simp [hmode]
  have hpending : changeoverPending s = false := by simp [changeoverPending, hnone]
  have hahead : cycFuture s (p.w 0) = true := by simpa [cycFuture] using hfuture
  refine (checked_of_none_fails _ ?_).trans rfl
  simp [hlen, hwhat, hclear, hpending, hahead, hnone, hfree]

end Changeovers

/-- Settles O9: too near a cycle is answered with the words of `coWords`, any other is taken into `requestedChangeover`. -/
theorem changeoverBecomesPending : Obligations.ChangeoverBecomesPending := by
  intro p s h hlen hwhat hres hmode hnone hfuture lead hlead
  have formed := cmdDevChangeover_eq hlen hwhat hres hmode hnone hfuture (requestedChangeover p s) rfl
  have hmin : (requestedChangeover p s).minLead = lead := hlead.symm
  rw [hmin] at formed
  refine ⟨fun near => command_done (body := cmdDevChangeover) h (formed.trans (if_pos near)), fun far => ?_⟩
  obtain ⟨d, sent⟩ := foldl_coDown_eq (.prepare (field (p.w 1) 16 16) (p.w 0) (bit (p.w 1) 0) (bit (p.w 1) 1) (bit (p.w 1) 2))
    (requestedChangeover p s).below (s.modCyc fun c => { c with changeover := some (requestedChangeover p s) })
  have taken := formed.trans ((if_neg (not_lt.mpr far)).trans (congrArg (·, Verdict.waits) sent))
  obtain ⟨b, recorded⟩ := State.recordConfig_eq
    { s.modCyc (fun c => { c with changeover := some (requestedChangeover p s) }) with drove := d } .devChangeover stOk
  have hrefusal : (requestedChangeover p s).refusal = none ↔ coRefusal s (p.w 0) (bit (p.w 1) 1) = 0 := by
    simp [requestedChangeover]
  have waits := command_waits (body := cmdDevChangeover) h taken
  rw [recorded] at waits
  refine ⟨_, requestedChangeover p s, waits, ?_, rfl, rfl, rfl, rfl, rfl, rfl, rfl, hmin, rfl, rfl, hrefusal, ?_⟩
  · exact (State.mirror_replied _ _ _ _).cyc
  · simp

end Sys2Proof.Machine
end
section
/-! MEM.READ and MEM.WRITE (16 R573, R574). -/

namespace Sys2Proof.Machine

section Spans

variable {a n : Nat} {k : Area} {s : State}

/-- 18 R601: raising a domain changes the power unit and nothing else. -/
theorem wakeDomain_eq (d : Nat) (s : State) : ∃ w, wakeDomain d s = { s with pwr := w } := by
  unfold wakeDomain
  extract_lets m
  split
  · exact ⟨_, rfl⟩
  · split
    · exact ⟨_, rfl⟩
    · unfold retarget
      extract_lets m'
      split
      · exact ⟨_, rfl⟩
      · split
        · exact ⟨_, rfl⟩
        · split
          · exact ⟨_, rfl⟩
          · exact ⟨_, rfl⟩

@[simp] theorem wakeDomain_mem (d : Nat) (s : State) : (wakeDomain d s).mem = s.mem := by
  obtain ⟨w, raised⟩ := wakeDomain_eq d s
  rw [raised]

@[simp] theorem wakeDomain_boot (d : Nat) (s : State) : (wakeDomain d s).boot = s.boot := by
  obtain ⟨w, raised⟩ := wakeDomain_eq d s
  rw [raised]

/-- A range lies in one area: so do its first and its last byte. -/
theorem areaOf_of_span (hspan : spanArea a n = some k) : areaOf a = some k ∧ areaOf (a + (n - 1)) = some k := by
  rw [spanArea] at hspan
  split at hspan
  next same => exact ⟨hspan, same ▸ hspan⟩
  next => cases hspan

/-- The areas of stored bytes are no windows of registers. -/
def Area.isWindow : Area → Bool
  | .window _ => true
  | _ => false

theorem inWindow_of_span (hspan : spanArea a n = some k) (hk : k.isWindow = false) : inWindow a = false := by
  rw [inWindow, (areaOf_of_span hspan).1]
  cases k with
  | window u => simp [Area.isWindow] at hk
  | _ => rfl

theorem rangeAbsent_of_span (hspan : spanArea a n = some k) (hk : k.isWindow = false) : rangeAbsent s a = false := by
  rw [rangeAbsent, (areaOf_of_span hspan).1]
  cases k with
  | window u => simp [Area.isWindow] at hk
  | _ => rfl

theorem wakeRange_of_span (hspan : spanArea a n = some k) (hk : k.isWindow = false) : wakeRange a n s = wakeDomain (areaDomain k) s := by
  simp [wakeRange, hspan, rangeAbsent_of_span hspan hk]

/-- R573: what is left of the checks of a range that is no window. -/
theorem rangeChecks_of_span (hspan : spanArea a n = some k) (hk : k.isWindow = false) (write : Bool) :
    rangeChecks s a n false write =
      [(false, stMmUnmapped), (write && (k == .checkpoint || k == .tally), stMmProtected), (domainFailed s (areaDomain k), stFault)] := by
  simp [rangeChecks, hspan, rangeAbsent_of_span hspan hk]

theorem rangeChecks_of_unmapped (hspan : spanArea a n = none) (write : Bool) :
    ∃ cs, rangeChecks s a n false write = (true, stMmUnmapped) :: cs := by
  exact ⟨_, by simp only [rangeChecks, hspan]; rfl⟩

end Spans

section Accesses

variable {p : Packet}

/-- A packet that names no errors meets none. -/
theorem err_of_errs_nil (herrs : p.errs = []) (w : Nat) : p.err w = .clean := by
  simp [Packet.err, herrs]

/-- R552: a word without an error is touched and nothing changes. -/
theorem touch_clean (s : State) (w : Nat) (reads : Bool) : s.touch w reads .clean = (s, false) := by
  cases reads <;> rfl

theorem touchAll_clean (herrs : p.errs = []) (s : State) (l : List Nat) : touchAll p l s = (s, false) := by
  induction l with
  | nil => rfl
  | cons w l ih => simp [touchAll, err_of_errs_nil herrs, touch_clean, ih]

theorem statusOf_clean (l : List MemErr) (hclean : ∀ e ∈ l, e = .clean) : statusOf l = stOk := by
  have none_retried : l.any MemErr.retried = false := by
    rw [List.any_eq_false]
    intro e he
    simp [hclean e he, MemErr.retried]
  simp [statusOf, none_retried]

end Accesses

/-- Four bytes in the order of their addresses are the word there. -/
theorem wordsOfBytes_range (s : State) (b n : Nat) :
    wordsOfBytes ((List.range (4 * n)).map fun i => readByte s (b + i)) = (List.range n).map fun i => wd (readWord s (b + 4 * i)) := by
  induction n generalizing b with
  | zero => rfl
  | succ n ih =>
    have four : List.range (4 * (n + 1)) = [0, 1, 2, 3] ++ (List.range (4 * n)).map (4 + ·) := by
      rw [Nat.mul_add, Nat.add_comm, List.range_add]
      rfl
    have rest := ih (b + 4)
    rw [four, List.range_succ_eq_map, List.map_append, List.map_map]
    simp only [List.map_cons, List.map_nil, List.cons_append, List.nil_append, wordsOfBytes, List.map_map]
    congr 1
    convert rest using 2
    · refine List.map_congr_left fun i _ => ?_
      simp [Nat.add_assoc]
    · funext i
      simp only [Function.comp_apply]
      congr 2
      omega

section Reading

variable {p : Packet} {s : State} {a n : Nat} {k : Area}

/-- The words that MEM.READ may ask for. -/
theorem readCount_formed (hw : p.w 1 = n) (hpos : 1 ≤ n) (hmax : n ≤ 4092) :
    field (p.w 1) 0 12 = n ∧ reservedSet (p.w 1) 0xFFFFF000 = false := by
  have hlt : p.w 1 < 2 ^ 12 := by omega
  exact ⟨(field_eq_self_of_lt hlt).trans hw, reservedSet_eq_false_of_lt hlt (by decide)⟩

theorem cmdMemRead_of_misaligned (hlen : p.len = 2) (ha : p.w 0 = a) (hw : p.w 1 = n) (hpos : 1 ≤ n) (hmax : n ≤ 4092) (hodd : a % 4 ≠ 0) :
    cmdMemRead p s = (s, .done stMmAlign []) := by
  obtain ⟨hcount, hres⟩ := readCount_formed hw hpos hmax
  have hrange : (n == 0 || decide (4092 < n)) = false := by simp; omega
  have hodd' : (a % 4 != 0) = true := by simpa using hodd
  simp [cmdMemRead, hlen, ha, hcount, hres, hrange, hodd']

theorem cmdMemRead_of_unmapped (hlen : p.len = 2) (ha : p.w 0 = a) (hw : p.w 1 = n) (hpos : 1 ≤ n) (hmax : n ≤ 4092) (heven : a % 4 = 0)
    (hspan : spanArea a (4 * n) = none) : cmdMemRead p s = (s, .done stMmUnmapped []) := by
  obtain ⟨hcount, hres⟩ := readCount_formed hw hpos hmax
  have hrange : (n == 0 || decide (4092 < n)) = false := by simp; omega
  obtain ⟨cs, hchecks⟩ := rangeChecks_of_unmapped (s := s) hspan false
  simp [cmdMemRead, hlen, ha, hcount, hres, hrange, heven, hchecks]

/-- R573: MEM.READ of a range of one area that is no window. -/
theorem cmdMemRead_of_span (hlen : p.len = 2) (ha : p.w 0 = a) (hw : p.w 1 = n) (hpos : 1 ≤ n) (hmax : n ≤ 4092) (heven : a % 4 = 0)
    (hspan : spanArea a (4 * n) = some k) (hk : k.isWindow = false) :
    cmdMemRead p s =
      if domainFailed s (areaDomain k) then (s, .done stFault [])
      else match poisonBlocks s a (4 * n) false with
        | some w => (s, .done stMmPoisoned [wd w])
        | none =>
          let q := touchAll p (wordsIn a (4 * n)) (wakeDomain (areaDomain k) s)
          if q.2 then (q.1, .done stFault [])
          else let r := memBytes a (4 * n) q.1; (r.1, .done (statusOf ((wordsIn a (4 * n)).map p.err)) (wordsOfBytes r.2)) := by
  obtain ⟨hcount, hres⟩ := readCount_formed hw hpos hmax
  have hrange : (n == 0 || decide (4092 < n)) = false := by simp; omega
  have hchecks := rangeChecks_of_span (s := s) hspan hk false
  cases hfailed : domainFailed s (areaDomain k) with
  | true => simp [cmdMemRead, hlen, ha, hcount, hres, hrange, heven, hchecks, hfailed]
  | false =>
    simp [cmdMemRead, hlen, ha, hcount, hres, hrange, heven, hchecks, hfailed, inWindow_of_span hspan hk, wakeRange_of_span hspan hk] <;> rfl

/-- 16 R550: where each area of stored bytes lies. -/
theorem areaOf_eq_some_system : areaOf a = some .system ↔ a < 0x02000000 := by
  unfold areaOf
  split_ifs <;> simp <;> omega

theorem areaOf_eq_some_capture : areaOf a = some .capture ↔ 0x30000000 ≤ a ∧ a < 0x30800000 := by
  unfold areaOf
  split_ifs <;> simp <;> omega

theorem areaOf_eq_some_loop : areaOf a = some .loop ↔ 0x31000000 ≤ a ∧ a < 0x31400000 := by
  unfold areaOf
  split_ifs <;> simp <;> omega

/-- Only the set and clear areas stand for stored bytes elsewhere. -/
theorem storedAt_of_area (harea : areaOf a = some .system ∨ areaOf a = some .capture ∨ areaOf a = some .loop) : storedAt a = a := by
  rw [areaOf_eq_some_system, areaOf_eq_some_capture, areaOf_eq_some_loop] at harea
  exact if_neg (by omega)

/-- R556, 00 R7: the bytes of a range that is neither a window nor the checkpoint store. -/
theorem memBytes_of_area (harea : areaOf a = some k)
    (hk : k = .system ∨ k = .setAlias ∨ k = .clearAlias ∨ k = .capture ∨ k = .loop ∨ k = .tally) (u : State) :
    memBytes a n u = (if k = .loop then u.noteLoop a else u, (List.range n).map fun i => readByte u (storedAt a + i)) := by
  rcases hk with rfl | rfl | rfl | rfl | rfl | rfl
  case inr.inr.inr.inr.inl =>
    simp [memBytes, harea, storedAt_of_area (Or.inr (Or.inr harea))]
  all_goals simp [memBytes, harea]

end Reading

section Writing

variable {p : Packet} {s : State} {a : Nat} {k : Area} {ws : List Word}

/-- R550: bytes that follow each other are stored one list after the other. -/
theorem storeBytes_append (xs ys : List Byte) : ∀ (a : Nat) (t : Tab Byte),
    storeBytes a (xs ++ ys) t = storeBytes (a + xs.length) ys (storeBytes a xs t) := by
  induction xs with
  | nil => exact fun a t => rfl
  | cons x xs ih =>
    intro a t
    simp only [List.cons_append, storeBytes, ih, List.length_cons]
    congr 1
    omega

/-- A word is stored little-endian (R550). -/
theorem bytesOfNat_word (w : Word) : bytesOfNat 4 w.toNat = bytesOf w := by
  have same (n i : Nat) : BitVec.ofNat 8 (w.toNat / n) = w.extractLsb' i 8 ↔ w.toNat / n % 256 = w.toNat / 2 ^ i % 256 := by
    rw [← BitVec.toNat_inj]
    simp [Nat.shiftRight_eq_div_pow]
  simp only [bytesOfNat, bytesOf, Nat.div_div_eq_div_mul, List.cons.injEq, and_true]
  refine ⟨?_, ?_, ?_, ?_⟩
  · simpa using same 1 0
  · exact (same _ _).mpr rfl
  · exact (same _ _).mpr rfl
  · exact (same _ _).mpr rfl

/-- The bytes of a number are those of its low part and then those of the rest. -/
theorem bytesOfNat_add (j k y : Nat) : ∀ x < 256 ^ j, bytesOfNat (j + k) (x + 256 ^ j * y) = bytesOfNat j x ++ bytesOfNat k y := by
  induction j with
  | zero =>
    intro x hx
    obtain rfl : x = 0 := by omega
    simp [bytesOfNat]
  | succ j ih =>
    intro x hx
    have split : x + 256 ^ (j + 1) * y = x + 256 * (256 ^ j * y) := by ring
    have low : BitVec.ofNat 8 (x + 256 * (256 ^ j * y)) = BitVec.ofNat 8 x := by
      rw [← BitVec.toNat_inj]
      simp
    have rest : (x + 256 * (256 ^ j * y)) / 256 = x / 256 + 256 ^ j * y := by omega
    have hx' : x / 256 < 256 ^ j := by rw [pow_succ] at hx; omega
    rw [split, Nat.succ_add, bytesOfNat, bytesOfNat, low, rest, ih _ hx', List.cons_append]

/-- Two words stored in one access. -/
theorem bytesOfNat_words (w v : Word) : bytesOfNat 8 (w.toNat + place 32 v.toNat) = bytesOf w ++ bytesOf v := by
  rw [← bytesOfNat_word w, ← bytesOfNat_word v, ← bytesOfNat_add 4 4 v.toNat w.toNat w.isLt]
  simp [place, Nat.mul_comm]

/-- The bytes that a list of accesses stores (R553). -/
def storeAccesses (xs : List (Nat × Nat × Nat)) (t : Tab Byte) : Tab Byte :=
  xs.foldl (fun t x => storeBytes x.1 (bytesOfNat x.2.1 x.2.2) t) t

/-- R553: the accesses of MEM.WRITE store the bytes of its words, and start inside its range. -/
theorem storeAccesses_writeAccesses (ws : List Word) (a : Nat) (t : Tab Byte) :
    storeAccesses (writeAccesses a ws) t = storeBytes a (ws.flatMap bytesOf) t := by
  induction a, ws using writeAccesses.induct generalizing t with
  | case1 a => rfl
  | case2 a w => simp [writeAccesses, storeAccesses, bytesOfNat_word]
  | case3 a w v r heven ih =>
    rw [writeAccesses, if_pos heven, storeAccesses, List.foldl_cons]
    refine (ih _).trans ?_
    rw [bytesOfNat_words, List.flatMap_cons, List.flatMap_cons, ← List.append_assoc, storeBytes_append (bytesOf w ++ bytesOf v)]
    rfl
  | case4 a w v r hodd ih =>
    rw [writeAccesses, if_neg hodd, storeAccesses, List.foldl_cons]
    refine (ih _).trans ?_
    rw [bytesOfNat_word, List.flatMap_cons (x := w), storeBytes_append (bytesOf w)]
    rfl

theorem writeAccesses_within (ws : List Word) (a : Nat) : ∀ x ∈ writeAccesses a ws, a ≤ x.1 ∧ x.1 < a + 4 * ws.length := by
  induction a, ws using writeAccesses.induct with
  | case1 a => simp [writeAccesses]
  | case2 a w => simp [writeAccesses]
  | case3 a w v r heven ih =>
    simp only [writeAccesses, heven, if_true, List.mem_cons, List.length_cons]
    rintro x (rfl | hx)
    · simp
    · have := ih x hx
      omega
  | case4 a w v r hodd ih => 
    simp only [writeAccesses, hodd, if_false, List.mem_cons, List.length_cons]
    rintro x (rfl | hx)
    · simp
    · have := ih x (by simpa using hx)
      simp only [List.length_cons] at this
      omega

/-- Tracking a store changes the journal of the cocoon alone. -/
theorem State.track_eq (s : State) (a n : Nat) : ∃ k, s.track a n = { s with keep := k } := by
  unfold State.track
  split
  · exact ⟨_, rfl⟩
  · exact ⟨_, rfl⟩

/-- R558: a store over whole poisoned words takes their poison. -/
theorem State.coverPoison_eq (s : State) (a n : Nat) : ∃ m, s.coverPoison a n = { s with mem := m } := by
  unfold State.coverPoison
  split
  · exact ⟨_, rfl⟩
  · exact ⟨_, rfl⟩

/-- R550, R558: a store changes the memory, with its poison and the journal of the cocoon. -/
theorem State.writeBytes_eq (s : State) (a : Nat) (bs : List Byte) : ∃ m k, s.writeBytes a bs = { s with mem := m, keep := k } := by
  obtain ⟨k, htrack⟩ := s.track_eq a bs.length
  obtain ⟨m, hcover⟩ := (s.track a bs.length).coverPoison_eq a bs.length
  exact ⟨_, k, by rw [State.writeBytes, hcover, htrack]; rfl⟩

/-- The same of a range that becomes 0. -/
theorem State.zeroBytes_eq (s : State) (a n : Nat) : ∃ m k, s.zeroBytes a n = { s with mem := m, keep := k } := by
  obtain ⟨k, htrack⟩ := s.track_eq a n
  obtain ⟨m, hcover⟩ := (s.track a n).coverPoison_eq a n
  exact ⟨_, k, by rw [State.zeroBytes, hcover, htrack]; rfl⟩

/-- R553: accesses without errors to system or capture memory store their bytes; the memory alone changes, with its journal. -/
theorem storeAll_clean (herrs : p.errs = []) (xs : List (Nat × Nat × Nat)) :
    ∀ s : State, (∀ x ∈ xs, areaOf x.1 = some .system ∨ areaOf x.1 = some .capture) →
      ∃ m k, storeAll p false xs s = ({ s with mem := m, keep := k }, false) ∧ m.store = storeAccesses xs s.mem.store := by
  induction xs with
  | nil => exact fun s _ => ⟨_, _, rfl, rfl⟩
  | cons x xs ih =>
    obtain ⟨b, n, v⟩ := x
    intro s harea
    have here : areaOf b = some .system ∨ areaOf b = some .capture := harea _ List.mem_cons_self
    have stored : memStore b n v s = s.writeNat b n v := by
      rcases here with here | here
      · simp [memStore, here]
      · simp [memStore, here]
    obtain ⟨m, j, one⟩ := s.writeBytes_eq b (bytesOfNat n v)
    obtain ⟨m', j', rest, hstore⟩ := ih (s.writeNat b n v) fun x hx => harea x (List.mem_cons_of_mem _ hx)
    refine ⟨m', j', ?_, ?_⟩
    · rw [storeAll, err_of_errs_nil herrs, touch_clean]
      simp only [Bool.false_eq_true, if_false, stored, rest]
      rw [State.writeNat, one]
    · rw [hstore]
      simp [storeAccesses, State.writeNat]

/-- R573: MEM.WRITE of a range of system or capture memory. -/
theorem cmdMemWrite_of_span (hlen : 1 ≤ ws.length ∧ ws.length ≤ 4091) (hparams : p.params = BitVec.ofNat 32 a :: ws) (ha : p.w 0 = a)
    (heven : a % 4 = 0) (hspan : spanArea a (4 * ws.length) = some k) (hk : k = .system ∨ k = .capture)
    (hfailed : domainFailed s (areaDomain k) = false) :
    cmdMemWrite p s =
      match poisonBlocks s a (4 * ws.length) true with
      | some w => (s, .done stMmPoisoned [wd w])
      | none =>
        let q := storeAll p false (writeAccesses a ws) (wakeDomain (areaDomain k) s)
        (q.1, .done (if q.2 then stFault else statusOf (metBy p false (writeAccesses a ws))) []) := by
  have hcount : p.len = ws.length + 1 := by simp [Packet.len, hparams]
  have hleast : ¬ p.len ≤ 1 := by omega
  have hmost : ¬ 4092 < p.len := by omega
  have hwindow : k.isWindow = false := by rcases hk with rfl | rfl <;> rfl
  have hchecks := rangeChecks_of_span (s := s) hspan hwindow true
  have hplain : (k == .checkpoint || k == .tally) = false ∧ (k == .setAlias) = false ∧ (k == .clearAlias) = false := by
    rcases hk with rfl | rfl
    · decide
    · decide
  obtain ⟨hfree, hset, hclear⟩ := hplain
  simp [cmdMemWrite, hparams, ha, hleast, hmost, heven, hchecks, hfailed, hfree, hspan, hset, hclear, inWindow_of_span hspan hwindow,
    wakeRange_of_span hspan hwindow] <;> rfl

/-- The accesses of a range of system or capture memory stay in it. -/
theorem areaOf_writeAccesses (hlen : 1 ≤ ws.length) (hspan : spanArea a (4 * ws.length) = some k) (hk : k = .system ∨ k = .capture) :
    ∀ x ∈ writeAccesses a ws, areaOf x.1 = some .system ∨ areaOf x.1 = some .capture := by
  intro x hx
  obtain ⟨hlow, hhigh⟩ := writeAccesses_within ws a x hx
  obtain ⟨hfirst, hlast⟩ := areaOf_of_span hspan
  rcases hk with rfl | rfl
  · rw [areaOf_eq_some_system] at hfirst hlast
    exact Or.inl (areaOf_eq_some_system.mpr (by omega))
  · rw [areaOf_eq_some_capture] at hfirst hlast
    exact Or.inr (areaOf_eq_some_capture.mpr (by omega))

theorem metBy_clean (herrs : p.errs = []) (xs : List (Nat × Nat × Nat)) : statusOf (metBy p false xs) = stOk := by
  refine statusOf_clean _ fun e he => ?_
  obtain ⟨x, -, rfl⟩ := List.mem_map.mp he
  simp [err_of_errs_nil herrs]

end Writing

/-- Settles O11: a range of one area is read as its bytes stand, and written as the bytes of the words follow each other. -/
theorem memoryReadsAndWrites : Obligations.MemoryReadsAndWrites := by
  refine ⟨fun p s a n k h hlen ha hw hpos hmax => ?read, fun p s a ws k h hcanon hparams ha hpos hmax heven hspan hk hfailed => ?write⟩
  case read =>
    refine ⟨fun hodd => command_done (body := cmdMemRead) h (cmdMemRead_of_misaligned hlen ha hw hpos hmax hodd),
      fun heven => ⟨fun hspan => command_done (body := cmdMemRead) h (cmdMemRead_of_unmapped hlen ha hw hpos hmax heven hspan),
        fun hspan hk => ?_⟩⟩
    have hwindow : k.isWindow = false := by rcases hk with rfl | rfl | rfl | rfl | rfl | rfl <;> rfl
    have formed := cmdMemRead_of_span (s := s) hlen ha hw hpos hmax heven hspan hwindow
    refine ⟨fun hfailed => command_done (body := cmdMemRead) h (formed.trans (if_pos hfailed)), fun hstands => ?_⟩
    rw [hstands, if_neg Bool.false_ne_true] at formed
    refine ⟨fun w hpoison => ?_, fun hclear herrs => ?_⟩
    · rw [hpoison] at formed
      exact command_done (body := cmdMemRead) h formed
    · refine command_done (body := cmdMemRead) h ?_
      have clean : statusOf ((wordsIn a (4 * n)).map p.err) = stOk :=
        statusOf_clean _ fun e he => by obtain ⟨w, -, rfl⟩ := List.mem_map.mp he; exact err_of_errs_nil herrs w
      have unchanged (i : Nat) : readByte (wakeDomain (areaDomain k) s) i = readByte s i := by simp [readByte]
      rw [formed, hclear]
      simp only [touchAll_clean herrs, Bool.false_eq_true, if_false, memBytes_of_area (areaOf_of_span hspan).1 hk, unchanged,
        wordsOfBytes_range, clean]
  case write =>
    have formed := cmdMemWrite_of_span ⟨hpos, hmax⟩ hparams ha heven hspan hk hfailed
    refine ⟨fun w hpoison => ?_, fun hclear herrs => ?_⟩
    · rw [hpoison] at formed
      exact command_done (body := cmdMemWrite) h formed
    · obtain ⟨m, j, stored, hstore⟩ := storeAll_clean herrs (writeAccesses a ws) (wakeDomain (areaDomain k) s)
        (areaOf_writeAccesses hpos hspan hk)
      rw [storeAccesses_writeAccesses, wakeDomain_mem] at hstore
      obtain ⟨w, raised⟩ := wakeDomain_eq (areaDomain k) s
      rw [hclear, stored, raised] at formed
      simp only [Bool.false_eq_true, if_false, metBy_clean herrs] at formed
      refine ⟨_, command_done (body := cmdMemWrite) h formed, fun i hi => ?_, fun x hx => ?_, rfl, rfl, rfl, rfl, rfl, rfl, rfl, rfl⟩
      · rw [← flatMap_bytesOf_length] at hi
        simp only [readByte, hstore]
        exact look_storeBytes_at _ a i hcanon hi
      · simp only [readByte, hstore]
        rw [← flatMap_bytesOf_length] at hx
        rcases hx with hx | hx
        · exact look_storeBytes_below _ a x hcanon hx
        · exact look_storeBytes_above _ a x hcanon hx

end Sys2Proof.Machine
end
section
/-! MEM.FILL, MEM.DMA, MEM.SCRUB_CONFIG and MEM.ERR_STATUS (16 R575–R578). -/

namespace Sys2Proof.Machine

/-- The areas that are memory; the set and clear areas and the windows are not. -/
def Area.isMemory : Area → Bool
  | .system | .capture | .loop | .checkpoint | .tally => true
  | _ => false

/-- The areas that only the device writes (16 R573). -/
def Area.isProtected : Area → Bool
  | .checkpoint | .tally => true
  | _ => false

section Service

variable {p : Packet} {s : State} {a n : Nat} {k : Area}

/-- R575, R576: what is left of the checks of a range of memory of a domain that stands. -/
theorem rangeChecks_memory (hspan : spanArea a n = some k) (hk : k.isWindow = false) (hfailed : domainFailed s (areaDomain k) = false)
    (write : Bool) : rangeChecks s a n true write =
      [(!k.isMemory, stMmUnmapped), (write && k.isProtected, stMmProtected), (false, stFault)] := by
  have area : rangeAbsent s a = false := rangeAbsent_of_span hspan hk
  cases k with
  | window u => cases hk
  | _ => simp [rangeChecks, hspan, area, hfailed, Area.isMemory, Area.isProtected]

theorem cmdMemFill_of_span (hlen : p.len = 3) (ha : p.w 0 = a) (hn : p.w 1 = n) (hmin : 8 ≤ n) (hmax : n ≤ 33554432) (hfirst : a % 8 = 0)
    (hlast : n % 8 = 0) (hspan : spanArea a n = some k) (hk : k.isWindow = false) (hfailed : domainFailed s (areaDomain k) = false) :
    cmdMemFill p s = checked [(!k.isMemory, stMmUnmapped), (k.isProtected, stMmProtected), (false, stFault)] s
      ((wakeDomain (areaDomain k) s).defer .memFill p) := by
  have hrange : (decide (n < 8) || decide (33554432 < n)) = false := by simp; omega
  rw [cmdMemFill, wakeRange_of_span (ha ▸ hn ▸ hspan) hk, rangeChecks_memory (ha ▸ hn ▸ hspan) hk hfailed]
  simp [hlen, ha, hn, hrange, hfirst, hlast]

theorem cmdMemDma_of_span (hlen : p.len = 5) (hway : p.w 0 < 2) (hpcie : s.boot.hostSel = 0) (hbus : p.w 1 % 64 = 0) (ha : p.w 3 = a)
    (hn : p.w 4 = n) (hmin : 64 ≤ n) (hmax : n ≤ 16777216) (hfirst : a % 64 = 0) (hlast : n % 64 = 0) (hspan : spanArea a n = some k)
    (hmem : k.isMemory = true) (hfailed : domainFailed s (areaDomain k) = false) (hpoison : s.mem.poison = []) :
    cmdMemDma p s = if !bit (p.w 0) 0 && k.isProtected then (s, .done stMmProtected [])
      else (wakeDomain (areaDomain k) s).defer .memDma p := by
  have hk : k.isWindow = false := by
    cases k with
    | window u => cases hmem
    | _ => rfl
  have hrange : (decide (n < 64) || decide (16777216 < n)) = false := by simp; omega
  have hres : reservedSet (p.w 0) 0xFFFFFFFE = false := reservedSet_eq_false_of_lt (n := 1) hway (by decide)
  have hclear (whole : Bool) : poisonBlocks s a n whole = none := by simp [poisonBlocks, hpoison]
  have hchecks := rangeChecks_memory hspan hk hfailed (!bit (p.w 0) 0)
  have hwake := wakeRange_of_span (s := s) hspan hk
  subst ha hn
  rw [cmdMemDma, hchecks]
  cases hprot : !bit (p.w 0) 0 && k.isProtected with
  | true => simp [hlen, hres, hpcie, hrange, hbus, hfirst, hlast, hmem]
  | false => simp [hlen, hres, hpcie, hrange, hbus, hfirst, hlast, hmem, hclear, hwake]

theorem cmdMemScrubConfig_done (hlen : p.len = 2) (hmin : 1 ≤ p.w 0) (hmax : p.w 0 ≤ 3600) (hthreshold : 1 ≤ p.w 1) (hw : p.w 1 < 2 ^ 16) :
    cmdMemScrubConfig p s = (s.modMem fun m => { m with passS := p.w 0, ceThreshold := p.w 1 }, .done stOk []) := by
  have hpass : p.w 0 < 2 ^ 12 := by omega
  have hlow : (p.w 0 == 0) = false := by simp; omega
  have hhigh : ¬ 3600 < p.w 0 := by omega
  have hce : (p.w 1 == 0) = false := by simp; omega
  simp [cmdMemScrubConfig, hlen, field_eq_self_of_lt hpass, field_eq_self_of_lt hw, hlow, hhigh, hce,
    reservedSet_eq_false_of_lt (mask := 0xFFFFF000) hpass (by decide), reservedSet_eq_false_of_lt (mask := 0xFFFF0000) hw (by decide)]

theorem cmdMemErrStatus_done (hlen : p.len = 1) (hflag : p.w 0 < 2) :
    cmdMemErrStatus p s = (if p.w 0 = 1 then s.clearErrors else s, .done stOk (errStatusWords s)) := by
  have hres : reservedSet (p.w 0) 0xFFFFFFFE = false := reservedSet_eq_false_of_lt (n := 1) hflag (by decide)
  simp [cmdMemErrStatus, hlen, hres, bit_zero_of_lt_two hflag]

/-- R578: after CLEAR every counter reads 0; the poison and the address of the last error stay. -/
theorem errStatusWords_clearErrors (s : State) : (errStatusWords s.clearErrors).map BitVec.toNat =
    [0, 0, 0, 0, 0, s.mem.poison.length % 2 ^ 32, 0, s.mem.lastErrAddr % 2 ^ 32, 0] := by
  have hbank : ceMaxBank s.clearErrors = 0 := rfl
  rw [errStatusWords, hbank]
  simp [State.clearErrors, wd, place]

end Service

/-- Settles O12: a range of memory passes the checks, and the protected areas and the aliases do not. -/
theorem memoryService : Obligations.MemoryService := by
  refine ⟨fun p s a n k => ⟨fun h hlen ha hn hmin hmax hfirst hlast hspan hfailed => ?fill,
    fun h hlen hway hpcie hbus ha hn hmin hmax hfirst hlast hspan hfailed hpoison => ?dma⟩, fun p s =>
    ⟨fun h hlen hmin hmax hthreshold hw => ?scrub, fun h hlen => ⟨fun hzero => ?_, fun hone => ?_⟩⟩⟩
  case fill =>
    have formed (hk : k.isWindow = false) := cmdMemFill_of_span hlen ha hn hmin hmax hfirst hlast hspan hk hfailed
    refine ⟨fun hk => ?_, fun hk => ?_, fun hk => ?_⟩
    · refine command_waits (body := cmdMemFill) h ?_
      rcases hk with rfl | rfl | rfl <;> exact formed rfl
    · refine command_done (body := cmdMemFill) h ?_
      rcases hk with rfl | rfl <;> exact formed rfl
    · refine command_done (body := cmdMemFill) h ?_
      rcases hk with rfl | rfl <;> exact formed rfl
  case dma =>
    have hto : bit (p.w 0) 0 = decide (p.w 0 = 1) := bit_zero_of_lt_two hway
    have formed (hmem : k.isMemory = true) := cmdMemDma_of_span hlen hway hpcie hbus ha hn hmin hmax hfirst hlast hspan hmem hfailed hpoison
    refine ⟨fun hk => command_waits (body := cmdMemDma) h ?_, fun hzero hk => command_done (body := cmdMemDma) h ?_⟩
    · rcases hk with rfl | rfl | rfl | ⟨hone, rfl | rfl⟩
      · exact (formed rfl).trans (if_neg (by simp [Area.isProtected]))
      · exact (formed rfl).trans (if_neg (by simp [Area.isProtected]))
      · exact (formed rfl).trans (if_neg (by simp [Area.isProtected]))
      · exact (formed rfl).trans (if_neg (by rw [hto, hone]; decide))
      · exact (formed rfl).trans (if_neg (by rw [hto, hone]; decide))
    · rcases hk with rfl | rfl
      · exact (formed rfl).trans (if_pos (by rw [hto, hzero]; decide))
      · exact (formed rfl).trans (if_pos (by rw [hto, hzero]; decide))
  case scrub => exact command_done (body := cmdMemScrubConfig) h (cmdMemScrubConfig_done hlen hmin hmax hthreshold hw)
  · exact command_done (body := cmdMemErrStatus) h (by simp [cmdMemErrStatus_done hlen (by omega), hzero])
  · exact ⟨s.clearErrors, command_done (body := cmdMemErrStatus) h (by simp [cmdMemErrStatus_done hlen (by omega), hone]),
      errStatusWords_clearErrors s, rfl, rfl⟩

end Sys2Proof.Machine
end
section
/-! PWR.LATENCY_SET, PWR.GRAZE_CONFIG, PWR.MONITOR_CONFIG and PWR.DOMAIN_RETRY (18 R616–R621). -/

namespace Sys2Proof.Machine

section Power

variable {p : Packet} {s : State}

theorem cmdPwrLatencySet_done (hlen : p.len = 3) (hmask : p.w 0 < 2 ^ 12) (hzero : bit (p.w 0) 0 = false)
    (hthere : (bitsOf 12 (p.w 0)).any (domainAbsent s) = false) (htol : p.w 1 ≤ 1000000)
    (hlimit : p.w 2 = 0 ∨ (100 ≤ p.w 2 ∧ p.w 2 ≤ 50000)) :
    cmdPwrLatencySet p s = (rechoose ((bitsOf 12 (p.w 0)).foldl (fun s d => s.modDomain d fun m =>
      { m with tolUs := p.w 1, wakeTimeoutUs := if p.w 2 = 0 then m.wakeTimeoutUs else p.w 2 }) s), .done stOk []) := by
  have hsmall : p.w 2 < 2 ^ 16 := by omega
  have htol' : ¬ 1000000 < p.w 1 := by omega
  have hlimit' : (decide (p.w 2 ≠ 0) && (decide (p.w 2 < 100) || decide (50000 < p.w 2))) = false := by simp; omega
  have hres := reservedSet_eq_false_of_lt (mask := 0xFFFFF000) hmask (by decide)
  have hres2 := reservedSet_eq_false_of_lt (mask := 0xFFFF0000) hsmall (by decide)
  rw [cmdPwrLatencySet, field_eq_self_of_lt hsmall, hlimit', hres, hres2, hzero, hthere]
  simp [hlen, htol']

/-- R618: past the checks of its form, PWR.GRAZE_CONFIG looks at the mode and at what its entries compare. -/
theorem cmdPwrGrazeConfig_formed {n : Nat} {es : List Nat} (hn : n = field (p.w 0) 14 5) (hes : es = (p.params.drop 2).map (·.toNat))
    (hlen : p.len = 2 + n) (hmax : n ≤ 16) (hperiod : 1 ≤ field (p.w 0) 0 14) (hperiod' : field (p.w 0) 0 14 ≤ 10000)
    (hres : reservedSet (p.w 0) 0xF0000000 = false) (hmaxS : p.w 1 < 2 ^ 16) (hgood : es.any compareBad = false)
    (hcan : (bitsOf 8 (field (p.w 0) 20 8)).any (fun c => canControllers s ≤ c) = false) :
    cmdPwrGrazeConfig p s = checked
      [(s.dev.mode ≠ .configure && s.dev.mode ≠ .ready, stBadMode), (es.any (fun e => !grazeRefOk s (field e 0 3) (field e 3 7)), stPwGrazeRef)] s
      (s.modPwr (fun q => { q with
        graze := some { periodMs := field (p.w 0) 0 14, monWake := bit (p.w 0) 19, canWake := field (p.w 0) 20 8, maxS := p.w 1, entries := es }
        masked := [], canMasked := [] }), .done stOk []) := by
  have hlen' : (decide (p.len < 2) || decide (p.len ≠ 2 + n)) = false := by simp; omega
  have hrange : (decide (16 < n) || decide (field (p.w 0) 0 14 < 1) || decide (10000 < field (p.w 0) 0 14)) = false := by simp; omega
  have hres1 := reservedSet_eq_false_of_lt (mask := 0xFFFF0000) hmaxS (by decide)
  rw [cmdPwrGrazeConfig, ← hn, ← hes, hlen', hrange, hres, hres1, hgood, hcan]
  simp only [Bool.or_self, checked_cons_false]

variable {m sev : Nat}

/-- R619: past the checks of its form, PWR.MONITOR_CONFIG looks at the order of its bounds. -/
theorem cmdPwrMonitorConfig_formed (hlen : p.len = 4) (hm : m ≤ 23) (hsev : sev ≤ 3) (hw : p.w 0 = m + 32 * sev) (hhyst : p.w 3 < 2 ^ 16)
    {lw hw' la ha : Int} (hlw : lw = monitorValue m (p.w 1)) (hhw : hw' = monitorValue m (p.w 1 / 2 ^ 16)) (hla : la = monitorValue m (p.w 2))
    (hha : ha = monitorValue m (p.w 2 / 2 ^ 16)) :
    cmdPwrMonitorConfig p s = checked [(decide (lw < la) || decide (hw' ≤ lw) || decide (ha < hw'), stRange)] s
      (s.modPwr (fun q => { q with monitors := setAt q.monitors m { s.pwr.monitors.getD m Monitor.temperature with
        lowWarn := lw, highWarn := hw', lowAlarm := la, highAlarm := ha, alarmSev := sev, hyst := p.w 3 } }), .done stOk []) := by
  have hindex : field (p.w 0) 0 5 = m := by rw [field]; omega
  have hseverity : field (p.w 0) 5 2 = sev := by rw [field]; omega
  have hres := reservedSet_eq_false_of_lt (x := p.w 0) (n := 7) (mask := 0xFFFFFF80) (by omega) (by decide)
  have hres3 := reservedSet_eq_false_of_lt (mask := 0xFFFF0000) hhyst (by decide)
  have hm' : ¬ 23 < m := by omega
  subst hlw hhw hla hha
  simp [cmdPwrMonitorConfig, hlen, hindex, hseverity, hres, hres3, hm', field_eq_self_of_lt hhyst]

/-- R621: past the checks of its form, PWR.DOMAIN_RETRY looks at the domain. -/
theorem cmdPwrDomainRetry_formed {d : Nat} (hlen : p.len = 1) (hw : p.w 0 = d) (hmin : 1 ≤ d) (hmax : d ≤ 11)
    (hthere : domainAbsent s d = false) (hmode : s.dev.mode = .configure ∨ s.dev.mode = .ready ∨ s.dev.mode = .safe) :
    cmdPwrDomainRetry p s = checked [(!(domain s d).failed, stPwNotFailed)] s
      ((if (domain s d).going.isSome then s else s.modDomain d fun m => { m with going := some .on, since := s.now, retrying := false }).defer
        .pwrDomainRetry p [d]) := by
  have hsmall : p.w 0 < 2 ^ 4 := by omega
  have hres := reservedSet_eq_false_of_lt (mask := 0xFFFFFFF0) hsmall (by decide)
  have hindex : field (p.w 0) 0 4 = d := (field_eq_self_of_lt hsmall).trans hw
  have hrange : ((d == 0) || decide (11 < d)) = false := by simp; omega
  have hfree : (decide (s.dev.mode ≠ .configure) && decide (s.dev.mode ≠ .ready) && decide (s.dev.mode ≠ .safe)) = false := by
    rcases hmode with hmode | hmode | hmode
    · simp [hmode]
    · simp [hmode]
    · simp [hmode]
  simp only [cmdPwrDomainRetry, hindex, hres, hthere, hfree, hrange]
  simp [hlen]

end Power

/-- Settles O13: each setting stands as written past its checks, and a retry raises the FAILED domain where nothing raises it yet. -/
theorem powerSettings : Obligations.PowerSettings := by
  refine fun p s => ⟨fun h hlen hmask hzero hthere htol hlimit => ?latency, fun h n es hn hes hlen hmax hperiod hperiod' hres hmaxS hgood hcan =>
    ?graze, fun h hlen m sev hm hsev hw hhyst lw hw' la ha hlw hhw hla hha => ?monitor, fun h hlen d hw hmin hmax hthere hmode => ?retry⟩
  case latency => exact command_done (body := cmdPwrLatencySet) h (cmdPwrLatencySet_done hlen hmask hzero hthere htol hlimit)
  case graze =>
    have formed := cmdPwrGrazeConfig_formed (s := s) hn hes hlen hmax hperiod hperiod' hres hmaxS hgood hcan
    refine ⟨fun hmode => ?_, fun hconf hready => command_done (body := cmdPwrGrazeConfig) h (by simp [formed, hconf, hready])⟩
    have free : (decide (s.dev.mode ≠ .configure) && decide (s.dev.mode ≠ .ready)) = false := by
      rcases hmode with hmode | hmode
      · simp [hmode]
      · simp [hmode]
    rw [free, checked_cons_false, ← List.not_all_eq_any_not] at formed
    refine ⟨fun hrefs => command_done (body := cmdPwrGrazeConfig) h ?_, fun hrefs => command_done (body := cmdPwrGrazeConfig) h ?_⟩
    · rw [formed, hrefs]
      rfl
    · rw [formed, hrefs]
      rfl
  case monitor =>
    have formed := cmdPwrMonitorConfig_formed (s := s) hlen hm hsev hw hhyst hlw hhw hla hha
    refine ⟨fun hlow hbetween hhigh => ?_, fun hwrong => command_done (body := cmdPwrMonitorConfig) h ?_⟩
    · have inOrder : (decide (lw < la) || decide (hw' ≤ lw) || decide (ha < hw')) = false := by simp; omega
      rw [inOrder, checked_cons_false, checked_nil] at formed
      exact ⟨_, command_done (body := cmdPwrMonitorConfig) h formed, rfl, rfl⟩
    · have outOfOrder : (decide (lw < la) || decide (hw' ≤ lw) || decide (ha < hw')) = true := by simp; omega
      rw [formed, outOfOrder, checked_cons_true]
  case retry =>
    have formed := cmdPwrDomainRetry_formed hlen hw hmin hmax hthere hmode
    refine ⟨fun hfailed hidle => ?_, fun hfailed hbusy => ?_, fun hsound => ?_⟩
    · exact command_waits (body := cmdPwrDomainRetry) h (by rw [formed, hfailed, hidle]; rfl)
    · exact command_waits (body := cmdPwrDomainRetry) h (by rw [formed, hfailed, Option.isSome_iff_ne_none.mpr hbusy]; rfl)
    · exact command_done (body := cmdPwrDomainRetry) h (by rw [formed, hsound]; rfl)

end Sys2Proof.Machine
end
section
/-! GRAPH.LOAD, GRAPH.ARM, GRAPH.DISARM and GRAPH.ROLLBACK (04 R144–R156). -/

namespace Sys2Proof.Machine

section Banks

variable {s : State} {n : Nat} {b : Bool} {f : Bank → Bank}

/-- A slot that is not the default one stands in the table as it was put. -/
theorem slotOf_modSlot {g : GSlot → GSlot} (hne : g (slotOf s n) ≠ {}) : slotOf (s.modSlot n g) n = g (slotOf s n) :=
  look_put_of_ne _ _ _ hne

/-- A bank that is not the default one stands in its slot as it was put. -/
theorem bank_modBank (hne : f ((slotOf s n).bank b) ≠ {}) : (slotOf (s.modBank n b f) n).bank b = f ((slotOf s n).bank b) := by
  cases b with
  | false =>
    refine congrArg (fun k : GSlot => k.bank false) (slotOf_modSlot fun hdefault => hne ?_)
    exact congrArg (fun k : GSlot => k.bank false) hdefault
  | true =>
    refine congrArg (fun k : GSlot => k.bank true) (slotOf_modSlot fun hdefault => hne ?_)
    exact congrArg (fun k : GSlot => k.bank true) hdefault

/-- What is done to one bank leaves the other of its slot, where that is not the default one. -/
theorem bank_modBank_not (hne : (slotOf s n).bank b ≠ {}) : (slotOf (s.modBank n (!b) f) n).bank b = (slotOf s n).bank b := by
  cases b with
  | false =>
    have put : slotOf (s.modBank n true f) n = { slotOf s n with bankB := f (slotOf s n).bankB } :=
      slotOf_modSlot fun hdefault => hne (congrArg (fun k : GSlot => k.bank false) hdefault)
    rw [Bool.not_false, put]
    rfl
  | true =>
    have put : slotOf (s.modBank n false f) n = { slotOf s n with bankA := f (slotOf s n).bankA } :=
      slotOf_modSlot fun hdefault => hne (congrArg (fun k : GSlot => k.bank true) hdefault)
    rw [Bool.not_true, put]
    rfl

/-- A bank in any state but EMPTY is not the default one. -/
theorem Bank.ne_default_of_state {k : Bank} {st : BankState} (hst : k.state = st) (hne : st ≠ .empty) : k ≠ {} := by
  rintro rfl
  exact hne hst.symm

/-- R145: shared variables that no bank uses are let go; the slots stay. -/
theorem slotOf_freeShared : slotOf s.freeShared n = slotOf s n := rfl

/-- R154: a bank that is cleared is LOADED and empty. -/
theorem bank_clearBank : ((slotOf (s.clearBank n b) n).bank b).state = .loaded ∧ ((slotOf (s.clearBank n b) n).bank b).length = 0 := by
  have cleared := bank_modBank (s := s.forgetBank n b) (n := n) (b := b) (f := fun k => { k with state := .loaded, length := 0 })
    (Bank.ne_default_of_state (st := .loaded) rfl (by decide))
  have same : (slotOf (s.clearBank n b) n).bank b =
      (slotOf ((s.forgetBank n b).modBank n b fun k => { k with state := .loaded, length := 0 }) n).bank b := rfl
  rw [same, cleared]
  exact ⟨rfl, rfl⟩

/-- R144: a bank written after its verification is LOADED again. -/
theorem bank_reloaded (hst : ((slotOf s n).bank b).state = .verified) :
    let t := ((s.forgetBank n b).modBank n b fun k => { k with state := .loaded }).freeShared
    ((slotOf t n).bank b).state = .loaded ∧ ((slotOf t n).bank b).length = ((slotOf s n).bank b).length := by
  have forgotten := bank_modBank (s := s) (n := n) (b := b) (f := fun k => { k with bases := [], words := [], plan := [] })
    (Bank.ne_default_of_state (st := .verified) hst (by decide))
  have reloaded := bank_modBank (s := s.forgetBank n b) (n := n) (b := b) (f := fun k => { k with state := .loaded })
    (Bank.ne_default_of_state (st := .loaded) rfl (by decide))
  intro t
  have same : (slotOf t n).bank b = { (slotOf (s.forgetBank n b) n).bank b with state := .loaded } := reloaded
  have before : (slotOf (s.forgetBank n b) n).bank b = { (slotOf s n).bank b with bases := [], words := [], plan := [] } := forgotten
  rw [same, before]
  exact ⟨rfl, rfl⟩

/-- R144: where the standby bank loses its verification, a bank that is LOADED stays as it is. -/
theorem bank_unverifyStandby (hst : ((slotOf s n).bank b).state = .loaded) :
    (slotOf (s.unverifyStandby n) n).bank b = (slotOf s n).bank b := by
  unfold State.unverifyStandby
  extract_lets c st
  split
  next hstandby =>
    have other : c = !b := by
      by_contra hsame
      have isB : c = b := by revert hsame; cases c <;> cases b <;> simp
      have : st = .loaded := by simp only [st, standbyBank]; rw [show (!(slotOf s n).activeB) = b from isB]; exact hst
      rw [this] at hstandby
      simp at hstandby
    have hne := Bank.ne_default_of_state hst (by decide)
    rw [slotOf_freeShared, other]
    have forgotten : (slotOf (s.forgetBank n !b) n).bank b = (slotOf s n).bank b := bank_modBank_not hne
    exact (bank_modBank_not (s := s.forgetBank n !b) (by rw [forgotten]; exact hne)).trans forgotten
  next => rfl

end Banks

section Loading

variable {p : Packet} {s : State} {n : Nat} {b : Bool} {off : Nat} {k : Bank}

/-- R154: the device whose bank is about to take words: cleared with FIRST, LOADED again after a verification. -/
def bankOpened (first : Bool) (n : Nat) (b : Bool) (s : State) : State :=
  let k := (slotOf s n).bank b
  let t := if first then s.clearBank n b
    else if k.state = .verified then ((s.forgetBank n b).modBank n b fun k => { k with state := .loaded }).freeShared else s
  if b == (slotOf s n).activeB then t.unverifyStandby n else t

/-- R144, R154: a bank that may take words is LOADED when they come, with its length, or anew with FIRST. -/
theorem bank_bankOpened {first : Bool} (hk : k = (slotOf s n).bank b) (hmay : first = true ∨ k.state = .loaded ∨ k.state = .verified) :
    ((slotOf (bankOpened first n b s) n).bank b).state = .loaded ∧
      ((slotOf (bankOpened first n b s) n).bank b).length = if first then 0 else k.length := by
  subst hk
  have unverified (t : State) (u : State) (hu : u = if b == (slotOf s n).activeB then t.unverifyStandby n else t)
      (ht : ((slotOf t n).bank b).state = .loaded) : (slotOf u n).bank b = (slotOf t n).bank b := by
    rw [hu]
    split
    · exact bank_unverifyStandby ht
    · rfl
  cases first with
  | true =>
    obtain ⟨hstate, hlength⟩ := bank_clearBank (s := s) (n := n) (b := b)
    rw [unverified (s.clearBank n b) (bankOpened true n b s) rfl hstate]
    exact ⟨hstate, hlength⟩
  | false =>
    by_cases hst : ((slotOf s n).bank b).state = .verified
    · obtain ⟨hstate, hlength⟩ := bank_reloaded hst
      rw [unverified _ (bankOpened false n b s) (by simp [bankOpened, hst]) hstate]
      exact ⟨hstate, hlength⟩
    · have hstate : ((slotOf s n).bank b).state = .loaded := by simpa [hst] using hmay
      rw [unverified s (bankOpened false n b s) (by simp [bankOpened, hst]) hstate]
      exact ⟨hstate, rfl⟩

/-- R154: opening a bank changes the graph unit, and with FIRST the bytes of the bank. -/
theorem bankOpened_eq (first : Bool) (n : Nat) (b : Bool) (s : State) :
    ∃ g, bankOpened first n b s = { s with graph := g, mem := if first then { s.mem with
      store := clearRange (bankAddr n b) (bankAddr n b + 0x200000) s.mem.store } else s.mem } := by
  have unverified (t : State) : ∃ g, (if b == (slotOf s n).activeB then t.unverifyStandby n else t) = { t with graph := g } := by
    split
    · unfold State.unverifyStandby
      extract_lets c st
      split
      · exact ⟨_, rfl⟩
      · exact ⟨_, rfl⟩
    · exact ⟨_, rfl⟩
  have reloaded (t : State) : ∃ g, ((t.forgetBank n b).modBank n b fun k => { k with state := .loaded }).freeShared = { t with graph := g } :=
    ⟨_, rfl⟩
  have cleared : ∃ g, s.clearBank n b = { s with graph := g, mem := { s.mem with
      store := clearRange (bankAddr n b) (bankAddr n b + 0x200000) s.mem.store } } := ⟨_, rfl⟩
  cases first with
  | true =>
    obtain ⟨g, opened⟩ := unverified (s.clearBank n b)
    obtain ⟨g', cleared⟩ := cleared
    rw [bankOpened, if_pos rfl, opened, cleared]
    exact ⟨g, rfl⟩
  | false =>
    by_cases hst : ((slotOf s n).bank b).state = .verified
    · obtain ⟨g', reloaded⟩ := reloaded s
      rw [bankOpened, if_neg Bool.false_ne_true, if_pos hst, reloaded]
      obtain ⟨g, opened⟩ := unverified { s with graph := g' }
      rw [opened]
      exact ⟨g, rfl⟩
    · obtain ⟨g, opened⟩ := unverified s
      rw [bankOpened, if_neg Bool.false_ne_true, if_neg hst, opened]
      exact ⟨g, rfl⟩

/-- R154: past the checks of its form, GRAPH.LOAD looks at the bank. -/
theorem cmdGraphLoad_formed (hlen : 3 ≤ p.len) (hres : reservedSet (p.w 0) 0xFFFFFFF0 = false) (hres1 : reservedSet (p.w 1) 0xFFF80000 = false)
    (hn : n = field (p.w 0) 0 2) (hb : b = bit (p.w 0) 2) (hoff : off = field (p.w 1) 0 19) (hfits : off + (p.len - 2) ≤ 524288)
    (hk : k = (slotOf s n).bank b) :
    cmdGraphLoad p s = checked
      [((k.state == .empty || k.state == .previous || k.state == .active) && !bit (p.w 0) 3, stRange),
       (k.state == .armed || k.state == .armedBack || b == (slotOf s n).activeB && slotState s n != 0, stGrBankBusy),
       (b == (slotOf s n).activeB && (notConfiguring s || changeoverPending s), stBadMode)] s
      (((bankOpened (bit (p.w 0) 3) n b s).writeWords (bankAddr n b + 4 * off) (p.params.drop 2)).modBank n b
        fun k => { k with length := max k.length (off + (p.len - 2)) }, .done stOk []) := by
  have hlen' : decide (p.len < 3) = false := by simp; omega
  have hfits' : decide (524288 < off + (p.len - 2)) = false := by simp; omega
  have hslot : slotArg p = n := hn.symm
  have hbank : bankArg p = b := hb.symm
  subst hk
  rw [cmdGraphLoad]
  simp only [hslot, hbank, ← hoff, hlen', hfits', hres, hres1, Bool.false_or, checked_cons_false]
  rfl

/-- R154: only a bank that needs FIRST is turned away without it. -/
theorem needsFirst_of_may {first : Bool} (hmay : first = true ∨ k.state = .loaded ∨ k.state = .verified) :
    ((k.state == .empty || k.state == .previous || k.state == .active) && !first) = false := by
  rcases hmay with rfl | hst | hst
  · exact Bool.and_false _
  · rw [hst]
    rfl
  · rw [hst]
    rfl

/-- What GRAPH.LOAD makes of the device: the bank opened, the words in it, its length grown. -/
def bankLoaded (first : Bool) (n : Nat) (b : Bool) (off : Nat) (ws : List Word) (s : State) : State :=
  ((bankOpened first n b s).writeWords (bankAddr n b + 4 * off) ws).modBank n b fun k => { k with length := max k.length (off + ws.length) }

/-- R154: the bank takes the words and grows by them. -/
theorem bank_bankLoaded {first : Bool} (hk : k = (slotOf s n).bank b) (hmay : first = true ∨ k.state = .loaded ∨ k.state = .verified)
    (ws : List Word) :
    ((slotOf (bankLoaded first n b off ws s) n).bank b).state = .loaded ∧
      ((slotOf (bankLoaded first n b off ws s) n).bank b).length = max (if first then 0 else k.length) (off + ws.length) := by
  obtain ⟨hstate, hlength⟩ := bank_bankOpened hk hmay
  obtain ⟨m, j, written⟩ := (bankOpened first n b s).writeBytes_eq (bankAddr n b + 4 * off) (ws.flatMap bytesOf)
  have same : (slotOf ((bankOpened first n b s).writeWords (bankAddr n b + 4 * off) ws) n).bank b = (slotOf (bankOpened first n b s) n).bank b := by
    rw [State.writeWords, written]
    rfl
  have grown := bank_modBank (s := (bankOpened first n b s).writeWords (bankAddr n b + 4 * off) ws) (n := n) (b := b)
    (f := fun k => { k with length := max k.length (off + ws.length) })
    (Bank.ne_default_of_state (st := .loaded) ((congrArg Bank.state same).trans hstate) (by decide))
  rw [bankLoaded, grown, same]
  exact ⟨hstate, by rw [hlength]⟩

/-- R154: the memory of the bank: its words where they are written, zeros around them with FIRST, and what was there without. -/
theorem readByte_bankLoaded (hcanon : Canonical s) (first : Bool) (ws : List Word) :
    (∀ i < 4 * ws.length, readByte (bankLoaded first n b off ws s) (bankAddr n b + 4 * off + i) = (ws.flatMap bytesOf).getD i 0) ∧
    (∀ x, x < bankAddr n b + 4 * off ∨ bankAddr n b + 4 * off + 4 * ws.length ≤ x → readByte (bankLoaded first n b off ws s) x =
      if first = true ∧ bankAddr n b ≤ x ∧ x < bankAddr n b + 2097152 then 0 else readByte s x) := by
  obtain ⟨g, opened⟩ := bankOpened_eq first n b s
  have hcanon' : Canonical (bankOpened first n b s) := by
    rw [opened]
    cases first with
    | true => exact clearRange_wf _ _ hcanon
    | false => exact hcanon
  have bytes (x : Nat) : readByte (bankLoaded first n b off ws s) x =
      readByte ((bankOpened first n b s).writeBytes (bankAddr n b + 4 * off) (ws.flatMap bytesOf)) x := rfl
  refine ⟨fun i hi => ?_, fun x hx => ?_⟩
  · rw [bytes]
    exact readByte_writeBytes_at hcanon' (by rwa [flatMap_bytesOf_length])
  · rw [bytes, readByte_writeBytes_other hcanon' (by rwa [flatMap_bytesOf_length]), opened]
    cases first with
    | true =>
      refine (look_filter (fun e => ¬ (bankAddr n b ≤ e ∧ e < bankAddr n b + 0x200000)) x hcanon).trans ?_
      by_cases hin : bankAddr n b ≤ x ∧ x < bankAddr n b + 2097152
      · simp [hin]
      · simp only [hin, not_false_eq_true, decide_true, if_true, and_false, if_false]
        rfl
    | false => simp [readByte]

end Loading

section Moves

variable {p : Packet} {s : State} {n : Nat} {st : BankState}

theorem cmdGraphArm_formed (hlen : p.len = 1) (hw : p.w 0 = n) (hn : n < 4) (hfree : changeoverPending s = false)
    (hst : (standbyBank s n).state = st) :
    cmdGraphArm p s = checked [(st != .verified, stGrNotVerified), (!genNewer s n, stGrGenOld)] s
      (s.modBank n (!(slotOf s n).activeB) fun k => { k with state := .armed }, .done stOk []) := by
  have hslot : slotArg p = n := by rw [slotArg, field_eq_self_of_lt (by omega), hw]
  have hres := reservedSet_eq_false_of_lt (x := p.w 0) (n := 2) (mask := 0xFFFFFFFC) (by omega) (by decide)
  simp only [cmdGraphArm, hslot, hres, hfree, hst]
  simp [hlen]

theorem cmdGraphDisarm_formed (hlen : p.len = 1) (hw : p.w 0 = n) (hn : n < 4) (hfree : changeoverPending s = false)
    (hst : (standbyBank s n).state = st) :
    cmdGraphDisarm p s = checked [(st != .armed && st != .armedBack, stGrNoPrevious)] s
      (s.modBank n (!(slotOf s n).activeB) fun k => { k with state := if st = .armed then .verified else .previous }, .done stOk []) := by
  have hslot : slotArg p = n := by rw [slotArg, field_eq_self_of_lt (by omega), hw]
  have hres := reservedSet_eq_false_of_lt (x := p.w 0) (n := 2) (mask := 0xFFFFFFFC) (by omega) (by decide)
  simp only [cmdGraphDisarm, hslot, hres, hfree, hst]
  simp [hlen]

theorem cmdGraphRollback_formed (hlen : p.len = 1) (hw : p.w 0 = n) (hn : n < 4) (hfree : changeoverPending s = false)
    (hst : (standbyBank s n).state = st) :
    cmdGraphRollback p s = checked
      [(st != .previous, stGrNoPrevious), (1024 < ((standbyBank s n).plan.map (·.copies)).sum, stGrCarry)] s
      (s.modBank n (!(slotOf s n).activeB) fun k => { k with state := .armedBack }, .done stOk (rollbackWords s n)) := by
  have hslot : slotArg p = n := by rw [slotArg, field_eq_self_of_lt (by omega), hw]
  have hres := reservedSet_eq_false_of_lt (x := p.w 0) (n := 2) (mask := 0xFFFFFFFC) (by omega) (by decide)
  simp only [cmdGraphRollback, hslot, hres, hfree, hst]
  simp [hlen]

end Moves

/-- Settles O14: the bank is opened (`bankOpened`), takes its words and grows; the other three move the standby bank. -/
theorem graphLoads : Obligations.GraphLoads := by
  refine ⟨fun p s n b off k h hcanon hlen hres hres1 hn hb hoff hfits hk => ?load, fun p s n hlen hw hn hfree st hst =>
    ⟨fun h => ?arm, fun h => ?disarm, fun h => ?rollback⟩⟩
  case load =>
    have formed := cmdGraphLoad_formed (s := s) hlen hres hres1 hn hb hoff hfits hk
    refine ⟨fun hfirst hneeds => command_done (body := cmdGraphLoad) h ?_, fun harmed => command_done (body := cmdGraphLoad) h ?_,
      fun hmay hnot hnot' hactive => ⟨fun hruns => command_done (body := cmdGraphLoad) h ?_,
        fun hstopped hmode => command_done (body := cmdGraphLoad) h ?_⟩, fun hmay hnot hnot' hfree => ?_⟩
    · rcases hneeds with hneeds | hneeds | hneeds
      all_goals
        rw [formed, hneeds, hfirst]
        rfl
    · rcases harmed with harmed | harmed
      all_goals
        rw [formed, harmed]
        rfl
    · rw [formed, needsFirst_of_may hmay, beq_false_of_ne hnot, beq_false_of_ne hnot', beq_iff_eq.mpr hactive, bne_iff_ne.mpr hruns]
      rfl
    · have hmode' : (notConfiguring s || changeoverPending s) = true := by simpa using hmode
      rw [formed, needsFirst_of_may hmay, beq_false_of_ne hnot, beq_false_of_ne hnot', beq_iff_eq.mpr hactive, hstopped, hmode']
      rfl
    · have hstands : (b == (slotOf s n).activeB && slotState s n != 0) = false ∧
          (b == (slotOf s n).activeB && (notConfiguring s || changeoverPending s)) = false := by
        rcases hfree with hstandby | ⟨hstopped, hmode, hpending⟩
        · simp [beq_false_of_ne hstandby]
        · simp [hstopped, hmode, hpending]
      rw [needsFirst_of_may hmay, beq_false_of_ne hnot, beq_false_of_ne hnot', hstands.1, hstands.2] at formed
      have hcount : (p.params.drop 2).length = p.len - 2 := by simp [Packet.len]
      rw [← hcount] at formed ⊢
      obtain ⟨hstate, hlength⟩ := bank_bankLoaded (off := off) hk hmay (p.params.drop 2)
      obtain ⟨hwritten, hrest⟩ := readByte_bankLoaded (n := n) (b := b) (off := off) hcanon (bit (p.w 0) 3) (p.params.drop 2)
      obtain ⟨g, opened⟩ := bankOpened_eq (bit (p.w 0) 3) n b s
      obtain ⟨m, j, written⟩ := (bankOpened (bit (p.w 0) 3) n b s).writeBytes_eq (bankAddr n b + 4 * off) ((p.params.drop 2).flatMap bytesOf)
      have others : ∃ g m j, bankLoaded (bit (p.w 0) 3) n b off (p.params.drop 2) s = { s with graph := g, mem := m, keep := j } := by
        rw [bankLoaded, State.writeWords, written, opened]
        exact ⟨_, _, _, rfl⟩
      obtain ⟨g', m', j', others⟩ := others
      refine ⟨bankLoaded (bit (p.w 0) 3) n b off (p.params.drop 2) s, command_done (body := cmdGraphLoad) h formed, hstate, hlength,
        hwritten, hrest, ?_⟩
      rw [others]
      exact ⟨rfl, rfl, rfl, rfl⟩
  case arm =>
    have formed := cmdGraphArm_formed hlen hw hn hfree hst
    refine ⟨fun hver hgen => command_done (body := cmdGraphArm) h ?_, fun hnot => command_done (body := cmdGraphArm) h ?_,
      fun hver hgen => command_done (body := cmdGraphArm) h ?_⟩
    · rw [formed, hver, hgen]
      rfl
    · rw [formed, bne_iff_ne.mpr hnot]
      rfl
    · rw [formed, hver, hgen]
      rfl
  case disarm =>
    have formed := cmdGraphDisarm_formed hlen hw hn hfree hst
    refine ⟨fun harmed => command_done (body := cmdGraphDisarm) h ?_, fun hback => command_done (body := cmdGraphDisarm) h ?_,
      fun hnot hnot' => command_done (body := cmdGraphDisarm) h ?_⟩
    · rw [formed, harmed]
      rfl
    · rw [formed, hback]
      rfl
    · rw [formed, bne_iff_ne.mpr hnot, bne_iff_ne.mpr hnot']
      rfl
  case rollback =>
    have formed := cmdGraphRollback_formed hlen hw hn hfree hst
    refine ⟨fun hnot => command_done (body := cmdGraphRollback) h ?_, fun hprev hmany => command_done (body := cmdGraphRollback) h ?_,
      fun hprev hfew => command_done (body := cmdGraphRollback) h ?_⟩
    · rw [formed, bne_iff_ne.mpr hnot]
      rfl
    · rw [formed, hprev, decide_eq_true hmany]
      rfl
    · rw [formed, hprev, decide_eq_false (Nat.not_lt.mpr hfew)]
      rfl

end Sys2Proof.Machine
end
section
/-! GRAPH.STEP on a device whose table of cores lists a core twice (04 R158). -/

namespace Sys2Proof.Machine

/-- An execution of slot 3 in progress. -/
def executionOfSlot3 : Exec := { tag := 7, due := 8, inputNs := 0, readyAt := 0, inputs := {}, sys := [], prevDins := none, prevNs := 0, left := 1 }

/-- A device with a control cycle in RUN whose slot 3 is held within an execution. Core 0 is listed twice: first with the operation that
is ready, then with a step of slot 2. -/
def heldOnTwiceListedCore : State :=
  (((resetIn .run).modDrove fun d => { d with cfg := { d.cfg with cycleUs := 100, mult := 1 } }).modSlot 3 fun k =>
    { k with enabled := true, held := true, exec := some executionOfSlot3 }).modSched fun u => { u with cores :=
      [(0, { lists := [{ slot := 3, op := 0, prio := 0, at' := 0 }] }), (0, { step := [{ slot := 2, op := 1, prio := 0, at' := 0 }] })] }

/-- How many steps core 0 has to do after an instruction. -/
def stepsAfter (o : Host.Outcome State Fault Refusal) : Nat :=
  match o with
  | .next t => (coreOf t 0).step.length
  | _ => 0

/-- Refutes O15: a core whose list gives up its only operation leaves the table, and on `heldOnTwiceListedCore` a second entry of the core
shows, whose step stands before the one of this command; the statement allows any table of cores. -/
theorem not_programCommandsWait : ¬ Obligations.ProgramCommandsWait := by
  intro h
  obtain ⟨-, -, hstep, -⟩ := h (packetWith [3, 1]) heldOnTwiceListedCore 3 (by decide +kernel) (by decide +kernel)
  obtain ⟨-, -, hready, -⟩ := hstep (by decide +kernel) (by decide) (by decide) (by decide) (by decide)
  obtain ⟨t, hnext, hcore, -⟩ := hready executionOfSlot3 0 (by decide +kernel) rfl rfl (by decide +kernel) (by decide +kernel) (by decide +kernel)
  have two : stepsAfter (exec (.graphStep (packetWith [3, 1])) heldOnTwiceListedCore) = 2 := by decide +kernel
  have one : stepsAfter (exec (.graphStep (packetWith [3, 1])) heldOnTwiceListedCore) = 1 := by
    rw [hnext]
    exact congrArg List.length hcore
  omega

end Sys2Proof.Machine
end
section
/-! What taking requests does to the loop engine (06 R198, R209, R214), and LOOP.CHANNEL_CONFIG (06 R195, R217, R223). -/

namespace Sys2Proof.Machine

/-- `u` is `s` but for loop memory past the settings and banks of its channels, what the loop engine remembers, and replies. -/
structure LoopTook (s u : State) : Prop where
  frame : ∃ m k l h o d, u = { s with mem := m, keep := k, loop := l, host := h, outbox := o, drove := { s.drove with upOut := d } }
  bytes : Canonical s → Canonical u ∧ ∀ c < 1024, ∀ x < 0x280, readByte u (loopAddr c + x) = readByte s (loopAddr c + x)

namespace LoopTook

variable {s t u : State}

theorem refl (s : State) : LoopTook s s := ⟨⟨_, _, _, _, _, _, rfl⟩, fun h => ⟨h, fun _ _ _ _ => rfl⟩⟩

theorem trans (h : LoopTook s t) (k : LoopTook t u) : LoopTook s u := by
  refine ⟨?_, fun hs => ?_⟩
  · obtain ⟨_, _, _, _, _, _, rfl⟩ := h.frame
    obtain ⟨_, _, _, _, _, _, rfl⟩ := k.frame
    exact ⟨_, _, _, _, _, _, rfl⟩
  · obtain ⟨ht, hbytes⟩ := h.bytes hs
    obtain ⟨hu, kbytes⟩ := k.bytes ht
    exact ⟨hu, fun c hc x hx => (kbytes c hc x hx).trans (hbytes c hc x hx)⟩

theorem foldl {α : Type} {f : State → α → State} (hf : ∀ s a, LoopTook s (f s a)) (l : List α) : ∀ s, LoopTook s (l.foldl f s) := by
  induction l with
  | nil => exact refl
  | cons a l ih => exact fun s => (hf s a).trans (ih _)

theorem of_replied (h : s.Replied u) : LoopTook s u := by
  obtain ⟨_, _, _, rfl⟩ := h
  exact ⟨⟨_, _, _, _, _, _, rfl⟩, fun h => ⟨h, fun _ _ _ _ => rfl⟩⟩

theorem modLoopCh (s : State) (c : Nat) (f : LoopCh → LoopCh) : LoopTook s (s.modLoopCh c f) :=
  ⟨⟨_, _, _, _, _, _, rfl⟩, fun h => ⟨h, fun _ _ _ _ => rfl⟩⟩

/-- 06 R196: the status words of a channel lie past its settings and banks. -/
theorem setStW (s : State) {c i : Nat} (hi : i < 96) (v : Nat) : LoopTook s (s.setStW c i v) := by
  refine ⟨?_, fun hcanon => ⟨State.writeWord_canonical _ _ hcanon, fun d hd x hx => ?_⟩⟩
  · obtain ⟨m, k, written⟩ := s.writeBytes_eq (loopAddr c + 0x280 + 4 * i) (bytesOfNat 4 v)
    exact ⟨m, k, _, _, _, _, written⟩
  · refine readByte_writeBytes_other hcanon ?_
    rw [bytesOfNat_length]
    simp only [loopAddr]
    omega

theorem setStatus (s : State) (c lo n v : Nat) : LoopTook s (s.setStatus c lo n v) := setStW s (by decide) _

/-- 06 R203: the profile tables lie past the blocks of the channels. -/
theorem clearTable (s : State) (t : Nat) : LoopTook s (s.clearTable t) := by
  refine ⟨?_, fun hcanon => ⟨State.zeroBytes_canonical _ _ hcanon, fun d hd x hx => ?_⟩⟩
  · obtain ⟨m, k, cleared⟩ := s.zeroBytes_eq (pointAddr t 0) 0x4000
    exact ⟨m, k, _, _, _, _, cleared⟩
  · have kept := look_filter (d := (0 : Byte)) (fun e => ¬ (pointAddr t 0 ≤ e ∧ e < pointAddr t 0 + 0x4000)) (loopAddr d + x) hcanon
    have out : ¬ (pointAddr t 0 ≤ loopAddr d + x ∧ loopAddr d + x < pointAddr t 0 + 0x4000) := by
      simp only [pointAddr, loopAddr]
      omega
    simp only [readByte, State.clearTable, State.zeroBytes_store, clearRange]
    refine kept.trans ?_
    simp [out]

theorem swapBank (s : State) (c : Nat) : LoopTook s (s.swapBank c) := by
  unfold State.swapBank
  extract_lets b n0 n1 st t back
  have swapped : LoopTook s t := (setStatus s _ _ _ _).trans (modLoopCh _ _ _)
  split
  · exact swapped
  · split
    · exact swapped.trans ((setStatus _ _ _ _ _).trans (modLoopCh _ _ _))
    · exact swapped.trans (clearTable _ _)

theorem repAction (s : State) (c action : Nat) : LoopTook s (s.repAction c action) := by
  unfold State.repAction
  extract_lets set
  have hset (v : Nat) : LoopTook s (set v) := by
    simp only [set]
    split
    · exact modLoopCh _ _ _
    · exact setStatus _ _ _ _ _
  split
  · exact refl s
  · split
    · exact hset _
    · exact hset _
    · exact hset _
    · exact clearTable _ _

theorem loopTake (s : State) (op : Op) (p : Packet) (c : Nat) : LoopTook s (s.loopTake op p c) := by
  unfold State.loopTake
  split
  · split
    · exact swapBank s c
    · exact refl s
  · extract_lets t u
    have moved : LoopTook s u := (setStW s (by decide) _).trans (setStatus _ _ _ _ _)
    split
    · exact moved.trans (setStatus _ _ _ _ _)
    · exact moved
  · exact repAction s c _

theorem takeRequests (s : State) (c : Nat) : LoopTook s (s.takeRequests c) := by
  unfold State.takeRequests
  extract_lets k t u v mine w took x
  have swapped : LoopTook s t := by
    simp only [t]
    split
    · exact swapBank s c
    · exact refl s
  have cleared : LoopTook s u := swapped.trans (modLoopCh _ _ _)
  have acted : LoopTook s v := by
    simp only [v]
    split
    · exact cleared.trans ((repAction _ _ _).trans (modLoopCh _ _ _))
    · exact cleared
  exact ((acted.trans (foldl (fun _ (d : Deferred) => loopTake _ d.op d.packet c) _ _)).trans (of_replied (State.modHost_replied _ _))).trans
    (of_replied (State.settle_replied _ _ _))

end LoopTook

section ChannelSettings

variable {p : Packet} {s s1 t u : State} {c d i w0 : Nat} {w : Nat → Nat} {ws : List Word}

/-- Words of a channel's block before its status are as its bytes are. -/
theorem cfgW_of_bytes (hbytes : ∀ x < 0x280, readByte u (loopAddr c + x) = readByte s (loopAddr c + x)) (hi : i < 160) :
    cfgW u c i = cfgW s c i := by
  refine readNat_congr fun j hj => ?_
  rw [Nat.add_assoc]
  exact hbytes _ (by omega)

theorem LoopTook.cfgW (h : LoopTook s u) (hcanon : Canonical s) (hc : c < 1024) (hi : i < 14) : Machine.cfgW u c i = Machine.cfgW s c i :=
  cfgW_of_bytes ((h.bytes hcanon).2 c hc) (by omega)

/-- R223: the settings of the channel written stand as written, the rest of its block and every other channel as before. -/
theorem cfgW_writeWords_at (hcanon : Canonical s) (hi : i < ws.length) : cfgW (s.writeWords (loopAddr c) ws) c i = (ws.getD i 0).toNat :=
  readWord_writeWords_at hcanon hi

theorem cfgW_writeWords_past (hcanon : Canonical s) (hi : ws.length ≤ i) : cfgW (s.writeWords (loopAddr c) ws) c i = cfgW s c i :=
  readWord_writeWords_other hcanon (Or.inr (by omega))

theorem cfgW_writeWords_other (hcanon : Canonical s) (hd : d ≠ c) (hlen : ws.length ≤ 512) (hi : i < 512) :
    cfgW (s.writeWords (loopAddr c) ws) d i = cfgW s d i := by
  refine readWord_writeWords_other hcanon ?_
  simp only [loopAddr]
  omega

theorem loopChannels_le (s : State) : loopChannels s ≤ 1024 := by
  unfold loopChannels
  split <;> decide

/-- The twelve words of the block that LOOP.CHANNEL_CONFIG writes. -/
def channelWords (p : Packet) (w0 : Nat) : List Word := wd w0 :: (p.params.drop 2).take 11

theorem channelWords_length (hlen : p.len = 13) : (channelWords p w0).length = 12 := by
  rw [Packet.len] at hlen
  simp [channelWords, hlen]

theorem channelWords_zero : ((channelWords p w0).getD 0 0).toNat = w0 % 2 ^ 32 := by simp [channelWords, wd]

theorem channelWords_succ (hi : i < 11) : ((channelWords p w0).getD (i + 1) 0).toNat = p.w (1 + (i + 1)) := by
  have two : 1 + (i + 1) = 2 + i := by omega
  simp [channelWords, Packet.w, hi, two]

/-- R223: past the checks of its form, LOOP.CHANNEL_CONFIG looks at the mode, the processor, the destination and the references. -/
theorem cmdLoopChannelConfig_formed (hlen : p.len = 13) (hc : c = field (p.w 0) 0 10) (hthere : c < loopChannels s)
    (hres : reservedSet (p.w 0) 0xFFFFFC00 = false) (hw : w = fun i => p.w (1 + i)) (hrange : loopCfgRange s w = false)
    (hw0 : w0 = (if bit (w 0) 18 && bit (w 0) 14 then withField (w 0) 15 3 (chooseProc s c) else w 0))
    (hs1 : s1 = s.writeWords (loopAddr c) (channelWords p w0)) :
    cmdLoopChannelConfig p s = checked
      [(!(!notConfiguring s || ((s.dev.mode == .run || s.dev.mode == .hold) && (!loopEnabled s c || !bit (w 0) 14))), stBadMode),
       (bit (w 0) 14 && procOver s1 (field w0 15 3), stLpBudget),
       (bit (w 0) 14 && (enabledLoops s).any (fun d => d != c && sameDest (cfgW s d 7) (w 7)), stLpDestUsed),
       ((s.dev.mode == .run || s.dev.mode == .hold) && bit (w 0) 14 && loopRefBad s w, stLpRef)] s
      (let t := if loopEnabled s c && !bit (w 0) 14
         then (s.writeDest c (destValue s c (cfgW s c 10))).writeWords (loopAddr c) (channelWords p w0) else s1
       let t := if loopEnabled s c then t.releasePwm (cfgW s c 7) else t
       let t := if bit (w 0) 14 then t else t.takeRequests c
       (t.modLoopCh c fun k => { k with fresh := bit (w 0) 14, released := none, bumpless := false },
        .done stOk (if bit (w 0) 18 then [wd (field w0 15 3)] else []))) := by
  have hthere' : decide (loopChannels s ≤ c) = false := by simp; omega
  have hlen' : decide (p.len ≠ 13) = false := by simp [hlen]
  subst hw hw0 hs1 hc
  rw [cmdLoopChannelConfig]
  simp only [hlen', hthere', hres, hrange, Bool.or_self, checked_cons_false]
  rfl

/-- A PWM output falls back when its loop lets it go (06 R200): the digital I/O alone changes. -/
theorem State.releasePwm_eq (s : State) (w : Nat) : ∃ d, s.releasePwm w = { s with dio := d } := by
  unfold State.releasePwm
  extract_lets n
  split
  · exact ⟨_, rfl⟩
  · exact ⟨_, rfl⟩

/-- A PWM output that drives no substitute value stays (06 R200). -/
theorem State.releasePwm_of_not_substitute (h : s.dio.substitute = false) (w : Nat) : s.releasePwm w = s := by
  simp [State.releasePwm, h]

/-- R198: a channel that is disabled drives OUT_SUBST first; its settings are then as written. -/
theorem State.writeDest_eq (s : State) (c v : Nat) : ∃ d o, s.writeDest c v = { s with dio := d, drove := { s.drove with outWords := o } } := by
  unfold State.writeDest
  extract_lets w x
  split
  · exact ⟨_, _, rfl⟩
  · exact ⟨_, _, rfl⟩
  · exact ⟨_, _, rfl⟩

theorem State.writeDest_of_pwm (hpwm : field (cfgW s c 7) 0 4 = 1) (v : Nat) :
    s.writeDest c v = s.modPwm (field (cfgW s c 7) 4 5) fun q => { q with shadow := clampDuty v } := by
  simp only [State.writeDest, hpwm]

/-- What is remembered of a channel stands as it was put, where it is not the default. -/
theorem loopOf_modLoopCh {f : LoopCh → LoopCh} (hne : f (loopOf s c) ≠ {}) : loopOf (s.modLoopCh c f) c = f (loopOf s c) :=
  look_put_of_ne _ _ _ hne

/-- What LOOP.CHANNEL_CONFIG makes of a channel that it enables. -/
def channelEnabled (c : Nat) (ws : List Word) (s : State) : State :=
  let t := s.writeWords (loopAddr c) ws
  (if loopEnabled s c then t.releasePwm (cfgW s c 7) else t).modLoopCh c fun k => { k with fresh := true, released := none, bumpless := false }

/-- What LOOP.CHANNEL_CONFIG makes of a channel that it disables. -/
def channelDisabled (c : Nat) (ws : List Word) (s : State) : State :=
  let t := if loopEnabled s c
    then ((s.writeDest c (destValue s c (cfgW s c 10))).writeWords (loopAddr c) ws).releasePwm (cfgW s c 7) else s.writeWords (loopAddr c) ws
  (t.takeRequests c).modLoopCh c fun k => { k with fresh := false, released := none, bumpless := false }

/-- R223: the state of a channel that is enabled, and what stays. -/
theorem channelEnabled_spec (hcanon : Canonical s) (hlen : ws.length = 12) (hu : u = channelEnabled c ws s) :
    (∀ i < 12, cfgW u c i = (ws.getD i 0).toNat) ∧ cfgW u c 12 = cfgW s c 12 ∧ cfgW u c 13 = cfgW s c 13 ∧ (loopOf u c).fresh = true ∧
    (∀ d < loopChannels s, d ≠ c → ∀ i < 14, cfgW u d i = cfgW s d i) ∧ (loopEnabled s c = false → u.dio = s.dio) ∧
    u.drove = s.drove ∧ u.dev = s.dev ∧ u.axis = s.axis ∧ u.graph = s.graph := by
  have released : ∃ d, (if loopEnabled s c then (s.writeWords (loopAddr c) ws).releasePwm (cfgW s c 7) else s.writeWords (loopAddr c) ws) =
      { s.writeWords (loopAddr c) ws with dio := d } ∧ (loopEnabled s c = false → d = (s.writeWords (loopAddr c) ws).dio) := by
    split
    next was =>
      obtain ⟨d, released⟩ := (s.writeWords (loopAddr c) ws).releasePwm_eq (cfgW s c 7)
      exact ⟨d, released, fun hnot => absurd was (by simp [hnot])⟩
    next => exact ⟨_, rfl, fun _ => rfl⟩
  obtain ⟨dio, released, hdio⟩ := released
  have shape : u = State.modLoopCh { s.writeWords (loopAddr c) ws with dio := dio } c
      fun k => { k with fresh := true, released := none, bumpless := false } := by
    rw [hu, channelEnabled, released]
  obtain ⟨m, k, written⟩ := s.writeBytes_eq (loopAddr c) (ws.flatMap bytesOf)
  have words (d i : Nat) : cfgW u d i = cfgW (s.writeWords (loopAddr c) ws) d i := by rw [shape]; rfl
  refine ⟨fun i hi => ?_, ?_, ?_, ?_, fun d _ hd i hi => ?_, fun hnot => ?_, ?_⟩
  · exact (words c i).trans (cfgW_writeWords_at hcanon (by omega))
  · exact (words c 12).trans (cfgW_writeWords_past hcanon (by omega))
  · exact (words c 13).trans (cfgW_writeWords_past hcanon (by omega))
  · rw [shape]
    refine (congrArg LoopCh.fresh (loopOf_modLoopCh fun hdefault => ?_)).trans rfl
    cases congrArg LoopCh.fresh hdefault
  · exact (words d i).trans (cfgW_writeWords_other hcanon hd (by omega) (by omega))
  · rw [shape, hdio hnot, State.writeWords, written]
    rfl
  · rw [shape, State.writeWords, written]
    exact ⟨rfl, rfl, rfl, rfl⟩

/-- R223, log 62: the state of a channel that is disabled, and what stays. -/
theorem channelDisabled_spec (hcanon : Canonical s) (hc : c < loopChannels s) (hlen : ws.length = 12) (hu : u = channelDisabled c ws s) :
    (∀ i < 12, cfgW u c i = (ws.getD i 0).toNat) ∧ (∀ d < loopChannels s, d ≠ c → ∀ i < 14, cfgW u d i = cfgW s d i) ∧ u.dev = s.dev ∧
    u.axis = s.axis ∧ (loopEnabled s c = false → u.dio = s.dio ∧ u.drove.outWords = s.drove.outWords) ∧
    (loopEnabled s c = true → field (cfgW s c 7) 0 4 = 1 → s.dio.substitute = false →
      u.dio = (s.modPwm (field (cfgW s c 7) 4 5) fun q => { q with shadow := clampDuty (destValue s c (cfgW s c 10)) }).dio) := by
  have before : ∃ d o m k r, (if loopEnabled s c
        then ((s.writeDest c (destValue s c (cfgW s c 10))).writeWords (loopAddr c) ws).releasePwm (cfgW s c 7)
        else s.writeWords (loopAddr c) ws) = r ∧ r = { s with dio := d, drove := { s.drove with outWords := o }, mem := m, keep := k } ∧
      m.store = (s.writeWords (loopAddr c) ws).mem.store ∧
      (loopEnabled s c = false → d = s.dio ∧ o = s.drove.outWords) ∧
      (loopEnabled s c = true → field (cfgW s c 7) 0 4 = 1 → s.dio.substitute = false →
        d = (s.modPwm (field (cfgW s c 7) 4 5) fun q => { q with shadow := clampDuty (destValue s c (cfgW s c 10)) }).dio) := by
    split
    next was =>
      obtain ⟨d, o, driven⟩ := s.writeDest_eq c (destValue s c (cfgW s c 10))
      obtain ⟨m, k, written⟩ := (s.writeDest c (destValue s c (cfgW s c 10))).writeBytes_eq (loopAddr c) (ws.flatMap bytesOf)
      obtain ⟨d', released⟩ := ((s.writeDest c (destValue s c (cfgW s c 10))).writeWords (loopAddr c) ws).releasePwm_eq (cfgW s c 7)
      have store : m.store = (s.writeWords (loopAddr c) ws).mem.store := by
        have := congrArg (fun u : State => u.mem.store) written
        simp only [State.writeBytes_store, driven] at this
        simp only [State.writeWords, State.writeBytes_store, this]
      refine ⟨d', o, m, k, _, rfl, ?_, store, fun hnot => absurd was (by simp [hnot]), fun _ hpwm hsubst => ?_⟩
      · rw [released, State.writeWords, written, driven]
      · have same : ((s.writeDest c (destValue s c (cfgW s c 10))).writeWords (loopAddr c) ws).dio =
            (s.modPwm (field (cfgW s c 7) 4 5) fun q => { q with shadow := clampDuty (destValue s c (cfgW s c 10)) }).dio := by
          rw [State.writeWords, written, State.writeDest_of_pwm hpwm]
        rw [State.releasePwm_of_not_substitute (by rw [same]; exact hsubst)] at released
        rw [← same, released]
    next hnot =>
      obtain ⟨m, k, written⟩ := s.writeBytes_eq (loopAddr c) (ws.flatMap bytesOf)
      refine ⟨_, _, m, k, _, rfl, written, ?_, fun _ => ⟨rfl, rfl⟩, fun was => absurd was hnot⟩
      rw [State.writeWords, written]
  obtain ⟨d, o, m, k, t, ht, shape, hstore, hoff, hon⟩ := before
  have hcanon' : Canonical t := by
    rw [shape]
    show Memory.wf m.store
    rw [hstore]
    exact State.writeWords_canonical _ _ hcanon
  have words (e i : Nat) : cfgW t e i = cfgW (s.writeWords (loopAddr c) ws) e i := by
    have bytes (x : Nat) : readByte t x = readByte (s.writeWords (loopAddr c) ws) x := by rw [shape, readByte, readByte, hstore]
    exact readNat_congr fun j _ => bytes _
  have took : LoopTook t u := by
    rw [hu, channelDisabled, ht]
    exact (LoopTook.takeRequests t c).trans (LoopTook.modLoopCh _ _ _)
  have hmax := loopChannels_le s
  obtain ⟨m', k', l, h, x, y, others⟩ := took.frame
  refine ⟨fun i hi => ?_, fun e he hec i hi => ?_, ?_, ?_, fun hnot => ?_, fun was hpwm hsubst => ?_⟩
  · rw [took.cfgW hcanon' (by omega) (by omega), words]
    exact cfgW_writeWords_at hcanon (by omega)
  · rw [took.cfgW hcanon' (by omega) hi, words]
    exact cfgW_writeWords_other hcanon hec (by omega) (by omega)
  · rw [others, shape]
  · rw [others, shape]
  · rw [others, shape, (hoff hnot).1, (hoff hnot).2]
    exact ⟨rfl, rfl⟩
  · rw [others, shape]
    exact hon was hpwm hsubst

end ChannelSettings

/-- Settles O17: past its checks the command enables the channel (`channelEnabled_spec`) or disables it (`channelDisabled_spec`). -/
theorem Settled.loopChannels : Obligations.LoopChannels := by
  intro p s s1 c w0 w h hcanon hlen hc hthere hres hw hrange hw0 hs1
  have formed := cmdLoopChannelConfig_formed hlen hc hthere hres hw hrange hw0 hs1
  have hwords : (channelWords p w0).length = 12 := channelWords_length hlen
  have first : ((channelWords p w0).getD 0 0).toNat = w0 % 2 ^ 32 := channelWords_zero
  have later (i : Nat) (hlow : 1 ≤ i) (hi : i < 12) : ((channelWords p w0).getD i 0).toNat = w i := by
    obtain ⟨j, rfl⟩ := Nat.exists_eq_add_of_le' hlow
    rw [hw]
    exact channelWords_succ (by omega)
  refine ⟨fun hmode => command_done (body := cmdLoopChannelConfig) h ?_, fun hen hmode => ?enabled, fun hsafe hgraze hdis => ?disabled⟩
  · have turned : (!(!notConfiguring s || ((s.dev.mode == .run || s.dev.mode == .hold) && (!loopEnabled s c || !bit (w 0) 14)))) = true := by
      rcases hmode with hmode | hmode | ⟨hmode | hmode, hwas, hen⟩
      · simp [notConfiguring, hmode]
      · simp [notConfiguring, hmode]
      · simp [notConfiguring, hmode, hwas, hen]
      · simp [notConfiguring, hmode, hwas, hen]
    rw [formed, turned, checked_cons_true]
  case enabled =>
    have accepted : (!(!notConfiguring s || ((s.dev.mode == .run || s.dev.mode == .hold) && (!loopEnabled s c || !bit (w 0) 14)))) = false := by
      rcases hmode with hmode | hmode | ⟨hmode | hmode, hwas⟩
      · simp [notConfiguring, hmode]
      · simp [notConfiguring, hmode]
      · simp [notConfiguring, hmode, hwas]
      · simp [notConfiguring, hmode, hwas]
    rw [accepted, checked_cons_false, hen] at formed
    refine ⟨fun hover => command_done (body := cmdLoopChannelConfig) h ?_, fun hfits hused => command_done (body := cmdLoopChannelConfig) h ?_,
      fun hfits hfree => ⟨fun hlive hbad => command_done (body := cmdLoopChannelConfig) h ?_, fun hgood => ?_⟩⟩
    · rw [formed, hover]
      rfl
    · have used : (enabledLoops s).any (fun d => d != c && sameDest (cfgW s d 7) (w 7)) = true := by
        obtain ⟨d, hd, hne, hsame⟩ := hused
        exact List.any_eq_true.mpr ⟨d, hd, by simp [hne, hsame]⟩
      rw [formed, hfits, used]
      rfl
    all_goals
      have unused : (enabledLoops s).any (fun d => d != c && sameDest (cfgW s d 7) (w 7)) = false := by
        rw [List.any_eq_false]
        intro d hd
        by_cases hne : d = c
        · simp [hne]
        · simp [hfree d hd hne]
      rw [hfits, unused] at formed
    · have live : (s.dev.mode == .run || s.dev.mode == .hold) = true := by
        rcases hlive with hlive | hlive
        · simp [hlive]
        · simp [hlive]
      rw [formed, live, hbad]
      rfl
    · have fine : ((s.dev.mode == .run || s.dev.mode == .hold) && true && loopRefBad s w) = false := by
        rcases hgood with hgood | hgood | hgood
        · simp [hgood]
        · simp [hgood]
        · simp [hgood]
      rw [fine] at formed
      obtain ⟨hset, h12, h13, hfresh, hothers⟩ := channelEnabled_spec hcanon hwords rfl
      refine ⟨channelEnabled c (channelWords p w0) s, command_done (body := cmdLoopChannelConfig) h ?_, (hset 0 (by omega)).trans first,
        fun i hlow hi => (hset i hi).trans (later i hlow hi), h12, h13, hfresh, hothers⟩
      rw [formed, hs1, channelEnabled]
      simp
      rfl
  case disabled =>
    have accepted : (!(!notConfiguring s || ((s.dev.mode == .run || s.dev.mode == .hold) && (!loopEnabled s c || !bit (w 0) 14)))) = false := by
      cases hmode : s.dev.mode <;> simp_all [notConfiguring]
    have plain : w0 = w 0 := by simp [hw0, hdis]
    rw [accepted, checked_cons_false, hdis, Bool.and_false] at formed
    obtain ⟨hset, hothers⟩ := channelDisabled_spec hcanon hthere hwords rfl
    have first' : w0 % 2 ^ 32 = w 0 := by
      rw [plain, hw]
      exact Nat.mod_eq_of_lt (p.params.getD _ 0).isLt
    refine ⟨channelDisabled c (channelWords p w0) s, command_done (body := cmdLoopChannelConfig) h ?_, fun i hi => ?_, hothers⟩
    · rw [formed, hs1, channelDisabled, plain]
      cases hwas : loopEnabled s c
      · rfl
      · rfl
    · obtain rfl | hlow := Nat.eq_zero_or_pos i
      · rw [hset 0 hi, first, first']
      · rw [hset i hi, later i hlow hi]

end Sys2Proof.Machine
end
section
/-! LOOP.BANK_ARM with DISARM on a device whose loop engine lists a channel twice (06 R225). -/

namespace Sys2Proof.Machine

/-- Channel 0 is armed, and what the loop engine remembers of it is listed twice, each time with a swap that is due. -/
def armedTwiceListedChannel : State :=
  ((resetIn .ready).modMem fun m => { m with store := [(loopAddr 0 + 0x2B4, 16)] }).modLoop fun u =>
    { u with ch := [(0, { swapDue := true }), (0, { swapDue := true })] }

/-- Whether a swap of channel 0 is due after an instruction. -/
def swapDueAfter (o : Host.Outcome State Fault Refusal) : Bool :=
  match o with
  | .next t => (loopOf t 0).swapDue
  | _ => false

/-- Refutes O18: a channel of which nothing is remembered any more leaves the table, and on `armedTwiceListedChannel` a second entry of it
shows, whose swap is still due; the statement allows any table. -/
theorem not_loopBanks : ¬ Obligations.LoopBanks := by
  intro h
  obtain ⟨-, harm, -⟩ := h (packetWith [2 ^ 31]) armedTwiceListedChannel (by decide +kernel)
  obtain ⟨-, hdisarm, -⟩ := harm (by decide +kernel) rfl 0 0 (by decide) (by decide) (by decide) (by decide) (by decide)
  obtain ⟨u, hanswer, -, -, -, hswap⟩ := hdisarm (by decide) rfl rfl
  have due : swapDueAfter (exec (.loopBankArm (packetWith [2 ^ 31])) armedTwiceListedChannel) = true := by decide +kernel
  rw [hanswer, swapDueAfter, loopOf, State.conclude_loop] at due
  have none_due : (loopOf u 0).swapDue = false := hswap (by decide +kernel)
  exact absurd due (by rw [← loopOf, none_due]; exact Bool.false_ne_true)

end Sys2Proof.Machine
end
section
/-! LOOP.BANK_SWAP, LOOP.MODE, LOOP.REP_CONTROL and LOOP.LATENCY (06 R198, R209, R214, R220, R226–R231). -/

namespace Sys2Proof.Machine

section Fields

/-- A field of a word replaced: what lies above and below it stays. -/
theorem withField_eq (w lo n v : Nat) : withField w lo n v = 2 ^ (lo + n) * (w / 2 ^ (lo + n)) + (2 ^ lo * (v % 2 ^ n) + w % 2 ^ lo) := by
  have low := Nat.div_add_mod w (2 ^ lo)
  have high := Nat.div_add_mod (w / 2 ^ lo) (2 ^ n)
  have split : w / 2 ^ lo / 2 ^ n = w / 2 ^ (lo + n) := by rw [Nat.div_div_eq_div_mul, ← Nat.pow_add]
  have whole : w = 2 ^ (lo + n) * (w / 2 ^ (lo + n)) + 2 ^ lo * (w / 2 ^ lo % 2 ^ n) + w % 2 ^ lo := by
    calc w = 2 ^ lo * (w / 2 ^ lo) + w % 2 ^ lo := low.symm
      _ = 2 ^ lo * (2 ^ n * (w / 2 ^ lo / 2 ^ n) + w / 2 ^ lo % 2 ^ n) + w % 2 ^ lo := by rw [high]
      _ = _ := by rw [split, Nat.mul_add, ← Nat.mul_assoc, ← Nat.pow_add]
  simp only [withField, place, field, Nat.mul_comm _ (2 ^ lo)]
  omega

/-- The bits of a word with a field replaced. -/
theorem testBit_withField (w lo n v j : Nat) :
    (withField w lo n v).testBit j = if lo ≤ j ∧ j < lo + n then v.testBit (j - lo) else w.testBit j := by
  have hfield : 2 ^ lo * (v % 2 ^ n) + w % 2 ^ lo < 2 ^ (lo + n) := by
    have := Nat.mod_lt v (Nat.two_pow_pos n)
    have := Nat.mod_lt w (Nat.two_pow_pos lo)
    calc 2 ^ lo * (v % 2 ^ n) + w % 2 ^ lo < 2 ^ lo * (v % 2 ^ n) + 2 ^ lo := by omega
      _ = 2 ^ lo * (v % 2 ^ n + 1) := by ring
      _ ≤ 2 ^ lo * 2 ^ n := Nat.mul_le_mul_left _ (by omega)
      _ = 2 ^ (lo + n) := (Nat.pow_add _ _ _).symm
  rw [withField_eq, Nat.testBit_two_pow_mul_add _ hfield, Nat.testBit_two_pow_mul_add _ (Nat.mod_lt w (Nat.two_pow_pos lo))]
  simp only [Nat.testBit_mod_two_pow, Nat.testBit_div_two_pow]
  grind

/-- Words that agree in the bits of a field agree in the field. -/
theorem field_congr {x y lo n : Nat} (h : ∀ j < n, x.testBit (lo + j) = y.testBit (lo + j)) : field x lo n = field y lo n := by
  refine Nat.eq_of_testBit_eq fun j => ?_
  simp only [field, Nat.testBit_mod_two_pow, Nat.testBit_div_two_pow]
  by_cases hj : j < n
  · simp [hj, h j hj, Nat.add_comm j lo]
  · simp [hj]

theorem field_withField_same (w lo n v : Nat) : field (withField w lo n v) lo n = v % 2 ^ n := by
  refine Nat.eq_of_testBit_eq fun j => ?_
  simp only [field, Nat.testBit_mod_two_pow, Nat.testBit_div_two_pow, testBit_withField]
  grind

theorem withField_lt {w lo n v k : Nat} (hw : w < 2 ^ k) (hk : lo + n ≤ k) : withField w lo n v < 2 ^ k := by
  refine Nat.lt_pow_two_of_testBit _ fun j hj => ?_
  rw [testBit_withField, if_neg (by omega)]
  exact Nat.testBit_lt_two_pow (lt_of_lt_of_le hw (Nat.pow_le_pow_right (by decide) hj))

end Fields

section Status

variable {s : State} {c i j lo n v : Nat}

theorem stW_lt (s : State) (c i : Nat) : stW s c i < 2 ^ 32 := 
  lt_of_lt_of_eq (natOfBytes_lt _) (by simp)

theorem stW_setStW_same (hcanon : Canonical s) : stW (s.setStW c i v) c i = v % 2 ^ 32 := readWord_writeWord_same hcanon

theorem stW_setStW_other (hcanon : Canonical s) (hij : j ≠ i) : stW (s.setStW c i v) c j = stW s c j :=
  readWord_writeWord_other hcanon (by omega)

theorem setStW_canonical (hcanon : Canonical s) (i : Nat) (v : Nat) : Canonical (s.setStW c i v) := State.writeWord_canonical _ _ hcanon

/-- 06 R196: the status word with a field replaced. -/
theorem stW_setStatus_same (hcanon : Canonical s) (hfits : lo + n ≤ 32) : stW (s.setStatus c lo n v) c 13 = withField (stW s c 13) lo n v := by
  rw [State.setStatus, stW_setStW_same hcanon, Nat.mod_eq_of_lt (withField_lt (stW_lt s c 13) hfits)]

theorem stW_setStatus_other (hcanon : Canonical s) (hj : j ≠ 13) : stW (s.setStatus c lo n v) c j = stW s c j :=
  stW_setStW_other hcanon hj

/-- The banks of a channel are as its bytes are. -/
theorem LoopTook.bankW {u : State} (h : LoopTook s u) (hcanon : Canonical s) (hc : c < 1024) (b : Bool) (hi : i < 30) :
    Machine.bankW u c b i = Machine.bankW s c b i := by
  refine readNat_congr fun x hx => ?_
  have bytes := (h.bytes hcanon).2 c hc
  cases b with
  | false =>
    have := bytes (0x80 + 4 * i + x) (by omega)
    simpa [bankBase, Nat.add_assoc] using this
  | true =>
    have := bytes (0x180 + 4 * i + x) (by omega)
    simpa [bankBase, Nat.add_assoc] using this

/-- A status word written changes the memory alone. -/
theorem State.setStW_eq (s : State) (c i v : Nat) : ∃ m k, s.setStW c i v = { s with mem := m, keep := k } :=
  s.writeBytes_eq (loopAddr c + 0x280 + 4 * i) (bytesOfNat 4 v)

end Status

section Taking

variable {p : Packet} {s u : State} {c lo hi : Nat}

/-- 06 R226: a channel in the mode that LOOP.MODE gives. -/
theorem loopTake_mode (hcanon : Canonical s) (hu : u = s.loopTake .loopMode p c) :
    stW u c 14 = p.w 1 ∧ bit (stW u c 13) 2 = bit (p.w 0) 28 ∧ (bit (p.w 0) 28 = true → field (stW u c 13) 0 2 = field (p.w 0) 26 2) ∧
    (bit (p.w 0) 28 = false → field (stW u c 13) 0 2 = field (stW s c 13) 0 2) ∧ activeB u c = activeB s c ∧
    loopArmed u c = loopArmed s c ∧ (∀ i < 13, stW u c i = stW s c i) ∧ u.loop = s.loop ∧ u.dio = s.dio := by
  have hword : p.w 1 % 2 ^ 32 = p.w 1 := Nat.mod_eq_of_lt (p.params.getD 1 0).isLt
  obtain ⟨m1, k1, one⟩ := s.setStW_eq c 14 (p.w 1)
  have hcanon1 := setStW_canonical (c := c) hcanon 14 (p.w 1)
  obtain ⟨m2, k2, two⟩ := (s.setStW c 14 (p.w 1)).setStW_eq c 13 (withField (stW (s.setStW c 14 (p.w 1)) c 13) 2 1 (field (p.w 0) 28 1))
  generalize ht : (s.setStW c 14 (p.w 1)).setStatus c 2 1 (field (p.w 0) 28 1) = t
  have hcanon2 : Canonical t := ht ▸ setStW_canonical hcanon1 13 _
  have h13 : stW t c 13 = withField (stW s c 13) 2 1 (field (p.w 0) 28 1) := by
    rw [← ht, stW_setStatus_same hcanon1 (by decide), stW_setStW_other hcanon (by decide)]
  have hother (j : Nat) (hj : j ≠ 13) (hj' : j ≠ 14) : stW t c j = stW s c j := by
    rw [← ht, stW_setStatus_other hcanon1 hj, stW_setStW_other hcanon hj']
  have h14 : stW t c 14 = p.w 1 := by rw [← ht, stW_setStatus_other hcanon1 (by decide), stW_setStW_same hcanon, hword]
  have hhost : (field (p.w 0) 28 1).testBit 0 = bit (p.w 0) 28 := by
    rw [bit_eq_testBit, field, Nat.testBit_mod_two_pow, Nat.testBit_div_two_pow]
    simp
  have taken : u = if bit (p.w 0) 28 then t.setStatus c 0 2 (field (p.w 0) 26 2) else t := by rw [hu, ← ht]; rfl
  cases hbit : bit (p.w 0) 28 with
  | false =>
    rw [hbit, if_neg Bool.false_ne_true] at taken
    subst taken
    refine ⟨h14, ?_, fun hset => Bool.noConfusion hset, fun _ => ?_, ?_, ?_, fun i hi => hother i (by omega) (by omega), ?_, ?_⟩
    · rw [bit_eq_testBit, h13, testBit_withField]
      simpa [hbit] using hhost
    · rw [h13]
      exact field_congr fun j hj => by rw [testBit_withField, if_neg (by omega)]
    · simp only [activeB, h13, bit_eq_testBit, testBit_withField]
      simp
    · simp only [loopArmed, h13, bit_eq_testBit, testBit_withField]
      simp
    · rw [← ht, State.setStatus, two, one]
    · rw [← ht, State.setStatus, two, one]
  | true =>
    rw [hbit, if_pos rfl] at taken
    obtain ⟨m3, k3, three⟩ := t.setStW_eq c 13 (withField (stW t c 13) 0 2 (field (p.w 0) 26 2))
    have h13' : stW u c 13 = withField (stW t c 13) 0 2 (field (p.w 0) 26 2) := by rw [taken, stW_setStatus_same hcanon2 (by decide)]
    have hother' (j : Nat) (hj : j ≠ 13) : stW u c j = stW t c j := by rw [taken, stW_setStatus_other hcanon2 hj]
    refine ⟨(hother' 14 (by decide)).trans h14, ?_, fun _ => ?_, fun hclear => Bool.noConfusion hclear, ?_, ?_,
      fun i hi => (hother' i (by omega)).trans (hother i (by omega) (by omega)), ?_, ?_⟩
    · rw [bit_eq_testBit, h13', testBit_withField, h13, if_neg (by omega), testBit_withField]
      simpa [hbit] using hhost
    · rw [h13', field_withField_same]
      exact Nat.mod_eq_of_lt (Nat.mod_lt _ (by decide))
    · simp only [activeB, h13', h13, bit_eq_testBit, testBit_withField]
      simp
    · simp only [loopArmed, h13', h13, bit_eq_testBit, testBit_withField]
      simp
    · rw [taken, State.setStatus, three, ← ht, State.setStatus, two, one]
    · rw [taken, State.setStatus, three, ← ht, State.setStatus, two, one]

/-- 06 R209: a channel without a profile table whose armed bank is taken. -/
theorem swapBank_spec (hcanon : Canonical s) (hc : c < 1024) (htable : hasTable s c = false) (hu : u = s.swapBank c) :
    activeB u c = (!activeB s c) ∧ loopArmed u c = false ∧ (∀ b i, i < 30 → bankW u c b i = bankW s c b i) ∧ u.dio = s.dio ∧ u.dev = s.dev := by
  have moved : LoopTook s (s.setStatus c 3 2 (flag (!activeB s c))) := LoopTook.setStatus _ _ _ _ _
  have taken : u = (s.setStatus c 3 2 (flag (!activeB s c))).modLoopCh c
      fun k => { k with bumpless := bit (bankW s c (!activeB s c) 29) 0, swapDue := false } := by
    rw [hu, State.swapBank]
    refine if_pos (Or.inl ?_)
    have still : hasTable (s.setStatus c 3 2 (flag (!activeB s c))) c = false := by
      rw [hasTable, moved.cfgW hcanon hc (by decide)]
      exact htable
    exact Bool.not_eq_true _ ▸ still
  have took : LoopTook s u := taken ▸ moved.trans (LoopTook.modLoopCh _ _ _)
  have h13 : stW u c 13 = withField (stW s c 13) 3 2 (flag (!activeB s c)) := by
    rw [taken]
    exact stW_setStatus_same hcanon (by decide)
  obtain ⟨m, k, l, h, o, d, frame⟩ := took.frame
  refine ⟨?_, ?_, fun b i hi => took.bankW hcanon hc b hi, by rw [frame], by rw [frame]⟩
  · rw [activeB, h13, bit_eq_testBit, testBit_withField]
    cases activeB s c <;> rfl
  · rw [loopArmed, h13, bit_eq_testBit, testBit_withField]
    cases activeB s c <;> rfl

theorem mem_rangeOf {c lo hi : Nat} (h : lo ≤ hi) : c ∈ rangeOf lo hi ↔ lo ≤ c ∧ c ≤ hi := by
  simp only [rangeOf, List.mem_map, List.mem_range]
  constructor
  · rintro ⟨j, hj, rfl⟩
    omega
  · intro hc
    exact ⟨c - lo, by omega, by omega⟩

theorem rangeOf_length {lo hi : Nat} (h : lo ≤ hi) : (rangeOf lo hi).length = hi - lo + 1 := by
  simp [rangeOf]
  omega

theorem rangeOf_self (lo : Nat) : rangeOf lo lo = [lo] := by
  simp [rangeOf]

/-- 06 R222: where every channel named takes samples, the command waits for all of them. -/
theorem loopDefer_of_enabled {op : Op} {cs : List Nat} (hne : cs ≠ []) (hen : ∀ c ∈ cs, loopEnabled s c = true) :
    loopDefer op p cs false s = s.defer op p (cs.length :: cs) := by
  have all : cs.filter (loopEnabled s) = cs := List.filter_eq_self.mpr hen
  have none_left : cs.filter (fun c => !cs.contains c) = [] := List.filter_eq_nil_iff.mpr fun c hc => by simp [hc]
  have some_later : cs.isEmpty = false := by simpa using hne
  simp only [loopDefer, Bool.false_eq_true, if_false, all, none_left, List.foldl_nil, some_later]

/-- Log 62: a channel that is disabled takes the command at once. -/
theorem loopDefer_of_disabled {op : Op} {atOnce : Bool} (hdis : atOnce = true ∨ loopEnabled s c = false) :
    loopDefer op p [c] atOnce s = (s.loopTake op p c, .done stOk (loopReply op 1)) := by
  rcases hdis with rfl | hdis
  · rfl
  · cases atOnce with
    | true => rfl
    | false => simp [loopDefer, hdis]

end Taking

section Commands

variable {p : Packet} {s : State} {c lo hi : Nat}

/-- R222: the range that a command names is in order and there. -/
theorem loopRangeBad_eq_false {mask : Nat} (hlo : lo = field (p.w 0) 0 10) (hhi : hi = field (p.w 0) 16 10) (horder : lo ≤ hi)
    (hthere : hi < loopChannels s) (hres : reservedSet (p.w 0) mask = false) : loopRangeBad s p mask = false := by
  subst hlo hhi
  simp [loopRangeBad, hres]
  omega

theorem cmdLoopMode_formed (hlo : lo = field (p.w 0) 0 10) (hhi : hi = field (p.w 0) 16 10) (horder : lo ≤ hi) (hthere : hi < loopChannels s)
    (hlen : p.len = 2) (hres : reservedSet (p.w 0) 0xE000FC00 = false) (hmode : bit (p.w 0) 28 = true ∨ field (p.w 0) 26 2 = 0)
    (hfinite : Fmt.b32.isFinite (p.w 1) = true) : cmdLoopMode p s = loopDefer .loopMode p (rangeOf lo hi) false s := by
  have hmode' : (!bit (p.w 0) 28 && field (p.w 0) 26 2 != 0) = false := by
    rcases hmode with hmode | hmode
    · simp [hmode]
    · simp [hmode]
  rw [cmdLoopMode, loopRangeBad_eq_false hlo hhi horder hthere hres, hmode', hfinite, loopRange, ← hlo, ← hhi]
  simp [hlen]

theorem cmdLoopBankSwap_formed (hlo : lo = field (p.w 0) 0 10) (hhi : hi = field (p.w 0) 16 10) (horder : lo ≤ hi)
    (hthere : hi < loopChannels s) (hlen : p.len = 1) (hres : reservedSet (p.w 0) 0xFC00FC00 = false) :
    cmdLoopBankSwap p s = checked
      [(s.dev.mode == .safe || s.dev.mode == .graze, stBadMode), (changeoverPending s, stBusy),
       (((rangeOf lo hi).filter (loopArmed s)).isEmpty, stLpNotArmed)] s
      (loopDefer .loopBankSwap p ((rangeOf lo hi).filter (loopArmed s)) (s.dev.mode == .configure) s) := by
  rw [cmdLoopBankSwap, loopRangeBad_eq_false hlo hhi horder hthere hres, loopRange, ← hlo, ← hhi]
  simp [hlen]

theorem cmdLoopRepControl_formed (hlo : lo = field (p.w 0) 0 10) (hhi : hi = field (p.w 0) 16 10) (horder : lo ≤ hi)
    (hthere : hi < loopChannels s) (hlen : p.len = 1) (hres : reservedSet (p.w 0) 0xCC00FC00 = false) :
    cmdLoopRepControl p s = checked [(repChannels s == 0, stRange)] s
      (loopDefer .loopRepControl p ((rangeOf lo hi).filter (hasTable s)) false s) := by
  rw [cmdLoopRepControl, loopRangeBad_eq_false hlo hhi horder hthere hres, loopRange, ← hlo, ← hhi]
  simp [hlen]

/-- R231: the nine figures of a channel. -/
def latencyWords (s : State) (c : Nat) : List Word :=
  [wd (loopProc s c), wd (releaseNs s c), wd (respNs s c), wd (outNs s c), wd (if loopEnabled s c then boundNs s c else 0), wd (stW s c 20),
   wd (stW s c 21), wd (procLoad s (loopProc s c)), wd (destPeriodNs s c)]

theorem cmdLoopLatency_formed (hc : c = field (p.w 0) 0 10) (hlen : p.len = 1) (hres : reservedSet (p.w 0) 0x7FFFFC00 = false) :
    cmdLoopLatency p s = checked [(loopChannels s ≤ c, stRange)] s
      (if bit (p.w 0) 31 then s.setStW c 21 0 else s, .done stOk (latencyWords s c)) := by
  subst hc
  simp [cmdLoopLatency, hlen, hres, latencyWords]

end Commands

/-- Settles O19: the channels that take samples are waited for, the others take the command (`loopTake_mode`, `swapBank_spec`). -/
theorem loopSampleCommands : Obligations.LoopSampleCommands := by
  refine ⟨fun p s lo hi hlo hhi horder hthere => ⟨fun h hlen hres hmode hfinite => ?mode, fun h hlen hres => ?swap, fun h hlen hres => ?rep⟩,
    fun p s c h hlen hc hres => ?latency⟩
  case mode =>
    have formed := cmdLoopMode_formed hlo hhi horder hthere hlen hres hmode hfinite
    refine ⟨fun hen => ?_, fun hcanon hsame hdis => ?_⟩
    · refine command_waits (body := cmdLoopMode) h ?_
      rw [formed, loopDefer_of_enabled (List.ne_nil_of_length_pos (by rw [rangeOf_length horder]; omega))
        fun c hc => hen c ((mem_rangeOf horder).mp hc).1 ((mem_rangeOf horder).mp hc).2, rangeOf_length horder]
      rfl
    · subst hsame
      rw [rangeOf_self, loopDefer_of_disabled (Or.inr hdis)] at formed
      exact ⟨_, command_done (body := cmdLoopMode) h formed, loopTake_mode hcanon rfl⟩
  case swap =>
    have formed := cmdLoopBankSwap_formed hlo hhi horder hthere hlen hres
    refine ⟨fun hmode => command_done (body := cmdLoopBankSwap) h ?_, fun hsafe hgraze => ?_⟩
    · have turned : (s.dev.mode == .safe || s.dev.mode == .graze) = true := by
        rcases hmode with hmode | hmode
        · simp [hmode]
        · simp [hmode]
      rw [formed, turned, checked_cons_true]
    have accepted : (s.dev.mode == .safe || s.dev.mode == .graze) = false := by simp [hsafe, hgraze]
    rw [accepted, checked_cons_false] at formed
    refine ⟨fun hpending => command_done (body := cmdLoopBankSwap) h ?_, fun hfree hnone => command_done (body := cmdLoopBankSwap) h ?_,
      fun hfree hconf hall => command_waits (body := cmdLoopBankSwap) h ?_, fun hfree hconf hcanon hsame harmed htable => ?_⟩
    · rw [formed, hpending, checked_cons_true]
    · have empty : (rangeOf lo hi).filter (loopArmed s) = [] := by
        refine List.filter_eq_nil_iff.mpr fun c hc => ?_
        rw [hnone c ((mem_rangeOf horder).mp hc).1 ((mem_rangeOf horder).mp hc).2]
        exact Bool.false_ne_true
      rw [formed, hfree, empty]
      rfl
    · have every : (rangeOf lo hi).filter (loopArmed s) = rangeOf lo hi :=
        List.filter_eq_self.mpr fun c hc => (hall c ((mem_rangeOf horder).mp hc).1 ((mem_rangeOf horder).mp hc).2).2
      have hne : rangeOf lo hi ≠ [] := List.ne_nil_of_length_pos (by rw [rangeOf_length horder]; omega)
      have some_there : (rangeOf lo hi).isEmpty = false := by simpa using hne
      rw [formed, hfree, every, some_there, checked_cons_false, checked_cons_false, checked_nil, beq_false_of_ne hconf,
        loopDefer_of_enabled hne fun c hc => (hall c ((mem_rangeOf horder).mp hc).1 ((mem_rangeOf horder).mp hc).2).1, rangeOf_length horder]
      rfl
    · subst hsame
      rw [rangeOf_self, List.filter_cons_of_pos harmed, List.filter_nil, hfree, loopDefer_of_disabled (Or.inl (by simp [hconf])),
        checked_cons_false, State.loopTake, if_pos harmed] at formed
      have hmax := loopChannels_le s
      exact ⟨_, command_done (body := cmdLoopBankSwap) h formed, swapBank_spec hcanon (by omega) htable rfl⟩
  case rep =>
    have formed := cmdLoopRepControl_formed hlo hhi horder hthere hlen hres
    refine ⟨fun hnone => command_done (body := cmdLoopRepControl) h ?_, fun hsome hnone => command_done (body := cmdLoopRepControl) h ?_,
      fun hsome hall => command_waits (body := cmdLoopRepControl) h ?_⟩
    · rw [formed, hnone]
      rfl
    · have empty : (rangeOf lo hi).filter (hasTable s) = [] := by
        refine List.filter_eq_nil_iff.mpr fun c hc => ?_
        rw [hnone c ((mem_rangeOf horder).mp hc).1 ((mem_rangeOf horder).mp hc).2]
        exact Bool.false_ne_true
      rw [formed, beq_false_of_ne hsome, empty]
      rfl
    · have every : (rangeOf lo hi).filter (hasTable s) = rangeOf lo hi :=
        List.filter_eq_self.mpr fun c hc => (hall c ((mem_rangeOf horder).mp hc).1 ((mem_rangeOf horder).mp hc).2).1
      rw [formed, beq_false_of_ne hsome, every, checked_cons_false, checked_nil,
        loopDefer_of_enabled (List.ne_nil_of_length_pos (by rw [rangeOf_length horder]; omega))
          fun c hc => (hall c ((mem_rangeOf horder).mp hc).1 ((mem_rangeOf horder).mp hc).2).2, rangeOf_length horder]
      rfl
  case latency =>
    have formed := cmdLoopLatency_formed (s := s) hc hlen hres
    refine ⟨fun hout => command_done (body := cmdLoopLatency) h ?_, fun hin => ⟨latencyWords s c, rfl, fun hkeep => ?_, fun hclear hcanon => ?_⟩⟩
    · rw [formed, decide_eq_true hout, checked_cons_true]
    all_goals rw [decide_eq_false (Nat.not_le.mpr hin), checked_cons_false, checked_nil] at formed
    · rw [hkeep] at formed
      exact command_done (body := cmdLoopLatency) h formed
    · rw [hclear] at formed
      obtain ⟨m, k, written⟩ := s.setStW_eq c 21 0
      have hmax := loopChannels_le s
      have took : LoopTook s (s.setStW c 21 0) := LoopTook.setStW s (by decide) 0
      refine ⟨_, command_done (body := cmdLoopLatency) h formed, stW_setStW_same hcanon, fun i hi => stW_setStW_other hcanon (by omega),
        fun i hi => took.cfgW hcanon (by omega) hi, by rw [if_pos rfl, written], by rw [if_pos rfl, written]⟩

end Sys2Proof.Machine
end
section
/-! The AXIS commands (07 R234, R237, R261–R267). -/

namespace Sys2Proof.Machine

section Configuring

variable {p : Packet} {s : State} {n kind : Nat} {c : AxisCh}

theorem axisOf_modCh {f : AxisCh → AxisCh} (hwf : Tab.wf {} s.axis.ch) (d : Nat) :
    axisOf (s.modCh n f) d = if d = n then f (axisOf s d) else axisOf s d := look_upd f n d hwf

theorem modCh_wf {f : AxisCh → AxisCh} (hwf : Tab.wf {} s.axis.ch) : Tab.wf {} (s.modCh n f).axis.ch := upd_wf n f hwf

/-- R262: past the checks of its form and the mode, AXIS.CONFIG looks for another PULSE channel of the axis. -/
theorem cmdAxisConfig_formed (hlen : p.len = 17) (hn : n = field (p.w 0) 0 8) (hkind : kind = field (p.w 0) 8 2) (hc : c = { cfg := p.params })
    (hrange : axisCfgRange s c n kind = false) :
    cmdAxisConfig p s = checked
      [(notConfiguring s, stBadMode), (kind == 2 && s.axis.ch.any fun e => e.1 ≠ n && e.2.kind == 2 && e.2.pulseAxis == c.pulseAxis, stAxInUse)] s
      (s.modCh n (fun c => c.configured s kind p.params), .done stOk []) := by
  subst hn hkind hc
  rw [cmdAxisConfig]
  simp only [hrange, hlen]
  rfl

/-- R262: whether another PULSE channel has the axis is what the channels say. -/
theorem pulseAxis_taken_iff (hwf : Tab.wf {} s.axis.ch) :
    (s.axis.ch.any fun e => e.1 ≠ n && e.2.kind == 2 && e.2.pulseAxis == c.pulseAxis) = true ↔
      ∃ d, d ≠ n ∧ (axisOf s d).kind = 2 ∧ (axisOf s d).pulseAxis = c.pulseAxis := by
  rw [List.any_eq_true]
  constructor
  · rintro ⟨⟨d, v⟩, hmem, htaken⟩
    have hlook : axisOf s d = v := look_of_mem hwf hmem
    refine ⟨d, ?_⟩
    simpa [hlook, and_assoc] using htaken
  · rintro ⟨d, hne, hpulse, haxis⟩
    have hdefault : axisOf s d ≠ {} := by
      intro hzero
      rw [hzero] at hpulse
      cases hpulse
    exact ⟨(d, axisOf s d), mem_of_look_ne hdefault, by simp [hne, hpulse, haxis]⟩

end Configuring

section Table

variable {p : Packet} {s : State} {first k : Nat} {entry : Nat → List Word}

/-- A list of `k` pieces of `n`, cut. -/
theorem chunks_eq {α : Type} {n : Nat} (hn : 0 < n) : ∀ (fuel k : Nat) (l : List α), k ≤ fuel → l.length = n * k →
    chunks n fuel l = (List.range k).map fun i => (l.drop (n * i)).take n
  | 0, k, l, hk, _ => by
    obtain rfl : k = 0 := by omega
    rfl
  | fuel + 1, 0, l, _, hl => by
    obtain rfl : l = [] := List.length_eq_zero_iff.mp (by simpa using hl)
    rfl
  | fuel + 1, k + 1, l, hk, hl => by
    have hne : l.isEmpty = false := by
      rw [Nat.mul_add] at hl
      cases l with
      | nil => simp at hl; omega
      | cons x l => rfl
    have rest := chunks_eq hn fuel k (l.drop n) (by omega) (by rw [List.length_drop, hl, Nat.mul_add]; omega)
    rw [chunks, hne, rest, List.range_succ_eq_map]
    simp [Nat.mul_add, Nat.add_comm n]

/-- The entries of the command with their places. -/
theorem zipIdx_map_range {α : Type} (f : Nat → α) (k : Nat) : ((List.range k).map f).zipIdx = (List.range k).map fun i => (f i, i) := by
  refine List.ext_getElem (by simp) fun i h1 h2 => ?_
  simp

/-- R263: past the checks of its form, AXIS.TABLE_WRITE looks at its entries in order. -/
theorem cmdAxisTableWrite_formed (hfirst : first = p.w 0) (hlen : p.len = 1 + 6 * k) (hk : 1 ≤ k) (hk' : k ≤ 681) (hfits : first + k ≤ 65536)
    (hentry : ∀ i, entry i = (p.params.drop (1 + 6 * i)).take 6) :
    cmdAxisTableWrite p s = match (List.range k).find? fun i => entryRefused (first + i) (entry i) with
      | some i => (s, .done stAxSegment [wd (first + i)])
      | none => if entryInUse s first k then (s, .done stAxInUse []) else (s.writeWords (segAddr first) (p.params.drop 1), .done stOk []) := by
  have hcount : (p.params.drop 1).length = 6 * k := by
    rw [Packet.len] at hlen
    rw [List.length_drop, hlen]
    omega
  have hentries : chunks 6 681 (p.params.drop 1) = (List.range k).map entry := by
    rw [chunks_eq (by decide) 681 k _ hk' hcount]
    refine List.map_congr_left fun i _ => ?_
    rw [hentry, List.drop_drop]
  have hform : (decide (p.len < 7) || decide ((p.len - 1) % 6 ≠ 0) || decide (4087 < p.len)) = false := by simp; omega
  have hrange : (reservedSet first 0xFFFF0000 || decide (65536 < first + k)) = false := by
    rw [reservedSet_eq_false_of_lt (n := 16) (by omega) (by decide)]
    simp
    omega
  rw [cmdAxisTableWrite]
  simp only [← hfirst, hentries, zipIdx_map_range, List.length_map, List.length_range, hform, hrange, checked_cons_false, checked_nil,
    List.find?_map, Option.map_map]
  generalize hfound : (List.range k).find? (fun i => entryRefused (first + i) (entry i)) = found
  have hfound' : (List.range k).find? ((fun x : List Word × Nat => entryRefused (first + x.2) x.1) ∘ fun i => (entry i, i)) = found := hfound
  rw [hfound']
  cases found with
  | some i => rfl
  | none => rfl

/-- R263: the entries written stand in the table, and nothing else changes. -/
theorem tableWrite_spec (hcanon : Canonical s) {u : State} (hlen : p.len = 1 + 6 * k)
    (hentry : ∀ i, entry i = (p.params.drop (1 + 6 * i)).take 6) (hu : u = s.writeWords (segAddr first) (p.params.drop 1)) :
    (∀ i < k, readWords u (segAddr (first + i)) 6 = entry i) ∧
    (∀ x, x < segAddr first ∨ segAddr (first + k) ≤ x → readByte u x = readByte s x) ∧
    u.axis = s.axis ∧ u.loop = s.loop ∧ u.graph = s.graph ∧ u.dev = s.dev := by
  have hcount : (p.params.drop 1).length = 6 * k := by
    rw [Packet.len] at hlen
    rw [List.length_drop, hlen]
    omega
  obtain ⟨m, j, written⟩ := s.writeBytes_eq (segAddr first) ((p.params.drop 1).flatMap bytesOf)
  refine ⟨fun i hi => ?_, fun x hx => ?_, ?_⟩
  · have word (j : Nat) (hj : j < 6) : wd (readWord u (segAddr (first + i) + 4 * j)) = p.params.getD (1 + (6 * i + j)) 0 := by
      have place : segAddr (first + i) + 4 * j = segAddr first + 4 * (6 * i + j) := by simp only [segAddr]; omega
      rw [place, hu, readWord_writeWords_at hcanon (by rw [hcount]; omega), wd, BitVec.ofNat_toNat, BitVec.setWidth_eq]
      simp [List.getD_eq_getElem?_getD, Nat.add_comm]
    have six : (entry i).length = 6 := by
      rw [Packet.len] at hlen
      rw [hentry, List.length_take, List.length_drop]
      omega
    refine List.ext_getElem (by simp [readWords, six]) fun j h1 h2 => ?_
    have hj : j < 6 := six ▸ h2
    have there : 1 + 6 * i + j < p.params.length := by
      rw [Packet.len] at hlen
      omega
    simp only [readWords, List.getElem_map, List.getElem_range, word j hj, hentry, List.getElem_take, List.getElem_drop]
    rw [← Nat.add_assoc, List.getD_eq_getElem _ _ there]
  · rw [hu]
    refine readByte_writeBytes_other hcanon ?_
    rw [flatMap_bytesOf_length, hcount]
    simp only [segAddr] at hx ⊢
    omega
  · rw [hu, State.writeWords, written]
    exact ⟨rfl, rfl, rfl, rfl⟩

end Table

section Standstill

variable {p : Packet} {s : State} {n d : Nat}

/-- What AXIS.STANDSTILL sets in a channel (R267). -/
def standstillSet (w now : Nat) (c : AxisCh) : AxisCh :=
  let w16 := c.w 16 % 2 ^ 11 + place 11 (field w 8 2) + place 13 (field (c.w 16) 13 3) + place 16 (field w 16 16)
  let c := { c with cfg := (List.range 17).map fun i => wd (if i = 16 then w16 else c.w i) }
  if bit w 10 ∧ c.m.state = .idle then { c with standing := false, restAt := some now } else c

theorem cmdAxisStandstill_formed (hlen : p.len = 1) (hn : n = field (p.w 0) 0 8) (hthere : n < axes s)
    (hres : reservedSet (p.w 0) 0xF800 = false) (hkind : field (p.w 0) 8 2 ≠ 3) :
    cmdAxisStandstill p s = checked [((axisOf s n).kind == 0, stAxNotConfigured)] s
      ((s.axisAdvance n).modCh n (standstillSet (p.w 0) s.now), .done stOk []) := by
  have hrange : (reservedSet (p.w 0) 0xF800 || decide (axes s ≤ n) || field (p.w 0) 8 2 == 3) = false := by
    rw [hres]
    simp [hkind]
    omega
  subst hn
  rw [cmdAxisStandstill]
  simp only [hlen, hrange]
  rfl

variable (w now : Nat) (c : AxisCh)

theorem standstillSet_cfg : (standstillSet w now c).cfg = (List.range 17).map fun i => wd
    (if i = 16 then c.w 16 % 2 ^ 11 + place 11 (field w 8 2) + place 13 (field (c.w 16) 13 3) + place 16 (field w 16 16) else c.w i) := by
  unfold standstillSet
  extract_lets w16 c'
  split
  · rfl
  · rfl

theorem standstillSet_m : (standstillSet w now c).m = c.m := by
  unfold standstillSet
  extract_lets w16 c'
  split
  · rfl
  · rfl

theorem standstillSet_w16 : (standstillSet w now c).w 16 =
    c.w 16 % 2 ^ 11 + place 11 (field w 8 2) + place 13 (field (c.w 16) 13 3) + place 16 (field w 16 16) := by
  have h1 : field w 8 2 < 2 ^ 2 := Nat.mod_lt _ (by decide)
  have h2 : field (c.w 16) 13 3 < 2 ^ 3 := Nat.mod_lt _ (by decide)
  have h3 : field w 16 16 < 2 ^ 16 := Nat.mod_lt _ (by decide)
  have h4 : c.w 16 % 2 ^ 11 < 2 ^ 11 := Nat.mod_lt _ (by decide)
  rw [AxisCh.w, standstillSet_cfg]
  simp only [place]
  refine Nat.mod_eq_of_lt ?_
  simp only [if_true]
  omega

theorem standstillSet_w {i : Nat} (hi : i < 16) : (standstillSet w now c).w i = c.w i := by
  have hlt : c.w i < 2 ^ 32 := (c.cfg.getD i 0).isLt
  have hne : i ≠ 16 := by omega
  have hin : i < 17 := by omega
  rw [AxisCh.w, standstillSet_cfg]
  simpa [hne, hin, wd] using hlt

/-- R267: the standstill and its delay are as the command gives them. -/
theorem standstillSet_standstill : (standstillSet w now c).standstill = field w 8 2 ∧ (standstillSet w now c).standDelayMs = field w 16 16 := by
  have h1 : field w 8 2 < 2 ^ 2 := Nat.mod_lt _ (by decide)
  have h2 : field (c.w 16) 13 3 < 2 ^ 3 := Nat.mod_lt _ (by decide)
  have h3 : field w 16 16 < 2 ^ 16 := Nat.mod_lt _ (by decide)
  have h4 : c.w 16 % 2 ^ 11 < 2 ^ 11 := Nat.mod_lt _ (by decide)
  rw [AxisCh.standstill, AxisCh.standDelayMs, standstillSet_w16]
  generalize field (c.w 16) 13 3 = a at *
  generalize field w 8 2 = b at *
  generalize field w 16 16 = e at *
  generalize c.w 16 % 2 ^ 11 = g at *
  simp only [field, place]
  omega

theorem standstillSet_standing : (standstillSet w now c).standing = if bit w 10 ∧ c.m.state = .idle then false else c.standing := by
  unfold standstillSet
  extract_lets w16 c'
  have state : c'.m = c.m := rfl
  rw [state]
  split
  · rfl
  · rfl

theorem standstillSet_ne_default : standstillSet w now c ≠ {} := by
  intro hdefault
  have hcfg := congrArg AxisCh.cfg hdefault
  rw [standstillSet_cfg] at hcfg
  exact absurd (congrArg List.length hcfg) (by simp)

/-- A publication changes the acquisition engine alone. -/
theorem State.publishAt_eq (s : State) (entry stamp value : Nat) : ∃ a, s.publishAt entry stamp value = { s with acq := a } := by
  unfold State.publishAt
  extract_lets t
  split
  · exact ⟨_, rfl⟩
  · exact ⟨_, rfl⟩

/-- The channel `n` of `t` has the settings and the standstill of `s` and the motion `m`; the other channels are as in `s`. -/
structure AxisMoved (n : Nat) (m : Motion) (s t : State) : Prop where
  wf : Tab.wf {} t.axis.ch
  cfg : (axisOf t n).cfg = (axisOf s n).cfg
  m : (axisOf t n).m = m
  standing : (axisOf t n).standing = (axisOf s n).standing
  others : ∀ d, d ≠ n → axisOf t d = axisOf s d

/-- A mark of a channel counts and is published (07 R238). -/
theorem AxisMoved.mark {m : Motion} {t : State} (h : AxisMoved n m s t) (entry stamp value : Nat) :
    AxisMoved n m s ((t.modCh n fun c => { c with mark := (c.mark + 1) % 2 ^ 32 }).publishAt entry stamp value) := by
  obtain ⟨a, published⟩ := (t.modCh n fun c => { c with mark := (c.mark + 1) % 2 ^ 32 }).publishAt_eq entry stamp value
  have look (d : Nat) : axisOf ((t.modCh n fun c => { c with mark := (c.mark + 1) % 2 ^ 32 }).publishAt entry stamp value) d =
      if d = n then { axisOf t d with mark := ((axisOf t d).mark + 1) % 2 ^ 32 } else axisOf t d := by
    rw [published]
    exact axisOf_modCh h.wf d
  have own := look n
  rw [if_pos rfl] at own
  refine ⟨?_, ?_, ?_, ?_, fun d hd => ?_⟩
  · rw [published]
    exact modCh_wf h.wf
  · rw [own, ← h.cfg]
  · rw [own, ← h.m]
  · rw [own, ← h.standing]
  · rw [look, if_neg hd, h.others d hd]

/-- What the generator has found of an axis up to now (07 R239), where no segment failed: its motion, its marks, and no other channel. -/
theorem axisAdvance_moved (hwf : Tab.wf {} s.axis.ch) (hfault : ((axisOf s n).carried s (usNow s)).segFault = false) :
    AxisMoved n ((axisOf s n).carried s (usNow s)).m s (s.axisAdvance n) := by
  have first (f : AxisCh → AxisCh) (hcfg : ∀ c, (f c).cfg = c.cfg) (hm : ∀ c, (f c).m = ((axisOf s n).carried s (usNow s)).m)
      (hstanding : ∀ c, (f c).standing = c.standing) : AxisMoved n ((axisOf s n).carried s (usNow s)).m s (s.modCh n f) := by
    have own := axisOf_modCh (n := n) (f := f) hwf n
    rw [if_pos rfl] at own
    exact ⟨modCh_wf hwf, by rw [own, hcfg], by rw [own, hm], by rw [own, hstanding], fun d hd => (axisOf_modCh hwf d).trans (if_neg hd)⟩
  have marked (l : List Int) : ∀ t, AxisMoved n ((axisOf s n).carried s (usNow s)).m s t →
      AxisMoved n ((axisOf s n).carried s (usNow s)).m s (l.foldl (fun t x =>
        let t := t.modCh n fun c => { c with mark := (c.mark + 1) % 2 ^ 32 }
        t.publishAt (0x700 + n) (x * 1000).toNat (axisOf t n).mark) t) := by
    induction l with
    | nil => exact fun t h => h
    | cons x l ih => exact fun t h => ih _ (h.mark _ _ _)
  unfold State.axisAdvance
  extract_lets c a rest t u
  rw [if_neg (show ¬ a.segFault = true by simp only [a, c, hfault, Bool.false_eq_true, not_false_eq_true])]
  exact marked _ t (first (fun c => { c with m := a.m, restAt := if a.m.seg.isSome then none else rest }) (fun _ => rfl) (fun _ => rfl)
    (fun _ => rfl))

end Standstill

section Moving

variable {p : Packet} {s : State}

/-- R261: without AT_CYCLE a request of an axis waits for the start of a cycle. -/
theorem atCycleStart_of_none {op : Op} {body : Packet → State → State × Verdict} (hat : p.atCycle = none) :
    atCycleStart op body p s = s.defer op p [] := by
  simp [atCycleStart, hat]

theorem cmdAxisStart_formed (hlen : p.len = 2) (hres : reservedSet (p.w 0) 0xFFFFFF00 = false) (hres1 : reservedSet (p.w 1) 0xFFFF0000 = false)
    (hat : p.atCycle = none) :
    cmdAxisStart p s = checked [(axes s ≤ field (p.w 0) 0 8, stRange), (s.dev.mode ≠ .run && s.dev.mode ≠ .hold, stBadMode)] s
      (s.defer .axisStart p []) := by
  simp [cmdAxisStart, hlen, hres, hres1, atCycleStart_of_none hat]

theorem cmdAxisStop_formed (hlen : p.len = 1) (hres : reservedSet (p.w 0) 0xFFFFF800 = false) (hthere : field (p.w 0) 0 8 < axes s)
    (hat : p.atCycle = none) :
    cmdAxisStop p s = checked [(bit (p.w 0) 10 && field (p.w 0) 0 8 ≠ 0, stRange)] s (s.defer .axisStop p []) := by
  have hin : decide (axes s ≤ field (p.w 0) 0 8) = false := decide_eq_false (Nat.not_le.mpr hthere)
  simp [cmdAxisStop, hlen, hres, hin, atCycleStart_of_none hat]

theorem cmdAxisSetPosition_formed (hlen : p.len = 3) (hres : reservedSet (p.w 0) 0xFFFFFC00 = false) (hthere : field (p.w 0) 0 8 < axes s)
    (hat : p.atCycle = none) :
    cmdAxisSetPosition p s = checked
      [(field (p.w 0) 8 2 == 3 || (field (p.w 0) 8 2 == 1 && (p.w 1 ≠ 0 || p.w 2 ≠ 0)), stRange),
       (s.dev.mode == .safe || s.dev.mode == .graze, stBadMode)] s (s.defer .axisSetPosition p []) := by
  have hin : decide (axes s ≤ field (p.w 0) 0 8) = false := decide_eq_false (Nat.not_le.mpr hthere)
  simp [cmdAxisSetPosition, hlen, hres, hin, atCycleStart_of_none hat]

end Moving

/-- Settles O20: a configured channel is `AxisCh.configured`, the table takes its entries, and the requests of motion wait. -/
theorem axisCommands : Obligations.AxisCommands := by
  refine ⟨fun p s hwf => ⟨fun h hlen n kind c hn hkind hc hrange => ?config, fun h hcanon first k hfirst hlen hk hk' hfits entry hentry => ?table,
    fun h hlen n hn hthere hres hkind => ?standstill⟩, fun p s => ⟨fun h hlen hres hres1 => ?start, fun h hlen hres hthere => ?stop,
    fun h hlen hres hthere => ?position⟩⟩
  case config =>
    have formed := cmdAxisConfig_formed hlen hn hkind hc hrange
    refine ⟨fun hconf hready => command_done (body := cmdAxisConfig) h ?_, fun hmode => ?_⟩
    · rw [formed, notConfiguring, decide_eq_true hconf, decide_eq_true hready]
      rfl
    have accepted : notConfiguring s = false := by
      rcases hmode with hmode | hmode
      · simp [notConfiguring, hmode]
      · simp [notConfiguring, hmode]
    rw [accepted, checked_cons_false] at formed
    refine ⟨fun hpulse htaken => command_done (body := cmdAxisConfig) h ?_, fun hfree => ?_⟩
    · rw [formed, hpulse, (pulseAxis_taken_iff hwf).mpr htaken]
      rfl
    · have free : (kind == 2 && s.axis.ch.any fun e => e.1 ≠ n && e.2.kind == 2 && e.2.pulseAxis == c.pulseAxis) = false := by
        rcases hfree with hother | hnone
        · simp [hother]
        · have none_taken : (s.axis.ch.any fun e => e.1 ≠ n && e.2.kind == 2 && e.2.pulseAxis == c.pulseAxis) = false := by
            rw [Bool.eq_false_iff, ne_eq, pulseAxis_taken_iff hwf]
            rintro ⟨d, hne, hpulse, haxis⟩
            exact hnone d hne hpulse haxis
          rw [none_taken, Bool.and_false]
      rw [free, checked_cons_false, checked_nil] at formed
      have own := axisOf_modCh (n := n) (f := fun c => c.configured s kind p.params) hwf n
      rw [if_pos rfl] at own
      refine ⟨_, command_done (body := cmdAxisConfig) h formed, rfl, ?_, fun hk => ?_, fun hk => ?_, fun d hd => ?_⟩
      · rw [own, AxisCh.configured]
        split
        next hzero => exact hzero.symm
        next => rfl
      · rw [own, AxisCh.configured, if_neg hk]
        exact ⟨rfl, rfl, rfl, rfl, rfl, rfl⟩
      · rw [own, AxisCh.configured, if_pos hk]
      · exact (axisOf_modCh hwf d).trans (if_neg hd)
  case table =>
    have formed := cmdAxisTableWrite_formed (s := s) hfirst hlen hk hk' hfits hentry
    refine ⟨fun i hi hbad hgood => command_done (body := cmdAxisTableWrite) h ?_, fun hgood hused => command_done (body := cmdAxisTableWrite) h ?_,
      fun hgood hfree => ?_⟩
    · have found : (List.range k).find? (fun i => entryRefused (first + i) (entry i)) = some i :=
        List.find?_range_eq_some.mpr ⟨hbad, List.mem_range.mpr hi, fun j hj => by simp [hgood j hj]⟩
      rw [formed, found]
    all_goals
      have none_found : (List.range k).find? (fun i => entryRefused (first + i) (entry i)) = none :=
        List.find?_eq_none.mpr fun i hi => by simp [hgood i (List.mem_range.mp hi)]
      rw [none_found] at formed
    · exact formed.trans (if_pos hused)
    · exact ⟨_, command_done (body := cmdAxisTableWrite) h (formed.trans (if_neg (by simp [hfree]))), tableWrite_spec hcanon hlen hentry rfl⟩
  case standstill =>
    have formed := cmdAxisStandstill_formed hlen hn hthere hres hkind
    refine ⟨fun hnone => command_done (body := cmdAxisStandstill) h ?_, fun hsome => ?_⟩
    · rw [formed, hnone]
      rfl
    · rw [beq_false_of_ne hsome, checked_cons_false, checked_nil] at formed
      have own : axisOf ((s.axisAdvance n).modCh n (standstillSet (p.w 0) s.now)) n = standstillSet (p.w 0) s.now (axisOf (s.axisAdvance n) n) :=
        look_put_of_ne _ _ _ (standstillSet_ne_default _ _ _)
      refine ⟨_, command_done (body := cmdAxisStandstill) h formed, ?_, ?_, fun hfault => ?_⟩
      · rw [own]
        exact (standstillSet_standstill _ _ _).1
      · rw [own]
        exact (standstillSet_standstill _ _ _).2
      · obtain ⟨hwf', hcfg, hm, hstanding, hothers⟩ := axisAdvance_moved hwf hfault
        have same (i : Nat) : (axisOf (s.axisAdvance n) n).w i = (axisOf s n).w i := by rw [AxisCh.w, AxisCh.w, hcfg]
        rw [own]
        refine ⟨fun i hi => (standstillSet_w _ _ _ hi).trans (same i), (standstillSet_m _ _ _).trans hm, fun hbit hidle => ?_, fun hbit => ?_,
          fun d hd => ?_⟩
        · rw [standstillSet_m] at hidle
          rw [standstillSet_standing, if_pos ⟨hbit, hidle⟩]
        · rw [standstillSet_standing, if_neg (by simp [hbit]), hstanding]
        · rw [axisOf_modCh hwf', if_neg hd, hothers d hd]
  case start =>
    have formed := cmdAxisStart_formed (s := s) hlen hres hres1 h.2.2.1
    refine ⟨fun hout => command_done (body := cmdAxisStart) h ?_, fun hin hrun hhold => command_done (body := cmdAxisStart) h ?_,
      fun hin hmode => command_waits (body := cmdAxisStart) h ?_⟩
    · rw [formed, decide_eq_true hout, checked_cons_true]
    · rw [formed, decide_eq_false (Nat.not_le.mpr hin), decide_eq_true hrun, decide_eq_true hhold]
      rfl
    · have accepted : (decide (s.dev.mode ≠ .run) && decide (s.dev.mode ≠ .hold)) = false := by
        rcases hmode with hmode | hmode
        · simp [hmode]
        · simp [hmode]
      rw [formed, decide_eq_false (Nat.not_le.mpr hin), accepted]
      rfl
  case stop =>
    have formed := cmdAxisStop_formed (s := s) hlen hres hthere h.2.2.1
    refine ⟨fun hall hne => command_done (body := cmdAxisStop) h ?_, fun hfine => command_waits (body := cmdAxisStop) h ?_⟩
    · rw [formed, hall, decide_eq_true hne]
      rfl
    · have accepted : (bit (p.w 0) 10 && decide (field (p.w 0) 0 8 ≠ 0)) = false := by
        rcases hfine with hfine | hfine
        · simp [hfine]
        · simp [hfine]
      rw [formed, accepted]
      rfl
  case position =>
    have formed := cmdAxisSetPosition_formed (s := s) hlen hres hthere h.2.2.1
    refine ⟨fun hbad => command_done (body := cmdAxisSetPosition) h ?_, fun hfine => ⟨fun hmode => command_done (body := cmdAxisSetPosition) h ?_,
      fun hsafe hgraze => command_waits (body := cmdAxisSetPosition) h ?_⟩⟩
    · have turned : (field (p.w 0) 8 2 == 3 || (field (p.w 0) 8 2 == 1 && (decide (p.w 1 ≠ 0) || decide (p.w 2 ≠ 0)))) = true := by
        rcases hbad with hbad | ⟨hbad, hne⟩
        · simp [hbad]
        · simpa [hbad] using hne
      rw [formed, turned, checked_cons_true]
    all_goals
      have accepted : (field (p.w 0) 8 2 == 3 || (field (p.w 0) 8 2 == 1 && (decide (p.w 1 ≠ 0) || decide (p.w 2 ≠ 0)))) = false := by
        rcases hfine with hfine | hfine | ⟨hfine, h1, h2⟩
        · simp [hfine]
        · simp [hfine]
        · simp [hfine, h1, h2]
      rw [accepted, checked_cons_false] at formed
    · have turned : (s.dev.mode == .safe || s.dev.mode == .graze) = true := by
        rcases hmode with hmode | hmode
        · simp [hmode]
        · simp [hmode]
      rw [formed, turned, checked_cons_true]
    · have free : (s.dev.mode == .safe || s.dev.mode == .graze) = false := by simp [hsafe, hgraze]
      rw [formed, free]
      rfl

end Sys2Proof.Machine
end
section
/-! ADC.CAL_WRITE while the converter converts (08 R280, R299). -/

namespace Sys2Proof.Machine

/-- A device in CONFIGURE whose converter 0 has a table and may begin its first conversion. -/
def converterAboutToBegin : State := (resetIn .configure).modAdc fun a => { a with convs := [(0, { configured := true, table := [0] })] }

/-- Whether converter 0 converts after an instruction. -/
def convertsAfter (o : Host.Outcome State Fault Refusal) : Bool :=
  match o with
  | .next t => (convOf t 0).busy.isSome
  | _ => false

/-- Refutes O21: ADC.CAL_WRITE lets the converter go on, so that the conversion in progress keeps its calibration (R280); on
`converterAboutToBegin` a conversion begins, and the statement has nothing but the calibration set change. -/
theorem not_converterSettings : ¬ Obligations.ConverterSettings := by
  intro h
  obtain ⟨-, -, -, hwrite⟩ := h (packetWith [128, 0, 0x40000000]) converterAboutToBegin (by decide +kernel) (by decide +kernel)
  obtain ⟨-, hfits⟩ := hwrite (by decide +kernel) 0 1 0 (by decide) (by decide) (by decide) (by decide) (by decide) (by decide) (by decide) (Or.inl rfl)
  obtain ⟨u, hanswer, hu, -⟩ := hfits (by decide +kernel)
  have begun : convertsAfter (exec (.adcCalWrite (packetWith [128, 0, 0x40000000])) converterAboutToBegin) = true := by decide +kernel
  have same : u.adc.convs = converterAboutToBegin.adc.convs := by rw [hu]; rfl
  rw [hanswer, convertsAfter, convOf, State.conclude_adc, same] at begun
  exact absurd begun (by decide +kernel)

end Sys2Proof.Machine
end
section
/-! Tables over their own keys, and words of flags. -/

namespace Sys2Proof.Machine

section Tables

variable {α : Type} [DecidableEq α] {d : α}

/-- Keys rise: behind an entry stand greater ones. -/
theorem lt_of_mem_of_wf : ∀ {t : Tab α} {j : Nat} {v : α}, Tab.wf d ((j, v) :: t) = true → ∀ e ∈ t, j < e.1
  | [], _, _, _, _, he => nomatch he
  | (k, w) :: t, j, v, h, e, he => by
    obtain ⟨habove, -, hrest⟩ := wf_cons.1 h
    have hjk : j < k := by simpa [above] using habove
    rcases List.mem_cons.1 he with rfl | he
    · exact hjk
    · exact hjk.trans (lt_of_mem_of_wf hrest e he)

/-- No key stands twice in a table. -/
theorem keys_nodup : ∀ {t : Tab α}, Tab.wf d t = true → (t.map (·.1)).Nodup
  | [], _ => List.nodup_nil
  | (j, v) :: t, h => by
    refine List.nodup_cons.2 ⟨fun hmem => ?_, keys_nodup (wf_cons.1 h).2.2⟩
    obtain ⟨e, he, heq⟩ := List.mem_map.1 hmem
    exact absurd heq (Nat.ne_of_gt (lt_of_mem_of_wf h e he))

omit [DecidableEq α] in
/-- What is not listed is the default. -/
theorem look_of_not_mem_keys {n : Nat} : ∀ {t : Tab α}, n ∉ t.map (·.1) → look d t n = d
  | [], _ => rfl
  | (j, v) :: t, h => by
    rw [List.map_cons, List.mem_cons, not_or] at h
    rw [look, if_neg (Ne.symm h.1), look_of_not_mem_keys h.2]

theorem updAll_wf (f : Nat → α → α) : ∀ {ks : List Nat} {t : Tab α}, Tab.wf d t = true → Tab.wf d (updAll d t ks f) = true
  | [], _, h => h
  | k :: ks, _, h => updAll_wf (ks := ks) f (upd_wf k (f k) h)

/-- Every entry changed alike, where the default stays what it is. -/
theorem look_updAll_keys {t : Tab α} (f : α → α) (hd : f d = d) (hwf : Tab.wf d t = true) (n : Nat) :
    look d (updAll d t (t.map (·.1)) fun _ => f) n = f (look d t n) := by
  rw [look_updAll (fun _ => f) n (keys_nodup hwf) hwf]
  split
  · rfl
  next hnot => rw [look_of_not_mem_keys hnot, hd]

end Tables

section Flags

/-- A bit set is a field of one bit replaced. -/
theorem setBit_eq_withField (w i : Nat) (b : Bool) : setBit w i b = withField w i 1 b.toNat := by
  have hle : 2 ^ i * (w / 2 ^ i % 2) ≤ w :=
    (Nat.mul_le_mul_left _ (Nat.mod_le _ _)).trans (Nat.mul_div_le _ _)
  have hfield : field w i 1 = (bit w i).toNat := by
    rw [field, bit]
    rcases Nat.mod_two_eq_zero_or_one (w / 2 ^ i) with h | h
    · simp [h]
    · simp [h]
  have hbit : w / 2 ^ i % 2 = (bit w i).toNat := hfield
  rw [hbit] at hle
  rw [setBit, withField, hfield, place, place]
  cases hw : bit w i with
  | false => cases b <;> simp
  | true =>
    rw [hw] at hle
    cases b
    · simp
    · simp at hle ⊢
      omega

theorem testBit_setBit (w i j : Nat) (b : Bool) : (setBit w i b).testBit j = if j = i then b else w.testBit j := by
  rw [setBit_eq_withField, testBit_withField]
  by_cases hj : j = i
  · subst hj
    cases b <;> simp
  · rw [if_neg (by omega), if_neg hj]

/-- The bits of a mask are the numbers it is made of. -/
theorem testBit_maskOf (l : List Nat) (j : Nat) : (maskOf l).testBit j = decide (j ∈ l) := by
  have folded (l : List Nat) : ∀ w : Nat, (l.foldl (fun m i => setBit m i true) w).testBit j = (w.testBit j || decide (j ∈ l)) := by
    induction l with
    | nil => simp
    | cons i l ih =>
      intro w
      rw [List.foldl_cons, ih, testBit_setBit]
      by_cases hj : j = i
      · simp [hj]
      · simp [hj]
  rw [maskOf, folded, Nat.zero_testBit, Bool.false_or]

/-- A word of flags reads flag by flag. -/
theorem bit_flagsWord (f : Nat → Bool) (a : Nat) {i : Nat} (hi : i < 32) : bit (flagsWord f a).toNat i = f (a + i) := by
  rw [bit_eq_testBit, flagsWord, wd, BitVec.toNat_ofNat, Nat.testBit_mod_two_pow, testBit_maskOf]
  simp [hi]

end Flags

end Sys2Proof.Machine
end
section
/-! ADC.URGENT, ADC.CALIBRATE, DIO.READ, DIO.WRITE and DIO.STATUS (08 R275–R306). -/

namespace Sys2Proof.Machine

section Converters

variable {p : Packet} {s : State} {n c d : Nat} {k j : Conv}

theorem convOf_modConv {f : Conv → Conv} (hwf : Tab.wf {} s.adc.convs) (d : Nat) :
    convOf (s.modConv c f) d = if d = c then f (convOf s d) else convOf s d := look_upd f c d hwf

theorem modConv_wf {f : Conv → Conv} (hwf : Tab.wf {} s.adc.convs) : Tab.wf {} (s.modConv c f).adc.convs := upd_wf c f hwf

/-- A converter is busy with a group or an urgent conversion, or one waits for it (R275). -/
def Conv.clashes (k : Conv) : Bool :=
  k.waitingUrgent.isSome || (match k.busy with | some (.group _, _) => true | some (.urgent _, _) => true | _ => false)

theorem clashes_of (h : k.waitingUrgent ≠ none ∨ (∃ g pos, k.busy = some (.group g, pos)) ∨ ∃ v pos, k.busy = some (.urgent v, pos)) :
    k.clashes = true := by
  rcases h with h | ⟨g, pos, h⟩ | ⟨v, pos, h⟩
  · simp [Conv.clashes, Option.isSome_iff_ne_none.mpr h]
  · simp [Conv.clashes, h]
  · simp [Conv.clashes, h]

/-- A converter that begins nothing stays as it is. -/
theorem next_of_idle (hidle : (k.next c).busy = none) : k.next c = k := by
  unfold Conv.next at hidle ⊢
  split
  · rfl
  next hfree =>
    rw [if_neg hfree] at hidle
    split at hidle
    · cases hidle
    · cases hidle
    · split at hidle
      · cases hidle
      next hlate => simp_all
    · simp_all

/-- A converter that is busy begins nothing. -/
theorem next_of_busy (hbusy : k.busy.isSome = true) : k.next c = k := by
  rw [Conv.next, if_pos (Or.inr hbusy)]

/-- Beginning changes neither what is faulted nor the calibration asked for. -/
theorem next_faulted : (k.next c).faulted = k.faulted ∧ (k.next c).calibration = k.calibration := by
  unfold Conv.next
  split
  · exact ⟨rfl, rfl⟩
  · split
    · exact ⟨rfl, rfl⟩
    · exact ⟨rfl, rfl⟩
    · split
      · exact ⟨rfl, rfl⟩
      · exact ⟨rfl, rfl⟩
    · exact ⟨rfl, rfl⟩

/-- An urgent conversion that waited has begun, or still waits: none comes from nowhere. -/
theorem next_waitingUrgent (hnone : k.waitingUrgent = none) : (k.next c).waitingUrgent = none := by
  unfold Conv.next
  split
  · exact hnone
  · split
    · rfl
    · exact hnone
    · split
      · exact hnone
      · exact hnone
    · exact hnone

/-- R275: a converter that goes on with its table or a calibration, or idles, clashes with nothing. -/
theorem clashes_eq_false (hnone : k.waitingUrgent = none)
    (hbusy : (k.next c).busy = none ∨ (∃ pos, (k.next c).busy = some (.calibration, pos)) ∨ ∃ pos, (k.next c).busy = some (.table, pos)) :
    k.clashes = false ∧ (k.next c).clashes = false := by
  have plain (m : Conv) (hm : m.waitingUrgent = none)
      (hb : m.busy = none ∨ (∃ pos, m.busy = some (.calibration, pos)) ∨ ∃ pos, m.busy = some (.table, pos)) : m.clashes = false := by
    rcases hb with hb | ⟨pos, hb⟩ | ⟨pos, hb⟩
    · simp [Conv.clashes, hm, hb]
    · simp [Conv.clashes, hm, hb]
    · simp [Conv.clashes, hm, hb]
  refine ⟨plain k hnone ?_, plain _ (next_waitingUrgent hnone) hbusy⟩
  cases hk : k.busy with
  | none => exact Or.inl rfl
  | some b =>
    have same : k.next c = k := next_of_busy (by simp [hk])
    rw [same, hk] at hbusy
    exact hbusy

/-- R275: an urgent request that clashes with nothing waits in its converter, which begins what it can. -/
theorem requestUrgent_eq {v : Urgent} (hwf : Tab.wf {} s.adc.convs) (hc : c = v.input / 8) (hj : j = (convOf s c).next s.now)
    (hclash : j.clashes = false) (hsound : j.faulted = false) :
    ∃ u, requestUrgent v s = u ∧ u = s.modAdc (fun a => { a with convs := u.adc.convs }) ∧
      convOf u c = Conv.next { j with waitingUrgent := some v } s.now ∧ ∀ d, d ≠ c → convOf u d = convOf s d := by
  have woken : convOf (s.wakeConv c) c = j := (convOf_modConv hwf c).trans (by rw [if_pos rfl, hj])
  have hwf' : Tab.wf {} (s.wakeConv c).adc.convs := modConv_wf hwf
  have taken : requestUrgent v s = (s.wakeConv c).modConv c fun k => Conv.next { k with waitingUrgent := some v } s.now := by
    have passes : ¬ ((convOf (s.wakeConv c) c).clashes = true ∨ (convOf (s.wakeConv c) c).faulted = true) := by
      simp [woken, hclash, hsound]
    subst hc
    exact if_neg passes
  refine ⟨_, rfl, ?_, ?_, fun d hd => ?_⟩
  · rw [taken]
    rfl
  · rw [taken, convOf_modConv hwf', if_pos rfl, woken]
  · rw [taken, convOf_modConv hwf', if_neg hd]
    exact (convOf_modConv hwf d).trans (if_neg hd)

theorem cmdAdcUrgent_formed (hn : n = field (p.w 0) 0 7) (hlen : p.len = 1) (hres : reservedSet (p.w 0) 0xFFFFFF80 = false) :
    cmdAdcUrgent p s = checked [((convOf s (n / 8)).faulted, stAdFaulted)] s
      (if (convOf s (n / 8)).clashes then (s.modConv (n / 8) fun k => { k with urgentDropped := sat32 k.urgentDropped }, .done stAdDropped [])
       else (requestUrgent { input := n, byOp := none } s).defer .adcUrgent p [n]) := by
  subst hn
  rw [cmdAdcUrgent]
  simp only [hlen, hres]
  rfl

theorem cmdAdcCalibrate_formed (hn : n = field (p.w 0) 0 7) (hlen : p.len = 2) (hres : reservedSet (p.w 0) 0xFFFFFF00 = false)
    (href : refInRange (rangeOfInput s n) (p.w 1) = true) :
    cmdAdcCalibrate p s = checked
      [(notConfiguring s, stBadMode), ((convOf s (n / 8)).faulted, stAdFaulted),
       (bit (p.w 0) 7 && (match look none s.adc.zeroSteps (4 * n + rangeOfInput s n) with
          | none => true
          | some (_, v0) => decide (2 * (exact149 (p.w 1) - exact149 v0) < spanOf (rangeOfInput s n) * 2 ^ 149)), stAdCalRef),
       ((convOf s (n / 8)).calibration.isSome, stBusy)] s
      (((s.wakeConv (n / 8)).modConv (n / 8) fun k =>
        Conv.next { k with calibration := some { input := n, full := bit (p.w 0) 7, refV := p.w 1 } } s.now).defer .adcCalibrate p [n]) := by
  subst hn
  rw [cmdAdcCalibrate]
  simp only [hlen, hres, href]
  rfl

/-- R298: a calibration asked for waits in its converter, which begins it where it idles. -/
theorem calibrate_spec {m : Calibration} (hwf : Tab.wf {} s.adc.convs) (hk : k = convOf s c) (hj : j = k.next s.now) (hsound : k.faulted = false)
    (hcount : m.count = 0) {u : State}
    (hu : u = (s.wakeConv c).modConv c fun k => Conv.next { k with calibration := some m } s.now) :
    u = s.modAdc (fun a => { a with convs := u.adc.convs }) ∧ (convOf u c).calibration = some m ∧
    (j.busy = none → (convOf u c).busy = some (.calibration, m.input % 8)) ∧ (j.busy ≠ none → (convOf u c).busy = j.busy) ∧
    (∀ d, d ≠ c → convOf u d = convOf s d) := by
  have woken : convOf (s.wakeConv c) c = j := (convOf_modConv hwf c).trans (by rw [if_pos rfl, hj, hk])
  have hwf' : Tab.wf {} (s.wakeConv c).adc.convs := modConv_wf hwf
  have own : convOf u c = Conv.next { j with calibration := some m } s.now := by rw [hu, convOf_modConv hwf', if_pos rfl, woken]
  refine ⟨by rw [hu]; rfl, ?_, fun hidle => ?_, fun hbusy => ?_, fun d hd => ?_⟩
  · rw [own, next_faulted.2]
  · have same : j = k := by
      rw [hj] at hidle ⊢
      exact next_of_idle hidle
    have nothing : k.waitingUrgent = none := by
      by_contra hsome
      obtain ⟨v, hv⟩ := Option.ne_none_iff_exists'.mp hsome
      have hbusy : k.busy = none := same ▸ hidle
      rw [hj, Conv.next, if_neg (by simp [hsound, hbusy]), hv] at hidle
      cases hidle
    rw [own, same, Conv.next, if_neg (by simp [hsound, same ▸ hidle])]
    have waits : Option.filter (fun x : Calibration => decide (x.count < 1024)) (some m) = some m := by simp [Option.filter, hcount]
    simp only [nothing, waits]
    rfl
  · rw [own, next_of_busy (k := { j with calibration := some m }) (Option.isSome_iff_ne_none.mpr hbusy)]
  · rw [hu, convOf_modConv hwf', if_neg hd]
    exact (convOf_modConv hwf d).trans (if_neg hd)

end Converters

section Inputs

variable {p : Packet} {s u : State}

/-- A flag of a pair of words of flags. -/
theorem bit_flagsWords (f : Nat → Bool) (ws : List Word) (from' : Nat) (h0 : ws.getD from' 0 = flagsWord f 0)
    (h1 : ws.getD (from' + 1) 0 = flagsWord f 32) {k i : Nat} (hk : k < 2) (hi : i < 32) :
    bit (ws.getD (from' + k) 0).toNat i = f (32 * k + i) := by
  obtain rfl | rfl : k = 0 ∨ k = 1 := by omega
  · rw [Nat.add_zero, h0, bit_flagsWord f 0 hi]
  · rw [h1, bit_flagsWord f 32 hi]

/-- The words of DIO.READ (R304). -/
def levelWords (s : State) : List Word :=
  flagsWord (fun n => (dinOf (settleDins s) n).logical) 0 :: flagsWord (fun n => (dinOf (settleDins s) n).logical) 32 ::
    flagsWord (fun n => (doutOf s n).readback) 0 :: flagsWord (fun n => (doutOf s n).readback) 32 ::
    (List.range 16).map fun n => wd (encoderCount s n)

theorem cmdDioRead_done (hlen : p.len = 0) : cmdDioRead p s = (settleDins s, .done stOk (levelWords s)) := by
  simp only [cmdDioRead, hlen]
  rfl

theorem levelWords_count {n : Nat} (hn : n < 16) : (levelWords s).getD (4 + n) 0 = wd (encoderCount s n) := by
  rw [levelWords, Nat.add_comm]
  simp [hn]

/-- A level change that is due at the clock (08 R290). -/
def Enc.dueNow (e : Enc) (now : Nat) (level raw : Bool) (since : Nat) : Option Nat := (e.due level raw since).filter (· ≤ now)

/-- What an encoder is looked at with: its synchronised levels, their changes and its filter. -/
structure SameInput (e f : Enc) : Prop where
  rawA : f.rawA = e.rawA
  rawB : f.rawB = e.rawB
  sinceA : f.sinceA = e.sinceA
  sinceB : f.sinceB = e.sinceB
  filter : f.filter = e.filter

theorem SameInput.step {e f : Enc} (h : SameInput e f) (a b : Bool) (t : Nat) :
    SameInput e (f.step a b t) ∧ (f.step a b t).a = a ∧ (f.step a b t).b = b := by
  unfold Enc.step
  extract_lets d f'
  split
  · exact ⟨⟨h.rawA, h.rawB, h.sinceA, h.sinceB, h.filter⟩, rfl, rfl⟩
  · exact ⟨⟨h.rawA, h.rawB, h.sinceA, h.sinceB, h.filter⟩, rfl, rfl⟩

/-- Looked at, an encoder has taken the levels that were due and no others. -/
theorem settle_levels (e : Enc) (now : Nat) :
    SameInput e (e.settle now) ∧ (e.settle now).a = (if (e.dueNow now e.a e.rawA e.sinceA).isSome then e.rawA else e.a) ∧
    (e.settle now).b = (if (e.dueNow now e.b e.rawB e.sinceB).isSome then e.rawB else e.b) := by
  have self : SameInput e e := ⟨rfl, rfl, rfl, rfl, rfl⟩
  unfold Enc.settle
  extract_lets x y
  have hx : e.dueNow now e.a e.rawA e.sinceA = x := rfl
  have hy : e.dueNow now e.b e.rawB e.sinceB = y := rfl
  rw [hx, hy]
  cases x with
  | none => cases y with
    | none => exact ⟨self, rfl, rfl⟩
    | some u => exact self.step _ _ _
  | some t => cases y with
    | none => exact self.step _ _ _
    | some u =>
      simp only
      split
      · exact self.step _ _ _
      · split
        · exact (self.step _ _ _).1.step _ _ _
        · exact (self.step _ _ _).1.step _ _ _

/-- Looked at again at the same clock, an encoder stays (R290). -/
theorem settle_settled (e : Enc) (now : Nat) (q : Bool) : ({ e.settle now with quadErr := q } : Enc).settle now = { e.settle now with quadErr := q } := by
  obtain ⟨⟨hrawA, hrawB, hsinceA, hsinceB, hfilter⟩, ha, hb⟩ := settle_levels e now
  have taken {level raw : Bool} {since : Nat} {v : Bool} (hv : v = if (e.dueNow now level raw since).isSome then raw else level) :
      (Enc.due { e.settle now with quadErr := q } v raw since).filter (· ≤ now) = none := by
    have same : Enc.due { e.settle now with quadErr := q } v raw since = e.due v raw since := by simp [Enc.due, hfilter]
    rw [same, hv]
    cases hdue : e.dueNow now level raw since with
    | none => exact hdue
    | some t => simp [Enc.due]
  have hx := taken ha
  have hy := taken hb
  rw [← hrawA, ← hsinceA] at hx
  rw [← hrawB, ← hsinceB] at hy
  rw [Enc.settle]
  simp only [hx, hy]

/-- The reading of DIO.STATUS (R306). -/
def statusRead (s : State) : State :=
  (settleDins s).modDio fun u => { u with encs := updAll {} u.encs (u.encs.map (·.1)) fun _ e => { e.settle s.now with quadErr := false } }

theorem encOf_statusRead (hwf : Tab.wf {} s.dio.encs) (n : Nat) : encOf (statusRead s) n = { encOf s n with quadErr := false } := by
  have hlook := look_updAll_keys (t := s.dio.encs) (fun e : Enc => { e.settle s.now with quadErr := false }) rfl hwf n
  have read : encOf (statusRead s) n = Enc.settle { (look {} s.dio.encs n).settle s.now with quadErr := false } s.now := congrArg (Enc.settle · s.now) hlook
  rw [read, settle_settled]
  rfl

/-- The words of DIO.STATUS (R306). -/
def statusWords (p : Packet) (s : State) : List Word :=
  let t := settleDins s
  let i := field (p.w 0) 0 6
  [flagsWord (fun n => (dinOf t n).stuck) 0, flagsWord (fun n => (dinOf t n).stuck) 32, flagsWord (fun n => (dinOf t n).chatter) 0,
   flagsWord (fun n => (dinOf t n).chatter) 32, flagsWord (fun n => (doutOf s n).fault) 0, flagsWord (fun n => (doutOf s n).fault) 32,
   wd (dinOf t i).rise, wd (dinOf t i).fall, wd (maskOf ((List.range 16).filter fun n => (encOf s n).quadErr))]

theorem cmdDioStatus_done (hlen : p.len = 1) (hres : reservedSet (p.w 0) 0xFFFFFFC0 = false) :
    cmdDioStatus p s = (statusRead s, .done stOk (statusWords p s)) := by
  simp only [cmdDioStatus, hlen, hres]
  rfl

end Inputs

section Outputs

variable {p : Packet} {s u : State} {n : Nat}

/-- The substitute values of the outputs named, in words of 32 (R305). -/
def substSet (p : Packet) (atOnce : Bool) (s : State) : State :=
  (List.range 64).foldl (fun s i => if bit (p.w (1 + i / 32)) (i % 32) then
    s.modDout i fun d =>
      let v : Drive := if bit (p.w (3 + i / 32)) (i % 32) then .high else .low
      { d with subst := v, substNow := if atOnce then v else d.substNow } else s) s

theorem cmdDioWrite_formed (hres : reservedSet (p.w 0) 0xFFFFFFC0 = false)
    (hform : if bit (p.w 0) 0 then p.len = 2 ∧ inUnitInterval (p.w 1) = true else p.len = 5 ∧ field (p.w 0) 1 5 = 0) :
    cmdDioWrite p s = checked [(s.dev.mode == .safe || s.dev.mode == .graze, stBadMode)] s
      (if bit (p.w 0) 0 then
        (s.modPwm (field (p.w 0) 1 5) fun q => { q with
          substDuty := p.w 1
          shadow := if (!notConfiguring s && s.dio.substitute) && !loopDrives s (field (p.w 0) 1 5) then p.w 1 else q.shadow }, .done stOk [])
      else (driveDouts (substSet p (!notConfiguring s && s.dio.substitute) s), .done stOk [])) := by
  cases hbit : bit (p.w 0) 0 with
  | true =>
    rw [hbit, if_pos rfl] at hform
    simp only [cmdDioWrite, hbit, hres, hform.1, hform.2]
    rfl
  | false =>
    rw [hbit, if_neg Bool.false_ne_true] at hform
    simp only [cmdDioWrite, hbit, hres, hform.1, hform.2]
    rfl

/-- Outputs changed one after the other, each at most once. -/
theorem foldl_modDout {sel : Nat → Bool} {f : Nat → Dout → Dout} (l : List Nat) : ∀ s : State, l.Nodup → Tab.wf {} s.dio.douts →
    ∀ t, t = l.foldl (fun s i => if sel i then s.modDout i (f i) else s) s →
      Tab.wf {} t.dio.douts ∧ t = s.modDio (fun d => { d with douts := t.dio.douts }) ∧
      ∀ n, doutOf t n = if n ∈ l ∧ sel n then f n (doutOf s n) else doutOf s n := by
  induction l with
  | nil =>
    rintro s _ hwf t rfl
    exact ⟨hwf, rfl, fun n => by simp⟩
  | cons i l ih =>
    intro s hnodup hwf t ht
    obtain ⟨hi, hl⟩ := List.nodup_cons.1 hnodup
    rw [List.foldl_cons] at ht
    by_cases hsel : sel i = true
    · rw [if_pos hsel] at ht
      obtain ⟨hwf', hshape, hlook⟩ := ih (s.modDout i (f i)) hl (upd_wf i (f i) hwf) t ht
      refine ⟨hwf', hshape, fun n => ?_⟩
      have first : doutOf (s.modDout i (f i)) n = if n = i then f i (doutOf s n) else doutOf s n := look_upd (f i) i n hwf
      rw [hlook, first]
      by_cases hn : n = i
      · subst hn
        simp [hi, hsel]
      · simp [hn]
    · rw [if_neg hsel] at ht
      obtain ⟨hwf', hshape, hlook⟩ := ih s hl hwf t ht
      refine ⟨hwf', hshape, fun n => ?_⟩
      rw [hlook]
      by_cases hn : n = i
      · subst hn
        simp [hi, hsel]
      · simp [hn]

/-- Each output named has its new value, the others the one they had. -/
theorem substSet_spec {atOnce : Bool} (hwf : Tab.wf {} s.dio.douts) (hu : u = substSet p atOnce s) :
    Tab.wf {} u.dio.douts ∧ u = s.modDio (fun d => { d with douts := u.dio.douts }) ∧
    ∀ i < 64, (doutOf u i).subst = (if bit (p.w (1 + i / 32)) (i % 32)
        then (if bit (p.w (3 + i / 32)) (i % 32) then .high else .low) else (doutOf s i).subst) ∧
      (atOnce = false ∨ bit (p.w (1 + i / 32)) (i % 32) = false → (doutOf u i).substNow = (doutOf s i).substNow) := by
  obtain ⟨hwf', hshape, hlook⟩ := foldl_modDout (List.range 64) s List.nodup_range hwf u hu
  refine ⟨hwf', hshape, fun i hi => ?_⟩
  rw [hlook]
  by_cases hsel : bit (p.w (1 + i / 32)) (i % 32) = true
  · rw [if_pos ⟨List.mem_range.mpr hi, hsel⟩, if_pos hsel]
    refine ⟨rfl, fun hstays => ?_⟩
    have later : atOnce = false := by simpa [hsel] using hstays
    simp [later]
  · rw [if_neg (fun h => hsel h.2), if_neg hsel]
    exact ⟨rfl, fun _ => rfl⟩

/-- Driving an output changes neither of its substitute values (R286). -/
theorem doutOf_driveDouts (hwf : Tab.wf {} s.dio.douts) (i : Nat) :
    (doutOf (driveDouts s) i).subst = (doutOf s i).subst ∧ (doutOf (driveDouts s) i).substNow = (doutOf s i).substNow := by
  have keeps (d : Dout) (w : Drive) : (if w = d.drive then d else { d with drive := w, disagree := none }).subst = d.subst ∧
      (if w = d.drive then d else { d with drive := w, disagree := none }).substNow = d.substNow := by
    split
    · exact ⟨rfl, rfl⟩
    · exact ⟨rfl, rfl⟩
  have driven : doutOf (driveDouts s) i = _ := look_updAll (fun _ (d : Dout) =>
    let w := if outputsHighZ s then Drive.highZ else d.wanted s.dio.substitute
    if w = d.drive then d else { d with drive := w, disagree := none }) i (keys_nodup hwf) hwf
  rw [driven]
  split
  · exact keeps _ _
  · exact ⟨rfl, rfl⟩

end Outputs

/-- Settles O22: the converters take requests as `requestUrgent_eq` and `calibrate_spec` say; the words of the inputs read flag by flag. -/
theorem conversionsAndIo : Obligations.ConversionsAndIo := by
  refine ⟨fun p s n k j hwf hn hk hj => ⟨fun h hlen hres => ?urgent, fun h hlen hres href => ?calibrate⟩,
    fun p s hdouts hpwms hencs => ⟨fun h hlen => ?read, fun h hres => ?write, fun h hlen hres => ?status⟩⟩
  case urgent =>
    have formed := cmdAdcUrgent_formed (s := s) hn hlen hres
    rw [← hk] at formed
    refine ⟨fun hfault => command_done (body := cmdAdcUrgent) h ?_, fun hsound hclash => ?_, fun hsound hnone hidle => ?_, fun hsound hnone hbusy => ?_⟩
    · rw [formed, hfault, checked_cons_true]
    all_goals rw [hsound, checked_cons_false, checked_nil] at formed
    · rw [clashes_of hclash, if_pos rfl] at formed
      refine ⟨_, command_done (body := cmdAdcUrgent) h formed, rfl, ?_, fun d hd => ?_⟩
      · rw [convOf_modConv hwf, if_pos rfl, hk]
      · rw [convOf_modConv hwf, if_neg hd]
    · have free := clashes_eq_false (c := s.now) hnone (Or.inl (hj ▸ hidle))
      rw [free.1, if_neg Bool.false_ne_true] at formed
      have sound : j.faulted = false := by rw [hj, next_faulted.1, hsound]
      obtain ⟨u, hu, hshape, hown, hothers⟩ := requestUrgent_eq (v := { input := n, byOp := none }) hwf rfl (hk ▸ hj) (hj ▸ free.2) sound
      refine ⟨u, command_waits (body := cmdAdcUrgent) h (by rw [formed, hu]; rfl), hshape, ?_, hothers⟩
      have same : j = k := by
        rw [hj] at hidle ⊢
        exact next_of_idle hidle
      rw [hown, same, Conv.next, if_neg (by simp [hsound, same ▸ hidle])]
      cases k
      cases hnone
      rfl
    · have free := clashes_eq_false (c := s.now) hnone (Or.inr (hj ▸ hbusy))
      rw [free.1, if_neg Bool.false_ne_true] at formed
      have sound : j.faulted = false := by rw [hj, next_faulted.1, hsound]
      obtain ⟨u, hu, hshape, hown, hothers⟩ := requestUrgent_eq (v := { input := n, byOp := none }) hwf rfl (hk ▸ hj) (hj ▸ free.2) sound
      refine ⟨u, command_waits (body := cmdAdcUrgent) h (by rw [formed, hu]; rfl), ?_⟩
      rw [hown, next_of_busy]
      rcases hbusy with ⟨pos, hbusy⟩ | ⟨pos, hbusy⟩
      · simp [hbusy]
      · simp [hbusy]
  case calibrate =>
    have formed := cmdAdcCalibrate_formed (s := s) hn hlen hres href
    rw [← hk] at formed
    refine ⟨fun hconf hready => command_done (body := cmdAdcCalibrate) h ?_, fun hmode => ?_⟩
    · rw [formed, notConfiguring, decide_eq_true hconf, decide_eq_true hready]
      rfl
    have accepted : notConfiguring s = false := by
      rcases hmode with hmode | hmode
      · simp [notConfiguring, hmode]
      · simp [notConfiguring, hmode]
    rw [accepted, checked_cons_false] at formed
    refine ⟨fun hsound hfull hzero => command_done (body := cmdAdcCalibrate) h ?_, fun hsound hstep hbusy => command_done (body := cmdAdcCalibrate) h ?_,
      fun hsound hsteps hnone => ?_⟩
    · rw [formed, hsound, hfull, hzero]
      rfl
    · rw [formed, hsound, hstep, Option.isSome_iff_ne_none.mpr hbusy]
      rfl
    · have reference : (bit (p.w 0) 7 && (match look none s.adc.zeroSteps (4 * n + rangeOfInput s n) with
          | none => true
          | some (_, v0) => decide (2 * (exact149 (p.w 1) - exact149 v0) < spanOf (rangeOfInput s n) * 2 ^ 149))) = false := by
        rcases hsteps with hzero | ⟨m, v, hstep, hspan⟩
        · simp [hzero]
        · rw [hstep]
          exact (congrArg (bit (p.w 0) 7 && ·) (decide_eq_false (not_lt.mpr hspan))).trans (Bool.and_false _)
      have free : k.calibration.isSome = false := by simp [hnone]
      rw [hsound, free] at formed
      simp only [reference, checked_cons_false, checked_nil] at formed
      obtain ⟨hshape, hcal, hidle, hbusy, hothers⟩ := calibrate_spec
        (m := { input := n, full := bit (p.w 0) 7, refV := p.w 1 }) hwf hk hj hsound rfl rfl
      exact ⟨_, command_waits (body := cmdAdcCalibrate) h formed, hshape, hcal, hidle, hbusy, hothers⟩
  case read =>
    refine ⟨settleDins s, levelWords s, command_done (body := cmdDioRead) h (cmdDioRead_done hlen), rfl, by simp [levelWords],
      fun k hk i hi => ?_, fun k hk i hi => bit_flagsWords (fun n => (doutOf s n).readback) _ 2 rfl rfl hk hi, fun n hn => levelWords_count hn⟩
    have := bit_flagsWords (fun n => (dinOf (settleDins s) n).logical) (levelWords s) 0 rfl rfl hk hi
    rwa [Nat.zero_add] at this
  case write =>
    refine ⟨fun hpwm hlen hunit n hn => ?pwm, fun hdouts' hlen hzero => ?outputs⟩
    case pwm =>
      have formed := cmdDioWrite_formed (s := s) hres (by rw [hpwm, if_pos rfl]; exact ⟨hlen, hunit⟩)
      rw [hpwm, if_pos rfl, ← hn] at formed
      refine ⟨fun hmode => command_done (body := cmdDioWrite) h ?_, fun hsafe hgraze => ?_⟩
      · have turned : (s.dev.mode == .safe || s.dev.mode == .graze) = true := by
          rcases hmode with hmode | hmode
          · simp [hmode]
          · simp [hmode]
        rw [formed, turned, checked_cons_true]
      · have free : (s.dev.mode == .safe || s.dev.mode == .graze) = false := by simp [hsafe, hgraze]
        rw [free, checked_cons_false, checked_nil] at formed
        have hlook (m : Nat) := look_upd (fun q : Pwm => { q with
          substDuty := p.w 1, shadow := if (!notConfiguring s && s.dio.substitute) && !loopDrives s n then p.w 1 else q.shadow }) n m hpwms
        refine ⟨_, command_done (body := cmdDioWrite) h formed, rfl, ?_, fun m hm => (hlook m).trans (if_neg hm), ?_⟩
        · exact congrArg Pwm.substDuty ((hlook n).trans (if_pos rfl))
        · exact congrArg Pwm.shadow ((hlook n).trans (if_pos rfl))
    case outputs =>
      have formed := cmdDioWrite_formed (s := s) hres (by rw [hdouts', if_neg Bool.false_ne_true]; exact ⟨hlen, hzero⟩)
      rw [hdouts', if_neg Bool.false_ne_true] at formed
      refine ⟨fun hmode => command_done (body := cmdDioWrite) h ?_, fun hsafe hgraze => ?_⟩
      · have turned : (s.dev.mode == .safe || s.dev.mode == .graze) = true := by
          rcases hmode with hmode | hmode
          · simp [hmode]
          · simp [hmode]
        rw [formed, turned, checked_cons_true]
      · have free : (s.dev.mode == .safe || s.dev.mode == .graze) = false := by simp [hsafe, hgraze]
        rw [free, checked_cons_false, checked_nil] at formed
        obtain ⟨hwf', hshape, hset⟩ := substSet_spec (p := p) (atOnce := !notConfiguring s && s.dio.substitute) hdouts rfl
        refine ⟨_, command_done (body := cmdDioWrite) h formed, ?_, fun k hk i hi => ?_⟩
        · rw [hshape]
          rfl
        · obtain ⟨hsubst, hnow⟩ := hset (32 * k + i) (by omega)
          obtain ⟨hdriven, hdrivenNow⟩ := doutOf_driveDouts hwf' (32 * k + i)
          have hword : (32 * k + i) / 32 = k := by omega
          have hbit : (32 * k + i) % 32 = i := by omega
          rw [hword, hbit] at hsubst hnow
          refine ⟨hdriven.trans hsubst, fun hstays => hdrivenNow.trans (hnow ?_)⟩
          rcases hstays with hstays | hstays | hstays
          · simp [hstays]
          · simp [hstays]
          · exact Or.inr hstays
  case status =>
    refine ⟨statusRead s, statusWords p s, command_done (body := cmdDioStatus) h (cmdDioStatus_done hlen hres), rfl, fun k hk i hi => ?_,
      fun k hk i hi => ?_, fun n hn => ?_, fun n => by rw [encOf_statusRead hencs], fun n => by rw [encOf_statusRead hencs], rfl, rfl, rfl⟩
    · have := bit_flagsWords (fun n => (dinOf (settleDins s) n).stuck) (statusWords p s) 0 rfl rfl hk hi
      rwa [Nat.zero_add] at this
    · exact bit_flagsWords (fun n => (doutOf s n).fault) (statusWords p s) 4 rfl rfl hk hi
    · have flags : (statusWords p s).getD 8 0 = wd (maskOf ((List.range 16).filter fun n => (encOf s n).quadErr)) := rfl
      rw [flags, bit_eq_testBit, wd, BitVec.toNat_ofNat, Nat.testBit_mod_two_pow, testBit_maskOf]
      have small : n < 32 := by omega
      simp [hn, small]

end Sys2Proof.Machine
end
section
/-! DIO.INPUT_CONFIG, DIO.OUTPUT_CONFIG, DIO.PWM_CONFIG and DIO.ENC_CONFIG (08 R281–R290, R301–R303). -/

namespace Sys2Proof.Machine

/-- A word whose bits from `n` up are 0 is its field below them. -/
theorem field_low_of_reserved (p : Packet) (i n : Nat) (hn : n ≤ 32) (hres : reservedSet (p.w i) ((2 ^ (32 - n) - 1) <<< n) = false) :
    field (p.w i) 0 n = p.w i := by
  have upper : field (p.w i) n (32 - n) = 0 := of_not_not (of_decide_eq_false ((reservedSet_field (p.w i) n (32 - n)).symm.trans hres))
  have word : p.w i < 2 ^ (32 - n) * 2 ^ n := by
    rw [← Nat.pow_add, Nat.sub_add_cancel hn]
    exact (p.params.getD i 0).isLt
  refine field_eq_self_of_lt ((Nat.div_eq_zero_iff_lt (Nat.two_pow_pos n)).mp ?_)
  rwa [field, Nat.mod_eq_of_lt (Nat.div_lt_of_lt_mul (Nat.mul_comm _ _ ▸ word))] at upper

theorem rangeOf_nodup (lo hi : Nat) : (rangeOf lo hi).Nodup :=
  List.nodup_range.map fun _ _ h => Nat.add_left_cancel h

section Inputs

variable {p : Packet} {s : State} {n first last : Nat}

theorem foldl_modDin (f : Nat → Din → Din) (l : List Nat) : ∀ s : State,
    l.foldl (fun s n => s.modDin n (f n)) s = s.modDio fun u => { u with dins := updAll {} u.dins l f } := by
  induction l with
  | nil => exact fun s => rfl
  | cons i l ih => exact fun s => ih _

/-- No input's settings move the clock that the next one is set at. -/
theorem foldl_modDin_now (f : Nat → Din → Din) (l : List Nat) : ∀ s : State,
    l.foldl (fun s n => s.modDin n (f s.now)) s = l.foldl (fun t n => t.modDin n (f s.now)) s := by
  induction l with
  | nil => exact fun s => rfl
  | cons i l ih => exact fun s => ih _

theorem foldl_modDout_all (f : Nat → Dout → Dout) (l : List Nat) : ∀ s : State,
    l.foldl (fun s n => s.modDout n (f n)) s = s.modDio fun u => { u with douts := updAll {} u.douts l f } := by
  induction l with
  | nil => exact fun s => rfl
  | cons i l ih => exact fun s => ih _

/-- The settings of an input (R301), whose level counts a change that they make. -/
def inputSet (p : Packet) (now : Nat) (d : Din) : Din :=
  Din.count { d with activeLow := bit (p.w 0) 14, filter := field (p.w 1) 0 12, stuckMs := field (p.w 1) 16 16, chatterMax := field (p.w 2) 0 16 }
    d.logical now

theorem count_settings (d : Din) (before : Bool) (now : Nat) : (d.count before now).activeLow = d.activeLow ∧ (d.count before now).filter = d.filter ∧
    (d.count before now).stuckMs = d.stuckMs ∧ (d.count before now).chatterMax = d.chatterMax ∧ (d.count before now).raw = d.raw := by
  unfold Din.count
  repeat' split
  all_goals exact ⟨rfl, rfl, rfl, rfl, rfl⟩

theorem settle_raw (d : Din) (now : Nat) : (d.settle now).raw = d.raw := by
  unfold Din.settle
  simp only
  split
  · exact (count_settings _ _ _).2.2.2.2
  · rfl

theorem settleDins_wf (hwf : Tab.wf {} s.dio.dins) : Tab.wf {} (settleDins s).dio.dins := updAll_wf _ hwf

theorem dinOf_settleDins (hwf : Tab.wf {} s.dio.dins) (n : Nat) : dinOf (settleDins s) n = (dinOf s n).settle s.now :=
  look_updAll_keys (fun d : Din => d.settle s.now) rfl hwf n

/-- What DIO.INPUT_CONFIG makes of the inputs. -/
def inputsConfigured (p : Packet) (s : State) : State :=
  (rangeOf (field (p.w 0) 0 6) (field (p.w 0) 8 6)).foldl (fun s' n => s'.modDin n (inputSet p s.now)) (settleDins s)

/-- R301: the inputs of the range have their settings, every other one has taken the level that was due. -/
theorem inputsConfigured_spec (hwf : Tab.wf {} s.dio.dins) (hfirst : first = field (p.w 0) 0 6) (hlast : last = field (p.w 0) 8 6) (horder : first ≤ last) :
    inputsConfigured p s = s.modDio (fun d => { d with dins := (inputsConfigured p s).dio.dins }) ∧
    ∀ n, dinOf (inputsConfigured p s) n =
      if first ≤ n ∧ n ≤ last then inputSet p s.now ((dinOf s n).settle s.now) else (dinOf s n).settle s.now := by
  subst hfirst hlast
  have all : inputsConfigured p s = _ := foldl_modDin (fun _ => inputSet p s.now) _ _
  refine ⟨by rw [all]; rfl, fun n => ?_⟩
  have hlook := look_updAll (fun _ => inputSet p s.now) n (rangeOf_nodup (field (p.w 0) 0 6) (field (p.w 0) 8 6)) (settleDins_wf hwf)
  simp only [mem_rangeOf horder] at hlook
  rw [← dinOf_settleDins hwf, all]
  exact hlook

theorem cmdDioInputConfig_formed (hlen : p.len = 3) (horder : field (p.w 0) 0 6 ≤ field (p.w 0) 8 6)
    (hres : reservedSet (p.w 0) 0xFFFF80C0 = false) (hres1 : reservedSet (p.w 1) 0xF000 = false) (hres2 : reservedSet (p.w 2) 0xFFFF0000 = false) :
    cmdDioInputConfig p s = checked [(notConfiguring s, stBadMode)] s (inputsConfigured p s, .done stOk []) := by
  have horder' : decide (field (p.w 0) 8 6 < field (p.w 0) 0 6) = false := decide_eq_false (Nat.not_lt.mpr horder)
  simp only [cmdDioInputConfig, hlen, horder', hres, hres1, hres2]
  exact congrArg (fun u => checked [(notConfiguring s, stBadMode)] s (u, Verdict.done stOk [])) (foldl_modDin_now (inputSet p) _ _)

end Inputs

section Outputs

variable {p : Packet} {s : State} {n first last : Nat}

/-- The settings of an output (R302). -/
def outputSet (p : Packet) (d : Dout) : Dout :=
  { d with configured := true, openDrain := bit (p.w 0) 14, subst := Drive.ofNum (field (p.w 0) 15 2), substNow := Drive.ofNum (field (p.w 0) 15 2),
           fault := false, disagree := none }

/-- What DIO.OUTPUT_CONFIG makes of the outputs, before they are driven. -/
def outputsConfigured (p : Packet) (s : State) : State :=
  (rangeOf (field (p.w 0) 0 6) (field (p.w 0) 8 6)).foldl (fun s' n => s'.modDout n (outputSet p)) s

theorem outputsConfigured_spec (hwf : Tab.wf {} s.dio.douts) (hfirst : first = field (p.w 0) 0 6) (hlast : last = field (p.w 0) 8 6)
    (horder : first ≤ last) :
    outputsConfigured p s = s.modDio (fun d => { d with douts := (outputsConfigured p s).dio.douts }) ∧
    Tab.wf {} (outputsConfigured p s).dio.douts ∧
    ∀ n, doutOf (outputsConfigured p s) n = if first ≤ n ∧ n ≤ last then outputSet p (doutOf s n) else doutOf s n := by
  subst hfirst hlast
  have all : outputsConfigured p s = _ := foldl_modDout_all (fun _ => outputSet p) _ _
  have hlook (n : Nat) := look_updAll (fun _ => outputSet p) n (rangeOf_nodup (field (p.w 0) 0 6) (field (p.w 0) 8 6)) hwf
  simp only [mem_rangeOf horder] at hlook
  rw [all]
  exact ⟨rfl, updAll_wf _ hwf, hlook⟩

/-- Driving an output changes its level and the disagreement, and no setting (R286). -/
theorem driveDouts_settings (hwf : Tab.wf {} s.dio.douts) (n : Nat) :
    (doutOf (driveDouts s) n).configured = (doutOf s n).configured ∧ (doutOf (driveDouts s) n).openDrain = (doutOf s n).openDrain ∧
    (doutOf (driveDouts s) n).subst = (doutOf s n).subst ∧ (doutOf (driveDouts s) n).fault = (doutOf s n).fault := by
  have driven : doutOf (driveDouts s) n = _ := look_updAll (fun _ (d : Dout) =>
    let w := if outputsHighZ s then Drive.highZ else d.wanted s.dio.substitute
    if w = d.drive then d else { d with drive := w, disagree := none }) n (keys_nodup hwf) hwf
  rw [driven]
  simp only
  repeat' split
  all_goals exact ⟨rfl, rfl, rfl, rfl⟩

theorem cmdDioOutputConfig_formed (hlen : p.len = 1) (horder : field (p.w 0) 0 6 ≤ field (p.w 0) 8 6) (hsub : field (p.w 0) 15 2 ≠ 3)
    (hres : reservedSet (p.w 0) 0xFFFE00C0 = false) :
    cmdDioOutputConfig p s = checked [(notConfiguring s, stBadMode)] s (driveDouts (outputsConfigured p s), .done stOk []) := by
  have horder' : decide (field (p.w 0) 8 6 < field (p.w 0) 0 6) = false := decide_eq_false (Nat.not_lt.mpr horder)
  have hsub' : (field (p.w 0) 15 2 == 3) = false := beq_false_of_ne hsub
  simp only [cmdDioOutputConfig, hlen, horder', hsub', hres]
  rfl

end Outputs

section Units

variable {p : Packet} {s : State} {n : Nat}

/-- The settings of a PWM output (R303). -/
def pwmSet (p : Packet) (s : State) (q : Pwm) : Pwm :=
  { q with
    configured := true, center := bit (p.w 0) 5, dither := bit (p.w 0) 6, activeLow := bit (p.w 0) 7
    periodClk := p.w 1, phaseClk := p.w 2, minClk := p.w 3, substDuty := p.w 4, frac := 0
    shadow := if s.dio.substitute then p.w 4 else q.shadow, hi := 0, startAt := none }

theorem cmdDioPwmConfig_formed (hlen : p.len = 5) (hres : reservedSet (p.w 0) 0xFFFFFF00 = false) (hmin : 16 ≤ p.w 1) (hmax : p.w 1 ≤ 0xFFFFFF)
    (hphase : p.w 2 < p.w 1) (hclk : p.w 3 ≤ 0xFFFF) (hhalf : 2 * p.w 3 < p.w 1) (hunit : inUnitInterval (p.w 4) = true) (hn : n = field (p.w 0) 0 5) :
    cmdDioPwmConfig p s = checked [(notConfiguring s, stBadMode), (loopOwnsPwm s n, stDioOwned)] s (s.modPwm n (pwmSet p s), .done stOk []) := by
  subst hn
  simp only [cmdDioPwmConfig, hlen, hres, hunit, decide_eq_false (Nat.not_lt.mpr hmin), decide_eq_false (Nat.not_lt.mpr hmax),
    decide_eq_false (Nat.not_le.mpr hphase), decide_eq_false (Nat.not_lt.mpr hclk), decide_eq_false (Nat.not_le.mpr hhalf)]
  rfl

/-- The settings of an encoder (R303), whose count starts at 0. -/
def encSet (p : Packet) (e : Enc) : Enc :=
  { e with
    configured := true, mode := field (p.w 0) 4 2, filter := field (p.w 0) 6 8, latchSrc := field (p.w 0) 14 2, latchDin := field (p.w 0) 16 6,
    latchCont := bit (p.w 0) 22, velWindowUs := p.w 1, count := 0, history := [] }

theorem cmdDioEncConfig_formed (hlen : p.len = 2) (hmode : field (p.w 0) 4 2 ≠ 3) (hsrc : field (p.w 0) 14 2 ≠ 3)
    (hres : reservedSet (p.w 0) 0xFF800000 = false) (hlow : 1 ≤ p.w 1) (hhigh : p.w 1 < 65536) (hn : n = field (p.w 0) 0 4) :
    cmdDioEncConfig p s = checked [(notConfiguring s, stBadMode)] s (s.modEnc n (encSet p), .done stOk []) := by
  subst hn
  have window : field (p.w 1) 0 16 = p.w 1 := field_eq_self_of_lt (n := 16) hhigh
  have nonzero : (p.w 1 == 0) = false := beq_false_of_ne (by omega)
  have small : reservedSet (p.w 1) 0xFFFF0000 = false := reservedSet_eq_false_of_lt (n := 16) hhigh (by decide)
  simp only [cmdDioEncConfig, hlen, window, nonzero, small, hres, beq_false_of_ne hmode, beq_false_of_ne hsrc]
  rfl

/-- What the settings of an encoder are. -/
structure SameSettings (e f : Enc) : Prop where
  configured : f.configured = e.configured
  mode : f.mode = e.mode
  filter : f.filter = e.filter
  latchSrc : f.latchSrc = e.latchSrc
  latchDin : f.latchDin = e.latchDin
  latchCont : f.latchCont = e.latchCont
  velWindowUs : f.velWindowUs = e.velWindowUs

theorem SameSettings.step {e f : Enc} (h : SameSettings e f) (a b : Bool) (t : Nat) : SameSettings e (f.step a b t) := by
  obtain ⟨h1, h2, h3, h4, h5, h6, h7⟩ := h
  unfold Enc.step
  simp only
  split
  · exact ⟨h1, h2, h3, h4, h5, h6, h7⟩
  · exact ⟨h1, h2, h3, h4, h5, h6, h7⟩

/-- Looked at, an encoder keeps its settings. -/
theorem SameSettings.settle (e : Enc) (now : Nat) : SameSettings e (e.settle now) := by
  have self : SameSettings e e := ⟨rfl, rfl, rfl, rfl, rfl, rfl, rfl⟩
  unfold Enc.settle
  extract_lets x y
  cases x with
  | none => cases y with
    | none => exact self
    | some u => exact self.step _ _ _
  | some t => cases y with
    | none => exact self.step _ _ _
    | some u =>
      simp only
      repeat' split
      · exact self.step _ _ _
      · exact (self.step _ _ _).step _ _ _
      · exact (self.step _ _ _).step _ _ _

end Units

/-- Settles O23: each command sets up the unit that it names, which reads back as `inputsConfigured_spec`, `outputsConfigured_spec` and the
rules of tables say. -/
theorem ioSettings : Obligations.IoSettings := by
  refine fun p s hdins hdouts hpwms hencs => ⟨fun hconf hready op i hop h => ?refused, fun hmode => ?accepted⟩
  case refused =>
    have turned : notConfiguring s = true := by rw [notConfiguring, decide_eq_true hconf, decide_eq_true hready]; rfl
    rcases hop with ⟨rfl, rfl, hlen, horder, hres, hres1, hres2⟩ | ⟨rfl, rfl, hlen, horder, hsub, hres⟩
    · exact command_done (body := cmdDioInputConfig) h (by rw [cmdDioInputConfig_formed hlen horder hres hres1 hres2, turned, checked_cons_true])
    · exact command_done (body := cmdDioOutputConfig) h (by rw [cmdDioOutputConfig_formed hlen horder hsub hres, turned, checked_cons_true])
  have accepted : notConfiguring s = false := by
    rcases hmode with hmode | hmode
    · simp [notConfiguring, hmode]
    · simp [notConfiguring, hmode]
  refine ⟨fun h hlen horder hres hres1 hres2 => ?inputs, fun h hlen horder hsub hres => ?outputs,
    fun h hlen hres hmin hmax hphase hclk hhalf hunit n hn => ?pwm, fun h hlen hmode' hsrc hres hlow hhigh n hn => ?encoder⟩
  case inputs =>
    have formed := cmdDioInputConfig_formed (s := s) hlen horder hres hres1 hres2
    rw [accepted, checked_cons_false, checked_nil] at formed
    obtain ⟨hshape, hdin⟩ := inputsConfigured_spec (p := p) hdins rfl rfl horder
    refine ⟨_, command_done (body := cmdDioInputConfig) h formed, hshape, fun n => ⟨fun hin => ?_, fun hout => ?_⟩⟩
    · obtain ⟨hlow, hfilter, hstuck, hchatter, hraw⟩ := count_settings
        { (dinOf s n).settle s.now with
          activeLow := bit (p.w 0) 14, filter := field (p.w 1) 0 12, stuckMs := field (p.w 1) 16 16, chatterMax := field (p.w 2) 0 16 }
        ((dinOf s n).settle s.now).logical s.now
      rw [hdin, if_pos hin]
      refine ⟨hlow, hfilter, hstuck, hchatter.trans (field_low_of_reserved p 2 16 (by decide) hres2), hraw.trans (settle_raw _ _)⟩
    · rw [hdin, if_neg (by omega)]
  case outputs =>
    have formed := cmdDioOutputConfig_formed (s := s) hlen horder hsub hres
    rw [accepted, checked_cons_false, checked_nil] at formed
    obtain ⟨hshape, hwf, hdout⟩ := outputsConfigured_spec (p := p) hdouts rfl rfl horder
    refine ⟨_, command_done (body := cmdDioOutputConfig) h formed, ?_, fun n => ?_⟩
    · rw [hshape]
      rfl
    obtain ⟨hconfigured, hdrain, hsubst, hfault⟩ := driveDouts_settings hwf n
    rw [hconfigured, hdrain, hsubst, hfault, hdout]
    refine ⟨fun hin => ?_, fun hout => ?_⟩
    · rw [if_pos hin]
      exact ⟨rfl, rfl, rfl, rfl⟩
    · rw [if_neg (by omega)]
      exact ⟨rfl, rfl, rfl⟩
  case pwm =>
    have formed := cmdDioPwmConfig_formed (s := s) hlen hres hmin hmax hphase hclk hhalf hunit hn
    rw [accepted, checked_cons_false] at formed
    refine ⟨fun howned => command_done (body := cmdDioPwmConfig) h (by rw [formed, howned, checked_cons_true]), fun hfree => ?_⟩
    rw [hfree, checked_cons_false, checked_nil] at formed
    have hlook (m : Nat) : pwmOf (s.modPwm n (pwmSet p s)) m = _ := look_upd (pwmSet p s) n m hpwms
    refine ⟨_, command_done (body := cmdDioPwmConfig) h formed, rfl, ?_⟩
    rw [hlook n, if_pos rfl]
    exact ⟨rfl, rfl, rfl, rfl, rfl, rfl, rfl, rfl, rfl, fun m hm => (hlook m).trans (if_neg hm)⟩
  case encoder =>
    have formed := cmdDioEncConfig_formed (s := s) hlen hmode' hsrc hres hlow hhigh hn
    rw [accepted, checked_cons_false, checked_nil] at formed
    have hlook (m : Nat) : look {} (s.modEnc n (encSet p)).dio.encs m = _ := look_upd (fun e => encSet p (e.settle s.now)) n m hencs
    obtain ⟨h1, h2, h3, h4, h5, h6, h7⟩ := SameSettings.settle (look {} (s.modEnc n (encSet p)).dio.encs n) s.now
    rw [hlook n, if_pos rfl] at h1 h2 h3 h4 h5 h6 h7
    have own : encOf (s.modEnc n (encSet p)) n = (encSet p ((look {} s.dio.encs n).settle s.now)).settle s.now := by
      rw [encOf, hlook n, if_pos rfl]
      rfl
    refine ⟨_, command_done (body := cmdDioEncConfig) h formed, rfl, ?_⟩
    rw [own, hlook n, if_pos rfl]
    refine ⟨h1, h2, h3, h4, h5, h6, h7, rfl, fun m hm => ?_⟩
    rw [encOf, hlook m, if_neg hm]
    rfl

end Sys2Proof.Machine
end
section
/-! ACQ.SIGNAL_CONFIG, ACQ.STREAM_CONFIG, ACQ.WINDOW_CONFIG and ACQ.TRIGGER_CONFIG (09 R347–R350). -/

namespace Sys2Proof.Machine

section Entries

variable {p : Packet} {s : State} {lo hi : Nat}

/-- The entries from `lo` to `hi` are all there, or one is not. -/
theorem all_present_iff (horder : lo ≤ hi) : ((List.range (hi + 1 - lo)).all fun i => entryPresent s (lo + i)) = true ↔
    ∀ k, lo ≤ k → k ≤ hi → entryPresent s k = true := by
  rw [List.all_eq_true]
  refine ⟨fun h k hlo hhi => ?_, fun h i hi' => ?_⟩
  · have := h (k - lo) (List.mem_range.mpr (by omega))
    rwa [Nat.add_sub_cancel' hlo] at this
  · exact h _ (Nat.le_add_right _ _) (by have := List.mem_range.mp hi'; omega)

/-- What ACQ.SIGNAL_CONFIG writes into an entry (R347). -/
def entrySet (p : Packet) (k : Nat) (e : IndexEntry) : IndexEntry :=
  if 0x3000 ≤ k then { e with reduce := field (p.w 1) 0 7, userType := field (p.w 1) 8 3 } else { e with reduce := field (p.w 1) 0 7 }

/-- A running capture has a member among the entries (R347). -/
def entriesBusy (s : State) (lo hi : Nat) : Bool :=
  s.acq.captures.any fun c => c.2.running && c.2.members.any fun e => decide (lo ≤ e) && decide (e ≤ hi)

theorem entriesBusy_iff : entriesBusy s lo hi = true ↔ ∃ e ∈ s.acq.captures, e.2.running = true ∧ ∃ m ∈ e.2.members, lo ≤ m ∧ m ≤ hi := by
  simp [entriesBusy, List.any_eq_true]

theorem cmdAcqSignalConfig_formed (hlo : lo = field (p.w 0) 0 14) (hhi : hi = field (p.w 0) 16 14) (horder : lo ≤ hi) (hlen : p.len = 2)
    (hmin : 1 ≤ popCount 7 (field (p.w 1) 0 7)) (hmax : popCount 7 (field (p.w 1) 0 7) ≤ 4) (hres : reservedSet (p.w 0) 0xC000C000 = false)
    (hres1 : reservedSet (p.w 1) 0xFFFFF880 = false) (hty : field (p.w 1) 8 3 ≤ 5) (huser : field (p.w 1) 8 3 = 0 ∨ 0x3000 ≤ lo) :
    cmdAcqSignalConfig p s =
      checked [(!(List.range (hi + 1 - lo)).all fun i => entryPresent s (lo + i), stRange), (entriesBusy s lo hi, stAqRunning)] s
        (s.modAcq (fun a => { a with index := updAll {} a.index (rangeOf lo hi) (entrySet p) }), .done stOk []) := by
  subst hlo hhi
  have hmin' : (popCount 7 (field (p.w 1) 0 7) == 0) = false := beq_false_of_ne (by omega)
  have huser' : (decide (field (p.w 1) 8 3 ≠ 0) && decide (field (p.w 0) 0 14 < 0x3000)) = false := by
    rcases huser with huser | huser
    · simp [huser]
    · simp [Nat.not_lt.mpr huser]
  simp only [cmdAcqSignalConfig, hlen, hmin', hres, hres1, huser', decide_eq_false (Nat.not_lt.mpr horder), decide_eq_false (Nat.not_lt.mpr hmax),
    decide_eq_false (Nat.not_lt.mpr hty)]
  rfl

end Entries

section Captures

variable {p : Packet} {s : State} {win : Bool} {fixed c : Nat}

/-- The members that ACQ.STREAM_CONFIG and ACQ.WINDOW_CONFIG name (R348, R349). -/
def namedMembers (fixed : Nat) (p : Packet) : List Nat := (p.params.drop fixed).map (·.toNat)

/-- The entries that a capture is to hold are all there. -/
theorem members_present (hpresent : ∀ k, fixed ≤ k → k < p.len → entryPresent s (p.w k) = true) :
    ((namedMembers fixed p).any fun m => !entryPresent s m) = false := by
  rw [List.any_eq_false]
  intro m hm
  obtain ⟨w, hw, rfl⟩ := List.mem_map.mp hm
  obtain ⟨k, hk, rfl⟩ := List.mem_iff_getElem.mp hw
  rw [List.length_drop] at hk
  have there := hpresent (fixed + k) (Nat.le_add_right _ _) (by unfold Packet.len; omega)
  rw [Packet.w, List.getD_eq_getElem _ _ (by omega)] at there
  rw [List.getElem_drop, there]
  decide

/-- The words that an appending command leaves at 0 (R349). -/
theorem unused_zero (hzero : ∀ k, 1 ≤ k → k < fixed → p.w k = 0) : ((p.params.take fixed).drop 1).any (· ≠ 0) = false := by
  rw [List.any_eq_false]
  intro w hw
  obtain ⟨k, hk, rfl⟩ := List.mem_iff_getElem.mp hw
  rw [List.length_drop, List.length_take] at hk
  have zero := hzero (1 + k) (Nat.le_add_right _ _) (by omega)
  rw [Packet.w, List.getD_eq_getElem _ _ (by omega)] at zero
  rw [List.getElem_drop, List.getElem_take]
  simpa using BitVec.eq_of_toNat_eq zero

/-- A capture with further members (R349). -/
def Capture.extended (k : Capture) (ms : List Nat) : Capture := { k with members := k.members ++ ms }

/-- What a capture that is to be `new` is still checked for (R348, R349). -/
def captureChecks (s : State) (c : Nat) (new : Capture) : List (Bool × Nat) :=
  [((capOf s c).running, stAqRunning), (!regionOk s c new, stAqRegion), ((new.ring ≠ 0 || new.spill) && !captureRingOk s c new.ring, stAqRing),
    (!membersOk s c new, stAqMembers), (!windowFits s new, stRange)]

theorem captureConfig_append (hfixed : fixed = if win then 10 else 7) (hlen : fixed ≤ p.len) (hc : c = field (p.w 0) 0 4)
    (hres : reservedSet (p.w 0) 0xFFFFFFE0 = false) (happend : bit (p.w 0) 4 = true) (hzero : ∀ k, 1 ≤ k → k < fixed → p.w k = 0)
    (hpresent : ∀ k, fixed ≤ k → k < p.len → entryPresent s (p.w k) = true) :
    captureConfig win p s =
      checked ((!((capOf s c).configured && (capOf s c).windowClass == win), stAqNotConfigured) ::
          captureChecks s c ((capOf s c).extended (namedMembers fixed p))) s
        (s.modCap c (fun _ => (capOf s c).extended (namedMembers fixed p)), .done stOk []) := by
  have hpresent' := members_present hpresent
  have hzero' := unused_zero hzero
  subst hc hfixed
  simp only [namedMembers] at hpresent'
  simp only [captureConfig, happend, hres, hpresent', hzero', decide_eq_false (Nat.not_lt.mpr hlen), if_true, Bool.false_or, Bool.true_and]
  rfl

/-- The capture that ACQ.STREAM_CONFIG and ACQ.WINDOW_CONFIG set up (R348, R349). -/
def capSet (win : Bool) (fixed : Nat) (p : Packet) : Capture :=
  { configured := true, windowClass := win, recordUs := field (p.w 1) 0 16, decMin := field (p.w 1) 16 4, overload := field (p.w 1) 20 2,
    ring := field (p.w 2) 0 6, regionBase := p.w 3, regionSize := p.w 4, settle := field (p.w 5) 0 16,
    lateUs := field (p.w 5) 16 16, configId := p.w 6, log2 := field (p.w 1) 16 4,
    pre := if win then p.w 7 else 0, post := if win then p.w 8 else 0, nwin := if win then field (p.w 9) 0 7 else 0,
    spill := win && bit (p.w 9) 7, autoSend := win && bit (p.w 9) 8, rearm := win && bit (p.w 9) 9, members := namedMembers fixed p }

/-- R349: the fields that a window capture has to itself, and those that it leaves 0. -/
def windowFieldsBad (p : Packet) : Bool :=
  field (p.w 1) 20 2 ≠ 0 || field (p.w 1) 16 4 ≠ 0 || field (p.w 5) 0 16 ≠ 0 || field (p.w 9) 0 7 == 0 || 64 < field (p.w 9) 0 7 ||
    reservedSet (p.w 9) 0xFFFFFC00

theorem windowFieldsBad_eq_false (h1 : field (p.w 1) 16 6 = 0) (h5 : field (p.w 5) 0 16 = 0) (hmin : 1 ≤ field (p.w 9) 0 7)
    (hmax : field (p.w 9) 0 7 ≤ 64) (hres : reservedSet (p.w 9) 0xFFFFFC00 = false) : windowFieldsBad p = false := by
  have hdec : field (p.w 1) 16 4 = 0 := by unfold field at h1 ⊢; omega
  have hover : field (p.w 1) 20 2 = 0 := by unfold field at h1 ⊢; omega
  have hmin' : (field (p.w 9) 0 7 == 0) = false := beq_false_of_ne (by omega)
  simp [windowFieldsBad, hdec, hover, h5, hmin', hmax, hres]

theorem captureConfig_whole (hfixed : fixed = if win then 10 else 7) (hlen : fixed ≤ p.len) (hc : c = field (p.w 0) 0 4)
    (hres : reservedSet (p.w 0) 0xFFFFFFE0 = false) (happend : bit (p.w 0) 4 = false) (hrecord : 1 ≤ field (p.w 1) 0 16)
    (hdec : field (p.w 1) 16 4 ≤ 10) (hover : field (p.w 1) 20 2 ≤ 2) (hres1 : reservedSet (p.w 1) 0xFFC00000 = false)
    (hres2 : reservedSet (p.w 2) 0xFFFFFFC0 = false) (hlate : field (p.w 5) 16 16 ≤ 20000) (hring : field (p.w 2) 0 6 ≠ 1)
    (hring0 : win = false → field (p.w 2) 0 6 ≠ 0) (hwin : win = true → windowFieldsBad p = false)
    (hpresent : ∀ k, fixed ≤ k → k < p.len → entryPresent s (p.w k) = true) :
    captureConfig win p s =
      checked (captureChecks s c (capSet win fixed p)) s (s.modCap c (fun _ => capSet win fixed p), .done stOk []) := by
  have hpresent' := members_present hpresent
  simp only [namedMembers] at hpresent'
  have hrecord' : (field (p.w 1) 0 16 == 0) = false := beq_false_of_ne (by omega)
  have hring' : (field (p.w 2) 0 6 == 1) = false := beq_false_of_ne hring
  have hring0' : (!win && field (p.w 2) 0 6 == 0) = false := by
    cases win with
    | false => exact beq_false_of_ne (hring0 rfl)
    | true => rfl
  have hwin' : (win && (decide (field (p.w 1) 20 2 ≠ 0) || decide (field (p.w 1) 16 4 ≠ 0) || decide (field (p.w 5) 0 16 ≠ 0) ||
      (if win then field (p.w 9) 0 7 else 0) == 0 || decide (64 < if win then field (p.w 9) 0 7 else 0) || reservedSet (p.w 9) 0xFFFFFC00)) = false := by
    cases win with
    | false => rfl
    | true => exact hwin rfl
  subst hc hfixed
  simp only [captureConfig, happend, hres, hpresent', hrecord', hring', hring0', hwin', hres1, hres2, decide_eq_false (Nat.not_lt.mpr hlen),
    decide_eq_false (Nat.not_lt.mpr hdec), decide_eq_false (Nat.not_lt.mpr hover), decide_eq_false (Nat.not_lt.mpr hlate), Bool.false_eq_true, if_false,
    Bool.false_or, Bool.false_and]
  rfl

/-- The two commands are one (R348, R349). -/
theorem capture_command {op : Op} {i : Instr} (hcase : win = false ∧ op = .acqStreamConfig ∧ i = .acqStreamConfig p ∧ fixed = 7 ∨
    win = true ∧ op = .acqWindowConfig ∧ i = .acqWindowConfig p ∧ fixed = 10) : exec i s = command op (captureConfig win) p s := by
  rcases hcase with ⟨rfl, rfl, rfl, rfl⟩ | ⟨rfl, rfl, rfl, rfl⟩
  · rfl
  · rfl

theorem fixed_eq {op : Op} {i : Instr} (hcase : win = false ∧ op = .acqStreamConfig ∧ i = .acqStreamConfig p ∧ fixed = 7 ∨
    win = true ∧ op = .acqWindowConfig ∧ i = .acqWindowConfig p ∧ fixed = 10) : fixed = if win then 10 else 7 := by
  rcases hcase with ⟨rfl, rfl, rfl, rfl⟩ | ⟨rfl, rfl, rfl, rfl⟩
  · rfl
  · rfl

/-- The two commands turned away. -/
theorem capture_refused {op : Op} {i : Instr} {st : Nat} (hcase : win = false ∧ op = .acqStreamConfig ∧ i = .acqStreamConfig p ∧ fixed = 7 ∨
    win = true ∧ op = .acqWindowConfig ∧ i = .acqWindowConfig p ∧ fixed = 10) (h : Reached op p s)
    (hdone : captureConfig win p s = (s, .done st [])) : Refuses i op p s st :=
  (capture_command hcase).trans (command_done (body := captureConfig win) h hdone)

/-- The two commands taken: the capture is `new`, and the others stay. -/
theorem capture_taken {op : Op} {i : Instr} {new : Capture} (hcase : win = false ∧ op = .acqStreamConfig ∧ i = .acqStreamConfig p ∧ fixed = 7 ∨
    win = true ∧ op = .acqWindowConfig ∧ i = .acqWindowConfig p ∧ fixed = 10) (h : Reached op p s) (hwf : Tab.wf {} s.acq.captures)
    (hdone : captureConfig win p s = (s.modCap c (fun _ => new), .done stOk [])) : ∃ u,
    (win = false → exec (.acqStreamConfig p) s = .next (u.conclude .acqStreamConfig p stOk [])) ∧
    (win = true → exec (.acqWindowConfig p) s = .next (u.conclude .acqWindowConfig p stOk [])) ∧
    u = s.modAcq (fun a => { a with captures := u.acq.captures }) ∧ capOf u c = new ∧ ∀ d, d ≠ c → capOf u d = capOf s d := by
  have hlook (d : Nat) : capOf (s.modCap c (fun _ => new)) d = _ := look_upd (fun _ => new) c d hwf
  have hexec := (capture_command hcase).trans (command_done (body := captureConfig win) h hdone)
  refine ⟨_, ?_, ?_, rfl, (hlook c).trans (if_pos rfl), fun d hd => (hlook d).trans (if_neg hd)⟩
  · rintro rfl
    rcases hcase with ⟨-, rfl, rfl, rfl⟩ | ⟨hwin, -⟩
    · exact hexec
    · cases hwin
  · rintro rfl
    rcases hcase with ⟨hwin, -⟩ | ⟨-, rfl, rfl, rfl⟩
    · cases hwin
    · exact hexec

/-- A capture that sends nothing needs no ring (R348). -/
theorem ring_checked {new : Capture} (hring : new.ring = 0 ∧ new.spill = false ∨ captureRingOk s c new.ring = true) :
    ((new.ring ≠ 0 || new.spill) && !captureRingOk s c new.ring) = false := by
  rcases hring with ⟨hring, hspill⟩ | hring
  · simp [hring, hspill]
  · simp [hring]

end Captures

section Triggers

variable {p : Packet} {s : State} {v kind : Nat}

/-- R350: no compound unit names another one, and none is named by one. -/
theorem not_nested (hkind : kind = 12 ∨ kind = 13 → ∀ q < 32, bit (p.w 6) q = true → q ≠ v ∧ (trigOf s q).kind ≠ 12 ∧ (trigOf s q).kind ≠ 13)
    (hnamed : kind = 12 ∨ kind = 13 → ∀ q < 32, q ≠ v → (trigOf s q).kind = 12 ∨ (trigOf s q).kind = 13 → bit (trigOf s q).mask v = false) :
    ((kind == 12 || kind == 13) &&
      (((List.range 32).any fun q => q ≠ v && ((trigOf s q).kind == 12 || (trigOf s q).kind == 13) && bit (trigOf s q).mask v) ||
        (bitsOf 32 (p.w 6)).any fun q => q == v || ((trigOf s q).kind == 12 || (trigOf s q).kind == 13))) = false := by
  by_cases hcompound : kind = 12 ∨ kind = 13
  · refine Bool.and_eq_false_iff.mpr (Or.inr ?_)
    rw [Bool.or_eq_false_iff, List.any_eq_false, List.any_eq_false]
    refine ⟨fun q hq => ?_, fun q hq => ?_⟩
    · have := hnamed hcompound q (List.mem_range.mp hq)
      simp only [Bool.and_eq_true, Bool.or_eq_true, decide_eq_true_eq, beq_iff_eq, not_and, Bool.not_eq_true, and_imp]
      exact this
    · have hlt : q < 32 := List.mem_range.mp (List.mem_filter.mp hq).1
      obtain ⟨hne, h12, h13⟩ := hkind hcompound q hlt (mem_bitsOf hq)
      simp [hne, h12, h13]
  · rw [not_or] at hcompound
    simp [hcompound]

/-- What ACQ.TRIGGER_CONFIG makes of a unit (R350). -/
def trigSet (p : Packet) : TrigUnit :=
  { kind := field (p.w 0) 5 4, source := p.w 1, level := p.w 2 + place 32 (p.w 3), level2 := p.w 4 + place 32 (p.w 5), mask := p.w 6, matchW := p.w 7
    targets := field (p.w 8) 0 16, holdoffUs := field (p.w 8) 16 16, ready := field (p.w 0) 5 4 ≠ 3 && field (p.w 0) 5 4 ≠ 4 }

theorem cmdAcqTriggerConfig_formed (hlen : p.len = 9) (hv : v = field (p.w 0) 0 5) (hk : kind = field (p.w 0) 5 4) (hmax : kind ≤ 13)
    (hkind : kind = 12 ∨ kind = 13 → ∀ q < 32, bit (p.w 6) q = true → q ≠ v ∧ (trigOf s q).kind ≠ 12 ∧ (trigOf s q).kind ≠ 13)
    (hnamed : kind = 12 ∨ kind = 13 → ∀ q < 32, q ≠ v → (trigOf s q).kind = 12 ∨ (trigOf s q).kind = 13 → bit (trigOf s q).mask v = false)
    (hres : reservedSet (p.w 0) 0xFFFFFE00 = false) (hres1 : reservedSet (p.w 1) 0xFFFFC000 = false)
    (hlevel : Fmt.b64.isFinite (p.w 2 + place 32 (p.w 3)) = true) (hlevel2 : Fmt.b64.isFinite (p.w 4 + place 32 (p.w 5)) = true)
    (hband : kind = 3 ∨ kind = 4 → Fmt.b64.lt (p.w 4 + place 32 (p.w 5)) 0 = false)
    (hpresent : 1 ≤ kind → kind ≤ 8 → entryPresent s (p.w 1) = true) :
    cmdAcqTriggerConfig p s = (s.modTrig v (fun _ => trigSet p), .done stOk []) := by
  have hnested := not_nested hkind hnamed
  have hsource : field (p.w 1) 0 14 = p.w 1 := field_low_of_reserved p 1 14 (by decide) hres1
  have hband' : ((kind == 3 || kind == 4) && Fmt.b64.lt (p.w 4 + place 32 (p.w 5)) 0) = false := by
    by_cases h : kind = 3 ∨ kind = 4
    · rw [hband h, Bool.and_false]
    · rw [not_or] at h
      simp [h]
  have hpresent' : (decide (1 ≤ kind) && decide (kind ≤ 8) && !entryPresent s (p.w 1)) = false := by
    by_cases h : 1 ≤ kind ∧ kind ≤ 8
    · rw [hpresent h.1 h.2, Bool.not_true, Bool.and_false]
    · rw [← Bool.decide_and, decide_eq_false h, Bool.false_and]
  subst hv hk
  simp only [cmdAcqTriggerConfig, hlen, hsource, hres, hres1, hlevel, hlevel2, hband', hpresent', hnested, decide_eq_false (Nat.not_lt.mpr hmax)]
  simp only [trigSet]
  rfl

end Triggers

/-- Settles O24: the entries by `cmdAcqSignalConfig_formed`, the capture by what `captureChecks` leave to check, the trigger unit whole. -/
theorem captureSettings : Obligations.CaptureSettings := by
  refine fun p s => ⟨fun h hwf hlen lo hi hlo hhi horder hmin hmax hres hres1 hty huser => ?entries,
    fun win op i fixed c hcase h hwf hlen hc hres happend hzero hpresent => ?append,
    fun win op i fixed c hcase h hwf hlen hc hres happend hrecord hdec hover hres1 hres2 hlate hring hring0 hwin hpresent hstill new hnew => ?whole,
    fun h hwf hlen v kind hv hk hmax hkind hnamed hres hres1 hlevel hlevel2 hband hpresent => ?trigger⟩
  case entries =>
    have formed := cmdAcqSignalConfig_formed (s := s) hlo hhi horder hlen hmin hmax hres hres1 hty huser
    refine ⟨fun hmissing => ?_, fun hpresent hbusy => ?_, fun hpresent hfree => ?_⟩
    · refine command_done (body := cmdAcqSignalConfig) h ?_
      have absent : ((List.range (hi + 1 - lo)).all fun i => entryPresent s (lo + i)) = false := by
        rw [← Bool.not_eq_true, all_present_iff horder]
        rintro hall
        obtain ⟨k, hlo, hhi, hk⟩ := hmissing
        exact Bool.false_ne_true (hk.symm.trans (hall k hlo hhi))
      rw [formed, absent, Bool.not_false, checked_cons_true]
    all_goals rw [(all_present_iff horder).mpr hpresent, Bool.not_true, checked_cons_false] at formed
    · exact command_done (body := cmdAcqSignalConfig) h (by rw [formed, entriesBusy_iff.mpr hbusy, checked_cons_true])
    · have free : entriesBusy s lo hi = false := by
        rw [← Bool.not_eq_true, entriesBusy_iff]
        rintro ⟨e, he, hrun, m, hm, hin⟩
        have := hfree e he hrun m hm
        omega
      rw [free, checked_cons_false, checked_nil] at formed
      have hlook (k : Nat) := look_updAll (entrySet p) k (rangeOf_nodup lo hi) hwf
      simp only [mem_rangeOf horder] at hlook
      refine ⟨_, command_done (body := cmdAcqSignalConfig) h formed, rfl, fun k hklo hkhi => ?_, fun k hk => ?_⟩
      · have set : look {} (updAll {} s.acq.index (rangeOf lo hi) (entrySet p)) k = entrySet p k (look {} s.acq.index k) :=
          (hlook k).trans (if_pos ⟨hklo, hkhi⟩)
        simp only [State.modAcq, set, entrySet]
        split
        · exact ⟨rfl, rfl, rfl, fun _ => rfl⟩
        · exact ⟨rfl, rfl, rfl, fun huser => absurd huser ‹_›⟩
      · exact (hlook k).trans (if_neg (by omega))
  case append =>
    have formed := captureConfig_append (fixed_eq hcase) hlen hc hres happend hzero hpresent
    refine ⟨fun hother => capture_refused hcase h ?_, fun hconf hclass => ?_⟩
    · have other : ((capOf s c).configured && (capOf s c).windowClass == win) = false := by
        rcases hother with hother | hother
        · simp [hother]
        · simp [hother]
      simp only [formed, other, Bool.not_false, checked_cons_true]
    · have same : ((capOf s c).configured && (capOf s c).windowClass == win) = true := by simp [hconf, hclass]
      rw [same, Bool.not_true, checked_cons_false, captureChecks] at formed
      refine ⟨fun hrun => capture_refused hcase h (by rw [formed, hrun, checked_cons_true]),
        fun new hnew hstill hregion hring hmembers hfits => capture_taken hcase h hwf ?_⟩
      rw [show (capOf s c).extended (namedMembers fixed p) = new from hnew.symm] at formed
      rw [formed, hstill, ring_checked hring, hregion, hmembers, hfits]
      rfl
  case whole =>
    have windowed (hw : win = true) : windowFieldsBad p = false := by
      obtain ⟨h1, h5, hmin, hmax, hres9⟩ := hwin hw
      exact windowFieldsBad_eq_false h1 h5 hmin hmax hres9
    have formed := captureConfig_whole (fixed_eq hcase) hlen hc hres happend hrecord hdec hover hres1 hres2 hlate hring hring0 windowed hpresent
    rw [show capSet win fixed p = new from hnew.symm, captureChecks, hstill, checked_cons_false] at formed
    refine ⟨fun hregion => capture_refused hcase h ?_, fun hregion hsends hother => capture_refused hcase h ?_, fun hregion hring => ?_⟩
    · rw [formed, hregion, Bool.not_false, checked_cons_true]
    · have sends : (decide (new.ring ≠ 0) || new.spill) = true := by simpa using hsends
      rw [formed, hregion, sends, hother]
      rfl
    · rw [hregion, ring_checked hring, Bool.not_true, checked_cons_false, checked_cons_false] at formed
      refine ⟨fun hmany => capture_refused hcase h ?_, fun hmembers hfits => capture_refused hcase h ?_, fun hmembers hfits => capture_taken hcase h hwf ?_⟩
      · rw [formed, hmany, Bool.not_false, checked_cons_true]
      · rw [formed, hmembers, hfits]
        rfl
      · rw [formed, hmembers, hfits]
        rfl
  case trigger =>
    have formed := cmdAcqTriggerConfig_formed hlen hv hk hmax hkind hnamed hres hres1 hlevel hlevel2 hband hpresent
    have hlook (d : Nat) : trigOf (s.modTrig v (fun _ => trigSet p)) d = _ := look_upd (fun _ => trigSet p) v d hwf
    refine ⟨_, command_done (body := cmdAcqTriggerConfig) h formed, rfl, ?_⟩
    rw [hlook v, if_pos rfl]
    exact ⟨hk.symm, rfl, rfl, rfl, rfl, rfl, rfl, rfl, fun d hd => (hlook d).trans (if_neg hd)⟩

end Sys2Proof.Machine
end
section
/-! What sending a record of a capture leaves as it was (02 R63, R69; 09 R338–R341). -/

namespace Sys2Proof.Machine

variable {s t u : State}

/-- `t` is `s` but for what the delivery of words to a host ring or a region of memory moves. -/
def Streamed (s t : State) : Prop :=
  t = { s with outbox := t.outbox, fresh := t.fresh, host := t.host, mem := t.mem, keep := t.keep, tally := t.tally }

namespace Streamed

theorem refl (s : State) : Streamed s s := rfl

theorem trans (h : Streamed s t) (h' : Streamed t u) : Streamed s u := by
  unfold Streamed at h h' ⊢
  rw [h', h]

theorem acq_eq (h : Streamed s t) : t.acq = s.acq := by
  unfold Streamed at h
  rw [h]

theorem dev_eq (h : Streamed s t) : t.dev = s.dev := by
  unfold Streamed at h
  rw [h]

theorem loop_eq (h : Streamed s t) : t.loop = s.loop := by
  unfold Streamed at h
  rw [h]

/-- Delivery after delivery. -/
theorem foldl {α : Type} {f : State → α → State} (hf : ∀ s a, Streamed s (f s a)) : ∀ (l : List α) (s : State), Streamed s (l.foldl f s)
  | [], s => refl s
  | a :: l, s => (hf s a).trans (foldl hf l (f s a))

theorem emit (s : State) (o : Out) : Streamed s (s.emit o) := rfl

theorem modRing (s : State) (n : Nat) (f : Ring → Ring) : Streamed s (s.modRing n f) := rfl

theorem recordOpen (s : State) (unit ev sev : Nat) (transient : Bool) : Streamed s (s.recordOpen unit ev sev transient) := by
  obtain ⟨n, y, recorded⟩ := s.recordOpen_eq unit ev sev transient
  rw [recorded]
  rfl

theorem sendVector (s : State) (v : Nat) : Streamed s (s.sendVector v) := by
  obtain ⟨q, o, sent⟩ := s.sendVector_eq v
  rw [sent]
  rfl

theorem writeWords (s : State) (a : Nat) (ws : List Word) : Streamed s (s.writeWords a ws) := by
  obtain ⟨m, k, written⟩ := s.writeBytes_eq a (ws.flatMap bytesOf)
  rw [State.writeWords, written]
  rfl

theorem writeOut (s : State) (transport : Nat) (pieces : List (Nat × List Word)) : Streamed s (s.writeOut transport pieces) := by
  refine foldl (fun s e => ?_) pieces s
  split
  · exact emit s _
  · exact writeWords s _ _

theorem writeRegion (s : State) (cap : Capture) (i : Nat) (ws : List Word) : Streamed s (s.writeRegion cap i ws) := by
  unfold State.writeRegion
  exact foldl (f := fun s (e : Nat × List Word) => s.writeWords e.1 e.2) (fun s e => writeWords s e.1 e.2) _ s

theorem faultRing (s : State) (n cause : Nat) : Streamed s (s.faultRing n cause) := (modRing s n _).trans (sendVector _ 0)

theorem ringIrq (n : Nat) (s : State) : Streamed s (ringIrq n s) := by
  unfold Machine.ringIrq
  simp only
  split
  · exact refl s
  · split
    · exact (modRing s n _).trans (sendVector _ _)
    · exact modRing s n _

theorem ringPut (n : Nat) (ws : List Word) (dma : Dma) (s : State) : Streamed s (ringPut n ws dma s).1 := by
  unfold Machine.ringPut
  extract_lets r s₁ s₂ prod s₃ s₄
  split
  · exact refl s
  · split
    · exact faultRing s n 3
    · have retried : Streamed s s₁ := by
        simp only [s₁]
        split
        · exact recordOpen s _ _ _ _
        · exact refl s
      have shadowed : Streamed s₃ s₄ := by
        simp only [s₄]
        split
        · exact refl s₃
        · exact writeOut s₃ _ _
      exact (((retried.trans (writeOut s₁ _ _)).trans (modRing s₂ n _)).trans shadowed).trans (ringIrq n s₄)

theorem putParts (ring : Nat) (dma : Dma) : ∀ (parts : List (List Word)) (s : State), Streamed s (putParts ring dma parts s).1
  | [], s => refl s
  | ws :: parts, s => by
    unfold Machine.putParts
    have put := ringPut ring ws dma s
    split
    · rename_i s' hput
      rw [hput] at put
      exact put.trans (putParts ring dma parts s')
    · rename_i s' hput
      rw [hput] at put
      exact put

end Streamed

/-- A capture whose records have gone to its ring, its region or its losses, and which is otherwise as it was. -/
def Capture.Sent (k k' : Capture) : Prop :=
  k' = { k with lost := k'.lost, gaps := k'.gaps, lostCount := k'.lostCount, queue := k'.queue, slotNext := k'.slotNext }

theorem Capture.Sent.trans {k k' k'' : Capture} (h : k.Sent k') (h' : k'.Sent k'') : k.Sent k'' := by
  unfold Capture.Sent at h h' ⊢
  rw [h', h]

/-- `t` is `s` after records of the capture `c`. -/
structure Recorded (c : Nat) (s t : State) : Prop where
  shape : Streamed (s.modAcq fun a => { a with captures := t.acq.captures }) t
  captures : Tab.wf {} s.acq.captures → Tab.wf {} t.acq.captures ∧ (capOf s c).Sent (capOf t c) ∧ ∀ d, d ≠ c → capOf t d = capOf s d

namespace Recorded

variable {c : Nat}

theorem of_streamed (h : Streamed s t) : Recorded c s t := by
  have same : t.acq = s.acq := h.acq_eq
  refine ⟨?_, fun hwf => ?_⟩
  · rw [same]
    exact h
  · simp only [capOf, same]
    exact ⟨hwf, rfl, fun _ _ => trivial⟩

theorem refl (s : State) : Recorded c s s := of_streamed (Streamed.refl s)

theorem trans (h : Recorded c s t) (h' : Recorded c t u) : Recorded c s u := by
  refine ⟨?_, fun hwf => ?_⟩
  · have first := h.shape
    have second := h'.shape
    unfold Streamed at first second ⊢
    rw [second, first]
    rfl
  · obtain ⟨hwf', hown, hothers⟩ := h.captures hwf
    obtain ⟨hwf'', hown', hothers'⟩ := h'.captures hwf'
    exact ⟨hwf'', hown.trans hown', fun d hd => (hothers' d hd).trans (hothers d hd)⟩

theorem foldl {α : Type} {f : State → α → State} (hf : ∀ s a, Recorded c s (f s a)) : ∀ (l : List α) (s : State), Recorded c s (l.foldl f s)
  | [], s => refl s
  | a :: l, s => (hf s a).trans (foldl hf l (f s a))

theorem modCap (s : State) {f : Capture → Capture} (hf : ∀ k : Capture, k.Sent (f k)) : Recorded c s (s.modCap c f) := by
  refine ⟨rfl, fun hwf => ⟨upd_wf c f hwf, ?_, fun d hd => ?_⟩⟩
  · have own : capOf (s.modCap c f) c = f (capOf s c) := (look_upd f c c hwf).trans (if_pos rfl)
    rw [own]
    exact hf _
  · exact (look_upd f c d hwf).trans (if_neg hd)

theorem lose (s : State) (l : Lost) : Recorded c s (s.lose c l) := modCap s fun _ => rfl

theorem enqueue (s : State) (rseq time lengthNs : Nat) (ws : List Word) : Recorded c s (s.enqueue c rseq time lengthNs ws) := by
  unfold State.enqueue
  extract_lets cap n q
  exact (of_streamed (Streamed.writeRegion s cap _ ws)).trans (modCap _ fun _ => rfl)

theorem enqueueGaps (s : State) : Recorded c s (s.enqueueGaps c) := by
  unfold State.enqueueGaps
  extract_lets cap s₁
  exact (foldl (fun s l => enqueue s _ _ _ _) cap.lost s).trans (modCap s₁ fun _ => rfl)

theorem queueRecord (s : State) (rseq time lengthNs : Nat) (parts : List (List Word)) : Recorded c s (s.queueRecord c rseq time lengthNs parts) := by
  unfold State.queueRecord
  extract_lets cap need
  split
  · exact (enqueueGaps s).trans (foldl (fun s ws => enqueue s _ _ _ ws) parts _)
  · exact lose s _

theorem streamRecord (s : State) (rseq time lengthNs : Nat) (dma : Dma) (parts : List (List Word)) :
    Recorded c s (s.streamRecord c rseq time lengthNs dma parts).1 := by
  unfold State.streamRecord
  extract_lets cap r lost s₁ s₂
  split
  · exact lose s _
  · have gaps : Recorded c s s₂ := (of_streamed (Streamed.foldl (fun s l => Streamed.ringPut _ _ _ s) cap.lost s)).trans (modCap s₁ fun _ => rfl)
    have put := Streamed.putParts cap.ring dma parts s₂
    split
    · rename_i s' hput
      rw [hput] at put
      exact gaps.trans (of_streamed put)
    · rename_i s' hput
      rw [hput] at put
      exact (gaps.trans (of_streamed put)).trans (lose s' _)

theorem noteState (s : State) (ev time oldTime : Nat) : Recorded c s (s.noteState c ev time oldTime) := by
  unfold State.noteState
  extract_lets cap ws
  split
  · split
    · exact refl s
    · exact streamRecord s _ _ _ _ _
  · exact queueRecord s _ _ _ _

end Recorded

end Sys2Proof.Machine
end
section
/-! ACQ.HIST_CONFIG, ACQ.PMAP_CONFIG and ACQ.CONTROL (09 R347, R351, R352). -/

namespace Sys2Proof.Machine

section Memories

variable {p : Packet} {s : State} {h m base n : Nat}

/-- The memory of an engine is zeroed, or stays. -/
def memoryCleared (clear : Bool) (base n : Nat) (s : State) : State :=
  if clear then s.modMem fun k => { k with store := clearRange base (base + n) k.store } else s

theorem memoryCleared_acq (clear : Bool) : (memoryCleared clear base n s).acq = s.acq := by
  unfold memoryCleared
  split
  · rfl
  · rfl

theorem readByte_memoryCleared (hcanon : Canonical s) (clear : Bool) (x : Nat) :
    readByte (memoryCleared clear base n s) x = if clear ∧ base ≤ x ∧ x < base + n then 0 else readByte s x := by
  cases clear with
  | false => simp [memoryCleared]
  | true =>
    have kept := look_filter (d := (0 : Byte)) (fun e => ¬ (base ≤ e ∧ e < base + n)) x hcanon
    refine kept.trans ?_
    by_cases hin : base ≤ x ∧ x < base + n
    · simp [hin]
    · simp [hin, readByte]

/-- The histogram that ACQ.HIST_CONFIG sets up (R347). -/
def histSet (p : Packet) (old : Hist) : Hist :=
  { enable := bit (p.w 0) 4, source := p.w 1, low := p.w 2 + place 32 (p.w 3), width := p.w 4 + place 32 (p.w 5),
    nan := if bit (p.w 0) 5 then 0 else old.nan }

/-- R347: an enabled histogram is to change what it counts. -/
def histClashes (p : Packet) (old : Hist) : Bool :=
  old.enable && bit (p.w 0) 4 && (old.source ≠ p.w 1 || old.low ≠ p.w 2 + place 32 (p.w 3) || old.width ≠ p.w 4 + place 32 (p.w 5))

theorem cmdAcqHistConfig_formed (hlen : p.len = 6) (hh : h = field (p.w 0) 0 4) (hbase : base = 0x30700000 + 0x1000 * h)
    (hres : reservedSet (p.w 0) 0xFFFFFFC0 = false) (hres1 : reservedSet (p.w 1) 0xFFFFC000 = false) (hpresent : entryPresent s (p.w 1) = true)
    (hlow : Fmt.b64.isFinite (p.w 2 + place 32 (p.w 3)) = true) (hwidth : Fmt.b64.isFinite (p.w 4 + place 32 (p.w 5)) = true)
    (hpos : Fmt.b64.lt 0 (p.w 4 + place 32 (p.w 5)) = true) :
    cmdAcqHistConfig p s =
      checked [(histClashes p (look {} s.acq.hists h), stAqRunning)] s
        ((memoryCleared (bit (p.w 0) 5) base 0x1000 s).modAcq fun a =>
          { a with hists := put {} a.hists h (histSet p (look {} s.acq.hists h)) }, .done stOk []) := by
  have hsource : field (p.w 1) 0 14 = p.w 1 := field_low_of_reserved p 1 14 (by decide) hres1
  subst hh hbase
  simp only [cmdAcqHistConfig, hlen, hsource, hres, hres1, hpresent, hlow, hwidth, hpos]
  rfl

/-- A map's new settings keep the decay that runs where its time stays (log 132). -/
def pmapSet (p : Packet) (s : State) (old : Pmap) : Pmap :=
  let new : Pmap :=
    { enable := bit (p.w 0) 2, xy := bit (p.w 0) 4, trig := field (p.w 0) 5 5, ySource := field (p.w 1) 0 14, xSource := field (p.w 1) 16 14
      yLow := p.w 2 + place 32 (p.w 3), yWidth := p.w 4 + place 32 (p.w 5)
      xLow := if bit (p.w 0) 4 then p.w 6 + place 32 (p.w 7) else 0, colUs := if bit (p.w 0) 4 then 0 else p.w 6, xWidth := p.w 8
      decayMs := field (p.w 9) 0 16, points := if bit (p.w 0) 3 then 0 else old.points, decayFrom := s.now }
  let same : Pmap := { old with
    enable := new.enable, decayMs := new.decayMs, points := new.points, sweep := none, lastX := [], decayFrom := s.now }
  let new : Pmap := if same = new ∧ old.enable then { new with sweep := old.sweep, lastX := old.lastX } else new
  if old.decayMs = new.decayMs then { new with decayFrom := old.decayFrom } else new

theorem pmapSet_fields (p : Packet) (s : State) (old : Pmap) : (pmapSet p s old).enable = bit (p.w 0) 2 ∧ (pmapSet p s old).xy = bit (p.w 0) 4 ∧
    (pmapSet p s old).trig = field (p.w 0) 5 5 ∧ (pmapSet p s old).ySource = field (p.w 1) 0 14 ∧
    (pmapSet p s old).decayMs = field (p.w 9) 0 16 ∧ (pmapSet p s old).points = (if bit (p.w 0) 3 then 0 else old.points) := by
  unfold pmapSet
  extract_lets new same kept
  have fields : kept.enable = bit (p.w 0) 2 ∧ kept.xy = bit (p.w 0) 4 ∧ kept.trig = field (p.w 0) 5 5 ∧ kept.ySource = field (p.w 1) 0 14 ∧
      kept.decayMs = field (p.w 9) 0 16 ∧ kept.points = (if bit (p.w 0) 3 then 0 else old.points) := by
    simp only [kept]
    split
    · exact ⟨rfl, rfl, rfl, rfl, rfl, rfl⟩
    · exact ⟨rfl, rfl, rfl, rfl, rfl, rfl⟩
  split
  · exact fields
  · exact fields

theorem cmdAcqPmapConfig_done (hlen : p.len = 10) (hres : reservedSet (p.w 0) 0xFFFFFC00 = false) (hres1 : reservedSet (p.w 1) 0xC000C000 = false)
    (hres9 : reservedSet (p.w 9) 0xFFFF0000 = false) (hpresent : entryPresent s (field (p.w 1) 0 14) = true)
    (hlow : Fmt.b64.isFinite (p.w 2 + place 32 (p.w 3)) = true) (hwidth : Fmt.b64.isFinite (p.w 4 + place 32 (p.w 5)) = true)
    (hpos : Fmt.b64.lt 0 (p.w 4 + place 32 (p.w 5)) = true) (hm : m = field (p.w 0) 0 2) (hbase : base = 0x30780000 + 0x20000 * m)
    (hx : (bit (p.w 0) 4 = false ∧ field (p.w 1) 16 14 = 0 ∧ 1 ≤ p.w 6 ∧ p.w 6 ≤ 65535 ∧ p.w 7 = 0 ∧ p.w 8 = 0) ∨
      (bit (p.w 0) 4 = true ∧ entryPresent s (field (p.w 1) 16 14) = true ∧ Fmt.b64.isFinite (p.w 6 + place 32 (p.w 7)) = true ∧
        Fmt.b32.isFinite (p.w 8) = true ∧ Fmt.b32.lt 0 (p.w 8) = true))
    (hoff : (look {} s.acq.pmaps m).enable = false ∨ bit (p.w 0) 2 = false) :
    cmdAcqPmapConfig p s = ((memoryCleared (bit (p.w 0) 3) base 0x20000 s).modAcq fun a =>
      { a with pmaps := put {} a.pmaps m (pmapSet p s (look {} s.acq.pmaps m)) }, .done stOk []) := by
  have hoff' : ((look {} s.acq.pmaps m).enable && bit (p.w 0) 2) = false := Bool.and_eq_false_iff.mpr hoff
  subst hm hbase
  rcases hx with ⟨hxy, hsource, hmin, hmax, h7, h8⟩ | ⟨hxy, hthere, hfinite, hfinite', hpos'⟩
  · have hmin' : (p.w 6 == 0) = false := beq_false_of_ne (by omega)
    simp only [cmdAcqPmapConfig, hlen, hres, hres1, hres9, hpresent, hlow, hwidth, hpos, hxy, hsource, hmin', h7, h8, hoff', memoryCleared, pmapSet,
      Bool.false_eq_true, if_false, decide_eq_false (Nat.not_lt.mpr hmax)]
    rfl
  · simp only [cmdAcqPmapConfig, hlen, hres, hres1, hres9, hpresent, hlow, hwidth, hpos, hxy, hthere, hfinite, hfinite', hpos', hoff', memoryCleared, pmapSet,
      if_true]
    rfl

end Memories

section Control

variable {p : Packet} {s : State} {c : Nat} {f : Capture → Capture}

theorem capOf_modCap (hwf : Tab.wf {} s.acq.captures) (d : Nat) : capOf (s.modCap c f) d = if d = c then f (capOf s d) else capOf s d :=
  look_upd f c d hwf

theorem modCap_wf (hwf : Tab.wf {} s.acq.captures) : Tab.wf {} (s.modCap c f).acq.captures := upd_wf c f hwf

/-- R326: a capture that may fills the next free buffer, and is otherwise as it was. -/
def Capture.Filled (k k' : Capture) : Prop := k' = { k with bufs := k'.bufs, filling := k'.filling, fillFrom := k'.fillFrom, fillOrd := k'.fillOrd }

theorem beginFill_spec (hwf : Tab.wf {} s.acq.captures) (b : Nat) :
    s.beginFill c b = s.modAcq (fun a => { a with captures := (s.beginFill c b).acq.captures }) ∧ (capOf s c).Filled (capOf (s.beginFill c b) c) ∧
    (∀ d, d ≠ c → capOf (s.beginFill c b) d = capOf s d) ∧
    ∀ w, (bufOf (capOf (s.beginFill c b) c) w).state = (bufOf (capOf s c) w).state ∨ (bufOf (capOf (s.beginFill c b) c) w).state = .filling := by
  unfold State.beginFill
  extract_lets cap
  split
  · exact ⟨rfl, rfl, fun _ _ => rfl, fun _ => Or.inl rfl⟩
  · split
    · exact ⟨rfl, rfl, fun _ _ => rfl, fun _ => Or.inl rfl⟩
    · rename_i w hw
      have own := capOf_modCap (c := c) (f := fun k => { k with
        bufs := put {} k.bufs w { state := .filling }, filling := some w, fillFrom := b, fillOrd := 0 }) hwf
      refine ⟨rfl, ?_, fun d hd => ?_, fun v => ?_⟩
      · rw [own c, if_pos rfl]
        rfl
      · rw [own d, if_neg hd]
      · rw [own c, if_pos rfl]
        by_cases hv : v = w
        · subst hv
          right
          exact congrArg WinBuffer.state (look_put_of_ne (d := ({} : WinBuffer)) _ _ _ (by simp))
        · left
          exact congrArg WinBuffer.state (look_put_other (d := ({} : WinBuffer)) _ _ hv)

/-- R352: what an accepted ACQ.CONTROL is still checked for. -/
def controlChecks (p : Packet) (s : State) (c action : Nat) : List (Bool × Nat) :=
  [(4 < action || (action == 4 && (capOf s c).configured && (field (p.w 0) 14 4 < (capOf s c).decMin || 10 < field (p.w 0) 14 4)), stRange),
    (s.dev.mode == .graze && (action == 0 || action == 2), stBadMode), (!(capOf s c).configured, stAqNotConfigured),
    (acqActionBad s c action (field (p.w 0) 8 6), stAqState),
    (action == 0 && ((capOf s c).ring ≠ 0 || !(capOf s c).windowClass) &&
      s.acq.captures.any (fun e => e.1 ≠ c && e.2.streams && e.2.ring == (capOf s c).ring), stAqRing)]

/-- A capture that is to stop at the end of the interval, and whose open buffer goes unless a window fills it (R327). -/
def stopping (us : Nat) (k : Capture) : Capture :=
  { k with
    stopAt := some (k.nextBoundary us)
    filling := if k.window.isSome then k.filling else none
    armed := k.armed && k.window.isSome, rearm := k.rearm
    bufs := match k.filling with | some w => if k.window.isSome then k.bufs else put {} k.bufs w {} | none => k.bufs }

/-- What ACQ.CONTROL does (R352). -/
def controlled (p : Packet) (s : State) (c action : Nat) : State × Verdict :=
  match action with
  | 0 => (startCapture c s, .done stOk [])
  | 1 => (s.modCap c (stopping (usOf s.clock))).defer .acqControl p [c]
  | 2 => ((s.modCap c fun k => { k with armed := true, deadFrom := s.ns, deadIgnoredPre := 0 }).beginFill c ((capOf s c).nextBoundary (usOf s.clock)),
      .done stOk [])
  | 3 => ((s.modCap c fun k => { k with bufs := put {} k.bufs (field (p.w 0) 8 6) {} }).beginFill c ((capOf s c).nextBoundary (usOf s.clock)),
      .done stOk [])
  | _ => (s.modCap c fun k => { k with hostRate := some (field (p.w 0) 14 4, usOf s.clock) }, .done stOk [])

theorem cmdAcqControl_formed {action : Nat} (hlen : p.len = 1) (hres : reservedSet (p.w 0) 0xFFFC0080 = false) (hc : c = field (p.w 0) 0 4)
    (haction : action = field (p.w 0) 4 3) : cmdAcqControl p s = checked (controlChecks p s c action) s (controlled p s c action) := by
  subst hc haction
  simp only [cmdAcqControl, hlen, hres, Bool.or_false]
  rfl

/-- R352: a started capture runs from the next boundary at its least rate, armed where it takes windows; the device is as it was
but for the record and the captures. -/
theorem startCapture_spec {k : Capture} (hwf : Tab.wf {} s.acq.captures) (hk : k = capOf s c) :
    (capOf (startCapture c s) c).running = true ∧ (capOf (startCapture c s) c).log2 = k.decMin ∧
    (capOf (startCapture c s) c).startB = Capture.boundary { k with log2 := k.decMin } ((s.clock + 799) / 800) ∧
    (capOf (startCapture c s) c).armed = k.windowClass ∧ (∀ d, d ≠ c → capOf (startCapture c s) d = capOf s d) ∧
    (startCapture c s).dev = s.dev ∧ (startCapture c s).loop = s.loop := by
  subst hk
  unfold startCapture
  extract_lets cap now cap' b s₁
  have own : capOf s₁ c = _ := (capOf_modCap hwf c).trans (if_pos rfl)
  have noted : Recorded c s₁ (s₁.noteState c 0 s₁.ns 0) := Recorded.noteState s₁ 0 s₁.ns 0
  obtain ⟨hwf', hsent, hothers⟩ := noted.captures (modCap_wf hwf)
  obtain ⟨hshape, hfilled, hfar, -⟩ := beginFill_spec (c := c) hwf' b
  unfold Capture.Sent at hsent
  unfold Capture.Filled at hfilled
  rw [hfilled, hsent, own]
  refine ⟨rfl, rfl, rfl, rfl, fun d hd => ?_, ?_, ?_⟩
  · rw [hfar d hd, hothers d hd, capOf_modCap hwf, if_neg hd]
  · rw [hshape]
    exact noted.shape.dev_eq
  · rw [hshape]
    exact noted.shape.loop_eq

end Control

/-- Settles O25: the memory by `readByte_memoryCleared`, the tables of the engines by their one entry, the captures by `controlled`. -/
theorem engineSettings : Obligations.EngineSettings := by
  refine fun p s hcanon => ⟨fun h hwf hlen n source low width base hn hsource hlow hwidth hbase hres hres1 hpresent hfinite hfinite' hpos old hold => ?hist,
    fun h hwf hlen hres hres1 hres9 hpresent hfinite hfinite' hpos m hm base hbase hx hoff => ?pmap,
    fun h hwf hlen hres c cap action hc hcap haction => ?control⟩
  case hist =>
    subst hsource hlow hwidth hold
    have formed := cmdAcqHistConfig_formed (s := s) hlen hn hbase hres hres1 hpresent hfinite hfinite' hpos
    refine ⟨fun hold hnew hchange => command_done (body := cmdAcqHistConfig) h ?_, fun hquiet => ?_⟩
    · have changed : histClashes p (look {} s.acq.hists n) = true := by
        simpa [histClashes, hold, hnew, or_assoc] using hchange
      rw [formed, changed, checked_cons_true]
    · have quiet : histClashes p (look {} s.acq.hists n) = false := by
        rcases hquiet with hquiet | hquiet | ⟨h1, h2, h3⟩
        · simp [histClashes, hquiet]
        · simp [histClashes, hquiet]
        · simp [histClashes, h1, h2, h3]
      rw [quiet, checked_cons_false, checked_nil] at formed
      refine ⟨_, command_done (body := cmdAcqHistConfig) h formed, ?_⟩
      simp only [State.modAcq, memoryCleared_acq]
      exact ⟨look_put_same _ _ hwf, fun g hg => look_put_other _ _ hg, readByte_memoryCleared hcanon (bit (p.w 0) 5), trivial, trivial⟩
  case pmap =>
    obtain ⟨henable, hxy, htrig, hy, hdecay, hpoints⟩ := pmapSet_fields p s (look {} s.acq.pmaps m)
    have done := cmdAcqPmapConfig_done hlen hres hres1 hres9 hpresent hfinite hfinite' hpos hm hbase hx hoff
    refine ⟨_, command_done (body := cmdAcqPmapConfig) h done, ?_⟩
    simp only [State.modAcq, memoryCleared_acq, look_put_same _ _ hwf]
    exact ⟨henable, hxy, htrig, hy, hdecay.trans (field_low_of_reserved p 9 16 (by decide) hres9), hpoints, fun k hk => look_put_other _ _ hk,
      readByte_memoryCleared hcanon (bit (p.w 0) 3), trivial⟩
  case control =>
    subst hcap
    have formed := cmdAcqControl_formed (s := s) hlen hres hc haction
    rw [controlChecks] at formed
    refine ⟨fun hmax => command_done (body := cmdAcqControl) h ?_, fun hact hgraze => command_done (body := cmdAcqControl) h ?_,
      fun hact hgraze hconf => command_done (body := cmdAcqControl) h ?_, fun hconf => ?configured⟩
    · rw [formed, decide_eq_true hmax]
      rfl
    · rcases hact with rfl | rfl
      · rw [formed, hgraze]
        rfl
      · rw [formed, hgraze]
        rfl
    · have small : decide (4 < action) = false := decide_eq_false (by omega)
      have awake : (s.dev.mode == .graze) = false := beq_false_of_ne hgraze
      rw [formed, small, awake, hconf]
      simp
    case configured =>
      rw [hconf] at formed
      refine ⟨fun hact hgraze hrun => command_done (body := cmdAcqControl) h ?_, fun hact hgraze hstill hring => ?start,
        fun hact hrun hstop => ?stop, fun hact hgraze hrun hwin harmed => ?arm, fun hact hbufs hwin hcomplete => ?again,
        fun hact hwin hrun hmin hmax => ?rate⟩
      · have awake : (s.dev.mode == .graze) = false := beq_false_of_ne hgraze
        subst hact
        rw [formed, awake, acqActionBad, hrun]
        rfl
      case start =>
        have awake : (s.dev.mode == .graze) = false := beq_false_of_ne hgraze
        have free : (0 == 0 && ((capOf s c).ring ≠ 0 || !(capOf s c).windowClass) &&
            s.acq.captures.any (fun e => e.1 ≠ c && e.2.streams && e.2.ring == (capOf s c).ring)) = false := by
          rcases hring with hring | ⟨hzero, hwin⟩
          · refine Bool.and_eq_false_iff.mpr (Or.inr (List.any_eq_false.mpr fun e he => ?_))
            simpa [and_assoc] using hring e he
          · simp [hzero, hwin]
        subst hact
        simp only [awake, acqActionBad, hstill] at formed
        obtain ⟨hrun, hlog, hstart, harmed, hothers, hdev, hloop⟩ := startCapture_spec hwf rfl
        refine ⟨_, command_done (body := cmdAcqControl) h (formed.trans ?_), hrun, hlog, hstart, harmed, hothers, hdev, hloop⟩
        rw [free]
        rfl
      case stop =>
        subst hact
        simp only [acqActionBad, hrun, hstop] at formed
        refine ⟨s.modCap c (stopping (usOf s.clock)), command_waits (body := cmdAcqControl) h (formed.trans ?_), ?_, ?_, fun d hd => ?_⟩
        · simp
          rfl
        · rw [capOf_modCap hwf, if_pos rfl]
          rfl
        · rw [capOf_modCap hwf, if_pos rfl]
          exact hrun
        · rw [capOf_modCap hwf, if_neg hd]
      case arm =>
        have awake : (s.dev.mode == .graze) = false := beq_false_of_ne hgraze
        subst hact
        simp only [awake, acqActionBad, hrun, hwin, harmed] at formed
        obtain ⟨-, hfilled, hothers, -⟩ := beginFill_spec (c := c)
          (modCap_wf (c := c) (f := fun k => { k with armed := true, deadFrom := s.ns, deadIgnoredPre := 0 }) hwf) ((capOf s c).nextBoundary (usOf s.clock))
        refine ⟨_, command_done (body := cmdAcqControl) h (formed.trans rfl), ?_⟩
        unfold Capture.Filled at hfilled
        rw [hfilled, capOf_modCap hwf, if_pos rfl]
        exact ⟨rfl, rfl, fun d hd => by rw [hothers d hd, capOf_modCap hwf, if_neg hd]⟩
      case again =>
        subst hact
        simp only [acqActionBad, hwin, hcomplete] at formed
        obtain ⟨-, -, hothers, hbuf⟩ := beginFill_spec (c := c)
          (modCap_wf (c := c) (f := fun k => { k with bufs := put {} k.bufs (field (p.w 0) 8 6) {} }) hwf) ((capOf s c).nextBoundary (usOf s.clock))
        refine ⟨_, command_done (body := cmdAcqControl) h (formed.trans ?_), fun hstate => ?_,
          fun d hd => by rw [hothers d hd, capOf_modCap hwf, if_neg hd]⟩
        · simp
          rfl
        · have emptied : (bufOf (capOf (s.modCap c fun k => { k with bufs := put {} k.bufs (field (p.w 0) 8 6) {} }) c)
              (field (p.w 0) 8 6)).state = .free := by
            rw [capOf_modCap hwf, if_pos rfl]
            exact congrArg WinBuffer.state (look_put_same (d := ({} : WinBuffer)) _ _ hbufs)
          have := hbuf (field (p.w 0) 8 6)
          rw [hstate, emptied] at this
          simp at this
      case rate =>
        subst hact
        simp only [acqActionBad, hwin, hrun, decide_eq_false (Nat.not_lt.mpr hmin), decide_eq_false (Nat.not_lt.mpr hmax)] at formed
        refine command_done (body := cmdAcqControl) h (formed.trans ?_)
        simp
        rfl

end Sys2Proof.Machine
end
section
/-! TALLY.CONFIG, TALLY.CURSOR, TALLY.READ and TALLY.CLEAR (17 R592–R595). -/

namespace Sys2Proof.Machine

section Records

variable {p : Packet} {s u : State} {q c : Nat}

/-- R594: the record that follows is there. -/
theorem slotOfSeq_of_nextValid (hnext : nextValid s q = some c) : (slotOfSeq s c).isSome = true := by
  unfold nextValid at hnext
  split at hnext
  · rename_i hkept
    obtain rfl := Option.some.inj hnext
    rw [slotOfSeq, if_pos hkept]
    rfl
  · split at hnext
    · cases hnext
    · exact List.find?_some (p := fun c => (slotOfSeq s c).isSome) hnext

theorem recordWords_length (hthere : (slotOfSeq s c).isSome = true) : (recordWords s c).length = 8 := by
  obtain ⟨n, hn⟩ := Option.isSome_iff_exists.mp hthere
  simp [recordWords, hn, readWords]

theorem takeRecords_length : ∀ (n q : Nat), (takeRecords s n q).1.length ≤ n
  | 0, q => Nat.le_refl 0
  | n + 1, q => by
    unfold takeRecords
    split
    · exact Nat.succ_le_succ (takeRecords_length n _)
    · exact Nat.zero_le _

/-- R594: the first record read is the one at the cursor. -/
theorem takeRecords_head {n : Nat} (hn : 1 ≤ n) (hnext : nextValid s q = some c) : ∃ rest, (takeRecords s n q).1 = recordWords s c :: rest := by
  obtain ⟨k, rfl⟩ : ∃ k, n = k + 1 := ⟨n - 1, by omega⟩
  rw [takeRecords, hnext]
  exact ⟨_, rfl⟩

/-- R594: the count of records beside the flag MOVED. -/
theorem field_count {n : Nat} (hn : n ≤ 511) (moved : Bool) : field (wd (n + place 9 (flag moved))).toNat 0 9 = n := by
  cases moved with
  | false =>
    simp only [field, wd, BitVec.toNat_ofNat, place, flag]
    omega
  | true =>
    simp only [field, wd, BitVec.toNat_ofNat, place, flag]
    omega

theorem cmdTallyRead_formed (hlen : p.len = 1) (hmin : 1 ≤ p.w 0) (hmax : p.w 0 ≤ 511) :
    cmdTallyRead p s = checked [((nextValid s s.tally.cmdCursor).isNone, stTlEnd)] s
      (s.modTally (fun t => { t with cmdCursor := (takeRecords s (p.w 0) s.tally.cmdCursor).2, cmdMoved := false }),
        .done stOk ([wd ((takeRecords s (p.w 0) s.tally.cmdCursor).1.length +
            place 9 (flag (s.tally.cmdMoved || (moveCursor s s.tally.cmdCursor).2))), wd (takeRecords s (p.w 0) s.tally.cmdCursor).2] ++
          (takeRecords s (p.w 0) s.tally.cmdCursor).1.flatten)) := by
  have hcount : field (p.w 0) 0 9 = p.w 0 := field_eq_self_of_lt (by omega)
  have hsome : (p.w 0 == 0) = false := beq_false_of_ne (by omega)
  have hres : reservedSet (p.w 0) 0xFFFFFE00 = false := reservedSet_eq_false_of_lt (n := 9) (by omega) (by decide)
  simp only [cmdTallyRead, hlen, hcount, hsome, hres]
  rfl

end Records

section Clearing

variable {p : Packet} {s : State} {k n : Nat}

/-- R595: a record loses its valid bit. -/
def slotCleared (s : State) (n : Nat) : State := s.writeWord (tallySlot n) (setBit (readWord s (tallySlot n)) 7 false)

theorem slotCleared_canonical (hcanon : Canonical s) : Canonical (slotCleared s k) := State.writeWord_canonical _ _ hcanon

theorem slotValid_slotCleared (hcanon : Canonical s) : slotValid (slotCleared s k) n = if n = k then false else slotValid s n := by
  unfold slotValid slotCleared
  split
  · rename_i hnk
    rw [hnk, readWord_writeWord_same hcanon, bit_eq_testBit, Nat.testBit_mod_two_pow, testBit_setBit]
    rfl
  · rename_i hnk
    rw [readWord_writeWord_other hcanon]
    simp only [tallySlot]
    omega

/-- R595: records cleared one after the other. -/
theorem slotsCleared_spec (l : List Nat) : ∀ s : State, Canonical s →
    (∀ n, slotValid (l.foldl slotCleared s) n = if n ∈ l then false else slotValid s n) ∧ Streamed s (l.foldl slotCleared s) ∧
    (l.foldl slotCleared s).tally = s.tally := by
  induction l with
  | nil => exact fun s _ => ⟨fun n => rfl, Streamed.refl s, rfl⟩
  | cons k l ih =>
    intro s hcanon
    obtain ⟨hvalid, hstreamed, htally⟩ := ih (slotCleared s k) (slotCleared_canonical hcanon)
    obtain ⟨m, q, written⟩ := s.writeBytes_eq (tallySlot k) (bytesOfNat 4 (setBit (readWord s (tallySlot k)) 7 false))
    have first : slotCleared s k = _ := written
    refine ⟨fun n => ?_, Streamed.trans ?_ hstreamed, htally.trans ?_⟩
    · rw [List.foldl_cons, hvalid, slotValid_slotCleared hcanon]
      by_cases hk : n = k
      · simp [hk]
      · simp [hk]
    · rw [first]
      rfl
    · rw [first]

/-- The records that TALLY.CLEAR clears (R595). -/
def clearedSlots (p : Packet) (s : State) : List Nat := (circValid s).filter fun n => cycDiff (slotSeq s n) (p.w 0) ≤ 0

theorem mem_clearedSlots : n ∈ clearedSlots p s ↔ (4096 ≤ n ∧ n < 16384) ∧ slotValid s n = true ∧ cycDiff (slotSeq s n) (p.w 0) ≤ 0 := by
  simp only [clearedSlots, circValid, List.mem_filter, List.mem_map, List.mem_range, decide_eq_true_eq, and_assoc]
  constructor
  · rintro ⟨⟨k, hk, rfl⟩, hvalid, hseq⟩
    exact ⟨by omega, by omega, hvalid, hseq⟩
  · rintro ⟨hlow, hhigh, hvalid, hseq⟩
    exact ⟨⟨n - 4096, by omega, by omega⟩, hvalid, hseq⟩

theorem clearedSlots_length : (clearedSlots p s).length ≤ 12288 := by
  refine ((List.length_filter_le _ _).trans (List.length_filter_le _ _)).trans ?_
  simp

/-- A record taken in hand clears none. -/
theorem note_cleared (s : State) (r : TallyRec) : (s.note r).tally.cleared = s.tally.cleared := by
  unfold State.note
  repeat' split
  all_goals rfl

theorem modTally_note_eq (s : State) (f : TallyUnit → TallyUnit) (r : TallyRec) : ∃ y, (s.modTally f).note r = { s with tally := y } := by
  obtain ⟨y, noted⟩ := (s.modTally f).note_eq r
  exact ⟨y, noted⟩

/-- R595: the count of cleared records goes on. -/
def clearingCounted (n : Nat) (y : TallyUnit) : TallyUnit := { y with cleared := satAdd 32 y.cleared n }

/-- What clearing these records makes of the device, with the record of it (R595). -/
def recordsCleared (l : List Nat) (upTo : Nat) (s : State) : State :=
  ((l.foldl slotCleared s).modTally (clearingCounted l.length)).record 14 1 0 upTo

theorem recordsCleared_spec (l : List Nat) (upTo : Nat) (hcanon : Canonical s) :
    (∀ n, slotValid (recordsCleared l upTo s) n = if n ∈ l then false else slotValid s n) ∧
    (recordsCleared l upTo s).tally.cleared = satAdd 32 s.tally.cleared l.length ∧ Streamed s (recordsCleared l upTo s) := by
  obtain ⟨hvalid, hstreamed, htally⟩ := slotsCleared_spec l s hcanon
  obtain ⟨y, shape⟩ : ∃ y, recordsCleared l upTo s = { l.foldl slotCleared s with tally := y } := modTally_note_eq _ _ _
  refine ⟨fun n => ?_, ?_, hstreamed.trans ?_⟩
  · rw [shape]
    exact hvalid n
  · rw [← htally]
    exact note_cleared _ _
  · rw [shape]
    rfl

theorem cmdTallyClear_done (hlen : p.len = 1) :
    cmdTallyClear p s = (recordsCleared (clearedSlots p s) (p.w 0) s, .done stOk [wd (clearedSlots p s).length]) := by
  simp only [cmdTallyClear, hlen]
  rfl

end Clearing

/-- Settles O26: the settings and the cursor as the command gives them, the reading record by record, the clearing slot by slot. -/
theorem tallyCommands : Obligations.TallyCommands := by
  refine fun p s => ⟨fun h hlen hres unit code rest hunit hcode hmax hrest => ?config, fun h hlen hres q hq => ?cursor,
    fun h hlen hmin hmax => ?read, fun h hcanon hlen => ?clear⟩
  case config =>
    subst hunit hcode
    refine ⟨fun hdflt hexempt hremove hunit hcode hlow hhigh => command_done (body := cmdTallyConfig) h ?_,
      fun hdflt hremove hexempt hzero => command_done (body := cmdTallyConfig) h ?_, fun hdflt hremove hlow hhigh => ?add⟩
    · simp only [cmdTallyConfig, hlen, hres, hdflt, hexempt, hremove, hunit, hcode, decide_eq_false (Nat.not_lt.mpr hlow),
        decide_eq_false (Nat.not_lt.mpr hhigh)]
      rfl
    · simp only [cmdTallyConfig, hlen, hres, hdflt, hexempt, hremove, hzero, hrest, decide_eq_false (Nat.not_lt.mpr hmax)]
      rfl
    case add =>
      have formed : cmdTallyConfig p s = checked [(decide (rest.length = s.tally.settings.length) && decide (64 ≤ rest.length), stTlTableFull)] s
          (s.modTally (fun t => { t with
            settings := rest ++ [{ unit := field (p.w 0) 0 5, code := field (p.w 0) 16 16, exempt := bit (p.w 0) 6, refillUs := p.w 1 }] }),
          .done stOk []) := by
        simp only [cmdTallyConfig, hlen, hres, hdflt, hremove, hrest, decide_eq_false (Nat.not_lt.mpr hmax), decide_eq_false (Nat.not_lt.mpr hlow),
          decide_eq_false (Nat.not_lt.mpr hhigh)]
        rfl
      refine ⟨fun hsame hfull => command_done (body := cmdTallyConfig) h ?_, fun hroom => command_done (body := cmdTallyConfig) h ?_⟩
      · rw [formed, hsame, decide_eq_true rfl, decide_eq_true (hsame ▸ hfull)]
        rfl
      · have room : (decide (rest.length = s.tally.settings.length) && decide (64 ≤ rest.length)) = false := by
          rw [← Bool.decide_and]
          exact decide_eq_false (by omega)
        rw [formed, room, checked_cons_false, checked_nil]
  case cursor =>
    have wh : field (p.w 0) 0 2 = p.w 0 := field_low_of_reserved p 0 2 (by decide) hres
    have done (hrest : (decide (p.w 0 ≠ 0) && decide (p.w 1 ≠ 0)) = false) (htarget : cursorTarget s p (p.w 0) = q) : cmdTallyCursor p s =
        (s.modTally fun t => { t with cmdCursor := (moveCursor s q).1, cmdMoved := (moveCursor s q).2 }, .done stOk [wd (moveCursor s q).1]) := by
      rw [cmdTallyCursor_eq, wh, htarget, tallyCursorAt, hlen, hres, hrest]
      rfl
    refine command_done (body := cmdTallyCursor) h ?_
    rcases hq with ⟨hw, hq⟩ | ⟨hw, hrest, hq⟩ | ⟨hw, hrest, hq⟩ | ⟨hw, hrest, hq⟩
    · exact done (by simp [hw]) (by rw [hw, hq]; rfl)
    · exact done (by simp [hrest]) (by rw [hw, hq]; rfl)
    · exact done (by simp [hrest]) (by rw [hw, hq]; rfl)
    · exact done (by simp [hrest]) (by rw [hw, hq]; rfl)
  case read =>
    have formed := cmdTallyRead_formed (s := s) hlen hmin hmax
    refine ⟨fun hnone => command_done (body := cmdTallyRead) h ?_, fun c hnext => ?_⟩
    · rw [formed, hnone]
      rfl
    · rw [hnext, Option.isNone_some, checked_cons_false, checked_nil] at formed
      obtain ⟨rest, hhead⟩ := takeRecords_head hmin hnext
      have words := recordWords_length (slotOfSeq_of_nextValid hnext)
      have most := takeRecords_length (s := s) (p.w 0) s.tally.cmdCursor
      refine ⟨_, _, command_done (body := cmdTallyRead) h formed, rfl, ?_, ?_⟩
      · rw [hhead]
        simp [← words]
      · rw [List.cons_append, List.getD_cons_zero, field_count (by omega)]
        refine ⟨?_, most⟩
        rw [hhead]
        exact Nat.succ_le_succ (Nat.zero_le _)
  case clear =>
    obtain ⟨hvalid, hcleared, hstreamed⟩ := recordsCleared_spec (clearedSlots p s) (p.w 0) hcanon
    have few := clearedSlots_length (p := p) (s := s)
    refine ⟨_, _, command_done (body := cmdTallyClear) h (cmdTallyClear_done hlen), List.length_singleton, ?_, fun n hlow hhigh hthere hseq => ?_,
      fun n hn => ?_, hstreamed.acq_eq, hstreamed.loop_eq⟩
    · rw [List.getD_cons_zero, wd, BitVec.toNat_ofNat, Nat.mod_eq_of_lt (by omega), hcleared]
    · exact (hvalid n).trans (if_pos (mem_clearedSlots.mpr ⟨⟨hlow, hhigh⟩, hthere, hseq⟩))
    · refine (hvalid n).trans (if_neg fun hmem => ?_)
      obtain ⟨⟨hlow, -⟩, -, hseq⟩ := mem_clearedSlots.mp hmem
      rcases hn with hn | hn
      · omega
      · exact hn hseq

end Sys2Proof.Machine
end
section
/-! RING.START of the up-ring while an assignment ends (10 R381, R398). -/

namespace Sys2Proof.Machine

/-- A reply moves nothing of the ring's unit but the packets to the manager above. -/
theorem State.conclude_drove_eq (s : State) (op : Op) (p : Packet) (st : Nat) (ws : List Word) :
    ∃ o, (s.conclude op p st ws).drove = { s.drove with upOut := o } := by
  obtain ⟨b, h, o, d, concluded⟩ := s.conclude_eq op p st ws
  exact ⟨d, by rw [concluded]⟩

/-- A device in CONFIGURE whose assignment ends as it leaves the up-ring, with two members in its table, out of order. -/
def assignmentEnding : State :=
  (resetIn .configure).modDrove fun d => { d with
    cfg := { d.cfg with upEn := true }, dropAssignment := true, devAddr := 1, members := [(2, { integrated := true }), (1, { integrated := true })] }

/-- The members on the down-ring after an instruction. -/
def presentAfter (o : Host.Outcome State Fault Refusal) : List Nat :=
  match o with
  | .next t => presentMembers t
  | _ => []

/-- Refutes O27: RING.START takes the device back to LISTEN, its address falls to 0, and each member is told (10 R381); in the table of
`assignmentEnding`, whose numbers do not rise, member 1 gets an entry before the one it has, so that it is present twice. -/
theorem not_ringStartsAndStops : ¬ Obligations.RingStartsAndStops := by
  intro h
  obtain ⟨-, hstart⟩ := h (packetWith [0]) assignmentEnding
  obtain ⟨-, hlisten, -⟩ := hstart (by decide +kernel) (by decide) (by decide) (Or.inl rfl)
  obtain ⟨u, hanswer, -, -, -, -, hpresent, -⟩ := hlisten (by decide) rfl
  have twice : presentAfter (exec (.ringStart (packetWith [0])) assignmentEnding) = [1, 2, 1] := by decide +kernel
  obtain ⟨o, replied⟩ := u.conclude_drove_eq .ringStart (packetWith [0]) stOk []
  have same : presentMembers (u.conclude .ringStart (packetWith [0]) stOk []) = presentMembers u := by rw [presentMembers, replied, presentMembers]
  rw [hanswer, presentAfter, same, hpresent] at twice
  exact absurd twice (by decide +kernel)

end Sys2Proof.Machine
end
section
/-! RING.SCHEDULE_WRITE, RING.MODE_ARM, RING.COUNTERS, RING.SYNC_CONFIG and RING.TOPOLOGY (10 R373, R399, R400, R403; 11 R411, R427). -/

namespace Sys2Proof.Machine

section Tables

variable {α : Type} {d : α}

theorem mem_put_self [DecidableEq α] {v : α} (k : Nat) (hv : v ≠ d) : ∀ t : Tab α, (k, v) ∈ put d t k v
  | [] => by simp [put, hv]
  | (j, w) :: t => by
    unfold put
    split
    · exact List.mem_cons_self
    · split
      · exact List.mem_cons_self
      · exact List.mem_cons_of_mem _ (mem_put_self k hv t)

/-- What an entry written into a table leaves of it, in order or not. -/
theorem mem_put_of_mem [DecidableEq α] {e : Nat × α} (k : Nat) (v : α) : ∀ t : Tab α, e ∈ t → e ∈ put d t k v ∨ e = (k, look d t k)
  | [], h => by cases h
  | (j, w) :: t, h => by
    unfold put
    split
    · left
      split
      · exact h
      · exact List.mem_cons_of_mem _ h
    · split
      · rename_i hkj
        rcases List.mem_cons.mp h with h | h
        · right
          simp [h, look, hkj]
        · left
          split
          · exact h
          · exact List.mem_cons_of_mem _ h
      · rename_i hkj
        rcases List.mem_cons.mp h with h | h
        · exact Or.inl (h ▸ List.mem_cons_self)
        · rw [look, if_neg (Ne.symm hkj)]
          exact (mem_put_of_mem k v t h).imp (List.mem_cons_of_mem _) id

theorem mem_of_mem_put [DecidableEq α] {e : Nat × α} (k : Nat) (v : α) : ∀ t : Tab α, e ∈ put d t k v → e ∈ t ∨ e = (k, v)
  | [], h => by
    unfold put at h
    split at h
    · cases h
    · exact Or.inr (List.mem_singleton.mp h)
  | (j, w) :: t, h => by
    unfold put at h
    split at h
    · split at h
      · exact Or.inl h
      · exact (List.mem_cons.mp h).symm
    · split at h
      · split at h
        · exact Or.inl (List.mem_cons_of_mem _ h)
        · exact (List.mem_cons.mp h).symm.imp (List.mem_cons_of_mem _) id
      · rcases List.mem_cons.mp h with h | h
        · exact Or.inl (h ▸ List.mem_cons_self)
        · exact (mem_of_mem_put k v t h).imp (List.mem_cons_of_mem _) id

/-- What holds of every entry and of the default holds of what is read. -/
theorem look_of_forall {P : α → Prop} (hd : P d) (k : Nat) : ∀ t : Tab α, (∀ e ∈ t, P e.2) → P (look d t k)
  | [], _ => hd
  | (j, w) :: t, h => by
    unfold look
    split
    · exact h (j, w) List.mem_cons_self
    · exact look_of_forall hd k t fun e he => h e (List.mem_cons_of_mem _ he)

end Tables

section Answering

variable (s : State)

theorem freed_deferred (k : Option Nat) : (s.freed k).host.deferred = s.host.deferred := by
  cases k with
  | none => rfl
  | some n => rfl

theorem replyOnRing_deferred (m : Nat) (ws : List Word) (k : Option Nat) : (s.replyOnRing m ws k).host.deferred = s.host.deferred := by
  unfold State.replyOnRing
  extract_lets r
  split
  · exact freed_deferred s.dropReply k
  · rfl

theorem emits_deferred {α : Type} (f : α → Out) : ∀ (l : List α) (s : State), (l.foldl (fun s a => s.emit (f a)) s).host.deferred = s.host.deferred
  | [], _ => rfl
  | a :: l, s => emits_deferred f l (s.emit (f a))

theorem flushUdp_deferred : s.flushUdp.host.deferred = s.host.deferred :=
  emits_deferred (fun d : UdpOut => .datagram d.via d.ip d.port d.words) s.host.udpOut s

theorem sendUdp_deferred (via ip port : Nat) (ws : List Word) : (s.sendUdp via ip port ws).host.deferred = s.host.deferred := by
  unfold State.sendUdp
  extract_lets mine old full s₁ s₂
  have first : s₁.host.deferred = s.host.deferred := by
    simp only [s₁]
    split
    · rfl
    · rfl
  split
  · rfl
  · split
    · exact first
    · exact (flushUdp_deferred s₂).trans first

theorem sendReply_deferred (o : Origin) (tag : Word) (ws : List Word) (k : Option Nat) : (s.sendReply o tag ws k).host.deferred = s.host.deferred := by
  cases o with
  | ring n => exact replyOnRing_deferred s _ ws k
  | replyTo m => exact replyOnRing_deferred s m ws k
  | udp n via ip port => exact (freed_deferred _ k).trans (sendUdp_deferred _ via ip port ws)
  | above => exact freed_deferred _ k
  | mirror => exact freed_deferred s k
  | lost => exact freed_deferred s.dropReply k

theorem answer_deferred (op : Op) (p : Packet) (st : Nat) (ws : List Word) : (s.answer op p st ws).host.deferred = s.host.deferred := by
  unfold State.answer State.answerAt
  split
  · exact sendReply_deferred s _ _ _ none
  · extract_lets s₁
    split
    · rfl
    · rfl

/-- The commands answered leave the queue, and the others stay. -/
theorem settle_deferred (f : Deferred → Bool) (g : Deferred → Nat × List Word) :
    (s.settle f g).host.deferred = s.host.deferred.filter fun d => !f d := by
  have answered (l : List Deferred) : ∀ s : State,
      (l.foldl (fun s d => s.answer d.op d.packet (g d).1 (g d).2) s).host.deferred = s.host.deferred := by
    induction l with
    | nil => exact fun s => rfl
    | cons d l ih => exact fun s => (ih _).trans (answer_deferred s _ _ _ _)
  exact answered _ _

theorem mirror_deferred (op : Op) (p : Packet) (st : Nat) : (s.mirror op p st).host.deferred = s.host.deferred := by
  unfold State.mirror
  split
  · rfl
  · rfl

theorem replied_drove_eq {t : State} (h : s.Replied t) : ∃ o, t.drove = { s.drove with upOut := o } := by
  obtain ⟨_, _, d, rfl⟩ := h
  exact ⟨d, rfl⟩

end Answering

section Modes

variable {p : Packet} {s : State} {m n : Nat}

theorem mem_presentMembers : n ∈ presentMembers s ↔ ∃ k : Member, (n, k) ∈ s.drove.members ∧ k.integrated = true := by
  simp [presentMembers]

/-- Members told of something are present still, and hold the modes that they held. -/
theorem toMembers_spec (k : State → CmdPacket) (l : List Nat) : ∀ s : State, (∀ e ∈ s.drove.members, bit e.2.held m = false) →
    (∀ n ∈ presentMembers s, n ∈ presentMembers (l.foldl (fun s n => s.toMember n (k s)) s)) ∧
    (∀ e ∈ (l.foldl (fun s n => s.toMember n (k s)) s).drove.members, bit e.2.held m = false) ∧
    ∃ t, l.foldl (fun s n => s.toMember n (k s)) s = s.modDrove fun d => { d with members := t } := by
  induction l with
  | nil => exact fun s h => ⟨fun n hn => hn, h, _, rfl⟩
  | cons j l ih =>
    intro s h
    have cleared : bit (look ({} : Member) s.drove.members j).held m = false :=
      look_of_forall (P := fun k : Member => bit k.held m = false) (by simp [bit]) j _ h
    obtain ⟨hpresent, hheld, t, hshape⟩ := ih (s.toMember j (k s)) fun e he => by
      rcases mem_of_mem_put j _ s.drove.members he with he | rfl
      · exact h e he
      · exact cleared
    refine ⟨fun n hn => hpresent n ?_, hheld, t, hshape⟩
    obtain ⟨k', hmem, hin⟩ := mem_presentMembers.mp hn
    refine mem_presentMembers.mpr ?_
    rcases mem_put_of_mem (d := ({} : Member)) j { look {} s.drove.members j with
      peer := { (look {} s.drove.members j).peer with out := (look {} s.drove.members j).peer.out ++ [k s] } } s.drove.members hmem with hmem | heq
    · exact ⟨k', hmem, hin⟩
    · obtain ⟨rfl, rfl⟩ := Prod.mk.inj heq
      refine ⟨_, mem_put_self (d := ({} : Member)) n (fun hzero => ?_) s.drove.members, hin⟩
      have := congrArg (fun k : Member => k.peer.out) hzero
      simp at this

/-- R373: a mode written is one that no member holds. -/
theorem writeMode_spec (ws : List Word) :
    (∃ t, s.writeMode m ws = s.modDrove fun d => { d with modes := put [] d.modes m ws, members := t }) ∧
    (presentMembers s ≠ [] → heldByAll (s.writeMode m ws) m = false) := by
  let s₁ := s.modDrove fun d => { d with
    modes := put [] d.modes m ws, members := d.members.map fun e => (e.1, { e.2 with held := setBit e.2.held m false }) }
  have cleared : ∀ e ∈ s₁.drove.members, bit e.2.held m = false := by
    intro e he
    obtain ⟨e', -, rfl⟩ := List.mem_map.mp he
    rw [bit_eq_testBit, testBit_setBit, if_pos rfl]
  obtain ⟨hpresent, hheld, t, hshape⟩ := toMembers_spec (modePacket · m) (presentMembers s₁) s₁ cleared
  refine ⟨⟨t, hshape⟩, fun hsome => ?_⟩
  obtain ⟨n, hn⟩ := List.exists_mem_of_ne_nil _ hsome
  obtain ⟨k, hmem, hin⟩ := mem_presentMembers.mp hn
  have there : n ∈ presentMembers s₁ := mem_presentMembers.mpr ⟨_, List.mem_map.mpr ⟨(n, k), hmem, rfl⟩, hin⟩
  refine List.all_eq_false.mpr ⟨n, hpresent n there, Bool.not_eq_true _ ▸ ?_⟩
  exact look_of_forall (P := fun k : Member => bit k.held m = false) (by simp [bit]) n _ hheld

/-- R399: the commands that wait for a mode that members lack go on waiting. -/
theorem pollSchedule_spec (q : State) : q.Replied q.pollSchedule ∧ ∀ d ∈ q.host.deferred,
    heldByAll q (field (d.packet.w 0) 0 3) = false → d ∈ q.pollSchedule.host.deferred := by
  refine ⟨State.settle_replied q _ _, fun d hd hlack => ?_⟩
  rw [State.pollSchedule, settle_deferred]
  exact List.mem_filter.mpr ⟨hd, by simp [hlack]⟩

/-- The device as an accepted command leaves it that is to be answered later (02 R69). -/
theorem waiting_spec (u : State) (op : Op) (p : Packet) :
    (∃ o, ((u.recordConfig op stOk).mirror op p stOk).drove = { u.drove with upOut := o }) ∧
    ((u.recordConfig op stOk).mirror op p stOk).host.deferred = u.host.deferred := by
  obtain ⟨b, recorded⟩ := u.recordConfig_eq op stOk
  rw [recorded, mirror_deferred]
  exact ⟨replied_drove_eq { u with boot := b } (State.mirror_replied { u with boot := b } op p stOk), rfl⟩

theorem cmdRingScheduleWrite_formed (hmin : 3 ≤ p.len) (hlen : p.len = 3 + 2 * field (p.w 1) 0 10) (hm : p.w 0 = m) (hmax : m < 8) :
    cmdRingScheduleWrite p s = checked [(s.drove.armed == some m || s.drove.active == some m, stRgModeState)] s
      (match modeBad s.drove.cfg.cycleUs (p.params.drop 1) with
      | some i => (s, .done stRgSchedule [wd i])
      | none => (((s.writeMode m (p.params.drop 1)).defer .ringScheduleWrite p [s.now]).1.pollSchedule, .waits)) := by
  have hfield : field m 0 3 = m := field_eq_self_of_lt hmax
  have hres : reservedSet m 0xFFFFFFF8 = false := reservedSet_eq_false_of_lt (n := 3) hmax (by decide)
  have hlen' : (decide (p.len < 3) || decide (p.len ≠ 3 + 2 * field (p.w 1) 0 10)) = false := by
    rw [← Bool.decide_or]
    exact decide_eq_false (by omega)
  simp only [cmdRingScheduleWrite, hm, hfield, hres, hlen']
  rfl

/-- R399: which members lack a mode. -/
theorem lacking_eq_zero_iff : lacking s m = 0 ↔ ∀ n ∈ presentMembers s, bit (memberOf s n).held m = true := by
  constructor
  · intro hzero n hn
    by_contra hheld
    have := testBit_maskOf ((presentMembers s).filter fun n => !bit (memberOf s n).held m) n
    rw [show maskOf _ = 0 from hzero, Nat.zero_testBit] at this
    exact of_decide_eq_false this.symm (List.mem_filter.mpr ⟨hn, by simpa using hheld⟩)
  · intro hall
    have none : (presentMembers s).filter (fun n => !bit (memberOf s n).held m) = [] :=
      List.filter_eq_nil_iff.mpr fun n hn => by simp [hall n hn]
    rw [lacking, none]
    rfl

theorem cmdRingModeArm_formed (hlen : p.len = 1) (hres : reservedSet (p.w 0) 0xFFFFFFF0 = false) (hm : m = field (p.w 0) 0 3) :
    cmdRingModeArm p s =
      checked [(changeoverPending s, stBusy),
        (if bit (p.w 0) 3 then s.drove.armed ≠ some m else !modeWritten s m || s.drove.armed.isSome, stRgModeState)] s
      (if bit (p.w 0) 3 then (s.modDrove fun d => { d with armed := none }, .done stOk [0, 0])
      else if lacking s m ≠ 0 then (s, .done stRgNotHeld (wd2 (lacking s m)))
      else (s.modDrove fun d => { d with armed := some m }, .done stOk [0, 0])) := by
  subst hm
  simp only [cmdRingModeArm, hlen, hres]
  rfl

end Modes

section Settings

variable {p : Packet} {s t : State}

theorem cmdRingCounters_done (hlen : p.len = 1) (hres : reservedSet (p.w 0) 0xFFFFFFFC = false) :
    cmdRingCounters p s = (if bit (p.w 0) 1 then s.modIface (bit (p.w 0) 0) fun k => { k with counters := [] } else s,
      .done stOk (ringCounterWords (ifaceOf s (bit (p.w 0) 0)))) := by
  simp only [cmdRingCounters, hlen, hres]
  rfl

/-- R427: RING.SYNC_CONFIG to read. -/
theorem cmdRingSyncConfig_read (hlen : p.len = 2) (h0 : p.w 0 = 256) (h1 : p.w 1 = 0) :
    cmdRingSyncConfig p s = checked [(!s.drove.cfg.upEn, stRgState)] s (s.modClock fun c => { c with maxPs := 0 }, .done stOk (syncConfigWords s)) := by
  simp only [cmdRingSyncConfig, hlen, h0, h1]
  rfl

/-- R427: RING.SYNC_CONFIG to write. -/
theorem cmdRingSyncConfig_write (hlen : p.len = 2) (h0 : p.w 0 < 256) (hmin : 1 ≤ field (p.w 1) 0 8) (hmax : field (p.w 1) 0 8 ≤ 200)
    (hmin' : 1 ≤ field (p.w 1) 8 8) (hmax' : field (p.w 1) 8 8 ≤ 100) :
    cmdRingSyncConfig p s = checked [(!s.drove.cfg.upEn, stRgState)] s
      ((s.modClock fun c => { c with maxPs := 0 }).modDrove fun d => { d with
        sync := { exclude := p.w 0, maxRatePpm := field (p.w 1) 0 8, slewPpm := field (p.w 1) 8 8, stepLimitUs := field (p.w 1) 16 16 } },
        .done stOk (syncConfigWords s)) := by
  have hread : bit (p.w 0) 8 = false := by
    rw [bit_eq_testBit]
    exact Nat.testBit_lt_two_pow h0
  have hfield : field (p.w 0) 0 8 = p.w 0 := field_eq_self_of_lt h0
  have hres : reservedSet (p.w 0) 0xFFFFFE00 = false := reservedSet_eq_false_of_lt (n := 9) (by omega) (by decide)
  have hsome : (field (p.w 1) 0 8 == 0) = false := beq_false_of_ne (by omega)
  have hsome' : (field (p.w 1) 8 8 == 0) = false := beq_false_of_ne (by omega)
  simp only [cmdRingSyncConfig, hlen, hread, hfield, hres, hsome, hsome', decide_eq_false (Nat.not_lt.mpr hmax), decide_eq_false (Nat.not_lt.mpr hmax')]
  rfl

theorem cmdRingTopology_formed (hlen : p.len = 2) (ht : t = s.refreshTopo) (hres : reservedSet (p.w 0) 0xFFF80000 = false) (hmin : 1 ≤ p.w 1)
    (hmax : p.w 1 ≤ 2045) :
    cmdRingTopology p s = checked [(t.drove.topo.length ≤ p.w 0, stRange)] s (t, .done stOk
      ([wd t.drove.topo.length, wd t.drove.generation] ++ ((t.drove.topo.drop (p.w 0)).take (p.w 1)).flatMap fun e => topoWords e.1 e.2)) := by
  have hres1 : reservedSet (p.w 1) 0xFFFFF000 = false := reservedSet_eq_false_of_lt (n := 12) (by omega) (by decide)
  have hsome : (p.w 1 == 0) = false := beq_false_of_ne (by omega)
  subst ht
  simp only [cmdRingTopology, hlen, hres, hres1, hsome, decide_eq_false (Nat.not_lt.mpr hmax), Bool.false_or]
  rfl

end Settings

/-- Settles O28: the schedule by `writeMode_spec`, whose deferred command only the members' answers end; the rest as the commands give it. -/
theorem ringSchedules : Obligations.RingSchedules := by
  refine fun p s => ⟨fun h hwf hmin hlen m hm hmax => ?write, fun h hlen hres m hm => ?arm, fun h hlen hres => ?counters, fun h hlen => ?sync,
    fun h hlen t ht hres hmin hmax => ?topology⟩
  case write =>
    have formed := cmdRingScheduleWrite_formed (s := s) hmin hlen hm hmax
    refine ⟨fun hbusy => command_done (body := cmdRingScheduleWrite) h ?_, fun harmed hactive => ?_⟩
    · have busy : (s.drove.armed == some m || s.drove.active == some m) = true := by simpa using hbusy
      rw [formed, busy, checked_cons_true]
    · rw [beq_false_of_ne harmed, beq_false_of_ne hactive, Bool.or_false, checked_cons_false, checked_nil] at formed
      refine ⟨fun i hi => command_done (body := cmdRingScheduleWrite) h (by rw [formed, hi]), fun hgood => ?_⟩
      rw [hgood] at formed
      obtain ⟨⟨members, hwritten⟩, hlacks⟩ := writeMode_spec (s := s) (m := m) (p.params.drop 1)
      have field0 : field (p.w 0) 0 3 = m := by rw [hm]; exact field_eq_self_of_lt hmax
      obtain ⟨hpolled, hwaits⟩ := pollSchedule_spec ((s.writeMode m (p.params.drop 1)).defer .ringScheduleWrite p [s.now]).1
      obtain ⟨⟨o, hmirrored⟩, hdeferred⟩ := waiting_spec ((s.writeMode m (p.params.drop 1)).defer .ringScheduleWrite p [s.now]).1.pollSchedule
        .ringScheduleWrite p
      obtain ⟨o', hreplied⟩ := replied_drove_eq _ hpolled
      refine ⟨_, command_waits (body := cmdRingScheduleWrite) h formed, ?_⟩
      rw [hmirrored, hreplied, hdeferred, State.mirror_mem, State.mirror_loop]
      obtain ⟨b, recorded⟩ := ((s.writeMode m (p.params.drop 1)).defer .ringScheduleWrite p [s.now]).1.pollSchedule.recordConfig_eq .ringScheduleWrite stOk
      rw [recorded]
      refine ⟨?_, fun k hk => ?_, ?_, ?_, ?_, fun hsome => ⟨_, hwaits _ (List.mem_append_right _ List.mem_cons_self) ?_, rfl, rfl⟩, ?_, ?_⟩
      · rw [hwritten]
        exact look_put_same m _ hwf
      · rw [hwritten]
        exact look_put_other _ _ hk
      · rw [hwritten]
        rfl
      · rw [hwritten]
        rfl
      · rw [hwritten]
        rfl
      · rw [field0]
        exact hlacks hsome
      · rw [hwritten] at hpolled ⊢
        exact hpolled.mem
      · rw [hwritten] at hpolled ⊢
        exact hpolled.loop
  case arm =>
    have formed := cmdRingModeArm_formed (s := s) hlen hres hm
    refine ⟨fun hbusy => command_done (body := cmdRingModeArm) h ?_, fun hfree hdis => ?_, fun hfree hdis => ?_⟩
    · rw [formed, hbusy, checked_cons_true]
    all_goals rw [hfree, checked_cons_false, hdis] at formed
    · refine ⟨fun hother => command_done (body := cmdRingModeArm) h ?_, fun hsame => command_done (body := cmdRingModeArm) h ?_⟩
      · rw [formed, if_pos rfl, decide_eq_true hother, checked_cons_true]
      · rw [formed, hsame]
        simp
    · simp only [Bool.false_eq_true, if_false] at formed
      refine ⟨fun hbad => command_done (body := cmdRingModeArm) h ?_, fun hwritten hnone hlack => command_done (body := cmdRingModeArm) h ?_,
        fun hwritten hnone hheld => command_done (body := cmdRingModeArm) h ?_⟩
      · have bad : (!modeWritten s m || s.drove.armed.isSome) = true := by
          rcases hbad with hbad | hbad
          · simp [hbad]
          · simp [Option.isSome_iff_ne_none.mpr hbad]
        rw [formed, bad, checked_cons_true]
      · have lacks : lacking s m ≠ 0 := fun hzero => by
          obtain ⟨n, hn, hbit⟩ := hlack
          exact Bool.false_ne_true (hbit.symm.trans (lacking_eq_zero_iff.mp hzero n hn))
        rw [formed, hwritten, hnone, if_pos lacks]
        rfl
      · rw [formed, hwritten, hnone, if_neg (not_not.mpr (lacking_eq_zero_iff.mpr hheld))]
        rfl
  case counters => exact command_done (body := cmdRingCounters) h (cmdRingCounters_done hlen hres)
  case sync =>
    refine ⟨fun hoff h0 h1 => command_done (body := cmdRingSyncConfig) h ?_, fun hon => ⟨fun h0 h1 => command_done (body := cmdRingSyncConfig) h ?_,
      fun h0 hmin hmax hmin' hmax' => ?_⟩⟩
    · rw [cmdRingSyncConfig_read hlen h0 h1, hoff]
      rfl
    · rw [cmdRingSyncConfig_read hlen h0 h1, hon]
      rfl
    · refine ⟨_, command_done (body := cmdRingSyncConfig) h (by rw [cmdRingSyncConfig_write hlen h0 hmin hmax hmin' hmax', hon]; rfl), ?_⟩
      exact ⟨rfl, rfl, rfl, rfl, rfl⟩
  case topology =>
    have formed := cmdRingTopology_formed hlen ht hres hmin hmax
    refine ⟨fun hpast => command_done (body := cmdRingTopology) h ?_, fun hin => command_done (body := cmdRingTopology) h ?_⟩
    · rw [formed, decide_eq_true hpast, checked_cons_true]
    · rw [formed, decide_eq_false (Nat.not_le.mpr hin), checked_cons_false, checked_nil]

end Sys2Proof.Machine
end
section
/-! The rules of the CAN controllers' tables, and CAN.CONFIG, CAN.FILTER_CONFIG and CAN.BUFFER_CONFIG (12 R430, R449–R453). -/

namespace Sys2Proof.Machine

section Rules

variable {s t u : State} {c b : Nat}

theorem canOf_modCtrl {f : CanCtrl → CanCtrl} (hwf : Tab.wf {} s.can.ctrls) (d : Nat) :
    canOf (s.modCtrl c f) d = if d = c then f (canOf s d) else canOf s d := look_upd f c d hwf

theorem modCtrl_wf {f : CanCtrl → CanCtrl} (hwf : Tab.wf {} s.can.ctrls) : Tab.wf {} (s.modCtrl c f).can.ctrls := upd_wf c f hwf

theorem canOf_modBuf {f : CanBuf → CanBuf} (hwf : Tab.wf {} s.can.ctrls) (d : Nat) :
    canOf (s.modBuf c b f) d = if d = c then { canOf s d with bufs := upd {} (canOf s d).bufs b f } else canOf s d := canOf_modCtrl hwf d

theorem canBuf_modBuf {f : CanBuf → CanBuf} (hwf : Tab.wf {} s.can.ctrls) (hbufs : Tab.wf {} (canOf s c).bufs) (d : Nat) :
    canBuf (s.modBuf c b f) c d = if d = b then f (canBuf s c d) else canBuf s c d := by
  rw [canBuf, canOf_modBuf hwf, if_pos rfl]
  exact look_upd f b d hbufs

/-- `t` is `s` but for the buffers of one controller and the answers to commands. -/
structure BufsMoved (c : Nat) (s t : State) : Prop where
  mem : t.mem = s.mem
  ctrls : Tab.wf {} s.can.ctrls → Tab.wf {} t.can.ctrls ∧ canOf t c = { canOf s c with bufs := (canOf t c).bufs } ∧
    ∀ d, d ≠ c → canOf t d = canOf s d

namespace BufsMoved

theorem refl (s : State) : BufsMoved c s s := ⟨rfl, fun h => ⟨h, rfl, fun _ _ => rfl⟩⟩

theorem trans (h : BufsMoved c s t) (h' : BufsMoved c t u) : BufsMoved c s u := by
  refine ⟨h'.mem.trans h.mem, fun hwf => ?_⟩
  obtain ⟨hwf', hown, hothers⟩ := h.ctrls hwf
  obtain ⟨hwf'', hown', hothers'⟩ := h'.ctrls hwf'
  refine ⟨hwf'', ?_, fun d hd => (hothers' d hd).trans (hothers d hd)⟩
  rw [hown', hown]

theorem foldl {α : Type} {f : State → α → State} (hf : ∀ s a, BufsMoved c s (f s a)) : ∀ (l : List α) (s : State), BufsMoved c s (l.foldl f s)
  | [], s => refl s
  | a :: l, s => (hf s a).trans (foldl hf l (f s a))

theorem modBuf (s : State) (b : Nat) (f : CanBuf → CanBuf) : BufsMoved c s (s.modBuf c b f) := by
  refine ⟨rfl, fun hwf => ⟨modCtrl_wf hwf, ?_, fun d hd => ?_⟩⟩
  · rw [canOf_modBuf hwf, if_pos rfl]
  · rw [canOf_modBuf hwf, if_neg hd]

theorem of_replied (h : s.Replied t) : BufsMoved c s t := by
  have same : t.can = s.can := h.can
  refine ⟨h.mem, fun hwf => ?_⟩
  simp only [canOf, same]
  exact ⟨hwf, trivial, fun _ _ => trivial⟩

theorem settleCancel (s : State) (b : Nat) : BufsMoved c s (s.settleCancel c b) := of_replied (State.settle_replied s _ _)

theorem endCancels (s : State) : BufsMoved c s (s.endCancels c) := by
  refine foldl (fun s b => ?_) _ s
  split
  · exact (modBuf s b _).trans (settleCancel _ b)
  · exact refl s

end BufsMoved

/-- Without a cancel that waits there is none to end (R441). -/
theorem endCancels_of_none (hnone : ∀ b, (canBuf s c b).cancelling = false) : s.endCancels c = s := by
  have kept (l : List Nat) : l.foldl (fun s b =>
      if (canBuf s c b).cancelling then (s.modBuf c b fun k => { k with state := .cancelled, cancelling := false }).settleCancel c b else s) s = s := by
    induction l with
    | nil => rfl
    | cons b l ih => rw [List.foldl_cons, hnone b, if_neg Bool.false_ne_true, ih]
  exact kept _

end Rules

section Commands

variable {p : Packet} {s : State} {c b i first last len : Nat} {k : CanCtrl}

/-- What every CAN command is checked for first (R450). -/
theorem canChecks_passed {bad : Bool} {cs : List (Bool × Nat)} {r : State × Verdict} (hlen : p.len = len) (hc : c < canControllers s) (hbad : bad = false) :
    checked (canChecks p len c bad s ++ cs) s r = checked ((s.dev.mode == .graze, stBadMode) :: cs) s r := by
  have hlen' : decide (p.len ≠ len) = false := decide_eq_false (not_not.mpr hlen)
  have hc' : decide (canControllers s ≤ c) = false := decide_eq_false (Nat.not_le.mpr hc)
  rw [canChecks, hlen', hc', hbad]
  rfl

/-- R451: an enabled controller is to change its bit timing or its way of working. -/
def ctrlClashes (p : Packet) (k : CanCtrl) : Bool :=
  k.enabled && bit (p.w 0) 3 && (k.cfg1 ≠ p.w 1 || k.cfg2 ≠ p.w 2 || field k.cfg0 4 3 ≠ field (p.w 0) 4 3)

/-- The settings of a controller (R451). -/
def ctrlSet (p : Packet) (k : CanCtrl) : CanCtrl :=
  { k with
    cfg0 := p.w 0 - p.w 0 % 16, cfg1 := p.w 1, cfg2 := p.w 2, enabled := bit (p.w 0) 3, driven := k.driven || bit (p.w 0) 3
    state := if !bit (p.w 0) 3 then .off else if k.enabled then k.state else .integrating
    tec := if k.enabled && bit (p.w 0) 3 then k.tec else 0, recCount := if k.enabled && bit (p.w 0) 3 then k.recCount else 0 }

/-- What CAN.CONFIG makes of the device. -/
def ctrlConfigured (p : Packet) (c : Nat) (s : State) : State := (if bit (p.w 0) 3 then s else s.endCancels c).modCtrl c (ctrlSet p)

theorem cmdCanConfig_formed (hc : c = field (p.w 0) 0 3) (hk : k = canOf s c) (hlt : c < canControllers s) (hlen : p.len = 3)
    (hres : reservedSet (p.w 0) 0xFFFFFC00 = false) (hres1 : reservedSet (p.w 1) 0xF8000000 = false) (hres2 : reservedSet (p.w 2) 0xFC000000 = false) :
    cmdCanConfig p s = checked [(s.dev.mode == .graze, stBadMode), (ctrlClashes p k, stCnState), (!canTimingOk (p.w 0) (p.w 1) (p.w 2), stCnTiming)] s
      (ctrlConfigured p c s, .done stOk []) := by
  subst hk hc
  rw [cmdCanConfig]
  rw [canChecks_passed hlen hlt (by rw [hres, hres1, hres2]; rfl)]
  rfl

/-- R451: the controller is set up, and its buffers are as they were but for cancels that end with it. -/
theorem ctrlConfigured_spec (hwf : Tab.wf {} s.can.ctrls) (hk : k = canOf s c) :
    (bit (p.w 0) 3 = true ∨ (∀ b, (canBuf s c b).cancelling = false) →
      ctrlConfigured p c s = s.modCan (fun _ => (ctrlConfigured p c s).can) ∧ (canOf (ctrlConfigured p c s) c).bufs = k.bufs) ∧
    (∃ bufs, canOf (ctrlConfigured p c s) c = ctrlSet p { k with bufs := bufs }) ∧ (ctrlConfigured p c s).mem = s.mem ∧
    ∀ d, d ≠ c → canOf (ctrlConfigured p c s) d = canOf s d := by
  subst hk
  have ended : BufsMoved c s (if bit (p.w 0) 3 then s else s.endCancels c) := by
    split
    · exact BufsMoved.refl s
    · exact BufsMoved.endCancels s
  obtain ⟨hwf', hown, hothers⟩ := ended.ctrls hwf
  refine ⟨fun hquiet => ?_, ⟨(canOf (if bit (p.w 0) 3 then s else s.endCancels c) c).bufs, ?_⟩, ended.mem, fun d hd => ?_⟩
  · have same : (if bit (p.w 0) 3 then s else s.endCancels c) = s := by
      split
      · rfl
      · rename_i hoff
        exact endCancels_of_none (hquiet.resolve_left hoff)
    rw [ctrlConfigured, same, canOf_modCtrl hwf, if_pos rfl]
    exact ⟨rfl, rfl⟩
  · rw [ctrlConfigured, canOf_modCtrl hwf', if_pos rfl, ← hown]
  · rw [ctrlConfigured, canOf_modCtrl hwf', if_neg hd, hothers d hd]

theorem cmdCanRecover_formed (hc : c = field (p.w 0) 0 3) (hlt : c < canControllers s) (hlen : p.len = 1)
    (hres : reservedSet (p.w 0) 0xFFFFFFF8 = false) :
    cmdCanRecover p s = checked [(s.dev.mode == .graze, stBadMode), ((canOf s c).state != .busOff, stCnState)] s
      (s.modCtrl c (fun k => { k with state := .recovering }), .done stOk []) := by
  subst hc
  exact canChecks_passed hlen hlt hres

/-- The filter that CAN.FILTER_CONFIG sets up (R452). -/
def filterSet (p : Packet) : CanFilter :=
  { enable := bit (p.w 0) 9, ide := bit (p.w 0) 10, rtrAccept := bit (p.w 0) 11, overwrite := bit (p.w 0) 12, id := p.w 1, mask := p.w 2,
    first := field (p.w 3) 0 7, last := field (p.w 3) 8 7 }

theorem cmdCanFilterConfig_formed (hc : c = field (p.w 0) 0 3) (hlt : c < canControllers s) (hlen : p.len = 4)
    (hres : reservedSet (p.w 0) 0xFFFFE000 = false) (hres1 : reservedSet (p.w 1) 0xE0000000 = false) (hres2 : reservedSet (p.w 2) 0xE0000000 = false)
    (hres3 : reservedSet (p.w 3) 0xFFFF8080 = false) (hi : i = field (p.w 0) 3 6) (hfirst : first = field (p.w 3) 0 7) (hlast : last = field (p.w 3) 8 7)
    (horder : first ≤ last) :
    cmdCanFilterConfig p s = checked [(s.dev.mode == .graze, stBadMode), (bit (p.w 0) 9 && filterOverlap s c i first last, stCnOverlap),
        (bit (p.w 0) 9 && (rangeOf first last).any (fun b => (canBuf s c b).kind ≠ 1), stCnBufKind)] s
      (s.modCtrl c (fun k => { k with filters := put {} k.filters i (filterSet p) }), .done stOk []) := by
  subst hc hi hfirst hlast
  rw [cmdCanFilterConfig]
  simp only
  rw [canChecks_passed hlen hlt (by rw [hres, hres1, hres2, hres3, decide_eq_false (Nat.not_lt.mpr horder)]; rfl)]
  rfl

/-- The buffer that CAN.BUFFER_CONFIG sets up (R453). -/
def bufSet (p : Packet) : CanBuf :=
  { kind := field (p.w 0) 10 2, oneShot := bit (p.w 0) 12, vector := field (p.w 0) 13 6, vecEn := bit (p.w 0) 19, ide := bit (p.w 0) 20
    matchId := p.w 1, mask := p.w 2 }

theorem cmdCanBufferConfig_formed (hc : c = field (p.w 0) 0 3) (hlt : c < canControllers s) (hlen : p.len = 3)
    (hres : reservedSet (p.w 0) 0xFFE00000 = false) (hkind : field (p.w 0) 10 2 ≤ 2) (hres1 : reservedSet (p.w 1) 0xE0000000 = false)
    (hres2 : reservedSet (p.w 2) 0xE0000000 = false) (hb : b = field (p.w 0) 3 7)
    (hmatch : (field (p.w 0) 10 2 = 1 ∧ b < 4) ∨ (p.w 1 = 0 ∧ p.w 2 = 0)) :
    cmdCanBufferConfig p s = checked [(s.dev.mode == .graze, stBadMode),
        ((canBuf s c b).state == .pending || (canBuf s c b).state == .waitTime || (canBuf s c b).locked, stCnBusy),
        (field (p.w 0) 10 2 ≠ 1 && (canOf s c).filters.any (fun e => e.2.enable && e.2.first ≤ b && b ≤ e.2.last), stCnOverlap)] s
      (s.modBuf c b (fun _ => (bufSet p).emptied), .done stOk []) := by
  have hmatch' : (!(field (p.w 0) 10 2 == 1 && decide (b < 4)) && (decide (p.w 1 ≠ 0) || decide (p.w 2 ≠ 0))) = false := by
    rcases hmatch with ⟨hkind', hfew⟩ | ⟨h1, h2⟩
    · simp [hkind', hfew]
    · simp [h1, h2]
  subst hc hb
  rw [cmdCanBufferConfig]
  rw [canChecks_passed hlen hlt (by rw [hres, hres1, hres2, decide_eq_false (Nat.not_lt.mpr hkind), hmatch']; rfl)]
  rfl

end Commands

/-- Settles O29: each command sets up its controller, filter or buffer by the rules of the tables. -/
theorem canSettings : Obligations.CanSettings := by
  refine fun p s c k hwf hbufs hfilters hc hk hlt => ⟨fun op i len hop h hlen hgraze => ?graze, fun hgraze =>
    ⟨fun h hlen hres hres1 hres2 => ?config, fun h hlen hres hres1 hres2 hres3 i first last hi hfirst hlast horder => ?filter,
      fun h hlen hres hkind hres1 hres2 b hb hmatch => ?buffer⟩⟩
  case graze =>
    rcases hop with ⟨rfl, rfl, rfl, hres, hres1, hres2⟩ | ⟨rfl, rfl, rfl, hres⟩
    · exact command_done (body := cmdCanConfig) h (by rw [cmdCanConfig_formed hc hk hlt hlen hres hres1 hres2, hgraze]; rfl)
    · exact command_done (body := cmdCanRecover) h (by rw [cmdCanRecover_formed hc hlt hlen hres, hgraze]; rfl)
  all_goals have awake : (s.dev.mode == .graze) = false := beq_false_of_ne hgraze
  case config =>
    have formed := cmdCanConfig_formed hc hk hlt hlen hres hres1 hres2
    rw [awake, checked_cons_false] at formed
    refine ⟨fun hon hen hchange => command_done (body := cmdCanConfig) h ?_, fun hquiet hbad => command_done (body := cmdCanConfig) h ?_,
      fun hquiet hgood => ?_⟩
    · have clash : ctrlClashes p k = true := by simpa [ctrlClashes, hon, hen, or_assoc] using hchange
      rw [formed, clash, checked_cons_true]
    · have calm : ctrlClashes p k = false := by
        rcases hquiet with hquiet | hquiet
        · simp [ctrlClashes, hquiet]
        · simp [ctrlClashes, hquiet]
      rw [formed, calm, hbad]
      rfl
    · have calm : ctrlClashes p k = false := by
        rcases hquiet with hquiet | hquiet | ⟨h1, h2, h3⟩
        · simp [ctrlClashes, hquiet]
        · simp [ctrlClashes, hquiet]
        · simp [ctrlClashes, h1, h2, h3]
      rw [calm, hgood, checked_cons_false, Bool.not_true, checked_cons_false, checked_nil] at formed
      obtain ⟨hsame, ⟨bufs, hown⟩, hmem, hothers⟩ := ctrlConfigured_spec (p := p) hwf hk
      refine ⟨_, command_done (body := cmdCanConfig) h formed, hsame, ?_⟩
      rw [hown]
      refine ⟨rfl, ?_, rfl, rfl, fun hoff => ?_, fun hon hnew => ?_, fun hon hold => ?_, rfl, hmem, hothers⟩
      · simp only [ctrlSet]
        omega
      · simp [ctrlSet, hoff]
      · simp [ctrlSet, hon, hnew]
      · simp [ctrlSet, hon, hold]
  case filter =>
    have formed := cmdCanFilterConfig_formed hc hlt hlen hres hres1 hres2 hres3 hi hfirst hlast horder
    rw [awake, checked_cons_false] at formed
    refine ⟨fun hen hclash => command_done (body := cmdCanFilterConfig) h ?_, fun hen hfree hother => command_done (body := cmdCanFilterConfig) h ?_,
      fun hgood => ?_⟩
    · have clash : filterOverlap s c i first last = true := by
        subst hk
        simpa [filterOverlap, and_assoc] using hclash
      rw [formed, hen, clash]
      rfl
    · have other : (rangeOf first last).any (fun b => (canBuf s c b).kind ≠ 1) = true := by
        obtain ⟨b, hlow, hhigh, hkind⟩ := hother
        exact List.any_eq_true.mpr ⟨b, (mem_rangeOf horder).mpr ⟨hlow, hhigh⟩, decide_eq_true hkind⟩
      rw [formed, hen, hfree, other]
      rfl
    · have free : (bit (p.w 0) 9 && filterOverlap s c i first last) = false ∧
          (bit (p.w 0) 9 && (rangeOf first last).any (fun b => (canBuf s c b).kind ≠ 1)) = false := by
        rcases hgood with hoff | ⟨hfree, hkinds⟩
        · simp [hoff]
        · have rx : (rangeOf first last).any (fun b => (canBuf s c b).kind ≠ 1) = false := by
            refine List.any_eq_false.mpr fun b hb => ?_
            obtain ⟨hlow, hhigh⟩ := (mem_rangeOf horder).mp hb
            simp [hkinds b hlow hhigh]
          rw [hfree, rx, Bool.and_false]
          exact ⟨rfl, rfl⟩
      rw [free.1, free.2, checked_cons_false, checked_cons_false, checked_nil] at formed
      refine ⟨_, command_done (body := cmdCanFilterConfig) h formed, rfl, ?_⟩
      rw [canOf_modCtrl hwf, if_pos rfl, ← hk]
      refine ⟨?_, fun j hj => look_put_other _ _ hj, rfl, fun d hd => by rw [canOf_modCtrl hwf, if_neg hd]⟩
      rw [hfirst, hlast]
      exact look_put_same _ _ hfilters
  case buffer =>
    have formed := cmdCanBufferConfig_formed hc hlt hlen hres hkind hres1 hres2 hb hmatch
    rw [awake, checked_cons_false, ← hk] at formed
    refine ⟨fun hbusy => command_done (body := cmdCanBufferConfig) h ?_, fun hpending hwaits hlocked hfree => ?_⟩
    · have busy : ((canBuf s c b).state == .pending || (canBuf s c b).state == .waitTime || (canBuf s c b).locked) = true := by
        rcases hbusy with hbusy | hbusy | hbusy
        · rw [hbusy]; rfl
        · rw [hbusy]; rfl
        · rw [hbusy, Bool.or_true]
      rw [formed, busy, checked_cons_true]
    · have free : (field (p.w 0) 10 2 ≠ 1 && k.filters.any (fun e => e.2.enable && e.2.first ≤ b && b ≤ e.2.last)) = false := by
        rcases hfree with hfree | hfree
        · simp [hfree]
        · refine Bool.and_eq_false_iff.mpr (Or.inr (List.any_eq_false.mpr fun e he => ?_))
          simp only [Bool.and_eq_true, decide_eq_true_eq, not_and]
          intro hen
          have := hfree e he hen.1
          omega
      rw [beq_false_of_ne hpending, beq_false_of_ne hwaits, hlocked, free, Bool.or_false, Bool.or_false, checked_cons_false, checked_cons_false,
        checked_nil] at formed
      refine ⟨_, command_done (body := cmdCanBufferConfig) h formed, rfl, ?_⟩
      have hbuf (d : Nat) := canBuf_modBuf (b := b) (f := fun _ => (bufSet p).emptied) hwf (hk ▸ hbufs) d
      rw [hbuf b, if_pos rfl, canOf_modBuf hwf, if_pos rfl, ← hk]
      exact ⟨rfl, rfl, rfl, rfl, rfl, rfl, rfl, fun d hd => (hbuf d).trans (if_neg hd), rfl, fun d hd => by rw [canOf_modBuf hwf, if_neg hd]⟩

end Sys2Proof.Machine
end
section
/-! CAN.TRANSMIT, CAN.CANCEL, CAN.RECOVER and CAN.COUNTER_CONFIG (12 R438–R445, R454–R458). -/

namespace Sys2Proof.Machine

section Transmitting

variable {p : Packet} {s : State} {c b : Nat} {k : CanCtrl} {q : CanBuf}

/-- Words stored one after the other read back in their order. -/
theorem look_stored (ws : List Word) : ∀ (n : Nat) (t : Tab Nat) (a : Nat), Tab.wf 0 t →
    look 0 ((ws.zipIdx n).foldl (fun t e => put 0 t (4 + e.2) e.1.toNat) t) (4 + a) =
      if n ≤ a ∧ a < n + ws.length then (ws.getD (a - n) 0).toNat else look 0 t (4 + a) := by
  induction ws with
  | nil =>
    intro n t a _
    rw [if_neg (by simp)]
    rfl
  | cons w ws ih =>
    intro n t a hwf
    rw [List.zipIdx_cons, List.foldl_cons, ih (n + 1) _ a (put_wf _ _ hwf), List.length_cons]
    by_cases hin : n + 1 ≤ a ∧ a < n + 1 + ws.length
    · rw [if_pos hin, if_pos (by omega)]
      obtain ⟨j, rfl⟩ : ∃ j, a = n + 1 + j := ⟨a - (n + 1), by omega⟩
      rw [show n + 1 + j - (n + 1) = j by omega, show n + 1 + j - n = j + 1 by omega]
      rfl
    · rw [if_neg hin]
      by_cases ha : a = n
      · subst ha
        rw [if_pos (by omega), Nat.sub_self]
        exact look_put_same _ _ hwf
      · rw [if_neg (by omega)]
        exact look_put_other _ _ (by omega)

/-- What CAN.TRANSMIT puts into the buffer (R454). -/
def loaded (p : Packet) (q : CanBuf) : CanBuf :=
  { q with
    idWord := p.w 1, frame := p.w 2, txTime := p.w 3, data := (p.params.drop 4).zipIdx.foldl (fun t e => put 0 t (4 + e.2) e.1.toNat) [] }

theorem loaded_data {i : Nat} (hi : i < p.len - 4) : look 0 (loaded p q).data (4 + i) = p.w (4 + i) := by
  have := look_stored (p.params.drop 4) 0 [] i rfl
  have hlen : 4 + i < p.params.length := by unfold Packet.len at hi; omega
  rw [if_pos ⟨Nat.zero_le _, by rw [List.length_drop]; omega⟩, Nat.sub_zero] at this
  refine this.trans ?_
  rw [Packet.w, List.getD_eq_getElem _ _ (by rw [List.length_drop]; omega), List.getD_eq_getElem _ _ hlen, List.getElem_drop]

theorem cmdCanTransmit_formed (hc : c = field (p.w 0) 0 3) (hb : b = field (p.w 0) 3 7) (hlt : c < canControllers s)
    (hlen : p.len = 4 + (transmitBytes (p.w 1) (p.w 2) + 3) / 4) (hres : reservedSet (p.w 0) 0xFFFFF800 = false)
    (hres2 : reservedSet (p.w 2) 0xFFFFFF80 = false) (h26 : bit (p.w 2) 6 = false) (h131 : bit (p.w 1) 31 = false)
    (hrtr : bit (p.w 1) 30 = true → bit (p.w 2) 4 = false) (hfd : bit (p.w 2) 4 = true → (canOf s c).fd = true)
    (hbrs : bit (p.w 2) 5 = true → bit (p.w 2) 4 = true) (htime : bit (p.w 0) 10 = false → p.w 3 = 0) :
    cmdCanTransmit p s = checked [(s.dev.mode == .graze, stBadMode), ((canOf s c).state == .off, stCnState), ((canBuf s c b).kind != 2, stCnBufKind),
        ((canOf s c).listen, stCnListen), (canOwned s c b, stLocked), ((canBuf s c b).state == .pending || (canBuf s c b).state == .waitTime, stCnBusy)] s
      ((s.modBuf c b (loaded p)).queueCan c b (bit (p.w 0) 10), .done stOk []) := by
  have whole : p.w 2 % 64 = p.w 2 := by
    have low : field (p.w 2) 0 7 = p.w 2 := field_low_of_reserved p 2 7 (by decide) hres2
    rw [field] at low
    rw [bit, beq_eq_false_iff_ne] at h26
    omega
  have bad : (reservedSet (p.w 0) 0xFFFFF800 || bit (p.w 1) 31 || reservedSet (p.w 2) 0xFFFFFF80 || bit (p.w 2) 6 || (bit (p.w 2) 4 && !(canOf s c).fd) ||
      (bit (p.w 2) 5 && !bit (p.w 2) 4) || (bit (p.w 1) 30 && bit (p.w 2) 4) || (!bit (p.w 0) 10 && p.w 3 != 0)) = false := by
    have h1 : (bit (p.w 2) 4 && !(canOf s c).fd) = false := by
      cases h : bit (p.w 2) 4 with
      | false => rfl
      | true => rw [hfd h]; rfl
    have h2 : (bit (p.w 2) 5 && !bit (p.w 2) 4) = false := by
      cases h : bit (p.w 2) 5 with
      | false => rfl
      | true => rw [hbrs h]; rfl
    have h3 : (bit (p.w 1) 30 && bit (p.w 2) 4) = false := by
      cases h : bit (p.w 1) 30 with
      | false => rfl
      | true => rw [hrtr h]; rfl
    have h4 : (!bit (p.w 0) 10 && p.w 3 != 0) = false := by
      cases h : bit (p.w 0) 10 with
      | false => rw [htime h]; rfl
      | true => rfl
    rw [hres, hres2, h26, h131, h1, h2, h3, h4]
    rfl
  subst hc hb
  unfold loaded
  simp only [cmdCanTransmit, whole]
  rw [canChecks_passed hlen hlt bad]

/-- R438, R440: a frame queued is pending, or waits for its time. -/
theorem queueCan_eq (s : State) (c b : Nat) (atTime : Bool) : ∃ st : CanBufState,
    s.queueCan c b atTime = s.modBuf c b (fun k => { k with state := st, cancelling := false }) ∧ (st = .pending ∨ st = .waitTime) ∧
    (atTime = false → st = .pending) := by
  unfold State.queueCan
  split
  · rename_i hwait
    exact ⟨.waitTime, rfl, Or.inr rfl, fun hnow => absurd hwait.1 (by simp [hnow])⟩
  · exact ⟨.pending, rfl, Or.inl rfl, fun _ => rfl⟩

/-- R441: the frame that a cancel meets may have begun. -/
def mayHaveBegun (s : State) (c b : Nat) : Bool := (canBuf s c b).state == .pending && onBus s c && offered s c == some b && !(canBuf s c b).cancelling

theorem cmdCanCancel_formed (hc : c = field (p.w 0) 0 3) (hb : b = field (p.w 0) 3 7) (hlt : c < canControllers s) (hlen : p.len = 1)
    (hres : reservedSet (p.w 0) 0xFFFFFC00 = false) :
    cmdCanCancel p s = checked [(s.dev.mode == .graze, stBadMode), ((canBuf s c b).kind != 2, stCnBufKind)] s
      (if (canBuf s c b).state ≠ .pending ∧ (canBuf s c b).state ≠ .waitTime then (s, .done stOk [wd (canBuf s c b).state.num])
      else
        let u := if mayHaveBegun s c b then s.takeFree.2 else s
        if (canBuf s c b).cancelling || (mayHaveBegun s c b && bit s.takeFree.1.toNat 0) then
          (u.modBuf c b fun k => { k with cancelling := true }).defer .canCancel p [c, b]
        else (u.modBuf c b (fun k => { k with state := .cancelled }), .done stOk [wd CanBufState.cancelled.num])) := by
  subst hc hb
  rw [cmdCanCancel]
  simp only
  rw [canChecks_passed hlen hlt hres]
  rfl

end Transmitting

section Counters

variable {p : Packet} {s t u : State} {c : Nat}

/-- `t` is `s` but for the counters' sources and the records of them (R438). -/
structure SourcesSet (s t : State) : Prop where
  mem : t.mem = s.mem
  acq : t.acq = s.acq
  wf : Tab.wf {} s.can.ctrls → Tab.wf {} t.can.ctrls
  ctrls : Tab.wf {} s.can.ctrls → ∀ d, canOf t d = { canOf s d with slaved := (canOf t d).slaved }

theorem SourcesSet.refl (s : State) : SourcesSet s s := ⟨rfl, rfl, id, fun _ _ => rfl⟩

theorem SourcesSet.trans (h : SourcesSet s t) (h' : SourcesSet t u) : SourcesSet s u := by
  refine ⟨h'.mem.trans h.mem, h'.acq.trans h.acq, fun hwf => h'.wf (h.wf hwf), fun hwf d => ?_⟩
  rw [h'.ctrls (h.wf hwf) d, h.ctrls hwf d]

/-- R438: the counter takes the source, and no other does. -/
theorem setSource_spec (hwf : Tab.wf {} s.can.ctrls) (c : Nat) (slaved : Bool) : SourcesSet s (s.setSource c slaved) ∧
    ∀ d, (canOf (s.setSource c slaved) d).slaved = if d = c then slaved else (canOf s d).slaved := by
  unfold State.setSource
  split
  · rename_i hsame
    refine ⟨SourcesSet.refl s, fun d => ?_⟩
    split
    · rename_i hd
      rw [hd, hsame]
    · rfl
  · obtain ⟨n, y, recorded⟩ := (s.modCtrl c fun k => { k with slaved := slaved }).recordOpen_eq 10 14 0 false
    have hown (d : Nat) : canOf ((s.modCtrl c fun k => { k with slaved := slaved }).recordOpen 10 14 0) d =
        if d = c then { canOf s d with slaved := slaved } else canOf s d := by
      rw [recorded]
      exact canOf_modCtrl hwf d
    refine ⟨⟨by rw [recorded]; rfl, by rw [recorded]; rfl, fun _ => by rw [recorded]; exact modCtrl_wf hwf, fun _ d => ?_⟩, fun d => ?_⟩
    · rw [hown]
      split
      · rfl
      · rfl
    · rw [hown]
      split
      · rfl
      · rfl

theorem setSources_spec (slaved : Bool) (l : List Nat) : ∀ s : State, Tab.wf {} s.can.ctrls →
    SourcesSet s (l.foldl (fun s c => s.setSource c slaved) s) ∧
    ∀ d, (canOf (l.foldl (fun s c => s.setSource c slaved) s) d).slaved = if d ∈ l then slaved else (canOf s d).slaved := by
  induction l with
  | nil => exact fun s _ => ⟨SourcesSet.refl s, fun d => rfl⟩
  | cons c l ih =>
    intro s hwf
    obtain ⟨hfirst, hset⟩ := setSource_spec hwf c slaved
    obtain ⟨hrest, hsets⟩ := ih _ (hfirst.wf hwf)
    refine ⟨hfirst.trans hrest, fun d => ?_⟩
    rw [List.foldl_cons, hsets, hset]
    by_cases hd : d = c
    · simp [hd]
    · simp [hd]

theorem cmdCanCounterConfig_formed (hc : c = field (p.w 0) 0 3) (hlt : c < canControllers s) (hlen : p.len = 1)
    (hres : reservedSet (p.w 0) 0xFFFFFFE0 = false) (hall : bit (p.w 0) 4 = true → c = 0) :
    cmdCanCounterConfig p s = checked [(s.dev.mode == .graze, stBadMode)] s
      (if bit (p.w 0) 4 then (List.range (canControllers s)).foldl (fun s c => s.setSource c (bit (p.w 0) 3)) s
        else s.setSource c (bit (p.w 0) 3), .done stOk []) := by
  have bad : (reservedSet (p.w 0) 0xFFFFFFE0 || (bit (p.w 0) 4 && decide (c ≠ 0))) = false := by
    cases h : bit (p.w 0) 4 with
    | false => rw [hres]; rfl
    | true => rw [hres, hall h]; rfl
  subst hc
  have passed := canChecks_passed (s := s) (cs := []) (r := (if bit (p.w 0) 4 then
    (List.range (canControllers s)).foldl (fun s c => s.setSource c (bit (p.w 0) 3)) s
    else s.setSource (field (p.w 0) 0 3) (bit (p.w 0) 3), .done stOk [])) hlen hlt bad
  rw [List.append_nil] at passed
  exact passed

end Counters

/-- Settles O30: the frame by `loaded` and `queueCan_eq`, the cancel by what `mayHaveBegun` leaves open, the counters by `setSources_spec`. -/
theorem canTraffic : Obligations.CanTraffic := by
  refine fun p s c k hwf hbufs hc hk hlt hgraze => ⟨fun h b q hb hq hlen hres hres2 h26 h131 hrtr hfd hbrs htime => ?transmit,
    fun h hlen hres b q hb hq => ?cancel, fun h hlen hres => ?recover, fun h hlen hres hall => ?counter⟩
  all_goals have awake : (s.dev.mode == .graze) = false := beq_false_of_ne hgraze
  case transmit =>
    have formed := cmdCanTransmit_formed (s := s) hc hb hlt hlen hres hres2 h26 h131 hrtr (hk ▸ hfd) hbrs htime
    rw [awake, checked_cons_false, ← hk, ← hq] at formed
    refine ⟨fun hoff => command_done (body := cmdCanTransmit) h ?_, fun hon => ?_⟩
    · rw [formed, hoff]
      rfl
    rw [beq_false_of_ne hon, checked_cons_false] at formed
    refine ⟨fun hkind => command_done (body := cmdCanTransmit) h ?_, fun hkind hlisten => command_done (body := cmdCanTransmit) h ?_,
      fun hkind hlisten howned => command_done (body := cmdCanTransmit) h ?_, fun hkind hlisten hfree hbusy => command_done (body := cmdCanTransmit) h ?_,
      fun hkind hlisten hfree hpending hwaits => ?_⟩
    · rw [formed, bne_iff_ne.mpr hkind, checked_cons_true]
    · rw [formed, hkind, hlisten]
      rfl
    · rw [formed, hkind, hlisten, howned]
      rfl
    · have busy : (q.state == .pending || q.state == .waitTime) = true := by
        rcases hbusy with hbusy | hbusy
        · rw [hbusy]; rfl
        · rw [hbusy]; rfl
      rw [formed, hkind, hlisten, hfree, busy]
      rfl
    · have done : cmdCanTransmit p s = ((s.modBuf c b (loaded p)).queueCan c b (bit (p.w 0) 10), .done stOk []) := by
        rw [formed, hkind, hlisten, hfree, beq_false_of_ne hpending, beq_false_of_ne hwaits]
        rfl
      obtain ⟨st, hqueued, hst, hnow⟩ := queueCan_eq (s.modBuf c b (loaded p)) c b (bit (p.w 0) 10)
      have hwf' : Tab.wf {} (s.modBuf c b (loaded p)).can.ctrls := modCtrl_wf hwf
      have hbufs' : Tab.wf {} (canOf (s.modBuf c b (loaded p)) c).bufs := by
        rw [canOf_modBuf hwf, if_pos rfl]
        exact upd_wf b _ (hk ▸ hbufs)
      rw [hqueued] at done
      have hbuf (d : Nat) := (canBuf_modBuf (c := c) (b := b) (f := fun k => { k with state := st, cancelling := false }) hwf' hbufs' d).trans
        (by rw [canBuf_modBuf hwf (hk ▸ hbufs) d])
      refine ⟨_, command_done (body := cmdCanTransmit) h done, rfl, ?_⟩
      rw [hbuf b, if_pos rfl, if_pos rfl]
      refine ⟨rfl, rfl, rfl, fun i hi => loaded_data (q := canBuf s c b) hi, rfl, hnow, hst, fun d hd => ?_, fun d hd => ?_⟩
      · rw [hbuf d, if_neg hd, if_neg hd]
      · rw [canOf_modBuf hwf', if_neg hd, canOf_modBuf hwf, if_neg hd]
  case cancel =>
    have formed := cmdCanCancel_formed (s := s) hc hb hlt hlen hres
    rw [awake, checked_cons_false] at formed
    simp only [mayHaveBegun, ← hq] at formed
    refine ⟨fun hkind => command_done (body := cmdCanCancel) h ?_, fun hkind hpending hwaits => command_done (body := cmdCanCancel) h ?_,
      fun hkind hcancel hstate => command_waits (body := cmdCanCancel) h ?_, fun hkind hcancel hstate => ?_, fun hkind hcancel hpending hbus hoffer => ?_⟩
    · rw [formed, bne_iff_ne.mpr hkind, checked_cons_true]
    · rw [formed, hkind, if_pos ⟨hpending, hwaits⟩]
      rfl
    · have waits : ¬ (q.state ≠ .pending ∧ q.state ≠ .waitTime) := by
        rcases hstate with hstate | hstate
        · simp [hstate]
        · simp [hstate]
      rw [formed, hkind, if_neg waits, hcancel]
      simp
      rfl
    · have waits : ¬ (q.state ≠ .pending ∧ q.state ≠ .waitTime) := by
        rcases hstate with hstate | ⟨hstate, -⟩
        · simp [hstate]
        · simp [hstate]
      have still : (q.state == .pending && onBus s c && offered s c == some b && !q.cancelling) = false := by
        rcases hstate with hstate | ⟨hstate, hoffer | hbus⟩
        · rw [hstate]; rfl
        · simp [beq_false_of_ne hoffer]
        · simp [hbus]
      rw [hkind, if_neg waits, still, hcancel] at formed
      exact ⟨_, command_done (body := cmdCanCancel) h (formed.trans rfl), rfl⟩
    · have waits : ¬ (q.state ≠ .pending ∧ q.state ≠ .waitTime) := by simp [hpending]
      have may : (q.state == .pending && onBus s c && offered s c == some b && !q.cancelling) = true := by
        rw [hpending, hbus, hoffer, hcancel]
        simp
      rw [hkind, if_neg waits, may, hcancel] at formed
      cases hfree : bit s.takeFree.1.toNat 0 with
      | false =>
        rw [hfree] at formed
        exact Or.inl (command_done (body := cmdCanCancel) h (formed.trans rfl))
      | true =>
        rw [hfree] at formed
        exact Or.inr (command_waits (body := cmdCanCancel) h (formed.trans rfl))
  case recover =>
    have formed := cmdCanRecover_formed hc hlt hlen hres
    rw [awake, checked_cons_false, ← hk] at formed
    refine ⟨fun hstate => command_done (body := cmdCanRecover) h ?_, fun hstate => command_done (body := cmdCanRecover) h ?_⟩
    · rw [formed, bne_iff_ne.mpr hstate, checked_cons_true]
    · rw [formed, hstate]
      rfl
  case counter =>
    have formed := cmdCanCounterConfig_formed hc hlt hlen hres hall
    rw [awake, checked_cons_false, checked_nil] at formed
    refine ⟨_, command_done (body := cmdCanCounterConfig) h formed, ?_⟩
    cases h4 : bit (p.w 0) 4 with
    | false =>
      obtain ⟨hset, hslaved⟩ := setSource_spec hwf c (bit (p.w 0) 3)
      simp only [Bool.false_eq_true, if_false]
      refine ⟨fun _ => by rw [hslaved, if_pos rfl], fun hon => absurd hon (by simp), fun d => ?_, hset.mem, hset.acq⟩
      rw [hset.ctrls hwf d]
      exact ⟨rfl, rfl⟩
    | true =>
      obtain ⟨hset, hslaved⟩ := setSources_spec (bit (p.w 0) 3) (List.range (canControllers s)) s hwf
      simp only [if_true]
      refine ⟨fun hoff => absurd hoff (by simp), fun _ d hd => by rw [hslaved, if_pos (List.mem_range.mpr hd)], fun d => ?_, hset.mem, hset.acq⟩
      rw [hset.ctrls hwf d]
      exact ⟨rfl, rfl⟩

end Sys2Proof.Machine
end
section
/-! The TIME commands (13 R465, R470, R473–R479). -/

namespace Sys2Proof.Machine

section Ports

variable {p : Packet} {s : State} {n k m : Nat}

theorem portOf_modPort {f : EthPort → EthPort} (hwf : Tab.wf {} s.net.ports) (m : Nat) :
    portOf (s.modPort n f) m = if m = n then f (portOf s m) else portOf s m := look_upd f n m hwf

theorem trackOf_modTrack {f : Track → Track} (hwf : Tab.wf {} s.net.tracks) (j : Nat) :
    trackOf (s.modTrack k f) j = if j = k then f (trackOf s j) else trackOf s j := look_upd f k j hwf

/-- The settings of a port (R474). -/
def portSet (p : Packet) (o : EthPort) : EthPort :=
  { o with
    enable := bit (p.w 0) 1, autoneg := bit (p.w 0) 2, tsqEn := bit (p.w 0) 3, mac := p.w 1 + place 32 (field (p.w 2) 0 16)
    vlan := field (p.w 2) 16 12, pcp := field (p.w 2) 28 3, ipv4 := p.w 3, prefixLen := p.w 4, gateway := p.w 5
    ingressNs := field (p.w 6) 0 16, egressNs := field (p.w 6) 16 16, asymNs := signed 32 (p.w 7) }

theorem cmdTimePortConfig_formed (hlen : p.len = 8) (hres : reservedSet (p.w 0) 0xFFFFFFF0 = false) (hres2 : reservedSet (p.w 2) 0x80000000 = false)
    (hprefix : p.w 4 ≤ 32) (hn : n = field (p.w 0) 0 1) :
    cmdTimePortConfig p s = checked [(timeModeBad s, stBadMode),
        (s.net.udpEnabled && bit s.net.udpPorts n && udpRing s && (!bit (p.w 0) 1 || (portOf s n).ipv4 ≠ p.w 3), stTmUdpInUse)] s
      (s.modPort n (portSet p), .done stOk []) := by
  have hres4 : reservedSet (p.w 4) 0xFFFFFFC0 = false := reservedSet_eq_false_of_lt (n := 6) (by omega) (by decide)
  subst hn
  simp only [cmdTimePortConfig, hlen, hres, hres2, hres4, decide_eq_false (Nat.not_lt.mpr hprefix)]
  rfl

/-- The settings of a track (R475). -/
def trackSet (p : Packet) (old : Track) : Track :=
  { enable := bit (p.w 0) 1, ports := field (p.w 0) 2 2, udp := bit (p.w 0) 4, p2p := bit (p.w 0) 5, domain := field (p.w 0) 6 8,
    majorSdo := field (p.w 0) 14 4, minorSdo := field (p.w 0) 18 8, logDelay := signed 8 (field (p.w 1) 0 8),
    announceTimeout := field (p.w 1) 8 8, syncTimeoutMs := field (p.w 1) 16 16, lockNs := p.w 2,
    state := if bit (p.w 0) 1 then .listening else .off, syncs := old.syncs, invalid := old.invalid }

/-- A port of the set has no address (R475, R479). -/
def addressMissing (s : State) (ports : Nat) : Bool := (bitsOf 2 ports).any fun n => (portOf s n).ipv4 == 0

theorem addressMissing_iff {ports : Nat} : addressMissing s ports = true ↔ ∃ n < 2, bit ports n = true ∧ (portOf s n).ipv4 = 0 := by
  simp only [addressMissing, bitsOf, List.any_eq_true, List.mem_filter, List.mem_range, beq_iff_eq, and_assoc]

theorem addressMissing_eq_false {ports : Nat} (hall : ∀ n < 2, bit ports n = true → (portOf s n).ipv4 ≠ 0) : addressMissing s ports = false := by
  rw [← Bool.not_eq_true, addressMissing_iff]
  rintro ⟨n, hn, hbit, hzero⟩
  exact hall n hn hbit hzero

/-- R475: the other track works in the same domain on a port of the set. -/
def tracksClash (p : Packet) (o : Track) : Bool :=
  bit (p.w 0) 1 && o.enable && o.domain == field (p.w 0) 6 8 && (o.ports &&& field (p.w 0) 2 2 ≠ 0)

theorem cmdTimePtpConfig_formed (hlen : p.len = 3) (hres : reservedSet (p.w 0) 0xFC000000 = false) (hlock : 1 ≤ p.w 2) (hlock' : p.w 2 < 65536)
    (hdomain : field (p.w 0) 6 8 ≤ 239) (hdelay : -7 ≤ signed 8 (field (p.w 1) 0 8)) (hdelay' : signed 8 (field (p.w 1) 0 8) ≤ 5)
    (htimeout : 2 ≤ field (p.w 1) 8 8) (htimeout' : field (p.w 1) 8 8 ≤ 10) (hsync : 1 ≤ field (p.w 1) 16 16)
    (hports : bit (p.w 0) 1 = true → field (p.w 0) 2 2 ≠ 0) (hk : k = field (p.w 0) 0 1) :
    cmdTimePtpConfig p s = checked [(timeModeBad s, stBadMode),
        (bit (p.w 0) 1 && bit (p.w 0) 4 && addressMissing s (field (p.w 0) 2 2), stTmNoAddr), (tracksClash p (trackOf s (1 - k)), stTmTrackClash)] s
      (s.modTrack k (trackSet p), .done stOk []) := by
  have hres2 : reservedSet (p.w 2) 0xFFFF0000 = false := reservedSet_eq_false_of_lt (n := 16) hlock' (by decide)
  have hports' : (bit (p.w 0) 1 && field (p.w 0) 2 2 == 0) = false := by
    cases h : bit (p.w 0) 1 with
    | false => rfl
    | true => exact beq_false_of_ne (hports h)
  have hsync' : (field (p.w 1) 16 16 == 0) = false := beq_false_of_ne (by omega)
  have hlock0 : (p.w 2 == 0) = false := beq_false_of_ne (by omega)
  subst hk
  simp only [cmdTimePtpConfig, hlen, hres, hres2, hports', hsync', hlock0, decide_eq_false (Nat.not_lt.mpr hdomain), decide_eq_false (Int.not_lt.mpr hdelay),
    decide_eq_false (Int.not_lt.mpr hdelay'), decide_eq_false (Nat.not_lt.mpr htimeout), decide_eq_false (Nat.not_lt.mpr htimeout')]
  rfl

theorem cmdTimeUdpConfig_formed (hn : p.w 1 = n) (hmin : 1 ≤ n) (hmax : n ≤ 8) (hlen : p.len = 2 + 2 * n) (hres : reservedSet (p.w 0) 0xFE000000 = false)
    (h0 : field (p.w 0) 0 16 ≠ 0) (h319 : field (p.w 0) 0 16 ≠ 319) (h320 : field (p.w 0) 0 16 ≠ 320) (hallow : ∀ i < n, p.w (3 + 2 * i) ≤ 32) :
    cmdTimeUdpConfig p s = checked [(timeModeBad s, stBadMode), (bit (p.w 0) 16 && addressMissing s (field (p.w 0) 17 2), stTmNoAddr),
        (udpRing s && s.net.udpEnabled && (!bit (p.w 0) 16 || (s.net.udpPorts &&& field (p.w 0) 17 2) ≠ s.net.udpPorts), stTmUdpInUse)] s
      (s.modNet (fun u => { u with
        udpEnabled := bit (p.w 0) 16, udpPort := field (p.w 0) 0 16, udpPorts := field (p.w 0) 17 2, dscp := field (p.w 0) 19 6
        allow := (List.range n).map fun i => (p.w (2 + 2 * i), p.w (3 + 2 * i)) }), .done stOk []) := by
  have hfield : field n 0 4 = n := field_eq_self_of_lt (n := 4) (by omega)
  have hres1 : reservedSet n 0xFFFFFFF0 = false := reservedSet_eq_false_of_lt (n := 4) (by omega) (by decide)
  have hsome : (n == 0) = false := beq_false_of_ne (by omega)
  have hallow' : ((List.range n).map fun i => (p.w (2 + 2 * i), p.w (3 + 2 * i))).any (fun a => 32 < a.2) = false := by
    refine List.any_eq_false.mpr fun a ha => ?_
    obtain ⟨i, hi, rfl⟩ := List.mem_map.mp ha
    simpa using hallow i (List.mem_range.mp hi)
  have hlen' : (decide (p.len < 2) || decide (p.len ≠ 2 + 2 * n)) = false := by
    rw [← Bool.decide_or]
    exact decide_eq_false (by omega)
  simp only [cmdTimeUdpConfig, hn, hfield, hres, hres1, hsome, hallow', hlen', beq_false_of_ne h0, beq_false_of_ne h319, beq_false_of_ne h320,
    decide_eq_false (Nat.not_lt.mpr hmax)]
  rfl

/-- The words of TIME.TS_QUEUE_READ (R478). -/
def queueWords (most : Nat) (q : EthPort) : List Word :=
  wd ((q.tsq.take most).length + place 5 (flag q.overflow)) ::
    (q.tsq.take most).flatMap fun e => wd (e.seq + place 16 e.type + place 20 e.domain) :: wd2 e.egress

theorem cmdTimeTsQueueRead_formed {most : Nat} (hlen : p.len = 1) (hres : reservedSet (p.w 0) 0xFFFFFFC0 = false) (hn : n = field (p.w 0) 0 1)
    (hmost : most = field (p.w 0) 1 5) :
    cmdTimeTsQueueRead p s = checked [(most == 0 || 16 < most, stRange)] s
      (s.modPort n (fun o => { o with tsq := o.tsq.drop most, overflow := false }), .done stOk (queueWords most (portOf s n))) := by
  subst hn hmost
  simp only [cmdTimeTsQueueRead, hlen, hres, Bool.false_or]
  rfl

theorem queueWords_length (most : Nat) (q : EthPort) : (queueWords most q).length = 1 + 3 * min most q.tsq.length := by
  have entry : ∀ l : List TsEntry, (l.flatMap fun e => wd (e.seq + place 16 e.type + place 20 e.domain) :: wd2 e.egress).length = 3 * l.length := by
    intro l
    induction l with
    | nil => rfl
    | cons e l ih =>
      rw [List.flatMap_cons, List.length_append, ih, List.length_cons]
      simp [wd2]
      omega
  rw [queueWords, List.length_cons, entry, List.length_take]
  omega

end Ports

section Mapping

variable {p : Packet} {s t u : State} {source : Nat}

/-- What TIME.DOMAIN_SELECT sets of the TIME unit, and its ports (R476). -/
def mapSettings (n : NetUnit) : Nat × Bool × Bool × Bool × Nat × Nat × Nat × Tab EthPort :=
  (n.source, n.autoSwitch, n.steer, n.stepEarly, n.slewPpm, n.maxSteerPpm, n.stepUs, n.ports)

/-- `t` is `s` after the mapping moved: the settings of it stand. -/
structure Mapped (s t : State) : Prop where
  mem : t.mem = s.mem
  dev : t.dev = s.dev
  settings : mapSettings t.net = mapSettings s.net

namespace Mapped

theorem refl (s : State) : Mapped s s := ⟨rfl, rfl, rfl⟩

theorem trans (h : Mapped s t) (h' : Mapped t u) : Mapped s u := ⟨h'.mem.trans h.mem, h'.dev.trans h.dev, h'.settings.trans h.settings⟩

theorem modNet {f : NetUnit → NetUnit} (hf : ∀ n, mapSettings (f n) = mapSettings n) (s : State) : Mapped s (s.modNet f) := ⟨rfl, rfl, hf s.net⟩

theorem recordOpen (s : State) (unit ev sev : Nat) : Mapped s (s.recordOpen unit ev sev) := by
  obtain ⟨n, y, recorded⟩ := s.recordOpen_eq unit ev sev false
  rw [recorded]
  exact ⟨rfl, rfl, rfl⟩

theorem retarget {f : NetUnit → NetUnit} (hf : ∀ n, mapSettings (f n) = mapSettings n) (s : State) (atOnce : Bool) :
    Mapped s (s.retarget atOnce f) := by
  unfold State.retarget
  extract_lets t was m n d far s₁
  have set : Mapped s s₁ := by
    refine ⟨rfl, rfl, ?_⟩
    simp only [s₁, State.modNet]
    split
    · exact hf s.net
    · exact hf s.net
  split
  · exact set.trans ((modNet (f := fun n => { n with taiSteps := n.taiSteps + 1, mapDue := true }) (fun _ => rfl) s₁).trans (recordOpen _ 11 15 0))
  · exact set

theorem setUtc (s : State) (offset : Int) (known leap61 leap59 : Bool) : Mapped s (s.setUtc offset known leap61 leap59) := by
  unfold State.setUtc
  extract_lets changed s₁
  have set : Mapped s s₁ := ⟨rfl, rfl, rfl⟩
  split
  · exact set.trans ⟨rfl, rfl, rfl⟩
  · exact set

theorem utcOfTrack (s : State) (k : Nat) : Mapped s (s.utcOfTrack k) := by
  unfold State.utcOfTrack
  split
  · split
    · split
      · exact setUtc s _ _ _ _
      · exact ⟨rfl, rfl, rfl⟩
    · exact refl s
  · exact refl s

theorem followTrack (s : State) (k : Nat) : Mapped s (s.followTrack k) := by
  unfold State.followTrack
  extract_lets t
  exact retarget (f := fun n => { n with ring := false, off := t.off, ref := t.ref, rate := t.rate }) (fun _ => rfl) s false

theorem onLocked (s : State) (k : Nat) : Mapped s (s.onLocked k) := by
  unfold State.onLocked
  split
  · exact refl s
  · extract_lets s₁
    have followed : Mapped s s₁ := by
      have began : Mapped s (s.modNet fun n => { n with relocking := false }) := ⟨rfl, rfl, rfl⟩
      exact (began.trans (followTrack _ k)).trans (utcOfTrack _ k)
    split
    · exact followed.trans ⟨rfl, rfl, rfl⟩
    · exact followed

end Mapped

/-- R465: a mapping set at once is the one that it is to be. -/
theorem retarget_atOnce (s : State) (f : NetUnit → NetUnit) :
    ∃ k b, (s.retarget true f).net = { f s.net with mapValid := true, diff := 0, diffAt := s.ns, taiSteps := k, mapDue := b } := by
  unfold State.retarget
  extract_lets t was m n d far s₁
  have stands : s₁.net = n := by simp [s₁, State.modNet]
  split
  · obtain ⟨k, y, recorded⟩ := (s₁.modNet fun n => { n with taiSteps := n.taiSteps + 1, mapDue := true }).recordOpen_eq 11 15 0 false
    rw [recorded]
    simp only [State.modNet, stands]
    exact ⟨_, _, rfl⟩
  · rw [stands]
    exact ⟨_, _, rfl⟩

/-- R470: setting UTC leaves the line of the mapping, and gives the offset. -/
theorem setUtc_line (s : State) (offset : Int) (known leap61 leap59 : Bool) :
    (s.setUtc offset known leap61 leap59).net.mapValid = s.net.mapValid ∧ (s.setUtc offset known leap61 leap59).net.off = s.net.off ∧
    (s.setUtc offset known leap61 leap59).net.ref = s.net.ref ∧ (s.setUtc offset known leap61 leap59).net.rate = s.net.rate ∧
    (s.setUtc offset known leap61 leap59).net.diff = s.net.diff ∧ (s.setUtc offset known leap61 leap59).net.ring = s.net.ring ∧
    (s.setUtc offset known leap61 leap59).net.utcOffset = offset ∧ (s.setUtc offset known leap61 leap59).net.utcKnown = known := by
  unfold State.setUtc
  extract_lets changed s₁
  split
  · exact ⟨rfl, rfl, rfl, rfl, rfl, rfl, rfl, rfl⟩
  · exact ⟨rfl, rfl, rfl, rfl, rfl, rfl, rfl, rfl⟩

/-- The settings of TIME.DOMAIN_SELECT (R476). -/
def domainSet (p : Packet) (n : NetUnit) : NetUnit :=
  { n with
    source := field (p.w 0) 0 2, autoSwitch := bit (p.w 0) 2, steer := bit (p.w 0) 3, stepEarly := bit (p.w 0) 4, slewPpm := field (p.w 1) 0 8,
    maxSteerPpm := field (p.w 1) 8 8, stepUs := field (p.w 1) 16 16, relocking := false, mapDue := true }

/-- The line that the host gives (R465, R476). -/
def lineSet (p : Packet) (n : NetUnit) : NetUnit :=
  { n with ring := false, off := (p.w 2 + place 32 (p.w 3) : Int) - (p.w 4 + place 32 (p.w 5) : Int), ref := (p.w 4 + place 32 (p.w 5) : Int), rate := 0 }

/-- What TIME.DOMAIN_SELECT does once its settings stand (R465, R476). -/
def domainSelected (p : Packet) (source : Nat) (s : State) : State :=
  if source = 2 then
    (s.retarget true (lineSet p)).setUtc (signed 16 (field (p.w 6) 0 16)) (bit (p.w 6) 18) (bit (p.w 6) 16) (bit (p.w 6) 17)
  else if source < 2 then s.onLocked source
  else s.modNet fun n => { n with mapValid := n.mapValid && n.ring }

/-- The words that only the host's line uses are 0 (R476). -/
theorem line_zero (hlen : p.len = 7) (hzero : ∀ i, 2 ≤ i → i < 7 → p.w i = 0) : (p.params.drop 2).any (· ≠ 0) = false := by
  refine List.any_eq_false.mpr fun w hw => ?_
  obtain ⟨k, hk, rfl⟩ := List.mem_iff_getElem.mp hw
  rw [List.length_drop, show p.params.length = 7 from hlen] at hk
  have zero := hzero (2 + k) (by omega) (by omega)
  rw [Packet.w, List.getD_eq_getElem _ _ (by rw [show p.params.length = 7 from hlen]; omega)] at zero
  rw [List.getElem_drop]
  simpa using BitVec.eq_of_toNat_eq zero

theorem cmdTimeDomainSelect_formed (hlen : p.len = 7) (hres : reservedSet (p.w 0) 0xFFFFFFE0 = false) (hres6 : reservedSet (p.w 6) 0xFFF80000 = false)
    (hslew : 1 ≤ field (p.w 1) 0 8) (hslew' : field (p.w 1) 0 8 ≤ 100) (hsteer : 1 ≤ field (p.w 1) 8 8) (hsteer' : field (p.w 1) 8 8 ≤ 100)
    (hstep : 1 ≤ field (p.w 1) 16 16) (hsource : source = field (p.w 0) 0 2) :
    cmdTimeDomainSelect p s =
      checked [((!(source == 2) && (p.params.drop 2).any (· ≠ 0)) || (source == 3 && !s.drove.cfg.upEn), stRange),
        (source < 2 && (trackOf s source).state ≠ .locked, stTmNotLocked), ((bit (p.w 0) 3 || bit (p.w 0) 4) && s.drove.cfg.upEn, stTmNoSteer)] s
      (domainSelected p source (s.modNet (domainSet p)), .done stOk []) := by
  have h0 : (field (p.w 1) 0 8 == 0) = false := beq_false_of_ne (by omega)
  have h1 : (field (p.w 1) 8 8 == 0) = false := beq_false_of_ne (by omega)
  have h2 : (field (p.w 1) 16 16 == 0) = false := beq_false_of_ne (by omega)
  subst hsource
  simp only [cmdTimeDomainSelect, hlen, hres, hres6, h0, h1, h2, decide_eq_false (Nat.not_lt.mpr hslew'), decide_eq_false (Nat.not_lt.mpr hsteer'),
    Bool.false_or, domainSelected, beq_iff_eq]
  split
  · rfl
  · split
    · rfl
    · rfl

theorem mapSettings_line (n : NetUnit) (off ref : Int) : mapSettings { n with ring := false, off := off, ref := ref, rate := 0 } = mapSettings n := rfl

theorem mapSettings_lineSet (p : Packet) (n : NetUnit) : mapSettings (lineSet p n) = mapSettings n := mapSettings_line n _ _

/-- R465, R470: the host's line stands at once, with its offset of UTC. -/
theorem lineSelected_spec (p : Packet) (s : State) (offset : Int) (known leap61 leap59 : Bool) :
    (((s.retarget true (lineSet p)).setUtc offset known leap61 leap59).net.mapValid = true ∧
      ((s.retarget true (lineSet p)).setUtc offset known leap61 leap59).net.off = (lineSet p s.net).off ∧
      ((s.retarget true (lineSet p)).setUtc offset known leap61 leap59).net.ref = (lineSet p s.net).ref ∧
      ((s.retarget true (lineSet p)).setUtc offset known leap61 leap59).net.rate = 0 ∧
      ((s.retarget true (lineSet p)).setUtc offset known leap61 leap59).net.diff = 0 ∧
      ((s.retarget true (lineSet p)).setUtc offset known leap61 leap59).net.ring = false ∧
      ((s.retarget true (lineSet p)).setUtc offset known leap61 leap59).net.utcOffset = offset ∧
      ((s.retarget true (lineSet p)).setUtc offset known leap61 leap59).net.utcKnown = known) := by
  obtain ⟨hvalid, hoff, href, hrate, hdiff, hring, hutc, hknown⟩ := setUtc_line (s.retarget true (lineSet p)) offset known leap61 leap59
  obtain ⟨k, b, hset⟩ := retarget_atOnce s (lineSet p)
  rw [hset] at hvalid hoff href hrate hdiff hring
  exact ⟨hvalid, hoff, href, hrate, hdiff, hring, hutc, hknown⟩

/-- R476: the settings stand once the source is selected, and the host's line is the mapping at once. -/
theorem domainSelected_spec (p : Packet) (source : Nat) (s : State) : Mapped s (domainSelected p source s) ∧
    (source = 2 → (domainSelected p source s).net.mapValid = true ∧ (domainSelected p source s).net.off = (lineSet p s.net).off ∧
      (domainSelected p source s).net.ref = (lineSet p s.net).ref ∧ (domainSelected p source s).net.rate = 0 ∧
      (domainSelected p source s).net.diff = 0 ∧ (domainSelected p source s).net.ring = false ∧
      (domainSelected p source s).net.utcOffset = signed 16 (field (p.w 6) 0 16) ∧ (domainSelected p source s).net.utcKnown = bit (p.w 6) 18) ∧
    (source = 3 → (domainSelected p source s).net.mapValid = (s.net.mapValid && s.net.ring)) := by
  unfold domainSelected
  split
  · rename_i hhost
    refine ⟨(Mapped.retarget (mapSettings_lineSet p) s true).trans (Mapped.setUtc _ _ _ _ _), fun _ => lineSelected_spec p s _ _ _ _, ?_⟩
    rintro rfl
    cases hhost
  · rename_i hhost
    split
    · rename_i htrack
      exact ⟨Mapped.onLocked s source, fun h => absurd h hhost, fun h => absurd htrack (by omega)⟩
    · exact ⟨⟨rfl, rfl, rfl⟩, fun h => absurd h hhost, fun _ => rfl⟩

end Mapping

/-- Settles O31: ports, tracks and the transport stand as written; the source by `domainSelected_spec`; the queue from its front. -/
theorem timeCommands : Obligations.TimeCommands := by
  refine ⟨fun p s hports htracks => ⟨fun h hlen hres hres2 hprefix n hn => ?port,
      fun h hlen hres hlock hlock' hdomain hdelay hdelay' htimeout htimeout' hsync hset hmode k o hk ho => ?ptp,
      fun h n hn hmin hmax hlen hres h0 h319 h320 hallow hmode => ?udp⟩,
    fun p s => ⟨fun h hlen hres hres6 hslew hslew' hsteer hsteer' hstep source hsource => ?domain, fun h hlen hres n most q hn hmost hq => ?queue⟩⟩
  case port =>
    have formed := cmdTimePortConfig_formed (s := s) hlen hres hres2 hprefix hn
    refine ⟨fun hconf hready => command_done (body := cmdTimePortConfig) h ?_, fun hmode => ⟨fun hudp hbit hring hchange => ?_, fun hfree => ?_⟩⟩
    · rw [formed, timeModeBad, decide_eq_true hconf, decide_eq_true hready]
      rfl
    all_goals
      have accepted : timeModeBad s = false := by
        rcases hmode with hmode | hmode
        · simp [timeModeBad, hmode]
        · simp [timeModeBad, hmode]
      rw [accepted, checked_cons_false] at formed
    · refine command_done (body := cmdTimePortConfig) h ?_
      have change : (!bit (p.w 0) 1 || (portOf s n).ipv4 ≠ p.w 3) = true := by simpa using hchange
      rw [formed, hudp, hbit, hring, change]
      rfl
    · have free : (s.net.udpEnabled && bit s.net.udpPorts n && udpRing s && (!bit (p.w 0) 1 || (portOf s n).ipv4 ≠ p.w 3)) = false := by
        rcases hfree with hfree | hfree | hfree | ⟨hen, hip⟩
        · simp [hfree]
        · simp [hfree]
        · simp [hfree]
        · simp [hen, hip]
      rw [free, checked_cons_false, checked_nil] at formed
      refine ⟨_, command_done (body := cmdTimePortConfig) h formed, rfl, ?_⟩
      rw [portOf_modPort hports, if_pos rfl]
      exact ⟨rfl, rfl, rfl, congrArg (p.w 1 + ·) (Nat.mul_comm _ _), rfl, rfl, rfl, rfl, rfl, rfl, rfl, rfl, rfl,
        fun m hm => by rw [portOf_modPort hports, if_neg hm], rfl⟩
  case ptp =>
    have formed := cmdTimePtpConfig_formed (s := s) hlen hres hlock hlock' hdomain hdelay hdelay' htimeout htimeout' hsync hset hk
    have accepted : timeModeBad s = false := by
      rcases hmode with hmode | hmode
      · simp [timeModeBad, hmode]
      · simp [timeModeBad, hmode]
    rw [accepted, checked_cons_false, ← ho] at formed
    refine ⟨fun hen hudp hmissing => command_done (body := cmdTimePtpConfig) h ?_,
      fun hen hudp hother hdom hcommon => command_done (body := cmdTimePtpConfig) h ?_,
      fun hgood => ?_⟩
    · rw [formed, hen, hudp, addressMissing_iff.mpr hmissing]
      rfl
    · have clash : tracksClash p o = true := by simp [tracksClash, hen, hother, hdom, hcommon]
      rw [formed, hudp, clash, Bool.and_false]
      rfl
    · have good : (bit (p.w 0) 1 && bit (p.w 0) 4 && addressMissing s (field (p.w 0) 2 2)) = false ∧ tracksClash p o = false := by
        rcases hgood with hoff | ⟨haddr, hapart⟩
        · simp [tracksClash, hoff]
        · refine ⟨?_, ?_⟩
          · cases hudp : bit (p.w 0) 4 with
            | false => simp
            | true => rw [addressMissing_eq_false (haddr hudp), Bool.and_false]
          · rcases hapart with hapart | hapart | hapart
            · simp [tracksClash, hapart]
            · simp [tracksClash, hapart]
            · simp [tracksClash, hapart]
      rw [good.1, good.2, checked_cons_false, checked_cons_false, checked_nil] at formed
      refine ⟨_, command_done (body := cmdTimePtpConfig) h formed, rfl, ?_⟩
      rw [trackOf_modTrack htracks, if_pos rfl]
      exact ⟨rfl, rfl, rfl, rfl, rfl, rfl, rfl, rfl, rfl, fun j hj => by rw [trackOf_modTrack htracks, if_neg hj], rfl⟩
  case udp =>
    have formed := cmdTimeUdpConfig_formed (s := s) hn hmin hmax hlen hres h0 h319 h320 hallow
    have accepted : timeModeBad s = false := by
      rcases hmode with hmode | hmode
      · simp [timeModeBad, hmode]
      · simp [timeModeBad, hmode]
    rw [accepted, checked_cons_false] at formed
    refine ⟨fun hen hmissing => command_done (body := cmdTimeUdpConfig) h ?_, fun hoff hring hudp => command_done (body := cmdTimeUdpConfig) h ?_,
      fun haddr hfree => command_done (body := cmdTimeUdpConfig) h ?_⟩
    · rw [formed, hen, addressMissing_iff.mpr hmissing]
      rfl
    · rw [formed, hoff, hring, hudp]
      rfl
    · have addressed : (bit (p.w 0) 16 && addressMissing s (field (p.w 0) 17 2)) = false := by
        cases hen : bit (p.w 0) 16 with
        | false => rfl
        | true => rw [addressMissing_eq_false (haddr hen), Bool.and_false]
      have free : (udpRing s && s.net.udpEnabled && (!bit (p.w 0) 16 || (s.net.udpPorts &&& field (p.w 0) 17 2) ≠ s.net.udpPorts)) = false := by
        rcases hfree with hfree | hfree | ⟨hen, hports⟩
        · simp [hfree]
        · simp [hfree]
        · simp [hen, hports]
      rw [formed, addressed, free, checked_cons_false, checked_cons_false, checked_nil]
  case domain =>
    have formed := cmdTimeDomainSelect_formed (s := s) hlen hres hres6 hslew hslew' hsteer hsteer' hstep hsource
    refine ⟨fun hring hoff => command_done (body := cmdTimeDomainSelect) h ?_, fun htrack hzero hlock => command_done (body := cmdTimeDomainSelect) h ?_,
      fun hhost hset hup => command_done (body := cmdTimeDomainSelect) h ?_, fun hfree hgood => ?_⟩
    · subst hring
      rw [formed, hoff]
      simp
    · have other : source ≠ 3 := by omega
      rw [formed, line_zero hlen hzero, beq_false_of_ne other, decide_eq_true htrack, decide_eq_true hlock, Bool.and_false]
      rfl
    · have set : (bit (p.w 0) 3 || bit (p.w 0) 4) = true := by simpa using hset
      subst hhost
      rw [formed, set, hup]
      rfl
    · have named : ((!(source == 2) && (p.params.drop 2).any (· ≠ 0)) || (source == 3 && !s.drove.cfg.upEn)) = false ∧
          (decide (source < 2) && decide ((trackOf s source).state ≠ .locked)) = false := by
        rcases hgood with rfl | ⟨htrack, hzero, hlock⟩ | ⟨rfl, hzero, hup⟩
        · exact ⟨rfl, rfl⟩
        · have other : source ≠ 3 := by omega
          simp only [line_zero hlen hzero, hlock, beq_false_of_ne other]
          simp
        · rw [line_zero hlen hzero, hup]
          exact ⟨rfl, rfl⟩
      have free : ((bit (p.w 0) 3 || bit (p.w 0) 4) && s.drove.cfg.upEn) = false := by
        rcases hfree with ⟨h3, h4⟩ | hup
        · rw [h3, h4]; rfl
        · rw [hup, Bool.and_false]
      rw [named.1, named.2, free, checked_cons_false, checked_cons_false, checked_cons_false, checked_nil] at formed
      obtain ⟨⟨hmem, hdev, hstand⟩, hline, hring⟩ := domainSelected_spec p source (s.modNet (domainSet p))
      simp only [mapSettings, Prod.mk.injEq] at hstand
      obtain ⟨h1, h2, h3, h4, h5, h6, h7, h8⟩ := hstand
      exact ⟨_, command_done (body := cmdTimeDomainSelect) h formed, h1.trans hsource.symm, h2, h3, h4, h5, h6, h7, h8, hline, hring, hmem, hdev⟩
  case queue =>
    have formed := cmdTimeTsQueueRead_formed (s := s) hlen hres hn hmost
    refine ⟨fun hbad => command_done (body := cmdTimeTsQueueRead) h ?_, fun hmin hmax => ?_⟩
    · have bad : (most == 0 || decide (16 < most)) = true := by simpa using hbad
      rw [formed, bad, checked_cons_true]
    · have good : (most == 0 || decide (16 < most)) = false := by
        rw [beq_false_of_ne (by omega), decide_eq_false (Nat.not_lt.mpr hmax)]
        rfl
      rw [good, checked_cons_false, checked_nil, ← hq] at formed
      refine ⟨_, command_done (body := cmdTimeTsQueueRead) h formed, ?_, queueWords_length most q⟩
      rw [queueWords, List.getD_cons_zero, List.length_take]

end Sys2Proof.Machine
end
section
/-! What a fault report and what follows from it leave as it was (16 R566–R571), and what the axes' stop does (07 R257). -/

namespace Sys2Proof.Machine

variable {s t u : State}

/-- `t` is `s` but for what a fault report moves: records, the queue of faults, the mode with its notice, and the wish to give the pair up. -/
def Reacted (s t : State) : Prop :=
  t = { s with
    outbox := t.outbox, fresh := t.fresh, tally := t.tally, flt := t.flt, host := { s.host with pending := t.host.pending }
    pair := { s.pair with giveUp := t.pair.giveUp }
    dev := { s.dev with
      mode := t.dev.mode, modeRequest := t.dev.modeRequest, stopPending := t.dev.stopPending, safeEntryDue := t.dev.safeEntryDue
      safeCause := t.dev.safeCause } }

namespace Reacted

theorem refl (s : State) : Reacted s s := rfl

theorem trans (h : Reacted s t) (h' : Reacted t u) : Reacted s u := by
  unfold Reacted at h h' ⊢
  rw [h', h]

theorem isl_eq (h : Reacted s t) : t.isl = s.isl := by unfold Reacted at h; rw [h]
theorem boot_eq (h : Reacted s t) : t.boot = s.boot := by unfold Reacted at h; rw [h]
theorem mem_eq (h : Reacted s t) : t.mem = s.mem := by unfold Reacted at h; rw [h]
theorem now_eq (h : Reacted s t) : t.now = s.now := by unfold Reacted at h; rw [h]

theorem modFlt (s : State) (f : FaultUnit → FaultUnit) : Reacted s (s.modFlt f) := rfl

theorem note (s : State) (r : TallyRec) : Reacted s (s.note r) := by
  obtain ⟨y, noted⟩ := s.note_eq r
  rw [noted]
  rfl

theorem recordOpen (s : State) (unit ev sev : Nat) (transient : Bool) : Reacted s (s.recordOpen unit ev sev transient) := by
  obtain ⟨n, y, recorded⟩ := s.recordOpen_eq unit ev sev transient
  rw [recorded]
  rfl

theorem sendVector (s : State) (v : Nat) : Reacted s (s.sendVector v) := by
  obtain ⟨q, o, sent⟩ := s.sendVector_eq v
  rw [sent]
  rfl

theorem setMode (s : State) (m : Mode) : Reacted s (s.setMode m) := by
  unfold State.setMode
  split
  · exact refl s
  · exact trans (t := s.modDev fun d => { d with mode := m }) rfl (sendVector _ 0)

theorem enterSafe (s : State) (cause : Nat) : Reacted s (s.enterSafe cause) := by
  unfold State.enterSafe
  split
  · exact refl s
  · exact trans (t := s.modDev fun d => { d with modeRequest := none, stopPending := false, safeEntryDue := true, safeCause := cause }) rfl (setMode _ .safe)

theorem askGiveUp (s : State) (g : GiveUp) : Reacted s (s.askGiveUp g) := by
  unfold State.askGiveUp
  split
  · exact rfl
  · exact refl s

theorem react (s : State) (f : Fault566) : Reacted s (s.react f) := by
  unfold State.react
  extract_lets s₁
  have asked : Reacted s s₁ := by
    simp only [s₁]
    split
    · exact askGiveUp s _
    · exact refl s
  split
  · split
    · exact asked.trans rfl
    · exact asked
  · exact asked.trans (enterSafe s₁ _)
  · exact asked

theorem takeUp (fuel : Nat) : ∀ s : State, Reacted s (takeUp fuel s) := by
  induction fuel with
  | zero => exact refl
  | succ fuel ih =>
    intro s
    unfold Machine.takeUp
    split
    · exact refl s
    · split
      · exact refl s
      · rename_i f r _
        extract_lets s₁
        have reacted : Reacted s s₁ := (modFlt s _).trans (react _ f)
        split
        · exact (reacted.trans (modFlt s₁ _)).trans (ih _)
        · exact reacted

theorem preempt (s : State) (f : Fault566) : Reacted s (s.preempt f) := by
  unfold State.preempt
  extract_lets s₁ s₂
  have waited : Reacted s s₁ := by
    simp only [s₁]
    split
    · exact modFlt s _
    · exact refl s
  have reacted : Reacted s s₂ := (waited.trans (modFlt s₁ _)).trans (react _ f)
  split
  · exact (reacted.trans (modFlt s₂ _)).trans (takeUp 18 _)
  · exact reacted

theorem queueOverflow (s : State) : Reacted s s.queueOverflow := by
  unfold State.queueOverflow
  extract_lets f s₁ s₂
  have overflowed : Reacted s s₂ := by
    refine trans (t := s₁) (note s _) ?_
    simp only [s₂]
    split
    · split
      · exact refl s₁
      · exact preempt s₁ f
    · exact preempt s₁ f
  exact overflowed.trans rfl

theorem reportFault (s : State) (unit code sev detail : Nat) (continuing : Bool) : Reacted s (s.reportFault unit code sev detail continuing) := by
  unfold State.reportFault
  extract_lets s₁ s₂ f same
  have noted : Reacted s s₂ := by
    refine trans (t := s₁) (note s _) ?_
    simp only [s₂]
    split
    · exact modFlt s₁ _
    · exact refl s₁
  split
  · exact noted.trans (modFlt s₂ _)
  · split
    · exact (noted.trans (modFlt s₂ _)).trans (queueOverflow _)
    · split
      · exact noted.trans (preempt s₂ f)
      · split
        · exact noted.trans (preempt s₂ f)
        · exact noted.trans (modFlt s₂ _)

theorem reportOpen (s : State) (unit ev sev : Nat) (continuing : Bool) : Reacted s (s.reportOpen unit ev sev continuing) :=
  trans (t := s.takeFree.2) rfl (reportFault _ _ _ _ _ _)

end Reacted

/-- Once the device is to enter SAFE it is there (R112). -/
theorem enterSafe_mode (s : State) (cause : Nat) : (s.enterSafe cause).dev.mode = .safe := by
  have set (s : State) (m : Mode) : (s.setMode m).dev.mode = m := by
    unfold State.setMode
    split
    · assumption
    · obtain ⟨q, o, sent⟩ := (s.modDev fun d => { d with mode := m }).sendVector_eq 0
      rw [sent]
      rfl
  unfold State.enterSafe
  split
  · assumption
  · exact set _ .safe

/-- `t` is `s` but for the axes, what they publish, and the faults that they report. -/
def AxesMoved (s t : State) : Prop := Reacted { s with axis := t.axis, acq := t.acq } t

namespace AxesMoved

theorem of_reacted (h : Reacted s t) : AxesMoved s t := by
  unfold AxesMoved Reacted at *
  rw [h]

theorem refl (s : State) : AxesMoved s s := of_reacted (Reacted.refl s)

theorem trans (h : AxesMoved s t) (h' : AxesMoved t u) : AxesMoved s u := by
  unfold AxesMoved Reacted at *
  rw [h', h]

theorem isl_eq (h : AxesMoved s t) : t.isl = s.isl := by unfold AxesMoved Reacted at h; rw [h]
theorem boot_eq (h : AxesMoved s t) : t.boot = s.boot := by unfold AxesMoved Reacted at h; rw [h]
theorem now_eq (h : AxesMoved s t) : t.now = s.now := by unfold AxesMoved Reacted at h; rw [h]

theorem foldl {α : Type} {f : State → α → State} (hf : ∀ s a, AxesMoved s (f s a)) : ∀ (l : List α) (s : State), AxesMoved s (l.foldl f s)
  | [], s => refl s
  | a :: l, s => (hf s a).trans (foldl hf l (f s a))

theorem modCh (s : State) (n : Nat) (f : AxisCh → AxisCh) : AxesMoved s (s.modCh n f) := rfl

theorem publishAt (s : State) (entry stamp value : Nat) : AxesMoved s (s.publishAt entry stamp value) := by
  unfold State.publishAt
  extract_lets s₁
  split
  · rfl
  · rfl

theorem runPulse (s : State) (n : Nat) : AxesMoved s (s.runPulse n) := by
  unfold State.runPulse
  split
  · exact modCh s n _
  · exact refl s

theorem segFaultNow (s : State) (n : Nat) : AxesMoved s (s.segFaultNow n) := by
  unfold State.segFaultNow
  exact ((runPulse s n).trans (modCh _ n _)).trans (of_reacted (Reacted.reportOpen _ 6 23 1 false))

theorem axisAdvance (s : State) (n : Nat) : AxesMoved s (s.axisAdvance n) := by
  unfold State.axisAdvance
  extract_lets c a rest s₁ s₂
  have marked : AxesMoved s s₂ := (modCh s n _).trans (foldl (fun s t => (modCh s n _).trans (publishAt _ _ _ _)) a.marks s₁)
  split
  · exact marked.trans (segFaultNow s₂ n)
  · exact marked

theorem axisUndoStart (s : State) (n : Nat) : AxesMoved s (s.axisUndoStart n) := modCh s n _

theorem axisFault (s : State) (n cause : Nat) : AxesMoved s (s.axisFault n cause) := by
  unfold State.axisFault
  split
  · exact refl s
  · exact (modCh s n _).trans (of_reacted (Reacted.reportOpen _ 6 23 1 false))

theorem axisImmediate (s : State) (n : Nat) : AxesMoved s (s.axisImmediate n) := by
  unfold State.axisImmediate State.axisImmediateAt
  exact (runPulse s n).trans (modCh _ n _)

theorem axisFail (s : State) (n cause : Nat) (immediate : Bool) : AxesMoved s (s.axisFail n cause immediate) := by
  unfold State.axisFail
  extract_lets s₁ t
  have failed : AxesMoved s s₁ := (axisFault s n cause).trans (runPulse _ n)
  split
  · exact refl s
  · split
    · exact failed.trans (axisImmediate s₁ n)
    · exact failed.trans (modCh s₁ n _)

theorem axisSto (pairs : Nat) (s : State) : AxesMoved s (axisSto pairs s) := by
  unfold Machine.axisSto
  refine foldl (fun s n => ?_) _ s
  split
  · exact refl s
  · extract_lets s₁
    have stopped : AxesMoved s s₁ := (axisAdvance s n).trans (axisUndoStart _ n)
    split
    · exact stopped.trans (axisFail s₁ n 5 true)
    · exact stopped

end AxesMoved

end Sys2Proof.Machine
end
section
/-! The stop of the safety island (14 R494–R498), and the SAFE commands (14 R486, R493, R510–R516). -/

namespace Sys2Proof.Machine

section Stops

variable {s t u : State} {n p m mask cause : Nat} {immediate : Bool}

theorem pairOf_modPairSto {f : StoPair → StoPair} (hwf : Tab.wf {} s.isl.pairs) (m : Nat) :
    pairOf (s.modPairSto p f) m = if m = p then f (pairOf s m) else pairOf s m := look_upd f p m hwf

theorem mem_bitsOf_iff {x : Nat} : p ∈ bitsOf n x ↔ p < n ∧ bit x p = true := by simp [bitsOf]

theorem bitsOf_nodup (n x : Nat) : (bitsOf n x).Nodup := List.nodup_range.filter _

theorem bit_maskOf (l : List Nat) (j : Nat) : bit (maskOf l) j = decide (j ∈ l) := by rw [bit_eq_testBit, testBit_maskOf]

theorem bit_setBit (w i j : Nat) (b : Bool) : bit (setBit w i b) j = if j = i then b else bit w j := by
  rw [bit_eq_testBit, testBit_setBit, ← bit_eq_testBit]

/-- `t` is `s` but for the pairs of the island and what goes with their stop. -/
def PairsStopped (s t : State) : Prop :=
  t = s.modIsl fun u => { u with
    pairs := t.isl.pairs, inStop := t.isl.inStop, stopCause := t.isl.stopCause, counters := t.isl.counters, sbcHeld := t.isl.sbcHeld
    ss1Req := t.isl.ss1Req }

namespace PairsStopped

theorem refl (s : State) : PairsStopped s s := rfl

theorem trans (h : PairsStopped s t) (h' : PairsStopped t u) : PairsStopped s u := by
  unfold PairsStopped at *
  rw [h', h]
  rfl

theorem now_eq (h : PairsStopped s t) : t.now = s.now := by unfold PairsStopped at h; rw [h]; rfl
theorem boot_eq (h : PairsStopped s t) : t.boot = s.boot := by unfold PairsStopped at h; rw [h]; rfl
theorem dev_eq (h : PairsStopped s t) : t.dev = s.dev := by unfold PairsStopped at h; rw [h]; rfl
theorem params_eq (h : PairsStopped s t) : t.isl.params = s.isl.params := by unfold PairsStopped at h; rw [h]; rfl
theorem state_eq (h : PairsStopped s t) : t.isl.state = s.isl.state := by unfold PairsStopped at h; rw [h]; rfl

/-- The speed of a pair is that of its encoder (R496). -/
theorem pairSpeed_eq (h : PairsStopped s t) (p : Nat) : pairSpeed t p = pairSpeed s p := by unfold PairsStopped at h; rw [h]; rfl

theorem mode_eq (h : PairsStopped s t) (p : Nat) : t.isl.mode p = s.isl.mode p := by
  rw [SafeUnit.mode, SafeUnit.mode, SafeUnit.w, SafeUnit.w, h.params_eq]

end PairsStopped

/-- A pair whose SS1 begins (R496). -/
def ramped (s : State) (cause p : Nat) (k : StoPair) : StoPair :=
  { k with
    state := .ss1, ss1At := s.now, checks := 0, v0 := pairSpeed s p, hwFrom := if cause = 1 then k.hwFrom else k.hwFrom.or (some s.now) }

/-- A pair whose torque goes (R495). -/
def dropped (s : State) (cause : Nat) (k : StoPair) : StoPair :=
  { k with state := .torqueOff, stoA := false, stoB := false, offCause := cause, offAt := s.now }

theorem pairSs1_spec (hwf : Tab.wf {} s.isl.pairs) : PairsStopped s (s.pairSs1 p cause) ∧ Tab.wf {} (s.pairSs1 p cause).isl.pairs ∧
    (s.pairSs1 p cause).isl.inStop = s.isl.inStop ∧ (s.pairSs1 p cause).isl.stopCause = s.isl.stopCause ∧
    (∀ m, pairOf (s.pairSs1 p cause) m = if m = p then ramped s cause m (pairOf s m) else pairOf s m) ∧
    ∀ m, bit (s.pairSs1 p cause).isl.ss1Req m = if m = p then true else bit s.isl.ss1Req m := by
  refine ⟨rfl, upd_wf p (ramped s cause p) hwf, rfl, rfl, fun m => ?_, fun m => bit_setBit _ _ _ _⟩
  refine (look_upd (ramped s cause p) p m hwf).trans ?_
  split
  · rename_i hm
    rw [hm]
    rfl
  · rfl

theorem pairOff_spec (hwf : Tab.wf {} s.isl.pairs) : PairsStopped s (s.pairOff p cause) ∧ Tab.wf {} (s.pairOff p cause).isl.pairs ∧
    (s.pairOff p cause).isl.inStop = s.isl.inStop ∧ (s.pairOff p cause).isl.stopCause = s.isl.stopCause ∧
    (s.pairOff p cause).isl.ss1Req = s.isl.ss1Req ∧
    ∀ m, pairOf (s.pairOff p cause) m = if m = p then dropped s cause (pairOf s m) else pairOf s m := by
  have held (f : Nat → SafeUnit → Nat) (l : List Nat) : ∀ s : State,
      PairsStopped s (l.foldl (fun s o => s.modIsl fun u => { u with sbcHeld := f o u }) s) ∧
      (l.foldl (fun s o => s.modIsl fun u => { u with sbcHeld := f o u }) s).isl.pairs = s.isl.pairs ∧
      (l.foldl (fun s o => s.modIsl fun u => { u with sbcHeld := f o u }) s).isl.inStop = s.isl.inStop ∧
      (l.foldl (fun s o => s.modIsl fun u => { u with sbcHeld := f o u }) s).isl.stopCause = s.isl.stopCause ∧
      (l.foldl (fun s o => s.modIsl fun u => { u with sbcHeld := f o u }) s).isl.ss1Req = s.isl.ss1Req := by
    induction l with
    | nil => exact fun s => ⟨PairsStopped.refl s, rfl, rfl, rfl, rfl⟩
    | cons o l ih =>
      intro s
      obtain ⟨hshape, hrest⟩ := ih (s.modIsl fun u => { u with sbcHeld := f o u })
      exact ⟨PairsStopped.trans (t := s.modIsl fun u => { u with sbcHeld := f o u }) rfl hshape, hrest⟩
  obtain ⟨hshape, hpairs, hstop, hcause, hreq⟩ := held (fun o u => setBit u.sbcHeld o (cause ≠ 8 && cause ≠ 9 && u.sbcDelayMs o ≠ 0))
    (sbcOutputs (s.modPairSto p (dropped s cause)) p) (s.modPairSto p (dropped s cause))
  refine ⟨PairsStopped.trans (t := s.modPairSto p (dropped s cause)) rfl hshape, ?_, hstop, hcause, hreq, fun m => ?_⟩
  · exact hpairs ▸ upd_wf p (dropped s cause) hwf
  · exact (congrArg (look {} · m) hpairs).trans (look_upd (dropped s cause) p m hwf)

theorem pairsSs1_spec (l : List Nat) : ∀ s : State, l.Nodup → Tab.wf {} s.isl.pairs →
    PairsStopped s (l.foldl (fun s p => s.pairSs1 p cause) s) ∧ Tab.wf {} (l.foldl (fun s p => s.pairSs1 p cause) s).isl.pairs ∧
    (l.foldl (fun s p => s.pairSs1 p cause) s).isl.inStop = s.isl.inStop ∧
    (l.foldl (fun s p => s.pairSs1 p cause) s).isl.stopCause = s.isl.stopCause ∧
    (∀ m, pairOf (l.foldl (fun s p => s.pairSs1 p cause) s) m = if m ∈ l then ramped s cause m (pairOf s m) else pairOf s m) ∧
    ∀ m, bit (l.foldl (fun s p => s.pairSs1 p cause) s).isl.ss1Req m = if m ∈ l then true else bit s.isl.ss1Req m := by
  induction l with
  | nil => exact fun s _ hwf => ⟨PairsStopped.refl s, hwf, rfl, rfl, fun m => rfl, fun m => rfl⟩
  | cons p l ih =>
    intro s hnodup hwf
    obtain ⟨hp, hnodup⟩ := List.nodup_cons.mp hnodup
    obtain ⟨hfirst, hwf', hstop, hcause, hpair, hreq⟩ := pairSs1_spec (p := p) (cause := cause) hwf
    obtain ⟨hrest, hwf'', hstops, hcauses, hpairs, hreqs⟩ := ih (s.pairSs1 p cause) hnodup hwf'
    refine ⟨hfirst.trans hrest, hwf'', hstops.trans hstop, hcauses.trans hcause, fun m => ?_, fun m => ?_⟩
    · rw [List.foldl_cons, hpairs, hpair]
      by_cases hm : m = p
      · simp [hm, hp]
      · simp only [hm, if_false, List.mem_cons, false_or, ramped, hfirst.now_eq, hfirst.pairSpeed_eq]
    · rw [List.foldl_cons, hreqs, hreq]
      by_cases hm : m = p
      · simp [hm]
      · simp [hm]

theorem pairsOff_spec (l : List Nat) : ∀ s : State, l.Nodup → Tab.wf {} s.isl.pairs →
    PairsStopped s (l.foldl (fun s p => s.pairOff p cause) s) ∧ Tab.wf {} (l.foldl (fun s p => s.pairOff p cause) s).isl.pairs ∧
    (l.foldl (fun s p => s.pairOff p cause) s).isl.inStop = s.isl.inStop ∧
    (l.foldl (fun s p => s.pairOff p cause) s).isl.stopCause = s.isl.stopCause ∧
    (l.foldl (fun s p => s.pairOff p cause) s).isl.ss1Req = s.isl.ss1Req ∧
    ∀ m, pairOf (l.foldl (fun s p => s.pairOff p cause) s) m = if m ∈ l then dropped s cause (pairOf s m) else pairOf s m := by
  induction l with
  | nil => exact fun s _ hwf => ⟨PairsStopped.refl s, hwf, rfl, rfl, rfl, fun m => rfl⟩
  | cons p l ih =>
    intro s hnodup hwf
    obtain ⟨hp, hnodup⟩ := List.nodup_cons.mp hnodup
    obtain ⟨hfirst, hwf', hstop, hcause, hreq, hpair⟩ := pairOff_spec (p := p) (cause := cause) hwf
    obtain ⟨hrest, hwf'', hstops, hcauses, hreqs, hpairs⟩ := ih (s.pairOff p cause) hnodup hwf'
    refine ⟨hfirst.trans hrest, hwf'', hstops.trans hstop, hcauses.trans hcause, hreqs.trans hreq, fun m => ?_⟩
    rw [List.foldl_cons, hpairs, hpair]
    by_cases hm : m = p
    · simp [hm, hp]
    · simp only [hm, if_false, List.mem_cons, false_or, dropped, hfirst.now_eq]

/-- R498: switched outputs stop the axes of their pairs, and the device, where it hears of it, enters SAFE. -/
theorem stoSwitched_spec (s : State) (mask : Nat) : AxesMoved s (s.stoSwitched mask) ∧
    (mask ≠ 0 → deviceHears s = true → (s.stoSwitched mask).dev.mode = .safe) := by
  unfold State.stoSwitched
  split
  · rename_i hmask
    exact ⟨AxesMoved.refl s, fun h => absurd hmask h⟩
  · extract_lets s₁
    have moved : AxesMoved s s₁ := AxesMoved.axisSto mask s
    have heard : deviceHears s₁ = deviceHears s := congrArg (fun b : BootUnit => b.phase == .running) moved.boot_eq
    split
    · exact ⟨moved.trans (AxesMoved.of_reacted (Reacted.enterSafe s₁ 1)), fun _ _ => enterSafe_mode s₁ 1⟩
    · rename_i hdeaf
      exact ⟨moved, fun _ h => absurd (heard.trans h) hdeaf⟩

/-- A pair is named by a stop and has torque (R494). -/
def Stops (s : State) (mask n : Nat) : Prop := n < 8 ∧ bit mask n = true ∧ pairLive s n = true

/-- R494–R496: what a stop of the island does. -/
structure StopDone (s : State) (mask cause : Nat) (immediate : Bool) (u : State) : Prop where
  shape : ∃ v, PairsStopped s v ∧ AxesMoved v u
  off : ∀ n, Stops s mask n → immediate = true ∨ s.isl.mode n = 0 → pairOf u n = dropped s cause (pairOf s n)
  ramp : ∀ n, Stops s mask n → immediate = false → s.isl.mode n ≠ 0 → (pairOf s n).state = .enabled →
    pairOf u n = ramped s cause n (pairOf s n) ∧ bit u.isl.ss1Req n = true
  others : ∀ n, ¬ Stops s mask n → pairOf u n = pairOf s n
  inStop : ∀ n, Stops s mask n → immediate = true ∨ s.isl.mode n = 0 ∨ (pairOf s n).state = .enabled → u.isl.inStop = true ∧ u.isl.stopCause = cause
  safe : ∀ n, Stops s mask n → immediate = true ∨ s.isl.mode n = 0 → deviceHears s = true → u.dev.mode = .safe

theorem islandStop_done (hwf : Tab.wf {} s.isl.pairs) (hready : s.isl.state = .ready) :
    StopDone s mask cause immediate (s.islandStop mask cause immediate) := by
  have named : ∀ n, n ∈ (bitsOf 8 mask).filter (pairLive s) ↔ Stops s mask n := by
    intro n
    rw [List.mem_filter, mem_bitsOf_iff, Stops, and_assoc]
  unfold State.islandStop
  extract_lets live off ramp s₁ s₂ s₃ s₄
  have hoff : ∀ n, n ∈ off ↔ Stops s mask n ∧ (immediate = true ∨ s.isl.mode n = 0) := by
    intro n
    rw [List.mem_filter, named, Bool.or_eq_true, beq_iff_eq]
  have hramp : ∀ n, n ∈ ramp ↔ Stops s mask n ∧ (immediate = false ∧ s.isl.mode n ≠ 0) ∧ (pairOf s n).state = .enabled := by
    intro n
    simp only [ramp, List.mem_filter, live, named, Bool.and_eq_true, Bool.not_eq_true', Bool.or_eq_false_iff, beq_eq_false_iff_ne, beq_iff_eq]
  have idle (hno : ∀ n, Stops s mask n → ¬ (immediate = true ∨ s.isl.mode n = 0) ∧ (pairOf s n).state ≠ .enabled) :
      StopDone s mask cause immediate s :=
    ⟨⟨s, PairsStopped.refl s, AxesMoved.refl s⟩, fun n hn hnow => absurd hnow (hno n hn).1, fun n hn _ _ hen => absurd hen (hno n hn).2, fun _ _ => rfl,
      fun n hn hnow => absurd (hnow.imp_right id) (by have := hno n hn; tauto), fun n hn hnow => absurd hnow (hno n hn).1⟩
  split
  · rename_i hnone
    have none : live = [] := List.isEmpty_iff.mp (hnone.resolve_left (not_not.mpr hready))
    refine idle fun n hn => absurd ((named n).mpr hn) fun hmem => ?_
    have : n ∈ live := hmem
    rw [none] at this
    cases this
  · split
    · rename_i hnone
      refine idle fun n hn => ⟨fun hnow => ?_, fun hen => ?_⟩
      · exact List.not_mem_nil (List.isEmpty_iff.mp hnone.1 ▸ (hoff n).mpr ⟨hn, hnow⟩)
      · by_cases hnow : immediate = true ∨ s.isl.mode n = 0
        · exact List.not_mem_nil (List.isEmpty_iff.mp hnone.1 ▸ (hoff n).mpr ⟨hn, hnow⟩)
        · rw [not_or, Bool.not_eq_true] at hnow
          exact List.not_mem_nil (List.isEmpty_iff.mp hnone.2 ▸ (hramp n).mpr ⟨hn, hnow, hen⟩)
    · have counted : PairsStopped s s₁ ∧ s₁.isl.pairs = s.isl.pairs := by
        simp only [s₁]
        split
        · exact ⟨PairsStopped.refl s, rfl⟩
        · exact ⟨rfl, rfl⟩
      have begun : PairsStopped s s₂ := counted.1.trans rfl
      have same : s₂.isl.pairs = s.isl.pairs := counted.2
      have nodup (f : Nat → Bool) : (live.filter f).Nodup := ((bitsOf_nodup 8 mask).filter _).filter f
      obtain ⟨hramps, hwf₃, hstop₃, hcause₃, hpair₃, hreq₃⟩ := pairsSs1_spec (cause := cause) ramp s₂ (nodup _) (same ▸ hwf)
      obtain ⟨hoffs, hwf₄, hstop₄, hcause₄, hreq₄, hpair₄⟩ := pairsOff_spec (cause := cause) off s₃ (nodup _) hwf₃
      obtain ⟨hmoved, hsafe⟩ := stoSwitched_spec s₄ (maskOf off)
      have before : PairsStopped s s₄ := (begun.trans hramps).trans hoffs
      have pairs (m : Nat) : pairOf (s₄.stoSwitched (maskOf off)) m =
          if m ∈ off then dropped s cause (pairOf s m) else if m ∈ ramp then ramped s cause m (pairOf s m) else pairOf s m := by
        have apart : m ∈ off → m ∉ ramp := fun h h' => by
          have := ((hoff m).mp h).2
          have := ((hramp m).mp h').2.1
          simp_all
        have read : pairOf (s₄.stoSwitched (maskOf off)) m = pairOf s₄ m := by rw [pairOf, hmoved.isl_eq, pairOf]
        have first : pairOf s₂ m = pairOf s m := by rw [pairOf, same, pairOf]
        rw [read, hpair₄, hpair₃, first]
        by_cases hm : m ∈ off
        · simp only [hm, if_true, apart hm, if_false]
          rw [dropped, (begun.trans hramps).now_eq, dropped]
        · simp only [hm, if_false, ramped, begun.now_eq, begun.pairSpeed_eq]
      have stopped : (s₄.stoSwitched (maskOf off)).isl.inStop = true ∧ (s₄.stoSwitched (maskOf off)).isl.stopCause = cause := by
        rw [hmoved.isl_eq]
        exact ⟨hstop₄.trans hstop₃, hcause₄.trans hcause₃⟩
      refine ⟨⟨s₄, before, hmoved⟩, fun n hn hnow => ?_, fun n hn himm hmode hen => ⟨?_, ?_⟩, fun n hn => ?_, fun _ _ _ => stopped,
        fun n hn hnow hears => ?_⟩
      · rw [pairs, if_pos ((hoff n).mpr ⟨hn, hnow⟩)]
      · rw [pairs, if_neg fun h => by have := ((hoff n).mp h).2; simp_all, if_pos ((hramp n).mpr ⟨hn, ⟨himm, hmode⟩, hen⟩)]
      · rw [hmoved.isl_eq, hreq₄, hreq₃, if_pos ((hramp n).mpr ⟨hn, ⟨himm, hmode⟩, hen⟩)]
      · rw [pairs, if_neg fun h => hn ((hoff n).mp h).1, if_neg fun h => hn ((hramp n).mp h).1]
      · refine hsafe (fun hzero => ?_) ?_
        · have := bit_maskOf off n
          rw [hzero, decide_eq_true ((hoff n).mpr ⟨hn, hnow⟩)] at this
          simp [bit] at this
        · rw [deviceHears, before.boot_eq]
          exact hears

end Stops

section Commands

variable {p : Packet} {s u : State} {op : Op} {fault params : Bool} {r : State × Nat × List Word}

/-- What the island answers travels with the command (R510). -/
theorem islandRun_of_none (hnone : islandRefusal s fault params = none) :
    islandRun op p fault params s r = (r.1.defer op p (r.2.1 :: r.2.2.map BitVec.toNat)) := by
  rw [islandRun, hnone]
  rfl

theorem islandRun_of_some {st : Nat} (hsome : islandRefusal s fault params = some st) : islandRun op p fault params s r = s.defer op p [st] := by
  rw [islandRun, hsome]
  rfl

/-- R510: an island without supply, or that still starts, answers nothing itself. -/
theorem islandRefusal_noIsland (hnone : s.isl.powered = false ∨ s.isl.state = .start) (fault params : Bool) :
    islandRefusal s fault params = some stSfNoIsland := by
  have absent : (!s.isl.powered || s.isl.state == .start) = true := by
    rcases hnone with h | h
    · rw [h]; rfl
    · rw [h, Bool.or_eq_true]; exact Or.inr rfl
  simp only [islandRefusal, absent, if_true]

theorem islandRefusal_there (hpow : s.isl.powered = true) (hstart : s.isl.state ≠ .start) (hfault : fault = true → s.isl.state ≠ .fault) :
    islandRefusal s fault params = if params && s.isl.params.isEmpty then some stSfNoParams else none := by
  have fine : (fault && s.isl.state == .fault) = false := by
    cases fault with
    | false => rfl
    | true => exact beq_false_of_ne (hfault rfl)
  have there : (!s.isl.powered || s.isl.state == .start) = false := by rw [hpow, beq_false_of_ne hstart]; rfl
  simp only [islandRefusal, there, fine, Bool.false_eq_true, if_false]

/-- The stop that SAFE.STOP asks the island for (R512): the ENABLED pairs named, their hard-wired timers running. -/
theorem safeStopNow_done {w : Nat} {pairs : List Nat} (hwf : Tab.wf {} s.isl.pairs) (hready : s.isl.state = .ready)
    (hpairs : pairs = (bitsOf 8 (field w 0 8)).filter (fun n => (pairOf s n).state == .enabled)) :
    ∃ v, StopDone v (maskOf pairs) 3 (bit w 8) (safeStopNow w s) ∧ PairsStopped s v ∧ Tab.wf {} v.isl.pairs ∧
      (∀ n, pairOf v n = if n ∈ pairs then { pairOf s n with hwFrom := (pairOf s n).hwFrom.or (some s.now) } else pairOf s n) ∧
      ∀ n, Stops v (maskOf pairs) n ↔ n ∈ pairs := by
  let timed (s : State) (n : Nat) : State := s.modPairSto n fun k => { k with hwFrom := k.hwFrom.or (some s.now) }
  have fold (l : List Nat) : ∀ s : State, l.Nodup → Tab.wf {} s.isl.pairs → PairsStopped s (l.foldl timed s) ∧ Tab.wf {} (l.foldl timed s).isl.pairs ∧
      ∀ n, pairOf (l.foldl timed s) n = if n ∈ l then { pairOf s n with hwFrom := (pairOf s n).hwFrom.or (some s.now) } else pairOf s n := by
    induction l with
    | nil => exact fun s _ hwf => ⟨PairsStopped.refl s, hwf, fun n => rfl⟩
    | cons m l ih =>
      intro s hnodup hwf
      obtain ⟨hm, hnodup⟩ := List.nodup_cons.mp hnodup
      obtain ⟨hshape, hwf', hpair⟩ := ih (timed s m) hnodup (upd_wf m (fun k : StoPair => { k with hwFrom := k.hwFrom.or (some s.now) }) hwf)
      refine ⟨PairsStopped.trans (t := timed s m) rfl hshape, hwf', fun n => ?_⟩
      have first := pairOf_modPairSto (p := m) (f := fun k => { k with hwFrom := k.hwFrom.or (some s.now) }) hwf n
      rw [List.foldl_cons, hpair, show pairOf (timed s m) n = _ from first]
      by_cases hn : n = m
      · simp [hn, hm]
      · simp only [hn, if_false, List.mem_cons, false_or]
        rfl
  have nodup : pairs.Nodup := hpairs ▸ (bitsOf_nodup 8 _).filter _
  obtain ⟨hshape, hwf', hpair⟩ := fold pairs s nodup hwf
  have mem (n : Nat) : n ∈ pairs → n < 8 ∧ (pairOf s n).state = .enabled := fun hn => by
    rw [hpairs, List.mem_filter, mem_bitsOf_iff] at hn
    exact ⟨hn.1.1, eq_of_beq hn.2⟩
  have done := islandStop_done (s := pairs.foldl timed s) (mask := maskOf pairs) (cause := 3) (immediate := bit w 8) hwf' (hshape.state_eq.trans hready)
  refine ⟨pairs.foldl timed s, ?_, hshape, hwf', hpair, fun n => ⟨fun hn => ?_, fun hn => ⟨(mem n hn).1, ?_, ?_⟩⟩⟩
  · rw [safeStopNow, ← hpairs]
    exact done
  · have := hn.2.1
    rw [bit_maskOf] at this
    exact of_decide_eq_true this
  · rw [bit_maskOf]
    exact decide_eq_true hn
  · rw [pairLive, hpair, if_pos hn, Bool.or_eq_true]
    exact Or.inl (beq_iff_eq.mpr (mem n hn).2)

/-- R493: a parameter set taken: the pairs that it names are in TORQUE_OFF. -/
theorem acceptParams_spec (ws : List Word) (s : State) : s.acceptParams ws = s.modIsl (fun _ => (s.acceptParams ws).isl) ∧
    (s.acceptParams ws).isl.params = ws ∧ (s.acceptParams ws).isl.state = .ready ∧
    ∀ n < 8, bit (ws.getD (5 + 6 * n) 0).toNat 0 = true → (pairOf (s.acceptParams ws) n).state = .torqueOff := by
  refine ⟨rfl, rfl, rfl, fun n hn hbit => ?_⟩
  have found (v : StoPair) : ∀ l : List Nat, n ∈ l → look {} (l.map fun p => (p, v)) n = v := by
    intro l
    induction l with
    | nil => exact fun h => absurd h List.not_mem_nil
    | cons p l ih =>
      intro h
      rw [List.map_cons, look]
      split
      · rfl
      · rename_i hp
        exact ih ((List.mem_cons.mp h).resolve_left (Ne.symm hp))
  exact congrArg StoPair.state (found { state := .torqueOff, offAt := s.now } _ (List.mem_filter.mpr ⟨List.mem_range.mpr hn, hbit⟩))

/-- R511: the tests of SAFE.PARAM_LOAD in their order. -/
theorem paramLoad_eq {crc : Nat} (hcrc : crc = crc32 (p.params.take 69)) :
    paramLoad p.params s =
      if crc ≠ p.w 69 then (s, stSfCheck, [wd crc, wd 69])
      else if crc % 2 ^ 12 ≠ s.isl.swA / 16 ∨ crc % 2 ^ 12 ≠ s.isl.swB / 16 then (s, stSfSwitch, [wd crc, wd 69])
      else if p.params = s.isl.params then (s, stOk, [wd crc, wd 0xFFFF])
      else match paramBad p.w (field s.isl.swA 0 3) with
        | some i => (s, stSfParam, [wd crc, wd i])
        | none =>
          if (List.range 8).any (pairLive s) then (s, stSfTorque, [wd crc, wd 0xFFFF])
          else (s.acceptParams p.params, stOk, [wd crc, 0xFFFF]) := by
  subst hcrc
  rfl

/-- The answer of the island to SAFE.PARAM_LOAD (R511). -/
theorem cmdSafeParamLoad_formed (hlen : p.len = 70) (hpow : s.isl.powered = true) (hstart : s.isl.state ≠ .start) (hfault : s.isl.state ≠ .fault) :
    cmdSafeParamLoad p s = (paramLoad p.params s).1.defer .safeParamLoad p ((paramLoad p.params s).2.1 :: (paramLoad p.params s).2.2.map BitVec.toNat) := by
  rw [cmdSafeParamLoad, islandRun_of_none (islandRefusal_there hpow hstart fun _ => hfault), hlen]
  rfl

theorem cmdSafeMemRead_formed {first count : Nat} (hlen : p.len = 1) (hres : reservedSet (p.w 0) 0xFFFFC000 = false) (hfirst : first = field (p.w 0) 0 7)
    (hcount : count = field (p.w 0) 7 7) (hmin : 1 ≤ count) (hmax : first + count ≤ 70) :
    cmdSafeMemRead p s = islandRun .safeMemRead p false true s (s, stOk, (s.isl.params.drop first).take count) := by
  have h1 : decide (69 < first) = false := decide_eq_false (by omega)
  have h2 : (count == 0) = false := beq_false_of_ne (by omega)
  have h3 : decide (70 < first + count) = false := decide_eq_false (by omega)
  subst hfirst hcount
  simp only [cmdSafeMemRead, hlen, hres, h1, h2, h3]
  rfl

theorem cmdSafeStop_formed (hlen : p.len = 1) (hres : reservedSet (p.w 0) 0xFFFFFE00 = false) :
    cmdSafeStop p s = islandRun .safeStop p true true s (safeStopNow (p.w 0) s, stOk, []) := by
  simp only [cmdSafeStop, hlen, hres]
  rfl

end Commands

/-- Settles O32: what the island answers travels with the command; SAFE.STOP by `safeStopNow_done`, SAFE.PARAM_LOAD test by test. -/
theorem islandCommands : Obligations.IslandCommands := by
  refine fun p s => ⟨fun hnone => ⟨fun h hlen => ?noLoad, fun h hlen => ?noStatus, fun h hlen hres => ?noStop⟩,
    fun h hlen hres => command_waits (body := cmdSafeReset) h ?reset, fun hpow hstart => ⟨fun h hlen => ?switch, fun h hlen => ?status,
      fun h hlen hres => ?diag, fun h hlen hres first count hfirst hcount hmin hmax => ?mem, fun h hlen hres hready hparams pairs hpairs hwf => ?stop,
      fun h hlen hfault crc hcrc => ?load⟩⟩
  case noLoad =>
    refine command_waits (body := cmdSafeParamLoad) h ?_
    rw [cmdSafeParamLoad, islandRun_of_some (islandRefusal_noIsland hnone _ _), hlen]
    rfl
  case noStatus =>
    refine command_waits (body := cmdSafeStatus) h ?_
    rw [cmdSafeStatus, islandRun_of_some (islandRefusal_noIsland hnone _ _), hlen]
    rfl
  case noStop =>
    refine command_waits (body := cmdSafeStop) h ?_
    rw [cmdSafeStop_formed hlen hres, islandRun_of_some (islandRefusal_noIsland hnone _ _)]
    rfl
  case reset =>
    rw [cmdSafeReset, hlen, hres]
    rfl
  all_goals have there (params : Bool) := islandRefusal_there (fault := false) (params := params) hpow hstart (fun h => absurd h (by decide))
  case switch =>
    refine command_waits (body := cmdSafeSwitchRead) h ?_
    rw [cmdSafeSwitchRead, islandRun_of_none (there false), hlen]
    rfl
  case status =>
    refine command_waits (body := cmdSafeStatus) h ?_
    rw [cmdSafeStatus, islandRun_of_none (there false), hlen]
    rfl
  case diag =>
    refine ⟨(wd (min (2 ^ 32 - 1) (islandMs s s.takeFree.1.toNat))).toNat, command_waits (body := cmdSafeDiagRead) h ?_⟩
    simp only [cmdSafeDiagRead, hlen, hres, islandRun_of_none (there false), List.map_append, List.map_map]
    rfl
  case mem =>
    have formed := cmdSafeMemRead_formed (s := s) hlen hres hfirst hcount hmin hmax
    refine ⟨fun hempty => command_waits (body := cmdSafeMemRead) h ?_, fun hsome => command_waits (body := cmdSafeMemRead) h ?_⟩
    · rw [formed, islandRun_of_some ((there true).trans (by rw [hempty]; rfl))]
      rfl
    · have loaded : s.isl.params.isEmpty = false := by simpa using hsome
      rw [formed, islandRun_of_none ((there true).trans (by rw [loaded]; rfl))]
      rfl
  case stop =>
    have loaded : s.isl.params.isEmpty = false := by simpa using hparams
    have formed : cmdSafeStop p s = (safeStopNow (p.w 0) s).defer .safeStop p [stOk] := by
      rw [cmdSafeStop_formed hlen hres, islandRun_of_none]
      · rfl
      · rw [islandRefusal_there hpow hstart (fun _ => by rw [hready]; decide), loaded]
        rfl
    have waits : ∀ u, safeStopNow (p.w 0) s = u → Defers (.safeStop p) .safeStop p s u [stOk] := fun u hu =>
      command_waits (body := cmdSafeStop) h (by rw [formed, hu]; rfl)
    obtain ⟨v, done, hshape, hwf', hpair, hstops⟩ := safeStopNow_done hwf hready hpairs
    have enabled (n : Nat) (hn : n ∈ pairs) : n < 8 ∧ (pairOf s n).state = .enabled := by
      rw [hpairs, List.mem_filter, mem_bitsOf_iff] at hn
      exact ⟨hn.1.1, eq_of_beq hn.2⟩
    have running : deviceHears v = true := by
      obtain ⟨serves, -⟩ := h
      rw [deviceHears, hshape.boot_eq]
      exact (Bool.and_eq_true_iff.mp serves).1
    refine ⟨fun hempty => waits s ?_, fun n hn hnow => ⟨_, waits _ rfl, ?_⟩, fun n hn hramp hmode => ⟨_, waits _ rfl, ?_⟩⟩
    · rw [safeStopNow, ← hpairs, hempty]
      simp only [List.foldl_nil, State.islandStop]
      exact if_pos (Or.inr rfl)
    · have hstop := (hstops n).mpr hn
      have hnow' := hnow.imp_right fun hmode => (hshape.mode_eq n).trans hmode
      obtain ⟨hin, hcause⟩ := done.inStop n hstop (hnow'.imp_right Or.inl)
      rw [done.off n hstop hnow']
      refine ⟨rfl, rfl, rfl, rfl, hin, hcause, done.safe n hstop hnow' running, fun m _ hm => ?_⟩
      rw [done.others m fun hstop' => hm ((hstops m).mp hstop'), hpair, if_neg hm]
    · have hstop := (hstops n).mpr hn
      have hen : (pairOf v n).state = .enabled := by
        rw [hpair, if_pos hn]
        exact (enabled n hn).2
      obtain ⟨hin, hcause⟩ := done.inStop n hstop (Or.inr (Or.inr hen))
      obtain ⟨hramped, hreq⟩ := done.ramp n hstop hramp (fun hzero => hmode ((hshape.mode_eq n).symm.trans hzero)) hen
      rw [hramped, hpair, if_pos hn]
      exact ⟨rfl, rfl, rfl, hshape.now_eq, hreq, hin, hcause⟩
  case load =>
    have formed := cmdSafeParamLoad_formed hlen hpow hstart hfault
    have answered {st : Nat} {ws : List Word} {u : State} (hload : paramLoad p.params s = (u, st, ws)) :
        Defers (.safeParamLoad p) .safeParamLoad p s u (st :: ws.map BitVec.toNat) :=
      command_waits (body := cmdSafeParamLoad) h (by rw [formed, hload]; rfl)
    have tests := paramLoad_eq (s := s) hcrc
    refine ⟨fun hcheck => answered (ws := [wd crc, wd 69]) (tests.trans (if_pos hcheck)), fun hcheck hswitch => answered (ws := [wd crc, wd 69]) ?_,
      fun hcheck hA hB hsame => answered (ws := [wd crc, wd 0xFFFF]) ?_,
      fun hcheck hA hB hnew => ?_⟩
    · rw [tests, if_neg (not_not.mpr hcheck), if_pos hswitch]
    all_goals
      have switches : ¬ (crc % 2 ^ 12 ≠ s.isl.swA / 16 ∨ crc % 2 ^ 12 ≠ s.isl.swB / 16) := by omega
      rw [if_neg (not_not.mpr hcheck), if_neg switches] at tests
    · rw [tests, if_pos hsame]
    · rw [if_neg hnew] at tests
      refine ⟨fun i hi => answered (ws := [wd crc, wd i]) (by rw [tests, hi]), fun hgood htorque => answered (ws := [wd crc, wd 0xFFFF]) ?_,
        fun hgood hoff => ⟨s.acceptParams p.params, answered (ws := [wd crc, 0xFFFF]) ?_, ?_⟩⟩
      · obtain ⟨n, hn, hlive⟩ := htorque
        have live : (List.range 8).any (pairLive s) = true := by
          refine List.any_eq_true.mpr ⟨n, List.mem_range.mpr hn, ?_⟩
          rcases hlive with hlive | hlive
          · rw [pairLive, hlive]; rfl
          · rw [pairLive, hlive]; rfl
        rw [tests, hgood]
        exact if_pos live
      · have off : (List.range 8).any (pairLive s) = false := by
          refine List.any_eq_false.mpr fun n hn => ?_
          obtain ⟨hen, hss1⟩ := hoff n (List.mem_range.mp hn)
          rw [pairLive, beq_false_of_ne hen, beq_false_of_ne hss1]
          decide
        rw [tests, hgood]
        exact if_neg (Bool.eq_false_iff.mp off)
      · exact acceptParams_spec p.params s

end Sys2Proof.Machine
end
section
/-! PAIR.CONFIG, PAIR.HANDOVER, PAIR.CHECKPOINT_CONFIG and PAIR.STANDBY_CHECK (15 R529, R541, R545–R549). -/

namespace Sys2Proof.Machine

section Pairs

variable {p : Packet} {s : State} {n lease : Nat}

/-- The settings of PAIR.CONFIG (R545). -/
def pairSet (p : Packet) (q : PairUnit) : PairUnit :=
  { q with half1 := bit (p.w 0) 1, leaseMs := field (p.w 0) 2 7, giveupSev := field (p.w 0) 9 2 }

/-- What PAIR.CONFIG makes of the half (R545). -/
def pairConfigured (p : Packet) (s : State) : State :=
  if ¬ bit (p.w 0) 0 then driveDouts ((if s.pair.role.holds then s.emit (.crook false) else s).modPair fun q => pairSet p q.cleared)
  else if s.pair.role.holds then s.modPair fun q => { pairSet p q with leaseEnd := s.now + clocksOfUs (field (p.w 0) 2 7 * 1000) }
  else driveDouts (s.modPair fun q => pairSet p (q.syncing s.now))

theorem cmdPairConfig_formed (hlen : p.len = 1) (hres : reservedSet (p.w 0) 0xFFFFF800 = false) (hlease : lease = field (p.w 0) 2 7) (hmin : 1 ≤ lease)
    (hmax : lease ≤ 100) (hsev : field (p.w 0) 9 2 ≠ 0) :
    cmdPairConfig p s = checked [(s.dev.mode ≠ .configure, stBadMode),
        (bit (p.w 0) 0 && hasCycle s && lease * 1000 < 2 * lDev s, stPrLease),
        (s.pair.role.holds && bit (p.w 0) 0 && bit (p.w 0) 1 ≠ s.pair.half1, stPrRole)] s
      (pairConfigured p s, .done stOk []) := by
  have whole : (if ¬ bit (p.w 0) 0 then
      (driveDouts ((if s.pair.role.holds then s.emit (.crook false) else s).modPair fun q => pairSet p q.cleared), Verdict.done stOk [])
      else if s.pair.role.holds then
        (s.modPair fun q => { pairSet p q with leaseEnd := s.now + clocksOfUs (field (p.w 0) 2 7 * 1000) }, Verdict.done stOk [])
      else (driveDouts (s.modPair fun q => pairSet p (q.syncing s.now)), Verdict.done stOk [])) = (pairConfigured p s, .done stOk []) := by
    unfold pairConfigured
    split
    · rfl
    · split
      · rfl
      · rfl
  subst hlease
  rw [← whole]
  simp only [cmdPairConfig, hlen, hres, beq_false_of_ne hsev, decide_eq_false (Nat.not_lt.mpr hmin), decide_eq_false (Nat.not_lt.mpr hmax)]
  rfl

theorem cmdPairHandover_formed (hlen : p.len = 0) (hnow : p.atCycle = none) :
    cmdPairHandover p s = checked [(s.dev.mode ≠ .ready && s.dev.mode ≠ .run && s.dev.mode ≠ .hold, stBadMode), (!s.pair.role.holds, stPrRole),
        (s.pair.role ≠ .active || !s.pair.peerStandby, stPrNoPeer)] s
      (s.askGiveUp { cycle := some (cycleAfter s (devCycle s) 1), handover := some p }, .waits) := by
  simp only [cmdPairHandover, hlen, hnow]
  rfl

theorem cmdPairCheckpointConfig_formed (hn : p.w 0 = n) (hmax : n ≤ 8) (hlen : p.len = 1 + 2 * n) :
    cmdPairCheckpointConfig p s = checked [(!(rangesOf p).all rangeOk, stRange), (s.dev.mode ≠ .configure && s.dev.mode ≠ .ready, stBadMode)] s
      (s.modPair (fun q => { q with ranges := rangesOf p }), .done stOk []) := by
  have hfield : field n 0 4 = n := field_eq_self_of_lt (n := 4) (by omega)
  have hres : reservedSet n 0xFFFFFFF0 = false := reservedSet_eq_false_of_lt (n := 4) (by omega) (by decide)
  have hlen' : (decide (p.len < 1) || decide (p.len ≠ 1 + 2 * n)) = false := by
    rw [← Bool.decide_or]
    exact decide_eq_false (by omega)
  simp only [cmdPairCheckpointConfig, hn, hfield, hres, hlen', decide_eq_false (Nat.not_lt.mpr hmax), Bool.false_or]
  rfl

theorem cmdPairStandbyCheck_formed (hlen : p.len = 0) :
    cmdPairStandbyCheck p s = checked [(s.pair.role ≠ .active || !s.pair.peerStandby, stPrNoPeer)] s
      (s.takeFree.2, .done (if s.takeFree.1.toNat % 2 ^ 11 = 0 then stOk else stPrMismatch) [wd (s.takeFree.1.toNat % 2 ^ 11)]) := by
  simp only [cmdPairStandbyCheck, hlen]
  rfl

end Pairs

/-- Settles O33: the half as `pairConfigured` has it, the give-up that waits for its cycle, the ranges, and the free result of the check. -/
theorem pairCommands : Obligations.PairCommands := by
  refine fun p s => ⟨fun h hlen hres lease hlease hmin hmax hsev => ?config, fun h hlen => ?handover, fun h n hn hmax hlen => ?ranges, fun h hlen => ?check⟩
  case config =>
    have formed := cmdPairConfig_formed (s := s) hlen hres hlease hmin hmax hsev
    refine ⟨fun hmode => command_done (body := cmdPairConfig) h ?_, fun hmode => ?_⟩
    · rw [formed, decide_eq_true hmode, checked_cons_true]
    rw [decide_eq_false (not_not.mpr hmode), checked_cons_false] at formed
    have long (hcycle : hasCycle s = false ∨ 2 * lDev s ≤ lease * 1000) : (bit (p.w 0) 0 && hasCycle s && decide (lease * 1000 < 2 * lDev s)) = false := by
      rcases hcycle with hcycle | hcycle
      · simp [hcycle]
      · simp [hcycle]
    refine ⟨fun hen hcycle hshort => command_done (body := cmdPairConfig) h ?_, fun hen hcycle hholds hhalf => command_done (body := cmdPairConfig) h ?_,
      fun hoff => ?_, fun hen hcycle hfree => ?_, fun hen hcycle hholds hhalf => command_done (body := cmdPairConfig) h ?_⟩
    · rw [formed, hen, hcycle, decide_eq_true hshort]
      rfl
    · rw [formed, long hcycle, hholds, hen, decide_eq_true hhalf]
      rfl
    · rw [hoff, Bool.false_and, Bool.false_and, checked_cons_false, Bool.and_false, Bool.false_and, checked_cons_false, checked_nil] at formed
      refine ⟨_, command_done (body := cmdPairConfig) h formed, ?_⟩
      rw [pairConfigured, hoff, if_pos Bool.false_ne_true]
      split
      · exact ⟨rfl, hlease.symm, rfl, rfl, rfl⟩
      · exact ⟨rfl, hlease.symm, rfl, rfl, rfl⟩
    · rw [long hcycle, checked_cons_false, hfree, Bool.false_and, Bool.false_and, checked_cons_false, checked_nil] at formed
      refine ⟨_, command_done (body := cmdPairConfig) h formed, ?_⟩
      rw [pairConfigured, hen, if_neg (not_not.mpr rfl), hfree, if_neg Bool.false_ne_true]
      exact ⟨rfl, hlease.symm, rfl, rfl, rfl, rfl⟩
    · rw [formed, long hcycle, hholds, hen, decide_eq_false (not_not.mpr hhalf), pairConfigured, hen, if_neg (not_not.mpr rfl), hholds, if_pos rfl,
        clocksOfUs, ← hlease, Nat.mul_comm _ 800]
      simp only [pairSet, ← hlease]
      rfl
  case handover =>
    obtain ⟨-, -, hnow, -⟩ := id h
    have formed := cmdPairHandover_formed (s := s) hlen hnow
    refine ⟨fun hmode => command_done (body := cmdPairHandover) h ?_, fun hmode => ?_⟩
    · rcases hmode with hmode | hmode | hmode
      all_goals
        rw [formed, hmode]
        rfl
    have ready : (s.dev.mode ≠ .ready && s.dev.mode ≠ .run && s.dev.mode ≠ .hold) = false := by
      rcases hmode with hmode | hmode | hmode
      · simp [hmode]
      · simp [hmode]
      · simp [hmode]
    rw [ready, checked_cons_false] at formed
    refine ⟨fun hfree => command_done (body := cmdPairHandover) h ?_, fun hholds hpeer => command_done (body := cmdPairHandover) h ?_,
      fun hrole hpeer hgive => ?_⟩
    · rw [formed, hfree]
      rfl
    · have peerless : (s.pair.role ≠ .active || !s.pair.peerStandby) = true := by simpa using hpeer
      rw [formed, hholds, peerless]
      rfl
    · have asked : cmdPairHandover p s =
          (s.modPair fun q => { q with giveUp := some { cycle := some (cycleAfter s (devCycle s) 1), handover := some p } }, .waits) := by
        rw [formed, State.askGiveUp, hrole, hpeer]
        simp only [State.modPair, hgive]
        rfl
      refine ⟨_, command_waits (body := cmdPairHandover) h asked, ?_⟩
      obtain ⟨b, recorded⟩ := (s.modPair fun q =>
        { q with giveUp := some { cycle := some (cycleAfter s (devCycle s) 1), handover := some p } }).recordConfig_eq .pairHandover stOk
      rw [recorded, State.mirror_pair, State.mirror_mem, State.mirror_dev, State.mirror_loop]
      exact ⟨rfl, hrole, rfl, rfl, rfl⟩
  case ranges =>
    have formed := cmdPairCheckpointConfig_formed (s := s) hn hmax hlen
    refine ⟨fun hbad => command_done (body := cmdPairCheckpointConfig) h ?_, fun hgood hconf hready => command_done (body := cmdPairCheckpointConfig) h ?_,
      fun hgood hmode => command_done (body := cmdPairCheckpointConfig) h ?_⟩
    · obtain ⟨r, hr, hbad⟩ := hbad
      rw [formed, List.all_eq_false.mpr ⟨r, hr, Bool.eq_false_iff.mp hbad⟩]
      rfl
    · rw [formed, List.all_eq_true.mpr hgood, decide_eq_true hconf, decide_eq_true hready]
      rfl
    · rw [formed, List.all_eq_true.mpr hgood]
      rcases hmode with hmode | hmode
      · rw [hmode]
        rfl
      · rw [hmode]
        rfl
  case check =>
    have formed := cmdPairStandbyCheck_formed (s := s) hlen
    refine ⟨fun hpeer => command_done (body := cmdPairStandbyCheck) h ?_, fun hrole hpeer => ?_⟩
    · have peerless : (s.pair.role ≠ .active || !s.pair.peerStandby) = true := by simpa using hpeer
      rw [formed, peerless, checked_cons_true]
    · rw [hrole, hpeer, decide_eq_false (not_not.mpr rfl), Bool.not_true, Bool.or_false, checked_cons_false, checked_nil] at formed
      generalize s.takeFree.1.toNat % 2 ^ 11 = diff at formed
      by_cases hsame : diff = 0
      · rw [hsame, if_pos rfl] at formed
        exact Or.inl (command_done (body := cmdPairStandbyCheck) h formed)
      · rw [if_neg hsame] at formed
        exact Or.inr ⟨diff, hsame, command_done (body := cmdPairStandbyCheck) h formed⟩

end Sys2Proof.Machine
end
section
/-! HOST.RING_CREATE, HOST.RING_DESTROY and HOST.EVENT_ROUTE (02 R56, R84–R86). -/

namespace Sys2Proof.Machine

section HostRings

variable {p : Packet} {s t : State} {n kind log2 tr base shadow : Nat}

theorem ringOf_modRing (hwf : Tab.wf {} s.host.rings = true) (n m : Nat) (f : Ring → Ring) :
    ringOf (s.modRing n f) m = if m = n then f (ringOf s m) else ringOf s m := look_upd f n m hwf

theorem modRing_wf (hwf : Tab.wf {} s.host.rings = true) (n : Nat) (f : Ring → Ring) : Tab.wf {} (s.modRing n f).host.rings = true := upd_wf _ _ hwf

/-- A ring as HOST.RING_CREATE makes it (R84). -/
def ringCreated (p : Packet) (_ : Ring) : Ring :=
  { base := p.w 1 + place 32 (p.w 2), shadow := p.w 3 + place 32 (p.w 4), kind := field (p.w 0) 6 2, log2 := field (p.w 0) 8 4,
    transport := field (p.w 0) 12 2, paired := field (p.w 0) 14 6, vector := field (p.w 0) 20 6, irqEn := bit (p.w 0) 26,
    holdoff := field (p.w 5) 0 8, state := .active }

theorem ringCreated_occupied (p : Packet) (r : Ring) : (ringCreated p r).occupied = 0 := by simp [ringCreated, Ring.occupied]

theorem cmdHostRingCreate_formed (hlen : p.len = 6) (hn : n = field (p.w 0) 0 6) (hmin : 2 ≤ n) (hkind : kind = field (p.w 0) 6 2)
    (hlog : log2 = field (p.w 0) 8 4) (htr : tr = field (p.w 0) 12 2) (hbase : base = p.w 1 + place 32 (p.w 2))
    (hshadow : shadow = p.w 3 + place 32 (p.w 4)) (hfour : 4 ≤ log2) (htwelve : log2 ≤ 12) (hthree : tr ≠ 3)
    (hpaired : pairedOk s kind tr (field (p.w 0) 14 6) = true) (hstream : kind = 3 → tr ≠ 2) (hres : reservedSet (p.w 0) 0xF8000000 = false)
    (hhold : p.w 5 < 256) :
    cmdHostRingCreate p s = checked [((ringOf s n).state ≠ .absent, stRingExists), (!baseOk tr base log2 || shadow % 4 ≠ 0, stRingAddr),
        (!transportEnabled s tr, stNoTransport)] s (s.modRing n (ringCreated p), .done stOk []) := by
  have hreserved : reservedSet (p.w 5) 0xFFFFFF00 = false := reservedSet_eq_false_of_lt (n := 8) hhold (by decide)
  have hudp : (kind == 3 && tr == 2) = false := by simpa using hstream
  subst hkind hlog htr hbase hshadow hn
  simp only [cmdHostRingCreate, hlen, decide_eq_false (Nat.not_lt.mpr hmin), decide_eq_false (Nat.not_lt.mpr hfour),
    decide_eq_false (Nat.not_lt.mpr htwelve), beq_false_of_ne hthree, hpaired, hudp, hres, hreserved]
  rfl

/-- The device as HOST.RING_DESTROY hands its reply on: the packets of the ring are answered on the paired ring, and the ring is closing (R85). -/
def ringClosing (n : Nat) (s : State) : State :=
  (s.mapOrigins fun o => if o = .ring n then .replyTo (ringOf s n).paired else o).modRing n fun r => { r with destroying := true }

theorem ringOf_ringClosing (hwf : Tab.wf {} s.host.rings = true) (n m : Nat) :
    ringOf (ringClosing n s) m = if m = n then { ringOf s m with destroying := true } else ringOf s m :=
  look_upd (fun r : Ring => { r with destroying := true }) n m hwf

/-- Closing a ring is about commands and replies: nothing else of the device moves. -/
theorem ringClosing_eq (n : Nat) (s : State) : (ringClosing n s).mem = s.mem ∧ (ringClosing n s).dev = s.dev ∧ (ringClosing n s).loop = s.loop := by
  simp [ringClosing, State.mapOrigins, State.modRing]

theorem cmdHostRingDestroy_formed (hlen : p.len = 1) (hn : p.w 0 = n) (hmax : n < 64) :
    cmdHostRingDestroy p s = checked [(n < 2 || (ringOf s n).state == .absent, stRange),
        (s.host.rings.any (fun e => e.2.kind == 0 && e.2.state ≠ .absent && e.2.paired == n) || streamsTo s n, stRingInUse)] s
      ((ringClosing n s).answerAt .hostRingDestroy p (devCycle (ringClosing n s)) stOk [] (some n), .waits) := by
  have hfield : field n 0 6 = n := field_eq_self_of_lt hmax
  have hres : reservedSet n 0xFFFFFFC0 = false := reservedSet_eq_false_of_lt (n := 6) hmax (by decide)
  simp only [cmdHostRingDestroy, hlen, hn, hfield, hres, Bool.or_false]
  rfl

/-- A reply leaves the rings, but the one that it frees. -/
def RingFreed (n : Nat) (s t : State) : Prop := t.host.rings = s.host.rings ∨ t.host.rings = put {} s.host.rings n {}

theorem replyOnRing_ringFreed (s : State) (m : Nat) (ws : List Word) (n : Nat) : RingFreed n s (s.replyOnRing m ws (some n)) := by
  unfold State.replyOnRing
  extract_lets r
  split
  · exact .inr rfl
  · exact .inl rfl

theorem sendReply_ringFreed (s : State) (o : Origin) (tag : Word) (ws : List Word) (n : Nat) : RingFreed n s (s.sendReply o tag ws (some n)) := by
  cases o with
  | ring m => exact replyOnRing_ringFreed s _ ws n
  | replyTo m => exact replyOnRing_ringFreed s m ws n
  | udp m via ip port => exact .inr (congrArg (fun r => put ({} : Ring) r n {}) (State.sendUdp_rings _ via ip port ws))
  | above => exact .inr rfl
  | mirror => exact .inr rfl
  | lost => exact .inr rfl

theorem answerAt_ringFreed (s : State) (op : Op) (p : Packet) (cycle status : Nat) (ws : List Word) (n : Nat) :
    RingFreed n s (s.answerAt op p cycle status ws (some n)) := by
  unfold State.answerAt
  split
  · exact sendReply_ringFreed s _ _ _ n
  · extract_lets s₁
    split
    · exact .inr rfl
    · exact .inr rfl

theorem mirror_rings (s : State) (op : Op) (p : Packet) (status : Nat) : (s.mirror op p status).host.rings = s.host.rings := by
  unfold State.mirror
  split
  · rfl
  · rfl

/-- A ring that its reply frees is absent, or still closing; the others are as they were. -/
theorem RingFreed.destroying (h : RingFreed n s t) (hwf : Tab.wf {} s.host.rings = true) (hclosing : (ringOf s n).destroying = true) :
    ((ringOf t n).destroying = true ∨ (ringOf t n).state = .absent) ∧ ∀ m, m ≠ n → (ringOf t m).destroying = (ringOf s m).destroying := by
  unfold ringOf at *
  rcases h with same | freed
  · rw [same]
    exact ⟨.inl hclosing, fun _ _ => rfl⟩
  · rw [freed, look_put_same n _ hwf]
    refine ⟨.inr rfl, fun m hm => ?_⟩
    rw [look_put_other _ _ hm]

theorem cmdHostEventRoute_formed (hlen : p.len = 2) (hn : n = field (p.w 0) 0 6) (hres : reservedSet (p.w 0) 0xFFFFFC00 = false)
    (hres' : reservedSet (p.w 1) 0xFFFE0000 = false) :
    cmdHostEventRoute p s = checked [((ringOf s n).state == .absent || (ringOf s n).kind ≠ 2, stRange)] s
      (s.modRing n fun r => { r with evMinSev := field (p.w 0) 6 2, evSubtree := bit (p.w 0) 8, evEnable := bit (p.w 0) 9, evMask := p.w 1 },
        .done stOk []) := by
  have hmask : field (p.w 1) 0 17 = p.w 1 := field_low_of_reserved p 1 17 (by decide) hres'
  subst hn
  simp only [cmdHostEventRoute, hlen, hres, hres', hmask, Bool.or_false]
  rfl

end HostRings

/-- Settles O34: a ring created is `ringCreated`; one destroyed closes with the packets answered on its paired ring (`ringClosing`), and the reply
frees it at most (`RingFreed`). -/
theorem hostRings : Obligations.HostRings := by
  refine fun p s n hwf hn => ⟨fun h hlen hmin kind log2 tr base shadow hkind hlog htr hbase hshadow hfour htwelve hthree hpaired hstream hres hhold =>
    ?create, fun h hlen hw => ?destroy, fun h hlen hres hres' => ?route⟩
  case create =>
    have formed := cmdHostRingCreate_formed hlen hn hmin hkind hlog htr hbase hshadow hfour htwelve hthree hpaired hstream hres hhold
    refine ⟨fun hstate => command_done (body := cmdHostRingCreate) h ?_, fun hstate => ?_⟩
    · rw [formed, decide_eq_true hstate, checked_cons_true]
    rw [decide_eq_false (not_not.mpr hstate), checked_cons_false] at formed
    refine ⟨fun haddr => command_done (body := cmdHostRingCreate) h ?_, fun hok hfour => ?_, fun hok hfour htransport => ?_⟩
    · have hbad : (!baseOk tr base log2 || decide (shadow % 4 ≠ 0)) = true := by simpa using haddr
      rw [formed, hbad, checked_cons_true]
    · intro htransport
      refine command_done (body := cmdHostRingCreate) h ?_
      rw [formed, hok, decide_eq_false (not_not.mpr hfour), htransport]
      rfl
    · rw [hok, decide_eq_false (not_not.mpr hfour), htransport] at formed
      have ring : ringOf (s.modRing n (ringCreated p)) n = ringCreated p (ringOf s n) := (ringOf_modRing hwf n n _).trans (if_pos rfl)
      refine ⟨s.modRing n (ringCreated p), command_done (body := cmdHostRingCreate) h formed, rfl, fun m hm => ?_, ?_⟩
      · rw [ringOf_modRing hwf, if_neg hm]
      · rw [ring]
        subst hkind hlog htr hbase hshadow
        exact ⟨rfl, rfl, rfl, rfl, rfl, rfl, rfl, rfl, rfl, field_eq_self_of_lt (n := 8) hhold, ringCreated_occupied p _⟩
  case destroy =>
    refine ⟨fun hbad hmax => command_done (body := cmdHostRingDestroy) h ?_, fun hmin hmax hstate => ?_⟩
    · have hturned : (decide (n < 2) || (ringOf s n).state == .absent) = true := by simpa using hbad
      rw [cmdHostRingDestroy_formed hlen hw hmax, hturned, checked_cons_true]
    have formed := cmdHostRingDestroy_formed (s := s) hlen hw hmax
    rw [decide_eq_false (Nat.not_lt.mpr hmin), beq_false_of_ne hstate, Bool.false_or, checked_cons_false] at formed
    refine ⟨fun huse => command_done (body := cmdHostRingDestroy) h ?_, fun hfree hstream => ?_⟩
    · have hused : (s.host.rings.any (fun e => e.2.kind == 0 && e.2.state ≠ .absent && e.2.paired == n) || streamsTo s n) = true := by
        simpa [and_assoc] using huse
      rw [formed, hused, checked_cons_true]
    · have hunused : (s.host.rings.any (fun e => e.2.kind == 0 && e.2.state ≠ .absent && e.2.paired == n) || streamsTo s n) = false := by
        simpa [hstream] using hfree
      rw [hunused, checked_cons_false] at formed
      refine ⟨_, command_waits (body := cmdHostRingDestroy) h formed, ?_⟩
      generalize hu : (ringClosing n s).answerAt .hostRingDestroy p (devCycle (ringClosing n s)) stOk [] (some n) = u at formed ⊢
      have freed : RingFreed n (ringClosing n s) u := hu ▸ answerAt_ringFreed _ _ p _ stOk [] n
      have replied : (ringClosing n s).Replied u := hu ▸ State.answerAt_replied _ _ p _ stOk [] _
      obtain ⟨mem, dev, loop⟩ := ringClosing_eq n s
      obtain ⟨own, others⟩ := freed.destroying (modRing_wf hwf n _) (by rw [ringOf_ringClosing hwf, if_pos rfl])
      obtain ⟨b, recorded⟩ := u.recordConfig_eq .hostRingDestroy stOk
      have rings : ((u.recordConfig .hostRingDestroy stOk).mirror .hostRingDestroy p stOk).host.rings = u.host.rings := by
        rw [mirror_rings, recorded]
      have mirrored := State.mirror_replied (u.recordConfig .hostRingDestroy stOk) .hostRingDestroy p stOk
      have ring (m : Nat) : ringOf ((u.recordConfig .hostRingDestroy stOk).mirror .hostRingDestroy p stOk) m = ringOf u m :=
        congrArg (fun r => look ({} : Ring) r m) rings
      refine ⟨ring n ▸ own, fun m hm => ?_, ?_, ?_, ?_⟩
      · rw [ring m, others m hm, ringOf_ringClosing hwf, if_neg hm]
      · rw [mirrored.mem, State.recordConfig_mem, replied.mem, mem]
      · rw [mirrored.dev, State.recordConfig_dev, replied.dev, dev]
      · rw [mirrored.loop, State.recordConfig_loop, replied.loop, loop]
  case route =>
    have formed := cmdHostEventRoute_formed (s := s) hlen hn hres hres'
    refine ⟨fun hbad => command_done (body := cmdHostEventRoute) h ?_, fun hstate hkind => command_done (body := cmdHostEventRoute) h ?_⟩
    · have hturned : ((ringOf s n).state == .absent || decide ((ringOf s n).kind ≠ 2)) = true := by simpa using hbad
      rw [formed, hturned, checked_cons_true]
    · rw [formed, beq_false_of_ne hstate, decide_eq_false (not_not.mpr hkind)]
      rfl

end Sys2Proof.Machine
end
section
/-! Indices, enables, resets and errors of the host rings (02 R52–R65; 03 R88). -/

namespace Sys2Proof.Machine

/-- What a table says after every value of it was changed by a function that keeps the value of what is not listed. -/
theorem look_mapValues {α : Type} {d : α} (g : α → α) (hg : g d = d) (t : Tab α) (k : Nat) :
    look d (t.map fun e => (e.1, g e.2)) k = g (look d t k) := by
  induction t with
  | nil => exact hg.symm
  | cons e t ih =>
    simp only [List.map_cons, look]
    split
    · rfl
    · exact ih

section HostRegisters

variable {s t : State} {n m v : Nat} {w : RingWrite} {rest : List RingWrite}

/-- A ring but for its stall. -/
def unstalled (r : Ring) : Ring := { r with stalled := false }

/-- R62: a stalled COMMAND ring looks again whether its replies have room. -/
def restalled (s : State) (r : Ring) : Ring :=
  if r.kind = 0 ∧ r.state = .active ∧ r.stalled then { r with stalled := lacksRoom s r.paired } else r

theorem unstalled_restalled (s : State) (r : Ring) : unstalled (restalled s r) = unstalled r := by
  unfold restalled
  split
  · rfl
  · rfl

theorem ringOf_restall (s : State) (m : Nat) : ringOf s.restall m = restalled s (ringOf s m) :=
  look_mapValues (restalled s) rfl s.host.rings m

theorem restall_eq (s : State) : s.restall = s.modHost fun _ => s.restall.host := rfl

/-- What a doorbell, a reset or a reply says of a ring but for its stall. -/
theorem unstalled_restall (s : State) (m : Nat) : unstalled (ringOf s.restall m) = unstalled (ringOf s m) := by
  rw [ringOf_restall, unstalled_restalled]

theorem ringOf_restall_cons (s : State) (m : Nat) : (ringOf s.restall m).cons = (ringOf s m).cons :=
  (congrArg Ring.cons (unstalled_restall s m) :)

theorem ringOf_restall_prod (s : State) (m : Nat) : (ringOf s.restall m).prod = (ringOf s m).prod :=
  (congrArg Ring.prod (unstalled_restall s m) :)

theorem ringOf_restall_state (s : State) (m : Nat) : (ringOf s.restall m).state = (ringOf s m).state :=
  (congrArg Ring.state (unstalled_restall s m) :)

theorem ringOf_restall_faultCause (s : State) (m : Nat) : (ringOf s.restall m).faultCause = (ringOf s m).faultCause :=
  (congrArg Ring.faultCause (unstalled_restall s m) :)

/-- R60: an index that goes back, or beyond the ring. -/
theorem badIndex_eq_true {old new occupied size : Nat} (h : cycDiff new old < 0 ∨ size < occupied) : badIndex old new occupied size = true := by
  simpa [badIndex] using h

theorem badIndex_eq_false {old new occupied size : Nat} (hforward : 0 ≤ cycDiff new old) (hroom : occupied ≤ size) :
    badIndex old new occupied size = false := by
  simp [badIndex, hforward, hroom]

theorem prodDoorbell_idle (h : (ringOf s n).kind ≠ 0) : prodDoorbell n v s = s := if_pos (.inl h)

theorem consDoorbell_idle (h : (ringOf s n).kind = 0) : consDoorbell n v s = s := if_pos (.inl h)

theorem prodDoorbell_active (hkind : (ringOf s n).kind = 0) (hstate : (ringOf s n).state = .active) :
    prodDoorbell n v s = if badIndex (ringOf s n).prod v ((v + 2 ^ 32 - (ringOf s n).cons) % 2 ^ 32) (ringOf s n).size then s.faultRing n 1
      else s.modRing n fun r => { r with prod := v % 2 ^ 32 } :=
  if_neg (by simp [hkind, hstate])

theorem consDoorbell_active (hkind : (ringOf s n).kind ≠ 0) (hstate : (ringOf s n).state = .active) :
    consDoorbell n v s = if badIndex (ringOf s n).cons v (((ringOf s n).prod + 2 ^ 32 - v % 2 ^ 32) % 2 ^ 32) (ringOf s n).size then s.faultRing n 1
      else (s.modRing n fun r => { r with cons := v % 2 ^ 32 }).restall :=
  if_neg (by simp [hkind, hstate])

/-- The rings as a consumer index leaves them (R57). -/
theorem consumed_spec (hwf : Tab.wf {} s.host.rings = true) (n v : Nat) :
    (ringOf (s.modRing n fun r => { r with cons := v }).restall n).cons = v ∧
    (∀ m, (ringOf (s.modRing n fun r => { r with cons := v }).restall m).prod = (ringOf s m).prod ∧
      (ringOf (s.modRing n fun r => { r with cons := v }).restall m).state = (ringOf s m).state) ∧
    (∀ m, m ≠ n → (ringOf (s.modRing n fun r => { r with cons := v }).restall m).cons = (ringOf s m).cons) := by
  refine ⟨?_, fun m => ?_, fun m hm => ?_⟩
  · rw [ringOf_restall_cons, ringOf_modRing hwf, if_pos rfl]
  · rw [ringOf_restall_prod, ringOf_restall_state, ringOf_modRing hwf]
    split
    · exact ⟨rfl, rfl⟩
    · exact ⟨rfl, rfl⟩
  · rw [ringOf_restall_cons, ringOf_modRing hwf, if_neg hm]

/-- A ring as RING_RESET leaves it (R65). -/
def ringCleared (r : Ring) : Ring :=
  { r with prod := 0, cons := 0, faultCause := 0, stalled := false, state := if r.state = .fault then .active else r.state }

theorem ringReset_eq (h : (ringOf s n).state ≠ .absent) : ringReset n s =
    ((s.modHost fun h => { h with senders := h.senders.filter (·.ring ≠ n) }).modRing n ringCleared).restall := if_neg h

theorem ringReset_spec (hwf : Tab.wf {} s.host.rings = true) (h : (ringOf s n).state ≠ .absent) :
    unstalled (ringOf (ringReset n s) n) = ringCleared (ringOf s n) ∧ ∀ m, m ≠ n → unstalled (ringOf (ringReset n s) m) = unstalled (ringOf s m) := by
  have ring (m : Nat) : ringOf ((s.modHost fun h => { h with senders := h.senders.filter (·.ring ≠ n) }).modRing n ringCleared) m =
      if m = n then ringCleared (ringOf s m) else ringOf s m :=
    ringOf_modRing (s := s.modHost fun h => { h with senders := h.senders.filter (·.ring ≠ n) }) hwf n m ringCleared
  rw [ringReset_eq h]
  refine ⟨?_, fun m hm => ?_⟩
  · rw [unstalled_restall, ring, if_pos rfl]
    rfl
  · rw [unstalled_restall, ring, if_neg hm]

/-- R52: a mask written clears the bits of HOST_ERR that it names. -/
theorem bit_hostErrClear (mask i : Nat) (s : State) (hi : i < 3) :
    bit (hostErrClear mask s).host.hostErr i = (bit s.host.hostErr i && !bit mask i) := by
  have cleared : (hostErrClear mask s).host.hostErr = maskOf ((bitsOf 3 s.host.hostErr).filter fun i => !bit mask i) := rfl
  rw [cleared, bit_maskOf]
  simp [mem_bitsOf_iff, hi]

/-! Putting a packet into a ring (R57, R63). -/

theorem writeOut_host (transport : Nat) (pieces : List (Nat × List Word)) (s : State) : (s.writeOut transport pieces).host = s.host := by
  unfold State.writeOut
  induction pieces generalizing s with
  | nil => rfl
  | cons e pieces ih =>
    rw [List.foldl_cons, ih]
    split
    · rfl
    · obtain ⟨m, k, written⟩ := s.writeBytes_eq e.1 (e.2.flatMap bytesOf)
      rw [State.writeWords, written]

theorem sendVector_rings (s : State) (v : Nat) : (s.sendVector v).host.rings = s.host.rings := by
  obtain ⟨q, o, sent⟩ := s.sendVector_eq v
  rw [sent]

theorem sendVector_waiting (s : State) (v : Nat) : (s.sendVector v).host.waiting = s.host.waiting := by
  obtain ⟨q, o, sent⟩ := s.sendVector_eq v
  rw [sent]

theorem ringOf_sendVector (s : State) (v m : Nat) : ringOf (s.sendVector v) m = ringOf s m :=
  congrArg (fun r => look ({} : Ring) r m) (sendVector_rings s v)

/-- The interrupt of a ring moves none of its indices. -/
theorem ringIrq_indices (hwf : Tab.wf {} s.host.rings = true) (n m : Nat) :
    (ringOf (ringIrq n s) m).prod = (ringOf s m).prod ∧ (ringOf (ringIrq n s) m).cons = (ringOf s m).cons := by
  have moved (f : Ring → Ring) (hf : ∀ r, (f r).prod = r.prod ∧ (f r).cons = r.cons) :
      (ringOf (s.modRing n f) m).prod = (ringOf s m).prod ∧ (ringOf (s.modRing n f) m).cons = (ringOf s m).cons := by
    rw [ringOf_modRing hwf]
    split
    · exact hf _
    · exact ⟨rfl, rfl⟩
  unfold ringIrq
  extract_lets r
  split
  · exact ⟨rfl, rfl⟩
  · split
    · rw [ringOf_sendVector]
      exact moved _ fun r => ⟨rfl, rfl⟩
    · exact moved _ fun r => ⟨rfl, rfl⟩

/-- A packet that an active ring has room for is put at its producer index (R57). -/
theorem ringPut_ok (hwf : Tab.wf {} s.host.rings = true) (ws : List Word) (hstate : (ringOf s n).state = .active)
    (hroom : slotsOf ws.length ≤ 2 ^ (ringOf s n).log2 - (ringOf s n).occupied) :
    (ringPut n ws .ok s).2 = true ∧ (ringOf (ringPut n ws .ok s).1 n).prod = ((ringOf s n).prod + slotsOf ws.length) % 2 ^ 32 ∧
    (ringOf (ringPut n ws .ok s).1 n).cons = (ringOf s n).cons := by
  unfold ringPut
  extract_lets r s₁ s₂ prod s₃ s₄
  have first : s₁ = s := if_neg (by simp)
  have host₂ : s₂.host = s.host := (writeOut_host _ _ s₁).trans (congrArg State.host first)
  have host₄ : s₄.host = s₃.host := by
    simp only [s₄]
    split
    · rfl
    · exact writeOut_host _ _ s₃
  have wf₂ : Tab.wf {} s₂.host.rings = true := by rw [host₂]; exact hwf
  have ring : ringOf s₄ n = { ringOf s n with prod := prod } := by
    have ring₄ : ringOf s₄ n = ringOf s₃ n := congrArg (fun h : HostUnit => look ({} : Ring) h.rings n) host₄
    have ring₂ : ringOf s₂ n = ringOf s n := congrArg (fun h : HostUnit => look ({} : Ring) h.rings n) host₂
    rw [ring₄, ringOf_modRing wf₂, if_pos rfl, ring₂]
  have wf₄ : Tab.wf {} s₄.host.rings = true := by rw [host₄]; exact modRing_wf wf₂ n _
  have hcan : ¬ (r.state ≠ .active ∨ r.size - r.occupied < slotsOf ws.length) := by
    rintro (h | h)
    · exact h hstate
    · exact absurd hroom (Nat.not_le.mpr h)
  rw [if_neg hcan, if_neg (by simp)]
  obtain ⟨hprod, hcons⟩ := ringIrq_indices wf₄ n n
  exact ⟨rfl, by rw [hprod, ring], by rw [hcons, ring]⟩

theorem replyWrite_none (h : ∀ w ∈ s.host.waiting, w.ring ≠ n) (dma : Dma) : replyWrite n dma s = s := by
  have absent : ∀ l : List RingWrite, (∀ w ∈ l, w.ring ≠ n) → extractFirst (fun w => w.ring == n) l = none := by
    intro l hl
    induction l with
    | nil => rfl
    | cons w l ih =>
      rw [extractFirst, beq_false_of_ne (hl w List.mem_cons_self), ih fun x hx => hl x (List.mem_cons_of_mem w hx)]
      rfl
  unfold replyWrite
  rw [absent _ h]

/-- A reply goes into its ring, and leaves the queue of those that wait (R57, R69). -/
theorem replyWrite_front (hw : s.host.waiting = w :: rest) (hring : w.ring = n) (hfrees : w.frees = none) (dma : Dma)
    (hput : (ringPut n w.words dma s).2 = true) : replyWrite n dma s =
      ((ringPut n w.words dma s).1.modHost fun h => { h with waiting := rest }).restall.resetReply w.words := by
  have found : extractFirst (fun w => w.ring == n) s.host.waiting = some (w, rest) := by
    rw [hw, extractFirst, beq_iff_eq.mpr hring]
    rfl
  unfold replyWrite
  rw [found]
  simp only
  generalize ringPut n w.words dma s = r at hput ⊢
  obtain ⟨t, b⟩ := r
  obtain rfl : b = true := hput
  simp only [hfrees]
  rfl

theorem resetReply_host (s : State) (ws : List Word) : (s.resetReply ws).host = s.host := by
  unfold State.resetReply
  split
  · rfl
  · rfl

/-! The interface's own reset (03 R88). -/

theorem flushUdp_eq (s : State) : ∃ o, s.flushUdp = { s with outbox := o, host := { s.host with udpOut := [] } } := by
  have emitted : ∀ (l : List UdpOut) (s : State), ∃ o, l.foldl (fun s d => s.emit (.datagram d.via d.ip d.port d.words)) s = { s with outbox := o } := by
    intro l
    induction l with
    | nil => exact fun s => ⟨_, rfl⟩
    | cons d l ih =>
      intro s
      obtain ⟨o, h⟩ := ih (s.emit (.datagram d.via d.ip d.port d.words))
      exact ⟨o, h⟩
  obtain ⟨o, h⟩ := emitted s.host.udpOut s
  exact ⟨o, by rw [State.flushUdp, h]; rfl⟩

theorem hostInterfaceReset_spec (s : State) : (hostInterfaceReset s).host.rings = (HostUnit.afterReset s.boot.hostSel).rings ∧
    bit (hostInterfaceReset s).host.hostErr 2 = true ∧ (hostInterfaceReset s).host.waiting = (HostUnit.afterReset s.boot.hostSel).waiting ∧
    (hostInterfaceReset s).host.timed.length = s.host.timed.length ∧ (hostInterfaceReset s).host.deferred.length = s.host.deferred.length ∧
    (hostInterfaceReset s).mem = s.mem ∧ (hostInterfaceReset s).dev = s.dev ∧ (hostInterfaceReset s).loop = s.loop := by
  unfold hostInterfaceReset
  extract_lets replies s₁ fresh s₂
  obtain ⟨f, y, recorded⟩ := s₂.recordOpen_eq 16 1 0 false
  obtain ⟨o, flushed⟩ := flushUdp_eq s
  rw [recorded]
  have h₁ : s₁ = State.mapOrigins { s with outbox := o, host := { s.host with udpOut := [] } } Origin.orphan :=
    congrArg (State.mapOrigins · Origin.orphan) flushed
  have hostSel : s₁.boot = s.boot := by rw [h₁]; rfl
  refine ⟨?_, ?_, ?_, ?_, ?_, ?_, ?_, ?_⟩
  · simp [s₂, fresh, hostSel]
  · simp [s₂, bit_setBit]
  · simp [s₂, fresh, hostSel]
  · simp [s₂, h₁, State.mapOrigins]
  · simp [s₂, h₁, State.mapOrigins]
  · simp [s₂, h₁, State.mapOrigins]
  · simp [s₂, h₁, State.mapOrigins]
  · simp [s₂, h₁, State.mapOrigins]

theorem configurationRequest_answered (htrain : s.boot.pcieTraining = true)
    (h : s.boot.phase = .running ∨ s.boot.phase = .pinReset ∨ s.boot.phase = .logicReset) :
    configurationRequest v s = s.emit (.completion (configWord s v)) := by
  unfold configurationRequest
  rw [htrain]
  rcases h with h | h | h
  · rw [h]; rfl
  · rw [h]; rfl
  · rw [h]; rfl

theorem configurationRequest_retried (htrain : s.boot.pcieTraining = true) (hrun : s.boot.phase ≠ .running) (hpin : s.boot.phase ≠ .pinReset)
    (hlogic : s.boot.phase ≠ .logicReset) : configurationRequest v s = s.emit .retryStatus := by
  unfold configurationRequest
  rw [htrain]
  cases hphase : s.boot.phase with
  | running => exact absurd hphase hrun
  | pinReset => exact absurd hphase hpin
  | logicReset => exact absurd hphase hlogic
  | _ => rfl

end HostRegisters

/-- Settles O35: the doorbells by the index rule, RING_RESET and the replies by what a stalled ring keeps (`unstalled_restall`). -/
theorem hostRegisters : Obligations.HostRegisters := by
  intro n v t s u hu
  subst hu
  refine ⟨fun hn hstate => ⟨fun hkind => ⟨fun hbad => ?_, fun hforward hroom => ?_, ?_⟩,
      fun hkind hwf => ⟨fun hbad => ?_, fun hforward hroom => ?_, ?_⟩⟩,
    fun hn htr => ⟨fun hstate => ?_, ?_⟩, fun hmin hn => ?_, fun hn hwf hstate => ?_, ?_, event_of rfl t _ s, fun hn hdelayed hover => ?_,
    fun hn hdelayed => ?_, fun hn hwf hnone => ?_, fun hn hwf w rest hw hring hfrees hstate hkind hroom => ?_, ?_,
    fun htrain => ⟨fun hphase => ?_, fun hrun hpin hlogic => ?_⟩⟩
  · exact (event_of (decide_eq_true hn) t _ s).trans (congrArg _ ((prodDoorbell_active hkind hstate).trans (if_pos (badIndex_eq_true hbad))))
  · exact (event_of (decide_eq_true hn) t _ s).trans
      (congrArg _ ((prodDoorbell_active hkind hstate).trans (if_neg (Bool.not_eq_true _ ▸ badIndex_eq_false hforward hroom))))
  · exact (event_of (decide_eq_true hn) t _ s).trans (congrArg _ (consDoorbell_idle hkind))
  · exact (event_of (decide_eq_true hn) t _ s).trans (congrArg _ ((consDoorbell_active hkind hstate).trans (if_pos (badIndex_eq_true hbad))))
  · have moved := (consDoorbell_active hkind hstate).trans (if_neg (Bool.not_eq_true _ ▸ badIndex_eq_false hforward hroom))
    exact ⟨_, (event_of (decide_eq_true hn) t _ s).trans (congrArg _ moved), rfl, consumed_spec hwf n (v % 2 ^ 32)⟩
  · exact (event_of (decide_eq_true hn) t _ s).trans (congrArg _ (prodDoorbell_idle hkind))
  · refine (event_of (decide_eq_true (show n < 64 by omega)) t _ s).trans (congrArg _ ?_)
    unfold enableRing
    extract_lets r
    rw [if_neg (not_or.mpr ⟨by omega, htr⟩), if_pos rfl, if_pos hstate]
  · refine (event_of (decide_eq_true (show n < 64 by omega)) t _ s).trans (congrArg _ ?_)
    unfold enableRing
    extract_lets r
    rw [if_neg (not_or.mpr ⟨by omega, htr⟩), if_neg Bool.false_ne_true]
  · refine (event_of (decide_eq_true hn) t _ s).trans (congrArg _ ?_)
    exact if_pos (.inl (by omega))
  · obtain ⟨own, others⟩ := ringReset_spec hwf hstate
    refine ⟨_, event_of (decide_eq_true hn) t _ s, ?_, (congrArg Ring.prod own :), (congrArg Ring.cons own :), (congrArg Ring.faultCause own :),
      (congrArg Ring.state own :), others⟩
    rw [ringReset_eq hstate]
    rfl
  · exact ⟨_, event_of rfl t _ s, rfl, fun i hi => bit_hostErrClear v i _ hi⟩
  · exact (event_of (decide_eq_true hn) t _ s).trans (congrArg _ (if_pos ⟨hdelayed, hover⟩))
  · exact (event_of (decide_eq_true hn) t _ s).trans (congrArg _ (if_neg fun h => Bool.false_ne_true (hdelayed.symm.trans h.1)))
  · exact (event_of (decide_eq_true hn) t _ s).trans (congrArg _ (replyWrite_none hnone .ok))
  · obtain ⟨hput, hprod, hcons⟩ := ringPut_ok hwf w.words hstate hroom
    refine ⟨_, (event_of (decide_eq_true hn) t _ s).trans (congrArg _ (replyWrite_front hw hring hfrees .ok hput)), ?_, ?_, ?_⟩
    · rw [resetReply_host]
      rfl
    · rw [← hprod]
      unfold ringOf
      rw [resetReply_host]
      exact ringOf_restall_prod ((ringPut n w.words .ok (s.at t)).1.modHost fun h => { h with waiting := rest }) n
    · rw [← hcons]
      unfold ringOf
      rw [resetReply_host]
      exact ringOf_restall_cons ((ringPut n w.words .ok (s.at t)).1.modHost fun h => { h with waiting := rest }) n
  · exact ⟨_, event_of rfl t _ s, hostInterfaceReset_spec _⟩
  · exact (event_of rfl t _ s).trans (congrArg _ (configurationRequest_answered htrain hphase))
  · exact (event_of rfl t _ s).trans (congrArg _ (configurationRequest_retried htrain hrun hpin hlogic))

end Sys2Proof.Machine
end
section
/-! How packets come in, go on and end (02 R55–R77; 13 R460; 15 R537). -/

namespace Sys2Proof.Machine

section Packets

variable {s t u : State} {n m slots : Nat} {r : Ring} {given ws : List Word} {errs : List (Nat × MemErr)} {o : Origin}

theorem Streamed.servesCommands_eq (h : Streamed s t) : servesCommands t = servesCommands s := by
  unfold Streamed at h
  rw [h]
  rfl

theorem phase_of_servesCommands (h : servesCommands s = true) : s.boot.phase = .running := by
  unfold servesCommands at h
  exact beq_iff_eq.mp (Bool.and_eq_true _ _ ▸ h).1

theorem consume_streamed (n slots : Nat) (s : State) : Streamed s (consume n slots s) := by
  unfold consume
  extract_lets r cons s₁ s₂ s₃
  have first : Streamed s s₂ := rfl
  have shadowed : Streamed s₂ s₃ := by
    simp only [s₃]
    split
    · exact Streamed.refl s₂
    · exact Streamed.writeOut s₂ _ _
  exact (first.trans shadowed).trans (Streamed.ringIrq n s₃)

/-! A COMMAND ring with a packet: what PACKET_TAKE finds (R62, R64, R65). -/

theorem packetTake_stalled (hserve : servesCommands s = true) (hr : r = ringOf s n) (hkind : r.kind = 0) (hstate : r.state = .active)
    (hopen : r.destroying = false) (hsome : r.prod ≠ r.cons) (hlack : lacksRoom s r.paired = true) :
    packetTake n given .ok errs s = s.modRing n fun r => { r with stalled := true } := by
  subst hr
  unfold packetTake
  extract_lets r
  rw [if_neg (by simp [r, hserve, hkind, hstate, hopen, hsome]), if_pos hlack]

theorem packetTake_read (hserve : servesCommands s = true) (hr : r = ringOf s n) (hkind : r.kind = 0) (hstate : r.state = .active)
    (hopen : r.destroying = false) (hsome : r.prod ≠ r.cons) (hlack : lacksRoom s r.paired = false)
    (ht : t = s.modRing n fun r => { r with stalled := false }) (hws : ws = ringPacket t r given) : packetTake n given .ok errs s =
      if 4092 < lengthOf ws ∨ r.size < slotsOf ws.length then
        (t.faultRing n 2).turnAway (ringOrigin t n r) ws (if versionOk ws then stBadLength else stHdrVersion)
      else if r.occupied < slotsOf ws.length ∨ fenced t n (orderedBit ws) then t
      else (consume n (slotsOf ws.length) t).takePacket (ringOrigin t n r) ws errs := by
  subst hr ht hws
  unfold packetTake
  extract_lets r s₁ ws o slots s₂
  have hok : ¬ ((Dma.ok = .failed) ∧ r.transport = 0) := fun h => nomatch h.1
  have same : s₂ = s₁ := if_neg fun h => nomatch h.1
  rw [if_neg (by simp [r, hserve, hkind, hstate, hopen, hsome]), if_neg (by rw [hlack]; exact Bool.false_ne_true), if_neg hok, same]

theorem takePacket_version (hserve : servesCommands s = true) (hv : versionOk ws = false) :
    s.takePacket o ws errs = s.turnAway o ws stHdrVersion := by simp [State.takePacket, hserve, hv]

theorem takePacket_header (hserve : servesCommands s = true) (hv : versionOk ws = true) (hbad : headerBad ws = true) :
    s.takePacket o ws errs = s.turnAway o ws stRange := by simp [State.takePacket, hserve, hv, hbad]

/-- R55, R70: a packet that is for this device alone is executed here. -/
theorem takePacket_own (hserve : servesCommands s = true) (hv : versionOk ws = true) (hbad : headerBad ws = false) (hf : forwardBit ws = false)
    (htarget : targetOf ws = s.drove.devAddr) : s.takePacket o ws errs = s.deliver o ws errs := by
  have noCopies : s.forwardCopies o ws = s := by simp [State.forwardCopies, hf]
  simp [State.takePacket, hserve, hv, hbad, State.route, htarget, noCopies]

theorem deliver_known {op : Op} (hop : Op.ofCode (opcodeOf ws) = some op) : s.deliver o ws errs = runCommand op (bodyOf op) (packetOf o ws errs) s := by
  unfold State.deliver
  rw [hop]

theorem deliver_unknown (hop : Op.ofCode (opcodeOf ws) = none) : s.deliver o ws errs = s.turnAway o ws stBadOpcode := by
  unfold State.deliver
  rw [hop]

/-! Datagrams (13 R460, R479). -/

theorem udpDatagram_dropped {via ip port : Nat} (hserve : servesCommands s = true) (hen : (portOf s via).enable = true)
    (hup : (portOf s via).linkUp = true) (hsrc : allowedSource s ip = false) :
    udpDatagram n via ip port true ws s = s.modNet fun k => { k with framesDropped := sat32 k.framesDropped } := by
  have hphase := phase_of_servesCommands hserve
  unfold udpDatagram
  rw [if_neg (by simp [hphase, hen, hup]), if_pos (by simp [hsrc])]

/-- One packet fills the datagram and its ring has room. -/
theorem udpDatagram_taken {via ip port : Nat} (hserve : servesCommands s = true) (hen : (portOf s via).enable = true)
    (hup : (portOf s via).linkUp = true) (hlen : ws.length ≤ 368) (hudp : s.net.udpEnabled = true) (hport : bit s.net.udpPorts via = true)
    (hsrc : allowedSource s ip = true) (hkind : (ringOf s n).kind = 0) (htr : (ringOf s n).transport = 2) (hstate : (ringOf s n).state = .active)
    (hmin : 5 ≤ ws.length) (hwhole : ws.length = 5 + lengthOf ws) (hreply : replyMost ws ≤ 363)
    (hnew : ∀ k ∈ s.host.kept, k.ring = n → k.ip = ip → k.port = port → k.tag ≠ ws.getD 1 0)
    (hroom : slotsOf ws.length ≤ (ringOf s n).size - (ringOf s n).occupied) :
    udpDatagram n via ip port true ws s =
      (s.keepTag { ring := n, ip := ip, port := port, tag := ws.getD 1 0, replies := [] }).intoRing n via ip port ws := by
  have hphase := phase_of_servesCommands hserve
  have unknown : (s.host.kept.find? fun k => k.ring == n && k.ip == ip && k.port == port && k.tag == ws.getD 1 0) = none := by
    rw [List.find?_eq_none]
    intro k hk
    simpa [and_assoc] using hnew k hk
  have packet : udpPacket n via ip port ws s =
      (s.keepTag { ring := n, ip := ip, port := port, tag := ws.getD 1 0, replies := [] }).intoRing n via ip port ws := by
    unfold udpPacket
    simp only [unknown]
    rw [if_neg (fun h => absurd h.2 (Nat.not_lt.mpr hreply)), if_neg (Nat.not_lt.mpr hroom)]
  obtain ⟨fuel, hfuel⟩ := Nat.exists_eq_succ_of_ne_zero (n := ws.length) (by omega)
  have rest (s : State) : udpPayload n via ip port fuel [] s = s := by
    cases fuel with
    | zero => rfl
    | succ k => rfl
  unfold udpDatagram
  rw [if_neg (by simp [hphase, hen, hup]), if_neg (by simp [hudp, hport, hsrc, hlen]), if_neg (by simp [hkind, htr, hstate]), hfuel, udpPayload,
    if_neg (by simp [List.isEmpty_iff, ← List.length_eq_zero_iff, hfuel]), if_neg (by omega), ← hwhole, List.drop_length, List.take_length, rest,
    packet]

theorem ringOf_keepTag (k : KeptReply) (m : Nat) : ringOf (s.keepTag k) m = ringOf s m := rfl

theorem intoRing_spec (hwf : Tab.wf {} s.host.rings = true) (n via ip port : Nat) (ws : List Word) :
    (ringOf (s.intoRing n via ip port ws) n).prod = ((ringOf s n).prod + slotsOf ws.length) % 2 ^ 32 ∧
    (s.intoRing n via ip port ws).host.senders =
      s.host.senders ++ [{ ring := n, index := (ringOf s n).prod, via := via, ip := ip, port := port }] ∧
    (∀ m, m ≠ n → ringOf (s.intoRing n via ip port ws) m = ringOf s m) ∧ (s.intoRing n via ip port ws).dev = s.dev ∧
    (s.intoRing n via ip port ws).loop = s.loop := by
  unfold State.intoRing
  extract_lets r s₁ s₂
  have host₁ : s₁.host = s.host := writeOut_host _ _ s
  have written : Streamed s s₁ := Streamed.writeOut s _ _
  have wf₂ : Tab.wf {} s₂.host.rings = true := by
    rw [show s₂.host.rings = s₁.host.rings from rfl, host₁]
    exact hwf
  have ring₁ (m : Nat) : ringOf s₁ m = ringOf s m := congrArg (fun h : HostUnit => look ({} : Ring) h.rings m) host₁
  have ring₂ (m : Nat) : ringOf s₂ m = ringOf s m := ring₁ m
  refine ⟨?_, ?_, fun m hm => ?_, written.dev_eq, written.loop_eq⟩
  · rw [ringOf_modRing wf₂, if_pos rfl, ring₂]
  · exact congrArg (fun h : HostUnit => h.senders ++ [{ ring := n, index := r.prod, via := via, ip := ip, port := port }]) host₁
  · rw [ringOf_modRing wf₂, if_neg hm, ring₂]

/-! Forwarding to a member, sending again and giving up (02 R72, R75; 10 R365). -/

theorem memberOf_modMember (hwf : Tab.wf {} s.drove.members = true) (m k : Nat) (f : Member → Member) :
    memberOf (s.modMember m f) k = if k = m then f (memberOf s k) else memberOf s k := look_upd f m k hwf

/-- A packet for a member waits in the exchange with it. -/
def handed (p : CmdPacket) (k : Member) : Member := { k with peer := { k.peer with out := k.peer.out ++ [p] } }

theorem memberOf_forwarded (hwf : Tab.wf {} s.drove.members = true) (m k : Nat) (p : CmdPacket) (f : List Forwarded → List Forwarded) :
    memberOf ((s.modDrove fun d => { d with fwd := f d.fwd }).toMember m p) k = if k = m then handed p (memberOf s k) else memberOf s k :=
  look_upd (handed p) m k hwf

/-- The packet at the front goes to the exchange with its member. -/
theorem forward_front {e : Forwarded} {rest : List Forwarded} (hsilent : silentHalf s = false) (hfwd : s.drove.fwd = e :: rest)
    (hsent : e.sent = false) (hdue : 0 < cycDiff (devCycle s) e.cycle) : forward s =
      (s.modDrove fun d => { d with fwd := d.fwd.map fun g => if g.id = e.id then { g with sent := true } else g }).toMember e.member
        { kind := 0, words := e.words, ref := e.id } := by
  have found : extractFirst (fun e => !e.sent && 0 < cycDiff (devCycle s) e.cycle) s.drove.fwd = some (e, rest) := by
    simp [hfwd, extractFirst, hsent, hdue]
  unfold forward
  rw [hsilent, found]
  rfl

theorem resendTo_none {m : Nat} (h : ∀ e ∈ (memberOf s m).peer.sent, unanswered s false e = false) : resendTo s m = s := by
  have none : (memberOf s m).peer.sent.find? (unanswered s false) = none :=
    List.find?_eq_none.mpr fun e he hn => Bool.false_ne_true ((h e he).symm.trans hn)
  unfold resendTo
  rw [none]

theorem commandResend_none (h : ∀ m, ∀ e ∈ (memberOf s m).peer.sent, unanswered s false e = false) : commandResend s = s := by
  unfold commandResend
  induction s.drove.members.map (·.1) with
  | nil => rfl
  | cons m l ih => rw [List.foldl_cons, resendTo_none (h m), ih]

/-- A packet that is not answered again: still to be acknowledged, and not sent twice. -/
theorem sent_of_unanswered {e : SentPacket} {again : Bool} (h : unanswered s again e = true) : e.sentCycle.isSome = true ∧ e.resent = again := by
  unfold unanswered at h
  simp only [Bool.and_eq_true, beq_iff_eq] at h
  obtain ⟨⟨-, hresent⟩, hcycle⟩ := h
  cases hc : e.sentCycle with
  | none => simp [hc] at hcycle
  | some c => exact ⟨rfl, hresent⟩

theorem seqLe_refl (a : Nat) : seqLe a a = true := by simp [seqLe, signed]

/-- A single packet that is unanswered is sent once more. -/
theorem resendTo_one {e : SentPacket} (hwf : Tab.wf {} s.drove.members = true) (m : Nat) (hsent : (memberOf s m).peer.sent = [e])
    (h : unanswered s false e = true) : resendTo s m = s.modDrove (fun _ => (resendTo s m).drove) ∧
    (memberOf (resendTo s m) m).peer.sent = [{ e with sentWords := 0, frag := 0, sentCycle := none, resent := true }] := by
  have found : (memberOf s m).peer.sent.find? (unanswered s false) = some e := by simp [hsent, h]
  obtain ⟨hcycle, hresent⟩ := sent_of_unanswered h
  unfold resendTo
  rw [found]
  simp only
  refine ⟨rfl, ?_⟩
  have member (f : Member → Member) (g : DroveUnit → List Forwarded) :
      memberOf ((s.modMember m f).modDrove fun d => { d with fwd := g d }) m = f (memberOf s m) :=
    (memberOf_modMember hwf m m f).trans (if_pos rfl)
  rw [member]
  simp [hsent, hcycle, hresent, seqLe_refl]

/-- A single packet that stays unanswered ends with ST_TIMEOUT. -/
theorem giveUpTo_one {e : SentPacket} {g : Forwarded} (hwf : Tab.wf {} s.drove.members = true) (m : Nat) (hsent : (memberOf s m).peer.sent = [e])
    (h : unanswered s true e = true) (hfwd : s.drove.fwd = [g]) (hg : g.carried m e = true) :
    ∃ x, giveUpTo s m = x.turnAway g.origin g.words stTimeout ∧ x = s.modDrove (fun _ => x.drove) ∧ x.drove.fwd = [] ∧
      (memberOf x m).peer.sent = [{ e with given := true }] := by
  unfold giveUpTo
  extract_lets lost ends out s₁ s₂
  have hlost : lost = [e] := by simp [lost, hsent, h]
  have hends : ends g = true := by simp [ends, hlost, hg]
  have hout : out = [g] := by simp [out, hfwd, hends]
  rw [hout]
  refine ⟨s₂, rfl, rfl, ?_, ?_⟩
  · simp [s₂, s₁, State.modMember, hfwd, hends]
  · have member : memberOf s₂ m = memberOf s₁ m := rfl
    rw [member, memberOf_modMember hwf, if_pos rfl]
    simp [hsent, hlost]

/-! A mirrored command, and the end of a command (02 R69; 15 R537). -/

theorem mirroredCommand_idle (h : s.pair.role ≠ .standby) : mirroredCommand ws s = s := if_pos (.inr h)

theorem mirroredCommand_known {op : Op} (hserve : servesCommands s = true) (hrole : s.pair.role = .standby) (hop : Op.ofCode (headWord ws 0) = some op) :
    mirroredCommand ws s = executeMirrored op { origin := .mirror, tag := ws.getD 1 0, params := ws.drop 2 } s := by
  have hphase := phase_of_servesCommands hserve
  unfold mirroredCommand
  rw [if_neg (by simp [hphase, hrole]), hop]

theorem executeMirrored_ok {op : Op} {p : Packet} (hunit : unitFailed s op = false) (hbody : bodyOf op p s = (t, .done stOk [])) :
    executeMirrored op p s = t.recordConfig op stOk := by
  unfold executeMirrored
  rw [hunit, hbody]
  rfl

theorem commandComplete_fill {i : Nat} {d : Deferred} (hi : s.host.deferred[i]? = some d) (hd : d.op = .memFill) (dma : Dma) (passing : Nat) :
    commandComplete i dma passing s = ((fillFinish d.packet s).1.modHost fun h => { h with deferred := h.deferred.eraseIdx i }).answer .memFill
      d.packet (fillFinish d.packet s).2 [] := by
  have finished : finish d dma passing s = some ((fillFinish d.packet s).1, (fillFinish d.packet s).2, []) := by simp [finish, hd]
  unfold commandComplete
  rw [hi]
  simp only [finished, hd]

theorem commandComplete_none {i : Nat} (hi : s.host.deferred.length ≤ i) (dma : Dma) (passing : Nat) : commandComplete i dma passing s = s := by
  unfold commandComplete
  rw [List.getElem?_eq_none hi]

end Packets

/-- Settles O36: PACKET_TAKE by what it reads (`packetTake_read`), a datagram by its one packet, the exchange with a member packet by packet. -/
theorem packetsOnTheirWay : Obligations.PacketsOnTheirWay := by
  intro n t s u hu hserve
  subst hu
  refine ⟨fun given errs r hn hr hkind hstate hopen hsome => ⟨fun hlack => ?stalled, fun hlack x ws hx hws => ?taken⟩,
    fun via ip port ws hn hvia hen hup => ?datagram, fun hcycle hstart => ?timed, fun hcycle => ?untimed, fun hsilent => ?silent,
    fun hsilent hwf e rest hfwd hsent hdue => ?forwarded, fun hnone => ?answered, fun m e hm hwf hsent hun => ?again,
    fun m e g hm hwf hsent hun hfwd hg => ?givenUp, fun ws hrole => ?alone, fun ws op hrole hop => ?mirrored,
    fun ws op x hrole hop hunit hbody => ?done, fun i d hi hd => ?filled, fun i hi => ?noCommand⟩
  case stalled => exact (event_of (decide_eq_true hn) t _ s).trans (congrArg _ (packetTake_stalled hserve hr hkind hstate hopen hsome hlack))
  case taken =>
    have read := (event_of (decide_eq_true hn) t _ s).trans
      (congrArg _ (packetTake_read (errs := errs) hserve hr hkind hstate hopen hsome hlack hx hws))
    refine ⟨fun hlong => read.trans (congrArg _ (if_pos hlong)), fun hshort hsize => ?_⟩
    have fits := read.trans (congrArg _ (if_neg (not_or.mpr ⟨Nat.not_lt.mpr hshort, Nat.not_lt.mpr hsize⟩)))
    refine ⟨fun hfence => fits.trans (congrArg _ (if_pos (.inr hfence))), fun hwhole hfence y hy => ?_⟩
    have taken := fits.trans (congrArg _ (if_neg (not_or.mpr ⟨Nat.not_lt.mpr hwhole, (Bool.not_eq_true _).mpr hfence⟩)))
    rw [← hy] at taken
    have serves : servesCommands y = true := by
      rw [hy, (consume_streamed n _ x).servesCommands_eq, hx]
      exact hserve
    refine ⟨fun hv => taken.trans (congrArg _ (takePacket_version serves hv)), fun hv hbad => taken.trans (congrArg _ (takePacket_header serves hv hbad)),
      fun hv hbad hf htarget => ?_⟩
    have own := taken.trans (congrArg _ (takePacket_own serves hv hbad hf htarget))
    exact ⟨fun op hop => own.trans (congrArg _ (deliver_known hop)), fun hop => own.trans (congrArg _ (deliver_unknown hop))⟩
  case datagram =>
    have hevent : (decide (n < 64) && decide (via < 2)) = true := by simp [hn, hvia]
    have hphase := phase_of_servesCommands hserve
    refine ⟨fun _ _ _ hsrc => (event_of hevent t _ s).trans (congrArg _ (udpDatagram_dropped hserve hen hup hsrc)),
      fun hlen hudp hport hsrc hkind htr hstate hmin hwhole hreply hnew hroom hwf => ?_, fun hip hmac => ?_, fun hip => ?_⟩
    · exact ⟨_, (event_of hevent t _ s).trans (congrArg _
        (udpDatagram_taken hserve hen hup hlen hudp hport hsrc hkind htr hstate hmin hwhole hreply hnew hroom)),
        intoRing_spec (s := (s.at t).keepTag { ring := n, ip := ip, port := port, tag := ws.getD 1 0, replies := [] }) hwf n via ip port ws⟩
    · exact (event_of (decide_eq_true hvia) t _ s).trans (congrArg _ (if_pos ⟨hphase, hen, hup, hmac, hip, rfl⟩))
    · exact (event_of (decide_eq_true hvia) t _ s).trans (congrArg _ (if_neg fun h => hip h.2.2.2.2.2))
  case timed =>
    refine (event_of rfl t _ s).trans (congrArg _ ?_)
    unfold timedCommand
    rw [if_neg (by simp [hserve, hcycle, hstart])]
    rfl
  case untimed =>
    refine (event_of rfl t _ s).trans (congrArg _ ?_)
    unfold timedCommand
    rw [if_pos (by simp [hcycle])]
  case silent => exact (event_of rfl t _ s).trans (congrArg _ (if_pos hsilent))
  case forwarded =>
    refine ⟨_, (event_of rfl t _ s).trans (congrArg _ (forward_front hsilent hfwd hsent hdue)), rfl, ?_, fun m hm => ?_, ?_⟩
    · rw [memberOf_forwarded hwf, if_pos rfl]
      rfl
    · rw [memberOf_forwarded hwf, if_neg hm]
    · simp [State.toMember, State.modMember, hfwd]
  case answered => exact (event_of rfl t _ s).trans (congrArg _ (commandResend_none hnone))
  case again =>
    have one : commandResend (s.at t) = resendTo (s.at t) m := by rw [commandResend, hm]; rfl
    exact ⟨_, (event_of rfl t _ s).trans (congrArg _ one), resendTo_one hwf m hsent hun⟩
  case givenUp =>
    have one : stTimeoutEvent (s.at t) = giveUpTo (s.at t) m := by rw [stTimeoutEvent, hm]; rfl
    obtain ⟨x, gone, spec⟩ := giveUpTo_one hwf m hsent hun hfwd hg
    exact ⟨x, (event_of rfl t _ s).trans (congrArg _ (one.trans gone)), spec⟩
  case alone => exact (event_of rfl t _ s).trans (congrArg _ (mirroredCommand_idle hrole))
  case mirrored => exact (event_of rfl t _ s).trans (congrArg _ (mirroredCommand_known hserve hrole hop))
  case done =>
    exact (event_of rfl t _ s).trans (congrArg _ ((mirroredCommand_known hserve hrole hop).trans (executeMirrored_ok hunit hbody)))
  case filled => exact (event_of rfl t _ s).trans (congrArg _ (commandComplete_fill hi hd .ok 0))
  case noCommand => exact (event_of rfl t _ s).trans (congrArg _ (commandComplete_none hi .ok 0))

end Sys2Proof.Machine
end
section
/-! Accesses to memory, the scrubber and the quad-SPI port (16 R550–R561; 02 R53, R54). -/

namespace Sys2Proof.Machine

section Accesses

variable {s t u : State} {x : Access} {k : Area} {a n v d e : Nat}

/-! 18 R601: a domain that is raised. -/

/-- Raising a domain leaves the table of domains, or the failure of the one that it changes. -/
theorem wakeDomain_domains (d : Nat) (s : State) : (wakeDomain d s).pwr.domains = s.pwr.domains ∨
    ∃ f : Domain → Domain, (∀ m, (f m).failed = m.failed) ∧ (wakeDomain d s).pwr.domains = upd {} s.pwr.domains d f := by
  unfold wakeDomain
  extract_lets m woken
  split
  · exact .inl rfl
  · split
    · exact .inr ⟨fun m => { m with queued := some .on, cutShort := true }, fun _ => rfl, rfl⟩
    · unfold retarget
      extract_lets m'
      split
      · exact .inl rfl
      · split
        · exact .inr ⟨fun m => { m with queued := some .on }, fun _ => rfl, rfl⟩
        · split
          · exact .inl rfl
          · exact .inr ⟨fun m => { m with going := some .on, since := s.now }, fun _ => rfl, rfl⟩

theorem wakeDomain_wf (hwf : Tab.wf {} s.pwr.domains = true) (d : Nat) : Tab.wf {} (wakeDomain d s).pwr.domains = true := by
  rcases wakeDomain_domains d s with same | ⟨f, -, moved⟩
  · rw [same]
    exact hwf
  · rw [moved]
    exact upd_wf _ _ hwf

theorem domainFailed_wake_other (h : e ≠ d) : domainFailed (wakeDomain d s) e = domainFailed s e := by
  unfold domainFailed
  rcases wakeDomain_domains d s with same | ⟨f, -, moved⟩
  · rw [same]
  · rw [moved, upd, look_put_other _ _ h]

theorem domainFailed_wake (hwf : Tab.wf {} s.pwr.domains = true) : domainFailed (wakeDomain d s) e = domainFailed s e := by
  unfold domainFailed
  rcases wakeDomain_domains d s with same | ⟨f, hf, moved⟩
  · rw [same]
  · rw [moved, look_upd f d e hwf]
    split
    · exact hf _
    · rfl

theorem readByte_wake (d : Nat) (s : State) (y : Nat) : readByte (wakeDomain d s) y = readByte s y := by
  unfold readByte
  rw [wakeDomain_mem]

theorem readNat_wake (d : Nat) (s : State) (y n : Nat) : readNat (wakeDomain d s) y n = readNat s y n := readNat_congr fun i _ => readByte_wake d s (y + i)

theorem poisonBlocks_wake (d : Nat) (s : State) (a n : Nat) (whole : Bool) : poisonBlocks (wakeDomain d s) a n whole = poisonBlocks s a n whole := by
  unfold poisonBlocks
  rw [wakeDomain_mem]

theorem canonical_wake (h : Canonical s) (d : Nat) : Canonical (wakeDomain d s) := by
  unfold Canonical
  rw [wakeDomain_mem]
  exact h

/-! R550, R555: the areas of system memory. -/

theorem span_system (hn : 1 ≤ n) (hend : a + n ≤ 0x02000000) : spanArea a n = some .system := by
  rw [spanArea, areaOf_eq_some_system.mpr (show a < 0x02000000 by omega), areaOf_eq_some_system.mpr (show a + (n - 1) < 0x02000000 by omega), if_pos rfl]

theorem areaOf_set (h : a < 0x02000000) : areaOf (0x10000000 + a) = some .setAlias := by
  rw [areaOf, if_neg (by omega), if_pos (by omega)]

theorem areaOf_clear (h : a < 0x02000000) : areaOf (0x20000000 + a) = some .clearAlias := by
  rw [areaOf, if_neg (by omega), if_neg (by omega), if_pos (by omega)]

theorem span_set (hn : 1 ≤ n) (hend : a + n ≤ 0x02000000) : spanArea (0x10000000 + a) n = some .setAlias := by
  rw [spanArea, areaOf_set (show a < 0x02000000 by omega), Nat.add_assoc, areaOf_set (show a + (n - 1) < 0x02000000 by omega), if_pos rfl]

theorem span_clear (hn : 1 ≤ n) (hend : a + n ≤ 0x02000000) : spanArea (0x20000000 + a) n = some .clearAlias := by
  rw [spanArea, areaOf_clear (show a < 0x02000000 by omega), Nat.add_assoc, areaOf_clear (show a + (n - 1) < 0x02000000 by omega), if_pos rfl]

theorem span_unmapped (hmin : 0x02000000 ≤ a) (hend : a + 4 ≤ 0x10000000) : spanArea a 4 = none := by
  have unmapped {b : Nat} (hmin : 0x02000000 ≤ b) (hend : b < 0x10000000) : areaOf b = none := by
    rw [areaOf, if_neg (by omega), if_neg (by omega), if_neg (by omega), if_neg (by omega), if_neg (by omega), if_neg (by omega), if_neg (by omega),
      if_neg (by omega)]
  rw [spanArea, unmapped hmin (by omega), unmapped (show 0x02000000 ≤ a + (4 - 1) by omega) (by omega), if_pos rfl]

theorem storedAt_set (h : a < 0x02000000) : storedAt (0x10000000 + a) = a := by
  rw [storedAt, if_pos (by omega)]
  omega

theorem storedAt_clear (h : a < 0x02000000) : storedAt (0x20000000 + a) = a := by
  rw [storedAt, if_pos (by omega)]
  omega

/-! R552–R555: one access without an error on its way. -/

/-- System memory and the two areas that set and clear its bits. -/
def Area.ofSystem : Area → Bool
  | .system | .setAlias | .clearAlias => true
  | _ => false

theorem busAccess_system (hspan : spanArea x.addr x.size = some k) (hk : k.ofSystem = true) (hform : formOk x.addr x.size = true)
    (hstands : domainFailed s 3 = false) (herr : x.err = .clean) : busAccess x s = storageAccess x k (wakeDomain 3 s) := by
  unfold busAccess
  rw [hspan]
  cases k with
  | system => simp [hform, hstands, herr, areaDomain, State.fabric]
  | setAlias => simp [hform, hstands, herr, areaDomain, State.fabric]
  | clearAlias => simp [hform, hstands, herr, areaDomain, State.fabric]
  | _ => cases hk

theorem busAccess_misformed (hspan : spanArea x.addr x.size = some .system) (hform : formOk x.addr x.size = false) : busAccess x s = (s, none) := by
  unfold busAccess
  rw [hspan]
  simp [hform]

theorem busAccess_unmapped (hspan : spanArea x.addr x.size = none) : busAccess x s = (s, none) := by
  unfold busAccess
  rw [hspan]

theorem storageAccess_read (hdata : x.data = none) (herr : x.err = .clean) (hpoison : poisonBlocks s x.addr x.size false = none)
    (harea : areaOf x.addr = some .system) : storageAccess x .system s = (s, some (readNat s x.addr x.size)) := by
  have bytes := memBytes_of_area (n := x.size) harea (.inl rfl) s
  rw [storedAt_of_area (.inl harea)] at bytes
  unfold storageAccess
  simp only [hdata, herr, hpoison, State.stored, bytes]
  rfl

theorem storageAccess_write (hdata : x.data = some v) (herr : x.err = .clean)
    (hpoison : poisonBlocks s x.addr x.size (k != .setAlias && k != .clearAlias) = none) :
    storageAccess x k s = (memStore x.addr x.size v s, some 0) := by
  unfold storageAccess
  simp [hdata, herr, hpoison, State.stored]

theorem memStore_system (h : areaOf a = some .system) : memStore a n v s = s.writeNat a n v := by simp [memStore, h]

theorem memStore_set (h : a < 0x02000000) : memStore (0x10000000 + a) n v s = s.writeNat a n (readNat s a n ||| v) := by
  simp [memStore, areaOf_set h, storedAt_set h]

theorem memStore_clear (h : a < 0x02000000) : memStore (0x20000000 + a) n v s = s.writeNat a n (readNat s a n - (readNat s a n &&& v)) := by
  simp [memStore, areaOf_clear h, storedAt_clear h]

theorem readNat_writeNat (h : Canonical s) (a n v : Nat) : readNat (s.writeNat a n v) a n = v % 256 ^ n := by
  have hl : (bytesOfNat n v).length = n := bytesOfNat_length n v
  have spelled := readNat_of_bytes (u := s.writeNat a n v) (a := a) (bs := bytesOfNat n v) (fun i hi => readByte_writeBytes_at h hi)
  rwa [hl, natOfBytes_bytesOfNat] at spelled

theorem readByte_writeNat_other (h : Canonical s) {y : Nat} (hy : y < a ∨ a + n ≤ y) : readByte (s.writeNat a n v) y = readByte s y :=
  readByte_writeBytes_other h (by rw [bytesOfNat_length]; exact hy)

theorem readNat_lt (s : State) (a n : Nat) : readNat s a n < 256 ^ n := by
  have h := natOfBytes_lt ((List.range n).map fun i => readByte s (a + i))
  rwa [List.length_map, List.length_range] at h

/-- What a store into memory leaves as it was. -/
theorem writeNat_frame (s : State) (a n v : Nat) : (s.writeNat a n v).host = s.host ∧ (s.writeNat a n v).dev = s.dev ∧ (s.writeNat a n v).flt = s.flt ∧
    (s.writeNat a n v).boot = s.boot ∧ (s.writeNat a n v).pwr = s.pwr := by
  obtain ⟨m, k, written⟩ := s.writeBytes_eq a (bytesOfNat n v)
  rw [State.writeNat, written]
  exact ⟨rfl, rfl, rfl, rfl, rfl⟩

/-- A domain raised leaves what a store and an answer speak of. -/
theorem wakeDomain_frame (d : Nat) (s : State) : (wakeDomain d s).host = s.host ∧ (wakeDomain d s).dev = s.dev ∧ (wakeDomain d s).flt = s.flt := by
  obtain ⟨w, raised⟩ := wakeDomain_eq d s
  rw [raised]
  exact ⟨rfl, rfl, rfl⟩

/-! R552: an access over BAR2. -/

theorem memoryAccess_bar2 (hpath : x.path = .bar2) (hphase : s.boot.phase = .running) (hsel : s.boot.hostSel = 0) (hstands : domainFailed s 1 = false) :
    memoryAccess x s = endAccess x (busAccess x (wakeDomain 1 s)) := by
  unfold memoryAccess
  rw [if_neg (by simp [pathOpen, hpath, hsel]), if_neg (by simp [hphase]), if_neg (by simp [hstands]), if_neg (by simp [hpath])]

/-- A number stored at `a`, in a device where the domains on its way were raised. -/
theorem stored_spec (a n v : Nat) (hw : Canonical t) (hmem : t.mem = s.mem) (hhost : t.host = s.host) (hdev : t.dev = s.dev)
    (hflt : t.flt = s.flt) : readNat (t.writeNat a n v) a n = v % 256 ^ n ∧
    (∀ y, y < a ∨ a + n ≤ y → readByte (t.writeNat a n v) y = readByte s y) ∧ (t.writeNat a n v).host = s.host ∧
    (t.writeNat a n v).dev = s.dev ∧ (t.writeNat a n v).flt = s.flt := by
  obtain ⟨whost, wdev, wflt, -, -⟩ := writeNat_frame t a n v
  refine ⟨readNat_writeNat hw a n v, fun y hy => ?_, whost.trans hhost, wdev.trans hdev, wflt.trans hflt⟩
  rw [readByte_writeNat_other hw hy, readByte, hmem]
  rfl


/-- R552, R556: a read of system memory without poison is answered. -/
theorem read_system {path : Path} (hn : 1 ≤ n) (hend : a + n ≤ 0x02000000) (hform : formOk a n = true) (hstands : domainFailed s 3 = false)
    (hpoison : poisonBlocks s a n false = none) :
    busAccess { path := path, addr := a, size := n } s = (wakeDomain 3 s, some (readNat s a n)) := by
  rw [busAccess_system (span_system hn hend) rfl hform hstands rfl,
    storageAccess_read rfl rfl ((poisonBlocks_wake 3 s a n false).trans hpoison) (areaOf_eq_some_system.mpr (show a < 0x02000000 by omega)), readNat_wake]

/-- R552, R553: a clean write of system memory stores its number. -/
theorem write_system {path : Path} (hn : 1 ≤ n) (hend : a + n ≤ 0x02000000) (hform : formOk a n = true) (hstands : domainFailed s 3 = false)
    (hpoison : poisonBlocks s a n true = none) :
    busAccess { path := path, addr := a, size := n, data := some v } s = ((wakeDomain 3 s).writeNat a n v, some 0) := by
  rw [busAccess_system (span_system hn hend) rfl hform hstands rfl, storageAccess_write rfl rfl ((poisonBlocks_wake 3 s a n true).trans hpoison),
    memStore_system (areaOf_eq_some_system.mpr (show a < 0x02000000 by omega))]

/-- The widths of the set and clear areas keep the alignment of the byte that they stand for. -/
theorem formOk_alias {b : Nat} (hn : n = 1 ∨ n = 2 ∨ n = 4 ∨ n = 8) (ha : a % n = 0) (hb : b % 8 = 0) : formOk (b + a) n = true := by
  unfold formOk
  rcases hn with rfl | rfl | rfl | rfl
  · simp [Nat.mod_one]
  · have : (b + a) % 2 = 0 := by omega
    simp [this]
  · have : (b + a) % 4 = 0 := by omega
    simp [this]
  · have : (b + a) % 8 = 0 := by omega
    simp [this]

theorem bitSetWrite_eq (hend : a + n ≤ 0x02000000) (hn : n = 1 ∨ n = 2 ∨ n = 4 ∨ n = 8) (ha : a % n = 0) (hphase : s.boot.phase = .running)
    (hstands : domainFailed s 3 = false) (hpoison : poisonBlocks s (0x10000000 + a) n false = none) :
    bitSetWrite a n v s = (wakeDomain 3 s).writeNat a n (readNat s a n ||| v) := by
  have hmin : 1 ≤ n := by omega
  unfold bitSetWrite
  rw [if_pos hphase, busAccess_system (span_set hmin hend) rfl (formOk_alias hn ha (by decide)) hstands rfl,
    storageAccess_write rfl rfl ((poisonBlocks_wake 3 s _ n false).trans hpoison), memStore_set (by omega), readNat_wake]

theorem bitClearWrite_eq (hend : a + n ≤ 0x02000000) (hn : n = 1 ∨ n = 2 ∨ n = 4 ∨ n = 8) (ha : a % n = 0) (hphase : s.boot.phase = .running)
    (hstands : domainFailed s 3 = false) (hpoison : poisonBlocks s (0x20000000 + a) n false = none) :
    bitClearWrite a n v s = (wakeDomain 3 s).writeNat a n (readNat s a n - (readNat s a n &&& v)) := by
  have hmin : 1 ≤ n := by omega
  unfold bitClearWrite
  rw [if_pos hphase, busAccess_system (span_clear hmin hend) rfl (formOk_alias hn ha (by decide)) hstands rfl,
    storageAccess_write rfl rfl ((poisonBlocks_wake 3 s _ n false).trans hpoison), memStore_clear (by omega), readNat_wake]

/-! 16 R561: the scrubber. -/

theorem sat32_le (c : Nat) : sat32 c ≤ c + 1 := by
  unfold sat32 satAdd
  exact Nat.min_le_right _ _

theorem sat32_ne_zero (c : Nat) : sat32 c ≠ 0 := by
  unfold sat32 satAdd
  exact Nat.ne_of_gt (Nat.lt_min.mpr ⟨by norm_num, Nat.succ_pos c⟩)

/-- A single error below the threshold is corrected and counted. -/
theorem corrected_spec (harea : bankOf a = (0, n)) (hwf : Tab.wf 0 s.mem.cePass = true) (hbelow : look 0 s.mem.cePass n < s.mem.ceThreshold) :
    ∃ m, s.corrected a = { s with mem := m } ∧ m.ce = sat32 s.mem.ce ∧ m.store = s.mem.store ∧ m.deLasting = s.mem.deLasting ∧
      m.scrubPasses = s.mem.scrubPasses := by
  unfold State.corrected
  rw [harea]
  simp only
  rw [if_neg]
  · exact ⟨_, rfl, rfl, rfl, rfl, rfl⟩
  · rintro ⟨hover, -⟩
    have counted : look 0 (upd 0 s.mem.cePass (64 * 0 + n) sat32) (64 * 0 + n) = sat32 (look 0 s.mem.cePass n) := by
      rw [look_upd sat32 _ _ hwf, if_pos rfl, Nat.mul_zero, Nat.zero_add]
    have := sat32_le (look 0 s.mem.cePass n)
    have hover : s.mem.ceThreshold < look 0 (upd 0 s.mem.cePass (64 * 0 + n) sat32) (64 * 0 + n) := hover
    omega

theorem bankOf_system (h : a < 0x02000000) : bankOf (a / 8 * 8) = (0, a / 64 % 32) := by
  have harea : areaOf (a / 8 * 8) = some .system := areaOf_eq_some_system.mpr (by omega)
  unfold bankOf
  rw [harea]
  simp only [Prod.mk.injEq, true_and]
  omega

theorem scrub_single (hphase : s.boot.phase = .running) (hpoison : poisonBlocks s (a / 8 * 8) 8 false = none) (last : Bool) :
    scrub a .single last s = if last then (s.corrected (a / 8 * 8)).modMem fun m =>
      { m with scrubPasses := sat32 m.scrubPasses, cePass := [], ceReported := [], passSNow := m.passS, fullRate := false }
      else s.corrected (a / 8 * 8) := by
  unfold scrub
  rw [if_neg (not_not.mpr hphase)]
  simp only [hpoison, State.fabric, State.stored]
  rfl

theorem scrub_double (hphase : s.boot.phase = .running) (hpoison : poisonBlocks s (a / 8 * 8) 8 false = none) :
    scrub a .doubleLasting false s = s.doubleError (a / 8 * 8) := by
  unfold scrub
  rw [if_neg (not_not.mpr hphase)]
  simp only [hpoison, State.fabric, State.stored]
  rfl

theorem forgetBanks_eq (f : State → Nat × Bool → State) (hf : ∀ s k, ∃ g, f s k = { s with graph := g }) :
    ∀ (l : List (Nat × Bool)) (s : State), ∃ g, l.foldl f s = { s with graph := g } := by
  intro l
  induction l with
  | nil => exact fun s => ⟨_, rfl⟩
  | cons k l ih =>
    intro s
    obtain ⟨g, h⟩ := hf s k
    obtain ⟨g', h'⟩ := ih (f s k)
    exact ⟨g', by rw [List.foldl_cons, h', h]⟩

/-- 16 R561: a fault in GRAPH memory changes the programs. -/
theorem graphMemoryFault_eq (addr : Nat) (s : State) : ∃ g, (graphMemoryFault addr s).1 = { s with graph := g } := by
  unfold graphMemoryFault
  extract_lets running lose all i n b hit shares touched
  have lost (banks : List (Nat × Bool)) (s : State) : ∃ g, lose banks s = { s with graph := g } := by
    obtain ⟨g, h⟩ := forgetBanks_eq (fun s (k : Nat × Bool) => if keepsShared ((slotOf s k.1).bank k.2) then
      (s.forgetBank k.1 k.2).modBank k.1 k.2 fun q => { q with state := .loaded } else s) (fun s k => by
        split
        · exact ⟨_, rfl⟩
        · exact ⟨_, rfl⟩) banks s
    exact ⟨_, (congrArg State.freeShared h).trans rfl⟩
  split
  · split
    · exact ⟨_, rfl⟩
    · split
      · exact lost _ s
      · exact ⟨_, rfl⟩
  · split
    · exact ⟨_, rfl⟩
    · exact lost _ s

theorem areaReaction_mem (h : a < 0x02000000) (s : State) : (areaReaction a s).1.mem = s.mem := by
  unfold areaReaction
  split
  · obtain ⟨g, hg⟩ := graphMemoryFault_eq a s
    rw [hg]
  · split
    · rfl
    · split
      · rfl
      · rw [if_neg (by omega), if_neg (by omega), if_neg (by omega)]

/-- R558: a lasting double error poisons its word and is counted. -/
theorem doubleError_spec (h : a < 0x02000000) (hfew : s.mem.poison.length < 64) :
    (s.doubleError a).mem = { s.mem with deLasting := sat32 s.mem.deLasting, lastErrAddr := a, poison := s.mem.poison ++ [a] } := by
  unfold State.doubleError
  extract_lets s₁ full s₂ r s₃
  have room : ¬ full := Nat.not_le.mpr hfew
  have second : s₂ = s₁.modMem fun m => { m with poison := m.poison ++ [a] } := if_neg room
  rw [if_neg room, (Reacted.reportFault r.1 1 2 r.2 a false).mem_eq, areaReaction_mem h, second]
  rfl

/-! 02 R53, R54: the quad-SPI port. -/

/-- What the port asks of the device before each word of its transaction. -/
structure QspiOpen (s : State) : Prop where
  canonical : Canonical s
  wf : Tab.wf {} s.pwr.domains = true
  stands : domainFailed s 3 = false
  clean : s.mem.poison = []

namespace QspiOpen

theorem unpoisoned (h : QspiOpen s) (a n : Nat) (whole : Bool) : poisonBlocks s a n whole = none := by
  unfold poisonBlocks
  rw [h.clean]
  rfl

theorem wake (h : QspiOpen s) (d : Nat) : QspiOpen (wakeDomain d s) where
  canonical := canonical_wake h.canonical d
  wf := wakeDomain_wf h.wf d
  stands := (domainFailed_wake h.wf).trans h.stands
  clean := by rw [wakeDomain_mem]; exact h.clean

theorem writeNat (h : QspiOpen s) (a n v : Nat) : QspiOpen (s.writeNat a n v) where
  canonical := State.writeNat_canonical a n v h.canonical
  wf := by rw [(writeNat_frame s a n v).2.2.2.2]; exact h.wf
  stands := by
    unfold domainFailed
    rw [(writeNat_frame s a n v).2.2.2.2]
    exact h.stands
  clean := by
    unfold State.writeNat State.writeBytes State.coverPoison
    simp [h.clean]

end QspiOpen

theorem formOk_word (ha : a % 4 = 0) : formOk a 4 = true := by simp [formOk, ha]

theorem qspiStore_cons (h : QspiOpen s) (ha : a % 4 = 0) (hend : a + 4 ≤ 0x02000000) (w : Word) (ws : List Word) :
    qspiStore a (w :: ws) s = qspiStore (a + 4) ws ((wakeDomain 3 s).writeNat a 4 w.toNat) := by
  rw [qspiStore, write_system (by decide) hend (formOk_word ha) h.stands (h.unpoisoned a 4 true)]
  rfl

/-- The words of a write stand at their addresses, and nothing else of memory moves. -/
theorem qspiStore_spec : ∀ (ws : List Word) (a : Nat) (s : State), QspiOpen s → a % 4 = 0 → a + 4 * ws.length ≤ 0x02000000 →
    (∀ i < ws.length, readWord (qspiStore a ws s) (a + 4 * i) = (ws.getD i 0).toNat) ∧
    (∀ y, y < a ∨ a + 4 * ws.length ≤ y → readByte (qspiStore a ws s) y = readByte s y) ∧ (qspiStore a ws s).host = s.host ∧
    (qspiStore a ws s).dev = s.dev
  | [], a, s, _, _, _ => ⟨fun i hi => absurd hi (Nat.not_lt_zero i), fun _ _ => rfl, rfl, rfl⟩
  | w :: ws, a, s, h, ha, hend => by
    rw [List.length_cons] at hend
    have hone : a + 4 ≤ 0x02000000 := by omega
    have woken := h.wake 3
    obtain ⟨words, bytes, host, dev⟩ := qspiStore_spec ws (a + 4) _ (woken.writeNat a 4 w.toNat) (by omega) (by omega)
    obtain ⟨whost, wdev, -⟩ := writeNat_frame (wakeDomain 3 s) a 4 w.toNat
    obtain ⟨dhost, ddev, -⟩ := wakeDomain_frame 3 s
    rw [qspiStore_cons h ha hone]
    refine ⟨fun i hi => ?_, fun y hy => ?_, host.trans (whost.trans dhost), dev.trans (wdev.trans ddev)⟩
    · cases i with
      | zero =>
        have first := readNat_writeNat woken.canonical a 4 w.toNat
        have kept : readWord (qspiStore (a + 4) ws ((wakeDomain 3 s).writeNat a 4 w.toNat)) a = readWord ((wakeDomain 3 s).writeNat a 4 w.toNat) a :=
          readNat_congr fun j hj => bytes (a + j) (.inl (by omega))
        exact kept.trans (first.trans (Nat.mod_eq_of_lt w.isLt))
      | succ i =>
        rw [List.length_cons] at hi
        have later := words i (by omega)
        rw [show a + 4 + 4 * i = a + 4 * (i + 1) by omega] at later
        exact later
    · rw [List.length_cons] at hy
      rw [bytes y (by omega), readByte_writeNat_other woken.canonical (by omega), readByte_wake]

/-- The words of a read, in the order of their addresses. -/
theorem qspiWords_spec : ∀ (n a : Nat) (s : State), QspiOpen s → a % 4 = 0 → a + 4 * n ≤ 0x02000000 →
    ∃ t, qspiWords a n s = (t, some (readWords s a n)) ∧ t.mem = s.mem ∧ t.host = s.host
  | 0, a, s, _, _, _ => ⟨s, rfl, rfl, rfl⟩
  | n + 1, a, s, h, ha, hend => by
    obtain ⟨t, rest, mem, host⟩ := qspiWords_spec n (a + 4) _ (h.wake 3) (by omega) (by omega)
    have hone : a + 4 ≤ 0x02000000 := by omega
    refine ⟨t, ?_, mem.trans (wakeDomain_mem 3 s), host.trans (wakeDomain_frame 3 s).1⟩
    have words : readWords s a (n + 1) = wd (readNat s a 4) :: readWords (wakeDomain 3 s) (a + 4) n := by
      simp only [readWords, readWord, List.range_succ_eq_map, List.map_cons, List.map_map, Nat.mul_zero, Nat.add_zero]
      refine congrArg _ (List.map_congr_left fun i _ => ?_)
      rw [readNat_wake]
      exact congrArg (fun y => wd (readNat s y 4)) (by simp only [Nat.succ_eq_add_one]; omega)
    unfold qspiWords
    rw [read_system (path := .qspi) (by decide) hone (formOk_word ha) h.stands (h.unpoisoned a 4 false)]
    simp only [rest, words]

/-- Another instruction does nothing. -/
theorem qspiTransaction_other {instr : Nat} {ws : List Word} (h1 : instr ≠ 0x02) (h2 : instr ≠ 0x12) (h3 : instr ≠ 0x0B) (h4 : instr ≠ 0xEB) :
    qspiTransaction instr a ws n s = s := by
  unfold qspiTransaction
  rw [if_neg (not_or.mpr ⟨h1, h2⟩), if_neg (not_or.mpr ⟨h3, h4⟩), ite_self]

theorem qspiTransaction_write {instr : Nat} {ws : List Word} (hi : instr = 0x02 ∨ instr = 0x12) (hphase : s.boot.phase = .running)
    (hsel : s.boot.hostSel = 1) (hstands : domainFailed s 1 = false) (hmin : 1 ≤ ws.length) (hmax : ws.length ≤ 1024) :
    qspiTransaction instr a ws n s = qspiStore a ws (wakeDomain 1 s) := by
  unfold qspiTransaction
  rw [if_neg (by simp [hphase, hsel, hstands]), if_pos hi, if_pos ⟨hmin, hmax⟩]

theorem qspiTransaction_read {instr : Nat} {ws words : List Word} (hi : instr = 0x0B ∨ instr = 0xEB) (hphase : s.boot.phase = .running)
    (hsel : s.boot.hostSel = 1) (hstands : domainFailed s 1 = false) (hmin : 1 ≤ n) (hmax : n ≤ 1024)
    (hread : qspiWords a n (wakeDomain 1 s) = (t, some words)) : qspiTransaction instr a ws n s = t.emit (.qspiRead 0x5A words) := by
  unfold qspiTransaction
  rw [if_neg (by simp [hphase, hsel, hstands]), if_neg (by omega), if_pos hi, if_pos ⟨hmin, hmax⟩, hread]

theorem registerWrite_window {off : Nat} (harea : areaOf a = some (.window n)) (hoff : a % 0x100000 = off) (hphase : s.boot.phase = .running) :
    registerWrite a v s = regWrite n off v s := by
  unfold registerWrite
  rw [harea, hoff]
  exact if_pos hphase

theorem regWrite_cursor (s : State) (v : Nat) : regWrite 14 0 v s = s.setCursor v := by
  have present : windowAbsent s 14 0 = false := by
    unfold windowAbsent State.present
    cases s.boot.variant with
    | _ => rfl
  simp only [regWrite, present, Bool.false_eq_true, if_false, if_true]

/-- 17 R586: TALLY's CURSOR is a register of its own window. -/
theorem registerWrite_cursor (hphase : s.boot.phase = .running) (v : Nat) : registerWrite 0x40E00000 v s = s.setCursor v :=
  (registerWrite_window (n := 14) (off := 0) (by norm_num [areaOf]) (by norm_num) hphase).trans (regWrite_cursor s v)

end Accesses

/-- Settles O37: each access through `busAccess_system`, the scrubber by `corrected_spec` and `doubleError_spec`, the port word by word. -/
theorem memoryAndSerialAccesses : Obligations.MemoryAndSerialAccesses := by
  refine ⟨fun t s u hu hcanon hphase hsel hone hthree => ?memory, fun t s u hu hcanon hphase hsel hone hthree hwf => ?port⟩
  case memory =>
    have woken : domainFailed (wakeDomain 1 u) 3 = false := (domainFailed_wake_other (by decide)).trans hthree
    obtain ⟨dhost, ddev, dflt⟩ := wakeDomain_frame 1 u
    obtain ⟨dhost', ddev', dflt'⟩ := wakeDomain_frame 3 (wakeDomain 1 u)
    obtain ⟨ehost, edev, eflt⟩ := wakeDomain_frame 3 u
    have dmem : (wakeDomain 3 (wakeDomain 1 u)).mem = u.mem := (wakeDomain_mem 3 _).trans (wakeDomain_mem 1 u)
    have canon := canonical_wake (canonical_wake hcanon 1) 3
    have access {a n : Nat} (h1 : 1 ≤ n) (h64 : n ≤ 64) (d : Option Nat) :
        exec (.memoryAccess { path := .bar2, addr := a, size := n, data := d } t) s =
          .next (endAccess { addr := a, size := n, data := d } (busAccess { addr := a, size := n, data := d } (wakeDomain 1 u))) := by
      have hevent : (decide (0 < n) && decide (n ≤ 64)) = true := by simp [h64, Nat.lt_of_lt_of_le Nat.zero_lt_one h1]
      exact hu ▸ (event_of hevent t _ s).trans (congrArg _ (memoryAccess_bar2 rfl (hu ▸ hphase) (hu ▸ hsel) (hu ▸ hone)))
    refine ⟨fun a n v h1 h64 hend hform hpoison => ?_, fun a n h1 h64 hend hform => ?_, fun a n h1 h64 hend hform hpoison => ?_, fun a hmin hend => ?_,
      fun a n m hend hn ha hm hpoison => ?_, fun a n m hend hn ha hm hpoison => ?_, fun x hx => ?_, fun a last ha hpoison hwf hbelow => ?_,
      fun a ha hpoison hfew => ?_⟩
    · obtain ⟨number, bytes, host, dev, flt⟩ := stored_spec a n v canon dmem (dhost'.trans dhost) (ddev'.trans ddev) (dflt'.trans dflt)
      refine ⟨_, (access h1 h64 _).trans ?_, number, bytes, host, dev, flt⟩
      rw [write_system h1 hend hform woken ((poisonBlocks_wake 1 u a n true).trans hpoison)]
      rfl
    · rw [access h1 h64, busAccess_misformed (span_system h1 hend) hform]
      simp only [endAccess]
      rw [span_system h1 hend]
      rfl
    · refine ⟨wakeDomain 3 (wakeDomain 1 u), (access h1 h64 _).trans ?_, dmem, ddev'.trans ddev⟩
      rw [read_system h1 hend hform woken ((poisonBlocks_wake 1 u a n false).trans hpoison), readNat_wake]
      rfl
    · have hspan := span_unmapped hmin hend
      rw [access (by decide) (by decide), busAccess_unmapped hspan]
      simp only [endAccess]
      rw [hspan]
      rfl
    · have h256 : m < 256 ^ n := by rw [show 256 = 2 ^ 8 by rfl, ← Nat.pow_mul]; exact hm
      have hevent : (decide (a + n ≤ 0x02000000) && (n == 1 || n == 2 || n == 4 || n == 8) && a % n == 0 && decide (m < 2 ^ (8 * n))) = true := by
        simp only [hend, ha, hm, decide_true, Bool.and_true, Bool.true_and, beq_self_eq_true]
        simpa [or_assoc] using hn
      obtain ⟨number, bytes, host, dev, -⟩ := stored_spec a n (readNat u a n ||| m) (canonical_wake hcanon 3) (wakeDomain_mem 3 u) ehost edev eflt
      refine ⟨_, (event_of hevent t _ s).trans (congrArg _ ?_), number.trans (Nat.mod_eq_of_lt ?_), bytes, host, dev⟩
      · subst hu
        exact bitSetWrite_eq hend hn ha hphase hthree hpoison
      · have hread := readNat_lt u a n
        rw [show 256 = 2 ^ 8 by rfl, ← Nat.pow_mul] at hread ⊢
        exact Nat.or_lt_two_pow hread hm
    · have hevent : (decide (a + n ≤ 0x02000000) && (n == 1 || n == 2 || n == 4 || n == 8) && a % n == 0 && decide (m < 2 ^ (8 * n))) = true := by
        simp only [hend, ha, hm, decide_true, Bool.and_true, Bool.true_and, beq_self_eq_true]
        simpa [or_assoc] using hn
      obtain ⟨number, bytes, host, dev, -⟩ :=
        stored_spec a n (readNat u a n - (readNat u a n &&& m)) (canonical_wake hcanon 3) (wakeDomain_mem 3 u) ehost edev eflt
      refine ⟨_, (event_of hevent t _ s).trans (congrArg _ ?_), number.trans (Nat.mod_eq_of_lt ?_), bytes, host, dev⟩
      · subst hu
        exact bitClearWrite_eq hend hn ha hphase hthree hpoison
      · exact Nat.lt_of_le_of_lt (Nat.sub_le _ _) (readNat_lt u a n)
    · have hevent : (decide (0x40000000 ≤ 0x40E00000) && decide (0x40E00000 < 0x41100000) && 0x40E00000 % 4 == 0 && decide (x < 2 ^ 32)) = true := by
        rw [decide_eq_true hx]
        rfl
      refine (event_of hevent t _ s).trans (congrArg _ ?_)
      subst hu
      exact registerWrite_cursor hphase x
    · have hevent : scrubbed a = true := by simp [scrubbed, areaOf_eq_some_system.mpr ha]
      obtain ⟨m, corrected, ce, store, deLasting, scrubPasses⟩ := corrected_spec (bankOf_system ha) hwf hbelow
      subst hu
      refine ⟨_, (event_of hevent t _ s).trans (congrArg _ (scrub_single hphase hpoison last)), ?_⟩
      rw [corrected]
      cases last with
      | false => exact ⟨ce, store, deLasting, scrubPasses, rfl⟩
      | true => exact ⟨ce, store, deLasting, congrArg sat32 scrubPasses, rfl⟩
    · have hevent : scrubbed a = true := by simp [scrubbed, areaOf_eq_some_system.mpr ha]
      have counted := doubleError_spec (s := u) (a := a / 8 * 8) (by omega) hfew
      subst hu
      refine ⟨_, (event_of hevent t _ s).trans (congrArg _ (scrub_double hphase hpoison)), ?_, ?_, ?_⟩
      · rw [counted]
        exact List.mem_append_right _ List.mem_cons_self
      · rw [counted]
      · rw [counted]
  case port =>
    subst hu
    obtain ⟨dhost, ddev, -⟩ := wakeDomain_frame 1 (s.at t)
    refine ⟨fun a instr ws hi hmin hmax hend ha hclean => ?_, fun a instr n hi hmin hmax hend ha hclean => ?_,
      fun a instr ws n hi ha h1 h2 h3 h4 => ?_⟩
    · have hevent : (decide (instr < 256) && decide (a < 2 ^ 32)) = true := by
        simp only [Bool.and_eq_true, decide_eq_true_eq]
        omega
      have opened := (QspiOpen.mk hcanon hwf hthree hclean).wake 1
      obtain ⟨words, bytes, host, dev⟩ := qspiStore_spec ws a _ opened ha hend
      exact ⟨_, (event_of hevent t _ s).trans (congrArg _ (qspiTransaction_write hi hphase hsel hone hmin hmax)), words,
        fun y hy => (bytes y hy).trans (readByte_wake 1 _ y), host.trans dhost, dev.trans ddev⟩
    · have hevent : (decide (instr < 256) && decide (a < 2 ^ 32)) = true := by
        simp only [Bool.and_eq_true, decide_eq_true_eq]
        omega
      have opened := (QspiOpen.mk hcanon hwf hthree hclean).wake 1
      obtain ⟨w, read, mem, host⟩ := qspiWords_spec n a _ opened ha hend
      have same : readWords (wakeDomain 1 (s.at t)) a n = readWords (s.at t) a n :=
        List.map_congr_left fun i _ => congrArg wd (readNat_wake 1 _ _ 4)
      rw [same] at read
      exact ⟨w, (event_of hevent t _ s).trans (congrArg _ (qspiTransaction_read hi hphase hsel hone hmin hmax read)),
        mem.trans (wakeDomain_mem 1 _), host.trans dhost⟩
    · have hevent : (decide (instr < 256) && decide (a < 2 ^ 32)) = true := by rw [decide_eq_true hi, decide_eq_true ha]; rfl
      exact (event_of hevent t _ s).trans (congrArg _ (qspiTransaction_other h1 h2 h3 h4))

end Sys2Proof.Machine
end
section
/-! The fault manager and the recorder (16 R566–R571; 17 R582–R590). -/

namespace Sys2Proof.Machine

variable {s t u : State}

/-- `t` is `s` but for the acquisition engine. -/
def Triggered (s t : State) : Prop := t = { s with acq := t.acq }

namespace Triggered

theorem refl (s : State) : Triggered s s := rfl

theorem trans (h : Triggered s t) (h' : Triggered t u) : Triggered s u := by
  unfold Triggered at h h' ⊢
  rw [h', h]

theorem foldl {α : Type} {f : State → α → State} (hf : ∀ s a, Triggered s (f s a)) : ∀ (l : List α) (s : State), Triggered s (l.foldl f s)
  | [], s => refl s
  | a :: l, s => (hf s a).trans (foldl hf l (f s a))

theorem modTrig (s : State) (n : Nat) (f : TrigUnit → TrigUnit) : Triggered s (s.modTrig n f) := rfl

theorem trigCapture (s : State) (n stamp value c : Nat) : Triggered s (s.trigCapture n stamp value c) := by
  unfold State.trigCapture
  split
  · exact rfl
  · exact refl s

theorem fireUnit (s : State) (n stamp value : Nat) : Triggered s (s.fireUnit n stamp value) := by
  unfold State.fireUnit
  extract_lets s₁ s₂
  have fired : Triggered s₁ s₂ := foldl (fun s c => trigCapture s n stamp value c) _ s₁
  exact ((modTrig s n _).trans fired).trans rfl

theorem combine (s : State) (stamp : Nat) : Triggered s (s.combine stamp) := by
  refine foldl (fun s n => ?_) _ s
  extract_lets k fired members due
  split
  · exact fireUnit s n stamp 0
  · exact refl s

theorem fire (s : State) (n stamp value : Nat) : Triggered s (s.fire n stamp value) := (fireUnit s n stamp value).trans (combine _ stamp)

theorem fireOpen (s : State) (n stamp : Nat) : Triggered s (s.fireOpen n stamp) := by
  unfold State.fireOpen
  split
  · exact fire s n stamp 0
  · exact refl s

theorem tally_eq (h : Triggered s t) : t.tally = s.tally := by unfold Triggered at h; rw [h]
theorem mem_eq (h : Triggered s t) : t.mem = s.mem := by unfold Triggered at h; rw [h]
theorem dev_eq (h : Triggered s t) : t.dev = s.dev := by unfold Triggered at h; rw [h]

end Triggered

theorem triggerTally_triggered (unit code sev : Nat) (s : State) : Triggered s (triggerTally unit code sev s) := by
  refine Triggered.foldl (fun s n => ?_) _ s
  extract_lets k
  split
  · exact Triggered.fireOpen s n s.ns
  · exact Triggered.refl s

/-- Without a trigger on records a record fires nothing (09 R318). -/
theorem triggerTally_none (h : ∀ n, (trigOf s n).kind ≠ 10) (unit code sev : Nat) : triggerTally unit code sev s = s := by
  unfold triggerTally
  induction List.range 32 with
  | nil => rfl
  | cons n l ih =>
    rw [List.foldl_cons]
    exact (congrArg (List.foldl _ · l) (if_neg fun hk => h n hk.1)).trans ih

section Recorder

variable {r : TallyRec} {q n : Nat}

/-- Whether the bucket lets a record pass: a matter of the recorder's own tables (R587). -/
def Admitted (s t : State) : Prop :=
  t = { s with tally := { s.tally with
    buckets := t.tally.buckets, untracked := t.tally.untracked, suppressedTotal := t.tally.suppressedTotal } }

/-- The bucket leaves what is said of records and of their queue. -/
theorem Admitted.recorder (h : Admitted s t) : t.tally.started = s.tally.started ∧ t.tally.early = s.tally.early ∧
    t.tally.intake = s.tally.intake ∧ t.tally.seq = s.tally.seq ∧ t.tally.kept = s.tally.kept ∧ t.tally.circNext = s.tally.circNext := by
  unfold Admitted at h
  rw [h]
  exact ⟨rfl, rfl, rfl, rfl, rfl, rfl⟩

theorem Admitted.outside (h : Admitted s t) : t.mem = s.mem ∧ t.dev = s.dev := by
  unfold Admitted at h
  rw [h]
  exact ⟨rfl, rfl⟩

theorem admitRecord_admitted (r : TallyRec) (s : State) : Admitted s (admitRecord r s).1 := by
  unfold admitRecord
  extract_lets now set
  split
  · exact rfl
  · split
    · exact rfl
    · dsimp only
      split
      · exact rfl
      · exact rfl

/-- R587: a record of severity 2 or 3 always passes. -/
theorem admitRecord_severe (h : 2 ≤ r.sev) (s : State) : ∃ k, (admitRecord r s).2 = some k := by
  unfold admitRecord
  extract_lets now set
  split
  · exact ⟨0, rfl⟩
  · exact ⟨_, by simp only [if_pos (show 2 ≤ r.sev ∨ set.1 = true from .inl h)]; rfl⟩

/-- The copies of a record for the EVENT rings are a matter of the host interface (02 R86). -/
theorem copyEvents_eq (unit sev source : Nat) (below : Bool) (rec : List Word) (s : State) :
    ∃ h, copyEvents unit sev source below rec s = { s with host := h } := by
  unfold copyEvents
  have copied : ∀ (l : List (Nat × Ring)) (s : State), ∃ h, l.foldl (fun s e => eventTo e.1 source rec s) s = { s with host := h } := by
    intro l
    induction l with
    | nil => exact fun s => ⟨_, rfl⟩
    | cons e l ih =>
      intro s
      obtain ⟨h, one⟩ : ∃ h, eventTo e.1 source rec s = { s with host := h } := by
        unfold eventTo
        extract_lets r seq
        split
        · exact ⟨_, rfl⟩
        · exact ⟨_, rfl⟩
      obtain ⟨h', rest⟩ := ih (eventTo e.1 source rec s)
      exact ⟨h', by rw [List.foldl_cons, rest, one]⟩
  exact copied _ s

/-- The slot that the next record goes to (R583). -/
def nextSlot (s : State) : Nat := if s.tally.kept < 4096 then s.tally.kept else 4096 + s.tally.circNext

/-- R583, R586: what a record written as `ws` with its SEQ moves of the recorder. -/
def written (seq : Nat) (ws : List Word) (t : TallyUnit) : TallyUnit :=
  { t with
    seq := (t.seq + 1) % 2 ^ 32
    kept := if t.kept < 4096 then t.kept + 1 else t.kept
    circNext := if t.kept < 4096 then t.circNext else (t.circNext + 1) % 12288
    windowLatch := if t.cursor = seq ∧ t.windowLatch.isEmpty then ws else t.windowLatch }

/-- R586: a record written goes to the manager above. -/
def recordAbove (ws : List Word) (s : State) : State :=
  if s.drove.cfg.upEn ∧ integrated s then
    s.modDrove fun d => { d with upOut := d.upOut ++ [{ kind := 3, words := ws ++ [wd d.devAddr] }] } else s

theorem recordAbove_eq (ws : List Word) (s : State) : ∃ d, recordAbove ws s = { s with drove := d } := by
  unfold recordAbove
  split
  · exact ⟨_, rfl⟩
  · exact ⟨_, rfl⟩

theorem writeRecord_eq (s : State) (r : TallyRec) (k : Nat) : s.writeRecord r k = triggerTally r.unit r.code r.sev (recordAbove (tallyWords s r k)
    (copyEvents r.unit r.sev (s.writeWords (tallySlot (nextSlot s)) (tallyWords s r k)).drove.devAddr false (tallyWords s r k)
      ((s.writeWords (tallySlot (nextSlot s)) (tallyWords s r k)).modTally (written s.tally.seq (tallyWords s r k))))) := rfl

/-- R583: a record is written to its slot; besides it, the recorder, the copies to hosts and managers, and what it triggers. -/
theorem writeRecord_spec (s : State) (r : TallyRec) (k : Nat) :
    (s.writeRecord r k).tally = written s.tally.seq (tallyWords s r k) s.tally ∧
    (s.writeRecord r k).mem = (s.writeWords (tallySlot (nextSlot s)) (tallyWords s r k)).mem ∧
    (s.writeRecord r k).dev = s.dev := by
  rw [writeRecord_eq]
  generalize tallyWords s r k = ws
  obtain ⟨m, j, stored⟩ := s.writeBytes_eq (tallySlot (nextSlot s)) (ws.flatMap bytesOf)
  rw [show s.writeWords (tallySlot (nextSlot s)) ws = { s with mem := m, keep := j } from stored]
  obtain ⟨h, copied⟩ := copyEvents_eq r.unit r.sev s.drove.devAddr false ws
    (State.modTally { s with mem := m, keep := j } (written s.tally.seq ws))
  rw [copied]
  obtain ⟨d, above⟩ := recordAbove_eq ws { State.modTally { s with mem := m, keep := j } (written s.tally.seq ws) with host := h }
  rw [above]
  have fired := triggerTally_triggered r.unit r.code r.sev
    { State.modTally { s with mem := m, keep := j } (written s.tally.seq ws) with host := h, drove := d }
  exact ⟨fired.tally_eq, fired.mem_eq, fired.dev_eq⟩

/-- The first word of a record has its VALID bit set. -/
theorem valid_of_tallyWords (s : State) (r : TallyRec) (k : Nat) (hsev : r.sev < 4) : bit ((tallyWords s r k).getD 0 0).toNat 7 = true := by
  have flag_le (b : Bool) : flag b ≤ 1 := by
    cases b with
    | false => exact Nat.zero_le 1
    | true => exact Nat.le_refl 1
  have low (a b c d e x y : Nat) (ha : a < 4) (hb : b ≤ 1) (hc : c ≤ 1) (hd : d ≤ 1) (he : e ≤ 1) (f : Nat) (hf : f ≤ 1) :
      (a + b * 4 + c * 8 + d * 16 + e * 32 + f * 64 + 1 * 128 + x * 256 + y * 65536) % 4294967296 / 128 % 2 = 1 := by omega
  unfold tallyWords
  simp only [List.getD_cons_zero, wd, BitVec.toNat_ofNat, bit, place, beq_iff_eq]
  exact low r.sev _ _ _ _ r.unit r.code hsev (flag_le _) (flag_le _) (flag_le _) (flag_le _) _ (flag_le _)

theorem seq_of_tallyWords (s : State) (r : TallyRec) (k : Nat) (h : s.tally.seq < 2 ^ 32) : ((tallyWords s r k).getD 1 0).toNat = s.tally.seq :=
  (BitVec.toNat_ofNat s.tally.seq 32).trans (Nat.mod_eq_of_lt h)

theorem detail_of_tallyWords (s : State) (r : TallyRec) (k : Nat) : ((tallyWords s r k).getD 5 0).toNat = r.detail % 2 ^ 32 := BitVec.toNat_ofNat _ _

theorem tallyWords_length (s : State) (r : TallyRec) (k : Nat) : (tallyWords s r k).length = 8 := rfl

/-- A record reads back from its slot, and the records of the other slots stay (R583). -/
theorem slot_written (hc : Canonical s) (hmem : t.mem = (s.writeWords (tallySlot n) (tallyWords s r q)).mem) (hsev : r.sev < 4) (hseq : s.tally.seq < 2 ^ 32) :
    slotValid t n = true ∧ slotSeq t n = s.tally.seq ∧ readWord t (tallySlot n + 20) = r.detail % 2 ^ 32 ∧
    ∀ m, m ≠ n → slotValid t m = slotValid s m ∧ slotSeq t m = slotSeq s m := by
  have read (a : Nat) : readWord t a = readWord (s.writeWords (tallySlot n) (tallyWords s r q)) a :=
    readNat_congr fun i _ => by rw [readByte, hmem]; rfl
  have at' (i : Nat) (hi : i < 8) : readWord t (tallySlot n + 4 * i) = ((tallyWords s r q).getD i 0).toNat :=
    (read _).trans (readWord_writeWords_at hc (by rw [tallyWords_length]; exact hi))
  have other (a : Nat) (ha : a + 4 ≤ tallySlot n ∨ tallySlot n + 32 ≤ a) : readWord t a = readWord s a :=
    (read a).trans (readWord_writeWords_other hc (by rw [tallyWords_length]; exact ha))
  refine ⟨?_, ?_, (at' 5 (by decide)).trans (detail_of_tallyWords s r q), fun m hm => ?_⟩
  · exact (congrArg (bit · 7) (at' 0 (by decide))).trans (valid_of_tallyWords s r q hsev)
  · exact (at' 1 (by decide)).trans (seq_of_tallyWords s r q hseq)
  · unfold slotValid slotSeq
    rw [other (tallySlot m) (by unfold tallySlot; omega), other (tallySlot m + 4) (by unfold tallySlot; omega)]
    exact ⟨rfl, rfl⟩

theorem handleRecord_plain (h : r.transient = false) (s : State) : s.handleRecord r = match (admitRecord r s).2 with
    | some k => (admitRecord r s).1.writeRecord r k
    | none => (admitRecord r s).1 := by
  unfold State.handleRecord
  simp only [h]
  cases hr : admitRecord r s with
  | mk t k =>
    cases k with
    | none => simp [hr]
    | some k => simp [hr]

/-- A record handled leaves the recorder started, and its early buffer empty. -/
theorem handleRecord_recorder (h : r.transient = false) (hstarted : s.tally.started = true) (hearly : s.tally.early = []) :
    (s.handleRecord r).tally.started = true ∧ (s.handleRecord r).tally.early = [] := by
  rw [handleRecord_plain h]
  obtain ⟨started, early, -⟩ := (admitRecord_admitted r s).recorder
  generalize admitRecord r s = a at started early
  obtain ⟨x, k⟩ := a
  have recorder : x.tally.started = true ∧ x.tally.early = [] := ⟨started.trans hstarted, early.trans hearly⟩
  cases k with
  | none => exact recorder
  | some k =>
    simp only
    rw [(writeRecord_spec x r k).1]
    exact recorder

/-- A record of severity 3 that is taken from the intake queue. -/
theorem recordWrite_front {rest : List TallyRec} (hfree : recorderFree s = true) (hq : s.tally.intake = r :: rest) (hlost : s.tally.lostSince = 0) :
    recordWrite s = (s.modTally fun t => { t with intake := rest, takenAt := some s.now }).handleRecord r := by
  unfold recordWrite
  rw [if_neg (by simp [hfree]), hq]
  exact congrArg (State.handleRecord · r) (if_pos hlost)

theorem recordWrite_idle (h : recorderFree s = false ∨ s.tally.intake = []) : recordWrite s = s := by
  unfold recordWrite
  rcases h with h | h
  · rw [if_pos (by simp [h])]
  · split
    · rfl
    · rw [h]

/-- A record of severity 3 goes from the queue to the next slot of those that are kept (R583, R584, R587). -/
theorem recordWrite_spec {rest : List TallyRec} (hfree : recorderFree s = true) (hq : s.tally.intake = r :: rest) (hc : Canonical s)
    (htr : r.transient = false) (hsev : r.sev = 3) (hlost : s.tally.lostSince = 0) (hkept : s.tally.kept < 4096) (hseq : s.tally.seq < 2 ^ 32) :
    (recordWrite s).tally.intake = rest ∧ (recordWrite s).tally.seq = (s.tally.seq + 1) % 2 ^ 32 ∧
    (recordWrite s).tally.kept = s.tally.kept + 1 ∧ (recordWrite s).tally.circNext = s.tally.circNext ∧
    slotValid (recordWrite s) s.tally.kept = true ∧ slotSeq (recordWrite s) s.tally.kept = s.tally.seq ∧
    readWord (recordWrite s) (tallySlot s.tally.kept + 20) = r.detail % 2 ^ 32 ∧
    (∀ n, n ≠ s.tally.kept → n < 16384 → slotValid (recordWrite s) n = slotValid s n ∧ slotSeq (recordWrite s) n = slotSeq s n) ∧
    (recordWrite s).dev = s.dev := by
  rw [recordWrite_front hfree hq hlost, handleRecord_plain htr]
  obtain ⟨k, passes⟩ := admitRecord_severe (r := r) (by omega) (s.modTally fun y => { y with intake := rest, takenAt := some s.now })
  have admitted := admitRecord_admitted r (s.modTally fun y => { y with intake := rest, takenAt := some s.now })
  rw [passes]
  generalize (admitRecord r (s.modTally fun y => { y with intake := rest, takenAt := some s.now })).1 = x at admitted ⊢
  simp only
  obtain ⟨tally, mem, dev⟩ := writeRecord_spec x r k
  obtain ⟨hmem, hdev⟩ := admitted.outside
  obtain ⟨-, -, hintake, hseqx, hkeptx, hcirc⟩ := admitted.recorder
  have hseqx : x.tally.seq = s.tally.seq := hseqx
  have hkeptx : x.tally.kept = s.tally.kept := hkeptx
  have hcirc : x.tally.circNext = s.tally.circNext := hcirc
  have hlater : x.tally.kept < 4096 := hkeptx ▸ hkept
  have slot : nextSlot x = s.tally.kept := (if_pos hlater).trans hkeptx
  have hx : Canonical x := by
    unfold Canonical
    rw [hmem]
    exact hc
  obtain ⟨valid, seq, detail, others⟩ := slot_written (n := nextSlot x) (q := k) hx mem (by omega) (hseqx ▸ hseq)
  have same (m : Nat) : slotValid x m = slotValid s m ∧ slotSeq x m = slotSeq s m := by
    unfold slotValid slotSeq readWord readNat readByte
    rw [hmem]
    exact ⟨rfl, rfl⟩
  rw [slot] at valid seq detail others
  rw [tally]
  refine ⟨hintake, ?_, ?_, ?_, valid, seq.trans hseqx, detail, fun n hn _ => ?_, dev.trans hdev⟩
  · rw [← hseqx]
    rfl
  · rw [← hkeptx]
    exact if_pos hlater
  · rw [← hcirc]
    exact if_pos hlater
  · obtain ⟨hv, hs⟩ := others n hn
    obtain ⟨hv', hs'⟩ := same n
    exact ⟨hv.trans hv', hs.trans hs'⟩

theorem setCursor_spec {c : Nat} {m : Bool} (h : moveCursor s q = (c, m)) : (s.setCursor q).tally.cursor = c ∧ (s.setCursor q).tally.moved = m ∧
    (s.setCursor q).tally.windowLatch = recordWords s c ∧ (s.setCursor q).mem = s.mem := by
  rw [State.setCursor_eq, h]
  generalize recordWords s c = ws
  exact ⟨rfl, rfl, rfl, rfl⟩

end Recorder

/-! The fault manager (16 R566–R571). -/

section Faults

variable {f : Fault566}

theorem givesUp_off (h : s.pair.role = .off) (sev : Nat) : givesUp s sev = false := by
  unfold givesUp
  rw [h]
  rfl

/-- Away from a pair, a fault of severity 1 asks for nothing. -/
theorem react_error (h : s.pair.role = .off) (hf : f.sev = 1) : s.react f = s := by
  unfold State.react
  rw [givesUp_off h, hf]
  rfl

/-- A fault of severity 3 takes the device to SAFE (03 R112). -/
theorem react_severe (hf : f.sev = 3) (s : State) : (s.react f).dev.mode = .safe := by
  unfold State.react
  rw [hf]
  exact enterSafe_mode _ _

theorem react_waiting (s : State) (f : Fault566) : (s.react f).flt = s.flt := by
  have entered (s : State) (cause : Nat) : (s.enterSafe cause).flt = s.flt := by
    unfold State.enterSafe State.setMode
    split
    · rfl
    · split
      · rfl
      · obtain ⟨q, o, sent⟩ := State.sendVector_eq _ 0
        rw [sent]
        rfl
  unfold State.react
  extract_lets s₁
  have asked : s₁.flt = s.flt := by
    simp only [s₁, State.askGiveUp]
    split
    · split
      · rfl
      · rfl
    · rfl
  split
  · split
    · exact asked
    · exact asked
  · exact (entered s₁ _).trans asked
  · exact asked

theorem takeUp_idle (h : s.flt.waiting = []) (fuel : Nat) : takeUp fuel s = s := by
  cases fuel with
  | zero => rfl
  | succ fuel =>
    unfold takeUp
    split
    · rfl
    · rw [h]

/-- A fault taken in hand where none is and none waits. -/
theorem preempt_first (hhand : s.flt.inHand = none) (hnone : s.flt.waiting = []) (f : Fault566) :
    s.preempt f = if endsAtOnce ((s.modFlt fun m => { m with inHand := some f }).react f) f then
      ((s.modFlt fun m => { m with inHand := some f }).react f).modFlt fun m => { m with inHand := none }
      else (s.modFlt fun m => { m with inHand := some f }).react f := by
  have waiting : (((s.modFlt fun m => { m with inHand := some f }).react f).modFlt fun m => { m with inHand := none }).flt.waiting = [] := by
    rw [State.modFlt_flt, react_waiting]
    exact hnone
  unfold State.preempt
  rw [hhand]
  simp only
  rw [takeUp_idle waiting]

/-- A fault reported where none is in hand and none waits. -/
theorem reportFault_first (hhand : s.flt.inHand = none) (hnone : s.flt.waiting = []) (unit code sev detail : Nat) :
    ∃ f : Fault566, f.unit = unit ∧ f.code = code ∧ f.sev = sev ∧ f.detail = detail ∧
      s.reportFault unit code sev detail = (s.note { unit := unit, code := code, sev := sev, fault := true, detail := detail }).preempt f := by
  unfold State.reportFault
  extract_lets s₁ s₂ f same
  have noted : s₂ = s₁ := if_neg fun h => Bool.false_ne_true h.1
  have flt : s₂.flt = s.flt := by
    obtain ⟨y, h⟩ := s.note_eq { unit := unit, code := code, sev := sev, fault := true, detail := detail }
    rw [noted]
    simp only [s₁, h]
  refine ⟨f, rfl, rfl, rfl, rfl, ?_⟩
  rw [if_neg (by rw [flt, hnone]; exact Bool.false_ne_true), if_neg (by rw [flt, hnone]; exact Nat.not_le.mpr (by decide))]
  split
  · rw [noted]
  · rename_i g hg
    rw [flt, hhand] at hg
    cases hg

/-- R566: a fault of severity 1 is taken in hand. -/
theorem reportFault_error (hhand : s.flt.inHand = none) (hnone : s.flt.waiting = []) (hrole : s.pair.role = .off) (unit code detail : Nat) :
    (∃ f, (s.reportFault unit code 1 detail).flt.inHand = some f ∧ f.unit = unit ∧ f.code = code ∧ f.sev = 1 ∧ f.detail = detail) ∧
    (s.reportFault unit code 1 detail).dev = s.dev ∧ (s.reportFault unit code 1 detail).mem = s.mem ∧
    (s.reportFault unit code 1 detail).loop = s.loop := by
  obtain ⟨f, hunit, hcode, hf, hdetail, first⟩ := reportFault_first hhand hnone unit code 1 detail
  obtain ⟨y, noted⟩ := s.note_eq { unit := unit, code := code, sev := 1, fault := true, detail := detail }
  rw [first, noted, preempt_first (by exact hhand) (by exact hnone), react_error (by exact hrole) hf, if_neg (by simp [endsAtOnce, hf])]
  exact ⟨⟨f, rfl, hunit, hcode, hf, hdetail⟩, rfl, rfl, rfl⟩

theorem reportFault_severe (hhand : s.flt.inHand = none) (hnone : s.flt.waiting = []) (unit code detail : Nat) :
    (s.reportFault unit code 3 detail).dev.mode = .safe := by
  obtain ⟨f, hunit, hcode, hf, hdetail, first⟩ := reportFault_first hhand hnone unit code 3 detail
  obtain ⟨y, noted⟩ := s.note_eq { unit := unit, code := code, sev := 3, fault := true, detail := detail }
  rw [first, noted, preempt_first (by exact hhand) (by exact hnone), if_neg (by simp [endsAtOnce, hf])]
  exact react_severe hf _

end Faults

/-- Settles O38: the fault manager by what a first report does (`reportFault_first`, `preempt_first`), the recorder by `writeRecord_spec`. -/
theorem faultsAndRecords : Obligations.FaultsAndRecords := by
  intro t s u hu
  subst hu
  refine ⟨fun unit code detail hunit hcode hdetail hhand hnone hrole => ?error, fun unit code detail hunit hcode hdetail hhand hnone hrole => ?severe,
    fun hhand => ?idle, fun f hhand hf hnone => ?handled, fun h => ?noRecord,
    fun r rest hfree hq hc htr hsev hlost hkept hseq htrig => ?record, fun h => ?noRestart, fun hstarted hup => ?restart,
    fun hphase => ⟨fun v => ?_, ?_⟩, fun v c m hphase hmoved => ?cursor, fun hphase => ?window⟩
  case error =>
    have hevent : (decide (unit ≤ 0x10) && decide (code < 65536) && decide (1 < 4) && decide (detail < 2 ^ 32)) = true := by
      rw [decide_eq_true hunit, decide_eq_true hcode, decide_eq_true hdetail]
      rfl
    exact ⟨_, event_of hevent t (fun s => s.reportFault unit code 1 detail false) s, reportFault_error hhand hnone hrole unit code detail⟩
  case severe =>
    have hevent : (decide (unit ≤ 0x10) && decide (code < 65536) && decide (3 < 4) && decide (detail < 2 ^ 32)) = true := by
      rw [decide_eq_true hunit, decide_eq_true hcode, decide_eq_true hdetail]
      rfl
    exact ⟨_, event_of hevent t (fun s => s.reportFault unit code 3 detail false) s, reportFault_severe hhand hnone unit code detail⟩
  case idle =>
    refine (event_of rfl t _ s).trans (congrArg _ ?_)
    unfold faultHandled
    rw [hhand]
  case handled =>
    refine ⟨_, (event_of rfl t _ s).trans rfl, ?_⟩
    have ended : faultHandled (s.at t) = (s.at t).modFlt fun m => { m with inHand := none } := by
      unfold faultHandled
      rw [hhand]
      simp only
      rw [if_neg (by simp [hf])]
      exact takeUp_idle (s := (s.at t).modFlt fun m => { m with inHand := none }) hnone 18
    rw [ended]
    exact ⟨rfl, hnone, rfl, rfl⟩
  case noRecord => exact (event_of rfl t _ s).trans (congrArg _ (recordWrite_idle h))
  case record => exact ⟨_, event_of rfl t _ s, recordWrite_spec hfree hq hc htr hsev hlost hkept hseq⟩
  case noRestart =>
    refine (event_of rfl t _ s).trans (congrArg _ ?_)
    unfold restarted
    rw [if_pos (by simpa using h)]
  case restart =>
    refine ⟨_, event_of rfl t _ s, ?_⟩
    unfold restarted
    rw [if_neg (by simp [hstarted, hup])]
    exact handleRecord_recorder (s := (s.at t).modTally fun t => { t with started := true, intake := t.early ++ t.intake, early := [] })
      rfl rfl rfl
  case cursor => exact ⟨_, (event_of rfl t _ s).trans (congrArg _ (if_pos hphase)), setCursor_spec hmoved⟩
  case window => exact (event_of rfl t _ s).trans (congrArg _ (if_neg (not_not.mpr hphase)))
  · exact (event_of rfl t _ s).trans (congrArg _ (if_neg hphase))
  · exact (event_of rfl t _ s).trans (congrArg _ (if_pos hphase))

end Sys2Proof.Machine
end
section
/-! The replay of the configuration while an assignment of the up-ring ends (03 R97; 10 R381; 11 R423). -/

namespace Sys2Proof.Machine

/-- A device in the resume window with the up-ring open, whose assignment ends as it listens again, and whose topology table lists a UBR. -/
def replayingMember : State :=
  ({ State.reset with boot := { phase := .running, replayed := false } } : State).modDrove fun d => { d with
    cfg := { d.cfg with upEn := true }, dropAssignment := true, devAddr := 1, topo := [(0, { ubr := true })] }

/-- Byte 2 of the topology table in system memory after an event. -/
def topologyByteAfter (o : Host.Outcome State Fault Refusal) : Byte :=
  match o with
  | .next t => readByte t 0x01DA0002
  | _ => 0

/-- Refutes O39: the replay brings the up-ring back to LISTEN (03 R97); in `replayingMember` the assignment ends with that, the address falls to 0,
and the topology table is written again, so that the memory is not as it was although no word of the record had an error. -/
theorem not_powerUpAndResets : ¬ Obligations.PowerUpAndResets := by
  rintro ⟨-, hresets, -⟩
  obtain ⟨-, -, -, -, -, -, hreplay, -⟩ := hresets 0 replayingMember _ rfl
  obtain ⟨w, replayed, -, -, mem, -⟩ := hreplay [] [] rfl rfl rfl rfl
  have written : topologyByteAfter (exec (.configurationReplay [] [] 0) replayingMember) = 16 := by decide +kernel
  have before : readByte replayingMember 0x01DA0002 = 0 := by decide +kernel
  have kept : readByte w 0x01DA0002 = readByte replayingMember 0x01DA0002 := by
    unfold readByte
    rw [mem]
    rfl
  rw [replayed, topologyByteAfter, kept, before] at written
  exact absurd written (by decide)

end Sys2Proof.Machine
end
section
/-! A domain that is slow to rise while captures come back from GRAZE (18 R603, R610; 09 R321, R342). -/

namespace Sys2Proof.Machine

/-- A device that has left GRAZE for CONFIGURE: domain 6 is rising and has not come, and capture 0, a window capture, sends its gap to a stream
ring that lies in system memory. -/
def risingWithGap : State :=
  ((((resetIn .configure).modPwr fun p => { p with inGraze := true, domains := [(6, { state := .off, going := some .on, wakeTimeoutUs := 0 })] }).modHost
    fun h => { h with rings := h.rings ++ [(2, { kind := 3, log2 := 4, transport := 1, state := .active })] }).modAcq
    fun a => { a with captures := [(0, { configured := true, windowClass := true, recordUs := 1, ring := 2, running := true, pausedAt := some 0 })] })

/-- The first byte of system memory that is not 0, among the first four, after an event. -/
def firstBytesAfter (o : Host.Outcome State Fault Refusal) : List Byte :=
  match o with
  | .next t => (List.range 4).map (readByte t)
  | _ => []

/-- Refutes O40: the timeout of a raising ends GRAZE for the captures as any event of the power unit does, and capture 0 of `risingWithGap` then
writes its GAP record into system memory, which the statement has unchanged. -/
theorem not_powerAndGraze : ¬ Obligations.PowerAndGraze := by
  intro h
  obtain ⟨-, -, hfirst, -⟩ := h 0 risingWithGap _ rfl (by decide +kernel)
  obtain ⟨w, raised, -, -, -, -, hmem⟩ := hfirst 6 (by decide) (by decide +kernel) (by decide +kernel) (by decide +kernel)
  have written : firstBytesAfter (exec (.wakeTimeout 6 0) risingWithGap) ≠ [0, 0, 0, 0] := by decide +kernel
  have before : (List.range 4).map (readByte (risingWithGap.at 0)) = [0, 0, 0, 0] := by decide +kernel
  refine written ?_
  rw [raised, firstBytesAfter, ← before]
  refine List.map_congr_left fun a ha => hmem a ?_
  have := List.mem_range.mp ha
  omega

end Sys2Proof.Machine
end
section
/-! The changeover from PREPARE to its outcome (01 R39–R44, R639). -/

namespace Sys2Proof.Machine

section Changeovers

variable {s t : State} {c : Changeover}

/-- Telling the devices below is a matter of the exchange with the members. -/
theorem foldl_coDown_members (msg : CoMsg) (below : List Nat) : ∀ s : State,
    ∃ m, below.foldl (fun s n => s.coDown n msg) s = s.modDrove fun d => { d with members := m } := by
  induction below with
  | nil => exact fun s => ⟨_, rfl⟩
  | cons n below ih =>
    intro s
    obtain ⟨m, told⟩ := ih (s.coDown n msg)
    exact ⟨m, told⟩

/-- 01 R42: an outcome handed on: it is remembered, and the members are told. -/
theorem distribute_eq (s : State) (c : Changeover) (commit : Bool) :
    ∃ m, s.distribute c commit = (s.modCyc fun y => { y with lastOutcome := some (c.coId, c.cycle, commit) }).modDrove fun d => { d with members := m } :=
  foldl_coDown_members _ c.below _

/-- The record of an outcome is a matter of the recorder. -/
theorem coRecord_eq (s : State) (coId : Nat) : ∃ y, s.coRecord coId = { s with tally := y } := s.note_eq _

theorem distribute_spec (s : State) (c : Changeover) (commit : Bool) :
    (s.distribute c commit).cyc = { s.cyc with lastOutcome := some (c.coId, c.cycle, commit) } ∧ (s.distribute c commit).graph = s.graph ∧
    (s.distribute c commit).loop = s.loop ∧ (s.distribute c commit).dev = s.dev := by
  obtain ⟨m, told⟩ := distribute_eq s c commit
  rw [told]
  exact ⟨rfl, rfl, rfl, rfl⟩

/-- The instants that a changeover asks for do not turn on what the members are told. -/
def sameCycle (s t : State) : Prop := ∀ c, swapMissed t c = swapMissed s c ∧ catchUpCycle t c = catchUpCycle s c ∧ devCycle t = devCycle s ∧
  ringAffected t c.ring = ringAffected s c.ring

theorem sameCycle_told (s : State) (m : Tab Member) (o : Option (Nat × Nat × Bool)) (k : Option Changeover) :
    sameCycle s ((s.modDrove fun d => { d with members := m }).modCyc fun y => { y with lastOutcome := o, changeover := k }) :=
  fun _ => ⟨rfl, rfl, rfl, rfl⟩

theorem ringVotes_unaffected (h : c.affected = false) (final : Bool) : ringVotes s c final = (none, true) := by
  unfold ringVotes
  rw [h]
  rfl

/-- R639: PREPARE is refused at once, or makes a changeover pending and goes on to the devices below. -/
theorem prepare_refused {coId x : Nat} {g l r : Bool} (h : coRefusal s x l ≠ 0) : changeoverMessage none (.prepare coId x g l r) s =
    s.coUp (.report coId 0 (some (s.drove.devAddr, coRefusal s x l))) := if_pos h

/-- The changeover that PREPARE makes pending. -/
def prepared (s : State) (coId x : Nat) (g l r : Bool) : Changeover :=
  { coId := coId, cycle := x, graph := g, loop := l, ring := r, target := false, prepared := devCycle s
    affected := ringAffected s r, below := coMembers s, outstanding := coMembers s }

theorem prepare_taken {coId x : Nat} {g l r : Bool} (h : coRefusal s x l = 0) : ∃ m, changeoverMessage none (.prepare coId x g l r) s =
    (s.modCyc fun y => { y with changeover := some (prepared s coId x g l r) }).modDrove fun d => { d with members := m } := by
  obtain ⟨m, told⟩ := foldl_coDown_members (.prepare coId x g l r) (coMembers s) (s.modCyc fun y => { y with changeover := some (prepared s coId x g l r) })
  exact ⟨m, (if_neg (not_not.mpr h)).trans told⟩

/-- R639: an acknowledgement goes up once everybody below has reported. -/
theorem changeoverReport_acked (hc : s.cyc.changeover = some c) (htarget : c.target = false) (hreported : c.reported = false)
    (hswapped : c.swapped = false) (hall : c.outstanding = []) (haffected : c.affected = false) (hrefusal : c.refusal = none)
    (hdue : 0 ≤ cycDiff (devCycle s) (cycleAfter s c.prepared 3)) : ∃ msg, changeoverReport s =
      (s.modCo fun c => { c with reported := true, acked := true, refusal := none }).coUp msg := by
  unfold changeoverReport
  rw [hc]
  simp only [ringVotes_unaffected haffected]
  rw [if_neg (by simp [htarget, hreported, hswapped, hall, hdue])]
  simp only [hrefusal]
  exact ⟨_, rfl⟩

/-- 01 R41: at the commit point of D the target decides. -/
theorem changeoverDecide_reached (hc : s.cyc.changeover = some c) (htarget : c.target = true) (hopen : c.outcome = none)
    (hreached : decideReached s c = true) : changeoverDecide s =
      if (lowerRefusal (lowerRefusal c.refusal (ringVotes s c true).1) (c.outstanding.map fun m => (memberAddr s m, 5)).head?).isSome then
        s.coCancel c (lowerRefusal (lowerRefusal c.refusal (ringVotes s c true).1) (c.outstanding.map fun m => (memberAddr s m, 5)).head?)
      else ((s.modCo fun c => { c with outcome := some true }).distribute c true).coRecord c.coId := by
  unfold changeoverDecide
  rw [hc]
  simp only
  rw [if_neg (by simp [htarget, hopen, hreached])]

theorem changeoverDecide_early (hc : s.cyc.changeover = some c) (h : decideReached s c = false) : changeoverDecide s = s := by
  unfold changeoverDecide
  rw [hc]
  simp only
  rw [if_pos (by simp [h])]

theorem lowerRefusal_isSome {a b : Option (Nat × Nat)} (h : a.isSome = true) : (lowerRefusal a b).isSome = true := by
  cases a with
  | none => cases h
  | some x =>
    cases b with
    | none => rfl
    | some y =>
      simp only [lowerRefusal]
      split
      · rfl
      · rfl

/-- 01 R41, R44: a changeover called off. -/
theorem coCancel_spec (s : State) (c : Changeover) (r : Option (Nat × Nat)) :
    (s.coCancel c r).cyc.changeover = none ∧ (s.coCancel c r).cyc.lastOutcome = some (c.coId, c.cycle, false) ∧ (s.coCancel c r).graph = s.graph ∧
    (s.coCancel c r).loop = s.loop ∧ (s.coCancel c r).dev = s.dev := by
  obtain ⟨cyc, graph, loop, dev⟩ := distribute_spec s c false
  obtain ⟨y, recorded⟩ := coRecord_eq (s.distribute c false) c.coId
  unfold State.coCancel
  extract_lets s₁ s₂
  have replied : s₁.Replied s₂ := by
    simp only [s₂]
    split
    · exact State.answer_replied s₁ _ _ _ _
    · exact State.Replied.refl s₁
  have first : s₁ = { s.distribute c false with tally := y } := recorded
  refine ⟨rfl, ?_, ?_, ?_, ?_⟩
  · have last : s₂.cyc.lastOutcome = s₁.cyc.lastOutcome := congrArg CycUnit.lastOutcome replied.cyc
    exact last.trans (by rw [first, cyc])
  · exact replied.graph.trans (by rw [first, graph])
  · exact replied.loop.trans (by rw [first, loop])
  · exact replied.dev.trans (by rw [first, dev])

/-- 01 R42: a participant learns the outcome. -/
theorem outcome_learned (hc : s.cyc.changeover = some c) (htarget : c.target = false) (hopen : c.outcome = none) (commit : Bool) :
    changeoverMessage none (.outcome c.coId c.cycle commit) s = if commit then
        if swapMissed ((s.distribute c commit).modCo fun c => { c with outcome := some true }) c then
          ((s.distribute c commit).modCo fun c => { c with outcome := some true }).coCatchUp c
        else ((s.distribute c commit).modCo fun c => { c with outcome := some true }).modCyc fun y => { y with unresolved := false }
      else ((s.distribute c commit).coRecord c.coId).modCyc fun y => { y with changeover := none, unresolved := false } := by
  simp only [changeoverMessage]
  rw [hc]
  simp only
  rw [if_neg (by simp [htarget, hopen])]

/-- A participant that has distributed COMMIT and noted it. -/
theorem committed_eq (hc : s.cyc.changeover = some c) : ∃ m, (s.distribute c true).modCo (fun c => { c with outcome := some true }) =
    (s.modDrove fun d => { d with members := m }).modCyc fun y =>
      { y with lastOutcome := some (c.coId, c.cycle, true), changeover := some { c with outcome := some true } } := by
  obtain ⟨m, told⟩ := distribute_eq s c true
  refine ⟨m, ?_⟩
  rw [told]
  simp [State.modCo, State.modCyc, State.modDrove, hc]

theorem coUnresolved_acked (hc : s.cyc.changeover = some c) (hswapped : c.swapped = false) (hopen : c.outcome = none) (hacked : c.acked = true)
    (hnext : cycleAfter s (devCycle s) 1 = c.cycle) (hpast : pastCommitPoint s = true) :
    coUnresolved s = s.modCyc fun y => { y with unresolved := true } := by
  unfold coUnresolved
  rw [hc]
  simp only
  rw [if_neg (by simp [hswapped, hnext, hpast]), hopen]
  exact if_pos hacked

end Changeovers

/-- Settles O42: PREPARE by `prepare_taken`, the report and the decision by their equations, the outcome by what `distribute` leaves as it was. -/
theorem changeoverRuns : Obligations.ChangeoverRuns := by
  intro t s u hu
  subst hu
  refine ⟨fun coId x g l r h => ?refused, fun coId x g l r h => ?taken, fun c hc htarget hreported hswapped hall haffected hrefusal hdue => ?report,
    fun c hc htarget hopen hall haffected hrefusal hreached => ?commit, fun c r hc htarget hopen hrefusal hreached => ?cancel,
    fun c hc h => ?early, fun c hc htarget hopen hmissed hswapped hring => ?late, fun c hc htarget hopen hmissed => ?learned,
    fun c hc htarget hopen => ?called, fun c hc hswapped hopen hacked hnext hpast => ?unresolved, fun h => ?none⟩
  case refused => exact (event_of rfl t _ s).trans (congrArg _ (prepare_refused h))
  case taken =>
    obtain ⟨m, taken⟩ := prepare_taken (coId := coId) (g := g) (r := r) h
    exact ⟨_, (event_of rfl t _ s).trans (congrArg _ taken), ⟨_, rfl, rfl, rfl, rfl, rfl, rfl, rfl, rfl, rfl⟩, rfl, rfl, rfl⟩
  case report =>
    obtain ⟨msg, sent⟩ := changeoverReport_acked hc htarget hreported hswapped hall haffected hrefusal hdue
    refine ⟨_, (event_of rfl t _ s).trans (congrArg _ sent), ?_, rfl, rfl, rfl⟩
    have noted : (((s.at t).modCo fun c => { c with reported := true, acked := true, refusal := none }).coUp msg).cyc.changeover =
        (s.at t).cyc.changeover.map fun c => { c with reported := true, acked := true, refusal := none } := rfl
    rw [noted, hc, Option.map_some, hrefusal]
  case commit =>
    have decided := changeoverDecide_reached hc htarget hopen hreached
    rw [ringVotes_unaffected haffected, hrefusal, hall] at decided
    refine ⟨_, (event_of rfl t _ s).trans (congrArg _ decided), ?_⟩
    obtain ⟨cyc, graph, loop, dev⟩ := distribute_spec ((s.at t).modCo fun c => { c with outcome := some true }) c true
    obtain ⟨y, recorded⟩ := coRecord_eq (((s.at t).modCo fun c => { c with outcome := some true }).distribute c true) c.coId
    have all : (if (lowerRefusal (lowerRefusal none none) (List.map (fun m => (memberAddr (s.at t) m, 5)) []).head?).isSome = true then
        (s.at t).coCancel c (lowerRefusal (lowerRefusal none none) (List.map (fun m => (memberAddr (s.at t) m, 5)) []).head?)
      else (((s.at t).modCo fun c => { c with outcome := some true }).distribute c true).coRecord c.coId) =
        { ((s.at t).modCo fun c => { c with outcome := some true }).distribute c true with tally := y } := recorded
    rw [all]
    refine ⟨?_, ?_, graph, loop, dev⟩
    · have noted : ((s.at t).modCo fun c => { c with outcome := some true }).cyc.changeover =
          (s.at t).cyc.changeover.map fun c => { c with outcome := some true } := rfl
      rw [cyc, noted, hc]
      rfl
    · rw [cyc]
  case cancel =>
    have decided := changeoverDecide_reached hc htarget hopen hreached
    rw [if_pos (lowerRefusal_isSome (lowerRefusal_isSome (by rw [hrefusal]; rfl)))] at decided
    exact ⟨_, (event_of rfl t _ s).trans (congrArg _ decided), coCancel_spec _ c _⟩
  case early => exact (event_of rfl t _ s).trans (congrArg _ (changeoverDecide_early hc h))
  case late =>
    obtain ⟨m, committed⟩ := committed_eq hc
    obtain ⟨missed, catchUp, cycle, ring⟩ := sameCycle_told (s.at t) m (some (c.coId, c.cycle, true)) (some { c with outcome := some true }) c
    have learned := outcome_learned hc htarget hopen true
    rw [if_pos rfl, committed, if_pos (missed.trans hmissed), State.coCatchUp, if_neg (by rw [hswapped]; exact Bool.false_ne_true)] at learned
    refine ⟨_, (event_of rfl t _ s).trans (congrArg _ learned), rfl, ?_, rfl, rfl⟩
    simp only [catchUp, ring, cycle, hring]
    rfl
  case learned =>
    obtain ⟨m, committed⟩ := committed_eq hc
    obtain ⟨missed, -⟩ := sameCycle_told (s.at t) m (some (c.coId, c.cycle, true)) (some { c with outcome := some true }) c
    have learned := outcome_learned hc htarget hopen true
    rw [if_pos rfl, committed, if_neg (by rw [missed, hmissed]; exact Bool.false_ne_true)] at learned
    exact ⟨_, (event_of rfl t _ s).trans (congrArg _ learned), rfl, rfl, rfl, rfl⟩
  case called =>
    have learned := outcome_learned hc htarget hopen false
    obtain ⟨-, graph, loop, -⟩ := distribute_spec (s.at t) c false
    obtain ⟨y, recorded⟩ := coRecord_eq ((s.at t).distribute c false) c.coId
    rw [if_neg Bool.false_ne_true, recorded] at learned
    exact ⟨_, (event_of rfl t _ s).trans (congrArg _ learned), rfl, rfl, graph, loop⟩
  case unresolved => exact (event_of rfl t _ s).trans (congrArg _ (coUnresolved_acked hc hswapped hopen hacked hnext hpast))
  case none =>
    have idle : coUnresolved (s.at t) = s.at t ∧ changeoverReport (s.at t) = s.at t ∧ changeoverDecide (s.at t) = s.at t := by
      unfold coUnresolved changeoverReport changeoverDecide
      rw [h]
      exact ⟨rfl, rfl, rfl⟩
    obtain ⟨first, second, third⟩ := idle
    exact ⟨(event_of rfl t _ s).trans (congrArg _ first), (event_of rfl t _ s).trans (congrArg _ second), (event_of rfl t _ s).trans (congrArg _ third)⟩

end Sys2Proof.Machine
end
section
/-! What the motion generator does by itself (07 R245–R247, R253, R256, R257; 08 R292). -/

namespace Sys2Proof.Machine

section Axes

variable {s : State} {n a pair : Nat} {c : AxisCh}

/-- Tables of one entry: what it lists. -/
theorem axisOf_single (h : s.axis.ch = [(n, c)]) : axisOf s n = c := by
  unfold axisOf
  rw [h]
  exact if_pos rfl

theorem axisNumbers_single (h : s.axis.ch = [(n, c)]) (hkind : c.kind ≠ 0) : axisNumbers s = [n] := by
  unfold axisNumbers
  rw [h]
  simp [hkind]

/-- An axis without a segment and without a start that waits goes nowhere (07 R239). -/
theorem advance_resting {m : Motion} (hseg : m.seg = none) (hlate : m.late = none) (read : Nat → Option (List Word)) (dec fuel : Nat) (t : Int) :
    Motion.advance read dec fuel t m = { m := m } := by
  cases fuel with
  | zero => rfl
  | succ fuel =>
    unfold Motion.advance Motion.nextChange
    rw [hseg, hlate]

theorem carried_resting (hseg : c.m.seg = none) (hlate : c.m.late = none) (s : State) (t : Int) : c.carried s t = { m := c.m } :=
  advance_resting hseg hlate _ _ _ _

theorem axisAdvance_resting (hseg : (axisOf s n).m.seg = none) (hlate : (axisOf s n).m.late = none) :
    s.axisAdvance n = s.modCh n fun c => { c with m := (axisOf s n).m, restAt := (axisOf s n).restAt } := by
  unfold State.axisAdvance
  extract_lets c a rest s₁ s₂
  have carried : a = { m := c.m } := carried_resting hseg hlate s _
  have hrest : rest = c.restAt := if_neg fun h => by
    have hsome : c.m.seg.isSome = true := h.2
    rw [hseg] at hsome
    cases hsome
  have noFault : ¬ a.segFault = true := by rw [carried]; exact Bool.false_ne_true
  have noMarks : s₂ = s₁ := by
    simp only [s₂]
    rw [carried]
    rfl
  rw [if_neg noFault, noMarks]
  simp only [s₁]
  rw [carried, hrest]
  have noSeg : (axisOf s n).m.seg.isSome = false := by rw [hseg]; rfl
  simp only [c, noSeg]
  rfl

theorem axisAdvance_resting_own (hwf : Tab.wf {} s.axis.ch) (hseg : (axisOf s n).m.seg = none) (hlate : (axisOf s n).m.late = none) :
    axisOf (s.axisAdvance n) n = axisOf s n := by
  rw [axisAdvance_resting hseg hlate, axisOf_modCh hwf, if_pos rfl]

/-- The events of one axis change the channels of the motion generator alone. -/
def AxesOnly (s t : State) : Prop := t = { s with axis := { s.axis with ch := t.axis.ch } }

theorem AxesOnly.modCh (s : State) (n : Nat) (f : AxisCh → AxisCh) : AxesOnly s (s.modCh n f) := rfl

theorem AxesOnly.trans {s t u : State} (h : AxesOnly s t) (h' : AxesOnly t u) : AxesOnly s u := by
  unfold AxesOnly at h h' ⊢
  rw [h', h]

theorem AxesOnly.outside {s t : State} (h : AxesOnly s t) : t.now = s.now ∧ t.dev = s.dev ∧ t.mem = s.mem ∧ t.dio = s.dio := by
  unfold AxesOnly at h
  rw [h]
  exact ⟨rfl, rfl, rfl, rfl⟩

theorem AxesOnly.isl_eq {s t : State} (h : AxesOnly s t) : t.isl = s.isl := by
  unfold AxesOnly at h
  rw [h]

theorem AxesOnly.ss1Held_eq {s t : State} (h : AxesOnly s t) : t.axis.ss1Held = s.axis.ss1Held := by
  unfold AxesOnly at h
  rw [h]

theorem axisAdvance_resting_only (hseg : (axisOf s n).m.seg = none) (hlate : (axisOf s n).m.late = none) : AxesOnly s (s.axisAdvance n) := by
  rw [axisAdvance_resting hseg hlate]
  exact AxesOnly.modCh s n _

theorem axisAdvance_wf (hwf : Tab.wf {} s.axis.ch) (hseg : (axisOf s n).m.seg = none) (hlate : (axisOf s n).m.late = none) :
    Tab.wf {} (s.axisAdvance n).axis.ch := by
  rw [axisAdvance_resting hseg hlate]
  exact modCh_wf hwf

/-- R245: the phase of a pulse axis is carried to now. -/
theorem runPulse_eq (hkind : (axisOf s n).kind = 2) : s.runPulse n = s.modCh n fun c => { c with pulse := c.pulse.run c.dirSetup s.now } := if_pos hkind

theorem runPulse_only (s : State) (n : Nat) : AxesOnly s (s.runPulse n) := by
  unfold State.runPulse
  split
  · exact AxesOnly.modCh s n _
  · rfl

theorem runPulse_wf (hwf : Tab.wf {} s.axis.ch) (n : Nat) : Tab.wf {} (s.runPulse n).axis.ch := by
  unfold State.runPulse
  split
  · exact modCh_wf hwf
  · exact hwf

/-- The side of the limits on which an axis at rest was found (07 R254). -/
def sided (c : AxisCh) (p : Int) : AxisCh := { c with side := c.sideOf p }

/-- R254: an axis at rest that keeps its side of the limits passes the check. -/
theorem axisCheck_resting (hseg : (axisOf s n).m.seg = none) (hlate : (axisOf s n).m.late = none) (hundo : (axisOf s n).undo = none)
    (hside : (axisOf s n).limitsEn = false ∨ (axisOf s n).sideOf ((axisOf s n).cmdAt s (usNow s)).1 = (axisOf s n).side) :
    s.axisCheck n = s.modCh n fun c => sided c ((axisOf s n).cmdAt s (usNow s)).1 := by
  have still : ((axisOf s n).cmdAt s (usNow s)).2 = 0 := by
    unfold AxisCh.cmdAt
    rw [carried_resting hseg hlate]
    simp [Motion.at, hseg]
  have passes (p : Int) (hp : (axisOf s n).limitsEn = false ∨ (axisOf s n).sideOf p = (axisOf s n).side) : (axisOf s n).checkCause p 0 = none := by
    unfold AxisCh.checkCause
    extract_lets side
    rw [if_neg (by simp), if_neg]
    rintro ⟨hen, hout, hmoved⟩
    rcases hp with h | h
    · exact Bool.false_ne_true (h.symm.trans hen)
    · rcases hmoved with h' | h' | h'
      · exact h' h
      · exact absurd h'.2 (by decide)
      · exact absurd h'.2 (by decide)
  generalize hp : (axisOf s n).cmdAt s (usNow s) = q at still hside
  obtain ⟨p, v⟩ := q
  obtain rfl : v = 0 := still
  unfold State.axisCheck
  extract_lets now c undoing
  have without : undoing = none := if_neg fun h => by
    have hsome := h.2
    rw [hundo] at hsome
    cases hsome
  have hcmd : c.cmdAt s now = (p, 0) := hp
  rw [hcmd, without]
  simp only
  rw [show c.checkCause p 0 = none from passes p hside]
  rfl

/-- 07 R247: the increment of a pulse axis at rest, from its next commanded position. -/
def ticked (c : AxisCh) (next now : Int) (clock : Nat) : AxisCh :=
  { sided { c with pulse := c.pulse.run c.dirSetup clock } now with pulse := (c.pulse.run c.dirSetup clock).tick c.incMax next }

theorem cmdAt_pulse (c : AxisCh) (p : Pulse) (s : State) (t : Int) : AxisCh.cmdAt { c with pulse := p } s t = c.cmdAt s t := rfl

/-- A commanded position turns on the axis and on the memory of its entries, not on the other axes. -/
theorem cmdAt_axesOnly {t : State} (h : AxesOnly s t) (c : AxisCh) (x : Int) : c.cmdAt t x = c.cmdAt s x := by
  unfold AxesOnly at h
  rw [h]
  rfl

theorem usNow_axesOnly {t : State} (h : AxesOnly s t) : usNow t = usNow s := by
  unfold AxesOnly at h
  rw [h]
  rfl

theorem cmdAt_sided (c : AxisCh) (p : Int) (s : State) (t : Int) : (sided c p).cmdAt s t = c.cmdAt s t := rfl

/-- R247: one pulse axis at rest, at the tick of the generator. -/
theorem axisTick_resting (hwf : Tab.wf {} s.axis.ch) (hkind : (axisOf s n).kind = 2) (hseg : (axisOf s n).m.seg = none)
    (hlate : (axisOf s n).m.late = none) (hshift : (axisOf s n).latchShift = none) (hundo : (axisOf s n).undo = none)
    (hside : (axisOf s n).limitsEn = false ∨ (axisOf s n).sideOf ((axisOf s n).cmdAt s (usNow s)).1 = (axisOf s n).side) :
    axisOf (s.axisTick n) n = ticked (axisOf s n) ((axisOf s n).cmdAt s (usNow s + 1)).1 ((axisOf s n).cmdAt s (usNow s)).1 s.now ∧
    AxesOnly s (s.axisTick n) := by
  have run := runPulse_eq hkind
  have only₁ := runPulse_only s n
  have wf₁ := runPulse_wf hwf n
  have own₁ : axisOf (s.runPulse n) n = { axisOf s n with pulse := (axisOf s n).pulse.run (axisOf s n).dirSetup s.now } := by
    rw [run, axisOf_modCh hwf, if_pos rfl]
  have seg₁ : (axisOf (s.runPulse n) n).m.seg = none := by rw [own₁]; exact hseg
  have late₁ : (axisOf (s.runPulse n) n).m.late = none := by rw [own₁]; exact hlate
  have own₂ := (axisAdvance_resting_own wf₁ seg₁ late₁).trans own₁
  have only₂ := only₁.trans (axisAdvance_resting_only seg₁ late₁)
  have wf₂ := axisAdvance_wf wf₁ seg₁ late₁
  have shift₂ : ((s.runPulse n).axisAdvance n).latchShiftDue n = (s.runPulse n).axisAdvance n := by
    unfold State.latchShiftDue
    rw [own₂]
    simp only [hshift]
  unfold State.axisTick
  dsimp only
  generalize (s.runPulse n).axisAdvance n = x at own₂ only₂ wf₂ shift₂
  have cmd (t : Int) : (axisOf x n).cmdAt x t = (axisOf s n).cmdAt s t := by rw [cmdAt_axesOnly only₂, own₂, cmdAt_pulse]
  have side₂ : (axisOf x n).limitsEn = false ∨ (axisOf x n).sideOf ((axisOf x n).cmdAt x (usNow x)).1 = (axisOf x n).side := by
    rw [cmd, usNow_axesOnly only₂, own₂]
    exact hside
  have checked := axisCheck_resting (s := x) (n := n) (by rw [own₂]; exact hseg) (by rw [own₂]; exact hlate) (by rw [own₂]; exact hundo) side₂
  have kind₂ : (axisOf x n).kind = 2 := by rw [own₂]; exact hkind
  rw [shift₂, if_pos kind₂, checked]
  have own₃ : axisOf (x.modCh n fun c => sided c ((axisOf x n).cmdAt x (usNow x)).1) n =
      sided { axisOf s n with pulse := (axisOf s n).pulse.run (axisOf s n).dirSetup s.now } ((axisOf s n).cmdAt s (usNow s)).1 := by
    rw [axisOf_modCh wf₂, if_pos rfl, cmd, usNow_axesOnly only₂, own₂]
  have only₃ := only₂.trans (AxesOnly.modCh x n fun c => sided c ((axisOf x n).cmdAt x (usNow x)).1)
  have wf₃ : Tab.wf {} (x.modCh n fun c => sided c ((axisOf x n).cmdAt x (usNow x)).1).axis.ch := modCh_wf wf₂
  generalize (x.modCh n fun c => sided c ((axisOf x n).cmdAt x (usNow x)).1) = y at own₃ only₃ wf₃
  refine ⟨?_, only₃.trans (AxesOnly.modCh y n _)⟩
  rw [axisOf_modCh wf₃, if_pos rfl, cmdAt_axesOnly only₃, usNow_axesOnly only₃, own₃, cmdAt_sided, cmdAt_pulse]
  rfl

/-- 07 R245: a step that is owed and may be made. -/
theorem stepPulse_eq (h : channelOfPulse s a = some n) (hstep : (axisOf (s.runPulse n) n).canStep s.now = true) :
    stepPulse a s = (s.runPulse n).modCh n fun c => { c with pulse := { c.pulse with
      owed := c.pulse.owed - (if 0 < c.pulse.owed then 1 else -1),
      stepCount := wrap64 (c.pulse.stepCount + (if 0 < c.pulse.owed then 1 else -1)), riseAt := some s.now } } := by
  have now := (runPulse_only s n).outside.1
  unfold stepPulse
  rw [h]
  simp only [now]
  exact if_pos hstep

theorem stepPulse_waits (h : channelOfPulse s a = some n) (hstep : (axisOf (s.runPulse n) n).canStep s.now = false) :
    stepPulse a s = s.runPulse n := by
  have now := (runPulse_only s n).outside.1
  unfold stepPulse
  rw [h]
  simp only [now]
  exact if_neg (by rw [hstep]; exact Bool.false_ne_true)

theorem dirChange_eq (h : channelOfPulse s a = some n) (hturn : (axisOf (s.runPulse n) n).canTurn s.now = true) :
    dirChange a s = (s.runPulse n).modCh n fun c => { c with pulse := { c.pulse with
      dirPos := decide (0 < c.pulse.inc), dirAt := some s.now } } := by
  have now := (runPulse_only s n).outside.1
  unfold dirChange
  rw [h]
  simp only [now]
  exact if_pos hturn

/-- A step made is one less that is owed. -/
theorem owed_stepped {owed : Int} (h : owed ≠ 0) : (owed - (if 0 < owed then 1 else -1)).natAbs + 1 = owed.natAbs := by
  split
  · omega
  · omega

theorem owed_of_canStep {now : Nat} (h : c.canStep now = true) : c.pulse.owed ≠ 0 := by
  unfold AxisCh.canStep at h
  simp only [Bool.and_eq_true, decide_eq_true_eq] at h
  exact h.1.1.1

/-- 07 R257: a stop by SS1 of an axis at rest puts it under the internal segment of the stop. -/
theorem axisStop_ss1 (hwf : Tab.wf {} s.axis.ch) (hseg : (axisOf s n).m.seg = none) (hlate : (axisOf s n).m.late = none)
    (hstop : (axisOf s n).m.stopDec = 0) (hstate : (axisOf s n).m.state = .idle) (hundo : (axisOf s n).undo = none) :
    (axisOf (s.axisStop n 4) n).m.state = .ss1Stop ∧ AxesOnly s (s.axisStop n 4) := by
  have own₁ := axisAdvance_resting_own hwf hseg hlate
  have only₁ := axisAdvance_resting_only hseg hlate
  have wf₁ := axisAdvance_wf hwf hseg hlate
  unfold State.axisStop
  extract_lets x m
  have wf₂ : Tab.wf {} x.axis.ch := modCh_wf wf₁
  have motion : (axisOf x n).m = (axisOf s n).m := by
    simp only [x, State.axisUndoStart]
    rw [axisOf_modCh wf₁, if_pos rfl, own₁]
    split
    · simp [AxisCh.undone, hundo]
    · rfl
  have only₂ : AxesOnly s x := only₁.trans (AxesOnly.modCh _ n _)
  rw [if_neg (show ¬ (4 = 2) by decide), if_neg (fun h => h.2 rfl)]
  refine ⟨?_, only₂.trans (AxesOnly.modCh x n _)⟩
  rw [axisOf_modCh wf₂, if_pos rfl]
  simp [motion, Motion.stop, Motion.stopFrom, hstop, hstate]

/-! 08 R292: the latch of an encoder. -/

theorem Enc.step_latch (e : Enc) (x y : Bool) (t : Nat) : (e.step x y t).latched = e.latched ∧ (e.step x y t).latchedAt = e.latchedAt ∧
    (e.step x y t).armed = e.armed := by
  unfold Enc.step
  simp only
  split
  · exact ⟨rfl, rfl, rfl⟩
  · exact ⟨rfl, rfl, rfl⟩

/-- Looked at, an encoder keeps its latch. -/
theorem Enc.settle_latch (e : Enc) (now : Nat) : (e.settle now).latched = e.latched ∧ (e.settle now).latchedAt = e.latchedAt ∧
    (e.settle now).armed = e.armed := by
  have twice (x y x' y' : Bool) (t t' : Nat) : ((e.step x y t).step x' y' t').latched = e.latched ∧
      ((e.step x y t).step x' y' t').latchedAt = e.latchedAt ∧ ((e.step x y t).step x' y' t').armed = e.armed := by
    obtain ⟨h1, h2, h3⟩ := Enc.step_latch (e.step x y t) x' y' t'
    obtain ⟨k1, k2, k3⟩ := Enc.step_latch e x y t
    exact ⟨h1.trans k1, h2.trans k2, h3.trans k3⟩
  unfold Enc.settle
  extract_lets x y
  cases x with
  | none => cases y with
    | none => exact ⟨rfl, rfl, rfl⟩
    | some u => exact Enc.step_latch e _ _ _
  | some t => cases y with
    | none => exact Enc.step_latch e _ _ _
    | some u =>
      simp only
      split
      · exact Enc.step_latch e _ _ _
      · split
        · exact twice _ _ _ _ _ _
        · exact twice _ _ _ _ _ _

/-- The capture of an encoder's count (R292). -/
def captured (now : Nat) (e : Enc) : Enc :=
  { (if e.armed then { e with latched := e.count, latchedAt := now } else e) with armed := e.latchCont }

theorem captureLatch_eq (n : Nat) (s : State) : captureLatch n s = s.modEnc n (captured s.now) := by
  have same : (fun e : Enc =>
      let e := if e.armed then { e with latched := e.count, latchedAt := s.now } else e
      { e with armed := e.latchCont }) = captured s.now := by
    funext e
    simp only [captured]
    cases e.armed with
    | true => rfl
    | false => rfl
  exact congrArg (State.modEnc s n) same

theorem encOf_captureLatch (hwf : Tab.wf {} s.dio.encs) (n m : Nat) : encOf (captureLatch n s) m =
    if m = n then (captured s.now (encOf s m)).settle s.now else encOf s m := by
  have stored : look {} (captureLatch n s).dio.encs m =
      if m = n then captured s.now ((look {} s.dio.encs m).settle s.now) else look {} s.dio.encs m := by
    rw [captureLatch_eq]
    exact look_upd (fun e : Enc => captured s.now (e.settle s.now)) n m hwf
  have looked : encOf (captureLatch n s) m = (look {} (captureLatch n s).dio.encs m).settle s.now := by
    rw [encOf, captureLatch_eq]
    rfl
  rw [looked, stored]
  split
  · rfl
  · rfl

/-- An axis that waits for the latch takes its shift; the encoders, memory and the mode do not move. -/
theorem latchEvent_eq (hfits : latchSourceFits s n = true) : ∃ x, latchEvent n s = { captureLatch n s with axis := x } := by
  have shifted (f : State → Nat → State) (hf : ∀ s m, ∃ x, f s m = { s with axis := x }) : ∀ (l : List Nat) (s : State),
      ∃ x, l.foldl f s = { s with axis := x } := by
    intro l
    induction l with
    | nil => exact fun s => ⟨_, rfl⟩
    | cons m l ih =>
      intro s
      obtain ⟨x, one⟩ := hf s m
      obtain ⟨y, rest⟩ := ih (f s m)
      exact ⟨y, by rw [List.foldl_cons, rest, one]⟩
  unfold latchEvent
  rw [hfits]
  simp only [Bool.not_true, Bool.false_eq_true, if_false]
  split
  · exact ⟨_, rfl⟩
  · refine shifted _ (fun s m => ?_) _ _
    split
    · split
      · exact ⟨_, rfl⟩
      · exact ⟨_, rfl⟩
    · exact ⟨_, rfl⟩

end Axes

/-- Settles O44: the tick by `axisTick_resting`, steps and turns by their equations, SS1 by `axisStop_ss1`, a latch by `encOf_captureLatch`. -/
theorem axesRun : Obligations.AxesRun := by
  intro t s u hu hwf hencs
  subst hu
  refine ⟨fun hclock => ?noTick, fun n c hruns hclock hch hkind hseg hlate hshift hundo hside => ?tick, fun a n ha hn hstep => ?step,
    fun a n ha hn hstep => ?noStep, fun a n ha hn hturn => ?turn, fun a ha hnone => ?noChannel, fun n r hn hkind hstate hseg hlate hrest => ?stand,
    fun pair hpair hreq => ?noRequest, fun pair n c hpair hreq hch hkind hsto hseg hlate hstop hstate hundo => ?ss1, fun n hn hfits => ?noLatch,
    fun n hn hfits => ?latch⟩
  case noTick => exact (event_of rfl t _ s).trans (congrArg _ (if_neg fun h => hclock h.2))
  case tick =>
    have own := axisOf_single hch
    have one : tick (s.at t) = (s.at t).axisTick n := by
      unfold tick
      rw [if_pos ⟨hruns, hclock⟩, axisNumbers_single hch (by rw [hkind]; decide)]
      rfl
    obtain ⟨moved, only⟩ := axisTick_resting (n := n) hwf (by rw [own]; exact hkind) (by rw [own]; exact hseg) (by rw [own]; exact hlate)
      (by rw [own]; exact hshift) (by rw [own]; exact hundo) (by rw [own]; exact hside)
    rw [own] at moved
    obtain ⟨-, dev, mem, dio⟩ := only.outside
    exact ⟨_, (event_of rfl t _ s).trans (congrArg _ one), by rw [moved]; rfl, by rw [moved]; rfl, dev, mem, dio⟩
  case step =>
    have wf₁ := runPulse_wf hwf n
    obtain ⟨-, dev, mem, dio⟩ := (runPulse_only (s.at t) n).outside
    refine ⟨_, (event_of (decide_eq_true ha) t _ s).trans (congrArg _ (stepPulse_eq hn hstep)), ?_, ?_, dev, mem, dio⟩
    · rw [axisOf_modCh wf₁, if_pos rfl]
      exact owed_stepped (owed_of_canStep hstep)
    · rw [axisOf_modCh wf₁, if_pos rfl]
  case noStep => exact (event_of (decide_eq_true ha) t _ s).trans (congrArg _ (stepPulse_waits hn hstep))
  case turn =>
    have wf₁ := runPulse_wf hwf n
    obtain ⟨-, dev, mem, dio⟩ := (runPulse_only (s.at t) n).outside
    refine ⟨_, (event_of (decide_eq_true ha) t _ s).trans (congrArg _ (dirChange_eq hn hturn)), ?_, ?_, dev, mem, dio⟩
    · rw [axisOf_modCh wf₁, if_pos rfl]
    · rw [axisOf_modCh wf₁, if_pos rfl]
  case noChannel =>
    have idle : stepPulse a (s.at t) = s.at t ∧ dirChange a (s.at t) = s.at t := by
      unfold stepPulse dirChange
      rw [hnone]
      exact ⟨rfl, rfl⟩
    exact ⟨(event_of (decide_eq_true ha) t _ s).trans (congrArg _ idle.1), (event_of (decide_eq_true ha) t _ s).trans (congrArg _ idle.2)⟩
  case stand =>
    have own := axisAdvance_resting_own hwf hseg hlate
    have wf₁ := axisAdvance_wf hwf hseg hlate
    have only := axisAdvance_resting_only hseg hlate
    obtain ⟨now, dev, mem, dio⟩ := only.outside
    have stands : standstill n (s.at t) = if r + clocksOfUs ((axisOf (s.at t) n).standDelayMs * 1000) ≤ (s.at t).now then
        ((s.at t).axisAdvance n).modCh n fun c => { c with standing := true } else (s.at t).axisAdvance n := by
      unfold standstill
      simp only [own, hrest, now]
      refine if_congr ⟨fun h => h.2.2.2, fun h => ⟨hkind, hstate, by rw [hseg]; rfl, h⟩⟩ rfl rfl
    refine ⟨_, (event_of (decide_eq_true hn) t _ s).trans (congrArg _ stands), ?_⟩
    by_cases hdue : r + clocksOfUs ((axisOf (s.at t) n).standDelayMs * 1000) ≤ (s.at t).now
    · rw [if_pos hdue, axisOf_modCh wf₁, if_pos rfl, own, decide_eq_true hdue, Bool.or_true]
      exact ⟨rfl, rfl, dev, mem, dio⟩
    · rw [if_neg hdue, own, decide_eq_false hdue, Bool.or_false]
      exact ⟨rfl, rfl, dev, mem, dio⟩
  case noRequest => exact (event_of (decide_eq_true hpair) t _ s).trans (congrArg _ (if_pos (by rw [hreq]; rfl)))
  case ss1 =>
    have own := axisOf_single hch
    have listed : (axisNumbers (s.at t)).filter (fun n => bit (axisOf (s.at t) n).stoPairs pair) = [n] := by
      rw [axisNumbers_single hch hkind]
      simp [own, hsto]
    have stopped : ss1Request pair (s.at t) =
        (((s.at t).modIsl fun u => { u with ss1Req := setBit u.ss1Req pair false }).modAxis fun a =>
          { a with ss1Held := setBit a.ss1Held pair true }).axisStop n 4 := by
      unfold ss1Request
      rw [hreq]
      simp only [Bool.not_true, Bool.false_eq_true, if_false]
      exact congrArg (List.foldl _ _) listed
    obtain ⟨state, only⟩ := axisStop_ss1 (n := n) (s := ((s.at t).modIsl fun u => { u with ss1Req := setBit u.ss1Req pair false }).modAxis fun a =>
      { a with ss1Held := setBit a.ss1Held pair true }) hwf (by exact own ▸ hseg) (by exact own ▸ hlate) (by exact own ▸ hstop)
      (by exact own ▸ hstate) (by exact own ▸ hundo)
    obtain ⟨-, dev, mem, -⟩ := only.outside
    refine ⟨_, (event_of (decide_eq_true hpair) t _ s).trans (congrArg _ stopped), ?_, ?_, state, dev, mem⟩
    · rw [only.ss1Held_eq]
      exact (bit_setBit _ pair pair true).trans (if_pos rfl)
    · rw [only.isl_eq]
      exact (bit_setBit _ pair pair false).trans (if_pos rfl)
  case noLatch => exact (event_of (decide_eq_true hn) t _ s).trans (congrArg _ (if_pos (by rw [hfits]; rfl)))
  case latch =>
    obtain ⟨x, shifted⟩ := latchEvent_eq hfits
    have own := encOf_captureLatch hencs n n
    rw [if_pos rfl] at own
    obtain ⟨latched, latchedAt, armed⟩ := Enc.settle_latch (captured (s.at t).now (encOf (s.at t) n)) (s.at t).now
    rw [← own] at latched latchedAt armed
    refine ⟨_, (event_of (decide_eq_true hn) t _ s).trans (congrArg _ shifted), latched.trans ?_, latchedAt.trans ?_, armed, fun m hm => ?_, ?_, ?_⟩
    · unfold captured
      split
      · rfl
      · rfl
    · unfold captured
      split
      · rfl
      · rfl
    · exact (encOf_captureLatch hencs n m).trans (if_neg hm)
    · rw [captureLatch_eq]
      rfl
    · rw [captureLatch_eq]
      rfl

end Sys2Proof.Machine
end
section
/-! What the converters do by themselves (08 R270–R280). -/

namespace Sys2Proof.Machine

section Converters

variable {s t u : State} {c d n g pos raw instant : Nat} {k : Conv}

/-- `t` is `s` but for the converters. -/
def ConvsOnly (s t : State) : Prop := t = { s with adc := { s.adc with convs := t.adc.convs } }

theorem ConvsOnly.trans (h : ConvsOnly s t) (h' : ConvsOnly t u) : ConvsOnly s u := by
  unfold ConvsOnly at h h' ⊢
  rw [h', h]

theorem ConvsOnly.modConv (s : State) (c : Nat) (f : Conv → Conv) : ConvsOnly s (s.modConv c f) := rfl

theorem ConvsOnly.outside (h : ConvsOnly s t) : t.adc.results = s.adc.results ∧ t.adc.groups = s.adc.groups ∧ t.dev = s.dev ∧ t.mem = s.mem := by
  unfold ConvsOnly at h
  rw [h]
  exact ⟨rfl, rfl, rfl, rfl⟩

/-- Waking a converter that is busy changes no converter. -/
theorem convOf_wakeConv_busy (hwf : Tab.wf {} s.adc.convs) (hbusy : (convOf s c).busy.isSome = true) (d : Nat) :
    convOf (s.wakeConv c) d = convOf s d := by
  refine (convOf_modConv hwf d).trans ?_
  split
  next h => rw [h, next_of_busy hbusy]
  · rfl

/-- Beginning a conversion writes nothing about the retries and the count. -/
theorem next_counts {now : Nat} : (k.next now).retry = k.retry ∧ (k.next now).conversions = k.conversions := by
  unfold Conv.next
  split
  · exact ⟨rfl, rfl⟩
  · split
    · exact ⟨rfl, rfl⟩
    · exact ⟨rfl, rfl⟩
    · split
      · exact ⟨rfl, rfl⟩
      · exact ⟨rfl, rfl⟩
    · exact ⟨rfl, rfl⟩

theorem tableTaken_counts : k.tableTaken.retry = k.retry ∧ k.tableTaken.conversions = k.conversions := by
  unfold Conv.tableTaken
  split
  · exact ⟨rfl, rfl⟩
  · exact ⟨rfl, rfl⟩

theorem advance_counts {now : Nat} : (k.advance now).retry = k.retry ∧ (k.advance now).conversions = k.conversions := by
  unfold Conv.advance
  split
  · exact tableTaken_counts
  · dsimp only
    split
    · exact ⟨rfl, rfl⟩
    · exact ⟨rfl, rfl⟩

/-- The converter has ended the conversion in progress. -/
def State.convEnded (s : State) (c : Nat) : State := (s.wakeConv c).modConv c fun k => { k with busy := none, triggeredAt := none }

theorem convEnded_wf (hwf : Tab.wf {} s.adc.convs) : Tab.wf {} (s.convEnded c).adc.convs := modConv_wf (modConv_wf hwf)

theorem convOf_convEnded (hwf : Tab.wf {} s.adc.convs) (hbusy : (convOf s c).busy.isSome = true) (d : Nat) :
    convOf (s.convEnded c) d = if d = c then { convOf s d with busy := none, triggeredAt := none } else convOf s d := by
  have woken : Tab.wf {} (s.wakeConv c).adc.convs := modConv_wf hwf
  rw [State.convEnded, convOf_modConv woken, convOf_wakeConv_busy hwf hbusy]

theorem convEnded_only (s : State) (c : Nat) : ConvsOnly s (s.convEnded c) := rfl

/-- What a completion does with a conversion of the table (R271–R273). -/
def tableEnd (c raw pos : Nat) (good : Bool) (instant : Nat) (k : Conv) (s : State) : State :=
  if good then
    finishConv c raw .table (writeResult (8 * c + pos) raw .table instant
      (if k.retry.contains pos then (s.modConv c fun k => { k with retry := k.retry.filter (· ≠ pos) }).recordOpen 7 9 0 true else s))
  else if k.retry.contains pos then faultConv c .table s
  else (s.modConv c fun k => { k with retry := k.retry ++ [pos] }).modConv c Conv.tableTaken

theorem conversionComplete_table (hwf : Tab.wf {} s.adc.convs) (hbusy : (convOf s c).busy = some (.table, pos))
    (hfits : sampleFits (convOf s c) .table instant s = true) (hdom : domainOn s 9 = true) (good : Bool) :
    conversionComplete c raw good instant s = (tableEnd c raw pos good instant (convOf s c) (s.convEnded c)).wakeConv c := by
  have same := convOf_wakeConv_busy hwf (by rw [hbusy]; rfl) c
  have fits : (sampleFits (convOf s c) .table instant (s.wakeConv c) && domainOn (s.wakeConv c) 9) = true := by
    rw [Bool.and_eq_true]
    exact ⟨hfits, hdom⟩
  unfold conversionComplete
  dsimp only
  rw [same, hbusy, Option.filter_some, if_pos fits]
  cases good with
  | true => rfl
  | false => rfl

/-- R271, R272: a conversion that does not fit, or whose domain is off, has no effect. -/
theorem conversionComplete_none {kind : ConvKind} {good : Bool} (hwf : Tab.wf {} s.adc.convs) (hbusy : (convOf s c).busy = some (kind, pos))
    (hno : sampleFits (convOf s c) kind instant s = false ∨ domainOn s 9 = false) :
    conversionComplete c raw good instant s = s.wakeConv c := by
  have same := convOf_wakeConv_busy hwf (by rw [hbusy]; rfl) c
  have fits : ¬ (sampleFits (convOf s c) kind instant (s.wakeConv c) && domainOn (s.wakeConv c) 9) = true := by
    rw [Bool.and_eq_true]
    rintro ⟨hfits, hdom⟩
    rcases hno with h | h
    · exact absurd (hfits.symm.trans h) (by decide)
    · exact absurd (hdom.symm.trans h) (by decide)
  unfold conversionComplete
  dsimp only
  rw [same, hbusy, Option.filter_some, if_neg fits]

/-- The result of a conversion of the table (R270, R278, R280). -/
def tableResult (s : State) (c n raw instant : Nat) : AdcResult :=
  { code := correct ((convOf s c).oldCal.getD (calOf s n (rangeOfInput s n))) raw, ovr := raw == 0 || raw == 65535
    fault := (convOf s c).ovrFault && (raw == 0 || raw == 65535), group := false, urgent := false, instant := instant }

theorem writeResult_table (hwf : Tab.wf {} s.adc.convs) (hres : Tab.wf {} s.adc.results) (hn : n / 8 = c) (hu : u = writeResult n raw .table instant s) :
    Tab.wf {} u.adc.convs ∧ (∀ m, resultOf u m = if m = n then tableResult s c n raw instant else resultOf s m) ∧
    (convOf u c).conversions = sat32 (convOf s c).conversions ∧ u.dev = s.dev ∧ u.mem = s.mem ∧ u.dio = s.dio := by
  subst hu hn
  unfold writeResult
  extract_lets k ovr r s₁ s₂
  obtain ⟨q, published⟩ := s₂.publishAt_eq (0x100 + n) instant (enc 32 (signedValue (rangeOfInput s₂ n) r.code))
  have own := (convOf_modConv (s := s₁) (c := n / 8) (f := fun k => { k with
    conversions := sat32 k.conversions, ovrCount := if ovr then sat32 k.ovrCount else k.ovrCount }) hwf (n / 8)).trans (if_pos rfl)
  have written (m : Nat) : resultOf s₂ m = if m = n then r else resultOf s m := by
    change look {} (put {} s.adc.results n r) m = _
    split
    next h => rw [h, look_put_same n r hres]
    next h => exact look_put_other _ r h
  have wf₂ : Tab.wf {} s₂.adc.convs := modConv_wf hwf
  rw [published]
  exact ⟨wf₂, written, congrArg Conv.conversions own, rfl, rfl, rfl⟩

/-- Each of these results is at fault. -/
def faulted (c : Nat) (l : List Nat) (s : State) : State :=
  l.foldl (fun s i => s.modAdc fun a => { a with results := upd {} a.results (8 * c + i) fun r => { r with fault := true } }) s

theorem faulted_spec (c : Nat) : ∀ (l : List Nat) {s : State}, Tab.wf {} s.adc.results →
    (faulted c l s = { s with adc := { s.adc with results := (faulted c l s).adc.results } }) ∧
    (∀ i, i ∈ l ∨ (resultOf s (8 * c + i)).fault = true → (resultOf (faulted c l s) (8 * c + i)).fault = true)
  | [], s, _ => ⟨rfl, fun i h => h.resolve_left List.not_mem_nil⟩
  | j :: l, s, hres => by
    obtain ⟨frame, marked⟩ := faulted_spec c l
      (s := s.modAdc fun a => { a with results := upd {} a.results (8 * c + j) fun r => { r with fault := true } })
      (upd_wf (8 * c + j) (fun r : AdcResult => { r with fault := true }) hres)
    refine ⟨frame, fun i h => marked i ?_⟩
    have one := look_upd (fun r : AdcResult => { r with fault := true }) (8 * c + j) (8 * c + i) hres
    rcases h with h | h
    · rcases List.mem_cons.mp h with rfl | h
      · exact Or.inr ((congrArg AdcResult.fault one).trans (by rw [if_pos rfl]))
      · exact Or.inl h
    · refine Or.inr ((congrArg AdcResult.fault one).trans ?_)
      split
      · rfl
      · exact h

/-- R277: the urgent conversion that waits for a converter of an operation is dropped with it. -/
def dropWaiting (c : Nat) (s : State) : State :=
  match (convOf s c).waitingUrgent with
  | some u => if u.byOp.isSome then dropUrgent c u s else s
  | none => s

theorem dropWaiting_spec (hwf : Tab.wf {} s.adc.convs) (c : Nat) : Tab.wf {} (dropWaiting c s).adc.convs ∧
    (dropWaiting c s).adc.results = s.adc.results ∧ (dropWaiting c s).mem = s.mem := by
  unfold dropWaiting
  split
  next v _ =>
    split
    next hop =>
      have wf : Tab.wf {} (s.modConv c fun k => { k with urgentDropped := sat32 k.urgentDropped }).adc.convs := modConv_wf hwf
      obtain ⟨⟨slot, op⟩, hop⟩ := Option.isSome_iff_exists.mp hop
      unfold dropUrgent
      rw [hop]
      exact ⟨wf, rfl, rfl⟩
    · exact ⟨hwf, rfl, rfl⟩
  · exact ⟨hwf, rfl, rfl⟩

theorem Reacted.adc_eq (h : Reacted s t) : t.adc = s.adc := by unfold Reacted at h; rw [h]

/-- R272: the converter is FAULTED, with its eight inputs. -/
theorem faultConv_table (hwf : Tab.wf {} s.adc.convs) (hres : Tab.wf {} s.adc.results) (hu : u = faultConv c .table s) :
    Tab.wf {} u.adc.convs ∧ (convOf u c).faulted = true ∧ (convOf u c).busy = none ∧ (∀ i < 8, (resultOf u (8 * c + i)).fault = true) ∧
    u.mem = s.mem := by
  obtain ⟨wf₁, results₁, mem₁⟩ := dropWaiting_spec hwf c
  have stopped : u = ((faulted c (List.range 8) ((dropWaiting c s).modConv c fun k =>
      { k with faulted := true, busy := none, retry := [], calibration := none, waitingUrgent := none })).settle
      (fun d => (d.op == .adcUrgent || d.op == .adcCalibrate) && d.data.headD 0 / 8 == c) fun _ => (stAdFaulted, [])).takeFree.2.reportFault 7
      (Config.eventCode 8).toNat 1 ((faulted c (List.range 8) ((dropWaiting c s).modConv c fun k =>
      { k with faulted := true, busy := none, retry := [], calibration := none, waitingUrgent := none })).settle
      (fun d => (d.op == .adcUrgent || d.op == .adcCalibrate) && d.data.headD 0 / 8 == c) fun _ => (stAdFaulted, [])).takeFree.1.toNat := hu
  have own := (convOf_modConv (c := c) (f := fun k : Conv =>
    { k with faulted := true, busy := none, retry := [], calibration := none, waitingUrgent := none }) wf₁ c).trans (if_pos rfl)
  have wf₂ : Tab.wf {} ((dropWaiting c s).modConv c fun k =>
    { k with faulted := true, busy := none, retry := [], calibration := none, waitingUrgent := none }).adc.convs := modConv_wf wf₁
  have results₂ : Tab.wf {} ((dropWaiting c s).modConv c fun k =>
    { k with faulted := true, busy := none, retry := [], calibration := none, waitingUrgent := none }).adc.results := results₁ ▸ hres
  have mem₂ : ((dropWaiting c s).modConv c fun k =>
    { k with faulted := true, busy := none, retry := [], calibration := none, waitingUrgent := none }).mem = s.mem := mem₁
  generalize (dropWaiting c s).modConv c (fun k =>
    { k with faulted := true, busy := none, retry := [], calibration := none, waitingUrgent := none }) = x at stopped own wf₂ results₂ mem₂
  obtain ⟨frame, marked⟩ := faulted_spec c (List.range 8) results₂
  have mem₃ : (faulted c (List.range 8) x).mem = x.mem := by rw [frame]
  have convs₃ : (faulted c (List.range 8) x).adc.convs = x.adc.convs := by rw [frame]
  generalize faulted c (List.range 8) x = y at stopped marked mem₃ convs₃
  have replied := y.settle_replied (fun d => (d.op == .adcUrgent || d.op == .adcCalibrate) && d.data.headD 0 / 8 == c) fun _ => (stAdFaulted, [])
  have reacted := Reacted.reportFault (y.settle (fun d => (d.op == .adcUrgent || d.op == .adcCalibrate) && d.data.headD 0 / 8 == c)
    fun _ => (stAdFaulted, [])).takeFree.2 7 (Config.eventCode 8).toNat 1 (y.settle
      (fun d => (d.op == .adcUrgent || d.op == .adcCalibrate) && d.data.headD 0 / 8 == c) fun _ => (stAdFaulted, [])).takeFree.1.toNat false
  rw [← stopped] at reacted
  have adc : u.adc = y.adc := reacted.adc_eq.trans replied.adc
  have mem : u.mem = y.mem := reacted.mem_eq.trans replied.mem
  refine ⟨by rw [adc, convs₃]; exact wf₂, ?_, ?_, fun i hi => ?_, mem.trans (mem₃.trans mem₂)⟩
  · rw [convOf, adc, convs₃]
    exact congrArg Conv.faulted own
  · rw [convOf, adc, convs₃]
    exact congrArg Conv.busy own
  · rw [resultOf, adc]
    exact marked i (Or.inl (List.mem_range.mpr hi))

/-! Group triggers (08 R274, R275). -/

/-- A converter that idles and for which nothing urgent waits. -/
def Conv.isFree (k : Conv) : Prop := k.faulted = false ∧ k.busy = none ∧ k.waitingUrgent = none

theorem next_of_free {now : Nat} (hfree : k.isFree) : (k.next now).busy = none ∨ (∃ pos, (k.next now).busy = some (.calibration, pos)) ∨
    ∃ pos, (k.next now).busy = some (.table, pos) := by
  obtain ⟨hsound, hidle, hwait⟩ := hfree
  unfold Conv.next
  rw [if_neg (by simp [hsound, hidle]), hwait]
  split
  next h => cases h
  · exact Or.inr (Or.inl ⟨_, rfl⟩)
  · split
    · exact Or.inr (Or.inr ⟨_, rfl⟩)
    · exact Or.inl hidle
  · exact Or.inl hidle

theorem triggerConv_free (hwf : Tab.wf {} s.adc.convs) (hfree : (convOf s c).isFree) : Tab.wf {} (triggerConv g c s).adc.convs ∧
    ConvsOnly s (triggerConv g c s) ∧ (convOf (triggerConv g c s) c).busy = some (.group g, field (look {} s.adc.groups g).sel (3 * c) 3) ∧
    ∀ d, d ≠ c → convOf (triggerConv g c s) d = convOf s d := by
  have woken (d : Nat) := convOf_modConv (c := c) (f := fun k => k.next s.now) hwf d
  have wf₁ : Tab.wf {} (s.wakeConv c).adc.convs := modConv_wf hwf
  have own : convOf (s.wakeConv c) c = (convOf s c).next s.now := (woken c).trans (if_pos rfl)
  have begun (f : Conv → Conv) : Tab.wf {} ((s.wakeConv c).modConv c f).adc.convs ∧ ConvsOnly s ((s.wakeConv c).modConv c f) ∧
      convOf ((s.wakeConv c).modConv c f) c = f ((convOf s c).next s.now) ∧ ∀ d, d ≠ c → convOf ((s.wakeConv c).modConv c f) d = convOf s d := by
    refine ⟨modConv_wf wf₁, rfl, ?_, fun d hd => ?_⟩
    · rw [convOf_modConv wf₁, if_pos rfl, own]
    · rw [convOf_modConv wf₁, if_neg hd]
      exact (woken d).trans (if_neg hd)
  have groups : (s.wakeConv c).adc.groups = s.adc.groups := rfl
  unfold triggerConv
  extract_lets x k pos y
  have hk : k = (convOf s c).next s.now := own
  have sound : ¬ k.faulted = true := by rw [hk, next_faulted.1, hfree.1]; exact Bool.false_ne_true
  have noUrgent : k.waitingUrgent = none := by rw [hk]; exact next_waitingUrgent hfree.2.2
  have hy : y = x := by simp only [y, noUrgent]
  rw [if_neg sound, hy]
  have cases := next_of_free (now := s.now) hfree
  rw [← hk] at cases
  rcases cases with h | ⟨p, h⟩ | ⟨p, h⟩
  · rw [h]
    obtain ⟨wf, only, busy, other⟩ := begun fun k => { k.begin (.group g) (field (look {} s.adc.groups g).sel (3 * c) 3) with triggeredAt := some s.now }
    exact ⟨wf, only, congrArg Conv.busy busy, other⟩
  · rw [h]
    obtain ⟨wf, only, busy, other⟩ := begun fun k => { Conv.begin { k with tableAborts := sat32 k.tableAborts } (.group g)
      (field (look {} s.adc.groups g).sel (3 * c) 3) with triggeredAt := some s.now }
    exact ⟨wf, only, congrArg Conv.busy busy, other⟩
  · rw [h]
    obtain ⟨wf, only, busy, other⟩ := begun fun k => { Conv.begin { k.tableTaken with tableAborts := sat32 k.tableAborts } (.group g)
      (field (look {} s.adc.groups g).sel (3 * c) 3) with triggeredAt := some s.now }
    exact ⟨wf, only, congrArg Conv.busy busy, other⟩

/-- R274: every converter of the group starts, the others go on. -/
theorem triggerAll_spec (g : Nat) : ∀ (l : List Nat) {s : State}, l.Nodup → Tab.wf {} s.adc.convs → (∀ c ∈ l, (convOf s c).isFree) →
    ConvsOnly s (l.foldl (fun s c => triggerConv g c s) s) ∧
    (∀ c ∈ l, (convOf (l.foldl (fun s c => triggerConv g c s) s) c).busy = some (.group g, field (look {} s.adc.groups g).sel (3 * c) 3)) ∧
    ∀ c, c ∉ l → convOf (l.foldl (fun s c => triggerConv g c s) s) c = convOf s c
  | [], s, _, _, _ => ⟨rfl, fun _ h => absurd h List.not_mem_nil, fun _ _ => rfl⟩
  | d :: l, s, hnodup, hwf, hfree => by
    obtain ⟨hd, hl⟩ := List.nodup_cons.mp hnodup
    obtain ⟨wf, only, busy, other⟩ := triggerConv_free (g := g) hwf (hfree d List.mem_cons_self)
    have away {c : Nat} (hc : c ∈ l) : c ≠ d := fun h => hd (h ▸ hc)
    obtain ⟨only', busy', other'⟩ := triggerAll_spec g l hl wf fun c hc => by
      rw [other c (away hc)]
      exact hfree c (List.mem_cons_of_mem _ hc)
    refine ⟨only.trans only', fun c hc => ?_, fun c hc => ?_⟩
    · rcases List.mem_cons.mp hc with rfl | hc
      · rw [List.foldl_cons, other' c hd, busy]
      · rw [List.foldl_cons, busy' c hc, only.outside.2.1]
    · obtain ⟨hne, hnot⟩ := not_or.mp fun h => hc (List.mem_cons.mpr h)
      rw [List.foldl_cons, other' c hnot, other c hne]

theorem groupTrigger_eq (hdue : groupDue (look {} s.adc.groups g) s = true) (hdom : domainOn s 9 = true) :
    groupTrigger g s = (bitsOf 16 (look {} s.adc.groups g).convMask).foldl (fun s c => triggerConv g c s)
      (s.modAdc fun a => { a with groups := upd {} a.groups g fun r => { r with sampledAt := none } }) := by
  unfold groupTrigger
  dsimp only
  rw [hdue, hdom]
  exact if_neg (by simp)

/-- A group that is triggered has a trigger, and keeps its positions. -/
theorem sel_of_due (hdue : groupDue (look {} s.adc.groups g) s = true) :
    (look {} (upd {} s.adc.groups g fun r => { r with sampledAt := none }) g).sel = (look {} s.adc.groups g).sel := by
  have hne : ({ look {} s.adc.groups g with sampledAt := none } : AdcGroup) ≠ {} := fun h => by
    have hoff : (look {} s.adc.groups g).trig = 0 := congrArg AdcGroup.trig h
    unfold groupDue at hdue
    rw [hoff] at hdue
    exact Bool.false_ne_true hdue
  have kept : look {} (upd {} s.adc.groups g fun r => { r with sampledAt := none }) g = { look {} s.adc.groups g with sampledAt := none } :=
    look_put_of_ne s.adc.groups g _ hne
  rw [kept]

/-! Calibration and results (08 R270, R280). -/

/-- R280: the zero step of a calibration ends with its mean, kept with its voltage. -/
theorem calibrationDone_zero {k : Calibration} (hk : (convOf s c).calibration = some k) (hcount : 1024 ≤ k.count) (hzero : k.full = false)
    (hwf : Tab.wf {} s.adc.convs) : ∃ w, calibrationDone c s = w ∧ (convOf w c).calibration = none ∧
    look none w.adc.zeroSteps (4 * k.input + rangeOfInput s k.input) = some ((roundEven (k.sum : Int) 4).toNat, k.refV) ∧
    w.adc.calSet = s.adc.calSet ∧ w.adc.results = s.adc.results ∧ w.dev = s.dev := by
  have ended (d : Nat) := convOf_modConv (c := c) (f := fun k : Conv => { k with calibration := none }) hwf d
  have range : rangeOfInput (s.modConv c fun k => { k with calibration := none }) k.input = rangeOfInput s k.input := by
    rw [rangeOfInput, rangeOfInput, ended]
    split
    · rfl
    · rfl
  refine ⟨_, rfl, ?_⟩
  unfold calibrationDone
  rw [hk]
  dsimp only
  rw [if_neg (by omega : ¬ k.count < 1024), hzero, range]
  simp only [Bool.not_false, if_true]
  generalize hx : ((s.modConv c fun k => { k with calibration := none }).modAdc fun a => { a with
    zeroSteps := put none a.zeroSteps (4 * k.input + rangeOfInput s k.input) (some ((roundEven (k.sum : Int) 4).toNat, k.refV)) }) = x
  have replied := x.settle_replied (fun d => d.op == .adcCalibrate && d.data.headD 0 == k.input)
    fun _ => (stOk, [wd (roundEven (k.sum : Int) 4).toNat, 0, 0])
  subst hx
  refine ⟨?_, ?_, ?_, ?_, replied.dev⟩
  · rw [convOf, replied.adc]
    exact congrArg Conv.calibration ((ended c).trans (if_pos rfl))
  · rw [replied.adc]
    exact look_put_of_ne _ _ _ (Option.some_ne_none _)
  · rw [replied.adc]
    rfl
  · rw [replied.adc]
    rfl

end Converters

/-- Settles O45: conversions by `conversionComplete_table`, a group by `triggerAll_spec`, calibration by `calibrationDone_zero`. -/
theorem convertersRun : Obligations.ConvertersRun := by
  intro t s u hu hwf hres
  subst hu
  have ran {c raw : Nat} (hc : c < converters (s.at t)) (hraw : raw < 65536) (good : Bool) (instant : Nat) :
      exec (.conversionComplete c raw good instant t) s = .next (conversionComplete c raw good instant (s.at t)) :=
    event_of (by rw [Bool.and_eq_true]; exact ⟨decide_eq_true hc, decide_eq_true hraw⟩) t (conversionComplete c raw good instant) s
  refine ⟨fun c raw pos instant hc hraw hpos hbusy hretry hfits hdom => ?good, fun c raw pos instant hc hraw hbusy hretry hfits hdom => ?retried,
    fun c raw pos instant hc hraw hbusy hretry hfits hdom => ?fault, fun c raw good pos kind instant hc hraw hbusy hno => ?noEffect,
    fun g hg hdue => ?notDue, fun g hg hdue hdom hfree => ?group, fun c k hc hk hcount => ?calibrating,
    fun c k hc hk hcount hzero => ?calibrated, fun n i hn habsent => ?absent, fun n i hn hpresent => ?result⟩
  case good =>
    have ended := convOf_convEnded hwf (by rw [hbusy]; rfl)
    have wf₁ : Tab.wf {} ((s.at t).convEnded c).adc.convs := convEnded_wf hwf
    have body : tableEnd c raw pos true instant (convOf (s.at t) c) ((s.at t).convEnded c) =
        (writeResult (8 * c + pos) raw .table instant ((s.at t).convEnded c)).modConv c
          fun k => k.advance (writeResult (8 * c + pos) raw .table instant ((s.at t).convEnded c)).now := by
      unfold tableEnd
      rw [hretry]
      rfl
    obtain ⟨wf₂, results, count, dev, mem, dio⟩ := writeResult_table (c := c) (n := 8 * c + pos) (raw := raw) (instant := instant) wf₁
      (u := writeResult (8 * c + pos) raw .table instant ((s.at t).convEnded c)) hres (by omega) rfl
    have own : tableResult ((s.at t).convEnded c) c (8 * c + pos) raw instant = tableResult (s.at t) c (8 * c + pos) raw instant := by
      have range : rangeOfInput ((s.at t).convEnded c) (8 * c + pos) = rangeOfInput (s.at t) (8 * c + pos) := by
        rw [rangeOfInput, rangeOfInput, ended]
        split
        · rfl
        · rfl
      unfold tableResult
      rw [range, ended, if_pos rfl]
      rfl
    rw [own] at results
    refine ⟨_, (ran hc hraw true instant).trans (congrArg _ ((conversionComplete_table hwf hbusy hfits hdom true).trans
      (congrArg (State.wakeConv · c) body))), ?_⟩
    generalize writeResult (8 * c + pos) raw .table instant ((s.at t).convEnded c) = x at wf₂ results count dev mem dio
    have wf₃ : Tab.wf {} (x.modConv c fun k => k.advance x.now).adc.convs := modConv_wf wf₂
    have here := (results (8 * c + pos)).trans (if_pos rfl)
    refine ⟨congrArg AdcResult.code here, congrArg AdcResult.ovr here, congrArg AdcResult.instant here,
      fun n hn => (results n).trans (if_neg hn), ?_, dev, mem, dio⟩
    rw [State.wakeConv, convOf_modConv wf₃, if_pos rfl, next_counts.2, convOf_modConv wf₂, if_pos rfl, advance_counts.2, count, ended, if_pos rfl]
  case retried =>
    have ended := convOf_convEnded hwf (by rw [hbusy]; rfl)
    have wf₁ : Tab.wf {} ((s.at t).convEnded c).adc.convs := convEnded_wf hwf
    have wf₂ : Tab.wf {} (((s.at t).convEnded c).modConv c fun k => { k with retry := k.retry ++ [pos] }).adc.convs := modConv_wf wf₁
    have body : tableEnd c raw pos false instant (convOf (s.at t) c) ((s.at t).convEnded c) =
        (((s.at t).convEnded c).modConv c fun k => { k with retry := k.retry ++ [pos] }).modConv c Conv.tableTaken := by
      unfold tableEnd
      rw [hretry]
      rfl
    refine ⟨_, (ran hc hraw false instant).trans (congrArg _ ((conversionComplete_table hwf hbusy hfits hdom false).trans
      (congrArg (State.wakeConv · c) body))), ?_, rfl, rfl, rfl⟩
    rw [State.wakeConv, convOf_modConv (modConv_wf wf₂), if_pos rfl, next_counts.1, convOf_modConv wf₂, if_pos rfl, tableTaken_counts.1,
      convOf_modConv wf₁, if_pos rfl, ended, if_pos rfl, hretry]
    rfl
  case fault =>
    have wf₁ : Tab.wf {} ((s.at t).convEnded c).adc.convs := convEnded_wf hwf
    have body : tableEnd c raw pos false instant (convOf (s.at t) c) ((s.at t).convEnded c) = faultConv c .table ((s.at t).convEnded c) := by
      unfold tableEnd
      rw [List.contains_iff_mem.mpr hretry]
      rfl
    obtain ⟨wf₂, isFaulted, idle, inputs, mem⟩ := faultConv_table (c := c) (u := faultConv c .table ((s.at t).convEnded c)) wf₁ hres rfl
    refine ⟨_, (ran hc hraw false instant).trans (congrArg _ ((conversionComplete_table hwf hbusy hfits hdom false).trans
      (congrArg (State.wakeConv · c) body))), ?_⟩
    have mem' : (faultConv c .table ((s.at t).convEnded c)).mem = (s.at t).mem := mem
    generalize faultConv c .table ((s.at t).convEnded c) = x at wf₂ isFaulted idle inputs mem'
    have kept : (convOf x c).next x.now = convOf x c := if_pos (Or.inl isFaulted)
    have own : convOf (x.wakeConv c) c = convOf x c := by rw [State.wakeConv, convOf_modConv wf₂, if_pos rfl, kept]
    exact ⟨by rw [own, isFaulted], by rw [own, idle], inputs, mem'⟩
  case noEffect =>
    exact ⟨_, (ran hc hraw good instant).trans (congrArg _ (conversionComplete_none hwf hbusy hno)), rfl,
      convOf_wakeConv_busy hwf (by rw [hbusy]; rfl) c⟩
  case notDue => exact (event_of (decide_eq_true hg) t _ s).trans (congrArg _ (if_pos (Or.inl (by rw [hdue]; rfl))))
  case group =>
    obtain ⟨only, busy, other⟩ := triggerAll_spec g (bitsOf 16 (look {} (s.at t).adc.groups g).convMask) (bitsOf_nodup _ _) (s :=
      (s.at t).modAdc fun a => { a with groups := upd {} a.groups g fun r => { r with sampledAt := none } }) hwf hfree
    refine ⟨_, (event_of (decide_eq_true hg) t _ s).trans (congrArg _ (groupTrigger_eq hdue hdom)), fun c hc => ?_, other,
      only.outside.1, only.outside.2.2.1⟩
    rw [busy c hc]
    exact congrArg (fun m => some (ConvKind.group g, field m (3 * c) 3)) (sel_of_due hdue)
  case calibrating =>
    have stays : calibrationDone c (s.at t) = s.at t := by
      unfold calibrationDone
      rw [hk]
      exact if_pos hcount
    exact (event_of (decide_eq_true hc) t _ s).trans (congrArg _ stays)
  case calibrated =>
    obtain ⟨w, done, ended⟩ := calibrationDone_zero hk hcount hzero hwf
    exact ⟨w, (event_of (decide_eq_true hc) t _ s).trans (congrArg _ done), ended⟩
  case absent =>
    exact (event_of (decide_eq_true hn) t _ s).trans (congrArg _ (if_pos (by rw [habsent]; rfl)))
  case result =>
    refine ⟨(s.at t).latchInstant n i, (event_of (decide_eq_true hn) t _ s).trans (congrArg _ (if_neg (by rw [hpresent]; decide))), ?_, rfl, rfl, rfl⟩
    exact look_put_of_ne _ _ _ (Nat.succ_ne_zero _)

end Sys2Proof.Machine
end
section
/-! What inputs, outputs, PWM and encoders do by themselves (08 R281–R292). -/

namespace Sys2Proof.Machine

section Levels

variable {s t : State} {n now : Nat} {d : Din} {level a b : Bool} {e : Enc}

theorem dinOf_modDin (hwf : Tab.wf {} s.dio.dins) (f : Din → Din) (m : Nat) :
    dinOf (s.modDin n f) m = if m = n then f (dinOf s m) else dinOf s m := look_upd f n m hwf

theorem doutOf_modDout (hwf : Tab.wf {} s.dio.douts) (f : Dout → Dout) (m : Nat) :
    doutOf (s.modDout n f) m = if m = n then f (doutOf s m) else doutOf s m := look_upd f n m hwf

theorem pwmOf_modPwm (hwf : Tab.wf {} s.dio.pwms) (f : Pwm → Pwm) (m : Nat) :
    pwmOf (s.modPwm n f) m = if m = n then f (pwmOf s m) else pwmOf s m := look_upd f n m hwf

/-! Inputs (R281–R283). -/

theorem count_filtered (d : Din) (before : Bool) (now : Nat) : (d.count before now).filtered = d.filtered := by
  unfold Din.count
  split
  · rfl
  · split
    · rfl
    · rfl

/-- R281: a filter whose time is over lets the level through. -/
theorem settle_filtered (h : d.rawSince + d.filter * 80 ≤ now) : (d.settle now).filtered = d.raw := by
  unfold Din.settle
  dsimp only
  split
  · exact count_filtered _ _ _
  next hno =>
    by_contra hne
    exact hno ⟨hne, h⟩

theorem settle_of_agrees (h : d.filtered = d.raw) : d.settle now = d := if_neg fun hno => hno.1 h

/-- The level found by the second look at an input is the level sensed. -/
theorem sense_raw : (d.sense level now).raw = level := by
  unfold Din.sense
  dsimp only
  rw [settle_raw]
  split
  next h => exact h
  · rfl

theorem settle_filter : (d.settle now).filter = d.filter := by
  unfold Din.settle Din.count
  dsimp only
  split
  · split
    · rfl
    · split
      · rfl
      · rfl
  · rfl

/-- R281: without a filter the level follows at once. -/
theorem sense_filtered (hfilter : d.filter = 0) (hsince : d.rawSince ≤ now) : (d.sense level now).filtered = level := by
  have first : (d.settle now).filtered = (d.settle now).raw := by
    rw [settle_filtered (by omega), settle_raw]
  unfold Din.sense
  dsimp only
  split
  next h => rw [settle_of_agrees first, first, h]
  · refine settle_filtered (d := { d.settle now with raw := level, rawSince := now }) ?_
    have unfiltered : (d.settle now).filter = 0 := settle_filter.trans hfilter
    simp [unfiltered]

/-- R282: a rise of an input without a filter is counted. -/
theorem sense_rise (hfilter : d.filter = 0) (hlow : d.activeLow = false) (hraw : d.raw = false) (hfiltered : d.filtered = false) :
    (d.sense true now).rise = (d.rise + 1) % 2 ^ 32 ∧ (d.sense true now).fall = d.fall := by
  have still : d.settle now = d := settle_of_agrees (hfiltered.trans hraw.symm)
  unfold Din.sense
  simp only [still, hraw]
  simp [Din.settle, Din.count, Din.logical, hfilter, hlow, hfiltered]

/-! Encoders (R290). -/

/-- One step of the quadrature sequence moves one of the two levels. -/
theorem quadPhase_step {x y : Bool} : ∀ {a b : Bool}, (quadPhase a b + 4 - quadPhase x y) % 4 = 1 → (a ≠ x ∧ b = y) ∨ (a = x ∧ b ≠ y) := by
  cases x with
  | false => cases y with
    | false => decide
    | true => decide
  | true => cases y with
    | false => decide
    | true => decide

/-- R290: a step of QUAD4 forward counts one up. -/
theorem step_quad (hconf : e.configured = true) (hmode : e.mode = 0) (hphase : (quadPhase a b + 4 - quadPhase e.a e.b) % 4 = 1) :
    (e.step a b now).count = enc 32 ((e.count : Int) + 1) ∧ (e.step a b now).a = a ∧ (e.step a b now).b = b := by
  have forward : e.delta a b = (1, false) := by
    unfold Enc.delta
    rw [if_pos hmode, hphase]
    rfl
  unfold Enc.step
  simp only [forward, hconf]
  exact ⟨rfl, rfl, rfl⟩

/-- Levels of an encoder without a filter are taken at once. -/
theorem sense_quad (hconf : e.configured = true) (hmode : e.mode = 0) (hfilter : e.filter = 0) (hA : e.rawA = e.a) (hB : e.rawB = e.b)
    (hphase : (quadPhase a b + 4 - quadPhase e.a e.b) % 4 = 1) :
    (e.sense a b now).count = enc 32 ((e.count : Int) + 1) ∧ (e.sense a b now).a = a ∧ (e.sense a b now).b = b := by
  have still : e.settle now = e := by simp [Enc.settle, Enc.due, hA, hB]
  unfold Enc.sense
  simp only [still]
  rcases quadPhase_step hphase with ⟨ha, hb⟩ | ⟨ha, hb⟩
  · have taken : Enc.settle { e with rawA := a, sinceA := now } now = Enc.step { e with rawA := a, sinceA := now } a b now := by
      simp [Enc.settle, Enc.due, hB, hfilter, Ne.symm ha, hb, Option.filter_some]
    have moved : ¬ e.rawA = a := fun h => ha (h.symm.trans hA)
    rw [if_neg moved, if_pos (by exact hB.trans hb.symm), taken]
    exact step_quad (e := { e with rawA := a, sinceA := now }) hconf hmode hphase
  · have taken : Enc.settle { e with rawB := b, sinceB := now } now = Enc.step { e with rawB := b, sinceB := now } a b now := by
      simp [Enc.settle, Enc.due, hA, hfilter, Ne.symm hb, ha, Option.filter_some]
    have moved : ¬ e.rawB = b := fun h => hb (h.symm.trans hB)
    rw [if_pos (hA.trans ha.symm), if_neg moved, taken]
    exact step_quad (e := { e with rawB := b, sinceB := now }) hconf hmode hphase

/-- An encoder that has just been looked at stands. -/
theorem settle_sense : (e.sense a b now).settle now = e.sense a b now := by
  unfold Enc.sense
  dsimp only
  exact settle_settled _ now (Enc.settle _ now).quadErr

theorem encOf_encoderCountEdge (hwf : Tab.wf {} s.dio.encs) (hdom : domainOn s 4 = true) (m : Nat) :
    encOf (encoderCountEdge n a b s) m = if m = n then (encOf s m).sense a b s.now else encOf s m := by
  have sensed : encoderCountEdge n a b s = s.modEnc n fun e => e.sense a b s.now := if_pos hdom
  have stored : look {} (encoderCountEdge n a b s).dio.encs m =
      if m = n then ((look {} s.dio.encs m).settle s.now).sense a b s.now else look {} s.dio.encs m := by
    rw [sensed]
    exact look_upd (fun e : Enc => (e.settle s.now).sense a b s.now) n m hwf
  have looked : encOf (encoderCountEdge n a b s) m = (look {} (encoderCountEdge n a b s).dio.encs m).settle s.now := by rw [encOf, sensed]; rfl
  rw [looked, stored]
  split
  · exact settle_sense
  · rfl

/-- The island sees the levels of an encoder with its own interface (14 R497). -/
def islandSees (n : Nat) (a b : Bool) (s : State) : State := if s.isl.powered then islandEncoder n a b s else s

theorem islandSees_eq (n : Nat) (a b : Bool) (s : State) : ∃ i, islandSees n a b s = { s with isl := i } := by
  unfold islandSees
  split
  · exact ⟨_, rfl⟩
  · exact ⟨_, rfl⟩

/-! Outputs (R287). -/

theorem Reacted.dio_eq (h : Reacted s t) : t.dio = s.dio := by unfold Reacted at h; rw [h]

/-- R287: nothing is judged before its 10 µs are over. -/
theorem doutFault_early (h : ∀ d, (doutOf s n).disagree = some d → s.now < d + clocksOfUs 10) (level : Bool) : doutFault n level s = s := by
  unfold doutFault
  dsimp only
  cases hd : (doutOf s n).disagree with
  | none => rfl
  | some d =>
    have early : ¬ d + clocksOfUs 10 ≤ s.now := Nat.not_le.mpr (h d hd)
    exact if_pos (by simp [early])

theorem doutFault_judged {d : Nat} (h : (doutOf s n).disagree = some d) (hdue : d + clocksOfUs 10 ≤ s.now) : doutFault n level s =
    if (doutOf s n).disagrees level then
      ((s.modDout n fun d => { d with readback := level, disagree := none, fault := true, drive := .highZ }).takeFree.2).reportFault
        15 (Config.eventCode 5).toNat 1 s.takeFree.1.toNat
    else (s.modDout n fun d => { d with readback := level, disagree := none }).recordOpen 15 6 0 true := by
  unfold doutFault
  dsimp only
  rw [h]
  exact if_neg (by simp [hdue])

end Levels

/-- Settles O46: inputs by `sense_filtered`, outputs by `doutFault_judged`, encoders by `sense_quad`. -/
theorem inputsAndOutputsMove : Obligations.InputsAndOutputsMove := by
  intro t s u hu hdins hdouts hpwms hencs
  subst hu
  refine ⟨fun n level hn hdom => ?asleep, fun n level hn hdom => ?sensed, fun n hn hdom hfilter hlow hraw hfiltered => ?rise,
    fun n hn hnot => ?notStuck, fun n hn hstuck => ?stuck, fun n level hn => ?readback, fun n level hn hnone => ?agrees,
    fun n level d hn hd hearly => ?early, fun n level d hn hd hdue hdis => ?fault, fun n level d hn hd hdue hagree => ?transient,
    fun n hn hno => ?noPeriod, fun n hn hconf hstarts => ?period, fun n a b hn hdom hconf hmode hfilter hA hB hphase => ?encoder⟩
  case asleep =>
    have edge : inputEdge n level (s.at t) = (s.at t).modDin n fun d => d.asleep level (s.at t).now := by
      unfold inputEdge
      rw [hdom]
      rfl
    have own := (dinOf_modDin (n := n) hdins (fun d => d.asleep level (s.at t).now) n).trans (if_pos rfl)
    exact ⟨_, (event_of (decide_eq_true hn) t _ s).trans (congrArg _ edge), (congrArg Din.raw own :),
      (congrArg Din.filtered own :), (congrArg Din.rise own :), (congrArg Din.fall own :)⟩
  case sensed =>
    have edge : inputEdge n level (s.at t) = (s.at t).modDin n fun d => d.sense level (s.at t).now := by
      unfold inputEdge
      rw [hdom]
      rfl
    have found := dinOf_modDin (n := n) hdins fun d => d.sense level (s.at t).now
    have own := (found n).trans (if_pos rfl)
    exact ⟨_, (event_of (decide_eq_true hn) t _ s).trans (congrArg _ edge), (congrArg Din.raw own).trans sense_raw,
      fun hfilter hsince => (congrArg Din.filtered own).trans (sense_filtered hfilter hsince), fun m hm => (found m).trans (if_neg hm), rfl, rfl, rfl⟩
  case rise =>
    have edge : inputEdge n true (s.at t) = (s.at t).modDin n fun d => d.sense true (s.at t).now := by
      unfold inputEdge
      rw [hdom]
      rfl
    have own := (dinOf_modDin (n := n) hdins (fun d => d.sense true (s.at t).now) n).trans (if_pos rfl)
    obtain ⟨rise, fall⟩ := sense_rise (now := (s.at t).now) hfilter hlow hraw hfiltered
    exact ⟨_, (event_of (decide_eq_true hn) t _ s).trans (congrArg _ edge), (congrArg Din.rise own).trans rise, (congrArg Din.fall own).trans fall⟩
  case notStuck =>
    exact (event_of (decide_eq_true hn) t _ s).trans (congrArg _ (if_neg fun h => by
      have isStuck : (dinOf (settleDins (s.at t)) n).isStuck (s.at t).now = true := h.1
      exact absurd (isStuck.symm.trans hnot) (by decide)))
  case stuck =>
    have wf := settleDins_wf hdins
    by_cases hset : (dinOf (settleDins (s.at t)) n).stuck = true
    · refine ⟨_, (event_of (decide_eq_true hn) t _ s).trans (congrArg _ (if_neg fun h => ?_)), hset, fun m _ => rfl, rfl, rfl⟩
      have notSet : (!(dinOf (settleDins (s.at t)) n).stuck) = true := h.2
      rw [hset] at notSet
      exact Bool.false_ne_true notSet
    · obtain ⟨x, y, recorded⟩ := State.recordOpen_eq ((settleDins (s.at t)).modDin n fun d => { d with stuck := true }) 15 3 0 false
      have found := dinOf_modDin (n := n) wf fun d => { d with stuck := true }
      have body : stuck n (s.at t) = ((settleDins (s.at t)).modDin n fun d => { d with stuck := true }).recordOpen 15 3 0 :=
        if_pos ⟨hstuck, by rw [Bool.eq_false_iff.mpr hset]; rfl⟩
      exact ⟨_, (event_of (decide_eq_true hn) t _ s).trans (congrArg _ (body.trans recorded)), congrArg Din.stuck ((found n).trans (if_pos rfl)),
        fun m hm => (found m).trans (if_neg hm), rfl, rfl⟩
  case readback =>
    have found := doutOf_modDout (n := n) hdouts fun d => { d with
      readback := level, disagree := if d.disagree.isNone && d.disagrees level then some (s.at t).now else d.disagree }
    have own := (found n).trans (if_pos rfl)
    refine ⟨_, event_of (decide_eq_true hn) t _ s, (congrArg Dout.readback own :), (congrArg Dout.drive own :), (congrArg Dout.fault own :),
      fun m hm => (found m).trans (if_neg hm), fun hdrive hlevel => (congrArg Dout.disagree own).trans ?_, rfl, rfl⟩
    have judged : (doutOf (s.at t) n).disagrees level = true := by
      unfold Dout.disagrees
      rw [hdrive, hlevel]
      rfl
    dsimp only
    rw [judged]
    cases (doutOf (s.at t) n).disagree with
    | none => rfl
    | some d => rfl
  case agrees =>
    exact (event_of (decide_eq_true hn) t _ s).trans (congrArg _ (doutFault_early (fun d h => absurd (hnone.symm.trans h) (Option.some_ne_none d).symm) level))
  case early =>
    exact (event_of (decide_eq_true hn) t _ s).trans (congrArg _ (doutFault_early (fun x h => Option.some.inj (hd.symm.trans h) ▸ hearly) level))
  case fault =>
    have found := doutOf_modDout (n := n) hdouts fun d => { d with readback := level, disagree := none, fault := true, drive := .highZ }
    have reacted := Reacted.reportFault (((s.at t).modDout n fun d =>
      { d with readback := level, disagree := none, fault := true, drive := .highZ }).takeFree.2) 15 (Config.eventCode 5).toNat 1
      (s.at t).takeFree.1.toNat false
    have same (m : Nat) := congrArg (fun x : DioUnit => look ({} : Dout) x.douts m) reacted.dio_eq
    have own := (same n).trans ((found n).trans (if_pos rfl))
    exact ⟨_, (event_of (decide_eq_true hn) t _ s).trans (congrArg _ ((doutFault_judged hd hdue).trans (if_pos hdis))), (congrArg Dout.fault own :),
      (congrArg Dout.drive own :), fun m hm => (same m).trans ((found m).trans (if_neg hm)), reacted.mem_eq⟩
  case transient =>
    obtain ⟨x, y, recorded⟩ := State.recordOpen_eq ((s.at t).modDout n fun d => { d with readback := level, disagree := none }) 15 6 0 true
    have own := (doutOf_modDout (n := n) hdouts (fun d => { d with readback := level, disagree := none }) n).trans (if_pos rfl)
    exact ⟨_, (event_of (decide_eq_true hn) t _ s).trans (congrArg _ ((doutFault_judged hd hdue).trans ((if_neg (by rw [hagree]; decide)).trans recorded))),
      (congrArg Dout.fault own :), (congrArg Dout.drive own :), (congrArg Dout.disagree own :), rfl, rfl⟩
  case noPeriod =>
    refine (event_of (decide_eq_true hn) t _ s).trans (congrArg _ (if_pos ?_))
    rcases hno with h | h
    · rw [h]
      rfl
    · rw [h, Bool.and_false]
      rfl
  case period =>
    have found := pwmOf_modPwm (n := n) hpwms fun p => { p with
      duty := clampDuty p.shadow, hi := (p.hiClk (clampDuty p.shadow)).1, frac := (p.hiClk (clampDuty p.shadow)).2, startAt := some (s.at t).now }
    have own := (found n).trans (if_pos rfl)
    exact ⟨_, (event_of (decide_eq_true hn) t _ s).trans (congrArg _ (if_neg (by rw [hconf, hstarts]; decide))), (congrArg Pwm.duty own :),
      (congrArg Pwm.hi own :), fun m hm => (found m).trans (if_neg hm), rfl, rfl⟩
  case encoder =>
    have body : exec (.encoderCount n a b t) s = .next (encoderCountEdge n a b (islandSees n a b (s.at t))) :=
      event_of (decide_eq_true hn) t (fun s => encoderCountEdge n a b (islandSees n a b s)) s
    obtain ⟨i, seen⟩ := islandSees_eq n a b (s.at t)
    rw [seen] at body
    have found (m : Nat) := encOf_encoderCountEdge (s := { s.at t with isl := i }) (n := n) (a := a) (b := b) hencs hdom m
    have own := (found n).trans (if_pos rfl)
    obtain ⟨count, levelA, levelB⟩ := sense_quad (now := (s.at t).now) hconf hmode hfilter hA hB hphase
    have sensed : encoderCountEdge n a b { s.at t with isl := i } = { s.at t with isl := i }.modEnc n fun e => e.sense a b (s.at t).now := if_pos hdom
    exact ⟨_, body, (congrArg Enc.count own).trans count, (congrArg Enc.a own).trans levelA, (congrArg Enc.b own).trans levelB,
      fun m hm => (found m).trans (if_neg hm), by rw [sensed]; rfl, by rw [sensed]; rfl⟩

end Sys2Proof.Machine
end
section
/-! What the acquisition engine does by itself (09 R308–R335). -/

namespace Sys2Proof.Machine

section Seen

variable {s t u : State} {c : Nat}

/-- `t` is `s` but for the engines, captures and triggers that a publication reaches: the index and the ingest queue stand. -/
def Seen (s t : State) : Prop :=
  t = { s with acq := { t.acq with ingest := s.acq.ingest, index := s.acq.index }, mem := t.mem, keep := t.keep }

namespace Seen

theorem refl (s : State) : Seen s s := rfl

theorem trans (h : Seen s t) (h' : Seen t u) : Seen s u := by
  unfold Seen at h h' ⊢
  rw [h', h]

theorem outside (h : Seen s t) : t.acq.ingest = s.acq.ingest ∧ t.acq.index = s.acq.index ∧ t.dev = s.dev ∧ t.graph = s.graph ∧ t.loop = s.loop := by
  unfold Seen at h
  rw [h]
  exact ⟨rfl, rfl, rfl, rfl, rfl⟩

theorem foldl {α : Type} {f : State → α → State} (hf : ∀ s a, Seen s (f s a)) : ∀ (l : List α) (s : State), Seen s (l.foldl f s)
  | [], s => refl s
  | a :: l, s => (hf s a).trans (foldl hf l (f s a))

theorem modTrig (s : State) (n : Nat) (f : TrigUnit → TrigUnit) : Seen s (s.modTrig n f) := rfl

theorem trigCapture (s : State) (n stamp value c : Nat) : Seen s (s.trigCapture n stamp value c) := by
  unfold State.trigCapture
  split
  · exact rfl
  · exact refl s

theorem fireUnit (s : State) (n stamp value : Nat) : Seen s (s.fireUnit n stamp value) := by
  unfold State.fireUnit
  extract_lets s₁ s₂
  have fired : Seen s₁ s₂ := foldl (fun s c => trigCapture s n stamp value c) _ s₁
  exact ((modTrig s n _).trans fired).trans rfl

theorem fire (s : State) (n stamp value : Nat) : Seen s (s.fire n stamp value) := by
  refine (fireUnit s n stamp value).trans (foldl (fun s m => ?_) _ _)
  extract_lets k fired members due
  split
  · exact fireUnit s m stamp 0
  · exact refl s

theorem watch (s : State) (n stamp value real : Nat) (prev : Option Nat) : Seen s (s.watch n stamp value real prev) := by
  unfold State.watch
  extract_lets k setReady unready edge
  have ready (b : Bool) (x : State) : Seen x (setReady b x) := modTrig x n _
  have fires (x : State) (p : Prop) [Decidable p] : Seen x (if p then x.fire n stamp value else x) := by
    split
    · exact fire x n stamp value
    · exact refl x
  have edges (beyond reached : Bool) : Seen s (edge beyond reached) := by
    simp only [edge]
    split
    · exact (ready false s).trans (fires _ _)
    · split
      · exact ready true s
      · exact refl s
  have level : Seen s (if levelHolds k real value then
      (if k.ready ∧ k.open' stamp then (setReady false s).fire n stamp value else setReady false s) else setReady true s) := by
    split
    · exact (ready false s).trans (fires _ _)
    · exact ready true s
  split
  · exact level
  · exact level
  · exact level
  · exact level
  · exact level
  · exact edges _ _
  · exact edges _ _
  · split
    · exact fires s _
    · exact refl s
  · exact refl s

theorem writeNat (s : State) (a n v : Nat) : Seen s (s.writeNat a n v) := by
  obtain ⟨m, k, written⟩ := s.writeBytes_eq a (bytesOfNat n v)
  rw [State.writeNat, written]
  rfl

theorem histCount (s : State) (h real : Nat) : Seen s (s.histCount h real) := by
  unfold State.histCount
  extract_lets e i b
  split
  · exact rfl
  · exact writeNat s _ _ _

theorem mapPoint (s : State) (m entry stamp real : Nat) : Seen s (s.mapPoint m entry stamp real) := by
  unfold State.mapPoint
  extract_lets e set point s₁ e₁
  have sets (f : Pmap → Pmap) (x : State) : Seen x (set f x) := rfl
  have points (x : Nat) (y : State) : Seen y (point x y) := (writeNat y _ _ _).trans (sets _ _)
  have begun : Seen s s₁ := by
    simp only [s₁]
    split
    · exact sets _ s
    · exact refl s
  split
  · exact begun
  · split
    · split
      · split
        · exact begun
        · exact begun.trans (points _ s₁)
      · exact begun
    · split
      · exact begun
      · extract_lets col
        split
        · exact begun
        · split
          · exact begun.trans (sets _ s₁)
          · exact begun.trans (points _ s₁)

end Seen

/-- 09 R308: what a publication leaves at the index. -/
theorem deliver_spec (p : Publication) (s : State) : ∃ w, deliver p s = w ∧ w.acq.ingest = s.acq.ingest ∧
    (look {} w.acq.index p.entry).value = p.value ∧ (look {} w.acq.index p.entry).stamp = p.stamp ∧
    (look {} w.acq.index p.entry).published = true ∧ (∀ e, e ≠ p.entry → look {} w.acq.index e = look {} s.acq.index e) ∧
    w.dev = s.dev ∧ w.graph = s.graph ∧ w.loop = s.loop := by
  refine ⟨_, rfl, ?_⟩
  unfold deliver
  extract_lets ty old real s₁ s₂ prev s₃
  have hists : Seen s₁ s₂ := Seen.foldl (fun s e => by
    split
    · exact Seen.histCount s _ _
    · exact Seen.refl s) _ _
  have triggers : Seen s₂ s₃ := by
    simp only [s₃]
    split
    · exact Seen.refl s₂
    · exact Seen.foldl (fun s e => by
        split
        · exact Seen.watch s _ _ _ _ _
        · exact Seen.refl s) _ _
  have all := (hists.trans triggers).trans (Seen.foldl (f := fun s (e : Nat × Pmap) =>
    if e.2.enable ∧ (e.2.ySource = p.entry ∨ (e.2.xy ∧ e.2.xSource = p.entry)) then s.mapPoint e.1 p.entry p.stamp real else s) (fun s e => by
      split
      · exact Seen.mapPoint s _ _ _ _
      · exact Seen.refl s) s₃.acq.pmaps s₃)
  obtain ⟨ingest, index, dev, graph, loop⟩ := all.outside
  have own : look {} s₁.acq.index p.entry = { look {} s.acq.index p.entry with value := p.value, stamp := p.stamp, published := true } :=
    look_put_of_ne s.acq.index p.entry _ fun h => Bool.false_ne_true (congrArg IndexEntry.published h).symm
  rw [index, own]
  exact ⟨ingest, rfl, rfl, rfl, fun e he => look_put_other s.acq.index _ he, dev, graph, loop⟩

theorem extractFirst_head {α : Type} {f : α → Bool} {p : α} {rest : List α} (h : f p = true) : extractFirst f (p :: rest) = some (p, rest) := if_pos h

theorem publication_eq {p : Publication} {rest : List Publication} (h : s.acq.ingest = p :: rest) (hp : p.entry < 0x3000) :
    publication s = deliver p (s.modAcq fun a => { a with ingest := rest }) := by
  have first : extractFirst (fun p => p.entry < 0x3000 || p.stamp / 1000 < usOf s.clock) s.acq.ingest = some (p, rest) := by
    rw [h]
    exact extractFirst_head (by simp [hp])
  unfold publication
  rw [first]

/-- 09 R334: where one histogram alone follows the entry, its bin counts one more. -/
theorem deliver_hist {p : Publication} {h : Nat} {e : Hist} {real : Nat} (hreal : real = toReal64 (entryType s p.entry) p.value)
    (hhists : s.acq.hists = [(h, e)]) (henable : e.enable = true) (hsource : e.source = p.entry) (hpmaps : s.acq.pmaps = [])
    (htriggers : s.acq.triggers = []) (hnum : Fmt.b64.isNan real = false) (hlow : 0 ≤ binOf real e.low e.width) (hhigh : binOf real e.low e.width < 1022) :
    ∃ a, deliver p s = State.countAt { s with acq := a } (0x30700000 + 0x1000 * h + 4 * (1 + (binOf real e.low e.width).toNat)) 4 := by
  unfold deliver
  extract_lets ty old real' s₁ s₂ prev s₃
  have sameReal : real' = real := hreal.symm
  have hists₁ : s₁.acq.hists = [(h, e)] := hhists
  have own : look {} s₁.acq.hists h = e := by
    rw [hists₁]
    exact if_pos rfl
  have counted : s₂ = s₁.countAt (0x30700000 + 0x1000 * h + 4 * (1 + (binOf real e.low e.width).toNat)) 4 := by
    simp only [s₂, hists₁, List.foldl_cons, List.foldl_nil]
    rw [if_pos ⟨henable, hsource⟩, sameReal]
    unfold State.histCount
    dsimp only
    rw [own, hnum, if_neg Bool.false_ne_true, if_neg (Int.not_lt.mpr hlow), if_neg (Int.not_le.mpr hhigh)]
  have acq₂ : s₂.acq = s₁.acq := by
    obtain ⟨m, k, written⟩ := s₁.writeBytes_eq (0x30700000 + 0x1000 * h + 4 * (1 + (binOf real e.low e.width).toNat))
      (bytesOfNat 4 (satAdd (8 * 4) (readNat s₁ (0x30700000 + 0x1000 * h + 4 * (1 + (binOf real e.low e.width).toNat)) 4) 1))
    rw [counted, State.countAt, State.writeNat, written]
  have triggers : s₃ = s₂ := by
    simp only [s₃]
    split
    · rfl
    · rw [acq₂, show s₁.acq.triggers = [] from htriggers]
      rfl
  refine ⟨s₁.acq, ?_⟩
  rw [triggers, acq₂, show s₁.acq.pmaps = [] from hpmaps, counted]
  rfl

/-! The end of an interval (09 R318, R336–R339). -/

/-- A capture whose record is made goes on. -/
def Capture.GoesOn (k k' : Capture) : Prop :=
  k'.nextB = k.nextB ∧ k'.records = k.records ∧ k'.running = k.running ∧ k'.stopAt = k.stopAt

theorem Capture.GoesOn.trans {k k' k'' : Capture} (h : k.GoesOn k') (h' : k'.GoesOn k'') : k.GoesOn k'' := by
  obtain ⟨a, b, d, e⟩ := h
  obtain ⟨a', b', d', e'⟩ := h'
  exact ⟨a'.trans a, b'.trans b, d'.trans d, e'.trans e⟩

theorem Capture.Sent.goesOn {k k' : Capture} (h : k.Sent k') : k.GoesOn k' := by
  unfold Capture.Sent at h
  rw [h]
  exact ⟨rfl, rfl, rfl, rfl⟩

/-- `t` is `s` after the boundary steps of the capture `c`, as far as mode, programs and loops and the capture's own course are concerned. -/
structure Stepped (c : Nat) (s t : State) : Prop where
  outside : t.dev = s.dev ∧ t.graph = s.graph ∧ t.loop = s.loop
  captures : Tab.wf {} s.acq.captures → Tab.wf {} t.acq.captures ∧ (capOf s c).GoesOn (capOf t c)

namespace Stepped

theorem refl (s : State) : Stepped c s s := ⟨⟨rfl, rfl, rfl⟩, fun h => ⟨h, rfl, rfl, rfl, rfl⟩⟩

theorem trans (h : Stepped c s t) (h' : Stepped c t u) : Stepped c s u := by
  obtain ⟨d, g, l⟩ := h.outside
  obtain ⟨d', g', l'⟩ := h'.outside
  refine ⟨⟨d'.trans d, g'.trans g, l'.trans l⟩, fun hwf => ?_⟩
  obtain ⟨wf, own⟩ := h.captures hwf
  obtain ⟨wf', own'⟩ := h'.captures wf
  exact ⟨wf', own.trans own'⟩

theorem of_recorded (h : Recorded c s t) : Stepped c s t := by
  have shape := h.shape
  unfold Streamed at shape
  refine ⟨?_, fun hwf => ⟨(h.captures hwf).1, (h.captures hwf).2.1.goesOn⟩⟩
  rw [shape]
  exact ⟨rfl, rfl, rfl⟩

theorem modCap (s : State) {f : Capture → Capture} (hf : ∀ k : Capture, k.GoesOn (f k)) : Stepped c s (s.modCap c f) :=
  ⟨⟨rfl, rfl, rfl⟩, fun hwf => ⟨modCap_wf hwf, by rw [capOf_modCap hwf, if_pos rfl]; exact hf _⟩⟩

theorem setRate (s : State) (b new reason fill : Nat) : Stepped c s (s.setRate c b new reason fill) := by
  unfold State.setRate
  extract_lets cap s₁
  split
  · exact refl s
  · exact (of_recorded (Recorded.queueRecord s _ _ _ _)).trans (modCap s₁ fun _ => ⟨rfl, rfl, rfl, rfl⟩)

theorem rateStep (b : Nat) (s : State) : Stepped c s (rateStep c b s) := by
  have low (x : State) (v : Option Nat) : Stepped c x (x.modCap c fun k => { k with lowSince := v }) := modCap x fun _ => ⟨rfl, rfl, rfl, rfl⟩
  unfold Machine.rateStep
  extract_lets cap fill s₁
  split
  · split
    · exact (low s none).trans (setRate s₁ _ _ _ _)
    · exact low s none
  · split
    · split
      · exact low s _
      · split
        · exact (setRate s _ _ _ _).trans (low _ _)
        · exact refl s
    · exact low s none

theorem boundaryStep (b : Nat) (s : State) : Stepped c s (boundaryStep c b s) := by
  unfold Machine.boundaryStep
  extract_lets cap gap fill changed s₁ s₂
  have policy : Stepped c s s₁ := by
    simp only [s₁]
    split
    · exact refl s
    · have policed : Stepped c s (s.modCap c fun k => { k with gapPolicy := gap, lowSince := none }) := modCap s fun _ => ⟨rfl, rfl, rfl, rfl⟩
      exact (policed.trans (of_recorded (Recorded.noteState _ 2 (b * 1000) 0))).trans (setRate changed _ _ _ _)
  have hostRate : Stepped c s₁ s₂ := by
    simp only [s₂]
    split
    · split
      · exact (setRate s₁ _ _ _ _).trans (modCap _ fun _ => ⟨rfl, rfl, rfl, rfl⟩)
      · exact refl s₁
    · exact refl s₁
  split
  · exact policy.trans hostRate
  · exact (policy.trans hostRate).trans (rateStep b s₂)

theorem pruneLoss (s : State) : Stepped c s s.pruneLoss := ⟨⟨rfl, rfl, rfl⟩, fun h => ⟨h, rfl, rfl, rfl, rfl⟩⟩

end Stepped

/-- R318: an interval of a continuous capture makes its record and moves on by its length. -/
theorem closeInterval_continuous (hwf : Tab.wf {} s.acq.captures) (hcont : (capOf s c).windowClass = false) (dma : Dma) (hu : u = s.closeInterval c dma none) :
    u.dev = s.dev ∧ u.graph = s.graph ∧ u.loop = s.loop ∧ Tab.wf {} u.acq.captures ∧ (capOf u c).nextB = (capOf s c).nextB + (capOf s c).len ∧
    (capOf u c).records = sat32 (capOf s c).records ∧ (capOf u c).running = (capOf s c).running ∧ (capOf u c).stopAt = (capOf s c).stopAt := by
  subst hu
  unfold State.closeInterval
  extract_lets cap b e inside ps evs mask loss parts made s₁ s₂
  have hmade : made = true := by
    have : (!cap.windowClass) = true := by rw [show cap.windowClass = false from hcont]; rfl
    simp only [made, this, Bool.true_or]
  have own := (capOf_modCap (c := c) (f := fun k : Capture => { k with
    held := k.held.filter fun p => !inside p.stamp
    lastVals := ps.foldl (fun t p => put 0 t p.entry p.value) k.lastVals
    trigs := k.trigs.filter fun g => e ≤ g.stamp
    closed := addSpan (b * 1000) e k.closed
    late := if made then 0 else k.late
    records := if made then sat32 k.records else k.records
    lossRecords := if made ∧ loss then sat32 k.lossRecords else k.lossRecords
    nextB := b + k.len }) hwf c).trans (if_pos rfl)
  have wf₁ : Tab.wf {} s₁.acq.captures := modCap_wf hwf
  have recorded := Stepped.of_recorded ((Recorded.queueRecord s₁ _ _ _ _).trans (Recorded.foldl (c := c) (fun s (r : Nat × List Word) =>
    Recorded.queueRecord s (cap.rseqOf (r.1 / 1000)) r.1 0 [r.2]) (trigRecords s₂ c cap evs.length evs) s₂))
  rw [if_neg (show ¬ cap.windowClass = true by rw [show cap.windowClass = false from hcont]; decide)]
  obtain ⟨dev, graph, loop⟩ := recorded.outside
  obtain ⟨wf, next, records, running, stopAt⟩ := recorded.captures wf₁
  refine ⟨dev, graph, loop, wf, next.trans ?_, records.trans ?_, running.trans ?_, stopAt.trans ?_⟩
  · exact (congrArg Capture.nextB own :)
  · refine (congrArg Capture.records own).trans ?_
    dsimp only
    rw [if_pos hmade]
  · exact (congrArg Capture.running own :)
  · exact (congrArg Capture.stopAt own :)

/-- R318: a due interval of a continuous capture that is not asked to stop. -/
theorem intervalClose_continuous (hwf : Tab.wf {} s.acq.captures) (hruns : (capOf s c).running = true) (hpause : (capOf s c).pausedAt = none)
    (hcont : (capOf s c).windowClass = false) (hstop : (capOf s c).stopAt = none)
    (hdue : (capOf s c).nextB + (capOf s c).len + (capOf s c).lateUs ≤ usOf s.clock) (dma : Dma) : ∃ w, intervalClose c dma s = w ∧
    (capOf w c).nextB = (capOf s c).nextB + (capOf s c).len ∧ (capOf w c).records = sat32 (capOf s c).records ∧ (capOf w c).running = true ∧
    w.dev = s.dev ∧ w.graph = s.graph ∧ w.loop = s.loop := by
  obtain ⟨dev, graph, loop, wf, next, records, running, stopAt⟩ := closeInterval_continuous hwf hcont dma rfl
  generalize hx : s.closeInterval c dma none = x at dev graph loop wf next records running stopAt
  have steps : Stepped c x (boundaryStep c ((capOf s c).nextB + (capOf s c).len) x.pruneLoss) :=
    (Stepped.pruneLoss x).trans (Stepped.boundaryStep _ _)
  obtain ⟨dev', graph', loop'⟩ := steps.outside
  obtain ⟨_, next', records', running', stopAt'⟩ := steps.captures wf
  have stays : (boundaryStep c ((capOf s c).nextB + (capOf s c).len) x.pruneLoss).stopIfDue c ((capOf s c).nextB + (capOf s c).len) =
      boundaryStep c ((capOf s c).nextB + (capOf s c).len) x.pruneLoss := by
    unfold State.stopIfDue
    dsimp only
    rw [stopAt', stopAt, hstop]
  refine ⟨boundaryStep c ((capOf s c).nextB + (capOf s c).len) x.pruneLoss, ?_, next'.trans next, records'.trans records,
    running'.trans (running.trans hruns), dev'.trans dev, graph'.trans graph, loop'.trans loop⟩
  unfold intervalClose
  dsimp only
  rw [hruns, hpause, hcont, hx, if_neg (by decide), if_neg (by decide), if_neg (Nat.not_lt.mpr hdue), if_neg Bool.false_ne_true, stays]

theorem readNat_countAt (hcanon : Canonical s) (a : Nat) : readNat (s.countAt a 4) a 4 = sat32 (readNat s a 4) := by
  rw [State.countAt, readNat_writeNat hcanon]
  exact Nat.mod_eq_of_lt (lt_of_le_of_lt (Nat.min_le_left _ _) (by norm_num))

theorem readByte_countAt {a y : Nat} (hcanon : Canonical s) (hy : y < a) : readByte (s.countAt a 4) y = readByte s y :=
  readByte_writeNat_other hcanon (Or.inl hy)

/-! Decay of a persistence map (09 R335). -/

theorem nodup_eraseDups : ∀ l : List Nat, l.eraseDups.Nodup
  | [] => List.nodup_nil
  | a :: l => by
    rw [List.eraseDups_cons]
    refine List.nodup_cons.mpr ⟨fun h => ?_, nodup_eraseDups _⟩
    have away := (List.mem_filter.mp (List.mem_eraseDups.mp h)).2
    simp at away
termination_by l => l.length
decreasing_by exact Nat.lt_succ_of_le (List.length_filter_le _ _)

/-- Counters of two bytes lose one each. -/
def decremented (l : List Nat) (s : State) : State := l.foldl (fun s a => s.writeNat a 2 (readNat s a 2 - 1)) s

theorem decremented_spec : ∀ (l : List Nat) {s : State}, Canonical s → l.Nodup → (∀ a ∈ l, a % 2 = 0) →
    (∃ m k, decremented l s = { s with mem := m, keep := k }) ∧
    (∀ a, a % 2 = 0 → readNat (decremented l s) a 2 = if a ∈ l then readNat s a 2 - 1 else readNat s a 2) ∧
    ∀ y, (∀ a ∈ l, y < a) → readByte (decremented l s) y = readByte s y
  | [], s, _, _, _ => ⟨⟨s.mem, s.keep, rfl⟩, fun _ _ => by rw [if_neg List.not_mem_nil]; rfl, fun _ _ => rfl⟩
  | b :: l, s, hcanon, hnodup, heven => by
    obtain ⟨hb, hl⟩ := List.nodup_cons.mp hnodup
    have beven := heven b List.mem_cons_self
    obtain ⟨m₁, k₁, written⟩ := s.writeBytes_eq b (bytesOfNat 2 (readNat s b 2 - 1))
    have canon₁ : Canonical (s.writeNat b 2 (readNat s b 2 - 1)) := State.writeNat_canonical _ _ _ hcanon
    have own : readNat (s.writeNat b 2 (readNat s b 2 - 1)) b 2 = readNat s b 2 - 1 := by
      rw [readNat_writeNat hcanon, Nat.mod_eq_of_lt (lt_of_le_of_lt (Nat.sub_le _ _) (readNat_lt s b 2))]
    have other (a : Nat) (ha : a % 2 = 0) (hne : a ≠ b) : readNat (s.writeNat b 2 (readNat s b 2 - 1)) a 2 = readNat s a 2 :=
      readNat_congr fun i hi => readByte_writeNat_other hcanon (by omega)
    obtain ⟨⟨m, k, rest⟩, cells, below⟩ := decremented_spec l canon₁ hl fun a ha => heven a (List.mem_cons_of_mem _ ha)
    refine ⟨⟨m, k, ?_⟩, fun a ha => ?_, fun y hy => ?_⟩
    · refine rest.trans ?_
      rw [State.writeNat, written]
    · refine (cells a ha).trans ?_
      by_cases hab : a = b
      · subst hab
        rw [if_neg hb, own, if_pos List.mem_cons_self]
      · rw [other a ha hab]
        exact if_congr (by rw [List.mem_cons, or_iff_right hab]) rfl rfl
    · exact (below y fun a ha => hy a (List.mem_cons_of_mem _ ha)).trans
        (readByte_writeNat_other hcanon (Or.inl (hy b List.mem_cons_self)))

/-- The cells of map `m` of which a byte is listed. -/
def listedCells (m : Nat) (s : State) : List Nat :=
  ((s.mem.store.filter fun c => 0x30780000 + 0x20000 * m ≤ c.1 && c.1 < 0x30780000 + 0x20000 * m + 0x20000).map fun c => c.1 / 2 * 2).eraseDups

theorem mem_listedCells {m a : Nat} : a ∈ listedCells m s ↔
    ∃ e ∈ s.mem.store, (0x30780000 + 0x20000 * m ≤ e.1 ∧ e.1 < 0x30780000 + 0x20000 * m + 0x20000) ∧ e.1 / 2 * 2 = a := by
  simp only [listedCells, List.mem_eraseDups, List.mem_map, List.mem_filter, Bool.and_eq_true, decide_eq_true_eq, and_assoc]

/-- A cell of which no byte is listed reads 0. -/
theorem readNat_of_not_listed {m a : Nat} (ha : a % 2 = 0) (hlo : 0x30780000 + 0x20000 * m ≤ a) (hhi : a + 2 ≤ 0x30780000 + 0x20000 * m + 0x20000)
    (hnot : a ∉ listedCells m s) : readNat s a 2 = 0 := by
  have zero (i : Nat) (hi : i < 2) : readByte s (a + i) = 0 := by
    by_contra hne
    exact hnot (mem_listedCells.mpr ⟨_, mem_of_look_ne hne, ⟨by dsimp only; omega, by dsimp only; omega⟩, by dsimp only; omega⟩)
  have h0 := zero 0 (by decide)
  have h1 := zero 1 (by decide)
  unfold readNat
  simp only [List.range_succ, List.range_zero, List.nil_append, List.cons_append, List.map_cons, List.map_nil, h0, h1]
  rfl

/-- R335: every cell of the map loses one, the rest of memory stays. -/
theorem decay_spec {m due : Nat} (hcanon : Canonical s) (hms : (look {} s.acq.pmaps m).decayMs ≠ 0)
    (hdue : due = (look {} s.acq.pmaps m).decayFrom + clocksOfUs ((look {} s.acq.pmaps m).decayMs * 1000)) (hnow : due ≤ s.now) :
    ∃ w, decay m s = w ∧ (∀ x y, x < 256 → y < 256 → readNat w (cellAddr m x y) 2 = readNat s (cellAddr m x y) 2 - 1) ∧
    (∀ a, a < 0x30780000 → readByte w a = readByte s a) ∧
    w.acq = { s.acq with pmaps := upd {} s.acq.pmaps m fun e => { e with decayFrom := due } } ∧ w.dev = s.dev := by
  have body : decay m s = decremented (listedCells m s) (s.modAcq fun a => { a with pmaps := upd {} a.pmaps m fun e => { e with decayFrom := due } }) := by
    subst hdue
    unfold decay
    dsimp only
    rw [if_neg fun h => h.elim hms (Nat.not_lt.mpr hnow)]
    rfl
  obtain ⟨⟨mem, keep, frame⟩, cells, below⟩ := decremented_spec (listedCells m s)
    (s := s.modAcq fun a => { a with pmaps := upd {} a.pmaps m fun e => { e with decayFrom := due } }) hcanon (nodup_eraseDups _)
    fun a ha => by
      obtain ⟨e, -, -, rfl⟩ := mem_listedCells.mp ha
      omega
  refine ⟨_, rfl, fun x y hx hy => ?_, fun a ha => ?_, ?_, ?_⟩
  · have even : cellAddr m x y % 2 = 0 := by unfold cellAddr; omega
    rw [body, cells _ even]
    split
    · rfl
    next hnot =>
      have zero := readNat_of_not_listed even (by unfold cellAddr; omega) (by unfold cellAddr; omega) hnot
      have same : readNat (s.modAcq fun a => { a with pmaps := upd {} a.pmaps m fun e => { e with decayFrom := due } }) (cellAddr m x y) 2 =
        readNat s (cellAddr m x y) 2 := rfl
      rw [same, zero]
  · rw [body]
    refine below a fun b hb => ?_
    obtain ⟨e, -, ⟨hlo, -⟩, rfl⟩ := mem_listedCells.mp hb
    omega
  · rw [body, frame]
    rfl
  · rw [body, frame]
    rfl

end Seen

/-- Settles O47: publications by `deliver_spec` and `deliver_hist`, intervals by `intervalClose_continuous`, a decay by `decay_spec`. -/
theorem capturesRun : Obligations.CapturesRun := by
  intro t s u hu hcanon hwf
  subst hu
  refine ⟨fun hnone => ?nothing, fun p rest hin hp => ?delivered, fun p h e hin hp hhists hh henable hsource hpmaps htrig hnum hlow hhigh => ?hist,
    fun c dma hc hstill => ?stopped, fun c dma hc hruns hpause hearly => ?early, fun c dma hc hruns hpause hcont hstop hdue => ?closed,
    fun c dma hc hq hs => ?nothingToCopy, fun c dma q rest hc hq hkind hput => ?copied, fun m hm hno => ?noDecay,
    fun m due hm hms hdue hnow => ?decay⟩
  case nothing =>
    have stays : publication (s.at t) = s.at t := by
      unfold publication
      rw [hnone]
      rfl
    exact (event_of rfl t _ s).trans (congrArg _ stays)
  case delivered =>
    obtain ⟨w, delivered, spec⟩ := deliver_spec p ((s.at t).modAcq fun a => { a with ingest := rest })
    exact ⟨w, (event_of rfl t _ s).trans (congrArg _ ((publication_eq hin hp).trans delivered)), spec⟩
  case hist =>
    obtain ⟨a, counted⟩ := deliver_hist (s := (s.at t).modAcq fun a => { a with ingest := [] }) (p := p) rfl hhists henable hsource hpmaps htrig hnum
      hlow hhigh
    refine ⟨_, (event_of rfl t _ s).trans (congrArg _ ((publication_eq hin hp).trans counted)), ?_, fun b hb => ?_⟩
    · exact readNat_countAt (s := { (s.at t).modAcq fun a => { a with ingest := [] } with acq := a }) hcanon _
    · exact readByte_countAt (s := { (s.at t).modAcq fun a => { a with ingest := [] } with acq := a }) hcanon (by omega)
  case stopped => exact (event_of (decide_eq_true hc) t _ s).trans (congrArg _ (if_pos (by rw [hstill]; rfl)))
  case early =>
    have stays : intervalClose c dma (s.at t) = s.at t := by
      unfold intervalClose
      dsimp only
      rw [hruns, hpause, if_neg (by decide), if_neg (by decide), if_pos hearly]
    exact (event_of (decide_eq_true hc) t _ s).trans (congrArg _ stays)
  case closed =>
    obtain ⟨w, closed, spec⟩ := intervalClose_continuous hwf hruns hpause hcont hstop hdue dma
    exact ⟨w, (event_of (decide_eq_true hc) t _ s).trans (congrArg _ closed), spec⟩
  case nothingToCopy =>
    have stays : recordCopy c dma (s.at t) = s.at t := by
      unfold recordCopy
      dsimp only
      rw [hq, hs]
      split
      · rfl
      · rfl
    exact (event_of (decide_eq_true hc) t _ s).trans (congrArg _ stays)
  case copied =>
    have streamed := Streamed.ringPut (capOf (s.at t) c).ring (readRegion (s.at t) (capOf (s.at t) c) q.slot q.nwords) dma (s.at t)
    have body : recordCopy c dma (s.at t) =
        (ringPut (capOf (s.at t) c).ring (readRegion (s.at t) (capOf (s.at t) c) q.slot q.nwords) dma (s.at t)).1.modCap c
          fun k => { k with queue := k.queue.drop 1 } := by
      unfold recordCopy
      dsimp only
      rw [if_neg (not_not.mpr hkind), hq]
      dsimp only
      generalize ringPut (capOf (s.at t) c).ring (readRegion (s.at t) (capOf (s.at t) c) q.slot q.nwords) dma (s.at t) = r at hput
      obtain ⟨x, b⟩ := r
      obtain rfl : b = true := hput
      rfl
    generalize (ringPut (capOf (s.at t) c).ring (readRegion (s.at t) (capOf (s.at t) c) q.slot q.nwords) dma (s.at t)).1 = x at streamed body
    have own := (capOf_modCap (s := x) (c := c) (f := fun k => { k with queue := k.queue.drop 1 }) (by rw [streamed.acq_eq]; exact hwf) c).trans (if_pos rfl)
    have graph : x.graph = (s.at t).graph := by
      unfold Streamed at streamed
      rw [streamed]
    have same : capOf x c = capOf (s.at t) c := congrArg (fun a : AcqUnit => look ({} : Capture) a.captures c) streamed.acq_eq
    refine ⟨_, (event_of (decide_eq_true hc) t _ s).trans (congrArg _ body), (congrArg Capture.queue own).trans ?_, streamed.dev_eq, graph,
      streamed.loop_eq⟩
    dsimp only
    rw [same, hq]
    rfl
  case noDecay => exact (event_of (decide_eq_true hm) t _ s).trans (congrArg _ (if_pos hno))
  case decay =>
    obtain ⟨w, decayed, spec⟩ := decay_spec hcanon hms hdue hnow
    exact ⟨w, (event_of (decide_eq_true hm) t _ s).trans (congrArg _ decayed), spec⟩

end Sys2Proof.Machine
end
section
/-! A CMD frame to a node whose member number is that of all members (10 R365, R374). -/

namespace Sys2Proof.Machine

/-- A device integrated in its up-ring as member 255, with a mode of one CMD slot for the manager. -/
def memberOfAll : State :=
  State.reset.modDrove fun d => { d with
    up := { d.up with state := .integrated }, member := some 0xFF, upModes := [(0, [1, 0, wd (3 * 2 ^ 19 + 4 * 2 ^ 22), 0x80])] }

/-- A CMD frame to all members that carries a schedule mode. -/
def modeForAll : Frame :=
  { down := false, portB := false, src := 0x80, dst := 0xFF, ringTag := 0, slot := 0, cycle := 0, payload := [0x0B000000, 0, 0x100, 7] }

/-- The packets that the manager above has numbered for this member alone, after an instruction. -/
def ownPackets (o : Host.Outcome State Fault Refusal) : Nat :=
  match o with
  | .next t => t.drove.above.recvNext
  | _ => 0

/-- Refutes O48: what goes to all members has a numbering of its own (10 R365), so that on a device of member number 0xFF a CMD frame
to that number moves the numbering of all members and not the member's own. -/
theorem not_ringRuns : ¬ Obligations.RingRuns := by
  intro h
  obtain ⟨-, -, -, -, -, -, hcmd, -⟩ := h 0 memberOfAll (memberOfAll.at 0) rfl
  have passes : ((memberOfAll.at 0).receive 3 modeForAll).2 = true ∧
      (((memberOfAll.at 0).receive 3 modeForAll).1.takeFrame 3 modeForAll false).2 = some 0 := by decide +kernel
  obtain ⟨w, hnext, -, -, hnumber, -⟩ := hcmd modeForAll (((memberOfAll.at 0).receive 3 modeForAll).1.takeFrame 3 modeForAll false).1 [0x100, 7] rfl rfl rfl
    (by decide +kernel) ⟨passes.1, 0, Prod.ext rfl passes.2⟩ rfl (by decide)
  have untouched : ownPackets (exec (.cmdFrame modeForAll 0) memberOfAll) = 0 := by decide +kernel
  rw [hnext, ownPackets, hnumber] at untouched
  exact absurd untouched (by decide)

end Sys2Proof.Machine
end
section
/-! What a pair half does by itself (15 R519, R520, R527–R547). -/

namespace Sys2Proof.Machine

section Halves

variable {s t : State}

theorem coReset_eq (s : State) : ∃ c, coReset s = { s with cyc := c } := by
  unfold coReset
  split
  · split
    · split
      · exact ⟨_, rfl⟩
      · exact ⟨_, rfl⟩
    · split
      · exact ⟨_, rfl⟩
      · exact ⟨_, rfl⟩
  · exact ⟨_, rfl⟩

/-- R529: the half that lost the crook is SYNCING in READY, with substitute values at its outputs. -/
structure CrookLost (s t : State) : Prop where
  pair : t.pair = s.pair.syncing s.now
  mode : t.dev.mode = .ready
  inForce : t.graph.inForce = []
  substitute : t.dio.substitute = true
  mem : t.mem = s.mem
  now : t.now = s.now

theorem loseCrook_lost (s : State) : CrookLost s s.loseCrook := by
  unfold State.loseCrook
  extract_lets s₁ s₂ s₃ s₄
  obtain ⟨c, reset⟩ := coReset_eq s
  have replied : s₃.Replied s₄ := State.settle_replied _ _ _
  obtain ⟨q, o, ready⟩ := (s₄.modDio fun u => { u with substitute := true }).setMode_eq .ready
  have s₁_eq : s₁ = { s with cyc := c, outbox := s.outbox ++ [.crook false] } := by simp only [s₁, reset]; rfl
  rw [ready]
  refine ⟨?_, rfl, ?_, rfl, ?_, ?_⟩
  · refine Eq.trans (b := s₄.pair) rfl (replied.pair.trans ?_)
    simp only [s₃, s₂, s₁_eq]
    rfl
  · exact Eq.trans (b := s₄.graph.inForce) rfl (congrArg GraphUnit.inForce replied.graph)
  · refine Eq.trans (b := s₄.mem) rfl (replied.mem.trans ?_)
    simp only [s₃, s₂, s₁_eq]
    rfl
  · refine Eq.trans (b := s₄.now) rfl (replied.now.trans ?_)
    simp only [s₃, s₂, s₁_eq]
    rfl

/-- R528: the half that took the crook. -/
def PairUnit.took (p : PairUnit) (due : Option Bool) (leaseEnd clock : Nat) : PairUnit :=
  { p with
    role := .alone, peerLost := false, peerStandby := false, peerSyncing := false, outgoing := none, sentAt := []
    leaseEnd := leaseEnd, lastAck := none, giveUp := none, takeDue := due, takes := sat32 p.takes
    tookAt := some clock, quiet := due.isSome }

theorem takeCrook_spec (s : State) (due : Option Bool) : (s.takeCrook due).pair = s.pair.took due (s.now + leaseClocks s) s.clock ∧
    (s.takeCrook due).dev = s.dev ∧ (s.takeCrook due).mem = s.mem ∧ (s.takeCrook due).keep = s.keep := by
  unfold State.takeCrook
  extract_lets s₁
  obtain ⟨n, y, recorded⟩ := (s₁.emit (.crook true)).recordOpen_eq 13 39 1 false
  rw [recorded]
  exact ⟨rfl, rfl, rfl, rfl⟩

theorem checkCrook_of_low (h : s.pair.crookIn = false) : s.checkCrook = s := if_neg fun hc => Bool.false_ne_true (h.symm.trans hc.2.1)

theorem checkCrook_of_idle (h : s.pair.role.holds = false) : s.checkCrook = s := if_neg fun hc => Bool.false_ne_true (h.symm.trans hc.1)

theorem checkCrook_loses (h : s.pair.role.holds = true) (hin : s.pair.crookIn = true) (hshows : laneShows s = false) : s.checkCrook = s.loseCrook :=
  if_pos ⟨h, hin, by rw [hshows]; decide⟩

theorem laneShows_of_down (h : s.pair.laneUp = false) : laneShows s = false := by
  unfold laneShows
  rw [h]
  rfl

/-- R519: the pair's state with the lane DOWN. -/
def PairUnit.downed (p : PairUnit) (seq now : Nat) : PairUnit :=
  { p with
    seq := seq, laneUp := false, outgoing := none, peerStandby := false, peerSyncing := false, alarmFrom := now
    role := if p.role = .active then .alone else p.role }

theorem laneDown_eq (s : State) : ∃ k q, laneDown s = State.checkCrook { s with keep := k, pair := s.pair.downed q s.now } := by
  unfold laneDown
  extract_lets s₁
  have done : ∃ k q, s₁ = { s with keep := k, pair := { s.pair with seq := q } } := by
    simp only [s₁]
    split
    · exact ⟨_, _, rfl⟩
    · exact ⟨_, _, rfl⟩
  obtain ⟨k, q, done⟩ := done
  refine ⟨k, q, ?_⟩
  rw [done]
  rfl

theorem holds_downed (p : PairUnit) (seq now : Nat) : (p.downed seq now).role.holds = p.role.holds := by
  unfold PairUnit.downed
  dsimp only
  split
  next h => rw [h]; rfl
  · rfl

/-! The copy of the state (R533, R538). -/

theorem putWords_eq (ws : List (Nat × Nat)) (s : State) : ∃ m, putWords ws s = { s with mem := m } := ⟨_, rfl⟩

/-- `t` is `s` but for memory, programs and the unit of the ring: what the image of the peer brings. -/
def Adopting (s t : State) : Prop := t = { s with graph := t.graph }

theorem adoptActive_adopting (i : SlotImage) (s : State) : Adopting s (adoptActive i s) := by
  unfold adoptActive
  extract_lets k s₁ s₂
  split
  · rfl
  · rfl

theorem adoptAll_adopting : ∀ (l : List SlotImage) (s : State), Adopting s (l.foldl (fun s i => adoptActive i s) s)
  | [], _ => rfl
  | i :: l, s => by
    have first := adoptActive_adopting i s
    have rest := adoptAll_adopting l (adoptActive i s)
    unfold Adopting at first rest ⊢
    rw [List.foldl_cons, rest, first]

theorem adoptImage_spec (d : Delta) (s : State) : (adoptImage d s).keep.image = some d.image ∧ (adoptImage d s).pair.seq = d.seq ∧
    (adoptImage d s).pair.role = .standby ∧ (adoptImage d s).dev = s.dev := by
  unfold adoptImage
  extract_lets s₁ s₂ s₃ s₄
  have adopted : Adopting s₂ s₃ := adoptAll_adopting d.image.slots s₂
  unfold Adopting at adopted
  have keep : s₃.keep = s₂.keep := by rw [adopted]
  have dev : s₃.dev = s₂.dev := by rw [adopted]
  exact ⟨congrArg KeepUnit.image keep, rfl, rfl, dev⟩

/-- `t` is `s` but for the ring's unit and memory, which holds its topology table. -/
def RingOnly (s t : State) : Prop := t = { s with drove := t.drove, mem := t.mem, keep := t.keep }

namespace RingOnly

variable {u : State}

theorem refl (s : State) : RingOnly s s := rfl

theorem trans (h : RingOnly s t) (h' : RingOnly t u) : RingOnly s u := by
  unfold RingOnly at h h' ⊢
  rw [h', h]

theorem foldl {α : Type} {f : State → α → State} (hf : ∀ s a, RingOnly s (f s a)) : ∀ (l : List α) (s : State), RingOnly s (l.foldl f s)
  | [], s => refl s
  | a :: l, s => (hf s a).trans (foldl hf l (f s a))

theorem modDrove (s : State) (f : DroveUnit → DroveUnit) : RingOnly s (s.modDrove f) := rfl

theorem modIface (s : State) (down : Bool) (f : Iface → Iface) : RingOnly s (s.modIface down f) := by
  cases down with
  | true => rfl
  | false => rfl

theorem writeTopo (s : State) : RingOnly s s.writeTopo := by
  obtain ⟨m, k, written⟩ := s.writeBytes_eq 0x01DA0000 ((s.drove.topo.flatMap fun e => topoWords e.1 e.2).flatMap bytesOf)
  rw [State.writeTopo, State.writeWords, written]
  rfl

theorem setAddress (s : State) (a : Nat) : RingOnly s (s.setAddress a) := by
  unfold State.setAddress
  extract_lets old s₁
  split
  · exact refl s
  · have moved : RingOnly s s₁ := (modDrove s _).trans (writeTopo _)
    exact moved.trans (foldl (f := fun s m => s.toMember m { kind := 7, words := [0, wd (memberAddr s m)] }) (fun _ _ => rfl) _ s₁)

theorem leaveUp (s : State) : RingOnly s s.leaveUp := by
  unfold State.leaveUp
  extract_lets live s₁
  split
  · exact ((modDrove s _).trans (setAddress s₁ 0)).trans (modDrove _ _)
  · exact modDrove s _

theorem enterListen (s : State) (down : Bool) : RingOnly s (s.enterListen down) := by
  unfold State.enterListen
  extract_lets s₁
  have left : RingOnly s s₁ := by
    simp only [s₁]
    split
    · exact refl s
    · exact leaveUp s
  exact left.trans (modIface s₁ down _)

theorem upListen (s : State) : RingOnly s s.upListen := by
  unfold State.upListen
  extract_lets s₁
  have lanes : RingOnly s s₁ := by
    simp only [s₁]
    split
    · exact modDrove s _
    · exact refl s
  exact lanes.trans (enterListen s₁ false)

theorem startDown (s : State) (m : Nat) : RingOnly s (s.startDown m) :=
  ((modDrove s _).trans (modIface _ true _)).trans (enterListen _ true)

theorem dev_eq (h : RingOnly s t) : t.dev = s.dev := by unfold RingOnly at h; rw [h]

end RingOnly

/-- R538: the settings of the device that the configuration record brings. -/
theorem apply_dev (r : Record) (s : State) : (r.apply s).dev.autoResume = r.dev.autoResume ∧ (r.apply s).dev.maxGap = r.dev.maxGap := by
  unfold Record.apply
  extract_lets s₁ s₂ s₃ s₄ s₅ s₆ g s₇ s₈ a s₉ s₁₀ s₁₁ q s₁₂ s₁₃ s₁₄ s₁₅ s₁₆
  have up : RingOnly s₁₅ s₁₆ := by
    simp only [s₁₆]
    split
    · exact RingOnly.upListen s₁₅
    · exact RingOnly.refl s₁₅
  have taken : s₁₆.dev = s₁.dev := up.dev_eq
  split
  · rw [(RingOnly.startDown s₁₆ _).dev_eq, taken]
    exact ⟨rfl, rfl⟩
  · rw [taken]
    exact ⟨rfl, rfl⟩

end Halves

/-- Settles O49: losing the crook by `loseCrook_lost`, taking it by `takeCrook_spec`, the image of the peer by `adoptImage_spec`. -/
theorem pairRuns : Obligations.PairRuns := by
  intro t s u hu
  subst hu
  refine ⟨fun n hout => ?noDelta, fun n o c hout hnext hholds hup => ?delta, fun q hq hloud => ?noRenew, fun q hq hsilent hmode hequal => ?renew,
    fun q hq hstandby hmode hbehind => ?behind, fun q c h hq hno => ?noAck, fun q c h hq hholds hin hsent => ?ack, fun hno => ?noLease,
    fun hholds hup hin => ?leaseRuns, fun hholds hup hover => ?leaseOver, fun hholds hup hleft hin => ?leaseStands,
    fun hholds hleft hin hshows => ?leaseJudged, fun hin => ?noTake, fun hin hover hstandby => ?take, fun hin hover hsyncing => ?peerLost,
    fun q h hq hstandby hseq hin => ?release, fun q h hq hno => ?noRelease, ?crookLow, fun hholds hup => ?crookHigh, fun none' hloud => ?noElection,
    fun none' hsilent hup hin hwindow hover => ?elected, fun d hd hgood hstandby hseq => ?image, fun d hd hbad hstandby => ?badDelta,
    fun f hno => ?noCopy, fun f hsyncing => ?copied, fun hno => ?noGiveUp, fun g hg hcycle hhand hrole hpeer => ?givesUp,
    fun hpresent hkeeps => ?laneDown, fun hpresent hholds hin => ?laneLost, fun hpresent => ?laneUp⟩
  case noDelta =>
    have stays : deltaComplete n (s.at t) = s.at t := by
      unfold deltaComplete
      rw [hout]
    exact (event_of rfl t _ s).trans (congrArg _ stays)
  case delta =>
    have done : deltaComplete n (s.at t) = ((((s.at t).completeImage c o.seq).modPair fun p =>
        { p with outgoing := none, deltaMax := max p.deltaMax (min (2 ^ 32 - 1) n) }).emit (.delta o.seq o.cycle o.words)).sendRenew := by
      unfold deltaComplete
      rw [hout, hnext]
      exact if_neg fun h => h.elim (fun h => h hholds) fun h => h hup
    exact ⟨_, (event_of rfl t _ s).trans (congrArg _ done), rfl, rfl, rfl, rfl, rfl, rfl, rfl⟩
  case noRenew => exact (event_of (decide_eq_true hq) t _ s).trans (congrArg _ (if_neg (by rw [hloud]; decide)))
  case renew =>
    have equal : ¬ ((s.at t).pair.role = .standby ∧ (s.at t).pair.seq ≠ q) := fun h => hequal.elim (fun hs => by rw [hs] at h; cases h.1) h.2
    have renewed : renew q (s.at t) = ((s.at t).modPair fun p => { p with
        lastRenew := (s.at t).now, alarmFrom := (s.at t).now, peerLost := false }).emit
          (.ack q ((s.at t).pair.role == .standby && (s.at t).pair.current) false) := by
      unfold renew
      rw [if_pos hsilent]
      simp only [if_neg equal]
      rw [if_neg fun h => hmode h.1]
    exact ⟨_, (event_of (decide_eq_true hq) t _ s).trans (congrArg _ renewed), rfl, rfl, rfl, rfl, rfl, rfl⟩
  case behind =>
    have hsilent : silentHalf (s.at t) = true := by
      unfold silentHalf
      rw [hstandby]
      rfl
    have renewed : renew q (s.at t) = ((s.at t).fallBehind.modPair fun p => { p with
        lastRenew := (s.at t).now, alarmFrom := (s.at t).now, peerLost := false }).emit (.ack q false false) := by
      unfold renew
      rw [if_pos hsilent]
      simp only [if_pos (And.intro hstandby hbehind)]
      rw [if_neg fun h => hmode h.1]
      rfl
    exact ⟨_, (event_of (decide_eq_true hq) t _ s).trans (congrArg _ renewed), rfl, rfl, rfl, rfl, rfl, rfl⟩
  case noAck => exact (event_of (decide_eq_true hq) t _ s).trans (congrArg _ (if_pos (by rw [hno]; decide)))
  case ack =>
    refine ⟨_, (event_of (decide_eq_true hq) t _ s).trans (congrArg _ ((if_neg (not_not.mpr hholds)).trans (checkCrook_of_low hin))), ?_, rfl, rfl, rfl,
      rfl, rfl⟩
    exact if_neg hsent
  case noLease => exact (event_of rfl t _ s).trans (congrArg _ (if_pos (by rw [hno]; decide)))
  case leaseRuns =>
    have runs : leaseExpiry (s.at t) = (s.at t).modPair fun p => { p with leaseEnd := (s.at t).now + leaseClocks (s.at t) } := by
      unfold leaseExpiry
      rw [if_neg (not_not.mpr hholds), if_pos ⟨by rw [hup]; decide, by rw [hin]; decide⟩]
    exact ⟨_, (event_of rfl t _ s).trans (congrArg _ runs), rfl, rfl, rfl⟩
  case leaseOver =>
    have ended : leaseExpiry (s.at t) = (s.at t).loseCrook := by
      unfold leaseExpiry
      rw [if_neg (not_not.mpr hholds), if_neg fun h => h.1 hup, if_pos hover]
    have lost := loseCrook_lost (s.at t)
    exact ⟨_, (event_of rfl t _ s).trans (congrArg _ ended), by rw [lost.pair]; rfl, lost.mode, lost.inForce, lost.substitute, lost.mem⟩
  case leaseStands =>
    have stands : leaseExpiry (s.at t) = s.at t := by
      unfold leaseExpiry
      rw [if_neg (not_not.mpr hholds), if_neg fun h => h.1 hup, if_neg (Nat.not_le.mpr hleft), checkCrook_of_low hin]
    exact (event_of rfl t _ s).trans (congrArg _ stands)
  case leaseJudged =>
    have judged : leaseExpiry (s.at t) = (s.at t).loseCrook := by
      unfold leaseExpiry
      rw [if_neg (not_not.mpr hholds), if_neg fun h => h.2 hin, if_neg (Nat.not_le.mpr hleft), checkCrook_loses hholds hin hshows]
    have lost := loseCrook_lost (s.at t)
    exact ⟨_, (event_of rfl t _ s).trans (congrArg _ judged), by rw [lost.pair]; rfl, lost.mode, lost.substitute, lost.mem⟩
  case noTake => exact (event_of rfl t _ s).trans (congrArg _ (if_pos (Or.inl hin)))
  case take =>
    have taken : crookTake (s.at t) = (s.at t).takeCrook (some true) := by
      unfold crookTake
      rw [if_neg fun h => h.elim (fun h => Bool.false_ne_true (hin.symm.trans h)) (Nat.not_lt.mpr hover), hstandby]
    obtain ⟨pair, dev, mem, keep⟩ := takeCrook_spec (s.at t) (some true)
    exact ⟨_, (event_of rfl t _ s).trans (congrArg _ taken), by rw [pair]; rfl, by rw [pair]; rfl, by rw [pair]; rfl, by rw [pair]; rfl, dev, mem, keep⟩
  case peerLost =>
    have reported : crookTake (s.at t) = (s.at t).modPair fun p => { p with peerLost := true } := by
      unfold crookTake
      rw [if_neg fun h => h.elim (fun h => Bool.false_ne_true (hin.symm.trans h)) (Nat.not_lt.mpr hover), hsyncing]
    exact ⟨_, (event_of rfl t _ s).trans (congrArg _ reported), rfl, hsyncing, rfl⟩
  case release =>
    obtain ⟨pair, dev, mem, keep⟩ := takeCrook_spec (s.at t) (some true)
    refine ⟨_, (event_of (decide_eq_true hq) t _ s).trans (congrArg _ (if_pos ⟨hstandby, hseq, by rw [hin]; decide⟩)), ?_, rfl, ?_, dev, mem⟩
    · exact (congrArg PairUnit.role pair).trans rfl
    · exact (congrArg PairUnit.takeDue pair).trans rfl
  case noRelease => exact (event_of (decide_eq_true hq) t _ s).trans (congrArg _ (if_neg fun h => hno h.1))
  case crookLow =>
    have low : crookInHigh false (s.at t) = (s.at t).modPair fun p => { p with crookIn := false, alarmFrom := (s.at t).now } := by
      unfold crookInHigh
      exact if_pos (Or.inl Bool.false_ne_true)
    exact ⟨_, (event_of rfl t _ s).trans (congrArg _ low), rfl, rfl, rfl⟩
  case crookHigh =>
    have lost := loseCrook_lost ((s.at t).modPair fun p => { p with crookIn := true, alarmFrom := p.alarmFrom })
    have high : crookInHigh true (s.at t) = State.loseCrook ((s.at t).modPair fun p => { p with crookIn := true, alarmFrom := p.alarmFrom }) := by
      unfold crookInHigh
      dsimp only
      rw [if_neg fun h => h.elim (fun h => h rfl) fun h => h hholds, if_neg]
      · rfl
      · rw [laneShows_of_down (by exact hup)]
        decide
    exact ⟨_, (event_of rfl t _ s).trans (congrArg _ high), by rw [lost.pair]; rfl, by rw [lost.pair]; rfl, lost.mode⟩
  case noElection => exact (event_of rfl t _ s).trans (congrArg _ (if_pos (by rw [hloud]; decide)))
  case elected =>
    have closed (x : State) (hx : x.boot.windowOpened = none) : closeWindow x = x := if_pos (by rw [hx]; rfl)
    have elected : election none' (s.at t) = (s.at t).takeCrook none := by
      unfold election
      rw [if_neg (not_not.mpr hsilent), hup, if_neg Bool.false_ne_true, if_pos ⟨by rw [hin]; decide, hover⟩]
      unfold State.takeElected
      rw [if_neg (by rw [hwindow]; simp), closed _ (by exact hwindow)]
      rfl
    obtain ⟨pair, dev, mem, -⟩ := takeCrook_spec (s.at t) none
    exact ⟨_, (event_of rfl t _ s).trans (congrArg _ elected), by rw [pair]; rfl, by rw [pair]; rfl, by rw [pair]; rfl, dev, mem⟩
  case image =>
    have adopted : deltaReceive d (s.at t) = adoptImage d (s.at t) := by
      unfold deltaReceive
      dsimp only
      rw [if_pos hgood, hstandby]
      exact if_pos ⟨hgood, hseq⟩
    obtain ⟨image, seq, role, dev⟩ := adoptImage_spec d (s.at t)
    exact ⟨_, (event_of (decide_eq_true hd) t _ s).trans (congrArg _ adopted), image, seq, role, dev⟩
  case badDelta =>
    have behind : deltaReceive d (s.at t) = ((s.at t).modPair fun p => { p with laneErr := satAdd 16 p.laneErr 1 }).fallBehind := by
      have role : ((s.at t).modPair fun p => { p with laneErr := satAdd 16 p.laneErr 1 }).pair.role = .standby := hstandby
      unfold deltaReceive
      simp only [hbad, Bool.false_eq_true, if_false, role, false_and]
    exact ⟨_, (event_of (decide_eq_true hd) t _ s).trans (congrArg _ behind), rfl, rfl, rfl, rfl, rfl⟩
  case noCopy => exact (event_of rfl t _ s).trans (congrArg _ (if_pos hno))
  case copied =>
    obtain ⟨autoResume, maxGap⟩ := apply_dev f.record (closeWindow (s.at t))
    exact ⟨_, (event_of rfl t _ s).trans (congrArg _ (if_neg (not_not.mpr hsyncing))), rfl, rfl, autoResume, maxGap⟩
  case noGiveUp =>
    have stays : giveUp (s.at t) = s.at t := by
      unfold giveUp
      rw [hno]
    exact (event_of rfl t _ s).trans (congrArg _ stays)
  case givesUp =>
    have due : giveUpDue (s.at t) (devCycle (s.at t)) = true := by
      unfold giveUpDue
      rw [hg]
      dsimp only
      rw [hcycle]
    have lost := loseCrook_lost ((s.at t).emit (.release (s.at t).pair.seq g.handover))
    have given : giveUp (s.at t) = ((((s.at t).emit (.release (s.at t).pair.seq g.handover)).loseCrook).modPair fun p =>
        { p with giveUps := sat32 p.giveUps }).modBoot fun b =>
          { b with warmResetAt := some ((s.at t).emit (.release (s.at t).pair.seq g.handover)).loseCrook.now, resetOnReply := false, noResume := true
                   resetAs := g.cause } := by
      unfold giveUp
      rw [hg]
      dsimp only
      rw [if_neg (not_not.mpr due), hrole, hpeer, if_pos (by decide), if_neg (by rw [hhand]; decide)]
      rfl
    refine ⟨_, (event_of rfl t _ s).trans (congrArg _ given), ?_⟩
    generalize ((s.at t).emit (.release (s.at t).pair.seq g.handover)).loseCrook = x at lost
    exact ⟨congrArg PairUnit.role lost.pair, (congrArg (fun p : PairUnit => sat32 p.giveUps) lost.pair :), congrArg some lost.now, rfl, rfl, lost.mem⟩
  case laneDown =>
    obtain ⟨k, q, down⟩ := laneDown_eq (s.at t)
    have kept : State.checkCrook { s.at t with keep := k, pair := (s.at t).pair.downed q (s.at t).now } =
        { s.at t with keep := k, pair := (s.at t).pair.downed q (s.at t).now } := by
      rcases hkeeps with h | h
      · exact checkCrook_of_idle (by rw [← h]; exact holds_downed _ _ _)
      · exact checkCrook_of_low h
    exact ⟨_, (event_of hpresent t laneDown s).trans (congrArg _ (down.trans kept)), rfl, rfl, rfl, rfl, rfl, rfl⟩
  case laneLost =>
    obtain ⟨k, q, down⟩ := laneDown_eq (s.at t)
    have lost := loseCrook_lost { s.at t with keep := k, pair := (s.at t).pair.downed q (s.at t).now }
    have judged := checkCrook_loses (s := { s.at t with keep := k, pair := (s.at t).pair.downed q (s.at t).now })
      ((holds_downed _ _ _).trans hholds) hin (laneShows_of_down rfl)
    exact ⟨_, (event_of hpresent t laneDown s).trans (congrArg _ (down.trans judged)), by rw [lost.pair]; rfl, by rw [lost.pair]; rfl, lost.mode, lost.mem⟩
  case laneUp => exact event_of hpresent t laneIsUp s

end Sys2Proof.Machine
end
section
/-! What the safety island does by itself (14 R481–R508). -/

namespace Sys2Proof.Machine

section Island

variable {s t u : State} {n p m i j mask cause : Nat} {immediate : Bool}

/-! What a stop, a count and a report leave as it was. -/

/-- `t` is `s` but for the pairs with what goes with their stop, the axes, and the reactions of the device. -/
def Stopped (s t : State) : Prop := ∃ v, PairsStopped s v ∧ AxesMoved v t

namespace Stopped

theorem refl (s : State) : Stopped s s := ⟨s, PairsStopped.refl s, AxesMoved.refl s⟩

theorem isl (h : Stopped s t) : t.isl = { s.isl with
    pairs := t.isl.pairs, inStop := t.isl.inStop, stopCause := t.isl.stopCause, counters := t.isl.counters, sbcHeld := t.isl.sbcHeld
    ss1Req := t.isl.ss1Req } := by
  obtain ⟨v, stopped, moved⟩ := h
  rw [moved.isl_eq]
  unfold PairsStopped at stopped
  rw [stopped]
  rfl

theorem outside (h : Stopped s t) : t.mem = s.mem ∧ t.graph = s.graph ∧ t.loop = s.loop ∧ t.dio = s.dio ∧ t.boot = s.boot := by
  obtain ⟨v, stopped, moved⟩ := h
  unfold PairsStopped at stopped
  unfold AxesMoved Reacted at moved
  rw [moved, stopped]
  exact ⟨rfl, rfl, rfl, rfl, rfl⟩

theorem reacted (h : Stopped s t) (h' : Reacted t u) : Stopped s u := by
  obtain ⟨v, stopped, moved⟩ := h
  exact ⟨v, stopped, moved.trans (AxesMoved.of_reacted h')⟩

end Stopped

theorem islandStop_stopped (hwf : Tab.wf {} s.isl.pairs) (mask cause : Nat) (immediate : Bool) : Stopped s (s.islandStop mask cause immediate) := by
  by_cases hready : s.isl.state = .ready
  · exact (islandStop_done hwf hready).shape
  · have stays : s.islandStop mask cause immediate = s := if_pos (Or.inl hready)
    rw [stays]
    exact Stopped.refl s

/-- Steps that leave the counters alone, one after the other. -/
theorem foldl_counters {α : Type} {f : State → α → State} (hf : ∀ s a, (f s a).isl.counters = s.isl.counters) : ∀ (l : List α) (s : State),
    (l.foldl f s).isl.counters = s.isl.counters
  | [], _ => rfl
  | a :: l, s => (foldl_counters hf l (f s a)).trans (hf s a)

theorem pairOff_counters (s : State) (p cause : Nat) : (s.pairOff p cause).isl.counters = s.isl.counters :=
  foldl_counters (f := fun s o => s.modIsl fun u => { u with sbcHeld := setBit u.sbcHeld o (cause ≠ 8 && cause ≠ 9 && u.sbcDelayMs o ≠ 0) })
    (fun _ _ => rfl) _ _

/-- R513: a stop counts in STOPS alone. -/
theorem islandStop_counter (hi : i ≠ 6) (mask cause : Nat) (immediate : Bool) :
    look 0 (s.islandStop mask cause immediate).isl.counters i = look 0 s.isl.counters i := by
  unfold State.islandStop
  extract_lets live off ramp s₁ s₂ s₃ s₄
  split
  · rfl
  · split
    · rfl
    · have counted : look 0 s₁.isl.counters i = look 0 s.isl.counters i := by
        simp only [s₁]
        split
        · rfl
        · exact look_put_other _ _ hi
      have ramps : s₃.isl.counters = s₂.isl.counters := foldl_counters (f := fun s p => s.pairSs1 p cause) (fun _ _ => rfl) ramp s₂
      have offs : s₄.isl.counters = s₃.isl.counters := foldl_counters (f := fun s p => s.pairOff p cause) (fun s p => pairOff_counters s p cause) off s₃
      rw [(stoSwitched_spec s₄ (maskOf off)).1.isl_eq, offs, ramps]
      exact counted

theorem foldl_pairs_wf {f : State → Nat → State} (hf : ∀ s p, Tab.wf {} s.isl.pairs → Tab.wf {} (f s p).isl.pairs) : ∀ (l : List Nat) {s : State},
    Tab.wf {} s.isl.pairs → Tab.wf {} (l.foldl f s).isl.pairs
  | [], _, h => h
  | p :: l, s, h => foldl_pairs_wf hf l (hf s p h)

theorem islandStop_wf (hwf : Tab.wf {} s.isl.pairs) (mask cause : Nat) (immediate : Bool) : Tab.wf {} (s.islandStop mask cause immediate).isl.pairs := by
  unfold State.islandStop
  extract_lets live off ramp s₁ s₂ s₃ s₄
  split
  · exact hwf
  · split
    · exact hwf
    · have same : s₂.isl.pairs = s.isl.pairs := by
        simp only [s₂, s₁]
        split
        · rfl
        · rfl
      have ramps : Tab.wf {} s₃.isl.pairs := foldl_pairs_wf (fun s p h => (pairSs1_spec h).2.1) ramp (same ▸ hwf)
      rw [(stoSwitched_spec s₄ (maskOf off)).1.isl_eq]
      exact foldl_pairs_wf (f := fun s p => s.pairOff p cause) (fun s p h => (pairOff_spec h).2.1) off ramps

theorem look_islandCount (hwf : Tab.wf 0 s.isl.counters) (i j : Nat) :
    look 0 (s.islandCount i).isl.counters j = if j = i then sat32 (look 0 s.isl.counters j) else look 0 s.isl.counters j := look_upd sat32 i j hwf

/-- R485: a check that passed on its repeat is counted, and nothing else happens on the island. -/
theorem islandRetry_spec (s : State) : s.islandRetry.isl = (s.islandCount 2).isl ∧ s.islandRetry.dev = s.dev := by
  unfold State.islandRetry
  dsimp only
  split
  · obtain ⟨n, y, recorded⟩ := (s.islandCount 2).recordOpen_eq 12 27 0 true
    rw [recorded]
    exact ⟨rfl, rfl⟩
  · exact ⟨rfl, rfl⟩

theorem islandReport_reacted (s : State) (ev : Nat) : Reacted s (s.islandReport ev) := by
  unfold State.islandReport
  split
  · exact Reacted.reportOpen s 12 ev 1 false
  · exact Reacted.refl s

/-- R502, R503: an input pair enters FAULT. -/
theorem inputFault_spec (hwf : Tab.wf {} s.isl.pairs) (n : Nat) : bit (s.inputFault n).isl.inFault n = true ∧
    (∀ m, m ≠ n → bit (s.inputFault n).isl.inFault m = bit s.isl.inFault m) ∧ (s.inputFault n).isl.levels = s.isl.levels ∧
    (s.inputFault n).isl.inFailed = s.isl.inFailed ∧ (s.inputFault n).mem = s.mem ∧
    ∀ i, i ≠ 6 → look 0 (s.inputFault n).isl.counters i = look 0 s.isl.counters i := by
  have stopped := islandStop_stopped (s := s.modIsl fun u => { u with inFault := setBit u.inFault n true }) hwf (s.isl.group n) 2 false
  have counter (i : Nat) (hi : i ≠ 6) := islandStop_counter (s := s.modIsl fun u => { u with inFault := setBit u.inFault n true }) hi (s.isl.group n) 2 false
  have reported := islandReport_reacted ((s.modIsl fun u => { u with inFault := setBit u.inFault n true }).islandStop (s.isl.group n) 2 false) 26
  have all := stopped.reacted reported
  have same : (s.inputFault n).isl = ((s.modIsl fun u => { u with inFault := setBit u.inFault n true }).islandStop (s.isl.group n) 2 false).isl :=
    reported.isl_eq
  have inFault : (s.inputFault n).isl.inFault = setBit s.isl.inFault n true := congrArg SafeUnit.inFault all.isl
  refine ⟨?_, fun m hm => ?_, (congrArg SafeUnit.levels all.isl :), (congrArg SafeUnit.inFailed all.isl :), all.outside.1, fun i hi => ?_⟩
  · rw [inFault, bit_setBit, if_pos rfl]
  · rw [inFault, bit_setBit, if_neg hm]
  · rw [same]
    exact counter i hi

/-- R485: FAULT switches every STO output off. -/
theorem islandFault_spec (hwf : Tab.wf {} s.isl.pairs) (hsound : s.isl.state ≠ .fault) : s.islandFault.isl.state = .fault ∧
    (∀ p, (pairOf s.islandFault p).stoA = false ∧ (pairOf s.islandFault p).stoB = false) ∧ s.islandFault.mem = s.mem := by
  have stopped := islandStop_stopped hwf 0xFF 8 true
  have body : s.islandFault = ((s.islandStop 0xFF 8 true).modIsl fun u => { u with
      state := .fault, pairs := u.pairs.map fun e => (e.1, { e.2 with stoA := false, stoB := false }) }).islandReport 25 := if_neg hsound
  have reported := islandReport_reacted ((s.islandStop 0xFF 8 true).modIsl fun u => { u with
      state := .fault, pairs := u.pairs.map fun e => (e.1, { e.2 with stoA := false, stoB := false }) }) 25
  rw [← body] at reported
  have isl := reported.isl_eq
  refine ⟨congrArg SafeUnit.state isl, fun p => ?_, reported.mem_eq.trans stopped.outside.1⟩
  have pair : pairOf s.islandFault p = { look {} (s.islandStop 0xFF 8 true).isl.pairs p with stoA := false, stoB := false } :=
    (congrArg (fun u : SafeUnit => look ({} : StoPair) u.pairs p) isl).trans
      (look_mapValues (fun k : StoPair => { k with stoA := false, stoB := false }) rfl _ p)
  rw [pair]
  exact ⟨rfl, rfl⟩

/-- R503, R506: a test was deferred once more. -/
theorem deferTest_input (hcount : Tab.wf 0 s.isl.counters) (hdef : Tab.wf 0 s.isl.inDeferred) (i : Nat) (hu : u = s.deferTest false i) :
    look 0 u.isl.counters 3 = sat32 (look 0 s.isl.counters 3) ∧ look 0 u.isl.inDeferred i = look 0 s.isl.inDeferred i + 1 ∧
    (s.isl.deferMax < look 0 s.isl.inDeferred i + 1 → bit u.isl.inOverdue (i / 2) = true) ∧ u.isl.inFailed = s.isl.inFailed ∧
    u.isl.inFault = s.isl.inFault ∧ u.isl.pairs = s.isl.pairs ∧ u.mem = s.mem := by
  subst hu
  have count := (look_islandCount hcount 3 3).trans (if_pos rfl)
  unfold State.deferTest
  extract_lets s₁ k s₂ set
  have deferred : look 0 s₂.isl.inDeferred i = look 0 s.isl.inDeferred i + 1 := look_put_same i _ hdef
  split
  next h =>
    have isl := (islandReport_reacted (s₂.modIsl fun u => { u with inOverdue := setBit u.inOverdue (i / 2) true }) 24).isl_eq
    have mem := (islandReport_reacted (s₂.modIsl fun u => { u with inOverdue := setBit u.inOverdue (i / 2) true }) 24).mem_eq
    simp only [Bool.false_eq_true, if_false]
    rw [isl]
    exact ⟨count, deferred, fun _ => (bit_setBit _ _ _ _).trans (if_pos rfl), rfl, rfl, rfl, mem⟩
  next h =>
    refine ⟨count, deferred, fun hover => ?_, rfl, rfl, rfl, rfl⟩
    by_contra hset
    exact h ⟨hover, hset⟩

theorem deferTest_output (hcount : Tab.wf 0 s.isl.counters) (hdef : Tab.wf 0 s.isl.outDeferred) (i : Nat) (hu : u = s.deferTest true i) :
    look 0 u.isl.counters 3 = sat32 (look 0 s.isl.counters 3) ∧ look 0 u.isl.outDeferred i = look 0 s.isl.outDeferred i + 1 ∧
    (s.isl.deferMax < look 0 s.isl.outDeferred i + 1 → bit u.isl.outOverdue i = true) ∧ u.isl.outFault = s.isl.outFault ∧
    u.isl.outFailed = s.isl.outFailed ∧ u.isl.pairs = s.isl.pairs ∧ u.mem = s.mem := by
  subst hu
  have count := (look_islandCount hcount 3 3).trans (if_pos rfl)
  unfold State.deferTest
  extract_lets s₁ k s₂ set
  have deferred : look 0 s₂.isl.outDeferred i = look 0 s.isl.outDeferred i + 1 := look_put_same i _ hdef
  split
  next h =>
    have isl := (islandReport_reacted (s₂.modIsl fun u => { u with outOverdue := setBit u.outOverdue i true }) 24).isl_eq
    have mem := (islandReport_reacted (s₂.modIsl fun u => { u with outOverdue := setBit u.outOverdue i true }) 24).mem_eq
    simp only [if_true]
    rw [isl]
    exact ⟨count, deferred, fun _ => (bit_setBit _ _ _ _).trans (if_pos rfl), rfl, rfl, rfl, mem⟩
  next h =>
    refine ⟨count, deferred, fun hover => ?_, rfl, rfl, rfl, rfl⟩
    by_contra hset
    exact h ⟨hover, hset⟩

/-! Pairs that lose their torque one at a time (R484, R496, R498). -/

/-- One pair goes to TORQUE_OFF, and the device hears of it. -/
theorem pairDropped_spec (hwf : Tab.wf {} s.isl.pairs) (p cause : Nat) (hu : u = (s.pairOff p cause).stoSwitched (2 ^ p)) :
    Tab.wf {} u.isl.pairs ∧ (∀ m, pairOf u m = if m = p then dropped s cause (pairOf s m) else pairOf s m) ∧ u.isl.counters = s.isl.counters ∧
    (s.boot.phase = .running → u.dev.mode = .safe) ∧ u.mem = s.mem ∧ u.isl.state = s.isl.state := by
  subst hu
  obtain ⟨shape, wf, -, -, -, pairs⟩ := pairOff_spec (p := p) (cause := cause) hwf
  obtain ⟨moved, safe⟩ := stoSwitched_spec (s.pairOff p cause) (2 ^ p)
  have outside := Stopped.outside ⟨_, shape, moved⟩
  refine ⟨by rw [moved.isl_eq]; exact wf, fun m => ?_, by rw [moved.isl_eq]; exact pairOff_counters s p cause, fun hruns => ?_, outside.1,
    by rw [moved.isl_eq]; exact shape.state_eq⟩
  · rw [pairOf, moved.isl_eq]
    exact pairs m
  · refine safe (Nat.ne_of_gt (Nat.two_pow_pos p)) ?_
    rw [deviceHears, shape.boot_eq, hruns]
    rfl

theorem stops_single (hp : p < 8) (hlive : pairLive s p = true) : Stops s (2 ^ p) p := by
  refine ⟨hp, ?_, hlive⟩
  rw [bit_eq_testBit, Nat.testBit_two_pow_self]

theorem not_stops_other {q : Nat} (hq : q ≠ p) : ¬ Stops s (2 ^ p) q := by
  rintro ⟨-, hbit, -⟩
  rw [bit_eq_testBit, Nat.testBit_two_pow_of_ne (Ne.symm hq)] at hbit
  exact Bool.false_ne_true hbit

/-- R498: the end of a hard-wired timer. -/
theorem hardWiredOff_spec (hwf : Tab.wf {} s.isl.pairs) (hready : s.isl.state = .ready) (hp : p < 8) (hu : u = s.hardWiredOff p) :
    Tab.wf {} u.isl.pairs ∧ (pairOf u p).stoB = false ∧
    (pairLive s p = true → (pairOf u p).state = .torqueOff ∧ (s.boot.phase = .running → u.dev.mode = .safe)) ∧
    ((pairOf s p).state = .enabled → (pairOf u p).offCause = 1) ∧ ((pairOf s p).state = .ss1 → (pairOf u p).offCause = s.isl.stopCause) ∧
    (∀ q, q ≠ p → pairOf u q = pairOf s q) ∧ u.mem = s.mem := by
  have wf₁ : Tab.wf {} (s.modPairSto p fun k => { k with stoB := false }).isl.pairs := upd_wf p (fun k : StoPair => { k with stoB := false }) hwf
  have look₁ (q : Nat) := pairOf_modPairSto (p := p) (f := fun k => { k with stoB := false }) hwf q
  have other₁ (q : Nat) (hq : q ≠ p) : pairOf (s.modPairSto p fun k => { k with stoB := false }) q = pairOf s q := (look₁ q).trans (if_neg hq)
  have own₁ : pairOf (s.modPairSto p fun k => { k with stoB := false }) p = { pairOf s p with stoB := false } := (look₁ p).trans (if_pos rfl)
  have state₁ : (pairOf (s.modPairSto p fun k => { k with stoB := false }) p).state = (pairOf s p).state := by rw [own₁]
  unfold State.hardWiredOff at hu
  dsimp only at hu
  rw [state₁] at hu
  cases hstate : (pairOf s p).state with
  | enabled =>
    rw [hstate] at hu
    replace hu : u = (s.modPairSto p fun k => { k with stoB := false }).islandStop (2 ^ p) 1 true := hu
    have live : pairLive (s.modPairSto p fun k => { k with stoB := false }) p = true := by
      unfold pairLive
      rw [state₁, hstate]
      rfl
    have wf := islandStop_wf wf₁ (2 ^ p) 1 true
    have done := islandStop_done (mask := 2 ^ p) (cause := 1) (immediate := true) wf₁ hready
    have mem := (islandStop_stopped wf₁ (2 ^ p) 1 true).outside.1
    have off := done.off p (stops_single hp live) (Or.inl rfl)
    have safe := done.safe p (stops_single hp live) (Or.inl rfl)
    rw [← hu] at wf off safe mem
    refine ⟨wf, by rw [off]; rfl, fun _ => ⟨by rw [off]; rfl, fun hruns => safe ?_⟩, fun _ => by rw [off]; rfl, fun h => (by cases h), fun q hq => ?_,
      mem⟩
    · change (s.boot.phase == .running) = true
      rw [hruns]
      rfl
    · rw [hu, done.others q (not_stops_other hq), other₁ q hq]
  | ss1 =>
    rw [hstate] at hu
    obtain ⟨wf, pairs, -, safe, mem, -⟩ := pairDropped_spec wf₁ p s.isl.stopCause hu
    have off := (pairs p).trans (if_pos rfl)
    exact ⟨wf, by rw [off]; rfl, fun _ => ⟨by rw [off]; rfl, safe⟩, fun h => (by cases h), fun _ => by rw [off]; rfl,
      fun q hq => ((pairs q).trans (if_neg hq)).trans (other₁ q hq), mem⟩
  | disabled =>
    rw [hstate] at hu
    subst hu
    refine ⟨wf₁, by rw [own₁], fun hlive => ?_, fun h => (by cases h), fun h => (by cases h), other₁, rfl⟩
    unfold pairLive at hlive
    rw [hstate] at hlive
    cases hlive
  | torqueOff =>
    rw [hstate] at hu
    subst hu
    refine ⟨wf₁, by rw [own₁], fun hlive => ?_, fun h => (by cases h), fun h => (by cases h), other₁, rfl⟩
    unfold pairLive at hlive
    rw [hstate] at hlive
    cases hlive

/-- R496: SS1 of a pair ends in STO, by the envelope with cause 6. -/
theorem endSs1_spec (hwf : Tab.wf {} s.isl.pairs) (p : Nat) (hu : u = s.endSs1 p false) :
    (pairOf u p).state = .torqueOff ∧ (pairOf u p).stoA = false ∧ (pairOf u p).stoB = false ∧ (pairOf u p).offCause = s.isl.stopCause ∧
    (s.boot.phase = .running → u.dev.mode = .safe) ∧ (∀ q, q ≠ p → pairOf u q = pairOf s q) ∧ u.mem = s.mem := by
  obtain ⟨-, pairs, -, safe, mem, -⟩ := pairDropped_spec hwf p s.isl.stopCause hu
  have off := (pairs p).trans (if_pos rfl)
  exact ⟨by rw [off]; rfl, by rw [off]; rfl, by rw [off]; rfl, by rw [off]; rfl, safe, fun q hq => (pairs q).trans (if_neg hq), mem⟩

theorem endSs1_envelope (hwf : Tab.wf {} s.isl.pairs) (hcount : Tab.wf 0 s.isl.counters) (p : Nat) (hu : u = s.endSs1 p true) :
    (pairOf u p).state = .torqueOff ∧ (pairOf u p).stoA = false ∧ (pairOf u p).stoB = false ∧ (pairOf u p).offCause = 6 ∧
    look 0 u.isl.counters 7 = sat32 (look 0 s.isl.counters 7) ∧ (s.boot.phase = .running → u.dev.mode = .safe) ∧
    (∀ q, q ≠ p → pairOf u q = pairOf s q) ∧ u.mem = s.mem := by
  have counted := (look_islandCount (s := s.modIsl fun u => { u with stopCause := 6 }) hcount 7 7).trans (if_pos rfl)
  obtain ⟨-, pairs, counters, safe, mem, -⟩ := pairDropped_spec (s := (s.modIsl fun u => { u with stopCause := 6 }).islandCount 7) hwf p 6 hu
  have off := (pairs p).trans (if_pos rfl)
  refine ⟨by rw [off]; rfl, by rw [off]; rfl, by rw [off]; rfl, by rw [off]; rfl, ?_, safe, fun q hq => (pairs q).trans (if_neg hq), mem⟩
  rw [counters]
  exact counted

theorem pairLive_of_ss1 (h : (pairOf s p).state = .ss1) : pairLive s p = true := by
  unfold pairLive
  rw [h]
  rfl

theorem pairLive_of_enabled (h : (pairOf s p).state = .enabled) : pairLive s p = true := by
  unfold pairLive
  rw [h]
  rfl

/-- The timers of the hard-wired path of these pairs run (R498). -/
def timed (ps : List Nat) (s : State) : State :=
  ps.foldl (fun s p => s.modPairSto p fun k => if k.state = .disabled then k else { k with hwFrom := k.hwFrom.or (some s.now) }) s

theorem timed_eq (ps : List Nat) (s : State) : timed ps s = s.modIsl fun u => { u with pairs := updAll {} u.pairs ps fun _ k =>
    if k.state = .disabled then k else { k with hwFrom := k.hwFrom.or (some s.now) } } := by
  have each (now : Nat) : ∀ (ps : List Nat) (s : State), s.now = now → timed ps s = s.modIsl fun u => { u with pairs := updAll {} u.pairs ps fun _ k =>
      if k.state = .disabled then k else { k with hwFrom := k.hwFrom.or (some now) } } := by
    intro ps
    induction ps with
    | nil => exact fun s _ => rfl
    | cons p ps ih =>
      intro s hnow
      subst hnow
      exact ih _ rfl
  exact each s.now ps s rfl

theorem pairOf_timed (hwf : Tab.wf {} s.isl.pairs) {ps : List Nat} (hnodup : ps.Nodup) (q : Nat) : pairOf (timed ps s) q =
    if q ∈ ps ∧ (pairOf s q).state ≠ .disabled then { pairOf s q with hwFrom := (pairOf s q).hwFrom.or (some s.now) } else pairOf s q := by
  rw [timed_eq]
  refine (look_updAll (fun _ (k : StoPair) => if k.state = .disabled then k else { k with hwFrom := k.hwFrom.or (some s.now) }) q hnodup hwf).trans ?_
  by_cases hq : q ∈ ps
  · rw [if_pos hq]
    by_cases hd : (pairOf s q).state = .disabled
    · rw [if_neg fun h : q ∈ ps ∧ (pairOf s q).state ≠ .disabled => h.2 hd]
      exact if_pos hd
    · rw [if_pos (show q ∈ ps ∧ (pairOf s q).state ≠ .disabled from ⟨hq, hd⟩)]
      exact if_neg hd
  · rw [if_neg hq, if_neg fun h : q ∈ ps ∧ (pairOf s q).state ≠ .disabled => hq h.1]
    rfl

theorem timed_wf (hwf : Tab.wf {} s.isl.pairs) (ps : List Nat) : Tab.wf {} (timed ps s).isl.pairs := by
  rw [timed_eq]
  exact updAll_wf _ hwf

theorem hardWiredRecognition_eq (hready : s.isl.state = .ready) (hdue : hardWiredDue s n = true) : hardWiredRecognition n s =
    if s.isl.tClass = 0 then ((timed (bitsOf 8 (s.isl.group n)) s).islandStop (s.isl.group n) 1 true).modIsl fun u => { u with
      pairs := updAll {} u.pairs (bitsOf 8 (s.isl.group n)) fun _ k => { k with stoB := false } }
    else timed (bitsOf 8 (s.isl.group n)) s := by
  have passes : ¬ (s.isl.state ≠ .ready ∨ (!hardWiredDue s n) = true) := by
    rw [hready, hdue]
    simp
  unfold hardWiredRecognition
  rw [if_neg passes]
  change (if (timed (bitsOf 8 (s.isl.group n)) s).isl.tClass = 0 then ((timed (bitsOf 8 (s.isl.group n)) s).islandStop
    ((timed (bitsOf 8 (s.isl.group n)) s).isl.group n) 1 true).modIsl _ else _) = _
  have same : (timed (bitsOf 8 (s.isl.group n)) s).isl.tClass = s.isl.tClass ∧
      (timed (bitsOf 8 (s.isl.group n)) s).isl.group n = s.isl.group n := by
    rw [timed_eq]
    exact ⟨rfl, rfl⟩
  rw [same.1, same.2]
  rfl

end Island

end Sys2Proof.Machine
end
section
/-! The events of the safety island (14 R481–R508). -/

namespace Sys2Proof.Machine

section Island

variable {s u : State} {n p ch o : Nat} {good : Bool}

/-- R503: a demand at a powered island. -/
theorem demand_eq (hpow : s.isl.powered = true) (ch : Nat) : demand ch s = (s.modIsl fun u => { u with
    levels := setBit u.levels ch false, levelAt := if bit u.levels ch then put 0 u.levelAt ch s.now else u.levelAt }).islandStop
      (s.isl.group (ch / 2)) 1 false := if_neg (by rw [hpow]; decide)

theorem discrepancy_eq (hready : s.isl.state = .ready) (hsound : bit s.isl.inFault n = false) (hdis : discrepant s n = true) :
    discrepancy n s = (s.islandCount 4).inputFault n := if_neg (by rw [hready, hsound, hdis]; simp)

theorem discrepancy_none (h : s.isl.state ≠ .ready ∨ bit s.isl.inFault n = true ∨ discrepant s n = false) : discrepancy n s = s :=
  if_pos (h.imp_right (Or.imp_right fun h => by rw [h]; rfl))

/-- The window of a test has come (R502). -/
def windowed (ch : Nat) (s : State) : State := s.modIsl fun u => { u with inTestAt := put none u.inTestAt ch (some s.now) }

/-- A test of an input was made: nothing of it is deferred (R506). -/
def testMade (ch : Nat) (s : State) : State := (windowed ch s).modIsl fun u => { u with
  inDeferred := put 0 u.inDeferred ch 0, inOverdue := setBit u.inOverdue (ch / 2) (u.stillOverdue ch) }

theorem testPulse_eq (hready : s.isl.state = .ready) (hdue : windowDue s s.isl.inTestAt ch (field (s.isl.w 1) 20 12 * 1000) = true) :
    testPulse ch good s = if bit s.isl.levels ch = false then (windowed ch s).deferTest false ch
      else if good then
        (if bit s.isl.inFailed ch then ((testMade ch s).modIsl fun u => { u with inFailed := setBit u.inFailed ch false }).islandRetry else testMade ch s)
      else if bit s.isl.inFailed ch then
        (((testMade ch s).modIsl fun u => { u with inFailed := setBit u.inFailed ch false }).islandCount 0).inputFault (ch / 2)
      else (testMade ch s).modIsl fun u => { u with inFailed := setBit u.inFailed ch true } := by
  unfold testPulse
  rw [if_neg (by rw [hready, hdue]; simp)]
  cases h : bit s.isl.levels ch with
  | true => exact if_neg (by change ¬ (!bit s.isl.levels ch) = true; rw [h]; decide)
  | false => exact if_pos (by change (!bit s.isl.levels ch) = true; rw [h]; rfl)

theorem testPulse_none (h : s.isl.state ≠ .ready ∨ windowDue s s.isl.inTestAt ch (field (s.isl.w 1) 20 12 * 1000) = false) :
    testPulse ch good s = s := if_pos (h.imp_right fun h => by rw [h]; rfl)

theorem tHw_eq {f : Nat} (hfrom : (pairOf s p).hwFrom = some f) (hready : s.isl.state = .ready)
    (hover : islandElapsed s f (tHwMs s.isl.tClass * 1000) = true) : tHw p s = (s.hardWiredOff p).modPairSto p fun k => { k with hwFrom := none } := by
  unfold tHw
  rw [hfrom]
  exact if_pos ⟨hready, hover⟩

theorem ss1Check_idle (h : (pairOf s p).state ≠ .ss1) : ss1Check p s = s := if_pos (Or.inr (Or.inl h))

theorem ss1Check_envelope (hready : s.isl.state = .ready) (hss1 : (pairOf s p).state = .ss1) (hmode : s.isl.mode p = 2)
    (hdue : islandElapsed s (pairOf s p).ss1At (((pairOf s p).checks + 1) * 1000) = true) (hwf : Tab.wf {} s.isl.pairs)
    (hfast : ss1Limit s p ((pairOf s p).checks + 1) < pairSpeed s p) :
    ss1Check p s = (s.modPairSto p fun k => { k with checks := (pairOf s p).checks + 1 }).endSs1 p true := by
  have v0 : (pairOf (s.modPairSto p fun k => { k with checks := (pairOf s p).checks + 1 }) p).v0 = (pairOf s p).v0 := by
    rw [pairOf_modPairSto hwf, if_pos rfl]
  have limit : ss1Limit (s.modPairSto p fun k => { k with checks := (pairOf s p).checks + 1 }) p ((pairOf s p).checks + 1) =
      ss1Limit s p ((pairOf s p).checks + 1) := by
    unfold ss1Limit
    rw [v0]
    rfl
  unfold ss1Check
  dsimp only
  rw [if_neg (by rw [hready, hss1, hmode, hdue]; simp), if_pos]
  rw [limit]
  exact hfast

theorem tSs1Max_eq (hready : s.isl.state = .ready) (hss1 : (pairOf s p).state = .ss1) (hmode : s.isl.mode p = 1)
    (hover : islandElapsed s (pairOf s p).ss1At (s.isl.ss1MaxMs p * 1000) = true) : tSs1Max p s = s.endSs1 p false :=
  if_pos ⟨hready, hss1, hmode, hover⟩

/-- R507: a heartbeat that stays away, on a device that is no half of a pair. -/
theorem heartbeatLost_eq (hrole : s.pair.role = .off) (pulse : Option Nat) : heartbeatLost pulse s =
    if s.isl.state ≠ .ready ∨ s.isl.hbAction = 0 ∨ s.isl.hbLost ∨
        ¬ ((match s.isl.hbAt with | some t => islandElapsed s t s.isl.hbTimeoutUs | none => true) : Bool) ∨ !(List.range 8).any (pairLive s) then s
    else ((s.modIsl fun u => { u with hbLost := true }).islandCount 5).islandStop 0xFF 4 (s.isl.hbAction == 2) := by
  unfold heartbeatLost
  simp only [hrole, ne_eq, not_true_eq_false, false_and, if_false] <;> rfl

/-- The output test of an output that is not energised and not aborted (R505). -/
theorem outputTestPulse_low (hready : s.isl.state = .ready) (hlow : outCommanded s o = false) (hsound : bit s.isl.outFault o = false) :
    outputTestPulse o good false s = if good then
        (if bit s.isl.outFailed o then (s.modIsl fun u => { u with outFailed := setBit u.outFailed o false }).islandRetry else s)
      else if bit s.isl.outFailed o then s.outputFault o else s.modIsl fun u => { u with outFailed := setBit u.outFailed o true } := by
  have quiet : (s.isl.outTest o && s.isl.outFunction o != 0 && (outCommanded s o || false)) = false := by
    rw [hlow, Bool.or_false, Bool.and_false]
  unfold outputTestPulse
  dsimp only
  rw [quiet, hlow, hready, hsound, if_neg (by simp)]
  rfl

/-- The window of an output's test has come (R504). -/
def outWindowed (o : Nat) (s : State) : State := s.modIsl fun u => { u with outTestAt := put none u.outTestAt o (some s.now) }

theorem outputTestPulse_aborted (hready : s.isl.state = .ready) (hsound : bit s.isl.outFault o = false) (htest : s.isl.outTest o = true)
    (hfun : s.isl.outFunction o ≠ 0) (hdue : windowDue s s.isl.outTestAt o (field (s.isl.w 2) 10 12 * 1000) = true) :
    outputTestPulse o good true s = (outWindowed o s).deferTest true o := by
  have pulse : (s.isl.outTest o && s.isl.outFunction o != 0 && (outCommanded s o || true)) = true := by
    rw [htest, Bool.or_true, bne_iff_ne.mpr hfun]
    rfl
  unfold outputTestPulse
  dsimp only
  rw [pulse, hready, hsound, hdue, if_neg (by simp), if_pos rfl, if_pos ⟨rfl, rfl⟩]
  rfl

theorem function_of_commanded (h : outCommanded s o = true) : s.isl.outFunction o ≠ 0 := by
  intro hzero
  unfold outCommanded at h
  dsimp only at h
  rw [hzero] at h
  simp at h

theorem outputTestPulse_early {aborted : Bool} (htest : s.isl.outTest o = true)
    (hearly : windowDue s s.isl.outTestAt o (field (s.isl.w 2) 10 12 * 1000) = false) (hhigh : outCommanded s o = true) :
    outputTestPulse o good aborted s = s := by
  have pulse : (s.isl.outTest o && s.isl.outFunction o != 0 && (outCommanded s o || aborted)) = true := by
    rw [htest, hhigh, Bool.true_or, bne_iff_ne.mpr (function_of_commanded hhigh)]
    rfl
  unfold outputTestPulse
  dsimp only
  rw [pulse, hearly]
  exact if_pos (Or.inr (Or.inr (Or.inr ⟨rfl, rfl⟩)))

/-- R505: an output enters FAULT. -/
theorem outputFault_spec (hwf : Tab.wf {} s.isl.pairs) (hcount : Tab.wf 0 s.isl.counters) (hu : u = s.outputFault o) :
    bit u.isl.outFault o = true ∧ bit u.isl.outFailed o = false ∧ look 0 u.isl.counters 1 = sat32 (look 0 s.isl.counters 1) ∧ u.mem = s.mem := by
  have counted := (look_islandCount (s := s.modIsl fun u => { u with outFault := setBit u.outFault o true, outFailed := setBit u.outFailed o false })
    hcount 1 1).trans (if_pos rfl)
  have faulty : bit (setBit s.isl.outFault o true) o = true := (bit_setBit _ _ _ _).trans (if_pos rfl)
  have passed : bit (setBit s.isl.outFailed o false) o = false := (bit_setBit _ _ _ _).trans (if_pos rfl)
  unfold State.outputFault at hu
  extract_lets sbc p x y at hu
  have xwf : Tab.wf {} x.isl.pairs := hwf
  have stop : Stopped x y ∧ look 0 y.isl.counters 1 = look 0 x.isl.counters 1 := by
    simp only [y]
    split
    · exact ⟨islandStop_stopped xwf _ _ _, islandStop_counter (by decide) _ _ _⟩
    · exact ⟨Stopped.refl x, rfl⟩
  have reported := islandReport_reacted y 26
  have isl : u.isl = y.isl := by rw [hu]; exact reported.isl_eq
  have mem : u.mem = y.mem := by rw [hu]; exact reported.mem_eq
  rw [isl, mem]
  refine ⟨?_, ?_, stop.2.trans counted, stop.1.outside.1⟩
  · rw [show y.isl.outFault = setBit s.isl.outFault o true from congrArg SafeUnit.outFault stop.1.isl]
    exact faulty
  · rw [show y.isl.outFailed = setBit s.isl.outFailed o false from congrArg SafeUnit.outFailed stop.1.isl]
    exact passed

/-- R504: an output whose delay is over and whose pair has no torque is not commanded. -/
theorem outCommanded_released (hoff : (pairOf s (s.isl.outPair o)).state = .torqueOff) (hheld : bit s.isl.sbcHeld o = false) (hfun : s.isl.outFunction o = 1) :
    outCommanded s o = false := by
  have dead : pairLive s (s.isl.outPair o) = false := by
    unfold pairLive
    rw [hoff]
    rfl
  unfold outCommanded
  dsimp only
  rw [hfun]
  change (_ && _ && (pairLive s (s.isl.outPair o) || _)) = false
  rw [dead, hheld, Bool.and_false, Bool.or_false, Bool.and_false]

theorem switchWordRead_bad {a b : Nat} (hpow : s.isl.powered = true) (hstart : s.isl.state ≠ .start) (hsound : s.isl.state ≠ .fault)
    (hbad : a % 65536 ≠ b % 65536) : switchWordRead a b s = s.islandFault.modIsl fun u => { u with swA := a % 65536, swB := b % 65536 } := by
  unfold switchWordRead
  dsimp only
  rw [if_neg fun h => h.elim (fun h => by rw [hpow] at h; exact Bool.false_ne_true h) fun h => h.elim hstart hsound]
  exact if_pos (Or.inl hbad)

theorem switchWordRead_good {a : Nat} (hpow : s.isl.powered = true) (hstart : s.isl.state ≠ .start) (hsound : s.isl.state ≠ .fault)
    (hsame : s.isl.state = .ready → a % 65536 = s.isl.swA) : switchWordRead a a s = s.modIsl fun u => { u with swA := a % 65536, swB := a % 65536 } := by
  unfold switchWordRead
  dsimp only
  rw [if_neg fun h => h.elim (fun h => by rw [hpow] at h; exact Bool.false_ne_true h) fun h => h.elim hstart hsound]
  refine if_neg fun h => ?_
  rcases h with h | h
  · exact h rfl
  · exact h.2 (hsame h.1)

/-- R502: the levels of an input pair disagree for too long. -/
theorem discrepancy_spec (hwf : Tab.wf {} s.isl.pairs) (hcount : Tab.wf 0 s.isl.counters) (hu : u = (s.islandCount 4).inputFault n) :
    bit u.isl.inFault n = true ∧ look 0 u.isl.counters 4 = sat32 (look 0 s.isl.counters 4) ∧
    (∀ m, m ≠ n → bit u.isl.inFault m = bit s.isl.inFault m) ∧ u.isl.levels = s.isl.levels ∧ u.mem = s.mem := by
  subst hu
  have wf : Tab.wf {} (s.islandCount 4).isl.pairs := hwf
  obtain ⟨fault, others, levels, -, mem, counters⟩ := inputFault_spec wf n
  exact ⟨fault, (counters 4 (by decide)).trans ((look_islandCount hcount 4 4).trans (if_pos rfl)), others, levels, mem⟩

/-- R503: the second failed test of an input in a row. -/
theorem testFailed_spec (hwf : Tab.wf {} s.isl.pairs) (hcount : Tab.wf 0 s.isl.counters)
    (hu : u = ((s.modIsl fun u => { u with inFailed := setBit u.inFailed ch false }).islandCount 0).inputFault n) :
    bit u.isl.inFault n = true ∧ bit u.isl.inFailed ch = false ∧ look 0 u.isl.counters 0 = sat32 (look 0 s.isl.counters 0) := by
  have wf : Tab.wf {} ((s.modIsl fun u => { u with inFailed := setBit u.inFailed ch false }).islandCount 0).isl.pairs := hwf
  have counted := (look_islandCount (s := s.modIsl fun u => { u with inFailed := setBit u.inFailed ch false }) hcount 0 0).trans (if_pos rfl)
  have passed : bit ((s.modIsl fun u => { u with inFailed := setBit u.inFailed ch false }).islandCount 0).isl.inFailed ch = false :=
    (bit_setBit s.isl.inFailed _ _ _).trans (if_pos rfl)
  obtain ⟨fault, -, -, failed, -, counters⟩ := inputFault_spec wf n
  subst hu
  exact ⟨fault, (congrArg (bit · ch) failed).trans passed, (counters 0 (by decide)).trans counted⟩

theorem pairLive_timed (hwf : Tab.wf {} s.isl.pairs) {ps : List Nat} (hnodup : ps.Nodup) (q : Nat) : pairLive (timed ps s) q = pairLive s q := by
  unfold pairLive
  rw [pairOf_timed hwf hnodup q]
  split <;> rfl

/-- R498: with tClass 0 the hard-wired path acts on recognition. -/
theorem hardWiredAtOnce_spec (hwf : Tab.wf {} s.isl.pairs) (hready : s.isl.state = .ready) (hdue : hardWiredDue s n = true) (hclass : s.isl.tClass = 0)
    (hp : p < 8) (hgroup : bit (s.isl.group n) p = true) (hu : u = hardWiredRecognition n s) :
    (pairOf u p).stoB = false ∧ (pairLive s p = true → (pairOf u p).state = .torqueOff ∧ (s.boot.phase = .running → u.dev.mode = .safe)) ∧
    u.mem = s.mem := by
  have nodup := bitsOf_nodup 8 (s.isl.group n)
  have member : p ∈ bitsOf 8 (s.isl.group n) := mem_bitsOf_iff.mpr ⟨hp, hgroup⟩
  have shape := timed_eq (bitsOf 8 (s.isl.group n)) s
  have wf := timed_wf hwf (bitsOf 8 (s.isl.group n))
  have live := pairLive_timed hwf nodup p
  rw [hardWiredRecognition_eq hready hdue, if_pos hclass] at hu
  generalize timed (bitsOf 8 (s.isl.group n)) s = v at shape wf live hu
  have ready : v.isl.state = .ready := by
    rw [shape]
    exact hready
  have done := islandStop_done (mask := s.isl.group n) (cause := 1) (immediate := true) wf ready
  have mem := (islandStop_stopped wf (s.isl.group n) 1 true).outside.1
  have stopWf := islandStop_wf wf (s.isl.group n) 1 true
  generalize v.islandStop (s.isl.group n) 1 true = x at done mem stopWf hu
  have found : pairOf u p = { pairOf x p with stoB := false } := by
    rw [hu]
    exact (look_updAll (fun _ (k : StoPair) => { k with stoB := false }) p nodup stopWf).trans (if_pos member)
  refine ⟨by rw [found], fun hlive => ?_, ?_⟩
  · have stops : Stops v (s.isl.group n) p := ⟨hp, hgroup, live.trans hlive⟩
    refine ⟨?_, fun hruns => ?_⟩
    · rw [found, done.off p stops (Or.inl rfl)]
      rfl
    · have safe := done.safe p stops (Or.inl rfl) (by rw [shape]; exact beq_iff_eq.mpr hruns)
      rw [hu]
      exact safe
  · rw [hu]
    exact mem.trans (by rw [shape]; rfl)

/-- R507: a heartbeat that stays away stops every pair. -/
theorem heartbeatLost_spec (hwf : Tab.wf {} s.isl.pairs) (hcount : Tab.wf 0 s.isl.counters) (hready : s.isl.state = .ready) (hp : p < 8)
    (hlive : pairLive s p = true) (hu : u = ((s.modIsl fun u => { u with hbLost := true }).islandCount 5).islandStop 0xFF 4 true) :
    u.isl.hbLost = true ∧ u.isl.stopCause = 4 ∧ look 0 u.isl.counters 5 = sat32 (look 0 s.isl.counters 5) ∧
    (pairOf u p).state = .torqueOff ∧ (pairOf u p).offCause = 4 ∧ (s.boot.phase = .running → u.dev.mode = .safe) ∧ u.mem = s.mem := by
  have counted := (look_islandCount (s := s.modIsl fun u => { u with hbLost := true }) hcount 5 5).trans (if_pos rfl)
  have every : bit 0xFF p = true := by
    interval_cases p <;> rfl
  have stops : Stops ((s.modIsl fun u => { u with hbLost := true }).islandCount 5) 0xFF p := ⟨hp, every, hlive⟩
  have wf : Tab.wf {} ((s.modIsl fun u => { u with hbLost := true }).islandCount 5).isl.pairs := hwf
  have ready : ((s.modIsl fun u => { u with hbLost := true }).islandCount 5).isl.state = .ready := hready
  have lost : ((s.modIsl fun u => { u with hbLost := true }).islandCount 5).isl.hbLost = true := rfl
  have same : ((s.modIsl fun u => { u with hbLost := true }).islandCount 5).boot = s.boot ∧
    ((s.modIsl fun u => { u with hbLost := true }).islandCount 5).mem = s.mem := ⟨rfl, rfl⟩
  generalize (s.modIsl fun u => { u with hbLost := true }).islandCount 5 = v at counted stops wf ready lost same hu
  have done := islandStop_done (mask := 0xFF) (cause := 4) (immediate := true) wf ready
  have stopped := islandStop_stopped wf 0xFF 4 true
  have counter := islandStop_counter (s := v) (i := 5) (by decide) 0xFF 4 true
  rw [← hu] at done stopped counter
  have off := done.off p stops (Or.inl rfl)
  refine ⟨(congrArg SafeUnit.hbLost stopped.isl).trans lost, (done.inStop p stops (Or.inl rfl)).2, counter.trans counted, by rw [off]; rfl, by rw [off]; rfl,
    fun hruns => done.safe p stops (Or.inl rfl) ?_, stopped.outside.1.trans same.2⟩
  rw [deviceHears, same.1, hruns]
  rfl

/-- R487, R511: what the self-test leaves of the island. -/
def selfTested (a b : Nat) (u : SafeUnit) : SafeUnit :=
  if paramsFit u a then { u with swA := a, swB := b, state := .ready }
  else { u with swA := a, swB := b, state := .noParams, params := [], pairs := [] }

theorem selfTestDone_eq {a b : Nat} (hpow : s.isl.powered = true) (hstart : s.isl.state = .start) : selfTestDone a b s =
    if a % 65536 ≠ b % 65536 then (s.modIsl (selfTested (a % 65536) (b % 65536))).islandFault else s.modIsl (selfTested (a % 65536) (b % 65536)) :=
  if_neg (by rw [hpow, hstart]; simp)

theorem selfTested_wf {a b : Nat} {u : SafeUnit} (hwf : Tab.wf {} u.pairs) : Tab.wf {} (selfTested a b u).pairs ∧ (selfTested a b u).state ≠ .fault := by
  unfold selfTested
  split
  · exact ⟨hwf, fun h => by cases h⟩
  · exact ⟨rfl, fun h => by cases h⟩

end Island

/-- Settles O50: stops by `islandStop_done`, tests by `testPulse_eq` and `outputTestPulse_aborted`, lasting failures by `islandFault_spec`. -/
theorem islandRuns : Obligations.IslandRuns := by
  intro t s u hu hwf hcount
  subst hu
  refine ⟨fun ch hch hpow => ?unpowered, fun ch p hch hp hpow hready hgroup hmode hlive => ?demandOff,
    fun ch p hch hp hpow hready hgroup hmode hen => ?demandSs1, fun ch hch hpow => ?energised, fun n hn hno => ?noDiscrepancy,
    fun n hn hready hsound hdis => ?discrepancy, fun ch good hch hno => ?noTest, fun ch good hch hready hdue hlow hdef => ?testDeferred,
    fun ch hch hready hdue hhigh hfirst => ?testFails, fun ch hch hready hdue hhigh hagain => ?testFault,
    fun ch hch hready hdue hhigh hagain => ?testPasses, fun n hn hno => ?noRecognition, fun n p hn hp hready hdue hgroup hable hclass => ?timer,
    fun n p hn hp hready hdue hgroup hclass => ?atOnce, fun p f hp hfrom hready hover => ?timerEnds, fun p hp hnone => ?noTimer,
    fun p hp hready hss1 hmode hdue hfast => ?envelope, fun p hp hready hss1 hmode hover => ?ss1Ends, fun p hp hno => ?noSs1,
    fun pulse hrole hact => ?noHeartbeat, fun pulse p hp hrole hact hready hnew hlive hlate => ?heartbeat, fun a b hpow hstart hsound hbad => ?switchBad,
    fun a hpow hstart hsound hsame => ?switchGood, fun pin hpin hpow => ?readbackGood, fun pin hpin hpow hsound => ?readbackBad,
    fun hpow hsound => ?frequency, ?noCheck, fun hpow => ?checkOnce, fun n hn hpow hsound => ?checkFails, fun o good aborted ho hno => ?noOutTest,
    fun o good aborted ho htest hearly hhigh => ?outEarly, fun o good ho hready hsound htest hfun hdue hdef => ?outDeferred,
    fun o ho hready hlow hsound hpassed => ?outFirst, fun o ho hready hlow hsound hfailed => ?outFault, fun o ho hno => ?noDelay,
    fun o ho hheld hoff hover => ?delay, fun hpow => ?noStart, fun hpow => ?start, fun a hpow hstart => ?selfTest,
    fun a b hpow hstart hbad => ?selfTestBad, fun a b hpow => ?noSelfTest⟩
  case unpowered =>
    exact ⟨(event_of (decide_eq_true hch) t _ s).trans (congrArg _ (if_pos (by rw [hpow]; rfl))),
      (event_of (decide_eq_true hch) t _ s).trans (congrArg _ (if_neg (by rw [hpow]; decide)))⟩
  case demandOff =>
    have done := islandStop_done (s := (s.at t).modIsl fun u => { u with
      levels := setBit u.levels ch false, levelAt := if bit u.levels ch then put 0 u.levelAt ch (s.at t).now else u.levelAt })
      (mask := (s.at t).isl.group (ch / 2)) (cause := 1) (immediate := false) hwf hready
    have stopped : Stopped _ _ := done.shape
    have isl := stopped.isl
    obtain ⟨mem, graph, loop, dio, -⟩ := stopped.outside
    have off := done.off p ⟨hp, hgroup, hlive⟩ (Or.inr hmode)
    obtain ⟨inStop, stopCause⟩ := done.inStop p ⟨hp, hgroup, hlive⟩ (Or.inr (Or.inl hmode))
    refine ⟨_, (event_of (decide_eq_true hch) t _ s).trans (congrArg _ (demand_eq hpow ch)), ?_, by rw [off]; rfl, by rw [off]; rfl, by rw [off]; rfl,
      by rw [off]; rfl, inStop, stopCause, fun hruns => done.safe p ⟨hp, hgroup, hlive⟩ (Or.inr hmode) (beq_iff_eq.mpr hruns),
      fun q hq hno => done.others q fun h => Bool.false_ne_true (hno.symm.trans h.2.1), mem, graph, loop, dio⟩
    rw [isl]
    exact (bit_setBit _ _ _ _).trans (if_pos rfl)
  case demandSs1 =>
    have done := islandStop_done (s := (s.at t).modIsl fun u => { u with
      levels := setBit u.levels ch false, levelAt := if bit u.levels ch then put 0 u.levelAt ch (s.at t).now else u.levelAt })
      (mask := (s.at t).isl.group (ch / 2)) (cause := 1) (immediate := false) hwf hready
    have stops : Stops ((s.at t).modIsl fun u => { u with
        levels := setBit u.levels ch false, levelAt := if bit u.levels ch then put 0 u.levelAt ch (s.at t).now else u.levelAt })
        ((s.at t).isl.group (ch / 2)) p := ⟨hp, hgroup, pairLive_of_enabled hen⟩
    obtain ⟨ramp, -⟩ := done.ramp p stops rfl hmode hen
    have cause := (done.inStop p stops (Or.inr (Or.inr hen))).2
    exact ⟨_, (event_of (decide_eq_true hch) t _ s).trans (congrArg _ (demand_eq hpow ch)), by rw [ramp]; rfl, by rw [ramp]; rfl, by rw [ramp]; rfl,
      by rw [ramp]; rfl, by rw [ramp]; rfl, cause⟩
  case energised =>
    refine ⟨_, (event_of (decide_eq_true hch) t _ s).trans (congrArg _ (if_pos hpow)), (bit_setBit _ _ _ _).trans (if_pos rfl),
      fun c hc => (bit_setBit _ _ _ _).trans (if_neg hc), rfl, rfl, rfl⟩
  case noDiscrepancy => exact (event_of (decide_eq_true hn) t _ s).trans (congrArg _ (discrepancy_none hno))
  case discrepancy =>
    exact ⟨_, (event_of (decide_eq_true hn) t _ s).trans (congrArg _ (discrepancy_eq hready hsound hdis)), discrepancy_spec hwf hcount rfl⟩
  case noTest => exact (event_of (decide_eq_true hch) t _ s).trans (congrArg _ (testPulse_none hno))
  case testDeferred =>
    exact ⟨_, (event_of (decide_eq_true hch) t _ s).trans (congrArg _ ((testPulse_eq hready hdue).trans (if_pos hlow))),
      deferTest_input (s := windowed ch (s.at t)) hcount hdef ch rfl⟩
  case testFails =>
    have body : testPulse ch false (s.at t) = (testMade ch (s.at t)).modIsl fun u => { u with inFailed := setBit u.inFailed ch true } := by
      rw [testPulse_eq hready hdue, hhigh, hfirst]
      rfl
    exact ⟨_, (event_of (decide_eq_true hch) t _ s).trans (congrArg _ body), (bit_setBit _ _ _ _).trans (if_pos rfl), rfl, rfl, rfl⟩
  case testFault =>
    have body : testPulse ch false (s.at t) = (((testMade ch (s.at t)).modIsl fun u =>
        { u with inFailed := setBit u.inFailed ch false }).islandCount 0).inputFault (ch / 2) := by
      rw [testPulse_eq hready hdue, hhigh, hagain]
      rfl
    exact ⟨_, (event_of (decide_eq_true hch) t _ s).trans (congrArg _ body), testFailed_spec (s := testMade ch (s.at t)) hwf hcount rfl⟩
  case testPasses =>
    have body : testPulse ch true (s.at t) = ((testMade ch (s.at t)).modIsl fun u => { u with inFailed := setBit u.inFailed ch false }).islandRetry := by
      rw [testPulse_eq hready hdue, hhigh, hagain]
      rfl
    obtain ⟨isl, dev⟩ := islandRetry_spec ((testMade ch (s.at t)).modIsl fun u => { u with inFailed := setBit u.inFailed ch false })
    refine ⟨_, (event_of (decide_eq_true hch) t _ s).trans (congrArg _ body), ?_⟩
    rw [isl, dev]
    exact ⟨(bit_setBit _ _ _ _).trans (if_pos rfl),
      (look_islandCount (s := (testMade ch (s.at t)).modIsl fun u => { u with inFailed := setBit u.inFailed ch false }) hcount 2 2).trans (if_pos rfl),
      rfl, rfl, rfl⟩
  case noRecognition =>
    exact (event_of (decide_eq_true hn) t _ s).trans (congrArg _ (if_pos (hno.imp_right fun h => by rw [h]; rfl)))
  case timer =>
    have timed := (pairOf_timed hwf (bitsOf_nodup 8 ((s.at t).isl.group n)) p).trans (if_pos ⟨mem_bitsOf_iff.mpr ⟨hp, hgroup⟩, hable⟩)
    refine ⟨_, (event_of (decide_eq_true hn) t _ s).trans (congrArg _ ((hardWiredRecognition_eq hready hdue).trans (if_neg hclass))), by rw [timed],
      by rw [timed], ?_⟩
    rw [timed_eq]
    rfl
  case atOnce =>
    exact ⟨_, (event_of (decide_eq_true hn) t _ s), hardWiredAtOnce_spec hwf hready hdue hclass hp hgroup rfl⟩
  case timerEnds =>
    obtain ⟨wf, stoB, live, cause, causeSs1, others, mem⟩ := hardWiredOff_spec hwf hready hp (u := (s.at t).hardWiredOff p) rfl
    have found (q : Nat) := pairOf_modPairSto (p := p) (f := fun k => { k with hwFrom := none }) wf q
    have own := (found p).trans (if_pos rfl)
    exact ⟨_, (event_of (decide_eq_true hp) t _ s).trans (congrArg _ (tHw_eq hfrom hready hover)), (congrArg StoPair.stoB own).trans stoB,
      (congrArg StoPair.hwFrom own :), fun hlive => ⟨(congrArg StoPair.state own).trans (live hlive).1, (live hlive).2⟩,
      fun h => (congrArg StoPair.offCause own).trans (cause h), fun h => (congrArg StoPair.offCause own).trans (causeSs1 h),
      fun q hq => ((found q).trans (if_neg hq)).trans (others q hq), mem⟩
  case noTimer =>
    have stays : tHw p (s.at t) = s.at t := by
      unfold tHw
      rw [hnone]
    exact (event_of (decide_eq_true hp) t _ s).trans (congrArg _ stays)
  case envelope =>
    have wf₁ : Tab.wf {} ((s.at t).modPairSto p fun k => { k with checks := (pairOf (s.at t) p).checks + 1 }).isl.pairs :=
      upd_wf p (fun k : StoPair => { k with checks := (pairOf (s.at t) p).checks + 1 }) hwf
    obtain ⟨state, stoA, stoB, cause, counter, safe, others, mem⟩ := endSs1_envelope wf₁ hcount p (u :=
      ((s.at t).modPairSto p fun k => { k with checks := (pairOf (s.at t) p).checks + 1 }).endSs1 p true) rfl
    exact ⟨_, (event_of (decide_eq_true hp) t _ s).trans (congrArg _ (ss1Check_envelope hready hss1 hmode hdue hwf hfast)), state, stoA, stoB, cause,
      counter, safe, fun q hq => (others q hq).trans ((pairOf_modPairSto hwf q).trans (if_neg hq)), mem⟩
  case ss1Ends =>
    exact ⟨_, (event_of (decide_eq_true hp) t _ s).trans (congrArg _ (tSs1Max_eq hready hss1 hmode hover)), endSs1_spec hwf p rfl⟩
  case noSs1 =>
    exact ⟨(event_of (decide_eq_true hp) t _ s).trans (congrArg _ (ss1Check_idle hno)),
      (event_of (decide_eq_true hp) t _ s).trans (congrArg _ (if_neg fun h => hno h.2.1))⟩
  case noHeartbeat =>
    exact (event_of rfl t (heartbeatLost pulse) s).trans (congrArg _ ((heartbeatLost_eq hrole pulse).trans (if_pos (Or.inr (Or.inl hact)))))
  case heartbeat =>
    have late : (match (s.at t).isl.hbAt with | some t' => islandElapsed (s.at t) t' (s.at t).isl.hbTimeoutUs | none => true) = true := by
      split
      next h heq => exact hlate h heq
      next => rfl
    have any : (List.range 8).any (pairLive (s.at t)) = true := List.any_eq_true.mpr ⟨p, List.mem_range.mpr hp, hlive⟩
    have body : heartbeatLost pulse (s.at t) = (((s.at t).modIsl fun u => { u with hbLost := true }).islandCount 5).islandStop 0xFF 4 true := by
      rw [heartbeatLost_eq hrole pulse, if_neg (by rw [late, any, hready, hact, hnew]; simp), hact]
      rfl
    exact ⟨_, (event_of rfl t (heartbeatLost pulse) s).trans (congrArg _ body), heartbeatLost_spec hwf hcount hready hp hlive rfl⟩
  case switchBad =>
    obtain ⟨fault, low, mem⟩ := islandFault_spec hwf hsound
    exact ⟨_, (event_of rfl t (switchWordRead a b) s).trans (congrArg _ (switchWordRead_bad hpow hstart hsound hbad)), fault, rfl, rfl, low, mem⟩
  case switchGood =>
    exact ⟨_, (event_of rfl t (switchWordRead a a) s).trans (congrArg _ (switchWordRead_good hpow hstart hsound hsame)), rfl, rfl, rfl, rfl⟩
  case readbackGood =>
    have body : stoReadback true (s.at t) = (s.at t).islandRetry := if_neg (by rw [hpow]; decide)
    obtain ⟨isl, dev⟩ := islandRetry_spec (s.at t)
    refine ⟨_, (event_of (decide_eq_true hpin) t _ s).trans (congrArg _ body), ?_⟩
    rw [isl, dev]
    exact ⟨(look_islandCount hcount 2 2).trans (if_pos rfl), rfl, rfl, rfl⟩
  case readbackBad =>
    exact ⟨_, (event_of (decide_eq_true hpin) t (stoReadback false) s).trans (congrArg _ (if_neg (by rw [hpow]; decide))), islandFault_spec hwf hsound⟩
  case frequency => exact ⟨_, (event_of rfl t frequencyMonitor s).trans (congrArg _ (if_pos hpow)), islandFault_spec hwf hsound⟩
  case noCheck => exact (event_of rfl t (islandInternalCheck 0) s).trans (congrArg _ (if_pos (Or.inr rfl)))
  case checkOnce =>
    have body : islandInternalCheck 1 (s.at t) = (s.at t).islandRetry := if_neg (by rw [hpow]; simp)
    obtain ⟨isl, dev⟩ := islandRetry_spec (s.at t)
    refine ⟨_, (event_of rfl t (islandInternalCheck 1) s).trans (congrArg _ body), ?_⟩
    rw [isl, dev]
    exact ⟨(look_islandCount hcount 2 2).trans (if_pos rfl), rfl, rfl, rfl⟩
  case checkFails =>
    have body : islandInternalCheck n (s.at t) = (s.at t).islandFault :=
      (if_neg (by rw [hpow]; simp; omega)).trans (if_neg (by omega))
    exact ⟨_, (event_of rfl t (islandInternalCheck n) s).trans (congrArg _ body), islandFault_spec hwf hsound⟩
  case noOutTest => exact (event_of (decide_eq_true ho) t _ s).trans (congrArg _ (if_pos (Or.inl hno)))
  case outEarly => exact (event_of (decide_eq_true ho) t _ s).trans (congrArg _ (outputTestPulse_early htest hearly hhigh))
  case outDeferred =>
    exact ⟨_, (event_of (decide_eq_true ho) t _ s).trans (congrArg _ (outputTestPulse_aborted hready hsound htest hfun hdue)),
      deferTest_output (s := outWindowed o (s.at t)) hcount hdef o rfl⟩
  case outFirst =>
    have good : outputTestPulse o true false (s.at t) = s.at t := by
      rw [outputTestPulse_low hready hlow hsound, hpassed]
      rfl
    have bad : outputTestPulse o false false (s.at t) = (s.at t).modIsl fun u => { u with outFailed := setBit u.outFailed o true } := by
      rw [outputTestPulse_low hready hlow hsound, hpassed]
      rfl
    exact ⟨(event_of (decide_eq_true ho) t _ s).trans (congrArg _ good), _, (event_of (decide_eq_true ho) t _ s).trans (congrArg _ bad),
      (bit_setBit _ _ _ _).trans (if_pos rfl), rfl, rfl, rfl⟩
  case outFault =>
    have bad : outputTestPulse o false false (s.at t) = (s.at t).outputFault o := by
      rw [outputTestPulse_low hready hlow hsound, hfailed]
      rfl
    exact ⟨_, (event_of (decide_eq_true ho) t _ s).trans (congrArg _ bad), outputFault_spec hwf hcount rfl⟩
  case noDelay => exact (event_of (decide_eq_true ho) t _ s).trans (congrArg _ (if_neg fun h => Bool.false_ne_true (hno.symm.trans h.1)))
  case delay =>
    have released : bit (setBit (s.at t).isl.sbcHeld o false) o = false := (bit_setBit _ _ _ _).trans (if_pos rfl)
    exact ⟨_, (event_of (decide_eq_true ho) t _ s).trans (congrArg _ (if_pos ⟨hheld, hoff, hover⟩)), released,
      fun hfun => outCommanded_released (s := (s.at t).modIsl fun u => { u with sbcHeld := setBit u.sbcHeld o false }) hoff released hfun, rfl, rfl⟩
  case noStart => exact (event_of rfl t islandStart s).trans (congrArg _ (if_pos hpow))
  case start =>
    refine ⟨_, (event_of rfl t islandStart s).trans (congrArg _ (if_neg (by rw [hpow]; decide))), rfl, rfl, rfl, rfl, fun x => ?_, rfl⟩
    refine List.mem_filter.trans ?_
    rw [decide_eq_true_eq]
  case selfTest =>
    refine ⟨_, (event_of rfl t (selfTestDone a a) s).trans (congrArg _ ((selfTestDone_eq hpow hstart).trans (if_neg (not_not.mpr rfl)))), ?_⟩
    change (selfTested _ _ _).swA = _ ∧ (selfTested _ _ _).state = _ ∧ (selfTested _ _ _).pairs = _ ∧ (selfTested _ _ _).params = _ ∧ _
    unfold selfTested
    split <;> exact ⟨rfl, rfl, rfl, rfl, rfl⟩
  case selfTestBad =>
    obtain ⟨wf, sound⟩ := selfTested_wf (a := a % 65536) (b := b % 65536) hwf
    exact ⟨_, (event_of rfl t (selfTestDone a b) s).trans (congrArg _ ((selfTestDone_eq hpow hstart).trans (if_pos hbad))),
      islandFault_spec (s := (s.at t).modIsl (selfTested (a % 65536) (b % 65536))) wf sound⟩
  case noSelfTest => exact (event_of rfl t (selfTestDone a b) s).trans (congrArg _ (if_pos (Or.inl (by rw [hpow]; rfl))))

end Sys2Proof.Machine
end
section
/-! The events of the CAN controllers (12 R435–R449). -/

namespace Sys2Proof.Machine

section Buses

variable {s t u : State} {c b : Nat} {k : CanCtrl}

/-- `t` is `s` with controller `c` as `k`; the device, the memory and the other controllers are as they were. -/
structure CtrlSet (c : Nat) (k : CanCtrl) (s t : State) : Prop where
  dev : t.dev = s.dev
  mem : t.mem = s.mem
  wf : Tab.wf {} t.can.ctrls
  own : canOf t c = k
  others : ∀ d, d ≠ c → canOf t d = canOf s d

namespace CtrlSet

theorem refl (hwf : Tab.wf {} s.can.ctrls) : CtrlSet c (canOf s c) s s := ⟨rfl, rfl, hwf, rfl, fun _ _ => rfl⟩

/-- What comes after leaves the controllers alone. -/
theorem then_same (h : CtrlSet c k s t) (hcan : u.can = t.can) (hdev : u.dev = t.dev) (hmem : u.mem = t.mem) : CtrlSet c k s u := by
  have same (d : Nat) : canOf u d = canOf t d := by
    unfold canOf
    rw [hcan]
  exact ⟨hdev.trans h.dev, hmem.trans h.mem, by rw [hcan]; exact h.wf, (same c).trans h.own, fun d hd => (same d).trans (h.others d hd)⟩

theorem modCtrl (h : CtrlSet c k s t) (f : CanCtrl → CanCtrl) : CtrlSet c (f k) s (t.modCtrl c f) :=
  ⟨h.dev, h.mem, modCtrl_wf h.wf, by rw [canOf_modCtrl h.wf, if_pos rfl, h.own],
    fun d hd => by rw [canOf_modCtrl h.wf, if_neg hd, h.others d hd]⟩

theorem modBuf (h : CtrlSet c k s t) (b : Nat) (f : CanBuf → CanBuf) : CtrlSet c { k with bufs := upd {} k.bufs b f } s (t.modBuf c b f) :=
  h.modCtrl fun k => { k with bufs := upd {} k.bufs b f }

theorem recordOpen (h : CtrlSet c k s t) (unit ev sev : Nat) (transient : Bool) : CtrlSet c k s (t.recordOpen unit ev sev transient) := by
  obtain ⟨n, y, recorded⟩ := t.recordOpen_eq unit ev sev transient
  rw [recorded]
  exact h.then_same rfl rfl rfl

theorem sendVector (h : CtrlSet c k s t) (v : Nat) : CtrlSet c k s (t.sendVector v) := by
  obtain ⟨q, o, sent⟩ := t.sendVector_eq v
  rw [sent]
  exact h.then_same rfl rfl rfl

theorem replied (h : CtrlSet c k s t) (hr : t.Replied u) : CtrlSet c k s u := h.then_same hr.can hr.dev hr.mem

theorem settleCancel (h : CtrlSet c k s t) (b : Nat) : CtrlSet c k s (t.settleCancel c b) := h.replied (State.settle_replied t _ _)

theorem buf (h : CtrlSet c k s t) (b : Nat) : canBuf t c b = look {} k.bufs b := by rw [canBuf, h.own]

/-- R437: a frame in a high-priority buffer is shown and sends its vector. -/
theorem frameIn (h : CtrlSet c k s t) (b : Nat) : ∃ hp, CtrlSet c { k with hpPending := hp } s (t.frameIn c b) := by
  unfold State.frameIn
  dsimp only
  split
  · exact ⟨k.hpPending, h⟩
  · have shown := h.modCtrl fun u => { u with hpPending := setBit u.hpPending b true }
    split
    · exact ⟨_, shown.sendVector _⟩
    · exact ⟨_, shown⟩

/-- R442: below the limits an error-active controller stays so. -/
theorem confine_active (h : CtrlSet c k s t) (hstate : k.state = .errorActive) (htec : k.tec < 128) (hrec : k.recCount < 128) :
    CtrlSet c k s (t.confine c) := by
  have body : t.confine c = t.modCtrl c fun k => { k with state := .errorActive } := by
    unfold State.confine
    dsimp only
    rw [h.own, if_neg (by rw [hstate]; simp), if_neg (by omega), if_neg (by omega)]
  have same : { k with state := .errorActive } = k := by rw [← hstate]
  rw [body]
  exact same ▸ h.modCtrl fun k => { k with state := .errorActive }

/-- R442: an error-active controller that has come to 128 is error-passive. -/
theorem confine_passive (h : CtrlSet c k s t) (hstate : k.state = .errorActive) (htec : k.tec < 256) (hlimit : 128 ≤ k.tec ∨ 128 ≤ k.recCount) :
    CtrlSet c { k with state := .errorPassive } s (t.confine c) := by
  have body : t.confine c = (t.modCtrl c fun k => { k with state := .errorPassive }).recordOpen 10 10 0 := by
    unfold State.confine
    dsimp only
    rw [h.own, if_neg (by rw [hstate]; simp), if_neg (by omega), if_pos hlimit, if_neg (by rw [hstate]; simp)]
  rw [body]
  exact (h.modCtrl fun k => { k with state := .errorPassive }).recordOpen 10 10 0 false

theorem endCancels (h : CtrlSet c k s t) : ∃ m, CtrlSet c { k with bufs := m } s (t.endCancels c) := by
  have each : ∀ (l : List Nat) (t : State) (m : Tab CanBuf), CtrlSet c { k with bufs := m } s t → ∃ m, CtrlSet c { k with bufs := m } s (l.foldl
      (fun s b => if (canBuf s c b).cancelling then
        (s.modBuf c b fun k => { k with state := .cancelled, cancelling := false }).settleCancel c b else s) t) := by
    intro l
    induction l with
    | nil => exact fun t m h => ⟨m, h⟩
    | cons b l ih =>
      intro t m h
      rw [List.foldl_cons]
      by_cases hc : (canBuf t c b).cancelling = true
      · rw [if_pos hc]
        exact ih _ _ ((h.modBuf b fun k => { k with state := .cancelled, cancelling := false }).settleCancel b)
      · rw [if_neg hc]
        exact ih t m h
  exact each (List.range 128) t k.bufs h

/-- R445: a controller leaves the bus. -/
def offBus (k : CanCtrl) : CanCtrl :=
  { k with
    state := if k.autoRecover then .recovering else .busOff, busoffCount := sat32 k.busoffCount
    bufs := if k.abortOnBusoff then k.bufs.map fun e => (e.1, if e.2.state = .pending then { e.2 with state := .failed } else e.2) else k.bufs }

/-- R445: an error-active controller that has come to 256 leaves the bus. -/
theorem confine_off (h : CtrlSet c k s t) (hstate : k.state = .errorActive) (htec : 256 ≤ k.tec) :
    ∃ m, CtrlSet c (offBus { k with bufs := m }) s (t.confine c) := by
  obtain ⟨m, ended⟩ := h.endCancels
  have body : t.confine c = ((t.endCancels c).modCtrl c offBus).recordOpen 10 11 1 := by
    unfold State.confine
    dsimp only
    rw [h.own]
    exact (if_neg (by rw [hstate]; simp)).trans (if_pos htec)
  rw [body]
  exact ⟨m, (ended.modCtrl offBus).recordOpen 10 11 1 false⟩

end CtrlSet

/-! Where a frame goes (R435). -/

/-- Filter `i` is the first that accepts the frame. -/
theorem firstFilter {f : CanFrame} {i : Nat} {flt : Tab CanFilter} (hi : i < 64) (hrtr : f.rtr = false)
    (hbefore : ∀ j, j < i → (look {} flt j).enable = false) (hon : (look {} flt i).enable = true)
    (hid : idMatches f (look {} flt i).id (look {} flt i).mask (look {} flt i).ide = true) :
    ((List.range 64).find? fun j => (look {} flt j).enable && (!f.rtr || (look {} flt j).rtrAccept) &&
      idMatches f (look {} flt j).id (look {} flt j).mask (look {} flt j).ide) = some i := by
  rw [List.find?_range_eq_some]
  refine ⟨by rw [hon, hrtr, hid]; rfl, List.mem_range.mpr hi, fun j hj => ?_⟩
  rw [hbefore j hj]
  rfl

theorem noFilter {f : CanFrame} {flt : Tab CanFilter} (hnone : ∀ j, j < 64 → (look {} flt j).enable = false) :
    ((List.range 64).find? fun j => (look {} flt j).enable && (!f.rtr || (look {} flt j).rtrAccept) &&
      idMatches f (look {} flt j).id (look {} flt j).mask (look {} flt j).ide) = none := by
  rw [List.find?_eq_none]
  intro j hj
  rw [hnone j (List.mem_range.mp hj)]
  exact Bool.false_ne_true

/-- Buffer `b` is the first EMPTY one of the range. -/
theorem firstEmpty {p : Nat → Bool} {first last : Nat} (hfirst : first ≤ b) (hlast : b ≤ last) (hempty : p b = true)
    (hfull : ∀ e, first ≤ e → e < b → p e = false) : ((List.range (last + 1 - first)).map (first + ·)).find? p = some b := by
  obtain ⟨j, rfl⟩ : ∃ j, b = first + j := ⟨b - first, by omega⟩
  rw [List.find?_map]
  have found : (List.range (last + 1 - first)).find? (p ∘ (first + ·)) = some j := by
    rw [List.find?_range_eq_some]
    refine ⟨hempty, List.mem_range.mpr (by omega), fun i hi => ?_⟩
    rw [Function.comp_apply, hfull (first + i) (Nat.le_add_right _ _) (by omega)]
    rfl
  rw [found]
  rfl

theorem noPriority {f : CanFrame} (hhp : ∀ h, h < 4 → (canBuf s c h).kind ≠ 1) : ((List.range 4).find? fun b =>
    (canBuf s c b).kind == 1 && !f.rtr && idMatches f (canBuf s c b).matchId (canBuf s c b).mask (canBuf s c b).ide) = none := by
  rw [List.find?_eq_none]
  intro h hh
  rw [beq_false_of_ne (hhp h (List.mem_range.mp hh))]
  exact Bool.false_ne_true

/-- The controller on which a frame comes in. -/
structure Receiving (s : State) (c : Nat) : Prop where
  active : (canOf s c).state = .errorActive
  bus : onBus s c = true
  rec_zero : (canOf s c).recCount = 0
  tec_low : (canOf s c).tec < 128
  quiet : ∀ h, h < 4 → (canBuf s c h).kind ≠ 1

/-- R442: a good reception leaves a controller without errors as it is. -/
theorem canRxFrame_eq {f : CanFrame} (hwf : Tab.wf {} s.can.ctrls) (h : Receiving s c) (hfd : f.fdf = true → (canOf s c).fd = true) (sof : Nat) :
    ∃ t, CtrlSet c (canOf s c) s t ∧ canRxFrame c f sof s = t.receiveCan c (canCounter s c sof) sof f := by
  have passes : (!onBus s c || (f.fdf && !(canOf s c).fd)) = false := by
    rw [h.bus]
    cases hf : f.fdf with
    | false => rfl
    | true =>
      rw [hfd hf]
      rfl
  have good : s.goodReception c = s := if_pos h.rec_zero
  have calm := (CtrlSet.refl (c := c) hwf).confine_active h.active h.tec_low (by rw [h.rec_zero]; decide)
  have counter : canCounter (s.confine c) c sof = canCounter s c sof := by
    have body : s.confine c = s.modCtrl c fun k => { k with state := .errorActive } := by
      unfold State.confine
      dsimp only
      rw [if_neg (by rw [h.active]; simp), if_neg (by have := h.tec_low; omega), if_neg (by have := h.tec_low; have := h.rec_zero; omega)]
    unfold canCounter
    rw [calm.own, body]
    rfl
  unfold canRxFrame
  rw [passes, if_neg Bool.false_ne_true]
  by_cases hl : (canOf s c).listen = true
  · exact ⟨s, CtrlSet.refl hwf, by dsimp only; rw [if_pos hl]⟩
  · refine ⟨s.confine c, calm, ?_⟩
    dsimp only
    rw [if_neg hl, good, counter]

/-- R436: a frame enters a buffer that nobody has locked. -/
theorem CtrlSet.placeFrame {f : CanFrame} (h : CtrlSet c k s t) (hfree : (look {} k.bufs b).locked = false) (stamp sof filter : Nat) :
    ∃ hp, CtrlSet c { k with hpPending := hp, rxFrames := sat32 k.rxFrames, bufs := upd {} k.bufs b fun q =>
      { (q.fill f stamp sof filter) with overrun := false || q.overrun } } s (t.placeFrame c b stamp sof filter f false) := by
  have free : (canBuf t c b).locked = false := by rw [h.buf, hfree]
  obtain ⟨hp, entered⟩ := ((h.modCtrl fun u => { u with rxFrames := sat32 u.rxFrames }).modBuf b fun q =>
    { (q.fill f stamp sof filter) with overrun := false || q.overrun }).frameIn b
  refine ⟨hp, ?_⟩
  unfold State.placeFrame
  dsimp only
  rw [free]
  exact entered

theorem fill_idWord {f : CanFrame} (hrtr : f.rtr = false) (q : CanBuf) (stamp sof filter : Nat) :
    (q.fill f stamp sof filter).idWord = f.id % 2 ^ 29 + place 29 (flag f.ide) := by
  unfold CanBuf.fill
  dsimp only
  rw [hrtr, show place 30 (flag false) = 0 from rfl, Nat.add_zero]

/-- R439, R441: a buffer whose frame was acknowledged. -/
def sentIn (stamp : Nat) (passive : Bool) (q : CanBuf) : CanBuf :=
  { q with
    stamp := stamp, cancelling := false, state := if q.cancelling then .sentDespite else .sent, frame := setBit q.frame 6 (passive && bit q.frame 4) }

/-- R442, R443: the controller counts a frame that was acknowledged. -/
def sendCounted (measured : Bool) (tdc : Nat) (k : CanCtrl) : CanCtrl :=
  { k with
    tec := k.tec - 1, txFrames := sat32 k.txFrames, noAck := false, ackMisses := 0, tdcMeas := if measured then tdc % 256 else k.tdcMeas }

theorem canTxComplete_eq (hbus : onBus s c = true) (hlisten : (canOf s c).listen = false) (hpend : (canBuf s c b).state = .pending) (sof tdc : Nat) :
    canTxComplete c b sof tdc s = (((s.modBuf c b (sentIn (canCounter s c sof) ((canOf s c).state == .errorPassive))).modCtrl c
      (sendCounted (bit (canOf s c).cfg2 18 && bit (canBuf s c b).frame 5) tdc)).confine c).settleCancel c b := by
  refine if_neg ?_
  rw [hbus, hlisten, hpend]
  decide

/-- R436: a lock has ended. -/
def unlocked (q : CanBuf) : CanBuf := { q with locked := false, overrun := false, store := none }

/-- R436: a lock that ends with nothing in the pending store frees the buffer, and one with a frame there takes it. -/
theorem CtrlSet.unlockBuf_none (h : CtrlSet c k s t) (hnone : (look {} k.bufs b).store = none) :
    CtrlSet c { k with bufs := upd {} (upd {} k.bufs b unlocked) b fun q => { q with state := .empty } } s (t.unlockBuf c b) := by
  unfold State.unlockBuf
  rw [h.buf, hnone]
  exact (h.modBuf b unlocked).modBuf b fun q => { q with state := .empty }

theorem CtrlSet.unlockBuf_some {f : CanFrame} {stamp sof filter : Nat} (h : CtrlSet c k s t)
    (hstore : (look {} k.bufs b).store = some (f, stamp, sof, filter)) : ∃ hp,
    CtrlSet c { k with hpPending := hp, bufs := upd {} (upd {} k.bufs b unlocked) b fun q => q.fill f stamp sof filter } s (t.unlockBuf c b) := by
  unfold State.unlockBuf
  rw [h.buf, hstore]
  exact ((h.modBuf b unlocked).modBuf b fun q => q.fill f stamp sof filter).frameIn b

/-- An entry changed twice. -/
theorem look_upd_upd {α : Type} [DecidableEq α] {d : α} {m : Tab α} (hwf : Tab.wf d m) (b : Nat) (f g : α → α) (e : Nat) :
    look d (upd d (upd d m b f) b g) e = if e = b then g (f (look d m e)) else look d m e := by
  rw [look_upd g b e (upd_wf b f hwf), look_upd f b e hwf]
  split <;> rfl

end Buses

/-- Settles O51: each event leaves its controller as `CtrlSet` says, confined by `confine_active`, `confine_passive` or `confine_off`. -/
theorem canRuns : Obligations.CanRuns := by
  intro c t s u hu hc hwf hbufs
  subst hu
  have hc8 : c < 8 := by
    unfold canControllers at hc
    split at hc <;> omega
  have both (b : Nat) (hb : b < 128) : (decide (c < canControllers s) && decide (b < 128)) = true := by
    rw [Bool.and_eq_true, decide_eq_true_iff, decide_eq_true_iff]
    exact ⟨hc, hb⟩
  have both8 (b : Nat) (hb : b < 128) : (decide (c < 8) && decide (b < 128)) = true := by
    rw [decide_eq_true hc8, decide_eq_true hb]
    rfl
  refine ⟨fun f sof hoff => ?rxOff, fun f sof i b hact hbus hrec htec hfd hrtr hhp hi hbefore hon hid hfirst hlast hempty hfree hfull => ?rx,
    fun f sof hact hbus hrec htec hfd hhp hnone => ?unmatched, fun b sof tdc hb hno => ?noTx,
    fun b sof tdc hb hact hbus hlisten htec hrec hpend => ?tx, fun e hbus hlisten => ?listens, fun hact hbus hlisten htec hrec => ?recError,
    fun hact hbus hlisten hrec => ?tecError, fun b hb hwait hdue => ?due, fun b hb hnot => ?notDue, fun hrecov => ?recovered, fun hno => ?notRecovering,
    fun hint hawake => ?integrated, fun hno => ?notIntegrating, fun mask => ?hpClear, fun b hb hfull hfree => ?lock, fun b hb hno => ?noLock,
    fun b hb hlocked hnone => ?release, fun b f stamp sof filter hb hlocked hstore => ?releaseStore, fun b hb hlocked hnone hover => ?lockOver,
    fun b hb hfree => ?noTimeout⟩
  case rxOff =>
    exact (event_of (decide_eq_true hc) t _ s).trans (congrArg _ (if_pos (by rw [hoff]; rfl)))
  case rx =>
    obtain ⟨v, calm, body⟩ := canRxFrame_eq (f := f) hwf ⟨hact, hbus, hrec, htec, hhp⟩ hfd sof
    have goes : v.receiveCan c (canCounter (s.at t) c sof) sof f = v.placeFrame c b (canCounter (s.at t) c sof) sof i f false := by
      have quiet : ∀ h, h < 4 → (canBuf v c h).kind ≠ 1 := fun h hh => by rw [calm.buf]; exact hhp h hh
      unfold State.receiveCan
      dsimp only
      rw [noPriority quiet]
      dsimp only
      rw [calm.own, firstFilter hi hrtr hbefore hon hid]
      dsimp only
      rw [firstEmpty (p := fun e => (canBuf v c e).state == .empty) hfirst hlast (by rw [calm.buf]; exact beq_iff_eq.mpr hempty)
        fun e h1 h2 => by rw [calm.buf]; exact beq_false_of_ne (hfull e h1 h2)]
    obtain ⟨hp, placed⟩ := calm.placeFrame (f := f) (b := b) hfree (canCounter (s.at t) c sof) sof i
    have buf (e : Nat) := (placed.buf e).trans (look_upd (fun q : CanBuf =>
      { (q.fill f (canCounter (s.at t) c sof) sof i) with overrun := false || q.overrun }) b e hbufs)
    refine ⟨_, (event_of (decide_eq_true hc) t _ s).trans (congrArg _ (body.trans goes)), ?_⟩
    rw [buf b, if_pos rfl]
    refine ⟨rfl, rfl, rfl, ?_, rfl, fun e he => (buf e).trans (if_neg he), (congrArg CanCtrl.rxFrames placed.own :), placed.others, placed.dev, placed.mem⟩
    exact fill_idWord hrtr _ _ _ _
  case unmatched =>
    obtain ⟨v, calm, body⟩ := canRxFrame_eq (f := f) hwf ⟨hact, hbus, hrec, htec, hhp⟩ hfd sof
    have goes : v.receiveCan c (canCounter (s.at t) c sof) sof f = v.modCtrl c fun u => { u with unmatched := sat32 u.unmatched } := by
      have quiet : ∀ h, h < 4 → (canBuf v c h).kind ≠ 1 := fun h hh => by rw [calm.buf]; exact hhp h hh
      unfold State.receiveCan
      dsimp only
      rw [noPriority quiet]
      dsimp only
      rw [calm.own, noFilter hnone]
    have counted := calm.modCtrl fun u => { u with unmatched := sat32 u.unmatched }
    exact ⟨_, (event_of (decide_eq_true hc) t _ s).trans (congrArg _ (body.trans goes)), (congrArg CanCtrl.unmatched counted.own :),
      (congrArg CanCtrl.bufs counted.own :), counted.dev, counted.mem⟩
  case noTx =>
    refine (event_of (both b hb) t _ s).trans (congrArg _ (if_pos ?_))
    rw [decide_eq_true hno, Bool.or_true]
  case tx =>
    have done := ((((CtrlSet.refl (c := c) hwf).modBuf b (sentIn (canCounter (s.at t) c sof) ((canOf (s.at t) c).state == .errorPassive))).modCtrl
      (sendCounted (bit (canOf (s.at t) c).cfg2 18 && bit (canBuf (s.at t) c b).frame 5) tdc)).confine_active hact
      (Nat.lt_of_le_of_lt (Nat.sub_le _ _) htec) hrec).settleCancel b
    have buf (e : Nat) := (done.buf e).trans (look_upd (sentIn (canCounter (s.at t) c sof) ((canOf (s.at t) c).state == .errorPassive)) b e hbufs)
    refine ⟨_, (event_of (both b hb) t _ s).trans (congrArg _ (canTxComplete_eq hbus hlisten hpend sof tdc)), ?_⟩
    rw [buf b, if_pos rfl]
    exact ⟨rfl, rfl, (congrArg CanCtrl.tec done.own :), (congrArg CanCtrl.txFrames done.own :), (congrArg CanCtrl.noAck done.own :),
      fun e he => (buf e).trans (if_neg he), done.others, done.dev, done.mem⟩
  case listens =>
    exact (event_of (decide_eq_true hc) t _ s).trans (congrArg _ ((if_neg (by rw [hbus]; decide)).trans (if_pos hlisten)))
  case recError =>
    have counted := ((CtrlSet.refl (c := c) hwf).modCtrl fun k => { k with recCount := k.recCount + 1 }).confine_active hact htec (Nat.succ_lt_succ hrec)
    exact ⟨_, (event_of (decide_eq_true hc) t _ s).trans (congrArg _ ((if_neg (by rw [hbus]; decide)).trans (if_neg (by rw [hlisten]; decide)))),
      (congrArg CanCtrl.recCount counted.own :), (congrArg CanCtrl.tec counted.own :), (congrArg CanCtrl.state counted.own :).trans hact,
      (congrArg CanCtrl.bufs counted.own :), counted.dev, counted.mem⟩
  case tecError =>
    have counted := (CtrlSet.refl (c := c) hwf).modCtrl fun k => { k with tec := k.tec + 8 }
    refine ⟨_, (event_of (decide_eq_true hc) t _ s).trans (congrArg _ ((if_neg (by rw [hbus]; decide)).trans (if_neg (by rw [hlisten]; decide)))), ?_⟩
    by_cases hlow : (canOf (s.at t) c).tec + 8 < 128
    · have done := counted.confine_active hact hlow hrec
      rw [if_pos hlow]
      exact ⟨(congrArg CanCtrl.tec done.own :), (congrArg CanCtrl.state done.own :).trans hact, (congrArg CanCtrl.recCount done.own :), done.dev, done.mem⟩
    rw [if_neg hlow]
    by_cases hmid : (canOf (s.at t) c).tec + 8 < 256
    · have done := counted.confine_passive hact hmid (Or.inl (Nat.le_of_not_lt hlow))
      rw [if_pos hmid]
      exact ⟨(congrArg CanCtrl.tec done.own :), (congrArg CanCtrl.state done.own :), (congrArg CanCtrl.recCount done.own :), done.dev, done.mem⟩
    · obtain ⟨m, done⟩ := counted.confine_off hact (Nat.le_of_not_lt hmid)
      rw [if_neg hmid]
      exact ⟨(congrArg CanCtrl.tec done.own :), (congrArg CanCtrl.state done.own :), (congrArg CanCtrl.recCount done.own :), done.dev, done.mem⟩
  case due =>
    refine ⟨_, (event_of (both b hb) t (txTime c b) s).trans (congrArg _ (if_pos ⟨hwait, hdue⟩)), ?_, fun e he => ?_,
      rfl, rfl⟩
    · rw [canBuf_modBuf hwf hbufs, if_pos rfl]
    · rw [canBuf_modBuf hwf hbufs, if_neg he]
  case notDue =>
    exact (event_of (both b hb) t _ s).trans
      (congrArg _ (if_neg fun h => Bool.false_ne_true (hnot.symm.trans h.2)))
  case recovered =>
    have done := (CtrlSet.refl (c := c) hwf).modCtrl fun k => { k with state := .errorActive, tec := 0, recCount := 0 }
    exact ⟨_, (event_of (decide_eq_true hc) t (recovering c) s).trans (congrArg _ (if_pos hrecov)), (congrArg CanCtrl.state done.own :),
      (congrArg CanCtrl.tec done.own :), (congrArg CanCtrl.recCount done.own :), (congrArg CanCtrl.bufs done.own :), done.others, rfl⟩
  case notRecovering => exact (event_of (decide_eq_true hc) t _ s).trans (congrArg _ (if_neg hno))
  case integrated =>
    have done := (CtrlSet.refl (c := c) hwf).modCtrl fun k => { k with state := .errorActive, tec := 0, recCount := 0 }
    exact ⟨_, (event_of (decide_eq_true hc) t (canIntegration c) s).trans (congrArg _ (if_pos ⟨hint, hawake⟩)), (congrArg CanCtrl.state done.own :),
      (congrArg CanCtrl.tec done.own :), (congrArg CanCtrl.recCount done.own :), (congrArg CanCtrl.bufs done.own :), rfl⟩
  case notIntegrating => exact (event_of (decide_eq_true hc) t _ s).trans (congrArg _ (if_neg fun h => hno h.1))
  case hpClear =>
    have done := (CtrlSet.refl (c := c) hwf).modCtrl fun k => { k with hpPending := maskOf ((bitsOf 4 k.hpPending).filter fun i => !bit mask i) }
    refine ⟨_, (event_of (decide_eq_true hc8) t (hpPendingClear c mask) s).trans (congrArg _ (if_neg (Nat.not_le.mpr hc))), fun h hh => ?_,
      (congrArg CanCtrl.bufs done.own :), done.others, rfl⟩
    rw [done.own, bit_maskOf, Bool.eq_iff_iff, decide_eq_true_iff, List.mem_filter, mem_bitsOf_iff, Bool.and_eq_true]
    exact ⟨fun h => ⟨h.1.2, h.2⟩, fun h => ⟨⟨hh, h.1⟩, h.2⟩⟩
  case lock =>
    have body : bufferLock c b (s.at t) = ((s.at t).emit (.completion (canBuf (s.at t) c b).idWord)).modBuf c b fun k =>
        { k with locked := true, lockedAt := (s.at t).now } :=
      (if_neg (Nat.not_le.mpr hc)).trans (if_pos ⟨hfull, Bool.eq_false_iff.mp hfree⟩)
    have buf (e : Nat) := canBuf_modBuf (s := (s.at t).emit (.completion (canBuf (s.at t) c b).idWord)) (b := b)
      (f := fun k => { k with locked := true, lockedAt := (s.at t).now }) hwf hbufs e
    refine ⟨_, (event_of (both8 b hb) t _ s).trans (congrArg _ body), ?_⟩
    rw [buf b, if_pos rfl]
    exact ⟨rfl, rfl, hfull, rfl, fun e he => (buf e).trans (if_neg he), rfl⟩
  case noLock =>
    exact (event_of (both8 b hb) t _ s).trans (congrArg _ ((if_neg (Nat.not_le.mpr hc)).trans (if_neg fun h => hno h.1)))
  case release =>
    have freed := (CtrlSet.refl (c := c) (s := (s.at t).emit (.completion (bufWord (canBuf (s.at t) c b) (lastWord (canBuf (s.at t) c b))))) hwf
      ).unlockBuf_none hnone
    have buf (e : Nat) := (freed.buf e).trans (look_upd_upd hbufs b unlocked (fun q : CanBuf => { q with state := .empty }) e)
    refine ⟨_, (event_of (both8 b hb) t _ s).trans (congrArg _ ((if_neg (Nat.not_le.mpr hc)).trans (if_pos hlocked))), ?_⟩
    rw [buf b, if_pos rfl]
    exact ⟨rfl, rfl, rfl, fun e he => (buf e).trans (if_neg he), freed.dev⟩
  case releaseStore =>
    obtain ⟨hp, freed⟩ := (CtrlSet.refl (c := c) (s := (s.at t).emit (.completion (bufWord (canBuf (s.at t) c b) (lastWord (canBuf (s.at t) c b))))) hwf
      ).unlockBuf_some hstore
    have buf := ((freed.buf b).trans (look_upd_upd hbufs b unlocked (fun q : CanBuf => q.fill f stamp sof filter) b)).trans (if_pos rfl)
    refine ⟨_, (event_of (both8 b hb) t _ s).trans (congrArg _ ((if_neg (Nat.not_le.mpr hc)).trans (if_pos hlocked))), ?_⟩
    rw [buf]
    exact ⟨rfl, rfl, rfl, rfl, freed.dev⟩
  case lockOver =>
    have done := (((CtrlSet.refl (c := c) hwf).modBuf b fun k => { k with locked := false }).modCtrl fun u =>
      { u with lockTimeouts := sat32 u.lockTimeouts }).recordOpen 10 13 0 false
    have buf (e : Nat) := (done.buf e).trans (look_upd (fun k : CanBuf => { k with locked := false }) b e hbufs)
    have body : lockTimeout c b (s.at t) = (((s.at t).modBuf c b fun k => { k with locked := false }).modCtrl c fun u =>
        { u with lockTimeouts := sat32 u.lockTimeouts }).recordOpen 10 13 0 := by
      unfold lockTimeout
      dsimp only
      rw [if_pos ⟨hlocked, hover⟩, hnone]
      rfl
    refine ⟨_, (event_of (both b hb) t _ s).trans (congrArg _ body), ?_⟩
    rw [buf b, if_pos rfl]
    exact ⟨rfl, rfl, (congrArg CanCtrl.lockTimeouts done.own :), fun e he => (buf e).trans (if_neg he), done.dev⟩
  case noTimeout =>
    exact (event_of (both b hb) t _ s).trans (congrArg _ (if_neg fun h => Bool.false_ne_true (hfree.symm.trans h.1)))

end Sys2Proof.Machine
end
section
/-! What the acquisition engine moves when it closes intervals: itself, and what the delivery of its records moves (09 R321–R341). -/

namespace Sys2Proof.Machine

variable {s t u : State} {c : Nat}

/-- `t` is `s` but for the acquisition engine and what the delivery of its records moves. -/
def Captured (s t : State) : Prop :=
  t = { s with outbox := t.outbox, fresh := t.fresh, host := t.host, mem := t.mem, keep := t.keep, tally := t.tally, acq := t.acq }

namespace Captured

theorem refl (s : State) : Captured s s := rfl

theorem trans (h : Captured s t) (h' : Captured t u) : Captured s u := by
  unfold Captured at h h' ⊢
  rw [h', h]

theorem foldl {α : Type} {f : State → α → State} (hf : ∀ s a, Captured s (f s a)) : ∀ (l : List α) (s : State), Captured s (l.foldl f s)
  | [], s => refl s
  | a :: l, s => (hf s a).trans (foldl hf l (f s a))

theorem of_streamed (h : Streamed s t) : Captured s t := by
  unfold Streamed at h
  unfold Captured
  rw [h]

theorem of_recorded (h : Recorded c s t) : Captured s t := by
  have shape := h.shape
  unfold Streamed at shape
  unfold Captured
  rw [shape]
  rfl

theorem modAcq (s : State) (f : AcqUnit → AcqUnit) : Captured s (s.modAcq f) := rfl

theorem modCap (s : State) (c : Nat) (f : Capture → Capture) : Captured s (s.modCap c f) := rfl

theorem writeWords (s : State) (a : Nat) (ws : List Word) : Captured s (s.writeWords a ws) := of_streamed (Streamed.writeWords s a ws)

theorem noteState (s : State) (c ev time oldTime : Nat) : Captured s (s.noteState c ev time oldTime) := of_recorded (Recorded.noteState s ev time oldTime)

theorem queueRecord (s : State) (c rseq time lengthNs : Nat) (parts : List (List Word)) : Captured s (s.queueRecord c rseq time lengthNs parts) :=
  of_recorded (Recorded.queueRecord s rseq time lengthNs parts)

theorem beginFill (s : State) (c b : Nat) : Captured s (s.beginFill c b) := by
  unfold State.beginFill
  dsimp only
  split
  · exact refl s
  · split
    · exact refl s
    · exact modCap s c _

theorem completeWindow (s : State) (c w : Nat) (win : Window) : Captured s (s.completeWindow c w win) := by
  unfold State.completeWindow
  extract_lets cap rs k total first inBuf head addr todo s₁ s₂
  have written : Captured s s₁ := writeWords s _ _
  exact (written.trans (modCap s₁ c _)).trans (beginFill s₂ c _)

theorem windowRecord (s : State) (c b : Nat) (dma : Dma) (parts : List (List Word)) : Captured s (s.windowRecord c b dma parts) := by
  unfold State.windowRecord
  extract_lets cap
  split
  · exact refl s
  · split
    · exact refl s
    · extract_lets s₁
      have stored : Captured s s₁ := by
        simp only [s₁]
        split
        · have sent : Captured s _ := of_recorded (Recorded.streamRecord (c := c) s (cap.rseqOf b) (b * 1000) (cap.len * 1000) dma parts)
          split
          next v heq =>
            rw [heq] at sent
            exact sent.trans (modCap v c _)
          next v heq =>
            rw [heq] at sent
            exact sent
        · split
          · exact refl s
          · exact writeWords s _ _
      split
      · split
        · exact stored.trans (completeWindow s₁ c _ _)
        · exact stored
      · exact stored

theorem closeInterval (s : State) (c : Nat) (dma : Dma) (cut : Option Nat) : Captured s (s.closeInterval c dma cut) := by
  unfold State.closeInterval
  extract_lets cap b e inside ps evs mask loss parts made s₁ s₂
  have moved : Captured s s₁ := modCap s c _
  split
  · exact moved.trans (windowRecord s₁ c b dma parts)
  · exact (moved.trans (queueRecord s₁ c _ _ _ _)).trans (foldl (fun s r => queueRecord s c _ _ _ _) _ s₂)

theorem closeUntil (c us : Nat) : ∀ (fuel : Nat) (s : State), Captured s (State.closeUntil fuel c us s)
  | 0, s => refl s
  | fuel + 1, s => by
    unfold State.closeUntil
    dsimp only
    split
    · exact (closeInterval s c _ _).trans (closeUntil c us fuel _)
    · exact refl s

theorem cutInterval (s : State) (c ns : Nat) : Captured s (s.cutInterval c ns) := by
  unfold State.cutInterval
  extract_lets cap s₁
  have closed : Captured s s₁ := closeUntil c _ _ s
  split
  · exact closed.trans (closeInterval s₁ c _ _)
  · exact closed

theorem setPaused (old : Nat) (s : State) (c : Nat) : Captured s (s.setPaused old c) := by
  unfold State.setPaused
  extract_lets s₁ b
  have noted : Captured s s₁ := (modCap s c _).trans (noteState _ c _ _ _)
  exact noted.trans (modCap s₁ c _)

/-- R321: device time moves under the captures. -/
theorem acqTimeSet (old : Nat) (s : State) : Captured s (acqTimeSet old s) := by
  unfold Machine.acqTimeSet
  extract_lets paused s₁ s₂
  have marked : Captured s s₁ := modAcq s _
  have set : Captured s₁ s₂ := foldl (fun s c => setPaused old s c) paused s₁
  refine (marked.trans set).trans (foldl (fun s c => ?_) _ s₂)
  extract_lets cap b s₃ cap' ord
  have cut : Captured s s₃ := (cutInterval s c old).trans (noteState _ c _ _ _)
  exact cut.trans (modCap s₃ c _)

end Captured

/-- R468: device time as it is set. -/
def timeMoved (s : State) (ns : Int) : State :=
  let v := s.startOffset 0
  let w := { v with timeStep := ns * 4 / 5 - v.now, steer := { v.steer with carry := 0 } }
  w.modNet fun n => n.shift (w.ns - s.ns)

theorem setDeviceTime_captured (s : State) (ns : Int) : Captured (timeMoved s ns) (s.setDeviceTime ns) := Captured.acqTimeSet s.ns (timeMoved s ns)

end Sys2Proof.Machine
end
section
/-! The events of the TIME unit (13 R460–R469). -/

namespace Sys2Proof.Machine

section Tracks

variable {s t u : State} {n k : Nat} {tr : Track}

/-- `t` is `s` with track `k` as `tr`; the other tracks, the device and the memory are as they were. -/
structure TrackSet (k : Nat) (tr : Track) (s t : State) : Prop where
  dev : t.dev = s.dev
  mem : t.mem = s.mem
  wf : Tab.wf {} t.net.tracks
  own : trackOf t k = tr
  others : ∀ j, j ≠ k → trackOf t j = trackOf s j

namespace TrackSet

theorem refl (hwf : Tab.wf {} s.net.tracks) : TrackSet k (trackOf s k) s s := ⟨rfl, rfl, hwf, rfl, fun _ _ => rfl⟩

theorem then_same (h : TrackSet k tr s t) (htracks : u.net.tracks = t.net.tracks) (hdev : u.dev = t.dev) (hmem : u.mem = t.mem) : TrackSet k tr s u := by
  have same (j : Nat) : trackOf u j = trackOf t j := by
    unfold trackOf
    rw [htracks]
  exact ⟨hdev.trans h.dev, hmem.trans h.mem, by rw [htracks]; exact h.wf, (same k).trans h.own, fun j hj => (same j).trans (h.others j hj)⟩

theorem modTrack (h : TrackSet k tr s t) (f : Track → Track) : TrackSet k (f tr) s (t.modTrack k f) :=
  ⟨h.dev, h.mem, upd_wf k f h.wf, by rw [trackOf_modTrack h.wf, if_pos rfl, h.own],
    fun j hj => by rw [trackOf_modTrack h.wf, if_neg hj, h.others j hj]⟩

end TrackSet

/-! The mapping leaves the tracks alone. -/

theorem recordOpen_tracks (s : State) (unit ev sev : Nat) : (s.recordOpen unit ev sev).net = s.net := by
  obtain ⟨n, y, recorded⟩ := s.recordOpen_eq unit ev sev false
  rw [recorded]

theorem retarget_tracks {f : NetUnit → NetUnit} (hf : (f s.net).tracks = s.net.tracks) (atOnce : Bool) : (s.retarget atOnce f).net.tracks = s.net.tracks := by
  unfold State.retarget
  extract_lets t was m n d far s₁
  have set : s₁.net.tracks = s.net.tracks := by
    simp only [s₁, State.modNet]
    split <;> exact hf
  split
  · rw [recordOpen_tracks]
    exact set
  · exact set

theorem setUtc_tracks (s : State) (offset : Int) (known leap61 leap59 : Bool) : (s.setUtc offset known leap61 leap59).net.tracks = s.net.tracks := by
  unfold State.setUtc
  dsimp only
  split <;> rfl

theorem utcOfTrack_tracks (s : State) (k : Nat) : (s.utcOfTrack k).net.tracks = s.net.tracks := by
  unfold State.utcOfTrack
  split
  · split
    · split
      · exact setUtc_tracks s _ _ _ _
      · rfl
    · rfl
  · rfl

theorem TrackSet.utcOfTrack (h : TrackSet k tr s t) (j : Nat) : TrackSet k tr s (t.utcOfTrack j) :=
  h.then_same (utcOfTrack_tracks t j) (Mapped.utcOfTrack t j).dev (Mapped.utcOfTrack t j).mem

/-- R466: another track becomes the source. -/
theorem TrackSet.switchTo (h : TrackSet k tr s t) (j : Nat) : TrackSet k tr s (t.switchTo j) ∧ (t.switchTo j).net.source = j := by
  have recorded := Mapped.recordOpen (t.modNet fun n => { n with source := j, switches := n.switches + 1, mapDue := true }) 11 16 0
  have followed := recorded.trans (Mapped.followTrack _ j)
  have done := followed.trans (Mapped.utcOfTrack _ j)
  refine ⟨(h.then_same (u := ((t.modNet fun n => { n with source := j, switches := n.switches + 1, mapDue := true }).recordOpen 11 16 0).followTrack j)
    ?_ followed.dev followed.mem).utcOfTrack j, congrArg Prod.fst done.settings⟩
  unfold State.followTrack
  rw [retarget_tracks (by rfl), recordOpen_tracks]
  rfl

/-! A best master (R462). -/

/-- What follows in the track when the best master is `best` (R462, R464). -/
def mastered (best : Option (Nat × Announcement)) (old tr : Track) : Track :=
  let gm := best.map fun e => e.2.gmId
  let t := { tr with master := best, lastGm := if gm.isSome then gm else tr.lastGm }
  if gm.isSome ∧ gm ≠ old.lastGm then
    { t with valid := false, good := 0, waiting := [], msDelay := none, state := if t.state = .holdover then .holdover else .uncalibrated }
  else if old.state = .listening ∧ gm.isSome then { t with state := .uncalibrated }
  else if old.state = .uncalibrated ∧ gm.isNone then { t with state := .listening }
  else t

theorem TrackSet.chooseMaster (h : TrackSet k tr s t) :
    TrackSet k (mastered ((bestForeign tr.foreigns).map fun f => (f.port, f.announce)) tr tr) s (t.chooseMaster k) := by
  unfold State.chooseMaster
  extract_lets old best gm s₁ s₂
  have own : old = tr := h.own
  have first := h.modTrack fun t => { t with master := best, lastGm := if gm.isSome then gm else t.lastGm }
  refine TrackSet.utcOfTrack ?_ k
  rw [← own]
  unfold mastered
  simp only [s₂]
  rw [← own] at first
  split
  · exact first.modTrack fun t =>
      { t with valid := false, good := 0, waiting := [], msDelay := none, state := if t.state = .holdover then .holdover else .uncalibrated }
  · split
    · exact first.modTrack fun t => { t with state := .uncalibrated }
    · split
      · exact first.modTrack fun t => { t with state := .listening }
      · exact first

theorem mastered_new {a : Announcement} {old : Track} (hgm : old.lastGm ≠ some a.gmId) (hstate : tr.state ≠ .holdover) :
    (mastered (some (n, a)) old tr).master = some (n, a) ∧ (mastered (some (n, a)) old tr).state = .uncalibrated ∧
    (mastered (some (n, a)) old tr).valid = false := by
  have changes : ((some (n, a)).map fun e => e.2.gmId).isSome = true ∧ ((some (n, a)).map fun e => e.2.gmId) ≠ old.lastGm := ⟨rfl, Ne.symm hgm⟩
  unfold mastered
  dsimp only
  rw [if_pos changes]
  exact ⟨rfl, if_neg hstate, rfl⟩

theorem mastered_none (old : Track) : (mastered none old tr).master = none ∧ (mastered none old tr).foreigns = tr.foreigns ∧
    (mastered none old tr).valid = tr.valid ∧ (mastered none old tr).state = if old.state = .uncalibrated then .listening else tr.state := by
  have noGm : ¬ ((none : Option (Nat × Announcement)).map fun e => e.2.gmId).isSome = true := by decide
  unfold mastered
  dsimp only
  rw [if_neg fun h => noGm h.1, if_neg fun h => noGm h.2]
  by_cases h : old.state = .uncalibrated
  · rw [if_pos ⟨h, rfl⟩, if_pos h]
    exact ⟨rfl, rfl, rfl, rfl⟩
  · rw [if_neg fun h' => h h'.1, if_neg h]
    exact ⟨rfl, rfl, rfl, rfl⟩

theorem bestForeign_single {f : Foreign} (hcount : 2 ≤ f.count) : bestForeign [f] = some f := by
  unfold bestForeign
  rw [List.filter_cons, if_pos (decide_eq_true hcount)]
  rfl

/-- The one master heard is forgotten (R462). -/
theorem foreigns_forgotten {f : Foreign} {source : Nat} (hport : f.port = n) (hsource : f.announce.source = source) :
    [f].filter (fun g => !(g.port == n && g.announce.source == source)) = [] := by
  rw [List.filter_cons, hport, hsource, beq_self_eq_true, beq_self_eq_true]
  rfl

/-! What a message does on the one track that it belongs to. -/

/-- The masters heard once the Announce of one that was heard before has come (R462). -/
def heardAgain (a : Announcement) (now : Nat) (f : Foreign) : Foreign := { f with announce := a, count := f.count + 1, heardAt := now }

theorem ptpAnnounce_eq {a : Announcement} {f : Foreign} (hruns : portRuns s n = true) (hfor : tracksFor s n a.domain = [k])
    (hmajor : a.majorSdo = (trackOf s k).majorSdo) (hminor : a.minorSdo = (trackOf s k).minorSdo) (hheard : (trackOf s k).foreigns = [f])
    (hport : f.port = n) (hsource : f.announce.source = a.source) (stamp : Nat) : ptpMessage n (.announce a) stamp s =
      (s.modTrack k fun t => { t with foreigns := t.foreigns.filter (fun g => !(g.port == n && g.announce.source == a.source)) ++
        [heardAgain a s.now f] }).chooseMaster k := by
  have same : (f.port == n && f.announce.source == a.source) = true := by
    rw [hport, hsource, beq_self_eq_true, beq_self_eq_true]
    rfl
  unfold ptpMessage
  rw [hruns]
  dsimp only
  rw [if_neg (by decide), hfor, List.foldl_cons, List.foldl_nil, if_neg (by rw [hmajor, hminor]; simp), hheard, List.find?_cons, same]
  rfl

theorem ptpDelayResp_eq {domain source seq t4 : Nat} {corr t3 ms : Int} {a : Announcement} (hruns : portRuns s n = true)
    (hfor : tracksFor s n domain = [k]) (hreq : (trackOf s k).requestOn n = some (seq, t3)) (hms : (trackOf s k).msDelay = some ms)
    (hp2p : (trackOf s k).p2p = false) (hmaster : (trackOf s k).master = some (n, a)) (hsource : a.source = source) (stamp : Nat) :
    ptpMessage n (.delayResp domain source seq t4 corr) stamp s = s.addDelay k n ((ms + (t4 - corr - t3)) / 2) := by
  unfold ptpMessage
  rw [hruns]
  dsimp only
  rw [if_neg (by decide), hfor, List.foldl_cons, List.foldl_nil, hreq, hms]
  exact if_pos ⟨rfl, by rw [hp2p]; decide, by rw [hmaster, ← hsource]; rfl⟩

/-- What a Sync or a Follow_Up of the master does with its time on a track without an estimate (R463, R464). -/
theorem TrackSet.onSync {t1 corr t2 asym : Int} (h : TrackSet k tr s t) (hvalid : tr.valid = false) (hdelays : tr.delays = []) :
    TrackSet k { tr with syncs := sat32 tr.syncs, lastSyncAt := t.now, msDelay := some (t2 - t1 - corr), off := t1 + corr + asym - t2, rate := 0, ref := t2
                         valid := true, good := 0 } s (onSync k t1 corr t2 asym t) := by
  have mpd : tr.mpd = 0 := by
    unfold Track.mpd
    rw [hdelays]
    rfl
  unfold Machine.onSync
  dsimp only
  rw [h.own, hvalid, mpd, Int.add_zero, if_pos (by rfl)]
  exact (h.modTrack fun t' => { t' with syncs := sat32 t'.syncs, lastSyncAt := t.now, msDelay := some (t2 - t1 - corr) }).modTrack fun t' =>
    { t' with off := t1 + corr + asym - t2, rate := 0, ref := t2, valid := true, good := 0 }

theorem onSync_timeStep {t1 corr t2 asym : Int} (hvalid : (trackOf s k).valid = false) : (onSync k t1 corr t2 asym s).timeStep = s.timeStep := by
  unfold Machine.onSync
  dsimp only
  rw [hvalid, if_pos (by rfl)]
  rfl

section Messages

variable {m : SyncMsg}

/-- A two-step Sync as it waits (R463). -/
def syncWaiting (m : SyncMsg) (t2 : Int) (now : Nat) : WaitingSync := { source := m.source, seq := m.seq, corr := m.corr, t2 := t2, at' := now }

theorem syncMessage_eq (hruns : portRuns s n = true) (hfor : tracksFor s n m.domain = [k])
    (hfrom : fromMaster (trackOf s k) n m.source m.majorSdo m.minorSdo = true) (stamp : Nat) : syncMessage n m stamp s =
      if m.twoStep then s.modTrack k fun t => { t with waiting := (syncWaiting m (stamp - (portOf s n).ingressNs) s.now :: t.waiting).take 8 }
      else if invalidFrom ≤ m.t1 then s.modTrack k fun t => { t with invalid := sat32 t.invalid }
      else onSync k m.t1 m.corr ((stamp : Int) - (portOf s n).ingressNs) (portOf s n).asymNs s := by
  unfold syncMessage
  dsimp only
  rw [hruns, hfor, List.foldl_cons, List.foldl_nil, hfrom]
  rfl

theorem followUp_none (hruns : portRuns s n = true) (hfor : tracksFor s n m.domain = [k]) (hnone : (trackOf s k).waiting = []) : followUp n m s = s := by
  unfold followUp
  dsimp only
  rw [hruns, hfor, List.foldl_cons, List.foldl_nil, hnone]
  rfl

/-- R463: the Follow_Up of the one Sync that waits. -/
theorem followUp_eq {x : WaitingSync} (hruns : portRuns s n = true) (hfor : tracksFor s n m.domain = [k]) (hwaits : (trackOf s k).waiting = [x])
    (hseq : x.seq = m.seq) (hsource : x.source = m.source) (htime : s.now ≤ x.at' + clocksOfUs 250000) (ht1 : m.t1 < invalidFrom) :
    followUp n m s = onSync k m.t1 (x.corr + m.corr) x.t2 (portOf s n).asymNs (s.modTrack k fun t => { t with waiting := t.waiting.filter (· ≠ x) }) := by
  have found : [x].find? (fun w => w.seq == m.seq && w.source == m.source) = some x := by
    rw [List.find?_cons, hseq, hsource, beq_self_eq_true, beq_self_eq_true]
    rfl
  unfold followUp
  dsimp only
  rw [hruns, if_neg (by decide), hfor, List.foldl_cons, List.foldl_nil, hwaits, found]
  dsimp only
  have intime : ¬ x.at' + clocksOfUs 250000 < (s.modTrack k fun t => { t with waiting := t.waiting.filter (· ≠ x) }).now := Nat.not_lt.mpr htime
  rw [if_neg intime, if_neg (Nat.not_le.mpr ht1)]
  rfl

end Messages

/-! The other events. -/

/-- A request of a track leaves a port (R462, R472). -/
def requested (k n : Nat) (s : State) : State :=
  (s.modTrack k fun t => { t with
    requests := t.requests.filter (·.1 ≠ n) ++ [(n, ((trackOf s k).delaySeq + 1) % 2 ^ 16, (egressNow s n : Int))]
    pdelays := t.pdelays.filter (·.1 ≠ n), delaySeq := ((trackOf s k).delaySeq + 1) % 2 ^ 16, requestAt := some s.now }).emit
      (.ptp n 1 (trackOf s k).domain (((trackOf s k).delaySeq + 1) % 2 ^ 16))

/-- The entry of a request in the queue of time stamps (R472). -/
def requestStamp (k n : Nat) (s : State) : TsEntry :=
  { seq := ((trackOf s k).delaySeq + 1) % 2 ^ 16, type := 1, domain := (trackOf s k).domain, egress := egressNow s n }

theorem tsq_rest (s : State) (n : Nat) (e : TsEntry) : (s.tsq n e).outbox = s.outbox ∧ (s.tsq n e).net.tracks = s.net.tracks ∧
    (s.tsq n e).dev = s.dev ∧ (s.tsq n e).mem = s.mem := by
  unfold State.tsq
  split
  · exact ⟨rfl, rfl, rfl, rfl⟩
  · split <;> exact ⟨rfl, rfl, rfl, rfl⟩

theorem ptpDelayRequest_eq {a : Announcement} (hdue : requestDue s (trackOf s k) = true) (hp2p : (trackOf s k).p2p = false)
    (hmaster : (trackOf s k).master = some (n, a)) (hsends : portSends s n = true) :
    ptpDelayRequest k s = (requested k n s).tsq n (requestStamp k n s) := by
  unfold ptpDelayRequest
  dsimp only
  rw [hp2p, hmaster, hdue]
  simp only [Bool.not_true, Bool.false_eq_true, if_false, List.foldl_cons, List.foldl_nil, hsends]
  rfl

theorem holdover_eq (h : ¬ ((trackOf s k).state = .off ∨ (trackOf s k).state = .holdover ∨ ¬ (trackOf s k).valid = true ∨
      s.now < (trackOf s k).lastSyncAt + clocksOfUs ((trackOf s k).syncTimeoutMs * 1000))) : holdover k s =
    if s.net.autoSwitch = true ∧ s.net.source = k ∧ (trackOf (s.modTrack k fun t => { t with state := .holdover, good := 0 }) (1 - k)).state = .locked then
      (s.modTrack k fun t => { t with state := .holdover, good := 0 }).switchTo (1 - k)
    else s.modTrack k fun t => { t with state := .holdover, good := 0 } := if_neg h

theorem requestOn_last (l : List (Nat × Nat × Int)) (n : Nat) (v : Nat × Int) :
    ((l.filter (·.1 ≠ n) ++ [(n, v)]).find? (·.1 == n)).map (·.2) = some v := by
  have none : (l.filter (·.1 ≠ n)).find? (·.1 == n) = none := by
    refine List.find?_eq_none.mpr fun x hx => ?_
    simpa using (List.mem_filter.mp hx).2
  rw [List.find?_append, none]
  simp

theorem requestOn_filtered (l : List (Nat × Nat × Int)) (n : Nat) : ((l.filter (·.1 ≠ n)).find? (·.1 == n)).map (·.2) = none := by
  rw [Option.map_eq_none_iff, List.find?_eq_none]
  intro x hx
  simpa using (List.mem_filter.mp hx).2

/-- What TIME_MAP puts on the way to a member (R469). -/
def mapSent (ws : List Word) (m : Member) : Member :=
  if m.integrated then { m with peer := { m.peer with out := m.peer.out ++ [{ kind := 7, words := ws }] } } else m

theorem memberOf_timeMap (hdue : mapIsDue s = true) (j : Nat) :
    look {} (timeMap s).drove.members j = mapSent (timeMapWords s) (look {} s.drove.members j) := by
  have body : (timeMap s).drove.members = s.drove.members.map fun e => (e.1, mapSent (timeMapWords s) e.2) := by
    unfold timeMap
    rw [hdue]
    rfl
  rw [body]
  exact look_mapValues (mapSent (timeMapWords s)) rfl _ j

theorem timeMap_rest (hdue : mapIsDue s = true) : (timeMap s).net = { s.net with mapDue := false, mapAt := some s.now } ∧ (timeMap s).dev = s.dev ∧
    (timeMap s).mem = s.mem := by
  unfold timeMap
  rw [hdue]
  exact ⟨rfl, rfl, rfl⟩

theorem setDeviceTime_rest (s : State) (ns : Int) : (s.setDeviceTime ns).timeStep = ns * 4 / 5 - s.now ∧
    (s.setDeviceTime ns).net.stepDue = s.net.stepDue ∧ (s.setDeviceTime ns).net.mapDue = s.net.mapDue ∧ (s.setDeviceTime ns).dev = s.dev ∧
    (s.setDeviceTime ns).graph = s.graph ∧ (s.setDeviceTime ns).loop = s.loop := by
  have moved := setDeviceTime_captured s ns
  have shifted (d : Int) : (s.net.shift d).stepDue = s.net.stepDue ∧ (s.net.shift d).mapDue = s.net.mapDue := by
    unfold NetUnit.shift
    dsimp only
    split <;> exact ⟨rfl, rfl⟩
  unfold Captured at moved
  rw [moved]
  exact ⟨rfl, (shifted _).1, (shifted _).2, rfl, rfl, rfl⟩

end Tracks

/-- Settles O52: messages by `TrackSet` of the one track that they belong to, the step of device time by `setDeviceTime_rest`. -/
theorem timeRuns : Obligations.TimeRuns := by
  intro t s u hu htracks hports
  subst hu
  refine ⟨fun n m stamp hn hoff => ?noPtp, fun n m stamp hn hoff => ?noSync, fun n stamp hn hruns => ?other,
    fun n k a stamp f hn hk hruns hfor hmajor hminor hheard hport hsource hcount hmaster hgm hstate => ?announce,
    fun n k domain source seq t4 corr stamp q t3 ms a hn hk hruns hfor hreq hdelays hms hseq hp2p hmaster hsource => ?delayResp,
    fun n k m stamp hn hk hruns hfor hfrom htwo => ?twoStep, fun n k m stamp hn hk hruns hfor hfrom htwo ht1 hvalid hdelays => ?sync,
    fun n k m stamp hn hk hruns hfor hfrom htwo ht1 => ?invalid, fun n k m hn hruns hfor hnone => ?noFollowUp,
    fun n k m x hn hk hruns hfor hwaits hseq hsource htime ht1 hvalid hdelays => ?follow, fun k hk hno => ?noHoldover,
    fun k hk hon hstate hvalid hlate => ?holdover, fun n hn => ?sameLink, fun n hn => ?link, fun hno => ?noMap, fun hdue => ?map,
    fun k hk hno => ?noRequest, fun k n a hk hdue hp2p hmaster hsends => ?request, fun k hk hnone => ?noMaster,
    fun k n a f hk hmaster hheard hport hsource => ?timeout, fun hnone => ?noStep, fun d hdue hint => ?stepIntegrated, fun d hdue hint => ?step⟩
  case noPtp => exact (event_of (decide_eq_true hn) t _ s).trans (congrArg _ (if_pos (by rw [hoff]; rfl)))
  case noSync =>
    exact ⟨(event_of (decide_eq_true hn) t _ s).trans (congrArg _ (if_pos (by rw [hoff]; rfl))),
      (event_of (decide_eq_true hn) t _ s).trans (congrArg _ (if_pos (by rw [hoff]; rfl)))⟩
  case other =>
    exact ⟨_, (event_of (decide_eq_true hn) t (ptpMessage n .other stamp) s).trans (congrArg _ (if_neg (by rw [hruns]; decide))), rfl, rfl, rfl, rfl⟩
  case announce =>
    have done := ((TrackSet.refl (k := k) htracks).modTrack fun t' => { t' with
      foreigns := t'.foreigns.filter (fun g => !(g.port == n && g.announce.source == a.source)) ++ [heardAgain a (s.at t).now f] }).chooseMaster
    have foreigns : (trackOf (s.at t) k).foreigns.filter (fun g => !(g.port == n && g.announce.source == a.source)) ++ [heardAgain a (s.at t).now f] =
        [heardAgain a (s.at t).now f] := by
      rw [hheard, foreigns_forgotten hport hsource]
      rfl
    have best : (bestForeign ((trackOf (s.at t) k).foreigns.filter (fun g => !(g.port == n && g.announce.source == a.source)) ++
        [heardAgain a (s.at t).now f])).map (fun f => (f.port, f.announce)) = some (n, a) := by
      rw [foreigns, bestForeign_single (Nat.succ_le_succ hcount), ← hport]
      rfl
    refine ⟨_, (event_of (decide_eq_true hn) t _ s).trans (congrArg _ (ptpAnnounce_eq hruns hfor hmajor hminor hheard hport hsource stamp)), ?_⟩
    rw [done.own, best]
    obtain ⟨master, state, valid⟩ := mastered_new (n := n) (a := a) (old := { trackOf (s.at t) k with
        foreigns := (trackOf (s.at t) k).foreigns.filter (fun g => !(g.port == n && g.announce.source == a.source)) ++ [heardAgain a (s.at t).now f] })
      (tr := { trackOf (s.at t) k with
        foreigns := (trackOf (s.at t) k).foreigns.filter (fun g => !(g.port == n && g.announce.source == a.source)) ++ [heardAgain a (s.at t).now f] })
      hgm hstate
    exact ⟨master, state, valid, done.others _ (by omega), done.dev, done.mem⟩
  case delayResp =>
    subst hseq
    have done := (TrackSet.refl (k := k) htracks).modTrack fun t' => { t' with
      delays := upd [] t'.delays n fun l => ((ms + (t4 - corr - t3)) / 2 :: l).take 8
      requests := t'.requests.filter (·.1 ≠ n), pdelays := t'.pdelays.filter (·.1 ≠ n) }
    refine ⟨_, (event_of (decide_eq_true hn) t _ s).trans (congrArg _ (ptpDelayResp_eq hruns hfor hreq hms hp2p hmaster hsource stamp)), ?_⟩
    have own : trackOf ((s.at t).addDelay k n ((ms + (t4 - corr - t3)) / 2)) k = _ := done.own
    rw [own]
    have delays (j : Nat) := look_upd (fun l => ((ms + (t4 - corr - t3)) / 2 :: l).take 8) n j hdelays
    exact ⟨(delays n).trans (if_pos rfl), (delays (1 - n)).trans (if_neg (by omega)), requestOn_filtered _ n, rfl,
      done.others _ (by omega), rfl, rfl⟩
  case twoStep =>
    have body := syncMessage_eq hruns hfor hfrom stamp
    rw [htwo, if_pos rfl] at body
    have done := (TrackSet.refl (k := k) htracks).modTrack fun t' => { t' with 
      waiting := (syncWaiting m (stamp - (portOf (s.at t) n).ingressNs) (s.at t).now :: t'.waiting).take 8 }
    refine ⟨_, (event_of (decide_eq_true hn) t _ s).trans (congrArg _ body), ?_⟩
    rw [done.own]
    exact ⟨rfl, rfl, ⟨_, List.mem_cons_self, rfl, rfl, rfl, rfl⟩, rfl, rfl⟩
  case sync =>
    have body := syncMessage_eq hruns hfor hfrom stamp
    rw [htwo, if_neg (by decide), if_neg (Nat.not_le.mpr ht1)] at body
    have done := (TrackSet.refl (k := k) htracks).onSync (t1 := m.t1) (corr := m.corr) (t2 := (stamp : Int) - (portOf (s.at t) n).ingressNs)
      (asym := (portOf (s.at t) n).asymNs) hvalid hdelays
    refine ⟨_, (event_of (decide_eq_true hn) t _ s).trans (congrArg _ body), ?_⟩
    rw [done.own]
    exact ⟨rfl, rfl, rfl, rfl, rfl, onSync_timeStep hvalid, done.dev, done.mem⟩
  case invalid =>
    have body := syncMessage_eq hruns hfor hfrom stamp
    rw [htwo, if_neg (by decide), if_pos ht1] at body
    have done := (TrackSet.refl (k := k) htracks).modTrack fun t' => { t' with invalid := sat32 t'.invalid }
    refine ⟨_, (event_of (decide_eq_true hn) t _ s).trans (congrArg _ body), ?_⟩
    rw [done.own]
    exact ⟨rfl, rfl, rfl, rfl, rfl⟩
  case noFollowUp => exact (event_of (decide_eq_true hn) t _ s).trans (congrArg _ (followUp_none hruns hfor hnone))
  case follow =>
    have done := ((TrackSet.refl (k := k) htracks).modTrack fun t' => { t' with waiting := t'.waiting.filter (· ≠ x) }).onSync (t1 := m.t1)
      (corr := x.corr + m.corr) (t2 := x.t2) (asym := (portOf (s.at t) n).asymNs) hvalid hdelays
    refine ⟨_, (event_of (decide_eq_true hn) t _ s).trans (congrArg _ (followUp_eq hruns hfor hwaits hseq hsource htime ht1)), ?_⟩
    rw [done.own]
    refine ⟨rfl, rfl, ?_, done.dev, done.mem⟩
    change (trackOf (s.at t) k).waiting.filter (· ≠ x) = []
    rw [hwaits]
    simp
  case noHoldover =>
    refine (event_of (decide_eq_true hk) t _ s).trans (congrArg _ (if_pos (hno.imp_right (Or.imp_right (Or.imp_left fun h => ?_)))))
    rw [h]
    decide
  case holdover =>
    have held := (TrackSet.refl (k := k) htracks).modTrack fun t' => { t' with state := .holdover, good := 0 }
    have other := held.others (1 - k) (by omega)
    have enters : ¬ ((trackOf (s.at t) k).state = .off ∨ (trackOf (s.at t) k).state = .holdover ∨ ¬ (trackOf (s.at t) k).valid = true ∨
        (s.at t).now < (trackOf (s.at t) k).lastSyncAt + clocksOfUs ((trackOf (s.at t) k).syncTimeoutMs * 1000)) := by
      rintro (h | h | h | h)
      · exact hon h
      · exact hstate h
      · exact h hvalid
      · exact absurd hlate (Nat.not_le.mpr h)
    have body := holdover_eq enters
    by_cases hover : (s.at t).net.autoSwitch = true ∧ (s.at t).net.source = k ∧ (trackOf (s.at t) (1 - k)).state = .locked
    · rw [if_pos (show _ ∧ _ ∧ (trackOf _ (1 - k)).state = .locked from ⟨hover.1, hover.2.1, by rw [other]; exact hover.2.2⟩)] at body
      obtain ⟨done, source⟩ := held.switchTo (1 - k)
      refine ⟨_, (event_of (decide_eq_true hk) t _ s).trans (congrArg _ body), ?_⟩
      rw [done.own, source, hover.1, hover.2.1, hover.2.2, beq_self_eq_true]
      exact ⟨rfl, rfl, rfl, done.others _ (by omega), done.dev, done.mem⟩
    · rw [if_neg fun h => hover ⟨h.1, h.2.1, by rw [← other]; exact h.2.2⟩] at body
      refine ⟨_, (event_of (decide_eq_true hk) t _ s).trans (congrArg _ body), ?_⟩
      rw [held.own]
      refine ⟨rfl, rfl, (if_neg fun h => hover ?_).symm, other, rfl, rfl⟩
      rw [Bool.and_eq_true, Bool.and_eq_true, beq_iff_eq, beq_iff_eq] at h
      exact ⟨h.1.1, h.1.2, h.2⟩
  case sameLink => exact (event_of (decide_eq_true hn) t _ s).trans (congrArg _ (if_pos rfl))
  case link =>
    have changes : (portOf (s.at t) n).linkUp ≠ !(portOf (s.at t) n).linkUp := by simp
    have recorded := Mapped.recordOpen ((s.at t).modPort n fun p => { p with linkUp := !(portOf (s.at t) n).linkUp }) 11 17 0
    have port (j : Nat) : portOf (((s.at t).modPort n fun p => { p with linkUp := !(portOf (s.at t) n).linkUp }).recordOpen 11 17 0) j =
        if j = n then { portOf (s.at t) j with linkUp := !(portOf (s.at t) n).linkUp } else portOf (s.at t) j := by
      unfold portOf
      rw [recordOpen_tracks]
      exact portOf_modPort hports j
    refine ⟨_, (event_of (decide_eq_true hn) t _ s).trans (congrArg _ (if_neg changes)), ?_, (port (1 - n)).trans (if_neg (by omega)),
      by rw [recordOpen_tracks]; rfl, recorded.dev, recorded.mem⟩
    rw [port n, if_pos rfl]
  case noMap => exact (event_of rfl t timeMap s).trans (congrArg _ (if_pos (by rw [hno]; rfl)))
  case map =>
    obtain ⟨net, dev, mem⟩ := timeMap_rest hdue
    refine ⟨_, event_of rfl t timeMap s, by rw [net], by rw [net], fun j hint hubr => ?_, fun j hint => ?_, dev, mem, by rw [net]⟩
    · rw [memberOf_timeMap hdue, mapSent, if_pos hint]
    · rw [memberOf_timeMap hdue, mapSent, if_neg (by rw [hint]; decide)]
  case noRequest => exact (event_of (decide_eq_true hk) t _ s).trans (congrArg _ (if_pos (by rw [hno]; rfl)))
  case request =>
    obtain ⟨outbox, tracks, dev, mem⟩ := tsq_rest (requested k n (s.at t)) n (requestStamp k n (s.at t))
    have own := (trackOf_modTrack (k := k) (f := fun t' => { t' with
      requests := t'.requests.filter (·.1 ≠ n) ++ [(n, ((trackOf (s.at t) k).delaySeq + 1) % 2 ^ 16, (egressNow (s.at t) n : Int))]
      pdelays := t'.pdelays.filter (·.1 ≠ n), delaySeq := ((trackOf (s.at t) k).delaySeq + 1) % 2 ^ 16, requestAt := some (s.at t).now })
      htracks k).trans (if_pos rfl)
    have same : trackOf ((requested k n (s.at t)).tsq n (requestStamp k n (s.at t))) k = trackOf (requested k n (s.at t)) k :=
      congrArg (fun l => look ({} : Track) l k) tracks
    refine ⟨_, (event_of (decide_eq_true hk) t _ s).trans (congrArg _ (ptpDelayRequest_eq hdue hp2p hmaster hsends)), outbox, ?_, ?_, dev, mem⟩
    · rw [same]
      exact (congrArg (fun t' : Track => t'.requestOn n) own).trans (requestOn_last _ n _)
    · rw [same]
      exact congrArg Track.requestAt own
  case noMaster =>
    have stays : announceReceiptTimeout k (s.at t) = s.at t := by
      unfold announceReceiptTimeout
      rw [hnone]
    exact (event_of (decide_eq_true hk) t _ s).trans (congrArg _ stays)
  case timeout =>
    have done := ((TrackSet.refl (k := k) htracks).modTrack fun t' => { t' with
      foreigns := t'.foreigns.filter fun f => !(f.port == n && f.announce.source == a.source) }).chooseMaster
    have foreigns : (trackOf (s.at t) k).foreigns.filter (fun f => !(f.port == n && f.announce.source == a.source)) = [] := by
      rw [hheard, foreigns_forgotten hport hsource]
    have body : announceReceiptTimeout k (s.at t) = ((s.at t).modTrack k fun t' => { t' with
        foreigns := t'.foreigns.filter fun f => !(f.port == n && f.announce.source == a.source) }).chooseMaster k := by
      unfold announceReceiptTimeout
      rw [hmaster]
    refine ⟨_, (event_of (decide_eq_true hk) t _ s).trans (congrArg _ body), ?_⟩
    rw [done.own, foreigns]
    obtain ⟨master, heard, valid, state⟩ := mastered_none (tr := { trackOf (s.at t) k with foreigns := [] }) { trackOf (s.at t) k with foreigns := [] }
    exact ⟨master, heard, state, valid, done.dev, done.mem⟩
  case noStep =>
    have stays : timeSet (s.at t) = s.at t := by
      unfold timeSet
      rw [hnone]
    exact (event_of rfl t timeSet s).trans (congrArg _ stays)
  case stepIntegrated =>
    have body : timeSet (s.at t) = (s.at t).modNet fun n => { n with stepDue := none, mapDue := true } := by
      unfold timeSet
      rw [hdue]
      exact if_pos hint
    exact ⟨_, (event_of rfl t timeSet s).trans (congrArg _ body), rfl, rfl, rfl, rfl⟩
  case step =>
    have body : timeSet (s.at t) = ((s.at t).modNet fun n => { n with stepDue := none, mapDue := true }).setDeviceTime ((s.at t).ns + d) := by
      unfold timeSet
      rw [hdue]
      exact if_neg (by rw [Bool.not_eq_true]; exact hint)
    obtain ⟨timeStep, stepDue, mapDue, dev, graph, loop⟩ := setDeviceTime_rest ((s.at t).modNet fun n => { n with stepDue := none, mapDue := true })
      ((s.at t).ns + d)
    exact ⟨_, (event_of rfl t timeSet s).trans (congrArg _ body), stepDue, mapDue, timeStep, dev, graph, loop⟩

end Sys2Proof.Machine
end
section
/-! How the commands end that are accepted and answered later (04 R145–R160; 07 R261, R264; 14 R515; 16 R575; 18 R621). -/

namespace Sys2Proof.Machine

section Finishing

variable {s t u : State} {d : Deferred} {passing : Nat}

/-! COMMAND_COMPLETE (R510, R575, R576). -/

theorem commandComplete_some {k : Nat} {dma : Dma} {v : State} {st : Nat} {ws : List Word} (hd : s.host.deferred[k]? = some d)
    (hf : finish d dma passing s = some (v, st, ws)) : commandComplete k dma passing s =
      (v.modHost fun h => { h with deferred := h.deferred.eraseIdx k }).answer d.op d.packet st ws := by
  unfold commandComplete
  rw [hd]
  dsimp only
  rw [hf]

theorem commandComplete_idle {k : Nat} {dma : Dma} (hd : s.host.deferred[k]? = some d) (hf : finish d dma passing s = none) :
    commandComplete k dma passing s = s := by
  unfold commandComplete
  rw [hd]
  dsimp only
  rw [hf]

theorem finish_dma (hop : d.op = .memDma) (dma : Dma) : finish d dma passing s = some (dmaFinish d.packet dma s) := by
  unfold finish
  rw [hop]

theorem dmaFinish_poisoned {p : Packet} {a : Nat} (h : poisonBlocks s (p.w 3) (p.w 4) (!bit (p.w 0) 0) = some a) (dma : Dma) :
    dmaFinish p dma s = (s, stMmPoisoned, [wd a]) := by
  unfold dmaFinish
  rw [h]

theorem dmaFinish_ok {p : Packet} (h : poisonBlocks s (p.w 3) (p.w 4) (!bit (p.w 0) 0) = none) (hcopy : (dmaCopy p (p.w 4) s).2.2 = false) :
    dmaFinish p .ok s = ((dmaCopy p (p.w 4) s).1, (dmaCopy p (p.w 4) s).2.1, [wd (p.w 4)]) := by
  unfold dmaFinish
  rw [h]
  simp only [reduceCtorEq, if_false, hcopy, Bool.false_eq_true]

/-- R576: where the link fails, what was copied before is a number of blocks of 64 bytes. -/
theorem dmaFinish_failed {p : Packet} (h : poisonBlocks s (p.w 3) (p.w 4) (!bit (p.w 0) 0) = none)
    (hcopy : (dmaCopy p (64 * (s.takeFree.1.toNat % (p.w 4 / 64))) s.takeFree.2).2.2 = false) :
    dmaFinish p .failed s = ((dmaCopy p (64 * (s.takeFree.1.toNat % (p.w 4 / 64))) s.takeFree.2).1, stMmDma,
      [wd (64 * (s.takeFree.1.toNat % (p.w 4 / 64)))]) := by
  unfold dmaFinish
  rw [h]
  dsimp only
  rw [hcopy]
  rfl

/-! GRAPH.VERIFY (R145). -/

theorem finish_verify (hop : d.op = .graphVerify) : finish d .ok passing s = some (graphVerify (slotArg d.packet) (bankArg d.packet) s) := by
  unfold finish
  rw [hop]
  rfl

theorem placeWords_zero (used : List (Nat × Nat)) : (placeWords used 0).isSome = true := by
  have fits : ((0 :: used.map fun u => u.1 + u.2).filter fun p => decide (p + 0 ≤ varSpace) && used.all fun u =>
      decide (u.1 + u.2 ≤ p) || decide (p + 0 ≤ u.1)) = 0 :: ((used.map fun u => u.1 + u.2).filter fun p => decide (p + 0 ≤ varSpace) &&
      used.all fun u => decide (u.1 + u.2 ≤ p) || decide (p + 0 ≤ u.1)) := by
    rw [List.filter_cons, if_pos]
    rw [Bool.and_eq_true, decide_eq_true_iff, List.all_eq_true]
    exact ⟨Nat.zero_le _, fun u _ => by rw [Bool.or_eq_true, decide_eq_true_iff, decide_eq_true_iff]; exact Or.inr (Nat.zero_le _)⟩
  have some : ∀ (l : List Nat) (o : Option Nat), o.isSome = true →
      (l.foldl (fun m p => Option.some (match m with | Option.some q => min q p | none => p)) o).isSome = true := by
    intro l
    induction l with
    | nil => exact fun _ h => h
    | cons p l ih => exact fun _ _ => ih _ rfl
  unfold placeWords
  dsimp only
  rw [fits, List.foldl_cons]
  exact some _ _ rfl

theorem modSlot_wf {n : Nat} {f : GSlot → GSlot} (hwf : Tab.wf {} s.graph.slots) : Tab.wf {} (s.modSlot n f).graph.slots := upd_wf n f hwf

theorem bankOf_modBank {n : Nat} {b : Bool} {f : Bank → Bank} (hwf : Tab.wf {} s.graph.slots) :
    (slotOf (s.modBank n b f) n).bank b = f ((slotOf s n).bank b) := by
  have own : slotOf (s.modBank n b f) n = if b then { slotOf s n with bankB := f (slotOf s n).bankB } else { slotOf s n with bankA := f (slotOf s n).bankA } :=
    (look_upd (fun k : GSlot => if b then { k with bankB := f k.bankB } else { k with bankA := f k.bankA }) n n hwf).trans (if_pos rfl)
  rw [own]
  cases b <;> rfl

/-- R145: a bank without variables takes its place. -/
def placedEmpty (s : State) (n : Nat) (b : Bool) (block : Nat) : State :=
  ((s.modGraph fun g => { g with shared := g.shared ++ [] }).modBank n b fun k => { k with
    state := .active, bases := [], words := [(block, 0)], plan := [] }).modSched fun u => { u with slots := upd {} u.slots n fun k => { k with homes := [] } }

theorem placeBank_empty {n : Nat} {b : Bool} (hb : b = (slotOf s n).activeB) (hvars : imgVars s (bankAddr n b) = 0)
    (hwords : imgVarWords s (bankAddr n b) = 0) : ∃ block ws, s.placeBank n b = (placedEmpty s n b block, stOk, ws) := by
  obtain ⟨block, hblock⟩ := Option.isSome_iff_exists.mp (placeWords_zero (usedSpace s))
  have table : varTable s (bankAddr n b) = [] := by
    unfold varTable
    rw [hvars]
    rfl
  have standby : (b != (slotOf s n).activeB) = false := by rw [← hb, bne_self_eq_false]
  unfold State.placeBank
  dsimp only
  rw [table, hwords, hblock, standby]
  exact ⟨block, _, rfl⟩

theorem graphVerify_empty {n : Nat} {b : Bool} {k : Bank} (hwf : Tab.wf {} s.graph.slots) (hk : k = (slotOf s n).bank b) (hloaded : k.state = .loaded)
    (hb : b = (slotOf s n).activeB) (hclean : poisonedIn s (bankAddr n b) (4 * k.length) = none) (hverified : verifyImage s (bankAddr n b) k.length = none)
    (hvars : imgVars s (bankAddr n b) = 0) (hwords : imgVarWords s (bankAddr n b) = 0) : ∃ v ws, graphVerify n b s = (v, stOk, ws) ∧
    ((slotOf v n).bank b).state = .active ∧ v.mem = s.mem ∧ v.dev = s.dev ∧ v.loop = s.loop := by
  have table : varTable s (bankAddr n b) = [] := by
    unfold varTable
    rw [hvars]
    rfl
  have own (f : GSlot → GSlot) : slotOf (s.modSlot n f) n = f (slotOf s n) := (look_upd f n n hwf).trans (if_pos rfl)
  have active : b = (slotOf (s.forgetBank n b) n).activeB := by
    rw [State.forgetBank, State.modBank, own]
    split <;> exact hb
  obtain ⟨block, ws, placed⟩ := placeBank_empty active hvars hwords
  refine ⟨placedEmpty (s.forgetBank n b) n b block, ws, ?_, ?_, rfl, rfl, rfl⟩
  · unfold graphVerify
    dsimp only
    rw [← hk, if_neg fun h => h.1 hloaded, if_neg fun h => h.1 hb, hclean, if_neg (by decide), hverified]
    dsimp only
    rw [table, placed]
    exact if_neg Bool.false_ne_true
  · have forgotten : Tab.wf {} (s.forgetBank n b).graph.slots := modSlot_wf hwf
    exact congrArg Bank.state (bankOf_modBank (s := (s.forgetBank n b).modGraph fun g => { g with shared := g.shared ++ [] }) (f := fun k => { k with
      state := .active, bases := [], words := [(block, 0)], plan := [] }) forgotten)

/-! The SAFE commands (R493, R510, R515). -/

theorem finish_safe (hop : d.op = .safeParamLoad ∨ d.op = .safeSwitchRead ∨ d.op = .safeStatus ∨ d.op = .safeStop ∨ d.op = .safeDiagRead ∨
    d.op = .safeMemRead) {st : Nat} {ws : List Nat} (hdata : d.data = st :: ws) : finish d .ok passing s = some (s, st, ws.map wd) := by
  unfold finish safeFinish
  rw [hdata]
  rcases hop with h | h | h | h | h | h <;> rw [h]

theorem finish_reset (hop : d.op = .safeReset) : finish d .ok passing s =
    some ((safeResetNow (d.packet.w 0) passing s).1, (safeResetNow (d.packet.w 0) passing s).2, []) := by
  unfold finish safeFinish
  rw [hop]

/-- The input pairs of the groups that a SAFE.RESET names (R515). -/
def resetGroups (w : Nat) (s : State) : Nat := maskOf ((List.range 8).filter fun n => (bitsOf 8 (field w 0 8)).any fun p => bit (s.isl.group p) n)

/-- The pairs that a SAFE.RESET enables. -/
def resetPairs (w : Nat) (s : State) : List Nat := (bitsOf 8 (field w 0 8)).filter fun p => (pairOf s p).state == .torqueOff

/-- A pair enabled by SAFE.RESET. -/
def enabledPair (k : StoPair) : StoPair := { k with state := .enabled, stoA := true, stoB := true, hwFrom := none }

theorem safeResetNow_eq {w : Nat} (hpow : s.isl.powered = true) (hready : s.isl.state = .ready) (hparams : s.isl.params ≠ []) (h8 : bit w 8 = false) :
    safeResetNow w passing s = if (bitsOf 8 (resetGroups w s)).any fun n => inputDemand s n || bit s.isl.inFault n then (s, stSfDemand)
      else if s.isl.hbAction ≠ 0 ∧ !hbOk s then (s, stSfHb)
      else (axisRelease (maskOf (resetPairs w s)) (((resetPairs w s).foldl (fun s p => s.modPairSto p enabledPair) s).modIsl fun u => { u with
        inStop := false, ss1Req := maskOf ((bitsOf 8 u.ss1Req).filter fun p => !(resetPairs w s).contains p), hbLost := false }), stOk) := by
  have accepted : islandRefusal s true true = none := by
    unfold islandRefusal
    dsimp only
    rw [hpow, hready, List.isEmpty_eq_false_iff.mpr hparams]
    rfl
  unfold safeResetNow
  rw [accepted]
  dsimp only
  rw [h8, if_neg Bool.false_ne_true]
  rfl

theorem bit_field_low {w p : Nat} (hp : p < 8) : bit (field w 0 8) p = bit w p := by
  rw [bit_eq_testBit, bit_eq_testBit, field, Nat.testBit_mod_two_pow, Nat.pow_zero, Nat.div_one, decide_eq_true hp, Bool.true_and]

theorem mem_resetGroups {w p n : Nat} (hp : p < 8) (hn : n < 8) (hnamed : bit w p = true) (hgroup : bit (s.isl.group p) n = true) :
    n ∈ bitsOf 8 (resetGroups w s) := by
  rw [mem_bitsOf_iff, resetGroups, bit_maskOf, decide_eq_true_iff, List.mem_filter, List.any_eq_true]
  exact ⟨hn, List.mem_range.mpr hn, p, mem_bitsOf_iff.mpr ⟨hp, (bit_field_low hp).trans hnamed⟩, hgroup⟩

theorem mem_resetPairs {w p : Nat} : p ∈ resetPairs w s ↔ p < 8 ∧ bit w p = true ∧ (pairOf s p).state = .torqueOff := by
  rw [resetPairs, List.mem_filter, mem_bitsOf_iff, beq_iff_eq]
  refine ⟨fun h => ⟨h.1.1, ?_, h.2⟩, fun h => ⟨⟨h.1, ?_⟩, h.2.2⟩⟩
  · rw [← bit_field_low h.1.1]
    exact h.1.2
  · rw [bit_field_low h.1]
    exact h.2.1

/-- R515: what a SAFE.RESET that is not refused leaves of the pairs. -/
theorem safeReset_pairs {w : Nat} (hwf : Tab.wf {} s.isl.pairs) (f : SafeUnit → SafeUnit) (hf : ∀ u, (f u).pairs = u.pairs) (ax : Nat) (p : Nat) :
    pairOf (axisRelease ax (((resetPairs w s).foldl (fun s p => s.modPairSto p enabledPair) s).modIsl f)) p =
      if p ∈ resetPairs w s then enabledPair (pairOf s p) else pairOf s p := by
  rw [pairs_foldl_modPairSto]
  have pairs : (axisRelease ax ((s.modIsl fun v => { v with
      pairs := (resetPairs w s).foldl (fun m p => upd {} m p enabledPair) v.pairs }).modIsl f)).isl.pairs =
      (resetPairs w s).foldl (fun m p => upd {} m p enabledPair) s.isl.pairs := hf _
  unfold pairOf
  rw [pairs]
  exact look_updAll (fun _ => enabledPair) p ((bitsOf_nodup 8 _).filter _) hwf

/-! The AXIS commands at the start of a cycle (R261, R264). -/

/-- A command of another kind stays in the queue. -/
theorem runDeferred_other {op : Op} {now : Packet → State → State × Verdict} (hq : ∀ d ∈ s.host.deferred, d.op ≠ op) : s.runDeferred op now = s := by
  have none : s.host.deferred.filter (fun d => d.op == op && d.data.isEmpty) = [] := by
    refine List.filter_eq_nil_iff.mpr fun d hd => ?_
    rw [beq_false_of_ne (hq d hd)]
    exact Bool.false_ne_true
  have all : s.host.deferred.filter (fun d => !(d.op == op && d.data.isEmpty)) = s.host.deferred := by
    refine List.filter_eq_self.mpr fun d hd => ?_
    rw [beq_false_of_ne (hq d hd)]
    rfl
  have same : (s.modHost fun h => { h with deferred := h.deferred.filter fun d => !(d.op == op && d.data.isEmpty) }) = s :=
    congrArg (fun l => s.modHost fun h => { h with deferred := l }) all
  unfold State.runDeferred
  dsimp only
  rw [none, List.foldl_nil]
  exact same

/-- The one command that waits has its turn. -/
theorem runDeferred_one {op : Op} {now : Packet → State → State × Verdict} {st : Nat} {ws : List Word} (hq : s.host.deferred = [d]) (hop : d.op = op)
    (hdata : d.data = []) (hnow : now d.packet (s.modHost fun h => { h with deferred := [] }) = (t, .done st ws)) :
    s.runDeferred op now = t.answer op d.packet st ws := by
  have mine : (d.op == op && d.data.isEmpty) = true := by
    rw [hop, hdata, beq_self_eq_true]
    rfl
  have due : s.host.deferred.filter (fun d => d.op == op && d.data.isEmpty) = [d] := by
    rw [hq, List.filter_cons, if_pos mine]
    rfl
  have rest : s.host.deferred.filter (fun d => !(d.op == op && d.data.isEmpty)) = [] := by
    rw [hq, List.filter_cons, mine]
    rfl
  have taken : (s.modHost fun h => { h with deferred := h.deferred.filter fun d => !(d.op == op && d.data.isEmpty) }) =
      s.modHost fun h => { h with deferred := [] } := congrArg (fun l => s.modHost fun h => { h with deferred := l }) rest
  unfold State.runDeferred
  dsimp only
  rw [due, List.foldl_cons, List.foldl_nil, taken, hnow]

theorem axisStop_moved (s : State) (n kind : Nat) : AxesMoved s (s.axisStop n kind) := by
  unfold State.axisStop
  extract_lets x m
  have undone : AxesMoved s x := (AxesMoved.axisAdvance s n).trans (AxesMoved.axisUndoStart _ n)
  split
  · exact undone.trans (AxesMoved.axisImmediate x n)
  · split
    · exact undone.trans (AxesMoved.modCh x n _)
    · exact undone.trans (AxesMoved.modCh x n _)

theorem axisMoved_deferred (h : AxesMoved s t) : t.host.deferred = s.host.deferred := by
  unfold AxesMoved Reacted at h
  rw [h]

theorem axisStopNow_single {p : Packet} {n : Nat} (hn : n = field (p.w 0) 0 8) (hone : bit (p.w 0) 10 = false) :
    ((axisOf s n).kind = 0 → axisStopNow p s = (s, .done stAxNotConfigured [])) ∧
    ((axisOf s n).kind ≠ 0 → field (p.w 0) 8 2 ≠ 3 → axisStopNow p s = (s.axisStop n (field (p.w 0) 8 2), .done stOk [])) := by
  have targets : stopTargets s (p.w 0) = [n] := by
    unfold stopTargets
    rw [hone, ← hn]
    rfl
  refine ⟨fun hkind => ?_, fun hkind h3 => ?_⟩
  · unfold axisStopNow
    dsimp only
    rw [targets, List.any_cons, hkind]
    rfl
  · unfold axisStopNow
    dsimp only
    rw [targets, List.any_cons, beq_false_of_ne hkind, beq_false_of_ne h3, List.foldl_cons, if_neg h3]
    rfl

/-! A domain that is raised (R601, R603, R621). -/

/-- Domain `k` is ON and has not failed. -/
def Stands (k : Nat) (s : State) : Prop := Tab.wf {} s.pwr.domains = true ∧ (domain s k).failed = false ∧ (domain s k).state = .on

theorem domain_modDomain {j : Nat} {f : Domain → Domain} (hwf : Tab.wf {} s.pwr.domains = true) (k : Nat) :
    domain (s.modDomain j f) k = if k = j then f (domain s k) else domain s k := look_upd f j k hwf

theorem modDomain_wf {j : Nat} {f : Domain → Domain} (hwf : Tab.wf {} s.pwr.domains = true) : Tab.wf {} (s.modDomain j f).pwr.domains = true :=
  upd_wf j f hwf

theorem Stands.modDomain {j k : Nat} {f : Domain → Domain} (h : Stands k s) (hf : ∀ m, (f m).failed = m.failed ∧ (f m).state = m.state) :
    Stands k (s.modDomain j f) := by
  obtain ⟨wf, failed, state⟩ := h
  refine ⟨upd_wf j f wf, ?_, ?_⟩
  · rw [domain_modDomain wf]
    split
    · exact (hf _).1.trans failed
    · exact failed
  · rw [domain_modDomain wf]
    split
    · exact (hf _).2.trans state
    · exact state

theorem Stands.of_pwr {k : Nat} (h : Stands k s) (hpwr : t.pwr.domains = s.pwr.domains) : Stands k t := by
  unfold Stands domain at *
  rw [hpwr]
  exact h

/-- A change of state asked for leaves the domains that stand, and the commands that wait. -/
theorem retarget_stands {j k : Nat} {p : PState} (h : Stands k s) :
    Stands k (Machine.retarget j p s) ∧ (Machine.retarget j p s).host = s.host := by
  unfold Machine.retarget
  dsimp only
  split
  · exact ⟨h, rfl⟩
  · split
    · exact ⟨h.modDomain fun _ => ⟨rfl, rfl⟩, rfl⟩
    · split
      · exact ⟨h, rfl⟩
      · exact ⟨h.modDomain fun _ => ⟨rfl, rfl⟩, rfl⟩

theorem rechoose_stands {k : Nat} (h : Stands k s) : Stands k (rechoose s) ∧ (rechoose s).host = s.host := by
  unfold rechoose
  generalize List.range 12 = l
  induction l generalizing s with
  | nil => exact ⟨h, rfl⟩
  | cons j l ih =>
    rw [List.foldl_cons]
    extract_lets q
    by_cases hq : q = (domain s j).state ∧ (domain s j).going = none
    · rw [if_pos hq]
      exact ih h
    · rw [if_neg hq]
      obtain ⟨stands, host⟩ := retarget_stands (j := j) (p := q) h
      obtain ⟨stands', host'⟩ := ih stands
      exact ⟨stands', host'.trans host⟩

/-- The domains and the commands that wait are as they were. -/
def Calm (s t : State) : Prop := t.pwr.domains = s.pwr.domains ∧ t.host.deferred = s.host.deferred

namespace Calm

theorem refl (s : State) : Calm s s := ⟨rfl, rfl⟩

theorem trans (h : Calm s t) (h' : Calm t u) : Calm s u := ⟨h'.1.trans h.1, h'.2.trans h.2⟩

theorem foldl {α : Type} {f : State → α → State} (hf : ∀ s a, Calm s (f s a)) : ∀ (l : List α) (s : State), Calm s (l.foldl f s)
  | [], s => refl s
  | a :: l, s => (hf s a).trans (foldl hf l (f s a))

theorem of_reacted (h : Reacted s t) : Calm s t := by
  unfold Reacted at h
  rw [h]
  exact ⟨rfl, rfl⟩

theorem recordOpen (s : State) (unit ev sev : Nat) (transient : Bool) : Calm s (s.recordOpen unit ev sev transient) :=
  of_reacted (Reacted.recordOpen s unit ev sev transient)

theorem sendVector (s : State) (v : Nat) : Calm s (s.sendVector v) := of_reacted (Reacted.sendVector s v)

theorem setMode (s : State) (m : Mode) : Calm s (s.setMode m) := of_reacted (Reacted.setMode s m)

theorem writeWords (s : State) (a : Nat) (ws : List Word) : Calm s (s.writeWords a ws) := by
  obtain ⟨m, k, written⟩ := s.writeBytes_eq a (ws.flatMap bytesOf)
  rw [State.writeWords, written]
  exact ⟨rfl, rfl⟩

theorem zeroBytes (s : State) (a n : Nat) : Calm s (s.zeroBytes a n) := by
  obtain ⟨m, k, cleared⟩ := s.zeroBytes_eq a n
  rw [cleared]
  exact ⟨rfl, rfl⟩

theorem writeOut (s : State) (transport : Nat) (pieces : List (Nat × List Word)) : Calm s (s.writeOut transport pieces) := by
  refine foldl (fun s e => ?_) pieces s
  split
  · exact ⟨rfl, rfl⟩
  · exact writeWords s _ _

theorem ringIrq (n : Nat) (s : State) : Calm s (ringIrq n s) := by
  unfold Machine.ringIrq
  simp only
  split
  · exact refl s
  · split
    · exact trans (t := s.modRing n _) ⟨rfl, rfl⟩ (sendVector _ _)
    · exact ⟨rfl, rfl⟩

theorem ringPut (n : Nat) (ws : List Word) (dma : Dma) (s : State) : Calm s (ringPut n ws dma s).1 := by
  unfold Machine.ringPut
  extract_lets r s₁ s₂ prod s₃ s₄
  split
  · exact refl s
  · split
    · exact trans (t := s.modRing n _) ⟨rfl, rfl⟩ (sendVector _ 0)
    · have retried : Calm s s₁ := by
        simp only [s₁]
        split
        · exact recordOpen s _ _ _ _
        · exact refl s
      have shadowed : Calm s₃ s₄ := by
        simp only [s₄]
        split
        · exact refl s₃
        · exact writeOut s₃ _ _
      have moved : Calm s₂ s₃ := ⟨rfl, rfl⟩
      exact (((retried.trans (writeOut s₁ _ _)).trans moved).trans shadowed).trans (ringIrq n s₄)

theorem skipIntervals (s : State) (c cause : Nat) : Calm s (s.skipIntervals c cause) := by
  unfold State.skipIntervals State.streamGaps
  extract_lets cap b s₁ cap' r s₂
  have skipped : Calm s s₁ := ⟨rfl, rfl⟩
  have sent : Calm s₁ s₂ := foldl (fun s l => ringPut _ _ _ s) _ s₁
  split
  · split
    · exact skipped
    · exact (skipped.trans sent).trans ⟨rfl, rfl⟩
  · exact skipped

theorem acqUnpause (s : State) : Calm s (acqUnpause s) := 
  foldl (f := fun s (e : Nat × Capture) => s.skipIntervals e.1 3) (fun s e => skipIntervals s e.1 3) _ s

theorem loopsFresh (s : State) : Calm s (loopsFresh s) :=
  foldl (f := fun s c => s.modLoopCh c fun k => { k with fresh := true, released := none }) (fun _ _ => ⟨rfl, rfl⟩) _ s

theorem timeResumes (s : State) : Calm s (timeResumes s) := by
  unfold Machine.timeResumes
  split <;> exact ⟨rfl, rfl⟩

/-- 18 R610: what the end of GRAZE brings back. -/
theorem settleGraze (s : State) : Calm s (settleGraze s) := by
  unfold Machine.settleGraze
  split
  · have woken : Calm s (canUngraze (s.modPwr fun p => { p with inGraze := false })) := ⟨rfl, rfl⟩
    exact (woken.trans (acqUnpause _)).trans (loopsFresh _)
  · exact refl s

theorem clearDomainMemory (d : Nat) (s : State) : Calm s (clearDomainMemory d s) := by
  unfold Machine.clearDomainMemory
  split
  · exact ((zeroBytes s _ _).trans (zeroBytes _ _ _)).trans ⟨rfl, rfl⟩
  · exact zeroBytes s _ _
  · exact zeroBytes s _ _
  · exact ⟨rfl, rfl⟩
  · exact refl s

end Calm

theorem Stands.calm {k : Nat} (h : Stands k s) (hc : Calm s t) : Stands k t := h.of_pwr hc.1

theorem settle_stands {k : Nat} {f : Deferred → Bool} {g : Deferred → Nat × List Word} (h : Stands k s) : Stands k (s.settle f g) :=
  h.of_pwr (by rw [(State.settle_replied s f g).pwr])

/-- R603, R621: a domain that is ON again has not failed, and the command that asked for it is answered. -/
theorem raised_stands {k : Nat} {m : Domain} (hwf : Tab.wf {} s.pwr.domains = true) (hon : (domain s k).state = .on)
    (hq : s.host.deferred = [d]) (hop : d.op = .pwrDomainRetry) (hdata : d.data = [k]) :
    Stands k (raised k m s) ∧ (raised k m s).host.deferred = [] := by
  unfold raised
  extract_lets s₁ s₂ s₃
  have first : Calm s s₁ := by
    simp only [s₁]
    split
    · exact Calm.recordOpen s _ _ _ _
    · exact Calm.refl s
  have second : Calm s₁ s₂ := by
    simp only [s₂]
    split
    · unfold wokenFromOff
      split
      · exact ⟨rfl, rfl⟩
      · exact Calm.refl s₁
    · exact Calm.refl s₁
  have third : Calm s₂ s₃ := by
    simp only [s₃]
    split
    · exact (Calm.clearDomainMemory k s₂).trans ⟨rfl, rfl⟩
    · exact Calm.refl s₂
  have calm := (first.trans second).trans third
  have wf₃ : Tab.wf {} s₃.pwr.domains = true := by
    rw [calm.1]
    exact hwf
  have domain₃ : domain s₃ k = domain s k := by
    unfold domain
    rw [calm.1]
  refine ⟨settle_stands ⟨modDomain_wf wf₃, ?_, ?_⟩, ?_⟩
  · rw [domain_modDomain wf₃, if_pos rfl]
  · rw [domain_modDomain wf₃, if_pos rfl]
    exact (congrArg Domain.state domain₃).trans hon
  · have mine : (d.op == .pwrDomainRetry && d.data == [k]) = true := by
      rw [hop, hdata, beq_self_eq_true, beq_self_eq_true]
      rfl
    rw [settle_deferred]
    change s₃.host.deferred.filter _ = []
    rw [calm.2, hq, List.filter_cons, mine]
    rfl

theorem finishWake_stands {k : Nat} (h : Stands k s) (hq : s.host.deferred = []) : Stands k (finishWake s) ∧ (finishWake s).host.deferred = [] := by
  unfold finishWake
  split
  · have woken : Calm s ((s.modPwr fun p => { p with waking := false }).setMode .ready) := Calm.trans (t := s.modPwr fun p => { p with waking := false })
      ⟨rfl, rfl⟩ (Calm.setMode _ _)
    refine ⟨settle_stands (h.calm woken), ?_⟩
    rw [settle_deferred, woken.2, hq]
    rfl
  · split
    · exact ⟨h.of_pwr rfl, hq⟩
    · exact ⟨h, hq⟩

/-- R603, R621: the end of a raising. -/
theorem transitionDone_stands {k : Nat} (hwf : Tab.wf {} s.pwr.domains = true) (hq : s.host.deferred = [d]) (hop : d.op = .pwrDomainRetry)
    (hdata : d.data = [k]) (hgoing : (domain s k).going = some .on) (hover : (domain s k).since + clocksOfUs (transitionUs k (domain s k) .on) ≤ s.now) :
    Stands k (transitionDone k s) ∧ (transitionDone k s).host.deferred = [] := by
  have due : ((domain s k).going.filter fun p => (domain s k).since + clocksOfUs (transitionUs k (domain s k) p) ≤ s.now) = some .on := by
    rw [hgoing, Option.filter_some, if_pos (decide_eq_true hover)]
  have wf₁ : Tab.wf {} (s.modDomain k fun m => { m with state := .on, going := none, queued := none, cutShort := false }).pwr.domains = true :=
    modDomain_wf hwf
  have on₁ : (domain (s.modDomain k fun m => { m with state := .on, going := none, queued := none, cutShort := false }) k).state = .on := by
    rw [domain_modDomain hwf, if_pos rfl]
  have hq₁ : (s.modDomain k fun m => { m with state := .on, going := none, queued := none, cutShort := false }).host.deferred = [d] := hq
  unfold transitionDone
  dsimp only
  rw [due]
  dsimp only
  rw [if_neg fun h => h.2 rfl]
  generalize s.modDomain k (fun m => { m with state := .on, going := none, queued := none, cutShort := false }) = v at wf₁ on₁ hq₁
  have calm : Calm v (if k = 4 then timeResumes v else v) := by
    split
    · exact Calm.timeResumes v
    · exact Calm.refl v
  have resumed : Stands k (stateReached k (domain s k) .on v) ∧ (stateReached k (domain s k) .on v).host.deferred = [] := by
    refine raised_stands (by rw [calm.1]; exact wf₁) ?_ (by rw [calm.2]; exact hq₁) hop hdata
    rw [domain, calm.1]
    exact on₁
  generalize stateReached k (domain s k) .on v = x at resumed
  obtain ⟨stands, empty⟩ := resumed
  split
  · obtain ⟨stands', host⟩ := retarget_stands stands
    exact finishWake_stands stands' (by rw [host]; exact empty)
  · obtain ⟨stands', host⟩ := rechoose_stands stands
    exact finishWake_stands stands' (by rw [host]; exact empty)

/-! GRAPH.CONTROL, GRAPH.VAR_READ and GRAPH.VAR_WRITE on a device without a control cycle (R155, R157, R160). -/

theorem fillSlot_rest (c : Nat) (s : State) : (fillSlot c s).graph = s.graph ∧ (fillSlot c s).dev = s.dev ∧ (fillSlot c s).mem = s.mem := by
  unfold fillSlot
  dsimp only
  split
  · exact ⟨rfl, rfl, rfl⟩
  · split <;> exact ⟨rfl, rfl, rfl⟩

theorem refill_rest (s : State) (c : Nat) : (s.refill c).graph = s.graph ∧ (s.refill c).dev = s.dev ∧ (s.refill c).mem = s.mem := by
  have moved : ∃ f, s.refill c = (fillSlot c (fillSlot c (s.modCore c f))).markHigh c := ⟨_, rfl⟩
  obtain ⟨f, moved⟩ := moved
  obtain ⟨graph₂, dev₂, mem₂⟩ := fillSlot_rest c (s.modCore c f)
  obtain ⟨graph₁, dev₁, mem₁⟩ := fillSlot_rest c (fillSlot c (s.modCore c f))
  rw [moved]
  generalize fillSlot c (fillSlot c (s.modCore c f)) = x at graph₁ dev₁ mem₁
  exact ⟨graph₁.trans graph₂, dev₁.trans dev₂, mem₁.trans mem₂⟩

/-- `t` is `s` but for slot `n`, whose HELD is `held`; the device and the memory are as they were. -/
structure SlotHeld (n : Nat) (held : Bool) (s t : State) : Prop where
  dev : t.dev = s.dev
  mem : t.mem = s.mem
  wf : Tab.wf {} t.graph.slots
  own : (slotOf t n).held = held
  others : ∀ m, m ≠ n → slotOf t m = slotOf s m

namespace SlotHeld

variable {n : Nat} {held : Bool}

theorem refl (hwf : Tab.wf {} s.graph.slots) (hheld : (slotOf s n).held = held) : SlotHeld n held s s := ⟨rfl, rfl, hwf, hheld, fun _ _ => rfl⟩

theorem then_same (h : SlotHeld n held s t) (hslots : u.graph.slots = t.graph.slots) (hdev : u.dev = t.dev) (hmem : u.mem = t.mem) : SlotHeld n held s u := by
  have same (m : Nat) : slotOf u m = slotOf t m := by
    unfold slotOf
    rw [hslots]
  exact ⟨hdev.trans h.dev, hmem.trans h.mem, by rw [hslots]; exact h.wf, (congrArg GSlot.held (same n)).trans h.own,
    fun m hm => (same m).trans (h.others m hm)⟩

theorem set (hwf : Tab.wf {} s.graph.slots) {f : GSlot → GSlot} (hf : (f (slotOf s n)).held = held) : SlotHeld n held s (s.modSlot n f) :=
  ⟨rfl, rfl, modSlot_wf hwf, (congrArg GSlot.held ((look_upd f n n hwf).trans (if_pos rfl)) :).trans hf,
    fun m hm => (look_upd f n m hwf).trans (if_neg hm)⟩

theorem modSlot (h : SlotHeld n held s t) {f : GSlot → GSlot} (hf : ∀ k, (f k).held = k.held) : SlotHeld n held s (t.modSlot n f) := by
  have next := set (n := n) (held := held) h.wf (f := f) ((hf _).trans h.own)
  exact ⟨next.dev.trans h.dev, next.mem.trans h.mem, next.wf, next.own, fun m hm => (next.others m hm).trans (h.others m hm)⟩

theorem refillAll (h : SlotHeld n held s t) : SlotHeld n held s t.refillAll := by
  have all (l : List Nat) : ∀ t, SlotHeld n held s t → SlotHeld n held s (l.foldl State.refill t) := by
    induction l with
    | nil => exact fun t h => h
    | cons c l ih =>
      intro t h
      obtain ⟨graph, dev, mem⟩ := refill_rest t c
      exact ih _ (h.then_same (by rw [graph]) dev mem)
  exact all _ t h

theorem endStep (h : SlotHeld n held s t) (next ran tag : Nat) : SlotHeld n held s (t.endStep n next ran tag) := by
  have replied := State.settle_replied (t.modSlot n fun k => { k with stepping := none }) (fun d => d.op == .graphStep && d.data.headD 9 == n)
    fun _ => (stOk, [wd next, wd ran, wd tag])
  exact (h.modSlot (f := fun k => { k with stepping := none }) fun _ => rfl).then_same (congrArg GraphUnit.slots replied.graph) replied.dev replied.mem

theorem pauseStep (h : SlotHeld n held s t) (ran tag : Nat) : SlotHeld n held s (t.pauseStep n ran tag) := by
  unfold State.pauseStep
  split
  · exact h.endStep _ _ _
  · exact (h.then_same (u := t.takeFree.2) rfl rfl rfl).endStep _ _ _

/-- A slot that is not held within an execution makes no step. -/
theorem stepOn (h : SlotHeld n held s t) (hruns : slotState t n ≠ 2) : SlotHeld n held s (t.stepOn n) := by
  unfold State.stepOn
  split
  · rw [if_pos hruns]
    exact h.pauseStep _ _
  · rw [if_pos hruns]
    exact h.endStep _ _ _
  · exact h

end SlotHeld

theorem slotState_ne {n : Nat} (hheld : (slotOf s n).held = false) (hmode : s.dev.mode ≠ .hold) : slotState s n ≠ 2 := by
  unfold slotState
  dsimp only
  split
  · decide
  · rw [hheld, beq_false_of_ne hmode]
    decide

theorem slotState_hold {n : Nat} (hmode : s.dev.mode = .hold) : slotState s n ≠ 1 := by
  unfold slotState
  dsimp only
  rw [hmode, beq_self_eq_true, Bool.or_true]
  split <;> simp

/-- R155: holding a slot, or letting it go on. -/
theorem slotControl_held {n a : Nat} (hwf : Tab.wf {} s.graph.slots) (ha : a = 2 ∨ a = 3) (c : Nat) :
    ∃ v, slotControl n a c s = (v, stOk) ∧ SlotHeld n (decide (a = 2)) s v := by
  rcases ha with rfl | rfl
  · exact ⟨_, rfl, (SlotHeld.set hwf (f := fun q => { q with held := true }) rfl).refillAll⟩
  · have body : slotControl n 3 c s = if ¬ (slotOf s n).held then (s, stOk)
        else (if slotState (s.modSlot n fun q => { q with held := false }) n = 1 then
          ((((s.modSlot n fun q => { q with held := false }).continueExec n).refillAll.stepOn n), stOk)
        else (s.modSlot n fun q => { q with held := false }, stOk)) := rfl
    have freed : SlotHeld n false s (s.modSlot n fun q => { q with held := false }) := SlotHeld.set hwf rfl
    rw [body]
    by_cases h : (slotOf s n).held = true
    · rw [if_neg (not_not.mpr h)]
      generalize s.modSlot n (fun q => { q with held := false }) = x at freed
      by_cases hruns : slotState x n = 1
      · rw [if_pos hruns]
        refine ⟨_, rfl, ?_⟩
        have going := (freed.modSlot (f := fun k => { k with exec := k.exec.map fun x' => { x' with due := devCycle x } }) fun _ => rfl).refillAll
        refine going.stepOn (slotState_ne going.own fun hhold => ?_)
        rw [going.dev, ← freed.dev] at hhold
        exact slotState_hold hhold hruns
      · rw [if_neg hruns]
        exact ⟨_, rfl, freed⟩
    · rw [if_pos h]
      exact ⟨s, rfl, SlotHeld.refl hwf (Bool.eq_false_iff.mpr h)⟩

theorem cmdGraphControl_now {p : Packet} {n a : Nat} (hcycle : hasCycle s = false) (hlen : p.len = 1) (hres : reservedSet (p.w 0) 0xFFFFFFE0 = false)
    (hn : n = field (p.w 0) 0 2) (ha : a = field (p.w 0) 2 3) (ha4 : a < 4) (hactive : a = 0 → (activeBank s n).state = .active) {v : State}
    (hv : slotControl n a (devCycle s) s = (v, stOk)) : cmdGraphControl p s = (v, .done stOk (controlWords v n)) := by
  have slot : slotArg p = n := hn.symm
  have range : (reservedSet (p.w 0) 0xFFFFFFE0 || decide (4 < a)) = false := by
    rw [hres, decide_eq_false (by omega)]
    rfl
  have init : (a == 4 && slotState s n != 0) = false := by
    rw [beq_false_of_ne (by omega)]
    rfl
  have ready : (a == 0 && (activeBank s n).state != .active) = false := by
    by_cases h : a = 0
    · rw [hactive h, bne_self_eq_false, Bool.and_false]
    · rw [beq_false_of_ne h]
      rfl
  unfold cmdGraphControl
  dsimp only
  rw [slot, ← ha, range, init, ready, hlen]
  refine (checked_of_none_fails _ (by decide)).trans ?_
  rw [if_neg (by rw [hcycle]; simp), hv]
  rfl

theorem cmdGraphVarRead_now {p : Packet} {v : VarLoc} (hcycle : hasCycle s = false) (hlen : p.len = 3) (hres : reservedSet (p.w 0) 0xFFFFFFF8 = false)
    (hres2 : reservedSet (p.w 2) 0xFFE00000 = false) (hmin : 1 ≤ varCount p) (hmax : varCount p ≤ 1024)
    (hv : findVar s (field (p.w 0) 0 2) (p.w 1) = some v) (hrange : varFirst p + varCount p ≤ v.count) (hreads : ∀ e, readFails s v e = false) :
    cmdGraphVarRead p s = (s, .done stOk
      (wd (v.type + place 3 (flag (((List.range (varCount p)).map (varFirst p + ·)).any fun e => (forceOn s v e).isSome))) ::
        ((List.range (varCount p)).map (varFirst p + ·)).flatMap fun e =>
          valueWords v.type (if bit (p.w 0) 2 then storedValue s v e else varValue s v e))) := by
  have found : findVar s (slotArg p) (p.w 1) = some v := hv
  have none : (((List.range (varCount p)).map (varFirst p + ·)).any fun e => readFails s v e && (bit (p.w 0) 2 || (forceOn s v e).isNone)) = false := by
    rw [List.any_eq_false]
    intro e _
    rw [hreads e]
    exact Bool.false_ne_true
  have words : readVars p s = (stOk, wd (v.type + place 3 (flag (((List.range (varCount p)).map (varFirst p + ·)).any fun e => (forceOn s v e).isSome))) ::
      ((List.range (varCount p)).map (varFirst p + ·)).flatMap fun e =>
        valueWords v.type (if bit (p.w 0) 2 then storedValue s v e else varValue s v e)) := by
    unfold readVars
    rw [found]
    dsimp only
    rw [if_neg (Nat.not_lt.mpr hrange), none]
    rfl
  unfold cmdGraphVarRead
  dsimp only
  rw [found, words, hlen, hres, hres2, decide_eq_false (Nat.not_lt.mpr hmax), beq_false_of_ne (Nat.ne_of_gt hmin), hcycle]
  dsimp only
  rw [decide_eq_false (Nat.not_lt.mpr hrange)]
  rfl

theorem cmdGraphVarWrite_now {p : Packet} {v : VarLoc} (hcycle : hasCycle s = false) (hres : reservedSet (p.w 0) 0xFFFFFFFC = false)
    (hres2 : reservedSet (p.w 2) 0xFFE00000 = false) (hmin : 1 ≤ varCount p) (hmax : varCount p ≤ 1024)
    (hv : findVar s (field (p.w 0) 0 2) (p.w 1) = some v) (hlen : p.len = 3 + varCount p * tyWords v.type) (hrange : varFirst p + varCount p ≤ v.count)
    (htype : v.type ≠ 0) (hstate : v.isState = false)
    (hwrites : ∀ e, writeFails s v e = false) : cmdGraphVarWrite p s =
      ((List.range (varCount p)).foldl (fun x k => x.storeValue v (varFirst p + k) (writtenValue p v.type k)) s, .done stOk []) := by
  have found : findVar s (slotArg p) (p.w 1) = some v := hv
  have none : ((List.range (varCount p)).any fun i => writeFails s v (varFirst p + i)) = false := by
    rw [List.any_eq_false]
    intro e _
    rw [hwrites]
    exact Bool.false_ne_true
  have stored : writeVars p s =
      ((List.range (varCount p)).foldl (fun x k => x.storeValue v (varFirst p + k) (writtenValue p v.type k)) s, stOk) := by
    unfold writeVars
    rw [found]
    dsimp only
    rw [hstate, if_neg Bool.false_ne_true, if_neg (Nat.not_lt.mpr hrange), none, if_neg Bool.false_ne_true]
  unfold cmdGraphVarWrite
  dsimp only
  rw [found, stored, hres, hres2, decide_eq_false (Nat.not_lt.mpr hmax), beq_false_of_ne (Nat.ne_of_gt hmin), hcycle]
  dsimp only [Option.getD_some]
  rw [decide_eq_false (Nat.not_lt.mpr hrange), beq_false_of_ne htype, hstate, decide_eq_false (not_not.mpr hlen),
    decide_eq_false (show ¬ p.len < 3 by omega)]
  rfl

end Finishing

/-- Settles O60: completions by `commandComplete_some`, motion by `runDeferred_one`, domains by `transitionDone_stands`, slots by `slotControl_held`. -/
theorem acceptedCommandsFinish : Obligations.AcceptedCommandsFinish := by
  intro t s u hu
  subst hu
  refine ⟨fun k d dma passing v st ws hd hf => ?ends, fun k d dma passing hd hf => ?idle, fun d dma passing a hop hpoison => ?poisoned,
    fun d passing hop hclean hcopy => ?copied, fun d passing hop hclean => ?broken, fun d hop => ?verify,
    fun d hop hwf hloaded hb hclean hverified hvars hwords => ?verified, fun d st ws passing hop hdata => ?safe,
    fun d passing hop hwf hpow hready hparams h8 hhb hquiet => ?reset, fun d passing p n hop hpow hready hparams h8 hp hn hnamed hgroup hdemand => ?demand,
    fun d passing hop hfault hpow => ?fault, fun d n st hq hop hdata hn hrefused => ?startRefused, fun d n hq hop hdata hn hfree => ?start,
    fun d n hq hop hdata hn hone => ?stop, fun d hq hop hdata hmode => ?setPosition, fun d k hk hwf hq hop hdata hgoing hover => ?retry,
    fun p n a h hcycle hwf hlen hres hn ha => ?control, fun p v h hcycle hlen hres hres2 hmin hmax hv hrange hreads => ?varRead,
    fun p v h hcycle hres hres2 hmin hmax hv hlen hrange htype hstate hwrites => ?varWrite⟩
  case ends => exact (exec_commandComplete k dma passing t s).trans (congrArg _ (commandComplete_some hd hf))
  case idle => exact (exec_commandComplete k dma passing t s).trans (congrArg _ (commandComplete_idle hd hf))
  case poisoned => rw [finish_dma hop, dmaFinish_poisoned hpoison]
  case copied => rw [finish_dma hop, dmaFinish_ok hclean hcopy]
  case broken =>
    refine ⟨64 * ((s.at t).takeFree.1.toNat % (d.packet.w 4 / 64)), Nat.mul_mod_right _ _, fun hlen => ?_, fun hcopy => ?_⟩
    · have := Nat.mod_lt (s.at t).takeFree.1.toNat (show 0 < d.packet.w 4 / 64 by omega)
      omega
    · rw [finish_dma hop, dmaFinish_failed hclean hcopy]
  case verify =>
    refine ⟨(graphVerify (slotArg d.packet) (bankArg d.packet) (s.at t)).1, (graphVerify (slotArg d.packet) (bankArg d.packet) (s.at t)).2.1,
      (graphVerify (slotArg d.packet) (bankArg d.packet) (s.at t)).2.2, finish_verify hop, fun h1 h2 => ?_⟩
    have stays : graphVerify (slotArg d.packet) (bankArg d.packet) (s.at t) = (s.at t, stRange, []) := if_pos ⟨h1, h2⟩
    rw [stays]
    exact ⟨rfl, rfl⟩
  case verified =>
    obtain ⟨v, ws, done, rest⟩ := graphVerify_empty hwf rfl hloaded hb hclean hverified hvars hwords
    exact ⟨v, ws, by rw [finish_verify hop, done], rest⟩
  case safe => exact finish_safe hop hdata
  case reset =>
    have calm : ((bitsOf 8 (resetGroups (d.packet.w 0) (s.at t))).any fun n => inputDemand (s.at t) n || bit (s.at t).isl.inFault n) = false := by
      rw [List.any_eq_false]
      intro n hn
      obtain ⟨hdemand, hfault⟩ := hquiet n (mem_bitsOf_iff.mp hn).1
      rw [hdemand, hfault]
      exact Bool.false_ne_true
    have beats : ¬ ((s.at t).isl.hbAction ≠ 0 ∧ (!hbOk (s.at t)) = true) := fun h => by
      rw [hhb h.1] at h
      exact Bool.false_ne_true h.2
    have done := safeResetNow_eq (passing := passing) hpow hready hparams h8
    rw [calm, if_neg Bool.false_ne_true, if_neg beats] at done
    have pair (p : Nat) := safeReset_pairs (w := d.packet.w 0) hwf (fun u => { u with
      inStop := false, ss1Req := maskOf ((bitsOf 8 u.ss1Req).filter fun p => !(resetPairs (d.packet.w 0) (s.at t)).contains p), hbLost := false })
      (fun _ => rfl) (maskOf (resetPairs (d.packet.w 0) (s.at t))) p
    refine ⟨_, by rw [finish_reset hop, done], rfl, ?_, ?_, fun p hp hnamed hoff => ?_, fun p hp hno => ?_⟩
    · rw [pairs_foldl_modPairSto]
      rfl
    · rw [pairs_foldl_modPairSto]
      rfl
    · rw [pair p, if_pos (mem_resetPairs.mpr ⟨hp, hnamed, hoff⟩)]
      exact ⟨rfl, rfl, rfl⟩
    · rw [pair p, if_neg]
      intro hmem
      obtain ⟨-, hnamed, hoff⟩ := mem_resetPairs.mp hmem
      rcases hno with hno | hno
      · exact Bool.false_ne_true (hno.symm.trans hnamed)
      · exact hno hoff
  case demand =>
    have found : ((bitsOf 8 (resetGroups (d.packet.w 0) (s.at t))).any fun n => inputDemand (s.at t) n || bit (s.at t).isl.inFault n) = true :=
      List.any_eq_true.mpr ⟨n, mem_resetGroups hp hn hnamed hgroup, Bool.or_eq_true_iff.mpr hdemand⟩
    rw [finish_reset hop, safeResetNow_eq hpow hready hparams h8, if_pos found]
  case fault =>
    have refused : islandRefusal (s.at t) true true = some stSfFault := by
      unfold islandRefusal
      dsimp only
      rw [hpow, hfault]
      rfl
    have done : safeResetNow (d.packet.w 0) passing (s.at t) = (s.at t, stSfFault) := by
      unfold safeResetNow
      rw [refused]
    rw [finish_reset hop, done]
  case startRefused =>
    have other {op : Op} (hne : op ≠ .axisStart) : ∀ e ∈ (s.at t).host.deferred, e.op ≠ op := fun e he => by
      rw [hq, List.mem_singleton] at he
      rw [he, hop]
      exact Ne.symm hne
    have now : axisStartNow d.packet ((s.at t).modHost fun h => { h with deferred := [] }) =
        ((s.at t).modHost fun h => { h with deferred := [] }, .done st []) := by
      unfold axisStartNow
      dsimp only
      rw [← hn, show startRefusal ((s.at t).modHost fun h => { h with deferred := [] }) n = some st from hrefused]
    unfold axisCycleStart
    rw [runDeferred_other (other (by decide)), runDeferred_other (other (by decide))]
    exact runDeferred_one hq hop hdata now
  case start =>
    have other {op : Op} (hne : op ≠ .axisStart) : ∀ e ∈ (s.at t).host.deferred, e.op ≠ op := fun e he => by
      rw [hq, List.mem_singleton] at he
      rw [he, hop]
      exact Ne.symm hne
    have now : axisStartNow d.packet ((s.at t).modHost fun h => { h with deferred := [] }) =
        (((s.at t).modHost fun h => { h with deferred := [] }).axisStart n (field (d.packet.w 1) 0 16) true, .done stOk []) := by
      unfold axisStartNow
      dsimp only
      rw [← hn, show startRefusal ((s.at t).modHost fun h => { h with deferred := [] }) n = none from hfree]
    unfold axisCycleStart
    rw [runDeferred_other (other (by decide)), runDeferred_other (other (by decide))]
    exact runDeferred_one hq hop hdata now
  case stop =>
    obtain ⟨absent, stops⟩ := axisStopNow_single (s := (s.at t).modHost fun h => { h with deferred := [] }) hn hone
    have after {v : State} {st : Nat} {op : Op} {now : Packet → State → State × Verdict} (hv : v.host.deferred = []) :
        (v.answer .axisStop d.packet st []).runDeferred op now = v.answer .axisStop d.packet st [] := by
      refine runDeferred_other fun e he => ?_
      rw [answer_deferred, hv] at he
      cases he
    refine ⟨fun hkind => ?_, fun hkind h3 => ?_⟩
    · unfold axisCycleStart
      rw [runDeferred_one hq hop hdata (absent hkind), after rfl, after rfl]
    · have left := axisMoved_deferred (axisStop_moved ((s.at t).modHost fun h => { h with deferred := [] }) n (field (d.packet.w 0) 8 2))
      unfold axisCycleStart
      rw [runDeferred_one hq hop hdata (stops hkind h3), after left, after left]
  case setPosition =>
    have other : ∀ e ∈ (s.at t).host.deferred, e.op ≠ .axisStop := fun e he => by
      rw [hq, List.mem_singleton] at he
      rw [he, hop]
      decide
    have now : axisSetNow d.packet ((s.at t).modHost fun h => { h with deferred := [] }) =
        ((s.at t).modHost fun h => { h with deferred := [] }, .done stBadMode []) := if_pos hmode
    unfold axisCycleStart
    rw [runDeferred_other other, runDeferred_one hq hop hdata now]
    refine runDeferred_other fun e he => ?_
    rw [answer_deferred] at he
    cases he
  case retry =>
    obtain ⟨stands, empty⟩ := transitionDone_stands hwf hq hop hdata hgoing hover
    have calm := Calm.settleGraze (transitionDone k (s.at t))
    obtain ⟨-, failed, state⟩ := stands.calm calm
    exact ⟨_, event_of (decide_eq_true hk) t (fun s => settleGraze (transitionDone k s)) s, failed, state, calm.2.trans empty⟩
  case control =>
    have done (v : State) (ha4 : a < 4) (hactive : a = 0 → (activeBank (s.at t) n).state = .active)
        (hv : slotControl n a (devCycle (s.at t)) (s.at t) = (v, stOk)) :
        Answers (.graphControl p) .graphControl p (s.at t) v (controlWords v n) :=
      command_done (body := cmdGraphControl) h (cmdGraphControl_now hcycle hlen hres hn ha ha4 hactive hv)
    refine ⟨fun h0 hactive => ?_, fun h1 => ?_, fun h23 => ?_⟩
    · by_cases hon : (slotOf (s.at t) n).enabled = true
      · refine ⟨s.at t, done _ (by omega) (fun _ => hactive) ?_, hon, fun _ _ => rfl, rfl, rfl⟩
        subst h0
        rw [slotControl, if_neg (not_not.mpr hactive), if_pos hon]
      · have found (m : Nat) := look_upd (fun q : GSlot => { q with enabled := true, first := true, origin := some (devCycle (s.at t)) }) n m hwf
        refine ⟨(s.at t).modSlot n fun q => { q with enabled := true, first := true, origin := some (devCycle (s.at t)) },
          done _ (by omega) (fun _ => hactive) ?_, (congrArg GSlot.enabled ((found n).trans (if_pos rfl)) :),
          fun m hm => (found m).trans (if_neg hm), rfl, rfl⟩
        subst h0
        rw [slotControl, if_neg (not_not.mpr hactive), if_neg hon]
    · have found (m : Nat) := look_upd (fun q : GSlot => { q with enabled := false, origin := none }) n m hwf
      refine ⟨(s.at t).modSlot n fun q => { q with enabled := false, origin := none }, done _ (by omega) (fun h0 => absurd h0 (by omega)) ?_,
        (congrArg GSlot.enabled ((found n).trans (if_pos rfl)) :), (congrArg GSlot.origin ((found n).trans (if_pos rfl)) :),
        fun m hm => (found m).trans (if_neg hm), rfl, rfl⟩
      rw [h1]
      rfl
    · obtain ⟨v, hv, held⟩ := slotControl_held hwf h23 (devCycle (s.at t))
      exact ⟨v, done v (by omega) (fun h0 => absurd h0 (by omega)) hv, held.own, held.others, held.mem, held.dev⟩
  case varRead =>
    exact command_done (body := cmdGraphVarRead) h (cmdGraphVarRead_now hcycle hlen hres hres2 hmin hmax hv hrange hreads)
  case varWrite =>
    exact command_done (body := cmdGraphVarWrite) h (cmdGraphVarWrite_now hcycle hres hres2 hmin hmax hv hlen hrange htype hstate hwrites)

end Sys2Proof.Machine
end
section
/-! What tokens, delays and ends of executions leave as it was (05 R162–R183; 04 R128, R140, R141). -/

namespace Sys2Proof.Machine

variable {s t u : State}

/-- `t` is `s` but for memory, programs and scheduler, the host's queues, the output frames, and what a fault report moves. -/
def Worked (s t : State) : Prop :=
  Reacted { s with mem := t.mem, keep := t.keep, graph := t.graph, sched := t.sched, drove := t.drove, host := t.host } t

namespace Worked

theorem refl (s : State) : Worked s s := rfl

theorem trans (h : Worked s t) (h' : Worked t u) : Worked s u := by
  unfold Worked Reacted at *
  rw [h', h]

theorem of_reacted (h : Reacted s t) : Worked s t := by
  unfold Worked Reacted at *
  rw [h]

theorem of_replied (h : s.Replied t) : Worked s t := by
  obtain ⟨_, _, _, rfl⟩ := h
  rfl

theorem now_eq (h : Worked s t) : t.now = s.now := by unfold Worked Reacted at h; rw [h]
theorem boot_eq (h : Worked s t) : t.boot = s.boot := by unfold Worked Reacted at h; rw [h]
theorem isl_eq (h : Worked s t) : t.isl = s.isl := by unfold Worked Reacted at h; rw [h]
theorem cyc_eq (h : Worked s t) : t.cyc = s.cyc := by unfold Worked Reacted at h; rw [h]
theorem axis_eq (h : Worked s t) : t.axis = s.axis := by unfold Worked Reacted at h; rw [h]
theorem adc_eq (h : Worked s t) : t.adc = s.adc := by unfold Worked Reacted at h; rw [h]

end Worked

/-- `t` is `s` but for programs and scheduler, replies and records. -/
def Plain (s t : State) : Prop :=
  t = { s with
    outbox := t.outbox, fresh := t.fresh, tally := t.tally, host := t.host, graph := t.graph, sched := t.sched
    drove := { s.drove with upOut := t.drove.upOut } }

namespace Plain

theorem refl (s : State) : Plain s s := rfl

theorem trans (h : Plain s t) (h' : Plain t u) : Plain s u := by
  unfold Plain at *
  rw [h', h]

theorem worked (h : Plain s t) : Worked s t := by
  unfold Plain at h
  rw [h]
  rfl

theorem dev_eq (h : Plain s t) : t.dev = s.dev := by unfold Plain at h; rw [h]

end Plain

/-- `t` follows from `s` by moving tokens, entries of ready lists and delays: what the cores run goes on, delay lists only shrink, and with no
token in the spill area none gets there, so that no fault is reported. Where no token leaves an operation (`¬ p`), memory and mode stay. -/
structure Sent (p : Prop) (s t : State) : Prop where
  worked : Worked s t
  plain : ¬ p → Plain s t
  deferred : t.host.deferred ⊆ s.host.deferred
  cores : Tab.wf {} s.sched.cores → Tab.wf {} t.sched.cores ∧
    ∀ c, (coreOf t c).running = (coreOf s c).running ∧ (coreOf t c).opsRun = (coreOf s c).opsRun
  slots : Tab.wf {} s.graph.slots → Tab.wf {} t.graph.slots ∧
    ∀ n y, (slotOf t n).exec = some y → ∃ x, (slotOf s n).exec = some x ∧ y.delays ⊆ x.delays
  spill : s.sched.spill = [] → t.sched.spill = [] ∧ t.dev = s.dev

theorem coreOf_modCore {c : Nat} {f : Core → Core} (hwf : Tab.wf {} s.sched.cores) (d : Nat) :
    coreOf (s.modCore c f) d = if d = c then f (coreOf s d) else coreOf s d := look_upd f c d hwf

theorem modCore_wf {c : Nat} {f : Core → Core} (hwf : Tab.wf {} s.sched.cores) : Tab.wf {} (s.modCore c f).sched.cores := upd_wf c f hwf

namespace Sent

variable {p : Prop}

theorem refl (s : State) : Sent p s s :=
  ⟨.refl s, fun _ => .refl s, fun _ h => h, fun h => ⟨h, fun _ => ⟨rfl, rfl⟩⟩, fun h => ⟨h, fun _ y hy => ⟨y, hy, fun _ h => h⟩⟩,
    fun h => ⟨h, rfl⟩⟩

theorem trans (h : Sent p s t) (h' : Sent p t u) : Sent p s u := by
  refine ⟨h.worked.trans h'.worked, fun hp => (h.plain hp).trans (h'.plain hp), fun _ hd => h.deferred (h'.deferred hd), fun hwf => ?_,
    fun hwf => ?_, fun hs => ?_⟩
  · obtain ⟨wf, runs⟩ := h.cores hwf
    obtain ⟨wf', runs'⟩ := h'.cores wf
    exact ⟨wf', fun c => ⟨(runs' c).1.trans (runs c).1, (runs' c).2.trans (runs c).2⟩⟩
  · obtain ⟨wf, delays⟩ := h.slots hwf
    obtain ⟨wf', delays'⟩ := h'.slots wf
    refine ⟨wf', fun n y hy => ?_⟩
    obtain ⟨x, hx, sub⟩ := delays' n y hy
    obtain ⟨z, hz, sub'⟩ := delays n x hx
    exact ⟨z, hz, fun _ h => sub' (sub h)⟩
  · obtain ⟨none, dev⟩ := h.spill hs
    obtain ⟨none', dev'⟩ := h'.spill none
    exact ⟨none', dev'.trans dev⟩

theorem foldl {α : Type} {f : State → α → State} (hf : ∀ s a, Sent p s (f s a)) : ∀ (l : List α) (s : State), Sent p s (l.foldl f s)
  | [], s => refl s
  | a :: l, s => (hf s a).trans (foldl hf l (f s a))

/-- What touches neither programs nor scheduler, nor the device's mode. -/
theorem of_rest (h : Worked s t) (hplain : ¬ p → Plain s t) (hhost : t.host.deferred ⊆ s.host.deferred) (hgraph : t.graph.slots = s.graph.slots)
    (hsched : t.sched = s.sched) (hdev : t.dev = s.dev) : Sent p s t := by
  refine ⟨h, hplain, hhost, fun hwf => ?_, fun hwf => ?_, fun hs => ⟨hsched ▸ hs, hdev⟩⟩
  · unfold coreOf
    rw [hsched]
    exact ⟨hwf, fun _ => ⟨rfl, rfl⟩⟩
  · unfold slotOf
    rw [hgraph]
    exact ⟨hwf, fun _ y hy => ⟨y, hy, fun _ h => h⟩⟩

theorem settle (s : State) (f : Deferred → Bool) (g : Deferred → Nat × List Word) : Sent p s (s.settle f g) := by
  have replied := State.settle_replied s f g
  refine of_rest (.of_replied replied) (fun _ => ?_) (fun d hd => ?_) (congrArg GraphUnit.slots replied.graph) replied.sched replied.dev
  · obtain ⟨h, o, d, eq⟩ := replied
    unfold Plain
    rw [eq]
  · rw [settle_deferred] at hd
    exact List.mem_of_mem_filter hd

theorem takeFree (s : State) : Sent p s s.takeFree.2 := of_rest rfl (fun _ => rfl) (fun _ h => h) rfl rfl rfl

theorem recordOpen (s : State) (unit ev sev : Nat) (transient : Bool) : Sent p s (s.recordOpen unit ev sev transient) := by
  obtain ⟨n, y, recorded⟩ := s.recordOpen_eq unit ev sev transient
  rw [recorded]
  exact of_rest rfl (fun _ => rfl) (fun _ h => h) rfl rfl rfl

/-- What may touch memory, where a token leaves an operation. -/
theorem of_worked (h : Worked s t) (hhost : t.host.deferred = s.host.deferred) (hgraph : t.graph.slots = s.graph.slots) (hsched : t.sched = s.sched)
    (hdev : t.dev = s.dev) : Sent True s t := of_rest h (fun hp => absurd trivial hp) (fun _ hd => hhost ▸ hd) hgraph hsched hdev

theorem writeNat (s : State) (a n v : Nat) : Sent True s (s.writeNat a n v) := by
  obtain ⟨m, k, written⟩ := s.writeBytes_eq a (bytesOfNat n v)
  rw [State.writeNat, written]
  exact of_worked rfl rfl rfl rfl rfl

theorem storeValue (s : State) (v : VarLoc) (elem value : Nat) : Sent True s (s.storeValue v elem value) := by
  unfold State.storeValue
  extract_lets a s₁
  have cleared : Sent True s s₁ := by
    simp only [s₁]
    split
    · exact of_worked rfl rfl rfl rfl rfl
    · exact refl s
  exact cleared.trans (writeNat s₁ _ _ _)

theorem setOutput (s : State) (k : OpAt) (j value : Nat) : Sent True s (s.setOutput k j value) := by
  unfold State.setOutput
  split
  · exact storeValue s _ _ _
  · exact refl s

theorem modCore (s : State) (c : Nat) {f : Core → Core} (hf : ∀ k, (f k).running = k.running ∧ (f k).opsRun = k.opsRun) : Sent p s (s.modCore c f) := by
  refine ⟨rfl, fun _ => rfl, fun _ h => h, fun hwf => ⟨modCore_wf hwf, fun d => ?_⟩,
    fun hwf => ⟨hwf, fun _ y hy => ⟨y, hy, fun _ h => h⟩⟩, fun hs => ⟨hs, rfl⟩⟩
  rw [coreOf_modCore hwf]
  split
  · exact hf _
  · exact ⟨rfl, rfl⟩

theorem then_modCore {c : Nat} {f : Core → Core} (h : Sent p s t) (hf : ∀ k, (f k).running = k.running ∧ (f k).opsRun = k.opsRun) :
    Sent p s (t.modCore c f) := h.trans (modCore t c hf)

theorem modSlotSched (s : State) (n : Nat) (f : SlotSched → SlotSched) : Sent p s (s.modSlotSched n f) :=
  ⟨rfl, fun _ => rfl, fun _ h => h, fun h => ⟨h, fun _ => ⟨rfl, rfl⟩⟩, fun h => ⟨h, fun _ y hy => ⟨y, hy, fun _ h => h⟩⟩,
    fun h => ⟨h, rfl⟩⟩

theorem unspill (s : State) (e : Nat × Token) : Sent p s (s.modSched fun u => { u with spill := u.spill.erase e }) :=
  ⟨rfl, fun _ => rfl, fun _ h => h, fun h => ⟨h, fun _ => ⟨rfl, rfl⟩⟩, fun h => ⟨h, fun _ y hy => ⟨y, hy, fun _ h => h⟩⟩,
    fun h => ⟨congrArg (List.erase · e) h, rfl⟩⟩

theorem modSlot (s : State) (n : Nat) {f : GSlot → GSlot} (hf : ∀ k y, (f k).exec = some y → ∃ x, k.exec = some x ∧ y.delays ⊆ x.delays) :
    Sent p s (s.modSlot n f) := by
  refine ⟨rfl, fun _ => rfl, fun _ h => h, fun h => ⟨h, fun _ => ⟨rfl, rfl⟩⟩, fun hwf => ⟨modSlot_wf hwf, fun m y hy => ?_⟩,
    fun h => ⟨h, rfl⟩⟩
  rw [show slotOf (s.modSlot n f) m = if m = n then f (slotOf s m) else slotOf s m from look_upd f n m hwf] at hy
  split at hy
  · exact hf _ y hy
  · exact ⟨y, hy, fun _ h => h⟩

/-- What leaves the executions of the slots alone. -/
theorem modSlot_rest (s : State) (n : Nat) {f : GSlot → GSlot} (hf : ∀ k, (f k).exec = k.exec) : Sent p s (s.modSlot n f) :=
  modSlot s n fun k y hy => ⟨y, (hf k).symm.trans hy, fun _ h => h⟩

theorem modExec (s : State) (n : Nat) {f : Exec → Exec} (hf : ∀ x, (f x).delays ⊆ x.delays) : Sent p s (s.modExec n f) :=
  modSlot s n fun k y hy => by
    obtain ⟨x, hx, rfl⟩ := Option.map_eq_some_iff.mp hy
    exact ⟨x, hx, hf x⟩

theorem markHigh (s : State) (c : Nat) : Sent p s (s.markHigh c) := modCore s c fun _ => ⟨rfl, rfl⟩

theorem fillSlot (s : State) (c : Nat) : Sent p s (fillSlot c s) := by
  unfold Machine.fillSlot
  dsimp only
  split
  · exact refl s
  · split
    · exact modCore s c fun _ => ⟨rfl, rfl⟩
    · exact refl s

theorem refill (s : State) (c : Nat) : Sent p s (s.refill c) :=
  trans (t := s.modCore c fun k => { k with
    lists := (k.prefetch.filter fun r => !runnable s r) ++ k.lists, prefetch := k.prefetch.filter (runnable s) })
    (modCore s c fun _ => ⟨rfl, rfl⟩) (((fillSlot _ c).trans (fillSlot _ c)).trans (markHigh _ c))

theorem refillAll (s : State) : Sent p s s.refillAll := foldl refill _ s

theorem displace (s : State) (c : Nat) (r : Ready) : Sent p s (s.displace c r) := by
  unfold State.displace
  dsimp only
  split
  · split
    · exact modCore s c fun _ => ⟨rfl, rfl⟩
    · exact refl s
  · exact refl s

theorem makeReady {n op : Nat} (h : makeReady n op s = some t) : Sent p s t := by
  unfold Machine.makeReady at h
  dsimp only at h
  split at h
  · exact absurd h (by simp)
  · split at h
    · exact absurd h (by simp)
    · rw [Option.some.injEq] at h
      rw [← h]
      refine trans (trans (trans (modCore s _ ?_) (markHigh _ _)) (displace _ _ _)) (refill _ _)
      exact fun _ => ⟨rfl, rfl⟩

theorem acceptToken {k : Token} (h : acceptToken k s = some t) : Sent p s t := by
  unfold Machine.acceptToken at h
  dsimp only at h
  split at h
  · rw [Option.some.injEq] at h
    rw [← h]
    exact refl s
  · rename_i x hx
    have counted : Sent p s (s.modExec k.slot fun y => { y with tokens := put 0 y.tokens k.op (look 0 x.tokens k.op + 1) }) :=
      modExec s _ fun _ _ h => h
    split at h
    · rw [Option.some.injEq] at h
      rw [← h]
      exact counted
    · exact counted.trans (makeReady h)

theorem endStall (s : State) (d : Nat) : Sent p s (s.endStall d) := by
  unfold State.endStall
  split
  · exact modCore s d fun _ => ⟨rfl, rfl⟩
  · exact refl s

theorem drainSources (s : State) (n : Nat) : Sent p s (s.drainSources n) := by
  unfold State.drainSources
  split
  · exact refl s
  · refine foldl (fun s i => ?_) _ s
    split
    · rename_i t ready
      exact (makeReady ready).trans (modExec t n fun _ _ h => h)
    · exact refl s

/-- A core's turn in a pass over the waiting tokens. -/
theorem drainPass (s : State) : Sent p s (drainPass s) := by
  unfold Machine.drainPass
  refine (foldl drainSources _ s).trans (foldl (fun s c => ?_) _ _)
  extract_lets s₁
  have accepted : Sent p s s₁ := by
    simp only [s₁]
    split
    · exact refl s
    · split
      · rename_i t taken
        exact (acceptToken taken).trans (modCore t c fun _ => ⟨rfl, rfl⟩)
      · exact refl s
  refine accepted.trans ?_
  generalize s₁ = s
  split
  · exact refl s
  · split
    · exact then_modCore (unspill s _) fun _ => ⟨rfl, rfl⟩
    · split
      · split
        · refine trans (then_modCore (modCore s _ ?_) ?_) (endStall _ _)
          · exact fun _ => ⟨rfl, rfl⟩
          · exact fun _ => ⟨rfl, rfl⟩
        · exact refl s
      · exact refl s

theorem drain : ∀ (fuel : Nat) (s : State), Sent p s (drain fuel s)
  | 0, s => refl s
  | fuel + 1, s => by
    unfold Machine.drain
    split
    · exact refl s
    · exact (drainPass s).trans (drain fuel _)

theorem drainTokens (s : State) : Sent p s s.drainTokens := drain _ s

/-- R173, R174: a token on its way. Only where the spill area already holds tokens may it be full. -/
theorem sendToken (s : State) (c n op : Nat) : Sent True s (s.sendToken c n op) := by
  have waits (s : State) (e : Nat × Token) : Sent True s (s.modCore c fun z => { z with
      stalled := z.stalled ++ [e], stalledAt := if z.stalled.isEmpty then s.now else z.stalledAt }) := modCore s c fun _ => ⟨rfl, rfl⟩
  have spilled (q : Nat) (k : Token) (hq : s.sched.spill ≠ []) : Sent True s (s.spillToken q k) := by
    have written : Sent True s (s.takeFree.2.writeWord (0x01C00000 + 4 * s.sched.spill.length) s.takeFree.1.toNat) :=
      (takeFree s).trans (writeNat _ _ _ _)
    unfold State.spillToken
    extract_lets i v
    have all : Sent True s (v.modCore q fun z => { z with spilled := sat32 z.spilled }) := then_modCore written fun _ => ⟨rfl, rfl⟩
    refine ⟨?_, fun hp => absurd trivial hp, all.deferred, all.cores, all.slots, fun hs => absurd hs hq⟩
    exact all.worked.trans (t := v.modCore q fun z => { z with spilled := sat32 z.spilled }) rfl
  have full (hq : s.sched.spill ≠ []) : Sent True s s.spillFull := by
    have reacted := Reacted.reportOpen s 4 34 2 false
    refine ⟨.of_reacted reacted, fun hp => absurd trivial hp, fun d hd => ?_, fun hwf => ?_, fun hwf => ?_, fun hs => absurd hs hq⟩
    · unfold State.spillFull at hd
      rw [reacted] at hd
      exact hd
    · unfold coreOf State.spillFull
      rw [reacted]
      exact ⟨hwf, fun _ => ⟨rfl, rfl⟩⟩
    · unfold slotOf State.spillFull
      rw [reacted]
      exact ⟨hwf, fun _ y hy => ⟨y, hy, fun _ h => h⟩⟩
  unfold State.sendToken
  extract_lets q k wait
  split
  · rename_i held
    have hq : s.sched.spill ≠ [] := by
      intro h
      rw [h] at held
      exact absurd held (by simp)
    split
    · exact spilled q k hq
    · exact (full hq).trans (waits _ _)
  · split
    · exact modCore s q fun _ => ⟨rfl, rfl⟩
    · exact waits s _

theorem sendTokens (s : State) (c n op : Nat) : Sent True s (s.sendTokens c n op) :=
  (foldl (f := fun s j => s.sendToken c n j) (fun s j => sendToken s c n j) _ s).trans (drainTokens _)

theorem endStep (s : State) (n next ran tag : Nat) : Sent p s (s.endStep n next ran tag) :=
  trans (t := s.modSlot n fun k => { k with stepping := none }) (modSlot_rest s n fun _ => rfl) (settle _ _ _)

theorem pauseStep (s : State) (n ran tag : Nat) : Sent p s (s.pauseStep n ran tag) := by
  unfold State.pauseStep
  split
  · exact endStep s _ _ _ _
  · exact (takeFree s).trans (endStep _ _ _ _ _)

/-- What each of some cores keeps. -/
theorem updCores (s : State) (l : List Nat) {f : Nat → Core → Core} (hf : ∀ c k, (f c k).running = k.running ∧ (f c k).opsRun = k.opsRun) :
    Sent p s (s.modSched fun u => { u with cores := updAll {} u.cores l f }) := by
  have all (l : List Nat) : ∀ m : Tab Core, Tab.wf {} m → Tab.wf {} (updAll {} m l f) ∧ ∀ c,
      (look {} (updAll {} m l f) c).running = (look {} m c).running ∧ (look {} (updAll {} m l f) c).opsRun = (look {} m c).opsRun := by
    unfold updAll
    induction l with
    | nil => exact fun m h => ⟨h, fun _ => ⟨rfl, rfl⟩⟩
    | cons d l ih =>
      intro m h
      obtain ⟨wf, kept⟩ := ih (upd {} m d (f d)) (upd_wf d (f d) h)
      refine ⟨wf, fun c => ?_⟩
      rw [List.foldl_cons, (kept c).1, (kept c).2, look_upd (f d) d c h]
      split
      · exact hf d _
      · exact ⟨rfl, rfl⟩
  exact ⟨rfl, fun _ => rfl, fun _ h => h, all l _, fun hwf => ⟨hwf, fun _ y hy => ⟨y, hy, fun _ h => h⟩⟩, fun hs => ⟨hs, rfl⟩⟩

theorem stepOn (s : State) (n : Nat) : Sent p s (s.stepOn n) := by
  unfold State.stepOn
  split
  · split
    · exact pauseStep s _ _ _
    · split
      · exact refl s
      · split
        · exact pauseStep s _ _ _
        · split
          · exact refl s
          · refine trans (then_modCore (updCores s _ ?_) ?_) (drainTokens _)
            · exact fun _ _ => ⟨rfl, rfl⟩
            · exact fun _ => ⟨rfl, rfl⟩
  · split
    · exact endStep s _ _ _ _
    · exact refl s
  · exact refl s

theorem routNow (values : List (ImgKey × Nat)) (s : State) : Sent True s (routNow values s) := by
  refine foldl (fun s e => ?_) values s
  split
  · exact of_worked rfl rfl rfl rfl rfl
  · exact of_worked rfl rfl rfl rfl rfl
  · exact refl s

/-- An execution that has ended is gone (R181–R183). -/
theorem endExec (s : State) (n : Nat) : Sent True s (s.endExec n) := by
  unfold State.endExec
  split
  · exact refl s
  · extract_lets now ns longer s₁ s₂ stepped due late waiting s₃ s₄ s₅
    have counted : Sent True s s₁ := modSlotSched s n _
    have recorded : Sent True s₁ s₂ := by
      simp only [s₂]
      split
      · refine trans (recordOpen s₁ _ _ _ _) (modSlot_rest _ n ?_)
        exact fun _ => rfl
      · exact refl s₁
    have ended : Sent True s₂ s₃ := modSlot s₂ n fun _ _ hy => nomatch hy
    have shown : Sent True s₃ s₄ := by
      refine modSlot_rest s₃ n fun k => ?_
      split <;> rfl
    have sent : Sent True s₄ s₅ := by
      simp only [s₅]
      split
      · exact routNow _ s₄
      · exact refl s₄
    have all := (((counted.trans recorded).trans ended).trans shown).trans sent
    cases stepped with
    | none => exact all
    | some st => exact all.trans (endStep s₅ _ _ _ _)

theorem countDown (s : State) (n : Nat) : Sent True s (s.countDown n) := by
  unfold State.countDown
  split
  · exact refl s
  · have counted : Sent True s (s.modExec n fun x => { x with left := x.left - 1 }) := modExec s n fun _ _ h => h
    dsimp only
    split
    · exact counted.trans (endExec _ n)
    · exact counted

end Sent

/-- The delay of operation `op` is off the list of slot `n`. -/
def State.withoutDelay (s : State) (n op : Nat) : State := s.modExec n fun x => { x with delays := x.delays.filter fun d => d.op ≠ op }

/-- A delay that ends, at its tick or cancelled (R176, R177): it is off the list, and what follows moves tokens. -/
theorem endDelay_sent (s : State) (c n op tick : Nat) (cancelled : Bool) : Sent True (s.withoutDelay n op) (s.endDelay c n op tick cancelled) ∨
    (slotOf s n).exec = none ∧ s.endDelay c n op tick cancelled = s := by
  unfold State.endDelay
  split
  · rename_i none
    exact .inr ⟨none, rfl⟩
  · left
    rename_i x _
    extract_lets k s₁ s₂
    change Sent True s₁ _
    split
    · exact Sent.modExec s₁ n fun _ _ h => h
    · have written : Sent True s₁ s₂ := by
        simp only [s₂]
        split
        · exact ((Sent.setOutput s₁ _ _ _).trans (Sent.modSlotSched _ n _)).trans (Sent.modSlot_rest _ n fun _ => rfl)
        · exact (Sent.setOutput s₁ _ _ _).trans (Sent.setOutput _ _ _ _)
      exact ((written.trans (Sent.sendTokens s₂ c n op)).trans (Sent.countDown _ n)).trans (Sent.stepOn _ n)

theorem Sent.endDelay (s : State) (c n op tick : Nat) (cancelled : Bool) : Sent True s (s.endDelay c n op tick cancelled) := by
  rcases endDelay_sent s c n op tick cancelled with sent | ⟨_, same⟩
  · exact (Sent.modExec s n fun _ => List.filter_subset_self _).trans sent
  · rw [same]
    exact .refl s

/-- Delays that end one after another leave what is on the list besides them. -/
theorem foldl_endDelay_gone {n : Nat} {f : State → DelayEntry → State}
    (hf : ∀ s d, ∃ c tick cancelled, f s d = s.endDelay c n d.op tick cancelled) :
    ∀ (l : List DelayEntry) (s : State), Tab.wf {} s.graph.slots → (∀ x, (slotOf s n).exec = some x → x.delays ⊆ l) →
    ∀ y, (slotOf (l.foldl f s) n).exec = some y → y.delays = []
  | [], s, _, hl, y, hy => List.subset_nil.mp (hl y hy)
  | d :: l, s, hwf, hl, y, hy => by
    obtain ⟨c, tick, cancelled, ended⟩ := hf s d
    refine foldl_endDelay_gone hf l (f s d) ?_ (fun z hz => ?_) y hy
    · rw [ended]
      exact ((Sent.endDelay s c n d.op tick cancelled).slots hwf).1
    · rw [ended] at hz
      rcases endDelay_sent s c n d.op tick cancelled with sent | ⟨none, same⟩
      · have removed : slotOf (s.withoutDelay n d.op) n = { slotOf s n with exec := (slotOf s n).exec.map fun x =>
            { x with delays := x.delays.filter fun e => e.op ≠ d.op } } :=
          (look_upd (fun k : GSlot => { k with exec := k.exec.map fun x => { x with delays := x.delays.filter fun e => e.op ≠ d.op } }) n n hwf).trans
            (if_pos rfl)
        obtain ⟨x, hx, sub⟩ := (sent.slots (modSlot_wf hwf)).2 n z hz
        rw [removed] at hx
        obtain ⟨x', hx', rfl⟩ := Option.map_eq_some_iff.mp hx
        intro e he
        obtain ⟨there, other⟩ := List.mem_filter.mp (sub he)
        rcases List.mem_cons.mp (hl x' hx' there) with rfl | left
        · exact absurd other (by simp)
        · exact left
      · rw [same, none] at hz
        exact absurd hz (by simp)

theorem Sent.foldl_endDelay {n : Nat} {f : State → DelayEntry → State} (hf : ∀ s d, ∃ c tick cancelled, f s d = s.endDelay c n d.op tick cancelled)
    (l : List DelayEntry) (s : State) : Sent True s (l.foldl f s) :=
  Sent.foldl (fun s d => by
    obtain ⟨c, tick, cancelled, ended⟩ := hf s d
    rw [ended]
    exact Sent.endDelay s c n d.op tick cancelled) l s

/-- What remains of `Sent` where a delay may begin. -/
structure Passed (s t : State) : Prop where
  worked : Worked s t
  cores : Tab.wf {} s.sched.cores → Tab.wf {} t.sched.cores ∧
    ∀ c, (coreOf t c).running = (coreOf s c).running ∧ (coreOf t c).opsRun = (coreOf s c).opsRun
  spill : s.sched.spill = [] → t.sched.spill = [] ∧ t.dev = s.dev

theorem Sent.passed (h : Sent True s t) : Passed s t := ⟨h.worked, h.cores, h.spill⟩

namespace Passed

theorem trans (h : Passed s t) (h' : Passed t u) : Passed s u := by
  refine ⟨h.worked.trans h'.worked, fun hwf => ?_, fun hs => ?_⟩
  · obtain ⟨wf, runs⟩ := h.cores hwf
    obtain ⟨wf', runs'⟩ := h'.cores wf
    exact ⟨wf', fun c => ⟨(runs' c).1.trans (runs c).1, (runs' c).2.trans (runs c).2⟩⟩
  · obtain ⟨none, dev⟩ := h.spill hs
    obtain ⟨none', dev'⟩ := h'.spill none
    exact ⟨none', dev'.trans dev⟩

theorem startDelay (s : State) (c n op : Nat) : Passed s (startDelay c n op s) := by
  unfold Machine.startDelay
  split
  · exact (Sent.refl s).passed
  · extract_lets k v done tick
    split
    · exact ((Sent.modSlotSched s n _).trans (Sent.endDelay _ c n op _ true)).passed
    · split
      · exact (Sent.endDelay s c n op _ true).passed
      · split
        · exact (Sent.endDelay s c n op _ _).passed
        · exact ⟨rfl, fun h => ⟨h, fun _ => ⟨rfl, rfl⟩⟩, fun h => ⟨h, rfl⟩⟩

end Passed

/-- The operation that core `c` runs is done: the core is free. -/
def State.freeCore (s : State) (c : Nat) (r : Running) : State := s.modCore c fun k => { k with
  running := none, opsRun := sat32 k.opsRun, busyNs := satAdd 64 k.busyNs (nsOf (s.now - r.startedAt)) }

/-- R162: the end of an operation frees its core; what follows moves tokens. -/
theorem endOp_passed (s : State) (c : Nat) (r : Running) : Passed (s.freeCore c r) (s.endOp c r) := by
  unfold State.endOp
  extract_lets s₁ s₂ s₃
  change Passed s₁ _
  split
  · exact ((Sent.refill s₁ c).trans (Sent.stepOn _ _)).passed
  · have stepped : Passed s₁ s₂ := by
      simp only [s₂]
      split
      · refine (Sent.modSlot_rest s₁ r.slot ?_).passed
        exact fun _ => rfl
      · exact (Sent.refl s₁).passed
    have sent : Passed s₂ s₃ := by
      simp only [s₃]
      split
      · exact Passed.startDelay s₂ c _ _
      · exact Passed.startDelay s₂ c _ _
      · exact ((Sent.sendTokens s₂ c _ _).trans (Sent.countDown _ _)).passed
    exact (stepped.trans sent).trans ((Sent.refill s₃ c).trans (Sent.stepOn _ _)).passed

theorem endOp_spec (c : Nat) (r : Running) (hwf : Tab.wf {} s.sched.cores) :
    (coreOf (s.endOp c r) c).running = none ∧ (coreOf (s.endOp c r) c).opsRun = sat32 (coreOf s c).opsRun ∧
    (s.sched.spill = [] → (s.endOp c r).dev = s.dev) ∧ (s.endOp c r).cyc = s.cyc ∧ (s.endOp c r).axis = s.axis ∧ (s.endOp c r).adc = s.adc := by
  have passed := endOp_passed s c r
  have wf : Tab.wf {} (s.freeCore c r).sched.cores := modCore_wf hwf
  have own : coreOf (s.freeCore c r) c = { coreOf s c with
      running := none, opsRun := sat32 (coreOf s c).opsRun, busyNs := satAdd 64 (coreOf s c).busyNs (nsOf (s.now - r.startedAt)) } :=
    (coreOf_modCore (f := fun k => { k with
      running := none, opsRun := sat32 k.opsRun, busyNs := satAdd 64 k.busyNs (nsOf (s.now - r.startedAt)) }) hwf c).trans (if_pos rfl)
  obtain ⟨runs, ops⟩ := (passed.cores wf).2 c
  rw [own] at runs ops
  exact ⟨runs, ops, fun hs => (passed.spill hs).2, passed.worked.cyc_eq, passed.worked.axis_eq, passed.worked.adc_eq⟩

theorem operationComplete_ends {c : Nat} {r : Running} (hwf : Tab.wf {} s.sched.cores) (hr : (coreOf s c).running = some r) (hu : r.urgent = false)
    (hp : r.publishing = none) : (coreOf (operationComplete c s) c).running = none ∧
    (coreOf (operationComplete c s) c).opsRun = sat32 (coreOf s c).opsRun ∧
    (s.sched.spill = [] → (operationComplete c s).dev = s.dev) ∧ (operationComplete c s).cyc = s.cyc ∧ (operationComplete c s).axis = s.axis := by
  have ended : operationComplete c s = s.endOp c r := by
    unfold operationComplete
    rw [hr]
    dsimp only
    rw [hu, hp]
    exact if_neg Bool.false_ne_true
  rw [ended]
  obtain ⟨runs, ops, dev, cyc, axis, -⟩ := endOp_spec c r hwf
  exact ⟨runs, ops, dev, cyc, axis⟩

/-- 08 R277: the outputs of an urgent conversion. -/
theorem urgentComplete_ends {c : Nat} {r : Running} {d : Nat × Nat × Bool} (hwf : Tab.wf {} s.sched.cores) (hr : (coreOf s c).running = some r)
    (hu : r.urgent = true) (hd : (s.adc.urgentDone.find? fun d => d.1 == r.slot && d.2.1 == r.op) = some d) :
    (coreOf (urgentComplete c s) c).running = none ∧ (urgentComplete c s).adc.urgentDone = s.adc.urgentDone.erase d ∧
    (s.sched.spill = [] → (urgentComplete c s).dev = s.dev) ∧ (urgentComplete c s).cyc = s.cyc := by
  have ends : ∃ v, Sent True (s.modAdc fun a => { a with urgentDone := a.urgentDone.erase d }) v ∧ urgentComplete c s = v.endOp c r := by
    unfold urgentComplete
    rw [hr]
    dsimp only
    rw [hd]
    dsimp only
    rw [if_neg (not_not.mpr hu)]
    refine ⟨_, ?_, rfl⟩
    split
    · exact .refl _
    · split
      · exact Sent.setOutput _ _ _ _
      · exact (Sent.setOutput _ _ _ _).trans (Sent.setOutput _ _ _ _)
  obtain ⟨v, written, ended⟩ := ends
  obtain ⟨runs, -, dev, cyc, -, adc⟩ := endOp_spec (s := v) c r (written.cores hwf).1
  rw [ended]
  refine ⟨runs, ?_, fun hs => ?_, cyc.trans written.worked.cyc_eq⟩
  · rw [adc, written.worked.adc_eq]
    rfl
  · obtain ⟨none, same⟩ := written.spill hs
    exact (dev none).trans same

theorem delayRelease_ends {n : Nat} {x : Exec} (hwf : Tab.wf {} s.graph.slots) (hx : (slotOf s n).exec = some x)
    (hd : ∀ d ∈ x.delays, d.tick ≤ usOf s.clock) : (∀ y, (slotOf (delayRelease n s) n).exec = some y → y.delays = []) ∧
    (s.sched.spill = [] → (delayRelease n s).dev = s.dev) ∧ (delayRelease n s).cyc = s.cyc := by
  have all : x.delays.filter (fun d => d.tick ≤ usOf s.clock) = x.delays := List.filter_eq_self.mpr fun d h => decide_eq_true (hd d h)
  have ends : delayRelease n s = x.delays.foldl (fun v d =>
      v.endDelay (homeCore v n d.op) n d.op d.tick (sheds v n && decide (shedTick v n x ≤ d.tick))) s := by
    unfold delayRelease
    rw [hx]
    dsimp only
    rw [all]
  have one (v : State) (d : DelayEntry) : ∃ c tick cancelled,
      v.endDelay (homeCore v n d.op) n d.op d.tick (sheds v n && decide (shedTick v n x ≤ d.tick)) = v.endDelay c n d.op tick cancelled :=
    ⟨_, _, _, rfl⟩
  have sent := Sent.foldl_endDelay one x.delays s
  rw [ends]
  refine ⟨foldl_endDelay_gone one x.delays s hwf fun z hz => ?_, fun hs => (sent.spill hs).2, sent.worked.cyc_eq⟩
  rw [hx, Option.some.injEq] at hz
  rw [hz]
  exact fun _ h => h

theorem shed_ends {n : Nat} {x : Exec} (hwf : Tab.wf {} s.graph.slots) (hx : (slotOf s n).exec = some x) (hruns : slotState s n = 1)
    (hdue : shedTick s n x ≤ usOf s.clock) : (∀ y, (slotOf (shed n s) n).exec = some y → y.delays = []) ∧
    (s.sched.spill = [] → (shed n s).dev = s.dev) ∧ (shed n s).cyc = s.cyc := by
  have runs : sheds s n = true := beq_iff_eq.mpr hruns
  have ends : shed n s = x.delays.foldl (fun v d => v.endDelay (homeCore v n d.op) n d.op d.tick true) s := by
    unfold shed
    rw [hx]
    exact if_neg fun h => h.elim (fun h => h runs) fun h => absurd hdue (Nat.not_le.mpr h)
  have one (v : State) (d : DelayEntry) : ∃ c tick cancelled,
      v.endDelay (homeCore v n d.op) n d.op d.tick true = v.endDelay c n d.op tick cancelled := ⟨_, _, _, rfl⟩
  have sent := Sent.foldl_endDelay one x.delays s
  rw [ends]
  refine ⟨foldl_endDelay_gone one x.delays s hwf fun z hz => ?_, fun hs => (sent.spill hs).2, sent.worked.cyc_eq⟩
  rw [hx, Option.some.injEq] at hz
  rw [hz]
  exact fun _ h => h

end Sys2Proof.Machine
end
section
/-! How a core starts an operation, takes one and spills a token (05 R165, R169, R171, R174; 04 R128). -/

namespace Sys2Proof.Machine

variable {s t u : State}

/-- What the run of an operation leaves as it was. -/
structure Ran (s t : State) : Prop where
  cores : t.sched.cores = s.sched.cores
  cyc : t.cyc = s.cyc
  axis : t.axis = s.axis

namespace Ran

theorem refl (s : State) : Ran s s := ⟨rfl, rfl, rfl⟩

theorem trans (h : Ran s t) (h' : Ran t u) : Ran s u := ⟨h'.cores.trans h.cores, h'.cyc.trans h.cyc, h'.axis.trans h.axis⟩

theorem foldl {α : Type} {f : State → α → State} (hf : ∀ s a, Ran s (f s a)) : ∀ (l : List α) (s : State), Ran s (l.foldl f s)
  | [], s => refl s
  | a :: l, s => (hf s a).trans (foldl hf l (f s a))

theorem of_reacted (h : Reacted s t) : Ran s t := by
  unfold Reacted at h
  rw [h]
  exact ⟨rfl, rfl, rfl⟩

theorem of_replied (h : s.Replied t) : Ran s t := ⟨congrArg SchedUnit.cores h.sched, h.cyc, h.axis⟩

theorem of_triggered (h : Triggered s t) : Ran s t := by
  unfold Triggered at h
  rw [h]
  exact ⟨rfl, rfl, rfl⟩

theorem takeFree (s : State) : Ran s s.takeFree.2 := ⟨rfl, rfl, rfl⟩

theorem modSlot (s : State) (n : Nat) (f : GSlot → GSlot) : Ran s (s.modSlot n f) := ⟨rfl, rfl, rfl⟩

theorem modExec (s : State) (n : Nat) (f : Exec → Exec) : Ran s (s.modExec n f) := modSlot s n _

theorem setOutput (s : State) (k : OpAt) (j value : Nat) : Ran s (s.setOutput k j value) := by
  unfold State.setOutput State.storeValue
  split
  · extract_lets v a s₁
    obtain ⟨m, q, written⟩ := s₁.writeBytes_eq a (bytesOfNat (4 * tyWords v.1.type) value)
    have cleared : Ran s s₁ := by
      simp only [s₁]
      split
      · exact ⟨rfl, rfl, rfl⟩
      · exact refl s
    refine cleared.trans ?_
    rw [State.writeNat, written]
    exact ⟨rfl, rfl, rfl⟩
  · exact refl s

theorem setOutputs (s : State) (k : OpAt) (vs : List Nat) : Ran s (s.setOutputs k vs) := 
  foldl (f := fun s (e : Nat × Nat) => s.setOutput k e.2 e.1) (fun s e => setOutput s k e.2 e.1) _ s

theorem freeOutput (s : State) (k : OpAt) (j : Nat) : Ran s (s.freeOutput k j) :=
  trans (t := s.takeFree.2.takeFree.2) ⟨rfl, rfl, rfl⟩ (setOutput _ k j _)

theorem setState (s : State) (v : VarLoc) (ws : List Nat) : Ran s (s.setState v ws) := by
  obtain ⟨m, q, written⟩ := s.writeBytes_eq (varAddr v.base) ((ws.map wd).flatMap bytesOf)
  unfold State.setState State.writeWords
  rw [written]
  exact ⟨rfl, rfl, rfl⟩

theorem imgWrite (s : State) (n : Nat) (key : ImgKey) (v : Nat) : Ran s (s.imgWrite n key v) := modExec s n _

theorem imgRequest (s : State) (n : Nat) (r : ImgReq) : Ran s (s.imgRequest n r) := modExec s n _

theorem recordOpen (s : State) (unit ev sev : Nat) : Ran s (s.recordOpen unit ev sev) := of_reacted (Reacted.recordOpen s unit ev sev false)

theorem countArith (s : State) (n k : Nat) : Ran s (s.countArith n k) := by
  unfold State.countArith
  split
  · exact refl s
  · extract_lets first s₁
    have counted : Ran s s₁ := modSlot s n _
    split
    · exact counted.trans (recordOpen s₁ _ _ _)
    · exact counted

theorem runSeq (s : State) (k : OpAt) (now : Int) (cond : Bool) : Ran s (runSeq s k now cond) := (setState s _ _).trans (setOutputs _ k _)

theorem runSeqCompanion (s : State) (k : OpAt) (now prev : Int) (x : List Nat) : Ran s (runSeqCompanion s k now prev x) := by
  unfold Machine.runSeqCompanion
  extract_lets v st first done start
  split
  · exact setState s _ _
  · split
    · exact refl s
    · exact (setState s _ _).trans (modExec _ _ _)
  · exact setOutputs s k _
  · exact setOutputs s k _

theorem axisOp (s : State) (k : OpAt) (x : List Nat) : Ran s (axisOp s k x) := by
  unfold Machine.axisOp
  dsimp only
  split
  · split
    · exact refl s
    · exact imgRequest s _ _
  · split
    · exact refl s
    · exact imgRequest s _ _
  · split
    · exact refl s
    · split
      · exact imgRequest s _ _
      · exact countArith s _ _
  · split
    · exact refl s
    · split
      · exact imgRequest s _ _
      · exact countArith s _ _

theorem imageOp (s : State) (k : OpAt) (ins : List Nat) : Ran s (imageOp s k ins) := by
  unfold Machine.imageOp
  extract_lets n p a0 a1 a2 s₁ s₂
  have first : Ran s s₁ := imgWrite s n _ _
  have word : Ran s s₂ := by
    simp only [s₂]
    split
    · exact imgWrite s n _ _
    · exact refl s
  split
  · exact imgWrite s n _ _
  · exact imgWrite s n _ _
  · exact imgWrite s n _ _
  · exact imgWrite s n _ _
  · exact imgWrite s n _ _
  · split
    · exact first.trans (imgWrite s₁ n _ _)
    · exact first
  · exact imgWrite s n _ _
  · exact imgWrite s n _ _
  · split
    · exact refl s
    · exact imgRequest s n _
  · split
    · exact word
    · exact word.trans (imgRequest s₂ n _)
  · exact axisOp s k ins
  · exact axisOp s k ins
  · exact axisOp s k ins
  · exact axisOp s k ins
  · exact refl s

theorem inputOp (s : State) (k : OpAt) (x : Exec) (ins : List Nat) : Ran s (inputOp s k x ins) := by
  unfold Machine.inputOp
  dsimp only
  split
  · split
    · exact setOutputs s k _
    · exact freeOutput s k 0
  · split
    · exact setOutputs s k _
    · exact setOutputs s k _
    · exact setOutputs s k _
    · exact freeOutput s k 0
  · exact setOutputs s k _
  · exact setOutputs s k _
  · exact setOutputs s k _
  · exact setOutputs s k _
  · exact setOutputs s k _
  · split
    · exact setOutputs s k _
    · exact (freeOutput s k 0).trans (freeOutput _ k 1)
  · exact setOutputs s k _
  · exact setOutputs s k _
  · refine trans ?_ (setOutput _ k 1 _)
    split
    · exact setOutput s k 0 _
    · exact freeOutput s k 0
  · exact refl s

theorem fireProgram (s : State) (n : Nat) : Ran s (fireProgram n s) := by
  unfold Machine.fireProgram
  split
  · exact of_triggered (Triggered.fireOpen s n s.ns)
  · exact refl s

theorem immediateOp (s : State) (k : OpAt) (ins : List Nat) : Ran s (immediateOp s k ins) := by
  unfold Machine.immediateOp
  dsimp only
  split
  · split
    · exact refl s
    · exact fireProgram s _
  · exact ⟨rfl, rfl, rfl⟩
  · split
    · exact refl s
    · exact of_reacted (Reacted.note s _)
  · split
    · exact refl s
    · exact (takeFree s).trans (of_reacted (Reacted.reportFault _ _ _ _ _ _))
  · exact refl s

theorem runTable (s : State) (k : OpAt) (x : Nat) : Ran s (runTable s k x) := by
  unfold Machine.runTable
  dsimp only
  split
  · exact freeOutput s k 0
  · exact setOutputs s k _

/-- The free words that a RAMP takes. -/
theorem takeWords {α : Type} (l : List α) : ∀ acc : State × List Nat,
    Ran acc.1 (l.foldl (fun (acc : State × List Nat) _ => (acc.1.takeFree.2, acc.2 ++ [acc.1.takeFree.1.toNat])) acc).1 := by
  induction l with
  | nil => exact fun acc => refl acc.1
  | cons a l ih => exact fun acc => (takeFree acc.1).trans (ih (acc.1.takeFree.2, acc.2 ++ [acc.1.takeFree.1.toNat]))

theorem runOp (s : State) (k : OpAt) (x : Exec) : Ran s (runOp s k x) := by
  have outputs (l : List Nat) : Ran s (l.foldl (fun s j => s.freeOutput k j) s) := foldl (fun s j => freeOutput s k j) l s
  have words (n : Nat) := takeWords (List.range n) (s, [])
  have demux : Ran s ((List.range k.e.nOut).foldl (fun (v : State) (j : Nat) =>
      if indexOf k.e.type ((k.inputs s).getD 0 0) = some (j : Int) then v.setOutput k j ((k.inputs s).getD 1 0) else v.freeOutput k j) s) :=
    foldl (fun v j => by
      split
      · exact setOutput v k j _
      · exact freeOutput v k j) _ s
  unfold Machine.runOp
  dsimp only
  split <;> grind only [trans, refl, imageOp, inputOp, immediateOp, setState, setOutputs, freeOutput, runSeq, runSeqCompanion, runTable, countArith]

theorem settle (s : State) (f : Deferred → Bool) (g : Deferred → Nat × List Word) : Ran s (s.settle f g) := of_replied (State.settle_replied s f g)

theorem dropUrgent (s : State) (c : Nat) (q : Urgent) : Ran s (dropUrgent c q s) := by
  unfold Machine.dropUrgent
  extract_lets s₁
  have counted : Ran s s₁ := ⟨rfl, rfl, rfl⟩
  split
  · exact counted.trans ⟨rfl, rfl, rfl⟩
  · exact counted.trans (settle s₁ _ _)

theorem requestUrgent (s : State) (q : Urgent) : Ran s (requestUrgent q s) := by
  unfold Machine.requestUrgent
  extract_lets c s₁ k clash
  have woken : Ran s s₁ := ⟨rfl, rfl, rfl⟩
  split
  · exact woken.trans (dropUrgent s₁ c q)
  · exact woken.trans ⟨rfl, rfl, rfl⟩

theorem publishUser (s : State) (entry value : Nat) : Ran s (publishUser entry value s) := by
  unfold Machine.publishUser
  extract_lets us s₁ same
  have counted : Ran s s₁ := ⟨rfl, rfl, rfl⟩
  split
  · exact counted.trans ⟨rfl, rfl, rfl⟩
  · obtain ⟨a, published⟩ := s₁.publishAt_eq entry s₁.ns value
    refine counted.trans ?_
    rw [State.publish, published]
    exact ⟨rfl, rfl, rfl⟩

end Ran

/-- A core that has begun an operation. -/
def startedCore (r : Ready) (miss stepped : Bool) (now : Nat) (k : Core) : Core := { k with
  running := some { slot := r.slot, op := r.op, startedAt := now, stepped := stepped }, misses := satAdd 32 k.misses (flag miss) }

/-- `t` is `s` with operation `r` begun on core `c`; what runs there may wait for a conversion or for room, or be dead. -/
def Begun (c : Nat) (r : Ready) (miss : Bool) (s t : State) : Prop :=
  (∃ q, (coreOf t c).running = some q ∧ q.slot = r.slot ∧ q.op = r.op ∧ q.startedAt = s.now) ∧ (coreOf t c).prefetch = (coreOf s c).prefetch ∧
  (coreOf t c).misses = satAdd 32 (coreOf s c).misses (flag miss) ∧ t.cyc = s.cyc ∧ t.axis = s.axis

/-- R165: what runs on the core changes by no more than the marks that beginning the operation sets. -/
theorem beginOp_begun (c : Nat) (r : Ready) (miss stepped : Bool) (hwf : Tab.wf {} s.sched.cores) : Begun c r miss s (s.beginOp c r miss stepped) := by
  unfold State.beginOp
  extract_lets s₁ s₂ k setRun s₃ input
  have own : coreOf s₂ c = startedCore r miss stepped s.now (coreOf s c) :=
    (coreOf_modCore (f := startedCore r miss stepped s.now) hwf c).trans (if_pos rfl)
  have unmarked (v : State) (h : Ran s₂ v) : Begun c r miss s v := by
    have same : coreOf v c = startedCore r miss stepped s.now (coreOf s c) := by
      rw [← own, coreOf, h.cores]
      rfl
    unfold Begun
    rw [same]
    exact ⟨⟨_, rfl, rfl, rfl, rfl⟩, rfl, rfl, h.cyc, h.axis⟩
  have marked (v : State) (f : Running → Running) (hf : ∀ q, (f q).slot = q.slot ∧ (f q).op = q.op ∧ (f q).startedAt = q.startedAt)
      (h : Ran (setRun s₂ f) v) : Begun c r miss s v := by
    have wf₂ : Tab.wf {} s₂.sched.cores := upd_wf c (startedCore r miss stepped s.now) hwf
    have same : coreOf v c = { startedCore r miss stepped s.now (coreOf s c) with
        running := some (f { slot := r.slot, op := r.op, startedAt := s.now, stepped := stepped }) } := by
      rw [coreOf, h.cores]
      refine ((coreOf_modCore (f := fun q => { q with running := q.running.map f }) wf₂ c).trans (if_pos rfl)).trans ?_
      rw [own]
      rfl
    obtain ⟨slot, op, at'⟩ := hf { slot := r.slot, op := r.op, startedAt := s.now, stepped := stepped }
    unfold Begun
    rw [same]
    exact ⟨⟨_, rfl, slot, op, at'⟩, rfl, rfl, h.cyc, h.axis⟩
  split
  · exact unmarked s₂ (.refl s₂)
  · split
    · exact marked _ (fun q => { q with dead := true }) (fun _ => ⟨rfl, rfl, rfl⟩) (Ran.modExec _ _ _)
    · split
      · split
        · exact marked _ (fun q => { q with urgent := true }) (fun _ => ⟨rfl, rfl, rfl⟩) (Ran.requestUrgent _ _)
        · exact marked _ (fun q => { q with urgent := true }) (fun _ => ⟨rfl, rfl, rfl⟩) ⟨rfl, rfl, rfl⟩
      · split
        · exact unmarked _ (Ran.publishUser s₂ _ _)
        · exact marked _ (fun q => { q with publishing := some ((k.input s₂ 0).1, s₂.now) }) (fun _ => ⟨rfl, rfl, rfl⟩) (.refl _)
      · exact unmarked _ (Ran.runOp s₂ k _)

/-! The prefetch of a core that has nothing on its ready lists (R171). -/

/-- A core whose prefetched entries of slots that no longer run are back on its lists. -/
def tidyCore (runs : Ready → Bool) (k : Core) : Core := { k with
  lists := (k.prefetch.filter fun r => !runs r) ++ k.lists, prefetch := k.prefetch.filter runs }

theorem tidyCore_of_all {runs : Ready → Bool} {k : Core} (h : ∀ r ∈ k.prefetch, runs r = true) : tidyCore runs k = k := by
  have none : (k.prefetch.filter fun r => !runs r) = [] := List.filter_eq_nil_iff.mpr fun r hr => by
    rw [h r hr]
    exact Bool.false_ne_true
  have all : k.prefetch.filter runs = k.prefetch := List.filter_eq_self.mpr h
  unfold tidyCore
  rw [none, all, List.nil_append]

theorem fillSlot_of_empty {c : Nat} (h : (coreOf s c).lists = []) : fillSlot c s = s := by
  unfold fillSlot
  dsimp only
  rw [h]
  split
  · rfl
  · rfl

/-- R171: with empty ready lists and only entries of running slots prefetched, nothing moves. -/
theorem refill_idle {c : Nat} (hwf : Tab.wf {} s.sched.cores) (hlists : (coreOf s c).lists = [])
    (hruns : ∀ r ∈ (coreOf s c).prefetch, runnable s r = true) :
    ∃ m h, s.refill c = s.modSched (fun u => { u with cores := m }) ∧ Tab.wf {} m ∧
    ∀ d, look {} m d = if d = c then { coreOf s c with readyHigh := h } else coreOf s d := by
  have wf₁ : Tab.wf {} (s.modCore c (tidyCore (runnable s))).sched.cores := modCore_wf hwf
  have same (d : Nat) : coreOf (s.modCore c (tidyCore (runnable s))) d = coreOf s d := by
    rw [coreOf_modCore hwf]
    split
    · rename_i h
      subst h
      exact tidyCore_of_all hruns
    · rfl
  have empty : (coreOf (s.modCore c (tidyCore (runnable s))) c).lists = [] := by
    rw [same]
    exact hlists
  have whole : s.refill c = (s.modCore c (tidyCore (runnable s))).markHigh c := by
    change (fillSlot c (fillSlot c (s.modCore c (tidyCore (runnable s))))).markHigh c = _
    rw [fillSlot_of_empty empty, fillSlot_of_empty empty]
  refine ⟨((s.modCore c (tidyCore (runnable s))).markHigh c).sched.cores, max (coreOf s c).readyHigh (min 4096 (coreOf s c).lists.length), whole,
    modCore_wf wf₁, fun d => ?_⟩
  change coreOf ((s.modCore c (tidyCore (runnable s))).modCore c _) d = _
  rw [coreOf_modCore wf₁]
  split
  · rename_i h
    rw [same, h]
  · exact same d

/-- R165, R171: the one prefetched operation starts. -/
theorem operationStart_prefetched {c : Nat} {r : Ready} (miss : Bool) (hwf : Tab.wf {} s.sched.cores) (hidle : (coreOf s c).running = none)
    (hstalled : (coreOf s c).stalled = []) (hstep : (coreOf s c).step = []) (hprefetch : (coreOf s c).prefetch = [r]) (hlists : (coreOf s c).lists = [])
    (hruns : runnable s r = true) : ∃ q, (coreOf (operationStart c miss s) c).running = some q ∧ q.slot = r.slot ∧ q.op = r.op ∧
    q.startedAt = s.now ∧ (coreOf (operationStart c miss s) c).prefetch = [] ∧
    (coreOf (operationStart c miss s) c).misses = satAdd 32 (coreOf s c).misses (flag miss) ∧ (operationStart c miss s).cyc = s.cyc ∧
    (operationStart c miss s).axis = s.axis := by
  obtain ⟨m, h, first, wf₁, cores₁⟩ := refill_idle hwf hlists fun q hq => by
    rw [hprefetch, List.mem_singleton] at hq
    rw [hq]
    exact hruns
  have core₁ : coreOf (s.refill c) c = { coreOf s c with readyHigh := h } := by
    rw [first]
    exact (cores₁ c).trans (if_pos rfl)
  have wf₂ : Tab.wf {} ((s.refill c).modCore c fun k => { k with prefetch := [] }).sched.cores := modCore_wf (by rw [first]; exact wf₁)
  have core₂ : coreOf ((s.refill c).modCore c fun k => { k with prefetch := [] }) c = { coreOf s c with readyHigh := h, prefetch := [] } := by
    rw [coreOf_modCore (by rw [first]; exact wf₁), if_pos rfl, core₁]
  obtain ⟨m', h', second, wf₃, cores₃⟩ := refill_idle (c := c) wf₂ (by rw [core₂]; exact hlists) fun q hq => by
    rw [core₂] at hq
    exact absurd hq (by simp)
  have core₃ : coreOf (((s.refill c).modCore c fun k => { k with prefetch := [] }).refill c) c =
      { coreOf s c with readyHigh := h', prefetch := [] } := by
    rw [second]
    refine ((cores₃ c).trans (if_pos rfl)).trans ?_
    rw [core₂]
  have starts : operationStart c miss s = (((s.refill c).modCore c fun k => { k with prefetch := [] }).refill c).beginOp c r miss := by
    unfold operationStart
    dsimp only
    rw [core₁]
    dsimp only
    rw [hidle, hstalled, hstep, hprefetch]
    exact if_neg (by simp)
  have rest : (((s.refill c).modCore c fun k => { k with prefetch := [] }).refill c).now = s.now ∧
      (((s.refill c).modCore c fun k => { k with prefetch := [] }).refill c).cyc = s.cyc ∧
      (((s.refill c).modCore c fun k => { k with prefetch := [] }).refill c).axis = s.axis := by
    rw [second, first]
    exact ⟨rfl, rfl, rfl⟩
  have begun := beginOp_begun (s := ((s.refill c).modCore c fun k => { k with prefetch := [] }).refill c) c r miss false (by rw [second]; exact wf₃)
  obtain ⟨⟨q, running, slot, op, at'⟩, prefetch, misses, cyc, axis⟩ := begun
  rw [core₃] at prefetch misses
  rw [starts]
  exact ⟨q, running, slot, op, at'.trans rest.1, prefetch, misses, cyc.trans rest.2.1, axis.trans rest.2.2⟩

/-! TAKE (R169). -/

theorem mem_insertLoad {load : Nat → Nat} {d e : Nat} : ∀ {l : List Nat}, d ∈ insertLoad load e l ↔ d = e ∨ d ∈ l
  | [] => List.mem_singleton.trans (by simp)
  | a :: l => by
    unfold insertLoad
    split
    · exact List.mem_cons
    · rw [List.mem_cons, mem_insertLoad, List.mem_cons]
      tauto

theorem mem_foldl_insertLoad {load : Nat → Nat} {d : Nat} : ∀ {l acc : List Nat},
    d ∈ l.foldl (fun l d => insertLoad load d l) acc ↔ d ∈ acc ∨ d ∈ l
  | [], acc => by simp
  | a :: l, acc => by
    rw [List.foldl_cons, mem_foldl_insertLoad, mem_insertLoad, List.mem_cons]
    tauto

theorem mem_coresByLoad {c p d : Nat} : d ∈ coresByLoad s c p ↔ d < graphCores s ∧ d ≠ c := by
  unfold coresByLoad
  rw [mem_foldl_insertLoad, List.mem_filter, List.mem_range, decide_eq_true_iff]
  simp

/-- An entry that a core may take stands on the list. -/
theorem mem_of_takeFrom {c p d : Nat} {r : Ready} (h : takeFrom s c p d = some r) : r ∈ (coreOf s d).lists := by
  unfold takeFrom at h
  dsimp only at h
  split at h
  · rename_i q hq
    split at h
    · rw [Option.some.injEq] at h
      rw [← h]
      exact List.mem_of_mem_filter (List.mem_of_find?_eq_some hq)
    · exact absurd h (by simp)
  · exact absurd h (by simp)

theorem takeFrom_single {c d : Nat} {r : Ready} (hlists : (coreOf s d).lists = [r]) (hruns : runnable s r = true) (hallowed : c ∈ allowedCores s r.slot)
    (hmin : s.sched.stealMin ≤ 1) : takeFrom s c r.prio d = some r := by
  have own : [r].filter (fun q => q.prio == r.prio) = [r] := by
    rw [List.filter_cons, if_pos (beq_self_eq_true r.prio)]
    rfl
  have fits : (runnable s r && (allowedCores s r.slot).contains c) = true := by
    rw [hruns, List.contains_iff_mem.mpr hallowed]
    rfl
  unfold takeFrom
  rw [hlists]
  dsimp only
  rw [own, List.find?_cons, fits]
  exact if_pos (.inl hmin)

/-- The one entry that any list holds is found. -/
theorem taken_single {c d : Nat} {r : Ready} (hd : d < graphCores s) (hcd : d ≠ c) (hlists : (coreOf s d).lists = [r])
    (hrest : ∀ e, e ≠ d → (coreOf s e).lists = []) (hprio : r.prio < 8) (hruns : runnable s r = true) (hallowed : c ∈ allowedCores s r.slot)
    (hmin : s.sched.stealMin ≤ 1) :
    ((List.range 8).findSome? fun p => (coresByLoad s c p).findSome? fun d => (takeFrom s c p d).map fun r => (d, r)) = some (d, r) := by
  generalize hfound : ((List.range 8).findSome? fun p => (coresByLoad s c p).findSome? fun d => (takeFrom s c p d).map fun r => (d, r)) = found
  cases found with
  | none =>
    have none := List.findSome?_eq_none_iff.mp (List.findSome?_eq_none_iff.mp hfound r.prio (List.mem_range.mpr hprio)) d (mem_coresByLoad.mpr ⟨hd, hcd⟩)
    rw [takeFrom_single hlists hruns hallowed hmin] at none
    exact absurd none (by simp)
  | some got =>
    obtain ⟨p, -, hp⟩ := List.exists_of_findSome?_eq_some hfound
    obtain ⟨e, -, he⟩ := List.exists_of_findSome?_eq_some hp
    obtain ⟨q, hq, rfl⟩ := Option.map_eq_some_iff.mp he
    have listed := mem_of_takeFrom hq
    by_cases h : e = d
    · rw [h, hlists, List.mem_singleton] at listed
      rw [h, listed]
    · rw [hrest e h] at listed
      exact absurd listed (by simp)

theorem sum_waiting_eq_zero (hwf : Tab.wf {} s.sched.cores) : (s.sched.cores.map fun e => e.2.queue.length + e.2.stalled.length).sum = 0 ↔
    ∀ d, (coreOf s d).queue = [] ∧ (coreOf s d).stalled = [] := by
  rw [List.sum_eq_zero_iff, List.forall_mem_map]
  constructor
  · intro h d
    by_cases hd : coreOf s d = {}
    · rw [hd]
      exact ⟨rfl, rfl⟩
    · have none : (coreOf s d).queue.length + (coreOf s d).stalled.length = 0 := h (d, coreOf s d) (mem_of_look_ne hd)
      exact ⟨List.length_eq_zero_iff.mp (by omega), List.length_eq_zero_iff.mp (by omega)⟩
  · intro h e he
    have own : coreOf s e.1 = e.2 := look_of_mem hwf he
    obtain ⟨queue, stalled⟩ := h e.1
    rw [own] at queue stalled
    rw [queue, stalled]
    rfl

/-- Where nothing waits, and the queues, the cores' waits, the spill area and the programs are as they were, nothing waits. -/
theorem tokensWaiting_of_same (h : tokensWaiting s = 0) (hwf : Tab.wf {} s.sched.cores) (hwf' : Tab.wf {} t.sched.cores)
    (hgraph : t.graph = s.graph) (hspill : t.sched.spill = s.sched.spill)
    (hcores : ∀ d, (coreOf t d).queue = (coreOf s d).queue ∧ (coreOf t d).stalled = (coreOf s d).stalled) : tokensWaiting t = 0 := by
  have slots : slotOf t = slotOf s := by
    funext n
    rw [slotOf, hgraph]
    rfl
  unfold tokensWaiting at h ⊢
  rw [Nat.add_eq_zero_iff, Nat.add_eq_zero_iff] at h ⊢
  obtain ⟨⟨spill, waiting⟩, sources⟩ := h
  rw [sum_waiting_eq_zero hwf] at waiting
  refine ⟨⟨by rw [hspill]; exact spill, (sum_waiting_eq_zero hwf').mpr fun d => ?_⟩, ?_⟩
  · rw [(hcores d).1, (hcores d).2]
    exact waiting d
  · rw [slots]
    exact sources

theorem drainTokens_nothing (h : tokensWaiting s = 0) : s.drainTokens = s := by
  unfold State.drainTokens
  rw [h]
  rfl

/-- A core that gives an entry of its ready lists away. -/
def givingCore (r : Ready) (k : Core) : Core := { k with lists := k.lists.erase r, given := sat32 k.given }

/-- A core that has taken an entry. -/
def takingCore (r : Ready) (k : Core) : Core := { k with prefetch := [r], taken := sat32 k.taken }

/-- Entry `r` has gone over from core `d` to core `c`, the new home of its operation. -/
def State.handOver (s : State) (c d : Nat) (r : Ready) : State :=
  ((s.modCore d (givingCore r)).modCore c (takingCore r)).modSlotSched r.slot fun k => { k with homes := put 0 k.homes r.op (c + 1) }

theorem handOver_wf {c d : Nat} {r : Ready} (hwf : Tab.wf {} s.sched.cores) : Tab.wf {} (s.handOver c d r).sched.cores :=
  upd_wf c (takingCore r) (upd_wf d (givingCore r) hwf)

theorem coreOf_handOver {c d : Nat} {r : Ready} (hwf : Tab.wf {} s.sched.cores) (hcd : c ≠ d) (e : Nat) :
    coreOf (s.handOver c d r) e = if e = c then takingCore r (coreOf s c) else if e = d then givingCore r (coreOf s d) else coreOf s e := by
  have wf : Tab.wf {} (s.modCore d (givingCore r)).sched.cores := modCore_wf hwf
  change coreOf ((s.modCore d (givingCore r)).modCore c (takingCore r)) e = _
  rw [coreOf_modCore wf, coreOf_modCore hwf]
  split
  · rename_i h
    rw [h, if_neg hcd]
  · split
    · rename_i h
      rw [h]
    · rfl

/-- R169: the one ready operation goes over to the idle core. -/
theorem take_single {c d : Nat} {r : Ready} (hwf : Tab.wf {} s.sched.cores) (hd : d < graphCores s) (hcd : c ≠ d) (hnone : tokensWaiting s = 0)
    (hidle : (coreOf s c).running = none) (hstep : (coreOf s c).step = []) (hprefetch : (coreOf s c).prefetch = [])
    (hlists : (coreOf s d).lists = [r]) (hrest : ∀ e, e ≠ d → (coreOf s e).lists = []) (hprio : r.prio < 8) (hruns : runnable s r = true)
    (hallowed : c ∈ allowedCores s r.slot) (hmin : s.sched.stealMin ≤ 1) :
    (coreOf (take c s) c).prefetch = [r] ∧ (coreOf (take c s) d).lists = [] ∧ (coreOf (take c s) c).taken = sat32 (coreOf s c).taken ∧
    (coreOf (take c s) d).given = sat32 (coreOf s d).given ∧ (take c s).mem = s.mem ∧ (take c s).dev = s.dev := by
  obtain ⟨m, h, filled, wf₁, cores₁⟩ := refill_idle hwf (hrest c hcd) fun q hq => by
    rw [hprefetch] at hq
    exact absurd hq (by simp)
  have hdc : d ≠ c := fun h => hcd h.symm
  have core₁ (e : Nat) : coreOf (s.refill c) e = if e = c then { coreOf s c with readyHigh := h } else coreOf s e := by
    rw [filled]
    exact cores₁ e
  have found := taken_single (s := s.refill c) (c := c) (by rw [filled]; exact hd) hdc (by rw [core₁, if_neg hdc]; exact hlists) (fun e he => by
    rw [core₁]
    split
    · exact hrest c hcd
    · exact hrest e he) hprio (by rw [filled]; exact hruns) (by rw [filled]; exact hallowed) (by rw [filled]; exact hmin)
  have takes : take c s = ((s.refill c).handOver c d r).drainTokens := by
    unfold take
    dsimp only
    rw [found, core₁, if_pos rfl]
    dsimp only
    rw [hidle, hstep, hprefetch]
    exact if_neg (by simp)
  have wf : Tab.wf {} (s.refill c).sched.cores := by
    rw [filled]
    exact wf₁
  have still : tokensWaiting ((s.refill c).handOver c d r) = 0 := by
    refine tokensWaiting_of_same hnone hwf (handOver_wf wf) (by rw [filled]; rfl) (by rw [filled]; rfl) fun e => ?_
    rw [coreOf_handOver wf hcd, core₁, core₁, core₁, if_pos rfl, if_neg hdc]
    split
    · rename_i h
      rw [h]
      exact ⟨rfl, rfl⟩
    · split
      · rename_i h
        rw [h]
        exact ⟨rfl, rfl⟩
      · exact ⟨rfl, rfl⟩
  rw [takes, drainTokens_nothing still, coreOf_handOver wf hcd, coreOf_handOver wf hcd, if_pos rfl, if_neg hdc, if_pos rfl, core₁, core₁, if_pos rfl,
    if_neg hdc, filled]
  refine ⟨rfl, ?_, rfl, rfl, rfl, rfl⟩
  change (coreOf s d).lists.erase r = []
  rw [hlists, List.erase_cons_head]

/-! TOKEN_SPILL (R174). -/

/-- What one element of a list yields where the others yield nothing. -/
theorem flatMap_single {α β : Type} [DecidableEq α] {f : α → List β} {a : α} :
    ∀ {l : List α}, l.Nodup → a ∈ l → (∀ b, b ≠ a → f b = []) → l.flatMap f = f a
  | b :: l, hl, ha, hrest => by
    obtain ⟨hb, hl'⟩ := List.nodup_cons.mp hl
    rw [List.flatMap_cons]
    by_cases h : b = a
    · have none : l.flatMap f = [] := List.flatMap_eq_nil_iff.mpr fun e he => hrest e fun heq => hb (h ▸ heq ▸ he)
      rw [h, none, List.append_nil]
    · rw [hrest b h, List.nil_append]
      exact flatMap_single hl' ((List.mem_cons.mp ha).resolve_left fun heq => h heq.symm) hrest

/-- The tokens that wait for room in the queue of core `c`, each with the core that it waits on. -/
def waitingFor (s : State) (c : Nat) : List (Nat × Nat × Token) :=
  (List.range (graphCores s)).flatMap fun d => ((coreOf s d).stalled.filter fun e => e.1 == c).map fun e => (d, e)

/-- One token goes to the spill area. -/
def spillOne (c : Nat) (s : State) (e : Nat × Nat × Token) : State :=
  if 32768 ≤ s.sched.spill.length then s.spillFull
  else ((s.spillToken c e.2.2).modCore e.1 fun k => { k with stalled := k.stalled.erase e.2 }).endStall e.1

theorem tokenSpill_eq (s : State) (c : Nat) : tokenSpill c s =
    if ¬ (waitingFor s c).any fun e => s.sched.spillNs ≤ nsOf (s.now - e.2.2.at') then s else (waitingFor s c).foldl (spillOne c) s := rfl

theorem tokenSpill_none {c : Nat} (h : ∀ e, (coreOf s e).stalled = []) : tokenSpill c s = s := by
  have none : waitingFor s c = [] := List.flatMap_eq_nil_iff.mpr fun d _ => by rw [h d]; rfl
  rw [tokenSpill_eq, none]
  rfl

theorem endStall_spec {d : Nat} (hwf : Tab.wf {} s.sched.cores) : (s.endStall d).sched.spill = s.sched.spill ∧ (s.endStall d).dev = s.dev ∧
    (s.endStall d).graph = s.graph ∧ ∀ e, (coreOf (s.endStall d) e).stalled = (coreOf s e).stalled ∧
    (coreOf (s.endStall d) e).spilled = (coreOf s e).spilled := by
  unfold State.endStall
  split
  · refine ⟨rfl, rfl, rfl, fun e => ?_⟩
    rw [coreOf_modCore hwf]
    split <;> exact ⟨rfl, rfl⟩
  · exact ⟨rfl, rfl, rfl, fun _ => ⟨rfl, rfl⟩⟩

theorem tokenSpill_single {c d : Nat} {k : Token} (hwf : Tab.wf {} s.sched.cores) (hd : d < graphCores s) (hone : (coreOf s d).stalled = [(c, k)])
    (hrest : ∀ e, e ≠ d → (coreOf s e).stalled = []) (hspill : s.sched.spill = []) (hdue : s.sched.spillNs ≤ nsOf (s.now - k.at')) :
    (tokenSpill c s).sched.spill = [(c, k)] ∧ (coreOf (tokenSpill c s) d).stalled = [] ∧
    (coreOf (tokenSpill c s) c).spilled = sat32 (coreOf s c).spilled ∧ (tokenSpill c s).dev = s.dev ∧ (tokenSpill c s).graph = s.graph := by
  have waits : waitingFor s c = [(d, c, k)] := by
    refine (flatMap_single List.nodup_range (List.mem_range.mpr hd) fun e he => by rw [hrest e he]; rfl).trans ?_
    rw [hone, List.filter_cons, if_pos (beq_self_eq_true c)]
    rfl
  have spills : tokenSpill c s = ((s.spillToken c k).modCore d fun q => { q with stalled := q.stalled.erase (c, k) }).endStall d := by
    rw [tokenSpill_eq, waits, if_neg (not_not.mpr ?_)]
    · change spillOne c s (d, c, k) = _
      unfold spillOne
      rw [if_neg (by rw [hspill]; decide)]
    · rw [List.any_cons, decide_eq_true hdue]
      rfl
  obtain ⟨m, j, written⟩ := s.takeFree.2.writeBytes_eq (0x01C00000 + 4 * s.sched.spill.length) (bytesOfNat 4 s.takeFree.1.toNat)
  have spilled : s.spillToken c k = ({ s with mem := m, keep := j, fresh := s.fresh + 1 }.modSched fun u => { u with
      spill := u.spill ++ [(c, k)] }).modCore c fun z => { z with spilled := sat32 z.spilled } := by
    unfold State.spillToken State.writeWord State.writeNat
    dsimp only
    rw [written]
    rfl
  have wf₁ : Tab.wf {} (s.spillToken c k).sched.cores := by
    rw [spilled]
    exact upd_wf c (fun z : Core => { z with spilled := sat32 z.spilled }) hwf
  have core₁ (e : Nat) : coreOf (s.spillToken c k) e = if e = c then { coreOf s e with spilled := sat32 (coreOf s e).spilled } else coreOf s e := by
    rw [spilled]
    exact look_upd (fun z : Core => { z with spilled := sat32 z.spilled }) c e hwf
  have rest : (s.spillToken c k).sched.spill = s.sched.spill ++ [(c, k)] ∧ (s.spillToken c k).dev = s.dev ∧ (s.spillToken c k).graph = s.graph := by
    rw [spilled]
    exact ⟨rfl, rfl, rfl⟩
  generalize s.spillToken c k = v at spills spilled wf₁ core₁ rest
  have core₂ := coreOf_modCore (f := fun q => { q with stalled := q.stalled.erase (c, k) }) (c := d) wf₁
  have wf₂ : Tab.wf {} (v.modCore d fun q => { q with stalled := q.stalled.erase (c, k) }).sched.cores := modCore_wf wf₁
  obtain ⟨spill, dev, graph, cores⟩ := endStall_spec (d := d) wf₂
  rw [spills]
  refine ⟨?_, ?_, ?_, dev.trans rest.2.1, graph.trans rest.2.2⟩
  · rw [spill]
    change v.sched.spill = _
    rw [rest.1, hspill, List.nil_append]
  · rw [(cores d).1, core₂, if_pos rfl, core₁]
    have gone : (coreOf s d).stalled.erase (c, k) = [] := by rw [hone, List.erase_cons_head]
    split <;> exact gone
  · rw [(cores c).2, core₂, core₁, if_pos rfl]
    split <;> rfl

end Sys2Proof.Machine
end
section
/-! What a sample, its evaluation and a resampling leave (06 R190, R192, R206, R215–R218). -/

namespace Sys2Proof.Machine

variable {s t u : State} {c : Nat}

/-- `t` is `s` but for memory, the outputs, what is published and records. -/
def Evaluated (s t : State) : Prop :=
  t = { s with fresh := t.fresh, tally := t.tally, mem := t.mem, keep := t.keep, dio := t.dio, drove := t.drove, acq := t.acq }

namespace Evaluated

theorem refl (s : State) : Evaluated s s := rfl

theorem trans (h : Evaluated s t) (h' : Evaluated t u) : Evaluated s u := by
  unfold Evaluated at *
  rw [h', h]

theorem rest (h : Evaluated s t) : t.loop = s.loop ∧ t.dev = s.dev ∧ t.graph = s.graph ∧ t.axis = s.axis := by
  unfold Evaluated at h
  rw [h]
  exact ⟨rfl, rfl, rfl, rfl⟩

theorem setStW (s : State) (c i v : Nat) : Evaluated s (s.setStW c i v) := by
  obtain ⟨m, k, written⟩ := s.setStW_eq c i v
  rw [written]
  rfl

theorem setStatus (s : State) (c lo n v : Nat) : Evaluated s (s.setStatus c lo n v) := setStW s c 13 _

theorem writeWords (s : State) (a : Nat) (ws : List Word) : Evaluated s (s.writeWords a ws) := by
  obtain ⟨m, k, written⟩ := s.writeBytes_eq a (ws.flatMap bytesOf)
  rw [State.writeWords, written]
  rfl

theorem writeWord (s : State) (a v : Nat) : Evaluated s (s.writeWord a v) := by
  obtain ⟨m, k, written⟩ := s.writeBytes_eq a (bytesOfNat 4 v)
  rw [State.writeWord, State.writeNat, written]
  rfl

theorem coverPoison (s : State) (a n : Nat) : Evaluated s (s.coverPoison a n) := by
  obtain ⟨m, covered⟩ := s.coverPoison_eq a n
  rw [covered]
  rfl

theorem writeDest (s : State) (c v : Nat) : Evaluated s (s.writeDest c v) := by
  obtain ⟨d, o, written⟩ := s.writeDest_eq c v
  rw [written]
  rfl

theorem recordOpen (s : State) (unit ev sev : Nat) : Evaluated s (s.recordOpen unit ev sev) := by
  obtain ⟨n, y, recorded⟩ := s.recordOpen_eq unit ev sev false
  rw [recorded]
  rfl

theorem publishAt (s : State) (entry stamp value : Nat) : Evaluated s (s.publishAt entry stamp value) := by
  obtain ⟨a, published⟩ := s.publishAt_eq entry stamp value
  rw [published]
  rfl

theorem publishLoop (s : State) (c us : Nat) : Evaluated s (s.publishLoop c us) := by
  unfold State.publishLoop
  extract_lets p i
  have one (s : State) (entry v : Nat) : Evaluated s (p s entry v) := publishAt s _ _ _
  exact trans (trans (trans (trans (trans (one s _ _) (one _ _ _)) (one _ _ _)) (one _ _ _)) (one _ _ _)) (one _ _ _)

theorem keepResult (s : State) (c : Nat) (z : LoopSample) (k : LoopResult) : Evaluated s (s.keepResult c z k) := by
  unfold State.keepResult
  extract_lets a old st ws t s₁ s₂
  have words : Evaluated s s₁ := writeWords s _ _
  have point : Evaluated s₁ s₂ := by
    simp only [s₂]
    split
    · exact (coverPoison s₁ _ _).trans (writeWord _ _ _)
    · exact refl s₁
  exact (words.trans point).trans (setStW s₂ c 22 _)

theorem badSample (s : State) (c us : Nat) (nan : Bool) : Evaluated s (s.badSample c us nan) := by
  unfold State.badSample
  extract_lets s₁ n s₂ limit s₃
  have counted : Evaluated s s₁ := by
    simp only [s₁]
    split
    · exact setStW s c 18 _
    · exact refl s
  have marked : Evaluated s₁ s₂ := (setStatus s₁ c 16 8 n).trans (setStatus _ c 8 1 1)
  have driven : Evaluated s₂ s₃ := by
    simp only [s₃]
    split
    · exact refl s₂
    · split
      · exact ((writeDest s₂ c _).trans (setStatus _ c 9 1 1)).trans (recordOpen _ _ _ _)
      · exact writeDest s₂ c _
  exact ((counted.trans marked).trans driven).trans (publishLoop s₃ c us)

theorem noteLatency (s : State) (c us : Nat) : Evaluated s (s.noteLatency c us) := by
  unfold State.noteLatency
  extract_lets ns s₁
  have noted : Evaluated s s₁ := (setStW s c 20 ns).trans (setStW _ c 21 _)
  split
  · exact noted.trans (recordOpen s₁ _ _ _)
  · exact noted

end Evaluated

/-- The sample of channel `c` is no longer released; what the loop engine remembers of the other channels is as it was. -/
structure SampleDone (c : Nat) (s t : State) : Prop where
  wf : Tab.wf {} t.loop.ch
  own : (loopOf t c).released = none
  others : ∀ d, d ≠ c → loopOf t d = loopOf s d
  dev : t.dev = s.dev
  graph : t.graph = s.graph
  axis : t.axis = s.axis

theorem loopOf_modLoopCh_wf {f : LoopCh → LoopCh} (hwf : Tab.wf {} s.loop.ch) (d : Nat) :
    loopOf (s.modLoopCh c f) d = if d = c then f (loopOf s d) else loopOf s d := look_upd f c d hwf

namespace SampleDone

theorem start (hwf : Tab.wf {} s.loop.ch) : SampleDone c s (s.modLoopCh c fun k => { k with released := none }) := by
  refine ⟨upd_wf c (fun k : LoopCh => { k with released := none }) hwf, ?_, fun d hd => ?_, rfl, rfl, rfl⟩
  · rw [loopOf_modLoopCh_wf hwf, if_pos rfl]
  · rw [loopOf_modLoopCh_wf hwf, if_neg hd]

theorem modLoopCh {f : LoopCh → LoopCh} (h : SampleDone c s t) (hf : ∀ k, (f k).released = k.released) : SampleDone c s (t.modLoopCh c f) := by
  refine ⟨upd_wf c f h.wf, ?_, fun d hd => ?_, h.dev, h.graph, h.axis⟩
  · rw [loopOf_modLoopCh_wf h.wf, if_pos rfl, hf]
    exact h.own
  · rw [loopOf_modLoopCh_wf h.wf, if_neg hd]
    exact h.others d hd

theorem evaluated (h : SampleDone c s t) (he : Evaluated t u) : SampleDone c s u := by
  obtain ⟨loop, dev, graph, axis⟩ := he.rest
  have same (d : Nat) : loopOf u d = loopOf t d := by
    unfold loopOf
    rw [loop]
  exact ⟨by rw [loop]; exact h.wf, by rw [same]; exact h.own, fun d hd => (same d).trans (h.others d hd), dev.trans h.dev, graph.trans h.graph,
    axis.trans h.axis⟩

/-- R190, R192: a sample that is run, good or bad. -/
theorem runSample (hwf : Tab.wf {} s.loop.ch) (x : LoopSample) : SampleDone c s (s.runSample c x) := by
  unfold State.runSample
  extract_lets src s' track
  have taken : SampleDone c s s' := start hwf
  split
  · exact taken.evaluated (Evaluated.badSample s' c _ _)
  · split
    · extract_lets scaled
      split
      · exact taken.evaluated (Evaluated.badSample s' c _ _)
      · split
        · exact taken.evaluated (Evaluated.badSample s' c _ _)
        · refine (taken.modLoopCh (f := fun q => { q with fresh := false, bumpless := false }) fun _ => rfl).evaluated ?_
          exact Evaluated.trans (Evaluated.trans (Evaluated.keepResult _ c _ _) (Evaluated.writeDest _ c _)) (Evaluated.publishLoop _ c _)
    · exact taken.evaluated (Evaluated.badSample s' c _ _)

end SampleDone

theorem evaluation_done {p : Nat} (hwf : Tab.wf {} s.loop.ch) (hnext : nextLoop s p = some c) : SampleDone c s (evaluation p s) := by
  unfold evaluation
  rw [hnext]
  dsimp only
  split
  · rename_i none
    exact ⟨hwf, none, fun _ _ => rfl, rfl, rfl, rfl⟩
  · split
    · exact SampleDone.start hwf
    · exact (SampleDone.runSample hwf _).evaluated (Evaluated.noteLatency _ c _)

theorem evaluation_none {p : Nat} (hnext : nextLoop s p = none) : evaluation p s = s := by
  unfold evaluation
  rw [hnext]

/-- The released sample that a processor takes is there. -/
theorem released_of_nextLoop {p : Nat} (hnext : nextLoop s p = some c) : ∃ x, (loopOf s c).released = some x := by
  have listed (l : List Nat) (hl : ∀ d ∈ l, sampleReleased s d = true) : ∀ best : Option Nat, (∀ d, best = some d → sampleReleased s d = true) →
      ∀ d, l.foldl (fun best c => match best with
        | some d => if loopKey s c < loopKey s d then some c else some d
        | none => some c) best = some d → sampleReleased s d = true := by
    induction l with
    | nil => exact fun best hb d hd => hb d hd
    | cons a l ih =>
      intro best hb
      refine ih (fun d hd => hl d (List.mem_cons_of_mem a hd)) _ fun d hd => ?_
      have first := hl a List.mem_cons_self
      cases best with
      | none =>
        rw [Option.some.injEq] at hd
        rw [← hd]
        exact first
      | some e =>
        dsimp only at hd
        split at hd
        · rw [Option.some.injEq] at hd
          rw [← hd]
          exact first
        · rw [Option.some.injEq] at hd
          rw [← hd]
          exact hb e rfl
  have released : sampleReleased s c = true :=
    listed _ (fun d hd => (List.mem_filter.mp hd).2) none (fun d hd => absurd hd (by simp)) c hnext
  unfold sampleReleased at released
  split at released
  · rename_i x hx
    exact ⟨x, hx⟩
  · exact absurd released Bool.false_ne_true

/-! A sample over poisoned words (R192; 16 R565). -/

/-- Status word 13 of channel `c` shows a bad sample, with `n` of them in a row, and word 16 is as it was. -/
structure Bad (c n x : Nat) (s : State) : Prop where
  canon : Canonical s
  count : field (stW s c 13) 16 8 = n
  mark : bit (stW s c 13) 8 = true
  good : stW s c 16 = x

namespace Bad

variable {n x : Nat}

theorem of_mem (h : Bad c n x s) (hmem : t.mem = s.mem) : Bad c n x t := by
  have same (i : Nat) : stW t c i = stW s c i := by
    unfold stW readWord readNat readByte
    rw [hmem]
  exact ⟨by unfold Canonical; rw [hmem]; exact h.canon, by rw [same]; exact h.count, by rw [same]; exact h.mark, by rw [same]; exact h.good⟩

theorem setStW (h : Bad c n x s) {i : Nat} (h13 : 13 ≠ i) (h16 : 16 ≠ i) (v : Nat) : Bad c n x (s.setStW c i v) :=
  ⟨setStW_canonical h.canon i v, by rw [stW_setStW_other h.canon h13]; exact h.count, by rw [stW_setStW_other h.canon h13]; exact h.mark,
    (stW_setStW_other h.canon h16).trans h.good⟩

/-- BAD_LIMIT reached shows beside the bad sample. -/
theorem fallen (h : Bad c n x s) : Bad c n x (s.setStatus c 9 1 1) := by
  have word : stW (s.setStatus c 9 1 1) c 13 = withField (stW s c 13) 9 1 1 := stW_setStatus_same h.canon (by decide)
  refine ⟨setStW_canonical h.canon 13 _, ?_, ?_, (stW_setStatus_other h.canon (by decide)).trans h.good⟩
  · rw [word, field_congr (y := stW s c 13) fun j _ => by rw [testBit_withField, if_neg (by omega)]]
    exact h.count
  · rw [word, bit_eq_testBit, testBit_withField, if_neg (by omega), ← bit_eq_testBit]
    exact h.mark

end Bad

theorem mem_writeDest (s : State) (c v : Nat) : (s.writeDest c v).mem = s.mem := by
  obtain ⟨d, o, written⟩ := s.writeDest_eq c v
  rw [written]

theorem mem_recordOpen (s : State) (unit ev sev : Nat) : (s.recordOpen unit ev sev).mem = s.mem := by
  obtain ⟨n, y, recorded⟩ := s.recordOpen_eq unit ev sev false
  rw [recorded]

theorem mem_publishLoop (s : State) (c us : Nat) : (s.publishLoop c us).mem = s.mem := by
  have one (s : State) (entry stamp value : Nat) : (s.publishAt entry stamp value).mem = s.mem := by
    obtain ⟨a, published⟩ := s.publishAt_eq entry stamp value
    rw [published]
  unfold State.publishLoop
  dsimp only
  rw [one, one, one, one, one, one]

/-- R192: a bad sample counts, shows itself, and is no evaluation. -/
theorem badSample_bad (hcanon : Canonical s) (us : Nat) :
    Bad c (min 255 (field (stW s c 13) 16 8 + 1)) (stW s c 16) (s.badSample c us false) := by
  unfold State.badSample
  rw [if_neg Bool.false_ne_true]
  extract_lets s₁ n s₂ limit s₃
  have canon₁ : Canonical (s.setStatus c 16 8 n) := setStW_canonical hcanon 13 _
  have word₁ : stW (s.setStatus c 16 8 n) c 13 = withField (stW s c 13) 16 8 n := stW_setStatus_same hcanon (by decide)
  have word₂ : stW s₂ c 13 = withField (withField (stW s c 13) 16 8 n) 8 1 1 := by
    rw [← word₁]
    exact stW_setStatus_same canon₁ (by decide)
  have marked : Bad c n (stW s c 16) s₂ := by
    refine ⟨setStW_canonical canon₁ 13 _, ?_, ?_, ?_⟩
    · rw [word₂, field_congr (y := withField (stW s c 13) 16 8 n) fun j _ => by rw [testBit_withField, if_neg (by omega)], field_withField_same]
      exact Nat.mod_eq_of_lt (Nat.lt_of_le_of_lt (Nat.min_le_left _ _) (by decide))
    · rw [word₂, bit_eq_testBit, testBit_withField]
      rfl
    · exact (stW_setStatus_other canon₁ (by decide)).trans (stW_setStatus_other hcanon (by decide))
  refine Bad.of_mem ?_ (mem_publishLoop s₃ c us)
  simp only [s₃]
  split
  · exact marked
  · split
    · have driven : Bad c n (stW s c 16) (s₂.writeDest c (destValue s₂ c (cfgW s₂ c 10))) := marked.of_mem (mem_writeDest s₂ c _)
      exact driven.fallen.of_mem (mem_recordOpen _ 5 35 1)
    · exact marked.of_mem (mem_writeDest s₂ c _)

theorem noteLatency_bad {n x : Nat} (h : Bad c n x s) (us : Nat) : Bad c n x (s.noteLatency c us) := by
  unfold State.noteLatency
  extract_lets ns s₁
  have noted : Bad c n x s₁ := (h.setStW (by decide) (by decide) ns).setStW (by decide) (by decide) _
  split
  · exact noted.of_mem (mem_recordOpen s₁ _ _ _)
  · exact noted

theorem evaluation_poisoned {p : Nat} (hcanon : Canonical s) (hnext : nextLoop s p = some c) (hruns : loopsRun s = true) (hon : domainOn s 8 = true)
    (hbad : loopPoisoned s c = true) : Bad c (min 255 (field (stW s c 13) 16 8 + 1)) (stW s c 16) (evaluation p s) := by
  obtain ⟨x, hx⟩ := released_of_nextLoop hnext
  have runs : evaluation p s = (((s.modLoopCh c fun k => { k with released := none }).badSample c x.us false)).noteLatency c x.us := by
    unfold evaluation State.runSample
    rw [hnext]
    dsimp only
    rw [hx]
    dsimp only
    rw [if_neg (by simp [hruns, hon]), if_pos hbad]
  rw [runs]
  exact noteLatency_bad (badSample_bad (s := s.modLoopCh c fun k => { k with released := none }) hcanon x.us) x.us

/-! SAMPLE_TICK (R189, R194, R217). -/

theorem imgSource_fresh (s : State) (key : ImgKey) : ∃ n, (s.imgSource key).2 = { s with fresh := n } := by
  unfold State.imgSource
  split
  · exact ⟨_, rfl⟩
  · exact ⟨_, rfl⟩

/-- What a channel latches takes free values at most, and carries its instant. -/
theorem latchSample_spec (s : State) (c us since : Nat) :
    (∃ n, (latchSample s c us since).1 = { s with fresh := n }) ∧ (latchSample s c us since).2.us = us := by
  unfold latchSample
  extract_lets subst ready img pv
  have source (i : Nat) (key : ImgKey) (v : State) : ∃ n, (img i key v).2 = { v with fresh := n } := by
    simp only [img]
    split
    · exact ⟨_, rfl⟩
    · split
      · exact ⟨_, rfl⟩
      · split
        · exact ⟨_, rfl⟩
        · exact imgSource_fresh v key
  obtain ⟨n, first⟩ := source 2 (.loopSp c) s
  obtain ⟨n', second⟩ := source 3 (.loopFf c) (img 2 (.loopSp c) s).2
  obtain ⟨n'', third⟩ := source 4 (.loopTrack c) (img 3 (.loopFf c) (img 2 (.loopSp c) s).2).2
  refine ⟨⟨n'', ?_⟩, rfl⟩
  refine third.trans ?_
  rw [second, first]

/-- The state in which a sample of channel `c` is taken: the requests have had their effect, and the tick is noted. -/
def sampleTaken (c : Nat) (s : State) : State :=
  (s.takeRequests c).modLoopCh c fun k => { k with lastTick := some (usOf s.clock), published := (s.takeRequests c).acq.pubCount }

theorem sampleTaken_spec (s : State) (c : Nat) : (loopOf (sampleTaken c s) c).lastTick = some (usOf s.clock) ∧ loopsRun (sampleTaken c s) = loopsRun s ∧
    domainOn (sampleTaken c s) 8 = domainOn s 8 ∧ (sampleTaken c s).dev = s.dev ∧ (sampleTaken c s).graph = s.graph ∧
    (sampleTaken c s).axis = s.axis := by
  refine ⟨?_, ?_⟩
  · rw [sampleTaken, loopOf_modLoopCh fun h => absurd (congrArg LoopCh.lastTick h) (by simp)]
  · obtain ⟨m, k, l, h, o, d, taken⟩ := (LoopTook.takeRequests s c).frame
    rw [sampleTaken, taken]
    exact ⟨rfl, rfl, rfl, rfl, rfl⟩

/-- A sample not yet run when the next is due is dropped, counted, and recorded once in a cycle (R217). -/
def missedSample (c : Nat) (s : State) : State :=
  if (loopOf s c).released.isNone then s
  else
    let s := s.setStW c 19 (sat32 (stW s c 19))
    if (loopOf s c).skipCycle = some (devCycle s) then s
    else (s.recordOpen 5 36 0).modLoopCh c fun k => { k with skipCycle := some (devCycle s) }

theorem missedSample_spec {c us : Nat} (hlast : (loopOf s c).lastTick = some us) : (loopOf (missedSample c s) c).lastTick = some us ∧
    (missedSample c s).dev = s.dev ∧ (missedSample c s).graph = s.graph ∧ (missedSample c s).axis = s.axis := by
  unfold missedSample
  split
  · exact ⟨hlast, rfl, rfl, rfl⟩
  · extract_lets s₁
    obtain ⟨loop, dev, graph, axis⟩ := (Evaluated.setStW s c 19 (sat32 (stW s c 19))).rest
    obtain ⟨loop', dev', graph', axis'⟩ := ((Evaluated.setStW s c 19 (sat32 (stW s c 19))).trans (Evaluated.recordOpen _ 5 36 0)).rest
    split
    · exact ⟨by rw [loopOf, loop]; exact hlast, dev, graph, axis⟩
    · refine ⟨?_, dev', graph', axis'⟩
      rw [loopOf_modLoopCh fun h => absurd (congrArg LoopCh.skipCycle h) (by simp)]
      have same : loopOf ((s.setStW c 19 (sat32 (stW s c 19))).recordOpen 5 36 0) c = loopOf s c :=
        congrArg (fun u : LoopUnit => look ({} : LoopCh) u.ch c) loop'
      exact (congrArg LoopCh.lastTick same).trans hlast

/-- R217: what a tick at which the channel takes a sample comes to. -/
theorem sampleTick_eq (hen : loopEnabled s c = true) (hper : loopPeriod s c ≠ 0) (hdue : usOf s.clock % loopPeriod s c = 0)
    (hnew : (loopOf s c).lastTick ≠ some (usOf s.clock)) : sampleTick c s =
      if ¬ loopsRun (sampleTaken c s) ∨ !domainOn (sampleTaken c s) 8 then (sampleTaken c s).modLoopCh c fun k => { k with released := none }
      else (latchSample (missedSample c (sampleTaken c s)) c (usOf s.clock) (loopOf s c).published).1.modLoopCh c fun k => { k with
        released := some (latchSample (missedSample c (sampleTaken c s)) c (usOf s.clock) (loopOf s c).published).2 } := by
  unfold sampleTick
  dsimp only
  rw [if_neg]
  · rfl
  · rw [Nat.max_eq_right (Nat.pos_of_ne_zero hper)]
    rintro (h | h | h | h)
    · exact h hen
    · exact hper h
    · exact h hdue
    · exact hnew h

theorem sampleTick_spec (hen : loopEnabled s c = true) (hper : loopPeriod s c ≠ 0) (hdue : usOf s.clock % loopPeriod s c = 0)
    (hnew : (loopOf s c).lastTick ≠ some (usOf s.clock)) : (loopOf (sampleTick c s) c).lastTick = some (usOf s.clock) ∧
    (loopsRun s = true → domainOn s 8 = true → ∃ x, (loopOf (sampleTick c s) c).released = some x ∧ x.us = usOf s.clock) ∧
    (loopsRun s = false ∨ domainOn s 8 = false → (loopOf (sampleTick c s) c).released = none) ∧
    (sampleTick c s).dev = s.dev ∧ (sampleTick c s).graph = s.graph ∧ (sampleTick c s).axis = s.axis := by
  obtain ⟨last, runs, on, dev, graph, axis⟩ := sampleTaken_spec s c
  rw [sampleTick_eq hen hper hdue hnew, runs, on]
  by_cases h : ¬ loopsRun s = true ∨ (!domainOn s 8) = true
  · rw [if_pos h]
    have own : loopOf ((sampleTaken c s).modLoopCh c fun k => { k with released := none }) c = { loopOf (sampleTaken c s) c with released := none } :=
      loopOf_modLoopCh fun e => absurd (last.symm.trans (congrArg LoopCh.lastTick e :)) (Option.some_ne_none _)
    rw [own]
    refine ⟨last, fun hruns hon => ?_, fun _ => rfl, dev, graph, axis⟩
    rw [hruns, hon] at h
    exact absurd h (by simp)
  · rw [if_neg h]
    obtain ⟨last', dev', graph', axis'⟩ := missedSample_spec last
    obtain ⟨⟨n, fresh⟩, us⟩ := latchSample_spec (missedSample c (sampleTaken c s)) c (usOf s.clock) (loopOf s c).published
    generalize latchSample (missedSample c (sampleTaken c s)) c (usOf s.clock) (loopOf s c).published = z at fresh us
    have own : loopOf (z.1.modLoopCh c fun k => { k with released := some z.2 }) c = { loopOf z.1 c with released := some z.2 } :=
      loopOf_modLoopCh fun e => absurd (congrArg LoopCh.released e) (by simp)
    have kept : loopOf z.1 c = loopOf (missedSample c (sampleTaken c s)) c := by
      rw [fresh]
      rfl
    rw [own, kept]
    have dev'' : z.1.dev = (missedSample c (sampleTaken c s)).dev := by rw [fresh]
    have graph'' : z.1.graph = (missedSample c (sampleTaken c s)).graph := by rw [fresh]
    have axis'' : z.1.axis = (missedSample c (sampleTaken c s)).axis := by rw [fresh]
    refine ⟨last', fun _ _ => ⟨_, rfl, us⟩, fun hnot => ?_, dev''.trans (dev'.trans dev), graph''.trans (graph'.trans graph),
      axis''.trans (axis'.trans axis)⟩
    rcases hnot with h' | h'
    · exact absurd (.inl (by rw [h']; exact Bool.false_ne_true)) h
    · exact absurd (.inr (by rw [h']; rfl)) h

theorem sampleTick_disabled (hen : loopEnabled s c = false) : sampleTick c s = s := by
  unfold sampleTick
  exact if_pos (.inl (by rw [hen]; exact Bool.false_ne_true))

/-! RESAMPLING (R215). -/

theorem resampling_none {p : Nat} (h : ∀ c, c < loopChannels s → loopProc s c = p → (loopOf s c).resample = none) : resampling p s = s := by
  have none : ((List.range (loopChannels s)).find? fun c => loopProc s c == p && (loopOf s c).resample.isSome) = none := by
    refine List.find?_eq_none.mpr fun c hc => ?_
    intro found
    obtain ⟨proc, some⟩ := Bool.and_eq_true_iff.mp found
    rw [h c (List.mem_range.mp hc) (beq_iff_eq.mp proc)] at some
    exact absurd some (by simp)
  unfold resampling
  rw [none]

/-- The points of a resampled table. -/
def resampledPoints (s : State) (c n0 : Nat) : List Nat :=
  (List.range (max 1 (repN s c (activeB s c)))).map
    (resampled ((List.range n0).map (pointAt s (tableOf s c))) n0 (max 1 (repN s c (activeB s c))))

theorem resampling_eq {p n0 st : Nat} (hc : c < loopChannels s) (hproc : loopProc s c = p) (hst : (loopOf s c).resample = some (n0, st))
    (hfirst : ∀ d, d < c → loopProc s d = p → (loopOf s d).resample = none) : resampling p s =
      ((s.writeWords (pointAddr (tableOf s c) 0) ((resampledPoints s c n0).map wd)).setStatus c 10 3 st).modLoopCh c fun k => { k with resample := none } := by
  have found : ((List.range (loopChannels s)).find? fun c => loopProc s c == p && (loopOf s c).resample.isSome) = some c := by
    rw [List.find?_range_eq_some]
    refine ⟨?_, List.mem_range.mpr hc, fun d hd => ?_⟩
    · rw [hproc, hst, beq_self_eq_true]
      rfl
    · by_cases h : loopProc s d = p
      · rw [hfirst d hd h, Option.isSome_none, Bool.and_false]
        rfl
      · rw [beq_false_of_ne h]
        rfl
  unfold resampling
  rw [found]
  dsimp only
  rw [hst]
  rfl

theorem resampling_spec {p n0 st : Nat} (hwf : Tab.wf {} s.loop.ch) (hcanon : Canonical s) (hc : c < loopChannels s) (hproc : loopProc s c = p)
    (hst : (loopOf s c).resample = some (n0, st)) (hfirst : ∀ d, d < c → loopProc s d = p → (loopOf s d).resample = none) :
    (loopOf (resampling p s) c).resample = none ∧ field (stW (resampling p s) c 13) 10 3 = st % 8 ∧
    (∀ j, j < max 1 (repN s c (activeB s c)) → readWord (resampling p s) (pointAddr (tableOf s c) j) =
      (wd (resampled ((List.range n0).map (pointAt s (tableOf s c))) n0 (max 1 (repN s c (activeB s c))) j)).toNat) ∧
    (resampling p s).dev = s.dev ∧ (resampling p s).graph = s.graph := by
  rw [resampling_eq hc hproc hst hfirst]
  have evaluated := (Evaluated.writeWords s (pointAddr (tableOf s c) 0) ((resampledPoints s c n0).map wd)).trans (Evaluated.setStatus _ c 10 3 st)
  have canon : Canonical (s.writeWords (pointAddr (tableOf s c) 0) ((resampledPoints s c n0).map wd)) := State.writeWords_canonical _ _ hcanon
  have written (j : Nat) (hj : j < max 1 (repN s c (activeB s c))) :
      readWord (s.writeWords (pointAddr (tableOf s c) 0) ((resampledPoints s c n0).map wd)) (pointAddr (tableOf s c) j) =
      (wd (resampled ((List.range n0).map (pointAt s (tableOf s c))) n0 (max 1 (repN s c (activeB s c))) j)).toNat := by
    have place : pointAddr (tableOf s c) j = pointAddr (tableOf s c) 0 + 4 * j := rfl
    rw [place, readWord_writeWords_at hcanon (by rw [List.length_map, resampledPoints, List.length_map, List.length_range]; exact hj)]
    rw [resampledPoints, List.getD_eq_getElem?_getD, List.getElem?_map, List.getElem?_map, List.getElem?_range hj]
    rfl
  generalize s.writeWords (pointAddr (tableOf s c) 0) ((resampledPoints s c n0).map wd) = v at evaluated canon written
  obtain ⟨loop, dev, graph, -⟩ := evaluated.rest
  have most := loopChannels_le s
  refine ⟨?_, ?_, fun j hj => ?_, dev, graph⟩
  · rw [loopOf_modLoopCh_wf (by rw [loop]; exact hwf), if_pos rfl]
  · change field (stW (v.setStatus c 10 3 st) c 13) 10 3 = _
    rw [stW_setStatus_same canon (by decide), field_withField_same, show (2 : Nat) ^ 3 = 8 from rfl]
  · change readWord (v.setStatus c 10 3 st) (pointAddr (tableOf s c) j) = _
    rw [← written j hj]
    refine readWord_writeWord_other canon (.inr ?_)
    simp only [loopAddr, pointAddr]
    omega

/-- Settles O43: a core's operations by `operationStart_prefetched`, `endOp_spec`, `take_single` and `tokenSpill_single`, delays by
`foldl_endDelay_gone`; samples by `sampleTick_spec`, `SampleDone` and `evaluation_poisoned`, tables by `resampling_spec`. -/
theorem schedulerAndLoopsRun : Obligations.SchedulerAndLoopsRun := by
  refine ⟨fun t s u hu hcores hslots => ?_, fun t s u hu hloops hcanon => ?_⟩
  · subst hu
    refine ⟨fun c miss r hc hidle hstalled hstep hprefetch hlists hruns => ?started, fun c r hc hr hurgent hwaits => ?completed, fun c hc hidle => ?idle,
      fun c r d hc hr hurgent hd => ?urgent, fun c d r hc hd hcd hnone hidle hstep hprefetch hlists hrest hprio hruns hallowed hmin => ?taken,
      fun c d k hc hd hone hrest hspill hdue => ?spilled, fun c hc hnone => ?noSpill, fun n x hn hx hdue => ?released,
      fun n x hn hx hruns hdue => ?shed, fun n x hn hx hheld => ?held, fun n hn hnone => ?noExec⟩
    case started =>
      obtain ⟨q, running, slot, op, at', prefetch, misses, cyc, axis⟩ := operationStart_prefetched miss hcores hidle hstalled hstep hprefetch hlists hruns
      exact ⟨_, event_of (decide_eq_true hc) t _ s, ⟨q, running, slot, op, at'⟩, prefetch, misses, cyc, axis⟩
    case completed => exact ⟨_, event_of (decide_eq_true hc) t _ s, operationComplete_ends hcores hr hurgent hwaits⟩
    case idle =>
      refine ⟨(event_of (decide_eq_true hc) t _ s).trans (congrArg _ ?_), (event_of (decide_eq_true hc) t _ s).trans (congrArg _ ?_)⟩
      · unfold operationComplete
        rw [hidle]
      · unfold urgentComplete
        rw [hidle]
    case urgent => exact ⟨_, event_of (decide_eq_true hc) t _ s, urgentComplete_ends hcores hr hurgent hd⟩
    case taken =>
      exact ⟨_, event_of (decide_eq_true hc) t _ s,
        take_single hcores hd hcd hnone hidle hstep hprefetch hlists hrest hprio hruns hallowed hmin⟩
    case spilled => exact ⟨_, event_of (decide_eq_true hc) t _ s, tokenSpill_single hcores hd hone hrest hspill hdue⟩
    case noSpill => exact (event_of (decide_eq_true hc) t _ s).trans (congrArg _ (tokenSpill_none hnone))
    case released => exact ⟨_, event_of (decide_eq_true hn) t _ s, delayRelease_ends hslots hx hdue⟩
    case shed => exact ⟨_, event_of (decide_eq_true hn) t _ s, shed_ends hslots hx hruns hdue⟩
    case held =>
      refine (event_of (decide_eq_true hn) t _ s).trans (congrArg _ ?_)
      unfold Machine.shed
      rw [hx]
      refine if_pos (.inl ?_)
      rw [sheds, hheld]
      exact Bool.false_ne_true
    case noExec =>
      refine ⟨(event_of (decide_eq_true hn) t _ s).trans (congrArg _ ?_), (event_of (decide_eq_true hn) t _ s).trans (congrArg _ ?_)⟩
      · unfold delayRelease
        rw [hnone]
      · unfold Machine.shed
        rw [hnone]
  · subst hu
    refine ⟨fun c hc hen hper hdue hnew => ?sampled, fun c hc hoff => ?disabled, fun p hp hnone => ?nothing, fun p c hp hnext => ?evaluated,
      fun p c hp hc hnext hruns hon hbad => ?poisoned, fun p hp hnone => ?noTable, fun p c n0 st hp hc hproc hst hfirst => ?resampled⟩
    case sampled => exact ⟨_, event_of (decide_eq_true hc) t _ s, sampleTick_spec hen hper hdue hnew⟩
    case disabled => exact (event_of (decide_eq_true hc) t _ s).trans (congrArg _ (sampleTick_disabled hoff))
    case nothing => exact (event_of (decide_eq_true hp) t _ s).trans (congrArg _ (evaluation_none hnone))
    case evaluated =>
      have done := evaluation_done hloops hnext
      exact ⟨_, event_of (decide_eq_true hp) t _ s, done.own, done.others, done.dev, done.graph, done.axis⟩
    case poisoned =>
      have bad := evaluation_poisoned hcanon hnext hruns hon hbad
      exact ⟨_, event_of (decide_eq_true hp) t _ s, bad.count, bad.mark, bad.good⟩
    case noTable => exact (event_of (decide_eq_true hp) t _ s).trans (congrArg _ (resampling_none hnone))
    case resampled => exact ⟨_, event_of (decide_eq_true hp) t _ s, resampling_spec hloops hcanon hc hproc hst hfirst⟩

end Sys2Proof.Machine
end
section
/-! What the start of a control cycle leaves as it was (01 R13, R31–R33, R43). -/

namespace Sys2Proof.Machine

variable {s t u : State}

namespace AxesMoved

theorem axisCheck (s : State) (n : Nat) : AxesMoved s (s.axisCheck n) := by
  have judged (without cause : Option Nat) : AxesMoved s (match without, cause with
      | some k, _ => (s.axisUndoStart n).axisFail n k false
      | none, some k => s.axisFail n k false
      | none, none => s) := by
    split
    · exact (axisUndoStart s n).trans (axisFail _ n _ false)
    · exact axisFail s n _ false
    · exact refl s
  unfold State.axisCheck
  extract_lets t c
  split
  exact (judged _ _).trans (modCh _ n _)

end AxesMoved

namespace Captured

theorem skipIntervals (s : State) (c cause : Nat) : Captured s (s.skipIntervals c cause) := by
  unfold State.skipIntervals State.streamGaps
  extract_lets cap b s₁ cap' r s₂
  have skipped : Captured s s₁ := modCap s c _
  have sent : Captured s₁ s₂ := foldl (fun s _ => of_streamed (Streamed.ringPut _ _ _ s)) _ s₁
  split
  · split
    · exact skipped
    · exact (skipped.trans sent).trans (modCap s₂ c _)
  · exact skipped

end Captured

/-- The mode and the other settings of the device, its place in the control cycle, the island, the boot block and the clock are as they were. -/
structure Aside (s t : State) : Prop where
  dev : t.dev = s.dev
  cyc : t.cyc = s.cyc
  isl : t.isl = s.isl
  boot : t.boot = s.boot
  now : t.now = s.now

/-- The cycle, the programs, the island, the boot block and the clock are as they were: what happens is a matter of the axes. -/
structure Steered (s t : State) : Prop where
  cyc : t.cyc = s.cyc
  graph : t.graph = s.graph
  isl : t.isl = s.isl
  boot : t.boot = s.boot
  now : t.now = s.now

/-- The cycle that has begun, the island, the boot block and the clock are as they were. -/
structure Steady (s t : State) : Prop where
  startOf : t.cyc.startOf = s.cyc.startOf
  isl : t.isl = s.isl
  boot : t.boot = s.boot
  now : t.now = s.now

namespace Aside

theorem refl (s : State) : Aside s s := ⟨rfl, rfl, rfl, rfl, rfl⟩

theorem trans (h : Aside s t) (h' : Aside t u) : Aside s u :=
  ⟨h'.dev.trans h.dev, h'.cyc.trans h.cyc, h'.isl.trans h.isl, h'.boot.trans h.boot, h'.now.trans h.now⟩

theorem foldl {α : Type} {f : State → α → State} (hf : ∀ s a, Aside s (f s a)) : ∀ (l : List α) (s : State), Aside s (l.foldl f s)
  | [], s => refl s
  | a :: l, s => (hf s a).trans (foldl hf l (f s a))

theorem of_replied (h : s.Replied t) : Aside s t := ⟨h.dev, h.cyc, h.isl, h.boot, h.now⟩

theorem of_captured (h : Captured s t) : Aside s t := by
  unfold Captured at h
  rw [h]
  exact ⟨rfl, rfl, rfl, rfl, rfl⟩

theorem of_ringOnly (h : RingOnly s t) : Aside s t := by
  unfold RingOnly at h
  rw [h]
  exact ⟨rfl, rfl, rfl, rfl, rfl⟩

theorem of_triggered (h : Triggered s t) : Aside s t := by
  unfold Triggered at h
  rw [h]
  exact ⟨rfl, rfl, rfl, rfl, rfl⟩

theorem of_plain (h : Plain s t) : Aside s t := by
  unfold Plain at h
  rw [h]
  exact ⟨rfl, rfl, rfl, rfl, rfl⟩

theorem of_sent (h : Sent False s t) : Aside s t := of_plain (h.plain id)

theorem of_took (h : LoopTook s t) : Aside s t := by
  obtain ⟨_, _, _, _, _, _, rfl⟩ := h.frame
  exact ⟨rfl, rfl, rfl, rfl, rfl⟩

theorem recordOpen (s : State) (unit ev sev : Nat) (transient : Bool) : Aside s (s.recordOpen unit ev sev transient) :=
  of_captured (.of_streamed (Streamed.recordOpen s unit ev sev transient))

theorem note (s : State) (r : TallyRec) : Aside s (s.note r) := by
  obtain ⟨y, noted⟩ := s.note_eq r
  rw [noted]
  exact ⟨rfl, rfl, rfl, rfl, rfl⟩

theorem writeWords (s : State) (a : Nat) (ws : List Word) : Aside s (s.writeWords a ws) := of_captured (Captured.writeWords s a ws)

theorem writeNat (s : State) (a n v : Nat) : Aside s (s.writeNat a n v) := by
  obtain ⟨m, k, written⟩ := s.writeBytes_eq a (bytesOfNat n v)
  rw [State.writeNat, written]
  exact ⟨rfl, rfl, rfl, rfl, rfl⟩

theorem settle (s : State) (f : Deferred → Bool) (g : Deferred → Nat × List Word) : Aside s (s.settle f g) := of_replied (State.settle_replied s f g)

/-! The rings (10 R359–R384; 01 R15). -/

theorem modDrove (s : State) (f : DroveUnit → DroveUnit) : Aside s (s.modDrove f) := ⟨rfl, rfl, rfl, rfl, rfl⟩

theorem modIface (s : State) (down : Bool) (f : Iface → Iface) : Aside s (s.modIface down f) := modDrove s _

theorem setTopo (s : State) (addr : Nat) (f : TopoEntry → TopoEntry) : Aside s (s.setTopo addr f) := by
  unfold State.setTopo
  dsimp only
  split
  · exact refl s
  · exact trans (modDrove s _) (of_ringOnly (RingOnly.writeTopo _))

theorem memberOut (s : State) (m : Nat) : Aside s (s.memberOut m) := by
  unfold State.memberOut
  split
  · exact trans (modDrove s _) (setTopo _ _ _)
  · exact refl s

theorem ringCount (s : State) (down : Bool) (i : Nat) : Aside s (s.ringCount down i) := modIface s down _

theorem healStep (s : State) : Aside s s.healStep := by
  unfold State.healStep
  extract_lets k now
  split
  · split
    · exact refl s
    · exact trans (trans (modIface s true _) (ringCount _ true 11)) (recordOpen _ 9 20 0 false)
  · split
    · exact refl s
    · rename_i link allUp _
      extract_lets s₁
      have looped : Aside s s₁ := by
        simp only [s₁]
        split
        · exact refl s
        · exact trans (trans (modIface s true _) (ringCount _ true 10)) (recordOpen _ 9 19 1 false)
      split
      · exact looped.trans (modIface s₁ true _)
      · exact looped

theorem downCycleStart (s : State) : Aside s (downCycleStart s) := by
  unfold Machine.downCycleStart
  extract_lets k now prev s₁
  have first : Aside s s₁ := modIface s true _
  split
  · split
    · exact first.trans (modIface s₁ true _)
    · exact first
  · split
    · exact first
    · rename_i s₂ s₃ _ _
      have missed : Aside s₁ s₂ := by
        refine foldl (fun v e => ?_) _ s₁
        split
        · extract_lets v'
          have counted : Aside v v' := modDrove v _
          split
          · exact counted.trans (memberOut v' _)
          · exact counted
        · exact refl v
      have mode : Aside s₂ s₃ := by
        simp only [s₃]
        split
        · split
          · exact refl s₂
          · split
            · exact trans (trans (modIface s₂ true _) (modDrove _ _)) (ringCount _ true 14)
            · exact modIface s₂ true _
        · exact refl s₂
      exact ((first.trans missed).trans mode).trans (healStep s₃)

theorem integrate (s : State) : Aside s s.integrate := ⟨rfl, rfl, rfl, rfl, rfl⟩

theorem slewStep (s : State) : Aside s (slewStep s) := ⟨rfl, rfl, rfl, rfl, rfl⟩

theorem upCycleStart (s : State) : Aside s (upCycleStart s) := by
  unfold Machine.upCycleStart
  extract_lets k s₁ now s₂ s₃
  have first : Aside s s₁ := modDrove s _
  have restored : Aside s₁ s₂ := by
    simp only [s₂]
    split
    · exact modIface s₁ false _
    · exact refl s₁
  have mode : Aside s₂ s₃ := by
    simp only [s₃]
    split
    · split
      · exact refl s₂
      · split
        · exact trans (modIface s₂ false _) (ringCount _ false 14)
        · exact modIface s₂ false _
    · exact refl s₂
  have all := (first.trans restored).trans mode
  split
  · split
    · exact all.trans (trans (modDrove s₃ _) (integrate _))
    · exact all
  · exact all.trans (modIface s₃ false _)
  · split
    · exact all.trans (modIface s₃ false _)
    · exact all
  · exact all

theorem applyRate (s : State) : Aside s s.applyRate := ⟨rfl, rfl, rfl, rfl, rfl⟩

theorem ringsAtStart (s : State) : Aside s (ringsAtStart s) := by
  unfold Machine.ringsAtStart
  extract_lets s₁ s₂
  have up : Aside s s₁ := by
    simp only [s₁]
    split
    · exact upCycleStart s
    · exact refl s
  have down : Aside s₁ s₂ := by
    simp only [s₂]
    split
    · exact (downCycleStart s₁).trans (slewStep _)
    · exact refl s₁
  exact (up.trans down).trans (applyRate s₂)

theorem sendTopology (s : State) : Aside s (sendTopology s) := by
  unfold Machine.sendTopology
  extract_lets s₁ ch
  have refreshed : Aside s s₁ := setTopo s _ _
  split
  · exact refreshed
  · exact refreshed.trans (modDrove s₁ _)

/-! Programs (04 R140–R152, R155; 05 R188). -/

theorem modSlot (s : State) (n : Nat) (f : GSlot → GSlot) : Aside s (s.modSlot n f) := ⟨rfl, rfl, rfl, rfl, rfl⟩

theorem modBank (s : State) (n : Nat) (b : Bool) (f : Bank → Bank) : Aside s (s.modBank n b f) := modSlot s n _

theorem modSched (s : State) (f : SchedUnit → SchedUnit) : Aside s (s.modSched f) := ⟨rfl, rfl, rfl, rfl, rfl⟩

theorem freeShared (s : State) : Aside s s.freeShared := ⟨rfl, rfl, rfl, rfl, rfl⟩

theorem graphMode (s : State) : Aside s (graphMode s) := of_sent ((Sent.refillAll s).trans (Sent.foldl Sent.stepOn _ _))

theorem countArith (s : State) (n k : Nat) : Aside s (s.countArith n k) := by
  unfold State.countArith
  split
  · exact refl s
  · extract_lets first s₁
    have counted : Aside s s₁ := modSlot s n _
    split
    · exact counted.trans (recordOpen s₁ _ _ _ _)
    · exact counted

theorem dropForces (s : State) (n : Nat) (b : Bool) : Aside s (s.dropForces n b) := by
  unfold State.dropForces
  extract_lets drop s₁
  have recorded : Aside s s₁ := foldl (fun s _ => note s _) drop s
  exact recorded.trans ⟨rfl, rfl, rfl, rfl, rfl⟩

theorem modGraph (s : State) (f : GraphUnit → GraphUnit) : Aside s (s.modGraph f) := ⟨rfl, rfl, rfl, rfl, rfl⟩

theorem initVar (s : State) (n : Nat) (b : Bool) (i base from' : Nat) : Aside s (s.initVar n b i base from') := by
  unfold State.initVar
  extract_lets a v ws s₁
  have written : Aside s s₁ := writeWords s _ _
  clear_value s₁
  split
  · exact written.trans (modGraph s₁ _)
  · exact written

theorem initTails (s : State) (n : Nat) (b : Bool) (plan : List Carry) : Aside s (s.initTails n b plan) := by
  refine foldl (fun s c => ?_) plan s
  split
  · exact refl s
  · split
    · exact initVar s _ _ _ _ _
    · exact refl s

theorem initVars (s : State) (n : Nat) : Aside s (s.initVars n) := by
  unfold State.initVars
  split
  · exact refl s
  · refine foldl (fun s i => ?_) _ s
    split
    · exact refl s
    · exact initVar s _ _ _ _ _

theorem carryEntries (l : List Carry) : ∀ acc : State × Nat, Aside acc.1 (l.foldl carryEntry acc).1 := by
  have elements (c : Carry) (l : List Nat) : ∀ acc : State × Nat, Aside acc.1 (l.foldl (fun acc i =>
      let src := varAddr (c.src + i * tyWords c.srcType)
      let dst := varAddr (c.dst + i * tyWords c.dstType)
      let r := carryValue c.srcType c.dstType (readNat acc.1 src (4 * tyWords c.srcType))
      (acc.1.writeNat dst (4 * tyWords c.dstType) r.1, acc.2 + r.2)) acc).1 := by
    induction l with
    | nil => exact fun acc => refl acc.1
    | cons i l ih =>
      intro acc
      rw [List.foldl_cons]
      exact trans (writeNat acc.1 _ _ _) (ih (_, _))
  induction l with
  | nil => exact fun acc => refl acc.1
  | cons c l ih => exact fun acc => (elements c _ acc).trans (ih _)

theorem moult (s : State) (n x : Nat) : Aside s (s.moult n x) := by
  unfold State.moult
  extract_lets k b target was s₁ s₂ r s₃ plan s₄ s₅ s₆
  split
  · exact refl s
  · have dropped : Aside s s₁ := dropForces s n b
    have filled : Aside s₁ s₂ := by
      simp only [s₂]
      split
      · exact initTails s₁ n b _
      · exact refl s₁
    have carried : Aside s₂ s₃ := (carryEntries target.plan (s₂, 0)).trans (countArith r.1 n r.2)
    exact trans (trans (trans (trans (trans ((dropped.trans filled).trans carried) (modBank s₃ n _ _)) (modBank _ n _ _)) (modSched _ _))
      (modSlot _ n _)) (freeShared _)

theorem slotControl (n action k : Nat) (s : State) : Aside s (slotControl n action k s).1 := by
  unfold Machine.slotControl
  split
  · split
    · exact refl s
    · split
      · exact refl s
      · exact modSlot s n _
  · exact modSlot s n _
  · exact trans (modSlot s n _) (of_sent (Sent.refillAll _))
  · split
    · exact refl s
    · extract_lets t
      have freed : Aside s t := modSlot s n _
      split
      · exact freed.trans (trans (modSlot t n _) (of_sent ((Sent.refillAll _).trans (Sent.stepOn _ n))))
      · exact freed
  · split
    · exact refl s
    · exact initVars s n

theorem controlsAtStart (k : Nat) (s : State) : Aside s (controlsAtStart k s) := by
  unfold Machine.controlsAtStart
  extract_lets sel s₁
  have taken : Aside s s₁ := ⟨rfl, rfl, rfl, rfl, rfl⟩
  exact taken.trans (foldl (fun s d => (slotControl _ _ k s).trans (of_replied (State.answer_replied _ _ _ _ _))) sel s₁)

theorem schedAtStart (s : State) : Aside s (schedAtStart s) := by
  refine trans (foldl (fun s c => ?_) s.sched.changes s) ⟨rfl, rfl, rfl, rfl, rfl⟩
  unfold applySched
  split
  · exact ⟨rfl, rfl, rfl, rfl, rfl⟩
  · exact ⟨rfl, rfl, rfl, rfl, rfl⟩

theorem originsAtStart (k : Nat) (s : State) : Aside s (originsAtStart k s) := by
  refine foldl (fun s n => ?_) _ s
  split
  · split
    · exact modSlot s n _
    · exact refl s
  · exact refl s

theorem routNow (values : List (ImgKey × Nat)) (s : State) : Aside s (routNow values s) := by
  refine foldl (fun s e => ?_) values s
  split
  · exact modDrove s _
  · exact modDrove s _
  · exact refl s

theorem routDue (k : Nat) (s : State) : Aside s (routDue k s) := by
  refine foldl (fun s n => ?_) _ s
  split
  · split
    · exact routNow _ s
    · exact refl s
  · exact refl s

theorem graphEnterRun (x : Nat) (s : State) : Aside s (graphEnterRun x s) := foldl (fun s n => modSlot s n _) _ s

theorem graphReturnToRun (s : State) : Aside s (graphReturnToRun s) := by
  refine foldl (fun s n => ?_) _ s
  extract_lets s₁ s₂
  have due : Aside s s₁ := by
    simp only [s₁]
    split
    · exact refl s
    · exact modSlot s n _
  have shown : Aside s₁ s₂ := routNow _ s₁
  refine (due.trans shown).trans ?_
  split
  · split
    · exact routNow _ s₂
    · exact refl s₂
  · exact refl s₂

/-! Loops, axes, outputs, captures, triggers, network time and domains. -/

theorem loopsFresh (s : State) : Aside s (loopsFresh s) := 
  foldl (f := fun s c => s.modLoopCh c fun k => { k with fresh := true, released := none }) (fun _ _ => ⟨rfl, rfl, rfl, rfl, rfl⟩) _ s

theorem loopChangeover (s : State) : Aside s (loopChangeover s) := by
  refine foldl (fun s c => ?_) _ s
  split
  · exact ⟨rfl, rfl, rfl, rfl, rfl⟩
  · exact of_took (LoopTook.swapBank s c)

theorem axisToRun (s : State) : Aside s (axisToRun s) :=
  foldl (f := fun v n => v.modCh n fun c => c.offsetMoves (usNow s)) (fun _ _ => ⟨rfl, rfl, rfl, rfl, rfl⟩) _ s

theorem setSubstitute (on : Bool) (s : State) : Aside s (setSubstitute on s) := ⟨rfl, rfl, rfl, rfl, rfl⟩

theorem netCycle (s : State) : Aside s (netCycle s) := by
  unfold Machine.netCycle
  split
  · exact ⟨rfl, rfl, rfl, rfl, rfl⟩
  · split
    · exact ⟨rfl, rfl, rfl, rfl, rfl⟩
    · exact refl s

theorem triggerCycle (cycle : Nat) (s : State) : Aside s (triggerCycle cycle s) := by
  refine foldl (fun s n => ?_) _ s
  dsimp only
  split
  · exact of_triggered ((Triggered.modTrig s n _).trans (Triggered.fireOpen _ n _))
  · exact refl s

theorem skipIntervals (s : State) (c cause : Nat) : Aside s (s.skipIntervals c cause) := of_captured (Captured.skipIntervals s c cause)

theorem settleGraze (s : State) : Aside s (settleGraze s) := by
  unfold Machine.settleGraze
  split
  · have woken : Aside s (canUngraze (s.modPwr fun p => { p with inGraze := false })) := ⟨rfl, rfl, rfl, rfl, rfl⟩
    exact (woken.trans (foldl (f := fun s (e : Nat × Capture) => s.skipIntervals e.1 3) (fun s e => skipIntervals s e.1 3) _ _)).trans (loopsFresh _)
  · exact refl s

theorem retarget (d : Nat) (p : PState) (s : State) : Aside s (Machine.retarget d p s) := by
  unfold Machine.retarget
  dsimp only
  split
  · exact refl s
  · split
    · exact ⟨rfl, rfl, rfl, rfl, rfl⟩
    · split
      · exact refl s
      · exact ⟨rfl, rfl, rfl, rfl, rfl⟩

theorem rechoose (s : State) : Aside s (rechoose s) := by
  refine foldl (fun s d => ?_) _ s
  extract_lets p
  split
  · exact refl s
  · exact retarget d p s

theorem enterGraze (s : State) : Aside s (enterGraze s) := trans (t := (Machine.setSubstitute true s).modPwr fun p => { p with
    grazeSince := s.now, entryRunning := true, exitQueued := none, waking := false }) ⟨rfl, rfl, rfl, rfl, rfl⟩ (rechoose _)

theorem acqPause (s : State) : Aside s (acqPause s) :=
  of_captured (Captured.foldl (fun s c => (Captured.cutInterval s c s.ns).trans (Captured.modCap _ c _)) _ s)

theorem modBuf (s : State) (c b : Nat) (f : CanBuf → CanBuf) : Aside s (s.modBuf c b f) := ⟨rfl, rfl, rfl, rfl, rfl⟩

theorem endCancels (s : State) (c : Nat) : Aside s (s.endCancels c) := by
  refine foldl (fun s b => ?_) _ s
  split
  · exact (modBuf s c b _).trans (settle _ _ _)
  · exact refl s

theorem modCan (s : State) (f : CanUnit → CanUnit) : Aside s (s.modCan f) := ⟨rfl, rfl, rfl, rfl, rfl⟩

theorem canGraze (s : State) : Aside s (canGraze s) := by
  unfold Machine.canGraze
  exact trans (foldl (f := fun s c => s.endCancels c) endCancels _ s) (modCan _ _)

end Aside

namespace Steered

theorem refl (s : State) : Steered s s := ⟨rfl, rfl, rfl, rfl, rfl⟩

theorem trans (h : Steered s t) (h' : Steered t u) : Steered s u :=
  ⟨h'.cyc.trans h.cyc, h'.graph.trans h.graph, h'.isl.trans h.isl, h'.boot.trans h.boot, h'.now.trans h.now⟩

theorem foldl {α : Type} {f : State → α → State} (hf : ∀ s a, Steered s (f s a)) : ∀ (l : List α) (s : State), Steered s (l.foldl f s)
  | [], s => refl s
  | a :: l, s => (hf s a).trans (foldl hf l (f s a))

theorem of_axes (h : AxesMoved s t) : Steered s t := by
  unfold AxesMoved Reacted at h
  rw [h]
  exact ⟨rfl, rfl, rfl, rfl, rfl⟩

theorem modCh (s : State) (n : Nat) (f : AxisCh → AxisCh) : Steered s (s.modCh n f) := ⟨rfl, rfl, rfl, rfl, rfl⟩

theorem axisAdvance (s : State) (n : Nat) : Steered s (s.axisAdvance n) := of_axes (AxesMoved.axisAdvance s n)

theorem axisStop (s : State) (n kind : Nat) : Steered s (s.axisStop n kind) := of_axes (axisStop_moved s n kind)

theorem axisClear (s : State) (n : Nat) : Steered s (s.axisClear n).1 := by
  unfold State.axisClear
  extract_lets s₁ c
  have advanced : Steered s s₁ := axisAdvance s n
  split
  · exact advanced
  · split
    · exact advanced.trans (modCh s₁ n _)
    · exact advanced

theorem axisStopNow (p : Packet) (s : State) : Steered s (axisStopNow p s).1 := by
  unfold Machine.axisStopNow
  extract_lets w kind ts moving
  split
  · exact refl s
  · split
    · exact refl s
    · refine foldl (fun s n => ?_) ts s
      split
      · exact axisClear s n
      · exact axisStop s n kind

theorem axisBegin (s : State) (n e : Nat) : Steered s (s.axisBegin n e) := by
  unfold State.axisBegin
  extract_lets c t off m z a s₁ s₂
  have moved : Steered s s₁ := modCh s n _
  have marked : Steered s₁ s₂ := foldl (fun s t => (modCh s n _).trans (of_axes (AxesMoved.publishAt _ _ _ _))) _ s₁
  split
  · exact (moved.trans marked).trans (of_axes (AxesMoved.segFaultNow s₂ n))
  · exact moved.trans marked

theorem axisStart (s : State) (n e : Nat) (command : Bool) : Steered s (s.axisStart n e command) := by
  unfold State.axisStart
  extract_lets s₁ c same
  have advanced : Steered s s₁ := axisAdvance s n
  split
  · exact advanced
  · split
    · exact advanced
    · split
      · exact advanced.trans (trans (modCh s₁ n _) (axisBegin _ n e))
      · exact advanced
    · exact advanced.trans (trans (modCh s₁ n _) (axisBegin _ n e))

theorem axisStartNow (p : Packet) (s : State) : Steered s (axisStartNow p s).1 := by
  unfold Machine.axisStartNow
  extract_lets n
  split
  · exact refl s
  · exact axisStart s n _ true

theorem axisShift (s : State) (n : Nat) (d : Int) : Steered s (s.axisShift n d) := trans (of_axes (AxesMoved.runPulse s n)) (modCh _ n _)

theorem armLatch (n : Nat) (s : State) : Steered s (armLatch n s) := ⟨rfl, rfl, rfl, rfl, rfl⟩

theorem axisRelabel (s : State) (n kind : Nat) (pos : Int) : Steered s (s.axisRelabel n kind pos).1 := by
  unfold State.axisRelabel
  extract_lets s₁ c redo s₂ c' cmd idle r
  have advanced : Steered s s₁ := axisAdvance s n
  have undone : Steered s₁ s₂ := by
    simp only [s₂]
    split
    · exact modCh s₁ n _
    · exact refl s₁
  have placed : Steered s₂ r.1 := by
    simp only [r]
    split
    · split
      · exact refl s₂
      · exact (modCh s₂ n _).trans (axisShift _ n _)
    · split
      · exact refl s₂
      · split
        · exact refl s₂
        · exact axisShift s₂ n _
    · split
      · exact refl s₂
      · exact (modCh s₂ n _).trans (armLatch _ _)
  have all := (advanced.trans undone).trans placed
  clear_value redo
  cases redo with
  | some e => exact all.trans (axisStart r.1 n e.1 e.2)
  | none => exact all

theorem axisSetNow (p : Packet) (s : State) : Steered s (axisSetNow p s).1 := by
  unfold Machine.axisSetNow
  extract_lets w n kind pos
  split
  · exact refl s
  · split
    · exact refl s
    · have placed := axisRelabel s n kind pos
      generalize s.axisRelabel n kind pos = r at placed
      obtain ⟨t, st⟩ := r
      dsimp only at placed ⊢
      split
      · exact placed
      · split
        · exact placed.trans ⟨rfl, rfl, rfl, rfl, rfl⟩
        · exact placed

end Steered

namespace Steady

theorem refl (s : State) : Steady s s := ⟨rfl, rfl, rfl, rfl⟩

theorem trans (h : Steady s t) (h' : Steady t u) : Steady s u :=
  ⟨h'.startOf.trans h.startOf, h'.isl.trans h.isl, h'.boot.trans h.boot, h'.now.trans h.now⟩

theorem foldl {α : Type} {f : State → α → State} (hf : ∀ s a, Steady s (f s a)) : ∀ (l : List α) (s : State), Steady s (l.foldl f s)
  | [], s => refl s
  | a :: l, s => (hf s a).trans (foldl hf l (f s a))

theorem of_aside (h : Aside s t) : Steady s t := ⟨congrArg CycUnit.startOf h.cyc, h.isl, h.boot, h.now⟩

theorem of_steered (h : Steered s t) : Steady s t := ⟨congrArg CycUnit.startOf h.cyc, h.isl, h.boot, h.now⟩

theorem of_axes (h : AxesMoved s t) : Steady s t := of_steered (.of_axes h)

theorem of_reacted (h : Reacted s t) : Steady s t := of_axes (.of_reacted h)

theorem answer (s : State) (op : Op) (p : Packet) (st : Nat) (ws : List Word) : Steady s (s.answer op p st ws) :=
  of_aside (.of_replied (State.answer_replied s op p st ws))

theorem modCo (s : State) (f : Changeover → Changeover) : Steady s (s.modCo f) := ⟨rfl, rfl, rfl, rfl⟩

theorem modCyc (s : State) {f : CycUnit → CycUnit} (hf : ∀ c, (f c).startOf = c.startOf) : Steady s (s.modCyc f) := ⟨hf s.cyc, rfl, rfl, rfl⟩

theorem modDev (s : State) (f : DevUnit → DevUnit) : Steady s (s.modDev f) := ⟨rfl, rfl, rfl, rfl⟩

theorem modHost (s : State) (f : HostUnit → HostUnit) : Steady s (s.modHost f) := ⟨rfl, rfl, rfl, rfl⟩

theorem modCh (s : State) (n : Nat) (f : AxisCh → AxisCh) : Steady s (s.modCh n f) := ⟨rfl, rfl, rfl, rfl⟩

theorem axisAdvance (s : State) (n : Nat) : Steady s (s.axisAdvance n) := of_axes (AxesMoved.axisAdvance s n)

theorem axisStop (s : State) (n kind : Nat) : Steady s (s.axisStop n kind) := of_axes (axisStop_moved s n kind)

/-! The changeover (01 R37–R44). -/

theorem coAnnounce (s : State) : Steady s s.coAnnounce := by
  unfold State.coAnnounce
  split
  · split
    · exact refl s
    · exact trans (of_aside (Aside.modIface s true _)) (modCo _ _)
  · exact refl s

theorem coConfirm (s : State) : Steady s s.coConfirm := by
  unfold State.coConfirm
  split
  · split
    · exact of_aside (Aside.modIface s true _)
    · exact refl s
  · exact refl s

theorem coSwap (s : State) (c : Changeover) (x : Nat) : Steady s (s.coSwap c x) := by
  unfold State.coSwap
  extract_lets s₁ s₂ s₃
  have programs : Steady s s₁ := by
    simp only [s₁]
    split
    · exact foldl (f := fun s n => s.moult n x) (fun s n => of_aside (Aside.moult s n x)) _ s
    · exact refl s
  have loops : Steady s₁ s₂ := by
    simp only [s₂]
    split
    · exact of_aside (Aside.loopChangeover s₁)
    · exact refl s₁
  have settled : Steady s₂ s₃ := modCyc s₂ fun _ => rfl
  exact ((programs.trans loops).trans settled).trans (trans (modCo s₃ _) (of_aside (Aside.note _ _)))

theorem coCatchUp (s : State) (c : Changeover) : Steady s (s.coCatchUp c) := by
  unfold State.coCatchUp
  split
  · exact ⟨rfl, rfl, rfl, rfl⟩
  · exact modCo s _

theorem coReply (s : State) : Steady s s.coReply := by
  unfold State.coReply
  split
  · split
    · split
      · exact trans (modCo s _) (of_aside (.of_replied (State.answerAt_replied _ _ _ _ _ _ _)))
      · exact refl s
    · exact refl s
  · exact refl s

theorem coAtStart (k : Nat) (s : State) : Steady s (coAtStart k s) := by
  unfold Machine.coAtStart
  extract_lets s₁ s₂
  have told : Steady s s₁ := (coAnnounce s).trans (coConfirm _)
  have swapped : Steady s₁ s₂ := by
    simp only [s₂]
    split
    · split
      · split
        · exact coSwap s₁ _ k
        · split
          · exact coCatchUp s₁ _
          · exact refl s₁
      · exact refl s₁
    · exact refl s₁
  exact (told.trans swapped).trans (coReply s₂)

/-! The modes (01 R31–R33; 03 R106–R113). -/

theorem setMode (s : State) (m : Mode) : Steady s (s.setMode m) := of_reacted (Reacted.setMode s m)

theorem enterRun (x : Nat) (s : State) : Steady s (enterRun x s) := by
  unfold Machine.enterRun
  extract_lets s₁ s₂
  have entered : Steady s s₁ := ⟨rfl, rfl, rfl, rfl⟩
  have programs : Steady s₁ s₂ :=
    of_aside (Aside.trans (t := (graphEnterRun x s₁).modGraph fun g => { g with inForce := [], image := {} })
      (Aside.trans (Aside.graphEnterRun x s₁) ⟨rfl, rfl, rfl, rfl, rfl⟩) (Aside.axisToRun _))
  exact (entered.trans programs).trans (of_aside (Aside.modDrove s₂ _))

theorem axisToReady (s : State) : Steady s (axisToReady s) := by
  refine foldl (fun s n => ?_) _ s
  exact (axisStop s n _).trans (modCh _ n _)

theorem leaveRun (s : State) : Steady s (leaveRun s) := by
  unfold Machine.leaveRun Machine.toReadyOutputs
  extract_lets s₁
  have left : Steady s s₁ := ⟨rfl, rfl, rfl, rfl⟩
  exact left.trans (trans (t := setSubstitute true (s₁.modGraph fun g => { g with inForce := [] })) ⟨rfl, rfl, rfl, rfl⟩ (axisToReady _))

theorem axisHoldEntry (s : State) : Steady s (axisHoldEntry s) := by
  refine foldl (fun s n => ?_) _ s
  split
  · exact axisStop s n 0
  · exact refl s

theorem transition (from' to' : Mode) (s : State) : Steady s (transition from' to' s) := by
  unfold Machine.transition
  split
  · exact enterRun _ s
  · exact trans (t := s.modCyc fun c => { c with committedNow := false, enteredAt := some (devCycle s) }) ⟨rfl, rfl, rfl, rfl⟩
      (of_aside (Aside.graphReturnToRun _))
  · exact leaveRun s
  · exact leaveRun s
  · exact axisHoldEntry s
  · exact of_aside (Aside.loopsFresh s)
  · exact of_aside (Aside.loopsFresh s)
  · exact of_aside (Aside.trans (t := s.modPwr fun p => { p with inGraze := true }) ⟨rfl, rfl, rfl, rfl, rfl⟩
      ((Aside.canGraze _).trans (Aside.acqPause _)))
  · exact refl s

theorem goMode (s : State) (m : Mode) : Steady s (s.goMode m) := by
  unfold State.goMode
  extract_lets old s₁
  have gone : Steady s s₁ := ((transition old m s).trans (setMode _ m)).trans (of_aside (Aside.graphMode _))
  split
  · exact gone.trans (of_aside (Aside.enterGraze s₁))
  · exact gone

theorem stopNow (s : State) : Steady s s.stopNow := by
  unfold State.stopNow
  split
  · extract_lets s₁
    have seen : Steady s s₁ := modDev s _
    split
    · exact seen.trans (goMode s₁ _)
    · exact seen
  · exact refl s

theorem ackNow (s : State) : Steady s s.ackNow := by
  unfold State.ackNow
  split
  · exact goMode s _
  · exact refl s

theorem computeMissing (s : State) : Steady s s.computeMissing := ⟨rfl, rfl, rfl, rfl⟩

theorem takeRequest (p : Packet) (s : State) : Steady s (takeRequest p s).1 := by
  unfold Machine.takeRequest
  split
  · exact refl s
  · split
    · exact refl s
    · rename_i m _ _
      extract_lets s₁ t
      have judged : Steady s s₁ := by
        simp only [s₁]
        split
        · exact computeMissing s
        · exact refl s
      split
      · exact judged
      · exact judged.trans (goMode s₁ m)

theorem modesAtStart (s : State) : Steady s (modesAtStart s) := by
  unfold Machine.modesAtStart
  extract_lets s₁ mine sel s₂ s₃
  have acted : Steady s s₁ := (stopNow s).trans (ackNow _)
  have taken : Steady s₁ s₃ := ⟨rfl, rfl, rfl, rfl⟩
  refine (acted.trans taken).trans (foldl (fun s d => ?_) sel s₃)
  have made := takeRequest d.packet s
  generalize Machine.takeRequest d.packet s = r at made
  obtain ⟨t, v⟩ := r
  cases v with
  | done st ws => exact made.trans (answer t _ d.packet st ws)
  | waits => exact made

theorem endStop (due : Bool) (s : State) : Steady s (endStop due s) := by
  unfold Machine.endStop
  split
  · split
    · exact of_reacted ((Reacted.modFlt s _).trans (Reacted.takeUp 18 _))
    · exact refl s
  · exact refl s

/-! The axis commands (07 R261, R264, R266) and the axes of members. -/

theorem runDeferred (s : State) (op : Op) {now : Packet → State → State × Verdict} (hnow : ∀ p s, Steady s (now p s).1) :
    Steady s (s.runDeferred op now) := by
  unfold State.runDeferred
  extract_lets mine due s₁
  have taken : Steady s s₁ := modHost s _
  refine taken.trans (foldl (fun s d => ?_) due s₁)
  have made := hnow d.packet s
  generalize now d.packet s = r at made
  obtain ⟨t, v⟩ := r
  cases v with
  | done st ws => exact made.trans (answer t op d.packet st ws)
  | waits => exact made

theorem axisCycleStart (s : State) : Steady s (axisCycleStart s) :=
  ((runDeferred s .axisStop fun p s => of_steered (.axisStopNow p s)).trans
    (runDeferred _ .axisSetPosition fun p s => of_steered (.axisSetNow p s))).trans
    (runDeferred _ .axisStart fun p s => of_steered (.axisStartNow p s))

theorem axisCheck (s : State) (n : Nat) : Steady s (s.axisCheck n) := of_axes (AxesMoved.axisCheck s n)

theorem axisRemote (s : State) (n : Nat) : Steady s (s.axisRemote n) := by
  unfold State.axisRemote
  extract_lets s₁ c
  have checked : Steady s s₁ := (axisAdvance s n).trans (axisCheck _ n)
  exact checked.trans (trans (of_aside (Aside.modDrove s₁ _)) (modCh _ n _))

theorem finishWake (s : State) : Steady s (finishWake s) := by
  unfold Machine.finishWake
  split
  · exact trans (trans (t := s.modPwr fun p => { p with waking := false }) ⟨rfl, rfl, rfl, rfl⟩ (setMode _ .ready)) (of_aside (Aside.settle _ _ _))
  · split
    · exact ⟨rfl, rfl, rfl, rfl⟩
    · exact refl s

theorem unitsAtStart (k : Nat) (s : State) : Steady s (unitsAtStart k s) := by
  unfold Machine.unitsAtStart
  extract_lets due s₁ s₂ s₃ s₄ s₅
  have changed : Steady s s₁ := coAtStart k s
  have modes : Steady s₁ s₂ := (modesAtStart s₁).trans (endStop due _)
  have programs : Steady s₂ s₃ :=
    of_aside ((((Aside.controlsAtStart k s₂).trans (Aside.schedAtStart _)).trans (Aside.originsAtStart k _)).trans (Aside.graphMode _))
  have axes : Steady s₃ s₄ := axisCycleStart s₃
  have remotes : Steady s₄ s₅ := by
    simp only [s₅]
    split
    · exact foldl axisRemote _ s₄
    · exact refl s₄
  exact ((((changed.trans modes).trans programs).trans axes).trans remotes).trans
    (of_aside (((Aside.netCycle s₅).trans (Aside.triggerCycle k _)).trans (Aside.routDue k _)))

end Steady

/-- 01 R13: the cycle has begun; the boot block, the island and the clock stay. -/
theorem cycleStart_spec (hrun : s.boot.phase = .running) (hnew : s.cyc.startOf ≠ some (cycleTick s)) (hlen : lDev s ≠ 0) :
    (cycleStart s).cyc.startOf = some (cycleTick s) ∧ (cycleStart s).boot = s.boot ∧ (cycleStart s).isl = s.isl ∧ (cycleStart s).now = s.now := by
  have steady : Steady (s.modCyc fun c => { c with startOf := some (cycleTick s) }) (cycleStart s) := by
    unfold cycleStart
    extract_lets n s₁ s₂ s₃ s₄
    rw [if_neg fun h => h.elim (fun h => h hrun) fun h => h.elim hnew hlen]
    change Steady s₁ _
    have rings : Steady s₁ s₂ := Steady.of_aside ((Aside.ringsAtStart s₁).trans (Aside.settle _ _ _))
    split
    · exact rings
    · have begun : Steady s₂ s₃ := Steady.trans (Steady.of_aside (.of_replied (State.flushUdp_replied s₂))) ⟨rfl, rfl, rfl, rfl⟩
      have units : Steady s₃ s₄ := by
        simp only [s₄]
        split
        · exact Steady.runDeferred s₃ .axisStop fun p s => .of_steered (.axisStopNow p s)
        · exact Steady.unitsAtStart _ s₃
      exact ((rings.trans begun).trans units).trans (Steady.trans (Steady.trans (Steady.of_aside (Aside.sendTopology s₄)) (Steady.finishWake _))
        (Steady.of_aside ((Aside.settleGraze _).trans (Aside.rechoose _))))
  exact ⟨steady.startOf, steady.boot, steady.isl, steady.now⟩

end Sys2Proof.Machine
end
section
/-! READY to RUN at the start of a control cycle (01 R13, R22; 03 R106). -/

namespace Sys2Proof.Machine

variable {s t u : State} {d : Deferred}

/-- The mode and the place in the control cycle stay, no command begins to wait, and a down-ring at rest stays at rest. -/
structure Still (s t : State) : Prop where
  dev : t.dev = s.dev
  cyc : t.cyc = s.cyc
  deferred : t.host.deferred ⊆ s.host.deferred
  downStarted : t.drove.downStarted = s.drove.downStarted

/-- The device is in RUN as R22 has it begin, with no request left and no command waiting. -/
structure RunBegun (s : State) : Prop where
  mode : s.dev.mode = .run
  request : s.dev.modeRequest = none
  commit : s.cyc.commit = .committing
  miss : s.cyc.miss = 0
  misses : s.cyc.misses = 0
  first : s.cyc.firstCommitted = false
  deferred : s.host.deferred = []
  downStarted : s.drove.downStarted = false

namespace Still

theorem refl (s : State) : Still s s := ⟨rfl, rfl, List.Subset.refl _, rfl⟩

theorem trans (h : Still s t) (h' : Still t u) : Still s u :=
  ⟨h'.dev.trans h.dev, h'.cyc.trans h.cyc, List.Subset.trans h'.deferred h.deferred, h'.downStarted.trans h.downStarted⟩

theorem foldl {α : Type} {f : State → α → State} (hf : ∀ s a, Still s (f s a)) : ∀ (l : List α) (s : State), Still s (l.foldl f s)
  | [], s => refl s
  | a :: l, s => (hf s a).trans (foldl hf l (f s a))

theorem of_sent (h : Sent False s t) : Still s t := by
  have plain := h.plain id
  unfold Plain at plain
  exact ⟨by rw [plain], by rw [plain], h.deferred, by rw [plain]⟩

theorem of_replied (h : s.Replied t) (hq : t.host.deferred = s.host.deferred) : Still s t := by
  obtain ⟨o, hdrove⟩ := replied_drove_eq s h
  exact ⟨h.dev, h.cyc, by rw [hq]; exact List.Subset.refl _, by rw [hdrove]⟩

theorem answer (s : State) (op : Op) (p : Packet) (st : Nat) (ws : List Word) : Still s (s.answer op p st ws) :=
  of_replied (State.answer_replied s op p st ws) (answer_deferred s op p st ws)

theorem modSlot (s : State) (n : Nat) (f : GSlot → GSlot) : Still s (s.modSlot n f) := ⟨rfl, rfl, List.Subset.refl _, rfl⟩

theorem modCh (s : State) (n : Nat) (f : AxisCh → AxisCh) : Still s (s.modCh n f) := ⟨rfl, rfl, List.Subset.refl _, rfl⟩

theorem graphMode (s : State) : Still s (graphMode s) := of_sent ((Sent.refillAll s).trans (Sent.foldl Sent.stepOn _ _))

theorem graphEnterRun (x : Nat) (s : State) : Still s (graphEnterRun x s) := foldl (fun s n => modSlot s n _) _ s

theorem axisToRun (s : State) : Still s (axisToRun s) := foldl (fun s n => modCh s n _) _ s

theorem schedAtStart (s : State) : Still s (schedAtStart s) := by
  refine trans (foldl (fun s c => ?_) s.sched.changes s) ⟨rfl, rfl, List.Subset.refl _, rfl⟩
  unfold applySched
  split
  · exact ⟨rfl, rfl, List.Subset.refl _, rfl⟩
  · exact ⟨rfl, rfl, List.Subset.refl _, rfl⟩

theorem originsAtStart (k : Nat) (s : State) : Still s (originsAtStart k s) := by
  refine foldl (fun s n => ?_) _ s
  split
  · split
    · exact modSlot s n _
    · exact refl s
  · exact refl s

end Still

theorem RunBegun.still (h : RunBegun s) (hs : Still s t) : RunBegun t where
  mode := hs.dev ▸ h.mode
  request := hs.dev ▸ h.request
  commit := hs.cyc ▸ h.commit
  miss := hs.cyc ▸ h.miss
  misses := hs.cyc ▸ h.misses
  first := hs.cyc ▸ h.first
  deferred := List.subset_nil.mp (h.deferred ▸ hs.deferred)
  downStarted := hs.downStarted.trans h.downStarted

theorem controlsAtStart_idle (k : Nat) (h : s.host.deferred = []) : Still s (controlsAtStart k s) := by
  unfold controlsAtStart
  extract_lets sel s₁
  have none : sel = [] := by simp only [sel, h, List.filter_nil]
  rw [none]
  exact ⟨rfl, rfl, fun _ hd => List.mem_of_mem_filter hd, rfl⟩

theorem axisCycleStart_idle (h : s.host.deferred = []) : axisCycleStart s = s := by
  have none (op : Op) : ∀ d ∈ s.host.deferred, d.op ≠ op := by
    rw [h]
    exact fun _ hd => absurd hd List.not_mem_nil
  rw [axisCycleStart, runDeferred_other (none .axisStop), runDeferred_other (none .axisSetPosition), runDeferred_other (none .axisStart)]

/-- Without a changeover nothing of one happens at the start of a cycle. -/
theorem coAtStart_none (k : Nat) (h : s.cyc.changeover = none) : coAtStart k s = s := by
  have announce : s.coAnnounce = s := by
    unfold State.coAnnounce
    rw [h]
  have confirm : s.coConfirm = s := by
    unfold State.coConfirm
    rw [h]
  unfold coAtStart
  rw [announce, confirm]
  simp only [h]
  unfold State.coReply
  rw [h]

theorem downCycleBegins_rest (h : s.drove.downStarted = false) : downCycleBegins s = false := by
  simp [downCycleBegins, h]

theorem setMode_run (h : s.dev.mode ≠ .run) : Still (s.modDev fun d => { d with mode := .run }) (s.setMode .run) := by
  unfold State.setMode State.sendVector
  rw [if_neg h]
  extract_lets e
  split
  · exact .refl _
  · split
    · split
      · exact .refl _
      · exact ⟨rfl, rfl, List.Subset.refl _, rfl⟩
    · exact ⟨rfl, rfl, List.Subset.refl _, rfl⟩

/-- The cycle unit as R22 has it begin at cycle x. -/
def CycUnit.begun (c : CycUnit) (x : Nat) : CycUnit := { c with
  commit := .committing, miss := 0, firstCommitted := false, committedNow := false, releaseNow := false, misses := 0
  lateOutputs := 0, substEntries := 0, settled := 0, enteredAt := some x }

theorem enterRun_begun (x : Nat) (s : State) : Still (s.modCyc fun c => c.begun x) (enterRun x s) := by
  unfold enterRun
  extract_lets s₁ s₂
  have cleared : Still (graphEnterRun x s₁) ((graphEnterRun x s₁).modGraph fun g => { g with inForce := [], image := {} }) :=
    ⟨rfl, rfl, List.Subset.refl _, rfl⟩
  have entered : Still s₁ s₂ := (Still.graphEnterRun x s₁).trans (cleared.trans (Still.axisToRun _))
  exact entered.trans ⟨rfl, rfl, List.Subset.refl _, rfl⟩

/-- R22: how RUN begins. -/
theorem goMode_run (hmode : s.dev.mode = .ready) (hreq : s.dev.modeRequest = none) (hq : s.host.deferred = []) (hdown : s.drove.downStarted = false) :
    RunBegun (s.goMode .run) := by
  have entered := enterRun_begun (devCycle s) s
  have ready : (enterRun (devCycle s) s).dev.mode ≠ .run := by
    rw [entered.dev]
    exact fun h => Mode.noConfusion (hmode.symm.trans h)
  have gone : s.goMode .run = graphMode ((enterRun (devCycle s) s).setMode .run) := by
    unfold State.goMode
    rw [hmode, if_neg (by decide)]
    rfl
  rw [gone]
  generalize enterRun (devCycle s) s = v at entered ready
  have none : v.host.deferred = [] := List.subset_nil.mp (hq ▸ entered.deferred)
  have begun : RunBegun (v.modDev fun d => { d with mode := .run }) := {
    mode := rfl
    request := (congrArg DevUnit.modeRequest entered.dev).trans hreq
    commit := congrArg CycUnit.commit entered.cyc
    miss := congrArg CycUnit.miss entered.cyc
    misses := congrArg CycUnit.misses entered.cyc
    first := congrArg CycUnit.firstCommitted entered.cyc
    deferred := none
    downStarted := entered.downStarted.trans hdown }
  exact begun.still ((setMode_run ready).trans (Still.graphMode _))

theorem takeRequest_run {p : Packet} (hw : field (p.w 0) 0 3 = 2) (hmode : s.dev.mode = .ready) :
    takeRequest p s = (s.goMode .run, .done stOk (modeWords' (s.goMode .run))) := by
  unfold takeRequest
  rw [hw]
  simp [Mode.ofNum, hmode, listed]

/-- R106: the request for RUN that waits in READY is taken. -/
theorem modesAtStart_run (hmode : s.dev.mode = .ready) (hstop : s.dev.stopPending = false) (hq : s.host.deferred = [d]) (hop : d.op = .devSetMode)
    (hw : field (d.packet.w 0) 0 3 = 2) (hdown : s.drove.downStarted = false) : RunBegun (modesAtStart s) := by
  have stops : s.stopNow = s := by
    unfold State.stopNow
    rw [if_neg (by simp [hstop])]
  have acks : s.ackNow = s := by
    unfold State.ackNow
    rw [if_neg (by simp [hmode])]
  unfold modesAtStart
  rw [stops, acks]
  extract_lets s₀ mine sel s₁ s₂
  have mine_d : mine d = true := by simp [mine, hop, hw]
  have sel_eq : sel = [d] := by simp only [sel, s₀, hq, List.filter_cons, mine_d, if_true, List.filter_nil]
  have rest : s₂.host.deferred = [] := by
    change s.host.deferred.filter (fun d => !mine d) = []
    simp only [hq, List.filter_cons, mine_d, Bool.not_true, Bool.false_eq_true, if_false, List.filter_nil]
  rw [sel_eq]
  simp only [List.foldl_cons, List.foldl_nil]
  rw [takeRequest_run hw (show s₂.dev.mode = .ready from hmode)]
  exact (goMode_run (s := s₂) hmode rfl rest hdown).still (Still.answer _ _ _ _ _)

/-- R32, R47: what the units do at the start of a cycle leaves a RUN that has just begun. -/
theorem unitsAtStart_run (k : Nat) (hco : s.cyc.changeover = none) (hmode : s.dev.mode = .ready) (hstop : s.dev.stopPending = false)
    (hq : s.host.deferred = [d]) (hop : d.op = .devSetMode) (hw : field (d.packet.w 0) 0 3 = 2) (hdown : s.drove.downStarted = false) :
    ∃ t, RunBegun t ∧ Aside t (unitsAtStart k s) := by
  unfold unitsAtStart
  extract_lets due s₁ s₂ s₃ s₄ s₅
  have first : s₁ = s := coAtStart_none k hco
  have begun : RunBegun s₂ := by
    have ended (v : State) : endStop due v = v := by
      unfold endStop
      split
      · rw [if_neg (by simp [due, hstop])]
      · rfl
    simp only [s₂, first, ended]
    exact modesAtStart_run hmode hstop hq hop hw hdown
  have programs : RunBegun s₃ := begun.still ((((controlsAtStart_idle k begun.deferred).trans (Still.schedAtStart _)).trans
    (Still.originsAtStart k _)).trans (Still.graphMode _))
  have axes : s₄ = s₃ := axisCycleStart_idle programs.deferred
  have remotes : s₅ = s₃ := by
    simp only [s₅, axes]
    rw [downCycleBegins_rest programs.downStarted]
    rfl
  rw [remotes]
  exact ⟨s₃, programs, ((Aside.netCycle s₃).trans (Aside.triggerCycle k _)).trans (Aside.routDue k _)⟩

/-- With no ring the start of a cycle only sets the rate of time. -/
theorem ringsAtStart_alone (hup : s.drove.cfg.upEn = false) (hdown : s.drove.downStarted = false) : ringsAtStart s = s.applyRate := by
  unfold ringsAtStart
  simp only [hup, downCycleBegins_rest hdown, Bool.false_eq_true, if_false]

theorem finishWake_awake (h : s.dev.mode ≠ .graze) : Aside s (finishWake s) := by
  unfold finishWake
  rw [if_neg fun hw => h hw.2.1, if_pos h]
  exact ⟨rfl, rfl, rfl, rfl, rfl⟩

theorem cycleStart_run (hrun : s.boot.phase = .running) (hnew : s.cyc.startOf ≠ some (cycleTick s)) (hlen : lDev s ≠ 0)
    (hup : s.drove.cfg.upEn = false) (hdown : s.drove.downStarted = false) (hcycle : hasCycle s = true) (hco : s.cyc.changeover = none)
    (hmode : s.dev.mode = .ready) (hstop : s.dev.stopPending = false) (hq : s.host.deferred = [d]) (hop : d.op = .devSetMode)
    (hw : d.packet.w 0 % 8 = 2) :
    ∃ t, RunBegun t ∧ Aside t (cycleStart s) := by
  have wanted : field (d.packet.w 0) 0 3 = 2 := by
    simpa [field] using hw
  unfold cycleStart
  extract_lets n s₁ s₂ s₃ s₄
  rw [if_neg fun h => h.elim (fun h => h hrun) fun h => h.elim hnew hlen]
  have rings : ringsAtStart s₁ = s₁.applyRate := ringsAtStart_alone hup hdown
  have keeps (e : Deferred) (he : e ∈ s₁.applyRate.host.deferred) : e = d := by
    have : e ∈ s.host.deferred := he
    rwa [hq, List.mem_singleton] at this
  have polled : s₁.applyRate.Replied s₂ ∧ s₂.host.deferred = [d] := by
    simp only [s₂, rings]
    refine ⟨State.settle_replied _ _ _, ?_⟩
    rw [State.pollSchedule, settle_deferred]
    change s.host.deferred.filter _ = _
    rw [hq, List.filter_cons_of_pos (by simp [hop]), List.filter_nil]
  obtain ⟨replied, hwaits⟩ := polled
  obtain ⟨o, hdrove⟩ := replied_drove_eq _ replied
  have cycles : hasCycle s₂ = true := by
    have same : hasCycle s₂ = hasCycle s := by
      unfold hasCycle
      rw [hdrove, replied.boot]
      change (s.boot.replayed && if s.drove.cfg.upEn then _ else _) = _
      simp only [hup, Bool.false_eq_true, if_false]
      rfl
    exact same.trans hcycle
  have sent := State.flushUdp_replied s₂
  obtain ⟨o', hdrove'⟩ := replied_drove_eq _ sent
  have ready : s₃.dev.mode = .ready := ((congrArg DevUnit.mode sent.dev).trans (congrArg DevUnit.mode replied.dev)).trans hmode
  have stop : s₃.dev.stopPending = false := ((congrArg DevUnit.stopPending sent.dev).trans (congrArg DevUnit.stopPending replied.dev)).trans hstop
  have co : s₃.cyc.changeover = none := ((congrArg CycUnit.changeover sent.cyc).trans (congrArg CycUnit.changeover replied.cyc)).trans hco
  have quiet : s₃.drove.downStarted = false := by
    change s₂.flushUdp.drove.downStarted = false
    rw [hdrove', hdrove]
    exact hdown
  have waits : s₃.host.deferred = [d] := (flushUdp_deferred (s := s₂)).trans hwaits
  rw [if_neg (by simp [cycles])]
  have units : s₄ = unitsAtStart (devCycle s₃) s₃ := if_neg (by rw [ready]; decide)
  obtain ⟨t, begun, after⟩ := unitsAtStart_run (devCycle s₃) co ready stop waits hop wanted quiet
  rw [units]
  have told := after.trans (Aside.sendTopology _)
  have awake : (sendTopology (unitsAtStart (devCycle s₃) s₃)).dev.mode ≠ .graze := by
    rw [told.dev, begun.mode]
    decide
  exact ⟨t, begun, (told.trans (finishWake_awake awake)).trans ((Aside.settleGraze _).trans (Aside.rechoose _))⟩

end Sys2Proof.Machine
end
section
/-! The input instant (01 R18). -/

namespace Sys2Proof.Machine

variable {s t u : State}

namespace AxesMoved

theorem axisLag (s : State) (n : Nat) : AxesMoved s (s.axisLag n) := by
  unfold State.axisLag
  extract_lets c
  split
  · exact refl s
  · split
    · split
      · exact refl s
      · exact (axisUndoStart s n).trans (axisFail _ n 1 true)
    · exact refl s

theorem publish (s : State) (entry value : Nat) : AxesMoved s (s.publish entry value) := by
  obtain ⟨a, published⟩ := s.publishAt_eq entry s.ns value
  rw [State.publish, published]
  exact rfl

theorem axisInput (s : State) (n : Nat) : AxesMoved s (s.axisInput n) := by
  unfold State.axisInput
  extract_lets s₁ c
  have looked : AxesMoved s s₁ := ((axisAdvance s n).trans (axisCheck _ n)).trans (axisLag _ n)
  split
  extract_lets w pos vel
  exact ((((looked.trans (modCh s₁ n _)).trans (publish _ _ _)).trans (publish _ _ _)).trans (publish _ _ _)).trans (publish _ _ _)

end AxesMoved

/-- The place in the cycle, the programs, the memory, the converters and the clock are as they were. -/
structure Sampled (s t : State) : Prop where
  cyc : t.cyc = s.cyc
  graph : t.graph = s.graph
  mem : t.mem = s.mem
  adc : t.adc = s.adc
  now : t.now = s.now

namespace Sampled

theorem refl (s : State) : Sampled s s := ⟨rfl, rfl, rfl, rfl, rfl⟩

theorem trans (h : Sampled s t) (h' : Sampled t u) : Sampled s u :=
  ⟨h'.cyc.trans h.cyc, h'.graph.trans h.graph, h'.mem.trans h.mem, h'.adc.trans h.adc, h'.now.trans h.now⟩

theorem foldl {α : Type} {f : State → α → State} (hf : ∀ s a, Sampled s (f s a)) : ∀ (l : List α) (s : State), Sampled s (l.foldl f s)
  | [], s => refl s
  | a :: l, s => (hf s a).trans (foldl hf l (f s a))

theorem of_axes (h : AxesMoved s t) : Sampled s t := by
  unfold AxesMoved Reacted at h
  rw [h]
  exact ⟨rfl, rfl, rfl, rfl, rfl⟩

theorem publish (s : State) (entry value : Nat) : Sampled s (s.publish entry value) := of_axes (.publish s entry value)

theorem recordOpen (s : State) (unit ev sev : Nat) (transient : Bool) : Sampled s (s.recordOpen unit ev sev transient) := by
  obtain ⟨n, y, recorded⟩ := s.recordOpen_eq unit ev sev transient
  rw [recorded]
  exact ⟨rfl, rfl, rfl, rfl, rfl⟩

theorem modDin (s : State) (n : Nat) (f : Din → Din) : Sampled s (s.modDin n f) := ⟨rfl, rfl, rfl, rfl, rfl⟩

theorem modDrove (s : State) (f : DroveUnit → DroveUnit) : Sampled s (s.modDrove f) := ⟨rfl, rfl, rfl, rfl, rfl⟩

theorem modEnc (s : State) (n : Nat) (f : Enc → Enc) : Sampled s (s.modEnc n f) := ⟨rfl, rfl, rfl, rfl, rfl⟩

theorem latchDin (s : State) (n : Nat) : Sampled s (latchDin s n) := by
  unfold Machine.latchDin
  extract_lets d moved ch s₁ s₂
  have warned : Sampled s s₁ := by
    simp only [s₁]
    split
    · exact recordOpen s 15 4 0 false
    · exact refl s
  exact (((warned.trans (modDin s₁ n _)).trans (publish _ _ _)).trans (publish _ _ _)).trans (publish _ _ _)

theorem latchEnc (s : State) (n : Nat) : Sampled s (latchEnc s n) :=
  ((modEnc s n _).trans (publish _ _ _)).trans (publish _ _ _)

theorem canInputInstant (s : State) : Sampled s (canInputInstant s) :=
  (foldl (fun s _ => publish s _ _) (List.range (canControllers s)) s).trans ⟨rfl, rfl, rfl, rfl, rfl⟩

theorem loopInputs (s : State) : Sampled s (loopInputs s) := ⟨rfl, rfl, rfl, rfl, rfl⟩

theorem axisInputs (s : State) : Sampled s (axisInputs s) := foldl (fun s n => of_axes (.axisInput s n)) _ s

theorem islandInputs (s : State) : Sampled s (islandInputs s) := by
  unfold Machine.islandInputs
  split
  · exact (publish s _ _).trans (publish _ _ _)
  · exact refl s

theorem pairInputs (s : State) : Sampled s (pairInputs s) := by
  unfold Machine.pairInputs
  split
  · exact publish s _ _
  · exact refl s

theorem publishMonitor (s : State) (i : Nat) : Sampled s (publishMonitor s i) := by
  unfold Machine.publishMonitor
  extract_lets m
  split
  · exact refl s
  · exact trans (t := s.modPwr fun p => { p with monitors := setAt p.monitors i { m with sampled := false } }) ⟨rfl, rfl, rfl, rfl, rfl⟩ (publish _ _ _)

theorem upWord (e : MapEntry) (s : State) : Sampled s (upWord e s).1 := by
  unfold Machine.upWord
  split
  · split
    · exact refl s
    · exact refl s
  · split
    · split
      · exact ⟨rfl, rfl, rfl, rfl, rfl⟩
      · exact refl s
    · exact refl s
  · exact refl s

theorem upWordsFrom (n : Nat) : ∀ (w : Nat) (s : State), Sampled s (upWordsFrom w n s).1 := by
  induction n with
  | zero => exact fun w s => refl s
  | succ n ih => exact fun w s => (upWord _ s).trans (ih (w + 1) _)

theorem formUpWords (s : State) : Sampled s (formUpWords s) := by
  unfold Machine.formUpWords
  split
  · exact refl s
  · extract_lets r
    have words : Sampled s r.1 := upWordsFrom _ 0 s
    clear_value r
    exact words.trans (modDrove r.1 _)

end Sampled

theorem adcInputs_adc (s : State) : (adcInputs s).adc = { s.adc with image := s.adc.results, imageUntil := s.now + clocksOfUs 2 } := rfl

theorem adcInputs_rest (s : State) : (adcInputs s).cyc = s.cyc ∧ (adcInputs s).graph = s.graph ∧ (adcInputs s).mem = s.mem := ⟨rfl, rfl, rfl⟩

/-- R18: the conversions latched are those that stand at the input instant. -/
theorem captureInputs_spec (s : State) :
    (captureInputs s).cyc = s.cyc ∧ (captureInputs s).graph = s.graph ∧ (captureInputs s).mem = s.mem ∧
    (captureInputs s).adc = { s.adc with image := s.adc.results, imageUntil := s.now + clocksOfUs 2 } := by
  unfold captureInputs
  extract_lets s₁ s₂ s₃ s₄ s₅
  have latched : Sampled s s₂ := by
    have settled : Sampled s (settleDins s) := ⟨rfl, rfl, rfl, rfl, rfl⟩
    exact (settled.trans (Sampled.foldl Sampled.latchDin _ _)).trans (Sampled.foldl Sampled.latchEnc _ _)
  have rest : Sampled (adcInputs s₂) (formUpWords s₅) :=
    ((((((Sampled.canInputInstant _).trans (Sampled.loopInputs _)).trans (Sampled.axisInputs _)).trans (Sampled.islandInputs _)).trans
      (Sampled.pairInputs _)).trans (Sampled.foldl Sampled.publishMonitor _ _)).trans (Sampled.formUpWords _)
  obtain ⟨hcyc, hgraph, hmem⟩ := adcInputs_rest s₂
  refine ⟨rest.cyc.trans (hcyc.trans latched.cyc), rest.graph.trans (hgraph.trans latched.graph), rest.mem.trans (hmem.trans latched.mem),
    rest.adc.trans ?_⟩
  rw [adcInputs_adc, latched.adc, latched.now]

theorem inputInstant_spec (hrun : s.boot.phase = .running) (hcycle : hasCycle s = true) (hmode : s.dev.mode ≠ .graze)
    (hnew : s.cyc.inputOf ≠ some (cycleTick s)) (hpast : clocksOfUs (inOffset s) ≤ intoCycle s) :
    (inputInstant s).cyc.inputOf = some (cycleTick s) ∧ (inputInstant s).adc.image = s.adc.results ∧
    (inputInstant s).adc.imageUntil = s.now + clocksOfUs 2 ∧ (inputInstant s).graph = s.graph ∧ (inputInstant s).mem = s.mem := by
  have taken : inputInstant s = captureInputs (s.modCyc fun c => { c with inputOf := some (cycleTick s) }) := by
    unfold inputInstant
    extract_lets n
    rw [if_neg]
    rintro (h | h | h | h | h)
    · exact h hrun
    · exact h hcycle
    · exact hmode h
    · exact hnew h
    · omega
  obtain ⟨hcyc, hgraph, hmem, hadc⟩ := captureInputs_spec (s.modCyc fun c => { c with inputOf := some (cycleTick s) })
  rw [taken, hcyc, hgraph, hmem, hadc]
  exact ⟨rfl, rfl, rfl, rfl, rfl⟩

end Sys2Proof.Machine
end
section
/-! The commit point and the cocoon image that follows it (01 R23, R27; 03 R99). -/

namespace Sys2Proof.Machine

variable {s t u : State} {k : Nat}

namespace Plain

theorem foldl {α : Type} {f : State → α → State} (hf : ∀ s a, Plain s (f s a)) : ∀ (l : List α) (s : State), Plain s (l.foldl f s)
  | [], s => refl s
  | a :: l, s => (hf s a).trans (foldl hf l (f s a))

theorem of_sent (h : Sent False s t) : Plain s t := h.plain id

theorem modSlot (s : State) (n : Nat) (f : GSlot → GSlot) : Plain s (s.modSlot n f) := rfl

theorem modExec (s : State) (n : Nat) (f : Exec → Exec) : Plain s (s.modExec n f) := modSlot s n _

theorem modSlotSched (s : State) (n : Nat) (f : SlotSched → SlotSched) : Plain s (s.modSlotSched n f) := rfl

theorem modSched (s : State) (f : SchedUnit → SchedUnit) : Plain s (s.modSched f) := rfl

theorem beginExec (s : State) (n : Nat) : Plain s (s.beginExec n) := (modSlot s n _).trans (modSlot _ n _)

theorem releaseSources (s : State) (n : Nat) : Plain s (s.releaseSources n) := (modExec s n _).trans (of_sent (Sent.drainSources _ n))

theorem period (s : State) (n : Nat) : Plain s (s.period n) := by
  unfold State.period
  split
  · exact (beginExec s n).trans (releaseSources _ n)
  · exact (modSlotSched s n _).trans (modSlot _ n _)

theorem beginLate (k : Nat) (s : State) : Plain s (beginLate k s) := by
  unfold Machine.beginLate
  split
  · exact refl s
  · refine foldl (fun s n => ?_) _ s
    split
    · exact period s n
    · exact (beginExec s n).trans (modExec _ n _)

theorem dropWork (s : State) (n : Nat) : Plain s (s.dropWork n) := by
  unfold State.dropWork
  extract_lets stalls s₁
  have dropped : Plain s s₁ := modSched s _
  have ended : Plain s₁ (stalls.foldl State.endStall s₁) := foldl (fun s d => of_sent (Sent.endStall s d)) stalls s₁
  exact ((dropped.trans ended).trans (modExec _ n _)).trans (of_sent ((Sent.refillAll _).trans (Sent.drainTokens _)))

theorem recordOpen (s : State) (unit ev sev : Nat) (transient : Bool) : Plain s (s.recordOpen unit ev sev transient) :=
  of_sent (Sent.recordOpen s unit ev sev transient)

theorem abandon (s : State) (n : Nat) : Plain s (s.abandon n) := by
  unfold State.abandon
  split
  · exact refl s
  · extract_lets s₁ s₂
    have stepped : Plain s₁ s₂ := by
      simp only [s₂]
      split
      · exact of_sent (Sent.endStep s₁ n _ _ _)
      · exact refl s₁
    exact (((dropWork s n).trans stepped).trans (modSlot s₂ n _)).trans (recordOpen _ 3 30 0 false)

theorem lateSlot (k : Nat) (s : State) (n : Nat) : Plain s (lateSlot k s n) := by
  unfold Machine.lateSlot
  split
  · exact refl s
  · extract_lets overruns s₁
    have counted : Plain s s₁ := by
      simp only [s₁]
      split
      · exact (modSlotSched s n _).trans (recordOpen _ 4 31 0 false)
      · exact refl s
    split
    · exact counted.trans (abandon s₁ n)
    · split
      · exact counted.trans (modExec s₁ n _)
      · exact counted

theorem schedCommit (k : Nat) (s : State) : Plain s (schedCommit k s) := foldl (fun s n => lateSlot k s n) _ s

theorem formImage (k : Nat) (s : State) : Plain s (formImage k s) := by
  unfold Machine.formImage
  extract_lets due reqs s₁ values
  have taken : Plain s s₁ := by
    refine foldl (fun s n => ?_) _ s
    split
    · exact modSlot s n _
    · exact refl s
  exact taken.trans rfl

theorem varReads (s : State) : Plain s (varReads s) := of_sent (Sent.settle s _ _)

end Plain

/-- Of what the cocoon image holds: the mode, the axes, the pair, the image before and the place in the cycle are as they were. -/
structure Formed (s t : State) : Prop where
  dev : t.dev = s.dev
  axis : t.axis = s.axis
  pair : t.pair = s.pair
  keep : t.keep = s.keep
  cyc : t.cyc = s.cyc

theorem Formed.trans (h : Formed s t) (h' : Formed t u) : Formed s u :=
  ⟨h'.dev.trans h.dev, h'.axis.trans h.axis, h'.pair.trans h.pair, h'.keep.trans h.keep, h'.cyc.trans h.cyc⟩

theorem Formed.of_plain (h : Plain s t) : Formed s t := by
  unfold Plain at h
  rw [h]
  exact ⟨rfl, rfl, rfl, rfl, rfl⟩

theorem keepOutputData_formed (s : State) : Formed s (keepOutputData s) := ⟨rfl, rfl, rfl, rfl, rfl⟩

/-- The cycle unit after a commit point. -/
def CycUnit.committed (c : CycUnit) (ok release : Bool) : CycUnit := { c with committedNow := ok, releaseNow := ok && release }

/-- R23: the cycle is committed or not as its conditions have it, once what was due has begun. -/
theorem formCommit_formed (k : Nat) (s : State) : ∃ r, Formed (s.modCyc fun c => c.committed (commits (beginLate k s) k) r) (formCommit k s) := by
  unfold formCommit
  extract_lets s₁ ok release s₂ s₃ s₄
  have imaged : Formed s₂ s₃ := by
    simp only [s₃]
    split
    · exact .of_plain (Plain.formImage k s₂)
    · exact .of_plain (Plain.refl s₂)
  have stored : Formed s₃ s₄ := by
    simp only [s₄]
    split
    · exact keepOutputData_formed s₃
    · exact .of_plain (Plain.refl s₃)
  have formed : Formed s s₄ := (Formed.of_plain ((Plain.beginLate k s).trans (Plain.schedCommit k _))).trans (imaged.trans stored)
  exact ⟨release, ⟨formed.dev, formed.axis, formed.pair, formed.keep, congrArg (CycUnit.committed · ok release) formed.cyc⟩⟩

/-- R42: a changeover that is over goes; the rest stays. -/
theorem coForget_frame (s : State) : (coForget s).dev = s.dev ∧ (coForget s).axis = s.axis ∧ (coForget s).keep = s.keep ∧
    (coForget s).cyc.commitOf = s.cyc.commitOf ∧ (coForget s).cyc.committedNow = s.cyc.committedNow := by
  unfold coForget
  split
  · split
    · exact ⟨rfl, rfl, rfl, rfl, rfl⟩
    · exact ⟨rfl, rfl, rfl, rfl, rfl⟩
  · exact ⟨rfl, rfl, rfl, rfl, rfl⟩

/-- R99: what the image of a cycle and its renewal leave as they were. -/
structure Stored (s t : State) : Prop where
  dev : t.dev = s.dev
  axis : t.axis = s.axis
  cyc : t.cyc = s.cyc

namespace Stored

theorem refl (s : State) : Stored s s := ⟨rfl, rfl, rfl⟩

theorem trans (h : Stored s t) (h' : Stored t u) : Stored s u := ⟨h'.dev.trans h.dev, h'.axis.trans h.axis, h'.cyc.trans h.cyc⟩

theorem modPair (s : State) (f : PairUnit → PairUnit) : Stored s (s.modPair f) := ⟨rfl, rfl, rfl⟩

theorem modKeep (s : State) (f : KeepUnit → KeepUnit) : Stored s (s.modKeep f) := ⟨rfl, rfl, rfl⟩

theorem completeImage (s : State) (c : Cocoon) (seq : Nat) : Stored s (s.completeImage c seq) := ⟨rfl, rfl, rfl⟩

theorem cocoonOverrun (s : State) : Stored s s.cocoonOverrun := by
  have recorded := Formed.of_plain (Plain.recordOpen (s.modPair fun p => { p with overruns := sat32 p.overruns }) 13 38 0 false)
  exact ⟨recorded.dev, recorded.axis, recorded.cyc⟩

theorem writeCocoon (k : Nat) (s : State) : Stored s (writeCocoon k s) := by
  unfold Machine.writeCocoon
  split
  · exact refl s
  · extract_lets s₁ layer words seq s₂ s₃
    have begun : Stored s s₃ := by
      have overran : Stored s s₁ := by
        simp only [s₁]
        split
        · exact (modPair s _).trans (cocoonOverrun _)
        · exact refl s
      exact (overran.trans (modPair s₁ _)).trans (modKeep s₂ _)
    split
    · exact begun.trans (cocoonOverrun s₃)
    · split
      · exact begun.trans ⟨rfl, rfl, rfl⟩
      · exact begun.trans (completeImage s₃ _ seq)

theorem renewAtCommit (s : State) : Stored s (renewAtCommit s) := by
  unfold Machine.renewAtCommit
  split
  · exact ⟨rfl, rfl, rfl⟩
  · exact refl s

end Stored

/-- R99: a single device completes the image of the cycle at its commit point. -/
theorem writeCocoon_single (k : Nat) (hrole : s.pair.role = .off) (hmode : s.dev.mode = .run) (hout : s.pair.outgoing = none)
    (hlayer : (s.keep.undo.headD []).length ≤ undoLimit) :
    (writeCocoon k s).pair.role = .off ∧ ∃ c, (writeCocoon k s).keep.image = some c ∧ c.cycle = k ∧ c.committed = s.cyc.committedNow ∧ c.mode = .run := by
  unfold writeCocoon
  rw [if_neg (by simp [State.acts, hrole, hmode])]
  extract_lets s₁ layer words seq s₂ s₃
  have same : s₁ = s := if_neg (by simp [hout])
  have fits : ¬ undoLimit < layer.length := by
    simp only [layer, same]
    omega
  have role : s₃.pair.role = .off := (congrArg (fun v : State => v.pair.role) same).trans hrole
  have alone : sendsDeltas s₃ = false := by
    simp [sendsDeltas, role, Role.holds]
  rw [if_neg fits, if_neg (by simp [alone])]
  have now : s₁.cyc.committedNow = s.cyc.committedNow := by rw [same]
  have mode : s₁.dev.mode = .run := by rw [same, hmode]
  exact ⟨role, cocoonOf k s₃, rfl, rfl, now, mode⟩

/-- The device with the commit point of tick `n` passed. -/
def State.passing (s : State) (n : Nat) : State := s.modCyc fun c => { c with commitOf := some n }

theorem commitPoint_due (hrun : s.boot.phase = .running) (hcycle : hasCycle s = true) (hmode : s.dev.mode ≠ .graze)
    (hnew : s.cyc.commitOf ≠ some (cycleTick s)) (hpast : pastCommitPoint s = true) :
    commitPoint s = if givesUpAt (varReads (formCommit (devCycle s) (s.passing (cycleTick s)))) (devCycle s) then
        varReads (formCommit (devCycle s) (s.passing (cycleTick s)))
      else coForget (renewAtCommit (writeCocoon (devCycle s) (varReads (formCommit (devCycle s) (s.passing (cycleTick s)))))) := by
  unfold commitPoint
  extract_lets n k v
  rw [if_neg]
  · rfl
  · rintro (h | h | h | h | h)
    · exact h hrun
    · exact h hcycle
    · exact hnew h
    · exact h hpast
    · exact hmode h

theorem beginLate_ready (h : s.graph.readyCycle = some k ∨ ∀ n, n < 4 → periodDue s n k = false) : beginLate k s = s := by
  unfold beginLate
  split
  · rfl
  · next hk =>
    have none : (List.range 4).filter (fun n => periodDue s n k) = [] :=
      List.filter_eq_nil_iff.mpr fun n hn => by simp [h.resolve_left hk n (List.mem_range.mp hn)]
    rw [none]
    rfl

/-- R23: a single device in RUN commits once its programs are in time. -/
theorem commits_single (hmode : s.dev.mode = .run) (hup : s.drove.cfg.upEn = false) (hrole : s.pair.role = .off)
    (hlate : programsLate s k = false) (hleaves : leavesRun s = false) (hresolved : s.cyc.unresolved = false) (hresumed : s.boot.resumedAt = none) :
    commits s k = true := by
  simp [commits, hlate, hleaves, State.acts, outputsComplete, coBlocks, givesUpAt, hmode, hrole, hup, hresolved, hresumed]

/-- R23, R99: the commit point of a single device in RUN whose programs are in time. -/
theorem commitPoint_run (hrun : s.boot.phase = .running) (hcycle : hasCycle s = true) (hmode : s.dev.mode = .run)
    (hnew : s.cyc.commitOf ≠ some (cycleTick s)) (hpast : pastCommitPoint s = true) (hup : s.drove.cfg.upEn = false) (hrole : s.pair.role = .off)
    (hlate : programsLate s (devCycle s) = false)
    (hready : s.graph.readyCycle = some (devCycle s) ∨ ∀ n, n < 4 → periodDue s n (devCycle s) = false) (hleaves : leavesRun s = false)
    (hresolved : s.cyc.unresolved = false) (hresumed : s.boot.resumedAt = none) (hout : s.pair.outgoing = none)
    (hlayer : (s.keep.undo.headD []).length ≤ undoLimit) :
    (commitPoint s).cyc.commitOf = some (cycleTick s) ∧ (commitPoint s).cyc.committedNow = true ∧ (commitPoint s).dev = s.dev ∧
    (commitPoint s).axis = s.axis ∧ ∃ c, (commitPoint s).keep.image = some c ∧ c.cycle = devCycle s ∧ c.committed = true ∧ c.mode = .run := by
  rw [commitPoint_due hrun hcycle (by rw [hmode]; decide) hnew hpast]
  generalize hk : devCycle s = k at hlate hready ⊢
  generalize cycleTick s = n
  have accepted : commits (beginLate k (s.passing n)) k = true := by
    rw [beginLate_ready (s := s.passing n) hready]
    exact commits_single (s := s.passing n) hmode hup hrole hlate hleaves hresolved hresumed
  obtain ⟨release, formed⟩ := formCommit_formed k (s.passing n)
  rw [accepted] at formed
  have whole := formed.trans (.of_plain (Plain.varReads (formCommit k (s.passing n))))
  generalize varReads (formCommit k (s.passing n)) = v at whole
  have role : v.pair.role = .off := (congrArg PairUnit.role whole.pair).trans hrole
  rw [if_neg (by simp [givesUpAt, role])]
  obtain ⟨off, c, himage, hcyc, hcommitted, hcmode⟩ := writeCocoon_single k role ((congrArg DevUnit.mode whole.dev).trans hmode)
    ((congrArg PairUnit.outgoing whole.pair).trans hout) (by rw [whole.keep]; exact hlayer)
  have renewed : renewAtCommit (writeCocoon k v) = writeCocoon k v := if_neg (by simp [off, Role.holds])
  have stored := Stored.writeCocoon k v
  obtain ⟨hdev, haxis, hkeep, hof, hnow⟩ := coForget_frame (writeCocoon k v)
  rw [renewed, hdev, haxis, hkeep, hof, hnow, stored.cyc, stored.dev, stored.axis, whole.cyc, whole.dev, whole.axis]
  refine ⟨rfl, rfl, rfl, rfl, c, himage, hcyc, hcommitted.trans ?_, hcmode⟩
  rw [whole.cyc]
  rfl

/-- In READY no cycle is committed (01 R23). -/
theorem commitPoint_ready (hrun : s.boot.phase = .running) (hcycle : hasCycle s = true) (hmode : s.dev.mode = .ready)
    (hnew : s.cyc.commitOf ≠ some (cycleTick s)) (hpast : pastCommitPoint s = true) :
    (commitPoint s).cyc.commitOf = some (cycleTick s) ∧ (commitPoint s).cyc.committedNow = false ∧ (commitPoint s).dev = s.dev := by
  rw [commitPoint_due hrun hcycle (by rw [hmode]; decide) hnew hpast]
  generalize devCycle s = k
  generalize cycleTick s = n
  have refused : commits (beginLate k (s.passing n)) k = false := by
    have mode : (beginLate k (s.passing n)).dev.mode = .ready := (congrArg DevUnit.mode (Plain.beginLate k (s.passing n)).dev_eq).trans hmode
    simp [commits, mode]
  obtain ⟨release, formed⟩ := formCommit_formed k (s.passing n)
  rw [refused] at formed
  have whole := formed.trans (.of_plain (Plain.varReads (formCommit k (s.passing n))))
  generalize varReads (formCommit k (s.passing n)) = v at whole
  split
  · rw [whole.cyc, whole.dev]
    exact ⟨rfl, rfl, rfl⟩
  · have stored := (Stored.writeCocoon k v).trans (Stored.renewAtCommit _)
    obtain ⟨hdev, -, -, hof, hnow⟩ := coForget_frame (renewAtCommit (writeCocoon k v))
    rw [hdev, hof, hnow, stored.cyc, stored.dev, whole.cyc, whole.dev]
    exact ⟨rfl, rfl, rfl⟩

end Sys2Proof.Machine
end
section
/-! The output instant of a device in RUN (01 R26–R28). -/

namespace Sys2Proof.Machine

variable {s t u : State} {k : Nat}

/-- The place in the control cycle and the programs are as they were. -/
structure Applied (s t : State) : Prop where
  cyc : t.cyc = s.cyc
  graph : t.graph = s.graph

namespace Applied

theorem refl (s : State) : Applied s s := ⟨rfl, rfl⟩

theorem trans (h : Applied s t) (h' : Applied t u) : Applied s u := ⟨h'.cyc.trans h.cyc, h'.graph.trans h.graph⟩

theorem foldl {α : Type} {f : State → α → State} (hf : ∀ s a, Applied s (f s a)) : ∀ (l : List α) (s : State), Applied s (l.foldl f s)
  | [], s => refl s
  | a :: l, s => (hf s a).trans (foldl hf l (f s a))

theorem of_steered (h : Steered s t) : Applied s t := ⟨h.cyc, h.graph⟩

theorem loopReps (new : List (ImgKey × Nat)) (s : State) : Applied s (loopReps new s) := by
  refine foldl (fun s e => ?_) new s
  split
  · split
    · exact refl s
    · exact ⟨rfl, rfl⟩
  · exact refl s

theorem setSubstitute (on : Bool) (s : State) : Applied s (setSubstitute on s) := ⟨rfl, rfl⟩

theorem modDout (s : State) (n : Nat) (f : Dout → Dout) : Applied s (s.modDout n f) := ⟨rfl, rfl⟩

theorem modPwm (s : State) (n : Nat) (f : Pwm → Pwm) : Applied s (s.modPwm n f) := ⟨rfl, rfl⟩

theorem keepSubstitutes (s : State) : Applied s (keepSubstitutes s) := by
  unfold Machine.keepSubstitutes
  split
  · exact ⟨rfl, rfl⟩
  · exact refl s

theorem applyValues (values : List (ImgKey × Nat)) (s : State) : Applied s (applyValues values s) := by
  unfold Machine.applyValues
  extract_lets owned s₁
  refine (keepSubstitutes s).trans (foldl (fun s e => ?_) values s₁)
  split
  · exact modDout s _ _
  · split
    · exact refl s
    · exact modPwm s _ _
  · exact refl s

theorem modBuf (s : State) (c b : Nat) (f : CanBuf → CanBuf) : Applied s (s.modBuf c b f) := ⟨rfl, rfl⟩

theorem queueCan (s : State) (c b : Nat) (atTime : Bool) : Applied s (s.queueCan c b atTime) := by
  unfold State.queueCan
  split
  · exact modBuf s c b _
  · exact modBuf s c b _

theorem imageSend (c b : Nat) (go : Bool) (ws : List (Nat × Nat)) (s : State) : Applied s (imageSend c b go ws s) := by
  unfold Machine.imageSend
  extract_lets q
  split
  · split
    · exact ⟨rfl, rfl⟩
    · exact refl s
  · split
    · exact refl s
    · rename_i s₁ _ _
      have written : Applied s s₁ := modBuf s c b _
      split
      · exact written.trans (queueCan s₁ c b false)
      · exact written

theorem applyCan (i : ImageOut) (s : State) : Applied s (applyCan i s) := foldl (fun s _ => imageSend _ _ _ _ s) (imageBuffers i) s

theorem axisRequest (s : State) (r : AxisReq) : Applied s (s.axisRequest r) := by
  unfold State.axisRequest
  split
  · split
    · split
      · exact of_steered (Steered.axisStart s _ _ false)
      · exact refl s
    · split
      · exact of_steered (Steered.modCh s _ _)
      · exact refl s
  · split
    · exact refl s
    · split
      · exact of_steered (Steered.axisClear s _)
      · exact of_steered (Steered.axisStop s _ _)
  · split
    · exact refl s
    · exact of_steered (Steered.modCh s _ _)
  · split
    · exact refl s
    · exact of_steered (Steered.axisRelabel s _ _ _)

theorem axisRequests (s : State) (rs : List AxisReq) : Applied s (s.axisRequests rs) :=
  ((foldl axisRequest _ s).trans (foldl axisRequest _ _)).trans (foldl axisRequest _ _)

theorem applyRequests (i : ImageOut) (s : State) : Applied s (applyRequests i s) := by
  unfold Machine.applyRequests
  extract_lets s₁
  refine trans (foldl (fun s r => ?_) i.reqs s) (axisRequests s₁ _)
  split
  · exact ⟨rfl, rfl⟩
  · exact refl s

theorem publish (s : State) (entry value : Nat) : Applied s (s.publish entry value) := of_steered (.of_axes (.publish s entry value))

theorem publishUser (entry value : Nat) (s : State) : Applied s (publishUser entry value s) := by
  unfold Machine.publishUser
  extract_lets us s₁ same
  have counted : Applied s s₁ := ⟨rfl, rfl⟩
  split
  · exact counted.trans ⟨rfl, rfl⟩
  · exact counted.trans (publish s₁ entry value)

theorem storeValue (s : State) (v : VarLoc) (elem value : Nat) : Applied s (s.storeValue v elem value) := by
  unfold State.storeValue
  extract_lets a s₁
  have cleared : Applied s s₁ := by
    simp only [s₁]
    split
    · exact ⟨rfl, rfl⟩
    · exact refl s
  have written := Seen.writeNat s₁ a (4 * tyWords v.type) value
  unfold Seen at written
  rw [written]
  exact cleared.trans ⟨rfl, rfl⟩

theorem downWord (e : MapEntry) (x : Nat) (s : State) : Applied s (downWord e x s) := by
  unfold Machine.downWord
  split
  · split
    · exact refl s
    · exact publishUser _ x s
  · split
    · split
      · exact refl s
      · exact storeValue s _ _ _
    · exact refl s
  · exact refl s

theorem downMapWrite (s : State) : Applied s (downMapWrite s) := by
  unfold Machine.downMapWrite
  split
  · exact refl s
  · refine foldl (fun s e => ?_) s.drove.downMap s
    split
    · exact downWord e.2 _ s
    · exact refl s

end Applied

/-- The cycle unit when the image tagged `k` has been applied (01 R26). -/
def CycUnit.applied (c : CycUnit) (k : Nat) : CycUnit := { c with commit := .committing, firstCommitted := true, lastApplied := k }

theorem applyImage_spec (k : Nat) (s : State) :
    (applyImage k s).cyc = s.cyc.applied k ∧ (applyImage k s).graph.inForce = s.graph.image.values := by
  unfold applyImage
  extract_lets i s₁ s₂ s₃ s₄ s₅
  have before : Applied s₁ s₂ := Applied.loopReps i.values s₁
  have after : Applied s₃ (downMapWrite (applyRequests i (applyCan i s₅))) := by
    have values : Applied s₃ s₅ := Applied.trans (t := s₄) ⟨rfl, rfl⟩ ((Applied.applyValues i.values s₄).trans (Applied.setSubstitute false _))
    exact ((values.trans (Applied.applyCan i s₅)).trans (Applied.applyRequests i _)).trans (Applied.downMapWrite _)
  exact ⟨after.cyc.trans before.cyc, congrArg GraphUnit.inForce after.graph⟩

/-- What the device tells at an output instant changes neither the cycle nor the programs, the outputs and the mode. -/
structure Told (s t : State) : Prop where
  applied : Applied s t
  dio : t.dio = s.dio
  dev : t.dev = s.dev

namespace Told

theorem refl (s : State) : Told s s := ⟨.refl s, rfl, rfl⟩

theorem trans (h : Told s t) (h' : Told t u) : Told s u := ⟨h.applied.trans h'.applied, h'.dio.trans h.dio, h'.dev.trans h.dev⟩

theorem foldl {α : Type} {f : State → α → State} (hf : ∀ s a, Told s (f s a)) : ∀ (l : List α) (s : State), Told s (l.foldl f s)
  | [], s => refl s
  | a :: l, s => (hf s a).trans (foldl hf l (f s a))

theorem publishAt (s : State) (entry stamp value : Nat) : Told s (s.publishAt entry stamp value) := by
  obtain ⟨a, published⟩ := s.publishAt_eq entry stamp value
  rw [published]
  exact ⟨⟨rfl, rfl⟩, rfl, rfl⟩

theorem publishCycle (s : State) : Told s (publishCycle s) := ((publishAt s _ _ _).trans (publishAt _ _ _ _)).trans (publishAt _ _ _ _)

theorem publishOutputs (s : State) : Told s (publishOutputs s) := by
  unfold Machine.publishOutputs
  extract_lets s₁
  have douts : Told s s₁ := by
    refine foldl (fun s n => ?_) _ s
    split
    · exact publishAt s _ _ _
    · exact refl s
  refine douts.trans (foldl (fun s n => ?_) _ s₁)
  split
  · exact publishAt s _ _ _
  · exact refl s

theorem sendHeartbeat (s : State) : Told s (sendHeartbeat s) := by
  unfold Machine.sendHeartbeat
  split
  · exact refl s
  · split
    · exact ⟨⟨rfl, rfl⟩, rfl, rfl⟩
    · exact ⟨⟨rfl, rfl⟩, rfl, rfl⟩

theorem recordOpen (s : State) (unit ev sev : Nat) (transient : Bool) : Told s (s.recordOpen unit ev sev transient) := by
  obtain ⟨n, y, recorded⟩ := s.recordOpen_eq unit ev sev transient
  rw [recorded]
  exact ⟨⟨rfl, rfl⟩, rfl, rfl⟩

end Told

/-- The device with the output instant of tick `n` passed. -/
def State.outputting (s : State) (n : Nat) : State := s.modCyc fun c => { c with outputOf := some n }

/-- What the output instant of a running cycle does in RUN, before the device tells of it. -/
def instantOf (k : Nat) (s : State) : State :=
  if s.cyc.committedNow then committedInstant ((k + 2 ^ 32 - cycleStep s) % 2 ^ 32) s
  else if s.cyc.enteredAt = some k then s
  else missedInstant axisSubstitute s

theorem outputInstant_run (hrun : s.boot.phase = .running) (hcycle : hasCycle s = true) (hlen : lDev s ≠ 0) (hmode : s.dev.mode = .run)
    (hnew : s.cyc.outputOf ≠ some (cycleTick s)) (hlogic : s.boot.holdingOutputs = false) :
    Told (instantOf (devCycle s) (s.outputting (cycleTick s))) (outputInstant s) := by
  unfold outputInstant
  extract_lets n v
  rw [if_neg fun h => h.elim hnew hlen, if_neg (by simp [v, State.modCyc, hlogic])]
  rw [if_neg]
  · unfold outputStep
    extract_lets k prev w
    have same : w = instantOf (devCycle s) (s.outputting (cycleTick s)) := by
      have mode : v.dev.mode = .run := hmode
      simp only [w, mode]
      simp
      rfl
    rw [same]
    exact ((Told.publishCycle _).trans (Told.publishOutputs _)).trans (Told.sendHeartbeat _)
  · rintro (h | h | h)
    · exact h hrun
    · exact h hcycle
    · exact Mode.noConfusion (hmode.symm.trans h)

/-- R26, R27: a committed image at the output instant, not after a substitution. -/
theorem committedInstant_spec (k : Nat) (h : s.cyc.commit = .committing ∨ s.cyc.commit = .holding) :
    (committedInstant k s).cyc = { s.cyc with miss := 0, committedNow := false, releaseNow := false }.applied k ∧
    (committedInstant k s).graph.inForce = s.graph.image.values := by
  unfold committedInstant
  extract_lets release s₁
  have applied := applyImage_spec k s₁
  have commit : s₁.cyc.commit = s.cyc.commit := rfl
  rcases h with h | h
  · rw [commit, h]
    exact applied
  · rw [commit, h]
    exact applied

/-- R28: a miss within the hold budget holds what is in force. -/
theorem missedInstant_holds {stop : State → State} (hcommit : s.cyc.commit = .committing) (hbudget : s.cyc.miss + 1 ≤ s.cyc.holdBudget) :
    Told (s.modCyc fun c => { c with
      misses := sat32 c.misses, miss := min 31 (c.miss + 1), commit := if c.firstCommitted then .holding else .committing }) (missedInstant stop s) := by
  unfold missedInstant
  extract_lets s₁
  have commit : s₁.cyc.commit = .committing := hcommit
  have within : ¬ s₁.cyc.holdBudget < s₁.cyc.miss := by
    change ¬ s.cyc.holdBudget < min 31 (s.cyc.miss + 1)
    omega
  rw [commit]
  dsimp only
  rw [if_neg within]
  cases hfirst : s.cyc.firstCommitted with
  | false =>
    rw [if_pos (by simp [s₁, State.modCyc, hfirst])]
    refine ⟨⟨?_, rfl⟩, rfl, rfl⟩
    simp only [s₁, State.modCyc, hfirst, ← hcommit]
    rfl
  | true =>
    rw [if_neg (by simp [s₁, State.modCyc, hfirst])]
    refine Told.trans (t := s₁.modCyc fun c => { c with commit := .holding }) ⟨⟨?_, rfl⟩, rfl, rfl⟩ (Told.recordOpen _ 0 47 0 false)
    simp only [s₁, State.modCyc, hfirst]
    rfl

/-- R26: the substitute values stand, and the axes take what R26 has for them. -/
theorem enterSubstitute_spec (s : State) :
    (enterSubstitute axisSubstitute s).cyc = { s.cyc with
      commit := .substitute, latchInForce := s.cyc.latchSubst, substEntries := sat32 s.cyc.substEntries } ∧
    (enterSubstitute axisSubstitute s).dio.substitute = true := by
  unfold enterSubstitute
  extract_lets s₁ s₂
  have recorded := Told.recordOpen s₂ 0 48 1 false
  have stopped (v : State) : AxesMoved v (axisSubstitute v) := by
    refine AxesMoved.foldl (fun s n => ?_) _ v
    split
    · exact .refl s
    · exact axisStop_moved s n _
  have moved := stopped (setSubstitute true (s₂.recordOpen 0 48 1))
  unfold AxesMoved Reacted at moved
  rw [moved]
  exact ⟨recorded.applied.cyc, rfl⟩

theorem missedInstant_substitutes (hcommit : s.cyc.commit = .committing ∨ s.cyc.commit = .holding) (hbudget : s.cyc.holdBudget ≤ s.cyc.miss)
    (hmax : s.cyc.holdBudget < 31) :
    (missedInstant axisSubstitute s).cyc.commit = .substitute ∧ (missedInstant axisSubstitute s).cyc.substEntries = sat32 s.cyc.substEntries ∧
    (missedInstant axisSubstitute s).dio.substitute = true := by
  unfold missedInstant
  extract_lets s₁
  have spent : s₁.cyc.holdBudget < s₁.cyc.miss := by
    change s.cyc.holdBudget < min 31 (s.cyc.miss + 1)
    omega
  have commit : s₁.cyc.commit = s.cyc.commit := rfl
  obtain ⟨hcyc, hdio⟩ := enterSubstitute_spec s₁
  have entered : (enterSubstitute axisSubstitute s₁).cyc.commit = .substitute ∧
      (enterSubstitute axisSubstitute s₁).cyc.substEntries = sat32 s.cyc.substEntries ∧ (enterSubstitute axisSubstitute s₁).dio.substitute = true := by
    rw [hcyc]
    exact ⟨rfl, rfl, hdio⟩
  rcases hcommit with h | h
  · rw [commit, h]
    dsimp only
    rw [if_pos spent]
    exact entered
  · rw [commit, h]
    dsimp only
    rw [if_pos spent]
    exact entered

end Sys2Proof.Machine
end
section
/-! The entry to SAFE (01 R34; 03 R105). -/

namespace Sys2Proof.Machine

variable {s t u : State}

/-- A device in SAFE stays there, and no entry to SAFE becomes due anew. -/
def StaysSafe (s t : State) : Prop := s.dev.mode = .safe → t.dev.mode = .safe ∧ t.dev.safeEntryDue = s.dev.safeEntryDue

namespace StaysSafe

theorem of_dev (h : t.dev = s.dev) : StaysSafe s t := fun hs => by
  rw [h]
  exact ⟨hs, rfl⟩

theorem refl (s : State) : StaysSafe s s := of_dev rfl

theorem trans (h : StaysSafe s t) (h' : StaysSafe t u) : StaysSafe s u := fun hs => by
  obtain ⟨ht, hdue⟩ := h hs
  obtain ⟨hu, hdue'⟩ := h' ht
  exact ⟨hu, hdue'.trans hdue⟩

theorem foldl {α : Type} {f : State → α → State} (hf : ∀ s a, StaysSafe s (f s a)) : ∀ (l : List α) (s : State), StaysSafe s (l.foldl f s)
  | [], s => refl s
  | a :: l, s => (hf s a).trans (foldl hf l (f s a))

theorem modFlt (s : State) (f : FaultUnit → FaultUnit) : StaysSafe s (s.modFlt f) := of_dev rfl

theorem note (s : State) (r : TallyRec) : StaysSafe s (s.note r) := by
  obtain ⟨y, noted⟩ := s.note_eq r
  rw [noted]
  exact of_dev rfl

theorem enterSafe (s : State) (cause : Nat) : StaysSafe s (s.enterSafe cause) := fun hs => by
  rw [State.enterSafe, if_pos hs]
  exact ⟨hs, rfl⟩

theorem react (s : State) (f : Fault566) : StaysSafe s (s.react f) := by
  unfold State.react
  extract_lets s₁
  have asked : StaysSafe s s₁ := by
    simp only [s₁, State.askGiveUp]
    split
    · split
      · exact of_dev rfl
      · exact refl s
    · exact refl s
  split
  · split
    · exact asked.trans fun hs => ⟨hs, rfl⟩
    · exact asked
  · exact asked.trans (enterSafe s₁ _)
  · exact asked

theorem takeUp (fuel : Nat) : ∀ s : State, StaysSafe s (takeUp fuel s) := by
  induction fuel with
  | zero => exact refl
  | succ fuel ih =>
    intro s
    unfold Machine.takeUp
    split
    · exact refl s
    · split
      · exact refl s
      · rename_i f r _
        extract_lets s₁
        have reacted : StaysSafe s s₁ := (modFlt s _).trans (react _ f)
        split
        · exact (reacted.trans (modFlt s₁ _)).trans (ih _)
        · exact reacted

theorem preempt (s : State) (f : Fault566) : StaysSafe s (s.preempt f) := by
  unfold State.preempt
  extract_lets s₁ s₂
  have waited : StaysSafe s s₁ := by
    simp only [s₁]
    split
    · exact modFlt s _
    · exact refl s
  have reacted : StaysSafe s s₂ := (waited.trans (modFlt s₁ _)).trans (react _ f)
  split
  · exact (reacted.trans (modFlt s₂ _)).trans (takeUp 18 _)
  · exact reacted

theorem queueOverflow (s : State) : StaysSafe s s.queueOverflow := by
  unfold State.queueOverflow
  extract_lets f s₁ s₂
  have overflowed : StaysSafe s s₂ := by
    refine trans (t := s₁) (note s _) ?_
    simp only [s₂]
    split
    · split
      · exact refl s₁
      · exact preempt s₁ f
    · exact preempt s₁ f
  exact overflowed.trans fun hs => ⟨hs, rfl⟩

theorem reportFault (s : State) (unit code sev detail : Nat) (continuing : Bool) : StaysSafe s (s.reportFault unit code sev detail continuing) := by
  unfold State.reportFault
  extract_lets s₁ s₂ f same
  have noted : StaysSafe s s₂ := by
    refine trans (t := s₁) (note s _) ?_
    simp only [s₂]
    split
    · exact modFlt s₁ _
    · exact refl s₁
  split
  · exact noted.trans (modFlt s₂ _)
  · split
    · exact (noted.trans (modFlt s₂ _)).trans (queueOverflow _)
    · split
      · exact noted.trans (preempt s₂ f)
      · split
        · exact noted.trans (preempt s₂ f)
        · exact noted.trans (modFlt s₂ _)

theorem reportOpen (s : State) (unit ev sev : Nat) (continuing : Bool) : StaysSafe s (s.reportOpen unit ev sev continuing) :=
  trans (t := s.takeFree.2) (of_dev rfl) (reportFault _ _ _ _ _ _)

theorem modCh (s : State) (n : Nat) (f : AxisCh → AxisCh) : StaysSafe s (s.modCh n f) := of_dev rfl

theorem runPulse (s : State) (n : Nat) : StaysSafe s (s.runPulse n) := by
  unfold State.runPulse
  split
  · exact modCh s n _
  · exact refl s

theorem publishAt (s : State) (entry stamp value : Nat) : StaysSafe s (s.publishAt entry stamp value) := by
  obtain ⟨a, published⟩ := s.publishAt_eq entry stamp value
  rw [published]
  exact of_dev rfl

theorem axisAdvance (s : State) (n : Nat) : StaysSafe s (s.axisAdvance n) := by
  unfold State.axisAdvance
  extract_lets c a rest s₁ s₂
  have marked : StaysSafe s s₂ := (modCh s n _).trans (foldl (fun s t => (modCh s n _).trans (publishAt _ _ _ _)) a.marks s₁)
  split
  · exact marked.trans (((runPulse s₂ n).trans (modCh _ n _)).trans (reportOpen _ 6 23 1 false))
  · exact marked

theorem axisFault (s : State) (n cause : Nat) : StaysSafe s (s.axisFault n cause) := by
  unfold State.axisFault
  split
  · exact refl s
  · exact (modCh s n _).trans (reportOpen _ 6 23 1 false)

theorem axisImmediate (s : State) (n : Nat) : StaysSafe s (s.axisImmediate n) := (runPulse s n).trans (modCh _ n _)

theorem axisFail (s : State) (n cause : Nat) (immediate : Bool) : StaysSafe s (s.axisFail n cause immediate) := by
  unfold State.axisFail
  extract_lets s₁ t
  have failed : StaysSafe s s₁ := (axisFault s n cause).trans (runPulse _ n)
  split
  · exact refl s
  · split
    · exact failed.trans (axisImmediate s₁ n)
    · exact failed.trans (modCh s₁ n _)

theorem axisSto (pairs : Nat) (s : State) : StaysSafe s (axisSto pairs s) := by
  unfold Machine.axisSto
  refine foldl (fun s n => ?_) _ s
  split
  · exact refl s
  · extract_lets s₁
    have stopped : StaysSafe s s₁ := (axisAdvance s n).trans (modCh _ n _)
    split
    · exact stopped.trans (axisFail s₁ n 5 true)
    · exact stopped

end StaysSafe

/-- What the units do on the entry to SAFE: the substitute values stand, nothing is committed or in force, and memory is written only where a
device in GRAZE takes up its acquisition again. -/
structure SafeKept (s t : State) : Prop where
  safe : t.dev.mode = .safe
  due : t.dev.safeEntryDue = s.dev.safeEntryDue
  substitute : t.dio.substitute = s.dio.substitute
  committed : t.cyc.committedNow = s.cyc.committedNow
  inForce : t.graph.inForce = s.graph.inForce
  mem : s.pwr.inGraze = false → t.mem = s.mem ∧ t.pwr.inGraze = false

/-- The same of a step that begins in SAFE. -/
def Safed (s t : State) : Prop := s.dev.mode = .safe → SafeKept s t

namespace Safed

theorem trans (h : Safed s t) (h' : Safed t u) : Safed s u := fun hs => by
  have first := h hs
  have second := h' first.safe
  refine ⟨second.safe, second.due.trans first.due, second.substitute.trans first.substitute, second.committed.trans first.committed,
    second.inForce.trans first.inForce, fun hg => ?_⟩
  obtain ⟨hmem, hawake⟩ := first.mem hg
  obtain ⟨hmem', hawake'⟩ := second.mem hawake
  exact ⟨hmem'.trans hmem, hawake'⟩

theorem of_same (hdev : t.dev = s.dev) (hdio : t.dio = s.dio) (hcyc : t.cyc.committedNow = s.cyc.committedNow) (hgraph : t.graph = s.graph)
    (hpwr : t.pwr.inGraze = s.pwr.inGraze) (hmem : t.mem = s.mem) : Safed s t := fun hs =>
  ⟨hdev ▸ hs, by rw [hdev], by rw [hdio], hcyc, by rw [hgraph], fun hg => ⟨hmem, hpwr.trans hg⟩⟩

theorem refl (s : State) : Safed s s := of_same rfl rfl rfl rfl rfl rfl

theorem foldl {α : Type} {f : State → α → State} (hf : ∀ s a, Safed s (f s a)) : ∀ (l : List α) (s : State), Safed s (l.foldl f s)
  | [], s => refl s
  | a :: l, s => (hf s a).trans (foldl hf l (f s a))

theorem of_axes (h : AxesMoved s t) (hs : StaysSafe s t) : Safed s t := fun hsafe => by
  obtain ⟨safe, due⟩ := hs hsafe
  unfold AxesMoved Reacted at h
  refine ⟨safe, due, ?_, ?_, ?_, fun hg => ?_⟩
  · rw [h]
  · rw [h]
  · rw [h]
  · rw [h]
    exact ⟨rfl, hg⟩

theorem of_replied (h : s.Replied t) : Safed s t := by
  obtain ⟨_, _, _, rfl⟩ := h
  exact of_same rfl rfl rfl rfl rfl rfl

theorem modIsl (s : State) (f : SafeUnit → SafeUnit) : Safed s (s.modIsl f) := of_same rfl rfl rfl rfl rfl rfl

theorem modPairSto (s : State) (p : Nat) (f : StoPair → StoPair) : Safed s (s.modPairSto p f) := modIsl s _

theorem axisSafeEntry (s : State) : Safed s (axisSafeEntry s) := by
  refine foldl (fun s n => ?_) _ s
  extract_lets s₁ s₂ t
  have faulted : AxesMoved s s₂ ∧ StaysSafe s s₂ := by
    have advanced : AxesMoved s s₁ ∧ StaysSafe s s₁ :=
      ⟨(AxesMoved.axisAdvance s n).trans (AxesMoved.axisUndoStart _ n), (StaysSafe.axisAdvance s n).trans (StaysSafe.modCh _ n _)⟩
    simp only [s₂]
    split
    · exact ⟨advanced.1.trans (AxesMoved.axisFault s₁ n 4), advanced.2.trans (StaysSafe.axisFault s₁ n 4)⟩
    · exact advanced
  exact of_axes ((faulted.1.trans (AxesMoved.axisImmediate s₂ n)).trans (AxesMoved.modCh _ n _))
    ((faulted.2.trans (StaysSafe.axisImmediate s₂ n)).trans (StaysSafe.modCh _ n _))

theorem stoSwitched (s : State) (mask : Nat) : Safed s (s.stoSwitched mask) := by
  unfold State.stoSwitched
  split
  · exact refl s
  · extract_lets s₁
    have switched : Safed s s₁ := of_axes (AxesMoved.axisSto mask s) (StaysSafe.axisSto mask s)
    split
    · exact switched.trans (of_axes (.of_reacted (Reacted.enterSafe s₁ 1)) (StaysSafe.enterSafe s₁ 1))
    · exact switched

theorem pairSs1 (s : State) (p cause : Nat) : Safed s (s.pairSs1 p cause) := of_same rfl rfl rfl rfl rfl rfl

theorem pairOff (s : State) (p cause : Nat) : Safed s (s.pairOff p cause) := (modPairSto s p _).trans (foldl (fun s _ => modIsl s _) _ _)

theorem islandStop (s : State) (mask cause : Nat) (immediate : Bool) : Safed s (s.islandStop mask cause immediate) := by
  unfold State.islandStop
  extract_lets live off ramp s₁ s₂ s₃ s₄
  have counted : Safed s s₁ := by
    simp only [s₁]
    split
    · exact refl s
    · exact modIsl s _
  have stopped : Safed s s₄ := ((counted.trans (modIsl s₁ _)).trans (foldl (fun s p => pairSs1 s p cause) ramp s₂)).trans
    (foldl (fun s p => pairOff s p cause) off s₃)
  split
  · exact refl s
  · split
    · exact refl s
    · exact stopped.trans (stoSwitched s₄ _)

theorem islandMainSafe (s : State) : Safed s (islandMainSafe s) := by
  unfold Machine.islandMainSafe
  split
  · exact islandStop s 0xFF 5 false
  · exact islandStop s 0xFF 5 true
  · exact refl s

theorem coDown (s : State) (m : Nat) (msg : CoMsg) : Safed s (s.coDown m msg) := of_same rfl rfl rfl rfl rfl rfl

theorem coCancel (s : State) (c : Changeover) (refusal : Option (Nat × Nat)) : Safed s (s.coCancel c refusal) := by
  unfold State.coCancel
  extract_lets s₁ s₂
  have told : Safed s s₁ := by
    have sent : Safed s (s.distribute c false) := by
      unfold State.distribute
      extract_lets s₀
      exact trans (t := s₀) (of_same rfl rfl rfl rfl rfl rfl) (foldl (fun s m => coDown s m _) c.below s₀)
    exact sent.trans (of_axes (.of_reacted (Reacted.note _ _)) (StaysSafe.note _ _))
  have answered : Safed s₁ s₂ := by
    simp only [s₂]
    split
    · exact of_replied (State.answer_replied s₁ _ _ _ _)
    · exact refl s₁
  exact (told.trans answered).trans (of_same rfl rfl rfl rfl rfl rfl)

theorem coSafe (s : State) : Safed s (coSafe s) := by
  unfold Machine.coSafe
  split
  · split
    · exact refl s
    · extract_lets r
      split
      · exact coCancel s _ _
      · exact of_same rfl rfl rfl rfl rfl rfl
  · exact refl s

theorem rechoose (s : State) : Safed s (rechoose s) := by
  refine foldl (fun s d => ?_) _ s
  extract_lets p
  unfold retarget
  extract_lets m
  split
  · exact refl s
  · split
    · exact refl s
    · split
      · exact of_same rfl rfl rfl rfl rfl rfl
      · split
        · exact refl s
        · exact of_same rfl rfl rfl rfl rfl rfl

theorem finishWake (s : State) : Safed s (finishWake s) := fun hs => by
  unfold Machine.finishWake
  rw [if_neg fun h => Mode.noConfusion (hs.symm.trans h.2.1), if_pos (by rw [hs]; decide)]
  exact ⟨hs, rfl, rfl, rfl, rfl, fun hg => ⟨rfl, hg⟩⟩

theorem grazeToSafe (s : State) : Safed s (grazeToSafe s) := by
  unfold Machine.grazeToSafe grazeExit
  split
  · have left : Safed s (s.modPwr fun p => { p with wakeCause := 6, waking := true, exitQueued := none }) :=
      of_same rfl rfl rfl rfl rfl rfl
    exact ((left.trans (of_axes (.of_reacted (Reacted.note _ _)) (StaysSafe.note _ _))).trans (rechoose _)).trans (finishWake _)
  · exact refl s

theorem settleGraze (s : State) : Safed s (settleGraze s) := by
  unfold Machine.settleGraze
  split
  · next h =>
    intro hs
    have captured : Captured (canUngraze (s.modPwr fun p => { p with inGraze := false }))
        (acqUnpause (canUngraze (s.modPwr fun p => { p with inGraze := false }))) :=
      Captured.foldl (f := fun s (e : Nat × Capture) => s.skipIntervals e.1 3) (fun s e => Captured.skipIntervals s e.1 3) _ _
    have fresh := LoopTook.foldl (f := fun s c => s.modLoopCh c fun k => { k with fresh := true, released := none })
      (fun s c => LoopTook.modLoopCh s c _) (enabledLoops (acqUnpause (canUngraze (s.modPwr fun p => { p with inGraze := false }))))
      (acqUnpause (canUngraze (s.modPwr fun p => { p with inGraze := false })))
    obtain ⟨m, k, l, o, x, d, shape⟩ := fresh.frame
    unfold Captured at captured
    unfold loopsFresh
    rw [shape, captured]
    exact ⟨hs, rfl, rfl, rfl, rfl, fun hg => absurd (h.1.symm.trans hg) Bool.noConfusion⟩
  · exact refl s

end Safed

/-- R34: what follows once the substitute values stand. -/
theorem safeActed (s : State) : Safed s (settleGraze (grazeToSafe (coSafe (if (axisSafeEntry s).dev.safeCause = 1 then axisSafeEntry s
    else islandMainSafe (axisSafeEntry s))))) := by
  have island (v : State) : Safed v (if v.dev.safeCause = 1 then v else islandMainSafe v) := by
    split
    · exact Safed.refl v
    · exact Safed.islandMainSafe v
  exact ((((Safed.axisSafeEntry s).trans (island _)).trans (Safed.coSafe _)).trans (Safed.grazeToSafe _)).trans (Safed.settleGraze _)

theorem setSubstitute_spec (s : State) : (setSubstitute true s).dev = s.dev ∧ (setSubstitute true s).dio.substitute = true ∧
    (setSubstitute true s).cyc = s.cyc ∧ (setSubstitute true s).graph = s.graph ∧ (setSubstitute true s).pwr = s.pwr ∧
    (setSubstitute true s).mem = s.mem := ⟨rfl, rfl, rfl, rfl, rfl, rfl⟩

theorem safeEntry_spec (hdue : s.dev.safeEntryDue = true) (hmode : s.dev.mode = .safe) :
    (safeEntry s).dev.safeEntryDue = false ∧ (safeEntry s).dev.mode = .safe ∧ (safeEntry s).dio.substitute = true ∧
    (safeEntry s).cyc.committedNow = false ∧ (safeEntry s).graph.inForce = [] ∧ (s.pwr.inGraze = false → (safeEntry s).mem = s.mem) := by
  unfold safeEntry
  rw [if_neg (by simp [hdue])]
  extract_lets s₁ s₂ s₃ s₄
  obtain ⟨hdev, hsubst, hcyc, hgraph, hpwr, hmem⟩ := setSubstitute_spec s₃
  have kept := safeActed (setSubstitute true s₃) (by rw [hdev]; exact hmode)
  refine ⟨kept.due.trans ?_, kept.safe, kept.substitute.trans hsubst, kept.committed.trans ?_, kept.inForce.trans ?_,
    fun hg => (kept.mem ?_).1.trans hmem⟩
  · rw [hdev]
    rfl
  · rw [hcyc]
    rfl
  · rw [hgraph]
    rfl
  · rw [hpwr]
    exact hg

end Sys2Proof.Machine
end
section
/-! The input-ready point (04 R137, R160, R163). -/

namespace Sys2Proof.Machine

variable {s t u : State} {n k : Nat}

/-- Only what the scheduler holds has changed. -/
def Scheduled (s t : State) : Prop := t = { s with sched := t.sched }

namespace Scheduled

theorem refl (s : State) : Scheduled s s := rfl

theorem trans (h : Scheduled s t) (h' : Scheduled t u) : Scheduled s u := by
  unfold Scheduled at h h' ⊢
  rw [h', h]

theorem modCore (s : State) (c : Nat) (f : Core → Core) : Scheduled s (s.modCore c f) := rfl

theorem fillSlot (c : Nat) (s : State) : Scheduled s (fillSlot c s) := by
  unfold Machine.fillSlot
  extract_lets q
  split
  · exact refl s
  · split
    · exact modCore s c _
    · exact refl s

theorem refill (s : State) (c : Nat) : Scheduled s (s.refill c) :=
  (((modCore s c _).trans (fillSlot c _)).trans (fillSlot c _)).trans (modCore _ c _)

theorem displace (s : State) (c : Nat) (r : Ready) : Scheduled s (s.displace c r) := by
  unfold State.displace
  extract_lets q worst
  clear_value worst
  cases worst with
  | none => exact refl s
  | some w =>
    dsimp only
    split
    · exact modCore s c _
    · exact refl s

theorem makeReady {op : Nat} (h : makeReady n op s = some t) : Scheduled s t := by
  unfold Machine.makeReady at h
  dsimp only at h
  split at h
  · exact absurd h (by simp)
  · split at h
    · exact absurd h (by simp)
    · rw [Option.some.injEq] at h
      rw [← h]
      exact (((modCore s _ _).trans (modCore _ _ _)).trans (displace _ _ _)).trans (refill _ _)

end Scheduled

/-- Only the scheduler and the slots of the programs have changed. -/
def Programmed (s t : State) : Prop := t = { s with sched := t.sched, graph := { s.graph with slots := t.graph.slots } }

theorem Programmed.trans (h : Programmed s t) (h' : Programmed t u) : Programmed s u := by
  unfold Programmed at h h' ⊢
  rw [h', h]

theorem Programmed.devCycle (h : Programmed s t) : devCycle t = devCycle s := by
  unfold Programmed at h
  rw [h]
  rfl

/-- Of the programs only slot `n` has gone on, and its execution, if it has one, is still that of its cycle; else only the scheduler has changed. -/
structure Fed (n : Nat) (s t : State) : Prop where
  frame : Programmed s t
  other : ∀ m, m ≠ n → slotOf t m = slotOf s m
  wf : Tab.wf {} s.graph.slots → Tab.wf {} t.graph.slots
  tag : Tab.wf {} s.graph.slots → ∀ x, (slotOf s n).exec = some x → ∃ y, (slotOf t n).exec = some y ∧ y.tag = x.tag

theorem slotOf_modSlot_self (f : GSlot → GSlot) (hwf : Tab.wf {} s.graph.slots) : slotOf (s.modSlot n f) n = f (slotOf s n) := by
  have h := look_upd (d := ({} : GSlot)) f n n hwf
  rwa [if_pos rfl] at h

namespace Fed

theorem of_scheduled (h : Scheduled s t) : Fed n s t := by
  unfold Scheduled at h
  rw [h]
  exact ⟨rfl, fun _ _ => rfl, fun hwf => hwf, fun _ x hx => ⟨x, hx, rfl⟩⟩

theorem refl (s : State) : Fed n s s := of_scheduled (.refl s)

theorem trans (h : Fed n s t) (h' : Fed n t u) : Fed n s u where
  frame := h.frame.trans h'.frame
  other m hm := (h'.other m hm).trans (h.other m hm)
  wf hwf := h'.wf (h.wf hwf)
  tag hwf x hx := by
    obtain ⟨y, hy, hxy⟩ := h.tag hwf x hx
    obtain ⟨z, hz, hyz⟩ := h'.tag (h.wf hwf) y hy
    exact ⟨z, hz, hyz.trans hxy⟩

theorem foldl {α : Type} {f : State → α → State} (hf : ∀ s a, Fed n s (f s a)) : ∀ (l : List α) (s : State), Fed n s (l.foldl f s)
  | [], s => refl s
  | a :: l, s => (hf s a).trans (foldl hf l (f s a))

theorem modSlot (s : State) {f : GSlot → GSlot} (hf : ∀ q x, q.exec = some x → ∃ y, (f q).exec = some y ∧ y.tag = x.tag) :
    Fed n s (s.modSlot n f) where
  frame := rfl
  other _ hm := look_put_other _ _ hm
  wf hwf := upd_wf n f hwf
  tag hwf x hx := by
    rw [slotOf_modSlot_self f hwf]
    exact hf _ x hx

theorem modExec (s : State) {f : Exec → Exec} (hf : ∀ x, (f x).tag = x.tag) : Fed n s (s.modExec n f) :=
  modSlot s fun q x hx => ⟨f x, by simp [hx], hf x⟩

theorem drainSources (s : State) : Fed n s (s.drainSources n) := by
  unfold State.drainSources
  split
  · exact refl s
  · refine foldl (fun s i => ?_) _ s
    split
    · next t ready => exact (of_scheduled (.makeReady ready)).trans (modExec t fun _ => rfl)
    · exact refl s

theorem releaseSources (s : State) : Fed n s (s.releaseSources n) := by
  unfold State.releaseSources
  extract_lets a
  refine trans ?_ (drainSources _)
  exact modExec s fun _ => rfl

end Fed

theorem beginExec_spec (s : State) (n : Nat) (hexec : (slotOf s n).exec = none) : Fed n s (s.beginExec n) ∧
    (Tab.wf {} s.graph.slots → ∃ x, (slotOf (s.beginExec n) n).exec = some x ∧ x.tag = devCycle s) := by
  unfold State.beginExec
  extract_lets a p k s₁ x
  have counted : Fed n s s₁ := Fed.modSlot s fun q x hx => ⟨x, hx, rfl⟩
  refine ⟨⟨rfl, fun m hm => (look_put_other _ _ hm).trans (counted.other m hm), fun hwf => modSlot_wf (counted.wf hwf), fun _ x hx => ?_⟩,
    fun hwf => ⟨x, ?_, rfl⟩⟩
  · rw [hexec] at hx
    cases hx
  · rw [slotOf_modSlot_self _ (counted.wf hwf)]

/-- R137: a period begins an execution of the present cycle, or is skipped while one is in progress. -/
theorem period_spec (s : State) (n : Nat) : Fed n s (s.period n) ∧
    (Tab.wf {} s.graph.slots → (slotOf s n).exec = none → ∃ x, (slotOf (s.period n) n).exec = some x ∧ x.tag = devCycle s) := by
  unfold State.period
  cases hexec : (slotOf s n).exec with
  | some x =>
    rw [if_neg (by simp)]
    refine ⟨Fed.trans (t := s.modSlotSched n fun k => { k with skipped := sat32 k.skipped }) (.of_scheduled rfl)
      (Fed.modSlot _ fun q x hx => ⟨x, hx, rfl⟩),
      fun _ h => ?_⟩
    cases h
  | none =>
    rw [if_pos (show (none : Option Exec).isNone = true from rfl)]
    obtain ⟨begun, own⟩ := beginExec_spec s n hexec
    have released := Fed.releaseSources (n := n) (s.beginExec n)
    refine ⟨begun.trans released, fun hwf _ => ?_⟩
    obtain ⟨x, hx, htag⟩ := own hwf
    obtain ⟨y, hy, hxy⟩ := released.tag (begun.wf hwf) x hx
    exact ⟨y, hy, hxy.trans htag⟩

/-- What the periods that are due do, and to which slots. -/
structure Periods (l : List Nat) (s t : State) : Prop where
  frame : Programmed s t
  other : ∀ n, n ∉ l → slotOf t n = slotOf s n
  begun : Tab.wf {} s.graph.slots → ∀ n ∈ l, (slotOf s n).exec = none → ∃ x, (slotOf t n).exec = some x ∧ x.tag = devCycle s
  tag : Tab.wf {} s.graph.slots → ∀ n x, (slotOf s n).exec = some x → ∃ y, (slotOf t n).exec = some y ∧ y.tag = x.tag

theorem periods_spec (l : List Nat) : ∀ s : State, Periods l s (l.foldl State.period s) := by
  induction l with
  | nil => exact fun s => ⟨rfl, fun _ _ => rfl, fun _ _ hn => absurd hn List.not_mem_nil, fun _ _ x hx => ⟨x, hx, rfl⟩⟩
  | cons m l ih =>
    intro s
    obtain ⟨fed, own⟩ := period_spec s m
    have rest := ih (s.period m)
    have tag (hwf : Tab.wf {} s.graph.slots) (n : Nat) (x : Exec) (hx : (slotOf s n).exec = some x) :
        ∃ y, (slotOf (s.period m) n).exec = some y ∧ y.tag = x.tag := by
      by_cases hnm : n = m
      · subst hnm
        exact fed.tag hwf x hx
      · rw [fed.other n hnm]
        exact ⟨x, hx, rfl⟩
    refine ⟨?_, fun n hn => ?_, fun hwf n hn hnone => ?_, fun hwf n x hx => ?_⟩
    · exact fed.frame.trans rest.frame
    · exact (rest.other n fun h => hn (List.mem_cons_of_mem m h)).trans (fed.other n fun h => hn (h ▸ List.mem_cons_self))
    · by_cases hnm : n = m
      · subst hnm
        obtain ⟨x, hx, htag⟩ := own hwf hnone
        obtain ⟨y, hy, hxy⟩ := rest.tag (fed.wf hwf) n x hx
        exact ⟨y, hy, hxy.trans htag⟩
      · obtain ⟨x, hx, htag⟩ := rest.begun (fed.wf hwf) n ((List.mem_cons.mp hn).resolve_left hnm) (by rw [fed.other n hnm]; exact hnone)
        exact ⟨x, hx, htag.trans fed.frame.devCycle⟩
    · obtain ⟨y, hy, hxy⟩ := tag hwf n x hx
      obtain ⟨z, hz, hyz⟩ := rest.tag (fed.wf hwf) n y hy
      exact ⟨z, hz, hyz.trans hxy⟩

/-- No execution waits for an input-ready point that has passed. -/
theorem releaseLate_none (hreleased : ∀ n x r, n < 4 → (slotOf s n).exec = some x → x.release = some r → s.clock < r) : releaseLate s = s := by
  unfold releaseLate
  rw [List.filter_eq_nil_iff.mpr]
  · rfl
  · intro n hn
    split
    · next x hx =>
      split
      · next r hr =>
        have := hreleased n x r (List.mem_range.mp hn) hx hr
        simp only [decide_eq_true_eq]
        omega
      · exact Bool.false_ne_true
    · exact Bool.false_ne_true

theorem varWrites_none (h : s.host.deferred = []) : varWrites s = s := by
  unfold varWrites
  extract_lets f sel s₁
  have none : sel = [] := by simp only [sel, h, List.filter_nil]
  have same : s₁ = s := by
    simp only [s₁, State.modHost, h, List.filter_nil]
    rw [← h]
  rw [none, same]
  rfl

/-- The device at the input-ready point of cycle `k`. -/
def State.ready (s : State) (k : Nat) : State := s.modGraph fun g => { g with readyCycle := some k }

/-- R137: at the input-ready point of a cycle with no command waiting and no step going, the periods that are due begin. -/
theorem inputReady_due (hcycle : hasCycle s = true) (hnew : s.graph.readyCycle ≠ some (devCycle s)) (hpast : inputReadyClock s ≤ s.clock)
    (hq : s.host.deferred = []) (hsteps : ∀ n, n < 4 → (slotOf s n).stepping = none)
    (hreleased : ∀ n x r, n < 4 → (slotOf s n).exec = some x → x.release = some r → s.clock < r) :
    inputReady s = if s.cyc.commitOf = some (s.clock / clocksOfUs (max 1 (lDev s))) then s.ready (devCycle s)
      else ((List.range 4).filter fun n => periodDue (s.ready (devCycle s)) n (devCycle s)).foldl State.period (s.ready (devCycle s)) := by
  unfold inputReady
  extract_lets k s₁ s₂ s₃
  have late : s₁ = s := releaseLate_none hreleased
  have first : s₂ = s.ready (devCycle s) := by
    simp only [s₂, late]
    exact varWrites_none (s := s.ready (devCycle s)) hq
  have steps : s₃ = s.ready (devCycle s) := by
    simp only [s₃, first]
    rw [List.filter_eq_nil_iff.mpr]
    · rfl
    · intro n hn
      have none : (slotOf (s.ready (devCycle s)) n).stepping = none := hsteps n (List.mem_range.mp hn)
      rw [none]
      exact Bool.false_ne_true
  rw [late, steps, if_neg]
  · rfl
  · rintro (h | h | h)
    · exact h hcycle
    · exact hnew h
    · omega

theorem inputReady_passed (hreleased : ∀ n x r, n < 4 → (slotOf s n).exec = some x → x.release = some r → s.clock < r)
    (h : hasCycle s = false ∨ s.graph.readyCycle = some (devCycle s) ∨ s.clock < inputReadyClock s) : inputReady s = s := by
  unfold inputReady
  extract_lets k s₁ s₂ s₃
  have late : s₁ = s := releaseLate_none hreleased
  rw [late, if_pos]
  rcases h with h | h | h
  · exact .inl (by simp [h])
  · exact .inr (.inl h)
  · exact .inr (.inr h)

end Sys2Proof.Machine
end
section
/-! The instants of the control cycle, put together (01 R13–R34). -/

namespace Sys2Proof.Machine

variable {s u : State} {n : Nat}

theorem cycleStart_begun (h : s.cyc.startOf = some (cycleTick s)) : cycleStart s = s := if_pos (.inr (.inl h))

theorem inputInstant_taken (h : s.cyc.inputOf = some (cycleTick s)) : inputInstant s = s := if_pos (.inr (.inr (.inr (.inl h))))

theorem safeEntry_idle (h : s.dev.safeEntryDue = false) : safeEntry s = s := if_pos (by simp [h])

/-- R26, R27: a committed image goes out at the output instant. -/
theorem outputInstant_commits (hrun : s.boot.phase = .running) (hcycle : hasCycle s = true) (hlen : lDev s ≠ 0) (hmode : s.dev.mode = .run)
    (hnew : s.cyc.outputOf ≠ some (cycleTick s)) (hlogic : s.boot.holdingOutputs = false) (hnow : s.cyc.committedNow = true)
    (hcommit : s.cyc.commit = .committing ∨ s.cyc.commit = .holding) :
    (outputInstant s).cyc.commit = .committing ∧ (outputInstant s).cyc.miss = 0 ∧ (outputInstant s).cyc.committedNow = false ∧
    (outputInstant s).cyc.firstCommitted = true ∧ (outputInstant s).graph.inForce = s.graph.image.values ∧
    (outputInstant s).cyc.misses = s.cyc.misses := by
  have told := (outputInstant_run hrun hcycle hlen hmode hnew hlogic).applied
  obtain ⟨hcyc, hforce⟩ := committedInstant_spec (s := s.outputting (cycleTick s))
    ((devCycle s + 2 ^ 32 - cycleStep (s.outputting (cycleTick s))) % 2 ^ 32) hcommit
  have now : instantOf (devCycle s) (s.outputting (cycleTick s)) =
      committedInstant ((devCycle s + 2 ^ 32 - cycleStep (s.outputting (cycleTick s))) % 2 ^ 32) (s.outputting (cycleTick s)) := if_pos hnow
  rw [told.cyc, told.graph, now, hcyc, hforce]
  exact ⟨rfl, rfl, rfl, rfl, rfl, rfl⟩

theorem instantOf_missed (hnow : s.cyc.committedNow = false) (hentered : s.cyc.enteredAt ≠ some (devCycle s)) :
    instantOf (devCycle s) (s.outputting n) = missedInstant axisSubstitute (s.outputting n) := by
  unfold instantOf
  rw [if_neg, if_neg]
  · exact hentered
  · exact fun h => Bool.false_ne_true (hnow.symm.trans h)

theorem outputInstant_holds (hrun : s.boot.phase = .running) (hcycle : hasCycle s = true) (hlen : lDev s ≠ 0) (hmode : s.dev.mode = .run)
    (hnew : s.cyc.outputOf ≠ some (cycleTick s)) (hlogic : s.boot.holdingOutputs = false) (hnow : s.cyc.committedNow = false)
    (hentered : s.cyc.enteredAt ≠ some (devCycle s)) (hcommit : s.cyc.commit = .committing) (hbudget : s.cyc.miss + 1 ≤ s.cyc.holdBudget) :
    (outputInstant s).cyc.commit = (if s.cyc.firstCommitted then .holding else .committing) ∧
    (outputInstant s).cyc.miss = min 31 (s.cyc.miss + 1) ∧ (outputInstant s).cyc.misses = sat32 s.cyc.misses ∧
    (outputInstant s).graph.inForce = s.graph.inForce ∧ (outputInstant s).dio = s.dio ∧ (outputInstant s).dev = s.dev := by
  have told := outputInstant_run hrun hcycle hlen hmode hnew hlogic
  rw [instantOf_missed hnow hentered] at told
  have all := (missedInstant_holds (stop := axisSubstitute) (s := s.outputting (cycleTick s)) hcommit hbudget).trans told
  rw [all.applied.cyc, all.applied.graph, all.dio, all.dev]
  exact ⟨rfl, rfl, rfl, rfl, rfl, rfl⟩

theorem outputInstant_substitutes (hrun : s.boot.phase = .running) (hcycle : hasCycle s = true) (hlen : lDev s ≠ 0) (hmode : s.dev.mode = .run)
    (hnew : s.cyc.outputOf ≠ some (cycleTick s)) (hlogic : s.boot.holdingOutputs = false) (hnow : s.cyc.committedNow = false)
    (hentered : s.cyc.enteredAt ≠ some (devCycle s)) (hcommit : s.cyc.commit = .committing ∨ s.cyc.commit = .holding)
    (hbudget : s.cyc.holdBudget ≤ s.cyc.miss) (hmax : s.cyc.holdBudget < 31) :
    (outputInstant s).cyc.commit = .substitute ∧ (outputInstant s).cyc.substEntries = sat32 s.cyc.substEntries ∧
    (outputInstant s).dio.substitute = true := by
  have told := outputInstant_run hrun hcycle hlen hmode hnew hlogic
  rw [instantOf_missed hnow hentered] at told
  rw [told.applied.cyc, told.dio]
  exact missedInstant_substitutes (s := s.outputting (cycleTick s)) hcommit hbudget hmax

/-- R137: the slots after the input-ready point of a cycle with no command waiting and no step going. -/
theorem inputReady_spec (hcycle : hasCycle s = true) (hnew : s.graph.readyCycle ≠ some (devCycle s)) (hpast : inputReadyClock s ≤ s.clock)
    (hq : s.host.deferred = []) (hsteps : ∀ n, n < 4 → (slotOf s n).stepping = none)
    (hreleased : ∀ n x r, n < 4 → (slotOf s n).exec = some x → x.release = some r → s.clock < r) :
    (inputReady s).graph.readyCycle = some (devCycle s) ∧ (inputReady s).dev = s.dev ∧ (inputReady s).cyc = s.cyc ∧
    (∀ n, n < 4 → periodDue (s.ready (devCycle s)) n (devCycle s) = false ∨
      s.cyc.commitOf = some (s.clock / clocksOfUs (max 1 (lDev s))) → slotOf (inputReady s) n = slotOf s n) ∧
    (∀ n, n < 4 → Tab.wf {} s.graph.slots → periodDue (s.ready (devCycle s)) n (devCycle s) = true →
      s.cyc.commitOf ≠ some (s.clock / clocksOfUs (max 1 (lDev s))) → (slotOf s n).exec = none →
      ∃ x, (slotOf (inputReady s) n).exec = some x ∧ x.tag = devCycle s) ∧ (inputReady s).mem = s.mem := by
  rw [inputReady_due hcycle hnew hpast hq hsteps hreleased]
  split
  · next hlate => exact ⟨rfl, rfl, rfl, fun _ _ _ => rfl, fun _ _ _ _ hc => absurd hlate hc, rfl⟩
  · next hlate =>
    have periods := periods_spec ((List.range 4).filter fun n => periodDue (s.ready (devCycle s)) n (devCycle s)) (s.ready (devCycle s))
    generalize ((List.range 4).filter fun n => periodDue (s.ready (devCycle s)) n (devCycle s)).foldl State.period (s.ready (devCycle s)) = w
      at periods ⊢
    have frame := periods.frame
    unfold Programmed at frame
    refine ⟨by rw [frame]; rfl, by rw [frame]; rfl, by rw [frame]; rfl, fun n hn hidle => ?_, fun n hn hwf hdue _ hexec => ?_, by rw [frame]; rfl⟩
    · refine periods.other n fun hmem => ?_
      have hdue := (List.mem_filter.mp hmem).2
      rw [hidle.resolve_right hlate] at hdue
      cases hdue
    · exact periods.begun hwf n (List.mem_filter.mpr ⟨List.mem_range.mpr hn, hdue⟩) hexec

/-- Settles O41: each instant of the cycle by its frame. -/
theorem controlCycle : Obligations.ControlCycle := by
  unfold Obligations.ControlCycle
  refine ⟨fun t s u hu => ?_, fun t s u hu hsteps hreleased => ?_⟩
  · subst hu
    have next (f : State → State) : event true t f s = .next (f (s.at t)) := event_of rfl t f s
    refine ⟨fun hrun hnew hlen => ?_, fun h => ?_, fun d hrun hnew hlen hup hdown hcycle hco hmode hstop hq hop hw => ?_,
      fun n hrun hcycle hmode hn hnew hpast => ?_, fun h => ?_,
      fun n k hrun hcycle hmode hn hk hnew hpast hup hrole hlate hready hleaves hresolved hresumed hout hlayer => ?_,
      fun n hrun hcycle hmode hn hnew hpast => ?_, fun hrun hcycle hlen hmode hnew hlogic hnow hcommit => ?_,
      fun hrun hcycle hlen hmode hnew hlogic hnow hentered hcommit hbudget => ?_,
      fun hrun hcycle hlen hmode hnew hlogic hnow hentered hcommit hbudget hmax => ?_, fun h => ?_, fun hdue hmode => ?_⟩
    · exact ⟨_, next cycleStart, cycleStart_spec hrun hnew hlen⟩
    · exact (next cycleStart).trans (congrArg _ (cycleStart_begun h))
    · obtain ⟨v, begun, aside⟩ := cycleStart_run hrun hnew hlen hup hdown hcycle hco hmode hstop hq hop hw
      refine ⟨_, next cycleStart, ?_⟩
      rw [aside.dev, aside.cyc]
      exact ⟨begun.mode, begun.request, begun.commit, begun.miss, begun.misses, begun.first⟩
    · subst hn
      exact ⟨_, next inputInstant, inputInstant_spec hrun hcycle hmode hnew hpast⟩
    · exact (next inputInstant).trans (congrArg _ (inputInstant_taken h))
    · subst hn hk
      exact ⟨_, next commitPoint, commitPoint_run hrun hcycle hmode hnew hpast hup hrole hlate hready hleaves hresolved hresumed hout hlayer⟩
    · subst hn
      exact ⟨_, next commitPoint, commitPoint_ready hrun hcycle hmode hnew hpast⟩
    · exact ⟨_, next outputInstant, outputInstant_commits hrun hcycle hlen hmode hnew hlogic hnow hcommit⟩
    · exact ⟨_, next outputInstant, outputInstant_holds hrun hcycle hlen hmode hnew hlogic hnow hentered hcommit hbudget⟩
    · exact ⟨_, next outputInstant, outputInstant_substitutes hrun hcycle hlen hmode hnew hlogic hnow hentered hcommit hbudget hmax⟩
    · exact (next safeEntry).trans (congrArg _ (safeEntry_idle h))
    · exact ⟨_, next safeEntry, safeEntry_spec hdue hmode⟩
  · subst hu
    have next : exec (.inputReady t) s = .next (inputReady (s.at t)) := event_of rfl t _ s
    refine ⟨fun h => next.trans (congrArg _ (inputReady_passed hreleased h)), fun hcycle hnew hpast hq => ⟨_, next, ?_⟩⟩
    obtain ⟨hready, hdev, hcyc, hother, hbegun, hmem⟩ := inputReady_spec hcycle hnew hpast hq hsteps hreleased
    exact ⟨hready, hdev, hcyc, hother, hbegun, fun _ => hmem⟩

end Sys2Proof.Machine
end
